-- ==== Sys2Proof/Word.lean ====
section
/-! DEFINITION. The word types of the model: the byte, the 32-bit register word, the 64-bit and 128-bit
words of descriptors, addresses and digests, and the plainest arithmetic on them. -/
namespace Sys2Proof

/-- One byte of memory. -/
abbrev Byte := BitVec 8

/-- One register of the register space (R14). -/
abbrev Word := BitVec 32

/-- A global address, a descriptor word, a tick or an epoch number (R12, R13). -/
abbrev DWord := BitVec 64

/-- A digest, a key half or a MAC value of 16 bytes. -/
abbrev QWord := BitVec 128

/-- Bits [hi:lo] of a number (R7). -/
def bitsOf (v hi lo : Nat) : Nat := v / 2 ^ lo % 2 ^ (hi + 1 - lo)

/-- Bit `n` of a number. -/
def bitAt (v n : Nat) : Bool := v / 2 ^ n % 2 == 1

/-- A flag as a number. -/
def bool01 (b : Bool) : Nat := if b then 1 else 0

/-- `n` bytes of a number, least significant first (R8). -/
def bytesLE : Nat → Nat → List Byte
  | 0, _ => []
  | n + 1, v => BitVec.ofNat 8 v :: bytesLE n (v / 256)

/-- The number that bytes spell, least significant first (R8). -/
def natLE : List Byte → Nat
  | [] => 0
  | b :: t => b.toNat + 256 * natLE t

/-- The two's-complement value of the low `w` bits of a number. -/
def signedOf (w v : Nat) : Int :=
  let u := v % 2 ^ w
  if u < 2 ^ (w - 1) then (u : Int) else (u : Int) - (2 ^ w : Nat)

/-- The low `w` bits of an integer in two's complement. -/
def unsignedOf (w : Nat) (v : Int) : Nat := (v % ((2 ^ w : Nat) : Int)).toNat

end Sys2Proof
end

