-- ==== Sys2Proof/Machine/Types.lean ====
section
/-! DEFINITION. The operand types of the commands: masters, descriptors, flits, messages and the
observations that a tick edge brings from the analogue and physical parts. -/
namespace Sys2Proof.Machine

/-- Who sends a register or BAR4 access (R15, R518). -/
inductive Master where
  | host | mgmt | fw
  deriving DecidableEq, Repr

/-- The owner code of PAGE_SEM (Table 18.10). -/
def Master.code : Master → Nat
  | .host => 1
  | .mgmt => 2
  | .fw => 3

/-- A 64-byte descriptor as the prefetch delivers it to the sequencer (R87, Table 4.1), without the OPCODE, which the
command's row names. `subop` is read only by rows that leave SUBOP open; `rsvd` is what the reserved bits of
word 0 hold. -/
structure Desc where
  opcode : Nat := 0
  subop : Nat := 0
  context : Nat := 0
  ser : Bool := false
  bypass : Bool := false
  open_ : Bool := false
  win : Bool := false
  rsvd : Nat := 0
  refD : DWord := 0
  refA : DWord := 0
  refB : DWord := 0
  refC : DWord := 0
  imm0 : DWord := 0
  imm1 : DWord := 0
  imm2 : DWord := 0
  deriving DecidableEq, Repr, Inhabited

/-- A tensor as R98 addresses it: format code, base address, extents, effective origins and strides. -/
structure Tens where
  code : Nat := 0
  base : Nat := 0
  e0 : Nat := 1
  e1 : Nat := 1
  e2 : Nat := 1
  e3 : Nat := 1
  o0 : Int := 0
  o1 : Int := 0
  o2 : Int := 0
  o3 : Int := 0
  s1 : Int := 0
  s2 : Int := 0
  s3 : Int := 0
  deriving DecidableEq, Repr, Inhabited

/-- A reference as its descriptor uses it. -/
structure Tref where
  t : Tens := {}
  sc : Option Tens := none
  fmt : Nat := 0
  kax : Nat := 0
  tid : Nat := 0
  idx : Bool := false
  recs : List (Nat × Nat) := []
  /-- Effective origins on axes 1–3, which a window reads and does not apply (R119). -/
  org : Int × Int × Int := (0, 0, 0)
  deriving DecidableEq, Repr, Inhabited

/-! ### Flits (Tables 8.2 and 8.3) -/

/-- The header of a flit, TYPE and LEN apart, which the payload gives. -/
structure FlitHdr where
  dest : Nat := 0
  src : Nat := 0
  part : Nat := 0
  ctx : Nat := 0
  kp : Nat := 0
  gen : Nat := 0
  seq : Nat := 0
  next : Nat := 0
  /-- Credit class: 0 CTRL, 2 DATA, 3 BULK. -/
  cls : Nat := 0
  hops : Nat := 0
  det : Bool := false
  mgt : Bool := false
  vc : Nat := 0
  nctr : Nat := 0
  /-- The sending die, byte 10 of the IV (R239). -/
  die : Nat := 0
  deriving DecidableEq, Repr, Inhabited

/-- The collective header of R132, with the chunk offset, the segment and the sender's rank. `phase` is 1 for the scale
maxima of EXACT mode (R84) on their way to the owner, 3 for them on their way back, and 2 for results. -/
structure CollHdr where
  tag : Nat := 0
  kind : Nat := 0
  op : Nat := 0
  mode : Nat := 0
  fmtA : Nat := 0
  elems : Nat := 0
  n : Nat := 0
  base : Nat := 0
  rank : Nat := 0
  chunk : Nat := 0
  seg : Nat := 0
  phase : Nat := 0
  /-- The sender's absent set (R384). -/
  absent : List Nat := []
  deriving DecidableEq, Repr, Inhabited

/-- An entry of a YOYO (Table 12.4). -/
structure YoyoEntry where
  part : Nat := 0
  state : Nat := 0
  pend : Bool := false
  dpend : Bool := false
  conflict : Bool := false
  epoch : Nat := 0
  digest : Nat := 0
  deriving DecidableEq, Repr, Inhabited

/-- A YOYO (Table 12.4). -/
structure Yoyo where
  chip : Nat := 0
  bundle : Nat := 0
  tick : Nat := 0
  mark : Bool := false
  ack : Bool := false
  markPart : Nat := 0
  entries : List YoyoEntry := []
  deriving DecidableEq, Repr, Inhabited

/-- A TIME flit (Table 11.1); times are in 2^−16 ns of TAI. -/
structure TimeMsg where
  chip : Nat := 0
  port : Nat := 0
  lane : Nat := 0
  synced : Bool := false
  holdover : Bool := false
  root : Bool := false
  gmLocked : Bool := false
  hops : Nat := 0
  rootChip : Nat := 0
  rootPrio : Nat := 0
  tseq : Nat := 0
  origin : Nat := 0
  corr : Int := 0
  txTs : Nat := 0
  echoTs : Nat := 0
  echoRes : Nat := 0
  utcOfs : Int := 0
  leap : Nat := 0
  gmId : Nat := 0
  deriving DecidableEq, Repr, Inhabited

/-- A TRAIN flit (Table 8.5). -/
structure TrainMsg where
  chip : Nat := 0
  port : Nat := 0
  lane : Nat := 0
  cls : Nat := 0
  majors : Nat := 0
  minors : List Nat := []
  spare : Bool := false
  rxOk : Bool := false
  ts : Nat := 0
  echoTs : Nat := 0
  /-- Echo of the CHIP, PORT and LANE last received. -/
  echoChip : Nat := 0
  echoPort : Nat := 0
  echoLane : Nat := 0
  deriving DecidableEq, Repr, Inhabited

/-- A LANE_CTRL flit (Table 8.3): op 0 ADD, 1 REMOVE, 2 REPLACE, 3 ring notice, 4 RING_ALIGNED. -/
structure LaneCtl where
  op : Nat := 0
  bundle : Nat := 0
  port : Nat := 0
  lane : Nat := 0
  repl : Nat := 0
  eff : Nat := 0
  cause : Nat := 0
  deriving DecidableEq, Repr, Inhabited

/-- A request of the management transport inside a session (Table 18.7): READ and WRITE with their space, address and count, the end
of the session, KEEPALIVE. -/
inductive MgReq where
  | read (space addr n : Nat)
  | write (space addr : Nat) (data : List Byte)
  | close
  | keepalive
  deriving DecidableEq, Repr

/-- The header of a management frame that arrives (Table 18.6), its TYPE and LEN apart: the port that it enters by and its fields; and
the bytes of its datagram where they need not be those that its sender formed: the tag is then judged on them (R516). -/
structure MgHdr where
  port : Nat := 0
  local_ : Bool := true
  dest : Nat := 0
  session : Nat := 0
  seq : Nat := 0
  major : Nat := 1
  minor : Nat := 0
  e : Bool := false
  nctr : Nat := 0
  bytes : Option (List Byte) := none
  deriving DecidableEq, Repr, Inhabited

/-- What a response takes from its request (R513–R517): the port, the session, SEQ and TYPE, whether its payload is sealed, LOCAL and
DEST. -/
structure MgTo where
  port : Nat := 0
  session : Nat := 0
  seq : Nat := 0
  type : Nat := 0
  e : Bool := false
  local_ : Bool := true
  dest : Nat := 0
  deriving DecidableEq, Repr, Inhabited

/-- A response before it is sealed (Table 18.6): STATUS, SRC, the payload, and for E = 1 the key phase and the nonce counter. -/
structure MgRsp where
  rq : MgTo := {}
  status : Nat := 0
  src : Nat := 0
  data : List Byte := []
  kp : Nat := 0
  nctr : Nat := 0
  deriving DecidableEq, Repr, Inhabited

/-- What MGMT flits carry between devices (Table 18.6): line claims (Table 12.2), continuity messages with the fields of
Tables 13.3 and 14.1 in their order, and piece `k` of the `n` into which a relayed request or response is cut (R517). -/
inductive MgMsg where
  | line (op cause tag chip part plane input line : Nat)
  | cont (op part step : Nat) (f : List Nat) (data : List Byte)
  | piece (k n : Nat) (data : List Byte)
  deriving DecidableEq, Repr

/-- The payload of a flit, by TYPE (Table 8.3). -/
inductive Pay where
  | wr (addr : Nat) (data : List Byte)
  | rdReq (addr bytes tag : Nat)
  | rdRsp (tag status : Nat) (data : List Byte)
  | sig (addr value : Nat) (write : Bool)
  | ackE2e (tag status : Nat)
  | collData (h : CollHdr) (data : List Byte)
  | collCredit (tag rank credits : Nat)
  | collAbort (tag cause : Nat) (absent : List Nat)
  | mgmt (m : MgMsg)
  | resume (bundle seq : Nat) (reply : Bool)
  | credit (credits : List Nat)
  | yoyo (y : Yoyo)
  | laneCtrl (c : LaneCtl)
  | idle
  | ack (entries : List (Nat × Nat))
  | nak (entries : List (Nat × Nat))
  | heartbeat (chip port lane bundle tick seq : Nat)
  | time (t : TimeMsg)
  | train (t : TrainMsg)
  deriving DecidableEq, Repr

/-- A flit: header and payload, as it stands before encryption (R238), and the 256 bytes with which it came where they are known:
none of a flit that this device forms, or that came as its sender formed it. -/
structure Flit where
  h : FlitHdr := {}
  p : Pay := .idle
  raw : List Byte := []
  deriving DecidableEq, Repr

/-- How a flit arrives (R224, R229): whether the code corrected every codeword of it, and its 256 bytes where they need not be those
that its sender formed; CRC, TYPE and tag are then judged on them (R223, R225, R241). -/
structure RxObs where
  fec : Bool := true
  bytes : Option (List Byte) := none
  deriving DecidableEq, Repr, Inhabited

/-! ### Edesk memory -/

/-- Who reads or writes a line (Table 6.3): the host, a management request (what its response takes from it), one that a chip
relayed (that chip, session, SEQ and TYPE; R517), a descriptor of a core (logical core and in-flight identity), a running NMU command (its stack and identity), or a peer's operation (chip, partition, context, generation and
tag). -/
inductive Requester where
  | host
  | mgmt (rq : MgTo)
  | relay (chip session seq type : Nat)
  | core (lc id : Nat)
  | nmu (stack id : Nat)
  | peer (chip part ctx gen tag : Nat)
  deriving DecidableEq, Repr

/-- A symbol in error as the base die receives a line: the code word (the two sectors 0 and 1, the metadata word 2), the symbol in it
(the data bytes, then the check symbols) and the bits that differ (R169, R171). -/
structure SymErr where
  word : Nat := 0
  sym : Nat := 0
  bits : Nat := 1
  deriving DecidableEq, Repr, Inhabited

/-- What a read of a line receives: the symbols in error on the first read, and on the refetch (R174). -/
structure ReadObs where
  first : List SymErr := []
  again : List SymErr := []
  deriving DecidableEq, Repr, Inhabited

/-- What the checks of a unit find while a descriptor runs (R424, R425): nothing; a failure that the second attempt clears or
does not, on the engine named or in the vector unit; a word of tile or cluster memory corrected, or with two bits in
error once or twice. -/
inductive UnitCheck where
  | ok
  | transient (engine : Nat)
  | lasting (engine : Nat)
  | sramFixed
  | sramTransient
  | sramLasting
  deriving DecidableEq, Repr

/-! ### What the analogue parts measure -/

/-- A laser tap at an edge (R294): engine, laser, the power of each line in 0.01 dBm, its temperature and loop. -/
structure LaserObs where
  e : Nat := 0
  x : Nat := 0
  pwr : List Int := []
  temp : Nat := 0
  locked : Bool := true
  deriving DecidableEq, Repr, Inhabited

/-- A ring at an edge (R280): the latched error, the residual in 0.1 pm, whether its monitor power is present, and the
receive margin (Table 10.7). -/
structure RingObs where
  p : Nat := 0
  r : Nat := 0
  dir : Nat := 0
  err : Int := 0
  resid : Int := 0
  power : Bool := true
  margin : Int := 0
  deriving DecidableEq, Repr, Inhabited

/-- A lane over the tick that ends (R232, R302): symbols corrected, uncorrectable codewords, the eye width where it is
refreshed, and the symbols corrected in the last 1,024 ticks. -/
structure LaneObs where
  p : Nat := 0
  n : Nat := 0
  corr : Nat := 0
  unc : Nat := 0
  eye : Option Nat := none
  corr1024 : Nat := 0
  deriving DecidableEq, Repr, Inhabited

/-- The measurement of a pair by the calibration lock-ins (R283): offsets in codes and whether an error saturated. -/
structure CalMeas where
  p : Nat := 0
  r : Nat := 0
  offT : Int := 0
  offR : Int := 0
  sat : Bool := false
  deriving DecidableEq, Repr, Inhabited

/-- What a continuity instance that is not ACTIVE reports at edge +5 µs (R450): 0 Punch or 1 Judy, whether the report passes, the
failing slice, and whether it ends a full cycle. -/
structure HealthObs where
  inst : Nat := 0
  pass : Bool := true
  slice : Nat := 0
  cycle : Bool := false
  deriving DecidableEq, Repr, Inhabited

/-- A monitored port over the tick that ends (R150): the base of the page that owns it, its number in that page's selector, the bytes
that it moved, and the cycles in which it held a unit back, by class on the die network and the bridge. -/
structure PortObs where
  page : Nat := 0
  port : Nat := 0
  bytes : Nat := 0
  stalls : List Nat := []
  deriving DecidableEq, Repr, Inhabited

/-- An engine over the tick that ends (R155, R428): die, cluster, core and engine; bytes through its operand read port, cycles stalled, tiles completed, and
whether it made no progress without waiting. -/
structure EngObs where
  d : Nat := 0
  c : Nat := 0
  p : Nat := 0
  e : Nat := 0
  bytes : Nat := 0
  stall : Nat := 0
  tiles : Nat := 0
  hung : Bool := false
  deriving DecidableEq, Repr, Inhabited

/-- A core over the tick that ends (Table 5.6, R428): cycles stalled on slots, units, hazards and blocking descriptors, and whether its
sequencer failed to answer the probe. -/
structure CoreObs where
  d : Nat := 0
  c : Nat := 0
  p : Nat := 0
  slot : Nat := 0
  unit : Nat := 0
  hazard : Nat := 0
  block : Nat := 0
  dead : Bool := false
  deriving DecidableEq, Repr, Inhabited

/-- What a tick edge brings from the parts that the model does not follow: sensors, analogue loops, the cycles of the compute units,
the firmware processors and the input. -/
structure TickObs where
  lasers : List LaserObs := []
  rings : List RingObs := []
  /-- What calibration lock-ins have measured over the two ticks that end (R283). -/
  cals : List CalMeas := []
  lanes : List LaneObs := []
  /-- Temperatures of the optical engines, and of the sensors of Table 18.4, in 0.1 °C. -/
  engTemps : List (Nat × Int) := []
  temps : List (Nat × Int) := []
  /-- The sensor beside the copper serialisers (R300), in 0.1 °C. -/
  copperTemp : Option Int := none
  ports : List PortObs := []
  engs : List EngObs := []
  cores : List CoreObs := []
  /-- Stacks whose NMU made no datapath progress outside the waits of R428. -/
  nmuIdle : List Nat := []
  /-- Firmware processors that refreshed their watchdogs, and those that overran with the tasks skipped (R446, R447). -/
  fwFresh : List Nat := []
  fwOver : List (Nat × Nat) := []
  health : List HealthObs := []
  /-- The ACTIVE instance has finished its tasks by +9 µs (R451). -/
  record : Bool := true
  /-- Events lost at the intake of the Flip-book (R466). -/
  ovf : Nat := 0
  /-- Input voltage in mV, current in mA, power of the tick and its averages in W, coolant flow in 0.01 L/min, energy in J. -/
  vin : Nat := 0
  iin : Nat := 0
  pin : Nat := 0
  pin10 : Nat := 0
  pin1s : Nat := 0
  flow : Nat := 0
  joule : Nat := 0
  /-- Rails: number, mV and mA. -/
  rails : List (Nat × Nat × Nat) := []
  deriving DecidableEq, Repr, Inhabited

/-! ### Mailboxes, firmware images and tokens -/

/-- A mailbox request's header (Table 16.7). `lenOk` says that LEN lies in the opcode's range; `taken` that the target takes the
request up. -/
structure MHdr where
  major : Nat := 1
  minor : Nat := 0
  target : Nat := 0
  seq : Nat := 0
  irq : Bool := false
  vector : Nat := 0
  part : Nat := 0
  lenOk : Bool := true
  taken : Bool := true
  deriving DecidableEq, Repr, Inhabited

/-- What an image says of itself (R458, R478): class, version (patch, minor, major), security version, digest, the record version that
it writes, those it can read and write, and whether its certificate chain and signature verify. -/
structure ImgHdr where
  cls : Nat := 0
  version : Nat := 0
  svn : Nat := 0
  digest : Nat := 0
  writes : Nat := 0
  canRead : List Nat := []
  canWrite : List Nat := []
  chainOk : Bool := true
  sigOk : Bool := false
  deriving DecidableEq, Repr, Inhabited

/-- An authorisation token (R493); its CMD is what its row names. -/
structure Token where
  chip : Nat := 0
  boot : Nat := 0
  chal : List Byte := []
  arg : List Byte := []
  sig : List Byte := []
  deriving DecidableEq, Repr, Inhabited

/-! ### PTP (R323) -/

/-- What an Announce message says of its grandmaster: the data set that the BMCA compares, in its order (priority 1, class,
accuracy, variance, priority 2, identity, steps removed, sender), and UTC. -/
structure Announce where
  dataset : List Nat := []
  gmId : Nat := 0
  utcOfs : Int := 0
  leap : Nat := 0
  deriving DecidableEq, Repr, Inhabited

end Sys2Proof.Machine
end

