-- ==== Sys2Proof/Syntax.lean ====
section
/-! DEFINITION. The commands of the block: one constructor for each row of spec/opcode_table.json, with the row's
operands. Numbers of units, slots and table entries are natural numbers that `Instr.wf` bounds. -/
namespace Sys2Proof

open Sys2Proof.Machine

/-- A command of the block (the rows of the opcode table, in its order). -/
inductive Instr where
  /-- POWER_ON (R521): The blade mates or power returns, and the module brings itself up through the insertion steps, boot verification and memory initialisation. -/
  | powerOn
  /-- EDESK_INIT_DONE (R179): Each base die finishes writing every line with UNWRITTEN set, and READY is raised. -/
  | edeskInitDone
  /-- POWER_LOSS (R524): Input power is removed or the hot-swap controller opens, and all volatile state is lost. -/
  | powerLoss
  /-- INPUT_VOLTAGE_EXCURSION (R501): The input leaves 40–60 V: the module warns inside 36–62 V and opens the hot-swap controller beyond that for 100 µs. -/
  | inputVoltageExcursion (mv : Nat)
  /-- OVERCURRENT_TRIP (R505): The input current exceeds 75 A for 50 µs and the hot-swap controller opens. -/
  | overcurrentTrip
  /-- POWER_CAP_HOLD (R504): A sliding input-power average would pass its limit, so the issue of matrix and vector descriptors is held until it falls back. -/
  | powerCapHold (w10 : Nat) (w1s : Nat)
  /-- THERMAL_THROTTLE_CHANGE (R508): A sensor crosses its throttle point, which starts or ends a throttle episode. -/
  | thermalThrottleChange (k : Nat) (t : Int)
  /-- CAP_EFF_STEP (R508): Every 1,000 ticks while throttling or recovering, CAP_EFF moves by 100 W. -/
  | capEffStep
  /-- THERMAL_TRIP (R507): A sensor reaches its trip point and the action of Table 18.4 follows. -/
  | thermalTrip (k : Nat) (t : Int)
  /-- TICK_EDGE (R25): The time base reaches a tick boundary and the tick edge is distributed, running the per-tick hardware activities. -/
  | tickEdge (o : TickObs)
  /-- REGISTER_WRITE (R15): A write to a register that has no row of its own is checked for semaphore and range, then applied by its access code. -/
  | registerWrite (m : Master) (off : Nat) (size : Nat) (v : DWord)
  /-- SEM_ACQUIRE (R519): A PAGE_SEM write with bit 31 set acquires or refreshes the semaphore, with tie-breaking and lease takeover. -/
  | semAcquire (pg : Nat) (ms : List Master)
  /-- SEM_RELEASE (R519): A PAGE_SEM write with bit 31 clear by the holder releases the semaphore. -/
  | semRelease (pg : Nat) (m : Master)
  /-- CTR_CLR (R156): A CTR_CLR write clears the cumulative counters of its page. -/
  | ctrClr (m : Master) (pg : Nat) (off : Nat) (v : Word)
  /-- UNIT_RESET (R525): A UNIT_RESET write on a compute page requests the reset of that page's unit, as RST_CMD does. -/
  | unitReset (m : Master) (pg : Nat)
  /-- BIND_ARM (R21): Setting BIND_CTRL.ARM captures BIND_NEXT and TEST_OUT, validates the map, and marks it pending or rejects it. -/
  | bindArm (m : Master) (d : Nat) (c : Nat) (testOut : Bool)
  /-- BIND_COPY_DONE (R22): The copy of the moved logical cores completes and BIND_MAP and BIND_SEQ are updated. -/
  | bindCopyDone (d : Nat) (c : Nat) (ns : Nat)
  /-- LAUNCH_POST (R30): A STATE = POSTED write to an EMPTY or DONE launch slot is accepted for scanning. -/
  | launchPost (m : Master) (n : Nat) (w : DWord) (ns : Nat)
  /-- LAUNCH_CANCEL (R30): A STATE = CANCEL write to a POSTED or WAITING slot is accepted. -/
  | launchCancel (m : Master) (n : Nat)
  /-- LAUNCH_EMPTY (R30): A STATE = EMPTY write to a slot that is not RUNNING is accepted. -/
  | launchEmpty (m : Master) (n : Nat)
  /-- LAUNCH_ENTRY_WRITE (R30): A write to bytes 0x08–0x3F of a launch slot is applied only while the slot is EMPTY or DONE. -/
  | launchEntryWrite (m : Master) (n : Nat) (off : Nat) (wide : Bool) (v : DWord)
  /-- PROGRAM_COMPLETE (R32): A program ends on every target core, its writes are made visible, and its completion is written and signalled. -/
  | programComplete (n : Nat)
  /-- CPL_CONS_WRITE (R33): The master advances CPL_CONS, freeing ring space so that held completions are written. -/
  | cplConsWrite (m : Master) (host : Bool) (v : Word)
  /-- STEP_FENCE_COMPLETE (R36): The last core of a partition arrives at the fence and its writes drain, so the step counter increments and the fence actions run. -/
  | stepFenceComplete (p : Nat) (ns : Nat)
  /-- DESCRIPTOR_COMPLETE (R88): An issued descriptor finishes and its effects are visible, which frees its unit and in-flight slot. -/
  | descriptorComplete (lc : Nat) (id : Nat) (ck : UnitCheck)
  /-- NOP (R104): Does nothing and completes at issue. -/
  | nop (lc : Nat) (d : Desc)
  /-- END (R93): Ends the core's stream once every earlier descriptor has completed. -/
  | endStream (lc : Nat) (d : Desc)
  /-- SET (R105): Writes a sequencer register as rs × IMM1 + IMM2. -/
  | setReg (lc : Nat) (d : Desc)
  /-- LOOP (R106): Pushes a loop entry, initialises X[REG] and repeats the body COUNT times. -/
  | loop (lc : Nat) (d : Desc)
  /-- WAIT_GE (R107): Waits until a signal word is at least the compare value. -/
  | waitGe (lc : Nat) (d : Desc)
  /-- WAIT_EQ (R107): Waits until a signal word equals the compare value. -/
  | waitEq (lc : Nat) (d : Desc)
  /-- WAIT_NE (R107): Waits until a signal word differs from the compare value. -/
  | waitNe (lc : Nat) (d : Desc)
  /-- WAIT_ASSERT (R107): Waits for earlier descriptors, then faults with ASSERT if the masked PFLAGS are set. -/
  | waitAssert (lc : Nat) (d : Desc)
  /-- WAIT_DRAIN (R107): Waits for every earlier descriptor to complete. -/
  | waitDrain (lc : Nat) (d : Desc)
  /-- WAIT_CONDITION_MET (R107): A write to a watched word, or a tick edge, makes a WAIT condition true and releases issue. -/
  | waitConditionMet (lc : Nat) (id : Nat)
  /-- WAIT_TIMEOUT (R107): A WAIT or RECV reaches its timeout tick with its condition false and faults with TIMEOUT. -/
  | waitTimeout (lc : Nat) (id : Nat)
  /-- SIGNAL_ADD (R108): Adds a value to a signal word after the core's earlier writes are visible. -/
  | signalAdd (lc : Nat) (d : Desc)
  /-- SIGNAL_WRITE (R108): Writes a value to a signal word after the core's earlier writes are visible. -/
  | signalWrite (lc : Nat) (d : Desc)
  /-- TICKW (R109): Waits for a target tick given as absolute, relative to start or from a register. -/
  | tickw (lc : Nat) (d : Desc)
  /-- STEPF (R110): Closes the numbered step and brings the core to the partition's step fence. -/
  | stepf (lc : Nat) (d : Desc)
  /-- LOAD (R111): Copies a tensor from own chip or a peer into own tile memory. -/
  | load (lc : Nat) (d : Desc)
  /-- STORE (R111): Copies a tensor from own tile memory to own chip or a peer. -/
  | store (lc : Nat) (d : Desc)
  /-- MOVE (R111): Copies a tensor within own chip. -/
  | move (lc : Nat) (d : Desc)
  /-- TRANSPOSE (R112): Copies a tensor with its axes permuted. -/
  | transpose (lc : Nat) (d : Desc)
  /-- GATHER (R113): Writes rows of D from the rows of A named by an index tensor. -/
  | gather (lc : Nat) (d : Desc)
  /-- SCATTER_ADD (R113): Adds rows of A into the indexed rows of D in FP32 order. -/
  | scatterAdd (lc : Nat) (d : Desc)
  /-- CAST (R114): Converts A into D's format. -/
  | cast (lc : Nat) (d : Desc)
  /-- QUANTISE (R114): Writes a block-scaled D from A under R62. -/
  | quantise (lc : Nat) (d : Desc)
  /-- FILL (R114): Writes a converted FP32 immediate to every element of D. -/
  | fill (lc : Nat) (d : Desc)
  /-- MATMUL (R115): Opens a reduction with cleared accumulators and computes a matrix product on the engines. -/
  | matmul (lc : Nat) (d : Desc)
  /-- MATMUL_ACC (R117): Opens a chain with an initial value, or continues the open chain. -/
  | matmulAcc (lc : Nat) (d : Desc)
  /-- UNARY_COPY (R122): Vector copy. -/
  | unaryCopy (lc : Nat) (d : Desc)
  /-- UNARY_NEG (R122): Vector negation. -/
  | unaryNeg (lc : Nat) (d : Desc)
  /-- UNARY_ABS (R122): Vector absolute value. -/
  | unaryAbs (lc : Nat) (d : Desc)
  /-- UNARY_RELU (R122): Vector ReLU. -/
  | unaryRelu (lc : Nat) (d : Desc)
  /-- UNARY_SQUARE (R122): Vector square. -/
  | unarySquare (lc : Nat) (d : Desc)
  /-- UNARY_RECIP (R122): Correctly rounded reciprocal. -/
  | unaryRecip (lc : Nat) (d : Desc)
  /-- UNARY_SQRT (R122): Correctly rounded square root. -/
  | unarySqrt (lc : Nat) (d : Desc)
  /-- UNARY_RSQRT (R122): Correctly rounded reciprocal square root. -/
  | unaryRsqrt (lc : Nat) (d : Desc)
  /-- UNARY_EXP (R122): Correctly rounded e^x. -/
  | unaryExp (lc : Nat) (d : Desc)
  /-- UNARY_EXP2 (R122): Correctly rounded 2^x. -/
  | unaryExp2 (lc : Nat) (d : Desc)
  /-- UNARY_LOG (R122): Correctly rounded natural logarithm. -/
  | unaryLog (lc : Nat) (d : Desc)
  /-- UNARY_LOG2 (R122): Correctly rounded base-2 logarithm. -/
  | unaryLog2 (lc : Nat) (d : Desc)
  /-- UNARY_TANH (R122): Correctly rounded tanh. -/
  | unaryTanh (lc : Nat) (d : Desc)
  /-- UNARY_ERF (R122): Correctly rounded erf. -/
  | unaryErf (lc : Nat) (d : Desc)
  /-- UNARY_SIN (R122): Correctly rounded sine. -/
  | unarySin (lc : Nat) (d : Desc)
  /-- UNARY_COS (R122): Correctly rounded cosine. -/
  | unaryCos (lc : Nat) (d : Desc)
  /-- UNARY_SIGMOID (R122): Sigmoid by the fixed sequence of Table 4.7. -/
  | unarySigmoid (lc : Nat) (d : Desc)
  /-- UNARY_SILU (R122): SiLU by the fixed sequence of Table 4.7. -/
  | unarySilu (lc : Nat) (d : Desc)
  /-- UNARY_GELU_TANH (R122): Tanh-approximated GELU by the fixed sequence. -/
  | unaryGeluTanh (lc : Nat) (d : Desc)
  /-- UNARY_GELU_ERF (R122): Erf GELU by the fixed sequence. -/
  | unaryGeluErf (lc : Nat) (d : Desc)
  /-- BINARY_ADD (R123): Elementwise add. -/
  | binaryAdd (lc : Nat) (d : Desc)
  /-- BINARY_SUB (R123): Elementwise subtract. -/
  | binarySub (lc : Nat) (d : Desc)
  /-- BINARY_MUL (R123): Elementwise multiply. -/
  | binaryMul (lc : Nat) (d : Desc)
  /-- BINARY_DIV (R123): Elementwise correctly rounded divide. -/
  | binaryDiv (lc : Nat) (d : Desc)
  /-- BINARY_MAX (R123): Elementwise maximum. -/
  | binaryMax (lc : Nat) (d : Desc)
  /-- BINARY_MIN (R123): Elementwise minimum. -/
  | binaryMin (lc : Nat) (d : Desc)
  /-- FMA (R123): Fused multiply-add with a single rounding. -/
  | fma (lc : Nat) (d : Desc)
  /-- ROWRED_SUM (R124): Row sum in fixed tree order. -/
  | rowredSum (lc : Nat) (d : Desc)
  /-- ROWRED_MAX (R124): Row maximum. -/
  | rowredMax (lc : Nat) (d : Desc)
  /-- ROWRED_MIN (R124): Row minimum. -/
  | rowredMin (lc : Nat) (d : Desc)
  /-- ROWRED_ABSMAX (R124): Row absolute maximum. -/
  | rowredAbsmax (lc : Nat) (d : Desc)
  /-- ROWRED_SUMSQ (R124): Row sum of squares. -/
  | rowredSumsq (lc : Nat) (d : Desc)
  /-- ROWRED_ARGMAX (R124): Writes the lowest index of each row's maximum. -/
  | rowredArgmax (lc : Nat) (d : Desc)
  /-- SOFTMAX (R125): Scaled row softmax in fixed steps. -/
  | softmax (lc : Nat) (d : Desc)
  /-- NORM_LAYERNORM (R126): Row LayerNorm with optional γ and β. -/
  | normLayernorm (lc : Nat) (d : Desc)
  /-- NORM_RMSNORM (R126): Row RMSNorm with optional γ and β. -/
  | normRmsnorm (lc : Nat) (d : Desc)
  /-- SEND (R128): Copies A to the peer holding a rank, with an optional signal. -/
  | send (lc : Nat) (d : Desc)
  /-- RECV (R129): Waits for a signal word to reach a value, then subtracts it. -/
  | recv (lc : Nat) (d : Desc)
  /-- RECV_SATISFIED (R129): The word reaches the value, is decremented atomically, and the RECV completes. -/
  | recvSatisfied (lc : Nat) (id : Nat)
  /-- COLL_ALL_REDUCE (R130): Runs an all-reduce over the group. -/
  | collAllReduce (lc : Nat) (d : Desc)
  /-- COLL_REDUCE_SCATTER (R130): Runs a reduce-scatter over the group. -/
  | collReduceScatter (lc : Nat) (d : Desc)
  /-- COLL_ALL_GATHER (R130): Runs an all-gather over the group. -/
  | collAllGather (lc : Nat) (d : Desc)
  /-- COLL_ALL_TO_ALL (R130): Runs an all-to-all over the group. -/
  | collAllToAll (lc : Nat) (d : Desc)
  /-- COLL_TIMEOUT (R383): A COLL makes no progress for COLL_TO ticks and the loss policy decides what follows. -/
  | collTimeout (tag : Nat)
  /-- NMCALL (R133): Posts an NMU command block to a stack's queue. -/
  | nmcall (lc : Nat) (d : Desc)
  /-- DIGEST (R134): Computes the digest of an Edesk tensor through the NMUs. -/
  | digest (lc : Nat) (d : Desc)
  /-- EDESK_READ (R174): A line is read and checked, then refetched, recomputed or returned as a bus error when it fails. -/
  | edeskRead (k : Nat) (l : Nat) (req : Requester) (o : ReadObs)
  /-- RECOMPUTE_DONE (R178): The producer command completes and the line is re-read, delivered or failed. -/
  | recomputeDone (k : Nat) (obs : List ReadObs)
  /-- RECOMPUTE_TIMEOUT (R178): A recompute is still running 2 ms after its post and the requester gets a bus error. -/
  | recomputeTimeout (k : Nat)
  /-- EDESK_LINE_WRITE (R173): A whole-line write stores data, CRC and metadata and sets or clears RC. -/
  | edeskLineWrite (o : Nat) (data : List Byte) (req : Requester)
  /-- EDESK_PARTIAL_WRITE (R173): A partial-line write merges through a checked read and drops lines whose read fails. -/
  | edeskPartialWrite (o : Nat) (data : List Byte) (obs : List ReadObs) (req : Requester)
  /-- MAPOUT_GO (R167): Setting MAPOUT_CTRL.GO starts a channel map-out or rejects it. -/
  | mapoutGo (m : Master) (k : Nat) (v : Word)
  /-- MAPOUT_GRANULE_COPY (R167): One granule of the mapped-out channel is copied and the watermark advances, ending the map-out at R′. -/
  | mapoutGranuleCopy (k : Nat) (bad0 : Bool) (bad1 : Bool)
  /-- RCR_EN (R177): Setting RCR_CTRL.EN validates and enables a recompute region, or rejects it. -/
  | rcrEn (m : Master) (k : Nat) (n : Nat) (v : Word)
  /-- SCRUB_LINE (R181): Patrol scrub reads and corrects the next line, ending a pass at the top. -/
  | scrubLine (k : Nat) (data : List SymErr) (md : List SymErr)
  /-- SCRUB_NOW (R182): Setting SCRUB_CTRL.NOW starts a fast pass from local address 0. -/
  | scrubNow (m : Master) (k : Nat)
  /-- SCRUB_CTRL_WRITE (R182): A SCRUB_CTRL write is range-checked, and clearing EN stops scrubbing at the next line. -/
  | scrubCtrlWrite (m : Master) (k : Nat) (v : Word)
  /-- NMU_PAGE_POST (R191): Setting CMD_POST posts the block at CMD_ADDR into the page queue, or drops it when the queue is full. -/
  | nmuPagePost (m : Master) (k : Nat) (v : Word)
  /-- NMU_CMD_START (R193): The lead starts a queued command once no running command's ranges conflict. -/
  | nmuCmdStart (k : Nat)
  /-- NMU_CMD_COMPLETE (R190): A command finishes or stops in error, and RESULT and the completion signal are written. -/
  | nmuCmdComplete (k : Nat) (idx : Nat)
  /-- NMU_FILL (R199): Writes whole lines with a repeating 8-byte pattern. -/
  | nmuFill (k : Nat) (idx : Nat)
  /-- NMU_COPY (R199): Copies a range, optionally through the snapshot and consuming it. -/
  | nmuCopy (k : Nat) (idx : Nat)
  /-- RS_ENC (R200): Encodes P and Q parity over k data stripes. -/
  | rsEnc (k : Nat) (idx : Nat)
  /-- RS_ACC (R200): Accumulates one data stripe into P and Q. -/
  | rsAcc (k : Nat) (idx : Nat)
  /-- RS_DEC (R200): Rebuilds up to two missing stripes. -/
  | rsDec (k : Nat) (idx : Nat)
  /-- NMU_DIGEST (R201): Computes the GF(2^128) digest of a range. -/
  | nmuDigest (k : Nat) (idx : Nat)
  /-- OPT_SGD (R203): Applies an SGD update in place. -/
  | optSgd (k : Nat) (idx : Nat)
  /-- OPT_ADAMW (R203): Applies an AdamW update in place. -/
  | optAdamw (k : Nat) (idx : Nat)
  /-- GACC_ADD (R204): Adds source elements into an exact fixed-point accumulator. -/
  | gaccAdd (k : Nat) (idx : Nat)
  /-- GACC_READ (R204): Rounds the accumulator into a destination format. -/
  | gaccRead (k : Nat) (idx : Nat)
  /-- GACC_READ_CLEAR (R204): Reads the accumulator and clears it in the same atomic step. -/
  | gaccReadClear (k : Nat) (idx : Nat)
  /-- NMU_GATHER (R206): Gathers and converts indexed table rows. -/
  | nmuGather (k : Nat) (idx : Nat)
  /-- SCATTER_ADD_FP32 (R207): Adds rows into an FP32 table atomically per line. -/
  | scatterAddFp32 (k : Nat) (idx : Nat)
  /-- SCATTER_ADD_EXACT (R207): Adds rows into an exact accumulator table. -/
  | scatterAddExact (k : Nat) (idx : Nat)
  /-- CONVERT_CAST (R208): Casts elements near memory. -/
  | convertCast (k : Nat) (idx : Nat)
  /-- CONVERT_QUANTISE (R208): Quantises elements near memory with block scales. -/
  | convertQuantise (k : Nat) (idx : Nat)
  /-- NMU_SCRUB (R209): Scrubs a range through both codes without bus errors. -/
  | nmuScrub (k : Nat) (idx : Nat) (s0 : List (Nat × SymErr)) (s1 : List (Nat × SymErr)) (md : List (Nat × SymErr))
  /-- SNAP_ARM (R211): Marks a range set PENDING on every Matryoshka of the chip. -/
  | snapArm (k : Nat) (idx : Nat)
  /-- SNAP_ABORT (R214): Aborts the snapshot with a matching SNAP_ID. -/
  | snapAbort (k : Nat) (idx : Nat)
  /-- SNAP_UNIT_SAVED (R212): A unit's save completes, the unit becomes SAVED and its held writes are released. -/
  | snapUnitSaved (k : Nat) (u : Nat) (ns : Nat)
  /-- SNAP_UNIT_CONSUMED (R213): A consuming COPY finishes a unit, releasing it and its slot, and completing the snapshot at the last unit. -/
  | snapUnitConsumed (lead : Nat) (idx : Nat) (k : Nat) (u : Nat)
  /-- SNAP_HOLD_TIMEOUT (R214): A write has been held for 1 ms, so the snapshot aborts on every stack. -/
  | snapHoldTimeout (k : Nat)
  /-- FLIT_WR (R225): A write flit is checked, sequenced and delivered or forwarded. -/
  | flitWr (p : Nat) (n : Nat) (o : RxObs) (h : FlitHdr) (addr : Nat) (data : List Byte)
  /-- FLIT_RD_REQ (R225): A read request is served against the rights of its context. -/
  | flitRdReq (p : Nat) (n : Nat) (o : RxObs) (h : FlitHdr) (addr : Nat) (bytes : Nat) (tag : Nat)
  /-- FLIT_RD_RSP (R225): A read response completes the waiting read. -/
  | flitRdRsp (p : Nat) (n : Nat) (o : RxObs) (h : FlitHdr) (tag : Nat) (status : Nat) (data : List Byte)
  /-- FLIT_SIG (R225): A signal flit adds to or writes a signal word. -/
  | flitSig (p : Nat) (n : Nat) (o : RxObs) (h : FlitHdr) (addr : Nat) (value : Nat) (write : Bool)
  /-- FLIT_ACK_E2E (R226): An end-to-end acknowledgement releases dependent signals and completions. -/
  | flitAckE2e (p : Nat) (n : Nat) (o : RxObs) (h : FlitHdr) (tag : Nat) (status : Nat)
  /-- FLIT_COLL_DATA (R83): A collective contribution is buffered or folded at the chunk owner. -/
  | flitCollData (p : Nat) (n : Nat) (o : RxObs) (h : FlitHdr) (c : CollHdr) (data : List Byte)
  /-- FLIT_COLL_CREDIT (R83): Collective receive credit allows the sender's next segment. -/
  | flitCollCredit (p : Nat) (n : Nat) (o : RxObs) (h : FlitHdr) (tag : Nat) (rank : Nat) (credits : Nat)
  /-- FLIT_COLL_ABORT (R132): A collective abort faults or restarts the member's COLL. -/
  | flitCollAbort (p : Nat) (n : Nat) (o : RxObs) (h : FlitHdr) (tag : Nat) (cause : Nat) (absent : List Nat)
  /-- FLIT_MGMT (R225): A management-transport flit carries relayed, line-claim or continuity messages. -/
  | flitMgmt (p : Nat) (n : Nat) (o : RxObs) (h : FlitHdr) (m : MgMsg)
  /-- FLIT_RESUME (R236): A RESUME triggers a reply and re-injection of the unacknowledged flits. -/
  | flitResume (p : Nat) (n : Nat) (o : RxObs) (h : FlitHdr) (bundle : Nat) (seq : Nat) (reply : Bool)
  /-- FLIT_IDLE (R225): An idle flit is consumed. -/
  | flitIdle (p : Nat) (n : Nat) (o : RxObs) (h : FlitHdr)
  /-- FLIT_ACK (R230): A link acknowledgement frees replay-buffer entries. -/
  | flitAck (p : Nat) (n : Nat) (o : RxObs) (h : FlitHdr) (entries : List (Nat × Nat))
  /-- FLIT_NAK (R230): A NAK makes the sender replay go-back-N from the missing SEQ. -/
  | flitNak (p : Nat) (n : Nat) (o : RxObs) (h : FlitHdr) (entries : List (Nat × Nat))
  /-- FLIT_CREDIT (R225): Credits per class and VC are returned to the sender. -/
  | flitCredit (p : Nat) (n : Nat) (o : RxObs) (h : FlitHdr) (credits : List Nat)
  /-- FLIT_HEARTBEAT (R232): A heartbeat is checked against the trained identity. -/
  | flitHeartbeat (p : Nat) (n : Nat) (o : RxObs) (h : FlitHdr) (chip : Nat) (port : Nat) (lane : Nat) (bundle : Nat) (tick : Nat) (seq : Nat)
  /-- FLIT_YOYO (R357): A YOYO's entries are compared, and retire marks and acknowledgements are handled. -/
  | flitYoyo (p : Nat) (n : Nat) (o : RxObs) (h : FlitHdr) (y : Yoyo)
  /-- FLIT_TIME (R313): A TIME flit updates path delay, root and parent choice, and offset. -/
  | flitTime (p : Nat) (n : Nat) (o : RxObs) (h : FlitHdr) (t : TimeMsg) (arr : Nat)
  /-- FLIT_TRAIN (R234): A TRAIN flit advances alignment, identity, version and delay training. -/
  | flitTrain (p : Nat) (n : Nat) (o : RxObs) (h : FlitHdr) (t : TrainMsg) (arr : Nat)
  /-- LANE_CTRL_ADD (R235): A lane joins its bundle at the effective SEQ. -/
  | laneCtrlAdd (p : Nat) (n : Nat) (o : RxObs) (h : FlitHdr) (bundle : Nat) (port : Nat) (lane : Nat) (eff : Nat)
  /-- LANE_CTRL_REMOVE (R235): A lane leaves its bundle at the effective SEQ. -/
  | laneCtrlRemove (p : Nat) (n : Nat) (o : RxObs) (h : FlitHdr) (bundle : Nat) (port : Nat) (lane : Nat) (eff : Nat)
  /-- LANE_CTRL_REPLACE (R233): The spare lane takes a failed lane's place at the effective SEQ. -/
  | laneCtrlReplace (p : Nat) (n : Nat) (o : RxObs) (h : FlitHdr) (bundle : Nat) (port : Nat) (lane : Nat) (repl : Nat) (eff : Nat)
  /-- RING_NOTICE (R290): A ring notice makes the recipient declare and replace its pair, or suppress loss of signal. -/
  | ringNotice (p : Nat) (n : Nat) (o : RxObs) (h : FlitHdr) (bundle : Nat) (port : Nat) (cause : Nat)
  /-- RING_ALIGNED (R272): The peer reports its receive ring aligned and the lane starts driving the new pair. -/
  | ringAligned (p : Nat) (n : Nat) (o : RxObs) (h : FlitHdr) (bundle : Nat) (port : Nat)
  /-- ACK_TIMER (R230): At least every 128 ns the receiver acknowledges the highest in-order SEQ. -/
  | ackTimer (p : Nat) (n : Nat)
  /-- NAK_SKEW_TIMER (R230): A later SEQ has waited SKEW_NS + 100 ns past a gap, so a NAK is sent. -/
  | nakSkewTimer (b : Nat) (p : Nat) (n : Nat)
  /-- RETRY_TIMEOUT (R230): No acknowledgement for RETRY_TO, so the sender replays from the oldest SEQ, with the bundle going DOWN at 16 replays. -/
  | retryTimeout (b : Nat)
  /-- LANE_LOS (R232): Loss of signal or codeword lock fails the lane pair at once. -/
  | laneLos (p : Nat) (n : Nat)
  /-- LANE_TRAIN_TIMEOUT (R234): A training time limit passes and the lane fails with cause TIMEOUT. -/
  | laneTrainTimeout (p : Nat) (n : Nat)
  /-- LANE_RETRAIN_TIMER (R233): Ten ticks after failure, a lane below the strike limit returns to TRAINING. -/
  | laneRetrainTimer (p : Nat) (n : Nat)
  /-- QUARANTINE_END (R233): A quarantine elapses and the lane returns to TRAINING. -/
  | quarantineEnd (p : Nat) (n : Nat)
  /-- STRIKE_RESET (R233): After 100,000 healthy ticks a lane's strike count returns to 0. -/
  | strikeReset (p : Nat) (n : Nat)
  /-- LANE_DISABLE (R233): LANE_CTRL.DISABLE takes the lane pair out at a flit boundary. -/
  | laneDisable (m : Master) (p : Nat)
  /-- LANE_CLEAR (R233): LANE_CTRL.CLEAR returns a disabled lane to OFF and resets strikes and QLEVEL. -/
  | laneClear (m : Master) (p : Nat)
  /-- RETRAIN (R233): LNK_CTRL.RETRAIN retrains every lane of the port. -/
  | retrain (m : Master) (p : Nat)
  /-- PORT_ENABLE (R260): A change of LNK_CTRL.EN brings a port up under its plan record or takes it down. -/
  | portEnable (m : Master) (p : Nat) (v : Word)
  /-- BUNDLE_DEAD_TIMEOUT (R236): No valid flit for 20 ticks, so the bundle goes DEAD and resumption starts. -/
  | bundleDeadTimeout (b : Nat)
  /-- RESUME_TIMEOUT (R236): No RESUME arrives within 10 µs, so the unacknowledged flits are discarded. -/
  | resumeTimeout (b : Nat)
  /-- KEY_ERASE (R240): Erases the selected key phase. -/
  | keyErase (m : Master) (v : Word)
  /-- FRT_DATA_HI_WRITE (R244): Writes a flat routing entry to its shadow. -/
  | frtDataHiWrite (m : Master) (v : Word)
  /-- RNK_SLOT_PART_WRITE (R242): Writes a rank slot's VALID in its partition's scope, or drops the write. -/
  | rnkSlotPartWrite (m : Master) (v : Word)
  /-- RNK_DATA_WRITE (R242): Writes a rank table entry in its slot's scope, or drops the write. -/
  | rnkDataWrite (m : Master) (v : Word)
  /-- PEER_DATA_WRITE (R243): Writes a peer-table entry at once, rejecting duplicates. -/
  | peerDataWrite (m : Master) (v : Word)
  /-- PLAN_ARM (R259): Validates NEXT and arms it, or rejects it with a cause. -/
  | planArm (m : Master)
  /-- PLAN_CANCEL (R264): Discards an armed NEXT before its activation tick. -/
  | planCancel (m : Master)
  /-- PLAN_WIN_DATA_WRITE (R275): Writes a plan-buffer word and advances the window offset. -/
  | planWinDataWrite (m : Master) (v : Word)
  /-- PLAN_WIN_DATA_READ (R275): Reads a plan-buffer word and advances the window offset. -/
  | planWinDataRead
  /-- PLAN_ACTIVATION (R261): At ACT_TICK NEXT becomes CURRENT and changed ring pairs start re-cabling. -/
  | planActivation
  /-- RING_MOVE_DONE (R256): A table move reaches its position and the pair lights or waits HELD. -/
  | ringMoveDone (p : Nat) (r : Nat)
  /-- RECABLE_SETTLE (R262): At T+100 each port's re-cable outcome becomes final. -/
  | recableSettle
  /-- KAL_REPLACE (R277): KAL_REPLACE_CMD GO orders the replacement of a ring pair. -/
  | kalReplace (m : Master) (e : Nat) (v : Word)
  /-- KAL_MODE_WRITE (R273): A port's steering mode changes at the next flit boundary. -/
  | kalModeWrite (m : Master) (e : Nat) (v : Word)
  /-- WINDOW_CHECK (R288): Every 1 µs a ring's code is checked against its window. -/
  | windowCheck (p : Nat) (r : Nat)
  /-- RING_RX_LOS (R288): A trained receive ring loses signal or codeword lock. -/
  | ringRxLos (p : Nat) (r : Nat)
  /-- HEATER_FAULT (R287): A heater driver reports an open or short circuit. -/
  | heaterFault (p : Nat) (r : Nat) (dir : Nat)
  /-- REACQ_TEST_START (R292): Line 0 is free, so a taken-out pair starts its loopback re-acquisition test. -/
  | reacqTestStart (p : Nat)
  /-- REACQ_TEST_DONE (R292): The test ends and the pair becomes SPARE or RETIRED. -/
  | reacqTestDone (p : Nat) (r : Nat) (aligned : Bool) (offT : Int) (offR : Int)
  /-- RING_TEST_CMD (R292): Orders the re-acquisition test of a spare or retired pair. -/
  | ringTestCmd (m : Master) (e : Nat) (v : Word)
  /-- CAL_PERIOD_DUE (R283): PERIOD minutes since the last calibration starts an engine calibration. -/
  | calPeriodDue (e : Nat)
  /-- CAL_TEMP_DUE (R283): A temperature change beyond DELTA_T starts an engine calibration. -/
  | calTempDue (e : Nat)
  /-- CAL_NOW (R283): CAL_CFG.NOW starts an engine calibration. -/
  | calNow (m : Master) (e : Nat)
  /-- CALIBRATION_DONE (R283): The engine's calibration completes. -/
  | calibrationDone (e : Nat) (ms : List CalMeas)
  /-- ABRUPT_LASER_LOSS (R295): Comb power falls over 6 dB in 1 µs and a forced switchover starts, or the engine goes DARK. -/
  | abruptLaserLoss (e : Nat)
  /-- LASER_SWITCH_POINT (R296): The planned switch point is reached and the planned sequence begins. -/
  | laserSwitchPoint (e : Nat)
  /-- LASER_SWITCH_DONE (R296): A switchover sequence completes, or the new laser fails and the engine goes DARK. -/
  | laserSwitchDone (e : Nat) (ok : Bool)
  /-- LAS_CMD_SWITCH (R295): Orders a planned switch to the WARM laser. -/
  | lasCmdSwitch (m : Master) (e : Nat) (x : Nat)
  /-- LAS_CMD_NOW (R296): Makes the ordered switch point the next tick edge. -/
  | lasCmdNow (m : Master) (e : Nat) (x : Nat)
  /-- TBL_DATA_WRITE (R299): Writes a heater table code when the ring is OFF or RETIRED, or drops the write. -/
  | tblDataWrite (m : Master) (e : Nat) (v : Word)
  /-- MON_GO_NOW (R285): Starts a monitor reading at once. -/
  | monGoNow (m : Master) (e : Nat)
  /-- MON_GO_AT_TICK (R285): Arms a monitor reading for MON_TICK. -/
  | monGoAtTick (m : Master) (e : Nat)
  /-- MON_TICK_REACHED (R285): An armed monitor reading starts at its tick. -/
  | monTickReached (e : Nat)
  /-- MON_READING_DONE (R285): A monitor reading finishes and MON_RESULT becomes valid. -/
  | monReadingDone (e : Nat) (reading : Nat)
  /-- RESTEP (R310): Steps the time base to its source when allowed. -/
  | restep (m : Master)
  /-- TIM_CFG_WRITE (R334): Writes TIM_CFG with range checks, starting or ending root candidacy. -/
  | timCfgWrite (m : Master) (v : Word)
  /-- ROOT_LOSS_EXPIRY (R316): ROOT_LOSS ticks pass with no better root, so a candidate takes the root role or a device drops its root. -/
  | rootLossExpiry
  /-- TIME_SOURCE_LOSS (R319): No TIME flit for 3 ticks or no Sync for 3 intervals, so the time base enters HOLDOVER. -/
  | timeSourceLoss
  /-- HOLDOVER_LONG (R319): Sixty seconds in holdover are reported once. -/
  | holdoverLong
  /-- PTP_SYNC (R323): A Sync message is time-stamped for offset measurement. -/
  | ptpSync (p : Nat) (domain : Nat) (seq : Nat) (logInt : Int) (t1 : Option Nat) (t2 : Nat)
  /-- PTP_FOLLOW_UP (R323): A Follow_Up supplies the two-step Sync time. -/
  | ptpFollowUp (p : Nat) (domain : Nat) (seq : Nat) (t1 : Nat)
  /-- PTP_DELAY_RESP (R323): A Delay_Resp completes a path-delay measurement. -/
  | ptpDelayResp (p : Nat) (domain : Nat) (t4 : Nat)
  /-- PTP_ANNOUNCE (R323): An Announce feeds the BMCA between the two ports. -/
  | ptpAnnounce (p : Nat) (domain : Nat) (logInt : Int) (a : Announce)
  /-- PTP_DELAY_REQ (R323): A Delay_Req is sent at its interval. -/
  | ptpDelayReq (p : Nat) (t3 : Nat)
  /-- TIME_SEC_LO_READ (R334): Reading TIME_SEC_LO freezes the rest of the time reading. -/
  | timeSecLoRead (sub : Nat)
  /-- TIME_FRAC_READ (R334): Reading TIME_FRAC releases the frozen time reading. -/
  | timeFracRead
  /-- TRG_ARM (R330): Arms a time comparator, which fires at once if its target is past. -/
  | trgArm (m : Master) (n : Nat) (event : Bool) (pulse : Bool) (sub : Nat)
  /-- TRIGGER_FIRE (R330): A comparator reaches its target and records an event or pulses PPS out. -/
  | triggerFire (n : Nat)
  /-- PPS_OUT_PULSE (R331): PPS out rises at each whole second plus offset for WIDTH ms. -/
  | ppsOutPulse
  /-- PPS_IN_EDGE (R332): A PPS in edge latches the captures that select it. -/
  | ppsInEdge (falling : Bool) (sub : Nat)
  /-- PPS_IN_LOST (R332): No PPS in edge for 2 s after edges were present. -/
  | ppsInLost
  /-- CAP_SEC_LO_READ (R332): Freezes the capture latch. -/
  | capSecLoRead (n : Nat)
  /-- CAP_FRAC_READ (R332): Releases the capture latch and clears FULL. -/
  | capFracRead (n : Nat)
  /-- PART_CLAIM (R338): CLAIM takes a FREE partition to CLAIMED and assigns a rank slot. -/
  | partClaim (m : Master)
  /-- PART_ARM (R339): ARM checks the preconditions and fixes the run tick. -/
  | partArm (m : Master)
  /-- PART_DRAIN (R341): DRAIN takes the partition to DRAINING. -/
  | partDrain (m : Master)
  /-- PART_RETIRE (R338): RETIRE starts the retire barrier. -/
  | partRetire (m : Master)
  /-- PART_FREE (R347): FREE releases a RETIRED partition's lines. -/
  | partFree (m : Master)
  /-- RUN_TICK_REACHED (R340): An ARMED partition enters RUNNING at its run tick and the power ramp starts. -/
  | runTickReached (p : Nat)
  /-- RAMP_DONE (R340): The ramp limit reaches full power and the ramp ends. -/
  | rampDone (p : Nat)
  /-- DRAIN_TICK_REACHED (R341): A tick edge at or past PART_DRAIN starts the retire barrier. -/
  | drainTickReached (p : Nat)
  /-- RETIRE_BARRIER_DONE (R351): Every bundle has answered RETIRE_MARK and the partition becomes RETIRED. -/
  | retireBarrierDone (p : Nat) (ns : Nat)
  /-- RETIRE_BARRIER_BOUND (R351): The barrier's time bound passes and it completes with BY_BOUND set. -/
  | retireBarrierBound (p : Nat) (ns : Nat)
  /-- LINE_CMD_CLAIM (R344): Offers a FREE line for a partition and sends REQ to the peer. -/
  | lineCmdClaim (m : Master) (part : Nat)
  /-- LINE_CMD_RELEASE (R347): Makes a CLAIMED line RELEASING and sends REL. -/
  | lineCmdRelease (m : Master)
  /-- LINE_CLAIM_REQ (R345): A claim request is answered ACK or NAK by the crossing and lose rules. -/
  | lineClaimReq (chip : Nat) (part : Nat) (plane : Nat) (input : Nat) (line : Nat) (tag : Nat)
  /-- LINE_CLAIM_ACK (R345): An ACK makes the line CLAIMED, bringing HELD pairs onto it. -/
  | lineClaimAck (chip : Nat) (plane : Nat) (line : Nat) (tag : Nat)
  /-- LINE_CLAIM_NAK (R345): A NAK returns the offered line to FREE. -/
  | lineClaimNak (cause : Nat) (plane : Nat) (line : Nat) (tag : Nat)
  /-- LINE_CLAIM_REL (R347): A release request is answered REL_ACK or REL_WAIT. -/
  | lineClaimRel (chip : Nat) (part : Nat) (plane : Nat) (line : Nat) (tag : Nat)
  /-- LINE_CLAIM_REL_ACK (R347): The line becomes FREE, and a RETIRED partition whose last line it was becomes FREE. -/
  | lineClaimRelAck (plane : Nat) (line : Nat) (tag : Nat)
  /-- LINE_CLAIM_REL_WAIT (R347): The release is repeated at each tick edge. -/
  | lineClaimRelWait (plane : Nat) (line : Nat) (tag : Nat)
  /-- LINE_REQ_TIMEOUT (R345): An unanswered REQ is resent after 100 µs, then the line is freed with cause TIMEOUT. -/
  | lineReqTimeout (p : Nat) (l : Nat)
  /-- LINE_UNCONFIRMED (R346): A line not confirmed within 2 ms is reported. -/
  | lineUnconfirmed (p : Nat) (l : Nat)
  /-- CTX_BIND (R348): Binds an IDLE context to a partition and generation. -/
  | ctxBind (m : Master)
  /-- CTX_RETIRE (R350): Tears down a BOUND context by advancing its generation. -/
  | ctxRetire (m : Master)
  /-- CTX_UNBIND (R348): Makes a context of a retired or freed partition IDLE. -/
  | ctxUnbind (m : Master)
  /-- TEARDOWN_ACK (R350): A context's writes are fenced and its teardown is acknowledged. -/
  | teardownAck (c : Nat) (ns : Nat)
  /-- EP_ARM (R353): Arms an epoch activation for a scope, or rejects it. -/
  | epArm (m : Master) (cancel : Bool) (step : Bool)
  /-- EP_CANCEL (R353): Discards the scope's armed activation. -/
  | epCancel (m : Master) (step : Bool)
  /-- EPOCH_TICK_ACTIVATION (R354): At EP_AT the scope's shadow values take effect and the epoch increments. -/
  | epochTickActivation (p : Nat)
  /-- EPOCH_DIGEST_READY (R355): The canonical image digest becomes available and DPEND clears. -/
  | epochDigestReady (p : Nat)
  /-- EPOCH_SKEW_TIMEOUT (R357): An epoch skew persists beyond EP_SKEW_MAX and is reported as a mismatch. -/
  | epochSkewTimeout (p : Nat) (b : Nat)
  /-- IMG_DATA_READ (R364): Reads an image word and advances IMG_OFF. -/
  | imgDataRead
  /-- CT_VALIDATION_DONE (R365): The continuity table is read and validated after an activation. -/
  | ctValidationDone (p : Nat)
  /-- BUDDY_HELLO_RETRY (R367): An unanswered BUDDY_HELLO is resent every 100 ticks. -/
  | buddyHelloRetry (p : Nat) (r : Nat)
  /-- BUDDY_HELLO (R367): The buddy checks the domain and matching HOLD region and replies. -/
  | buddyHello (chip : Nat) (part : Nat) (idx : Nat) (addr : Nat) (units : Nat) (rank : Nat) (fd : Nat)
  /-- BUDDY_REPLY (R367): The owner checks the reply, and the mirror becomes IN_STEP or REFUSED. -/
  | buddyReply (part : Nat) (idx : Nat) (status : Nat) (fd : Nat)
  /-- MIRROR_DIGEST (R372): Mirror digests are compared, so the mirror stays IN_STEP or becomes STALE. -/
  | mirrorDigest (chip : Nat) (part : Nat) (step : Nat) (idx : Nat) (digest : Nat)
  /-- UNIT (R378): A parity holder accumulates a data unit and answers DONE, or a sender proceeds on DONE. -/
  | ckUnit (chip : Nat) (part : Nat) (step : Nat) (slot : Nat) (row : Nat) (x : Nat) (zero : Bool) (done : Bool)
  /-- CHECKPOINT_LOCAL_DONE (R379): A member's copy and parity rows complete and it sends STRIPE_DONE. -/
  | checkpointLocalDone (p : Nat)
  /-- STRIPE_DONE (R379): The coordinator collects digests and writes the commit record when all are in. -/
  | stripeDone (part : Nat) (step : Nat) (slot : Nat) (m : Nat) (d : Nat) (p : Nat) (q : Nat)
  /-- COMMIT_RECORD_LANDED (R379): STATE = COMMITTED lands at a member, which checks its digests and acknowledges. -/
  | commitRecordLanded (p : Nat)
  /-- COMMIT_ACK (R379): The coordinator counts acknowledgements, and a BAD one aborts the checkpoint. -/
  | commitAck (part : Nat) (step : Nat) (slot : Nat) (m : Nat) (status : Nat)
  /-- CKPT_ABORT (R380): A member stops its checkpoint work and invalidates its slot. -/
  | ckptAbort (part : Nat) (step : Nat) (slot : Nat) (cause : Nat)
  /-- CK_TIMEOUT (R380): A checkpoint not committed within CK_TIMEOUT is aborted. -/
  | ckTimeout (p : Nat)
  /-- CK_ABORT (R380): CK_CMD.ABORT aborts the running checkpoint. -/
  | ckAbort (m : Master)
  /-- CK_NOW (R374): CK_CMD.NOW makes a checkpoint due at the next digest fence. -/
  | ckNow (m : Master)
  /-- STO_EXPORT (R382): Encrypts a committed slot into the host chunk ring. -/
  | stoExport (m : Master) (slot : Nat)
  /-- STO_IMPORT (R382): Decrypts and checks a slot from the host chunk ring. -/
  | stoImport (m : Master) (slot : Nat)
  /-- STO_CONS_WRITE (R382): The consumer advances STO_CONS, letting a waiting export continue. -/
  | stoConsWrite (m : Master) (v : Word)
  /-- STO_PROD_WRITE (R382): The host producer advances STO_PROD, letting an import continue. -/
  | stoProdWrite (m : Master) (v : Word) (chunks : List (List Byte))
  /-- LOSS (R386): Declares a rank lost, ending collectives, marking mirrors and aborting checkpoints. -/
  | loss (m : Master) (rank : Nat)
  /-- HALT (R387): Ends the partition's programs and tears down its contexts. -/
  | halt (m : Master)
  /-- ROLLBACK (R387): Sets the step counter to the target step and ends the halt. -/
  | rollback (m : Master)
  /-- PULL (R388): Requests a region to be streamed from a permitted source chip. -/
  | pull (m : Master) (reg : Nat) (rank : Nat)
  /-- PULL_REQ (R388): The source checks permission and streams and digests the range. -/
  | pullReq (chip : Nat) (part : Nat) (src : Nat) (n : Nat) (tgt : Nat)
  /-- PULL_DONE (R390): The target digests the pulled region and accepts or rejects it. -/
  | pullDone (part : Nat) (status : Nat) (digest : Nat)
  /-- LOAD_SLOT (R387): Copies the job checkpoint slot back into the CKPT regions. -/
  | loadSlot (m : Master)
  /-- REBUILD (R389): Reconstructs this member's slot units from the surviving members. -/
  | rebuild (m : Master) (rank : Nat)
  /-- CLEAR_ABSENT (R387): Empties the absent set. -/
  | clearAbsent (m : Master)
  /-- RECOVERY_CMD_DONE (R390): A LOAD_SLOT or REBUILD finishes and its digest is checked. -/
  | recoveryCmdDone (p : Nat)
  /-- REPLICA_DIGEST_READY (R401): A set digest is ready and DIGEST_VOTE is sent to the leader. -/
  | replicaDigestReady (p : Nat) (set : Nat)
  /-- DIGEST_VOTE (R403): The leader collects a vote and decides when all are in. -/
  | digestVote (part : Nat) (step : Nat) (rbase : Nat) (rcount : Nat) (rstep : Nat) (rank : Nat) (digest : Nat) (again : Bool)
  /-- VERDICT_DEADLINE (R402): The leader decides DG_TO ticks after its fence with the votes it has. -/
  | verdictDeadline (p : Nat) (set : Nat)
  /-- VERDICT (R404): A member applies the verdict: agree, expel, recheck or no majority. -/
  | verdict (part : Nat) (step : Nat) (set : Nat) (outcome : Nat) (maj : Nat) (agree : Nat) (dis : Nat) (missing : Nat) (ranks : List Nat)
  /-- VERDICT_TIMEOUT (R402): A member with no verdict takes TIMEOUT and ends its hold. -/
  | verdictTimeout (p : Nat) (set : Nat)
  /-- RECHECK_DEADLINE (R406): The recheck decision time passes and the recheck fails. -/
  | recheckDeadline (p : Nat) (set : Nat)
  /-- FENCE_NOTE (R405): A peer fences the expelled chip in its peer table. -/
  | fenceNote (chip : Nat) (part : Nat)
  /-- FT_DUE (R411): A core's field test falls due and a test or swap is arranged. -/
  | ftDue (d : Nat) (c : Nat) (p : Nat)
  /-- FT_NOW (R421): Makes the selected core due at once. -/
  | ftNow (m : Master)
  /-- FT_SWEEP (R421): Makes every core due at once. -/
  | ftSweep (m : Master)
  /-- FIELD_TEST_START (R410): Power and temperature allow it, so an UNDER_TEST core begins SOAK. -/
  | fieldTestStart (d : Nat) (c : Nat) (p : Nat) (temp : Int)
  /-- FIELD_TEST_DONE (R409): A test passes, making the core STANDBY, or fails, retiring it with a signature. -/
  | fieldTestDone (d : Nat) (c : Nat) (p : Nat) (us : Nat) (rise : Nat) (fail : Option (Nat × Nat × Nat × Nat × Int × Nat))
  /-- FORCED_SWAP (R414): At the end of the due window a pending swap is forced. -/
  | forcedSwap (d : Nat) (c : Nat) (p : Nat) (ns : Nat)
  /-- FORCED_SWAP_ABANDON (R414): A forced swap not begun within 2 ms is abandoned. -/
  | forcedSwapAbandon (d : Nat) (c : Nat) (p : Nat)
  /-- FORCED_SWAP_RETRY (R414): An abandoned forced swap is attempted again at every 100th tick edge. -/
  | forcedSwapRetry (d : Nat) (c : Nat) (p : Nat)
  /-- SIG_ACK (R422): Acknowledges a signature slot. -/
  | sigAck (m : Master)
  /-- SIG_DATA_READ (R422): Reads a signature word and advances SIG_OFF. -/
  | sigDataRead
  /-- CONTEXT_WATCHDOG (R428): A program with no completion for WD_CTX ticks faults. -/
  | contextWatchdog (lc : Nat)
  /-- ENGINE_WATCHDOG (R428): A busy engine without progress is reset. -/
  | engineWatchdog (d : Nat) (c : Nat) (p : Nat) (e : Nat)
  /-- SEQUENCER_WATCHDOG (R428): A sequencer missing probes is core-reset. -/
  | sequencerWatchdog (d : Nat) (c : Nat) (p : Nat)
  /-- PROGRAM_END_WATCHDOG (R428): A core not stopped within 20 µs of program end is reset. -/
  | programEndWatchdog (lc : Nat)
  /-- NMU_WATCHDOG (R428): An NMU without progress gets a datapath reset. -/
  | nmuWatchdog (k : Nat)
  /-- RST_GO (R443): Starts the compute reset named in RST_CMD. -/
  | rstGo (m : Master)
  /-- RESET_DONE (R433): Every unit of the domain is ready and the domain returns to service. -/
  | resetDone (level : Nat) (upath : Nat) (ns : Nat)
  /-- RESET_ESCALATE (R434): A reset overruns its bound and the next level starts. -/
  | resetEscalate (level : Nat) (upath : Nat)
  /-- MODULE_FAIL (R436): The compute power cycle overruns 50 ms and the module becomes FAILED. -/
  | moduleFail
  /-- NMU_DATAPATH_RESET_DONE (R437): An NMU datapath reset completes and queued commands resume. -/
  | nmuDatapathResetDone (k : Nat)
  /-- NMU_FAIL (R437): An NMU not returned within 10 ms becomes FAILED. -/
  | nmuFail (k : Nat)
  /-- FW_WATCHDOG (R447): A firmware watchdog fires, causing a takeover, restart or FAILED. -/
  | fwWatchdog (k : Nat)
  /-- FW_RESTART_DONE (R447): A restarted processor resumes from its running image. -/
  | fwRestartDone (k : Nat)
  /-- FW_FATAL_FAULT (R452): Punch reports a fatal fault of his own. -/
  | fwFatalFault (k : Nat)
  /-- TAKEOVER_DONE (R452): Judy becomes ACTIVE after checking her image and adopting the record. -/
  | takeoverDone (ns : Nat)
  /-- REVERT_HOLD_MET (R453): Punch has passed REVERT_HOLD ticks and takes control back by planned handover. -/
  | revertHoldMet
  /-- FAILOVER (R453): CC_CMD.FAILOVER hands control to standby Judy. -/
  | failover (m : Master)
  /-- FP_RESTART (R448): FP_CMD.RESTART restarts a FAILED processor. -/
  | fpRestart (m : Master)
  /-- GET_VERSION (R456): Returns a processor's image class, version and digest. -/
  | getVersion (m : Master) (n : Nat) (h : MHdr)
  /-- GET_HEALTH (R456): Returns both health registers and CC_STATUS. -/
  | getHealth (m : Master) (n : Nat) (h : MHdr)
  /-- FW_STAGE (R458): Writes an image chunk into the inactive slot. -/
  | fwStage (m : Master) (n : Nat) (h : MHdr) (cls : Nat) (off : Nat) (data : List Byte)
  /-- FW_VERIFY (R458): Verifies the staged image. -/
  | fwVerify (m : Master) (n : Nat) (h : MHdr) (cls : Nat) (img : ImgHdr)
  /-- FW_ACTIVATE (R459): Arms an update of a class for handover tick H. -/
  | fwActivate (m : Master) (n : Nat) (h : MHdr) (cls : Nat) (H : Nat)
  /-- FW_ABORT (R459): Disarms an armed update before H. -/
  | fwAbort (m : Master) (n : Nat) (h : MHdr) (cls : Nat)
  /-- FW_HANDOVER (R459): At H + 1 the processors of the class start the new image. -/
  | fwHandover (cls : Nat)
  /-- FW_PROBATION_END (R460): Probation ends and the new slot commits, or the CC update advances a step. -/
  | fwProbationEnd (cls : Nat)
  /-- FB_CLEAR (R469): Empties the kept area after the token is accepted. -/
  | fbClear (m : Master) (n : Nat) (h : MHdr) (tok : Token)
  /-- REC_W_0_READ (R467): Latches the record at the cursor into the window. -/
  | recW0Read (m : Master)
  /-- REC_W_15_READ (R467): Advances the Flip-book cursor. -/
  | recW15Read (m : Master)
  /-- FREEZE (R468): Freezes both Flip-book areas. -/
  | freeze (m : Master) (area : Nat)
  /-- THAW (R468): Thaws the Flip-book and records the gap. -/
  | thaw (m : Master) (area : Nat)
  /-- FREEZE_MAX_EXPIRY (R468): The Flip-book thaws FREEZE_MAX ticks after the freeze. -/
  | freezeMaxExpiry
  /-- ATT_REQUEST (R483): Makes a signed attestation report, optionally with a new encapsulation key. -/
  | attRequest (m : Master) (n : Nat) (h : MHdr) (part : Nat) (ek : Bool) (nonce : List Byte)
  /-- ATT_DATA_READ (R498): Reads a report word and advances ATT_OFF. -/
  | attDataRead (m : Master)
  /-- EK_EXPIRY (R483): An unused decapsulation key is erased 60 s after generation. -/
  | ekExpiry (part : Nat)
  /-- KEY_GRANT (R484): Unwraps and stores a partition's job key. -/
  | keyGrant (m : Master) (n : Nat) (h : MHdr) (b : List Byte)
  /-- KEY_INSTALL (R486): Installs a derived link key into a phase. -/
  | keyInstall (m : Master) (n : Nat) (h : MHdr) (part : Nat) (phase : Nat) (idx : Nat)
  /-- SEAL (R489): Closes and zeroes a partition's ranges and clusters. -/
  | sealPart (m : Master) (n : Nat) (h : MHdr) (part : Nat) (mask : Nat) (ranges : List (Nat × Nat)) (tag : List Byte)
  /-- SEAL_FILL_DONE (R489): The sealing fill completes and SEALED is set. -/
  | sealFillDone (p : Nat)
  /-- SEAL_LOAD (R490): Decrypts a load buffer into a sealed range. -/
  | sealLoad (m : Master) (n : Nat) (h : MHdr) (addr : Nat)
  /-- SEALED_CLEAR_DONE (R492): The sealed ranges are zeroed and the partition becomes FREE. -/
  | sealedClearDone (p : Nat)
  /-- TOKEN_CHALLENGE (R493): Returns a fresh 32-byte challenge. -/
  | tokenChallenge (m : Master) (n : Nat) (h : MHdr)
  /-- SVN_COMMIT (R481): A token raises SVN_MIN of a class. -/
  | svnCommit (m : Master) (n : Nat) (h : MHdr) (tok : Token)
  /-- OWNER_SET (R493): A token sets a pending owner key digest. -/
  | ownerSet (m : Master) (n : Nat) (h : MHdr) (tok : Token)
  /-- OWNER_KEY (R493): Stores the owner public key matching the pending digest. -/
  | ownerKey (m : Master) (n : Nat) (h : MHdr) (key : List Byte)
  /-- DEBUG_UNLOCK (R495): A token opens debug when no partition is sealed. -/
  | debugUnlock (m : Master) (n : Nat) (h : MHdr) (tok : Token)
  /-- RMA (R493): A token moves the life cycle to RMA at the next power-on. -/
  | rma (m : Master) (n : Nat) (h : MHdr) (tok : Token)
  /-- FLR (R512): A Function Level Reset resets the host launch state and releases host semaphores. -/
  | flr
  /-- PCIE_LINK_LOSS (R512): Loss of the PCIe link acts as an FLR. -/
  | pcieLinkLoss
  /-- BAR2_READ (R511): Reads memory through the BAR2 window. -/
  | bar2Read (off : Nat) (n : Nat)
  /-- BAR2_WRITE (R511): Writes memory through the BAR2 window. -/
  | bar2Write (off : Nat) (data : List Byte)
  /-- BAR2_SEL_WRITE (R511): Moves the BAR2 window, rejecting invalid spaces. -/
  | bar2SelWrite (m : Master) (v : Word)
  /-- MGMT_READ (R514): A management READ is executed locally or relayed. -/
  | mgmtRead (h : MgHdr) (space : Nat) (a : Nat) (n : Nat)
  /-- MGMT_WRITE (R514): A management WRITE is executed locally or relayed. -/
  | mgmtWrite (h : MgHdr) (space : Nat) (a : Nat) (data : List Byte)
  /-- SESSION_OPEN (R515): Opens a management session. -/
  | sessionOpen (h : MgHdr)
  /-- SESSION_CLOSE (R515): Closes a management session. -/
  | sessionClose (h : MgHdr)
  /-- KEEPALIVE (R515): Keeps a session open. -/
  | keepalive (h : MgHdr)
  /-- SESSION_IDLE_TIMEOUT (R515): A session closes after 10 s without a request. -/
  | sessionIdleTimeout (n : Nat)
  /-- SEQ_GAP_TIMEOUT (R515): A missing SEQ for 1 ms makes held requests answer GAP. -/
  | seqGapTimeout (n : Nat)
  /-- CHIP_ID_WRITE (R522): Assigns the chip number when no bundle is UP and every job partition is FREE. -/
  | chipIdWrite (m : Master) (v : Word)
  /-- EJECT_LATCH_OPEN (R523): The eject latch opens and the module enters REMOVE_PENDING. -/
  | ejectLatchOpen
  /-- REMOVE_REQ (R523): MOD_CMD.REMOVE_REQ enters REMOVE_PENDING. -/
  | removeReq (m : Master)
  /-- REMOVE_CANCEL (R523): Returns a module with a closed latch to READY. -/
  | removeCancel (m : Master)
  /-- SAFE_TO_REMOVE (R523): All partitions are FREE and transit has been idle, so the module powers down for removal. -/
  | safeToRemove
  /-- FLIT_BOUNDARY (R269): At each flit boundary of a port, Kaleidoscope assigns lanes to ring pairs and each lane places its next sequenced flit or an IDLE. -/
  | flitBoundary (p : Nat)
  /-- LANE_SIGNAL_LOCKED (R234): A copper lane in TRAINING detects signal and finishes lock and equalisation, which ends training step 1 and starts alignment. -/
  | laneSignalLocked (p : Nat) (n : Nat) (w0 : Nat) (w1 : Nat)
  /-- MGMT_PORT_LINK_CHANGE (R470): A management port's 25GBASE-R link comes up or goes down, which changes MGT_STATUS, the port used by the event stream, stream resumption and the PTP port state. -/
  | mgmtPortLinkChange (port : Nat) (up : Bool)
  /-- PCIE_LINK_UP (R509): The PCIe link trains or retrains to a rate and width, which updates PCIE_STATUS and RETRAIN_CNT and records event 0xC140. -/
  | pcieLinkUp (gen : Nat) (width : Nat) (flit : Bool)
  /-- EJECT_LATCH_CLOSE (R523): The eject latch closes, which clears MOD_STATE.LATCH_OPEN, the condition that REMOVE_CANCEL needs. -/
  | ejectLatchClose
  deriving DecidableEq, Repr

end Sys2Proof
end

