-- ==== Sys2Proof/Decode.lean ====
section
/-! DEFINITION. Commands from words. The rows of spec/opcode_table.json give no bits: a command reaches the block through its
interfaces, so no word spells one. -/
namespace Sys2Proof

/-- The command that a word spells: none, since no row of the table gives bits. -/
def decodeTableWord (_nbits _w : Nat) : Option Instr := none

end Sys2Proof
end

