-- ==== Sys2Proof/Machine/Crypto.lean ====
section
/-! DEFINITION. Checksums, finite fields and ciphers the spec names: CRC-32 (R223), CRC-32C (R172), GF(2^8) (R169, R200),
GF(2^128) (R201), AES-256 (FIPS 197, R79), AES-256-GCM (R516) and SHAKE256 (FIPS 202). Byte strings are lists,
byte 0 first. -/
namespace Sys2Proof.Machine

/-- One bit of a reflected CRC with the reflected polynomial `p`. -/
def crcBit (p v : Nat) : Nat := if v % 2 = 1 then (v / 2) ^^^ p else v / 2

/-- `n` bits of a reflected CRC. -/
def crcBits (p : Nat) : Nat → Nat → Nat
  | 0, v => v
  | n + 1, v => crcBits p n (crcBit p v)

/-- A reflected 32-bit CRC with initial value and final XOR of all ones. -/
def crc32With (p : Nat) (bs : List Byte) : Nat :=
  (bs.foldl (fun c b => crcBits p 8 (c ^^^ b.toNat)) 0xFFFFFFFF) ^^^ 0xFFFFFFFF

/-- CRC-32 of IEEE 802.3: polynomial 0x04C11DB7, reflected 0xEDB88320 (R223). -/
def crc32 (bs : List Byte) : Nat := crc32With 0xEDB88320 bs

/-- CRC-32C: polynomial 0x1EDC6F41, reflected 0x82F63B78 (R172). -/
def crc32c (bs : List Byte) : Nat := crc32With 0x82F63B78 bs

/-- Carry-less multiplication of `a` by `b` modulo the polynomial `p` of degree `w`, by the bits of `b` from bit
`n − 1` down. -/
def gfMulGo (w p a b : Nat) : Nat → Nat → Nat
  | 0, acc => acc
  | n + 1, acc =>
    let t := acc * 2
    let t := if t / 2 ^ w % 2 = 1 then t ^^^ p else t
    gfMulGo w p a b n (if b / 2 ^ n % 2 = 1 then t ^^^ a else t)

/-- Multiplication in GF(2^8) with the field polynomial of R169, x^8 + x^4 + x^3 + x^2 + 1. -/
def gf8Mul (a b : Nat) : Nat := gfMulGo 8 0x11D a b 8 0

/-- Powers in GF(2^8) of R169. -/
def gf8Pow (a : Nat) : Nat → Nat
  | 0 => 1
  | n + 1 => gf8Mul a (gf8Pow a n)

/-- Inverse in GF(2^8) of R169: a^254. -/
def gf8Inv (a : Nat) : Nat := gf8Pow a 254

/-! ### The inner code (R169, R171) -/

/-- The check symbols of RS(n + 3, n): what is left of the data times x^3 by the generator
(x − α^0)(x − α^1)(x − α^2) = x^3 + 7 x^2 + 14 x + 8, data byte 0 being the highest-degree coefficient. -/
def rsCheck (d : List Nat) : List Nat :=
  let r := d.foldl (fun (r : Nat × Nat × Nat) x =>
    let f := x ^^^ r.1
    (r.2.1 ^^^ gf8Mul f 7, r.2.2 ^^^ gf8Mul f 14, gf8Mul f 8)) (0, 0, 0)
  [r.1, r.2.1, r.2.2]

/-- The value of a word as a polynomial, its first symbol the highest-degree coefficient. -/
def rsEval (w : List Nat) (x : Nat) : Nat := w.foldl (fun acc c => gf8Mul acc x ^^^ c) 0

/-- The decoder: one symbol in error is corrected (the flag says so), what else is not a code word is uncorrectable. -/
def rsDecode (w : List Nat) : Option (List Nat × Bool) :=
  let s0 := rsEval w 1
  let s1 := rsEval w 2
  let s2 := rsEval w 4
  if s0 = 0 && s1 = 0 && s2 = 0 then some (w, false)
  else if s0 = 0 || s1 = 0 || s2 = 0 || gf8Mul s1 s1 != gf8Mul s0 s2 then none
  else
    let x := gf8Mul s1 (gf8Inv s0)
    ((List.range w.length).find? (fun i => gf8Pow 2 (w.length - 1 - i) == x)).map
      (fun i => (w.set i (w.getD i 0 ^^^ s0), true))

/-- Multiplication in GF(2^128) with x^128 + x^7 + x^2 + x + 1, bit i the coefficient of x^i (R201). -/
def gf128Mul (a b : Nat) : Nat := gfMulGo 128 (2 ^ 128 + 0x87) a b 128 0

/-! ### AES-256 (FIPS 197) -/

/-- Multiplication in the AES field, x^8 + x^4 + x^3 + x + 1. -/
def aesMul (a b : Nat) : Nat := gfMulGo 8 0x11B a b 8 0

/-- a^2 repeatedly: the powers that make a^254. -/
def aesInvGo (a : Nat) : Nat → Nat → Nat → Nat
  | 0, _, acc => acc
  | n + 1, sq, acc => let sq := aesMul sq sq; aesInvGo a n sq (aesMul acc sq)

/-- The AES field inverse, 0 for 0. -/
def aesInv (a : Nat) : Nat := aesInvGo a 7 a 1

/-- Rotate a byte left. -/
def rotl8 (a n : Nat) : Nat := (a * 2 ^ n + a / 2 ^ (8 - n)) % 256

/-- The S-box. -/
def aesSbox (a : Nat) : Nat :=
  let b := aesInv a
  b ^^^ rotl8 b 1 ^^^ rotl8 b 2 ^^^ rotl8 b 3 ^^^ rotl8 b 4 ^^^ 0x63

/-- XOR of two byte lists held as numbers. -/
def xorL (a b : List Nat) : List Nat := List.zipWith (fun x y => x ^^^ y) a b

/-- The key schedule: words of four bytes, newest first; `i` counts from 8. -/
def aesExpand (sb : Nat → Nat) : Nat → Nat → Nat → List (List Nat) → List (List Nat)
  | 0, _, _, ws => ws
  | n + 1, i, rcon, ws =>
    let prev := ws.headD []
    let back := ws.getD 7 []
    let t :=
      if i % 8 = 0 then
        let r := (prev.drop 1 ++ prev.take 1).map sb
        xorL r [rcon, 0, 0, 0]
      else if i % 8 = 4 then prev.map sb else prev
    aesExpand sb n (i + 1) (if i % 8 = 0 then aesMul rcon 2 else rcon) (xorL back t :: ws)

/-- Words of four bytes. -/
def quads : List Nat → List (List Nat)
  | a :: b :: c :: d :: t => [a, b, c, d] :: quads t
  | _ => []

/-- The fifteen round keys of a 32-byte key. -/
def aesRoundKeys (sb : Nat → Nat) (key : List Nat) : List (List Nat) :=
  let ws := (aesExpand sb 52 8 1 (quads key).reverse).reverse
  (List.range 15).map (fun r => ((ws.drop (4 * r)).take 4).flatten)

/-- ShiftRows on the column-major state. -/
def aesShift (s : List Nat) : List Nat :=
  (List.range 16).map (fun i => s.getD ((i + 4 * (i % 4)) % 16) 0)

/-- MixColumns of one column. -/
def aesMixCol (c : List Nat) : List Nat :=
  let g (i : Nat) : Nat := c.getD (i % 4) 0
  (List.range 4).map (fun i => aesMul (g i) 2 ^^^ aesMul (g (i + 1)) 3 ^^^ g (i + 2) ^^^ g (i + 3))

/-- The rounds of the cipher: all but the last mix columns. -/
def aesRounds (sb : Nat → Nat) : List (List Nat) → List Nat → List Nat
  | [], s => s
  | [k], s => xorL (aesShift (s.map sb)) k
  | k :: t, s => aesRounds sb t (xorL ((quads (aesShift (s.map sb))).map aesMixCol).flatten k)

/-- AES-256-Encrypt of one 16-byte block, as numbers. -/
def aes256Nat (key block : List Nat) : List Nat :=
  let tab := (List.range 256).map aesSbox
  let sb (x : Nat) : Nat := tab.getD x 0
  match aesRoundKeys sb key with
  | [] => block
  | k :: t => aesRounds sb t (xorL block k)

/-- AES-256-Encrypt of one 16-byte block. -/
def aes256 (key block : List Byte) : List Byte :=
  (aes256Nat (key.map (·.toNat)) (block.map (·.toNat))).map (BitVec.ofNat 8)

/-- The 16-bit draw of the Nymit counter generator for element index `e` (R77–R79, Table 3.2). -/
def nymitDraw (seed step tensor e : Nat) : Nat :=
  let key := bytesLE 16 seed ++ bytesLE 8 step ++ bytesLE 4 tensor ++ bytesLE 4 0
  let blk := bytesLE 8 (e / 8) ++ bytesLE 8 0
  natLE (((aes256 key blk).drop (2 * (e % 8))).take 2)

/-! ### AES-256-GCM (NIST SP 800-38D) with a 12-byte IV -/

/-- Big-endian number of a byte list. -/
def natBE (bs : List Byte) : Nat := bs.foldl (fun a b => a * 256 + b.toNat) 0

/-- `n` bytes of a number, most significant first. -/
def bytesBE (n v : Nat) : List Byte := (bytesLE n v).reverse

/-- GHASH multiplication: bit 0 of a block is its most significant bit. -/
def ghashMulGo (x : Nat) : Nat → Nat → Nat → Nat
  | 0, _, z => z
  | n + 1, v, z =>
    let z := if x / 2 ^ n % 2 = 1 then z ^^^ v else z
    let v := if v % 2 = 1 then (v / 2) ^^^ (0xE1 * 2 ^ 120) else v / 2
    ghashMulGo x n v z

/-- Blocks of 16 bytes, the last padded with zeros; `fuel` is the number of bytes. -/
def blocks16 : Nat → List Byte → List (List Byte)
  | 0, _ => []
  | n + 1, bs =>
    if bs.isEmpty then [] else
      let b := bs.take 16
      (b ++ List.replicate (16 - b.length) 0) :: blocks16 n (bs.drop 16)

/-- GHASH over additional data and ciphertext. -/
def ghash (h : Nat) (aad ct : List Byte) : Nat :=
  let bl := blocks16 aad.length aad ++ blocks16 ct.length ct
    ++ [bytesBE 8 (8 * aad.length) ++ bytesBE 8 (8 * ct.length)]
  bl.foldl (fun y b => ghashMulGo (y ^^^ natBE b) 128 h 0) 0

/-- XOR of two byte strings, to the shorter length. -/
def xorBytes (a b : List Byte) : List Byte := List.zipWith (fun x y => x ^^^ y) a b

/-- The CTR keystream over `bs`, from block counter `ctr`. -/
def gcmCtr (key iv : List Byte) : Nat → Nat → List Byte → List Byte
  | 0, _, _ => []
  | n + 1, ctr, bs =>
    if bs.isEmpty then [] else
      xorBytes (bs.take 16) (aes256 key (iv ++ bytesBE 4 ctr)) ++ gcmCtr key iv n (ctr + 1) (bs.drop 16)

/-- The GCM tag of a ciphertext. -/
def gcmTag (key iv aad ct : List Byte) : List Byte :=
  let h := natBE (aes256 key (List.replicate 16 0))
  xorBytes (bytesBE 16 (ghash h aad ct)) (aes256 key (iv ++ bytesBE 4 1))

/-- AES-256-GCM encryption: ciphertext and 16-byte tag. -/
def gcmSeal (key iv aad pt : List Byte) : List Byte × List Byte :=
  let ct := gcmCtr key iv (pt.length + 1) 2 pt
  (ct, gcmTag key iv aad ct)

/-- AES-256-GCM decryption: the plaintext where the tag agrees. -/
def gcmOpen (key iv aad ct tag : List Byte) : Option (List Byte) :=
  if gcmTag key iv aad ct = tag then some (gcmCtr key iv (ct.length + 1) 2 ct) else none

/-! ### SHAKE256 (FIPS 202) -/

/-- Rotate a 64-bit lane left. -/
def rotl64 (a n : Nat) : Nat := let n := n % 64; (a * 2 ^ n + a / 2 ^ (64 - n)) % 2 ^ 64

/-- One step of the round-constant shift register (x^8 + x^6 + x^5 + x^4 + 1). -/
def kecLfsr (r : Nat) : Nat := let r := r * 2; if r / 256 = 1 then r ^^^ 0x171 else r

/-- Bits of the round constant and the register after them; `j` counts from 0 to 6. -/
def kecRcGo : Nat → Nat → Nat → Nat → Nat × Nat
  | 0, _, r, acc => (acc, r)
  | n + 1, j, r, acc => kecRcGo n (j + 1) (kecLfsr r) (if r % 2 = 1 then acc ^^^ 2 ^ (2 ^ j - 1) else acc)

/-- The rotation offsets of ρ, lane x + 5y. -/
def kecRho : List Nat :=
  [0, 1, 62, 28, 27, 36, 44, 6, 55, 20, 3, 10, 43, 25, 39, 41, 45, 15, 21, 8, 18, 2, 61, 56, 14]

/-- One round of Keccak-f[1600]. -/
def kecRound (rc : Nat) (a : List Nat) : List Nat :=
  let g (l : List Nat) (i : Nat) : Nat := l.getD i 0
  let c := (List.range 5).map (fun x => g a x ^^^ g a (x + 5) ^^^ g a (x + 10) ^^^ g a (x + 15) ^^^ g a (x + 20))
  let d := (List.range 5).map (fun x => g c ((x + 4) % 5) ^^^ rotl64 (g c ((x + 1) % 5)) 1)
  let t := (List.range 25).map (fun i => g a i ^^^ g d (i % 5))
  -- ρ and π: lane (x, y) moves to (y, 2x + 3y)
  let b := (List.range 25).map (fun i =>
    let x := i % 5
    let y := i / 5
    -- the source lane (x0, y0) with y0 = x and 2 x0 + 3 y0 = y (mod 5)
    let x0 := (x + 3 * y) % 5
    let src := x0 + 5 * x
    rotl64 (g t src) (g kecRho src))
  let chi := (List.range 25).map (fun i =>
    let x := i % 5
    let r := i - x
    g b i ^^^ ((2 ^ 64 - 1 - g b (r + (x + 1) % 5)) &&& g b (r + (x + 2) % 5)))
  match chi with
  | [] => []
  | h :: t => (h ^^^ rc) :: t

/-- The rounds of Keccak-f[1600]. -/
def kecRounds : Nat → Nat → List Nat → List Nat
  | 0, _, a => a
  | n + 1, r, a => let (rc, r') := kecRcGo 7 0 r 0; kecRounds n r' (kecRound rc a)

/-- Keccak-f[1600]. -/
def keccakF (a : List Nat) : List Nat := kecRounds 24 1 a

/-- Lanes of a byte string. -/
def lanes64 : Nat → List Byte → List Nat
  | 0, _ => []
  | n + 1, bs => natLE (bs.take 8) :: lanes64 n (bs.drop 8)

/-- Absorb blocks of 136 bytes. -/
def shakeAbsorb : Nat → List Byte → List Nat → List Nat
  | 0, _, a => a
  | n + 1, bs, a =>
    if bs.isEmpty then a
    else shakeAbsorb n (bs.drop 136) (keccakF (xorL a (lanes64 17 (bs.take 136) ++ List.replicate 8 0)))

/-- Squeeze blocks of 136 bytes. -/
def shakeSqueeze : Nat → List Nat → List Byte
  | 0, _ => []
  | n + 1, a => (a.take 17).flatMap (bytesLE 8) ++ shakeSqueeze n (keccakF a)

/-- SHAKE256 of a byte string, `n` bytes of output. -/
def shake256 (msg : List Byte) (n : Nat) : List Byte :=
  let pad := 136 - msg.length % 136
  let tail : List Byte := if pad = 1 then [0x9F] else [0x1F] ++ List.replicate (pad - 2) 0 ++ [0x80]
  let st := shakeAbsorb (msg.length / 136 + 1) (msg ++ tail) (List.replicate 25 0)
  (shakeSqueeze (n / 136 + 1) st).take n

/-- The bytes of an ASCII label. -/
def ascii (l : String) : List Byte := l.toList.map (fun c => BitVec.ofNat 8 c.toNat)

/-- A key derived from another by label and fields (R484, R485). -/
def deriveKey (key : List Byte) (label : String) (fields : List Byte) : List Byte := shake256 (key ++ ascii label ++ fields) 32

end Sys2Proof.Machine
end

