-- ==== Sys2Proof/Config.lean ====
section
/-! DEFINITION. What an implementation fixes, and the free values: constants with no body, so that no proof can see
what they are. Each is named in a log entry. -/
namespace Sys2Proof

/-- OFS_NS of the Flip-book record with this SEQ (R463): ns within its tick, which the model does not follow. -/
opaque Config.ofsNs : Nat → Fin 10000

/-- Whether firmware or hardware raises the event of this code: FW of the Flip-book record (R463; no rule says it of each code). -/
opaque Config.fwRaised : Nat → Bool

/-- cr(f) of Table 4.7 where the model's interval enclosures do not decide the rounding: the function's SUBOP and the
operand's bits. -/
opaque Config.undecidedRounding : Nat → Word → Word

/-- ML-DSA-65 verification (FIPS 204): key, message, signature. -/
opaque Config.mlDsaVerify : List Byte → List Byte → List Byte → Bool

/-- The ML-DSA-65 public key that a seed gives (FIPS 204): 1,952 bytes. -/
opaque Config.mlDsaKey : List Byte → BitVec 15616

/-- ML-DSA-65 signing of a message under the key of a seed: 3,309 bytes. -/
opaque Config.mlDsaSign : List Byte → List Byte → BitVec 26472

/-- ML-KEM-1024 key generation from the n-th fresh random seed: the encapsulation key of 1,568 bytes. -/
opaque Config.mlKemKey : Nat → BitVec 12544

/-- ML-KEM-1024 decapsulation with the n-th key: the shared secret of 32 bytes, none where the ciphertext is rejected. -/
opaque Config.mlKemDecap : Nat → List Byte → Option (BitVec 256)

/-- What ATT_DATA returns at a byte offset beyond the last report (R498 gives no value there). -/
opaque Config.attBeyond : Nat → Byte

/-- What the n-th read of a page that does not answer returns (R480 gives no value). -/
opaque Config.noAnswer : Nat → Word

/-- The n-th 32-byte random value of the security processor. -/
opaque Config.random32 : Nat → BitVec 256

/-- The 64-bit integer that a NaN, an infinity or an element of a block with scale 0xFF contributes to an EXACT collective
(R84 states none), by its bits and its scale. -/
opaque Config.exactInt : Nat → Nat → DWord

/-- Where in its staging area a collective buffers a contribution that is ahead of its turn (R83 gives no layout): by tag, rank and offset. -/
opaque Config.stageAt : Nat → Nat → Nat → Nat

/-- How long, in ns, the first write held on a stack had waited when a snapshot aborted (R214, R217): by stack + 16 × its ABORT_CNT; or when
a consuming read ended the hold, by 2^40 + the number of the draw. -/
opaque Config.holdNs : Nat → Nat

/-- The bytes of payload fields that the spec lists and does not place (Table 8.3 of COLL_DATA, COLL_CREDIT, COLL_ABORT and CREDIT, and
0x900 + OP for the further fields of Tables 13.3 and 14.1; 0x09 for the 8 bytes beside the 208 of a relayed message's piece, R517), by
TYPE and the fields. -/
opaque Config.flitFields : Nat → List Nat → List Byte

/-- The time within its tick, in ns, of the n-th flit boundary: TS of the TRAIN flits sent then (Table 8.5). -/
opaque Config.boundaryNs : Nat → Fin 10000

/-- Credits that a sender holds towards a peer when a bundle comes up, by 2 × class + VC (R146, R225 give no number). -/
opaque Config.linkCredits : Nat → Nat

/-- The time within its tick, in 2^−16 ns, at which the n-th latch of the time base that no operand times takes place. -/
opaque Config.latchSub : Nat → Fin 655360000

/-- The n-th correction of the PI servo, in 0.1 ppb (R320 gives its bandwidth and no gains). -/
opaque Config.servoRate : Nat → Int

end Sys2Proof
end

