-- ==== Sys2Proof/Machine/Num.lean ====
section
/-! DEFINITION. Number formats and their arithmetic: decoding (R38–R44, R50), rounding and conversion
(R53–R60, R76), quantisation (R62), FP32 operations (R72) and the correctly rounded square root and division. -/
namespace Sys2Proof.Machine

/-- An exact value: NaN, ±infinity, or a signed fraction `num / den` (R53 step 1; zero keeps its sign). -/
inductive Val where
  | nan
  | inf (neg : Bool)
  | fin (neg : Bool) (num den : Nat)
  deriving DecidableEq, Repr, Inhabited

/-- The integer part of the base-2 logarithm of `n`, 0 for 0. -/
def log2Nat (n : Nat) : Nat := Nat.log2 n

/-- ⌊log2 (num / den)⌋ of a positive fraction. -/
def log2Frac (num den : Nat) : Int :=
  let e : Int := (log2Nat num : Int) - (log2Nat den : Int)
  -- the quotient lies in (2^(e-1), 2^(e+1))
  let ge : Bool := if 0 ≤ e then decide (den * 2 ^ e.toNat ≤ num) else decide (den ≤ num * 2 ^ (-e).toNat)
  if ge then e else e - 1

/-- `num / den × 2^k` as a fraction. -/
def scaleFrac (num den : Nat) (k : Int) : Nat × Nat :=
  if 0 ≤ k then (num * 2 ^ k.toNat, den) else (num, den * 2 ^ (-k).toNat)

/-- A dyadic value `(-1)^neg × m × 2^e`. -/
def Val.dyadic (neg : Bool) (m : Nat) (e : Int) : Val :=
  let (n, d) := scaleFrac m 1 e
  .fin neg n d

/-- An integer times a power of two. -/
def Val.ofIntExp (m : Int) (e : Int) : Val := Val.dyadic (decide (m < 0)) m.natAbs e

/-- Exponent bits, mantissa bits and bias of the float codes 0–7 (Table 2.1). -/
def fpShape (c : Nat) : Nat × Nat × Nat :=
  if c = 0 then (8, 23, 127) else if c = 1 then (8, 7, 127) else if c = 2 then (5, 10, 15)
  else if c = 3 then (5, 2, 15) else if c = 4 then (4, 3, 7) else if c = 5 then (3, 2, 3)
  else if c = 6 then (2, 3, 1) else (2, 1, 1)

/-- Element width in bits (Table 2.1). -/
def fmtWidth (c : Nat) : Nat :=
  if c = 0 then 32 else if c ≤ 2 then 16 else if c = 3 || c = 4 || c = 8 || c = 10 then 8
  else if c = 5 || c = 6 then 6 else if c = 7 || c = 9 then 4 else 2

/-- Elements per packing group (Table 2.2). -/
def fmtGroup (c : Nat) : Nat :=
  if c = 5 || c = 6 || c = 11 then 4 else if c = 7 || c = 9 then 2 else 1

/-- Bytes per packing group (Table 2.2). -/
def fmtGroupBytes (c : Nat) : Nat := fmtWidth c * fmtGroup c / 8

/-- Start address and stride alignment in bytes (Table 2.2, R46). -/
def fmtAlign (c : Nat) : Nat := if c = 0 then 4 else if c ≤ 2 then 2 else 1

/-- Decode a float element of codes 0–7 (R39, Table 2.1). -/
def decodeFloat (c bits : Nat) : Val :=
  let (eb, mb, bias) := fpShape c
  let m := bits % 2 ^ mb
  let e := bits / 2 ^ mb % 2 ^ eb
  let neg := bits / 2 ^ (mb + eb) % 2 == 1
  if c ≤ 3 && e = 2 ^ eb - 1 then (if m = 0 then .inf neg else .nan)
  else if c = 4 && e = 15 && m = 7 then .nan
  else if e = 0 then Val.dyadic neg m (1 - (bias : Int) - (mb : Int))
  else Val.dyadic neg (2 ^ mb + m) ((e : Int) - (bias : Int) - (mb : Int))

/-- Decode an unscaled element of any code (R39–R44). The flag says that a reserved T2 pattern was read. -/
def decodeElem (c bits : Nat) : Val × Bool :=
  if c ≤ 7 then (decodeFloat c bits, false)
  else if c = 8 then (Val.ofIntExp (signedOf 8 bits) 0, false)
  else if c = 9 then (Val.ofIntExp (signedOf 4 bits) 0, false)
  else if c = 10 then
    (if bits % 256 = 255 then (.nan, false) else (Val.dyadic false 1 ((bits % 256 : Nat) - (127 : Int)), false))
  else
    let b := bits % 4
    if b = 1 then (.fin false 1 1, false) else if b = 3 then (.fin true 1 1, false)
    else (.fin false 0 1, b == 2)

/-- The fixed exponent of a block-scaled integer element (Table 2.3). -/
def blockFactor (c : Nat) : Int := if c = 8 then -6 else if c = 9 then -2 else 0

/-- Multiply a value by 2^k. -/
def Val.scale (v : Val) (k : Int) : Val :=
  match v with
  | .fin s n d => let (n', d') := scaleFrac n d k; .fin s n' d'
  | x => x

/-- Decode a block-scaled element with scale byte `sc` (Table 2.3, R50). DESIGN CHOICE (log entry 89): a reserved pattern under scale
0xFF is reported too. -/
def decodeScaled (c bits sc : Nat) : Val × Bool :=
  if sc % 256 = 255 then (.nan, (decodeElem c bits).2)
  else
    let (v, f) := decodeElem c bits
    (v.scale ((sc % 256 : Nat) - (127 : Int) + blockFactor c), f)

/-- How a value chooses between its neighbours: round to nearest even, or by a 16-bit draw (R54, R76). -/
inductive Rnd where
  | rne
  | draw (r : Nat)
  deriving DecidableEq, Repr

/-- Round `num / den` to an integer (R54, R76). -/
def roundFrac (rnd : Rnd) (num den : Nat) : Nat :=
  let lo := num / den
  let rem := num % den
  if rem = 0 then lo
  else match rnd with
  | .rne => if 2 * rem < den then lo else if den < 2 * rem then lo + 1 else if lo % 2 = 0 then lo else lo + 1
  | .draw r => if r < rem * 65536 / den then lo + 1 else lo

/-- Round a positive fraction to `mb` mantissa bits over exponents from `emin` upwards, unbounded above (R54):
the integer significand and its weight exponent. -/
def roundFloat (rnd : Rnd) (mb : Nat) (emin : Int) (num den : Nat) : Nat × Int :=
  if num = 0 then (0, emin - mb)
  else
    let e := log2Frac num den
    let e := if e < emin then emin else e
    let q := e - (mb : Int)
    let (n, d) := scaleFrac num den (-q)
    (roundFrac rnd n d, q)

/-- The result of one conversion: its bits, and whether it set INVALID and SATURATED (R65). -/
structure Cv where
  bits : Nat := 0
  inv : Bool := false
  sat : Bool := false
  deriving DecidableEq, Repr, Inhabited

/-- The canonical NaN (R41). -/
def canonNaN (c : Nat) : Nat :=
  if c = 0 then 0x7FC00000 else if c = 1 then 0x7FC0 else if c = 2 then 0x7E00
  else if c = 3 then 0x7E else if c = 4 then 0x7F else if c = 10 then 0xFF else 0

/-- The encoding of the largest finite value of a float code (Table 2.1). -/
def maxFiniteBits (c : Nat) : Nat :=
  if c = 0 then 0x7F7FFFFF else if c = 1 then 0x7F7F else if c = 2 then 0x7BFF
  else if c = 3 then 0x7B else if c = 4 then 0x7E else if c = 5 then 0x1F
  else if c = 6 then 0x1F else 0x7

/-- The sign bit of a float code. -/
def signBit (c : Nat) (neg : Bool) : Nat := if neg then 2 ^ (fmtWidth c - 1) else 0

/-- Encode a rounded significand (R53 step 3, R55, R57). -/
def encodeFloat (c : Nat) (satF : Bool) (neg : Bool) (k : Nat) (q : Int) : Cv :=
  let (_, mb, bias) := fpShape c
  let (k, q) := if 2 ^ (mb + 1) ≤ k then (k / 2, q + 1) else (k, q)
  let mag : Nat :=
    if k < 2 ^ mb then k
    else ((q + mb + bias).toNat) * 2 ^ mb + (k - 2 ^ mb)
  if mag ≤ maxFiniteBits c then { bits := signBit c neg + mag }
  else if satF then { bits := signBit c neg + maxFiniteBits c, sat := true }
  else if c ≤ 3 then
    let (eb, mb, _) := fpShape c
    { bits := signBit c neg + (2 ^ eb - 1) * 2 ^ mb, sat := true }
  else if c = 4 then { bits := canonNaN 4, sat := true }
  else { bits := signBit c neg + maxFiniteBits c, sat := true }

/-- Conversion to a float code (R54–R57). DEDUCED (log entry 87): an infinity under SAT = 1 follows Table 2.5 on a pair marked X too. -/
def convFloat (c : Nat) (satF : Bool) (rnd : Rnd) (v : Val) : Cv :=
  match v with
  | .nan => if c ≤ 4 then { bits := canonNaN c } else { bits := 0, inv := true }
  | .inf neg =>
    if c ≤ 3 && !satF then
      let (eb, mb, _) := fpShape c
      { bits := signBit c neg + (2 ^ eb - 1) * 2 ^ mb }
    else if c = 4 && !satF then { bits := canonNaN 4, sat := true }
    else { bits := signBit c neg + maxFiniteBits c, sat := true }
  | .fin neg n d =>
    if n = 0 then { bits := signBit c neg }
    else
      let (_, mb, bias) := fpShape c
      let (k, q) := roundFloat rnd mb (1 - (bias : Int)) n d
      encodeFloat c satF neg k q

/-- Conversion to INT8 or INT4 of width `w`, clamped to −`lo`…`hi` (R56, R58). -/
def convInt (w lo hi : Nat) (rnd : Rnd) (v : Val) : Cv :=
  let enc (neg : Bool) (m : Nat) : Nat := unsignedOf w (if neg then -(m : Int) else (m : Int))
  match v with
  | .nan => { bits := 0, inv := true }
  | .inf neg => { bits := enc neg (if neg then lo else hi), sat := true }
  | .fin neg n d =>
    let m := roundFrac rnd n d
    let lim := if neg then lo else hi
    if lim < m then { bits := enc neg lim, sat := true } else { bits := enc neg m }

/-- Conversion to T2 (R56, R59). -/
def convT2 (rnd : Rnd) (v : Val) : Cv :=
  let enc (neg : Bool) : Nat := if neg then 3 else 1
  match v with
  | .nan => { bits := 0, inv := true }
  | .inf neg => { bits := enc neg, sat := true }
  | .fin neg n d =>
    if d < n then { bits := enc neg, sat := true }
    else if n = d then { bits := enc neg }
    else match rnd with
    | .rne => if d < 2 * n then { bits := enc neg } else { bits := 0 }
    | .draw r => if r < n * 65536 / d then { bits := enc neg } else { bits := 0 }

/-- Conversion to E8M0 (R56, R60). -/
def convE8M0 (satF : Bool) (v : Val) : Cv :=
  match v with
  | .nan => { bits := 0xFF }
  | .inf true => { bits := 0xFF, inv := true }
  | .inf false => { bits := if satF then 0xFE else 0xFF, sat := true }
  | .fin neg n d =>
    if n = 0 then { bits := 0 }
    else if neg then { bits := 0xFF, inv := true }
    else
      let e := log2Frac n d
      if e < -127 then { bits := 0, sat := true }
      else if 127 < e then { bits := 254, sat := true }
      else { bits := (e + 127).toNat }

/-- Conversion of an exact value to an unscaled destination of code `c` (R53–R60). -/
def convert (c : Nat) (satF : Bool) (rnd : Rnd) (v : Val) : Cv :=
  if c ≤ 7 then convFloat c satF rnd v
  else if c = 8 then convInt 8 128 127 rnd v
  else if c = 9 then convInt 4 8 7 rnd v
  else if c = 10 then convE8M0 satF v
  else convT2 rnd v

/-- emax of a quantise destination (Table 2.7). -/
def quantEmax (c : Nat) : Int :=
  if c = 3 then 15 else if c = 4 then 8 else if c = 5 then 4 else if c = 6 then 2 else if c = 7 then 2 else 0

/-- The magnitude of a value as a fraction. -/
def Val.mag : Val → Nat × Nat
  | .fin _ n d => (n, d)
  | _ => (0, 1)

/-- Is the first fraction smaller than the second? -/
def fracLt (a b : Nat × Nat) : Bool := decide (a.1 * b.2 < b.1 * a.2)

/-- The largest magnitude of a list of values (R62 step 1). -/
def amaxOf (vs : List Val) : Nat × Nat :=
  vs.foldl (fun m v => if fracLt m v.mag then v.mag else m) (0, 1)

/-- A value is NaN or infinite. -/
def Val.special : Val → Bool
  | .fin _ _ _ => false
  | _ => true

/-- Quantise one element given the scale exponent (R62 step 4): symmetric saturation. -/
def quantElem (c : Nat) (rnd : Rnd) (e : Int) (v : Val) : Cv :=
  let u := v.scale (-e - blockFactor c)
  if c ≤ 7 then convFloat c true rnd u
  else if c = 8 then convInt 8 127 127 rnd u
  else if c = 9 then convInt 4 7 7 rnd u
  else convT2 rnd u

/-- Quantise one block (R62): the scale byte and the converted elements, each with its own draw. DESIGN CHOICE (log entry 88): of a
block that holds a NaN or an infinity every element counts as invalid. -/
def quantBlock (c : Nat) (vs : List (Val × Rnd)) : Nat × List Cv :=
  let vals := vs.map (·.1)
  if vals.any Val.special then (0xFF, vs.map (fun _ => { bits := 0, inv := true }))
  else
    let (n, d) := amaxOf vals
    if n = 0 then (0, vs.map (fun _ => { bits := 0 }))
    else
      let e := log2Frac n d - quantEmax c
      let e := if e < -127 then -127 else if 127 < e then 127 else e
      ((e + 127).toNat, vs.map (fun p => quantElem c p.2 e p.1))

/-! ### FP32 operations on bit patterns (R72, R121) -/

/-- The FP32 canonical NaN. -/
def f32NaN : Nat := 0x7FC00000

/-- Decode an FP32 pattern. -/
def f32Val (b : Nat) : Val := decodeFloat 0 b

/-- rne32 (R72): round an exact value to FP32 by R54 with RND = 0; overflow gives infinity. -/
def rne32 (v : Val) : Nat := (convFloat 0 false .rne v).bits

/-- Sign of a value; NaN counts as positive. -/
def Val.neg : Val → Bool
  | .fin s _ _ => s
  | .inf s => s
  | .nan => false

/-- Is the value a zero? -/
def Val.isZero : Val → Bool
  | .fin _ n _ => n == 0
  | _ => false

/-- Negate a value. -/
def Val.negate : Val → Val
  | .fin s n d => .fin (!s) n d
  | .inf s => .inf (!s)
  | .nan => .nan

/-- Exact sum with the IEEE rules for zeros and infinities (R72). -/
def Val.add (a b : Val) : Val :=
  match a, b with
  | .nan, _ => .nan
  | _, .nan => .nan
  | .inf s, .inf t => if s = t then .inf s else .nan
  | .inf s, _ => .inf s
  | _, .inf t => .inf t
  | .fin s n d, .fin t m e =>
    if n = 0 && m = 0 then .fin (s && t) 0 1
    else
      let x : Int := (if s then -((n * e : Nat) : Int) else ((n * e : Nat) : Int))
        + (if t then -((m * d : Nat) : Int) else ((m * d : Nat) : Int))
      .fin (decide (x < 0)) x.natAbs (d * e)

/-- Exact product (R70, R72). -/
def Val.mul (a b : Val) : Val :=
  match a, b with
  | .nan, _ => .nan
  | _, .nan => .nan
  | .inf s, .inf t => .inf (s != t)
  | .inf s, .fin t m _ => if m = 0 then .nan else .inf (s != t)
  | .fin s n _, .inf t => if n = 0 then .nan else .inf (s != t)
  | .fin s n d, .fin t m e => .fin (s != t) (n * m) (d * e)

/-- Exact quotient with the IEEE rules (R123). -/
def Val.div (a b : Val) : Val :=
  match a, b with
  | .nan, _ => .nan
  | _, .nan => .nan
  | .inf _, .inf _ => .nan
  | .inf s, .fin t _ _ => .inf (s != t)
  | .fin s _ _, .inf t => .fin (s != t) 0 1
  | .fin s n d, .fin t m e =>
    if m = 0 then (if n = 0 then .nan else .inf (s != t)) else .fin (s != t) (n * e) (d * m)

def f32Add (a b : Nat) : Nat := rne32 ((f32Val a).add (f32Val b))
def f32Sub (a b : Nat) : Nat := rne32 ((f32Val a).add (f32Val b).negate)
def f32Mul (a b : Nat) : Nat := rne32 ((f32Val a).mul (f32Val b))
def f32Div (a b : Nat) : Nat := rne32 ((f32Val a).div (f32Val b))
/-- cr(a × b + c) with one rounding (R123). -/
def f32Fma (a b c : Nat) : Nat := rne32 (((f32Val a).mul (f32Val b)).add (f32Val c))

/-- Order of two finite or infinite values: is `a` below `b`? NaN is below nothing. -/
def Val.lt (a b : Val) : Bool :=
  match a, b with
  | .nan, _ => false
  | _, .nan => false
  | .inf s, .inf t => s && !t
  | .inf s, .fin _ _ _ => s
  | .fin _ _ _, .inf t => !t
  | .fin s n d, .fin t m e =>
    if n = 0 && m = 0 then false
    else match s, t with
    | false, false => decide (n * e < m * d)
    | true, true => decide (m * d < n * e)
    | true, false => true
    | false, true => false

/-- Is the pattern an FP32 NaN? -/
def f32IsNaN (b : Nat) : Bool := match f32Val b with | .nan => true | _ => false

/-- Maximum (R123): NaN gives the canonical NaN, max(±0, ∓0) = +0. -/
def f32Max (a b : Nat) : Nat :=
  if f32IsNaN a || f32IsNaN b then f32NaN
  else if (f32Val a).isZero && (f32Val b).isZero then (if (f32Val a).neg && (f32Val b).neg then a else 0)
  else if (f32Val a).lt (f32Val b) then b else a

/-- Minimum (R123): min(±0, ∓0) = −0. -/
def f32Min (a b : Nat) : Nat :=
  if f32IsNaN a || f32IsNaN b then f32NaN
  else if (f32Val a).isZero && (f32Val b).isZero then
    (if (f32Val a).neg || (f32Val b).neg then 0x80000000 else 0)
  else if (f32Val b).lt (f32Val a) then b else a

/-- ⌊√n⌋ by bits from `2^k` downwards. -/
def isqrtBits : Nat → Nat → Nat → Nat
  | 0, n, r => if (r + 1) * (r + 1) ≤ n then r + 1 else r
  | k + 1, n, r =>
    let t := r + 2 ^ (k + 1)
    isqrtBits k n (if t * t ≤ n then t else r)

/-- ⌊√n⌋. -/
def isqrt (n : Nat) : Nat := isqrtBits (log2Nat n / 2 + 1) n 0

/-- A fraction that rounds as √(num / den) does: 64 or more exact bits and a sticky bit below them. -/
def sqrtSticky (num den : Nat) : Nat × Nat :=
  let e := log2Frac num den
  let k : Nat := 160 + e.natAbs
  let x := num * 4 ^ k / den
  let exact := num * 4 ^ k % den == 0
  let r := isqrt x
  (2 * r + (if exact && r * r == x then 0 else 1), 2 * 2 ^ k)

/-- cr(√x) (R122). -/
def f32Sqrt (b : Nat) : Nat :=
  match f32Val b with
  | .nan => f32NaN
  | .inf true => f32NaN
  | .inf false => 0x7F800000
  | .fin s n d =>
    if n = 0 then b else if s then f32NaN
    else let (p, q) := sqrtSticky n d; rne32 (.fin false p q)

/-- cr(1 / √x) (R122). -/
def f32Rsqrt (b : Nat) : Nat :=
  match f32Val b with
  | .nan => f32NaN
  | .inf true => f32NaN
  | .inf false => 0
  | .fin s n d =>
    if n = 0 then (if s then 0xFF800000 else 0x7F800000)
    else if s then f32NaN
    else let (p, q) := sqrtSticky d n; rne32 (.fin false p q)

/-- cr(1 / x) (R122). -/
def f32Recip (b : Nat) : Nat := f32Div 0x3F800000 b

/-! ### The FP32 tree order (R72, R74) -/

/-- The `add` of R72's listing: an absent operand is skipped. -/
def f32AddOpt (x y : Option Nat) : Option Nat :=
  match x, y with
  | none, y => y
  | x, none => x
  | some a, some b => some (f32Add a b)

/-- One group of eight products in the order of R72. -/
def f32Group (p : List Nat) : Option Nat :=
  let g (i : Nat) : Option Nat := p[i]?
  f32AddOpt (f32AddOpt (f32AddOpt (g 0) (g 1)) (f32AddOpt (g 2) (g 3)))
    (f32AddOpt (f32AddOpt (g 4) (g 5)) (f32AddOpt (g 6) (g 7)))

/-- The accumulation of R72 over products in ascending k, in groups of eight; `fuel` bounds the groups. -/
def f32TreeGo : Nat → List Nat → Option Nat → Option Nat
  | 0, _, acc => acc
  | fuel + 1, p, acc =>
    if p.isEmpty then acc else f32TreeGo fuel (p.drop 8) (f32AddOpt acc (f32Group (p.take 8)))

/-- fp32_dot over products already rounded (R72): absent stays absent. -/
def f32Tree (p : List Nat) (init : Option Nat) : Option Nat := f32TreeGo (p.length / 8 + 1) p init

/-- A row sum in the order of R74; an empty sum is +0. -/
def f32Sum (p : List Nat) : Nat := (f32Tree p none).getD 0

end Sys2Proof.Machine
end

