-- ==== Sys2Proof/Machine/Regs.lean ====
section
/-! DEFINITION. The register space: its pages (Table 18.11), every register and named field of the
register tables of the spec, its access masks (R14) and its reset value. -/
namespace Sys2Proof.Machine

/-- A register page of Table 18.11; the arguments are the numbers of Table 0.5 (R526). -/
inductive Page where
  | glb | hst | lchHost | lchMgt | mgt | time | ptp | trg | sec | cc | fp | upd | flip | fr | wd | rst
  | part | ctx | line | ep | ari | stp | ct | ck | rc | dg | ft | sig | pwr
  | core (d c p : Nat) | eng (d c p e : Nat) | cluster (d c : Nat) | dn (d : Nat) | br (d : Nat)
  | mc (k : Nat) | nmu (k : Nat) | scr (k : Nat) | mat (k : Nat)
  | lnk (p : Nat) | lan (p : Nat) | trm (p : Nat) | cry (p : Nat) | rt | bnd
  | las (e x : Nat) | mon (e : Nat) | rng (e : Nat) | kal (e : Nat) | fab
  deriving DecidableEq, Repr

/-- The BAR0 offset at which a page begins (Table 18.11). -/
def Page.base : Page → Nat
  | .glb => 0x00000000 | .hst => 0x00010000 | .lchHost => 0x00011000 | .lchMgt => 0x00021000
  | .mgt => 0x00020000 | .time => 0x00030000 | .ptp => 0x00031000 | .trg => 0x00032000
  | .sec => 0x00040000 | .cc => 0x00050000 | .fp => 0x00051000 | .upd => 0x00052000
  | .flip => 0x00060000 | .fr => 0x00070000 | .wd => 0x00071000 | .rst => 0x00072000
  | .part => 0x00080000 | .ctx => 0x00081000 | .line => 0x00082000 | .ep => 0x00083000
  | .ari => 0x0008E000 | .stp => 0x0008F000
  | .ct => 0x00090000 | .ck => 0x00091000 | .rc => 0x00092000
  | .dg => 0x000A0000 | .ft => 0x000A1000 | .sig => 0x000A2000 | .pwr => 0x000B0000
  | .core d c p => 0x01000000 + d * 0x800000 + c * 0x100000 + p * 0x10000
  | .eng d c p e => 0x01000000 + d * 0x800000 + c * 0x100000 + p * 0x10000 + (e + 1) * 0x1000
  | .cluster d c => 0x010F0000 + d * 0x800000 + c * 0x100000
  | .dn d => 0x01700000 + d * 0x800000
  | .br d => 0x01701000 + d * 0x800000
  | .mc k => 0x02000000 + k * 0x100000
  | .nmu k => 0x02001000 + k * 0x100000
  | .scr k => 0x02002000 + k * 0x100000
  | .mat k => 0x02003000 + k * 0x100000
  | .lnk p => 0x03000000 + p * 0x10000
  | .lan p => 0x03001000 + p * 0x10000
  | .trm p => 0x03002000 + p * 0x10000
  | .cry p => 0x03003000 + p * 0x10000
  | .rt => 0x03200000 | .bnd => 0x03201000
  | .las e x => 0x03800000 + e * 0x10000 + x * 0x1000
  | .rng e => 0x03802000 + e * 0x10000
  | .mon e => 0x03803000 + e * 0x10000
  | .kal e => 0x03804000 + e * 0x10000
  | .fab => 0x038F0000

/-- The kind of a page: which table of the spec gives its registers. -/
def Page.kind : Page → Nat
  | .glb => 0 | .hst => 1 | .lchHost => 2 | .lchMgt => 3 | .mgt => 4 | .time => 5
  | .ptp => 6 | .trg => 7 | .sec => 8 | .cc => 9 | .fp => 10 | .upd => 11
  | .flip => 12 | .fr => 13 | .wd => 14 | .rst => 15 | .part => 16 | .ctx => 17
  | .line => 18 | .ep => 19 | .ari => 20 | .stp => 21 | .ct => 22 | .ck => 23
  | .rc => 24 | .dg => 25 | .ft => 26 | .sig => 27 | .pwr => 28 | .core _ _ _ => 29
  | .eng _ _ _ _ => 30 | .cluster _ _ => 31 | .dn _ => 32 | .br _ => 33 | .mc _ => 34 | .nmu _ => 35
  | .scr _ => 36 | .mat _ => 37 | .lnk _ => 38 | .lan _ => 39 | .trm _ => 40 | .cry _ => 41
  | .rt => 42 | .bnd => 43 | .las _ _ => 44 | .mon _ => 45 | .rng _ => 46 | .kal _ => 47
  | .fab => 48

/-- The single pages, in address order. -/
def Page.singles : List Page :=
  [.glb, .hst, .lchHost, .lchMgt, .mgt, .time, .ptp, .trg, .sec, .cc, .fp, .upd, .flip, .fr, .wd, .rst,
   .part, .ctx, .line, .ep, .ari, .stp, .ct, .ck, .rc, .dg, .ft, .sig, .pwr, .rt, .bnd, .fab]

/-- The page that begins at BAR0 offset `b` (a multiple of 4 KiB), if one does (Table 18.11, R526). -/
def Page.ofBase (b : Nat) : Option Page :=
  if b < 0x01000000 then Page.singles.find? (fun p => p.base == b)
  else if b < 0x02000000 then
    let d := b / 0x800000 % 2
    let c := b / 0x100000 % 8
    let p := b / 0x10000 % 16
    let e := b / 0x1000 % 16
    if c = 7 then
      if p = 0 && e = 0 then some (.dn d) else if p = 0 && e = 1 then some (.br d) else none
    else if 4 ≤ c then none
    else if p = 15 then (if e = 0 then some (.cluster d c) else none)
    else if 9 ≤ p then none
    else if e = 0 then some (.core d c p)
    else if e ≤ 4 then some (.eng d c p (e - 1)) else none
  else if b < 0x03000000 then
    let k := b / 0x100000 % 16
    let u := b / 0x1000 % 256
    if 12 ≤ k then none
    else if u = 0 then some (.mc k) else if u = 1 then some (.nmu k)
    else if u = 2 then some (.scr k) else if u = 3 then some (.mat k) else none
  else if b < 0x03200000 then
    let p := b / 0x10000 % 32
    let u := b / 0x1000 % 16
    if u = 0 then some (.lnk p) else if u = 1 then some (.lan p)
    else if u = 2 then some (.trm p) else if u = 3 then some (.cry p) else none
  else if b < 0x03800000 then
    if b = 0x03200000 then some .rt else if b = 0x03201000 then some .bnd else none
  else if b < 0x03830000 then
    let e := b / 0x10000 % 16
    let u := b / 0x1000 % 16
    if u = 0 then some (.las e 0) else if u = 1 then some (.las e 1)
    else if u = 2 then some (.rng e) else if u = 3 then some (.mon e)
    else if u = 4 then some (.kal e) else none
  else if b = 0x038F0000 then some .fab else none

/-- PAGE_ID[31:16], the block type of Table 18.11. -/
def Page.blockType : Page → Nat
  | .glb => 0x01 | .hst => 0x02 | .lchHost => 0x03 | .lchMgt => 0x03 | .mgt => 0x04
  | .time => 0x05 | .ptp => 0x06 | .trg => 0x07 | .sec => 0x08 | .cc => 0x09 | .fp => 0x0A
  | .upd => 0x0B | .flip => 0x0C | .fr => 0x0D | .wd => 0x0E | .rst => 0x0F
  | .part => 0x10 | .ctx => 0x11 | .line => 0x12 | .ep => 0x13 | .ari => 0x14 | .stp => 0x15
  | .ct => 0x16 | .ck => 0x17 | .rc => 0x18 | .dg => 0x19 | .ft => 0x1A | .sig => 0x1B
  | .pwr => 0x1C | .core _ _ _ => 0x20 | .eng _ _ _ _ => 0x21 | .cluster _ _ => 0x22
  | .dn _ => 0x23 | .br _ => 0x24 | .mc _ => 0x30 | .nmu _ => 0x31 | .scr _ => 0x32 | .mat _ => 0x33
  | .lnk _ => 0x40 | .lan _ => 0x41 | .trm _ => 0x42 | .cry _ => 0x43 | .rt => 0x44 | .bnd => 0x45
  | .las _ _ => 0x50 | .rng _ => 0x51 | .mon _ => 0x52 | .kal _ => 0x53 | .fab => 0x54

/-- PAGE_ID[15:0], the instance (R526): bits [8:0] of the UPATH layout for a compute page, the stack,
the port, 2e + laser, e, or 0. -/
def Page.instance_ : Page → Nat
  | .core d c p => d * 256 + c * 64 + p * 4
  | .eng d c p e => d * 256 + c * 64 + p * 4 + e
  | .cluster d c => d * 256 + c * 64
  | .dn d => d * 256 | .br d => d * 256
  | .mc k => k | .nmu k => k | .scr k => k | .mat k => k
  | .lnk p => p | .lan p => p | .trm p => p | .cry p => p
  | .las e x => 2 * e + x | .rng e => e | .mon e => e | .kal e => e
  | _ => 0

/-- A field of a register: the register's offset in its page and the bits [hi:lo]. A whole register is the
field [31:0]. -/
structure Fld where
  off : Nat
  hi : Nat := 31
  lo : Nat := 0
  deriving DecidableEq, Repr

/-- Another range of bits of the same register. -/
def Fld.sub (f : Fld) (hi lo : Nat) : Fld := ⟨f.off, hi, lo⟩

/-- The number of values a field holds. -/
def Fld.card (f : Fld) : Nat := 2 ^ (f.hi + 1 - f.lo)

/-- The access of the bits of a register, or of an array of `count` registers at distance `stride`
(R14, Table 0.8): masks of the RW or RWS, W1C, W1S, RWE and WO bits, and the reset value. -/
structure RegDef where
  off : Nat
  stride : Nat := 4
  count : Nat := 1
  rw : Nat := 0
  w1c : Nat := 0
  w1s : Nat := 0
  rwe : Nat := 0
  wo : Nat := 0
  reset : Nat := 0
  deriving DecidableEq, Repr

namespace Cl
/-! Table 1.3, 5.8, 5.9. -/
def BIND_MAP : Fld := ⟨0x100, 31, 0⟩
def BIND_NEXT : Fld := ⟨0x104, 31, 0⟩
def BIND_CTRL : Fld := ⟨0x108, 31, 0⟩
def BIND_CTRL_ARM : Fld := ⟨0x108, 0, 0⟩
def BIND_CTRL_PENDING : Fld := ⟨0x108, 1, 1⟩
def BIND_CTRL_TEST_OUT : Fld := ⟨0x108, 2, 2⟩
def CORE_STATE : Fld := ⟨0x10c, 31, 0⟩
def BIND_SEQ : Fld := ⟨0x110, 31, 0⟩
def BIND_TICK_LO : Fld := ⟨0x114, 31, 0⟩
def BIND_TICK_HI : Fld := ⟨0x118, 31, 0⟩
def STATUS : Fld := ⟨0x14, 31, 0⟩
def STATUS_CL_DEGRADED : Fld := ⟨0x14, 0, 0⟩
def STATUS_CL_SAT : Fld := ⟨0x14, 1, 1⟩
def XP_SEL : Fld := ⟨0x120, 31, 0⟩
def XP_OCC : Fld := ⟨0x124, 31, 0⟩
def XP_BUSY_TOT : Fld := ⟨0x128, 31, 0⟩
def XP_STALL_LAST : Fld := ⟨0x12c, 31, 0⟩
def XP_STALL_TOT : Fld := ⟨0x130, 31, 0⟩
def XP_SAT_MAP : Fld := ⟨0x134, 31, 0⟩
def COLL_STATUS : Fld := ⟨0x138, 31, 0⟩
def CTR_CLR : Fld := ⟨0x13c, 31, 0⟩
end Cl

namespace Lch
/-! Table 1.10. -/
def LCH_CTRL : Fld := ⟨0x100, 31, 0⟩
def LCH_CTRL_SCAN_EN : Fld := ⟨0x100, 0, 0⟩
def LCH_CTRL_IRQ_EN : Fld := ⟨0x100, 1, 1⟩
def LCH_STATUS : Fld := ⟨0x104, 31, 0⟩
def CPL_PROD : Fld := ⟨0x108, 31, 0⟩
def CPL_CONS : Fld := ⟨0x10c, 31, 0⟩
def CPL_HELD : Fld := ⟨0x110, 31, 0⟩
def LCH_REJECT_CNT : Fld := ⟨0x114, 31, 0⟩
def LCH_LATE_CNT : Fld := ⟨0x118, 31, 0⟩
end Lch

namespace Stp
/-! Table 1.12. -/
def STEP_SEL : Fld := ⟨0x100, 31, 0⟩
def STEP_COUNT_LO : Fld := ⟨0x108, 31, 0⟩
def STEP_COUNT_HI : Fld := ⟨0x10c, 31, 0⟩
def STEP_TICK_LO : Fld := ⟨0x110, 31, 0⟩
def STEP_TICK_HI : Fld := ⟨0x114, 31, 0⟩
def STEP_ACTIONS : Fld := ⟨0x118, 31, 0⟩
def STEP_DUR : Fld := ⟨0x11c, 31, 0⟩
end Stp

namespace Ari
/-! Table 3.4. -/
def ARI_SEL : Fld := ⟨0x100, 31, 0⟩
def SEED_0 : Fld := ⟨0x110, 31, 0⟩
def SEED_1 : Fld := ⟨0x114, 31, 0⟩
def SEED_2 : Fld := ⟨0x118, 31, 0⟩
def SEED_3 : Fld := ⟨0x11c, 31, 0⟩
def EXACT_TRUNC_CNT : Fld := ⟨0x120, 31, 0⟩
def FOLD_WAIT_CNT : Fld := ⟨0x124, 31, 0⟩
end Ari

namespace Cor
/-! Table 5.6. -/
def CORE_STATUS : Fld := ⟨0x100, 31, 0⟩
def CORE_STATUS_INFLIGHT : Fld := ⟨0x100, 4, 0⟩
def CORE_STATUS_RUNNING : Fld := ⟨0x100, 5, 5⟩
def CORE_STATUS_BLOCKED : Fld := ⟨0x100, 6, 6⟩
def CORE_STATUS_CHAIN : Fld := ⟨0x100, 7, 7⟩
def CORE_STATUS_LCORE : Fld := ⟨0x100, 10, 8⟩
def CORE_STATUS_BOUND : Fld := ⟨0x100, 11, 11⟩
def CORE_CTX : Fld := ⟨0x104, 31, 0⟩
def CORE_PART : Fld := ⟨0x108, 31, 0⟩
def ISSUE_LAST : Fld := ⟨0x10c, 31, 0⟩
def DESC_LO : Fld := ⟨0x110, 31, 0⟩
def DESC_HI : Fld := ⟨0x114, 31, 0⟩
def ISSUE_TOT : Fld := ⟨0x118, 31, 0⟩
def CVT_INVALID : Fld := ⟨0x11c, 31, 0⟩
def CVT_SAT : Fld := ⟨0x120, 31, 0⟩
def ACC_TRUNC : Fld := ⟨0x124, 31, 0⟩
def STALL_SLOT : Fld := ⟨0x128, 31, 0⟩
def STALL_UNIT : Fld := ⟨0x12c, 31, 0⟩
def STALL_HAZARD : Fld := ⟨0x130, 31, 0⟩
def STALL_BLOCK : Fld := ⟨0x134, 31, 0⟩
def STALL_TOT : Fld := ⟨0x138, 31, 0⟩
def PORT_SEL : Fld := ⟨0x140, 31, 0⟩
def PORT_OCC : Fld := ⟨0x144, 31, 0⟩
def PORT_BUSY_TOT : Fld := ⟨0x148, 31, 0⟩
def PORT_STALL_LAST : Fld := ⟨0x14c, 31, 0⟩
def PORT_STALL_TOT : Fld := ⟨0x150, 31, 0⟩
def CORE_SAT_MAP : Fld := ⟨0x154, 31, 0⟩
def CTR_CLR : Fld := ⟨0x160, 31, 0⟩
end Cor

namespace Eng
/-! Table 5.7. -/
def ENG_STATUS : Fld := ⟨0x100, 31, 0⟩
def ENG_STATUS_STATE : Fld := ⟨0x100, 1, 0⟩
def ENG_STATUS_BYPASS : Fld := ⟨0x100, 2, 2⟩
def ENG_CTX : Fld := ⟨0x104, 31, 0⟩
def ENG_DESC_LO : Fld := ⟨0x108, 31, 0⟩
def ENG_DESC_HI : Fld := ⟨0x10c, 31, 0⟩
def ENG_TILES : Fld := ⟨0x110, 31, 0⟩
def ENG_OCC : Fld := ⟨0x114, 31, 0⟩
def ENG_BUSY_TOT : Fld := ⟨0x118, 31, 0⟩
def ENG_STALL_LAST : Fld := ⟨0x11c, 31, 0⟩
def ENG_STALL_TOT : Fld := ⟨0x120, 31, 0⟩
end Eng

namespace Dn
/-! Table 5.10. -/
def DN_SEL : Fld := ⟨0x100, 31, 0⟩
def DN_OCC : Fld := ⟨0x104, 31, 0⟩
def DN_BUSY_TOT : Fld := ⟨0x108, 31, 0⟩
def DN_STALL_LAST : Fld := ⟨0x10c, 31, 0⟩
def DN_STALL_TOT : Fld := ⟨0x110, 31, 0⟩
def DN_SAT_MAP0 : Fld := ⟨0x114, 31, 0⟩
def DN_SAT_MAP1 : Fld := ⟨0x118, 31, 0⟩
def CTR_CLR : Fld := ⟨0x11c, 31, 0⟩
end Dn

namespace Br
/-! Table 5.11. -/
def BR_SEL : Fld := ⟨0x100, 31, 0⟩
def BR_OCC : Fld := ⟨0x104, 31, 0⟩
def BR_BUSY_TOT : Fld := ⟨0x108, 31, 0⟩
def BR_STALL_LAST : Fld := ⟨0x10c, 31, 0⟩
def BR_STALL_TOT : Fld := ⟨0x110, 31, 0⟩
def CTR_CLR : Fld := ⟨0x114, 31, 0⟩
end Br

namespace Mc
/-! Table 6.5. -/
def MC_STATUS : Fld := ⟨0x100, 31, 0⟩
def MC_STATUS_READY : Fld := ⟨0x100, 0, 0⟩
def MC_STATUS_MAPOUT_STATE : Fld := ⟨0x100, 2, 1⟩
def MC_STATUS_MAPOUT_CH : Fld := ⟨0x100, 7, 3⟩
def MC_STATUS_CAP_GIB : Fld := ⟨0x100, 14, 8⟩
def LAYOUT : Fld := ⟨0x104, 31, 0⟩
def LAYOUT_IL : Fld := ⟨0x104, 6, 0⟩
def MAPOUT_CTRL : Fld := ⟨0x108, 31, 0⟩
def MAPOUT_CTRL_CH : Fld := ⟨0x108, 4, 0⟩
def MAPOUT_CTRL_GO : Fld := ⟨0x108, 8, 8⟩
def MAPOUT_WMARK : Fld := ⟨0x10c, 31, 0⟩
def CE_THRESH : Fld := ⟨0x110, 31, 0⟩
def CH_SEL : Fld := ⟨0x114, 31, 0⟩
def CH_CE_CNT : Fld := ⟨0x118, 31, 0⟩
def CH_DUE_CNT : Fld := ⟨0x11c, 31, 0⟩
def CH_CE_PERIOD : Fld := ⟨0x120, 31, 0⟩
def OUT_TRANSIENT_CNT : Fld := ⟨0x124, 31, 0⟩
def OUT_RECOMP_CNT : Fld := ⟨0x128, 31, 0⟩
def OUT_BUSERR_CNT : Fld := ⟨0x12c, 31, 0⟩
def UNWRITTEN_CNT : Fld := ⟨0x130, 31, 0⟩
def LAST_ERR_ADDR_LO : Fld := ⟨0x134, 31, 0⟩
def LAST_ERR_ADDR_HI : Fld := ⟨0x138, 31, 0⟩
def LAST_ERR_INFO : Fld := ⟨0x13c, 31, 0⟩
def RCR_CTRL (n : Nat) : Fld := ⟨0x140 + 32 * n, 31, 0⟩
def RCR_CTRL_EN (n : Nat) : Fld := ⟨0x140 + 32 * n, 0, 0⟩
def RCR_CTX (n : Nat) : Fld := ⟨0x144 + 32 * n, 31, 0⟩
def RCR_BASE (n : Nat) : Fld := ⟨0x148 + 32 * n, 31, 0⟩
def RCR_SIZE (n : Nat) : Fld := ⟨0x14c + 32 * n, 31, 0⟩
def RCR_PROD_LO (n : Nat) : Fld := ⟨0x150 + 32 * n, 31, 0⟩
def RCR_PROD_HI (n : Nat) : Fld := ⟨0x154 + 32 * n, 31, 0⟩
def RCR_RUNS (n : Nat) : Fld := ⟨0x158 + 32 * n, 31, 0⟩
def CTR_CLR : Fld := ⟨0x240, 31, 0⟩
end Mc

namespace Scr
/-! Table 6.6. -/
def SCRUB_CTRL : Fld := ⟨0x100, 31, 0⟩
def SCRUB_CTRL_EN : Fld := ⟨0x100, 0, 0⟩
def SCRUB_CTRL_NOW : Fld := ⟨0x100, 1, 1⟩
def SCRUB_CTRL_PERIOD : Fld := ⟨0x100, 15, 8⟩
def SCRUB_STATUS : Fld := ⟨0x104, 31, 0⟩
def SCRUB_POS : Fld := ⟨0x108, 31, 0⟩
def SCRUB_PASSES : Fld := ⟨0x10c, 31, 0⟩
def SCRUB_CE_LAST : Fld := ⟨0x110, 31, 0⟩
def SCRUB_DUE_LAST : Fld := ⟨0x114, 31, 0⟩
def SCRUB_DUE_ADDR_LO : Fld := ⟨0x118, 31, 0⟩
def SCRUB_DUE_ADDR_HI : Fld := ⟨0x11c, 31, 0⟩
def SCRUB_END_LO : Fld := ⟨0x120, 31, 0⟩
def SCRUB_END_HI : Fld := ⟨0x124, 31, 0⟩
end Scr

namespace Nmu
/-! Table 7.9. -/
def NMU_STATUS : Fld := ⟨0x100, 31, 0⟩
def NMU_STATUS_QUEUED : Fld := ⟨0x100, 6, 0⟩
def NMU_STATUS_RUNNING : Fld := ⟨0x100, 9, 7⟩
def NMU_STATUS_RECOMP_BUSY : Fld := ⟨0x100, 10, 10⟩
def NMU_STATUS_PAGE_QUEUED : Fld := ⟨0x100, 14, 11⟩
def CMD_ADDR_LO : Fld := ⟨0x104, 31, 0⟩
def CMD_ADDR_HI : Fld := ⟨0x108, 31, 0⟩
def CMD_SIG_LO : Fld := ⟨0x10c, 31, 0⟩
def CMD_SIG_HI : Fld := ⟨0x110, 31, 0⟩
def CMD_POST : Fld := ⟨0x114, 31, 0⟩
def CMD_CNT : Fld := ⟨0x118, 31, 0⟩
def CMD_REJ_CNT : Fld := ⟨0x11c, 31, 0⟩
def CMD_ERR_CNT : Fld := ⟨0x120, 31, 0⟩
def RD_MIB_TOT : Fld := ⟨0x124, 31, 0⟩
def WR_MIB_TOT : Fld := ⟨0x128, 31, 0⟩
def LAST_REJ : Fld := ⟨0x12c, 31, 0⟩
def LAST_CMD_LO : Fld := ⟨0x130, 31, 0⟩
def LAST_CMD_HI : Fld := ⟨0x134, 31, 0⟩
def DIG_SEL : Fld := ⟨0x140, 31, 0⟩
def DIG_KEY_0 : Fld := ⟨0x144, 31, 0⟩
def DIG_KEY_1 : Fld := ⟨0x148, 31, 0⟩
def DIG_KEY_2 : Fld := ⟨0x14c, 31, 0⟩
def DIG_KEY_3 : Fld := ⟨0x150, 31, 0⟩
def CTR_CLR : Fld := ⟨0x160, 31, 0⟩
end Nmu

namespace Mat
/-! Table 7.10. -/
def MAT_STATUS : Fld := ⟨0x100, 31, 0⟩
def SNAP_ID : Fld := ⟨0x104, 31, 0⟩
def SIDE_BASE : Fld := ⟨0x108, 31, 0⟩
def SIDE_UNITS : Fld := ⟨0x10c, 31, 0⟩
def UNITS_ARMED : Fld := ⟨0x110, 31, 0⟩
def UNITS_LEFT : Fld := ⟨0x114, 31, 0⟩
def SLOTS_USED : Fld := ⟨0x118, 31, 0⟩
def SAVE_CNT : Fld := ⟨0x11c, 31, 0⟩
def HOLD_MAX_NS : Fld := ⟨0x120, 31, 0⟩
def FULL_WAIT_CNT : Fld := ⟨0x124, 31, 0⟩
def ABORT_CNT : Fld := ⟨0x128, 31, 0⟩
def ARM_TICK_LO : Fld := ⟨0x12c, 31, 0⟩
def ARM_TICK_HI : Fld := ⟨0x130, 31, 0⟩
def END_TICK_LO : Fld := ⟨0x134, 31, 0⟩
def END_TICK_HI : Fld := ⟨0x138, 31, 0⟩
def CTR_CLR : Fld := ⟨0x13c, 31, 0⟩
end Mat

namespace Lnk
/-! Table 8.9. -/
def LNK_CTRL : Fld := ⟨0x100, 31, 0⟩
def LNK_CTRL_EN : Fld := ⟨0x100, 0, 0⟩
def LNK_CTRL_RETRAIN : Fld := ⟨0x100, 1, 1⟩
def LNK_CTRL_SPARE_EN : Fld := ⟨0x100, 2, 2⟩
def LNK_STATUS : Fld := ⟨0x104, 31, 0⟩
def LNK_STATUS_UP : Fld := ⟨0x104, 0, 0⟩
def LNK_STATUS_CLASS : Fld := ⟨0x104, 2, 1⟩
def LNK_STATUS_LANES : Fld := ⟨0x104, 6, 3⟩
def LNK_STATUS_SPARE_USED : Fld := ⟨0x104, 7, 7⟩
def LNK_STATUS_VER_MAJ : Fld := ⟨0x104, 15, 8⟩
def LNK_STATUS_VER_MIN : Fld := ⟨0x104, 23, 16⟩
def PEER_EXPECT : Fld := ⟨0x108, 31, 0⟩
def PEER_ID : Fld := ⟨0x10c, 31, 0⟩
def RTT_NS : Fld := ⟨0x110, 31, 0⟩
def REPLAY_OCC : Fld := ⟨0x114, 31, 0⟩
def TX_FLITS : Fld := ⟨0x118, 31, 0⟩
def RX_FLITS : Fld := ⟨0x11c, 31, 0⟩
def REPLAY_CNT : Fld := ⟨0x120, 31, 0⟩
def NAK_TX_CNT : Fld := ⟨0x124, 31, 0⟩
def CRC_ERR_CNT : Fld := ⟨0x128, 31, 0⟩
def MISDELIVER_CNT : Fld := ⟨0x12c, 31, 0⟩
def DUP_DROP_CNT : Fld := ⟨0x130, 31, 0⟩
def CTR_CLR : Fld := ⟨0x134, 31, 0⟩
end Lnk

namespace Lan
/-! Table 8.10. -/
def LANE_SEL : Fld := ⟨0x100, 31, 0⟩
def LANE_STATE : Fld := ⟨0x104, 31, 0⟩
def LANE_STATE_STATE : Fld := ⟨0x104, 2, 0⟩
def LANE_STATE_SERVES : Fld := ⟨0x104, 7, 4⟩
def LANE_STATE_BUNDLE : Fld := ⟨0x104, 13, 8⟩
def LANE_STATE_STRIKES : Fld := ⟨0x104, 17, 14⟩
def LANE_STATE_QLEVEL : Fld := ⟨0x104, 20, 18⟩
def LANE_PEER : Fld := ⟨0x108, 31, 0⟩
def LANE_CTRL : Fld := ⟨0x10c, 31, 0⟩
def LANE_CTRL_DISABLE : Fld := ⟨0x10c, 0, 0⟩
def LANE_CTRL_CLEAR : Fld := ⟨0x10c, 1, 1⟩
def FEC_CORR_LAST : Fld := ⟨0x110, 31, 0⟩
def FEC_UNC_LAST : Fld := ⟨0x114, 31, 0⟩
def FEC_CORR_TOT : Fld := ⟨0x118, 31, 0⟩
def FEC_UNC_TOT : Fld := ⟨0x11c, 31, 0⟩
def FAIL_CNT : Fld := ⟨0x120, 31, 0⟩
def QUAR_END_LO : Fld := ⟨0x124, 31, 0⟩
def QUAR_END_HI : Fld := ⟨0x128, 31, 0⟩
def LANE_RTT_NS : Fld := ⟨0x12c, 31, 0⟩
def THR_SYM : Fld := ⟨0x140, 31, 0⟩
def THR_UNC : Fld := ⟨0x144, 31, 0⟩
def THR_STRIKES : Fld := ⟨0x148, 31, 0⟩
def THR_QUAR : Fld := ⟨0x14c, 31, 0⟩
end Lan

namespace Cry
/-! Table 8.11. -/
def KEY_SEL : Fld := ⟨0x100, 31, 0⟩
def KEY_STATUS : Fld := ⟨0x104, 31, 0⟩
def TX_PHASE : Fld := ⟨0x108, 31, 0⟩
def NCTR_LO : Fld := ⟨0x10c, 31, 0⟩
def NCTR_HI : Fld := ⟨0x110, 31, 0⟩
def KEY_ERASE : Fld := ⟨0x114, 31, 0⟩
def ENC_TX : Fld := ⟨0x120, 31, 0⟩
def DEC_RX : Fld := ⟨0x124, 31, 0⟩
def AUTH_FAIL_CNT : Fld := ⟨0x128, 31, 0⟩
def CTR_CLR : Fld := ⟨0x12c, 31, 0⟩
end Cry

namespace Rt
/-! Table 8.12. -/
def RT_CTRL : Fld := ⟨0x100, 31, 0⟩
def DIM (n : Nat) : Fld := ⟨0x104 + 4 * n, 31, 0⟩
def FRT_IDX : Fld := ⟨0x114, 31, 0⟩
def FRT_DATA_LO : Fld := ⟨0x118, 31, 0⟩
def FRT_DATA_HI : Fld := ⟨0x11c, 31, 0⟩
def RNK_SEL : Fld := ⟨0x120, 31, 0⟩
def RNK_SLOT_PART : Fld := ⟨0x124, 31, 0⟩
def RNK_IDX : Fld := ⟨0x128, 31, 0⟩
def RNK_DATA : Fld := ⟨0x12c, 31, 0⟩
def PEER_IDX : Fld := ⟨0x130, 31, 0⟩
def PEER_DATA : Fld := ⟨0x134, 31, 0⟩
def NOROUTE_CNT : Fld := ⟨0x138, 31, 0⟩
def HOPLIMIT_CNT : Fld := ⟨0x13c, 31, 0⟩
def DETOUR_CNT : Fld := ⟨0x140, 31, 0⟩
def FENCE_DROP_CNT : Fld := ⟨0x144, 31, 0⟩
def CTR_CLR : Fld := ⟨0x148, 31, 0⟩
end Rt

namespace Bnd
/-! Table 8.13. -/
def BND_SEL : Fld := ⟨0x100, 31, 0⟩
def BND_STATUS : Fld := ⟨0x104, 31, 0⟩
def BND_PEER : Fld := ⟨0x108, 31, 0⟩
def BND_RTT_NS : Fld := ⟨0x10c, 31, 0⟩
def BND_SEQ : Fld := ⟨0x110, 31, 0⟩
def BND_REPLAY_CNT : Fld := ⟨0x114, 31, 0⟩
def BND_HEARD_LO : Fld := ⟨0x118, 31, 0⟩
def BND_HEARD_HI : Fld := ⟨0x11c, 31, 0⟩
def BND_LOST : Fld := ⟨0x120, 31, 0⟩
def BND_RESUME_CNT : Fld := ⟨0x124, 31, 0⟩
def CTR_CLR : Fld := ⟨0x128, 31, 0⟩
end Bnd

namespace Fab
/-! Table 9.10. -/
def PLAN_CTRL : Fld := ⟨0x100, 31, 0⟩
def PLAN_CTRL_ARM : Fld := ⟨0x100, 0, 0⟩
def PLAN_CTRL_CANCEL : Fld := ⟨0x100, 1, 1⟩
def PLAN_CTRL_BUF : Fld := ⟨0x100, 2, 2⟩
def PLAN_STATUS : Fld := ⟨0x104, 31, 0⟩
def PLAN_STATUS_STATE : Fld := ⟨0x104, 1, 0⟩
def PLAN_STATUS_VALIDATING : Fld := ⟨0x104, 2, 2⟩
def PLAN_STATUS_REJ : Fld := ⟨0x104, 7, 4⟩
def PLAN_WIN_OFF : Fld := ⟨0x108, 31, 0⟩
def PLAN_WIN_DATA : Fld := ⟨0x10c, 31, 0⟩
def PLAN_ID_CUR : Fld := ⟨0x110, 31, 0⟩
def PLAN_ID_NEXT : Fld := ⟨0x114, 31, 0⟩
def ACT_TICK_LO : Fld := ⟨0x118, 31, 0⟩
def ACT_TICK_HI : Fld := ⟨0x11c, 31, 0⟩
def PORT_DONE : Fld := ⟨0x120, 31, 0⟩
def PORT_INCOMPLETE : Fld := ⟨0x124, 31, 0⟩
def PLAN_CNT : Fld := ⟨0x128, 31, 0⟩
def PLAN_REJ_CNT : Fld := ⟨0x12c, 31, 0⟩
def CTR_CLR : Fld := ⟨0x130, 31, 0⟩
end Fab

namespace Rng
/-! Table 9.11, 10.9. -/
def RING_SEL : Fld := ⟨0x100, 31, 0⟩
def RING_STATE : Fld := ⟨0x104, 31, 0⟩
def RING_STATE_STATE : Fld := ⟨0x104, 2, 0⟩
def RING_STATE_LINE : Fld := ⟨0x104, 7, 3⟩
def RING_STATE_ON_LINE : Fld := ⟨0x104, 8, 8⟩
def RING_STATE_TRAINED : Fld := ⟨0x104, 9, 9⟩
def RING_STATE_LANE : Fld := ⟨0x104, 13, 10⟩
def RING_STATE_BUNDLE : Fld := ⟨0x104, 21, 16⟩
def RING_PEER : Fld := ⟨0x108, 31, 0⟩
def RING_STEER_CNT : Fld := ⟨0x10c, 31, 0⟩
def RING_MOVE_CNT : Fld := ⟨0x110, 31, 0⟩
def CTR_CLR : Fld := ⟨0x1f0, 31, 0⟩
def LOCK_CFG : Fld := ⟨0x200, 31, 0⟩
def LOCK_CFG_DITH_AMP : Fld := ⟨0x200, 7, 0⟩
def LOCK_CFG_GAIN : Fld := ⟨0x200, 15, 8⟩
def LOCK_CFG_STEP_MAX : Fld := ⟨0x200, 25, 16⟩
def WIN_CFG : Fld := ⟨0x204, 31, 0⟩
def WIN_CFG_WIN_PCT : Fld := ⟨0x204, 4, 0⟩
def WIN_CFG_WIN_MIN : Fld := ⟨0x204, 19, 8⟩
def CAL_CFG : Fld := ⟨0x208, 31, 0⟩
def CAL_CFG_PERIOD : Fld := ⟨0x208, 7, 0⟩
def CAL_CFG_DELTA_T : Fld := ⟨0x208, 15, 8⟩
def CAL_CFG_NOW : Fld := ⟨0x208, 16, 16⟩
def CAL_STATUS : Fld := ⟨0x20c, 31, 0⟩
def CAL_TICK_LO : Fld := ⟨0x210, 31, 0⟩
def CAL_TICK_HI : Fld := ⟨0x214, 31, 0⟩
def RING_HEATER : Fld := ⟨0x218, 31, 0⟩
def RING_PRED : Fld := ⟨0x21c, 31, 0⟩
def RING_OFS : Fld := ⟨0x220, 31, 0⟩
def RING_LOCK : Fld := ⟨0x224, 31, 0⟩
def TBL_SEL : Fld := ⟨0x228, 31, 0⟩
def TBL_DATA : Fld := ⟨0x22c, 31, 0⟩
def RING_TEST_CMD : Fld := ⟨0x230, 31, 0⟩
def MISLOCK_CNT : Fld := ⟨0x234, 31, 0⟩
def TRANSIENT_CNT : Fld := ⟨0x238, 31, 0⟩
def LOCKLOST_CNT : Fld := ⟨0x23c, 31, 0⟩
def LOCK_CTR_CLR : Fld := ⟨0x240, 31, 0⟩
end Rng

namespace Kal
/-! Table 9.12. -/
def KAL_MODE : Fld := ⟨0x100, 31, 0⟩
def KAL_SEL : Fld := ⟨0x104, 31, 0⟩
def KAL_LANE : Fld := ⟨0x108, 31, 0⟩
def KAL_STEERS_LAST : Fld := ⟨0x10c, 31, 0⟩
def KAL_STEERS_TOT : Fld := ⟨0x110, 31, 0⟩
def KAL_REPLACE_CNT : Fld := ⟨0x114, 31, 0⟩
def KAL_NOSPARE_CNT : Fld := ⟨0x118, 31, 0⟩
def KAL_REPLACE_CMD : Fld := ⟨0x11c, 31, 0⟩
def CTR_CLR : Fld := ⟨0x120, 31, 0⟩
end Kal

namespace Las
/-! Table 10.10. -/
def LAS_STATUS : Fld := ⟨0x100, 31, 0⟩
def LAS_STATUS_ROLE : Fld := ⟨0x100, 2, 0⟩
def LAS_STATUS_ENG_STATE : Fld := ⟨0x100, 5, 3⟩
def LAS_STATUS_TEMP_LOCK : Fld := ⟨0x100, 6, 6⟩
def LAS_STATUS_WARN : Fld := ⟨0x100, 7, 7⟩
def LAS_TEMP : Fld := ⟨0x104, 31, 0⟩
def LINE_SEL : Fld := ⟨0x108, 31, 0⟩
def LINE_PWR : Fld := ⟨0x10c, 31, 0⟩
def LINE_REF : Fld := ⟨0x110, 31, 0⟩
def LINE_MARGIN : Fld := ⟨0x114, 31, 0⟩
def WORST : Fld := ⟨0x118, 31, 0⟩
def LAS_THR : Fld := ⟨0x11c, 31, 0⟩
def LAS_BER_THR : Fld := ⟨0x120, 31, 0⟩
def LAS_CMD : Fld := ⟨0x124, 31, 0⟩
def SWITCH_CNT : Fld := ⟨0x128, 31, 0⟩
def SWITCH_TICK_LO : Fld := ⟨0x12c, 31, 0⟩
def SWITCH_TICK_HI : Fld := ⟨0x130, 31, 0⟩
def CTR_CLR : Fld := ⟨0x134, 31, 0⟩
end Las

namespace Mon
/-! Table 10.11. -/
def MON_SEL : Fld := ⟨0x100, 31, 0⟩
def MON_INT : Fld := ⟨0x104, 31, 0⟩
def MON_START : Fld := ⟨0x108, 31, 0⟩
def MON_TICK_LO : Fld := ⟨0x10c, 31, 0⟩
def MON_TICK_HI : Fld := ⟨0x110, 31, 0⟩
def MON_RESULT : Fld := ⟨0x114, 31, 0⟩
def ENG_TEMP : Fld := ⟨0x118, 31, 0⟩
def RX_SENS : Fld := ⟨0x11c, 31, 0⟩
def RX_MARGIN : Fld := ⟨0x120, 31, 0⟩
end Mon

namespace Trm
/-! Table 10.12. -/
def TRIM_CTRL : Fld := ⟨0x100, 31, 0⟩
def TRIM_CTRL_LEARN : Fld := ⟨0x100, 0, 0⟩
def TRIM_SEL : Fld := ⟨0x104, 31, 0⟩
def TRIM_SET0 : Fld := ⟨0x108, 31, 0⟩
def TRIM_SET1 : Fld := ⟨0x10c, 31, 0⟩
def TRIM_APP0 : Fld := ⟨0x110, 31, 0⟩
def TRIM_APP1 : Fld := ⟨0x114, 31, 0⟩
def DIE_TEMP : Fld := ⟨0x118, 31, 0⟩
def EYE_W : Fld := ⟨0x11c, 31, 0⟩
def PREFEC : Fld := ⟨0x120, 31, 0⟩
def LEARN_CNT : Fld := ⟨0x124, 31, 0⟩
def CTR_CLR : Fld := ⟨0x128, 31, 0⟩
end Trm

namespace Tim
/-! Table 11.7. -/
def TIM_CTRL : Fld := ⟨0x100, 31, 0⟩
def TIM_CTRL_RESTEP : Fld := ⟨0x100, 0, 0⟩
def TIM_CFG : Fld := ⟨0x104, 31, 0⟩
def TIM_CFG_ROOT_PRIO : Fld := ⟨0x104, 7, 0⟩
def TIM_CFG_NEAR_NS : Fld := ⟨0x104, 15, 8⟩
def TIM_CFG_ROOT_LOSS : Fld := ⟨0x104, 23, 16⟩
def TIM_STATUS : Fld := ⟨0x108, 31, 0⟩
def TIME_SEC_LO : Fld := ⟨0x10c, 31, 0⟩
def TIME_SEC_HI : Fld := ⟨0x110, 31, 0⟩
def TIME_NS : Fld := ⟨0x114, 31, 0⟩
def TIME_FRAC : Fld := ⟨0x118, 31, 0⟩
def TICK_LO : Fld := ⟨0x11c, 31, 0⟩
def TICK_HI : Fld := ⟨0x120, 31, 0⟩
def OFFSET : Fld := ⟨0x124, 31, 0⟩
def RATE_ADJ : Fld := ⟨0x128, 31, 0⟩
def ROOT_ID : Fld := ⟨0x12c, 31, 0⟩
def PARENT : Fld := ⟨0x130, 31, 0⟩
def PARENT_DELAY : Fld := ⟨0x134, 31, 0⟩
def HOLD_TICKS : Fld := ⟨0x138, 31, 0⟩
def NEAR_CNT : Fld := ⟨0x13c, 31, 0⟩
def RATE_LIMIT_CNT : Fld := ⟨0x140, 31, 0⟩
def GM_OFFSET : Fld := ⟨0x144, 31, 0⟩
def UTC_INFO : Fld := ⟨0x148, 31, 0⟩
def CTR_CLR : Fld := ⟨0x14c, 31, 0⟩
def ASYM (n : Nat) : Fld := ⟨0x180 + 4 * n, 31, 0⟩
end Tim

namespace Ptp
/-! Table 11.8. -/
def PTP_CTRL : Fld := ⟨0x100, 31, 0⟩
def PTP_CTRL_EN0 : Fld := ⟨0x100, 0, 0⟩
def PTP_CTRL_EN1 : Fld := ⟨0x100, 1, 1⟩
def PTP_CTRL_DOMAIN : Fld := ⟨0x100, 14, 8⟩
def PTP_CTRL_TRANSPORT : Fld := ⟨0x100, 17, 16⟩
def PTP_CTRL_LOG_DREQ : Fld := ⟨0x100, 23, 20⟩
def PTP_STATUS : Fld := ⟨0x104, 31, 0⟩
def GM_ID_LO : Fld := ⟨0x108, 31, 0⟩
def GM_ID_HI : Fld := ⟨0x10c, 31, 0⟩
def PTP_DELAY : Fld := ⟨0x110, 31, 0⟩
def SYNC_RX_CNT : Fld := ⟨0x114, 31, 0⟩
def DREQ_TX_CNT : Fld := ⟨0x118, 31, 0⟩
def ANN_RX_CNT : Fld := ⟨0x11c, 31, 0⟩
def PTP_DROP_CNT : Fld := ⟨0x120, 31, 0⟩
def CTR_CLR : Fld := ⟨0x124, 31, 0⟩
end Ptp

namespace Trg
/-! Table 11.9. -/
def TRG_CTRL (n : Nat) : Fld := ⟨0x100 + 16 * n, 31, 0⟩
def TRG_CTRL_ARM (n : Nat) : Fld := ⟨0x100 + 16 * n, 0, 0⟩
def TRG_CTRL_EVENT (n : Nat) : Fld := ⟨0x100 + 16 * n, 1, 1⟩
def TRG_CTRL_PULSE (n : Nat) : Fld := ⟨0x100 + 16 * n, 2, 2⟩
def TRG_SEC_LO (n : Nat) : Fld := ⟨0x104 + 16 * n, 31, 0⟩
def TRG_SEC_HI (n : Nat) : Fld := ⟨0x108 + 16 * n, 31, 0⟩
def TRG_NS (n : Nat) : Fld := ⟨0x10c + 16 * n, 31, 0⟩
def CAP_CTRL (n : Nat) : Fld := ⟨0x140 + 32 * n, 31, 0⟩
def CAP_SEC_LO (n : Nat) : Fld := ⟨0x144 + 32 * n, 31, 0⟩
def CAP_SEC_HI (n : Nat) : Fld := ⟨0x148 + 32 * n, 31, 0⟩
def CAP_NS (n : Nat) : Fld := ⟨0x14c + 32 * n, 31, 0⟩
def CAP_FRAC (n : Nat) : Fld := ⟨0x150 + 32 * n, 31, 0⟩
def CAP_CNT (n : Nat) : Fld := ⟨0x154 + 32 * n, 31, 0⟩
def CAP_MISSED (n : Nat) : Fld := ⟨0x158 + 32 * n, 31, 0⟩
def CAP_TICK (n : Nat) : Fld := ⟨0x15c + 32 * n, 31, 0⟩
def PPS_CTRL : Fld := ⟨0x1c0, 31, 0⟩
def PPS_CTRL_OUT_EN : Fld := ⟨0x1c0, 0, 0⟩
def PPS_CTRL_UNSET_EN : Fld := ⟨0x1c0, 1, 1⟩
def PPS_CTRL_WIDTH : Fld := ⟨0x1c0, 11, 2⟩
def PPS_OFS_NS : Fld := ⟨0x1c4, 31, 0⟩
def PPS_IN_STATUS : Fld := ⟨0x1c8, 31, 0⟩
def CTR_CLR : Fld := ⟨0x1cc, 31, 0⟩
end Trg

namespace Par
/-! Table 12.7. -/
def PART_SEL : Fld := ⟨0x100, 31, 0⟩
def PART_CMD : Fld := ⟨0x104, 31, 0⟩
def PART_STATUS : Fld := ⟨0x108, 31, 0⟩
def PART_STATUS_STATE : Fld := ⟨0x108, 2, 0⟩
def PART_STATUS_BARRIER : Fld := ⟨0x108, 3, 3⟩
def PART_STATUS_BY_BOUND : Fld := ⟨0x108, 4, 4⟩
def PART_STATUS_RAMP : Fld := ⟨0x108, 5, 5⟩
def PART_STATUS_LAST_REJ : Fld := ⟨0x108, 11, 8⟩
def PART_STATUS_SLOT : Fld := ⟨0x108, 16, 12⟩
def PART_START_LO : Fld := ⟨0x10c, 31, 0⟩
def PART_START_HI : Fld := ⟨0x110, 31, 0⟩
def PART_RUN_LO : Fld := ⟨0x114, 31, 0⟩
def PART_RUN_HI : Fld := ⟨0x118, 31, 0⟩
def PART_DRAIN_LO : Fld := ⟨0x11c, 31, 0⟩
def PART_DRAIN_HI : Fld := ⟨0x120, 31, 0⟩
def PART_BND_LO : Fld := ⟨0x124, 31, 0⟩
def PART_BND_HI : Fld := ⟨0x128, 31, 0⟩
def PART_HELD : Fld := ⟨0x12c, 31, 0⟩
def DROP_PART : Fld := ⟨0x130, 31, 0⟩
def DROP_CTX : Fld := ⟨0x134, 31, 0⟩
def DROP_GEN : Fld := ⟨0x138, 31, 0⟩
def DROP_BND : Fld := ⟨0x13c, 31, 0⟩
def RETIRE_NS : Fld := ⟨0x140, 31, 0⟩
def CTR_CLR : Fld := ⟨0x144, 31, 0⟩
end Par

namespace Ctx
/-! Table 12.8. -/
def CTX_SEL : Fld := ⟨0x100, 31, 0⟩
def CTX_CMD : Fld := ⟨0x104, 31, 0⟩
def CTX_ARG : Fld := ⟨0x108, 31, 0⟩
def CTX_STATE : Fld := ⟨0x10c, 31, 0⟩
def CTX_PREV_GEN : Fld := ⟨0x110, 31, 0⟩
def CTX_RET_NS : Fld := ⟨0x114, 31, 0⟩
def CTX_BOUND_CNT : Fld := ⟨0x118, 31, 0⟩
end Ctx

namespace Lin
/-! Table 12.9. -/
def LINE_SEL : Fld := ⟨0x100, 31, 0⟩
def LINE_CMD : Fld := ⟨0x104, 31, 0⟩
def LINE_STATE : Fld := ⟨0x108, 31, 0⟩
def LINE_PEER : Fld := ⟨0x10c, 31, 0⟩
def CLAIM_CNT : Fld := ⟨0x110, 31, 0⟩
def CLAIM_NAK_CNT : Fld := ⟨0x114, 31, 0⟩
def CTR_CLR : Fld := ⟨0x118, 31, 0⟩
end Lin

namespace Ep
/-! Table 12.10. -/
def EP_SEL : Fld := ⟨0x100, 31, 0⟩
def EP_CTRL : Fld := ⟨0x104, 31, 0⟩
def EP_CTRL_ARM : Fld := ⟨0x104, 0, 0⟩
def EP_CTRL_CANCEL : Fld := ⟨0x104, 1, 1⟩
def EP_CTRL_MODE : Fld := ⟨0x104, 2, 2⟩
def EP_CTRL_LAST_REJ : Fld := ⟨0x104, 7, 4⟩
def EP_CUR_LO : Fld := ⟨0x108, 31, 0⟩
def EP_CUR_HI : Fld := ⟨0x10c, 31, 0⟩
def EP_NEXT_LO : Fld := ⟨0x110, 31, 0⟩
def EP_NEXT_HI : Fld := ⟨0x114, 31, 0⟩
def EP_AT_LO : Fld := ⟨0x118, 31, 0⟩
def EP_AT_HI : Fld := ⟨0x11c, 31, 0⟩
def EP_LAST_LO : Fld := ⟨0x120, 31, 0⟩
def EP_LAST_HI : Fld := ⟨0x124, 31, 0⟩
def DIGEST (n : Nat) : Fld := ⟨0x128 + 4 * n, 31, 0⟩
def EP_STATUS : Fld := ⟨0x148, 31, 0⟩
def EP_SKEW_MAX : Fld := ⟨0x14c, 31, 0⟩
def IMG_OFF : Fld := ⟨0x150, 31, 0⟩
def IMG_DATA : Fld := ⟨0x154, 31, 0⟩
def IMG_LEN : Fld := ⟨0x158, 31, 0⟩
def MISMATCH_CNT : Fld := ⟨0x15c, 31, 0⟩
def CTR_CLR : Fld := ⟨0x160, 31, 0⟩
end Ep

namespace Ct
/-! Table 13.11. -/
def CT_SEL : Fld := ⟨0x100, 31, 0⟩
def CT_ADDR_LO : Fld := ⟨0x104, 31, 0⟩
def CT_ADDR_HI : Fld := ⟨0x108, 31, 0⟩
def CT_STATUS : Fld := ⟨0x10c, 31, 0⟩
def FD_ID : Fld := ⟨0x110, 31, 0⟩
def REG_SEL : Fld := ⟨0x114, 31, 0⟩
def MIR_STATE : Fld := ⟨0x118, 31, 0⟩
def MIR_STEP_LO : Fld := ⟨0x11c, 31, 0⟩
def MIR_STEP_HI : Fld := ⟨0x120, 31, 0⟩
def GATE_STEP_LO : Fld := ⟨0x124, 31, 0⟩
def GATE_STEP_HI : Fld := ⟨0x128, 31, 0⟩
def TAP_CNT : Fld := ⟨0x12c, 31, 0⟩
def MIR_MISMATCH_CNT : Fld := ⟨0x130, 31, 0⟩
def COLL_TO_CNT : Fld := ⟨0x134, 31, 0⟩
def RESTART_CNT : Fld := ⟨0x138, 31, 0⟩
def CTR_CLR : Fld := ⟨0x13c, 31, 0⟩
end Ct

namespace Ck
/-! Table 13.12. -/
def CK_SEL : Fld := ⟨0x100, 31, 0⟩
def CK_STATUS : Fld := ⟨0x104, 31, 0⟩
def CK_STEP_LO : Fld := ⟨0x108, 31, 0⟩
def CK_STEP_HI : Fld := ⟨0x10c, 31, 0⟩
def JOB_CKPT_LO : Fld := ⟨0x110, 31, 0⟩
def JOB_CKPT_HI : Fld := ⟨0x114, 31, 0⟩
def JOB_CKPT_CTRL : Fld := ⟨0x118, 31, 0⟩
def CK_TIMEOUT : Fld := ⟨0x11c, 31, 0⟩
def CK_COPIED : Fld := ⟨0x120, 31, 0⟩
def CK_ROWS_DONE : Fld := ⟨0x124, 31, 0⟩
def CK_FENCE_NS : Fld := ⟨0x128, 31, 0⟩
def CK_CMD : Fld := ⟨0x12c, 31, 0⟩
def CK_CNT : Fld := ⟨0x130, 31, 0⟩
def CK_ABORT_CNT : Fld := ⟨0x134, 31, 0⟩
def CK_SKIP_CNT : Fld := ⟨0x138, 31, 0⟩
def STO_CMD : Fld := ⟨0x13c, 31, 0⟩
def STO_ADDR_LO : Fld := ⟨0x140, 31, 0⟩
def STO_ADDR_HI : Fld := ⟨0x144, 31, 0⟩
def STO_RING : Fld := ⟨0x148, 31, 0⟩
def STO_PROD : Fld := ⟨0x14c, 31, 0⟩
def STO_CONS : Fld := ⟨0x150, 31, 0⟩
def STO_STATUS : Fld := ⟨0x154, 31, 0⟩
def STO_SEQ : Fld := ⟨0x158, 31, 0⟩
def CTR_CLR : Fld := ⟨0x15c, 31, 0⟩
end Ck

namespace Rc
/-! Table 13.13. -/
def RC_SEL : Fld := ⟨0x100, 31, 0⟩
def RC_CMD : Fld := ⟨0x104, 31, 0⟩
def RC_ARG_LO : Fld := ⟨0x108, 31, 0⟩
def RC_ARG_HI : Fld := ⟨0x10c, 31, 0⟩
def PULL_BND_LO : Fld := ⟨0x110, 31, 0⟩
def PULL_BND_HI : Fld := ⟨0x114, 31, 0⟩
def RC_STATUS : Fld := ⟨0x118, 31, 0⟩
def RC_MIB : Fld := ⟨0x11c, 31, 0⟩
def RC_DIGEST (n : Nat) : Fld := ⟨0x120 + 4 * n, 31, 0⟩
def ABSENT (n : Nat) : Fld := ⟨0x130 + 4 * n, 31, 0⟩
def RC_OK_CNT : Fld := ⟨0x150, 31, 0⟩
def RC_FAIL_CNT : Fld := ⟨0x154, 31, 0⟩
def CTR_CLR : Fld := ⟨0x158, 31, 0⟩
end Rc

namespace Dg
/-! Table 14.7. -/
def DG_SEL : Fld := ⟨0x100, 31, 0⟩
def DG_TO : Fld := ⟨0x104, 31, 0⟩
def DG_RECHECK_TO : Fld := ⟨0x108, 31, 0⟩
def DG_SET0 : Fld := ⟨0x10c, 31, 0⟩
def DG_SET1 : Fld := ⟨0x110, 31, 0⟩
def DG_STATUS : Fld := ⟨0x114, 31, 0⟩
def DG_STEP_LO : Fld := ⟨0x118, 31, 0⟩
def DG_STEP_HI : Fld := ⟨0x11c, 31, 0⟩
def DG_VOTES : Fld := ⟨0x120, 31, 0⟩
def DG_MISSING : Fld := ⟨0x124, 31, 0⟩
def DG_OWN (n : Nat) : Fld := ⟨0x128 + 4 * n, 31, 0⟩
def DG_MAJ (n : Nat) : Fld := ⟨0x138 + 4 * n, 31, 0⟩
def DG_SIG_LO : Fld := ⟨0x148, 31, 0⟩
def DG_SIG_HI : Fld := ⟨0x14c, 31, 0⟩
def DG_SUSPECT : Fld := ⟨0x150, 31, 0⟩
def DG_SUSPECT_SUSPECT : Fld := ⟨0x150, 0, 0⟩
def MISMATCH_CNT : Fld := ⟨0x154, 31, 0⟩
def EXPEL_CNT : Fld := ⟨0x158, 31, 0⟩
def RECHECK_CNT : Fld := ⟨0x15c, 31, 0⟩
def CTR_CLR : Fld := ⟨0x160, 31, 0⟩
end Dg

namespace Ft
/-! Table 14.8. -/
def FT_CTRL : Fld := ⟨0x100, 31, 0⟩
def FT_CTRL_EN : Fld := ⟨0x100, 0, 0⟩
def FT_CTRL_PERIOD : Fld := ⟨0x100, 15, 8⟩
def FT_CTRL_WINDOW : Fld := ⟨0x100, 26, 16⟩
def FT_SEL : Fld := ⟨0x104, 31, 0⟩
def FT_CMD : Fld := ⟨0x108, 31, 0⟩
def FT_STATE : Fld := ⟨0x10c, 31, 0⟩
def FT_DUE_LO : Fld := ⟨0x110, 31, 0⟩
def FT_DUE_HI : Fld := ⟨0x114, 31, 0⟩
def FT_LAST_LO : Fld := ⟨0x118, 31, 0⟩
def FT_LAST_HI : Fld := ⟨0x11c, 31, 0⟩
def FT_DUR_US : Fld := ⟨0x120, 31, 0⟩
def FT_RISE : Fld := ⟨0x124, 31, 0⟩
def FT_PASS_CNT : Fld := ⟨0x128, 31, 0⟩
def FT_FAIL_CNT : Fld := ⟨0x12c, 31, 0⟩
def FORCED_CNT : Fld := ⟨0x130, 31, 0⟩
def FORCE_ABANDON_CNT : Fld := ⟨0x134, 31, 0⟩
def DEFER_CNT : Fld := ⟨0x138, 31, 0⟩
def FORCE_STOP_NS : Fld := ⟨0x13c, 31, 0⟩
def CTR_CLR : Fld := ⟨0x140, 31, 0⟩
end Ft

namespace Sig
/-! Table 14.9. -/
def SIG_STATUS : Fld := ⟨0x100, 31, 0⟩
def SIG_SEL : Fld := ⟨0x104, 31, 0⟩
def SIG_META : Fld := ⟨0x108, 31, 0⟩
def SIG_SEQ_SLOT : Fld := ⟨0x10c, 31, 0⟩
def SIG_OFF : Fld := ⟨0x110, 31, 0⟩
def SIG_DATA : Fld := ⟨0x114, 31, 0⟩
def SIG_ACK : Fld := ⟨0x118, 31, 0⟩
def SIG_SEQ : Fld := ⟨0x11c, 31, 0⟩
def SIG_DROP_CNT : Fld := ⟨0x120, 31, 0⟩
def CTR_CLR : Fld := ⟨0x124, 31, 0⟩
end Sig

namespace Fr
/-! Table 15.10. -/
def FR_HEAD : Fld := ⟨0x100, 31, 0⟩
def FR_SEL : Fld := ⟨0x104, 31, 0⟩
def FR_LOST : Fld := ⟨0x108, 31, 0⟩
def FR_W (n : Nat) : Fld := ⟨0x110 + 4 * n, 31, 0⟩
def UNIT_TRANSIENT_CNT : Fld := ⟨0x130, 31, 0⟩
def UNIT_LASTING_CNT : Fld := ⟨0x134, 31, 0⟩
def SRAM_CE_CNT : Fld := ⟨0x138, 31, 0⟩
def CTR_CLR : Fld := ⟨0x13c, 31, 0⟩
end Fr

namespace Wd
/-! Table 15.11. -/
def WD_CTX : Fld := ⟨0x100, 31, 0⟩
def WD_LIMITS : Fld := ⟨0x104, 31, 0⟩
def WD_LIMITS_WD_ENG : Fld := ⟨0x104, 3, 0⟩
def WD_LIMITS_WD_SEQ : Fld := ⟨0x104, 7, 4⟩
def WD_LIMITS_WD_NMU : Fld := ⟨0x104, 11, 8⟩
def WD_CTX_CNT : Fld := ⟨0x108, 31, 0⟩
def WD_ENG_CNT : Fld := ⟨0x10c, 31, 0⟩
def WD_SEQ_CNT : Fld := ⟨0x110, 31, 0⟩
def WD_NMU_CNT : Fld := ⟨0x114, 31, 0⟩
def CTR_CLR : Fld := ⟨0x118, 31, 0⟩
end Wd

namespace Rst
/-! Table 15.12. -/
def RST_CMD : Fld := ⟨0x100, 31, 0⟩
def RST_CMD_LEVEL : Fld := ⟨0x100, 2, 0⟩
def RST_CMD_UPATH : Fld := ⟨0x100, 31, 16⟩
def RST_GO : Fld := ⟨0x104, 31, 0⟩
def RST_STATUS : Fld := ⟨0x108, 31, 0⟩
def RST_LAST : Fld := ⟨0x10c, 31, 0⟩
def RST_LAST_NS : Fld := ⟨0x110, 31, 0⟩
def RST_CNT (n : Nat) : Fld := ⟨0x114 + 4 * n, 31, 0⟩
def ESC_CNT : Fld := ⟨0x128, 31, 0⟩
def NMU_RST_CNT : Fld := ⟨0x12c, 31, 0⟩
def CTR_CLR : Fld := ⟨0x130, 31, 0⟩
end Rst

namespace Cc
/-! Table 16.14. -/
def CC_STATUS : Fld := ⟨0x100, 31, 0⟩
def CC_CMD : Fld := ⟨0x104, 31, 0⟩
def REVERT_HOLD : Fld := ⟨0x108, 31, 0⟩
def CSR_SEQ : Fld := ⟨0x10c, 31, 0⟩
def CSR_TICK_LO : Fld := ⟨0x110, 31, 0⟩
def CSR_TICK_HI : Fld := ⟨0x114, 31, 0⟩
def HEALTH_P : Fld := ⟨0x118, 31, 0⟩
def HEALTH_J : Fld := ⟨0x11c, 31, 0⟩
def TAKEOVER_CNT : Fld := ⟨0x120, 31, 0⟩
def HANDOVER_CNT : Fld := ⟨0x124, 31, 0⟩
def LAST_TAKEOVER : Fld := ⟨0x128, 31, 0⟩
def TAKEOVER_NS : Fld := ⟨0x12c, 31, 0⟩
def CTR_CLR : Fld := ⟨0x130, 31, 0⟩
end Cc

namespace Fp
/-! Table 16.15. -/
def FP_SEL : Fld := ⟨0x100, 31, 0⟩
def FP_STATUS : Fld := ⟨0x104, 31, 0⟩
def FP_VERSION : Fld := ⟨0x108, 31, 0⟩
def OVR_CNT : Fld := ⟨0x10c, 31, 0⟩
def SKIP_CNT : Fld := ⟨0x110, 31, 0⟩
def WD_CNT : Fld := ⟨0x114, 31, 0⟩
def RESTART_CNT : Fld := ⟨0x118, 31, 0⟩
def WD_FW : Fld := ⟨0x11c, 31, 0⟩
def FP_CMD : Fld := ⟨0x120, 31, 0⟩
def CTR_CLR : Fld := ⟨0x124, 31, 0⟩
end Fp

namespace Upd
/-! Table 16.16. -/
def UPD_SEL : Fld := ⟨0x100, 31, 0⟩
def UPD_SLOT : Fld := ⟨0x104, 31, 0⟩
def UPD_STATE : Fld := ⟨0x108, 31, 0⟩
def UPD_H_LO : Fld := ⟨0x10c, 31, 0⟩
def UPD_H_HI : Fld := ⟨0x110, 31, 0⟩
def UPD_VER_ACT : Fld := ⟨0x114, 31, 0⟩
def UPD_VER_INACT : Fld := ⟨0x118, 31, 0⟩
def PROB_LEFT : Fld := ⟨0x11c, 31, 0⟩
def UPD_CNT : Fld := ⟨0x120, 31, 0⟩
def FALLBACK_CNT : Fld := ⟨0x124, 31, 0⟩
def CTR_CLR : Fld := ⟨0x128, 31, 0⟩
end Upd

namespace Rec
/-! Table 16.17. -/
def REC_CTRL : Fld := ⟨0x100, 31, 0⟩
def REC_CTRL_FREEZE : Fld := ⟨0x100, 0, 0⟩
def REC_CTRL_THAW : Fld := ⟨0x100, 1, 1⟩
def REC_CTRL_AREA : Fld := ⟨0x100, 2, 2⟩
def REC_STATUS : Fld := ⟨0x104, 31, 0⟩
def REC_NEXT_LO : Fld := ⟨0x108, 31, 0⟩
def REC_NEXT_HI : Fld := ⟨0x10c, 31, 0⟩
def REC_CURSOR_LO : Fld := ⟨0x110, 31, 0⟩
def REC_CURSOR_HI : Fld := ⟨0x114, 31, 0⟩
def REC_WIN_STATUS : Fld := ⟨0x118, 31, 0⟩
def FREEZE_MAX : Fld := ⟨0x11c, 31, 0⟩
def FROZEN_CNT : Fld := ⟨0x120, 31, 0⟩
def REC_OVF : Fld := ⟨0x124, 31, 0⟩
def STREAM_LOST : Fld := ⟨0x128, 31, 0⟩
def CLEAR_CNT : Fld := ⟨0x12c, 31, 0⟩
def CTR_CLR : Fld := ⟨0x130, 31, 0⟩
def REC_W (n : Nat) : Fld := ⟨0x140 + 4 * n, 31, 0⟩
end Rec

namespace Sec
/-! Table 17.9. -/
def SEC_STATUS : Fld := ⟨0x100, 31, 0⟩
def SEC_STATUS_LIFECYCLE : Fld := ⟨0x100, 1, 0⟩
def SEC_STATUS_DEBUG_OPEN : Fld := ⟨0x100, 2, 2⟩
def SEC_STATUS_DEBUG_OPENED : Fld := ⟨0x100, 3, 3⟩
def SEC_STATUS_RECOVERY : Fld := ⟨0x100, 4, 4⟩
def SEC_STATUS_OWNER : Fld := ⟨0x100, 5, 5⟩
def SEC_STATUS_SEALED : Fld := ⟨0x100, 11, 6⟩
def BOOT_CNT : Fld := ⟨0x104, 31, 0⟩
def ATT_LEN : Fld := ⟨0x108, 31, 0⟩
def ATT_OFF : Fld := ⟨0x10c, 31, 0⟩
def ATT_DATA : Fld := ⟨0x110, 31, 0⟩
def KEY_SEL : Fld := ⟨0x114, 31, 0⟩
def KEY_STATE : Fld := ⟨0x118, 31, 0⟩
def KEY_IDX_MAX : Fld := ⟨0x11c, 31, 0⟩
def LOAD_CNT : Fld := ⟨0x120, 31, 0⟩
def SVN_SEL : Fld := ⟨0x124, 31, 0⟩
def SVN_MIN : Fld := ⟨0x128, 31, 0⟩
def SEALED_BLOCK_CNT : Fld := ⟨0x12c, 31, 0⟩
def TOKEN_REJ_CNT : Fld := ⟨0x130, 31, 0⟩
def GRANT_REJ_CNT : Fld := ⟨0x134, 31, 0⟩
def CTR_CLR : Fld := ⟨0x138, 31, 0⟩
def ID_DIGEST (n : Nat) : Fld := ⟨0x140 + 4 * n, 31, 0⟩
def OWNER_DIGEST (n : Nat) : Fld := ⟨0x160 + 4 * n, 31, 0⟩
end Sec

namespace Hd
/-! Table 18.10. -/
def PAGE_ID : Fld := ⟨0x0, 31, 0⟩
def PAGE_VER : Fld := ⟨0x4, 31, 0⟩
def PAGE_CAP : Fld := ⟨0x8, 31, 0⟩
def PAGE_SEM : Fld := ⟨0xc, 31, 0⟩
def PAGE_SEM_OWNER : Fld := ⟨0xc, 1, 0⟩
def PAGE_SEM_HELD : Fld := ⟨0xc, 31, 31⟩
def CTRL : Fld := ⟨0x10, 31, 0⟩
def STATUS : Fld := ⟨0x14, 31, 0⟩
def ERR_STAT : Fld := ⟨0x18, 31, 0⟩
def ERR_MASK : Fld := ⟨0x1c, 31, 0⟩
def ERR_FIRST : Fld := ⟨0x20, 31, 0⟩
def ERR_COUNT : Fld := ⟨0x24, 31, 0⟩
def INT_EN : Fld := ⟨0x28, 31, 0⟩
def UNIT_RESET : Fld := ⟨0x2c, 31, 0⟩
end Hd

namespace Glb
/-! Table 18.12. -/
def PART_0 : Fld := ⟨0x100, 31, 0⟩
def PART_1 : Fld := ⟨0x104, 31, 0⟩
def SERIAL_LO : Fld := ⟨0x108, 31, 0⟩
def SERIAL_HI : Fld := ⟨0x10c, 31, 0⟩
def STEPPING : Fld := ⟨0x110, 31, 0⟩
def CHIP_ID : Fld := ⟨0x114, 31, 0⟩
def CHIP_ID_CHIP : Fld := ⟨0x114, 15, 0⟩
def CHIP_ID_VALID : Fld := ⟨0x114, 16, 16⟩
def SLOT_ID : Fld := ⟨0x118, 31, 0⟩
def MOD_STATE : Fld := ⟨0x11c, 31, 0⟩
def MOD_CMD : Fld := ⟨0x120, 31, 0⟩
def SEM_LEASE : Fld := ⟨0x124, 31, 0⟩
def SEM_HELD : Fld := ⟨0x128, 31, 0⟩
def IRQ_CFG : Fld := ⟨0x12c, 31, 0⟩
def IRQ_SUMMARY : Fld := ⟨0x130, 31, 0⟩
def DEV_EPOCH_LO : Fld := ⟨0x134, 31, 0⟩
def DEV_EPOCH_HI : Fld := ⟨0x138, 31, 0⟩
def UNMAPPED_CNT : Fld := ⟨0x13c, 31, 0⟩
def SEM_DROP_CNT : Fld := ⟨0x140, 31, 0⟩
def CTR_CLR : Fld := ⟨0x144, 31, 0⟩
end Glb

namespace Pci
/-! Table 18.13. -/
def PCIE_STATUS : Fld := ⟨0x100, 31, 0⟩
def BAR2_SEL : Fld := ⟨0x104, 31, 0⟩
def FLR_CNT : Fld := ⟨0x108, 31, 0⟩
def LINK_DOWN_CNT : Fld := ⟨0x10c, 31, 0⟩
def RETRAIN_CNT : Fld := ⟨0x110, 31, 0⟩
def AER_CE_CNT : Fld := ⟨0x114, 31, 0⟩
def AER_UE_CNT : Fld := ⟨0x118, 31, 0⟩
def BAR2_POISON_CNT : Fld := ⟨0x11c, 31, 0⟩
def CTR_CLR : Fld := ⟨0x120, 31, 0⟩
end Pci

namespace Mgt
/-! Table 18.14. -/
def MGT_STATUS : Fld := ⟨0x100, 31, 0⟩
def MAC0_LO : Fld := ⟨0x104, 31, 0⟩
def MAC0_HI : Fld := ⟨0x108, 31, 0⟩
def MAC1_LO : Fld := ⟨0x10c, 31, 0⟩
def MAC1_HI : Fld := ⟨0x110, 31, 0⟩
def IPV4_ADDR : Fld := ⟨0x114, 31, 0⟩
def IPV4_CFG : Fld := ⟨0x118, 31, 0⟩
def UDP_PORT : Fld := ⟨0x11c, 31, 0⟩
def EVT_ADDR (n : Nat) : Fld := ⟨0x120 + 4 * n, 31, 0⟩
def EVT_PORT : Fld := ⟨0x130, 31, 0⟩
def RX_CNT : Fld := ⟨0x134, 31, 0⟩
def TX_CNT : Fld := ⟨0x138, 31, 0⟩
def AUTH_FAIL_CNT : Fld := ⟨0x13c, 31, 0⟩
def GAP_CNT : Fld := ⟨0x140, 31, 0⟩
def RELAY_CNT : Fld := ⟨0x144, 31, 0⟩
def CTR_CLR : Fld := ⟨0x148, 31, 0⟩
end Mgt

namespace Pwr
/-! Table 18.15. -/
def PWR_STATUS : Fld := ⟨0x100, 31, 0⟩
def VIN : Fld := ⟨0x104, 31, 0⟩
def IIN : Fld := ⟨0x108, 31, 0⟩
def PIN_TICK : Fld := ⟨0x10c, 31, 0⟩
def PIN_10MS : Fld := ⟨0x110, 31, 0⟩
def PIN_1S : Fld := ⟨0x114, 31, 0⟩
def PWR_CAP : Fld := ⟨0x118, 31, 0⟩
def CAP_EFF : Fld := ⟨0x11c, 31, 0⟩
def TEMP_SEL : Fld := ⟨0x120, 31, 0⟩
def TEMP : Fld := ⟨0x124, 31, 0⟩
def FLOW : Fld := ⟨0x128, 31, 0⟩
def RAIL_SEL : Fld := ⟨0x12c, 31, 0⟩
def RAIL_V : Fld := ⟨0x130, 31, 0⟩
def RAIL_I : Fld := ⟨0x134, 31, 0⟩
def ENERGY_KJ : Fld := ⟨0x138, 31, 0⟩
def CAP_STALL : Fld := ⟨0x13c, 31, 0⟩
def CTR_CLR : Fld := ⟨0x140, 31, 0⟩
end Pwr

/-- Access and reset of the registers of namespace `Cl`. -/
def regDefsCl : List RegDef :=
  [
    { off := 0x100, reset := 0x76543210 },
    { off := 0x104, rw := 0xffffffff, reset := 0x76543210 },
    { off := 0x108, rw := 0x4, w1s := 0x1 },
    { off := 0x10c, reset := 0x10000 },
    { off := 0x110 },
    { off := 0x114 },
    { off := 0x118 },
    { off := 0x14 },
    { off := 0x120, rw := 0x1f },
    { off := 0x124 },
    { off := 0x128 },
    { off := 0x12c },
    { off := 0x130 },
    { off := 0x134 },
    { off := 0x138 },
    { off := 0x13c, wo := 0x1 } ]

/-- Access and reset of the registers of namespace `Lch`. -/
def regDefsLch : List RegDef :=
  [
    { off := 0x100, rw := 0x3 },
    { off := 0x104 },
    { off := 0x108, reset := 0x1000 },
    { off := 0x10c, rw := 0xfff },
    { off := 0x110 },
    { off := 0x114 },
    { off := 0x118 } ]

/-- Access and reset of the registers of namespace `Stp`. -/
def regDefsStp : List RegDef :=
  [
    { off := 0x100, rw := 0xfff },
    { off := 0x108 },
    { off := 0x10c },
    { off := 0x110 },
    { off := 0x114 },
    { off := 0x118 },
    { off := 0x11c } ]

/-- Access and reset of the registers of namespace `Ari`. -/
def regDefsAri : List RegDef :=
  [
    { off := 0x100, rw := 0xfff },
    { off := 0x110, rwe := 0xffffffff },
    { off := 0x114, rwe := 0xffffffff },
    { off := 0x118, rwe := 0xffffffff },
    { off := 0x11c, rwe := 0xffffffff },
    { off := 0x120 },
    { off := 0x124 } ]

/-- Access and reset of the registers of namespace `Cor`. -/
def regDefsCor : List RegDef :=
  [
    { off := 0x100 },
    { off := 0x104 },
    { off := 0x108 },
    { off := 0x10c },
    { off := 0x110 },
    { off := 0x114 },
    { off := 0x118 },
    { off := 0x11c },
    { off := 0x120 },
    { off := 0x124 },
    { off := 0x128 },
    { off := 0x12c },
    { off := 0x130 },
    { off := 0x134 },
    { off := 0x138 },
    { off := 0x140, rw := 0x7 },
    { off := 0x144 },
    { off := 0x148 },
    { off := 0x14c },
    { off := 0x150 },
    { off := 0x154 },
    { off := 0x160, wo := 0x1 } ]

/-- Access and reset of the registers of namespace `Eng`. -/
def regDefsEng : List RegDef :=
  [
    { off := 0x100 },
    { off := 0x104 },
    { off := 0x108 },
    { off := 0x10c },
    { off := 0x110 },
    { off := 0x114 },
    { off := 0x118 },
    { off := 0x11c },
    { off := 0x120 } ]

/-- Access and reset of the registers of namespace `Dn`. -/
def regDefsDn : List RegDef :=
  [
    { off := 0x100, rw := 0x37f },
    { off := 0x104 },
    { off := 0x108 },
    { off := 0x10c },
    { off := 0x110 },
    { off := 0x114 },
    { off := 0x118 },
    { off := 0x11c, wo := 0x1 } ]

/-- Access and reset of the registers of namespace `Br`. -/
def regDefsBr : List RegDef :=
  [
    { off := 0x100, rw := 0x7 },
    { off := 0x104 },
    { off := 0x108 },
    { off := 0x10c },
    { off := 0x110 },
    { off := 0x114, wo := 0x1 } ]

/-- Access and reset of the registers of namespace `Mc`. -/
def regDefsMc : List RegDef :=
  [
    { off := 0x100, reset := 0x6000 },
    { off := 0x104, rwe := 0x7f, reset := 0x60 },
    { off := 0x108, rw := 0x1f, w1s := 0x100 },
    { off := 0x10c },
    { off := 0x110, rw := 0xffffffff, reset := 0x1000 },
    { off := 0x114, rw := 0x1f },
    { off := 0x118 },
    { off := 0x11c },
    { off := 0x120 },
    { off := 0x124 },
    { off := 0x128 },
    { off := 0x12c },
    { off := 0x130 },
    { off := 0x134 },
    { off := 0x138 },
    { off := 0x13c },
    { off := 0x140, stride := 32, count := 8, rw := 0x1 },
    { off := 0x144, stride := 32, count := 8, rw := 0xff1fff },
    { off := 0x148, stride := 32, count := 8, rw := 0x1ffffff },
    { off := 0x14c, stride := 32, count := 8, rw := 0x7fff },
    { off := 0x150, stride := 32, count := 8, rw := 0xffffffff },
    { off := 0x154, stride := 32, count := 8, rw := 0xffffffff },
    { off := 0x158, stride := 32, count := 8 },
    { off := 0x240, wo := 0x1 } ]

/-- Access and reset of the registers of namespace `Scr`. -/
def regDefsScr : List RegDef :=
  [
    { off := 0x100, rw := 0xff01, w1s := 0x2, reset := 0x1801 },
    { off := 0x104 },
    { off := 0x108 },
    { off := 0x10c },
    { off := 0x110 },
    { off := 0x114 },
    { off := 0x118 },
    { off := 0x11c },
    { off := 0x120 },
    { off := 0x124 } ]

/-- Access and reset of the registers of namespace `Nmu`. -/
def regDefsNmu : List RegDef :=
  [
    { off := 0x100 },
    { off := 0x104, rw := 0xffffffff },
    { off := 0x108, rw := 0xffffffff },
    { off := 0x10c, rw := 0xffffffff },
    { off := 0x110, rw := 0xffffffff },
    { off := 0x114, wo := 0x1 },
    { off := 0x118 },
    { off := 0x11c },
    { off := 0x120 },
    { off := 0x124 },
    { off := 0x128 },
    { off := 0x12c },
    { off := 0x130 },
    { off := 0x134 },
    { off := 0x140, rw := 0xfff },
    { off := 0x144, rwe := 0xffffffff },
    { off := 0x148, rwe := 0xffffffff },
    { off := 0x14c, rwe := 0xffffffff },
    { off := 0x150, rwe := 0xffffffff },
    { off := 0x160, wo := 0x1 } ]

/-- Access and reset of the registers of namespace `Mat`. -/
def regDefsMat : List RegDef :=
  [
    { off := 0x100 },
    { off := 0x104 },
    { off := 0x108, rw := 0x1ffffff },
    { off := 0x10c, rw := 0x1ffff },
    { off := 0x110 },
    { off := 0x114 },
    { off := 0x118 },
    { off := 0x11c },
    { off := 0x120 },
    { off := 0x124 },
    { off := 0x128 },
    { off := 0x12c },
    { off := 0x130 },
    { off := 0x134 },
    { off := 0x138 },
    { off := 0x13c, wo := 0x1 } ]

/-- Access and reset of the registers of namespace `Lnk`. -/
def regDefsLnk : List RegDef :=
  [
    { off := 0x100, rw := 0x5, w1s := 0x2, reset := 0x4 },
    { off := 0x104 },
    { off := 0x108, rw := 0x1ffff },
    { off := 0x10c },
    { off := 0x110 },
    { off := 0x114 },
    { off := 0x118 },
    { off := 0x11c },
    { off := 0x120 },
    { off := 0x124 },
    { off := 0x128 },
    { off := 0x12c },
    { off := 0x130 },
    { off := 0x134, wo := 0x1 } ]

/-- Access and reset of the registers of namespace `Lan`. -/
def regDefsLan : List RegDef :=
  [
    { off := 0x100, rw := 0xf },
    { off := 0x104, reset := 0xf0 },
    { off := 0x108 },
    { off := 0x10c, w1s := 0x3 },
    { off := 0x110 },
    { off := 0x114 },
    { off := 0x118 },
    { off := 0x11c },
    { off := 0x120 },
    { off := 0x124 },
    { off := 0x128 },
    { off := 0x12c },
    { off := 0x140, rw := 0xffff, reset := 0x258 },
    { off := 0x144, rw := 0xffff, reset := 0x4 },
    { off := 0x148, rw := 0xffff000f, reset := 0x3e80003 },
    { off := 0x14c, rw := 0xffffffff, reset := 0x186a0 } ]

/-- Access and reset of the registers of namespace `Cry`. -/
def regDefsCry : List RegDef :=
  [
    { off := 0x100, rw := 0x7fff },
    { off := 0x104 },
    { off := 0x108, rwe := 0x1 },
    { off := 0x10c },
    { off := 0x110 },
    { off := 0x114, w1s := 0x1 },
    { off := 0x120 },
    { off := 0x124 },
    { off := 0x128 },
    { off := 0x12c, wo := 0x1 } ]

/-- Access and reset of the registers of namespace `Rt`. -/
def regDefsRt : List RegDef :=
  [
    { off := 0x100, rwe := 0x7 },
    { off := 0x104, stride := 4, count := 4, rwe := 0x1fffff },
    { off := 0x114, rw := 0xffff },
    { off := 0x118, rwe := 0xffffffff },
    { off := 0x11c, rwe := 0xffffffff },
    { off := 0x120, rw := 0x1f },
    { off := 0x124, rwe := 0x1fff },
    { off := 0x128, rw := 0x3fff },
    { off := 0x12c, rwe := 0x1ffff },
    { off := 0x130, rw := 0x1fff },
    { off := 0x134, rw := 0x3fffffff },
    { off := 0x138 },
    { off := 0x13c },
    { off := 0x140 },
    { off := 0x144 },
    { off := 0x148, wo := 0x1 } ]

/-- Access and reset of the registers of namespace `Bnd`. -/
def regDefsBnd : List RegDef :=
  [
    { off := 0x100, rw := 0x3f },
    { off := 0x104 },
    { off := 0x108 },
    { off := 0x10c },
    { off := 0x110 },
    { off := 0x114 },
    { off := 0x118 },
    { off := 0x11c },
    { off := 0x120 },
    { off := 0x124 },
    { off := 0x128, wo := 0x1 } ]

/-- Access and reset of the registers of namespace `Fab`. -/
def regDefsFab : List RegDef :=
  [
    { off := 0x100, rw := 0x4, w1s := 0x3 },
    { off := 0x104 },
    { off := 0x108, rw := 0x1fff },
    { off := 0x10c, rw := 0xffffffff },
    { off := 0x110 },
    { off := 0x114 },
    { off := 0x118 },
    { off := 0x11c },
    { off := 0x120 },
    { off := 0x124 },
    { off := 0x128 },
    { off := 0x12c },
    { off := 0x130, wo := 0x1 } ]

/-- Access and reset of the registers of namespace `Rng`. -/
def regDefsRng : List RegDef :=
  [
    { off := 0x100, rw := 0x1f7 },
    { off := 0x104, reset := 0x3c00 },
    { off := 0x108 },
    { off := 0x10c },
    { off := 0x110 },
    { off := 0x1f0, wo := 0x1 },
    { off := 0x200, rw := 0x3ffffff, reset := 0x402028 },
    { off := 0x204, rw := 0xfff1f, reset := 0x4000f },
    { off := 0x208, rw := 0xffff, w1s := 0x10000, reset := 0x323c },
    { off := 0x20c },
    { off := 0x210 },
    { off := 0x214 },
    { off := 0x218 },
    { off := 0x21c },
    { off := 0x220 },
    { off := 0x224 },
    { off := 0x228, rw := 0x1ff },
    { off := 0x22c, rw := 0xffff },
    { off := 0x230, wo := 0x1 },
    { off := 0x234 },
    { off := 0x238 },
    { off := 0x23c },
    { off := 0x240, wo := 0x1 } ]

/-- Access and reset of the registers of namespace `Kal`. -/
def regDefsKal : List RegDef :=
  [
    { off := 0x100, rw := 0xffff },
    { off := 0x104, rw := 0x77 },
    { off := 0x108, reset := 0xff },
    { off := 0x10c },
    { off := 0x110 },
    { off := 0x114 },
    { off := 0x118 },
    { off := 0x11c, wo := 0x10f },
    { off := 0x120, wo := 0x1 } ]

/-- Access and reset of the registers of namespace `Las`. -/
def regDefsLas : List RegDef :=
  [
    { off := 0x100 },
    { off := 0x104 },
    { off := 0x108, rw := 0x1f },
    { off := 0x10c },
    { off := 0x110, rw := 0xffff },
    { off := 0x114 },
    { off := 0x118 },
    { off := 0x11c, rw := 0xffffffff, reset := 0x23190f0a },
    { off := 0x120, rw := 0xffff, reset := 0x100 },
    { off := 0x124, wo := 0x3 },
    { off := 0x128 },
    { off := 0x12c },
    { off := 0x130 },
    { off := 0x134, wo := 0x1 } ]

/-- Access and reset of the registers of namespace `Mon`. -/
def regDefsMon : List RegDef :=
  [
    { off := 0x100, rw := 0xffff },
    { off := 0x104, rw := 0x7, reset := 0x3 },
    { off := 0x108, w1s := 0x3 },
    { off := 0x10c, rw := 0xffffffff },
    { off := 0x110, rw := 0xffffffff },
    { off := 0x114 },
    { off := 0x118 },
    { off := 0x11c, rw := 0xffff, reset := 0xfa88 },
    { off := 0x120 } ]

/-- Access and reset of the registers of namespace `Trm`. -/
def regDefsTrm : List RegDef :=
  [
    { off := 0x100, rw := 0x1, reset := 0x1 },
    { off := 0x104, rw := 0x7f },
    { off := 0x108, rw := 0x7fffffff },
    { off := 0x10c, rw := 0x1fff },
    { off := 0x110 },
    { off := 0x114 },
    { off := 0x118 },
    { off := 0x11c },
    { off := 0x120 },
    { off := 0x124 },
    { off := 0x128, wo := 0x1 } ]

/-- Access and reset of the registers of namespace `Tim`. -/
def regDefsTim : List RegDef :=
  [
    { off := 0x100, w1s := 0x1 },
    { off := 0x104, rw := 0xffffff, reset := 0xa14ff },
    { off := 0x108 },
    { off := 0x10c },
    { off := 0x110 },
    { off := 0x114 },
    { off := 0x118 },
    { off := 0x11c },
    { off := 0x120 },
    { off := 0x124 },
    { off := 0x128 },
    { off := 0x12c },
    { off := 0x130 },
    { off := 0x134 },
    { off := 0x138 },
    { off := 0x13c },
    { off := 0x140 },
    { off := 0x144 },
    { off := 0x148 },
    { off := 0x14c, wo := 0x1 },
    { off := 0x180, stride := 4, count := 32, rw := 0xffff } ]

/-- Access and reset of the registers of namespace `Ptp`. -/
def regDefsPtp : List RegDef :=
  [
    { off := 0x100, rw := 0xf37f03, reset := 0x3 },
    { off := 0x104 },
    { off := 0x108 },
    { off := 0x10c },
    { off := 0x110 },
    { off := 0x114 },
    { off := 0x118 },
    { off := 0x11c },
    { off := 0x120 },
    { off := 0x124, wo := 0x1 } ]

/-- Access and reset of the registers of namespace `Trg`. -/
def regDefsTrg : List RegDef :=
  [
    { off := 0x100, stride := 16, count := 4, rw := 0x6, w1s := 0x1 },
    { off := 0x104, stride := 16, count := 4, rw := 0xffffffff },
    { off := 0x108, stride := 16, count := 4, rw := 0xffffffff },
    { off := 0x10c, stride := 16, count := 4, rw := 0x3fffffff },
    { off := 0x140, stride := 32, count := 4, rw := 0xffff0007 },
    { off := 0x144, stride := 32, count := 4 },
    { off := 0x148, stride := 32, count := 4 },
    { off := 0x14c, stride := 32, count := 4 },
    { off := 0x150, stride := 32, count := 4 },
    { off := 0x154, stride := 32, count := 4 },
    { off := 0x158, stride := 32, count := 4 },
    { off := 0x15c, stride := 32, count := 4, rw := 0xffffffff },
    { off := 0x1c0, rw := 0xfff, reset := 0x191 },
    { off := 0x1c4, rw := 0xffffffff },
    { off := 0x1c8 },
    { off := 0x1cc, wo := 0x1 } ]

/-- Access and reset of the registers of namespace `Par`. -/
def regDefsPar : List RegDef :=
  [
    { off := 0x100, rw := 0xfff, reset := 0x1 },
    { off := 0x104, wo := 0x7 },
    { off := 0x108 },
    { off := 0x10c, rw := 0xffffffff },
    { off := 0x110, rw := 0xffffffff },
    { off := 0x114 },
    { off := 0x118 },
    { off := 0x11c, rw := 0xffffffff },
    { off := 0x120, rw := 0xffffffff },
    { off := 0x124, rwe := 0xffffffff },
    { off := 0x128, rwe := 0xffffffff },
    { off := 0x12c },
    { off := 0x130 },
    { off := 0x134 },
    { off := 0x138 },
    { off := 0x13c },
    { off := 0x140 },
    { off := 0x144, wo := 0x1 } ]

/-- Access and reset of the registers of namespace `Ctx`. -/
def regDefsCtx : List RegDef :=
  [
    { off := 0x100, rw := 0x1fff },
    { off := 0x104, wo := 0x3 },
    { off := 0x108, rw := 0xff0fff },
    { off := 0x10c },
    { off := 0x110 },
    { off := 0x114 },
    { off := 0x118 } ]

/-- Access and reset of the registers of namespace `Lin`. -/
def regDefsLin : List RegDef :=
  [
    { off := 0x100, rw := 0x3ff },
    { off := 0x104, wo := 0xfff003 },
    { off := 0x108 },
    { off := 0x10c },
    { off := 0x110 },
    { off := 0x114 },
    { off := 0x118, wo := 0x1 } ]

/-- Access and reset of the registers of namespace `Ep`. -/
def regDefsEp : List RegDef :=
  [
    { off := 0x100, rw := 0xfff },
    { off := 0x104, rw := 0x4, w1s := 0x3 },
    { off := 0x108 },
    { off := 0x10c },
    { off := 0x110, rw := 0xffffffff },
    { off := 0x114, rw := 0xffffffff },
    { off := 0x118, rw := 0xffffffff },
    { off := 0x11c, rw := 0xffffffff },
    { off := 0x120 },
    { off := 0x124 },
    { off := 0x128, stride := 4, count := 8 },
    { off := 0x148 },
    { off := 0x14c, rw := 0xffffffff, reset := 0x186a0 },
    { off := 0x150, rw := 0xfffff },
    { off := 0x154 },
    { off := 0x158, reset := 0x10 },
    { off := 0x15c },
    { off := 0x160, wo := 0x1 } ]

/-- Access and reset of the registers of namespace `Ct`. -/
def regDefsCt : List RegDef :=
  [
    { off := 0x100, rw := 0xfff, reset := 0x1 },
    { off := 0x104, rwe := 0xffffffff },
    { off := 0x108, rwe := 0xffffffff },
    { off := 0x10c },
    { off := 0x110, rw := 0xffff },
    { off := 0x114, rw := 0x3f },
    { off := 0x118 },
    { off := 0x11c },
    { off := 0x120 },
    { off := 0x124 },
    { off := 0x128 },
    { off := 0x12c },
    { off := 0x130 },
    { off := 0x134 },
    { off := 0x138 },
    { off := 0x13c, wo := 0x1 } ]

/-- Access and reset of the registers of namespace `Ck`. -/
def regDefsCk : List RegDef :=
  [
    { off := 0x100, rw := 0xfff, reset := 0x1 },
    { off := 0x104 },
    { off := 0x108 },
    { off := 0x10c },
    { off := 0x110, rw := 0xffffffff },
    { off := 0x114, rw := 0xffffffff },
    { off := 0x118, rw := 0x3 },
    { off := 0x11c, rw := 0xffff, reset := 0x3c },
    { off := 0x120 },
    { off := 0x124 },
    { off := 0x128 },
    { off := 0x12c, wo := 0x3 },
    { off := 0x130 },
    { off := 0x134 },
    { off := 0x138 },
    { off := 0x13c, wo := 0x7 },
    { off := 0x140, rw := 0xffffffff },
    { off := 0x144, rw := 0xffffffff },
    { off := 0x148, rw := 0xff, reset := 0x4 },
    { off := 0x14c, rw := 0xffffffff },
    { off := 0x150, rw := 0xffffffff },
    { off := 0x154 },
    { off := 0x158 },
    { off := 0x15c, wo := 0x1 } ]

/-- Access and reset of the registers of namespace `Rc`. -/
def regDefsRc : List RegDef :=
  [
    { off := 0x100, rw := 0xfff, reset := 0x1 },
    { off := 0x104, wo := 0xffffff },
    { off := 0x108, rw := 0xffffffff },
    { off := 0x10c, rw := 0xffffffff },
    { off := 0x110, rw := 0xffffffff },
    { off := 0x114, rw := 0xffffffff },
    { off := 0x118 },
    { off := 0x11c },
    { off := 0x120, stride := 4, count := 4 },
    { off := 0x130, stride := 4, count := 8 },
    { off := 0x150 },
    { off := 0x154 },
    { off := 0x158, wo := 0x1 } ]

/-- Access and reset of the registers of namespace `Dg`. -/
def regDefsDg : List RegDef :=
  [
    { off := 0x100, rw := 0x7fff, reset := 0x1 },
    { off := 0x104, rw := 0xffff, reset := 0x2710 },
    { off := 0x108, rw := 0xffffffff, reset := 0x7a120 },
    { off := 0x10c },
    { off := 0x110 },
    { off := 0x114 },
    { off := 0x118 },
    { off := 0x11c },
    { off := 0x120 },
    { off := 0x124 },
    { off := 0x128, stride := 4, count := 4 },
    { off := 0x138, stride := 4, count := 4 },
    { off := 0x148, rw := 0xffffffff },
    { off := 0x14c, rw := 0xffffffff },
    { off := 0x150, rw := 0x1 },
    { off := 0x154 },
    { off := 0x158 },
    { off := 0x15c },
    { off := 0x160, wo := 0x1 } ]

/-- Access and reset of the registers of namespace `Ft`. -/
def regDefsFt : List RegDef :=
  [
    { off := 0x100, rw := 0x7ffff01, reset := 0x781801 },
    { off := 0x104, rw := 0x7f },
    { off := 0x108, wo := 0x3 },
    { off := 0x10c },
    { off := 0x110 },
    { off := 0x114 },
    { off := 0x118 },
    { off := 0x11c },
    { off := 0x120 },
    { off := 0x124 },
    { off := 0x128 },
    { off := 0x12c },
    { off := 0x130 },
    { off := 0x134 },
    { off := 0x138 },
    { off := 0x13c },
    { off := 0x140, wo := 0x1 } ]

/-- Access and reset of the registers of namespace `Sig`. -/
def regDefsSig : List RegDef :=
  [
    { off := 0x100 },
    { off := 0x104, rw := 0xf },
    { off := 0x108 },
    { off := 0x10c },
    { off := 0x110, rw := 0x3ff },
    { off := 0x114 },
    { off := 0x118, wo := 0x1 },
    { off := 0x11c },
    { off := 0x120 },
    { off := 0x124, wo := 0x1 } ]

/-- Access and reset of the registers of namespace `Fr`. -/
def regDefsFr : List RegDef :=
  [
    { off := 0x100 },
    { off := 0x104, rw := 0xff },
    { off := 0x108 },
    { off := 0x110, stride := 4, count := 8 },
    { off := 0x130 },
    { off := 0x134 },
    { off := 0x138 },
    { off := 0x13c, wo := 0x1 } ]

/-- Access and reset of the registers of namespace `Wd`. -/
def regDefsWd : List RegDef :=
  [
    { off := 0x100, rw := 0xffffffff, reset := 0xf4240 },
    { off := 0x104, rw := 0xfff, reset := 0x322 },
    { off := 0x108 },
    { off := 0x10c },
    { off := 0x110 },
    { off := 0x114 },
    { off := 0x118, wo := 0x1 } ]

/-- Access and reset of the registers of namespace `Rst`. -/
def regDefsRst : List RegDef :=
  [
    { off := 0x100, rw := 0xffff0007 },
    { off := 0x104, w1s := 0x1 },
    { off := 0x108 },
    { off := 0x10c },
    { off := 0x110 },
    { off := 0x114, stride := 4, count := 5 },
    { off := 0x128 },
    { off := 0x12c },
    { off := 0x130, wo := 0x1 } ]

/-- Access and reset of the registers of namespace `Cc`. -/
def regDefsCc : List RegDef :=
  [
    { off := 0x100 },
    { off := 0x104, w1s := 0x1 },
    { off := 0x108, rw := 0xffffffff, reset := 0x186a0 },
    { off := 0x10c },
    { off := 0x110 },
    { off := 0x114 },
    { off := 0x118 },
    { off := 0x11c },
    { off := 0x120 },
    { off := 0x124 },
    { off := 0x128 },
    { off := 0x12c },
    { off := 0x130, wo := 0x1 } ]

/-- Access and reset of the registers of namespace `Fp`. -/
def regDefsFp : List RegDef :=
  [
    { off := 0x100, rw := 0x3f },
    { off := 0x104 },
    { off := 0x108 },
    { off := 0x10c },
    { off := 0x110 },
    { off := 0x114 },
    { off := 0x118 },
    { off := 0x11c, rw := 0x3ff, reset := 0x5 },
    { off := 0x120, wo := 0x1 },
    { off := 0x124, wo := 0x1 } ]

/-- Access and reset of the registers of namespace `Upd`. -/
def regDefsUpd : List RegDef :=
  [
    { off := 0x100, rw := 0x7 },
    { off := 0x104 },
    { off := 0x108 },
    { off := 0x10c },
    { off := 0x110 },
    { off := 0x114 },
    { off := 0x118 },
    { off := 0x11c },
    { off := 0x120 },
    { off := 0x124 },
    { off := 0x128, wo := 0x1 } ]

/-- Access and reset of the registers of namespace `Rec`. -/
def regDefsRec : List RegDef :=
  [
    { off := 0x100, rw := 0x4, w1s := 0x3 },
    { off := 0x104 },
    { off := 0x108 },
    { off := 0x10c },
    { off := 0x110, rw := 0xffffffff },
    { off := 0x114, rw := 0xffffffff },
    { off := 0x118 },
    { off := 0x11c, rw := 0xffffffff, reset := 0x186a0 },
    { off := 0x120 },
    { off := 0x124 },
    { off := 0x128 },
    { off := 0x12c },
    { off := 0x130, wo := 0x1 },
    { off := 0x140, stride := 4, count := 16 } ]

/-- Access and reset of the registers of namespace `Sec`. -/
def regDefsSec : List RegDef :=
  [
    { off := 0x100 },
    { off := 0x104 },
    { off := 0x108 },
    { off := 0x10c, rw := 0x1fff },
    { off := 0x110 },
    { off := 0x114, rw := 0xfff },
    { off := 0x118 },
    { off := 0x11c },
    { off := 0x120 },
    { off := 0x124, rw := 0x7 },
    { off := 0x128 },
    { off := 0x12c },
    { off := 0x130 },
    { off := 0x134 },
    { off := 0x138, wo := 0x1 },
    { off := 0x140, stride := 4, count := 8 },
    { off := 0x160, stride := 4, count := 8 } ]

/-- Access and reset of the registers of namespace `Hd`. -/
def regDefsHd : List RegDef :=
  [
    { off := 0x0 },
    { off := 0x4, reset := 0x100 },
    { off := 0x8 },
    { off := 0xc, rw := 0x80000000 },
    { off := 0x10 },
    { off := 0x14 },
    { off := 0x18, w1c := 0xffffffff },
    { off := 0x1c, rw := 0xffffffff },
    { off := 0x20 },
    { off := 0x24 },
    { off := 0x28, rw := 0xffffffff },
    { off := 0x2c, wo := 0xffffffff } ]

/-- Access and reset of the registers of namespace `Glb`. -/
def regDefsGlb : List RegDef :=
  [
    { off := 0x100, reset := 0x2d4d594e },
    { off := 0x104, reset := 0x3231564d },
    { off := 0x108 },
    { off := 0x10c },
    { off := 0x110 },
    { off := 0x114, rw := 0x1ffff },
    { off := 0x118 },
    { off := 0x11c },
    { off := 0x120, wo := 0x3 },
    { off := 0x124, rw := 0xffffffff, reset := 0xf4240 },
    { off := 0x128 },
    { off := 0x12c, rw := 0x107ff },
    { off := 0x130 },
    { off := 0x134 },
    { off := 0x138 },
    { off := 0x13c },
    { off := 0x140 },
    { off := 0x144, wo := 0x1 } ]

/-- Access and reset of the registers of namespace `Pci`. -/
def regDefsPci : List RegDef :=
  [
    { off := 0x100 },
    { off := 0x104, rw := 0xfff },
    { off := 0x108 },
    { off := 0x10c },
    { off := 0x110 },
    { off := 0x114 },
    { off := 0x118 },
    { off := 0x11c },
    { off := 0x120, wo := 0x1 } ]

/-- Access and reset of the registers of namespace `Mgt`. -/
def regDefsMgt : List RegDef :=
  [
    { off := 0x100 },
    { off := 0x104 },
    { off := 0x108 },
    { off := 0x10c },
    { off := 0x110 },
    { off := 0x114, rw := 0xffffffff },
    { off := 0x118, rw := 0x3f },
    { off := 0x11c, rw := 0xffff, reset := 0xc22e },
    { off := 0x120, stride := 4, count := 4, rw := 0xffffffff },
    { off := 0x130, rw := 0xffff, reset := 0xc22f },
    { off := 0x134 },
    { off := 0x138 },
    { off := 0x13c },
    { off := 0x140 },
    { off := 0x144 },
    { off := 0x148, wo := 0x1 } ]

/-- Access and reset of the registers of namespace `Pwr`. -/
def regDefsPwr : List RegDef :=
  [
    { off := 0x100 },
    { off := 0x104 },
    { off := 0x108 },
    { off := 0x10c },
    { off := 0x110 },
    { off := 0x114 },
    { off := 0x118, rw := 0xffffffff, reset := 0x960 },
    { off := 0x11c, reset := 0x960 },
    { off := 0x120, rw := 0x1f },
    { off := 0x124 },
    { off := 0x128 },
    { off := 0x12c, rw := 0xf },
    { off := 0x130 },
    { off := 0x134 },
    { off := 0x138 },
    { off := 0x13c },
    { off := 0x140, wo := 0x1 } ]

/-- The registers of a page beyond the common header (Table 18.10). -/
def Page.defs : Page → List RegDef
  | .glb => regDefsGlb | .hst => regDefsPci | .lchHost => regDefsLch | .lchMgt => regDefsLch
  | .mgt => regDefsMgt | .time => regDefsTim | .ptp => regDefsPtp | .trg => regDefsTrg
  | .sec => regDefsSec | .cc => regDefsCc | .fp => regDefsFp | .upd => regDefsUpd | .flip => regDefsRec
  | .fr => regDefsFr | .wd => regDefsWd | .rst => regDefsRst | .part => regDefsPar | .ctx => regDefsCtx
  | .line => regDefsLin | .ep => regDefsEp | .ari => regDefsAri | .stp => regDefsStp | .ct => regDefsCt
  | .ck => regDefsCk | .rc => regDefsRc | .dg => regDefsDg | .ft => regDefsFt | .sig => regDefsSig
  | .pwr => regDefsPwr | .core _ _ _ => regDefsCor | .eng _ _ _ _ => regDefsEng
  | .cluster _ _ => regDefsCl | .dn _ => regDefsDn | .br _ => regDefsBr | .mc _ => regDefsMc
  | .nmu _ => regDefsNmu | .scr _ => regDefsScr | .mat _ => regDefsMat | .lnk _ => regDefsLnk
  | .lan _ => regDefsLan | .trm _ => regDefsTrm | .cry _ => regDefsCry | .rt => regDefsRt
  | .bnd => regDefsBnd | .las _ _ => regDefsLas | .mon _ => regDefsMon | .rng _ => regDefsRng
  | .kal _ => regDefsKal | .fab => regDefsFab

/-- The definition that covers offset `off` of a page, the common header included. -/
def Page.regDef (pg : Page) (off : Nat) : Option RegDef :=
  (pg.defs ++ regDefsHd).find? (fun r =>
    r.off ≤ off && (off - r.off) % r.stride == 0 && (off - r.off) / r.stride < r.count)

/-- The offsets of the CTR_CLR registers of a page (R156): the rings page has two (Tables 9.11, 10.9). -/
def Page.ctrClrOffs : Page → List Nat
  | .core _ _ _ => [0x160]
  | .cluster _ _ => [0x13c]
  | .dn _ => [0x11c]
  | .br _ => [0x114]
  | .mc _ => [0x240]
  | .nmu _ => [0x160]
  | .mat _ => [0x13c]
  | .lnk _ => [0x134]
  | .cry _ => [0x12c]
  | .rt => [0x148]
  | .bnd => [0x128]
  | .fab => [0x130]
  | .rng _ => [0x1f0, 0x240]
  | .kal _ => [0x120]
  | .las _ _ => [0x134]
  | .trm _ => [0x128]
  | .time => [0x14c]
  | .ptp => [0x124]
  | .trg => [0x1cc]
  | .part => [0x144]
  | .line => [0x118]
  | .ep => [0x160]
  | .ct => [0x13c]
  | .ck => [0x15c]
  | .rc => [0x158]
  | .dg => [0x160]
  | .ft => [0x140]
  | .sig => [0x124]
  | .fr => [0x13c]
  | .wd => [0x118]
  | .rst => [0x130]
  | .cc => [0x130]
  | .fp => [0x124]
  | .upd => [0x128]
  | .flip => [0x130]
  | .sec => [0x138]
  | .glb => [0x144]
  | .hst => [0x120]
  | .mgt => [0x148]
  | .pwr => [0x140]
  | _ => []

/-- The counters of a page that its CTR_CLR clears (R156 and the CTR_CLR row of each table). -/
def Page.counters : Page → List Nat
  | .glb => [0x13c, 0x140]
  | .hst => [0x108, 0x10c, 0x110, 0x114, 0x118, 0x11c]
  | .mgt => [0x134, 0x138, 0x13c, 0x140, 0x144]
  | .time => [0x13c, 0x140]
  | .ptp => [0x114, 0x118, 0x11c, 0x120]
  | .sec => [0x12c, 0x130, 0x134]
  | .cc => [0x120, 0x124]
  | .fp => [0x10c, 0x110, 0x114, 0x118]
  | .upd => [0x120, 0x124]
  | .flip => [0x120, 0x124, 0x128]
  | .fr => [0x108, 0x130, 0x134, 0x138]
  | .wd => [0x108, 0x10c, 0x110, 0x114]
  | .rst => [0x128, 0x12c] ++ (List.range 5).map (fun l => 0x114 + 4 * l)
  | .part => [0x130, 0x134, 0x138, 0x13c]
  | .line => [0x110, 0x114]
  | .ep => [0x15c]
  | .ct => [0x12c, 0x130, 0x134, 0x138]
  | .ck => [0x130, 0x134, 0x138]
  | .rc => [0x150, 0x154]
  | .dg => [0x154, 0x158, 0x15c]
  | .ft => [0x128, 0x12c, 0x130, 0x134, 0x138]
  | .sig => [0x120]
  | .pwr => [0x13c]
  | .core _ _ _ => [0x118, 0x11c, 0x120, 0x124, 0x138, 0x148, 0x150]
  | .eng _ _ _ _ => [0x110, 0x118, 0x120]
  | .cluster _ _ => [0x128, 0x130]
  | .dn _ => [0x108, 0x110]
  | .br _ => [0x108, 0x110]
  | .mc _ => [0x118, 0x11c, 0x120, 0x124, 0x128, 0x12c, 0x130] ++ (List.range 8).map (fun n => 0x158 + 32 * n)
  | .scr _ => [0x10c]
  | .nmu _ => [0x118, 0x11c, 0x120, 0x124, 0x128]
  | .mat _ => [0x11c, 0x124, 0x128]
  | .lnk _ => [0x118, 0x11c, 0x120, 0x124, 0x128, 0x12c, 0x130]
  | .lan _ => [0x118, 0x11c, 0x120]
  | .cry _ => [0x120, 0x124, 0x128]
  | .rt => [0x138, 0x13c, 0x140, 0x144]
  | .bnd => [0x114, 0x120, 0x124]
  | .fab => [0x128, 0x12c]
  | .kal _ => [0x110, 0x114, 0x118]
  | .las _ _ => [0x128]
  | .trm _ => [0x124]
  | .trg => (List.range 4).flatMap (fun n => [0x154 + 32 * n, 0x158 + 32 * n])
  | .rng _ => [0x10c, 0x110, 0x234, 0x238, 0x23c]
  | _ => []

/-- PAGE_CAP (Table 18.10): RWE fields, compute reset domain, CTR_CLR. -/
def Page.cap (pg : Page) : Nat :=
  (if pg.defs.any (fun r => r.rwe != 0) then 1 else 0)
  + (match pg with | .core _ _ _ => 2 | .eng _ _ _ _ => 2 | .cluster _ _ => 2 | _ => 0)
  + (if !pg.ctrClrOffs.isEmpty then 4 else 0)

/-- Physical-core, port and laser reset values that depend on the unit (Tables 5.6, 5.7, 8.9, 10.10),
and the header words (Table 18.10). Values that come from flash, fuses, pins or the commissioning record
are 0 here: the model holds them in `State.flash` and copies them in at power-on. -/
def Page.special (pg : Page) (off : Nat) : Option Nat :=
  if off = 0x000 then some (pg.blockType * 65536 + pg.instance_)
  else if off = 0x004 then some 0x100
  else if off = 0x008 then some pg.cap
  else match pg with
  | .core _ _ p => if off = 0x100 then some (p % 8 * 256 + (if p < 8 then 2048 else 0)) else none
  | .eng _ _ p _ => if off = 0x100 then some (if p = 8 then 3 else 0) else none
  | .lnk p =>
    if off = 0x100 then some (4 + (if p < 8 then 1 else 0))
    else if off = 0x104 then some ((if p < 4 then 0 else if p < 8 then 1 else 2) * 2)
    else none
  | .las _ x => if off = 0x100 then some (if x = 0 then 1 else 2) else none
  | _ => none

/-- The reset value of the register at offset `off` of a page (R14 and the register tables). -/
def Page.resetOf (pg : Page) (off : Nat) : Nat :=
  match pg.special off with
  | some v => v
  | none => match pg.regDef off with
    | some r => r.reset
    | none => 0

end Sys2Proof.Machine
end

