-- ==== Sys2Proof/Machine/SMap.lean ====
section
/-! DEFINITION. Sparse maps: a list of key and value pairs with keys strictly rising and no entry equal to what an
unlisted key reads as, so that equal maps are equal data. Registers, memory and every table of records of the
block are held in this one form. -/
namespace Sys2Proof.Machine

/-- A sparse map from numbers: the pairs that differ from the default, in rising key order. -/
abbrev SMap (α : Type) := List (Nat × α)

/-- What key `k` reads as; `d` says what an unlisted key reads as. -/
def smGet {α : Type} (d : Nat → α) : SMap α → Nat → α
  | [], k => d k
  | (a, v) :: t, k => if a = k then v else smGet d t k

/-- Insert or replace the entry of key `k`, keeping the order. -/
def smIns {α : Type} : SMap α → Nat → α → SMap α
  | [], k, v => [(k, v)]
  | (a, w) :: t, k, v =>
    if k < a then (k, v) :: (a, w) :: t
    else if a = k then (k, v) :: t
    else (a, w) :: smIns t k v

/-- Remove the entry of key `k`. -/
def smDel {α : Type} (m : SMap α) (k : Nat) : SMap α := m.filter (fun e => e.1 != k)

/-- Write key `k`: the default value removes the entry. -/
def smSet {α : Type} [DecidableEq α] (d : Nat → α) (m : SMap α) (k : Nat) (v : α) : SMap α :=
  if v = d k then smDel m k else smIns m k v

/-- The keys rise strictly from above `lo`, and no entry equals the default. -/
def smWfFrom {α : Type} [DecidableEq α] (d : Nat → α) : Option Nat → SMap α → Bool
  | _, [] => true
  | lo, (a, v) :: t =>
    (match lo with | none => true | some l => decide (l < a)) && decide (v ≠ d a) && smWfFrom d (some a) t

/-- The canonical form of a sparse map. -/
def smWf {α : Type} [DecidableEq α] (d : Nat → α) (m : SMap α) : Bool := smWfFrom d none m

/-- A table of records: an unlisted key holds the default record. -/
def tGet {α : Type} [Inhabited α] (m : SMap α) (k : Nat) : α := smGet (fun _ => default) m k

/-- Write a record of a table. -/
def tSet {α : Type} [Inhabited α] [DecidableEq α] (m : SMap α) (k : Nat) (v : α) : SMap α :=
  smSet (fun _ => default) m k v

/-- Change a record of a table. -/
def tMod {α : Type} [Inhabited α] [DecidableEq α] (m : SMap α) (k : Nat) (f : α → α) : SMap α :=
  tSet m k (f (tGet m k))

end Sys2Proof.Machine
end

