-- ==== Sys2Proof/Machine/State.lean ====
section
/-! DEFINITION. The state of the block: every register, memory, queue, record and timer the spec gives it, as
plain data, the reset state, and the reasons a step can stop. -/
namespace Sys2Proof.Machine

/-- The machine stops with a fault. No meaning of this model raises one: the block answers every command. -/
inductive Fault where
  /-- Raised by no meaning; kept so that the type is inhabited. Safe. -/
  | none_
  deriving DecidableEq, Repr

/-- The machine has no meaning for a command. -/
inductive Refusal where
  /-- Raised only by `exec` for a command not modelled yet. Safe. -/
  | notModelled (mnemonic : String)
  deriving DecidableEq, Repr

/-! ### The Flip-book (R462–R471) -/

/-- A Flip-book record (Table 16.11); `payload` is its bytes 0x20–0x3F as one number. -/
structure FlipRec where
  code : Nat := 0
  repeat_ : Nat := 0
  source : Nat := 0
  near : Bool := false
  trunc : Bool := false
  fw : Bool := false
  seq : Nat := 0
  tick : Nat := 0
  ofs : Nat := 0
  lastDelta : Nat := 0
  payload : Nat := 0
  deriving DecidableEq, Repr, Inhabited

/-- What leaves the module through its interfaces, newest last. -/
inductive Out where
  /-- An MSI-X message to the host. -/
  | msix (vector : Nat)
  /-- An event-channel signal to the fabric manager (R32, R454). -/
  | channel (n : Nat)
  /-- A Flip-book record streamed on a management port (R470). -/
  | eventMsg (port : Nat) (r : FlipRec)
  /-- A failure signature streamed on a management port (R418). -/
  | signatureMsg (port seq : Nat) (item : List Nat)
  /-- A management response (Table 18.6); `State.datagram` gives its bytes. -/
  | mgmtRsp (r : MgRsp)
  /-- A BAR read completion: status 0 success, 1 Unsupported Request, 2 poisoned (EP), and the data. -/
  | hostRead (status : Nat) (data : List Byte)
  /-- A PTP message sent on a management port, by its type. -/
  | ptpMsg (port kind : Nat)
  /-- PPS out driven high for a width in ms. -/
  | ppsPulse (ms : Nat)
  /-- A flit on a lane of a port (R222). -/
  | flit (port lane : Nat) (f : Flit)
  /-- A storage-ring transfer to the host bus: address and bytes (R382). -/
  | hostWrite (addr : Nat) (data : List Byte)
  deriving DecidableEq, Repr

/-- The two areas of the Flip-book and its stream. -/
structure Flip where
  /-- The circulating area, by SEQ mod 4,096. -/
  circ : SMap FlipRec := []
  /-- The kept area, by index. -/
  kept : SMap FlipRec := []
  /-- Tick of the freeze in effect. -/
  freezeTick : Nat := 0
  /-- Events not stored in the freeze: number, first and last SEQ. -/
  gapCnt : Nat := 0
  gapFirst : Nat := 0
  gapLast : Nat := 0
  /-- The next record stored after a thaw is 0x0103. -/
  gapDue : Bool := false
  /-- Events lost at the intake since the last 0x0104. -/
  lostSince : Nat := 0
  /-- SEQ of the oldest record not yet streamed. -/
  unsent : Nat := 0
  /-- The newest record's REPEAT has changed since it was streamed. -/
  repDirty : Bool := false
  deriving DecidableEq, Repr, Inhabited

/-! ### Launching and programs (R28–R34) -/

/-- A launch slot: its 64 bytes as eight words (Table 1.6) and what the scan remembers of it. -/
structure Slot where
  w0 : DWord := 0
  prog : DWord := 0
  start : DWord := 0
  w3 : DWord := 0
  w4 : DWord := 0
  arg0 : DWord := 0
  arg1 : DWord := 0
  arg2 : DWord := 0
  /-- A scan has considered the entry since it was posted; it was past START_TICK then. -/
  seen : Bool := false
  late : Bool := false
  /-- Tick at which it became WAITING. -/
  waitTick : Nat := 0
  /-- The post that decides its tick completed within NEAR_NS of a tick boundary (R328). -/
  near : Bool := false
  deriving DecidableEq, Repr, Inhabited

/-- A completion entry (Table 1.8), PHASE apart. -/
structure Cpl where
  status : Nat := 0
  phase : Bool := false
  late : Bool := false
  slot : Nat := 0
  seq : Nat := 0
  startAct : Nat := 0
  endTick : Nat := 0
  lastDesc : Nat := 0
  /-- The completion asks for a signal, on this vector or channel (R32). -/
  irq : Bool := false
  vector : Nat := 0
  deriving DecidableEq, Repr, Inhabited

/-- A running program, by its launch slot. -/
structure Prog where
  active : Bool := false
  ctx : Nat := 0
  gen : Nat := 0
  part : Nat := 0
  /-- Target logical cores, numbered (4d + c) × 8 + n. -/
  cores : List Nat := []
  startAct : Nat := 0
  /-- Set when a fault, a reset or a teardown has ended the program: the completion status. -/
  ended : Option Nat := none
  /-- The last descriptor that completed on a target core, and for a program that has ended the one that its completion names. -/
  lastDesc : Nat := 0
  deriving DecidableEq, Repr, Inhabited

/-! ### Sequencers (R88–R93, R102, R106, R117) -/

/-- One entry of the loop stack (R106): the body's first and last descriptor, passes left, register and step. -/
structure LoopE where
  first : Nat := 0
  last : Nat := 0
  left : Nat := 0
  reg : Nat := 0
  step : DWord := 0
  deriving DecidableEq, Repr, Inhabited

/-- The accumulator of one output element (R68, R70–R73): A and its bit weight W, sticky flags, the initial value, and
the FP32 accumulator of the tree path. -/
structure Acc where
  a : Int := 0
  w : Option Int := none
  nan : Bool := false
  pinf : Bool := false
  ninf : Bool := false
  init : Option Val := none
  f32 : Option Nat := none
  deriving DecidableEq, Repr, Inhabited

/-- An open accumulator chain (R117): the opener's extents m, n and batch, CHAIN_K and the k extents added so far,
the operand format bytes, the engines it holds and the accumulators in element order of D. -/
structure Chain where
  dims : List Nat := []
  chainK : Nat := 0
  kDone : Nat := 0
  fmtA : Nat := 0
  fmtB : Nat := 0
  engines : List Nat := []
  accs : List Acc := []
  deriving DecidableEq, Repr, Inhabited

/-- What a blocking descriptor waits for (R107, R109, R129, R130, R110). -/
inductive WaitK where
  /-- WAIT 0–2 (≥, =, ≠) on a word; the tick of its timeout, 0 for none. -/
  | cmp (kind addr value deadline : Nat)
  /-- RECV of a value from a word. -/
  | recv (addr value deadline : Nat)
  /-- TICKW. -/
  | tick (target : Nat)
  /-- COLL with this tag. -/
  | coll (tag : Nat)
  /-- STEPF: held at the partition's fence; and at one that a reset broke (R439). -/
  | fence
  | lostFence
  /-- NMCALL held until its command is accepted or, with SYNC, completed: stack and command identity. -/
  | nm (stack id : Nat)
  deriving DecidableEq, Repr

/-- A signal that a descriptor applies once earlier writes are visible (R108, R128): chip, address, value, and whether it
writes rather than adds. -/
structure Sig where
  chip : Nat := 0
  addr : Nat := 0
  value : Nat := 0
  write : Bool := false
  deriving DecidableEq, Repr, Inhabited

/-- A descriptor in flight (R88). `unit` is 0 none, 1 and 2 the data movers 0 and 1 (R140), 3 the vector unit, 4 the engines, 5 the
collective port, 6 the NMU port. -/
structure Infl where
  id : Nat := 0
  desc : Nat := 0
  unit : Nat := 0
  engines : List Nat := []
  dst : List (Nat × Nat) := []
  src : List (Nat × Nat) := []
  ser : Bool := false
  wait : Option WaitK := none
  /-- Tags of end-to-end acknowledgements and read responses still outstanding (R226). -/
  tags : List Nat := []
  sig : Option Sig := none
  /-- Words that it has written besides its destination: they too are visible before it completes (R88). -/
  vis : List (Nat × Nat) := []
  inv : Nat := 0
  sat : Bool := false
  trunc : Nat := 0
  /-- It continues an accumulator chain that earlier descriptors have added to (R424). -/
  cont : Bool := false
  deriving DecidableEq, Repr, Inhabited

/-- The sequencer of a logical core. `st` is 0 idle, 1 running, 2 at the end of its stream, 3 stopping after the program
was ended. -/
structure Seq where
  st : Nat := 0
  slot : Nat := 0
  pc : Nat := 0
  x : SMap DWord := []
  trec : Nat := 0
  pflags : Nat := 0
  loops : List LoopE := []
  chain : Option Chain := none
  infl : List Infl := []
  nextId : Nat := 0
  /-- A forced swap holds the issue of descriptors once no chain is open (R414). -/
  hold : Bool := false
  /-- The next descriptor is held by R90: it serialises, and earlier ones are in flight. -/
  serHold : Bool := false
  /-- Tick of the program start or of the last completion on this core (R428). -/
  lastDone : Nat := 0
  lastDesc : Nat := 0
  deriving DecidableEq, Repr, Inhabited

/-- What a physical core holds beyond its registers: descriptors issued in this tick and below 1,024 of the total, its
engines' and its own missed progress (R428), and the cycles below 1,024 of its stall total. -/
structure CoreX where
  issued : Nat := 0
  issueRem : Nat := 0
  stallRem : Nat := 0
  probeMiss : Nat := 0
  engIdle : SMap Nat := []
  deriving DecidableEq, Repr, Inhabited

/-- A binding change of a cluster (R21, R22): the captured map and TEST_OUT; the map and TEST_OUT of the change whose copy runs,
the logical cores that it moves, and the partition whose fence it holds. -/
structure BindX where
  map : Nat := 0
  testOut : Bool := false
  goMap : Nat := 0
  goTest : Bool := false
  copying : List Nat := []
  fence : Option Nat := none
  deriving DecidableEq, Repr, Inhabited

/-- A step fence whose actions still stop compute (R36): the clusters whose binding copy it waits for; with the
last of them the actions after the binding change run. -/
structure FenceX where
  copying : List Nat := []
  deriving DecidableEq, Repr, Inhabited

/-- A flit of a collective that has not issued here yet: its tag and sender, the credits that it brings, or its fields and data. -/
structure CollEarly where
  tag : Nat := 0
  rank : Nat := 0
  n : Nat := 0
  data : Option (CollHdr × List Byte) := none
  deriving DecidableEq, Repr, Inhabited

/-- What a partition holds on the device beyond its registers. -/
structure PartX where
  /-- A program of the partition has started since it entered RUNNING (Table 13.8). -/
  started : Bool := false
  /-- HALT waits for cores past the gate to reach their fence (Table 13.8). -/
  haltFence : Bool := false
  /-- Bundles that still owe a RETIRE_ACK, once the marks have been sent; contexts whose teardown the barrier runs (R351). -/
  marks : Option (List Nat) := none
  tearing : List Nat := []
  /-- Those of them that CTX_CMD RETIRE began. -/
  ownTear : List Nat := []
  markTick : Nat := 0
  /-- Input current at entry to RUNNING, in mA, and its tick (R340). -/
  rampI0 : Nat := 0
  rampTick : Nat := 0
  /-- Ranks declared lost on this device (R386). -/
  lost : List Nat := []
  /-- Flits of collectives that have not issued here yet, oldest first; an ORDERED fold has waited in this tick (R83). -/
  early : List CollEarly := []
  foldWait : Bool := false
  deriving DecidableEq, Repr, Inhabited

/-- A fault record (Table 15.4), as one 256-bit number. -/
abbrev FaultRec := BitVec 256

/-! ### Edesk memory (R162–R183) -/

/-- The metadata word of a line (Table 6.2). -/
structure LineMeta where
  crc : Nat := 0
  rc : Bool := false
  unwritten : Bool := true
  poison : Bool := false
  deriving DecidableEq, Repr, Inhabited

/-- A read that waits for a recompute: the line's local address and its requester with context and generation; `wr` says that it is the
merge read of a write (R173). -/
structure RcWait where
  line : Nat := 0
  req : Requester := .host
  ctx : Nat := 0
  gen : Nat := 0
  wr : Bool := false
  deriving DecidableEq, Repr

/-- A recompute of a stack: the region and the reads that wait for it. -/
structure Recomp where
  region : Nat := 0
  waits : List RcWait := []
  postTick : Nat := 0
  deriving DecidableEq, Repr

/-- A write held while the outcome of its line is open (R175): global offset and local address, bytes or the value to add to the word,
requester, and the context and generation that it carries; `merge` says that the line is open for this write's own merge read. -/
structure LineW where
  off : Nat := 0
  l : Nat := 0
  data : List Byte := []
  add : Option Nat := none
  req : Requester := .host
  ctx : Option (Nat × Nat) := none
  merge : Bool := false
  deriving DecidableEq, Repr

/-- A read from outside that met lines whose outcome is open: its requester, its bytes by stack, local address and length as the layout
stood when it arrived (R164), those lines, and whether one has failed. -/
structure HeldRead where
  req : Requester := .host
  spans : List (Nat × Nat × Nat) := []
  n : Nat := 0
  left : List (Nat × Nat) := []
  bad : Bool := false
  deriving DecidableEq, Repr

/-- What a stack's controller and scrubber hold beyond their registers. -/
structure Stack where
  /-- The recompute that runs, and those queued in order of failure; the producer command runs. -/
  recomp : Option Recomp := none
  recompQ : List Recomp := []
  heldW : List LineW := []
  /-- Next line of the patrol scrub, and the counts of the pass under way. -/
  scrubLine : Nat := 0
  scrubCe : Nat := 0
  scrubDue : Nat := 0
  scrubDueAddr : Nat := 0
  /-- Channels already reported in this scrub period for corrections, and for uncorrectable sectors (R183). -/
  degCe : List Nat := []
  degDue : List Nat := []
  deriving DecidableEq, Repr, Inhabited

/-! ### Matryoshka (R210–R214) and the near-memory units (R187–R195) -/

/-- A write held on a PENDING unit (R212): its global offset, local address, bytes within one line or the value to add to the word
(neither, for a read-modify-write that waits for the save), its requester, and the context and generation it carries; `full` says that
it counts as held for lack of a slot (R214). -/
structure HeldW where
  off : Nat := 0
  l : Nat := 0
  data : List Byte := []
  add : Option Nat := none
  req : Requester := .host
  ctx : Option (Nat × Nat) := none
  full : Bool := false
  deriving DecidableEq, Repr, Inhabited

/-- The Matryoshka of a stack: unit states 0 OUTSIDE, 1 PENDING, 2 SAVED, 3 RELEASED; the side slot of each SAVED
unit; the held writes, oldest first; the partition whose context armed it. -/
structure Mat where
  unitSt : SMap Nat := []
  slotOf : SMap Nat := []
  held : List HeldW := []
  part : Nat := 0
  fullNoted : Bool := false
  deriving DecidableEq, Repr, Inhabited

/-- An NMU command (Table 7.1): its eight words, where it came from (`src` 0 NMCALL, 1 page, 2 recompute, 3 the module's own work), what it
signals, and how far it is. -/
structure NCmd where
  id : Nat := 0
  addr : Nat := 0
  w0 : Nat := 0
  a0 : Nat := 0
  a1 : Nat := 0
  a2 : Nat := 0
  a3 : Nat := 0
  cnt : Nat := 0
  param : Nat := 0
  origin : Nat := 0
  /-- The hyperparameter record as read at acceptance (R202). -/
  hyper : Nat := 0
  src : Nat := 0
  sync : Bool := false
  lc : Nat := 0
  infl : Nat := 0
  desc : Nat := 0
  sigAddr : Nat := 0
  ctx : Nat := 0
  gen : Nat := 0
  part : Nat := 0
  /-- The program that posted it: launch slot + 4,096 × its start tick. -/
  prog : Nat := 0
  /-- Step counter and job seed of the partition at acceptance (R77, R198). -/
  step : Nat := 0
  seed : Nat := 0
  /-- The data effect has taken place. -/
  done : Bool := false
  /-- 0, or the status with which the command stopped (R195). -/
  err : Nat := 0
  inv : Bool := false
  sat : Bool := false
  trunc : Bool := false
  detail : Nat := 0
  /-- Bytes of its source that COPY has read (R213). -/
  got : Nat := 0
  /-- Continuity work that this command does for the module. -/
  purpose : Nat := 0
  /-- The global address at which it stopped or waits (R195). -/
  parg : Nat := 0
  deriving DecidableEq, Repr, Inhabited

/-- The NMU of a stack: its queues and running commands, oldest first. -/
structure NmuSt where
  qCall : List NCmd := []
  qPage : List NCmd := []
  running : List NCmd := []
  /-- Commands of the module's own that wait for room in the page queue (R191). -/
  fwQ : List NCmd := []
  /-- The page queue is taken next (R193). -/
  altPage : Bool := false
  nextId : Nat := 0
  /-- Bytes below one MiB read and written since the last count. -/
  rdRem : Nat := 0
  wrRem : Nat := 0
  /-- Progress in the last tick edges: ticks without any (R428). -/
  idle : Nat := 0
  /-- A datapath reset is under way; the NMU is FAILED (R437). -/
  inReset : Bool := false
  rstTick : Nat := 0
  failed : Bool := false
  deriving DecidableEq, Repr, Inhabited

/-! ### Sealing (R489–R492) and compute resets (R431–R436) -/

/-- A partition's seal: 0 open, 1 sealing, 2 sealed, 3 clearing; its ranges of global offsets and its cluster mask. -/
structure Seal where
  st : Nat := 0
  ranges : List (Nat × Nat) := []
  mask : Nat := 0
  deriving DecidableEq, Repr, Inhabited

/-- A compute reset under way: level 1–5, unit path, start tick and cause; the fault record that led to it, by ring index and the
number of records then written; the program of the faulting unit; and whether a watchdog or a lasting check began it. -/
structure RstRun where
  level : Nat := 0
  upath : Nat := 0
  start : Nat := 0
  cause : Nat := 0
  rcd : Option (Nat × Nat) := none
  own : Option Nat := none
  /-- Physical cores whose failed check or watchdog led to it: they are due for the spinning-top test when they return (R424). -/
  due : List Nat := []
  deriving DecidableEq, Repr, Inhabited

/-! ### Links (R218–R245) -/

/-- A sequenced flit that has been placed on a lane and is not acknowledged (R227). -/
structure TxFlit where
  f : Flit := {}
  /-- The port whose replay buffer holds it (R227, R270). -/
  port : Nat := 0
  /-- The lane that carried it last: port and lane. -/
  via : Nat := 0
  lane : Nat := 0
  /-- Its place in the order in which flits came to wait on this device. -/
  age : Nat := 0
  /-- To be sent again (R230), and how often it has been. -/
  resend : Bool := false
  times : Nat := 0
  deriving DecidableEq, Repr

/-- What a bundle holds beyond its registers. -/
structure Bundle where
  /-- Flits waiting for a lane, oldest first, each with its place in the order in which flits came to wait on this device. -/
  wait : List (Flit × Nat) := []
  /-- The replay buffer, oldest first. -/
  unacked : List TxFlit := []
  /-- Next SEQ expected in order; flits held for it, with the port that they came by. -/
  rxNext : Nat := 0
  reorder : List (Flit × Nat) := []
  /-- LANE_CTRL flits released before their effective SEQ, with their senders (R232, R235). -/
  ctl : List (Nat × LaneCtl) := []
  /-- In-order flits have arrived since the last ACK. -/
  ackDue : Bool := false
  /-- Credits returned by and used towards the peer, and owed to it, by 2 × class + VC. -/
  got : SMap Nat := []
  used : SMap Nat := []
  owed : SMap Nat := []
  /-- A RESUME has been sent; none has arrived yet (R236). -/
  resumeSent : Bool := false
  resumeWait : Bool := false
  deriving DecidableEq, Repr, Inhabited

/-- The last TRAIN flit received on a lane pair or ring pair: who sent it, its TS and its arrival in ns (Table 8.5). -/
structure TrainSeen where
  chip : Nat := 0
  port : Nat := 0
  lane : Nat := 0
  ts : Nat := 0
  arr : Nat := 0
  deriving DecidableEq, Repr, Inhabited

/-- What a lane pair holds beyond its registers: the training step (0 not begun, 1 signal awaited … 5 delay), when its
state was entered, edges above THR_SYM, ticks of its failures. -/
structure LaneX where
  step : Nat := 0
  since : Nat := 0
  hi : Nat := 0
  strikeAt : List Nat := []
  misTick : Nat := 0
  rxOk : Bool := false
  seen : TrainSeen := {}
  /-- Steers in this tick, and those below 1,024 of the total. -/
  steers : Nat := 0
  steerRem : Nat := 0
  deriving DecidableEq, Repr, Inhabited

/-- What a port holds beyond its registers: counts below 1,024 and the ticks of the last once-per-tick events. -/
structure PortX where
  tx : Nat := 0
  rx : Nat := 0
  enc : Nat := 0
  dec : Nat := 0
  authTick : Nat := 0
  /-- Tick + 1 at which the outcome of a port that came up on its own is final (R260, R265). -/
  settleAt : Nat := 0
  /-- An enabled optical port that comes up at the next tick edge, and one that came up so and is not yet settled (R260). -/
  due : Bool := false
  own : Bool := false
  /-- The ring pair whose turn it is in the calibration under way, 12 at its end, and the ticks of its turn (R283). -/
  calR : Nat := 0
  calT : Nat := 0
  deriving DecidableEq, Repr, Inhabited

/-- An end-to-end operation that awaits its acknowledgement or response (R226): the peer, partition and tag, the
descriptor it belongs to (logical core and in-flight identity), and for a read where its bytes go. -/
structure Outst where
  chip : Nat := 0
  part : Nat := 0
  tag : Nat := 0
  read : Bool := false
  lc : Nat := 0
  infl : Nat := 0
  dst : Nat := 0
  bytes : Nat := 0
  deriving DecidableEq, Repr, Inhabited

/-! ### Rings, plans and lasers (R248–R301) -/

/-- What a ring pair holds beyond its registers. -/
structure RingX where
  /-- The state to enter when the table move ends: 0 OFF, 2 HELD, 3 on its line and lit, 5 SPARE, 6 RETIRED, 7 line 0 for a test,
  8 line 0 for a calibration. -/
  goal : Nat := 0
  /-- ROLE (Table 9.5) and the lane whose home the pair is. -/
  role : Nat := 0
  home : Option Nat := none
  /-- The trained identity: the peer's port, and its LANE, which is recorded and not compared (R289). -/
  peerPort : Nat := 0
  peerLane : Nat := 0
  /-- The failed pair that this pair replaces, until RING_ALIGNED; and whether this pair is itself taken out. -/
  replaces : Option Nat := none
  out : Bool := false
  /-- The pair whose plan entry this pair has carried out since it replaced that pair. -/
  actsFor : Option Nat := none
  /-- Due for a re-acquisition test: the number of its failure, in their order; testing now; its own identity has come back on line 0;
  ticks of the tests passed. -/
  testDue : Option Nat := none
  testing : Bool := false
  identOk : Bool := false
  passes : List Nat := []
  /-- Losses of signal are ignored before this tick (R290). -/
  mute : Nat := 0
  /-- Flit boundary at which a lane last drove the pair, plus 1, and the tick it was in. -/
  drivenAt : Nat := 0
  drivenTick : Nat := 0
  /-- Edges since the pair became ACTIVE; edges with a residual above 10 pm, by direction. -/
  edges : Nat := 0
  hiT : Nat := 0
  hiR : Nat := 0
  /-- Withdrawn from steering by a calibration measurement (R283). -/
  calib : Bool := false
  /-- The receive ring has lost its light, or is new on its line, and has not decoded since (R272 step 3). -/
  rxLost : Bool := false
  step : Nat := 0
  retryAt : Nat := 0
  /-- Training of a pair without a lane (R262, Table 8.6): the tick at which it began, the ticks of its failures, its quarantines. -/
  trainAt : Nat := 0
  strikeAt : List Nat := []
  qlevel : Nat := 0
  seen : TrainSeen := {}
  deriving DecidableEq, Repr, Inhabited

/-- What an optical engine holds beyond its registers. -/
structure EngX where
  temp : Int := 0
  calibrating : Bool := false
  outOfRange : Bool := false
  /-- The planned switch: tick of entry to PLANNED, whether LAS_CMD ordered it, whether NOW was set, whether a step fence has come. -/
  plannedAt : Nat := 0
  ordered : Bool := false
  now : Bool := false
  fenceSeen : Bool := false
  forced : Bool := false
  /-- The laser that the switch brings in: 0 A, 1 B. -/
  toLaser : Nat := 0
  /-- Ticks with every margin above −CLEAR, and ticks of an unlocked temperature loop of the spare. -/
  clearTicks : Nat := 0
  unlocked : Nat := 0
  /-- Losses of signal on the engine are not declared before this tick (Table 10.6). -/
  muteLos : Nat := 0
  /-- The planned switch fell due in a re-cable: it waits for the first step fence after it (R265). -/
  deferred : Bool := false
  /-- Pairs taken out so far, which numbers their failures. -/
  failures : Nat := 0
  /-- The monitor reading: 0 none, 1 armed, 2 running. -/
  mon : Nat := 0
  deriving DecidableEq, Repr, Inhabited

/-- The two plan buffers, by 32-bit word, and the ports of the plan under way. -/
structure PlanX where
  next : SMap Nat := []
  cur : SMap Nat := []
  /-- CURRENT holds a plan. -/
  has : Bool := false
  /-- CURRENT is between T+0 and the edge of T+100. -/
  recabling : Bool := false
  /-- Flit boundaries counted so far, and flits that have come to wait for a lane. -/
  boundary : Nat := 0
  queued : Nat := 0
  deriving DecidableEq, Repr, Inhabited

/-! ### Continuity (R365–R366) and collectives (R81–R84, R130–R132) -/

/-- A region entry of a continuity table (Table 13.2). -/
structure CtReg where
  addr : Nat := 0
  units : Nat := 0
  ckpt : Bool := false
  mirror : Bool := false
  hold : Bool := false
  tap : Bool := false
  repl : Bool := false
  full : Bool := false
  peer : Nat := 0
  rbase : Nat := 0
  rcount : Nat := 0
  rstep : Nat := 0
  peerAddr : Nat := 0
  deriving DecidableEq, Repr, Inhabited

/-- The copy of a partition's continuity table in use (Table 13.1); `due` says that it has still to be read and validated. -/
structure CtTab where
  valid : Bool := false
  due : Bool := false
  policy : Nat := 0
  k : Nat := 0
  collTo : Nat := 0
  ckptSteps : Nat := 0
  ckptTicks : Nat := 0
  pgBase : Nat := 0
  pgStep : Nat := 0
  g : Nat := 0
  slot0 : Nat := 0
  slot1 : Nat := 0
  u : Nat := 0
  gateTag : Nat := 0
  regs : List CtReg := []
  deriving DecidableEq, Repr, Inhabited

/-- A piece of collective data that has arrived: its phase, the sender's rank and the byte offset. -/
structure CollIn where
  phase : Nat := 0
  rank : Nat := 0
  off : Nat := 0
  data : List Byte := []
  deriving DecidableEq, Repr, Inhabited

/-- A collective that runs on this device: its descriptor and core, the group, the elements of A with one scale byte each,
and how far it is. -/
structure Coll where
  tag : Nat := 0
  lc : Nat := 0
  id : Nat := 0
  part : Nat := 0
  kind : Nat := 0
  op : Nat := 0
  mode : Nat := 0
  base : Nat := 0
  n : Nat := 0
  fmtA : Nat := 0
  elems : Nat := 0
  /-- Every rank of the group, and those present, ascending; the own rank; the absent set (R384). -/
  group : List Nat := []
  ranks : List Nat := []
  own : Nat := 0
  absent : List Nat := []
  d : Tref := {}
  /-- The staging area C (R83); the job seed and the step when the descriptor issued (R77). -/
  stage : Tens := {}
  seed : Nat := 0
  step : Nat := 0
  aBits : List Nat := []
  aScs : List Nat := []
  /-- Staging segments of 4 KiB. -/
  cap : Nat := 0
  got : List CollIn := []
  /-- Segment credits received from and segments sent to each owner; credits given to each sender, by rank. -/
  credit : SMap Nat := []
  sent : SMap Nat := []
  granted : SMap Nat := []
  /-- What has been sent once: phases 1, 2 and 3. -/
  did : List Nat := []
  /-- D has been written. -/
  wrote : Bool := false
  progress : Nat := 0
  deriving DecidableEq, Repr, Inhabited

/-- A data unit of a checkpoint on its way to a parity holder (R378): the unit, whether it is all zero, its row and index, the
holder's member number. -/
structure CkSend where
  unit : Nat := 0
  zero : Bool := false
  row : Nat := 0
  x : Nat := 0
  holder : Nat := 0
  deriving DecidableEq, Repr, Inhabited

/-- A partition's checkpoint beyond its registers (R374–R380). -/
structure CkX where
  /-- NOW has been set; tick + 1 of the fence of the last checkpoint that started. -/
  nowDue : Bool := false
  lastTick : Nat := 0
  /-- The snapshot that the checkpoint armed is SNAP_ID `snap`. -/
  snap : Nat := 0
  /-- Copies that have not ended, by slot unit and number of units; units not yet sent, and those in flight. -/
  copies : List (Nat × Nat) := []
  queue : List CkSend := []
  flight : List CkSend := []
  /-- UNIT messages received for each row: P at 2 × row, Q at 2 × row + 1. -/
  rows : SMap Nat := []
  /-- UNIT messages of a checkpoint that has not started here yet: sender, step and fields. -/
  early : List (Nat × Nat × List Nat) := []
  /-- Own digests of data, P and Q; at the coordinator those of every member, and the members that acknowledged. -/
  digests : List Nat := []
  stripes : SMap (List Nat) := []
  acks : List Nat := []
  /-- Coordinator: writes of the commit record that are not acknowledged; STATE = COMMITTED has been sent. -/
  recTags : List Nat := []
  recPhase : Nat := 0
  /-- An export or import under way: next chunk, chunks in all, slot, its STO_SEQ, and the plaintext received. -/
  stoChunk : Nat := 0
  stoCount : Nat := 0
  stoSlot : Nat := 0
  stoImport : Bool := false
  stoSeq : Nat := 0
  stoData : List Byte := []
  deriving DecidableEq, Repr, Inhabited

/-- Recovery work of a partition (R387–R390): the running command, its region and rank, and rows still to be rebuilt. -/
structure RcX where
  op : Nat := 0
  region : Nat := 0
  rank : Nat := 0
  /-- Units fetched so far. -/
  units : Nat := 0
  /-- Replica recheck that this PULL serves: set + 1, and the regions still to be pulled. -/
  recheck : Nat := 0
  regions : List Nat := []
  /-- Rows whose units are still to be fetched, the first of them under way; the commit record has been asked for. -/
  rows : List Nat := []
  record : Bool := false
  /-- REPL regions marked for PULL by LOAD_SLOT. -/
  marked : List Nat := []
  deriving DecidableEq, Repr, Inhabited

/-- Mirror digests of a region at a fence (R372): the step, the own digest and the peer's. -/
structure MirX where
  step : Nat := 0
  own : Option Nat := none
  peerStep : Nat := 0
  peer : Option Nat := none
  /-- BUDDY_HELLO is unanswered since this tick + 1; a full copy is owed at the next digest fence. -/
  hello : Nat := 0
  /-- Region index of the owner, as its BUDDY_HELLO named it (a HOLD region). -/
  peerIdx : Nat := 0
  full : Bool := false
  deriving DecidableEq, Repr, Inhabited

/-! ### Replica digests, field tests and signatures (R398–R422) -/

/-- A vote (R401): the step, whether it is that of a recheck, rank and digest. -/
structure Vote where
  step : Nat := 0
  again : Bool := false
  rank : Nat := 0
  digest : Nat := 0
  deriving DecidableEq, Repr, Inhabited

/-- A replica set of a partition at a fence (R398–R407): the step and tick of the fence, whether the own digest is due, the wait
for a verdict, whether this device has decided as the leader and whether a verdict has come. -/
structure DgX where
  step : Nat := 0
  fence : Nat := 0
  due : Bool := false
  hold : Bool := false
  decided : Bool := false
  got : Bool := false
  /-- The own digest of the fence, and after a recheck's pulls the new one. -/
  own : Nat := 0
  again : Nat := 0
  votes : List Vote := []
  /-- A recheck is under way: at this device, and as its leader since the tick, with its two members. -/
  recheck : Nat := 0
  lead : Bool := false
  reTick : Nat := 0
  reMem : List Nat := []
  deriving DecidableEq, Repr, Inhabited

/-- A physical core's field test beyond its registers (R410–R414). -/
structure FtX where
  /-- The wait for power or temperature, or for a jack core, has been recorded. -/
  powNoted : Bool := false
  jackNoted : Bool := false
  /-- Logical core that the swap frees it from; it is to be bound to it again after the test, and at the next edge. -/
  lcore : Option Nat := none
  rebind : Bool := false
  rebindNow : Bool := false
  /-- Tick + 1 of the start of a forced swap, and tick + 1 of its last abandonment. -/
  force : Nat := 0
  retry : Nat := 0
  fails : Nat := 0
  deriving DecidableEq, Repr, Inhabited

/-- A slot of the signature page. -/
structure SigSlot where
  used : Bool := false
  acked : Bool := false
  seq : Nat := 0
  kind : Nat := 0
  item : List Nat := []
  ackOrder : Nat := 0
  deriving DecidableEq, Repr, Inhabited

/-- Tap writes of a COLL towards one region's peer (R369): tags that are outstanding, then those of the increment. -/
structure Tap where
  part : Nat := 0
  lc : Nat := 0
  infl : Nat := 0
  chip : Nat := 0
  word : Nat := 0
  tags : List Nat := []
  told : Bool := false
  deriving DecidableEq, Repr, Inhabited

/-! ### Partitions' lines and epochs (R343–R358) -/

/-- What a line's allocation entry holds beyond its register: the tag of its request, when it was sent, whether it was sent
again, the release waits, and the tick + 1 since when the line is CLAIMED and named by CURRENT. -/
structure LineX where
  tag : Nat := 0
  sentTick : Nat := 0
  resent : Bool := false
  relWait : Bool := false
  since : Nat := 0
  noted : Bool := false
  deriving DecidableEq, Repr, Inhabited

/-- What a scope's epoch page holds beyond its registers: the armed activation's mode, epoch and tick or step, and whether
0x6119 has been recorded in this epoch. -/
structure EpX where
  step : Bool := false
  next : Nat := 0
  at_ : Nat := 0
  noted : Bool := false
  deriving DecidableEq, Repr, Inhabited

/-- A skew of epochs that a YOYO showed (R357): since when, the peer's entry, and whether it has been reported. -/
structure Skew where
  since : Nat := 0
  peer : Nat := 0
  entry : YoyoEntry := {}
  told : Bool := false
  deriving DecidableEq, Repr, Inhabited

/-! ### Time (R308–R332) -/

/-- TIME flits of a lane pair: the last measured delays, newest first, their number, the tick + 1 of the last flit, and its
TX_TS and arrival. -/
structure LaneTime where
  ds : List Int := []
  n : Nat := 0
  last : Nat := 0
  txTs : Nat := 0
  arr : Nat := 0
  deriving DecidableEq, Repr, Inhabited

/-- The root that a bundle's TIME flits advertise, and when its TSEQ last advanced (tick + 1). -/
structure Advert where
  chip : Nat := 0
  prio : Nat := 255
  tseq : Nat := 0
  moved : Nat := 0
  hops : Nat := 255
  synced : Bool := false
  deriving DecidableEq, Repr, Inhabited

/-- A management port's PTP: data set of its Announce messages and their number, the Sync under way, the measured delay and
the consecutive exchanges. -/
structure PtpPort where
  ann : Option Announce := none
  annN : Nat := 0
  seq : Nat := 0
  t1 : Option Int := none
  t2 : Int := 0
  t3 : Option Int := none
  delay : Option Int := none
  exch : Nat := 0
  sync : Nat := 0
  /-- Ticks of three Sync intervals. -/
  loss : Nat := 0
  deriving DecidableEq, Repr, Inhabited

/-- The time base beyond its registers. Times are in 2^−16 ns; `tai` is the time at the last edge. -/
structure TimeX where
  tai : Nat := 0
  lanes : SMap LaneTime := []
  ads : SMap Advert := []
  /-- Last flit accepted from the parent source lane, its arrival, D_in and tick + 1; an offset has come in this tick. -/
  src : Option TimeMsg := none
  srcArr : Int := 0
  srcDelay : Int := 0
  srcTick : Nat := 0
  off : Int := 0
  got : Bool := false
  /-- Consecutive ticks or exchanges that qualify the source, and those within the lock limit. -/
  qual : Nat := 0
  lockN : Nat := 0
  rates : List Int := []
  held : Int := 0
  clamped : Bool := false
  longNoted : Bool := false
  /-- Ticks without a better root; ticks of the root role. -/
  rootCnt : Nat := 0
  roleTicks : Nat := 0
  /-- Time of the last step. -/
  stepAt : Option Nat := none
  /-- TIME_SEC_LO has been read and TIME_FRAC not yet. -/
  frozen : Bool := false
  ptp : SMap PtpPort := []
  /-- Second of the last PPS out pulse + 1; tick of the last PPS in edge. -/
  ppsSec : Nat := 0
  ppsIn : Nat := 0
  /-- Captures being read out, and the latch that came meanwhile (time and STEPPED). -/
  capFrozen : List Nat := []
  capNext : SMap (Option (Nat × Bool)) := []
  deriving DecidableEq, Repr, Inhabited

/-! ### Power and module (R500–R524) -/

/-- What the module holds beyond its registers: power, latch, and the windows of its averages. -/
structure ModSt where
  /-- STBY is up: the continuity die is powered and answers. -/
  stby : Bool := false
  uncore : Bool := false
  mem : Bool := false
  core0 : Bool := false
  core1 : Bool := false
  /-- The issue of matrix and vector descriptors is held (R504). -/
  capHold : Bool := false
  /-- A partition's ramp limit holds the issue of matrix and vector descriptors (R340). -/
  rampHold : Bool := false
  /-- Sensors at or above their throttle point (R508). -/
  hot : List Nat := []
  /-- Sensors that were, and are not yet 3 °C below it. -/
  warm : List Nat := []
  /-- Sensors at their warning limits (Table 18.4). -/
  warns : List Nat := []
  /-- Ticks since CAP_EFF last moved. -/
  capTicks : Nat := 0
  vinOut : Bool := false
  latchOpen : Bool := false
  /-- A hot-remove notice stands (R523). -/
  removeReq : Bool := false
  /-- Consecutive ticks without a forwarded TRANSIT flit (R523). -/
  idleTransit : Nat := 0
  /-- A TRANSIT flit was forwarded in this tick. -/
  transit : Bool := false
  /-- Input energy below 1 kJ since ENERGY_KJ last counted, in J. -/
  joules : Nat := 0
  deriving DecidableEq, Repr, Inhabited

/-- What survives the loss of power: flash, fuses and pins (R477, R479–R482, R500). -/
structure Flash where
  serial : Nat := 0
  stepping : Nat := 0
  slotPins : Nat := 0
  mac0 : Nat := 0
  mac1 : Nat := 0
  bootCnt : Nat := 0
  lifecycle : Nat := 2
  rmaPending : Bool := false
  /-- The owner key; the Lanzel root and debug keys that the fuses' digests name; the device secret. -/
  ownerKey : List Byte := []
  rootKey : List Byte := []
  debugKey : List Byte := []
  secret : List Byte := []
  /-- Minimum security version of each class. -/
  svnMin : SMap Nat := []
  /-- Repair record: stack to mapped-out channel + 1. -/
  repair : SMap Nat := []
  /-- The commissioning record: values of TBL_DATA and LINE_REF, by register key. -/
  commission : SMap Word := []
  /-- Image slots, by 2 × class + slot: what the image there says of itself, and the chunks staged, by 2^32 × that + byte offset. -/
  images : SMap ImgHdr :=
    (List.range 5).map (fun c => (2 * c, { cls := c, writes := 256, canRead := [256], canWrite := [256], sigOk := true }))
  chunks : SMap (List Byte) := []
  /-- Active slot of each class, and the state of the inactive one: 0 EMPTY, 1 STAGING, 2 VERIFIED, 3 REJECTED, 4 FAILED. -/
  active : SMap Nat := []
  inactive : SMap Nat := []
  deriving DecidableEq, Repr, Inhabited

/-! ### Security (R483–R496) -/

/-- A decapsulation key (R483): its number, the partition it was made for, and its tick. -/
structure Decap where
  num : Nat := 0
  part : Nat := 0
  tick : Nat := 0
  deriving DecidableEq, Repr, Inhabited

/-- A job key of a partition: K_job as 32 bytes, the highest link key index and LOAD_CNT accepted for it, and the index in each
phase. -/
structure JobKey where
  key : List Byte := []
  index : Option Nat := none
  idx0 : Nat := 0
  idx1 : Nat := 0
  loadCnt : Option Nat := none
  deriving DecidableEq, Repr, Inhabited

/-- The security processor beyond its registers: the challenge that is out and its tick; the last report; the owner key digest that
a token left pending; the SEALs that are filling, with the mailbox that each answers. -/
structure SecX where
  chal : Option (List Byte × Nat) := none
  report : List Byte := []
  ownerDue : Option Nat := none
  filling : SMap Nat := []
  deriving DecidableEq, Repr, Inhabited

/-! ### Firmware and mailboxes (R444–R461) -/

/-- A mailbox: a request has been posted; it is answered; its opcode, header and answer. -/
structure Mbox where
  posted : Bool := false
  answered : Bool := false
  op : Nat := 0
  h : MHdr := {}
  status : Nat := 0
  deriving DecidableEq, Repr, Inhabited

/-- A firmware processor or an instance of processor 0: ticks without a refresh, ticks of the firings that count, a restart that is
under way or awaits processor 0; for an instance, whether a full cycle has passed, the reports passed in a row, those while STANDBY,
and the cycles completed. -/
structure ProcX where
  idle : Nat := 0
  strikes : List Nat := []
  restartDue : Bool := false
  cycle : Bool := false
  passes : Nat := 0
  held : Nat := 0
  /-- It has not restarted since power-on. -/
  boot : Bool := false
  deriving DecidableEq, Repr, Inhabited

/-- Processor 0: edges without a state record; the takeover under way (cause and the instance that takes control); Punch has been
ACTIVE once since power-on. -/
structure CcX where
  missed : Nat := 0
  takeover : Option (Nat × Nat) := none
  booted : Bool := false
  /-- Classes without a verified image (R480). -/
  bad : List Nat := []
  deriving DecidableEq, Repr, Inhabited

/-- The update of a class: the tick at which the probation under way began. -/
structure UpdX where
  start : Nat := 0
  deriving DecidableEq, Repr, Inhabited

/-! ### Management sessions (R513–R517) -/

/-- A session: the SEQ that executes next, the last responses (SEQ, status, SRC, data), the requests held for an earlier SEQ (SEQ, whom
to answer, relay target, request), the tick of the last request, tick + 1 since which a SEQ is missing, and the port of the last
request. -/
structure Sess where
  open_ : Bool := false
  next : Nat := 1
  cache : List (Nat × Nat × Nat × List Byte) := []
  held : List (Nat × MgTo × Option Nat × MgReq) := []
  last : Nat := 0
  gapAt : Nat := 0
  port : Nat := 0
  deriving DecidableEq, Repr, Inhabited

/-- The transport beside its sessions (R516, R517): the nonce counter of each phase of the management key, by phase; the relayed
requests whose responses are awaited, oldest first; and what has come so far of a relayed message, by the chip that sends it. -/
structure MgX where
  nctr : SMap Nat := []
  relays : List MgTo := []
  rx : SMap (List Byte) := []
  deriving DecidableEq, Repr, Inhabited

/-! ### The whole state -/

/-- The state of the block. -/
structure State where
  /-- Commands waiting, first in, first out (the model's own field). -/
  pending : List Instr := []
  /-- Every register of the register space: key = (bank × 2^26 + BAR0 offset) × 64 + the kind of the page, the bank being what the register's
  selector shows. -/
  regs : SMap Word := []
  /-- The shadow copies of RWE registers (R14), same keys. -/
  shadow : SMap Word := []
  /-- Bytes of memory: Edesk at stack × 2^37 + local address, on-die SRAM at 2^42 + offset in space 0x1. -/
  mem : List Host.Cell := []
  /-- Metadata words of Edesk lines: key stack × 2^31 + (local address / 64). -/
  lines : SMap LineMeta := []
  /-- What has left the module, newest last (the model's own field). -/
  out : List Out := []
  /-- Counter that feeds the free values (the model's own field). -/
  fresh : Nat := 0
  mod_ : ModSt := {}
  flash : Flash := {}
  flip : Flip := {}
  /-- Tick of the last register write of each held semaphore's holder, by page base (R520). -/
  semTick : SMap Nat := []
  /-- Owner code that went first at the page's last tie, by page base (R519). -/
  semTie : SMap Nat := []
  slots : SMap Slot := []
  progs : SMap Prog := []
  /-- Completion rings: key 4,096 × master (0 host, 1 management) + index. -/
  ring : SMap Cpl := []
  /-- Completions held for a full ring, oldest first, by master. -/
  heldH : List Cpl := []
  heldM : List Cpl := []
  /-- Completions written to each ring and not yet passed by CPL_CONS (R33). -/
  usedH : Nat := 0
  usedM : Nat := 0
  seqs : SMap Seq := []
  stks : SMap Stack := []
  reads : List HeldRead := []
  mats : SMap Mat := []
  nmus : SMap NmuSt := []
  seals : SMap Seal := []
  resets : List RstRun := []
  bundles : SMap Bundle := []
  lanes : SMap LaneX := []
  ports : SMap PortX := []
  outst : List Outst := []
  plan : PlanX := {}
  rings : SMap RingX := []
  engs : SMap EngX := []
  /-- Link keys by key bank, 256 bits each (R240, R486). -/
  keys : SMap Nat := []
  /-- Job keys by partition, and decapsulation keys that are not used (R483, R484). -/
  jobKeys : SMap JobKey := []
  decap : List Decap := []
  /-- FRT_DATA_LO as last written, until FRT_DATA_HI writes the entry (Table 8.12). -/
  frtLo : Nat := 0
  /-- Tick + 1 of the last NOROUTE event, and of the last drop event of R349. -/
  noroute : Nat := 0
  dropTick : Nat := 0
  /-- Physical cores, by 64d + 16c + p, and clusters, by 4d + c. -/
  cores : SMap CoreX := []
  binds : SMap BindX := []
  /-- Step fences whose actions run, by partition, and the rest of what the device holds of each partition. -/
  fences : SMap FenceX := []
  parts : SMap PartX := []
  /-- Allocation entries of lines, by port − 8 + 32 × line; the tag of the last request. -/
  lineXs : SMap LineX := []
  lineTag : Nat := 0
  /-- Scopes' epochs; skews by 64 × scope + bundle; the partition that the last YOYO named; scopes whose conflict is to be
  sent at the next edge. -/
  eps : SMap EpX := []
  skews : SMap Skew := []
  yoyoCur : Nat := 0
  yoyoDue : List Nat := []
  time : TimeX := {}
  /-- Physical cores that became due for the spinning-top test by a lasting check (R424), oldest first. -/
  ftNow : List Nat := []
  /-- Continuity tables in use, by partition; collectives that run; tap writes that are outstanding. -/
  ct : SMap CtTab := []
  colls : List Coll := []
  taps : List Tap := []
  /-- Commands of the module's own that an NMU has finished and the continuity work has not taken note of yet. -/
  nmuDone : List NCmd := []
  /-- Checkpoints and recovery by partition; mirrors by partition + 4,096 × region; replica sets by partition + 4,096 × set. -/
  cks : SMap CkX := []
  rcs : SMap RcX := []
  mirs : SMap MirX := []
  dgs : SMap DgX := []
  /-- Field tests by 64d + 16c + p; signature slots; acknowledgements so far. -/
  fts : SMap FtX := []
  sigs : SMap SigSlot := []
  sigAcks : Nat := 0
  /-- Tick + 1 of the last 0xA112 by path (R491). -/
  sealTick : SMap Nat := []
  /-- The fault ring, by index (R441). -/
  faults : SMap FaultRec := []
  sec : SecX := {}
  /-- Mailboxes, and their bytes as 16,384 × mailbox + offset. -/
  mbox : SMap Mbox := []
  mboxMem : SMap Byte := []
  /-- Processors by FP_SEL: 0 Punch, 32 Judy, 1–16. -/
  procs : SMap ProcX := []
  cc : CcX := {}
  upds : SMap UpdX := []
  sess : SMap Sess := []
  mg : MgX := {}
  /-- Bytes below 65,536 and stalled cycles below 1,024 of the totals of monitored ports: 2 × register key, + 1 for cycles (R155). -/
  portCnt : SMap Nat := []
  deriving DecidableEq, Repr

/-- Right after reset: every register at its reset value, memory with nothing listed, the input without power. -/
def State.reset : State := {}

end Sys2Proof.Machine
end

