-- ==== Sys2Proof/Machine/Ops.lean ====
section
/-! DEFINITION. The named operations over the state that every meaning uses: reading and writing registers, counters,
error bits and interrupts (R525, R528), events and the Flip-book (R16, R462–R470), page semaphores (R15, R519,
R520), fault records (R429, R430, R441) and memory bytes. -/
namespace Sys2Proof.Machine

/-! ### Registers -/

/-- The number of BAR0 offsets; the bank counts above it. -/
def bankSize : Nat := 67108864

/-- The key of a register: the bank, the page's base and the register's offset, and below them the page's kind, which keeps the
registers of pages of different kinds apart. -/
def regKey (pg : Page) (off bank : Nat) : Nat := (bank * bankSize + pg.base + off) * 64 + pg.kind

/-- The BAR0 offset and the bank of a register key. -/
def regAddr (key : Nat) : Nat := key / 64 % bankSize
def regBank (key : Nat) : Nat := key / 64 / bankSize

/-- What an unlisted register reads as: its reset value (R14); an entry of the MSI-X table (R509) is masked. -/
def regDefault (key : Nat) : Word :=
  let a := regAddr key
  match Page.ofBase (a / 4096 * 4096) with
  | some pg => BitVec.ofNat 32 (pg.resetOf (a % 4096))
  | none => if 0x18000 ≤ a ∧ a < 0x20000 ∧ a % 16 = 12 then 1 else 0

/-- The register at a key. -/
def State.reg (s : State) (key : Nat) : Word := smGet regDefault s.regs key

/-- Write the register at a key. -/
def State.setReg (s : State) (key : Nat) (v : Word) : State := { s with regs := smSet regDefault s.regs key v }

/-- Replace bits [hi:lo] of a word (R7). -/
def putBits (w : Word) (hi lo v : Nat) : Word :=
  let m : Nat := 2 ^ (hi + 1 - lo)
  BitVec.ofNat 32 (w.toNat - w.toNat / 2 ^ lo % m * 2 ^ lo + v % m * 2 ^ lo)

/-- A field of a register. -/
def State.fld (s : State) (pg : Page) (f : Fld) (bank : Nat := 0) : Nat :=
  bitsOf (s.reg (regKey pg f.off bank)).toNat f.hi f.lo

/-- Write a field of a register. -/
def State.setFld (s : State) (pg : Page) (f : Fld) (v : Nat) (bank : Nat := 0) : State :=
  s.setReg (regKey pg f.off bank) (putBits (s.reg (regKey pg f.off bank)) f.hi f.lo v)

/-- A flag of a register. -/
def State.flag (s : State) (pg : Page) (f : Fld) (bank : Nat := 0) : Bool := s.fld pg f bank == 1

/-- A 64-bit value in two registers, the lower half at `f` and the upper in the next word. -/
def State.fld64 (s : State) (pg : Page) (f : Fld) (bank : Nat := 0) : Nat :=
  s.fld pg f bank + 2 ^ 32 * s.fld pg ⟨f.off + 4, 31, 0⟩ bank

/-- Write a 64-bit value to two registers. -/
def State.setFld64 (s : State) (pg : Page) (f : Fld) (v : Nat) (bank : Nat := 0) : State :=
  (s.setFld pg ⟨f.off, 31, 0⟩ (v % 2 ^ 32) bank).setFld pg ⟨f.off + 4, 31, 0⟩ (v / 2 ^ 32 % 2 ^ 32) bank

/-- Add to a counter, which saturates at its largest value. -/
def State.bumpBy (s : State) (pg : Page) (f : Fld) (n : Nat) (bank : Nat := 0) : State :=
  s.setFld pg f (min (s.fld pg f bank + n) (f.card - 1)) bank

/-- Increment a counter, which saturates at its largest value. -/
def State.bump (s : State) (pg : Page) (f : Fld) (bank : Nat := 0) : State := s.bumpBy pg f 1 bank

/-- The shadow copy of a register (R14, RWE): where none was written, the value in effect. -/
def State.shReg (s : State) (key : Nat) : Word := smGet (fun k => s.reg k) s.shadow key

/-- Write the shadow copy of a register. -/
def State.setShReg (s : State) (key : Nat) (v : Word) : State := { s with shadow := smIns s.shadow key v }

/-- A field of a shadow copy. -/
def State.shFld (s : State) (pg : Page) (f : Fld) (bank : Nat := 0) : Nat :=
  bitsOf (s.shReg (regKey pg f.off bank)).toNat f.hi f.lo

/-- The shadow copies that satisfy `p` take effect, and are copies no longer (R14, R354). -/
def State.activate (s : State) (p : Nat → Bool) : State :=
  let due := s.shadow.filter (fun e => p e.1)
  let s := due.foldl (fun s e => s.setReg e.1 e.2) s
  { s with shadow := s.shadow.filter (fun e => !p e.1) }

/-- The tick count (R25). -/
def State.tick (s : State) : Nat := s.fld64 .time Tim.TICK_LO

/-- The chip number of this device (R522). -/
def State.chip (s : State) : Nat := s.fld .glb Glb.CHIP_ID_CHIP

/-- Something leaves the module. -/
def State.emit (s : State) (o : Out) : State := { s with out := s.out ++ [o] }

/-- Apply an operation for each member of a list, in order. -/
def State.each {α : Type} (s : State) (l : List α) (f : α → State → State) : State := l.foldl (fun s x => f x s) s

/-- Apply an operation where a condition holds. -/
def State.whenB (s : State) (b : Bool) (f : State → State) : State := if b then f s else s

/-! ### The error bits of a page and the interrupt summary (Table 18.10, R528) -/

/-- The bit of IRQ_SUMMARY that a page's base falls under (Table 18.12). -/
def irqBit (base : Nat) : Nat :=
  if base < 0x01000000 then base / 65536 % 16
  else if base < 0x02000000 then 16 else if base < 0x03000000 then 17
  else if base < 0x03800000 then 18 else 19

/-- IRQ_SUMMARY as the pages' ERR_STAT AND INT_EN make it. -/
def State.irqNow (s : State) : Nat :=
  s.regs.foldl (fun acc e =>
    if regAddr e.1 % 4096 = 0x018 && regBank e.1 = 0 && (e.2 &&& s.reg (e.1 + 64 * 0x10)) != 0 then
      acc ||| 2 ^ irqBit (regAddr e.1 - 0x018)
    else acc) 0

/-- Bring IRQ_SUMMARY up to date; a bit newly set sends the host its interrupt (R528). -/
def State.irqUpdate (s : State) : State :=
  let now := s.irqNow
  let old := s.fld .glb Glb.IRQ_SUMMARY
  let s := s.setFld .glb Glb.IRQ_SUMMARY now
  if now &&& (old ^^^ 0xFFFFFFFF) != 0 && s.fld .glb (Glb.IRQ_CFG.sub 16 16) = 1 then
    s.emit (.msix (s.fld .glb (Glb.IRQ_CFG.sub 10 0)))
  else s

/-- Set bit `n` of a page's ERR_STAT, with ERR_FIRST and ERR_COUNT (Table 18.10). -/
def State.setErr (s : State) (pg : Page) (n : Nat) : State :=
  let stat := s.fld pg Hd.ERR_STAT
  let mask := s.fld pg Hd.ERR_MASK
  let masked := bitAt mask n
  let s :=
    if masked || bitAt stat n then s
    else
      let s := if stat = 0 then s.setFld pg Hd.ERR_FIRST (n + s.tick % 2 ^ 24 * 256) else s
      s.bump pg Hd.ERR_COUNT
  (s.setFld pg Hd.ERR_STAT (stat ||| 2 ^ n)).irqUpdate

/-! ### Captures of the time base (R332) -/

/-- Nanoseconds of a TAI second. -/
def nsPerSec : Nat := 1000000000

/-- One tick in 2^−16 ns. -/
def tickLen : Nat := 10000 * 65536

/-- Show a latch in the registers of capture `n`. -/
def State.capShow (s : State) (n t : Nat) (stepped : Bool) : State :=
  let ns := t / 65536
  let s := s.setFld64 .trg (Trg.CAP_SEC_LO n) (ns / nsPerSec)
  let s := s.setFld .trg (Trg.CAP_NS n) (ns % nsPerSec)
  s.setFld .trg (Trg.CAP_FRAC n) (t % 65536 + 65536 + bool01 stepped * 131072)

/-- Capture `n` latches the time `t`; while it is being read out, the registers keep the latch that is read (R332). -/
def State.capLatch (s : State) (n t : Nat) : State :=
  let stepped := match s.time.stepAt with
    | some a => decide (a ≤ t) && decide (t < a + 1000 * 65536)
    | none => false
  let s := if s.fld .trg ((Trg.CAP_FRAC n).sub 16 16) = 1 then s.bump .trg (Trg.CAP_MISSED n) else s
  let s := s.bump .trg (Trg.CAP_CNT n)
  if s.time.capFrozen.contains n then
    let s := s.setFld .trg ((Trg.CAP_FRAC n).sub 16 16) 1
    { s with time := { s.time with capNext := tSet s.time.capNext n (some (t, stepped)) } }
  else s.capShow n t stepped

/-- A latch at a time within the tick that no operand gives: the offset is a free value. -/
def State.freeTime (s : State) : State × Nat :=
  ({ s with fresh := s.fresh + 1 }, s.time.tai + (Config.latchSub s.fresh).val)

/-- Captures whose source is the recording of an event with this code. -/
def State.capEvent (s : State) (code : Nat) : State :=
  s.each (List.range 4) (fun n s =>
    let c := s.fld .trg (Trg.CAP_CTRL n)
    if c % 8 = 4 && c / 65536 = code then
      let (s, t) := s.freeTime
      s.capLatch n t
    else s)

/-! ### Events and the Flip-book (R16, R462–R470) -/

/-- An item of an event's payload: its width in bytes and its value (R464). -/
abbrev Item := Nat × Nat

/-- Pack the items that fit in 32 bytes; the flag says that some were left out (R464). -/
def packItems : List Item → Nat → Nat → Nat × Bool
  | [], _, acc => (acc, false)
  | (w, v) :: t, used, acc =>
    if 32 < used + w then (acc, true)
    else packItems t (used + w) (acc + v % 256 ^ w * 256 ^ used)

/-- EVENT and SIGNATURE messages have a destination (Table 18.14). -/
def State.evtOn (s : State) : Bool := (List.range 4).any (fun i => s.fld .mgt (Mgt.EVT_ADDR i) != 0)

/-- The port that a streamed message leaves by (R517): port 0 while its link is up, otherwise port 1. -/
def State.streamPort (s : State) : Option Nat :=
  if !s.evtOn then none
  else if s.fld .mgt (Mgt.MGT_STATUS.sub 0 0) = 1 then some 0
  else if s.fld .mgt (Mgt.MGT_STATUS.sub 1 1) = 1 then some 1 else none

/-- Stream a record, or leave it for when a port is up again (R470). -/
def State.streamRec (s : State) (r : FlipRec) : State :=
  match s.streamPort with
  | some p =>
    if s.flip.unsent = r.seq then
      { (s.emit (.eventMsg p r)).bump .mgt Mgt.TX_CNT with flip := { s.flip with unsent := r.seq + 1 } }
    else s
  | none => if s.evtOn then s else { s with flip := { s.flip with unsent := r.seq + 1 } }

/-- Add a record to the areas: the circulating area always, the kept area while it holds fewer than 1,024 (R462). -/
def State.storeRec (s : State) (r : FlipRec) : State :=
  let f := s.flip
  let n := f.kept.length
  let f := { f with circ := tSet f.circ (r.seq % 4096) r,
                    kept := if n < 1024 then tSet f.kept n r else f.kept }
  let s := { s with flip := f }
  let s := s.setFld .flip (Rec.REC_STATUS.sub 11 1) f.kept.length
  s.streamRec r

/-- The SEQ that the next record takes. -/
def State.nextSeq (s : State) : Nat := s.fld64 .flip Rec.REC_NEXT_LO

/-- The newest record of the circulating area. -/
def State.newestRec (s : State) : FlipRec := tGet s.flip.circ ((s.nextSeq + 4095) % 4096)

/-- A change of the newest record's REPEAT is streamed (R470): once per tick, or before the next record; a record that has not been
streamed takes its REPEAT with it. -/
def State.streamRep (s : State) : State :=
  if !s.flip.repDirty then s
  else
    let r := s.newestRec
    let s' := { s with flip := { s.flip with repDirty := false } }
    match s.streamPort with
    | some p => if r.seq < s.flip.unsent then (s'.emit (.eventMsg p r)).bump .mgt Mgt.TX_CNT else s'
    | none => s'

/-- OFS_NS of a record (R463): the time within the tick, 0 while a backward step holds the tick count and TAI lies before its start. -/
def State.recOfs (s : State) (q : Nat) : Nat := if s.time.tai < s.tick * tickLen then 0 else (Config.ofsNs q).val

/-- Make a record with the next SEQ and store it. -/
def State.newRec (s : State) (r : FlipRec) : State :=
  let s := s.streamRep
  let q := s.nextSeq
  let t := s.tick
  let r := { r with repeat_ := 1, seq := q, tick := t, ofs := s.recOfs q }
  (s.setFld64 .flip Rec.REC_NEXT_LO (q + 1)).storeRec r

/-- The record made first after a thaw (R468) and first after a loss at the intake (R466). -/
def State.flipPrelude (s : State) : State :=
  let s :=
    if s.flip.gapDue then
      let f := s.flip
      let (p, tr) := packItems [(2, f.gapCnt), (8, f.gapFirst), (8, f.gapLast)] 0 0
      ({ s with flip := { f with gapDue := false, gapCnt := 0 } }).newRec { code := 0x0103, payload := p, trunc := tr }
    else s
  if s.flip.lostSince ≠ 0 then
    let n := s.flip.lostSince
    ({ s with flip := { s.flip with lostSince := 0 } }).newRec
      { code := 0x0104, payload := (packItems [(2, n)] 0 0).1 }
  else s

/-- Record an event (R465, R468): while frozen it is counted and streamed with a SEQ of its own; an event identical to
the newest record raises REPEAT; any other adds a record. FW follows the code. -/
def State.eventRec (s : State) (code : Nat) (source : Nat := 0) (items : List Item := []) (near : Bool := false) : State :=
  let (payload, trunc) := packItems items 0 0
  let r : FlipRec := { code := code, source := source, near := near, fw := Config.fwRaised code, payload := payload, trunc := trunc }
  if s.fld .flip (Rec.REC_STATUS.sub 0 0) = 1 then
    let q := s.nextSeq
    let f := s.flip
    let s := { s with flip := { f with gapCnt := f.gapCnt + 1,
                                       gapFirst := if f.gapCnt = 0 then q else f.gapFirst, gapLast := q } }
    let s := (s.bump .flip Rec.FROZEN_CNT).setFld64 .flip Rec.REC_NEXT_LO (q + 1)
    s.streamRec { r with repeat_ := 1, seq := q, tick := s.tick, ofs := s.recOfs q }
  else
    let s := s.flipPrelude
    let n := s.newestRec
    if n.code = code && n.source = source && n.near = near && n.payload = payload
        && 0 < n.repeat_ && n.repeat_ < 65535 then
      let n' := { n with repeat_ := n.repeat_ + 1, lastDelta := min (s.tick - n.tick) (2 ^ 32 - 1) }
      let f := s.flip
      let kept := f.kept.map (fun e => if e.2.seq = n.seq then (e.1, n') else e)
      { s with flip := { f with circ := tSet f.circ (n.seq % 4096) n', kept := kept, repDirty := true } }
    else s.newRec r

/-- An event is recorded, and latches the captures that select its code (R332). -/
def State.event (s : State) (code : Nat) (source : Nat := 0) (items : List Item := []) (near : Bool := false) : State :=
  (s.eventRec code source items near).capEvent code

/-- The stream goes on from the oldest unsent record that the circulating area holds; those lost are counted and reported (R470). -/
def State.streamResume (s : State) : State :=
  match s.streamPort with
  | none => s
  | some p =>
    let from_ := s.flip.unsent
    let next := s.nextSeq
    let qs := (List.range (min 4096 (next - from_))).map (fun i => next - min 4096 (next - from_) + i)
    let here := qs.filter (fun q => smGet (fun _ => (default : FlipRec)) s.flip.circ (q % 4096) != default
      && (tGet s.flip.circ (q % 4096)).seq == q)
    let lost := next - from_ - here.length
    let s := { s with flip := { s.flip with unsent := next } }
    let s := s.each here (fun q s => (s.emit (.eventMsg p (tGet s.flip.circ (q % 4096)))).bump .mgt Mgt.TX_CNT)
    if lost = 0 then s else (s.bumpBy .flip Rec.STREAM_LOST lost).event 0x0105 0 [(2, lost)]

/-- The state of a firmware processor, or of an instance of processor 0 (Table 16.15): 0 RUNNING, 1 RESTARTING, 2 FAILED, 3 HANDOVER. -/
def State.procSt (s : State) (k : Nat) : Nat := s.fld .fp (Fp.FP_STATUS.sub 1 0) k

/-- A processor has FAILED (R448). -/
def State.procFailed (s : State) (k : Nat) : Bool := s.procSt k == 2

/-- SOURCE of the unit path kinds 1–6 (Table 15.4): engine, core, cluster, die, both dies, NMU. -/
def upathEngine (d c p e : Nat) : Nat := 0x1000 + d * 256 + c * 64 + p * 4 + e
def upathCore (d c p : Nat) : Nat := 0x2000 + d * 256 + c * 64 + p * 4
def upathCluster (d c : Nat) : Nat := 0x3000 + d * 256 + c * 64
def upathDie (d : Nat) : Nat := 0x4000 + d * 256
def upathBoth : Nat := 0x5000
def upathNmu (k : Nat) : Nat := 0x6000 + k
/-- SOURCE kinds 7–10 (R463). -/
def srcProc (p inst : Nat) : Nat := 0x7000 + p + inst * 32
def srcPort (p : Nat) (lane : Nat := 15) : Nat := 0x8000 + p + lane * 32
def srcOpt (e : Nat) : Nat := 0x9000 + e
def srcStack (k : Nat) : Nat := 0xA000 + k

/-! ### Page semaphores (R15, R519, R520) -/

/-- The owner of a page's semaphore, 0 when free. -/
def State.semOwner (s : State) (pg : Page) : Nat :=
  if s.flag pg Hd.PAGE_SEM_HELD then s.fld pg Hd.PAGE_SEM_OWNER else 0

/-- Give a page's semaphore to an owner, or free it with 0. -/
def State.setSemOwner (s : State) (pg : Page) (c : Nat) : State :=
  s.setReg (regKey pg 0x00C 0) (BitVec.ofNat 32 (if c = 0 then 0 else 0x80000000 + c))

/-- Pages held by each owner, saturating: SEM_HELD (Table 18.12). -/
def State.semCount (s : State) (c : Nat) : Nat :=
  min 1023 (s.regs.filter (fun e => regAddr e.1 % 4096 == 0x00C && regBank e.1 == 0 && e.2 == BitVec.ofNat 32 (0x80000000 + c))).length

/-- Bring SEM_HELD up to date. -/
def State.semHeldUpdate (s : State) : State :=
  s.setFld .glb Glb.SEM_HELD (s.semCount 1 + s.semCount 2 * 1024 + s.semCount 3 * 1048576)

/-- The write of a master that does not hold the page's semaphore is dropped and recorded (R15, R520). -/
def State.semDrop (s : State) (m : Master) (pg : Page) : State :=
  (s.bump .glb Glb.SEM_DROP_CNT).event 0xC150 0 [(8, pg.base), (2, m.code)]

/-- A page answers: with standby power, and in RECOVERY only the GLB, security and firmware pages (R480). -/
def State.answers (s : State) (pg : Page) : Bool :=
  s.mod_.stby && (!s.flag .sec Sec.SEC_STATUS_RECOVERY || pg == .glb || pg == .sec || pg == .cc || pg == .fp || pg == .upd)

/-- A read of a register with an effect of its own, by the host: the page answers with the value (R518). -/
def State.hostReads (s : State) (pg : Page) (f : State → State × Nat) : State :=
  if s.answers pg then (f s).1.emit (.hostRead 0 (bytesLE 4 (f s).2)) else s

/-- A register write through the page semaphore (R15): the holder's write acts and refreshes the lease (R520), any
other is dropped. -/
def State.gated (s : State) (m : Master) (pg : Page) (f : State → State) : State :=
  if !s.answers pg then s
  else if s.semOwner pg = m.code then
    f { s with semTick := tSet s.semTick pg.base s.tick }
  else s.semDrop m pg

/-- Release every semaphore of an owner (R512, R515). -/
def State.semReleaseAll (s : State) (c : Nat) : State :=
  ({ s with regs := s.regs.filter (fun e =>
      !(regAddr e.1 % 4096 == 0x00C && regBank e.1 == 0 && e.2 == BitVec.ofNat 32 (0x80000000 + c))) }).semHeldUpdate

/-! ### Fault records (R429, R430, R441) -/

/-- Build a fault record (Table 15.4). -/
def mkFaultRec (code ref : Nat) (lcore : Option Nat) (lasting : Bool) (level : Nat) (launch : Option Nat) (ev : Nat)
    (ctx gen part upath desc tick : Nat) : FaultRec :=
  BitVec.ofNat 256 (
    code % 256 + ref % 8 * 2 ^ 8 + (match lcore with | some n => 2 ^ 11 + n % 8 * 2 ^ 12 | none => 0)
    + bool01 lasting * 2 ^ 15 + level % 8 * 2 ^ 16
    + (match launch with | some n => n % 4096 * 2 ^ 20 + 2 ^ 48 | none => 0) + ev % 65536 * 2 ^ 32
    + (ctx % 8192 + gen % 256 * 2 ^ 16 + part % 4096 * 2 ^ 24 + upath % 65536 * 2 ^ 48) * 2 ^ 64
    + desc % 2 ^ 64 * 2 ^ 128 + tick % 2 ^ 64 * 2 ^ 192)

/-- Show the selected record in FR_W (R441). -/
def State.faultWindow (s : State) : State :=
  let r := smGet (fun _ => (0 : FaultRec)) s.faults (s.fld .fr (Fr.FR_SEL.sub 7 0))
  s.each (List.range 8) (fun i s => s.setFld .fr (Fr.FR_W i) (r.toNat / 2 ^ (32 * i) % 2 ^ 32))

/-- Write a fault record into the ring (R441): a new record overwrites the oldest. -/
def State.faultRecord (s : State) (r : FaultRec) : State :=
  let idx := s.fld .fr (Fr.FR_HEAD.sub 7 0)
  let n := s.fld .fr (Fr.FR_HEAD.sub 31 8)
  let s := if 256 ≤ n then s.bump .fr Fr.FR_LOST else s
  let s := { s with faults := smSet (fun _ => (0 : FaultRec)) s.faults idx r }
  let s := (s.setFld .fr (Fr.FR_HEAD.sub 7 0) ((idx + 1) % 256)).bump .fr (Fr.FR_HEAD.sub 31 8)
  s.faultWindow

/-- A path of Table 17.5, numbered in its order, is found closed (R491): counted, and recorded at most once per tick. -/
def State.sealBlock (s : State) (path : Nat) : State :=
  let s := s.bump .sec Sec.SEALED_BLOCK_CNT
  if smGet (fun _ => 0) s.sealTick path = s.tick + 1 then s
  else ({ s with sealTick := smSet (fun _ => 0) s.sealTick path (s.tick + 1) }).event 0xA112 0 [(2, path)]

/-! ### Memory bytes -/

/-- The byte at a memory key; a byte that nothing has written reads 0 (R179). -/
def State.byte (s : State) (k : Nat) : Byte := smGet (fun _ => (0 : Byte)) s.mem k

/-- Write the byte at a memory key. -/
def State.setByte (s : State) (k : Nat) (b : Byte) : State := { s with mem := smSet (fun _ => (0 : Byte)) s.mem k b }

/-- `n` bytes from a key upwards. -/
def State.bytes (s : State) (k : Nat) : Nat → List Byte
  | 0 => []
  | n + 1 => s.byte k :: s.bytes (k + 1) n

/-- Write bytes from a key upwards. -/
def State.setBytes (s : State) (k : Nat) : List Byte → State
  | [] => s
  | b :: t => (s.setByte k b).setBytes (k + 1) t

/-- The memory keys of the Edesk: stack × 2^37 + local address. -/
def edKey (stack l : Nat) : Nat := stack * 2 ^ 37 + l

/-- The memory keys of the on-die SRAM (space 0x1). -/
def sramKey (o : Nat) : Nat := 2 ^ 42 + o

/-- The line metadata key. -/
def lineKey (stack l : Nat) : Nat := stack * 2 ^ 31 + l / 64

/-- Memory is in canonical form. -/
def memWf (m : List Host.Cell) : Bool := smWf (fun _ => (0 : Byte)) m

end Sys2Proof.Machine
end

