-- ==== Sys2Proof/Machine/Edesk.lean ====
section
/-! DEFINITION. Memory: the global address (R13), the Edesk address map (R163–R166), line writes and partial writes
(R172, R173), reads and their bus errors (R174, R180), the hold of Matryoshka on writes (R212), the on-die SRAM
and the rights of a context (R536). -/
namespace Sys2Proof.Machine

/-- 1 GiB. -/
def gib : Nat := 1073741824

/-- Fields of a global address (R13). -/
def gaChip (a : Nat) : Nat := a / 2 ^ 48 % 65536
def gaSpace (a : Nat) : Nat := a / 2 ^ 44 % 16
def gaOff (a : Nat) : Nat := a % 2 ^ 44

/-- The interleave size in effect of a die, in GiB (R164). -/
def State.ilOf (s : State) (d : Nat) : Nat := s.fld (.mc (6 * d)) Mc.LAYOUT_IL

/-- C_s in bytes: 96 GiB, or 93 GiB once a channel is mapped out or migrating (R166, R167). -/
def State.capOf (s : State) (k : Nat) : Nat :=
  (if s.fld (.mc k) Mc.MC_STATUS_MAPOUT_STATE = 0 then 96 else 93) * gib

/-- edesk_map (R163): the stack and local address of a global offset in space 0x0. -/
def State.edMap (s : State) (o : Nat) : Option (Nat × Nat) :=
  let d := o / (576 * gib)
  if 1 < d then none
  else
    let p := o % (576 * gib)
    let il := s.ilOf d
    let (k, l) :=
      if p < 6 * il * gib then
        let u := p / 4096
        (6 * d + u % 6, u / 6 * 4096 + p % 4096)
      else
        let q := p - 6 * il * gib
        let w := (96 - il) * gib
        (6 * d + q / w, il * gib + q % w)
    if s.capOf k ≤ l then none else some (k, l)

/-- The channel and slot of a local address (R165, R166): `moved` says that the granule has been copied. -/
def State.channelSlot (s : State) (k l : Nat) : Nat × Nat :=
  let g := l / 128
  let c := g % 32
  let r := g / 32
  let st := s.fld (.mc k) Mc.MC_STATUS_MAPOUT_STATE
  let x := s.fld (.mc k) Mc.MC_STATUS_MAPOUT_CH
  let wm := s.fld (.mc k) (Mc.MAPOUT_WMARK.sub 24 0)
  if st ≠ 0 && c = x && (st = 2 || r < wm) then
    let n := r % 31
    (if n < x then n else n + 1, 24379392 + r / 31)
  else (c, r)

/-- A stack serves traffic: READY is set, its rail is up and the module has not FAILED (R179, R436). -/
def State.stackUp (s : State) (k : Nat) : Bool :=
  s.flag (.mc k) Mc.MC_STATUS_READY && s.mod_.mem && s.fld .rst (Rst.RST_STATUS.sub 0 0) == 0

/-- Bytes of one cluster's part of space 0x1: nine tile memories of 16 MiB, then 64 MiB of cluster memory. -/
def clusterSpan : Nat := 208 * 1048576

/-- The cluster (4d + c) and the unit in it of an offset in space 0x1: tile memory 0–8, or 9 for cluster memory. -/
def sramUnit (o : Nat) : Nat × Nat := (o / clusterSpan, min 9 (o % clusterSpan / 16777216))

/-- The base offset in space 0x1 of the tile memory of logical core `lc` = (4d + c) × 8 + n. -/
def tileBase (lc : Nat) : Nat := lc / 8 * clusterSpan + lc % 8 * 16777216

/-- The base offset in space 0x1 of the cluster memory of cluster `cl` = 4d + c. -/
def clusterBase (cl : Nat) : Nat := cl * clusterSpan + 150994944

/-- The physical core of a logical core, 15 when unbound (R19). -/
def State.physOf (s : State) (lc : Nat) : Nat :=
  s.fld (.cluster (lc / 32) (lc / 8 % 4)) ⟨0x100, 4 * (lc % 8) + 3, 4 * (lc % 8)⟩

/-- The compute units that a reset under way covers (R432): does it cover physical core `p` of cluster `cl`, or the
cluster's own units with `p` = 15? -/
def RstRun.covers (r : RstRun) (cl p : Nat) : Bool :=
  let d := r.upath / 256 % 2
  let c := r.upath / 64 % 4
  let q := r.upath / 4 % 16
  match r.level with
  | 2 => cl == 4 * d + c && p == q
  | 3 => cl == 4 * d + c
  | 4 => cl / 4 == d
  | 5 => true
  | _ => false

/-- A unit is in reset, or its island is without power (R435, R436). -/
def State.unitDown (s : State) (cl p : Nat) : Bool :=
  s.resets.any (fun r => r.covers cl p) || s.fld .rst (Rst.RST_STATUS.sub 0 0) == 1
    || !(if cl < 4 then s.mod_.core0 else s.mod_.core1)

/-- The memory key of an offset in space 0x1, none where it is not populated or its unit is in reset (R13, R435). -/
def State.sramLoc (s : State) (o : Nat) : Option Nat :=
  if 8 * clusterSpan ≤ o then none
  else
    let (cl, u) := sramUnit o
    let p := if u < 8 then s.physOf (cl * 8 + u) else 15
    if s.unitDown cl p || (u < 8 && p = 15) then none else some (sramKey o)

/-! ### Lines -/

/-- The metadata word of a line. -/
def State.lineMeta (s : State) (k l : Nat) : LineMeta := tGet s.lines (lineKey k l)

/-- The outer code of a line: its 64 bytes and the address word (R172). -/
def outerCode (k l : Nat) (data : List Byte) : Nat :=
  crc32c (data ++ bytesLE 8 (l / 64 % 2 ^ 31 + k % 16 * 2 ^ 32))

/-- An enabled recompute region of the stack that covers a local address, with the context and generation given (R177). -/
def State.rcRegion (s : State) (k l : Nat) : Option Nat :=
  (List.range 8).find? (fun n =>
    s.flag (.mc k) (Mc.RCR_CTRL_EN n)
      && s.fld (.mc k) ((Mc.RCR_BASE n).sub 24 0) ≤ l / 4096
      && l / 4096 < s.fld (.mc k) ((Mc.RCR_BASE n).sub 24 0) + s.fld (.mc k) ((Mc.RCR_SIZE n).sub 14 0))

/-- RC of a whole-line write (R177): it lands in an enabled region and carries that region's context and generation. -/
def State.rcOf (s : State) (k l : Nat) (ctx : Option (Nat × Nat)) : Bool :=
  match s.rcRegion k l, ctx with
  | some n, some (c, g) =>
    s.fld (.mc k) ((Mc.RCR_CTX n).sub 12 0) == c && s.fld (.mc k) ((Mc.RCR_CTX n).sub 23 16) == g
  | _, _ => false

/-- Store a whole line with its CRC and metadata (R173). -/
def State.storeLine (s : State) (k l : Nat) (data : List Byte) (rc : Bool) : State :=
  let l := l / 64 * 64
  let s := s.setBytes (edKey k l) data
  { s with
    lines := tSet s.lines (lineKey k l) { crc := outerCode k l data, rc := rc, unwritten := false, poison := false } }

/-- LAST_ERR of a line's bus error, recompute or unwritten read (Table 6.5): the local address of the line. -/
def State.lastErr (s : State) (k l kind : Nat) (ctx : Option (Nat × Nat)) : State :=
  let (c, g) := ctx.getD (0, 0)
  let s := s.setFld64 (.mc k) Mc.LAST_ERR_ADDR_LO (l / 64 * 64)
  s.setFld (.mc k) Mc.LAST_ERR_INFO (kind + (s.channelSlot k l).1 * 8 + c % 8192 * 256 + g % 256 * 2 ^ 21)

/-- Items of a memory event: stack, channel, local address, context and generation (R174). -/
def State.memItems (s : State) (k l : Nat) (ctx : Option (Nat × Nat)) : List Item :=
  [(1, k), (1, (s.channelSlot k l).1), (8, l)]
    ++ (match ctx with | some (c, g) => [(2, c), (1, g)] | none => [])

/-- A read of a line with UNWRITTEN set (R180). -/
def State.readUnwritten (s : State) (k l : Nat) (ctx : Option (Nat × Nat)) : State :=
  ((s.bump (.mc k) Mc.UNWRITTEN_CNT).lastErr k l 3 ctx).event 0x2107 (srcStack k) (s.memItems k l ctx)

/-- A line that ends in a bus error (R174 step 4). -/
def State.lineBusError (s : State) (k l kind : Nat) (ctx : Option (Nat × Nat)) : State :=
  ((s.bump (.mc k) Mc.OUT_BUSERR_CNT).lastErr k l kind ctx).event 0x2106 (srcStack k) (s.memItems k l ctx)

/-- A line fails the outer code as it stands: its CRC does not match, or it is poisoned (R174). -/
def State.lineFails (s : State) (k l : Nat) : Bool :=
  let m := s.lineMeta k l
  !m.unwritten && (m.poison || m.crc != outerCode k (l / 64 * 64) (s.bytes (edKey k (l / 64 * 64)) 64))

/-- The check of a line that is received with no symbol in error: UNWRITTEN, POISON and a CRC that does not match end in a bus error
(R174, R180). -/
def State.checkLine (s : State) (k l : Nat) (ctx : Option (Nat × Nat)) : State × Bool :=
  let m := s.lineMeta k l
  if m.unwritten then (s.readUnwritten k l ctx, false)
  else if s.lineFails k l then (s.lineBusError k l (if m.poison then 4 else 1) ctx, false)
  else (s, true)

/-- Merge the bytes of one line, at `l` within it, and store the line (R173): a part of a line needs a read that passes. -/
def State.mergeLine (s : State) (k l : Nat) (data : List Byte) (ctx : Option (Nat × Nat)) : State × Bool :=
  if l % 64 = 0 && data.length = 64 then (s.storeLine k l data (s.rcOf k l ctx), true)
  else
    let (s, ok) := s.checkLine k l ctx
    if ok then
      let b := l / 64 * 64
      let old := s.bytes (edKey k b) 64
      (s.storeLine k b (old.take (l - b) ++ data ++ old.drop (l - b + data.length)) false, true)
    else (s, false)

/-- The Matryoshka of a stack. -/
def State.mat (s : State) (k : Nat) : Mat := tGet s.mats k
def State.setMat (s : State) (k : Nat) (m : Mat) : State := { s with mats := tSet s.mats k m }

/-- Side slots of a stack that hold no unit. -/
def State.slotFree (s : State) (k : Nat) : Bool :=
  (s.mat k).slotOf.length < s.fld (.mat k) (Mat.SIDE_UNITS.sub 16 0)

/-- The stack's controller state. -/
def State.stk (s : State) (k : Nat) : Stack := tGet s.stks k
def State.setStk (s : State) (k : Nat) (x : Stack) : State := { s with stks := tSet s.stks k x }

/-- The outcome of a line is open: a read of it, or the merge read of a write, waits for a recompute (R175). -/
def Stack.holds (x : Stack) (l : Nat) : Bool :=
  x.recomp.any (fun r => r.waits.any (fun w => w.line / 64 == l / 64))
    || x.recompQ.any (fun r => r.waits.any (fun w => w.line / 64 == l / 64))

/-- Writes held on PENDING units of a stack that has no slot left are held for lack of one (R214): each counts once, the event once
per snapshot. -/
def State.matFull (s : State) (k : Nat) : State :=
  let m := s.mat k
  let n := (m.held.filter (fun w => !w.full)).length
  if s.slotFree k || n = 0 then s
  else
    let s := (s.setMat k { m with held := m.held.map (fun w => { w with full := true }), fullNoted := true }).bumpBy (.mat k) Mat.FULL_WAIT_CNT n
    if m.fullNoted then s else s.event 0x214B (srcStack k)

/-- A local address lies in a PENDING unit. -/
def State.pendingAt (s : State) (k l : Nat) : Bool := smGet (fun _ => 0) (s.mat k).unitSt (l / 4096) == 1

/-- Hold a write on its PENDING unit (R212). -/
def State.matHold (s : State) (k : Nat) (w : HeldW) : State :=
  (s.setMat k { s.mat k with held := (s.mat k).held ++ [w] }).matFull k

/-- Hold a write on a line whose outcome is open (R175). -/
def State.lineHoldW (s : State) (k : Nat) (w : LineW) : State := s.setStk k { s.stk k with heldW := (s.stk k).heldW ++ [w] }

/-- A write to one line from any origin: held where its line's outcome is open (R175; the producer's own writes apart) or its unit is
PENDING (R212, R214), else merged (R173). The requester is told of a held write. -/
def State.writeLine (s : State) (k l o : Nat) (data : List Byte) (ctx : Option (Nat × Nat)) (req : Requester := .host)
    (prod : Bool := false) : State × Bool :=
  if (s.stk k).holds l && !prod then (s.lineHoldW k { off := o, l := l, data := data, req := req, ctx := ctx }, true)
  else if s.pendingAt k l then (s.matHold k { off := o, l := l, data := data, req := req, ctx := ctx }, true)
  else s.mergeLine k l data ctx

/-- Split bytes from an offset at the line boundaries; `fuel` is the number of bytes. -/
def splitLines : Nat → Nat → List Byte → List (Nat × List Byte)
  | 0, _, _ => []
  | n + 1, o, bs =>
    if bs.isEmpty then [] else
      let w := 64 - o % 64
      (o, bs.take w) :: splitLines n (o + w) (bs.drop w)

/-- Write bytes to space 0x0 from a global offset upwards, line by line (R173); the flag says that no line failed. -/
def State.writeEdesk (s : State) (o : Nat) (data : List Byte) (ctx : Option (Nat × Nat)) (prod : Bool := false) : State × Bool :=
  (splitLines data.length o data).foldl (fun (acc : State × Bool) p =>
    match acc.1.edMap p.1 with
    | none => (acc.1, false)
    | some (k, l) =>
      if acc.1.stackUp k then
        let (s', ok) := acc.1.writeLine k l p.1 p.2 ctx .host prod
        (s', acc.2 && ok)
      else (acc.1, false)) (s, true)

/-- Write bytes to space 0x1. -/
def State.writeSram (s : State) (o : Nat) : List Byte → State × Bool
  | [] => (s, true)
  | b :: t =>
    match s.sramLoc o with
    | none => let (s', _) := s.writeSram (o + 1) t; (s', false)
    | some k => (s.setByte k b).writeSram (o + 1) t

/-- Write bytes at a global address of the own chip; the flag is false where a bus error arose (R13, R173). -/
def State.writeMem (s : State) (a : Nat) (data : List Byte) (ctx : Option (Nat × Nat)) (prod : Bool := false) : State × Bool :=
  if gaSpace a = 0 then s.writeEdesk (gaOff a) data ctx prod
  else if gaSpace a = 1 then s.writeSram (gaOff a) data
  else (s, false)

/-- The lines that a range of space 0x0 touches, by a global offset in each. -/
def linesOf (o n : Nat) : List Nat :=
  if n = 0 then [] else (List.range ((o + n - 1) / 64 - o / 64 + 1)).map (fun i => if i = 0 then o else (o / 64 + i) * 64)

/-- Check every line of a range before its bytes are delivered. -/
def State.checkRange (s : State) (o n : Nat) (ctx : Option (Nat × Nat)) : State × Bool :=
  (linesOf o n).foldl (fun (acc : State × Bool) q =>
    if !acc.2 then acc
    else match acc.1.edMap q with
    | none => (acc.1, false)
    | some (k, l) => if acc.1.stackUp k then acc.1.checkLine k l ctx else (acc.1, false)) (s, true)

/-- The byte at a global address of the own chip as it stands in memory. -/
def State.peek (s : State) (a : Nat) : Byte :=
  if gaSpace a = 0 then
    match s.edMap (gaOff a) with
    | some (k, l) => s.byte (edKey k l)
    | none => 0
  else s.byte (sramKey (gaOff a))

/-- `n` bytes at a global address as they stand in memory. -/
def State.peekN (s : State) (a : Nat) : Nat → List Byte
  | 0 => []
  | n + 1 => s.peek a :: s.peekN (a + 1) n

/-- Is every byte of a range of space 0x1 readable? -/
def State.sramOk (s : State) (o n : Nat) : Bool :=
  n = 0 || ((s.sramLoc o).isSome && (s.sramLoc (o + n - 1)).isSome
    && (List.range ((o + n - 1) / 16777216 - o / 16777216)).all (fun i =>
      (s.sramLoc ((o / 16777216 + i + 1) * 16777216)).isSome))

/-- Read bytes at a global address of the own chip: none is a bus error (R13, R174, R180). -/
def State.readMem (s : State) (a n : Nat) (ctx : Option (Nat × Nat)) : State × Option (List Byte) :=
  if gaSpace a = 0 then
    let (s, ok) := s.checkRange (gaOff a) n ctx
    (s, if ok then some (s.peekN a n) else none)
  else if gaSpace a = 1 && s.sramOk (gaOff a) n then (s, some (s.peekN a n))
  else (s, none)

/-- Is a global address of the own chip populated (R13)? -/
def State.populated (s : State) (a : Nat) : Bool :=
  if gaSpace a = 0 then (s.edMap (gaOff a)).isSome
  else gaSpace a == 1 && decide (gaOff a < 8 * clusterSpan)

/-! ### Signal words (R108) -/

/-- A signal word is 8-byte aligned in space 0x0 or 0x1. -/
def sigAligned (a : Nat) : Bool := a % 8 == 0 && decide (gaSpace a ≤ 1)

/-- The 64-bit word at a global address of the own chip. -/
def State.word64 (s : State) (a : Nat) : Nat := natLE (s.peekN a 8)

/-- Add to the word at a local address of a stack (R108): a merge of the line (R173). -/
def State.addLine (s : State) (k l v : Nat) (ctx : Option (Nat × Nat)) : State × Bool :=
  let (s, ok) := s.checkLine k l ctx
  if ok then s.mergeLine k l (bytesLE 8 ((natLE (s.bytes (edKey k l) 8) + v) % 2 ^ 64)) ctx else (s, false)

/-- Where a write to a word of the own chip is held, if it is: its stack and local address, and whether its line is open (R175) or its
unit PENDING (R212). -/
def State.wordHeld (s : State) (a : Nat) : Option (Nat × Nat × Bool) :=
  if gaSpace a = 0 then
    match s.edMap (gaOff a) with
    | some (k, l) =>
      if !s.stackUp k then none
      else if (s.stk k).holds l then some (k, l, true) else if s.pendingAt k l then some (k, l, false) else none
    | none => none
  else none

/-- Apply a signal to a word of the own chip: ADD modulo 2^64 or WRITE (R108). An ADD to a word whose writes are held is held with its
value, and reads the word when it is released. -/
def State.signalWord (s : State) (a v : Nat) (write : Bool) (ctx : Option (Nat × Nat)) (req : Requester := .host) : State × Bool :=
  if write then s.writeMem a (bytesLE 8 v) ctx
  else match s.wordHeld a with
  | some (k, l, true) => (s.lineHoldW k { off := gaOff a, l := l, add := some v, req := req, ctx := ctx }, true)
  | some (k, l, false) => (s.matHold k { off := gaOff a, l := l, add := some v, req := req, ctx := ctx }, true)
  | none =>
    let (s, r) := s.readMem a 8 ctx
    match r with
    | some b => s.writeMem a (bytesLE 8 ((natLE b + v) % 2 ^ 64)) ctx
    | none => (s, false)

/-! ### Rights of a context (R536, R491) -/

/-- A local unit lies in its stack's side area (R210). -/
def State.inSide (s : State) (k l : Nat) : Bool :=
  let b := s.fld (.mat k) (Mat.SIDE_BASE.sub 24 0)
  decide (b ≤ l / 4096) && decide (l / 4096 < b + s.fld (.mat k) (Mat.SIDE_UNITS.sub 16 0))

/-- The seal of a partition. -/
def State.sealOf (s : State) (p : Nat) : Seal := tGet s.seals p

/-- A partition is sealed, or on the way into or out of it: its ranges are closed. -/
def Seal.closed (x : Seal) : Bool := x.st != 0

/-- Offset `o` lies in one of the ranges. -/
def inRanges (rs : List (Nat × Nat)) (o : Nat) : Bool := rs.any (fun r => decide (r.1 ≤ o) && decide (o < r.1 + r.2))

/-- A byte address lies in what partition `p` keeps sealed: its ranges, or the tile and cluster memory of its clusters. -/
def Seal.holds (x : Seal) (a : Nat) : Bool :=
  x.closed && (if gaSpace a = 0 then inRanges x.ranges (gaOff a)
    else bitAt x.mask (sramUnit (gaOff a)).1)

/-- A sealed partition other than `p` keeps the address closed. -/
def State.sealedByOther (s : State) (p a : Nat) : Bool := s.seals.any (fun e => e.1 != p && e.2.holds a)

/-- Some sealed partition keeps the address closed. -/
def State.sealedAddr (s : State) (a : Nat) : Bool := s.seals.any (fun e => e.2.holds a)

/-- The rights of a context of partition `p` cover a byte of the own chip (R536). -/
def State.rights (s : State) (p a : Nat) : Bool :=
  decide (gaSpace a ≤ 1) && !s.sealedByOther p a
    && (if gaSpace a = 0 then
          match s.edMap (gaOff a) with
          | some (k, l) => !s.inSide k l
          | none => true
        else true)

/-- The rights cover a range: its ends and every 4 KiB unit in it. -/
def State.rightsRange (s : State) (p a n : Nat) : Bool :=
  n == 0 || ((List.range ((a + n - 1) / 4096 - a / 4096 + 1)).all (fun i =>
    s.rights p (if i = 0 then a else (a / 4096 + i) * 4096)) && s.rights p (a + n - 1))

/-- Where a sealed partition's own fetches, records and command blocks must lie (R491): its ranges or its clusters. -/
def State.ownSealOk (s : State) (p a n : Nat) : Bool :=
  let x := s.sealOf p
  !(x.st == 2) || (x.holds a && x.holds (a + n - 1))

/-! ### Counts of a channel (R170, R181, R183) -/

/-- `n` inner corrections on a channel (R170); the threshold event once per period (R183). -/
def State.countCe (s : State) (k ch n : Nat) : State :=
  let s := (s.bumpBy (.mc k) Mc.CH_CE_CNT n ch).bumpBy (.mc k) Mc.CH_CE_PERIOD n ch
  let x := s.stk k
  if s.fld (.mc k) Mc.CE_THRESH < s.fld (.mc k) Mc.CH_CE_PERIOD ch && !x.degCe.contains ch then
    (s.setStk k { x with degCe := ch :: x.degCe }).event 0x2114 (srcStack k) [(1, k), (1, ch)]
  else s

/-- An uncorrectable sector on a channel (R170, R181, R183). -/
def State.countDue (s : State) (k ch : Nat) : State :=
  let s := s.bump (.mc k) Mc.CH_DUE_CNT ch
  let x := s.stk k
  if s.fld (.mc k) Mc.CH_DUE_CNT ch = 16 && !x.degDue.contains ch then
    (s.setStk k { x with degDue := ch :: x.degDue }).event 0x2114 (srcStack k) [(1, k), (1, ch)]
  else s

/-- An uncorrectable sector that a scrub finds (R181, R209). -/
def State.scrubSector (s : State) (k l : Nat) : State :=
  (s.countDue k (s.channelSlot k l).1).event 0x2103 (srcStack k) [(8, l)]

/-! ### Reads through the inner code (R169–R171) -/

/-- The metadata word as its five bytes (Table 6.2), and back. -/
def LineMeta.word (m : LineMeta) : List Nat :=
  (bytesLE 4 m.crc).map (·.toNat) ++ [bool01 m.rc + 2 * bool01 m.unwritten + 4 * bool01 m.poison]
def LineMeta.ofWord (w : List Nat) : LineMeta :=
  let b := w.getD 4 0
  { crc := natLE ((w.take 4).map (BitVec.ofNat 8)), rc := bitAt b 0, unwritten := bitAt b 1, poison := bitAt b 2 }

/-- Decode one code word of a line with the symbols in error that it is received with: its data and whether it was corrected, none
where it is uncorrectable. -/
def innerWord (fl : List SymErr) (w : Nat) (d : List Nat) : Option (List Nat × Bool) :=
  let mine := fl.filter (fun f => f.word == w)
  if mine.isEmpty then some (d, false)
  else
    let got := mine.foldl (fun x f => x.set f.sym (x.getD f.sym 0 ^^^ f.bits % 256)) (d ++ rsCheck d)
    (rsDecode got).map (fun r => (r.1.take d.length, r.2))

/-- A line as the base die delivers it: data, metadata word, the number of corrections, the uncorrectable sectors, and whether the
metadata word is uncorrectable. -/
structure InnerLine where
  data : List Byte := []
  md : LineMeta := {}
  fixed : Nat := 0
  due : List Nat := []
  metaBad : Bool := false
  deriving DecidableEq, Repr

/-- Read a line through the inner code: corrected words are written back (R170). DESIGN CHOICE (log entry 96): a metadata word that is
uncorrectable is delivered as it is stored, and makes the line fail. -/
def State.innerRead (s : State) (k l : Nat) (fl : List SymErr) : State × InnerLine :=
  let b := l / 64 * 64
  let raw := s.bytes (edKey k b) 64
  let m := s.lineMeta k b
  let w0 := innerWord fl 0 ((raw.take 32).map (·.toNat))
  let w1 := innerWord fl 1 ((raw.drop 32).map (·.toNat))
  let w2 := innerWord fl 2 m.word
  let half := fun (w : Option (List Nat × Bool)) (d : List Byte) => match w with
    | some (x, true) => x.map (BitVec.ofNat 8)
    | _ => d
  let data := half w0 (raw.take 32) ++ half w1 (raw.drop 32)
  let fix := fun (w : Option (List Nat × Bool)) => w.any (·.2)
  let md := match w2 with | some (x, true) => LineMeta.ofWord x | _ => m
  let s := if fix w0 || fix w1 then s.setBytes (edKey k b) data else s
  let s := if fix w2 then { s with lines := tSet s.lines (lineKey k b) md } else s
  (s, { data := data, md := md, fixed := bool01 (fix w0) + bool01 (fix w1) + bool01 (fix w2),
        due := (if w0.isNone then [0] else []) ++ (if w1.isNone then [1] else []), metaBad := w2.isNone })

/-- The symbols in error of a line, from those of its sectors and those of its metadata word. -/
def symsOf (data md : List SymErr) : List SymErr := data.map (fun e => { e with word := e.word % 2 }) ++ md.map (fun e => { e with word := 2 })

/-- A line is read by a scrub (R181, R209): corrections are counted, an uncorrectable sector is counted and recorded. -/
def State.scrubRead (s : State) (k l : Nat) (fl : List SymErr) : State × InnerLine :=
  let (s, x) := s.innerRead k l fl
  let s := if x.fixed = 0 then s else s.countCe k (s.channelSlot k l).1 x.fixed
  (s.each x.due (fun j s => s.scrubSector k (l / 64 * 64 + 32 * j)), x)

/-- A delivered line passes the outer code and bears no mark (R174). -/
def InnerLine.good (x : InnerLine) (k l : Nat) : Bool :=
  x.due.isEmpty && !x.metaBad && !x.md.poison && x.md.crc == outerCode k (l / 64 * 64) x.data

/-- Count what a read found on the channel of a line (R170); sectors in `old` have been counted already. -/
def State.innerCount (s : State) (k l : Nat) (x : InnerLine) (old : List Nat) : State :=
  let ch := (s.channelSlot k l).1
  let s := if x.fixed = 0 then s else s.countCe k ch x.fixed
  s.each (x.due.filter (fun j => !old.contains j)) (fun _ s => s.countDue k ch)

/-- The outcome of a read of a line (R174, R180): its data, a bus error that has been recorded, or a recompute in region `n`. -/
inductive LineRead where
  | ok (data : List Byte)
  | err
  | recompute (n : Nat)
  deriving DecidableEq, Repr

/-- A line is read and checked, refetched once, and judged (R170, R174, R180). -/
def State.readLine (s : State) (k l : Nat) (ctx : Option (Nat × Nat)) (o : ReadObs) : State × LineRead :=
  let (s, x) := s.innerRead k l o.first
  let s := s.innerCount k l x []
  if x.md.unwritten then (s.readUnwritten k l ctx, .err)
  else if x.good k l then (s, .ok x.data)
  else
    let (s, y) := if x.md.poison then (s, x) else s.innerRead k l o.again
    let s := if x.md.poison then s else s.innerCount k l y x.due
    if !x.md.poison && y.good k l then
      ((s.bump (.mc k) Mc.OUT_TRANSIENT_CNT).event 0x2104 (srcStack k) (s.memItems k l ctx), .ok y.data)
    else match (if y.md.rc then s.rcRegion k l else none) with
    | some n => (s, .recompute n)
    | none => (s.lineBusError k l (if y.md.poison then 4 else 1) ctx, .err)

/-! ### What is held (R175, R212) -/

/-- The global offset of a local address (R163), the inverse of `State.edMap`. -/
def State.edGlobal (s : State) (k l : Nat) : Nat :=
  let d := k / 6
  let il := s.ilOf d
  d * (576 * gib) + (if l < il * gib then (l / 4096 * 6 + k % 6) * 4096 + l % 4096
    else 6 * il * gib + k % 6 * ((96 - il) * gib) + (l - il * gib))

/-- A range of `n` bytes from a global offset shares a byte with one of some ranges of global addresses. -/
def State.touches (s : State) (o n : Nat) (rs : List (Nat × Nat)) : Bool :=
  rs.any (fun r => gaSpace r.1 == 0 && gaChip r.1 == s.chip && decide (gaOff r.1 < o + n) && decide (o < gaOff r.1 + r.2))

/-- Writes to some of these ranges are still held: by the copies of a Matryoshka (R212), or on lines whose outcome is open (R175). -/
def State.heldOn (s : State) (rs : List (Nat × Nat)) : Bool :=
  s.mats.any (fun e => e.2.held.any (fun w => s.touches w.off (if w.add.isSome then 8 else w.data.length) rs))
    || s.stks.any (fun e => e.2.heldW.any (fun w => s.touches w.off (if w.add.isSome then 8 else w.data.length) rs))

/-- Lines among these ranges that a read must wait for: those whose outcome is open, and those that fail and can be recomputed (R174,
R175); stack and local address. -/
def State.waitLines (s : State) (rs : List (Nat × Nat)) : List (Nat × Nat) :=
  let open_ := s.stks.flatMap (fun e =>
    ((e.2.recomp.toList ++ e.2.recompQ).flatMap (·.waits)).map (fun w => (e.1, w.line / 64 * 64)))
  let bad := s.lines.filterMap (fun e =>
    let k := e.1 / 2 ^ 31
    let l := e.1 % 2 ^ 31 * 64
    if e.2.rc && (s.rcRegion k l).isSome && s.lineFails k l then some (k, l) else none)
  ((open_ ++ bad).filter (fun x => s.stackUp x.1 && s.touches (s.edGlobal x.1 x.2) 64 rs)).eraseDups

end Sys2Proof.Machine
end

