-- ==== Sys2Proof/Machine/Prog.lean ====
section
/-! DEFINITION. Programs and sequencers: logical and physical cores (R19, R102), launch slots, completions (R32, R33),
the end of a program by a fault (R135, R429, R435) and the core and engine status that mirrors the sequencers. -/
namespace Sys2Proof.Machine

/-! ### Cores and sequencers -/

/-- The core page of the physical core that serves a logical core. -/
def State.corePage (s : State) (lc : Nat) : Option Page :=
  let p := s.physOf lc
  if p < 9 then some (.core (lc / 32) (lc / 8 % 4) p) else none

/-- The unit path of the physical core that serves a logical core, 0 when it is unbound. -/
def State.coreUpath (s : State) (lc : Nat) : Nat :=
  let p := s.physOf lc
  if p < 9 then upathCore (lc / 32) (lc / 8 % 4) p else 0

def State.seq (s : State) (lc : Nat) : Seq := tGet s.seqs lc
def State.setSeq (s : State) (lc : Nat) (q : Seq) : State := { s with seqs := tSet s.seqs lc q }
def State.modSeq (s : State) (lc : Nat) (f : Seq → Seq) : State := s.setSeq lc (f (s.seq lc))

def State.slot (s : State) (n : Nat) : Slot := tGet s.slots n
def State.setSlot (s : State) (n : Nat) (x : Slot) : State := { s with slots := tSet s.slots n x }

def State.prog (s : State) (n : Nat) : Prog := tGet s.progs n
def State.setProg (s : State) (n : Nat) (p : Prog) : State := { s with progs := tSet s.progs n p }

/-- Fields of a launch entry (Table 1.6). -/
def Slot.state (x : Slot) : Nat := x.w0.toNat % 256
def Slot.irq (x : Slot) : Bool := bitAt x.w0.toNat 16
def Slot.lateReject (x : Slot) : Bool := bitAt x.w0.toNat 17
def Slot.seqTag (x : Slot) : Nat := x.w0.toNat / 2 ^ 32
def Slot.ctx (x : Slot) : Nat := bitsOf x.w3.toNat 12 0
def Slot.gen (x : Slot) : Nat := bitsOf x.w3.toNat 23 16
def Slot.part (x : Slot) : Nat := bitsOf x.w3.toNat 35 24
def Slot.maxWait (x : Slot) : Nat := bitsOf x.w3.toNat 63 48
def Slot.clMask (x : Slot) : Nat := bitsOf x.w4.toNat 7 0
def Slot.lcMask (x : Slot) : Nat := bitsOf x.w4.toNat 15 8
def Slot.vector (x : Slot) : Nat := bitsOf x.w4.toNat 26 16

/-- The same slot with another STATE. -/
def Slot.withState (x : Slot) (v : Nat) : Slot := { x with w0 := BitVec.ofNat 64 (x.w0.toNat / 256 * 256 + v % 256) }

/-- Reserved bits of a launch entry that hold ones. -/
def Slot.reserved (x : Slot) : Bool :=
  bitsOf x.w0.toNat 15 8 != 0 || bitsOf x.w0.toNat 31 18 != 0 || bitsOf x.w3.toNat 15 13 != 0
    || bitsOf x.w3.toNat 47 36 != 0 || bitsOf x.w4.toNat 63 27 != 0

/-- The target set: the logical cores that the masks name (R29). -/
def Slot.targets (x : Slot) : List Nat :=
  (List.range 64).filter (fun lc => bitAt x.clMask (lc / 8) && bitAt x.lcMask (lc % 8))

/-- A wait that blocks the issue of later descriptors (R139). -/
def WaitK.blocks : WaitK → Bool
  | .nm _ _ => false
  | _ => true

/-- Issue is blocked under R139, or under R90 by a serialising descriptor in flight or waiting for earlier ones. -/
def Seq.blocked (q : Seq) : Bool :=
  q.infl.any (fun i => i.wait.any WaitK.blocks || i.ser) || (q.serHold && !q.infl.isEmpty)

/-- Mirror a sequencer in its core page and engine pages (Tables 5.6 and 5.7). -/
def State.coreSync (s : State) (lc : Nat) : State :=
  let p := s.physOf lc
  if p < 9 then
    let d := lc / 32
    let c := lc / 8 % 4
    let q := s.seq lc
    let g := s.prog q.slot
    let run := q.st = 1 || q.st = 2
    let pg := Page.core d c p
    let s := s.setFld pg Cor.CORE_STATUS_INFLIGHT q.infl.length
    let s := s.setFld pg Cor.CORE_STATUS_RUNNING (bool01 run)
    let s := s.setFld pg Cor.CORE_STATUS_BLOCKED (bool01 q.blocked)
    let s := s.setFld pg Cor.CORE_STATUS_CHAIN (bool01 q.chain.isSome)
    let s := s.setFld pg Cor.CORE_CTX (if run then g.ctx + g.gen * 65536 else 0)
    let s := s.setFld pg Cor.CORE_PART (if run then g.part else 0)
    s.each (List.range 4) (fun e s =>
      let busy := q.infl.any (fun i => i.engines.contains e)
      let s := s.setFld (.eng d c p e) Eng.ENG_STATUS_STATE
        (if busy then 1 else if q.chain.any (fun h => h.engines.contains e) then 2 else 0)
      if busy then s else s.setFld (.eng d c p e) Eng.ENG_STATUS_BYPASS 0)
  else s

/-- Stop a sequencer: its descriptors in flight and its chain are gone (R435). -/
def Seq.stopped (q : Seq) (st : Nat) : Seq := { q with st := st, infl := [], chain := none, loops := [], serHold := false }

/-- The last descriptor executed (Table 1.8): the one that completed last on any target core. -/
def State.progLast (_s : State) (p : Prog) : Nat := p.lastDesc

/-- A program is ended on every target core (R32, R435); the first cause stands. -/
def State.endProgram (s : State) (n : Nat) (status desc : Nat) : State :=
  let p := s.prog n
  if p.active && p.ended.isNone then
    let s := s.setProg n { p with ended := some status, lastDesc := desc }
    s.each p.cores (fun lc s =>
      if (s.seq lc).st ≠ 0 && (s.seq lc).slot = n then (s.modSeq lc (fun q => { q.stopped 3 with lastDone := s.tick })).coreSync lc else s)
  else s

/-- A fault of the program that runs on a logical core: its record, its event and the program's end (R135, R429). -/
def State.progFault (s : State) (lc code ref ev desc : Nat) (lasting : Bool := false) (level : Nat := 0)
    (upath : Option Nat := none) : State :=
  let q := s.seq lc
  let p := s.prog q.slot
  let u := upath.getD (s.coreUpath lc)
  let s := s.faultRecord (mkFaultRec code ref (some (lc % 8)) lasting level (some q.slot) ev p.ctx p.gen p.part u desc s.tick)
  (s.event ev u).endProgram q.slot 1 desc

/-- The event of a descriptor fault code (Table 4.10); FORMAT takes the event its rule names. -/
def faultEvent (code : Nat) : Nat :=
  match code with
  | 0x01 => 0x1120 | 0x02 => 0x1121 | 0x03 => 0x1122 | 0x04 => 0x1110 | 0x05 => 0x1123
  | 0x06 => 0x1124 | 0x07 => 0x1125 | 0x08 => 0x1126 | 0x09 => 0x1127 | 0x0A => 0x1128
  | 0x0B => 0x1129 | 0x0C => 0x1106 | 0x0D => 0x112A | _ => 0x112B

/-! ### Completions (R32, R33) -/

/-- The launch control page of a slot's owner: the host below slot 2,048, management above. -/
def lchPage (n : Nat) : Page := if n < 2048 then .lchHost else .lchMgt

/-- Bring LCH_STATUS and CPL_HELD up to date (Table 1.10). -/
def State.lchSync (s : State) (host : Bool) : State :=
  let mine := s.slots.filter (fun e => decide (e.1 < 2048) == host)
  let cnt := fun v => (mine.filter (fun e => e.2.state == v)).length
  let pg := if host then Page.lchHost else .lchMgt
  (s.setFld pg Lch.LCH_STATUS (cnt 2 + cnt 3 * 65536)).setFld pg Lch.CPL_HELD (if host then s.heldH else s.heldM).length

/-- A ring holds one entry more; event 0x1103 when it is full (R33). -/
def State.ringCount (s : State) (host : Bool) : State :=
  let s := if host then { s with usedH := min 4096 (s.usedH + 1) } else { s with usedM := min 4096 (s.usedM + 1) }
  if (if host then s.usedH else s.usedM) = 4096 then s.event 0x1103 else s

/-- Write a completion into its ring, set the slot DONE and signal it (R32, R33). -/
def State.cplWrite (s : State) (c : Cpl) : State :=
  let host := decide (c.slot < 2048)
  let pg := lchPage c.slot
  let idx := s.fld pg (Lch.CPL_PROD.sub 11 0)
  let ph := s.fld pg (Lch.CPL_PROD.sub 12 12)
  let s := { s with ring := tSet s.ring ((if host then 0 else 4096) + idx) { c with phase := ph == 1 } }
  let s := s.setFld pg Lch.CPL_PROD (if idx = 4095 then (1 - ph) * 4096 else idx + 1 + ph * 4096)
  let s := s.ringCount host
  let s := s.setSlot c.slot ((s.slot c.slot).withState 4)
  let s := s.lchSync host
  if c.irq && s.flag pg Lch.LCH_CTRL_IRQ_EN then
    s.emit (if host then .msix c.vector else .channel c.vector)
  else s

/-- A completion is decided (R32): counted, recorded when it is not OK, and written, or held in order while the
ring is full (R33). -/
def State.complete (s : State) (n status startAct lastDesc : Nat) (late : Bool) : State :=
  let x := s.slot n
  let host := decide (n < 2048)
  let c : Cpl := { status := status, late := late, slot := n, seq := x.seqTag, startAct := startAct, endTick := s.tick,
                   lastDesc := lastDesc, irq := x.irq, vector := x.vector }
  let s := if status = 0 then s else (s.bump (lchPage n) Lch.LCH_REJECT_CNT).event 0x1101 0 [(2, n)] x.near
  if host then
    if 4096 ≤ s.usedH || !s.heldH.isEmpty then ({ s with heldH := s.heldH ++ [c] }).lchSync true else s.cplWrite c
  else
    if 4096 ≤ s.usedM || !s.heldM.isEmpty then ({ s with heldM := s.heldM ++ [c] }).lchSync false else s.cplWrite c

/-- Write held completions while the ring has room (R33). -/
def State.releaseHeld (host : Bool) : Nat → State → State
  | 0, s => s
  | fuel + 1, s =>
    if host then
      match s.heldH with
      | c :: t => if s.usedH < 4096 then releaseHeld host fuel ((({ s with heldH := t }).cplWrite c)) else s
      | [] => s
    else
      match s.heldM with
      | c :: t => if s.usedM < 4096 then releaseHeld host fuel ((({ s with heldM := t }).cplWrite c)) else s
      | [] => s

/-! ### Contexts and partitions as registers hold them -/

/-- State of a partition (Table 12.7): 0 FREE … 5 RETIRED. -/
def State.partState (s : State) (p : Nat) : Nat := s.fld .part Par.PART_STATUS_STATE p

/-- Context fields (Table 12.8): state, generation and partition. -/
def State.ctxState (s : State) (c : Nat) : Nat := s.fld .ctx (Ctx.CTX_STATE.sub 1 0) c
def State.ctxGen (s : State) (c : Nat) : Nat := s.fld .ctx (Ctx.CTX_STATE.sub 15 8) c
def State.ctxPart (s : State) (c : Nat) : Nat := s.fld .ctx (Ctx.CTX_STATE.sub 27 16) c

def State.partX (s : State) (p : Nat) : PartX := tGet s.parts p
def State.modPartX (s : State) (p : Nat) (f : PartX → PartX) : State := { s with parts := tMod s.parts p f }

/-- The step counter of a partition (R35). -/
def State.stepOf (s : State) (p : Nat) : Nat := s.fld64 .stp Stp.STEP_COUNT_LO p

/-- The job seed of a partition (R77). -/
def State.seedOf (s : State) (p : Nat) : Nat :=
  s.fld64 .ari Ari.SEED_0 p + 2 ^ 64 * s.fld64 .ari Ari.SEED_2 p

/-- The digest key of a partition (R201, R216): it sits in the page of stack 0. -/
def State.digKey (s : State) (p : Nat) : Nat :=
  s.fld64 (.nmu 0) Nmu.DIG_KEY_0 p + 2 ^ 64 * s.fld64 (.nmu 0) Nmu.DIG_KEY_2 p

end Sys2Proof.Machine
end

