-- ==== Sys2Proof/Machine/Wire.lean ====
section
/-! DEFINITION. The flit on the wire (R222–R225, R238, R239): its 256 bytes, the code and payload of each type, the IV and the
additional data of its encryption, its CRC, and what a receiver reads of them. Byte 0 comes first, every field is little-endian. -/
namespace Sys2Proof.Machine

/-! ### Types and payloads (Table 8.3) -/

/-- TYPE of a payload (Table 8.3). -/
def Pay.code : Pay → Nat
  | .wr _ _ => 0x01
  | .rdReq _ _ _ => 0x02
  | .rdRsp _ _ _ => 0x03
  | .sig _ _ _ => 0x04
  | .ackE2e _ _ => 0x05
  | .collData _ _ => 0x06
  | .collCredit _ _ _ => 0x07
  | .collAbort _ _ _ => 0x08
  | .mgmt _ => 0x09
  | .resume _ _ _ => 0x0A
  | .idle => 0x10
  | .ack _ => 0x11
  | .nak _ => 0x12
  | .credit _ => 0x13
  | .heartbeat _ _ _ _ _ _ => 0x14
  | .yoyo _ => 0x15
  | .time _ => 0x16
  | .train _ => 0x17
  | .laneCtrl _ => 0x18

/-- Does a payload travel end to end? The codes of Table 8.3 up to RESUME; each has E = 1, every other type E = 0 (R225). -/
def Pay.e2e : Pay → Bool
  | .wr _ _ | .rdReq _ _ _ | .rdRsp _ _ _ | .sig _ _ _ | .ackE2e _ _ | .collData _ _ | .collCredit _ _ _
  | .collAbort _ _ _ | .mgmt _ | .resume _ _ _ => true
  | _ => false

/-- Table 8.3 gives a code a meaning; the others are reserved. -/
def typeKnown (c : Nat) : Bool := (decide (1 ≤ c) && decide (c ≤ 0x0A)) || (decide (0x10 ≤ c) && decide (c ≤ 0x18))

/-- A time of Table 11.1: seconds, ns and fraction, from a number of 2^−16 ns. -/
def timeBytes (t : Nat) : List Byte :=
  bytesLE 8 (t / 65536 / 1000000000) ++ bytesLE 4 (t / 65536 % 1000000000) ++ bytesLE 2 t

/-- The fields of a management message's header (Table 18.6). -/
structure MgHead where
  major : Nat := 1
  minor : Nat := 0
  type : Nat := 0
  rsp : Bool := false
  e : Bool := false
  local_ : Bool := false
  session : Nat := 0
  dest : Nat := 0
  seq : Nat := 0
  status : Nat := 0
  len : Nat := 0
  nctr : Nat := 0
  src : Nat := 0
  deriving DecidableEq, Repr, Inhabited

/-- The 32 bytes of the header. -/
def MgHead.bytes (h : MgHead) : List Byte :=
  bytesLE 1 h.major ++ bytesLE 1 h.minor ++ bytesLE 1 h.type ++ bytesLE 1 (bool01 h.rsp + 2 * bool01 h.e + 4 * bool01 h.local_)
    ++ bytesLE 2 h.session ++ bytesLE 2 h.dest ++ bytesLE 4 h.seq ++ bytesLE 4 (h.status % 65536 + h.len % 2048 * 65536)
    ++ bytesLE 8 (if h.e then h.nctr else 0) ++ bytesLE 2 h.src ++ bytesLE 6 0

/-- The fields that 32 bytes hold. -/
def mgHeadOf (w : List Byte) : MgHead :=
  let at_ := fun (o n : Nat) => natLE ((w.drop o).take n)
  { major := at_ 0 1, minor := at_ 1 1, type := at_ 2 1, rsp := bitAt (at_ 3 1) 0, e := bitAt (at_ 3 1) 1, local_ := bitAt (at_ 3 1) 2,
    session := at_ 4 2, dest := at_ 6 2, seq := at_ 8 4, status := at_ 12 2, len := at_ 14 2 % 2048, nctr := at_ 16 8, src := at_ 24 2 }

/-- The IV of a management frame (R516): NCTR, the sender's chip (0 for the fabric manager), 2 from the device or 3 from the fabric
manager, and 0. -/
def mgIv (nctr chip dir : Nat) : List Byte := bytesLE 8 nctr ++ bytesLE 2 chip ++ bytesLE 1 dir ++ [0]

/-- The body of a LINE_CLAIM (Table 12.2). -/
def lineBody (op cause tag chip part plane input line : Nat) : List Byte :=
  bytesLE 1 op ++ bytesLE 1 cause ++ bytesLE 2 tag ++ bytesLE 2 chip ++ bytesLE 2 part ++ bytesLE 2 plane ++ bytesLE 1 input
    ++ bytesLE 1 line ++ bytesLE 4 0

/-- The prefix of a READ or WRITE (R514). -/
def mgPrefix (addr space n : Nat) : List Byte := bytesLE 8 addr ++ bytesLE 1 space ++ bytesLE 3 0 ++ bytesLE 4 n

/-- TYPE and payload of a request (Table 18.7, R514). -/
def MgReq.payload : MgReq → Nat × List Byte
  | .read space addr n => (1, mgPrefix addr space n)
  | .write space addr data => (2, mgPrefix addr space data.length ++ data)
  | .close => (6, [])
  | .keepalive => (7, [])

/-- The READ or WRITE that a payload holds (R514); no other request is relayed. -/
def mgReqOf (type : Nat) (w : List Byte) : Option MgReq :=
  let addr := natLE (w.take 8)
  let space := natLE ((w.drop 8).take 1)
  let n := natLE ((w.drop 12).take 4)
  match type with
  | 1 => some (.read space addr n)
  | 2 => some (.write space addr ((w.drop 16).take n))
  | _ => none

/-- The pieces in which a message travels in MGMT flits: at most 208 of its bytes each (R517). -/
def mgPieces (w : List Byte) : List MgMsg :=
  let n := (w.length + 207) / 208
  (List.range n).map (fun k => .piece k n ((w.drop (208 * k)).take 208))

/-- The bytes of a management message (Tables 18.6 and 18.7). Of a continuity message R368 places OP, the partition and the step only;
its further fields stand as Config.flitFields gives them, and so do the 8 payload bytes beside the 208 of a relayed message's piece. -/
def MgMsg.bytes : MgMsg → List Byte
  | .line op cause tag chip part plane input ln =>
    ({ type := 8, len := 16 } : MgHead).bytes ++ lineBody op cause tag chip part plane input ln
  | .cont op part step f data =>
    let body := bytesLE 2 (op % 256) ++ bytesLE 2 part ++ bytesLE 4 0 ++ bytesLE 8 step ++ Config.flitFields (0x900 + op) f ++ data
    ({ type := 9, len := body.length } : MgHead).bytes ++ body
  | .piece k n data => (Config.flitFields 0x09 [k, n] ++ List.replicate 8 0).take 8 ++ data

/-- An entry of a YOYO (Table 12.4). -/
def YoyoEntry.bytes (e : YoyoEntry) : List Byte :=
  bytesLE 2 e.part ++ bytesLE 2 (e.state % 8 + bool01 e.pend * 8 + bool01 e.dpend * 16 + bool01 e.conflict * 32)
    ++ bytesLE 8 e.epoch ++ bytesLE 8 e.digest

/-- Entries of an ACK or NAK: the count, then bundle and SEQ of each. -/
def ackBytes (es : List (Nat × Nat)) : List Byte :=
  bytesLE 4 es.length ++ es.flatMap (fun e => bytesLE 4 (e.1 % 64 + e.2 % 65536 * 65536))

/-- A collective header's fields (R83, R132, R384), in the order in which the rules name them. -/
def CollHdr.fields (c : CollHdr) : List Nat :=
  [c.tag, c.kind, c.op, c.mode, c.fmtA, c.elems, c.n, c.base, c.rank, c.chunk, c.seg, c.phase] ++ c.absent

/-- The payload bytes in use (Table 8.3 and the tables that it names). The spec places no field of COLL_DATA, COLL_CREDIT, COLL_ABORT
and CREDIT: those stand as Config.flitFields gives them. -/
def Pay.bytes : Pay → List Byte
  | .wr a data => bytesLE 8 a ++ data
  | .rdReq a n tag => bytesLE 8 a ++ bytesLE 4 n ++ bytesLE 4 tag
  | .rdRsp tag st data => bytesLE 4 tag ++ bytesLE 4 st ++ data
  | .sig a v write => bytesLE 8 a ++ bytesLE 8 v ++ bytesLE 1 (bool01 write)
  | .ackE2e tag st => bytesLE 4 tag ++ bytesLE 4 st
  | .collData c data => Config.flitFields 0x06 c.fields ++ data
  | .collCredit tag rank n => Config.flitFields 0x07 [tag, rank, n]
  | .collAbort tag cause absent => Config.flitFields 0x08 (tag :: cause :: absent)
  | .mgmt m => m.bytes
  | .resume b q reply => bytesLE 8 (b % 64 + q % 65536 * 65536 + bool01 reply * 2 ^ 32)
  | .idle => []
  | .ack es | .nak es => ackBytes es
  | .credit cs => Config.flitFields 0x13 cs
  | .heartbeat chip port lane b tick q =>
    bytesLE 2 chip ++ bytesLE 1 port ++ bytesLE 1 lane ++ bytesLE 1 b ++ bytesLE 3 0 ++ bytesLE 8 tick ++ bytesLE 2 q
  | .yoyo y =>
    bytesLE 2 y.chip ++ bytesLE 1 y.bundle ++ bytesLE 1 y.entries.length ++ bytesLE 8 y.tick
      ++ bytesLE 1 (bool01 y.mark + 2 * bool01 y.ack) ++ bytesLE 2 y.markPart ++ bytesLE 1 0 ++ y.entries.flatMap YoyoEntry.bytes
  | .time t =>
    bytesLE 2 t.chip ++ bytesLE 1 t.port ++ bytesLE 1 t.lane
      ++ bytesLE 1 (bool01 t.synced + 2 * bool01 t.holdover + 4 * bool01 t.root + 8 * bool01 t.gmLocked) ++ bytesLE 1 t.hops
      ++ bytesLE 2 t.rootChip ++ bytesLE 2 (t.rootPrio % 256) ++ bytesLE 2 t.tseq ++ bytesLE 4 0 ++ timeBytes t.origin ++ bytesLE 2 0
      ++ bytesLE 8 (unsignedOf 64 t.corr) ++ timeBytes t.txTs ++ bytesLE 2 0 ++ timeBytes t.echoTs ++ bytesLE 2 0
      ++ bytesLE 8 t.echoRes ++ bytesLE 2 (unsignedOf 16 t.utcOfs) ++ bytesLE 2 (t.leap % 8) ++ bytesLE 8 t.gmId
  | .train t =>
    bytesLE 2 t.chip ++ bytesLE 1 t.port ++ bytesLE 1 t.lane ++ bytesLE 1 t.cls ++ bytesLE 1 t.majors
      ++ (List.range 8).flatMap (fun i => bytesLE 1 (t.minors.getD i 0)) ++ bytesLE 1 (bool01 t.spare) ++ bytesLE 1 (bool01 t.rxOk)
      ++ bytesLE 8 t.ts ++ bytesLE 8 t.echoTs ++ bytesLE 2 t.echoChip ++ bytesLE 1 t.echoPort ++ bytesLE 1 t.echoLane
  | .laneCtrl c =>
    bytesLE 8 (if c.op < 3 then
        c.op + c.bundle % 64 * 2 ^ 4 + c.port % 32 * 2 ^ 16 + c.lane % 16 * 2 ^ 21 + c.repl % 16 * 2 ^ 25 + c.eff % 65536 * 2 ^ 32
      else c.op % 16 + c.bundle % 64 * 2 ^ 4 + c.port % 32 * 2 ^ 16 + c.cause % 16 * 2 ^ 24)

/-! ### The 256 bytes (Table 8.2) -/

/-- The 216 bytes 24–239: the payload, and zeros behind it. -/
def Pay.field (p : Pay) : List Byte := (p.bytes ++ List.replicate 216 0).take 216

/-- LEN: payload bytes in use. -/
def Pay.len (p : Pay) : Nat := min p.bytes.length 216

/-- Bytes 0–7. -/
def Flit.word0 (f : Flit) : Nat :=
  f.h.dest % 2 ^ 16 + f.h.src % 2 ^ 16 * 2 ^ 16 + f.h.part % 2 ^ 12 * 2 ^ 32 + f.h.ctx % 2 ^ 13 * 2 ^ 44 + f.p.code * 2 ^ 57
    + f.h.kp % 2 * 2 ^ 62 + bool01 f.p.e2e * 2 ^ 63

/-- Bytes 8–15; bytes 10–15 may be rewritten at each hop. -/
def Flit.word1 (f : Flit) : Nat :=
  f.h.gen % 2 ^ 8 + f.p.len * 2 ^ 8 + f.h.seq % 2 ^ 16 * 2 ^ 16 + f.h.next % 2 ^ 16 * 2 ^ 32 + f.h.cls % 4 * 2 ^ 48
    + f.h.hops % 64 * 2 ^ 50 + bool01 f.h.det * 2 ^ 56 + bool01 f.h.mgt * 2 ^ 57 + f.h.vc % 2 * 2 ^ 58

/-- Bytes 0–23: the header and NCTR. -/
def Flit.head (f : Flit) : List Byte := bytesLE 8 f.word0 ++ bytesLE 8 f.word1 ++ bytesLE 8 (if f.p.e2e then f.h.nctr else 0)

/-- The additional authenticated data (R238): bytes 0–9, then bytes 16–23. -/
def aadOf (w : List Byte) : List Byte := w.take 10 ++ (w.drop 16).take 8

/-- The IV (R239): NCTR, SRC, the sending die and 0. -/
def FlitHdr.iv (h : FlitHdr) : List Byte := bytesLE 8 h.nctr ++ bytesLE 2 h.src ++ bytesLE 1 h.die ++ [0]

/-- Bytes 24–251 of a flit that is sealed with a link key (R238): ciphertext and the first 96 bits of the tag. -/
def Flit.sealWith (f : Flit) (key : List Byte) : List Byte :=
  let c := gcmSeal key f.h.iv (aadOf f.head) f.p.field
  c.1 ++ c.2.take 12

/-- Bytes 24–251 with E = 0: the payload, and no tag. -/
def Flit.clear (f : Flit) : List Byte := f.p.field ++ List.replicate 12 0

/-- A flit's bytes from its bytes 0–23 and 24–251: the CRC of a hop follows them (R223). -/
def withCrc (head rest : List Byte) : List Byte := head ++ rest ++ bytesLE 4 (crc32 (head ++ rest))

/-- The bytes of a flit that leaves this device. An end-to-end flit that it forwards keeps the ciphertext and tag with which it came;
one of its own is sealed with `key`. -/
def Flit.wire (f : Flit) (key : List Byte) : List Byte :=
  withCrc f.head (if !f.p.e2e then f.clear else if f.raw.isEmpty then f.sealWith key else (f.raw.drop 24).take 228)

/-! ### What a receiver reads -/

/-- The CRC of 256 received bytes matches (R223). -/
def crcMatches (w : List Byte) : Bool := crc32 (w.take 252) == natLE ((w.drop 252).take 4)

/-- TYPE of 256 received bytes. -/
def typeOf (w : List Byte) : Nat := bitsOf (natLE (w.take 8)) 61 57

/-- A flit passes R229 step 1: no uncorrectable codeword, a CRC that matches, and a TYPE that is not reserved, since a flit with a
reserved code is dropped and counted as a CRC error (R225). Bytes that no operand names are those that the sender formed. -/
def RxObs.crcOk (o : RxObs) : Bool :=
  o.fec && (match o.bytes with | none => true | some w => crcMatches w && typeKnown (typeOf w))

/-- The tag of received bytes matches under a link key (R238): 96 bits of it. -/
def tagMatches (key : List Byte) (h : FlitHdr) (w : List Byte) : Bool :=
  (gcmTag key h.iv (aadOf w) ((w.drop 24).take 216)).take 12 == (w.drop 240).take 12

/-! ### Management frames (R513, R516) -/

/-- The header of a response. -/
def MgRsp.head (r : MgRsp) : List Byte :=
  ({ type := r.rq.type, rsp := true, e := r.rq.e, local_ := r.rq.local_, session := r.rq.session, dest := r.rq.dest, seq := r.rq.seq,
     status := r.status, len := r.data.length, nctr := r.nctr, src := r.src } : MgHead).bytes

/-- The bytes of a response: header and payload, with E = 1 sealed under the key, and the 16-byte tag. -/
def MgRsp.wire (r : MgRsp) (key : List Byte) (chip : Nat) : List Byte :=
  if r.rq.e then
    let c := gcmSeal key (mgIv r.nctr chip 2) r.head r.data
    r.head ++ c.1 ++ c.2
  else r.head ++ r.data

/-- The header of a request frame with a TYPE and a payload of `len` bytes. -/
def MgHdr.head (h : MgHdr) (type len : Nat) : List Byte :=
  ({ major := h.major, minor := h.minor, type := type, e := h.e, local_ := h.local_, session := h.session, dest := h.dest, seq := h.seq,
     len := len, nctr := h.nctr } : MgHead).bytes

/-- The tag of received bytes matches under the management link key (R516). -/
def mgTagMatches (key : List Byte) (nctr : Nat) (w : List Byte) : Bool :=
  gcmTag key (mgIv nctr 0 3) (w.take 32) ((w.drop 32).take (w.length - 48)) == w.drop (w.length - 16)

/-- The bytes that an operand names are those of a frame with its header. -/
def MgHdr.fits (h : MgHdr) (type len : Nat) : Bool :=
  match h.bytes with
  | none => true
  | some w => w.length == 32 + len + (if h.e then 16 else 0) && w.take 32 == h.head type len

/-- What the response to a request frame takes from it; its payload is sealed where the request's was and a key is held. -/
def MgHdr.answer (h : MgHdr) (type : Nat) (keyed : Bool) : MgTo :=
  { port := h.port, session := h.session, seq := h.seq, type := type, e := h.e && keyed, local_ := h.local_, dest := h.dest }

/-- The bytes that an operand names are those of its flit: 256, and where they pass step 1 the header, and a payload sent in clear. -/
def RxObs.fits (o : RxObs) (f : Flit) : Bool :=
  match o.bytes with
  | none => true
  | some w => w.length == 256 && (!o.crcOk || (w.take 24 == f.head && (f.p.e2e || (w.drop 24).take 216 == f.p.field)))

end Sys2Proof.Machine
end

