-- ==== Sys2Proof/Machine/Rings.lean ====
section
/-! DEFINITION. Ring pairs: their registers and banks (R248, R252, R254, R276), the heater codes that hold them (R278, R279), and their
places in the steering sets (R267). -/
namespace Sys2Proof.Machine

/-! ### Ring pairs -/

/-- The page and bank of a ring: engine, and RING_SEL of port, ring and direction. -/
def ringEng (p : Nat) : Nat := (p - 8) / 8
def ringBank (p r dir : Nat) : Nat := (p - 8) % 8 + r * 16 + dir * 256

def State.ringF (s : State) (p r : Nat) (f : Fld) : Nat := s.fld (.rng (ringEng p)) f (ringBank p r 0)

/-- Write a field of both rings of a pair. -/
def State.setRingF (s : State) (p r : Nat) (f : Fld) (v : Nat) : State :=
  (s.setFld (.rng (ringEng p)) f v (ringBank p r 0)).setFld (.rng (ringEng p)) f v (ringBank p r 1)

def State.ringSt (s : State) (p r : Nat) : Nat := s.ringF p r Rng.RING_STATE_STATE
def State.ringX (s : State) (p r : Nat) : RingX := tGet s.rings (p * 16 + r)
def State.modRing (s : State) (p r : Nat) (f : RingX → RingX) : State :=
  { s with rings := tSet s.rings (p * 16 + r) (f (s.ringX p r)) }
def State.eng (s : State) (e : Nat) : EngX := tGet s.engs e
def State.modEng (s : State) (e : Nat) (f : EngX → EngX) : State := { s with engs := tSet s.engs e (f (s.eng e)) }

/-- The peer of a ring pair and the partition of its line. -/
def State.ringPeerChip (s : State) (p r : Nat) : Nat := s.ringF p r (Rng.RING_PEER.sub 15 0)
def State.ringPart (s : State) (p r : Nat) : Nat := s.ringF p r (Rng.RING_PEER.sub 27 16)

/-- Set the line of a pair: transmit line ℓ, receive line (32 − ℓ) mod 32 (R252). -/
def State.setRingLine (s : State) (p r l : Nat) : State :=
  (s.setFld (.rng (ringEng p)) Rng.RING_STATE_LINE l (ringBank p r 0)).setFld (.rng (ringEng p)) Rng.RING_STATE_LINE
    ((32 - l) % 32) (ringBank p r 1)

/-- Set the line of a pair at whose park position both rings are to stand: that of a SPARE entry (Table 9.5). -/
def State.setRingPark (s : State) (p r l : Nat) : State :=
  (s.setFld (.rng (ringEng p)) Rng.RING_STATE_LINE l (ringBank p r 0)).setFld (.rng (ringEng p)) Rng.RING_STATE_LINE l (ringBank p r 1)

/-- The lane that drives a ring pair, 15 for none. -/
def State.ringLane (s : State) (p r : Nat) : Nat := s.ringF p r Rng.RING_STATE_LANE

/-- The home pair of a lane. -/
def State.homeRing (s : State) (p n : Nat) : Option Nat := (List.range 12).find? (fun r => (s.ringX p r).home == some n)

/-- The optical ring pairs, port by port. -/
def allPairs : List (Nat × Nat) := (List.range 24).flatMap (fun i => (List.range 12).map (fun r => (i + 8, r)))

/-- The bank of a lane on the Kaleidoscope page (Table 9.12). -/
def kalBank (p n : Nat) : Nat := (p - 8) % 8 + n * 16

/-- A pair that stops meeting a condition of R267 leaves every steering set at once. -/
def State.steerDrop (s : State) (p r cause : Nat) : State :=
  if (List.range 8).any (fun n => bitAt (s.fld (.kal (ringEng p)) (Kal.KAL_LANE.sub 19 8) (kalBank p n)) r) then
    let s := s.each (List.range 8) (fun n s => s.setFld (.kal (ringEng p)) (Kal.KAL_LANE.sub (8 + r) (8 + r)) 0 (kalBank p n))
    s.event 0x4112 (srcPort p) [(1, p), (1, r), (2, cause)]
  else s

/-! ### Heater codes (R279, R280) -/

/-- The window register of a rings page and the bank of a ring. -/
def State.rngF (s : State) (p r dir : Nat) (f : Fld) : Nat := s.fld (.rng (ringEng p)) f (ringBank p r dir)
def State.setRng (s : State) (p r dir : Nat) (f : Fld) (v : Nat) : State :=
  s.setFld (.rng (ringEng p)) f v (ringBank p r dir)

/-- A heater table code: position and calibration point (R279). -/
def State.tblCode (s : State) (p r dir pos j : Nat) : Nat :=
  s.fld (.rng (ringEng p)) (Rng.TBL_DATA.sub 15 0) (ringBank p r dir + 512 * (pos + 64 * j))

/-- table_code of R279; the temperature is in steps of 0.1 °C. -/
def State.tableCode (s : State) (p r dir pos : Nat) (ofs : Int) : Nat :=
  let t := (s.eng (ringEng p)).temp
  let j := (min (max ((t - 250) / 200) 0) 3).toNat
  let c0 : Int := s.tblCode p r dir pos j
  let c1 : Int := s.tblCode p r dir pos (j + 1)
  let c := c0 + (2 * (c1 - c0) * (t - (250 + 200 * j)) + 200) / 400
  (min (max (c + ofs) 0) 65535).toNat

/-- The position a ring is at or moves to: lines 0–31, park positions 32–63. -/
def State.ringPos (s : State) (p r dir : Nat) : Nat :=
  let x := s.ringX p r
  let l := s.rngF p r dir Rng.RING_STATE_LINE
  let st := s.ringSt p r
  if st = 1 then (if x.goal = 7 || x.goal = 8 then 0 else if x.goal = 3 then l else 32 + l)
  else if st = 3 || st = 4 then l else 32 + l

def State.ofs (s : State) (p r dir : Nat) : Int := signedOf 16 (s.rngF p r dir (Rng.RING_OFS.sub 15 0))
def State.ofsCal (s : State) (p r dir : Nat) : Int := signedOf 16 (s.rngF p r dir (Rng.RING_OFS.sub 31 16))
def State.setOfs (s : State) (p r dir : Nat) (v : Int) : State := s.setRng p r dir (Rng.RING_OFS.sub 15 0) (unsignedOf 16 v)
def State.setOfsCal (s : State) (p r dir : Nat) (v : Int) : State := s.setRng p r dir (Rng.RING_OFS.sub 31 16) (unsignedOf 16 v)

def State.code (s : State) (p r dir : Nat) : Nat := s.rngF p r dir (Rng.RING_HEATER.sub 15 0)

/-- Table hold, no hold and the prediction of a ring (Table 10.1). -/
def State.hold (s : State) (p r dir : Nat) : State :=
  let st := s.ringSt p r
  let pos := s.ringPos p r dir
  let s := s.setRng p r dir (Rng.RING_PRED.sub 15 0) (s.tableCode p r dir pos (s.ofsCal p r dir))
  if st = 0 || st = 6 then s.setRng p r dir (Rng.RING_HEATER.sub 15 0) 0
  else if st = 4 then s
  else s.setRng p r dir (Rng.RING_HEATER.sub 15 0) (s.tableCode p r dir pos (s.ofs p r dir))

/-- Both rings of a pair take the hold of its state (Table 10.1). -/
def State.holdPair (s : State) (p r : Nat) : State := (s.hold p r 0).hold p r 1

/-- A pair that leaves ACTIVE keeps its codes: each ring's OFS becomes its code less the table's (R282). -/
def State.keepCodes (s : State) (p r : Nat) : State :=
  s.each [0, 1] (fun dir s => s.setOfs p r dir ((s.code p r dir : Int) - s.tableCode p r dir (s.ringPos p r dir) 0))

end Sys2Proof.Machine
end

