-- ==== Sys2Proof/Machine/LinkOps.lean ====
section
/-! DEFINITION. Links: lanes and their states (R232, R233), bundles (R220, R235, R236), routing (R242–R245), and the
sending of flits (R226, R227, R239). -/
namespace Sys2Proof.Machine

/-! ### Lanes -/

def copper (p : Nat) : Bool := decide (p < 8)
def laneIds (p : Nat) : List Nat := List.range (if p < 8 then 9 else 8)

def State.laneSt (s : State) (p n : Nat) : Nat := s.fld (.lan p) Lan.LANE_STATE_STATE n
def State.laneX (s : State) (p n : Nat) : LaneX := tGet s.lanes (p * 16 + n)
def State.modLane (s : State) (p n : Nat) (f : LaneX → LaneX) : State :=
  { s with lanes := tSet s.lanes (p * 16 + n) (f (s.laneX p n)) }
def State.setLaneSt (s : State) (p n v : Nat) : State :=
  (s.setFld (.lan p) Lan.LANE_STATE_STATE v n).modLane p n (fun x => { x with since := s.tick })

def State.bundle (s : State) (b : Nat) : Bundle := tGet s.bundles b
def State.setBundle (s : State) (b : Nat) (x : Bundle) : State := { s with bundles := tSet s.bundles b x }

/-- State of a bundle (Table 8.13): 0 DOWN, 1 UP, 2 DEAD. -/
def State.bndSt (s : State) (b : Nat) : Nat := s.fld .bnd (Bnd.BND_STATUS.sub 1 0) b
def State.bndPeer (s : State) (b : Nat) : Nat := s.fld .bnd (Bnd.BND_PEER.sub 15 0) b

def State.laneBundle (s : State) (p n : Nat) : Nat := s.fld (.lan p) Lan.LANE_STATE_BUNDLE n

/-- The ACTIVE lanes of a bundle, in its lane order (R220). -/
def State.bndLanes (s : State) (b : Nat) : List (Nat × Nat) :=
  (List.range 32).flatMap (fun p =>
    ((laneIds p).filter (fun n => s.laneSt p n == 2 && s.laneBundle p n == b)).map (fun n => (p, n)))

/-- Items of a lane event and of a bundle event (R246). -/
def laneItems (p n : Nat) (cause : Option Nat) : List Item :=
  [(1, p), (1, n)] ++ (match cause with | some c => [(2, c)] | none => [])
def State.bndItems (s : State) (b : Nat) : List Item := [(1, b), (2, s.bndPeer b)]

/-- Bring LNK_STATUS of a port up to date (Table 8.9). -/
def State.portSync (s : State) (p : Nat) : State :=
  let act := (laneIds p).filter (fun n => s.laneSt p n == 2)
  let used := (laneIds p).any (fun n => s.fld (.lan p) Lan.LANE_STATE_SERVES n != 15)
  let s := s.setFld (.lnk p) Lnk.LNK_STATUS_UP (bool01 (!act.isEmpty))
  let s := s.setFld (.lnk p) Lnk.LNK_STATUS_LANES act.length
  let s := s.setFld (.lnk p) Lnk.LNK_STATUS_SPARE_USED (bool01 used)
  let rtt := act.foldl (fun m n => max m (s.fld (.lan p) (Lan.LANE_RTT_NS.sub 15 0) n)) 0
  s.setFld (.lnk p) Lnk.RTT_NS (rtt + (min 65535 (rtt + 1000)) * 65536)

/-- Bring REPLAY_OCC of every port of a bundle up to date. -/
def State.replayOcc (s : State) : State :=
  s.each (List.range 32) (fun p s =>
    let n := (s.bundles.map (fun e => (e.2.unacked.filter (fun t => t.port == p)).length)).foldl (· + ·) 0
    s.setFld (.lnk p) Lnk.REPLAY_OCC n)

/-- BND_SEQ [31:16], the oldest unacknowledged SEQ. -/
def State.bndSeqSync (s : State) (b : Nat) : State :=
  let nxt := s.fld .bnd (Bnd.BND_SEQ.sub 15 0) b
  let old := match (s.bundle b).unacked with
    | t :: _ => t.f.h.seq
    | [] => nxt
  s.setFld .bnd (Bnd.BND_SEQ.sub 31 16) old b

/-! ### Ranks, peers and routes (R242–R245) -/

/-- The rank-table slot of a partition, where it holds one. -/
def State.rankSlot (s : State) (part : Nat) : Option Nat :=
  if s.partState part = 0 then none
  else
    let n := s.fld .part Par.PART_STATUS_SLOT part
    if s.fld .rt (Rt.RNK_SLOT_PART.sub 12 0) n = part + 4096 then some n else none

/-- The rank entries of a slot that are VALID: rank and chip, ascending. -/
def State.rankList (s : State) (slot : Nat) : List (Nat × Nat) :=
  (s.regs.filter (fun e => regAddr e.1 == Page.rt.base + 0x12C && regBank e.1 / 16384 == slot
    && bitAt e.2.toNat 16)).map (fun e => (regBank e.1 % 16384, e.2.toNat % 65536))

/-- (CHIP, PART) is fenced in the peer table (R243). -/
def State.fenced (s : State) (chip part : Nat) : Bool :=
  s.regs.any (fun e => regAddr e.1 == Page.rt.base + 0x134
    && e.2.toNat % 2 ^ 28 == chip + part * 65536 && bitAt e.2.toNat 28 && bitAt e.2.toNat 29)

/-- The chip of a rank of a partition, none where the descriptor faults with ROUTE (R242). -/
def State.rankChip (s : State) (part r : Nat) : Option Nat :=
  match s.rankSlot part with
  | none => none
  | some n =>
    let e := s.fld .rt Rt.RNK_DATA (n * 16384 + r % 16384)
    if bitAt e 16 && !s.fenced (e % 65536) part then some (e % 65536) else none

/-- The rank of this device in a partition: the lowest valid rank that names this chip. -/
def State.ownRank (s : State) (part : Nat) : Option Nat :=
  match s.rankSlot part with
  | none => none
  | some n => ((s.rankList n).find? (fun e => e.2 == s.chip)).map (·.1)

def State.frt (s : State) (chip : Nat) : Nat := s.fld64 .rt Rt.FRT_DATA_LO chip

def State.bndUp (s : State) (b : Nat) : Bool := s.bndSt b == 1

/-- table_choice of R245: the bundle, and whether the flit is routed by table from now on. -/
def State.tableChoice (s : State) (e : Nat) : Option (Nat × Bool) :=
  if bitAt e 6 && s.bndUp (bitsOf e 5 0) then some (bitsOf e 5 0, false)
  else if bitAt e 14 && s.bndUp (bitsOf e 13 8) then some (bitsOf e 13 8, true)
  else none

/-- A dimension of DIM_i: SIZE, WRAP, BPLUS, BMINUS. -/
def State.dimReg (s : State) (i : Nat) : Nat × Bool × Nat × Nat :=
  let v := s.fld .rt (Rt.DIM i)
  (v % 256, bitAt v 8, bitsOf v 14 9, bitsOf v 20 15)

/-- The dimension of the bundle a flit arrived on, 4 for none. -/
def State.dimOf (s : State) (b : Nat) : Nat :=
  ((List.range 4).find? (fun i => let d := s.dimReg i; d.2.2.1 == b || d.2.2.2 == b)).getD 4

/-- What routing answers: the bundle and the header as it leaves, and whether a DETOUR was taken. -/
structure Hop where
  b : Nat
  h : FlitHdr
  detour : Bool := false

def State.routeDims (s : State) (h : FlitHdr) (e me inDim : Nat) : List Nat → Option Hop
  | [] => none
  | i :: t =>
    let (size, wrap, bp, bm) := s.dimReg i
    let ci := bitsOf e (23 + 8 * i) (16 + 8 * i)
    let mi := bitsOf me (23 + 8 * i) (16 + 8 * i)
    let d : Int := (ci : Int) - mi
    let d := if wrap then
        let m := d % (size : Int)
        if (size : Int) / 2 < m then m - size else m
      else d
    if d = 0 then s.routeDims h e me inDim t
    else
      let b := if 0 < d then bp else bm
      let h := if i ≠ inDim then { h with vc := 0 } else h
      if s.bndUp b then
        let cross := wrap && ((decide (0 < d) && mi + 1 == size) || (decide (d < 0) && mi == 0))
        some { b := b, h := if cross then { h with vc := 1 } else h }
      else match s.tableChoice e with
      | some (b, dt) => some { b := b, h := { h with det := true }, detour := dt }
      | none => none

/-- route(f) of R245; `inB` is the bundle the flit arrived on. -/
def State.route (s : State) (h : FlitHdr) (inB : Option Nat) : Option Hop :=
  let e := s.frt h.dest
  let me := s.frt s.chip
  if h.mgt || h.det || s.fld .rt (Rt.RT_CTRL.sub 0 0) = 1 || !bitAt e 48 || !bitAt me 48 then
    match s.tableChoice e with
    | some (b, dt) => some { b := b, h := if dt then { h with det := true } else h, detour := dt }
    | none => none
  else
    let inDim := match inB with | some b => s.dimOf b | none => 4
    s.routeDims h e me inDim (List.range (s.fld .rt (Rt.RT_CTRL.sub 2 1) + 1))

/-- A bundle lies in the mask of a partition (R342). -/
def State.inMask (s : State) (part b : Nat) : Bool := part == 0 || bitAt (s.fld64 .part Par.PART_BND_LO part) b

/-- A flit of the partition to a chip leaves on a bundle in its mask (R342), or meets no route. -/
def State.maskOk (s : State) (part chip : Nat) : Bool :=
  chip == s.chip || (match s.route { dest := chip, src := s.chip, part := part } none with
    | some hop => s.inMask part hop.b
    | none => true)

/-- A chip holds some rank of the partition (R103), and the route to it lies in the partition's mask (R342). -/
def State.reached (s : State) (part chip : Nat) : Bool :=
  match s.rankSlot part with
  | none => false
  | some n => (s.rankList n).any (fun e => e.2 == chip) && !s.fenced chip part && s.maskOk part chip

/-- A dropped flit's event (R342, R349), once in a tick: cause 1 PART, 2 CTX, 3 GEN, 4 BND. -/
def State.dropNote (s : State) (cause : Nat) : State :=
  if s.dropTick = s.tick + 1 then s else ({ s with dropTick := s.tick + 1 }).event 0x6103 0 [(2, cause)]

/-- A flit with no route (R245). -/
def State.noroute_ (s : State) : State :=
  let s := s.bump .rt Rt.NOROUTE_CNT
  if s.noroute = s.tick + 1 then s else ({ s with noroute := s.tick + 1 }).event 0x3122

/-- Put a flit into the queue of a bundle, behind every flit that waits on this device. -/
def State.enqueue (s : State) (b : Nat) (f : Flit) : State :=
  let x := s.bundle b
  ({ s with plan := { s.plan with queued := s.plan.queued + 1 } }).setBundle b { x with wait := x.wait ++ [(f, s.plan.queued)] }

/-- Route a flit out of this device (R245, R342): hop count, mask and queue. -/
def State.routeOut (s : State) (f : Flit) (inB : Option Nat) : State :=
  match s.route f.h inB with
  | none => s.noroute_
  | some hop =>
    let part := f.h.part
    if part ≠ 0 && (s.partState part = 0 || s.partState part = 5) then (s.bump .part Par.DROP_PART).dropNote 1
    else if !s.inMask part hop.b then (s.bump .part Par.DROP_BND).dropNote 4
    else if f.h.hops + 1 = 63 then (s.bump .rt Rt.HOPLIMIT_CNT).event 0x3123
    else
      let s := if hop.detour then s.bump .rt Rt.DETOUR_CNT else s
      s.enqueue hop.b { f with h := { hop.h with hops := f.h.hops + 1, next := s.bndPeer hop.b } }

/-! ### Sending end-to-end flits (R226, R238–R240) -/

/-- The bank of a key slot on the crypto page: partition, or the management key, and phase (Table 8.11). -/
def keyBank (part phase : Nat) : Nat := if part = 0 then 8192 + phase * 4096 else part + phase * 4096

/-- A key is installed in a phase. -/
def State.keyIn (s : State) (part phase : Nat) : Bool := s.fld (.cry 0) (Cry.KEY_STATUS.sub 0 0) (keyBank part phase) == 1

/-- The phase used to send. -/
def State.txPhase (s : State) (part : Nat) : Nat := s.fld (.cry 0) (Cry.TX_PHASE.sub 0 0) (keyBank part 0)

/-- The link key of a key slot and phase, 32 bytes. -/
def State.linkKey (s : State) (part phase : Nat) : List Byte := bytesLE 32 (smGet (fun _ => 0) s.keys (keyBank part phase))

/-- The 256 bytes of a flit that this device puts on a lane (R222, R223, R238). -/
def State.wire (s : State) (f : Flit) : List Byte := f.wire (s.linkKey f.h.part f.h.kp)

/-- The tag of an arrived end-to-end flit matches under the key of its partition in phase KP (R238, R241). A flit of which no bytes are
known came as its sender sealed it. -/
def State.tagOk (s : State) (f : Flit) : Bool :=
  s.keyIn f.h.part f.h.kp && (f.raw.isEmpty || tagMatches (s.linkKey f.h.part f.h.kp) f.h f.raw)

/-- Take the next nonce counter of a key slot, phase and die (R239). -/
def State.takeNctr (s : State) (part phase die : Nat) : State × Nat :=
  let k := keyBank part phase + die * 16384
  let n := s.fld64 (.cry 0) Cry.NCTR_LO k
  (s.setFld64 (.cry 0) Cry.NCTR_LO (n + 1) k, n)

/-- Send an end-to-end flit; the number is its nonce counter, which tags WR and SIG groups. -/
def State.sendE2e (s : State) (dest part ctx gen cls die : Nat) (p : Pay) (mgt : Bool := false) : State × Nat :=
  let ph := s.txPhase part
  let (s, n) := s.takeNctr part ph die
  let h : FlitHdr := { dest := dest, src := s.chip, part := part, ctx := ctx, gen := gen, kp := ph, cls := cls,
                       mgt := mgt, nctr := n, die := die }
  (s.routeOut { h := h, p := p } none, n)

/-- Send a management-transport message to a chip (R238, R368): MGT = 1, partition 0. -/
def State.sendMg (s : State) (dest : Nat) (m : MgMsg) : State := (s.sendE2e dest 0 0 0 0 0 (.mgmt m) true).1

/-- The management link key, in its phase, is installed (R240, R516). -/
def State.mgKeyed (s : State) : Bool := s.keyIn 0 (s.txPhase 0)

/-- The response that this device forms: with E = 1 the next nonce counter of the key's phase is its own (R516). -/
def State.mgRsp (s : State) (rq : MgTo) (status src : Nat) (data : List Byte) : MgRsp :=
  { rq := rq, status := status, src := src, data := data, kp := if rq.e then s.txPhase 0 else 0,
    nctr := if rq.e then tGet s.mg.nctr (s.txPhase 0) else 0 }

/-- The bytes of a response's datagram (R513, R516). -/
def State.mgWire (s : State) (r : MgRsp) : List Byte := r.wire (s.linkKey 0 r.kp) s.chip

/-- A nonce counter of the management key is used up (R516). -/
def State.mgCount (s : State) (rq : MgTo) : State :=
  if rq.e then { s with mg := { s.mg with nctr := tSet s.mg.nctr (s.txPhase 0) (tGet s.mg.nctr (s.txPhase 0) + 1) } } else s

/-- A management response leaves by the port at which the request came. -/
def State.mgSend (s : State) (rq : MgTo) (status src : Nat) (data : List Byte) : State :=
  ((s.mgCount rq).emit (.mgmtRsp (s.mgRsp rq status src data))).bump .mgt Mgt.TX_CNT

/-- The response of a session's request is kept among its last 64 and sent (R515). -/
def State.mgAnswer (s : State) (rq : MgTo) (status src : Nat) (data : List Byte) : State :=
  let x := tGet s.sess rq.session
  let x' := { x with cache := ((rq.seq, status, src, data) :: x.cache.filter (fun e => e.1 != rq.seq)).take 64 }
  let s := if x.open_ then { s with sess := tSet s.sess rq.session x' } else s
  s.mgSend rq status src data

/-- A message goes to another device in consecutive MGMT flits (R517). -/
def State.mgCarry (s : State) (dest : Nat) (h : MgHead) (payload : List Byte) : State :=
  s.each (mgPieces (({ h with len := payload.length } : MgHead).bytes ++ payload)) (fun m s => s.sendMg dest m)

/-- Send a link-local sequenced flit on a bundle. -/
def State.sendBundle (s : State) (b : Nat) (p : Pay) : State :=
  s.enqueue b { h := { src := s.chip, next := s.bndPeer b, dest := s.bndPeer b }, p := p }

/-! ### Bundles up and down (R236) -/

/-- Start resumption (R236 step 1). Flits above the reported SEQ that wait in the reorder window come again by another path, and are
dropped here, so that none is delivered twice. -/
def State.startResume (s : State) (b : Nat) : State :=
  let x := s.bundle b
  let s := s.setBundle b { x with resumeSent := true, resumeWait := true, reorder := [] }
  (s.sendE2e (s.bndPeer b) 0 0 0 0 0 (.resume b ((x.rxNext + 65535) % 65536) false) true).1

/-- A bundle that was UP goes DOWN (0) or DEAD (2). -/
def State.bundleStop (s : State) (b st : Nat) : State :=
  if s.bndUp b then
    let s := s.setFld .bnd (Bnd.BND_STATUS.sub 1 0) st b
    let s := s.event (if st = 0 then 0x3111 else 0x3112) 0 (s.bndItems b)
    let s := s.each allPairs (fun e s => if s.ringF e.1 e.2 Rng.RING_STATE_BUNDLE = b then s.steerDrop e.1 e.2 3 else s)
    s.startResume b
  else s

/-- A valid flit of the peer has arrived on a bundle (Table 8.13). -/
def State.heard (s : State) (b : Nat) : State := s.setFld64 .bnd Bnd.BND_HEARD_LO s.tick b

/-- The protocol version that training negotiates with a peer of major 1 (R234): VER_MAJ, and VER_MIN × 256. -/
def linkVer : Nat := 1

/-- A trained optical ring pair on its line belongs to the bundle: its peer. -/
def State.ringPeer (s : State) (b : Nat) : Option Nat :=
  if b < 8 then none
  else (s.regs.find? (fun e =>
    regAddr e.1 % 4096 == 0x104 && decide (0x03800000 ≤ regAddr e.1) && regAddr e.1 % 65536 / 4096 == 2 && decide (regBank e.1 < 256)
      && bitAt e.2.toNat 9 && (bitsOf e.2.toNat 2 0 == 3 || bitsOf e.2.toNat 2 0 == 4) && bitsOf e.2.toNat 21 16 == b)).map
    (fun e => (s.reg (e.1 + 64 * 4)).toNat % 65536)

/-- Bring a bundle up to date with its lanes and trained ring pairs (R236): UP at the first lane, DOWN when the last has left; a DEAD
bundle is UP again once it has heard its peer within 20 ticks. -/
def State.bundleSync (s : State) (b : Nat) : State :=
  let l := s.bndLanes b
  let s := s.setFld .bnd (Bnd.BND_STATUS.sub 7 3) (min l.length 31) b
  let rtt := l.foldl (fun m e => max m (s.fld (.lan e.1) (Lan.LANE_RTT_NS.sub 15 0) e.2)) 0
  let skew := l.foldl (fun m e => max m (s.fld (.lan e.1) (Lan.LANE_RTT_NS.sub 31 16) e.2)) 0
  let s := s.setFld .bnd Bnd.BND_RTT_NS (rtt + skew * 65536) b
  let peer := match l with
    | (p, n) :: _ => some (s.fld (.lan p) (Lan.LANE_PEER.sub 15 0) n)
    | [] => s.ringPeer b
  match peer with
  | none => s.bundleStop b 0
  | some c =>
    if s.bndUp b || (s.bndSt b = 2 && s.fld64 .bnd Bnd.BND_HEARD_LO b + 20 ≤ s.tick) then s
    else
      let s := s.setBundle b { s.bundle b with got := [], used := [], resumeSent := false, resumeWait := false }
      let s := s.setFld .bnd (Bnd.BND_STATUS.sub 1 0) 1 b
      let s := s.setFld .bnd (Bnd.BND_STATUS.sub 2 2) (if b < 8 then 0 else 1) b
      let s := s.setFld .bnd (Bnd.BND_STATUS.sub 23 8) linkVer b
      let s := (s.setFld .bnd Bnd.BND_PEER c b).heard b
      s.event 0x3110 0 (s.bndItems b)

/-! ### Failure of a lane pair (R232, R233, R235) -/

/-- Flits of a bundle outstanding on a lane are to be replayed (R235): go-back-N from the first of them. -/
def State.replayOn (s : State) (b p n : Nat) : State :=
  let x := s.bundle b
  match x.unacked.findIdx? (fun t => t.via == p && t.lane == n) with
  | some i =>
    s.setBundle b { x with unacked := x.unacked.zipIdx.map (fun e => if i ≤ e.2 then { e.1 with resend := true } else e.1) }
  | none => s

/-- Flits outstanding on a lane that leaves are to be replayed. -/
def State.replayLane (s : State) (p n : Nat) : State := s.each (s.bundles.map (·.1)) (fun b s => s.replayOn b p n)

/-- Record a failure: FAIL_CNT, the strikes within THR_WINDOW, and FAILED, QUARANTINED or DISABLED (Table 8.6); the lane serves in no
other lane's place any longer. -/
def State.laneStrike (s : State) (p n : Nat) : State :=
  let thr := s.fld (.lan p) Lan.THR_STRIKES
  let now := s.tick
  let x := s.laneX p n
  let st := now :: x.strikeAt.filter (fun t => decide (now < t + thr / 65536))
  let s := s.bump (.lan p) Lan.FAIL_CNT n
  let s := s.modLane p n (fun x => { x with strikeAt := st, step := 0, rxOk := false })
  let s := s.setFld (.lan p) Lan.LANE_STATE_SERVES 15 n
  let s := s.setFld (.lan p) Lan.LANE_STATE_STRIKES (min 15 st.length) n
  if thr % 16 ≤ st.length then
    let q := s.fld (.lan p) Lan.LANE_STATE_QLEVEL n
    if q < 6 then
      let s := s.setFld (.lan p) Lan.LANE_STATE_QLEVEL (q + 1) n
      let s := s.setFld64 (.lan p) Lan.QUAR_END_LO (now + s.fld (.lan p) Lan.THR_QUAR * 2 ^ q) n
      (s.setLaneSt p n 5).event 0x3103 (srcPort p n) (laneItems p n none)
    else (s.setLaneSt p n 6).event 0x3104 (srcPort p n) (laneItems p n none)
  else s.setLaneSt p n 4

/-- The place that a lane serves: another lane's, or its own. -/
def State.placeOf (s : State) (p n : Nat) : Nat :=
  let v := s.fld (.lan p) Lan.LANE_STATE_SERVES n
  if v = 15 then n else v

/-- The port is in a re-cable (R261), or comes up under its record with the same timing (R260). -/
def State.settling (s : State) (p : Nat) : Bool := s.plan.recabling || (tGet s.ports p).due || (tGet s.ports p).own

/-- The remaining lanes of an optical port with fewer than 4 ACTIVE lanes leave (R235). In a re-cable the lanes of unchanged pairs go on
(R261), and the count is taken at its end (R262). -/
def State.opticalDown (s : State) (p : Nat) : State :=
  let act := (laneIds p).filter (fun n => s.laneSt p n == 2)
  if !copper p && !s.settling p && !act.isEmpty && act.length < 4 then
    let s := s.each act (fun n s =>
      let b := s.laneBundle p n
      let s := (s.setLaneSt p n 4).replayLane p n
      let s := if (s.bndLanes b).isEmpty then s else
        s.sendBundle b (.laneCtrl { op := 1, bundle := b, port := p, lane := n, eff := s.fld .bnd (Bnd.BND_SEQ.sub 15 0) b })
      s.bundleSync b)
    (s.event 0x3113 (srcPort p) [(1, p)]).portSync p
  else s

/-- A lane pair leaves its bundle (R235). -/
def State.laneLeave (s : State) (p n : Nat) (tell : Bool) : State :=
  let b := s.laneBundle p n
  let s := s.replayLane p n
  let s := if tell && !(s.bndLanes b).isEmpty then
      s.sendBundle b (.laneCtrl { op := 1, bundle := b, port := p, lane := n, eff := s.fld .bnd (Bnd.BND_SEQ.sub 15 0) b })
    else s
  ((s.bundleSync b).portSync p).opticalDown p

/-- The SPARE lane `q` takes the place in which the failed lane served (R233). -/
def State.spareTakes (s : State) (p n q place : Nat) : State :=
  let b := s.laneBundle p n
  let s := s.setFld (.lan p) Lan.LANE_STATE_SERVES (if place = q then 15 else place) q
  let s := s.setFld (.lan p) Lan.LANE_STATE_BUNDLE b q
  let since := (s.laneX p q).since
  let s := ((s.setLaneSt p q 2).modLane p q (fun x => { x with since := since })).replayLane p n
  let s := s.event 0x3105 (srcPort p q) (laneItems p q none)
  (s.bundleSync b).portSync p

/-- Causes of 0x3101 and 0x3106, numbered in the order of Table 8.8. -/
def causeLos : Nat := 1
def causeUnc : Nat := 2
def causeSym : Nat := 3
def causeIdent : Nat := 4
def causeOptical : Nat := 5

/-- A SPARE lane of a copper port, which can take the place of lane `n`. -/
def State.spareFor (s : State) (p n : Nat) : Option Nat :=
  if copper p then (laneIds p).find? (fun q => q != n && s.laneSt p q == 3) else none

/-- A lane pair fails (R232, Table 8.6), and a SPARE lane takes its place where one is given; `tell` says that this side detected it. A
cause that only the other side knows is 0. -/
def State.laneFailTo (s : State) (p n cause : Nat) (spare : Option Nat) (tell : Bool) : State :=
  let st := s.laneSt p n
  if st ≠ 2 && st ≠ 3 then s
  else
    let s := s.event 0x3101 (srcPort p n) (laneItems p n (if cause = 0 then none else some cause))
    let b := s.laneBundle p n
    let place := s.placeOf p n
    let s := s.laneStrike p n
    if st = 3 then s.portSync p
    else match spare with
    | some q =>
      let s := if tell then
          s.sendBundle b (.laneCtrl { op := 2, bundle := b, port := p, lane := n, repl := q,
                                      eff := s.fld .bnd (Bnd.BND_SEQ.sub 15 0) b })
        else s
      s.spareTakes p n q place
    | none => (s.laneLeave p n tell)

/-- A lane pair fails; an ACTIVE copper lane is replaced by a SPARE lane of its port where there is one. -/
def State.laneFail (s : State) (p n cause : Nat) (tell : Bool := true) : State :=
  s.laneFailTo p n cause (if s.laneSt p n = 2 then s.spareFor p n else none) tell

/-- Training of a lane pair fails (R234, Table 8.6). -/
def State.trainFail (s : State) (p n cause : Nat) (noMajor : Bool := false) : State :=
  let s := s.event 0x3106 (srcPort p n) (laneItems p n (some cause))
  let s := if cause = 2 then s.event 0x3107 (srcPort p n) (laneItems p n none)
    else if noMajor then s.event 0x3108 (srcPort p n) (laneItems p n none) else s
  (s.laneStrike p n).portSync p

/-- A lane pair enters TRAINING (R234), unless the module has no chip number (R522); an optical lane starts with its ring locked, and
trains anew with the pair whose home it is. -/
def State.startTraining (s : State) (p n : Nat) : State :=
  if !s.flag .glb Glb.CHIP_ID_VALID then s
  else
    let s := (s.setLaneSt p n 1).modLane p n (fun x => { x with step := if p < 8 then 1 else 2, rxOk := false })
    if copper p then s
    else match s.homeRing p n with
    | some r =>
      if s.ringF p r Rng.RING_STATE_TRAINED = 1 then
        ((s.setRingF p r Rng.RING_STATE_TRAINED 0).steerDrop p r 2).modRing p r (fun x => { x with step := 2 })
      else s
    | none => s

/-- The chip at which a copper port ends: its trained peer, while the port is enabled (R220, Table 8.9). -/
def State.copperPeer (s : State) (p : Nat) : Option Nat :=
  if s.flag (.lnk p) Lnk.LNK_CTRL_EN && s.fld (.lnk p) Lnk.LNK_STATUS_VER_MAJ != 0 then some (s.fld (.lnk p) (Lnk.PEER_ID.sub 15 0)) else none

/-- A chip is cabled to a copper port, and is then reached only through copper (R220). -/
def State.copperCabled (s : State) (c : Nat) : Bool := (List.range 8).any (fun q => s.copperPeer q == some c)

/-! ### Replay (R230, R231) -/

/-- Distance from `a` forward to `b` among SEQs. -/
def seqDist (a b : Nat) : Nat := (b + 65536 - a % 65536) % 65536

/-- Acknowledge every SEQ of a bundle up to `q`. -/
def State.ackUpTo (s : State) (b q : Nat) : State :=
  let x := s.bundle b
  let keep := x.unacked.filter (fun t => !decide (seqDist t.f.h.seq q < 32768))
  ((s.setBundle b { x with unacked := keep }).bndSeqSync b).replayOcc

/-- Replay from SEQ `q`, go-back-N (R230): every flit from it on is to be sent again, in SEQ order. -/
def State.replayFrom (s : State) (b q : Nat) : State :=
  let x := s.bundle b
  match x.unacked.findIdx? (fun t => t.f.h.seq == q) with
  | none => s
  | some i =>
    let port := match x.unacked[i]? with | some t => t.port | none => 0
    let s := s.setBundle b { x with unacked := x.unacked.zipIdx.map (fun e => if i ≤ e.2 then { e.1 with resend := true } else e.1) }
    (s.bump (.lnk port) Lnk.REPLAY_CNT).bump .bnd Bnd.BND_REPLAY_CNT b

/-- A SEQ of a bundle has been replayed (R231): after 16 replays without the acknowledged SEQ passing it the bundle goes DOWN. -/
def State.replayed (s : State) (b times : Nat) : State :=
  if 16 ≤ times && s.bndUp b then (s.event 0x3114 0 (s.bndItems b)).bundleStop b 0 else s

/-! ### Shadow writes by scope (R352) -/

/-- The scope of an RWE register: a partition, or 0 for the device (Table 12.3). -/
def State.scopeOf (s : State) (key : Nat) : Nat :=
  let a := regAddr key
  let bank := regBank key
  let pg := a / 4096 * 4096
  if pg = Page.ari.base || pg = (Page.nmu 0).base || pg = Page.part.base || pg = Page.ct.base then bank % 4096
  else if pg = (Page.cry 0).base then (if bank / 8192 % 2 = 1 then 0 else bank % 4096)
  else if a = Page.rt.base + 0x124 then s.fld .rt (Rt.RNK_SLOT_PART.sub 11 0) (bank % 32)
  else if a = Page.rt.base + 0x12C then s.fld .rt (Rt.RNK_SLOT_PART.sub 11 0) (bank / 16384 % 32)
  else 0

/-- A write of a job-scope field whose scope cannot take it sets EP_STATE (R352, R242). -/
def State.epState (s : State) : State := s.setErr .ep 0

/-- A write of a job-scope RWE register of a partition: to the shadow, or dropped (R352). -/
def State.jobWrite (s : State) (part key : Nat) (v : Word) : State :=
  if part = 0 || s.partState part = 0 || s.partState part = 5 then s.epState else s.setShReg key v

end Sys2Proof.Machine
end

