-- ==== Sys2Proof/Machine/Operands.lean ====
section
/-! DEFINITION. Operand forms: the format byte (R51), packing groups (R45, R46), dense arrays in memory, and the
conversion of whole arrays (R53, R62). -/
namespace Sys2Proof.Machine

/-! ### Format bytes (Table 2.4) -/

def fmtCode (f : Nat) : Nat := f % 16
def fmtBS (f : Nat) : Bool := bitAt f 4
def fmtSat (f : Nat) : Bool := bitAt f 5
def fmtRnd (f : Nat) : Nat := f / 64 % 4

/-- Codes that may be block-scaled (R47). -/
def codeScales (c : Nat) : Bool := (decide (3 ≤ c) && decide (c ≤ 9)) || c == 11

/-- A format byte that a source may carry (R52). -/
def srcFmtOk (f : Nat) : Bool :=
  decide (f < 32) && decide (fmtCode f ≤ 11) && (!fmtBS f || codeScales (fmtCode f))

/-- A format byte that a destination may carry; `quant` says that it must be block-scaled (R52). -/
def dstFmtOk (quant : Bool) (f : Nat) : Bool :=
  decide (f < 256) && decide (fmtCode f ≤ 11) && (fmtBS f == quant) && (!fmtBS f || codeScales (fmtCode f))
    && decide (fmtRnd f ≤ 1) && !(fmtRnd f == 1 && fmtCode f == 10)

/-- Codes 0–9 and 11. -/
def valueCode (c : Nat) : Bool := decide (c ≤ 9) || c == 11

/-! ### Packing (Table 2.2): elements lie bit after bit, least significant first -/

/-- Bytes that `n` elements of code `c` occupy. -/
def packedBytes (c n : Nat) : Nat := (n * fmtWidth c + 7) / 8

/-- Pack element bits, group after group. -/
def packElems (c : Nat) : Nat → List Nat → List Byte
  | 0, _ => []
  | fuel + 1, l =>
    if l.isEmpty then []
    else
      let g := l.take (fmtGroup c)
      let v := (g.zipIdx).foldl (fun acc p => acc + p.1 % 2 ^ fmtWidth c * 2 ^ (fmtWidth c * p.2)) 0
      bytesLE (packedBytes c g.length) v ++ packElems c fuel (l.drop (fmtGroup c))

/-- The elements of one packing group. -/
def unpackGroup (c : Nat) (bs : List Byte) : List Nat :=
  let v := natLE bs
  (List.range (fmtGroup c)).map (fun i => v / 2 ^ (fmtWidth c * i) % 2 ^ fmtWidth c)

/-- The elements that bytes hold, group after group. -/
def unpackGroups (c : Nat) : Nat → List Byte → List Nat
  | 0, _ => []
  | fuel + 1, bs =>
    if bs.isEmpty then [] else unpackGroup c (bs.take (fmtGroupBytes c)) ++ unpackGroups c fuel (bs.drop (fmtGroupBytes c))

/-- The first `n` elements that bytes hold. -/
def unpackElems (c n : Nat) (bs : List Byte) : List Nat := (unpackGroups c bs.length bs).take n

/-! ### Dense arrays in memory -/

/-- Chunks of a byte range that end at line boundaries. -/
def chunksOf : Nat → Nat → Nat → List (Nat × Nat)
  | 0, _, _ => []
  | fuel + 1, a, n =>
    if n = 0 then [] else
      let w := min n (64 - a % 64)
      (a, w) :: chunksOf fuel (a + w) (n - w)

/-- Read bytes line by line up to the first bus error: the bytes read before it, and whether all were read (R195). -/
def State.readUpTo (s : State) (a n : Nat) (ctx : Option (Nat × Nat)) : State × List Byte × Bool :=
  (chunksOf (n / 64 + 2) a n).foldl (fun (acc : State × List Byte × Bool) p =>
    if !acc.2.2 then acc
    else match acc.1.readMem p.1 p.2 ctx with
    | (s', some b) => (s', acc.2.1 ++ b, true)
    | (s', none) => (s', acc.2.1, false)) (s, [], true)

/-- Read `n` dense elements of code `c`: those before the first bus error, and whether all were read. -/
def State.readDense (s : State) (a c n : Nat) (ctx : Option (Nat × Nat)) : State × List Nat × Bool :=
  let (s, b, ok) := s.readUpTo a (packedBytes c n) ctx
  let m := if ok then n else b.length * 8 / fmtWidth c / fmtGroup c * fmtGroup c
  (s, unpackElems c (min n m) b, ok)

/-- Dense elements of code `c` as they are written at an address; a last byte that is filled only in part keeps its other bits. -/
def State.denseBytes (s : State) (a c : Nat) (l : List Nat) : List Byte :=
  let bits := l.length * fmtWidth c
  let b := packElems c l.length l
  if bits % 8 = 0 then b
  else
    let n := b.length - 1
    let keep := (s.peek (a + n)).toNat / 2 ^ (bits % 8) * 2 ^ (bits % 8)
    b.take n ++ (b.drop n).map (fun x => BitVec.ofNat 8 (x.toNat + keep))

/-! ### Conversion of arrays -/

/-- The flags that conversions collect, and the number of invalid elements (R65). -/
structure Flags where
  inv : Bool := false
  sat : Bool := false
  invCnt : Nat := 0
  deriving DecidableEq, Repr, Inhabited

def Flags.join (a b : Flags) : Flags := ⟨a.inv || b.inv, a.sat || b.sat, a.invCnt + b.invCnt⟩

/-- Flags of one conversion, whose source read a reserved pattern or not. -/
def Flags.ofCv (c : Cv) (rsvd : Bool) : Flags := ⟨c.inv || rsvd, c.sat, bool01 (c.inv || rsvd)⟩

/-- The rounding of element `e` of a destination with format byte `f` (R54, R76–R78). -/
def rndOf (f seed step tensor e : Nat) : Rnd :=
  if fmtRnd f = 1 then .draw (nymitDraw seed step tensor e) else .rne

/-- Decode elements with their scales: element `i` of block `i / 32`. -/
def decodeArray (f : Nat) (l scales : List Nat) : List (Val × Bool) :=
  l.zipIdx.map (fun p =>
    if fmtBS f then decodeScaled (fmtCode f) p.1 (scales.getD (p.2 / 32) 0) else decodeElem (fmtCode f) p.1)

/-- Convert an array of values to an unscaled destination; `rnd i` is the rounding of element `i`. -/
def castArray (f : Nat) (rnd : Nat → Rnd) (l : List (Val × Bool)) : List Nat × Flags :=
  let r := l.zipIdx.map (fun p => (convert (fmtCode f) (fmtSat f) (rnd p.2) p.1.1, p.1.2))
  (r.map (fun p => p.1.bits), r.foldl (fun acc p => acc.join (Flags.ofCv p.1 p.2)) {})

/-- Quantise an array in blocks of 32 elements (R62): scale bytes, element bits and flags. -/
def quantArray (f : Nat) (rnd : Nat → Rnd) : Nat → Nat → List (Val × Bool) → List Nat × List Nat × Flags
  | 0, _, _ => ([], [], {})
  | fuel + 1, base, l =>
    if l.isEmpty then ([], [], {})
    else
      let blk := l.take 32
      let (sc, cvs) := quantBlock (fmtCode f) (blk.zipIdx.map (fun p => (p.1.1, rnd (base + p.2))))
      let fl := (cvs.zip blk).foldl (fun (acc : Flags) p => acc.join (Flags.ofCv p.1 p.2.2)) {}
      let (scs, es, fl') := quantArray f rnd fuel (base + 32) (l.drop 32)
      (sc :: scs, cvs.map (·.bits) ++ es, fl.join fl')

end Sys2Proof.Machine
end

