-- ==== Sys2Proof/Machine/Lines.lean ====
section
/-! DEFINITION. Who asks for a line and how it is answered (Table 6.3), what the near-memory units hold, and the parts of writes that are
held (R173, R175, R212). -/
namespace Sys2Proof.Machine

/-! ### What an NMU holds (R191) -/

def State.nmuSt (s : State) (k : Nat) : NmuSt := tGet s.nmus k

/-- Firmware posts through the page as far as its queue has room (R191). -/
def NmuSt.refill (x : NmuSt) : NmuSt :=
  let n := 8 - x.qPage.length
  { x with qPage := x.qPage ++ x.fwQ.take n, fwQ := x.fwQ.drop n }

/-- Store an NMU's queues and mirror them in NMU_STATUS (Table 7.9). -/
def State.setNmu (s : State) (k : Nat) (x : NmuSt) : State :=
  let x := x.refill
  let s := { s with nmus := tSet s.nmus k x }
  s.setFld (.nmu k) (Nmu.NMU_STATUS.sub 14 0)
    (x.qCall.length + (x.running.filter (fun c => c.src != 2)).length * 128
      + bool01 (x.running.any (fun c => c.src == 2)) * 1024 + x.qPage.length * 2048)

/-- Change running command `idx` of a stack's NMU. -/
def State.nmuModRun (s : State) (k idx : Nat) (f : NCmd → NCmd) : State :=
  let x := s.nmuSt k
  s.setNmu k { x with running := x.running.zipIdx.map (fun p => if p.2 = idx then f p.1 else p.1) }

/-- Change the running command with an identity. -/
def State.nmuModId (s : State) (k id : Nat) (f : NCmd → NCmd) : State :=
  let x := s.nmuSt k
  s.setNmu k { x with running := x.running.map (fun c => if c.id = id then f c else c) }

/-! ### Requesters (Table 6.3) -/

/-- The context and generation of a requester, where it has one. -/
def State.reqCtx (s : State) : Requester → Option (Nat × Nat)
  | .core lc _ => let g := s.prog (s.seq lc).slot; some (g.ctx, g.gen)
  | .nmu k id => ((s.nmuSt k).running.find? (fun c => c.id == id)).map (fun c => (c.ctx, c.gen))
  | .peer _ _ ctx gen _ => some (ctx, gen)
  | _ => none

/-- A read or write from outside the cores and NMUs is answered: status 0 with the data, or 1 with a bus error (Table 6.3). -/
def State.answerReq (s : State) (req : Requester) (wr : Bool) (status : Nat) (data : List Byte) : State :=
  match req with
  | .host =>
    if wr then s
    else if status = 0 then s.emit (.hostRead 0 data)
    else (s.bump .hst Pci.BAR2_POISON_CNT).emit (.hostRead 2 data)
  | .mgmt rq => s.mgAnswer rq status s.chip (if wr then [] else data)
  | .relay chip session seq type =>
    s.mgCarry chip { type := type, rsp := true, session := session, dest := s.chip, seq := seq, status := status, src := s.chip }
      (if wr then [] else data)
  | .peer chip part ctx gen tag =>
    (s.sendE2e chip part ctx gen (if wr then 0 else 2) 0
      (if wr then .ackE2e tag status else .rdRsp tag status (if status = 0 then data else []))).1
  | _ => s

/-- A bus error reaches its requester (Table 6.3); `wr` says that the access was a write. A descriptor that waits for the line at issue
faults there; what a command or descriptor that is gone would receive is discarded (R176). -/
def State.deliverError (s : State) (req : Requester) (wr : Bool) (n : Nat := 64) : State :=
  match req with
  | .core lc id =>
    let q := s.seq lc
    match q.infl.find? (fun i => i.id == id) with
    | some i => s.progFault lc 0x06 0 0x1124 i.desc
    | none => if q.st = 1 && id = q.nextId then s.progFault lc 0x06 0 0x1124 q.pc else s
  | .nmu k id => s.nmuModId k id (fun c => if c.done then c else { c with done := true, err := 0x20 })
  | _ => s.answerReq req wr 1 (List.replicate n 0xFF)

/-- Where a running command waits, or stops if that line ends in a bus error (R195). -/
def State.reqAt (s : State) (req : Requester) (o : Nat) : State :=
  match req with
  | .nmu k id => s.nmuModId k id (fun c => if c.done then c else { c with parg := s.chip * 2 ^ 48 + o })
  | _ => s

/-- The good data of a line reach a requester outside the device; a core, an NMU command or a peer's read takes its data in
its own command. -/
def State.deliverLine (s : State) (req : Requester) (data : List Byte) : State :=
  match req with
  | .peer _ _ _ _ _ => s
  | _ => s.answerReq req false 0 data

/-- The outcome of a line reaches a read that waited for it: a request of several lines is answered with its last. -/
def State.lineOutcome (s : State) (k l : Nat) (req : Requester) (ok : Bool) : State :=
  match s.reads.findIdx? (fun r => r.req == req && r.left.contains (k, l / 64)) with
  | none => if ok then s.deliverLine req (s.bytes (edKey k (l / 64 * 64)) 64) else s.deliverError req false
  | some i =>
    match s.reads[i]? with
    | none => s
    | some r =>
      let r := { r with left := r.left.erase (k, l / 64), bad := r.bad || !ok }
      if r.left.isEmpty then
        let s := { s with reads := s.reads.eraseIdx i }
        if r.bad then s.deliverError req false r.n
        else s.answerReq req false 0 (r.spans.flatMap (fun x => s.bytes (edKey x.1 x.2.1) x.2.2))
      else { s with reads := s.reads.set i r }

/-! ### Held parts of writes (R173, R175, R212) -/

/-- A requester still has parts of a write held, on open lines or on PENDING units. -/
def State.holdsPart (s : State) (req : Requester) : Bool :=
  req != .host && (s.stks.any (fun e => e.2.heldW.any (fun w => w.req == req)) || s.mats.any (fun e => e.2.held.any (fun w => w.req == req)))

/-- A part of a write has been applied or dropped: the write is answered once, with a bus error of a part or with its last. -/
def State.partDone (s : State) (req : Requester) (ok : Bool) : State :=
  if !ok then
    let quiet : LineW → LineW := fun w => if w.req == req then { w with req := .host } else w
    let quietM : HeldW → HeldW := fun w => if w.req == req then { w with req := .host } else w
    let s := { s with
      stks := s.stks.map (fun (e : Nat × Stack) => (e.1, { e.2 with heldW := e.2.heldW.map quiet })),
      mats := s.mats.map (fun (e : Nat × Mat) => (e.1, { e.2 with held := e.2.held.map quietM })) }
    s.deliverError req true
  else if s.holdsPart req then s
  else s.answerReq req true 0 []

/-- A held write or addition reaches its line. -/
def State.putHeld (s : State) (k l : Nat) (data : List Byte) (add : Option Nat) (ctx : Option (Nat × Nat)) (req : Requester) : State :=
  match add with
  | some v => let (s, ok) := s.addLine k l v ctx; s.partDone req ok
  | none => if data.isEmpty then s else let (s, ok) := s.mergeLine k l data ctx; s.partDone req ok

end Sys2Proof.Machine
end

