-- ==== Sys2Proof/Machine/NmuOps.lean ====
section
/-! DEFINITION. The near-memory units: command blocks (R189), the checks of the lead (R194, R197–R209), queues and
starting (R191–R193), Matryoshka (R210–R214), and the arithmetic of the commands. -/
namespace Sys2Proof.Machine

/-! ### Command blocks (Table 7.1) -/

def NCmd.op (c : NCmd) : Nat := c.w0 % 256
def NCmd.sub (c : NCmd) : Nat := bitsOf c.w0 15 8
def NCmd.snap (c : NCmd) : Bool := bitAt c.w0 29
def NCmd.consume (c : NCmd) : Bool := bitAt c.w0 30
def NCmd.fmt (c : NCmd) (i : Nat) : Nat := bitsOf c.w0 (39 + 8 * i) (32 + 8 * i)
def NCmd.who (c : NCmd) : Option (Nat × Nat) := some (c.ctx, c.gen)

/-- A command from the 64 bytes of its block. -/
def NCmd.ofBlock (addr : Nat) (b : List Byte) : NCmd :=
  let w := fun i => natLE ((b.drop (8 * i)).take 8)
  { addr := addr, w0 := w 0, a0 := w 1, a1 := w 2, a2 := w 3, a3 := w 4, cnt := w 5 % 2 ^ 40, origin := w 5 / 2 ^ 40,
    param := w 6, ctx := bitsOf (w 0) 28 16 }

/-- Fields of PARAM. -/
def NCmd.k (c : NCmd) : Nat := bitsOf c.param 5 0
def NCmd.x (c : NCmd) : Nat := bitsOf c.param 13 8
def NCmd.y (c : NCmd) : Nat := bitsOf c.param 21 16
def NCmd.rowLen (c : NCmd) : Nat := bitsOf c.param 23 0
def NCmd.tRows (c : NCmd) : Nat := bitsOf c.param 47 24
/-- F of GACC (PARAM[47:32]) and of SCATTER_ADD EXACT (PARAM[63:48]), signed. -/
def NCmd.fGacc (c : NCmd) : Int := signedOf 16 (bitsOf c.param 47 32)
def NCmd.fScat (c : NCmd) : Int := signedOf 16 (bitsOf c.param 63 48)

/-- A word of the hyperparameter record (Table 7.6). -/
def NCmd.hy (c : NCmd) (off bytes : Nat) : Nat := c.hyper / 256 ^ off % 256 ^ bytes

/-- The entries of a list of 8-byte addresses. -/
def State.addrList (s : State) (a n : Nat) : List Nat := (List.range n).map (fun i => s.word64 (a + 8 * i))

/-- The range list of SNAP ARM: address, count of 4 KiB units, and whether the rest is zero. -/
def State.rangeList (s : State) (a n : Nat) : List (Nat × Nat × Bool) :=
  (List.range n).map (fun i =>
    let w := s.word64 (a + 16 * i + 8)
    (s.word64 (a + 16 * i), w % 2 ^ 32, w / 2 ^ 32 == 0))

/-- Bytes of a row of a table. -/
def NCmd.rowBytes (c : NCmd) (f : Nat) : Nat := c.rowLen * fmtWidth (fmtCode f) / 8

/-- Scale bytes of `n` elements. -/
def scaleBytes (f n : Nat) : Nat := if fmtBS f then (n + 31) / 32 else 0

/-- The ranges a command reads, as address and length (R193). -/
def State.nmuReads (s : State) (c : NCmd) : List (Nat × Nat) :=
  let f := fun i => fmtCode (c.fmt i)
  match c.op with
  | 2 => [(c.a1, c.cnt)]
  | 3 =>
    if c.sub = 0 then (s.addrList c.a1 c.k).map (fun a => (a, c.cnt))
    else if c.sub = 1 then [(c.a1, c.cnt)]
    else (s.addrList c.a1 (c.k + 2)).map (fun a => (a, c.cnt))
  | 4 => [(c.a1, c.cnt)]
  | 5 => [(c.a1, packedBytes (f 1) c.cnt)]
  | 6 =>
    if c.sub = 0 then [(c.a1, packedBytes (f 1) c.cnt), (c.a2, scaleBytes (c.fmt 1) c.cnt)]
    else [(c.a1, 8 * c.cnt)]
  | 7 => [(c.a1, c.tRows * c.rowBytes (c.fmt 1)), (c.a2, 4 * c.cnt)]
  | 8 => [(c.a1, c.cnt * c.rowBytes (c.fmt 1)), (c.a2, 4 * c.cnt)]
  | 9 => [(c.a1, packedBytes (f 1) c.cnt), (c.a2, scaleBytes (c.fmt 1) c.cnt)]
  | 10 => [(c.a1, c.cnt)]
  | _ => []

/-- The ranges a command writes in Edesk memory (R193). -/
def State.nmuWrites (s : State) (c : NCmd) : List (Nat × Nat) :=
  let f := fun i => fmtCode (c.fmt i)
  match c.op with
  | 1 => [(c.a0, c.cnt)]
  | 2 => [(c.a0, c.cnt)]
  | 3 =>
    if c.sub = 2 then
      let l := s.addrList c.a1 (c.k + 2)
      (l.getD c.x 0, c.cnt) :: (if c.y = 63 then [] else [(l.getD c.y 0, c.cnt)])
    else (c.a0, c.cnt) :: (if c.a2 = 0 then [] else [(c.a2, c.cnt)])
  | 5 =>
    [(c.a0, packedBytes (f 0) c.cnt), (c.a2, packedBytes (f 2) c.cnt)]
      ++ (if c.sub = 1 then [(c.a3, packedBytes (f 3) c.cnt)] else [])
      ++ (if c.hy 0x28 8 = 0 then [] else [(c.hy 0x28 8, packedBytes (fmtCode (c.hy 0x30 1)) c.cnt)])
  | 6 =>
    if c.sub = 0 then [(c.a0, 8 * c.cnt)]
    else [(c.a0, packedBytes (f 0) c.cnt), (c.a3, scaleBytes (c.fmt 0) c.cnt)]
      ++ (if c.sub = 2 then [(c.a1, 8 * c.cnt)] else [])
  | 7 => [(c.a0, c.cnt * c.rowBytes (c.fmt 0))]
  | 8 => [(c.a0, c.tRows * (if c.sub = 0 then 4 * c.rowLen else 8 * c.rowLen))]
  | 9 => [(c.a0, packedBytes (f 0) c.cnt), (c.a3, scaleBytes (c.fmt 0) c.cnt)]
  | _ => []

/-- The primary operand, by whose 4 KiB units the work is divided (R192, Table 7.3): its address and its width in quarters of a bit per
element. RS DEC: the first stripe that it rebuilds. -/
def State.nmuPrim (s : State) (c : NCmd) : Nat × Nat :=
  let f0 := 4 * fmtWidth (fmtCode (c.fmt 0))
  match c.op with
  | 3 => (if c.sub = 2 then (s.addrList c.a1 (c.k + 2)).getD c.x 0 else c.a0, 32)
  | 4 | 10 => (c.a1, 32)
  | 5 | 7 | 9 => (c.a0, f0)
  | 6 => (c.a0, if c.sub = 0 then 256 else f0)
  | 8 => (c.a0, if c.sub = 0 then 128 else 256)
  | _ => (c.a0, 32)

/-- All that a command writes but RESULT: its written ranges and the result of DIGEST. -/
def State.nmuDest (s : State) (c : NCmd) : List (Nat × Nat) := s.nmuWrites c ++ (if c.op = 4 then [(c.a0, 16)] else [])

/-- Lists and records, and the result of DIGEST: these may lie in space 0x1 too (R194). -/
def NCmd.aux (c : NCmd) : List (Nat × Nat) :=
  (c.addr, 64) ::
  (match c.op with
  | 3 => if c.sub = 0 then [(c.a1, 8 * c.k)] else if c.sub = 2 then [(c.a1, 8 * (c.k + 2))] else []
  | 4 => [(c.a0, 16)]
  | 5 => [(c.param, 64)]
  | 11 => if c.sub = 0 then [(c.a1, 16 * c.cnt)] else []
  | _ => [])

/-- Two ranges share a byte. -/
def overlap (a b : Nat × Nat) : Bool := decide (a.1 < b.1 + b.2) && decide (b.1 < a.1 + a.2)

def overlapAny (xs ys : List (Nat × Nat)) : Bool := xs.any (fun x => ys.any (overlap x))

/-! ### The checks of the lead (R194) -/

/-- Reserved OP or SUBOP, non-zero unused field, misalignment or COUNT out of range: REJ_FIELD where this is false. -/
def State.nmuFieldOk (s : State) (c : NCmd) : Bool :=
  let al := fun i a => a % fmtAlign (fmtCode (c.fmt i)) == 0
  let noSnap := !c.snap && !c.consume
  let noFmt := c.w0 / 2 ^ 32 == 0
  let f0 := fun i => c.fmt i == 0
  let base := !bitAt c.w0 31 && c.addr % 64 == 0
  let some1 := decide (1 ≤ c.cnt)
  let lines := some1 && c.cnt % 64 == 0
  let noOrg := c.origin == 0
  base && (match c.op with
  | 1 => c.sub == 0 && noSnap && noFmt && c.a1 == 0 && c.a2 == 0 && c.a3 == 0 && noOrg && lines && c.a0 % 64 == 0
  | 2 =>
    c.sub == 0 && noFmt && c.a2 == 0 && c.a3 == 0 && c.param == 0 && noOrg && lines && c.a0 % 64 == 0 && c.a1 % 64 == 0
      && !overlap (c.a0, c.cnt) (c.a1, c.cnt)
  | 3 =>
    decide (c.sub ≤ 2) && !c.consume && noFmt && c.a3 == 0 && noOrg && lines && c.a0 % 64 == 0 && c.a2 % 64 == 0
      && (if c.sub = 0 then
            decide (c.param < 64) && decide (1 ≤ c.k) && decide (c.k ≤ 62) && c.a1 % 8 == 0
              && (s.addrList c.a1 c.k).all (fun a => a % 64 == 0)
          else if c.sub = 1 then decide (c.param < 62) && c.a1 % 64 == 0
          else !c.snap && c.a0 == 0 && c.a2 == 0 && c.a1 % 8 == 0 && c.param == c.k + c.x * 2 ^ 8 + c.y * 2 ^ 16
            && decide (1 ≤ c.k) && decide (c.k ≤ 62) && decide (c.x ≤ c.k + 1) && (decide (c.y ≤ c.k + 1) || c.y == 63)
            && c.x != c.y && (s.addrList c.a1 (c.k + 2)).all (fun a => a % 64 == 0))
  | 4 =>
    c.sub == 0 && !c.consume && noFmt && c.a2 == 0 && c.a3 == 0 && c.param == 0 && noOrg && some1 && c.a1 % 64 == 0
      && c.a0 % 16 == 0
  | 5 =>
    decide (c.sub ≤ 1) && noSnap && some1 && al 0 c.a0 && al 1 c.a1 && al 2 c.a2 && al 3 c.a3 && c.param % 8 == 0
      && (c.sub == 1 || (c.a3 == 0 && f0 3)) && c.hy 0x31 7 == 0 && c.hy 0x3C 4 == 0
      && c.hy 0x28 8 % fmtAlign (fmtCode (c.hy 0x30 1)) == 0
  | 6 =>
    decide (c.sub ≤ 2) && noSnap && some1 && f0 2 && f0 3 && decide (c.fGacc.natAbs ≤ 1024) && c.param / 2 ^ 48 == 0
      && (if c.sub = 0 then
            noOrg && f0 0 && c.param % 2 ^ 32 == 0 && c.a0 % 8 == 0 && al 1 c.a1 && c.a3 == 0 && (fmtBS (c.fmt 1) || c.a2 == 0)
          else f0 1 && c.a1 % 8 == 0 && al 0 c.a0 && c.a2 == 0 && (fmtBS (c.fmt 0) || c.a3 == 0))
  | 7 =>
    c.sub == 0 && noSnap && some1 && noOrg && f0 2 && f0 3 && c.a3 == 0 && c.a2 % 4 == 0 && al 0 c.a0 && al 1 c.a1
      && decide (1 ≤ c.rowLen) && c.param / 2 ^ 48 == 0
      && c.rowLen * fmtWidth (fmtCode (c.fmt 0)) % 8 == 0 && c.rowLen * fmtWidth (fmtCode (c.fmt 1)) % 8 == 0
  | 8 =>
    decide (c.sub ≤ 1) && noSnap && some1 && noOrg && (c.sub == 0 || f0 0 || fmtBS (c.fmt 0)) && f0 2 && f0 3 && c.a3 == 0 && c.a2 % 4 == 0
      && al 1 c.a1
      && c.a0 % (if c.sub = 0 then 4 else 8) == 0 && decide (1 ≤ c.rowLen) && c.rowLen * fmtWidth (fmtCode (c.fmt 1)) % 8 == 0
      && (if c.sub = 0 then c.param / 2 ^ 48 == 0 else decide (c.fScat.natAbs ≤ 1024))
  | 9 =>
    decide (c.sub ≤ 1) && noSnap && some1 && f0 2 && f0 3 && al 0 c.a0 && al 1 c.a1 && (fmtBS (c.fmt 1) || c.a2 == 0)
      && (c.sub == 1 || c.a3 == 0) && c.param / 2 ^ 32 == 0
  | 10 =>
    c.sub == 0 && noSnap && noFmt && c.a0 == 0 && c.a2 == 0 && c.a3 == 0 && c.param == 0 && noOrg && lines && c.a1 % 64 == 0
  | 11 =>
    decide (c.sub ≤ 1) && noSnap && noFmt && c.a0 == 0 && c.a2 == 0 && c.a3 == 0 && noOrg && c.param / 2 ^ 32 == 0
      && (if c.sub = 0 then
            some1 && decide (c.cnt ≤ 64) && c.a1 % 8 == 0
              && (s.rangeList c.a1 c.cnt).all (fun r => r.1 % 4096 == 0 && r.2.2 && decide (1 ≤ r.2.1))
          else c.cnt == 0 && c.a1 == 0)
  | _ => false)

/-- Format bytes permitted for the command: REJ_FORMAT where this is false. -/
def NCmd.formatOk (c : NCmd) : Bool :=
  let code := fun i => fmtCode (c.fmt i)
  let valSrc := fun i => srcFmtOk (c.fmt i) && valueCode (code i)
  match c.op with
  | 5 =>
    let dst := fun i hi => dstFmtOk false (c.fmt i) && decide (code i ≤ hi)
    dst 0 2 && srcFmtOk (c.fmt 1) && !fmtBS (c.fmt 1) && decide (code 1 ≤ 2) && dst 2 1 && (c.sub == 0 || dst 3 1)
      && (c.hy 0x28 8 == 0 || (dstFmtOk false (c.hy 0x30 1) && valueCode (fmtCode (c.hy 0x30 1))))
  | 6 => if c.sub = 0 then valSrc 1 else dstFmtOk (fmtBS (c.fmt 0)) (c.fmt 0)
  | 7 => srcFmtOk (c.fmt 1) && !fmtBS (c.fmt 1) && dstFmtOk false (c.fmt 0) && fmtRnd (c.fmt 0) == 0
  | 8 => c.fmt 0 == 0 && valSrc 1 && !fmtBS (c.fmt 1)
  | 9 =>
    srcFmtOk (c.fmt 1) && dstFmtOk (c.sub == 1) (c.fmt 0) && c.cnt % fmtGroup (code 0) == 0 && c.cnt % fmtGroup (code 1) == 0
  | _ => true

/-- A range of the own chip is populated and the context's rights cover it. -/
def State.nmuRangeOk (s : State) (c : NCmd) (sram : Bool) (r : Nat × Nat) : Bool :=
  r.2 == 0 || (gaChip r.1 == s.chip && (gaSpace r.1 == 0 || (sram && gaSpace r.1 == 1))
    && (List.range ((r.1 + r.2 - 1) / 4096 - r.1 / 4096 + 1)).all (fun i =>
      s.populated (if i = 0 then r.1 else (r.1 / 4096 + i) * 4096)) && s.populated (r.1 + r.2 - 1)
    && s.rightsRange c.part r.1 r.2
    && !(c.src == 1 && (s.sealedAddr r.1 || s.sealedAddr (r.1 + r.2 - 1))))

/-- A range of the set of SNAP ARM is populated Edesk memory of the own chip that no other sealed partition keeps closed (R194); whether
it meets a side area is a snapshot rule (R211). -/
def State.nmuSetOk (s : State) (c : NCmd) (r : Nat × Nat × Bool) : Bool :=
  let a := fun (i : Nat) => r.1 + 4096 * i
  gaChip r.1 == s.chip && gaSpace r.1 == 0
    && (List.range r.2.1).all (fun i => s.populated (a i) && gaChip (a i) == s.chip && gaSpace (a i) == 0 && !s.sealedByOther c.part (a i))

/-- Rights (R194, R491): REJ_RIGHTS where this is false. -/
def State.nmuRightsOk (s : State) (c : NCmd) : Bool :=
  c.src == 3 || s.ctxState c.ctx == 1 && !(c.src == 1 && (s.sealOf c.part).closed)
    && (s.nmuReads c ++ s.nmuWrites c).all (s.nmuRangeOk c false) && c.aux.all (s.nmuRangeOk c true)
    && (c.op != 11 || c.sub != 0 || (s.rangeList c.a1 c.cnt).all (s.nmuSetOk c))
    && s.ownSealOk c.part c.addr 64 && (c.op != 5 || s.ownSealOk c.part c.param 64)

/-- The local unit of a global offset: stack and number. -/
def State.unitOf (s : State) (o : Nat) : Option (Nat × Nat) := (s.edMap o).map (fun p => (p.1, p.2 / 4096))

/-- State of a unit (R210). -/
def State.unitSt (s : State) (k u : Nat) : Nat := smGet (fun _ => 0) (s.mat k).unitSt u

def State.matActive (s : State) (k : Nat) : Bool := s.fld (.mat k) Mat.MAT_STATUS == 1

/-- The units of a byte range of space 0x0, by a global offset in each. -/
def unitsOf (o n : Nat) : List (Nat × Nat) :=
  if n = 0 then [] else
    (List.range ((o + n - 1) / 4096 - o / 4096 + 1)).map (fun i =>
      let b := max o ((o / 4096 + i) * 4096)
      (b, min (o + n) ((o / 4096 + i + 1) * 4096) - b))

/-- A range lies wholly in the set of the snapshot that is ACTIVE. -/
def State.inSet (s : State) (r : Nat × Nat) : Bool :=
  (unitsOf (gaOff r.1) r.2).all (fun u =>
    match s.unitOf u.1 with
    | some (k, n) => s.matActive k && s.unitSt k n != 0
    | none => false)

/-- The side area lies within its stack's direct window (R210). -/
def State.sideOk (s : State) (k : Nat) : Bool :=
  let b := s.fld (.mat k) (Mat.SIDE_BASE.sub 24 0)
  let n := s.fld (.mat k) (Mat.SIDE_UNITS.sub 16 0)
  n == 0 || (decide (s.ilOf (k / 6) * gib ≤ b * 4096) && decide ((b + n) * 4096 ≤ s.capOf k))

/-- Snapshot rules (R211, R213): REJ_SNAPSHOT where this is false. -/
def State.nmuSnapOk (s : State) (c : NCmd) : Bool :=
  if c.op = 11 && c.sub = 0 then
    (List.range 12).all (fun k => !s.matActive k && s.sideOk k)
      && (s.rangeList c.a1 c.cnt).all (fun r =>
        gaChip r.1 == s.chip && gaSpace r.1 == 0
          && (unitsOf (gaOff r.1) (r.2.1 * 4096)).all (fun u =>
            match s.unitOf u.1 with
            | some (k, n) => !s.inSide k (n * 4096)
            | none => false))
  else
    (!c.snap || (s.nmuReads c).all s.inSet)
      && (!c.consume || (c.snap && c.a1 % 4096 == 0 && c.cnt % 4096 == 0
        && (unitsOf (gaOff c.a0) c.cnt).all (fun u =>
          match s.unitOf u.1 with
          | some (k, n) => s.unitSt k n == 0
          | none => true)))

/-- The generator index stays below 2^40 where a destination is rounded stochastically (R198). -/
def NCmd.rangeOk (c : NCmd) : Bool :=
  let st := fun f => fmtRnd f == 1
  let any := match c.op with
    | 5 => st (c.fmt 0) || st (c.fmt 2) || (c.sub == 1 && st (c.fmt 3)) || (c.hy 0x28 8 != 0 && st (c.hy 0x30 1))
    | 6 => c.sub != 0 && st (c.fmt 0)
    | 9 => st (c.fmt 0)
    | _ => false
  !any || decide (c.origin * 65536 + c.cnt ≤ 2 ^ 40)

/-- The status with which the lead rejects a command, 0 where it accepts (Table 7.2, R194). -/
def State.nmuCheck (s : State) (c : NCmd) : Nat :=
  if !s.nmuFieldOk c then 0x10
  else if !c.formatOk then 0x11
  else if !s.nmuRightsOk c then 0x12
  else if c.op == 4 && s.digKey c.part == 0 then 0x13
  else if !s.nmuSnapOk c then 0x14
  else if !c.rangeOk then 0x15
  else 0

/-! ### Queues (R191, R193) -/

/-- Fetch a command block for a context and read what is read at acceptance (R190, R198, R202). A block or record at an unpopulated
address is rejected, not read (R194). -/
def State.nmuFetch (s : State) (k addr src ctx gen part : Nat) : State × NCmd :=
  let (s, b) := s.readMem addr 64 (some (ctx, gen))
  let c : NCmd := match b with
    | some b => NCmd.ofBlock addr b
    | none => { addr := addr, err := if gaChip addr = s.chip && s.populated addr then 0x20 else 0x12, parg := addr }
  let c := { c with src := src }
  let (ctx, gen, part) := if src = 1 then (c.ctx, s.ctxGen c.ctx, s.ctxPart c.ctx) else (ctx, gen, part)
  let c := { c with id := (s.nmuSt k).nextId, ctx := ctx, gen := gen, part := part, step := s.stepOf part,
                    seed := s.seedOf part }
  if c.op = 5 && c.err = 0 && gaChip c.param = s.chip && s.populated c.param then
    let (s, h) := s.readMem c.param 64 (some (ctx, gen))
    match h with
    | some h => (s, { c with hyper := natLE h })
    | none => (s, { c with err := 0x20, parg := c.param })
  else (s, c)

/-- The next queued command and what the NMU holds once it is taken (R193). -/
def NmuSt.pick (x : NmuSt) : Option (NCmd × NmuSt) :=
  match x.altPage, x.qPage, x.qCall with
  | true, c :: t, _ => some (c, { x with qPage := t, altPage := false })
  | false, _, c :: t => some (c, { x with qCall := t, altPage := true })
  | true, [], c :: t => some (c, { x with qCall := t, altPage := true })
  | false, c :: t, [] => some (c, { x with qPage := t, altPage := false })
  | _, [], [] => none

/-- Running commands of the lead conflict with a new one (R193). -/
def State.nmuConflict (s : State) (x : NmuSt) (c : NCmd) : Bool :=
  x.running.any (fun r =>
    overlapAny (s.nmuDest r) (s.nmuReads c ++ s.nmuWrites c ++ c.aux)
      || overlapAny (s.nmuDest c) (s.nmuReads r ++ s.nmuWrites r ++ r.aux))

/-! ### The end of a command (R190, R194, R195) -/

/-- The RESULT word. -/
def NCmd.resultWord (c : NCmd) (status : Nat) : Nat :=
  status + bool01 c.inv * 256 + bool01 c.sat * 512 + bool01 c.trunc * 1024 + min c.detail (2 ^ 32 - 1) * 65536

/-- The sequencer entry of an NMCALL with SYNC is finished. -/
def State.nmcallDone (s : State) (c : NCmd) : State :=
  s.modSeq c.lc (fun q => { q with infl := q.infl.map (fun i => if i.id = c.infl then { i with wait := none } else i) })

/-- The program that posted a command still runs on its core. -/
def State.nmcallLive (s : State) (c : NCmd) : Bool :=
  let q := s.seq c.lc
  c.src == 0 && q.st != 0 && q.st != 3 && q.slot == c.prog % 4096 && (s.prog q.slot).startAct == c.prog / 4096

/-- The NMCALL faults with NMU (R133, R195). -/
def State.nmcallFault (s : State) (c : NCmd) (desc : Nat) : State :=
  if s.nmcallLive c then s.progFault c.lc 0x0B 0 0x1129 desc else s

/-- Descriptor address of the NMCALL. -/
def NCmd.nmcallDesc (c : NCmd) : Nat := c.desc

/-- Write RESULT and the completion signal (R190, R191, R133): a signal word of another chip is reached by a SIG flit of the context. A
command that the module gave itself is handed back with its status. -/
def State.nmuResult (s : State) (k : Nat) (c : NCmd) (status : Nat) : State :=
  if c.src = 3 then { s with nmuDone := s.nmuDone ++ [{ c with err := status }] } else
  let (s, _) := s.writeMem (c.addr + 0x38) (bytesLE 8 (c.resultWord status)) c.who
  if c.sigAddr = 0 then s
  else if gaChip c.sigAddr = s.chip then (s.signalWord c.sigAddr 1 false none).1
  else (s.sendE2e (gaChip c.sigAddr) c.part c.ctx c.gen 0 (k / 6) (.sig (c.sigAddr % 2 ^ 48) 1 false)).1

/-- A rejection (R194). -/
def State.nmuReject (s : State) (k : Nat) (c : NCmd) (status : Nat) : State :=
  let s := s.bump (.nmu k) Nmu.CMD_REJ_CNT
  let s := s.setFld (.nmu k) Nmu.LAST_REJ (status + c.op * 256 + c.ctx * 65536)
  let s := (s.setFld64 (.nmu k) Nmu.LAST_CMD_LO c.addr).event 0x2140 (upathNmu k)
  let d := c.nmcallDesc
  let s := if status = 0x12 && (s.sealOf c.part).closed then s.sealBlock (if c.src = 1 then 3 else 8) else s
  (s.nmuResult k c status).nmcallFault c d

/-- The local address at which a command stopped. -/
def State.nmuStopped (s : State) (c : NCmd) : Nat := if gaSpace c.parg = 0 then ((s.edMap (gaOff c.parg)).map (·.2)).getD 0 else gaOff c.parg

/-- A command that stopped during execution (R195, Table 7.8). -/
def State.nmuError (s : State) (k : Nat) (c : NCmd) : State :=
  let s := s.bump (.nmu k) Nmu.CMD_ERR_CNT
  let s := (s.setFld64 (.nmu k) Nmu.LAST_CMD_LO c.addr).event 0x2141 (upathNmu k) [(8, s.nmuStopped c)]
  let s := if c.inv then s.event 0x2142 (upathNmu k) else s
  let d := c.nmcallDesc
  let s := s.nmuResult k c c.err
  if c.sync then s.nmcallFault c d else s

/-- A command that completed (R190, R208). -/
def State.nmuOk (s : State) (k : Nat) (c : NCmd) : State :=
  let s := s.bump (.nmu k) Nmu.CMD_CNT
  let s := if c.inv then s.event 0x2142 (upathNmu k) else s
  let s := s.nmuResult k c 0x01
  if c.src = 0 then s.nmcallDone c else s

/-- A command leaves the NMU: with OK, with an error, or with a rejection that its own rule gave it as it ran (R211). -/
def State.nmuLeave (s : State) (k : Nat) (c : NCmd) : State :=
  if c.err = 0 then s.nmuOk k c else if 0x20 ≤ c.err then s.nmuError k c else s.nmuReject k c c.err

/-- `n` bytes pass the datapath of a stack's NMU (Table 7.9). -/
def State.nmuTotal (s : State) (k : Nat) (wr : Bool) (n : Nat) : State :=
  let x := s.nmuSt k
  if wr then
    let t := x.wrRem + n
    ({ s with nmus := tSet s.nmus k { x with wrRem := t % 1048576 } }).bumpBy (.nmu k) Nmu.WR_MIB_TOT (t / 1048576)
  else
    let t := x.rdRem + n
    ({ s with nmus := tSet s.nmus k { x with rdRem := t % 1048576 } }).bumpBy (.nmu k) Nmu.RD_MIB_TOT (t / 1048576)

/-- Count the bytes of `cnt` elements of an operand of `q` quarter-bits each, from element `base` of the command on, at the NMUs whose
datapath moves them: those that hold the units of the primary operand where these elements lie (R192, R216). -/
def State.nmuBytes (s : State) (c : NCmd) (wr : Bool) (base cnt q : Nat) : State :=
  let (pa, pq) := s.nmuPrim c
  let o := gaOff pa
  let lo := base * pq / 32
  let hi := ((base + cnt) * pq + 31) / 32
  let el := fun (b : Nat) => min (base + cnt) (max base (((b - o) * 32 + pq - 1) / pq)) - base
  s.each (unitsOf (o + lo) (hi - lo)) (fun u s =>
    match s.unitOf u.1 with
    | some (k, _) => s.nmuTotal k wr ((el (u.1 + u.2) * q + 31) / 32 - (el u.1 * q + 31) / 32)
    | none => s)

/-! ### Matryoshka (R210–R214) -/

/-- Units of a Matryoshka in one of two states. -/
def Mat.count (m : Mat) (a b : Nat) : Nat := (m.unitSt.filter (fun e => e.2 == a || e.2 == b)).length

/-- Bring UNITS_LEFT and SLOTS_USED up to date. -/
def State.matSync (s : State) (k : Nat) : State :=
  let m := s.mat k
  (s.setFld (.mat k) Mat.UNITS_LEFT (m.count 1 2)).setFld (.mat k) Mat.SLOTS_USED m.slotOf.length

/-- Release held writes in order of arrival (R212); a line whose outcome is open holds them on (R175). -/
def State.matRelease (s : State) (k : Nat) (ws : List HeldW) : State :=
  s.each ws (fun w s =>
    if (s.stk k).holds w.l then s.lineHoldW k { off := w.off, l := w.l, data := w.data, add := w.add, req := w.req, ctx := w.ctx }
    else s.putHeld k w.l w.data w.add w.ctx w.req)

/-- The lowest free side slot. -/
def Mat.freeSlot (m : Mat) (n : Nat) : Option Nat := (List.range n).find? (fun i => !m.slotOf.any (fun e => e.2 == i))

/-- The save of a PENDING unit completes (R212): copy to a side slot, SAVED, release. -/
def State.matSave (s : State) (k u : Nat) : State :=
  let m := s.mat k
  match m.freeSlot (s.fld (.mat k) (Mat.SIDE_UNITS.sub 16 0)) with
  | none => s
  | some n =>
    if smGet (fun _ => 0) m.unitSt u = 1 then
      let base := (s.fld (.mat k) (Mat.SIDE_BASE.sub 24 0) + n) * 4096
      let s := s.setBytes (edKey k base) (s.bytes (edKey k (u * 4096)) 4096)
      let s := s.each (List.range 64) (fun i s =>
        let md := s.lineMeta k (u * 4096 + 64 * i)
        let b := s.bytes (edKey k (base + 64 * i)) 64
        { s with lines := tSet s.lines (lineKey k (base + 64 * i)) { md with crc := outerCode k (base + 64 * i) b, rc := false } })
      let mine := m.held.filter (fun w => w.l / 4096 == u)
      let m := { m with unitSt := smSet (fun _ => 0) m.unitSt u 2, slotOf := smSet (fun _ => 65536) m.slotOf u n,
                        held := m.held.filter (fun w => w.l / 4096 != u) }
      let s := (s.setMat k m).bump (.mat k) Mat.SAVE_CNT
      ((s.matRelease k mine).matSync k).matFull k
    else s

/-- Writes held on a stack have been held for `ns` (R217). -/
def State.holdMax (s : State) (k ns : Nat) : State :=
  s.setFld (.mat k) Mat.HOLD_MAX_NS (min 65535 (max ns (s.fld (.mat k) Mat.HOLD_MAX_NS)))

/-- Back to IDLE with every unit OUTSIDE (R213, R214). -/
def State.matIdle (s : State) (k : Nat) (ev : Nat) : State :=
  let ws := (s.mat k).held
  let s := s.setMat k {}
  let s := s.matRelease k ws
  let s := s.setFld (.mat k) Mat.MAT_STATUS 0
  let s := (s.setFld64 (.mat k) Mat.END_TICK_LO s.tick).matSync k
  s.event ev (srcStack k)

/-- A consuming read has read a unit whole (R213). -/
def State.matConsume (s : State) (k u : Nat) : State :=
  let m := s.mat k
  let mine := m.held.filter (fun w => w.l / 4096 == u)
  let m := { m with unitSt := smSet (fun _ => 0) m.unitSt u 3, slotOf := smDel m.slotOf u,
                    held := m.held.filter (fun w => w.l / 4096 != u) }
  let s := ((s.setMat k m).matRelease k mine).matSync k
  if m.count 1 2 = 0 then s.matIdle k 0x2149 else s

/-- The snapshot aborts on every Matryoshka of the chip that is ACTIVE (R214). How long the writes held there had waited is a free value
(log entry 97). -/
def State.snapAbort (s : State) : State :=
  s.each (List.range 12) (fun k s =>
    if s.matActive k then
      let s := if (s.mat k).held.isEmpty then s else s.holdMax k (Config.holdNs (k + 16 * s.fld (.mat k) Mat.ABORT_CNT))
      (s.bump (.mat k) Mat.ABORT_CNT).matIdle k 0x214A
    else s)

/-- A snapshot is armed (R211): the units that hold these global offsets become PENDING and every Matryoshka ACTIVE. -/
def State.snapUnits (s : State) (part id : Nat) (offs : List Nat) : State :=
  let s := s.each (List.range 12) (fun k s => s.setMat k { part := part })
  let s := s.each offs (fun o s =>
    match s.unitOf o with
    | some (k, u) => s.setMat k { s.mat k with unitSt := smSet (fun _ => 0) (s.mat k).unitSt u 1 }
    | none => s)
  s.each (List.range 12) (fun k s =>
    let s := s.setFld (.mat k) Mat.MAT_STATUS 1
    let s := s.setFld (.mat k) Mat.SNAP_ID (id % 2 ^ 32)
    let s := s.setFld (.mat k) Mat.UNITS_ARMED ((s.mat k).count 1 2)
    let s := s.setFld (.mat k) Mat.HOLD_MAX_NS 0
    let s := (s.setFld64 (.mat k) Mat.ARM_TICK_LO s.tick).matSync k
    let s := s.event 0x2148 (srcStack k)
    if (s.mat k).count 1 2 = 0 then s.matIdle k 0x2149 else s)

/-- The units of a range, each by a global offset in it. -/
def rangeUnits (a n : Nat) : List Nat := (unitsOf (gaOff a) n).map (·.1)

/-- SNAP ARM (R211). -/
def State.snapArm (s : State) (c : NCmd) : State :=
  s.snapUnits c.part c.param ((s.rangeList c.a1 c.cnt).flatMap (fun r => rangeUnits r.1 (r.2.1 * 4096)))

/-- How a command stops: its status, with the global address at which it does (R195). 0 is no stop. -/
def stopAt (status a : Nat) : Nat := status + 256 * a

/-- Read a source through the snapshot view (R213): the bytes read, and how it stopped. -/
def State.snapRead (s : State) (a n : Nat) (ctx : Option (Nat × Nat)) : State × List Byte × Nat :=
  (chunksOf (n / 64 + 2) a n).foldl (fun (acc : State × List Byte × Nat) p =>
    if acc.2.2 ≠ 0 then acc
    else
      let s := acc.1
      match s.edMap (gaOff p.1) with
      | none => (s, acc.2.1, stopAt 0x20 p.1)
      | some (k, l) =>
        let st := s.unitSt k (l / 4096)
        if st = 1 then
          match s.readMem p.1 p.2 ctx with
          | (s', some b) => (s', acc.2.1 ++ b, 0)
          | (s', none) => (s', acc.2.1, stopAt 0x20 p.1)
        else if st = 2 then
          let slot := smGet (fun _ => 65536) (s.mat k).slotOf (l / 4096)
          let l' := (s.fld (.mat k) (Mat.SIDE_BASE.sub 24 0) + slot) * 4096 + l % 4096
          let (s, ok) := s.checkLine k l' ctx
          if ok then (s, acc.2.1 ++ s.bytes (edKey k l') p.2, 0) else (s, acc.2.1, stopAt 0x20 p.1)
        else (s, acc.2.1, stopAt 0x21 p.1)) (s, [], 0)

/-- Read bytes for a command: those before the first bus error, and how it stopped. -/
def State.nmuFetchBytes (s : State) (c : NCmd) (a n : Nat) : State × List Byte × Nat :=
  let (s, b, ok) := s.readUpTo a n c.who
  (s, b, if ok then 0 else stopAt 0x20 (a + b.length))

/-- Read `cnt` elements of `q` quarter-bits of an operand, from element `base` of the command on, through the snapshot view where SNAP is
set. -/
def State.nmuRead (s : State) (c : NCmd) (a cnt : Nat) (q : Nat := 32) (base : Nat := 0) : State × List Byte × Nat :=
  let s := s.nmuBytes c false base cnt q
  let n := (cnt * q + 31) / 32
  if c.snap then s.snapRead a n c.who else s.nmuFetchBytes c a n

/-- Read a list of the command's own, by the lead. -/
def State.nmuList (s : State) (k : Nat) (c : NCmd) (a n : Nat) : State × List Byte × Nat := (s.nmuTotal k false n).nmuFetchBytes c a n

/-- Read `n` dense elements in the format of operand `f`. -/
def State.nmuElems (s : State) (c : NCmd) (a f n : Nat) (base : Nat := 0) : State × List Nat × Nat :=
  let code := fmtCode f
  let (s, b, st) := s.nmuRead c a n (4 * fmtWidth code) base
  let m := if st = 0 then n else b.length * 8 / fmtWidth code / fmtGroup code * fmtGroup code
  (s, unpackElems code (min n m) b, st)

/-- Store bytes for a command, line by line (R173): 0, or how it stopped at the first line that refused. -/
def State.nmuStore (s : State) (c : NCmd) (a : Nat) (b : List Byte) : State × Nat :=
  (splitLines b.length a b).foldl (fun (acc : State × Nat) p =>
    let (s, ok) := acc.1.writeMem p.1 p.2 c.who (c.src == 2)
    (s, if acc.2 = 0 && !ok then stopAt 0x20 p.1 else acc.2)) (s, 0)

/-- Write `cnt` elements of `q` quarter-bits of an operand, from element `base` of the command on. -/
def State.nmuWrite (s : State) (c : NCmd) (a : Nat) (b : List Byte) (cnt : Nat) (q : Nat := 32) (base : Nat := 0) : State × Nat :=
  (s.nmuBytes c true base cnt q).nmuStore c a b

/-- Write dense elements for a command. -/
def State.nmuPut (s : State) (c : NCmd) (a f : Nat) (l : List Nat) (base : Nat := 0) : State × Nat :=
  let code := fmtCode f
  s.nmuWrite c a (s.denseBytes a code l) l.length (4 * fmtWidth code) base

/-- The first status that is not 0. -/
def firstErr (l : List Nat) : Nat := (l.find? (· != 0)).getD 0

/-! ### The arithmetic of the commands -/

/-- XOR of byte lists, cut to the shorter. -/
def xorAll (n : Nat) (l : List (List Nat)) : List Nat :=
  l.foldl (fun acc x => List.zipWith (fun a b => a ^^^ b) acc x) (List.replicate n 0)

/-- Multiply bytes by a power of α (R200). -/
def mulAlpha (j : Nat) (l : List Nat) : List Nat := l.map (gf8Mul (gf8Pow 2 j))

/-- P and Q of data stripes (R200). -/
def rsParity (n : Nat) (ds : List (List Nat)) : List Nat × List Nat :=
  (xorAll n ds, xorAll n (ds.zipIdx.map (fun p => mulAlpha p.2 p.1)))

/-- Table 7.4: the data stripes, with the missing ones rebuilt. `st` holds k + 2 stripes; what stands at a missing index
is not looked at. -/
def rsRebuild (n k x y : Nat) (st : List (List Nat)) : List (List Nat) :=
  let get := fun i => st.getD i []
  let miss := [x, y].filter (fun i => decide (i < k))
  let zeroed := (List.range k).map (fun i => if miss.contains i then List.replicate n 0 else get i)
  let (p0, q0) := rsParity n zeroed
  match miss with
  | [] => zeroed
  | [a] =>
    let d :=
      if x = k || y = k then
        (List.zipWith (fun u v => u ^^^ v) (get (k + 1)) q0).map (gf8Mul (gf8Inv (gf8Pow 2 a)))
      else List.zipWith (fun u v => u ^^^ v) (get k) p0
    zeroed.set a d
  | a :: b :: _ =>
    let p' := List.zipWith (fun u v => u ^^^ v) (get k) p0
    let q' := List.zipWith (fun u v => u ^^^ v) (get (k + 1)) q0
    let inv := gf8Inv (gf8Pow 2 a ^^^ gf8Pow 2 b)
    let da := List.zipWith (fun u v => gf8Mul (gf8Mul (gf8Pow 2 b) u ^^^ v) inv) p' q'
    (zeroed.set a da).set b (List.zipWith (fun u v => u ^^^ v) p' da)

/-- The digest of R201. -/
def digestGo (h : Nat) : Nat → List Byte → Nat → Nat
  | 0, _, acc => acc
  | fuel + 1, b, acc =>
    if b.isEmpty then acc else digestGo h fuel (b.drop 16) (gf128Mul (acc ^^^ natLE (b.take 16)) h)

def digest128 (h : Nat) (b : List Byte) : Nat := gf128Mul (digestGo h b.length b 0 ^^^ b.length) h

/-- One SGD step (R203): the new w and m. -/
def optSgd (lr b1 wd gs w g m : Nat) : Nat × Nat :=
  let g := f32Mul g gs
  let m := f32Add (f32Mul b1 m) g
  (f32Sub w (f32Mul lr (f32Add m (f32Mul wd w))), m)

/-- One AdamW step (R203): the new w, m and v. -/
def optAdamW (lr b1 ob1 b2 ob2 c1 c2 eps wd gs w g m v : Nat) : Nat × Nat × Nat :=
  let g := f32Mul g gs
  let m := f32Add (f32Mul b1 m) (f32Mul ob1 g)
  let v := f32Add (f32Mul b2 v) (f32Mul ob2 (f32Mul g g))
  let mh := f32Mul m c1
  let vh := f32Mul v c2
  let u := f32Div mh (f32Add (f32Sqrt vh) eps)
  (f32Sub w (f32Mul lr (f32Add u (f32Mul wd w))), m, v)

/-- NAN_ACC (R204). -/
def nanAcc : Nat := 0x8000000000000000

/-- One contribution to an exact accumulator (R204): the new element, INVALID, SATURATED and TRUNC. NAN_ACC stays, whatever the
contribution is, and the contribution is clamped and floored all the same. -/
def gaccAdd (f : Int) (a : Nat) (v : Val) : Nat × Bool × Bool × Bool :=
  match v with
  | .fin neg n d =>
    let (n', d') := scaleFrac n d (-f)
    let q : Int := if neg then -((n' + d' - 1) / d' : Nat) else ((n' / d' : Nat) : Int)
    let lim : Int := 562949953421311
    let q' := if q < -lim then -lim else if lim < q then lim else q
    (if a = nanAcc then a else unsignedOf 64 ((a : Int) + q'), false, q' != q, n' % d' != 0)
  | _ => (nanAcc, true, false, false)

/-- The exact value of an accumulator element (R204). -/
def gaccVal (f : Int) (a : Nat) : Val := if a = nanAcc then .nan else Val.ofIntExp (signedOf 64 a) f

/-- The running command `idx` of a stack's NMU that still has its data to move, where it is of this OP and SUBOP. -/
def State.nmuRun (s : State) (k idx op sub : Nat) : Option NCmd :=
  let x := s.nmuSt k
  match x.running[idx]? with
  | some c => if c.op = op && c.sub = sub && !c.done && c.err = 0 && !x.inReset && !x.failed then some c else none
  | none => none

/-- Record how the data movement of a running command ended: `stop` is 0, or a status and the address of its first error. -/
def State.nmuEnd (s : State) (k idx stop : Nat) (fl : Flags := {}) (trunc : Bool := false) (detail : Nat := 0) (got : Nat := 0) : State :=
  (s.nmuModRun k idx (fun c => { c with done := true, err := stop % 256, inv := fl.inv, sat := fl.sat, trunc := trunc,
                                        detail := detail, got := got, parg := stop / 256 }))

/-- What a read-modify-write reads back of what it writes (R204, R207): the accumulators, or the rows of the table that the indices name. -/
def State.nmuRmw (s : State) (c : NCmd) : List (Nat × Nat) :=
  if c.op = 6 then (if c.sub = 0 then [(c.a0, 8 * c.cnt)] else if c.sub = 2 then [(c.a1, 8 * c.cnt)] else [])
  else if c.op = 8 then
    let el := if c.sub = 0 then 4 else 8
    ((List.range c.cnt).map (fun i => natLE (s.peekN (c.a2 + 4 * i) 4))).filterMap (fun ix =>
      if ix < c.tRows then some (c.a0 + ix * el * c.rowLen, el * c.rowLen) else none)
  else []

/-- The PENDING units of these ranges: stack, local address of the unit and a global offset in it. -/
def State.pendingIn (s : State) (rs : List (Nat × Nat)) : List (Nat × Nat × Nat) :=
  (rs.flatMap (fun r => unitsOf (gaOff r.1) r.2)).filterMap (fun u =>
    match s.unitOf u.1 with
    | some (k, n) => if s.unitSt k n = 1 then some (k, n * 4096, u.1 / 4096 * 4096) else none
    | none => none)

/-- The module's NMUs have a write held on each of these units, so that it is saved. -/
def State.touchUnits (s : State) (us : List (Nat × Nat × Nat)) : State :=
  s.each us (fun u s =>
    if (s.mat u.1).held.any (fun w => w.l / 4096 == u.2.1 / 4096) then s else s.matHold u.1 { off := u.2.2, l := u.2.1 })

/-- Commands of a context generation end as a teardown ends them (R195). -/
def State.nmuTeardown (s : State) (k : Nat) (p : NCmd → Bool) : State :=
  let x := s.nmuSt k
  let keep := fun (l : List NCmd) => l.filter (fun c => !p c)
  let gone := x.running.any p || x.qCall.any p || x.qPage.any p
  let s := s.setNmu k { x with qCall := keep x.qCall, qPage := keep x.qPage, running := keep x.running }
  if gone then s.event 0x2141 (upathNmu k) else s

end Sys2Proof.Machine
end

