-- ==== Sys2Proof/Machine/Recomp.lean ====
section
/-! DEFINITION. Recompute of lines (R178), the accesses that wait for a line (R175), and reads and writes from outside the cores and the
near-memory units (R173, R174). -/
namespace Sys2Proof.Machine

/-! ### Recompute (R178) -/

/-- Post the producer record of a region to the stack's own NMU; its command takes the slot kept for it. -/
def State.recompPost (s : State) (k : Nat) (r : Recomp) : State :=
  let n := r.region
  let ctx := s.fld (.mc k) ((Mc.RCR_CTX n).sub 12 0)
  let gen := s.fld (.mc k) ((Mc.RCR_CTX n).sub 23 16)
  let (s, c) := s.nmuFetch k (s.fld64 (.mc k) (Mc.RCR_PROD_LO n)) 2 ctx gen (s.ctxPart ctx)
  let st := if c.err ≠ 0 then c.err else s.nmuCheck c
  let x := s.nmuSt k
  let s := s.setNmu k { x with running := x.running ++ [{ c with err := st, done := decide (st ≠ 0) }], nextId := x.nextId + 1 }
  s.setStk k { s.stk k with recomp := some { r with postTick := s.tick } }

/-- Start the next queued recompute where the slot is free. -/
def State.recompNext (s : State) (k : Nat) : State :=
  let x := s.stk k
  match x.recomp, x.recompQ with
  | none, r :: t =>
    if (s.nmuSt k).running.any (fun c => c.src == 2) then s
    else (s.setStk k { x with recompQ := t }).recompPost k r
  | _, _ => s

/-- Writes whose own merge read has failed are dropped, with the bus error (R173). -/
def State.dropMerges (s : State) (k l : Nat) : State :=
  let mine := fun (w : LineW) => w.merge && w.l / 64 == l / 64
  let ws := (s.stk k).heldW.filter mine
  let s := s.setStk k { s.stk k with heldW := (s.stk k).heldW.filter (fun w => !mine w) }
  s.each ws (fun w s => s.partDone w.req false)

/-- A recompute ends in a bus error for a waiting read (R178 step 4). -/
def State.recompFail (s : State) (k : Nat) (w : RcWait) : State :=
  let ctx := s.reqCtx w.req
  let s := ((s.bump (.mc k) Mc.OUT_BUSERR_CNT).lastErr k w.line 1 ctx).event 0x2108 (srcStack k) (s.memItems k w.line ctx)
  if w.wr then s.dropMerges k w.line else s.lineOutcome k w.line w.req false

/-- A failed line of an enabled region waits for a recompute (R178); the lines of a FAILED NMU's stack have none (R437). -/
def State.recompWait (s : State) (k n : Nat) (w : RcWait) : State :=
  let x := s.stk k
  if (s.nmuSt k).failed then s.recompFail k w
  else match x.recomp with
  | some r =>
    if r.region = n then s.setStk k { x with recomp := some { r with waits := r.waits ++ [w] } }
    else s.setStk k { x with recompQ := x.recompQ ++ [{ region := n, waits := [w] }] }
  | none => (s.setStk k { x with recompQ := x.recompQ ++ [{ region := n, waits := [w] }] }).recompNext k

/-- Another read of a line whose outcome is open joins it. -/
def Stack.join (x : Stack) (l : Nat) (w : RcWait) : Stack :=
  let add := fun (r : Recomp) => if r.waits.any (fun v => v.line / 64 == l / 64) then { r with waits := r.waits ++ [w] } else r
  { x with recomp := x.recomp.map add, recompQ := x.recompQ.map add }

/-- Held writes whose lines are decided are applied in order of arrival (R175). -/
def State.recompRelease (s : State) (k : Nat) : State :=
  s.each (List.range (s.stk k).heldW.length) (fun _ s =>
    match (s.stk k).heldW.find? (fun w => !(s.stk k).holds w.l) with
    | none => s
    | some w =>
      let s := s.setStk k { s.stk k with heldW := (s.stk k).heldW.erase w }
      if s.pendingAt k w.l then s.matHold k { off := w.off, l := w.l, data := w.data, add := w.add, req := w.req, ctx := w.ctx }
      else s.putHeld k w.l w.data w.add w.ctx w.req)

/-- A read waits for a line that is open, or that fails and can be recomputed (R174, R175). -/
def State.awaitLine (s : State) (k l : Nat) (req : Requester) (ctx : Option (Nat × Nat)) : State :=
  let (c, g) := ctx.getD (0, 0)
  let w : RcWait := { line := l, req := req, ctx := c, gen := g }
  let s := s.reqAt req (s.edGlobal k l)
  let x := s.stk k
  if x.holds l then
    if (x.recomp.toList ++ x.recompQ).any (fun r => r.waits.any (fun v => v.line / 64 == l / 64 && v.req == req)) then s
    else s.setStk k (x.join l w)
  else match s.rcRegion k l with
  | some n => s.recompWait k n w
  | none => s

/-- The lines a descriptor or NMU command that reads `rs` and writes `ws` waits for, whose outcome it awaits (those it reads, or writes in
part), and whether a line that it writes whole is open (R174, R175). -/
def State.openLines (s : State) (rs ws : List (Nat × Nat)) : List (Nat × Nat) × Bool :=
  let whole := fun (x : Nat × Nat) => ws.any (fun r => decide (gaOff r.1 ≤ s.edGlobal x.1 x.2) && decide (s.edGlobal x.1 x.2 + 64 ≤ gaOff r.1 + r.2))
  let reads := s.waitLines rs
  let writes := (s.waitLines ws).filter (fun x => !reads.contains x)
  let busy := writes.filter (fun x => whole x && (s.stk x.1).holds x.2)
  let parts := writes.filter (fun x => !whole x)
  (reads ++ parts, !busy.isEmpty)

/-- Such a descriptor or command is held while the outcome of a line is open, or until a line that it reads, or writes in part, has been
recomputed (R174, R175). -/
def State.mustAwait (s : State) (rs ws : List (Nat × Nat)) : Bool :=
  (s.openLines rs ws).2 || !(s.openLines rs ws).1.isEmpty

/-- The state in which it waits. -/
def State.lineAwait (s : State) (req : Requester) (rs ws : List (Nat × Nat)) : State :=
  s.each (s.openLines rs ws).1 (fun x s => s.awaitLine x.1 x.2 req (s.reqCtx req))

/-- The running command `idx` moves its data: held where a line of it waits for its outcome (the producer of a recompute apart), and where
a unit that it reads back is PENDING, until the unit is saved (R175, R207, R212). -/
def State.nmuTake (s : State) (k idx op sub : Nat) (go : NCmd → State → State) : State :=
  match s.nmuRun k idx op sub with
  | none => s
  | some c =>
    let rs := s.nmuReads c ++ (if c.op = 4 then [] else c.aux.drop 1)
    let us := s.pendingIn (s.nmuRmw c)
    if c.src ≠ 2 && s.mustAwait rs (s.nmuDest c) then s.lineAwait (.nmu k c.id) rs (s.nmuDest c)
    else if us.isEmpty then go c s else s.touchUnits us

/-! ### Reads and writes from outside (R173–R175) -/

/-- The pieces of a range of space 0x0, line by line: stack, local address and length; none where a line is not populated or its stack
serves no traffic. -/
def State.spansOf (s : State) (o n : Nat) : Option (List (Nat × Nat × Nat)) :=
  (chunksOf (n / 64 + 2) o n).mapM (fun c =>
    match s.edMap c.1 with
    | some (k, l) => if s.stackUp k then some (k, l, c.2) else none
    | none => none)

/-- A line of a read is waited for (R174, R175). -/
def State.lineWaits (s : State) (k l : Nat) : Bool :=
  (s.stk k).holds l || ((s.lineMeta k l).rc && (s.rcRegion k l).isSome && s.lineFails k l)

/-- A read from outside of `n` bytes at a global address of this device (R174, R175): answered at once, or with the lines that it waits
for. -/
def State.outerRead (s : State) (a n : Nat) (ctx : Option (Nat × Nat)) (req : Requester) : State :=
  if gaSpace a = 0 then
    match s.spansOf (gaOff a) n with
    | none => s.deliverError req false n
    | some spans =>
      let wait := spans.filter (fun x => s.lineWaits x.1 x.2.1)
      let (s, ok) := (spans.filter (fun x => !wait.contains x)).foldl (fun (acc : State × Bool) x =>
        let (s, ok) := acc.1.checkLine x.1 x.2.1 ctx
        (s, acc.2 && ok)) (s, true)
      if !ok then s.deliverError req false n
      else if wait.isEmpty then s.answerReq req false 0 (s.peekN a n)
      else
        let r : HeldRead := { req := req, spans := spans, n := n, left := wait.map (fun x => (x.1, x.2.1 / 64)) }
        ({ s with reads := s.reads ++ [r] }).each wait (fun x s => s.awaitLine x.1 x.2.1 req ctx)
  else if gaSpace a = 1 && s.sramOk (gaOff a) n then s.answerReq req false 0 (s.peekN a n)
  else s.deliverError req false n

/-- A part of a line is written (R173): its merge read is checked as any read is, and waits for a recompute where one is due. -/
def State.mergeRead (s : State) (k l o : Nat) (data : List Byte) (ctx : Option (Nat × Nat)) (req : Requester) (ob : ReadObs) : State × Bool :=
  match s.readLine k l ctx ob with
  | (s, .ok old) =>
    let b := l / 64 * 64
    (s.storeLine k b (old.take (l - b) ++ data ++ old.drop (l - b + data.length)) false, true)
  | (s, .err) => (s, false)
  | (s, .recompute n) =>
    let (c, g) := ctx.getD (0, 0)
    let s := s.lineHoldW k { off := o, l := l, data := data, req := req, ctx := ctx, merge := true }
    (s.recompWait k n { line := l, req := req, ctx := c, gen := g, wr := true }, true)

/-- A write of the lines that a range of space 0x0 touches, each on its own (R173): the flag says that no line has ended in a bus error
so far. `obs` are what the merge reads receive, in order of the parts. -/
def State.writeParts (s : State) (o : Nat) (data : List Byte) (ctx : Option (Nat × Nat)) (req : Requester) (obs : List ReadObs)
    (prod : Bool := false) : State × Bool :=
  (splitLines data.length o data).zipIdx.foldl (fun (acc : State × Bool) e =>
    let p := e.1
    match acc.1.edMap p.1 with
    | none => (acc.1, false)
    | some (k, l) =>
      let s := acc.1
      if !s.stackUp k then (s, false)
      else
        let (s, ok) :=
          if ((s.stk k).holds l && !prod) || s.pendingAt k l || p.2.length = 64 then s.writeLine k l p.1 p.2 ctx req prod
          else s.mergeRead k l p.1 p.2 ctx req (obs.getD e.2 {})
        (s, acc.2 && ok)) (s, true)

/-- A write from outside (R173, R175). -/
def State.writeOpen (s : State) (a : Nat) (data : List Byte) (ctx : Option (Nat × Nat)) (req : Requester) : State × Bool :=
  if gaSpace a = 0 then s.writeParts (gaOff a) data ctx req []
  else if gaSpace a = 1 then s.writeSram (gaOff a) data
  else (s, false)

/-- A write has been handed over: it is answered with the bus error of a part, at once, or when its last held part is visible. -/
def State.writeDone (s : State) (req : Requester) (ok : Bool) : State :=
  if !ok then s.partDone req false
  else if s.holdsPart req then s
  else s.answerReq req true 0 []

/-- A write from outside is applied and answered. -/
def State.outerWrite (s : State) (a : Nat) (data : List Byte) (ctx : Option (Nat × Nat)) (req : Requester) : State :=
  let (s, ok) := s.writeOpen a data ctx req
  s.writeDone req ok

end Sys2Proof.Machine
end

