-- ==== Sys2Proof/Machine/DescOps.lean ====
section
/-! DEFINITION. Descriptors: reference slots and tensor records (R94–R101), where operands may lie (Table 4.5, R96, R116,
R536), the checks in the order of R535, issue and its hazards (R88–R90, R138, R139), loops (R106) and retirement (R65,
R102). -/
namespace Sys2Proof.Machine

/-! ### Reference slots (Table 4.2) -/

structure Ref where
  ri : Nat := 0
  present : Bool := false
  kax : Nat := 0
  idx : Bool := false
  fmt : Nat := 0
  xa : Nat := 0
  axa : Nat := 0
  xb : Nat := 0
  axb : Nat := 0
  rsvd : Bool := false
  deriving DecidableEq, Repr

def Ref.of (w : DWord) : Ref :=
  let v := w.toNat
  { ri := bitsOf v 11 0, present := bitAt v 12, kax := bitsOf v 13 13, idx := bitAt v 14, fmt := bitsOf v 23 16,
    xa := bitsOf v 26 24, axa := bitsOf v 28 27, xb := bitsOf v 31 29, axb := bitsOf v 33 32,
    rsvd := bitAt v 15 || v / 2 ^ 34 != 0 }

/-- Word of slot `no`: 1 D, 2 A, 3 B, 4 C. -/
def Desc.slot (d : Desc) (no : Nat) : DWord :=
  match no with
  | 1 => d.refD
  | 2 => d.refA
  | 3 => d.refB
  | _ => d.refC

/-- A descriptor fault: code, slot, and its event where it is not the code's own (Table 4.10). -/
structure DF where
  code : Nat
  ref : Nat := 0
  ev : Nat := 0
  deriving DecidableEq, Repr

def DF.event (f : DF) : Nat := if f.ev = 0 then faultEvent f.code else f.ev

/-- element() of R98: the byte address of the packing group of an element. DEDUCED (log entry 86): the stride of an axis of extent 1
is used for an effective origin other than 0, as the listing of R98 does, although R97 calls it never used. -/
def Tens.addr (t : Tens) (i0 i1 i2 i3 : Nat) : Nat :=
  let b : Int := (t.base : Int) + (t.o1 + i1) * t.s1 + (t.o2 + i2) * t.s2 + (t.o3 + i3) * t.s3
    + (t.o0 + i0) / (fmtGroup t.code : Int) * (fmtGroupBytes t.code : Int)
  (b % ((2 ^ 64 : Nat) : Int)).toNat

def Tens.count (t : Tens) : Nat := t.e0 * t.e1 * t.e2 * t.e3
def Tens.rowBytes (t : Tens) : Nat := (t.e0 + fmtGroup t.code - 1) / fmtGroup t.code * fmtGroupBytes t.code

/-- Indices of the rows along axis 0, axis 1 fastest. -/
def Tens.rowIx (t : Tens) : List (Nat × Nat × Nat) :=
  (List.range t.e3).flatMap (fun i3 => (List.range t.e2).flatMap (fun i2 => (List.range t.e1).map (fun i1 => (i1, i2, i3))))

/-- Address and bytes of each row. -/
def Tens.rows (t : Tens) : List (Nat × Nat) := t.rowIx.map (fun i => (t.addr 0 i.1 i.2.1 i.2.2, t.rowBytes))

/-- The lowest byte and the number of bytes up to the highest that a reference can touch (R89). -/
def Tens.range (t : Tens) : Nat × Nat :=
  let d := fun (e : Nat) (st : Int) => ((e : Int) - 1) * st
  let ds := [d t.e1 t.s1, d t.e2 t.s2, d t.e3 t.s3]
  let lo := ds.foldl (fun a x => if x < 0 then a + x else a) 0
  let hi := ds.foldl (fun a x => if 0 < x then a + x else a) 0
  let base : Int := t.addr 0 0 0 0
  (((base + lo) % ((2 ^ 64 : Nat) : Int)).toNat, (hi - lo).toNat + t.rowBytes)

/-- Byte ranges of a reference: data, scales and records. -/
def Tref.ranges (r : Tref) : List (Nat × Nat) :=
  r.t.range :: ((match r.sc with | some x => [x.range] | none => []) ++ r.recs)

/-- The data and scale ranges, without the records. -/
def Tref.dataRanges (r : Tref) : List (Nat × Nat) := r.t.range :: (match r.sc with | some x => [x.range] | none => [])

/-! ### Sequencer registers (Table 4.4) -/

def Seq.xr (q : Seq) (n : Nat) : Nat := if n = 0 then 0 else (smGet (fun _ => (0 : DWord)) q.x n).toNat
def Seq.setX (q : Seq) (n v : Nat) : Seq :=
  if n = 0 then q else { q with x := smSet (fun _ => (0 : DWord)) q.x n (BitVec.ofNat 64 v) }

def State.argOf (s : State) (q : Seq) (n : Nat) : Nat :=
  let x := s.slot q.slot
  match n with
  | 0 => x.arg0.toNat
  | 1 => x.arg1.toNat
  | _ => x.arg2.toNat

/-- A register as SET reads it; reserved codes read none. -/
def State.seqReg (s : State) (lc code : Nat) : Option Nat :=
  let q := s.seq lc
  let g := s.prog q.slot
  if code ≤ 7 then some (q.xr code)
  else match code with
  | 8 => some (s.argOf q 0)
  | 9 => some (s.argOf q 1)
  | 10 => some (s.argOf q 2)
  | 11 => some (lc % 8 + lc / 8 % 4 * 16 + lc / 32 * 256)
  | 12 => some s.chip
  | 13 => some (match s.ownRank g.part with | some r => r + 2 ^ 14 | none => 0)
  | 14 => some (g.ctx + g.gen * 2 ^ 16 + g.part * 2 ^ 24)
  | 15 => some (s.stepOf g.part)
  | 16 => some s.tick
  | 17 => some q.trec
  | 18 => some q.pflags
  | _ => none

/-- Context and generation of the program on a logical core. -/
def State.whoOf (s : State) (lc : Nat) : Option (Nat × Nat) :=
  let g := s.prog (s.seq lc).slot
  some (g.ctx, g.gen)

def State.partOf (s : State) (lc : Nat) : Nat := (s.prog (s.seq lc).slot).part

/-! ### Records (R97–R100) -/

/-- The global address of an offset in the tile memory of a logical core, and in the cluster memory of its cluster. -/
def State.tileAddr (s : State) (lc o : Nat) : Nat := s.chip * 2 ^ 48 + 2 ^ 44 + tileBase lc + o
def State.clusterAddr (s : State) (lc o : Nat) : Nat := s.chip * 2 ^ 48 + 2 ^ 44 + clusterBase (lc / 8) + o

/-- The record table lies as R99 demands. -/
def Seq.trecOk (q : Seq) : Bool := q.trec % 64 == 0 && decide (q.trec + 262144 ≤ 16777216)

/-- The eight words of a record. -/
def State.recWords (s : State) (lc ri : Nat) : List Nat :=
  let a := s.tileAddr lc ((s.seq lc).trec + 64 * ri)
  (List.range 8).map (fun i => natLE (s.peekN (a + 8 * i) 8))

/-- The tensor that a record describes, before advances; `none` where a reserved field is not 0. -/
def State.recTens (s : State) (q : Seq) (w : List Nat) (code : Nat) : Option Tens :=
  let g := fun i => w.getD i 0
  if g 6 / 2 ^ 46 != 0 || g 7 != 0 then none
  else
    let sel := bitsOf (g 6) 45 44
    let base := (g 0 + (if sel = 0 then 0 else s.argOf q (sel - 1))) % 2 ^ 64
    some { code := code, base := base,
           e0 := bitsOf (g 1) 19 0, e1 := bitsOf (g 1) 39 20, e2 := bitsOf (g 1) 55 40, e3 := bitsOf (g 1) 63 56,
           o0 := bitsOf (g 2) 19 0, o1 := bitsOf (g 2) 39 20, o2 := bitsOf (g 2) 55 40, o3 := bitsOf (g 2) 63 56,
           s1 := signedOf 64 (g 3), s2 := signedOf 64 (g 4), s3 := signedOf 64 (g 5) }

/-- Move the origin of a tensor along an axis. -/
def Tens.move (t : Tens) (ax : Nat) (v : Int) : Tens :=
  match ax with
  | 0 => { t with o0 := t.o0 + v }
  | 1 => { t with o1 := t.o1 + v }
  | 2 => { t with o2 := t.o2 + v }
  | _ => { t with o3 := t.o3 + v }

def Tens.negOrigin (t : Tens) : Bool := decide (t.o0 < 0) || decide (t.o1 < 0) || decide (t.o2 < 0) || decide (t.o3 < 0)

/-- The same tensor with other extents. -/
def Tens.withExt (t : Tens) (e0 e1 e2 e3 : Nat) : Tens := { t with e0 := e0, e1 := e1, e2 := e2, e3 := e3 }

/-! ### Format rules of a slot (R46, R51, R52, R78, R100, R101) -/

/-- What a slot of an opcode may be. -/
structure Opt where
  /-- The slot is a destination; it must be block-scaled (QUANTISE). -/
  dst : Bool := false
  quant : Bool := false
  /-- An index reference is accepted, or demanded. -/
  idxOk : Bool := false
  idxReq : Bool := false
  /-- No scale, no saturation, no rounding (R111). -/
  copy : Bool := false
  /-- Code 10 is not accepted (R64, R117). -/
  val : Bool := false
  /-- Read through a window: the origin applies on axis 0 only (R119). -/
  win : Bool := false
  /-- EXACT mode: only codes 3–9 and 11 (R81). -/
  exact : Bool := false
  /-- Elements along KAX whose scales are read even where the reference ends before them (R117). -/
  scan : Nat := 0
  deriving DecidableEq, Repr, Inhabited

def Opt.fmtOk (o : Opt) (r : Ref) : Bool :=
  if r.idx then (o.idxOk || o.idxReq) && r.fmt == 0 && r.kax == 0
  else !o.idxReq && (if o.dst then dstFmtOk o.quant r.fmt else srcFmtOk r.fmt)
    && (!o.copy || r.fmt < 16) && (!o.val || valueCode (fmtCode r.fmt)) && (!o.exact || codeScales (fmtCode r.fmt))

/-- R46: alignment of the start address and the outer strides, and the innermost extent. -/
def Tens.aligned (t : Tens) : Bool :=
  let al := fmtAlign t.code
  let ok := fun (st : Int) => st % (al : Int) == 0
  t.addr 0 0 0 0 % al == 0 && ok t.s1 && ok t.s2 && ok t.s3
    && t.e0 % fmtGroup t.code == 0 && t.o0 % (fmtGroup t.code : Int) == 0

/-- R78: the coordinates of a destination fit the fields of the generator index. -/
def Tens.genFits (t : Tens) : Bool :=
  decide (t.o0 + t.e0 ≤ 2 ^ 20) && decide (t.o1 + t.e1 ≤ 2 ^ 20) && decide (t.o2 + t.e2 ≤ 2 ^ 16)
    && decide (t.o3 + t.e3 ≤ 2 ^ 8)

/-- Resolve slot `no` (R535 step 4): its record, then its format. -/
def State.resolve (s : State) (lc no : Nat) (w : DWord) (o : Opt) : Except DF Tref :=
  let q := s.seq lc
  let r := Ref.of w
  let rec_ : DF := { code := 3, ref := no }
  let fmt_ : DF := { code := 4, ref := no }
  if !q.trecOk then .error rec_
  else
    let words := s.recWords lc r.ri
    match s.recTens q words (fmtCode r.fmt) with
    | none => .error rec_
    | some t =>
      if t.e0 = 0 || t.e1 = 0 || t.e2 = 0 || t.e3 = 0 then .error rec_
      else
        let va := signedOf 64 (q.xr r.xa)
        let vb := signedOf 64 (q.xr r.xb)
        let t := (t.move r.axa va).move r.axb vb
        if t.negOrigin then .error rec_
        else
          let org := (t.o1, t.o2, t.o3)
          let t := if o.win then { t with o1 := 0, o2 := 0, o3 := 0 } else t
          let sri := bitsOf (words.getD 6 0) 43 32
          let swords := s.recWords lc sri
          let at_ := fun n => (s.tileAddr lc (q.trec + 64 * n), 64)
          let scaled := fmtBS r.fmt && !r.idx
          let st := if scaled then s.recTens q swords 10 else some {}
          match st with
          | none => .error rec_
          | some st =>
            let div := fun ax (v : Int) => if ax = r.kax then v / 32 else v
            let odd := scaled && ((r.axa == r.kax && va % 32 != 0) || (r.axb == r.kax && vb % 32 != 0))
            let st := (st.move r.axa (div r.axa va)).move r.axb (div r.axb vb)
            let blk := fun ax e => if ax = r.kax then (max e o.scan + 31) / 32 else e
            let st := st.withExt (blk 0 t.e0) (blk 1 t.e1) t.e2 t.e3
            if scaled && !odd && st.negOrigin then .error rec_
            else if !o.fmtOk r || odd || !t.aligned then .error fmt_
            else if o.dst && fmtRnd r.fmt = 1 && !t.genFits then .error { fmt_ with ev := 0x1113 }
            else .ok { t := t, sc := if scaled then some st else none, fmt := r.fmt, kax := r.kax, org := org,
                       tid := words.getD 6 0 % 2 ^ 32, idx := r.idx,
                       recs := at_ r.ri :: (if scaled then [at_ sri] else []) }

/-! ### Where operands may lie (Table 4.5, R96, R116, R536) -/

inductive Loc where
  | tile
  | own
  | peer
  | vec
  | mat (bypass : Bool)
  | matD
  /-- A of DIGEST: a place outside Edesk memory is RECORD (R134). -/
  | edesk
  | cluster
  /-- SEND: the chip field is replaced by the peer's (R128), none where the rank is absent. -/
  | send (chip : Option Nat)
  /-- C of COLL: a place outside the own cluster memory is RECORD (R131). -/
  | staging
  deriving DecidableEq, Repr

def State.inTile (s : State) (lc a n : Nat) : Bool :=
  decide (s.tileAddr lc 0 ≤ a) && decide (a + n ≤ s.tileAddr lc 16777216)
def State.inCluster (s : State) (lc a n : Nat) : Bool :=
  decide (s.clusterAddr lc 0 ≤ a) && decide (a + n ≤ s.clusterAddr lc 67108864)

/-- 0 where `n` bytes at an address are allowed for a location rule, else the code of the fault. -/
def State.locFail (s : State) (lc part : Nat) (loc : Loc) (a n : Nat) : Nat :=
  let own := gaChip a == s.chip && gaChip (a + n - 1) == s.chip
  let sp := gaSpace a
  let rt := fun (b : Bool) => if b && own && sp == gaSpace (a + n - 1) && s.rightsRange part a n then 0 else 5
  match loc with
  | .tile => rt (s.inTile lc a n)
  | .own => rt (decide (sp ≤ 1))
  | .peer =>
    if own then rt (decide (sp ≤ 1))
    else if s.reached part (gaChip a) then (if sp ≤ 1 then 0 else 5) else 9
  | .vec => rt (s.inTile lc a n || s.inCluster lc a n)
  | .mat bypass => rt (s.inTile lc a n || (bypass && (s.inCluster lc a n || sp == 0)))
  | .matD => rt (s.inTile lc a n || s.inCluster lc a n || sp == 0)
  | .edesk => if own && sp == 0 then rt true else 3
  | .cluster => rt (s.inCluster lc a n)
  | .send chip =>
    if chip = some s.chip then
      (if sp ≤ 1 && s.rightsRange part (a % 2 ^ 48 + s.chip * 2 ^ 48) n then 0 else 5)
    else if sp ≤ 1 then 0 else 5
  | .staging => if s.inCluster lc a n then rt true else 3

/-- The first row of a tensor that its location rule refuses. -/
def State.tensFail (s : State) (lc part : Nat) (loc : Loc) (t : Tens) : Nat :=
  (t.rows.findSome? (fun r =>
    let c := s.locFail lc part loc r.1 r.2
    if c = 0 then none else some c)).getD 0

/-- The location check of a reference: its data, then its scales. -/
def State.refLoc (s : State) (lc part no : Nat) (loc : Loc) (r : Tref) : Except DF Tref :=
  let c := s.tensFail lc part loc r.t
  if c ≠ 0 then .error { code := c, ref := no }
  else match r.sc with
  | some x =>
    let c := s.tensFail lc part loc x
    if c ≠ 0 then .error { code := c, ref := no } else .ok r
  | none => .ok r

/-- A signal word of an immediate: own chip, or a reached peer where `peer` (R107, R108). -/
def State.wordFail (s : State) (lc part a : Nat) (peer : Bool) : Nat :=
  if !sigAligned a then 5 else s.locFail lc part (if peer then .peer else .own) a 8

/-! ### Opcodes and their checks (R95, R103, R535) -/

/-- The codes of Table 4.5 with the SUBOP values that their opcodes define; every other code is reserved (R95, R103). -/
def opcodeSubs (c : Nat) : Option (List Nat) :=
  match c with
  | 0x02 => some [1, 2, 3, 4, 5, 6, 7, 17, 18]
  | 0x04 => some [0, 1, 2, 3, 4]
  | 0x05 => some [0, 1]
  | 0x06 => some [0, 1, 2]
  | 0x30 => some (List.range 20)
  | 0x31 => some (List.range 6)
  | 0x33 => some (List.range 6)
  | 0x35 => some [0, 1]
  | 0x00 | 0x01 | 0x03 | 0x07 | 0x10 | 0x11 | 0x12 | 0x13 | 0x14 | 0x15 | 0x16 | 0x17 | 0x18 | 0x20 | 0x21 | 0x32 | 0x34
  | 0x38 | 0x39 | 0x3A | 0x3C | 0x3D => some [0]
  | _ => none

/-- What Table 4.5 and Table 4.6 say of an opcode: its code, the SUBOP and the KIND of COLL that the command's row stands for, whether
the matrix flags are defined, the defined bits of the immediates, whether an immediate is out of range, and for the slots D, A, B, C
whether they are required (2), allowed (1) or not used (0), their format rules and locations; then what it reads or writes by its
immediates: records of the table, and byte ranges. -/
structure Form where
  code : Nat := 0
  sub : Option Nat := none
  kind : Option Nat := none
  mat : Bool := false
  m0 : Nat := 0
  m1 : Nat := 0
  m2 : Nat := 0
  immBad : Bool := false
  need : List Nat := [0, 0, 0, 0]
  opt : List Opt := []
  loc : List Loc := []
  recs : List Nat := []
  inp : List (Nat × Nat) := []
  out : List (Nat × Nat) := []
  deriving DecidableEq, Repr

/-- The references of a descriptor. -/
structure Refs where
  d : Option Tref := none
  a : Option Tref := none
  b : Option Tref := none
  c : Option Tref := none
  deriving DecidableEq, Repr, Inhabited

/-- The descriptor is that of another row: its OPCODE, SUBOP or KIND has a meaning, and not the one that the row stands for. -/
def Desc.foreign (d : Desc) (f : Form) : Bool :=
  match opcodeSubs d.opcode with
  | none => false
  | some l => d.opcode != f.code || (l.contains d.subop && f.sub.any (· != d.subop))
      || (decide (d.imm0.toNat % 16 < 4) && f.kind.any (· != d.imm0.toNat % 16))

/-- A group record: its members in the order of the formula, and whether it is well formed. -/
structure Group where
  count1 : Nat
  step1 : Nat
  count2 : Nat
  step2 : Nat
  base : Nat
  ok : Bool

def groupOf (w : List Nat) : Group :=
  let a := w.getD 0 0
  let b := w.getD 1 0
  { count1 := bitsOf a 15 0, step1 := bitsOf a 31 16, count2 := bitsOf a 47 32, step2 := bitsOf a 63 48, base := b % 16384,
    ok := b / 16384 == 0 && (w.drop 2).all (· == 0) && bitsOf a 15 0 != 0 && bitsOf a 47 32 != 0 }

/-- Bits of an immediate outside a mask. -/
def immOut (v : DWord) (mask : Nat) : Bool := (v.toNat &&& (2 ^ 64 - 1 - mask)) != 0

/-- Step 1 of R535. -/
def Desc.headFail (d : Desc) (f : Form) : Option DF :=
  let badSlot := (List.range 4).find? (fun i =>
    let w := d.slot (i + 1)
    let r := Ref.of w
    if r.present then r.rsvd else w != 0)
  if !(opcodeSubs d.opcode).any (fun l => l.contains d.subop) then some { code := 1 }
  else if d.rsvd ≠ 0 || (!f.mat && (d.bypass || d.open_ || d.win)) then some { code := 1 }
  else match badSlot with
  | some i => some { code := 1, ref := i + 1 }
  | none =>
    if immOut d.imm0 f.m0 || immOut d.imm1 f.m1 || immOut d.imm2 f.m2 || f.immBad then some { code := 1, ref := 5 } else none

/-- Step 3: a required slot that is absent, or an unused one that is present. -/
def Desc.slotFail (d : Desc) (f : Form) : Option DF :=
  ((List.range 4).find? (fun i =>
    let p := (Ref.of (d.slot (i + 1))).present
    let n := f.need.getD i 0
    (n == 2 && !p) || (n == 0 && p))).map (fun i => { code := 3, ref := i + 1 })

/-- The fetch of the descriptor at the program counter: its 64 bytes are read on the own chip (R13, R87). -/
def State.fetch (s : State) (lc : Nat) : State × Option (List Byte) := s.readMem (s.seq lc).pc 64 (s.whoOf lc)

/-- Steps 1–3, with the fetch before them: where a sealed partition's program lies (R491), and a bus error on the read (R13). -/
def State.frontFail (s : State) (lc : Nat) (d : Desc) (f : Form) : Option DF :=
  let q := s.seq lc
  let g := s.prog q.slot
  if !s.ownSealOk g.part q.pc 64 then some { code := 5 }
  else if (s.fetch lc).2.isNone then some { code := 6 }
  else match d.headFail f with
  | some e => some e
  | none => if d.context ≠ g.ctx then some { code := 2 } else d.slotFail f

/-- The group record of a COLL, with which step 4 begins (R130). DEDUCED (log entry 94): it is looked at before the references. -/
def State.groupFail (s : State) (lc : Nat) (f : Form) : Option DF :=
  let q := s.seq lc
  if f.kind.isNone || !q.trecOk then none
  else if !f.recs.all (fun n => s.ownSealOk (s.prog q.slot).part (s.tileAddr lc (q.trec + 64 * n)) 64) then some { code := 5, ref := 5 }
  else if !f.recs.all (fun n => (groupOf (s.recWords lc n)).ok) then some { code := 3, ref := 5 }
  else none

/-- Step 4 for one slot. -/
def State.oneRef (s : State) (lc : Nat) (d : Desc) (f : Form) (i : Nat) : Except DF (Option Tref) :=
  let w := d.slot (i + 1)
  if !(Ref.of w).present then .ok none
  else
    let g := s.prog (s.seq lc).slot
    match s.resolve lc (i + 1) w (f.opt.getD i {}) with
    | .error e => .error e
    | .ok r =>
      if !r.recs.all (fun x => s.ownSealOk g.part x.1 x.2) then .error { code := 5, ref := i + 1 }
      else match s.refLoc lc g.part (i + 1) (f.loc.getD i .own) r with
      | .error e => .error e
      | .ok r => .ok (some r)

/-- Steps 1–4 of R535. -/
def State.prep (s : State) (lc : Nat) (d : Desc) (f : Form) : Except DF Refs :=
  match (s.frontFail lc d f).or (s.groupFail lc f) with
  | some e => .error e
  | none => do
    let rd ← s.oneRef lc d f 0
    let ra ← s.oneRef lc d f 1
    let rb ← s.oneRef lc d f 2
    let rc ← s.oneRef lc d f 3
    return { d := rd, a := ra, b := rb, c := rc }

/-! ### Issue (R88–R90, R138, R139) -/

/-- Units that descriptors in flight occupy. -/
def Seq.unitFree (q : Seq) (unit : Nat) : Bool :=
  let n := (q.infl.filter (fun i => i.unit == unit)).length
  match unit with
  | 0 => true
  | 1 => decide ((q.infl.filter (fun i => i.unit == 1 || i.unit == 2)).length < 2)
  | 4 => true
  | _ => n == 0

/-- The unit that a descriptor takes: data mover 0 when it is free, otherwise data mover 1 (R140). -/
def Seq.unitFor (q : Seq) (unit : Nat) : Nat := if unit = 1 && q.infl.any (fun i => i.unit == 1) then 2 else unit

/-- A slot and the unit are free and nothing holds issue back. -/
def Seq.canIssue (q : Seq) (ser : Bool) (unit : Nat) : Bool :=
  q.st == 1 && !(q.hold && q.chain.isNone) && decide (q.infl.length < 16) && !q.infl.any (fun i => i.ser)
    && !q.infl.any (fun i => i.wait.any WaitK.blocks) && q.unitFree unit && (!ser || q.infl.isEmpty)

/-- Ranges overlap. -/
def rangesMeet (xs ys : List (Nat × Nat)) : Bool :=
  xs.any (fun x => ys.any (fun y => decide (x.1 < y.1 + y.2) && decide (y.1 < x.1 + x.2)))

/-- R89. -/
def Seq.hazard (q : Seq) (dst src : List (Nat × Nat)) : Bool :=
  q.infl.any (fun i => rangesMeet i.dst (dst ++ src) || rangesMeet i.src dst)

/-- The end of loop bodies at descriptor address `a` (R106): where the stream goes on. -/
def Seq.advGo : Nat → Seq → Nat → Seq
  | 0, q, a => { q with pc := a + 64 }
  | fuel + 1, q, a =>
    match q.loops with
    | e :: t =>
      if e.last = a then
        let q := q.setX e.reg ((q.xr e.reg + e.step.toNat) % 2 ^ 64)
        if 1 < e.left then { q with loops := { e with left := e.left - 1 } :: t, pc := e.first }
        else Seq.advGo fuel { q with loops := t } a
      else { q with pc := a + 64 }
    | [] => { q with pc := a + 64 }

/-- The descriptor at `a` has issued. -/
def Seq.adv (q : Seq) (a : Nat) : Seq := q.advGo 5 a

/-- Key of a physical core's hidden state. -/
def State.coreKey (s : State) (lc : Nat) : Nat := lc / 32 * 64 + lc / 8 % 4 * 16 + s.physOf lc

/-- The core page counts an issue (Table 5.6). -/
def State.issueCount (s : State) (lc : Nat) : State :=
  match s.corePage lc with
  | none => s
  | some pg =>
    let k := s.coreKey lc
    let x := tGet s.cores k
    let s := s.setFld64 pg Cor.DESC_LO (s.seq lc).pc
    let s := if x.issueRem = 1023 then s.bump pg Cor.ISSUE_TOT else s
    { s with cores := tSet s.cores k { x with issued := x.issued + 1, issueRem := (x.issueRem + 1) % 1024 } }

/-- Issue of the descriptor at the program counter: counted, and the stream moves on. -/
def State.issued (s : State) (lc : Nat) : State :=
  (s.issueCount lc).modSeq lc (fun q => { (q.adv q.pc) with lastDesc := q.pc, serHold := false })

/-- A descriptor faults. -/
def State.descFault (s : State) (lc desc : Nat) (e : DF) : State :=
  let q := s.seq lc
  let s := if e.code = 5 && !s.ownSealOk (s.prog q.slot).part q.pc 64 then s.sealBlock 8
    else if e.code = 6 && e.ref = 0 && desc = q.pc then (s.fetch lc).1 else s
  s.progFault lc e.code e.ref e.event desc

/-- The descriptor at `desc` completes on a core: the watchdog's tick (R428), and the last descriptor of the program (Table 1.8). -/
def State.completedAt (s : State) (lc desc : Nat) : State :=
  let s := s.modSeq lc (fun q => { q with lastDone := s.tick })
  let n := (s.seq lc).slot
  let p := s.prog n
  if p.active && p.ended.isNone then s.setProg n { p with lastDesc := desc } else s

/-- The descriptor that issued last completes on a core. -/
def State.completed (s : State) (lc : Nat) : State := s.completedAt lc (s.seq lc).lastDesc

/-- Put a descriptor in flight. -/
def State.pushInfl (s : State) (lc : Nat) (i : Infl) : State :=
  (s.modSeq lc (fun q => { q with infl := q.infl ++ [i] })).coreSync lc

/-- The engines that take a matrix descriptor show its context, its address and whether it streams through the bypass lane (Table 5.7). -/
def State.engTake (s : State) (lc desc : Nat) (es : List Nat) (bypass : Bool) : State :=
  let g := s.prog (s.seq lc).slot
  s.each es (fun e s =>
    let pg := Page.eng (lc / 32) (lc / 8 % 4) (s.physOf lc) e
    ((s.setFld pg Eng.ENG_CTX (g.ctx + g.gen * 65536)).setFld64 pg Eng.ENG_DESC_LO desc).setFld pg Eng.ENG_STATUS_BYPASS (bool01 bypass))

/-- What the effect of a descriptor leaves: the state, flags, tags that are outstanding, a signal to give, what it waits for, or
the fault that it met while it ran. -/
structure Eff where
  s : State
  inv : Nat := 0
  sat : Bool := false
  trunc : Nat := 0
  tags : List Nat := []
  sig : Option Sig := none
  wait : Option WaitK := none
  cont : Bool := false
  fault : Option DF := none

/-- A record that the descriptor reads, or a scale record that such a record names, is still being written (R89). -/
def State.recBusy (s : State) (lc : Nat) (d : Desc) (f : Form) : Bool :=
  let q := s.seq lc
  let busy := fun n => q.infl.any (fun i => rangesMeet i.dst [(s.tileAddr lc (q.trec + 64 * n), 64)])
  q.trecOk && (f.recs.any busy || (List.range 4).any (fun i =>
    let r := Ref.of (d.slot (i + 1))
    r.present && (busy r.ri || (fmtBS r.fmt && !r.idx && busy (bitsOf ((s.recWords lc r.ri).getD 6 0) 43 32)))))

/-- The byte ranges that a descriptor writes (R89): its destination, with the chip of the peer for SEND (R128), and what its
immediates name. -/
def Form.dstOf (f : Form) (r : Refs) : List (Nat × Nat) :=
  (match r.d, f.loc.head? with
  | some x, some (.send (some c)) => x.dataRanges.map (fun p => (p.1 % 2 ^ 48 + c * 2 ^ 48, p.2))
  | some x, _ => x.dataRanges
  | none, _ => []) ++ f.out

/-- The byte ranges that it reads: sources, scales, indices and records, and what its immediates name. -/
def State.srcOf (s : State) (lc : Nat) (f : Form) (r : Refs) : List (Nat × Nat) :=
  ([r.a, r.b, r.c].filterMap id).flatMap Tref.ranges ++ (match r.d with | some x => x.recs | none => [])
    ++ f.recs.map (fun n => (s.tileAddr lc ((s.seq lc).trec + 64 * n), 64)) ++ f.inp

/-- A descriptor that serialises is held while earlier ones are in flight (R90): the core shows it. -/
def State.holdSer (s : State) (lc : Nat) (ser : Bool) : State :=
  if ser && (s.seq lc).st == 1 && !(s.seq lc).infl.isEmpty then (s.modSeq lc (fun q => { q with serHold := true })).coreSync lc else s

/-- Issue a descriptor that has references: held, faulted, or put in flight with its effect. `unit` is the unit it needs,
`check` the checks of steps 5 and 6, `engs` the engines it would take (none where too few are idle).
Matrix and vector descriptors are held while an input-power average or a partition's ramp would pass its limit (R504, R340). -/
def State.issue (s : State) (lc : Nat) (d : Desc) (f : Form) (unit : Nat)
    (check : State → Seq → Refs → Option DF) (engs : State → Seq → Refs → Option (List Nat))
    (eff : State → Refs → Nat → Eff) : State :=
  let q := s.seq lc
  if d.foreign f then s
  else if !q.canIssue d.ser unit || ((unit == 3 || unit == 4) && (s.mod_.capHold || s.mod_.rampHold)) then s.holdSer lc d.ser
  else if s.mustAwait [(q.pc, 64)] [] then s.lineAwait (.core lc q.nextId) [(q.pc, 64)] []
  else if (s.frontFail lc d f).isNone && s.recBusy lc d f then s
  else match s.prep lc d f with
  | .error e => s.descFault lc q.pc e
  | .ok r =>
    match check s q r with
    | some e => s.descFault lc q.pc e
    | none =>
      let dst := f.dstOf r
      let src := s.srcOf lc f r
      let ser := d.ser || rangesMeet dst [(s.tileAddr lc q.trec, 262144)]
      if q.hazard dst src || (ser && !q.infl.isEmpty) then s.holdSer lc ser
      else match engs s q r with
      | none => s
      | some es =>
        if s.mustAwait src dst then s.lineAwait (.core lc q.nextId) src dst else
        let s := (s.issued lc).modSeq lc (fun q => { q with nextId := q.nextId + 1 })
        let e := eff s r q.nextId
        match e.fault with
        | some x => e.s.descFault lc q.pc x
        | none =>
          let s := e.s.engTake lc q.pc es d.bypass
          s.pushInfl lc { id := q.nextId, desc := q.pc, unit := q.unitFor unit, engines := es, dst := dst, src := src, ser := ser,
                          wait := e.wait, tags := e.tags, sig := e.sig, inv := e.inv, sat := e.sat, trunc := e.trunc,
                          cont := e.cont }

/-- Issue a descriptor without references: `serial` for those of R90, `check` for step 6, `eff` its effect. A descriptor that
`eff` completes at issue is not put in flight. -/
def State.issueCtl (s : State) (lc : Nat) (d : Desc) (f : Form) (serial : Bool) (unit : Nat)
    (check : State → Seq → Option DF) (eff : State → Nat → State) : State :=
  let q := s.seq lc
  if d.foreign f then s
  else if !q.canIssue (d.ser || serial) unit || q.hazard f.out f.inp then s.holdSer lc (d.ser || serial)
  else if s.mustAwait [(q.pc, 64)] [] then s.lineAwait (.core lc q.nextId) [(q.pc, 64)] []
  else match s.frontFail lc d f with
  | some e => s.descFault lc q.pc e
  | none =>
    match check s q with
    | some e => s.descFault lc q.pc e
    | none =>
      if s.mustAwait f.inp f.out then s.lineAwait (.core lc q.nextId) f.inp f.out
      else eff ((s.issued lc).modSeq lc (fun q => { q with nextId := q.nextId + 1 })) q.nextId

/-! ### Retirement (R65, R102, R136) -/

/-- A descriptor leaves the flight: its flags reach PFLAGS and the core page. -/
def State.retire (s : State) (lc id : Nat) : State :=
  match (s.seq lc).infl.find? (fun i => i.id == id) with
  | none => s
  | some i =>
    let fl := bool01 (decide (0 < i.inv)) + 2 * bool01 i.sat + 4 * bool01 (decide (0 < i.trunc))
    let s := s.modSeq lc (fun q => { q with infl := q.infl.filter (fun j => j.id != id), pflags := q.pflags ||| fl })
    let s := match s.corePage lc with
      | none => s
      | some pg =>
        let s := if 0 < i.inv then s.bump pg Cor.CVT_INVALID else s
        let s := if i.sat then s.bump pg Cor.CVT_SAT else s
        if i.trunc = 0 then s else s.bumpBy pg Cor.ACC_TRUNC i.trunc
    let s := if i.inv = 0 then s
      else s.event 0x1111 (s.coreUpath lc) [(2, (s.prog (s.seq lc).slot).ctx), (8, i.desc), (2, min i.inv 65535)]
    (s.completedAt lc i.desc).coreSync lc

/-- Change a descriptor in flight. -/
def State.modInfl (s : State) (lc id : Nat) (f : Infl → Infl) : State :=
  s.modSeq lc (fun q => { q with infl := q.infl.map (fun i => if i.id = id then f i else i) })

/-- Die of a logical core, which sends its flits (R239). -/
def dieOf (lc : Nat) : Nat := lc / 32

/-- Send an end-to-end operation of a core and note what it awaits: answers the state and its tag. -/
def State.sendOp (s : State) (lc id dest cls : Nat) (mk : Nat → Pay) (read : Bool) (dst bytes : Nat) : State × Nat :=
  let g := s.prog (s.seq lc).slot
  let die := dieOf lc
  let tag := s.fld64 (.cry 0) Cry.NCTR_LO (keyBank g.part (s.txPhase g.part) + die * 16384) % 2 ^ 32
  let (s, _) := s.sendE2e dest g.part g.ctx g.gen cls die (mk tag)
  ({ s with outst := s.outst ++ [{ chip := dest, part := g.part, tag := tag, read := read, lc := lc, infl := id,
                                   dst := dst, bytes := bytes }] }, tag)

/-- Give a signal (R108): on the own chip at once, to a peer as a SIG flit whose acknowledgement the descriptor awaits. -/
def State.giveSig (s : State) (lc id : Nat) (g : Sig) : State :=
  let p := s.prog (s.seq lc).slot
  if g.chip = s.chip then
    let (s, ok) := s.signalWord g.addr g.value g.write (some (p.ctx, p.gen))
    let s := s.modInfl lc id (fun i => { i with sig := none, vis := [(g.addr, 8)] })
    if ok then s
    else match (s.seq lc).infl.find? (fun i => i.id == id) with
      | some i => s.progFault lc 0x06 5 0x1124 i.desc
      | none => s
  else
    let (s, tag) := s.sendOp lc id g.chip 0 (fun _ => .sig (g.addr % 2 ^ 48) g.value g.write) false 0 0
    s.modInfl lc id (fun i => { i with sig := none, tags := i.tags ++ [tag] })

/-- Signals whose earlier writes are visible are given, in stream order (R108, R226). -/
def State.flushSigsGo (lc : Nat) : Nat → State → State
  | 0, s => s
  | fuel + 1, s =>
    let l := (s.seq lc).infl
    match l.findIdx? (fun i => i.sig.isSome) with
    | none => s
    | some n =>
      if (l.take (n + 1)).any (fun i => !i.tags.isEmpty || s.heldOn (i.dst ++ i.vis)) then s
      else match l[n]? with
      | some i => match i.sig with
        | some g => flushSigsGo lc fuel (s.giveSig lc i.id g)
        | none => s
      | none => s

def State.flushSigs (s : State) (lc : Nat) : State := State.flushSigsGo lc 17 s

/-- Signals of every core whose earlier writes have become visible are given. -/
def State.flushAll (s : State) : State := s.each (s.seqs.map (·.1)) (fun lc s => s.flushSigs lc)

/-- A wait is over. -/
def State.waitDone (s : State) (lc id : Nat) : State := (s.modInfl lc id (fun i => { i with wait := none })).retire lc id

end Sys2Proof.Machine
end

