-- ==== Sys2Proof/Machine/Control.lean ====
section
/-! DEFINITION. The control descriptors (R104–R110), RECV (R129), NMCALL (R133) and the conditions that release them. -/
namespace Sys2Proof.Machine

/-- All bits of an immediate. -/
def imm64 : Nat := 2 ^ 64 - 1

def State.setPc (s : State) (lc pc : Nat) : State := s.modSeq lc (fun q => { q with pc := pc })

/-- NMCALLs of the program on a core whose commands have not ended (R90, R93). -/
def State.nmcallsOpen (s : State) (lc : Nat) : Bool :=
  s.nmus.any (fun e => (e.2.qCall ++ e.2.running).any (fun c => c.lc == lc && s.nmcallLive c))

/-- NOP (R104). -/
def execNop (lc : Nat) (d : Desc) (s : State) : Host.Outcome State Fault Refusal :=
  .next (s.issueCtl lc d {} false 0 (fun _ _ => none) (fun s _ => s.completed lc))

/-- END (R93). -/
def execEndStream (lc : Nat) (d : Desc) (s : State) : Host.Outcome State Fault Refusal :=
  if s.nmcallsOpen lc then .next s
  else .next (s.issueCtl lc d { code := 0x01 } true 0
    (fun _ q => if q.chain.isSome then some { code := 8 } else none)
    (fun s _ => ((s.modSeq lc (fun q => { q with st := 2, loops := [], chain := none })).completed lc).coreSync lc))

/-- The registers after SET writes `v` to register `n`, before the pass that the SET may end adds its STEP (R105, R106). -/
def Seq.setTo (q : Seq) (n v : Nat) : Seq :=
  if n = 17 then { q with trec := v } else if n = 18 then { q with pflags := v % 8 } else q.setX n v

/-- SET (R105): the destination is written, and then a pass that ends here adds its STEP. -/
def execSetReg (lc : Nat) (d : Desc) (s : State) : Host.Outcome State Fault Refusal :=
  let rs := s.seqReg lc (d.imm0.toNat % 256)
  let q0 := s.seq lc
  .next (s.issueCtl lc d
    { code := 0x02, m0 := 255, m1 := imm64, m2 := imm64, immBad := rs.isNone } false 0
    (fun _ _ => none)
    (fun s _ =>
      let v := (rs.getD 0 * d.imm1.toNat + d.imm2.toNat) % 2 ^ 64
      let r := (q0.setTo d.subop v).adv q0.pc
      (s.modSeq lc (fun q =>
        { q with x := r.x, trec := r.trec, pflags := r.pflags, loops := r.loops, pc := r.pc })).completed lc))

/-- LOOP (R106). -/
def execLoop (lc : Nat) (d : Desc) (s : State) : Host.Outcome State Fault Refusal :=
  let v := d.imm0.toNat
  let count := v % 2 ^ 32
  let body := bitsOf v 47 32
  let reg := bitsOf v 50 48
  .next (s.issueCtl lc d { code := 0x03, m0 := 2 ^ 51 - 1, m1 := imm64, m2 := imm64 } false 0
    (fun _ q =>
      let past := match q.loops with | e :: _ => decide (e.last < q.pc + 64 * body) | [] => false
      if body = 0 || reg = 0 || q.loops.any (fun e => e.reg == reg) || 4 ≤ q.loops.length || past then
        some { code := 7, ref := 5 }
      else none)
    (fun s _ =>
      (s.modSeq lc (fun q =>
        let a := q.lastDesc
        let q := q.setX reg d.imm1.toNat
        if count = 0 then q.adv (a + 64 * body)
        else { q with loops := { first := a + 64, last := a + 64 * body, left := count, reg := reg, step := d.imm2 } :: q.loops,
                      pc := a + 64 })).completed lc))

/-! ### Waiting on words (R107, R129) -/

/-- A comparison of R107: 0 GE, 1 EQ, 2 NE. -/
def waitTrue (kind v x : Nat) : Bool :=
  match kind with
  | 0 => decide (x ≤ v)
  | 1 => v == x
  | _ => v != x

/-- Evaluate the condition of a WAIT in flight; a bus error faults it. A word whose line waits for its outcome is read afterwards (R175). -/
def State.waitEval (s : State) (lc id kind addr x : Nat) : State :=
  if s.mustAwait [(addr, 8)] [] then s.lineAwait (.core lc id) [(addr, 8)] [] else
  match s.readMem addr 8 (s.whoOf lc) with
  | (s, some b) => if waitTrue kind (natLE b) x then s.waitDone lc id else s
  | (s, none) => s.progFault lc 0x06 5 0x1124 (((s.seq lc).infl.find? (fun i => i.id == id)).elim 0 (·.desc))

/-- Evaluate the condition of a RECV in flight and subtract once it holds (R129). Where the write would be held on a PENDING unit, the
unit is saved first (R212), and the RECV goes on when its word can be written. -/
def State.recvEval (s : State) (lc id addr x : Nat) : State :=
  if s.mustAwait [(addr, 8)] [] then s.lineAwait (.core lc id) [(addr, 8)] [] else
  let bad := fun (s : State) => s.progFault lc 0x06 5 0x1124 (((s.seq lc).infl.find? (fun i => i.id == id)).elim 0 (·.desc))
  match s.readMem addr 8 (s.whoOf lc) with
  | (s, some b) =>
    if x ≤ natLE b then
      match s.wordHeld addr with
      | some (k, l, _) => if (s.mat k).held.any (fun w => w.l / 4096 == l / 4096) then s else s.matHold k { off := gaOff addr, l := l }
      | none =>
      let (s, ok) := s.writeMem addr (bytesLE 8 (natLE b - x)) (s.whoOf lc)
      if ok then s.waitDone lc id else bad s
    else s
  | (s, none) => bad s

/-- The tick at which a timeout of IMM2 expires, 0 for none. -/
def State.deadline (s : State) (d : Desc) : Nat :=
  if d.imm2.toNat % 2 ^ 32 = 0 then 0 else s.tick + d.imm2.toNat % 2 ^ 32

/-- A WAIT of SUBOP 0–2: put in flight and evaluated at once. -/
def State.waitIssue (s : State) (lc : Nat) (d : Desc) (kind : Nat) : State :=
  s.issueCtl lc d { code := 0x04, sub := some kind, m0 := imm64, m1 := imm64, m2 := 2 ^ 32 - 1 } false 0
    (fun s _ =>
      let c := s.wordFail lc (s.partOf lc) d.imm0.toNat false
      if c = 0 then none else some { code := c, ref := 5 })
    (fun s id =>
      let s := s.pushInfl lc { id := id, desc := (s.seq lc).lastDesc, ser := d.ser,
                               wait := some (.cmp kind d.imm0.toNat d.imm1.toNat (s.deadline d)) }
      s.waitEval lc id kind d.imm0.toNat d.imm1.toNat)

/-- WAIT_GE (R107). -/
def execWaitGe (lc : Nat) (d : Desc) (s : State) : Host.Outcome State Fault Refusal := .next (s.waitIssue lc d 0)

/-- WAIT_EQ (R107). -/
def execWaitEq (lc : Nat) (d : Desc) (s : State) : Host.Outcome State Fault Refusal := .next (s.waitIssue lc d 1)

/-- WAIT_NE (R107). -/
def execWaitNe (lc : Nat) (d : Desc) (s : State) : Host.Outcome State Fault Refusal := .next (s.waitIssue lc d 2)

/-- WAIT_ASSERT (R107): it issues when every earlier descriptor has completed (R90), so what it waits for holds before a timeout of
IMM2 could begin to run. -/
def execWaitAssert (lc : Nat) (d : Desc) (s : State) : Host.Outcome State Fault Refusal :=
  .next (s.issueCtl lc d { code := 0x04, sub := some 3, m0 := 7, m2 := 2 ^ 32 - 1 } true 0
    (fun _ q => if q.pflags &&& d.imm0.toNat ≠ 0 then some { code := 0x0D, ref := 5 } else none)
    (fun s _ => s.completed lc))

/-- WAIT_DRAIN (R107), with a timeout that cannot expire, as for WAIT_ASSERT. -/
def execWaitDrain (lc : Nat) (d : Desc) (s : State) : Host.Outcome State Fault Refusal :=
  .next (s.issueCtl lc d { code := 0x04, sub := some 4, m2 := 2 ^ 32 - 1 } true 0 (fun _ _ => none) (fun s _ => s.completed lc))

/-- The wait of a descriptor in flight. -/
def State.waitOf (s : State) (lc id : Nat) : Option WaitK :=
  match (s.seq lc).infl.find? (fun i => i.id == id) with
  | some i => i.wait
  | none => none

/-- WAIT_CONDITION_MET (R107): the condition is evaluated after a write or at an edge. -/
def execWaitConditionMet (lc id : Nat) (s : State) : Host.Outcome State Fault Refusal :=
  match s.waitOf lc id with
  | some (.cmp kind a x _) => .next (s.waitEval lc id kind a x)
  | _ => .next s

/-- WAIT_TIMEOUT (R107, R129): the timeout tick has come and the condition is still false. -/
def execWaitTimeout (lc id : Nat) (s : State) : Host.Outcome State Fault Refusal :=
  let go := fun (s : State) (late : Bool) =>
    match s.waitOf lc id with
    | some _ => if late then s.progFault lc 0x0E 5 0x112B (((s.seq lc).infl.find? (fun i => i.id == id)).elim 0 (·.desc)) else s
    | none => s
  match s.waitOf lc id with
  | some (.cmp kind a x dl) =>
    if dl ≠ 0 && dl ≤ s.tick then .next (go (s.waitEval lc id kind a x) ((s.seq lc).st == 1)) else .next s
  | some (.recv a x dl) =>
    if dl ≠ 0 && dl ≤ s.tick then .next (go (s.recvEval lc id a x) ((s.seq lc).st == 1)) else .next s
  | _ => .next s

/-- RECV (R129). -/
def execRecv (lc : Nat) (d : Desc) (s : State) : Host.Outcome State Fault Refusal :=
  .next (s.issueCtl lc d { code := 0x39, m0 := imm64, m1 := imm64, m2 := 2 ^ 32 - 1 } false 0
    (fun s _ =>
      let c := s.wordFail lc (s.partOf lc) d.imm0.toNat false
      if c = 0 then none else some { code := c, ref := 5 })
    (fun s id =>
      let s := s.pushInfl lc { id := id, desc := (s.seq lc).lastDesc, ser := d.ser,
                               wait := some (.recv d.imm0.toNat d.imm1.toNat (s.deadline d)) }
      s.recvEval lc id d.imm0.toNat d.imm1.toNat))

/-- RECV_SATISFIED (R129): the word is evaluated after a write or at an edge. -/
def execRecvSatisfied (lc id : Nat) (s : State) : Host.Outcome State Fault Refusal :=
  match s.waitOf lc id with
  | some (.recv a x _) => .next (s.recvEval lc id a x)
  | _ => .next s

/-! ### Signals (R108) -/

/-- SIGNAL of SUBOP 0 or 1: given once every earlier write of the core is visible. -/
def State.signalIssue (s : State) (lc : Nat) (d : Desc) (write : Bool) : State :=
  let part := s.partOf lc
  let useRank := bitAt d.imm2.toNat 16
  let chip := if useRank then s.rankChip part (d.imm2.toNat % 16384) else some (gaChip d.imm0.toNat)
  let addr := d.imm0.toNat % 2 ^ 48 + chip.getD 0 * 2 ^ 48
  s.issueCtl lc d { code := 0x05, sub := some (bool01 write), m0 := imm64, m1 := imm64, m2 := 0x13FFF } false 0
    (fun s _ =>
      if chip.isNone then some { code := 9, ref := 5 }
      else
        let c := s.wordFail lc part addr true
        if c = 0 then none else some { code := c, ref := 5 })
    (fun s id =>
      let s := s.pushInfl lc { id := id, desc := (s.seq lc).lastDesc, ser := d.ser,
                               sig := some { chip := chip.getD 0, addr := addr, value := d.imm1.toNat, write := write } }
      s.flushSigs lc)

/-- SIGNAL_ADD (R108). -/
def execSignalAdd (lc : Nat) (d : Desc) (s : State) : Host.Outcome State Fault Refusal := .next (s.signalIssue lc d false)

/-- SIGNAL_WRITE (R108). -/
def execSignalWrite (lc : Nat) (d : Desc) (s : State) : Host.Outcome State Fault Refusal := .next (s.signalIssue lc d true)

/-! ### Ticks and fences (R109, R110) -/

/-- TICKW (R109): a target that has passed completes at once. Its register is read at issue, before a pass that it ends adds STEP. -/
def execTickw (lc : Nat) (d : Desc) (s : State) : Host.Outcome State Fault Refusal :=
  let q0 := s.seq lc
  .next (s.issueCtl lc d { code := 0x06, m0 := imm64, m1 := if d.subop = 2 then 7 else 0 } false 0
    (fun _ _ => none)
    (fun s id =>
      let q := s.seq lc
      let base := match d.subop with
        | 0 => 0
        | 1 => (s.prog q.slot).startAct
        | _ => q0.xr (d.imm1.toNat % 8)
      let target := (base + d.imm0.toNat) % 2 ^ 64
      if target ≤ s.tick then s.completed lc
      else s.pushInfl lc { id := id, desc := q.lastDesc, ser := d.ser, wait := some (.tick target) }))

/-- TICKWs whose target the tick count has reached complete (R109). -/
def State.tickwEdge (s : State) : State :=
  s.each s.seqs (fun e s =>
    s.each e.2.infl (fun i s =>
      match i.wait with
      | some (.tick t) => if t ≤ s.tick then s.waitDone e.1 i.id else s
      | _ => s))

/-- STEPF (R110): the core arrives at its partition's fence. -/
def execStepf (lc : Nat) (d : Desc) (s : State) : Host.Outcome State Fault Refusal :=
  if s.nmcallsOpen lc then .next s
  else .next (s.issueCtl lc d { code := 0x07, m0 := imm64 } true 0
    (fun s q =>
      if q.chain.isSome then some { code := 8 }
      else if d.imm0.toNat ≠ (s.stepOf (s.partOf lc) + 1) % 2 ^ 64 then some { code := 0x0C, ref := 5 } else none)
    (fun s id => s.pushInfl lc { id := id, desc := (s.seq lc).lastDesc, ser := true, wait := some .fence }))

/-! ### NMCALL (R133) -/

/-- Commands that the queue of NMCALLs holds (R191). -/
def nmcallDepth : Nat := 64

/-- The form of NMCALL. -/
def Desc.nmForm (d : Desc) : Form :=
  { code := 0x3C, m0 := 0x30F, m1 := imm64, m2 := imm64, immBad := decide (11 < d.imm0.toNat % 16), inp := [(d.imm1.toNat, 64)] }

/-- The checks of NMCALL on its addresses. -/
def State.nmFail (s : State) (lc : Nat) (d : Desc) : Option DF :=
  let part := s.partOf lc
  let a := d.imm1.toNat
  let c := if a % 64 ≠ 0 then 5 else s.locFail lc part .own a 64
  let w := if bitAt d.imm0.toNat 9 then s.wordFail lc part d.imm2.toNat false else 0
  if c ≠ 0 then some { code := c, ref := 5 } else if w ≠ 0 then some { code := w, ref := 5 } else none

/-- NMCALL (R133): the command joins the stack's queue; a full queue holds it at issue, a FAILED NMU faults it. -/
def execNmcall (lc : Nat) (d : Desc) (s : State) : Host.Outcome State Fault Refusal :=
  let k := d.imm0.toNat % 16
  let x := s.nmuSt k
  let full := decide (nmcallDepth ≤ x.qCall.length)
  if full && (s.frontFail lc d d.nmForm).isNone && (s.nmFail lc d).isNone then .next s
  else .next (s.issueCtl lc d d.nmForm false 6 (fun s _ => s.nmFail lc d)
    (fun s id =>
      let q := s.seq lc
      let g := s.prog q.slot
      if x.failed then s.progFault lc 0x0B 0 0x1129 q.lastDesc
      else
        let (s, c) := s.nmuFetch k d.imm1.toNat 0 g.ctx g.gen g.part
        let sync := bitAt d.imm0.toNat 8
        let c := { c with lc := lc, infl := id, desc := q.lastDesc, sync := sync, prog := q.slot + 4096 * g.startAct,
                          sigAddr := if bitAt d.imm0.toNat 9 then d.imm2.toNat + 2 ^ 64 else 0 }
        let y := s.nmuSt k
        let s := s.setNmu k { y with qCall := y.qCall ++ [c], nextId := y.nextId + 1 }
        if sync then
          s.pushInfl lc { id := id, desc := q.lastDesc, ser := d.ser, src := [(d.imm1.toNat, 64)], wait := some (.nm k c.id) }
        else s.completed lc))

end Sys2Proof.Machine
end

