-- ==== Sys2Proof/Machine/Arrays.lean ====
section
/-! DEFINITION. Tensors as descriptors read and write them: the elements of a reference with their scales (R49, R98, R100),
rounding draws by coordinates (R78), and the conversion of a result into its destination (R53, R62, R65, R75). -/
namespace Sys2Proof.Machine

/-- Values of a tensor, axis 0 fastest; the flag says that a reserved pattern was read (R44). -/
structure Arr where
  e0 : Nat := 1
  e1 : Nat := 1
  e2 : Nat := 1
  e3 : Nat := 1
  v : List (Val × Bool) := []
  deriving DecidableEq, Repr, Inhabited

def zeroVal : Val := .fin false 0 1

/-- Elements that held a reserved pattern. -/
def Arr.rsvd (a : Arr) : Nat := (a.v.filter (·.2)).length

/-- The value at an index; an axis of extent 1 broadcasts. -/
def Arr.at_ (a : Arr) (i0 i1 i2 i3 : Nat) : Val × Bool :=
  let m := fun e i => if e = 1 then 0 else i
  a.v.getD (m a.e0 i0 + a.e0 * (m a.e1 i1 + a.e1 * (m a.e2 i2 + a.e2 * m a.e3 i3))) (zeroVal, false)

/-- The indices of a tensor's elements, axis 0 fastest. -/
def Tens.ix (t : Tens) : List (Nat × Nat × Nat × Nat) :=
  t.rowIx.flatMap (fun r => (List.range t.e0).map (fun i0 => (i0, r.1, r.2.1, r.2.2)))

def Tens.flat (t : Tens) (i0 i1 i2 i3 : Nat) : Nat := i0 + t.e0 * (i1 + t.e1 * (i2 + t.e2 * i3))

/-- The generator index E of an element (R78). -/
def Tens.gen (t : Tens) (i0 i1 i2 i3 : Nat) : Nat :=
  (t.o0 + i0 + (t.o1 + i1) * 2 ^ 20 + (t.o2 + i2) * 2 ^ 40 + (t.o3 + i3) * 2 ^ 56).toNat

/-- Read byte ranges one after the other; none at the first bus error. -/
def State.readRows (s : State) (rows : List (Nat × Nat)) (ctx : Option (Nat × Nat)) : State × Option (List (List Byte)) :=
  rows.foldl (fun (acc : State × Option (List (List Byte))) r =>
    match acc.2 with
    | none => acc
    | some l => match acc.1.readMem r.1 r.2 ctx with
      | (s, some b) => (s, some (l ++ [b]))
      | (s, none) => (s, none)) (s, some [])

/-- The element bits of a tensor. -/
def State.readBits (s : State) (t : Tens) (ctx : Option (Nat × Nat)) : State × Option (List Nat) :=
  match s.readRows t.rows ctx with
  | (s, some l) => (s, some (l.flatMap (unpackElems t.code t.e0)))
  | (s, none) => (s, none)

/-- Rows as they were read, spread over all rows: one that was not read counts as zeros. -/
def spreadRows (code n : Nat) : List Bool → List (List Byte) → List Nat
  | [], _ => []
  | true :: ks, b :: bs => unpackElems code n b ++ spreadRows code n ks bs
  | true :: ks, [] => List.replicate n 0 ++ spreadRows code n ks []
  | false :: ks, bs => List.replicate n 0 ++ spreadRows code n ks bs

/-- The element bits of a tensor of which only the rows that `keep` names, by their indices on axes 1–3, are read. -/
def State.readBitsOf (s : State) (t : Tens) (keep : Nat × Nat × Nat → Bool) (ctx : Option (Nat × Nat)) : State × Option (List Nat) :=
  match s.readRows ((t.rowIx.filter keep).map (fun i => (t.addr 0 i.1 i.2.1 i.2.2, t.rowBytes))) ctx with
  | (s, some l) => (s, some (spreadRows t.code t.e0 (t.rowIx.map keep) l))
  | (s, none) => (s, none)

/-- The values that element bits and scale bytes in element order give (R49, R50). -/
def Tref.values (r : Tref) (bits scs : List Nat) : List (Val × Bool) :=
  match r.sc with
  | none => bits.map (decodeElem r.t.code)
  | some sc =>
    let at_ := fun (i : Nat × Nat × Nat × Nat) =>
      if r.kax = 0 then scs.getD (sc.flat (i.1 / 32) i.2.1 i.2.2.1 i.2.2.2) 0
      else scs.getD (sc.flat i.1 (i.2.1 / 32) i.2.2.1 i.2.2.2) 0
    (r.t.ix.zip bits).map (fun p => decodeScaled r.t.code p.2 (at_ p.1))

/-- The values of a reference of which only the rows that `keep` names along axis 1 are read, with their scales. -/
def State.readRowsOf (s : State) (r : Tref) (keep : Nat → Bool) (ctx : Option (Nat × Nat)) : State × Option (List (Val × Bool)) :=
  match s.readBitsOf r.t (fun i => keep i.1) ctx with
  | (s, none) => (s, none)
  | (s, some bits) =>
    match r.sc with
    | none => (s, some (r.values bits []))
    | some sc =>
      let row := fun (i : Nat × Nat × Nat) => if r.kax = 0 then keep i.1 else (List.range 32).any (fun j => keep (32 * i.1 + j))
      match s.readBitsOf sc row ctx with
      | (s, none) => (s, none)
      | (s, some scs) => (s, some (r.values bits scs))

/-- The values of a reference, scales applied (R49, R50). -/
def State.readArr (s : State) (r : Tref) (ctx : Option (Nat × Nat)) : State × Option Arr :=
  let t := r.t
  let mk := fun v => some { e0 := t.e0, e1 := t.e1, e2 := t.e2, e3 := t.e3, v := v : Arr }
  match s.readBits t ctx with
  | (s, none) => (s, none)
  | (s, some bits) =>
    match r.sc with
    | none => (s, mk (r.values bits []))
    | some sc =>
      match s.readBits sc ctx with
      | (s, none) => (s, none)
      | (s, some scs) => (s, mk (r.values bits scs))

/-- Write rows of bytes; the flag says that every line took them. -/
def State.writeRows (s : State) (rows : List (Nat × List Byte)) (ctx : Option (Nat × Nat)) : State × Bool :=
  rows.foldl (fun (acc : State × Bool) r =>
    let (s, ok) := acc.1.writeMem r.1 r.2 ctx
    (s, acc.2 && ok)) (s, true)

/-- Cut a list into rows of `n`. -/
def rowsOf {α : Type} (n : Nat) : Nat → List α → List (List α)
  | 0, _ => []
  | fuel + 1, l => l.take n :: rowsOf n fuel (l.drop n)

/-- Write the element bits of a tensor. -/
def State.writeBits (s : State) (t : Tens) (bits : List Nat) (ctx : Option (Nat × Nat)) : State × Bool :=
  let rows := t.rows
  s.writeRows ((rows.zip (rowsOf t.e0 rows.length bits)).map (fun p => (p.1.1, packElems t.code t.e0 p.2))) ctx

/-- What conversion into a destination gives: element bits, scale bytes and flags. -/
structure OutBits where
  bits : List Nat := []
  scs : List Nat := []
  fl : Flags := {}
  deriving Repr

/-- Convert values in element order into an unscaled destination. -/
def convOut (r : Tref) (seed step : Nat) (vals : List (Val × Bool)) : OutBits :=
  let cvs := (r.t.ix.zip vals).map (fun p =>
    let i := p.1
    (convert r.t.code (fmtSat r.fmt) (rndOf r.fmt seed step r.tid (r.t.gen i.1 i.2.1 i.2.2.1 i.2.2.2)) p.2.1, p.2.2))
  { bits := cvs.map (fun c => c.1.bits), fl := cvs.foldl (fun a c => a.join (Flags.ofCv c.1 c.2)) {} }

/-- Quantise values into a block-scaled destination (R62): lines along KAX, each in blocks of 32. -/
def quantOut (r : Tref) (sc : Tens) (seed step : Nat) (vals : List (Val × Bool)) : OutBits :=
  let t := r.t
  let n := if r.kax = 0 then t.e0 else t.e1
  let lines := if r.kax = 0 then t.rowIx else (List.range t.e3).flatMap (fun i3 =>
    (List.range t.e2).flatMap (fun i2 => (List.range t.e0).map (fun i0 => (i0, i2, i3))))
  let idx := fun (l : Nat × Nat × Nat) j => if r.kax = 0 then (j, l.1, l.2.1, l.2.2) else (l.1, j, l.2.1, l.2.2)
  let res := lines.map (fun l =>
    quantArray r.fmt (fun j =>
        let i := idx l j
        rndOf r.fmt seed step r.tid (t.gen i.1 i.2.1 i.2.2.1 i.2.2.2)) n 0
      ((List.range n).map (fun j => let i := idx l j; vals.getD (t.flat i.1 i.2.1 i.2.2.1 i.2.2.2) (zeroVal, false))))
  let line := fun (i : Nat × Nat × Nat × Nat) =>
    if r.kax = 0 then res.getD (i.2.1 + t.e1 * (i.2.2.1 + t.e2 * i.2.2.2)) ([], [], {})
    else res.getD (i.1 + t.e0 * (i.2.2.1 + t.e2 * i.2.2.2)) ([], [], {})
  let pos := fun (i : Nat × Nat × Nat × Nat) => if r.kax = 0 then i.1 else i.2.1
  { bits := t.ix.map (fun i => (line i).2.1.getD (pos i) 0),
    scs := sc.ix.map (fun i => (line i).1.getD (pos i) 0),
    fl := res.foldl (fun a x => a.join x.2.2) {} }

/-- Round values in element order once into a destination and write it (R75); the flag says that every line took it. -/
def State.writeOut (s : State) (r : Tref) (part : Nat) (vals : List (Val × Bool)) (ctx : Option (Nat × Nat)) :
    State × Flags × Bool :=
  let seed := s.seedOf part
  let step := s.stepOf part
  match r.sc with
  | none =>
    let o := convOut r seed step vals
    let (s, ok) := s.writeBits r.t o.bits ctx
    (s, o.fl, ok)
  | some sc =>
    let o := quantOut r sc seed step vals
    let (s, ok) := s.writeBits sc o.scs ctx
    let (s, ok') := s.writeBits r.t o.bits ctx
    (s, o.fl, ok && ok')

/-- The effect of a descriptor that has written its destination: a write that a line refused is fault BUS on slot D. -/
def Eff.ofOut (o : State × Flags × Bool) : Eff :=
  { s := o.1, inv := if o.2.1.inv then max 1 o.2.1.invCnt else 0, sat := o.2.1.sat,
    fault := if o.2.2 then none else some { code := 6, ref := 1 } }

/-- The effect with `n` invalid elements more (R65). -/
def Eff.plus (e : Eff) (n : Nat) : Eff := { e with inv := e.inv + n }

/-- A bus error on the read of a slot. -/
def Eff.bus (s : State) (slot : Nat) : Eff := { s := s, fault := some { code := 6, ref := slot } }

def Tens.ext (t : Tens) : Nat × Nat × Nat × Nat := (t.e0, t.e1, t.e2, t.e3)

/-- Issue without engines. -/
def noEngs : State → Seq → Refs → Option (List Nat) := fun _ _ _ => some []

/-- The references of slots D, A, B that `prep` has made present. -/
def Refs.dd (r : Refs) : Tref := r.d.getD {}
def Refs.aa (r : Refs) : Tref := r.a.getD {}
def Refs.bb (r : Refs) : Tref := r.b.getD {}
def Refs.cc (r : Refs) : Tref := r.c.getD {}

end Sys2Proof.Machine
end

