-- ==== Sys2Proof/Machine/Matrix.lean ====
section
/-! DEFINITION. MATMUL and MATMUL_ACC (R63, R66–R73, R115–R119): shapes and windows, chains, engines, the exact accumulator
and the FP32 tree. -/
namespace Sys2Proof.Machine

/-! ### The exact accumulator (R67–R71) -/

/-- q(c) of Table 3.1. -/
def qOf (c : Nat) (scaled : Bool) : Int :=
  match c with
  | 3 => -16
  | 4 => -9
  | 5 => -4
  | 6 => -3
  | 7 => -1
  | 8 => if scaled then -6 else 0
  | 9 => if scaled then -2 else 0
  | _ => 0

/-- The significand M of a finite element (R67): its unscaled value times 2^−q. -/
def sigOf (c : Nat) (v : Val) : Int :=
  match v with
  | .fin neg n d =>
    let (n, d) := scaleFrac n d (-(qOf c false))
    if neg then -((n / d : Nat) : Int) else ((n / d : Nat) : Int)
  | _ => 0

/-- One element of a reduction: its value without scale and its significand. -/
structure Term where
  v : Val := zeroVal
  m : Int := 0
  deriving Repr, Inhabited

/-- The sticky flags that a product sets (R70). -/
def Acc.special (acc : Acc) (x y : Term) : Acc :=
  match x.v.mul y.v with
  | .nan => { acc with nan := true }
  | .inf true => { acc with ninf := true }
  | .inf false => { acc with pinf := true }
  | .fin _ _ _ => acc

def Val.isFin : Val → Bool
  | .fin _ _ _ => true
  | _ => false

/-- P_j of a block: the products of finite elements. -/
def blockSum (l : List (Term × Term)) : Int :=
  l.foldl (fun a p => if p.1.v.isFin && p.2.v.isFin then a + p.1.m * p.2.m else a) 0

/-- w_j of a block whose scales are known (R68); none for padding or a scale of 0xFF. -/
def blockWeight (q : Int) (sa sb : Option Nat) : Option Int :=
  match sa, sb with
  | some x, some y => if x = 255 || y = 255 then none else some ((x : Int) + y - 254 + q)
  | _, _ => none

/-- What a block does to an accumulator: the accumulator, whether its floor discarded bits, whether w_j exceeds W. -/
def Acc.block (q : Int) (acc : Acc) (l : List (Term × Term)) (sa sb : Option Nat) : Acc × Bool × Bool :=
  if sa = some 255 || sb = some 255 then ({ acc with nan := true }, false, false)
  else
    let acc := l.foldl (fun a p => a.special p.1 p.2) acc
    match blockWeight q sa sb with
    | none => (acc, false, false)
    | some w =>
      match acc.w with
      | none => (acc, false, true)
      | some W =>
        if W < w then (acc, false, true)
        else
          let p := blockSum l
          let sh := w - (W - 38)
          if 0 ≤ sh then ({ acc with a := acc.a + p * 2 ^ sh.toNat }, false, false)
          else
            let den : Int := 2 ^ (-sh).toNat
            ({ acc with a := acc.a + Int.fdiv p den }, decide (p % den ≠ 0), false)

/-- W of a reduction over its scanned blocks (R68, R69). -/
def maxWeight (q : Int) (l : List (Option Nat × Option Nat)) : Option Int :=
  l.foldl (fun (m : Option Int) p =>
    match blockWeight q p.1 p.2, m with
    | some w, some x => some (max w x)
    | some w, none => some w
    | none, m => m) none

/-- The result of an exact reduction (R70, R71). -/
def Acc.value (acc : Acc) : Val :=
  let init := acc.init.getD zeroVal
  let (nan, pinf, ninf) := match init with
    | .nan => (true, acc.pinf, acc.ninf)
    | .inf s => (acc.nan, acc.pinf || !s, acc.ninf || s)
    | .fin _ _ _ => (acc.nan, acc.pinf, acc.ninf)
  if nan || (pinf && ninf) then .nan
  else if pinf then .inf false
  else if ninf then .inf true
  else
    let base := match acc.w with
      | some W => Val.ofIntExp acc.a (W - 38)
      | none => zeroVal
    let v := base.add init
    if v.isZero then zeroVal else v

/-! ### Shapes (R115, R118, R119) -/

/-- Window parameters of IMM1. -/
structure Win where
  kh : Nat
  kw : Nat
  sh : Nat
  sw : Nat
  dh : Nat
  dw : Nat
  pt : Nat
  pl : Nat
  deriving Repr

def Win.of (v : Nat) : Win :=
  { kh := bitsOf v 7 0, kw := bitsOf v 15 8, sh := bitsOf v 19 16, sw := bitsOf v 23 20, dh := bitsOf v 27 24,
    dw := bitsOf v 31 28, pt := bitsOf v 39 32, pl := bitsOf v 47 40 }

def Win.bad (w : Win) : Bool := w.kh == 0 || w.kw == 0 || w.sh == 0 || w.sw == 0 || w.dh == 0 || w.dw == 0

/-- The shape of a matrix descriptor: reduction extent, rows of one batch position, and tiles. -/
structure MShape where
  k : Nat
  mt : Nat
  tiles : Nat
  deriving Repr

def kExt (r : Tref) : Nat := if r.kax = 0 then r.t.e0 else r.t.e1
def oExt (r : Tref) : Nat := if r.kax = 0 then r.t.e1 else r.t.e0

def ceil128 (n : Nat) : Nat := (n + 127) / 128

/-- The extent rules; an error names the slot. -/
def matShape (win : Option Win) (r : Refs) : Except Nat MShape :=
  let d := r.dd.t
  let a := r.aa
  let b := r.bb
  if r.dd.kax ≠ 0 then .error 1
  else match win with
  | none =>
    let okB := fun (e de : Nat) => e == de || e == 1
    if oExt a ≠ d.e1 || !okB a.t.e2 d.e2 || !okB a.t.e3 d.e3 then .error 2
    else if kExt b ≠ kExt a || oExt b ≠ d.e0 || !okB b.t.e2 d.e2 || !okB b.t.e3 d.e3 then .error 3
    else .ok { k := kExt a, mt := d.e1, tiles := ceil128 d.e1 * ceil128 d.e0 * (d.e2 * d.e3) }
  | some w =>
    let lb := r.dd.org.2.2 - a.org.2.2
    let k := w.kh * w.kw * a.t.e0
    if a.kax ≠ 0 || lb < 0 || (a.t.e3 : Int) < lb + d.e3 || (a.sc.isSome && a.t.e0 % 32 != 0) then .error 2
    else if b.kax ≠ 0 || b.t.ext ≠ (k, d.e0, 1, 1) then .error 3
    else
      let m := d.e1 * d.e2 * d.e3
      .ok { k := k, mt := m, tiles := ceil128 m * ceil128 d.e0 }

/-- Operand pairs (R63). -/
def exactCode (c : Nat) : Bool := (decide (3 ≤ c) && decide (c ≤ 9)) || c == 11
def pairOk (a b : Nat) : Bool := (exactCode a && exactCode b) || (a == b && decide (a ≤ 2))

/-- Where row `r` of D's rows finds its place in A: none is padding (R119). `p` is the position in the window. -/
def winAt (w : Win) (r : Refs) (row p : Nat) : Option (Nat × Nat × Nat) :=
  let d := r.dd.t
  let a := r.aa
  let ox := row % d.e1
  let oy := row / d.e1 % d.e2
  let b := row / (d.e1 * d.e2)
  let x : Int := (d.o1 + ox) * w.sw + ((p % w.kw * w.dw : Nat) : Int) - w.pl
  let y : Int := (d.o2 + oy) * w.sh + ((p / w.kw * w.dh : Nat) : Int) - w.pt
  let lx := x - a.org.1
  let ly := y - a.org.2.1
  let lb := d.o3 + b - a.org.2.2
  if lx < 0 || (a.t.e1 : Int) ≤ lx || ly < 0 || (a.t.e2 : Int) ≤ ly then none
  else some (lx.toNat, ly.toNat, lb.toNat)

/-- Batch indices of a row, broadcast. -/
def batchIx (d t : Tens) (mt row : Nat) : Nat × Nat :=
  let bp := row / mt
  ((if t.e2 = 1 then 0 else bp % d.e2), (if t.e3 = 1 then 0 else bp / d.e2))

/-- Position of A's element `k` of a row among A's elements, none for padding. -/
def aIndex (win : Option Win) (r : Refs) (mt row k : Nat) : Option Nat :=
  let t := r.aa.t
  match win with
  | some w => (winAt w r row (k / t.e0)).map (fun q => t.flat (k % t.e0) q.1 q.2.1 q.2.2)
  | none =>
    let (b2, b3) := batchIx r.dd.t t mt row
    let m := row % mt
    some (if r.aa.kax = 0 then t.flat k m b2 b3 else t.flat m k b2 b3)

/-- The rows of A, by their indices on axes 1–3, that the products read: with a window those that some position of it names (R119). -/
def aRead (win : Option Win) (r : Refs) : Nat × Nat × Nat → Bool :=
  match win with
  | none => fun _ => true
  | some w =>
    let d := r.dd.t
    let l := (List.range (d.e1 * d.e2 * d.e3)).flatMap (fun row => (List.range (w.kh * w.kw)).filterMap (winAt w r row))
    fun i => l.contains i

/-- Address of A's scale of block `j` of a row, none for padding. -/
def aScale (win : Option Win) (r : Refs) (sc : Tens) (mt row j : Nat) : Option Nat :=
  let t := r.aa.t
  match win with
  | some w => (winAt w r row (32 * j / t.e0)).map (fun q => sc.addr (32 * j % t.e0 / 32) q.1 q.2.1 q.2.2)
  | none =>
    let (b2, b3) := batchIx r.dd.t t mt row
    let m := row % mt
    some (if r.aa.kax = 0 then sc.addr j m b2 b3 else sc.addr m j b2 b3)

def bIndex (win : Option Win) (r : Refs) (mt row n k : Nat) : Nat :=
  let t := r.bb.t
  let (b2, b3) := if win.isSome then (0, 0) else batchIx r.dd.t t mt row
  if r.bb.kax = 0 then t.flat k n b2 b3 else t.flat n k b2 b3

def bScale (win : Option Win) (r : Refs) (sc : Tens) (mt row n j : Nat) : Nat :=
  let (b2, b3) := if win.isSome then (0, 0) else batchIx r.dd.t r.bb.t mt row
  if r.bb.kax = 0 then sc.addr j n b2 b3 else sc.addr n j b2 b3

/-! ### The effect -/

/-- The m, n and batch extents that the descriptors of a chain share (R117); a window has one batch position (R119). -/
def mDims (win : Option Win) (d : Tens) : List Nat := if win.isSome then [d.e1 * d.e2 * d.e3, d.e0, 1, 1] else [d.e1, d.e0, d.e2, d.e3]

/-- How a matrix descriptor uses the chain. -/
structure MUse where
  opener : Bool
  close : Bool
  chainK : Nat
  sh : MShape
  win : Option Win

def termOf (c bits : Nat) : Term := let v := (decodeElem c bits).1; { v := v, m := sigOf c v }

/-- Reserved patterns among elements (R44). -/
def rsvdCount (c : Nat) (l : List Nat) : Nat := (l.filter (fun b => (decodeElem c b).2)).length

/-- Check that scale bytes can be read. -/
def State.scalesOk (s : State) (l : List Nat) (ctx : Option (Nat × Nat)) : State × Bool :=
  let (s, o) := s.readRows (l.map (fun a => (a, 1))) ctx
  (s, o.isSome)

/-- The indices of D's rows and columns in element order. -/
def outIx (d : Tens) : List (Nat × Nat) :=
  (List.range (d.e1 * d.e2 * d.e3)).flatMap (fun row => (List.range d.e0).map (fun n => (row, n)))

/-- Add a descriptor's products to one accumulator (R68, R72): the accumulator, truncated blocks, and an excess of W. -/
def addElem (exact : Bool) (q : Int) (k : Nat) (ta tb : Nat → Term) (sa sb : Nat → Option Nat) (acc : Acc) : Acc × Nat × Bool :=
  if exact then
    (List.range ((k + 31) / 32)).foldl (fun (st : Acc × Nat × Bool) j =>
      let l := (List.range (min 32 (k - 32 * j))).map (fun i => (ta (32 * j + i), tb (32 * j + i)))
      let (acc, tr, bad) := st.1.block q l (sa j) (sb j)
      (acc, st.2.1 + bool01 tr, st.2.2 || bad)) (acc, 0, false)
  else
    ({ acc with f32 := f32Tree ((List.range k).map (fun i => rne32 ((ta i).v.mul (tb i).v))) acc.f32 }, 0, false)

/-- The effect of a matrix descriptor: products into the accumulators, and D where the chain closes. -/
def State.matEffect (s : State) (lc : Nat) (r : Refs) (u : MUse) (es : List Nat) : Eff :=
  let ctx := s.whoOf lc
  let ca := fmtCode r.aa.fmt
  let cb := fmtCode r.bb.fmt
  let exact := exactCode ca
  let q := qOf ca r.aa.sc.isSome + qOf cb r.bb.sc.isSome
  let d := r.dd.t
  let old := ((s.seq lc).chain).getD {}
  let rows := List.range (d.e1 * d.e2 * d.e3)
  let nb := ((if u.opener && exact then u.chainK else u.sh.k) + 31) / 32
  match s.readBitsOf r.aa.t (aRead u.win r) ctx with
  | (s, none) => Eff.bus s 2
  | (s, some abits) =>
    match s.readBits r.bb.t ctx with
    | (s, none) => Eff.bus s 3
    | (s, some bbits) =>
      let aAddrs := match r.aa.sc with
        | some sc => rows.flatMap (fun row => (List.range nb).filterMap (fun j => aScale u.win r sc u.sh.mt row j))
        | none => []
      match s.scalesOk aAddrs ctx with
      | (s, false) => Eff.bus s 2
      | (s, true) =>
        let bAddrs := match r.bb.sc with
          | some sc => rows.flatMap (fun row => (List.range d.e0).flatMap (fun n =>
              (List.range nb).map (fun j => bScale u.win r sc u.sh.mt row n j)))
          | none => []
        match s.scalesOk bAddrs ctx with
        | (s, false) => Eff.bus s 3
        | (s, true) =>
          match (match r.c with | some c => s.readArr c ctx | none => (s, some {})) with
          | (s, none) => Eff.bus s 4
          | (s, some cv) =>
            let ta := fun row k => match aIndex u.win r u.sh.mt row k with
              | some i => termOf ca (abits.getD i 0)
              | none => {}
            let tb := fun row n k => termOf cb (bbits.getD (bIndex u.win r u.sh.mt row n k) 0)
            let byte := fun a => (s.peek a).toNat
            let sa := fun row j => match r.aa.sc with
              | some sc => (aScale u.win r sc u.sh.mt row j).map byte
              | none => some 127
            let sb := fun row n j => match r.bb.sc with
              | some sc => some (byte (bScale u.win r sc u.sh.mt row n j))
              | none => some 127
            let res := (outIx d).zipIdx.map (fun e =>
              let row := e.1.1
              let n := e.1.2
              let acc : Acc :=
                if u.opener then
                  let init := if r.c.isSome then some (cv.v.getD e.2 (zeroVal, false)).1 else none
                  if exact then
                    { w := maxWeight q ((List.range nb).map (fun j => (sa row j, sb row n j))), init := init }
                  else { f32 := init.map rne32 }
                else old.accs.getD e.2 {}
              addElem exact q u.sh.k (ta row) (tb row n) (sa row) (sb row n) acc)
            let trunc := res.foldl (fun a x => a + x.2.1) 0
            if res.any (fun x => x.2.2) then { s := s, fault := some { code := 4, ref := 2, ev := 0x1112 } }
            else
              let inv := rsvdCount ca abits + rsvdCount cb bbits + (cv.v.filter (fun x => x.2)).length
              let accs := res.map (·.1)
              if u.close then
                let s := if u.opener then s else s.modSeq lc (fun q => { q with chain := none })
                let vals := accs.map (fun a => ((if exact then a.value else f32Val (a.f32.getD 0)), false))
                let (s, fl, ok) := s.writeOut r.dd (s.partOf lc) vals ctx
                let e := Eff.ofOut (s, { fl with inv := fl.inv || decide (0 < inv), invCnt := fl.invCnt + inv }, ok)
                { e with trunc := trunc, cont := !u.opener }
              else
                let ch : Chain :=
                  { dims := if u.opener then mDims u.win d else old.dims,
                    chainK := if u.opener then u.chainK else old.chainK,
                    kDone := (if u.opener then 0 else old.kDone) + u.sh.k, fmtA := r.aa.fmt, fmtB := r.bb.fmt,
                    engines := es, accs := accs }
                { s := s.modSeq lc (fun q => { q with chain := some ch }), inv := inv, trunc := trunc,
                  cont := !u.opener }

/-- Steps 5 and 6 of R535 for a matrix descriptor; `cont` says that it continues a chain. DEDUCED (log entry 90): the limit of R69 on
the extent of a chain, which stands among the rules of the exact accumulator, is not applied to the FP32 path. -/
def matCheck (win : Option Win) (ck : Nat) (open_ cont : Bool) (q : Seq) (r : Refs) : Option DF :=
  match matShape win r with
  | .error n => some { code := 3, ref := n }
  | .ok sh =>
    let a := r.aa
    let b := r.bb
    if r.c.any (fun c => c.t.ext != r.dd.t.ext) then some { code := 3, ref := 4 }
    else if !pairOk (fmtCode a.fmt) (fmtCode b.fmt) then some { code := 4, ref := 3 }
    else if cont then
      match q.chain with
      | none => some { code := 8 }
      | some ch =>
        let d := r.dd.t
        if ck ≠ 0 then some { code := 8, ref := 5 }
        else if ch.dims ≠ mDims win d then some { code := 8, ref := 1 }
        else if a.fmt ≠ ch.fmtA then some { code := 4, ref := 2 }
        else if b.fmt ≠ ch.fmtB then some { code := 4, ref := 3 }
        else if ch.chainK < ch.kDone + sh.k then some { code := 8, ref := 5 }
        else none
    else
      let ck := if ck = 0 then sh.k else ck
      if q.chain.isSome && open_ then some { code := 8 }
      else if exactCode (fmtCode a.fmt) && decide (16777216 < ck) then some { code := 4, ref := 5 }
      else if ck < sh.k then some { code := 8, ref := 5 }
      else if open_ && decide (4 < sh.tiles) then some { code := 8 }
      else none

/-- An engine of a core is being reset. -/
def State.engDown (s : State) (lc e : Nat) : Bool :=
  s.resets.any (fun r => r.level == 1 && r.upath == upathEngine (lc / 32) (lc / 8 % 4) (s.physOf lc) e)

/-- Engines of a core that no descriptor in flight and no chain holds. -/
def State.idleEngines (s : State) (lc : Nat) : List Nat :=
  let q := s.seq lc
  (List.range 4).filter (fun e => !q.infl.any (fun i => i.engines.contains e)
    && !q.chain.any (fun h => h.engines.contains e) && !s.engDown lc e)

/-- The engines that a descriptor of `tiles` tiles takes (R118): min(T, 4 − H) idle ones, where an open chain holds H. DEDUCED (log
entry 91): with H = 4 it is held, as no engine is left to take. -/
def State.takeEngines (s : State) (lc tiles : Nat) : Option (List Nat) :=
  let n := min tiles (4 - (((s.seq lc).chain.map (·.engines)).getD []).length)
  if 0 < n && n ≤ (s.idleEngines lc).length then some ((s.idleEngines lc).take n) else none

/-- Issue of a matrix descriptor (R117, R118). -/
def State.matIssue (s : State) (lc : Nat) (d : Desc) (acc : Bool) : State :=
  let w := Win.of d.imm1.toNat
  let win := if d.win then some w else none
  let ck := d.imm0.toNat % 2 ^ 25
  let cont := acc && !(Ref.of d.refC).present
  let src := if d.bypass then Loc.mat true else Loc.mat false
  let f : Form :=
    { code := if acc then 0x21 else 0x20, mat := true, m0 := 2 ^ 25 - 1, m1 := if d.win then 2 ^ 48 - 1 else 0,
      immBad := d.win && w.bad, need := [2, 2, 2, if acc then 1 else 0],
      opt := [{ dst := true, val := true }, { val := true, win := d.win, scan := if cont || d.win then 0 else ck },
              { val := true, scan := if cont then 0 else ck }, { val := true }],
      loc := [.matD, src, src, .matD] }
  s.issue lc d f 4 (fun _ q r => matCheck win ck d.open_ cont q r)
    (fun s q r =>
      if cont then
        let es := (q.chain.getD {}).engines
        if q.infl.any (fun i => i.engines.any (fun e => es.contains e)) then none else some es
      else match matShape win r with
      | .ok sh => s.takeEngines lc sh.tiles
      | .error _ => none)
    (fun s r _ =>
      match matShape win r with
      | .error _ => { s := s }
      | .ok sh =>
        let q := s.seq lc
        let es := if cont then (q.chain.getD {}).engines else (s.takeEngines lc sh.tiles).getD []
        s.matEffect lc r { opener := !cont, close := !d.open_, chainK := if ck = 0 then sh.k else ck, sh := sh, win := win } es)

/-- MATMUL (R115, R117). -/
def execMatmul (lc : Nat) (d : Desc) (s : State) : Host.Outcome State Fault Refusal := .next (s.matIssue lc d false)

/-- MATMUL_ACC (R117): C present opens with an initial value, C absent continues the open chain. -/
def execMatmulAcc (lc : Nat) (d : Desc) (s : State) : Host.Outcome State Fault Refusal := .next (s.matIssue lc d true)

end Sys2Proof.Machine
end

