-- ==== Sys2Proof/Machine/Coll.lean ====
section
/-! DEFINITION. Collectives (R81–R84, R130–R132), the taps of the continuity table (R369), the update gate (R373) and the
loss policies (R383–R386) as far as they touch a COLL. -/
namespace Sys2Proof.Machine

/-! ### Taps (R369) -/

/-- Bytes written to own memory that lie in a TAP region also go to the peer: answers the tags by region. -/
def State.tapRegion (s : State) (lc id part : Nat) (g : CtReg) (rows : List (Nat × List Byte)) : State :=
  match s.rankChip part g.peer with
  | none => s
  | some chip =>
    let hits := rows.filterMap (fun r =>
      let lo := max r.1 g.addr
      let hi := min (r.1 + r.2.length) (g.addr + g.units * 4096)
      if lo < hi then some (g.peerAddr + (lo - g.addr), (r.2.drop (lo - r.1)).take (hi - lo)) else none)
    let pieces := hits.flatMap (fun h =>
      (List.range ((h.2.length + 191) / 192)).map (fun i => (h.1 + 192 * i, (h.2.drop (192 * i)).take 192)))
    if pieces.isEmpty then s
    else
      let (s, tags) := pieces.foldl (fun (acc : State × List Nat) p =>
        let (s, t) := acc.1.sendOp lc id chip 2 (fun _ => .wr (p.1 % 2 ^ 48) p.2) false 0 p.2.length
        (s, acc.2 ++ [t])) (s, [])
      { s with taps := s.taps ++ [{ part := part, lc := lc, infl := id, chip := chip,
                                    word := (g.peerAddr + 2 ^ 48 - 8) % 2 ^ 48, tags := tags }] }

/-- The taps of a COLL result (R369). -/
def State.tapRows (s : State) (lc id part : Nat) (rows : List (Nat × List Byte)) : State :=
  let t := tGet s.ct part
  let n := s.taps.length
  let s := s.each (t.regs.filter (fun g => t.valid && g.tap)) (fun g s => s.tapRegion lc id part g rows)
  if n < s.taps.length then s.bump .ct Ct.TAP_CNT part else s

/-- An acknowledgement reaches the taps: once all writes of one are acknowledged, 1 is added to the word before PEER_ADDR. -/
def State.tapAck (s : State) (lc tag : Nat) : State :=
  let l := s.taps.map (fun t => if t.lc = lc && t.tags.contains tag then { t with tags := t.tags.filter (· != tag) } else t)
  let s := { s with taps := [] }
  s.each l (fun t s =>
    if !t.tags.isEmpty then { s with taps := s.taps ++ [t] }
    else if t.told then s
    else
      let (s, g) := s.sendOp t.lc t.infl t.chip 0 (fun _ => .sig t.word 1 false) false 0 0
      { s with taps := s.taps ++ [{ t with tags := [g], told := true }] })

/-! ### The group (Table 4.9) -/

def Group.n (g : Group) : Nat := g.count1 * g.count2
def Group.members (g : Group) : List Nat :=
  (List.range g.count2).flatMap (fun j => (List.range g.count1).map (fun i => g.base + i * g.step1 + j * g.step2))

/-- Ascending order. -/
def insSorted (x : Nat) : List Nat → List Nat
  | [] => [x]
  | y :: t => if x ≤ y then x :: y :: t else y :: insSorted x t
def sortNat (l : List Nat) : List Nat := l.foldr insSorted []

def hasDup : List Nat → Bool
  | x :: y :: t => x == y || hasDup (y :: t)
  | _ => false

/-! ### What a collective moves -/

def Coll.n' (c : Coll) : Nat := c.ranks.length
def Coll.pos (c : Coll) (r : Nat) : Nat := c.ranks.idxOf r
def Coll.reduces (c : Coll) : Bool := c.kind ≤ 1
def Coll.exact (c : Coll) : Bool := c.mode == 2
def Coll.scaled (c : Coll) : Bool := fmtBS c.fmtA
def Coll.code (c : Coll) : Nat := fmtCode c.fmtA
def Coll.others (c : Coll) : List Nat := c.ranks.filter (· != c.own)

/-- The chunk of a member (R131), in elements of A; of all-to-all, the slice of A that goes to it. -/
def Coll.chunk (c : Coll) (r : Nat) : Nat × Nat :=
  let p := c.pos r
  let n := c.n'
  if c.kind ≤ 1 then
    let u := if c.scaled then 32 else 1
    (p * (c.elems / u) / n * u, (p + 1) * (c.elems / u) / n * u)
  else if c.kind = 2 then (0, c.elems)
  else (p * c.elems, (p + 1) * c.elems)

/-- Blocks of 32 elements in element order that a chunk holds. -/
def Coll.blocks (c : Coll) (r : Nat) : Nat := ((c.chunk r).2 - (c.chunk r).1 + 31) / 32

/-- The scale maxima of the own elements of a chunk (R84, phase 1). DESIGN CHOICE (log entry 77): a scale byte 0xFF counts as 255. -/
def Coll.myMax (c : Coll) (r : Nat) : List Nat :=
  (List.range (c.blocks r)).map (fun b =>
    ((c.aScs.drop ((c.chunk r).1 + 32 * b)).take 32).foldl max 0)

/-- A byte string that has arrived whole. -/
def Coll.whole (c : Coll) (phase rank len : Nat) : Option (List Byte) :=
  ((List.range ((len + 127) / 128)).mapM (fun i =>
    (c.got.find? (fun g => g.phase == phase && g.rank == rank && g.off == 128 * i)).map (·.data))).map List.flatten

/-- A_b of each block of the chunk of owner `r`, as scale bytes (R84): none until it is known. -/
def Coll.maxima (c : Coll) (r : Nat) : Option (List Nat) :=
  if !c.scaled then some (List.replicate (c.blocks r) 127)
  else if r = c.own then
    ((c.others).mapM (fun o => c.whole 1 o (c.blocks r))).map (fun ls =>
      (ls.map (fun l => l.map (·.toNat))).foldl (fun acc l => List.zipWith max acc l) (c.myMax r))
  else (c.whole 3 r (c.blocks r)).map (fun l => l.map (·.toNat))

/-- The integer of an element in EXACT mode and whether its floor discarded bits (R84). -/
def exactElem (code bits sc amax : Nat) : Int × Bool :=
  let v := (decodeElem code bits).1
  if sc = 255 || !v.isFin then ((Config.exactInt bits sc).toInt, false)
  else
    let m := sigOf code v
    let sh : Int := (sc : Int) - amax + 17
    if 0 ≤ sh then (m * 2 ^ sh.toNat, false)
    else (Int.fdiv m (2 ^ (-sh).toNat), decide (m % (2 ^ (-sh).toNat : Int) ≠ 0))

/-- The own integers of a chunk, given its maxima. -/
def Coll.myInts (c : Coll) (r : Nat) (mx : List Nat) : List (Int × Bool) :=
  let (lo, hi) := c.chunk r
  (List.range (hi - lo)).map (fun i => exactElem c.code (c.aBits.getD (lo + i) 0) (c.aScs.getD (lo + i) 127) (mx.getD (i / 32) 127))

/-- Bytes of a contribution to a chunk. -/
def Coll.len (c : Coll) (r : Nat) : Nat :=
  let (lo, hi) := c.chunk r
  if c.exact then 8 * (hi - lo) else packedBytes c.code (hi - lo) + (if c.scaled then hi - lo else 0)

/-- The own contribution to the chunk of `r`: none until its maxima are known. -/
def Coll.mine (c : Coll) (r : Nat) : Option (List Byte) :=
  let (lo, hi) := c.chunk r
  if c.exact then
    (c.maxima r).map (fun mx => (c.myInts r mx).flatMap (fun x => bytesLE 8 (unsignedOf 64 x.1)))
  else
    let bits := (c.aBits.drop lo).take (hi - lo)
    some (packElems c.code bits.length bits
      ++ (if c.scaled then ((c.aScs.drop lo).take (hi - lo)).map (BitVec.ofNat 8) else []))

def segments (len : Nat) : Nat := (len + 4095) / 4096

/-! ### The fold of a chunk (R82, R84) -/

/-- The FP32 values of a contribution. -/
def Coll.decodeIn (c : Coll) (n : Nat) (b : List Byte) : List Nat :=
  let bits := unpackElems c.code n b
  let scs := (b.drop (packedBytes c.code n)).map (·.toNat)
  bits.zipIdx.map (fun p =>
    rne32 (if c.scaled then decodeScaled c.code p.1 (scs.getD p.2 127) else decodeElem c.code p.1).1)

def readInts (b : List Byte) (n : Nat) : List Int :=
  (List.range n).map (fun i => signedOf 64 (natLE ((b.drop (8 * i)).take 8)))

/-- The contributions to the own chunk in ascending rank order: none while one is missing. -/
def Coll.contribs (c : Coll) : Option (List (List Byte)) :=
  c.ranks.mapM (fun r => if r = c.own then c.mine c.own else c.whole 0 r (c.len c.own))

/-- The values of the own chunk's result, before rounding. -/
def Coll.folded (c : Coll) (ins : List (List Byte)) : List Val :=
  let (lo, hi) := c.chunk c.own
  let n := hi - lo
  let cnt := ins.length
  if c.exact then
    let mx := (c.maxima c.own).getD []
    let sums := (ins.map (fun b => readInts b n)).foldl (fun acc l => List.zipWith (fun x y => x + y) acc l) (List.replicate n 0)
    sums.zipIdx.map (fun p =>
      let e : Int := (mx.getD (p.2 / 32) 127 : Int) - 127 + qOf c.code c.scaled - 17
      match Val.ofIntExp p.1 e with
      | .fin s a b => if a = 0 then zeroVal else .fin s a (if c.op = 1 then b * cnt else b)
      | v => v)
  else
    let vs := ins.map (fun b => c.decodeIn n b)
    let f := match c.op with | 2 => f32Max | 3 => f32Min | _ => f32Add
    (List.range n).map (fun i =>
      let x := match vs.map (fun l => l.getD i 0) with
        | [] => 0
        | a :: t => t.foldl f a
      f32Val (if c.op = 1 then f32Div x (rne32 (.fin false cnt 1)) else x))

/-- Places in the scale tensor of D that elements `lo`–`hi` touch. -/
def scalePlaces (r : Tref) (sc : Tens) (lo hi : Nat) : List Nat :=
  (((r.t.ix.drop lo).take (hi - lo)).map (fun i =>
    if r.kax = 0 then sc.flat (i.1 / 32) i.2.1 i.2.2.1 i.2.2.2 else sc.flat i.1 (i.2.1 / 32) i.2.2.1 i.2.2.2)).eraseDups

/-- Round the values of elements `lo`… of D, with the seed and the step of the issue (R77): element bits and the scales touched.
DESIGN CHOICE (log entry 92): of a block of 32 that reaches beyond the chunk only the chunk's own elements are looked at. -/
def Coll.roundChunk (c : Coll) (lo : Nat) (vals : List Val) : List Nat × List Nat × Flags :=
  let r := c.d
  let all := (List.range r.t.count).map (fun i => (if lo ≤ i then vals.getD (i - lo) zeroVal else zeroVal, false))
  let o := match r.sc with
    | none => convOut r c.seed c.step all
    | some sc => quantOut r sc c.seed c.step all
  ((o.bits.drop lo).take vals.length,
    (match r.sc with | none => [] | some sc => (scalePlaces r sc lo (lo + vals.length)).map (fun i => o.scs.getD i 0)),
    { o.fl with invCnt := if o.fl.inv then max 1 o.fl.invCnt else 0 })

/-- Bytes of a result of `n` elements with `k` scales. -/
def resLen (r : Tref) (n k : Nat) : Nat := packedBytes r.t.code n + k

/-! ### Running collectives -/

def State.coll (s : State) (tag : Nat) : Option Coll := s.colls.find? (fun c => c.tag == tag)

/-- The descriptor of a collective still waits for it. -/
def State.collLive (s : State) (c : Coll) : Bool :=
  (s.seq c.lc).st == 1 && (s.seq c.lc).infl.any (fun i => i.id == c.id && i.wait == some (.coll c.tag))

/-- COLL_STATUS of every cluster (Table 5.9). -/
def State.collSync (s : State) : State :=
  s.each (List.range 8) (fun cl s =>
    s.setFld (.cluster (cl / 4) (cl % 4)) (Cl.COLL_STATUS.sub 3 0) (min 8 (s.colls.filter (fun c => c.lc / 8 == cl)).length))

/-- Collectives whose descriptors are gone leave the unit. -/
def State.collPurge (s : State) : State := ({ s with colls := s.colls.filter s.collLive }).collSync

def State.setColl (s : State) (c : Coll) : State :=
  { s with colls := s.colls.map (fun x => if x.tag = c.tag then c else x) }

/-- Send collective data to a rank, from a piece on. -/
def State.collSend (s : State) (c : Coll) (dst phase : Nat) (b : List Byte) (lo hi : Nat) : State :=
  match s.rankChip c.part dst with
  | none => s
  | some chip =>
    let g := s.prog (s.seq c.lc).slot
    s.each ((List.range ((b.length + 127) / 128)).filter (fun i => decide (lo ≤ 128 * i) && decide (128 * i < hi))) (fun i s =>
      let h : CollHdr := { tag := c.tag, kind := c.kind, op := c.op, mode := c.mode, fmtA := c.fmtA, elems := c.elems,
                           n := c.n, base := c.base, rank := c.own, chunk := 128 * i, seg := 128 * i / 4096, phase := phase,
                           absent := c.absent }
      (s.sendE2e chip c.part g.ctx g.gen 2 (dieOf c.lc) (.collData h ((b.drop (128 * i)).take 128))).1)

/-- Send a control message of a collective to every other member. -/
def State.collTell (s : State) (c : Coll) (p : Pay) : State :=
  let g := s.prog (s.seq c.lc).slot
  s.each (c.group.filter (· != c.own)) (fun r s =>
    match s.rankChip c.part r with
    | none => s
    | some chip => (s.sendE2e chip c.part g.ctx g.gen 0 (dieOf c.lc) p).1)

/-- The COLL faults with COLL (R132). -/
def State.collFault (s : State) (c : Coll) : State :=
  let desc := match (s.seq c.lc).infl.find? (fun i => i.id == c.id) with | some i => i.desc | none => 0
  ((s.progFault c.lc 0x0A 5 0x1128 desc).modPartX c.part (fun x => { x with early := x.early.filter (fun e => e.tag != c.tag) })).collPurge

/-- Every earlier write of the core has been acknowledged (R226), and at the gate every tap of the partition (R373)
and every verdict that it waits for (R400). -/
def State.collMaySend (s : State) (c : Coll) : Bool :=
  let l := (s.seq c.lc).infl
  (l.takeWhile (fun i => i.id != c.id)).all (fun i => i.tags.isEmpty)
    && (!((tGet s.ct c.part).valid && (tGet s.ct c.part).gateTag == c.tag)
      || (!s.taps.any (fun t => t.part == c.part) && !(List.range 8).any (fun i => (tGet s.dgs (c.part + 4096 * i)).hold)))

/-- Phase 1: the scale maxima go to the owner of each chunk. -/
def State.collPhase1 (s : State) (c : Coll) : State × Coll :=
  if c.exact && c.scaled && !c.did.contains 1 && s.collMaySend c then
    (s.each c.others (fun r s =>
      let b := (c.myMax r).map (BitVec.ofNat 8)
      s.collSend c r 1 b 0 b.length), { c with did := 1 :: c.did })
  else (s, c)

/-- Phase 3: the owner answers A_b. -/
def State.collPhase3 (s : State) (c : Coll) : State × Coll :=
  if c.exact && c.scaled && !c.did.contains 3 then
    match c.maxima c.own with
    | none => (s, c)
    | some mx =>
      let b := mx.map (BitVec.ofNat 8)
      (s.each c.others (fun r s => s.collSend c r 3 b 0 b.length), { c with did := 3 :: c.did })
  else (s, c)

/-- Truncated contributions are counted once, as they are formed (R84). -/
def State.collCount (s : State) (c : Coll) (r : Nat) : State :=
  if c.exact && smGet (fun _ => 0) c.sent r = 0 then
    match c.maxima r with
    | some mx => s.bumpBy .ari Ari.EXACT_TRUNC_CNT ((c.myInts r mx).filter (·.2)).length c.part
    | none => s
  else s

/-- The own contribution to the own chunk is formed once its maxima are known; it too may be truncated (R84). -/
def State.collOwn (s : State) (c : Coll) : State × Coll :=
  if !c.exact || !c.reduces || c.did.contains 4 then (s, c)
  else match c.maxima c.own with
  | some mx => (s.bumpBy .ari Ari.EXACT_TRUNC_CNT ((c.myInts c.own mx).filter (·.2)).length c.part, { c with did := 4 :: c.did })
  | none => (s, c)

/-- Contributions go out as far as credit allows (R83). -/
def State.collOut (s : State) (c : Coll) : State × Coll :=
  if !s.collMaySend c then (s, c)
  else c.others.foldl (fun (acc : State × Coll) r =>
    let (s, c) := acc
    match c.mine r with
    | none => (s, c)
    | some b =>
      let k := smGet (fun _ => 0) c.sent r
      let hi := min (smGet (fun _ => 0) c.credit r) (segments b.length)
      if k < hi then
        ((s.collCount c r).collSend c r 0 b (4096 * k) (4096 * hi), { c with sent := smSet (fun _ => 0) c.sent r hi })
      else (s, c)) (s, c)

/-- Whole segments of a sender's contribution that have arrived. -/
def Coll.segsIn (c : Coll) (r : Nat) : Nat :=
  let len := c.len c.own
  ((List.range (segments len)).takeWhile (fun k =>
    ((List.range ((min len (4096 * (k + 1)) - 4096 * k + 127) / 128)).all (fun i =>
      c.got.any (fun g => g.phase == 0 && g.rank == r && g.off == 4096 * k + 128 * i))))).length

/-- Segments of a sender that the fold has taken (R83): those that every lower rank has delivered too. -/
def Coll.foldedSegs (c : Coll) (r : Nat) : Nat :=
  if c.reduces then (c.others.filter (fun x => decide (x ≤ r))).foldl (fun m x => min m (c.segsIn x)) (segments (c.len c.own))
  else c.segsIn r

/-- One more credit for a sender, where the staging area allows: one is always held back for the lowest rank not yet
folded. -/
def Coll.grantTo (c : Coll) : Option Nat :=
  let total := segments (c.len c.own)
  let g := fun r => smGet (fun _ => 0) c.granted r
  let held := (c.others.map (fun r => g r - c.foldedSegs r)).foldl (· + ·) 0
  let low := c.others.find? (fun r => decide (c.foldedSegs r < total))
  match low with
  | none => none
  | some l =>
    if g l < total && (g l = c.foldedSegs l || held + 1 < c.cap) then some l
    else c.others.find? (fun r => decide (g r < total) && decide (held + 1 < c.cap))

def State.collGrant : Nat → State → Coll → State × Coll
  | 0, s, c => (s, c)
  | fuel + 1, s, c =>
    match c.grantTo with
    | none => (s, c)
    | some r =>
      let c := { c with granted := smSet (fun _ => 0) c.granted r (smGet (fun _ => 0) c.granted r + 1) }
      let g := s.prog (s.seq c.lc).slot
      let s := match s.rankChip c.part r with
        | some chip => (s.sendE2e chip c.part g.ctx g.gen 0 (dieOf c.lc) (.collCredit c.tag c.own 1)).1
        | none => s
      collGrant fuel s c

/-- The flags of a conversion reach the descriptor. -/
def State.collFlags (s : State) (c : Coll) (fl : Flags) : State :=
  s.modInfl c.lc c.id (fun i => { i with inv := i.inv + (if fl.inv then max 1 fl.invCnt else 0), sat := i.sat || fl.sat })

/-- Write D whole, with its taps (R369): fault BUS where a line refuses. -/
def State.collWrite (s : State) (c : Coll) (bits scs : List Nat) : State :=
  let ctx := s.whoOf c.lc
  let rows := fun (t : Tens) (l : List Nat) =>
    (t.rows.zip (rowsOf t.e0 t.rows.length l)).map (fun p => (p.1.1, packElems t.code t.e0 p.2))
  let out := rows c.d.t bits ++ (match c.d.sc with | some sc => rows sc scs | none => [])
  let (s, ok) := s.writeRows out ctx
  if ok then (s.setColl { c with wrote := true }).tapRows c.lc c.id c.part out
  else
    let desc := match (s.seq c.lc).infl.find? (fun i => i.id == c.id) with | some i => i.desc | none => 0
    (s.progFault c.lc 0x06 1 0x1124 desc).collPurge

/-- Place scales by position. DESIGN CHOICE (log entry 92): a block that straddles the chunks of two owners takes the scale of the
lower rank. -/
def putScales (n : Nat) (l : List (List Nat × List Nat)) : List Nat :=
  let pairs := l.flatMap (fun p => p.1.zip p.2)
  (List.range n).map (fun i => ((pairs.find? (fun q => q.1 == i)).map (·.2)).getD 0)

/-- All results are at hand: D is written. -/
def State.collFinal (s : State) (c : Coll) : State :=
  let t := c.d.t
  match c.kind with
  | 0 | 1 =>
    match c.contribs with
    | none => s
    | some ins =>
      let (lo, hi) := c.chunk c.own
      let base := if c.kind = 0 then lo else 0
      let (bits, scs, fl) := c.roundChunk base (c.folded ins)
      let places := fun (a b : Nat) => match c.d.sc with | some sc => scalePlaces c.d sc a b | none => []
      if c.kind = 1 then
        let full := match c.d.sc with | some sc => putScales sc.count [(places 0 (hi - lo), scs)] | none => []
        ((s.collFlags c fl).collWrite c bits full)
      else
        let mine := packElems t.code bits.length bits ++ scs.map (BitVec.ofNat 8)
        let (s, c) :=
          if c.did.contains 2 then (s, c)
          else
            let s := s.collFlags c fl
            let s := s.each c.others (fun r s => s.collSend c r 2 mine 0 mine.length)
            let c := { c with did := 2 :: c.did }
            (s.setColl c, c)
        let parts := c.ranks.mapM (fun r =>
          let (a, b) := c.chunk r
          let pl := places a b
          (if r = c.own then some mine else c.whole 2 r (resLen c.d (b - a) pl.length)).map (fun x => (a, b, pl, x)))
        match parts with
        | none => s
        | some ps =>
          let bits := ps.flatMap (fun p => unpackElems t.code (p.2.1 - p.1) p.2.2.2)
          let scs := match c.d.sc with
            | some sc => putScales sc.count (ps.map (fun p =>
                (p.2.2.1, (p.2.2.2.drop (packedBytes t.code (p.2.1 - p.1))).map (·.toNat))))
            | none => []
          s.collWrite c bits scs
  | _ =>
    let parts := c.ranks.mapM (fun r => if r = c.own then c.mine c.own else c.whole 0 r (c.len c.own))
    match parts with
    | none => s
    | some ps => s.collWrite c (ps.flatMap (fun b => unpackElems c.code c.elems b)) []

/-! ### Contributions ahead of their turn (R83) -/

/-- A contribution of a rank to a segment of the own chunk is ahead of its turn: a lower rank has not delivered the segment. -/
def Coll.ahead (c : Coll) (rank off : Nat) : Bool :=
  c.reduces && c.mode == 1 && c.others.any (fun r => decide (r < rank) && decide (c.segsIn r ≤ off / 4096))

/-- The fold of an ORDERED collective waits for its next rank while contributions of later ranks are held. -/
def Coll.foldWaits (c : Coll) : Bool :=
  c.reduces && c.mode == 1 && !c.wrote
    && c.others.any (fun r => decide (c.foldedSegs r < segments (c.len c.own)) && decide (c.foldedSegs r < c.segsIn r))

/-- The staging area takes bytes that are ahead of their turn. The spec gives the area no layout and does not say what it holds
afterwards: they lie at a free place of it (DESIGN CHOICE, log entry 93). -/
def State.stagePut (s : State) (c : Coll) (rank off : Nat) (data : List Byte) : State :=
  let n := c.stage.rowBytes
  let places := (c.stage.rows.map (·.1)).flatMap (fun a => (List.range n).map (a + ·))
  let o := Config.stageAt c.tag rank off % (places.length - data.length + 1)
  (s.writeRows (((places.drop o).zip data).map (fun p => (p.1, [p.2]))) (s.whoOf c.lc)).1

/-- Note that the fold of a collective waits, for the count of the tick (Table 3.4). -/
def State.collWait (s : State) (tag : Nat) : State :=
  match s.coll tag with
  | some c => if c.foldWaits then s.modPartX c.part (fun x => { x with foldWait := true }) else s
  | none => s

/-- Contributions to every other member have left. -/
def Coll.sentAll (c : Coll) : Bool := c.others.all (fun r => decide (segments (c.len r) ≤ smGet (fun _ => 0) c.sent r))

/-- The collective is over once D is written, its contributions have left and its taps are acknowledged. -/
def State.collEnd (s : State) (tag : Nat) : State :=
  match s.coll tag with
  | none => s
  | some c =>
    if c.wrote && c.sentAll && !s.heldOn c.d.dataRanges && !s.taps.any (fun t => t.lc == c.lc && t.infl == c.id) then
      let s := { s with colls := s.colls.filter (fun x => x.tag != tag) }
      let t := tGet s.ct c.part
      let s := if t.valid && t.gateTag = tag then s.setFld64 .ct Ct.GATE_STEP_LO (s.stepOf c.part + 1) c.part else s
      (s.waitDone c.lc c.id).collSync
    else s

/-- Move a collective on as far as what has arrived allows. -/
def State.collPump (s : State) (tag : Nat) : State :=
  let s := s.collPurge
  match s.coll tag with
  | none => s
  | some c =>
    let (s, c) := s.collPhase1 c
    let (s, c) := s.collPhase3 c
    let (s, c) := s.collOwn c
    let (s, c) := s.collOut c
    let (s, c) := s.collGrant (c.others.length * segments (c.len c.own) + 1) c
    let s := (s.setColl c).collWait tag
    let s := if c.wrote then s else s.collFinal c
    s.collEnd tag

/-- Every collective of a core or partition moves on: acknowledgements have arrived. -/
def State.collPumpAll (s : State) : State := s.each (s.colls.map (·.tag)) (fun t s => s.collPump t)

/-! ### Loss policies (R383–R386) -/

/-- The absent set of a partition (Table 13.13). -/
def State.absentSet (s : State) (part : Nat) : List Nat :=
  sortNat ((List.range 8).filterMap (fun n =>
    let v := s.fld .rc (Rc.ABSENT n) part
    if bitAt v 15 then some (v % 16384) else none))

/-- Ranks whose contributions, maxima or results a collective awaits. -/
def Coll.missing (c : Coll) : List Nat :=
  c.others.filter (fun r =>
    (c.exact && c.scaled && ((c.whole 1 r (c.blocks c.own)).isNone || (c.whole 3 r (c.blocks r)).isNone))
      || (c.whole 0 r (c.len c.own)).isNone
      || decide (smGet (fun _ => 0) c.sent r < segments (c.len r))
      || (c.kind == 0 && (c.whole 2 r (resLen c.d ((c.chunk r).2 - (c.chunk r).1)
            (match c.d.sc with | some sc => (scalePlaces c.d sc (c.chunk r).1 (c.chunk r).2).length | none => 0))).isNone))

/-- Add ranks to the absent set of a partition: 0x7119 for each; the flag is false where more than 8 would be absent. -/
def State.addAbsent (s : State) (part : Nat) (l : List Nat) : State × Bool :=
  let old := s.absentSet part
  let new := (l.filter (fun r => !old.contains r)).eraseDups
  if 8 < old.length + new.length then (s, false)
  else
    (s.each new (fun r s =>
      match (List.range 8).find? (fun n => !bitAt (s.fld .rc (Rc.ABSENT n) part) 15) with
      | some n => (s.setFld .rc (Rc.ABSENT n) (r + 32768) part).event 0x7119 0 [(2, part), (2, r)]
      | none => s), true)

/-- Restart a collective with the present ranks (R384 step 2). -/
def State.collRestart (s : State) (c : Coll) : State :=
  let absent := s.absentSet c.part
  let c := { c with absent := absent, ranks := c.group.filter (fun r => !absent.contains r), got := [], credit := [], sent := [],
                    granted := [], did := [], wrote := false, progress := s.tick }
  let s := (s.setColl c).bump .ct Ct.RESTART_CNT c.part
  (s.event 0x711A 0 [(2, c.part), (4, c.tag)]).collPump c.tag

/-- POLICY of a partition (R366): NONE where its table is not valid. -/
def State.policy (s : State) (part : Nat) : Nat := let t := tGet s.ct part; if t.valid then t.policy else 0

/-- A collective cannot go on without some ranks (R384, R385). -/
def State.collLose (s : State) (c : Coll) (missing : List Nat) : State :=
  if s.policy c.part = 1 && c.kind = 0 then
    match s.addAbsent c.part missing with
    | (s, false) => s.collFault c
    | (s, true) => (s.collTell c (.collAbort c.tag 2 (s.absentSet c.part))).collRestart c
  else s.collFault c

/-- COLL_TO of a partition in ticks (Table 13.1). -/
def State.collTo (s : State) (part : Nat) : Nat :=
  let t := tGet s.ct part
  if t.valid && t.collTo ≠ 0 then t.collTo else 2000

/-- COLL_TIMEOUT (R383): no contribution, credit or result has arrived for COLL_TO ticks. -/
def execCollTimeout (tag : Nat) (s : State) : Host.Outcome State Fault Refusal :=
  let s' := s.collPurge
  match s'.coll tag with
  | none => .next s
  | some c =>
    if s.tick < c.progress + s.collTo c.part || c.missing.isEmpty then .next s
    else
      let s := (s'.bump .ct Ct.COLL_TO_CNT c.part).event 0x7118 0 ((2, c.part) :: (4, tag) :: c.missing.map (fun r => (2, r)))
      .next (s.collLose c c.missing)

/-! ### Arriving flits (R83, R132, R384) -/

/-- Every element of one set lies in another. -/
def subset (a b : List Nat) : Bool := a.all (fun x => b.contains x)

/-- Data of a collective are kept (R83). -/
def State.collStore (s : State) (c : Coll) (h : CollHdr) (data : List Byte) : State :=
  if c.got.any (fun g => g.phase == h.phase && g.rank == h.rank && g.off == h.chunk) then
    (s.setColl { c with progress := s.tick }).collPump c.tag
  else
    let s := if h.phase = 0 && c.ahead h.rank h.chunk then s.stagePut c h.rank h.chunk data else s
    (s.setColl { c with got := c.got ++ [{ phase := h.phase, rank := h.rank, off := h.chunk, data := data }],
                        progress := s.tick }).collPump c.tag

/-- Data for a running collective: another descriptor aborts it (R132), a larger absent set restarts it (R384). -/
def State.collIn (s : State) (c : Coll) (h : CollHdr) (data : List Byte) : State :=
  if h.kind ≠ c.kind || h.op ≠ c.op || h.mode ≠ c.mode || h.fmtA ≠ c.fmtA || h.elems ≠ c.elems || h.n ≠ c.n || h.base ≠ c.base then
    (s.collTell c (.collAbort c.tag 1 [])).collFault c
  else if h.absent = c.absent then s.collStore c h data
  else if subset h.absent c.absent then s
  else
    let (s, ok) := s.addAbsent c.part h.absent
    if !ok then s.collFault c
    else
    let s := s.collRestart c
    match s.coll c.tag with
    | some c => if h.absent = c.absent then s.collStore c h data else s
    | none => s

/-- Credits of a receiver for its chunk (R83). -/
def State.collGain (s : State) (c : Coll) (rank n : Nat) : State :=
  (s.setColl { c with credit := smSet (fun _ => 0) c.credit rank (smGet (fun _ => 0) c.credit rank + n), progress := s.tick }).collPump c.tag

/-- A flit of a collective arrives in a partition: taken where the collective runs, else kept until it issues here. DESIGN CHOICE (log
entry 95): the spec does not say what becomes of a flit that is here before the descriptor. -/
def State.collFlit (s : State) (part : Nat) (e : CollEarly) : State :=
  let s := s.collPurge
  match s.coll e.tag with
  | some c =>
    if c.part ≠ part then s.modPartX part (fun x => { x with early := x.early ++ [e] })
    else match e.data with
    | some (h, data) => s.collIn c h data
    | none => s.collGain c e.rank e.n
  | none => s.modPartX part (fun x => { x with early := x.early ++ [e] })

/-- COLL_DATA arrives (R83, R132, R384). -/
def State.collData (s : State) (part : Nat) (h : CollHdr) (data : List Byte) : State :=
  s.collFlit part { tag := h.tag, rank := h.rank, data := some (h, data) }

/-- COLL_CREDIT arrives (R83). -/
def State.collCredit (s : State) (part tag rank n : Nat) : State := s.collFlit part { tag := tag, rank := rank, n := n }

/-- A collective has issued: the flits that came before it are taken in the order of their arrival. -/
def State.collReplay (s : State) (part tag : Nat) : State :=
  if (s.coll tag).any (fun c => c.part == part) then
    let l := (s.partX part).early.filter (fun e => e.tag == tag)
    let s := s.modPartX part (fun x => { x with early := x.early.filter (fun e => e.tag != tag) })
    s.each l (fun e s => s.collFlit part e)
  else s

/-- COLL_ABORT arrives: cause 1 faults the COLL (R132), cause 2 restarts it without the absent ranks (R384). -/
def State.collAbort (s : State) (tag cause : Nat) (absent : List Nat) : State :=
  let s := s.collPurge
  match s.coll tag with
  | none => s
  | some c =>
    if cause = 2 && c.kind = 0 && s.policy c.part = 1 then
      match s.addAbsent c.part absent with
      | (s, true) => if s.absentSet c.part = c.absent then s else s.collRestart c
      | (s, false) => s.collFault c
    else s.collFault c

/-! ### The descriptor (R130, R131) -/

/-- Accepted combinations of KIND, OP and MODE. -/
def collComboOk (kind op mode : Nat) : Bool :=
  if kind ≤ 1 then (decide (op ≤ 1) && (mode == 1 || mode == 2)) || ((op == 2 || op == 3) && mode == 1)
  else op == 0 && mode == 0

/-- The group record that IMM0 names. -/
def State.groupRec (s : State) (lc : Nat) (d : Desc) : Group := groupOf (s.recWords lc (bitsOf d.imm0.toNat 43 32))

def slotFmt (w : DWord) : Nat := (Ref.of w).fmt

/-- Steps 5 and 6 of R535: the extents of A, C and D, then the group, the routes and the tag. DEDUCED (log entry 94): the size of C
counts as a check of extents, and a block-scaled A that R131 does not admit is RECORD. -/
def State.collCheck (s : State) (lc kind tag : Nat) (d : Desc) (r : Refs) : Option DF :=
  let part := s.partOf lc
  let g := s.groupRec lc d
  let c := r.cc.t
  let bytes := c.rowBytes * c.e1 * c.e2 * c.e3
  let own := s.ownRank part
  let absent := s.absentSet part
  let bad := decide (16384 < g.n) || g.members.any (fun x => decide (16384 ≤ x))
  let members := if bad then [] else sortNat g.members
  let ranks := members.filter (fun x => !absent.contains x)
  let n := ranks.length
  let ea := r.aa.t.count
  let ed := r.dd.t.count
  let lost := bad || hasDup members || !own.any (fun o => members.contains o)
  let chunk := ({ kind := kind, fmtA := r.aa.fmt, elems := ea, ranks := ranks : Coll }).chunk (own.getD 0)
  let want := match kind with | 1 => chunk.2 - chunk.1 | 2 => n * ea | _ => ea
  if fmtBS r.aa.fmt && (r.aa.kax ≠ 0 || ea % 32 ≠ 0) then some { code := 3, ref := 2 }
  else if !lost && kind = 3 && ea % n ≠ 0 then some { code := 3, ref := 2 }
  else if (!lost || kind = 0 || kind = 3) && ed ≠ want then some { code := 3, ref := 2 }
  else if bytes % 4096 ≠ 0 || bytes < 65536 then some { code := 3, ref := 4 }
  else if lost then some { code := 0x0A, ref := 5 }
  else if members.any (fun x => !absent.contains x && !(s.rankChip part x).any (s.maskOk part)) then some { code := 9, ref := 5 }
  else if s.colls.any (fun c => c.tag == tag && s.collLive c) then some { code := 0x0A, ref := 5 }
  else none

/-- One scale byte for each element of A, 127 where A has none. -/
def scalePerElem (r : Tref) (scs : List Nat) : List Nat :=
  match r.sc with
  | none => []
  | some sc => r.t.ix.map (fun i => scs.getD (sc.flat (i.1 / 32) i.2.1 i.2.2.1 i.2.2.2) 127)

/-- A COLL of one KIND (R130). -/
def State.collIssue (s : State) (lc : Nat) (d : Desc) (kind : Nat) : State :=
  let v := d.imm0.toNat
  let op := bitsOf v 7 4
  let mode := bitsOf v 9 8
  let tag := d.imm1.toNat
  let f : Form :=
    { code := 0x3A, kind := some kind, m0 := 0x00000FFF000003FF, m1 := 2 ^ 32 - 1,
      immBad := decide (4 ≤ v % 16) || !collComboOk kind op mode || (decide (2 ≤ kind) && slotFmt d.refA != slotFmt d.refD),
      need := [2, 2, 0, 2], recs := [bitsOf v 43 32],
      opt := [{ dst := true, quant := mode == 2 && fmtBS (slotFmt d.refD) }, { exact := mode == 2 }, {}, {}],
      loc := [.own, .own, .own, .staging] }
  (s.issue lc d f 5 (fun s _ r => s.collCheck lc kind tag d r) noEngs
    (fun s r id =>
      let s := s.collPurge
      let ctx := s.whoOf lc
      let part := s.partOf lc
      let g := s.groupRec lc d
      let group := sortNat g.members
      let absent := s.absentSet part
      let ct := r.cc.t
      match s.readBits r.aa.t ctx with
      | (s, none) => Eff.bus s 2
      | (s, some bits) =>
        match (match r.aa.sc with | some sc => s.readBits sc ctx | none => (s, some [])) with
        | (s, none) => Eff.bus s 2
        | (s, some scs) =>
          let ranks := group.filter (fun x => !absent.contains x)
          let ea := r.aa.t.count
          let c : Coll :=
            { tag := tag, lc := lc, id := id, part := part, kind := kind, op := op, mode := mode, base := g.base, n := g.n,
              fmtA := r.aa.fmt, elems := if kind = 3 then ea / ranks.length else ea, group := group, ranks := ranks,
              own := (s.ownRank part).getD 0, absent := absent, d := r.dd, stage := ct, seed := s.seedOf part, step := s.stepOf part,
              aBits := bits, aScs := scalePerElem r.aa scs,
              cap := ct.rowBytes * ct.e1 * ct.e2 * ct.e3 / 4096, progress := s.tick }
          { s := { s with colls := s.colls ++ [c] }, wait := some (.coll tag), inv := if mode = 0 then 0 else rsvdCount (fmtCode r.aa.fmt) bits })
    |>.collPump tag |>.collReplay (s.partOf lc) tag)

/-- COLL_ALL_REDUCE (R130). -/
def execCollAllReduce (lc : Nat) (d : Desc) (s : State) : Host.Outcome State Fault Refusal := .next (s.collIssue lc d 0)

/-- COLL_REDUCE_SCATTER (R130). -/
def execCollReduceScatter (lc : Nat) (d : Desc) (s : State) : Host.Outcome State Fault Refusal := .next (s.collIssue lc d 1)

/-- COLL_ALL_GATHER (R130). -/
def execCollAllGather (lc : Nat) (d : Desc) (s : State) : Host.Outcome State Fault Refusal := .next (s.collIssue lc d 2)

/-- COLL_ALL_TO_ALL (R130). -/
def execCollAllToAll (lc : Nat) (d : Desc) (s : State) : Host.Outcome State Fault Refusal := .next (s.collIssue lc d 3)

/-! ### The edge -/

/-- FOLD_WAIT_CNT (R83): one for each tick in which a fold of the partition waited. -/
def State.foldWaitEdge (s : State) : State :=
  s.each (s.parts.map (·.1)) (fun p s =>
    if (s.partX p).foldWait then
      let still := s.colls.any (fun c => c.part == p && c.foldWaits)
      (s.bump .ari Ari.FOLD_WAIT_CNT p).modPartX p (fun x => { x with foldWait := still })
    else s)

end Sys2Proof.Machine
end

