-- ==== Sys2Proof/Machine/ContOps.lean ====
section
/-! DEFINITION. Shared operations of continuity: the parts of a checkpoint slot (R366, R377), messages (R368), the abort of a
checkpoint (R380) and the end of a recovery command (R387, R397). -/
namespace Sys2Proof.Machine

/-! ### The table in use and the slot's layout (R365, R366, R377) -/

/-- The copy of a partition's table in use. -/
def State.ctOf (s : State) (p : Nat) : CtTab := tGet s.ct p

/-- 64 KiB. -/
def unit64 : Nat := 65536

/-- W := ⌈U / (G − 2)⌉. -/
def CtTab.w (t : CtTab) : Nat := if t.g < 3 then 0 else (t.u + t.g - 3) / (t.g - 2)

/-- Units of 64 KiB in a slot: U + 2W + 65. -/
def CtTab.slotUnits (t : CtTab) : Nat := t.u + 2 * t.w + 65

/-- The address of a unit of a slot. -/
def CtTab.unitAddr (t : CtTab) (slot n : Nat) : Nat := (if slot = 0 then t.slot0 else t.slot1) + n * unit64

/-- The rank of a member of the parity group. -/
def CtTab.rankOf (t : CtTab) (m : Nat) : Nat := t.pgBase + m * t.pgStep

/-- The own member number, where the device is a member. -/
def State.ckMember (s : State) (p : Nat) : Option Nat :=
  let t := s.ctOf p
  (s.ownRank p).bind (fun r => (List.range t.g).find? (fun m => t.rankOf m == r))

/-- data_row (R377): data unit `j` of member `m` in a group of `g`. -/
def dataRow (m j g : Nat) : Nat :=
  j / (g - 2) * g + (((List.range g).filter (fun rho => rho != m && rho != (m + g - 1) % g)).getD (j % (g - 2)) 0)

/-- data_index (R377). -/
def dataIndex (m r g : Nat) : Nat :=
  m - (if r % g < m then 1 else 0) - (if (r + 1) % g < m then 1 else 0)

/-- The slot unit of row `r`'s P stripe and of its Q stripe. -/
def CtTab.pUnit (t : CtTab) (r : Nat) : Nat := t.u + 1 + r / t.g
def CtTab.qUnit (t : CtTab) (r : Nat) : Nat := t.u + t.w + 1 + r / t.g

/-- The staging unit at a holder for the units that member `m` sends (R378). -/
def CtTab.stageUnit (t : CtTab) (m : Nat) : Nat := t.u + 2 * t.w + 1 + m

/-! ### Messages and engine writes (R368) -/

/-- Send a continuity message: OP, partition, step and the further fields in the order of the tables. -/
def State.contSend (s : State) (dest op part step : Nat) (f : List Nat) (data : List Byte := []) : State :=
  s.sendMg dest (.cont op part step f data)

/-- The context under which the continuity engine's writes to a peer travel: the lowest BOUND context of the partition. -/
def State.engCtx (s : State) (part : Nat) : Nat :=
  ((s.regs.find? (fun e => regAddr e.1 == Page.ctx.base + 0x10C && e.2.toNat % 4 == 1 && bitsOf e.2.toNat 27 16 == part)).map
    (fun e => regBank e.1)).getD 0

/-- The key of the engine's work of a partition among outstanding operations (logical cores end at 63). -/
def engLc (part : Nat) : Nat := 64 + part

/-- The engine writes bytes to a peer in BULK: answers the tags of the writes. -/
def State.engWrite (s : State) (part chip addr : Nat) (data : List Byte) (kind : Nat) : State × List Nat :=
  let c := s.engCtx part
  let g := s.ctxGen c
  (List.range ((data.length + 191) / 192)).foldl (fun (acc : State × List Nat) i =>
    let b := (data.drop (192 * i)).take 192
    let (s, n) := acc.1.sendE2e chip part c g 3 0 (.wr ((addr + 192 * i) % 2 ^ 48) b)
    let tag := n % 2 ^ 32
    ({ s with outst := s.outst ++ [{ chip := chip, part := part, tag := tag, lc := engLc part, infl := kind }] },
      acc.2 ++ [tag])) (s, [])

/-- Write bytes of the own memory for the engine, line by line and whole. -/
def State.engStore (s : State) (a : Nat) (data : List Byte) : State := (s.writeMem a data none).1

/-! ### Checkpoints (R374–R380) -/

def State.ckX (s : State) (p : Nat) : CkX := tGet s.cks p
def State.modCk (s : State) (p : Nat) (f : CkX → CkX) : State := { s with cks := tMod s.cks p f }
def State.ckSt (s : State) (p : Nat) : Nat := s.fld .ck (Ck.CK_STATUS.sub 2 0) p
def State.ckSlot (s : State) (p : Nat) : Nat := s.fld .ck (Ck.CK_STATUS.sub 3 3) p
def State.ckStep (s : State) (p : Nat) : Nat := s.fld64 .ck Ck.CK_STEP_LO p

/-- The first line of a commit record (Table 13.5). -/
def ckHeader (t : CtTab) (p step slot st : Nat) : List Byte :=
  bytesLE 8 (1 + st * 256 + p * 65536) ++ bytesLE 8 step ++ bytesLE 8 (slot + t.g * 256) ++ bytesLE 8 (t.u + t.w * 2 ^ 32)
    ++ bytesLE 8 (t.pgBase + t.pgStep * 65536) ++ bytesLE 24 0

/-- A commit record with the digests of the members in order. -/
def ckRecord (t : CtTab) (p step slot st : Nat) (ds : List (List Nat)) : List Byte :=
  ckHeader t p step slot st ++ ds.flatMap (fun l => l.flatMap (fun d => bytesLE 16 d))

/-- STATE of the commit record of a slot. -/
def State.recState (s : State) (t : CtTab) (slot : Nat) : Nat := (s.peek (t.unitAddr slot 0 + 1)).toNat

/-- Write STATE = INVALID into the commit record of a slot: the record's first line is written whole. -/
def State.recInvalid (s : State) (p slot step : Nat) : State :=
  let t := s.ctOf p
  s.engStore (t.unitAddr slot 0) (ckHeader t p step slot 0)

/-- A checkpoint runs: COPYING or DONE_LOCAL. -/
def State.ckRuns (s : State) (p : Nat) : Bool := s.ckSt p == 1 || s.ckSt p == 2

/-- Snapshot commands and copies of a partition's checkpoint that an NMU still holds. -/
def NCmd.ckOf (c : NCmd) (p : Nat) : Bool := c.src == 3 && c.part == p

/-- The chips of the other members of the parity group. -/
def State.ckPeers (s : State) (p : Nat) : List Nat :=
  let t := s.ctOf p
  (List.range t.g).filterMap (fun m =>
    match s.rankChip p (t.rankOf m) with
    | some c => if c = s.chip then none else some c
    | none => none)

/-- The abort of a checkpoint on this member (R380), with a cause of Table 13.12; `tell` says that this member detected it. -/
def State.ckAbort (s : State) (p cause : Nat) (tell : Bool) : State :=
  if s.ckRuns p then
    let t := s.ctOf p
    let slot := s.ckSlot p
    let step := s.ckStep p
    let snap := (s.ckX p).snap
    let s := if tell then s.each (s.ckPeers p) (fun c s => s.contSend c 7 p step [slot, cause]) else s
    let s := s.each (List.range 12) (fun k s =>
      let x := s.nmuSt k
      s.setNmu k { x with qPage := x.qPage.filter (fun c => !c.ckOf p), fwQ := x.fwQ.filter (fun c => !c.ckOf p),
                               running := x.running.filter (fun c => !c.ckOf p) })
    let s := if (List.range 12).any (fun k => s.matActive k && (s.mat k).part == p && s.fld (.mat k) Mat.SNAP_ID == snap) then
        s.snapAbort else s
    let s := if s.recState t slot = 1 then s else s.recInvalid p slot step
    let s := { s with outst := s.outst.filter (fun o => !(o.lc == engLc p && o.infl == 1)) }
    let s := s.modCk p (fun x => { x with copies := [], queue := [], flight := [], rows := [], digests := [], stripes := [],
                                          acks := [], recTags := [], recPhase := 0 })
    let s := s.setFld .ck (Ck.CK_STATUS.sub 2 0) 4 p
    let s := s.setFld .ck (Ck.CK_STATUS.sub 11 8) cause p
    (s.bump .ck Ck.CK_ABORT_CNT p).event 0x7114 0 [(2, p), (2, cause)]
  else s

/-! ### Recovery commands (R387, R397) -/

def State.rcX (s : State) (p : Nat) : RcX := tGet s.rcs p
def State.setRc (s : State) (p : Nat) (x : RcX) : State := { s with rcs := tSet s.rcs p x }
def State.rcSt (s : State) (p : Nat) : Nat := s.fld .rc (Rc.RC_STATUS.sub 1 0) p

/-- A recovery command ends: 2 DONE, or 3 FAILED with a cause. -/
def State.rcEnd (s : State) (p st cause : Nat) : State :=
  let s := s.setFld .rc (Rc.RC_STATUS.sub 1 0) st p
  let s := s.setFld .rc (Rc.RC_STATUS.sub 11 8) cause p
  let x := s.rcX p
  let s := { s with outst := s.outst.filter (fun o => !(o.lc == engLc p && o.infl == 2)) }
  s.setRc p { marked := x.marked }

/-- A PULL or other recovery work of the partition ends unfinished (Table 13.9). -/
def State.rcCancel (s : State) (p : Nat) : State :=
  if s.rcSt p = 1 then (s.rcEnd p 3 1).bump .rc Rc.RC_FAIL_CNT p else s

end Sys2Proof.Machine
end

