-- ==== Sys2Proof/Machine/Nmu.lean ====
section
/-! DEFINITION. The commands of the near-memory units (R187–R209) and of Matryoshka (R210–R214). Each data command names
the stack of the lead and the place of the command among those it runs; it does nothing where no such command has
its data to move. -/
namespace Sys2Proof.Machine

/-- A write of CMD_POST (R191): the block at CMD_ADDR goes to the page queue; a full queue drops it. -/
def State.nmuPost (s : State) (k : Nat) (v : Word) : State :=
  if bitAt v.toNat 0 && !(s.nmuSt k).failed then
    if 8 ≤ ((s.nmuSt k).qPage.filter (fun c => c.src != 3)).length then s.setErr (.nmu k) 0
    else
      let (s, c) := s.nmuFetch k (s.fld64 (.nmu k) Nmu.CMD_ADDR_LO) 1 0 0 0
      let c := { c with sigAddr := s.fld64 (.nmu k) Nmu.CMD_SIG_LO }
      let x := s.nmuSt k
      s.setNmu k { x with qPage := x.qPage ++ [c], nextId := x.nextId + 1 }
  else s

/-- NMU_PAGE_POST (R191). -/
def execNmuPagePost (m : Master) (k : Nat) (v : Word) (s : State) : Host.Outcome State Fault Refusal :=
  .next (s.gated m (.nmu k) (fun s => s.nmuPost k v))

/-- NMU_FILL (R199). -/
def execNmuFill (k idx : Nat) (s : State) : Host.Outcome State Fault Refusal :=
  .next (s.nmuTake k idx 1 0 (fun c s => let line := (List.replicate 8 (bytesLE 8 c.param)).flatten
    let (s, e) := s.nmuWrite c c.a0 ((List.replicate (c.cnt / 64) line).flatten) c.cnt
    (s.nmuEnd k idx e)))

/-- NMU_COPY (R199, R213). -/
def execNmuCopy (k idx : Nat) (s : State) : Host.Outcome State Fault Refusal :=
  .next (s.nmuTake k idx 2 0 (fun c s => let (s, b, e) := s.nmuRead c c.a1 c.cnt
    let (s, e') := s.nmuWrite c c.a0 b b.length
    (s.nmuEnd k idx (firstErr [e, e']) (got := b.length))))

/-- Read stripes of a command: their bytes as numbers, and how the first that failed stopped. -/
def State.readStripes (s : State) (c : NCmd) (l : List Nat) : State × List (List Nat) × Nat :=
  l.foldl (fun (acc : State × List (List Nat) × Nat) a =>
    let (s, b, e) := acc.1.nmuRead c a c.cnt
    (s, acc.2.1 ++ [b.map (·.toNat)], firstErr [acc.2.2, e])) (s, [], 0)

/-- The length that every stripe has been read to. -/
def minLen (n : Nat) (l : List (List Nat)) : Nat := l.foldl (fun m x => min m x.length) n

def toBytes (l : List Nat) : List Byte := l.map (BitVec.ofNat 8)

/-- RS_ENC (R200): P and Q over k data stripes. -/
def execRsEnc (k idx : Nat) (s : State) : Host.Outcome State Fault Refusal :=
  .next (s.nmuTake k idx 3 0 (fun c s => let (s, ds, e) := s.readStripes c (s.addrList c.a1 c.k)
    let n := minLen c.cnt ds
    let (p, q) := rsParity n (ds.map (·.take n))
    let (s, e1) := s.nmuWrite c c.a0 (toBytes p) n
    let (s, e2) := if c.a2 = 0 then (s, 0) else s.nmuWrite c c.a2 (toBytes q) n
    (s.nmuEnd k idx (firstErr [e, e1, e2]))))

/-- Add bytes to the bytes at an address, each addition being an exclusive or (R200). -/
def State.rsAdd (s : State) (c : NCmd) (a : Nat) (x : List Nat) : State × Nat :=
  let (s, old, e0) := s.nmuRead { c with w0 := c.w0 % 2 ^ 29 } a x.length
  let (s, e1) := s.nmuWrite c a (toBytes (List.zipWith (fun u v => u ^^^ v) (old.map (·.toNat)) x)) old.length
  (s, firstErr [e0, e1])

/-- RS_ACC (R200): one data stripe is added into P and Q. -/
def execRsAcc (k idx : Nat) (s : State) : Host.Outcome State Fault Refusal :=
  .next (s.nmuTake k idx 3 1 (fun c s => let (s, d, e) := s.nmuRead c c.a1 c.cnt
    let d := d.map (·.toNat)
    let (s, e1) := s.rsAdd c c.a0 d
    let (s, e2) := if c.a2 = 0 then (s, 0) else s.rsAdd c c.a2 (mulAlpha c.k d)
    (s.nmuEnd k idx (firstErr [e, e1, e2]))))

/-- RS_DEC (R200, Table 7.4): up to two missing stripes are rebuilt. -/
def execRsDec (k idx : Nat) (s : State) : Host.Outcome State Fault Refusal :=
  .next (s.nmuTake k idx 3 2 (fun c s => let l := s.addrList c.a1 (c.k + 2)
    let gone := fun i => decide (i = c.x) || decide (i = c.y)
    let nd := ((List.range c.k).filter gone).length
    let need := (List.range (c.k + 2)).filter (fun i => !gone i
      && (decide (i < c.k) || (i == c.k && decide (1 ≤ nd)) || (i == c.k + 1 && (decide (nd = 2) || (decide (nd = 1) && gone c.k)))))
    let (s, got, e) := s.readStripes c (need.map (fun i => l.getD i 0))
    let n := minLen c.cnt got
    let st := (List.range (c.k + 2)).map (fun i =>
      match (need.zip got).find? (fun p => p.1 == i) with
      | some p => p.2.take n
      | none => List.replicate n 0)
    let ds := rsRebuild n c.k c.x c.y st
    let (p, q) := rsParity n ds
    let out := fun i => if i < c.k then ds.getD i [] else if i = c.k then p else q
    let (s, e1) := s.nmuWrite c (l.getD c.x 0) (toBytes (out c.x)) n
    let (s, e2) := if c.y = 63 then (s, 0) else s.nmuWrite c (l.getD c.y 0) (toBytes (out c.y)) n
    (s.nmuEnd k idx (firstErr [e, e1, e2]))))

/-- NMU_DIGEST (R201): the digest of a range is written at ADDR0. -/
def execNmuDigest (k idx : Nat) (s : State) : Host.Outcome State Fault Refusal :=
  .next (s.nmuTake k idx 4 0 (fun c s => let (s, b, e) := s.nmuRead c c.a1 c.cnt
    if e ≠ 0 then s.nmuEnd k idx e
    else
      let (s, e) := (s.nmuTotal k true 16).nmuStore c c.a0 (bytesLE 16 (digest128 (s.digKey c.part) b))
      s.nmuEnd k idx e))

/-- FP32 bits of decoded elements. -/
def nmuF32 (f : Nat) (l : List Nat) : List Nat := l.map (fun b => rne32 (decodeElem (fmtCode f) b).1)

/-- Write FP32 values rounded once into the format of a destination of OPT. -/
def State.optPut (s : State) (c : NCmd) (a f tid : Nat) (l : List Nat) : State × Nat × Flags :=
  let (bits, fl) := castArray f (fun i => rndOf f (c.seed) c.step tid (c.origin * 65536 + i))
    (l.map (fun b => (f32Val b, false)))
  let (s, e) := s.nmuPut c a f bits
  (s, e, fl)

/-- The optional second copy of W. -/
def State.optCopy (s : State) (c : NCmd) (w : List Nat) : State × Nat × Flags :=
  let a := c.hy 0x28 8
  if a = 0 then (s, 0, {}) else s.optPut c a (c.hy 0x30 1) ((c.hy 0x38 4 + 3) % 2 ^ 32) w

/-- GSCALE, 0 standing for 1.0. -/
def NCmd.gscale (c : NCmd) : Nat := if c.hy 0x24 4 = 0 then 0x3F800000 else c.hy 0x24 4

/-- OPT_SGD (R202, R203). -/
def execOptSgd (k idx : Nat) (s : State) : Host.Outcome State Fault Refusal :=
  .next (s.nmuTake k idx 5 0 (fun c s => let (s, w, e0) := s.nmuElems c c.a0 (c.fmt 0) c.cnt
    let (s, g, e1) := s.nmuElems c c.a1 (c.fmt 1) c.cnt
    let (s, m, e2) := s.nmuElems c c.a2 (c.fmt 2) c.cnt
    let src := (nmuF32 (c.fmt 0) w).zip ((nmuF32 (c.fmt 1) g).zip (nmuF32 (c.fmt 2) m))
    let r := src.map (fun p => optSgd (c.hy 0 4) (c.hy 4 4) (c.hy 0x20 4) c.gscale p.1 p.2.1 p.2.2)
    let tid := c.hy 0x38 4
    let (s, e3, f3) := s.optPut c c.a0 (c.fmt 0) tid (r.map (·.1))
    let (s, e4, f4) := s.optPut c c.a2 (c.fmt 2) ((tid + 1) % 2 ^ 32) (r.map (·.2))
    let (s, e5, f5) := s.optCopy c (r.map (·.1))
    (s.nmuEnd k idx (firstErr [e0, e1, e2, e3, e4, e5]) ((f3.join f4).join f5))))

/-- OPT_ADAMW (R202, R203). -/
def execOptAdamw (k idx : Nat) (s : State) : Host.Outcome State Fault Refusal :=
  .next (s.nmuTake k idx 5 1 (fun c s => let (s, w, e0) := s.nmuElems c c.a0 (c.fmt 0) c.cnt
    let (s, g, e1) := s.nmuElems c c.a1 (c.fmt 1) c.cnt
    let (s, m, e2) := s.nmuElems c c.a2 (c.fmt 2) c.cnt
    let (s, v, e3) := s.nmuElems c c.a3 (c.fmt 3) c.cnt
    let src := (nmuF32 (c.fmt 0) w).zip ((nmuF32 (c.fmt 1) g).zip ((nmuF32 (c.fmt 2) m).zip (nmuF32 (c.fmt 3) v)))
    let r := src.map (fun p => optAdamW (c.hy 0 4) (c.hy 4 4) (c.hy 8 4) (c.hy 0xC 4) (c.hy 0x10 4) (c.hy 0x14 4)
      (c.hy 0x18 4) (c.hy 0x1C 4) (c.hy 0x20 4) c.gscale p.1 p.2.1 p.2.2.1 p.2.2.2)
    let tid := c.hy 0x38 4
    let (s, e4, f4) := s.optPut c c.a0 (c.fmt 0) tid (r.map (·.1))
    let (s, e5, f5) := s.optPut c c.a2 (c.fmt 2) ((tid + 1) % 2 ^ 32) (r.map (·.2.1))
    let (s, e6, f6) := s.optPut c c.a3 (c.fmt 3) ((tid + 2) % 2 ^ 32) (r.map (·.2.2))
    let (s, e7, f7) := s.optCopy c (r.map (·.1))
    (s.nmuEnd k idx (firstErr [e0, e1, e2, e3, e4, e5, e6, e7]) ((f4.join f5).join (f6.join f7)))))

/-- Read the scales of a block-scaled source. -/
def State.nmuScales (s : State) (c : NCmd) (a f : Nat) : State × List Byte × Nat :=
  if fmtBS f then s.nmuRead c a c.cnt 1 else (s, [], 0)

/-- GACC_ADD (R204). -/
def execGaccAdd (k idx : Nat) (s : State) : Host.Outcome State Fault Refusal :=
  .next (s.nmuTake k idx 6 0 (fun c s => let (s, v, e0) := s.nmuElems c c.a1 (c.fmt 1) c.cnt
    let (s, sc, e1) := s.nmuScales c c.a2 (c.fmt 1)
    let (s, ab, e2) := s.nmuRead c c.a0 c.cnt 256
    let n := min v.length (min (ab.length / 8) (if fmtBS (c.fmt 1) then 32 * sc.length else c.cnt))
    let vals := decodeArray (c.fmt 1) (v.take n) (sc.map (·.toNat))
    let r := vals.zipIdx.map (fun p =>
      (gaccAdd c.fGacc (natLE ((ab.drop (8 * p.2)).take 8)) p.1.1, p.1.2))
    let (s, e3) := s.nmuWrite c c.a0 ((r.map (fun p => bytesLE 8 p.1.1)).flatten) r.length 256
    let fl : Flags := { inv := r.any (fun p => p.1.2.1 || p.2), sat := r.any (fun p => p.1.2.2.1) }
    (s.nmuEnd k idx (firstErr [e0, e1, e2, e3]) fl (r.any (fun p => p.1.2.2.2))
      (r.filter (fun p => p.1.2.2.1)).length)))

/-- GACC_READ and the read of GACC_READ_CLEAR (R204). -/
def State.gaccRead (s : State) (k idx : Nat) (c : NCmd) (clear : Bool) : State :=
  let (s, ab, e0) := s.nmuRead c c.a1 c.cnt 256
  let n := ab.length / 8
  let vals := (List.range n).map (fun i => (gaccVal c.fGacc (natLE ((ab.drop (8 * i)).take 8)), false))
  let f := c.fmt 0
  let rnd := fun i => rndOf f (c.seed) c.step (c.param % 2 ^ 32) (c.origin * 65536 + i)
  let (sc, bits, fl) :=
    if fmtBS f then quantArray f rnd (n + 1) 0 vals
    else let (b, fl) := castArray f rnd vals; ([], b, fl)
  let (s, e1) := s.nmuPut c c.a0 f bits
  let (s, e2) := if fmtBS f then s.nmuWrite c c.a3 (toBytes sc) n 1 else (s, 0)
  let (s, e3) := if clear then s.nmuWrite c c.a1 (List.replicate (8 * n) 0) n 256 else (s, 0)
  s.nmuEnd k idx (firstErr [e0, e1, e2, e3]) fl

/-- GACC_READ (R204). -/
def execGaccRead (k idx : Nat) (s : State) : Host.Outcome State Fault Refusal :=
  .next (s.nmuTake k idx 6 1 (fun c s => (s.gaccRead k idx c false)))

/-- GACC_READ_CLEAR (R204). -/
def execGaccReadClear (k idx : Nat) (s : State) : Host.Outcome State Fault Refusal :=
  .next (s.nmuTake k idx 6 2 (fun c s => (s.gaccRead k idx c true)))

/-- NMU_GATHER (R205, R206). -/
def execNmuGather (k idx : Nat) (s : State) : Host.Outcome State Fault Refusal :=
  .next (s.nmuTake k idx 7 0 (fun c s => let (s, ib, e0) := s.nmuList k c c.a2 (4 * c.cnt)
    let (s, e, fl, bad) := (List.range (ib.length / 4)).foldl (fun (acc : State × Nat × Flags × Nat) i =>
      if acc.2.1 ≠ 0 then acc
      else
        let ix := natLE ((ib.drop (4 * i)).take 4)
        let dst := c.a0 + i * c.rowBytes (c.fmt 0)
        if c.tRows ≤ ix then
          let (s, e) := acc.1.nmuPut c dst (c.fmt 0) (List.replicate c.rowLen (convert (fmtCode (c.fmt 0)) false .rne (.fin false 0 1)).bits) (i * c.rowLen)
          (s, e, acc.2.2.1.join { inv := true }, acc.2.2.2 + 1)
        else
          let (s, v, e) := acc.1.nmuElems c (c.a1 + ix * c.rowBytes (c.fmt 1)) (c.fmt 1) c.rowLen (i * c.rowLen)
          let (bits, fl) := castArray (c.fmt 0) (fun _ => .rne) (decodeArray (c.fmt 1) v [])
          let (s, e') := s.nmuPut c dst (c.fmt 0) bits (i * c.rowLen)
          (s, firstErr [e, e'], acc.2.2.1.join fl, acc.2.2.2)) (s, e0, {}, 0)
    (s.nmuEnd k idx e fl false bad)))

/-- SCATTER_ADD over rows in ascending order; `f` adds one row to the bytes of a table row (R207). -/
def State.scatterRows (s : State) (k : Nat) (c : NCmd) (el : Nat)
    (f : List Nat → List (Val × Bool) → List Nat × Flags × Bool × Nat) : State × Nat × Flags × Bool × Nat :=
  let (s, ib, e0) := s.nmuList k c c.a2 (4 * c.cnt)
  (List.range (ib.length / 4)).foldl (fun (acc : State × Nat × Flags × Bool × Nat) i =>
    if acc.2.1 ≠ 0 then acc
    else
      let ix := natLE ((ib.drop (4 * i)).take 4)
      if c.tRows ≤ ix then (acc.1, 0, acc.2.2.1.join { inv := true }, acc.2.2.2)
      else
        let (s, v, e1) := acc.1.nmuElems c (c.a1 + i * c.rowBytes (c.fmt 1)) (c.fmt 1) c.rowLen (ix * c.rowLen)
        let row := c.a0 + ix * el * c.rowLen
        let (s, tb, e2) := s.nmuRead c row c.rowLen (32 * el) (ix * c.rowLen)
        let old := (List.range (tb.length / el)).map (fun j => natLE ((tb.drop (el * j)).take el))
        let (new, fl, tr, cnt) := f old (decodeArray (c.fmt 1) v [])
        let (s, e3) := s.nmuWrite c row ((new.map (bytesLE el)).flatten) new.length (32 * el) (ix * c.rowLen)
        (s, firstErr [e1, e2, e3], acc.2.2.1.join fl, acc.2.2.2.1 || tr, acc.2.2.2.2 + cnt)) (s, e0, {}, false, 0)

/-- SCATTER_ADD_FP32 (R207). -/
def execScatterAddFp32 (k idx : Nat) (s : State) : Host.Outcome State Fault Refusal :=
  .next (s.nmuTake k idx 8 0 (fun c s => let (s, e, fl, _, _) := s.scatterRows k c 4 (fun old v =>
      (List.zipWith (fun t (p : Val × Bool) => rne32 ((f32Val t).add p.1)) old v, { inv := v.any (·.2) }, false, 0))
    (s.nmuEnd k idx e fl)))

/-- SCATTER_ADD_EXACT (R204, R207). -/
def execScatterAddExact (k idx : Nat) (s : State) : Host.Outcome State Fault Refusal :=
  .next (s.nmuTake k idx 8 1 (fun c s => let (s, e, fl, tr, cnt) := s.scatterRows k c 8 (fun old v =>
      let r := List.zipWith (fun t (p : Val × Bool) => (gaccAdd c.fScat t p.1, p.2)) old v
      (r.map (·.1.1), { inv := r.any (fun p => p.1.2.1 || p.2), sat := r.any (fun p => p.1.2.2.1) },
        r.any (fun p => p.1.2.2.2), (r.filter (fun p => p.1.2.2.1)).length))
    (s.nmuEnd k idx e fl tr cnt)))

/-- The source of CONVERT, with its scales. -/
def State.convertSrc (s : State) (c : NCmd) : State × List (Val × Bool) × Nat :=
  let (s, v, e0) := s.nmuElems c c.a1 (c.fmt 1) c.cnt
  let (s, sc, e1) := s.nmuScales c c.a2 (c.fmt 1)
  let n := if fmtBS (c.fmt 1) then min v.length (32 * sc.length) else v.length
  (s, decodeArray (c.fmt 1) (v.take n) (sc.map (·.toNat)), firstErr [e0, e1])

/-- CONVERT_CAST (R208). -/
def execConvertCast (k idx : Nat) (s : State) : Host.Outcome State Fault Refusal :=
  .next (s.nmuTake k idx 9 0 (fun c s => let (s, v, e) := s.convertSrc c
    let f := c.fmt 0
    let (bits, fl) := castArray f (fun i => rndOf f (c.seed) c.step (c.param % 2 ^ 32) (c.origin * 65536 + i)) v
    let (s, e1) := s.nmuPut c c.a0 f bits
    (s.nmuEnd k idx (firstErr [e, e1]) fl)))

/-- CONVERT_QUANTISE (R208, R62). -/
def execConvertQuantise (k idx : Nat) (s : State) : Host.Outcome State Fault Refusal :=
  .next (s.nmuTake k idx 9 1 (fun c s => let (s, v, e) := s.convertSrc c
    let f := c.fmt 0
    let rnd := fun i => rndOf f (c.seed) c.step (c.param % 2 ^ 32) (c.origin * 65536 + i)
    let (sc, bits, fl) := quantArray f rnd (v.length + 1) 0 v
    let (s, e1) := s.nmuPut c c.a0 f bits
    let (s, e2) := s.nmuWrite c c.a3 (toBytes sc) v.length 1
    (s.nmuEnd k idx (firstErr [e, e1, e2]) fl)))

/-- NMU_SCRUB (R209): the symbols in error with which lines of the range are received, by the number of the line in the range: in
sector 0, in sector 1 and in the metadata word; every other line is received as it is stored. Lines with UNWRITTEN set are skipped. -/
def execNmuScrub (k idx : Nat) (s0 s1 md : List (Nat × SymErr)) (s : State) : Host.Outcome State Fault Refusal :=
  .next (s.nmuTake k idx 10 0 (fun c s =>
    let s := s.nmuBytes c false 0 c.cnt 32
    let stored := s.lines.filterMap (fun e =>
      let o := s.edGlobal (e.1 / 2 ^ 31) (e.1 % 2 ^ 31 * 64)
      if gaOff c.a1 ≤ o && o < gaOff c.a1 + c.cnt then some ((o - gaOff c.a1) / 64) else none)
    let obs := (s0.map (fun e => (e.1, { e.2 with word := 0 }))) ++ (s1.map (fun e => (e.1, { e.2 with word := 1 })))
      ++ md.map (fun e => (e.1, { e.2 with word := 2 }))
    let ns := ((obs.map (·.1)).filter (fun i => decide (64 * i < c.cnt)) ++ stored).eraseDups
    let (s, bad) := ns.foldl (fun (acc : State × Nat) i =>
      match acc.1.edMap (gaOff c.a1 + 64 * i) with
      | none => acc
      | some (j, l) =>
        if (acc.1.lineMeta j l).unwritten then acc
        else
          let (s, x) := acc.1.scrubRead j l ((obs.filter (fun o => o.1 == i)).map (·.2))
          (s, if x.good j l then acc.2 else acc.2 + 1)) (s, 0)
    s.nmuEnd k idx 0 {} false bad))

/-- SNAP_ARM (R211): of two that have been accepted, the one that runs second finds a snapshot ACTIVE and is rejected. -/
def execSnapArm (k idx : Nat) (s : State) : Host.Outcome State Fault Refusal :=
  .next (s.nmuTake k idx 11 0 (fun c s => if s.nmuSnapOk c then (s.snapArm c).nmuEnd k idx 0 else s.nmuEnd k idx 0x14))

/-- SNAP_ABORT (R214): acts where SNAP_ID matches that of the snapshot under way. -/
def execSnapAbort (k idx : Nat) (s : State) : Host.Outcome State Fault Refusal :=
  .next (s.nmuTake k idx 11 1 (fun c s => let hit := (List.range 12).any (fun j => s.matActive j && s.fld (.mat j) Mat.SNAP_ID == c.param % 2 ^ 32)
    ((if hit then s.snapAbort else s).nmuEnd k idx 0)))

/-- SNAP_UNIT_SAVED (R212): due while a write is held on the unit and a slot is free; `ns` is how long the first of
them was held. -/
def execSnapUnitSaved (k u ns : Nat) (s : State) : Host.Outcome State Fault Refusal :=
  .next (if (s.mat k).held.any (fun w => w.l / 4096 == u) && s.slotFree k then ((s.holdMax k ns).matSave k u).flushAll else s)

/-- The units of its source that a COPY with CONSUME has read whole: stack and number (R213). -/
def State.consumed (s : State) (c : NCmd) : List (Nat × Nat) :=
  (unitsOf (gaOff c.a1) c.cnt).filterMap (fun r => if r.1 + r.2 ≤ gaOff c.a1 + c.got then s.unitOf r.1 else none)

/-- SNAP_UNIT_CONSUMED (R213): the running COPY `idx` of lead `lead` with CONSUME has read unit `u` of stack `k` whole, whether it went on
or stopped after it. How long writes held on the unit had waited is a free value (log entry 97). -/
def execSnapUnitConsumed (lead idx k u : Nat) (s : State) : Host.Outcome State Fault Refusal :=
  match (s.nmuSt lead).running[idx]? with
  | none => .next s
  | some c =>
    if c.op = 2 && c.consume && c.done && (s.consumed c).contains (k, u) && s.matActive k && (s.unitSt k u = 1 || s.unitSt k u = 2) then
      let s := if (s.mat k).held.any (fun w => w.l / 4096 == u) then
        { s with fresh := s.fresh + 1 }.holdMax k (Config.holdNs (2 ^ 40 + s.fresh)) else s
      .next (s.matConsume k u).flushAll
    else .next s

/-- SNAP_HOLD_TIMEOUT (R214): a write of stack `k` has been held for 1 ms, which HOLD_MAX_NS cannot show. -/
def execSnapHoldTimeout (k : Nat) (s : State) : Host.Outcome State Fault Refusal :=
  .next (if s.matActive k && !(s.mat k).held.isEmpty then ((s.holdMax k 1000000).snapAbort).flushAll else s)

end Sys2Proof.Machine
end

