-- ==== Sys2Proof/Machine/Ckpt.lean ====
section
/-! DEFINITION. Group parity checkpoints (R374–R380) and storage checkpoints (R382). -/
namespace Sys2Proof.Machine

/-! ### What a member copies (R376) -/

/-- Bytes of a region. -/
def CtReg.len (g : CtReg) : Nat := g.units * 4096

/-- The CKPT regions in table order with the slot unit at which each is packed: region index, region and unit. Each is
rounded up to whole units. -/
def CtTab.places (t : CtTab) : List (Nat × CtReg × Nat) :=
  (t.regs.zipIdx.foldl (fun (acc : List (Nat × CtReg × Nat) × Nat) e =>
    if e.1.ckpt then (acc.1 ++ [(e.2, e.1, acc.2)], acc.2 + (e.1.units + 15) / 16) else acc) ([], 1)).1

/-- The ranks of a region's replica set. -/
def CtReg.ranks (g : CtReg) : List Nat := (List.range g.rcount).map (fun i => g.rbase + i * g.rstep)

/-- This member copies a region: it is not REPL, or the own rank is the lowest present one of its set. -/
def State.copies (s : State) (p : Nat) (g : CtReg) : Bool :=
  !g.repl || ((g.ranks.filter (fun r => !(s.absentSet p).contains r)).foldl
    (fun (m : Option Nat) r => match m with | some x => some (min x r) | none => some r) none) == s.ownRank p

/-- A byte range of the own memory set to zero by the engine. -/
def State.engZero (s : State) (a n : Nat) : State := s.engStore a (List.replicate n 0)

/-- A digest of own memory under the partition's key (R201). -/
def State.digestOf (s : State) (p a n : Nat) : Nat := digest128 (s.digKey p) (s.peekN a n)

/-! ### Units on their way to the parity holders (R377, R378) -/

/-- Send a unit to its holder: as writes into the staging unit there and a UNIT message, or as a UNIT message with ZERO. -/
def State.ckSendUnit (s : State) (p : Nat) (u : CkSend) : State :=
  let t := s.ctOf p
  let slot := s.ckSlot p
  match s.rankChip p (t.rankOf u.holder) with
  | none => s
  | some c =>
    let m := (s.ckMember p).getD 0
    let s := if u.zero then s else
      (s.engWrite p c (t.unitAddr slot (t.stageUnit m)) (s.peekN (t.unitAddr slot u.unit) unit64) 1).1
    s.contSend c 4 p (s.ckStep p) [slot, u.row, u.x, bool01 u.zero, 0]

/-- Send what waits, one unit in flight to each holder. -/
def State.ckPump (s : State) (p : Nat) : State :=
  let x := s.ckX p
  let r := x.queue.foldl (fun (acc : State × List CkSend × List CkSend) u =>
    if acc.2.1.any (fun f => f.holder == u.holder) then (acc.1, acc.2.1, acc.2.2 ++ [u])
    else (acc.1.ckSendUnit p u, acc.2.1 ++ [u], acc.2.2)) (s, x.flight, [])
  r.1.modCk p (fun x => { x with flight := r.2.1, queue := r.2.2 })

/-- Slot units that have been written are queued for the P and Q holders of their rows. -/
def State.ckQueue (s : State) (p : Nat) (units : List Nat) : State :=
  let t := s.ctOf p
  let m := (s.ckMember p).getD 0
  let slot := s.ckSlot p
  let l := units.flatMap (fun n =>
    let row := dataRow m (n - 1) t.g
    let u : CkSend := { unit := n, zero := decide (t.u < n) || (s.peekN (t.unitAddr slot n) unit64).all (· == 0),
                        row := row, x := dataIndex m row t.g }
    [{ u with holder := row % t.g }, { u with holder := (row + 1) % t.g }])
  (s.modCk p (fun x => { x with queue := x.queue ++ l })).ckPump p

/-! ### Commit (R379) -/

/-- STATE = COMMITTED has landed on a member: it compares its digests with the record (R379). The coordinator whose own digests differ
has detected the abort, and tells every member (R380). -/
def State.commitLanded (s : State) (p : Nat) : State :=
  let t := s.ctOf p
  let slot := s.ckSlot p
  if s.ckSt p = 2 && s.recState t slot = 1 then
    let m := (s.ckMember p).getD 0
    let rec_ := (List.range 3).map (fun i => natLE (s.peekN (t.unitAddr slot 0 + 0x40 + 48 * m + 16 * i) 16))
    let ok := rec_ == (s.ckX p).digests
    let s := if ok then (s.setFld .ck (Ck.CK_STATUS.sub 2 0) 3 p).bump .ck Ck.CK_CNT p
      else
        let s := s.recInvalid p slot (s.ckStep p)
        let s := s.setFld .ck (Ck.CK_STATUS.sub 2 0) 4 p
        let s := s.setFld .ck (Ck.CK_STATUS.sub 11 8) 2 p
        (s.bump .ck Ck.CK_ABORT_CNT p).event 0x7114 0 [(2, p), (2, 2)]
    match s.rankChip p (t.rankOf 0) with
    | some c =>
      if m = 0 then
        if ok then s.modCk p (fun x => { x with acks := 0 :: x.acks })
        else (s.each (s.ckPeers p) (fun c s => s.contSend c 7 p (s.ckStep p) [slot, 2])).modCk p (fun x => { x with recPhase := 3 })
      else s.contSend c 6 p (s.ckStep p) [slot, m, bool01 (!ok)]
    | none => s
  else s

/-- The coordinator writes STATE = COMMITTED on every member. -/
def State.ckCommit (s : State) (p : Nat) : State :=
  let t := s.ctOf p
  let a := t.unitAddr (s.ckSlot p) 0 + 1
  let s := s.modCk p (fun x => { x with recPhase := 2 })
  let s := s.each (s.ckPeers p) (fun c s => (s.engWrite p c a [1] 1).1)
  (s.engStore a [1]).commitLanded p

/-- The coordinator holds the digests of every member: the record goes out with STATE = INVALID. -/
def State.ckRecord_ (s : State) (p : Nat) : State :=
  let t := s.ctOf p
  let x := s.ckX p
  if s.ckRuns p && s.ckMember p = some 0 && x.recPhase = 0 && x.stripes.length = t.g then
    let b := ckRecord t p (s.ckStep p) (s.ckSlot p) 0 (x.stripes.map (·.2))
    let a := t.unitAddr (s.ckSlot p) 0
    let s := s.engStore a b
    let r := (s.ckPeers p).foldl (fun (acc : State × List Nat) c =>
      let (s, tags) := acc.1.engWrite p c a b 1
      (s, acc.2 ++ tags)) (s, [])
    let s := r.1.modCk p (fun x => { x with recPhase := 1, recTags := r.2 })
    if r.2.isEmpty then s.ckCommit p else s
  else s

/-- An acknowledgement of an engine write: once every record is acknowledged, the coordinator commits. -/
def State.ckAck (s : State) (p tag : Nat) : State :=
  let x := s.ckX p
  if x.recPhase = 1 && x.recTags.contains tag then
    let l := x.recTags.filter (· != tag)
    let s := s.modCk p (fun x => { x with recTags := l })
    if l.isEmpty then s.ckCommit p else s
  else s

/-- STRIPE_DONE at the coordinator. -/
def State.stripeRx (s : State) (p step slot m : Nat) (ds : List Nat) : State :=
  if s.ckRuns p && s.ckStep p = step && s.ckSlot p = slot && s.ckMember p = some 0 && m < (s.ctOf p).g then
    (s.modCk p (fun x => { x with stripes := tSet x.stripes m (ds.take 3) })).ckRecord_ p
  else s

/-- A member whose copy and rows are complete is locally done (R379). -/
def State.ckLocal (s : State) (p : Nat) : State :=
  let t := s.ctOf p
  let x := s.ckX p
  let m := (s.ckMember p).getD 0
  let full := (List.range (t.g * t.w)).all (fun r =>
    (r % t.g != m || decide (t.g - 2 ≤ smGet (fun _ => 0) x.rows (2 * r)))
      && ((r + 1) % t.g != m || decide (t.g - 2 ≤ smGet (fun _ => 0) x.rows (2 * r + 1))))
  if s.ckSt p = 1 && x.copies.isEmpty && full then
    let slot := s.ckSlot p
    let ds := [s.digestOf p (t.unitAddr slot 1) (t.u * unit64), s.digestOf p (t.unitAddr slot (t.u + 1)) (t.w * unit64),
      s.digestOf p (t.unitAddr slot (t.u + t.w + 1)) (t.w * unit64)]
    let s := s.modCk p (fun x => { x with digests := ds })
    let s := (s.setFld .ck (Ck.CK_STATUS.sub 2 0) 2 p).event 0x7112 0 [(2, p), (8, s.ckStep p)]
    if m = 0 then s.stripeRx p (s.ckStep p) slot 0 ds
    else match s.rankChip p (t.rankOf 0) with
      | some c => s.contSend c 5 p (s.ckStep p) ([slot, m] ++ ds)
      | none => s
  else s

/-- A UNIT message (R378): `f` is slot, row, x, ZERO and DONE. At a holder the unit is added to P or Q; at the sender DONE lets
the next unit go. -/
def State.unitRx (s : State) (chip p step : Nat) (f : List Nat) : State :=
  let t := s.ctOf p
  let slot := f.getD 0 0
  let row := f.getD 1 0
  let x := f.getD 2 0
  let here := s.ckRuns p && s.ckStep p = step && s.ckSlot p = slot
  let mine := (s.ckMember p).getD 0
  match (List.range t.g).find? (fun m => s.rankChip p (t.rankOf m) == some chip) with
  | none => s
  | some m =>
    if f.getD 4 0 = 1 then
      if here then
        (s.modCk p (fun c => { c with flight := c.flight.filter (fun u => !(u.row == row && u.holder == m)) })).ckPump p
      else s
    else if !here then
      if s.ckStep p < step || s.ckSt p = 0 then s.modCk p (fun c => { c with early := c.early ++ [(chip, step, f)] }) else s
    else
      let q := (row + 1) % t.g = mine
      if row % t.g = mine || q then
        let a := t.unitAddr slot (if q then t.qUnit row else t.pUnit row)
        let s := if f.getD 3 0 = 1 then s else
          let d := (s.peekN (t.unitAddr slot (t.stageUnit m)) unit64).map (·.toNat)
          let old := (s.peekN a unit64).map (·.toNat)
          s.engStore a (toBytes (List.zipWith (fun u v => u ^^^ v) old (if q then mulAlpha x d else d)))
        let key := 2 * row + bool01 q
        let n := smGet (fun _ => 0) (s.ckX p).rows key + 1
        let s := s.modCk p (fun c => { c with rows := smSet (fun _ => 0) c.rows key n })
        let s := if n = t.g - 2 then s.bump .ck Ck.CK_ROWS_DONE p else s
        (s.contSend chip 4 p step [slot, row, x, f.getD 3 0, 1]).ckLocal p
      else s

/-- COMMIT_ACK at the coordinator (R379, R380). -/
def State.commitAck (s : State) (p step slot m status : Nat) : State :=
  if s.ckMember p = some 0 && s.ckStep p = step && s.ckSlot p = slot && (s.ckX p).recPhase = 2 then
    if status = 0 then
      let s := s.modCk p (fun x => { x with acks := m :: x.acks.filter (· != m) })
      if (s.ckX p).acks.length = (s.ctOf p).g then
        (s.modCk p (fun x => { x with recPhase := 3 })).event 0x7113 0 [(2, p), (8, step)]
      else s
    else if s.ckRuns p then s.ckAbort p 2 true
    else
      (s.each (s.ckPeers p) (fun c s => s.contSend c 7 p step [slot, 2])).modCk p (fun x => { x with recPhase := 3 })
  else s

/-! ### The snapshot fence (R374, R375) -/

/-- A checkpoint falls due at the fence that closes `step` (R374). -/
def State.ckDue (s : State) (p step : Nat) : Bool :=
  let t := s.ctOf p
  let x := s.ckX p
  t.valid && t.g != 0 && ((t.ckptSteps != 0 && step % t.ckptSteps == 0)
    || (step % t.k == 0 && (x.nowDue || (t.ckptTicks != 0 && (x.lastTick == 0 || decide (x.lastTick - 1 + t.ckptTicks ≤ s.tick))))))

/-- A checkpoint is skipped (R375): cause 1 BUSY, 2 RUNNING. After BUSY the member is
IDLE (Table 13.6), and the checkpoint is due again at the next digest fence. -/
def State.ckSkip (s : State) (p cause : Nat) : State :=
  let s := if cause = 1 then (s.setFld .ck (Ck.CK_STATUS.sub 2 0) 0 p).modCk p (fun x => { x with nowDue := true }) else s
  (s.bump .ck Ck.CK_SKIP_CNT p).event 0x7111 0 [(2, p), (2, cause)]

/-- The slot that a checkpoint writes (R374). -/
def State.ckNextSlot (s : State) (p : Nat) : Nat :=
  let c := s.fld .ck Ck.JOB_CKPT_CTRL p
  if bitAt c 1 then 1 - c % 2 else 0

/-- A copy of a region into its place, as an NMU command of the module's own. -/
def State.ckCopy (s : State) (p slot : Nat) (e : Nat × CtReg × Nat) : State :=
  let t := s.ctOf p
  match s.edMap (gaOff e.2.1.addr) with
  | none => s
  | some (k, _) =>
    let c := s.engCtx p
    let x := s.nmuSt k
    let n := (e.2.1.units + 15) / 16
    let cmd : NCmd := { id := x.nextId, w0 := 2 + 2 ^ 29 + 2 ^ 30, a0 := t.unitAddr slot e.2.2, a1 := e.2.1.addr, cnt := e.2.1.len,
                        src := 3, part := p, ctx := c, gen := s.ctxGen c, purpose := 1, infl := e.2.2, desc := n }
    (s.setNmu k { x with fwQ := x.fwQ ++ [cmd], nextId := x.nextId + 1 }).modCk p
      (fun x => { x with copies := x.copies ++ [(e.2.2, n)] })

/-- The snapshot fence of a due checkpoint (R375); `digs` are the regions whose digests the fence has read, `ns` the time that
compute stops. -/
def State.ckStart (s : State) (p step ns : Nat) (digs : List CtReg) : State :=
  let s := s.modCk p (fun x => { x with nowDue := false })
  if s.ckRuns p then s.ckSkip p 2
  else if (List.range 8).any (fun i => (tGet s.dgs (p + 4096 * i)).recheck == 1) then s.ckSkip p 1
  else
    let t := s.ctOf p
    let slot := s.ckNextSlot p
    let s := s.recInvalid p slot step
    if (List.range 12).any (fun k => s.matActive k || !s.sideOk k) then s.ckSkip p 1
    else
      let mine := t.places.filter (fun e => s.copies p e.2.1)
      let own := mine.flatMap (fun e => rangeUnits e.2.1.addr e.2.1.len)
      let extra := (digs.flatMap (fun g => rangeUnits g.addr g.len)).filter (fun o => !own.contains o)
      let s := s.snapUnits p step (own ++ extra)
      let s := s.each extra (fun o s => match s.unitOf o with
        | some (k, u) => if s.matActive k then s.matConsume k u else s
        | none => s)
      let m := (s.ckMember p).getD 0
      let s := s.setFld .ck Ck.CK_STATUS (1 + slot * 8 + bool01 (m == 0) * 16 + m * 4096) p
      let s := s.setFld64 .ck Ck.CK_STEP_LO step p
      let s := (s.setFld .ck Ck.CK_COPIED 0 p).setFld .ck Ck.CK_ROWS_DONE 0 p
      let s := s.setFld .ck Ck.CK_FENCE_NS ns p
      let early := (s.ckX p).early
      let s := s.modCk p (fun x => { x with lastTick := s.tick + 1, snap := step % 2 ^ 32, copies := [], queue := [], flight := [],
                                            rows := [], early := [], digests := [], stripes := [], acks := [], recTags := [], recPhase := 0 })
      let s := s.event 0x7110 0 [(2, p), (8, step), (1, slot)]
      let s := s.each mine (fun e s => s.ckCopy p slot e)
      let taken := mine.flatMap (fun e => (List.range ((e.2.1.units + 15) / 16)).map (· + e.2.2))
      let s := s.engZero (t.unitAddr slot (t.u + 1)) (2 * t.w * unit64)
      let free := ((List.range t.u).map (· + 1)).filter (fun n => !taken.contains n)
      let s := s.each free (fun n s => s.engZero (t.unitAddr slot n) unit64)
      let s := s.each mine (fun e s =>
        let n := (e.2.1.units + 15) / 16
        s.engZero (t.unitAddr slot e.2.2 + e.2.1.len) (n * unit64 - e.2.1.len))
      let s := s.bumpBy .ck Ck.CK_COPIED free.length p
      let s := s.ckQueue p (free ++ (List.range (t.w * (t.g - 2) - t.u)).map (· + t.u + 1))
      let s := s.each early (fun e s => if e.2.1 = step then s.unitRx e.1 p step e.2.2 else s)
      s.ckLocal p

/-- A copy has ended: its units go to their holders; a copy that failed aborts the checkpoint (R380). -/
def State.ckCopied (s : State) (c : NCmd) : State :=
  let p := c.part
  if s.ckSt p = 1 && (s.ckX p).copies.contains (c.infl, c.desc) then
    if c.err ≠ 1 then s.ckAbort p 3 true
    else
      let s := s.modCk p (fun x => { x with copies := x.copies.filter (· != (c.infl, c.desc)) })
      let s := s.bumpBy .ck Ck.CK_COPIED c.desc p
      (s.ckQueue p ((List.range c.desc).map (· + c.infl))).ckLocal p
  else s

/-- The continuity work takes note of the commands of its own that NMUs have ended. -/
def State.contPump (s : State) : State :=
  let l := s.nmuDone
  ({ s with nmuDone := [] }).each l (fun c s => s.ckCopied c)

/-! ### Commands (R374, R378–R380) -/

/-- UNIT (R378). -/
def execCkUnit (chip part step slot row x : Nat) (zero done : Bool) (s : State) : Host.Outcome State Fault Refusal :=
  .next (s.unitRx chip part step [slot, row, x, bool01 zero, bool01 done])

/-- CHECKPOINT_LOCAL_DONE (R379): due when the copy and the own rows are complete. -/
def execCheckpointLocalDone (p : Nat) (s : State) : Host.Outcome State Fault Refusal := .next (s.ckLocal p)

/-- STRIPE_DONE (R379). -/
def execStripeDone (part step slot m d p q : Nat) (s : State) : Host.Outcome State Fault Refusal :=
  .next (s.stripeRx part step slot m [d, p, q])

/-- COMMIT_RECORD_LANDED (R379). -/
def execCommitRecordLanded (p : Nat) (s : State) : Host.Outcome State Fault Refusal := .next (s.commitLanded p)

/-- COMMIT_ACK (R379). -/
def execCommitAck (part step slot m status : Nat) (s : State) : Host.Outcome State Fault Refusal :=
  .next (s.commitAck part step slot m status)

/-- The abort that another member detected (R380). -/
def State.ckAbortRx (s : State) (p step slot cause : Nat) : State :=
  if s.ckStep p = step && s.ckSlot p = slot then s.ckAbort p cause false else s

/-- CKPT_ABORT (R380). -/
def execCkptAbort (part step slot cause : Nat) (s : State) : Host.Outcome State Fault Refusal :=
  .next (s.ckAbortRx part step slot cause)

/-- CK_TIMEOUT (R380). -/
def execCkTimeout (p : Nat) (s : State) : Host.Outcome State Fault Refusal :=
  .next (if (s.ckX p).lastTick - 1 + s.fld .ck (Ck.CK_TIMEOUT.sub 15 0) p * 100000 ≤ s.tick then s.ckAbort p 4 true else s)

def State.ckSel (s : State) : Nat := s.fld .ck (Ck.CK_SEL.sub 11 0)

/-- A write of CK_CMD. -/
def State.ckCmd (s : State) (v : Word) : State :=
  let p := s.ckSel
  let s := if bitAt v.toNat 0 then s.ckAbort p 0 true else s
  if bitAt v.toNat 1 then s.modCk p (fun x => { x with nowDue := true }) else s

/-- CK_ABORT (R380). -/
def execCkAbort (m : Master) (s : State) : Host.Outcome State Fault Refusal := .next (s.gated m .ck (fun s => s.ckCmd 1))

/-- CK_NOW (R374). -/
def execCkNow (m : Master) (s : State) : Host.Outcome State Fault Refusal := .next (s.gated m .ck (fun s => s.ckCmd 2))

/-! ### Storage checkpoints (R382) -/

/-- 1 MiB. -/
def chunkLen : Nat := 1048576

/-- The header of a chunk (Table 13.7). -/
def State.stoHeader (s : State) (p step idx count slot seq : Nat) : List Byte :=
  bytesLE 8 p ++ bytesLE 8 step ++ bytesLE 4 idx ++ bytesLE 4 count
    ++ bytesLE 8 ((s.ownRank p).getD 0 + (s.ckMember p).getD 0 * 65536 + slot * 2 ^ 24) ++ bytesLE 8 seq ++ bytesLE 24 0

/-- The IV of a chunk. -/
def stoIv (idx seq chip : Nat) : List Byte := bytesLE 4 idx ++ bytesLE 4 seq ++ bytesLE 2 chip ++ bytesLE 2 0

/-- The storage key of a partition's exports since a power-on of the exporter (R485, R487). -/
def State.stoKey (s : State) (p boot : Nat) : List Byte :=
  deriveKey (tGet s.jobKeys p).key "NYM-STOR" (bytesLE 2 p ++ bytesLE 4 boot)

def State.stoSt (s : State) (p : Nat) : Nat := s.fld .ck (Ck.STO_STATUS.sub 1 0) p
def State.setSto (s : State) (p st cause : Nat) : State := s.setFld .ck Ck.STO_STATUS (st + cause * 4) p

/-- Export chunks while the ring has room. -/
def State.stoPump (p : Nat) : Nat → State → State
  | 0, s => s
  | fuel + 1, s =>
    let x := s.ckX p
    let prod := s.fld .ck Ck.STO_PROD p
    let ring := s.fld .ck (Ck.STO_RING.sub 7 0) p
    if s.stoSt p = 1 && !x.stoImport && (prod + 2 ^ 32 - s.fld .ck Ck.STO_CONS p) % 2 ^ 32 < ring then
      if x.stoChunk < x.stoCount then
        let t := s.ctOf p
        let n := min chunkLen (t.slotUnits * unit64 - x.stoChunk * chunkLen)
        let pt := s.peekN (t.unitAddr x.stoSlot 0 + x.stoChunk * chunkLen) n ++ List.replicate (chunkLen - n) 0
        let step := natLE (s.peekN (t.unitAddr x.stoSlot 0 + 8) 8)
        let hd := s.stoHeader p step x.stoChunk x.stoCount x.stoSlot x.stoSeq
        let (ct, tag) := gcmSeal (s.stoKey p (x.stoSeq / 2 ^ 32)) (stoIv x.stoChunk x.stoSeq s.chip) hd pt
        let s := s.emit (.hostWrite (s.fld64 .ck Ck.STO_ADDR_LO p + prod % ring * 1048656) (hd ++ ct ++ tag))
        let s := s.setFld .ck Ck.STO_PROD ((prod + 1) % 2 ^ 32) p
        let s := s.modCk p (fun x => { x with stoChunk := x.stoChunk + 1 })
        let s := if x.stoChunk + 1 = x.stoCount then s.setSto p 2 0 else s
        s.stoPump p fuel
      else s
    else s

/-- STO_CMD: 1 EXPORT, 2 IMPORT (R382). -/
def State.stoCmd (s : State) (v : Word) : State :=
  let p := s.ckSel
  let op := v.toNat % 4
  let slot := bitsOf v.toNat 2 2
  let t := s.ctOf p
  if s.stoSt p = 1 || !(op = 1 || op = 2) then s
  else if (tGet s.jobKeys p).key.isEmpty then s.setSto p 3 1
  else if op = 1 && s.recState t slot ≠ 1 then s.setSto p 3 2
  else
    let count := (t.slotUnits * unit64 + chunkLen - 1) / chunkLen
    let s := if op = 1 then s.bump .ck Ck.STO_SEQ p else s
    let s := s.modCk p (fun x => { x with stoChunk := 0, stoCount := count, stoSlot := slot, stoImport := op == 2,
                                          stoSeq := s.fld .ck Ck.STO_SEQ p + s.fld .sec Sec.BOOT_CNT * 2 ^ 32, stoData := [] })
    (s.setSto p 1 0).stoPump p (count + 1)

/-- STO_EXPORT (R382). -/
def execStoExport (m : Master) (slot : Nat) (s : State) : Host.Outcome State Fault Refusal :=
  .next (s.gated m .ck (fun s => s.stoCmd (BitVec.ofNat 32 (1 + slot % 2 * 4))))

/-- STO_IMPORT (R382). -/
def execStoImport (m : Master) (slot : Nat) (s : State) : Host.Outcome State Fault Refusal :=
  .next (s.gated m .ck (fun s => s.stoCmd (BitVec.ofNat 32 (2 + slot % 2 * 4))))

/-- A write of STO_CONS by the consumer: during an import the consumer is the device itself. -/
def State.stoCons (s : State) (v : Word) : State :=
  let p := s.ckSel
  if s.stoSt p = 1 && (s.ckX p).stoImport then s
  else (s.setFld .ck Ck.STO_CONS v.toNat p).stoPump p ((s.ckX p).stoCount + 1)

/-- STO_CONS_WRITE (R382). -/
def execStoConsWrite (m : Master) (v : Word) (s : State) : Host.Outcome State Fault Refusal :=
  .next (s.gated m .ck (fun s => s.stoCons v))

/-- The whole slot has been imported: it is stored where its digests agree with its commit record. -/
def State.stoFinish (s : State) (p : Nat) : State :=
  let t := s.ctOf p
  let x := s.ckX p
  let m := (s.ckMember p).getD 0
  let cut := fun a n => (x.stoData.drop (a * unit64)).take (n * unit64)
  let ds := [cut 1 t.u, cut (t.u + 1) t.w, cut (t.u + t.w + 1) t.w].map (digest128 (s.digKey p))
  let rec_ := (List.range 3).map (fun i => natLE ((x.stoData.drop (0x40 + 48 * m + 16 * i)).take 16))
  if ds = rec_ then (s.engStore (t.unitAddr x.stoSlot 0) (x.stoData.take (t.slotUnits * unit64))).setSto p 2 0
  else s.setSto p 3 2

/-- A chunk that the host has produced (R382). -/
def State.stoChunk (s : State) (p : Nat) (b : List Byte) : State :=
  let x := s.ckX p
  if s.stoSt p = 1 && x.stoImport && x.stoChunk < x.stoCount then
    let hd := b.take 64
    let seq := natLE ((hd.drop 0x20).take 8)
    let step := natLE ((hd.drop 8).take 8)
    let s := s.setFld .ck Ck.STO_CONS ((s.fld .ck Ck.STO_CONS p + 1) % 2 ^ 32) p
    let good := hd == s.stoHeader p step x.stoChunk x.stoCount x.stoSlot seq
    match (if good then gcmOpen (s.stoKey p (seq / 2 ^ 32)) (stoIv x.stoChunk seq s.chip) hd ((b.drop 64).take chunkLen)
        (b.drop (64 + chunkLen)) else none) with
    | none => s.setSto p 3 1
    | some pt =>
      let s := s.modCk p (fun x => { x with stoChunk := x.stoChunk + 1, stoData := x.stoData ++ pt })
      if x.stoChunk + 1 = x.stoCount then s.stoFinish p else s
  else s

/-- A write of STO_PROD by the host, with the chunk buffers that it has filled: during an export the producer is the device itself. -/
def State.stoProd (s : State) (v : Word) (chunks : List (List Byte)) : State :=
  let p := s.ckSel
  if s.stoSt p = 1 && !(s.ckX p).stoImport then s
  else (s.setFld .ck Ck.STO_PROD v.toNat p).each chunks (fun b s => s.stoChunk p b)

/-- STO_PROD_WRITE (R382). -/
def execStoProdWrite (m : Master) (v : Word) (chunks : List (List Byte)) (s : State) : Host.Outcome State Fault Refusal :=
  .next (s.gated m .ck (fun s => s.stoProd v chunks))

end Sys2Proof.Machine
end

