-- ==== Sys2Proof/Machine/Data.lean ====
section
/-! DEFINITION. Data movement and conversion (R111–R114), SEND (R128) and DIGEST (R134). -/
namespace Sys2Proof.Machine

/-! ### Copies (R111) -/

/-- Pieces of a row for flits: offset and bytes. Each ends on a line boundary, so that whole lines travel whole: up to three lines. -/
def flitPieces (a n : Nat) : List (Nat × Nat) :=
  let w := if a % 64 = 0 then 0 else min n (192 - a % 64)
  (if w = 0 then [] else [(0, w)])
    ++ (List.range ((n - w + 191) / 192)).map (fun i => (w + 192 * i, min 192 (n - w - 192 * i)))

/-- Read a row from a peer into own memory: one request for each piece; answers the tags. -/
def State.fetchRow (s : State) (lc id src dst n : Nat) : State × List Nat :=
  (flitPieces src n).foldl (fun (acc : State × List Nat) p =>
    let (s, t) := acc.1.sendOp lc id (gaChip src) 2 (fun t => .rdReq ((src + p.1) % 2 ^ 48) p.2 t) true (dst + p.1) p.2
    (s, acc.2 ++ [t])) (s, [])

/-- Write a row to a peer. -/
def State.pushRow (s : State) (lc id chip dst : Nat) (b : List Byte) : State × List Nat :=
  (flitPieces dst b.length).foldl (fun (acc : State × List Nat) p =>
    let (s, t) := acc.1.sendOp lc id chip 2 (fun _ => .wr ((dst + p.1) % 2 ^ 48) ((b.drop p.1).take p.2)) false 0 p.2
    (s, acc.2 ++ [t])) (s, [])

/-- D := A by rows. Own rows are read before any is written; `dst` maps an address of D to where it lies. -/
def State.copyRows (s : State) (lc id : Nat) (a d : Tens) (dst : Nat → Nat) (sig : Option Sig) : Eff :=
  let ctx := s.whoOf lc
  let pairs := (a.rows.zip d.rows).map (fun p => (p.1.1, dst p.2.1, p.1.2))
  let own := pairs.filter (fun p => gaChip p.1 == s.chip)
  match s.readRows (own.map (fun p => (p.1, p.2.2))) ctx with
  | (s, none) => Eff.bus s 2
  | (s, some bs) =>
    let put := (own.zip bs).map (fun p => (p.1.2.1, p.2))
    let (s, ok) := s.writeRows (put.filter (fun p => gaChip p.1 == s.chip)) ctx
    if !ok then Eff.bus s 1
    else
      let (s, t1) := (put.filter (fun p => gaChip p.1 != s.chip)).foldl (fun (acc : State × List Nat) p =>
        let (s, t) := acc.1.pushRow lc id (gaChip p.1) p.1 p.2
        (s, acc.2 ++ t)) (s, [])
      let (s, t2) := (pairs.filter (fun p => gaChip p.1 != s.chip)).foldl (fun (acc : State × List Nat) p =>
        let (s, t) := acc.1.fetchRow lc id p.1 p.2.1 p.2.2
        (s, acc.2 ++ t)) (s, [])
      { s := s, tags := t1 ++ t2, sig := sig }

/-- The checks of R111 between A and D. -/
def copyCheck (r : Refs) : Option DF :=
  if r.aa.t.ext ≠ r.dd.t.ext then some { code := 3, ref := 2 }
  else if r.aa.fmt ≠ r.dd.fmt then some { code := 4, ref := 2, ev := 0x1110 } else none

/-- The form of a copy with this opcode. -/
def copyForm (code : Nat) (ld la : Loc) : Form :=
  { code := code, need := [2, 2, 0, 0], opt := [{ dst := true, copy := true }, { copy := true }], loc := [ld, la] }

def State.copyIssue (s : State) (lc : Nat) (d : Desc) (code : Nat) (ld la : Loc) : State :=
  s.issue lc d (copyForm code ld la) 1 (fun _ _ r => copyCheck r) noEngs
    (fun s r id => s.copyRows lc id r.aa.t r.dd.t (fun a => a) none)

/-- LOAD (R111). -/
def execLoad (lc : Nat) (d : Desc) (s : State) : Host.Outcome State Fault Refusal := .next (s.copyIssue lc d 0x10 .tile .peer)

/-- STORE (R111). -/
def execStore (lc : Nat) (d : Desc) (s : State) : Host.Outcome State Fault Refusal := .next (s.copyIssue lc d 0x11 .peer .tile)

/-- MOVE (R111). -/
def execMove (lc : Nat) (d : Desc) (s : State) : Host.Outcome State Fault Refusal := .next (s.copyIssue lc d 0x12 .own .own)

/-- SEND (R128): a copy to the peer that holds a rank, and a signal after it. -/
def execSend (lc : Nat) (d : Desc) (s : State) : Host.Outcome State Fault Refusal :=
  let part := s.partOf lc
  let chip := s.rankChip part (d.imm0.toNat % 16384)
  let f := { copyForm 0x38 (.send chip) .own with m0 := 0x3FFF, m1 := imm64, m2 := 1 }
  let dst := fun a => a % 2 ^ 48 + chip.getD 0 * 2 ^ 48
  let word := dst d.imm1.toNat
  let wantSig := bitAt d.imm2.toNat 0
  .next (s.issue lc d f 1
    (fun s _ r =>
      match copyCheck r with
      | some e => some e
      | none =>
        if chip.isNone || chip.any (fun c => !s.maskOk part c) then some { code := 9, ref := 5 }
        else if wantSig && (!sigAligned word || (chip == some s.chip && !s.rightsRange part word 8)) then
          some { code := 5, ref := 5 }
        else none)
    noEngs
    (fun s r id =>
      s.copyRows lc id r.aa.t r.dd.t dst
        (if wantSig then some { chip := chip.getD 0, addr := word, value := 1, write := false } else none))
    |>.flushSigs lc)

/-! ### TRANSPOSE, GATHER and SCATTER_ADD (R112, R113) -/

/-- Field `i` of the permutation. -/
def permOf (v i : Nat) : Nat := v / 4 ^ i % 4

def permBad (v : Nat) : Bool := !([0, 1, 2, 3].all (fun a => [0, 1, 2, 3].any (fun i => permOf v i == a)))

/-- TRANSPOSE (R112): axis i of D is the axis of A that field i names. -/
def execTranspose (lc : Nat) (d : Desc) (s : State) : Host.Outcome State Fault Refusal :=
  let v := d.imm0.toNat % 256
  let f := { copyForm 0x13 .own .own with m0 := 255, immBad := permBad v }
  let extOf := fun (t : Tens) i => match i with | 0 => t.e0 | 1 => t.e1 | 2 => t.e2 | _ => t.e3
  .next (s.issue lc d f 1
    (fun _ _ r =>
      if (List.range 4).any (fun i => extOf r.dd.t i != extOf r.aa.t (permOf v i)) then some { code := 3, ref := 2 }
      else if r.aa.fmt ≠ r.dd.fmt then some { code := 4, ref := 2, ev := 0x1110 } else none)
    noEngs
    (fun s r _ =>
      match s.readBits r.aa.t (s.whoOf lc) with
      | (s, none) => Eff.bus s 2
      | (s, some bits) =>
        let out := r.dd.t.ix.map (fun i =>
          let j := [i.1, i.2.1, i.2.2.1, i.2.2.2]
          let at_ := fun ax => match (List.range 4).find? (fun i => permOf v i == ax) with | some i => j.getD i 0 | none => 0
          bits.getD (r.aa.t.flat (at_ 0) (at_ 1) (at_ 2) (at_ 3)) 0)
        let (s, ok) := s.writeBits r.dd.t out (s.whoOf lc)
        if ok then { s := s } else Eff.bus s 1))

/-- The extents of GATHER and SCATTER_ADD: `rows` is the side whose rows B counts. -/
def rowCheck (r : Refs) (rows : Tens) : Option DF :=
  let a := r.aa.t
  let d := r.dd.t
  let b := r.bb.t
  if a.e0 ≠ d.e0 || a.e2 ≠ d.e2 || a.e3 ≠ d.e3 then some { code := 3, ref := 2 }
  else if rows.e1 ≠ b.e0 || b.e1 ≠ 1 || b.e2 ≠ 1 || b.e3 ≠ 1 then some { code := 3, ref := 3 } else none

def rowForm (code : Nat) : Form :=
  { code := code, need := [2, 2, 2, 0], opt := [{ dst := true }, {}, { idxReq := true }], loc := [.own, .own, .own] }

/-- GATHER (R113): D row i := the conversion of A row B[i], the only rows of A that are read; an index beyond A gives +0 and
INVALID. -/
def execGather (lc : Nat) (d : Desc) (s : State) : Host.Outcome State Fault Refusal :=
  .next (s.issue lc d (rowForm 0x14) 1 (fun _ _ r => rowCheck r r.dd.t) noEngs
    (fun s r _ =>
      let ctx := s.whoOf lc
      match s.readBits r.bb.t ctx with
      | (s, none) => Eff.bus s 3
      | (s, some b) =>
        match s.readRowsOf r.aa (fun j => b.contains j) ctx with
        | (s, none) => Eff.bus s 2
        | (s, some a) =>
          let vals := r.dd.t.ix.map (fun i =>
            let j := b.getD i.2.1 0
            if j < r.aa.t.e1 then a.getD (r.aa.t.flat i.1 j i.2.2.1 i.2.2.2) (zeroVal, false) else (zeroVal, false))
          let bad := (b.filter (fun j => decide (r.aa.t.e1 ≤ j))).length
          let (s, fl, ok) := s.writeOut r.dd (s.partOf lc) vals ctx
          Eff.ofOut (s, { fl with inv := fl.inv || decide (0 < bad), invCnt := fl.invCnt + bad }, ok)))

/-- SCATTER_ADD (R113): every contribution to a row of D in ascending order, then the row once. Rows of A whose index is beyond D are
not read. -/
def execScatterAdd (lc : Nat) (d : Desc) (s : State) : Host.Outcome State Fault Refusal :=
  .next (s.issue lc d (rowForm 0x15) 1 (fun _ _ r => rowCheck r r.aa.t) noEngs
    (fun s r _ =>
      let ctx := s.whoOf lc
      match s.readArr r.dd ctx with
      | (s, none) => Eff.bus s 1
      | (s, some dv) =>
        match s.readBits r.bb.t ctx with
        | (s, none) => Eff.bus s 3
        | (s, some b) =>
          match s.readRowsOf r.aa (fun i => decide (b.getD i 0 < r.dd.t.e1)) ctx with
          | (s, none) => Eff.bus s 2
          | (s, some a) =>
            let vals := (r.dd.t.ix.zip dv.v).map (fun p =>
              let i := p.1
              b.zipIdx.foldl (fun (acc : Val × Bool) e =>
                if e.1 = i.2.1 then
                  (f32Val (rne32 (acc.1.add (a.getD (r.aa.t.flat i.1 e.2 i.2.2.1 i.2.2.2) (zeroVal, false)).1)), false)
                else acc) (f32Val (rne32 p.2.1), false))
            let bad := (b.filter (fun j => decide (r.dd.t.e1 ≤ j))).length
            (Eff.ofOut (s.writeOut r.dd (s.partOf lc) vals ctx)).plus (dv.rsvd + (a.filter (·.2)).length + bad)))

/-! ### CAST, QUANTISE and FILL (R114) -/

def convIssue (s : State) (lc : Nat) (d : Desc) (quant : Bool) : State :=
  s.issue lc d
    { code := if quant then 0x17 else 0x16, need := [2, 2, 0, 0], opt := [{ dst := true, quant := quant }, {}], loc := [.own, .own] } 1
    (fun _ _ r => if r.aa.t.ext ≠ r.dd.t.ext then some { code := 3, ref := 2 } else none) noEngs
    (fun s r _ =>
      match s.readArr r.aa (s.whoOf lc) with
      | (s, none) => Eff.bus s 2
      | (s, some a) => Eff.ofOut (s.writeOut r.dd (s.partOf lc) a.v (s.whoOf lc)))

/-- CAST (R114). -/
def execCast (lc : Nat) (d : Desc) (s : State) : Host.Outcome State Fault Refusal := .next (convIssue s lc d false)

/-- QUANTISE (R114, R62). -/
def execQuantise (lc : Nat) (d : Desc) (s : State) : Host.Outcome State Fault Refusal := .next (convIssue s lc d true)

/-- FILL (R114): the FP32 value of IMM0[31:0] in every element. -/
def execFill (lc : Nat) (d : Desc) (s : State) : Host.Outcome State Fault Refusal :=
  .next (s.issue lc d
    { code := 0x18, m0 := 2 ^ 32 - 1, need := [2, 0, 0, 0], opt := [{ dst := true }], loc := [.own] } 1
    (fun _ _ _ => none) noEngs
    (fun s r _ =>
      Eff.ofOut (s.writeOut r.dd (s.partOf lc) (List.replicate r.dd.t.count (f32Val d.imm0.toNat, false)) (s.whoOf lc))))

/-! ### DIGEST (R134) -/

/-- Each stride equals the packed size of the axes inside it. -/
def Tens.dense (t : Tens) : Bool :=
  let n0 : Int := t.rowBytes
  let ok := fun (e : Nat) (st n : Int) => e == 1 || st == n
  ok t.e1 t.s1 n0 && ok t.e2 t.s2 (n0 * t.e1) && ok t.e3 t.s3 (n0 * t.e1 * t.e2)

/-- DIGEST (R134): the digest over the bytes of A is written at IMM1; an A that is not dense or not in Edesk memory, and an IMM1 that is
misaligned or on another chip, fault with RECORD. A partition without a digest key faults with NMU. -/
def execDigest (lc : Nat) (d : Desc) (s : State) : Host.Outcome State Fault Refusal :=
  .next (s.issue lc d
    { code := 0x3D, m1 := imm64, need := [0, 2, 0, 0], opt := [{}, {}], loc := [.own, .edesk], out := [(d.imm1.toNat, 16)] } 6
    (fun s _ r =>
      let part := s.partOf lc
      if !r.aa.t.dense then some { code := 3, ref := 2 }
      else
        let c := if d.imm1.toNat % 16 ≠ 0 || gaChip d.imm1.toNat ≠ s.chip then 3 else s.locFail lc part .own d.imm1.toNat 16
        if c = 0 then none else some { code := c, ref := 5 })
    noEngs
    (fun s r _ =>
      let ctx := s.whoOf lc
      let h := s.digKey (s.partOf lc)
      if h = 0 then { s := s, fault := some { code := 0x0B } }
      else match s.readRows r.aa.t.rows ctx with
      | (s, none) => Eff.bus s 2
      | (s, some bs) =>
        let (s, ok) := s.writeMem d.imm1.toNat (bytesLE 16 (digest128 h bs.flatten)) ctx
        if ok then { s := s } else Eff.bus s 5))

end Sys2Proof.Machine
end

