-- ==== Sys2Proof/Machine/EdeskCmd.lean ====
section
/-! DEFINITION. The commands of Edesk memory: a read of a line and its outcome (R174–R178), line and partial writes (R173,
R175), map-out (R167), recompute regions (R177) and patrol scrub (R181–R183). -/
namespace Sys2Proof.Machine

/-! ### Reads (R174) -/

/-- A line is read for a requester (R174, R175, R180). -/
def State.edeskRead (s : State) (k l : Nat) (req : Requester) (o : ReadObs) : State :=
  let ctx := s.reqCtx req
  let (c, g) := ctx.getD (0, 0)
  let w : RcWait := { line := l, req := req, ctx := c, gen := g }
  if !s.stackUp k || s.capOf k ≤ l then s.deliverError req false
  else if (s.stk k).holds l then s.setStk k ((s.stk k).join l w)
  else match s.readLine k l ctx o with
  | (s, .ok data) => s.deliverLine req data
  | (s, .err) => (s.reqAt req (s.edGlobal k l)).deliverError req false
  | (s, .recompute n) => (s.reqAt req (s.edGlobal k l)).recompWait k n w

/-- EDESK_READ (R174). -/
def execEdeskRead (k l : Nat) (req : Requester) (o : ReadObs) (s : State) : Host.Outcome State Fault Refusal :=
  .next (s.edeskRead k l req o)

/-- After a recompute: what was held goes on, signals that waited are given, and the next recompute starts. -/
def State.recompEnd (s : State) (k : Nat) : State := ((s.recompRelease k).recompNext k).flushAll

/-- RECOMPUTE_DONE (R178 steps 3 and 4): the producer command has ended; each line that is waited for is read once more, and every read
that waits for it has the same outcome (R175). `obs` is what those reads receive, in order of failure. -/
def execRecomputeDone (k : Nat) (obs : List ReadObs) (s : State) : Host.Outcome State Fault Refusal :=
  let x := s.nmuSt k
  match x.running.find? (fun c => c.src == 2) with
  | none => .next s
  | some c =>
    if !c.done then .next s
    else
      let s := s.setNmu k { x with running := x.running.filter (fun c => c.src != 2) }
      let s := s.nmuLeave k c
      let y := s.stk k
      match y.recomp with
      | none => .next (s.recompNext k)
      | some r =>
        let s := s.setStk k { y with recomp := none }
        let ls := (r.waits.map (fun w => w.line / 64)).eraseDups
        let (s, good) := (if c.err = 0 then ls.zipIdx else []).foldl (fun (acc : State × List Nat) e =>
          let (s, i) := acc.1.innerRead k (64 * e.1) (obs.getD e.2 {}).first
          let s := s.innerCount k (64 * e.1) i []
          (s, if i.good k (64 * e.1) && !i.md.unwritten then acc.2 ++ [e.1] else acc.2)) (s, [])
        let s := if good.isEmpty then s
          else (s.bumpBy (.mc k) Mc.OUT_RECOMP_CNT good.length).bump (.mc k) (Mc.RCR_RUNS r.region)
        let s := s.each r.waits (fun w s =>
          if good.contains (w.line / 64) then
            let ctx := s.reqCtx w.req
            let s := (s.lastErr k w.line 2 ctx).event 0x2105 (srcStack k) (s.memItems k w.line ctx)
            if w.wr then s else s.lineOutcome k w.line w.req true
          else s.recompFail k w)
        .next (s.recompEnd k)

/-- RECOMPUTE_TIMEOUT (R178 step 4): 2 ms after the post. -/
def execRecomputeTimeout (k : Nat) (s : State) : Host.Outcome State Fault Refusal :=
  let y := s.stk k
  match y.recomp with
  | some r =>
    if r.postTick + 200 ≤ s.tick then
      .next (((s.setStk k { y with recomp := none }).each r.waits (fun w s => s.recompFail k w)).recompEnd k)
    else .next s
  | none => .next s

/-! ### Writes (R173) -/

/-- A write in space 0x0 for a requester (R173); the producer's own write is not held on the line that it is to restore (R175). -/
def State.edeskWrite (s : State) (o : Nat) (data : List Byte) (req : Requester) (obs : List ReadObs) : State :=
  let producer := match req with
    | .nmu k id => (s.nmuSt k).running.any (fun c => c.id == id && c.src == 2)
    | _ => false
  let (s, ok) := s.writeParts o data (s.reqCtx req) req obs producer
  s.writeDone req ok

/-- EDESK_LINE_WRITE (R173): 64 bytes at a line. -/
def execEdeskLineWrite (o : Nat) (data : List Byte) (req : Requester) (s : State) : Host.Outcome State Fault Refusal :=
  .next (s.edeskWrite (o / 64 * 64) (data.take 64) req [])

/-- EDESK_PARTIAL_WRITE (R173): the parts of lines from offset `o`; `obs` is what their merge reads receive. -/
def execEdeskPartialWrite (o : Nat) (data : List Byte) (obs : List ReadObs) (req : Requester) (s : State) :
    Host.Outcome State Fault Refusal :=
  .next (s.edeskWrite o data req obs)

/-! ### Map-out (R167) -/

/-- Memory contents from 93 GiB upwards are lost. -/
def State.dropTop (s : State) (k : Nat) : State :=
  let lost := fun (a : Nat) => decide (edKey k (93 * gib) ≤ a) && decide (a < edKey (k + 1) 0)
  { s with mem := s.mem.filter (fun e => !lost e.1), lines := s.lines.filter (fun e => !lost (e.1 * 64)) }

/-- A write of MAPOUT_CTRL (R167). -/
def State.mapoutCtrl (s : State) (k : Nat) (v : Word) : State :=
  let ch := v.toNat % 32
  let s := s.setFld (.mc k) Mc.MAPOUT_CTRL_CH ch
  if !bitAt v.toNat 8 then s
  else if s.fld (.mc k) Mc.MC_STATUS_MAPOUT_STATE ≠ 0 || !s.flag (.mc k) Mc.MC_STATUS_READY then
    (s.setErr (.mc k) 2).event 0x2112 (srcStack k) [(1, k), (1, ch)]
  else
    let s := (s.setFld (.mc k) Mc.MC_STATUS_MAPOUT_STATE 1).setFld (.mc k) Mc.MC_STATUS_MAPOUT_CH ch
    let s := s.setFld (.mc k) Mc.MAPOUT_WMARK 0
    (s.event 0x2110 (srcStack k) [(1, k), (1, ch)]).dropTop k

/-- MAPOUT_GO (R167). -/
def execMapoutGo (m : Master) (k : Nat) (v : Word) (s : State) : Host.Outcome State Fault Refusal :=
  .next (s.gated m (.mc k) (fun s => s.mapoutCtrl k v))

/-- Set POISON on a line (R167 step 2). -/
def State.poisonLine (s : State) (k l : Nat) : State :=
  { s with lines := tSet s.lines (lineKey k l) { s.lineMeta k l with poison := true } }

/-- Slots of a channel that a map-out copies (R166). -/
def rPrime : Nat := 24379392

/-- The repair record of a stack names its mapped-out channel (R167). -/
def State.repairNote (s : State) (k x : Nat) : State :=
  { s with flash := { s.flash with repair := smSet (fun _ => 0) s.flash.repair k (x + 1) } }

/-- MAPOUT_GRANULE_COPY (R167, R168: the map-out enters the repair record as it ends): the granule at the watermark; `bad0` and `bad1` say which of its lines has an uncorrectable
sector. -/
def execMapoutGranuleCopy (k : Nat) (bad0 bad1 : Bool) (s : State) : Host.Outcome State Fault Refusal :=
  if s.fld (.mc k) Mc.MC_STATUS_MAPOUT_STATE ≠ 1 then .next s
  else
    let r := s.fld (.mc k) (Mc.MAPOUT_WMARK.sub 24 0)
    let x := s.fld (.mc k) Mc.MC_STATUS_MAPOUT_CH
    let l := (32 * r + x) * 128
    let s := s.whenB bad0 (fun s => s.poisonLine k l)
    let s := s.whenB bad1 (fun s => s.poisonLine k (l + 64))
    let s := s.setFld (.mc k) (Mc.MAPOUT_WMARK.sub 24 0) (r + 1)
    .next (if r + 1 = rPrime then
      (((s.setFld (.mc k) Mc.MC_STATUS_MAPOUT_STATE 2).setFld (.mc k) Mc.MC_STATUS_CAP_GIB 93).repairNote k x).event 0x2111 (srcStack k) [(1, k), (1, x)]
      else s)

/-! ### Recompute regions (R177) -/

def State.rcBase (s : State) (k n : Nat) : Nat := s.fld (.mc k) ((Mc.RCR_BASE n).sub 24 0)
def State.rcSize (s : State) (k n : Nat) : Nat := s.fld (.mc k) ((Mc.RCR_SIZE n).sub 14 0)

/-- The range of a region lies wholly in the stack's direct window. -/
def State.rcInWindow (s : State) (k n : Nat) : Bool :=
  decide (s.ilOf (k / 6) * gib ≤ s.rcBase k n * 4096) && decide ((s.rcBase k n + s.rcSize k n) * 4096 ≤ s.capOf k)

/-- EN is accepted (R177). -/
def State.rcValid (s : State) (k n : Nat) : Bool :=
  let b := s.rcBase k n
  let z := s.rcSize k n
  let a := s.fld64 (.mc k) (Mc.RCR_PROD_LO n)
  decide (1 ≤ z) && decide (z ≤ 16384) && s.rcInWindow k n && a % 64 == 0 && gaChip a == s.chip
    && (List.range 8).all (fun j => j == n || !s.flag (.mc k) (Mc.RCR_CTRL_EN j)
      || !overlap (b, z) (s.rcBase k j, s.rcSize k j))

/-- A write of RCR_CTRL (R177). -/
def State.rcrCtrl (s : State) (k n : Nat) (v : Word) : State :=
  if !bitAt v.toNat 0 then s.setFld (.mc k) (Mc.RCR_CTRL_EN n) 0
  else if (s.sealOf (s.ctxPart (s.fld (.mc k) ((Mc.RCR_CTX n).sub 12 0)))).closed then (s.sealBlock 4).setErr (.mc k) 1
  else if s.rcValid k n then s.setFld (.mc k) (Mc.RCR_CTRL_EN n) 1
  else (s.setFld (.mc k) (Mc.RCR_CTRL_EN n) 0).setErr (.mc k) 1

/-- RCR_EN (R177). -/
def execRcrEn (m : Master) (k n : Nat) (v : Word) (s : State) : Host.Outcome State Fault Refusal :=
  .next (s.gated m (.mc k) (fun s => s.rcrCtrl k n v))

/-- Regions that satisfy a condition are disabled by hardware (R177). -/
def State.rcrDisable (s : State) (f : Nat → Nat → Bool) : State :=
  s.each (List.range 12) (fun k s => s.each (List.range 8) (fun n s =>
    if s.flag (.mc k) (Mc.RCR_CTRL_EN n) && f k n then s.setFld (.mc k) (Mc.RCR_CTRL_EN n) 0 else s))

/-- The IL of the dies that an activation has changed takes effect (R164, R177): event 0x2116, and regions of the die whose range is no
longer in the direct window are disabled. `old` are the values before it. -/
def State.rcrLayout (s : State) (old : List Nat) : State :=
  s.each ((List.range 2).filter (fun d => old.getD d 0 != s.ilOf d)) (fun d s =>
    (s.event 0x2116 (srcStack (6 * d))).rcrDisable (fun k n => k / 6 == d && decide (s.rcBase k n * 4096 < s.ilOf d * gib)))

/-- A context's generation advances (R177). -/
def State.rcrContext (s : State) (c : Nat) : State :=
  s.rcrDisable (fun k n => s.fld (.mc k) ((Mc.RCR_CTX n).sub 12 0) == c)

/-! ### Patrol scrub (R181, R182) -/

/-- Start a pass from local address 0. -/
def State.scrubStart (s : State) (k : Nat) (fast : Bool) : State :=
  let s := s.setStk k { s.stk k with scrubLine := 0, scrubCe := 0, scrubDue := 0, scrubDueAddr := 0 }
  (s.setFld (.scr k) Scr.SCRUB_STATUS (1 + 2 * bool01 fast)).setFld (.scr k) Scr.SCRUB_POS 0

/-- The end of a pass (R181, R182, R183). -/
def State.scrubEnd (s : State) (k : Nat) : State :=
  let x := s.stk k
  let s := (s.setFld (.scr k) Scr.SCRUB_CE_LAST x.scrubCe).setFld (.scr k) Scr.SCRUB_DUE_LAST x.scrubDue
  let s := (s.setFld64 (.scr k) Scr.SCRUB_DUE_ADDR_LO x.scrubDueAddr).setFld64 (.scr k) Scr.SCRUB_END_LO s.tick
  let s := s.bump (.scr k) Scr.SCRUB_PASSES
  let s := s.each (List.range 32) (fun ch s => s.setFld (.mc k) Mc.CH_CE_PERIOD 0 ch)
  let s := s.setStk k { s.stk k with degCe := [], degDue := [] }
  let s := s.setFld (.scr k) Scr.SCRUB_CTRL_NOW 0
  (s.event 0x2113 (srcStack k)).scrubStart k false

/-- SCRUB_LINE (R181): the next line of the pass, with the symbols in error in its two sectors (`data`) and in its metadata word (`md`)
as the base die receives them. -/
def execScrubLine (k : Nat) (data md : List SymErr) (s : State) : Host.Outcome State Fault Refusal :=
  if !s.flag (.scr k) Scr.SCRUB_CTRL_EN || !s.flag (.mc k) Mc.MC_STATUS_READY then .next s
  else
    let s := if s.fld (.scr k) (Scr.SCRUB_STATUS.sub 0 0) = 0 then s.scrubStart k (s.flag (.scr k) Scr.SCRUB_CTRL_NOW) else s
    let n := (s.stk k).scrubLine
    let l := n * 64
    let skip := s.fld (.mc k) Mc.MC_STATUS_MAPOUT_STATE = 1 && l / 128 % 32 = s.fld (.mc k) Mc.MC_STATUS_MAPOUT_CH
    let s := if skip then s else
      let (s, i) := s.scrubRead k l (symsOf data md)
      let x := s.stk k
      s.setStk k { x with scrubCe := x.scrubCe + i.fixed, scrubDue := x.scrubDue + i.due.length,
                          scrubDueAddr := if x.scrubDue = 0 then (match i.due with | j :: _ => l + 32 * j | [] => 0) else x.scrubDueAddr }
    let s := s.setStk k { s.stk k with scrubLine := n + 1 }
    let s := s.setFld (.scr k) (Scr.SCRUB_POS.sub 24 0) ((n + 1) / 64)
    .next (if s.capOf k ≤ l + 64 then s.scrubEnd k else s)

/-- A write of SCRUB_CTRL (R182). -/
def State.scrubCtrl (s : State) (k : Nat) (v : Word) : State :=
  let per := bitsOf v.toNat 15 8
  if per = 0 || 168 < per then s.setErr (.scr k) 0
  else
    let s := (s.setFld (.scr k) Scr.SCRUB_CTRL_EN (v.toNat % 2)).setFld (.scr k) Scr.SCRUB_CTRL_PERIOD per
    let s := if bitAt v.toNat 0 then s else s.setFld (.scr k) Scr.SCRUB_STATUS 0
    if bitAt v.toNat 1 then
      let s := s.setFld (.scr k) Scr.SCRUB_CTRL_NOW 1
      if bitAt v.toNat 0 && s.flag (.mc k) Mc.MC_STATUS_READY then s.scrubStart k true else s
    else s

/-- SCRUB_NOW (R182): NOW is set. -/
def execScrubNow (m : Master) (k : Nat) (s : State) : Host.Outcome State Fault Refusal :=
  .next (s.gated m (.scr k) (fun s => s.scrubCtrl k (BitVec.ofNat 32 (s.fld (.scr k) Scr.SCRUB_CTRL) ||| 2)))

/-- SCRUB_CTRL_WRITE (R182). -/
def execScrubCtrlWrite (m : Master) (k : Nat) (v : Word) (s : State) : Host.Outcome State Fault Refusal :=
  .next (s.gated m (.scr k) (fun s => s.scrubCtrl k v))

end Sys2Proof.Machine
end

