-- ==== Sys2Proof/Machine/FabricOps.lean ====
section
/-! DEFINITION. The wavelength fabric: plan images (R257–R259), ring pairs and their moves (R254–R256, R261), replacement
(R272, R286–R291), Kaleidoscope (R266–R270) and the placing of flits at a flit boundary (R227, R228). -/
namespace Sys2Proof.Machine

/-! ### Plan images (Tables 9.3–9.5) -/

/-- `n` bytes of a plan buffer at a byte offset. -/
def planBits (buf : SMap Nat) (off : Nat) (n : Nat) : Nat :=
  let w := fun i => smGet (fun _ => 0) buf (off / 4 + i)
  (w 0 + w 1 * 2 ^ 32 + w 2 * 2 ^ 64) / 256 ^ (off % 4) % 256 ^ n

def planMask (buf : SMap Nat) : Nat := planBits buf 0x10 3

/-- The byte offset of the record of port `p` (8–31), if the plan has one. -/
def planRec (buf : SMap Nat) (p : Nat) : Option Nat :=
  if bitAt (planMask buf) (p - 8) then
    some (64 + 192 * ((List.range (p - 8)).filter (fun i => bitAt (planMask buf) i)).length)
  else none

/-- Ports with a record. -/
def planPorts (buf : SMap Nat) : List Nat := ((List.range 24).filter (fun i => bitAt (planMask buf) i)).map (· + 8)

/-- A ring pair entry (Table 9.5). -/
structure RingEntry where
  line : Nat := 0
  role : Nat := 0
  lane : Nat := 0
  bundle : Nat := 0
  part : Nat := 0
  peer : Nat := 0xFFFF
  rsvd : Bool := false
  deriving DecidableEq, Repr

def planPlane (buf : SMap Nat) (o : Nat) : Nat := planBits buf o 2
def planInput (buf : SMap Nat) (o : Nat) : Nat := bitsOf (planBits buf o 4) 20 16
def planEn (buf : SMap Nat) (o : Nat) : Bool := bitAt (planBits buf o 4) 21
def planMap (buf : SMap Nat) (o k : Nat) : Nat := planBits buf (o + 0x10 + 2 * k) 2
def planSteer (buf : SMap Nat) (o n : Nat) : Nat := planBits buf (o + 0xB0 + 2 * n) 2

/-- Ring pair entry `r` of a record, with the peer of R258. -/
def planRing (buf : SMap Nat) (o r : Nat) : RingEntry :=
  let v := planBits buf (o + 0x50 + 8 * r) 8
  let role := bitsOf v 6 5
  let line := bitsOf v 4 0
  { line := line, role := role, lane := bitsOf v 10 8, bundle := bitsOf v 21 16, part := bitsOf v 35 24,
    peer := if role = 1 || role = 2 then planMap buf o ((planInput buf o + line) % 32) else 0xFFFF,
    rsvd := bitAt v 7 || bitsOf v 15 11 != 0 || bitsOf v 23 22 != 0 || bitsOf v 63 36 != 0 }

/-- HOME or PARKED. -/
def RingEntry.used (e : RingEntry) : Bool := e.role == 1 || e.role == 2

def planRings (buf : SMap Nat) (o : Nat) : List RingEntry := (List.range 12).map (planRing buf o)

/-- The partition of a lane: that of its HOME entry (R258). -/
def planLanePart (buf : SMap Nat) (o n : Nat) : Option Nat :=
  ((planRings buf o).find? (fun e => e.role == 1 && e.lane == n)).map (·.part)

def distinct (l : List Nat) : Bool := decide l.Nodup

/-- The cause of the first failing row of Table 9.6, 0 where the plan is accepted. -/
def State.planCheck (s : State) (b : SMap Nat) : Nat :=
  let ports := planPorts b
  let recs := ports.map (fun p => (planRec b p).getD 64)
  let all := recs.flatMap (planRings b)
  let fieldBad :=
    planBits b 4 4 != 0 || planBits b 0x13 5 != 0 || (List.range 10).any (fun i => planBits b (0x18 + 4 * i) 4 != 0)
      || recs.any (fun o => planBits b o 8 / 2 ^ 22 != 0 || planBits b (o + 8) 8 != 0
        || (List.range 8).any (fun n => planSteer b o n / 4096 != 0))
      || all.any (fun e => e.rsvd || (e.used && decide (e.bundle < 8))
        || (e.role == 0 && (e.line != 0 || e.lane != 0 || e.bundle != 0 || e.part != 0)))
  let lineBad := recs.any (fun o =>
    let u := ((planRings b o).filter RingEntry.used).map (·.line)
    u.contains 0 || !distinct u)
  let mapBad := recs.any (fun o =>
    let m := ((List.range 32).map (planMap b o)).filter (· != 0xFFFF)
    planMap b o (planInput b o) != s.chip || !distinct m
      || (planRings b o).any (fun e => e.used && (e.peer == 0xFFFF || e.peer == s.chip)))
  let laneBad := recs.any (fun o =>
    let h := ((planRings b o).filter (fun e => e.role == 1)).map (·.lane)
    decide (8 < h.length) || !distinct h)
  let us := all.filter RingEntry.used
  let bndBad := us.any (fun x => us.any (fun y => (x.peer == y.peer) != (x.bundle == y.bundle)))
  let steerBad := recs.any (fun o => (List.range 8).any (fun n =>
    (List.range 12).any (fun r => bitAt (planSteer b o n) r
      && (!(planRing b o r).used || planLanePart b o n != some (planRing b o r).part))))
  let planeBad := !distinct ((recs.filter (planEn b)).map (planPlane b))
  let act := planBits b 8 8
  if fieldBad then 1 else if lineBad then 2 else if mapBad then 3 else if laneBad then 4 else if bndBad then 5
  else if steerBad then 6 else if planeBad then 7
  else if act < s.tick + 20 then 8
  else if s.fld .fab Fab.PLAN_STATUS_STATE = 1 || (s.plan.has && act < planBits s.plan.cur 8 8 + 100) then 9
  else 0

/-! ### Ring pairs -/

/-- The header of an unsequenced flit on a lane, or on ring channel 16 + r: its NEXT is the trained peer (R229). -/
def State.laneHdr (s : State) (p n : Nat) : FlitHdr :=
  let c := if n < 16 then s.fld (.lan p) (Lan.LANE_PEER.sub 15 0) n else s.ringPeerChip p (n - 16)
  { dest := c, src := s.chip, next := c }

/-- The bank of a line's allocation entry (Table 12.9). -/
def lineBank (p l : Nat) : Nat := (p - 8) + l * 32

/-- A line is CLAIMED for a partition (R343). -/
def State.lineClaimed (s : State) (p l part : Nat) : Bool :=
  s.fld .line (Lin.LINE_STATE.sub 2 0) (lineBank p l) == 2 && s.fld .line (Lin.LINE_STATE.sub 19 8) (lineBank p l) == part

/-- Start a table move (R256): dark, TUNING, out of every steering set (R267), and the state to enter at its end; the rings take the
codes of where they go (Table 10.1). -/
def State.ringMove (s : State) (p r goal : Nat) : State :=
  let s := s.steerDrop p r 1
  let s := s.setRingF p r Rng.RING_STATE_STATE 1
  let s := s.setRingF p r Rng.RING_STATE_ON_LINE 0
  let s := s.setRingF p r Rng.RING_STATE_TRAINED 0
  let s := s.setRingF p r Rng.RING_STATE_LANE 15
  let s := (s.bump (.rng (ringEng p)) Rng.RING_MOVE_CNT (ringBank p r 0)).bump (.rng (ringEng p)) Rng.RING_MOVE_CNT (ringBank p r 1)
  (s.modRing p r (fun x => { x with goal := goal, step := 0, edges := 0, hiT := 0, hiR := 0, calib := false })).holdPair p r

/-- A ring pair is lit, trained and PARKED or ACTIVE. -/
def State.ringLive (s : State) (p r : Nat) : Bool :=
  (s.ringSt p r == 3 || s.ringSt p r == 4) && s.ringF p r Rng.RING_STATE_TRAINED == 1

/-- A lane whose pair has left its line: it goes on while it drives another pair or its home pair is live, and is else out of its bundle
until its home trains anew (R235, R256). -/
def State.laneRests (s : State) (p n : Nat) : State :=
  if (List.range 12).any (fun r => s.ringLane p r == n) || (match s.homeRing p n with | some r => s.ringLive p r | none => false) then s
  else if s.laneSt p n = 2 then (s.setLaneSt p n 0).laneLeave p n true
  else if s.laneSt p n = 1 then s.setLaneSt p n 0
  else s

/-- A ring pair leaves its line or position for another (R256): an ACTIVE pair keeps its codes as offsets (R282), the flits of the lane
that drove it are replayed, and that lane and the one whose home the pair is leave their bundle where no other pair carries them. -/
def State.ringLeave (s : State) (p r goal : Nat) : State :=
  let n := s.ringLane p r
  let b := s.ringF p r Rng.RING_STATE_BUNDLE
  let home := (s.ringX p r).home
  let s := if s.ringSt p r = 4 then s.keepCodes p r else s
  let s := (s.ringMove p r goal).replayOn b p n
  let s := s.each ((n :: home.toList).eraseDups.filter (fun n => decide (n < 8))) (fun n s => s.laneRests p n)
  if b < 8 then s.portSync p else (s.bundleSync b).portSync p

/-! ### Kaleidoscope (R266–R270) -/

/-- The steering mask of a lane: its STEER mask of CURRENT and its home pair. -/
def State.steerMask (s : State) (p n : Nat) : List Nat :=
  let mask := match planRec s.plan.cur p with | some o => planSteer s.plan.cur o n | none => 0
  (List.range 12).filter (fun r => bitAt mask r || (s.ringX p r).home == some n)

/-- The partition of a lane (R258). -/
def State.lanePart (s : State) (p n : Nat) : Option Nat :=
  match planRec s.plan.cur p with | some o => planLanePart s.plan.cur o n | none => none

/-- A pair meets R267 for a lane. -/
def State.steerable (s : State) (p n r : Nat) : Bool :=
  let st := s.ringSt p r
  (st == 3 || st == 4) && s.ringF p r Rng.RING_STATE_TRAINED == 1 && s.bndUp (s.ringF p r Rng.RING_STATE_BUNDLE)
    && (match s.lanePart p n with
        | some part => s.lineClaimed p (s.ringF p r Rng.RING_STATE_LINE) part
        | none => false)
    && (s.ringX p r).replaces.isNone && !(s.ringX p r).calib && (s.steerMask p n).contains r

/-- The credit of a bundle for a class and virtual channel allows a flit. -/
def State.creditOk (s : State) (b : Nat) (h : FlitHdr) : Bool :=
  let x := s.bundle b
  let k := 2 * h.cls + h.vc
  decide (smGet (fun _ => 0) x.used k < Config.linkCredits k + smGet (fun _ => 0) x.got k)

/-- The first flit of a bundle that may be sent: one to replay, else one waiting with credit (R228, R230). -/
def State.ready (s : State) (p b : Nat) : Bool :=
  let x := s.bundle b
  s.bndUp b && (x.unacked.any (·.resend) ||
    (decide (x.unacked.length < 32767) && decide (s.fld (.lnk p) (Lnk.REPLAY_OCC.sub 11 0) < 2048)
      && x.wait.any (fun e => !e.1.p.e2e || s.creditOk b e.1.h)))

/-- A count in units of 1,024: the new remainder and the carry. -/
def per1024 (r : Nat) : Nat × Nat := ((r + 1) % 1024, (r + 1) / 1024)

/-- A new flit of bundle `b` takes its SEQ and leaves on lane `n` of port `p`, in whose replay buffer it stays (R227, R270). Flits that
this device sealed count in ENC_TX. -/
def State.putFlit (s : State) (p n b : Nat) (f : Flit) (age : Nat) : State :=
  let x := s.bundle b
  let q := s.fld .bnd (Bnd.BND_SEQ.sub 15 0) b
  let f := { f with h := { f.h with seq := q, next := s.bndPeer b } }
  let k := 2 * f.h.cls + f.h.vc
  let used := if f.p.e2e then smSet (fun _ => 0) x.used k (smGet (fun _ => 0) x.used k + 1) else x.used
  let s := s.setBundle b { x with used := used, unacked := x.unacked ++ [{ f := f, port := p, via := p, lane := n, age := age }] }
  let s := s.setFld .bnd (Bnd.BND_SEQ.sub 15 0) ((q + 1) % 65536) b
  let px := tGet s.ports p
  let (tx, c) := per1024 px.tx
  let (en, ce) := if f.p.e2e && f.h.src == s.chip then per1024 px.enc else (px.enc, 0)
  let s := { s with ports := tSet s.ports p { px with tx := tx, enc := en } }
  let s := (s.bumpBy (.lnk p) Lnk.TX_FLITS c).bumpBy (.cry p) Cry.ENC_TX ce
  ((s.emit (.flit p n f)).bndSeqSync b).replayOcc

/-- Lane `n` of port `p` places its next flit of bundle `b`, or an IDLE (R227, R228, R230, R231). A flit that is replayed stays in the
replay buffer of the port that first sent it, whichever lane carries it now (R270). -/
def State.place (s : State) (p n b : Nat) : State :=
  let x := s.bundle b
  let idle := s.emit (.flit p n { h := s.laneHdr p n })
  if !s.bndUp b then idle
  else match x.unacked.findIdx? (·.resend) with
  | some i =>
    match x.unacked[i]? with
    | some t =>
      let t' := { t with resend := false, via := p, lane := n, times := t.times + 1 }
      ((s.setBundle b { x with unacked := x.unacked.set i t' }).emit (.flit p n t.f)).replayed b t'.times
    | none => s
  | none =>
    if !s.ready p b then idle
    else match x.wait.findIdx? (fun e => !e.1.p.e2e || s.creditOk b e.1.h) with
    | none => idle
    | some i =>
      match x.wait[i]? with
      | none => s
      | some (f, age) => (s.setBundle b { x with wait := x.wait.eraseIdx i }).putFlit p n b f age

/-- The age of the oldest flit of a bundle that waits to be sent, or sent again (R269). -/
def Bundle.oldest (x : Bundle) : Option Nat :=
  ((x.unacked.filter (·.resend)).map (·.age) ++ x.wait.map (·.2)).min?

/-- The pairs that the lanes of a port drive at the next boundary (R268, R269): lane and pair. -/
def State.assignLanes (s : State) (p : Nat) : List (Nat × Nat) :=
  let lanes := (List.range 8).filter (fun n => s.laneSt p n == 2)
  let bOf := fun r => s.ringF p r Rng.RING_STATE_BUNDLE
  let demand := s.fld (.kal (ringEng p)) ⟨0x100, 2 * ((p - 8) % 8) + 1, 2 * ((p - 8) % 8)⟩ == 1
  let homes := lanes.filterMap (fun n =>
    match s.homeRing p n with
    | some r => if s.steerable p n r && (!demand || s.ready p (bOf r)) then some (n, r) else none
    | none => none)
  if !demand then homes
  else
    let age := fun b => (s.bundle b).oldest
    lanes.foldl (fun acc n =>
      if acc.any (fun e => e.1 == n) then acc
      else
        let free := (s.steerMask p n).filter (fun r => s.steerable p n r && !acc.any (fun e => e.2 == r))
        let best := free.foldl (fun (m : Option (Nat × Nat)) r =>
          if !s.ready p (bOf r) then m
          else match age (bOf r), m with
          | some a, some (a0, _) => if a < a0 then some (a, r) else m
          | some a, none => some (a, r)
          | none, _ => m) none
        match best with
        | some (_, r) => acc ++ [(n, r)]
        | none =>
          match (List.range 12).find? (fun r => s.ringLane p r == n) with
          | some r => if free.contains r then acc ++ [(n, r)] else acc
          | none => acc) homes

/-- The first condition of R267 that a pair misses for a lane, in their order, 0 where only a replacement or a measurement
withdraws it. -/
def State.steerMiss (s : State) (p n r : Nat) : Nat :=
  let st := s.ringSt p r
  if st ≠ 3 && st ≠ 4 then 1
  else if s.ringF p r Rng.RING_STATE_TRAINED = 0 then 2
  else if !s.bndUp (s.ringF p r Rng.RING_STATE_BUNDLE) then 3
  else if !(match s.lanePart p n with
        | some part => s.lineClaimed p (s.ringF p r Rng.RING_STATE_LINE) part
        | none => false) then 4
  else if !(s.steerMask p n).contains r then 5
  else 0

/-- Pairs that no longer meet a condition for some lanes of a port leave the sets of those lanes (R267), with one event for each pair. -/
def State.steerLoss (s : State) (p : Nat) : State :=
  s.each (List.range 12) (fun r s =>
    match (List.range 8).filter (fun n =>
      bitAt (s.fld (.kal (ringEng p)) (Kal.KAL_LANE.sub 19 8) (kalBank p n)) r && !s.steerable p n r && s.steerMiss p n r != 0) with
    | [] => s
    | n :: ns =>
      (s.each (n :: ns) (fun n s => s.setFld (.kal (ringEng p)) (Kal.KAL_LANE.sub (8 + r) (8 + r)) 0 (kalBank p n))).event 0x4112
        (srcPort p) [(1, p), (1, r), (2, s.steerMiss p n r)])

/-- LANE_PEER of a lane that drives a ring pair: the pair's trained identity, with the LANE last recorded (R289). -/
def State.lanePeerOf (s : State) (p r : Nat) : Nat :=
  let x := s.ringX p r
  s.ringPeerChip p r + x.peerPort % 32 * 65536 + x.peerLane % 16 * 2 ^ 21

/-- Attach the lanes of an optical port to their pairs (R266) and count steers. -/
def State.attach (s : State) (p : Nat) (a : List (Nat × Nat)) : State :=
  let e := ringEng p
  let s := s.steerLoss p
  let s := s.each (List.range 12) (fun r s =>
    match a.find? (fun x => x.2 == r) with
    | none => s.setRingF p r Rng.RING_STATE_LANE 15
    | some (n, _) =>
      let s := if s.ringLane p r = n then s
        else ((s.setRingF p r Rng.RING_STATE_LANE n).bump (.rng e) Rng.RING_STEER_CNT (ringBank p r 0)).modLane p n
          (fun x => { x with steers := min 65535 (x.steers + 1) })
      let s := s.setFld (.lan p) Lan.LANE_STATE_BUNDLE (s.ringF p r Rng.RING_STATE_BUNDLE) n
      let s := s.setFld (.lan p) Lan.LANE_PEER (s.lanePeerOf p r) n
      s.modRing p r (fun x => { x with drivenAt := s.plan.boundary + 1, drivenTick := s.tick + 1 }))
  s.each (List.range 8) (fun n s =>
    let r := match a.find? (fun x => x.1 == n) with | some (_, r) => r | none => 15
    let set := (List.range 12).foldl (fun m r => if s.steerable p n r then m + 2 ^ r else m) 0
    s.setFld (.kal e) (Kal.KAL_LANE.sub 19 0) (r + ((s.homeRing p n).getD 15) * 16 + set * 256) (kalBank p n))

/-! ### Replacement (R272, R286–R291) -/

/-- Declaration causes: Table 10.4's numbers, and 5 for WINDOW. -/
def declLos : Nat := 1
def declMis : Nat := 2
def declSelf : Nat := 3
def declLaser : Nat := 4
def declWindow : Nat := 5

/-- Send a ring notice about a pair (R290). -/
def State.ringNotice (s : State) (p r cause : Nat) : State :=
  let b := s.ringF p r Rng.RING_STATE_BUNDLE
  s.sendBundle b (.laneCtrl { op := 3, bundle := b, port := (s.ringX p r).peerPort, cause := cause })

/-- A replacement takes a failed pair out and puts another on its line (R272); the failed pair keeps its offsets (R292 step 1). The lane
engine stays ACTIVE (R286); it leaves its bundle only where no pair can be taken. -/
def State.ringReplace (s : State) (p r : Nat) : State :=
  let x := s.ringX p r
  if x.out || x.replaces.isSome then s
  else
    let e := ringEng p
    let n := (p - 8) % 8
    let line := s.ringF p r Rng.RING_STATE_LINE
    let b := s.ringF p r Rng.RING_STATE_BUNDLE
    let peer := s.ringF p r Rng.RING_PEER
    let drv := s.ringLane p r
    let s := s.bump (.kal e) Kal.KAL_REPLACE_CNT n
    let spare := (List.range 12).find? (fun q => q != r && s.ringSt p q == 5 && (s.ringX p q).testDue.isNone)
    let parked := ((List.range 12).filter (fun q => q != r && s.ringSt p q == 3 && (s.ringX p q).role == 2)).getLast?
    let s := if spare.isNone then (s.bump (.kal e) Kal.KAL_NOSPARE_CNT n).event 0x4111 (srcPort p) [(1, p)] else s
    let s := s.ringMove p r 5
    let due := (s.eng e).failures
    let s := s.modEng e (fun y => { y with failures := y.failures + 1 })
    let s := s.modRing p r (fun x => { x with out := true, home := none, actsFor := none, role := 3, testDue := some due })
    match spare.orElse (fun _ => parked) with
    | some q =>
      let s := if s.ringSt p q = 3 then ((s.ringLeave p q 3).setRingLine p q line).holdPair p q
        else (s.setRingLine p q line).ringMove p q 3
      let s := s.setRingF p q Rng.RING_STATE_BUNDLE b
      let s := s.setRingF p q Rng.RING_PEER peer
      let s := s.modRing p q (fun y => { y with home := x.home, role := x.role, replaces := some r, actsFor := some (x.actsFor.getD r),
                                                peerPort := x.peerPort, peerLane := x.peerLane, seen := x.seen, out := false, rxLost := true })
      s.replayOn b p drv
    | none =>
      let s := if drv = 15 || x.home = some drv then s else (s.replayOn b p drv).laneRests p drv
      match x.home with
      | some l => s.laneFail p l causeOptical
      | none => (s.bundleSync b).portSync p

/-- A mis-lock is declared against a pair (R288, R291): only its event is recorded where the pair is under replacement, or inside a
suppression window. -/
def State.declare_ (s : State) (p r cause : Nat) (notice : Nat) : State :=
  let x := s.ringX p r
  let s := s.event 0x4121 (srcPort p) [(1, p), (1, r), (2, cause)]
  if x.out || x.replaces.isSome || s.tick < x.mute then s
  else
    let s := s.bump (.rng (ringEng p)) Rng.MISLOCK_CNT (ringBank p r 0)
    let s := if notice = 0 then s else s.ringNotice p r notice
    s.ringReplace p r

/-- A failure that R232 names: an optical one is attributed to the lane's ring pair, the one that it drives or else its home, and cleared
by replacing that pair (R286). -/
def State.laneFault (s : State) (p n cause : Nat) : State :=
  if copper p then s.laneFail p n cause
  else match ((List.range 12).find? (fun r => s.ringLane p r == n)).orElse (fun _ => (s.homeRing p n).filter (fun r => s.ringLive p r)) with
  | some r => s.ringReplace p r
  | none => s.laneFail p n cause

/-- Causes of 0x3106, numbered in the order of Table 8.8. -/
def trainTimeout : Nat := 1
def trainIdent : Nat := 2
def trainVersion : Nat := 3
def trainSkew : Nat := 4
def trainClass : Nat := 5

/-- A ring pair to a chip that is cabled to a copper port is not trained (R220). -/
def State.classRefuse (s : State) (p r : Nat) : State :=
  let home := (s.ringX p r).home
  let b := s.ringF p r Rng.RING_STATE_BUNDLE
  let s := (s.steerDrop p r 2).setRingF p r Rng.RING_STATE_TRAINED 0
  let s := (s.setRingF p r Rng.RING_STATE_LANE 15).modRing p r (fun x => { x with step := 9 })
  let s := s.event 0x3106 (srcPort p) (laneItems p (home.getD (16 + r)) (some trainClass))
  let s := match home with | some n => s.laneRests p n | none => s
  if b < 8 then s else (s.bundleSync b).portSync p

/-! ### Training that fails (R262) -/

/-- A pair without a lane of its own in TRAINING has failed (Table 8.6): it trains again 10 ticks later, or after its quarantine, or no
more. -/
def State.ringStrike (s : State) (p r : Nat) : State :=
  let thr := s.fld (.lan p) Lan.THR_STRIKES
  let now := s.tick
  let x := s.ringX p r
  let st := now :: x.strikeAt.filter (fun t => decide (now < t + thr / 65536))
  let s := s.modRing p r (fun x => { x with step := 1, retryAt := now + 10, strikeAt := st })
  if st.length < thr % 16 then s
  else if x.qlevel < 6 then
    (s.modRing p r (fun y => { y with qlevel := x.qlevel + 1, retryAt := now + s.fld (.lan p) Lan.THR_QUAR * 2 ^ x.qlevel })).event 0x3103
      (srcPort p) (laneItems p (16 + r) none)
  else (s.modRing p r (fun y => { y with step := 9 })).event 0x3104 (srcPort p) (laneItems p (16 + r) none)

/-- Training of a ring pair fails (R262, Table 8.6): with its home lane, where that is in TRAINING, or on its own. -/
def State.ringTrainFail (s : State) (p r c : Nat) (noMajor : Bool) : State :=
  match (s.ringX p r).home.filter (fun n => s.laneSt p n == 1) with
  | some n => s.trainFail p n c noMajor
  | none =>
    let s := s.event 0x3106 (srcPort p) (laneItems p (16 + r) (some c))
    let s := if c = trainIdent then s.event 0x3107 (srcPort p) (laneItems p (16 + r) none)
      else if noMajor then s.event 0x3108 (srcPort p) (laneItems p (16 + r) none) else s
    s.ringStrike p r

/-- Training at a tick edge, of pairs that no lane trains: a second attempt begins, or one has taken 200 µs (R234, R262). -/
def State.retrainEdge (s : State) : State :=
  s.each allPairs (fun e s =>
    let x := s.ringX e.1 e.2
    let free := (x.role = 1 || x.role = 2) && (s.ringSt e.1 e.2 = 3 || s.ringSt e.1 e.2 = 4)
      && s.ringF e.1 e.2 Rng.RING_STATE_TRAINED = 0 && x.replaces.isNone
      && !(match x.home with | some n => s.laneSt e.1 n == 1 | none => false)
    if !free then s
    else if x.step = 1 && x.retryAt ≤ s.tick then s.modRing e.1 e.2 (fun x => { x with step := 2, trainAt := s.tick })
    else if 2 ≤ x.step && x.step < 9 && x.trainAt + 20 ≤ s.tick then s.ringTrainFail e.1 e.2 trainTimeout false
    else s)

/-! ### Plans in effect -/

/-- The entry of ring pair `r` of port `p` in a buffer as it is to be carried out: OFF without a record, with EN = 0, with the port
disabled, or before the tick edge at which an enabled port comes up (R260). -/
def State.entryOf (s : State) (buf : SMap Nat) (p r : Nat) : RingEntry :=
  match planRec buf p with
  | some o => if planEn buf o && s.flag (.lnk p) Lnk.LNK_CTRL_EN && !(tGet s.ports p).due then planRing buf o r else {}
  | none => {}

/-- Bring a ring pair to a plan entry (Table 9.8); both rings of a SPARE pair stand at the park position of LINE (Table 9.5). -/
def State.ringTo (s : State) (p r : Nat) (e : RingEntry) : State :=
  let goal := if e.role = 0 then 0 else if e.role = 3 then 5
    else if s.lineClaimed p e.line e.part then 3 else 2
  let s := s.ringLeave p r goal
  let s := if e.role = 3 then s.setRingPark p r e.line else s.setRingLine p r e.line
  let s := s.setRingF p r Rng.RING_STATE_BUNDLE e.bundle
  let s := s.setRingF p r Rng.RING_PEER (if e.used then e.peer + e.part * 65536 else 0)
  (s.modRing p r (fun x => { x with role := e.role, home := if e.role = 1 then some e.lane else none, out := false, actsFor := none,
                                    replaces := none, testDue := none, testing := false })).holdPair p r

/-- The untrained HOME and PARKED pairs of a port, as a mask. -/
def State.untrained (s : State) (p : Nat) : Nat :=
  (List.range 12).foldl (fun m r =>
    let role := (s.ringX p r).role
    if (role = 1 || role = 2) && s.ringF p r Rng.RING_STATE_TRAINED = 0 then m + 2 ^ r else m) 0

/-- The outcome of a port's re-cable is final (R262); with fewer than 4 ACTIVE lanes the port stays down (R235). -/
def State.settlePort (s : State) (p : Nat) : State :=
  let u := s.untrained p
  let bit := 2 ^ (p - 8)
  let s := s.setFld .fab Fab.PORT_DONE (s.fld .fab Fab.PORT_DONE ||| bit)
  let s :=
    if u = 0 then s.event 0x4103 (srcPort p) [(1, p)]
    else (s.setFld .fab Fab.PORT_INCOMPLETE (s.fld .fab Fab.PORT_INCOMPLETE ||| bit)).event 0x4104 (srcPort p) [(1, p), (2, u)]
  s.opticalDown p

/-- A port runs under the record of CURRENT. -/
def State.portInPlan (s : State) (p : Nat) : Bool :=
  match planRec s.plan.cur p with
  | some o => planEn s.plan.cur o && s.flag (.lnk p) Lnk.LNK_CTRL_EN
  | none => false

/-- The edge of T+100 (R262): every port of the plan but those that came up on their own is settled, and the plan is done. A NEXT that is
ARMED by then stays so. -/
def State.planSettle (s : State) : State :=
  if s.plan.recabling && planBits s.plan.cur 8 8 + 100 ≤ s.tick then
    let s := { s with plan := { s.plan with recabling := false } }
    let ps := ((List.range 24).map (· + 8)).filter (fun p => s.portInPlan p && !(tGet s.ports p).due && !(tGet s.ports p).own)
    let s : State := s.each ps (fun p s => s.settlePort p)
    let s := if s.fld .fab Fab.PLAN_STATUS_STATE = 2 then s.setFld .fab Fab.PLAN_STATUS_STATE 3 else s
    s.event 0x4105 0 [(4, planBits s.plan.cur 0 4)]
  else s

/-- The pairs of a port that a new plan touches (R261, R265, R273): those whose entries change, and those that stand in for one of
them. -/
def State.touched (s : State) (had : Bool) (old : SMap Nat) (p : Nat) : List Nat :=
  let ch := (List.range 12).filter (fun r =>
    if had then s.entryOf old p r != s.entryOf s.plan.cur p r else (s.entryOf s.plan.cur p r).role != 0)
  (List.range 12).filter (fun r => s.ringSt p r != 6 &&
    (ch.contains r || (match (s.ringX p r).actsFor with | some q => ch.contains q | none => false)))

/-- PLAN_ACTIVATION (R261): NEXT becomes CURRENT and the pairs that it touches start their moves. -/
def State.planActivate (s : State) : State :=
  let s := s.planSettle
  let old := s.plan.cur
  let new := s.plan.next
  let had := s.plan.has
  let s := { s with plan := { s.plan with cur := new, next := new, has := true, recabling := true } }
  let s := s.setFld .fab Fab.PLAN_STATUS_STATE 2
  let s := s.setFld .fab Fab.PLAN_ID_CUR (planBits new 0 4)
  let s := s.setFld .fab Fab.PLAN_ID_NEXT 0
  let s := s.setFld64 .fab Fab.ACT_TICK_LO (planBits new 8 8)
  let s := (s.setFld .fab Fab.PORT_DONE 0).setFld .fab Fab.PORT_INCOMPLETE 0
  let s := (s.bump .fab Fab.PLAN_CNT).event 0x4102
  let ports := (List.range 24).map (· + 8)
  let s := s.each ports (fun p s => { s with ports := tMod s.ports p (fun x => { x with settleAt := 0, own := false }) })
  let s := s.each ports (fun p s => s.each (s.touched had old p) (fun r s => s.ringTo p r (s.entryOf s.plan.cur p r)))
  s.each ports (fun p s => s.steerLoss p)

/-- A port that was enabled comes up at the tick edge under its record (R260); its outcome is final 100 ticks later. -/
def State.portStart (s : State) (p : Nat) : State :=
  if !(tGet s.ports p).due then s
  else
    let s := { s with ports := tMod s.ports p (fun x => { x with due := false }) }
    if s.portInPlan p then
      let s := { s with ports := tMod s.ports p (fun x => { x with own := true, settleAt := s.tick + 101 }) }
      s.each ((List.range 12).filter (fun r => s.ringSt p r != 6)) (fun r s =>
        let e := s.entryOf s.plan.cur p r
        if e.role = 0 && s.ringSt p r = 0 then s else s.ringTo p r e)
    else s

/-- HELD pairs whose lines are claimed for their partitions move onto them at the tick edge, and their port's outcome is final 100 ticks
later (R265). -/
def State.heldEdge (s : State) : State :=
  s.each allPairs (fun e s =>
    if s.ringSt e.1 e.2 = 2 && s.lineClaimed e.1 (s.ringF e.1 e.2 Rng.RING_STATE_LINE) (s.ringPart e.1 e.2) then
      { s with ports := tMod s.ports e.1 (fun x => { x with settleAt := s.tick + 101 }) }.ringMove e.1 e.2 3
    else s)

/-- A line leaves the allocation of its pair's partition (R265): the pair goes dark and stays HELD until the line is claimed again. -/
def State.lineChanged (s : State) (p l : Nat) : State :=
  s.each (List.range 12) (fun r s =>
    let st := s.ringSt p r
    let mine := (s.ringX p r).role == 1 || (s.ringX p r).role == 2
    let onWay := st = 3 || st = 4 || (st = 1 && (s.ringX p r).goal = 3)
    if mine && onWay && s.ringF p r Rng.RING_STATE_LINE = l && !s.lineClaimed p l (s.ringPart p r) then
      (s.steerDrop p r 4).ringLeave p r 2
    else s)

end Sys2Proof.Machine
end

