-- ==== Sys2Proof/Machine/Launch.lean ====
section
/-! DEFINITION. The binding map (R19–R24), the launch table and its scan (R28–R31), completions (R32–R34) and the
release of a step fence (R36). -/
namespace Sys2Proof.Machine

/-! ### Sorting by a key -/

/-- Insert by a key, after equal keys. -/
def insKey {α : Type} (f : α → Nat) (x : α) : List α → List α
  | [] => [x]
  | y :: t => if f x < f y then x :: y :: t else y :: insKey f x t

/-- Sort by a key. -/
def sortKey {α : Type} (f : α → Nat) (l : List α) : List α := l.foldl (fun acc x => insKey f x acc) []

/-! ### Partitions on the device -/

/-- The partition is halted (Table 13.8). -/
def State.halted (s : State) (p : Nat) : Bool := s.flag .rc (Rc.RC_STATUS.sub 2 2) p

/-! ### The binding map (R19–R24) -/

def State.bindX (s : State) (cl : Nat) : BindX := tGet s.binds cl
def State.setBindX (s : State) (cl : Nat) (x : BindX) : State := { s with binds := tSet s.binds cl x }

/-- The page of a cluster numbered 4d + c. -/
def clPage (cl : Nat) : Page := .cluster (cl / 4) (cl % 4)

/-- Physical core of logical core `n` in a map. -/
def mapAt (m n : Nat) : Nat := m / 16 ^ n % 16

/-- The map with the entry of one logical core replaced. -/
def mapPut (m n p : Nat) : Nat := m - mapAt m n * 16 ^ n + p * 16 ^ n

/-- State of a physical core (Table 1.3): 0 BOUND, 1 STANDBY, 2 UNDER_TEST, 3 RETIRED. -/
def State.pcore (s : State) (cl p : Nat) : Nat := s.fld (clPage cl) ⟨0x10C, 2 * p + 1, 2 * p⟩

/-- The engines of a core that is neither BOUND nor under test are OFF (Table 5.7). -/
def State.setPcore (s : State) (cl p v : Nat) : State :=
  (s.setFld (clPage cl) ⟨0x10C, 2 * p + 1, 2 * p⟩ v).each (List.range 4) (fun e s =>
    s.setFld (.eng (cl / 4) (cl % 4) p e) Eng.ENG_STATUS_STATE (if v = 0 || v = 2 then 0 else 3))

/-- BIND_MAP of a cluster. -/
def State.bindMap (s : State) (cl : Nat) : Nat := s.fld (clPage cl) Cl.BIND_MAP

/-- The map that the launch scan sees: a change that is applied counts from its edge on, while its cores are still copied (R22). -/
def State.mapSeen (s : State) (cl : Nat) : Nat :=
  let x := s.bindX cl
  if x.copying.isEmpty then s.bindMap cl else x.goMap

/-- Logical cores 0–7 of a cluster that a map moves (R21). -/
def State.moved (s : State) (cl m : Nat) : List Nat :=
  (List.range 8).filter (fun n => mapAt m n != mapAt (s.bindMap cl) n)

/-- A map passes the cases of R21. -/
def State.mapValid (s : State) (cl m : Nat) : Bool :=
  let ns := List.range 8
  ns.all (fun n => mapAt m n ≤ 8 || mapAt m n == 15)
    && ns.all (fun n => ns.all (fun k => n == k || mapAt m n == 15 || mapAt m n != mapAt m k))
    && ns.all (fun n => mapAt m n == 15 || (s.pcore cl (mapAt m n) != 2 && s.pcore cl (mapAt m n) != 3))
    && (s.moved cl m).all (fun n => mapAt m n == 15 || s.pcore cl (mapAt m n) == 1)

/-- The map is refused: BIND_INVALID and event 0x1104. -/
def State.bindReject (s : State) (cl : Nat) : State :=
  (s.setErr (clPage cl) 0).event 0x1104 (upathCluster (cl / 4) (cl % 4))

/-- A binding change of the cluster is pending. -/
def State.bindPending (s : State) (cl : Nat) : Bool := s.flag (clPage cl) Cl.BIND_CTRL_PENDING

/-- ARM and PENDING together. -/
def State.setBindArm (s : State) (cl : Nat) (b : Bool) : State :=
  (s.setFld (clPage cl) Cl.BIND_CTRL_ARM (bool01 b)).setFld (clPage cl) Cl.BIND_CTRL_PENDING (bool01 b)

/-- Setting ARM (R21): the map and TEST_OUT are captured when they are valid. -/
def State.bindArm (s : State) (cl : Nat) : State :=
  let m := s.fld (clPage cl) Cl.BIND_NEXT
  if s.mapValid cl m then
    let s := s.setBindX cl { s.bindX cl with map := m, testOut := s.flag (clPage cl) Cl.BIND_CTRL_TEST_OUT }
    s.setBindArm cl true
  else s.bindReject cl

/-- A logical core runs a program. -/
def State.coreBusy (s : State) (lc : Nat) : Bool := (s.seq lc).st != 0

/-- The pages of a cluster's physical cores name the logical cores that they serve. -/
def State.bindSync (s : State) (cl : Nat) : State :=
  let m := s.bindMap cl
  let s := s.each (List.range 9) (fun p s =>
    let n := (List.range 8).find? (fun n => mapAt m n == p)
    let pg := Page.core (cl / 4) (cl % 4) p
    let s := s.setFld pg Cor.CORE_STATUS_LCORE (n.getD 0)
    let s := s.setFld pg Cor.CORE_STATUS_BOUND (bool01 n.isSome)
    if n.isSome then s
    else
      let s := s.setFld pg ⟨0x100, 7, 0⟩ 0
      ((s.setFld pg Cor.CORE_CTX 0).setFld pg Cor.CORE_PART 0).each (List.range 4) (fun e s =>
        s.setFld (.eng (cl / 4) (cl % 4) p e) Eng.ENG_STATUS_STATE (if s.pcore cl p = 2 then 0 else 3)))
  let s := s.setFld (clPage cl) Cl.STATUS_CL_DEGRADED (bool01 ((List.range 8).any (fun n => mapAt m n == 15)))
  s.each (List.range 8) (fun n s => s.coreSync (cl * 8 + n))

/-- The tile memory of logical core `n` as it stood is left in the core that the change frees (R22). -/
def State.copyTile (s : State) (cl n : Nat) : State :=
  let a := sramKey (cl * clusterSpan + n * 16777216)
  let b := sramKey (cl * clusterSpan + 8 * 16777216)
  let here := s.mem.filter (fun e => decide (a ≤ e.1) && decide (e.1 < a + 16777216))
  let s := { s with mem := s.mem.filter (fun e => !(decide (b ≤ e.1) && decide (e.1 < b + 16777216))) }
  here.foldl (fun s e => s.setByte (e.1 - a + b) e.2) s

/-- Steps 3 and 4 of R22. -/
def State.bindFinish (s : State) (cl : Nat) : State :=
  let x := s.bindX cl
  let old := s.bindMap cl
  let m := x.goMap
  let s := s.each (List.range 8) (fun n s =>
    let p := mapAt old n
    if p < 9 && !(List.range 8).any (fun k => mapAt m k == p) then s.setPcore cl p (if x.goTest then 2 else 1) else s)
  let s := s.each (List.range 8) (fun n s => if mapAt m n < 9 then s.setPcore cl (mapAt m n) 0 else s)
  let s := s.each x.copying (fun n s => if mapAt old n < 9 then s.copyTile cl n else s)
  let s := s.setFld (clPage cl) Cl.BIND_MAP m
  let s := s.bump (clPage cl) Cl.BIND_SEQ
  let s := s.setFld64 (clPage cl) Cl.BIND_TICK_LO s.tick
  let s := s.setBindX cl { x with goMap := 0, goTest := false, copying := [], fence := none }
  (s.bindSync cl).event 0x1105 (upathCluster (cl / 4) (cl % 4))

/-- R22: the captured map is validated again and the copy of the moved cores begins; the flag says that one runs. -/
def State.bindApply (s : State) (cl : Nat) (fence : Option Nat) : State × Bool :=
  let x := s.bindX cl
  let s := s.setBindArm cl false
  if s.mapValid cl x.map then
    let mv := s.moved cl x.map
    let s := s.setBindX cl { x with goMap := x.map, goTest := x.testOut, copying := mv, fence := fence }
    if mv.isEmpty then (s.bindFinish cl, false) else (s, true)
  else (s.bindReject cl, false)

/-- A copy of the cluster's cores is under way. -/
def State.bindBusy (s : State) (cl : Nat) : Bool := !(s.bindX cl).copying.isEmpty

/-- Pending changes whose moved cores run no program apply at a tick edge, before the launch scan (R21, R22). DESIGN CHOICE (log
entry 84): a change that was armed while an earlier change of the cluster is still copied was validated against the map and core
states then in effect, and waits here until that copy has ended. -/
def State.bindEdge (s : State) : State :=
  s.each (List.range 8) (fun cl s =>
    if s.bindPending cl && !s.bindBusy cl
        && (s.moved cl (s.bindX cl).map).all (fun n => !s.coreBusy (cl * 8 + n)) then
      (s.bindApply cl none).1
    else s)

/-- A core has arrived at its partition's fence. -/
def State.atFence (s : State) (lc : Nat) : Bool := (s.seq lc).st == 1 && (s.seq lc).infl.any (fun i => i.wait == some .fence)

/-- A pending change of the cluster that a fence of the partition applies (R21): every moved core that runs a program runs one of
the partition, and is held there where `held`. -/
def State.bindFenced (s : State) (part cl : Nat) (held : Bool) : Bool :=
  s.bindPending cl && !s.bindBusy cl &&
    (s.moved cl (s.bindX cl).map).all (fun n =>
      let lc := cl * 8 + n
      !s.coreBusy lc || (s.partOf lc == part && (!held || s.atFence lc)))

/-- STEP_ACTIONS[1] (Table 1.12): a pending change that a fence of the partition would apply. -/
def State.bindDueAt (s : State) (part : Nat) : Bool := (List.range 8).any (fun cl => s.bindFenced part cl false)

/-- Set STEP_ACTIONS[1] of every partition that runs. -/
def State.bindActions (s : State) : State :=
  s.each ((List.range 64).filter (fun lc => s.coreBusy lc)) (fun lc s =>
    s.setFld .stp (Stp.STEP_ACTIONS.sub 1 1) (bool01 (s.bindDueAt (s.partOf lc))) (s.partOf lc))

/-- BIND_ARM (R21): a write of BIND_CTRL with ARM set. -/
def execBindArm (m : Master) (d c : Nat) (testOut : Bool) (s : State) : Host.Outcome State Fault Refusal :=
  .next (s.gated m (.cluster d c) (fun s =>
    ((s.setFld (.cluster d c) Cl.BIND_CTRL_TEST_OUT (bool01 testOut)).bindArm (4 * d + c)).bindActions))

/-! ### Release of a step fence (R36) -/

/-- The cores held at a fence are released once no action stops compute. -/
def State.fenceRelease (s : State) (part ns : Nat) : State :=
  if (tGet s.fences part).copying.isEmpty then
    let s := { s with fences := smDel s.fences part }
    let s := s.setFld .stp Stp.STEP_DUR ns part
    s.each s.seqs (fun e s =>
      if (s.prog e.2.slot).part = part then
        s.each e.2.infl (fun i s => if i.wait = some .fence then s.waitDone e.1 i.id else s)
      else s)
  else s

/-! ### Writes of the launch table (R28–R30) -/

/-- The master owns the slot (Table 1.5). -/
def slotOwned (m : Master) (n : Nat) : Bool :=
  match m with
  | .host => decide (n < 2048)
  | .mgmt => decide (2048 ≤ n) && decide (n < 4096)
  | .fw => false

/-- A write of the first eight bytes of a slot: STATE is accepted by the table of R30. -/
def State.lchState (s : State) (n : Nat) (w : DWord) : State :=
  let x := s.slot n
  let v := w.toNat % 256
  let cur := x.state
  if v = 1 && (cur = 0 || cur = 4) then
    s.setSlot n { x with w0 := w, seen := false, late := false, waitTick := 0, near := false }
  else if (v = 5 && (cur = 1 || cur = 2)) || (v = 0 && cur != 3) then
    (s.setSlot n (x.withState v)).lchSync (decide (n < 2048))
  else s.event 0x1102

/-- A write of one of bytes 0x08–0x3F, by 64-bit word 1–7 (R30). -/
def Slot.setWord (x : Slot) (i : Nat) (w : DWord) : Slot :=
  match i with
  | 0 => { x with w0 := w }
  | 1 => { x with prog := w }
  | 2 => { x with start := w }
  | 3 => { x with w3 := w }
  | 4 => { x with w4 := w }
  | 5 => { x with arg0 := w }
  | 6 => { x with arg1 := w }
  | _ => { x with arg2 := w }

def Slot.word (x : Slot) (i : Nat) : DWord :=
  match i with
  | 0 => x.w0
  | 1 => x.prog
  | 2 => x.start
  | 3 => x.w3
  | 4 => x.w4
  | 5 => x.arg0
  | 6 => x.arg1
  | _ => x.arg2

/-- A 4-byte or 8-byte write merged into a 64-bit word at byte `o` of it. -/
def mergeWord (old : DWord) (o size v : Nat) : DWord :=
  if size = 8 then BitVec.ofNat 64 v
  else if o = 0 then BitVec.ofNat 64 (old.toNat / 2 ^ 32 * 2 ^ 32 + v % 2 ^ 32)
  else BitVec.ofNat 64 (old.toNat % 2 ^ 32 + v % 2 ^ 32 * 2 ^ 32)

/-- A write of 4 or 8 bytes at byte `off` of a launch slot (R28, R30, R510). DESIGN CHOICE (log entry 85): a 4-byte write of bytes
0x04–0x07 alone, the SEQ half of the first word, is no STATE write; it follows the rule of bytes 0x08–0x3F. -/
def State.lchWrite (s : State) (m : Master) (n off size v : Nat) : State :=
  if !s.answers .lchHost then s
  else if !slotOwned m n then s.event 0x1102
  else
    let x := s.slot n
    let w := mergeWord (x.word (off / 8)) (off % 8) size v
    if off = 0 then s.lchState n w
    else if x.state = 0 || x.state = 4 then s.setSlot n (x.setWord (off / 8) w)
    else s.event 0x1102

/-- LAUNCH_POST (R30): the 8-byte write carries IRQ, LATE_REJECT, the reserved bits and SEQ in `w` above STATE; it completes
`ns` into its tick. An accepted post within NEAR_NS of a tick boundary is counted, and the event of the entry's decision carries the
near-boundary flag (R328). -/
def execLaunchPost (m : Master) (n : Nat) (w : DWord) (ns : Nat) (s : State) : Host.Outcome State Fault Refusal :=
  let lim := s.fld .time Tim.TIM_CFG_NEAR_NS
  let near := decide (ns ≤ lim) || decide (10000 ≤ ns + lim)
  let s' := s.lchWrite m n 0 8 (w.toNat / 256 * 256 + 1)
  let taken := s.answers .lchHost && slotOwned m n && ((s.slot n).state == 0 || (s.slot n).state == 4)
  .next (if near && taken then (s'.setSlot n { s'.slot n with near := true }).bump .time Tim.NEAR_CNT else s')

/-- LAUNCH_CANCEL (R30). -/
def execLaunchCancel (m : Master) (n : Nat) (s : State) : Host.Outcome State Fault Refusal := .next (s.lchWrite m n 0 8 5)

/-- LAUNCH_EMPTY (R30). -/
def execLaunchEmpty (m : Master) (n : Nat) (s : State) : Host.Outcome State Fault Refusal := .next (s.lchWrite m n 0 8 0)

/-- LAUNCH_ENTRY_WRITE (R30). -/
def execLaunchEntryWrite (m : Master) (n off : Nat) (wide : Bool) (v : DWord) (s : State) :
    Host.Outcome State Fault Refusal :=
  .next (s.lchWrite m n off (if wide then 8 else 4) v.toNat)

/-! ### The scan (R31) -/

/-- A target core is running, held by a binding copy, or in reset (Table 1.7, R22, R435). -/
def State.coreTaken (s : State) (lc : Nat) : Bool :=
  s.coreBusy lc || (s.bindX (lc / 8)).copying.contains (lc % 8) || s.unitDown (lc / 8) (s.physOf lc)

/-- The status with which a due entry completes, by the rows of Table 1.7 before the target cores are considered. -/
def State.scanStatus (s : State) (x : Slot) (first : Bool) : Option Nat :=
  let t := s.tick
  let own := s.sealOf x.part
  if x.state = 5 then some 4
  else if x.reserved || x.prog.toNat % 64 ≠ 0 || x.targets.isEmpty || !s.ownSealOk x.part x.prog.toNat 64 then some 5
  else if s.partState x.part ≠ 3 || s.halted x.part then some 7
  else if s.ctxState x.ctx ≠ 1 || s.ctxPart x.ctx ≠ x.part || s.ctxGen x.ctx ≠ x.gen then some 6
  else if x.targets.any (fun lc => mapAt (s.mapSeen (lc / 8)) (lc % 8) == 15)
      || x.targets.any (fun lc => s.seals.any (fun e => e.1 != x.part && e.2.closed && bitAt e.2.mask (lc / 8)))
      || (own.closed && x.targets.any (fun lc => !bitAt own.mask (lc / 8))) then some 8
  else if first && x.lateReject && decide (x.start.toNat < t) then some 2
  else if x.state = 2 && x.maxWait ≠ 0 && decide (x.maxWait ≤ t - x.waitTick) then some 3
  else none

/-- A path of Table 17.5 that the entry met (R491). -/
def State.scanSeal (s : State) (x : Slot) (status : Nat) : State :=
  if status = 5 && !s.ownSealOk x.part x.prog.toNat 64 then s.sealBlock 5
  else if status = 8 then
    if x.targets.any (fun lc => s.seals.any (fun e => e.1 != x.part && e.2.closed && bitAt e.2.mask (lc / 8))) then s.sealBlock 6
    else if (s.sealOf x.part).closed && x.targets.any (fun lc => !bitAt (s.sealOf x.part).mask (lc / 8)) then s.sealBlock 7
    else s
  else s

/-- An entry starts: its target cores run from PROG_ADDR. -/
def State.launch (s : State) (n : Nat) (x : Slot) : State :=
  let s := s.setSlot n { x.withState 3 with near := false }
  let s := s.setProg n { active := true, ctx := x.ctx, gen := x.gen, part := x.part, cores := x.targets, startAct := s.tick }
  let s := s.modPartX x.part (fun p => { p with started := true })
  let s := if x.late then s.bump (lchPage n) Lch.LCH_LATE_CNT else s
  s.each x.targets (fun lc s =>
    (s.setSeq lc { st := 1, slot := n, pc := x.prog.toNat, nextId := (s.seq lc).nextId, lastDone := s.tick }).coreSync lc)

/-- One due entry; `taken` holds the target cores that earlier WAITING entries reserve. -/
def State.scanOne (acc : State × List Nat) (n : Nat) : State × List Nat :=
  let (s, taken) := acc
  let x := s.slot n
  let first := !x.seen
  let x := { x with seen := true, late := x.late || (first && decide (x.start.toNat < s.tick)) }
  match s.scanStatus x first with
  | some st =>
    let s := (s.setSlot n (x.withState 3)).scanSeal x st
    (s.complete n st 0 0 false, taken)
  | none =>
    if x.targets.any (fun lc => s.coreTaken lc || taken.contains lc) then
      (s.setSlot n { x.withState 2 with waitTick := if x.state = 2 then x.waitTick else s.tick }, taken ++ x.targets)
    else (s.launch n x, taken)

/-- The launch scan of a tick (R31): entries of masters whose SCAN_EN is set, due ones in order of START_TICK and slot. -/
def State.launchScan (s : State) : State :=
  let on := fun n => s.flag (lchPage n) Lch.LCH_CTRL_SCAN_EN
  let open_ := s.slots.filter (fun e => on e.1 && (e.2.state == 1 || e.2.state == 2 || e.2.state == 5))
  let due := open_.filter (fun e => e.2.state == 5 || decide (e.2.start.toNat ≤ s.tick))
  let early := open_.filter (fun e => !(e.2.state == 5 || decide (e.2.start.toNat ≤ s.tick)))
  let s := s.each early (fun e s => s.setSlot e.1 { e.2 with seen := true })
  let order := (sortKey (fun e : Nat × Slot => e.2.start.toNat * 4096 + e.1) due).map (·.1)
  let s := (order.foldl State.scanOne (s, [])).1
  ((s.lchSync true).lchSync false).bindActions

/-- Posted entries whose START_TICK a forward step of the time base skips (R25): they will complete with LATE set. -/
def State.scanSkip (s : State) (old new : Nat) : State :=
  s.each s.slots (fun e s =>
    if e.2.state = 1 && e.2.seen && decide (old < e.2.start.toNat) && decide (e.2.start.toNat < new) then
      s.setSlot e.1 { e.2 with late := true }
    else s)

/-! ### Completion (R32, R33) -/

/-- Every target core has reached the end of its stream and its writes are visible. -/
def State.progFinished (s : State) (p : Prog) : Bool :=
  p.cores.all (fun lc => (s.seq lc).st == 2 && (s.seq lc).infl.isEmpty && !s.outst.any (fun o => o.lc == lc)
    && !s.taps.any (fun t => t.lc == lc))

/-- Every target core has stopped, or its reset is over (R435). -/
def State.progStopped (s : State) (p : Prog) : Bool :=
  p.cores.all (fun lc => !s.unitDown (lc / 8) (s.physOf lc))

/-- PROGRAM_COMPLETE (R32): the writes of a program that was ended are fenced, and the completion is decided. -/
def execProgramComplete (n : Nat) (s : State) : Host.Outcome State Fault Refusal :=
  let p := s.prog n
  let ready := match p.ended with
    | none => s.progFinished p
    | some _ => s.progStopped p
  if p.active && ready then
    let last := if p.ended.isSome then p.lastDesc else s.progLast p
    let late := (s.slot n).late
    let s := { s with outst := s.outst.filter (fun o => !p.cores.contains o.lc),
                      taps := s.taps.filter (fun t => !p.cores.contains t.lc) }
    let s := s.each p.cores (fun lc s => (s.setSeq lc { nextId := (s.seq lc).nextId }).coreSync lc)
    let s := s.setProg n {}
    .next ((s.complete n (p.ended.getD 0) p.startAct last late).lchSync (decide (n < 2048))).bindActions
  else .next s

/-- A write of CPL_CONS (R33): the entries that the consumer has passed are free. -/
def State.cplCons (s : State) (host : Bool) (v : Nat) : State :=
  let pg := if host then Page.lchHost else .lchMgt
  let old := s.fld pg (Lch.CPL_CONS.sub 11 0)
  let new := v % 4096
  let used := if host then s.usedH else s.usedM
  let adv := (new + 4096 - old) % 4096
  let left := if adv ≤ used then used - adv else (s.fld pg (Lch.CPL_PROD.sub 11 0) + 4096 - new) % 4096
  let s := s.setFld pg (Lch.CPL_CONS.sub 11 0) new
  let s := if host then { s with usedH := min 4096 left } else { s with usedM := min 4096 left }
  (s.releaseHeld host (s.heldH.length + s.heldM.length)).lchSync host

/-- CPL_CONS_WRITE (R33): in the launch control page of the host or of management. -/
def execCplConsWrite (m : Master) (host : Bool) (v : Word) (s : State) : Host.Outcome State Fault Refusal :=
  .next (s.gated m (if host then .lchHost else .lchMgt) (fun s => s.cplCons host v.toNat))

end Sys2Proof.Machine
end

