-- ==== Sys2Proof/Machine/PartOps.lean ====
section
/-! DEFINITION. Shared operations of partitions: the teardown of a context (R350), YOYO flits (R356), the lines of a partition
(R343–R347), the retire barrier (R351) and the return to FREE (R338, R488, R492). -/
namespace Sys2Proof.Machine

/-! ### Partition state (R338) -/

/-- Input current in mA and voltage in mV, as last measured (Table 18.15). -/
def State.inputMa (s : State) : Nat := s.fld .pwr Pwr.IIN
def State.inputMv (s : State) : Nat := s.fld .pwr Pwr.VIN

/-- A partition changes state: event 0x6100 with the old and the new one. -/
def State.setPart (s : State) (p new : Nat) : State :=
  let old := s.partState p
  (s.setFld .part Par.PART_STATUS_STATE new p).event 0x6100 0 [(2, p), (1, old), (1, new)]

/-- A partition command is rejected with a cause of Table 12.7. -/
def State.partReject (s : State) (p cause : Nat) : State :=
  (s.setFld .part Par.PART_STATUS_LAST_REJ cause p).event 0x6101 0 [(2, p), (2, cause)]

/-- Job partitions that are not FREE, ascending. -/
def State.partsHeld (s : State) : List Nat :=
  sortNat ((s.regs.filter (fun e => regAddr e.1 == Page.part.base + 0x108 && e.2.toNat % 8 != 0)).map (fun e => regBank e.1))

/-- PART_HELD. -/
def State.partHeldSync (s : State) : State := s.setFld .part Par.PART_HELD s.partsHeld.length

/-! ### Teardown of a context (R350) -/

/-- End the programs that satisfy `p` with a completion status. -/
def State.endPrograms (s : State) (status : Nat) (p : Nat → Prog → Bool) : State :=
  s.each (s.progs.filter (fun e => e.2.active && p e.1 e.2)) (fun e s =>
    s.endProgram e.1 status (s.progLast e.2))

/-- Contexts BOUND on the device. -/
def State.ctxCountSync (s : State) : State :=
  s.setFld .ctx (Ctx.CTX_BOUND_CNT.sub 13 0)
    (s.regs.filter (fun e => regAddr e.1 == Page.ctx.base + 0x10C && e.2.toNat % 4 == 1)).length

/-- Steps 1–3 of R350: the generation advances, programs and NMU commands of the old one end, and its memory regions are
disabled (R177). -/
def State.ctxTear (s : State) (c : Nat) : State :=
  let g := s.ctxGen c
  let s := s.setFld .ctx Ctx.CTX_PREV_GEN (g + 256) c
  let s := s.setFld .ctx (Ctx.CTX_STATE.sub 15 8) ((g + 1) % 256) c
  let s := s.setFld .ctx (Ctx.CTX_STATE.sub 1 0) 2 c
  let s := s.endPrograms 9 (fun _ p => p.ctx == c)
  let s := s.each (List.range 12) (fun k s => s.nmuTeardown k (fun n => n.ctx == c && n.gen == g && n.purpose == 0))
  let s := { s with outst := s.outst.filter (fun o =>
    let q := s.seq o.lc
    !((s.prog q.slot).ctx == c && (s.prog q.slot).ended.isSome)) }
  ((s.rcrContext c).collPurge).ctxCountSync

/-- Contexts of a partition that are BOUND or RETIRING. -/
def State.ctxsOf (s : State) (p : Nat) : List Nat :=
  sortNat ((s.regs.filter (fun e => regAddr e.1 == Page.ctx.base + 0x10C && e.2.toNat % 4 != 0
    && bitsOf e.2.toNat 27 16 == p)).map (fun e => regBank e.1))

/-- A context becomes IDLE; it keeps its generation. -/
def State.ctxIdle (s : State) (c : Nat) : State :=
  (s.setFld .ctx (Ctx.CTX_STATE.sub 1 0) 0 c).ctxCountSync

/-! ### YOYO flits (R356) -/

/-- Bundles that are UP, ascending. -/
def State.upBundles (s : State) : List Nat := (List.range 64).filter s.bndUp

/-- A digest field: bytes 0–7 of the digest of a scope. -/
def State.digField (s : State) (p : Nat) : Nat := s.fld64 .ep (Ep.DIGEST 0) p

/-- An entry of a YOYO. -/
def State.yoyoEntry (s : State) (p : Nat) : YoyoEntry :=
  { part := p, state := s.partState p, pend := s.fld .ep (Ep.EP_STATUS.sub 0 0) p == 1,
    dpend := s.fld .ep (Ep.EP_STATUS.sub 1 1) p == 1, conflict := s.fld .ep (Ep.EP_STATUS.sub 2 2) p == 1,
    epoch := s.fld64 .ep Ep.EP_CUR_LO p, digest := s.digField p }

/-- Send a YOYO on every UP bundle, with the scopes named after partition 0. -/
def State.yoyoSend (s : State) (parts : List Nat) (mark ack : Bool := false) (markPart : Nat := 0) : State :=
  let es := ((0 :: parts.filter (· != 0)).take 10).map s.yoyoEntry
  s.each s.upBundles (fun b s =>
    s.sendBundle b (.yoyo { chip := s.chip, bundle := b, tick := s.tick, mark := mark, ack := ack, markPart := markPart,
                            entries := es }))

/-- The next nine partitions after the last that a YOYO named, in a circle. -/
def State.yoyoNext (s : State) : List Nat :=
  let l := s.partsHeld
  ((l.filter (fun p => s.yoyoCur < p)) ++ (l.filter (fun p => p ≤ s.yoyoCur))).take 9

/-! ### Lines (R343–R347) -/

def State.lineX (s : State) (p l : Nat) : LineX := tGet s.lineXs (lineBank p l)
def State.modLine (s : State) (p l : Nat) (f : LineX → LineX) : State :=
  { s with lineXs := tMod s.lineXs (lineBank p l) f }

/-- State of a line (Table 12.9): 0 FREE, 1 OFFERED, 2 CLAIMED, 3 RELEASING; and its partition. -/
def State.lineSt (s : State) (p l : Nat) : Nat := s.fld .line (Lin.LINE_STATE.sub 2 0) (lineBank p l)
def State.linePart (s : State) (p l : Nat) : Nat := s.fld .line (Lin.LINE_STATE.sub 19 8) (lineBank p l)

/-- A line takes a state and a partition; a FREE line names none. -/
def State.setLine (s : State) (p l st part : Nat) : State :=
  let b := lineBank p l
  let s := s.setFld .line (Lin.LINE_STATE.sub 2 0) st b
  let s := s.setFld .line (Lin.LINE_STATE.sub 3 3) 0 b
  let s := s.setFld .line (Lin.LINE_STATE.sub 19 8) (if st = 0 then 0 else part) b
  let s := s.modLine p l (fun x => if st = 0 then { tag := x.tag } else { x with since := 0, noted := false })
  s.lineChanged p l

/-- Lines that are not FREE: port and line. -/
def State.linesHeld (s : State) : List (Nat × Nat) :=
  (s.regs.filter (fun e => regAddr e.1 == Page.line.base + 0x108 && e.2.toNat % 8 != 0)).map
    (fun e => (regBank e.1 % 32 + 8, regBank e.1 / 32))

/-- The record of a port in CURRENT, or in NEXT when CURRENT has none: the buffer and its place (R344). -/
def State.portRec (s : State) (p : Nat) : Option (SMap Nat × Nat) :=
  match (if s.plan.has then planRec s.plan.cur p else none) with
  | some o => some (s.plan.cur, o)
  | none => (planRec s.plan.next p).map (fun o => (s.plan.next, o))

/-- The chip that a line reaches (R344). -/
def State.lineChip (s : State) (p l : Nat) : Option Nat :=
  (s.portRec p).map (fun r => planMap r.1 r.2 ((planInput r.1 r.2 + l) % 32))

/-- The own port on a plane, in CURRENT or else NEXT (R345). -/
def State.planePort (s : State) (plane : Nat) : Option (Nat × SMap Nat × Nat) :=
  let find := fun (b : SMap Nat) =>
    (planPorts b).findSome? (fun p => match planRec b p with
      | some o => if planPlane b o = plane then some (p, b, o) else none
      | none => none)
  match (if s.plan.has then find s.plan.cur else none) with
  | some r => some r
  | none => find s.plan.next

/-- Send a LINE_CLAIM message (Table 12.2) about line `l` of port `p`. -/
def State.lineSend (s : State) (p l dest op cause tag part : Nat) : State :=
  let (plane, input) := match s.portRec p with
    | some r => (planPlane r.1 r.2, planInput r.1 r.2)
    | none => (0, 0)
  s.sendMg dest (.line op cause tag s.chip part plane input l)

/-- A line becomes CLAIMED (R345): event 0x6108. -/
def State.lineClaim (s : State) (p l part chip : Nat) : State :=
  let s := s.setLine p l 2 part
  let s := s.setFld .line (Lin.LINE_PEER.sub 15 0) chip (lineBank p l)
  (s.bump .line Lin.CLAIM_CNT).event 0x6108 (srcPort p) [(1, p), (1, l), (2, part)]

/-- A claim is refused with a cause of Table 12.2, or 5 TIMEOUT: event 0x6109. -/
def State.lineRefuse (s : State) (p l cause : Nat) : State :=
  let s := s.setFld .line (Lin.LINE_STATE.sub 7 4) cause (lineBank p l)
  (s.bump .line Lin.CLAIM_NAK_CNT).event 0x6109 (srcPort p) [(1, p), (1, l), (2, cause)]

/-- A CLAIMED line becomes RELEASING and REL is sent (R347). -/
def State.lineRelease (s : State) (p l : Nat) : State :=
  if s.lineSt p l = 2 then
    let part := s.linePart p l
    let tag := (s.lineTag + 1) % 65536
    let s := { s with lineTag := tag }
    let s := (s.setLine p l 3 part).modLine p l (fun x => { x with tag := tag, sentTick := s.tick })
    match s.lineChip p l with
    | some c => s.lineSend p l c 4 0 tag part
    | none => s
  else s

/-- REL is repeated at every tick edge after a REL_WAIT (R347). -/
def State.lineEdge (s : State) : State :=
  s.each s.linesHeld (fun e s =>
    let (p, l) := e
    let x := s.lineX p l
    if s.lineSt p l = 3 && x.relWait then
      let s := s.modLine p l (fun x => { x with relWait := false })
      match s.lineChip p l with
      | some c => s.lineSend p l c 4 0 x.tag (s.linePart p l)
      | none => s
    else if s.lineSt p l = 2 && x.since = 0 && s.fld .line (Lin.LINE_STATE.sub 3 3) (lineBank p l) = 0
        && (List.range 12).any (fun r => ((s.ringX p r).role == 1 || (s.ringX p r).role == 2)
              && s.ringF p r Rng.RING_STATE_LINE == l) then
      s.modLine p l (fun x => { x with since := s.tick + 1 })
    else s)

/-- A HEARTBEAT on the pair of a line passes the identity check (R346). -/
def State.lineConfirm (s : State) (p l port : Nat) : State :=
  if s.lineSt p l = 2 then
    let s := s.setFld .line (Lin.LINE_STATE.sub 3 3) 1 (lineBank p l)
    s.setFld .line (Lin.LINE_PEER.sub 20 16) port (lineBank p l)
  else s

/-! ### The return to FREE (R338, R488, R492) -/

/-- The slot, seed, digest key, bundle mask and link keys of a partition are cleared (Table 12.1, R488). -/
def State.partClear (s : State) (p : Nat) : State :=
  let slot := s.fld .part Par.PART_STATUS_SLOT p
  let rt := fun k => regAddr k == Page.rt.base + 0x12C && regBank k / 16384 == slot
  let s := { s with regs := s.regs.filter (fun e => !rt e.1), shadow := s.shadow.filter (fun e => !rt e.1) }
  let s := s.setFld .rt Rt.RNK_SLOT_PART 0 slot
  let s := { s with shadow := s.shadow.filter (fun e => s.scopeOf e.1 != p && e.1 != regKey .rt 0x124 slot) }
  let s := (s.setFld64 .ari Ari.SEED_0 0 p).setFld64 .ari Ari.SEED_2 0 p
  let s := (s.setFld64 (.nmu 0) Nmu.DIG_KEY_0 0 p).setFld64 (.nmu 0) Nmu.DIG_KEY_2 0 p
  let s := s.setFld64 .part Par.PART_BND_LO 0 p
  let s := (s.setFld64 .part Par.PART_START_LO 0 p).setFld64 .part Par.PART_DRAIN_LO 0 p
  let s := s.each [0, 1] (fun ph s =>
    { s.setFld (.cry 0) Cry.KEY_STATUS 0 (keyBank p ph) with keys := smDel s.keys (keyBank p ph) })
  { s with parts := tSet s.parts p {}, ct := smDel s.ct p }

/-- The key registers of a partition (Table 17.9). It stays sealed until it is FREE (R489), while it is cleared too. -/
def State.keySync (s : State) (p : Nat) : State :=
  let j : JobKey := tGet s.jobKeys p
  let x := s.sealOf p
  let s := s.setFld .sec Sec.KEY_STATE (bool01 (!j.key.isEmpty) + bool01 (s.decap.any (fun e => e.part == p)) * 2
    + bool01 (decide (2 ≤ x.st)) * 4 + bool01 (x.st == 3) * 8) p
  let s := s.setFld .sec Sec.KEY_IDX_MAX (j.index.getD 0) p
  let s := s.setFld .sec Sec.LOAD_CNT (j.loadCnt.getD 0 % 2 ^ 32) p
  let s := s.setFld .sec Sec.SEC_STATUS_SEALED (s.seals.filter (fun e => decide (2 ≤ e.2.st))).length
  if p = 0 then s.setFld .mgt (Mgt.MGT_STATUS.sub 12 12) (bool01 (!j.key.isEmpty)) else s

/-- A RETIRED partition whose last line is FREE and whose clearing is done becomes FREE; a sealed one is cleared first. -/
def State.partFreeCheck (s : State) (p : Nat) : State :=
  if s.partState p = 5 && !s.linesHeld.any (fun e => s.linePart e.1 e.2 == p) then
    let x := s.sealOf p
    if x.st = 0 then
      let s := (s.partClear p).setPart p 0
      let s := s.event 0xA10C 0 [(2, p)]
      { s.partHeldSync with jobKeys := s.jobKeys.filter (fun e => e.1 != p),
                            decap := s.decap.filter (fun e => e.part != p) }.keySync p
    else { s with seals := tSet s.seals p { x with st := 3 } }.keySync p
  else s

/-- A line becomes FREE by a release: event 0x610A (R347). -/
def State.lineFreed (s : State) (p l : Nat) : State :=
  let part := s.linePart p l
  let s := (s.setLine p l 0 0).event 0x610A (srcPort p) [(1, p), (1, l), (2, part)]
  s.partFreeCheck part

/-- Zero the tile and cluster memory of a cluster. -/
def State.zeroCluster (s : State) (cl : Nat) : State :=
  let a := sramKey (cl * clusterSpan)
  { s with mem := s.mem.filter (fun e => !(decide (a ≤ e.1) && decide (e.1 < a + clusterSpan))) }

/-! ### The retire barrier (R351) -/

/-- Step 2: RETIRE_MARK on every UP bundle. -/
def State.barrierMark (s : State) (p : Nat) : State :=
  let s := s.yoyoSend [p] true false p
  s.modPartX p (fun x => { x with marks := some s.upBundles, markTick := s.tick })

/-- Discard the armed activation of a scope: event 0x6113 (R351, R353). -/
def State.epDiscard (s : State) (p : Nat) : State :=
  if s.fld .ep (Ep.EP_STATUS.sub 0 0) p = 1 then
    ({ s.setFld .ep (Ep.EP_STATUS.sub 0 0) 0 p with eps := tMod s.eps p (fun x => { x with next := 0, at_ := 0, step := false }) }).event
      0x6113 0 [(2, p)]
  else s

/-- Step 1, and step 2 where no teardown is awaited. -/
def State.barrierStart (s : State) (p : Nat) : State :=
  let s := s.setFld .part Par.PART_STATUS_BARRIER 1 p
  let s := s.setFld .part Par.PART_STATUS_BY_BOUND 0 p
  let cs := s.ctxsOf p
  let own := cs.filter (fun c => s.ctxState c == 2)
  let s := s.each (cs.filter (fun c => s.ctxState c == 1)) (fun c s => s.ctxTear c)
  let s := if (List.range 12).any (fun k => s.matActive k && (s.mat k).part == p) then s.snapAbort else s
  let s := s.epDiscard p
  let s := (s.ckAbort p 6 true).rcCancel p
  let s := s.modPartX p (fun x => { x with tearing := cs, ownTear := own })
  if cs.isEmpty then s.barrierMark p else s

/-- The barrier is complete (Table 12.1, R492): contexts IDLE, the partition RETIRED. -/
def State.barrierEnd (s : State) (p ns : Nat) : State :=
  let s := s.each (s.ctxsOf p) (fun c s => s.ctxIdle c)
  let s := s.modPartX p (fun x => { x with marks := none, tearing := [], ownTear := [] })
  let s := s.setFld .part Par.PART_STATUS_BARRIER 0 p
  let s := s.setFld .part Par.RETIRE_NS ns p
  let x := s.sealOf p
  let s := if x.st = 0 then s else s.each ((List.range 8).filter (bitAt x.mask)) (fun cl s => s.zeroCluster cl)
  s.setPart p 5

end Sys2Proof.Machine
end

