-- ==== Sys2Proof/Machine/Epoch.lean ====
section
/-! DEFINITION. Configuration epochs (R352–R358): arming, activation, the canonical image and its digest, and the comparison
of YOYO flits. -/
namespace Sys2Proof.Machine

/-! ### The canonical image (R355) -/

/-- A record of the image: field ID, index and value. -/
abbrev ImgRec := Nat × Nat × Nat

/-- Registers of a page offset, by bank and value, in the banks that `f` keeps. -/
def State.banked (s : State) (pg : Page) (off : Nat) : List (Nat × Nat) :=
  (s.regs.filter (fun e => regAddr e.1 == pg.base + off)).map (fun e => (regBank e.1, e.2.toNat))

/-- The in-image fields of a scope with a record, by field ID and index (Table 12.3). -/
def State.imgRecs (s : State) (p : Nat) : List ImgRec :=
  let nz := fun (l : List ImgRec) => l.filter (fun r => r.2.2 != 0)
  if p = 0 then
    nz [(0x0101, 0, s.fld .rt (Rt.RT_CTRL.sub 2 0))]
      ++ nz ((List.range 4).map (fun i => (0x0102, i, s.fld .rt ((Rt.DIM i).sub 8 0))))
      ++ ((s.banked .rt 0x11C).filter (fun e => bitAt e.2 16)).map (fun e => (0x0103, e.1, bitsOf (s.frt e.1) 47 16))
      ++ nz [(0x0104, 0, s.txPhase 0)]
  else
    let slot := s.fld .part Par.PART_STATUS_SLOT p
    nz ((List.range 4).map (fun i => (0x0001, i, s.fld .ari ⟨Ari.SEED_0.off + 4 * i, 31, 0⟩ p)))
      ++ nz ((List.range 4).map (fun i => (0x0002, i, s.fld (.nmu 0) ⟨Nmu.DIG_KEY_0.off + 4 * i, 31, 0⟩ p)))
      ++ nz [(0x0003, 0, s.txPhase p)]
      ++ nz (((s.banked .rt 0x12C).filter (fun e => e.1 / 16384 == slot)).map (fun e => (0x0004, e.1 % 16384, e.2)))

/-- The canonical image of a scope in effect. -/
def State.image (s : State) (p : Nat) : List Byte :=
  bytesLE 2 p ++ bytesLE 6 0 ++ bytesLE 8 (s.fld64 .ep Ep.EP_CUR_LO p)
    ++ (s.imgRecs p).flatMap (fun r => bytesLE 2 r.1 ++ bytesLE 2 r.2.1 ++ bytesLE 4 r.2.2)

/-- A read of IMG_DATA (R364): the word at IMG_OFF, and IMG_OFF moves on. -/
def State.imgRead (s : State) : State × Nat :=
  let p := s.fld .ep (Ep.EP_SEL.sub 11 0)
  let o := s.fld .ep (Ep.IMG_OFF.sub 19 0)
  let w := natLE (((s.image p).drop o).take 4)
  ((s.setFld .ep Ep.IMG_DATA w).setFld .ep (Ep.IMG_OFF.sub 19 0) (o + 4), w)

/-- IMG_DATA_READ (R364), by the host. -/
def execImgDataRead (s : State) : Host.Outcome State Fault Refusal := .next (s.hostReads .ep State.imgRead)

/-! ### Arming (R353) -/

def State.epX (s : State) (p : Nat) : EpX := tGet s.eps p
def State.modEp (s : State) (p : Nat) (f : EpX → EpX) : State := { s with eps := tMod s.eps p f }
def State.epArmed (s : State) (p : Nat) : Bool := s.fld .ep (Ep.EP_STATUS.sub 0 0) p == 1

/-- STEP_ACTIONS[0] of a partition: a step activation is armed for the next fence. -/
def State.epActions (s : State) (p : Nat) : State :=
  let x := s.epX p
  s.setFld .stp (Stp.STEP_ACTIONS.sub 0 0) (bool01 (s.epArmed p && x.step && x.at_ == s.stepOf p + 1)) p

/-- The cause with which ARM is rejected, 0 where it is accepted. -/
def State.epCause (s : State) (p : Nat) : Nat :=
  let step := s.flag .ep Ep.EP_CTRL_MODE p
  let st := s.partState p
  let at_ := s.fld64 .ep Ep.EP_AT_LO p
  if step && p = 0 then 5
  else if p ≠ 0 && (st = 0 || st = 5 || (step && st != 3)) then 4
  else if s.epArmed p then 3
  else if s.fld64 .ep Ep.EP_NEXT_LO p ≠ s.fld64 .ep Ep.EP_CUR_LO p + 1 then 1
  else if !step && at_ < s.tick + 20 then 2
  else if step && at_ ≤ s.stepOf p then 2
  else 0

/-- A write of EP_CTRL (R353): CANCEL acts before ARM. -/
def State.epCtrl (s : State) (v : Word) : State :=
  let p := s.fld .ep (Ep.EP_SEL.sub 11 0)
  let s := s.setFld .ep Ep.EP_CTRL_MODE (bitsOf v.toNat 2 2) p
  let s := if bitAt v.toNat 1 then s.epDiscard p else s
  let s :=
    if bitAt v.toNat 0 then
      let c := s.epCause p
      if c ≠ 0 then (s.setFld .ep Ep.EP_CTRL_LAST_REJ c p).event 0x6112 0 [(2, p), (2, c)]
      else
        let s := s.modEp p (fun x => { x with step := s.flag .ep Ep.EP_CTRL_MODE p, next := s.fld64 .ep Ep.EP_NEXT_LO p,
                                              at_ := s.fld64 .ep Ep.EP_AT_LO p })
        (s.setFld .ep (Ep.EP_STATUS.sub 0 0) 1 p).event 0x6110 0 [(2, p), (8, (s.epX p).next)]
    else s
  s.epActions p

/-- EP_ARM (R353): a write with ARM set; `cancel` and `step` are its other fields. -/
def execEpArm (m : Master) (cancel step : Bool) (s : State) : Host.Outcome State Fault Refusal :=
  .next (s.gated m .ep (fun s => s.epCtrl (BitVec.ofNat 32 (1 + bool01 cancel * 2 + bool01 step * 4))))

/-- EP_CANCEL (R353): a write with CANCEL set and ARM clear. -/
def execEpCancel (m : Master) (step : Bool) (s : State) : Host.Outcome State Fault Refusal :=
  .next (s.gated m .ep (fun s => s.epCtrl (BitVec.ofNat 32 (2 + bool01 step * 4))))

/-! ### Activation (R354) -/

/-- Every shadow value of the scope takes effect. -/
def State.epochApply (s : State) (p : Nat) : State :=
  let e := (s.epX p).next
  let il := (List.range 2).map s.ilOf
  let s := s.activate (fun k => s.scopeOf k == p)
  let s := s.setFld64 .ep Ep.EP_CUR_LO e p
  let s := s.setFld64 .ep Ep.EP_LAST_LO s.tick p
  let s := s.setFld .ep Ep.EP_STATUS 2 p
  let s := s.modEp p (fun _ => {})
  let s := s.setFld .ep Ep.IMG_LEN (s.image p).length p
  let s := if p = 0 then (s.setFld64 .glb Glb.DEV_EPOCH_LO e).rcrLayout il
    else { s with ct := tMod s.ct p (fun t => { t with due := true }) }
  (s.epActions p).event 0x6111 0 [(2, p), (8, e)]

/-- Tick activations whose EP_AT has come, in ascending partition (R354, R359). -/
def State.epochEdge (s : State) : State :=
  let due := s.eps.filter (fun e => s.epArmed e.1 && !e.2.step && decide (e.2.at_ ≤ s.tick))
  s.each due (fun e s => s.epochApply e.1)

/-- EPOCH_TICK_ACTIVATION (R354). -/
def execEpochTickActivation (p : Nat) (s : State) : Host.Outcome State Fault Refusal :=
  let x := s.epX p
  .next (if s.epArmed p && !x.step && decide (x.at_ ≤ s.tick) then s.epochApply p else s)

/-- EPOCH_DIGEST_READY (R355). -/
def execEpochDigestReady (p : Nat) (s : State) : Host.Outcome State Fault Refusal :=
  if s.fld .ep (Ep.EP_STATUS.sub 1 1) p = 1 then
    let d := natLE (shake256 (s.image p) 32)
    let s := s.each (List.range 8) (fun i s => s.setFld .ep (Ep.DIGEST i) (d / 2 ^ (32 * i) % 2 ^ 32) p)
    .next (s.setFld .ep (Ep.EP_STATUS.sub 1 1) 0 p)
  else .next s

/-! ### YOYO (R356–R358) -/

/-- A scope takes CONFLICT and a YOYO that names it is owed at the next edge. -/
def State.conflict (s : State) (p : Nat) : State :=
  if s.fld .ep (Ep.EP_STATUS.sub 2 2) p = 1 then s
  else
    let s := s.setFld .ep (Ep.EP_STATUS.sub 2 2) 1 p
    { s with yoyoDue := if s.yoyoDue.contains p then s.yoyoDue else s.yoyoDue ++ [p] }

/-- A mismatch (R357). -/
def State.mismatch (s : State) (p b peer : Nat) (e : YoyoEntry) : State :=
  let s := (s.conflict p).bump .ep Ep.MISMATCH_CNT p
  s.event 0x6118 0 [(2, p), (2, peer), (1, b), (8, s.fld64 .ep Ep.EP_CUR_LO p), (8, e.epoch), (8, s.digField p), (8, e.digest)]

/-- Compare one entry (R357, R358). DEDUCED (log entry 109): DPEND at either end keeps the digests of partition 0 from being compared
too, since the digest field of that end is still that of the epoch before. -/
def State.yoyoCompare (s : State) (b peer : Nat) (e : YoyoEntry) : State :=
  let p := e.part
  let act := fun st => st == 2 || st == 3 || st == 4
  let dp := e.dpend || s.fld .ep (Ep.EP_STATUS.sub 1 1) p == 1
  let mine := s.fld64 .ep Ep.EP_CUR_LO p
  let key := 64 * p + b
  let s :=
    if p = 0 || (act (s.partState p) && act e.state && !dp) then
      if mine = e.epoch then
        let s := { s with skews := smDel s.skews key }
        if !dp && s.digField p ≠ e.digest then s.mismatch p b peer e else s
      else if (mine + 1 = e.epoch && s.epArmed p) || (e.epoch + 1 = mine && e.pend) then
        let x : Skew := tGet s.skews key
        { s with skews := tSet s.skews key { x with since := if x.since = 0 then s.tick + 1 else x.since, peer := peer, entry := e } }
      else ({ s with skews := smDel s.skews key }).mismatch p b peer e
    else s
  if e.conflict && mine = e.epoch && (p = 0 || s.partState p ≠ 0) then
    let s := s.conflict p
    if (s.epX p).noted then s
    else (s.modEp p (fun x => { x with noted := true })).event 0x6119 0 [(2, p), (2, peer), (1, b)]
  else s

/-- A YOYO arrives on bundle `b` (R351, R357, R358). -/
def State.yoyoRx (s : State) (b : Nat) (y : Yoyo) : State :=
  let s := s.each y.entries (fun e s => s.yoyoCompare b y.chip e)
  let s :=
    if y.mark then
      s.sendBundle b (.yoyo { chip := s.chip, bundle := b, tick := s.tick, ack := true, markPart := y.markPart,
                              entries := [s.yoyoEntry 0] })
    else s
  if y.ack then
    s.modPartX y.markPart (fun x => { x with marks := x.marks.map (fun l => l.filter (· != b)) })
  else s

/-- EPOCH_SKEW_TIMEOUT (R357): the skew of a scope on a bundle has persisted for more than EP_SKEW_MAX ticks. -/
def execEpochSkewTimeout (p b : Nat) (s : State) : Host.Outcome State Fault Refusal :=
  let x : Skew := tGet s.skews (64 * p + b)
  if x.since ≠ 0 && !x.told && x.since + s.fld .ep Ep.EP_SKEW_MAX ≤ s.tick then
    .next (({ s with skews := tSet s.skews (64 * p + b) { x with told := true } }).mismatch p b x.peer x.entry)
  else .next s

/-- YOYOs of a tick (R356, R358): every tenth tick, and for scopes with a new conflict. -/
def State.yoyoEdge (s : State) : State :=
  let s :=
    if s.tick % 10 = 0 then
      let l := s.yoyoNext
      { s.yoyoSend l with yoyoCur := l.getLastD s.yoyoCur }
    else s
  if s.yoyoDue.isEmpty then s
  else ({ s with yoyoDue := [] }).each s.yoyoDue (fun p s => s.yoyoSend [p])

end Sys2Proof.Machine
end

