-- ==== Sys2Proof/Machine/Fabric.lean ====
section
/-! DEFINITION. The commands of the wavelength fabric: plans, ring moves, the re-cable outcome, Kaleidoscope, the control of a port, and
the flit boundary (R227, R255–R277). -/
namespace Sys2Proof.Machine

/-- PLAN_CTRL.ARM is set (R259): NEXT is validated and armed, or rejected with a cause. -/
def State.planArm (s : State) : State :=
  let c := s.planCheck s.plan.next
  if c = 0 then
    let s := s.setFld .fab Fab.PLAN_STATUS_STATE 1
    let s := s.setFld .fab Fab.PLAN_ID_NEXT (planBits s.plan.next 0 4)
    (s.setFld64 .fab Fab.ACT_TICK_LO (planBits s.plan.next 8 8)).event 0x4100
  else
    let s := s.setFld .fab Fab.PLAN_STATUS_REJ c
    (s.bump .fab Fab.PLAN_REJ_CNT).event 0x4101 0 [(2, c)]

/-- PLAN_ARM (R259). -/
def execPlanArm (m : Master) (s : State) : Host.Outcome State Fault Refusal :=
  .next (s.gated m .fab (fun s => s.planArm))

/-- The state that PLAN_STATUS returns to when no plan is armed: that of CURRENT. -/
def State.planIdle (s : State) : Nat :=
  if !s.plan.has then 0 else if s.plan.recabling then 2 else 3

/-- PLAN_CTRL.CANCEL is set (R264): an armed NEXT is discarded before its activation tick. -/
def State.planCancel (s : State) : State :=
  if s.fld .fab Fab.PLAN_STATUS_STATE = 1 && s.tick < planBits s.plan.next 8 8 then
    let s := s.setFld .fab Fab.PLAN_STATUS_STATE s.planIdle
    let s := s.setFld .fab Fab.PLAN_ID_NEXT 0
    let s := s.setFld64 .fab Fab.ACT_TICK_LO (if s.plan.has then planBits s.plan.cur 8 8 else 0)
    ({ s with plan := { s.plan with next := [] } }).event 0x4106
  else s

/-- PLAN_CANCEL (R264). -/
def execPlanCancel (m : Master) (s : State) : Host.Outcome State Fault Refusal :=
  .next (s.gated m .fab (fun s => s.planCancel))

/-- The window moves on by one word (R275). -/
def State.planAdvance (s : State) : State :=
  s.setFld .fab Fab.PLAN_WIN_OFF ((s.fld .fab Fab.PLAN_WIN_OFF + 4) % 8192)

/-- A write of PLAN_WIN_DATA (R275): CURRENT cannot be written, NEXT not while it is ARMED. -/
def State.planWrite (s : State) (v : Word) : State :=
  let i := s.fld .fab Fab.PLAN_WIN_OFF / 4
  let s :=
    if s.flag .fab Fab.PLAN_CTRL_BUF then s.setErr .fab 0
    else if s.fld .fab Fab.PLAN_STATUS_STATE = 1 then s
    else { s with plan := { s.plan with next := smSet (fun _ => 0) s.plan.next i v.toNat } }
  s.planAdvance

/-- PLAN_WIN_DATA_WRITE (R275). -/
def execPlanWinDataWrite (m : Master) (v : Word) (s : State) : Host.Outcome State Fault Refusal :=
  .next (s.gated m .fab (fun s => s.planWrite v))

/-- The word that PLAN_WIN_DATA shows. -/
def State.planWord (s : State) : Nat :=
  smGet (fun _ => 0) (if s.flag .fab Fab.PLAN_CTRL_BUF then s.plan.cur else s.plan.next) (s.fld .fab Fab.PLAN_WIN_OFF / 4)

/-- A read of PLAN_WIN_DATA (R275): the word, then the next offset. -/
def State.planRead (s : State) : State × Nat := ((s.setFld .fab Fab.PLAN_WIN_DATA s.planWord).planAdvance, s.planWord)

/-- PLAN_WIN_DATA_READ (R275), by the host. -/
def execPlanWinDataRead (s : State) : Host.Outcome State Fault Refusal := .next (s.hostReads .fab State.planRead)

/-- PLAN_ACTIVATION (R261): at the edge of ACT_TICK. -/
def execPlanActivation (s : State) : Host.Outcome State Fault Refusal :=
  .next (if s.fld .fab Fab.PLAN_STATUS_STATE = 1 && planBits s.plan.next 8 8 ≤ s.tick then s.planActivate else s)

/-- A pair arrives where its table move took it (R256, Table 9.8). -/
def State.arrive (s : State) (p r : Nat) : State :=
  let x := s.ringX p r
  match x.goal with
  | 0 => s.setRingF p r Rng.RING_STATE_STATE 0
  | 2 => (s.setRingF p r Rng.RING_STATE_STATE 2).event 0x4107 (srcPort p)
      [(1, p), (1, r), (1, s.ringF p r Rng.RING_STATE_LINE)]
  | 3 =>
    let s := (s.setRingF p r Rng.RING_STATE_STATE 3).setRingF p r Rng.RING_STATE_ON_LINE 1
    if x.replaces.isSome then s
    else if s.copperCabled (s.ringPeerChip p r) then s.classRefuse p r
    else
      let s := s.modRing p r (fun x => { x with step := 2, trainAt := s.tick })
      match x.home with
      | some n => if s.laneSt p n = 0 || s.laneSt p n = 4 then s.startTraining p n else s
      | none => s
  | 5 => s.setRingF p r Rng.RING_STATE_STATE 5
  | 6 => s.setRingF p r Rng.RING_STATE_STATE 6
  | _ => s.setRingF p r Rng.RING_STATE_ON_LINE 1

/-- A pair arrives, and its rings are held as its new state asks (Table 10.1). -/
def State.moveDone (s : State) (p r : Nat) : State := (s.arrive p r).holdPair p r

/-- RING_MOVE_DONE (R256). -/
def execRingMoveDone (p r : Nat) (s : State) : Host.Outcome State Fault Refusal :=
  .next (if s.ringSt p r = 1 && s.ringF p r Rng.RING_STATE_ON_LINE = 0 then s.moveDone p r else s)

/-- The ports whose own bound of 100 ticks has passed (R260, R265) are settled. -/
def State.ownSettle (s : State) : State :=
  let due := ((List.range 24).map (· + 8)).filter (fun p =>
    let t := (tGet s.ports p).settleAt
    decide (0 < t) && decide (t ≤ s.tick + 1))
  s.each due (fun p s =>
    ({ s with ports := tMod s.ports p (fun x => { x with settleAt := 0, own := false }) }).settlePort p)

/-- RECABLE_SETTLE (R262): at T+100 each port's outcome is final, and ports that came up later at theirs (R260, R265). -/
def execRecableSettle (s : State) : Host.Outcome State Fault Refusal := .next s.planSettle.ownSettle

/-- KAL_REPLACE_CMD with GO (R277): a pair of the selected port. -/
def State.kalReplace (s : State) (e : Nat) (v : Word) : State :=
  if bitAt v.toNat 8 then
    let p := 8 + 8 * e + s.fld (.kal e) (Kal.KAL_SEL.sub 2 0)
    let r := bitsOf v.toNat 3 0
    if decide (r < 12) && ((s.ringX p r).role = 1 || (s.ringX p r).role = 2) then s.ringReplace p r
    else s.setErr (.kal e) 0
  else s

/-- KAL_REPLACE (R277). -/
def execKalReplace (m : Master) (e : Nat) (v : Word) (s : State) : Host.Outcome State Fault Refusal :=
  .next (s.gated m (.kal e) (fun s => s.kalReplace e v))

/-- A write of KAL_MODE (R273, R534): a write that gives a port mode 2 or 3 is dropped. -/
def State.kalMode (s : State) (e : Nat) (v : Word) : State :=
  if (List.range 8).any (fun n => bitAt v.toNat (2 * n + 1)) then s else s.setFld (.kal e) Kal.KAL_MODE (v.toNat % 65536)

/-- KAL_MODE_WRITE (R273): the mode is read at every flit boundary. -/
def execKalModeWrite (m : Master) (e : Nat) (v : Word) (s : State) : Host.Outcome State Fault Refusal :=
  .next (s.gated m (.kal e) (fun s => s.kalMode e v))

/-! ### The control of a port (R233, R260) -/

/-- Retrain every lane of a port (R233): lanes that run or have failed train anew. -/
def State.retrain (s : State) (p : Nat) : State :=
  let s := if copper p then s else s.each (List.range 12) (fun r s =>
    if s.ringSt p r = 3 || s.ringSt p r = 4 then
      ((s.steerDrop p r 2).setRingF p r Rng.RING_STATE_TRAINED 0).modRing p r (fun x => { x with step := 2, trainAt := s.tick })
    else s)
  s.each (laneIds p) (fun n s =>
    let st := s.laneSt p n
    if st = 2 then
      let b := s.laneBundle p n
      let s := (s.startTraining p n).replayLane p n
      (s.bundleSync b).portSync p
    else if st = 3 || st = 4 || st = 1 then (s.startTraining p n).portSync p
    else s)

/-- A port comes up (R233, R260): copper lanes train; optical pairs follow the record of CURRENT from the next tick edge. -/
def State.portUp (s : State) (p : Nat) : State :=
  if copper p then
    s.each ((laneIds p).filter (fun n => decide (n < 8) || s.flag (.lnk p) Lnk.LNK_CTRL_SPARE_EN)) (fun n s =>
      if s.laneSt p n = 0 then s.startTraining p n else s)
  else
    { s with ports := tMod s.ports p (fun x => { x with due := true }) }

/-- A port goes down: its lanes leave, its rings move to OFF. -/
def State.portDown (s : State) (p : Nat) : State :=
  let s := s.each (laneIds p) (fun n s =>
    let st := s.laneSt p n
    if st = 2 then (s.setLaneSt p n 0).laneLeave p n true
    else if st = 6 || st = 0 then s else (s.setLaneSt p n 0).portSync p)
  if copper p then (s.each (laneIds p) (fun n s => s.setFld (.lan p) Lan.LANE_STATE_SERVES 15 n)).portSync p
  else
    let s := { s with ports := tMod s.ports p (fun x => { x with due := false, own := false, settleAt := 0 }) }
    s.each (List.range 12) (fun r s => if s.ringSt p r = 6 || s.ringSt p r = 0 then s else s.ringTo p r {})

/-- A write of LNK_CTRL. -/
def State.lnkCtrl (s : State) (p : Nat) (v : Word) : State :=
  let was := s.flag (.lnk p) Lnk.LNK_CTRL_EN
  let s := s.setFld (.lnk p) Lnk.LNK_CTRL (v.toNat % 8 / 4 * 4 + v.toNat % 2)
  let now := bitAt v.toNat 0
  let s := if now && !was then s.portUp p else if was && !now then s.portDown p else s
  if bitAt v.toNat 1 && now then s.retrain p else s

/-- RETRAIN (R233): LNK_CTRL.RETRAIN is set. -/
def execRetrain (m : Master) (p : Nat) (s : State) : Host.Outcome State Fault Refusal :=
  .next (s.gated m (.lnk p) (fun s => s.lnkCtrl p (BitVec.ofNat 32 (s.fld (.lnk p) Lnk.LNK_CTRL) ||| 2)))

/-- PORT_ENABLE (R260): a write of LNK_CTRL that may change EN. -/
def execPortEnable (m : Master) (p : Nat) (v : Word) (s : State) : Host.Outcome State Fault Refusal :=
  .next (s.gated m (.lnk p) (fun s => s.lnkCtrl p v))

/-! ### The flit boundary (R227, R255, R266–R269) -/

/-- Return the credits a bundle owes as a CREDIT flit (R225, Table 8.3). -/
def State.returnCredits (s : State) (b : Nat) : State :=
  let x := s.bundle b
  if x.owed.isEmpty || !s.bndUp b then s
  else (s.setBundle b { x with owed := [] }).sendBundle b (.credit ((List.range 8).map (smGet (fun _ => 0) x.owed)))

/-- TAI in ns at the flit boundary under way. -/
def State.boundaryTai (s : State) : Nat := s.time.tai / 65536 + (Config.boundaryNs s.plan.boundary).val

/-- The TRAIN flit that a lane or ring channel sends (Table 8.5): TS, the TS last received with the time since, and the identity last
received. -/
def State.trainOut (s : State) (p lane : Nat) (spare rxOk : Bool) (seen : TrainSeen) : Flit :=
  let now := s.boundaryTai
  { p := .train { chip := s.chip, port := p, lane := lane, cls := s.fld (.lnk p) Lnk.LNK_STATUS_CLASS, majors := 1,
                  minors := [0], spare := spare, rxOk := rxOk, ts := now,
                  echoTs := if seen.ts = 0 then 0 else seen.ts + (now - seen.arr),
                  echoChip := seen.chip, echoPort := seen.port, echoLane := seen.lane } }

/-- The boundary on a copper port: ACTIVE lanes place a flit, SPARE lanes idle, lanes in TRAINING send TRAIN. -/
def State.copperBoundary (s : State) (p : Nat) : State :=
  s.each (laneIds p) (fun n s =>
    match s.laneSt p n with
    | 1 => s.emit (.flit p n (s.trainOut p n (s.flag (.lnk p) Lnk.LNK_CTRL_SPARE_EN) (s.laneX p n).rxOk (s.laneX p n).seen))
    | 2 => s.place p n (s.laneBundle p n)
    | 3 => s.emit (.flit p n { h := s.laneHdr p n })
    | _ => s)

/-- The engine of a port has a laser switchover under way (R296, R297): its lanes place no flit. -/
def State.switching (s : State) (p : Nat) : Bool := s.fld (.las (ringEng p) 0) Las.LAS_STATUS_ENG_STATE == 3

/-- The boundary on an optical port: lanes are assigned, attached, and place their flits; other lit channels idle or train. -/
def State.opticalBoundary (s : State) (p : Nat) : State :=
  let a := if s.switching p then [] else s.assignLanes p
  let s := s.attach p a
  let s := s.each a (fun e s => s.place p e.1 (s.ringF p e.2 Rng.RING_STATE_BUNDLE))
  s.each (List.range 12) (fun r s =>
    if s.ringF p r Rng.RING_STATE_ON_LINE = 0 || s.ringLane p r ≠ 15 then s
    else if (s.ringX p r).replaces.isNone && s.ringF p r Rng.RING_STATE_TRAINED = 0 then
      s.emit (.flit p (16 + r) (s.trainOut p (16 + r) false (decide (6 ≤ (s.ringX p r).step)) (s.ringX p r).seen))
    else s.emit (.flit p (16 + r) { h := s.laneHdr p (16 + r) }))

/-- FLIT_BOUNDARY (R227, R269). -/
def execFlitBoundary (p : Nat) (s : State) : Host.Outcome State Fault Refusal :=
  if !s.mod_.uncore then .next s
  else
    let s := { s with plan := { s.plan with boundary := s.plan.boundary + 1 } }
    let s := s.each (s.bundles.map (·.1)) (fun b s => s.returnCredits b)
    .next (if copper p then s.copperBoundary p else s.opticalBoundary p)

end Sys2Proof.Machine
end

