-- ==== Sys2Proof/Machine/Lock.lean ====
section
/-! DEFINITION. Lock, trim and laser sparing (R278–R307): heater codes, loops, calibration, re-acquisition tests, laser
switchovers, the monitor and the copper trims, and what each of them does at a tick edge. -/
namespace Sys2Proof.Machine

/-- The window of R288 holds for a code against a prediction. -/
def State.inWindow (s : State) (p : Nat) (code pred : Nat) : Bool :=
  let pct := s.fld (.rng (ringEng p)) Rng.WIN_CFG_WIN_PCT
  let mn := s.fld (.rng (ringEng p)) Rng.WIN_CFG_WIN_MIN
  let d := max code pred - min code pred
  decide (100 * d ≤ max (pct * pred) (100 * mn))

/-- The applied code of both rings of a pair lies in its window. -/
def State.windowOk (s : State) (p r : Nat) : Bool :=
  [0, 1].all (fun dir => s.inWindow p (s.code p r dir) (s.tableCode p r dir (s.ringPos p r dir) (s.ofsCal p r dir)))

/-- Causes of LOCK_LOST, numbered in the order of R287. -/
def lostResid : Nat := 1
def lostRail : Nat := 2
def lostHeater : Nat := 3
def lostLate : Nat := 4

/-- A ring has lost lock (R286, R287): recorded for the ring, and the pair is replaced where it holds a line. -/
def State.lockLost (s : State) (p r dir cause : Nat) : State :=
  let s := s.event 0x4120 (srcPort p) [(1, p), (1, r), (1, dir), (2, cause)]
  let s := s.bump (.rng (ringEng p)) Rng.LOCKLOST_CNT (ringBank p r dir)
  if s.ringSt p r = 3 || s.ringSt p r = 4 then s.ringReplace p r else s

/-- A forced switchover is under way on an engine: from its detection until the switch (R297, Table 10.6). -/
def State.forcedSwitch (s : State) (e : Nat) : Bool := (s.eng e).forced && s.fld (.las e 0) Las.LAS_STATUS_ENG_STATE == 3

/-- WINDOW_CHECK (R288): the applied codes of a pair on its line. -/
def execWindowCheck (p r : Nat) (s : State) : Host.Outcome State Fault Refusal :=
  .next (if (s.ringSt p r = 3 || s.ringSt p r = 4) && !s.windowOk p r then s.declare_ p r declWindow declSelf else s)

/-- RING_RX_LOS (R288, Table 10.6): a trained receive ring loses signal or codeword lock. -/
def execRingRxLos (p r : Nat) (s : State) : Host.Outcome State Fault Refusal :=
  let st := s.ringSt p r
  let e := s.eng (ringEng p)
  let s := if s.ringF p r Rng.RING_STATE_TRAINED = 1 && (st = 3 || st = 4) then s.modRing p r (fun x => { x with rxLost := true }) else s
  if s.ringF p r Rng.RING_STATE_TRAINED = 0 || (st ≠ 3 && st ≠ 4) || !s.windowOk p r || s.tick < e.muteLos
      || (s.fld (.las (ringEng p) 0) Las.LAS_STATUS_ENG_STATE = 3 && e.forced) then .next s
  else .next (s.declare_ p r declLos declLos)

/-- HEATER_FAULT (R287): an open or short circuit. -/
def execHeaterFault (p r dir : Nat) (s : State) : Host.Outcome State Fault Refusal :=
  .next ((s.setRng p r dir (Rng.RING_HEATER.sub 16 16) 1).lockLost p r dir lostHeater)

/-! ### Re-acquisition tests (R292) -/

/-- The pair of a port that failed first of those due for a test and at their park positions (Table 10.6). -/
def State.nextTest (s : State) (p : Nat) : Option Nat :=
  ((List.range 12).foldl (fun (m : Option (Nat × Nat)) r =>
    let x := s.ringX p r
    if s.ringSt p r = 1 then m
    else match x.testDue, m with
    | some t, some (t0, _) => if t < t0 then some (t, r) else m
    | some t, none => some (t, r)
    | none, _ => m) none).map (·.2)

/-- Line 0 of a port is in use in both directions: a pair is under test, or out for calibration (R283, R292). -/
def State.lineZeroBusy (s : State) (p : Nat) : Bool :=
  (List.range 12).any (fun r => (s.ringX p r).testing || (s.ringSt p r == 1 && (s.ringX p r).goal == 8))

/-- REACQ_TEST_START (R292 step 1): line 0 of port `p` is free. -/
def execReacqTestStart (p : Nat) (s : State) : Host.Outcome State Fault Refusal :=
  if s.procFailed 2 || s.lineZeroBusy p || s.forcedSwitch (ringEng p) then .next s
  else match s.nextTest p with
  | none => .next s
  | some r =>
    let s := (s.ringMove p r 7).modRing p r (fun x => { x with testing := true, identOk := false, testDue := none })
    .next (s.each [0, 1] (fun dir s => s.setRng p r dir (Rng.RING_LOCK.sub 1 0) 3))

/-- A pair is retired (R292). -/
def State.ringRetire (s : State) (p r : Nat) : State :=
  let s := (s.setRingF p r Rng.RING_STATE_STATE 6).setRingF p r Rng.RING_STATE_ON_LINE 0
  let s := s.each [0, 1] (fun dir s => s.hold p r dir)
  s.event 0x4123 (srcPort p) [(1, p), (1, r)]

/-- REACQ_TEST_DONE (R292): whether alignment came within 100 µs, and the two measured offsets; the identity is the one that the TRAIN
flits on line 0 have brought back. A forced switchover pauses the test (Table 10.6). -/
def execReacqTestDone (p r : Nat) (aligned : Bool) (offT offR : Int) (s : State) : Host.Outcome State Fault Refusal :=
  if !(s.ringX p r).testing || s.forcedSwitch (ringEng p) then .next s
  else
    let within := fun dir (off : Int) => s.inWindow p (s.tableCode p r dir 0 off) (s.tableCode p r dir 0 (s.ofsCal p r dir))
    let ok := aligned && (s.ringX p r).identOk && within 0 offT && within 1 offR
    let s := s.modRing p r (fun x => { x with testing := false, out := false })
    let s := s.each [0, 1] (fun dir s => s.setRng p r dir (Rng.RING_LOCK.sub 1 0) 0)
    if !ok then .next (s.ringRetire p r)
    else
      let now := s.tick
      let passes := now :: (s.ringX p r).passes.filter (fun t => decide (now < t + 360000000))
      let s := s.modRing p r (fun x => { x with passes := passes })
      let s := s.bump (.rng (ringEng p)) Rng.TRANSIENT_CNT (ringBank p r 0)
      let s := ((s.setOfs p r 0 offT).setOfsCal p r 0 offT)
      let s := ((s.setOfs p r 1 offR).setOfsCal p r 1 offR)
      if 3 ≤ passes.length then .next (s.ringRetire p r)
      else
        let s := (s.setRingLine p r 0).ringMove p r 5
        let s := s.modRing p r (fun x => { x with role := 3 })
        .next (s.event 0x4122 (srcPort p) [(1, p), (1, r)])

/-- RING_TEST_CMD of the selected pair (R292). -/
def State.ringTest (s : State) (e : Nat) (v : Word) : State :=
  if bitAt v.toNat 0 then
    let sel := s.fld (.rng e) Rng.RING_SEL
    let p := 8 + 8 * e + bitsOf sel 2 0
    let r := bitsOf sel 7 4
    if s.ringSt p r = 5 || s.ringSt p r = 6 then
      let due := (s.eng e).failures
      (s.modEng e (fun y => { y with failures := y.failures + 1 })).modRing p r (fun x => { x with testDue := some due })
    else s.setErr (.rng e) 1
  else s

/-- RING_TEST_CMD (R292). -/
def execRingTestCmd (m : Master) (e : Nat) (v : Word) (s : State) : Host.Outcome State Fault Refusal :=
  .next (s.gated m (.rng e) (fun s => s.ringTest e v))

/-! ### Calibration (R283) -/

/-- The turn of a calibrating port: the ring pair, and the ticks of its turn. -/
def State.setCal (s : State) (p r t : Nat) : State := { s with ports := tMod s.ports p (fun x => { x with calR := r, calT := t }) }

/-- An engine starts to calibrate, on every port from pair 0 on; CAL_CFG.NOW is cleared. -/
def State.calStart (s : State) (e : Nat) : State :=
  if s.procFailed 2 || s.fld (.rng e) (Rng.CAL_STATUS.sub 16 16) = 1 then s
  else
    let s := (s.setFld (.rng e) (Rng.CAL_STATUS.sub 16 16) 1).setFld (.rng e) Rng.CAL_CFG_NOW 0
    let s := s.each (List.range 8) (fun k s => s.setCal (8 + 8 * e + k) 0 0)
    s.modEng e (fun x => { x with calibrating := true })

/-- CAL_PERIOD_DUE (R283): PERIOD minutes after the last calibration. -/
def execCalPeriodDue (e : Nat) (s : State) : Host.Outcome State Fault Refusal :=
  .next (if s.fld64 (.rng e) Rng.CAL_TICK_LO + s.fld (.rng e) Rng.CAL_CFG_PERIOD * 6000000 ≤ s.tick then s.calStart e else s)

/-- CAL_TEMP_DUE (R283): the temperature has moved by more than DELTA_T. -/
def execCalTempDue (e : Nat) (s : State) : Host.Outcome State Fault Refusal :=
  let d := (s.eng e).temp - signedOf 16 (s.fld (.rng e) (Rng.CAL_STATUS.sub 15 0))
  .next (if s.fld (.rng e) Rng.CAL_CFG_DELTA_T < d.natAbs then s.calStart e else s)

/-- CAL_CFG.NOW is set. -/
def State.calNow (s : State) (e : Nat) : State := (s.setFld (.rng e) Rng.CAL_CFG_NOW 1).calStart e

/-- CAL_NOW (R283). -/
def execCalNow (m : Master) (e : Nat) (s : State) : Host.Outcome State Fault Refusal :=
  .next (s.gated m (.rng e) (fun s => s.calNow e))

/-- An ACTIVE pair is calibrated in one edge, from its codes (R283). -/
def State.calActive (s : State) (p r : Nat) : State :=
  s.each [0, 1] (fun dir s =>
    let v : Int := (s.code p r dir : Int) - s.tableCode p r dir (s.ringPos p r dir) 0
    ((s.setOfs p r dir v).setOfsCal p r dir v).hold p r dir)

/-- A pair takes what the calibration lock-ins measured (R283); a saturated error on a trained pair is a mis-lock. -/
def State.calTake (s : State) (p r : Nat) (ms : List CalMeas) : State :=
  match ms.find? (fun c => c.p == p && c.r == r) with
  | none => s
  | some c =>
    if c.sat then (if s.ringF p r Rng.RING_STATE_TRAINED = 1 then s.declare_ p r declWindow declSelf else s)
    else (((s.setOfs p r 0 c.offT).setOfsCal p r 0 c.offT).setOfs p r 1 c.offR).setOfsCal p r 1 c.offR

/-- The turn of a pair ends. -/
def State.calNext (s : State) (p r : Nat) : State := (s.modRing p r (fun x => { x with calib := false })).setCal p (r + 1) 0

/-- A port's calibration at a tick edge (R283): one pair at a time, in ascending ring number. A PARKED pair is measured in place for 2
ticks and withdrawn from steering meanwhile; a HELD or SPARE pair moves to line 0, where a test goes first, is measured for 2 ticks and
moves back (turn 9); OFF, RETIRED and TUNING pairs are passed over. -/
def State.calTurn (p : Nat) (ms : List CalMeas) : Nat → State → State
  | 0, s => s
  | fuel + 1, s =>
    let r := (tGet s.ports p).calR
    let t := (tGet s.ports p).calT
    let st := s.ringSt p r
    if 12 ≤ r then s
    else if t = 9 then (if st = 1 then s else calTurn p ms fuel (s.calNext p r))
    else if st = 4 then (s.calActive p r).calNext p r
    else if st = 3 then
      (if t < 2 then (s.modRing p r (fun x => { x with calib := true })).setCal p r (t + 1)
       else ((s.calTake p r ms).holdPair p r).calNext p r)
    else if st = 2 || st = 5 then
      (if s.lineZeroBusy p || (List.range 12).any (fun q => (s.ringX p q).testDue.isSome) then s
       else (s.ringMove p r 8).setCal p r 0)
    else if st = 1 && (s.ringX p r).goal = 8 then
      (if s.ringF p r Rng.RING_STATE_ON_LINE = 0 then s
       else if t < 2 then s.setCal p r (t + 1)
       else ((s.calTake p r ms).ringMove p r (if (s.ringX p r).role = 3 then 5 else 2)).setCal p r 9)
    else calTurn p ms fuel (s.calNext p r)

/-- Calibration at a tick edge, the ports of an engine in parallel; a forced switchover pauses it (Table 10.6), and none
runs while the optical supervisor has FAILED (Table 16.2). -/
def State.calEdge (s : State) (e : Nat) (ms : List CalMeas) : State :=
  if !(s.eng e).calibrating || s.forcedSwitch e || s.procFailed 2 then s
  else
    s.each (List.range 8) (fun k s => s.calTurn (8 + 8 * e + k) ms 13)

/-- The calibration of an engine begins again from pair 0; a pair out on line 0 moves back. -/
def State.calRestart (s : State) (e : Nat) : State :=
  s.each (List.range 8) (fun k s =>
    let p := 8 + 8 * e + k
    (s.each (List.range 12) (fun r s =>
      if s.ringSt p r = 1 && (s.ringX p r).goal = 8 then s.ringMove p r (if (s.ringX p r).role = 3 then 5 else 2) else s)).setCal p 0 0)

/-- Every port of an engine has come to its last pair. -/
def State.calAll (s : State) (e : Nat) : Bool := (List.range 8).all (fun k => decide (12 ≤ (tGet s.ports (8 + 8 * e + k)).calR))

/-- CALIBRATION_DONE (R283): the last pair of the engine has had its turn. A turn that ends with the run, and at no tick edge before it,
takes what it measured from `ms`. -/
def execCalibrationDone (e : Nat) (ms : List CalMeas) (s : State) : Host.Outcome State Fault Refusal :=
  let s0 := s
  let s := if s.calAll e then s else s.calEdge e ms
  if s.fld (.rng e) (Rng.CAL_STATUS.sub 16 16) = 0 || !s.calAll e || s.forcedSwitch e then .next s0
  else
    let t := unsignedOf 16 (s.eng e).temp
    let s := s.setFld (.rng e) (Rng.CAL_STATUS.sub 16 0) t
    let s := s.setFld64 (.rng e) Rng.CAL_TICK_LO s.tick
    let s := (s.modEng e (fun x => { x with calibrating := false })).event 0x4124 (srcOpt e) [(2, t)]
    .next (if s.flag (.rng e) Rng.CAL_CFG_NOW then s.calStart e else s)

/-! ### Lasers (R294–R298) -/

def State.lasSt (s : State) (e : Nat) : Nat := s.fld (.las e 0) Las.LAS_STATUS_ENG_STATE
def State.setLasSt (s : State) (e v : Nat) : State :=
  (s.setFld (.las e 0) Las.LAS_STATUS_ENG_STATE v).setFld (.las e 1) Las.LAS_STATUS_ENG_STATE v
/-- An optical engine is powered while at least one of its ports is enabled (R4). -/
def State.engPowered (s : State) (e : Nat) : Bool := (List.range 8).any (fun k => s.flag (.lnk (8 + 8 * e + k)) Lnk.LNK_CTRL_EN)

/-- The role of a laser: OFF while its engine has no power (R4), else what LAS_STATUS holds. -/
def State.lasRole (s : State) (e x : Nat) : Nat := if s.engPowered e then s.fld (.las e x) Las.LAS_STATUS_ROLE else 0

/-- The laser that feeds the rings, and whether the other is WARM. -/
def State.lasActive (s : State) (e : Nat) : Nat := if s.lasRole e 1 = 1 then 1 else 0
def State.spareWarm (s : State) (e : Nat) : Bool := s.lasRole e (1 - s.lasActive e) == 2

/-- A LASER notice on every pair that an engine drives (R296, R297): each leaves at once on the lane that drives the pair, while the old
laser still gives light. -/
def State.laserNotices (s : State) (e : Nat) : State :=
  s.each (List.range 8) (fun k s => s.each (List.range 12) (fun r s =>
    let p := 8 + 8 * e + k
    let n := s.ringLane p r
    let b := s.ringF p r Rng.RING_STATE_BUNDLE
    if n = 15 then s
    else if !s.bndUp b || 2048 ≤ s.fld (.lnk p) (Lnk.REPLAY_OCC.sub 11 0) then s.ringNotice p r declLaser
    else s.putFlit p n b
      { h := { src := s.chip, next := s.bndPeer b, dest := s.bndPeer b },
        p := .laneCtrl { op := 3, bundle := b, port := (s.ringX p r).peerPort, cause := declLaser } } s.plan.queued))

/-- An engine goes DARK (Table 10.5, R298): the laser or both fail, and every lane of the engine fails. -/
def State.engineDark (s : State) (e : Nat) : State :=
  let s := s.each [0, 1] (fun x s => if s.lasRole e x = 1 || s.lasRole e x = 2 then s.setFld (.las e x) Las.LAS_STATUS_ROLE 4 else s)
  let s := (s.setLasSt e 5).event 0x4136 (srcOpt e)
  s.each (List.range 8) (fun k s =>
    let p := 8 + 8 * e + k
    let bs := (List.range 12).map (fun r => s.ringF p r Rng.RING_STATE_BUNDLE)
    let s := s.each (List.range 12) (fun r s =>
      ((s.steerDrop p r 2).setRingF p r Rng.RING_STATE_TRAINED 0).setRingF p r Rng.RING_STATE_LANE 15)
    let s := s.each (List.range 8) (fun n s => s.laneFail p n causeOptical false)
    (s.each bs (fun b s => if b < 8 then s else s.bundleSync b)).portSync p)

/-- A forced switchover starts (R297), criterion 1 margin, 2 BER, 3 abrupt loss; without a WARM spare the engine goes DARK. -/
def State.laserForce (s : State) (e crit : Nat) : State :=
  let st := s.lasSt e
  if (st = 0 || st = 1 || st = 2) && s.spareWarm e then
    let s := (s.laserNotices e).setLasSt e 3
    let s := s.modEng e (fun x => { x with forced := true, ordered := false, deferred := false, toLaser := 1 - s.lasActive e })
    s.event 0x4134 (srcOpt e) [(2, crit)]
  else if st = 4 && s.engPowered e then s.engineDark e
  else s

/-- ABRUPT_LASER_LOSS (R295). -/
def execAbruptLaserLoss (e : Nat) (s : State) : Host.Outcome State Fault Refusal := .next (s.laserForce e 3)

/-- Entry to PLANNED (Table 10.5). -/
def State.laserPlan (s : State) (e : Nat) (ordered now : Bool) : State :=
  let s := (s.setLasSt e 2).modEng e (fun x =>
    { x with plannedAt := s.tick, ordered := ordered, now := now, fenceSeen := false, deferred := false, forced := false, toLaser := 1 - s.lasActive e })
  s.event 0x4132 (srcOpt e)

/-- Some partition is RUNNING. -/
def State.anyRunning (s : State) : Bool :=
  s.regs.any (fun e => regAddr e.1 == Page.part.base + Par.PART_STATUS_STATE.off
    && bitsOf e.2.toNat Par.PART_STATUS_STATE.hi Par.PART_STATUS_STATE.lo == 3)

/-- The switch point of R296 has come: a step fence, 6,000,000 ticks, or with NOW or no partition RUNNING the next tick edge. -/
def State.switchFalls (s : State) (e : Nat) : Bool :=
  let x := s.eng e
  x.fenceSeen || decide (x.plannedAt + 6000000 ≤ s.tick) || (decide (x.plannedAt < s.tick) && (x.now || !s.anyRunning))

/-- An engine may switch as planned. -/
def State.mayPlan (s : State) (e : Nat) : Bool := s.lasSt e == 2 && s.engPowered e && !s.procFailed 2

/-- The planned switch runs now: outside a re-cable, and where it fell due in one at the first step fence after it (R265, R296). -/
def State.switchDue (s : State) (e : Nat) : Bool :=
  s.mayPlan e && !s.plan.recabling && (if (s.eng e).deferred then (s.eng e).fenceSeen else s.switchFalls e)

/-- A planned switch that falls due in a re-cable is deferred to the first step fence after it (R265). -/
def State.switchDefer (s : State) (e : Nat) : State :=
  if s.mayPlan e && s.plan.recabling && s.switchFalls e then s.modEng e (fun x => { x with deferred := true, fenceSeen := false }) else s

/-- LASER_SWITCH_POINT (R296). -/
def execLaserSwitchPoint (e : Nat) (s : State) : Host.Outcome State Fault Refusal :=
  .next (if s.switchDue e then
    ((s.laserNotices e).setLasSt e 3).modEng e (fun x => { x with forced := false })
  else s.switchDefer e)

/-- A step fence has completed (R296): it is the switch point of engines in PLANNED, or in a re-cable the time at which it falls due. -/
def State.laserFence (s : State) : State :=
  s.each (List.range 3) (fun e s =>
    if s.lasSt e = 2 then (s.modEng e (fun x => { x with fenceSeen := true })).switchDefer e else s)

/-- LASER_SWITCH_DONE (R296, R297, Table 10.5): whether the new laser held above −FORCE. -/
def execLaserSwitchDone (e : Nat) (ok : Bool) (s : State) : Host.Outcome State Fault Refusal :=
  if s.lasSt e ≠ 3 then .next s
  else
    let x := s.eng e
    let new := x.toLaser
    let s := s.modEng e (fun x => { x with muteLos := if x.forced then s.tick + 2 else x.muteLos, forced := false,
                                           ordered := false, now := false, fenceSeen := false, deferred := false })
    if !ok then .next (s.engineDark e)
    else
      let s := s.setFld (.las e new) Las.LAS_STATUS_ROLE 1
      let s := s.setFld (.las e (1 - new)) Las.LAS_STATUS_ROLE (if x.ordered then 2 else 3)
      let s := s.setLasSt e (if x.ordered then 0 else 4)
      let s := s.each [0, 1] (fun l s => (s.bump (.las e l) Las.SWITCH_CNT).setFld64 (.las e l) Las.SWITCH_TICK_LO s.tick)
      let s := s.each [0, 1] (fun l s => s.setFld (.las e l) Las.LAS_STATUS_WARN 0)
      .next (s.event 0x4133 (srcOpt e))

/-- A write of LAS_CMD (R295, R305): accepted on the page of a WARM laser. -/
def State.lasCmd (s : State) (e x : Nat) (v : Word) : State :=
  if s.lasRole e x ≠ 2 then s.setErr (.las e x) 0
  else if !bitAt v.toNat 0 then s
  else if s.lasSt e = 0 then s.laserPlan e true (bitAt v.toNat 1)
  else if s.lasSt e = 2 && bitAt v.toNat 1 then s.modEng e (fun y => { y with now := true })
  else s

/-- LAS_CMD_SWITCH (R295): SWITCH is set. -/
def execLasCmdSwitch (m : Master) (e x : Nat) (s : State) : Host.Outcome State Fault Refusal :=
  .next (s.gated m (.las e x) (fun s => s.lasCmd e x 1))

/-- LAS_CMD_NOW (R296): SWITCH and NOW are set. -/
def execLasCmdNow (m : Master) (e x : Nat) (s : State) : Host.Outcome State Fault Refusal :=
  .next (s.gated m (.las e x) (fun s => s.lasCmd e x 3))

/-- The worst margin of a list of margins, and its line. -/
def worstOf : List Int → Nat → Option (Int × Nat) → Option (Int × Nat)
  | [], _, m => m
  | a :: t, i, m =>
    worstOf t (i + 1) (match m with | some (w, j) => if a < w then some (a, i) else some (w, j) | none => some (a, i))

/-- A laser's measurement at an edge (R294). -/
def State.laserMeasure (s : State) (o : LaserObs) : State :=
  let pg := Page.las o.e o.x
  let mar := o.pwr.zipIdx.map (fun a => a.1 - signedOf 16 (s.fld pg (Las.LINE_REF.sub 15 0) a.2))
  let s := s.each o.pwr.zipIdx (fun a s => s.setFld pg (Las.LINE_PWR.sub 15 0) (unsignedOf 16 a.1) a.2)
  let s := s.each mar.zipIdx (fun a s => s.setFld pg (Las.LINE_MARGIN.sub 15 0) (unsignedOf 16 a.1) a.2)
  let s := match worstOf mar 0 none with
    | some (w, l) => (s.setFld pg (Las.WORST.sub 15 0) (unsignedOf 16 w)).setFld pg (Las.WORST.sub 20 16) l
    | none => s
  (s.setFld pg (Las.LAS_TEMP.sub 15 0) o.temp).setFld pg Las.LAS_STATUS_TEMP_LOCK (bool01 o.locked)

def State.lasWorst (s : State) (e x : Nat) : Int := signedOf 16 (s.fld (.las e x) (Las.WORST.sub 15 0))

/-- A threshold of the active laser's page, in 0.01 dB: 0 CLEAR, 1 WARN, 2 PLAN, 3 FORCE. -/
def State.lasThr (s : State) (e i : Nat) : Int :=
  10 * (s.fld (.las e (s.lasActive e)) (Las.LAS_THR.sub (8 * i + 7) (8 * i)) : Int)

/-- The BER criterion of R295. -/
def State.berForce (s : State) (e : Nat) : Bool :=
  let thr := s.fld (.las e (s.lasActive e)) (Las.LAS_BER_THR.sub 15 0)
  let act := (List.range 8).flatMap (fun k =>
    ((List.range 8).filter (fun n => s.laneSt (8 + 8 * e + k) n == 2)).map (fun n => (8 + 8 * e + k, n)))
  let bad := act.filter (fun l => decide (thr < s.fld (.lan l.1) Lan.FEC_CORR_LAST l.2))
  decide (2 ≤ bad.length) && decide (act.length ≤ 2 * bad.length)

/-- The laser state table at a tick edge (Table 10.5). Margins are not evaluated while the optical supervisor has FAILED
(Table 16.2). -/
def State.laserEdge (s : State) (e : Nat) (obs : List LaserObs) : State :=
  let mine := obs.filter (fun o => o.e == e)
  let s := s.each mine (fun o s => s.laserMeasure o)
  if mine.isEmpty || !s.engPowered e then s
  else
    let a := s.lasActive e
    let b := 1 - a
    let w := s.lasWorst e a
    let un := if s.flag (.las e b) Las.LAS_STATUS_TEMP_LOCK then 0 else (s.eng e).unlocked + 1
    let clear := if -(s.lasThr e 0) < w then (s.eng e).clearTicks + 1 else 0
    let s := s.modEng e (fun x => { x with unlocked := un, clearTicks := clear })
    let st := s.lasSt e
    let s :=
      if (st = 0 || st = 1 || st = 2) && s.spareWarm e && (s.lasWorst e b ≤ -(s.lasThr e 3) || 100 ≤ un) then
        ((s.setFld (.las e b) Las.LAS_STATUS_ROLE 4).setLasSt e 4).event 0x4135 (srcOpt e)
      else s
    let st := s.lasSt e
    if st = 3 || st = 5 then s
    else if s.procFailed 2 then (if s.berForce e then s.laserForce e 2 else s)
    else if w ≤ -(s.lasThr e 3) then s.laserForce e 1
    else if s.berForce e then s.laserForce e 2
    else
      let s :=
        if st = 0 && w ≤ -(s.lasThr e 1) then ((s.setLasSt e 1).setFld (.las e a) Las.LAS_STATUS_WARN 1).event 0x4130 (srcOpt e)
        else if st = 1 && 100 ≤ clear then ((s.setLasSt e 0).setFld (.las e a) Las.LAS_STATUS_WARN 0).event 0x4131 (srcOpt e)
        else if st = 4 && w ≤ -(s.lasThr e 1) && !s.flag (.las e a) Las.LAS_STATUS_WARN then
          (s.setFld (.las e a) Las.LAS_STATUS_WARN 1).event 0x4130 (srcOpt e)
        else s
      if (s.lasSt e = 0 || s.lasSt e = 1) && w ≤ -(s.lasThr e 2) && s.spareWarm e then s.laserPlan e false false else s

/-! ### The heater table window and the monitor (R285, R299, R306) -/

/-- A write of TBL_DATA (Table 10.6): only while the ring is OFF or RETIRED. -/
def State.tblWrite (s : State) (e : Nat) (v : Word) : State :=
  let sel := s.fld (.rng e) Rng.RING_SEL
  let p := 8 + 8 * e + bitsOf sel 2 0
  let r := bitsOf sel 7 4
  if s.ringSt p r = 0 || s.ringSt p r = 6 then
    s.setFld (.rng e) (Rng.TBL_DATA.sub 15 0) (v.toNat % 65536)
      (ringBank p r (bitsOf sel 8 8) + 512 * s.fld (.rng e) (Rng.TBL_SEL.sub 8 0))
  else s.setErr (.rng e) 0

/-- TBL_DATA_WRITE (R299). -/
def execTblDataWrite (m : Master) (e : Nat) (v : Word) (s : State) : Host.Outcome State Fault Refusal :=
  .next (s.gated m (.rng e) (fun s => s.tblWrite e v))

/-- A reading starts: MON_START is cleared and the result is no longer valid. -/
def State.monRun (s : State) (e : Nat) : State :=
  let s := (s.setFld (.mon e) Mon.MON_START 0).setFld (.mon e) (Mon.MON_RESULT.sub 31 31) 0
  s.modEng e (fun x => { x with mon := 2 })

/-- A write of MON_START (R306): dropped while a reading is pending. -/
def State.monStart (s : State) (e : Nat) (v : Word) : State :=
  if (s.eng e).mon ≠ 0 then s
  else if bitAt v.toNat 0 then s.monRun e
  else if bitAt v.toNat 1 then (s.setFld (.mon e) (Mon.MON_START.sub 1 1) 1).modEng e (fun x => { x with mon := 1 })
  else s

/-- MON_GO_NOW (R285). -/
def execMonGoNow (m : Master) (e : Nat) (s : State) : Host.Outcome State Fault Refusal :=
  .next (s.gated m (.mon e) (fun s => s.monStart e 1))

/-- MON_GO_AT_TICK (R285). -/
def execMonGoAtTick (m : Master) (e : Nat) (s : State) : Host.Outcome State Fault Refusal :=
  .next (s.gated m (.mon e) (fun s => s.monStart e 2))

/-- MON_TICK_REACHED (R285). -/
def execMonTickReached (e : Nat) (s : State) : Host.Outcome State Fault Refusal :=
  .next (if (s.eng e).mon = 1 && s.fld64 (.mon e) Mon.MON_TICK_LO ≤ s.tick then s.monRun e else s)

/-- Effective bits of an integration (Table 10.2). -/
def monBits (k : Nat) : Nat := min (8 + k) 13

/-- MON_READING_DONE (R285): the reading of the selected photodiode or tap. -/
def execMonReadingDone (e reading : Nat) (s : State) : Host.Outcome State Fault Refusal :=
  if (s.eng e).mon ≠ 2 then .next s
  else
    let s := s.setFld (.mon e) Mon.MON_RESULT
      (reading % 65536 + monBits (s.fld (.mon e) (Mon.MON_INT.sub 2 0)) * 65536 + 2 ^ 31)
    .next (s.modEng e (fun x => { x with mon := 0 }))

/-! ### The loops at a tick edge (R279–R282, R287) -/

/-- One correction of a loop (R280): the code, the residual and the lock state. -/
def State.loopStep (s : State) (o : RingObs) : State :=
  let pg := Page.rng (ringEng o.p)
  let gain : Int := s.fld pg Rng.LOCK_CFG_GAIN
  let mx : Int := s.fld pg Rng.LOCK_CFG_STEP_MAX
  let d := max (-mx) (min mx (gain * o.err / 4096))
  let s := s.setRng o.p o.r o.dir (Rng.RING_LOCK.sub 31 16) (unsignedOf 16 o.resid)
  if !o.power then s
  else
    let c : Int := s.code o.p o.r o.dir
    let s := s.setRng o.p o.r o.dir (Rng.RING_HEATER.sub 15 0) (max 0 (min 65535 (c + d))).toNat
    s.setRng o.p o.r o.dir (Rng.RING_LOCK.sub 1 0) (if o.resid.natAbs ≤ 20 then 2 else 1)

/-- A pair under lock-in at an edge: corrections, then the tests of R287. -/
def State.pairEdge (s : State) (p r : Nat) (obs : List RingObs) : State :=
  let o0 := obs.find? (fun o => o.p == p && o.r == r && o.dir == 0)
  let o1 := obs.find? (fun o => o.p == p && o.r == r && o.dir == 1)
  let app := fun (o : Option RingObs) (s : State) => match o with | some o => s.loopStep o | none => s
  let s := app o1 (app o0 s)
  let past := fun (o : Option RingObs) (h : Nat) => match o with
    | some o => if o.power && 100 < o.resid.natAbs then h + 1 else 0
    | none => h
  let s := s.modRing p r (fun x => { x with edges := x.edges + 1, hiT := past o0 x.hiT, hiR := past o1 x.hiR })
  let x := s.ringX p r
  let lost := [0, 1].filterMap (fun dir =>
    let c := s.code p r dir
    if 2 ≤ (if dir = 0 then x.hiT else x.hiR) then some (dir, lostResid)
    else if c = 0 || c = 65535 then some (dir, lostRail)
    else if 4 ≤ x.edges && s.rngF p r dir (Rng.RING_LOCK.sub 1 0) ≠ 2 && x.edges = 4 then some (dir, lostLate)
    else none)
  s.each lost (fun e s => s.lockLost p r e.1 e.2)

/-- The pairs of a port that hold loops after an edge (R281): by latest flit boundary, then lower ring number. -/
def State.rankLoops (s : State) (p : Nat) : List Nat :=
  let cand := (List.range 12).filter (fun r =>
    s.ringSt p r == 4 || (s.ringSt p r == 3 && (s.ringX p r).drivenTick == s.tick && s.tick != 0))
  (cand.mergeSort (fun a b => decide ((s.ringX p b).drivenAt < (s.ringX p a).drivenAt)
    || ((s.ringX p a).drivenAt == (s.ringX p b).drivenAt && decide (a ≤ b)))).take 8

/-- Loops are assigned at an edge (R281, R282): a new loop starts from the table code. -/
def State.loopAssign (s : State) (p : Nat) : State :=
  let top := s.rankLoops p
  s.each (List.range 12) (fun r s =>
    let st := s.ringSt p r
    if st = 3 && top.contains r then
      let s := ((s.holdPair p r).setRingF p r Rng.RING_STATE_STATE 4).setRingF p r (Rng.RING_LOCK.sub 1 0) 1
      s.modRing p r (fun x => { x with edges := 0, hiT := 0, hiR := 0, calib := false,
                                       drivenAt := max x.drivenAt s.plan.boundary })
    else if st = 4 && !top.contains r then
      ((s.keepCodes p r).setRingF p r Rng.RING_STATE_STATE 3).setRingF p r (Rng.RING_LOCK.sub 1 0) 0
    else s)

/-- The rings of an engine at a tick edge; during a switchover no loop corrects or changes hands (R296, Table 10.6). -/
def State.ringsEdge (s : State) (e : Nat) (obs : List RingObs) : State :=
  let sw := s.lasSt e == 3
  s.each (List.range 8) (fun k s =>
    let p := 8 + 8 * e + k
    let act := (List.range 12).filter (fun r => s.ringSt p r == 4)
    let s := if sw then s else s.each act (fun r s => s.pairEdge p r obs)
    let s := if sw then s else s.loopAssign p
    s.each (List.range 12) (fun r s => (s.hold p r 0).hold p r 1))

/-- The temperature of an engine at an edge (R279): outside 25–105 °C records 0x4125 once per excursion. -/
def State.engTemp (s : State) (e : Nat) (t : Int) : State :=
  let out := decide (t < 250) || decide (1050 < t)
  let s := s.setFld (.mon e) (Mon.ENG_TEMP.sub 15 0) (unsignedOf 16 t)
  let s := if out && !(s.eng e).outOfRange then s.event 0x4125 (srcOpt e) else s
  s.modEng e (fun x => { x with temp := t, outOfRange := out })

/-- The receive margins of the rings that the monitor pages select. -/
def State.rxMargins (s : State) (obs : List RingObs) : State :=
  s.each obs (fun o s =>
    let e := ringEng o.p
    let sel := s.fld (.mon e) (Mon.MON_SEL.sub 8 0)
    if o.dir = 1 && bitsOf sel 2 0 = (o.p - 8) % 8 && bitsOf sel 7 4 = o.r then
      s.setFld (.mon e) (Mon.RX_MARGIN.sub 15 0) (unsignedOf 16 o.margin)
    else s)

/-! ### Copper trims (R300, R301) -/

/-- A trim field: register, bits and whether it is signed. -/
structure TrimFld where
  reg : Nat
  hi : Nat
  lo : Nat
  sgn : Bool
  deriving DecidableEq, Repr

def trimFields : List TrimFld :=
  [⟨0, 5, 0, true⟩, ⟨0, 11, 6, true⟩, ⟨0, 18, 12, false⟩, ⟨0, 23, 19, false⟩, ⟨0, 29, 24, false⟩,
   ⟨1, 6, 0, true⟩, ⟨1, 12, 7, true⟩]

def TrimFld.get (f : TrimFld) (w : Nat) : Int :=
  if f.sgn then signedOf (f.hi + 1 - f.lo) (bitsOf w f.hi f.lo) else (bitsOf w f.hi f.lo : Int)

/-- The bank of a trim set: lane and set. -/
def trimBank (n set : Nat) : Nat := n + 16 * set

def State.trimSet (s : State) (p n set reg : Nat) : Nat :=
  s.fld (.trm p) ⟨if reg = 0 then 0x108 else 0x10C, 31, 0⟩ (trimBank n set)

/-- Calibration temperatures of the five sets, 0.1 °C. -/
def calTemp (i : Nat) : Int := 250 + 200 * (i : Int)

/-- The trims that the VALID sets give at a temperature (R300); without one, the class defaults. -/
def State.trimTarget (s : State) (p n : Nat) (t : Int) (f : TrimFld) : Int :=
  let ok := (List.range 5).filter (fun i => bitAt (s.trimSet p n i 0) 30)
  let below := (ok.filter (fun i => decide (calTemp i ≤ t))).getLast?
  let above := ok.find? (fun i => decide (t ≤ calTemp i))
  let v := fun i => f.get (s.trimSet p n i f.reg)
  match below, above with
  | some i, some j =>
    if i = j then v i
    else
      let d := calTemp j - calTemp i
      v i + (2 * (v j - v i) * (t - calTemp i) + d) / (2 * d)
  | some i, none => v i
  | none, some j => v j
  | none, none => f.get (if f.reg = 0 then (Page.trm p).resetOf 0x110 else (Page.trm p).resetOf 0x114)

/-- The applied trims of a lane at an edge: free in TRAINING, one step at a time in ACTIVE and SPARE (R300). -/
def State.trimLane (s : State) (p n : Nat) (t : Int) : State :=
  let st := s.laneSt p n
  if st ≠ 1 && st ≠ 2 && st ≠ 3 then s
  else s.each trimFields (fun f s =>
    let fl : Fld := ⟨if f.reg = 0 then 0x110 else 0x114, f.hi, f.lo⟩
    let cur := f.get (s.fld (.trm p) ⟨fl.off, 31, 0⟩ n)
    let tgt := s.trimTarget p n t f
    let v := if st = 1 then tgt else if cur < tgt then cur + 1 else if tgt < cur then cur - 1 else cur
    s.setFld (.trm p) fl (unsignedOf (f.hi + 1 - f.lo) v) n)

/-- The copper trims at an edge. -/
def State.trimEdge (s : State) (t : Int) : State :=
  s.each (List.range 8) (fun p s =>
    let s := s.setFld (.trm p) (Trm.DIE_TEMP.sub 15 0) (unsignedOf 16 t)
    s.each (List.range 9) (fun n s => (s.trimLane p n t).setFld (.trm p) ⟨0x110, 30, 30⟩ 1 n))

/-- A copper lane has equalised with these trims (R301): the nearest set within 10 °C learns them. -/
def State.trimLearn (s : State) (p n w0 w1 : Nat) : State :=
  let s := (s.setFld (.trm p) ⟨0x110, 29, 0⟩ w0 n).setFld (.trm p) ⟨0x114, 12, 0⟩ w1 n
  if !s.flag (.trm p) Trm.TRIM_CTRL_LEARN then s
  else
    let t := signedOf 16 (s.fld (.trm p) (Trm.DIE_TEMP.sub 15 0))
    match (List.range 5).find? (fun i => decide ((t - calTemp i).natAbs ≤ 100)) with
    | none => s
    | some i =>
      if bitAt (s.trimSet p n i 0) 30 then s
      else
        let b := trimBank n i
        let s := (s.setFld (.trm p) ⟨0x108, 30, 0⟩ (w0 % 2 ^ 30 + 2 ^ 30) b).setFld (.trm p) ⟨0x10C, 12, 0⟩ w1 b
        (s.bump (.trm p) Trm.LEARN_CNT).event 0x4138 (srcPort p n) [(1, p), (1, n), (1, i)]

/-- PREFEC (R302): the largest value x with 10^(−x/256) ≥ (1 + S) / 2,621,440,000 to the nearest, found in
exact powers. -/
def prefecOf (corr : Nat) : Nat :=
  let a := 1 + corr
  let b := 2621440000
  (List.range 12).foldl (fun acc i =>
    let x := acc + 2 ^ (11 - i)
    if 2411 < x then acc
    else if a ^ 512 * 10 ^ (2 * x - 1) ≤ b ^ 512 then x else acc) 0

/-- The figures of a lane at an edge (R302). -/
def State.laneFigures (s : State) (o : LaneObs) : State :=
  let s := s.setFld (.trm o.p) (Trm.PREFEC.sub 11 0) (prefecOf o.corr1024) o.n
  match o.eye with
  | some v => if copper o.p then s.setFld (.trm o.p) (Trm.EYE_W.sub 7 0) v o.n else s
  | none => s

end Sys2Proof.Machine
end

