-- ==== Sys2Proof/Machine/SigOps.lean ====
section
/-! DEFINITION. Failure signatures: their CBOR form (R417, Table 14.5), streaming and the signature page (R418, R422). -/
namespace Sys2Proof.Machine

/-! ### CBOR (RFC 8949, core deterministic encoding) -/

/-- The head of an item: major type and argument in its shortest form. -/
def cborHead (major n : Nat) : List Nat :=
  let be := fun k => (List.range k).map (fun i => n / 256 ^ (k - 1 - i) % 256)
  if n < 24 then [major * 32 + n]
  else if n < 256 then [major * 32 + 24, n]
  else if n < 65536 then (major * 32 + 25) :: be 2
  else if n < 2 ^ 32 then (major * 32 + 26) :: be 4
  else (major * 32 + 27) :: be 8

def cborUint (n : Nat) : List Nat := cborHead 0 n
def cborInt (v : Int) : List Nat := if 0 ≤ v then cborHead 0 v.toNat else cborHead 1 (-1 - v).toNat
def cborBytes (b : List Nat) : List Nat := cborHead 2 b.length ++ b
def cborArray (l : List Nat) : List Nat := cborHead 4 l.length ++ l.flatMap cborUint

/-- A map from unsigned keys, which stand in ascending order, to encoded items. -/
def cborMap (l : List (Nat × List Nat)) : List Nat := cborHead 5 l.length ++ l.flatMap (fun e => cborUint e.1 ++ e.2)

/-- A 16-byte value. -/
def cbor16 (v : Nat) : List Nat := cborBytes ((List.range 16).map (fun i => v / 256 ^ i % 256))

/-! ### Making a signature (R418) -/

/-- The free slot, or else the oldest acknowledged one. -/
def State.sigPlace (s : State) : Option Nat :=
  match (List.range 16).find? (fun i => !(tGet s.sigs i).used) with
  | some i => some i
  | none =>
    (List.range 16).foldl (fun (b : Option Nat) i =>
      let x := tGet s.sigs i
      if !x.acked then b
      else match b with
        | some j => if x.ackOrder < (tGet s.sigs j).ackOrder then some i else b
        | none => some i) none

/-- Show a slot in SIG_META, SIG_SEQ_SLOT and SIG_STATUS. -/
def State.sigShow (s : State) (i : Nat) : State :=
  let x := tGet s.sigs i
  let s := s.setFld .sig Sig.SIG_META (x.item.length + bool01 x.acked * 2048 + x.kind * 4096) i
  let s := s.setFld .sig Sig.SIG_SEQ_SLOT x.seq i
  s.setFld .sig Sig.SIG_STATUS ((List.range 16).filter (fun i => (tGet s.sigs i).used)).length

/-- A signature of a kind on a chip; `rest` are the keys from 6 up. -/
def State.signature (s : State) (kind chip : Nat) (rest : List (Nat × List Nat)) : State :=
  let item := cborMap ([(1, cborUint 1), (2, cborUint kind), (3, cborUint chip), (4, cborUint s.chip), (5, cborUint s.tick)] ++ rest)
  let q := s.fld .sig Sig.SIG_SEQ
  let s := s.setFld .sig Sig.SIG_SEQ ((q + 1) % 2 ^ 32)
  let s := match s.streamPort with
    | some p => (s.emit (.signatureMsg p q item)).bump .mgt Mgt.TX_CNT
    | none => s
  let s := s.event 0x8120 0 [(4, q), (2, kind)]
  match s.sigPlace with
  | some i => ({ s with sigs := tSet s.sigs i { used := true, seq := q, kind := kind, item := item } }).sigShow i
  | none => (s.bump .sig Sig.SIG_DROP_CNT).event 0x8121

/-! ### The signature page (R422) -/

def State.sigSel (s : State) : Nat := s.fld .sig (Sig.SIG_SEL.sub 3 0)

/-- A write of SIG_ACK. -/
def State.sigAck (s : State) (v : Word) : State :=
  let i := s.sigSel
  let x := tGet s.sigs i
  if bitAt v.toNat 0 && x.used && !x.acked then
    ({ s with sigs := tSet s.sigs i { x with acked := true, ackOrder := s.sigAcks + 1 }, sigAcks := s.sigAcks + 1 }).sigShow i
  else s

/-- SIG_ACK (R422). -/
def execSigAck (m : Master) (s : State) : Host.Outcome State Fault Refusal := .next (s.gated m .sig (fun s => s.sigAck 1))

/-- A read of SIG_DATA (R422): the word at SIG_OFF, which moves on by 4. -/
def State.sigRead (s : State) : State × Nat :=
  let o := s.fld .sig (Sig.SIG_OFF.sub 9 0)
  let w := natLE ((((tGet s.sigs s.sigSel).item.drop o).take 4).map (BitVec.ofNat 8))
  ((s.setFld .sig Sig.SIG_DATA w).setFld .sig (Sig.SIG_OFF.sub 9 0) (o + 4), w)

/-- SIG_DATA_READ (R422), by the host. -/
def execSigDataRead (s : State) : Host.Outcome State Fault Refusal := .next (s.hostReads .sig State.sigRead)

end Sys2Proof.Machine
end

