-- ==== Sys2Proof/Machine/FieldTest.lean ====
section
/-! DEFINITION. The spinning-top test: schedule, swaps, forced swaps and outcomes (R408–R416, R421). -/
namespace Sys2Proof.Machine

/-- The key of a physical core among `fts`, and its bank on the field test page as FT_SEL names it. -/
def ftKey (cl p : Nat) : Nat := cl * 16 + p
def ftBank (cl p : Nat) : Nat := cl / 4 + cl % 4 * 2 + p * 8

def State.ftX (s : State) (cl p : Nat) : FtX := tGet s.fts (ftKey cl p)
def State.modFt (s : State) (cl p : Nat) (f : FtX → FtX) : State := { s with fts := tMod s.fts (ftKey cl p) f }
/-- FT_STATE: 0 IDLE, 1 DUE, 2 SWAP_ARMED, 3 SOAK to 6 KAT, 7 FORCING. -/
def State.ftSt (s : State) (cl p : Nat) : Nat := s.fld .ft (Ft.FT_STATE.sub 2 0) (ftBank cl p)
def State.setFtSt (s : State) (cl p v : Nat) : State := s.setFld .ft (Ft.FT_STATE.sub 2 0) v (ftBank cl p)
def State.ftDueTick (s : State) (cl p : Nat) : Nat := s.fld64 .ft Ft.FT_DUE_LO (ftBank cl p)
def State.setFtDue (s : State) (cl p t : Nat) : State := s.setFld64 .ft Ft.FT_DUE_LO t (ftBank cl p)

/-- Ticks of FT_CTRL's PERIOD and WINDOW. -/
def State.ftPeriod (s : State) : Nat := s.fld .ft Ft.FT_CTRL_PERIOD * 360000000
def State.ftWindow (s : State) : Nat := s.fld .ft Ft.FT_CTRL_WINDOW * 6000000

/-- Physical cores of the device: cluster and number. -/
def allCores : List (Nat × Nat) := (List.range 8).flatMap (fun cl => (List.range 9).map (fun p => (cl, p)))

/-- A core is due at once (R416, R421). -/
def State.ftNow_ (s : State) (cl p : Nat) : State :=
  let s := s.setFtDue cl p s.tick
  if s.ftSt cl p = 0 && s.pcore cl p ≠ 3 && !s.procFailed (3 + cl / 4) then s.setFtSt cl p 1 else s

def State.ftSweep (s : State) : State := s.each allCores (fun e s => s.ftNow_ e.1 e.2)

/-- A test or a swap waits (R410, R413): cause 1 POWER, 2 NO_JACK. -/
def State.ftDefer (s : State) (cl p cause : Nat) : State :=
  (s.bump .ft Ft.DEFER_CNT).event 0x8113 (upathCore (cl / 4) (cl % 4) p) [(2, cause)]

/-- A binding of one logical core written outside a binding change: the core is taken out or put back (R413). -/
def State.bindOne (s : State) (cl n p st v : Nat) : State :=
  let s := (s.setFld (clPage cl) Cl.BIND_MAP (mapPut (s.bindMap cl) n v)).setPcore cl p st
  s.bindSync cl

/-- A pending or running binding change takes this core as its jack core; the swap takes precedence over a test of it (Table 14.4). -/
def State.jackTaken (s : State) (cl p : Nat) : Bool :=
  let x := s.bindX cl
  (List.range 8).any (fun n => (s.bindPending cl && mapAt x.map n == p) || (s.bindBusy cl && mapAt x.goMap n == p))

/-- The next due core of a cluster is taken, or its swap armed (R411–R413). -/
def State.ftArrange (s : State) (cl : Nat) : State :=
  let ps := List.range 9
  if s.procFailed (3 + cl / 4) || s.fld .ft Ft.FT_CTRL_EN = 0 || ps.any (fun p => s.pcore cl p == 2) || ps.any (fun p => s.ftSt cl p == 2 || s.ftSt cl p == 7) then s
  else
    let due := sortKey (fun p => s.ftDueTick cl p * 16 + p) (ps.filter (fun p => s.ftSt cl p == 1 && s.pcore cl p != 3))
    match due with
    | [] => s
    | p :: _ =>
      if s.pcore cl p = 1 then (if s.jackTaken cl p then s else s.setPcore cl p 2)
      else
        let n := ((List.range 8).find? (fun n => mapAt (s.bindMap cl) n == p)).getD 0
        match ps.find? (fun q => s.pcore cl q == 1) with
        | some j =>
          if s.bindPending cl || s.bindBusy cl then s
          else
            let s := s.setFld (clPage cl) Cl.BIND_NEXT (mapPut (s.bindMap cl) n j)
            let s := (s.setFld (clPage cl) Cl.BIND_CTRL_TEST_OUT 1).bindArm cl
            ((s.setFtSt cl p 2).modFt cl p (fun x => { x with lcore := some n })).bindActions
        | none =>
          if !(List.range 8).any (fun k => s.coreBusy (cl * 8 + k)) then
            (s.bindOne cl n p 2 15).modFt cl p (fun x => { x with lcore := some n, rebind := true })
          else if (s.ftX cl p).jackNoted then s
          else (s.modFt cl p (fun x => { x with jackNoted := true })).ftDefer cl p 2

/-- Field tests at a tick edge: cores that fall due, swaps that have been applied, bindings restored, and what is arranged. -/
def State.ftEdge (s : State) : State :=
  let l := s.ftNow
  let s := ({ s with ftNow := [] }).each l (fun k s => s.ftNow_ (k / 16) (k % 16))
  let s := s.each allCores (fun e s =>
    let (cl, p) := e
    let x := s.ftX cl p
    let s := if s.ftSt cl p = 0 && decide (s.ftDueTick cl p ≤ s.tick) && s.pcore cl p ≠ 3 && s.fld .ft Ft.FT_CTRL_EN = 1
        && !s.procFailed (3 + cl / 4) then s.setFtSt cl p 1
      else s
    let s := if s.ftSt cl p = 2 && s.pcore cl p = 2 then s.setFtSt cl p 1
      else if s.ftSt cl p = 2 && !s.bindPending cl && !s.bindBusy cl then s.setFtSt cl p 1 else s
    if x.rebindNow then
      (match x.lcore with
        | some n => if s.pcore cl p = 1 && mapAt (s.bindMap cl) n = 15 then s.bindOne cl n p 0 p else s
        | none => s).modFt cl p (fun x => { x with rebindNow := false, rebind := false, lcore := none })
    else s)
  s.each (List.range 8) (fun cl s => s.ftArrange cl)

/-- FT_DUE (R411–R413): due when the core's due tick has come. -/
def execFtDue (d c p : Nat) (s : State) : Host.Outcome State Fault Refusal :=
  let cl := 4 * d + c
  .next (if s.ftDueTick cl p ≤ s.tick && s.pcore cl p ≠ 3 && !s.procFailed (3 + d) && s.fld .ft Ft.FT_CTRL_EN = 1 && s.mod_.stby then
    (if s.ftSt cl p = 0 then s.setFtSt cl p 1 else s).ftArrange cl
  else s)

/-- A write of FT_CMD (R421). -/
def State.ftCmd (s : State) (v : Word) : State :=
  let k := s.fld .ft (Ft.FT_SEL.sub 6 0)
  let s := if bitAt v.toNat 0 && k / 8 < 9 then s.ftNow_ (k % 2 * 4 + k / 2 % 4) (k / 8) else s
  if bitAt v.toNat 1 then s.ftSweep else s

/-- FT_NOW (R421). -/
def execFtNow (m : Master) (s : State) : Host.Outcome State Fault Refusal := .next (s.gated m .ft (fun s => s.ftCmd 1))

/-- FT_SWEEP (R421). -/
def execFtSweep (m : Master) (s : State) : Host.Outcome State Fault Refusal := .next (s.gated m .ft (fun s => s.ftCmd 2))

/-- FIELD_TEST_START (R410): input power at least 60 W below the cap, and the core (`temp`, 0.1 °C) at least 15 °C below 100 °C. -/
def execFieldTestStart (d c p : Nat) (temp : Int) (s : State) : Host.Outcome State Fault Refusal :=
  let cl := 4 * d + c
  .next (if s.pcore cl p = 2 && s.ftSt cl p = 1 && !s.procFailed (3 + d) then
    if s.fld .pwr Pwr.PIN_TICK + 60 ≤ s.fld .pwr Pwr.CAP_EFF && temp ≤ 850 then
      (s.setFtSt cl p 3).event 0x8110 (upathCore d c p) [(2, upathCore d c p)]
    else if (s.ftX cl p).powNoted then s
    else (s.modFt cl p (fun x => { x with powNoted := true })).ftDefer cl p 1
  else s)

/-- How a field test ended (R408, R409): the duration in µs, the rise reached in 0.1 °C, and for a failure the phase, the failing
domain, address or program, the value expected and the one observed, the core's temperature (0.1 °C) and its supply (mV). -/
def State.ftDone (s : State) (cl p : Nat) (us rise : Nat) (fail : Option (Nat × Nat × Nat × Nat × Int × Nat)) : State :=
  let b := ftBank cl p
  let d := cl / 4
  let c := cl % 4
  let x := s.ftX cl p
  let s := (s.setFld .ft (Ft.FT_DUR_US.sub 17 0) us b).setFld .ft (Ft.FT_RISE.sub 15 0) rise b
  match fail with
  | none =>
    let s := (s.setFtSt cl p 0).setFld .ft (Ft.FT_STATE.sub 4 3) 1 b
    let s := (s.setFld64 .ft Ft.FT_LAST_LO s.tick b).setFtDue cl p (s.tick + s.ftPeriod)
    let s := (s.setPcore cl p 1).bump .ft Ft.FT_PASS_CNT
    let s := s.modFt cl p (fun x => { x with powNoted := false, jackNoted := false, rebindNow := x.rebind,
                                             lcore := if x.rebind then x.lcore else none })
    s.event 0x8111 (upathCore d c p)
  | some (phase, detail, want, got, temp, mv) =>
    let s := (s.setFtSt cl p 0).setFld .ft (Ft.FT_STATE.sub 4 3) 2 b
    let s := (s.setFld .ft (Ft.FT_STATE.sub 7 5) phase b).setPcore cl p 3
    let s := (s.bump .ft Ft.FT_FAIL_CNT).event 0x8112 (upathCore d c p) [(2, phase)]
    let lc := match x.lcore with | some n => [(9, cborUint n)] | none => []
    let s := s.signature 4 s.chip ([(8, cborArray [d, c, p])] ++ lc ++ [(10, cborUint phase),
      (11, cborMap [(1, cborInt (-50)), (2, cborInt 80), (3, cborUint rise)]), (12, cborInt temp), (13, cborUint mv),
      (14, cbor16 want), (15, cbor16 got), (18, cborUint detail), (19, cborUint x.fails)])
    (s.modFt cl p (fun x => { fails := x.fails + 1 })).bindSync cl

/-- FIELD_TEST_DONE (R409). -/
def execFieldTestDone (d c p us rise : Nat) (fail : Option (Nat × Nat × Nat × Nat × Int × Nat)) (s : State) :
    Host.Outcome State Fault Refusal :=
  let cl := 4 * d + c
  .next (if s.pcore cl p = 2 && 3 ≤ s.ftSt cl p && s.ftSt cl p ≤ 6 then s.ftDone cl p us rise fail else s)

/-- A compute reset of the cluster aborts the test that runs there (R409). -/
def State.ftAbort (s : State) (cl : Nat) : State :=
  s.each (List.range 9) (fun p s =>
    if s.pcore cl p = 2 then
      let s := (s.setPcore cl p 1).setFtSt cl p 1
      (s.setFld .ft (Ft.FT_STATE.sub 4 3) 3 (ftBank cl p)).event 0x8116 (upathCore (cl / 4) (cl % 4) p)
    else s)

/-! ### Forced swaps (R414) -/

/-- The logical core whose swap is being forced has nothing in flight but suspended descriptors of class W, and it may be held at a
step fence, which waits for the swap (Table 14.4); an NMCALL runs to its end. -/
def State.drained (s : State) (lc : Nat) : Bool :=
  let q := s.seq lc
  q.chain.isNone && q.infl.all (fun i => match i.wait with
    | none => false
    | some (.nm _ _) => false
    | some _ => true)

/-- FORCED_SWAP (R414): at the end of the due window a swap that is still PENDING is forced; once the logical core has drained,
the swap takes place and `ns` is how long it stopped. -/
def execForcedSwap (d c p ns : Nat) (s : State) : Host.Outcome State Fault Refusal :=
  let cl := 4 * d + c
  match (s.ftX cl p).lcore with
  | none => .next s
  | some n =>
    let lc := cl * 8 + n
    let due := s.ftSt cl p = 2 && s.bindPending cl && decide (s.ftDueTick cl p + s.ftWindow ≤ s.tick) && (s.ftX cl p).retry = 0
    let s := if due then
        ((s.setFtSt cl p 7).modFt cl p (fun x => { x with force := s.tick + 1 })).modSeq lc (fun q => { q with hold := true }) else s
    if s.ftSt cl p = 7 && s.drained lc && s.bindPending cl then
      let s := s.modSeq lc (fun q => { q with hold := false })
      let ok := s.mapValid cl (s.bindX cl).map
      let (s, run) := s.bindApply cl none
      let s := if run then s.bindFinish cl else s
      let s := (s.setFtSt cl p 1).modFt cl p (fun x => { x with force := 0, retry := 0 })
      if !ok then .next s.bindActions else
      let s := (s.bump .ft Ft.FORCED_CNT).setFld .ft Ft.FORCE_STOP_NS ns
      let g := s.prog (s.seq lc).slot
      .next ((s.event 0x8114 (upathCore d c p) [(2, g.ctx), (8, s.stepOf g.part)]).bindActions)
    else .next s

/-- A forced swap is abandoned and will be repeated (R414, R439). -/
def State.swapAbandon (s : State) (cl p : Nat) : State :=
  match (s.ftX cl p).lcore with
  | none => s
  | some n =>
    let s := (s.setFtSt cl p 2).modFt cl p (fun x => { x with force := 0, retry := s.tick + 1 })
    let s := s.modSeq (cl * 8 + n) (fun q => { q with hold := false })
    (s.bump .ft Ft.FORCE_ABANDON_CNT).event 0x8115 (upathCore (cl / 4) (cl % 4) p)

/-- FORCED_SWAP_ABANDON (R414): not begun within 2 ms. -/
def execForcedSwapAbandon (d c p : Nat) (s : State) : Host.Outcome State Fault Refusal :=
  let cl := 4 * d + c
  .next (if s.ftSt cl p = 7 && (s.ftX cl p).force - 1 + 200 ≤ s.tick then s.swapAbandon cl p else s)

/-- FORCED_SWAP_RETRY (R414): at every 100th tick edge after an abandonment. -/
def execForcedSwapRetry (d c p : Nat) (s : State) : Host.Outcome State Fault Refusal :=
  let cl := 4 * d + c
  let x := s.ftX cl p
  match x.lcore with
  | none => .next s
  | some n =>
    if s.ftSt cl p = 2 && x.retry ≠ 0 && s.bindPending cl && (s.tick + 1 - x.retry) % 100 = 0 && x.retry ≤ s.tick then
      .next (((s.setFtSt cl p 7).modFt cl p (fun x => { x with force := s.tick + 1 })).modSeq (cl * 8 + n) (fun q => { q with hold := true }))
    else .next s

end Sys2Proof.Machine
end

