-- ==== Sys2Proof/Machine/Mirror.lean ====
section
/-! DEFINITION. The continuity table (R365, R366) and buddy mirrors (R367–R372, Table 13.4). -/
namespace Sys2Proof.Machine

/-! ### Reading and validating the table (R365, R366) -/

/-- A header (Table 13.1) from its eight words. -/
def ctHeader (w : List Nat) : CtTab :=
  let f := fun i hi lo => bitsOf (w.getD i 0) hi lo
  { policy := f 0 9 8, k := f 0 23 16, collTo := f 1 31 0, ckptSteps := f 1 63 32, ckptTicks := w.getD 2 0, pgBase := f 3 13 0,
    pgStep := f 3 29 16, g := f 3 38 32, slot0 := w.getD 4 0, slot1 := w.getD 5 0, u := f 6 31 0, gateTag := f 7 31 0 }

/-- A region entry (Table 13.2) from its four words. -/
def ctRegion (w : List Nat) : CtReg :=
  let f := fun i hi lo => bitsOf (w.getD i 0) hi lo
  let b := fun i n => bitAt (w.getD i 0) n
  { addr := w.getD 0 0, units := f 1 23 0, ckpt := b 1 32, mirror := b 1 33, hold := b 1 34, tap := b 1 35, repl := b 1 36,
    full := b 1 37, peer := f 2 13 0, rbase := f 2 29 16, rcount := f 2 46 32, rstep := f 2 61 48, peerAddr := w.getD 3 0 }

/-- The words of the table. -/
def State.ctWords (s : State) (a n : Nat) : List Nat := (List.range n).map (fun i => s.word64 (a + 8 * i))

/-- Reserved bits of header and entries are zero, VERSION = 1, POLICY is defined and K ≥ 1. -/
def ctReserved (h : List Nat) (rs : List (List Nat)) : Bool :=
  let z := fun (w : List Nat) i hi lo => bitsOf (w.getD i 0) hi lo == 0
  h.getD 0 0 % 256 == 1 && bitsOf (h.getD 0 0) 9 8 != 3 && bitsOf (h.getD 0 0) 23 16 != 0 && z h 0 63 24
    && z h 3 15 14 && z h 3 31 30 && z h 3 63 39 && z h 6 63 32 && z h 7 63 32
    && rs.all (fun r => z r 1 31 24 && z r 1 63 38 && z r 2 15 14 && z r 2 31 30 && z r 2 47 47 && z r 2 63 62)

/-- The cause with which a table is invalid (R366), 0 where it is valid. -/
def State.ctCause (s : State) (p : Nat) (h : List Nat) (rs : List (List Nat)) : Nat :=
  let t := ctHeader h
  let regs := rs.map ctRegion
  let own := s.ownRank p
  let place := fun a n => gaChip a == s.chip && gaSpace a == 0 && s.rightsRange p a n
  let apart := fun (l : List (Nat × Nat)) => l.zipIdx.all (fun e => l.zipIdx.all (fun f => e.2 == f.2 || !overlap e.1 f.1))
  let rr := regs.map (fun g => (g.addr, g.len))
  let w := { t with regs := regs }
  let slots := [(t.slot0, w.slotUnits * unit64), (t.slot1, w.slotUnits * unit64)]
  if !ctReserved h rs then 1
  else if !(apart rr && regs.all (fun g => g.addr % 4096 == 0 && g.units != 0 && place g.addr g.len)) then 2
  else if regs.any (fun g =>
      ((g.hold || g.tap) && ([g.ckpt, g.mirror, g.hold, g.tap, g.repl, g.full].filter id).length != 1)
        || (g.full && !g.mirror) || ((g.mirror || g.hold || g.tap) && own == some g.peer)
        || (g.repl && !(match own with | some r => g.ranks.contains r | none => false))) then 3
  else if t.ckptSteps % t.k != 0 || (1 ≤ t.g && t.g ≤ 3) || 64 < t.g
      || (t.g != 0 && (t.pgStep == 0 || !(match own with
          | some r => (List.range t.g).any (fun m => t.rankOf m == r)
          | none => false))) then 4
  else if t.g != 0 && t.u < (regs.map (fun g => if g.ckpt then (g.units + 15) / 16 else 0)).foldl (· + ·) 0 then 5
  else if t.g != 0 && !(slots.all (fun x => x.1 % unit64 == 0 && gaChip x.1 == s.chip && gaSpace x.1 == 0) && apart (slots ++ rr)) then 6
  else 0

/-! ### Mirrors (R367, Table 13.4) -/

def State.mirX (s : State) (p r : Nat) : MirX := tGet s.mirs (p + 4096 * r)
def State.modMir (s : State) (p r : Nat) (f : MirX → MirX) : State := { s with mirs := tMod s.mirs (p + 4096 * r) f }
/-- State of a mirror: 0 NONE, 1 PENDING, 2 IN_STEP, 3 STALE, 4 REFUSED, 5 PEER_LOST. -/
def State.mirSt (s : State) (p r : Nat) : Nat := s.fld .ct (Ct.MIR_STATE.sub 2 0) (p + 4096 * r)
def State.setMir (s : State) (p r st cause : Nat) : State := s.setFld .ct (Ct.MIR_STATE.sub 4 0) (st + cause * 8) (p + 4096 * r)

/-- The region of a table. -/
def CtTab.reg (t : CtTab) (r : Nat) : CtReg := t.regs.getD r {}

/-- A refused mirror (R367): 1 FD, 2 MATCH. -/
def State.mirRefuse (s : State) (p r cause : Nat) : State := (s.setMir p r 4 cause).event 0x7102 0 [(2, p), (1, r), (2, cause)]

def State.mirInStep (s : State) (p r ev : Nat) : State := (s.setMir p r 2 0).event ev 0 [(2, p), (1, r)]

def State.fdId (s : State) : Nat := s.fld .ct (Ct.FD_ID.sub 15 0)

/-- BUDDY_HELLO of a MIRROR region. -/
def State.buddyHello (s : State) (p r : Nat) : State :=
  let g := (s.ctOf p).reg r
  match s.rankChip p g.peer with
  | none => s.modMir p r (fun x => { x with hello := s.tick + 1 })
  | some c => (s.modMir p r (fun x => { x with hello := s.tick + 1 })).contSend c 1 p (s.stepOf p)
      [r, g.addr, g.units, (s.ownRank p).getD 0, s.fdId]

/-- The replica sets of a table in the order of their first appearance: the triple and its regions (R398). -/
def CtTab.sets (t : CtTab) : List ((Nat × Nat × Nat) × List CtReg) :=
  let key := fun (g : CtReg) => (g.rbase, g.rcount, g.rstep)
  let reps := t.regs.filter (·.repl)
  ((reps.map key).foldl (fun acc k => if acc.contains k then acc else acc ++ [k]) []).map (fun k => (k, reps.filter (fun g => key g == k)))

/-- DG_SET0 and DG_SET1 of a partition's sets; sets beyond the eighth are recorded (R398). -/
def State.dgSets (s : State) (p : Nat) (t : CtTab) : State :=
  let s := s.each (List.range 8) (fun i s =>
    match t.sets[i]? with
    | some ((b, c, st), l) => (s.setFld .dg Dg.DG_SET0 (b + st * 65536) (p + 4096 * i)).setFld .dg Dg.DG_SET1 (c + l.length * 65536 + 2 ^ 22) (p + 4096 * i)
    | none => (s.setFld .dg Dg.DG_SET0 0 (p + 4096 * i)).setFld .dg Dg.DG_SET1 0 (p + 4096 * i))
  if 8 < t.sets.length then s.event 0x810A 0 [(2, p)] else s

/-- The table is read and validated after an activation (R365). -/
def State.ctValidate (s : State) (p : Nat) : State :=
  let a := s.fld64 .ct Ct.CT_ADDR_LO p
  let s := s.each (List.range 63) (fun r s => { s.setMir p r 0 0 with mirs := tSet s.mirs (p + 4096 * r) {} })
  if a = 0 then ({ s.setFld .ct Ct.CT_STATUS 0 p with ct := tSet s.ct p {} }).dgSets p {}
  else
    let h := s.ctWords a 8
    let n := bitsOf (h.getD 0 0) 15 10
    let rs := (List.range n).map (fun i => s.ctWords (a + 0x40 + 32 * i) 4)
    let cause := s.ctCause p h rs
    if cause = 0 then
      let t := { ctHeader h with valid := true, regs := rs.map ctRegion }
      let s := { s with ct := tSet s.ct p t }
      let s := (s.setFld .ct Ct.CT_STATUS (1 + n * 16 + t.policy * 1024 + t.k * 4096) p).dgSets p t
      s.each t.regs.zipIdx (fun e s =>
        if e.1.mirror then (s.setMir p e.2 1 0).buddyHello p e.2
        else if e.1.hold then s.setMir p e.2 1 0 else s)
    else
      let s := ({ s with ct := tSet s.ct p {} }).dgSets p {}
      (s.setFld .ct Ct.CT_STATUS (cause * 2 + n * 16) p).event 0x7101 0 [(2, p), (2, cause)]

/-- CT_VALIDATION_DONE (R365): due after an activation of the partition's scope. -/
def execCtValidationDone (p : Nat) (s : State) : Host.Outcome State Fault Refusal :=
  .next (if (s.ctOf p).due then s.ctValidate p else s)

/-- BUDDY_HELLO_RETRY (R367): 100 ticks without an answer. -/
def execBuddyHelloRetry (p r : Nat) (s : State) : Host.Outcome State Fault Refusal :=
  .next (let x := s.mirX p r
    if ((s.ctOf p).reg r).mirror && s.mirSt p r = 1 && x.hello ≠ 0 && x.hello - 1 + 100 ≤ s.tick then s.buddyHello p r else s)

/-- BUDDY_HELLO at the buddy (R367): the owner's failure domain and the matching HOLD region are checked. -/
def State.helloRx (s : State) (chip p idx addr units rank fd : Nat) : State :=
  let t := s.ctOf p
  if t.due then s
  else
    let hit := t.regs.findIdx? (fun g => g.hold && g.peer == rank && g.peerAddr == addr && g.units == units)
    let status := if fd = s.fdId then 1 else if hit.isNone then 2 else 0
    let s := match hit with
      | some r =>
        let s := s.modMir p r (fun x => { x with peerIdx := idx })
        if status = 1 then s.mirRefuse p r 1 else if s.mirSt p r = 1 then s.mirInStep p r 0x7103 else s
      | none => s
    s.contSend chip 2 p (s.stepOf p) [idx, status, s.fdId]

/-- BUDDY_HELLO (R367). -/
def execBuddyHello (chip part idx addr units rank fd : Nat) (s : State) : Host.Outcome State Fault Refusal :=
  .next (s.helloRx chip part idx addr units rank fd)

/-- BUDDY_REPLY at the owner (R367). -/
def State.replyRx (s : State) (p idx status fd : Nat) : State :=
  if ((s.ctOf p).reg idx).mirror && s.mirSt p idx = 1 then
    let s := s.modMir p idx (fun x => { x with hello := 0 })
    if status = 1 || fd = s.fdId then s.mirRefuse p idx 1
    else if status = 2 then s.mirRefuse p idx 2
    else s.mirInStep p idx 0x7103
  else s

/-- BUDDY_REPLY (R367). -/
def execBuddyReply (part idx status fd : Nat) (s : State) : Host.Outcome State Fault Refusal :=
  .next (s.replyRx part idx status fd)

/-! ### Verification (R371, R372) -/

/-- Both digests of a fence are here: they are compared (R372). -/
def State.mirCompare (s : State) (p r : Nat) : State :=
  let x := s.mirX p r
  match x.own, x.peer with
  | some a, some b =>
    if x.step = x.peerStep then
      let s := s.modMir p r (fun x => { x with own := none, peer := none })
      if a = b then
        let s := s.setFld64 .ct Ct.MIR_STEP_LO x.step (p + 4096 * r)
        if s.mirSt p r = 3 then s.mirInStep p r 0x7106 else s
      else
        let s := (s.setMir p r 3 0).modMir p r (fun x => { x with full := true })
        (s.bump .ct Ct.MIR_MISMATCH_CNT p).event 0x7105 0 [(2, p), (1, r)]
    else s
  | _, _ => s

/-- The mirrors of a partition at a digest fence (R371, R372): full copies that are due, and the digests of the others. -/
def State.mirFence (s : State) (p step : Nat) : State :=
  s.each (s.ctOf p).regs.zipIdx (fun e s =>
    let (g, r) := e
    let st := s.mirSt p r
    if (g.mirror || g.hold) && (st = 2 || st = 3) then
      match s.rankChip p g.peer with
      | none => s
      | some c =>
        if g.mirror && (g.full || (s.mirX p r).full) then
          let s := s.modMir p r (fun x => { x with full := false, own := none })
          (s.engWrite p c g.peerAddr (s.peekN g.addr g.len) 3).1
        else if g.full then s
        else
          let d := s.digestOf p g.addr g.len
          let s := s.modMir p r (fun x => { x with step := step, own := some d })
          let s := s.contSend c 3 p step [(if g.mirror then r else (s.mirX p r).peerIdx + 64), d]
          s.mirCompare p r
    else s)

/-- MIRROR_DIGEST of a peer (R372). The index is that of the owner's region; 64 more says that the holder sent it. -/
def State.mirDigestRx (s : State) (chip p step idx d : Nat) : State :=
  let t := s.ctOf p
  let r := if 64 ≤ idx then (if (t.reg (idx - 64)).mirror then some (idx - 64) else none)
    else t.regs.zipIdx.findSome? (fun e =>
      if e.1.hold && (s.mirX p e.2).peerIdx == idx && s.rankChip p e.1.peer == some chip then some e.2 else none)
  match r with
  | none => s
  | some r => (s.modMir p r (fun x => { x with peerStep := step, peer := some d })).mirCompare p r

/-- MIRROR_DIGEST (R372). -/
def execMirrorDigest (chip part step idx digest : Nat) (s : State) : Host.Outcome State Fault Refusal :=
  .next (s.mirDigestRx chip part step idx digest)

end Sys2Proof.Machine
end

