-- ==== Sys2Proof/Machine/Recov.lean ====
section
/-! DEFINITION. Losses and recovery commands (R386–R391). -/
namespace Sys2Proof.Machine

/-! ### Commands and their rejection (R387, R397) -/

def State.rcSel (s : State) : Nat := s.fld .rc (Rc.RC_SEL.sub 11 0)
def State.rcArg (s : State) (p : Nat) : Nat := s.fld64 .rc Rc.RC_ARG_LO p

/-- A recovery command is rejected with a cause of R397. -/
def State.rcReject (s : State) (p op cause : Nat) : State :=
  let s := if s.rcSt p = 1 then s else
    let s := s.setFld .rc (Rc.RC_STATUS.sub 1 0) 3 p
    (s.setFld .rc (Rc.RC_STATUS.sub 7 4) op p).setFld .rc (Rc.RC_STATUS.sub 11 8) cause p
  s.event 0x7124 0 [(2, p), (2, cause)]

/-- A recovery command that is done at once. -/
def State.rcDone (s : State) (p op : Nat) : State :=
  if s.rcSt p = 1 then s else
    let s := s.setFld .rc (Rc.RC_STATUS.sub 1 0) 2 p
    (s.setFld .rc (Rc.RC_STATUS.sub 7 4) op p).setFld .rc (Rc.RC_STATUS.sub 11 8) 0 p

/-- A recovery command starts in the background. -/
def State.rcStart (s : State) (p op : Nat) (x : RcX) : State :=
  let s := s.setFld .rc (Rc.RC_STATUS.sub 1 0) 1 p
  let s := (s.setFld .rc (Rc.RC_STATUS.sub 7 4) op p).setFld .rc (Rc.RC_STATUS.sub 11 8) 0 p
  (s.setFld .rc Rc.RC_MIB 0 p).setRc p { x with op := op, marked := (s.rcX p).marked }

/-- A restored state is accepted (R390): the digest is shown. -/
def State.rcAccept (s : State) (p d : Nat) : State :=
  let s := s.each (List.range 4) (fun i s => s.setFld .rc (Rc.RC_DIGEST i) (d / 2 ^ (32 * i) % 2 ^ 32) p)
  ((s.bump .rc Rc.RC_OK_CNT p).event 0x7122 0 [(2, p), (16, d)]).rcEnd p 2 0

/-- A restored state is not accepted, or cannot be had. -/
def State.rcFail (s : State) (p cause : Nat) : State :=
  ((s.bump .rc Rc.RC_FAIL_CNT p).event 0x7123 0 [(2, p), (2, cause)]).rcEnd p 3 cause

/-! ### LOSS (R386) -/

/-- A rank of the partition is lost on this device; a PULL from it fails (Table 13.9). -/
def State.loss (s : State) (p r : Nat) : State :=
  if (s.partX p).lost.contains r then s
  else
    let s := s.modPartX p (fun x => { x with lost := r :: x.lost })
    let mine := (s.colls.filter (fun c => c.part == p && c.ranks.contains r && c.own != r)).map (·.tag)
    let s := s.each mine (fun t s => match s.coll t with
      | some c => if c.ranks.contains r then s.collLose c [r] else s
      | none => s)
    let s := if s.policy p = 1 then (s.addAbsent p [r]).1 else s
    let s := s.each (s.ctOf p).regs.zipIdx (fun e s =>
      if (e.1.mirror || e.1.hold) && e.1.peer == r then s.setMir p e.2 5 0 else s)
    let t := s.ctOf p
    let s := if (List.range t.g).any (fun m => t.rankOf m == r) then s.ckAbort p 1 true else s
    let s := s.event 0x7120 0 [(2, p), (2, r)]
    if s.rcSt p = 1 && (s.rcX p).op = 4 && (s.rcX p).rank = r then s.rcFail p 5 else s

/-- The rank table of a partition holds a rank. -/
def State.hasRank (s : State) (p r : Nat) : Bool :=
  match s.rankSlot p with
  | some n => (s.rankList n).any (fun e => e.1 == r)
  | none => false

def State.lossCmd (s : State) (p r : Nat) : State :=
  if s.hasRank p r then (s.loss p r).rcDone p 1 else s.rcReject p 1 2

/-! ### HALT and ROLLBACK (R387) -/

/-- The programs of a halted partition end with TORN_DOWN and its contexts are torn down. -/
def State.haltEnd (s : State) (p : Nat) : State :=
  let s := s.modPartX p (fun x => { x with haltFence := false })
  let s := s.endPrograms 9 (fun _ g => g.part == p)
  s.each ((s.ctxsOf p).filter (fun c => s.ctxState c = 1)) (fun c s => s.ctxTear c)

/-- The programs of a partition end as HALT ends them (Table 13.8): at once, or at the step fence where the gate of the step in
progress has completed. -/
def State.haltPart (s : State) (p : Nat) : State :=
  let s := s.setFld .rc (Rc.RC_STATUS.sub 2 2) 1 p
  let s := s.ckAbort p 5 true
  let s := s.each (List.range 8) (fun i s =>
    if (tGet s.dgs (p + 4096 * i)).hold then
      { s.setFld .dg (Dg.DG_STATUS.sub 4 4) 0 (p + 4096 * i) with dgs := tMod s.dgs (p + 4096 * i) (fun x => { x with hold := false }) }
    else s)
  if s.fld64 .ct Ct.GATE_STEP_LO p = s.stepOf p + 1 && s.progs.any (fun e => e.2.active && e.2.part == p && e.2.ended.isNone) then
    s.modPartX p (fun x => { x with haltFence := true })
  else s.haltEnd p

def State.haltCmd (s : State) (p : Nat) : State :=
  if s.partState p = 3 then (s.haltPart p).rcDone p 2 else s.rcReject p 2 1

/-- The step counter of a partition. -/
def State.setStep (s : State) (p v : Nat) : State := s.setFld64 .stp Stp.STEP_COUNT_LO v p

def State.rollback (s : State) (p : Nat) : State :=
  let a := s.rcArg p
  let ok := (s.halted p && !(s.partX p).haltFence && (a == s.stepOf p
      || (a == s.fld64 .ck Ck.JOB_CKPT_LO p && bitAt (s.fld .ck Ck.JOB_CKPT_CTRL p) 1)))
    || (s.partState p == 3 && !(s.partX p).started)
  if !ok || s.rcSt p = 1 then s.rcReject p 3 1
  else
    let s := (s.setStep p a).setFld .rc (Rc.RC_STATUS.sub 2 2) 0 p
    let s := s.modPartX p (fun x => { x with lost := [] })
    (s.event 0x7121 0 [(2, p), (8, a)]).rcDone p 3

/-! ### PULL (R388) -/

/-- A PULL of a region from a chip. -/
def State.pullStart (s : State) (p reg rank src : Nat) (x : RcX) : State :=
  let g := (s.ctOf p).reg reg
  match s.rankChip p rank with
  | none => s.rcReject p 4 2
  | some c =>
    let n := ((List.range 64).filter (fun b => bitAt (s.fld64 .rc Rc.PULL_BND_LO p) b)).length
    (s.rcStart p 4 { x with region := reg, rank := rank }).contSend c 8 p (s.stepOf p) [src, g.len, g.addr, n]

def State.pullCmd (s : State) (p reg rank : Nat) : State :=
  let t := s.ctOf p
  if s.rcSt p = 1 then s.rcReject p 4 1
  else if !t.valid || t.regs.length ≤ reg || s.rankChip p rank ≠ some (gaChip (s.rcArg p)) then s.rcReject p 4 2
  else s.pullStart p reg rank (s.rcArg p) {}

/-- Write bytes to a peer over a named bundle, with DET = 1 so that later hops route by table (R388). -/
def State.engWriteVia (s : State) (part chip addr : Nat) (data : List Byte) (b : Nat) : State :=
  let c := s.engCtx part
  let g := s.ctxGen c
  s.each (List.range ((data.length + 191) / 192)) (fun i s =>
    let ph := s.txPhase part
    let (s, n) := s.takeNctr part ph 0
    let h : FlitHdr := { dest := chip, src := s.chip, part := part, ctx := c, gen := g, kp := ph, cls := 3, nctr := n, det := true,
                         hops := 1, next := s.bndPeer b }
    let s := s.enqueue b { h := h, p := .wr ((addr + 192 * i) % 2 ^ 48) ((data.drop (192 * i)).take 192) }
    { s with outst := s.outst ++ [{ chip := chip, part := part, tag := n % 2 ^ 32, lc := engLc part, infl := 3 }] })

/-- A region covers a range. -/
def CtReg.covers (g : CtReg) (a n : Nat) : Bool := decide (g.addr ≤ a) && decide (a + n ≤ g.addr + g.len)

/-- The source permits a PULL (R388). -/
def State.pullOk (s : State) (chip p src n : Nat) : Bool :=
  (s.ctOf p).regs.any (fun g => g.covers src n &&
    (((g.hold || g.mirror) && s.rankChip p g.peer == some chip)
      || (g.repl && g.ranks.any (fun r => s.rankChip p r == some chip))))

/-- PULL_REQ at the source: the range is streamed in units of 64 KiB and digested, and PULL_DONE follows. -/
def State.pullReqRx (s : State) (chip p src n tgt : Nat) : State :=
  if s.pullOk chip p src n then
    let bs := (List.range 64).filter (fun b => bitAt (s.fld64 .rc Rc.PULL_BND_LO p) b && s.bndUp b)
    let s := s.each (List.range ((n + unit64 - 1) / unit64)) (fun i s =>
      let d := s.peekN (src + i * unit64) (min unit64 (n - i * unit64))
      if bs.isEmpty then (s.engWrite p chip (tgt + i * unit64) d 3).1
      else s.engWriteVia p chip (tgt + i * unit64) d (bs.getD (i % bs.length) 0))
    s.contSend chip 9 p (s.stepOf p) [0, s.digestOf p src n]
  else s.contSend chip 9 p (s.stepOf p) [1, 0]

/-! ### LOAD_SLOT and REBUILD (R387, R389, R390) -/

/-- The slot of the job-wide checkpoint. -/
def State.jobSlot (s : State) (p : Nat) : Nat := s.fld .ck Ck.JOB_CKPT_CTRL p % 2

/-- Digests of the three areas of a slot. -/
def State.slotDigests (s : State) (p slot : Nat) : List Nat :=
  let t := s.ctOf p
  [s.digestOf p (t.unitAddr slot 1) (t.u * unit64), s.digestOf p (t.unitAddr slot (t.u + 1)) (t.w * unit64),
    s.digestOf p (t.unitAddr slot (t.u + t.w + 1)) (t.w * unit64)]

/-- Digests of a member in a commit record at an address. -/
def State.recDigests (s : State) (a m : Nat) : List Nat := (List.range 3).map (fun i => natLE (s.peekN (a + 0x40 + 48 * m + 16 * i) 16))

def State.loadSlot (s : State) (p : Nat) : State :=
  let t := s.ctOf p
  let slot := s.jobSlot p
  if s.rcSt p = 1 || !s.halted p || !t.valid || t.g = 0 || !bitAt (s.fld .ck Ck.JOB_CKPT_CTRL p) 1 || s.recState t slot ≠ 1 then
    s.rcReject p 5 1
  else if s.slotDigests p slot ≠ s.recDigests (t.unitAddr slot 0) ((s.ckMember p).getD 0) then s.rcReject p 5 4
  else s.rcStart p 5 {}

/-- The slot's data area goes back into the CKPT regions that this member wrote; the other REPL regions are marked for PULL. -/
def State.loadRegions (s : State) (p : Nat) : State :=
  let t := s.ctOf p
  s.each t.places (fun e s =>
    if s.copies p e.2.1 then s.engStore e.2.1.addr (s.peekN (t.unitAddr (s.jobSlot p) e.2.2) e.2.1.len)
    else s.setRc p { s.rcX p with marked := (s.rcX p).marked ++ [e.1] })

/-- The slot unit that a member holds in a row, none for a data unit beyond U, which is all zero. -/
def CtTab.rowUnit (t : CtTab) (m r : Nat) : Option Nat :=
  if r % t.g = m then some (t.pUnit r)
  else if (r + 1) % t.g = m then some (t.qUnit r)
  else
    match (List.range (t.g - 2)).find? (fun i => dataRow m (r / t.g * (t.g - 2) + i) t.g == r) with
    | some i => if r / t.g * (t.g - 2) + i < t.u then some (r / t.g * (t.g - 2) + i + 1) else none
    | none => none

/-- The place of a member in a row's stripes: data index, G − 2 for P, G − 1 for Q. -/
def CtTab.stripe (t : CtTab) (m r : Nat) : Nat :=
  if r % t.g = m then t.g - 2 else if (r + 1) % t.g = m then t.g - 1 else dataIndex m r t.g

/-- A second member that is lost here too. -/
def State.otherLost (s : State) (p : Nat) : Option Nat :=
  let t := s.ctOf p
  (List.range t.g).find? (fun m => some m != s.ckMember p
    && ((s.partX p).lost.contains (t.rankOf m) || (s.absentSet p).contains (t.rankOf m) || (s.rankChip p (t.rankOf m)).isNone))

/-- Read bytes of a peer into own memory for the engine. -/
def State.engRead (s : State) (part chip addr n dst : Nat) : State :=
  let c := s.engCtx part
  let g := s.ctxGen c
  s.each (List.range ((n + 207) / 208)) (fun i s =>
    let tag := s.fld64 (.cry 0) Cry.NCTR_LO (keyBank part (s.txPhase part)) % 2 ^ 32
    let b := min 208 (n - 208 * i)
    let (s, _) := s.sendE2e chip part c g 3 0 (.rdReq ((addr + 208 * i) % 2 ^ 48) b tag)
    { s with outst := s.outst ++ [{ chip := chip, part := part, tag := tag, read := true, lc := engLc part, infl := 2,
                                    dst := dst + 208 * i, bytes := b }] })

/-- Fetch the other units of the first row that is left, or the commit record when none is left (R389). -/
def State.rebuildNext (s : State) (p : Nat) : State :=
  let t := s.ctOf p
  let x := s.rcX p
  let slot := s.jobSlot p
  match x.rows with
  | r :: _ =>
    let live := (List.range t.g).filter (fun m => some m != s.ckMember p && some m != s.otherLost p)
    let s := s.each live (fun m s =>
      match t.rowUnit m r, s.rankChip p (t.rankOf m) with
      | some n, some c => s.engRead p c (t.unitAddr slot n) unit64 (t.unitAddr slot (t.stageUnit m))
      | _, _ => s.engZero (t.unitAddr slot (t.stageUnit m)) unit64)
    let n := x.units + live.length
    (s.setRc p { x with units := n }).setFld .rc Rc.RC_MIB (n / 16) p
  | [] =>
    match s.rankChip p x.rank with
    | some c => (s.setRc p { x with record := true }).engRead p c (t.unitAddr slot 0) (64 + 48 * t.g) (t.unitAddr slot (t.stageUnit 0))
    | none => s.rcFail p 5

/-- Every read of a row has come: the own unit is rebuilt (Table 7.4) and written. -/
def State.rebuildRow (s : State) (p r : Nat) : State :=
  let t := s.ctOf p
  let slot := s.jobSlot p
  let me := (s.ckMember p).getD 0
  match t.rowUnit me r with
  | none => s
  | some n =>
    let st := (List.range t.g).map (fun i =>
      match (List.range t.g).find? (fun m => t.stripe m r == i) with
      | some m => (s.peekN (t.unitAddr slot (t.stageUnit m)) unit64).map (·.toNat)
      | none => [])
    let x := t.stripe me r
    let y := match s.otherLost p with | some m => t.stripe m r | none => 63
    let ds := rsRebuild unit64 (t.g - 2) x y st
    let (pp, qq) := rsParity unit64 ds
    s.engStore (t.unitAddr slot n) (toBytes (if x < t.g - 2 then ds.getD x [] else if x = t.g - 2 then pp else qq))

/-- A read of the engine has been answered: when the row is complete it is rebuilt and the next one fetched. -/
def State.rcRead (s : State) (p : Nat) : State :=
  if s.outst.any (fun o => o.lc == engLc p && o.infl == 2) then s
  else
    let x := s.rcX p
    if s.rcSt p = 1 && x.op = 6 && !x.record then
      match x.rows with
      | r :: t => ((s.rebuildRow p r).setRc p { x with rows := t }).rebuildNext p
      | [] => s
    else s

def State.rebuildCmd (s : State) (p rank : Nat) : State :=
  let t := s.ctOf p
  let me := s.ckMember p
  if s.rcSt p = 1 || !s.halted p || !t.valid || t.g = 0 || me.isNone then s.rcReject p 6 1
  else if !(List.range t.g).any (fun m => t.rankOf m == rank && some m != me && some m != s.otherLost p) || (s.rankChip p rank).isNone then
    s.rcReject p 6 2
  else
    let rows := (List.range (t.g * t.w)).filter (fun r => (t.rowUnit (me.getD 0) r).isSome)
    (s.rcStart p 6 { rank := rank, rows := rows }).rebuildNext p

/-- RECOVERY_CMD_DONE (R390): LOAD_SLOT or REBUILD has moved its data; its digests are checked. -/
def execRecoveryCmdDone (p : Nat) (s : State) : Host.Outcome State Fault Refusal :=
  let t := s.ctOf p
  let x := s.rcX p
  let slot := s.jobSlot p
  let me := (s.ckMember p).getD 0
  if s.rcSt p ≠ 1 then .next s
  else if x.op = 5 then
    let s := s.loadRegions p
    .next (s.rcAccept p ((s.recDigests (t.unitAddr slot 0) me).getD 0 0))
  else if x.op = 6 && x.record && !s.outst.any (fun o => o.lc == engLc p && o.infl == 2) then
    let a := t.unitAddr slot (t.stageUnit 0)
    let b := s.peekN a (64 + 48 * t.g)
    if (b.getD 1 0).toNat = 1 && s.slotDigests p slot = s.recDigests a me then
      .next ((s.engStore (t.unitAddr slot 0) b).rcAccept p ((s.recDigests a me).getD 0 0))
    else .next (s.rcFail p 4)
  else .next s

/-- CLEAR_ABSENT (R387). -/
def State.clearAbsent (s : State) (p : Nat) : State :=
  let s := s.each (List.range 8) (fun n s => s.setFld .rc (Rc.ABSENT n) 0 p)
  (s.modPartX p (fun x => { x with lost := [] })).rcDone p 7

/-- A write of RC_CMD (Table 13.8). -/
def State.rcCmd (s : State) (v : Word) : State :=
  let p := s.rcSel
  let reg := bitsOf v.toNat 9 4
  let rank := bitsOf v.toNat 23 10
  match v.toNat % 16 with
  | 1 => s.lossCmd p rank
  | 2 => s.haltCmd p
  | 3 => s.rollback p
  | 4 => s.pullCmd p reg rank
  | 5 => s.loadSlot p
  | 6 => s.rebuildCmd p rank
  | 7 => s.clearAbsent p
  | op => s.rcReject p op 2

/-- LOSS (R386). -/
def execLoss (m : Master) (rank : Nat) (s : State) : Host.Outcome State Fault Refusal :=
  .next (s.gated m .rc (fun s => s.lossCmd s.rcSel rank))

/-- HALT (R387). -/
def execHalt (m : Master) (s : State) : Host.Outcome State Fault Refusal := .next (s.gated m .rc (fun s => s.haltCmd s.rcSel))

/-- ROLLBACK (R387). -/
def execRollback (m : Master) (s : State) : Host.Outcome State Fault Refusal := .next (s.gated m .rc (fun s => s.rollback s.rcSel))

/-- PULL (R388). -/
def execPull (m : Master) (reg rank : Nat) (s : State) : Host.Outcome State Fault Refusal :=
  .next (s.gated m .rc (fun s => s.pullCmd s.rcSel reg rank))

/-- PULL_REQ (R388). -/
def execPullReq (chip part src n tgt : Nat) (s : State) : Host.Outcome State Fault Refusal :=
  .next (s.pullReqRx chip part src n tgt)

/-- LOAD_SLOT (R387). -/
def execLoadSlot (m : Master) (s : State) : Host.Outcome State Fault Refusal := .next (s.gated m .rc (fun s => s.loadSlot s.rcSel))

/-- REBUILD (R389). -/
def execRebuild (m : Master) (rank : Nat) (s : State) : Host.Outcome State Fault Refusal :=
  .next (s.gated m .rc (fun s => s.rebuildCmd s.rcSel rank))

/-- CLEAR_ABSENT (R387). -/
def execClearAbsent (m : Master) (s : State) : Host.Outcome State Fault Refusal :=
  .next (s.gated m .rc (fun s => s.clearAbsent s.rcSel))

end Sys2Proof.Machine
end

