-- ==== Sys2Proof/Machine/Replica.lean ====
section
/-! DEFINITION. Replica sets: digests, votes, verdicts, expulsion and rechecks (R398–R407, R416), and the end of a PULL
(R388, R390). -/
namespace Sys2Proof.Machine

def dgKey (p i : Nat) : Nat := p + 4096 * i
def State.dgX (s : State) (p i : Nat) : DgX := tGet s.dgs (dgKey p i)
def State.modDg (s : State) (p i : Nat) (f : DgX → DgX) : State := { s with dgs := tMod s.dgs (dgKey p i) f }

/-- The present members of a set, ascending. -/
def State.dgMembers (s : State) (p i : Nat) : List Nat :=
  match (s.ctOf p).sets[i]? with
  | some ((b, c, st), _) => sortNat ((List.range c).map (fun k => b + k * st) |>.filter (fun r => !(s.absentSet p).contains r))
  | none => []

/-- The leader of a set (R401). -/
def State.dgLeader (s : State) (p i : Nat) : Option Nat := (s.dgMembers p i).head?
def State.isLeader (s : State) (p i : Nat) : Bool := s.dgLeader p i == s.ownRank p && (s.ownRank p).isSome

/-- The digest of a set (R399). -/
def State.setDigest (s : State) (p i : Nat) : Nat :=
  match (s.ctOf p).sets[i]? with
  | some (_, l) => digest128 (s.digKey p) (l.flatMap (fun g => bytesLE 16 (s.digestOf p g.addr g.len)))
  | none => 0

def State.setDg128 (s : State) (f : Nat → Fld) (v bank : Nat) : State :=
  s.each (List.range 4) (fun i s => s.setFld .dg (f i) (v / 2 ^ (32 * i) % 2 ^ 32) bank)

/-- Digests are launched at a digest fence (R399): answers the regions read. The gate waits for the verdicts from now on (R400). -/
def State.dgFence (s : State) (p step : Nat) : State × List CtReg :=
  let l := ((s.ctOf p).sets.take 8).zipIdx.filter (fun e => e.1.1.2.1 != 1)
  (s.each l (fun e s =>
    let d := s.setDigest p e.2
    let s := s.modDg p e.2 (fun x => { step := step, fence := s.tick, due := true, hold := true, own := d,
                                       votes := x.votes.filter (fun v => decide (step ≤ v.step)) })
    let s := s.setFld .dg (Dg.DG_STATUS.sub 3 3) (bool01 (s.isLeader p e.2)) (dgKey p e.2)
    s.setFld .dg (Dg.DG_STATUS.sub 4 4) 1 (dgKey p e.2)), l.flatMap (fun e => e.1.2))

/-- The hold of the gate ends (R400). -/
def State.holdEnd (s : State) (p i : Nat) : State :=
  ((s.modDg p i (fun x => { x with hold := false })).setFld .dg (Dg.DG_STATUS.sub 4 4) 0 (dgKey p i)).collPumpAll

/-! ### SUSPECT and expulsion (R405, R416) -/

/-- The device becomes SUSPECT: every core is due (R416). -/
def State.suspect (s : State) : State :=
  if s.flag .dg Dg.DG_SUSPECT_SUSPECT then s
  else ((s.setFld .dg Dg.DG_SUSPECT_SUSPECT 1).event 0x8109).ftSweep

/-- FENCE is set in the peer-table entry of (chip, partition), which is made when there is none (R405). -/
def State.fencePeer (s : State) (chip p : Nat) : State :=
  let v := chip + p * 65536
  match s.regs.find? (fun e => regAddr e.1 == Page.rt.base + 0x134 && e.2.toNat % 2 ^ 28 == v && bitAt e.2.toNat 28) with
  | some e => s.setReg e.1 (BitVec.ofNat 32 (v + 3 * 2 ^ 28))
  | none =>
    match (List.range 8192).find? (fun i => !bitAt (s.reg (regKey .rt 0x134 i)).toNat 28) with
    | some i => s.setReg (regKey .rt 0x134 i) (BitVec.ofNat 32 (v + 3 * 2 ^ 28))
    | none => s.event 0x8109

/-- The chip that the rank table names for a rank, fenced or not. -/
def State.rawChip (s : State) (p r : Nat) : Option Nat :=
  match s.rankSlot p with
  | some n => ((s.rankList n).find? (fun e => e.1 == r)).map (·.2)
  | none => none

/-- Keys of a replica signature (Table 14.5). -/
def State.dgSig (s : State) (p i kind chip want got agree dis missing : Nat) : State :=
  let (b, c, st) := match (s.ctOf p).sets[i]? with | some (k, _) => k | none => (0, 0, 0)
  let votes := if kind = 3 then [] else [(17, cborArray [agree, dis, missing])]
  s.signature kind chip ([(6, cborUint p), (7, cborUint (s.dgX p i).step), (14, cbor16 want), (15, cbor16 got),
    (16, cborArray [b, c, st])] ++ votes)

/-- This device is expelled (R405): kind 1 by a vote, 2 by a recheck, 3 by itself. A device that expels itself is not named by a
verdict, so it neither counts as expelled nor records event 0x8102. -/
def State.expelled (s : State) (p i kind maj agree dis missing : Nat) : State :=
  let own := (s.dgX p i).own
  let s := s.suspect
  let s := s.haltPart p
  let s := s.each s.upBundles (fun b s => s.contSend (s.bndPeer b) 18 p (s.dgX p i).step [s.chip, p])
  let s := s.dgSig p i kind s.chip maj own agree dis missing
  let s := if kind = 3 then s else (s.bump .dg Dg.EXPEL_CNT).event 0x8102 0 [(2, p), (2, (s.ownRank p).getD 0)]
  s.holdEnd p i

/-- The leader's record of another rank that a verdict expels: a signature of the kind, its count and event 0x8102 (R405). -/
def State.dgOut (s : State) (p i kind r maj got agree dis missing : Nat) : State :=
  let s := s.dgSig p i kind ((s.rawChip p r).getD 0) maj got agree dis missing
  (s.bump .dg Dg.EXPEL_CNT).event 0x8102 0 [(2, p), (2, r)]

/-- The ranks of the others that a verdict names are fenced and lost (R405). -/
def State.expelOthers (s : State) (p : Nat) (ranks : List Nat) : State :=
  s.each ranks (fun r s =>
    let s := match s.rawChip p r with
      | some c => s.fencePeer c p
      | none => s
    s.loss p r)

/-! ### Rechecks (R406) -/

/-- Send a vote to the leader, or count it where this device leads. -/
def State.addVote (s : State) (p i : Nat) (v : Vote) : State :=
  s.modDg p i (fun x => { x with votes := x.votes.filter (fun u => !(u.step == v.step && u.again == v.again && u.rank == v.rank)) ++ [v] })

/-- A verdict goes to every present member; the own one is dealt with by the caller. -/
def State.sendVerdict (s : State) (p i outcome maj agree dis missing : Nat) (ranks : List Nat) : State :=
  s.each (s.dgMembers p i) (fun r s =>
    match s.rankChip p r with
    | some c => if c = s.chip then s else s.contSend c 17 p (s.dgX p i).step ([i, outcome, maj, agree, dis, missing] ++ ranks)
    | none => s)

/-- A verdict arrives: its outcome and majority digest are shown, and DG_SIG's word counts it (R400, R420). -/
def State.verdictShown (s : State) (p i outcome maj : Nat) : State :=
  let k := dgKey p i
  let s := (s.setFld .dg (Dg.DG_STATUS.sub 2 0) outcome k).setFld64 .dg Dg.DG_STEP_LO (s.dgX p i).step k
  let s := s.setDg128 Dg.DG_MAJ maj k
  let sig := s.fld64 .dg Dg.DG_SIG_LO k
  if sig = 0 then s else (s.signalWord sig 1 false none).1

/-- The outcome of a recheck at a member that it names (R406): 4 RECHECK_PASSED or 5 RECHECK_FAILED. -/
def State.recheckEnd (s : State) (p i outcome maj : Nat) : State :=
  let x := s.dgX p i
  let s := s.modDg p i (fun x => { x with recheck := 0, lead := false, reMem := [] })
  let s := s.verdictShown p i outcome maj
  if outcome = 4 then
    let s := if x.again ≠ x.own then s.suspect else s
    (s.event 0x8104 0 [(2, p), (1, i)]).holdEnd p i
  else
    (s.event 0x8105 0 [(2, p), (1, i)]).expelled p i 2 maj 0 2 0

/-- The leader decides a recheck: two equal digests that are not all zero pass. -/
def State.recheckDecide (s : State) (p i : Nat) : State :=
  let x := s.dgX p i
  let l := x.votes.filter (fun v => v.again && v.step == x.step && x.reMem.contains v.rank)
  let ok := match l with
    | [a, b] => a.digest == b.digest && a.digest != 0
    | _ => false
  let maj := match l with | a :: _ => a.digest | [] => 0
  let s := if ok then s else s.each (x.reMem.filter (fun r => some r != s.ownRank p)) (fun r s =>
    let got := match l.find? (fun v => v.rank == r) with | some v => v.digest | none => 0
    s.dgOut p i 2 r maj got 0 2 (x.reMem.length - l.length))
  let s := s.sendVerdict p i (if ok then 4 else 5) maj 0 0 (x.reMem.length - l.length) x.reMem
  s.recheckEnd p i (if ok then 4 else 5) maj

/-- A vote arrives at the leader (R402, R406). `decide_` takes the decision of the first vote. -/
def State.recheckVoted (s : State) (p i : Nat) : State :=
  let x := s.dgX p i
  if x.lead && x.reMem.all (fun r => x.votes.any (fun v => v.again && v.step == x.step && v.rank == r)) then s.recheckDecide p i else s

/-- Send the vote of a recheck (R406). -/
def State.recheckVote (s : State) (p i d : Nat) : State :=
  let x := s.dgX p i
  let me := (s.ownRank p).getD 0
  let s := s.modDg p i (fun x => { x with again := d })
  if s.isLeader p i then (s.addVote p i { step := x.step, again := true, rank := me, digest := d }).recheckVoted p i
  else match (s.dgLeader p i).bind (s.rankChip p), (s.ctOf p).sets[i]? with
    | some c, some ((b, n, st), _) => s.contSend c 16 p x.step [i, b, n, st, me, d, 1]
    | _, _ => s

/-- Pull the next region of a set from its buddy, or digest the set again when none is left (R406). -/
def State.recheckNext (s : State) (p i : Nat) : List Nat → State
  | r :: t =>
    let g := (s.ctOf p).reg r
    s.pullStart p r g.peer g.peerAddr { recheck := i + 1, regions := t }
  | [] => s.recheckVote p i (s.setDigest p i)

/-- Step 1 of R406. -/
def State.recheckStart (s : State) (p i : Nat) : State :=
  let s := (s.bump .dg Dg.RECHECK_CNT).modDg p i (fun x => { x with recheck := 1 })
  let t := s.ctOf p
  let mine := match t.sets[i]? with
    | some (k, _) => (t.regs.zipIdx.filter (fun e => e.1.repl && (e.1.rbase, e.1.rcount, e.1.rstep) == k)).map (·.2)
    | none => []
  if s.rcSt p = 1 || mine.any (fun r => !(t.reg r).mirror || s.mirSt p r != 2 || (s.rankChip p (t.reg r).peer).isNone) then
    s.recheckVote p i 0
  else s.recheckNext p i mine

/-- PULL_DONE at the target (R388, R390): the region is digested and compared with the source's digest. -/
def State.pullDone (s : State) (p status d : Nat) : State :=
  let x := s.rcX p
  if s.rcSt p = 1 && x.op = 4 then
    let g := (s.ctOf p).reg x.region
    let s := s.setFld .rc Rc.RC_MIB (g.len / 1048576) p
    let ok := status = 0 && s.digestOf p g.addr g.len = d
    let s := if ok then s.rcAccept p d else s.rcFail p (if status = 0 then 4 else 3)
    if x.recheck = 0 then s
    else if ok then s.recheckNext p (x.recheck - 1) x.regions
    else s.recheckVote p (x.recheck - 1) 0
  else s

/-- PULL_DONE (R388). -/
def execPullDone (part status digest : Nat) (s : State) : Host.Outcome State Fault Refusal :=
  .next (s.pullDone part status digest)

/-! ### Verdicts (R403–R407) -/

/-- A verdict of the first vote at a member (R404–R407). -/
def State.verdict (s : State) (p i outcome maj agree dis missing : Nat) (ranks : List Nat) : State :=
  let k := dgKey p i
  let x := s.dgX p i
  let own := s.ownRank p
  let s := s.modDg p i (fun x => { x with got := true })
  let s := s.verdictShown p i outcome maj
  let s := (s.setFld .dg Dg.DG_VOTES (agree + dis * 65536) k).setFld .dg Dg.DG_MISSING missing k
  let s := if outcome = 0 || outcome = 1 then s else s.bump .dg Dg.MISMATCH_CNT
  let named := match own with | some r => ranks.contains r | none => false
  let selfOut := fun (s : State) => (s.expelled p i 3 maj agree dis missing).event 0x810B 0 [(2, p), (1, i)]
  match outcome with
  | 1 => if x.own ≠ maj then selfOut s else s.holdEnd p i
  | 2 =>
    if named then s.expelled p i 1 maj agree dis missing
    else if x.own ≠ maj then selfOut s
    else (s.expelOthers p ranks).holdEnd p i
  | 3 => if named then s.recheckStart p i else s.holdEnd p i
  | 6 => s.event 0x8106 0 [(2, p), (1, i)]
  | _ => s.holdEnd p i

/-- The digest held by most voters, with its count. -/
def mostVoted (l : List Vote) : Nat × Nat :=
  l.foldl (fun (b : Nat × Nat) v =>
    let n := (l.filter (fun u => u.digest == v.digest)).length
    if b.2 < n then (v.digest, n) else b) (0, 0)

/-- The leader decides (R402, R403). -/
def State.dgDecide (s : State) (p i : Nat) : State :=
  let x := s.dgX p i
  let mem := s.dgMembers p i
  let l := x.votes.filter (fun v => !v.again && v.step == x.step && mem.contains v.rank)
  let n := l.length
  let (d, c) := mostVoted l
  let diff := (l.filter (fun v => v.digest != d)).map (·.rank)
  let outcome := if n < 2 then 0 else if c = n then 1 else if 3 ≤ n && n < 2 * c && diff.length ≤ 8 then 2 else if n = 2 then 3 else 6
  let maj := if outcome = 1 || outcome = 2 then d else 0
  let ranks := if outcome = 2 then diff else if outcome = 3 then l.map (·.rank) else []
  let missing := mem.filter (fun r => !l.any (fun v => v.rank == r))
  let s := s.modDg p i (fun x => { x with decided := true })
  let s := s.each missing (fun r s => s.event 0x8107 0 [(2, p), (2, r)])
  let s := if outcome ≤ 1 then s else s.event 0x8101 0 [(1, i), (2, outcome)]
  let s := if outcome = 2 then
      s.each (diff.filter (fun r => some r != s.ownRank p)) (fun r s =>
        let got := match l.find? (fun v => v.rank == r) with | some v => v.digest | none => 0
        s.dgOut p i 1 r maj got c (n - c) missing.length)
    else s
  let s := if outcome = 6 then s.dgSig p i 5 s.chip 0 x.own c (n - c) missing.length else s
  let s := s.sendVerdict p i outcome maj c (n - c) missing.length ranks
  let s := if outcome = 3 then s.modDg p i (fun x => { x with lead := true, reTick := s.tick, reMem := ranks }) else s
  s.verdict p i outcome maj c (n - c) missing.length ranks

/-- A vote has been counted: the leader decides when every present member has voted (R402). -/
def State.dgVoted (s : State) (p i : Nat) : State :=
  let x := s.dgX p i
  if s.isLeader p i && x.hold && !x.decided
      && (s.dgMembers p i).all (fun r => x.votes.any (fun v => !v.again && v.step == x.step && v.rank == r)) then s.dgDecide p i
  else s

/-- DIGEST_VOTE at the leader (R401–R403, R406). -/
def State.voteRx (s : State) (p step : Nat) (key : Nat × Nat × Nat) (rank d : Nat) (again : Bool) : State :=
  match ((s.ctOf p).sets.take 8).findIdx? (fun e => e.1 == key) with
  | none => s
  | some i =>
    let s := s.addVote p i { step := step, again := again, rank := rank, digest := d }
    if again then s.recheckVoted p i else s.dgVoted p i

/-- REPLICA_DIGEST_READY (R401): the own vote goes to the leader. -/
def execReplicaDigestReady (p set : Nat) (s : State) : Host.Outcome State Fault Refusal :=
  let x := s.dgX p set
  if !x.due then .next s
  else
    let s := (s.modDg p set (fun x => { x with due := false })).setDg128 Dg.DG_OWN x.own (dgKey p set)
    match (s.ctOf p).sets[set]?, s.ownRank p with
    | some ((b, n, st), _), some me =>
      if s.isLeader p set then .next (s.voteRx p x.step (b, n, st) me x.own false)
      else match (s.dgLeader p set).bind (s.rankChip p) with
        | some c => .next (s.contSend c 16 p x.step [set, b, n, st, me, x.own, 0])
        | none => .next s
    | _, _ => .next s

/-- DIGEST_VOTE (R401). -/
def execDigestVote (part step rbase rcount rstep rank digest : Nat) (again : Bool) (s : State) : Host.Outcome State Fault Refusal :=
  .next (s.voteRx part step (rbase, rcount, rstep) rank digest again)

/-- VERDICT_DEADLINE (R402): DG_TO ticks after the leader's own fence. -/
def execVerdictDeadline (p set : Nat) (s : State) : Host.Outcome State Fault Refusal :=
  let x := s.dgX p set
  .next (if s.isLeader p set && x.hold && !x.decided && x.fence + s.fld .dg (Dg.DG_TO.sub 15 0) ≤ s.tick then s.dgDecide p set else s)

/-- A VERDICT of the leader. The outcome of a recheck at a member that took no part in it: the two ranks it expels are fenced and lost
(R405). -/
def State.verdictRx (s : State) (p step i outcome maj agree dis missing : Nat) (ranks : List Nat) : State :=
  let x := s.dgX p i
  if x.step ≠ step || s.isLeader p i then s
  else if outcome = 4 || outcome = 5 then
    if x.recheck = 1 then s.recheckEnd p i outcome maj
    else
      let s := s.verdictShown p i outcome maj
      if outcome = 5 then s.expelOthers p (ranks.filter (fun r => some r != s.ownRank p)) else s
  else if x.got then s
  else s.verdict p i outcome maj agree dis missing ranks

/-- VERDICT (R404). -/
def execVerdict (part step set outcome maj agree dis missing : Nat) (ranks : List Nat) (s : State) : Host.Outcome State Fault Refusal :=
  .next (s.verdictRx part step set outcome maj agree dis missing ranks)

/-- VERDICT_TIMEOUT (R402): DG_TO + 1,000 ticks after the own fence. -/
def execVerdictTimeout (p set : Nat) (s : State) : Host.Outcome State Fault Refusal :=
  let x := s.dgX p set
  .next (if x.hold && !x.got && x.fence + s.fld .dg (Dg.DG_TO.sub 15 0) + 1000 ≤ s.tick then
    ((s.setFld .dg (Dg.DG_STATUS.sub 2 0) 7 (dgKey p set)).event 0x8108 0 [(2, p), (1, set)]).holdEnd p set
  else s)

/-- RECHECK_DEADLINE (R406). -/
def execRecheckDeadline (p set : Nat) (s : State) : Host.Outcome State Fault Refusal :=
  let x := s.dgX p set
  .next (if x.lead && x.reTick + s.fld .dg Dg.DG_RECHECK_TO ≤ s.tick then s.recheckDecide p set else s)

/-- FENCE_NOTE (R405): a peer sets FENCE for the expelled chip. -/
def execFenceNote (chip part : Nat) (s : State) : Host.Outcome State Fault Refusal := .next (s.fencePeer chip part)

end Sys2Proof.Machine
end

