-- ==== Sys2Proof/Machine/Fence.lean ====
section
/-! DEFINITION. Step fences (R35–R37): when one completes on the device, and the actions of Table 1.11 in their order. -/
namespace Sys2Proof.Machine

/-- The logical cores that run descriptors of a partition, or are stopping. -/
def State.coresOf (s : State) (p : Nat) : List Nat :=
  (List.range 64).filter (fun lc => ((s.seq lc).st == 1 || (s.seq lc).st == 3) && s.partOf lc == p)

/-- Every core of the partition has arrived and its writes have completed (R36). -/
def State.fenceReady (s : State) (p : Nat) : Bool :=
  let l := s.coresOf p
  !l.isEmpty && (tGet s.fences p).copying.isEmpty
    && l.all (fun lc => s.atFence lc && (s.seq lc).infl.length == 1 && !s.outst.any (fun o => o.lc == lc)
      && !s.taps.any (fun t => t.lc == lc))

/-- STEP_ACTIONS of a partition (Table 1.12). -/
def State.stepActions (s : State) (p : Nat) : State :=
  let t := s.ctOf p
  let next := s.stepOf p + 1
  let s := s.epActions p
  let s := s.setFld .stp (Stp.STEP_ACTIONS.sub 1 1) (bool01 (s.bindDueAt p)) p
  let s := s.setFld .stp (Stp.STEP_ACTIONS.sub 2 2) (bool01 (t.valid && next % t.k == 0 && t.sets.any (fun e => e.1.2.1 != 1))) p
  s.setFld .stp (Stp.STEP_ACTIONS.sub 3 3) (bool01 (s.ckDue p next)) p

/-- Action 2: binding changes that moved cores of the partition hold (R21, R22). -/
def State.fenceBinds (s : State) (p : Nat) : State :=
  s.each (List.range 8) (fun cl s =>
    if s.bindFenced p cl true then
      let (s, runs) := s.bindApply cl (some p)
      if runs then { s with fences := tMod s.fences p (fun x => { x with copying := x.copying ++ [cl] }) } else s
    else s)

/-- Actions 3 to 5 of Table 1.11, which follow the last binding change: digests, the snapshot fence of a due checkpoint and the
release of the cores; `ns` is the time from the last arrival. -/
def State.fenceRest (s : State) (p ns : Nat) : State :=
  let step := s.stepOf p
  let t := s.ctOf p
  let (s, digs) := if t.valid && step % t.k = 0 then (s.mirFence p step).dgFence p step else (s, [])
  let s := if s.ckDue p step then s.ckStart p step ns digs else s
  ((s.fenceRelease p ns).stepActions p).bindActions

/-- The actions of a fence that closes a step, in the order of Table 1.11: while a binding change is still copied, those after it
wait. -/
def State.fenceRun (s : State) (p ns : Nat) : State :=
  let step := s.stepOf p
  let x := s.epX p
  let s := if s.epArmed p && x.step && x.at_ = step then s.epochApply p else s
  let s := s.fenceBinds p
  if (tGet s.fences p).copying.isEmpty then s.fenceRest p ns else s

/-- A binding copy that a fence waited for has ended, or was given up: with the last of them the fence goes on. -/
def State.fenceCopied (s : State) (p cl ns : Nat) : State :=
  let s := { s with fences := tMod s.fences p (fun x => { x with copying := x.copying.filter (fun k => k != cl) }) }
  if (tGet s.fences p).copying.isEmpty then s.fenceRest p ns else s.bindActions

/-- STEP_FENCE_COMPLETE (R36): the last core has arrived and its writes have drained; `ns` is the time from then to the release
where no binding copy follows. -/
def execStepFenceComplete (p ns : Nat) (s : State) : Host.Outcome State Fault Refusal :=
  if s.fenceReady p then
    let s := s.setStep p ((s.stepOf p + 1) % 2 ^ 64)
    let s := (s.setFld64 .stp Stp.STEP_TICK_LO s.tick p).laserFence
    .next (if (s.partX p).haltFence then (s.haltEnd p).stepActions p else s.fenceRun p ns)
  else .next s

/-- BIND_COPY_DONE (R22): `ns` is the time from the last arrival where the change held a fence. -/
def execBindCopyDone (d c ns : Nat) (s : State) : Host.Outcome State Fault Refusal :=
  let cl := 4 * d + c
  if s.bindBusy cl then
    let f := (s.bindX cl).fence
    let s := s.bindFinish cl
    .next (match f with
      | some p => s.fenceCopied p cl ns
      | none => s.bindActions)
  else .next s

end Sys2Proof.Machine
end

