-- ==== Sys2Proof/Machine/NmuRows.lean ====
section
/-! DEFINITION. Starting and completing a command of a near-memory unit (R190, R193–R195). -/
namespace Sys2Proof.Machine

/-- NMU_CMD_START (R193, R194): the next queued command is checked and starts; one that a running command conflicts with
waits, and whatever is queued waits behind it. -/
def execNmuCmdStart (k : Nat) (s : State) : Host.Outcome State Fault Refusal :=
  let x := s.nmuSt k
  if x.inReset || x.failed || 4 ≤ (x.running.filter (fun c => c.src != 2)).length then .next s
  else match x.pick with
  | none => .next s
  | some (c, x') =>
    if c.err ≠ 0 then .next ((s.setNmu k x').nmuLeave k c).contPump
    else
      let st := s.nmuCheck c
      if st ≠ 0 then .next ((s.setNmu k x').nmuReject k c st).contPump
      else if s.nmuConflict x c then .next (s.setNmu k { x with altPage := !x'.altPage })
      else .next (s.setNmu k { x' with running := x'.running ++ [c] })

/-- A consuming COPY has read units that are not yet RELEASED. -/
def State.consumeOpen (s : State) (c : NCmd) : Bool :=
  c.consume && (s.consumed c).any (fun e => s.unitSt e.1 e.2 == 1 || s.unitSt e.1 e.2 == 2)

/-- NMU_CMD_COMPLETE (R190, R195): the command's data have moved or it stopped, and what it wrote is visible; RESULT and the signal are
written. -/
def execNmuCmdComplete (k idx : Nat) (s : State) : Host.Outcome State Fault Refusal :=
  let x := s.nmuSt k
  match x.running[idx]? with
  | none => .next s
  | some c =>
    if !c.done || c.src = 2 || s.consumeOpen c || s.heldOn (s.nmuDest c) then .next s
    else .next ((s.setNmu k { x with running := x.running.eraseIdx idx }).nmuLeave k c).contPump

end Sys2Proof.Machine
end

