-- ==== Sys2Proof/Machine/Reset.lean ====
section
/-! DEFINITION. Checks of the units (R423–R425), watchdogs (R428, R442), compute resets and their ladder (R431–R436, R443), and the
datapath reset of a near-memory unit (R437). -/
namespace Sys2Proof.Machine

/-! ### Unit paths and domains (Table 15.4, R432) -/

/-- Kind, die, cluster, core and engine of a unit path. -/
def upKind (u : Nat) : Nat := u / 4096
def upDie (u : Nat) : Nat := bitsOf u 8 8
def upCl (u : Nat) : Nat := bitsOf u 7 6
def upCore (u : Nat) : Nat := bitsOf u 5 2
def upEng (u : Nat) : Nat := bitsOf u 1 0

/-- The unit path of a level that holds the unit of a path. -/
def upAt (level u : Nat) : Nat :=
  match level with
  | 1 => upathEngine (upDie u) (upCl u) (upCore u) (upEng u)
  | 2 => upathCore (upDie u) (upCl u) (upCore u)
  | 3 => upathCluster (upDie u) (upCl u)
  | 4 => upathDie (upDie u)
  | _ => upathBoth

/-- The physical core of an engine's or core's path, as the field tests number it. -/
def upFt (u : Nat) : Nat := upDie u * 64 + upCl u * 16 + upCore u

/-- A path names a unit of its level. -/
def upValid (level u : Nat) : Bool :=
  decide (1 ≤ level) && decide (level ≤ 5) && u == upAt level u && (decide (3 ≤ level) || decide (upCore u ≤ 8))

/-- The domain of one reset holds the domain of another. -/
def RstRun.holds (r : RstRun) (level u : Nat) : Bool := decide (level ≤ r.level) && upAt r.level u == r.upath

/-- Logical cores whose physical core lies in the domain of a reset, or holds the engine that is reset. -/
def State.inDomain (s : State) (r : RstRun) : List Nat :=
  (List.range 64).filter (fun lc =>
    let u := upathCore (lc / 32) (lc / 8 % 4) (s.physOf lc)
    decide (s.physOf lc < 9) && (if r.level = 1 then upAt 2 r.upath == u else r.holds 2 u))

/-- Clusters in the domain. -/
def RstRun.clusters (r : RstRun) : List Nat :=
  (List.range 8).filter (fun cl => decide (3 ≤ r.level) && r.holds 3 (upathCluster (cl / 4) (cl % 4)))

/-- A program runs in the domain: for an engine, the program whose descriptor or chain holds it. -/
def State.runsIn (s : State) (r : RstRun) (lc : Nat) : Bool :=
  let q := s.seq lc
  if r.level = 1 then q.infl.any (fun i => i.engines.contains (upEng r.upath)) || q.chain.any (fun c => c.engines.contains (upEng r.upath))
  else q.st != 0

/-! ### Records that name the program of a unit (R429) -/

/-- Where the next fault record goes, and how many have been written. -/
def State.recAt (s : State) : Nat × Nat := (s.fld .fr (Fr.FR_HEAD.sub 7 0), s.fld .fr (Fr.FR_HEAD.sub 31 8))

/-- A hardware fault of a unit: its event, its record with the program that the unit serves, and that program's end. Answers where
the record lies and the program. -/
def State.unitFault (s : State) (lc : Option Nat) (code ev : Nat) (items : List Item) (upath level desc : Nat) (lasting : Bool) :
    State × (Nat × Nat) × Option Nat :=
  let at_ := s.recAt
  match lc with
  | some n =>
    let q := s.seq n
    let p := s.prog q.slot
    if q.st ≠ 0 then
      let s := s.faultRecord (mkFaultRec code 0 (some (n % 8)) lasting level (some q.slot) ev p.ctx p.gen p.part upath desc s.tick)
      ((s.event ev upath items).endProgram q.slot 1 desc, at_, some q.slot)
    else ((s.faultRecord (mkFaultRec code 0 (some (n % 8)) lasting level none ev 0 0 0 upath 0 s.tick)).event ev upath items, at_, none)
  | none => ((s.faultRecord (mkFaultRec code 0 none lasting level none ev 0 0 0 upath 0 s.tick)).event ev upath items, at_, none)

/-- The reset that followed a fault shows in its record's LEVEL, while the ring still holds it. -/
def State.recLevel (s : State) (rcd : Option (Nat × Nat)) (level : Nat) : State :=
  match rcd with
  | some (i, n) =>
    if s.fld .fr (Fr.FR_HEAD.sub 31 8) ≤ n + 256 then
      let r := (smGet (fun _ => (0 : FaultRec)) s.faults i).toNat
      let v := r - r / 2 ^ 16 % 8 * 2 ^ 16 + level * 2 ^ 16
      { s with faults := smSet (fun _ => (0 : FaultRec)) s.faults i (BitVec.ofNat 256 v) }.faultWindow
    else s
  | none => s

/-! ### Compute resets (R431–R435) -/

/-- The module has FAILED (R436). -/
def State.failed (s : State) : Bool := s.fld .rst (Rst.RST_STATUS.sub 0 0) == 1

/-- Bits [4:1] of RST_STATUS. -/
def State.rstSync (s : State) : State :=
  let lv := (s.resets.map (·.level)).foldl max 0
  s.setFld .rst (Rst.RST_STATUS.sub 4 1) (bool01 (lv != 0) + lv * 2)

/-- Programs that run in the domain end; each but that of the faulting unit has a RESET record (R429, R435). -/
def State.rstPrograms (s : State) (r : RstRun) : State :=
  let lcs := (s.inDomain r).filter (s.runsIn r)
  let parts := (lcs.map s.partOf).eraseDups
  let s := s.each lcs (fun lc s =>
    let q := s.seq lc
    let g := s.prog q.slot
    if g.active && g.ended.isNone && r.own ≠ some q.slot then
      let desc := match q.infl with | i :: _ => i.desc | [] => q.lastDesc
      let n := if r.level ≤ 2 then some (lc % 8) else none
      (s.faultRecord (mkFaultRec 0x27 0 n false r.level (some q.slot) 0x9102 g.ctx g.gen g.part r.upath desc s.tick)).endProgram q.slot 1 desc
    else s)
  -- Table 15.8: a fence that was running does not complete; the cores that had arrived stay held.
  let held := fun (q : Seq) => { q with infl := q.infl.map (fun i => if i.wait = some .fence then { i with wait := some .lostFence } else i) }
  s.each (List.range 64) (fun lc s =>
    if (s.seq lc).st = 1 && parts.contains (s.partOf lc) && (tGet s.fences (s.partOf lc)).copying.isEmpty then s.modSeq lc held else s)

/-- Binding copies and forced swaps in the domain are given up (Table 15.8). -/
def State.rstBinds (s : State) (r : RstRun) : State :=
  s.each (List.range 8) (fun cl s =>
    let x := s.bindX cl
    let hit := fun p => r.holds 2 (upathCore (cl / 4) (cl % 4) p) && 2 ≤ r.level
    let s :=
      if x.copying.any (fun n => hit (mapAt (s.bindMap cl) n) || hit (mapAt x.goMap n)) then
        let s := (s.setBindX cl { x with copying := [], goMap := 0, goTest := false, fence := none, map := x.goMap, testOut := x.goTest }).setBindArm cl true
        match x.fence with
        | some p =>
          s.fenceCopied p cl ((s.tick - s.fld64 .stp Stp.STEP_TICK_LO p) * 10000)
        | none => s
      else s
    s.each (List.range 9) (fun p s => if s.ftSt cl p = 7 && hit p then s.swapAbandon cl p else s))

/-- A reset starts (R433), absorbs the smaller ones of its domain, or is absorbed by a larger one (Table 15.8). -/
def State.startReset (s : State) (r : RstRun) : State :=
  let r := { r with start := s.tick }
  if s.failed then s
  else match s.resets.find? (fun x => x.holds r.level r.upath) with
  | some x =>
    let s := { s with resets := s.resets.map (fun y => if y == x then { y with due := y.due ++ r.due } else y) }
    s.recLevel r.rcd x.level
  | none =>
    let s := s.event 0x9102 r.upath [(2, r.level), (2, r.upath), (2, r.cause)]
    let s := s.setFld .rst Rst.RST_LAST (r.level + bool01 (r.cause == 3) * 8 + r.cause * 16 + r.upath * 65536)
    let s := (s.rstBinds r).rstPrograms r
    let small := s.resets.filter (fun (x : RstRun) => r.holds x.level x.upath)
    let r := { r with due := r.due ++ small.flatMap (fun (x : RstRun) => x.due) }
    let s := { s with resets := s.resets.filter (fun (x : RstRun) => !r.holds x.level x.upath) ++ [r] }
    let s := s.each r.clusters (fun cl s => s.ftAbort cl)
    let s := if r.level = 5 then { s with mod_ := { s.mod_ with core0 := false, core1 := false } } else s
    s.collPurge.bindActions.rstSync

/-- RST_CMD and the UNIT_RESET registers (R443, R525). -/
def State.rstCmd (s : State) (level upath : Nat) : State :=
  if s.failed || !upValid level upath then s.setErr .rst 0
  else s.startReset { level := level, upath := upath, cause := 4 }

/-- A write of RST_GO (R443). -/
def State.rstGo (s : State) (v : Word) : State :=
  if bitAt v.toNat 0 then s.rstCmd (s.fld .rst Rst.RST_CMD_LEVEL) (s.fld .rst Rst.RST_CMD_UPATH) else s

/-- RST_GO (R443). -/
def execRstGo (m : Master) (s : State) : Host.Outcome State Fault Refusal := .next (s.gated m .rst (fun s => s.rstGo 1))

/-- The unit of a compute page, as level and path (R525). -/
def Page.unit : Page → Option (Nat × Nat)
  | .eng d c p e => some (1, upathEngine d c p e)
  | .core d c p => some (2, upathCore d c p)
  | .cluster d c => some (3, upathCluster d c)
  | .dn d => some (4, upathDie d)
  | _ => none

/-- A write of UNIT_RESET (R525). -/
def State.unitReset (s : State) (pg : Page) (v : Word) : State :=
  if bitAt v.toNat 0 then
    match pg.unit with
    | some (l, u) => s.rstCmd l u
    | none => s
  else s

/-- UNIT_RESET (R525). -/
def execUnitReset (m : Master) (pg : Nat) (s : State) : Host.Outcome State Fault Refusal :=
  match Page.ofBase pg with
  | some p => .next (s.gated m p (fun s => s.unitReset p 1))
  | none => .next s

/-- What a reset clears of a physical core's sequencer (Table 15.6). -/
def State.rstCore (s : State) (lc : Nat) : State :=
  (s.modSeq lc (fun q => { q with x := [], trec := 0, pflags := 0, infl := [], chain := none, loops := [], hold := false })).coreSync lc

/-- The counters of the pages of the execution chapter, with the figures of the last tick: compute resets leave them (R156). -/
def Page.lasting (pg : Page) (o : Nat) : Bool :=
  let b := fun lo hi => decide (lo ≤ o) && decide (o ≤ hi)
  pg.counters.contains o || (match pg with
  | .core _ _ _ => b 0x10C 0x10C || b 0x128 0x134 || b 0x144 0x154
  | .eng _ _ _ _ => b 0x114 0x120
  | .cluster _ _ => b 0x124 0x134
  | _ => false)

/-- The pages in the compute island of a die hold their reset values but for the binding and the counters (R432). -/
def State.rstPages (s : State) (d : Nat) : State :=
  let keep := fun (e : Nat × Word) =>
    let o := regAddr e.1 % 4096
    match Page.ofBase (regAddr e.1 / 4096 * 4096) with
    | some pg => match pg with
      | .core x _ _ | .eng x _ _ _ => x != d || pg.lasting o
      | .cluster x _ => x != d || pg.lasting o || (decide (0x100 ≤ o) && decide (o < 0x11C))
      | _ => true
    | none => true
  { s with regs := s.regs.filter keep }.semHeldUpdate

/-- The compute power cycle writes tile and cluster memory to 0 (Table 15.6). -/
def State.rstSram (s : State) : State := { s with mem := s.mem.filter (fun e => decide (e.1 < sramKey 0)) }

/-- RESET_DONE (R433 step 5): `ns` is the duration. -/
def execResetDone (level upath ns : Nat) (s : State) : Host.Outcome State Fault Refusal :=
  match s.resets.find? (fun r => r.level == level && r.upath == upath) with
  | none => .next s
  | some r =>
    let s := { s with resets := s.resets.filter (fun x => x != r) }
    let lcs := s.inDomain r
    let s := if r.level = 1 then s.each lcs (fun lc s => s.coreSync lc) else s.each lcs (fun lc s => s.rstCore lc)
    let s := match r.level with
      | 4 => s.rstPages (upDie r.upath)
      | 5 => let s := ((s.rstPages 0).rstPages 1).rstSram; { s with mod_ := { s.mod_ with core0 := true, core1 := true } }
      | _ => s
    let s := if 4 ≤ r.level then s.each r.clusters (fun cl s => s.bindSync cl) else s
    let s := s.setFld .rst Rst.RST_LAST_NS ns
    let s := s.bump .rst (Rst.RST_CNT (r.level - 1))
    let s := { s with ftNow := s.ftNow ++ r.due.filter (fun k => !s.ftNow.contains k) }
    .next ((s.rstSync.event 0x9103 r.upath [(2, r.level), (4, ns)]).bindActions)

/-- Bound of a level in ticks (Table 15.6). -/
def rstBound (level : Nat) : Nat :=
  match level with
  | 1 => 0
  | 2 => 2
  | 3 => 20
  | 4 => 200
  | _ => 5000

/-- RESET_ESCALATE (R434): a reset has overrun its bound. -/
def execResetEscalate (level upath : Nat) (s : State) : Host.Outcome State Fault Refusal :=
  match s.resets.find? (fun r => r.level == level && r.upath == upath) with
  | none => .next s
  | some r =>
    if r.level < 5 && r.start + rstBound r.level ≤ s.tick then
      let s := { s with resets := s.resets.filter (fun x => x != r) }
      let l := r.level + 1
      let s := (s.bump .rst Rst.ESC_CNT).event 0x9104 r.upath [(2, r.level), (2, l)]
      let s := s.startReset { r with level := l, upath := upAt l r.upath, cause := 3 }
      .next ((s.recLevel r.rcd l).rstSync)
    else .next s

/-- The module becomes FAILED (R436). -/
def State.moduleFail (s : State) : State :=
  if s.failed then s
  else
    let s := ({ s with resets := [] }.rstSync).setFld .rst (Rst.RST_STATUS.sub 0 0) 1
    let s := (s.setFld .glb (Glb.MOD_STATE.sub 2 0) 5).event 0x9108
    let s := if (List.range 12).any s.matActive then s.snapAbort else s
    let bound := (s.regs.filter (fun e => regAddr e.1 == Page.ctx.base + 0x10C && e.2.toNat % 4 == 1)).map (fun e => regBank e.1)
    let s := s.each bound (fun c s => s.ctxTear c)
    { s with mod_ := { s.mod_ with core0 := false, core1 := false } }

/-- MODULE_FAIL (R436): the compute power cycle has overrun 50 ms. -/
def execModuleFail (s : State) : Host.Outcome State Fault Refusal :=
  if s.resets.any (fun r => r.level == 5 && decide (r.start + rstBound 5 ≤ s.tick)) then .next s.moduleFail else .next s

end Sys2Proof.Machine
end

