-- ==== Sys2Proof/Machine/Watch.lean ====
section
/-! DEFINITION. The completion of a descriptor with what the checks of its unit found (R88, R424, R425), the hardware watchdogs
(R428) and the datapath reset of a near-memory unit (R437). -/
namespace Sys2Proof.Machine

/-! ### Completion and checks (R88, R423–R425) -/

/-- The logical core that a physical core serves. -/
def State.lcoreOf (s : State) (d c p : Nat) : Option Nat :=
  ((List.range 8).map (· + 8 * (4 * d + c))).find? (fun lc => s.physOf lc == p)

/-- A check that passed on its second attempt. -/
def State.checkTransient (s : State) (u : Nat) : State := (s.bump .fr Fr.UNIT_TRANSIENT_CNT).event 0x9105 u

/-- A lasting failure of an engine or of the vector unit (R424): the program faults, the unit is reset, and its core is due for the
spinning-top test. -/
def State.checkLasting (s : State) (lc desc : Nat) (engine : Option Nat) : State :=
  let d := lc / 32
  let c := lc / 8 % 4
  let p := s.physOf lc
  let (code, level, u) := match engine with
    | some e => (0x20, 1, upathEngine d c p (e % 4))
    | none => (0x21, 2, upathCore d c p)
  let (s, at_, own) := (s.bump .fr Fr.UNIT_LASTING_CNT).unitFault (some lc) code 0x9106 [] u level desc true
  s.startReset { level := level, upath := u, cause := 2, rcd := some at_, own := own, due := [upFt u] }

/-- A descriptor in flight has nothing left to do but to complete. -/
def State.completable (s : State) (i : Infl) : Bool := i.wait.isNone && i.tags.isEmpty && i.sig.isNone && !s.heldOn (i.dst ++ i.vis)

/-- DESCRIPTOR_COMPLETE (R88): what a descriptor's unit found (R424, R425) decides how it ends. -/
def execDescriptorComplete (lc id : Nat) (ck : UnitCheck) (s : State) : Host.Outcome State Fault Refusal :=
  let s := s.flushSigs lc
  let q := s.seq lc
  match q.infl.find? (fun i => i.id == id) with
  | none => .next s
  | some i =>
    if q.st = 1 && s.completable i then
      let d := lc / 32
      let c := lc / 8 % 4
      let p := s.physOf lc
      let engine := fun (e : Nat) => if i.unit = 4 then some (if i.engines.contains e then e else i.engines.headD 0) else none
      let path := fun (e : Nat) => match engine e with | some e => upathEngine d c p e | none => upathCore d c p
      let checked := i.unit == 3 || i.unit == 4
      .next (match ck with
        | .transient e =>
          if !checked then s.retire lc id
          else if i.cont then s.checkLasting lc i.desc (engine e)
          else (s.checkTransient (path e)).retire lc id
        | .lasting e => if checked then s.checkLasting lc i.desc (engine e) else s.retire lc id
        | .sramFixed => (s.bump .fr Fr.SRAM_CE_CNT).retire lc id
        | .sramTransient => (s.checkTransient (upathCore d c p)).retire lc id
        | .sramLasting =>
          let s := (s.bump .fr Fr.UNIT_LASTING_CNT).event 0x9106 (upathCore d c p)
          s.progFault lc 0x06 0 0x1124 i.desc (lasting := true)
        | .ok => s.retire lc id)
    else .next s

/-! ### Watchdogs (R428, R442) -/

/-- Kinds of WATCHDOG_FIRED: 1 context, 2 engine, 3 sequencer, 4 program end, 5 NMU. -/
def wdItems (kind u : Nat) : List Item := [(1, kind), (2, u)]

/-- CONTEXT_WATCHDOG (R428): no descriptor of the program has completed on the core for WD_CTX ticks. -/
def execContextWatchdog (lc : Nat) (s : State) : Host.Outcome State Fault Refusal :=
  let q := s.seq lc
  if q.st = 1 && decide (q.lastDone + s.fld .wd Wd.WD_CTX ≤ s.tick) && !s.unitDown (lc / 8) (s.physOf lc) then
    let u := s.coreUpath lc
    let desc := match q.infl with | i :: _ => i.desc | [] => q.pc
    .next ((s.bump .wd Wd.WD_CTX_CNT).unitFault (some lc) 0x23 0x9101 (wdItems 1 u) u 0 desc false).1
  else .next s

/-- A watchdog that resets a unit (Table 15.3). -/
def State.wdReset (s : State) (lc : Option Nat) (code kind level u desc : Nat) : State :=
  let (s, at_, own) := s.unitFault lc code 0x9101 (wdItems kind u) u level desc false
  s.startReset { level := level, upath := u, cause := 1, rcd := some at_, own := own, due := [upFt u] }

/-- ENGINE_WATCHDOG (R428): a BUSY engine has advanced nothing for WD_ENG ticks. -/
def execEngineWatchdog (d c p e : Nat) (s : State) : Host.Outcome State Fault Refusal :=
  let x : CoreX := tGet s.cores (d * 64 + c * 16 + p)
  let cl := 4 * d + c
  let u := upathEngine d c p e
  if s.fld .wd Wd.WD_LIMITS_WD_ENG ≤ smGet (fun _ => 0) x.engIdle e && s.fld (.eng d c p e) Eng.ENG_STATUS_STATE = 1
      && !s.unitDown cl p && !s.resets.any (fun r => r.holds 1 u) then
    let lc := s.lcoreOf d c p
    let desc := match lc with
      | some n => ((s.seq n).infl.find? (fun i => i.engines.contains e)).elim 0 (·.desc)
      | none => 0
    .next ((s.bump .wd Wd.WD_ENG_CNT).wdReset lc 0x24 2 1 u desc)
  else .next s

/-- SEQUENCER_WATCHDOG (R428): the sequencer has missed the probe at WD_SEQ consecutive edges. -/
def execSequencerWatchdog (d c p : Nat) (s : State) : Host.Outcome State Fault Refusal :=
  let x : CoreX := tGet s.cores (d * 64 + c * 16 + p)
  let cl := 4 * d + c
  if s.fld .wd Wd.WD_LIMITS_WD_SEQ ≤ x.probeMiss && !s.unitDown cl p then
    let lc := s.lcoreOf d c p
    let desc := match lc with | some n => (s.seq n).pc | none => 0
    .next ((s.bump .wd Wd.WD_SEQ_CNT).wdReset lc 0x25 3 2 (upathCore d c p) desc)
  else .next s

/-- PROGRAM_END_WATCHDOG (R428, R435): a core has not stopped within 20 µs of its program's end. -/
def execProgramEndWatchdog (lc : Nat) (s : State) : Host.Outcome State Fault Refusal :=
  let q := s.seq lc
  let p := s.physOf lc
  if q.st = 3 && decide (q.lastDone + 2 ≤ s.tick) && decide (p < 9) && !s.unitDown (lc / 8) p then
    .next ((s.bump .wd Wd.WD_SEQ_CNT).wdReset (some lc) 0x25 4 2 (s.coreUpath lc) q.lastDesc)
  else .next s

/-! ### The datapath reset of an NMU (R437) -/

/-- A datapath reset begins: the running commands end without a RESULT; an NMCALL that waits for one faults. -/
def State.nmuReset (s : State) (k : Nat) : State :=
  let x := s.nmuSt k
  let gone := x.running
  let s := s.setNmu k { x with running := [], inReset := true, rstTick := s.tick, idle := 0 }
  let s := s.each gone (fun c s =>
    if c.src = 3 then { s with nmuDone := s.nmuDone ++ [{ c with err := 0x20 }] }
    else if c.sync then s.nmcallFault c c.nmcallDesc else s)
  s.contPump

/-- NMU_WATCHDOG (R428): no datapath progress for WD_NMU ticks. -/
def execNmuWatchdog (k : Nat) (s : State) : Host.Outcome State Fault Refusal :=
  let x := s.nmuSt k
  match x.running with
  | [] => .next s
  | c :: _ =>
    if s.fld .wd Wd.WD_LIMITS_WD_NMU ≤ x.idle && !x.inReset && !x.failed then
      let u := upathNmu k
      let live := s.nmcallLive c
      let r := if c.src = 2 || c.src = 3 then mkFaultRec 0x26 0 none false 6 none 0x9101 0 0 0 u 0 s.tick
        else mkFaultRec 0x26 0 (if live then some (c.lc % 8) else none) false 6 (if live then some (c.prog % 4096) else none)
          0x9101 c.ctx c.gen c.part u c.desc s.tick
      .next (((s.bump .wd Wd.WD_NMU_CNT).faultRecord r).event 0x9101 u (wdItems 5 u) |>.nmuReset k)
    else .next s

/-- NMU_DATAPATH_RESET_DONE (R437): queued commands start again. -/
def execNmuDatapathResetDone (k : Nat) (s : State) : Host.Outcome State Fault Refusal :=
  let x := s.nmuSt k
  if x.inReset && !x.failed then
    .next (((s.setNmu k { x with inReset := false }).bump .rst Rst.NMU_RST_CNT).event 0x9109 (upathNmu k))
  else .next s

/-- NMU_FAIL (R437): not returned within 10 ms. -/
def execNmuFail (k : Nat) (s : State) : Host.Outcome State Fault Refusal :=
  let x := s.nmuSt k
  if x.inReset && !x.failed && decide (x.rstTick + 1000 ≤ s.tick) then
    .next ((s.setNmu k { x with failed := true, inReset := false }).event 0x910A (upathNmu k))
  else .next s

end Sys2Proof.Machine
end

