-- ==== Sys2Proof/Machine/FwOps.lean ====
section
/-! DEFINITION. The firmware processors (R444–R448), Punch and Judy (R449–R453), mailboxes (R454–R457) and what a firmware update
does to the processors of its class (R458–R461). -/
namespace Sys2Proof.Machine

/-! ### Processors -/

/-- Processors by FP_SEL: Punch 0, Judy 32, then 1–16. -/
def procBanks : List Nat := [0, 32] ++ (List.range 16).map (· + 1)

/-- The image class of a processor (Table 16.1). -/
def procClass (k : Nat) : Nat :=
  if k % 32 = 0 then 0 else if k = 1 then 1 else if k = 2 then 2 else if k ≤ 4 then 3 else 4

/-- SOURCE of a processor (R463). -/
def procSrc (k : Nat) : Nat := srcProc (k % 32) (k / 32)

def State.proc (s : State) (k : Nat) : ProcX := tGet s.procs k
def State.modProc (s : State) (k : Nat) (f : ProcX → ProcX) : State := { s with procs := tMod s.procs k f }
def State.setProcSt (s : State) (k v : Nat) : State := s.setFld .fp (Fp.FP_STATUS.sub 1 0) v k
def State.inProbation (s : State) (k : Nat) : Bool := s.fld .fp (Fp.FP_STATUS.sub 2 2) k == 1
def State.setProbation (s : State) (k : Nat) (b : Bool) : State := s.setFld .fp (Fp.FP_STATUS.sub 2 2) (bool01 b) k

/-- The active slot of a class, and the image in a slot. -/
def State.activeSlot (s : State) (c : Nat) : Nat := smGet (fun _ => 0) s.flash.active c
def State.image_ (s : State) (c slot : Nat) : ImgHdr := tGet s.flash.images (2 * c + slot)

/-- A processor runs the image of a slot of its class. -/
def State.procImg (s : State) (k slot : Nat) : State :=
  let c := procClass k
  (s.setFld .fp (Fp.FP_STATUS.sub 3 3) slot k).setFld .fp Fp.FP_VERSION ((s.image_ c slot).version % 2 ^ 24 + c * 2 ^ 24) k

/-- The image that a processor runs. -/
def State.runImg (s : State) (k : Nat) : ImgHdr := s.image_ (procClass k) (s.fld .fp (Fp.FP_STATUS.sub 3 3) k)

/-! ### Mailboxes (R454–R457) -/

def State.mboxAt (s : State) (n : Nat) : Mbox := tGet s.mbox n

/-- Write bytes of mailbox `n` from an offset in it. -/
def State.mboxBytes (s : State) (n off : Nat) (b : List Byte) : State :=
  { s with mboxMem := b.zipIdx.foldl (fun m e => smSet (fun _ => (0 : Byte)) m (n * 16384 + off + e.2) e.1) s.mboxMem }

/-- A message header (Table 16.7): KIND, MINOR, TARGET, OPCODE, STATUS; SEQ, LEN, IRQ, MINOR_DOWN, VECTOR; PARTITION; TICK. -/
def msgHeader (kind minor op status len : Nat) (h : MHdr) (down : Bool) (tick : Nat) : List Byte :=
  bytesLE 8 (kind + h.major * 2 ^ 8 + minor * 2 ^ 16 + h.target * 2 ^ 24 + op * 2 ^ 32 + status * 2 ^ 48)
    ++ bytesLE 8 (h.seq % 2 ^ 32 + len * 2 ^ 32 + bool01 h.irq * 2 ^ 45 + bool01 down * 2 ^ 46 + h.vector % 2048 * 2 ^ 47)
    ++ bytesLE 8 (h.part % 4096) ++ bytesLE 8 tick ++ bytesLE 32 0

/-- The target answers mailbox `n` (R456): the response is written and signalled. -/
def State.mboxAnswer (s : State) (n status : Nat) (b : List Byte) : State :=
  let x := s.mboxAt n
  if x.posted && !x.answered then
    let s := s.mboxBytes n 0x2040 b
    let s := s.mboxBytes n 0x2000 (msgHeader 2 0 x.op status b.length { x.h with major := 1 } (decide (0 < x.h.minor)) s.tick)
    let s := { s with mbox := tSet s.mbox n { x with answered := true, status := status } }
    if x.h.irq then s.emit (if n < 16 then .msix x.h.vector else .channel x.h.vector) else s
  else s

/-- Requests to a processor that are not answered are answered with a status. -/
def State.mboxFlush (s : State) (target status : Nat) : State :=
  s.each (s.mbox.filter (fun e => e.2.posted && !e.2.answered && e.2.h.target == target)) (fun e s => s.mboxAnswer e.1 status [])

/-- The opcode is known to the target (Tables 16.9 and 17.10). -/
def opKnown (op target : Nat) : Bool :=
  op == 1 || (target == 0 && (op == 2 || (decide (0x10 ≤ op) && decide (op ≤ 0x13)) || op == 0x30))
    || (target == 1 && decide (0x100 ≤ op) && decide (op ≤ 0x107))

/-- Processor 0 is down (R452). -/
def State.ccDown (s : State) : Bool := s.fld .cc (Cc.CC_STATUS.sub 4 4) == 1

/-- The module stands in RECOVERY (R480). -/
def State.inRecovery (s : State) : Bool := s.flag .sec Sec.SEC_STATUS_RECOVERY

/-- The status with which a request is answered before its target considers it (R452, R456, R457). -/
def State.mboxFront (s : State) (op : Nat) (h : MHdr) : Option Nat :=
  if 16 < h.target then some 3
  else if h.target = 0 && s.ccDown && !s.inRecovery then some 7
  else if h.target ≠ 0 && s.procFailed h.target then some 3
  else if !h.taken then none
  else if h.target ≠ 0 && s.procSt h.target = 1 then some 5
  else if h.major ≠ 1 then some 1
  else if !opKnown op h.target then some 2
  else if !h.lenOk then some 4
  else none

/-- A post (R454, R456): dropped in another master's mailbox and while the last request is unanswered, unless it is that request,
which its target now takes up. The flag says that the target considers the request. -/
def State.mboxPost (s : State) (m : Master) (n op : Nat) (h : MHdr) : State × Bool :=
  let x := s.mboxAt n
  let mine := match m with
    | .host => decide (n < 16)
    | .mgmt => decide (16 ≤ n) && decide (n < 32)
    | .fw => false
  let open_ := !s.inRecovery || (n % 16 == 0 && decide (0x10 ≤ op) && decide (op ≤ 0x12))
  if !s.mod_.stby then (s, false)
  else if !mine || !open_ then (s.event 0xB130, false)
  else
    let again := x.posted && !x.answered && x.op == op && x.h.seq == h.seq
    if x.posted && !x.answered && !again then (s.event 0xB130, false)
    else
      let s := if again then s
        else ({ s with mbox := tSet s.mbox n { posted := true, op := op, h := h } }).mboxBytes n 0 (msgHeader 1 h.minor op 0 0 h false 0)
      match s.mboxFront op h with
      | some st => (s.mboxAnswer n st [], false)
      | none => (s, h.taken && !(h.target = 0 && s.cc.takeover.isSome))

/-- A request whose target does `f`, which answers a status and a payload. -/
def State.request (s : State) (m : Master) (n op : Nat) (h : MHdr) (f : State → State × Nat × List Byte) : State :=
  match s.mboxPost m n op h with
  | (s, true) =>
    let (s, st, b) := f s
    s.mboxAnswer n st b
  | (s, false) => s

/-! ### Restarts of processors 1–16 (Table 16.2) -/

/-- Work that a restart of a processor abandons. -/
def State.procAbandon (s : State) (k : Nat) : State :=
  if k = 1 then s.mboxFlush 1 5
  else if k = 2 then
    let s := s.each (List.range 3) (fun e s => if (s.eng e).calibrating then s.calRestart e else s)
    s.each allPairs (fun e s =>
      if (s.ringX e.1 e.2).testing then
        (s.modRing e.1 e.2 (fun x => { x with testing := false, testDue := some 0 })).ringMove e.1 e.2 5
      else s)
  else if k = 3 || k = 4 then s.each (List.range 4) (fun c s => s.ftAbort (4 * (k - 3) + c))
  else if 5 ≤ k && k ≤ 16 then (if (s.nmuSt (k - 5)).inReset then s else s.nmuReset (k - 5))
  else s

/-- A processor begins to restart from its running image (R447). -/
def State.procRestart (s : State) (k : Nat) : State :=
  ((s.procAbandon k).setProcSt k 1).bump .fp Fp.RESTART_CNT k |>.modProc k (fun x => { x with idle := 0, restartDue := false })

/-! ### Punch and Judy (R449–R453) -/

/-- State of an instance: 0 ACTIVE, 1 STANDBY, 2 TESTING, 3 FAILED. -/
def State.ccSt (s : State) (i : Nat) : Nat := s.fld .cc (Cc.CC_STATUS.sub (2 * i + 1) (2 * i))
def State.setCcSt (s : State) (i v : Nat) : State := s.setFld .cc (Cc.CC_STATUS.sub (2 * i + 1) (2 * i)) v

/-- The ACTIVE instance. -/
def State.ccActive? (s : State) : Option Nat := [0, 1].find? (fun i => s.ccSt i == 0)

def State.updSt (s : State) (c : Nat) : Nat := s.fld .upd (Upd.UPD_STATE.sub 2 0) c
def State.updStep (s : State) (c : Nat) : Nat := s.fld .upd (Upd.UPD_STATE.sub 5 3) c
def State.setUpd (s : State) (c st step : Nat) : State := s.setFld .upd Upd.UPD_STATE (st + step * 8) c

/-- An update of a class is armed, in handover or in probation. -/
def State.updBusy (s : State) (c : Nat) : Bool := decide (1 ≤ s.updSt c) && decide (s.updSt c ≤ 3)

/-- The selected fields of a class (Table 16.16). -/
def State.updSync (s : State) (c : Nat) : State :=
  let a := s.activeSlot c
  let s := s.setFld .upd Upd.UPD_SLOT (a + 2 * smGet (fun _ => 0) s.flash.inactive c) c
  let s := s.setFld .upd Upd.UPD_VER_ACT ((s.image_ c a).version % 2 ^ 24 + c * 2 ^ 24) c
  s.setFld .upd Upd.UPD_VER_INACT ((s.image_ c (1 - a)).version % 2 ^ 24 + c * 2 ^ 24) c

/-- CTRL_DOWN and the update bit of CC_STATUS; on entry to the condition 0xB114, and what is unanswered has no controller. -/
def State.ccSync (s : State) : State :=
  let down := (s.ccActive?).isNone && s.cc.takeover.isNone
  let was := s.ccDown
  let s := s.setFld .cc (Cc.CC_STATUS.sub 5 4) (bool01 down + 2 * bool01 (s.updBusy 0))
  if down && !was then (s.event 0xB114 (procSrc 0)).mboxFlush 0 7 else s

/-- An instance restarts into TESTING, from the active slot unless an update of its class decides (R450, R461). -/
def State.ccRestart (s : State) (i : Nat) : State :=
  let k := 32 * i
  let s := (s.setCcSt i 2).procRestart k
  let s := s.modProc k (fun x => { x with cycle := false, passes := 0, held := 0, boot := false })
  let s := s.setFld .cc (if i = 0 then Cc.HEALTH_P.sub 1 1 else Cc.HEALTH_J.sub 1 1) 0
  if s.updBusy 0 then s else s.procImg k (s.activeSlot 0)

/-- An instance becomes ACTIVE; restarts that waited for processor 0 begin. -/
def State.ccTake (s : State) (i : Nat) : State :=
  let s := ({ s.setCcSt i 0 with cc := { s.cc with missed := 0, takeover := none, booted := true } }).ccSync
  s.each ((List.range 16).map (· + 1)) (fun k s => if (s.proc k).restartDue then s.procRestart k else s)

/-- Control passes as a planned handover (R453). -/
def State.ccHandover (s : State) (to_ : Nat) : State :=
  let s := (s.setCcSt to_ 0).ccRestart (1 - to_)
  ((s.bump .cc Cc.HANDOVER_CNT).event 0xB111 (procSrc (32 * to_))).ccTake to_

/-- The update of a class ends in a fallback (R460): the registers and the slot. -/
def State.updFail (s : State) (c k : Nat) : State :=
  let s := { s with flash := { s.flash with inactive := smSet (fun _ => 0) s.flash.inactive c 4 } }
  let s := ((s.setUpd c 5 0).setFld .upd Upd.PROB_LEFT 0 c).bump .upd Upd.FALLBACK_CNT c
  (s.updSync c).event 0xB123 (procSrc k)

/-- A takeover begins (R452): the other instance is held in reset. An update of class CC ends. -/
def State.ccTakeover (s : State) (cause taker : Nat) : State :=
  let o := 1 - taker
  let s := if s.updBusy 0 then (s.updFail 0 (32 * o)).each [0, 32] (fun k s => s.setProbation k false) else s
  let s := s.ccRestart o
  ({ s with cc := { s.cc with takeover := some (cause, taker), missed := 0 } }).ccSync

/-- The ACTIVE instance is lost (Table 16.5). -/
def State.ccLose (s : State) (i cause : Nat) : State :=
  if i = 0 && s.ccSt 1 = 1 then s.ccTakeover cause 1
  else
    let s := if s.updBusy 0 then (s.updFail 0 (32 * i)).each [0, 32] (fun k s => s.setProbation k false) else s
    (s.ccRestart i).ccSync

/-- A fallback of class CC (R461): Punch takes over from Judy in steps 2 and 3, Judy from Punch in step 4; the instance that failed
restarts from the old image. -/
def State.ccFallback (s : State) (cause : Nat) : State :=
  let lost := if s.updStep 0 ≤ 3 then 1 else 0
  let taker := 1 - lost
  let old := s.activeSlot 0
  let s := (s.updFail 0 (32 * lost)).each [0, 32] (fun k s => s.setProbation k false)
  let s := if lost = 1 && s.fld .fp (Fp.FP_STATUS.sub 3 3) 0 ≠ old then (s.ccRestart 0).procImg 0 old else s
  if s.ccSt lost = 0 && s.ccSt taker = 1 then (s.ccTakeover cause taker).procImg (32 * lost) old
  else ((s.ccRestart lost).procImg (32 * lost) old).ccSync

/-- A fallback of another class (R460): every processor of the class restarts from the old image with its fallback record. -/
def State.classFallback (s : State) (c k : Nat) : State :=
  let s := s.updFail c k
  s.each (procBanks.filter (fun b => procClass b == c)) (fun b s =>
    ((s.setProbation b false).procImg b (s.activeSlot c)).bump .fp Fp.RESTART_CNT b)

/-- A processor becomes FAILED (R448, Table 16.2). -/
def State.procFail (s : State) (k : Nat) : State :=
  let s := (s.setProcSt k 2).event 0xB105 (procSrc k)
  if k % 32 = 0 then
    let i := k / 32
    let was := s.ccSt i
    let s := if was = 0 then s.ccLose i 1 else s
    ((s.setCcSt i 3).setProcSt k 2).ccSync
  else if k = 1 then s.mboxFlush 1 3
  else if k = 3 || k = 4 then s.procAbandon k
  else if 5 ≤ k then
    let s := s.procAbandon k
    let x := s.nmuSt (k - 5)
    (s.setNmu (k - 5) { x with failed := true, inReset := false }).event 0x910A (upathNmu (k - 5))
  else s

/-! ### What a tick edge does (R446, R447, R450, R451) -/

/-- A health report at edge +5 µs (R450, Table 16.5). -/
def State.healthReport (s : State) (o : HealthObs) : State :=
  let i := o.inst % 2
  let k := 32 * i
  let st := s.ccSt i
  if st = 0 || st = 3 || s.procSt k ≠ 0 then s
  else
    let x := s.proc k
    let x' := { x with passes := if o.pass then x.passes + 1 else 0, cycle := x.cycle || (o.cycle && o.pass),
                       held := if o.pass && st == 1 then x.held + 1 else 0 }
    let f := if i = 0 then Cc.HEALTH_P else Cc.HEALTH_J
    let n := (s.fld .cc (f.sub 31 16) + bool01 o.cycle) % 65536
    let s := s.modProc k (fun _ => x')
    let s := s.setFld .cc f (bool01 o.pass + bool01 x'.cycle * 2 + (if o.pass then 0 else o.slice % 8 * 4) + n * 65536)
    if st = 2 then
      if i = 0 && x'.cycle && !s.cc.booted then (s.modProc k (fun x => { x with boot := false })).ccTake 0
      else if x'.cycle && (100 ≤ x'.passes || x'.boot) then
        let s := ((s.setCcSt i 1).event 0xB113 (procSrc k)).modProc k (fun x => { x with held := 0, boot := false })
        s
      else s
    else if !o.pass then
      let s := (s.setCcSt i 2).modProc k (fun x => { x with cycle := false, passes := 0, held := 0 })
      s.event 0xB112 (procSrc k) [(2, o.slice)]
    else s

/-- An instance in STANDBY takes control while processor 0 is down. -/
def State.ccRescue (s : State) : State :=
  if s.ccDown && (s.cc.booted || s.procFailed 0) then
    match [0, 1].find? (fun i => s.ccSt i == 1) with
    | some i => (s.ccTake i).event 0xB111 (procSrc (32 * i))
    | none => s
  else s

/-- The state record of the ACTIVE instance at edge +9 µs (R451), and the third cause of a takeover (R452). -/
def State.stateRecord (s : State) (written : Bool) : State :=
  match s.ccActive? with
  | none => s
  | some i =>
    if written then
      let s := s.setFld .cc Cc.CSR_SEQ ((s.fld .cc Cc.CSR_SEQ + 1) % 2 ^ 32)
      { s.setFld64 .cc Cc.CSR_TICK_LO s.tick with cc := { s.cc with missed := 0 } }
    else if s.cc.missed = 2 then ({ s with cc := { s.cc with missed := 0 } }).ccLose i 3
    else { s with cc := { s.cc with missed := s.cc.missed + 1 } }

/-- Overruns (R446) and watchdog refreshes (R447) of the tick that ends. -/
def State.procTick (s : State) (fresh : List Nat) (past : List (Nat × Nat)) : State :=
  let s := s.each past (fun e s =>
    ((s.bump .fp Fp.OVR_CNT e.1).bumpBy .fp Fp.SKIP_CNT e.2 e.1).event 0xB101 (procSrc e.1) [(1, e.1 % 32)])
  s.each procBanks (fun k s =>
    s.modProc k (fun x => { x with idle := if fresh.contains k || s.procSt k ≠ 0 then 0 else min 1000 (x.idle + 1) }))

/-- PROB_LEFT of the classes in probation (Table 16.16). -/
def probation : Nat := 1000000

def State.probTick (s : State) : State :=
  s.each (List.range 5) (fun c s =>
    if s.updSt c = 3 then s.setFld .upd Upd.PROB_LEFT ((tGet s.upds c).start + probation - s.tick) c else s)

/-- A FAILOVER that waits for an edge (R453). -/
def State.failoverEdge (s : State) : State :=
  if s.fld .cc (Cc.CC_CMD.sub 0 0) = 1 then
    let s := s.setFld .cc (Cc.CC_CMD.sub 0 0) 0
    if s.ccSt 0 = 0 && s.ccSt 1 = 1 then s.ccHandover 1 else s
  else s

/-- Processor 0 and its supervision at a tick edge. -/
def State.fwEdge (s : State) (o : TickObs) : State :=
  let s := s.failoverEdge.procTick o.fwFresh o.fwOver
  let s := s.each o.health (fun h s => s.healthReport h)
  (s.ccRescue.stateRecord o.record).probTick

end Sys2Proof.Machine
end

