-- ==== Sys2Proof/Machine/Boot.lean ====
section
/-! DEFINITION. Boot verification and RECOVERY (R479, R480), what the continuity die takes from flash, fuses and pins at power-on
(R482, R494, R500, R527, R530), and the rails (R502, R521). -/
namespace Sys2Proof.Machine

/-! ### Verification of images (R478–R480) -/

/-- Why an image fails (R479): 1 the certificate chain, 2 the signature, 3 the class, 4 its SVN. -/
def State.imgCause (s : State) (c : Nat) (x : ImgHdr) : Option Nat :=
  if !x.chainOk then some 1
  else if !x.sigOk then some 2
  else if x.cls ≠ c then some 3
  else if x.svn < smGet (fun _ => 0) s.flash.svnMin c then some 4
  else none

/-- The image in a slot is verified: event 0xA100 or 0xA101. -/
def State.imgTry (s : State) (c slot : Nat) : State × Bool :=
  match s.imgCause c (s.image_ c slot) with
  | none => (s.event 0xA100 (srcProc 1 0) [(1, c), (1, slot)], true)
  | some e => (s.event 0xA101 (srcProc 1 0) [(1, c), (1, slot), (2, e)], false)

/-- A class boots from its active slot and then from its inactive slot, which becomes the active one; the slot that failed is then
REJECTED (R458, R479). -/
def State.bootClass (s : State) (c : Nat) : State × Bool :=
  let a := s.activeSlot c
  match s.imgTry c a with
  | (s, true) => (s, true)
  | (s, false) =>
    match s.imgTry c (1 - a) with
    | (s, true) =>
      ({ s with flash := { s.flash with active := smSet (fun _ => 0) s.flash.active c (1 - a),
                                        inactive := smSet (fun _ => 0) s.flash.inactive c 3 } }, true)
    | (s, false) => (s, false)

/-- BOOT_VERIFY (R479): the SEC image first, then with it the other classes; the classes without a verified image. -/
def State.bootImages (s : State) : State × List Nat :=
  match s.bootClass 1 with
  | (s, false) => (s, [1])
  | (s, true) =>
    [0, 2, 3, 4].foldl (fun (x : State × List Nat) c =>
      let (s, ok) := x.1.bootClass c
      (s, if ok then x.2 else x.2 ++ [c])) (s, [])

/-- Each processor is released with the verified image of its class, and is held otherwise (R479). -/
def State.procRelease (s : State) (bad : List Nat) : State :=
  let s := s.each procBanks (fun k s =>
    let c := procClass k
    let s := (s.setProcSt k (if bad.contains c then 1 else 0)).setProbation k false
    (s.procImg k (s.activeSlot c)).modProc k (fun _ => { boot := true }))
  let s := ((s.setCcSt 0 2).setCcSt 1 2).setFld .cc (Cc.CC_STATUS.sub 4 4) 1
  ({ s with cc := { bad := bad } }).each (List.range 5) (fun c s => s.updSync c)

/-- MAPOUT_REAPPLY (R168): the map-outs of the repair record, without a copy phase. -/
def State.mapoutReapply (s : State) : State :=
  s.each s.flash.repair (fun e s =>
    let s := (s.setFld (.mc e.1) Mc.MC_STATUS_MAPOUT_STATE 2).setFld (.mc e.1) Mc.MC_STATUS_MAPOUT_CH (e.2 - 1)
    (s.setFld (.mc e.1) Mc.MC_STATUS_CAP_GIB 93).setFld (.mc e.1) Mc.MAPOUT_WMARK 24379392)

/-- The boot of R479, and what follows it: RECOVERY (R480), or the UNCORE and MEM rails (R521 step 4). -/
def State.boot (s : State) : State :=
  let n := min (s.flash.bootCnt + 1) (2 ^ 32 - 1)
  let s := { s with flash := { s.flash with bootCnt := n } }.setFld .sec Sec.BOOT_CNT n
  let (s, bad) := s.bootImages
  let s := s.procRelease bad
  if bad.isEmpty then
    let s := (s.setFld .sec Sec.SEC_STATUS_RECOVERY 0).setFld .glb (Glb.MOD_STATE.sub 2 0) 0
    { s with mod_ := { s.mod_ with uncore := true, mem := true } }.mapoutReapply
  else
    let s := (s.setFld .sec Sec.SEC_STATUS_RECOVERY 1).setFld .glb (Glb.MOD_STATE.sub 2 0) 1
    s.event 0xA102 (srcProc 1 0)

/-! ### Identity and the registers that flash, fuses and pins fill -/

/-- The seed of the identity key (R482). -/
def State.idSeed (s : State) : List Byte :=
  shake256 (s.flash.secret ++ ascii (if s.flash.lifecycle = 3 then "NYM-IDRM" else "NYM-IDEN")) 32

/-- ID_DIGEST (R482). -/
def State.idDigest (s : State) : List Byte := shake256 (bytesLE 1952 (Config.mlDsaKey s.idSeed).toNat) 32

/-- The digest of the owner key, zero where none is set (Table 17.1). -/
def State.ownerDigest (s : State) : List Byte :=
  if s.flash.ownerKey.isEmpty then bytesLE 32 0 else shake256 s.flash.ownerKey 32

/-- OWNER and the digest registers of the security page. -/
def State.ownerSync (s : State) : State :=
  let d := natLE s.ownerDigest
  let s := s.setFld .sec Sec.SEC_STATUS_OWNER (bool01 (!s.flash.ownerKey.isEmpty))
  s.each (List.range 8) (fun i s => s.setFld .sec (Sec.OWNER_DIGEST i) (d / 2 ^ (32 * i) % 2 ^ 32))

/-- SVN_MIN of a class. -/
def State.svnSync (s : State) (c : Nat) : State := s.setFld .sec (Sec.SVN_MIN.sub 15 0) (smGet (fun _ => 0) s.flash.svnMin c) c

/-- The registers that flash, fuses and pins fill at power-on. Debug stands as Table 17.4 gives it. -/
def State.fromFlash (s : State) : State :=
  let f := s.flash
  let s := ((s.setFld64 .glb Glb.SERIAL_LO f.serial).setFld .glb Glb.STEPPING f.stepping).setFld .glb Glb.SLOT_ID (f.slotPins % 256)
  let s := (s.setFld64 .mgt Mgt.MAC0_LO (f.mac0 % 2 ^ 48)).setFld64 .mgt Mgt.MAC1_LO (f.mac1 % 2 ^ 48)
  let s := s.setFld .sec Sec.SEC_STATUS_LIFECYCLE f.lifecycle
  let s := s.setFld .sec Sec.SEC_STATUS_DEBUG_OPEN (bool01 (decide (f.lifecycle ≠ 2)))
  let s := s.setFld .sec Sec.SEC_STATUS_DEBUG_OPENED (bool01 (decide (f.lifecycle = 1)))
  let d := natLE s.idDigest
  let s := s.each (List.range 8) (fun i s => s.setFld .sec (Sec.ID_DIGEST i) (d / 2 ^ (32 * i) % 2 ^ 32))
  let s := s.ownerSync.each (List.range 5) (fun c s => s.svnSync c)
  s.each f.commission (fun e s => s.setReg e.1 e.2)

end Sys2Proof.Machine
end

