-- ==== Sys2Proof/Machine/Tokens.lean ====
section
/-! DEFINITION. Authorisation tokens (R493, Table 17.6). -/
namespace Sys2Proof.Machine

/-- Ticks for which a challenge is valid, and for which a decapsulation key is kept (R483, R493). -/
def challengeLife : Nat := 6000000

/-- The first 72 bytes of a token. -/
def Token.head (t : Token) (cmd : Nat) : List Byte :=
  bytesLE 8 (cmd % 2 ^ 16 + t.chip % 2 ^ 16 * 2 ^ 16 + t.boot % 2 ^ 32 * 2 ^ 32) ++ t.chal.take 32 ++ t.arg.take 32

/-- The argument of a token as a number. -/
def Token.argN (t : Token) : Nat := natLE t.arg

/-- The key under which a token's signature verifies (Table 17.6). -/
def State.tokenKey (s : State) (cmd : Nat) : List Byte :=
  if cmd = 1 || cmd = 2 then s.flash.ownerKey
  else if cmd = 3 then (if s.flash.ownerKey.isEmpty then s.flash.rootKey else s.flash.ownerKey)
  else s.flash.debugKey

/-- The token is accepted (R493). -/
def State.tokenOk (s : State) (cmd : Nat) (t : Token) : Bool :=
  let key := s.tokenKey cmd
  t.chip == s.chip && t.boot == s.fld .sec Sec.BOOT_CNT
    && (match s.sec.chal with
        | some (c, at_) => t.chal == c && decide (s.tick - at_ ≤ challengeLife)
        | none => false)
    && !key.isEmpty && Config.mlDsaVerify key (shake256 (t.head cmd) 64) t.sig

/-- A token is submitted: the challenge is spent, and the outcome recorded. -/
def State.tokenTake (s : State) (cmd : Nat) (t : Token) : State × Bool :=
  let ok := s.tokenOk cmd t
  let s := { s with sec := { s.sec with chal := none } }
  if ok then (s.event 0xA118 (srcProc 1 0) [(2, cmd)], true)
  else ((s.bump .sec Sec.TOKEN_REJ_CNT).event 0xA119 (srcProc 1 0), false)

end Sys2Proof.Machine
end

