-- ==== Sys2Proof/Machine/Firmware.lean ====
section
/-! DEFINITION. The commands of chapter 16: watchdogs and restarts of firmware processors (R447, R448), takeover and handover
(R452, R453), the mailbox opcodes of Table 16.9, firmware updates (R458–R461) and the Flip-book's commands (R467–R469). -/
namespace Sys2Proof.Machine

/-! ### Watchdogs, restarts and failures (R447, R448, Table 16.2) -/

/-- A processor of a class in probation loses it: the update falls back (R460, R461). -/
def State.probFallback (s : State) (k cause : Nat) : State :=
  let c := procClass k
  if c = 0 then s.ccFallback cause else s.classFallback c k

/-- A firing that counts (R448): the third within 100,000 ticks makes the processor FAILED, any other restarts it. -/
def State.fwFire (s : State) (k : Nat) : State :=
  let t := s.tick
  let hits := ((s.proc k).strikes.filter (fun a => decide (t < a + 100000))) ++ [t]
  let s := s.modProc k (fun x => { x with strikes := hits, idle := 0 })
  if 3 ≤ hits.length then s.procFail k
  else if k % 32 = 0 then
    if s.ccSt (k / 32) = 0 then s.ccLose (k / 32) 1 else s.ccRestart (k / 32)
  else s.procRestart k

/-- FW_WATCHDOG (R447): due when a running processor has not refreshed its watchdog for WD_FW ticks. -/
def execFwWatchdog (k : Nat) (s : State) : Host.Outcome State Fault Refusal :=
  if procBanks.contains k && (s.procSt k = 0 || s.procSt k = 3) && s.fld .fp (Fp.WD_FW.sub 9 0) k ≤ (s.proc k).idle then
    let s := (s.bump .fp Fp.WD_CNT k).event 0xB103 (procSrc k)
    .next (if s.inProbation k then (s.modProc k (fun x => { x with idle := 0 })).probFallback k 1 else s.fwFire k)
  else .next s

/-- FW_RESTART_DONE (R447): a restarting processor runs again, unless a takeover or the boot holds it. -/
def execFwRestartDone (k : Nat) (s : State) : Host.Outcome State Fault Refusal :=
  let held := match s.cc.takeover with | some (_, taker) => k == 32 * (1 - taker) | none => false
  if !procBanks.contains k || s.procSt k ≠ 1 || held || s.cc.bad.contains (procClass k) then .next s
  else
    let s := (s.setProcSt k 0).modProc k (fun x => { x with idle := 0 })
    if k % 32 = 0 then .next s
    else
      let s := s.event 0xB104 (procSrc k)
      .next (if 5 ≤ k then s.setNmu (k - 5) { s.nmuSt (k - 5) with failed := false } else s)

/-- FW_FATAL_FAULT (R452, R460, Table 16.5): the ACTIVE instance, or a processor in probation, reports a fatal fault of its own. -/
def execFwFatalFault (k : Nat) (s : State) : Host.Outcome State Fault Refusal :=
  if !procBanks.contains k || s.procSt k ≠ 0 then .next s
  else if s.inProbation k then .next (s.probFallback k 2)
  else if k % 32 = 0 && s.ccSt (k / 32) = 0 then .next (s.ccLose (k / 32) 2)
  else .next s

/-- A FAILED processor restarts (R448): an instance at once into TESTING, another once processor 0 is ACTIVE. -/
def State.fpRestart (s : State) (k : Nat) : State :=
  if !procBanks.contains k || !s.procFailed k then s.setErr .fp 0
  else
    let s := s.modProc k (fun x => { x with strikes := [] })
    if k % 32 = 0 then ((s.ccRestart (k / 32)).event 0xB104 (procSrc k)).ccSync
    else if s.ccDown then s.modProc k (fun x => { x with restartDue := true })
    else s.procRestart k

/-- The processor that FP_SEL names. -/
def State.fpSel (s : State) : Nat :=
  let v := s.fld .fp (Fp.FP_SEL.sub 5 0)
  if v % 32 = 0 then v else v % 32

/-- A write of FP_CMD (R474). -/
def State.fpCmd (s : State) (v : Word) : State := if bitAt v.toNat 0 then s.fpRestart s.fpSel else s

/-- FP_RESTART (R448, R474). -/
def execFpRestart (m : Master) (s : State) : Host.Outcome State Fault Refusal := .next (s.gated m .fp (fun s => s.fpCmd 1))

/-! ### Takeover and handover (R452, R453) -/

/-- TAKEOVER_DONE (R452 steps 3 and 4): `ns` runs from the trigger to ACTIVE. -/
def execTakeoverDone (ns : Nat) (s : State) : Host.Outcome State Fault Refusal :=
  match s.cc.takeover with
  | none => .next s
  | some (cause, taker) =>
    let s := s.mboxFlush 0 6
    let s := s.ccTake taker
    let s := s.event 0xB110 (procSrc (32 * taker)) [(2, cause), (8, s.fld64 .cc Cc.CSR_TICK_LO)]
    let s := (s.bump .cc Cc.TAKEOVER_CNT).setFld .cc (Cc.LAST_TAKEOVER.sub 1 0) cause
    .next (s.setFld .cc Cc.TAKEOVER_NS ns)

/-- The start of an update's probation on a processor: the image in the inactive slot runs. -/
def State.probStart (s : State) (c k : Nat) : State := (s.procImg k (1 - s.activeSlot c)).setProbation k true

/-- REVERT_HOLD_MET (R453, R461 step 4): Punch takes control back; while a CC update waits for it, his probation starts. -/
def execRevertHoldMet (s : State) : Host.Outcome State Fault Refusal :=
  if s.ccSt 0 = 1 && s.ccSt 1 = 0 && s.cc.takeover.isNone && s.fld .cc Cc.REVERT_HOLD ≤ (s.proc 0).held then
    if !s.updBusy 0 then .next (s.ccHandover 0)
    else if s.updSt 0 = 2 && s.updStep 0 = 3 then
      let s := (s.ccHandover 0).setUpd 0 3 4
      let s := (s.setProbation 0 true).procImg 32 (1 - s.activeSlot 0)
      .next ({ s with upds := tSet s.upds 0 { start := s.tick } }.setFld .upd Upd.PROB_LEFT probation 0)
    else .next s
  else .next s

/-- A write of CC_CMD (R453, R473): a FAILOVER acts at the next edge. -/
def State.ccCmd (s : State) (v : Word) : State :=
  if !bitAt v.toNat 0 then s
  else if s.ccSt 1 = 1 then s.setFld .cc (Cc.CC_CMD.sub 0 0) 1
  else s.setErr .cc 0

/-- FAILOVER (R453). -/
def execFailover (m : Master) (s : State) : Host.Outcome State Fault Refusal := .next (s.gated m .cc (fun s => s.ccCmd 1))

/-! ### Opcodes (Table 16.9) -/

/-- GET_VERSION (R456, R457): class, version, digest, message major and minor of the running image. -/
def execGetVersion (m : Master) (n : Nat) (h : MHdr) (s : State) : Host.Outcome State Fault Refusal :=
  .next (s.request m n 1 h (fun s =>
    let k := if h.target = 0 then 32 * s.ccActive?.getD 0 else h.target
    let x := s.runImg k
    (s, 0, bytesLE 1 (procClass k) ++ bytesLE 4 (s.fld .fp Fp.FP_VERSION k) ++ bytesLE 32 x.digest ++ bytesLE 1 1 ++ bytesLE 1 0)))

/-- GET_HEALTH (R456). -/
def execGetHealth (m : Master) (n : Nat) (h : MHdr) (s : State) : Host.Outcome State Fault Refusal :=
  .next (s.request m n 2 h (fun s =>
    (s, 0, bytesLE 4 (s.fld .cc Cc.HEALTH_P) ++ bytesLE 4 (s.fld .cc Cc.HEALTH_J) ++ bytesLE 4 (s.fld .cc Cc.CC_STATUS))))

/-- The state of a class's inactive slot: 0 EMPTY, 1 STAGING, 2 VERIFIED, 3 REJECTED, 4 FAILED. -/
def State.inactiveSt (s : State) (c : Nat) : Nat := smGet (fun _ => 0) s.flash.inactive c
def State.setInactiveSt (s : State) (c v : Nat) : State :=
  { s with flash := { s.flash with inactive := smSet (fun _ => 0) s.flash.inactive c v } }.updSync c

/-- Firmware may be staged for a class: in RECOVERY only a failed one (R480). -/
def State.updClass (s : State) (c : Nat) : Bool := !s.inRecovery || s.cc.bad.contains c

/-- FW_STAGE (R458). -/
def execFwStage (m : Master) (n : Nat) (h : MHdr) (cls off : Nat) (data : List Byte) (s : State) :
    Host.Outcome State Fault Refusal :=
  .next (s.request m n 0x10 h (fun s =>
    if 4 < cls || off % 4096 ≠ 0 then (s, 10, [])
    else if s.updBusy cls || !s.updClass cls then (s, 9, [])
    else
      let i := 2 * cls + (1 - s.activeSlot cls)
      let s := { s with flash := { s.flash with chunks := smSet (fun _ => []) s.flash.chunks (i * 2 ^ 32 + off) data } }
      (s.setInactiveSt cls 1, 0, [])))

/-- FW_VERIFY (R458, R479): `img` is what the staged image says of itself and what its signatures give. -/
def execFwVerify (m : Master) (n : Nat) (h : MHdr) (cls : Nat) (img : ImgHdr) (s : State) : Host.Outcome State Fault Refusal :=
  .next (s.request m n 0x11 h (fun s =>
    if 4 < cls then (s, 10, [])
    else if !s.updClass cls then (s, 9, [])
    else if s.inactiveSt cls = 0 || (s.imgCause cls img).isSome then
      ((s.setInactiveSt cls 3).event 0xB121 (srcProc 0 0), 8, [])
    else
      let i := 2 * cls + (1 - s.activeSlot cls)
      let s := { s with flash := { s.flash with images := tSet s.flash.images i img } }
      (s.setInactiveSt cls 2, 0, bytesLE 4 (img.version % 2 ^ 24 + cls * 2 ^ 24) ++ bytesLE 32 img.digest)))

/-- The conditions under which FW_ACTIVATE is rejected (R459). -/
def State.activateBad (s : State) (cls H : Nat) : Bool :=
  let new := s.image_ cls (1 - s.activeSlot cls)
  let run := s.image_ cls (s.activeSlot cls)
  s.inactiveSt cls ≠ 2 || decide (H < s.tick + 100) || (List.range 5).any s.updBusy
    || !new.canRead.contains run.writes || !(run.canRead.any (fun v => new.canWrite.contains v))
    || procBanks.any (fun k => procClass k == cls && s.procFailed k)
    || (cls == 0 && s.ccSt 1 != 1)

/-- FW_ACTIVATE (R459, R461 step 1; R480 in RECOVERY, where the boot restarts at its step 1). -/
def execFwActivate (m : Master) (n : Nat) (h : MHdr) (cls H : Nat) (s : State) : Host.Outcome State Fault Refusal :=
  .next (s.request m n 0x12 h (fun s =>
    if 4 < cls then (s, 10, [])
    else if s.inRecovery then
      if s.cc.bad.contains cls && s.inactiveSt cls = 2 then
        let a := s.activeSlot cls
        let s := { s with flash := { s.flash with active := smSet (fun _ => 0) s.flash.active cls (1 - a) } }
        ((s.setInactiveSt cls 3).boot, 0, [])
      else (s.event 0xB125 (srcProc 0 0), 9, [])
    else if s.activateBad cls H then (s.event 0xB125 (srcProc 0 0), 9, [])
    else
      let s := (s.setUpd cls 1 (if cls = 0 then 1 else 0)).setFld64 .upd Upd.UPD_H_LO H cls
      if cls = 0 then (((s.ccRestart 1).procImg 32 (1 - s.activeSlot 0)).ccSync, 0, []) else (s, 0, [])))

/-- FW_ABORT (R459): before H the update is disarmed. -/
def execFwAbort (m : Master) (n : Nat) (h : MHdr) (cls : Nat) (s : State) : Host.Outcome State Fault Refusal :=
  .next (s.request m n 0x13 h (fun s =>
    if 4 < cls then (s, 10, [])
    else if s.updSt cls = 1 && s.tick < s.fld64 .upd Upd.UPD_H_LO cls then
      let s := s.setUpd cls 0 0
      if cls = 0 then ((s.ccRestart 1).ccSync, 0, []) else (s, 0, [])
    else (s, 0, [])))

/-- FW_HANDOVER (R459, R461 step 2, R471): at H + 1 the processors of the class start the new image together; for CC control passes
to Judy, or the update falls back where she is not STANDBY or Punch not ACTIVE. -/
def execFwHandover (cls : Nat) (s : State) : Host.Outcome State Fault Refusal :=
  if s.updSt cls = 1 && s.fld64 .upd Upd.UPD_H_LO cls < s.tick then
    if cls = 0 && !(s.ccSt 0 = 0 && s.ccSt 1 = 1) then .next (s.ccFallback 1)
    else
      let ks := if cls = 0 then [32] else procBanks.filter (fun k => procClass k == cls)
      let s := s.setUpd cls 3 (if cls = 0 then 2 else 0)
      let s :=
        if cls = 0 then
          let s := ((s.ccHandover 1).setCcSt 0 1).setProcSt 0 0
          s.modProc 0 (fun x => { x with cycle := true, held := 0 })
        else s
      let s := s.each ks (fun k s => (s.probStart cls k).event 0xB122 (procSrc k))
      .next ({ s with upds := tSet s.upds cls { start := s.tick } }.setFld .upd Upd.PROB_LEFT probation cls)
  else .next s

/-- The new slot of a class becomes the active one (R460). -/
def State.updCommit (s : State) (c : Nat) : State :=
  let a := s.activeSlot c
  let s := { s with flash := { s.flash with active := smSet (fun _ => 0) s.flash.active c (1 - a),
                                            inactive := smSet (fun _ => 0) s.flash.inactive c 2 } }
  let s := ((s.setUpd c 4 (if c = 0 then 5 else 0)).setFld .upd Upd.PROB_LEFT 0 c).bump .upd Upd.UPD_CNT c
  let s := s.each (procBanks.filter (fun k => procClass k == c)) (fun k s => s.setProbation k false)
  let s := (s.updSync c).event 0xB124 (srcProc 0 0)
  if c = 0 then s.ccSync else s

/-- FW_PROBATION_END (R460, R461 steps 3 and 5): after 1,000,000 ticks the update commits; Judy's probation is followed by Punch's
restart from the new image. -/
def execFwProbationEnd (cls : Nat) (s : State) : Host.Outcome State Fault Refusal :=
  if s.updSt cls = 3 && (tGet s.upds cls).start + probation ≤ s.tick then
    if cls = 0 && s.updStep 0 = 2 then
      let s := ((s.setProbation 32 false).setUpd 0 2 3).setFld .upd Upd.PROB_LEFT 0 0
      .next (((s.ccRestart 0).procImg 0 (1 - s.activeSlot 0)).ccSync)
    else .next (s.updCommit cls)
  else .next s

/-- FB_CLEAR (R469): STATE while the Flip-book is frozen, TARGET while the security processor is FAILED, AUTH where the token is
refused. -/
def execFbClear (m : Master) (n : Nat) (h : MHdr) (tok : Token) (s : State) : Host.Outcome State Fault Refusal :=
  .next (s.request m n 0x30 h (fun s =>
    if s.procFailed 1 then (s, 3, [])
    else if s.procSt 1 = 1 then (s, 5, [])
    else if s.fld .flip (Rec.REC_STATUS.sub 0 0) = 1 then (s, 9, [])
    else
      match s.tokenTake 1 tok with
      | (s, false) => (s, 8, [])
      | (s, true) =>
        let s := { s with flip := { s.flip with kept := [] } }.bump .flip Rec.CLEAR_CNT
        (s.event 0x0102, 0, [])))

/-! ### The Flip-book window and freeze (R467, R468) -/

/-- The 64 bytes of a record (Table 16.11). -/
def FlipRec.bytes (r : FlipRec) : List Byte :=
  bytesLE 2 r.code ++ bytesLE 2 r.repeat_ ++ bytesLE 2 r.source ++ bytesLE 2 (bool01 r.near + bool01 r.trunc * 2 + bool01 r.fw * 4)
    ++ bytesLE 8 r.seq ++ bytesLE 8 r.tick ++ bytesLE 4 r.ofs ++ bytesLE 4 r.lastDelta ++ bytesLE 32 r.payload

/-- Latch the record at the cursor into the window (R467). -/
def State.recLatch (s : State) : State :=
  let cur := s.fld64 .flip Rec.REC_CURSOR_LO
  let area := s.fld .flip Rec.REC_CTRL_AREA
  let none_ : Option FlipRec := none
  let (r, gone) :=
    if area = 1 then
      (if cur < s.flip.kept.length then some (tGet s.flip.kept cur) else none_, false)
    else if s.flip.circ.any (fun e => e.1 == cur % 4096 && e.2.seq == cur) then (some (tGet s.flip.circ (cur % 4096)), false)
    else (none_, s.flip.circ.any (fun e => e.1 == cur % 4096 && decide (cur < e.2.seq)))
  let s := s.setFld .flip Rec.REC_WIN_STATUS (bool01 r.isSome + bool01 gone * 2)
  let b := match r with | some r => r.bytes | none => bytesLE 64 0
  s.each (List.range 16) (fun i s => s.setFld .flip (Rec.REC_W i) (natLE ((b.drop (4 * i)).take 4)))

/-- A read of a register by a master answers its value: the host by its completion, management in its session's response. -/
def State.answerRead (s : State) (m : Master) (v : Nat) : State :=
  if m = .host then s.emit (.hostRead 0 (bytesLE 4 v)) else s

/-- REC_W_0_READ (R467). -/
def execRecW0Read (m : Master) (s : State) : Host.Outcome State Fault Refusal :=
  if !s.answers .flip then .next s
  else
    let s := s.recLatch
    .next (s.answerRead m (s.fld .flip (Rec.REC_W 0)))

/-- The cursor advances past the record that has been read (R467). -/
def State.recNext (s : State) : State := s.setFld64 .flip Rec.REC_CURSOR_LO (s.fld64 .flip Rec.REC_CURSOR_LO + 1)

/-- REC_W_15_READ (R467). -/
def execRecW15Read (m : Master) (s : State) : Host.Outcome State Fault Refusal :=
  if !s.answers .flip then .next s else .next ((s.answerRead m (s.fld .flip (Rec.REC_W 15))).recNext)

/-- The Flip-book thaws (R468): event 0x0103 is its first record. -/
def State.flipThaw (s : State) : State :=
  if s.fld .flip (Rec.REC_STATUS.sub 0 0) = 0 then s
  else
    let s := (s.setFld .flip (Rec.REC_STATUS.sub 0 0) 0).setFld .flip Rec.REC_CTRL_FREEZE 0
    ({ s with flip := { s.flip with gapDue := true } }).flipPrelude.capEvent 0x0103

/-- A write of REC_CTRL (R468, R476). -/
def State.recCtrl (s : State) (v : Word) : State :=
  let v := v.toNat
  if bitAt v 0 && bitAt v 1 then s.setErr .flip 1
  else
    let s := s.setFld .flip Rec.REC_CTRL_AREA (bitsOf v 2 2)
    if bitAt v 0 then
      if s.fld .flip (Rec.REC_STATUS.sub 0 0) = 1 then s
      else
        let s := (s.setFld .flip (Rec.REC_STATUS.sub 0 0) 1).setFld .flip Rec.REC_CTRL_FREEZE 1
        { s with flip := { s.flip with freezeTick := s.tick, gapCnt := 0 } }
    else if bitAt v 1 then s.flipThaw
    else s

/-- FREEZE (R468): a write of REC_CTRL that sets FREEZE, with AREA. -/
def execFreeze (m : Master) (area : Nat) (s : State) : Host.Outcome State Fault Refusal :=
  .next (s.gated m .flip (fun s => s.recCtrl (BitVec.ofNat 32 (1 + area % 2 * 4))))

/-- THAW (R468): a write of REC_CTRL that sets THAW, with AREA. -/
def execThaw (m : Master) (area : Nat) (s : State) : Host.Outcome State Fault Refusal :=
  .next (s.gated m .flip (fun s => s.recCtrl (BitVec.ofNat 32 (2 + area % 2 * 4))))

/-- FREEZE_MAX_EXPIRY (R468). -/
def execFreezeMaxExpiry (s : State) : Host.Outcome State Fault Refusal :=
  if s.fld .flip (Rec.REC_STATUS.sub 0 0) = 1 && s.flip.freezeTick + s.fld .flip Rec.FREEZE_MAX ≤ s.tick then .next s.flipThaw
  else .next s

end Sys2Proof.Machine
end

