-- ==== Sys2Proof/Machine/Module.lean ====
section
/-! DEFINITION. The module: power (R501–R505), coolant and heat (R507, R508), insertion and removal (R521–R524) and the chip number
(R522). -/
namespace Sys2Proof.Machine

/-! ### Power on and power off (R477, R479, R521, R524) -/

/-- MOD_STATE without LATCH_OPEN (Table 18.12): 0 BOOTING, 1 RECOVERY, 2 READY, 3 REMOVE_PENDING, 4 SAFE_TO_REMOVE, 5 FAILED. -/
def State.modState (s : State) : Nat := s.fld .glb (Glb.MOD_STATE.sub 2 0)
def State.setModState (s : State) (v : Nat) : State := s.setFld .glb (Glb.MOD_STATE.sub 2 0) v

/-- What is left without input power: flash, fuses and pins, the latch, and the model's own fields. -/
def State.dark (s : State) : State :=
  { pending := s.pending, out := s.out, fresh := s.fresh, flash := s.flash, mod_ := { latchOpen := s.mod_.latchOpen } }

/-- The first tests of the physical cores after power-on (R411). -/
def State.ftFirst (s : State) : State :=
  s.each allCores (fun e s => s.setFtDue e.1 e.2 (s.tick + s.ftPeriod * (e.2 + 1) / 9))

/-- An RMA token takes effect at power-on (R493). -/
def Flash.rmaStep (f : Flash) : Flash := if f.rmaPending then { f with lifecycle := 3, rmaPending := false } else f

/-- What an RMA token that waits does to flash. -/
def State.rmaTake (s : State) : State := { s with flash := s.flash.rmaStep }

/-- Steps 1 to 4 of Table 18.9: STBY comes up, the recorder starts, and the images are verified. -/
def State.powerUp (s : State) : State :=
  let s := s.dark.rmaTake
  let s := { s with mod_ := { stby := true, latchOpen := s.mod_.latchOpen } }
  let s := s.setFld .glb (Glb.MOD_STATE.sub 3 3) (bool01 s.mod_.latchOpen)
  ((s.event 0x0101).fromFlash.ftFirst).boot

/-- POWER_ON (R521): the blade mates, or power returns. -/
def execPowerOn (s : State) : Host.Outcome State Fault Refusal := .next (if s.mod_.stby then s else s.powerUp)

/-- A base die has written every line of its stack (R179, R181): READY, and scrubbing begins. -/
def State.stackReady (s : State) (k : Nat) : State :=
  let s := (s.setFld (.mc k) Mc.MC_STATUS_READY 1).event 0x2101 (srcStack k)
  if s.flag (.scr k) Scr.SCRUB_CTRL_EN then s.scrubStart k false else s

/-- Step 5 of Table 18.9: the CORE rails. -/
def State.coresUp (s : State) : State :=
  let s := { s with mod_ := { s.mod_ with core0 := true, core1 := true } }
  if s.modState = 0 then (s.setModState 2).event 0xC113 else s

/-- EDESK_INIT_DONE (R179): every line of the twelve stacks has been written. -/
def execEdeskInitDone (s : State) : Host.Outcome State Fault Refusal :=
  .next (if s.mod_.mem && !s.flag (.mc 0) Mc.MC_STATUS_READY && !s.failed then
    (s.each (List.range 12) (fun k s => s.stackReady k)).coresUp
  else s)

/-- All power is lost: nothing volatile is left (R477, R524). -/
def State.powerDown (s : State) : State := if s.mod_.stby then s.dark else s

/-- POWER_LOSS (R524). -/
def execPowerLoss (s : State) : Host.Outcome State Fault Refusal := .next s.powerDown

/-- The input leaves its range, or comes back (R501): beyond 36–62 V the hot-swap controller opens; between the limits a warning. -/
def State.inputVoltage (s : State) (mv : Nat) : State :=
  if !s.mod_.stby then s
  else if mv < 36000 || 62000 < mv then s.powerDown
  else if 40000 ≤ mv && mv ≤ 60000 then
    { s with mod_ := { s.mod_ with vinOut := false } }.setFld .pwr (Pwr.PWR_STATUS.sub 2 2) 0
  else
    let told := s.mod_.vinOut
    let s := { s with mod_ := { s.mod_ with vinOut := true } }.setFld .pwr (Pwr.PWR_STATUS.sub 2 2) 1
    if told then s else s.event 0xC101 0 [(2, mv)]

/-- INPUT_VOLTAGE_EXCURSION (R501): the voltage at which the input stays, in mV. -/
def execInputVoltageExcursion (mv : Nat) (s : State) : Host.Outcome State Fault Refusal := .next (s.inputVoltage mv)

/-- OVERCURRENT_TRIP (R505): the record is streamed before power is gone. -/
def execOvercurrentTrip (s : State) : Host.Outcome State Fault Refusal :=
  .next (if s.mod_.stby then (s.event 0xC105).powerDown else s)

/-! ### The power cap (R504, R508) -/

/-- The limits of Table 18.3 with CAP_EFF, over 10 ms and over 1 s. -/
def State.limit10 (s : State) : Nat := min 2600 (s.fld .pwr Pwr.CAP_EFF + 200)
def State.limit1s (s : State) : Nat := s.fld .pwr Pwr.CAP_EFF

/-- The averages are held against their limits (R504): the episode starts, goes on or ends. Averages 0: 10 ms, 1: 1 s. -/
def State.powerCap (s : State) (w10 w1s : Nat) : State :=
  let past := decide (s.limit10 < w10) || decide (s.limit1s < w1s)
  if past == s.mod_.capHold then s
  else
    let s := { s with mod_ := { s.mod_ with capHold := past } }.setFld .pwr (Pwr.PWR_STATUS.sub 0 0) (bool01 past)
    if past then s.event 0xC103 0 [(1, if s.limit10 < w10 then 0 else 1)] else s.event 0xC104

/-- POWER_CAP_HOLD (R504): the averages in W as they would become. -/
def execPowerCapHold (w10 w1s : Nat) (s : State) : Host.Outcome State Fault Refusal :=
  .next (if s.mod_.stby then s.powerCap w10 w1s else s)

/-- A write of PWR_CAP (R508, R531): CAP_EFF follows it where no episode holds it lower. -/
def State.pwrCap (s : State) (v : Nat) : State :=
  if v < 600 || 2400 < v then s.setErr .pwr 0
  else
    let old := s.fld .pwr Pwr.PWR_CAP
    let eff := s.fld .pwr Pwr.CAP_EFF
    (s.setFld .pwr Pwr.PWR_CAP v).setFld .pwr Pwr.CAP_EFF (if eff = old then v else min eff v)

/-! ### Heat (R507, R508) -/

/-- The throttle point of a sensor in 0.1 °C (Table 18.4). -/
def throttlePoint (k : Nat) : Option Int :=
  if k ≤ 1 then some 1000 else if k ≤ 13 then some 950 else if k = 20 then some 1100 else none

/-- A sensor stands at its warning limit. -/
def warnAt (k : Nat) (t : Int) : Bool :=
  if 14 ≤ k && k ≤ 16 then decide (950 ≤ t) else if k = 18 then decide (400 ≤ t) else k == 21 && decide (t < 250)

/-- A sensor stands at its trip point. -/
def tripAt (k : Nat) (t : Int) : Bool :=
  if k ≤ 1 || k = 17 then decide (1100 ≤ t) else if k ≤ 16 then decide (1050 ≤ t) else if k = 18 then decide (450 ≤ t)
  else if k = 20 then decide (1250 ≤ t) else k == 21 && decide (t < 150)

/-- A reading of a sensor reaches its register: TEMP with the highest value since power-on, and FLOW. -/
def State.showTemp (s : State) (k : Nat) (t : Int) : State :=
  if k = 21 then s.setFld .pwr (Pwr.FLOW.sub 15 0) (unsignedOf 16 t)
  else
    let old := s.fld .pwr Pwr.TEMP k
    let hi := if old = 0 then t else max t (signedOf 16 (old / 65536))
    s.setFld .pwr Pwr.TEMP (unsignedOf 16 t + unsignedOf 16 hi * 65536) k

/-- The bits of PWR_STATUS that the sensors give. -/
def State.warnBits (s : State) : State :=
  let w := s.mod_.warns
  let s := s.setFld .pwr (Pwr.PWR_STATUS.sub 1 1) (bool01 (!s.mod_.hot.isEmpty))
  let s := s.setFld .pwr (Pwr.PWR_STATUS.sub 3 3) (bool01 (w.any (fun k => 18 ≤ k)))
  s.setFld .pwr (Pwr.PWR_STATUS.sub 4 4) (bool01 (w.any (fun k => k < 18)))

/-- A sensor reaches its throttle point, falls below it, or falls 3 °C below it (R508). -/
def State.throttle (s : State) (k : Nat) (t : Int) : State :=
  match throttlePoint k with
  | none => s
  | some p =>
    let m := s.mod_
    let was := m.hot.contains k
    let is_ := decide (p ≤ t)
    let warm := if is_ then k :: m.warm.filter (· != k) else if t ≤ p - 30 then m.warm.filter (· != k) else m.warm
    let hot := if is_ then k :: m.hot.filter (· != k) else m.hot.filter (· != k)
    let turn := m.hot.isEmpty != hot.isEmpty || m.warm.isEmpty != warm.isEmpty
    let s := { s with mod_ := { m with hot := hot, warm := warm, capTicks := if turn then 0 else m.capTicks } }
    if is_ == was then s else s.event (if is_ then 0xC108 else 0xC109) 0 [(1, k)]

/-- A sensor reaches or leaves its warning limit (Table 18.4). -/
def State.warnSensor (s : State) (k : Nat) (t : Int) : State :=
  let m := s.mod_
  if warnAt k t == m.warns.contains k then s
  else if warnAt k t then { s with mod_ := { m with warns := k :: m.warns } }.event 0xC10B 0 [(1, k)]
  else { s with mod_ := { m with warns := m.warns.filter (· != k) } }

/-- A reading of a sensor: 0.1 °C, and for the flow 0.01 L/min. -/
def State.sensor (s : State) (k : Nat) (t : Int) : State := (((s.showTemp k t).throttle k t).warnSensor k t).warnBits

/-- THERMAL_THROTTLE_CHANGE (R508): a sensor crosses its throttle point. -/
def execThermalThrottleChange (k : Nat) (t : Int) (s : State) : Host.Outcome State Fault Refusal :=
  .next (if s.mod_.stby && (throttlePoint k).isSome then s.sensor k t else s)

/-- CAP_EFF moves by 100 W (R508): down to 600 W while a sensor is at its throttle point, up to PWR_CAP once all are 3 °C below. -/
def State.capStep (s : State) : State :=
  let eff := s.fld .pwr Pwr.CAP_EFF
  let cap := s.fld .pwr Pwr.PWR_CAP
  if s.mod_.capTicks < 1000 then s
  else
    let s := { s with mod_ := { s.mod_ with capTicks := 0 } }
    if !s.mod_.hot.isEmpty then s.setFld .pwr Pwr.CAP_EFF (if eff ≤ 700 then min eff 600 else eff - 100)
    else if s.mod_.warm.isEmpty then s.setFld .pwr Pwr.CAP_EFF (min cap (eff + 100))
    else s

/-- CAP_EFF_STEP (R508): 1,000 ticks after the last step. -/
def execCapEffStep (s : State) : Host.Outcome State Fault Refusal := .next (if s.mod_.stby then s.capStep else s)

/-- The action of a trip (Table 18.4). -/
def State.thermalTrip (s : State) (k : Nat) (t : Int) : State :=
  let s := (s.sensor k t).event 0xC10A 0 [(1, k), (2, unsignedOf 16 t)]
  if 14 ≤ k && k ≤ 16 then s.engineDark (k - 14)
  else if k = 17 || k = 20 then s.powerDown
  else s.moduleFail

/-- THERMAL_TRIP (R507): a sensor at its trip point; the coolant sensors have been there for 1 s. -/
def execThermalTrip (k : Nat) (t : Int) (s : State) : Host.Outcome State Fault Refusal :=
  .next (if s.mod_.stby && tripAt k t then s.thermalTrip k t else s)

/-! ### The chip number (R522) -/

/-- The enabled copper ports train once the chip number is valid; without one no lane trains. -/
def State.chipLanes (s : State) (was : Bool) : State :=
  let now := s.flag .glb Glb.CHIP_ID_VALID
  if now && !was then s.each (List.range 8) (fun p s => if s.flag (.lnk p) Lnk.LNK_CTRL_EN then s.portUp p else s)
  else if was && !now then
    s.each (List.range 32) (fun p s => s.each (laneIds p) (fun n s => if s.laneSt p n = 1 then (s.setLaneSt p n 0).portSync p else s))
  else s

/-- A write of CHIP_ID: only while no bundle is UP and every job partition is FREE. -/
def State.chipWrite (s : State) (v : Nat) : State :=
  if (List.range 64).any s.bndUp || !s.partsHeld.isEmpty then s.setErr .glb 0
  else
    let was := s.flag .glb Glb.CHIP_ID_VALID
    (s.setFld .glb (Glb.CHIP_ID.sub 16 0) (v % 131072)).chipLanes was

/-- CHIP_ID_WRITE (R522). -/
def execChipIdWrite (m : Master) (v : Word) (s : State) : Host.Outcome State Fault Refusal :=
  .next (s.gated m .glb (fun s => s.chipWrite v.toNat))

/-! ### Removal (R523) -/

/-- A hot-remove notice: source 0 the latch, 1 MOD_CMD. -/
def State.removeNotice (s : State) (src : Nat) : State :=
  if s.mod_.removeReq then s
  else ({ s with mod_ := { s.mod_ with removeReq := true } }.setModState 3).event 0xC110 0 [(2, src)]

/-- The notice is withdrawn: READY again, or where the module had not become READY what it is instead. -/
def State.removeCancel (s : State) : State :=
  if s.modState = 3 && !s.mod_.latchOpen then
    let back := if s.failed then 5 else if s.flag .sec Sec.SEC_STATUS_RECOVERY then 1 else if s.flag (.mc 0) Mc.MC_STATUS_READY then 2 else 0
    ({ s with mod_ := { s.mod_ with removeReq := false } }.setModState back).event 0xC111
  else s

/-- A write of MOD_CMD. -/
def State.modCmd (s : State) (v : Nat) : State :=
  let s := if bitAt v 0 then s.removeNotice 1 else s
  if bitAt v 1 then s.removeCancel else s

/-- EJECT_LATCH_OPEN (R523). -/
def execEjectLatchOpen (s : State) : Host.Outcome State Fault Refusal :=
  let s := { s with mod_ := { s.mod_ with latchOpen := true } }
  .next (if s.mod_.stby then (s.setFld .glb (Glb.MOD_STATE.sub 3 3) 1).removeNotice 0 else s)

/-- EJECT_LATCH_CLOSE (R523): LATCH_OPEN clears; a notice that stands goes on. -/
def execEjectLatchClose (s : State) : Host.Outcome State Fault Refusal :=
  let s := { s with mod_ := { s.mod_ with latchOpen := false } }
  .next (if s.mod_.stby then s.setFld .glb (Glb.MOD_STATE.sub 3 3) 0 else s)

/-- REMOVE_REQ (R523). -/
def execRemoveReq (m : Master) (s : State) : Host.Outcome State Fault Refusal := .next (s.gated m .glb (fun s => s.modCmd 1))

/-- REMOVE_CANCEL (R523). -/
def execRemoveCancel (m : Master) (s : State) : Host.Outcome State Fault Refusal := .next (s.gated m .glb (fun s => s.modCmd 2))

/-- The lasers of an engine are switched off. -/
def State.lasersOff (s : State) (e : Nat) : State :=
  s.each [0, 1] (fun x s => if s.lasRole e x = 1 || s.lasRole e x = 2 then s.setFld (.las e x) Las.LAS_STATUS_ROLE 0 else s)

/-- Lasers, CORE, OPT, UNCORE and MEM go down (R523): links and memory contents are lost, the continuity die stays up. -/
def State.railsDown (s : State) : State :=
  let s := s.each (List.range 3) (fun e s => s.lasersOff e)
  let s := s.each (List.range 32) (fun p s => s.portDown p)
  let s := s.each (List.range 12) (fun k s => (s.setFld (.mc k) Mc.MC_STATUS_READY 0).setFld (.scr k) Scr.SCRUB_STATUS 0)
  { s with mod_ := { s.mod_ with core0 := false, core1 := false, uncore := false, mem := false }, mem := [], lines := [] }

/-- SAFE_TO_REMOVE (R523): every job partition is FREE and no TRANSIT flit has been forwarded for 1,000 ticks. -/
def execSafeToRemove (s : State) : Host.Outcome State Fault Refusal :=
  .next (if s.modState = 3 && s.partsHeld.isEmpty && 1000 ≤ s.mod_.idleTransit then ((s.setModState 4).event 0xC112).railsDown else s)

end Sys2Proof.Machine
end

