-- ==== Sys2Proof/Machine/TimeOps.lean ====
section
/-! DEFINITION. The time base: steps, TIME flits and path delay, the root and the tree, the states of Table 11.3 and the
servo (R308–R328). -/
namespace Sys2Proof.Machine

def State.modTime (s : State) (f : TimeX → TimeX) : State := { s with time := f s.time }

/-- Saturate a signed value to 32 bits, as the register holds it. -/
def sat32 (v : Int) : Nat := unsignedOf 32 (max (-2147483648) (min 2147483647 v))

/-- Whole nanoseconds of a time in 2^−16 ns. -/
def toNs (v : Int) : Int := v / 65536

/-- The state of the time base (Table 11.3): 0 UNSET, 1 ACQUIRING, 2 LOCKED, 3 HOLDOVER. -/
def State.timSt (s : State) : Nat := s.fld .time (Tim.TIM_STATUS.sub 1 0)
def State.setTimSt (s : State) (v : Nat) : State := s.setFld .time (Tim.TIM_STATUS.sub 1 0) v
/-- This device has the root role (R316). -/
def State.isRoot (s : State) : Bool := s.fld .time (Tim.TIM_STATUS.sub 2 2) == 1
def State.gmLocked (s : State) : Bool := s.fld .time (Tim.TIM_STATUS.sub 3 3) == 1
def State.rootLoss (s : State) : Nat := s.fld .time Tim.TIM_CFG_ROOT_LOSS

/-- Show the time base at a time (Table 11.7), unless a reading is frozen (R334). -/
def State.showTime (s : State) (t : Nat) : State :=
  if s.time.frozen then s else
  let ns := t / 65536
  let s := s.setFld64 .time Tim.TIME_SEC_LO (ns / nsPerSec)
  (s.setFld .time Tim.TIME_NS (ns % nsPerSec)).setFld .time Tim.TIME_FRAC (t % 65536)

/-! ### Time comparators (R330) -/

/-- Target of a comparator. -/
def State.trgTarget (s : State) (n : Nat) : Nat :=
  (s.fld64 .trg (Trg.TRG_SEC_LO n) * nsPerSec + s.fld .trg ((Trg.TRG_NS n).sub 29 0)) * 65536

/-- A comparator fires: ARM clears, and its actions happen (R330). -/
def State.trgFire (s : State) (n : Nat) (late : Bool) : State :=
  let s := s.setFld .trg (Trg.TRG_CTRL_ARM n) 0
  let s := s.whenB (s.flag .trg (Trg.TRG_CTRL_EVENT n)) (fun s => s.event 0x510A 0 [(2, n), (2, bool01 late)])
  s.whenB (s.flag .trg (Trg.TRG_CTRL_PULSE n)) (fun s => s.emit (.ppsPulse (s.fld .trg Trg.PPS_CTRL_WIDTH)))

/-- A write of TRG_CTRL at a time (R330): a target that is past fires at once. -/
def State.trgCtrl (s : State) (n : Nat) (v : Word) (now : Nat) : State :=
  let s := s.setFld .trg (Trg.TRG_CTRL_EVENT n) (bitsOf v.toNat 1 1)
  let s := s.setFld .trg (Trg.TRG_CTRL_PULSE n) (bitsOf v.toNat 2 2)
  if v.toNat % 2 = 1 then
    let s := s.setFld .trg (Trg.TRG_CTRL_ARM n) 1
    s.whenB (decide (s.trgTarget n ≤ now)) (fun s => s.trgFire n true)
  else s

/-! ### Steps (R25, R310) -/

/-- The time base steps by a signed amount. A forward step carries the tick count with it, makes skipped start ticks due
and fires the comparators that it passes. -/
def State.timeStep (s : State) (d : Int) : State :=
  let new := (((s.time.tai : Int) + d).toNat)
  let old := s.tick
  let s := s.modTime (fun x => { x with tai := new, stepAt := some new, off := 0, lockN := 0, srcArr := x.srcArr + d })
  let s := if old < new / tickLen then
      ((s.setFld64 .time Tim.TICK_LO (new / tickLen)).scanSkip old (new / tickLen)) else s
  let s := s.showTime new
  let s := s.event 0x5100 0 [(8, unsignedOf 64 (toNs d))]
  s.each (List.range 4) (fun n s =>
    s.whenB (s.flag .trg (Trg.TRG_CTRL_ARM n) && decide (s.trgTarget n ≤ new)) (fun s => s.trgFire n true))

/-! ### Path delay and TIME flits (R311–R315) -/

/-- The trained lane pairs in lane order, as port and lane: copper lanes by number, ring channels as 16 + ring. -/
def State.timePairs (s : State) : List (Nat × Nat) :=
  (List.range 32).flatMap (fun p =>
    if p < 8 then ((laneIds p).filter (fun n => s.laneSt p n == 2 || s.laneSt p n == 3)).map (fun n => (p, n))
    else ((List.range 12).filter (fun r => s.ringSt p r == 3 || s.ringSt p r == 4)).map (fun r => (p, 16 + r)))

/-- Where TIME flits are sent (R311): every trained lane pair, and every lit ring channel. -/
def State.timeOut (s : State) : List (Nat × Nat) :=
  s.timePairs.filter (fun e => decide (e.1 < 8)) ++ (List.range 24).flatMap (fun i =>
    ((List.range 12).filter (fun r => s.ringF (i + 8) r Rng.RING_STATE_ON_LINE == 1)).map (fun r => (i + 8, 16 + r)))

/-- The LANE that the flits of a pair carry (R232, R255): the lane that drives a ring channel, and 16 + r where none does. -/
def State.timeLane (s : State) (p lane : Nat) : Nat :=
  if lane < 16 then lane
  else
    let l := s.ringLane p (lane - 16)
    if l = 15 then lane else l

def timeKey (p lane : Nat) : Nat := p * 32 + lane

def State.timeBundle (s : State) (p lane : Nat) : Nat :=
  if lane < 16 then s.laneBundle p lane else s.ringF p (lane - 16) Rng.RING_STATE_BUNDLE

/-- D_in of a pair (R312): the mean of the delays measured, and half the asymmetry of the port; none before 4 of them. -/
def State.delayIn (s : State) (p lane : Nat) : Option Int :=
  let x := tGet s.time.lanes (timeKey p lane)
  if x.n < 4 then none
  else
    let asym := signedOf 16 (s.fld .time ((Tim.ASYM p).sub 15 0))
    some (x.ds.foldl (· + ·) 0 / (x.ds.length : Nat) + asym * 65536 / 200)

/-- The parent bundle (Table 11.7). -/
def State.timeParent (s : State) : Option Nat :=
  let v := s.fld .time Tim.PARENT
  if bitAt v 6 then some (v % 64) else none

/-- The parent source lane: the first pair of the bundle that has a valid delay (R313). -/
def State.sourceLane (s : State) (b : Nat) : Option (Nat × Nat) :=
  s.timePairs.find? (fun e => s.timeBundle e.1 e.2 == b && (s.delayIn e.1 e.2).isSome)

/-- A TIME flit arrives (R312, R313, R317). -/
def State.timeRx (s : State) (p lane : Nat) (m : TimeMsg) (arr : Nat) : State :=
  let k := timeKey p lane
  let b := s.timeBundle p lane
  let x := tGet s.time.lanes k
  let x := if m.echoTs = 0 then x else
    let d : Int := ((arr : Int) - m.echoTs - m.echoRes) / 2
    { x with ds := (d :: x.ds).take 16, n := min 16 (x.n + 1) }
  let s := s.modTime (fun t => { t with lanes := tSet t.lanes k { x with last := s.tick + 1, txTs := m.txTs, arr := arr } })
  let a := tGet s.time.ads b
  let same := a.chip = m.rootChip && a.tseq = m.tseq && a.hops ≠ 255
  let a' : Advert := { chip := m.rootChip, prio := m.rootPrio, tseq := m.tseq, moved := if same then a.moved else s.tick + 1,
                       hops := m.hops, synced := m.synced }
  let s := s.modTime (fun t => { t with ads := tSet t.ads b a' })
  match s.delayIn p lane with
  | some d =>
    if !s.isRoot && s.timeParent = some b && s.sourceLane b = some (p, lane) then
      let off : Int := (arr : Int) - (m.origin + m.corr + d)
      let s := s.modTime (fun t => { t with src := some m, srcArr := arr, srcDelay := d, srcTick := s.tick + 1, off := off, got := true })
      let s := s.setFld .time Tim.OFFSET (sat32 (toNs off))
      let s := s.setFld .time Tim.PARENT_DELAY (unsignedOf 32 d)
      s.setFld .time Tim.UTC_INFO (unsignedOf 16 m.utcOfs + m.leap % 8 * 65536)
    else s
  | none => s

/-- The TIME flits of a tick (R311, R314), sent at edge + 2 µs. -/
def State.timeSend (s : State) : State :=
  let tx := s.time.tai + 2000 * 65536
  let st := s.timSt
  let root := s.isRoot
  if !s.flag .glb Glb.CHIP_ID_VALID then s
  else s.each s.timeOut (fun e s =>
    let x := tGet s.time.lanes (timeKey e.1 e.2)
    let m : TimeMsg := { chip := s.chip, port := e.1, lane := s.timeLane e.1 e.2, root := root, synced := (st == 1 || st == 2),
                         holdover := (st == 3), hops := s.fld .time (Tim.TIM_STATUS.sub 11 4), txTs := tx, rootPrio := 255,
                         echoTs := x.txTs, echoRes := if x.txTs = 0 then 0 else tx - x.arr }
    let u := s.fld .time Tim.UTC_INFO
    let m :=
      if root then
        { m with gmLocked := s.gmLocked, rootChip := s.chip, rootPrio := s.fld .time (Tim.ROOT_ID.sub 23 16), tseq := s.tick % 65536,
                 origin := tx, utcOfs := signedOf 16 (u % 65536), leap := u / 65536 % 8, gmId := s.fld64 .ptp Ptp.GM_ID_LO }
      else match s.timeParent, s.time.src with
        | some _, some f =>
          { m with gmLocked := f.gmLocked, rootChip := f.rootChip, rootPrio := f.rootPrio, tseq := f.tseq, origin := f.origin,
                   corr := f.corr + s.time.srcDelay + ((tx : Int) - s.time.srcArr), utcOfs := f.utcOfs, leap := f.leap, gmId := f.gmId }
        | _, _ => { m with synced := false }
    s.emit (.flit e.1 m.lane { h := s.laneHdr e.1 m.lane, p := .time m }))

/-! ### PTP ports (R323, R324) -/

def State.ptpPort (s : State) (p : Nat) : PtpPort := tGet s.time.ptp p
def State.modPtp (s : State) (p : Nat) (f : PtpPort → PtpPort) : State :=
  s.modTime (fun t => { t with ptp := tMod t.ptp p f })

/-- portState of a management port (IEEE 1588: 2 FAULTY, 3 DISABLED, 4 LISTENING, 7 PASSIVE, 8 UNCALIBRATED, 9 SLAVE). -/
def State.ptpSt (s : State) (p : Nat) : Nat := s.fld .ptp (Ptp.PTP_STATUS.sub (4 * p + 3) (4 * p))

/-- The port that is SLAVE or UNCALIBRATED. -/
def State.ptpSlave (s : State) : Option Nat := [0, 1].find? (fun p => s.ptpSt p == 8 || s.ptpSt p == 9)

def setPtpSt (s : State) (p v : Nat) : State :=
  if s.ptpSt p = v then s
  else (s.setFld .ptp (Ptp.PTP_STATUS.sub (4 * p + 3) (4 * p)) v).event 0x5110 0 [(2, p), (2, v)]

/-- The port runs PTP: enabled, and its link up. -/
def State.ptpRuns (s : State) (p : Nat) : Bool :=
  bitAt (s.fld .ptp Ptp.PTP_CTRL) p && bitAt (s.fld .mgt Mgt.MGT_STATUS) p

/-- The PTP SLAVE port is qualified: 8 consecutive Sync exchanges with their delay (R319). -/
def State.ptpQualified (s : State) : Bool :=
  match s.ptpSlave with
  | some p => decide (8 ≤ (s.ptpPort p).exch)
  | none => false

/-! ### States (R319) -/

/-- The source of the time base is qualified. -/
def State.qualified (s : State) : Bool :=
  if s.isRoot then s.ptpQualified else s.timeParent.isSome && decide (100 ≤ s.time.qual)

/-- The rate in effect, in 0.1 ppb. -/
def State.rate (s : State) : Int := signedOf 32 (s.fld .time Tim.RATE_ADJ)
def State.setRate (s : State) (v : Int) : State := s.setFld .time Tim.RATE_ADJ (unsignedOf 32 v)

/-- HOLDOVER (Table 11.3), with the cause of R319; the rate freezes at the mean of the last 100 ticks. -/
def State.holdover (s : State) (cause : Nat) : State :=
  let l := s.time.rates
  let r : Int := if cause = 5 || l.isEmpty then 0 else l.foldl (· + ·) 0 / (l.length : Nat)
  let s := (s.setRate r).modTime (fun t => { t with held := r, longNoted := false, qual := 0, lockN := 0, rates := [] })
  ((s.setTimSt 3).setFld .time Tim.HOLD_TICKS 0).event 0x5102 0 [(2, cause)]

/-- ACQUIRING and LOCKED go to HOLDOVER when the source is lost or changes. -/
def State.sourceGone (s : State) (cause : Nat) : State :=
  let s := s.modTime (fun t => { t with qual := 0, lockN := 0, got := false })
  if s.timSt = 1 || s.timSt = 2 then s.holdover cause else s

/-! ### The root and the tree (R316–R318) -/

/-- This device is a root candidate (R316, R523). -/
def State.rootCandidate (s : State) : Bool :=
  decide (s.fld .time Tim.TIM_CFG_ROOT_PRIO ≤ 127) && !s.mod_.removeReq

/-- Effective priority (R316). -/
def State.effPrio (s : State) : Nat :=
  s.fld .time Tim.TIM_CFG_ROOT_PRIO + if s.gmLocked then 0 else 128

/-- A root is better: lower effective priority, then lower chip. -/
def rootBetter (p1 c1 p2 c2 : Nat) : Bool := decide (p1 < p2) || (p1 == p2 && decide (c1 < c2))

/-- Adverts of UP bundles whose TSEQ advanced within the last ROOT_LOSS ticks. -/
def State.liveAds (s : State) : List (Nat × Advert) :=
  s.time.ads.filter (fun e => s.bndUp e.1 && e.2.hops != 255 && decide (s.tick + 1 ≤ e.2.moved + s.rootLoss))

/-- A better root has been advertised with an advancing TSEQ in the tick that ended. -/
def State.betterRoot (s : State) : Bool :=
  s.liveAds.any (fun e => decide (s.tick ≤ e.2.moved) && rootBetter e.2.prio e.2.chip s.effPrio s.chip)

/-- A change of root and of parent: their events, and HOLDOVER (R317, R319). -/
def State.setRoot (s : State) (chip prio : Nat) : State :=
  let old := s.fld .time (Tim.ROOT_ID.sub 15 0)
  let s := s.setFld .time Tim.ROOT_ID (chip + prio * 65536)
  if old = chip then s else s.event 0x5104 0 [(2, old), (2, chip)]

def State.setTimeParent (s : State) (b : Option Nat) (hops : Nat) : State :=
  let old := s.timeParent
  let s := s.setFld .time (Tim.TIM_STATUS.sub 11 4) hops
  if old = b then s
  else
    let s := s.setFld .time Tim.PARENT (match b with | some b => b + 64 + s.bndPeer b * 65536 | none => 0)
    let s := s.modTime (fun t => { t with src := none, srcTick := s.tick + 1 })
    s.event 0x5105 0 [(1, old.getD 255), (1, b.getD 255)]

/-- Take the root role (R316). -/
def State.takeRoot (s : State) : State :=
  let s := s.setFld .time (Tim.TIM_STATUS.sub 2 2) 1
  let s := s.modTime (fun t => { t with roleTicks := 0 })
  let s := (s.setTimeParent none 0).setRoot s.chip s.effPrio
  s.sourceGone 3

/-- Give up the root role (R316); the root that this device follows from now on is decided with its parent, by treeEdge. -/
def State.dropRole (s : State) : State :=
  let s := s.setFld .time (Tim.TIM_STATUS.sub 2 2) 0
  let s := s.modTime (fun t => { t with rootCnt := 0 })
  (s.setFld .time (Tim.TIM_STATUS.sub 11 4) 255).sourceGone 3

/-- The parent that R317 chooses, with its advert; a lost one is no choice. -/
def State.chooseParent (s : State) (lost : Option Nat) : Option (Nat × Advert) :=
  let live := s.liveAds
  let best := live.foldl (fun (b : Option (Nat × Nat)) e => match b with
    | some (p, c) => if rootBetter e.2.prio e.2.chip p c then some (e.2.prio, e.2.chip) else b
    | none => some (e.2.prio, e.2.chip)) none
  match best with
  | none => none
  | some (p, c) =>
    let ok := live.filter (fun e => e.2.prio == p && e.2.chip == c && e.2.synced && decide (e.2.hops ≤ 253) && lost != some e.1
      && (s.sourceLane e.1).isSome)
    let least := ok.foldl (fun (b : Option (Nat × Advert)) e => match b with
      | some x => if e.2.hops < x.2.hops || (e.2.hops == x.2.hops && decide (s.bndPeer e.1 < s.bndPeer x.1)) then some e else b
      | none => some e) none
    match least, s.timeParent.bind (fun b => ok.find? (fun e => e.1 == b)) with
    | some x, some cur => if x.2.hops + 2 ≤ cur.2.hops then some x else some cur
    | l, _ => l

/-- The parent source has delivered no TIME flit for 3 ticks, or its bundle has left UP (R319). -/
def State.parentLost (s : State) : Bool :=
  match s.timeParent with
  | some b => !s.bndUp b || decide (s.time.srcTick + 3 ≤ s.tick)
  | none => false

/-- Re-evaluate the parent of a device that is not root (R317, R318). -/
def State.treeEdge (s : State) : State :=
  let lost := s.parentLost
  let old := s.timeParent
  let oldRoot := s.fld .time (Tim.ROOT_ID.sub 15 0)
  let new := s.chooseParent (if lost then old else none)
  match new with
  | some (b, a) =>
    let s := s.setTimeParent (some b) (a.hops + 1)
    let s := s.setRoot a.chip a.prio
    if old = some b && oldRoot = a.chip then s else s.sourceGone (if oldRoot ≠ a.chip then 3 else if lost then 1 else 2)
  | none =>
    let s := s.setTimeParent none 255
    let dead := !s.liveAds.any (fun e => e.2.chip == oldRoot)
    let s := if dead then s.setRoot 0 0 else s
    if old = none then s else s.sourceGone (if lost then 1 else if dead then 3 else 2)

/-- ROOT_LOSS ticks without a better root: a candidate takes the role (R316). -/
def State.rootExpiry (s : State) : State :=
  if s.rootCandidate && !s.isRoot && decide (s.rootLoss ≤ s.time.rootCnt) then s.takeRoot else s

/-! ### The edge (R319, R320) -/

/-- The PI servo at a tick edge (R320). -/
def State.servo (s : State) : State :=
  let off := s.time.off
  let (s, r) : State × Int :=
    if 65536 * 1000 < off.natAbs then (s, s.time.held + (if 0 < off then -1000000 else 1000000))
    else ({ s with fresh := s.fresh + 1 }, Config.servoRate s.fresh)
  let clamped : Bool := decide (2000000 < r.natAbs)
  let r := max (-2000000) (min 2000000 r)
  let s := s.setRate r
  let s := if clamped then
      let s := s.bump .time Tim.RATE_LIMIT_CNT
      s.whenB (!s.time.clamped) (fun s => s.event 0x5108)
    else s
  s.modTime (fun t => { t with clamped := clamped, rates := (r :: t.rates).take 100 })

/-- The rows of Table 11.3 that an edge decides. -/
def State.timeStates (s : State) : State :=
  let off := s.time.off
  match s.timSt with
  | 0 =>
    if s.qualified then (s.setTimSt 1).timeStep (-off)
    else if s.isRoot && decide (s.rootLoss ≤ s.time.roleTicks) then s.holdover 5
    else s
  | 1 =>
    let n := if s.isRoot then 16 else 100
    if n ≤ s.time.lockN then (s.setTimSt 2).event 0x5101 else s
  | 2 => if 65536 * 1000 < off.natAbs then ((s.modTime (fun t => { t with lockN := 0 })).setTimSt 1).event 0x5107 else s
  | _ => if s.qualified then ((s.modTime (fun t => { t with lockN := 0 })).setTimSt 1).event 0x5103 else s

/-- Sixty seconds in holdover, reported once (Table 11.3). -/
def State.holdLong (s : State) : State :=
  if s.timSt = 3 && !s.time.longNoted && decide (6000000 ≤ s.fld .time Tim.HOLD_TICKS) then
    (s.modTime (fun t => { t with longNoted := true })).event 0x5109
  else s

/-- The time base at a tick edge (TIME_SERVO_UPDATE): lanes without TIME flits, the root role, the parent, the state and the
servo. -/
def State.timeEdge (s : State) : State :=
  let now := s.tick
  let s := s.modTime (fun t => { t with lanes := t.lanes.map (fun e => (e.1, if e.2.last + 3 ≤ now then { e.2 with n := 0, ds := [] } else e.2)) })
  let better := s.betterRoot
  let s := s.modTime (fun t => { t with rootCnt := if better then 0 else if s.rootCandidate then t.rootCnt + 1 else 0,
                                        roleTicks := t.roleTicks + 1 })
  let s := if s.isRoot && (!s.rootCandidate || better) then s.dropRole else s
  let s := s.rootExpiry
  let s := if s.isRoot then s.setFld .time (Tim.ROOT_ID.sub 23 16) s.effPrio else s.treeEdge
  let s := s.modTime (fun t =>
    if s.isRoot then t
    else { t with qual := if t.got then t.qual + 1 else 0,
                  lockN := if t.got && decide (t.off.natAbs ≤ 10 * 65536) then t.lockN + 1 else 0 })
  let s := s.timeStates
  let s := if s.timSt = 1 || s.timSt = 2 then s.servo else s
  let s := if s.timSt = 3 then (s.bump .time Tim.HOLD_TICKS).holdLong else s
  let s := s.setFld .time (Tim.TIM_STATUS.sub 3 3) (bool01 s.ptpQualified)
  let s := s.modTime (fun t => { t with got := false })
  s.each (List.range 4) (fun n s =>
    s.whenB (s.fld .trg (Trg.CAP_CTRL n) % 8 == 3 && s.fld .trg (Trg.CAP_TICK n) == now % 2 ^ 32) (fun s => s.capLatch n s.time.tai))

/-- The time base reaches the next boundary of 10 µs: the tick edge, unless a backward step suppresses it (R25, R308). The flag
says that an edge is distributed. -/
def State.timeAdvance (s : State) : State × Bool :=
  let t := (s.time.tai / tickLen + 1) * tickLen
  let s := (s.modTime (fun x => { x with tai := t })).showTime t
  if s.tick < t / tickLen then (s.setFld64 .time Tim.TICK_LO (t / tickLen), true) else (s, false)

end Sys2Proof.Machine
end

