-- ==== Sys2Proof/Machine/Time.lean ====
section
/-! DEFINITION. The commands of the time base, PTP, triggers and captures (R310, R316, R319, R323, R330–R336). -/
namespace Sys2Proof.Machine

/-- A step to the source on request (R310). -/
def State.restep (s : State) : State :=
  let busy := (List.range 4096).any (fun p => p != 0 &&
    (s.fld .part (Par.PART_STATUS.sub 2 0) p == 2 || s.fld .part (Par.PART_STATUS.sub 2 0) p == 3))
  if busy then s.setErr .time 0
  else if !s.qualified then s.setErr .time 2
  else s.timeStep (-s.time.off)

/-- RESTEP (R310): TIM_CTRL.RESTEP, cleared when decided. -/
def execRestep (m : Master) (s : State) : Host.Outcome State Fault Refusal := .next (s.gated m .time State.restep)

/-- A write of TIM_CFG (R316, R334). -/
def State.timCfg (s : State) (v : Word) : State :=
  let p := bitsOf v.toNat 7 0
  if (128 ≤ p && p ≤ 254) || bitsOf v.toNat 23 16 < 3 then s.setErr .time 1
  else
    let was := decide (s.fld .time Tim.TIM_CFG_ROOT_PRIO ≤ 127)
    let s := s.setFld .time (Tim.TIM_CFG.sub 23 0) v.toNat
    if was then s else s.modTime (fun t => { t with rootCnt := 0 })

/-- TIM_CFG_WRITE (R334). -/
def execTimCfgWrite (m : Master) (v : Word) (s : State) : Host.Outcome State Fault Refusal :=
  .next (s.gated m .time (fun s => s.timCfg v))

/-- ROOT_LOSS_EXPIRY (R316, R318): a candidate takes the role, or the root that advances no more is dropped. -/
def execRootLossExpiry (s : State) : Host.Outcome State Fault Refusal :=
  .next (let s := s.rootExpiry
    if s.isRoot then s else s.treeEdge)

/-- TIME_SOURCE_LOSS (R319): the parent source delivers nothing for 3 ticks, or the SLAVE port no Sync for 3 intervals. -/
def State.ptpLost (s : State) (p : Nat) : Bool :=
  let x := s.ptpPort p
  (s.ptpSt p == 8 || s.ptpSt p == 9) && x.sync != 0 && decide (x.sync + x.loss ≤ s.tick)

/-- The best of two data sets: the first element that differs decides, the lower one wins (IEEE 1588). -/
def dataLess : List Nat → List Nat → Bool
  | a :: t, b :: u => if a = b then dataLess t u else decide (a < b)
  | _, _ => false

/-- The BMCA between the two ports (R323, R324), and the states of the ports. -/
def State.bmca (s : State) : State :=
  let ann := fun p => if s.ptpRuns p && decide (2 ≤ (s.ptpPort p).annN) then (s.ptpPort p).ann else none
  let old := s.ptpSlave
  let best : Option Nat := match ann 0, ann 1 with
    | some a, some b => some (if dataLess b.dataset a.dataset then 1 else 0)
    | some _, none => some 0
    | none, some _ => some 1
    | none, none => none
  let s := s.each [0, 1] (fun p s =>
    setPtpSt s p (
      if !bitAt (s.fld .ptp Ptp.PTP_CTRL) p then 3
      else if !bitAt (s.fld .mgt Mgt.MGT_STATUS) p then 2
      else if best = some p then (if 8 ≤ (s.ptpPort p).exch then 9 else 8)
      else if (ann p).isSome then 7 else 4))
  let s := if old = best then s else
    let s := s.each [0, 1] (fun p s => s.modPtp p (fun x => { x with exch := 0 }))
    let s := match best with
      | some p => if s.ptpSt p = 9 then setPtpSt s p 8 else s
      | none => s
    if s.isRoot then s.sourceGone 1 else s
  match best with
  | none => s
  | some p =>
    match ann p with
    | none => s
    | some a =>
      let gm := s.fld64 .ptp Ptp.GM_ID_LO
      let s := s.setFld64 .ptp Ptp.GM_ID_LO a.gmId
      let s := if s.isRoot then s.setFld .time Tim.UTC_INFO (unsignedOf 16 a.utcOfs + a.leap % 8 * 65536) else s
      if gm = a.gmId || !s.isRoot || gm = 0 then s
      else
        let s := s.modPtp p (fun x => { x with exch := 0 })
        ((if s.ptpSt p = 9 then setPtpSt s p 8 else s).event 0x5106).sourceGone 4

def execTimeSourceLoss (s : State) : Host.Outcome State Fault Refusal :=
  .next (
    let s := s.each [0, 1] (fun p s =>
      if s.ptpLost p then
        let s := s.modPtp p (fun _ => {})
        let s := if s.isRoot then s.sourceGone 1 else s
        s.bmca
      else s)
    if !s.isRoot && s.parentLost then (s.setTimeParent none 255).sourceGone 1 else s)

/-- HOLDOVER_LONG (Table 11.3). -/
def execHoldoverLong (s : State) : Host.Outcome State Fault Refusal := .next s.holdLong

/-! ### PTP messages (R323, R324) -/

/-- A message of a port that runs PTP in the domain; any other is ignored and counted. -/
def State.ptpAccept (s : State) (p domain : Nat) (ok : Bool) (f : State → State) : State :=
  if !s.ptpRuns p then s
  else if domain = s.fld .ptp Ptp.PTP_CTRL_DOMAIN && ok then f s else s.bump .ptp Ptp.PTP_DROP_CNT

/-- An exchange is complete: the offset to the grandmaster, and at the root the offset of the time base. -/
def State.ptpExchange (s : State) (p : Nat) : State :=
  let x := s.ptpPort p
  match x.t1 with
  | none => s
  | some t1 =>
    match x.delay with
    | none => s.modPtp p (fun x => { x with exch := 0 })
    | some d =>
      let off := x.t2 - t1 - d
      let s := s.modPtp p (fun x => { x with exch := x.exch + 1 })
      let s := s.setFld .ptp Ptp.PTP_DELAY (unsignedOf 32 (toNs d))
      let s := if 8 ≤ (s.ptpPort p).exch && s.ptpSt p = 8 then setPtpSt s p 9 else s
      let s := s.setFld .time Tim.GM_OFFSET (sat32 (toNs off))
      if s.isRoot then
        (s.setFld .time Tim.OFFSET (sat32 (toNs off))).modTime (fun t =>
          { t with off := off, lockN := if off.natAbs ≤ 100 * 65536 then t.lockN + 1 else 0 })
      else s

def State.ptpSlaving (s : State) (p : Nat) : Bool := s.ptpSt p == 8 || s.ptpSt p == 9

/-- PTP_SYNC: a Sync of the selected master, one-step with its time or two-step. -/
def execPtpSync (p domain seq : Nat) (logInt : Int) (t1 : Option Nat) (t2 : Nat) (s : State) : Host.Outcome State Fault Refusal :=
  .next (s.ptpAccept p domain (decide (-7 ≤ logInt) && decide (logInt ≤ 1)) (fun s =>
    if !s.ptpSlaving p then s
    else
      let s := s.bump .ptp Ptp.SYNC_RX_CNT
      let s := s.modPtp p (fun x => { x with seq := seq, t1 := t1.map Int.ofNat, t2 := t2, sync := s.tick,
                                             loss := 300000 * 2 ^ (logInt + 7).toNat / 128 })
      s.ptpExchange p))

/-- PTP_FOLLOW_UP: the time of the Sync with the same number. -/
def execPtpFollowUp (p domain seq t1 : Nat) (s : State) : Host.Outcome State Fault Refusal :=
  .next (s.ptpAccept p domain true (fun s =>
    if s.ptpSlaving p && (s.ptpPort p).seq == seq && (s.ptpPort p).t1.isNone then
      (s.modPtp p (fun x => { x with t1 := some t1 })).ptpExchange p
    else s))

/-- PTP_DELAY_REQ: a Delay_Req leaves the port. -/
def execPtpDelayReq (p t3 : Nat) (s : State) : Host.Outcome State Fault Refusal :=
  .next (if s.ptpRuns p && s.ptpSlaving p then
    ((s.modPtp p (fun x => { x with t3 := some t3 })).bump .ptp Ptp.DREQ_TX_CNT).emit (.ptpMsg p 1)
  else s)

/-- PTP_DELAY_RESP: the path delay is the mean of both directions. -/
def execPtpDelayResp (p domain t4 : Nat) (s : State) : Host.Outcome State Fault Refusal :=
  .next (s.ptpAccept p domain true (fun s =>
    let x := s.ptpPort p
    match x.t1, x.t3 with
    | some t1, some t3 =>
      if s.ptpSlaving p then
        s.modPtp p (fun x => { x with t3 := none, delay := some (((x.t2 - t1) + ((t4 : Int) - t3)) / 2) })
      else s
    | _, _ => s))

/-- PTP_ANNOUNCE: the message feeds the BMCA. -/
def execPtpAnnounce (p domain : Nat) (logInt : Int) (a : Announce) (s : State) : Host.Outcome State Fault Refusal :=
  .next (s.ptpAccept p domain (decide (0 ≤ logInt) && decide (logInt ≤ 3)) (fun s =>
    let s := s.bump .ptp Ptp.ANN_RX_CNT
    (s.modPtp p (fun x => { x with annN := if (x.ann.map (·.gmId)) = some a.gmId then x.annN + 1 else 1, ann := some a })).bmca))

/-! ### Readings (R332, R334) -/

/-- A read of TIME_SEC_LO at a moment of the tick: the time, and the rest of the reading is frozen. -/
def State.timeSecRead (s : State) (sub : Nat) : State × Nat :=
  let s := (s.modTime (fun t => { t with frozen := false })).showTime (s.time.tai + sub % tickLen)
  (s.modTime (fun t => { t with frozen := true }), s.fld .time Tim.TIME_SEC_LO)

/-- TIME_SEC_LO_READ (R334), by the host. -/
def execTimeSecLoRead (sub : Nat) (s : State) : Host.Outcome State Fault Refusal :=
  .next (s.hostReads .time (fun s => s.timeSecRead sub))

/-- A read of TIME_FRAC: the reading is released. -/
def State.timeFracRead (s : State) : State × Nat := (s.modTime (fun t => { t with frozen := false }), s.fld .time Tim.TIME_FRAC)

/-- TIME_FRAC_READ (R334), by the host. -/
def execTimeFracRead (s : State) : Host.Outcome State Fault Refusal := .next (s.hostReads .time State.timeFracRead)

/-- A read of CAP_SEC_LO: the latch is frozen. -/
def State.capSecRead (n : Nat) (s : State) : State × Nat :=
  (s.modTime (fun t => { t with capFrozen := n :: t.capFrozen.filter (· != n) }), s.fld .trg (Trg.CAP_SEC_LO n))

/-- CAP_SEC_LO_READ (R332), by the host. -/
def execCapSecLoRead (n : Nat) (s : State) : Host.Outcome State Fault Refusal := .next (s.hostReads .trg (State.capSecRead n))

/-- A read of CAP_FRAC: the latch is released, FULL clears, and a latch that came meanwhile is shown. -/
def State.capFracRead (n : Nat) (s : State) : State × Nat :=
  let v := s.fld .trg (Trg.CAP_FRAC n)
  let s := s.setFld .trg ((Trg.CAP_FRAC n).sub 16 16) 0
  let nx := tGet s.time.capNext n
  let s := s.modTime (fun t => { t with capFrozen := t.capFrozen.filter (· != n), capNext := tSet t.capNext n none })
  (match nx with
    | some (t, stepped) => s.capShow n t stepped
    | none => s, v)

/-- CAP_FRAC_READ (R332), by the host. -/
def execCapFracRead (n : Nat) (s : State) : Host.Outcome State Fault Refusal := .next (s.hostReads .trg (State.capFracRead n))

/-! ### Comparators and PPS (R330–R332) -/

/-- TRG_ARM: arms a comparator at a moment of the tick. -/
def execTrgArm (m : Master) (n : Nat) (event pulse : Bool) (sub : Nat) (s : State) : Host.Outcome State Fault Refusal :=
  .next (s.gated m .trg (fun s =>
    s.trgCtrl n (BitVec.ofNat 32 (1 + bool01 event * 2 + bool01 pulse * 4)) (s.time.tai + sub % tickLen)))

/-- TRIGGER_FIRE: the time base reaches the target within this tick. -/
def execTriggerFire (n : Nat) (s : State) : Host.Outcome State Fault Refusal :=
  .next (if s.flag .trg (Trg.TRG_CTRL_ARM n) && decide (s.trgTarget n < s.time.tai + tickLen) then s.trgFire n false else s)

/-- PPS_OUT_PULSE: a whole second and offset lies in this tick (R331). -/
def execPpsOutPulse (s : State) : Host.Outcome State Fault Refusal :=
  .next (
    let ofs := signedOf 32 (s.fld .trg Trg.PPS_OFS_NS) * 65536
    let sec : Int := nsPerSec * 65536
    let k := ((s.time.tai : Int) + tickLen - 1 - ofs) / sec
    if s.flag .trg Trg.PPS_CTRL_OUT_EN && (s.timSt ≠ 0 || s.flag .trg Trg.PPS_CTRL_UNSET_EN)
        && decide ((s.time.tai : Int) ≤ k * sec + ofs) && s.time.ppsSec ≠ k.toNat + 1 then
      (s.modTime (fun t => { t with ppsSec := k.toNat + 1 })).emit (.ppsPulse (s.fld .trg Trg.PPS_CTRL_WIDTH))
    else s)

/-- PPS_IN_EDGE: the captures that select the edge latch it (R332). -/
def execPpsInEdge (falling : Bool) (sub : Nat) (s : State) : Host.Outcome State Fault Refusal :=
  .next (if !s.mod_.stby then s else
    let s := (s.setFld .trg (Trg.PPS_IN_STATUS.sub 0 0) 1).modTime (fun t => { t with ppsIn := s.tick })
    s.each (List.range 4) (fun n s =>
      s.whenB (s.fld .trg (Trg.CAP_CTRL n) % 8 == (if falling then 2 else 1)) (fun s => s.capLatch n (s.time.tai + sub % tickLen))))

/-- PPS_IN_LOST: no edge for 2 s (R332). -/
def execPpsInLost (s : State) : Host.Outcome State Fault Refusal :=
  .next (if s.fld .trg (Trg.PPS_IN_STATUS.sub 0 0) = 1 && decide (s.time.ppsIn + 200000 ≤ s.tick) then
    (s.setFld .trg (Trg.PPS_IN_STATUS.sub 0 0) 0).event 0x510B else s)

end Sys2Proof.Machine
end

