-- ==== Sys2Proof/Machine/HostIf.lean ====
section
/-! DEFINITION. PCIe (R509–R512): the link, the host reset and the BAR2 window; and the links of the management ports (R470, R513). -/
namespace Sys2Proof.Machine

/-! ### The PCIe link and the host reset (R509, R512) -/

/-- The link is up. -/
def State.pcieUp (s : State) : Bool := s.fld .hst (Pci.PCIE_STATUS.sub 0 0) == 1

/-- PCIE_LINK_UP (R509): the link trains to generation 4–6 and a width, with or without Flit Mode. -/
def execPcieLinkUp (gen width : Nat) (flit : Bool) (s : State) : Host.Outcome State Fault Refusal :=
  .next (if !s.mod_.stby then s else
    let old := s.fld .hst Pci.PCIE_STATUS
    let new := 1 + gen % 8 * 2 + width % 32 * 16 + bool01 flit * 512
    if new = old then s
    else
      let s := if s.pcieUp && bitsOf old 8 1 ≠ bitsOf new 8 1 then s.bump .hst Pci.RETRAIN_CNT else s
      (s.setFld .hst Pci.PCIE_STATUS new).event 0xC140)

/-- Host launch slots that are POSTED or WAITING return to EMPTY, without completions. -/
def State.hostSlotsEmpty (s : State) : State :=
  (s.each (s.slots.filter (fun e => decide (e.1 < 2048) && (e.2.state == 1 || e.2.state == 2))) (fun e s =>
    s.setSlot e.1 { e.2.withState 0 with seen := false, late := false, waitTick := 0 })).lchSync true

/-- The host completion ring starts anew at index 0 with PHASE 1; completions that were held go to it. -/
def State.hostRingFresh (s : State) : State :=
  let s := (s.setFld .lchHost Lch.CPL_PROD 0x1000).setFld .lchHost Lch.CPL_CONS 0
  let s := { s with ring := s.ring.filter (fun e => decide (4096 ≤ e.1)), usedH := 0 }
  (State.releaseHeld true s.heldH.length s).lchSync true

/-- What a Function Level Reset or the loss of the link does (R512). -/
def State.hostReset (s : State) : State :=
  let s := (s.setFld .lchHost Lch.LCH_CTRL_SCAN_EN 0).setFld .lchHost Lch.LCH_CTRL_IRQ_EN 0
  let s := (s.hostSlotsEmpty.hostRingFresh).setFld .hst Pci.BAR2_SEL 0
  (s.semReleaseAll 1).event 0xC141

/-- FLR (R512). -/
def execFlr (s : State) : Host.Outcome State Fault Refusal :=
  .next (if s.mod_.stby && s.pcieUp then (s.bump .hst Pci.FLR_CNT).hostReset else s)

/-- PCIE_LINK_LOSS (R512). -/
def execPcieLinkLoss (s : State) : Host.Outcome State Fault Refusal :=
  .next (if s.mod_.stby && s.pcieUp then
    (((s.setFld .hst (Pci.PCIE_STATUS.sub 0 0) 0).bump .hst Pci.LINK_DOWN_CNT).event 0xC140).hostReset else s)

/-! ### The BAR2 window (R511) -/

/-- The global address that a BAR2 offset shows. -/
def State.bar2Addr (s : State) (off : Nat) : Nat :=
  s.chip * 2 ^ 48 + s.fld .hst (Pci.BAR2_SEL.sub 11 8) * 2 ^ 44 + s.fld .hst (Pci.BAR2_SEL.sub 7 0) * 64 * gib + off % (64 * gib)

/-- While a partition is sealed, its ranges, every side area and all on-die SRAM are closed to the two masters (Table 17.5). -/
def State.windowClosed (s : State) (a : Nat) : Bool :=
  s.seals.any (fun e => e.2.closed) && (gaSpace a == 1 || s.sealedAddr a
    || (match s.edMap (gaOff a) with | some (k, l) => s.inSide k l | none => false))

/-- Some 64-byte line of a range is closed. -/
def State.rangeClosed (s : State) (a n : Nat) : Bool :=
  (List.range ((a + n - 1) / 64 - a / 64 + 1)).any (fun i => s.windowClosed (if i = 0 then a else (a / 64 + i) * 64))

/-- BAR2_READ (R511): a completion with the data, or with EP and every byte 0xFF (R174, R491). -/
def execBar2Read (off n : Nat) (s : State) : Host.Outcome State Fault Refusal :=
  .next (if !s.mod_.stby || !s.pcieUp then s else
    let a := s.bar2Addr off
    if s.rangeClosed a n then (s.sealBlock 1).deliverError .host false n else s.outerRead a n none .host)

/-- BAR2_WRITE (R511): a closed write is dropped (R491). -/
def execBar2Write (off : Nat) (data : List Byte) (s : State) : Host.Outcome State Fault Refusal :=
  .next (if !s.mod_.stby || !s.pcieUp then s else
    let a := s.bar2Addr off
    if s.rangeClosed a data.length then s.sealBlock 1 else (s.writeOpen a data none .host).1)

/-- A write of BAR2_SEL (R511). -/
def State.bar2Sel (s : State) (v : Nat) : State :=
  if 1 < bitsOf v 11 8 then s.setErr .hst 0 else s.setFld .hst Pci.BAR2_SEL (v % 4096)

/-- BAR2_SEL_WRITE (R511). -/
def execBar2SelWrite (m : Master) (v : Word) (s : State) : Host.Outcome State Fault Refusal :=
  .next (s.gated m .hst (fun s => s.bar2Sel v.toNat))

/-! ### The links of the management ports -/

/-- A management port's link comes up or goes down (R470, R323): MGT_STATUS, event 0xC142, the stream and the PTP ports follow. -/
def State.mgmtLink (s : State) (port : Nat) (up : Bool) : State :=
  let f := Mgt.MGT_STATUS.sub port port
  if 1 < port || s.fld .mgt f = bool01 up then s
  else
    let s := (s.setFld .mgt f (bool01 up)).event 0xC142 0 [(1, port), (1, bool01 up)]
    let s := if up then s else s.modPtp port (fun x => { x with ann := none, annN := 0, exch := 0 })
    (if up then s.streamResume else s).bmca

/-- MGMT_PORT_LINK_CHANGE (R470). -/
def execMgmtPortLinkChange (port : Nat) (up : Bool) (s : State) : Host.Outcome State Fault Refusal :=
  .next (if s.mod_.stby then s.mgmtLink port up else s)

end Sys2Proof.Machine
end

