-- ==== Sys2Proof/Machine/Link.lean ====
section
/-! DEFINITION. The commands of lanes, bundles and routing that are no arriving flit: timers (R230, R233, R236), losses
of signal, and the writes of the lanes, crypto and routing pages (R233, R240, R242–R244). -/
namespace Sys2Proof.Machine

/-- ACK_TIMER (R230): lane `n` of port `p` acknowledges the highest in-order SEQ of the bundle that it carries. -/
def execAckTimer (p n : Nat) (s : State) : Host.Outcome State Fault Refusal :=
  let due := ((s.bundles.filter (fun e => e.2.ackDue && (s.bndLanes e.1).contains (p, n))).map (·.1)).take 4
  if s.laneSt p n ≠ 2 || due.isEmpty then .next s
  else
    let entries := due.map (fun b => (b, ((s.bundle b).rxNext + 65535) % 65536))
    let s := s.emit (.flit p n { h := s.laneHdr p n, p := .ack entries })
    .next (s.each due (fun b s => s.setBundle b { s.bundle b with ackDue := false }))

/-- NAK_SKEW_TIMER (R230): a later SEQ of bundle `b` has waited past a gap; lane `n` of port `p` carries the NAK. -/
def execNakSkewTimer (b p n : Nat) (s : State) : Host.Outcome State Fault Refusal :=
  let x := s.bundle b
  if x.reorder.isEmpty || !(s.bndLanes b).contains (p, n) then .next s
  else .next ((s.emit (.flit p n { h := s.laneHdr p n, p := .nak [(b, x.rxNext)] })).bump (.lnk p) Lnk.NAK_TX_CNT)

/-- RETRY_TIMEOUT (R230, R231): nothing advanced the acknowledged SEQ of bundle `b` for RETRY_TO. -/
def execRetryTimeout (b : Nat) (s : State) : Host.Outcome State Fault Refusal :=
  match (s.bundle b).unacked with
  | [] => .next s
  | t :: _ => .next (s.replayFrom b t.f.h.seq)

/-- LANE_LOS (R232, R286): loss of signal or of codeword lock. -/
def execLaneLos (p n : Nat) (s : State) : Host.Outcome State Fault Refusal := .next (s.laneFault p n causeLos)

/-- LANE_TRAIN_TIMEOUT (R233, R234): a time limit of training has passed. -/
def execLaneTrainTimeout (p n : Nat) (s : State) : Host.Outcome State Fault Refusal :=
  .next (if s.laneSt p n = 1 then s.trainFail p n 1 else s)

/-- LANE_SIGNAL_LOCKED (R234 step 1, R301): a copper lane has locked and equalised with trims `w0`, `w1`; alignment starts. -/
def execLaneSignalLocked (p n w0 w1 : Nat) (s : State) : Host.Outcome State Fault Refusal :=
  .next (if copper p && s.laneSt p n = 1 && (s.laneX p n).step = 1 then
    (s.trimLearn p n w0 w1).modLane p n (fun x => { x with step := 2 }) else s)

/-- Ring pairs of an optical port that can be locked: neither OFF nor RETIRED (R235). -/
def State.lockable (s : State) (p : Nat) : Nat :=
  ((List.range 12).filter (fun r =>
    let st := s.fld (.rng ((p - 8) / 8)) Rng.RING_STATE_STATE ((p - 8) % 8 + r * 16)
    decide (1 ≤ st) && decide (st ≤ 5))).length

/-- LANE_RETRAIN_TIMER (R233): ten ticks after its failure a lane returns to TRAINING; a port that went down needs four
lockable rings (R235). -/
def execLaneRetrainTimer (p n : Nat) (s : State) : Host.Outcome State Fault Refusal :=
  if s.laneSt p n = 4 && (s.laneX p n).since + 10 ≤ s.tick && s.flag (.lnk p) Lnk.LNK_CTRL_EN
      && (copper p || 4 ≤ s.lockable p) then
    .next (s.startTraining p n)
  else .next s

/-- QUARANTINE_END (R233). -/
def execQuarantineEnd (p n : Nat) (s : State) : Host.Outcome State Fault Refusal :=
  .next (if s.laneSt p n = 5 && s.fld64 (.lan p) Lan.QUAR_END_LO n ≤ s.tick then s.startTraining p n else s)

/-- STRIKE_RESET (R233): 100,000 consecutive ticks in ACTIVE or SPARE. -/
def execStrikeReset (p n : Nat) (s : State) : Host.Outcome State Fault Refusal :=
  if (s.laneSt p n = 2 || s.laneSt p n = 3) && (s.laneX p n).since + 100000 ≤ s.tick then
    .next ((s.modLane p n (fun x => { x with strikeAt := [] })).setFld (.lan p) Lan.LANE_STATE_STRIKES 0 n)
  else .next s

/-- The lane that LANE_SEL names. -/
def State.laneSel (s : State) (p : Nat) : Nat := s.fld (.lan p) (Lan.LANE_SEL.sub 3 0)

/-- Take a lane pair out (R233): any state to DISABLED. -/
def State.laneDisable (s : State) (p n : Nat) : State :=
  if s.laneSt p n = 6 then s
  else
    let was := s.laneSt p n
    let s := ((s.setLaneSt p n 6).setFld (.lan p) Lan.LANE_STATE_SERVES 15 n).event 0x3104 (srcPort p n) (laneItems p n none)
    if was = 2 then s.laneLeave p n true else s.portSync p

/-- LANE_DISABLE (R233): LANE_CTRL.DISABLE is set for the lane that LANE_SEL names. -/
def execLaneDisable (m : Master) (p : Nat) (s : State) : Host.Outcome State Fault Refusal :=
  .next (s.gated m (.lan p) (fun s => s.laneDisable p (s.laneSel p)))

/-- A disabled lane returns to OFF with no strikes and QLEVEL 0 (R233). -/
def State.laneClear (s : State) (p n : Nat) : State :=
  if s.laneSt p n = 6 then
    let s := (s.setLaneSt p n 0).modLane p n (fun x => { x with strikeAt := [] })
    (s.setFld (.lan p) Lan.LANE_STATE_STRIKES 0 n).setFld (.lan p) Lan.LANE_STATE_QLEVEL 0 n
  else s

/-- LANE_CLEAR (R233): LANE_CTRL.CLEAR is set for the lane that LANE_SEL names. -/
def execLaneClear (m : Master) (p : Nat) (s : State) : Host.Outcome State Fault Refusal :=
  .next (s.gated m (.lan p) (fun s => s.laneClear p (s.laneSel p)))

/-- BUNDLE_DEAD_TIMEOUT (R236): no valid flit on any lane for 20 consecutive ticks. -/
def execBundleDeadTimeout (b : Nat) (s : State) : Host.Outcome State Fault Refusal :=
  .next (if s.bndUp b && s.fld64 .bnd Bnd.BND_HEARD_LO b + 20 ≤ s.tick then s.bundleStop b 2 else s)

/-- RESUME_TIMEOUT (R236 step 3): no RESUME arrived within 10 µs. -/
def execResumeTimeout (b : Nat) (s : State) : Host.Outcome State Fault Refusal :=
  let x := s.bundle b
  if x.resumeWait then
    let s := s.setBundle b { x with unacked := [], resumeWait := false, resumeSent := false }
    let s := (s.bumpBy .bnd Bnd.BND_LOST x.unacked.length b).bndSeqSync b
    .next ((s.event 0x3115 0 (s.bndItems b)).replayOcc)
  else .next s

/-- Erase a key phase (R240). -/
def State.keyErase (s : State) (bank : Nat) : State :=
  let s := { s with keys := smDel s.keys bank }
  let s := s.setFld (.cry 0) Cry.KEY_STATUS 0 bank
  (s.setFld64 (.cry 0) Cry.NCTR_LO 0 bank).setFld64 (.cry 0) Cry.NCTR_LO 0 (bank + 16384)

/-- The key bank that KEY_SEL names, die apart. -/
def State.keySel (s : State) : Nat :=
  let v := s.fld (.cry 0) Cry.KEY_SEL
  if bitAt v 13 then keyBank 0 (bitsOf v 12 12) else bitsOf v 11 0 + bitsOf v 12 12 * 4096

/-- KEY_ERASE (R240): bit 0 erases the selected phase. -/
def execKeyErase (m : Master) (v : Word) (s : State) : Host.Outcome State Fault Refusal :=
  .next (s.gated m (.cry 0) (fun s => if bitAt v.toNat 0 then s.keyErase s.keySel else s))

/-- A write of FRT_DATA_HI writes the entry that FRT_IDX names, both halves, to its shadow (R244, Table 8.12). -/
def State.frtWrite (s : State) (v : Word) : State :=
  let i := s.fld .rt (Rt.FRT_IDX.sub 15 0)
  (s.setShReg (regKey .rt 0x118 i) (BitVec.ofNat 32 (s.frtLo &&& 0xFFFF7F7F))).setShReg (regKey .rt 0x11C i) (v &&& 0x0001FFFF)

/-- FRT_DATA_HI_WRITE (R244). -/
def execFrtDataHiWrite (m : Master) (v : Word) (s : State) : Host.Outcome State Fault Refusal :=
  .next (s.gated m .rt (fun s => s.frtWrite v))

/-- A write of RNK_SLOT_PART (R242): VALID goes to the shadow of the slot's partition. -/
def State.rnkSlotWrite (s : State) (v : Word) : State :=
  let n := s.fld .rt (Rt.RNK_SEL.sub 4 0)
  let part := s.fld .rt (Rt.RNK_SLOT_PART.sub 11 0) n
  if part = 0 || v.toNat % 4096 ≠ part then s.epState
  else s.jobWrite part (regKey .rt 0x124 n) (v &&& 0x1FFF)

/-- RNK_SLOT_PART_WRITE (R242). -/
def execRnkSlotPartWrite (m : Master) (v : Word) (s : State) : Host.Outcome State Fault Refusal :=
  .next (s.gated m .rt (fun s => s.rnkSlotWrite v))

/-- A write of RNK_DATA (R242): the entry goes to the shadow of the slot's partition. -/
def State.rnkDataWrite (s : State) (v : Word) : State :=
  let n := s.fld .rt (Rt.RNK_SEL.sub 4 0)
  let part := s.fld .rt (Rt.RNK_SLOT_PART.sub 11 0) n
  if part = 0 then s.epState
  else s.jobWrite part (regKey .rt 0x12C (n * 16384 + s.fld .rt (Rt.RNK_IDX.sub 13 0))) (v &&& 0x1FFFF)

/-- RNK_DATA_WRITE (R242). -/
def execRnkDataWrite (m : Master) (v : Word) (s : State) : Host.Outcome State Fault Refusal :=
  .next (s.gated m .rt (fun s => s.rnkDataWrite v))

/-- A write of PEER_DATA (R243): at once, unless it would make two valid entries share (CHIP, PART). -/
def State.peerWrite (s : State) (v : Word) : State :=
  let i := s.fld .rt (Rt.PEER_IDX.sub 12 0)
  let key := regKey .rt 0x134 i
  let dup := bitAt v.toNat 28 && s.regs.any (fun e =>
    regAddr e.1 == Page.rt.base + 0x134 && e.1 != key && bitAt e.2.toNat 28 && e.2.toNat % 2 ^ 28 == v.toNat % 2 ^ 28)
  if dup then s.setErr .rt 0 else s.setReg key (v &&& 0x3FFFFFFF)

/-- PEER_DATA_WRITE (R243). -/
def execPeerDataWrite (m : Master) (v : Word) (s : State) : Host.Outcome State Fault Refusal :=
  .next (s.gated m .rt (fun s => s.peerWrite v))

end Sys2Proof.Machine
end

