-- ==== Sys2Proof/Machine/Part.lean ====
section
/-! DEFINITION. The commands of partitions (R337–R341, R351), of lines (R343–R347) and of contexts (R348–R350). -/
namespace Sys2Proof.Machine

/-! ### Partition commands (R338, R339) -/

/-- The partition that PART_SEL names. -/
def State.partSel (s : State) : Nat := s.fld .part (Par.PART_SEL.sub 11 0)

/-- CLAIM (Table 12.1, R523): the epoch is 0 and the lowest free rank slot is the partition's. -/
def State.partClaim (s : State) : State :=
  let p := s.partSel
  if p = 0 || s.partState p ≠ 0 || s.mod_.removeReq then s.partReject p 1
  else
    let held := s.partsHeld
    if 32 ≤ held.length then s.partReject p 2
    else
      let used := held.map (fun q => s.fld .part Par.PART_STATUS_SLOT q)
      let slot := ((List.range 32).find? (fun n => !used.contains n)).getD 0
      let s := s.setFld .part Par.PART_STATUS_SLOT slot p
      let s := s.setFld .rt Rt.RNK_SLOT_PART p slot
      let s := s.setFld64 .ep Ep.EP_CUR_LO 0 p
      let s := s.setFld .ep Ep.EP_STATUS 0 p
      let s := s.each (List.range 8) (fun i s => s.setFld .ep (Ep.DIGEST i) 0 p)
      (s.setPart p 1).partHeldSync

/-- ARM (R339, R340, R523). -/
def State.partArm (s : State) : State :=
  let p := s.partSel
  let slot := s.fld .part Par.PART_STATUS_SLOT p
  let start := s.fld64 .part Par.PART_START_LO p
  if p = 0 || s.partState p ≠ 1 || s.mod_.removeReq then s.partReject p 1
  else if s.fld .time (Tim.TIM_STATUS.sub 1 0) = 0 then s.partReject p 3
  else if s.fld .rt (Rt.RNK_SLOT_PART.sub 12 12) slot = 0 then s.partReject p 4
  else if s.digKey p = 0 then s.partReject p 5
  else if start < s.tick + 20 then s.partReject p 6
  else (s.setFld64 .part Par.PART_RUN_LO (start + s.chip % 64) p).setPart p 2

/-- DRAIN (Table 12.1). -/
def State.partDrain (s : State) : State :=
  let p := s.partSel
  if p ≠ 0 && (s.partState p = 2 || s.partState p = 3) then s.setPart p 4 else s.partReject p 1

/-- RETIRE (Table 12.1). -/
def State.partRetire (s : State) : State :=
  let p := s.partSel
  let st := s.partState p
  if p = 0 then s.partReject p 1
  else if st = 1 || st = 2 || st = 3 then (s.setPart p 4).barrierStart p
  else if st = 4 then
    if s.fld .part Par.PART_STATUS_BARRIER p = 1 then s else s.barrierStart p
  else s.partReject p 1

/-- FREE (Table 12.1, R347, R492): the lines are released. -/
def State.partFree (s : State) : State :=
  let p := s.partSel
  if p = 0 || s.partState p ≠ 5 then s.partReject p 1
  else
    let s := s.each (s.linesHeld.filter (fun e => s.linePart e.1 e.2 == p)) (fun e s => s.lineRelease e.1 e.2)
    s.partFreeCheck p

/-- A write of PART_CMD (R338). -/
def State.partCmd (s : State) (v : Word) : State :=
  match v.toNat % 8 with
  | 0 => s
  | 1 => s.partClaim
  | 2 => s.partArm
  | 3 => s.partDrain
  | 4 => s.partRetire
  | 5 => s.partFree
  | _ => s.partReject s.partSel 1

/-- PART_CLAIM (R338). -/
def execPartClaim (m : Master) (s : State) : Host.Outcome State Fault Refusal := .next (s.gated m .part State.partClaim)

/-- PART_ARM (R339). -/
def execPartArm (m : Master) (s : State) : Host.Outcome State Fault Refusal := .next (s.gated m .part State.partArm)

/-- PART_DRAIN (R341). -/
def execPartDrain (m : Master) (s : State) : Host.Outcome State Fault Refusal := .next (s.gated m .part State.partDrain)

/-- PART_RETIRE (R338). -/
def execPartRetire (m : Master) (s : State) : Host.Outcome State Fault Refusal := .next (s.gated m .part State.partRetire)

/-- PART_FREE (R347). -/
def execPartFree (m : Master) (s : State) : Host.Outcome State Fault Refusal := .next (s.gated m .part State.partFree)

/-! ### The course of a partition (R340, R341, R351) -/

/-- The run tick of an ARMED partition has come (R340): it is RUNNING with step counter 0 and its ramp starts. -/
def State.partRun (s : State) (p : Nat) : State :=
  if s.partState p = 2 && s.fld64 .part Par.PART_RUN_LO p ≤ s.tick then
    let s := s.setFld64 .stp Stp.STEP_COUNT_LO 0 p
    let s := s.modPartX p (fun x => { x with started := false, rampI0 := s.inputMa, rampTick := s.tick })
    (s.setFld .part Par.PART_STATUS_RAMP 1 p).setPart p 3
  else s

/-- Every ARMED partition whose run tick this edge is (R340), before the launch scan. -/
def State.partRunEdge (s : State) : State := s.each s.partsHeld (fun p s => s.partRun p)

/-- RUN_TICK_REACHED (R340). -/
def execRunTickReached (p : Nat) (s : State) : Host.Outcome State Fault Refusal := .next (s.partRun p)

/-- The limit of a ramp at the present tick, in mA: I0 + 50 A/ms × t (R340). -/
def State.rampLimit (s : State) (p : Nat) : Nat := (s.partX p).rampI0 + 500 * (s.tick - (s.partX p).rampTick)

/-- RAMP_DONE (R340): due once the limit may have reached 2,400 W over the input voltage within this tick. -/
def execRampDone (p : Nat) (s : State) : Host.Outcome State Fault Refusal :=
  if s.fld .part Par.PART_STATUS_RAMP p = 1 && 2400000000 ≤ (s.rampLimit p + 500) * s.inputMv then
    .next ((s.setFld .part Par.PART_STATUS_RAMP 0 p).event 0x611C 0 [(2, p)])
  else .next s

/-- A DRAINING partition without a barrier whose PART_DRAIN has come (R341). -/
def State.partDrainEdge (s : State) (p : Nat) : State :=
  let t := s.fld64 .part Par.PART_DRAIN_LO p
  if s.partState p = 4 && s.fld .part Par.PART_STATUS_BARRIER p = 0 && t ≠ 0 && t ≤ s.tick then s.barrierStart p else s

/-- DRAIN_TICK_REACHED (R341). -/
def execDrainTickReached (p : Nat) (s : State) : Host.Outcome State Fault Refusal := .next (s.partDrainEdge p)

/-- RETIRE_BARRIER_DONE (R351): every bundle that was marked has answered; `ns` is the barrier's duration. -/
def execRetireBarrierDone (p ns : Nat) (s : State) : Host.Outcome State Fault Refusal :=
  if s.partState p = 4 && s.fld .part Par.PART_STATUS_BARRIER p = 1 && (s.partX p).marks = some []
      && (s.sealOf p).st != 1 then
    .next (s.barrierEnd p ns)
  else .next s

/-- The time bound of step 4 in ns: 2 × the longest round trip of the UP bundles + 100 µs. -/
def State.barrierBound (s : State) : Nat :=
  2 * (s.upBundles.map (fun b => s.fld .bnd (Bnd.BND_RTT_NS.sub 15 0) b)).foldl max 0 + 100000

/-- RETIRE_BARRIER_BOUND (R351): due once the bound may have passed within this tick. -/
def execRetireBarrierBound (p ns : Nat) (s : State) : Host.Outcome State Fault Refusal :=
  match (s.partX p).marks with
  | some (_ :: _) =>
    if s.barrierBound ≤ (s.tick + 1 - (s.partX p).markTick) * 10000 && s.fld .part Par.PART_STATUS_BARRIER p = 1
        && (s.sealOf p).st != 1 then
      let s := s.setFld .part Par.PART_STATUS_BY_BOUND 1 p
      .next ((s.event 0x6102 0 [(2, p)]).barrierEnd p ns)
    else .next s
  | _ => .next s

/-! ### Lines (R344–R347) -/

/-- The line that LINE_SEL names: port and line. -/
def State.lineSel (s : State) : Nat × Nat :=
  (s.fld .line (Lin.LINE_SEL.sub 4 0) + 8, s.fld .line (Lin.LINE_SEL.sub 9 5))

/-- A line of Table 12.9 exists. -/
def lineReal (p l : Nat) : Bool := decide (8 ≤ p) && decide (p < 32) && decide (1 ≤ l) && decide (l < 32)

/-- CLAIM of a line (R344). DESIGN CHOICE (log entry 110): with no record of the port in CURRENT or NEXT there is no chip to ask; the
line is OFFERED all the same, nothing is sent, and it returns to FREE by the time limits of R345. -/
def State.lineCmdClaim (s : State) (part : Nat) : State :=
  let (p, l) := s.lineSel
  let st := s.partState part
  if !lineReal p l then s
  else if s.lineSt p l ≠ 0 then s.lineRefuse p l 1
  else if part = 0 || !(st = 1 || st = 2 || st = 3) then s.lineRefuse p l 2
  else
    let tag := (s.lineTag + 1) % 65536
    let s := { s with lineTag := tag }
    let s := (s.setLine p l 1 part).modLine p l (fun x => { x with tag := tag, sentTick := s.tick, resent := false })
    match s.lineChip p l with
    | some c =>
      let s := s.setFld .line (Lin.LINE_PEER.sub 15 0) c (lineBank p l)
      s.lineSend p l c 1 0 tag part
    | none => s

/-- RELEASE of a line (R347). -/
def State.lineCmdRelease (s : State) : State :=
  let (p, l) := s.lineSel
  if lineReal p l then s.lineRelease p l else s

/-- A write of LINE_CMD. -/
def State.lineCmd (s : State) (v : Word) : State :=
  match v.toNat % 4 with
  | 1 => s.lineCmdClaim (bitsOf v.toNat 23 12)
  | 2 => s.lineCmdRelease
  | _ => s

/-- LINE_CMD_CLAIM (R344). -/
def execLineCmdClaim (m : Master) (part : Nat) (s : State) : Host.Outcome State Fault Refusal :=
  .next (s.gated m .line (fun s => s.lineCmdClaim part))

/-- LINE_CMD_RELEASE (R347). -/
def execLineCmdRelease (m : Master) (s : State) : Host.Outcome State Fault Refusal :=
  .next (s.gated m .line State.lineCmdRelease)

/-- The own port and line that a message names by plane and the sender's line. -/
def State.lineOf (s : State) (plane line : Nat) : Option (Nat × Nat) :=
  (s.planePort plane).bind (fun r =>
    let l := (32 - line % 32) % 32
    if lineReal r.1 l then some (r.1, l) else none)

/-- The first matching case of R345 for a REQ: cause 0 is ACK. -/
def State.lineAnswer (s : State) (chip part plane input line : Nat) : Nat :=
  match s.planePort plane with
  | none => 3
  | some (p, buf, o) =>
    let l := (32 - line % 32) % 32
    let k := (planInput buf o + l) % 32
    let st := s.partState part
    if planMap buf o k ≠ chip || k ≠ input || !lineReal p l then 3
    else if part = 0 || !(st = 1 || st = 2 || st = 3) then 2
    else if s.lineSt p l = 1 && s.linePart p l = part then 0
    else if s.lineSt p l = 1 then (if chip < s.chip then 0 else 4)
    else if s.lineSt p l ≠ 0 then 1
    else 0

/-- LINE_CLAIM_REQ (R345). The answer of a device with no port on the plane repeats the plane of the request. -/
def State.lineReq (s : State) (chip part plane input line tag : Nat) : State :=
  let cause := s.lineAnswer chip part plane input line
  let l := (32 - line % 32) % 32
  match s.planePort plane with
  | none => s.sendMg chip (.line 3 cause tag s.chip part plane 0 l)
  | some (p, _, _) =>
    if cause = 0 then
      let old := s.linePart p l
      let s := (s.lineClaim p l part chip).lineSend p l chip 2 0 tag part
      if old = part then s else s.partFreeCheck old
    else s.lineSend p l chip 3 cause tag part

/-- An answer to the own REQ: the line that is OFFERED with this tag. -/
def State.lineOffered (s : State) (plane line tag : Nat) : Option (Nat × Nat) :=
  (s.lineOf plane line).bind (fun e =>
    if s.lineSt e.1 e.2 = 1 && (s.lineX e.1 e.2).tag = tag then some e else none)

def State.lineAck (s : State) (chip plane line tag : Nat) : State :=
  match s.lineOffered plane line tag with
  | some (p, l) => s.lineClaim p l (s.linePart p l) chip
  | none => s

def State.lineNak (s : State) (cause plane line tag : Nat) : State :=
  match s.lineOffered plane line tag with
  | some (p, l) => ((s.setLine p l 0 0).lineRefuse p l cause).partFreeCheck (s.linePart p l)
  | none => s

/-- REL (R347): answered REL_ACK where the partition is RETIRED or FREE here or the line is not held, else REL_WAIT. -/
def State.lineRel (s : State) (chip part plane line tag : Nat) : State :=
  match s.lineOf plane line with
  | none => s.sendMg chip (.line 5 0 tag s.chip part plane 0 ((32 - line % 32) % 32))
  | some (p, l) =>
    let held := (s.lineSt p l = 2 || s.lineSt p l = 3) && s.linePart p l = part
    let st := s.partState part
    if held && !(st = 0 || st = 5) then s.lineSend p l chip 6 0 tag part
    else
      let s := s.lineSend p l chip 5 0 tag part
      if held then s.lineFreed p l else s

/-- The RELEASING line that an answer names. -/
def State.lineReleasing (s : State) (plane line tag : Nat) : Option (Nat × Nat) :=
  (s.lineOf plane line).bind (fun e =>
    if s.lineSt e.1 e.2 = 3 && (s.lineX e.1 e.2).tag = tag then some e else none)

def State.lineRelAck (s : State) (plane line tag : Nat) : State :=
  match s.lineReleasing plane line tag with
  | some (p, l) => s.lineFreed p l
  | none => s

def State.lineRelWait (s : State) (plane line tag : Nat) : State :=
  match s.lineReleasing plane line tag with
  | some (p, l) => s.modLine p l (fun x => { x with relWait := true })
  | none => s

/-- LINE_CLAIM_REQ (R345). -/
def execLineClaimReq (chip part plane input line tag : Nat) (s : State) : Host.Outcome State Fault Refusal :=
  .next (s.lineReq chip part plane input line tag)

/-- LINE_CLAIM_ACK (R345). -/
def execLineClaimAck (chip plane line tag : Nat) (s : State) : Host.Outcome State Fault Refusal :=
  .next (s.lineAck chip plane line tag)

/-- LINE_CLAIM_NAK (R345). -/
def execLineClaimNak (cause plane line tag : Nat) (s : State) : Host.Outcome State Fault Refusal :=
  .next (s.lineNak cause plane line tag)

/-- LINE_CLAIM_REL (R347). -/
def execLineClaimRel (chip part plane line tag : Nat) (s : State) : Host.Outcome State Fault Refusal :=
  .next (s.lineRel chip part plane line tag)

/-- LINE_CLAIM_REL_ACK (R347). -/
def execLineClaimRelAck (plane line tag : Nat) (s : State) : Host.Outcome State Fault Refusal :=
  .next (s.lineRelAck plane line tag)

/-- LINE_CLAIM_REL_WAIT (R347). -/
def execLineClaimRelWait (plane line tag : Nat) (s : State) : Host.Outcome State Fault Refusal :=
  .next (s.lineRelWait plane line tag)

/-- LINE_REQ_TIMEOUT (R345): 100 µs after the REQ it is sent once more, and 100 µs later the line is FREE. -/
def execLineReqTimeout (p l : Nat) (s : State) : Host.Outcome State Fault Refusal :=
  let x := s.lineX p l
  if s.lineSt p l = 1 && x.sentTick + 10 ≤ s.tick then
    if x.resent then .next (((s.setLine p l 0 0).lineRefuse p l 5).partFreeCheck (s.linePart p l))
    else
      let s := s.modLine p l (fun x => { x with resent := true, sentTick := s.tick })
      match s.lineChip p l with
      | some c => .next (s.lineSend p l c 1 0 x.tag (s.linePart p l))
      | none => .next s
  else .next s

/-- LINE_UNCONFIRMED (R346): 2 ms after the line was both CLAIMED and named by CURRENT. -/
def execLineUnconfirmed (p l : Nat) (s : State) : Host.Outcome State Fault Refusal :=
  let x := s.lineX p l
  if s.lineSt p l = 2 && s.fld .line (Lin.LINE_STATE.sub 3 3) (lineBank p l) = 0 && x.since ≠ 0 && !x.noted
      && x.since + 199 ≤ s.tick then
    .next ((s.modLine p l (fun x => { x with noted := true })).event 0x610B (srcPort p) [(1, p), (1, l)])
  else .next s

/-! ### Contexts (R348, R350) -/

def State.ctxSel (s : State) : Nat := s.fld .ctx (Ctx.CTX_SEL.sub 12 0)

/-- A context command is rejected with a cause of R362. -/
def State.ctxReject (s : State) (c cause : Nat) : State :=
  (s.setFld .ctx (Ctx.CTX_STATE.sub 7 4) cause c).event 0x6105 0 [(2, c), (2, cause)]

/-- BIND (R348). -/
def State.ctxBind (s : State) : State :=
  let c := s.ctxSel
  let p := s.fld .ctx (Ctx.CTX_ARG.sub 11 0)
  let g := s.fld .ctx (Ctx.CTX_ARG.sub 23 16)
  if s.partState p = 0 || s.partState p = 5 then s.ctxReject c 3
  else if s.ctxState c ≠ 0 then s.ctxReject c 1
  else if s.fld .ctx Ctx.CTX_PREV_GEN c = g + 256 then s.ctxReject c 2
  else
    let s := s.setFld .ctx (Ctx.CTX_STATE.sub 1 0) 1 c
    let s := s.setFld .ctx (Ctx.CTX_STATE.sub 15 8) g c
    (s.setFld .ctx (Ctx.CTX_STATE.sub 27 16) p c).ctxCountSync

/-- RETIRE of a context (R350). -/
def State.ctxRetire (s : State) : State :=
  let c := s.ctxSel
  if s.ctxState c ≠ 1 then s.ctxReject c 1 else s.ctxTear c

/-- UNBIND (R348). -/
def State.ctxUnbind (s : State) : State :=
  let c := s.ctxSel
  let st := s.partState (s.ctxPart c)
  if s.ctxState c ≠ 1 then s.ctxReject c 1
  else if st ≠ 0 && st ≠ 5 then s.ctxReject c 3
  else s.ctxIdle c

/-- A write of CTX_CMD. -/
def State.ctxCmd (s : State) (v : Word) : State :=
  match v.toNat % 4 with
  | 1 => s.ctxBind
  | 2 => s.ctxRetire
  | 3 => s.ctxUnbind
  | _ => s

/-- CTX_BIND (R348). -/
def execCtxBind (m : Master) (s : State) : Host.Outcome State Fault Refusal := .next (s.gated m .ctx State.ctxBind)

/-- CTX_RETIRE (R350). -/
def execCtxRetire (m : Master) (s : State) : Host.Outcome State Fault Refusal := .next (s.gated m .ctx State.ctxRetire)

/-- CTX_UNBIND (R348). -/
def execCtxUnbind (m : Master) (s : State) : Host.Outcome State Fault Refusal := .next (s.gated m .ctx State.ctxUnbind)

/-- A context whose writes have completed or are fenced returns to BOUND; inside a barrier it stays RETIRING to its end (R350,
R351). -/
def State.tearAck (s : State) (c ns : Nat) : State :=
  let p := s.ctxPart c
  let x := s.partX p
  let s := s.setFld .ctx Ctx.CTX_RET_NS ns c
  if x.tearing.contains c then
    let s := if x.ownTear.contains c then s.event 0x6104 0 [(2, c), (1, s.ctxGen c), (2, p)] else s
    let left := x.tearing.filter (· != c)
    let s := s.modPartX p (fun x => { x with tearing := left, ownTear := x.ownTear.filter (· != c) })
    if left.isEmpty then s.barrierMark p else s
  else
    ((s.setFld .ctx (Ctx.CTX_STATE.sub 1 0) 1 c).ctxCountSync).event 0x6104 0 [(2, c), (1, s.ctxGen c), (2, p)]

/-- TEARDOWN_ACK (R350): due while the context is RETIRING and its barrier, if any, still awaits it; `ns` is the duration. -/
def execTeardownAck (c ns : Nat) (s : State) : Host.Outcome State Fault Refusal :=
  let p := s.ctxPart c
  if s.ctxState c = 2 && (s.fld .part Par.PART_STATUS_BARRIER p = 0 || (s.partX p).tearing.contains c) then
    .next (s.tearAck c ns)
  else .next s

end Sys2Proof.Machine
end

