-- ==== Sys2Proof/Machine/Security.lean ====
section
/-! DEFINITION. The security processor: attestation (R483), job keys (R484–R488), sealed partitions (R489–R492), tokens and life cycle
(R493–R495). -/
namespace Sys2Proof.Machine

/-! ### Attestation (R483) -/

/-- The link key index of a partition in TX_PHASE. -/
def State.txIndex (s : State) (p : Nat) : Nat :=
  let j : JobKey := tGet s.jobKeys p
  if s.txPhase p = 0 then j.idx0 else j.idx1

/-- The processor whose running image stands for its class. -/
def State.classProc (s : State) (c : Nat) : Nat :=
  if c = 0 then 32 * s.ccActive?.getD 0 else (procBanks.find? (fun k => procClass k == c)).getD 0

/-- FW_c of the report. -/
def State.attClass (s : State) (c : Nat) : List Byte :=
  let x := s.runImg (s.classProc c)
  bytesLE 32 x.digest ++ bytesLE 8 (x.version % 2 ^ 24 + x.svn % 2 ^ 16 * 2 ^ 32 + smGet (fun _ => 0) s.flash.svnMin c % 2 ^ 16 * 2 ^ 48)

/-- PART_j of the report. -/
def State.attPart (s : State) (p : Nat) : List Byte :=
  bytesLE 8 (p % 4096 + s.partState p * 2 ^ 12 + bool01 (decide (2 ≤ (s.sealOf p).st)) * 2 ^ 15 + s.txIndex p % 2 ^ 32 * 2 ^ 32)
    ++ bytesLE 8 (s.fld64 .part Par.PART_BND_LO p)

/-- Bytes 0x000–0x96F of the report (Table 17.1). -/
def State.attBody (s : State) (part : Nat) (nonce ek : List Byte) : List Byte :=
  let ps := s.partsHeld
  bytesLE 8 (1 + s.flash.lifecycle * 2 ^ 8 + s.fld .sec Sec.SEC_STATUS_DEBUG_OPEN * 2 ^ 10
      + s.fld .sec Sec.SEC_STATUS_DEBUG_OPENED * 2 ^ 11 + s.chip * 2 ^ 32)
    ++ bytesLE 8 (s.fld .sec Sec.BOOT_CNT) ++ bytesLE 8 s.tick ++ bytesLE 8 (part % 4096 + min ps.length 32 * 2 ^ 16)
    ++ (nonce ++ bytesLE 32 0).take 32 ++ s.idDigest ++ s.ownerDigest
    ++ (List.range 5).flatMap s.attClass ++ bytesLE 8 0
    ++ ((ps.take 32).flatMap s.attPart ++ bytesLE 512 0).take 512
    ++ (ek ++ bytesLE 1568 0).take 1568

/-- Erase the decapsulation key of a partition. -/
def State.dropDecap (s : State) (part : Nat) : State := ({ s with decap := s.decap.filter (fun e => e.part != part) }).keySync part

/-- A new encapsulation key for a partition, which replaces an unused one. -/
def State.newEk (s : State) (part : Nat) : State × List Byte :=
  let n := s.fresh
  let d : Decap := { num := n, part := part, tick := s.tick }
  let s := s.dropDecap part
  let s := { s with fresh := s.fresh + 1 }
  (({ s with decap := s.decap ++ [d] }).keySync part, bytesLE 1568 (Config.mlKemKey n).toNat)

/-- ATT_REQUEST (R483). -/
def execAttRequest (m : Master) (n : Nat) (h : MHdr) (part : Nat) (ek : Bool) (nonce : List Byte) (s : State) :
    Host.Outcome State Fault Refusal :=
  .next (s.request m n 0x100 h (fun s =>
    let st := s.partState part
    if 4096 ≤ part then (s, 10, [])
    else if ek && part ≠ 0 && !(decide (1 ≤ st) && decide (st ≤ 3)) then (s, 9, [])
    else
      let (s, e) := if ek then s.newEk part else (s, [])
      let body := s.attBody part nonce e
      let sig := bytesLE 3309 (Config.mlDsaSign s.idSeed (shake256 body 64)).toNat
      let s := { s with sec := { s.sec with report := body ++ sig } }.setFld .sec (Sec.ATT_LEN.sub 15 0) 5725
      (s.event 0xA108 (srcProc 1 0), 0, bytesLE 4 5725 ++ bytesLE 8 s.tick)))

/-- The report word at ATT_OFF, and the advance of ATT_OFF (R498). -/
def State.attRead (s : State) : State × Nat :=
  let o := s.fld .sec (Sec.ATT_OFF.sub 12 0)
  let w := natLE ((List.range 4).map (fun i => s.sec.report.getD (o + i) (Config.attBeyond (o + i))))
  ((s.setFld .sec Sec.ATT_DATA w).setFld .sec (Sec.ATT_OFF.sub 12 0) ((o + 4) % 8192), w)

/-- ATT_DATA_READ (R498). -/
def execAttDataRead (m : Master) (s : State) : Host.Outcome State Fault Refusal :=
  if !s.answers .sec then .next s
  else
    let (s, w) := s.attRead
    .next (if m = .host then s.emit (.hostRead 0 (bytesLE 4 w)) else s)

/-- EK_EXPIRY (R483). -/
def execEkExpiry (part : Nat) (s : State) : Host.Outcome State Fault Refusal :=
  if s.decap.any (fun e => e.part == part && decide (e.tick + challengeLife ≤ s.tick)) then
    .next (s.dropDecap part)
  else .next s

/-! ### Job keys (R484–R486) -/

/-- A KEY_GRANT is rejected: event 0xA10A with the cause (in the order of R484). -/
def State.grantReject (s : State) (cause status : Nat) : State × Nat × List Byte :=
  ((s.bump .sec Sec.GRANT_REJ_CNT).event 0xA10A (srcProc 1 0) [(2, cause)], status, [])

/-- The job key that a grant wraps, where its tag agrees. -/
def State.grantKey (s : State) (d : Decap) (b : List Byte) : Option (List Byte) :=
  match Config.mlKemDecap d.num ((b.drop 0x10).take 1568) with
  | none => none
  | some ss =>
    let kw := deriveKey (bytesLE 32 ss.toNat) "NYM-WRAP" (bytesLE 2 s.chip ++ bytesLE 2 d.part ++ bytesLE 4 (s.fld .sec Sec.BOOT_CNT))
    gcmOpen kw (bytesLE 12 0) (b.take 16) ((b.drop 0x630).take 32) ((b.drop 0x650).take 16)

/-- KEY_GRANT (R484): `b` is its payload (Table 17.2). -/
def execKeyGrant (m : Master) (n : Nat) (h : MHdr) (b : List Byte) (s : State) : Host.Outcome State Fault Refusal :=
  .next (s.request m n 0x101 h (fun s =>
    let part := natLE (b.take 2)
    match s.decap.find? (fun e => e.part == part) with
    | none => s.grantReject 1 9
    | some d =>
      let s := s.dropDecap part
      if natLE ((b.drop 4).take 4) ≠ s.fld .sec Sec.BOOT_CNT then s.grantReject 2 9
      else match s.grantKey d b with
        | none => s.grantReject 3 8
        | some k =>
          if !(tGet s.jobKeys part).key.isEmpty then s.grantReject 4 9
          else
            let s := { s with jobKeys := tSet s.jobKeys part { key := k } }.keySync part
            (s.event 0xA109 (srcProc 1 0) [(2, part)], 0, [])))

/-- A phase is the TX_PHASE in effect, or the one that an armed activation brings (R486). -/
def State.phaseBusy (s : State) (p phase : Nat) : Bool :=
  s.txPhase p == phase
    || (s.fld .ep (Ep.EP_STATUS.sub 0 0) p == 1 && s.shFld (.cry 0) (Cry.TX_PHASE.sub 0 0) (keyBank p 0) == phase)

/-- KEY_INSTALL (R486). -/
def execKeyInstall (m : Master) (n : Nat) (h : MHdr) (part phase idx : Nat) (s : State) : Host.Outcome State Fault Refusal :=
  .next (s.request m n 0x102 h (fun s =>
    let j : JobKey := tGet s.jobKeys part
    if 4096 ≤ part || 2 ≤ phase || 2 ^ 32 ≤ idx then (s, 10, [])
    else if j.key.isEmpty || s.phaseBusy part phase || (match j.index with | some i => decide (idx ≤ i) | none => false) then (s, 9, [])
    else
      let k := natLE (deriveKey j.key "NYM-LINK" (bytesLE 2 part ++ bytesLE 4 idx))
      let bank := keyBank part phase
      let s := { s with keys := smIns s.keys bank k }
      let s := s.setFld (.cry 0) Cry.KEY_STATUS 1 bank
      let s := (s.setFld64 (.cry 0) Cry.NCTR_LO 0 bank).setFld64 (.cry 0) Cry.NCTR_LO 0 (bank + 16384)
      let s := if part = 0 then { s with mg := { s.mg with nctr := tSet s.mg.nctr phase 0 } } else s
      let j := { j with index := some idx, idx0 := if phase = 0 then idx else j.idx0, idx1 := if phase = 1 then idx else j.idx1 }
      let s := { s with jobKeys := tSet s.jobKeys part j }.keySync part
      (s.event 0xA10B (srcProc 1 0) [(2, part), (1, phase), (4, idx)], 0, [])))

/-! ### Sealing (R489–R492) -/

/-- The payload of SEAL before its TAG. -/
def sealPayload (part mask : Nat) (ranges : List (Nat × Nat)) : List Byte :=
  bytesLE 2 part ++ bytesLE 1 mask ++ bytesLE 1 ranges.length
    ++ ranges.flatMap (fun r => bytesLE 8 r.1 ++ bytesLE 4 r.2 ++ bytesLE 4 0)

/-- The ranges of a SEAL are well formed: space 0x0 of the own chip, 4 KiB aligned, inside the space. -/
def State.sealRangesOk (s : State) (ranges : List (Nat × Nat)) : Bool :=
  decide (1 ≤ ranges.length) && decide (ranges.length ≤ 64)
    && ranges.all (fun r => gaSpace r.1 == 0 && gaChip r.1 == s.chip && r.1 % 4096 == 0 && decide (1 ≤ r.2)
        && s.populated r.1 && s.populated (r.1 + (r.2 - 1) * 4096))

/-- A masked cluster runs a context of another partition or holds its WAITING entry. -/
def State.clusterTaken (s : State) (p mask : Nat) : Bool :=
  s.progs.any (fun e => e.2.active && e.2.part != p && e.2.cores.any (fun lc => bitAt mask (lc / 8)))
    || s.slots.any (fun e => e.2.state == 2 && e.2.part != p && e.2.targets.any (fun lc => bitAt mask (lc / 8)))

/-- Why a SEAL is rejected, in the order of R489. -/
def State.sealCause (s : State) (part mask : Nat) (ranges : List (Nat × Nat)) (tag : List Byte) : Option Nat :=
  let j : JobKey := tGet s.jobKeys part
  let rs := ranges.map (fun r => (gaOff r.1, r.2 * 4096))
  let key := deriveKey j.key "NYM-SEAL" (bytesLE 2 part)
  if s.partState part ≠ 1 || (s.sealOf part).closed then some 1
  else if j.key.isEmpty then some 2
  else if tag ≠ shake256 (key ++ sealPayload part mask ranges) 32 then some 3
  else if s.flash.lifecycle ≠ 2 then some 4
  else if s.flag .sec Sec.SEC_STATUS_DEBUG_OPEN || s.flag .sec Sec.SEC_STATUS_DEBUG_OPENED then some 5
  else if s.seals.any (fun e => e.1 != part && e.2.closed && e.2.ranges.any (fun a => rs.any (fun b => overlap a b))) then some 6
  else if s.clusterTaken part mask then some 7
  else none

/-- SEAL (R489): the ranges close at once, and the request is answered when the fill has ended. -/
def execSealPart (m : Master) (n : Nat) (h : MHdr) (part mask : Nat) (ranges : List (Nat × Nat)) (tag : List Byte) (s : State) :
    Host.Outcome State Fault Refusal :=
  match s.mboxPost m n 0x103 h with
  | (s, false) => .next s
  | (s, true) =>
    if !s.sealRangesOk ranges || 256 ≤ mask then .next (s.mboxAnswer n 10 [])
    else match s.sealCause part mask ranges tag with
      | some c => .next ((s.event 0xA111 (srcProc 1 0) [(2, c)]).mboxAnswer n 9 [])
      | none =>
        let x : Seal := { st := 1, mask := mask, ranges := ranges.map (fun r => (gaOff r.1, r.2 * 4096)) }
        .next ({ s with seals := tSet s.seals part x, sec := { s.sec with filling := smSet (fun _ => 0) s.sec.filling part (n + 1) } })

/-- Fill the ranges of a seal with zero. -/
def State.sealZero (s : State) (x : Seal) : State :=
  s.each x.ranges (fun r s => s.each (List.range (r.2 / 4096)) (fun i s =>
    s.engStore (r.1 + i * 4096) (List.replicate 4096 0)))

/-- SEAL_FILL_DONE (R489 steps 2–4). -/
def execSealFillDone (p : Nat) (s : State) : Host.Outcome State Fault Refusal :=
  let x := s.sealOf p
  if x.st ≠ 1 then .next s
  else
    let s := s.sealZero x
    let s := s.each ((List.range 8).filter (bitAt x.mask)) (fun cl s => s.zeroCluster cl)
    let n := smGet (fun _ => 0) s.sec.filling p
    let s := { s with seals := tSet s.seals p { x with st := 2 }, sec := { s.sec with filling := smDel s.sec.filling p } }.keySync p
    let s := s.event 0xA110 (srcProc 1 0) [(2, p)]
    .next (if n = 0 then s else s.mboxAnswer (n - 1) 0 [])

/-- The target of a load lies wholly inside the sealed ranges of a partition. -/
def State.loadInside (s : State) (p target len : Nat) : Bool :=
  let x := s.sealOf p
  x.st == 2 && gaSpace target == 0 && gaChip target == s.chip
    && (List.range (len / 64)).all (fun i => inRanges x.ranges (gaOff target + 64 * i))

/-- SEAL_LOAD (R490): the buffer at `addr` is opened and its plaintext written at its target. -/
def State.sealLoad (s : State) (addr : Nat) : State × Nat × List Byte :=
  if gaSpace addr ≠ 0 || gaChip addr ≠ s.chip || s.sealedAddr addr then (s, 10, [])
  else match s.readMem addr 64 none with
  | (s, none) => (s, 10, [])
  | (s, some hd) =>
    let part := natLE (hd.take 2)
    let cnt := natLE ((hd.drop 8).take 8)
    let target := natLE ((hd.drop 16).take 8)
    let len := natLE ((hd.drop 24).take 8)
    if len % 64 ≠ 0 || len = 0 || 2 ^ 30 < len || (List.range ((len + 80) / 64 + 1)).any (fun i => s.sealedAddr (addr + 64 * i)) then (s, 10, [])
    else
      let j : JobKey := tGet s.jobKeys part
      if j.key.isEmpty || target % 64 ≠ 0 || !s.loadInside part target len
          || (match j.loadCnt with | some c => decide (cnt ≤ c) | none => false) then (s, 9, [])
      else match s.readMem (addr + 64) (len + 16) none with
      | (s, none) => (s, 10, [])
      | (s, some b) =>
        match gcmOpen (deriveKey j.key "NYM-LOAD" (bytesLE 2 part)) (bytesLE 8 cnt ++ bytesLE 4 0) hd (b.take len) (b.drop len) with
        | none => (s, 8, [])
        | some pt =>
          let s := s.engStore target pt
          let s := { s with jobKeys := tSet s.jobKeys part { j with loadCnt := some cnt } }.keySync part
          (s, 0, bytesLE 8 len)

/-- SEAL_LOAD (R490). -/
def execSealLoad (m : Master) (n : Nat) (h : MHdr) (addr : Nat) (s : State) : Host.Outcome State Fault Refusal :=
  .next (s.request m n 0x104 h (fun s => s.sealLoad addr))

/-- Zero the side areas that no other partition's snapshot uses (R492). -/
def State.zeroSides (s : State) (p : Nat) : State :=
  let lost := fun (k l : Nat) => (!s.matActive k || (s.mat k).part == p) && s.inSide k l
  { s with mem := s.mem.filter (fun e => !(decide (e.1 < edKey 12 0) && lost (e.1 / 2 ^ 37) (e.1 % 2 ^ 37))) }

/-- SEALED_CLEAR_DONE (R492): the clearing has ended and the partition becomes FREE. -/
def execSealedClearDone (p : Nat) (s : State) : Host.Outcome State Fault Refusal :=
  let x := s.sealOf p
  if x.st ≠ 3 then .next s
  else
    let s := (s.sealZero x).zeroSides p
    let s := { s with seals := smDel s.seals p }.keySync p
    .next ((s.event 0xA113 0 [(2, p)]).partFreeCheck p)

/-! ### Tokens and life cycle (R493–R495) -/

/-- TOKEN_CHALLENGE (R493). -/
def execTokenChallenge (m : Master) (n : Nat) (h : MHdr) (s : State) : Host.Outcome State Fault Refusal :=
  .next (s.request m n 0x105 h (fun s =>
    let c := bytesLE 32 (Config.random32 s.fresh).toNat
    ({ s with fresh := s.fresh + 1, sec := { s.sec with chal := some (c, s.tick) } }, 0, c)))

/-- TOKEN_SUBMIT of a command whose effect on an accepted token is `f`. -/
def State.submit (s : State) (m : Master) (n : Nat) (h : MHdr) (cmd : Nat) (tok : Token) (f : State → State × Nat) : State :=
  s.request m n 0x106 h (fun s =>
    match s.tokenTake cmd tok with
    | (s, false) => (s, 8, [])
    | (s, true) =>
      let (s, st) := f s
      (s, st, []))

/-- The fused minimum of a class rises to a security version, and never falls (R481). -/
def State.svnRaise (s : State) (c svn : Nat) : State :=
  { s with flash := { s.flash with svnMin := smSet (fun _ => 0) s.flash.svnMin c (max (smGet (fun _ => 0) s.flash.svnMin c) svn) } }

/-- SVN_COMMIT (R481). -/
def execSvnCommit (m : Master) (n : Nat) (h : MHdr) (tok : Token) (s : State) : Host.Outcome State Fault Refusal :=
  .next (s.submit m n h 2 tok (fun s =>
    let c := tok.argN % 8
    let svn := tok.argN / 2 ^ 16 % 2 ^ 16
    if 4 < c || 64 < svn then (s, 10)
    else if (s.image_ c (s.activeSlot c)).svn < svn then (s, 9)
    else if smGet (fun _ => 0) s.flash.svnMin c < svn then
      let s := (s.svnRaise c svn).svnSync c
      (s.event 0xA11B (srcProc 1 0) [(1, c), (2, svn)], 0)
    else (s, 0)))

/-- OWNER_SET (Table 17.6): the digest of the new owner key is pending. -/
def execOwnerSet (m : Master) (n : Nat) (h : MHdr) (tok : Token) (s : State) : Host.Outcome State Fault Refusal :=
  .next (s.submit m n h 3 tok (fun s => ({ s with sec := { s.sec with ownerDue := some tok.argN } }, 0)))

/-- OWNER_KEY (Table 17.6): the key whose digest is pending. -/
def execOwnerKey (m : Master) (n : Nat) (h : MHdr) (key : List Byte) (s : State) : Host.Outcome State Fault Refusal :=
  .next (s.request m n 0x107 h (fun s =>
    match s.sec.ownerDue with
    | none => (s, 9, [])
    | some d =>
      if key.length = 1952 && natLE (shake256 key 32) = d then
        let s := { s with flash := { s.flash with ownerKey := key }, sec := { s.sec with ownerDue := none } }.ownerSync
        (s.event 0xA11C (srcProc 1 0), 0, [])
      else (s, 8, [])))

/-- DEBUG_UNLOCK (R495): STATE while a partition is sealed. -/
def execDebugUnlock (m : Master) (n : Nat) (h : MHdr) (tok : Token) (s : State) : Host.Outcome State Fault Refusal :=
  .next (s.request m n 0x106 h (fun s =>
    if s.seals.any (fun e => e.2.closed) then (s.sealBlock 9, 9, [])
    else match s.tokenTake 4 tok with
      | (s, false) => (s, 8, [])
      | (s, true) =>
        let s := (s.setFld .sec Sec.SEC_STATUS_DEBUG_OPEN 1).setFld .sec Sec.SEC_STATUS_DEBUG_OPENED 1
        (s.event 0xA11A (srcProc 1 0), 0, [])))

/-- RMA (Table 17.6): the life cycle moves at the next power-on. -/
def execRma (m : Master) (n : Nat) (h : MHdr) (tok : Token) (s : State) : Host.Outcome State Fault Refusal :=
  .next (s.submit m n h 5 tok (fun s => ({ s with flash := { s.flash with rmaPending := true } }, 0)))

end Sys2Proof.Machine
end

