-- ==== Sys2Proof/Machine/RegAccess.lean ====
section
/-! DEFINITION. The register space (R14, R15, R510, R518–R520, R525, R526, R534): which bank a selector shows, reads with their
effects, writes by access code and range, page semaphores and CTR_CLR (R156). -/
namespace Sys2Proof.Machine

/-! ### Banks -/

/-- The bank of the register at offset `off` of a page that the page's selector shows (R361 and the register tables). -/
def State.bankOf (s : State) (pg : Page) (off : Nat) : Nat :=
  let b := fun lo hi => decide (lo ≤ off) && decide (off ≤ hi)
  match pg with
  | .core _ _ _ => if b 0x144 0x150 then s.fld pg (Cor.PORT_SEL.sub 2 0) else 0
  | .cluster _ _ => if b 0x124 0x130 then s.fld pg (Cl.XP_SEL.sub 4 0) else 0
  | .dn _ => if b 0x104 0x108 then s.fld pg (Dn.DN_SEL.sub 6 0) else if b 0x10C 0x110 then s.fld pg (Dn.DN_SEL.sub 9 0) else 0
  | .br _ => if b 0x104 0x108 then s.fld pg (Br.BR_SEL.sub 0 0) else if b 0x10C 0x110 then s.fld pg (Br.BR_SEL.sub 2 0) else 0
  | .mc _ => if b 0x118 0x120 then s.fld pg (Mc.CH_SEL.sub 4 0) else 0
  | .nmu _ => if b 0x144 0x150 then s.fld pg (Nmu.DIG_SEL.sub 11 0) else 0
  | .lan _ => if b 0x104 0x12C then s.fld pg (Lan.LANE_SEL.sub 3 0) else 0
  | .trm _ =>
    if b 0x108 0x10C then s.fld pg (Trm.TRIM_SEL.sub 6 0)
    else if b 0x110 0x114 || b 0x11C 0x120 then s.fld pg (Trm.TRIM_SEL.sub 3 0) else 0
  | .cry _ =>
    let mgt := s.fld pg (Cry.KEY_SEL.sub 13 13) == 1
    if b 0x104 0x104 then s.keySel
    else if b 0x108 0x108 then (if mgt then keyBank 0 0 else s.fld pg (Cry.KEY_SEL.sub 11 0))
    else if b 0x10C 0x110 then s.keySel + 16384 * s.fld pg (Cry.KEY_SEL.sub 14 14) else 0
  | .rt =>
    if b 0x118 0x11C then s.fld pg (Rt.FRT_IDX.sub 15 0)
    else if b 0x124 0x124 then s.fld pg (Rt.RNK_SEL.sub 4 0)
    else if b 0x12C 0x12C then s.fld pg (Rt.RNK_SEL.sub 4 0) * 16384 + s.fld pg (Rt.RNK_IDX.sub 13 0)
    else if b 0x134 0x134 then s.fld pg (Rt.PEER_IDX.sub 12 0) else 0
  | .bnd => if b 0x104 0x124 then s.fld pg (Bnd.BND_SEL.sub 5 0) else 0
  | .rng _ =>
    let sel := s.fld pg Rng.RING_SEL
    if b 0x104 0x108 || b 0x110 0x110 || b 0x218 0x224 || b 0x23C 0x23C then sel
    else if b 0x10C 0x10C || b 0x234 0x238 then sel % 256
    else if b 0x22C 0x22C then sel + 512 * s.fld pg (Rng.TBL_SEL.sub 8 0) else 0
  | .kal _ =>
    if b 0x108 0x110 then s.fld pg Kal.KAL_SEL else if b 0x114 0x118 then s.fld pg (Kal.KAL_SEL.sub 2 0) else 0
  | .las _ _ => if b 0x10C 0x114 then s.fld pg (Las.LINE_SEL.sub 4 0) else 0
  | .part => if b 0x108 0x128 || b 0x140 0x140 then s.fld pg (Par.PART_SEL.sub 11 0) else 0
  | .ctx => if b 0x10C 0x114 then s.fld pg (Ctx.CTX_SEL.sub 12 0) else 0
  | .line => if b 0x108 0x10C then s.fld pg (Lin.LINE_SEL.sub 9 0) else 0
  | .ep => if (b 0x104 0x148 || b 0x158 0x15C) then s.fld pg (Ep.EP_SEL.sub 11 0) else 0
  | .stp => if b 0x108 0x11C then s.fld pg (Stp.STEP_SEL.sub 11 0) else 0
  | .ari => if b 0x110 0x124 then s.fld pg (Ari.ARI_SEL.sub 11 0) else 0
  | .ct =>
    let p := s.fld pg (Ct.CT_SEL.sub 11 0)
    if b 0x104 0x10C || b 0x124 0x138 then p
    else if b 0x118 0x120 then p + 4096 * s.fld pg (Ct.REG_SEL.sub 5 0) else 0
  | .ck => if b 0x104 0x158 then s.fld pg (Ck.CK_SEL.sub 11 0) else 0
  | .rc => if b 0x104 0x154 then s.fld pg (Rc.RC_SEL.sub 11 0) else 0
  | .dg => if b 0x10C 0x14C then s.fld pg (Dg.DG_SEL.sub 14 0) else 0
  | .ft => if b 0x10C 0x124 then s.fld pg (Ft.FT_SEL.sub 6 0) else 0
  | .sig => if b 0x108 0x10C then s.fld pg (Sig.SIG_SEL.sub 3 0) else 0
  | .fp => if b 0x104 0x11C then s.fpSel else 0
  | .upd => if b 0x104 0x124 then s.fld pg (Upd.UPD_SEL.sub 2 0) else 0
  | .sec =>
    if b 0x118 0x120 then s.fld pg (Sec.KEY_SEL.sub 11 0) else if b 0x128 0x128 then s.fld pg (Sec.SVN_SEL.sub 2 0) else 0
  | .pwr =>
    if b 0x124 0x124 then s.fld pg (Pwr.TEMP_SEL.sub 4 0) else if b 0x130 0x134 then s.fld pg (Pwr.RAIL_SEL.sub 3 0) else 0
  | _ => 0

/-- The key of the register at an offset of a page as its selector stands. -/
def State.selKey (s : State) (pg : Page) (off : Nat) : Nat := regKey pg off (s.bankOf pg off)

/-- Registers that a page of this unit does not implement: they read 0 (R216, R307, Table 8.11). -/
def Page.absent (pg : Page) (off : Nat) : Bool :=
  let b := fun lo hi => decide (lo ≤ off) && decide (off ≤ hi)
  match pg with
  | .nmu k => k != 0 && b 0x140 0x150
  | .trm p => decide (8 ≤ p) && (b 0x100 0x100 || b 0x108 0x11C || b 0x124 0x124)
  | .cry p => p != 0 && b 0x100 0x114
  | _ => false

/-! ### Reads -/

/-- The MSI-X table and its pending bits, which are not register pages (R509). -/
def msixTable (a : Nat) : Bool := decide (0x18000 ≤ a) && decide (a < 0x20000)
def msixPba (a : Nat) : Bool := decide (0x12000 ≤ a) && decide (a < 0x12100)

/-- The register key of a word of the MSI-X table, which no page holds. -/
def msixKey (a : Nat) : Nat := a * 64 + 63

/-- The time reading while it is not frozen shows a moment of the tick that no operand gives (R334). -/
def State.timeLive (s : State) : State :=
  if s.time.frozen then s
  else
    let (s, t) := s.freeTime
    s.showTime t

/-- A read of the register at an offset of a page that answers, with what reading does. -/
def State.pageRead (s : State) (pg : Page) (off : Nat) : State × Nat :=
  let plain := (s, (s.reg (s.selKey pg off)).toNat)
  if pg.absent off then (s, 0)
  else match pg with
  | .time =>
    if off = Tim.TIME_SEC_LO.off then
      let sub := (Config.latchSub s.fresh).val
      { s with fresh := s.fresh + 1 }.timeSecRead sub
    else if off = Tim.TIME_FRAC.off then s.timeLive.timeFracRead
    else if off = Tim.TIME_SEC_HI.off || off = Tim.TIME_NS.off then
      let s := s.timeLive
      (s, (s.reg (s.selKey pg off)).toNat)
    else plain
  | .trg =>
    if 0x140 ≤ off && off < 0x1C0 && off % 32 = 4 then s.capSecRead ((off - 0x140) / 32)
    else if 0x140 ≤ off && off < 0x1C0 && off % 32 = 16 then s.capFracRead ((off - 0x140) / 32)
    else plain
  | .fab => if off = Fab.PLAN_WIN_DATA.off then s.planRead else plain
  | .ep => if off = Ep.IMG_DATA.off then s.imgRead else plain
  | .sig => if off = Sig.SIG_DATA.off then s.sigRead else plain
  | .sec => if off = Sec.ATT_DATA.off then s.attRead else plain
  | .flip =>
    if off = (Rec.REC_W 0).off then
      let s := s.recLatch
      (s, s.fld .flip (Rec.REC_W 0))
    else if off = (Rec.REC_W 15).off then (s.recNext, s.fld .flip (Rec.REC_W 15))
    else plain
  | .mc k => if off = Mc.LAYOUT.off then (s, s.ilOf (k / 6)) else plain
  | .las e x =>
    if off = Las.LAS_STATUS_ROLE.off then (s, plain.2 - s.fld pg Las.LAS_STATUS_ROLE + s.lasRole e x) else plain
  | _ => plain

/-- A 4-byte read at a BAR0 offset (R510, R518, R526). -/
def State.regRead (s : State) (a : Nat) : State × Nat :=
  if msixTable a || msixPba a then (s, (s.reg (msixKey a)).toNat)
  else match Page.ofBase (a / 4096 * 4096) with
  | none => (s.bump .glb Glb.UNMAPPED_CNT, 0)
  | some pg =>
    if s.answers pg then s.pageRead pg (a % 4096)
    else ({ s with fresh := s.fresh + 1 }, (Config.noAnswer s.fresh).toNat)

/-! ### Page semaphores (R519, R520) -/

/-- A page is acquired for an owner, whose lease begins. -/
def State.semGrant (s : State) (pg : Page) (c : Nat) : State :=
  ({ s.setSemOwner pg c with semTick := tSet s.semTick pg.base s.tick }).semHeldUpdate

/-- The lease of the page's owner has run out; firmware has none. -/
def State.leaseOut (s : State) (pg : Page) : Bool :=
  (s.semOwner pg == 1 || s.semOwner pg == 2) && decide (tGet s.semTick pg.base + s.fld .glb Glb.SEM_LEASE ≤ s.tick)

/-- A write of PAGE_SEM with bit 31 set (R519, R520). -/
def State.semAcquire (s : State) (pg : Page) (m : Master) : State :=
  let c := s.semOwner pg
  if c = 0 then s.semGrant pg m.code
  else if c = m.code then { s with semTick := tSet s.semTick pg.base s.tick }
  else if s.leaseOut pg then (s.semGrant pg m.code).event 0xC152 0 [(8, pg.base), (2, c), (2, m.code)]
  else s

/-- A write of PAGE_SEM with bit 31 clear (R519). -/
def State.semRelease (s : State) (pg : Page) (m : Master) : State :=
  if s.semOwner pg = m.code then (s.setSemOwner pg 0).semHeldUpdate else s

/-- The order of acquire writes of one arbiter cycle (R519): at a tie of host and management the one that went second at the page's
last tie goes first, the host at the first; firmware goes last. -/
def semOrder (last : Nat) (ms : List Master) : List Master :=
  let two := if last = 1 then [Master.mgmt, .host] else [Master.host, .mgmt]
  (two ++ [Master.fw]).filter (fun m => ms.contains m)

/-- SEM_ACQUIRE (R519): the masters that write in the same arbiter cycle. -/
def execSemAcquire (pg : Nat) (ms : List Master) (s : State) : Host.Outcome State Fault Refusal :=
  .next (match Page.ofBase pg with
  | none => if s.mod_.stby then s.bump .glb Glb.UNMAPPED_CNT else s
  | some p =>
    if !s.answers p then s
    else
      let order := semOrder (tGet s.semTie p.base) ms
      let s := if ms.contains .host && ms.contains .mgmt then
          { s with semTie := tSet s.semTie p.base ((order.map Master.code).headD 0) } else s
      s.each order (fun m s => s.semAcquire p m))

/-- SEM_RELEASE (R519). -/
def execSemRelease (pg : Nat) (m : Master) (s : State) : Host.Outcome State Fault Refusal :=
  .next (match Page.ofBase pg with
  | none => if s.mod_.stby then s.bump .glb Glb.UNMAPPED_CNT else s
  | some p => if s.answers p then s.semRelease p m else s)

/-! ### CTR_CLR (R156) -/

/-- The pages whose counters the CTR_CLR of a page clears. -/
def Page.clears : Page → List Page
  | .core d c p => .core d c p :: (List.range 4).map (fun e => .eng d c p e)
  | .mc k => [.mc k, .scr k]
  | .lnk p => [.lnk p, .lan p]
  | pg => [pg]

/-- A register key that CTR_CLR at `off` of the page clears; FP_SEL chooses the processor. -/
def State.ctrKey (s : State) (pg : Page) (off key : Nat) : Bool :=
  let a := regAddr key
  pg.clears.any (fun q => a / 4096 * 4096 == q.base && q.counters.contains (a % 4096)
    && (match q with
      | .rng _ => off == 0x1F0 || decide (0x234 ≤ a % 4096)
      | .fp => regBank key == s.fpSel
      | _ => true))

/-- What lies below the units of the counters is cleared with them. -/
def State.ctrRests (s : State) (pg : Page) : State :=
  let s := { s with portCnt := s.portCnt.filter (fun e => !pg.clears.any (fun q => regAddr (e.1 / 2) / 4096 * 4096 == q.base)) }
  match pg with
  | .core d c p => { s with cores := tMod s.cores (64 * d + 16 * c + p) (fun x => { x with issueRem := 0, stallRem := 0 }) }
  | .nmu k => { s with nmus := tMod s.nmus k (fun x => { x with rdRem := 0, wrRem := 0 }) }
  | .lnk p => { s with ports := tMod s.ports p (fun x => { x with tx := 0, rx := 0 }) }
  | .cry p => { s with ports := tMod s.ports p (fun x => { x with enc := 0, dec := 0 }) }
  | .kal e => s.each (List.range 8) (fun i s => s.each (List.range 8) (fun n s =>
      { s with lanes := tMod s.lanes ((8 + 8 * e + i) * 16 + n) (fun x => { x with steerRem := 0 }) }))
  | _ => s

/-- A write of the CTR_CLR register at an offset of a page. -/
def State.ctrClr (s : State) (pg : Page) (off v : Nat) : State :=
  if bitAt v 0 then
    { s with regs := s.regs.filter (fun e => !s.ctrKey pg off e.1) }.ctrRests pg
  else s

/-! ### Ranges (R534) -/

/-- A value that the register table or its rule excludes: the write is dropped in full, and where the page's rule names one an error
bit is set. Registers whose own operation checks its range are not listed. -/
def rangeBad (pg : Page) (off v : Nat) : Option (Option Nat) :=
  let out := fun (b : Bool) (e : Option Nat) => if b then some e else none
  let past := fun (lo hi : Nat) (e : Option Nat) => out (decide (v < lo) || decide (hi < v)) e
  match pg with
  | .glb => if off = 0x124 then past 10000 100000000 (some 1) else none
  | .dn _ => if off = 0x100 then out (decide (26 < bitsOf v 5 0)) none else none
  | .mc k =>
    if off = 0x104 && k % 6 = 0 then out (decide (96 < bitsOf v 6 0)) (some 0)
    else if 0x140 ≤ off && off < 0x240 && off % 32 = 12 then out (bitsOf v 14 0 == 0 || decide (16384 < bitsOf v 14 0)) none
    else none
  | .mat _ => if off = 0x10C then out (decide (65536 < bitsOf v 16 0)) none else none
  | .lan _ => if off = 0x100 then out (decide (8 < bitsOf v 3 0)) none else none
  | .rt => if 0x104 ≤ off && off ≤ 0x110 then out (bitsOf v 7 0 == 0) none else none
  | .fab => if off = 0x108 then out (bitsOf v 1 0 != 0) none else none
  | .rng _ =>
    if off = 0x100 then out (decide (11 < bitsOf v 7 4)) none
    else if off = 0x208 then out (bitsOf v 7 0 == 0 || decide (240 < bitsOf v 7 0)) none
    else if off = 0x228 then out (decide (4 < bitsOf v 8 6)) none else none
  | .mon _ => if off = 0x104 then out (bitsOf v 2 0 == 7) none else none
  | .trm _ => if off = 0x104 then out (decide (8 < bitsOf v 3 0) || decide (4 < bitsOf v 6 4)) none else none
  | .ptp =>
    if off = 0x100 then out (bitsOf v 17 16 == 3 || (decide (2 ≤ bitsOf v 23 20) && decide (bitsOf v 23 20 ≤ 8))) none else none
  | .trg =>
    if 0x140 ≤ off && off < 0x1C0 && off % 32 = 0 then out (decide (4 < bitsOf v 2 0)) none
    else if off = 0x1C0 then out (bitsOf v 11 2 == 0 || decide (500 < bitsOf v 11 2)) none
    else if off = 0x1C4 then out (decide (signedOf 32 v < -500000000) || decide (499999999 < signedOf 32 v)) none else none
  | .part => if off = 0x100 then out (bitsOf v 11 0 == 0) none else none
  | .line => if off = 0x100 then out (bitsOf v 9 5 == 0 || decide (23 < bitsOf v 4 0)) none else none
  | .ep => if off = 0x150 then out (bitsOf v 1 0 != 0) none else none
  | .ck =>
    if off = 0x11C then out (bitsOf v 15 0 == 0 || decide (3600 < bitsOf v 15 0)) none
    else if off = 0x148 then out (bitsOf v 7 0 == 0) none else none
  | .ft =>
    if off = 0x100 then out (bitsOf v 15 8 == 0 || decide (168 < bitsOf v 15 8) || bitsOf v 26 16 == 0 || decide (1440 < bitsOf v 26 16)) none
    else if off = 0x104 then out (decide (8 < bitsOf v 6 3)) none else none
  | .sig => if off = 0x110 then out (bitsOf v 1 0 != 0) none else none
  | .wd =>
    if off = 0x100 then past 1000 100000000 (some 0)
    else if off = 0x104 then
      out (decide (bitsOf v 3 0 < 2) || decide (bitsOf v 7 4 < 2) || decide (bitsOf v 11 8 < 2)) (some 0)
    else none
  | .cc => if off = 0x108 then past 1000 100000000 none else none
  | .fp =>
    if off = 0x100 then out (decide (16 < bitsOf v 4 0)) none
    else if off = 0x11C then out (decide (bitsOf v 9 0 < 2) || decide (1000 < bitsOf v 9 0)) (some 1) else none
  | .upd => if off = 0x100 then out (decide (4 < bitsOf v 2 0)) none else none
  | .flip => if off = 0x11C then past 1 6000000 (some 0) else none
  | .sec =>
    if off = 0x10C then out (bitsOf v 1 0 != 0) none else if off = 0x124 then out (decide (4 < bitsOf v 2 0)) none else none
  | .pwr =>
    if off = 0x120 then out (decide (21 < bitsOf v 4 0)) none else if off = 0x12C then out (decide (9 < bitsOf v 3 0)) none else none
  | _ => none

/-- A write of a recompute region's registers that is dropped: of an enabled region, or of a region whose context is that of a sealed
partition (Table 6.5, R491). -/
def State.rcrClosed (s : State) (k n off v : Nat) : Option Bool :=
  let c := if off % 32 = 4 then v % 8192 else s.fld (.mc k) ((Mc.RCR_CTX n).sub 12 0)
  let hit := fun c => (s.sealOf (s.ctxPart c)).closed
  if hit c || hit (s.fld (.mc k) ((Mc.RCR_CTX n).sub 12 0)) then some true
  else if s.flag (.mc k) (Mc.RCR_CTRL_EN n) then some false else none

/-! ### Writes -/

/-- A write by access code (R14): RW and RWS at once, W1C clears, RWE to the shadow; reserved and RO bits stay (R9). -/
def State.plainWrite (s : State) (pg : Page) (off v : Nat) : State :=
  match pg.regDef off with
  | none => s
  | some r =>
    let key := s.selKey pg off
    let old := (s.reg key).toNat
    let s := if r.rw ≠ 0 || r.w1c ≠ 0 then
        s.setReg key (BitVec.ofNat 32 (((old &&& (0xFFFFFFFF ^^^ r.rw)) ||| (v &&& r.rw)) &&& (0xFFFFFFFF ^^^ (v &&& r.w1c))))
      else s
    if r.rwe ≠ 0 then
      s.setShReg key (BitVec.ofNat 32 (((s.shReg key).toNat &&& (0xFFFFFFFF ^^^ r.rwe)) ||| (v &&& r.rwe)))
    else s

/-- A write of a job-scope field of the partition that the page's selector names (R352). -/
def State.jobField (s : State) (part : Nat) (pg : Page) (off v : Nat) : State :=
  let key := s.selKey pg off
  match pg.regDef off with
  | some r => s.jobWrite part key (BitVec.ofNat 32 (v &&& r.rwe))
  | none => s

/-- PLAN_CTRL (R259, R264, R275): BUF, then CANCEL, then ARM. -/
def State.planCtrl (s : State) (v : Nat) : State :=
  let s := s.setFld .fab Fab.PLAN_CTRL_BUF (bitsOf v 2 2)
  let s := if bitAt v 1 then s.planCancel else s
  if bitAt v 0 then s.planArm else s

/-- BIND_CTRL (R21): TEST_OUT, then ARM. -/
def State.bindCtrl (s : State) (d c v : Nat) : State :=
  let s := s.setFld (.cluster d c) Cl.BIND_CTRL_TEST_OUT (bitsOf v 2 2)
  if bitAt v 0 then (s.bindArm (4 * d + c)).bindActions else s

/-- LANE_CTRL (R233) of the lane that LANE_SEL names: DISABLE, then CLEAR. -/
def State.laneCtrl (s : State) (p v : Nat) : State :=
  let s := if bitAt v 0 then s.laneDisable p (s.laneSel p) else s
  if bitAt v 1 then s.laneClear p (s.laneSel p) else s

/-- CAL_CFG (R283). -/
def State.calCfg (s : State) (e v : Nat) : State :=
  let s := s.setFld (.rng e) (Rng.CAL_CFG.sub 15 0) v
  if bitAt v 16 then s.calNow e else s

/-- The write reaches its register: the operation that the register has, else its access code. -/
def State.regPut (s : State) (pg : Page) (off v : Nat) : State :=
  let w := BitVec.ofNat 32 v
  let plain := s.plainWrite pg off v
  if off = 0x018 then plain.irqUpdate
  else if off = 0x028 then plain.irqUpdate
  else if off = 0x02C then s.unitReset pg w
  else if pg.ctrClrOffs.contains off then s.ctrClr pg off v
  else match pg with
  | .glb => if off = 0x114 then s.chipWrite v else if off = 0x120 then s.modCmd v else plain
  | .hst => if off = 0x104 then s.bar2Sel v else plain
  | .lchHost => if off = 0x10C then s.cplCons true v else plain
  | .lchMgt => if off = 0x10C then s.cplCons false v else plain
  | .time => if off = 0x100 then (if bitAt v 0 then s.restep else s) else if off = 0x104 then s.timCfg w else plain
  | .ptp => if off = 0x100 then plain.bmca else plain
  | .trg =>
    if off < 0x140 && off % 16 = 0 then
      let (s, t) := s.freeTime
      s.trgCtrl ((off - 0x100) / 16) w t
    else plain
  | .cc => if off = 0x104 then s.ccCmd w else plain
  | .fp => if off = 0x120 then s.fpCmd w else plain
  | .flip => if off = 0x100 then s.recCtrl w else plain
  | .fr => if off = 0x104 then plain.faultWindow else plain
  | .rst => if off = 0x104 then s.rstGo w else plain
  | .part =>
    if off = 0x104 then s.partCmd w
    else if off = 0x124 || off = 0x128 then s.jobField s.partSel .part off v else plain
  | .ctx => if off = 0x104 then s.ctxCmd w else plain
  | .line => if off = 0x104 then s.lineCmd w else plain
  | .ep => if off = 0x104 then s.epCtrl w else plain
  | .ari => if 0x110 ≤ off && off ≤ 0x11C then s.jobField (s.bankOf .ari off) .ari off v else plain
  | .ct => if off = 0x104 || off = 0x108 then s.jobField (s.bankOf .ct off) .ct off v else plain
  | .ck =>
    if off = 0x12C then s.ckCmd w else if off = 0x13C then s.stoCmd w
    else if off = 0x14C then s.stoProd w [] else if off = 0x150 then s.stoCons w else plain
  | .rc => if off = 0x104 then s.rcCmd w else plain
  | .dg => if off = 0x150 && bitAt v 0 then s.suspect else plain
  | .ft => if off = 0x108 then s.ftCmd w else plain
  | .sig => if off = 0x118 then s.sigAck w else plain
  | .pwr => if off = 0x118 then s.pwrCap v else plain
  | .cluster d c => if off = 0x108 then s.bindCtrl d c v else plain
  | .mc k =>
    if off = 0x104 then (if k % 6 = 0 then plain else s)
    else if off = 0x108 then s.mapoutCtrl k w
    else if 0x140 ≤ off && off < 0x240 then
      let n := (off - 0x140) / 32
      if off % 32 = 0 then s.rcrCtrl k n w
      else match s.rcrClosed k n off v with
      | some true => (s.sealBlock 4).setErr (.mc k) 1
      | some false => s.setErr (.mc k) 1
      | none => plain
    else plain
  | .scr k => if off = 0x100 then s.scrubCtrl k w else plain
  | .nmu k =>
    if off = 0x114 then s.nmuPost k w
    else if 0x144 ≤ off && off ≤ 0x150 then s.jobField (s.bankOf (.nmu 0) off) (.nmu 0) off v else plain
  | .mat k => if (off = 0x108 || off = 0x10C) && s.matActive k then s.setErr (.mat k) 0 else plain
  | .lnk p => if off = 0x100 then s.lnkCtrl p w else plain
  | .lan p => if off = 0x10C then s.laneCtrl p v else plain
  | .trm p => if 8 ≤ p && off = 0x104 then s.plainWrite pg off (v % 16) else plain
  | .cry _ =>
    if off = 0x108 then
      (if s.fld pg (Cry.KEY_SEL.sub 13 13) = 1 then plain else s.jobField (s.fld pg (Cry.KEY_SEL.sub 11 0)) pg off v)
    else if off = 0x114 then (if bitAt v 0 then s.keyErase s.keySel else s) else plain
  | .rt =>
    if off = 0x118 then { s with frtLo := v } else if off = 0x11C then s.frtWrite w
    else if off = 0x124 then s.rnkSlotWrite w else if off = 0x12C then s.rnkDataWrite w
    else if off = 0x134 then s.peerWrite w else plain
  | .las e x => if off = 0x124 then s.lasCmd e x w else plain
  | .rng e =>
    if off = 0x208 then s.calCfg e v else if off = 0x22C then s.tblWrite e w
    else if off = 0x230 then s.ringTest e w else plain
  | .mon e => if off = 0x108 then s.monStart e w else plain
  | .kal e => if off = 0x100 then s.kalMode e w else if off = 0x11C then s.kalReplace e w else plain
  | .fab => if off = 0x100 then s.planCtrl v else if off = 0x10C then s.planWrite w else plain
  | _ => plain

/-- Some bit of the register at an offset of a page can be written. -/
def Page.writable (pg : Page) (off : Nat) : Bool :=
  !pg.absent off && off != 0x010 && off != 0x014
    && ((pg.regDef off).any (fun r => (r.rw ||| r.w1c ||| r.w1s ||| r.rwe ||| r.wo) != 0))

/-- A rule of the page gives the write its own outcome, which comes before the range of its fields (R534): a register of Matryoshka
while it is ACTIVE (R217), and one of a recompute region that is enabled or sealed (R185). -/
def State.ruleFirst (s : State) (pg : Page) (off v : Nat) : Bool :=
  match pg with
  | .mat k => (off == 0x108 || off == 0x10C) && s.matActive k
  | .mc k =>
    decide (0x140 ≤ off) && decide (off < 0x240) && off % 32 != 0 && (s.rcrClosed k ((off - 0x140) / 32) off v).isSome
  | _ => false

/-- A 4-byte write at a BAR0 offset (R9, R15, R526, R534); the flag says that it was dropped under R15. -/
def State.regWrite (s : State) (m : Master) (a v : Nat) : State × Bool :=
  if msixTable a then (s.setReg (msixKey a) (BitVec.ofNat 32 v), false)
  else if msixPba a then (s, false)
  else match Page.ofBase (a / 4096 * 4096) with
  | none => (s.bump .glb Glb.UNMAPPED_CNT, false)
  | some pg =>
    let off := a % 4096
    if !s.answers pg then (s, false)
    else if off = 0x00C then (if bitAt v 31 then s.semAcquire pg m else s.semRelease pg m, false)
    else if !pg.writable off then (s, false)
    else if s.semOwner pg ≠ m.code then (s.semDrop m pg, true)
    else
      let s := { s with semTick := tSet s.semTick pg.base s.tick }
      match if s.ruleFirst pg off v then none else rangeBad pg off v with
      | some (some e) => (s.setErr pg e, false)
      | some none => (s, false)
      | none => (s.regPut pg off v, false)

/-- REGISTER_WRITE (R15, R510): 4 or 8 bytes, naturally aligned; 8 bytes act as two writes, the lower address first. -/
def execRegisterWrite (m : Master) (off size : Nat) (v : DWord) (s : State) : Host.Outcome State Fault Refusal :=
  .next (if !s.mod_.stby then s
  else if size = 4 && off % 4 = 0 then (s.regWrite m off (v.toNat % 2 ^ 32)).1
  else if size = 8 && off % 8 = 0 then ((s.regWrite m off (v.toNat % 2 ^ 32)).1.regWrite m (off + 4) (v.toNat / 2 ^ 32)).1
  else s.bump .glb Glb.UNMAPPED_CNT)

/-- CTR_CLR (R156): a write of the CTR_CLR register at `off` of a page. -/
def execCtrClr (m : Master) (pg off : Nat) (v : Word) (s : State) : Host.Outcome State Fault Refusal :=
  .next (match Page.ofBase pg with
  | none => s
  | some p => if p.ctrClrOffs.contains off then s.gated m p (fun s => s.ctrClr p off v.toNat) else s)

end Sys2Proof.Machine
end

