-- ==== Sys2Proof/Machine/Mgmt.lean ====
section
/-! DEFINITION. The management transport (R513–R517): sessions, requests, their execution in the three spaces, and relays. -/
namespace Sys2Proof.Machine

/-! ### BAR4 (R510, Table 1.5) -/

/-- The 32 bytes of a completion entry (Table 1.8). -/
def Cpl.bytes (c : Cpl) : List Byte :=
  bytesLE 8 (c.status + bool01 c.phase * 2 ^ 8 + bool01 c.late * 2 ^ 9 + c.slot * 2 ^ 12 + c.seq * 2 ^ 32)
    ++ bytesLE 8 c.startAct ++ bytesLE 8 c.endTick ++ bytesLE 8 c.lastDesc

/-- The 8 bytes at an aligned BAR4 offset. -/
def State.bar4Read (s : State) (o : Nat) : List Byte :=
  if o < 0x40000 then bytesLE 8 ((s.slot (o / 64)).word (o % 64 / 8)).toNat
  else if o < 0x80000 then ((tGet s.ring ((o - 0x40000) / 32) : Cpl).bytes.drop (o % 32)).take 8
  else (List.range 8).map (fun i => smGet (fun _ => (0 : Byte)) s.mboxMem (o - 0x80000 + i))

/-- A request header as the first 8 bytes of a mailbox and those after them give it (Table 16.7). -/
def mailHdr (w0 w1 w2 : Nat) : MHdr :=
  { major := bitsOf w0 15 8, minor := bitsOf w0 23 16, target := bitsOf w0 31 24, seq := bitsOf w1 31 0, irq := bitAt w1 45,
    vector := bitsOf w1 57 47, part := bitsOf w2 11 0, lenOk := decide (bitsOf w1 44 32 ≤ 4096), taken := false }

/-- A write of 8 bytes into mailbox `n` at an offset in it (R454, R456): KIND = 1 posts; the response is Morduvar's to write. -/
def State.mailWrite (s : State) (m : Master) (n o : Nat) (b : List Byte) : State :=
  let mine := match m with
    | .host => decide (n < 16)
    | .mgmt => decide (16 ≤ n)
    | .fw => false
  if !mine then s.event 0xB130
  else if 0x1040 ≤ o then s
  else
    let w := natLE b
    if o = 0 && w % 256 = 1 then
      let word := fun i => natLE ((List.range 8).map (fun j => smGet (fun _ => (0 : Byte)) s.mboxMem (n * 16384 + 8 * i + j)))
      let rest := (List.range 56).map (fun j => smGet (fun _ => (0 : Byte)) s.mboxMem (n * 16384 + 8 + j))
      let x := s.mboxAt n
      if x.posted && !x.answered then s.event 0xB130
      else ((s.mboxPost m n (bitsOf w 47 32) (mailHdr w (word 1) (word 2))).1).mboxBytes n 8 rest
    else s.mboxBytes n o b

/-- A write of 8 bytes at an aligned BAR4 offset (R28, R30, R454): the completion rings are Morduvar's to write. -/
def State.bar4Write (s : State) (m : Master) (o : Nat) (b : List Byte) : State :=
  if o < 0x40000 then s.lchWrite m (o / 64) (o % 64) 8 (natLE b)
  else if o < 0x80000 then (if (o < 0x60000) = (m = .host) then s else s.event 0x1102)
  else s.mailWrite m ((o - 0x80000) / 16384) (o % 16384) b

/-! ### Execution (R514) -/

/-- Register reads in ascending order, 4 bytes each. -/
def State.regReads (s : State) (a : Nat) : Nat → State × List Byte
  | 0 => (s, [])
  | k + 1 =>
    let (s, v) := s.regRead a
    let (s, t) := s.regReads (a + 4) k
    (s, bytesLE 4 v ++ t)

/-- Register writes in ascending order, 4 bytes each; the flag says that one was dropped under R15. -/
def State.regWrites (s : State) (m : Master) (a : Nat) : List Byte → Nat → State × Bool
  | _, 0 => (s, false)
  | b, k + 1 =>
    let (s, d) := s.regWrite m a (natLE (b.take 4))
    let (s, e) := s.regWrites m (a + 4) (b.drop 4) k
    (s, d || e)

/-- Address, space, count and alignment are valid (R514); a response holds up to 1,040 bytes. -/
def mgRange (chip space a n : Nat) : Bool :=
  match space with
  | 0 => a % 4 == 0 && n % 4 == 0 && decide (a % 4096 + n ≤ 4096) && decide (a < bankSize) && decide (n ≤ 1040)
  | 1 => a % 8 == 0 && n % 8 == 0 && decide (a % 64 + n ≤ 64) && decide (a < 0x100000)
  | 2 => a % 4 == 0 && n % 4 == 0 && decide (n ≤ 1024) && gaChip a == chip && decide (gaSpace a ≤ 1)
  | _ => false

/-- READ and WRITE are executed as requests of the management master, and answered (R514, Table 18.8). -/
def State.mgExec (s : State) (who : Requester) (req : MgReq) : State :=
  match req with
  | .read space a n =>
    if !mgRange s.chip space a n then s.answerReq who false 3 []
    else if space = 0 then
      let (s, b) := s.regReads a (n / 4)
      s.answerReq who false 0 b
    else if space = 1 then s.answerReq who false 0 ((List.range (n / 8)).flatMap (fun i => s.bar4Read (a + 8 * i)))
    else if s.rangeClosed a n then (s.sealBlock 2).answerReq who false 2 []
    else s.outerRead a n none who
  | .write space a b =>
    let n := b.length
    if !mgRange s.chip space a n then s.answerReq who true 3 []
    else if space = 0 then
      let (s, d) := s.regWrites .mgmt a b (n / 4)
      s.answerReq who true (if d then 4 else 0) []
    else if space = 1 then
      let s := s.each (List.range (n / 8)).reverse (fun i s => s.bar4Write .mgmt (a + 8 * i) ((b.drop (8 * i)).take 8))
      s.answerReq who true 0 []
    else if s.rangeClosed a n then (s.sealBlock 2).answerReq who true 2 []
    else s.outerWrite a b none who
  | .close | .keepalive => s.answerReq who true 0 []

/-! ### Sessions (R515) -/

def State.session (s : State) (n : Nat) : Sess := tGet s.sess n
def State.setSession (s : State) (n : Nat) (x : Sess) : State := { s with sess := tSet s.sess n x }

/-- Sessions 1–8 that are open, as MGT_STATUS shows them. -/
def State.sessSync (s : State) : State :=
  s.setFld .mgt (Mgt.MGT_STATUS.sub 11 8) ((List.range 8).filter (fun i => (s.session (i + 1)).open_)).length

/-- A session closes (R515): what it held is answered SESSION; with the last the management master's semaphores are released. -/
def State.sessClose (s : State) (n : Nat) : State :=
  let x := s.session n
  let s := s.each x.held (fun h s => s.mgSend h.2.1 6 s.chip [])
  let s := (s.setSession n {}).sessSync
  if s.fld .mgt (Mgt.MGT_STATUS.sub 11 8) = 0 then s.semReleaseAll 2 else s

/-- A relay is possible (R517): the management key is installed and a route exists. -/
def State.canRelay (s : State) (dest : Nat) : Bool :=
  s.mgKeyed && (s.route { dest := dest, src := s.chip, mgt := true } none).isSome

/-- A request is carried to its target, and its response awaited (R517). -/
def State.relayTo (s : State) (rq : MgTo) (dest : Nat) (req : MgReq) : State :=
  let s := { s with mg := { s.mg with relays := s.mg.relays ++ [rq] } }
  (s.mgCarry dest { type := req.payload.1, session := rq.session, dest := dest, seq := rq.seq } req.payload.2).bump .mgt Mgt.RELAY_CNT

/-- A request whose turn has come is executed here or carried to its target (R515, R517). -/
def State.sessRun (s : State) (n : Nat) (rq : MgTo) (dst : Option Nat) (req : MgReq) : State :=
  let s := s.setSession n { s.session n with next := rq.seq + 1 }
  match req with
  | .close => (s.mgAnswer rq 0 s.chip []).sessClose n
  | .keepalive => s.mgAnswer rq 0 s.chip []
  | _ =>
    match dst with
    | none => s.mgExec (.mgmt rq) req
    | some d => if s.canRelay d then s.relayTo rq d req else s.mgAnswer rq 9 s.chip []

/-- Held requests whose SEQ has come are run. -/
def State.sessDrain (n : Nat) : Nat → State → State
  | 0, s => s
  | fuel + 1, s =>
    let x := s.session n
    match x.held.find? (fun h => h.1 == x.next) with
    | none => s.setSession n { x with gapAt := if x.held.isEmpty then 0 else s.tick + 1 }
    | some (seq, rq, dst, req) =>
      let s := s.setSession n { x with held := x.held.filter (fun h => h.1 != seq) }
      sessDrain n fuel (s.sessRun n rq dst req)

/-- A request of a session (R515): answered again from the cache, executed in its turn, or held for an earlier SEQ. -/
def State.sessRequest (s : State) (h : MgHdr) (req : MgReq) : State :=
  let n := h.session
  let x := s.session n
  let rq := h.answer req.payload.1 s.mgKeyed
  if n = 0 || 8 < n || !x.open_ then s.mgSend rq 6 s.chip []
  else
    let dst := if h.local_ || h.dest == s.chip then none else some h.dest
    let x := { x with last := s.tick, port := h.port }
    if h.seq < x.next then
      let s := s.setSession n x
      match x.cache.find? (fun e => e.1 == h.seq) with
      | some (_, st, src, b) => s.mgSend rq st src b
      | none => s
    else if h.seq = x.next then
      ((s.setSession n x).sessRun n rq dst req).sessDrain n (x.held.length + 1)
    else
      let held := if x.held.any (fun e => e.1 == h.seq) then x.held else x.held ++ [(h.seq, rq, dst, req)]
      s.setSession n { x with held := held, gapAt := if x.gapAt = 0 then s.tick + 1 else x.gapAt }

/-! ### Frames (R513, R516) -/

/-- The management port carries frames. -/
def State.mgUp (s : State) (port : Nat) : Bool :=
  s.mod_.stby && decide (port ≤ 1) && s.fld .mgt (Mgt.MGT_STATUS.sub port port) == 1

/-- A request with E = 0 that is accepted while the management job key is held (R516): READs of the GLB and SEC pages, and accesses to
management's mailboxes whose request header names TARGET 1. -/
def State.plainOk (s : State) (req : MgReq) : Bool :=
  let target := fun (o : Nat) (b : List Byte) =>
    let n := (o - 0x80000) / 16384
    decide (0xC0000 ≤ o) && decide (o < 0x100000)
      && (if o % 16384 = 0 && 4 ≤ b.length then b.getD 3 0 else smGet (fun _ => (0 : Byte)) s.mboxMem (n * 16384 + 3)) == 1
  match req with
  | .read 0 a _ => a / 4096 * 4096 == Page.glb.base || a / 4096 * 4096 == Page.sec.base
  | .read 1 a _ => target a []
  | .write 1 a b => target a b
  | _ => false

/-- The tag of an encrypted frame matches under the management key in its phase (R516). A frame of which no bytes are known came as
its sender sealed it. -/
def State.mgTagOk (s : State) (h : MgHdr) : Bool :=
  s.mgKeyed && (match h.bytes with
  | none => true
  | some w => mgTagMatches (s.linkKey 0 (s.txPhase 0)) h.nctr w)

/-- The status with which a frame is answered before its session is considered: its MAJOR, its tag, and E = 0 while a key is held. -/
def State.frameFault (s : State) (h : MgHdr) (plain : Bool) : Option Nat :=
  if h.major ≠ 1 then some 8
  else if h.e then (if s.mgTagOk h then none else some 7)
  else if s.fld .mgt (Mgt.MGT_STATUS.sub 12 12) = 1 && !plain then some 7
  else none

/-- A request frame of a TYPE arrives (R513, R516). -/
def State.mgFrame (s : State) (h : MgHdr) (type : Nat) (plain : Bool) (f : State → State) : State :=
  if !s.mgUp h.port then s
  else match s.frameFault h plain with
  | some st =>
    let s := if st = 7 then s.bump .mgt Mgt.AUTH_FAIL_CNT else s
    s.mgSend (h.answer type s.mgKeyed) st s.chip []
  | none => f (s.bump .mgt Mgt.RX_CNT)

/-- MGMT_READ (R514). -/
def execMgmtRead (h : MgHdr) (space a n : Nat) (s : State) : Host.Outcome State Fault Refusal :=
  .next (s.mgFrame h 1 (s.plainOk (.read space a n)) (fun s => s.sessRequest h (.read space a n)))

/-- MGMT_WRITE (R514). -/
def execMgmtWrite (h : MgHdr) (space a : Nat) (data : List Byte) (s : State) : Host.Outcome State Fault Refusal :=
  .next (s.mgFrame h 2 (s.plainOk (.write space a data)) (fun s => s.sessRequest h (.write space a data)))

/-- SESSION_OPEN (R515): BUSY while processor 0 is down or eight are open. -/
def execSessionOpen (h : MgHdr) (s : State) : Host.Outcome State Fault Refusal :=
  .next (s.mgFrame h 5 false (fun s =>
    let rq := { h.answer 5 s.mgKeyed with session := 0 }
    match if s.ccDown && !s.inRecovery then none else (List.range 8).find? (fun i => !(s.session (i + 1)).open_) with
    | none => s.mgSend rq 10 s.chip []
    | some i =>
      ((s.setSession (i + 1) { open_ := true, last := s.tick, port := h.port }).sessSync).mgSend rq 0 s.chip
        (bytesLE 2 (i + 1))))

/-- SESSION_CLOSE (R515). -/
def execSessionClose (h : MgHdr) (s : State) : Host.Outcome State Fault Refusal :=
  .next (s.mgFrame h 6 false (fun s => s.sessRequest h .close))

/-- KEEPALIVE (R515). -/
def execKeepalive (h : MgHdr) (s : State) : Host.Outcome State Fault Refusal :=
  .next (s.mgFrame h 7 false (fun s => s.sessRequest h .keepalive))

/-- SESSION_IDLE_TIMEOUT (R515): 10 s without a request. -/
def execSessionIdleTimeout (n : Nat) (s : State) : Host.Outcome State Fault Refusal :=
  .next (if (s.session n).open_ && (s.session n).last + 1000000 ≤ s.tick then s.sessClose n else s)

/-- SEQ_GAP_TIMEOUT (R515): 1 ms after a request came ahead of a missing SEQ, all held are answered GAP. -/
def execSeqGapTimeout (n : Nat) (s : State) : Host.Outcome State Fault Refusal :=
  let x := s.session n
  .next (if x.open_ && x.gapAt ≠ 0 && x.gapAt - 1 + 100 ≤ s.tick then
    let s := s.each x.held (fun h s => s.mgSend h.2.1 5 s.chip [])
    (s.setSession n { x with held := [], gapAt := 0 }).bump .mgt Mgt.GAP_CNT
  else s)

/-- The response of a relayed request is back (R517): it leaves by the port that the request entered, with SRC the chip that executed
it. -/
def State.relayBack (s : State) (h : MgHead) (data : List Byte) : State :=
  match s.mg.relays.find? (fun rq => rq.session == h.session && rq.seq == h.seq) with
  | some rq => { s with mg := { s.mg with relays := s.mg.relays.erase rq } }.mgAnswer rq h.status h.src data
  | none => s

/-- A relayed message has come whole (R517): a request is executed here, a response goes back to the manager. -/
def State.relayed (s : State) (src : Nat) (w : List Byte) : State :=
  let h := mgHeadOf w
  let b := (w.drop 32).take h.len
  if h.rsp then s.relayBack h b
  else match mgReqOf h.type b with
  | some req => s.mgExec (.relay src h.session h.seq h.type) req
  | none => s

/-- A piece of a relayed message arrives (R517). Pieces come in order; one that does not continue what has come is dropped with it. -/
def State.pieceRx (s : State) (src k n : Nat) (data : List Byte) : State :=
  let got := if k = 0 then [] else tGet s.mg.rx src
  let w := got ++ data
  let keep := fun (b : List Byte) => { s with mg := { s.mg with rx := tSet s.mg.rx src b } }
  if got.length ≠ 208 * k then keep []
  else if k + 1 < n then keep w
  else (keep []).relayed src w

/-! ### What leaves a management port (R513) -/

/-- The port and the bytes of the datagram in which something leaves (Tables 18.6 and 18.7, R470, R418). -/
def State.datagram (s : State) : Out → Option (Nat × List Byte)
  | .mgmtRsp r => some (r.rq.port, s.mgWire r)
  | .eventMsg p r => some (p, ({ type := 3, len := r.bytes.length } : MgHead).bytes ++ r.bytes)
  | .signatureMsg p q item =>
    some (p, ({ type := 4, len := 4 + item.length } : MgHead).bytes ++ bytesLE 4 q ++ item.map (BitVec.ofNat 8))
  | _ => none

end Sys2Proof.Machine
end

