-- ==== Sys2Proof/Machine/LinkRx.lean ====
section
/-! DEFINITION. Arriving flits (R229): their checks, training (R234), the reorder window, forwarding (R245), and the delivery of each
type (R226, R236, R241, R349, R536). -/
namespace Sys2Proof.Machine

/-! ### Where a flit arrives -/

/-- The receive ring of a lane of an optical port, or of ring channel 16 + r. -/
def State.rxRing (s : State) (p n : Nat) : Option Nat :=
  if copper p then none
  else if 16 ≤ n then some (n - 16)
  else (List.range 12).find? (fun r => s.ringLane p r == n)

/-- The bundle that a channel belongs to. -/
def State.rxBundle (s : State) (p n : Nat) : Nat :=
  match s.rxRing p n with
  | some r => s.ringF p r Rng.RING_STATE_BUNDLE
  | none => s.laneBundle p n

/-- The channel carries flits: a copper lane in TRAINING, ACTIVE or SPARE, or a ring pair on its line. -/
def State.rxOn (s : State) (p n : Nat) : Bool :=
  s.mod_.uncore && decide (p < 32) && (match s.rxRing p n with
    | some r => s.ringF p r Rng.RING_STATE_ON_LINE == 1
    | none => copper p && (s.laneSt p n == 1 || s.laneSt p n == 2 || s.laneSt p n == 3))

/-- The channel has been trained; a pair that replaces another keeps its identity (R272). -/
def State.rxTrained (s : State) (p n : Nat) : Bool :=
  match s.rxRing p n with
  | some r => s.ringF p r Rng.RING_STATE_TRAINED == 1 || (s.ringX p r).replaces.isSome
  | none => s.laneSt p n == 2 || s.laneSt p n == 3

/-- A flit whose NEXT is another chip (R229 step 2): counted; the lane fails (R232), or the sender's pair is told (Table 10.3). -/
def State.misdelivered (s : State) (p n : Nat) : State :=
  let s := s.bump (.lnk p) Lnk.MISDELIVER_CNT
  let s := if (s.laneX p (n % 16)).misTick = s.tick + 1 then s
    else (s.modLane p (n % 16) (fun x => { x with misTick := s.tick + 1 })).event 0x3120 (srcPort p (n % 16)) (laneItems p (n % 16) none)
  match s.rxRing p n with
  | some r => s.ringNotice p r declMis
  | none => s.laneFault p n causeIdent

/-! ### Training (R234) -/

/-- The outcome of steps 3–5 for a TRAIN flit: a cause, or the RTT and SKEW in ns where the delay is known. -/
def State.trainCheck (s : State) (t : TrainMsg) (chip : Option Nat) (b arr : Nat) : Except Nat (Option (Nat × Nat)) :=
  let ver := linkVer + 256 * min 0 (t.minors.getD 0 0)
  if chip.any (fun c => c != t.chip) then .error trainIdent
  else if !bitAt t.majors 0 || (s.bndUp b && s.fld .bnd (Bnd.BND_STATUS.sub 23 8) b != ver) then .error trainVersion
  else if t.echoTs = 0 then .ok none
  else
    let rtt := arr - t.echoTs
    let l := (s.bndLanes b).map (fun e => s.fld (.lan e.1) (Lan.LANE_RTT_NS.sub 15 0) e.2)
    let skew := match l with
      | [] => 0
      | h :: tl => let m := tl.foldl min h; (if m ≤ rtt then rtt - m else m - rtt) / 2
    if 1000 < skew && s.bndUp b then .error trainSkew else .ok (some (rtt, if s.bndUp b then skew else 0))

/-- ACTIVE copper lanes to a chip that stand in another bundle than `b` move to it (R220). -/
def State.mergeCopper (s : State) (c b : Nat) : State :=
  s.each (List.range 8) (fun q s =>
    let mine := (laneIds q).filter (fun n => s.laneSt q n == 2 && s.laneBundle q n != b
      && s.fld (.lan q) (Lan.LANE_PEER.sub 15 0) n == c)
    if mine.isEmpty then s
    else
      let old := s.laneBundle q (mine.headD 0)
      let s := s.each mine (fun n s => s.setFld (.lan q) Lan.LANE_STATE_BUNDLE b n)
      (s.bundleSync b).bundleSync old)

/-- The bundle of a copper port whose peer is a chip (R220): the lowest port that ends at it, or the bundle, lower still, in which its lanes
already stand. -/
def State.copperBundle (s : State) (p c : Nat) : Nat :=
  let ports := (List.range 8).filter (fun q => s.copperPeer q == some c)
  let stands := (List.range 8).flatMap (fun q =>
    ((laneIds q).filter (fun n => s.laneSt q n == 2 && s.fld (.lan q) (Lan.LANE_PEER.sub 15 0) n == c)).map (s.laneBundle q))
  (ports ++ stands).foldl min p

/-- Optical pairs to a chip that a copper port has come to reach are no longer trained (R220). -/
def State.opticalYield (s : State) (c : Nat) : State :=
  s.each allPairs (fun e s =>
    if s.ringPeerChip e.1 e.2 = c && ((s.ringX e.1 e.2).role = 1 || (s.ringX e.1 e.2).role = 2)
        && s.ringF e.1 e.2 Rng.RING_STATE_ON_LINE = 1 && (s.ringX e.1 e.2).step ≠ 9 then s.classRefuse e.1 e.2 else s)

/-- A trained lane becomes ACTIVE and joins its bundle; the side with the lower chip number says so (R234 step 5, R235). -/
def State.laneJoin (s : State) (p n b : Nat) : State :=
  let c := s.fld (.lan p) (Lan.LANE_PEER.sub 15 0) n
  let eff := s.fld .bnd (Bnd.BND_SEQ.sub 15 0) b
  let s := (s.setFld (.lan p) Lan.LANE_STATE_BUNDLE b n).setLaneSt p n 2
  let s := ((s.event 0x3102 (srcPort p n) (laneItems p n none)).heard b).bundleSync b
  let s := if copper p then s.mergeCopper c b else s
  let s := if s.chip < c then s.sendBundle b (.laneCtrl { op := 0, bundle := b, port := p, lane := n, eff := eff }) else s
  s.portSync p

/-- Both sides of a copper lane have accepted (Table 8.6): it becomes SPARE or ACTIVE. -/
def State.copperAdmit (s : State) (p n : Nat) : State :=
  let serves := fun q => s.fld (.lan p) Lan.LANE_STATE_SERVES q
  let spare := (n == 8 && serves 8 == 15) || (laneIds p).any (fun q => q != n && serves q == n)
  if spare then (s.setLaneSt p n 3).portSync p
  else s.laneJoin p n (s.copperBundle p (s.fld (.lan p) (Lan.LANE_PEER.sub 15 0) n))

/-- A TRAIN flit on a copper lane past step 1. -/
def State.copperTrain (s : State) (p n : Nat) (t : TrainMsg) (arr : Nat) : State :=
  if s.laneSt p n ≠ 1 || (s.laneX p n).step < 2 then s
  else
    let v := s.fld (.lnk p) Lnk.PEER_EXPECT
    let b := s.copperBundle p t.chip
    match s.trainCheck t (if bitAt v 16 then some (v % 65536) else none) b arr with
    | .error c => s.trainFail p n c (c = trainVersion && !bitAt t.majors 0)
    | .ok r =>
      let s := s.setFld (.lan p) Lan.LANE_PEER (t.chip % 65536 + t.port % 32 * 65536 + t.lane % 16 * 2 ^ 21) n
      let new := !s.copperCabled (t.chip % 65536)
      let s := s.setFld (.lnk p) Lnk.PEER_ID (t.chip % 65536 + t.port % 32 * 65536)
      let s := (s.setFld (.lnk p) Lnk.LNK_STATUS_VER_MAJ 1).setFld (.lnk p) Lnk.LNK_STATUS_VER_MIN 0
      let s := if new then s.opticalYield (t.chip % 65536) else s
      match r with
      | none => s
      | some (rtt, skew) =>
        let s := s.setFld (.lan p) Lan.LANE_RTT_NS (min rtt 65535 + skew * 65536) n
        let s := s.modLane p n (fun x => { x with step := 5, rxOk := true })
        if t.rxOk then s.copperAdmit p n else s

/-- Both sides of a ring pair have accepted: it is trained, and its home lane joins the bundle. -/
def State.ringAdmit (s : State) (p r : Nat) : State :=
  let b := s.ringF p r Rng.RING_STATE_BUNDLE
  let s := (s.setRingF p r Rng.RING_STATE_TRAINED 1).heard b
  match (s.ringX p r).home with
  | some n => if s.laneSt p n = 1 then s.laneJoin p n b else s.bundleSync b
  | none => s.bundleSync b

/-- A TRAIN flit on a ring channel: the own identity that comes back on line 0 (R292 step 2), identity against the plan (R234 step 3), or
against the trained identity (Table 10.3). -/
def State.ringTrain (s : State) (p r : Nat) (t : TrainMsg) (arr : Nat) : State :=
  let x := s.ringX p r
  let c := s.ringPeerChip p r
  let b := s.ringF p r Rng.RING_STATE_BUNDLE
  if x.testing then
    (if t.chip = s.chip && t.port = p && t.lane = 16 + r then s.modRing p r (fun x => { x with identOk := true }) else s)
  else if s.ringSt p r ≠ 3 && s.ringSt p r ≠ 4 then s
  else if s.ringF p r Rng.RING_STATE_TRAINED = 1 then
    (if t.chip = c && t.port = x.peerPort then s.modRing p r (fun x => { x with peerLane := t.lane }) else s.declare_ p r declSelf declSelf)
  else if x.replaces.isSome || x.step < 2 || 9 ≤ x.step || x.home.any (fun n => s.laneSt p n != 1 && s.laneSt p n != 2) then s
  else if s.copperCabled c then s.classRefuse p r
  else match s.trainCheck t (some c) b arr with
  | .error e => s.ringTrainFail p r e (e = trainVersion && !bitAt t.majors 0)
  | .ok none => s
  | .ok (some (rtt, skew)) =>
    let s := s.modRing p r (fun x => { x with step := 6, peerPort := t.port, peerLane := t.lane })
    let s := match x.home with
      | some n =>
        if s.laneSt p n = 1 then
          let s := s.setFld (.lan p) Lan.LANE_RTT_NS (min rtt 65535 + skew * 65536) n
          let s := s.setFld (.lan p) Lan.LANE_PEER (s.lanePeerOf p r) n
          s.modLane p n (fun y => { y with step := 5, rxOk := true })
        else s
      | none => s
    if t.rxOk then s.ringAdmit p r else s

/-- A TRAIN flit arrives; its identity and TS are echoed (Table 8.5). -/
def State.trainRx (s : State) (p n : Nat) (t : TrainMsg) (arr : Nat) : State :=
  let seen : TrainSeen := { chip := t.chip, port := t.port, lane := t.lane, ts := t.ts, arr := arr }
  match s.rxRing p n with
  | some r => (s.modRing p r (fun x => { x with seen := seen })).ringTrain p r t arr
  | none => (s.modLane p n (fun x => { x with seen := seen })).copperTrain p n t arr

/-! ### Unsequenced flits (R229 step 3) -/

/-- A HEARTBEAT (R232, R289, R346): compared with the trained identity; a ring pair's LANE is recorded only. -/
def State.heartbeatRx (s : State) (p n chip port lane : Nat) : State :=
  match s.rxRing p n with
  | some r =>
    if chip = s.ringPeerChip p r && port = (s.ringX p r).peerPort then
      let s := s.modRing p r (fun x => { x with peerLane := lane })
      let s := if s.ringLane p r < 8 then s.setFld (.lan p) Lan.LANE_PEER (s.lanePeerOf p r) (s.ringLane p r) else s
      s.lineConfirm p (s.ringF p r Rng.RING_STATE_LINE) port
    else s.declare_ p r declSelf declSelf
  | none =>
    if s.fld (.lan p) (Lan.LANE_PEER.sub 24 0) n = chip % 65536 + port % 32 * 65536 + lane % 16 * 2 ^ 21 then s
    else s.laneFault p n causeIdent

/-- An IDLE: a receive ring that had lost its light decodes again, and the peer is told (R272 step 3). -/
def State.idleRx (s : State) (p n : Nat) : State :=
  match s.rxRing p n with
  | some r =>
    if (s.ringX p r).rxLost then
      let b := s.ringF p r Rng.RING_STATE_BUNDLE
      (s.modRing p r (fun x => { x with rxLost := false })).sendBundle b
        (.laneCtrl { op := 4, bundle := b, port := (s.ringX p r).peerPort })
    else s
  | none => s

/-! ### Delivery of end-to-end flits (R241, R349) -/

/-- A response or acknowledgement of a peer reaches a core's descriptor: the tag is no longer awaited, and an error faults it. -/
def State.tagDone (s : State) (o : Outst) (status : Nat) : State :=
  let s := s.modInfl o.lc o.infl (fun i => { i with tags := i.tags.filter (· != o.tag) })
  if status = 0 then (s.flushSigs o.lc).collPumpAll
  else match (s.seq o.lc).infl.find? (fun i => i.id == o.infl) with
  | some i => if status = 1 then s.progFault o.lc 0x06 0 0x1124 i.desc else s.progFault o.lc 0x05 0 0x1123 i.desc
  | none => s

/-- RD_RSP (R225): the data go where the read wanted them. -/
def State.rspRx (s : State) (src part tag status : Nat) (data : List Byte) : State :=
  match s.outst.find? (fun o => o.read && o.chip == src && o.part == part && o.tag == tag) with
  | none => s
  | some o =>
    let s := { s with outst := s.outst.erase o }
    if 64 ≤ o.lc then
      (if status = 0 then (s.engStore o.dst (data.take o.bytes)).rcRead (o.lc - 64)
       else { s with outst := s.outst.filter (fun q => !(q.lc == o.lc && q.infl == 2)) }.rcFail (o.lc - 64) 5)
    else if (s.seq o.lc).infl.any (fun i => i.id == o.infl) then
      let g := s.prog (s.seq o.lc).slot
      let s := if status = 0 then (s.writeMem o.dst (data.take o.bytes) (some (g.ctx, g.gen))).1 else s
      s.tagDone o status
    else s

/-- ACK_E2E (R226). -/
def State.ackRx (s : State) (src part tag status : Nat) : State :=
  match s.outst.find? (fun o => !o.read && o.chip == src && o.part == part && o.tag == tag) with
  | none => s
  | some o =>
    let s := { s with outst := s.outst.erase o }
    if 64 ≤ o.lc then (if status = 0 then s.ckAck (o.lc - 64) tag else s)
    else (s.tagDone o status).tapAck o.lc tag

/-- RESUME (R236 step 2): answered once, and every flit above the SEQ that the peer reports is routed anew; the bundle's next flit
takes the SEQ that the peer expects. -/
def State.resumeRx (s : State) (src q : Nat) : State :=
  match (List.range 64).find? (fun b => s.bndPeer b == src && (s.bundle b != default || s.bndUp b)) with
  | none => s
  | some b =>
    let x := s.bundle b
    if x.resumeSent && !x.resumeWait then s
    else
      let s := if x.resumeSent then s
        else (s.sendE2e src 0 0 0 0 0 (.resume b ((x.rxNext + 65535) % 65536) true) true).1
      let up := s.bndUp b
      let again := (x.unacked.filter (fun t => !decide (seqDist t.f.h.seq q < 32768))).map (·.f)
      let (wait, kept) := if up then ([], (s.bundle b).wait) else (s.bundle b).wait.partition (fun e => e.1.p.e2e)
      let s := s.setBundle b { s.bundle b with unacked := [], reorder := [], resumeWait := false, resumeSent := !up, wait := kept }
      let s := if again.isEmpty then s else s.setFld .bnd (Bnd.BND_SEQ.sub 15 0) ((q + 1) % 65536) b
      let s := s.each (again ++ wait.map (·.1)) (fun f s => s.routeOut { f with h := { f.h with det := true, hops := f.h.hops - 1 } } none)
      let s := (s.bump .bnd Bnd.BND_RESUME_CNT b).bndSeqSync b
      (s.event 0x3116 0 (s.bndItems b)).replayOcc

/-- LINE_CLAIM bodies (Table 12.2). -/
def State.lineMsg (s : State) (op cause tag chip part plane input line : Nat) : State :=
  match op with
  | 1 => s.lineReq chip part plane input line tag
  | 2 => s.lineAck chip plane line tag
  | 3 => s.lineNak cause plane line tag
  | 4 => s.lineRel chip part plane line tag
  | 5 => s.lineRelAck plane line tag
  | 6 => s.lineRelWait plane line tag
  | _ => s

/-- Continuity messages by OP (Tables 13.3 and 14.1). -/
def State.contMsg (s : State) (src op part step : Nat) (f : List Nat) : State :=
  let a := fun i => f.getD i 0
  match op with
  | 1 => s.helloRx src part (a 0) (a 1) (a 2) (a 3) (a 4)
  | 2 => s.replyRx part (a 0) (a 1) (a 2)
  | 3 => s.mirDigestRx src part step (a 0) (a 1)
  | 4 => s.unitRx src part step f
  | 5 => s.stripeRx part step (a 0) (a 1) (f.drop 2)
  | 6 => s.commitAck part step (a 0) (a 1) (a 2)
  | 7 => s.ckAbortRx part step (a 0) (a 1)
  | 8 => s.pullReqRx src part (a 0) (a 1) (a 2)
  | 9 => s.pullDone part (a 0) (a 1)
  | 16 => s.voteRx part step (a 1, a 2, a 3) (a 4) (a 5) (a 6 == 1)
  | 17 => s.verdictRx part step (a 0) (a 1) (a 2) (a 3) (a 4) (a 5) (f.drop 6)
  | 18 => s.fencePeer (a 0) (a 1)
  | _ => s

/-- What a MGMT flit carries (Table 18.7). -/
def State.mgmtMsg (s : State) (src : Nat) (m : MgMsg) : State :=
  match m with
  | .line op cause tag chip part plane input line => s.lineMsg op cause tag chip part plane input line
  | .cont op part step f _ => s.contMsg src op part step f
  | .piece k n data => s.pieceRx src k n data

/-- The rights of a flit's partition over a range of this chip (R536). -/
def State.flitRights (s : State) (h : FlitHdr) (a n : Nat) : Bool := s.rightsRange h.part a n

/-- The address of a flit on this chip: its chip field is ignored. -/
def State.here (s : State) (a : Nat) : Nat := s.chip * 2 ^ 48 + a % 2 ^ 48

/-- An accepted flit takes its effect (Table 8.3). -/
def State.deliver (s : State) (h : FlitHdr) (p : Pay) : State :=
  let ctx := some (h.ctx, h.gen)
  let req := fun tag => Requester.peer h.src h.part h.ctx h.gen tag
  match p with
  | .wr a data =>
    let r := req (h.nctr % 2 ^ 32)
    if s.flitRights h (s.here a) data.length then (s.outerWrite (s.here a) data ctx r).commitLanded h.part
    else s.answerReq r true 2 []
  | .rdReq a n tag => if s.flitRights h (s.here a) n then s.outerRead (s.here a) n ctx (req tag) else s.answerReq (req tag) false 2 []
  | .rdRsp tag status data => s.rspRx h.src h.part tag status data
  | .sig a v write =>
    let r := req (h.nctr % 2 ^ 32)
    if sigAligned (s.here a) && s.flitRights h (s.here a) 8 then
      if write then s.outerWrite (s.here a) (bytesLE 8 v) ctx r
      else
        let (s, ok) := s.signalWord (s.here a) v false ctx r
        s.writeDone r ok
    else s.answerReq r true 2 []
  | .ackE2e tag status => s.ackRx h.src h.part tag status
  | .collData c data => s.collData h.part c data
  | .collCredit tag rank n => s.collCredit h.part tag rank n
  | .collAbort tag cause absent => if (s.coll tag).any (fun x => x.part == h.part) then s.collAbort tag cause absent else s
  | .mgmt m => s.mgmtMsg h.src m
  | .resume _ q _ => s.resumeRx h.src q
  | _ => s

/-- The cause with which R349 drops a flit: 1 PART, 2 CTX, 3 GEN; MGMT and RESUME travel as partition 0. -/
def State.partDrop (s : State) (h : FlitHdr) (p : Pay) : Option Nat :=
  let own := match p with | .mgmt _ | .resume _ _ _ => true | _ => false
  let st := s.partState h.part
  if own && h.part = 0 then none
  else if h.part = 0 || st < 2 || 4 < st then some 1
  else if s.ctxState h.ctx ≠ 1 || s.ctxPart h.ctx ≠ h.part then some 2
  else if s.ctxGen h.ctx ≠ h.gen then some 3
  else none

/-- A flit for this chip (R241): tag, fence, then partition, context and generation. -/
def State.accept (s : State) (p : Nat) (f : Flit) : State :=
  if !s.tagOk f then
    let s := s.bump (.cry p) Cry.AUTH_FAIL_CNT
    let x := tGet s.ports p
    if x.authTick = s.tick + 1 then s
    else ({ s with ports := tSet s.ports p { x with authTick := s.tick + 1 } }).event 0x3121 (srcPort p)
  else
    let x := tGet s.ports p
    let (r, c) := per1024 x.dec
    let s := ({ s with ports := tSet s.ports p { x with dec := r } }).bumpBy (.cry p) Cry.DEC_RX c
    if s.fenced f.h.src f.h.part || s.fenced f.h.dest f.h.part then s.bump .rt Rt.FENCE_DROP_CNT
    else match s.partDrop f.h f.p with
    | some 1 => (s.bump .part Par.DROP_PART).dropNote 1
    | some 2 => (s.bump .part Par.DROP_CTX).dropNote 2
    | some c => (s.bump .part Par.DROP_GEN).dropNote c
    | none => s.deliver f.h f.p

/-! ### LANE_CTRL (R233, R235, R272, R290) -/

/-- The lane of this device that a peer knows by a port and a lane of its own. -/
def State.peerLane (s : State) (chip port lane : Nat) : Option (Nat × Nat) :=
  let cu := (List.range 8).findSome? (fun p => ((laneIds p).find? (fun n =>
    (s.laneSt p n == 1 || s.laneSt p n == 2 || s.laneSt p n == 3)
      && s.fld (.lan p) (Lan.LANE_PEER.sub 24 0) n == chip + port * 65536 + lane * 2 ^ 21)).map (fun n => (p, n)))
  match cu with
  | some e => some e
  | none => (List.range 24).findSome? (fun i => (List.range 12).findSome? (fun r =>
      if s.ringPeerChip (i + 8) r == chip && (s.ringX (i + 8) r).peerPort == port && s.ringF (i + 8) r Rng.RING_STATE_BUNDLE != 0 then
        (s.ringX (i + 8) r).home.map (fun n => (i + 8, n))
      else none))

/-- The pair of the named port whose peer is the sender (R290). -/
def State.pairOf (s : State) (chip port : Nat) : Option Nat :=
  if port < 8 || 31 < port then none
  else (List.range 12).find? (fun r => s.ringPeerChip port r == chip && ((s.ringX port r).role == 1 || (s.ringX port r).role == 2))

/-- A LANE_CTRL of the peer takes effect (R233, R235). -/
def State.laneCtl (s : State) (src : Nat) (c : LaneCtl) : State :=
  match c.op with
  | 0 =>
    match s.peerLane src c.port c.lane with
    | some (p, n) => if s.laneSt p n = 1 && (s.laneX p n).rxOk then (if copper p then s.copperAdmit p n else
        match s.homeRing p n with | some r => s.ringAdmit p r | none => s) else s
    | none => s
  | 1 =>
    match s.peerLane src c.port c.lane with
    | some (p, n) => s.laneFailTo p n 0 none false
    | none => s
  | 2 =>
    match s.peerLane src c.port c.lane, s.peerLane src c.port c.repl with
    | some (p, n), some (p', q) => s.laneFailTo p n 0 (if p = p' && s.laneSt p q = 3 then some q else none) false
    | some (p, n), none => s.laneFailTo p n 0 none false
    | none, _ => s
  | 3 =>
    match s.pairOf src c.port with
    | some r =>
      if c.cause = declLos || c.cause = declMis then s.declare_ c.port r c.cause 0
      else if (s.ringX c.port r).out || (s.ringX c.port r).replaces.isSome then s
      else s.modRing c.port r (fun x => { x with mute := s.tick + 4 })
    | none => s
  | _ =>
    match s.pairOf src c.port with
    | some r =>
      match (s.ringX c.port r).replaces with
      | some old =>
        if s.ringF c.port r Rng.RING_STATE_ON_LINE = 1 then
          let s := (s.setRingF c.port r Rng.RING_STATE_TRAINED 1).modRing c.port r (fun x => { x with replaces := none, step := 6 })
          (s.event 0x4110 (srcPort c.port) [(1, c.port), (1, old), (1, r)]).bundleSync (s.ringF c.port r Rng.RING_STATE_BUNDLE)
        else s
      | none => s
    | none => s

/-! ### Sequenced flits (R229 steps 4–6) -/

/-- The bundle of this device to a chip: the one that a bundle-scope flit of that chip concerns, by whichever path it comes (R236). -/
def State.bundleTo (s : State) (b chip : Nat) : Nat :=
  if s.bndPeer b = chip then b else ((List.range 64).find? (fun x => s.bndPeer x == chip && s.bundle x != default)).getD b

/-- A LANE_CTRL of ops 0–2 waits for its effective SEQ (R232, R235): one of the SEQs of the bundle that it came on, which takes effect once
every flit before it has been released. Ops 3 and 4 have taken effect when they arrived (R272, R290). -/
def State.ctlReleased (s : State) (b src : Nat) (c : LaneCtl) : State :=
  let x := s.bundle b
  let ahead := seqDist x.rxNext c.eff
  if 3 ≤ c.op then s
  else if s.bndUp b && 0 < ahead && ahead < 32768 then s.setBundle b { x with ctl := x.ctl ++ [(src, c)] }
  else s.laneCtl src c

/-- The LANE_CTRL flits whose effective SEQ has come. -/
def State.ctlDue (s : State) (b : Nat) : State :=
  let x := s.bundle b
  let (now, later) := x.ctl.partition (fun e => let d := seqDist x.rxNext e.2.eff; d == 0 || decide (32768 ≤ d))
  if now.isEmpty then s else (s.setBundle b { x with ctl := later }).each now (fun e s => s.laneCtl e.1 e.2)

/-- A released flit (R229 step 6): forwarded where its DEST is another chip, and else delivered, or consumed by the bundle; the credit of
an end-to-end flit is owed to its sender. -/
def State.released (s : State) (b p : Nat) (f : Flit) : State :=
  if f.p.e2e then
    let x := s.bundle b
    let k := 2 * f.h.cls + f.h.vc
    let s := s.setBundle b { x with owed := smSet (fun _ => 0) x.owed k (smGet (fun _ => 0) x.owed k + 1) }
    if f.h.dest = s.chip then s.accept p f
    else ({ s with mod_ := { s.mod_ with transit := true } }).routeOut f (some b)
  else if f.h.dest ≠ s.chip then s.routeOut f (some b)
  else
    let b := s.bundleTo b f.h.src
    match f.p with
    | .credit cs =>
      let x := s.bundle b
      s.setBundle b { x with got := cs.zipIdx.foldl (fun m e => smSet (fun _ => 0) m e.2 (smGet (fun _ => 0) m e.2 + e.1)) x.got }
    | .yoyo y => s.yoyoRx b y
    | .laneCtrl c => s.ctlReleased b f.h.src c
    | _ => s

/-- Release flits in SEQ order. -/
def State.releaseAll (b : Nat) : Nat → State → State
  | 0, s => s
  | fuel + 1, s =>
    let x := s.bundle b
    match x.reorder.findIdx? (fun e => e.1.h.seq == x.rxNext) with
    | none => s
    | some i =>
      match x.reorder[i]? with
      | none => s
      | some (f, p) =>
        let s := s.setBundle b { x with rxNext := (x.rxNext + 1) % 65536, reorder := x.reorder.eraseIdx i, ackDue := true }
        releaseAll b fuel ((s.released b p f).ctlDue b)

/-- A sequenced flit arrives on a bundle (R229 steps 4 and 5). A duplicate is acknowledged again, since an ACK of it must have been lost
(R230); a ring notice or RING_ALIGNED takes effect as it arrives (R272, R290). -/
def State.seqRx (s : State) (b p : Nat) (f : Flit) : State :=
  let x := s.bundle b
  if 32768 ≤ seqDist x.rxNext f.h.seq || x.reorder.any (fun e => e.1.h.seq == f.h.seq) then
    (s.setBundle b { x with ackDue := true }).bump (.lnk p) Lnk.DUP_DROP_CNT
  else
    let y := tGet s.ports p
    let (r, c) := per1024 y.rx
    let s := ({ s with ports := tSet s.ports p { y with rx := r } }).bumpBy (.lnk p) Lnk.RX_FLITS c
    let s := s.setBundle b { x with reorder := x.reorder ++ [(f, p)] }
    let s := match f.p with
      | .laneCtrl c => if 3 ≤ c.op && f.h.dest = s.chip then s.laneCtl f.h.src c else s
      | _ => s
    s.releaseAll b (x.reorder.length + 1)

/-- A bundle has heard its peer (R236): DEAD, it is UP again while it has lanes. -/
def State.bundleHears (s : State) (b : Nat) : State := if s.bndSt b = 2 then (s.heard b).bundleSync b else s.heard b

/-- A flit arrives on a channel (R229); `arr` is its arrival, in ns for TRAIN and in 2^−16 ns for TIME. -/
def State.rxFlit (s : State) (p n : Nat) (o : RxObs) (f : Flit) (arr : Nat := 0) : State :=
  if !s.rxOn p n then s
  else if !o.crcOk then s.bump (.lnk p) Lnk.CRC_ERR_CNT
  else match f.p with
  | .train t => s.trainRx p n t arr
  | _ =>
    if !s.rxTrained p n then s
    else if f.h.next ≠ s.chip then s.misdelivered p n
    else
      let b := s.rxBundle p n
      let s := s.bundleHears b
      match f.p with
      | .idle => s.idleRx p n
      | .ack es => s.each es (fun e s => s.ackUpTo b e.2)
      | .nak es => s.each es (fun e s => s.replayFrom b e.2)
      | .heartbeat chip port lane _ _ _ => s.heartbeatRx p n chip port lane
      | .time t => s.timeRx p (match s.rxRing p n with
        | some r => 16 + r
        | none => n) t arr
      | _ => s.seqRx b p { f with raw := o.bytes.getD [] }

/-! ### The rows -/

/-- FLIT_WR (R225, R536): the bytes are written, and acknowledged with their status. -/
def execFlitWr (p n : Nat) (o : RxObs) (h : FlitHdr) (addr : Nat) (data : List Byte) (s : State) : Host.Outcome State Fault Refusal :=
  .next (s.rxFlit p n o { h := h, p := .wr addr data })

/-- FLIT_RD_REQ (R225, R536). -/
def execFlitRdReq (p n : Nat) (o : RxObs) (h : FlitHdr) (addr bytes tag : Nat) (s : State) : Host.Outcome State Fault Refusal :=
  .next (s.rxFlit p n o { h := h, p := .rdReq addr bytes tag })

/-- FLIT_RD_RSP (R225). -/
def execFlitRdRsp (p n : Nat) (o : RxObs) (h : FlitHdr) (tag status : Nat) (data : List Byte) (s : State) :
    Host.Outcome State Fault Refusal :=
  .next (s.rxFlit p n o { h := h, p := .rdRsp tag status data })

/-- FLIT_SIG (R108, R225). -/
def execFlitSig (p n : Nat) (o : RxObs) (h : FlitHdr) (addr value : Nat) (write : Bool) (s : State) :
    Host.Outcome State Fault Refusal :=
  .next (s.rxFlit p n o { h := h, p := .sig addr value write })

/-- FLIT_ACK_E2E (R226). -/
def execFlitAckE2e (p n : Nat) (o : RxObs) (h : FlitHdr) (tag status : Nat) (s : State) : Host.Outcome State Fault Refusal :=
  .next (s.rxFlit p n o { h := h, p := .ackE2e tag status })

/-- FLIT_COLL_DATA (R83, R132). -/
def execFlitCollData (p n : Nat) (o : RxObs) (h : FlitHdr) (c : CollHdr) (data : List Byte) (s : State) :
    Host.Outcome State Fault Refusal :=
  .next (s.rxFlit p n o { h := h, p := .collData c data })

/-- FLIT_COLL_CREDIT (R83). -/
def execFlitCollCredit (p n : Nat) (o : RxObs) (h : FlitHdr) (tag rank credits : Nat) (s : State) :
    Host.Outcome State Fault Refusal :=
  .next (s.rxFlit p n o { h := h, p := .collCredit tag rank credits })

/-- FLIT_COLL_ABORT (R132, R384). -/
def execFlitCollAbort (p n : Nat) (o : RxObs) (h : FlitHdr) (tag cause : Nat) (absent : List Nat) (s : State) :
    Host.Outcome State Fault Refusal :=
  .next (s.rxFlit p n o { h := h, p := .collAbort tag cause absent })

/-- FLIT_MGMT (R225, R517). -/
def execFlitMgmt (p n : Nat) (o : RxObs) (h : FlitHdr) (m : MgMsg) (s : State) : Host.Outcome State Fault Refusal :=
  .next (s.rxFlit p n o { h := h, p := .mgmt m })

/-- FLIT_RESUME (R236). -/
def execFlitResume (p n : Nat) (o : RxObs) (h : FlitHdr) (bundle seq : Nat) (reply : Bool) (s : State) :
    Host.Outcome State Fault Refusal :=
  .next (s.rxFlit p n o { h := h, p := .resume bundle seq reply })

/-- FLIT_IDLE (R225). -/
def execFlitIdle (p n : Nat) (o : RxObs) (h : FlitHdr) (s : State) : Host.Outcome State Fault Refusal :=
  .next (s.rxFlit p n o { h := h, p := .idle })

/-- FLIT_ACK (R230): entries of bundle and highest in-order SEQ. -/
def execFlitAck (p n : Nat) (o : RxObs) (h : FlitHdr) (entries : List (Nat × Nat)) (s : State) : Host.Outcome State Fault Refusal :=
  .next (s.rxFlit p n o { h := h, p := .ack entries })

/-- FLIT_NAK (R230): entries of bundle and first missing SEQ. -/
def execFlitNak (p n : Nat) (o : RxObs) (h : FlitHdr) (entries : List (Nat × Nat)) (s : State) : Host.Outcome State Fault Refusal :=
  .next (s.rxFlit p n o { h := h, p := .nak entries })

/-- FLIT_CREDIT (R225): credits per class and VC. -/
def execFlitCredit (p n : Nat) (o : RxObs) (h : FlitHdr) (credits : List Nat) (s : State) : Host.Outcome State Fault Refusal :=
  .next (s.rxFlit p n o { h := h, p := .credit credits })

/-- FLIT_HEARTBEAT (R232, Table 8.4). -/
def execFlitHeartbeat (p n : Nat) (o : RxObs) (h : FlitHdr) (chip port lane bundle tick seq : Nat) (s : State) :
    Host.Outcome State Fault Refusal :=
  .next (s.rxFlit p n o { h := h, p := .heartbeat chip port lane bundle tick seq })

/-- FLIT_YOYO (R357). -/
def execFlitYoyo (p n : Nat) (o : RxObs) (h : FlitHdr) (y : Yoyo) (s : State) : Host.Outcome State Fault Refusal :=
  .next (s.rxFlit p n o { h := h, p := .yoyo y })

/-- FLIT_TIME (R313). -/
def execFlitTime (p n : Nat) (o : RxObs) (h : FlitHdr) (t : TimeMsg) (arr : Nat) (s : State) : Host.Outcome State Fault Refusal :=
  .next (s.rxFlit p n o { h := h, p := .time t } arr)

/-- FLIT_TRAIN (R234). -/
def execFlitTrain (p n : Nat) (o : RxObs) (h : FlitHdr) (t : TrainMsg) (arr : Nat) (s : State) : Host.Outcome State Fault Refusal :=
  .next (s.rxFlit p n o { h := h, p := .train t } arr)

/-- LANE_CTRL_ADD (R235): a lane pair, as the sender numbers it, joins. -/
def execLaneCtrlAdd (p n : Nat) (o : RxObs) (h : FlitHdr) (bundle port lane eff : Nat) (s : State) : Host.Outcome State Fault Refusal :=
  .next (s.rxFlit p n o { h := h, p := .laneCtrl { op := 0, bundle := bundle, port := port, lane := lane, eff := eff } })

/-- LANE_CTRL_REMOVE (R235): a lane pair leaves. -/
def execLaneCtrlRemove (p n : Nat) (o : RxObs) (h : FlitHdr) (bundle port lane eff : Nat) (s : State) :
    Host.Outcome State Fault Refusal :=
  .next (s.rxFlit p n o { h := h, p := .laneCtrl { op := 1, bundle := bundle, port := port, lane := lane, eff := eff } })

/-- LANE_CTRL_REPLACE (R233): the SPARE lane takes a failed lane's place. -/
def execLaneCtrlReplace (p n : Nat) (o : RxObs) (h : FlitHdr) (bundle port lane repl eff : Nat) (s : State) :
    Host.Outcome State Fault Refusal :=
  .next (s.rxFlit p n o { h := h, p := .laneCtrl { op := 2, bundle := bundle, port := port, lane := lane, repl := repl, eff := eff } })

/-- RING_NOTICE (R290): `port` is the recipient's. -/
def execRingNotice (p n : Nat) (o : RxObs) (h : FlitHdr) (bundle port cause : Nat) (s : State) : Host.Outcome State Fault Refusal :=
  .next (s.rxFlit p n o { h := h, p := .laneCtrl { op := 3, bundle := bundle, port := port, cause := cause } })

/-- RING_ALIGNED (R272). -/
def execRingAligned (p n : Nat) (o : RxObs) (h : FlitHdr) (bundle port : Nat) (s : State) : Host.Outcome State Fault Refusal :=
  .next (s.rxFlit p n o { h := h, p := .laneCtrl { op := 4, bundle := bundle, port := port } })

end Sys2Proof.Machine
end

