-- ==== Sys2Proof/Machine/Tick.lean ====
section
/-! DEFINITION. The tick edge (R25, R26, Table 1.4): the time base advances, the observations of the tick that ends reach their
registers, and the loops that hardware runs each tick take their turn. -/
namespace Sys2Proof.Machine

/-! ### Occupancy and saturation (R150, R151, R155) -/

/-- Bytes that a port moves in 10 µs at its bandwidth (Table 5.2). -/
def portCap (pg : Page) (port : Nat) : Nat :=
  match pg with
  | .eng _ _ _ _ => 7616000
  | .core _ _ _ =>
    if port = 0 then 3584000 else if port ≤ 4 then 28672000 else if port ≤ 6 then 14336000 else 7168000
  | .cluster _ _ => if port % 16 ≤ 9 then 10000000 else 20000000
  | .dn _ =>
    if port % 64 ≤ 3 then 57344000 else if port % 64 ≤ 9 then 20480000 else if port % 64 ≤ 25 then 2560000 else 1280000
  | _ => 100000000

/-- The port, by XP_SEL, of the cluster memory slice that holds the byte at an offset of a cluster's memory (R143). -/
def clusterSlice (o : Nat) : Nat := 11 + o / 1024 % 4

/-- The registers of a port window: occupancy, bytes, stalls of the last tick and in all; their bank for class `cls` of a port. -/
structure PortRegs where
  occ : Nat
  busy : Nat
  last : Nat
  tot : Nat
  deriving DecidableEq, Repr

def portRegs : Page → Option PortRegs
  | .eng _ _ _ _ => some ⟨Eng.ENG_OCC.off, Eng.ENG_BUSY_TOT.off, Eng.ENG_STALL_LAST.off, Eng.ENG_STALL_TOT.off⟩
  | .core _ _ _ => some ⟨Cor.PORT_OCC.off, Cor.PORT_BUSY_TOT.off, Cor.PORT_STALL_LAST.off, Cor.PORT_STALL_TOT.off⟩
  | .cluster _ _ => some ⟨Cl.XP_OCC.off, Cl.XP_BUSY_TOT.off, Cl.XP_STALL_LAST.off, Cl.XP_STALL_TOT.off⟩
  | .dn _ => some ⟨Dn.DN_OCC.off, Dn.DN_BUSY_TOT.off, Dn.DN_STALL_LAST.off, Dn.DN_STALL_TOT.off⟩
  | .br _ => some ⟨Br.BR_OCC.off, Br.BR_BUSY_TOT.off, Br.BR_STALL_LAST.off, Br.BR_STALL_TOT.off⟩
  | _ => none

/-- The step from one class to the next in a page's selector: CLS is DN_SEL[9:8] and BR_SEL[2:1] (Tables 5.10 and 5.11). -/
def classStep : Page → Nat
  | .dn _ => 256
  | _ => 2

/-- Items of the events of R151: level, unit path, port, direction and occupancy. The cluster bypass ports of the die network and the
bypass read port of cluster memory have one direction only, which reads 0. -/
def satItems (pg : Page) (port occ : Nat) : List Item :=
  let (level, path, n, dir) := match pg with
    | .eng d c p e => (1, upathEngine d c p e, 0, 0)
    | .core d c p => (2, upathCore d c p, port, 0)
    | .cluster d c => (3, upathCluster d c, port % 16, if port % 16 = 15 then 0 else port / 16)
    | .dn d => (4, upathDie d, port % 64, if port % 64 ≤ 3 then 0 else port / 64)
    | .br d => (5, upathDie d, 0, port)
    | _ => (0, 0, 0, 0)
  [(2, level), (2, path), (1, n), (1, dir), (2, occ)]

/-- The saturation maps that show a port's SAT (Tables 5.6, 5.8, 5.9 and 5.10). -/
def State.satMap (s : State) (pg : Page) (port : Nat) (on : Bool) : State :=
  let put := fun (s : State) (f : Fld) (n : Nat) => s.setFld pg (f.sub n n) (bool01 on)
  match pg with
  | .core _ _ _ => put s Cor.CORE_SAT_MAP port
  | .cluster _ _ =>
    let s := put s Cl.XP_SAT_MAP port
    s.setFld pg Cl.STATUS_CL_SAT (bool01 (s.fld pg Cl.XP_SAT_MAP != 0))
  | .dn _ => if port < 64 then put s Dn.DN_SAT_MAP0 port else put s Dn.DN_SAT_MAP1 (port - 64)
  | _ => s

/-- Add to a total that counts in units, keeping what is below one unit. -/
def State.unitCount (s : State) (pg : Page) (off bank n unit sub : Nat) : State :=
  let k := 2 * regKey pg off bank + sub
  let all := smGet (fun _ => 0) s.portCnt k + n
  ({ s with portCnt := smSet (fun _ => 0) s.portCnt k (all % unit) }).bumpBy pg ⟨off, 31, 0⟩ (all / unit) bank

/-- A monitored port at an edge: the bytes of the tick that ends and its stalled cycles by class. The bridge has SAT and its events for
the outbound direction only (Table 5.11). -/
def State.portEdge (s : State) (pg : Page) (port bytes : Nat) (stalls : List Nat) : State :=
  match portRegs pg with
  | none => s
  | some r =>
    let cap := portCap pg port
    let occ := min 1024 (1024 * bytes / cap)
    let above := decide (cap * 9 < bytes * 10)
    let f : Fld := ⟨r.occ, 31, 0⟩
    let run := if above then min 2047 (s.fld pg (f.sub 22 12) port + 1) else 0
    let sat := s.fld pg (f.sub 31 31) port == 1
    let silent := match pg with | .br _ => port == 1 | _ => false
    let sat' := !silent && above && (sat || decide (100 ≤ run))
    let s := s.setFld pg f (occ + run * 4096 + bool01 sat' * 2 ^ 31) port
    let s := s.unitCount pg r.busy port bytes 65536 0
    let s := s.each stalls.zipIdx (fun e s =>
      let bank := port + classStep pg * e.2
      (s.setFld pg ⟨r.last, 15, 0⟩ (min 65535 e.1) bank).unitCount pg r.tot bank e.1 1024 1)
    if sat' == sat then s
    else (s.satMap pg port sat').event (if sat' then 0x1130 else 0x1131) 0 (satItems pg port occ)

/-- Ports that show a figure of the last tick. -/
def State.portsShown (s : State) : List (Nat × Nat) :=
  (s.regs.filterMap (fun e =>
    let a := regAddr e.1
    match Page.ofBase (a / 4096 * 4096) with
    | some pg =>
      match portRegs pg with
      | some r =>
        if a % 4096 = r.occ then some (pg.base, regBank e.1)
        else if a % 4096 = r.last then
          some (pg.base, match pg with | .dn _ => regBank e.1 % 256 | .br _ => regBank e.1 % 2 | _ => regBank e.1)
        else none
      | none => none
    | none => none)).eraseDups

/-- The monitored ports at an edge (R150, R155, R156): those observed, and those that show a figure and moved nothing. -/
def State.portsEdge (s : State) (o : TickObs) : State :=
  let engs : List PortObs := o.engs.map (fun x => { page := (Page.eng x.d x.c x.p x.e).base, port := 0, bytes := x.bytes, stalls := [x.stall] })
  let seen := o.ports ++ engs
  let idle := s.portsShown.filter (fun e => !seen.any (fun x => x.page == e.1 && x.port == e.2))
  let classes := fun (pg : Page) => match pg with | .dn _ => 4 | .br _ => 4 | _ => 1
  let s := s.each idle (fun e s =>
    match Page.ofBase e.1 with
    | some pg => s.portEdge pg e.2 0 (List.replicate (classes pg) 0)
    | none => s)
  let s := s.each seen (fun x s =>
    match Page.ofBase x.page with
    | some pg => s.portEdge pg x.port x.bytes x.stalls
    | none => s)
  s.each o.engs (fun x s => s.bumpBy (.eng x.d x.c x.p x.e) Eng.ENG_TILES x.tiles)

/-! ### Cores, near-memory units and lanes over the tick that ends -/

/-- A physical core (Table 5.6, R428). -/
def State.coreEdge (s : State) (o : TickObs) (cl p : Nat) : State :=
  let d := cl / 4
  let c := cl % 4
  let k := d * 64 + c * 16 + p
  let pg := Page.core d c p
  let x : CoreX := tGet s.cores k
  let b : CoreObs := (o.cores.find? (fun b => b.d == d && b.c == c && b.p == p)).getD {}
  let hung := (List.range 4).filter (fun e => o.engs.any (fun y => y.d == d && y.c == c && y.p == p && y.e == e && y.hung))
  let all := x.stallRem + b.slot + b.unit + b.hazard + b.block
  let s := s.setFld pg (Cor.ISSUE_LAST.sub 15 0) (min 65535 x.issued)
  let s := s.setFld pg (Cor.STALL_SLOT.sub 15 0) (min 65535 b.slot)
  let s := s.setFld pg (Cor.STALL_UNIT.sub 15 0) (min 65535 b.unit)
  let s := s.setFld pg (Cor.STALL_HAZARD.sub 15 0) (min 65535 b.hazard)
  let s := s.setFld pg (Cor.STALL_BLOCK.sub 15 0) (min 65535 b.block)
  let s := s.bumpBy pg Cor.STALL_TOT (all / 1024)
  { s with cores := tSet s.cores k { x with issued := 0, stallRem := all % 1024, probeMiss := if b.dead then x.probeMiss + 1 else 0,
                                            engIdle := hung.map (fun e => (e, smGet (fun _ => 0) x.engIdle e + 1)) } }

/-- Ticks that each NMU has made no progress (R428). -/
def State.nmuEdge (s : State) (idle : List Nat) : State :=
  s.each (List.range 12) (fun k s =>
    let x := s.nmuSt k
    s.setNmu k { x with idle := if idle.contains k then x.idle + 1 else 0 })

/-- Steers of a lane in the tick that ends (Table 9.12). -/
def State.steersEdge (s : State) (p n : Nat) : State :=
  let x := s.laneX p n
  let b := (p - 8) % 8 + n * 16
  let all := x.steerRem + x.steers
  let s := s.setFld (.kal (ringEng p)) (Kal.KAL_STEERS_LAST.sub 15 0) x.steers b
  let s := s.bumpBy (.kal (ringEng p)) Kal.KAL_STEERS_TOT (all / 1024) b
  s.modLane p n (fun x => { x with steers := 0, steerRem := all % 1024 })

/-- Health of a lane at an edge (R232, R302): its codewords of the tick that ends, and the two thresholds. -/
def State.laneEdge (s : State) (o : TickObs) (p n : Nat) : State :=
  let seen := o.lanes.find? (fun b => b.p == p && b.n == n)
  let b : LaneObs := seen.getD {}
  let s := s.setFld (.lan p) Lan.FEC_CORR_LAST b.corr n
  let s := s.setFld (.lan p) Lan.FEC_UNC_LAST b.unc n
  let s := (s.unitCount (.lan p) Lan.FEC_CORR_TOT.off n b.corr 1024 0).bumpBy (.lan p) Lan.FEC_UNC_TOT b.unc n
  let s := match seen with | some b => s.laneFigures b | none => s
  let hi := if s.fld (.lan p) Lan.THR_SYM < b.corr then (s.laneX p n).hi + 1 else 0
  let s := s.modLane p n (fun x => { x with hi := hi })
  let s := if copper p then s else s.steersEdge p n
  let live := s.laneSt p n = 2 || s.laneSt p n = 3
  if live && s.fld (.lan p) Lan.THR_UNC ≤ b.unc then s.laneFault p n causeUnc
  else if live && 2 ≤ hi then (s.modLane p n (fun x => { x with hi := 0 })).laneFault p n causeSym
  else s

/-! ### Power and heat -/

/-- Telemetry of the input, the rails and the sensors (Table 18.15), the ramp limit (R340) and the ticks under a cap (R504). -/
def State.powerEdge (s : State) (o : TickObs) : State :=
  let s := (s.setFld .pwr Pwr.VIN o.vin).setFld .pwr Pwr.IIN o.iin
  let s := s.setFld .pwr Pwr.PIN_TICK o.pin
  let s := (s.setFld .pwr Pwr.PIN_10MS o.pin10).setFld .pwr Pwr.PIN_1S o.pin1s
  let j := s.mod_.joules + o.joule
  let s := s.bumpBy .pwr Pwr.ENERGY_KJ (j / 1000)
  let s := s.each o.rails (fun r s => (s.setFld .pwr Pwr.RAIL_V r.2.1 r.1).setFld .pwr Pwr.RAIL_I r.2.2 r.1)
  let s := s.setFld .pwr (Pwr.FLOW.sub 15 0) o.flow
  let s := s.each o.temps (fun e s => s.sensor e.1 e.2)
  let ramp := s.partsHeld.any (fun p => s.fld .part Par.PART_STATUS_RAMP p == 1 && decide (s.rampLimit p ≤ o.iin))
  let s := { s with mod_ := { s.mod_ with joules := j % 1000, capTicks := s.mod_.capTicks + 1, rampHold := ramp } }
  if s.mod_.capHold then s.bump .pwr Pwr.CAP_STALL else s

/-! ### Optics -/

/-- The optical engines and the copper trims at an edge (R279–R283, R287, R294–R298, R300). -/
def State.opticsEdge (s : State) (o : TickObs) : State :=
  let s := s.each o.engTemps (fun e s => s.engTemp e.1 e.2)
  let s := s.each (List.range 3) (fun e s => (((s.laserEdge e o.lasers).switchDefer e).ringsEdge e o.rings).calEdge e o.cals)
  let s := s.each (List.range 3) (fun e s => if (s.eng e).mon = 1 && s.fld64 (.mon e) Mon.MON_TICK_LO ≤ s.tick then s.monRun e else s)
  let s := s.rxMargins o.rings
  match o.copperTemp with | some t => s.trimEdge t | none => s

/-! ### Heartbeats (Table 8.4) -/

/-- The HEARTBEAT of a channel that carries bundle `b`. -/
def State.heartbeat (s : State) (p n lane b : Nat) : State :=
  s.emit (.flit p n { h := s.laneHdr p n,
                      p := .heartbeat s.chip p lane b s.tick (((s.bundle b).rxNext + 65535) % 65536) })

/-- HEARTBEATs at edge + 1 µs (R232, R255): on ACTIVE and SPARE copper lanes, and on every lit ring channel that does not train, in a
switchover and before RING_ALIGNED too. -/
def State.heartbeats (s : State) : State :=
  let s := s.each (List.range 8) (fun p s => s.each (laneIds p) (fun n s =>
    if s.laneSt p n = 2 || s.laneSt p n = 3 then s.heartbeat p n n (s.laneBundle p n) else s))
  s.each (List.range 24) (fun i s => s.each (List.range 12) (fun r s =>
    let p := i + 8
    if s.ringF p r Rng.RING_STATE_ON_LINE = 1 && (s.ringF p r Rng.RING_STATE_TRAINED = 1 || (s.ringX p r).replaces.isSome) then
      let l := s.ringLane p r
      s.heartbeat p (if l = 15 then 16 + r else l) (if l = 15 then 16 + r else l) (s.ringF p r Rng.RING_STATE_BUNDLE)
    else s))

/-! ### The edge -/

/-- What the observations of the tick that ends leave in registers and counters. -/
def State.measureEdge (s : State) (o : TickObs) : State :=
  let s := if o.ovf = 0 then s
    else { s.bumpBy .flip Rec.REC_OVF o.ovf with flip := { s.flip with lostSince := s.flip.lostSince + o.ovf } }
  let s := (s.powerEdge o).portsEdge o
  let s := s.each (List.range 8) (fun cl s => s.each (List.range 9) (fun p s => s.coreEdge o cl p))
  let s := s.nmuEdge o.nmuIdle
  let s := s.each (List.range 32) (fun p s => s.each (laneIds p) (fun n s => s.laneEdge o p n))
  s.opticsEdge o

/-- What acts at the edge itself, in the order of R261, R340, R354 and Table 1.7: plans, epochs, partitions, bindings, the scan. -/
def State.actEdge (s : State) : State :=
  let s := if s.fld .fab Fab.PLAN_STATUS_STATE = 1 && planBits s.plan.next 8 8 ≤ s.tick then s.planActivate else s
  let s := s.each ((List.range 24).map (· + 8)) (fun p s => s.portStart p)
  let s := s.heldEdge.retrainEdge.epochEdge.partRunEdge
  let s := s.each s.partsHeld (fun p s => s.partDrainEdge p)
  let s := s.ftEdge.bindEdge.lineEdge.launchScan
  let s := s.tickwEdge.foldWaitEdge
  s.each s.partsHeld (fun p s => if s.partState p = 3 then s.stepActions p else s)

/-- What a tick sends: heartbeats and YOYOs at edge + 1 µs, TIME flits, and the collectives' flits that have become possible. -/
def State.sendEdge (s : State) : State := s.heartbeats.yoyoEdge.timeSend.flushAll.collPumpAll

/-- Ticks without transit (R523), and the records' REPEAT (R470). -/
def State.closeEdge (s : State) : State :=
  let m := s.mod_
  ({ s with mod_ := { m with idleTransit := if m.transit then 0 else m.idleTransit + 1, transit := false } }).streamRep

/-- What happens at a tick edge, in order: the measurements of the tick that ends, what acts at the edge, what the edge sends. -/
def State.edgeWork (s : State) (o : TickObs) : State :=
  ((((s.timeEdge.measureEdge o).actEdge).sendEdge).fwEdge o).closeEdge

/-- The tick edge (R25, R26). -/
def State.tickEdge (s : State) (o : TickObs) : State :=
  if s.timeAdvance.2 then s.timeAdvance.1.edgeWork o else s.timeAdvance.1

/-- TICK_EDGE (R25): the time base reaches the next boundary; `o` is what the parts that the model does not follow have measured. -/
def execTickEdge (o : TickObs) (s : State) : Host.Outcome State Fault Refusal := .next (if s.mod_.stby then s.tickEdge o else s)

end Sys2Proof.Machine
end

