-- ==== Sys2Proof/Machine/Elem.lean ====
section
/-! DEFINITION. The correctly rounded functions of Table 4.7 (R121, R122): rational interval enclosures refined until
both ends round to one FP32 value. -/
namespace Sys2Proof.Machine

/-- An enclosure `[lo, hi] / 2^F` of a real number; the scale `F` is carried beside it. -/
structure Iv where
  lo : Int
  hi : Int
  deriving DecidableEq, Repr, Inhabited

/-- The enclosure of a fraction. -/
def ivFrac (F : Nat) (neg : Bool) (n d : Nat) : Iv :=
  let x : Int := ((n * 2 ^ F : Nat) : Int)
  let x := if neg then -x else x
  ⟨Int.fdiv x d, -(Int.fdiv (-x) d)⟩

def ivInt (F : Nat) (n : Int) : Iv := ⟨n * 2 ^ F, n * 2 ^ F⟩
def ivAdd (a b : Iv) : Iv := ⟨a.lo + b.lo, a.hi + b.hi⟩
def ivNeg (a : Iv) : Iv := ⟨-a.hi, -a.lo⟩
def ivSub (a b : Iv) : Iv := ivAdd a (ivNeg b)

/-- Product, rounded outwards. -/
def ivMul (F : Nat) (a b : Iv) : Iv :=
  let p := [a.lo * b.lo, a.lo * b.hi, a.hi * b.lo, a.hi * b.hi]
  let lo := p.foldl min (a.lo * b.lo)
  let hi := p.foldl max (a.lo * b.lo)
  ⟨Int.fdiv lo (2 ^ F), -(Int.fdiv (-hi) (2 ^ F))⟩

/-- Division by a positive natural number, rounded outwards. -/
def ivDivNat (a : Iv) (n : Nat) : Iv := ⟨Int.fdiv a.lo n, -(Int.fdiv (-a.hi) n)⟩

/-- Reciprocal of an enclosure that lies above 0, rounded outwards. -/
def ivRecip (F : Nat) (a : Iv) : Iv :=
  ⟨Int.fdiv (2 ^ (2 * F)) a.hi, -(Int.fdiv (-(2 ^ (2 * F))) a.lo)⟩

/-- `a` widened by `e` units of the last place. -/
def ivWiden (a : Iv) (e : Int) : Iv := ⟨a.lo - e, a.hi + e⟩

/-- Σ of `n` terms, each the one before times `x / step k`: the series of exp, sin, cos and their kin. -/
def ivSeries (F : Nat) (x : Iv) (step : Nat → Nat) (alt : Bool) : Nat → Nat → Iv → Iv → Iv
  | 0, _, t, acc => ivWiden (ivAdd acc t) 4
  | n + 1, k, t, acc =>
    let t' := ivDivNat (ivMul F t x) (step k)
    ivSeries F x step alt n (k + 1) (if alt then ivNeg t' else t') (ivAdd acc t)

/-- Repeated squaring. -/
def ivSquares (F : Nat) : Nat → Iv → Iv
  | 0, a => a
  | n + 1, a => ivSquares F n (ivMul F a a)

/-- e^x for x ≥ 0, at most about 2^8. -/
def ivExpPos (F : Nat) (x : Iv) : Iv :=
  let r := ivDivNat x 4096
  let e := ivSeries F r (fun k => k) false (F / 6 + 8) 1 (ivInt F 1) ⟨0, 0⟩
  ivSquares F 12 e

/-- e^x. -/
def ivExp (F : Nat) (x : Iv) : Iv :=
  if 0 ≤ x.lo then ivExpPos F x
  else if x.hi ≤ 0 then ivRecip F (ivExpPos F (ivNeg x))
  else ⟨(ivRecip F (ivExpPos F ⟨0, -x.lo⟩)).lo, (ivExpPos F ⟨0, x.hi⟩).hi⟩

/-- Σ z^(2i+1) / (2i+1), with alternating signs for the arc tangent. -/
def ivAtanGo (F : Nat) (z2 : Iv) (alt : Bool) : Nat → Nat → Iv → Iv → Iv
  | 0, _, _, acc => ivWiden acc 4
  | n + 1, i, p, acc =>
    let t := ivDivNat p (2 * i + 1)
    ivAtanGo F z2 alt n (i + 1) (if alt then ivNeg (ivMul F p z2) else ivMul F p z2) (ivAdd acc t)

/-- atanh z for |z| ≤ 1/3. -/
def ivAtanh (F : Nat) (z : Iv) : Iv := ivAtanGo F (ivMul F z z) false (F / 3 + 8) 0 z ⟨0, 0⟩

/-- atan z for |z| ≤ 1/5. -/
def ivAtan (F : Nat) (z : Iv) : Iv := ivAtanGo F (ivMul F z z) true (F / 4 + 8) 0 z ⟨0, 0⟩

/-- ln 2 = 2 atanh (1/3). -/
def ivLn2 (F : Nat) : Iv := let a := ivAtanh F (ivFrac F false 1 3); ivAdd a a

/-- π = 16 atan (1/5) − 4 atan (1/239). -/
def ivPi (F : Nat) : Iv :=
  let a := ivAtan F (ivFrac F false 1 5)
  let b := ivAtan F (ivFrac F false 1 239)
  ivSub ⟨16 * a.lo, 16 * a.hi⟩ ⟨4 * b.lo, 4 * b.hi⟩

/-- ln (n / d) of a positive fraction. -/
def ivLn (F n d : Nat) : Iv :=
  let e := log2Frac n d
  let (m, k) := scaleFrac n d (-e)
  -- m / k lies in [1, 2); above 4/3 it is halved
  let (m, k, e) := if 4 * k < 3 * m then (m, 2 * k, e + 1) else (m, k, e)
  let z := ivFrac F (decide (m < k)) ((m : Int) - k).natAbs (m + k)
  let a := ivAtanh F z
  let l2 := ivLn2 F
  let el : Iv := if 0 ≤ e then ⟨e * l2.lo, e * l2.hi⟩ else ⟨e * l2.hi, e * l2.lo⟩
  ivAdd (ivAdd a a) el

/-- sin r and cos r for |r| ≤ 1. -/
def ivSinCos (F : Nat) (r : Iv) : Iv × Iv :=
  let r2 := ivMul F r r
  (ivSeries F r2 (fun k => (2 * k) * (2 * k + 1)) true (F / 8 + 8) 1 r ⟨0, 0⟩,
   ivSeries F r2 (fun k => (2 * k - 1) * (2 * k)) true (F / 8 + 8) 1 (ivInt F 1) ⟨0, 0⟩)

/-- sin x, or cos x with `cosine`, of a fraction: reduction by the exact multiple of π/2. -/
def ivTrig (F : Nat) (cosine neg : Bool) (n d : Nat) : Iv :=
  let x := ivFrac F neg n d
  let hp := ivDivNat (ivPi F) 2
  let k := Int.fdiv (2 * x.lo + hp.lo) (2 * hp.lo)
  let kp : Iv := if 0 ≤ k then ⟨k * hp.lo, k * hp.hi⟩ else ⟨k * hp.hi, k * hp.lo⟩
  let (s, c) := ivSinCos F (ivSub x kp)
  let q := ((k + (if cosine then 1 else 0)) % 4).toNat
  if q = 0 then s else if q = 1 then c else if q = 2 then ivNeg s else ivNeg c

/-- The series of erf: Σ (−1)^i x^(2i+1) / (i! (2i+1)); `p` is x^(2i+1) / i!. -/
def ivErfGo (F : Nat) (x2 : Iv) : Nat → Nat → Iv → Iv → Iv
  | 0, _, _, acc => ivWiden acc 4
  | n + 1, i, p, acc =>
    ivErfGo F x2 n (i + 1) (ivNeg (ivDivNat (ivMul F p x2) (i + 1))) (ivAdd acc (ivDivNat p (2 * i + 1)))

/-- Square root of an enclosure that lies above 0. -/
def ivSqrt (F : Nat) (a : Iv) : Iv :=
  ⟨(isqrt (a.lo.toNat * 2 ^ F) : Int), (isqrt (a.hi.toNat * 2 ^ F) : Int) + 1⟩

/-- erf x for |x| < 4. -/
def ivErf (F : Nat) (x : Iv) : Iv :=
  let s := ivErfGo F (ivMul F x x) (F / 2 + 64) 0 x ⟨0, 0⟩
  let c := ivRecip F (ivSqrt F (ivPi F))
  ivMul F (ivAdd s s) c

/-- tanh x = 1 − 2 / (e^(2x) + 1). -/
def ivTanh (F : Nat) (x : Iv) : Iv :=
  let e := ivExp F (ivAdd x x)
  let r := ivRecip F (ivAdd e (ivInt F 1))
  ivSub (ivInt F 1) (ivAdd r r)

/-- The FP32 value both ends of an enclosure round to, if they do; a result of 0 takes no sign from here. -/
def ivRound (F : Nat) (a : Iv) : Option Nat :=
  let lo := rne32 (.fin (decide (a.lo < 0)) a.lo.natAbs (2 ^ F))
  let hi := rne32 (.fin (decide (a.hi < 0)) a.hi.natAbs (2 ^ F))
  if lo = hi then some lo else none

/-- Refine an enclosure through scales until it decides the rounding (R121). -/
def crWith (sub : Nat) (b : Nat) (f : Nat → Iv) : Nat :=
  match ivRound 320 (f 320) with
  | some r => r
  | none => match ivRound 640 (f 640) with
    | some r => r
    | none => match ivRound 1280 (f 1280) with
      | some r => r
      | none => (Config.undecidedRounding sub (BitVec.ofNat 32 b)).toNat

/-- EXP (R122). -/
def f32Exp (b : Nat) : Nat :=
  match f32Val b with
  | .nan => f32NaN
  | .inf s => if s then 0 else 0x7F800000
  | .fin s n d =>
    if n = 0 then 0x3F800000
    else if 128 * d < n then (if s then 0 else 0x7F800000)
    else crWith 8 b (fun F => ivExp F (ivFrac F s n d))

/-- EXP2 (R122). -/
def f32Exp2 (b : Nat) : Nat :=
  match f32Val b with
  | .nan => f32NaN
  | .inf s => if s then 0 else 0x7F800000
  | .fin s n d =>
    if n = 0 then 0x3F800000
    else if 256 * d < n then (if s then 0 else 0x7F800000)
    else if n % d = 0 then rne32 (Val.dyadic false 1 (if s then -((n / d : Nat) : Int) else ((n / d : Nat) : Int)))
    else crWith 9 b (fun F => ivExp F (ivMul F (ivLn2 F) (ivFrac F s n d)))

/-- LOG (R122). -/
def f32Log (b : Nat) : Nat :=
  match f32Val b with
  | .nan => f32NaN
  | .inf s => if s then f32NaN else 0x7F800000
  | .fin s n d =>
    if n = 0 then 0xFF800000 else if s then f32NaN else if n = d then 0
    else crWith 10 b (fun F => ivLn F n d)

/-- LOG2 (R122). -/
def f32Log2 (b : Nat) : Nat :=
  match f32Val b with
  | .nan => f32NaN
  | .inf s => if s then f32NaN else 0x7F800000
  | .fin s n d =>
    if n = 0 then 0xFF800000 else if s then f32NaN
    else
      let e := log2Frac n d
      let (m, k) := scaleFrac n d (-e)
      if m = k then rne32 (Val.ofIntExp e 0)
      else crWith 11 b (fun F => ivMul F (ivLn F n d) (ivRecip F (ivLn2 F)))

/-- TANH (R122). -/
def f32Tanh (b : Nat) : Nat :=
  match f32Val b with
  | .nan => f32NaN
  | .inf s => if s then 0xBF800000 else 0x3F800000
  | .fin s n d =>
    if n = 0 then b
    else if 16 * d < n then (if s then 0xBF800000 else 0x3F800000)
    else crWith 12 b (fun F => ivTanh F (ivFrac F s n d))

/-- ERF (R122). -/
def f32Erf (b : Nat) : Nat :=
  match f32Val b with
  | .nan => f32NaN
  | .inf s => if s then 0xBF800000 else 0x3F800000
  | .fin s n d =>
    if n = 0 then b
    else if 4 * d < n then (if s then 0xBF800000 else 0x3F800000)
    else crWith 13 b (fun F => ivErf F (ivFrac F s n d))

/-- SIN (R122). -/
def f32Sin (b : Nat) : Nat :=
  match f32Val b with
  | .nan => f32NaN
  | .inf _ => f32NaN
  | .fin s n d => if n = 0 then b else crWith 14 b (fun F => ivTrig F false s n d)

/-- COS (R122). -/
def f32Cos (b : Nat) : Nat :=
  match f32Val b with
  | .nan => f32NaN
  | .inf _ => f32NaN
  | .fin s n d => if n = 0 then 0x3F800000 else crWith 15 b (fun F => ivTrig F true s n d)

/-- Change the sign bit. -/
def f32Neg (b : Nat) : Nat := if f32IsNaN b then f32NaN else (if 0x80000000 ≤ b then b - 0x80000000 else b + 0x80000000)

/-- SIGMOID by the sequence of Table 4.7. -/
def f32Sigmoid (x : Nat) : Nat := f32Recip (f32Add 0x3F800000 (f32Exp (f32Neg x)))

/-- SILU by the sequence of Table 4.7. -/
def f32Silu (x : Nat) : Nat := f32Mul x (f32Sigmoid x)

/-- GELU_TANH by the sequence of Table 4.7; the constants are the FP32 values nearest to 0.044715 and 0.7978846. -/
def f32GeluTanh (x : Nat) : Nat :=
  let u := f32Mul (f32Mul x x) x
  let u := f32Add x (f32Mul (rne32 (.fin false 44715 1000000)) u)
  let t := f32Tanh (f32Mul (rne32 (.fin false 7978846 10000000)) u)
  let h := f32Mul 0x3F000000 x
  f32Add h (f32Mul h t)

/-- GELU_ERF by the sequence of Table 4.7. -/
def f32GeluErf (x : Nat) : Nat :=
  let h := f32Mul 0x3F000000 x
  f32Add h (f32Mul h (f32Erf (f32Mul x (rne32 (.fin false 70710678 100000000)))))

/-- UNARY by SUBOP (Table 4.7); a NaN input gives the canonical NaN in every row. -/
def f32Unary (sub x : Nat) : Nat :=
  if f32IsNaN x then f32NaN
  else match sub with
  | 0 => x
  | 1 => f32Neg x
  | 2 => x % 0x80000000
  | 3 => if (f32Val 0).lt (f32Val x) then x else 0
  | 4 => f32Mul x x
  | 5 => f32Recip x
  | 6 => f32Sqrt x
  | 7 => f32Rsqrt x
  | 8 => f32Exp x
  | 9 => f32Exp2 x
  | 10 => f32Log x
  | 11 => f32Log2 x
  | 12 => f32Tanh x
  | 13 => f32Erf x
  | 14 => f32Sin x
  | 15 => f32Cos x
  | 16 => f32Sigmoid x
  | 17 => f32Silu x
  | 18 => f32GeluTanh x
  | _ => f32GeluErf x

end Sys2Proof.Machine
end

