-- ==== Sys2Proof/Machine/Vector.lean ====
section
/-! DEFINITION. The vector descriptors (R121–R126): sources decoded to FP32, FP32 results rounded once into D. -/
namespace Sys2Proof.Machine

/-- A source value as FP32 bits (R121). -/
def toF32 (v : Val) : Nat := rne32 v

/-- The extents of a source against a tensor of results: equal or 1 on each axis. -/
def fits (t : Tens) (e0 e1 e2 e3 : Nat) : Bool :=
  let ok := fun a b => a == b || a == 1
  ok t.e0 e0 && ok t.e1 e1 && ok t.e2 e2 && ok t.e3 e3

/-- The slot of the first source whose extents do not fit D's. -/
def vecShape (r : Refs) : Option DF :=
  let d := r.dd.t
  let bad := fun (x : Option Tref) => x.any (fun y => !fits y.t d.e0 d.e1 d.e2 d.e3)
  if bad r.a then some { code := 3, ref := 2 } else if bad r.b then some { code := 3, ref := 3 }
  else if bad r.c then some { code := 3, ref := 4 } else none

/-- The sources that a vector descriptor has read. -/
structure Srcs where
  a : Arr := {}
  b : Arr := {}
  c : Arr := {}
  hasB : Bool := false
  hasC : Bool := false
  deriving Repr, Inhabited

/-- Read the sources that are present; an error names the slot of a bus error. -/
def State.readSrcs (s : State) (lc : Nat) (r : Refs) : State × Except Nat Srcs :=
  let ctx := s.whoOf lc
  let get := fun (s : State) (x : Option Tref) =>
    match x with
    | none => (s, some { v := [(zeroVal, false)] : Arr })
    | some y => s.readArr y ctx
  match get s r.a with
  | (s, none) => (s, .error 2)
  | (s, some a) =>
    match get s r.b with
    | (s, none) => (s, .error 3)
    | (s, some b) =>
      match get s r.c with
      | (s, none) => (s, .error 4)
      | (s, some c) => (s, .ok { a := a, b := b, c := c, hasB := r.b.isSome, hasC := r.c.isSome })

/-- The value of a source at an index, as FP32. -/
def Arr.f32 (a : Arr) (i : Nat × Nat × Nat × Nat) : Nat := toF32 (a.at_ i.1 i.2.1 i.2.2.1 i.2.2.2).1

/-- Source elements that held a reserved pattern (R44): each of them is an invalid element (R65). -/
def Srcs.rsvd (x : Srcs) : Nat := x.a.rsvd + x.b.rsvd + x.c.rsvd

/-- A vector descriptor: `res` gives the FP32 results in the element order of D. -/
def State.vecIssue (s : State) (lc : Nat) (d : Desc) (f : Form) (check : Refs → Option DF) (res : Refs → Srcs → List Nat) : State :=
  s.issue lc d { f with loc := [.vec, .vec, .vec, .vec] } 3 (fun _ _ r => check r) noEngs
    (fun s r _ =>
      match s.readSrcs lc r with
      | (s, .error n) => Eff.bus s n
      | (s, .ok x) =>
        (Eff.ofOut (s.writeOut r.dd (s.partOf lc) ((res r x).map (fun y => (f32Val y, false))) (s.whoOf lc))).plus x.rsvd)

def vecOpt : List Opt := [{ dst := true, val := true }, {}, {}, {}]

/-! ### UNARY (R122) -/

def State.unaryIssue (s : State) (lc : Nat) (d : Desc) (sub : Nat) : State :=
  s.vecIssue lc d { code := 0x30, sub := some sub, need := [2, 2, 0, 0], opt := vecOpt } vecShape
    (fun r x => r.dd.t.ix.map (fun i => f32Unary sub (x.a.f32 i)))

/-- UNARY_COPY (R122). -/
def execUnaryCopy (lc : Nat) (d : Desc) (s : State) : Host.Outcome State Fault Refusal := .next (s.unaryIssue lc d 0)

/-- UNARY_NEG (R122). -/
def execUnaryNeg (lc : Nat) (d : Desc) (s : State) : Host.Outcome State Fault Refusal := .next (s.unaryIssue lc d 1)

/-- UNARY_ABS (R122). -/
def execUnaryAbs (lc : Nat) (d : Desc) (s : State) : Host.Outcome State Fault Refusal := .next (s.unaryIssue lc d 2)

/-- UNARY_RELU (R122). -/
def execUnaryRelu (lc : Nat) (d : Desc) (s : State) : Host.Outcome State Fault Refusal := .next (s.unaryIssue lc d 3)

/-- UNARY_SQUARE (R122). -/
def execUnarySquare (lc : Nat) (d : Desc) (s : State) : Host.Outcome State Fault Refusal := .next (s.unaryIssue lc d 4)

/-- UNARY_RECIP (R122). -/
def execUnaryRecip (lc : Nat) (d : Desc) (s : State) : Host.Outcome State Fault Refusal := .next (s.unaryIssue lc d 5)

/-- UNARY_SQRT (R122). -/
def execUnarySqrt (lc : Nat) (d : Desc) (s : State) : Host.Outcome State Fault Refusal := .next (s.unaryIssue lc d 6)

/-- UNARY_RSQRT (R122). -/
def execUnaryRsqrt (lc : Nat) (d : Desc) (s : State) : Host.Outcome State Fault Refusal := .next (s.unaryIssue lc d 7)

/-- UNARY_EXP (R122). -/
def execUnaryExp (lc : Nat) (d : Desc) (s : State) : Host.Outcome State Fault Refusal := .next (s.unaryIssue lc d 8)

/-- UNARY_EXP2 (R122). -/
def execUnaryExp2 (lc : Nat) (d : Desc) (s : State) : Host.Outcome State Fault Refusal := .next (s.unaryIssue lc d 9)

/-- UNARY_LOG (R122). -/
def execUnaryLog (lc : Nat) (d : Desc) (s : State) : Host.Outcome State Fault Refusal := .next (s.unaryIssue lc d 10)

/-- UNARY_LOG2 (R122). -/
def execUnaryLog2 (lc : Nat) (d : Desc) (s : State) : Host.Outcome State Fault Refusal := .next (s.unaryIssue lc d 11)

/-- UNARY_TANH (R122). -/
def execUnaryTanh (lc : Nat) (d : Desc) (s : State) : Host.Outcome State Fault Refusal := .next (s.unaryIssue lc d 12)

/-- UNARY_ERF (R122). -/
def execUnaryErf (lc : Nat) (d : Desc) (s : State) : Host.Outcome State Fault Refusal := .next (s.unaryIssue lc d 13)

/-- UNARY_SIN (R122). -/
def execUnarySin (lc : Nat) (d : Desc) (s : State) : Host.Outcome State Fault Refusal := .next (s.unaryIssue lc d 14)

/-- UNARY_COS (R122). -/
def execUnaryCos (lc : Nat) (d : Desc) (s : State) : Host.Outcome State Fault Refusal := .next (s.unaryIssue lc d 15)

/-- UNARY_SIGMOID (R122). -/
def execUnarySigmoid (lc : Nat) (d : Desc) (s : State) : Host.Outcome State Fault Refusal := .next (s.unaryIssue lc d 16)

/-- UNARY_SILU (R122). -/
def execUnarySilu (lc : Nat) (d : Desc) (s : State) : Host.Outcome State Fault Refusal := .next (s.unaryIssue lc d 17)

/-- UNARY_GELU_TANH (R122). -/
def execUnaryGeluTanh (lc : Nat) (d : Desc) (s : State) : Host.Outcome State Fault Refusal := .next (s.unaryIssue lc d 18)

/-- UNARY_GELU_ERF (R122). -/
def execUnaryGeluErf (lc : Nat) (d : Desc) (s : State) : Host.Outcome State Fault Refusal := .next (s.unaryIssue lc d 19)

/-! ### BINARY and FMA (R123) -/

def State.binaryIssue (s : State) (lc : Nat) (d : Desc) (sub : Nat) (f : Nat → Nat → Nat) : State :=
  s.vecIssue lc d { code := 0x31, sub := some sub, need := [2, 2, 2, 0], opt := vecOpt } vecShape
    (fun r x => r.dd.t.ix.map (fun i => f (x.a.f32 i) (x.b.f32 i)))

/-- BINARY_ADD (R123): a + b. -/
def execBinaryAdd (lc : Nat) (d : Desc) (s : State) : Host.Outcome State Fault Refusal := .next (s.binaryIssue lc d 0 f32Add)

/-- BINARY_SUB (R123): a − b. -/
def execBinarySub (lc : Nat) (d : Desc) (s : State) : Host.Outcome State Fault Refusal := .next (s.binaryIssue lc d 1 f32Sub)

/-- BINARY_MUL (R123): a × b. -/
def execBinaryMul (lc : Nat) (d : Desc) (s : State) : Host.Outcome State Fault Refusal := .next (s.binaryIssue lc d 2 f32Mul)

/-- BINARY_DIV (R123): a / b. -/
def execBinaryDiv (lc : Nat) (d : Desc) (s : State) : Host.Outcome State Fault Refusal := .next (s.binaryIssue lc d 3 f32Div)

/-- BINARY_MAX (R123): the maximum. -/
def execBinaryMax (lc : Nat) (d : Desc) (s : State) : Host.Outcome State Fault Refusal := .next (s.binaryIssue lc d 4 f32Max)

/-- BINARY_MIN (R123): the minimum. -/
def execBinaryMin (lc : Nat) (d : Desc) (s : State) : Host.Outcome State Fault Refusal := .next (s.binaryIssue lc d 5 f32Min)

/-- FMA (R123): a × b + c with a single rounding. -/
def execFma (lc : Nat) (d : Desc) (s : State) : Host.Outcome State Fault Refusal :=
  .next (s.vecIssue lc d { code := 0x32, need := [2, 2, 2, 2], opt := vecOpt } vecShape
    (fun r x => r.dd.t.ix.map (fun i => f32Fma (x.a.f32 i) (x.b.f32 i) (x.c.f32 i))))

/-! ### Rows (R74, R124–R126) -/

/-- The FP32 elements of a row of A, `n` long. -/
def rowVals (a : Arr) (n : Nat) (i : Nat × Nat × Nat) : List Nat :=
  (List.range n).map (fun i0 => a.f32 (i0, i.1, i.2.1, i.2.2))

def foldRow (f : Nat → Nat → Nat) : List Nat → Nat
  | [] => 0
  | x :: t => t.foldl f (if f32IsNaN x then f32NaN else x)

/-- The lowest index of the maximum, or of a NaN (R124). -/
def argMax (l : List Nat) : Nat :=
  match l.findIdx? f32IsNaN with
  | some i => i
  | none => ((l.zipIdx).foldl (fun (m : Nat × Nat) p => if (f32Val m.1).lt (f32Val p.1) then p else m) (l.headD 0, 0)).2

/-- The extents of ROWRED: D has EXT0 = 1, and A fits D on the other axes. -/
def rowredShape (r : Refs) : Option DF :=
  let d := r.dd.t
  let a := r.aa.t
  if d.e0 ≠ 1 then some { code := 3, ref := 1 }
  else if !fits a a.e0 d.e1 d.e2 d.e3 then some { code := 3, ref := 2 } else none

def State.rowredIssue (s : State) (lc : Nat) (d : Desc) (sub : Nat) (f : List Nat → Nat) : State :=
  s.vecIssue lc d { code := 0x33, sub := some sub, need := [2, 2, 0, 0], opt := vecOpt } rowredShape
    (fun r x => r.dd.t.rowIx.map (fun i => f (rowVals x.a r.aa.t.e0 i)))

/-- ROWRED_SUM (R124, R74). -/
def execRowredSum (lc : Nat) (d : Desc) (s : State) : Host.Outcome State Fault Refusal := .next (s.rowredIssue lc d 0 f32Sum)

/-- ROWRED_MAX (R124). -/
def execRowredMax (lc : Nat) (d : Desc) (s : State) : Host.Outcome State Fault Refusal := .next (s.rowredIssue lc d 1 (foldRow f32Max))

/-- ROWRED_MIN (R124). -/
def execRowredMin (lc : Nat) (d : Desc) (s : State) : Host.Outcome State Fault Refusal := .next (s.rowredIssue lc d 2 (foldRow f32Min))

/-- ROWRED_ABSMAX (R124). -/
def execRowredAbsmax (lc : Nat) (d : Desc) (s : State) : Host.Outcome State Fault Refusal :=
  .next (s.rowredIssue lc d 3 (fun l => foldRow f32Max (l.map (f32Unary 2))))

/-- ROWRED_SUMSQ (R124). -/
def execRowredSumsq (lc : Nat) (d : Desc) (s : State) : Host.Outcome State Fault Refusal :=
  .next (s.rowredIssue lc d 4 (fun l => f32Sum (l.map (fun x => f32Mul x x))))

/-- ROWRED_ARGMAX (R124): D holds 32-bit indices. -/
def execRowredArgmax (lc : Nat) (d : Desc) (s : State) : Host.Outcome State Fault Refusal :=
  .next (s.issue lc d
    { code := 0x33, sub := some 5, need := [2, 2, 0, 0], opt := [{ dst := true, idxReq := true }, {}], loc := [.vec, .vec] } 3
    (fun _ _ r => rowredShape r) noEngs
    (fun s r _ =>
      match s.readSrcs lc r with
      | (s, .error n) => Eff.bus s n
      | (s, .ok x) =>
        let rows := r.dd.t.rowIx
        let (s, ok) := s.writeBits r.dd.t (rows.map (fun i => argMax (rowVals x.a r.aa.t.e0 i))) (s.whoOf lc)
        if ok then { s := s, inv := x.rsvd } else Eff.bus s 1))

/-- SOFTMAX of a row (R125). -/
def softmaxRow (sg : Nat) (l : List Nat) : List Nat :=
  let sg := if sg = 0 then 0x3F800000 else sg
  let xs := l.map (fun x => f32Mul sg x)
  if l.any (fun x => f32IsNaN x || x == 0x7F800000) then l.map (fun _ => f32NaN)
  else if xs.all (fun x => x == 0xFF800000) then l.map (fun _ => 0)
  else
    let mx := foldRow f32Max xs
    let e := xs.map (fun x => f32Unary 8 (f32Sub x mx))
    let sum := f32Sum e
    e.map (fun y => f32Div y sum)

/-- SOFTMAX (R125). -/
def execSoftmax (lc : Nat) (d : Desc) (s : State) : Host.Outcome State Fault Refusal :=
  .next (s.vecIssue lc d { code := 0x34, m0 := 2 ^ 32 - 1, need := [2, 2, 0, 0], opt := vecOpt } vecShape
    (fun r x => r.dd.t.rowIx.flatMap (fun i => softmaxRow d.imm0.toNat (rowVals x.a r.dd.t.e0 i))))

/-- FP32 of a natural number. -/
def f32OfNat (n : Nat) : Nat := rne32 (.fin false n 1)

/-- NORM of a row without scale and shift (R126). -/
def normRow (rms : Bool) (eps : Nat) (l : List Nat) : List Nat :=
  let n := f32OfNat l.length
  let dv := if rms then l else
    let mu := f32Div (f32Sum l) n
    l.map (fun x => f32Sub x mu)
  let v := f32Div (f32Sum (dv.map (fun x => f32Mul x x))) n
  let r := f32Unary 7 (f32Add v eps)
  dv.map (fun x => f32Mul x r)

/-- The extents of NORM: B and C have EXT0 = n and extent 1 elsewhere. -/
def normShape (r : Refs) : Option DF :=
  let d := r.dd.t
  let bad := fun (x : Option Tref) => x.any (fun y => y.t.ext != (d.e0, 1, 1, 1))
  if !fits r.aa.t d.e0 d.e1 d.e2 d.e3 then some { code := 3, ref := 2 }
  else if bad r.b then some { code := 3, ref := 3 } else if bad r.c then some { code := 3, ref := 4 } else none

def State.normIssue (s : State) (lc : Nat) (d : Desc) (rms : Bool) : State :=
  s.vecIssue lc d { code := 0x35, sub := some (bool01 rms), m0 := 2 ^ 32 - 1, need := [2, 2, 1, 1], opt := vecOpt } normShape
    (fun r x => r.dd.t.rowIx.flatMap (fun i =>
      (normRow rms d.imm0.toNat (rowVals x.a r.dd.t.e0 i)).zipIdx.map (fun p =>
        let y := if x.hasB then f32Mul p.1 (x.b.f32 (p.2, 0, 0, 0)) else p.1
        if x.hasC then f32Add y (x.c.f32 (p.2, 0, 0, 0)) else y)))

/-- NORM_LAYERNORM (R126). -/
def execNormLayernorm (lc : Nat) (d : Desc) (s : State) : Host.Outcome State Fault Refusal := .next (s.normIssue lc d false)

/-- NORM_RMSNORM (R126). -/
def execNormRmsnorm (lc : Nat) (d : Desc) (s : State) : Host.Outcome State Fault Refusal := .next (s.normIssue lc d true)

end Sys2Proof.Machine
end

