-- ==== Sys2Proof/Machine/Dispatch.lean ====
section
/-! DEFINITION. The dispatch: one arm for each command, each a direct call of that command's meaning. -/
namespace Sys2Proof.Machine

/-- The effect of a command on everything but the queue. -/
def exec (i : Instr) (s : State) : Host.Outcome State Fault Refusal :=
  match i with
  | .powerOn => Sys2Proof.Machine.execPowerOn s
  | .edeskInitDone => Sys2Proof.Machine.execEdeskInitDone s
  | .powerLoss => Sys2Proof.Machine.execPowerLoss s
  | .inputVoltageExcursion mv => Sys2Proof.Machine.execInputVoltageExcursion mv s
  | .overcurrentTrip => Sys2Proof.Machine.execOvercurrentTrip s
  | .powerCapHold w10 w1s => Sys2Proof.Machine.execPowerCapHold w10 w1s s
  | .thermalThrottleChange k t => Sys2Proof.Machine.execThermalThrottleChange k t s
  | .capEffStep => Sys2Proof.Machine.execCapEffStep s
  | .thermalTrip k t => Sys2Proof.Machine.execThermalTrip k t s
  | .tickEdge o => Sys2Proof.Machine.execTickEdge o s
  | .registerWrite m off size v => Sys2Proof.Machine.execRegisterWrite m off size v s
  | .semAcquire pg ms => Sys2Proof.Machine.execSemAcquire pg ms s
  | .semRelease pg m => Sys2Proof.Machine.execSemRelease pg m s
  | .ctrClr m pg off v => Sys2Proof.Machine.execCtrClr m pg off v s
  | .unitReset m pg => Sys2Proof.Machine.execUnitReset m pg s
  | .bindArm m d c testOut => Sys2Proof.Machine.execBindArm m d c testOut s
  | .bindCopyDone d c ns => Sys2Proof.Machine.execBindCopyDone d c ns s
  | .launchPost m n w ns => Sys2Proof.Machine.execLaunchPost m n w ns s
  | .launchCancel m n => Sys2Proof.Machine.execLaunchCancel m n s
  | .launchEmpty m n => Sys2Proof.Machine.execLaunchEmpty m n s
  | .launchEntryWrite m n off wide v => Sys2Proof.Machine.execLaunchEntryWrite m n off wide v s
  | .programComplete n => Sys2Proof.Machine.execProgramComplete n s
  | .cplConsWrite m host v => Sys2Proof.Machine.execCplConsWrite m host v s
  | .stepFenceComplete p ns => Sys2Proof.Machine.execStepFenceComplete p ns s
  | .descriptorComplete lc id ck => Sys2Proof.Machine.execDescriptorComplete lc id ck s
  | .nop lc d => Sys2Proof.Machine.execNop lc d s
  | .endStream lc d => Sys2Proof.Machine.execEndStream lc d s
  | .setReg lc d => Sys2Proof.Machine.execSetReg lc d s
  | .loop lc d => Sys2Proof.Machine.execLoop lc d s
  | .waitGe lc d => Sys2Proof.Machine.execWaitGe lc d s
  | .waitEq lc d => Sys2Proof.Machine.execWaitEq lc d s
  | .waitNe lc d => Sys2Proof.Machine.execWaitNe lc d s
  | .waitAssert lc d => Sys2Proof.Machine.execWaitAssert lc d s
  | .waitDrain lc d => Sys2Proof.Machine.execWaitDrain lc d s
  | .waitConditionMet lc id => Sys2Proof.Machine.execWaitConditionMet lc id s
  | .waitTimeout lc id => Sys2Proof.Machine.execWaitTimeout lc id s
  | .signalAdd lc d => Sys2Proof.Machine.execSignalAdd lc d s
  | .signalWrite lc d => Sys2Proof.Machine.execSignalWrite lc d s
  | .tickw lc d => Sys2Proof.Machine.execTickw lc d s
  | .stepf lc d => Sys2Proof.Machine.execStepf lc d s
  | .load lc d => Sys2Proof.Machine.execLoad lc d s
  | .store lc d => Sys2Proof.Machine.execStore lc d s
  | .move lc d => Sys2Proof.Machine.execMove lc d s
  | .transpose lc d => Sys2Proof.Machine.execTranspose lc d s
  | .gather lc d => Sys2Proof.Machine.execGather lc d s
  | .scatterAdd lc d => Sys2Proof.Machine.execScatterAdd lc d s
  | .cast lc d => Sys2Proof.Machine.execCast lc d s
  | .quantise lc d => Sys2Proof.Machine.execQuantise lc d s
  | .fill lc d => Sys2Proof.Machine.execFill lc d s
  | .matmul lc d => Sys2Proof.Machine.execMatmul lc d s
  | .matmulAcc lc d => Sys2Proof.Machine.execMatmulAcc lc d s
  | .unaryCopy lc d => Sys2Proof.Machine.execUnaryCopy lc d s
  | .unaryNeg lc d => Sys2Proof.Machine.execUnaryNeg lc d s
  | .unaryAbs lc d => Sys2Proof.Machine.execUnaryAbs lc d s
  | .unaryRelu lc d => Sys2Proof.Machine.execUnaryRelu lc d s
  | .unarySquare lc d => Sys2Proof.Machine.execUnarySquare lc d s
  | .unaryRecip lc d => Sys2Proof.Machine.execUnaryRecip lc d s
  | .unarySqrt lc d => Sys2Proof.Machine.execUnarySqrt lc d s
  | .unaryRsqrt lc d => Sys2Proof.Machine.execUnaryRsqrt lc d s
  | .unaryExp lc d => Sys2Proof.Machine.execUnaryExp lc d s
  | .unaryExp2 lc d => Sys2Proof.Machine.execUnaryExp2 lc d s
  | .unaryLog lc d => Sys2Proof.Machine.execUnaryLog lc d s
  | .unaryLog2 lc d => Sys2Proof.Machine.execUnaryLog2 lc d s
  | .unaryTanh lc d => Sys2Proof.Machine.execUnaryTanh lc d s
  | .unaryErf lc d => Sys2Proof.Machine.execUnaryErf lc d s
  | .unarySin lc d => Sys2Proof.Machine.execUnarySin lc d s
  | .unaryCos lc d => Sys2Proof.Machine.execUnaryCos lc d s
  | .unarySigmoid lc d => Sys2Proof.Machine.execUnarySigmoid lc d s
  | .unarySilu lc d => Sys2Proof.Machine.execUnarySilu lc d s
  | .unaryGeluTanh lc d => Sys2Proof.Machine.execUnaryGeluTanh lc d s
  | .unaryGeluErf lc d => Sys2Proof.Machine.execUnaryGeluErf lc d s
  | .binaryAdd lc d => Sys2Proof.Machine.execBinaryAdd lc d s
  | .binarySub lc d => Sys2Proof.Machine.execBinarySub lc d s
  | .binaryMul lc d => Sys2Proof.Machine.execBinaryMul lc d s
  | .binaryDiv lc d => Sys2Proof.Machine.execBinaryDiv lc d s
  | .binaryMax lc d => Sys2Proof.Machine.execBinaryMax lc d s
  | .binaryMin lc d => Sys2Proof.Machine.execBinaryMin lc d s
  | .fma lc d => Sys2Proof.Machine.execFma lc d s
  | .rowredSum lc d => Sys2Proof.Machine.execRowredSum lc d s
  | .rowredMax lc d => Sys2Proof.Machine.execRowredMax lc d s
  | .rowredMin lc d => Sys2Proof.Machine.execRowredMin lc d s
  | .rowredAbsmax lc d => Sys2Proof.Machine.execRowredAbsmax lc d s
  | .rowredSumsq lc d => Sys2Proof.Machine.execRowredSumsq lc d s
  | .rowredArgmax lc d => Sys2Proof.Machine.execRowredArgmax lc d s
  | .softmax lc d => Sys2Proof.Machine.execSoftmax lc d s
  | .normLayernorm lc d => Sys2Proof.Machine.execNormLayernorm lc d s
  | .normRmsnorm lc d => Sys2Proof.Machine.execNormRmsnorm lc d s
  | .send lc d => Sys2Proof.Machine.execSend lc d s
  | .recv lc d => Sys2Proof.Machine.execRecv lc d s
  | .recvSatisfied lc id => Sys2Proof.Machine.execRecvSatisfied lc id s
  | .collAllReduce lc d => Sys2Proof.Machine.execCollAllReduce lc d s
  | .collReduceScatter lc d => Sys2Proof.Machine.execCollReduceScatter lc d s
  | .collAllGather lc d => Sys2Proof.Machine.execCollAllGather lc d s
  | .collAllToAll lc d => Sys2Proof.Machine.execCollAllToAll lc d s
  | .collTimeout tag => Sys2Proof.Machine.execCollTimeout tag s
  | .nmcall lc d => Sys2Proof.Machine.execNmcall lc d s
  | .digest lc d => Sys2Proof.Machine.execDigest lc d s
  | .edeskRead k l req o => Sys2Proof.Machine.execEdeskRead k l req o s
  | .recomputeDone k obs => Sys2Proof.Machine.execRecomputeDone k obs s
  | .recomputeTimeout k => Sys2Proof.Machine.execRecomputeTimeout k s
  | .edeskLineWrite o data req => Sys2Proof.Machine.execEdeskLineWrite o data req s
  | .edeskPartialWrite o data obs req => Sys2Proof.Machine.execEdeskPartialWrite o data obs req s
  | .mapoutGo m k v => Sys2Proof.Machine.execMapoutGo m k v s
  | .mapoutGranuleCopy k bad0 bad1 => Sys2Proof.Machine.execMapoutGranuleCopy k bad0 bad1 s
  | .rcrEn m k n v => Sys2Proof.Machine.execRcrEn m k n v s
  | .scrubLine k data md => Sys2Proof.Machine.execScrubLine k data md s
  | .scrubNow m k => Sys2Proof.Machine.execScrubNow m k s
  | .scrubCtrlWrite m k v => Sys2Proof.Machine.execScrubCtrlWrite m k v s
  | .nmuPagePost m k v => Sys2Proof.Machine.execNmuPagePost m k v s
  | .nmuCmdStart k => Sys2Proof.Machine.execNmuCmdStart k s
  | .nmuCmdComplete k idx => Sys2Proof.Machine.execNmuCmdComplete k idx s
  | .nmuFill k idx => Sys2Proof.Machine.execNmuFill k idx s
  | .nmuCopy k idx => Sys2Proof.Machine.execNmuCopy k idx s
  | .rsEnc k idx => Sys2Proof.Machine.execRsEnc k idx s
  | .rsAcc k idx => Sys2Proof.Machine.execRsAcc k idx s
  | .rsDec k idx => Sys2Proof.Machine.execRsDec k idx s
  | .nmuDigest k idx => Sys2Proof.Machine.execNmuDigest k idx s
  | .optSgd k idx => Sys2Proof.Machine.execOptSgd k idx s
  | .optAdamw k idx => Sys2Proof.Machine.execOptAdamw k idx s
  | .gaccAdd k idx => Sys2Proof.Machine.execGaccAdd k idx s
  | .gaccRead k idx => Sys2Proof.Machine.execGaccRead k idx s
  | .gaccReadClear k idx => Sys2Proof.Machine.execGaccReadClear k idx s
  | .nmuGather k idx => Sys2Proof.Machine.execNmuGather k idx s
  | .scatterAddFp32 k idx => Sys2Proof.Machine.execScatterAddFp32 k idx s
  | .scatterAddExact k idx => Sys2Proof.Machine.execScatterAddExact k idx s
  | .convertCast k idx => Sys2Proof.Machine.execConvertCast k idx s
  | .convertQuantise k idx => Sys2Proof.Machine.execConvertQuantise k idx s
  | .nmuScrub k idx s0 s1 md => Sys2Proof.Machine.execNmuScrub k idx s0 s1 md s
  | .snapArm k idx => Sys2Proof.Machine.execSnapArm k idx s
  | .snapAbort k idx => Sys2Proof.Machine.execSnapAbort k idx s
  | .snapUnitSaved k u ns => Sys2Proof.Machine.execSnapUnitSaved k u ns s
  | .snapUnitConsumed lead idx k u => Sys2Proof.Machine.execSnapUnitConsumed lead idx k u s
  | .snapHoldTimeout k => Sys2Proof.Machine.execSnapHoldTimeout k s
  | .flitWr p n o h addr data => Sys2Proof.Machine.execFlitWr p n o h addr data s
  | .flitRdReq p n o h addr bytes tag => Sys2Proof.Machine.execFlitRdReq p n o h addr bytes tag s
  | .flitRdRsp p n o h tag status data => Sys2Proof.Machine.execFlitRdRsp p n o h tag status data s
  | .flitSig p n o h addr value write => Sys2Proof.Machine.execFlitSig p n o h addr value write s
  | .flitAckE2e p n o h tag status => Sys2Proof.Machine.execFlitAckE2e p n o h tag status s
  | .flitCollData p n o h c data => Sys2Proof.Machine.execFlitCollData p n o h c data s
  | .flitCollCredit p n o h tag rank credits => Sys2Proof.Machine.execFlitCollCredit p n o h tag rank credits s
  | .flitCollAbort p n o h tag cause absent => Sys2Proof.Machine.execFlitCollAbort p n o h tag cause absent s
  | .flitMgmt p n o h m => Sys2Proof.Machine.execFlitMgmt p n o h m s
  | .flitResume p n o h bundle seq reply => Sys2Proof.Machine.execFlitResume p n o h bundle seq reply s
  | .flitIdle p n o h => Sys2Proof.Machine.execFlitIdle p n o h s
  | .flitAck p n o h entries => Sys2Proof.Machine.execFlitAck p n o h entries s
  | .flitNak p n o h entries => Sys2Proof.Machine.execFlitNak p n o h entries s
  | .flitCredit p n o h credits => Sys2Proof.Machine.execFlitCredit p n o h credits s
  | .flitHeartbeat p n o h chip port lane bundle tick seq => Sys2Proof.Machine.execFlitHeartbeat p n o h chip port lane bundle tick seq s
  | .flitYoyo p n o h y => Sys2Proof.Machine.execFlitYoyo p n o h y s
  | .flitTime p n o h t arr => Sys2Proof.Machine.execFlitTime p n o h t arr s
  | .flitTrain p n o h t arr => Sys2Proof.Machine.execFlitTrain p n o h t arr s
  | .laneCtrlAdd p n o h bundle port lane eff => Sys2Proof.Machine.execLaneCtrlAdd p n o h bundle port lane eff s
  | .laneCtrlRemove p n o h bundle port lane eff => Sys2Proof.Machine.execLaneCtrlRemove p n o h bundle port lane eff s
  | .laneCtrlReplace p n o h bundle port lane repl eff => Sys2Proof.Machine.execLaneCtrlReplace p n o h bundle port lane repl eff s
  | .ringNotice p n o h bundle port cause => Sys2Proof.Machine.execRingNotice p n o h bundle port cause s
  | .ringAligned p n o h bundle port => Sys2Proof.Machine.execRingAligned p n o h bundle port s
  | .ackTimer p n => Sys2Proof.Machine.execAckTimer p n s
  | .nakSkewTimer b p n => Sys2Proof.Machine.execNakSkewTimer b p n s
  | .retryTimeout b => Sys2Proof.Machine.execRetryTimeout b s
  | .laneLos p n => Sys2Proof.Machine.execLaneLos p n s
  | .laneTrainTimeout p n => Sys2Proof.Machine.execLaneTrainTimeout p n s
  | .laneRetrainTimer p n => Sys2Proof.Machine.execLaneRetrainTimer p n s
  | .quarantineEnd p n => Sys2Proof.Machine.execQuarantineEnd p n s
  | .strikeReset p n => Sys2Proof.Machine.execStrikeReset p n s
  | .laneDisable m p => Sys2Proof.Machine.execLaneDisable m p s
  | .laneClear m p => Sys2Proof.Machine.execLaneClear m p s
  | .retrain m p => Sys2Proof.Machine.execRetrain m p s
  | .portEnable m p v => Sys2Proof.Machine.execPortEnable m p v s
  | .bundleDeadTimeout b => Sys2Proof.Machine.execBundleDeadTimeout b s
  | .resumeTimeout b => Sys2Proof.Machine.execResumeTimeout b s
  | .keyErase m v => Sys2Proof.Machine.execKeyErase m v s
  | .frtDataHiWrite m v => Sys2Proof.Machine.execFrtDataHiWrite m v s
  | .rnkSlotPartWrite m v => Sys2Proof.Machine.execRnkSlotPartWrite m v s
  | .rnkDataWrite m v => Sys2Proof.Machine.execRnkDataWrite m v s
  | .peerDataWrite m v => Sys2Proof.Machine.execPeerDataWrite m v s
  | .planArm m => Sys2Proof.Machine.execPlanArm m s
  | .planCancel m => Sys2Proof.Machine.execPlanCancel m s
  | .planWinDataWrite m v => Sys2Proof.Machine.execPlanWinDataWrite m v s
  | .planWinDataRead => Sys2Proof.Machine.execPlanWinDataRead s
  | .planActivation => Sys2Proof.Machine.execPlanActivation s
  | .ringMoveDone p r => Sys2Proof.Machine.execRingMoveDone p r s
  | .recableSettle => Sys2Proof.Machine.execRecableSettle s
  | .kalReplace m e v => Sys2Proof.Machine.execKalReplace m e v s
  | .kalModeWrite m e v => Sys2Proof.Machine.execKalModeWrite m e v s
  | .windowCheck p r => Sys2Proof.Machine.execWindowCheck p r s
  | .ringRxLos p r => Sys2Proof.Machine.execRingRxLos p r s
  | .heaterFault p r dir => Sys2Proof.Machine.execHeaterFault p r dir s
  | .reacqTestStart p => Sys2Proof.Machine.execReacqTestStart p s
  | .reacqTestDone p r aligned offT offR => Sys2Proof.Machine.execReacqTestDone p r aligned offT offR s
  | .ringTestCmd m e v => Sys2Proof.Machine.execRingTestCmd m e v s
  | .calPeriodDue e => Sys2Proof.Machine.execCalPeriodDue e s
  | .calTempDue e => Sys2Proof.Machine.execCalTempDue e s
  | .calNow m e => Sys2Proof.Machine.execCalNow m e s
  | .calibrationDone e ms => Sys2Proof.Machine.execCalibrationDone e ms s
  | .abruptLaserLoss e => Sys2Proof.Machine.execAbruptLaserLoss e s
  | .laserSwitchPoint e => Sys2Proof.Machine.execLaserSwitchPoint e s
  | .laserSwitchDone e ok => Sys2Proof.Machine.execLaserSwitchDone e ok s
  | .lasCmdSwitch m e x => Sys2Proof.Machine.execLasCmdSwitch m e x s
  | .lasCmdNow m e x => Sys2Proof.Machine.execLasCmdNow m e x s
  | .tblDataWrite m e v => Sys2Proof.Machine.execTblDataWrite m e v s
  | .monGoNow m e => Sys2Proof.Machine.execMonGoNow m e s
  | .monGoAtTick m e => Sys2Proof.Machine.execMonGoAtTick m e s
  | .monTickReached e => Sys2Proof.Machine.execMonTickReached e s
  | .monReadingDone e reading => Sys2Proof.Machine.execMonReadingDone e reading s
  | .restep m => Sys2Proof.Machine.execRestep m s
  | .timCfgWrite m v => Sys2Proof.Machine.execTimCfgWrite m v s
  | .rootLossExpiry => Sys2Proof.Machine.execRootLossExpiry s
  | .timeSourceLoss => Sys2Proof.Machine.execTimeSourceLoss s
  | .holdoverLong => Sys2Proof.Machine.execHoldoverLong s
  | .ptpSync p domain seq logInt t1 t2 => Sys2Proof.Machine.execPtpSync p domain seq logInt t1 t2 s
  | .ptpFollowUp p domain seq t1 => Sys2Proof.Machine.execPtpFollowUp p domain seq t1 s
  | .ptpDelayResp p domain t4 => Sys2Proof.Machine.execPtpDelayResp p domain t4 s
  | .ptpAnnounce p domain logInt a => Sys2Proof.Machine.execPtpAnnounce p domain logInt a s
  | .ptpDelayReq p t3 => Sys2Proof.Machine.execPtpDelayReq p t3 s
  | .timeSecLoRead sub => Sys2Proof.Machine.execTimeSecLoRead sub s
  | .timeFracRead => Sys2Proof.Machine.execTimeFracRead s
  | .trgArm m n event pulse sub => Sys2Proof.Machine.execTrgArm m n event pulse sub s
  | .triggerFire n => Sys2Proof.Machine.execTriggerFire n s
  | .ppsOutPulse => Sys2Proof.Machine.execPpsOutPulse s
  | .ppsInEdge falling sub => Sys2Proof.Machine.execPpsInEdge falling sub s
  | .ppsInLost => Sys2Proof.Machine.execPpsInLost s
  | .capSecLoRead n => Sys2Proof.Machine.execCapSecLoRead n s
  | .capFracRead n => Sys2Proof.Machine.execCapFracRead n s
  | .partClaim m => Sys2Proof.Machine.execPartClaim m s
  | .partArm m => Sys2Proof.Machine.execPartArm m s
  | .partDrain m => Sys2Proof.Machine.execPartDrain m s
  | .partRetire m => Sys2Proof.Machine.execPartRetire m s
  | .partFree m => Sys2Proof.Machine.execPartFree m s
  | .runTickReached p => Sys2Proof.Machine.execRunTickReached p s
  | .rampDone p => Sys2Proof.Machine.execRampDone p s
  | .drainTickReached p => Sys2Proof.Machine.execDrainTickReached p s
  | .retireBarrierDone p ns => Sys2Proof.Machine.execRetireBarrierDone p ns s
  | .retireBarrierBound p ns => Sys2Proof.Machine.execRetireBarrierBound p ns s
  | .lineCmdClaim m part => Sys2Proof.Machine.execLineCmdClaim m part s
  | .lineCmdRelease m => Sys2Proof.Machine.execLineCmdRelease m s
  | .lineClaimReq chip part plane input line tag => Sys2Proof.Machine.execLineClaimReq chip part plane input line tag s
  | .lineClaimAck chip plane line tag => Sys2Proof.Machine.execLineClaimAck chip plane line tag s
  | .lineClaimNak cause plane line tag => Sys2Proof.Machine.execLineClaimNak cause plane line tag s
  | .lineClaimRel chip part plane line tag => Sys2Proof.Machine.execLineClaimRel chip part plane line tag s
  | .lineClaimRelAck plane line tag => Sys2Proof.Machine.execLineClaimRelAck plane line tag s
  | .lineClaimRelWait plane line tag => Sys2Proof.Machine.execLineClaimRelWait plane line tag s
  | .lineReqTimeout p l => Sys2Proof.Machine.execLineReqTimeout p l s
  | .lineUnconfirmed p l => Sys2Proof.Machine.execLineUnconfirmed p l s
  | .ctxBind m => Sys2Proof.Machine.execCtxBind m s
  | .ctxRetire m => Sys2Proof.Machine.execCtxRetire m s
  | .ctxUnbind m => Sys2Proof.Machine.execCtxUnbind m s
  | .teardownAck c ns => Sys2Proof.Machine.execTeardownAck c ns s
  | .epArm m cancel step => Sys2Proof.Machine.execEpArm m cancel step s
  | .epCancel m step => Sys2Proof.Machine.execEpCancel m step s
  | .epochTickActivation p => Sys2Proof.Machine.execEpochTickActivation p s
  | .epochDigestReady p => Sys2Proof.Machine.execEpochDigestReady p s
  | .epochSkewTimeout p b => Sys2Proof.Machine.execEpochSkewTimeout p b s
  | .imgDataRead => Sys2Proof.Machine.execImgDataRead s
  | .ctValidationDone p => Sys2Proof.Machine.execCtValidationDone p s
  | .buddyHelloRetry p r => Sys2Proof.Machine.execBuddyHelloRetry p r s
  | .buddyHello chip part idx addr units rank fd => Sys2Proof.Machine.execBuddyHello chip part idx addr units rank fd s
  | .buddyReply part idx status fd => Sys2Proof.Machine.execBuddyReply part idx status fd s
  | .mirrorDigest chip part step idx digest => Sys2Proof.Machine.execMirrorDigest chip part step idx digest s
  | .ckUnit chip part step slot row x zero done => Sys2Proof.Machine.execCkUnit chip part step slot row x zero done s
  | .checkpointLocalDone p => Sys2Proof.Machine.execCheckpointLocalDone p s
  | .stripeDone part step slot m d p q => Sys2Proof.Machine.execStripeDone part step slot m d p q s
  | .commitRecordLanded p => Sys2Proof.Machine.execCommitRecordLanded p s
  | .commitAck part step slot m status => Sys2Proof.Machine.execCommitAck part step slot m status s
  | .ckptAbort part step slot cause => Sys2Proof.Machine.execCkptAbort part step slot cause s
  | .ckTimeout p => Sys2Proof.Machine.execCkTimeout p s
  | .ckAbort m => Sys2Proof.Machine.execCkAbort m s
  | .ckNow m => Sys2Proof.Machine.execCkNow m s
  | .stoExport m slot => Sys2Proof.Machine.execStoExport m slot s
  | .stoImport m slot => Sys2Proof.Machine.execStoImport m slot s
  | .stoConsWrite m v => Sys2Proof.Machine.execStoConsWrite m v s
  | .stoProdWrite m v chunks => Sys2Proof.Machine.execStoProdWrite m v chunks s
  | .loss m rank => Sys2Proof.Machine.execLoss m rank s
  | .halt m => Sys2Proof.Machine.execHalt m s
  | .rollback m => Sys2Proof.Machine.execRollback m s
  | .pull m reg rank => Sys2Proof.Machine.execPull m reg rank s
  | .pullReq chip part src n tgt => Sys2Proof.Machine.execPullReq chip part src n tgt s
  | .pullDone part status digest => Sys2Proof.Machine.execPullDone part status digest s
  | .loadSlot m => Sys2Proof.Machine.execLoadSlot m s
  | .rebuild m rank => Sys2Proof.Machine.execRebuild m rank s
  | .clearAbsent m => Sys2Proof.Machine.execClearAbsent m s
  | .recoveryCmdDone p => Sys2Proof.Machine.execRecoveryCmdDone p s
  | .replicaDigestReady p set => Sys2Proof.Machine.execReplicaDigestReady p set s
  | .digestVote part step rbase rcount rstep rank digest again => Sys2Proof.Machine.execDigestVote part step rbase rcount rstep rank digest again s
  | .verdictDeadline p set => Sys2Proof.Machine.execVerdictDeadline p set s
  | .verdict part step set outcome maj agree dis missing ranks => Sys2Proof.Machine.execVerdict part step set outcome maj agree dis missing ranks s
  | .verdictTimeout p set => Sys2Proof.Machine.execVerdictTimeout p set s
  | .recheckDeadline p set => Sys2Proof.Machine.execRecheckDeadline p set s
  | .fenceNote chip part => Sys2Proof.Machine.execFenceNote chip part s
  | .ftDue d c p => Sys2Proof.Machine.execFtDue d c p s
  | .ftNow m => Sys2Proof.Machine.execFtNow m s
  | .ftSweep m => Sys2Proof.Machine.execFtSweep m s
  | .fieldTestStart d c p temp => Sys2Proof.Machine.execFieldTestStart d c p temp s
  | .fieldTestDone d c p us rise fail => Sys2Proof.Machine.execFieldTestDone d c p us rise fail s
  | .forcedSwap d c p ns => Sys2Proof.Machine.execForcedSwap d c p ns s
  | .forcedSwapAbandon d c p => Sys2Proof.Machine.execForcedSwapAbandon d c p s
  | .forcedSwapRetry d c p => Sys2Proof.Machine.execForcedSwapRetry d c p s
  | .sigAck m => Sys2Proof.Machine.execSigAck m s
  | .sigDataRead => Sys2Proof.Machine.execSigDataRead s
  | .contextWatchdog lc => Sys2Proof.Machine.execContextWatchdog lc s
  | .engineWatchdog d c p e => Sys2Proof.Machine.execEngineWatchdog d c p e s
  | .sequencerWatchdog d c p => Sys2Proof.Machine.execSequencerWatchdog d c p s
  | .programEndWatchdog lc => Sys2Proof.Machine.execProgramEndWatchdog lc s
  | .nmuWatchdog k => Sys2Proof.Machine.execNmuWatchdog k s
  | .rstGo m => Sys2Proof.Machine.execRstGo m s
  | .resetDone level upath ns => Sys2Proof.Machine.execResetDone level upath ns s
  | .resetEscalate level upath => Sys2Proof.Machine.execResetEscalate level upath s
  | .moduleFail => Sys2Proof.Machine.execModuleFail s
  | .nmuDatapathResetDone k => Sys2Proof.Machine.execNmuDatapathResetDone k s
  | .nmuFail k => Sys2Proof.Machine.execNmuFail k s
  | .fwWatchdog k => Sys2Proof.Machine.execFwWatchdog k s
  | .fwRestartDone k => Sys2Proof.Machine.execFwRestartDone k s
  | .fwFatalFault k => Sys2Proof.Machine.execFwFatalFault k s
  | .takeoverDone ns => Sys2Proof.Machine.execTakeoverDone ns s
  | .revertHoldMet => Sys2Proof.Machine.execRevertHoldMet s
  | .failover m => Sys2Proof.Machine.execFailover m s
  | .fpRestart m => Sys2Proof.Machine.execFpRestart m s
  | .getVersion m n h => Sys2Proof.Machine.execGetVersion m n h s
  | .getHealth m n h => Sys2Proof.Machine.execGetHealth m n h s
  | .fwStage m n h cls off data => Sys2Proof.Machine.execFwStage m n h cls off data s
  | .fwVerify m n h cls img => Sys2Proof.Machine.execFwVerify m n h cls img s
  | .fwActivate m n h cls H => Sys2Proof.Machine.execFwActivate m n h cls H s
  | .fwAbort m n h cls => Sys2Proof.Machine.execFwAbort m n h cls s
  | .fwHandover cls => Sys2Proof.Machine.execFwHandover cls s
  | .fwProbationEnd cls => Sys2Proof.Machine.execFwProbationEnd cls s
  | .fbClear m n h tok => Sys2Proof.Machine.execFbClear m n h tok s
  | .recW0Read m => Sys2Proof.Machine.execRecW0Read m s
  | .recW15Read m => Sys2Proof.Machine.execRecW15Read m s
  | .freeze m area => Sys2Proof.Machine.execFreeze m area s
  | .thaw m area => Sys2Proof.Machine.execThaw m area s
  | .freezeMaxExpiry => Sys2Proof.Machine.execFreezeMaxExpiry s
  | .attRequest m n h part ek nonce => Sys2Proof.Machine.execAttRequest m n h part ek nonce s
  | .attDataRead m => Sys2Proof.Machine.execAttDataRead m s
  | .ekExpiry part => Sys2Proof.Machine.execEkExpiry part s
  | .keyGrant m n h b => Sys2Proof.Machine.execKeyGrant m n h b s
  | .keyInstall m n h part phase idx => Sys2Proof.Machine.execKeyInstall m n h part phase idx s
  | .sealPart m n h part mask ranges tag => Sys2Proof.Machine.execSealPart m n h part mask ranges tag s
  | .sealFillDone p => Sys2Proof.Machine.execSealFillDone p s
  | .sealLoad m n h addr => Sys2Proof.Machine.execSealLoad m n h addr s
  | .sealedClearDone p => Sys2Proof.Machine.execSealedClearDone p s
  | .tokenChallenge m n h => Sys2Proof.Machine.execTokenChallenge m n h s
  | .svnCommit m n h tok => Sys2Proof.Machine.execSvnCommit m n h tok s
  | .ownerSet m n h tok => Sys2Proof.Machine.execOwnerSet m n h tok s
  | .ownerKey m n h key => Sys2Proof.Machine.execOwnerKey m n h key s
  | .debugUnlock m n h tok => Sys2Proof.Machine.execDebugUnlock m n h tok s
  | .rma m n h tok => Sys2Proof.Machine.execRma m n h tok s
  | .flr => Sys2Proof.Machine.execFlr s
  | .pcieLinkLoss => Sys2Proof.Machine.execPcieLinkLoss s
  | .bar2Read off n => Sys2Proof.Machine.execBar2Read off n s
  | .bar2Write off data => Sys2Proof.Machine.execBar2Write off data s
  | .bar2SelWrite m v => Sys2Proof.Machine.execBar2SelWrite m v s
  | .mgmtRead h space a n => Sys2Proof.Machine.execMgmtRead h space a n s
  | .mgmtWrite h space a data => Sys2Proof.Machine.execMgmtWrite h space a data s
  | .sessionOpen h => Sys2Proof.Machine.execSessionOpen h s
  | .sessionClose h => Sys2Proof.Machine.execSessionClose h s
  | .keepalive h => Sys2Proof.Machine.execKeepalive h s
  | .sessionIdleTimeout n => Sys2Proof.Machine.execSessionIdleTimeout n s
  | .seqGapTimeout n => Sys2Proof.Machine.execSeqGapTimeout n s
  | .chipIdWrite m v => Sys2Proof.Machine.execChipIdWrite m v s
  | .ejectLatchOpen => Sys2Proof.Machine.execEjectLatchOpen s
  | .removeReq m => Sys2Proof.Machine.execRemoveReq m s
  | .removeCancel m => Sys2Proof.Machine.execRemoveCancel m s
  | .safeToRemove => Sys2Proof.Machine.execSafeToRemove s
  | .flitBoundary p => Sys2Proof.Machine.execFlitBoundary p s
  | .laneSignalLocked p n w0 w1 => Sys2Proof.Machine.execLaneSignalLocked p n w0 w1 s
  | .mgmtPortLinkChange port up => Sys2Proof.Machine.execMgmtPortLinkChange port up s
  | .pcieLinkUp gen width flit => Sys2Proof.Machine.execPcieLinkUp gen width flit s
  | .ejectLatchClose => Sys2Proof.Machine.execEjectLatchClose s

end Sys2Proof.Machine
end

