-- ==== Sys2Proof/Safety.lean ====
section
/-! DEFINITION. What claims about the block speak of: the parts of its state, which of them a command may change, what
only grows, and the invariant of the state. -/
namespace Sys2Proof.Machine

/-- The parts of the state: the registers of the pages of one kind (`Page.kind`), and every other field. -/
inductive Part where
  | page (kind : Nat)
  | pending | shadow | memory | lines | output | fresh | module | flash | flipbook | semTick | semTie | slots | progs | ring
  | heldH | heldM | usedH | usedM | seqs | stks | reads | mats | nmus | seals | resets | bundles | lanes | ports | outst | plan
  | rings | engs | keys | jobKeys | decap | frtLo | noroute | dropTick | cores | binds | fences | parts | lineXs | lineTag
  | eps | skews | yoyoCur | yoyoDue | time | ftNow | ct | colls | taps | nmuDone | cks | rcs | mirs | dgs | fts | sigs
  | sigAcks | sealTick | faults | sec | mbox | mboxMem | procs | cc | upds | sess | mg | portCnt
  deriving DecidableEq, Repr

/-- Two states agree on a part. -/
def State.agree : Part → State → State → Prop
  | .page k, s, t => ∀ key, key % 64 = k → t.reg key = s.reg key
  | .pending, s, t => t.pending = s.pending
  | .shadow, s, t => t.shadow = s.shadow
  | .memory, s, t => t.mem = s.mem
  | .lines, s, t => t.lines = s.lines
  | .output, s, t => t.out = s.out
  | .fresh, s, t => t.fresh = s.fresh
  | .module, s, t => t.mod_ = s.mod_
  | .flash, s, t => t.flash = s.flash
  | .flipbook, s, t => t.flip = s.flip
  | .semTick, s, t => t.semTick = s.semTick
  | .semTie, s, t => t.semTie = s.semTie
  | .slots, s, t => t.slots = s.slots
  | .progs, s, t => t.progs = s.progs
  | .ring, s, t => t.ring = s.ring
  | .heldH, s, t => t.heldH = s.heldH
  | .heldM, s, t => t.heldM = s.heldM
  | .usedH, s, t => t.usedH = s.usedH
  | .usedM, s, t => t.usedM = s.usedM
  | .seqs, s, t => t.seqs = s.seqs
  | .stks, s, t => t.stks = s.stks
  | .reads, s, t => t.reads = s.reads
  | .mats, s, t => t.mats = s.mats
  | .nmus, s, t => t.nmus = s.nmus
  | .seals, s, t => t.seals = s.seals
  | .resets, s, t => t.resets = s.resets
  | .bundles, s, t => t.bundles = s.bundles
  | .lanes, s, t => t.lanes = s.lanes
  | .ports, s, t => t.ports = s.ports
  | .outst, s, t => t.outst = s.outst
  | .plan, s, t => t.plan = s.plan
  | .rings, s, t => t.rings = s.rings
  | .engs, s, t => t.engs = s.engs
  | .keys, s, t => t.keys = s.keys
  | .jobKeys, s, t => t.jobKeys = s.jobKeys
  | .decap, s, t => t.decap = s.decap
  | .frtLo, s, t => t.frtLo = s.frtLo
  | .noroute, s, t => t.noroute = s.noroute
  | .dropTick, s, t => t.dropTick = s.dropTick
  | .cores, s, t => t.cores = s.cores
  | .binds, s, t => t.binds = s.binds
  | .fences, s, t => t.fences = s.fences
  | .parts, s, t => t.parts = s.parts
  | .lineXs, s, t => t.lineXs = s.lineXs
  | .lineTag, s, t => t.lineTag = s.lineTag
  | .eps, s, t => t.eps = s.eps
  | .skews, s, t => t.skews = s.skews
  | .yoyoCur, s, t => t.yoyoCur = s.yoyoCur
  | .yoyoDue, s, t => t.yoyoDue = s.yoyoDue
  | .time, s, t => t.time = s.time
  | .ftNow, s, t => t.ftNow = s.ftNow
  | .ct, s, t => t.ct = s.ct
  | .colls, s, t => t.colls = s.colls
  | .taps, s, t => t.taps = s.taps
  | .nmuDone, s, t => t.nmuDone = s.nmuDone
  | .cks, s, t => t.cks = s.cks
  | .rcs, s, t => t.rcs = s.rcs
  | .mirs, s, t => t.mirs = s.mirs
  | .dgs, s, t => t.dgs = s.dgs
  | .fts, s, t => t.fts = s.fts
  | .sigs, s, t => t.sigs = s.sigs
  | .sigAcks, s, t => t.sigAcks = s.sigAcks
  | .sealTick, s, t => t.sealTick = s.sealTick
  | .faults, s, t => t.faults = s.faults
  | .sec, s, t => t.sec = s.sec
  | .mbox, s, t => t.mbox = s.mbox
  | .mboxMem, s, t => t.mboxMem = s.mboxMem
  | .procs, s, t => t.procs = s.procs
  | .cc, s, t => t.cc = s.cc
  | .upds, s, t => t.upds = s.upds
  | .sess, s, t => t.sess = s.sess
  | .mg, s, t => t.mg = s.mg
  | .portCnt, s, t => t.portCnt = s.portCnt

/-- Nothing but the named parts differs. -/
def State.changesOnly (ps : List Part) (s t : State) : Prop := ∀ p, p ∉ ps → State.agree p s t

/-- What flash memory and fuses never lose: the module's identity and keys, the commissioning record, the minimum
security versions (R481), the channels mapped out (R167), and the RMA state (R493). -/
structure Flash.Grows (f g : Flash) : Prop where
  serial : g.serial = f.serial
  stepping : g.stepping = f.stepping
  slotPins : g.slotPins = f.slotPins
  mac0 : g.mac0 = f.mac0
  mac1 : g.mac1 = f.mac1
  rootKey : g.rootKey = f.rootKey
  debugKey : g.debugKey = f.debugKey
  secret : g.secret = f.secret
  commission : g.commission = f.commission
  svn : ∀ c, smGet (fun _ => 0) f.svnMin c ≤ smGet (fun _ => 0) g.svnMin c
  repair : ∀ k, smGet (fun _ => 0) f.repair k ≠ 0 → smGet (fun _ => 0) g.repair k ≠ 0
  rma : f.lifecycle = 3 → g.lifecycle = 3

/-- What only grows: what has left the module, the count that feeds free values, and what flash and fuses hold. -/
structure State.Grows (s t : State) : Prop where
  out : ∃ l, t.out = s.out ++ l
  fresh : s.fresh ≤ t.fresh
  flash : Flash.Grows s.flash t.flash

/-- Keys of a sparse map rise strictly from above `lo`. -/
def smRisesFrom {α : Type} : Option Nat → SMap α → Bool
  | _, [] => true
  | lo, (a, _) :: t => (match lo with | none => true | some l => decide (l < a)) && smRisesFrom (some a) t

/-- The invariant of the state: registers, memory and line metadata are in the canonical form, the shadow copies are in key order,
and neither completion ring holds more than its 4,096 entries (R33). -/
structure State.Inv (s : State) : Prop where
  regs : smWf regDefault s.regs = true
  shadow : smRisesFrom none s.shadow = true
  mem : memWf s.mem = true
  lines : smWf (fun _ => (default : LineMeta)) s.lines = true
  usedH : s.usedH ≤ 4096
  usedM : s.usedM ≤ 4096

end Sys2Proof.Machine
end

