-- ==== Sys2Proof/Certificates/Slice0/Notions.lean ====
section
/-! DEFINITION. Notions that the statements share: who may act on a page, when a descriptor runs and what it leaves, and which bytes
of memory a descriptor stores to. -/
namespace Sys2Proof.Machine

/-! ### Commands of masters -/

/-- The page answers and the master holds its semaphore (R15, R519). -/
def State.MayWrite (s : State) (m : Master) (pg : Page) : Prop := s.answers pg = true ∧ s.semOwner pg = m.code

/-! ### Descriptors -/

/-- Nothing holds back the issue of a descriptor without references, and its checks up to the slots find nothing (R88–R90, R95, R96, R103,
R139, R175): its opcode is that of its row, and no line that the fetch or an operand reads awaits its outcome. `serial` is 1 for the
descriptors of R90. -/
structure State.CtlReady (s : State) (lc : Nat) (d : Desc) (f : Form) (serial : Bool) (unit : Nat) : Prop where
  opcode : d.foreign f = false
  free : (s.seq lc).canIssue (d.ser || serial) unit = true
  clear : (s.seq lc).hazard f.out f.inp = false
  fetched : s.mustAwait [((s.seq lc).pc, 64)] [] = false
  front : s.frontFail lc d f = none
  lines : s.mustAwait f.inp f.out = false

/-- The state in which a descriptor's effect begins: it is counted, the stream has moved on, and its identity is taken. -/
def State.atIssue (s : State) (lc : Nat) : State := (s.issued lc).modSeq lc (fun q => { q with nextId := q.nextId + 1 })

/-- A descriptor has issued and waits, or has a signal to give. -/
def State.waiting (s : State) (lc : Nat) (d : Desc) (w : Option WaitK) (g : Option Sig) : State :=
  (s.atIssue lc).pushInfl lc { id := (s.seq lc).nextId, desc := (s.seq lc).pc, ser := d.ser, wait := w, sig := g }

/-- The stream of a core has moved past the descriptor at its program counter, at the end of a loop body to where R106 says. -/
def State.MovedOn (s t : State) (lc : Nat) : Prop := (t.seq lc).pc = ((s.seq lc).adv (s.seq lc).pc).pc

/-- A descriptor with references `r` issues (R88–R90, R95, R103, R138, R139, R175, R535): its opcode is that of its row, a slot and its unit
are free, its checks find nothing, no range that it touches is in use, no line that it reads awaits its outcome, and no limit of power
holds it. -/
structure State.RefReady (s : State) (lc : Nat) (d : Desc) (f : Form) (unit : Nat) (r : Refs) : Prop where
  opcode : d.foreign f = false
  free : (s.seq lc).canIssue d.ser unit = true
  power : unit = 3 ∨ unit = 4 → s.mod_.capHold = false ∧ s.mod_.rampHold = false
  fetched : s.mustAwait [((s.seq lc).pc, 64)] [] = false
  records : s.recBusy lc d f = false
  refs : s.prep lc d f = .ok r
  clear : (s.seq lc).hazard (f.dstOf r) (s.srcOf lc f r) = false
  serial : (d.ser || rangesMeet (f.dstOf r) [(s.tileAddr lc (s.seq lc).trec, 262144)]) = true → (s.seq lc).infl = []
  lines : s.mustAwait (s.srcOf lc f r) (f.dstOf r) = false

/-- What the issue of a descriptor leaves, where its effect is `e`: memory as the effect leaves it, the descriptor in flight with its
unit (mover 0 or 1 for a copy, R140), engines, ranges and flags, and the stream moved on. -/
structure State.RanAs (s t : State) (lc : Nat) (f : Form) (unit : Nat) (r : Refs) (es : List Nat) (e : Eff) : Prop where
  memory : t.mem = e.s.mem
  lines : t.lines = e.s.lines
  stream : s.MovedOn t lc
  flight : ∃ i, (t.seq lc).infl = (s.seq lc).infl ++ [i] ∧ i.desc = (s.seq lc).pc ∧ i.unit = (s.seq lc).unitFor unit ∧ i.engines = es
    ∧ i.dst = f.dstOf r ∧ i.src = s.srcOf lc f r ∧ i.inv = e.inv ∧ i.sat = e.sat ∧ i.trunc = e.trunc ∧ i.tags = e.tags

/-- The descriptor of a command issues with references `r` and has the effect `e`. -/
def State.Issues (s : State) (c : Instr) (lc : Nat) (f : Form) (unit : Nat) (r : Refs) (es : List Nat) (e : Eff) : Prop :=
  ∃ t, exec c s = .next t ∧ s.RanAs t lc f unit r es e

/-- What a descriptor leaves whose results are written with the flags `fl`, after `n` more invalid elements (R65). -/
def wrote (s : State) (fl : Flags) (n : Nat) : Eff := { s := s, inv := (if fl.inv then max 1 fl.invCnt else 0) + n, sat := fl.sat }

/-! The rows of Table 4.5: opcode, SUBOP where the row fixes it, immediates, references and locations. -/

def sendForm (chip : Option Nat) : Form := { copyForm 0x38 (.send chip) .own with m0 := 0x3FFF, m1 := 2 ^ 64 - 1, m2 := 1 }

def permForm (v : Nat) : Form := { copyForm 0x13 .own .own with m0 := 255, immBad := permBad v }

def convForm (quant : Bool) : Form :=
  { code := if quant then 0x17 else 0x16, need := [2, 2, 0, 0], opt := [{ dst := true, quant := quant }, {}], loc := [.own, .own] }

def fillForm : Form := { code := 0x18, m0 := 2 ^ 32 - 1, need := [2, 0, 0, 0], opt := [{ dst := true }], loc := [.own] }

def digestForm (a : Nat) : Form :=
  { code := 0x3D, m1 := 2 ^ 64 - 1, need := [0, 2, 0, 0], opt := [{}, {}], loc := [.own, .edesk], out := [(a, 16)] }

def vecForm (code : Nat) (sub : Option Nat) (need : List Nat) (m0 : Nat) : Form :=
  { code := code, sub := sub, m0 := m0, need := need, opt := vecOpt, loc := [.vec, .vec, .vec, .vec] }

def argmaxForm : Form :=
  { code := 0x33, sub := some 5, need := [2, 2, 0, 0], opt := [{ dst := true, idxReq := true }, {}], loc := [.vec, .vec] }

def Desc.collForm (d : Desc) (kind : Nat) : Form :=
  let v := d.imm0.toNat
  { code := 0x3A, kind := some kind, m0 := 0x00000FFF000003FF, m1 := 2 ^ 32 - 1,
    immBad := decide (4 ≤ v % 16) || !collComboOk kind (bitsOf v 7 4) (bitsOf v 9 8) || (decide (2 ≤ kind) && slotFmt d.refA != slotFmt d.refD),
    need := [2, 2, 0, 2], recs := [bitsOf v 43 32],
    opt := [{ dst := true, quant := bitsOf v 9 8 == 2 && fmtBS (slotFmt d.refD) }, { exact := bitsOf v 9 8 == 2 }, {}, {}],
    loc := [.own, .own, .own, .staging] }

def Desc.win? (d : Desc) : Option Win := if d.win then some (Win.of d.imm1.toNat) else none

/-- It continues the open chain (R117). -/
def Desc.continues (d : Desc) (acc : Bool) : Bool := acc && !(Ref.of d.refC).present

def Desc.matForm (d : Desc) (acc : Bool) : Form :=
  let ck := d.imm0.toNat % 2 ^ 25
  let src := if d.bypass then Loc.mat true else Loc.mat false
  { code := if acc then 0x21 else 0x20, mat := true, m0 := 2 ^ 25 - 1, m1 := if d.win then 2 ^ 48 - 1 else 0,
    immBad := d.win && (Win.of d.imm1.toNat).bad, need := [2, 2, 2, if acc then 1 else 0],
    opt := [{ dst := true, val := true }, { val := true, win := d.win, scan := if d.continues acc || d.win then 0 else ck },
            { val := true, scan := if d.continues acc then 0 else ck }, { val := true }],
    loc := [.matD, src, src, .matD] }

/-- A fault record with this code and slot has been written at the ring's head, and the program on the core is ended with status FAULT
where it was running and had not ended (R135, R429, R441). -/
structure State.Faulted (s t : State) (lc code ref : Nat) : Prop where
  code_ : bitsOf (smGet (fun _ => (0 : FaultRec)) t.faults (s.fld .fr (Fr.FR_HEAD.sub 7 0))).toNat 7 0 = code
  ref_ : bitsOf (smGet (fun _ => (0 : FaultRec)) t.faults (s.fld .fr (Fr.FR_HEAD.sub 7 0))).toNat 10 8 = ref
  ended : let n := (s.seq lc).slot
    (s.prog n).active = true → (s.prog n).ended = none → (t.prog n).ended = some 1

/-- The running command `idx` of the lead `k` has its data to move, no line that it reads or writes in part awaits its outcome, and no unit
that it reads back is PENDING (R175, R190, R212). -/
structure State.NmuTakes (s : State) (k idx op sub : Nat) (c : NCmd) : Prop where
  run : s.nmuRun k idx op sub = some c
  lines : c.src ≠ 2 → s.mustAwait (s.nmuReads c ++ (if c.op = 4 then [] else c.aux.drop 1)) (s.nmuDest c) = false
  saved : s.pendingIn (s.nmuRmw c) = []

/-- The running command `idx` of the lead `k` has moved its data: memory is as `u` leaves it, and the command ends with the status in
`e % 256`, 0 where nothing went wrong, and the address where it stopped in `e / 256` (R190, R195). -/
structure State.NmuDid (t : State) (k idx : Nat) (u : State) (e : Nat) : Prop where
  memory : t.mem = u.mem
  ended : ∃ c, (t.nmuSt k).running[idx]? = some c ∧ c.done = true ∧ c.err = e % 256 ∧ c.parg = e / 256

/-- The memory key of a byte of the own chip (R13, R163). -/
def State.memKey (s : State) (a : Nat) : Option Nat :=
  if gaSpace a = 0 then (s.edMap (gaOff a)).map (fun p => edKey p.1 p.2)
  else if gaSpace a = 1 then some (sramKey (gaOff a)) else none

/-- The memory keys of the bytes of a range. -/
def State.rangeKeys (s : State) (a n : Nat) : List Nat := (List.range n).filterMap (fun i => s.memKey (a + i))

/-- The memory keys of the rows of a tensor. -/
def State.tensKeys (s : State) (t : Tens) : List Nat := t.rows.flatMap (fun r => s.rangeKeys r.1 r.2)

/-- The memory keys that a descriptor with destination `x` stores to: its rows and the rows of its scales. -/
def State.destKeys (s : State) (x : Tref) : List Nat :=
  s.tensKeys x.t ++ (match x.sc with | some c => s.tensKeys c | none => [])

/-- Every byte of memory outside the keys is as it was. -/
def State.KeepsBytes (s t : State) (keys : List Nat) : Prop := ∀ k, k ∉ keys → t.byte k = s.byte k

/-! ### Writes of registers through the page semaphore -/

/-- The master and the page of a command that is a write of a register (R15). -/
def writeOf : Instr → Option (Master × Page)
  | .ckAbort m | .ckNow m | .stoExport m _ | .stoImport m _ | .stoConsWrite m _ | .stoProdWrite m _ _ => some (m, .ck)
  | .mapoutGo m k _ | .rcrEn m k _ _ => some (m, .mc k)
  | .scrubNow m k | .scrubCtrlWrite m k _ => some (m, .scr k)
  | .epArm m _ _ | .epCancel m _ => some (m, .ep)
  | .planArm m | .planCancel m | .planWinDataWrite m _ => some (m, .fab)
  | .kalReplace m e _ | .kalModeWrite m e _ => some (m, .kal e)
  | .retrain m p | .portEnable m p _ => some (m, .lnk p)
  | .ftNow m | .ftSweep m => some (m, .ft)
  | .fpRestart m => some (m, .fp)
  | .failover m => some (m, .cc)
  | .freeze m _ | .thaw m _ => some (m, .flip)
  | .bar2SelWrite m _ => some (m, .hst)
  | .bindArm m d c _ => some (m, .cluster d c)
  | .cplConsWrite m host _ => some (m, (if host then .lchHost else .lchMgt))
  | .laneDisable m p | .laneClear m p => some (m, .lan p)
  | .keyErase m _ => some (m, .cry 0)
  | .frtDataHiWrite m _ | .rnkSlotPartWrite m _ | .rnkDataWrite m _ | .peerDataWrite m _ => some (m, .rt)
  | .ringTestCmd m e _ | .calNow m e | .tblDataWrite m e _ => some (m, .rng e)
  | .lasCmdSwitch m e x | .lasCmdNow m e x => some (m, .las e x)
  | .monGoNow m e | .monGoAtTick m e => some (m, .mon e)
  | .chipIdWrite m _ | .removeReq m | .removeCancel m => some (m, .glb)
  | .nmuPagePost m k _ => some (m, .nmu k)
  | .partClaim m | .partArm m | .partDrain m | .partRetire m | .partFree m => some (m, .part)
  | .lineCmdClaim m _ | .lineCmdRelease m => some (m, .line)
  | .ctxBind m | .ctxRetire m | .ctxUnbind m => some (m, .ctx)
  | .loss m _ | .halt m | .rollback m | .pull m _ _ | .loadSlot m | .rebuild m _ | .clearAbsent m => some (m, .rc)
  | .rstGo m => some (m, .rst)
  | .sigAck m => some (m, .sig)
  | .restep m | .timCfgWrite m _ => some (m, .time)
  | .trgArm m _ _ _ _ => some (m, .trg)
  | .ctrClr m b off _ => ((Page.ofBase b).filter (fun p => p.ctrClrOffs.contains off)).map (fun p => (m, p))
  | .unitReset m b => (Page.ofBase b).map (fun p => (m, p))
  | _ => none

/-- The registers that an error bit of a page touches: ERR_STAT, ERR_FIRST, ERR_COUNT, and IRQ_SUMMARY (R14). -/
def errKeys (pg : Page) : List Nat := [regKey pg 0x18 0, regKey pg 0x20 0, regKey pg 0x24 0, regKey .glb 0x130 0]

/-- Every register outside the keys is as it was. -/
def State.OnlyRegs (s t : State) (keys : List Nat) : Prop := ∀ k, k ∉ keys → t.reg k = s.reg k

/-! ### Flits -/

/-- What a flit command brings: port, channel, what the receiver finds on it, the flit, and its time of arrival (R225, R229). -/
def flitOf : Instr → Option (Nat × Nat × RxObs × Flit × Nat)
  | .flitWr p n o h a d => some (p, n, o, { h := h, p := .wr a d }, 0)
  | .flitRdReq p n o h a k t => some (p, n, o, { h := h, p := .rdReq a k t }, 0)
  | .flitRdRsp p n o h t e d => some (p, n, o, { h := h, p := .rdRsp t e d }, 0)
  | .flitSig p n o h a v w => some (p, n, o, { h := h, p := .sig a v w }, 0)
  | .flitAckE2e p n o h t e => some (p, n, o, { h := h, p := .ackE2e t e }, 0)
  | .flitCollData p n o h c d => some (p, n, o, { h := h, p := .collData c d }, 0)
  | .flitCollCredit p n o h t r k => some (p, n, o, { h := h, p := .collCredit t r k }, 0)
  | .flitCollAbort p n o h t c a => some (p, n, o, { h := h, p := .collAbort t c a }, 0)
  | .flitMgmt p n o h m => some (p, n, o, { h := h, p := .mgmt m }, 0)
  | .flitResume p n o h b q r => some (p, n, o, { h := h, p := .resume b q r }, 0)
  | .flitIdle p n o h => some (p, n, o, { h := h, p := .idle }, 0)
  | .flitAck p n o h es => some (p, n, o, { h := h, p := .ack es }, 0)
  | .flitNak p n o h es => some (p, n, o, { h := h, p := .nak es }, 0)
  | .flitCredit p n o h cs => some (p, n, o, { h := h, p := .credit cs }, 0)
  | .flitHeartbeat p n o h c q l b t k => some (p, n, o, { h := h, p := .heartbeat c q l b t k }, 0)
  | .flitYoyo p n o h y => some (p, n, o, { h := h, p := .yoyo y }, 0)
  | .flitTime p n o h t a => some (p, n, o, { h := h, p := .time t }, a)
  | .flitTrain p n o h t a => some (p, n, o, { h := h, p := .train t }, a)
  | .laneCtrlAdd p n o h b q l e => some (p, n, o, { h := h, p := .laneCtrl { op := 0, bundle := b, port := q, lane := l, eff := e } }, 0)
  | .laneCtrlRemove p n o h b q l e => some (p, n, o, { h := h, p := .laneCtrl { op := 1, bundle := b, port := q, lane := l, eff := e } }, 0)
  | .laneCtrlReplace p n o h b q l r e =>
    some (p, n, o, { h := h, p := .laneCtrl { op := 2, bundle := b, port := q, lane := l, repl := r, eff := e } }, 0)
  | .ringNotice p n o h b q c => some (p, n, o, { h := h, p := .laneCtrl { op := 3, bundle := b, port := q, cause := c } }, 0)
  | .ringAligned p n o h b q => some (p, n, o, { h := h, p := .laneCtrl { op := 4, bundle := b, port := q } }, 0)
  | _ => none

/-- A type of flit that carries a SEQ (Table 8.3). -/
def Pay.sequenced : Pay → Bool
  | .idle | .ack _ | .nak _ | .heartbeat _ _ _ _ _ _ | .time _ | .train _ => false
  | _ => true

/-- A flit for this chip arrives whole on a trained channel of a bundle that is not DEAD (R229 steps 1 and 2). -/
structure State.Arrives (s : State) (p n : Nat) (o : RxObs) (h : FlitHdr) : Prop where
  on : s.rxOn p n = true
  crc : o.crcOk = true
  trained : s.rxTrained p n = true
  next : h.next = s.chip
  alive : s.bndSt (s.rxBundle p n) ≠ 2

/-- It is the next of its bundle, nothing waits behind it, and no change of lanes is due (R229 steps 4 and 5, R235). -/
structure State.InTurn (s : State) (p n : Nat) (o : RxObs) (h : FlitHdr) : Prop where
  arrives : s.Arrives p n o h
  seq : h.seq = (s.bundle (s.rxBundle p n)).rxNext
  alone : (s.bundle (s.rxBundle p n)).reorder = []
  settled : (s.bundle (s.rxBundle p n)).ctl = []

/-- It lies ahead of the next of its bundle, and nothing that waits comes before it (R229 step 4). -/
structure State.Ahead (s : State) (p n : Nat) (o : RxObs) (h : FlitHdr) : Prop where
  arrives : s.Arrives p n o h
  gap : h.seq ≠ (s.bundle (s.rxBundle p n)).rxNext ∧ seqDist (s.bundle (s.rxBundle p n)).rxNext h.seq < 32768
  others : ∀ e ∈ (s.bundle (s.rxBundle p n)).reorder, e.1.h.seq ≠ h.seq ∧ e.1.h.seq ≠ (s.bundle (s.rxBundle p n)).rxNext

/-- It ends at this chip, its tag matches under an installed key, no fence bars it, and it belongs to a partition and context of this
device (R241, R349). -/
structure State.Accepts (s : State) (p n : Nat) (o : RxObs) (h : FlitHdr) (pay : Pay) : Prop where
  turn : s.InTurn p n o h
  here : h.dest = s.chip
  tag : s.tagOk { h := h, p := pay, raw := o.bytes.getD [] } = true
  src : s.fenced h.src h.part = false
  dst : s.fenced h.dest h.part = false
  part : s.partDrop h pay = none

/-- A change of lanes that names the SEQ `eff` is due when it is released on bundle `b` and concerns bundle `e` (R232, R235): that SEQ has been
released, or the bundle is not UP. -/
def State.CtlNow (s : State) (b e eff : Nat) : Prop :=
  let d := seqDist (if e = b then ((s.bundle b).rxNext + 1) % 65536 else (s.bundle e).rxNext) eff
  s.bndUp e = false ∨ d = 0 ∨ 32768 ≤ d

/-- The state in which the flit takes its effect differs in what the link itself keeps: the bundle's numbers and credits, the counters of
its port, and when the bundle was heard. -/
structure State.Booked (s u : State) (p n : Nat) : Prop where
  only : s.changesOnly [.bundles, .ports, .page Page.bnd.kind, .page (Page.lnk 0).kind, .page (Page.cry 0).kind] u
  turn : (u.bundle (s.rxBundle p n)).rxNext = ((s.bundle (s.rxBundle p n)).rxNext + 1) % 65536
  ack : (u.bundle (s.rxBundle p n)).ackDue = true
  heard : u.fld64 .bnd Bnd.BND_HEARD_LO (s.rxBundle p n) = s.tick

/-! ### Mailboxes -/

/-- TYPE of the frame of a management command (Table 18.7). -/
def mgType : Instr → Nat
  | .mgmtRead _ _ _ _ => 1
  | .mgmtWrite _ _ _ _ => 2
  | .sessionOpen _ => 5
  | .sessionClose _ => 6
  | _ => 7

/-- The master may post in a mailbox (R454). -/
def ownBox (m : Master) (n : Nat) : Prop := (m = .host ∧ n < 16) ∨ (m = .mgmt ∧ 16 ≤ n ∧ n < 32)

/-- In RECOVERY mailboxes 0 and 16 take firmware requests only (R480). -/
def State.boxOpen (s : State) (n op : Nat) : Prop := s.inRecovery = true → n % 16 = 0 ∧ 0x10 ≤ op ∧ op ≤ 0x12

/-- No request of the mailbox waits for an answer (R456). -/
def State.boxIdle (s : State) (n : Nat) : Prop := (s.mboxAt n).posted = true → (s.mboxAt n).answered = true

/-- The mailbox holds this very request, not answered yet. -/
def State.boxHolds (s : State) (n op : Nat) (h : MHdr) : Prop :=
  (s.mboxAt n).posted = true ∧ (s.mboxAt n).answered = false ∧ (s.mboxAt n).op = op ∧ (s.mboxAt n).h.seq = h.seq

/-- A post that the mailbox accepts, or the request that it holds (R454, R456). -/
structure State.Posts (s : State) (m : Master) (n op : Nat) (h : MHdr) : Prop where
  on : s.mod_.stby = true
  own : ownBox m n
  open_ : s.boxOpen n op
  turn : s.boxIdle n ∨ s.boxHolds n op h

/-- A request that its target takes up and considers (R452, R456, R457). -/
structure State.Considers (s : State) (m : Master) (n op : Nat) (h : MHdr) : Prop where
  posts : s.Posts m n op h
  target : h.target ≤ 16
  alive : h.target ≠ 0 → s.procFailed h.target = false ∧ s.procSt h.target ≠ 1
  controller : h.target = 0 → (s.ccDown = false ∨ s.inRecovery = true) ∧ s.cc.takeover = none
  taken : h.taken = true
  major : h.major = 1
  known : opKnown op h.target = true
  length : h.lenOk = true

def State.mboxByte (s : State) (n off : Nat) : Byte := smGet (fun _ => (0 : Byte)) s.mboxMem (n * 16384 + off)

/-- The mailbox is answered with a status and a payload (R456). -/
structure State.Answered (t : State) (n status : Nat) (b : List Byte) : Prop where
  done : (t.mboxAt n).answered = true
  status_ : (t.mboxAt n).status = status
  kind : t.mboxByte n 0x2000 = 2
  payload : ∀ i < b.length, t.mboxByte n (0x2040 + i) = b.getD i 0

end Sys2Proof.Machine
end

