-- ==== Sys2Proof/Certificates/Slice0/Parts.lean ====
section
/-! DEFINITION. Which parts of the state each command may change, as a table that the frame statement uses. -/
namespace Sys2Proof.Machine

/-- The registers of the pages of one kind. -/
def pk (pg : Page) : Part := .page pg.kind

/-- What an event writes: the Flip-book and its stream, the interrupt of the management page, a capture it triggers. -/
def ofEvents : List Part := [pk .mgt, pk .trg, pk .flip, .output, .fresh, .flipbook, .time]

/-- What a write through a page semaphore may touch besides: the lease, and where it is dropped the count and its event. -/
def ofWrites : List Part := [pk .glb, .semTick]

/-- What sending a flit end to end touches: keys, routes, bundles. -/
def ofFlits : List Part := [pk .part, pk (.cry 0), pk .rt, .bundles, .noroute, .dropTick]

/-- What a write to memory touches: lines, and snapshot units held back. -/
def ofMemory : List Part := [pk (.mc 0), pk (.mat 0), .memory, .lines, .mats]

/-- The pages of cores and engines, and their sequencers and programs. -/
def ofCores : List Part := [pk (.core 0 0 0), pk (.eng 0 0 0 0), .progs, .seqs]

/-- The fault ring. -/
def ofFaults : List Part := [pk .fr, .faults]

/-- The issue of a descriptor: seals and core counters. -/
def ofIssue : List Part := [pk .sec, .cores, .sealTick]

/-- The pages of links and lanes. -/
def ofLanes : List Part := [pk (.lnk 0), pk (.lan 0), pk .bnd, pk (.rng 0), .lanes, .rings]

/-- A mailbox. -/
def ofMailbox : List Part := [.mbox, .mboxMem]

/-- The NMUs. -/
def ofNmus : List Part := [pk (.nmu 0), .nmus]

/-- The registers of every page. -/
def everyPage : List Part := (List.range 64).map Part.page

/-- Every part. -/
def everyPart : List Part :=
  everyPage ++ [.pending, .shadow, .memory, .lines, .output, .fresh, .module, .flash, .flipbook, .semTick, .semTie, .slots, .progs, .ring,
  .heldH, .heldM, .usedH, .usedM, .seqs, .stks, .reads, .mats, .nmus, .seals, .resets, .bundles, .lanes, .ports, .outst, .plan, .rings,
  .engs, .keys, .jobKeys, .decap, .frtLo, .noroute, .dropTick, .cores, .binds, .fences, .parts, .lineXs, .lineTag, .eps, .skews, .yoyoCur,
  .yoyoDue, .time, .ftNow, .ct, .colls, .taps, .nmuDone, .cks, .rcs, .mirs, .dgs, .fts, .sigs, .sigAcks, .sealTick, .faults, .sec, .mbox,
  .mboxMem, .procs, .cc, .upds, .sess, .mg, .portCnt]

/-- Every part but some. -/
def allBut (l : List Part) : List Part := everyPart.filter (fun p => !l.contains p)

/-- The parts of the state that a command may change; it leaves every other part as it was. -/
def mayChange : Instr → List Part
  | .powerOn =>
    allBut [.pending]
  | .edeskInitDone =>
    ofEvents ++ [pk .glb, pk (.mc 0), pk (.scr 0), .module, .stks]
  | .powerLoss =>
    allBut [.pending, .output, .fresh, .flash]
  | .inputVoltageExcursion .. | .overcurrentTrip | .thermalTrip .. =>
    allBut [.pending, .flash]
  | .powerCapHold .. | .thermalThrottleChange .. =>
    ofEvents ++ [pk .pwr, .module]
  | .capEffStep =>
    [pk .pwr, .module]
  | .tickEdge .. =>
    allBut [.pending, .semTick, .semTie, .reads, .seals, .resets, .keys, .jobKeys, .decap, .frtLo, .fences, .lineTag, .skews, .mirs, .dgs,
    .sigs, .sigAcks, .sec, .upds]
  | .registerWrite .. =>
    allBut [.pending, .flash, .semTie, .reads, .skews, .yoyoCur, .yoyoDue, .ftNow, .sec, .cc, .upds]
  | .semAcquire .. =>
    everyPage ++ [.output, .fresh, .flipbook, .semTick, .semTie, .time]
  | .semRelease .. =>
    everyPage
  | .ctrClr .. =>
    everyPage ++ [.output, .fresh, .flipbook, .semTick, .nmus, .lanes, .ports, .cores, .time, .portCnt]
  | .unitReset .. | .rstGo .. =>
    ofEvents ++ ofWrites ++ ofFlits ++ ofMemory ++ ofCores ++ ofFaults ++ ofNmus ++ [pk .hst, pk .rst, pk .stp, pk .ct, pk .ck, pk .dg, pk
    .ft, pk (.cluster 0 0), .module, .stks, .resets, .outst, .plan, .binds, .fences, .colls, .cks, .mirs, .dgs, .fts, .sess, .mg]
  | .bindArm .. =>
    ofEvents ++ ofWrites ++ [pk .stp, pk (.cluster 0 0), .binds]
  | .bindCopyDone .. =>
    ofEvents ++ ofFlits ++ ofMemory ++ ofCores ++ ofFaults ++ ofNmus ++ [pk .hst, pk .stp, pk .ct, pk .ck, pk .dg, pk (.cluster 0 0), .stks,
    .outst, .plan, .binds, .fences, .cks, .mirs, .dgs, .sess, .mg]
  | .launchPost .. =>
    ofEvents ++ [pk .lchHost, pk .lchMgt, pk .time, .slots]
  | .launchCancel .. | .launchEmpty .. | .launchEntryWrite .. =>
    ofEvents ++ [pk .lchHost, pk .lchMgt, .slots]
  | .programComplete .. =>
    ofEvents ++ ofCores ++ [pk .lchHost, pk .lchMgt, pk .stp, .slots, .ring, .heldH, .heldM, .usedH, .usedM, .outst, .taps]
  | .cplConsWrite .. =>
    ofEvents ++ ofWrites ++ [pk .lchHost, pk .lchMgt, .slots, .ring, .heldH, .heldM, .usedH, .usedM]
  | .stepFenceComplete .. =>
    everyPage ++ [.shadow, .memory, .lines, .output, .fresh, .flipbook, .progs, .seqs, .stks, .mats, .nmus, .bundles, .outst, .plan, .engs,
    .noroute, .dropTick, .binds, .fences, .parts, .eps, .time, .ct, .colls, .cks, .mirs, .dgs, .faults, .sess, .mg]
  | .descriptorComplete .. | .resetEscalate .. =>
    ofEvents ++ ofFlits ++ ofMemory ++ ofCores ++ ofFaults ++ ofNmus ++ [pk .hst, pk .rst, pk .stp, pk .ct, pk .ck, pk .dg, pk .ft, pk
    (.cluster 0 0), .module, .stks, .resets, .outst, .plan, .binds, .fences, .colls, .cks, .mirs, .dgs, .fts, .sess, .mg]
  | .nop .. | .endStream .. | .setReg .. | .loop .. | .waitGe .. | .waitEq .. | .waitNe .. | .waitAssert .. | .waitDrain .. | .tickw ..
  | .stepf .. | .nmcall .. =>
    ofEvents ++ ofFlits ++ ofCores ++ ofFaults ++ ofIssue ++ ofNmus ++ [pk .hst, pk (.mc 0), .stks, .reads, .mats, .plan, .sess, .mg]
  | .waitConditionMet .. =>
    ofEvents ++ ofFlits ++ ofCores ++ ofFaults ++ ofNmus ++ [pk .hst, pk (.mc 0), .stks, .reads, .mats, .plan, .sess, .mg]
  | .waitTimeout .. | .recvSatisfied .. | .edeskLineWrite .. | .edeskPartialWrite .. | .nmuFill .. | .nmuCopy .. | .rsEnc .. | .rsAcc ..
  | .rsDec .. | .nmuDigest .. | .optSgd .. | .optAdamw .. | .gaccAdd .. | .gaccRead .. | .gaccReadClear .. | .nmuGather ..
  | .scatterAddFp32 .. | .scatterAddExact .. | .convertCast .. | .convertQuantise .. | .nmuScrub .. | .snapArm .. | .snapAbort .. =>
    ofEvents ++ ofFlits ++ ofMemory ++ ofCores ++ ofFaults ++ ofNmus ++ [pk .hst, .stks, .reads, .plan, .sess, .mg]
  | .signalAdd .. | .signalWrite .. | .load .. | .store .. | .move .. | .send .. =>
    ofEvents ++ ofFlits ++ ofMemory ++ ofCores ++ ofFaults ++ ofIssue ++ ofNmus ++ [pk .hst, .stks, .reads, .outst, .plan, .sess, .mg]
  | .transpose .. | .gather .. | .scatterAdd .. | .cast .. | .quantise .. | .fill .. | .matmul .. | .matmulAcc .. | .unaryCopy ..
  | .unaryNeg .. | .unaryAbs .. | .unaryRelu .. | .unarySquare .. | .unaryRecip .. | .unarySqrt .. | .unaryRsqrt .. | .unaryExp ..
  | .unaryExp2 .. | .unaryLog .. | .unaryLog2 .. | .unaryTanh .. | .unaryErf .. | .unarySin .. | .unaryCos .. | .unarySigmoid ..
  | .unarySilu .. | .unaryGeluTanh .. | .unaryGeluErf .. | .binaryAdd .. | .binarySub .. | .binaryMul .. | .binaryDiv .. | .binaryMax ..
  | .binaryMin .. | .fma .. | .rowredSum .. | .rowredMax .. | .rowredMin .. | .rowredAbsmax .. | .rowredSumsq .. | .rowredArgmax ..
  | .softmax .. | .normLayernorm .. | .normRmsnorm .. | .recv .. | .digest .. =>
    ofEvents ++ ofFlits ++ ofMemory ++ ofCores ++ ofFaults ++ ofIssue ++ ofNmus ++ [pk .hst, .stks, .reads, .plan, .sess, .mg]
  | .collAllReduce .. | .collReduceScatter .. | .collAllGather .. | .collAllToAll .. =>
    ofEvents ++ ofFlits ++ ofMemory ++ ofCores ++ ofFaults ++ ofIssue ++ ofNmus ++ [pk .hst, pk .ari, pk .ct, pk .rc, pk (.cluster 0 0),
    .stks, .reads, .outst, .plan, .parts, .colls, .taps, .sess, .mg]
  | .collTimeout .. =>
    ofEvents ++ ofFlits ++ ofMemory ++ ofCores ++ ofFaults ++ [pk .ari, pk .ct, pk .rc, pk (.cluster 0 0), .stks, .outst, .plan, .parts,
    .colls, .taps]
  | .edeskRead .. =>
    ofEvents ++ ofFlits ++ ofCores ++ ofFaults ++ ofNmus ++ [pk .hst, pk (.mc 0), .memory, .lines, .stks, .reads, .mats, .plan, .sess, .mg]
  | .recomputeDone .. =>
    ofEvents ++ ofFlits ++ ofMemory ++ ofCores ++ ofFaults ++ ofNmus ++ [pk .hst, pk .sec, .stks, .reads, .outst, .plan, .nmuDone,
    .sealTick, .sess, .mg]
  | .recomputeTimeout .. =>
    ofEvents ++ ofFlits ++ ofMemory ++ ofCores ++ ofFaults ++ ofNmus ++ [pk .hst, .stks, .reads, .outst, .plan, .sess, .mg]
  | .mapoutGo .. =>
    ofEvents ++ ofWrites ++ [pk (.mc 0), .memory, .lines]
  | .mapoutGranuleCopy .. =>
    ofEvents ++ [pk (.mc 0), .lines, .flash]
  | .rcrEn .. =>
    ofEvents ++ ofWrites ++ [pk .sec, pk (.mc 0), .sealTick]
  | .scrubLine .. =>
    ofEvents ++ [pk (.mc 0), pk (.scr 0), .memory, .lines, .stks]
  | .scrubNow .. | .scrubCtrlWrite .. =>
    ofEvents ++ ofWrites ++ [pk (.scr 0), .stks]
  | .nmuPagePost .. =>
    ofEvents ++ ofWrites ++ ofNmus ++ [pk (.mc 0)]
  | .nmuCmdStart .. | .nmuCmdComplete .. =>
    ofEvents ++ ofFlits ++ ofMemory ++ ofCores ++ ofFaults ++ ofNmus ++ [pk .hst, pk .sec, pk .ck, .stks, .outst, .plan, .nmuDone, .cks,
    .sealTick, .sess, .mg]
  | .snapUnitSaved .. | .snapUnitConsumed .. | .snapHoldTimeout .. =>
    ofEvents ++ ofFlits ++ ofMemory ++ ofCores ++ ofFaults ++ ofNmus ++ [pk .hst, .stks, .outst, .plan, .sess, .mg]
  | .flitWr .. | .flitRdReq .. | .flitRdRsp .. | .flitSig .. | .flitAckE2e .. | .flitCollData .. | .flitCollCredit .. | .flitCollAbort ..
  | .flitMgmt .. | .flitResume .. | .flitIdle .. | .flitAck .. | .flitNak .. | .flitCredit .. | .flitHeartbeat .. | .flitYoyo ..
  | .flitTime .. | .flitTrain .. | .laneCtrlAdd .. | .laneCtrlRemove .. | .laneCtrlReplace .. | .ringNotice .. | .ringAligned .. =>
    allBut [.pending, .flash, .semTie, .yoyoCur, .ftNow, .sec, .cc, .upds]
  | .ackTimer .. =>
    [.output, .bundles]
  | .nakSkewTimer .. =>
    [pk (.lnk 0), .output]
  | .retryTimeout .. =>
    [pk (.lnk 0), pk .bnd, .bundles]
  | .laneLos .. | .windowCheck .. | .ringRxLos .. | .heaterFault .. =>
    ofEvents ++ ofFlits ++ ofLanes ++ [pk (.kal 0), .plan, .engs]
  | .laneTrainTimeout .. =>
    ofEvents ++ [pk (.lnk 0), pk (.lan 0), .lanes]
  | .laneRetrainTimer .. | .quarantineEnd .. =>
    ofEvents ++ [pk (.lan 0), pk (.rng 0), pk (.kal 0), .lanes, .rings]
  | .strikeReset .. =>
    [pk (.lan 0), .lanes]
  | .laneDisable .. =>
    ofEvents ++ ofWrites ++ ofFlits ++ [pk (.lnk 0), pk (.lan 0), pk .bnd, pk (.kal 0), .lanes, .plan]
  | .laneClear .. =>
    ofEvents ++ ofWrites ++ [pk (.lan 0), .lanes]
  | .retrain .. | .portEnable .. =>
    ofEvents ++ ofWrites ++ ofFlits ++ ofLanes ++ [pk (.kal 0), .ports, .plan]
  | .bundleDeadTimeout .. =>
    ofEvents ++ ofFlits ++ [pk .bnd, pk (.kal 0), .plan]
  | .resumeTimeout .. =>
    ofEvents ++ [pk (.lnk 0), pk .bnd, .bundles]
  | .keyErase .. =>
    ofEvents ++ ofWrites ++ [pk (.cry 0), .keys]
  | .frtDataHiWrite .. =>
    ofEvents ++ ofWrites ++ [.shadow]
  | .rnkSlotPartWrite .. | .rnkDataWrite .. =>
    ofEvents ++ ofWrites ++ [pk .ep, .shadow]
  | .peerDataWrite .. =>
    everyPage ++ [.output, .fresh, .flipbook, .semTick, .time]
  | .planArm .. =>
    ofEvents ++ ofWrites ++ [pk .fab]
  | .planCancel .. | .planWinDataWrite .. =>
    ofEvents ++ ofWrites ++ [pk .fab, .plan]
  | .planWinDataRead =>
    [pk .fab, .output]
  | .planActivation =>
    ofEvents ++ ofFlits ++ ofLanes ++ [pk (.kal 0), pk .fab, .ports, .plan]
  | .ringMoveDone .. =>
    ofEvents ++ ofFlits ++ ofLanes ++ [pk (.kal 0), .plan]
  | .recableSettle =>
    ofEvents ++ ofFlits ++ [pk (.lnk 0), pk (.lan 0), pk .bnd, pk (.kal 0), pk .fab, .lanes, .ports, .plan]
  | .kalReplace .. =>
    ofEvents ++ ofWrites ++ ofFlits ++ ofLanes ++ [pk (.kal 0), .plan, .engs]
  | .kalModeWrite .. =>
    ofEvents ++ ofWrites ++ [pk (.kal 0)]
  | .reacqTestStart .. | .reacqTestDone .. =>
    ofEvents ++ [pk (.rng 0), pk (.kal 0), .rings]
  | .ringTestCmd .. =>
    ofEvents ++ ofWrites ++ [pk (.rng 0), .rings, .engs]
  | .calPeriodDue .. | .calTempDue .. =>
    [pk (.rng 0), .ports, .engs]
  | .calNow .. =>
    ofEvents ++ ofWrites ++ [pk (.rng 0), .ports, .engs]
  | .calibrationDone .. =>
    ofEvents ++ ofFlits ++ ofLanes ++ [pk (.kal 0), .ports, .plan, .engs]
  | .abruptLaserLoss .. =>
    ofEvents ++ ofFlits ++ [pk (.lnk 0), pk (.lan 0), pk .bnd, pk (.las 0 0), pk (.rng 0), pk (.kal 0), .lanes, .ports, .plan, .engs]
  | .laserSwitchPoint .. =>
    [pk (.lnk 0), pk (.cry 0), pk .bnd, pk (.las 0 0), .output, .bundles, .ports, .plan, .engs]
  | .laserSwitchDone .. =>
    ofEvents ++ ofFlits ++ [pk (.lnk 0), pk (.lan 0), pk .bnd, pk (.las 0 0), pk (.rng 0), pk (.kal 0), .lanes, .plan, .engs]
  | .lasCmdSwitch .. | .lasCmdNow .. =>
    ofEvents ++ ofWrites ++ [pk (.las 0 0), .engs]
  | .tblDataWrite .. =>
    ofEvents ++ ofWrites ++ [pk (.rng 0)]
  | .monGoNow .. | .monGoAtTick .. =>
    ofEvents ++ ofWrites ++ [pk (.mon 0), .engs]
  | .monTickReached .. | .monReadingDone .. =>
    [pk (.mon 0), .engs]
  | .restep .. =>
    ofEvents ++ ofWrites ++ [pk .time, .slots]
  | .timCfgWrite .. =>
    ofEvents ++ ofWrites ++ [pk .time]
  | .rootLossExpiry =>
    ofEvents ++ [pk .time]
  | .timeSourceLoss | .ptpSync .. | .ptpFollowUp .. | .ptpAnnounce .. | .mgmtPortLinkChange .. =>
    ofEvents ++ [pk .time, pk .ptp]
  | .holdoverLong | .triggerFire .. | .ppsInLost | .freezeMaxExpiry =>
    ofEvents
  | .ptpDelayResp .. =>
    [pk .ptp, .time]
  | .ptpDelayReq .. =>
    [pk .ptp, .output, .time]
  | .timeSecLoRead .. =>
    [pk .time, .output, .time]
  | .timeFracRead | .ppsOutPulse | .capSecLoRead .. =>
    [.output, .time]
  | .trgArm .. | .freeze .. | .thaw .. =>
    ofEvents ++ ofWrites
  | .ppsInEdge .. =>
    [pk .trg, .time]
  | .capFracRead .. =>
    [pk .trg, .output, .time]
  | .partClaim .. =>
    ofEvents ++ ofWrites ++ [pk .part, pk .ep, pk .rt]
  | .partArm .. | .partDrain .. =>
    ofEvents ++ ofWrites ++ [pk .part]
  | .partRetire .. =>
    ofEvents ++ ofWrites ++ ofFlits ++ ofMemory ++ ofCores ++ ofFaults ++ ofNmus ++ [pk .hst, pk .ctx, pk .ep, pk .ck, pk .rc, pk (.cluster
    0 0), .stks, .outst, .plan, .parts, .eps, .colls, .cks, .rcs, .sess, .mg]
  | .partFree .. =>
    everyPage ++ [.shadow, .output, .fresh, .flipbook, .semTick, .seals, .bundles, .lanes, .plan, .rings, .keys, .jobKeys, .decap, .noroute,
    .dropTick, .parts, .lineXs, .lineTag, .time, .ct]
  | .runTickReached .. =>
    ofEvents ++ [pk .part, pk .stp, .parts]
  | .rampDone .. =>
    ofEvents ++ [pk .part]
  | .drainTickReached .. =>
    ofEvents ++ ofFlits ++ ofMemory ++ ofCores ++ ofFaults ++ ofNmus ++ [pk .hst, pk .ctx, pk .ep, pk .ck, pk .rc, pk (.cluster 0 0), .stks,
    .outst, .plan, .parts, .eps, .colls, .cks, .rcs, .sess, .mg]
  | .retireBarrierDone .. | .retireBarrierBound .. =>
    ofEvents ++ [pk .part, pk .ctx, .memory, .parts]
  | .lineCmdClaim .. | .lineCmdRelease .. =>
    ofEvents ++ ofWrites ++ ofFlits ++ ofLanes ++ [pk .line, pk (.kal 0), .plan, .lineXs, .lineTag]
  | .lineClaimReq .. | .lineClaimNak .. | .lineClaimRel .. | .lineClaimRelAck .. | .lineReqTimeout .. =>
    everyPage ++ [.shadow, .output, .fresh, .flipbook, .seals, .bundles, .lanes, .plan, .rings, .keys, .jobKeys, .decap, .noroute,
    .dropTick, .parts, .lineXs, .time, .ct]
  | .lineClaimAck .. =>
    ofEvents ++ ofFlits ++ ofLanes ++ [pk .line, pk (.kal 0), .plan, .lineXs]
  | .lineClaimRelWait .. =>
    [.lineXs]
  | .lineUnconfirmed .. =>
    ofEvents ++ [.lineXs]
  | .ctxBind .. | .ctxUnbind .. =>
    ofEvents ++ ofWrites ++ [pk .ctx]
  | .ctxRetire .. =>
    ofEvents ++ ofWrites ++ ofCores ++ ofNmus ++ [pk .ctx, pk (.cluster 0 0), pk (.mc 0), .outst, .colls]
  | .teardownAck .. =>
    ofEvents ++ [pk .ctx, .bundles, .plan, .parts]
  | .epArm .. | .epCancel .. =>
    ofEvents ++ ofWrites ++ [pk .ep, pk .stp, .eps]
  | .epochTickActivation .. =>
    everyPage ++ [.shadow, .output, .fresh, .flipbook, .eps, .time, .ct]
  | .epochDigestReady .. =>
    [pk .ep]
  | .epochSkewTimeout .. =>
    ofEvents ++ [pk .ep, .skews, .yoyoDue]
  | .imgDataRead =>
    [pk .ep, .output]
  | .ctValidationDone .. =>
    ofEvents ++ ofFlits ++ [pk .ct, pk .dg, .plan, .ct, .mirs]
  | .buddyHelloRetry .. =>
    ofEvents ++ ofFlits ++ [.plan, .mirs]
  | .buddyHello .. =>
    ofEvents ++ ofFlits ++ [pk .ct, .plan, .mirs]
  | .buddyReply .. | .mirrorDigest .. =>
    ofEvents ++ [pk .ct, .mirs]
  | .ckUnit .. | .checkpointLocalDone .. | .stripeDone .. =>
    ofEvents ++ ofFlits ++ ofMemory ++ [pk .ck, .stks, .outst, .plan, .cks]
  | .commitRecordLanded .. =>
    ofEvents ++ ofFlits ++ ofMemory ++ [pk .ck, .stks, .plan, .cks]
  | .commitAck .. | .ckptAbort .. | .ckTimeout .. =>
    ofEvents ++ ofFlits ++ ofMemory ++ ofCores ++ ofFaults ++ ofNmus ++ [pk .hst, pk .ck, .stks, .outst, .plan, .cks, .sess, .mg]
  | .ckAbort .. | .ckNow .. =>
    ofEvents ++ ofWrites ++ ofFlits ++ ofMemory ++ ofCores ++ ofFaults ++ ofNmus ++ [pk .hst, pk .ck, .stks, .outst, .plan, .cks, .sess,
    .mg]
  | .stoExport .. | .stoImport .. | .stoConsWrite .. =>
    ofEvents ++ ofWrites ++ [pk .ck, .cks]
  | .stoProdWrite .. =>
    ofEvents ++ ofWrites ++ ofMemory ++ [pk .ck, .stks, .cks]
  | .loss .. =>
    ofEvents ++ ofWrites ++ ofFlits ++ ofMemory ++ ofCores ++ ofFaults ++ ofNmus ++ [pk .hst, pk .ari, pk .ct, pk .ck, pk .rc, pk (.cluster
    0 0), .stks, .outst, .plan, .parts, .colls, .taps, .cks, .rcs, .sess, .mg]
  | .halt .. =>
    ofEvents ++ ofWrites ++ ofFlits ++ ofMemory ++ ofCores ++ ofFaults ++ ofNmus ++ [pk .hst, pk .ctx, pk .ck, pk .rc, pk .dg, pk (.cluster
    0 0), .stks, .outst, .plan, .parts, .colls, .cks, .dgs, .sess, .mg]
  | .rollback .. =>
    ofEvents ++ ofWrites ++ [pk .stp, pk .rc, .parts]
  | .pull .. =>
    ofEvents ++ ofWrites ++ ofFlits ++ [pk .rc, .plan, .rcs]
  | .pullReq .. =>
    ofEvents ++ ofFlits ++ [.outst, .plan]
  | .pullDone .. =>
    ofEvents ++ ofFlits ++ ofMemory ++ ofCores ++ ofFaults ++ ofNmus ++ [pk .hst, pk .ctx, pk .ari, pk .ct, pk .ck, pk .rc, pk .dg, pk .ft,
    pk .sig, pk (.cluster 0 0), .stks, .outst, .plan, .parts, .colls, .taps, .cks, .rcs, .dgs, .sigs, .sess, .mg]
  | .loadSlot .. =>
    ofEvents ++ ofWrites ++ [pk .rc, .rcs]
  | .rebuild .. =>
    ofEvents ++ ofWrites ++ ofFlits ++ ofMemory ++ [pk .rc, .stks, .outst, .plan, .rcs]
  | .clearAbsent .. =>
    ofEvents ++ ofWrites ++ [pk .rc, .parts]
  | .recoveryCmdDone .. =>
    ofEvents ++ ofMemory ++ [pk .rc, .stks, .outst, .rcs]
  | .replicaDigestReady .. | .digestVote .. | .verdictDeadline .. | .verdict .. =>
    everyPage ++ [.memory, .lines, .output, .fresh, .flipbook, .progs, .seqs, .stks, .mats, .nmus, .bundles, .outst, .plan, .noroute,
    .dropTick, .parts, .time, .colls, .taps, .cks, .rcs, .dgs, .sigs, .faults, .sess, .mg]
  | .verdictTimeout .. =>
    ofEvents ++ ofFlits ++ ofMemory ++ ofCores ++ ofFaults ++ [pk .ari, pk .ct, pk .dg, pk (.cluster 0 0), .stks, .outst, .plan, .parts,
    .colls, .taps, .dgs]
  | .recheckDeadline .. =>
    ofEvents ++ ofFlits ++ ofMemory ++ ofCores ++ ofFaults ++ ofNmus ++ [pk .hst, pk .ctx, pk .ari, pk .ct, pk .ck, pk .rc, pk .dg, pk .ft,
    pk .sig, pk (.cluster 0 0), .stks, .outst, .plan, .parts, .colls, .taps, .cks, .dgs, .sigs, .sess, .mg]
  | .fenceNote .. =>
    everyPage ++ [.output, .fresh, .flipbook, .time]
  | .ftDue .. =>
    ofEvents ++ [pk .glb, pk .stp, pk .ft, pk (.core 0 0 0), pk (.eng 0 0 0 0), pk (.cluster 0 0), .binds, .fts]
  | .ftNow .. | .ftSweep .. =>
    ofEvents ++ ofWrites ++ [pk .ft]
  | .fieldTestStart .. =>
    ofEvents ++ [pk .ft, .fts]
  | .fieldTestDone .. =>
    ofEvents ++ [pk .ft, pk .sig, pk (.core 0 0 0), pk (.eng 0 0 0 0), pk (.cluster 0 0), .fts, .sigs]
  | .forcedSwap .. =>
    ofEvents ++ [pk .glb, pk .stp, pk .ft, pk (.core 0 0 0), pk (.eng 0 0 0 0), pk (.cluster 0 0), .memory, .seqs, .binds, .fts]
  | .forcedSwapAbandon .. =>
    ofEvents ++ [pk .ft, .seqs, .fts]
  | .forcedSwapRetry .. =>
    [pk .ft, .seqs, .fts]
  | .sigAck .. =>
    ofEvents ++ ofWrites ++ [pk .sig, .sigs, .sigAcks]
  | .sigDataRead =>
    [pk .sig, .output]
  | .contextWatchdog .. =>
    ofEvents ++ ofCores ++ ofFaults ++ [pk .wd]
  | .engineWatchdog .. | .sequencerWatchdog .. | .programEndWatchdog .. =>
    ofEvents ++ ofFlits ++ ofMemory ++ ofCores ++ ofFaults ++ ofNmus ++ [pk .hst, pk .wd, pk .rst, pk .stp, pk .ct, pk .ck, pk .dg, pk .ft,
    pk (.cluster 0 0), .module, .stks, .resets, .outst, .plan, .binds, .fences, .colls, .cks, .mirs, .dgs, .fts, .sess, .mg]
  | .nmuWatchdog .. =>
    ofEvents ++ ofFlits ++ ofMemory ++ ofCores ++ ofFaults ++ ofNmus ++ [pk .hst, pk .wd, pk .ck, .stks, .outst, .plan, .nmuDone, .cks,
    .sess, .mg]
  | .resetDone .. =>
    everyPage ++ [.memory, .output, .fresh, .module, .flipbook, .seqs, .resets, .time, .ftNow]
  | .moduleFail =>
    ofEvents ++ ofFlits ++ ofMemory ++ ofCores ++ ofFaults ++ ofNmus ++ [pk .glb, pk .hst, pk .rst, pk .ctx, pk (.cluster 0 0), .module,
    .stks, .resets, .outst, .plan, .colls, .sess, .mg]
  | .nmuDatapathResetDone .. =>
    ofEvents ++ ofNmus ++ [pk .rst]
  | .nmuFail .. =>
    ofEvents ++ ofNmus
  | .fwWatchdog .. | .fwFatalFault .. =>
    ofEvents ++ ofFlits ++ ofMemory ++ ofCores ++ ofFaults ++ ofMailbox ++ ofNmus ++ [pk .hst, pk .cc, pk .fp, pk .upd, pk .ck, pk .ft, pk
    (.cluster 0 0), pk (.rng 0), pk (.kal 0), .flash, .stks, .ports, .outst, .plan, .rings, .nmuDone, .cks, .procs, .cc, .sess, .mg]
  | .fwRestartDone .. =>
    ofEvents ++ ofNmus ++ [pk .fp, .procs]
  | .takeoverDone .. =>
    ofEvents ++ ofFlits ++ ofMemory ++ ofCores ++ ofFaults ++ ofMailbox ++ ofNmus ++ [pk .hst, pk .cc, pk .fp, pk .ck, pk .ft, pk (.cluster
    0 0), pk (.rng 0), pk (.kal 0), .stks, .ports, .outst, .plan, .rings, .nmuDone, .cks, .procs, .cc, .sess, .mg]
  | .revertHoldMet =>
    ofEvents ++ ofFlits ++ ofMemory ++ ofCores ++ ofFaults ++ ofMailbox ++ ofNmus ++ [pk .hst, pk .cc, pk .fp, pk .upd, pk .ck, pk .ft, pk
    (.cluster 0 0), pk (.rng 0), pk (.kal 0), .stks, .ports, .outst, .plan, .rings, .nmuDone, .cks, .procs, .cc, .upds, .sess, .mg]
  | .failover .. =>
    ofEvents ++ ofWrites ++ [pk .cc]
  | .fpRestart .. =>
    ofEvents ++ ofWrites ++ ofFlits ++ ofMemory ++ ofCores ++ ofFaults ++ ofMailbox ++ ofNmus ++ [pk .hst, pk .cc, pk .fp, pk .ck, pk .ft,
    pk (.cluster 0 0), pk (.rng 0), pk (.kal 0), .stks, .ports, .outst, .plan, .rings, .nmuDone, .cks, .procs, .sess, .mg]
  | .getVersion .. | .getHealth .. =>
    ofEvents ++ ofMailbox
  | .fwStage .. | .fwVerify .. =>
    ofEvents ++ ofMailbox ++ [pk .upd, .flash]
  | .fwActivate .. =>
    ofEvents ++ ofFlits ++ ofMemory ++ ofCores ++ ofFaults ++ ofMailbox ++ ofNmus ++ [pk .glb, pk .hst, pk .sec, pk .cc, pk .fp, pk .upd, pk
    .ck, pk .ft, pk (.cluster 0 0), pk (.rng 0), pk (.kal 0), .module, .flash, .stks, .ports, .outst, .plan, .rings, .nmuDone, .cks, .procs,
    .cc, .sess, .mg]
  | .fwAbort .. =>
    ofEvents ++ ofFlits ++ ofMemory ++ ofCores ++ ofFaults ++ ofMailbox ++ ofNmus ++ [pk .hst, pk .cc, pk .fp, pk .upd, pk .ck, pk .ft, pk
    (.cluster 0 0), pk (.rng 0), pk (.kal 0), .stks, .ports, .outst, .plan, .rings, .nmuDone, .cks, .procs, .sess, .mg]
  | .fwHandover .. =>
    ofEvents ++ ofFlits ++ ofMemory ++ ofCores ++ ofFaults ++ ofMailbox ++ ofNmus ++ [pk .hst, pk .cc, pk .fp, pk .upd, pk .ck, pk .ft, pk
    (.cluster 0 0), pk (.rng 0), pk (.kal 0), .flash, .stks, .ports, .outst, .plan, .rings, .nmuDone, .cks, .procs, .cc, .upds, .sess, .mg]
  | .fwProbationEnd .. =>
    ofEvents ++ ofFlits ++ ofMemory ++ ofCores ++ ofFaults ++ ofMailbox ++ ofNmus ++ [pk .hst, pk .cc, pk .fp, pk .upd, pk .ck, pk .ft, pk
    (.cluster 0 0), pk (.rng 0), pk (.kal 0), .flash, .stks, .ports, .outst, .plan, .rings, .nmuDone, .cks, .procs, .sess, .mg]
  | .fbClear .. | .ownerSet .. =>
    ofEvents ++ ofMailbox ++ [pk .sec, .sec]
  | .recW0Read .. | .recW15Read .. =>
    [pk .flip, .output]
  | .attRequest .. =>
    ofEvents ++ ofMailbox ++ [pk .sec, .decap, .sec]
  | .attDataRead .. =>
    [pk .sec, .output]
  | .ekExpiry .. =>
    [pk .mgt, pk .sec, .decap]
  | .keyGrant .. =>
    ofEvents ++ ofMailbox ++ [pk .sec, .jobKeys, .decap]
  | .keyInstall .. =>
    ofEvents ++ ofMailbox ++ [pk .sec, pk (.cry 0), .keys, .jobKeys, .mg]
  | .sealPart .. =>
    ofEvents ++ ofMailbox ++ [.seals, .sec]
  | .sealFillDone .. =>
    ofEvents ++ ofMemory ++ ofMailbox ++ [pk .sec, .stks, .seals, .sec]
  | .sealLoad .. =>
    ofEvents ++ ofMemory ++ ofMailbox ++ [pk .sec, .stks, .jobKeys]
  | .sealedClearDone .. =>
    everyPage ++ [.shadow, .memory, .lines, .output, .fresh, .flipbook, .stks, .mats, .seals, .keys, .jobKeys, .decap, .parts, .time, .ct]
  | .tokenChallenge .. =>
    ofEvents ++ ofMailbox ++ [.sec]
  | .svnCommit .. | .ownerKey .. | .rma .. =>
    ofEvents ++ ofMailbox ++ [pk .sec, .flash, .sec]
  | .debugUnlock .. =>
    ofEvents ++ ofMailbox ++ [pk .sec, .sealTick, .sec]
  | .flr | .pcieLinkLoss =>
    everyPage ++ [.output, .fresh, .flipbook, .slots, .ring, .heldH, .heldM, .usedH, .usedM, .time]
  | .bar2Read .. =>
    ofEvents ++ ofFlits ++ ofCores ++ ofFaults ++ ofNmus ++ [pk .hst, pk .sec, pk (.mc 0), .stks, .reads, .mats, .plan, .sealTick, .sess,
    .mg]
  | .bar2Write .. =>
    ofEvents ++ ofFlits ++ ofMemory ++ ofCores ++ ofFaults ++ ofNmus ++ [pk .hst, pk .sec, .stks, .reads, .plan, .sealTick, .sess, .mg]
  | .bar2SelWrite .. =>
    ofEvents ++ ofWrites ++ [pk .hst]
  | .mgmtRead .. | .mgmtWrite .. | .sessionClose .. | .keepalive .. =>
    allBut [.pending, .flash, .semTie, .skews, .yoyoCur, .yoyoDue, .ftNow, .sec, .cc, .upds]
  | .sessionOpen .. | .seqGapTimeout .. =>
    [pk .mgt, .output, .sess, .mg]
  | .sessionIdleTimeout .. =>
    everyPage ++ [.output, .sess, .mg]
  | .chipIdWrite .. =>
    ofEvents ++ ofWrites ++ [pk (.lnk 0), pk (.lan 0), pk (.rng 0), pk (.kal 0), .lanes, .ports, .rings]
  | .ejectLatchOpen =>
    ofEvents ++ [pk .glb, .module]
  | .removeReq .. | .removeCancel .. =>
    ofEvents ++ ofWrites ++ [.module]
  | .safeToRemove =>
    ofEvents ++ ofFlits ++ ofLanes ++ [pk .glb, pk (.mc 0), pk (.scr 0), pk (.las 0 0), pk (.kal 0), .memory, .lines, .module, .ports,
    .plan]
  | .flitBoundary .. =>
    ofEvents ++ ofFlits ++ ofLanes ++ [pk (.kal 0), .ports, .plan]
  | .laneSignalLocked .. =>
    ofEvents ++ [pk (.trm 0), .lanes]
  | .pcieLinkUp .. =>
    ofEvents ++ [pk .hst]
  | .ejectLatchClose =>
    [pk .glb, .module]

end Sys2Proof.Machine
end

