-- ==== Sys2Proof/Certificates/Slice0/Obligations.lean ====
section
/-! DEFINITION. The statements about the block, by family of commands. -/
open Sys2Proof Sys2Proof.Machine

/-- NOP does nothing and completes at issue (R104). SET writes rs × IMM1 + IMM2, modulo 2^64, to the register that SUBOP names, and a destination
other than 1–7, 17 and 18, or a reserved opcode, faults with OPCODE (R105, R95). -/
def Obligations.NopDoesNothingAndSetWrites : Prop :=
  (∀ (s : State) lc (d : Desc), s.CtlReady lc d {} false 0 →
    ∃ t, exec (.nop lc d) s = .next t ∧ s.MovedOn t lc ∧ (t.seq lc).infl = (s.seq lc).infl ∧ (t.seq lc).x = ((s.seq lc).adv (s.seq lc).pc).x
      ∧ t.mem = s.mem) ∧
  (∀ (s : State) lc (d : Desc) v, s.seqReg lc (d.imm0.toNat % 256) = some v →
    s.CtlReady lc d { code := 0x02, m0 := 255, m1 := 2 ^ 64 - 1, m2 := 2 ^ 64 - 1 } false 0 →
    let w := (v * d.imm1.toNat + d.imm2.toNat) % 2 ^ 64
    let q := ((s.seq lc).setTo d.subop w).adv (s.seq lc).pc
    ∃ t, exec (.setReg lc d) s = .next t ∧ (t.seq lc).x = q.x ∧ (t.seq lc).trec = q.trec ∧ (t.seq lc).pflags = q.pflags
      ∧ (t.seq lc).pc = q.pc ∧ (t.seq lc).infl = (s.seq lc).infl ∧ t.mem = s.mem
      ∧ ((s.seq lc).loops = [] → 1 ≤ d.subop → d.subop ≤ 7 → (t.seq lc).xr d.subop = w)
      ∧ ((s.seq lc).loops = [] → d.subop = 17 → (t.seq lc).trec = w)
      ∧ ((s.seq lc).loops = [] → d.subop = 18 → (t.seq lc).pflags = w % 8)) ∧
  (∀ (s : State) lc (d : Desc), ∀ c ∈ [Instr.nop lc d, .setReg lc d],
    (opcodeSubs d.opcode = none ∨ (c = .setReg lc d ∧ d.opcode = 2 ∧ d.subop ∉ [1, 2, 3, 4, 5, 6, 7, 17, 18])) →
    (s.seq lc).canIssue d.ser 0 = true → (∀ i ∈ (s.seq lc).infl, i.dst = [] ∧ i.src = []) →
    s.mustAwait [((s.seq lc).pc, 64)] [] = false → s.ownSealOk (s.partOf lc) (s.seq lc).pc 64 = true → (s.fetch lc).2 ≠ none →
    ∃ t, exec c s = .next t ∧ s.Faulted t lc 0x01 0)

/-- END and LOOP run to their end: what each leaves in the sequencer's registers and its loop stack, and END faults where R93 says
(R93, R106). SIGNAL gives its word once no earlier write of the core is outstanding or held; TICKW waits, STEPF waits for what R90 and R110
name, faults with an open chain, and otherwise arrives at the fence, and NMCALL posts its command (R108–R110, R133).
Choices of the model: log entries 3, 12, 17. -/
def Obligations.ControlDescriptorsRun : Prop :=
  (∀ (s : State) lc (d : Desc), s.CtlReady lc d { code := 0x01 } true 0 → s.nmcallsOpen lc = false → (s.seq lc).chain = none →
    ∃ t, exec (.endStream lc d) s = .next t ∧ (t.seq lc).st = 2 ∧ (t.seq lc).infl = [] ∧ (t.seq lc).loops = [] ∧ t.mem = s.mem) ∧
  (∀ (s : State) lc (d : Desc), ∀ c ∈ [Instr.endStream lc d, .stepf lc d],
    (s.nmcallsOpen lc = true → exec c s = .next s) ∧
    ((s.seq lc).infl ≠ [] → ∃ t, exec c s = .next t ∧ t.mem = s.mem ∧ (t.seq lc).infl = (s.seq lc).infl ∧ (t.seq lc).pc = (s.seq lc).pc)) ∧
  (∀ (s : State) lc (d : Desc), s.CtlReady lc d { code := 0x01 } true 0 → s.nmcallsOpen lc = false → (s.seq lc).chain ≠ none →
    ∃ t, exec (.endStream lc d) s = .next t ∧ s.Faulted t lc 0x08 0) ∧
  (∀ (s : State) lc (d : Desc), s.CtlReady lc d { code := 0x03, m0 := 2 ^ 51 - 1, m1 := 2 ^ 64 - 1, m2 := 2 ^ 64 - 1 } false 0 →
    let q := s.seq lc
    let count := d.imm0.toNat % 2 ^ 32
    let body := bitsOf d.imm0.toNat 47 32
    let reg := bitsOf d.imm0.toNat 50 48
    body ≠ 0 → reg ≠ 0 → (∀ e ∈ q.loops, e.reg ≠ reg) → q.loops.length < 4 → (∀ e ∈ q.loops.head?, q.pc + 64 * body ≤ e.last) →
    ∃ t, exec (.loop lc d) s = .next t ∧ (t.seq lc).infl = q.infl ∧ t.mem = s.mem ∧
      (0 < count → (t.seq lc).xr reg = d.imm1.toNat ∧ (t.seq lc).pc = q.pc + 64 ∧
        (t.seq lc).loops = { first := q.pc + 64, last := q.pc + 64 * body, left := count, reg := reg, step := d.imm2 } :: q.loops) ∧
      (count = 0 → (t.seq lc).xr reg = d.imm1.toNat ∧ (t.seq lc).pc = ((q.setX reg d.imm1.toNat).adv (q.pc + 64 * body)).pc)) ∧
  (∀ (s : State) lc (d : Desc), ∀ p ∈ [(Instr.signalAdd lc d, false), (Instr.signalWrite lc d, true)],
    s.CtlReady lc d { code := 0x05, sub := some (bool01 p.2), m0 := 2 ^ 64 - 1, m1 := 2 ^ 64 - 1, m2 := 0x13FFF } false 0 →
    bitAt d.imm2.toNat 16 = false → gaChip d.imm0.toNat = s.chip →
    s.wordFail lc (s.partOf lc) d.imm0.toNat true = 0 → (∀ i ∈ (s.seq lc).infl, i.sig = none) →
    let s1 := s.waiting lc d none (some { chip := s.chip, addr := d.imm0.toNat, value := d.imm1.toNat, write := p.2 })
    let put := s1.signalWord d.imm0.toNat d.imm1.toNat p.2 (s.whoOf lc)
    (∀ i ∈ (s1.seq lc).infl, i.tags = [] ∧ s1.heldOn (i.dst ++ i.vis) = false) →
    put.2 = true →
    ∃ t, exec p.1 s = .next t ∧ s.MovedOn t lc ∧ t.mem = put.1.mem) ∧
  (∀ (s : State) lc (d : Desc) c, ∀ p ∈ [(Instr.signalAdd lc d, false), (Instr.signalWrite lc d, true)],
    s.CtlReady lc d { code := 0x05, sub := some (bool01 p.2), m0 := 2 ^ 64 - 1, m1 := 2 ^ 64 - 1, m2 := 0x13FFF } false 0 →
    bitAt d.imm2.toNat 16 = true → s.rankChip (s.partOf lc) (d.imm2.toNat % 16384) = some c → c ≠ s.chip →
    s.wordFail lc (s.partOf lc) (d.imm0.toNat % 2 ^ 48 + c * 2 ^ 48) true = 0 → (∀ i ∈ (s.seq lc).infl, i.sig = none) →
    let s1 := s.waiting lc d none (some { chip := c, addr := d.imm0.toNat % 2 ^ 48 + c * 2 ^ 48, value := d.imm1.toNat, write := p.2 })
    (∀ i ∈ (s1.seq lc).infl, i.tags = [] ∧ s1.heldOn (i.dst ++ i.vis) = false) →
    ∃ t, exec p.1 s = .next t ∧ s.MovedOn t lc ∧ t.mem = s.mem ∧
      ∃ o, t.outst = s.outst ++ [o] ∧ o.chip = c ∧ o.lc = lc ∧ o.infl = (s.seq lc).nextId ∧ o.read = false) ∧
  (∀ (s : State) lc (d : Desc), s.CtlReady lc d { code := 0x06, m0 := 2 ^ 64 - 1, m1 := if d.subop = 2 then 7 else 0 } false 0 →
    let target := ((match d.subop with
      | 0 => 0
      | 1 => (s.prog (s.seq lc).slot).startAct
      | _ => (s.seq lc).xr (d.imm1.toNat % 8)) + d.imm0.toNat) % 2 ^ 64
    ∃ t, exec (.tickw lc d) s = .next t ∧ s.MovedOn t lc ∧ t.mem = s.mem ∧
      (target ≤ s.tick → (t.seq lc).infl = (s.seq lc).infl) ∧
      (s.tick < target → ∃ i, (t.seq lc).infl = (s.seq lc).infl ++ [i] ∧ i.wait = some (.tick target))) ∧
  (∀ (s : State) lc (d : Desc), s.CtlReady lc d { code := 0x07, m0 := 2 ^ 64 - 1 } true 0 → s.nmcallsOpen lc = false → (s.seq lc).chain = none →
    d.imm0.toNat = (s.stepOf (s.partOf lc) + 1) % 2 ^ 64 →
    ∃ t, exec (.stepf lc d) s = .next t ∧ s.MovedOn t lc ∧ t.mem = s.mem ∧
      ∃ i, (t.seq lc).infl = [i] ∧ i.wait = some .fence ∧ i.ser = true) ∧
  (∀ (s : State) lc (d : Desc), s.CtlReady lc d { code := 0x07, m0 := 2 ^ 64 - 1 } true 0 → s.nmcallsOpen lc = false → (s.seq lc).chain ≠ none →
    ∃ t, exec (.stepf lc d) s = .next t ∧ s.Faulted t lc 0x08 0) ∧
  (∀ (s : State) lc (d : Desc), s.CtlReady lc d d.nmForm false 6 → s.nmFail lc d = none →
    let k := d.imm0.toNat % 16
    (s.nmuSt k).qCall.length < 64 → (s.nmuSt k).failed = false →
    ∃ t, exec (.nmcall lc d) s = .next t ∧ s.MovedOn t lc ∧ t.mem = s.mem ∧
      (∃ c, (t.nmuSt k).qCall = (s.nmuSt k).qCall ++ [c] ∧ c.addr = d.imm1.toNat ∧ c.lc = lc ∧ c.sync = bitAt d.imm0.toNat 8
        ∧ c.infl = (s.seq lc).nextId ∧ c.src = 0) ∧
      (bitAt d.imm0.toNat 8 = false → (t.seq lc).infl = (s.seq lc).infl) ∧
      (bitAt d.imm0.toNat 8 = true → ∃ i, (t.seq lc).infl = (s.seq lc).infl ++ [i] ∧ ∃ id, i.wait = some (.nm k id)))

/-- The waits: a condition that holds lets the descriptor complete, one that does not leaves it waiting, and a timeout that expires on a
false condition faults it (R107, R129). RECV subtracts what it waited for. -/
def Obligations.WaitsHoldUntilTheirWords : Prop :=
  (∀ (s : State) lc (d : Desc) b, ∀ p ∈ [(Instr.waitGe lc d, 0), (Instr.waitEq lc d, 1), (Instr.waitNe lc d, 2)],
    s.CtlReady lc d { code := 0x04, sub := some p.2, m0 := 2 ^ 64 - 1, m1 := 2 ^ 64 - 1, m2 := 2 ^ 32 - 1 } false 0 →
    s.wordFail lc (s.partOf lc) d.imm0.toNat false = 0 →
    let s1 := s.waiting lc d (some (.cmp p.2 d.imm0.toNat d.imm1.toNat (s.deadline d))) none
    s1.mustAwait [(d.imm0.toNat, 8)] [] = false → s1.readMem d.imm0.toNat 8 (s.whoOf lc) = (s1, some b) →
    let holds := match p.2 with
      | 0 => d.imm1.toNat ≤ natLE b
      | 1 => natLE b = d.imm1.toNat
      | _ => natLE b ≠ d.imm1.toNat
    ∃ t, exec p.1 s = .next t ∧ s.MovedOn t lc ∧ t.mem = s.mem ∧
      (holds → ∀ i ∈ (t.seq lc).infl, i.id ≠ (s.seq lc).nextId) ∧
      (¬ holds → ∃ i ∈ (t.seq lc).infl, i.id = (s.seq lc).nextId ∧ i.wait = some (.cmp p.2 d.imm0.toNat d.imm1.toNat (s.deadline d)))) ∧
  (∀ (s : State) lc (d : Desc), s.CtlReady lc d { code := 0x04, sub := some 3, m0 := 7, m2 := 2 ^ 32 - 1 } true 0 → (s.seq lc).pflags &&& d.imm0.toNat = 0 →
    ∃ t, exec (.waitAssert lc d) s = .next t ∧ s.MovedOn t lc ∧ (t.seq lc).infl = [] ∧ t.mem = s.mem) ∧
  (∀ (s : State) lc (d : Desc), s.CtlReady lc d { code := 0x04, sub := some 3, m0 := 7, m2 := 2 ^ 32 - 1 } true 0 → (s.seq lc).pflags &&& d.imm0.toNat ≠ 0 →
    ∃ t, exec (.waitAssert lc d) s = .next t ∧ s.Faulted t lc 0x0D 5) ∧
  (∀ (s : State) lc (d : Desc), s.CtlReady lc d { code := 0x04, sub := some 4, m2 := 2 ^ 32 - 1 } true 0 →
    ∃ t, exec (.waitDrain lc d) s = .next t ∧ s.MovedOn t lc ∧ (t.seq lc).infl = [] ∧ t.mem = s.mem) ∧
  (∀ s lc id k a x dl b, s.waitOf lc id = some (.cmp k a x dl) → s.mustAwait [(a, 8)] [] = false →
    s.readMem a 8 (s.whoOf lc) = (s, some b) →
    ∃ t, exec (.waitConditionMet lc id) s = .next t ∧ t.mem = s.mem ∧
      (waitTrue k (natLE b) x = true → ∀ i ∈ (t.seq lc).infl, i.id ≠ id) ∧ (waitTrue k (natLE b) x = false → t = s)) ∧
  (∀ s lc id k a x dl b, s.waitOf lc id = some (.cmp k a x dl) → dl ≠ 0 → dl ≤ s.tick → (s.seq lc).st = 1 →
    s.mustAwait [(a, 8)] [] = false → s.readMem a 8 (s.whoOf lc) = (s, some b) → waitTrue k (natLE b) x = false →
    ∃ t, exec (.waitTimeout lc id) s = .next t ∧ s.Faulted t lc 0x0E 5) ∧
  (∀ (s : State) lc (d : Desc) b, s.CtlReady lc d { code := 0x39, m0 := 2 ^ 64 - 1, m1 := 2 ^ 64 - 1, m2 := 2 ^ 32 - 1 } false 0 →
    s.wordFail lc (s.partOf lc) d.imm0.toNat false = 0 →
    let s1 := s.waiting lc d (some (.recv d.imm0.toNat d.imm1.toNat (s.deadline d))) none
    s1.mustAwait [(d.imm0.toNat, 8)] [] = false → s1.readMem d.imm0.toNat 8 (s.whoOf lc) = (s1, some b) →
    let put := s1.writeMem d.imm0.toNat (bytesLE 8 (natLE b - d.imm1.toNat)) (s.whoOf lc)
    (d.imm1.toNat ≤ natLE b → s1.wordHeld d.imm0.toNat = none ∧ put.2 = true) →
    ∃ t, exec (.recv lc d) s = .next t ∧ s.MovedOn t lc ∧
      (d.imm1.toNat ≤ natLE b → t.mem = put.1.mem ∧ ∀ i ∈ (t.seq lc).infl, i.id ≠ (s.seq lc).nextId) ∧
      (natLE b < d.imm1.toNat → t.mem = s.mem ∧
        ∃ i ∈ (t.seq lc).infl, i.id = (s.seq lc).nextId ∧ i.wait = some (.recv d.imm0.toNat d.imm1.toNat (s.deadline d)))) ∧
  (∀ (s : State) lc (d : Desc), s.CtlReady lc d { code := 0x39, m0 := 2 ^ 64 - 1, m1 := 2 ^ 64 - 1, m2 := 2 ^ 32 - 1 } false 0 →
    let e := s.wordFail lc (s.partOf lc) d.imm0.toNat false
    e ≠ 0 → ∃ t, exec (.recv lc d) s = .next t ∧ s.Faulted t lc e 5 ∧ t.mem = s.mem) ∧
  (∀ s lc id a x dl b, s.waitOf lc id = some (.recv a x dl) → dl ≠ 0 → dl ≤ s.tick → (s.seq lc).st = 1 →
    s.mustAwait [(a, 8)] [] = false → s.readMem a 8 (s.whoOf lc) = (s, some b) → natLE b < x → ∃ t, exec (.waitTimeout lc id) s = .next t ∧ s.Faulted t lc 0x0E 5) ∧
  (∀ s lc id a x dl b, s.waitOf lc id = some (.recv a x dl) → s.mustAwait [(a, 8)] [] = false →
    s.readMem a 8 (s.whoOf lc) = (s, some b) → x ≤ natLE b → s.wordHeld a = none →
    let put := s.writeMem a (bytesLE 8 (natLE b - x)) (s.whoOf lc)
    put.2 = true →
    ∃ t, exec (.recvSatisfied lc id) s = .next t ∧ t.mem = put.1.mem ∧ ∀ i ∈ (t.seq lc).infl, i.id ≠ id)


/-- The copies between rows of memory: LOAD, STORE, MOVE and SEND put the bytes of A's rows into D's rows, on the own chip at once and with a
peer through read requests and writes that the descriptor then awaits (R111, R128).
Choices of the model: log entries 11, 12. -/
def Obligations.CopiesMoveTheirRows : Prop :=
  (∀ (s : State) lc (d : Desc) (r : Refs) bs s2, ∀ p ∈ [(Instr.load lc d, copyForm 0x10 .tile .peer), (.store lc d, copyForm 0x11 .peer .tile), (.move lc d, copyForm 0x12 .own .own)],
    s.RefReady lc d p.2 1 r → r.aa.t.ext = r.dd.t.ext → r.aa.fmt = r.dd.fmt →
    (∀ x ∈ r.aa.t.rows ++ r.dd.t.rows, gaChip x.1 = s.chip) →
    (s.atIssue lc).readRows r.aa.t.rows (s.whoOf lc) = (s.atIssue lc, some bs) →
    (s.atIssue lc).writeRows ((r.dd.t.rows.zip bs).map (fun x => (x.1.1, x.2))) (s.whoOf lc) = (s2, true) →
    s.Issues p.1 lc p.2 1 r [] { s := s2 }) ∧
  (∀ (s : State) lc (d : Desc) (r : Refs), ∀ p ∈ [(Instr.load lc d, copyForm 0x10 .tile .peer), (.store lc d, copyForm 0x11 .peer .tile), (.move lc d, copyForm 0x12 .own .own)],
    s.RefReady lc d p.2 1 r → r.aa.t.ext = r.dd.t.ext → r.aa.fmt = r.dd.fmt →
    let e := (s.atIssue lc).copyRows lc (s.seq lc).nextId r.aa.t r.dd.t (fun a => a) none
    e.fault = none → s.Issues p.1 lc p.2 1 r [] e) ∧
  (∀ (s : State) lc (d : Desc) (r : Refs) c, s.rankChip (s.partOf lc) (d.imm0.toNat % 16384) = some c → s.maskOk (s.partOf lc) c = true → bitAt d.imm2.toNat 0 = false →
    s.RefReady lc d (sendForm (some c)) 1 r →
    r.aa.t.ext = r.dd.t.ext → r.aa.fmt = r.dd.fmt → (∀ i ∈ (s.seq lc).infl, i.sig = none) →
    let e := (s.atIssue lc).copyRows lc (s.seq lc).nextId r.aa.t r.dd.t (fun a => a % 2 ^ 48 + c * 2 ^ 48) none
    e.fault = none → s.Issues (.send lc d) lc (sendForm (some c)) 1 r [] e) ∧
  (∀ (s : State) lc (d : Desc) (r : Refs) c, s.rankChip (s.partOf lc) (d.imm0.toNat % 16384) = some c → s.maskOk (s.partOf lc) c = true → bitAt d.imm2.toNat 0 = true →
    let word := d.imm1.toNat % 2 ^ 48 + c * 2 ^ 48
    sigAligned word = true → (c = s.chip → s.rightsRange (s.partOf lc) word 8 = true) →
    let f := sendForm (some c)
    s.RefReady lc d f 1 r → r.aa.t.ext = r.dd.t.ext → r.aa.fmt = r.dd.fmt → (∀ i ∈ (s.seq lc).infl, i.sig = none) →
    let g : Sig := { chip := c, addr := word, value := 1, write := false }
    let e := (s.atIssue lc).copyRows lc (s.seq lc).nextId r.aa.t r.dd.t (fun a => a % 2 ^ 48 + c * 2 ^ 48) (some g)
    e.fault = none →
    let i : Infl :=
      { id := (s.seq lc).nextId, desc := (s.seq lc).pc, unit := (s.seq lc).unitFor 1, dst := f.dstOf r, src := s.srcOf lc f r,
        ser := d.ser || rangesMeet (f.dstOf r) [(s.tileAddr lc (s.seq lc).trec, 262144)], tags := e.tags, sig := some g }
    let s1 := e.s.pushInfl lc i
    (e.tags ≠ [] → s.Issues (.send lc d) lc f 1 r [] e) ∧
    ((∀ i ∈ (s1.seq lc).infl, i.tags = [] ∧ s1.heldOn (i.dst ++ i.vis) = false) → c = s.chip →
      let put := s1.signalWord word 1 false (s.whoOf lc)
      put.2 = true → ∃ t, exec (.send lc d) s = .next t ∧ t.mem = put.1.mem ∧ s.MovedOn t lc))

/-- TRANSPOSE, GATHER, SCATTER_ADD, CAST, QUANTISE, FILL and DIGEST write into D, or at IMM1, what R112–R114 and R134 give for each element.
Choices of the model: log entry 11. -/
def Obligations.DataDescriptorsWriteTheirResults : Prop :=
  (∀ (s : State) lc (d : Desc) (r : Refs) bits s2,
    let v := d.imm0.toNat % 256
    permBad v = false → s.RefReady lc d (permForm v) 1 r → r.aa.fmt = r.dd.fmt →
    (∀ i < 4, [r.dd.t.e0, r.dd.t.e1, r.dd.t.e2, r.dd.t.e3].getD i 0
      = [r.aa.t.e0, r.aa.t.e1, r.aa.t.e2, r.aa.t.e3].getD (v / 4 ^ i % 4) 0) →
    (s.atIssue lc).readBits r.aa.t (s.whoOf lc) = (s.atIssue lc, some bits) →
    let src := fun (i : Nat × Nat × Nat × Nat) ax =>
      match (List.range 4).find? (fun n => v / 4 ^ n % 4 == ax) with
      | some n => [i.1, i.2.1, i.2.2.1, i.2.2.2].getD n 0
      | none => 0
    (s.atIssue lc).writeBits r.dd.t (r.dd.t.ix.map (fun i => bits.getD (r.aa.t.flat (src i 0) (src i 1) (src i 2) (src i 3)) 0)) (s.whoOf lc)
      = (s2, true) →
    s.Issues (.transpose lc d) lc (permForm v) 1 r [] { s := s2 }) ∧
  (∀ (s : State) lc (d : Desc) (r : Refs) a b s2 fl, s.RefReady lc d (rowForm 0x14) 1 r → rowCheck r r.dd.t = none →
    (s.atIssue lc).readBits r.bb.t (s.whoOf lc) = (s.atIssue lc, some b) →
    (s.atIssue lc).readRowsOf r.aa (fun j => b.contains j) (s.whoOf lc) = (s.atIssue lc, some a) →
    let row := fun (i : Nat × Nat × Nat × Nat) => b.getD i.2.1 0
    let bad := (b.filter (fun j => decide (r.aa.t.e1 ≤ j))).length
    (s.atIssue lc).writeOut r.dd (s.partOf lc)
      (r.dd.t.ix.map (fun i => if row i < r.aa.t.e1 then a.getD (r.aa.t.flat i.1 (row i) i.2.2.1 i.2.2.2) (zeroVal, false) else (zeroVal, false)))
      (s.whoOf lc) = (s2, fl, true) →
    s.Issues (.gather lc d) lc (rowForm 0x14) 1 r []
      { s := s2, inv := if fl.inv = true ∨ 0 < bad then max 1 (fl.invCnt + bad) else 0, sat := fl.sat }) ∧
  (∀ (s : State) lc (d : Desc) (r : Refs) dv a b s2 fl, s.RefReady lc d (rowForm 0x15) 1 r → rowCheck r r.aa.t = none →
    (s.atIssue lc).readArr r.dd (s.whoOf lc) = (s.atIssue lc, some dv) →
    (s.atIssue lc).readBits r.bb.t (s.whoOf lc) = (s.atIssue lc, some b) →
    (s.atIssue lc).readRowsOf r.aa (fun i => decide (b.getD i 0 < r.dd.t.e1)) (s.whoOf lc) = (s.atIssue lc, some a) →
    let acc := fun (p : (Nat × Nat × Nat × Nat) × (Val × Bool)) =>
      b.zipIdx.foldl (fun (acc : Val × Bool) e =>
        if e.1 = p.1.2.1 then
          (f32Val (rne32 (acc.1.add (a.getD (r.aa.t.flat p.1.1 e.2 p.1.2.2.1 p.1.2.2.2) (zeroVal, false)).1)), false)
        else acc) (f32Val (rne32 p.2.1), false)
    let bad := (b.filter (fun j => decide (r.dd.t.e1 ≤ j))).length
    (s.atIssue lc).writeOut r.dd (s.partOf lc) ((r.dd.t.ix.zip dv.v).map acc) (s.whoOf lc) = (s2, fl, true) →
    s.Issues (.scatterAdd lc d) lc (rowForm 0x15) 1 r [] (wrote s2 fl (dv.rsvd + (a.filter (·.2)).length + bad))) ∧
  (∀ (s : State) lc (d : Desc) (r : Refs) a s2 fl, ∀ p ∈ [(Instr.cast lc d, false), (Instr.quantise lc d, true)],
    s.RefReady lc d (convForm p.2) 1 r → r.aa.t.ext = r.dd.t.ext →
    (s.atIssue lc).readArr r.aa (s.whoOf lc) = (s.atIssue lc, some a) →
    (s.atIssue lc).writeOut r.dd (s.partOf lc) a.v (s.whoOf lc) = (s2, fl, true) →
    s.Issues p.1 lc (convForm p.2) 1 r [] (wrote s2 fl 0)) ∧
  (∀ (s : State) lc (d : Desc) (r : Refs) s2 fl, s.RefReady lc d fillForm 1 r →
    (s.atIssue lc).writeOut r.dd (s.partOf lc) (List.replicate r.dd.t.count (f32Val d.imm0.toNat, false)) (s.whoOf lc) = (s2, fl, true) →
    s.Issues (.fill lc d) lc fillForm 1 r [] (wrote s2 fl 0)) ∧
  (∀ (s : State) lc (d : Desc) (r : Refs) bs s2, s.RefReady lc d (digestForm d.imm1.toNat) 6 r →
    r.aa.t.dense = true → d.imm1.toNat % 16 = 0 → gaChip d.imm1.toNat = s.chip → s.locFail lc (s.partOf lc) .own d.imm1.toNat 16 = 0 → s.digKey (s.partOf lc) ≠ 0 →
    (s.atIssue lc).readRows r.aa.t.rows (s.whoOf lc) = (s.atIssue lc, some bs) →
    (s.atIssue lc).writeMem d.imm1.toNat (bytesLE 16 (digest128 (s.digKey (s.partOf lc)) bs.flatten)) (s.whoOf lc) = (s2, true) →
    s.Issues (.digest lc d) lc (digestForm d.imm1.toNat) 6 r [] { s := s2 })

/-- The matrix descriptors: an opener that closes writes D and leaves the open chain as it was, one that leaves its chain open writes nothing
and holds its accumulators, and a continuation adds to the open chain on the chain's engines and, when it closes, ends it (R115, R117,
R118).
Choices of the model: log entries 11, 91. -/
def Obligations.MatrixDescriptorsDriveTheChain : Prop :=
  ∀ (s : State) lc (d : Desc) (r : Refs) sh es, ∀ p ∈ [(Instr.matmul lc d, false), (Instr.matmulAcc lc d, true)],
    let win := d.win?
    let ck := d.imm0.toNat % 2 ^ 25
    let cont := d.continues p.2
    s.RefReady lc d (d.matForm p.2) 4 r → matCheck win ck d.open_ cont (s.seq lc) r = none → matShape win r = .ok sh →
    (cont = true → es = ((s.seq lc).chain.getD {}).engines ∧ ∀ i ∈ (s.seq lc).infl, ∀ e ∈ i.engines, e ∉ es) →
    (cont = false →
      let n := min sh.tiles (4 - (((s.seq lc).chain.map (·.engines)).getD []).length)
      0 < n ∧ n ≤ (s.idleEngines lc).length ∧ es = (s.idleEngines lc).take n) →
    let e := (s.atIssue lc).matEffect lc r
      { opener := !cont, close := !d.open_, chainK := if ck = 0 then sh.k else ck, sh := sh, win := win } es
    e.fault = none →
    ∃ t, exec p.1 s = .next t ∧ s.RanAs t lc (d.matForm p.2) 4 r es e ∧ (t.seq lc).chain = (e.s.seq lc).chain ∧
      (d.open_ = false → (t.seq lc).chain = if cont then none else (s.seq lc).chain) ∧
      (d.open_ = true → t.mem = s.mem ∧ ∃ c, (t.seq lc).chain = some c ∧ c.engines = es ∧
        c.kDone = (if cont then ((s.seq lc).chain.getD {}).kDone else 0) + sh.k)

/-- UNARY, BINARY and FMA write into D, at every index, the function of the sources' elements as FP32, rounded once (R121–R123). ROWRED,
SOFTMAX and NORM write into D what R124–R126 make of each row of A. Reserved patterns in the sources count as invalid elements (R44, R65).
Choices of the model: log entries 11, 18. -/
def Obligations.VectorDescriptorsCompute : Prop :=
  let runs := fun (s : State) (lc : Nat) (d : Desc) (c : Instr) (f : Form) (check : Refs → Option DF) (vals : Refs → Srcs → List Nat) =>
    ∀ r x s2 fl, s.RefReady lc d f 3 r → check r = none → (s.atIssue lc).readSrcs lc r = (s.atIssue lc, .ok x) →
      (s.atIssue lc).writeOut r.dd (s.partOf lc) ((vals r x).map (fun y => (f32Val y, false))) (s.whoOf lc) = (s2, fl, true) →
      s.Issues c lc f 3 r [] (wrote s2 fl (x.a.rsvd + x.b.rsvd + x.c.rsvd))
  (∀ (s : State) lc (d : Desc), ∀ p ∈ [(Instr.unaryCopy lc d, 0), (.unaryNeg lc d, 1), (.unaryAbs lc d, 2), (.unaryRelu lc d, 3), (.unarySquare lc d, 4),
      (.unaryRecip lc d, 5), (.unarySqrt lc d, 6), (.unaryRsqrt lc d, 7), (.unaryExp lc d, 8), (.unaryExp2 lc d, 9), (.unaryLog lc d, 10),
      (.unaryLog2 lc d, 11), (.unaryTanh lc d, 12), (.unaryErf lc d, 13), (.unarySin lc d, 14), (.unaryCos lc d, 15), (.unarySigmoid lc d, 16),
      (.unarySilu lc d, 17), (.unaryGeluTanh lc d, 18), (.unaryGeluErf lc d, 19)],
    runs s lc d p.1 (vecForm 0x30 (some p.2) [2, 2, 0, 0] 0) vecShape (fun r x => r.dd.t.ix.map (fun i => f32Unary p.2 (x.a.f32 i)))) ∧
  (∀ (s : State) lc (d : Desc), ∀ p ∈ [(Instr.binaryAdd lc d, 0, f32Add), (.binarySub lc d, 1, f32Sub), (.binaryMul lc d, 2, f32Mul), (.binaryDiv lc d, 3, f32Div),
      (.binaryMax lc d, 4, f32Max), (.binaryMin lc d, 5, f32Min)],
    runs s lc d p.1 (vecForm 0x31 (some p.2.1) [2, 2, 2, 0] 0) vecShape
      (fun r x => r.dd.t.ix.map (fun i => p.2.2 (x.a.f32 i) (x.b.f32 i)))) ∧
  (∀ (s : State) lc (d : Desc), runs s lc d (.fma lc d) (vecForm 0x32 none [2, 2, 2, 2] 0) vecShape
    (fun r x => r.dd.t.ix.map (fun i => f32Fma (x.a.f32 i) (x.b.f32 i) (x.c.f32 i)))) ∧
  (∀ (s : State) lc (d : Desc), ∀ p ∈ [(Instr.rowredSum lc d, 0, f32Sum), (.rowredMax lc d, 1, foldRow f32Max), (.rowredMin lc d, 2, foldRow f32Min),
      (.rowredAbsmax lc d, 3, fun l => foldRow f32Max (l.map (f32Unary 2))), (.rowredSumsq lc d, 4, fun l => f32Sum (l.map (fun x => f32Mul x x)))],
    runs s lc d p.1 (vecForm 0x33 (some p.2.1) [2, 2, 0, 0] 0) rowredShape
      (fun r x => r.dd.t.rowIx.map (fun i => p.2.2 (rowVals x.a r.aa.t.e0 i)))) ∧
  (∀ (s : State) lc (d : Desc) (r : Refs) x s2, s.RefReady lc d argmaxForm 3 r → rowredShape r = none → (s.atIssue lc).readSrcs lc r = (s.atIssue lc, .ok x) →
    (s.atIssue lc).writeBits r.dd.t (r.dd.t.rowIx.map (fun i => argMax (rowVals x.a r.aa.t.e0 i))) (s.whoOf lc) = (s2, true) →
    s.Issues (.rowredArgmax lc d) lc argmaxForm 3 r [] { s := s2, inv := x.a.rsvd + x.b.rsvd + x.c.rsvd }) ∧
  (∀ (s : State) lc (d : Desc), runs s lc d (.softmax lc d) (vecForm 0x34 none [2, 2, 0, 0] (2 ^ 32 - 1)) vecShape
    (fun r x => r.dd.t.rowIx.flatMap (fun i => softmaxRow d.imm0.toNat (rowVals x.a r.dd.t.e0 i)))) ∧
  (∀ (s : State) lc (d : Desc), ∀ p ∈ [(Instr.normLayernorm lc d, false), (.normRmsnorm lc d, true)],
    runs s lc d p.1 (vecForm 0x35 (some (bool01 p.2)) [2, 2, 1, 1] (2 ^ 32 - 1)) normShape (fun r x =>
      let y := fun (v : Nat × Nat) => if x.hasB then f32Mul v.1 (x.b.f32 (v.2, 0, 0, 0)) else v.1
      let z := fun (v : Nat × Nat) => if x.hasC then f32Add (y v) (x.c.f32 (v.2, 0, 0, 0)) else y v
      r.dd.t.rowIx.flatMap (fun i => (normRow p.2 d.imm0.toNat (rowVals x.a r.dd.t.e0 i)).zipIdx.map z)))

/-- The four collectives register what they move and wait for it, and one that hears nothing for COLL_TO ticks is counted and faults, or,
where the policy lets an all-reduce go on, marks the missing ranks absent (R130, R131, R383–R385).
A descriptor that has nothing outstanding retires and makes its flags sticky, with what its unit's checks found counted, and the context
watchdog ends a program that completes nothing (R65, R88, R102, R424, R425, R428).
Choices of the model: log entries 11, 49, 77, 93, 94, 95. -/
def Obligations.DescriptorsRetireAndTimeOut : Prop :=
  (∀ (s : State) lc (d : Desc) (r : Refs) bits scs, ∀ p ∈ [(Instr.collAllReduce lc d, 0), (Instr.collReduceScatter lc d, 1), (Instr.collAllGather lc d, 2), (Instr.collAllToAll lc d, 3)],
    let op := bitsOf d.imm0.toNat 7 4
    let mode := bitsOf d.imm0.toNat 9 8
    let tag := d.imm1.toNat
    s.RefReady lc d (d.collForm p.2) 5 r → s.collCheck lc p.2 tag d r = none →
    let s1 := (s.atIssue lc).collPurge
    s1.readBits r.aa.t (s.whoOf lc) = (s1, some bits) →
    (match r.aa.sc with | some sc => s1.readBits sc (s.whoOf lc) | none => (s1, some [])) = (s1, some scs) →
    ∃ (t u : State) (c : Coll), exec p.1 s = .next t ∧ t = (u.collPump tag).collReplay (s.partOf lc) tag ∧ u.colls = s1.colls ++ [c] ∧ u.mem = s.mem ∧ s.MovedOn u lc ∧
      c.tag = tag ∧ c.lc = lc ∧ c.id = (s.seq lc).nextId ∧ c.kind = p.2 ∧ c.op = op ∧ c.mode = mode ∧ c.fmtA = r.aa.fmt ∧
      c.elems = (if p.2 = 3 then r.aa.t.count / c.ranks.length else r.aa.t.count) ∧ c.group = sortNat (s.groupRec lc d).members ∧
      c.ranks = c.group.filter (fun x => !(s.absentSet (s.partOf lc)).contains x) ∧ c.d = r.dd ∧ c.aBits = bits ∧
      ∃ i, (u.seq lc).infl = (s.seq lc).infl ++ [i] ∧ i.id = c.id ∧ i.unit = 5 ∧ i.wait = some (.coll tag)) ∧
  (∀ s tag c, s.collPurge.coll tag = some c → c.progress + s.collTo c.part ≤ s.tick → c.missing ≠ [] →
    (s.policy c.part ≠ 1 ∨ c.kind ≠ 0) →
    ∃ t, exec (.collTimeout tag) s = .next t ∧ s.Faulted t c.lc 0x0A 5 ∧
      t.fld .ct Ct.COLL_TO_CNT c.part = min (s.fld .ct Ct.COLL_TO_CNT c.part + 1) (2 ^ 32 - 1)) ∧
  (∀ s tag c, s.collPurge.coll tag = some c → c.progress + s.collTo c.part ≤ s.tick → c.missing ≠ [] → s.policy c.part = 1 → c.kind = 0 →
    (s.absentSet c.part).length + (c.missing.filter (fun r => !(s.absentSet c.part).contains r)).eraseDups.length ≤ 8 →
    (∀ r ∈ c.missing, r < 16384) →
    ∃ t, exec (.collTimeout tag) s = .next t ∧ ∀ r ∈ c.missing, r ∈ t.absentSet c.part) ∧
  (∀ s lc id i, (s.seq lc).infl.find? (fun i => i.id == id) = some i → (s.seq lc).st = 1 → s.completable i = true →
    ∃ t, exec (.descriptorComplete lc id .ok) s = .next t ∧ t.mem = s.mem ∧ (t.seq lc).infl = (s.seq lc).infl.filter (fun j => j.id != id) ∧
      (t.seq lc).pflags = (s.seq lc).pflags ||| (bool01 (decide (0 < i.inv)) + 2 * bool01 i.sat + 4 * bool01 (decide (0 < i.trunc))) ∧
      (t.seq lc).lastDone = s.tick) ∧
  (∀ s lc id i e, (s.seq lc).infl.find? (fun i => i.id == id) = some i → (s.seq lc).st = 1 → s.completable i = true →
    i.unit = 3 ∨ i.unit = 4 → i.cont = false →
    ∃ t, exec (.descriptorComplete lc id (.transient e)) s = .next t ∧ (t.seq lc).infl = (s.seq lc).infl.filter (fun j => j.id != id) ∧
      t.fld .fr Fr.UNIT_TRANSIENT_CNT = min (s.fld .fr Fr.UNIT_TRANSIENT_CNT + 1) (2 ^ 32 - 1)) ∧
  (∀ s lc, (s.seq lc).st = 1 → (s.seq lc).lastDone + s.fld .wd Wd.WD_CTX ≤ s.tick → s.unitDown (lc / 8) (s.physOf lc) = false →
    ∃ t, exec (.contextWatchdog lc) s = .next t ∧ s.Faulted t lc 0x23 0 ∧ t.resets = s.resets ∧
      t.fld .wd Wd.WD_CTX_CNT = min (s.fld .wd Wd.WD_CTX_CNT + 1) (2 ^ 32 - 1))

/-- The watchdogs of engines, sequencers and stopping cores count their firing and start the reset of the unit, and the reset commands start
the reset that they name (R428, R433, R435, R443, R525). A reset that is ready returns its domain and shows its duration, one that overruns
starts the next level, and the last overrun leaves the module FAILED (R433, R434, R436).
Choices of the model: log entries 4, 47. -/
def Obligations.ResetsStartCompleteAndEscalate : Prop :=
  (∀ s d c p e, d < 2 → c < 4 → p < 9 → e < 4 →
    s.fld .wd Wd.WD_LIMITS_WD_ENG ≤ smGet (fun _ => 0) (tGet s.cores (d * 64 + c * 16 + p)).engIdle e →
    s.fld (.eng d c p e) Eng.ENG_STATUS_STATE = 1 → s.unitDown (4 * d + c) p = false →
    s.resets.any (fun r => r.holds 1 (upathEngine d c p e)) = false →
    ∃ t, exec (.engineWatchdog d c p e) s = .next t ∧ (∃ r ∈ t.resets, r.level = 1 ∧ r.upath = upathEngine d c p e ∧ r.cause = 1) ∧
      t.fld .wd Wd.WD_ENG_CNT = min (s.fld .wd Wd.WD_ENG_CNT + 1) (2 ^ 32 - 1)) ∧
  (∀ s d c p, d < 2 → c < 4 → p < 9 → s.fld .wd Wd.WD_LIMITS_WD_SEQ ≤ (tGet s.cores (d * 64 + c * 16 + p)).probeMiss →
    s.unitDown (4 * d + c) p = false →
    ∃ t, exec (.sequencerWatchdog d c p) s = .next t ∧ t.resets.any (fun r => r.holds 2 (upathCore d c p)) = true ∧
      t.fld .wd Wd.WD_SEQ_CNT = min (s.fld .wd Wd.WD_SEQ_CNT + 1) (2 ^ 32 - 1)) ∧
  (∀ s lc, lc < 64 → (s.seq lc).st = 3 → (s.seq lc).lastDone + 2 ≤ s.tick → s.physOf lc < 9 → s.unitDown (lc / 8) (s.physOf lc) = false →
    ∃ t, exec (.programEndWatchdog lc) s = .next t ∧
      t.resets.any (fun r => r.holds 2 (upathCore (lc / 32) (lc / 8 % 4) (s.physOf lc))) = true ∧
      t.fld .wd Wd.WD_SEQ_CNT = min (s.fld .wd Wd.WD_SEQ_CNT + 1) (2 ^ 32 - 1)) ∧
  (∀ s m, s.MayWrite m .rst → s.failed = false →
    let l := s.fld .rst Rst.RST_CMD_LEVEL
    let u := s.fld .rst Rst.RST_CMD_UPATH
    upValid l u = true → s.resets.any (fun r => r.holds l u) = false →
    ∃ t, exec (.rstGo m) s = .next t ∧ ∃ r ∈ t.resets, r.level = l ∧ r.upath = u ∧ r.cause = 4 ∧ r.start = s.tick) ∧
  (∀ s m, s.MayWrite m .rst → (s.failed = true ∨ upValid (s.fld .rst Rst.RST_CMD_LEVEL) (s.fld .rst Rst.RST_CMD_UPATH) = false) →
    ∃ t, exec (.rstGo m) s = .next t ∧ t.resets = s.resets ∧ bitAt (t.fld .rst Hd.ERR_STAT) 0 = true) ∧
  (∀ s m pg p l u, Page.ofBase pg = some p → p.unit = some (l, u) → s.MayWrite m p → s.failed = false → upValid l u = true →
    s.resets.any (fun r => r.holds l u) = false →
    ∃ t, exec (.unitReset m pg) s = .next t ∧ ∃ r ∈ t.resets, r.level = l ∧ r.upath = u ∧ r.cause = 4) ∧
  (∀ s level upath ns r, s.resets.find? (fun r => r.level == level && r.upath == upath) = some r → 1 ≤ level → level ≤ 5 →
    ∃ t, exec (.resetDone level upath ns) s = .next t ∧ t.resets = s.resets.filter (fun x => x != r) ∧
      t.fld .rst Rst.RST_LAST_NS = ns % 2 ^ 32 ∧
      (level = 5 → t.mod_.core0 = true ∧ t.mod_.core1 = true ∧ ∀ k, sramKey 0 ≤ k → t.byte k = 0) ∧
      (level < 5 → t.mem = s.mem)) ∧
  (∀ s level upath r, s.resets.find? (fun r => r.level == level && r.upath == upath) = some r → 1 ≤ level → level < 5 →
    r.start + rstBound level ≤ s.tick → s.failed = false →
    ∃ t, exec (.resetEscalate level upath) s = .next t ∧ t.resets.any (fun x => x.holds (level + 1) (upAt (level + 1) upath)) = true ∧
      t.fld .rst Rst.ESC_CNT = min (s.fld .rst Rst.ESC_CNT + 1) (2 ^ 32 - 1)) ∧
  (∀ s r, r ∈ s.resets → r.level = 5 → r.start + 5000 ≤ s.tick → s.failed = false →
    ∃ t, exec .moduleFail s = .next t ∧ t.failed = true ∧ t.resets = [] ∧ t.fld .glb (Glb.MOD_STATE.sub 2 0) = 5 ∧
      t.mod_.core0 = false ∧ t.mod_.core1 = false)

/-- The queue of a near-memory unit: a page write posts its command block, the next command starts when it passes the checks and conflicts
with none that runs, a completed one writes RESULT, and a datapath reset ends what runs (R190, R191, R193–R195, R428, R437).
Choices of the model: log entries 3, 113. -/
def Obligations.NmuQueuesRunInOrder : Prop :=
  (∀ s m k v, s.MayWrite m (.nmu k) → bitAt v.toNat 0 = true → (s.nmuSt k).failed = false →
    ((s.nmuSt k).qPage.filter (fun c => c.src != 3)).length < 8 →
    ∃ (t : State) (c : NCmd), exec (.nmuPagePost m k v) s = .next t ∧ (t.nmuSt k).qPage = (s.nmuSt k).qPage ++ [c] ∧ c.src = 1 ∧
      c.addr = s.fld64 (.nmu k) Nmu.CMD_ADDR_LO ∧ c.sigAddr = s.fld64 (.nmu k) Nmu.CMD_SIG_LO ∧ t.mem = s.mem) ∧
  (∀ s k c x, (s.nmuSt k).inReset = false → (s.nmuSt k).failed = false → ((s.nmuSt k).running.filter (fun c => c.src != 2)).length < 4 →
    (s.nmuSt k).pick = some (c, x) → c.err = 0 → s.nmuCheck c = 0 → s.nmuConflict (s.nmuSt k) c = false →
    ∃ t, exec (.nmuCmdStart k) s = .next t ∧ (t.nmuSt k).running = (s.nmuSt k).running ++ [c] ∧ (t.nmuSt k).qCall = x.qCall ∧
      (t.nmuSt k).qPage = x.qPage ∧ t.mem = s.mem) ∧
  (∀ s k c x, (s.nmuSt k).inReset = false → (s.nmuSt k).failed = false → ((s.nmuSt k).running.filter (fun c => c.src != 2)).length < 4 →
    (s.nmuSt k).pick = some (c, x) → c.err = 0 → s.nmuCheck c ≠ 0 →
    ∃ t u : State, exec (.nmuCmdStart k) s = .next t ∧ t = u.contPump ∧ (u.nmuSt k).qCall = x.qCall ∧ (u.nmuSt k).qPage = x.qPage ∧
      (u.nmuSt k).running = (s.nmuSt k).running ∧ u.fld (.nmu k) Nmu.CMD_REJ_CNT = min (s.fld (.nmu k) Nmu.CMD_REJ_CNT + 1) (2 ^ 32 - 1)) ∧
  (∀ s k idx c, (s.nmuSt k).running[idx]? = some c → c.done = true → c.src = 0 ∨ c.src = 1 → c.err = 0 → s.consumeOpen c = false →
    s.heldOn (s.nmuDest c) = false →
    ∃ t u : State, exec (.nmuCmdComplete k idx) s = .next t ∧ t = u.contPump ∧ (u.nmuSt k).running = (s.nmuSt k).running.eraseIdx idx ∧
      u.fld (.nmu k) Nmu.CMD_CNT = min (s.fld (.nmu k) Nmu.CMD_CNT + 1) (2 ^ 32 - 1) ∧
      (c.sigAddr = 0 → ∃ w : State, u.mem = (w.writeMem (c.addr + 0x38) (bytesLE 8 (c.resultWord 1)) c.who).1.mem ∧ w.mem = s.mem ∧ w.lines = s.lines ∧
        w.mats = s.mats)) ∧
  (∀ s k c l, (s.nmuSt k).running = c :: l → s.fld .wd Wd.WD_LIMITS_WD_NMU ≤ (s.nmuSt k).idle → (s.nmuSt k).inReset = false →
    (s.nmuSt k).failed = false →
    ∃ t u : State, exec (.nmuWatchdog k) s = .next t ∧ t = u.contPump ∧ (u.nmuSt k).running = [] ∧ (u.nmuSt k).inReset = true ∧
      (u.nmuSt k).qCall = (s.nmuSt k).qCall ∧ (u.nmuSt k).qPage = (s.nmuSt k).qPage ∧ (u.nmuSt k).rstTick = s.tick ∧ u.mem = s.mem ∧
      u.fld .wd Wd.WD_NMU_CNT = min (s.fld .wd Wd.WD_NMU_CNT + 1) (2 ^ 32 - 1)) ∧
  (∀ s k, (s.nmuSt k).inReset = true → (s.nmuSt k).failed = false →
    ∃ t, exec (.nmuDatapathResetDone k) s = .next t ∧ (t.nmuSt k).inReset = false ∧ (t.nmuSt k).qCall = (s.nmuSt k).qCall ∧
      t.fld .rst Rst.NMU_RST_CNT = min (s.fld .rst Rst.NMU_RST_CNT + 1) (2 ^ 32 - 1)) ∧
  (∀ s k, (s.nmuSt k).inReset = true → (s.nmuSt k).failed = false → (s.nmuSt k).rstTick + 1000 ≤ s.tick →
    ∃ t, exec (.nmuFail k) s = .next t ∧ (t.nmuSt k).failed = true ∧ (t.nmuSt k).inReset = false)

/-- FILL, COPY, the Reed–Solomon commands and DIGEST move their data: what each writes, and where (R199–R201). SCRUB and the snapshot
commands: what scrubbing counts, what arming leaves, and the units that are saved and consumed (R209–R214).
Choices of the model: log entries 3, 97, 113. -/
def Obligations.NmuBlockAndSnapshotCommandsAct : Prop :=
  (∀ s k idx c u e, s.NmuTakes k idx 1 0 c →
    s.nmuWrite c c.a0 ((List.replicate (c.cnt / 64) ((List.replicate 8 (bytesLE 8 c.param)).flatten)).flatten) c.cnt = (u, e) →
    ∃ t, exec (.nmuFill k idx) s = .next t ∧ t.NmuDid k idx u e) ∧
  (∀ s k idx c u1 b e1 u2 e2, s.NmuTakes k idx 2 0 c → s.nmuRead c c.a1 c.cnt = (u1, b, e1) → u1.nmuWrite c c.a0 b b.length = (u2, e2) →
    ∃ t, exec (.nmuCopy k idx) s = .next t ∧ t.NmuDid k idx u2 (if e1 = 0 then e2 else e1)) ∧
  (∀ s k idx c u1 ds u2 u3, s.NmuTakes k idx 3 0 c → s.readStripes c (s.addrList c.a1 c.k) = (u1, ds, 0) →
    let n := minLen c.cnt ds
    let pq := rsParity n (ds.map (fun d => d.take n))
    u1.nmuWrite c c.a0 (toBytes pq.1) n = (u2, 0) → (if c.a2 = 0 then (u2, 0) else u2.nmuWrite c c.a2 (toBytes pq.2) n) = (u3, 0) →
    ∃ t, exec (.rsEnc k idx) s = .next t ∧ t.NmuDid k idx u3 0) ∧
  (∀ s k idx c u1 b e1 u2 e2 u3 e3, s.NmuTakes k idx 3 1 c → s.nmuRead c c.a1 c.cnt = (u1, b, e1) →
    u1.rsAdd c c.a0 (b.map (fun x => x.toNat)) = (u2, e2) →
    (if c.a2 = 0 then (u2, 0) else u2.rsAdd c c.a2 (mulAlpha c.k (b.map (fun x => x.toNat)))) = (u3, e3) →
    ∃ t, exec (.rsAcc k idx) s = .next t ∧ t.NmuDid k idx u3 (firstErr [e1, e2, e3])) ∧
  (∀ s k idx c u1 got u2 u3, s.NmuTakes k idx 3 2 c →
    let l := s.addrList c.a1 (c.k + 2)
    let gone := fun i => decide (i = c.x) || decide (i = c.y)
    let nd := ((List.range c.k).filter gone).length
    let need := (List.range (c.k + 2)).filter (fun i => !gone i
      && (decide (i < c.k) || (i == c.k && decide (1 ≤ nd)) || (i == c.k + 1 && (decide (nd = 2) || (decide (nd = 1) && gone c.k)))))
    s.readStripes c (need.map (fun i => l.getD i 0)) = (u1, got, 0) →
    let n := minLen c.cnt got
    let st := (List.range (c.k + 2)).map (fun i =>
      match (need.zip got).find? (fun p => p.1 == i) with
      | some p => p.2.take n
      | none => List.replicate n 0)
    let ds := rsRebuild n c.k c.x c.y st
    let stripe := fun i => if i < c.k then ds.getD i [] else if i = c.k then (rsParity n ds).1 else (rsParity n ds).2
    u1.nmuWrite c (l.getD c.x 0) (toBytes (stripe c.x)) n = (u2, 0) →
    (if c.y = 63 then (u2, 0) else u2.nmuWrite c (l.getD c.y 0) (toBytes (stripe c.y)) n) = (u3, 0) →
    ∃ t, exec (.rsDec k idx) s = .next t ∧ t.NmuDid k idx u3 0) ∧
  (∀ s k idx c u1 b u2, s.NmuTakes k idx 4 0 c → s.nmuRead c c.a1 c.cnt = (u1, b, 0) →
    (u1.nmuTotal k true 16).nmuStore c c.a0 (bytesLE 16 (digest128 (u1.digKey c.part) b)) = (u2, 0) →
    ∃ t, exec (.nmuDigest k idx) s = .next t ∧ t.NmuDid k idx u2 0) ∧
  (∀ s k idx s0 s1 md c, s.NmuTakes k idx 10 0 c →
    ∃ t, exec (.nmuScrub k idx s0 s1 md) s = .next t ∧ t.mem = s.mem ∧
      ∃ c', (t.nmuSt k).running[idx]? = some c' ∧ c'.done = true ∧ c'.err = 0 ∧
        (s0 = [] → s1 = [] → md = [] → s.lines = [] → c'.detail = 0)) ∧
  (∀ s k idx c, s.NmuTakes k idx 11 0 c → s.nmuSnapOk c = true →
    ∃ t, exec (.snapArm k idx) s = .next t ∧ (∃ c', (t.nmuSt k).running[idx]? = some c' ∧ c'.done = true ∧ c'.err = 0) ∧
      ∀ j < 12, t.fld (.mat j) Mat.SNAP_ID = c.param % 2 ^ 32) ∧
  (∀ s k idx c, s.NmuTakes k idx 11 0 c → s.nmuSnapOk c = false →
    ∃ t, exec (.snapArm k idx) s = .next t ∧ t.mem = s.mem ∧ t.mats = s.mats ∧
      ∃ c', (t.nmuSt k).running[idx]? = some c' ∧ c'.done = true ∧ c'.err = 0x14) ∧
  (∀ s k idx c, s.NmuTakes k idx 11 1 c → (∃ j < 12, s.matActive j = true ∧ s.fld (.mat j) Mat.SNAP_ID = c.param % 2 ^ 32) →
    ∃ t, exec (.snapAbort k idx) s = .next t ∧ ∀ j < 12, t.matActive j = false) ∧
  (∀ s k u ns n, (∃ w ∈ (s.mat k).held, w.l / 4096 = u) → s.slotFree k = true → smGet (fun _ => 0) (s.mat k).unitSt u = 1 →
    (s.mat k).freeSlot (s.fld (.mat k) (Mat.SIDE_UNITS.sub 16 0)) = some n →
    ∃ t, exec (.snapUnitSaved k u ns) s = .next t ∧ smGet (fun _ => 0) (t.mat k).unitSt u = 2 ∧ smGet (fun _ => 65536) (t.mat k).slotOf u = n ∧
      ∀ w ∈ (t.mat k).held, w.l / 4096 ≠ u) ∧
  (∀ s lead idx k u c, (s.nmuSt lead).running[idx]? = some c → c.op = 2 → c.consume = true → c.done = true →
    (∃ r ∈ unitsOf (gaOff c.a1) c.cnt, r.1 + r.2 ≤ gaOff c.a1 + c.got ∧ s.unitOf r.1 = some (k, u)) → s.matActive k = true →
    (s.unitSt k u = 1 ∨ s.unitSt k u = 2) →
    ∃ t, exec (.snapUnitConsumed lead idx k u) s = .next t ∧
      ((∃ v, v ≠ u ∧ (smGet (fun _ => 0) (s.mat k).unitSt v = 1 ∨ smGet (fun _ => 0) (s.mat k).unitSt v = 2)) → t.unitSt k u = 3) ∧
      ∀ w ∈ (t.mat k).held, w.l / 4096 ≠ u) ∧
  (∀ s k, s.matActive k = true → k < 12 → (s.mat k).held ≠ [] →
    ∃ t, exec (.snapHoldTimeout k) s = .next t ∧ ∀ j < 12, t.matActive j = false)

/-- The commands that compute on elements: optimiser steps, the gradient accumulator, row gathers and scatters, and conversions
(R202–R208). -/
def Obligations.NmuElementCommandsCompute : Prop :=
  (∀ s k idx c u1 w u2 g u3 m u4 u5 u6 f4 f5 f6, s.NmuTakes k idx 5 0 c → s.nmuElems c c.a0 (c.fmt 0) c.cnt = (u1, w, 0) →
    u1.nmuElems c c.a1 (c.fmt 1) c.cnt = (u2, g, 0) → u2.nmuElems c c.a2 (c.fmt 2) c.cnt = (u3, m, 0) →
    let r := ((nmuF32 (c.fmt 0) w).zip ((nmuF32 (c.fmt 1) g).zip (nmuF32 (c.fmt 2) m))).map
      (fun p => optSgd (c.hy 0 4) (c.hy 4 4) (c.hy 0x20 4) c.gscale p.1 p.2.1 p.2.2)
    u3.optPut c c.a0 (c.fmt 0) (c.hy 0x38 4) (r.map (fun p => p.1)) = (u4, 0, f4) →
    u4.optPut c c.a2 (c.fmt 2) ((c.hy 0x38 4 + 1) % 2 ^ 32) (r.map (fun p => p.2)) = (u5, 0, f5) →
    u5.optCopy c (r.map (fun p => p.1)) = (u6, 0, f6) →
    ∃ t, exec (.optSgd k idx) s = .next t ∧ t.NmuDid k idx u6 0) ∧
  (∀ s k idx c u1 w u2 g u3 m u4 v u5 u6 u7 u8 f5 f6 f7 f8, s.NmuTakes k idx 5 1 c →
    s.nmuElems c c.a0 (c.fmt 0) c.cnt = (u1, w, 0) → u1.nmuElems c c.a1 (c.fmt 1) c.cnt = (u2, g, 0) →
    u2.nmuElems c c.a2 (c.fmt 2) c.cnt = (u3, m, 0) → u3.nmuElems c c.a3 (c.fmt 3) c.cnt = (u4, v, 0) →
    let r := ((nmuF32 (c.fmt 0) w).zip ((nmuF32 (c.fmt 1) g).zip ((nmuF32 (c.fmt 2) m).zip (nmuF32 (c.fmt 3) v)))).map
      (fun p => optAdamW (c.hy 0 4) (c.hy 4 4) (c.hy 8 4) (c.hy 0xC 4) (c.hy 0x10 4) (c.hy 0x14 4) (c.hy 0x18 4) (c.hy 0x1C 4)
        (c.hy 0x20 4) c.gscale p.1 p.2.1 p.2.2.1 p.2.2.2)
    u4.optPut c c.a0 (c.fmt 0) (c.hy 0x38 4) (r.map (fun p => p.1)) = (u5, 0, f5) →
    u5.optPut c c.a2 (c.fmt 2) ((c.hy 0x38 4 + 1) % 2 ^ 32) (r.map (fun p => p.2.1)) = (u6, 0, f6) →
    u6.optPut c c.a3 (c.fmt 3) ((c.hy 0x38 4 + 2) % 2 ^ 32) (r.map (fun p => p.2.2)) = (u7, 0, f7) →
    u7.optCopy c (r.map (fun p => p.1)) = (u8, 0, f8) →
    ∃ t, exec (.optAdamw k idx) s = .next t ∧ t.NmuDid k idx u8 0) ∧
  (∀ s k idx c u1 v u2 sc u3 ab u4, s.NmuTakes k idx 6 0 c → s.nmuElems c c.a1 (c.fmt 1) c.cnt = (u1, v, 0) →
    u1.nmuScales c c.a2 (c.fmt 1) = (u2, sc, 0) → u2.nmuRead c c.a0 c.cnt 256 = (u3, ab, 0) →
    let n := min v.length (min (ab.length / 8) (if fmtBS (c.fmt 1) then 32 * sc.length else c.cnt))
    let vals := decodeArray (c.fmt 1) (v.take n) (sc.map (fun x => x.toNat))
    u3.nmuWrite c c.a0 ((vals.zipIdx.map (fun p =>
      bytesLE 8 (gaccAdd c.fGacc (natLE ((ab.drop (8 * p.2)).take 8)) p.1.1).1)).flatten) vals.length 256 = (u4, 0) →
    ∃ t, exec (.gaccAdd k idx) s = .next t ∧ t.NmuDid k idx u4 0) ∧
  (∀ s k idx c u1 ab u2 u3 u4, ∀ p ∈ [(Instr.gaccRead k idx, 1, false), (Instr.gaccReadClear k idx, 2, true)],
    s.NmuTakes k idx 6 p.2.1 c → s.nmuRead c c.a1 c.cnt 256 = (u1, ab, 0) →
    let n := ab.length / 8
    let vals := (List.range n).map (fun i => (gaccVal c.fGacc (natLE ((ab.drop (8 * i)).take 8)), false))
    let rnd := fun i => rndOf (c.fmt 0) c.seed c.step (c.param % 2 ^ 32) (c.origin * 65536 + i)
    let o := if fmtBS (c.fmt 0) then quantArray (c.fmt 0) rnd (n + 1) 0 vals else ([], castArray (c.fmt 0) rnd vals)
    u1.nmuPut c c.a0 (c.fmt 0) o.2.1 = (u2, 0) →
    (if fmtBS (c.fmt 0) then u2.nmuWrite c c.a3 (toBytes o.1) n 1 else (u2, 0)) = (u3, 0) →
    (if p.2.2 then u3.nmuWrite c c.a1 (List.replicate (8 * n) 0) n 256 else (u3, 0)) = (u4, 0) →
    ∃ t, exec p.1 s = .next t ∧ t.NmuDid k idx u4 0) ∧
  (∀ s k idx c, s.NmuTakes k idx 7 0 c →
    ∃ t e, exec (.nmuGather k idx) s = .next t ∧ (∃ c', (t.nmuSt k).running[idx]? = some c' ∧ c'.done = true ∧ c'.err = e) ∧
      s.KeepsBytes t (s.rangeKeys c.a0 (c.cnt * c.rowBytes (c.fmt 0)))) ∧
  (∀ s k idx c u1 ib u2 v u3, s.NmuTakes k idx 7 0 c → c.cnt = 1 → s.nmuList k c c.a2 4 = (u1, ib, 0) → ib.length = 4 → natLE ib < c.tRows →
    u1.nmuElems c (c.a1 + natLE ib * c.rowBytes (c.fmt 1)) (c.fmt 1) c.rowLen = (u2, v, 0) →
    u2.nmuPut c c.a0 (c.fmt 0) (castArray (c.fmt 0) (fun _ => .rne) (decodeArray (c.fmt 1) v [])).1 = (u3, 0) →
    ∃ t, exec (.nmuGather k idx) s = .next t ∧ t.NmuDid k idx u3 0) ∧
  (∀ s k idx c u e fl tr cnt, s.NmuTakes k idx 8 0 c →
    s.scatterRows k c 4 (fun old v => (List.zipWith (fun t (p : Val × Bool) => rne32 ((f32Val t).add p.1)) old v, { inv := v.any (fun x => x.2) }, false, 0))
      = (u, e, fl, tr, cnt) →
    ∃ t, exec (.scatterAddFp32 k idx) s = .next t ∧ t.NmuDid k idx u e) ∧
  (∀ s k idx c u e fl tr cnt, s.NmuTakes k idx 8 1 c →
    s.scatterRows k c 8 (fun old v =>
      let r := List.zipWith (fun t (p : Val × Bool) => (gaccAdd c.fScat t p.1, p.2)) old v
      (r.map (fun p => p.1.1), { inv := r.any (fun p => p.1.2.1 || p.2), sat := r.any (fun p => p.1.2.2.1) },
        r.any (fun p => p.1.2.2.2), (r.filter (fun p => p.1.2.2.1)).length)) = (u, e, fl, tr, cnt) →
    ∃ t, exec (.scatterAddExact k idx) s = .next t ∧ t.NmuDid k idx u e) ∧
  (∀ s k idx c u1 v u2, s.NmuTakes k idx 9 0 c → s.convertSrc c = (u1, v, 0) →
    u1.nmuPut c c.a0 (c.fmt 0) (castArray (c.fmt 0)
      (fun i => rndOf (c.fmt 0) c.seed c.step (c.param % 2 ^ 32) (c.origin * 65536 + i)) v).1 = (u2, 0) →
    ∃ t, exec (.convertCast k idx) s = .next t ∧ t.NmuDid k idx u2 0) ∧
  (∀ s k idx c u1 v u2 u3, s.NmuTakes k idx 9 1 c → s.convertSrc c = (u1, v, 0) →
    let q := quantArray (c.fmt 0) (fun i => rndOf (c.fmt 0) c.seed c.step (c.param % 2 ^ 32) (c.origin * 65536 + i)) (v.length + 1) 0 v
    u1.nmuPut c c.a0 (c.fmt 0) q.2.1 = (u2, 0) → u2.nmuWrite c c.a3 (toBytes q.1) v.length 1 = (u3, 0) →
    ∃ t, exec (.convertQuantise k idx) s = .next t ∧ t.NmuDid k idx u3 0)


/-- EDESK_READ, EDESK_LINE_WRITE, EDESK_PARTIAL_WRITE, RECOMPUTE_DONE and RECOMPUTE_TIMEOUT complete, and each clause says with what. A read
answers the good data of the line as it is stored, counts a refetch that is good, or ends in a bus error; a line never written is a bus
error (R174, R178, R180). A whole-line write stores its bytes and the line's code, a partial write merges its bytes into the line, and a
line whose merge read fails stays as it was (R172, R173).
Choices of the model: log entries 3, 24, 25, 96. -/
def Obligations.EdeskReadsAndWritesEndAsChecked : Prop :=
  (∀ s k l req, s.stackUp k = true → l < s.capOf k → (s.stk k).holds l = false → (s.lineMeta k (l / 64 * 64)).unwritten = false →
    s.lineFails k (l / 64 * 64) = false →
    ∃ t, exec (.edeskRead k l req {}) s = .next t ∧ t.mem = s.mem ∧ t.lines = s.lines ∧
      (req = .host → t.out = s.out ++ [.hostRead 0 (s.bytes (edKey k (l / 64 * 64)) 64)])) ∧
  (∀ s k l o, s.stackUp k = true → l < s.capOf k → (s.stk k).holds l = false →
    let x := (s.innerRead k l o.first).2
    let s1 := (s.innerRead k l o.first).1.innerCount k l x []
    x.md.unwritten = false → x.md.poison = false → x.good k l = false → (s1.innerRead k l o.again).2.good k l = true →
    ∃ t, exec (.edeskRead k l .host o) s = .next t ∧ Out.hostRead 0 (s1.innerRead k l o.again).2.data ∈ t.out ∧
      t.fld (.mc k) Mc.OUT_TRANSIENT_CNT = min (s.fld (.mc k) Mc.OUT_TRANSIENT_CNT + 1) (2 ^ 32 - 1)) ∧
  (∀ s k l, s.stackUp k = true → l < s.capOf k → (s.stk k).holds l = false → (s.lineMeta k (l / 64 * 64)).unwritten = true →
    ∃ t, exec (.edeskRead k l .host {}) s = .next t ∧ t.mem = s.mem ∧ t.fld (.mc k) Mc.UNWRITTEN_CNT = min (s.fld (.mc k) Mc.UNWRITTEN_CNT + 1) (2 ^ 32 - 1) ∧
      Out.hostRead 2 (List.replicate 64 0xFF) ∈ t.out) ∧
  (∀ s k l, s.stackUp k = true → l < s.capOf k → (s.stk k).holds l = false → s.lineFails k (l / 64 * 64) = true →
    (s.lineMeta k (l / 64 * 64)).rc = false →
    ∃ t, exec (.edeskRead k l .host {}) s = .next t ∧ t.mem = s.mem ∧ Out.hostRead 2 (List.replicate 64 0xFF) ∈ t.out ∧
      t.fld (.mc k) Mc.OUT_BUSERR_CNT = min (s.fld (.mc k) Mc.OUT_BUSERR_CNT + 1) (2 ^ 32 - 1)) ∧
  (∀ s k c r, (s.nmuSt k).running.find? (fun c => c.src == 2) = some c → c.done = true →
    let v := (s.setNmu k { s.nmuSt k with running := (s.nmuSt k).running.filter (fun c => c.src != 2) }).nmuLeave k c
    (v.stk k).recomp = some r →
    ∃ t u : State, exec (.recomputeDone k []) s = .next t ∧ t = u.recompEnd k ∧ (u.stk k).recomp = none ∧
      (∀ x ∈ (u.nmuSt k).running, x.src ≠ 2) ∧
      (c.err ≠ 0 → u.fld (.mc k) Mc.OUT_BUSERR_CNT = min (v.fld (.mc k) Mc.OUT_BUSERR_CNT + r.waits.length) (2 ^ 32 - 1)) ∧
      (c.err = 0 → (∀ w ∈ r.waits, (v.lineMeta k (w.line / 64 * 64)).unwritten = false ∧ v.lineFails k (w.line / 64 * 64) = false) →
        u.mem = v.mem ∧ u.fld (.mc k) Mc.OUT_BUSERR_CNT = v.fld (.mc k) Mc.OUT_BUSERR_CNT ∧ u.fld (.mc k) Mc.OUT_RECOMP_CNT
          = min (v.fld (.mc k) Mc.OUT_RECOMP_CNT + ((r.waits.map (fun w => w.line / 64)).eraseDups).length) (2 ^ 32 - 1))) ∧
  (∀ s k r, (s.stk k).recomp = some r → r.postTick + 200 ≤ s.tick →
    ∃ t u : State, exec (.recomputeTimeout k) s = .next t ∧ t = u.recompEnd k ∧ (u.stk k).recomp = none ∧ u.mem = s.mem ∧
      u.fld (.mc k) Mc.OUT_BUSERR_CNT = min (s.fld (.mc k) Mc.OUT_BUSERR_CNT + r.waits.length) (2 ^ 32 - 1)) ∧
  (∀ s o data req k l, data.length = 64 → s.edMap (o / 64 * 64) = some (k, l) → s.stackUp k = true → (s.stk k).holds l = false →
    s.unitSt k (l / 4096) ≠ 1 →
    ∃ t, exec (.edeskLineWrite o data req) s = .next t ∧ t.bytes (edKey k l) 64 = data ∧
      t.lineMeta k l = { crc := outerCode k l data, rc := s.rcOf k l (s.reqCtx req), unwritten := false, poison := false } ∧
      s.KeepsBytes t ((List.range 64).map (fun i => edKey k l + i)) ∧ (req = .host → t.regs = s.regs)) ∧
  (∀ s o data req k l, 0 < data.length → o % 64 + data.length ≤ 64 → data.length < 64 → s.edMap o = some (k, l) → s.stackUp k = true →
    (s.stk k).holds l = false → s.unitSt k (l / 4096) ≠ 1 → (s.lineMeta k (l / 64 * 64)).unwritten = false →
    s.lineFails k (l / 64 * 64) = false →
    ∃ t, exec (.edeskPartialWrite o data [] req) s = .next t ∧ t.bytes (edKey k l) data.length = data ∧
      s.KeepsBytes t ((List.range data.length).map (fun i => edKey k l + i)) ∧ (t.lineMeta k (l / 64 * 64)).rc = false) ∧
  (∀ s o data k l, 0 < data.length → o % 64 + data.length ≤ 64 → data.length < 64 → s.edMap o = some (k, l) → s.stackUp k = true →
    (s.stk k).holds l = false → s.unitSt k (l / 4096) ≠ 1 → s.lineFails k (l / 64 * 64) = true → (s.lineMeta k (l / 64 * 64)).rc = false →
    ∃ t, exec (.edeskPartialWrite o data [] .host) s = .next t ∧ t.mem = s.mem ∧ t.lines = s.lines ∧
      t.fld (.mc k) Mc.OUT_BUSERR_CNT = min (s.fld (.mc k) Mc.OUT_BUSERR_CNT + 1) (2 ^ 32 - 1)) ∧
  (∀ s o data obs req, o + data.length ≤ 2 ^ 44 →
    ∃ t, exec (.edeskPartialWrite o data obs req) s = .next t ∧
      s.KeepsBytes t (s.rangeKeys (o / 64 * 64) ((o % 64 + data.length + 63) / 64 * 64)))

/-- MAPOUT_GO, MAPOUT_GRANULE_COPY, RCR_EN, SCRUB_LINE, SCRUB_NOW and SCRUB_CTRL_WRITE complete, and each clause says with what: map-out,
recompute regions and patrol scrub (R166, R167, R177, R181, R182).
Choices of the model: log entries 3, 24, 76. -/
def Obligations.EdeskUpkeepActs : Prop :=
  (∀ s m k v, s.MayWrite m (.mc k) → bitAt v.toNat 8 = true → s.fld (.mc k) Mc.MC_STATUS_MAPOUT_STATE = 0 → s.flag (.mc k) Mc.MC_STATUS_READY = true →
    ∃ t, exec (.mapoutGo m k v) s = .next t ∧ t.fld (.mc k) Mc.MC_STATUS_MAPOUT_STATE = 1 ∧ t.fld (.mc k) Mc.MC_STATUS_MAPOUT_CH = v.toNat % 32 ∧
      t.capOf k = 93 * gib ∧ t.fld (.mc k) Mc.MAPOUT_WMARK = 0 ∧ ∀ a, 93 * gib ≤ a → a < 2 ^ 37 → t.byte (edKey k a) = 0) ∧
  (∀ s k bad0 bad1, s.fld (.mc k) Mc.MC_STATUS_MAPOUT_STATE = 1 →
    let r := s.fld (.mc k) (Mc.MAPOUT_WMARK.sub 24 0)
    let x := s.fld (.mc k) Mc.MC_STATUS_MAPOUT_CH
    ∃ t, exec (.mapoutGranuleCopy k bad0 bad1) s = .next t ∧ t.mem = s.mem ∧
      (r + 1 < 24379392 → t.fld (.mc k) (Mc.MAPOUT_WMARK.sub 24 0) = r + 1 ∧ t.fld (.mc k) Mc.MC_STATUS_MAPOUT_STATE = 1 ∧ t.flash = s.flash) ∧
      (r + 1 = 24379392 → t.fld (.mc k) Mc.MC_STATUS_MAPOUT_STATE = 2 ∧ t.fld (.mc k) Mc.MC_STATUS_CAP_GIB = 93 ∧
        smGet (fun _ => 0) t.flash.repair k = x + 1) ∧
      (bad0 = true → (t.lineMeta k ((32 * r + x) * 128)).poison = true)) ∧
  (∀ s m k n v, n < 8 → s.MayWrite m (.mc k) → bitAt v.toNat 0 = true →
    (s.sealOf (s.ctxPart (s.fld (.mc k) ((Mc.RCR_CTX n).sub 12 0)))).closed = false →
    ∃ t, exec (.rcrEn m k n v) s = .next t ∧ (s.rcValid k n = true → t.flag (.mc k) (Mc.RCR_CTRL_EN n) = true) ∧
      (s.rcValid k n = false → t.flag (.mc k) (Mc.RCR_CTRL_EN n) = false ∧ bitAt (t.fld (.mc k) Hd.ERR_STAT) 1 = true)) ∧
  (∀ s k data md, s.flag (.scr k) Scr.SCRUB_CTRL_EN = true → s.flag (.mc k) Mc.MC_STATUS_READY = true →
    s.fld (.scr k) (Scr.SCRUB_STATUS.sub 0 0) = 1 → s.fld (.mc k) Mc.MC_STATUS_MAPOUT_STATE ≠ 1 → (s.stk k).scrubLine * 64 + 64 < s.capOf k →
    let x := (s.innerRead k ((s.stk k).scrubLine * 64) (symsOf data md)).2
    ∃ t, exec (.scrubLine k data md) s = .next t ∧ (t.stk k).scrubLine = (s.stk k).scrubLine + 1 ∧
      (t.stk k).scrubCe = (s.stk k).scrubCe + x.fixed ∧ (t.stk k).scrubDue = (s.stk k).scrubDue + x.due.length ∧
      (data = [] → md = [] → t.mem = s.mem ∧ t.lines = s.lines)) ∧
  (∀ s m k, s.MayWrite m (.scr k) → 1 ≤ s.fld (.scr k) Scr.SCRUB_CTRL_PERIOD → s.fld (.scr k) Scr.SCRUB_CTRL_PERIOD ≤ 168 →
    s.flag (.scr k) Scr.SCRUB_CTRL_EN = true → s.flag (.mc k) Mc.MC_STATUS_READY = true →
    ∃ t, exec (.scrubNow m k) s = .next t ∧ (t.stk k).scrubLine = 0 ∧ t.fld (.scr k) Scr.SCRUB_STATUS = 3 ∧ t.fld (.scr k) Scr.SCRUB_CTRL_NOW = 1) ∧
  (∀ s m k v, s.MayWrite m (.scr k) → 1 ≤ bitsOf v.toNat 15 8 → bitsOf v.toNat 15 8 ≤ 168 →
    ∃ t, exec (.scrubCtrlWrite m k v) s = .next t ∧ t.fld (.scr k) Scr.SCRUB_CTRL_EN = v.toNat % 2 ∧
      t.fld (.scr k) Scr.SCRUB_CTRL_PERIOD = bitsOf v.toNat 15 8) ∧
  (∀ s m k v, s.MayWrite m (.scr k) → (bitsOf v.toNat 15 8 = 0 ∨ 168 < bitsOf v.toNat 15 8) →
    ∃ t, exec (.scrubCtrlWrite m k v) s = .next t ∧ t.fld (.scr k) Scr.SCRUB_CTRL = s.fld (.scr k) Scr.SCRUB_CTRL ∧
      bitAt (t.fld (.scr k) Hd.ERR_STAT) 0 = true)

/-- The timers of a bundle: the acknowledgement, the NAK past a gap, the replay after RETRY_TO and its sixteenth sending of a flit, the end of a
bundle that nothing is heard on, and the end of a resumption that was not answered (R230, R231, R236).
Choices of the model: log entries 3, 101. -/
def Obligations.BundleTimersAct : Prop :=
  (∀ s p n b, (p, n) ∈ s.bndLanes b → (s.bundle b).ackDue = true →
    ∃ t es, exec (.ackTimer p n) s = .next t ∧ t.out = s.out ++ [.flit p n { h := s.laneHdr p n, p := .ack es }] ∧
      (b, ((s.bundle b).rxNext + 65535) % 65536) ∈ es ∧ (t.bundle b).ackDue = false ∧ t.regs = s.regs) ∧
  (∀ s b p n, (p, n) ∈ s.bndLanes b → (s.bundle b).reorder ≠ [] →
    ∃ t, exec (.nakSkewTimer b p n) s = .next t ∧ t.bundles = s.bundles ∧
      t.out = s.out ++ [.flit p n { h := s.laneHdr p n, p := .nak [(b, (s.bundle b).rxNext)] }] ∧
      t.fld (.lnk p) Lnk.NAK_TX_CNT = min (s.fld (.lnk p) Lnk.NAK_TX_CNT + 1) (2 ^ 32 - 1)) ∧
  (∀ s b x xs, (s.bundle b).unacked = x :: xs →
    ∃ t y ys, exec (.retryTimeout b) s = .next t ∧ (t.bundle b).unacked = y :: ys ∧ ys.length = xs.length ∧
      (∀ z ∈ y :: ys, z.resend = true) ∧ (y :: ys).map (fun z => (z.f, z.port, z.times)) = (x :: xs).map (fun z => (z.f, z.port, z.times)) ∧
      t.fld (.lnk x.port) Lnk.REPLAY_CNT = min (s.fld (.lnk x.port) Lnk.REPLAY_CNT + 1) (2 ^ 32 - 1) ∧
      t.fld .bnd Bnd.BND_REPLAY_CNT b = min (s.fld .bnd Bnd.BND_REPLAY_CNT b + 1) (2 ^ 32 - 1)) ∧
  (∀ s p n b x u, s.mod_.uncore = true → p < 8 → n < 9 → s.laneSt p n = 2 → s.laneBundle p n = b → (∀ m < 9, m ≠ n → s.laneSt p m = 0) →
    s.bundles = [(b, x)] → x.owed = [] → x.unacked = [u] → u.resend = true → s.bndUp b = true →
    ∃ t, exec (.flitBoundary p) s = .next t ∧ Out.flit p n u.f ∈ t.out ∧
      (u.times + 1 < 16 → t.bndSt b = 1 ∧ ∃ y, (t.bundle b).unacked = [y] ∧ y.f = u.f ∧ y.port = u.port ∧ y.times = u.times + 1) ∧
      (16 ≤ u.times + 1 → t.bndSt b = 0)) ∧
  (∀ s b, s.bndUp b = true → s.fld64 .bnd Bnd.BND_HEARD_LO b + 20 ≤ s.tick → ∃ t, exec (.bundleDeadTimeout b) s = .next t ∧ t.bndSt b = 2) ∧
  (∀ s b, (s.bundle b).resumeWait = true →
    ∃ t, exec (.resumeTimeout b) s = .next t ∧ (t.bundle b).unacked = [] ∧ (t.bundle b).resumeWait = false ∧ (t.bundle b).wait = (s.bundle b).wait ∧
      t.fld .bnd Bnd.BND_LOST b = min (s.fld .bnd Bnd.BND_LOST b + (s.bundle b).unacked.length) (2 ^ 32 - 1)) ∧
  (∀ s b p n, ∀ c ∈ [Instr.bundleDeadTimeout b, .resumeTimeout b, .retryTimeout b, .nakSkewTimer b p n], s.bundle b = default → s.bndSt b = 0 →
    exec c s = .next s)

/-- What brings a lane pair down and back: its failures are counted with their strikes, it trains again after its retrain time or its
quarantine, and software takes it out, clears it and retrains it (R232–R234).
Choices of the model: log entry 3. -/
def Obligations.LanesFailTrainAndReturn : Prop :=
  (∀ s p n, ∀ c ∈ [(Instr.laneLos p n, 2), (.laneLos p n, 3), (.laneTrainTimeout p n, 1)], copper p = true → s.laneSt p n = c.2 →
    let thr := s.fld (.lan p) Lan.THR_STRIKES
    let strikes := ((s.laneX p n).strikeAt.filter (fun a => decide (s.tick < a + thr / 65536))).length + 1
    ∃ t, exec c.1 s = .next t ∧ t.fld (.lan p) Lan.FAIL_CNT n = min (s.fld (.lan p) Lan.FAIL_CNT n + 1) (2 ^ 32 - 1) ∧
      t.fld (.lan p) Lan.LANE_STATE_STRIKES n = min 15 strikes ∧
      (strikes < thr % 16 → t.laneSt p n = 4) ∧
      (thr % 16 ≤ strikes → s.fld (.lan p) Lan.LANE_STATE_QLEVEL n < 6 →
        t.laneSt p n = 5 ∧ t.fld (.lan p) Lan.LANE_STATE_QLEVEL n = s.fld (.lan p) Lan.LANE_STATE_QLEVEL n + 1) ∧
      (thr % 16 ≤ strikes → 6 ≤ s.fld (.lan p) Lan.LANE_STATE_QLEVEL n → t.laneSt p n = 6)) ∧
  (∀ s p n q, copper p = true → s.laneSt p n = 2 → s.spareFor p n = some q →
    ∃ t, exec (.laneLos p n) s = .next t ∧ t.laneSt p q = 2 ∧ t.laneBundle p q = s.laneBundle p n ∧
      t.fld (.lan p) Lan.LANE_STATE_SERVES n = 15) ∧
  (∀ s p n w0 w1, copper p = true → s.laneSt p n = 1 → (s.laneX p n).step = 1 →
    ∃ t, exec (.laneSignalLocked p n w0 w1) s = .next t ∧ (t.laneX p n).step = 2 ∧ t.laneSt p n = 1 ∧
      t.fld (.trm p) ⟨0x110, 29, 0⟩ n = w0 % 2 ^ 30 ∧ t.fld (.trm p) ⟨0x114, 12, 0⟩ n = w1 % 2 ^ 13) ∧
  (∀ s p n, s.laneSt p n = 4 → (s.laneX p n).since + 10 ≤ s.tick → s.flag (.lnk p) Lnk.LNK_CTRL_EN = true → s.flag .glb Glb.CHIP_ID_VALID = true →
    copper p = true ∨ 4 ≤ s.lockable p →
    ∃ t, exec (.laneRetrainTimer p n) s = .next t ∧ t.laneSt p n = 1 ∧ (t.laneX p n).since = s.tick ∧ (t.laneX p n).rxOk = false) ∧
  (∀ s p n, s.laneSt p n = 4 → s.tick < (s.laneX p n).since + 10 → exec (.laneRetrainTimer p n) s = .next s) ∧
  (∀ s p n, s.laneSt p n = 5 → s.fld64 (.lan p) Lan.QUAR_END_LO n ≤ s.tick → s.flag .glb Glb.CHIP_ID_VALID = true →
    ∃ t, exec (.quarantineEnd p n) s = .next t ∧ t.laneSt p n = 1) ∧
  (∀ s p n, s.laneSt p n = 5 → s.tick < s.fld64 (.lan p) Lan.QUAR_END_LO n → exec (.quarantineEnd p n) s = .next s) ∧
  (∀ s p n, (s.laneSt p n = 2 ∨ s.laneSt p n = 3) → (s.laneX p n).since + 100000 ≤ s.tick →
    ∃ t, exec (.strikeReset p n) s = .next t ∧ t.fld (.lan p) Lan.LANE_STATE_STRIKES n = 0 ∧ (t.laneX p n).strikeAt = [] ∧
      t.laneSt p n = s.laneSt p n) ∧
  (∀ s m p, s.MayWrite m (.lan p) → ∃ t, exec (.laneDisable m p) s = .next t ∧ t.laneSt p (s.laneSel p) = 6) ∧
  (∀ s m p, s.MayWrite m (.lan p) → s.laneSt p (s.laneSel p) = 6 →
    ∃ t, exec (.laneClear m p) s = .next t ∧ t.laneSt p (s.laneSel p) = 0 ∧ t.fld (.lan p) Lan.LANE_STATE_STRIKES (s.laneSel p) = 0 ∧
      t.fld (.lan p) Lan.LANE_STATE_QLEVEL (s.laneSel p) = 0) ∧
  (∀ s m p, s.MayWrite m (.lan p) → s.laneSt p (s.laneSel p) ≠ 6 → ∃ t, exec (.laneClear m p) s = .next t ∧ t.regs = s.regs) ∧
  (∀ s m p, s.MayWrite m (.lnk p) → copper p = true → s.flag (.lnk p) Lnk.LNK_CTRL_EN = true → s.flag .glb Glb.CHIP_ID_VALID = true →
    ∃ t, exec (.retrain m p) s = .next t ∧ ∀ n < 9, 1 ≤ s.laneSt p n → s.laneSt p n ≤ 4 → t.laneSt p n = 1) ∧
  (∀ s m p v, s.MayWrite m (.lnk p) → copper p = true → v.toNat % 4 = 1 → s.flag (.lnk p) Lnk.LNK_CTRL_EN = false → s.flag .glb Glb.CHIP_ID_VALID = true →
    ∃ t, exec (.portEnable m p v) s = .next t ∧ t.flag (.lnk p) Lnk.LNK_CTRL_EN = true ∧ ∀ n < 8, s.laneSt p n = 0 → t.laneSt p n = 1) ∧
  (∀ s m p v, s.MayWrite m (.lnk p) → copper p = true → v.toNat % 2 = 0 → s.flag (.lnk p) Lnk.LNK_CTRL_EN = true →
    ∃ t, exec (.portEnable m p v) s = .next t ∧ t.flag (.lnk p) Lnk.LNK_CTRL_EN = false ∧ ∀ n < 9, s.laneSt p n ≠ 6 → t.laneSt p n = 0)

/-- The windows of the crypto and routing pages: an erased key phase, and the entries of the route, rank and peer tables (R240, R242–R244,
R352). -/
def Obligations.KeysRoutesAndPeersAreWritten : Prop :=
  (∀ s m v, s.MayWrite m (.cry 0) → bitAt v.toNat 0 = true →
    ∃ t, exec (.keyErase m v) s = .next t ∧ t.keys = smDel s.keys s.keySel ∧ t.fld (.cry 0) Cry.KEY_STATUS s.keySel = 0 ∧
      t.fld64 (.cry 0) Cry.NCTR_LO s.keySel = 0 ∧ t.fld64 (.cry 0) Cry.NCTR_LO (s.keySel + 16384) = 0) ∧
  (∀ s m v, s.MayWrite m (.cry 0) → bitAt v.toNat 0 = false → ∃ t, exec (.keyErase m v) s = .next t ∧ t.regs = s.regs ∧ t.keys = s.keys) ∧
  (∀ s m v, s.MayWrite m .rt →
    let i := s.fld .rt (Rt.FRT_IDX.sub 15 0)
    ∃ t, exec (.frtDataHiWrite m v) s = .next t ∧ t.regs = s.regs ∧ t.shReg (regKey .rt 0x11C i) = v &&& 0x0001FFFF ∧
      (t.shReg (regKey .rt 0x118 i)).toNat = s.frtLo &&& 0xFFFF7F7F) ∧
  (∀ s m v, s.MayWrite m .rt →
    let n := s.fld .rt (Rt.RNK_SEL.sub 4 0)
    let part := s.fld .rt (Rt.RNK_SLOT_PART.sub 11 0) n
    (part ≠ 0 → v.toNat % 4096 = part → 1 ≤ s.partState part → s.partState part ≠ 5 →
      ∃ t, exec (.rnkSlotPartWrite m v) s = .next t ∧ t.regs = s.regs ∧ t.shReg (regKey .rt 0x124 n) = v &&& 0x1FFF) ∧
    (part = 0 ∨ v.toNat % 4096 ≠ part ∨ s.partState part = 0 ∨ s.partState part = 5 →
      ∃ t, exec (.rnkSlotPartWrite m v) s = .next t ∧ t.shadow = s.shadow ∧ bitAt (t.fld .ep Hd.ERR_STAT) 0 = true)) ∧
  (∀ s m v, s.MayWrite m .rt →
    let n := s.fld .rt (Rt.RNK_SEL.sub 4 0)
    let part := s.fld .rt (Rt.RNK_SLOT_PART.sub 11 0) n
    (part ≠ 0 → 1 ≤ s.partState part → s.partState part ≠ 5 →
      ∃ t, exec (.rnkDataWrite m v) s = .next t ∧ t.regs = s.regs ∧
        t.shReg (regKey .rt 0x12C (n * 16384 + s.fld .rt (Rt.RNK_IDX.sub 13 0))) = v &&& 0x1FFFF) ∧
    (part = 0 ∨ s.partState part = 0 ∨ s.partState part = 5 →
      ∃ t, exec (.rnkDataWrite m v) s = .next t ∧ t.shadow = s.shadow ∧ bitAt (t.fld .ep Hd.ERR_STAT) 0 = true)) ∧
  (∀ s m v, s.MayWrite m .rt → bitAt v.toNat 28 = false →
    ∃ t, exec (.peerDataWrite m v) s = .next t ∧ t.reg (regKey .rt 0x134 (s.fld .rt (Rt.PEER_IDX.sub 12 0))) = v &&& 0x3FFFFFFF) ∧
  (∀ s m v e, s.MayWrite m .rt → bitAt v.toNat 28 = true → e ∈ s.regs → regAddr e.1 = Page.rt.base + 0x134 →
    e.1 ≠ regKey .rt 0x134 (s.fld .rt (Rt.PEER_IDX.sub 12 0)) → bitAt e.2.toNat 28 = true → e.2.toNat % 2 ^ 28 = v.toNat % 2 ^ 28 →
    ∃ t, exec (.peerDataWrite m v) s = .next t ∧ bitAt (t.fld .rt Hd.ERR_STAT) 0 = true ∧
      t.reg (regKey .rt 0x134 (s.fld .rt (Rt.PEER_IDX.sub 12 0))) = s.reg (regKey .rt 0x134 (s.fld .rt (Rt.PEER_IDX.sub 12 0))))

/-- What every arriving flit is checked for, in R229's order: the channel, the CRC, training, the chip that it names, and its SEQ.
Choices of the model: log entries 3, 28, 29, 108. -/
def Obligations.ArrivingFlitsAreChecked : Prop :=
  ∀ s c p n o f arr, flitOf c = some (p, n, o, f, arr) →
    let b := s.rxBundle p n
    let dup : Prop := 32768 ≤ seqDist (s.bundle b).rxNext f.h.seq ∨ ∃ e ∈ (s.bundle b).reorder, e.1.h.seq = f.h.seq
    (s.rxOn p n = false → exec c s = .next s) ∧
    (s.rxOn p n = true → o.crcOk = false →
      ∃ t, exec c s = .next t ∧ s.changesOnly [.page (Page.lnk 0).kind] t ∧
        t.fld (.lnk p) Lnk.CRC_ERR_CNT = min (s.fld (.lnk p) Lnk.CRC_ERR_CNT + 1) (2 ^ 32 - 1)) ∧
    (s.rxOn p n = true → o.crcOk = true → f.p.sequenced = true → s.rxTrained p n = false → exec c s = .next s) ∧
    (s.rxOn p n = true → o.crcOk = true → f.p.sequenced = true → s.rxTrained p n = true → f.h.next ≠ s.chip →
      ∃ t, exec c s = .next t ∧ t.mem = s.mem ∧ t.fld (.lnk p) Lnk.MISDELIVER_CNT = min (s.fld (.lnk p) Lnk.MISDELIVER_CNT + 1) (2 ^ 32 - 1)) ∧
    (s.Arrives p n o f.h → f.p.sequenced = true → dup →
      ∃ t, exec c s = .next t ∧ s.changesOnly [.bundles, .page (Page.lnk 0).kind, .page Page.bnd.kind] t ∧ (t.bundle b).ackDue = true ∧
        t.fld (.lnk p) Lnk.DUP_DROP_CNT = min (s.fld (.lnk p) Lnk.DUP_DROP_CNT + 1) (2 ^ 32 - 1)) ∧
    (s.Arrives p n o f.h → f.p.sequenced = true → ¬ dup → (∀ e ∈ (s.bundle b).reorder, e.1.h.seq ≠ (s.bundle b).rxNext) →
      f.h.seq ≠ (s.bundle b).rxNext → (∀ c, f.p = .laneCtrl c → c.op < 3 ∨ f.h.dest ≠ s.chip) →
      ∃ t, exec c s = .next t ∧ s.changesOnly [.bundles, .ports, .page (Page.lnk 0).kind, .page Page.bnd.kind] t ∧
        (t.bundle b).reorder = (s.bundle b).reorder ++ [({ f with raw := o.bytes.getD [] }, p)] ∧ (t.bundle b).rxNext = (s.bundle b).rxNext) ∧
    (s.InTurn p n o f.h → f.p.e2e = true → f.h.dest = s.chip → s.tagOk { f with raw := o.bytes.getD [] } = false →
      ∃ t, exec c s = .next t ∧ t.mem = s.mem ∧ t.fld (.cry p) Cry.AUTH_FAIL_CNT = min (s.fld (.cry p) Cry.AUTH_FAIL_CNT + 1) (2 ^ 32 - 1)) ∧
    (s.InTurn p n o f.h → f.p.e2e = true → f.h.dest ≠ s.chip →
      ∃ t u, exec c s = .next t ∧ s.Booked u p n ∧ t = ({ u with mod_ := { u.mod_ with transit := true } }).routeOut { f with raw := o.bytes.getD [] } (some b))

/-- The flits of end-to-end traffic take the effect that their type has once they are accepted (Table 8.3, R241, R536).
Choices of the model: log entries 28, 33, 101, 108. -/
def Obligations.AcceptedFlitsTakeEffect : Prop :=
  (∀ s p n o h a data, s.Accepts p n o h (.wr a data) →
    let r := Requester.peer h.src h.part h.ctx h.gen (h.nctr % 2 ^ 32)
    ∃ t u, exec (.flitWr p n o h a data) s = .next t ∧ s.Booked u p n ∧
      (s.flitRights h (s.here a) data.length = true → t = (u.outerWrite (s.here a) data (some (h.ctx, h.gen)) r).commitLanded h.part) ∧
      (s.flitRights h (s.here a) data.length = false → t = u.answerReq r true 2 [] ∧ t.mem = s.mem)) ∧
  (∀ s p n o h a data k l, s.Accepts p n o h (.wr a data) → s.flitRights h (s.here a) data.length = true → data.length = 64 → a % 64 = 0 →
    gaSpace a = 0 → s.edMap (gaOff a) = some (k, l) → s.stackUp k = true → (s.stk k).holds l = false → s.unitSt k (l / 4096) ≠ 1 → s.ckSt h.part ≠ 2 →
    ∃ t, exec (.flitWr p n o h a data) s = .next t ∧ t.bytes (edKey k l) 64 = data) ∧
  (∀ s p n o h a k tag, s.Accepts p n o h (.rdReq a k tag) →
    let r := Requester.peer h.src h.part h.ctx h.gen tag
    ∃ t u, exec (.flitRdReq p n o h a k tag) s = .next t ∧ s.Booked u p n ∧
      (s.flitRights h (s.here a) k = true → t = u.outerRead (s.here a) k (some (h.ctx, h.gen)) r) ∧
      (s.flitRights h (s.here a) k = false → t = u.answerReq r false 2 [] ∧ t.mem = s.mem)) ∧
  (∀ s p n o h tag status data, s.Accepts p n o h (.rdRsp tag status data) →
    ∃ t u, exec (.flitRdRsp p n o h tag status data) s = .next t ∧ s.Booked u p n ∧
      ((∀ w ∈ s.outst, w.read = true → w.chip = h.src → w.part = h.part → w.tag ≠ tag) → t = u) ∧
      (∀ w g, s.outst.find? (fun w => w.read && w.chip == h.src && w.part == h.part && w.tag == tag) = some w → w.lc < 64 → status = 0 →
        (∃ i ∈ (s.seq w.lc).infl, i.id = w.infl) → s.prog (s.seq w.lc).slot = g →
        t = ((({ u with outst := s.outst.erase w }).writeMem w.dst (data.take w.bytes) (some (g.ctx, g.gen))).1).tagDone w 0)) ∧
  (∀ s p n o h a v w, s.Accepts p n o h (.sig a v w) →
    let r := Requester.peer h.src h.part h.ctx h.gen (h.nctr % 2 ^ 32)
    ∃ t u, exec (.flitSig p n o h a v w) s = .next t ∧ s.Booked u p n ∧
      (sigAligned (s.here a) = true → s.flitRights h (s.here a) 8 = true →
        (w = true → t = u.outerWrite (s.here a) (bytesLE 8 v) (some (h.ctx, h.gen)) r) ∧
        (w = false → ∀ x ok, u.signalWord (s.here a) v false (some (h.ctx, h.gen)) r = (x, ok) → t = x.writeDone r ok)) ∧
      (sigAligned (s.here a) = false ∨ s.flitRights h (s.here a) 8 = false → t = u.answerReq r true 2 [] ∧ t.mem = s.mem)) ∧
  (∀ s p n o h tag status, s.Accepts p n o h (.ackE2e tag status) →
    ∃ t u, exec (.flitAckE2e p n o h tag status) s = .next t ∧ s.Booked u p n ∧
      ((∀ w ∈ s.outst, w.read = false → w.chip = h.src → w.part = h.part → w.tag ≠ tag) → t = u) ∧
      (∀ w, s.outst.find? (fun w => !w.read && w.chip == h.src && w.part == h.part && w.tag == tag) = some w → w.lc < 64 →
        t = ((({ u with outst := s.outst.erase w }).tagDone w status).tapAck w.lc tag))) ∧
  (∀ s p n o h c data, s.Accepts p n o h (.collData c data) →
    ∃ t u, exec (.flitCollData p n o h c data) s = .next t ∧ s.Booked u p n ∧ t = u.collData h.part c data) ∧
  (∀ s p n o h tag rank k, s.Accepts p n o h (.collCredit tag rank k) →
    ∃ t u, exec (.flitCollCredit p n o h tag rank k) s = .next t ∧ s.Booked u p n ∧ t = u.collCredit h.part tag rank k) ∧
  (∀ s p n o h x tag cause absent, s.Accepts p n o h (.collAbort tag cause absent) → s.coll tag = some x → x.part = h.part →
    ∃ t u, exec (.flitCollAbort p n o h tag cause absent) s = .next t ∧ s.Booked u p n ∧ t = u.collAbort tag cause absent) ∧
  (∀ s p n o h tag cause absent, s.Accepts p n o h (.collAbort tag cause absent) → (∀ x, s.coll tag = some x → x.part ≠ h.part) →
    ∃ t, exec (.flitCollAbort p n o h tag cause absent) s = .next t ∧ s.Booked t p n) ∧
  (∀ s p n o h m, s.Accepts p n o h (.mgmt m) →
    ∃ t u, exec (.flitMgmt p n o h m) s = .next t ∧ s.Booked u p n ∧ t = u.mgmtMsg h.src m) ∧
  (∀ s p n o h b q reply, s.Accepts p n o h (.resume b q reply) →
    ∃ t u, exec (.flitResume p n o h b q reply) s = .next t ∧ s.Booked u p n ∧ t = u.resumeRx h.src q) ∧
  (∀ s p n o h b q reply e, s.Accepts p n o h (.resume b q reply) → (s.bundle e).unacked ≠ [] → s.bndUp e = false →
    s.bndPeer e = h.src → (∀ x < e, s.bndPeer x ≠ h.src) → e < 64 → e ≠ s.rxBundle p n → (s.bundle e).resumeSent = false →
    ∃ t, exec (.flitResume p n o h b q reply) s = .next t ∧ (t.bundle e).unacked = [] ∧ (t.bundle e).resumeSent = true ∧
      t.fld .bnd Bnd.BND_RESUME_CNT e = min (s.fld .bnd Bnd.BND_RESUME_CNT e + 1) (2 ^ 32 - 1))

/-- The flits of the link itself: acknowledgements, credits, heartbeats, training, time and the control of lanes and rings (R229, R230, R232–R235,
R272, R290, R313, R357).
Choices of the model: log entries 29, 32, 99, 100, 105. -/
def Obligations.LinkFlitsTakeEffect : Prop :=
  (∀ s p n o h, s.Arrives p n o h →
    let b := s.rxBundle p n
    let u := s.setFld64 .bnd Bnd.BND_HEARD_LO s.tick b
    ∃ t, exec (.flitIdle p n o h) s = .next t ∧
      ((∀ r, s.rxRing p n = some r → (s.ringX p r).rxLost = false) → t = u) ∧
      (∀ r, s.rxRing p n = some r → (s.ringX p r).rxLost = true →
        (t.ringX p r).rxLost = false ∧ ∃ f a, (t.bundle b).wait = (s.bundle b).wait ++ [(f, a)] ∧
          f.p = .laneCtrl { op := 4, bundle := b, port := (s.ringX p r).peerPort })) ∧
  (∀ s p n o h es, s.Arrives p n o h →
    let b := s.rxBundle p n
    ∃ t, exec (.flitAck p n o h es) s = .next t ∧ (t.bundle b).unacked.Sublist (s.bundle b).unacked ∧
      (∀ x ∈ (s.bundle b).unacked, x ∈ (t.bundle b).unacked ↔ ∀ e ∈ es, 32768 ≤ seqDist x.f.h.seq e.2)) ∧
  (∀ s p n o h e q, s.Arrives p n o h →
    let b := s.rxBundle p n
    (∃ x ∈ (s.bundle b).unacked, x.f.h.seq = q) →
    ∃ t, exec (.flitNak p n o h [(e, q)]) s = .next t ∧ (∃ y ∈ (t.bundle b).unacked, y.f.h.seq = q ∧ y.resend = true) ∧
      (t.bundle b).unacked.map (fun x => x.f) = (s.bundle b).unacked.map (fun x => x.f)) ∧
  (∀ s p n o h cs, s.InTurn p n o h → h.dest = s.chip → cs.length = 8 →
    let b := s.bundleTo (s.rxBundle p n) h.src
    ∃ t, exec (.flitCredit p n o h cs) s = .next t ∧ t.mem = s.mem ∧
      ∀ i < 8, smGet (fun _ => 0) (t.bundle b).got i = smGet (fun _ => 0) (s.bundle b).got i + cs.getD i 0) ∧
  (∀ s p n o h chip port lane b tick seq, s.Arrives p n o h → copper p = true →
    let u := s.setFld64 .bnd Bnd.BND_HEARD_LO s.tick (s.rxBundle p n)
    let same := chip % 65536 + port % 32 * 65536 + lane % 16 * 2 ^ 21
    ∃ t, exec (.flitHeartbeat p n o h chip port lane b tick seq) s = .next t ∧
      (s.fld (.lan p) (Lan.LANE_PEER.sub 24 0) n = same → t = u) ∧
      (s.fld (.lan p) (Lan.LANE_PEER.sub 24 0) n ≠ same →
        t.fld (.lan p) Lan.FAIL_CNT n = min (s.fld (.lan p) Lan.FAIL_CNT n + 1) (2 ^ 32 - 1) ∧ 4 ≤ t.laneSt p n)) ∧
  (∀ s p n o h chip port lane b tick seq r, s.Arrives p n o h → s.rxRing p n = some r → chip = s.ringPeerChip p r →
    port = (s.ringX p r).peerPort →
    let l := s.ringF p r Rng.RING_STATE_LINE
    ∃ t, exec (.flitHeartbeat p n o h chip port lane b tick seq) s = .next t ∧ (t.ringX p r).peerLane = lane ∧
      (s.lineSt p l = 2 → t.fld .line (Lin.LINE_STATE.sub 3 3) (lineBank p l) = 1 ∧
        t.fld .line (Lin.LINE_PEER.sub 20 16) (lineBank p l) = port % 32)) ∧
  (∀ s p n o h y, s.InTurn p n o h → h.dest = s.chip →
    ∃ t u, exec (.flitYoyo p n o h y) s = .next t ∧ s.Booked u p n ∧ t = u.yoyoRx (s.bundleTo (s.rxBundle p n) h.src) y) ∧
  (∀ s p n o h m arr, s.Arrives p n o h →
    let l := match s.rxRing p n with | some r => 16 + r | none => n
    let b := s.timeBundle p l
    ∃ t, exec (.flitTime p n o h m arr) s = .next t ∧ t.mem = s.mem ∧ (tGet t.time.lanes (timeKey p l)).last = s.tick + 1 ∧
      (tGet t.time.lanes (timeKey p l)).txTs = m.txTs ∧ (tGet t.time.lanes (timeKey p l)).arr = arr ∧
      (tGet t.time.ads b).chip = m.rootChip ∧ (tGet t.time.ads b).prio = m.rootPrio ∧ (tGet t.time.ads b).hops = m.hops) ∧
  (∀ s p n o h m arr rtt skew, s.rxOn p n = true → o.crcOk = true → copper p = true → s.laneSt p n = 1 → 2 ≤ (s.laneX p n).step →
    let v := s.fld (.lnk p) Lnk.PEER_EXPECT
    s.trainCheck m (if bitAt v 16 then some (v % 65536) else none) (s.copperBundle p m.chip) arr = .ok (some (rtt, skew)) →
    ∃ t, exec (.flitTrain p n o h m arr) s = .next t ∧
      t.fld (.lan p) (Lan.LANE_PEER.sub 24 0) n = m.chip % 65536 + m.port % 32 * 65536 + m.lane % 16 * 2 ^ 21 ∧
      t.fld (.lan p) (Lan.LANE_RTT_NS.sub 15 0) n = min rtt 65535 ∧ (t.laneX p n).rxOk = true ∧
      (m.rxOk = true → t.laneSt p n = 2 ∨ t.laneSt p n = 3) ∧ (m.rxOk = false → t.laneSt p n = 1)) ∧
  (∀ s p n o h m arr c, s.rxOn p n = true → o.crcOk = true → copper p = true → s.laneSt p n = 1 → 2 ≤ (s.laneX p n).step →
    let v := s.fld (.lnk p) Lnk.PEER_EXPECT
    s.trainCheck m (if bitAt v 16 then some (v % 65536) else none) (s.copperBundle p m.chip) arr = .error c →
    ∃ t, exec (.flitTrain p n o h m arr) s = .next t ∧ 4 ≤ t.laneSt p n ∧
      t.fld (.lan p) Lan.FAIL_CNT n = min (s.fld (.lan p) Lan.FAIL_CNT n + 1) (2 ^ 32 - 1)) ∧
  (∀ s p n o h b port lane eff q k, s.InTurn p n o h → h.dest = s.chip → s.peerLane h.src port lane = some (q, k) → copper q = true →
    s.CtlNow (s.rxBundle p n) (s.bundleTo (s.rxBundle p n) h.src) eff →
    (s.laneSt q k = 1 → (s.laneX q k).rxOk = true →
      ∃ t, exec (.laneCtrlAdd p n o h b port lane eff) s = .next t ∧ (t.laneSt q k = 2 ∨ t.laneSt q k = 3)) ∧
    (s.laneSt q k = 2 ∨ s.laneSt q k = 3 →
      ∃ t, exec (.laneCtrlRemove p n o h b port lane eff) s = .next t ∧ 4 ≤ t.laneSt q k)) ∧
  (∀ s p n o h b port lane repl eff q k j, s.InTurn p n o h → h.dest = s.chip → s.peerLane h.src port lane = some (q, k) →
    s.peerLane h.src port repl = some (q, j) → j ≠ k → copper q = true → s.laneSt q k = 2 → s.laneSt q j = 3 →
    s.CtlNow (s.rxBundle p n) (s.bundleTo (s.rxBundle p n) h.src) eff →
    ∃ t, exec (.laneCtrlReplace p n o h b port lane repl eff) s = .next t ∧ 4 ≤ t.laneSt q k ∧ t.laneSt q j = 2 ∧
      t.laneBundle q j = s.laneBundle q k) ∧
  (∀ s p n o h b port lane repl eff, s.InTurn p n o h → h.dest = s.chip →
    let e := s.bundleTo (s.rxBundle p n) h.src
    ¬ s.CtlNow (s.rxBundle p n) e eff →
    ∀ c ∈ [(Instr.laneCtrlAdd p n o h b port lane eff, ({ op := 0, bundle := b, port := port, lane := lane, eff := eff } : LaneCtl)),
        (.laneCtrlRemove p n o h b port lane eff, { op := 1, bundle := b, port := port, lane := lane, eff := eff }),
        (.laneCtrlReplace p n o h b port lane repl eff, { op := 2, bundle := b, port := port, lane := lane, repl := repl, eff := eff })],
      ∃ t, exec c.1 s = .next t ∧ s.Booked t p n ∧ (t.bundle e).ctl = (s.bundle e).ctl ++ [(h.src, c.2)]) ∧
  (∀ s p n o h b port cause r, s.InTurn p n o h ∨ s.Ahead p n o h → h.dest = s.chip → s.pairOf h.src port = some r →
    (s.ringX port r).out = false → (s.ringX port r).replaces = none →
    (cause ≠ declLos → cause ≠ declMis →
      ∃ t, exec (.ringNotice p n o h b port cause) s = .next t ∧ (t.ringX port r).mute = s.tick + 4) ∧
    (cause = declLos ∨ cause = declMis → (s.ringX port r).mute ≤ s.tick →
      ∃ t, exec (.ringNotice p n o h b port cause) s = .next t ∧ (t.ringX port r).out = true ∧
        t.fld (.rng (ringEng port)) Rng.MISLOCK_CNT (ringBank port r 0)
          = min (s.fld (.rng (ringEng port)) Rng.MISLOCK_CNT (ringBank port r 0) + 1) (2 ^ 32 - 1))) ∧
  (∀ s p n o h b port r old, s.InTurn p n o h ∨ s.Ahead p n o h → h.dest = s.chip → s.pairOf h.src port = some r →
    (s.ringX port r).replaces = some old → s.ringF port r Rng.RING_STATE_ON_LINE = 1 →
    ∃ t, exec (.ringAligned p n o h b port) s = .next t ∧ (t.ringX port r).replaces = none ∧ t.ringF port r Rng.RING_STATE_TRAINED = 1)

/-- Plans: arming checks NEXT and takes or rejects it, a cancelled plan is discarded, the window reads and writes words, and at its tick an
armed plan is CURRENT; pairs arrive where they move, and a re-cable settles (R256, R259, R261, R262, R264, R275).
Choices of the model: log entries 3, 102, 105. -/
def Obligations.PlansArmActivateAndSettle : Prop :=
  (∀ s m, s.MayWrite m .fab → s.planCheck s.plan.next = 0 →
    ∃ t, exec (.planArm m) s = .next t ∧ t.fld .fab Fab.PLAN_STATUS_STATE = 1 ∧ t.fld .fab Fab.PLAN_ID_NEXT = planBits s.plan.next 0 4 ∧
      t.fld64 .fab Fab.ACT_TICK_LO = planBits s.plan.next 8 8 ∧ t.plan = s.plan) ∧
  (∀ s m, s.MayWrite m .fab → s.planCheck s.plan.next ≠ 0 →
    ∃ t, exec (.planArm m) s = .next t ∧ t.fld .fab Fab.PLAN_STATUS_REJ = s.planCheck s.plan.next ∧ t.plan = s.plan ∧
      t.fld .fab Fab.PLAN_STATUS_STATE = s.fld .fab Fab.PLAN_STATUS_STATE ∧
      t.fld .fab Fab.PLAN_REJ_CNT = min (s.fld .fab Fab.PLAN_REJ_CNT + 1) (2 ^ 32 - 1)) ∧
  (∀ s m, s.MayWrite m .fab → s.fld .fab Fab.PLAN_STATUS_STATE = 1 → s.tick < planBits s.plan.next 8 8 →
    ∃ t, exec (.planCancel m) s = .next t ∧ t.fld .fab Fab.PLAN_STATUS_STATE ≠ 1 ∧ t.plan.next = [] ∧ t.plan.cur = s.plan.cur ∧
      t.fld .fab Fab.PLAN_ID_NEXT = 0) ∧
  (∀ s m, s.MayWrite m .fab → s.fld .fab Fab.PLAN_STATUS_STATE ≠ 1 → ∃ t, exec (.planCancel m) s = .next t ∧ t.regs = s.regs ∧ t.plan = s.plan) ∧
  (∀ s m v, s.MayWrite m .fab →
    let off := s.fld .fab Fab.PLAN_WIN_OFF
    ∃ t, exec (.planWinDataWrite m v) s = .next t ∧ t.fld .fab Fab.PLAN_WIN_OFF = (off + 4) % 8192 ∧ t.plan.cur = s.plan.cur ∧
      (s.flag .fab Fab.PLAN_CTRL_BUF = false → s.fld .fab Fab.PLAN_STATUS_STATE ≠ 1 → smGet (fun _ => 0) t.plan.next (off / 4) = v.toNat ∧
        ∀ i, i ≠ off / 4 → smGet (fun _ => 0) t.plan.next i = smGet (fun _ => 0) s.plan.next i) ∧
      (s.flag .fab Fab.PLAN_CTRL_BUF = true → t.plan = s.plan ∧ bitAt (t.fld .fab Hd.ERR_STAT) 0 = true) ∧
      (s.fld .fab Fab.PLAN_STATUS_STATE = 1 → t.plan = s.plan)) ∧
  (∀ s, s.answers .fab = true →
    ∃ t, exec .planWinDataRead s = .next t ∧ t.out = s.out ++ [.hostRead 0 (bytesLE 4 s.planWord)] ∧ t.plan = s.plan ∧
      t.fld .fab Fab.PLAN_WIN_OFF = (s.fld .fab Fab.PLAN_WIN_OFF + 4) % 8192) ∧
  (∀ s, s.fld .fab Fab.PLAN_STATUS_STATE = 1 → planBits s.plan.next 8 8 ≤ s.tick →
    ∃ t, exec .planActivation s = .next t ∧ t.plan.cur = s.plan.next ∧ t.plan.has = true ∧ t.fld .fab Fab.PLAN_STATUS_STATE = 2 ∧
      t.fld .fab Fab.PLAN_ID_CUR = planBits s.plan.next 0 4 ∧ t.fld .fab Fab.PORT_DONE = 0 ∧ t.fld .fab Fab.PORT_INCOMPLETE = 0 ∧
      t.fld .fab Fab.PLAN_CNT = min (s.fld .fab Fab.PLAN_CNT + 1) (2 ^ 32 - 1)) ∧
  (∀ s, s.fld .fab Fab.PLAN_STATUS_STATE = 1 → s.tick < planBits s.plan.next 8 8 → exec .planActivation s = .next s) ∧
  (∀ s p r, s.ringSt p r = 1 → s.ringF p r Rng.RING_STATE_ON_LINE = 0 → (s.ringX p r).goal ≤ 8 →
    let g := (s.ringX p r).goal
    ∃ t, exec (.ringMoveDone p r) s = .next t ∧ (g = 0 ∨ g = 2 ∨ g = 5 ∨ g = 6 → t.ringSt p r = g ∧ t.ringF p r Rng.RING_STATE_ON_LINE = 0) ∧
      (g = 3 → s.copperCabled (s.ringPeerChip p r) = false → t.ringSt p r = 3 ∧ t.ringF p r Rng.RING_STATE_ON_LINE = 1) ∧
      (g = 7 ∨ g = 8 → t.ringSt p r = 1 ∧ t.ringF p r Rng.RING_STATE_ON_LINE = 1)) ∧
  (∀ s, s.plan.recabling = true → planBits s.plan.cur 8 8 + 100 ≤ s.tick →
    ∃ t, exec .recableSettle s = .next t ∧ t.plan.recabling = false ∧
      (s.fld .fab Fab.PLAN_STATUS_STATE = 2 → t.fld .fab Fab.PLAN_STATUS_STATE = 3) ∧
      (s.fld .fab Fab.PLAN_STATUS_STATE = 1 → t.fld .fab Fab.PLAN_STATUS_STATE = 1) ∧
      ∀ i < 24, s.portInPlan (i + 8) = true → (tGet s.ports (i + 8)).due = false → (tGet s.ports (i + 8)).own = false →
        bitAt (t.fld .fab Fab.PORT_DONE) i = true ∧ (s.untrained (i + 8) ≠ 0 → bitAt (t.fld .fab Fab.PORT_INCOMPLETE) i = true)) ∧
  (∀ s, s.plan.recabling = false → (∀ p, (tGet s.ports p).settleAt = 0) → exec .recableSettle s = .next s) ∧
  (∀ s p, s.mod_.uncore = true →
    ∃ t, exec (.flitBoundary p) s = .next t ∧ t.plan.boundary = s.plan.boundary + 1 ∧ t.mem = s.mem ∧
      (copper p = true → ∀ n < 9, n < (laneIds p).length → s.laneSt p n = 3 → Out.flit p n { h := s.laneHdr p n } ∈ t.out) ∧
      (copper p = true → ∀ n < 9, n < (laneIds p).length → s.laneSt p n = 1 →
        let s1 := { s with plan := { s.plan with boundary := s.plan.boundary + 1 } }
        Out.flit p n (s1.trainOut p n (s.flag (.lnk p) Lnk.LNK_CTRL_SPARE_EN) (s.laneX p n).rxOk (s.laneX p n).seen) ∈ t.out)) ∧
  (∀ s p, s.mod_.uncore = false → exec (.flitBoundary p) s = .next s)

/-- Ring pairs: replaced on command and where a mis-lock or a lost lock is declared, tested, retired or taken back, and calibrated (R272, R273, R277,
R283, R286–R288, R292).
Choices of the model: log entries 3, 103, 106, 107. -/
def Obligations.RingPairsAreReplacedTestedAndCalibrated : Prop :=
  (∀ s m e v, s.MayWrite m (.kal e) → bitAt v.toNat 8 = true →
    let p := 8 + 8 * e + s.fld (.kal e) (Kal.KAL_SEL.sub 2 0)
    let r := bitsOf v.toNat 3 0
    (r < 12 → (s.ringX p r).role = 1 ∨ (s.ringX p r).role = 2 → (s.ringX p r).out = false → (s.ringX p r).replaces = none → e < 3 →
      ∃ t, exec (.kalReplace m e v) s = .next t ∧ (t.ringX p r).out = true ∧ (t.ringX p r).testDue = some (s.eng e).failures ∧ t.ringSt p r = 1 ∧
        t.fld (.kal e) Kal.KAL_REPLACE_CNT ((p - 8) % 8) = min (s.fld (.kal e) Kal.KAL_REPLACE_CNT ((p - 8) % 8) + 1) (2 ^ 32 - 1)) ∧
    (12 ≤ r ∨ ((s.ringX p r).role ≠ 1 ∧ (s.ringX p r).role ≠ 2) →
      ∃ t, exec (.kalReplace m e v) s = .next t ∧ t.rings = s.rings ∧ bitAt (t.fld (.kal e) Hd.ERR_STAT) 0 = true)) ∧
  (∀ s m e v, s.MayWrite m (.kal e) →
    ((∀ n < 8, bitAt v.toNat (2 * n + 1) = false) →
      ∃ t, exec (.kalModeWrite m e v) s = .next t ∧ t.fld (.kal e) Kal.KAL_MODE = v.toNat % 65536) ∧
    ((∃ n < 8, bitAt v.toNat (2 * n + 1) = true) → ∃ t, exec (.kalModeWrite m e v) s = .next t ∧ t.regs = s.regs)) ∧
  (∀ s p r, s.ringSt p r = 3 ∨ s.ringSt p r = 4 → (s.ringX p r).out = false → (s.ringX p r).replaces = none →
    (s.windowOk p r = false → (s.ringX p r).mute ≤ s.tick →
      ∃ t, exec (.windowCheck p r) s = .next t ∧ (t.ringX p r).out = true ∧
        t.fld (.rng (ringEng p)) Rng.MISLOCK_CNT (ringBank p r 0) = min (s.fld (.rng (ringEng p)) Rng.MISLOCK_CNT (ringBank p r 0) + 1) (2 ^ 32 - 1)) ∧
    (s.windowOk p r = true → exec (.windowCheck p r) s = .next s) ∧
    (s.ringF p r Rng.RING_STATE_TRAINED = 1 → s.windowOk p r = true → (s.eng (ringEng p)).muteLos ≤ s.tick →
      (s.eng (ringEng p)).forced = false → (s.ringX p r).mute ≤ s.tick →
      ∃ t, exec (.ringRxLos p r) s = .next t ∧ (t.ringX p r).out = true ∧ (t.ringX p r).rxLost = true) ∧
    (s.ringF p r Rng.RING_STATE_TRAINED = 1 → s.tick < (s.eng (ringEng p)).muteLos →
      ∃ t, exec (.ringRxLos p r) s = .next t ∧ (t.ringX p r).rxLost = true ∧ (t.ringX p r).out = false ∧ t.regs = s.regs) ∧
    (∀ dir < 2, r < 12 →
      ∃ t, exec (.heaterFault p r dir) s = .next t ∧ (t.ringX p r).out = true ∧ t.rngF p r dir (Rng.RING_HEATER.sub 16 16) = 1 ∧
        t.rngF p r dir Rng.LOCKLOST_CNT = min (s.rngF p r dir Rng.LOCKLOST_CNT + 1) (2 ^ 32 - 1))) ∧
  (∀ s p r, s.procFailed 2 = false → s.lineZeroBusy p = false → s.forcedSwitch (ringEng p) = false → s.nextTest p = some r →
    ∃ t, exec (.reacqTestStart p) s = .next t ∧ (t.ringX p r).testing = true ∧ (t.ringX p r).testDue = none ∧ t.ringSt p r = 1 ∧
      t.rngF p r 0 (Rng.RING_LOCK.sub 1 0) = 3 ∧ t.rngF p r 1 (Rng.RING_LOCK.sub 1 0) = 3) ∧
  (∀ s p, s.nextTest p = none → exec (.reacqTestStart p) s = .next s) ∧
  (∀ s p r aligned offT offR, (s.ringX p r).testing = true → s.forcedSwitch (ringEng p) = false → r < 12 →
    let ok := aligned && (s.ringX p r).identOk && s.inWindow p (s.tableCode p r 0 0 offT) (s.tableCode p r 0 0 (s.ofsCal p r 0))
      && s.inWindow p (s.tableCode p r 1 0 offR) (s.tableCode p r 1 0 (s.ofsCal p r 1))
    let passes := ((s.ringX p r).passes.filter (fun a => decide (s.tick < a + 360000000))).length + 1
    ∃ t, exec (.reacqTestDone p r aligned offT offR) s = .next t ∧ (t.ringX p r).testing = false ∧
      (ok = false ∨ 3 ≤ passes → t.ringSt p r = 6) ∧
      (ok = true → passes < 3 → t.ringSt p r = 1 ∧ (t.ringX p r).goal = 5 ∧ (t.ringX p r).role = 3) ∧
      (ok = true → t.rngF p r 0 Rng.TRANSIENT_CNT = min (s.rngF p r 0 Rng.TRANSIENT_CNT + 1) (2 ^ 32 - 1))) ∧
  (∀ s m e v, s.MayWrite m (.rng e) → bitAt v.toNat 0 = true →
    let sel := s.fld (.rng e) Rng.RING_SEL
    let p := 8 + 8 * e + bitsOf sel 2 0
    let r := bitsOf sel 7 4
    (s.ringSt p r = 5 ∨ s.ringSt p r = 6 →
      ∃ t, exec (.ringTestCmd m e v) s = .next t ∧ (t.ringX p r).testDue = some (s.eng e).failures ∧ t.regs = s.regs) ∧
    (s.ringSt p r < 5 → ∃ t, exec (.ringTestCmd m e v) s = .next t ∧ t.rings = s.rings ∧ bitAt (t.fld (.rng e) Hd.ERR_STAT) 1 = true)) ∧
  (∀ s m e, s.procFailed 2 = false → s.fld (.rng e) (Rng.CAL_STATUS.sub 16 16) = 0 →
    ∀ c ∈ [(Instr.calPeriodDue e, s.fld64 (.rng e) Rng.CAL_TICK_LO + s.fld (.rng e) Rng.CAL_CFG_PERIOD * 6000000 ≤ s.tick),
        (.calTempDue e, s.fld (.rng e) Rng.CAL_CFG_DELTA_T < ((s.eng e).temp - signedOf 16 (s.fld (.rng e) (Rng.CAL_STATUS.sub 15 0))).natAbs),
        (.calNow m e, s.MayWrite m (.rng e))],
      c.2 → ∃ t, exec c.1 s = .next t ∧ t.fld (.rng e) (Rng.CAL_STATUS.sub 16 16) = 1 ∧ (t.eng e).calibrating = true ∧
        t.fld (.rng e) Rng.CAL_CFG_NOW = 0) ∧
  (∀ s e ms, e < 3 → s.fld (.rng e) (Rng.CAL_STATUS.sub 16 16) = 1 → s.flag (.rng e) Rng.CAL_CFG_NOW = false → s.calAll e = true →
    s.forcedSwitch e = false →
    ∃ t, exec (.calibrationDone e ms) s = .next t ∧ t.fld (.rng e) (Rng.CAL_STATUS.sub 16 16) = 0 ∧
      t.fld (.rng e) (Rng.CAL_STATUS.sub 15 0) = unsignedOf 16 (s.eng e).temp ∧ t.fld64 (.rng e) Rng.CAL_TICK_LO = s.tick ∧
      (t.eng e).calibrating = false)

/-- Lasers switch over, planned, ordered and forced, an engine without a spare goes dark, and the monitor and the heater tables answer (R285, R295–R299,
R305, R306).
Choices of the model: log entries 3, 83. -/
def Obligations.LasersSwitchAndMonitorsRead : Prop :=
  (∀ s e, e < 3 →
    (s.lasSt e ≤ 2 → s.spareWarm e = true →
      ∃ t, exec (.abruptLaserLoss e) s = .next t ∧ t.lasSt e = 3 ∧ (t.eng e).forced = true ∧ (t.eng e).toLaser = 1 - s.lasActive e) ∧
    (s.lasSt e = 4 → s.engPowered e = true → ∃ t, exec (.abruptLaserLoss e) s = .next t ∧ t.lasSt e = 5) ∧
    (s.lasSt e = 3 ∨ s.lasSt e = 5 → exec (.abruptLaserLoss e) s = .next s) ∧
    (s.switchDue e = true → ∃ t, exec (.laserSwitchPoint e) s = .next t ∧ t.lasSt e = 3 ∧ (t.eng e).forced = false) ∧
    (s.switchDue e = false → ∃ t, exec (.laserSwitchPoint e) s = .next t ∧ t.regs = s.regs ∧ t.out = s.out ∧ t.bundles = s.bundles) ∧
    (s.lasSt e = 3 → s.engPowered e = true → (s.eng e).toLaser ≤ 1 →
      let x := (s.eng e).toLaser
      (∃ t, exec (.laserSwitchDone e true) s = .next t ∧ t.lasRole e x = 1 ∧ t.lasActive e = x ∧
        t.lasRole e (1 - x) = (if (s.eng e).ordered then 2 else 3) ∧ t.lasSt e = (if (s.eng e).ordered then 0 else 4) ∧
        t.fld (.las e 0) Las.SWITCH_CNT = min (s.fld (.las e 0) Las.SWITCH_CNT + 1) (2 ^ 32 - 1) ∧ t.fld64 (.las e 0) Las.SWITCH_TICK_LO = s.tick) ∧
      (∃ t, exec (.laserSwitchDone e false) s = .next t ∧ t.lasSt e = 5))) ∧
  (∀ s m e x, e < 3 → x < 2 → s.MayWrite m (.las e x) → ∀ c ∈ [(Instr.lasCmdSwitch m e x, false), (.lasCmdNow m e x, true)],
    (s.lasRole e x = 2 → s.lasSt e = 0 →
      ∃ t, exec c.1 s = .next t ∧ t.lasSt e = 2 ∧ (t.eng e).ordered = true ∧ (t.eng e).now = c.2 ∧ (t.eng e).plannedAt = s.tick) ∧
    (s.lasRole e x = 2 → s.lasSt e = 2 → ∃ t, exec c.1 s = .next t ∧ (t.eng e).now = ((s.eng e).now || c.2) ∧ t.regs = s.regs) ∧
    (s.lasRole e x ≠ 2 → ∃ t, exec c.1 s = .next t ∧ t.engs = s.engs ∧ bitAt (t.fld (.las e x) Hd.ERR_STAT) 0 = true)) ∧
  (∀ s m e v, s.MayWrite m (.rng e) →
    let sel := s.fld (.rng e) Rng.RING_SEL
    let p := 8 + 8 * e + bitsOf sel 2 0
    let r := bitsOf sel 7 4
    let bank := ringBank p r (bitsOf sel 8 8) + 512 * s.fld (.rng e) (Rng.TBL_SEL.sub 8 0)
    (s.ringSt p r = 0 ∨ s.ringSt p r = 6 →
      ∃ t, exec (.tblDataWrite m e v) s = .next t ∧ t.fld (.rng e) (Rng.TBL_DATA.sub 15 0) bank = v.toNat % 65536) ∧
    (s.ringSt p r ≠ 0 → s.ringSt p r ≠ 6 →
      ∃ t, exec (.tblDataWrite m e v) s = .next t ∧ t.fld (.rng e) Rng.TBL_DATA bank = s.fld (.rng e) Rng.TBL_DATA bank ∧
        bitAt (t.fld (.rng e) Hd.ERR_STAT) 0 = true)) ∧
  (∀ s m e, s.MayWrite m (.mon e) →
    ((s.eng e).mon = 0 → ∃ t, exec (.monGoNow m e) s = .next t ∧ (t.eng e).mon = 2 ∧ t.fld (.mon e) (Mon.MON_RESULT.sub 31 31) = 0) ∧
    ((s.eng e).mon = 0 → ∃ t, exec (.monGoAtTick m e) s = .next t ∧ (t.eng e).mon = 1 ∧ t.fld (.mon e) (Mon.MON_START.sub 1 1) = 1) ∧
    ((s.eng e).mon ≠ 0 → ∀ c ∈ [Instr.monGoNow m e, .monGoAtTick m e], ∃ t, exec c s = .next t ∧ t.regs = s.regs ∧ t.engs = s.engs)) ∧
  (∀ s e, (s.eng e).mon = 1 →
    (s.fld64 (.mon e) Mon.MON_TICK_LO ≤ s.tick → ∃ t, exec (.monTickReached e) s = .next t ∧ (t.eng e).mon = 2 ∧ t.fld (.mon e) Mon.MON_START = 0) ∧
    (s.tick < s.fld64 (.mon e) Mon.MON_TICK_LO → exec (.monTickReached e) s = .next s)) ∧
  (∀ s e reading, (s.eng e).mon = 2 →
    ∃ t, exec (.monReadingDone e reading) s = .next t ∧ (t.eng e).mon = 0 ∧ t.fld (.mon e) (Mon.MON_RESULT.sub 15 0) = reading % 65536 ∧
      t.fld (.mon e) (Mon.MON_RESULT.sub 31 31) = 1 ∧
      t.fld (.mon e) (Mon.MON_RESULT.sub 23 16) = min (8 + s.fld (.mon e) (Mon.MON_INT.sub 2 0)) 13)

/-- The time base: a step on request, the root's configuration, the loss of the source, of the root and of the parent, and a long holdover (R310, R316–R319,
R334, Table 11.3).
Choices of the model: log entries 3, 39, 43. -/
def Obligations.TimeBaseKeepsItsSource : Prop :=
  (∀ s m, s.MayWrite m .time →
    let running : Prop := ∃ p < 4096, p ≠ 0 ∧ (s.fld .part (Par.PART_STATUS.sub 2 0) p = 2 ∨ s.fld .part (Par.PART_STATUS.sub 2 0) p = 3)
    (running → ∃ t, exec (.restep m) s = .next t ∧ t.time = s.time ∧ bitAt (t.fld .time Hd.ERR_STAT) 0 = true) ∧
    (¬ running → s.qualified = false → ∃ t, exec (.restep m) s = .next t ∧ t.time = s.time ∧ bitAt (t.fld .time Hd.ERR_STAT) 2 = true) ∧
    (¬ running → s.qualified = true →
      let new := ((s.time.tai : Int) - s.time.off).toNat
      ∃ t, exec (.restep m) s = .next t ∧ t.time.tai = new ∧ t.time.off = 0 ∧ t.time.lockN = 0 ∧
        (new / tickLen ≤ s.tick → t.tick = s.tick) ∧ (s.tick < new / tickLen → new / tickLen < 2 ^ 64 → t.tick = new / tickLen))) ∧
  (∀ s m v, s.MayWrite m .time →
    let bad : Prop := (128 ≤ bitsOf v.toNat 7 0 ∧ bitsOf v.toNat 7 0 ≤ 254) ∨ bitsOf v.toNat 23 16 < 3
    (¬ bad → ∃ t, exec (.timCfgWrite m v) s = .next t ∧ t.fld .time (Tim.TIM_CFG.sub 23 0) = v.toNat % 2 ^ 24) ∧
    (bad → ∃ t, exec (.timCfgWrite m v) s = .next t ∧ t.fld .time Tim.TIM_CFG = s.fld .time Tim.TIM_CFG ∧ t.time = s.time ∧
      bitAt (t.fld .time Hd.ERR_STAT) 1 = true)) ∧
  (∀ s, s.rootCandidate = true → s.isRoot = false → s.rootLoss ≤ s.time.rootCnt →
    ∃ t, exec .rootLossExpiry s = .next t ∧ t.isRoot = true ∧ t.fld .time (Tim.ROOT_ID.sub 15 0) = s.chip ∧
      t.fld .time (Tim.TIM_STATUS.sub 11 4) = 0 ∧ t.timeParent = none ∧ (s.timSt = 1 ∨ s.timSt = 2 → t.timSt = 3)) ∧
  (∀ s, s.isRoot = true → exec .rootLossExpiry s = .next s) ∧
  (∀ s, s.isRoot = false → s.parentLost = true → s.ptpLost 0 = false → s.ptpLost 1 = false →
    ∃ t, exec .timeSourceLoss s = .next t ∧ t.timeParent = none ∧ t.fld .time (Tim.TIM_STATUS.sub 11 4) = 255 ∧
      (s.timSt = 1 ∨ s.timSt = 2 → t.timSt = 3 ∧ t.fld .time Tim.HOLD_TICKS = 0) ∧ (s.timSt = 0 ∨ s.timSt = 3 → t.timSt = s.timSt)) ∧
  (∀ s, s.isRoot = true → s.ptpLost 0 = true → s.ptpLost 1 = false → s.timSt = 1 ∨ s.timSt = 2 →
    ∃ t, exec .timeSourceLoss s = .next t ∧ t.timSt = 3 ∧ (t.ptpPort 0).exch = 0) ∧
  (∀ s, s.timSt = 3 → s.time.longNoted = false → 6000000 ≤ s.fld .time Tim.HOLD_TICKS →
    ∃ t, exec .holdoverLong s = .next t ∧ t.time.longNoted = true ∧ t.timSt = 3) ∧
  (∀ s, s.timSt ≠ 3 ∨ s.time.longNoted = true ∨ s.fld .time Tim.HOLD_TICKS < 6000000 → exec .holdoverLong s = .next s)

/-- The messages of PTP serve the port that is SLAVE, in its domain, and feed the choice of master (R323, R324).
Choices of the model: log entries 3, 40. -/
def Obligations.PtpMessagesServeTheSlave : Prop :=
  (∀ s p d q l t1 t2 t4 a, ∀ c ∈ [Instr.ptpSync p d q l t1 t2, .ptpFollowUp p d q t4, .ptpDelayResp p d t4, .ptpAnnounce p d l a],
    (s.ptpRuns p = false → exec c s = .next s) ∧
    (s.ptpRuns p = true → d ≠ s.fld .ptp Ptp.PTP_CTRL_DOMAIN →
      ∃ t, exec c s = .next t ∧ t.time = s.time ∧ t.fld .ptp Ptp.PTP_DROP_CNT = min (s.fld .ptp Ptp.PTP_DROP_CNT + 1) (2 ^ 32 - 1))) ∧
  (∀ s p d q l t1 t2, s.ptpRuns p = true → d = s.fld .ptp Ptp.PTP_CTRL_DOMAIN → -7 ≤ l → l ≤ 1 → s.ptpSlaving p = true →
    ∃ t, exec (.ptpSync p d q l t1 t2) s = .next t ∧ t.fld .ptp Ptp.SYNC_RX_CNT = min (s.fld .ptp Ptp.SYNC_RX_CNT + 1) (2 ^ 32 - 1) ∧
      (t.ptpPort p).seq = q ∧ (t.ptpPort p).sync = s.tick ∧ (t.ptpPort p).t2 = t2 ∧ (t.ptpPort p).t1 = t1.map Int.ofNat ∧
      (t1 = none → (t.ptpPort p).exch = (s.ptpPort p).exch) ∧
      (∀ a, t1 = some a → (s.ptpPort p).delay = none → (t.ptpPort p).exch = 0) ∧
      (∀ a dl, t1 = some a → (s.ptpPort p).delay = some dl → (t.ptpPort p).exch = (s.ptpPort p).exch + 1 ∧
        t.fld .time Tim.GM_OFFSET = sat32 (toNs ((t2 : Int) - a - dl)) ∧ (s.isRoot = true → t.time.off = (t2 : Int) - a - dl))) ∧
  (∀ s p d q t1 dl, s.ptpRuns p = true → d = s.fld .ptp Ptp.PTP_CTRL_DOMAIN → s.ptpSlaving p = true → (s.ptpPort p).seq = q →
    (s.ptpPort p).t1 = none → (s.ptpPort p).delay = some dl →
    ∃ t, exec (.ptpFollowUp p d q t1) s = .next t ∧ (t.ptpPort p).t1 = some (t1 : Int) ∧ (t.ptpPort p).exch = (s.ptpPort p).exch + 1 ∧
      t.fld .time Tim.GM_OFFSET = sat32 (toNs ((s.ptpPort p).t2 - t1 - dl))) ∧
  (∀ s p d q t1, s.ptpRuns p = true → d = s.fld .ptp Ptp.PTP_CTRL_DOMAIN → (s.ptpPort p).seq ≠ q → exec (.ptpFollowUp p d q t1) s = .next s) ∧
  (∀ s p t3, s.ptpRuns p = true → s.ptpSlaving p = true →
    ∃ t, exec (.ptpDelayReq p t3) s = .next t ∧ (t.ptpPort p).t3 = some (t3 : Int) ∧ t.out = s.out ++ [.ptpMsg p 1] ∧
      t.fld .ptp Ptp.DREQ_TX_CNT = min (s.fld .ptp Ptp.DREQ_TX_CNT + 1) (2 ^ 32 - 1)) ∧
  (∀ s p d t4 t1 t3, s.ptpRuns p = true → d = s.fld .ptp Ptp.PTP_CTRL_DOMAIN → s.ptpSlaving p = true → (s.ptpPort p).t1 = some t1 →
    (s.ptpPort p).t3 = some t3 →
    ∃ t, exec (.ptpDelayResp p d t4) s = .next t ∧ (t.ptpPort p).t3 = none ∧
      (t.ptpPort p).delay = some ((((s.ptpPort p).t2 - t1) + ((t4 : Int) - t3)) / 2) ∧ t.regs = s.regs) ∧
  (∀ s p d l a, s.ptpRuns p = true → d = s.fld .ptp Ptp.PTP_CTRL_DOMAIN → 0 ≤ l → l ≤ 3 →
    ∃ t, exec (.ptpAnnounce p d l a) s = .next t ∧ (t.ptpPort p).ann = some a ∧
      (t.ptpPort p).annN = (if (s.ptpPort p).ann.map (fun x => x.gmId) = some a.gmId then (s.ptpPort p).annN + 1 else 1) ∧
      t.fld .ptp Ptp.ANN_RX_CNT = min (s.fld .ptp Ptp.ANN_RX_CNT + 1) (2 ^ 32 - 1))

/-- Comparators, captures, the pulses per second, and the readings of the time that freeze and are released (R330–R334).
Choices of the model: log entries 3, 42. -/
def Obligations.TriggersCapturesAndReadings : Prop :=
  (∀ s sub, s.answers .time = true → s.time.frozen = false →
    let ns := (s.time.tai + sub % tickLen) / 65536
    ∃ t, exec (.timeSecLoRead sub) s = .next t ∧ t.time.frozen = true ∧ t.fld .time Tim.TIME_SEC_LO = ns / 10 ^ 9 % 2 ^ 32 ∧
      t.fld .time Tim.TIME_NS = ns % 10 ^ 9 ∧ t.out = s.out ++ [.hostRead 0 (bytesLE 4 (ns / 10 ^ 9 % 2 ^ 32))]) ∧
  (∀ s, s.answers .time = true →
    ∃ t, exec .timeFracRead s = .next t ∧ t.time.frozen = false ∧ t.out = s.out ++ [.hostRead 0 (bytesLE 4 (s.fld .time Tim.TIME_FRAC))] ∧
      t.regs = s.regs) ∧
  (∀ s n, n < 4 → s.answers .trg = true →
    ∃ t, exec (.capSecLoRead n) s = .next t ∧ n ∈ t.time.capFrozen ∧ t.regs = s.regs ∧
      t.out = s.out ++ [.hostRead 0 (bytesLE 4 (s.fld .trg (Trg.CAP_SEC_LO n)))]) ∧
  (∀ s n, n < 4 → s.answers .trg = true →
    ∃ t, exec (.capFracRead n) s = .next t ∧ n ∉ t.time.capFrozen ∧ t.out = s.out ++ [.hostRead 0 (bytesLE 4 (s.fld .trg (Trg.CAP_FRAC n)))] ∧
      (tGet s.time.capNext n = none → t.fld .trg ((Trg.CAP_FRAC n).sub 16 16) = 0) ∧
      (∀ x b, tGet s.time.capNext n = some (x, b) → t.fld .trg ((Trg.CAP_FRAC n).sub 16 16) = 1 ∧
        t.fld .trg (Trg.CAP_NS n) = x / 65536 % 10 ^ 9 ∧ tGet t.time.capNext n = none)) ∧
  (∀ s m n event pulse sub, n < 4 → s.MayWrite m .trg →
    let now := s.time.tai + sub % tickLen
    ∃ t, exec (.trgArm m n event pulse sub) s = .next t ∧ t.flag .trg (Trg.TRG_CTRL_EVENT n) = event ∧
      t.flag .trg (Trg.TRG_CTRL_PULSE n) = pulse ∧ (now < s.trgTarget n → t.flag .trg (Trg.TRG_CTRL_ARM n) = true) ∧
      (s.trgTarget n ≤ now → t.flag .trg (Trg.TRG_CTRL_ARM n) = false ∧
        (pulse = true → Out.ppsPulse (s.fld .trg Trg.PPS_CTRL_WIDTH) ∈ t.out))) ∧
  (∀ s n, n < 4 → s.flag .trg (Trg.TRG_CTRL_ARM n) = true →
    (s.trgTarget n < s.time.tai + tickLen →
      ∃ t, exec (.triggerFire n) s = .next t ∧ t.flag .trg (Trg.TRG_CTRL_ARM n) = false ∧
        (s.flag .trg (Trg.TRG_CTRL_PULSE n) = true → Out.ppsPulse (s.fld .trg Trg.PPS_CTRL_WIDTH) ∈ t.out)) ∧
    (s.time.tai + tickLen ≤ s.trgTarget n → exec (.triggerFire n) s = .next s)) ∧
  (∀ s (k : Nat), s.flag .trg Trg.PPS_CTRL_OUT_EN = true → s.timSt ≠ 0 ∨ s.flag .trg Trg.PPS_CTRL_UNSET_EN = true →
    let x : Int := (k : Int) * (10 ^ 9 * 65536) + signedOf 32 (s.fld .trg Trg.PPS_OFS_NS) * 65536
    (s.time.tai : Int) ≤ x → x < s.time.tai + tickLen →
    (s.time.ppsSec ≠ k + 1 → ∃ t, exec .ppsOutPulse s = .next t ∧ t.out = s.out ++ [.ppsPulse (s.fld .trg Trg.PPS_CTRL_WIDTH)] ∧
      t.time.ppsSec = k + 1 ∧ t.regs = s.regs) ∧
    (s.time.ppsSec = k + 1 → exec .ppsOutPulse s = .next s)) ∧
  (∀ s falling sub, s.mod_.stby = true →
    ∃ t, exec (.ppsInEdge falling sub) s = .next t ∧ t.fld .trg (Trg.PPS_IN_STATUS.sub 0 0) = 1 ∧ t.time.ppsIn = s.tick ∧
      (∀ n < 4, s.fld .trg (Trg.CAP_CTRL n) % 8 = (if falling then 2 else 1) →
        t.fld .trg (Trg.CAP_CNT n) = min (s.fld .trg (Trg.CAP_CNT n) + 1) (2 ^ 32 - 1)) ∧
      (∀ n < 4, s.fld .trg (Trg.CAP_CTRL n) % 8 ≠ (if falling then 2 else 1) → t.fld .trg (Trg.CAP_CNT n) = s.fld .trg (Trg.CAP_CNT n))) ∧
  (∀ s, s.fld .trg (Trg.PPS_IN_STATUS.sub 0 0) = 1 →
    (s.time.ppsIn + 200000 ≤ s.tick → ∃ t, exec .ppsInLost s = .next t ∧ t.fld .trg (Trg.PPS_IN_STATUS.sub 0 0) = 0) ∧
    (s.tick < s.time.ppsIn + 200000 → exec .ppsInLost s = .next s))

/-- The launch table: what a write of its slots does by the state of the slot and its owner, completions and the ring they go to (R28–R33, R328).
Choices of the model: log entries 3, 44, 45. -/
def Obligations.LaunchSlotsAndCompletions : Prop :=
  (∀ s m n w ns, s.answers .lchHost = true → slotOwned m n = true → (s.slot n).state = 0 ∨ (s.slot n).state = 4 →
    let near : Prop := ns ≤ s.fld .time Tim.TIM_CFG_NEAR_NS ∨ 10000 ≤ ns + s.fld .time Tim.TIM_CFG_NEAR_NS
    ∃ t, exec (.launchPost m n w ns) s = .next t ∧ (t.slot n).w0 = BitVec.ofNat 64 (w.toNat / 256 * 256 + 1) ∧ (t.slot n).state = 1 ∧
      (∀ i, 1 ≤ i → i ≤ 7 → (t.slot n).word i = (s.slot n).word i) ∧ (t.slot n).seen = false ∧
      (near → (t.slot n).near = true ∧ t.fld .time Tim.NEAR_CNT = min (s.fld .time Tim.NEAR_CNT + 1) (2 ^ 32 - 1)) ∧
      (¬ near → (t.slot n).near = false ∧ t.fld .time Tim.NEAR_CNT = s.fld .time Tim.NEAR_CNT)) ∧
  (∀ s m n w ns, 1 ≤ (s.slot n).state → (s.slot n).state ≤ 3 → ∃ t, exec (.launchPost m n w ns) s = .next t ∧ t.slots = s.slots) ∧
  (∀ s m n, s.answers .lchHost = true → slotOwned m n = true → (s.slot n).state = 1 ∨ (s.slot n).state = 2 →
    ∃ t, exec (.launchCancel m n) s = .next t ∧ (t.slot n).state = 5 ∧ (t.slot n).seqTag = (s.slot n).seqTag ∧ (t.slot n).prog = (s.slot n).prog) ∧
  (∀ s m n, (s.slot n).state = 0 ∨ 3 ≤ (s.slot n).state → ∃ t, exec (.launchCancel m n) s = .next t ∧ t.slots = s.slots) ∧
  (∀ s m n, s.answers .lchHost = true → slotOwned m n = true → (s.slot n).state ≠ 3 →
    ∃ t, exec (.launchEmpty m n) s = .next t ∧ (t.slot n).state = 0 ∧ (t.slot n).prog = (s.slot n).prog) ∧
  (∀ s m n, (s.slot n).state = 3 → ∃ t, exec (.launchEmpty m n) s = .next t ∧ t.slots = s.slots) ∧
  (∀ s m n off wide v, s.answers .lchHost = true → slotOwned m n = true → 8 ≤ off → off < 64 → (s.slot n).state = 0 ∨ (s.slot n).state = 4 →
    ∃ t, exec (.launchEntryWrite m n off wide v) s = .next t ∧
      (t.slot n).word (off / 8) = mergeWord ((s.slot n).word (off / 8)) (off % 8) (if wide then 8 else 4) v.toNat ∧
      ∀ i ≤ 7, i ≠ off / 8 → (t.slot n).word i = (s.slot n).word i) ∧
  (∀ s m n off wide v, 8 ≤ off → (s.slot n).state ≠ 0 → (s.slot n).state ≠ 4 →
    ∃ t, exec (.launchEntryWrite m n off wide v) s = .next t ∧ t.slots = s.slots) ∧
  (∀ s m n w ns off wide v, slotOwned m n = false → ∀ c ∈ [Instr.launchPost m n w ns, .launchCancel m n, .launchEmpty m n, .launchEntryWrite m n off wide v],
    ∃ t, exec c s = .next t ∧ t.slots = s.slots ∧ t.mem = s.mem) ∧
  (∀ s n, n < 2048 → (s.prog n).active = true → (s.prog n).ended = none → s.progFinished (s.prog n) = true → s.usedH < 4096 → s.heldH = [] →
    let idx := s.fld .lchHost (Lch.CPL_PROD.sub 11 0)
    ∃ t c, exec (.programComplete n) s = .next t ∧ tGet t.ring idx = c ∧ c.status = 0 ∧ c.slot = n ∧ c.seq = (s.slot n).seqTag ∧
      c.endTick = s.tick ∧ c.startAct = (s.prog n).startAct ∧ c.late = (s.slot n).late ∧ c.phase = bitAt (s.fld .lchHost Lch.CPL_PROD) 12 ∧
      c.lastDesc = (s.prog n).lastDesc ∧ (t.slot n).state = 4 ∧ t.usedH = s.usedH + 1 ∧ (t.prog n).active = false ∧ ∀ lc ∈ (s.prog n).cores, (t.seq lc).st = 0) ∧
  (∀ s n, n < 2048 → (s.prog n).active = true → (s.prog n).ended = none → s.progFinished (s.prog n) = true → 4096 ≤ s.usedH →
    ∃ t c, exec (.programComplete n) s = .next t ∧ t.heldH = s.heldH ++ [c] ∧ c.status = 0 ∧ c.slot = n ∧ t.ring = s.ring ∧
      (t.slot n).state = (s.slot n).state) ∧
  (∀ s n e, n < 2048 → (s.prog n).active = true → (s.prog n).ended = some e → s.progStopped (s.prog n) = true → s.usedH < 4096 → s.heldH = [] →
    let idx := s.fld .lchHost (Lch.CPL_PROD.sub 11 0)
    ∃ t c, exec (.programComplete n) s = .next t ∧ tGet t.ring idx = c ∧ c.status = e ∧ c.slot = n ∧ c.lastDesc = (s.prog n).lastDesc) ∧
  (∀ s n, (s.prog n).active = false → exec (.programComplete n) s = .next s) ∧
  (∀ s m v, s.MayWrite m .lchHost → s.heldH = [] →
    let adv := (v.toNat % 4096 + 4096 - s.fld .lchHost (Lch.CPL_CONS.sub 11 0)) % 4096
    adv ≤ s.usedH → s.usedH ≤ 4096 →
    ∃ t, exec (.cplConsWrite m true v) s = .next t ∧ t.fld .lchHost (Lch.CPL_CONS.sub 11 0) = v.toNat % 4096 ∧ t.usedH = s.usedH - adv ∧
      t.ring = s.ring)

/-- A change of the binding map is captured when its map is valid, refused otherwise, and in effect when the tiles of the moved cores are
copied (R21, R22). A step fence completes once every core of the partition has arrived and its writes are done: the step is counted and the
cores go on (R35, R36).
Choices of the model: log entries 3, 4, 46, 84. -/
def Obligations.BindingChangesAndStepFencesAct : Prop :=
  (∀ s m d c testOut, d < 2 → c < 4 → s.MayWrite m (.cluster d c) →
    let cl := 4 * d + c
    let map := s.fld (.cluster d c) Cl.BIND_NEXT
    (s.mapValid cl map = true →
      ∃ t, exec (.bindArm m d c testOut) s = .next t ∧ t.flag (.cluster d c) Cl.BIND_CTRL_ARM = true ∧ t.bindPending cl = true ∧
        (t.bindX cl).map = map ∧ (t.bindX cl).testOut = testOut ∧ t.bindMap cl = s.bindMap cl) ∧
    (s.mapValid cl map = false →
      ∃ t, exec (.bindArm m d c testOut) s = .next t ∧ t.binds = s.binds ∧ bitAt (t.fld (.cluster d c) Hd.ERR_STAT) 0 = true ∧
        t.bindPending cl = s.bindPending cl ∧ t.bindMap cl = s.bindMap cl)) ∧
  (∀ s d c ns, d < 2 → c < 4 →
    let cl := 4 * d + c
    let x := s.bindX cl
    s.bindBusy cl = true → x.fence = none → x.goMap < 2 ^ 32 →
    ∃ t, exec (.bindCopyDone d c ns) s = .next t ∧ t.bindMap cl = x.goMap ∧ t.bindBusy cl = false ∧
      t.fld64 (.cluster d c) Cl.BIND_TICK_LO = s.tick ∧ t.fld (.cluster d c) Cl.BIND_SEQ = min (s.fld (.cluster d c) Cl.BIND_SEQ + 1) (2 ^ 32 - 1) ∧
      (∀ n < 8, mapAt x.goMap n < 9 → t.pcore cl (mapAt x.goMap n) = 0) ∧
      (∀ n < 8, mapAt (s.bindMap cl) n < 9 → (∀ k < 8, mapAt x.goMap k ≠ mapAt (s.bindMap cl) n) →
        t.pcore cl (mapAt (s.bindMap cl) n) = (if x.goTest then 2 else 1)) ∧
      (∀ n, s.Inv → x.copying = [n] → n < 8 → mapAt (s.bindMap cl) n < 9 → ∀ i < 16777216,
        t.byte (sramKey (cl * clusterSpan + 8 * 16777216) + i) = s.byte (sramKey (cl * clusterSpan + n * 16777216) + i))) ∧
  (∀ s d c ns, s.bindBusy (4 * d + c) = false → exec (.bindCopyDone d c ns) s = .next s) ∧
  (∀ s p ns, s.fenceReady p = true → (s.partX p).haltFence = false → s.epArmed p = false → (∀ cl < 8, s.bindPending cl = false) →
    (s.ctOf p).valid = false → s.ckDue p ((s.stepOf p + 1) % 2 ^ 64) = false →
    ∃ t, exec (.stepFenceComplete p ns) s = .next t ∧ t.stepOf p = (s.stepOf p + 1) % 2 ^ 64 ∧ t.fld64 .stp Stp.STEP_TICK_LO p = s.tick ∧
      t.fld .stp Stp.STEP_DUR p = ns % 2 ^ 32 ∧ t.mem = s.mem ∧ ∀ lc ∈ s.coresOf p, (t.seq lc).infl = []) ∧
  (∀ s p ns, s.fenceReady p = true → (s.partX p).haltFence = true →
    ∃ t u : State, exec (.stepFenceComplete p ns) s = .next t ∧ u.stepOf p = (s.stepOf p + 1) % 2 ^ 64 ∧ u.fld64 .stp Stp.STEP_TICK_LO p = s.tick ∧
      u.mem = s.mem ∧ u.seqs = s.seqs ∧ t = (u.haltEnd p).stepActions p) ∧
  (∀ s p ns, s.fenceReady p = false → exec (.stepFenceComplete p ns) s = .next s)

/-- Partitions are claimed, armed, drained, retired and freed by their commands, or the command is rejected with its cause (R338–R341, Tables 12.1 and
12.7).
Choices of the model: log entries 3, 50. -/
def Obligations.PartitionsFollowTheirCommands : Prop :=
  (∀ s m, s.MayWrite m .part →
    let p := s.partSel
    (p ≠ 0 → s.partState p = 0 → s.mod_.removeReq = false → s.partsHeld.length < 32 →
      ∃ t, exec (.partClaim m) s = .next t ∧ t.partState p = 1 ∧ t.fld64 .ep Ep.EP_CUR_LO p = 0 ∧ t.fld .ep Ep.EP_STATUS p = 0 ∧
        t.fld .rt Rt.RNK_SLOT_PART (t.fld .part Par.PART_STATUS_SLOT p) = p) ∧
    (p = 0 ∨ s.partState p ≠ 0 ∨ s.mod_.removeReq = true →
      ∃ t, exec (.partClaim m) s = .next t ∧ t.partState p = s.partState p ∧ t.fld .part Par.PART_STATUS_LAST_REJ p = 1) ∧
    (p ≠ 0 → s.partState p = 1 → s.mod_.removeReq = false →
      let start := s.fld64 .part Par.PART_START_LO p
      let unset : Prop := s.fld .time (Tim.TIM_STATUS.sub 1 0) = 0
      let noRank : Prop := s.fld .rt (Rt.RNK_SLOT_PART.sub 12 12) (s.fld .part Par.PART_STATUS_SLOT p) = 0
      ∃ t, exec (.partArm m) s = .next t ∧
        (unset → t.partState p = 1 ∧ t.fld .part Par.PART_STATUS_LAST_REJ p = 3) ∧
        (¬ unset → noRank → t.partState p = 1 ∧ t.fld .part Par.PART_STATUS_LAST_REJ p = 4) ∧
        (¬ unset → ¬ noRank → s.digKey p = 0 → t.partState p = 1 ∧ t.fld .part Par.PART_STATUS_LAST_REJ p = 5) ∧
        (¬ unset → ¬ noRank → s.digKey p ≠ 0 → start < s.tick + 20 → t.partState p = 1 ∧ t.fld .part Par.PART_STATUS_LAST_REJ p = 6) ∧
        (¬ unset → ¬ noRank → s.digKey p ≠ 0 → s.tick + 20 ≤ start → t.partState p = 2 ∧
          t.fld64 .part Par.PART_RUN_LO p = (start + s.chip % 64) % 2 ^ 64)) ∧
    (p ≠ 0 → s.partState p = 2 ∨ s.partState p = 3 → ∃ t, exec (.partDrain m) s = .next t ∧ t.partState p = 4) ∧
    (s.partState p < 2 ∨ 4 ≤ s.partState p →
      ∃ t, exec (.partDrain m) s = .next t ∧ t.partState p = s.partState p ∧ t.fld .part Par.PART_STATUS_LAST_REJ p = 1) ∧
    (p ≠ 0 → 1 ≤ s.partState p → s.partState p ≤ 4 →
      ∃ t, exec (.partRetire m) s = .next t ∧ t.partState p = 4 ∧ t.fld .part Par.PART_STATUS_BARRIER p = 1) ∧
    (p = 0 ∨ s.partState p = 0 ∨ s.partState p = 5 →
      ∃ t, exec (.partRetire m) s = .next t ∧ t.partState p = s.partState p ∧ t.fld .part Par.PART_STATUS_LAST_REJ p = 1) ∧
    (p ≠ 0 → s.partState p = 5 → s.linesHeld = [] → (s.sealOf p).st = 0 →
      ∃ t, exec (.partFree m) s = .next t ∧ t.partState p = 0 ∧ t.digKey p = 0 ∧ t.seedOf p = 0 ∧
        (∀ ph < 2, t.fld (.cry 0) Cry.KEY_STATUS (keyBank p ph) = 0) ∧ (∀ e ∈ t.jobKeys, e.1 ≠ p) ∧ (∀ e ∈ t.decap, e.part ≠ p)) ∧
    (p ≠ 0 → s.partState p = 5 → s.linesHeld = [] → (s.sealOf p).st ≠ 0 →
      ∃ t, exec (.partFree m) s = .next t ∧ t.partState p = 5 ∧ (t.sealOf p).st = 3) ∧
    (p ≠ 0 → s.partState p ≠ 5 →
      ∃ t, exec (.partFree m) s = .next t ∧ t.partState p = s.partState p ∧ t.fld .part Par.PART_STATUS_LAST_REJ p = 1)) ∧
  (∀ s p, s.partState p = 2 →
    (s.fld64 .part Par.PART_RUN_LO p ≤ s.tick →
      ∃ t, exec (.runTickReached p) s = .next t ∧ t.partState p = 3 ∧ t.stepOf p = 0 ∧ t.fld .part Par.PART_STATUS_RAMP p = 1 ∧
        (t.partX p).rampI0 = s.inputMa ∧ (t.partX p).rampTick = s.tick) ∧
    (s.tick < s.fld64 .part Par.PART_RUN_LO p → exec (.runTickReached p) s = .next s)) ∧
  (∀ s p, s.fld .part Par.PART_STATUS_RAMP p = 1 →
    (2400000000 ≤ (s.rampLimit p + 500) * s.inputMv → ∃ t, exec (.rampDone p) s = .next t ∧ t.fld .part Par.PART_STATUS_RAMP p = 0) ∧
    ((s.rampLimit p + 500) * s.inputMv < 2400000000 → exec (.rampDone p) s = .next s)) ∧
  (∀ s p, s.partState p = 4 → s.fld .part Par.PART_STATUS_BARRIER p = 0 → s.fld64 .part Par.PART_DRAIN_LO p ≠ 0 →
    s.fld64 .part Par.PART_DRAIN_LO p ≤ s.tick →
    ∃ t, exec (.drainTickReached p) s = .next t ∧ t.fld .part Par.PART_STATUS_BARRIER p = 1 ∧ t.partState p = 4) ∧
  (∀ s p, s.partState p = 4 → s.tick < s.fld64 .part Par.PART_DRAIN_LO p → exec (.drainTickReached p) s = .next s) ∧
  (∀ s p ns, s.partState p = 4 → s.fld .part Par.PART_STATUS_BARRIER p = 1 → (s.partX p).marks = some [] → (s.sealOf p).st = 0 →
    ∃ t, exec (.retireBarrierDone p ns) s = .next t ∧ t.partState p = 5 ∧ t.fld .part Par.PART_STATUS_BARRIER p = 0 ∧
      t.fld .part Par.RETIRE_NS p = ns % 2 ^ 32 ∧ (∀ c ∈ s.ctxsOf p, t.ctxState c = 0) ∧ t.mem = s.mem) ∧
  (∀ s p ns b bs, (s.partX p).marks = some (b :: bs) → s.fld .part Par.PART_STATUS_BARRIER p = 1 → (s.sealOf p).st = 0 →
    (s.barrierBound ≤ (s.tick + 1 - (s.partX p).markTick) * 10000 →
      ∃ t, exec (.retireBarrierBound p ns) s = .next t ∧ t.partState p = 5 ∧ t.fld .part Par.PART_STATUS_BY_BOUND p = 1) ∧
    ((s.tick + 1 - (s.partX p).markTick) * 10000 < s.barrierBound → exec (.retireBarrierBound p ns) s = .next s) ∧
    exec (.retireBarrierDone p ns) s = .next s)

/-- Lines of a port are claimed and released with the peer, message by message (R343–R347, Table 12.2).
Choices of the model: log entries 3, 110. -/
def Obligations.LinesAreClaimedAndReleased : Prop :=
  (∀ s m part, s.MayWrite m .line → lineReal s.lineSel.1 s.lineSel.2 = true →
    let p := s.lineSel.1
    let l := s.lineSel.2
    (s.lineSt p l = 0 → part < 4096 → part ≠ 0 → 1 ≤ s.partState part → s.partState part ≤ 3 →
      ∃ t, exec (.lineCmdClaim m part) s = .next t ∧ t.lineSt p l = 1 ∧ t.linePart p l = part ∧ t.lineTag = (s.lineTag + 1) % 65536 ∧
        (t.lineX p l).tag = (s.lineTag + 1) % 65536 ∧ (t.lineX p l).sentTick = s.tick) ∧
    (s.lineSt p l ≠ 0 →
      ∃ t, exec (.lineCmdClaim m part) s = .next t ∧ t.lineSt p l = s.lineSt p l ∧ t.fld .line (Lin.LINE_STATE.sub 7 4) (lineBank p l) = 1) ∧
    (s.lineSt p l = 0 → part = 0 ∨ s.partState part = 0 ∨ 4 ≤ s.partState part →
      ∃ t, exec (.lineCmdClaim m part) s = .next t ∧ t.lineSt p l = 0 ∧ t.fld .line (Lin.LINE_STATE.sub 7 4) (lineBank p l) = 2) ∧
    (s.lineSt p l = 2 → ∃ t, exec (.lineCmdRelease m) s = .next t ∧ t.lineSt p l = 3 ∧ (t.lineX p l).tag = (s.lineTag + 1) % 65536) ∧
    (s.lineSt p l ≠ 2 → ∃ t, exec (.lineCmdRelease m) s = .next t ∧ t.regs = s.regs ∧ t.lineXs = s.lineXs)) ∧
  (∀ s chip part plane input line tag,
    let cause := s.lineAnswer chip part plane input line
    (∀ p b o, cause = 0 → part < 4096 → chip < 65536 → s.planePort plane = some (p, b, o) →
      let l := (32 - line % 32) % 32
      ∃ t, exec (.lineClaimReq chip part plane input line tag) s = .next t ∧ t.lineSt p l = 2 ∧ t.linePart p l = part ∧
        t.fld .line (Lin.LINE_PEER.sub 15 0) (lineBank p l) = chip ∧ t.fld .line Lin.CLAIM_CNT = min (s.fld .line Lin.CLAIM_CNT + 1) (2 ^ 32 - 1)) ∧
    (cause ≠ 0 → ∃ t, exec (.lineClaimReq chip part plane input line tag) s = .next t ∧ t.lineXs = s.lineXs ∧
      ∀ b, t.fld .line Lin.LINE_STATE b = s.fld .line Lin.LINE_STATE b)) ∧
  (∀ s chip cause plane line tag p l, s.lineOffered plane line tag = some (p, l) →
    (∃ t, exec (.lineClaimAck chip plane line tag) s = .next t ∧ t.lineSt p l = 2 ∧ t.linePart p l = s.linePart p l) ∧
    (cause < 16 → ∃ t, exec (.lineClaimNak cause plane line tag) s = .next t ∧ t.lineSt p l = 0 ∧ t.linePart p l = 0 ∧
      t.fld .line (Lin.LINE_STATE.sub 7 4) (lineBank p l) = cause)) ∧
  (∀ s chip cause plane line tag, s.lineOffered plane line tag = none →
    exec (.lineClaimAck chip plane line tag) s = .next s ∧ exec (.lineClaimNak cause plane line tag) s = .next s) ∧
  (∀ s chip part plane line tag p l, s.lineOf plane line = some (p, l) → s.linePart p l = part → s.lineSt p l = 2 ∨ s.lineSt p l = 3 →
    (s.partState part = 0 ∨ s.partState part = 5 →
      ∃ t, exec (.lineClaimRel chip part plane line tag) s = .next t ∧ t.lineSt p l = 0) ∧
    (1 ≤ s.partState part → s.partState part ≤ 4 →
      ∃ t, exec (.lineClaimRel chip part plane line tag) s = .next t ∧ t.lineSt p l = s.lineSt p l ∧ t.lineXs = s.lineXs)) ∧
  (∀ s plane line tag p l, s.lineReleasing plane line tag = some (p, l) →
    (∃ t, exec (.lineClaimRelAck plane line tag) s = .next t ∧ t.lineSt p l = 0) ∧
    (∃ t, exec (.lineClaimRelWait plane line tag) s = .next t ∧ t.lineSt p l = 3 ∧ (t.lineX p l).relWait = true ∧ t.regs = s.regs)) ∧
  (∀ s p l, s.lineSt p l = 1 → (s.lineX p l).sentTick + 10 ≤ s.tick →
    ((s.lineX p l).resent = false →
      ∃ t, exec (.lineReqTimeout p l) s = .next t ∧ t.lineSt p l = 1 ∧ (t.lineX p l).resent = true ∧ (t.lineX p l).sentTick = s.tick) ∧
    ((s.lineX p l).resent = true →
      ∃ t, exec (.lineReqTimeout p l) s = .next t ∧ t.lineSt p l = 0 ∧ t.fld .line (Lin.LINE_STATE.sub 7 4) (lineBank p l) = 5)) ∧
  (∀ s p l, s.tick < (s.lineX p l).sentTick + 10 → exec (.lineReqTimeout p l) s = .next s) ∧
  (∀ s p l, s.lineSt p l = 2 → s.fld .line (Lin.LINE_STATE.sub 3 3) (lineBank p l) = 0 → (s.lineX p l).since ≠ 0 →
    ((s.lineX p l).noted = false → (s.lineX p l).since + 199 ≤ s.tick →
      ∃ t, exec (.lineUnconfirmed p l) s = .next t ∧ (t.lineX p l).noted = true ∧ t.lineSt p l = 2) ∧
    (s.tick < (s.lineX p l).since + 199 → exec (.lineUnconfirmed p l) s = .next s))

/-- Contexts are bound, torn down and unbound: states, generations and causes of rejection (R348–R350, R362).
Choices of the model: log entries 3, 51. -/
def Obligations.ContextsAreBoundAndTornDown : Prop :=
  (∀ s m, s.MayWrite m .ctx →
    let c := s.ctxSel
    let p := s.fld .ctx (Ctx.CTX_ARG.sub 11 0)
    let g := s.fld .ctx (Ctx.CTX_ARG.sub 23 16)
    let open_ : Prop := s.partState p ≠ 0 ∧ s.partState p ≠ 5
    ∃ t, exec (.ctxBind m) s = .next t ∧
      (open_ → s.ctxState c = 0 → s.fld .ctx Ctx.CTX_PREV_GEN c ≠ g + 256 → t.ctxState c = 1 ∧ t.ctxGen c = g ∧ t.ctxPart c = p) ∧
      (¬ open_ → t.ctxState c = s.ctxState c ∧ t.fld .ctx (Ctx.CTX_STATE.sub 7 4) c = 3) ∧
      (open_ → s.ctxState c ≠ 0 → t.ctxState c = s.ctxState c ∧ t.ctxGen c = s.ctxGen c ∧ t.fld .ctx (Ctx.CTX_STATE.sub 7 4) c = 1) ∧
      (open_ → s.ctxState c = 0 → s.fld .ctx Ctx.CTX_PREV_GEN c = g + 256 → t.ctxState c = 0 ∧ t.fld .ctx (Ctx.CTX_STATE.sub 7 4) c = 2)) ∧
  (∀ s m, s.MayWrite m .ctx →
    let c := s.ctxSel
    (s.ctxState c = 1 →
      ∃ t, exec (.ctxRetire m) s = .next t ∧ t.ctxState c = 2 ∧ t.ctxGen c = (s.ctxGen c + 1) % 256 ∧ t.fld .ctx Ctx.CTX_PREV_GEN c = s.ctxGen c + 256 ∧
        ∀ e ∈ s.progs, e.2.active = true → e.2.ctx = c → (t.prog e.1).active = true → (t.prog e.1).ended ≠ none) ∧
    (s.ctxState c ≠ 1 → ∀ i ∈ [Instr.ctxRetire m, .ctxUnbind m],
      ∃ t, exec i s = .next t ∧ t.ctxState c = s.ctxState c ∧ t.ctxGen c = s.ctxGen c ∧ t.fld .ctx (Ctx.CTX_STATE.sub 7 4) c = 1) ∧
    (s.ctxState c = 1 → s.partState (s.ctxPart c) = 0 ∨ s.partState (s.ctxPart c) = 5 →
      ∃ t, exec (.ctxUnbind m) s = .next t ∧ t.ctxState c = 0 ∧ t.ctxGen c = s.ctxGen c) ∧
    (s.ctxState c = 1 → s.partState (s.ctxPart c) ≠ 0 → s.partState (s.ctxPart c) ≠ 5 →
      ∃ t, exec (.ctxUnbind m) s = .next t ∧ t.ctxState c = 1 ∧ t.fld .ctx (Ctx.CTX_STATE.sub 7 4) c = 3)) ∧
  (∀ s c ns, s.ctxState c = 2 →
    let p := s.ctxPart c
    (s.fld .part Par.PART_STATUS_BARRIER p = 0 → (s.partX p).tearing = [] →
      ∃ t, exec (.teardownAck c ns) s = .next t ∧ t.ctxState c = 1 ∧ t.fld .ctx Ctx.CTX_RET_NS c = ns % 2 ^ 32) ∧
    (c ∈ (s.partX p).tearing → ∃ t, exec (.teardownAck c ns) s = .next t ∧ t.ctxState c = 2 ∧ c ∉ (t.partX p).tearing ∧
      t.fld .ctx Ctx.CTX_RET_NS c = ns % 2 ^ 32)) ∧
  (∀ s c ns, s.ctxState c ≠ 2 → exec (.teardownAck c ns) s = .next s)

/-- Configuration epochs: arming with its checks in order, cancelling, activation at the tick, the digest, the skew of a peer, and the image window
(R352–R358, R364).
Choices of the model: log entries 3, 52, 109. -/
def Obligations.EpochsArmActivateAndCompare : Prop :=
  (∀ s m step, s.MayWrite m .ep →
    let p := s.fld .ep (Ep.EP_SEL.sub 11 0)
    let st := s.partState p
    let at_ := s.fld64 .ep Ep.EP_AT_LO p
    let next := s.fld64 .ep Ep.EP_NEXT_LO p
    let c1 : Prop := step = true ∧ p = 0
    let c2 : Prop := p ≠ 0 ∧ (st = 0 ∨ st = 5 ∨ (step = true ∧ st ≠ 3))
    let c3 : Prop := s.epArmed p = true
    let c4 : Prop := next ≠ s.fld64 .ep Ep.EP_CUR_LO p + 1
    let c5 : Prop := (step = false ∧ at_ < s.tick + 20) ∨ (step = true ∧ at_ ≤ s.stepOf p)
    ∃ t, exec (.epArm m false step) s = .next t ∧ t.shadow = s.shadow ∧
      (¬ c1 → ¬ c2 → ¬ c3 → ¬ c4 → ¬ c5 → t.epArmed p = true ∧ (t.epX p).next = next ∧ (t.epX p).at_ = at_ ∧ (t.epX p).step = step) ∧
      (c1 → t.fld .ep Ep.EP_CTRL_LAST_REJ p = 5 ∧ t.eps = s.eps) ∧
      (¬ c1 → c2 → t.fld .ep Ep.EP_CTRL_LAST_REJ p = 4 ∧ t.eps = s.eps) ∧
      (¬ c1 → ¬ c2 → c3 → t.fld .ep Ep.EP_CTRL_LAST_REJ p = 3 ∧ t.eps = s.eps) ∧
      (¬ c1 → ¬ c2 → ¬ c3 → c4 → t.fld .ep Ep.EP_CTRL_LAST_REJ p = 1 ∧ t.epArmed p = false) ∧
      (¬ c1 → ¬ c2 → ¬ c3 → ¬ c4 → c5 → t.fld .ep Ep.EP_CTRL_LAST_REJ p = 2 ∧ t.epArmed p = false)) ∧
  (∀ s m step, s.MayWrite m .ep →
    let p := s.fld .ep (Ep.EP_SEL.sub 11 0)
    ∃ t, exec (.epCancel m step) s = .next t ∧ t.epArmed p = false ∧ t.shadow = s.shadow ∧ (s.epArmed p = true → (t.epX p).next = 0) ∧
      (s.epArmed p = false → t.eps = s.eps)) ∧
  (∀ s p, s.Inv → s.epArmed p = true → (s.epX p).step = false → (s.epX p).at_ ≤ s.tick →
    ∃ t, exec (.epochTickActivation p) s = .next t ∧ t.fld64 .ep Ep.EP_CUR_LO p = (s.epX p).next % 2 ^ 64 ∧ t.fld64 .ep Ep.EP_LAST_LO p = t.tick ∧
      t.epArmed p = false ∧ t.fld .ep (Ep.EP_STATUS.sub 1 1) p = 1 ∧
      (∀ k, k % 64 = Page.rt.kind → s.scopeOf k = p → t.reg k = s.shReg k) ∧
      (∀ k, k % 64 = Page.rt.kind → s.scopeOf k ≠ p → t.reg k = s.reg k ∧ t.shReg k = s.shReg k)) ∧
  (∀ s p, s.epArmed p = false ∨ s.tick < (s.epX p).at_ → exec (.epochTickActivation p) s = .next s) ∧
  (∀ s p, s.fld .ep (Ep.EP_STATUS.sub 1 1) p = 1 →
    ∃ t, exec (.epochDigestReady p) s = .next t ∧ t.fld .ep (Ep.EP_STATUS.sub 1 1) p = 0 ∧
      ∀ i < 8, t.fld .ep (Ep.DIGEST i) p = natLE (shake256 (s.image p) 32) / 2 ^ (32 * i) % 2 ^ 32) ∧
  (∀ s p, s.fld .ep (Ep.EP_STATUS.sub 1 1) p = 0 → exec (.epochDigestReady p) s = .next s) ∧
  (∀ s p b,
    let x : Skew := tGet s.skews (64 * p + b)
    (x.since ≠ 0 → x.told = false → x.since + s.fld .ep Ep.EP_SKEW_MAX ≤ s.tick →
      ∃ t, exec (.epochSkewTimeout p b) s = .next t ∧ (tGet t.skews (64 * p + b)).told = true ∧
        t.fld .ep Ep.MISMATCH_CNT p = min (s.fld .ep Ep.MISMATCH_CNT p + 1) (2 ^ 32 - 1) ∧ t.fld .ep (Ep.EP_STATUS.sub 2 2) p = 1) ∧
    (x.since = 0 ∨ x.told = true ∨ s.tick < x.since + s.fld .ep Ep.EP_SKEW_MAX → exec (.epochSkewTimeout p b) s = .next s)) ∧
  (∀ s, s.answers .ep = true →
    let p := s.fld .ep (Ep.EP_SEL.sub 11 0)
    let o := s.fld .ep (Ep.IMG_OFF.sub 19 0)
    ∃ t, exec .imgDataRead s = .next t ∧ t.fld .ep (Ep.IMG_OFF.sub 19 0) = (o + 4) % 2 ^ 20 ∧
      t.out = s.out ++ [.hostRead 0 (bytesLE 4 (natLE (((s.image p).drop o).take 4)))])

/-- Group parity checkpoints: units at their holders, the local end, digests at the coordinator, the commit and its answer, and the aborts (R374–R380,
Table 13.12).
Choices of the model: log entry 3. -/
def Obligations.CheckpointsCopyAndCommit : Prop :=
  (∀ s chip p slot row x zero m, (List.range (s.ctOf p).g).find? (fun m => s.rankChip p ((s.ctOf p).rankOf m) == some chip) = some m →
    s.ckRuns p = true → s.ckSlot p = slot →
    let t0 := s.ctOf p
    let mine := (s.ckMember p).getD 0
    let isQ : Bool := (row + 1) % t0.g == mine
    let key := 2 * row + bool01 isQ
    let a := t0.unitAddr slot (if isQ then t0.qUnit row else t0.pUnit row)
    let d := (s.peekN (t0.unitAddr slot (t0.stageUnit m)) unit64).map (fun b => b.toNat)
    let old := (s.peekN a unit64).map (fun b => b.toNat)
    row % t0.g = mine ∨ isQ = true →
    ∃ t u : State, exec (.ckUnit chip p (s.ckStep p) slot row x zero false) s = .next t ∧ t = u.ckLocal p ∧
      smGet (fun _ => 0) (u.ckX p).rows key = smGet (fun _ => 0) (s.ckX p).rows key + 1 ∧
      (zero = true → u.mem = s.mem) ∧
      (zero = false → u.mem = (s.engStore a (toBytes (List.zipWith (fun u v => u ^^^ v) old (if isQ then mulAlpha x d else d)))).mem)) ∧
  (∀ s chip p slot row x zero m, (List.range (s.ctOf p).g).find? (fun m => s.rankChip p ((s.ctOf p).rankOf m) == some chip) = some m →
    s.ckRuns p = true → s.ckSlot p = slot → (s.ckX p).queue = [] →
    ∃ t, exec (.ckUnit chip p (s.ckStep p) slot row x zero true) s = .next t ∧ t.mem = s.mem ∧
      (t.ckX p).flight = (s.ckX p).flight.filter (fun u => !(u.row == row && u.holder == m))) ∧
  (∀ s p m, s.ckMember p = some m → m ≠ 0 → s.ckSt p = 1 → (s.ckX p).copies = [] →
    (∀ r < (s.ctOf p).g * (s.ctOf p).w, (r % (s.ctOf p).g = m → (s.ctOf p).g - 2 ≤ smGet (fun _ => 0) (s.ckX p).rows (2 * r)) ∧
      ((r + 1) % (s.ctOf p).g = m → (s.ctOf p).g - 2 ≤ smGet (fun _ => 0) (s.ckX p).rows (2 * r + 1))) →
    ∃ t, exec (.checkpointLocalDone p) s = .next t ∧ t.ckSt p = 2 ∧ (t.ckX p).digests = s.slotDigests p (s.ckSlot p) ∧ t.mem = s.mem) ∧
  (∀ s p, s.ckSt p ≠ 1 ∨ (s.ckX p).copies ≠ [] → exec (.checkpointLocalDone p) s = .next s) ∧
  (∀ s p slot m d dp dq, s.ckRuns p = true → s.ckSlot p = slot → s.ckMember p = some 0 → m < (s.ctOf p).g →
    let u := s.modCk p (fun x => { x with stripes := tSet x.stripes m [d, dp, dq] })
    exec (.stripeDone p (s.ckStep p) slot m d dp dq) s = .next (u.ckRecord_ p) ∧
      (∀ x, x ≠ m → tGet (u.ckX p).stripes x = tGet (s.ckX p).stripes x) ∧ tGet (u.ckX p).stripes m = [d, dp, dq] ∧
      ((u.ckX p).stripes.length ≠ (s.ctOf p).g → u.ckRecord_ p = u)) ∧
  (∀ s p, s.ckSt p = 2 → s.recState (s.ctOf p) (s.ckSlot p) = 1 →
    let rec_ := s.recDigests ((s.ctOf p).unitAddr (s.ckSlot p) 0) ((s.ckMember p).getD 0)
    ∃ t, exec (.commitRecordLanded p) s = .next t ∧
      (rec_ = (s.ckX p).digests → t.ckSt p = 3 ∧ t.fld .ck Ck.CK_CNT p = min (s.fld .ck Ck.CK_CNT p + 1) (2 ^ 32 - 1) ∧ t.mem = s.mem) ∧
      (rec_ ≠ (s.ckX p).digests → t.ckSt p = 4 ∧ t.fld .ck (Ck.CK_STATUS.sub 11 8) p = 2 ∧
        t.fld .ck Ck.CK_ABORT_CNT p = min (s.fld .ck Ck.CK_ABORT_CNT p + 1) (2 ^ 32 - 1))) ∧
  (∀ s p, s.ckSt p ≠ 2 ∨ s.recState (s.ctOf p) (s.ckSlot p) ≠ 1 → exec (.commitRecordLanded p) s = .next s) ∧
  (∀ s p slot m status, s.ckMember p = some 0 → s.ckSlot p = slot → (s.ckX p).recPhase = 2 →
    (status = 0 →
      let acks := m :: (s.ckX p).acks.filter (fun k => k != m)
      ∃ t, exec (.commitAck p (s.ckStep p) slot m status) s = .next t ∧ (t.ckX p).acks = acks ∧ t.mem = s.mem ∧
        (acks.length = (s.ctOf p).g → (t.ckX p).recPhase = 3) ∧ (acks.length ≠ (s.ctOf p).g → (t.ckX p).recPhase = 2)) ∧
    (status ≠ 0 → s.ckRuns p = true →
      ∃ t, exec (.commitAck p (s.ckStep p) slot m status) s = .next t ∧ t.ckSt p = 4 ∧ t.fld .ck (Ck.CK_STATUS.sub 11 8) p = 2)) ∧
  (∀ s mm p cause, s.ckRuns p = true → cause < 16 →
    ∀ c ∈ [(Instr.ckptAbort p (s.ckStep p) (s.ckSlot p) cause, cause, True),
        (.ckTimeout p, 4, (s.ckX p).lastTick - 1 + s.fld .ck (Ck.CK_TIMEOUT.sub 15 0) p * 100000 ≤ s.tick),
        (.ckAbort mm, 0, s.MayWrite mm .ck ∧ s.ckSel = p)],
      c.2.2 → ∃ t, exec c.1 s = .next t ∧ t.ckSt p = 4 ∧ t.fld .ck (Ck.CK_STATUS.sub 11 8) p = c.2.1 ∧
        t.fld .ck Ck.CK_ABORT_CNT p = min (s.fld .ck Ck.CK_ABORT_CNT p + 1) (2 ^ 32 - 1) ∧ (t.ckX p).copies = [] ∧ (t.ckX p).rows = []) ∧
  (∀ s p step slot cause, s.ckRuns p = false → exec (.ckptAbort p step slot cause) s = .next s ∧ exec (.ckTimeout p) s = .next s) ∧
  (∀ s m, s.MayWrite m .ck → ∃ t, exec (.ckNow m) s = .next t ∧ (t.ckX s.ckSel).nowDue = true ∧ t.regs = s.regs)

/-- Mirrors and the continuity table: validation, the greeting of a buddy and its answer, digests that agree or not; and checkpoints that go to storage
and come back (R365–R367, R372, R382).
Choices of the model: log entry 3. -/
def Obligations.MirrorsAndStorageCheckpoints : Prop :=
  (∀ s p, (s.ctOf p).due = true →
    let a := s.fld64 .ct Ct.CT_ADDR_LO p
    let h := s.ctWords a 8
    let n := bitsOf (h.getD 0 0) 15 10
    let rs := (List.range n).map (fun i => s.ctWords (a + 0x40 + 32 * i) 4)
    ∃ t, exec (.ctValidationDone p) s = .next t ∧ t.mem = s.mem ∧
      (a = 0 → t.ctOf p = {} ∧ t.fld .ct Ct.CT_STATUS p = 0) ∧
      (a ≠ 0 → s.ctCause p h rs ≠ 0 → t.ctOf p = {} ∧ t.fld .ct Ct.CT_STATUS p = s.ctCause p h rs * 2 + n * 16) ∧
      (a ≠ 0 → s.ctCause p h rs = 0 → t.ctOf p = { ctHeader h with valid := true, regs := rs.map ctRegion } ∧ t.fld .ct (Ct.CT_STATUS.sub 0 0) p = 1 ∧
        ∀ i < n, ((rs.map ctRegion).getD i {}).mirror = true → t.mirSt p i = 1)) ∧
  (∀ s p, (s.ctOf p).due = false → exec (.ctValidationDone p) s = .next s) ∧
  (∀ s p r, ((s.ctOf p).reg r).mirror = true → s.mirSt p r = 1 → (s.mirX p r).hello ≠ 0 →
    ((s.mirX p r).hello - 1 + 100 ≤ s.tick → ∃ t, exec (.buddyHelloRetry p r) s = .next t ∧ (t.mirX p r).hello = s.tick + 1 ∧ t.mirSt p r = 1) ∧
    (s.tick < (s.mirX p r).hello - 1 + 100 → exec (.buddyHelloRetry p r) s = .next s)) ∧
  (∀ s chip p idx addr units rank fd r, (s.ctOf p).due = false →
    (s.ctOf p).regs.findIdx? (fun g => g.hold && g.peer == rank && g.peerAddr == addr && g.units == units) = some r →
    ∃ t, exec (.buddyHello chip p idx addr units rank fd) s = .next t ∧ (t.mirX p r).peerIdx = idx ∧
      (fd = s.fdId → t.mirSt p r = 4) ∧ (fd ≠ s.fdId → s.mirSt p r = 1 → t.mirSt p r = 2) ∧ (fd ≠ s.fdId → s.mirSt p r ≠ 1 → t.mirSt p r = s.mirSt p r)) ∧
  (∀ s p idx status fd, ((s.ctOf p).reg idx).mirror = true → s.mirSt p idx = 1 →
    ∃ t, exec (.buddyReply p idx status fd) s = .next t ∧ (t.mirX p idx).hello = 0 ∧
      (status = 1 ∨ fd = s.fdId → t.mirSt p idx = 4) ∧ (status = 2 → t.mirSt p idx = 4) ∧ (status = 0 → fd ≠ s.fdId → t.mirSt p idx = 2)) ∧
  (∀ s chip p step r d a, ((s.ctOf p).reg r).mirror = true → (s.mirX p r).own = some a → (s.mirX p r).step = step →
    ∃ t, exec (.mirrorDigest chip p step (r + 64) d) s = .next t ∧ (t.mirX p r).own = none ∧ (t.mirX p r).peer = none ∧
      (a = d → t.fld64 .ct Ct.MIR_STEP_LO (p + 4096 * r) = step % 2 ^ 64 ∧ (s.mirSt p r = 2 ∨ s.mirSt p r = 3 → t.mirSt p r = 2)) ∧
      (a ≠ d → t.mirSt p r = 3 ∧ (t.mirX p r).full = true ∧
        t.fld .ct Ct.MIR_MISMATCH_CNT p = min (s.fld .ct Ct.MIR_MISMATCH_CNT p + 1) (2 ^ 32 - 1))) ∧
  (∀ s m slot, s.MayWrite m .ck → slot < 2 →
    let p := s.ckSel
    s.stoSt p ≠ 1 →
    ((tGet s.jobKeys p).key = [] → ∀ c ∈ [Instr.stoExport m slot, .stoImport m slot], ∃ t, exec c s = .next t ∧ t.fld .ck Ck.STO_STATUS p = 7 ∧
      t.out = s.out) ∧
    ((tGet s.jobKeys p).key ≠ [] → s.recState (s.ctOf p) slot ≠ 1 →
      ∃ t, exec (.stoExport m slot) s = .next t ∧ t.fld .ck Ck.STO_STATUS p = 11 ∧ t.out = s.out) ∧
    ((tGet s.jobKeys p).key ≠ [] → s.recState (s.ctOf p) slot = 1 → 1 ≤ s.fld .ck (Ck.STO_RING.sub 7 0) p →
      s.fld .ck Ck.STO_PROD p = s.fld .ck Ck.STO_CONS p →
      let prod := s.fld .ck Ck.STO_PROD p
      let seq := min (s.fld .ck Ck.STO_SEQ p + 1) (2 ^ 32 - 1) + s.fld .sec Sec.BOOT_CNT * 2 ^ 32
      let count := ((s.ctOf p).slotUnits * unit64 + chunkLen - 1) / chunkLen
      let step := natLE (s.peekN ((s.ctOf p).unitAddr slot 0 + 8) 8)
      ∃ t body, exec (.stoExport m slot) s = .next t ∧ t.mem = s.mem ∧ (t.ckX p).stoSeq = seq ∧ (t.ckX p).stoCount = count ∧
        Out.hostWrite (s.fld64 .ck Ck.STO_ADDR_LO p + prod % s.fld .ck (Ck.STO_RING.sub 7 0) p * 1048656)
          (s.stoHeader p step 0 count slot seq ++ body) ∈ t.out) ∧
    ((tGet s.jobKeys p).key ≠ [] →
      ∃ t, exec (.stoImport m slot) s = .next t ∧ t.stoSt p = 1 ∧ (t.ckX p).stoImport = true ∧ (t.ckX p).stoChunk = 0 ∧ (t.ckX p).stoSlot = slot ∧
        t.out = s.out)) ∧
  (∀ s m v, s.MayWrite m .ck →
    let p := s.ckSel
    (s.stoSt p ≠ 1 ∨ (s.ckX p).stoImport = false → ∃ t, exec (.stoConsWrite m v) s = .next t ∧ t.fld .ck Ck.STO_CONS p = v.toNat) ∧
    (s.stoSt p = 1 → (s.ckX p).stoImport = true → ∃ t, exec (.stoConsWrite m v) s = .next t ∧ t.regs = s.regs)) ∧
  (∀ s m v b, s.MayWrite m .ck →
    let p := s.ckSel
    let x := s.ckX p
    let hd := b.take 64
    let seq := natLE ((hd.drop 0x20).take 8)
    let good : Prop := hd = s.stoHeader p (natLE ((hd.drop 8).take 8)) x.stoChunk x.stoCount x.stoSlot seq
    (s.stoSt p = 1 → x.stoImport = false → ∃ t, exec (.stoProdWrite m v [b]) s = .next t ∧ t.regs = s.regs) ∧
    (s.stoSt p = 1 → x.stoImport = true → x.stoChunk < x.stoCount → ¬ good →
      ∃ t, exec (.stoProdWrite m v [b]) s = .next t ∧ t.fld .ck Ck.STO_STATUS p = 7 ∧ t.fld .ck Ck.STO_PROD p = v.toNat ∧ t.mem = s.mem) ∧
    (∀ pt, s.stoSt p = 1 → x.stoImport = true → x.stoChunk + 1 < x.stoCount → good →
      gcmOpen (s.stoKey p (seq / 2 ^ 32)) (stoIv x.stoChunk seq s.chip) hd ((b.drop 64).take chunkLen) (b.drop (64 + chunkLen)) = some pt →
      ∃ t, exec (.stoProdWrite m v [b]) s = .next t ∧ (t.ckX p).stoChunk = x.stoChunk + 1 ∧ (t.ckX p).stoData = x.stoData ++ pt ∧
        t.stoSt p = 1 ∧ t.fld .ck Ck.STO_CONS p = (s.fld .ck Ck.STO_CONS p + 1) % 2 ^ 32))

/-- Recovery commands: a lost rank, HALT and ROLLBACK, PULL and its ends, a slot that is loaded or rebuilt, and their rejections (R386–R390, R397).
Choices of the model: log entries 3, 53. -/
def Obligations.RecoveryCommandsAct : Prop :=
  (∀ s m rank, s.MayWrite m .rc →
    let p := s.rcSel
    (s.hasRank p rank = true → s.rcSt p ≠ 1 → (s.partX p).lost.contains rank = false →
      ∃ t, exec (.loss m rank) s = .next t ∧ (t.partX p).lost.contains rank = true ∧ t.rcSt p = 2 ∧
        ∀ i, i < (s.ctOf p).regs.length → ((s.ctOf p).reg i).mirror = true ∨ ((s.ctOf p).reg i).hold = true → ((s.ctOf p).reg i).peer = rank →
          t.mirSt p i = 5) ∧
    (s.hasRank p rank = false → s.rcSt p ≠ 1 →
      ∃ t, exec (.loss m rank) s = .next t ∧ t.rcSt p = 3 ∧ t.fld .rc (Rc.RC_STATUS.sub 11 8) p = 2 ∧ t.parts = s.parts)) ∧
  (∀ s m, s.MayWrite m .rc →
    let p := s.rcSel
    let mid : Prop := s.fld64 .ct Ct.GATE_STEP_LO p = s.stepOf p + 1 ∧ ∃ e ∈ s.progs, e.2.active = true ∧ e.2.part = p ∧ e.2.ended = none
    (s.partState p = 3 → s.rcSt p ≠ 1 →
      ∃ t, exec (.halt m) s = .next t ∧ t.halted p = true ∧ t.rcSt p = 2 ∧ (mid → (t.partX p).haltFence = true) ∧
        (¬ mid → (t.partX p).haltFence = false ∧ ∀ e ∈ s.progs, e.2.active = true → e.2.part = p → (t.prog e.1).active = true → (t.prog e.1).ended ≠ none)) ∧
    (s.partState p ≠ 3 → s.rcSt p ≠ 1 →
      ∃ t, exec (.halt m) s = .next t ∧ t.halted p = s.halted p ∧ t.rcSt p = 3 ∧ t.fld .rc (Rc.RC_STATUS.sub 11 8) p = 1)) ∧
  (∀ s m, s.MayWrite m .rc →
    let p := s.rcSel
    let a := s.rcArg p
    let ok : Prop := (s.halted p = true ∧ (s.partX p).haltFence = false ∧ (a = s.stepOf p ∨
        (a = s.fld64 .ck Ck.JOB_CKPT_LO p ∧ bitAt (s.fld .ck Ck.JOB_CKPT_CTRL p) 1 = true))) ∨ (s.partState p = 3 ∧ (s.partX p).started = false)
    (ok → s.rcSt p ≠ 1 → ∃ t, exec (.rollback m) s = .next t ∧ t.stepOf p = a ∧ t.halted p = false ∧ (t.partX p).lost = [] ∧ t.rcSt p = 2) ∧
    (¬ ok → s.rcSt p ≠ 1 → ∃ t, exec (.rollback m) s = .next t ∧ t.stepOf p = s.stepOf p ∧ t.rcSt p = 3 ∧ t.fld .rc (Rc.RC_STATUS.sub 11 8) p = 1)) ∧
  (∀ s m reg rank, s.MayWrite m .rc →
    let p := s.rcSel
    s.rcSt p ≠ 1 →
    ((s.ctOf p).valid = true → reg < (s.ctOf p).regs.length → s.rankChip p rank = some (gaChip (s.rcArg p)) →
      ∃ t, exec (.pull m reg rank) s = .next t ∧ t.rcSt p = 1 ∧ (t.rcX p).op = 4 ∧ (t.rcX p).region = reg ∧ (t.rcX p).rank = rank ∧ t.mem = s.mem) ∧
    ((s.ctOf p).valid = false ∨ (s.ctOf p).regs.length ≤ reg ∨ s.rankChip p rank ≠ some (gaChip (s.rcArg p)) →
      ∃ t, exec (.pull m reg rank) s = .next t ∧ t.rcSt p = 3 ∧ t.fld .rc (Rc.RC_STATUS.sub 11 8) p = 2 ∧ t.mem = s.mem)) ∧
  (∀ s chip p src n tgt,
    ∃ t, exec (.pullReq chip p src n tgt) s = .next t ∧ t.mem = s.mem ∧
      (s.pullOk chip p src n = true → 0 < n → ∃ o ∈ t.outst, o.chip = chip ∧ o.part = p ∧ o.infl = 3) ∧ (s.pullOk chip p src n = false → t.outst = s.outst)) ∧
  (∀ s p status d, s.rcSt p = 1 → (s.rcX p).op = 4 → (s.rcX p).recheck = 0 →
    let g := (s.ctOf p).reg (s.rcX p).region
    ∃ t, exec (.pullDone p status d) s = .next t ∧ t.mem = s.mem ∧
      (status = 0 → s.digestOf p g.addr g.len = d → t.rcSt p = 2 ∧ t.fld .rc Rc.RC_OK_CNT p = min (s.fld .rc Rc.RC_OK_CNT p + 1) (2 ^ 32 - 1)) ∧
      (status = 0 → s.digestOf p g.addr g.len ≠ d → t.rcSt p = 3 ∧ t.fld .rc (Rc.RC_STATUS.sub 11 8) p = 4) ∧
      (status ≠ 0 → t.rcSt p = 3 ∧ t.fld .rc (Rc.RC_STATUS.sub 11 8) p = 3)) ∧
  (∀ s p status d, s.rcSt p ≠ 1 → exec (.pullDone p status d) s = .next s) ∧
  (∀ s m, s.MayWrite m .rc →
    let p := s.rcSel
    let slot := s.jobSlot p
    let ready : Prop := s.halted p = true ∧ (s.ctOf p).valid = true ∧ (s.ctOf p).g ≠ 0 ∧ bitAt (s.fld .ck Ck.JOB_CKPT_CTRL p) 1 = true ∧
      s.recState (s.ctOf p) slot = 1
    let same : Prop := s.slotDigests p slot = s.recDigests ((s.ctOf p).unitAddr slot 0) ((s.ckMember p).getD 0)
    s.rcSt p ≠ 1 →
    ∃ t, exec (.loadSlot m) s = .next t ∧ t.mem = s.mem ∧ (ready → same → t.rcSt p = 1 ∧ (t.rcX p).op = 5) ∧
      (ready → ¬ same → t.rcSt p = 3 ∧ t.fld .rc (Rc.RC_STATUS.sub 11 8) p = 4) ∧ (¬ ready → t.rcSt p = 3 ∧ t.fld .rc (Rc.RC_STATUS.sub 11 8) p = 1)) ∧
  (∀ s m rank k, s.MayWrite m .rc →
    let p := s.rcSel
    let t0 := s.ctOf p
    s.rcSt p ≠ 1 → s.halted p = true → t0.valid = true → t0.g ≠ 0 → s.ckMember p = some k →
    (∀ j < t0.g, t0.rankOf j = rank → j ≠ k → some j ≠ s.otherLost p → (s.rankChip p rank).isSome = true →
      ∃ t, exec (.rebuild m rank) s = .next t ∧ t.rcSt p = 1 ∧ (t.rcX p).op = 6 ∧ (t.rcX p).rank = rank ∧
        (t.rcX p).rows = (List.range (t0.g * t0.w)).filter (fun r => (t0.rowUnit k r).isSome)) ∧
    ((s.rankChip p rank).isSome = false → ∃ t, exec (.rebuild m rank) s = .next t ∧ t.rcSt p = 3 ∧ t.fld .rc (Rc.RC_STATUS.sub 11 8) p = 2)) ∧
  (∀ s m, s.MayWrite m .rc → s.rcSt s.rcSel ≠ 1 →
    ∃ t, exec (.clearAbsent m) s = .next t ∧ (∀ n < 8, t.fld .rc (Rc.ABSENT n) s.rcSel = 0) ∧ (t.partX s.rcSel).lost = [] ∧ t.rcSt s.rcSel = 2) ∧
  (∀ s p, s.rcSt p = 1 → (s.rcX p).op = 5 →
    ∃ t, exec (.recoveryCmdDone p) s = .next t ∧ t.rcSt p = 2 ∧ t.mem = (s.loadRegions p).mem ∧
      t.fld .rc Rc.RC_OK_CNT p = min (s.fld .rc Rc.RC_OK_CNT p + 1) (2 ^ 32 - 1)) ∧
  (∀ s p, s.rcSt p = 1 → (s.rcX p).op = 6 → (s.rcX p).record = true → (∀ o ∈ s.outst, o.lc ≠ engLc p) →
    let t0 := s.ctOf p
    let slot := s.jobSlot p
    let a := t0.unitAddr slot (t0.stageUnit 0)
    let b := s.peekN a (64 + 48 * t0.g)
    let good : Prop := (b.getD 1 0).toNat = 1 ∧ s.slotDigests p slot = s.recDigests a ((s.ckMember p).getD 0)
    ∃ t, exec (.recoveryCmdDone p) s = .next t ∧ (good → t.rcSt p = 2 ∧ t.mem = (s.engStore (t0.unitAddr slot 0) b).mem) ∧
      (¬ good → t.rcSt p = 3 ∧ t.fld .rc (Rc.RC_STATUS.sub 11 8) p = 4 ∧ t.mem = s.mem)) ∧
  (∀ s p, s.rcSt p ≠ 1 → exec (.recoveryCmdDone p) s = .next s)

/-- Digests become votes, votes become verdicts, and every member acts on its verdict (R401–R407, Tables 14.1 and 14.2).
Choices of the model: log entries 3, 54. -/
def Obligations.ReplicasVoteAndActOnVerdicts : Prop :=
  (∀ s p i, (s.dgX p i).due = false → exec (.replicaDigestReady p i) s = .next s) ∧
  (∀ s p i b n st l me, (s.dgX p i).due = true → (s.ctOf p).sets[i]? = some ((b, n, st), l) → s.ownRank p = some me →
    (∀ r c, s.dgLeader p i = some r → r ≠ me → s.rankChip p r = some c →
      ∃ t u : State, exec (.replicaDigestReady p i) s = .next t ∧ t = u.contSend c 16 p (s.dgX p i).step [i, b, n, st, me, (s.dgX p i).own, 0] ∧
        (u.dgX p i).due = false ∧ u.out = s.out ∧ u.mem = s.mem ∧
        ∀ k < 4, u.fld .dg (Dg.DG_OWN k) (dgKey p i) = (s.dgX p i).own / 2 ^ (32 * k) % 2 ^ 32) ∧
    (s.dgLeader p i = some me → i < 8 → ((s.ctOf p).sets.take 8).findIdx? (fun e => e.1 == (b, n, st)) = some i →
      ∃ t u : State, exec (.replicaDigestReady p i) s = .next t ∧ t = u.dgVoted p i ∧ u.mem = s.mem ∧
        (u.dgX p i).votes = (s.dgX p i).votes.filter (fun v => !(v.step == (s.dgX p i).step && v.again == false && v.rank == me)) ++
          [{ step := (s.dgX p i).step, again := false, rank := me, digest := (s.dgX p i).own }])) ∧
  (∀ s p step b n st r d again,
    (((s.ctOf p).sets.take 8).findIdx? (fun e => e.1 == (b, n, st)) = none → exec (.digestVote p step b n st r d again) s = .next s) ∧
    (∀ i, ((s.ctOf p).sets.take 8).findIdx? (fun e => e.1 == (b, n, st)) = some i →
      let u := s.modDg p i (fun x => { x with
        votes := x.votes.filter (fun v => !(v.step == step && v.again == again && v.rank == r)) ++
          [{ step := step, again := again, rank := r, digest := d }] })
      exec (.digestVote p step b n st r d again) s = .next (if again then u.recheckVoted p i else u.dgVoted p i) ∧
        (again = false → (∃ q ∈ u.dgMembers p i, ∀ v ∈ (u.dgX p i).votes, v.rank = q → v.step ≠ (u.dgX p i).step ∨ v.again = true) →
          u.dgVoted p i = u))) ∧
  (∀ s p i, s.isLeader p i = true → (s.dgX p i).hold = true → (s.dgX p i).decided = false →
    let x := s.dgX p i
    let mem := s.dgMembers p i
    let l := x.votes.filter (fun v => !v.again && v.step == x.step && mem.contains v.rank)
    let n := l.length
    let held := fun d => (l.filter (fun v => v.digest == d)).length
    let missing := mem.filter (fun r => !l.any (fun v => v.rank == r))
    (x.fence + s.fld .dg (Dg.DG_TO.sub 15 0) ≤ s.tick →
      ∃ t u : State, exec (.verdictDeadline p i) s = .next t ∧
        (n < 2 → ∃ o, t = u.verdict p i 0 0 (held o) (n - held o) missing.length []) ∧
        (∀ d, 2 ≤ n → held d = n → t = u.verdict p i 1 d n 0 missing.length []) ∧
        (∀ d, 3 ≤ n → held d < n → n < 2 * held d → n - held d ≤ 8 →
          t = u.verdict p i 2 d (held d) (n - held d) missing.length ((l.filter (fun v => v.digest != d)).map (·.rank))) ∧
        (∀ d, n = 2 → held d = 1 → t = u.verdict p i 3 0 1 1 missing.length (l.map (·.rank)) ∧ (u.dgX p i).lead = true ∧ (u.dgX p i).reTick = s.tick ∧
          (u.dgX p i).reMem = l.map (·.rank)) ∧
        (3 ≤ n → (∀ d, held d < n) → (∀ d, 2 * held d ≤ n ∨ 8 < n - held d) →
          ∃ c, c < n ∧ (∃ d, held d = c) ∧ t = u.verdict p i 6 0 c (n - c) missing.length []) ∧
        (u.dgX p i).decided = true ∧ (u.dgX p i).own = x.own ∧ u.mem = s.mem) ∧
    (s.tick < x.fence + s.fld .dg (Dg.DG_TO.sub 15 0) → exec (.verdictDeadline p i) s = .next s)) ∧
  (∀ s p step i outcome maj agree dis missing ranks, outcome < 8 → outcome ≠ 4 → outcome ≠ 5 → (s.dgX p i).step = step → s.isLeader p i = false →
    (s.dgX p i).got = false →
    let sig := s.fld64 .dg Dg.DG_SIG_LO (dgKey p i)
    let named : Prop := ∃ r ∈ ranks, s.ownRank p = some r
    ∃ t, exec (.verdict p step i outcome maj agree dis missing ranks) s = .next t ∧
      t.fld .dg (Dg.DG_STATUS.sub 2 0) (dgKey p i) = outcome ∧ t.fld .dg Dg.DG_VOTES (dgKey p i) = (agree + dis * 65536) % 2 ^ 32 ∧
      t.fld .dg Dg.DG_MISSING (dgKey p i) = missing % 2 ^ 32 ∧ (∀ k < 4, t.fld .dg (Dg.DG_MAJ k) (dgKey p i) = maj / 2 ^ (32 * k) % 2 ^ 32) ∧
      t.fld .dg Dg.MISMATCH_CNT = (if outcome ≤ 1 then s.fld .dg Dg.MISMATCH_CNT else min (s.fld .dg Dg.MISMATCH_CNT + 1) (2 ^ 32 - 1)) ∧
      (t.dgX p i).got = true ∧
      ((outcome = 2 ∧ named) ∨ (outcome = 1 ∨ outcome = 2) ∧ (s.dgX p i).own ≠ maj →
        t.flag .dg Dg.DG_SUSPECT_SUSPECT = true ∧ (t.dgX p i).hold = false) ∧
      (outcome = 2 → named → t.fld .dg Dg.EXPEL_CNT = min (s.fld .dg Dg.EXPEL_CNT + 1) (2 ^ 32 - 1)) ∧
      (outcome ≠ 2 ∨ ¬ named → t.fld .dg Dg.EXPEL_CNT = s.fld .dg Dg.EXPEL_CNT) ∧
      (outcome = 0 ∨ outcome = 7 ∨ outcome = 1 ∧ (s.dgX p i).own = maj →
        (t.dgX p i).hold = false ∧ t.fld .dg Dg.DG_SUSPECT_SUSPECT = s.fld .dg Dg.DG_SUSPECT_SUSPECT) ∧
      (outcome = 2 → ¬ named → (s.dgX p i).own = maj → (t.dgX p i).hold = false ∧ t.fld .dg Dg.DG_SUSPECT_SUSPECT = s.fld .dg Dg.DG_SUSPECT_SUSPECT) ∧
      (outcome = 3 → named → (t.dgX p i).hold = (s.dgX p i).hold ∧ t.fld .dg Dg.RECHECK_CNT = min (s.fld .dg Dg.RECHECK_CNT + 1) (2 ^ 32 - 1)) ∧
      (outcome = 3 → ¬ named → (t.dgX p i).hold = false ∧ t.fld .dg Dg.RECHECK_CNT = s.fld .dg Dg.RECHECK_CNT) ∧
      (outcome = 6 → (t.dgX p i).hold = (s.dgX p i).hold ∧ t.fld .dg Dg.DG_SUSPECT_SUSPECT = s.fld .dg Dg.DG_SUSPECT_SUSPECT ∧
        (sig = 0 → t.mem = s.mem) ∧ (sig ≠ 0 → ∃ u, s.changesOnly [.page Page.dg.kind, .dgs] u ∧ t.mem = (u.signalWord sig 1 false none).1.mem))) ∧
  (∀ s p step i outcome maj agree dis missing ranks, (s.dgX p i).step ≠ step ∨ s.isLeader p i = true →
    exec (.verdict p step i outcome maj agree dis missing ranks) s = .next s) ∧
  (∀ s p step i maj agree dis missing ranks, (s.dgX p i).step = step → s.isLeader p i = false → (s.dgX p i).recheck = 1 →
    (∃ t, exec (.verdict p step i 4 maj agree dis missing ranks) s = .next t ∧ t.fld .dg (Dg.DG_STATUS.sub 2 0) (dgKey p i) = 4 ∧
      (t.dgX p i).hold = false ∧ (t.dgX p i).recheck = 0 ∧
      t.fld .dg Dg.DG_SUSPECT_SUSPECT = (if (s.dgX p i).again = (s.dgX p i).own then s.fld .dg Dg.DG_SUSPECT_SUSPECT else 1)) ∧
    (∃ t, exec (.verdict p step i 5 maj agree dis missing ranks) s = .next t ∧ t.fld .dg (Dg.DG_STATUS.sub 2 0) (dgKey p i) = 5 ∧
      (t.dgX p i).hold = false ∧ t.flag .dg Dg.DG_SUSPECT_SUSPECT = true)) ∧
  (∀ s p step i outcome maj agree dis missing ranks, outcome = 4 ∨ outcome = 5 → (s.dgX p i).step = step → s.isLeader p i = false →
    (s.dgX p i).recheck ≠ 1 →
    ∃ t, exec (.verdict p step i outcome maj agree dis missing ranks) s = .next t ∧ t.fld .dg (Dg.DG_STATUS.sub 2 0) (dgKey p i) = outcome ∧
      (t.dgX p i).hold = (s.dgX p i).hold ∧ t.fld .dg Dg.DG_SUSPECT_SUSPECT = s.fld .dg Dg.DG_SUSPECT_SUSPECT ∧
      t.fld .dg Dg.EXPEL_CNT = s.fld .dg Dg.EXPEL_CNT) ∧
  (∀ s p i, (s.dgX p i).hold = true → (s.dgX p i).got = false →
    (s.dgX p i).fence + s.fld .dg (Dg.DG_TO.sub 15 0) + 1000 ≤ s.tick →
    ∃ t, exec (.verdictTimeout p i) s = .next t ∧ t.fld .dg (Dg.DG_STATUS.sub 2 0) (dgKey p i) = 7 ∧ (t.dgX p i).hold = false) ∧
  (∀ s p i, (s.dgX p i).hold = false ∨ (s.dgX p i).got = true ∨ s.tick < (s.dgX p i).fence + s.fld .dg (Dg.DG_TO.sub 15 0) + 1000 →
    exec (.verdictTimeout p i) s = .next s) ∧
  (∀ s p i, (s.dgX p i).lead = true → (s.dgX p i).reTick + s.fld .dg Dg.DG_RECHECK_TO ≤ s.tick →
    let x := s.dgX p i
    let l := x.votes.filter (fun v => v.again && v.step == x.step && x.reMem.contains v.rank)
    ∃ t, exec (.recheckDeadline p i) s = .next t ∧ (t.dgX p i).lead = false ∧ (t.dgX p i).hold = false ∧
      (∀ a b, l = [a, b] → a.digest = b.digest → a.digest ≠ 0 → t.fld .dg (Dg.DG_STATUS.sub 2 0) (dgKey p i) = 4) ∧
      ((∀ a b, l = [a, b] → a.digest ≠ b.digest ∨ a.digest = 0) →
        t.fld .dg (Dg.DG_STATUS.sub 2 0) (dgKey p i) = 5 ∧ t.flag .dg Dg.DG_SUSPECT_SUSPECT = true)) ∧
  (∀ s p i, (s.dgX p i).lead = false ∨ s.tick < (s.dgX p i).reTick + s.fld .dg Dg.DG_RECHECK_TO → exec (.recheckDeadline p i) s = .next s) ∧
  (∀ s chip p, chip < 65536 → p < 4096 → (∃ i < 8192, bitAt (s.reg (regKey .rt 0x134 i)).toNat 28 = false) →
    ∃ t, exec (.fenceNote chip p) s = .next t ∧ t.fenced chip p = true ∧ t.mem = s.mem)

/-- Cores fall due, are freed, tested and returned or retired, and a swap that finds no step fence is forced (R409–R414, R421, Table 14.4).
Signatures are read word by word, and an acknowledged slot is free for the next one (R418, R422).
Choices of the model: log entry 3. -/
def Obligations.FieldTestsAndSignatures : Prop :=
  (∀ s d c p, d < 2 → c < 4 → p < 9 → s.ftDueTick (4 * d + c) p ≤ s.tick → s.procFailed (3 + d) = false → s.fld .ft Ft.FT_CTRL_EN = 1 → s.mod_.stby = true →
    let cl := 4 * d + c
    s.ftSt cl p ≤ 1 → (∀ q < 9, q ≠ p → s.ftSt cl q = 0) → (∀ q < 9, s.pcore cl q ≠ 2) →
    (s.pcore cl p = 1 → ∃ t, exec (.ftDue d c p) s = .next t ∧ t.pcore cl p = (if s.jackTaken cl p then 1 else 2) ∧ t.ftSt cl p = 1) ∧
    (∀ n j, s.pcore cl p = 0 → n < 8 → mapAt (s.bindMap cl) n = p → (∀ k < n, mapAt (s.bindMap cl) k ≠ p) → j < 9 → s.pcore cl j = 1 →
      (∀ q < j, s.pcore cl q ≠ 1) → s.bindPending cl = false → s.bindBusy cl = false →
      ∃ t u : State, exec (.ftDue d c p) s = .next t ∧ t = u.bindActions ∧ u.ftSt cl p = 2 ∧ u.fld (clPage cl) Cl.BIND_NEXT = mapPut (s.bindMap cl) n j ∧
        u.fld (clPage cl) Cl.BIND_CTRL_TEST_OUT = 1 ∧ (u.ftX cl p).lcore = some n ∧ u.bindMap cl = s.bindMap cl) ∧
    (s.pcore cl p = 0 → (∀ q < 9, s.pcore cl q ≠ 1) → (∃ k < 8, s.coreBusy (cl * 8 + k) = true) → (s.ftX cl p).jackNoted = false →
      ∃ t, exec (.ftDue d c p) s = .next t ∧ t.fld .ft Ft.DEFER_CNT = min (s.fld .ft Ft.DEFER_CNT + 1) (2 ^ 32 - 1) ∧ (t.ftX cl p).jackNoted = true ∧
        t.pcore cl p = 0 ∧ t.bindMap cl = s.bindMap cl)) ∧
  (∀ s d c p, s.tick < s.ftDueTick (4 * d + c) p ∨ s.fld .ft Ft.FT_CTRL_EN = 0 → exec (.ftDue d c p) s = .next s) ∧
  (∀ s m d c p, s.MayWrite m .ft → d < 2 → c < 4 → p < 9 → s.fld .ft (Ft.FT_SEL.sub 6 0) = d + 2 * c + 8 * p →
    ∃ t, exec (.ftNow m) s = .next t ∧ t.ftDueTick (4 * d + c) p = s.tick ∧
      (s.ftSt (4 * d + c) p = 0 → s.pcore (4 * d + c) p ≠ 3 → s.procFailed (3 + d) = false → t.ftSt (4 * d + c) p = 1)) ∧
  (∀ s m cl p, s.MayWrite m .ft → cl < 8 → p < 9 →
    ∃ t, exec (.ftSweep m) s = .next t ∧ t.ftDueTick cl p = s.tick ∧
      (s.ftSt cl p = 0 → s.pcore cl p ≠ 3 → s.procFailed (3 + cl / 4) = false → t.ftSt cl p = 1)) ∧
  (∀ s d c p temp, d < 2 → c < 4 → p < 9 → s.pcore (4 * d + c) p = 2 → s.ftSt (4 * d + c) p = 1 → s.procFailed (3 + d) = false →
    (s.fld .pwr Pwr.PIN_TICK + 60 ≤ s.fld .pwr Pwr.CAP_EFF → temp ≤ 850 →
      ∃ t, exec (.fieldTestStart d c p temp) s = .next t ∧ t.ftSt (4 * d + c) p = 3 ∧ t.pcore (4 * d + c) p = 2) ∧
    (s.fld .pwr Pwr.CAP_EFF < s.fld .pwr Pwr.PIN_TICK + 60 ∨ 850 < temp →
      ((s.ftX (4 * d + c) p).powNoted = true → exec (.fieldTestStart d c p temp) s = .next s) ∧
      ((s.ftX (4 * d + c) p).powNoted = false → ∃ t, exec (.fieldTestStart d c p temp) s = .next t ∧ t.ftSt (4 * d + c) p = 1 ∧
        (t.ftX (4 * d + c) p).powNoted = true ∧ t.fld .ft Ft.DEFER_CNT = min (s.fld .ft Ft.DEFER_CNT + 1) (2 ^ 32 - 1)))) ∧
  (∀ s d c p us rise, d < 2 → c < 4 → p < 9 → s.pcore (4 * d + c) p = 2 → 3 ≤ s.ftSt (4 * d + c) p → s.ftSt (4 * d + c) p ≤ 6 →
    (∃ t, exec (.fieldTestDone d c p us rise none) s = .next t ∧ t.ftSt (4 * d + c) p = 0 ∧ t.pcore (4 * d + c) p = 1 ∧
      t.fld .ft (Ft.FT_STATE.sub 4 3) (ftBank (4 * d + c) p) = 1 ∧ t.fld64 .ft Ft.FT_LAST_LO (ftBank (4 * d + c) p) = s.tick ∧
      t.ftDueTick (4 * d + c) p = (s.tick + s.ftPeriod) % 2 ^ 64 ∧ t.fld .ft Ft.FT_PASS_CNT = min (s.fld .ft Ft.FT_PASS_CNT + 1) (2 ^ 32 - 1)) ∧
    (∀ phase detail want got temp mv,
      ∃ t, exec (.fieldTestDone d c p us rise (some (phase, detail, want, got, temp, mv))) s = .next t ∧ t.ftSt (4 * d + c) p = 0 ∧
        t.pcore (4 * d + c) p = 3 ∧ t.fld .ft (Ft.FT_STATE.sub 4 3) (ftBank (4 * d + c) p) = 2 ∧
        t.fld .ft (Ft.FT_STATE.sub 7 5) (ftBank (4 * d + c) p) = phase % 8 ∧ t.fld .ft Ft.FT_FAIL_CNT = min (s.fld .ft Ft.FT_FAIL_CNT + 1) (2 ^ 32 - 1) ∧
        t.fld .sig Sig.SIG_SEQ = (s.fld .sig Sig.SIG_SEQ + 1) % 2 ^ 32)) ∧
  (∀ s d c p us rise fail, s.pcore (4 * d + c) p ≠ 2 ∨ s.ftSt (4 * d + c) p < 3 → exec (.fieldTestDone d c p us rise fail) s = .next s) ∧
  (∀ s d c p ns n, d < 2 → c < 4 → p < 9 → (s.ftX (4 * d + c) p).lcore = some n → n < 8 →
    let cl := 4 * d + c
    let lc := cl * 8 + n
    (s.ftSt cl p = 2 → s.bindPending cl = true → s.ftDueTick cl p + s.ftWindow ≤ s.tick → (s.ftX cl p).retry = 0 → s.drained lc = false →
      ∃ t, exec (.forcedSwap d c p ns) s = .next t ∧ t.ftSt cl p = 7 ∧ (t.seq lc).hold = true ∧ (t.ftX cl p).force = s.tick + 1 ∧ t.bindMap cl = s.bindMap cl) ∧
    (s.ftSt cl p = 7 → s.bindPending cl = true → s.drained lc = true →
      ∃ t u : State, exec (.forcedSwap d c p ns) s = .next t ∧ t = u.bindActions ∧ (u.seq lc).hold = false ∧ u.ftSt cl p = 1 ∧
        (s.mapValid cl (s.bindX cl).map = true → u.bindMap cl = (s.bindX cl).map % 2 ^ 32 ∧
          u.fld .ft Ft.FORCED_CNT = min (s.fld .ft Ft.FORCED_CNT + 1) (2 ^ 32 - 1) ∧ u.fld .ft Ft.FORCE_STOP_NS = ns % 2 ^ 32) ∧
        (s.mapValid cl (s.bindX cl).map = false → u.bindMap cl = s.bindMap cl ∧ u.fld .ft Ft.FORCED_CNT = s.fld .ft Ft.FORCED_CNT)) ∧
    (s.ftSt cl p ≠ 2 → s.ftSt cl p ≠ 7 → exec (.forcedSwap d c p ns) s = .next s) ∧
    (s.ftSt cl p = 7 → (s.ftX cl p).force - 1 + 200 ≤ s.tick →
      ∃ t, exec (.forcedSwapAbandon d c p) s = .next t ∧ t.ftSt cl p = 2 ∧ (t.seq lc).hold = false ∧ (t.ftX cl p).retry = s.tick + 1 ∧
        t.fld .ft Ft.FORCE_ABANDON_CNT = min (s.fld .ft Ft.FORCE_ABANDON_CNT + 1) (2 ^ 32 - 1) ∧ t.bindMap cl = s.bindMap cl) ∧
    (s.ftSt cl p = 2 → s.bindPending cl = true → 0 < (s.ftX cl p).retry → (s.ftX cl p).retry ≤ s.tick → (s.tick + 1 - (s.ftX cl p).retry) % 100 = 0 →
      ∃ t, exec (.forcedSwapRetry d c p) s = .next t ∧ t.ftSt cl p = 7 ∧ (t.seq lc).hold = true ∧ (t.ftX cl p).force = s.tick + 1) ∧
    ((s.tick + 1 - (s.ftX cl p).retry) % 100 ≠ 0 → exec (.forcedSwapRetry d c p) s = .next s)) ∧
  (∀ s d c p, s.ftSt (4 * d + c) p ≠ 7 ∨ s.tick < (s.ftX (4 * d + c) p).force - 1 + 200 → exec (.forcedSwapAbandon d c p) s = .next s) ∧
  (∀ s, s.answers .sig = true →
    let o := s.fld .sig (Sig.SIG_OFF.sub 9 0)
    let w := (((tGet s.sigs s.sigSel).item.drop o).take 4).map (BitVec.ofNat 8)
    ∃ t, exec .sigDataRead s = .next t ∧ t.out = s.out ++ [.hostRead 0 (bytesLE 4 (natLE w))] ∧
      t.fld .sig (Sig.SIG_OFF.sub 9 0) = (o + 4) % 1024 ∧ t.sigs = s.sigs ∧ t.mem = s.mem) ∧
  (∀ s m, s.MayWrite m .sig → (tGet s.sigs s.sigSel).used = true → (tGet s.sigs s.sigSel).acked = false →
    ∃ t, exec (.sigAck m) s = .next t ∧ (tGet t.sigs s.sigSel).acked = true ∧ (tGet t.sigs s.sigSel).item = (tGet s.sigs s.sigSel).item ∧
      t.fld .sig Sig.SIG_META s.sigSel = ((tGet s.sigs s.sigSel).item.length + 2048 + (tGet s.sigs s.sigSel).kind * 4096) % 2 ^ 32 ∧
      (∀ i, i ≠ s.sigSel → tGet t.sigs i = tGet s.sigs i) ∧ t.mem = s.mem) ∧
  (∀ s m, s.MayWrite m .sig → (tGet s.sigs s.sigSel).used = false ∨ (tGet s.sigs s.sigSel).acked = true →
    ∃ t, exec (.sigAck m) s = .next t ∧ t.sigs = s.sigs ∧ t.regs = s.regs)

/-- A firmware processor that does not refresh its watchdog restarts, falls back or fails, and a failed one comes back on command (R447,
R448, R452, R460, R461, R474, Table 16.2). Control passes between Punch and Judy by takeover, by revert and by command (R452, R453, Table
16.5).
Choices of the model: log entries 3, 69. -/
def Obligations.ProcessorsAndControlPass : Prop :=
  (∀ s k, k ∈ procBanks → s.procSt k = 0 ∨ s.procSt k = 3 → s.fld .fp (Fp.WD_FW.sub 9 0) k ≤ (s.proc k).idle →
    let recent := (s.proc k).strikes.filter (fun a => decide (s.tick < a + 100000))
    ∃ t, exec (.fwWatchdog k) s = .next t ∧ t.fld .fp Fp.WD_CNT k = min (s.fld .fp Fp.WD_CNT k + 1) (2 ^ 32 - 1) ∧
      (s.inProbation k = false → recent.length < 2 → k ≠ 0 → k ≠ 32 →
        t.procSt k = 1 ∧ t.fld .fp Fp.RESTART_CNT k = min (s.fld .fp Fp.RESTART_CNT k + 1) (2 ^ 32 - 1) ∧ (t.proc k).strikes = recent ++ [s.tick]) ∧
      (s.inProbation k = false → recent.length < 2 → k = 0 ∨ k = 32 → t.ccSt (k / 32) = 2 ∧ t.procSt k = 1) ∧
      (s.inProbation k = false → recent.length < 2 → k = 0 → s.ccSt 0 = 0 → s.ccSt 1 = 1 →
        t.cc.takeover = some (1, 1) ∧ t.ccSt 1 = 1) ∧
      (s.inProbation k = false → recent.length < 2 → k = 0 → s.ccSt 0 = 0 → s.ccSt 1 ≠ 0 → s.ccSt 1 ≠ 1 → s.cc.takeover = none →
        t.ccDown = true) ∧
      (s.inProbation k = false → 2 ≤ recent.length → t.procFailed k = true) ∧
      (s.inProbation k = true → t.updSt (procClass k) = 5 ∧ t.inactiveSt (procClass k) = 4 ∧ t.inProbation k = false ∧
        t.activeSlot (procClass k) = s.activeSlot (procClass k) ∧
        t.fld .upd Upd.FALLBACK_CNT (procClass k) = min (s.fld .upd Upd.FALLBACK_CNT (procClass k) + 1) (2 ^ 32 - 1))) ∧
  (∀ s k, k ∉ procBanks ∨ s.procSt k = 1 ∨ s.procSt k = 2 ∨ (s.proc k).idle < s.fld .fp (Fp.WD_FW.sub 9 0) k → exec (.fwWatchdog k) s = .next s) ∧
  (∀ s k, k ∈ procBanks → s.procSt k = 1 → procClass k ∉ s.cc.bad → s.cc.takeover = none →
    ∃ t, exec (.fwRestartDone k) s = .next t ∧ t.procSt k = 0 ∧ (5 ≤ k → k ≤ 16 → (t.nmuSt (k - 5)).failed = false)) ∧
  (∀ s k, s.procSt k ≠ 1 → exec (.fwRestartDone k) s = .next s) ∧
  (∀ s c taker, taker < 2 → s.cc.takeover = some (c, taker) → exec (.fwRestartDone (32 * (1 - taker))) s = .next s) ∧
  (∀ s, s.procSt 0 = 0 → s.ccSt 0 = 0 → s.inProbation 0 = false →
    ∃ t, exec (.fwFatalFault 0) s = .next t ∧ t.ccSt 0 = 2 ∧
      (s.ccSt 1 = 1 → t.cc.takeover = some (2, 1) ∧ t.ccSt 1 = 1) ∧ (s.ccSt 1 ≠ 0 → s.ccSt 1 ≠ 1 → s.cc.takeover = none → t.ccDown = true)) ∧
  (∀ s k, k ∈ procBanks → s.procSt k = 0 → s.inProbation k = true →
    ∃ t, exec (.fwFatalFault k) s = .next t ∧ t.updSt (procClass k) = 5 ∧ t.inactiveSt (procClass k) = 4 ∧ t.inProbation k = false) ∧
  (∀ s k, s.procSt k ≠ 0 → exec (.fwFatalFault k) s = .next s) ∧
  (∀ s m, s.MayWrite m .fp →
    let v := s.fld .fp (Fp.FP_SEL.sub 5 0)
    let k := if v = 0 ∨ v = 32 then v else v % 32
    (k ≤ 16 ∨ k = 32) →
    (s.procFailed k = true → k ≠ 0 → k ≠ 32 →
      ∃ t, exec (.fpRestart m) s = .next t ∧ (t.proc k).strikes = [] ∧ (s.ccDown = false → t.procSt k = 1) ∧
        (s.ccDown = true → t.procFailed k = true ∧ (t.proc k).restartDue = true)) ∧
    (s.procFailed k = true → k = 0 ∨ k = 32 → ∃ t, exec (.fpRestart m) s = .next t ∧ t.ccSt (k / 32) = 2 ∧ t.procSt k = 1) ∧
    (s.procFailed k = false → ∃ t, exec (.fpRestart m) s = .next t ∧ bitAt (t.fld .fp Hd.ERR_STAT) 0 = true ∧ t.procSt k = s.procSt k ∧
      t.procs = s.procs)) ∧
  (∀ s c taker ns, taker < 2 → s.cc.takeover = some (c, taker) →
    ∃ t, exec (.takeoverDone ns) s = .next t ∧ t.ccSt taker = 0 ∧ t.cc.takeover = none ∧ t.fld .cc (Cc.LAST_TAKEOVER.sub 1 0) = c % 4 ∧
      t.fld .cc Cc.TAKEOVER_NS = ns % 2 ^ 32 ∧ t.fld .cc Cc.TAKEOVER_CNT = min (s.fld .cc Cc.TAKEOVER_CNT + 1) (2 ^ 32 - 1) ∧
      ∀ n, (s.mboxAt n).posted = true → (s.mboxAt n).answered = false → (s.mboxAt n).h.target = 0 → t.Answered n 6 []) ∧
  (∀ s ns, s.cc.takeover = none → exec (.takeoverDone ns) s = .next s) ∧
  (∀ s, s.ccSt 0 = 1 → s.ccSt 1 = 0 → s.cc.takeover = none → s.fld .cc Cc.REVERT_HOLD ≤ (s.proc 0).held →
    (s.updBusy 0 = false → ∃ t, exec .revertHoldMet s = .next t ∧ t.ccSt 0 = 0 ∧ t.ccSt 1 = 2 ∧ t.procSt 32 = 1 ∧
      t.fld .cc Cc.HANDOVER_CNT = min (s.fld .cc Cc.HANDOVER_CNT + 1) (2 ^ 32 - 1) ∧
      ∀ n, (s.mboxAt n).h.target = 0 → t.mboxAt n = s.mboxAt n) ∧
    (s.updSt 0 = 2 → s.updStep 0 = 3 → ∃ t, exec .revertHoldMet s = .next t ∧ t.ccSt 0 = 0 ∧ t.ccSt 1 = 2 ∧ t.updSt 0 = 3 ∧ t.updStep 0 = 4 ∧
      t.inProbation 0 = true ∧ t.fld .upd Upd.PROB_LEFT 0 = 1000000 ∧ (tGet t.upds 0).start = s.tick) ∧
    (s.updBusy 0 = true → s.updStep 0 ≠ 3 → exec .revertHoldMet s = .next s)) ∧
  (∀ s, s.ccSt 0 ≠ 1 ∨ s.ccSt 1 ≠ 0 ∨ (s.proc 0).held < s.fld .cc Cc.REVERT_HOLD ∨ s.cc.takeover ≠ none → exec .revertHoldMet s = .next s) ∧
  (∀ s m, s.MayWrite m .cc →
    (s.ccSt 1 = 1 → ∃ t, exec (.failover m) s = .next t ∧ t.fld .cc (Cc.CC_CMD.sub 0 0) = 1 ∧ t.ccSt 0 = s.ccSt 0 ∧ t.ccSt 1 = 1) ∧
    (s.ccSt 1 ≠ 1 → ∃ t, exec (.failover m) s = .next t ∧ bitAt (t.fld .cc Hd.ERR_STAT) 0 = true ∧
      t.fld .cc (Cc.CC_CMD.sub 0 0) = s.fld .cc (Cc.CC_CMD.sub 0 0) ∧ t.ccSt 1 = s.ccSt 1))

/-- A request is dropped, waits, or is answered before its target considers it, as R452, R454, R456, R457 and R480 say.
Choices of the model: log entries 3, 67. -/
def Obligations.MailboxesFrontTheirRequests : Prop :=
  ∀ s m n h cls off data img H tok part ek nonce b phase idx mask ranges tag addr key, n < 32 →
    ∀ e ∈ ([(.getVersion m n h, 1), (.getHealth m n h, 2), (.fwStage m n h cls off data, 0x10), (.fwVerify m n h cls img, 0x11),
      (.fwActivate m n h cls H, 0x12), (.fwAbort m n h cls, 0x13), (.fbClear m n h tok, 0x30), (.attRequest m n h part ek nonce, 0x100),
      (.keyGrant m n h b, 0x101), (.keyInstall m n h part phase idx, 0x102), (.sealPart m n h part mask ranges tag, 0x103), (.sealLoad m n h addr, 0x104),
      (.tokenChallenge m n h, 0x105), (.svnCommit m n h tok, 0x106), (.ownerSet m n h tok, 0x106), (.debugUnlock m n h tok, 0x106), (.rma m n h tok, 0x106),
      (.ownerKey m n h key, 0x107)] : List (Instr × Nat)),
      let down : Prop := h.target = 0 ∧ s.ccDown = true ∧ s.inRecovery = false
      let absent : Prop := 16 < h.target ∨ h.target ≠ 0 ∧ s.procFailed h.target = true
      let restarting : Prop := h.target ≠ 0 ∧ s.procSt h.target = 1
      (s.mod_.stby = false → exec e.1 s = .next s) ∧
      (s.mod_.stby = true → ¬ ownBox m n ∨ ¬ s.boxOpen n e.2 ∨ ¬ s.boxIdle n ∧ ¬ s.boxHolds n e.2 h → exec e.1 s = .next (s.event 0xB130)) ∧
      (s.Posts m n e.2 h →
        ∃ t, exec e.1 s = .next t ∧ (t.mboxAt n).posted = true ∧
          (¬ absent → ¬ down → h.taken = false → (t.mboxAt n).answered = false ∧ t.out = s.out ∧ t.regs = s.regs) ∧
          (absent → t.Answered n 3 [] ∧ t.regs = s.regs) ∧
          (down → t.Answered n 7 [] ∧ t.regs = s.regs) ∧
          (¬ absent → ¬ down → h.taken = true → restarting → t.Answered n 5 [] ∧ t.regs = s.regs) ∧
          (¬ absent → ¬ down → h.taken = true → ¬ restarting → h.major ≠ 1 → t.Answered n 1 [] ∧ t.regs = s.regs) ∧
          (¬ absent → ¬ down → h.taken = true → ¬ restarting → h.major = 1 → opKnown e.2 h.target = false → t.Answered n 2 [] ∧ t.regs = s.regs) ∧
          (¬ absent → ¬ down → h.taken = true → ¬ restarting → h.major = 1 → opKnown e.2 h.target = true → h.lenOk = false →
            t.Answered n 4 [] ∧ t.regs = s.regs))

/-- Images are reported, staged, verified, activated, taken back, put in probation and committed (R456, R458–R461, Tables 16.9 and 16.10).
Choices of the model: log entries 3, 70. -/
def Obligations.FirmwareIsStagedVerifiedAndActivated : Prop :=
  (∀ s m n h, n < 32 → s.Considers m n 1 h →
    let k := if h.target = 0 then 32 * s.ccActive?.getD 0 else h.target
    ∃ t, exec (.getVersion m n h) s = .next t ∧ t.regs = s.regs ∧
      t.Answered n 0 (bytesLE 1 (procClass k) ++ bytesLE 4 (s.fld .fp Fp.FP_VERSION k) ++ bytesLE 32 (s.runImg k).digest ++ [1, 0])) ∧
  (∀ s m n h, n < 32 → s.Considers m n 2 h → ∃ t, exec (.getHealth m n h) s = .next t ∧ t.regs = s.regs ∧
      t.Answered n 0 (bytesLE 4 (s.fld .cc Cc.HEALTH_P) ++ bytesLE 4 (s.fld .cc Cc.HEALTH_J) ++ bytesLE 4 (s.fld .cc Cc.CC_STATUS))) ∧
  (∀ s m n h cls off data, n < 32 → s.Considers m n 0x10 h →
    let allowed : Prop := s.updBusy cls = false ∧ (s.inRecovery = true → cls ∈ s.cc.bad)
    ∃ t, exec (.fwStage m n h cls off data) s = .next t ∧
      (4 < cls ∨ off % 4096 ≠ 0 → t.Answered n 10 [] ∧ t.flash = s.flash) ∧
      (cls ≤ 4 → off % 4096 = 0 → ¬ allowed → t.Answered n 9 [] ∧ t.flash = s.flash) ∧
      (cls ≤ 4 → off % 4096 = 0 → allowed → t.Answered n 0 [] ∧ t.inactiveSt cls = 1 ∧ t.flash.images = s.flash.images ∧ t.flash.active = s.flash.active ∧
        smGet (fun _ => []) t.flash.chunks ((2 * cls + (1 - s.activeSlot cls)) * 2 ^ 32 + off) = data)) ∧
  (∀ s m n h cls img, n < 32 → s.Considers m n 0x11 h →
    let good : Prop := s.inactiveSt cls ≠ 0 ∧ img.chainOk = true ∧ img.sigOk = true ∧ img.cls = cls ∧ smGet (fun _ => 0) s.flash.svnMin cls ≤ img.svn
    ∃ t, exec (.fwVerify m n h cls img) s = .next t ∧ t.flash.active = s.flash.active ∧
      (4 < cls → t.Answered n 10 [] ∧ t.flash = s.flash) ∧
      (cls ≤ 4 → s.inRecovery = true → cls ∉ s.cc.bad → t.Answered n 9 [] ∧ t.flash = s.flash) ∧
      (cls ≤ 4 → (s.inRecovery = true → cls ∈ s.cc.bad) → ¬ good → t.Answered n 8 [] ∧ t.inactiveSt cls = 3 ∧ t.flash.images = s.flash.images) ∧
      (cls ≤ 4 → (s.inRecovery = true → cls ∈ s.cc.bad) → good → t.inactiveSt cls = 2 ∧ t.image_ cls (1 - s.activeSlot cls) = img ∧
        t.Answered n 0 (bytesLE 4 (img.version % 2 ^ 24 + cls * 2 ^ 24) ++ bytesLE 32 img.digest))) ∧
  (∀ s m n h cls H, n < 32 → s.Considers m n 0x12 h →
    let new := s.image_ cls (1 - s.activeSlot cls)
    let run := s.image_ cls (s.activeSlot cls)
    let good : Prop := s.inactiveSt cls = 2 ∧ s.tick + 100 ≤ H ∧ (∀ c ≤ 4, s.updBusy c = false) ∧ run.writes ∈ new.canRead ∧
      (∃ v ∈ run.canRead, v ∈ new.canWrite) ∧ (∀ k ∈ procBanks, procClass k = cls → s.procFailed k = false) ∧ (cls = 0 → s.ccSt 1 = 1)
    ∃ t u : State, exec (.fwActivate m n h cls H) s = .next t ∧
      (4 < cls → t.Answered n 10 [] ∧ t.regs = s.regs) ∧
      (cls ≤ 4 → s.inRecovery = false → ¬ good → t.Answered n 9 [] ∧ t.updSt cls = s.updSt cls ∧ t.flash = s.flash) ∧
      (cls ≤ 4 → s.inRecovery = false → good → (cls = 0 → s.ccSt 0 = 0) →
        t.Answered n 0 [] ∧ t.updSt cls = 1 ∧ t.fld64 .upd Upd.UPD_H_LO cls = H % 2 ^ 64 ∧ t.flash = s.flash ∧ (cls = 0 → t.ccSt 1 = 2 ∧ t.procSt 32 = 1)) ∧
      (cls ≤ 4 → s.inRecovery = true → cls ∈ s.cc.bad → s.inactiveSt cls = 2 →
        t = u.boot.mboxAnswer n 0 [] ∧ u.activeSlot cls = 1 - s.activeSlot cls) ∧
      (cls ≤ 4 → s.inRecovery = true → cls ∉ s.cc.bad ∨ s.inactiveSt cls ≠ 2 → t.Answered n 9 [] ∧ t.flash = s.flash)) ∧
  (∀ s m n h cls, n < 32 → s.Considers m n 0x13 h →
    let early : Prop := s.updSt cls = 1 ∧ s.tick < s.fld64 .upd Upd.UPD_H_LO cls
    ∃ t, exec (.fwAbort m n h cls) s = .next t ∧
      (4 < cls → t.Answered n 10 [] ∧ t.regs = s.regs) ∧
      (cls ≤ 4 → early → (cls = 0 → s.ccSt 0 = 0) → t.Answered n 0 [] ∧ t.updSt cls = 0 ∧ (cls = 0 → t.ccSt 1 = 2)) ∧
      (cls ≤ 4 → ¬ early → t.Answered n 0 [] ∧ t.regs = s.regs)) ∧
  (∀ s cls, cls ≤ 4 → s.updSt cls = 1 → s.fld64 .upd Upd.UPD_H_LO cls < s.tick →
    (cls ≠ 0 → ∃ t, exec (.fwHandover cls) s = .next t ∧ t.updSt cls = 3 ∧ t.fld .upd Upd.PROB_LEFT cls = 1000000 ∧ (tGet t.upds cls).start = s.tick ∧
      ∀ k ∈ procBanks, procClass k = cls → t.inProbation k = true ∧ t.fld .fp (Fp.FP_STATUS.sub 3 3) k = (1 - s.activeSlot cls) % 2) ∧
    (cls = 0 → s.ccSt 0 = 0 → s.ccSt 1 = 1 → ∃ t, exec (.fwHandover cls) s = .next t ∧ t.updSt 0 = 3 ∧ t.updStep 0 = 2 ∧ t.ccSt 0 = 1 ∧ t.ccSt 1 = 0 ∧
      t.inProbation 32 = true ∧ t.inProbation 0 = s.inProbation 0) ∧
    (cls = 0 → s.ccSt 0 ≠ 0 ∨ s.ccSt 1 ≠ 1 → ∃ t, exec (.fwHandover cls) s = .next t ∧ t.updSt 0 = 5 ∧ t.inactiveSt 0 = 4)) ∧
  (∀ s cls, s.updSt cls ≠ 1 ∨ s.tick ≤ s.fld64 .upd Upd.UPD_H_LO cls → exec (.fwHandover cls) s = .next s) ∧
  (∀ s cls, cls ≤ 4 → s.updSt cls = 3 → (tGet s.upds cls).start + 1000000 ≤ s.tick →
    (cls = 0 → s.updStep 0 = 2 → ∃ t, exec (.fwProbationEnd cls) s = .next t ∧ t.updSt 0 = 2 ∧ t.updStep 0 = 3 ∧ t.inProbation 32 = false ∧ t.ccSt 0 = 2 ∧
      t.procSt 0 = 1 ∧ t.flash = s.flash) ∧
    ((cls = 0 → s.updStep 0 ≠ 2) →
      ∃ t, exec (.fwProbationEnd cls) s = .next t ∧ t.updSt cls = 4 ∧ t.activeSlot cls = 1 - s.activeSlot cls ∧ t.inactiveSt cls = 2 ∧
        t.fld .upd Upd.UPD_CNT cls = min (s.fld .upd Upd.UPD_CNT cls + 1) (2 ^ 32 - 1) ∧ (∀ k ∈ procBanks, procClass k = cls → t.inProbation k = false))) ∧
  (∀ s cls, s.updSt cls ≠ 3 ∨ s.tick < (tGet s.upds cls).start + 1000000 → exec (.fwProbationEnd cls) s = .next s)

/-- A read of REC_W_0 latches the record that the cursor names in the selected area into the window, a read of REC_W_15 moves the cursor on, and a
cursor that names no record held latches a window that says so, and whether the record has been overwritten (R467). -/
def Obligations.FlipbookWindowShowsOneRecord : Prop :=
  (∀ s m, s.answers .flip = true →
    let cur := s.fld64 .flip Rec.REC_CURSOR_LO
    let latched := fun (t : State) (r : FlipRec) => ∀ i < 16, t.fld .flip (Rec.REC_W i) = natLE ((r.bytes.drop (4 * i)).take 4)
    ∃ t, exec (.recW0Read m) s = .next t ∧ t.flip = s.flip ∧ t.fld64 .flip Rec.REC_CURSOR_LO = cur ∧
      t.out = s.out ++ (if m = .host then [.hostRead 0 (bytesLE 4 (t.fld .flip (Rec.REC_W 0)))] else []) ∧
      (s.fld .flip Rec.REC_CTRL_AREA = 0 → (tGet s.flip.circ (cur % 4096)).seq = cur → (∃ e ∈ s.flip.circ, e.1 = cur % 4096 ∧ e.2.seq = cur) →
        t.fld .flip Rec.REC_WIN_STATUS = 1 ∧ latched t (tGet s.flip.circ (cur % 4096))) ∧
      (s.fld .flip Rec.REC_CTRL_AREA = 0 → (∀ e ∈ s.flip.circ, e.1 = cur % 4096 → e.2.seq ≠ cur) →
        t.fld .flip Rec.REC_WIN_STATUS = (if s.flip.circ.any (fun e => e.1 == cur % 4096 && decide (cur < e.2.seq)) then 2 else 0) ∧
          ∀ i < 16, t.fld .flip (Rec.REC_W i) = 0) ∧
      (s.fld .flip Rec.REC_CTRL_AREA = 1 → cur < s.flip.kept.length → t.fld .flip Rec.REC_WIN_STATUS = 1 ∧ latched t (tGet s.flip.kept cur)) ∧
      (s.fld .flip Rec.REC_CTRL_AREA = 1 → s.flip.kept.length ≤ cur → t.fld .flip Rec.REC_WIN_STATUS = 0 ∧ ∀ i < 16, t.fld .flip (Rec.REC_W i) = 0)) ∧
  (∀ s m, s.answers .flip = true →
    ∃ t, exec (.recW15Read m) s = .next t ∧ t.flip = s.flip ∧ t.fld64 .flip Rec.REC_CURSOR_LO = (s.fld64 .flip Rec.REC_CURSOR_LO + 1) % 2 ^ 64 ∧
      t.out = s.out ++ (if m = .host then [.hostRead 0 (bytesLE 4 (s.fld .flip (Rec.REC_W 15)))] else []))

/-- The Flip-book is frozen, thawed and cleared (R468, R469, R476).
Choices of the model: log entries 3, 72. -/
def Obligations.FlipbookIsFrozenAndCleared : Prop :=
  (∀ s m area, s.MayWrite m .flip →
    ∃ t, exec (.freeze m area) s = .next t ∧ t.fld .flip Rec.REC_CTRL_AREA = area % 2 ∧ t.fld .flip (Rec.REC_STATUS.sub 0 0) = 1 ∧
      t.flip.kept = s.flip.kept ∧ t.flip.circ = s.flip.circ ∧
      (s.fld .flip (Rec.REC_STATUS.sub 0 0) = 0 → t.flip.freezeTick = s.tick ∧ t.flip.gapCnt = 0 ∧ t.fld .flip Rec.REC_CTRL_FREEZE = 1) ∧
      (s.fld .flip (Rec.REC_STATUS.sub 0 0) = 1 → t.flip = s.flip)) ∧
  (∀ s m area, s.MayWrite m .flip →
    ∃ t, exec (.thaw m area) s = .next t ∧ t.fld .flip Rec.REC_CTRL_AREA = area % 2 ∧ t.fld .flip (Rec.REC_STATUS.sub 0 0) = 0 ∧
      (s.fld .flip (Rec.REC_STATUS.sub 0 0) = 0 → t.flip = s.flip) ∧
      (s.fld .flip (Rec.REC_STATUS.sub 0 0) = 1 → t.flip.gapDue = false ∧ t.fld .flip Rec.REC_CTRL_FREEZE = 0 ∧ t.flip.lostSince = 0)) ∧
  (∀ s, s.fld .flip (Rec.REC_STATUS.sub 0 0) = 1 → s.flip.freezeTick + s.fld .flip Rec.FREEZE_MAX ≤ s.tick →
    ∃ t, exec .freezeMaxExpiry s = .next t ∧ t.fld .flip (Rec.REC_STATUS.sub 0 0) = 0 ∧ t.fld .flip Rec.REC_CTRL_FREEZE = 0) ∧
  (∀ s, s.fld .flip (Rec.REC_STATUS.sub 0 0) = 0 ∨ s.tick < s.flip.freezeTick + s.fld .flip Rec.FREEZE_MAX → exec .freezeMaxExpiry s = .next s) ∧
  (∀ s m n h tok, n < 32 → s.Considers m n 0x30 h →
    ∃ t, exec (.fbClear m n h tok) s = .next t ∧
      (s.procFailed 1 = true → t.Answered n 3 [] ∧ t.flip = s.flip) ∧
      (s.procSt 1 = 1 → t.Answered n 5 [] ∧ t.flip = s.flip) ∧
      (s.procFailed 1 = false → s.procSt 1 ≠ 1 → s.fld .flip (Rec.REC_STATUS.sub 0 0) = 1 → t.Answered n 9 [] ∧ t.flip = s.flip) ∧
      (s.procFailed 1 = false → s.procSt 1 ≠ 1 → s.fld .flip (Rec.REC_STATUS.sub 0 0) = 0 → s.tokenOk 1 tok = false →
        t.Answered n 8 [] ∧ t.sec.chal = none ∧ t.fld .sec Sec.TOKEN_REJ_CNT = min (s.fld .sec Sec.TOKEN_REJ_CNT + 1) (2 ^ 32 - 1)) ∧
      (s.procFailed 1 = false → s.procSt 1 ≠ 1 → s.fld .flip (Rec.REC_STATUS.sub 0 0) = 0 → s.tokenOk 1 tok = true →
        t.Answered n 0 [] ∧ t.sec.chal = none ∧ (∃ r, t.flip.kept = [(0, r)] ∧ r.code = 0x0102) ∧
          t.fld .flip Rec.CLEAR_CNT = min (s.fld .flip Rec.CLEAR_CNT + 1) (2 ^ 32 - 1)))

/-- Attestation reports and encapsulation keys: what a report says, how it is read, and how a key comes and goes (R483, R498, Table 17.1).
Job keys are granted once and link keys installed under the rules of R484 and R486.
Choices of the model: log entries 3, 73, 74, 75. -/
def Obligations.ReportsAndJobKeys : Prop :=
  (∀ s m n h part ek nonce, n < 32 → s.Considers m n 0x100 h →
    let mayEk : Prop := part = 0 ∨ 1 ≤ s.partState part ∧ s.partState part ≤ 3
    ∃ t, exec (.attRequest m n h part ek nonce) s = .next t ∧
      (4096 ≤ part → t.Answered n 10 [] ∧ t.sec = s.sec ∧ t.decap = s.decap) ∧
      (part < 4096 → ek = true → ¬ mayEk → t.Answered n 9 [] ∧ t.sec = s.sec ∧ t.decap = s.decap) ∧
      (part < 4096 → ek = false ∨ mayEk → t.Answered n 0 (bytesLE 4 5725 ++ bytesLE 8 s.tick) ∧ t.fld .sec (Sec.ATT_LEN.sub 15 0) = 5725) ∧
      (part < 4096 → ek = false →
        let body := s.attBody part nonce []
        t.sec.report = body ++ bytesLE 3309 (Config.mlDsaSign s.idSeed (shake256 body 64)).toNat ∧ t.sec.report.length = 5725 ∧ t.decap = s.decap ∧
          (nonce.length = 32 → (body.drop 0x20).take 32 = nonce) ∧ (body.drop 0x40).take 32 = s.idDigest ∧
          (body.drop 0x18).take 2 = bytesLE 2 part ∧ (body.drop 0x10).take 8 = bytesLE 8 s.tick) ∧
      (part < 4096 → ek = true → mayEk →
        t.decap = s.decap.filter (fun e => e.part != part) ++ [{ num := s.fresh, part := part, tick := s.tick }] ∧
          bitAt (t.fld .sec Sec.KEY_STATE part) 1 = true)) ∧
  (∀ s m, s.answers .sec = true →
    let o := s.fld .sec (Sec.ATT_OFF.sub 12 0)
    let w := (List.range 4).map (fun i => s.sec.report.getD (o + i) (Config.attBeyond (o + i)))
    ∃ t, exec (.attDataRead m) s = .next t ∧ t.fld .sec (Sec.ATT_OFF.sub 12 0) = (o + 4) % 8192 ∧ t.fld .sec Sec.ATT_DATA = natLE w ∧
      t.sec = s.sec ∧ t.out = s.out ++ (if m = .host then [.hostRead 0 (bytesLE 4 (natLE w))] else [])) ∧
  (∀ s part,
    ((∃ e ∈ s.decap, e.part = part ∧ e.tick + 6000000 ≤ s.tick) →
      ∃ t, exec (.ekExpiry part) s = .next t ∧ t.decap = s.decap.filter (fun e => e.part != part) ∧ bitAt (t.fld .sec Sec.KEY_STATE part) 1 = false) ∧
    ((∀ e ∈ s.decap, e.part = part → s.tick < e.tick + 6000000) → exec (.ekExpiry part) s = .next s)) ∧
  (∀ s m n h b, n < 32 → s.Considers m n 0x101 h →
    let part := natLE (b.take 2)
    let boot := natLE ((b.drop 4).take 4)
    let rejected := fun (t : State) (st : Nat) => t.Answered n st [] ∧ t.jobKeys = s.jobKeys ∧
      t.fld .sec Sec.GRANT_REJ_CNT = min (s.fld .sec Sec.GRANT_REJ_CNT + 1) (2 ^ 32 - 1)
    ∃ t, exec (.keyGrant m n h b) s = .next t ∧
      ((∀ e ∈ s.decap, e.part ≠ part) → rejected t 9) ∧
      (∀ d, s.decap.find? (fun e => e.part == part) = some d →
        t.decap = s.decap.filter (fun e => e.part != part) ∧
        (boot ≠ s.fld .sec Sec.BOOT_CNT → rejected t 9) ∧
        (boot = s.fld .sec Sec.BOOT_CNT → s.grantKey d b = none → rejected t 8) ∧
        (∀ k, boot = s.fld .sec Sec.BOOT_CNT → s.grantKey d b = some k → (tGet s.jobKeys part).key ≠ [] → rejected t 9) ∧
        (∀ k, boot = s.fld .sec Sec.BOOT_CNT → s.grantKey d b = some k → (tGet s.jobKeys part).key = [] →
          t.Answered n 0 [] ∧ tGet t.jobKeys part = { key := k } ∧ (∀ p, p ≠ part → tGet t.jobKeys p = tGet s.jobKeys p)))) ∧
  (∀ s m n h part phase idx, n < 32 → s.Considers m n 0x102 h →
    let j := tGet s.jobKeys part
    let inRange : Prop := part < 4096 ∧ phase < 2 ∧ idx < 2 ^ 32
    let armed : Prop := s.fld .ep (Ep.EP_STATUS.sub 0 0) part = 1 ∧ s.shFld (.cry 0) (Cry.TX_PHASE.sub 0 0) (keyBank part 0) = phase
    let good : Prop := j.key ≠ [] ∧ s.txPhase part ≠ phase ∧ ¬ armed ∧ ∀ i, j.index = some i → i < idx
    ∃ t, exec (.keyInstall m n h part phase idx) s = .next t ∧
      (¬ inRange → t.Answered n 10 [] ∧ t.keys = s.keys ∧ t.jobKeys = s.jobKeys) ∧
      (inRange → ¬ good → t.Answered n 9 [] ∧ t.keys = s.keys ∧ t.jobKeys = s.jobKeys) ∧
      (inRange → good → t.Answered n 0 [] ∧ (keyBank part phase, natLE (deriveKey j.key "NYM-LINK" (bytesLE 2 part ++ bytesLE 4 idx))) ∈ t.keys ∧
        t.fld (.cry 0) Cry.KEY_STATUS (keyBank part phase) = 1 ∧ t.fld64 (.cry 0) Cry.NCTR_LO (keyBank part phase) = 0 ∧
        t.fld64 (.cry 0) Cry.NCTR_LO (keyBank part phase + 16384) = 0 ∧
        (tGet t.jobKeys part).index = some idx ∧ (tGet t.jobKeys part).key = j.key ∧ t.fld .sec Sec.KEY_IDX_MAX part = idx))

/-- Partitions are sealed, filled, loaded and cleared (R489, R490, R492).
Choices of the model: log entries 3, 74. -/
def Obligations.PartitionsAreSealedLoadedAndCleared : Prop :=
  (∀ s m n h part mask ranges tag, n < 32 → s.Considers m n 0x103 h →
    let key := deriveKey (tGet s.jobKeys part).key "NYM-SEAL" (bytesLE 2 part)
    let rs := ranges.map (fun r => (gaOff r.1, r.2 * 4096))
    let wellFormed : Prop := 1 ≤ ranges.length ∧ ranges.length ≤ 64 ∧ mask < 256 ∧
      ∀ r ∈ ranges, gaSpace r.1 = 0 ∧ gaChip r.1 = s.chip ∧ r.1 % 4096 = 0 ∧ 1 ≤ r.2 ∧ s.populated r.1 = true ∧ s.populated (r.1 + (r.2 - 1) * 4096) = true
    let good : Prop := s.partState part = 1 ∧ (s.sealOf part).closed = false ∧ (tGet s.jobKeys part).key ≠ [] ∧
      tag = shake256 (key ++ sealPayload part mask ranges) 32 ∧ s.flash.lifecycle = 2 ∧ s.flag .sec Sec.SEC_STATUS_DEBUG_OPEN = false ∧
      s.flag .sec Sec.SEC_STATUS_DEBUG_OPENED = false ∧
      (∀ e ∈ s.seals, e.1 ≠ part → e.2.closed = true → ∀ a ∈ e.2.ranges, ∀ b ∈ rs, overlap a b = false) ∧ s.clusterTaken part mask = false
    ∃ t, exec (.sealPart m n h part mask ranges tag) s = .next t ∧ t.mem = s.mem ∧
      (¬ wellFormed → t.Answered n 10 [] ∧ t.seals = s.seals) ∧
      (wellFormed → ¬ good → t.Answered n 9 [] ∧ t.seals = s.seals) ∧
      (wellFormed → good → t.sealOf part = { st := 1, mask := mask, ranges := rs } ∧ (t.mboxAt n).answered = false ∧
        smGet (fun _ => 0) t.sec.filling part = n + 1)) ∧
  (∀ s p, (s.sealOf p).st = 1 →
    ∃ t, exec (.sealFillDone p) s = .next t ∧ t.sealOf p = { s.sealOf p with st := 2 } ∧ bitAt (t.fld .sec Sec.KEY_STATE p) 2 = true ∧
      ((∀ k u, s.unitSt k u ≠ 1) → (∀ k l, (s.stk k).holds l = false) → (∀ k, s.stackUp k = true) →
        ∀ r ∈ (s.sealOf p).ranges, r.1 % 64 = 0 → r.1 + r.2 ≤ 2 ^ 44 → ∀ i < r.2 / 4096 * 4096, ∀ k, s.memKey (r.1 + i) = some k → t.byte k = 0) ∧
      (∀ cl < 8, bitAt (s.sealOf p).mask cl = true → ∀ i < clusterSpan, t.byte (sramKey (cl * clusterSpan + i)) = 0) ∧
      (∀ n, smGet (fun _ => 0) s.sec.filling p = n + 1 → (s.mboxAt n).posted = true → (s.mboxAt n).answered = false → t.Answered n 0 [])) ∧
  (∀ s p, (s.sealOf p).st ≠ 1 → exec (.sealFillDone p) s = .next s) ∧
  (∀ s m n h addr, n < 32 → s.Considers m n 0x104 h →
    let p := (s.mboxPost m n 0x104 h).1
    (gaSpace addr ≠ 0 ∨ gaChip addr ≠ s.chip ∨ s.sealedAddr addr = true →
      ∃ t, exec (.sealLoad m n h addr) s = .next t ∧ t.Answered n 10 [] ∧ t.mem = s.mem ∧ t.jobKeys = s.jobKeys) ∧
    (∀ u hd, gaSpace addr = 0 → gaChip addr = s.chip → s.sealedAddr addr = false → p.readMem addr 64 none = (u, some hd) →
      let part := natLE (hd.take 2)
      let cnt := natLE ((hd.drop 8).take 8)
      let target := natLE ((hd.drop 16).take 8)
      let len := natLE ((hd.drop 24).take 8)
      let j := tGet s.jobKeys part
      let shaped : Prop := len % 64 = 0 ∧ 0 < len ∧ len ≤ 2 ^ 30 ∧ ∀ i ≤ (len + 80) / 64, s.sealedAddr (addr + 64 * i) = false
      let allowed : Prop := j.key ≠ [] ∧ target % 64 = 0 ∧ s.loadInside part target len = true ∧ ∀ c, j.loadCnt = some c → c < cnt
      ∃ t, exec (.sealLoad m n h addr) s = .next t ∧
        (¬ shaped → t.Answered n 10 [] ∧ t.mem = s.mem) ∧
        (shaped → ¬ allowed → t.Answered n 9 [] ∧ t.mem = s.mem ∧ t.jobKeys = s.jobKeys) ∧
        (∀ v b, shaped → allowed → u.readMem (addr + 64) (len + 16) none = (v, some b) →
          let opened := gcmOpen (deriveKey j.key "NYM-LOAD" (bytesLE 2 part)) (bytesLE 8 cnt ++ bytesLE 4 0) hd (b.take len) (b.drop len)
          (opened = none → t.Answered n 8 [] ∧ t.mem = s.mem ∧ t.jobKeys = s.jobKeys) ∧
          (∀ pt, opened = some pt → t.Answered n 0 (bytesLE 8 len) ∧ t.mem = (v.engStore target pt).mem ∧ t.lines = (v.engStore target pt).lines ∧
            (tGet t.jobKeys part).loadCnt = some cnt)))) ∧
  (∀ s p, (s.sealOf p).st = 3 →
    ∃ t, exec (.sealedClearDone p) s = .next t ∧ (t.sealOf p).st = 0 ∧
      ((∀ k u, s.unitSt k u ≠ 1) → (∀ k l, (s.stk k).holds l = false) → (∀ k, s.stackUp k = true) →
        ∀ r ∈ (s.sealOf p).ranges, r.1 % 64 = 0 → r.1 + r.2 ≤ 2 ^ 44 → ∀ i < r.2 / 4096 * 4096, ∀ k, s.memKey (r.1 + i) = some k → t.byte k = 0) ∧
      (s.partState p = 5 → s.linesHeld = [] → t.partState p = 0 ∧ (∀ e ∈ t.jobKeys, e.1 ≠ p) ∧ (∀ e ∈ t.decap, e.part ≠ p))) ∧
  (∀ s p, (s.sealOf p).st ≠ 3 → exec (.sealedClearDone p) s = .next s)

/-- Tokens are challenged, spent and obeyed (R481, R493–R495, Table 17.6).
Choices of the model: log entries 72, 73. -/
def Obligations.TokensAreSpentAndObeyed : Prop :=
  (∀ s m n h, n < 32 → s.Considers m n 0x105 h →
    ∃ t, exec (.tokenChallenge m n h) s = .next t ∧ t.sec.chal = some (bytesLE 32 (Config.random32 s.fresh).toNat, s.tick) ∧ t.fresh = s.fresh + 1 ∧
      t.Answered n 0 (bytesLE 32 (Config.random32 s.fresh).toNat) ∧ t.regs = s.regs) ∧
  (∀ s m n h tok, n < 32 → s.Considers m n 0x106 h →
    (∀ e ∈ ([(.svnCommit m n h tok, 2), (.ownerSet m n h tok, 3), (.rma m n h tok, 5)] : List (Instr × Nat)), s.tokenOk e.2 tok = false →
      ∃ t, exec e.1 s = .next t ∧ t.Answered n 8 [] ∧ t.sec = { s.sec with chal := none } ∧ t.flash = s.flash ∧
        t.fld .sec Sec.TOKEN_REJ_CNT = min (s.fld .sec Sec.TOKEN_REJ_CNT + 1) (2 ^ 32 - 1)) ∧
    (s.tokenOk 2 tok = true →
      let c := tok.argN % 8
      let svn := tok.argN / 2 ^ 16 % 2 ^ 16
      let old := smGet (fun _ => 0) s.flash.svnMin c
      ∃ t, exec (.svnCommit m n h tok) s = .next t ∧ t.sec.chal = none ∧
        (4 < c ∨ 64 < svn → t.Answered n 10 [] ∧ t.flash = s.flash) ∧
        (c ≤ 4 → svn ≤ 64 → (s.image_ c (s.activeSlot c)).svn < svn → t.Answered n 9 [] ∧ t.flash = s.flash) ∧
        (c ≤ 4 → svn ≤ 64 → svn ≤ (s.image_ c (s.activeSlot c)).svn → t.Answered n 0 [] ∧ smGet (fun _ => 0) t.flash.svnMin c = max old svn ∧
          (old < svn → t.fld .sec (Sec.SVN_MIN.sub 15 0) c = svn) ∧ ∀ d, d ≠ c → smGet (fun _ => 0) t.flash.svnMin d = smGet (fun _ => 0) s.flash.svnMin d)) ∧
    (s.tokenOk 3 tok = true → ∃ t, exec (.ownerSet m n h tok) s = .next t ∧ t.Answered n 0 [] ∧ t.sec.ownerDue = some tok.argN ∧ t.flash = s.flash) ∧
    (s.tokenOk 5 tok = true → ∃ t, exec (.rma m n h tok) s = .next t ∧ t.Answered n 0 [] ∧ t.flash = { s.flash with rmaPending := true }) ∧
    ((∃ e ∈ s.seals, e.2.closed = true) → ∃ t, exec (.debugUnlock m n h tok) s = .next t ∧ t.Answered n 9 [] ∧ t.sec = s.sec ∧
      t.fld .sec Sec.SEC_STATUS_DEBUG_OPEN = s.fld .sec Sec.SEC_STATUS_DEBUG_OPEN ∧
      t.fld .sec Sec.SEALED_BLOCK_CNT = min (s.fld .sec Sec.SEALED_BLOCK_CNT + 1) (2 ^ 32 - 1)) ∧
    ((∀ e ∈ s.seals, e.2.closed = false) →
      (s.tokenOk 4 tok = true → ∃ t, exec (.debugUnlock m n h tok) s = .next t ∧ t.Answered n 0 [] ∧ t.sec.chal = none ∧
        t.fld .sec Sec.SEC_STATUS_DEBUG_OPEN = 1 ∧ t.fld .sec Sec.SEC_STATUS_DEBUG_OPENED = 1) ∧
      (s.tokenOk 4 tok = false → ∃ t, exec (.debugUnlock m n h tok) s = .next t ∧ t.Answered n 8 [] ∧ t.sec.chal = none ∧
        t.fld .sec Sec.SEC_STATUS_DEBUG_OPEN = s.fld .sec Sec.SEC_STATUS_DEBUG_OPEN ∧
        t.fld .sec Sec.TOKEN_REJ_CNT = min (s.fld .sec Sec.TOKEN_REJ_CNT + 1) (2 ^ 32 - 1)))) ∧
  (∀ s m n h key, n < 32 → s.Considers m n 0x107 h →
    ∃ t, exec (.ownerKey m n h key) s = .next t ∧
      (s.sec.ownerDue = none → t.Answered n 9 [] ∧ t.flash = s.flash) ∧
      (∀ d, s.sec.ownerDue = some d → key.length = 1952 → natLE (shake256 key 32) = d →
        t.Answered n 0 [] ∧ t.flash = { s.flash with ownerKey := key } ∧ t.sec.ownerDue = none ∧ t.fld .sec Sec.SEC_STATUS_OWNER = 1) ∧
      (∀ d, s.sec.ownerDue = some d → key.length ≠ 1952 ∨ natLE (shake256 key 32) ≠ d → t.Answered n 8 [] ∧ t.flash = s.flash ∧ t.sec = s.sec)) ∧
  (∀ (s : State) (cmd : Nat) (tok : Token), s.tokenOk cmd tok = true →
    tok.chip = s.chip ∧ tok.boot = s.fld .sec Sec.BOOT_CNT ∧ (∃ at_, s.sec.chal = some (tok.chal, at_) ∧ s.tick - at_ ≤ 6000000) ∧
      Config.mlDsaVerify (s.tokenKey cmd) (shake256 (tok.head cmd) 64) tok.sig = true)

/-- Power comes, the images are verified and memory becomes ready, or power goes: what each leaves (R477, R479–R482, R501, R505, R521,
R524). The chip number is written and the module is readied for removal (R522, R523).
Choices of the model: log entries 3, 7, 59. -/
def Obligations.ModuleComesAndGoes : Prop :=
  (∀ s, s.mod_.stby = true → exec .powerOn s = .next s) ∧
  (∀ s, s.mod_.stby = false →
    let bootable := fun (c : Nat) => ∃ slot, (slot = s.activeSlot c ∨ slot = 1 - s.activeSlot c) ∧ s.imgCause c (s.image_ c slot) = none
    ∃ t, exec .powerOn s = .next t ∧ t.mod_.stby = true ∧ t.mem = [] ∧ t.lines = [] ∧ t.slots = [] ∧ t.progs = [] ∧ t.pending = s.pending ∧
      t.mod_.latchOpen = s.mod_.latchOpen ∧ t.flash.bootCnt = min (s.flash.bootCnt + 1) (2 ^ 32 - 1) ∧
      (s.flash.bootCnt < 2 ^ 32 - 1 → t.fld .sec Sec.BOOT_CNT = s.flash.bootCnt + 1) ∧
      (s.flash.rmaPending = true → t.flash.lifecycle = 3) ∧ (s.flash.rmaPending = false → t.flash.lifecycle = s.flash.lifecycle) ∧
      ((∀ c < 5, bootable c) → t.modState = 0 ∧ t.inRecovery = false ∧ t.mod_.uncore = true ∧ t.mod_.mem = true ∧ t.mod_.core0 = false) ∧
      ((∃ c < 5, ¬ bootable c) → t.modState = 1 ∧ t.inRecovery = true ∧ t.mod_.uncore = false ∧ t.mod_.mem = false)) ∧
  (∀ s, s.mod_.mem = true → s.flag (.mc 0) Mc.MC_STATUS_READY = false → s.failed = false →
    ∃ t, exec .edeskInitDone s = .next t ∧ (∀ k < 12, t.flag (.mc k) Mc.MC_STATUS_READY = true) ∧ t.mod_.core0 = true ∧ t.mod_.core1 = true ∧
      (s.modState = 0 → t.modState = 2) ∧ (s.modState ≠ 0 → t.modState = s.modState) ∧ t.mem = s.mem) ∧
  (∀ s, s.mod_.mem = false ∨ s.flag (.mc 0) Mc.MC_STATUS_READY = true → exec .edeskInitDone s = .next s) ∧
  (∀ s mv, s.mod_.stby = true →
    let dark := fun (t : State) => t.mod_.stby = false ∧ t.mem = [] ∧ t.regs = [] ∧ t.slots = [] ∧ t.progs = [] ∧ t.flash = s.flash ∧ t.mod_.latchOpen = s.mod_.latchOpen
    (∃ t, exec .powerLoss s = .next t ∧ dark t ∧ t.out = s.out) ∧
    (∃ t, exec .overcurrentTrip s = .next t ∧ dark t) ∧
    (mv < 36000 ∨ 62000 < mv → ∃ t, exec (.inputVoltageExcursion mv) s = .next t ∧ dark t) ∧
    (40000 ≤ mv → mv ≤ 60000 → ∃ t, exec (.inputVoltageExcursion mv) s = .next t ∧ t.fld .pwr (Pwr.PWR_STATUS.sub 2 2) = 0 ∧ t.mod_.stby = true ∧ t.mem = s.mem ∧
      t.mod_.vinOut = false) ∧
    (36000 ≤ mv → mv < 40000 ∨ 60000 < mv → mv ≤ 62000 →
      ∃ t, exec (.inputVoltageExcursion mv) s = .next t ∧ t.fld .pwr (Pwr.PWR_STATUS.sub 2 2) = 1 ∧ t.mod_.stby = true ∧ t.mod_.vinOut = true ∧ t.mem = s.mem ∧
        (s.mod_.vinOut = true → t.flip = s.flip))) ∧
  (∀ s mv, s.mod_.stby = false → exec .powerLoss s = .next s ∧ exec .overcurrentTrip s = .next s ∧ exec (.inputVoltageExcursion mv) s = .next s) ∧
  (∀ s m v, s.MayWrite m .glb →
    let busy : Prop := (∃ b < 64, s.bndUp b = true) ∨ s.partsHeld ≠ []
    ∃ t, exec (.chipIdWrite m v) s = .next t ∧
      (busy → t.chip = s.chip ∧ t.flag .glb Glb.CHIP_ID_VALID = s.flag .glb Glb.CHIP_ID_VALID ∧ bitAt (t.fld .glb Hd.ERR_STAT) 0 = true ∧ t.lanes = s.lanes) ∧
      (¬ busy → t.chip = v.toNat % 65536 ∧ t.flag .glb Glb.CHIP_ID_VALID = bitAt v.toNat 16)) ∧
  (∀ s, s.mod_.stby = true →
    (s.mod_.removeReq = false → ∃ t, exec .ejectLatchOpen s = .next t ∧ t.mod_.latchOpen = true ∧ t.mod_.removeReq = true ∧ t.modState = 3 ∧
      t.fld .glb (Glb.MOD_STATE.sub 3 3) = 1 ∧ t.progs = s.progs) ∧
    (s.mod_.removeReq = true → ∃ t, exec .ejectLatchOpen s = .next t ∧ t.mod_.latchOpen = true ∧ t.modState = s.modState) ∧
    (∃ t, exec .ejectLatchClose s = .next t ∧ t.mod_.latchOpen = false ∧ t.fld .glb (Glb.MOD_STATE.sub 3 3) = 0 ∧ t.modState = s.modState ∧
      t.mod_.removeReq = s.mod_.removeReq)) ∧
  (∀ s m, s.MayWrite m .glb →
    (s.mod_.removeReq = false → ∃ t, exec (.removeReq m) s = .next t ∧ t.mod_.removeReq = true ∧ t.modState = 3 ∧ t.progs = s.progs) ∧
    (s.mod_.removeReq = true → ∃ t, exec (.removeReq m) s = .next t ∧ t.modState = s.modState ∧ t.flip = s.flip) ∧
    (s.modState = 3 → s.mod_.latchOpen = false → ∃ t, exec (.removeCancel m) s = .next t ∧ t.mod_.removeReq = false ∧
      (s.failed = false → s.inRecovery = false → s.flag (.mc 0) Mc.MC_STATUS_READY = true → t.modState = 2)) ∧
    (s.modState ≠ 3 ∨ s.mod_.latchOpen = true → ∃ t, exec (.removeCancel m) s = .next t ∧ t.modState = s.modState ∧ t.mod_ = s.mod_)) ∧
  (∀ s, s.modState = 3 → s.partsHeld = [] → 1000 ≤ s.mod_.idleTransit →
    ∃ t, exec .safeToRemove s = .next t ∧ t.modState = 4 ∧ t.mem = [] ∧ t.mod_.core0 = false ∧ t.mod_.core1 = false ∧ t.mod_.uncore = false ∧
      t.mod_.mem = false ∧ t.mod_.stby = s.mod_.stby ∧ ∀ e < 3, ∀ x < 2, t.lasRole e x ≠ 1 ∧ t.lasRole e x ≠ 2) ∧
  (∀ s, s.modState ≠ 3 ∨ s.partsHeld ≠ [] ∨ s.mod_.idleTransit < 1000 → exec .safeToRemove s = .next s)

/-- The cap of power and the sensors of heat act as R504, R507 and R508 say.
Choices of the model: log entries 3, 60. -/
def Obligations.PowerAndHeatAreHeld : Prop :=
  (∀ s w10 w1s, s.mod_.stby = true →
    let past : Prop := min 2600 (s.fld .pwr Pwr.CAP_EFF + 200) < w10 ∨ s.fld .pwr Pwr.CAP_EFF < w1s
    ((past ↔ s.mod_.capHold = true) → exec (.powerCapHold w10 w1s) s = .next s) ∧
    (¬ (past ↔ s.mod_.capHold = true) → ∃ t, exec (.powerCapHold w10 w1s) s = .next t ∧ (t.mod_.capHold = true ↔ past) ∧
      (t.fld .pwr (Pwr.PWR_STATUS.sub 0 0) = 1 ↔ past) ∧ t.mem = s.mem ∧ t.seqs = s.seqs)) ∧
  (∀ s k v p, s.mod_.stby = true → throttlePoint k = some p →
    ∃ t, exec (.thermalThrottleChange k v) s = .next t ∧
      (p ≤ v → k ∈ t.mod_.hot ∧ k ∈ t.mod_.warm ∧ t.fld .pwr (Pwr.PWR_STATUS.sub 1 1) = 1) ∧
      (v < p → k ∉ t.mod_.hot) ∧ (v ≤ p - 30 → k ∉ t.mod_.warm) ∧ (p - 30 < v → v < p → (k ∈ t.mod_.warm ↔ k ∈ s.mod_.warm)) ∧
      t.fld .pwr Pwr.CAP_EFF = s.fld .pwr Pwr.CAP_EFF) ∧
  (∀ s, s.mod_.stby = true →
    let eff := s.fld .pwr Pwr.CAP_EFF
    let cap := s.fld .pwr Pwr.PWR_CAP
    (s.mod_.capTicks < 1000 → exec .capEffStep s = .next s) ∧
    (1000 ≤ s.mod_.capTicks → ∃ t, exec .capEffStep s = .next t ∧ t.mod_.capTicks = 0 ∧
      (s.mod_.hot ≠ [] → 700 < eff → t.fld .pwr Pwr.CAP_EFF = eff - 100) ∧
      (s.mod_.hot ≠ [] → 600 ≤ eff → eff ≤ 700 → t.fld .pwr Pwr.CAP_EFF = 600) ∧
      (s.mod_.hot = [] → s.mod_.warm = [] → t.fld .pwr Pwr.CAP_EFF = min cap (eff + 100)) ∧
      (s.mod_.hot = [] → s.mod_.warm ≠ [] → t.fld .pwr Pwr.CAP_EFF = eff))) ∧
  (∀ s k v, s.mod_.stby = true → tripAt k v = true →
    (∀ e < 3, k = 14 + e → ∃ t, exec (.thermalTrip k v) s = .next t ∧ t.lasSt e = 5 ∧ t.mod_.stby = true ∧
      ∀ x < 2, s.lasRole e x = 1 ∨ s.lasRole e x = 2 → t.lasRole e x = 4) ∧
    (k = 17 ∨ k = 20 → ∃ t, exec (.thermalTrip k v) s = .next t ∧ t.mod_.stby = false ∧ t.mem = [] ∧ t.flash = s.flash) ∧
    (k ≤ 13 ∨ k = 18 ∨ k = 21 → s.failed = false → ∃ t, exec (.thermalTrip k v) s = .next t ∧ t.failed = true ∧ t.modState = 5 ∧ t.mod_.core0 = false ∧
      t.mod_.core1 = false ∧ t.mod_.stby = true)) ∧
  (∀ s k v, tripAt k v = false → exec (.thermalTrip k v) s = .next s) ∧
  (∀ k v, tripAt k v = true ↔ k ≤ 1 ∧ 1100 ≤ v ∨ 2 ≤ k ∧ k ≤ 16 ∧ 1050 ≤ v ∨ k = 17 ∧ 1100 ≤ v ∨ k = 18 ∧ 450 ≤ v ∨ k = 20 ∧ 1250 ≤ v ∨ k = 21 ∧ v < 150)

/-- PAGE_SEM is acquired, refreshed, released and tied for as R519 says; a lease that has run out passes to another master. -/
def Obligations.SemaphoresPassBetweenTheMasters : Prop :=
  (∀ s pg m, s.answers pg = true → Page.ofBase pg.base = some pg →
    let lease : Prop := (s.semOwner pg = 1 ∨ s.semOwner pg = 2) ∧ tGet s.semTick pg.base + s.fld .glb Glb.SEM_LEASE ≤ s.tick
    (s.semOwner pg = 0 → ∃ t, exec (.semAcquire pg.base [m]) s = .next t ∧ t.semOwner pg = m.code ∧ tGet t.semTick pg.base = s.tick) ∧
    (s.semOwner pg = m.code → ∃ t, exec (.semAcquire pg.base [m]) s = .next t ∧ t.semOwner pg = m.code ∧ tGet t.semTick pg.base = s.tick ∧ t.regs = s.regs) ∧
    (s.semOwner pg ≠ 0 → s.semOwner pg ≠ m.code → ¬ lease → exec (.semAcquire pg.base [m]) s = .next s) ∧
    (s.semOwner pg ≠ m.code → lease → ∃ t, exec (.semAcquire pg.base [m]) s = .next t ∧ t.semOwner pg = m.code) ∧
    (s.semOwner pg = m.code → ∃ t, exec (.semRelease pg.base m) s = .next t ∧ t.semOwner pg = 0) ∧
    (s.semOwner pg ≠ m.code → exec (.semRelease pg.base m) s = .next s) ∧
    (∀ v, exec (.registerWrite m (pg.base + 0xC) 4 v) s = (if bitAt v.toNat 31 then exec (.semAcquire pg.base [m]) s else exec (.semRelease pg.base m) s)) ∧
    (s.semOwner pg = 0 → 0 < s.fld .glb Glb.SEM_LEASE → ∃ t, exec (.semAcquire pg.base [.mgmt, .host]) s = .next t ∧
      (tGet s.semTie pg.base ≠ 1 → t.semOwner pg = 1 ∧ tGet t.semTie pg.base = 1) ∧ (tGet s.semTie pg.base = 1 → t.semOwner pg = 2 ∧ tGet t.semTie pg.base = 2)) ∧
    (s.semOwner pg = 0 → 0 < s.fld .glb Glb.SEM_LEASE → m ≠ .fw → ∃ t, exec (.semAcquire pg.base [.fw, m]) s = .next t ∧ t.semOwner pg = m.code))

/-- Registers are written under the page semaphore and their access codes (R9, R14, R15, R156, R510, R520, R526).
Choices of the model: log entries 3, 56. -/
def Obligations.RegistersAreWrittenUnderTheirSemaphore : Prop :=
  (∀ s m off v pg, s.answers pg = true → Page.ofBase pg.base = some pg → off < 4096 → off % 4 = 0 → off ≠ 0xC → pg.writable off = true → msixTable (pg.base + off) = false →
    msixPba (pg.base + off) = false → s.semOwner pg ≠ m.code → exec (.registerWrite m (pg.base + off) 4 v) s = .next (s.semDrop m pg)) ∧
  (∀ (s : State) m pg, (s.semDrop m pg).fld .glb Glb.SEM_DROP_CNT = min (s.fld .glb Glb.SEM_DROP_CNT + 1) (2 ^ 32 - 1) ∧
    s.changesOnly [.page Page.glb.kind, .page Page.flip.kind, .page Page.mgt.kind, .page Page.trg.kind, .flipbook, .output, .fresh, .time] (s.semDrop m pg)) ∧
  (∀ s m off v pg, s.MayWrite m pg → Page.ofBase pg.base = some pg → off < 4096 → off % 4 = 0 → pg.writable off = false → off ≠ 0xC →
    msixTable (pg.base + off) = false → msixPba (pg.base + off) = false → exec (.registerWrite m (pg.base + off) 4 v) s = .next s) ∧
  (∀ s m v pg, s.MayWrite m pg → Page.ofBase pg.base = some pg → msixTable pg.base = false → msixPba pg.base = false →
    let w := v.toNat % 2 ^ 32
    (∃ t, exec (.registerWrite m (pg.base + 0x1C) 4 v) s = .next t ∧ t.fld pg Hd.ERR_MASK = w ∧
      ∀ key, key ≠ regKey pg 0x1C 0 → t.reg key = s.reg key) ∧
    (∃ t, exec (.registerWrite m (pg.base + 0x28) 4 v) s = .next t ∧ t.fld pg Hd.INT_EN = w ∧
      ∀ key, key ≠ regKey pg 0x28 0 → key ≠ regKey .glb 0x130 0 → t.reg key = s.reg key) ∧
    (∃ t, exec (.registerWrite m (pg.base + 0x18) 4 v) s = .next t ∧ (∀ i < 32, bitAt (t.fld pg Hd.ERR_STAT) i = (bitAt (s.fld pg Hd.ERR_STAT) i && !bitAt w i)) ∧
      ∀ key, key ≠ regKey pg 0x18 0 → key ≠ regKey .glb 0x130 0 → t.reg key = s.reg key)) ∧
  (∀ s m v, s.MayWrite m .glb →
    let w := v.toNat % 2 ^ 32
    (10000 ≤ w → w ≤ 100000000 → ∃ t, exec (.registerWrite m 0x124 4 v) s = .next t ∧ t.fld .glb Glb.SEM_LEASE = w) ∧
    (w < 10000 ∨ 100000000 < w → ∃ t, exec (.registerWrite m 0x124 4 v) s = .next t ∧ t.fld .glb Glb.SEM_LEASE = s.fld .glb Glb.SEM_LEASE ∧
      bitAt (t.fld .glb Hd.ERR_STAT) 1 = true)) ∧
  (∀ s m off v, s.mod_.stby = true → off % 8 = 0 →
    ∃ u, exec (.registerWrite m off 4 v) s = .next u ∧
      (u.mod_.stby = true → exec (.registerWrite m off 8 v) s = exec (.registerWrite m (off + 4) 4 (BitVec.ofNat 64 (v.toNat / 2 ^ 32))) u)) ∧
  (∀ s m off size v, s.mod_.stby = true →
    (size ≠ 4 ∧ size ≠ 8 ∨ off % size ≠ 0) ∨ size = 4 ∧ Page.ofBase (off / 4096 * 4096) = none ∧ msixTable off = false ∧ msixPba off = false →
    ∃ t, exec (.registerWrite m off size v) s = .next t ∧ t.fld .glb Glb.UNMAPPED_CNT = min (s.fld .glb Glb.UNMAPPED_CNT + 1) (2 ^ 32 - 1) ∧
      ∀ key, key ≠ regKey .glb 0x13C 0 → t.reg key = s.reg key) ∧
  (∀ s m pg off v, s.MayWrite m pg → Page.ofBase pg.base = some pg → off ∈ pg.ctrClrOffs →
    ∃ t, exec (.ctrClr m pg.base off v) s = .next t ∧
      (bitAt v.toNat 0 = false → t.regs = s.regs) ∧
      (bitAt v.toNat 0 = true → (∀ key, s.ctrKey pg off key = true → t.reg key = 0) ∧ (∀ key, s.ctrKey pg off key = false → t.reg key = s.reg key))) ∧
  (∀ (s : State) pg off q a b, Page.ofBase pg.base = some pg → q ∈ pg.clears → a ∈ q.counters → q ≠ .fp → (∀ e, q ≠ .rng e) → s.ctrKey pg off (regKey q a b) = true) ∧
  (∀ s m pg off v, Page.ofBase pg.base = some pg → off ∉ pg.ctrClrOffs → exec (.ctrClr m pg.base off v) s = .next s)

/-- The PCIe link comes and goes, a reset of the function clears what the host set, and BAR2 shows memory (R491, R509, R511, R512).
Choices of the model: log entries 3, 25. -/
def Obligations.TheHostMeetsTheDevice : Prop :=
  (∀ s gen width flit, s.mod_.stby = true →
    let new := 1 + gen % 8 * 2 + width % 32 * 16 + (if flit then 512 else 0)
    (new = s.fld .hst Pci.PCIE_STATUS → exec (.pcieLinkUp gen width flit) s = .next s) ∧
    (new ≠ s.fld .hst Pci.PCIE_STATUS → ∃ t, exec (.pcieLinkUp gen width flit) s = .next t ∧ t.fld .hst Pci.PCIE_STATUS = new)) ∧
  (∀ s, s.mod_.stby = true → s.pcieUp = true → ∀ c ∈ [Instr.flr, .pcieLinkLoss],
    ∃ t, exec c s = .next t ∧ t.fld .lchHost Lch.LCH_CTRL_SCAN_EN = 0 ∧ t.fld .lchHost Lch.LCH_CTRL_IRQ_EN = 0 ∧ t.fld .hst Pci.BAR2_SEL = 0 ∧
      t.fld .lchHost Lch.CPL_CONS = 0 ∧ (s.heldH = [] → t.fld .lchHost Lch.CPL_PROD = 0x1000 ∧ t.usedH = 0) ∧ t.progs = s.progs ∧ t.mem = s.mem ∧
      (∀ n < 2048, (∀ c ∈ s.heldH, c.slot ≠ n) → (s.slot n).state = 1 ∨ (s.slot n).state = 2 → (t.slot n).state = 0) ∧
      (∀ n, 2048 ≤ n → (∀ c ∈ s.heldH, c.slot ≠ n) → t.slot n = s.slot n) ∧
      (s.Inv → ∀ pg, Page.ofBase pg.base = some pg → s.reg (regKey pg 0xC 0) = 0x80000001 → t.semOwner pg = 0) ∧
      (∀ pg, Page.ofBase pg.base = some pg → s.reg (regKey pg 0xC 0) ≠ 0x80000001 → t.reg (regKey pg 0xC 0) = s.reg (regKey pg 0xC 0)) ∧
      (c = .flr → t.fld .hst Pci.FLR_CNT = min (s.fld .hst Pci.FLR_CNT + 1) (2 ^ 32 - 1) ∧ t.pcieUp = true) ∧
      (c = .pcieLinkLoss → t.fld .hst Pci.LINK_DOWN_CNT = min (s.fld .hst Pci.LINK_DOWN_CNT + 1) (2 ^ 32 - 1) ∧ t.pcieUp = false)) ∧
  (∀ s, s.pcieUp = false → exec .flr s = .next s ∧ exec .pcieLinkLoss s = .next s ∧ ∀ off n data, exec (.bar2Read off n) s = .next s ∧
    exec (.bar2Write off data) s = .next s) ∧
  (∀ s m v, s.MayWrite m .hst →
    (bitsOf v.toNat 11 8 ≤ 1 → ∃ t, exec (.bar2SelWrite m v) s = .next t ∧ t.fld .hst Pci.BAR2_SEL = v.toNat % 4096) ∧
    (1 < bitsOf v.toNat 11 8 → ∃ t, exec (.bar2SelWrite m v) s = .next t ∧ t.fld .hst Pci.BAR2_SEL = s.fld .hst Pci.BAR2_SEL ∧
      bitAt (t.fld .hst Hd.ERR_STAT) 0 = true)) ∧
  (∀ s off n data, s.mod_.stby = true → s.pcieUp = true →
    let a := s.chip * 2 ^ 48 + s.fld .hst (Pci.BAR2_SEL.sub 11 8) * 2 ^ 44 + s.fld .hst (Pci.BAR2_SEL.sub 7 0) * 2 ^ 36 + off % 2 ^ 36
    (s.rangeClosed a n = true → ∃ t, exec (.bar2Read off n) s = .next t ∧ t.mem = s.mem ∧ Out.hostRead 2 (List.replicate n 0xFF) ∈ t.out ∧
      t.fld .sec Sec.SEALED_BLOCK_CNT = min (s.fld .sec Sec.SEALED_BLOCK_CNT + 1) (2 ^ 32 - 1)) ∧
    (s.rangeClosed a data.length = true → ∃ t, exec (.bar2Write off data) s = .next t ∧ t.mem = s.mem ∧ t.lines = s.lines ∧
      t.fld .sec Sec.SEALED_BLOCK_CNT = min (s.fld .sec Sec.SEALED_BLOCK_CNT + 1) (2 ^ 32 - 1)) ∧
    (gaSpace a = 1 → s.rangeClosed a n = false → (∀ i < n, s.sramLoc (gaOff a + i) = some (sramKey (gaOff a + i))) → s.sramOk (gaOff a) n = true →
      ∃ t, exec (.bar2Read off n) s = .next t ∧ t = { s with out := s.out ++ [.hostRead 0 (s.bytes (sramKey (gaOff a)) n)] }) ∧
    (gaSpace a = 1 → s.rangeClosed a data.length = false → (∀ i < data.length, s.sramLoc (gaOff a + i) = some (sramKey (gaOff a + i))) →
      ∃ t, exec (.bar2Write off data) s = .next t ∧ t.bytes (sramKey (gaOff a)) data.length = data ∧ t.regs = s.regs ∧
        s.KeepsBytes t ((List.range data.length).map (fun i => sramKey (gaOff a) + i))) ∧
    (∀ k l, gaSpace a = 0 → s.rangeClosed a 64 = false → gaOff a % 64 = 0 → s.edMap (gaOff a) = some (k, l) → s.stackUp k = true → (s.stk k).holds l = false →
      (s.lineMeta k l).unwritten = false → s.lineFails k l = false →
      ∃ t, exec (.bar2Read off 64) s = .next t ∧ t.out = s.out ++ [.hostRead 0 (s.bytes (edKey k l) 64)] ∧ t.mem = s.mem) ∧
    (∀ k l, gaSpace a = 0 → s.rangeClosed a 64 = false → gaOff a % 64 = 0 → data.length = 64 → s.edMap (gaOff a) = some (k, l) → s.stackUp k = true →
      (s.stk k).holds l = false → s.unitSt k (l / 4096) ≠ 1 →
      ∃ t, exec (.bar2Write off data) s = .next t ∧ t.bytes (edKey k l) 64 = data ∧ s.KeepsBytes t ((List.range 64).map (fun i => edKey k l + i))))

/-- Management frames are checked, sessions run their requests in order of SEQ, each request is answered, and one for another device
is carried there in pieces (R513–R517, Tables 18.6–18.8).
Choices of the model: log entries 3, 34, 65, 66, 114, 115, 116. -/
def Obligations.SessionsRunTheirRequestsInOrder : Prop :=
  (∀ s h space a n data,
    (s.mgUp h.port = false → ∀ c ∈ [Instr.mgmtRead h space a n, .mgmtWrite h space a data, .sessionOpen h, .sessionClose h, .keepalive h], exec c s = .next s) ∧
    (s.mgUp h.port = true → h.major ≠ 1 → ∀ c ∈ [Instr.mgmtRead h space a n, .mgmtWrite h space a data, .sessionOpen h, .sessionClose h, .keepalive h],
      ∃ t, exec c s = .next t ∧ t.out = s.out ++ [.mgmtRsp (s.mgRsp (h.answer (mgType c) s.mgKeyed) 8 s.chip [])] ∧ t.sess = s.sess) ∧
    (s.mgUp h.port = true → h.major = 1 → h.e = true → s.mgTagOk h = false → ∀ c ∈ [Instr.mgmtRead h space a n, .mgmtWrite h space a data, .sessionOpen h,
      .sessionClose h, .keepalive h],
      ∃ t, exec c s = .next t ∧ t.out = s.out ++ [.mgmtRsp (s.mgRsp (h.answer (mgType c) s.mgKeyed) 7 s.chip [])] ∧ t.sess = s.sess ∧
        t.fld .mgt Mgt.AUTH_FAIL_CNT = min (s.fld .mgt Mgt.AUTH_FAIL_CNT + 1) (2 ^ 32 - 1))) ∧
  (∀ s h, s.mgUp h.port = true → s.frameFault h false = none →
    let rq := { h.answer 5 s.mgKeyed with session := 0 }
    let free := (List.range 8).find? (fun i => !(s.session (i + 1)).open_)
    ∃ t, exec (.sessionOpen h) s = .next t ∧ t.fld .mgt Mgt.RX_CNT = min (s.fld .mgt Mgt.RX_CNT + 1) (2 ^ 32 - 1) ∧
      (free = none ∨ s.ccDown = true ∧ s.inRecovery = false → t.sess = s.sess ∧ t.out = s.out ++ [.mgmtRsp (s.mgRsp rq 10 s.chip [])]) ∧
      (∀ i, free = some i → s.ccDown = false ∨ s.inRecovery = true → (t.session (i + 1)).open_ = true ∧ (t.session (i + 1)).next = 1 ∧
        (t.session (i + 1)).last = s.tick ∧ t.out = s.out ++ [.mgmtRsp (s.mgRsp rq 0 s.chip (bytesLE 2 (i + 1)))] ∧
        ∀ j, j ≠ i + 1 → t.session j = s.session j)) ∧
  (∀ s h space a n data, s.mgUp h.port = true → s.frameFault h false = none →
    let x := s.session h.session
    let known : Prop := 1 ≤ h.session ∧ h.session ≤ 8 ∧ x.open_ = true
    (¬ known → ∀ c ∈ [Instr.mgmtRead h space a n, .mgmtWrite h space a data, .sessionClose h, .keepalive h],
      ∃ t, exec c s = .next t ∧ t.out = s.out ++ [.mgmtRsp (s.mgRsp (h.answer (mgType c) s.mgKeyed) 6 s.chip [])] ∧ t.sess = s.sess) ∧
    (∀ e, known → h.seq < x.next → x.cache.find? (fun e => e.1 == h.seq) = some e →
      ∀ c ∈ [Instr.mgmtRead h space a n, .mgmtWrite h space a data, .sessionClose h, .keepalive h],
        ∃ t, exec c s = .next t ∧ t.out = s.out ++ [.mgmtRsp (s.mgRsp (h.answer (mgType c) s.mgKeyed) e.2.1 e.2.2.1 e.2.2.2)] ∧ t.mem = s.mem ∧
          (t.session h.session).next = x.next ∧ (t.session h.session).last = s.tick) ∧
    (known → x.next < h.seq → ∀ c ∈ [Instr.mgmtRead h space a n, .mgmtWrite h space a data, .sessionClose h, .keepalive h],
      ∃ t, exec c s = .next t ∧ t.out = s.out ∧ t.mem = s.mem ∧ (∃ r ∈ (t.session h.session).held, r.1 = h.seq) ∧ (t.session h.session).next = x.next ∧
        (t.session h.session).open_ = true) ∧
    (known → h.seq = x.next → x.held = [] →
      (∃ t, exec (.keepalive h) s = .next t ∧ (t.session h.session).next = h.seq + 1 ∧ (t.session h.session).last = s.tick ∧
        t.out = s.out ++ [.mgmtRsp (s.mgRsp (h.answer 7 s.mgKeyed) 0 s.chip [])] ∧ t.mem = s.mem) ∧
      (∃ t, exec (.sessionClose h) s = .next t ∧ (t.session h.session).open_ = false ∧ t.out = s.out ++ [.mgmtRsp (s.mgRsp (h.answer 6 s.mgKeyed) 0 s.chip [])] ∧
        t.mem = s.mem) ∧
      (h.local_ = true ∨ h.dest = s.chip →
        let rs := fun (t : State) (type st : Nat) (b : List Byte) => (t.session h.session).next = h.seq + 1 ∧
          t.out = s.out ++ [.mgmtRsp (s.mgRsp (h.answer type s.mgKeyed) st s.chip b)]
        (mgRange s.chip space a n = false → ∃ t, exec (.mgmtRead h space a n) s = .next t ∧ rs t 1 3 [] ∧ t.mem = s.mem) ∧
        (mgRange s.chip space a data.length = false → ∃ t, exec (.mgmtWrite h space a data) s = .next t ∧ rs t 2 3 [] ∧ t.mem = s.mem) ∧
        (space = 1 → mgRange s.chip space a n = true → ∃ t, exec (.mgmtRead h space a n) s = .next t ∧ t.mem = s.mem ∧
          rs t 1 0 ((List.range (n / 8)).flatMap (fun i => s.bar4Read (a + 8 * i)))) ∧
        (space = 2 → mgRange s.chip space a n = true → s.rangeClosed a n = true → ∃ t, exec (.mgmtRead h space a n) s = .next t ∧ t.mem = s.mem ∧
          (t.session h.session).next = h.seq + 1 ∧ Out.mgmtRsp (s.mgRsp (h.answer 1 s.mgKeyed) 2 s.chip []) ∈ t.out) ∧
        (space = 2 → gaSpace a = 1 → mgRange s.chip space a n = true → s.rangeClosed a n = false → s.sramOk (gaOff a) n = true →
          ∃ t, exec (.mgmtRead h space a n) s = .next t ∧ t.mem = s.mem ∧ rs t 1 0 (s.bytes (sramKey (gaOff a)) n)) ∧
        (space = 2 → gaSpace a = 1 → mgRange s.chip space a data.length = true → s.rangeClosed a data.length = false →
          (∀ i < data.length, s.sramLoc (gaOff a + i) = some (sramKey (gaOff a + i))) → (∀ e ∈ s.stks, e.2.heldW = []) → (∀ e ∈ s.mats, e.2.held = []) →
          ∃ t, exec (.mgmtWrite h space a data) s = .next t ∧ rs t 2 0 [] ∧ t.bytes (sramKey (gaOff a)) data.length = data ∧
            s.KeepsBytes t ((List.range data.length).map (fun i => sramKey (gaOff a) + i)))) ∧
      (h.local_ = false → h.dest ≠ s.chip → s.canRelay h.dest = false →
        ∃ t, exec (.mgmtRead h space a n) s = .next t ∧ (t.session h.session).next = h.seq + 1 ∧
          t.out = s.out ++ [.mgmtRsp (s.mgRsp (h.answer 1 s.mgKeyed) 9 s.chip [])] ∧ t.mem = s.mem) ∧
      (h.local_ = false → h.dest ≠ s.chip → s.canRelay h.dest = true →
        ∃ t, exec (.mgmtRead h space a n) s = .next t ∧ (t.session h.session).next = h.seq + 1 ∧ t.mem = s.mem ∧
          t.mg.relays = s.mg.relays ++ [h.answer 1 s.mgKeyed] ∧ t.fld .mgt Mgt.RELAY_CNT = min (s.fld .mgt Mgt.RELAY_CNT + 1) (2 ^ 32 - 1)))) ∧
  (∀ (s : State) src w, 0 < w.length → s.mg.rx = [] → (mgPieces w).foldl (fun s m => s.mgmtMsg src m) s = s.relayed src w) ∧
  (∀ (s : State) src session seq dest a space n, session < 2 ^ 16 → seq < 2 ^ 32 → dest < 2 ^ 16 → a < 2 ^ 64 → space < 2 ^ 8 → n < 2 ^ 32 →
    s.relayed src (({ type := 1, session := session, dest := dest, seq := seq, len := 16 } : MgHead).bytes ++ mgPrefix a space n) =
      s.mgExec (.relay src session seq 1) (.read space a n)) ∧
  (∀ (s : State) src session seq dest a space (data : List Byte), session < 2 ^ 16 → seq < 2 ^ 32 → dest < 2 ^ 16 → a < 2 ^ 64 → space < 2 ^ 8 → data.length ≤ 1024 →
    s.relayed src (({ type := 2, session := session, dest := dest, seq := seq, len := 16 + data.length } : MgHead).bytes
      ++ mgPrefix a space data.length ++ data) = s.mgExec (.relay src session seq 2) (.write space a data)) ∧
  (∀ (s : State) src rq status (data : List Byte), rq.session < 2 ^ 16 → rq.seq < 2 ^ 32 → rq.dest < 2 ^ 16 → status < 2 ^ 16 → src < 2 ^ 16 → data.length ≤ 1040 →
    s.mg.relays = [rq] →
    let r : MgHead := { type := rq.type, rsp := true, session := rq.session, dest := src, seq := rq.seq, status := status, src := src }
    let t := s.relayed src (({ r with len := data.length } : MgHead).bytes ++ data)
    t.out = s.out ++ [.mgmtRsp (s.mgRsp rq status src data)] ∧ t.mg.relays = []) ∧
  (∀ s n, (s.session n).open_ = true → (s.session n).last + 1000000 ≤ s.tick → ∃ t, exec (.sessionIdleTimeout n) s = .next t ∧ (t.session n).open_ = false) ∧
  (∀ s n, (s.session n).open_ = false ∨ s.tick < (s.session n).last + 1000000 → exec (.sessionIdleTimeout n) s = .next s) ∧
  (∀ s n, let x := s.session n
    (x.open_ = true → 0 < x.gapAt → x.gapAt - 1 + 100 ≤ s.tick →
      ∃ t, exec (.seqGapTimeout n) s = .next t ∧ (t.session n).held = [] ∧ (t.session n).gapAt = 0 ∧ (t.session n).next = x.next ∧
        t.fld .mgt Mgt.GAP_CNT = min (s.fld .mgt Mgt.GAP_CNT + 1) (2 ^ 32 - 1) ∧
        ∃ l : List MgRsp, t.out = s.out ++ l.map .mgmtRsp ∧
          l.map (fun r => (r.rq, r.status, r.src, r.data)) = x.held.map (fun r => (r.2.1, 5, s.chip, []))) ∧
    (x.open_ = false ∨ x.gapAt = 0 ∨ s.tick < x.gapAt - 1 + 100 → exec (.seqGapTimeout n) s = .next s)) ∧
  (∀ s port up, s.mod_.stby = true → port < 2 →
    (s.fld .mgt (Mgt.MGT_STATUS.sub port port) = bool01 up → exec (.mgmtPortLinkChange port up) s = .next s) ∧
    (s.fld .mgt (Mgt.MGT_STATUS.sub port port) ≠ bool01 up → ∃ t, exec (.mgmtPortLinkChange port up) s = .next t ∧
      t.fld .mgt (Mgt.MGT_STATUS.sub port port) = bool01 up ∧ t.sess = s.sess ∧ t.mem = s.mem))

/-- A tick edge counts the tick and does its work in the order of Table 1.4; where the time base has not passed a boundary it counts nothing (R25, R26).
Choices of the model: log entries 3, 37. -/
def Obligations.TickEdgesWorkInOrder : Prop :=
  (∀ s o, s.mod_.stby = false → exec (.tickEdge o) s = .next s) ∧
  (∀ s o, s.mod_.stby = true →
    let next := s.time.tai / tickLen + 1
    next < 2 ^ 64 →
    (s.tick < next → ∃ t u v : State, exec (.tickEdge o) s = .next t ∧ u.tick = next ∧ u.time.tai = next * tickLen ∧
      s.changesOnly [.time, .page Page.time.kind] u ∧ v = u.timeEdge.measureEdge o ∧ t = ((v.actEdge.sendEdge).fwEdge o).closeEdge ∧
      v.fld .pwr Pwr.VIN = o.vin % 2 ^ 32 ∧ v.fld .pwr Pwr.IIN = o.iin % 2 ^ 32 ∧ v.fld .pwr Pwr.PIN_TICK = o.pin % 2 ^ 32 ∧
      v.fld .pwr Pwr.PIN_10MS = o.pin10 % 2 ^ 32 ∧ v.fld .pwr Pwr.PIN_1S = o.pin1s % 2 ^ 32 ∧ v.mod_.capTicks ≤ s.mod_.capTicks + 1) ∧
    (next ≤ s.tick → ∃ t, exec (.tickEdge o) s = .next t ∧ t.tick = s.tick ∧ t.time.tai = next * tickLen ∧ s.changesOnly [.time, .page Page.time.kind] t))

/-- A step takes the command at the front of the queue and answers what `exec` answers for it with the rest of the queue; with nothing waiting the
block idles. No row of the table has bits, so no word spells a command.
Choices of the model: log entries 1, 2. -/
def Obligations.StepRunsTheFrontCommand : Prop :=
  (∀ s c rest, s.pending = c :: rest → step s = exec c { s with pending := rest }) ∧
  (∀ s c, step { s with pending := c :: s.pending } = exec c s) ∧
  (∀ s, s.pending = [] → step s = .next s) ∧
  (∀ n w, decodeTableWord n w = none) ∧ (∀ s n w, State.withFetchWord s n w = s)

/-- Right after reset the invariant of the state holds, nothing waits, the input has no power, memory lists nothing, every semaphore is free, and every register reads the value that its
table gives (R14); the values that the tables give other than 0 for the registers below are these.
Choices of the model: log entries 6, 7. -/
def Obligations.ResetLeavesWhatTheTablesGive : Prop :=
  let s := State.reset
  s.Inv ∧ s.pending = [] ∧ s.mod_.stby = false ∧ s.mem = [] ∧ s.lines = [] ∧ s.shadow = [] ∧ s.slots = [] ∧ s.progs = [] ∧ s.out = [] ∧
  (∀ pg, s.answers pg = false) ∧ (∀ key, s.reg key = regDefault key) ∧ s.semOwner .glb = 0 ∧ s.tick = 0 ∧
  s.fld .glb Glb.SEM_LEASE = 1000000 ∧ s.fld .glb Glb.PART_0 = 0x2D4D594E ∧ s.fld .glb Glb.PART_1 = 0x3231564D ∧ s.fld .glb Hd.PAGE_VER = 0x100 ∧
  s.fld .mgt Mgt.UDP_PORT = 49710 ∧ s.fld .mgt Mgt.EVT_PORT = 49711 ∧ s.fld .pwr Pwr.PWR_CAP = 2400 ∧ s.fld .pwr Pwr.CAP_EFF = 2400 ∧
  s.fld .flip Rec.FREEZE_MAX = 100000 ∧ s.fld .fp Fp.WD_FW = 5 ∧ s.fld .cc Cc.REVERT_HOLD = 100000 ∧ s.fld .wd Wd.WD_CTX = 1000000 ∧
  s.fld .dg Dg.DG_TO = 10000 ∧ s.fld .dg Dg.DG_RECHECK_TO = 500000 ∧ s.fld .ck Ck.STO_RING = 4 ∧ s.fld .ck Ck.CK_TIMEOUT = 60 ∧
  s.fld .ep Ep.IMG_LEN = 16 ∧ s.fld .ep Ep.EP_SKEW_MAX = 100000 ∧ s.fld .part Par.PART_SEL = 1 ∧ s.fld .ct Ct.CT_SEL = 1 ∧ s.fld .ck Ck.CK_SEL = 1 ∧
  s.fld .rc Rc.RC_SEL = 1 ∧ s.fld .dg Dg.DG_SEL = 1 ∧
  (∀ d < 2, ∀ c < 4, s.fld (.cluster d c) Cl.BIND_MAP = 0x76543210 ∧ s.fld (.cluster d c) Cl.BIND_NEXT = 0x76543210) ∧
  (∀ k < 12, s.fld (.mc k) Mc.CE_THRESH = 0x1000) ∧
  (∀ p < 32, s.fld (.lan p) Lan.THR_SYM = 600 ∧ s.fld (.lan p) Lan.THR_UNC = 4 ∧ s.fld (.lan p) Lan.THR_STRIKES = 0x03E80003 ∧
    s.fld (.lan p) Lan.THR_QUAR = 100000) ∧
  (∀ e < 3, s.fld (.kal e) Kal.KAL_LANE = 0xFF ∧ s.fld (.mon e) Mon.MON_INT = 3 ∧ s.fld (.mon e) Mon.RX_SENS = 0xFA88 ∧
    ∀ x < 2, s.fld (.las e x) Las.LAS_THR = 0x23190F0A ∧ s.fld (.las e x) Las.LAS_BER_THR = 256)

/-- Every step keeps the invariant: the canonical form of registers, memory and line metadata, the order of the shadow copies, and the size of the
completion rings (R33). -/
def Obligations.StepKeepsTheInvariant : Prop := ∀ s t, s.Inv → step s = .next t → t.Inv

/-- Every command is answered with a next state in every state, and none touches the queue.
Choices of the model: log entry 3. -/
def Obligations.EveryCommandIsAnswered : Prop := ∀ c s, ∃ t, exec c s = .next t ∧ t.pending = s.pending

/-- No step takes back what has left the module, and none loses what flash and fuses keep for good: identity, keys and commissioning record, the
minimum security versions (R481), the channels mapped out (R167), and the state RMA (R493). -/
def Obligations.StepLosesNothingThatOnlyGrows : Prop := ∀ s t, step s = .next t → State.Grows s t

/-- The frame of every command: what its entry in the table `mayChange` does not name is as it was. The simpler commands change the registers that are
named for them, and nothing else of the register space. -/
def Obligations.CommandsChangeOnlyTheirParts : Prop :=
  (∀ c s t, exec c s = .next t → s.changesOnly (mayChange c) t) ∧
  (∀ (s t : State) m e v p, ∀ x ∈ [
      (Instr.kalModeWrite m e v, Page.kal e, [regKey (.kal e) 0x100 0]),
      (.bar2SelWrite m v, .hst, regKey .hst 0x104 0 :: errKeys .hst),
      (.timCfgWrite m v, .time, regKey .time 0x104 0 :: errKeys .time),
      (.tblDataWrite m e v, .rng e,
        let sel := s.fld (.rng e) Rng.RING_SEL
        regKey (.rng e) 0x22C (ringBank (8 + 8 * e + sel % 8) (sel / 16 % 16) (sel / 256 % 2) + 512 * (s.fld (.rng e) Rng.TBL_SEL % 512)) :: errKeys (.rng e)),
      (.monGoNow m e, .mon e, [regKey (.mon e) 0x108 0, regKey (.mon e) 0x114 0]),
      (.monGoAtTick m e, .mon e, [regKey (.mon e) 0x108 0]),
      (.keyErase m v, .cry 0, [regKey (.cry 0) 0x104 s.keySel, regKey (.cry 0) 0x10C s.keySel, regKey (.cry 0) 0x110 s.keySel,
        regKey (.cry 0) 0x10C (s.keySel + 16384), regKey (.cry 0) 0x110 (s.keySel + 16384)]),
      (.laneClear m p, .lan p, [regKey (.lan p) 0x104 (s.laneSel p)]),
      (.planWinDataWrite m v, .fab, regKey .fab 0x108 0 :: errKeys .fab),
      (.frtDataHiWrite m v, .rt, []),
      (.peerDataWrite m v, .rt, regKey .rt 0x134 (s.fld .rt Rt.PEER_IDX % 8192) :: errKeys .rt),
      (.rnkSlotPartWrite m v, .rt, errKeys .ep), (.rnkDataWrite m v, .rt, errKeys .ep)],
    s.MayWrite m x.2.1 → exec x.1 s = .next t → s.OnlyRegs t x.2.2) ∧
  (∀ (s t : State) e, exec (.monTickReached e) s = .next t → s.OnlyRegs t [regKey (.mon e) 0x108 0, regKey (.mon e) 0x114 0]) ∧
  (∀ s t : State, exec .planWinDataRead s = .next t → s.OnlyRegs t [regKey .fab 0x108 0, regKey .fab 0x10C 0]) ∧
  (∀ (s t : State) pg m, Page.ofBase pg.base = some pg → exec (.semRelease pg.base m) s = .next t → s.OnlyRegs t [regKey pg 0xC 0, regKey .glb 0x128 0]) ∧
  (∀ (s t : State) pg m, Page.ofBase pg.base = some pg → (s.semOwner pg = 0 ∨ s.semOwner pg = m.code ∨ s.leaseOut pg = false) →
    exec (.semAcquire pg.base [m]) s = .next t → s.OnlyRegs t [regKey pg 0xC 0, regKey .glb 0x128 0])

/-- The descriptors that have a destination on the own chip change no byte of memory but those of the destination's rows and of its scales' rows; where
its references fail their checks they change none (R89, R98, R135). -/
def Obligations.DescriptorsStoreOnlyInTheirDestination : Prop :=
  let own := fun (lc : Nat) (d : Desc) (f : Form) (c : Instr) => ∀ s t, exec c s = .next t →
    (∀ e, s.prep lc d f = .error e → t.mem = s.mem) ∧ (∀ r x, s.prep lc d f = .ok r → r.d = some x → s.KeepsBytes t (s.destKeys x))
  ∀ lc d,
    own lc d (copyForm 0x10 .tile .peer) (.load lc d) ∧ own lc d (copyForm 0x11 .peer .tile) (.store lc d) ∧
    own lc d (copyForm 0x12 .own .own) (.move lc d) ∧ own lc d (permForm (d.imm0.toNat % 256)) (.transpose lc d) ∧
    own lc d (rowForm 0x14) (.gather lc d) ∧ own lc d (rowForm 0x15) (.scatterAdd lc d) ∧
    own lc d (convForm false) (.cast lc d) ∧ own lc d (convForm true) (.quantise lc d) ∧ own lc d fillForm (.fill lc d) ∧
    own lc d (d.matForm false) (.matmul lc d) ∧ own lc d (d.matForm true) (.matmulAcc lc d) ∧
    (∀ p ∈ [(Instr.unaryCopy lc d, 0), (.unaryNeg lc d, 1), (.unaryAbs lc d, 2), (.unaryRelu lc d, 3), (.unarySquare lc d, 4),
        (.unaryRecip lc d, 5), (.unarySqrt lc d, 6), (.unaryRsqrt lc d, 7), (.unaryExp lc d, 8), (.unaryExp2 lc d, 9), (.unaryLog lc d, 10),
        (.unaryLog2 lc d, 11), (.unaryTanh lc d, 12), (.unaryErf lc d, 13), (.unarySin lc d, 14), (.unaryCos lc d, 15), (.unarySigmoid lc d, 16),
        (.unarySilu lc d, 17), (.unaryGeluTanh lc d, 18), (.unaryGeluErf lc d, 19)], own lc d (vecForm 0x30 (some p.2) [2, 2, 0, 0] 0) p.1) ∧
    (∀ p ∈ [(Instr.binaryAdd lc d, 0), (.binarySub lc d, 1), (.binaryMul lc d, 2), (.binaryDiv lc d, 3), (.binaryMax lc d, 4), (.binaryMin lc d, 5)],
      own lc d (vecForm 0x31 (some p.2) [2, 2, 2, 0] 0) p.1) ∧
    own lc d (vecForm 0x32 none [2, 2, 2, 2] 0) (.fma lc d) ∧
    (∀ p ∈ [(Instr.rowredSum lc d, 0), (.rowredMax lc d, 1), (.rowredMin lc d, 2), (.rowredAbsmax lc d, 3), (.rowredSumsq lc d, 4)],
      own lc d (vecForm 0x33 (some p.2) [2, 2, 0, 0] 0) p.1) ∧
    own lc d argmaxForm (.rowredArgmax lc d) ∧ own lc d (vecForm 0x34 none [2, 2, 0, 0] (2 ^ 32 - 1)) (.softmax lc d) ∧
    (∀ p ∈ [(Instr.normLayernorm lc d, 0), (.normRmsnorm lc d, 1)], own lc d (vecForm 0x35 (some p.2) [2, 2, 1, 1] (2 ^ 32 - 1)) p.1)

/-- A command that is a write of a page's register by a master that does not hold the page's semaphore is dropped: the drop is counted and
reported, and nothing else happens (R15). Where the page does not answer, nothing happens (R480, R521). -/
def Obligations.WritesWithoutTheSemaphoreAreDropped : Prop :=
  ∀ c m pg, writeOf c = some (m, pg) → ∀ s : State,
    (s.answers pg = false → exec c s = .next s) ∧
    (s.answers pg = true → s.semOwner pg ≠ m.code → exec c s = .next (s.semDrop m pg))
end

