-- ==== Sys2Proof/Laws/Frame.lean ====
section
/-! SUPPORT. Frames: `Kept M s t` says that `t` differs from `s` only in the parts of the mask `M`, keeps the invariant of the state,
and has lost nothing that only grows. One lemma per update of a field; the lemmas of the shared operations are built on them. -/
namespace Sys2Proof.Machine

/-! ### Sparse maps -/

theorem smGet_smIns_same {α : Type} (d : Nat → α) (m : SMap α) (k : Nat) (v : α) : smGet d (smIns m k v) k = v := by
  induction m with
  | nil => simp [smIns, smGet]
  | cons e t ih =>
    obtain ⟨a, w⟩ := e
    simp only [smIns]
    split
    · simp [smGet]
    · split
      · simp [smGet]
      · rename_i h; simp [smGet, h, ih]

theorem smGet_smIns_ne {α : Type} (d : Nat → α) (m : SMap α) (k k' : Nat) (v : α) (h : k' ≠ k) :
    smGet d (smIns m k v) k' = smGet d m k' := by
  induction m with
  | nil => simp [smIns, smGet, Ne.symm h]
  | cons e t ih =>
    obtain ⟨a, w⟩ := e
    simp only [smIns]
    split
    · simp [smGet, Ne.symm h]
    · split
      · rename_i h1; subst h1; simp [smGet, Ne.symm h]
      · simp [smGet, ih]

theorem smGet_filter_true {α : Type} (d : Nat → α) (m : SMap α) (p : Nat × α → Bool) (k : Nat)
    (h : ∀ v, (k, v) ∈ m → p (k, v) = true) : smGet d (m.filter p) k = smGet d m k := by
  induction m with
  | nil => rfl
  | cons e t ih =>
    obtain ⟨a, w⟩ := e
    have ih' := ih (fun v hv => h v (List.mem_cons_of_mem _ hv))
    by_cases ha : a = k
    · subst ha
      have := h w (by simp)
      simp [this, smGet]
    · by_cases hp : p (a, w) = true
      · simp [hp, smGet, ha, ih']
      · simp [hp, smGet, ha, ih']

theorem smGet_smDel_same {α : Type} (d : Nat → α) (m : SMap α) (k : Nat) : smGet d (smDel m k) k = d k := by
  unfold smDel
  induction m with
  | nil => rfl
  | cons e t ih =>
    obtain ⟨a, w⟩ := e
    by_cases ha : a = k
    · subst ha; simp [ih]
    · simp [ha, smGet, ih]

theorem smGet_smDel_ne {α : Type} (d : Nat → α) (m : SMap α) (k k' : Nat) (h : k' ≠ k) :
    smGet d (smDel m k) k' = smGet d m k' :=
  smGet_filter_true d m _ k' (fun v _ => by simp [h])

@[simp] theorem smGet_smSet_same {α : Type} [DecidableEq α] (d : Nat → α) (m : SMap α) (k : Nat) (v : α) :
    smGet d (smSet d m k v) k = v := by
  unfold smSet; split
  · rename_i h; rw [smGet_smDel_same, h]
  · exact smGet_smIns_same d m k v

theorem smGet_smSet_ne {α : Type} [DecidableEq α] (d : Nat → α) (m : SMap α) (k k' : Nat) (v : α) (h : k' ≠ k) :
    smGet d (smSet d m k v) k' = smGet d m k' := by
  unfold smSet; split
  · exact smGet_smDel_ne d m k k' h
  · exact smGet_smIns_ne d m k k' v h

/-! ### The canonical form -/

/-- A weaker lower bound. -/
theorem smWfFrom_mono {α : Type} [DecidableEq α] (d : Nat → α) (m : SMap α) (l : Option Nat) (b : Nat)
    (h : smWfFrom d (some b) m = true) (hl : ∀ x, l = some x → x ≤ b) : smWfFrom d l m = true := by
  cases m with
  | nil => rfl
  | cons e t =>
    obtain ⟨a, w⟩ := e
    simp only [smWfFrom, Bool.and_eq_true, decide_eq_true_eq] at h ⊢
    refine ⟨⟨?_, h.1.2⟩, h.2⟩
    cases l with
    | none => rfl
    | some x => have := hl x rfl; simp; omega

theorem smWfFrom_filter {α : Type} [DecidableEq α] (d : Nat → α) (p : Nat × α → Bool) (m : SMap α) :
    ∀ l, smWfFrom d l m = true → smWfFrom d l (m.filter p) = true := by
  induction m with
  | nil => intro l h; simpa using h
  | cons e t ih =>
    obtain ⟨a, w⟩ := e
    intro l h
    simp only [smWfFrom, Bool.and_eq_true] at h
    by_cases hp : p (a, w) = true
    · simp only [List.filter_cons, hp, if_true, smWfFrom, Bool.and_eq_true]
      exact ⟨h.1, ih _ h.2⟩
    · simp only [List.filter_cons, hp]
      refine smWfFrom_mono d _ l a (ih _ h.2) (fun x hx => ?_)
      subst hx; have := h.1.1; simp at this; omega

theorem smWf_filter {α : Type} [DecidableEq α] {d : Nat → α} {m : SMap α} (p : Nat × α → Bool) (h : smWf d m = true) :
    smWf d (m.filter p) = true := smWfFrom_filter d p m none h

theorem above_bound (k : Nat) (l : Option Nat) :
    (∀ x, l = some x → x < k) → (match l with | none => true | some x => decide (x < k)) = true := by
  intro hl
  cases l with
  | none => rfl
  | some x => simpa using hl x rfl

theorem smWfFrom_smIns {α : Type} [DecidableEq α] (d : Nat → α) (k : Nat) (v : α) (hv : v ≠ d k) (m : SMap α) :
    ∀ l : Option Nat, (∀ x, l = some x → x < k) → smWfFrom d l m = true → smWfFrom d l (smIns m k v) = true := by
  induction m with
  | nil =>
    intro l hl _
    cases l with
    | none => simp [smIns, smWfFrom, hv]
    | some x => simp [smIns, smWfFrom, hv, hl x rfl]
  | cons e t ih =>
    obtain ⟨a, w⟩ := e
    intro l hl h
    have hb := above_bound k l hl
    simp only [smWfFrom, Bool.and_eq_true, decide_eq_true_eq] at h
    simp only [smIns]
    split
    · rename_i hka
      simp only [smWfFrom, Bool.and_eq_true, decide_eq_true_eq]
      exact ⟨⟨hb, hv⟩, ⟨hka, h.1.2⟩, h.2⟩
    · split
      · rename_i hak; subst hak
        simp only [smWfFrom, Bool.and_eq_true, decide_eq_true_eq]
        exact ⟨⟨hb, hv⟩, h.2⟩
      · rename_i h1 h2
        simp only [smWfFrom, Bool.and_eq_true, decide_eq_true_eq]
        exact ⟨h.1, ih (some a) (fun x hx => by cases hx; omega) h.2⟩

theorem smWf_smSet {α : Type} [DecidableEq α] {d : Nat → α} {m : SMap α} (k : Nat) (v : α) (h : smWf d m = true) :
    smWf d (smSet d m k v) = true := by
  unfold smSet; split
  · exact smWf_filter _ h
  · rename_i hv; exact smWfFrom_smIns d k v hv m none (fun x hx => by cases hx) h

theorem smRisesFrom_mono {α : Type} (m : SMap α) (l : Option Nat) (b : Nat)
    (h : smRisesFrom (some b) m = true) (hl : ∀ x, l = some x → x ≤ b) : smRisesFrom l m = true := by
  cases m with
  | nil => rfl
  | cons e t =>
    obtain ⟨a, w⟩ := e
    simp only [smRisesFrom, Bool.and_eq_true, decide_eq_true_eq] at h ⊢
    refine ⟨?_, h.2⟩
    cases l with
    | none => rfl
    | some x => have := hl x rfl; simp; omega

theorem smRises_filter {α : Type} (p : Nat × α → Bool) (m : SMap α) :
    ∀ l, smRisesFrom l m = true → smRisesFrom l (m.filter p) = true := by
  induction m with
  | nil => intro l h; simpa using h
  | cons e t ih =>
    obtain ⟨a, w⟩ := e
    intro l h
    simp only [smRisesFrom, Bool.and_eq_true] at h
    by_cases hp : p (a, w) = true
    · simp only [List.filter_cons, hp, if_true, smRisesFrom, Bool.and_eq_true]
      exact ⟨h.1, ih _ h.2⟩
    · simp only [List.filter_cons, hp]
      refine smRisesFrom_mono _ l a (ih _ h.2) (fun x hx => ?_)
      subst hx; have := h.1; simp at this; omega

theorem smRises_smIns {α : Type} (k : Nat) (v : α) (m : SMap α) :
    ∀ l : Option Nat, (∀ x, l = some x → x < k) → smRisesFrom l m = true → smRisesFrom l (smIns m k v) = true := by
  induction m with
  | nil =>
    intro l hl _
    cases l with
    | none => simp [smIns, smRisesFrom]
    | some x => simp [smIns, smRisesFrom, hl x rfl]
  | cons e t ih =>
    obtain ⟨a, w⟩ := e
    intro l hl h
    have hb := above_bound k l hl
    simp only [smRisesFrom, Bool.and_eq_true] at h
    simp only [smIns]
    split
    · rename_i hka
      simp only [smRisesFrom, Bool.and_eq_true]
      exact ⟨hb, decide_eq_true hka, h.2⟩
    · split
      · rename_i hak; subst hak
        simp only [smRisesFrom, Bool.and_eq_true]
        exact ⟨hb, h.2⟩
      · rename_i h1 h2
        simp only [smRisesFrom, Bool.and_eq_true]
        exact ⟨h.1, ih (some a) (fun x hx => by cases hx; omega) h.2⟩

/-! ### Masks -/

/-- The bit of a part in a mask. -/
def Part.bit : Part → Nat
  | .page k => if k < 64 then k else 1000 + k
  | .pending => 64
  | .shadow => 65
  | .memory => 66
  | .lines => 67
  | .output => 68
  | .fresh => 69
  | .module => 70
  | .flash => 71
  | .flipbook => 72
  | .semTick => 73
  | .semTie => 74
  | .slots => 75
  | .progs => 76
  | .ring => 77
  | .heldH => 78
  | .heldM => 79
  | .usedH => 80
  | .usedM => 81
  | .seqs => 82
  | .stks => 83
  | .reads => 84
  | .mats => 85
  | .nmus => 86
  | .seals => 87
  | .resets => 88
  | .bundles => 89
  | .lanes => 90
  | .ports => 91
  | .outst => 92
  | .plan => 93
  | .rings => 94
  | .engs => 95
  | .keys => 96
  | .jobKeys => 97
  | .decap => 98
  | .frtLo => 99
  | .noroute => 100
  | .dropTick => 101
  | .cores => 102
  | .binds => 103
  | .fences => 104
  | .parts => 105
  | .lineXs => 106
  | .lineTag => 107
  | .eps => 108
  | .skews => 109
  | .yoyoCur => 110
  | .yoyoDue => 111
  | .time => 112
  | .ftNow => 113
  | .ct => 114
  | .colls => 115
  | .taps => 116
  | .nmuDone => 117
  | .cks => 118
  | .rcs => 119
  | .mirs => 120
  | .dgs => 121
  | .fts => 122
  | .sigs => 123
  | .sigAcks => 124
  | .sealTick => 125
  | .faults => 126
  | .sec => 127
  | .mbox => 128
  | .mboxMem => 129
  | .procs => 130
  | .cc => 131
  | .upds => 132
  | .sess => 133
  | .mg => 134
  | .portCnt => 135

/-- One mask lies in another. -/
def Msub (F M : Nat) : Prop := F &&& M = F

theorem Msub.mono {F G M : Nat} (h : Msub F M) (hg : (G &&& F) = G) : Msub G M := by
  unfold Msub at *; rw [← hg, Nat.land_assoc, h]

theorem Msub.has {F M k : Nat} (h : Msub F M) (hk : F.testBit k = true) : M.testBit k = true := by
  have := congrArg (fun n => Nat.testBit n k) h
  simp only [Nat.testBit_and, hk, Bool.true_and] at this
  exact this

/-- Every kind of page is in the mask. -/
def Mall (M : Nat) : Prop := ∀ k, k < 64 → M.testBit k = true

theorem Msub.all {F M : Nat} (h : Msub F M) (hf : (2 ^ 64 - 1 &&& F) = 2 ^ 64 - 1) : Mall M := by
  intro k hk
  refine (h.mono hf).has ?_
  rw [Nat.testBit_two_pow_sub_one]; simp [hk]

/-! ### What only grows -/

theorem Flash.Grows.refl (f : Flash) : Flash.Grows f f :=
  ⟨rfl, rfl, rfl, rfl, rfl, rfl, rfl, rfl, rfl, fun _ => Nat.le_refl _, fun _ h => h, fun h => h⟩

theorem Flash.Grows.trans {f g h : Flash} (a : Flash.Grows f g) (b : Flash.Grows g h) : Flash.Grows f h :=
  ⟨b.serial.trans a.serial, b.stepping.trans a.stepping, b.slotPins.trans a.slotPins, b.mac0.trans a.mac0,
   b.mac1.trans a.mac1, b.rootKey.trans a.rootKey, b.debugKey.trans a.debugKey, b.secret.trans a.secret,
   b.commission.trans a.commission, fun c => Nat.le_trans (a.svn c) (b.svn c), fun k h => b.repair k (a.repair k h), fun h => b.rma (a.rma h)⟩

theorem State.Grows.refl (s : State) : State.Grows s s := ⟨⟨[], by simp⟩, Nat.le_refl _, Flash.Grows.refl _⟩

theorem State.Grows.trans {s t u : State} (a : State.Grows s t) (b : State.Grows t u) : State.Grows s u := by
  obtain ⟨l, hl⟩ := a.out
  obtain ⟨m, hm⟩ := b.out
  exact ⟨⟨l ++ m, by rw [hm, hl, List.append_assoc]⟩, Nat.le_trans a.fresh b.fresh, a.flash.trans b.flash⟩

/-! ### The relation -/

/-- `t` differs from `s` only in the parts of the mask, keeps the invariant, and has lost nothing that only grows. -/
structure Kept (M : Nat) (s t : State) : Prop where
  agree : ∀ p : Part, M.testBit p.bit = false → State.agree p s t
  inv : s.Inv → t.Inv
  grows : State.Grows s t

theorem State.agree_refl (p : Part) (s : State) : State.agree p s s := by
  cases p <;> first | rfl | exact fun _ _ => rfl

theorem State.agree_trans (p : Part) {s t u : State} (a : State.agree p s t) (b : State.agree p t u) : State.agree p s u := by
  cases p <;> first | exact Eq.trans b a | exact fun k hk => (b k hk).trans (a k hk)

theorem Kept.refl (M : Nat) (s : State) : Kept M s s := ⟨fun p _ => State.agree_refl p s, fun h => h, State.Grows.refl s⟩

theorem Kept.trans {M : Nat} {s t u : State} (a : Kept M s t) (b : Kept M t u) : Kept M s u :=
  ⟨fun p hp => State.agree_trans p (a.agree p hp) (b.agree p hp), fun h => b.inv (a.inv h), a.grows.trans b.grows⟩

theorem Kept.of {M : Nat} {s0 s t : State} (h : Kept M s0 s) (ha : ∀ p : Part, M.testBit p.bit = false → State.agree p s t)
    (hi : s.Inv → t.Inv) (hg : State.Grows s t) : Kept M s0 t := h.trans ⟨ha, hi, hg⟩

theorem Kept.ite {M : Nat} {s0 a b : State} {c : Prop} [Decidable c] (ha : Kept M s0 a) (hb : Kept M s0 b) :
    Kept M s0 (if c then a else b) := by split <;> assumption

theorem Kept.ite1 {α : Type} {M : Nat} {s0 : State} {a b : State × α} {c : Prop} [Decidable c] (ha : Kept M s0 a.1) (hb : Kept M s0 b.1) :
    Kept M s0 (if c then a else b).1 := by split <;> assumption

theorem Kept.fst {α : Type} {M : Nat} {s0 t : State} {p : State × α} {x : α} (e : p = (t, x)) (h : Kept M s0 p.1) : Kept M s0 t := by
  rw [e] at h; exact h

theorem Kept.foldl {α : Type} {M : Nat} {s0 s : State} {f : State → α → State} {l : List α} (h : Kept M s0 s)
    (hf : ∀ s x, Kept M s0 s → Kept M s0 (f s x)) : Kept M s0 (l.foldl f s) := by
  induction l generalizing s with
  | nil => exact h
  | cons x t ih => exact ih (hf s x h)

theorem Kept.foldl1 {α β : Type} {M : Nat} {s0 : State} {f : State × β → α → State × β} {l : List α} {p : State × β}
    (h : Kept M s0 p.1) (hf : ∀ p x, Kept M s0 p.1 → Kept M s0 (f p x).1) : Kept M s0 (l.foldl f p).1 := by
  induction l generalizing p with
  | nil => exact h
  | cons x t ih => exact ih (hf p x h)

theorem Kept.each {α : Type} {M : Nat} {s0 s : State} {l : List α} {f : α → State → State} (h : Kept M s0 s)
    (hf : ∀ x s, Kept M s0 s → Kept M s0 (f x s)) : Kept M s0 (s.each l f) :=
  Kept.foldl h (fun s x hs => hf x s hs)

theorem Kept.whenB {M : Nat} {s0 s : State} {b : Bool} {f : State → State} (h : Kept M s0 s)
    (hf : ∀ s, Kept M s0 s → Kept M s0 (f s)) : Kept M s0 (s.whenB b f) := by
  unfold State.whenB; split
  · exact hf s h
  · exact h

theorem Kept.elim {α : Type} {M : Nat} {s0 s : State} {o : Option α} {f : α → State} (h : Kept M s0 s)
    (hf : ∀ x, Kept M s0 (f x)) : Kept M s0 (o.elim s f) := by
  cases o with
  | none => exact h
  | some x => exact hf x

/-- A meaning's next state. -/
def KeptO (M : Nat) (s0 : State) (o : Host.Outcome State Fault Refusal) : Prop := ∀ t, o = .next t → Kept M s0 t

theorem KeptO.next {M : Nat} {s0 t : State} (h : Kept M s0 t) : KeptO M s0 (.next t) := by
  intro u hu; cases hu; exact h

theorem KeptO.ite {M : Nat} {s0 : State} {a b : Host.Outcome State Fault Refusal} {c : Prop} [Decidable c]
    (ha : KeptO M s0 a) (hb : KeptO M s0 b) : KeptO M s0 (if c then a else b) := by split <;> assumption

/-- The invariant where registers, shadow copies, memory, line metadata and the ring counts are as they were. -/
theorem State.Inv.same {s t : State} (h : s.Inv) (hr : t.regs = s.regs) (hs : t.shadow = s.shadow) (hm : t.mem = s.mem)
    (hl : t.lines = s.lines) (hh : t.usedH = s.usedH) (hd : t.usedM = s.usedM) : t.Inv :=
  ⟨hr ▸ h.regs, hs ▸ h.shadow, hm ▸ h.mem, hl ▸ h.lines, hh ▸ h.usedH, hd ▸ h.usedM⟩

/-! ### Pages -/

theorem Page.kind_lt (pg : Page) : pg.kind < 64 := by cases pg <;> simp [Page.kind]

theorem Page.has_ite {M : Nat} {a b : Page} {c : Prop} [Decidable c] (ha : M.testBit a.kind = true) (hb : M.testBit b.kind = true) :
    M.testBit (if c then a else b).kind = true := by split <;> assumption

theorem lchPage_has {M n : Nat} (ha : M.testBit 2 = true) (hb : M.testBit 3 = true) : M.testBit (lchPage n).kind = true := by
  unfold lchPage; split <;> assumption

theorem corePage_has {M : Nat} {s : State} {lc : Nat} {pg : Page} (e : s.corePage lc = some pg) (hk : M.testBit 29 = true) :
    M.testBit pg.kind = true := by
  have : pg.kind = 29 := by
    simp only [State.corePage] at e
    split at e
    · cases e; rfl
    · contradiction
  rw [this]; exact hk

theorem Kept.iteE {M : Nat} {s0 : State} {a b : Eff} {c : Prop} [Decidable c] (ha : Kept M s0 a.s) (hb : Kept M s0 b.s) :
    Kept M s0 (if c then a else b).s := by split <;> assumption

theorem Kept.pairMk {α : Type} {M : Nat} {s0 s : State} {x : α} (h : Kept M s0 s) : Kept M s0 (Prod.mk s x).1 := h

theorem Kept.effMk {M : Nat} {s0 s : State} {b d e f g k l m} (h : Kept M s0 s) : Kept M s0 (Eff.mk s b d e f g k l m).s := h

theorem Eff.ofOut_kept {M : Nat} {s0 : State} {o : State × Flags × Bool} (h : Kept M s0 o.1) : Kept M s0 (Eff.ofOut o).s := h

theorem State.agree_page_all {M k : Nat} {s t : State} (hm : Msub 18446744073709551615 M) (hp : M.testBit (Part.page k).bit = false) :
    ∀ key, key % 64 = k → t.reg key = s.reg key := by
  intro key hk
  have hj : k < 64 := by omega
  simp only [Part.bit, hj, if_true] at hp
  rw [hm.all rfl k hj] at hp
  exact absurd hp Bool.noConfusion

/-! ### Updates of one field -/

theorem Kept.upd_binds {M : Nat} {s0 s : State} {v0} (hm : Msub 10141204801825835211973625643008 M) (h : Kept M s0 s) :
    Kept M s0 { s with binds := v0 } :=
  h.of (fun p hp => by cases p <;> first | rfl | exact fun _ _ => rfl | exact absurd (hm.has rfl) (hp ▸ Bool.false_ne_true))
    (fun hi => hi.same rfl rfl rfl rfl rfl rfl) ⟨⟨[], (List.append_nil s.out).symm⟩, Nat.le_refl _, Flash.Grows.refl _⟩

theorem Kept.upd_bundles {M : Nat} {s0 s : State} {v0} (hm : Msub 618970019642690137449562112 M) (h : Kept M s0 s) :
    Kept M s0 { s with bundles := v0 } :=
  h.of (fun p hp => by cases p <;> first | rfl | exact fun _ _ => rfl | exact absurd (hm.has rfl) (hp ▸ Bool.false_ne_true))
    (fun hi => hi.same rfl rfl rfl rfl rfl rfl) ⟨⟨[], (List.append_nil s.out).symm⟩, Nat.le_refl _, Flash.Grows.refl _⟩

theorem Kept.upd_cc {M : Nat} {s0 s : State} {v0} (hm : Msub 2722258935367507707706996859454145691648 M) (h : Kept M s0 s) :
    Kept M s0 { s with cc := v0 } :=
  h.of (fun p hp => by cases p <;> first | rfl | exact fun _ _ => rfl | exact absurd (hm.has rfl) (hp ▸ Bool.false_ne_true))
    (fun hi => hi.same rfl rfl rfl rfl rfl rfl) ⟨⟨[], (List.append_nil s.out).symm⟩, Nat.le_refl _, Flash.Grows.refl _⟩

theorem Kept.upd_cks {M : Nat} {s0 s : State} {v0} (hm : Msub 332306998946228968225951765070086144 M) (h : Kept M s0 s) :
    Kept M s0 { s with cks := v0 } :=
  h.of (fun p hp => by cases p <;> first | rfl | exact fun _ _ => rfl | exact absurd (hm.has rfl) (hp ▸ Bool.false_ne_true))
    (fun hi => hi.same rfl rfl rfl rfl rfl rfl) ⟨⟨[], (List.append_nil s.out).symm⟩, Nat.le_refl _, Flash.Grows.refl _⟩

theorem Kept.upd_colls {M : Nat} {s0 s : State} {v0} (hm : Msub 41538374868278621028243970633760768 M) (h : Kept M s0 s) :
    Kept M s0 { s with colls := v0 } :=
  h.of (fun p hp => by cases p <;> first | rfl | exact fun _ _ => rfl | exact absurd (hm.has rfl) (hp ▸ Bool.false_ne_true))
    (fun hi => hi.same rfl rfl rfl rfl rfl rfl) ⟨⟨[], (List.append_nil s.out).symm⟩, Nat.le_refl _, Flash.Grows.refl _⟩

theorem Kept.upd_cores {M : Nat} {s0 s : State} {v0} (hm : Msub 5070602400912917605986812821504 M) (h : Kept M s0 s) :
    Kept M s0 { s with cores := v0 } :=
  h.of (fun p hp => by cases p <;> first | rfl | exact fun _ _ => rfl | exact absurd (hm.has rfl) (hp ▸ Bool.false_ne_true))
    (fun hi => hi.same rfl rfl rfl rfl rfl rfl) ⟨⟨[], (List.append_nil s.out).symm⟩, Nat.le_refl _, Flash.Grows.refl _⟩

theorem Kept.upd_ct {M : Nat} {s0 s : State} {v0} (hm : Msub 20769187434139310514121985316880384 M) (h : Kept M s0 s) :
    Kept M s0 { s with ct := v0 } :=
  h.of (fun p hp => by cases p <;> first | rfl | exact fun _ _ => rfl | exact absurd (hm.has rfl) (hp ▸ Bool.false_ne_true))
    (fun hi => hi.same rfl rfl rfl rfl rfl rfl) ⟨⟨[], (List.append_nil s.out).symm⟩, Nat.le_refl _, Flash.Grows.refl _⟩

theorem Kept.upd_decap {M : Nat} {s0 s : State} {v0} (hm : Msub 316912650057057350374175801344 M) (h : Kept M s0 s) :
    Kept M s0 { s with decap := v0 } :=
  h.of (fun p hp => by cases p <;> first | rfl | exact fun _ _ => rfl | exact absurd (hm.has rfl) (hp ▸ Bool.false_ne_true))
    (fun hi => hi.same rfl rfl rfl rfl rfl rfl) ⟨⟨[], (List.append_nil s.out).symm⟩, Nat.le_refl _, Flash.Grows.refl _⟩

theorem Kept.upd_dgs {M : Nat} {s0 s : State} {v0} (hm : Msub 2658455991569831745807614120560689152 M) (h : Kept M s0 s) :
    Kept M s0 { s with dgs := v0 } :=
  h.of (fun p hp => by cases p <;> first | rfl | exact fun _ _ => rfl | exact absurd (hm.has rfl) (hp ▸ Bool.false_ne_true))
    (fun hi => hi.same rfl rfl rfl rfl rfl rfl) ⟨⟨[], (List.append_nil s.out).symm⟩, Nat.le_refl _, Flash.Grows.refl _⟩

theorem Kept.upd_dropTick {M : Nat} {s0 s : State} {v0} (hm : Msub 2535301200456458802993406410752 M) (h : Kept M s0 s) :
    Kept M s0 { s with dropTick := v0 } :=
  h.of (fun p hp => by cases p <;> first | rfl | exact fun _ _ => rfl | exact absurd (hm.has rfl) (hp ▸ Bool.false_ne_true))
    (fun hi => hi.same rfl rfl rfl rfl rfl rfl) ⟨⟨[], (List.append_nil s.out).symm⟩, Nat.le_refl _, Flash.Grows.refl _⟩

theorem Kept.upd_engs {M : Nat} {s0 s : State} {v0} (hm : Msub 39614081257132168796771975168 M) (h : Kept M s0 s) :
    Kept M s0 { s with engs := v0 } :=
  h.of (fun p hp => by cases p <;> first | rfl | exact fun _ _ => rfl | exact absurd (hm.has rfl) (hp ▸ Bool.false_ne_true))
    (fun hi => hi.same rfl rfl rfl rfl rfl rfl) ⟨⟨[], (List.append_nil s.out).symm⟩, Nat.le_refl _, Flash.Grows.refl _⟩

theorem Kept.upd_eps {M : Nat} {s0 s : State} {v0} (hm : Msub 324518553658426726783156020576256 M) (h : Kept M s0 s) :
    Kept M s0 { s with eps := v0 } :=
  h.of (fun p hp => by cases p <;> first | rfl | exact fun _ _ => rfl | exact absurd (hm.has rfl) (hp ▸ Bool.false_ne_true))
    (fun hi => hi.same rfl rfl rfl rfl rfl rfl) ⟨⟨[], (List.append_nil s.out).symm⟩, Nat.le_refl _, Flash.Grows.refl _⟩

theorem Kept.upd_faults {M : Nat} {s0 s : State} {v0} (hm : Msub 85070591730234615865843651857942052864 M) (h : Kept M s0 s) :
    Kept M s0 { s with faults := v0 } :=
  h.of (fun p hp => by cases p <;> first | rfl | exact fun _ _ => rfl | exact absurd (hm.has rfl) (hp ▸ Bool.false_ne_true))
    (fun hi => hi.same rfl rfl rfl rfl rfl rfl) ⟨⟨[], (List.append_nil s.out).symm⟩, Nat.le_refl _, Flash.Grows.refl _⟩

theorem Kept.upd_fences {M : Nat} {s0 s : State} {v0} (hm : Msub 20282409603651670423947251286016 M) (h : Kept M s0 s) :
    Kept M s0 { s with fences := v0 } :=
  h.of (fun p hp => by cases p <;> first | rfl | exact fun _ _ => rfl | exact absurd (hm.has rfl) (hp ▸ Bool.false_ne_true))
    (fun hi => hi.same rfl rfl rfl rfl rfl rfl) ⟨⟨[], (List.append_nil s.out).symm⟩, Nat.le_refl _, Flash.Grows.refl _⟩

theorem Kept.upd_flash {M : Nat} {s0 s : State} {v0} (hm : Msub 2361183241434822606848 M) (g0 : Flash.Grows s.flash v0) (h : Kept M s0 s) :
    Kept M s0 { s with flash := v0 } :=
  h.of (fun p hp => by cases p <;> first | rfl | exact fun _ _ => rfl | exact absurd (hm.has rfl) (hp ▸ Bool.false_ne_true))
    (fun hi => hi.same rfl rfl rfl rfl rfl rfl) ⟨⟨[], (List.append_nil s.out).symm⟩, Nat.le_refl _, g0⟩

theorem Kept.upd_flip {M : Nat} {s0 s : State} {v0} (hm : Msub 4722366482869645213696 M) (h : Kept M s0 s) :
    Kept M s0 { s with flip := v0 } :=
  h.of (fun p hp => by cases p <;> first | rfl | exact fun _ _ => rfl | exact absurd (hm.has rfl) (hp ▸ Bool.false_ne_true))
    (fun hi => hi.same rfl rfl rfl rfl rfl rfl) ⟨⟨[], (List.append_nil s.out).symm⟩, Nat.le_refl _, Flash.Grows.refl _⟩

theorem Kept.upd_fresh {M : Nat} {s0 s : State} {v0} (hm : Msub 590295810358705651712 M) (g0 : s.fresh ≤ v0) (h : Kept M s0 s) :
    Kept M s0 { s with fresh := v0 } :=
  h.of (fun p hp => by cases p <;> first | rfl | exact fun _ _ => rfl | exact absurd (hm.has rfl) (hp ▸ Bool.false_ne_true))
    (fun hi => hi.same rfl rfl rfl rfl rfl rfl) ⟨⟨[], (List.append_nil s.out).symm⟩, g0, Flash.Grows.refl _⟩

theorem Kept.upd_frtLo {M : Nat} {s0 s : State} {v0} (hm : Msub 633825300114114700748351602688 M) (h : Kept M s0 s) :
    Kept M s0 { s with frtLo := v0 } :=
  h.of (fun p hp => by cases p <;> first | rfl | exact fun _ _ => rfl | exact absurd (hm.has rfl) (hp ▸ Bool.false_ne_true))
    (fun hi => hi.same rfl rfl rfl rfl rfl rfl) ⟨⟨[], (List.append_nil s.out).symm⟩, Nat.le_refl _, Flash.Grows.refl _⟩

theorem Kept.upd_ftNow {M : Nat} {s0 s : State} {v0} (hm : Msub 10384593717069655257060992658440192 M) (h : Kept M s0 s) :
    Kept M s0 { s with ftNow := v0 } :=
  h.of (fun p hp => by cases p <;> first | rfl | exact fun _ _ => rfl | exact absurd (hm.has rfl) (hp ▸ Bool.false_ne_true))
    (fun hi => hi.same rfl rfl rfl rfl rfl rfl) ⟨⟨[], (List.append_nil s.out).symm⟩, Nat.le_refl _, Flash.Grows.refl _⟩

theorem Kept.upd_fts {M : Nat} {s0 s : State} {v0} (hm : Msub 5316911983139663491615228241121378304 M) (h : Kept M s0 s) :
    Kept M s0 { s with fts := v0 } :=
  h.of (fun p hp => by cases p <;> first | rfl | exact fun _ _ => rfl | exact absurd (hm.has rfl) (hp ▸ Bool.false_ne_true))
    (fun hi => hi.same rfl rfl rfl rfl rfl rfl) ⟨⟨[], (List.append_nil s.out).symm⟩, Nat.le_refl _, Flash.Grows.refl _⟩

theorem Kept.upd_heldH {M : Nat} {s0 s : State} {v0} (hm : Msub 302231454903657293676544 M) (h : Kept M s0 s) :
    Kept M s0 { s with heldH := v0 } :=
  h.of (fun p hp => by cases p <;> first | rfl | exact fun _ _ => rfl | exact absurd (hm.has rfl) (hp ▸ Bool.false_ne_true))
    (fun hi => hi.same rfl rfl rfl rfl rfl rfl) ⟨⟨[], (List.append_nil s.out).symm⟩, Nat.le_refl _, Flash.Grows.refl _⟩

theorem Kept.upd_heldM {M : Nat} {s0 s : State} {v0} (hm : Msub 604462909807314587353088 M) (h : Kept M s0 s) :
    Kept M s0 { s with heldM := v0 } :=
  h.of (fun p hp => by cases p <;> first | rfl | exact fun _ _ => rfl | exact absurd (hm.has rfl) (hp ▸ Bool.false_ne_true))
    (fun hi => hi.same rfl rfl rfl rfl rfl rfl) ⟨⟨[], (List.append_nil s.out).symm⟩, Nat.le_refl _, Flash.Grows.refl _⟩

theorem Kept.upd_jobKeys {M : Nat} {s0 s : State} {v0} (hm : Msub 158456325028528675187087900672 M) (h : Kept M s0 s) :
    Kept M s0 { s with jobKeys := v0 } :=
  h.of (fun p hp => by cases p <;> first | rfl | exact fun _ _ => rfl | exact absurd (hm.has rfl) (hp ▸ Bool.false_ne_true))
    (fun hi => hi.same rfl rfl rfl rfl rfl rfl) ⟨⟨[], (List.append_nil s.out).symm⟩, Nat.le_refl _, Flash.Grows.refl _⟩

theorem Kept.upd_keys {M : Nat} {s0 s : State} {v0} (hm : Msub 79228162514264337593543950336 M) (h : Kept M s0 s) :
    Kept M s0 { s with keys := v0 } :=
  h.of (fun p hp => by cases p <;> first | rfl | exact fun _ _ => rfl | exact absurd (hm.has rfl) (hp ▸ Bool.false_ne_true))
    (fun hi => hi.same rfl rfl rfl rfl rfl rfl) ⟨⟨[], (List.append_nil s.out).symm⟩, Nat.le_refl _, Flash.Grows.refl _⟩

theorem Kept.upd_lanes {M : Nat} {s0 s : State} {v0} (hm : Msub 1237940039285380274899124224 M) (h : Kept M s0 s) :
    Kept M s0 { s with lanes := v0 } :=
  h.of (fun p hp => by cases p <;> first | rfl | exact fun _ _ => rfl | exact absurd (hm.has rfl) (hp ▸ Bool.false_ne_true))
    (fun hi => hi.same rfl rfl rfl rfl rfl rfl) ⟨⟨[], (List.append_nil s.out).symm⟩, Nat.le_refl _, Flash.Grows.refl _⟩

theorem Kept.upd_lineTag {M : Nat} {s0 s : State} {v0} (hm : Msub 162259276829213363391578010288128 M) (h : Kept M s0 s) :
    Kept M s0 { s with lineTag := v0 } :=
  h.of (fun p hp => by cases p <;> first | rfl | exact fun _ _ => rfl | exact absurd (hm.has rfl) (hp ▸ Bool.false_ne_true))
    (fun hi => hi.same rfl rfl rfl rfl rfl rfl) ⟨⟨[], (List.append_nil s.out).symm⟩, Nat.le_refl _, Flash.Grows.refl _⟩

theorem Kept.upd_lineXs {M : Nat} {s0 s : State} {v0} (hm : Msub 81129638414606681695789005144064 M) (h : Kept M s0 s) :
    Kept M s0 { s with lineXs := v0 } :=
  h.of (fun p hp => by cases p <;> first | rfl | exact fun _ _ => rfl | exact absurd (hm.has rfl) (hp ▸ Bool.false_ne_true))
    (fun hi => hi.same rfl rfl rfl rfl rfl rfl) ⟨⟨[], (List.append_nil s.out).symm⟩, Nat.le_refl _, Flash.Grows.refl _⟩

theorem Kept.upd_lines {M : Nat} {s0 s : State} {v0} (hm : Msub 147573952589676412928 M) (g0 : smWf (fun _ => (default : LineMeta)) s.lines = true → smWf (fun _ => (default : LineMeta)) v0 = true) (h : Kept M s0 s) :
    Kept M s0 { s with lines := v0 } :=
  h.of (fun p hp => by cases p <;> first | rfl | exact fun _ _ => rfl | exact absurd (hm.has rfl) (hp ▸ Bool.false_ne_true))
    (fun hi => ⟨hi.regs, hi.shadow, hi.mem, g0 hi.lines, hi.usedH, hi.usedM⟩) ⟨⟨[], (List.append_nil s.out).symm⟩, Nat.le_refl _, Flash.Grows.refl _⟩

theorem Kept.upd_mats {M : Nat} {s0 s : State} {v0} (hm : Msub 38685626227668133590597632 M) (h : Kept M s0 s) :
    Kept M s0 { s with mats := v0 } :=
  h.of (fun p hp => by cases p <;> first | rfl | exact fun _ _ => rfl | exact absurd (hm.has rfl) (hp ▸ Bool.false_ne_true))
    (fun hi => hi.same rfl rfl rfl rfl rfl rfl) ⟨⟨[], (List.append_nil s.out).symm⟩, Nat.le_refl _, Flash.Grows.refl _⟩

theorem Kept.upd_mbox {M : Nat} {s0 s : State} {v0} (hm : Msub 340282366920938463463374607431768211456 M) (h : Kept M s0 s) :
    Kept M s0 { s with mbox := v0 } :=
  h.of (fun p hp => by cases p <;> first | rfl | exact fun _ _ => rfl | exact absurd (hm.has rfl) (hp ▸ Bool.false_ne_true))
    (fun hi => hi.same rfl rfl rfl rfl rfl rfl) ⟨⟨[], (List.append_nil s.out).symm⟩, Nat.le_refl _, Flash.Grows.refl _⟩

theorem Kept.upd_mboxMem {M : Nat} {s0 s : State} {v0} (hm : Msub 680564733841876926926749214863536422912 M) (h : Kept M s0 s) :
    Kept M s0 { s with mboxMem := v0 } :=
  h.of (fun p hp => by cases p <;> first | rfl | exact fun _ _ => rfl | exact absurd (hm.has rfl) (hp ▸ Bool.false_ne_true))
    (fun hi => hi.same rfl rfl rfl rfl rfl rfl) ⟨⟨[], (List.append_nil s.out).symm⟩, Nat.le_refl _, Flash.Grows.refl _⟩

theorem Kept.upd_mem {M : Nat} {s0 s : State} {v0} (hm : Msub 73786976294838206464 M) (g0 : memWf s.mem = true → memWf v0 = true) (h : Kept M s0 s) :
    Kept M s0 { s with mem := v0 } :=
  h.of (fun p hp => by cases p <;> first | rfl | exact fun _ _ => rfl | exact absurd (hm.has rfl) (hp ▸ Bool.false_ne_true))
    (fun hi => ⟨hi.regs, hi.shadow, g0 hi.mem, hi.lines, hi.usedH, hi.usedM⟩) ⟨⟨[], (List.append_nil s.out).symm⟩, Nat.le_refl _, Flash.Grows.refl _⟩

theorem Kept.upd_mg {M : Nat} {s0 s : State} {v0} (hm : Msub 21778071482940061661655974875633165533184 M) (h : Kept M s0 s) :
    Kept M s0 { s with mg := v0 } :=
  h.of (fun p hp => by cases p <;> first | rfl | exact fun _ _ => rfl | exact absurd (hm.has rfl) (hp ▸ Bool.false_ne_true))
    (fun hi => hi.same rfl rfl rfl rfl rfl rfl) ⟨⟨[], (List.append_nil s.out).symm⟩, Nat.le_refl _, Flash.Grows.refl _⟩

theorem Kept.upd_mirs {M : Nat} {s0 s : State} {v0} (hm : Msub 1329227995784915872903807060280344576 M) (h : Kept M s0 s) :
    Kept M s0 { s with mirs := v0 } :=
  h.of (fun p hp => by cases p <;> first | rfl | exact fun _ _ => rfl | exact absurd (hm.has rfl) (hp ▸ Bool.false_ne_true))
    (fun hi => hi.same rfl rfl rfl rfl rfl rfl) ⟨⟨[], (List.append_nil s.out).symm⟩, Nat.le_refl _, Flash.Grows.refl _⟩

theorem Kept.upd_mod_ {M : Nat} {s0 s : State} {v0} (hm : Msub 1180591620717411303424 M) (h : Kept M s0 s) :
    Kept M s0 { s with mod_ := v0 } :=
  h.of (fun p hp => by cases p <;> first | rfl | exact fun _ _ => rfl | exact absurd (hm.has rfl) (hp ▸ Bool.false_ne_true))
    (fun hi => hi.same rfl rfl rfl rfl rfl rfl) ⟨⟨[], (List.append_nil s.out).symm⟩, Nat.le_refl _, Flash.Grows.refl _⟩

theorem Kept.upd_nmuDone {M : Nat} {s0 s : State} {v0} (hm : Msub 166153499473114484112975882535043072 M) (h : Kept M s0 s) :
    Kept M s0 { s with nmuDone := v0 } :=
  h.of (fun p hp => by cases p <;> first | rfl | exact fun _ _ => rfl | exact absurd (hm.has rfl) (hp ▸ Bool.false_ne_true))
    (fun hi => hi.same rfl rfl rfl rfl rfl rfl) ⟨⟨[], (List.append_nil s.out).symm⟩, Nat.le_refl _, Flash.Grows.refl _⟩

theorem Kept.upd_nmus {M : Nat} {s0 s : State} {v0} (hm : Msub 77371252455336267181195264 M) (h : Kept M s0 s) :
    Kept M s0 { s with nmus := v0 } :=
  h.of (fun p hp => by cases p <;> first | rfl | exact fun _ _ => rfl | exact absurd (hm.has rfl) (hp ▸ Bool.false_ne_true))
    (fun hi => hi.same rfl rfl rfl rfl rfl rfl) ⟨⟨[], (List.append_nil s.out).symm⟩, Nat.le_refl _, Flash.Grows.refl _⟩

theorem Kept.upd_noroute {M : Nat} {s0 s : State} {v0} (hm : Msub 1267650600228229401496703205376 M) (h : Kept M s0 s) :
    Kept M s0 { s with noroute := v0 } :=
  h.of (fun p hp => by cases p <;> first | rfl | exact fun _ _ => rfl | exact absurd (hm.has rfl) (hp ▸ Bool.false_ne_true))
    (fun hi => hi.same rfl rfl rfl rfl rfl rfl) ⟨⟨[], (List.append_nil s.out).symm⟩, Nat.le_refl _, Flash.Grows.refl _⟩

theorem Kept.upd_outst {M : Nat} {s0 s : State} {v0} (hm : Msub 4951760157141521099596496896 M) (h : Kept M s0 s) :
    Kept M s0 { s with outst := v0 } :=
  h.of (fun p hp => by cases p <;> first | rfl | exact fun _ _ => rfl | exact absurd (hm.has rfl) (hp ▸ Bool.false_ne_true))
    (fun hi => hi.same rfl rfl rfl rfl rfl rfl) ⟨⟨[], (List.append_nil s.out).symm⟩, Nat.le_refl _, Flash.Grows.refl _⟩

theorem Kept.upd_parts {M : Nat} {s0 s : State} {v0} (hm : Msub 40564819207303340847894502572032 M) (h : Kept M s0 s) :
    Kept M s0 { s with parts := v0 } :=
  h.of (fun p hp => by cases p <;> first | rfl | exact fun _ _ => rfl | exact absurd (hm.has rfl) (hp ▸ Bool.false_ne_true))
    (fun hi => hi.same rfl rfl rfl rfl rfl rfl) ⟨⟨[], (List.append_nil s.out).symm⟩, Nat.le_refl _, Flash.Grows.refl _⟩

theorem Kept.upd_plan {M : Nat} {s0 s : State} {v0} (hm : Msub 9903520314283042199192993792 M) (h : Kept M s0 s) :
    Kept M s0 { s with plan := v0 } :=
  h.of (fun p hp => by cases p <;> first | rfl | exact fun _ _ => rfl | exact absurd (hm.has rfl) (hp ▸ Bool.false_ne_true))
    (fun hi => hi.same rfl rfl rfl rfl rfl rfl) ⟨⟨[], (List.append_nil s.out).symm⟩, Nat.le_refl _, Flash.Grows.refl _⟩

theorem Kept.upd_portCnt {M : Nat} {s0 s : State} {v0} (hm : Msub 43556142965880123323311949751266331066368 M) (h : Kept M s0 s) :
    Kept M s0 { s with portCnt := v0 } :=
  h.of (fun p hp => by cases p <;> first | rfl | exact fun _ _ => rfl | exact absurd (hm.has rfl) (hp ▸ Bool.false_ne_true))
    (fun hi => hi.same rfl rfl rfl rfl rfl rfl) ⟨⟨[], (List.append_nil s.out).symm⟩, Nat.le_refl _, Flash.Grows.refl _⟩

theorem Kept.upd_ports {M : Nat} {s0 s : State} {v0} (hm : Msub 2475880078570760549798248448 M) (h : Kept M s0 s) :
    Kept M s0 { s with ports := v0 } :=
  h.of (fun p hp => by cases p <;> first | rfl | exact fun _ _ => rfl | exact absurd (hm.has rfl) (hp ▸ Bool.false_ne_true))
    (fun hi => hi.same rfl rfl rfl rfl rfl rfl) ⟨⟨[], (List.append_nil s.out).symm⟩, Nat.le_refl _, Flash.Grows.refl _⟩

theorem Kept.upd_procs {M : Nat} {s0 s : State} {v0} (hm : Msub 1361129467683753853853498429727072845824 M) (h : Kept M s0 s) :
    Kept M s0 { s with procs := v0 } :=
  h.of (fun p hp => by cases p <;> first | rfl | exact fun _ _ => rfl | exact absurd (hm.has rfl) (hp ▸ Bool.false_ne_true))
    (fun hi => hi.same rfl rfl rfl rfl rfl rfl) ⟨⟨[], (List.append_nil s.out).symm⟩, Nat.le_refl _, Flash.Grows.refl _⟩

theorem Kept.upd_progs {M : Nat} {s0 s : State} {v0} (hm : Msub 75557863725914323419136 M) (h : Kept M s0 s) :
    Kept M s0 { s with progs := v0 } :=
  h.of (fun p hp => by cases p <;> first | rfl | exact fun _ _ => rfl | exact absurd (hm.has rfl) (hp ▸ Bool.false_ne_true))
    (fun hi => hi.same rfl rfl rfl rfl rfl rfl) ⟨⟨[], (List.append_nil s.out).symm⟩, Nat.le_refl _, Flash.Grows.refl _⟩

theorem Kept.upd_rcs {M : Nat} {s0 s : State} {v0} (hm : Msub 664613997892457936451903530140172288 M) (h : Kept M s0 s) :
    Kept M s0 { s with rcs := v0 } :=
  h.of (fun p hp => by cases p <;> first | rfl | exact fun _ _ => rfl | exact absurd (hm.has rfl) (hp ▸ Bool.false_ne_true))
    (fun hi => hi.same rfl rfl rfl rfl rfl rfl) ⟨⟨[], (List.append_nil s.out).symm⟩, Nat.le_refl _, Flash.Grows.refl _⟩

theorem Kept.upd_reads {M : Nat} {s0 s : State} {v0} (hm : Msub 19342813113834066795298816 M) (h : Kept M s0 s) :
    Kept M s0 { s with reads := v0 } :=
  h.of (fun p hp => by cases p <;> first | rfl | exact fun _ _ => rfl | exact absurd (hm.has rfl) (hp ▸ Bool.false_ne_true))
    (fun hi => hi.same rfl rfl rfl rfl rfl rfl) ⟨⟨[], (List.append_nil s.out).symm⟩, Nat.le_refl _, Flash.Grows.refl _⟩

theorem Kept.upd_regs {M : Nat} {s0 s : State} {v0} (hm : Msub 18446744073709551615 M) (g0 : smWf regDefault s.regs = true → smWf regDefault v0 = true) (h : Kept M s0 s) :
    Kept M s0 { s with regs := v0 } :=
  h.of (fun p hp => by cases p <;> first | rfl | exact State.agree_page_all (hm.mono rfl) hp | exact absurd (hm.has rfl) (hp ▸ Bool.false_ne_true))
    (fun hi => ⟨g0 hi.regs, hi.shadow, hi.mem, hi.lines, hi.usedH, hi.usedM⟩) ⟨⟨[], (List.append_nil s.out).symm⟩, Nat.le_refl _, Flash.Grows.refl _⟩

theorem Kept.upd_resets {M : Nat} {s0 s : State} {v0} (hm : Msub 309485009821345068724781056 M) (h : Kept M s0 s) :
    Kept M s0 { s with resets := v0 } :=
  h.of (fun p hp => by cases p <;> first | rfl | exact fun _ _ => rfl | exact absurd (hm.has rfl) (hp ▸ Bool.false_ne_true))
    (fun hi => hi.same rfl rfl rfl rfl rfl rfl) ⟨⟨[], (List.append_nil s.out).symm⟩, Nat.le_refl _, Flash.Grows.refl _⟩

theorem Kept.upd_ring {M : Nat} {s0 s : State} {v0} (hm : Msub 151115727451828646838272 M) (h : Kept M s0 s) :
    Kept M s0 { s with ring := v0 } :=
  h.of (fun p hp => by cases p <;> first | rfl | exact fun _ _ => rfl | exact absurd (hm.has rfl) (hp ▸ Bool.false_ne_true))
    (fun hi => hi.same rfl rfl rfl rfl rfl rfl) ⟨⟨[], (List.append_nil s.out).symm⟩, Nat.le_refl _, Flash.Grows.refl _⟩

theorem Kept.upd_rings {M : Nat} {s0 s : State} {v0} (hm : Msub 19807040628566084398385987584 M) (h : Kept M s0 s) :
    Kept M s0 { s with rings := v0 } :=
  h.of (fun p hp => by cases p <;> first | rfl | exact fun _ _ => rfl | exact absurd (hm.has rfl) (hp ▸ Bool.false_ne_true))
    (fun hi => hi.same rfl rfl rfl rfl rfl rfl) ⟨⟨[], (List.append_nil s.out).symm⟩, Nat.le_refl _, Flash.Grows.refl _⟩

theorem Kept.upd_sealTick {M : Nat} {s0 s : State} {v0} (hm : Msub 42535295865117307932921825928971026432 M) (h : Kept M s0 s) :
    Kept M s0 { s with sealTick := v0 } :=
  h.of (fun p hp => by cases p <;> first | rfl | exact fun _ _ => rfl | exact absurd (hm.has rfl) (hp ▸ Bool.false_ne_true))
    (fun hi => hi.same rfl rfl rfl rfl rfl rfl) ⟨⟨[], (List.append_nil s.out).symm⟩, Nat.le_refl _, Flash.Grows.refl _⟩

theorem Kept.upd_seals {M : Nat} {s0 s : State} {v0} (hm : Msub 154742504910672534362390528 M) (h : Kept M s0 s) :
    Kept M s0 { s with seals := v0 } :=
  h.of (fun p hp => by cases p <;> first | rfl | exact fun _ _ => rfl | exact absurd (hm.has rfl) (hp ▸ Bool.false_ne_true))
    (fun hi => hi.same rfl rfl rfl rfl rfl rfl) ⟨⟨[], (List.append_nil s.out).symm⟩, Nat.le_refl _, Flash.Grows.refl _⟩

theorem Kept.upd_sec {M : Nat} {s0 s : State} {v0} (hm : Msub 170141183460469231731687303715884105728 M) (h : Kept M s0 s) :
    Kept M s0 { s with sec := v0 } :=
  h.of (fun p hp => by cases p <;> first | rfl | exact fun _ _ => rfl | exact absurd (hm.has rfl) (hp ▸ Bool.false_ne_true))
    (fun hi => hi.same rfl rfl rfl rfl rfl rfl) ⟨⟨[], (List.append_nil s.out).symm⟩, Nat.le_refl _, Flash.Grows.refl _⟩

theorem Kept.upd_semTick {M : Nat} {s0 s : State} {v0} (hm : Msub 9444732965739290427392 M) (h : Kept M s0 s) :
    Kept M s0 { s with semTick := v0 } :=
  h.of (fun p hp => by cases p <;> first | rfl | exact fun _ _ => rfl | exact absurd (hm.has rfl) (hp ▸ Bool.false_ne_true))
    (fun hi => hi.same rfl rfl rfl rfl rfl rfl) ⟨⟨[], (List.append_nil s.out).symm⟩, Nat.le_refl _, Flash.Grows.refl _⟩

theorem Kept.upd_semTie {M : Nat} {s0 s : State} {v0} (hm : Msub 18889465931478580854784 M) (h : Kept M s0 s) :
    Kept M s0 { s with semTie := v0 } :=
  h.of (fun p hp => by cases p <;> first | rfl | exact fun _ _ => rfl | exact absurd (hm.has rfl) (hp ▸ Bool.false_ne_true))
    (fun hi => hi.same rfl rfl rfl rfl rfl rfl) ⟨⟨[], (List.append_nil s.out).symm⟩, Nat.le_refl _, Flash.Grows.refl _⟩

theorem Kept.upd_seqs {M : Nat} {s0 s : State} {v0} (hm : Msub 4835703278458516698824704 M) (h : Kept M s0 s) :
    Kept M s0 { s with seqs := v0 } :=
  h.of (fun p hp => by cases p <;> first | rfl | exact fun _ _ => rfl | exact absurd (hm.has rfl) (hp ▸ Bool.false_ne_true))
    (fun hi => hi.same rfl rfl rfl rfl rfl rfl) ⟨⟨[], (List.append_nil s.out).symm⟩, Nat.le_refl _, Flash.Grows.refl _⟩

theorem Kept.upd_sess {M : Nat} {s0 s : State} {v0} (hm : Msub 10889035741470030830827987437816582766592 M) (h : Kept M s0 s) :
    Kept M s0 { s with sess := v0 } :=
  h.of (fun p hp => by cases p <;> first | rfl | exact fun _ _ => rfl | exact absurd (hm.has rfl) (hp ▸ Bool.false_ne_true))
    (fun hi => hi.same rfl rfl rfl rfl rfl rfl) ⟨⟨[], (List.append_nil s.out).symm⟩, Nat.le_refl _, Flash.Grows.refl _⟩

theorem Kept.upd_shadow {M : Nat} {s0 s : State} {v0} (hm : Msub 36893488147419103232 M) (g0 : smRisesFrom none s.shadow = true → smRisesFrom none v0 = true) (h : Kept M s0 s) :
    Kept M s0 { s with shadow := v0 } :=
  h.of (fun p hp => by cases p <;> first | rfl | exact fun _ _ => rfl | exact absurd (hm.has rfl) (hp ▸ Bool.false_ne_true))
    (fun hi => ⟨hi.regs, g0 hi.shadow, hi.mem, hi.lines, hi.usedH, hi.usedM⟩) ⟨⟨[], (List.append_nil s.out).symm⟩, Nat.le_refl _, Flash.Grows.refl _⟩

theorem Kept.upd_sigAcks {M : Nat} {s0 s : State} {v0} (hm : Msub 21267647932558653966460912964485513216 M) (h : Kept M s0 s) :
    Kept M s0 { s with sigAcks := v0 } :=
  h.of (fun p hp => by cases p <;> first | rfl | exact fun _ _ => rfl | exact absurd (hm.has rfl) (hp ▸ Bool.false_ne_true))
    (fun hi => hi.same rfl rfl rfl rfl rfl rfl) ⟨⟨[], (List.append_nil s.out).symm⟩, Nat.le_refl _, Flash.Grows.refl _⟩

theorem Kept.upd_sigs {M : Nat} {s0 s : State} {v0} (hm : Msub 10633823966279326983230456482242756608 M) (h : Kept M s0 s) :
    Kept M s0 { s with sigs := v0 } :=
  h.of (fun p hp => by cases p <;> first | rfl | exact fun _ _ => rfl | exact absurd (hm.has rfl) (hp ▸ Bool.false_ne_true))
    (fun hi => hi.same rfl rfl rfl rfl rfl rfl) ⟨⟨[], (List.append_nil s.out).symm⟩, Nat.le_refl _, Flash.Grows.refl _⟩

theorem Kept.upd_skews {M : Nat} {s0 s : State} {v0} (hm : Msub 649037107316853453566312041152512 M) (h : Kept M s0 s) :
    Kept M s0 { s with skews := v0 } :=
  h.of (fun p hp => by cases p <;> first | rfl | exact fun _ _ => rfl | exact absurd (hm.has rfl) (hp ▸ Bool.false_ne_true))
    (fun hi => hi.same rfl rfl rfl rfl rfl rfl) ⟨⟨[], (List.append_nil s.out).symm⟩, Nat.le_refl _, Flash.Grows.refl _⟩

theorem Kept.upd_slots {M : Nat} {s0 s : State} {v0} (hm : Msub 37778931862957161709568 M) (h : Kept M s0 s) :
    Kept M s0 { s with slots := v0 } :=
  h.of (fun p hp => by cases p <;> first | rfl | exact fun _ _ => rfl | exact absurd (hm.has rfl) (hp ▸ Bool.false_ne_true))
    (fun hi => hi.same rfl rfl rfl rfl rfl rfl) ⟨⟨[], (List.append_nil s.out).symm⟩, Nat.le_refl _, Flash.Grows.refl _⟩

theorem Kept.upd_stks {M : Nat} {s0 s : State} {v0} (hm : Msub 9671406556917033397649408 M) (h : Kept M s0 s) :
    Kept M s0 { s with stks := v0 } :=
  h.of (fun p hp => by cases p <;> first | rfl | exact fun _ _ => rfl | exact absurd (hm.has rfl) (hp ▸ Bool.false_ne_true))
    (fun hi => hi.same rfl rfl rfl rfl rfl rfl) ⟨⟨[], (List.append_nil s.out).symm⟩, Nat.le_refl _, Flash.Grows.refl _⟩

theorem Kept.upd_taps {M : Nat} {s0 s : State} {v0} (hm : Msub 83076749736557242056487941267521536 M) (h : Kept M s0 s) :
    Kept M s0 { s with taps := v0 } :=
  h.of (fun p hp => by cases p <;> first | rfl | exact fun _ _ => rfl | exact absurd (hm.has rfl) (hp ▸ Bool.false_ne_true))
    (fun hi => hi.same rfl rfl rfl rfl rfl rfl) ⟨⟨[], (List.append_nil s.out).symm⟩, Nat.le_refl _, Flash.Grows.refl _⟩

theorem Kept.upd_time {M : Nat} {s0 s : State} {v0} (hm : Msub 5192296858534827628530496329220096 M) (h : Kept M s0 s) :
    Kept M s0 { s with time := v0 } :=
  h.of (fun p hp => by cases p <;> first | rfl | exact fun _ _ => rfl | exact absurd (hm.has rfl) (hp ▸ Bool.false_ne_true))
    (fun hi => hi.same rfl rfl rfl rfl rfl rfl) ⟨⟨[], (List.append_nil s.out).symm⟩, Nat.le_refl _, Flash.Grows.refl _⟩

theorem Kept.upd_upds {M : Nat} {s0 s : State} {v0} (hm : Msub 5444517870735015415413993718908291383296 M) (h : Kept M s0 s) :
    Kept M s0 { s with upds := v0 } :=
  h.of (fun p hp => by cases p <;> first | rfl | exact fun _ _ => rfl | exact absurd (hm.has rfl) (hp ▸ Bool.false_ne_true))
    (fun hi => hi.same rfl rfl rfl rfl rfl rfl) ⟨⟨[], (List.append_nil s.out).symm⟩, Nat.le_refl _, Flash.Grows.refl _⟩

theorem Kept.upd_usedH {M : Nat} {s0 s : State} {v0} (hm : Msub 1208925819614629174706176 M) (g0 : s.usedH ≤ 4096 → v0 ≤ 4096) (h : Kept M s0 s) :
    Kept M s0 { s with usedH := v0 } :=
  h.of (fun p hp => by cases p <;> first | rfl | exact fun _ _ => rfl | exact absurd (hm.has rfl) (hp ▸ Bool.false_ne_true))
    (fun hi => ⟨hi.regs, hi.shadow, hi.mem, hi.lines, g0 hi.usedH, hi.usedM⟩) ⟨⟨[], (List.append_nil s.out).symm⟩, Nat.le_refl _, Flash.Grows.refl _⟩

theorem Kept.upd_usedM {M : Nat} {s0 s : State} {v0} (hm : Msub 2417851639229258349412352 M) (g0 : s.usedM ≤ 4096 → v0 ≤ 4096) (h : Kept M s0 s) :
    Kept M s0 { s with usedM := v0 } :=
  h.of (fun p hp => by cases p <;> first | rfl | exact fun _ _ => rfl | exact absurd (hm.has rfl) (hp ▸ Bool.false_ne_true))
    (fun hi => ⟨hi.regs, hi.shadow, hi.mem, hi.lines, hi.usedH, g0 hi.usedM⟩) ⟨⟨[], (List.append_nil s.out).symm⟩, Nat.le_refl _, Flash.Grows.refl _⟩

theorem Kept.upd_yoyoCur {M : Nat} {s0 s : State} {v0} (hm : Msub 1298074214633706907132624082305024 M) (h : Kept M s0 s) :
    Kept M s0 { s with yoyoCur := v0 } :=
  h.of (fun p hp => by cases p <;> first | rfl | exact fun _ _ => rfl | exact absurd (hm.has rfl) (hp ▸ Bool.false_ne_true))
    (fun hi => hi.same rfl rfl rfl rfl rfl rfl) ⟨⟨[], (List.append_nil s.out).symm⟩, Nat.le_refl _, Flash.Grows.refl _⟩

theorem Kept.upd_yoyoDue {M : Nat} {s0 s : State} {v0} (hm : Msub 2596148429267413814265248164610048 M) (h : Kept M s0 s) :
    Kept M s0 { s with yoyoDue := v0 } :=
  h.of (fun p hp => by cases p <;> first | rfl | exact fun _ _ => rfl | exact absurd (hm.has rfl) (hp ▸ Bool.false_ne_true))
    (fun hi => hi.same rfl rfl rfl rfl rfl rfl) ⟨⟨[], (List.append_nil s.out).symm⟩, Nat.le_refl _, Flash.Grows.refl _⟩

theorem Kept.upd_flash_sec {M : Nat} {s0 s : State} {v0 v1} (hm : Msub 170141183460469234092870545150706712576 M) (g0 : Flash.Grows s.flash v0) (h : Kept M s0 s) :
    Kept M s0 { s with flash := v0, sec := v1 } :=
  Kept.upd_sec (s := { s with flash := v0 }) (v0 := v1) (hm.mono rfl) (Kept.upd_flash (s := s) (v0 := v0) (hm.mono rfl) g0 h)

theorem Kept.upd_fresh_sec {M : Nat} {s0 s : State} {v0 v1} (hm : Msub 170141183460469232321983114074589757440 M) (g0 : s.fresh ≤ v0) (h : Kept M s0 s) :
    Kept M s0 { s with fresh := v0, sec := v1 } :=
  Kept.upd_sec (s := { s with fresh := v0 }) (v0 := v1) (hm.mono rfl) (Kept.upd_fresh (s := s) (v0 := v0) (hm.mono rfl) g0 h)

theorem Kept.upd_jobKeys_decap {M : Nat} {s0 s : State} {v0 v1} (hm : Msub 475368975085586025561263702016 M) (h : Kept M s0 s) :
    Kept M s0 { s with jobKeys := v0, decap := v1 } :=
  Kept.upd_decap (s := { s with jobKeys := v0 }) (v0 := v1) (hm.mono rfl) (Kept.upd_jobKeys (s := s) (v0 := v0) (hm.mono rfl) h)

theorem Kept.upd_mem_lines {M : Nat} {s0 s : State} {v0 v1} (hm : Msub 221360928884514619392 M) (g0 : memWf s.mem = true → memWf v0 = true) (g1 : smWf (fun _ => (default : LineMeta)) s.lines = true → smWf (fun _ => (default : LineMeta)) v1 = true) (h : Kept M s0 s) :
    Kept M s0 { s with mem := v0, lines := v1 } :=
  Kept.upd_lines (s := { s with mem := v0 }) (v0 := v1) (hm.mono rfl) g1 (Kept.upd_mem (s := s) (v0 := v0) (hm.mono rfl) g0 h)

theorem Kept.upd_outst_taps {M : Nat} {s0 s : State} {v0 v1} (hm : Msub 83076754688317399198009040864018432 M) (h : Kept M s0 s) :
    Kept M s0 { s with outst := v0, taps := v1 } :=
  Kept.upd_taps (s := { s with outst := v0 }) (v0 := v1) (hm.mono rfl) (Kept.upd_outst (s := s) (v0 := v0) (hm.mono rfl) h)

theorem Kept.upd_parts_ct {M : Nat} {s0 s : State} {v0 v1} (hm : Msub 20809752253346613854969879819452416 M) (h : Kept M s0 s) :
    Kept M s0 { s with parts := v0, ct := v1 } :=
  Kept.upd_ct (s := { s with parts := v0 }) (v0 := v1) (hm.mono rfl) (Kept.upd_parts (s := s) (v0 := v0) (hm.mono rfl) h)

theorem Kept.upd_regs_shadow {M : Nat} {s0 s : State} {v0 v1} (hm : Msub 55340232221128654847 M) (g0 : smWf regDefault s.regs = true → smWf regDefault v0 = true) (g1 : smRisesFrom none s.shadow = true → smRisesFrom none v1 = true) (h : Kept M s0 s) :
    Kept M s0 { s with regs := v0, shadow := v1 } :=
  Kept.upd_shadow (s := { s with regs := v0 }) (v0 := v1) (hm.mono rfl) g1 (Kept.upd_regs (s := s) (v0 := v0) (hm.mono rfl) g0 h)

theorem Kept.upd_ring_usedH {M : Nat} {s0 s : State} {v0 v1} (hm : Msub 1360041547066457821544448 M) (g1 : s.usedH ≤ 4096 → v1 ≤ 4096) (h : Kept M s0 s) :
    Kept M s0 { s with ring := v0, usedH := v1 } :=
  Kept.upd_usedH (s := { s with ring := v0 }) (v0 := v1) (hm.mono rfl) g1 (Kept.upd_ring (s := s) (v0 := v0) (hm.mono rfl) h)

theorem Kept.upd_seals_sec {M : Nat} {s0 s : State} {v0 v1} (hm : Msub 170141183460623974236597976250246496256 M) (h : Kept M s0 s) :
    Kept M s0 { s with seals := v0, sec := v1 } :=
  Kept.upd_sec (s := { s with seals := v0 }) (v0 := v1) (hm.mono rfl) (Kept.upd_seals (s := s) (v0 := v0) (hm.mono rfl) h)

theorem Kept.upd_sigs_sigAcks {M : Nat} {s0 s : State} {v0 v1} (hm : Msub 31901471898837980949691369446728269824 M) (h : Kept M s0 s) :
    Kept M s0 { s with sigs := v0, sigAcks := v1 } :=
  Kept.upd_sigAcks (s := { s with sigs := v0 }) (v0 := v1) (hm.mono rfl) (Kept.upd_sigs (s := s) (v0 := v0) (hm.mono rfl) h)

theorem Kept.upd_stks_mats {M : Nat} {s0 s : State} {v0 v1} (hm : Msub 48357032784585166988247040 M) (h : Kept M s0 s) :
    Kept M s0 { s with stks := v0, mats := v1 } :=
  Kept.upd_mats (s := { s with stks := v0 }) (v0 := v1) (hm.mono rfl) (Kept.upd_stks (s := s) (v0 := v0) (hm.mono rfl) h)

theorem Kept.upd_mem_lines_mod_ {M : Nat} {s0 s : State} {v0 v1 v2} (hm : Msub 1401952549601925922816 M) (g0 : memWf s.mem = true → memWf v0 = true) (g1 : smWf (fun _ => (default : LineMeta)) s.lines = true → smWf (fun _ => (default : LineMeta)) v1 = true) (h : Kept M s0 s) :
    Kept M s0 { s with mem := v0, lines := v1, mod_ := v2 } :=
  Kept.upd_mod_ (s := { { s with mem := v0 } with lines := v1 }) (v0 := v2) (hm.mono rfl) (Kept.upd_lines (s := { s with mem := v0 }) (v0 := v1) (hm.mono rfl) g1 (Kept.upd_mem (s := s) (v0 := v0) (hm.mono rfl) g0 h))

end Sys2Proof.Machine
end

