-- ==== Sys2Proof/Laws/FrameOps.lean ====
section
/-! SUPPORT. What the operations and meanings of Machine/Ops.lean can change: one frame lemma per definition. -/
namespace Sys2Proof.Machine

theorem State.setReg_at {M : Nat} {s0 s : State} {k : Nat} {v : Word} (hk : M.testBit (k % 64) = true) (h : Kept M s0 s) :
    Kept M s0 (s.setReg k v) := by
  refine h.of (fun p hp => ?_) (fun hi => ⟨smWf_smSet _ _ hi.regs, hi.shadow, hi.mem, hi.lines, hi.usedH, hi.usedM⟩)
    ⟨⟨[], (List.append_nil s.out).symm⟩, Nat.le_refl _, Flash.Grows.refl _⟩
  cases p with
  | page j =>
    intro key hkey
    refine smGet_smSet_ne _ _ _ _ _ (fun he => ?_)
    subst he
    have hj : j < 64 := by omega
    simp only [Part.bit, hj, if_true] at hp
    rw [hkey, hp] at hk
    exact Bool.false_ne_true hk
  | _ => rfl

theorem State.setReg_kept {M : Nat} {s0 s : State} {k : Nat} {v : Word} (hm : Msub 18446744073709551615 M) (h : Kept M s0 s) :
    Kept M s0 (s.setReg k v) := State.setReg_at (hm.all rfl _ (Nat.mod_lt _ (by decide))) h

theorem regKey_kind (pg : Page) (off bank : Nat) : regKey pg off bank % 64 = pg.kind := by
  have := Page.kind_lt pg
  unfold regKey; omega

theorem State.setFld_kept {M : Nat} {s0 s : State} {pg : Page} {f : Fld} {v bank : Nat} (hm : Msub 0 M)
    (h : Kept M s0 s) (hp : M.testBit pg.kind = true) : Kept M s0 (s.setFld pg f v bank) :=
  State.setReg_at ((regKey_kind pg _ _).symm ▸ hp) h

theorem State.setFld64_kept {M : Nat} {s0 : State} {p0 : State} {p1 : Page} {p2 : Fld} {p3 : Nat} {p4 : optParam Nat 0} (hm : Msub 0 M) (h0_ : Kept M s0 p0) (hp1 : M.testBit p1.kind = true) :
    Kept M s0 (@State.setFld64 p0 p1 p2 p3 p4) := by
  unfold State.setFld64
  exact (State.setFld_kept (hm.mono rfl) (State.setFld_kept (hm.mono rfl) h0_ hp1) hp1)

theorem State.bumpBy_kept {M : Nat} {s0 : State} {p0 : State} {p1 : Page} {p2 : Fld} {p3 : Nat} {p4 : optParam Nat 0} (hm : Msub 0 M) (h0_ : Kept M s0 p0) (hp1 : M.testBit p1.kind = true) :
    Kept M s0 (@State.bumpBy p0 p1 p2 p3 p4) := by
  unfold State.bumpBy
  exact (State.setFld_kept (hm.mono rfl) h0_ hp1)

theorem State.bump_kept {M : Nat} {s0 : State} {p0 : State} {p1 : Page} {p2 : Fld} {p3 : optParam Nat 0} (hm : Msub 0 M) (h0_ : Kept M s0 p0) (hp1 : M.testBit p1.kind = true) :
    Kept M s0 (@State.bump p0 p1 p2 p3) := by
  unfold State.bump
  exact (State.bumpBy_kept (hm.mono rfl) h0_ hp1)

theorem State.setShReg_kept {M : Nat} {s0 s : State} {k : Nat} {v : Word} (hm : Msub 36893488147419103232 M) (h : Kept M s0 s) :
    Kept M s0 (s.setShReg k v) :=
  Kept.upd_shadow hm (fun h => smRises_smIns _ _ _ _ (fun _ hx => nomatch hx) h) h

theorem State.activate_kept {M : Nat} {s0 : State} {p0 : State} {p1 : Nat → Bool} (hm : Msub 55340232221128654847 M) (h0_ : Kept M s0 p0) :
    Kept M s0 (@State.activate p0 p1) := by
  unfold State.activate
  extract_lets -underBinder -merge v1 v2
  try clear_value v1
  have h6 : Kept M s0 v2 := (Kept.foldl h0_ (fun x3 x5 h4 =>
    (State.setReg_kept (hm.mono rfl) h4)))
  try clear_value v2
  exact (Kept.upd_shadow (hm.mono rfl) (fun h => smRises_filter _ _ _ h) h6)

theorem State.emit_kept {M : Nat} {s0 s : State} {o : Out} (hm : Msub 295147905179352825856 M) (h : Kept M s0 s) : Kept M s0 (s.emit o) :=
  h.of (fun p hp => by cases p <;> first | rfl | exact fun _ _ => rfl | exact absurd (hm.has rfl) (hp ▸ Bool.false_ne_true))
    (fun hi => hi.same rfl rfl rfl rfl rfl rfl) ⟨⟨[o], rfl⟩, Nat.le_refl _, Flash.Grows.refl _⟩

theorem State.irqUpdate_kept {M : Nat} {s0 : State} {p0 : State} (hm : Msub 295147905179352825857 M) (h0_ : Kept M s0 p0) :
    Kept M s0 (@State.irqUpdate p0) := by
  unfold State.irqUpdate
  extract_lets -underBinder -merge v1 v2 v3
  try clear_value v1
  try clear_value v2
  have h4 : Kept M s0 v3 := (State.setFld_kept (hm.mono rfl) h0_ (hm.has (k := 0) rfl))
  try clear_value v3
  exact (Kept.ite (State.emit_kept (hm.mono rfl) h4) h4)

theorem State.setErr_kept {M : Nat} {s0 : State} {p0 : State} {p1 : Page} {p2 : Nat} (hm : Msub 295147905179352825857 M) (h0_ : Kept M s0 p0) (hp1 : M.testBit p1.kind = true) :
    Kept M s0 (@State.setErr p0 p1 p2) := by
  unfold State.setErr
  extract_lets -underBinder -merge v1 v2 v3 v4 v5
  try clear_value v1
  try clear_value v2
  try clear_value v3
  have h6 : Kept M s0 v4 := (Kept.ite (State.setFld_kept (hm.mono rfl) h0_ hp1) h0_)
  try clear_value v4
  have h7 : Kept M s0 v5 := (Kept.ite h0_ (State.bump_kept (hm.mono rfl) h6 hp1))
  try clear_value v5
  exact (State.irqUpdate_kept (hm.mono rfl) (State.setFld_kept (hm.mono rfl) h7 hp1))

theorem State.capShow_kept {M : Nat} {s0 : State} {p0 : State} {p1 : Nat} {p2 : Nat} {p3 : Bool} (hm : Msub 128 M) (h0_ : Kept M s0 p0) :
    Kept M s0 (@State.capShow p0 p1 p2 p3) := by
  unfold State.capShow
  extract_lets -underBinder -merge v1 v2 v3
  try clear_value v1
  have h4 : Kept M s0 v2 := (State.setFld64_kept (hm.mono rfl) h0_ (hm.has (k := 7) rfl))
  try clear_value v2
  have h5 : Kept M s0 v3 := (State.setFld_kept (hm.mono rfl) h4 (hm.has (k := 7) rfl))
  try clear_value v3
  exact (State.setFld_kept (hm.mono rfl) h5 (hm.has (k := 7) rfl))

theorem State.capLatch_kept {M : Nat} {s0 : State} {p0 : State} {p1 : Nat} {p2 : Nat} (hm : Msub 5192296858534827628530496329220224 M) (h0_ : Kept M s0 p0) :
    Kept M s0 (@State.capLatch p0 p1 p2) := by
  unfold State.capLatch
  extract_lets -underBinder -merge v1 v2 v3 v4 v5
  try clear_value v1
  have h6 : Kept M s0 v2 := (Kept.ite (State.bump_kept (hm.mono rfl) h0_ (hm.has (k := 7) rfl)) h0_)
  try clear_value v2
  have h7 : Kept M s0 v3 := (State.bump_kept (hm.mono rfl) h6 (hm.has (k := 7) rfl))
  try clear_value v3
  have h8 : Kept M s0 v4 := (State.setFld_kept (hm.mono rfl) h7 (hm.has (k := 7) rfl))
  try clear_value v4
  try clear_value v5
  exact (Kept.ite (Kept.upd_time (hm.mono rfl) h8) (State.capShow_kept (hm.mono rfl) h7))

theorem State.freeTime_kept {M : Nat} {s0 : State} {p0 : State} (hm : Msub 590295810358705651712 M) (h0_ : Kept M s0 p0) :
    Kept M s0 (@State.freeTime p0).1 := by
  unfold State.freeTime
  exact (Kept.pairMk (Kept.upd_fresh (hm.mono rfl) (Nat.le_add_right _ _) h0_))

theorem State.capEvent_kept {M : Nat} {s0 : State} {p0 : State} {p1 : Nat} (hm : Msub 5192296858535417924340855034871936 M) (h0_ : Kept M s0 p0) :
    Kept M s0 (@State.capEvent p0 p1) := by
  unfold State.capEvent
  exact (Kept.each h0_ (fun x1 x2 h3 =>
    (by
      extract_lets -underBinder -merge v4
      try clear_value v4
      exact (Kept.ite (by
        split
        · rename_i x5 x6 e7
          have Hx5 := Kept.fst e7 (State.freeTime_kept (hm.mono rfl) h3)
          exact (State.capLatch_kept (hm.mono rfl) Hx5)) h3))))

theorem State.streamRec_kept {M : Nat} {s0 : State} {p0 : State} {p1 : FlipRec} (hm : Msub 5017514388048998039568 M) (h0_ : Kept M s0 p0) :
    Kept M s0 (@State.streamRec p0 p1) := by
  unfold State.streamRec
  split
  · extract_lets -underBinder -merge v2 v3
    have h4 : Kept M s0 v2 := (State.bump_kept (hm.mono rfl) (State.emit_kept (hm.mono rfl) h0_) (hm.has (k := 4) rfl))
    try clear_value v2
    try clear_value v3
    exact (Kept.ite (Kept.upd_flip (hm.mono rfl) h4) h0_)
  · extract_lets -underBinder -merge v6
    try clear_value v6
    exact (Kept.ite h0_ (Kept.upd_flip (hm.mono rfl) h0_))

theorem State.storeRec_kept {M : Nat} {s0 : State} {p0 : State} {p1 : FlipRec} (hm : Msub 5017514388048998043664 M) (h0_ : Kept M s0 p0) :
    Kept M s0 (@State.storeRec p0 p1) := by
  unfold State.storeRec
  extract_lets -underBinder -merge v1 v2 v3 v4 v5
  try clear_value v1
  try clear_value v2
  try clear_value v3
  have h6 : Kept M s0 v4 := (Kept.upd_flip (hm.mono rfl) h0_)
  try clear_value v4
  have h7 : Kept M s0 v5 := (State.setFld_kept (hm.mono rfl) h6 (hm.has (k := 12) rfl))
  try clear_value v5
  exact (State.streamRec_kept (hm.mono rfl) h7)

theorem State.streamRep_kept {M : Nat} {s0 : State} {p0 : State} (hm : Msub 5017514388048998039568 M) (h0_ : Kept M s0 p0) :
    Kept M s0 (@State.streamRep p0) := by
  unfold State.streamRep
  extract_lets -underBinder -merge v1 v2 v3
  try clear_value v1
  try clear_value v2
  have h4 : Kept M s0 v3 := (Kept.upd_flip (hm.mono rfl) h0_)
  try clear_value v3
  exact (Kept.ite h0_ (by
    split
    · exact (Kept.ite (State.bump_kept (hm.mono rfl) (State.emit_kept (hm.mono rfl) h4) (hm.has (k := 4) rfl)) h4)
    · exact h4))

theorem State.newRec_kept {M : Nat} {s0 : State} {p0 : State} {p1 : FlipRec} (hm : Msub 5017514388048998043664 M) (h0_ : Kept M s0 p0) :
    Kept M s0 (@State.newRec p0 p1) := by
  unfold State.newRec
  extract_lets -underBinder -merge v1 v2 v3 v4
  have h5 : Kept M s0 v1 := (State.streamRep_kept (hm.mono rfl) h0_)
  try clear_value v1
  try clear_value v2
  try clear_value v3
  try clear_value v4
  exact (State.storeRec_kept (hm.mono rfl) (State.setFld64_kept (hm.mono rfl) h5 (hm.has (k := 12) rfl)))

theorem State.flipPrelude_kept {M : Nat} {s0 : State} {p0 : State} (hm : Msub 5017514388048998043664 M) (h0_ : Kept M s0 p0) :
    Kept M s0 (@State.flipPrelude p0) := by
  unfold State.flipPrelude
  extract_lets -underBinder -merge v1 v2 v3 v4
  try clear_value v1
  have h7 : Kept M s0 v2 := (Kept.ite (by
    split
    · exact (State.newRec_kept (hm.mono rfl) (Kept.upd_flip (hm.mono rfl) h0_))) h0_)
  try clear_value v2
  try clear_value v3
  try clear_value v4
  exact (Kept.ite (State.newRec_kept (hm.mono rfl) (Kept.upd_flip (hm.mono rfl) h7)) h7)

theorem State.eventRec_kept {M : Nat} {s0 : State} {p0 : State} {p1 : Nat} {p2 : optParam Nat 0} {p3 : optParam (List Item) []} {p4 : optParam Bool false} (hm : Msub 5017514388048998043664 M) (h0_ : Kept M s0 p0) :
    Kept M s0 (@State.eventRec p0 p1 p2 p3 p4) := by
  unfold State.eventRec
  split
  · extract_lets -underBinder -merge v3 v4 v5 v6 v7 v8 v9 v10 v11 v12
    try clear_value v3
    try clear_value v4
    try clear_value v5
    have h13 : Kept M s0 v6 := (Kept.upd_flip (hm.mono rfl) h0_)
    try clear_value v6
    have h14 : Kept M s0 v7 := (State.setFld64_kept (hm.mono rfl) (State.bump_kept (hm.mono rfl) h13 (hm.has (k := 12) rfl)) (hm.has (k := 12) rfl))
    try clear_value v7
    have h15 : Kept M s0 v8 := (State.flipPrelude_kept (hm.mono rfl) h0_)
    try clear_value v8
    try clear_value v9
    try clear_value v10
    try clear_value v11
    try clear_value v12
    exact (Kept.ite (State.streamRec_kept (hm.mono rfl) h14) (Kept.ite (Kept.upd_flip (hm.mono rfl) h15) (State.newRec_kept (hm.mono rfl) h15)))

theorem State.event_kept {M : Nat} {s0 : State} {p0 : State} {p1 : Nat} {p2 : optParam Nat 0} {p3 : optParam (List Item) []} {p4 : optParam Bool false} (hm : Msub 5192296858540435438728904032915600 M) (h0_ : Kept M s0 p0) :
    Kept M s0 (@State.event p0 p1 p2 p3 p4) := by
  unfold State.event
  exact (State.capEvent_kept (hm.mono rfl) (State.eventRec_kept (hm.mono rfl) h0_))

theorem State.streamResume_kept {M : Nat} {s0 : State} {p0 : State} (hm : Msub 5192296858540435438728904032915600 M) (h0_ : Kept M s0 p0) :
    Kept M s0 (@State.streamResume p0) := by
  unfold State.streamResume
  split
  · exact h0_
  · extract_lets -underBinder -merge v3 v4 v5 v6 v7 v8 v9 v10
    try clear_value v3
    try clear_value v4
    try clear_value v5
    try clear_value v6
    try clear_value v7
    try clear_value v8
    have h11 : Kept M s0 v9 := (Kept.upd_flip (hm.mono rfl) h0_)
    try clear_value v9
    have h15 : Kept M s0 v10 := (Kept.each h11 (fun x12 x13 h14 =>
      (State.bump_kept (hm.mono rfl) (State.emit_kept (hm.mono rfl) h14) (hm.has (k := 4) rfl))))
    try clear_value v10
    exact (Kept.ite h15 (State.event_kept (hm.mono rfl) (State.bumpBy_kept (hm.mono rfl) h15 (hm.has (k := 12) rfl))))

theorem State.setSemOwner_kept {M : Nat} {s0 s : State} {pg : Page} {c : Nat} (hm : Msub 0 M) (h : Kept M s0 s)
    (hp : M.testBit pg.kind = true) : Kept M s0 (s.setSemOwner pg c) := State.setReg_at ((regKey_kind pg _ _).symm ▸ hp) h

theorem State.semHeldUpdate_kept {M : Nat} {s0 : State} {p0 : State} (hm : Msub 1 M) (h0_ : Kept M s0 p0) :
    Kept M s0 (@State.semHeldUpdate p0) := by
  unfold State.semHeldUpdate
  exact (State.setFld_kept (hm.mono rfl) h0_ (hm.has (k := 0) rfl))

theorem State.semDrop_kept {M : Nat} {s0 : State} {p0 : State} {p1 : Master} {p2 : Page} (hm : Msub 5192296858540435438728904032915601 M) (h0_ : Kept M s0 p0) :
    Kept M s0 (@State.semDrop p0 p1 p2) := by
  unfold State.semDrop
  exact (State.event_kept (hm.mono rfl) (State.bump_kept (hm.mono rfl) h0_ (hm.has (k := 0) rfl)))

theorem State.hostReads_kept {M : Nat} {s0 : State} {p0 : State} {p1 : Page} {p2 : State → State × Nat} (hm : Msub 295147905179352825856 M) (h0_ : Kept M s0 p0) (f2_ : ∀ y0, Kept M s0 y0 → Kept M s0 (p2 y0).1) :
    Kept M s0 (@State.hostReads p0 p1 p2) := by
  unfold State.hostReads
  exact (Kept.ite (State.emit_kept (hm.mono rfl) (f2_ _ h0_)) h0_)

theorem State.gated_kept {M : Nat} {s0 : State} {p0 : State} {p1 : Master} {p2 : Page} {p3 : State → State} (hm : Msub 5192296858549880171694643323342993 M) (h0_ : Kept M s0 p0) (f3_ : ∀ y0, Kept M s0 y0 → Kept M s0 (p3 y0)) :
    Kept M s0 (@State.gated p0 p1 p2 p3) := by
  unfold State.gated
  exact (Kept.ite h0_ (Kept.ite (f3_ _ (Kept.upd_semTick (hm.mono rfl) h0_)) (State.semDrop_kept (hm.mono rfl) h0_)))

theorem State.semReleaseAll_kept {M : Nat} {s0 : State} {p0 : State} {p1 : Nat} (hm : Msub 18446744073709551615 M) (h0_ : Kept M s0 p0) :
    Kept M s0 (@State.semReleaseAll p0 p1) := by
  unfold State.semReleaseAll
  exact (State.semHeldUpdate_kept (hm.mono rfl) (Kept.upd_regs (hm.mono rfl) (fun h => smWf_filter _ h) h0_))

theorem State.faultWindow_kept {M : Nat} {s0 : State} {p0 : State} (hm : Msub 8192 M) (h0_ : Kept M s0 p0) :
    Kept M s0 (@State.faultWindow p0) := by
  unfold State.faultWindow
  extract_lets -underBinder -merge v1
  try clear_value v1
  exact (Kept.each h0_ (fun x2 x3 h4 =>
    (State.setFld_kept (hm.mono rfl) h4 (hm.has (k := 13) rfl))))

theorem State.faultRecord_kept {M : Nat} {s0 : State} {p0 : State} {p1 : FaultRec} (hm : Msub 85070591730234615865843651857942061056 M) (h0_ : Kept M s0 p0) :
    Kept M s0 (@State.faultRecord p0 p1) := by
  unfold State.faultRecord
  extract_lets -underBinder -merge v1 v2 v3 v4 v5
  try clear_value v1
  try clear_value v2
  have h6 : Kept M s0 v3 := (Kept.ite (State.bump_kept (hm.mono rfl) h0_ (hm.has (k := 13) rfl)) h0_)
  try clear_value v3
  have h7 : Kept M s0 v4 := (Kept.upd_faults (hm.mono rfl) h6)
  try clear_value v4
  have h8 : Kept M s0 v5 := (State.bump_kept (hm.mono rfl) (State.setFld_kept (hm.mono rfl) h7 (hm.has (k := 13) rfl)) (hm.has (k := 13) rfl))
  try clear_value v5
  exact (State.faultWindow_kept (hm.mono rfl) h8)

theorem State.sealBlock_kept {M : Nat} {s0 : State} {p0 : State} {p1 : Nat} (hm : Msub 42540488161975848368360554833003942288 M) (h0_ : Kept M s0 p0) :
    Kept M s0 (@State.sealBlock p0 p1) := by
  unfold State.sealBlock
  extract_lets -underBinder -merge v1
  have h2 : Kept M s0 v1 := (State.bump_kept (hm.mono rfl) h0_ (hm.has (k := 8) rfl))
  try clear_value v1
  exact (Kept.ite h2 (State.event_kept (hm.mono rfl) (Kept.upd_sealTick (hm.mono rfl) h2)))

theorem State.setByte_kept {M : Nat} {s0 : State} {p0 : State} {p1 : Nat} {p2 : Sys2Proof.Byte} (hm : Msub 73786976294838206464 M) (h0_ : Kept M s0 p0) :
    Kept M s0 (@State.setByte p0 p1 p2) := by
  unfold State.setByte
  exact (Kept.upd_mem (hm.mono rfl) (fun h => smWf_smSet _ _ h) h0_)

theorem State.setBytes_kept {M : Nat} {s0 s : State} {k : Nat} {l : List Byte} (hm : Msub 73786976294838206464 M) (h : Kept M s0 s) :
    Kept M s0 (s.setBytes k l) := by
  induction l generalizing s k with
  | nil => exact h
  | cons b t ih => exact ih (State.setByte_kept (hm.mono rfl) h)

end Sys2Proof.Machine
end

