-- ==== Sys2Proof/Laws/FrameEdesk.lean ====
section
/-! SUPPORT. What the operations and meanings of Machine/Edesk.lean can change: one frame lemma per definition. -/
namespace Sys2Proof.Machine

theorem State.storeLine_kept {M : Nat} {s0 : State} {p0 : State} {p1 : Nat} {p2 : Nat} {p3 : List Sys2Proof.Byte} {p4 : Bool} (hm : Msub 221360928884514619392 M) (h0_ : Kept M s0 p0) :
    Kept M s0 (@State.storeLine p0 p1 p2 p3 p4) := by
  unfold State.storeLine
  extract_lets -underBinder -merge v1 v2
  try clear_value v1
  have h3 : Kept M s0 v2 := (State.setBytes_kept (hm.mono rfl) h0_)
  try clear_value v2
  exact (Kept.upd_lines (hm.mono rfl) (fun h => smWf_smSet _ _ h) h3)

theorem State.lastErr_kept {M : Nat} {s0 : State} {p0 : State} {p1 : Nat} {p2 : Nat} {p3 : Nat} {p4 : Option (Nat × Nat)} (hm : Msub 17179869184 M) (h0_ : Kept M s0 p0) :
    Kept M s0 (@State.lastErr p0 p1 p2 p3 p4) := by
  unfold State.lastErr
  split
  · extract_lets -underBinder -merge v3
    have h4 : Kept M s0 v3 := (State.setFld64_kept (hm.mono rfl) h0_ (hm.has (k := 34) rfl))
    try clear_value v3
    exact (State.setFld_kept (hm.mono rfl) h4 (hm.has (k := 34) rfl))

theorem State.readUnwritten_kept {M : Nat} {s0 : State} {p0 : State} {p1 : Nat} {p2 : Nat} {p3 : Option (Nat × Nat)} (hm : Msub 5192296858540435438728921212784784 M) (h0_ : Kept M s0 p0) :
    Kept M s0 (@State.readUnwritten p0 p1 p2 p3) := by
  unfold State.readUnwritten
  exact (State.event_kept (hm.mono rfl) (State.lastErr_kept (hm.mono rfl) (State.bump_kept (hm.mono rfl) h0_ (hm.has (k := 34) rfl))))

theorem State.lineBusError_kept {M : Nat} {s0 : State} {p0 : State} {p1 : Nat} {p2 : Nat} {p3 : Nat} {p4 : Option (Nat × Nat)} (hm : Msub 5192296858540435438728921212784784 M) (h0_ : Kept M s0 p0) :
    Kept M s0 (@State.lineBusError p0 p1 p2 p3 p4) := by
  unfold State.lineBusError
  exact (State.event_kept (hm.mono rfl) (State.lastErr_kept (hm.mono rfl) (State.bump_kept (hm.mono rfl) h0_ (hm.has (k := 34) rfl))))

theorem State.checkLine_kept {M : Nat} {s0 : State} {p0 : State} {p1 : Nat} {p2 : Nat} {p3 : Option (Nat × Nat)} (hm : Msub 5192296858540435438728921212784784 M) (h0_ : Kept M s0 p0) :
    Kept M s0 (@State.checkLine p0 p1 p2 p3).1 := by
  unfold State.checkLine
  extract_lets -underBinder -merge v1
  try clear_value v1
  exact (Kept.ite1 (Kept.pairMk (State.readUnwritten_kept (hm.mono rfl) h0_)) (Kept.ite1 (Kept.pairMk (State.lineBusError_kept (hm.mono rfl) h0_)) (Kept.pairMk h0_)))

theorem State.mergeLine_kept {M : Nat} {s0 : State} {p0 : State} {p1 : Nat} {p2 : Nat} {p3 : List Sys2Proof.Byte} {p4 : Option (Nat × Nat)} (hm : Msub 5192296858540656799657805727404176 M) (h0_ : Kept M s0 p0) :
    Kept M s0 (@State.mergeLine p0 p1 p2 p3 p4).1 := by
  unfold State.mergeLine
  exact (Kept.ite1 (Kept.pairMk (State.storeLine_kept (hm.mono rfl) h0_)) (by
    split
    · rename_i x1 x2 e3
      have Hx1 := Kept.fst e3 (State.checkLine_kept (hm.mono rfl) h0_)
      extract_lets -underBinder -merge v4 v5
      try clear_value v4
      try clear_value v5
      exact (Kept.ite1 (Kept.pairMk (State.storeLine_kept (hm.mono rfl) Hx1)) (Kept.pairMk Hx1))))

theorem State.setMat_kept {M : Nat} {s0 : State} {p0 : State} {p1 : Nat} {p2 : Mat} (hm : Msub 38685626227668133590597632 M) (h0_ : Kept M s0 p0) :
    Kept M s0 (@State.setMat p0 p1 p2) := by
  unfold State.setMat
  exact (Kept.upd_mats (hm.mono rfl) h0_)

theorem State.setStk_kept {M : Nat} {s0 : State} {p0 : State} {p1 : Nat} {p2 : Stack} (hm : Msub 9671406556917033397649408 M) (h0_ : Kept M s0 p0) :
    Kept M s0 (@State.setStk p0 p1 p2) := by
  unfold State.setStk
  exact (Kept.upd_stks (hm.mono rfl) h0_)

theorem State.matFull_kept {M : Nat} {s0 : State} {p0 : State} {p1 : Nat} (hm : Msub 5192296897226061666397175062466704 M) (h0_ : Kept M s0 p0) :
    Kept M s0 (@State.matFull p0 p1) := by
  unfold State.matFull
  extract_lets -underBinder -merge v1 v2 v3
  try clear_value v1
  try clear_value v2
  have h4 : Kept M s0 v3 := (State.bumpBy_kept (hm.mono rfl) (State.setMat_kept (hm.mono rfl) h0_) (hm.has (k := 37) rfl))
  try clear_value v3
  exact (Kept.ite h0_ (Kept.ite h4 (State.event_kept (hm.mono rfl) h4)))

theorem State.matHold_kept {M : Nat} {s0 : State} {p0 : State} {p1 : Nat} {p2 : HeldW} (hm : Msub 5192296897226061666397175062466704 M) (h0_ : Kept M s0 p0) :
    Kept M s0 (@State.matHold p0 p1 p2) := by
  unfold State.matHold
  extract_lets -underBinder -merge v1
  try clear_value v1
  exact (State.matFull_kept (hm.mono rfl) (State.setMat_kept (hm.mono rfl) h0_))

theorem State.lineHoldW_kept {M : Nat} {s0 : State} {p0 : State} {p1 : Nat} {p2 : LineW} (hm : Msub 9671406556917033397649408 M) (h0_ : Kept M s0 p0) :
    Kept M s0 (@State.lineHoldW p0 p1 p2) := by
  unfold State.lineHoldW
  extract_lets -underBinder -merge v1
  try clear_value v1
  exact (State.setStk_kept (hm.mono rfl) h0_)

theorem State.writeLine_kept {M : Nat} {s0 : State} {p0 : State} {p1 : Nat} {p2 : Nat} {p3 : Nat} {p4 : List Sys2Proof.Byte} {p5 : Option (Nat × Nat)} {p6 : optParam Requester Requester.host} {p7 : optParam Bool false} (hm : Msub 5192296906897689584243110154604688 M) (h0_ : Kept M s0 p0) :
    Kept M s0 (@State.writeLine p0 p1 p2 p3 p4 p5 p6 p7).1 := by
  unfold State.writeLine
  exact (Kept.ite1 (Kept.pairMk (State.lineHoldW_kept (hm.mono rfl) h0_)) (Kept.ite1 (Kept.pairMk (State.matHold_kept (hm.mono rfl) h0_)) (State.mergeLine_kept (hm.mono rfl) h0_)))

theorem State.writeEdesk_kept {M : Nat} {s0 : State} {p0 : State} {p1 : Nat} {p2 : List Sys2Proof.Byte} {p3 : Option (Nat × Nat)} {p4 : optParam Bool false} (hm : Msub 5192296906897689584243110154604688 M) (h0_ : Kept M s0 p0) :
    Kept M s0 (@State.writeEdesk p0 p1 p2 p3 p4).1 := by
  unfold State.writeEdesk
  exact (Kept.foldl1 (Kept.pairMk h0_) (fun x1 x3 h2 =>
    (by
      split
      · exact (Kept.pairMk h2)
      · exact (Kept.ite1 (by
          split
          · rename_i x7 x8 e9
            have Hx7 := Kept.fst e9 (State.writeLine_kept (hm.mono rfl) h2)
            exact (Kept.pairMk Hx7)) (Kept.pairMk h2)))))

theorem State.writeSram_kept {M : Nat} {s0 s : State} {o : Nat} {l : List Byte} (hm : Msub 73786976294838206464 M) (h : Kept M s0 s) :
    Kept M s0 (s.writeSram o l).1 := by
  induction l generalizing s o with
  | nil => exact h
  | cons b t ih =>
    unfold State.writeSram
    split
    · exact ih h
    · exact ih (State.setByte_kept (hm.mono rfl) h)

theorem State.writeMem_kept {M : Nat} {s0 : State} {p0 : State} {p1 : Nat} {p2 : List Sys2Proof.Byte} {p3 : Option (Nat × Nat)} {p4 : optParam Bool false} (hm : Msub 5192296906897689584243110154604688 M) (h0_ : Kept M s0 p0) :
    Kept M s0 (@State.writeMem p0 p1 p2 p3 p4).1 := by
  unfold State.writeMem
  exact (Kept.ite1 (State.writeEdesk_kept (hm.mono rfl) h0_) (Kept.ite1 (State.writeSram_kept (hm.mono rfl) h0_) (Kept.pairMk h0_)))

theorem State.checkRange_kept {M : Nat} {s0 : State} {p0 : State} {p1 : Nat} {p2 : Nat} {p3 : Option (Nat × Nat)} (hm : Msub 5192296858540435438728921212784784 M) (h0_ : Kept M s0 p0) :
    Kept M s0 (@State.checkRange p0 p1 p2 p3).1 := by
  unfold State.checkRange
  exact (Kept.foldl1 (Kept.pairMk h0_) (fun x1 x3 h2 =>
    (Kept.ite1 h2 (by
      split
      · exact (Kept.pairMk h2)
      · exact (Kept.ite1 (State.checkLine_kept (hm.mono rfl) h2) (Kept.pairMk h2))))))

theorem State.readMem_kept {M : Nat} {s0 : State} {p0 : State} {p1 : Nat} {p2 : Nat} {p3 : Option (Nat × Nat)} (hm : Msub 5192296858540435438728921212784784 M) (h0_ : Kept M s0 p0) :
    Kept M s0 (@State.readMem p0 p1 p2 p3).1 := by
  unfold State.readMem
  exact (Kept.ite1 (by
    split
    · rename_i x1 x2 e3
      have Hx1 := Kept.fst e3 (State.checkRange_kept (hm.mono rfl) h0_)
      exact (Kept.pairMk Hx1)) (Kept.ite1 (Kept.pairMk h0_) (Kept.pairMk h0_)))

theorem State.addLine_kept {M : Nat} {s0 : State} {p0 : State} {p1 : Nat} {p2 : Nat} {p3 : Nat} {p4 : Option (Nat × Nat)} (hm : Msub 5192296858540656799657805727404176 M) (h0_ : Kept M s0 p0) :
    Kept M s0 (@State.addLine p0 p1 p2 p3 p4).1 := by
  unfold State.addLine
  split
  · rename_i x1 x2 e3
    have Hx1 := Kept.fst e3 (State.checkLine_kept (hm.mono rfl) h0_)
    exact (Kept.ite1 (State.mergeLine_kept (hm.mono rfl) Hx1) (Kept.pairMk Hx1))

theorem State.signalWord_kept {M : Nat} {s0 : State} {p0 : State} {p1 : Nat} {p2 : Nat} {p3 : Bool} {p4 : Option (Nat × Nat)} {p5 : optParam Requester Requester.host} (hm : Msub 5192296906897689584243110154604688 M) (h0_ : Kept M s0 p0) :
    Kept M s0 (@State.signalWord p0 p1 p2 p3 p4 p5).1 := by
  unfold State.signalWord
  exact (Kept.ite1 (State.writeMem_kept (hm.mono rfl) h0_) (by
    split
    · exact (Kept.pairMk (State.lineHoldW_kept (hm.mono rfl) h0_))
    · exact (Kept.pairMk (State.matHold_kept (hm.mono rfl) h0_))
    · split
      · rename_i x6 x7 e8
        have Hx6 := Kept.fst e8 (State.readMem_kept (hm.mono rfl) h0_)
        split
        · exact (State.writeMem_kept (hm.mono rfl) Hx6)
        · exact (Kept.pairMk Hx6)))

theorem State.countCe_kept {M : Nat} {s0 : State} {p0 : State} {p1 : Nat} {p2 : Nat} {p3 : Nat} (hm : Msub 5192296868211841995645954610434192 M) (h0_ : Kept M s0 p0) :
    Kept M s0 (@State.countCe p0 p1 p2 p3) := by
  unfold State.countCe
  extract_lets -underBinder -merge v1 v2
  have h3 : Kept M s0 v1 := (State.bumpBy_kept (hm.mono rfl) (State.bumpBy_kept (hm.mono rfl) h0_ (hm.has (k := 34) rfl)) (hm.has (k := 34) rfl))
  try clear_value v1
  try clear_value v2
  exact (Kept.ite (State.event_kept (hm.mono rfl) (State.setStk_kept (hm.mono rfl) h3)) h3)

theorem State.countDue_kept {M : Nat} {s0 : State} {p0 : State} {p1 : Nat} {p2 : Nat} (hm : Msub 5192296868211841995645954610434192 M) (h0_ : Kept M s0 p0) :
    Kept M s0 (@State.countDue p0 p1 p2) := by
  unfold State.countDue
  extract_lets -underBinder -merge v1 v2
  have h3 : Kept M s0 v1 := (State.bump_kept (hm.mono rfl) h0_ (hm.has (k := 34) rfl))
  try clear_value v1
  try clear_value v2
  exact (Kept.ite (State.event_kept (hm.mono rfl) (State.setStk_kept (hm.mono rfl) h3)) h3)

theorem State.scrubSector_kept {M : Nat} {s0 : State} {p0 : State} {p1 : Nat} {p2 : Nat} (hm : Msub 5192296868211841995645954610434192 M) (h0_ : Kept M s0 p0) :
    Kept M s0 (@State.scrubSector p0 p1 p2) := by
  unfold State.scrubSector
  exact (State.event_kept (hm.mono rfl) (State.countDue_kept (hm.mono rfl) h0_))

theorem State.innerRead_kept {M : Nat} {s0 : State} {p0 : State} {p1 : Nat} {p2 : Nat} {p3 : List SymErr} (hm : Msub 221360928884514619392 M) (h0_ : Kept M s0 p0) :
    Kept M s0 (@State.innerRead p0 p1 p2 p3).1 := by
  unfold State.innerRead
  extract_lets -underBinder -merge v1 v2 v3 v4 v5 v6 v7 v8 v9 v10 v11 v12
  try clear_value v1
  try clear_value v2
  try clear_value v3
  try clear_value v4
  try clear_value v5
  try clear_value v6
  try clear_value v8
  try clear_value v10
  have h13 : Kept M s0 v11 := (Kept.ite (State.setBytes_kept (hm.mono rfl) h0_) h0_)
  try clear_value v11
  have h14 : Kept M s0 v12 := (Kept.ite (Kept.upd_lines (hm.mono rfl) (fun h => smWf_smSet _ _ h) h13) h13)
  try clear_value v12
  exact (Kept.pairMk h14)

theorem State.scrubRead_kept {M : Nat} {s0 : State} {p0 : State} {p1 : Nat} {p2 : Nat} {p3 : List SymErr} (hm : Msub 5192296868212063356574839125053584 M) (h0_ : Kept M s0 p0) :
    Kept M s0 (@State.scrubRead p0 p1 p2 p3).1 := by
  unfold State.scrubRead
  split
  · rename_i x1 x2 e3
    have Hx1 := Kept.fst e3 (State.innerRead_kept (hm.mono rfl) h0_)
    extract_lets -underBinder -merge v4
    have h5 : Kept M s0 v4 := (Kept.ite Hx1 (State.countCe_kept (hm.mono rfl) Hx1))
    try clear_value v4
    exact (Kept.pairMk (Kept.each h5 (fun x6 x7 h8 =>
      (State.scrubSector_kept (hm.mono rfl) h8))))

theorem State.innerCount_kept {M : Nat} {s0 : State} {p0 : State} {p1 : Nat} {p2 : Nat} {p3 : InnerLine} {p4 : List Nat} (hm : Msub 5192296868211841995645954610434192 M) (h0_ : Kept M s0 p0) :
    Kept M s0 (@State.innerCount p0 p1 p2 p3 p4) := by
  unfold State.innerCount
  extract_lets -underBinder -merge v1 v2
  try clear_value v1
  have h3 : Kept M s0 v2 := (Kept.ite h0_ (State.countCe_kept (hm.mono rfl) h0_))
  try clear_value v2
  exact (Kept.each h3 (fun x4 x5 h6 =>
    (State.countDue_kept (hm.mono rfl) h6)))

theorem State.readLine_kept {M : Nat} {s0 : State} {p0 : State} {p1 : Nat} {p2 : Nat} {p3 : Option (Nat × Nat)} {p4 : ReadObs} (hm : Msub 5192296868212063356574839125053584 M) (h0_ : Kept M s0 p0) :
    Kept M s0 (@State.readLine p0 p1 p2 p3 p4).1 := by
  unfold State.readLine
  split
  · rename_i x1 x2 e3
    have Hx1 := Kept.fst e3 (State.innerRead_kept (hm.mono rfl) h0_)
    extract_lets -underBinder -merge v4
    have h5 : Kept M s0 v4 := (State.innerCount_kept (hm.mono rfl) Hx1)
    try clear_value v4
    exact (Kept.ite1 (Kept.pairMk (State.readUnwritten_kept (hm.mono rfl) h5)) (Kept.ite1 (Kept.pairMk h5) (by
      split
      · rename_i x6 x7 e8
        have Hx6 := Kept.fst e8 (Kept.ite1 (Kept.pairMk h5) (State.innerRead_kept (hm.mono rfl) h5))
        extract_lets -underBinder -merge v9
        have h10 : Kept M s0 v9 := (Kept.ite Hx6 (State.innerCount_kept (hm.mono rfl) Hx6))
        try clear_value v9
        exact (Kept.ite1 (Kept.pairMk (State.event_kept (hm.mono rfl) (State.bump_kept (hm.mono rfl) h10 (hm.has (k := 34) rfl)))) (by
          split
          · exact (Kept.pairMk h10)
          · exact (Kept.pairMk (State.lineBusError_kept (hm.mono rfl) h10)))))))

end Sys2Proof.Machine
end

