-- ==== Sys2Proof/Laws/FrameProg.lean ====
section
/-! SUPPORT. What the operations and meanings of Machine/Prog.lean can change: one frame lemma per definition. -/
namespace Sys2Proof.Machine

theorem State.setSeq_kept {M : Nat} {s0 : State} {p0 : State} {p1 : Nat} {p2 : Seq} (hm : Msub 4835703278458516698824704 M) (h0_ : Kept M s0 p0) :
    Kept M s0 (@State.setSeq p0 p1 p2) := by
  unfold State.setSeq
  exact (Kept.upd_seqs (hm.mono rfl) h0_)

theorem State.modSeq_kept {M : Nat} {s0 : State} {p0 : State} {p1 : Nat} {p2 : Seq → Seq} (hm : Msub 4835703278458516698824704 M) (h0_ : Kept M s0 p0) :
    Kept M s0 (@State.modSeq p0 p1 p2) := by
  unfold State.modSeq
  exact (State.setSeq_kept (hm.mono rfl) h0_)

theorem State.setSlot_kept {M : Nat} {s0 : State} {p0 : State} {p1 : Nat} {p2 : Slot} (hm : Msub 37778931862957161709568 M) (h0_ : Kept M s0 p0) :
    Kept M s0 (@State.setSlot p0 p1 p2) := by
  unfold State.setSlot
  exact (Kept.upd_slots (hm.mono rfl) h0_)

theorem State.setProg_kept {M : Nat} {s0 : State} {p0 : State} {p1 : Nat} {p2 : Prog} (hm : Msub 75557863725914323419136 M) (h0_ : Kept M s0 p0) :
    Kept M s0 (@State.setProg p0 p1 p2) := by
  unfold State.setProg
  exact (Kept.upd_progs (hm.mono rfl) h0_)

theorem State.coreSync_kept {M : Nat} {s0 : State} {p0 : State} {p1 : Nat} (hm : Msub 1610612736 M) (h0_ : Kept M s0 p0) :
    Kept M s0 (@State.coreSync p0 p1) := by
  unfold State.coreSync
  extract_lets -underBinder -merge v1 v2 v3 v4 v5 v6 v7 v8 v9 v10 v11 v12 v13
  try clear_value v1
  try clear_value v2
  try clear_value v3
  try clear_value v4
  try clear_value v5
  try clear_value v6
  have h14 : Kept M s0 v8 := (State.setFld_kept (hm.mono rfl) h0_ (hm.has (k := 29) rfl))
  try clear_value v8
  have h15 : Kept M s0 v9 := (State.setFld_kept (hm.mono rfl) h14 (hm.has (k := 29) rfl))
  try clear_value v9
  have h16 : Kept M s0 v10 := (State.setFld_kept (hm.mono rfl) h15 (hm.has (k := 29) rfl))
  try clear_value v10
  have h17 : Kept M s0 v11 := (State.setFld_kept (hm.mono rfl) h16 (hm.has (k := 29) rfl))
  try clear_value v11
  have h18 : Kept M s0 v12 := (State.setFld_kept (hm.mono rfl) h17 (hm.has (k := 29) rfl))
  try clear_value v12
  have h19 : Kept M s0 v13 := (State.setFld_kept (hm.mono rfl) h18 (hm.has (k := 29) rfl))
  try clear_value v13
  exact (Kept.ite (Kept.each h19 (fun x20 x21 h22 =>
    (by
      extract_lets -underBinder -merge v23 v24
      try clear_value v23
      have h25 : Kept M s0 v24 := (State.setFld_kept (hm.mono rfl) h22 (hm.has (k := 30) rfl))
      try clear_value v24
      exact (Kept.ite h25 (State.setFld_kept (hm.mono rfl) h25 (hm.has (k := 30) rfl)))))) h0_)

theorem State.endProgram_kept {M : Nat} {s0 : State} {p0 : State} {p1 : Nat} {p2 : Nat} {p3 : Nat} (hm : Msub 4911261142184432632856576 M) (h0_ : Kept M s0 p0) :
    Kept M s0 (@State.endProgram p0 p1 p2 p3) := by
  unfold State.endProgram
  extract_lets -underBinder -merge v1 v2
  try clear_value v1
  have h3 : Kept M s0 v2 := (State.setProg_kept (hm.mono rfl) h0_)
  try clear_value v2
  exact (Kept.ite (Kept.each h3 (fun x4 x5 h6 =>
    (Kept.ite (State.coreSync_kept (hm.mono rfl) (State.modSeq_kept (hm.mono rfl) h6)) h6))) h0_)

theorem State.progFault_kept {M : Nat} {s0 : State} {p0 : State} {p1 : Nat} {p2 : Nat} {p3 : Nat} {p4 : Nat} {p5 : Nat} {p6 : optParam Bool false} {p7 : optParam Nat 0} {p8 : optParam (Option Nat) none} (hm : Msub 85075784027098067562424565194607833232 M) (h0_ : Kept M s0 p0) :
    Kept M s0 (@State.progFault p0 p1 p2 p3 p4 p5 p6 p7 p8) := by
  unfold State.progFault
  extract_lets -underBinder -merge v1 v2 v3 v4
  try clear_value v1
  try clear_value v2
  try clear_value v3
  have h5 : Kept M s0 v4 := (State.faultRecord_kept (hm.mono rfl) h0_)
  try clear_value v4
  exact (State.endProgram_kept (hm.mono rfl) (State.event_kept (hm.mono rfl) h5))

theorem State.lchSync_kept {M : Nat} {s0 : State} {p0 : State} {p1 : Bool} (hm : Msub 12 M) (h0_ : Kept M s0 p0) :
    Kept M s0 (@State.lchSync p0 p1) := by
  unfold State.lchSync
  extract_lets -underBinder -merge v1 v2 v3
  try clear_value v1
  exact (State.setFld_kept (hm.mono rfl) (State.setFld_kept (hm.mono rfl) h0_ (Page.has_ite (hm.has (k := 2) rfl) (hm.has (k := 3) rfl))) (Page.has_ite (hm.has (k := 2) rfl) (hm.has (k := 3) rfl)))

theorem State.ringCount_kept {M : Nat} {s0 : State} {p0 : State} {p1 : Bool} (hm : Msub 5192296862167212897572791557034128 M) (h0_ : Kept M s0 p0) :
    Kept M s0 (@State.ringCount p0 p1) := by
  unfold State.ringCount
  extract_lets -underBinder -merge v1
  have h2 : Kept M s0 v1 := (Kept.ite (Kept.upd_usedH (hm.mono rfl) (fun _ => Nat.min_le_left 4096 _) h0_) (Kept.upd_usedM (hm.mono rfl) (fun _ => Nat.min_le_left 4096 _) h0_))
  try clear_value v1
  exact (Kept.ite (State.event_kept (hm.mono rfl) h2) h2)

theorem State.cplWrite_kept {M : Nat} {s0 : State} {p0 : State} {p1 : Cpl} (hm : Msub 5192296862356107556887577365581980 M) (h0_ : Kept M s0 p0) :
    Kept M s0 (@State.cplWrite p0 p1) := by
  unfold State.cplWrite
  extract_lets -underBinder -merge v1 v2 v3 v4 v5 v6 v7 v8 v9
  try clear_value v1
  try clear_value v3
  try clear_value v4
  have h10 : Kept M s0 v5 := (Kept.upd_ring (hm.mono rfl) h0_)
  try clear_value v5
  have h11 : Kept M s0 v6 := (State.setFld_kept (hm.mono rfl) h10 (lchPage_has (hm.has rfl) (hm.has rfl)))
  try clear_value v6
  have h12 : Kept M s0 v7 := (State.ringCount_kept (hm.mono rfl) h11)
  try clear_value v7
  have h13 : Kept M s0 v8 := (State.setSlot_kept (hm.mono rfl) h12)
  try clear_value v8
  have h14 : Kept M s0 v9 := (State.lchSync_kept (hm.mono rfl) h13)
  try clear_value v9
  exact (Kept.ite (State.emit_kept (hm.mono rfl) h14) h14)

theorem State.complete_kept {M : Nat} {s0 : State} {p0 : State} {p1 : Nat} {p2 : Nat} {p3 : Nat} {p4 : Nat} {p5 : Bool} (hm : Msub 5192296863262801921598549246611612 M) (h0_ : Kept M s0 p0) :
    Kept M s0 (@State.complete p0 p1 p2 p3 p4 p5) := by
  unfold State.complete
  extract_lets -underBinder -merge v1 v2 v3 v4
  try clear_value v1
  try clear_value v2
  try clear_value v3
  have h5 : Kept M s0 v4 := (Kept.ite h0_ (State.event_kept (hm.mono rfl) (State.bump_kept (hm.mono rfl) h0_ (lchPage_has (hm.has rfl) (hm.has rfl)))))
  try clear_value v4
  exact (Kept.ite (Kept.ite (State.lchSync_kept (hm.mono rfl) (Kept.upd_heldH (hm.mono rfl) h5)) (State.cplWrite_kept (hm.mono rfl) h5)) (Kept.ite (State.lchSync_kept (hm.mono rfl) (Kept.upd_heldM (hm.mono rfl) h5)) (State.cplWrite_kept (hm.mono rfl) h5)))

theorem State.releaseHeld_kept {M : Nat} {s0 : State} {host : Bool} {n : Nat} {s : State} (hm : Msub 5192296863262801921598549246611612 M) (h : Kept M s0 s) :
    Kept M s0 (State.releaseHeld host n s) := by
  induction n generalizing s with
  | zero => exact h
  | succ n ih =>
    unfold State.releaseHeld
    split
    · split
      · exact Kept.ite (ih (State.cplWrite_kept (hm.mono rfl) (Kept.upd_heldH (hm.mono rfl) h))) h
      · exact h
    · split
      · exact Kept.ite (ih (State.cplWrite_kept (hm.mono rfl) (Kept.upd_heldM (hm.mono rfl) h))) h
      · exact h

theorem State.modPartX_kept {M : Nat} {s0 : State} {p0 : State} {p1 : Nat} {p2 : PartX → PartX} (hm : Msub 40564819207303340847894502572032 M) (h0_ : Kept M s0 p0) :
    Kept M s0 (@State.modPartX p0 p1 p2) := by
  unfold State.modPartX
  exact (Kept.upd_parts (hm.mono rfl) h0_)

end Sys2Proof.Machine
end

