-- ==== Sys2Proof/Laws/FrameOperands.lean ====
section
/-! SUPPORT. What the operations and meanings of Machine/Operands.lean can change: one frame lemma per definition. -/
namespace Sys2Proof.Machine

theorem State.readUpTo_kept {M : Nat} {s0 : State} {p0 : State} {p1 : Nat} {p2 : Nat} {p3 : Option (Nat × Nat)} (hm : Msub 5192296858540435438728921212784784 M) (h0_ : Kept M s0 p0) :
    Kept M s0 (@State.readUpTo p0 p1 p2 p3).1 := by
  unfold State.readUpTo
  exact (Kept.foldl1 (Kept.pairMk h0_) (fun x1 x3 h2 =>
    (Kept.ite1 h2 (by
      split
      · rename_i x4 x5 e6
        have Hx4 := Kept.fst e6 (State.readMem_kept (hm.mono rfl) h2)
        exact (Kept.pairMk Hx4)
      · rename_i x7 e8
        have Hx7 := Kept.fst e8 (State.readMem_kept (hm.mono rfl) h2)
        exact (Kept.pairMk Hx7)))))

theorem State.readDense_kept {M : Nat} {s0 : State} {p0 : State} {p1 : Nat} {p2 : Nat} {p3 : Nat} {p4 : Option (Nat × Nat)} (hm : Msub 5192296858540435438728921212784784 M) (h0_ : Kept M s0 p0) :
    Kept M s0 (@State.readDense p0 p1 p2 p3 p4).1 := by
  unfold State.readDense
  split
  · rename_i x1 x2 x3 e4
    have Hx1 := Kept.fst e4 (State.readUpTo_kept (hm.mono rfl) h0_)
    extract_lets -underBinder -merge v5
    try clear_value v5
    exact (Kept.pairMk Hx1)

end Sys2Proof.Machine
end

