-- ==== Sys2Proof/Laws/FrameRings.lean ====
section
/-! SUPPORT. What the operations and meanings of Machine/Rings.lean can change: one frame lemma per definition. -/
namespace Sys2Proof.Machine

theorem State.setRingF_kept {M : Nat} {s0 : State} {p0 : State} {p1 : Nat} {p2 : Nat} {p3 : Fld} {p4 : Nat} (hm : Msub 70368744177664 M) (h0_ : Kept M s0 p0) :
    Kept M s0 (@State.setRingF p0 p1 p2 p3 p4) := by
  unfold State.setRingF
  exact (State.setFld_kept (hm.mono rfl) (State.setFld_kept (hm.mono rfl) h0_ (hm.has (k := 46) rfl)) (hm.has (k := 46) rfl))

theorem State.modRing_kept {M : Nat} {s0 : State} {p0 : State} {p1 : Nat} {p2 : Nat} {p3 : RingX → RingX} (hm : Msub 19807040628566084398385987584 M) (h0_ : Kept M s0 p0) :
    Kept M s0 (@State.modRing p0 p1 p2 p3) := by
  unfold State.modRing
  exact (Kept.upd_rings (hm.mono rfl) h0_)

theorem State.modEng_kept {M : Nat} {s0 : State} {p0 : State} {p1 : Nat} {p2 : EngX → EngX} (hm : Msub 39614081257132168796771975168 M) (h0_ : Kept M s0 p0) :
    Kept M s0 (@State.modEng p0 p1 p2) := by
  unfold State.modEng
  exact (Kept.upd_engs (hm.mono rfl) h0_)

theorem State.setRingLine_kept {M : Nat} {s0 : State} {p0 : State} {p1 : Nat} {p2 : Nat} {p3 : Nat} (hm : Msub 70368744177664 M) (h0_ : Kept M s0 p0) :
    Kept M s0 (@State.setRingLine p0 p1 p2 p3) := by
  unfold State.setRingLine
  exact (State.setFld_kept (hm.mono rfl) (State.setFld_kept (hm.mono rfl) h0_ (hm.has (k := 46) rfl)) (hm.has (k := 46) rfl))

theorem State.setRingPark_kept {M : Nat} {s0 : State} {p0 : State} {p1 : Nat} {p2 : Nat} {p3 : Nat} (hm : Msub 70368744177664 M) (h0_ : Kept M s0 p0) :
    Kept M s0 (@State.setRingPark p0 p1 p2 p3) := by
  unfold State.setRingPark
  exact (State.setFld_kept (hm.mono rfl) (State.setFld_kept (hm.mono rfl) h0_ (hm.has (k := 46) rfl)) (hm.has (k := 46) rfl))

theorem State.steerDrop_kept {M : Nat} {s0 : State} {p0 : State} {p1 : Nat} {p2 : Nat} {p3 : Nat} (hm : Msub 5192296858540435438869641521270928 M) (h0_ : Kept M s0 p0) :
    Kept M s0 (@State.steerDrop p0 p1 p2 p3) := by
  unfold State.steerDrop
  extract_lets -underBinder -merge v1
  have h5 : Kept M s0 v1 := (Kept.each h0_ (fun x2 x3 h4 =>
    (State.setFld_kept (hm.mono rfl) h4 (hm.has (k := 47) rfl))))
  try clear_value v1
  exact (Kept.ite (State.event_kept (hm.mono rfl) h5) h0_)

theorem State.setRng_kept {M : Nat} {s0 : State} {p0 : State} {p1 : Nat} {p2 : Nat} {p3 : Nat} {p4 : Fld} {p5 : Nat} (hm : Msub 70368744177664 M) (h0_ : Kept M s0 p0) :
    Kept M s0 (@State.setRng p0 p1 p2 p3 p4 p5) := by
  unfold State.setRng
  exact (State.setFld_kept (hm.mono rfl) h0_ (hm.has (k := 46) rfl))

theorem State.setOfs_kept {M : Nat} {s0 : State} {p0 : State} {p1 : Nat} {p2 : Nat} {p3 : Nat} {p4 : Int} (hm : Msub 70368744177664 M) (h0_ : Kept M s0 p0) :
    Kept M s0 (@State.setOfs p0 p1 p2 p3 p4) := by
  unfold State.setOfs
  exact (State.setRng_kept (hm.mono rfl) h0_)

theorem State.setOfsCal_kept {M : Nat} {s0 : State} {p0 : State} {p1 : Nat} {p2 : Nat} {p3 : Nat} {p4 : Int} (hm : Msub 70368744177664 M) (h0_ : Kept M s0 p0) :
    Kept M s0 (@State.setOfsCal p0 p1 p2 p3 p4) := by
  unfold State.setOfsCal
  exact (State.setRng_kept (hm.mono rfl) h0_)

theorem State.hold_kept {M : Nat} {s0 : State} {p0 : State} {p1 : Nat} {p2 : Nat} {p3 : Nat} (hm : Msub 70368744177664 M) (h0_ : Kept M s0 p0) :
    Kept M s0 (@State.hold p0 p1 p2 p3) := by
  unfold State.hold
  extract_lets -underBinder -merge v1 v2 v3
  try clear_value v1
  try clear_value v2
  have h4 : Kept M s0 v3 := (State.setRng_kept (hm.mono rfl) h0_)
  try clear_value v3
  exact (Kept.ite (State.setRng_kept (hm.mono rfl) h4) (Kept.ite h4 (State.setRng_kept (hm.mono rfl) h4)))

theorem State.holdPair_kept {M : Nat} {s0 : State} {p0 : State} {p1 : Nat} {p2 : Nat} (hm : Msub 70368744177664 M) (h0_ : Kept M s0 p0) :
    Kept M s0 (@State.holdPair p0 p1 p2) := by
  unfold State.holdPair
  exact (State.hold_kept (hm.mono rfl) (State.hold_kept (hm.mono rfl) h0_))

theorem State.keepCodes_kept {M : Nat} {s0 : State} {p0 : State} {p1 : Nat} {p2 : Nat} (hm : Msub 70368744177664 M) (h0_ : Kept M s0 p0) :
    Kept M s0 (@State.keepCodes p0 p1 p2) := by
  unfold State.keepCodes
  exact (Kept.each h0_ (fun x1 x2 h3 =>
    (State.setOfs_kept (hm.mono rfl) h3)))

end Sys2Proof.Machine
end

