-- ==== Sys2Proof/Laws/FrameLinkOps.lean ====
section
/-! SUPPORT. What the operations and meanings of Machine/LinkOps.lean can change: one frame lemma per definition. -/
namespace Sys2Proof.Machine

theorem State.modLane_kept {M : Nat} {s0 : State} {p0 : State} {p1 : Nat} {p2 : Nat} {p3 : LaneX → LaneX} (hm : Msub 1237940039285380274899124224 M) (h0_ : Kept M s0 p0) :
    Kept M s0 (@State.modLane p0 p1 p2 p3) := by
  unfold State.modLane
  exact (Kept.upd_lanes (hm.mono rfl) h0_)

theorem State.setLaneSt_kept {M : Nat} {s0 : State} {p0 : State} {p1 : Nat} {p2 : Nat} {p3 : Nat} (hm : Msub 1237940039285380824654938112 M) (h0_ : Kept M s0 p0) :
    Kept M s0 (@State.setLaneSt p0 p1 p2 p3) := by
  unfold State.setLaneSt
  exact (State.modLane_kept (hm.mono rfl) (State.setFld_kept (hm.mono rfl) h0_ (hm.has (k := 39) rfl)))

theorem State.setBundle_kept {M : Nat} {s0 : State} {p0 : State} {p1 : Nat} {p2 : Bundle} (hm : Msub 618970019642690137449562112 M) (h0_ : Kept M s0 p0) :
    Kept M s0 (@State.setBundle p0 p1 p2) := by
  unfold State.setBundle
  exact (Kept.upd_bundles (hm.mono rfl) h0_)

theorem State.portSync_kept {M : Nat} {s0 : State} {p0 : State} {p1 : Nat} (hm : Msub 274877906944 M) (h0_ : Kept M s0 p0) :
    Kept M s0 (@State.portSync p0 p1) := by
  unfold State.portSync
  extract_lets -underBinder -merge v1 v2 v3 v4 v5 v6
  try clear_value v1
  try clear_value v2
  have h7 : Kept M s0 v3 := (State.setFld_kept (hm.mono rfl) h0_ (hm.has (k := 38) rfl))
  try clear_value v3
  have h8 : Kept M s0 v4 := (State.setFld_kept (hm.mono rfl) h7 (hm.has (k := 38) rfl))
  try clear_value v4
  have h9 : Kept M s0 v5 := (State.setFld_kept (hm.mono rfl) h8 (hm.has (k := 38) rfl))
  try clear_value v5
  try clear_value v6
  exact (State.setFld_kept (hm.mono rfl) h9 (hm.has (k := 38) rfl))

theorem State.replayOcc_kept {M : Nat} {s0 : State} {p0 : State} (hm : Msub 274877906944 M) (h0_ : Kept M s0 p0) :
    Kept M s0 (@State.replayOcc p0) := by
  unfold State.replayOcc
  exact (Kept.each h0_ (fun x1 x2 h3 =>
    (by
      extract_lets -underBinder -merge v4
      try clear_value v4
      exact (State.setFld_kept (hm.mono rfl) h3 (hm.has (k := 38) rfl)))))

theorem State.bndSeqSync_kept {M : Nat} {s0 : State} {p0 : State} {p1 : Nat} (hm : Msub 8796093022208 M) (h0_ : Kept M s0 p0) :
    Kept M s0 (@State.bndSeqSync p0 p1) := by
  unfold State.bndSeqSync
  extract_lets -underBinder -merge v1 v2
  try clear_value v1
  try clear_value v2
  exact (State.setFld_kept (hm.mono rfl) h0_ (hm.has (k := 43) rfl))

theorem State.dropNote_kept {M : Nat} {s0 : State} {p0 : State} {p1 : Nat} (hm : Msub 5194832159740891897531897439326352 M) (h0_ : Kept M s0 p0) :
    Kept M s0 (@State.dropNote p0 p1) := by
  unfold State.dropNote
  exact (Kept.ite h0_ (State.event_kept (hm.mono rfl) (Kept.upd_dropTick (hm.mono rfl) h0_)))

theorem State.noroute__kept {M : Nat} {s0 : State} {p0 : State} (hm : Msub 5193564509140663668134798782632080 M) (h0_ : Kept M s0 p0) :
    Kept M s0 (@State.noroute_ p0) := by
  unfold State.noroute_
  extract_lets -underBinder -merge v1
  have h2 : Kept M s0 v1 := (State.bump_kept (hm.mono rfl) h0_ (hm.has (k := 42) rfl))
  try clear_value v1
  exact (Kept.ite h2 (State.event_kept (hm.mono rfl) (Kept.upd_noroute (hm.mono rfl) h2)))

theorem State.enqueue_kept {M : Nat} {s0 : State} {p0 : State} {p1 : Nat} {p2 : Flit} (hm : Msub 10522490333925732336642555904 M) (h0_ : Kept M s0 p0) :
    Kept M s0 (@State.enqueue p0 p1 p2) := by
  unfold State.enqueue
  extract_lets -underBinder -merge v1 v2
  try clear_value v1
  try clear_value v2
  exact (State.setBundle_kept (hm.mono rfl) (Kept.upd_plan (hm.mono rfl) h0_))

theorem State.routeOut_kept {M : Nat} {s0 : State} {p0 : State} {p1 : Flit} {p2 : Option Nat} (hm : Msub 5196110332831454052670128831664272 M) (h0_ : Kept M s0 p0) :
    Kept M s0 (@State.routeOut p0 p1 p2) := by
  unfold State.routeOut
  split
  · exact (State.noroute__kept (hm.mono rfl) h0_)
  · extract_lets -underBinder -merge v3 v4 v5
    try clear_value v3
    have h6 : Kept M s0 v4 := (Kept.ite (State.bump_kept (hm.mono rfl) h0_ (hm.has (k := 42) rfl)) h0_)
    try clear_value v4
    try clear_value v5
    exact (Kept.ite (State.dropNote_kept (hm.mono rfl) (State.bump_kept (hm.mono rfl) h0_ (hm.has (k := 16) rfl))) (Kept.ite (State.dropNote_kept (hm.mono rfl) (State.bump_kept (hm.mono rfl) h0_ (hm.has (k := 16) rfl))) (Kept.ite (State.event_kept (hm.mono rfl) (State.bump_kept (hm.mono rfl) h0_ (hm.has (k := 42) rfl))) (State.enqueue_kept (hm.mono rfl) h6))))

theorem State.takeNctr_kept {M : Nat} {s0 : State} {p0 : State} {p1 : Nat} {p2 : Nat} {p3 : Nat} (hm : Msub 2199023255552 M) (h0_ : Kept M s0 p0) :
    Kept M s0 (@State.takeNctr p0 p1 p2 p3).1 := by
  unfold State.takeNctr
  extract_lets -underBinder -merge v1 v2
  try clear_value v1
  try clear_value v2
  exact (Kept.pairMk (State.setFld64_kept (hm.mono rfl) h0_ (hm.has (k := 41) rfl)))

theorem State.sendE2e_kept {M : Nat} {s0 : State} {p0 : State} {p1 : Nat} {p2 : Nat} {p3 : Nat} {p4 : Nat} {p5 : Nat} {p6 : Nat} {p7 : Pay} {p8 : optParam Bool false} (hm : Msub 5196110332831454052672327854919824 M) (h0_ : Kept M s0 p0) :
    Kept M s0 (@State.sendE2e p0 p1 p2 p3 p4 p5 p6 p7 p8).1 := by
  unfold State.sendE2e
  extract_lets -underBinder -merge v1
  try clear_value v1
  split
  · rename_i x2 x3 e4
    have Hx2 := Kept.fst e4 (State.takeNctr_kept (hm.mono rfl) h0_)
    extract_lets -underBinder -merge v5
    try clear_value v5
    exact (Kept.pairMk (State.routeOut_kept (hm.mono rfl) Hx2))

theorem State.sendMg_kept {M : Nat} {s0 : State} {p0 : State} {p1 : Nat} {p2 : MgMsg} (hm : Msub 5196110332831454052672327854919824 M) (h0_ : Kept M s0 p0) :
    Kept M s0 (@State.sendMg p0 p1 p2) := by
  unfold State.sendMg
  exact (State.sendE2e_kept (hm.mono rfl) h0_)

theorem State.mgCount_kept {M : Nat} {s0 : State} {p0 : State} {p1 : MgTo} (hm : Msub 21778071482940061661655974875633165533184 M) (h0_ : Kept M s0 p0) :
    Kept M s0 (@State.mgCount p0 p1) := by
  unfold State.mgCount
  extract_lets -underBinder -merge v1
  try clear_value v1
  exact (Kept.ite (Kept.upd_mg (hm.mono rfl) h0_) h0_)

theorem State.mgSend_kept {M : Nat} {s0 : State} {p0 : State} {p1 : MgTo} {p2 : Nat} {p3 : Nat} {p4 : List Sys2Proof.Byte} (hm : Msub 21778071482940061661951122780812518359056 M) (h0_ : Kept M s0 p0) :
    Kept M s0 (@State.mgSend p0 p1 p2 p3 p4) := by
  unfold State.mgSend
  exact (State.bump_kept (hm.mono rfl) (State.emit_kept (hm.mono rfl) (State.mgCount_kept (hm.mono rfl) h0_)) (hm.has (k := 4) rfl))

theorem State.mgAnswer_kept {M : Nat} {s0 : State} {p0 : State} {p1 : MgTo} {p2 : Nat} {p3 : Nat} {p4 : List Sys2Proof.Byte} (hm : Msub 32667107224410092492779110218629101125648 M) (h0_ : Kept M s0 p0) :
    Kept M s0 (@State.mgAnswer p0 p1 p2 p3 p4) := by
  unfold State.mgAnswer
  extract_lets -underBinder -merge v1 v2 v3
  try clear_value v1
  try clear_value v2
  have h4 : Kept M s0 v3 := (Kept.ite (Kept.upd_sess (hm.mono rfl) h0_) h0_)
  try clear_value v3
  exact (State.mgSend_kept (hm.mono rfl) h4)

theorem State.mgCarry_kept {M : Nat} {s0 : State} {p0 : State} {p1 : Nat} {p2 : MgHead} {p3 : List Sys2Proof.Byte} (hm : Msub 5196110332831454052672327854919824 M) (h0_ : Kept M s0 p0) :
    Kept M s0 (@State.mgCarry p0 p1 p2 p3) := by
  unfold State.mgCarry
  exact (Kept.each h0_ (fun x1 x2 h3 =>
    (State.sendMg_kept (hm.mono rfl) h3)))

theorem State.sendBundle_kept {M : Nat} {s0 : State} {p0 : State} {p1 : Nat} {p2 : Pay} (hm : Msub 10522490333925732336642555904 M) (h0_ : Kept M s0 p0) :
    Kept M s0 (@State.sendBundle p0 p1 p2) := by
  unfold State.sendBundle
  exact (State.enqueue_kept (hm.mono rfl) h0_)

theorem State.startResume_kept {M : Nat} {s0 : State} {p0 : State} {p1 : Nat} (hm : Msub 5196110332831454052672327854919824 M) (h0_ : Kept M s0 p0) :
    Kept M s0 (@State.startResume p0 p1) := by
  unfold State.startResume
  extract_lets -underBinder -merge v1 v2
  try clear_value v1
  have h3 : Kept M s0 v2 := (State.setBundle_kept (hm.mono rfl) h0_)
  try clear_value v2
  exact (State.sendE2e_kept (hm.mono rfl) h3)

theorem State.bundleStop_kept {M : Nat} {s0 : State} {p0 : State} {p1 : Nat} {p2 : Nat} (hm : Msub 5196110332831454052821861436297360 M) (h0_ : Kept M s0 p0) :
    Kept M s0 (@State.bundleStop p0 p1 p2) := by
  unfold State.bundleStop
  extract_lets -underBinder -merge v1 v2 v3
  have h4 : Kept M s0 v1 := (State.setFld_kept (hm.mono rfl) h0_ (hm.has (k := 43) rfl))
  try clear_value v1
  have h5 : Kept M s0 v2 := (State.event_kept (hm.mono rfl) h4)
  try clear_value v2
  have h9 : Kept M s0 v3 := (Kept.each h5 (fun x6 x7 h8 =>
    (Kept.ite (State.steerDrop_kept (hm.mono rfl) h8) h8)))
  try clear_value v3
  exact (Kept.ite (State.startResume_kept (hm.mono rfl) h9) h0_)

theorem State.heard_kept {M : Nat} {s0 : State} {p0 : State} {p1 : Nat} (hm : Msub 8796093022208 M) (h0_ : Kept M s0 p0) :
    Kept M s0 (@State.heard p0 p1) := by
  unfold State.heard
  exact (State.setFld64_kept (hm.mono rfl) h0_ (hm.has (k := 43) rfl))

theorem State.bundleSync_kept {M : Nat} {s0 : State} {p0 : State} {p1 : Nat} (hm : Msub 5196110332831454052821861436297360 M) (h0_ : Kept M s0 p0) :
    Kept M s0 (@State.bundleSync p0 p1) := by
  unfold State.bundleSync
  extract_lets -underBinder -merge v1 v2 v3 v4 v5 v6
  try clear_value v1
  have h7 : Kept M s0 v2 := (State.setFld_kept (hm.mono rfl) h0_ (hm.has (k := 43) rfl))
  try clear_value v2
  try clear_value v3
  try clear_value v4
  have h8 : Kept M s0 v5 := (State.setFld_kept (hm.mono rfl) h7 (hm.has (k := 43) rfl))
  try clear_value v5
  try clear_value v6
  split
  · exact (State.bundleStop_kept (hm.mono rfl) h8)
  · extract_lets -underBinder -merge v11 v12 v13 v14 v15 v16
    try clear_value v11
    have h17 : Kept M s0 v12 := (State.setBundle_kept (hm.mono rfl) h8)
    try clear_value v12
    have h18 : Kept M s0 v13 := (State.setFld_kept (hm.mono rfl) h17 (hm.has (k := 43) rfl))
    try clear_value v13
    have h19 : Kept M s0 v14 := (State.setFld_kept (hm.mono rfl) h18 (hm.has (k := 43) rfl))
    try clear_value v14
    have h20 : Kept M s0 v15 := (State.setFld_kept (hm.mono rfl) h19 (hm.has (k := 43) rfl))
    try clear_value v15
    have h21 : Kept M s0 v16 := (State.heard_kept (hm.mono rfl) (State.setFld_kept (hm.mono rfl) h20 (hm.has (k := 43) rfl)))
    try clear_value v16
    exact (Kept.ite h8 (State.event_kept (hm.mono rfl) h21))

theorem State.replayOn_kept {M : Nat} {s0 : State} {p0 : State} {p1 : Nat} {p2 : Nat} {p3 : Nat} (hm : Msub 618970019642690137449562112 M) (h0_ : Kept M s0 p0) :
    Kept M s0 (@State.replayOn p0 p1 p2 p3) := by
  unfold State.replayOn
  extract_lets -underBinder -merge v1
  try clear_value v1
  split
  · exact (State.setBundle_kept (hm.mono rfl) h0_)
  · exact h0_

theorem State.replayLane_kept {M : Nat} {s0 : State} {p0 : State} {p1 : Nat} {p2 : Nat} (hm : Msub 618970019642690137449562112 M) (h0_ : Kept M s0 p0) :
    Kept M s0 (@State.replayLane p0 p1 p2) := by
  unfold State.replayLane
  exact (Kept.each h0_ (fun x1 x2 h3 =>
    (State.replayOn_kept (hm.mono rfl) h3)))

theorem State.laneStrike_kept {M : Nat} {s0 : State} {p0 : State} {p1 : Nat} {p2 : Nat} (hm : Msub 5192298096480474724109728687853712 M) (h0_ : Kept M s0 p0) :
    Kept M s0 (@State.laneStrike p0 p1 p2) := by
  unfold State.laneStrike
  extract_lets -underBinder -merge v1 v2 v3 v4 v5 v6 v7 v8 v9 v10 v11
  try clear_value v1
  try clear_value v2
  try clear_value v3
  try clear_value v4
  have h12 : Kept M s0 v5 := (State.bump_kept (hm.mono rfl) h0_ (hm.has (k := 39) rfl))
  try clear_value v5
  have h13 : Kept M s0 v6 := (State.modLane_kept (hm.mono rfl) h12)
  try clear_value v6
  have h14 : Kept M s0 v7 := (State.setFld_kept (hm.mono rfl) h13 (hm.has (k := 39) rfl))
  try clear_value v7
  have h15 : Kept M s0 v8 := (State.setFld_kept (hm.mono rfl) h14 (hm.has (k := 39) rfl))
  try clear_value v8
  try clear_value v9
  have h16 : Kept M s0 v10 := (State.setFld_kept (hm.mono rfl) h15 (hm.has (k := 39) rfl))
  try clear_value v10
  have h17 : Kept M s0 v11 := (State.setFld64_kept (hm.mono rfl) h16 (hm.has (k := 39) rfl))
  try clear_value v11
  exact (Kept.ite (Kept.ite (State.event_kept (hm.mono rfl) (State.setLaneSt_kept (hm.mono rfl) h17)) (State.event_kept (hm.mono rfl) (State.setLaneSt_kept (hm.mono rfl) h15))) (State.setLaneSt_kept (hm.mono rfl) h15))

theorem State.opticalDown_kept {M : Nat} {s0 : State} {p0 : State} {p1 : Nat} (hm : Msub 5196111570771493338202960969142416 M) (h0_ : Kept M s0 p0) :
    Kept M s0 (@State.opticalDown p0 p1) := by
  unfold State.opticalDown
  extract_lets -underBinder -merge v1 v2
  try clear_value v1
  have h11 : Kept M s0 v2 := (Kept.each h0_ (fun x3 x4 h5 =>
    (by
      extract_lets -underBinder -merge v6 v7 v8
      try clear_value v6
      have h9 : Kept M s0 v7 := (State.replayLane_kept (hm.mono rfl) (State.setLaneSt_kept (hm.mono rfl) h5))
      try clear_value v7
      have h10 : Kept M s0 v8 := (Kept.ite h9 (State.sendBundle_kept (hm.mono rfl) h9))
      try clear_value v8
      exact (State.bundleSync_kept (hm.mono rfl) h10))))
  try clear_value v2
  exact (Kept.ite (State.portSync_kept (hm.mono rfl) (State.event_kept (hm.mono rfl) h11)) h0_)

theorem State.laneLeave_kept {M : Nat} {s0 : State} {p0 : State} {p1 : Nat} {p2 : Nat} {p3 : Bool} (hm : Msub 5196111570771493338202960969142416 M) (h0_ : Kept M s0 p0) :
    Kept M s0 (@State.laneLeave p0 p1 p2 p3) := by
  unfold State.laneLeave
  extract_lets -underBinder -merge v1 v2 v3
  try clear_value v1
  have h4 : Kept M s0 v2 := (State.replayLane_kept (hm.mono rfl) h0_)
  try clear_value v2
  have h5 : Kept M s0 v3 := (Kept.ite (State.sendBundle_kept (hm.mono rfl) h4) h4)
  try clear_value v3
  exact (State.opticalDown_kept (hm.mono rfl) (State.portSync_kept (hm.mono rfl) (State.bundleSync_kept (hm.mono rfl) h5)))

theorem State.spareTakes_kept {M : Nat} {s0 : State} {p0 : State} {p1 : Nat} {p2 : Nat} {p3 : Nat} {p4 : Nat} (hm : Msub 5196111570771493338202960969142416 M) (h0_ : Kept M s0 p0) :
    Kept M s0 (@State.spareTakes p0 p1 p2 p3 p4) := by
  unfold State.spareTakes
  extract_lets -underBinder -merge v1 v2 v3 v4 v5 v6
  try clear_value v1
  have h7 : Kept M s0 v2 := (State.setFld_kept (hm.mono rfl) h0_ (hm.has (k := 39) rfl))
  try clear_value v2
  have h8 : Kept M s0 v3 := (State.setFld_kept (hm.mono rfl) h7 (hm.has (k := 39) rfl))
  try clear_value v3
  try clear_value v4
  have h9 : Kept M s0 v5 := (State.replayLane_kept (hm.mono rfl) (State.modLane_kept (hm.mono rfl) (State.setLaneSt_kept (hm.mono rfl) h8)))
  try clear_value v5
  have h10 : Kept M s0 v6 := (State.event_kept (hm.mono rfl) h9)
  try clear_value v6
  exact (State.portSync_kept (hm.mono rfl) (State.bundleSync_kept (hm.mono rfl) h10))

theorem State.laneFailTo_kept {M : Nat} {s0 : State} {p0 : State} {p1 : Nat} {p2 : Nat} {p3 : Nat} {p4 : Option Nat} {p5 : Bool} (hm : Msub 5196111570771493338202960969142416 M) (h0_ : Kept M s0 p0) :
    Kept M s0 (@State.laneFailTo p0 p1 p2 p3 p4 p5) := by
  unfold State.laneFailTo
  extract_lets -underBinder -merge v1 v2 v3 v4 v5
  try clear_value v1
  have h6 : Kept M s0 v2 := (State.event_kept (hm.mono rfl) h0_)
  try clear_value v2
  try clear_value v3
  try clear_value v4
  have h7 : Kept M s0 v5 := (State.laneStrike_kept (hm.mono rfl) h6)
  try clear_value v5
  exact (Kept.ite h0_ (Kept.ite (State.portSync_kept (hm.mono rfl) h7) (by
    split
    · extract_lets -underBinder -merge v9
      have h10 : Kept M s0 v9 := (Kept.ite (State.sendBundle_kept (hm.mono rfl) h7) h7)
      try clear_value v9
      exact (State.spareTakes_kept (hm.mono rfl) h10)
    · exact (State.laneLeave_kept (hm.mono rfl) h7))))

theorem State.laneFail_kept {M : Nat} {s0 : State} {p0 : State} {p1 : Nat} {p2 : Nat} {p3 : Nat} {p4 : optParam Bool true} (hm : Msub 5196111570771493338202960969142416 M) (h0_ : Kept M s0 p0) :
    Kept M s0 (@State.laneFail p0 p1 p2 p3 p4) := by
  unfold State.laneFail
  exact (State.laneFailTo_kept (hm.mono rfl) h0_)

theorem State.trainFail_kept {M : Nat} {s0 : State} {p0 : State} {p1 : Nat} {p2 : Nat} {p3 : Nat} {p4 : optParam Bool false} (hm : Msub 5192298096480474724110003565760656 M) (h0_ : Kept M s0 p0) :
    Kept M s0 (@State.trainFail p0 p1 p2 p3 p4) := by
  unfold State.trainFail
  extract_lets -underBinder -merge v1 v2
  have h3 : Kept M s0 v1 := (State.event_kept (hm.mono rfl) h0_)
  try clear_value v1
  have h4 : Kept M s0 v2 := (Kept.ite (State.event_kept (hm.mono rfl) h3) (Kept.ite (State.event_kept (hm.mono rfl) h3) h3))
  try clear_value v2
  exact (State.portSync_kept (hm.mono rfl) (State.laneStrike_kept (hm.mono rfl) h4))

theorem State.startTraining_kept {M : Nat} {s0 : State} {p0 : State} {p1 : Nat} {p2 : Nat} (hm : Msub 5192317903521103290405233306374288 M) (h0_ : Kept M s0 p0) :
    Kept M s0 (@State.startTraining p0 p1 p2) := by
  unfold State.startTraining
  extract_lets -underBinder -merge v1
  have h2 : Kept M s0 v1 := (State.modLane_kept (hm.mono rfl) (State.setLaneSt_kept (hm.mono rfl) h0_))
  try clear_value v1
  exact (Kept.ite h0_ (Kept.ite h2 (by
    split
    · exact (Kept.ite (State.modRing_kept (hm.mono rfl) (State.steerDrop_kept (hm.mono rfl) (State.setRingF_kept (hm.mono rfl) h2))) h2)
    · exact h2)))

theorem State.ackUpTo_kept {M : Nat} {s0 : State} {p0 : State} {p1 : Nat} {p2 : Nat} (hm : Msub 618970019642699208420491264 M) (h0_ : Kept M s0 p0) :
    Kept M s0 (@State.ackUpTo p0 p1 p2) := by
  unfold State.ackUpTo
  extract_lets -underBinder -merge v1 v2
  try clear_value v1
  try clear_value v2
  exact (State.replayOcc_kept (hm.mono rfl) (State.bndSeqSync_kept (hm.mono rfl) (State.setBundle_kept (hm.mono rfl) h0_)))

theorem State.replayFrom_kept {M : Nat} {s0 : State} {p0 : State} {p1 : Nat} {p2 : Nat} (hm : Msub 618970019642699208420491264 M) (h0_ : Kept M s0 p0) :
    Kept M s0 (@State.replayFrom p0 p1 p2) := by
  unfold State.replayFrom
  extract_lets -underBinder -merge v1
  try clear_value v1
  split
  · exact h0_
  · extract_lets -underBinder -merge v4 v5
    try clear_value v4
    have h6 : Kept M s0 v5 := (State.setBundle_kept (hm.mono rfl) h0_)
    try clear_value v5
    exact (State.bump_kept (hm.mono rfl) (State.bump_kept (hm.mono rfl) h6 (hm.has (k := 38) rfl)) (hm.has (k := 43) rfl))

theorem State.replayed_kept {M : Nat} {s0 : State} {p0 : State} {p1 : Nat} {p2 : Nat} (hm : Msub 5196110332831454052821861436297360 M) (h0_ : Kept M s0 p0) :
    Kept M s0 (@State.replayed p0 p1 p2) := by
  unfold State.replayed
  exact (Kept.ite (State.bundleStop_kept (hm.mono rfl) (State.event_kept (hm.mono rfl) h0_)) h0_)

theorem State.epState_kept {M : Nat} {s0 : State} {p0 : State} (hm : Msub 295147905179353350145 M) (h0_ : Kept M s0 p0) :
    Kept M s0 (@State.epState p0) := by
  unfold State.epState
  exact (State.setErr_kept (hm.mono rfl) h0_ (hm.has (k := 19) rfl))

theorem State.jobWrite_kept {M : Nat} {s0 : State} {p0 : State} {p1 : Nat} {p2 : Nat} {p3 : Sys2Proof.Word} (hm : Msub 332041393326772453377 M) (h0_ : Kept M s0 p0) :
    Kept M s0 (@State.jobWrite p0 p1 p2 p3) := by
  unfold State.jobWrite
  exact (Kept.ite (State.epState_kept (hm.mono rfl) h0_) (State.setShReg_kept (hm.mono rfl) h0_))

end Sys2Proof.Machine
end

