-- ==== Sys2Proof/Laws/FrameLines.lean ====
section
/-! SUPPORT. What the operations and meanings of Machine/Lines.lean can change: one frame lemma per definition. -/
namespace Sys2Proof.Machine

theorem State.setNmu_kept {M : Nat} {s0 : State} {p0 : State} {p1 : Nat} {p2 : NmuSt} (hm : Msub 77371252455336301540933632 M) (h0_ : Kept M s0 p0) :
    Kept M s0 (@State.setNmu p0 p1 p2) := by
  unfold State.setNmu
  extract_lets -underBinder -merge v1 v2
  try clear_value v1
  have h3 : Kept M s0 v2 := (Kept.upd_nmus (hm.mono rfl) h0_)
  try clear_value v2
  exact (State.setFld_kept (hm.mono rfl) h3 (hm.has (k := 35) rfl))

theorem State.nmuModRun_kept {M : Nat} {s0 : State} {p0 : State} {p1 : Nat} {p2 : Nat} {p3 : NCmd → NCmd} (hm : Msub 77371252455336301540933632 M) (h0_ : Kept M s0 p0) :
    Kept M s0 (@State.nmuModRun p0 p1 p2 p3) := by
  unfold State.nmuModRun
  extract_lets -underBinder -merge v1
  try clear_value v1
  exact (State.setNmu_kept (hm.mono rfl) h0_)

theorem State.nmuModId_kept {M : Nat} {s0 : State} {p0 : State} {p1 : Nat} {p2 : Nat} {p3 : NCmd → NCmd} (hm : Msub 77371252455336301540933632 M) (h0_ : Kept M s0 p0) :
    Kept M s0 (@State.nmuModId p0 p1 p2 p3) := by
  unfold State.nmuModId
  extract_lets -underBinder -merge v1
  try clear_value v1
  exact (State.setNmu_kept (hm.mono rfl) h0_)

theorem State.answerReq_kept {M : Nat} {s0 : State} {p0 : State} {p1 : Requester} {p2 : Bool} {p3 : Nat} {p4 : List Sys2Proof.Byte} (hm : Msub 32667112420520425323938014985777603219602 M) (h0_ : Kept M s0 p0) :
    Kept M s0 (@State.answerReq p0 p1 p2 p3 p4) := by
  unfold State.answerReq
  split
  · exact (Kept.ite h0_ (Kept.ite (State.emit_kept (hm.mono rfl) h0_) (State.emit_kept (hm.mono rfl) (State.bump_kept (hm.mono rfl) h0_ (hm.has (k := 1) rfl)))))
  · exact (State.mgAnswer_kept (hm.mono rfl) h0_)
  · exact (State.mgCarry_kept (hm.mono rfl) h0_)
  · exact (State.sendE2e_kept (hm.mono rfl) h0_)
  · exact h0_

theorem State.deliverError_kept {M : Nat} {s0 : State} {p0 : State} {p1 : Requester} {p2 : Bool} {p3 : optParam Nat 64} (hm : Msub 32752183012250742222317456158369719070866 M) (h0_ : Kept M s0 p0) :
    Kept M s0 (@State.deliverError p0 p1 p2 p3) := by
  unfold State.deliverError
  split
  · extract_lets -underBinder -merge v3
    try clear_value v3
    split
    · exact (State.progFault_kept (hm.mono rfl) h0_)
    · exact (Kept.ite (State.progFault_kept (hm.mono rfl) h0_) h0_)
  · exact (State.nmuModId_kept (hm.mono rfl) h0_)
  · exact (State.answerReq_kept (hm.mono rfl) h0_)

theorem State.reqAt_kept {M : Nat} {s0 : State} {p0 : State} {p1 : Requester} {p2 : Nat} (hm : Msub 77371252455336301540933632 M) (h0_ : Kept M s0 p0) :
    Kept M s0 (@State.reqAt p0 p1 p2) := by
  unfold State.reqAt
  split
  · exact (State.nmuModId_kept (hm.mono rfl) h0_)
  · exact h0_

theorem State.deliverLine_kept {M : Nat} {s0 : State} {p0 : State} {p1 : Requester} {p2 : List Sys2Proof.Byte} (hm : Msub 32667112420520425323938014985777603219602 M) (h0_ : Kept M s0 p0) :
    Kept M s0 (@State.deliverLine p0 p1 p2) := by
  unfold State.deliverLine
  split
  · exact h0_
  · exact (State.answerReq_kept (hm.mono rfl) h0_)

theorem State.lineOutcome_kept {M : Nat} {s0 : State} {p0 : State} {p1 : Nat} {p2 : Nat} {p3 : Requester} {p4 : Bool} (hm : Msub 32752183012250761565130569992436514369682 M) (h0_ : Kept M s0 p0) :
    Kept M s0 (@State.lineOutcome p0 p1 p2 p3 p4) := by
  unfold State.lineOutcome
  split
  · exact (Kept.ite (State.deliverLine_kept (hm.mono rfl) h0_) (State.deliverError_kept (hm.mono rfl) h0_))
  · split
    · exact h0_
    · extract_lets -underBinder -merge v5 v6
      try clear_value v5
      have h7 : Kept M s0 v6 := (Kept.upd_reads (hm.mono rfl) h0_)
      try clear_value v6
      exact (Kept.ite (Kept.ite (State.deliverError_kept (hm.mono rfl) h7) (State.answerReq_kept (hm.mono rfl) h7)) (Kept.upd_reads (hm.mono rfl) h0_))

theorem State.partDone_kept {M : Nat} {s0 : State} {p0 : State} {p1 : Requester} {p2 : Bool} (hm : Msub 32752183012250790579350240743536707317906 M) (h0_ : Kept M s0 p0) :
    Kept M s0 (@State.partDone p0 p1 p2) := by
  unfold State.partDone
  extract_lets -underBinder -merge v1 v2 v3
  have h4 : Kept M s0 v3 := (Kept.upd_stks_mats (hm.mono rfl) h0_)
  try clear_value v3
  exact (Kept.ite (State.deliverError_kept (hm.mono rfl) h4) (Kept.ite h0_ (State.answerReq_kept (hm.mono rfl) h0_)))

theorem State.putHeld_kept {M : Nat} {s0 : State} {p0 : State} {p1 : Nat} {p2 : Nat} {p3 : List Sys2Proof.Byte} {p4 : Option Nat} {p5 : Option (Nat × Nat)} {p6 : Requester} (hm : Msub 32752183012250790579571601672438401806482 M) (h0_ : Kept M s0 p0) :
    Kept M s0 (@State.putHeld p0 p1 p2 p3 p4 p5 p6) := by
  unfold State.putHeld
  split
  · split
    · rename_i x2 x3 e4
      have Hx2 := Kept.fst e4 (State.addLine_kept (hm.mono rfl) h0_)
      exact (State.partDone_kept (hm.mono rfl) Hx2)
  · exact (Kept.ite h0_ (by
      split
      · rename_i x6 x7 e8
        have Hx6 := Kept.fst e8 (State.mergeLine_kept (hm.mono rfl) h0_)
        exact (State.partDone_kept (hm.mono rfl) Hx6)))

end Sys2Proof.Machine
end

