-- ==== Sys2Proof/Laws/FrameNmuOps.lean ====
section
/-! SUPPORT. What the operations and meanings of Machine/NmuOps.lean can change: one frame lemma per definition. -/
namespace Sys2Proof.Machine

theorem State.nmuFetch_kept {M : Nat} {s0 : State} {p0 : State} {p1 : Nat} {p2 : Nat} {p3 : Nat} {p4 : Nat} {p5 : Nat} {p6 : Nat} (hm : Msub 5192296858540435438728921212784784 M) (h0_ : Kept M s0 p0) :
    Kept M s0 (@State.nmuFetch p0 p1 p2 p3 p4 p5 p6).1 := by
  unfold State.nmuFetch
  split
  · rename_i x1 x2 e3
    have Hx1 := Kept.fst e3 (State.readMem_kept (hm.mono rfl) h0_)
    extract_lets -underBinder -merge v4 v5
    try clear_value v4
    try clear_value v5
    split
    · extract_lets -underBinder -merge v9
      try clear_value v9
      exact (Kept.ite1 (by
        split
        · rename_i x10 x11 e12
          have Hx10 := Kept.fst e12 (State.readMem_kept (hm.mono rfl) Hx1)
          split
          · exact (Kept.pairMk Hx10)
          · exact (Kept.pairMk Hx10)) (Kept.pairMk Hx1))

theorem State.nmcallDone_kept {M : Nat} {s0 : State} {p0 : State} {p1 : NCmd} (hm : Msub 4835703278458516698824704 M) (h0_ : Kept M s0 p0) :
    Kept M s0 (@State.nmcallDone p0 p1) := by
  unfold State.nmcallDone
  exact (State.modSeq_kept (hm.mono rfl) h0_)

theorem State.nmcallFault_kept {M : Nat} {s0 : State} {p0 : State} {p1 : NCmd} {p2 : Nat} (hm : Msub 85075784027098067562424565194607833232 M) (h0_ : Kept M s0 p0) :
    Kept M s0 (@State.nmcallFault p0 p1 p2) := by
  unfold State.nmcallFault
  exact (Kept.ite (State.progFault_kept (hm.mono rfl) h0_) h0_)

theorem State.nmuResult_kept {M : Nat} {s0 : State} {p0 : State} {p1 : Nat} {p2 : NCmd} {p3 : Nat} (hm : Msub 171349609854303192311162416511651984 M) (h0_ : Kept M s0 p0) :
    Kept M s0 (@State.nmuResult p0 p1 p2 p3) := by
  unfold State.nmuResult
  exact (Kept.ite (Kept.upd_nmuDone (hm.mono rfl) h0_) (by
    split
    · rename_i x1 x2 e3
      have Hx1 := Kept.fst e3 (State.writeMem_kept (hm.mono rfl) h0_)
      exact (Kept.ite Hx1 (Kept.ite (State.signalWord_kept (hm.mono rfl) Hx1) (State.sendE2e_kept (hm.mono rfl) Hx1)))))

theorem State.nmuReject_kept {M : Nat} {s0 : State} {p0 : State} {p1 : Nat} {p2 : NCmd} {p3 : Nat} (hm : Msub 127777237205211138252218824670417334672 M) (h0_ : Kept M s0 p0) :
    Kept M s0 (@State.nmuReject p0 p1 p2 p3) := by
  unfold State.nmuReject
  extract_lets -underBinder -merge v1 v2 v3 v4 v5
  have h6 : Kept M s0 v1 := (State.bump_kept (hm.mono rfl) h0_ (hm.has (k := 35) rfl))
  try clear_value v1
  have h7 : Kept M s0 v2 := (State.setFld_kept (hm.mono rfl) h6 (hm.has (k := 35) rfl))
  try clear_value v2
  have h8 : Kept M s0 v3 := (State.event_kept (hm.mono rfl) (State.setFld64_kept (hm.mono rfl) h7 (hm.has (k := 35) rfl)))
  try clear_value v3
  try clear_value v4
  have h9 : Kept M s0 v5 := (Kept.ite (State.sealBlock_kept (hm.mono rfl) h8) h8)
  try clear_value v5
  exact (State.nmcallFault_kept (hm.mono rfl) (State.nmuResult_kept (hm.mono rfl) h9))

theorem State.nmuError_kept {M : Nat} {s0 : State} {p0 : State} {p1 : Nat} {p2 : NCmd} (hm : Msub 85241941340093830319296998741446307984 M) (h0_ : Kept M s0 p0) :
    Kept M s0 (@State.nmuError p0 p1 p2) := by
  unfold State.nmuError
  extract_lets -underBinder -merge v1 v2 v3 v4 v5
  have h6 : Kept M s0 v1 := (State.bump_kept (hm.mono rfl) h0_ (hm.has (k := 35) rfl))
  try clear_value v1
  have h7 : Kept M s0 v2 := (State.event_kept (hm.mono rfl) (State.setFld64_kept (hm.mono rfl) h6 (hm.has (k := 35) rfl)))
  try clear_value v2
  have h8 : Kept M s0 v3 := (Kept.ite (State.event_kept (hm.mono rfl) h7) h7)
  try clear_value v3
  try clear_value v4
  have h9 : Kept M s0 v5 := (State.nmuResult_kept (hm.mono rfl) h8)
  try clear_value v5
  exact (Kept.ite (State.nmcallFault_kept (hm.mono rfl) h9) h9)

theorem State.nmuOk_kept {M : Nat} {s0 : State} {p0 : State} {p1 : Nat} {p2 : NCmd} (hm : Msub 171349609859138895589620967570215056 M) (h0_ : Kept M s0 p0) :
    Kept M s0 (@State.nmuOk p0 p1 p2) := by
  unfold State.nmuOk
  extract_lets -underBinder -merge v1 v2 v3
  have h4 : Kept M s0 v1 := (State.bump_kept (hm.mono rfl) h0_ (hm.has (k := 35) rfl))
  try clear_value v1
  have h5 : Kept M s0 v2 := (Kept.ite (State.event_kept (hm.mono rfl) h4) h4)
  try clear_value v2
  have h6 : Kept M s0 v3 := (State.nmuResult_kept (hm.mono rfl) h5)
  try clear_value v3
  exact (Kept.ite (State.nmcallDone_kept (hm.mono rfl) h6) h6)

theorem State.nmuLeave_kept {M : Nat} {s0 : State} {p0 : State} {p1 : Nat} {p2 : NCmd} (hm : Msub 127777237205211138252218824670417334672 M) (h0_ : Kept M s0 p0) :
    Kept M s0 (@State.nmuLeave p0 p1 p2) := by
  unfold State.nmuLeave
  exact (Kept.ite (State.nmuOk_kept (hm.mono rfl) h0_) (Kept.ite (State.nmuError_kept (hm.mono rfl) h0_) (State.nmuReject_kept (hm.mono rfl) h0_)))

theorem State.nmuTotal_kept {M : Nat} {s0 : State} {p0 : State} {p1 : Nat} {p2 : Bool} {p3 : Nat} (hm : Msub 77371252455336301540933632 M) (h0_ : Kept M s0 p0) :
    Kept M s0 (@State.nmuTotal p0 p1 p2 p3) := by
  unfold State.nmuTotal
  extract_lets -underBinder -merge v1 v2 v3
  try clear_value v1
  try clear_value v2
  try clear_value v3
  exact (Kept.ite (State.bumpBy_kept (hm.mono rfl) (Kept.upd_nmus (hm.mono rfl) h0_) (hm.has (k := 35) rfl)) (State.bumpBy_kept (hm.mono rfl) (Kept.upd_nmus (hm.mono rfl) h0_) (hm.has (k := 35) rfl)))

theorem State.nmuBytes_kept {M : Nat} {s0 : State} {p0 : State} {p1 : NCmd} {p2 : Bool} {p3 : Nat} {p4 : Nat} {p5 : Nat} (hm : Msub 77371252455336301540933632 M) (h0_ : Kept M s0 p0) :
    Kept M s0 (@State.nmuBytes p0 p1 p2 p3 p4 p5) := by
  unfold State.nmuBytes
  split
  · extract_lets -underBinder -merge v3 v4 v5 v6
    try clear_value v3
    try clear_value v4
    try clear_value v5
    exact (Kept.each h0_ (fun x7 x8 h9 =>
      (by
        split
        · exact (State.nmuTotal_kept (hm.mono rfl) h9)
        · exact h9)))

theorem State.matSync_kept {M : Nat} {s0 : State} {p0 : State} {p1 : Nat} (hm : Msub 137438953472 M) (h0_ : Kept M s0 p0) :
    Kept M s0 (@State.matSync p0 p1) := by
  unfold State.matSync
  extract_lets -underBinder -merge v1
  try clear_value v1
  exact (State.setFld_kept (hm.mono rfl) (State.setFld_kept (hm.mono rfl) h0_ (hm.has (k := 37) rfl)) (hm.has (k := 37) rfl))

theorem State.matRelease_kept {M : Nat} {s0 : State} {p0 : State} {p1 : Nat} {p2 : List HeldW} (hm : Msub 32752183012250790579571601672438401806482 M) (h0_ : Kept M s0 p0) :
    Kept M s0 (@State.matRelease p0 p1 p2) := by
  unfold State.matRelease
  exact (Kept.each h0_ (fun x1 x2 h3 =>
    (Kept.ite (State.lineHoldW_kept (hm.mono rfl) h3) (State.putHeld_kept (hm.mono rfl) h3))))

theorem State.matSave_kept {M : Nat} {s0 : State} {p0 : State} {p1 : Nat} {p2 : Nat} (hm : Msub 32752183012250790579571601672575840759954 M) (h0_ : Kept M s0 p0) :
    Kept M s0 (@State.matSave p0 p1 p2) := by
  unfold State.matSave
  extract_lets -underBinder -merge v1
  try clear_value v1
  split
  · exact h0_
  · extract_lets -underBinder -merge v4 v5 v6 v7 v8 v9
    try clear_value v4
    have h10 : Kept M s0 v5 := (State.setBytes_kept (hm.mono rfl) h0_)
    try clear_value v5
    have h16 : Kept M s0 v6 := (Kept.each h10 (fun x11 x12 h13 =>
      (by
        extract_lets -underBinder -merge v14 v15
        try clear_value v14
        try clear_value v15
        exact (Kept.upd_lines (hm.mono rfl) (fun h => smWf_smSet _ _ h) h13))))
    try clear_value v6
    try clear_value v7
    try clear_value v8
    have h17 : Kept M s0 v9 := (State.bump_kept (hm.mono rfl) (State.setMat_kept (hm.mono rfl) h16) (hm.has (k := 37) rfl))
    try clear_value v9
    exact (Kept.ite (State.matFull_kept (hm.mono rfl) (State.matSync_kept (hm.mono rfl) (State.matRelease_kept (hm.mono rfl) h17))) h0_)

theorem State.holdMax_kept {M : Nat} {s0 : State} {p0 : State} {p1 : Nat} {p2 : Nat} (hm : Msub 137438953472 M) (h0_ : Kept M s0 p0) :
    Kept M s0 (@State.holdMax p0 p1 p2) := by
  unfold State.holdMax
  exact (State.setFld_kept (hm.mono rfl) h0_ (hm.has (k := 37) rfl))

theorem State.matIdle_kept {M : Nat} {s0 : State} {p0 : State} {p1 : Nat} {p2 : Nat} (hm : Msub 32752183012250790579571601672575840759954 M) (h0_ : Kept M s0 p0) :
    Kept M s0 (@State.matIdle p0 p1 p2) := by
  unfold State.matIdle
  extract_lets -underBinder -merge v1 v2 v3 v4 v5
  try clear_value v1
  have h6 : Kept M s0 v2 := (State.setMat_kept (hm.mono rfl) h0_)
  try clear_value v2
  have h7 : Kept M s0 v3 := (State.matRelease_kept (hm.mono rfl) h6)
  try clear_value v3
  have h8 : Kept M s0 v4 := (State.setFld_kept (hm.mono rfl) h7 (hm.has (k := 37) rfl))
  try clear_value v4
  have h9 : Kept M s0 v5 := (State.matSync_kept (hm.mono rfl) (State.setFld64_kept (hm.mono rfl) h8 (hm.has (k := 37) rfl)))
  try clear_value v5
  exact (State.event_kept (hm.mono rfl) h9)

theorem State.matConsume_kept {M : Nat} {s0 : State} {p0 : State} {p1 : Nat} {p2 : Nat} (hm : Msub 32752183012250790579571601672575840759954 M) (h0_ : Kept M s0 p0) :
    Kept M s0 (@State.matConsume p0 p1 p2) := by
  unfold State.matConsume
  extract_lets -underBinder -merge v1 v2 v3 v4
  try clear_value v1
  try clear_value v2
  try clear_value v3
  have h5 : Kept M s0 v4 := (State.matSync_kept (hm.mono rfl) (State.matRelease_kept (hm.mono rfl) (State.setMat_kept (hm.mono rfl) h0_)))
  try clear_value v4
  exact (Kept.ite (State.matIdle_kept (hm.mono rfl) h5) h5)

theorem State.snapAbort_kept {M : Nat} {s0 : State} {p0 : State} (hm : Msub 32752183012250790579571601672575840759954 M) (h0_ : Kept M s0 p0) :
    Kept M s0 (@State.snapAbort p0) := by
  unfold State.snapAbort
  exact (Kept.each h0_ (fun x1 x2 h3 =>
    (Kept.ite (by
      extract_lets -underBinder -merge v4
      have h5 : Kept M s0 v4 := (Kept.ite h3 (State.holdMax_kept (hm.mono rfl) h3))
      try clear_value v4
      exact (State.matIdle_kept (hm.mono rfl) (State.bump_kept (hm.mono rfl) h5 (hm.has (k := 37) rfl)))) h3)))

theorem State.snapUnits_kept {M : Nat} {s0 : State} {p0 : State} {p1 : Nat} {p2 : Nat} {p3 : List Nat} (hm : Msub 32752183012250790579571601672575840759954 M) (h0_ : Kept M s0 p0) :
    Kept M s0 (@State.snapUnits p0 p1 p2 p3) := by
  unfold State.snapUnits
  extract_lets -underBinder -merge v1 v2
  have h6 : Kept M s0 v1 := (Kept.each h0_ (fun x3 x4 h5 =>
    (State.setMat_kept (hm.mono rfl) h5)))
  try clear_value v1
  have h14 : Kept M s0 v2 := (Kept.each h6 (fun x7 x8 h9 =>
    (by
      split
      · extract_lets -underBinder -merge v12
        try clear_value v12
        exact (State.setMat_kept (hm.mono rfl) h9)
      · exact h9)))
  try clear_value v2
  exact (Kept.each h14 (fun x15 x16 h17 =>
    (by
      extract_lets -underBinder -merge v18 v19 v20 v21 v22 v23
      have h24 : Kept M s0 v18 := (State.setFld_kept (hm.mono rfl) h17 (hm.has (k := 37) rfl))
      try clear_value v18
      have h25 : Kept M s0 v19 := (State.setFld_kept (hm.mono rfl) h24 (hm.has (k := 37) rfl))
      try clear_value v19
      have h26 : Kept M s0 v20 := (State.setFld_kept (hm.mono rfl) h25 (hm.has (k := 37) rfl))
      try clear_value v20
      have h27 : Kept M s0 v21 := (State.setFld_kept (hm.mono rfl) h26 (hm.has (k := 37) rfl))
      try clear_value v21
      have h28 : Kept M s0 v22 := (State.matSync_kept (hm.mono rfl) (State.setFld64_kept (hm.mono rfl) h27 (hm.has (k := 37) rfl)))
      try clear_value v22
      have h29 : Kept M s0 v23 := (State.event_kept (hm.mono rfl) h28)
      try clear_value v23
      exact (Kept.ite (State.matIdle_kept (hm.mono rfl) h29) h29))))

theorem State.snapArm_kept {M : Nat} {s0 : State} {p0 : State} {p1 : NCmd} (hm : Msub 32752183012250790579571601672575840759954 M) (h0_ : Kept M s0 p0) :
    Kept M s0 (@State.snapArm p0 p1) := by
  unfold State.snapArm
  exact (State.snapUnits_kept (hm.mono rfl) h0_)

theorem State.snapRead_kept {M : Nat} {s0 : State} {p0 : State} {p1 : Nat} {p2 : Nat} {p3 : Option (Nat × Nat)} (hm : Msub 5192296858540435438728921212784784 M) (h0_ : Kept M s0 p0) :
    Kept M s0 (@State.snapRead p0 p1 p2 p3).1 := by
  unfold State.snapRead
  exact (Kept.foldl1 (Kept.pairMk h0_) (fun x1 x3 h2 =>
    (Kept.ite1 h2 (by
      extract_lets -underBinder -merge v4
      have h5 : Kept M s0 v4 := h2
      try clear_value v4
      split
      · exact (Kept.pairMk h5)
      · extract_lets -underBinder -merge v9 v10 v11
        try clear_value v9
        try clear_value v10
        try clear_value v11
        exact (Kept.ite1 (by
          split
          · rename_i x12 x13 e14
            have Hx12 := Kept.fst e14 (State.readMem_kept (hm.mono rfl) h5)
            exact (Kept.pairMk Hx12)
          · rename_i x15 e16
            have Hx15 := Kept.fst e16 (State.readMem_kept (hm.mono rfl) h5)
            exact (Kept.pairMk Hx15)) (Kept.ite1 (by
          split
          · rename_i x17 x18 e19
            have Hx17 := Kept.fst e19 (State.checkLine_kept (hm.mono rfl) h5)
            exact (Kept.ite1 (Kept.pairMk Hx17) (Kept.pairMk Hx17))) (Kept.pairMk h5)))))))

theorem State.nmuFetchBytes_kept {M : Nat} {s0 : State} {p0 : State} {p1 : NCmd} {p2 : Nat} {p3 : Nat} (hm : Msub 5192296858540435438728921212784784 M) (h0_ : Kept M s0 p0) :
    Kept M s0 (@State.nmuFetchBytes p0 p1 p2 p3).1 := by
  unfold State.nmuFetchBytes
  split
  · rename_i x1 x2 x3 e4
    have Hx1 := Kept.fst e4 (State.readUpTo_kept (hm.mono rfl) h0_)
    exact (Kept.pairMk Hx1)

theorem State.nmuRead_kept {M : Nat} {s0 : State} {p0 : State} {p1 : NCmd} {p2 : Nat} {p3 : Nat} {p4 : optParam Nat 32} {p5 : optParam Nat 0} (hm : Msub 5192296935911687894065222753718416 M) (h0_ : Kept M s0 p0) :
    Kept M s0 (@State.nmuRead p0 p1 p2 p3 p4 p5).1 := by
  unfold State.nmuRead
  extract_lets -underBinder -merge v1 v2
  have h3 : Kept M s0 v1 := (State.nmuBytes_kept (hm.mono rfl) h0_)
  try clear_value v1
  try clear_value v2
  exact (Kept.ite1 (State.snapRead_kept (hm.mono rfl) h3) (State.nmuFetchBytes_kept (hm.mono rfl) h3))

theorem State.nmuList_kept {M : Nat} {s0 : State} {p0 : State} {p1 : Nat} {p2 : NCmd} {p3 : Nat} {p4 : Nat} (hm : Msub 5192296935911687894065222753718416 M) (h0_ : Kept M s0 p0) :
    Kept M s0 (@State.nmuList p0 p1 p2 p3 p4).1 := by
  unfold State.nmuList
  exact (State.nmuFetchBytes_kept (hm.mono rfl) (State.nmuTotal_kept (hm.mono rfl) h0_))

theorem State.nmuElems_kept {M : Nat} {s0 : State} {p0 : State} {p1 : NCmd} {p2 : Nat} {p3 : Nat} {p4 : Nat} {p5 : optParam Nat 0} (hm : Msub 5192296935911687894065222753718416 M) (h0_ : Kept M s0 p0) :
    Kept M s0 (@State.nmuElems p0 p1 p2 p3 p4 p5).1 := by
  unfold State.nmuElems
  extract_lets -underBinder -merge v1
  try clear_value v1
  split
  · rename_i x2 x3 x4 e5
    have Hx2 := Kept.fst e5 (State.nmuRead_kept (hm.mono rfl) h0_)
    extract_lets -underBinder -merge v6
    try clear_value v6
    exact (Kept.pairMk Hx2)

theorem State.nmuStore_kept {M : Nat} {s0 : State} {p0 : State} {p1 : NCmd} {p2 : Nat} {p3 : List Sys2Proof.Byte} (hm : Msub 5192296906897689584243110154604688 M) (h0_ : Kept M s0 p0) :
    Kept M s0 (@State.nmuStore p0 p1 p2 p3).1 := by
  unfold State.nmuStore
  exact (Kept.foldl1 (Kept.pairMk h0_) (fun x1 x3 h2 =>
    (by
      split
      · rename_i x4 x5 e6
        have Hx4 := Kept.fst e6 (State.writeMem_kept (hm.mono rfl) h2)
        exact (Kept.pairMk Hx4))))

theorem State.nmuWrite_kept {M : Nat} {s0 : State} {p0 : State} {p1 : NCmd} {p2 : Nat} {p3 : List Sys2Proof.Byte} {p4 : Nat} {p5 : optParam Nat 32} {p6 : optParam Nat 0} (hm : Msub 5192296984268942039579411695538320 M) (h0_ : Kept M s0 p0) :
    Kept M s0 (@State.nmuWrite p0 p1 p2 p3 p4 p5 p6).1 := by
  unfold State.nmuWrite
  exact (State.nmuStore_kept (hm.mono rfl) (State.nmuBytes_kept (hm.mono rfl) h0_))

theorem State.nmuPut_kept {M : Nat} {s0 : State} {p0 : State} {p1 : NCmd} {p2 : Nat} {p3 : Nat} {p4 : List Nat} {p5 : optParam Nat 0} (hm : Msub 5192296984268942039579411695538320 M) (h0_ : Kept M s0 p0) :
    Kept M s0 (@State.nmuPut p0 p1 p2 p3 p4 p5).1 := by
  unfold State.nmuPut
  extract_lets -underBinder -merge v1
  try clear_value v1
  exact (State.nmuWrite_kept (hm.mono rfl) h0_)

theorem State.nmuEnd_kept {M : Nat} {s0 : State} {p0 : State} {p1 : Nat} {p2 : Nat} {p3 : Nat} {p4 : optParam Flags { }} {p5 : optParam Bool false} {p6 : optParam Nat 0} {p7 : optParam Nat 0} (hm : Msub 77371252455336301540933632 M) (h0_ : Kept M s0 p0) :
    Kept M s0 (@State.nmuEnd p0 p1 p2 p3 p4 p5 p6 p7) := by
  unfold State.nmuEnd
  exact (State.nmuModRun_kept (hm.mono rfl) h0_)

theorem State.touchUnits_kept {M : Nat} {s0 : State} {p0 : State} {p1 : List (Nat × Nat × Nat)} (hm : Msub 5192296897226061666397175062466704 M) (h0_ : Kept M s0 p0) :
    Kept M s0 (@State.touchUnits p0 p1) := by
  unfold State.touchUnits
  exact (Kept.each h0_ (fun x1 x2 h3 =>
    (Kept.ite h3 (State.matHold_kept (hm.mono rfl) h3))))

theorem State.nmuTeardown_kept {M : Nat} {s0 : State} {p0 : State} {p1 : Nat} {p2 : NCmd → Bool} (hm : Msub 5192296935911687894065205573849232 M) (h0_ : Kept M s0 p0) :
    Kept M s0 (@State.nmuTeardown p0 p1 p2) := by
  unfold State.nmuTeardown
  extract_lets -underBinder -merge v1 v2 v3 v4
  try clear_value v1
  try clear_value v3
  have h5 : Kept M s0 v4 := (State.setNmu_kept (hm.mono rfl) h0_)
  try clear_value v4
  exact (Kept.ite (State.event_kept (hm.mono rfl) h5) h5)

end Sys2Proof.Machine
end

