-- ==== Sys2Proof/Laws/FrameRecomp.lean ====
section
/-! SUPPORT. What the operations and meanings of Machine/Recomp.lean can change: one frame lemma per definition. -/
namespace Sys2Proof.Machine

theorem State.recompPost_kept {M : Nat} {s0 : State} {p0 : State} {p1 : Nat} {p2 : Recomp} (hm : Msub 5192296945583094450982256151367824 M) (h0_ : Kept M s0 p0) :
    Kept M s0 (@State.recompPost p0 p1 p2) := by
  unfold State.recompPost
  extract_lets -underBinder -merge v1 v2 v3
  try clear_value v1
  try clear_value v2
  try clear_value v3
  split
  · rename_i x4 x5 e6
    have Hx4 := Kept.fst e6 (State.nmuFetch_kept (hm.mono rfl) h0_)
    extract_lets -underBinder -merge v7 v8 v9 v10
    try clear_value v7
    try clear_value v8
    have h11 : Kept M s0 v9 := (State.setNmu_kept (hm.mono rfl) Hx4)
    try clear_value v9
    try clear_value v10
    exact (State.setStk_kept (hm.mono rfl) h11)

theorem State.recompNext_kept {M : Nat} {s0 : State} {p0 : State} {p1 : Nat} (hm : Msub 5192296945583094450982256151367824 M) (h0_ : Kept M s0 p0) :
    Kept M s0 (@State.recompNext p0 p1) := by
  unfold State.recompNext
  extract_lets -underBinder -merge v1
  try clear_value v1
  split
  · exact (Kept.ite h0_ (State.recompPost_kept (hm.mono rfl) (State.setStk_kept (hm.mono rfl) h0_)))
  · exact h0_

theorem State.dropMerges_kept {M : Nat} {s0 : State} {p0 : State} {p1 : Nat} {p2 : Nat} (hm : Msub 32752183012250790579350240743536707317906 M) (h0_ : Kept M s0 p0) :
    Kept M s0 (@State.dropMerges p0 p1 p2) := by
  unfold State.dropMerges
  extract_lets -underBinder -merge v1 v2 v3 v4
  try clear_value v2
  try clear_value v3
  have h5 : Kept M s0 v4 := (State.setStk_kept (hm.mono rfl) h0_)
  try clear_value v4
  exact (Kept.each h5 (fun x6 x7 h8 =>
    (State.partDone_kept (hm.mono rfl) h8)))

theorem State.recompFail_kept {M : Nat} {s0 : State} {p0 : State} {p1 : Nat} {p2 : RcWait} (hm : Msub 32752183012250809922163354577620682485906 M) (h0_ : Kept M s0 p0) :
    Kept M s0 (@State.recompFail p0 p1 p2) := by
  unfold State.recompFail
  extract_lets -underBinder -merge v1 v2
  try clear_value v1
  have h3 : Kept M s0 v2 := (State.event_kept (hm.mono rfl) (State.lastErr_kept (hm.mono rfl) (State.bump_kept (hm.mono rfl) h0_ (hm.has (k := 34) rfl))))
  try clear_value v2
  exact (Kept.ite (State.dropMerges_kept (hm.mono rfl) h3) (State.lineOutcome_kept (hm.mono rfl) h3))

theorem State.recompWait_kept {M : Nat} {s0 : State} {p0 : State} {p1 : Nat} {p2 : Nat} {p3 : RcWait} (hm : Msub 32752183012250809922163354577620682485906 M) (h0_ : Kept M s0 p0) :
    Kept M s0 (@State.recompWait p0 p1 p2 p3) := by
  unfold State.recompWait
  extract_lets -underBinder -merge v1
  try clear_value v1
  exact (Kept.ite (State.recompFail_kept (hm.mono rfl) h0_) (by
    split
    · exact (Kept.ite (State.setStk_kept (hm.mono rfl) h0_) (State.setStk_kept (hm.mono rfl) h0_))
    · exact (State.recompNext_kept (hm.mono rfl) (State.setStk_kept (hm.mono rfl) h0_))))

theorem State.recompRelease_kept {M : Nat} {s0 : State} {p0 : State} {p1 : Nat} (hm : Msub 32752183012250790579571601672575840759954 M) (h0_ : Kept M s0 p0) :
    Kept M s0 (@State.recompRelease p0 p1) := by
  unfold State.recompRelease
  exact (Kept.each h0_ (fun x1 x2 h3 =>
    (by
      split
      · exact h3
      · extract_lets -underBinder -merge v6 v7
        try clear_value v6
        have h8 : Kept M s0 v7 := (State.setStk_kept (hm.mono rfl) h3)
        try clear_value v7
        exact (Kept.ite (State.matHold_kept (hm.mono rfl) h8) (State.putHeld_kept (hm.mono rfl) h8)))))

theorem State.awaitLine_kept {M : Nat} {s0 : State} {p0 : State} {p1 : Nat} {p2 : Nat} {p3 : Requester} {p4 : Option (Nat × Nat)} (hm : Msub 32752183012250809922163354577620682485906 M) (h0_ : Kept M s0 p0) :
    Kept M s0 (@State.awaitLine p0 p1 p2 p3 p4) := by
  unfold State.awaitLine
  split
  · extract_lets -underBinder -merge v3 v4 v5
    try clear_value v3
    have h6 : Kept M s0 v4 := (State.reqAt_kept (hm.mono rfl) h0_)
    try clear_value v4
    try clear_value v5
    exact (Kept.ite (Kept.ite h6 (State.setStk_kept (hm.mono rfl) h6)) (by
      split
      · exact (State.recompWait_kept (hm.mono rfl) h6)
      · exact h6))

theorem State.lineAwait_kept {M : Nat} {s0 : State} {p0 : State} {p1 : Requester} {p2 : List (Nat × Nat)} {p3 : List (Nat × Nat)} (hm : Msub 32752183012250809922163354577620682485906 M) (h0_ : Kept M s0 p0) :
    Kept M s0 (@State.lineAwait p0 p1 p2 p3) := by
  unfold State.lineAwait
  exact (Kept.each h0_ (fun x1 x2 h3 =>
    (State.awaitLine_kept (hm.mono rfl) h3)))

theorem State.nmuTake_kept {M : Nat} {s0 : State} {p0 : State} {p1 : Nat} {p2 : Nat} {p3 : Nat} {p4 : Nat} {p5 : NCmd → State → State} (hm : Msub 32752183012250809922163354577758121439378 M) (h0_ : Kept M s0 p0) (f5_ : ∀ y0 y1, Kept M s0 y1 → Kept M s0 (p5 y0 y1)) :
    Kept M s0 (@State.nmuTake p0 p1 p2 p3 p4 p5) := by
  unfold State.nmuTake
  split
  · exact h0_
  · extract_lets -underBinder -merge v3 v4
    try clear_value v3
    try clear_value v4
    exact (Kept.ite (State.lineAwait_kept (hm.mono rfl) h0_) (Kept.ite (f5_ _ _ h0_) (State.touchUnits_kept (hm.mono rfl) h0_)))

theorem State.outerRead_kept {M : Nat} {s0 : State} {p0 : State} {p1 : Nat} {p2 : Nat} {p3 : Option (Nat × Nat)} {p4 : Requester} (hm : Msub 32752183012250809922163354577620682485906 M) (h0_ : Kept M s0 p0) :
    Kept M s0 (@State.outerRead p0 p1 p2 p3 p4) := by
  unfold State.outerRead
  exact (Kept.ite (by
    split
    · exact (State.deliverError_kept (hm.mono rfl) h0_)
    · extract_lets -underBinder -merge v3
      try clear_value v3
      split
      · rename_i x4 x5 e6
        have Hx4 := Kept.fst e6 (Kept.foldl1 (Kept.pairMk h0_) (fun x7 x9 h8 =>
          (by
            split
            · rename_i x10 x11 e12
              have Hx10 := Kept.fst e12 (State.checkLine_kept (hm.mono rfl) h8)
              exact (Kept.pairMk Hx10))))
        extract_lets -underBinder -merge v13
        try clear_value v13
        exact (Kept.ite (State.deliverError_kept (hm.mono rfl) Hx4) (Kept.ite (State.answerReq_kept (hm.mono rfl) Hx4) (Kept.each (Kept.upd_reads (hm.mono rfl) Hx4) (fun x14 x15 h16 =>
          (State.awaitLine_kept (hm.mono rfl) h16)))))) (Kept.ite (State.answerReq_kept (hm.mono rfl) h0_) (State.deliverError_kept (hm.mono rfl) h0_)))

theorem State.mergeRead_kept {M : Nat} {s0 : State} {p0 : State} {p1 : Nat} {p2 : Nat} {p3 : Nat} {p4 : List Sys2Proof.Byte} {p5 : Option (Nat × Nat)} {p6 : Requester} {p7 : ReadObs} (hm : Msub 32752183012250809922384715506505197105298 M) (h0_ : Kept M s0 p0) :
    Kept M s0 (@State.mergeRead p0 p1 p2 p3 p4 p5 p6 p7).1 := by
  unfold State.mergeRead
  split
  · rename_i x1 x2 e3
    have Hx1 := Kept.fst e3 (State.readLine_kept (hm.mono rfl) h0_)
    extract_lets -underBinder -merge v4
    try clear_value v4
    exact (Kept.pairMk (State.storeLine_kept (hm.mono rfl) Hx1))
  · rename_i x5 e6
    have Hx5 := Kept.fst e6 (State.readLine_kept (hm.mono rfl) h0_)
    exact (Kept.pairMk Hx5)
  · rename_i x7 x8 e9
    have Hx7 := Kept.fst e9 (State.readLine_kept (hm.mono rfl) h0_)
    split
    · extract_lets -underBinder -merge v12
      have h13 : Kept M s0 v12 := (State.lineHoldW_kept (hm.mono rfl) Hx7)
      try clear_value v12
      exact (Kept.pairMk (State.recompWait_kept (hm.mono rfl) h13))

theorem State.writeParts_kept {M : Nat} {s0 : State} {p0 : State} {p1 : Nat} {p2 : List Sys2Proof.Byte} {p3 : Option (Nat × Nat)} {p4 : Requester} {p5 : List ReadObs} {p6 : optParam Bool false} (hm : Msub 32752183012250809922384715506642636058770 M) (h0_ : Kept M s0 p0) :
    Kept M s0 (@State.writeParts p0 p1 p2 p3 p4 p5 p6).1 := by
  unfold State.writeParts
  exact (Kept.foldl1 (Kept.pairMk h0_) (fun x1 x3 h2 =>
    (by
      extract_lets -underBinder -merge v4
      try clear_value v4
      split
      · exact (Kept.pairMk h2)
      · extract_lets -underBinder -merge v8
        have h9 : Kept M s0 v8 := h2
        try clear_value v8
        exact (Kept.ite1 (Kept.pairMk h9) (by
          split
          · rename_i x10 x11 e12
            have Hx10 := Kept.fst e12 (Kept.ite1 (State.writeLine_kept (hm.mono rfl) h9) (State.mergeRead_kept (hm.mono rfl) h9))
            exact (Kept.pairMk Hx10))))))

theorem State.writeOpen_kept {M : Nat} {s0 : State} {p0 : State} {p1 : Nat} {p2 : List Sys2Proof.Byte} {p3 : Option (Nat × Nat)} {p4 : Requester} (hm : Msub 32752183012250809922384715506642636058770 M) (h0_ : Kept M s0 p0) :
    Kept M s0 (@State.writeOpen p0 p1 p2 p3 p4).1 := by
  unfold State.writeOpen
  exact (Kept.ite1 (State.writeParts_kept (hm.mono rfl) h0_) (Kept.ite1 (State.writeSram_kept (hm.mono rfl) h0_) (Kept.pairMk h0_)))

theorem State.writeDone_kept {M : Nat} {s0 : State} {p0 : State} {p1 : Requester} {p2 : Bool} (hm : Msub 32752183012250790579350240743536707317906 M) (h0_ : Kept M s0 p0) :
    Kept M s0 (@State.writeDone p0 p1 p2) := by
  unfold State.writeDone
  exact (Kept.ite (State.partDone_kept (hm.mono rfl) h0_) (Kept.ite h0_ (State.answerReq_kept (hm.mono rfl) h0_)))

theorem State.outerWrite_kept {M : Nat} {s0 : State} {p0 : State} {p1 : Nat} {p2 : List Sys2Proof.Byte} {p3 : Option (Nat × Nat)} {p4 : Requester} (hm : Msub 32752183012250809922384715506642636058770 M) (h0_ : Kept M s0 p0) :
    Kept M s0 (@State.outerWrite p0 p1 p2 p3 p4) := by
  unfold State.outerWrite
  split
  · rename_i x1 x2 e3
    have Hx1 := Kept.fst e3 (State.writeOpen_kept (hm.mono rfl) h0_)
    exact (State.writeDone_kept (hm.mono rfl) Hx1)

end Sys2Proof.Machine
end

