-- ==== Sys2Proof/Laws/FrameDescOps.lean ====
section
/-! SUPPORT. What the operations and meanings of Machine/DescOps.lean can change: one frame lemma per definition. -/
namespace Sys2Proof.Machine

theorem State.fetch_kept {M : Nat} {s0 : State} {p0 : State} {p1 : Nat} (hm : Msub 5192296858540435438728921212784784 M) (h0_ : Kept M s0 p0) :
    Kept M s0 (@State.fetch p0 p1).1 := by
  unfold State.fetch
  exact (State.readMem_kept (hm.mono rfl) h0_)

theorem State.issueCount_kept {M : Nat} {s0 : State} {p0 : State} {p1 : Nat} (hm : Msub 5070602400912917605987349692416 M) (h0_ : Kept M s0 p0) :
    Kept M s0 (@State.issueCount p0 p1) := by
  unfold State.issueCount
  split
  · exact h0_
  · rename_i x2 e3
    have Px2 := corePage_has e3 (hm.has (k := 29) rfl)
    extract_lets -underBinder -merge v4 v5 v6 v7
    try clear_value v4
    try clear_value v5
    have h8 : Kept M s0 v6 := (State.setFld64_kept (hm.mono rfl) h0_ Px2)
    try clear_value v6
    have h9 : Kept M s0 v7 := (Kept.ite (State.bump_kept (hm.mono rfl) h8 Px2) h8)
    try clear_value v7
    exact (Kept.upd_cores (hm.mono rfl) h9)

theorem State.issued_kept {M : Nat} {s0 : State} {p0 : State} {p1 : Nat} (hm : Msub 5070607236616196064504048517120 M) (h0_ : Kept M s0 p0) :
    Kept M s0 (@State.issued p0 p1) := by
  unfold State.issued
  exact (State.modSeq_kept (hm.mono rfl) (State.issueCount_kept (hm.mono rfl) h0_))

theorem State.descFault_kept {M : Nat} {s0 : State} {p0 : State} {p1 : Nat} {p2 : Nat} {p3 : DF} (hm : Msub 127611079892215375495346391140758729104 M) (h0_ : Kept M s0 p0) :
    Kept M s0 (@State.descFault p0 p1 p2 p3) := by
  unfold State.descFault
  extract_lets -underBinder -merge v1 v2
  try clear_value v1
  have h3 : Kept M s0 v2 := (Kept.ite (State.sealBlock_kept (hm.mono rfl) h0_) (Kept.ite (State.fetch_kept (hm.mono rfl) h0_) h0_))
  try clear_value v2
  exact (State.progFault_kept (hm.mono rfl) h3)

theorem State.completedAt_kept {M : Nat} {s0 : State} {p0 : State} {p1 : Nat} {p2 : Nat} (hm : Msub 4911261142184431022243840 M) (h0_ : Kept M s0 p0) :
    Kept M s0 (@State.completedAt p0 p1 p2) := by
  unfold State.completedAt
  extract_lets -underBinder -merge v1 v2 v3
  have h4 : Kept M s0 v1 := (State.modSeq_kept (hm.mono rfl) h0_)
  try clear_value v1
  try clear_value v2
  try clear_value v3
  exact (Kept.ite (State.setProg_kept (hm.mono rfl) h4) h4)

theorem State.completed_kept {M : Nat} {s0 : State} {p0 : State} {p1 : Nat} (hm : Msub 4911261142184431022243840 M) (h0_ : Kept M s0 p0) :
    Kept M s0 (@State.completed p0 p1) := by
  unfold State.completed
  exact (State.completedAt_kept (hm.mono rfl) h0_)

theorem State.pushInfl_kept {M : Nat} {s0 : State} {p0 : State} {p1 : Nat} {p2 : Infl} (hm : Msub 4835703278458518309437440 M) (h0_ : Kept M s0 p0) :
    Kept M s0 (@State.pushInfl p0 p1 p2) := by
  unfold State.pushInfl
  exact (State.coreSync_kept (hm.mono rfl) (State.modSeq_kept (hm.mono rfl) h0_))

theorem State.engTake_kept {M : Nat} {s0 : State} {p0 : State} {p1 : Nat} {p2 : Nat} {p3 : List Nat} {p4 : Bool} (hm : Msub 1073741824 M) (h0_ : Kept M s0 p0) :
    Kept M s0 (@State.engTake p0 p1 p2 p3 p4) := by
  unfold State.engTake
  extract_lets -underBinder -merge v1
  try clear_value v1
  exact (Kept.each h0_ (fun x2 x3 h4 =>
    (by
      extract_lets -underBinder -merge v5
      exact (State.setFld_kept (hm.mono rfl) (State.setFld64_kept (hm.mono rfl) (State.setFld_kept (hm.mono rfl) h4 (hm.has (k := 30) rfl)) (hm.has (k := 30) rfl)) (hm.has (k := 30) rfl)))))

theorem State.holdSer_kept {M : Nat} {s0 : State} {p0 : State} {p1 : Nat} {p2 : Bool} (hm : Msub 4835703278458518309437440 M) (h0_ : Kept M s0 p0) :
    Kept M s0 (@State.holdSer p0 p1 p2) := by
  unfold State.holdSer
  exact (Kept.ite (State.coreSync_kept (hm.mono rfl) (State.modSeq_kept (hm.mono rfl) h0_)) h0_)

theorem State.issue_kept {M : Nat} {s0 : State} {p0 : State} {p1 : Nat} {p2 : Desc} {p3 : Form} {p4 : Nat} {p5 : State → Seq → Refs → Option DF} {p6 : State → Seq → Refs → Option (List Nat)} {p7 : State → Refs → Nat → Eff} (hm : Msub 32794718313186529631009194009536466334098 M) (h0_ : Kept M s0 p0) (f7_ : ∀ y0 y1 y2, Kept M s0 y0 → Kept M s0 (p7 y0 y1 y2).s) :
    Kept M s0 (@State.issue p0 p1 p2 p3 p4 p5 p6 p7) := by
  unfold State.issue
  extract_lets -underBinder -merge v1
  try clear_value v1
  exact (Kept.ite h0_ (Kept.ite (State.holdSer_kept (hm.mono rfl) h0_) (Kept.ite (State.lineAwait_kept (hm.mono rfl) h0_) (Kept.ite h0_ (by
    split
    · exact (State.descFault_kept (hm.mono rfl) h0_)
    · split
      · exact (State.descFault_kept (hm.mono rfl) h0_)
      · extract_lets -underBinder -merge v6 v7 v8
        try clear_value v6
        try clear_value v7
        try clear_value v8
        exact (Kept.ite (State.holdSer_kept (hm.mono rfl) h0_) (by
          split
          · exact h0_
          · extract_lets -underBinder -merge v11 v12
            have h13 : Kept M s0 v11 := (State.modSeq_kept (hm.mono rfl) (State.issued_kept (hm.mono rfl) h0_))
            try clear_value v11
            have h14 : Kept M s0 v12.s := by
              try dsimp -zeta only [v12]
              exact (f7_ _ _ _ h13)
            try clear_value v12
            exact (Kept.ite (State.lineAwait_kept (hm.mono rfl) h0_) (by
              split
              · exact (State.descFault_kept (hm.mono rfl) h14)
              · extract_lets -underBinder -merge v17
                have h18 : Kept M s0 v17 := (State.engTake_kept (hm.mono rfl) h14)
                try clear_value v17
                exact (State.pushInfl_kept (hm.mono rfl) h18))))))))))

theorem State.issueCtl_kept {M : Nat} {s0 : State} {p0 : State} {p1 : Nat} {p2 : Desc} {p3 : Form} {p4 : Bool} {p5 : Nat} {p6 : State → Seq → Option DF} {p7 : State → Nat → State} (hm : Msub 32794718313186529631009194009536466334098 M) (h0_ : Kept M s0 p0) (f7_ : ∀ y0 y1, Kept M s0 y0 → Kept M s0 (p7 y0 y1)) :
    Kept M s0 (@State.issueCtl p0 p1 p2 p3 p4 p5 p6 p7) := by
  unfold State.issueCtl
  extract_lets -underBinder -merge v1
  try clear_value v1
  exact (Kept.ite h0_ (Kept.ite (State.holdSer_kept (hm.mono rfl) h0_) (Kept.ite (State.lineAwait_kept (hm.mono rfl) h0_) (by
    split
    · exact (State.descFault_kept (hm.mono rfl) h0_)
    · split
      · exact (State.descFault_kept (hm.mono rfl) h0_)
      · exact (Kept.ite (State.lineAwait_kept (hm.mono rfl) h0_) (f7_ _ _ (State.modSeq_kept (hm.mono rfl) (State.issued_kept (hm.mono rfl) h0_))))))))

theorem State.retire_kept {M : Nat} {s0 : State} {p0 : State} {p1 : Nat} {p2 : Nat} (hm : Msub 5192296863451696580913336665772176 M) (h0_ : Kept M s0 p0) :
    Kept M s0 (@State.retire p0 p1 p2) := by
  unfold State.retire
  split
  · exact h0_
  · extract_lets -underBinder -merge v3 v4 v5 v6
    try clear_value v3
    have h7 : Kept M s0 v4 := (State.modSeq_kept (hm.mono rfl) h0_)
    try clear_value v4
    have h15 : Kept M s0 v5 := by
      try dsimp -zeta only [v5]
      split
      · exact h7
      · rename_i x9 e10
        have Px9 := corePage_has e10 (hm.has (k := 29) rfl)
        extract_lets -underBinder -merge v11 v12
        have h13 : Kept M s0 v11 := (Kept.ite (State.bump_kept (hm.mono rfl) h7 Px9) h7)
        try clear_value v11
        have h14 : Kept M s0 v12 := (Kept.ite (State.bump_kept (hm.mono rfl) h13 Px9) h13)
        try clear_value v12
        exact (Kept.ite h14 (State.bumpBy_kept (hm.mono rfl) h14 Px9))
    try clear_value v5
    have h16 : Kept M s0 v6 := (Kept.ite h15 (State.event_kept (hm.mono rfl) h15))
    try clear_value v6
    exact (State.coreSync_kept (hm.mono rfl) (State.completedAt_kept (hm.mono rfl) h16))

theorem State.modInfl_kept {M : Nat} {s0 : State} {p0 : State} {p1 : Nat} {p2 : Nat} {p3 : Infl → Infl} (hm : Msub 4835703278458516698824704 M) (h0_ : Kept M s0 p0) :
    Kept M s0 (@State.modInfl p0 p1 p2 p3) := by
  unfold State.modInfl
  exact (State.modSeq_kept (hm.mono rfl) h0_)

theorem State.sendOp_kept {M : Nat} {s0 : State} {p0 : State} {p1 : Nat} {p2 : Nat} {p3 : Nat} {p4 : Nat} {p5 : Nat → Pay} {p6 : Bool} {p7 : Nat} {p8 : Nat} (hm : Msub 5196115284591611194193427451416720 M) (h0_ : Kept M s0 p0) :
    Kept M s0 (@State.sendOp p0 p1 p2 p3 p4 p5 p6 p7 p8).1 := by
  unfold State.sendOp
  extract_lets -underBinder -merge v1 v2 v3
  try clear_value v1
  try clear_value v2
  try clear_value v3
  split
  · rename_i x4 x5 e6
    have Hx4 := Kept.fst e6 (State.sendE2e_kept (hm.mono rfl) h0_)
    exact (Kept.pairMk (Kept.upd_outst (hm.mono rfl) Hx4))

theorem State.giveSig_kept {M : Nat} {s0 : State} {p0 : State} {p1 : Nat} {p2 : Nat} {p3 : Sig} (hm : Msub 85075787845572475992325543924148023440 M) (h0_ : Kept M s0 p0) :
    Kept M s0 (@State.giveSig p0 p1 p2 p3) := by
  unfold State.giveSig
  extract_lets -underBinder -merge v1
  try clear_value v1
  exact (Kept.ite (by
    split
    · rename_i x2 x3 e4
      have Hx2 := Kept.fst e4 (State.signalWord_kept (hm.mono rfl) h0_)
      extract_lets -underBinder -merge v5
      have h6 : Kept M s0 v5 := (State.modInfl_kept (hm.mono rfl) Hx2)
      try clear_value v5
      exact (Kept.ite h6 (by
        split
        · exact (State.progFault_kept (hm.mono rfl) h6)
        · exact h6))) (by
    split
    · rename_i x9 x10 e11
      have Hx9 := Kept.fst e11 (State.sendOp_kept (hm.mono rfl) h0_)
      exact (State.modInfl_kept (hm.mono rfl) Hx9)))

theorem State.flushSigsGo_kept {M : Nat} {s0 : State} {lc n : Nat} {s : State} (hm : Msub 85075787845572475992325543924148023440 M) (h : Kept M s0 s) :
    Kept M s0 (State.flushSigsGo lc n s) := by
  induction n generalizing s with
  | zero => exact h
  | succ n ih =>
    unfold State.flushSigsGo
    extract_lets
    split
    · exact h
    · refine Kept.ite h ?_
      split
      · split
        · exact ih (State.giveSig_kept (hm.mono rfl) h)
        · exact h
      · exact h

theorem State.flushSigs_kept {M : Nat} {s0 : State} {p0 : State} {p1 : Nat} (hm : Msub 85075787845572475992325543924148023440 M) (h0_ : Kept M s0 p0) :
    Kept M s0 (@State.flushSigs p0 p1) := by
  unfold State.flushSigs
  exact (State.flushSigsGo_kept (hm.mono rfl) h0_)

theorem State.flushAll_kept {M : Nat} {s0 : State} {p0 : State} (hm : Msub 85075787845572475992325543924148023440 M) (h0_ : Kept M s0 p0) :
    Kept M s0 (@State.flushAll p0) := by
  unfold State.flushAll
  exact (Kept.each h0_ (fun x1 x2 h3 =>
    (State.flushSigs_kept (hm.mono rfl) h3)))

theorem State.waitDone_kept {M : Nat} {s0 : State} {p0 : State} {p1 : Nat} {p2 : Nat} (hm : Msub 5192296863451696580913336665772176 M) (h0_ : Kept M s0 p0) :
    Kept M s0 (@State.waitDone p0 p1 p2) := by
  unfold State.waitDone
  exact (State.retire_kept (hm.mono rfl) (State.modInfl_kept (hm.mono rfl) h0_))

end Sys2Proof.Machine
end

