-- ==== Sys2Proof/Laws/FrameControl.lean ====
section
/-! SUPPORT. What the operations and meanings of Machine/Control.lean can change: one frame lemma per definition. -/
namespace Sys2Proof.Machine

theorem State.setPc_kept {M : Nat} {s0 : State} {p0 : State} {p1 : Nat} {p2 : Nat} (hm : Msub 4835703278458516698824704 M) (h0_ : Kept M s0 p0) :
    Kept M s0 (@State.setPc p0 p1 p2) := by
  unfold State.setPc
  exact (State.modSeq_kept (hm.mono rfl) h0_)

theorem execNop_kept {M : Nat} {s0 : State} {p0 : Nat} {p1 : Desc} {p2 : State} (hm : Msub 32794718313186529631009194009536466334098 M) (h2_ : Kept M s0 p2) :
    KeptO M s0 (@execNop p0 p1 p2) := by
  unfold execNop
  exact (KeptO.next (State.issueCtl_kept (hm.mono rfl) h2_ (fun x1 x3 h2 =>
    (State.completed_kept (hm.mono rfl) h2))))

theorem execEndStream_kept {M : Nat} {s0 : State} {p0 : Nat} {p1 : Desc} {p2 : State} (hm : Msub 32794718313186529631009194009536466334098 M) (h2_ : Kept M s0 p2) :
    KeptO M s0 (@execEndStream p0 p1 p2) := by
  unfold execEndStream
  exact (KeptO.ite (KeptO.next h2_) (KeptO.next (State.issueCtl_kept (hm.mono rfl) h2_ (fun x1 x3 h2 =>
    (State.coreSync_kept (hm.mono rfl) (State.completed_kept (hm.mono rfl) (State.modSeq_kept (hm.mono rfl) h2)))))))

theorem execSetReg_kept {M : Nat} {s0 : State} {p0 : Nat} {p1 : Desc} {p2 : State} (hm : Msub 32794718313186529631009194009536466334098 M) (h2_ : Kept M s0 p2) :
    KeptO M s0 (@execSetReg p0 p1 p2) := by
  unfold execSetReg
  extract_lets -underBinder -merge v1 v2
  try clear_value v1
  try clear_value v2
  exact (KeptO.next (State.issueCtl_kept (hm.mono rfl) h2_ (fun x3 x5 h4 =>
    (by
      extract_lets -underBinder -merge v6 v7
      try clear_value v6
      try clear_value v7
      exact (State.completed_kept (hm.mono rfl) (State.modSeq_kept (hm.mono rfl) h4))))))

theorem execLoop_kept {M : Nat} {s0 : State} {p0 : Nat} {p1 : Desc} {p2 : State} (hm : Msub 32794718313186529631009194009536466334098 M) (h2_ : Kept M s0 p2) :
    KeptO M s0 (@execLoop p0 p1 p2) := by
  unfold execLoop
  extract_lets -underBinder -merge v1 v2 v3 v4
  try clear_value v1
  try clear_value v2
  try clear_value v3
  try clear_value v4
  exact (KeptO.next (State.issueCtl_kept (hm.mono rfl) h2_ (fun x5 x7 h6 =>
    (State.completed_kept (hm.mono rfl) (State.modSeq_kept (hm.mono rfl) h6)))))

theorem State.waitEval_kept {M : Nat} {s0 : State} {p0 : State} {p1 : Nat} {p2 : Nat} {p3 : Nat} {p4 : Nat} {p5 : Nat} (hm : Msub 32752183012250809922163354577620682485906 M) (h0_ : Kept M s0 p0) :
    Kept M s0 (@State.waitEval p0 p1 p2 p3 p4 p5) := by
  unfold State.waitEval
  exact (Kept.ite (State.lineAwait_kept (hm.mono rfl) h0_) (by
    split
    · rename_i x1 x2 e3
      have Hx1 := Kept.fst e3 (State.readMem_kept (hm.mono rfl) h0_)
      exact (Kept.ite (State.waitDone_kept (hm.mono rfl) Hx1) Hx1)
    · rename_i x4 e5
      have Hx4 := Kept.fst e5 (State.readMem_kept (hm.mono rfl) h0_)
      exact (State.progFault_kept (hm.mono rfl) Hx4)))

theorem State.recvEval_kept {M : Nat} {s0 : State} {p0 : State} {p1 : Nat} {p2 : Nat} {p3 : Nat} {p4 : Nat} (hm : Msub 32752183012250809922384715506642636058770 M) (h0_ : Kept M s0 p0) :
    Kept M s0 (@State.recvEval p0 p1 p2 p3 p4) := by
  unfold State.recvEval
  extract_lets -underBinder -merge v1
  exact (Kept.ite (State.lineAwait_kept (hm.mono rfl) h0_) (by
    split
    · rename_i x2 x3 e4
      have Hx2 := Kept.fst e4 (State.readMem_kept (hm.mono rfl) h0_)
      exact (Kept.ite (by
        split
        · exact (Kept.ite Hx2 (State.matHold_kept (hm.mono rfl) Hx2))
        · split
          · rename_i x9 x10 e11
            have Hx9 := Kept.fst e11 (State.writeMem_kept (hm.mono rfl) Hx2)
            exact (Kept.ite (State.waitDone_kept (hm.mono rfl) Hx9) (State.progFault_kept (hm.mono rfl) Hx9))) Hx2)
    · rename_i x12 e13
      have Hx12 := Kept.fst e13 (State.readMem_kept (hm.mono rfl) h0_)
      exact (State.progFault_kept (hm.mono rfl) Hx12)))

theorem State.waitIssue_kept {M : Nat} {s0 : State} {p0 : State} {p1 : Nat} {p2 : Desc} {p3 : Nat} (hm : Msub 32794718313186529631009194009536466334098 M) (h0_ : Kept M s0 p0) :
    Kept M s0 (@State.waitIssue p0 p1 p2 p3) := by
  unfold State.waitIssue
  exact (State.issueCtl_kept (hm.mono rfl) h0_ (fun x1 x3 h2 =>
    (by
      extract_lets -underBinder -merge v4
      have h5 : Kept M s0 v4 := (State.pushInfl_kept (hm.mono rfl) h2)
      try clear_value v4
      exact (State.waitEval_kept (hm.mono rfl) h5))))

theorem execWaitGe_kept {M : Nat} {s0 : State} {p0 : Nat} {p1 : Desc} {p2 : State} (hm : Msub 32794718313186529631009194009536466334098 M) (h2_ : Kept M s0 p2) :
    KeptO M s0 (@execWaitGe p0 p1 p2) := by
  unfold execWaitGe
  exact (KeptO.next (State.waitIssue_kept (hm.mono rfl) h2_))

theorem execWaitEq_kept {M : Nat} {s0 : State} {p0 : Nat} {p1 : Desc} {p2 : State} (hm : Msub 32794718313186529631009194009536466334098 M) (h2_ : Kept M s0 p2) :
    KeptO M s0 (@execWaitEq p0 p1 p2) := by
  unfold execWaitEq
  exact (KeptO.next (State.waitIssue_kept (hm.mono rfl) h2_))

theorem execWaitNe_kept {M : Nat} {s0 : State} {p0 : Nat} {p1 : Desc} {p2 : State} (hm : Msub 32794718313186529631009194009536466334098 M) (h2_ : Kept M s0 p2) :
    KeptO M s0 (@execWaitNe p0 p1 p2) := by
  unfold execWaitNe
  exact (KeptO.next (State.waitIssue_kept (hm.mono rfl) h2_))

theorem execWaitAssert_kept {M : Nat} {s0 : State} {p0 : Nat} {p1 : Desc} {p2 : State} (hm : Msub 32794718313186529631009194009536466334098 M) (h2_ : Kept M s0 p2) :
    KeptO M s0 (@execWaitAssert p0 p1 p2) := by
  unfold execWaitAssert
  exact (KeptO.next (State.issueCtl_kept (hm.mono rfl) h2_ (fun x1 x3 h2 =>
    (State.completed_kept (hm.mono rfl) h2))))

theorem execWaitDrain_kept {M : Nat} {s0 : State} {p0 : Nat} {p1 : Desc} {p2 : State} (hm : Msub 32794718313186529631009194009536466334098 M) (h2_ : Kept M s0 p2) :
    KeptO M s0 (@execWaitDrain p0 p1 p2) := by
  unfold execWaitDrain
  exact (KeptO.next (State.issueCtl_kept (hm.mono rfl) h2_ (fun x1 x3 h2 =>
    (State.completed_kept (hm.mono rfl) h2))))

theorem execWaitConditionMet_kept {M : Nat} {s0 : State} {p0 : Nat} {p1 : Nat} {p2 : State} (hm : Msub 32752183012250809922163354577620682485906 M) (h2_ : Kept M s0 p2) :
    KeptO M s0 (@execWaitConditionMet p0 p1 p2) := by
  unfold execWaitConditionMet
  split
  · exact (KeptO.next (State.waitEval_kept (hm.mono rfl) h2_))
  · exact (KeptO.next h2_)

theorem execWaitTimeout_kept {M : Nat} {s0 : State} {p0 : Nat} {p1 : Nat} {p2 : State} (hm : Msub 32752183012250809922384715506642636058770 M) (h2_ : Kept M s0 p2) :
    KeptO M s0 (@execWaitTimeout p0 p1 p2) := by
  unfold execWaitTimeout
  extract_lets -underBinder -merge v1
  split
  · exact (KeptO.ite (KeptO.next (by
      try dsimp -zeta only [v1]
      split
      · exact (Kept.ite (State.progFault_kept (hm.mono rfl) (State.waitEval_kept (hm.mono rfl) h2_)) (State.waitEval_kept (hm.mono rfl) h2_))
      · exact (State.waitEval_kept (hm.mono rfl) h2_))) (KeptO.next h2_))
  · exact (KeptO.ite (KeptO.next (by
      try dsimp -zeta only [v1]
      split
      · exact (Kept.ite (State.progFault_kept (hm.mono rfl) (State.recvEval_kept (hm.mono rfl) h2_)) (State.recvEval_kept (hm.mono rfl) h2_))
      · exact (State.recvEval_kept (hm.mono rfl) h2_))) (KeptO.next h2_))
  · exact (KeptO.next h2_)

theorem execRecv_kept {M : Nat} {s0 : State} {p0 : Nat} {p1 : Desc} {p2 : State} (hm : Msub 32794718313186529631230554938558419906962 M) (h2_ : Kept M s0 p2) :
    KeptO M s0 (@execRecv p0 p1 p2) := by
  unfold execRecv
  exact (KeptO.next (State.issueCtl_kept (hm.mono rfl) h2_ (fun x1 x3 h2 =>
    (by
      extract_lets -underBinder -merge v4
      have h5 : Kept M s0 v4 := (State.pushInfl_kept (hm.mono rfl) h2)
      try clear_value v4
      exact (State.recvEval_kept (hm.mono rfl) h5)))))

theorem execRecvSatisfied_kept {M : Nat} {s0 : State} {p0 : Nat} {p1 : Nat} {p2 : State} (hm : Msub 32752183012250809922384715506642636058770 M) (h2_ : Kept M s0 p2) :
    KeptO M s0 (@execRecvSatisfied p0 p1 p2) := by
  unfold execRecvSatisfied
  split
  · exact (KeptO.next (State.recvEval_kept (hm.mono rfl) h2_))
  · exact (KeptO.next h2_)

theorem State.signalIssue_kept {M : Nat} {s0 : State} {p0 : State} {p1 : Nat} {p2 : Desc} {p3 : Bool} (hm : Msub 32794718313191481391387696459658016403858 M) (h0_ : Kept M s0 p0) :
    Kept M s0 (@State.signalIssue p0 p1 p2 p3) := by
  unfold State.signalIssue
  extract_lets -underBinder -merge v1 v2 v3 v4
  try clear_value v1
  try clear_value v2
  try clear_value v3
  try clear_value v4
  exact (State.issueCtl_kept (hm.mono rfl) h0_ (fun x5 x7 h6 =>
    (by
      extract_lets -underBinder -merge v8
      have h9 : Kept M s0 v8 := (State.pushInfl_kept (hm.mono rfl) h6)
      try clear_value v8
      exact (State.flushSigs_kept (hm.mono rfl) h9))))

theorem execSignalAdd_kept {M : Nat} {s0 : State} {p0 : Nat} {p1 : Desc} {p2 : State} (hm : Msub 32794718313191481391387696459658016403858 M) (h2_ : Kept M s0 p2) :
    KeptO M s0 (@execSignalAdd p0 p1 p2) := by
  unfold execSignalAdd
  exact (KeptO.next (State.signalIssue_kept (hm.mono rfl) h2_))

theorem execSignalWrite_kept {M : Nat} {s0 : State} {p0 : Nat} {p1 : Desc} {p2 : State} (hm : Msub 32794718313191481391387696459658016403858 M) (h2_ : Kept M s0 p2) :
    KeptO M s0 (@execSignalWrite p0 p1 p2) := by
  unfold execSignalWrite
  exact (KeptO.next (State.signalIssue_kept (hm.mono rfl) h2_))

theorem execTickw_kept {M : Nat} {s0 : State} {p0 : Nat} {p1 : Desc} {p2 : State} (hm : Msub 32794718313186529631009194009536466334098 M) (h2_ : Kept M s0 p2) :
    KeptO M s0 (@execTickw p0 p1 p2) := by
  unfold execTickw
  extract_lets -underBinder -merge v1
  try clear_value v1
  exact (KeptO.next (State.issueCtl_kept (hm.mono rfl) h2_ (fun x2 x4 h3 =>
    (by
      extract_lets -underBinder -merge v5 v6 v7
      try clear_value v5
      try clear_value v6
      try clear_value v7
      exact (Kept.ite (State.completed_kept (hm.mono rfl) h3) (State.pushInfl_kept (hm.mono rfl) h3))))))

theorem State.tickwEdge_kept {M : Nat} {s0 : State} {p0 : State} (hm : Msub 5192296863451696580913336665772176 M) (h0_ : Kept M s0 p0) :
    Kept M s0 (@State.tickwEdge p0) := by
  unfold State.tickwEdge
  exact (Kept.each h0_ (fun x1 x2 h3 =>
    (Kept.each h3 (fun x4 x5 h6 =>
      (by
        split
        · exact (Kept.ite (State.waitDone_kept (hm.mono rfl) h6) h6)
        · exact h6)))))

theorem execStepf_kept {M : Nat} {s0 : State} {p0 : Nat} {p1 : Desc} {p2 : State} (hm : Msub 32794718313186529631009194009536466334098 M) (h2_ : Kept M s0 p2) :
    KeptO M s0 (@execStepf p0 p1 p2) := by
  unfold execStepf
  exact (KeptO.ite (KeptO.next h2_) (KeptO.next (State.issueCtl_kept (hm.mono rfl) h2_ (fun x1 x3 h2 =>
    (State.pushInfl_kept (hm.mono rfl) h2)))))

theorem execNmcall_kept {M : Nat} {s0 : State} {p0 : Nat} {p1 : Desc} {p2 : State} (hm : Msub 32794718313186529631009194009536466334098 M) (h2_ : Kept M s0 p2) :
    KeptO M s0 (@execNmcall p0 p1 p2) := by
  unfold execNmcall
  extract_lets -underBinder -merge v1 v2 v3
  try clear_value v1
  try clear_value v2
  try clear_value v3
  exact (KeptO.ite (KeptO.next h2_) (KeptO.next (State.issueCtl_kept (hm.mono rfl) h2_ (fun x4 x6 h5 =>
    (by
      extract_lets -underBinder -merge v7 v8
      try clear_value v7
      try clear_value v8
      exact (Kept.ite (State.progFault_kept (hm.mono rfl) h5) (by
        split
        · rename_i x9 x10 e11
          have Hx9 := Kept.fst e11 (State.nmuFetch_kept (hm.mono rfl) h5)
          extract_lets -underBinder -merge v12 v13 v14 v15
          try clear_value v12
          try clear_value v13
          try clear_value v14
          have h16 : Kept M s0 v15 := (State.setNmu_kept (hm.mono rfl) Hx9)
          try clear_value v15
          exact (Kept.ite (State.pushInfl_kept (hm.mono rfl) h16) (State.completed_kept (hm.mono rfl) h16)))))))))

end Sys2Proof.Machine
end

