-- ==== Sys2Proof/Laws/FrameArrays.lean ====
section
/-! SUPPORT. What the operations and meanings of Machine/Arrays.lean can change: one frame lemma per definition. -/
namespace Sys2Proof.Machine

theorem State.readRows_kept {M : Nat} {s0 : State} {p0 : State} {p1 : List (Nat × Nat)} {p2 : Option (Nat × Nat)} (hm : Msub 5192296858540435438728921212784784 M) (h0_ : Kept M s0 p0) :
    Kept M s0 (@State.readRows p0 p1 p2).1 := by
  unfold State.readRows
  exact (Kept.foldl1 (Kept.pairMk h0_) (fun x1 x3 h2 =>
    (by
      split
      · exact h2
      · split
        · rename_i x6 x7 e8
          have Hx6 := Kept.fst e8 (State.readMem_kept (hm.mono rfl) h2)
          exact (Kept.pairMk Hx6)
        · rename_i x9 e10
          have Hx9 := Kept.fst e10 (State.readMem_kept (hm.mono rfl) h2)
          exact (Kept.pairMk Hx9))))

theorem State.readBits_kept {M : Nat} {s0 : State} {p0 : State} {p1 : Tens} {p2 : Option (Nat × Nat)} (hm : Msub 5192296858540435438728921212784784 M) (h0_ : Kept M s0 p0) :
    Kept M s0 (@State.readBits p0 p1 p2).1 := by
  unfold State.readBits
  split
  · rename_i x1 x2 e3
    have Hx1 := Kept.fst e3 (State.readRows_kept (hm.mono rfl) h0_)
    exact (Kept.pairMk Hx1)
  · rename_i x4 e5
    have Hx4 := Kept.fst e5 (State.readRows_kept (hm.mono rfl) h0_)
    exact (Kept.pairMk Hx4)

theorem State.readBitsOf_kept {M : Nat} {s0 : State} {p0 : State} {p1 : Tens} {p2 : Nat × Nat × Nat → Bool} {p3 : Option (Nat × Nat)} (hm : Msub 5192296858540435438728921212784784 M) (h0_ : Kept M s0 p0) :
    Kept M s0 (@State.readBitsOf p0 p1 p2 p3).1 := by
  unfold State.readBitsOf
  split
  · rename_i x1 x2 e3
    have Hx1 := Kept.fst e3 (State.readRows_kept (hm.mono rfl) h0_)
    exact (Kept.pairMk Hx1)
  · rename_i x4 e5
    have Hx4 := Kept.fst e5 (State.readRows_kept (hm.mono rfl) h0_)
    exact (Kept.pairMk Hx4)

theorem State.readRowsOf_kept {M : Nat} {s0 : State} {p0 : State} {p1 : Tref} {p2 : Nat → Bool} {p3 : Option (Nat × Nat)} (hm : Msub 5192296858540435438728921212784784 M) (h0_ : Kept M s0 p0) :
    Kept M s0 (@State.readRowsOf p0 p1 p2 p3).1 := by
  unfold State.readRowsOf
  split
  · rename_i x1 e2
    have Hx1 := Kept.fst e2 (State.readBitsOf_kept (hm.mono rfl) h0_)
    exact (Kept.pairMk Hx1)
  · rename_i x3 x4 e5
    have Hx3 := Kept.fst e5 (State.readBitsOf_kept (hm.mono rfl) h0_)
    split
    · exact (Kept.pairMk Hx3)
    · extract_lets -underBinder -merge v8
      split
      · rename_i x9 e10
        have Hx9 := Kept.fst e10 (State.readBitsOf_kept (hm.mono rfl) Hx3)
        exact (Kept.pairMk Hx9)
      · rename_i x11 x12 e13
        have Hx11 := Kept.fst e13 (State.readBitsOf_kept (hm.mono rfl) Hx3)
        exact (Kept.pairMk Hx11)

theorem State.readArr_kept {M : Nat} {s0 : State} {p0 : State} {p1 : Tref} {p2 : Option (Nat × Nat)} (hm : Msub 5192296858540435438728921212784784 M) (h0_ : Kept M s0 p0) :
    Kept M s0 (@State.readArr p0 p1 p2).1 := by
  unfold State.readArr
  extract_lets -underBinder -merge v1 v2
  try clear_value v1
  split
  · rename_i x3 e4
    have Hx3 := Kept.fst e4 (State.readBits_kept (hm.mono rfl) h0_)
    exact (Kept.pairMk Hx3)
  · rename_i x5 x6 e7
    have Hx5 := Kept.fst e7 (State.readBits_kept (hm.mono rfl) h0_)
    split
    · exact (Kept.pairMk Hx5)
    · split
      · rename_i x10 e11
        have Hx10 := Kept.fst e11 (State.readBits_kept (hm.mono rfl) Hx5)
        exact (Kept.pairMk Hx10)
      · rename_i x12 x13 e14
        have Hx12 := Kept.fst e14 (State.readBits_kept (hm.mono rfl) Hx5)
        exact (Kept.pairMk Hx12)

theorem State.writeRows_kept {M : Nat} {s0 : State} {p0 : State} {p1 : List (Nat × List Sys2Proof.Byte)} {p2 : Option (Nat × Nat)} (hm : Msub 5192296906897689584243110154604688 M) (h0_ : Kept M s0 p0) :
    Kept M s0 (@State.writeRows p0 p1 p2).1 := by
  unfold State.writeRows
  exact (Kept.foldl1 (Kept.pairMk h0_) (fun x1 x3 h2 =>
    (by
      split
      · rename_i x4 x5 e6
        have Hx4 := Kept.fst e6 (State.writeMem_kept (hm.mono rfl) h2)
        exact (Kept.pairMk Hx4))))

theorem State.writeBits_kept {M : Nat} {s0 : State} {p0 : State} {p1 : Tens} {p2 : List Nat} {p3 : Option (Nat × Nat)} (hm : Msub 5192296906897689584243110154604688 M) (h0_ : Kept M s0 p0) :
    Kept M s0 (@State.writeBits p0 p1 p2 p3).1 := by
  unfold State.writeBits
  extract_lets -underBinder -merge v1
  try clear_value v1
  exact (State.writeRows_kept (hm.mono rfl) h0_)

theorem State.writeOut_kept {M : Nat} {s0 : State} {p0 : State} {p1 : Tref} {p2 : Nat} {p3 : List (Val × Bool)} {p4 : Option (Nat × Nat)} (hm : Msub 5192296906897689584243110154604688 M) (h0_ : Kept M s0 p0) :
    Kept M s0 (@State.writeOut p0 p1 p2 p3 p4).1 := by
  unfold State.writeOut
  extract_lets -underBinder -merge v1 v2
  try clear_value v1
  try clear_value v2
  split
  · extract_lets -underBinder -merge v4
    try clear_value v4
    split
    · rename_i x5 x6 e7
      have Hx5 := Kept.fst e7 (State.writeBits_kept (hm.mono rfl) h0_)
      exact (Kept.pairMk Hx5)
  · extract_lets -underBinder -merge v9
    try clear_value v9
    split
    · rename_i x10 x11 e12
      have Hx10 := Kept.fst e12 (State.writeBits_kept (hm.mono rfl) h0_)
      split
      · rename_i x13 x14 e15
        have Hx13 := Kept.fst e15 (State.writeBits_kept (hm.mono rfl) Hx10)
        exact (Kept.pairMk Hx13)

theorem Eff.plus_kept {M : Nat} {s0 : State} {p0 : Eff} {p1 : Nat} (hm : Msub 0 M) (h0_ : Kept M s0 p0.s) :
    Kept M s0 (@Eff.plus p0 p1).s := by
  unfold Eff.plus
  exact (Kept.effMk h0_)

theorem Eff.bus_kept {M : Nat} {s0 : State} {p0 : State} {p1 : Nat} (hm : Msub 0 M) (h0_ : Kept M s0 p0) :
    Kept M s0 (@Eff.bus p0 p1).s := by
  unfold Eff.bus
  exact (Kept.effMk h0_)

end Sys2Proof.Machine
end

