-- ==== Sys2Proof/Laws/FrameMatrix.lean ====
section
/-! SUPPORT. What the operations and meanings of Machine/Matrix.lean can change: one frame lemma per definition. -/
namespace Sys2Proof.Machine

theorem State.scalesOk_kept {M : Nat} {s0 : State} {p0 : State} {p1 : List Nat} {p2 : Option (Nat × Nat)} (hm : Msub 5192296858540435438728921212784784 M) (h0_ : Kept M s0 p0) :
    Kept M s0 (@State.scalesOk p0 p1 p2).1 := by
  unfold State.scalesOk
  split
  · rename_i x1 x2 e3
    have Hx1 := Kept.fst e3 (State.readRows_kept (hm.mono rfl) h0_)
    exact (Kept.pairMk Hx1)

theorem State.matEffect_kept {M : Nat} {s0 : State} {p0 : State} {p1 : Nat} {p2 : Refs} {p3 : MUse} {p4 : List Nat} (hm : Msub 5192296911733392862701626853429392 M) (h0_ : Kept M s0 p0) :
    Kept M s0 (@State.matEffect p0 p1 p2 p3 p4).s := by
  unfold State.matEffect
  extract_lets -underBinder -merge v1 v2 v3 v4 v5 v6 v7 v8 v9
  try clear_value v1
  try clear_value v2
  try clear_value v3
  try clear_value v4
  try clear_value v5
  try clear_value v6
  try clear_value v7
  try clear_value v8
  try clear_value v9
  split
  · rename_i x10 e11
    have Hx10 := Kept.fst e11 (State.readBitsOf_kept (hm.mono rfl) h0_)
    exact (Eff.bus_kept (hm.mono rfl) Hx10)
  · rename_i x12 x13 e14
    have Hx12 := Kept.fst e14 (State.readBitsOf_kept (hm.mono rfl) h0_)
    split
    · rename_i x15 e16
      have Hx15 := Kept.fst e16 (State.readBits_kept (hm.mono rfl) Hx12)
      exact (Eff.bus_kept (hm.mono rfl) Hx15)
    · rename_i x17 x18 e19
      have Hx17 := Kept.fst e19 (State.readBits_kept (hm.mono rfl) Hx12)
      extract_lets -underBinder -merge v20
      try clear_value v20
      split
      · rename_i x21 e22
        have Hx21 := Kept.fst e22 (State.scalesOk_kept (hm.mono rfl) Hx17)
        exact (Eff.bus_kept (hm.mono rfl) Hx21)
      · rename_i x23 e24
        have Hx23 := Kept.fst e24 (State.scalesOk_kept (hm.mono rfl) Hx17)
        extract_lets -underBinder -merge v25
        try clear_value v25
        split
        · rename_i x26 e27
          have Hx26 := Kept.fst e27 (State.scalesOk_kept (hm.mono rfl) Hx23)
          exact (Eff.bus_kept (hm.mono rfl) Hx26)
        · rename_i x28 e29
          have Hx28 := Kept.fst e29 (State.scalesOk_kept (hm.mono rfl) Hx23)
          split
          · rename_i x30 e31
            have Hx30 := Kept.fst e31 (by
              split
              · exact (State.readArr_kept (hm.mono rfl) Hx28)
              · exact (Kept.pairMk Hx28))
            exact (Eff.bus_kept (hm.mono rfl) Hx30)
          · rename_i x34 x35 e36
            have Hx34 := Kept.fst e36 (by
              split
              · exact (State.readArr_kept (hm.mono rfl) Hx28)
              · exact (Kept.pairMk Hx28))
            extract_lets -underBinder -merge v39 v40 v41 v42 v43 v44 v45 v46 v47 v48 v49 v50
            try clear_value v44
            try clear_value v45
            try clear_value v46
            try clear_value v47
            have h51 : Kept M s0 v48 := (Kept.ite Hx34 (State.modSeq_kept (hm.mono rfl) Hx34))
            try clear_value v48
            try clear_value v49
            try clear_value v50
            exact (Kept.iteE (Kept.effMk Hx34) (Kept.iteE (by
              split
              · rename_i x52 x53 x54 e55
                have Hx52 := Kept.fst e55 (State.writeOut_kept (hm.mono rfl) h51)
                extract_lets -underBinder -merge v56
                have h57 : Kept M s0 v56.s := (Eff.ofOut_kept (Kept.pairMk Hx52))
                try clear_value v56
                exact (Kept.effMk h57)) (Kept.effMk (State.modSeq_kept (hm.mono rfl) Hx34))))

theorem State.matIssue_kept {M : Nat} {s0 : State} {p0 : State} {p1 : Nat} {p2 : Desc} {p3 : Bool} (hm : Msub 32794718313186529631230554938558419906962 M) (h0_ : Kept M s0 p0) :
    Kept M s0 (@State.matIssue p0 p1 p2 p3) := by
  unfold State.matIssue
  extract_lets -underBinder -merge v1 v2 v3 v4 v5 v6
  try clear_value v1
  try clear_value v2
  try clear_value v3
  try clear_value v4
  try clear_value v5
  try clear_value v6
  exact (State.issue_kept (hm.mono rfl) h0_ (fun x7 x9 x10 h8 =>
    (by
      split
      · exact (Kept.effMk h8)
      · extract_lets -underBinder -merge v13 v14
        try clear_value v13
        try clear_value v14
        exact (State.matEffect_kept (hm.mono rfl) h8))))

theorem execMatmul_kept {M : Nat} {s0 : State} {p0 : Nat} {p1 : Desc} {p2 : State} (hm : Msub 32794718313186529631230554938558419906962 M) (h2_ : Kept M s0 p2) :
    KeptO M s0 (@execMatmul p0 p1 p2) := by
  unfold execMatmul
  exact (KeptO.next (State.matIssue_kept (hm.mono rfl) h2_))

theorem execMatmulAcc_kept {M : Nat} {s0 : State} {p0 : Nat} {p1 : Desc} {p2 : State} (hm : Msub 32794718313186529631230554938558419906962 M) (h2_ : Kept M s0 p2) :
    KeptO M s0 (@execMatmulAcc p0 p1 p2) := by
  unfold execMatmulAcc
  exact (KeptO.next (State.matIssue_kept (hm.mono rfl) h2_))

end Sys2Proof.Machine
end

