-- ==== Sys2Proof/Laws/FrameColl.lean ====
section
/-! SUPPORT. What the operations and meanings of Machine/Coll.lean can change: one frame lemma per definition. -/
namespace Sys2Proof.Machine

theorem State.tapRegion_kept {M : Nat} {s0 : State} {p0 : State} {p1 : Nat} {p2 : Nat} {p3 : Nat} {p4 : CtReg} {p5 : List (Nat × List Sys2Proof.Byte)} (hm : Msub 88272865021148853250681368718938256 M) (h0_ : Kept M s0 p0) :
    Kept M s0 (@State.tapRegion p0 p1 p2 p3 p4 p5) := by
  unfold State.tapRegion
  split
  · exact h0_
  · extract_lets -underBinder -merge v3 v4
    try clear_value v3
    try clear_value v4
    exact (Kept.ite h0_ (by
      split
      · rename_i x5 x6 e7
        have Hx5 := Kept.fst e7 (Kept.foldl1 (Kept.pairMk h0_) (fun x8 x10 h9 =>
          (by
            split
            · rename_i x11 x12 e13
              have Hx11 := Kept.fst e13 (State.sendOp_kept (hm.mono rfl) h9)
              exact (Kept.pairMk Hx11))))
        exact (Kept.upd_taps (hm.mono rfl) Hx5)))

theorem State.tapRows_kept {M : Nat} {s0 : State} {p0 : State} {p1 : Nat} {p2 : Nat} {p3 : Nat} {p4 : List (Nat × List Sys2Proof.Byte)} (hm : Msub 88272865021148853250681368723132560 M) (h0_ : Kept M s0 p0) :
    Kept M s0 (@State.tapRows p0 p1 p2 p3 p4) := by
  unfold State.tapRows
  extract_lets -underBinder -merge v1 v2 v3
  try clear_value v1
  try clear_value v2
  have h7 : Kept M s0 v3 := (Kept.each h0_ (fun x4 x5 h6 =>
    (State.tapRegion_kept (hm.mono rfl) h6)))
  try clear_value v3
  exact (Kept.ite (State.bump_kept (hm.mono rfl) h7 (hm.has (k := 22) rfl)) h7)

theorem State.tapAck_kept {M : Nat} {s0 : State} {p0 : State} {p1 : Nat} {p2 : Nat} (hm : Msub 88272865021148853250681368718938256 M) (h0_ : Kept M s0 p0) :
    Kept M s0 (@State.tapAck p0 p1 p2) := by
  unfold State.tapAck
  extract_lets -underBinder -merge v1 v2
  try clear_value v1
  have h3 : Kept M s0 v2 := (Kept.upd_taps (hm.mono rfl) h0_)
  try clear_value v2
  exact (Kept.each h3 (fun x4 x5 h6 =>
    (Kept.ite (Kept.upd_taps (hm.mono rfl) h6) (Kept.ite h6 (by
      split
      · rename_i x7 x8 e9
        have Hx7 := Kept.fst e9 (State.sendOp_kept (hm.mono rfl) h6)
        exact (Kept.upd_taps (hm.mono rfl) Hx7))))))

theorem State.collSync_kept {M : Nat} {s0 : State} {p0 : State} (hm : Msub 2147483648 M) (h0_ : Kept M s0 p0) :
    Kept M s0 (@State.collSync p0) := by
  unfold State.collSync
  exact (Kept.each h0_ (fun x1 x2 h3 =>
    (State.setFld_kept (hm.mono rfl) h3 (hm.has (k := 31) rfl))))

theorem State.collPurge_kept {M : Nat} {s0 : State} {p0 : State} (hm : Msub 41538374868278621028243972781244416 M) (h0_ : Kept M s0 p0) :
    Kept M s0 (@State.collPurge p0) := by
  unfold State.collPurge
  exact (State.collSync_kept (hm.mono rfl) (Kept.upd_colls (hm.mono rfl) h0_))

theorem State.setColl_kept {M : Nat} {s0 : State} {p0 : State} {p1 : Coll} (hm : Msub 41538374868278621028243970633760768 M) (h0_ : Kept M s0 p0) :
    Kept M s0 (@State.setColl p0 p1) := by
  unfold State.setColl
  exact (Kept.upd_colls (hm.mono rfl) h0_)

theorem State.collSend_kept {M : Nat} {s0 : State} {p0 : State} {p1 : Coll} {p2 : Nat} {p3 : Nat} {p4 : List Sys2Proof.Byte} {p5 : Nat} {p6 : Nat} (hm : Msub 5196110332831454052672327854919824 M) (h0_ : Kept M s0 p0) :
    Kept M s0 (@State.collSend p0 p1 p2 p3 p4 p5 p6) := by
  unfold State.collSend
  split
  · exact h0_
  · extract_lets -underBinder -merge v3
    try clear_value v3
    exact (Kept.each h0_ (fun x4 x5 h6 =>
      (by
        extract_lets -underBinder -merge v7
        try clear_value v7
        exact (State.sendE2e_kept (hm.mono rfl) h6))))

theorem State.collTell_kept {M : Nat} {s0 : State} {p0 : State} {p1 : Coll} {p2 : Pay} (hm : Msub 5196110332831454052672327854919824 M) (h0_ : Kept M s0 p0) :
    Kept M s0 (@State.collTell p0 p1 p2) := by
  unfold State.collTell
  extract_lets -underBinder -merge v1
  try clear_value v1
  exact (Kept.each h0_ (fun x2 x3 h4 =>
    (by
      split
      · exact h4
      · exact (State.sendE2e_kept (hm.mono rfl) h4))))

theorem State.collFault_kept {M : Nat} {s0 : State} {p0 : State} {p1 : Coll} (hm : Msub 85117362966785553486793657061891649680 M) (h0_ : Kept M s0 p0) :
    Kept M s0 (@State.collFault p0 p1) := by
  unfold State.collFault
  extract_lets -underBinder -merge v1
  try clear_value v1
  exact (State.collPurge_kept (hm.mono rfl) (State.modPartX_kept (hm.mono rfl) (State.progFault_kept (hm.mono rfl) h0_)))

theorem State.collPhase1_kept {M : Nat} {s0 : State} {p0 : State} {p1 : Coll} (hm : Msub 5196110332831454052672327854919824 M) (h0_ : Kept M s0 p0) :
    Kept M s0 (@State.collPhase1 p0 p1).1 := by
  unfold State.collPhase1
  exact (Kept.ite1 (Kept.pairMk (Kept.each h0_ (fun x1 x2 h3 =>
    (by
      extract_lets -underBinder -merge v4
      try clear_value v4
      exact (State.collSend_kept (hm.mono rfl) h3))))) (Kept.pairMk h0_))

theorem State.collPhase3_kept {M : Nat} {s0 : State} {p0 : State} {p1 : Coll} (hm : Msub 5196110332831454052672327854919824 M) (h0_ : Kept M s0 p0) :
    Kept M s0 (@State.collPhase3 p0 p1).1 := by
  unfold State.collPhase3
  exact (Kept.ite1 (by
    split
    · exact (Kept.pairMk h0_)
    · extract_lets -underBinder -merge v3
      try clear_value v3
      exact (Kept.pairMk (Kept.each h0_ (fun x4 x5 h6 =>
        (State.collSend_kept (hm.mono rfl) h6))))) (Kept.pairMk h0_))

theorem State.collCount_kept {M : Nat} {s0 : State} {p0 : State} {p1 : Coll} {p2 : Nat} (hm : Msub 1048576 M) (h0_ : Kept M s0 p0) :
    Kept M s0 (@State.collCount p0 p1 p2) := by
  unfold State.collCount
  exact (Kept.ite (by
    split
    · exact (State.bumpBy_kept (hm.mono rfl) h0_ (hm.has (k := 20) rfl))
    · exact h0_) h0_)

theorem State.collOwn_kept {M : Nat} {s0 : State} {p0 : State} {p1 : Coll} (hm : Msub 1048576 M) (h0_ : Kept M s0 p0) :
    Kept M s0 (@State.collOwn p0 p1).1 := by
  unfold State.collOwn
  exact (Kept.ite1 (Kept.pairMk h0_) (by
    split
    · exact (Kept.pairMk (State.bumpBy_kept (hm.mono rfl) h0_ (hm.has (k := 20) rfl)))
    · exact (Kept.pairMk h0_)))

theorem State.collOut_kept {M : Nat} {s0 : State} {p0 : State} {p1 : Coll} (hm : Msub 5196110332831454052672327855968400 M) (h0_ : Kept M s0 p0) :
    Kept M s0 (@State.collOut p0 p1).1 := by
  unfold State.collOut
  exact (Kept.ite1 (Kept.pairMk h0_) (Kept.foldl1 (Kept.pairMk h0_) (fun x1 x3 h2 =>
    (by
      split
      · rename_i x4 x5
        have Hx4 : Kept M s0 x4 := h2
        split
        · exact (Kept.pairMk Hx4)
        · extract_lets -underBinder -merge v9 v10
          try clear_value v9
          try clear_value v10
          exact (Kept.ite1 (Kept.pairMk (State.collSend_kept (hm.mono rfl) (State.collCount_kept (hm.mono rfl) Hx4))) (Kept.pairMk Hx4))))))

theorem State.collGrant_kept {M : Nat} {s0 : State} {n : Nat} {s : State} {c : Coll} (hm : Msub 5196110332831454052672327854919824 M) (h : Kept M s0 s) :
    Kept M s0 (State.collGrant n s c).1 := by
  induction n generalizing s c with
  | zero => exact h
  | succ n ih =>
    unfold State.collGrant
    split
    · exact h
    · extract_lets c' g s'
      refine ih ?_
      dsimp -zeta only [s']
      split
      · exact State.sendE2e_kept (hm.mono rfl) h
      · exact h

theorem State.collFlags_kept {M : Nat} {s0 : State} {p0 : State} {p1 : Coll} {p2 : Flags} (hm : Msub 4835703278458516698824704 M) (h0_ : Kept M s0 p0) :
    Kept M s0 (@State.collFlags p0 p1 p2) := by
  unfold State.collFlags
  exact (State.modInfl_kept (hm.mono rfl) h0_)

theorem State.collWrite_kept {M : Nat} {s0 : State} {p0 : State} {p1 : Coll} {p2 : List Nat} {p3 : List Nat} (hm : Msub 85200402970177311855410275838200983696 M) (h0_ : Kept M s0 p0) :
    Kept M s0 (@State.collWrite p0 p1 p2 p3) := by
  unfold State.collWrite
  extract_lets -underBinder -merge v1 v2 v3
  try clear_value v1
  try clear_value v3
  split
  · rename_i x4 x5 e6
    have Hx4 := Kept.fst e6 (State.writeRows_kept (hm.mono rfl) h0_)
    extract_lets -underBinder -merge v7
    try clear_value v7
    exact (Kept.ite (State.tapRows_kept (hm.mono rfl) (State.setColl_kept (hm.mono rfl) Hx4)) (State.collPurge_kept (hm.mono rfl) (State.progFault_kept (hm.mono rfl) Hx4)))

theorem State.collFinal_kept {M : Nat} {s0 : State} {p0 : State} {p1 : Coll} (hm : Msub 85200402970177311855410275838200983696 M) (h0_ : Kept M s0 p0) :
    Kept M s0 (@State.collFinal p0 p1) := by
  unfold State.collFinal
  extract_lets -underBinder -merge v1
  try clear_value v1
  split
  · split
    · exact h0_
    · split
      · extract_lets -underBinder -merge v7
        try clear_value v7
        split
        · extract_lets -underBinder -merge v11 v12 v13 v14 v15 v16
          try clear_value v12
          try clear_value v13
          have h17 : Kept M s0 v14 := (State.collFlags_kept (hm.mono rfl) h0_)
          try clear_value v14
          have h21 : Kept M s0 v15 := (Kept.each h17 (fun x18 x19 h20 =>
            (State.collSend_kept (hm.mono rfl) h20)))
          try clear_value v15
          try clear_value v16
          exact (Kept.ite (State.collWrite_kept (hm.mono rfl) (State.collFlags_kept (hm.mono rfl) h0_)) (by
            split
            · rename_i x22 x23 e24
              have Hx22 := Kept.fst e24 (Kept.ite1 (Kept.pairMk h0_) (Kept.pairMk (State.setColl_kept (hm.mono rfl) h21)))
              extract_lets -underBinder -merge v25
              try clear_value v25
              split
              · exact Hx22
              · extract_lets -underBinder -merge v28 v29
                try clear_value v28
                try clear_value v29
                exact (State.collWrite_kept (hm.mono rfl) Hx22)))
  · split
    · exact h0_
    · split
      · extract_lets -underBinder -merge v35
        try clear_value v35
        split
        · extract_lets -underBinder -merge v39 v40 v41 v42 v43 v44
          try clear_value v40
          try clear_value v41
          have h45 : Kept M s0 v42 := (State.collFlags_kept (hm.mono rfl) h0_)
          try clear_value v42
          have h49 : Kept M s0 v43 := (Kept.each h45 (fun x46 x47 h48 =>
            (State.collSend_kept (hm.mono rfl) h48)))
          try clear_value v43
          try clear_value v44
          exact (Kept.ite (State.collWrite_kept (hm.mono rfl) (State.collFlags_kept (hm.mono rfl) h0_)) (by
            split
            · rename_i x50 x51 e52
              have Hx50 := Kept.fst e52 (Kept.ite1 (Kept.pairMk h0_) (Kept.pairMk (State.setColl_kept (hm.mono rfl) h49)))
              extract_lets -underBinder -merge v53
              try clear_value v53
              split
              · exact Hx50
              · extract_lets -underBinder -merge v56 v57
                try clear_value v56
                try clear_value v57
                exact (State.collWrite_kept (hm.mono rfl) Hx50)))
  · extract_lets -underBinder -merge v59
    try clear_value v59
    split
    · exact h0_
    · exact (State.collWrite_kept (hm.mono rfl) h0_)

theorem State.stagePut_kept {M : Nat} {s0 : State} {p0 : State} {p1 : Coll} {p2 : Nat} {p3 : Nat} {p4 : List Sys2Proof.Byte} (hm : Msub 5192296906897689584243110154604688 M) (h0_ : Kept M s0 p0) :
    Kept M s0 (@State.stagePut p0 p1 p2 p3 p4) := by
  unfold State.stagePut
  extract_lets -underBinder -merge v1 v2 v3
  try clear_value v1
  try clear_value v2
  try clear_value v3
  exact (State.writeRows_kept (hm.mono rfl) h0_)

theorem State.collWait_kept {M : Nat} {s0 : State} {p0 : State} {p1 : Nat} (hm : Msub 40564819207303340847894502572032 M) (h0_ : Kept M s0 p0) :
    Kept M s0 (@State.collWait p0 p1) := by
  unfold State.collWait
  split
  · exact (Kept.ite (State.modPartX_kept (hm.mono rfl) h0_) h0_)
  · exact h0_

theorem State.collEnd_kept {M : Nat} {s0 : State} {p0 : State} {p1 : Nat} (hm : Msub 46730671731730317609157309451210896 M) (h0_ : Kept M s0 p0) :
    Kept M s0 (@State.collEnd p0 p1) := by
  unfold State.collEnd
  split
  · exact h0_
  · extract_lets -underBinder -merge v3 v4 v5
    have h6 : Kept M s0 v3 := (Kept.upd_colls (hm.mono rfl) h0_)
    try clear_value v3
    try clear_value v4
    have h7 : Kept M s0 v5 := (Kept.ite (State.setFld64_kept (hm.mono rfl) h6 (hm.has (k := 22) rfl)) h6)
    try clear_value v5
    exact (Kept.ite (State.collSync_kept (hm.mono rfl) (State.waitDone_kept (hm.mono rfl) h7)) h0_)

theorem State.collPump_kept {M : Nat} {s0 : State} {p0 : State} {p1 : Nat} (hm : Msub 85200443534996519158751123732704604304 M) (h0_ : Kept M s0 p0) :
    Kept M s0 (@State.collPump p0 p1) := by
  unfold State.collPump
  extract_lets -underBinder -merge v1
  have h2 : Kept M s0 v1 := (State.collPurge_kept (hm.mono rfl) h0_)
  try clear_value v1
  split
  · exact h2
  · split
    · rename_i x5 x6 e7
      have Hx5 := Kept.fst e7 (State.collPhase1_kept (hm.mono rfl) h2)
      split
      · rename_i x8 x9 e10
        have Hx8 := Kept.fst e10 (State.collPhase3_kept (hm.mono rfl) Hx5)
        split
        · rename_i x11 x12 e13
          have Hx11 := Kept.fst e13 (State.collOwn_kept (hm.mono rfl) Hx8)
          split
          · rename_i x14 x15 e16
            have Hx14 := Kept.fst e16 (State.collOut_kept (hm.mono rfl) Hx11)
            split
            · rename_i x17 x18 e19
              have Hx17 := Kept.fst e19 (State.collGrant_kept (hm.mono rfl) Hx14)
              extract_lets -underBinder -merge v20 v21
              have h22 : Kept M s0 v20 := (State.collWait_kept (hm.mono rfl) (State.setColl_kept (hm.mono rfl) Hx17))
              try clear_value v20
              have h23 : Kept M s0 v21 := (Kept.ite h22 (State.collFinal_kept (hm.mono rfl) h22))
              try clear_value v21
              exact (State.collEnd_kept (hm.mono rfl) h23)

theorem State.collPumpAll_kept {M : Nat} {s0 : State} {p0 : State} (hm : Msub 85200443534996519158751123732704604304 M) (h0_ : Kept M s0 p0) :
    Kept M s0 (@State.collPumpAll p0) := by
  unfold State.collPumpAll
  exact (Kept.each h0_ (fun x1 x2 h3 =>
    (State.collPump_kept (hm.mono rfl) h3)))

theorem State.addAbsent_kept {M : Nat} {s0 : State} {p0 : State} {p1 : Nat} {p2 : List Nat} (hm : Msub 5192296858540435438728904049692816 M) (h0_ : Kept M s0 p0) :
    Kept M s0 (@State.addAbsent p0 p1 p2).1 := by
  unfold State.addAbsent
  extract_lets -underBinder -merge v1 v2
  try clear_value v1
  try clear_value v2
  exact (Kept.ite1 (Kept.pairMk h0_) (Kept.pairMk (Kept.each h0_ (fun x3 x4 h5 =>
    (by
      split
      · exact (State.event_kept (hm.mono rfl) (State.setFld_kept (hm.mono rfl) h5 (hm.has (k := 24) rfl)))
      · exact h5)))))

theorem State.collRestart_kept {M : Nat} {s0 : State} {p0 : State} {p1 : Coll} (hm : Msub 85200443534996519158751123732704604304 M) (h0_ : Kept M s0 p0) :
    Kept M s0 (@State.collRestart p0 p1) := by
  unfold State.collRestart
  extract_lets -underBinder -merge v1 v2 v3
  try clear_value v1
  try clear_value v2
  have h4 : Kept M s0 v3 := (State.bump_kept (hm.mono rfl) (State.setColl_kept (hm.mono rfl) h0_) (hm.has (k := 22) rfl))
  try clear_value v3
  exact (State.collPump_kept (hm.mono rfl) (State.event_kept (hm.mono rfl) h4))

theorem State.collLose_kept {M : Nat} {s0 : State} {p0 : State} {p1 : Coll} {p2 : List Nat} (hm : Msub 85200443534996519158751123732721381520 M) (h0_ : Kept M s0 p0) :
    Kept M s0 (@State.collLose p0 p1 p2) := by
  unfold State.collLose
  exact (Kept.ite (by
    split
    · rename_i x1 e2
      have Hx1 := Kept.fst e2 (State.addAbsent_kept (hm.mono rfl) h0_)
      exact (State.collFault_kept (hm.mono rfl) Hx1)
    · rename_i x3 e4
      have Hx3 := Kept.fst e4 (State.addAbsent_kept (hm.mono rfl) h0_)
      exact (State.collRestart_kept (hm.mono rfl) (State.collTell_kept (hm.mono rfl) Hx3))) (State.collFault_kept (hm.mono rfl) h0_))

theorem execCollTimeout_kept {M : Nat} {s0 : State} {p0 : Nat} {p1 : State} (hm : Msub 85200443534996519158751123732721381520 M) (h1_ : Kept M s0 p1) :
    KeptO M s0 (@execCollTimeout p0 p1) := by
  unfold execCollTimeout
  extract_lets -underBinder -merge v1
  have h2 : Kept M s0 v1 := (State.collPurge_kept (hm.mono rfl) h1_)
  try clear_value v1
  split
  · exact (KeptO.next h1_)
  · extract_lets -underBinder -merge v5
    have h6 : Kept M s0 v5 := (State.event_kept (hm.mono rfl) (State.bump_kept (hm.mono rfl) h2 (hm.has (k := 22) rfl)))
    try clear_value v5
    exact (KeptO.ite (KeptO.next h1_) (KeptO.next (State.collLose_kept (hm.mono rfl) h6)))

theorem State.collStore_kept {M : Nat} {s0 : State} {p0 : State} {p1 : Coll} {p2 : CollHdr} {p3 : List Sys2Proof.Byte} (hm : Msub 85200443534996519158751123732704604304 M) (h0_ : Kept M s0 p0) :
    Kept M s0 (@State.collStore p0 p1 p2 p3) := by
  unfold State.collStore
  extract_lets -underBinder -merge v1
  have h2 : Kept M s0 v1 := (Kept.ite (State.stagePut_kept (hm.mono rfl) h0_) h0_)
  try clear_value v1
  exact (Kept.ite (State.collPump_kept (hm.mono rfl) (State.setColl_kept (hm.mono rfl) h0_)) (State.collPump_kept (hm.mono rfl) (State.setColl_kept (hm.mono rfl) h2)))

theorem State.collIn_kept {M : Nat} {s0 : State} {p0 : State} {p1 : Coll} {p2 : CollHdr} {p3 : List Sys2Proof.Byte} (hm : Msub 85200443534996519158751123732721381520 M) (h0_ : Kept M s0 p0) :
    Kept M s0 (@State.collIn p0 p1 p2 p3) := by
  unfold State.collIn
  exact (Kept.ite (State.collFault_kept (hm.mono rfl) (State.collTell_kept (hm.mono rfl) h0_)) (Kept.ite (State.collStore_kept (hm.mono rfl) h0_) (Kept.ite h0_ (by
    split
    · rename_i x1 x2 e3
      have Hx1 := Kept.fst e3 (State.addAbsent_kept (hm.mono rfl) h0_)
      extract_lets -underBinder -merge v4
      have h5 : Kept M s0 v4 := (State.collRestart_kept (hm.mono rfl) Hx1)
      try clear_value v4
      exact (Kept.ite (State.collFault_kept (hm.mono rfl) Hx1) (by
        split
        · exact (Kept.ite (State.collStore_kept (hm.mono rfl) h5) h5)
        · exact h5))))))

theorem State.collGain_kept {M : Nat} {s0 : State} {p0 : State} {p1 : Coll} {p2 : Nat} {p3 : Nat} (hm : Msub 85200443534996519158751123732704604304 M) (h0_ : Kept M s0 p0) :
    Kept M s0 (@State.collGain p0 p1 p2 p3) := by
  unfold State.collGain
  exact (State.collPump_kept (hm.mono rfl) (State.setColl_kept (hm.mono rfl) h0_))

theorem State.collFlit_kept {M : Nat} {s0 : State} {p0 : State} {p1 : Nat} {p2 : CollEarly} (hm : Msub 85200443534996519158751123732721381520 M) (h0_ : Kept M s0 p0) :
    Kept M s0 (@State.collFlit p0 p1 p2) := by
  unfold State.collFlit
  extract_lets -underBinder -merge v1
  have h2 : Kept M s0 v1 := (State.collPurge_kept (hm.mono rfl) h0_)
  try clear_value v1
  split
  · exact (Kept.ite (State.modPartX_kept (hm.mono rfl) h2) (by
      split
      · exact (State.collIn_kept (hm.mono rfl) h2)
      · exact (State.collGain_kept (hm.mono rfl) h2)))
  · exact (State.modPartX_kept (hm.mono rfl) h2)

theorem State.collData_kept {M : Nat} {s0 : State} {p0 : State} {p1 : Nat} {p2 : CollHdr} {p3 : List Sys2Proof.Byte} (hm : Msub 85200443534996519158751123732721381520 M) (h0_ : Kept M s0 p0) :
    Kept M s0 (@State.collData p0 p1 p2 p3) := by
  unfold State.collData
  exact (State.collFlit_kept (hm.mono rfl) h0_)

theorem State.collCredit_kept {M : Nat} {s0 : State} {p0 : State} {p1 : Nat} {p2 : Nat} {p3 : Nat} {p4 : Nat} (hm : Msub 85200443534996519158751123732721381520 M) (h0_ : Kept M s0 p0) :
    Kept M s0 (@State.collCredit p0 p1 p2 p3 p4) := by
  unfold State.collCredit
  exact (State.collFlit_kept (hm.mono rfl) h0_)

theorem State.collReplay_kept {M : Nat} {s0 : State} {p0 : State} {p1 : Nat} {p2 : Nat} (hm : Msub 85200443534996519158751123732721381520 M) (h0_ : Kept M s0 p0) :
    Kept M s0 (@State.collReplay p0 p1 p2) := by
  unfold State.collReplay
  extract_lets -underBinder -merge v1 v2
  try clear_value v1
  have h3 : Kept M s0 v2 := (State.modPartX_kept (hm.mono rfl) h0_)
  try clear_value v2
  exact (Kept.ite (Kept.each h3 (fun x4 x5 h6 =>
    (State.collFlit_kept (hm.mono rfl) h6))) h0_)

theorem State.collAbort_kept {M : Nat} {s0 : State} {p0 : State} {p1 : Nat} {p2 : Nat} {p3 : List Nat} (hm : Msub 85200443534996519158751123732721381520 M) (h0_ : Kept M s0 p0) :
    Kept M s0 (@State.collAbort p0 p1 p2 p3) := by
  unfold State.collAbort
  extract_lets -underBinder -merge v1
  have h2 : Kept M s0 v1 := (State.collPurge_kept (hm.mono rfl) h0_)
  try clear_value v1
  split
  · exact h2
  · exact (Kept.ite (by
      split
      · rename_i x5 e6
        have Hx5 := Kept.fst e6 (State.addAbsent_kept (hm.mono rfl) h2)
        exact (Kept.ite Hx5 (State.collRestart_kept (hm.mono rfl) Hx5))
      · rename_i x7 e8
        have Hx7 := Kept.fst e8 (State.addAbsent_kept (hm.mono rfl) h2)
        exact (State.collFault_kept (hm.mono rfl) Hx7)) (State.collFault_kept (hm.mono rfl) h2))

theorem State.collIssue_kept {M : Nat} {s0 : State} {p0 : State} {p1 : Nat} {p2 : Desc} {p3 : Nat} (hm : Msub 32794842968880905434554122039466589761938 M) (h0_ : Kept M s0 p0) :
    Kept M s0 (@State.collIssue p0 p1 p2 p3) := by
  unfold State.collIssue
  extract_lets -underBinder -merge v1 v2 v3 v4 v5
  try clear_value v1
  try clear_value v2
  try clear_value v3
  try clear_value v4
  try clear_value v5
  exact (State.collReplay_kept (hm.mono rfl) (State.collPump_kept (hm.mono rfl) (State.issue_kept (hm.mono rfl) h0_ (fun x6 x8 x9 h7 =>
    (by
      extract_lets -underBinder -merge v10 v11 v12 v13 v14 v15 v16
      have h17 : Kept M s0 v10 := (State.collPurge_kept (hm.mono rfl) h7)
      try clear_value v10
      try clear_value v11
      try clear_value v12
      try clear_value v13
      try clear_value v14
      try clear_value v15
      try clear_value v16
      split
      · rename_i x18 e19
        have Hx18 := Kept.fst e19 (State.readBits_kept (hm.mono rfl) h17)
        exact (Eff.bus_kept (hm.mono rfl) Hx18)
      · rename_i x20 x21 e22
        have Hx20 := Kept.fst e22 (State.readBits_kept (hm.mono rfl) h17)
        split
        · rename_i x23 e24
          have Hx23 := Kept.fst e24 (by
            split
            · exact (State.readBits_kept (hm.mono rfl) Hx20)
            · exact (Kept.pairMk Hx20))
          exact (Eff.bus_kept (hm.mono rfl) Hx23)
        · rename_i x27 x28 e29
          have Hx27 := Kept.fst e29 (by
            split
            · exact (State.readBits_kept (hm.mono rfl) Hx20)
            · exact (Kept.pairMk Hx20))
          extract_lets -underBinder -merge v32 v33 v34
          try clear_value v32
          try clear_value v33
          try clear_value v34
          exact (Kept.effMk (Kept.upd_colls (hm.mono rfl) Hx27)))))))

theorem execCollAllReduce_kept {M : Nat} {s0 : State} {p0 : Nat} {p1 : Desc} {p2 : State} (hm : Msub 32794842968880905434554122039466589761938 M) (h2_ : Kept M s0 p2) :
    KeptO M s0 (@execCollAllReduce p0 p1 p2) := by
  unfold execCollAllReduce
  exact (KeptO.next (State.collIssue_kept (hm.mono rfl) h2_))

theorem execCollReduceScatter_kept {M : Nat} {s0 : State} {p0 : Nat} {p1 : Desc} {p2 : State} (hm : Msub 32794842968880905434554122039466589761938 M) (h2_ : Kept M s0 p2) :
    KeptO M s0 (@execCollReduceScatter p0 p1 p2) := by
  unfold execCollReduceScatter
  exact (KeptO.next (State.collIssue_kept (hm.mono rfl) h2_))

theorem execCollAllGather_kept {M : Nat} {s0 : State} {p0 : Nat} {p1 : Desc} {p2 : State} (hm : Msub 32794842968880905434554122039466589761938 M) (h2_ : Kept M s0 p2) :
    KeptO M s0 (@execCollAllGather p0 p1 p2) := by
  unfold execCollAllGather
  exact (KeptO.next (State.collIssue_kept (hm.mono rfl) h2_))

theorem execCollAllToAll_kept {M : Nat} {s0 : State} {p0 : Nat} {p1 : Desc} {p2 : State} (hm : Msub 32794842968880905434554122039466589761938 M) (h2_ : Kept M s0 p2) :
    KeptO M s0 (@execCollAllToAll p0 p1 p2) := by
  unfold execCollAllToAll
  exact (KeptO.next (State.collIssue_kept (hm.mono rfl) h2_))

theorem State.foldWaitEdge_kept {M : Nat} {s0 : State} {p0 : State} (hm : Msub 40564819207303340847894503620608 M) (h0_ : Kept M s0 p0) :
    Kept M s0 (@State.foldWaitEdge p0) := by
  unfold State.foldWaitEdge
  exact (Kept.each h0_ (fun x1 x2 h3 =>
    (Kept.ite (by
      extract_lets -underBinder -merge v4
      try clear_value v4
      exact (State.modPartX_kept (hm.mono rfl) (State.bump_kept (hm.mono rfl) h3 (hm.has (k := 20) rfl)))) h3)))

end Sys2Proof.Machine
end

