-- ==== Sys2Proof/Laws/FrameContOps.lean ====
section
/-! SUPPORT. What the operations and meanings of Machine/ContOps.lean can change: one frame lemma per definition. -/
namespace Sys2Proof.Machine

theorem State.contSend_kept {M : Nat} {s0 : State} {p0 : State} {p1 : Nat} {p2 : Nat} {p3 : Nat} {p4 : Nat} {p5 : List Nat} {p6 : optParam (List Sys2Proof.Byte) []} (hm : Msub 5196110332831454052672327854919824 M) (h0_ : Kept M s0 p0) :
    Kept M s0 (@State.contSend p0 p1 p2 p3 p4 p5 p6) := by
  unfold State.contSend
  exact (State.sendMg_kept (hm.mono rfl) h0_)

theorem State.engWrite_kept {M : Nat} {s0 : State} {p0 : State} {p1 : Nat} {p2 : Nat} {p3 : Nat} {p4 : List Sys2Proof.Byte} {p5 : Nat} (hm : Msub 5196115284591611194193427451416720 M) (h0_ : Kept M s0 p0) :
    Kept M s0 (@State.engWrite p0 p1 p2 p3 p4 p5).1 := by
  unfold State.engWrite
  extract_lets -underBinder -merge v1 v2
  try clear_value v1
  try clear_value v2
  exact (Kept.foldl1 (Kept.pairMk h0_) (fun x3 x5 h4 =>
    (by
      extract_lets -underBinder -merge v6
      try clear_value v6
      split
      · rename_i x7 x8 e9
        have Hx7 := Kept.fst e9 (State.sendE2e_kept (hm.mono rfl) h4)
        extract_lets -underBinder -merge v10
        try clear_value v10
        exact (Kept.pairMk (Kept.upd_outst (hm.mono rfl) Hx7)))))

theorem State.engStore_kept {M : Nat} {s0 : State} {p0 : State} {p1 : Nat} {p2 : List Sys2Proof.Byte} (hm : Msub 5192296906897689584243110154604688 M) (h0_ : Kept M s0 p0) :
    Kept M s0 (@State.engStore p0 p1 p2) := by
  unfold State.engStore
  exact (State.writeMem_kept (hm.mono rfl) h0_)

theorem State.modCk_kept {M : Nat} {s0 : State} {p0 : State} {p1 : Nat} {p2 : CkX → CkX} (hm : Msub 332306998946228968225951765070086144 M) (h0_ : Kept M s0 p0) :
    Kept M s0 (@State.modCk p0 p1 p2) := by
  unfold State.modCk
  exact (Kept.upd_cks (hm.mono rfl) h0_)

theorem State.recInvalid_kept {M : Nat} {s0 : State} {p0 : State} {p1 : Nat} {p2 : Nat} {p3 : Nat} (hm : Msub 5192296906897689584243110154604688 M) (h0_ : Kept M s0 p0) :
    Kept M s0 (@State.recInvalid p0 p1 p2 p3) := by
  unfold State.recInvalid
  extract_lets -underBinder -merge v1
  try clear_value v1
  exact (State.engStore_kept (hm.mono rfl) h0_)

theorem State.ckAbort_kept {M : Nat} {s0 : State} {p0 : State} {p1 : Nat} {p2 : Nat} {p3 : Bool} (hm : Msub 32752515319254688568696969145440515731602 M) (h0_ : Kept M s0 p0) :
    Kept M s0 (@State.ckAbort p0 p1 p2 p3) := by
  unfold State.ckAbort
  extract_lets -underBinder -merge v1 v2 v3 v4 v5 v6 v7 v8 v9 v10 v11 v12
  try clear_value v1
  try clear_value v2
  try clear_value v3
  try clear_value v4
  have h16 : Kept M s0 v5 := (Kept.ite (Kept.each h0_ (fun x13 x14 h15 =>
    (State.contSend_kept (hm.mono rfl) h15))) h0_)
  try clear_value v5
  have h21 : Kept M s0 v6 := (Kept.each h16 (fun x17 x18 h19 =>
    (by
      extract_lets -underBinder -merge v20
      try clear_value v20
      exact (State.setNmu_kept (hm.mono rfl) h19))))
  try clear_value v6
  have h22 : Kept M s0 v7 := (Kept.ite (State.snapAbort_kept (hm.mono rfl) h21) h21)
  try clear_value v7
  have h23 : Kept M s0 v8 := (Kept.ite h22 (State.recInvalid_kept (hm.mono rfl) h22))
  try clear_value v8
  have h24 : Kept M s0 v9 := (Kept.upd_outst (hm.mono rfl) h23)
  try clear_value v9
  have h25 : Kept M s0 v10 := (State.modCk_kept (hm.mono rfl) h24)
  try clear_value v10
  have h26 : Kept M s0 v11 := (State.setFld_kept (hm.mono rfl) h25 (hm.has (k := 23) rfl))
  try clear_value v11
  have h27 : Kept M s0 v12 := (State.setFld_kept (hm.mono rfl) h26 (hm.has (k := 23) rfl))
  try clear_value v12
  exact (Kept.ite (State.event_kept (hm.mono rfl) (State.bump_kept (hm.mono rfl) h27 (hm.has (k := 23) rfl))) h0_)

theorem State.setRc_kept {M : Nat} {s0 : State} {p0 : State} {p1 : Nat} {p2 : RcX} (hm : Msub 664613997892457936451903530140172288 M) (h0_ : Kept M s0 p0) :
    Kept M s0 (@State.setRc p0 p1 p2) := by
  unfold State.setRc
  exact (Kept.upd_rcs (hm.mono rfl) h0_)

theorem State.rcEnd_kept {M : Nat} {s0 : State} {p0 : State} {p1 : Nat} {p2 : Nat} {p3 : Nat} (hm : Msub 664614002844218093593424629753446400 M) (h0_ : Kept M s0 p0) :
    Kept M s0 (@State.rcEnd p0 p1 p2 p3) := by
  unfold State.rcEnd
  extract_lets -underBinder -merge v1 v2 v3 v4
  have h5 : Kept M s0 v1 := (State.setFld_kept (hm.mono rfl) h0_ (hm.has (k := 24) rfl))
  try clear_value v1
  have h6 : Kept M s0 v2 := (State.setFld_kept (hm.mono rfl) h5 (hm.has (k := 24) rfl))
  try clear_value v2
  try clear_value v3
  have h7 : Kept M s0 v4 := (Kept.upd_outst (hm.mono rfl) h6)
  try clear_value v4
  exact (State.setRc_kept (hm.mono rfl) h7)

theorem State.rcCancel_kept {M : Nat} {s0 : State} {p0 : State} {p1 : Nat} (hm : Msub 664614002844218093593424629753446400 M) (h0_ : Kept M s0 p0) :
    Kept M s0 (@State.rcCancel p0 p1) := by
  unfold State.rcCancel
  exact (Kept.ite (State.bump_kept (hm.mono rfl) (State.rcEnd_kept (hm.mono rfl) h0_) (hm.has (k := 24) rfl)) h0_)

end Sys2Proof.Machine
end

