-- ==== Sys2Proof/Laws/FrameNmu.lean ====
section
/-! SUPPORT. What the operations and meanings of Machine/Nmu.lean can change: one frame lemma per definition. -/
namespace Sys2Proof.Machine

theorem State.nmuPost_kept {M : Nat} {s0 : State} {p0 : State} {p1 : Nat} {p2 : Sys2Proof.Word} (hm : Msub 5192296935911687894065222753718417 M) (h0_ : Kept M s0 p0) :
    Kept M s0 (@State.nmuPost p0 p1 p2) := by
  unfold State.nmuPost
  exact (Kept.ite (Kept.ite (State.setErr_kept (hm.mono rfl) h0_ (hm.has (k := 35) rfl)) (by
    split
    · rename_i x1 x2 e3
      have Hx1 := Kept.fst e3 (State.nmuFetch_kept (hm.mono rfl) h0_)
      extract_lets -underBinder -merge v4 v5
      try clear_value v4
      try clear_value v5
      exact (State.setNmu_kept (hm.mono rfl) Hx1))) h0_)

theorem execNmuPagePost_kept {M : Nat} {s0 : State} {p0 : Master} {p1 : Nat} {p2 : Sys2Proof.Word} {p3 : State} (hm : Msub 5192296935921132627030962044145809 M) (h3_ : Kept M s0 p3) :
    KeptO M s0 (@execNmuPagePost p0 p1 p2 p3) := by
  unfold execNmuPagePost
  exact (KeptO.next (State.gated_kept (hm.mono rfl) h3_ (fun x1 h2 =>
    (State.nmuPost_kept (hm.mono rfl) h2))))

theorem execNmuFill_kept {M : Nat} {s0 : State} {p0 : Nat} {p1 : Nat} {p2 : State} (hm : Msub 32752183012250809922384715506642636058770 M) (h2_ : Kept M s0 p2) :
    KeptO M s0 (@execNmuFill p0 p1 p2) := by
  unfold execNmuFill
  exact (KeptO.next (State.nmuTake_kept (hm.mono rfl) h2_ (fun x1 x2 h3 =>
    (by
      extract_lets -underBinder -merge v4
      try clear_value v4
      split
      · rename_i x5 x6 e7
        have Hx5 := Kept.fst e7 (State.nmuWrite_kept (hm.mono rfl) h3)
        exact (State.nmuEnd_kept (hm.mono rfl) Hx5)))))

theorem execNmuCopy_kept {M : Nat} {s0 : State} {p0 : Nat} {p1 : Nat} {p2 : State} (hm : Msub 32752183012250809922384715506642636058770 M) (h2_ : Kept M s0 p2) :
    KeptO M s0 (@execNmuCopy p0 p1 p2) := by
  unfold execNmuCopy
  exact (KeptO.next (State.nmuTake_kept (hm.mono rfl) h2_ (fun x1 x2 h3 =>
    (by
      split
      · rename_i x4 x5 x6 e7
        have Hx4 := Kept.fst e7 (State.nmuRead_kept (hm.mono rfl) h3)
        split
        · rename_i x8 x9 e10
          have Hx8 := Kept.fst e10 (State.nmuWrite_kept (hm.mono rfl) Hx4)
          exact (State.nmuEnd_kept (hm.mono rfl) Hx8)))))

theorem State.readStripes_kept {M : Nat} {s0 : State} {p0 : State} {p1 : NCmd} {p2 : List Nat} (hm : Msub 5192296935911687894065222753718416 M) (h0_ : Kept M s0 p0) :
    Kept M s0 (@State.readStripes p0 p1 p2).1 := by
  unfold State.readStripes
  exact (Kept.foldl1 (Kept.pairMk h0_) (fun x1 x3 h2 =>
    (by
      split
      · rename_i x4 x5 x6 e7
        have Hx4 := Kept.fst e7 (State.nmuRead_kept (hm.mono rfl) h2)
        exact (Kept.pairMk Hx4))))

theorem execRsEnc_kept {M : Nat} {s0 : State} {p0 : Nat} {p1 : Nat} {p2 : State} (hm : Msub 32752183012250809922384715506642636058770 M) (h2_ : Kept M s0 p2) :
    KeptO M s0 (@execRsEnc p0 p1 p2) := by
  unfold execRsEnc
  exact (KeptO.next (State.nmuTake_kept (hm.mono rfl) h2_ (fun x1 x2 h3 =>
    (by
      split
      · rename_i x4 x5 x6 e7
        have Hx4 := Kept.fst e7 (State.readStripes_kept (hm.mono rfl) h3)
        extract_lets -underBinder -merge v8
        try clear_value v8
        split
        · split
          · rename_i x11 x12 e13
            have Hx11 := Kept.fst e13 (State.nmuWrite_kept (hm.mono rfl) Hx4)
            split
            · rename_i x14 x15 e16
              have Hx14 := Kept.fst e16 (Kept.ite1 (Kept.pairMk Hx11) (State.nmuWrite_kept (hm.mono rfl) Hx11))
              exact (State.nmuEnd_kept (hm.mono rfl) Hx14)))))

theorem State.rsAdd_kept {M : Nat} {s0 : State} {p0 : State} {p1 : NCmd} {p2 : Nat} {p3 : List Nat} (hm : Msub 5192296984268942039579411695538320 M) (h0_ : Kept M s0 p0) :
    Kept M s0 (@State.rsAdd p0 p1 p2 p3).1 := by
  unfold State.rsAdd
  split
  · rename_i x1 x2 x3 e4
    have Hx1 := Kept.fst e4 (State.nmuRead_kept (hm.mono rfl) h0_)
    split
    · rename_i x5 x6 e7
      have Hx5 := Kept.fst e7 (State.nmuWrite_kept (hm.mono rfl) Hx1)
      exact (Kept.pairMk Hx5)

theorem execRsAcc_kept {M : Nat} {s0 : State} {p0 : Nat} {p1 : Nat} {p2 : State} (hm : Msub 32752183012250809922384715506642636058770 M) (h2_ : Kept M s0 p2) :
    KeptO M s0 (@execRsAcc p0 p1 p2) := by
  unfold execRsAcc
  exact (KeptO.next (State.nmuTake_kept (hm.mono rfl) h2_ (fun x1 x2 h3 =>
    (by
      split
      · rename_i x4 x5 x6 e7
        have Hx4 := Kept.fst e7 (State.nmuRead_kept (hm.mono rfl) h3)
        extract_lets -underBinder -merge v8
        try clear_value v8
        split
        · rename_i x9 x10 e11
          have Hx9 := Kept.fst e11 (State.rsAdd_kept (hm.mono rfl) Hx4)
          split
          · rename_i x12 x13 e14
            have Hx12 := Kept.fst e14 (Kept.ite1 (Kept.pairMk Hx9) (State.rsAdd_kept (hm.mono rfl) Hx9))
            exact (State.nmuEnd_kept (hm.mono rfl) Hx12)))))

theorem execRsDec_kept {M : Nat} {s0 : State} {p0 : Nat} {p1 : Nat} {p2 : State} (hm : Msub 32752183012250809922384715506642636058770 M) (h2_ : Kept M s0 p2) :
    KeptO M s0 (@execRsDec p0 p1 p2) := by
  unfold execRsDec
  exact (KeptO.next (State.nmuTake_kept (hm.mono rfl) h2_ (fun x1 x2 h3 =>
    (by
      extract_lets -underBinder -merge v4 v5 v6 v7
      try clear_value v4
      try clear_value v6
      try clear_value v7
      split
      · rename_i x8 x9 x10 e11
        have Hx8 := Kept.fst e11 (State.readStripes_kept (hm.mono rfl) h3)
        extract_lets -underBinder -merge v12 v13 v14
        try clear_value v12
        try clear_value v13
        try clear_value v14
        split
        · extract_lets -underBinder -merge v17
          split
          · rename_i x18 x19 e20
            have Hx18 := Kept.fst e20 (State.nmuWrite_kept (hm.mono rfl) Hx8)
            split
            · rename_i x21 x22 e23
              have Hx21 := Kept.fst e23 (Kept.ite1 (Kept.pairMk Hx18) (State.nmuWrite_kept (hm.mono rfl) Hx18))
              exact (State.nmuEnd_kept (hm.mono rfl) Hx21)))))

theorem execNmuDigest_kept {M : Nat} {s0 : State} {p0 : Nat} {p1 : Nat} {p2 : State} (hm : Msub 32752183012250809922384715506642636058770 M) (h2_ : Kept M s0 p2) :
    KeptO M s0 (@execNmuDigest p0 p1 p2) := by
  unfold execNmuDigest
  exact (KeptO.next (State.nmuTake_kept (hm.mono rfl) h2_ (fun x1 x2 h3 =>
    (by
      split
      · rename_i x4 x5 x6 e7
        have Hx4 := Kept.fst e7 (State.nmuRead_kept (hm.mono rfl) h3)
        exact (Kept.ite (State.nmuEnd_kept (hm.mono rfl) Hx4) (by
          split
          · rename_i x8 x9 e10
            have Hx8 := Kept.fst e10 (State.nmuStore_kept (hm.mono rfl) (State.nmuTotal_kept (hm.mono rfl) Hx4))
            exact (State.nmuEnd_kept (hm.mono rfl) Hx8)))))))

theorem State.optPut_kept {M : Nat} {s0 : State} {p0 : State} {p1 : NCmd} {p2 : Nat} {p3 : Nat} {p4 : Nat} {p5 : List Nat} (hm : Msub 5192296984268942039579411695538320 M) (h0_ : Kept M s0 p0) :
    Kept M s0 (@State.optPut p0 p1 p2 p3 p4 p5).1 := by
  unfold State.optPut
  split
  · split
    · rename_i x3 x4 e5
      have Hx3 := Kept.fst e5 (State.nmuPut_kept (hm.mono rfl) h0_)
      exact (Kept.pairMk Hx3)

theorem State.optCopy_kept {M : Nat} {s0 : State} {p0 : State} {p1 : NCmd} {p2 : List Nat} (hm : Msub 5192296984268942039579411695538320 M) (h0_ : Kept M s0 p0) :
    Kept M s0 (@State.optCopy p0 p1 p2).1 := by
  unfold State.optCopy
  extract_lets -underBinder -merge v1
  try clear_value v1
  exact (Kept.ite1 (Kept.pairMk h0_) (State.optPut_kept (hm.mono rfl) h0_))

theorem execOptSgd_kept {M : Nat} {s0 : State} {p0 : Nat} {p1 : Nat} {p2 : State} (hm : Msub 32752183012250809922384715506642636058770 M) (h2_ : Kept M s0 p2) :
    KeptO M s0 (@execOptSgd p0 p1 p2) := by
  unfold execOptSgd
  exact (KeptO.next (State.nmuTake_kept (hm.mono rfl) h2_ (fun x1 x2 h3 =>
    (by
      split
      · rename_i x4 x5 x6 e7
        have Hx4 := Kept.fst e7 (State.nmuElems_kept (hm.mono rfl) h3)
        split
        · rename_i x8 x9 x10 e11
          have Hx8 := Kept.fst e11 (State.nmuElems_kept (hm.mono rfl) Hx4)
          split
          · rename_i x12 x13 x14 e15
            have Hx12 := Kept.fst e15 (State.nmuElems_kept (hm.mono rfl) Hx8)
            extract_lets -underBinder -merge v16 v17 v18
            try clear_value v16
            try clear_value v17
            try clear_value v18
            split
            · rename_i x19 x20 x21 e22
              have Hx19 := Kept.fst e22 (State.optPut_kept (hm.mono rfl) Hx12)
              split
              · rename_i x23 x24 x25 e26
                have Hx23 := Kept.fst e26 (State.optPut_kept (hm.mono rfl) Hx19)
                split
                · rename_i x27 x28 x29 e30
                  have Hx27 := Kept.fst e30 (State.optCopy_kept (hm.mono rfl) Hx23)
                  exact (State.nmuEnd_kept (hm.mono rfl) Hx27)))))

theorem execOptAdamw_kept {M : Nat} {s0 : State} {p0 : Nat} {p1 : Nat} {p2 : State} (hm : Msub 32752183012250809922384715506642636058770 M) (h2_ : Kept M s0 p2) :
    KeptO M s0 (@execOptAdamw p0 p1 p2) := by
  unfold execOptAdamw
  exact (KeptO.next (State.nmuTake_kept (hm.mono rfl) h2_ (fun x1 x2 h3 =>
    (by
      split
      · rename_i x4 x5 x6 e7
        have Hx4 := Kept.fst e7 (State.nmuElems_kept (hm.mono rfl) h3)
        split
        · rename_i x8 x9 x10 e11
          have Hx8 := Kept.fst e11 (State.nmuElems_kept (hm.mono rfl) Hx4)
          split
          · rename_i x12 x13 x14 e15
            have Hx12 := Kept.fst e15 (State.nmuElems_kept (hm.mono rfl) Hx8)
            split
            · rename_i x16 x17 x18 e19
              have Hx16 := Kept.fst e19 (State.nmuElems_kept (hm.mono rfl) Hx12)
              extract_lets -underBinder -merge v20 v21 v22
              try clear_value v20
              try clear_value v21
              try clear_value v22
              split
              · rename_i x23 x24 x25 e26
                have Hx23 := Kept.fst e26 (State.optPut_kept (hm.mono rfl) Hx16)
                split
                · rename_i x27 x28 x29 e30
                  have Hx27 := Kept.fst e30 (State.optPut_kept (hm.mono rfl) Hx23)
                  split
                  · rename_i x31 x32 x33 e34
                    have Hx31 := Kept.fst e34 (State.optPut_kept (hm.mono rfl) Hx27)
                    split
                    · rename_i x35 x36 x37 e38
                      have Hx35 := Kept.fst e38 (State.optCopy_kept (hm.mono rfl) Hx31)
                      exact (State.nmuEnd_kept (hm.mono rfl) Hx35)))))

theorem State.nmuScales_kept {M : Nat} {s0 : State} {p0 : State} {p1 : NCmd} {p2 : Nat} {p3 : Nat} (hm : Msub 5192296935911687894065222753718416 M) (h0_ : Kept M s0 p0) :
    Kept M s0 (@State.nmuScales p0 p1 p2 p3).1 := by
  unfold State.nmuScales
  exact (Kept.ite1 (State.nmuRead_kept (hm.mono rfl) h0_) (Kept.pairMk h0_))

theorem execGaccAdd_kept {M : Nat} {s0 : State} {p0 : Nat} {p1 : Nat} {p2 : State} (hm : Msub 32752183012250809922384715506642636058770 M) (h2_ : Kept M s0 p2) :
    KeptO M s0 (@execGaccAdd p0 p1 p2) := by
  unfold execGaccAdd
  exact (KeptO.next (State.nmuTake_kept (hm.mono rfl) h2_ (fun x1 x2 h3 =>
    (by
      split
      · rename_i x4 x5 x6 e7
        have Hx4 := Kept.fst e7 (State.nmuElems_kept (hm.mono rfl) h3)
        split
        · rename_i x8 x9 x10 e11
          have Hx8 := Kept.fst e11 (State.nmuScales_kept (hm.mono rfl) Hx4)
          split
          · rename_i x12 x13 x14 e15
            have Hx12 := Kept.fst e15 (State.nmuRead_kept (hm.mono rfl) Hx8)
            extract_lets -underBinder -merge v16 v17 v18
            try clear_value v16
            try clear_value v17
            try clear_value v18
            split
            · rename_i x19 x20 e21
              have Hx19 := Kept.fst e21 (State.nmuWrite_kept (hm.mono rfl) Hx12)
              extract_lets -underBinder -merge v22
              try clear_value v22
              exact (State.nmuEnd_kept (hm.mono rfl) Hx19)))))

theorem State.gaccRead_kept {M : Nat} {s0 : State} {p0 : State} {p1 : Nat} {p2 : Nat} {p3 : NCmd} {p4 : Bool} (hm : Msub 5192296984268942039579411695538320 M) (h0_ : Kept M s0 p0) :
    Kept M s0 (@State.gaccRead p0 p1 p2 p3 p4) := by
  unfold State.gaccRead
  split
  · rename_i x1 x2 x3 e4
    have Hx1 := Kept.fst e4 (State.nmuRead_kept (hm.mono rfl) h0_)
    extract_lets -underBinder -merge v5 v6 v7 v8
    try clear_value v5
    try clear_value v6
    try clear_value v7
    split
    · split
      · rename_i x12 x13 e14
        have Hx12 := Kept.fst e14 (State.nmuPut_kept (hm.mono rfl) Hx1)
        split
        · rename_i x15 x16 e17
          have Hx15 := Kept.fst e17 (Kept.ite1 (State.nmuWrite_kept (hm.mono rfl) Hx12) (Kept.pairMk Hx12))
          split
          · rename_i x18 x19 e20
            have Hx18 := Kept.fst e20 (Kept.ite1 (State.nmuWrite_kept (hm.mono rfl) Hx15) (Kept.pairMk Hx15))
            exact (State.nmuEnd_kept (hm.mono rfl) Hx18)

theorem execGaccRead_kept {M : Nat} {s0 : State} {p0 : Nat} {p1 : Nat} {p2 : State} (hm : Msub 32752183012250809922384715506642636058770 M) (h2_ : Kept M s0 p2) :
    KeptO M s0 (@execGaccRead p0 p1 p2) := by
  unfold execGaccRead
  exact (KeptO.next (State.nmuTake_kept (hm.mono rfl) h2_ (fun x1 x2 h3 =>
    (State.gaccRead_kept (hm.mono rfl) h3))))

theorem execGaccReadClear_kept {M : Nat} {s0 : State} {p0 : Nat} {p1 : Nat} {p2 : State} (hm : Msub 32752183012250809922384715506642636058770 M) (h2_ : Kept M s0 p2) :
    KeptO M s0 (@execGaccReadClear p0 p1 p2) := by
  unfold execGaccReadClear
  exact (KeptO.next (State.nmuTake_kept (hm.mono rfl) h2_ (fun x1 x2 h3 =>
    (State.gaccRead_kept (hm.mono rfl) h3))))

theorem execNmuGather_kept {M : Nat} {s0 : State} {p0 : Nat} {p1 : Nat} {p2 : State} (hm : Msub 32752183012250809922384715506642636058770 M) (h2_ : Kept M s0 p2) :
    KeptO M s0 (@execNmuGather p0 p1 p2) := by
  unfold execNmuGather
  exact (KeptO.next (State.nmuTake_kept (hm.mono rfl) h2_ (fun x1 x2 h3 =>
    (by
      split
      · rename_i x4 x5 x6 e7
        have Hx4 := Kept.fst e7 (State.nmuList_kept (hm.mono rfl) h3)
        split
        · rename_i x8 x9 x10 x11 e12
          have Hx8 := Kept.fst e12 (Kept.foldl1 (Kept.pairMk Hx4) (fun x13 x15 h14 =>
            (Kept.ite1 h14 (by
              extract_lets -underBinder -merge v16 v17
              try clear_value v16
              try clear_value v17
              exact (Kept.ite1 (by
                split
                · rename_i x18 x19 e20
                  have Hx18 := Kept.fst e20 (State.nmuPut_kept (hm.mono rfl) h14)
                  exact (Kept.pairMk Hx18)) (by
                split
                · rename_i x21 x22 x23 e24
                  have Hx21 := Kept.fst e24 (State.nmuElems_kept (hm.mono rfl) h14)
                  split
                  · split
                    · rename_i x27 x28 e29
                      have Hx27 := Kept.fst e29 (State.nmuPut_kept (hm.mono rfl) Hx21)
                      exact (Kept.pairMk Hx27)))))))
          exact (State.nmuEnd_kept (hm.mono rfl) Hx8)))))

theorem State.scatterRows_kept {M : Nat} {s0 : State} {p0 : State} {p1 : Nat} {p2 : NCmd} {p3 : Nat} {p4 : List Nat → List (Val × Bool) → List Nat × Flags × Bool × Nat} (hm : Msub 5192296984268942039579411695538320 M) (h0_ : Kept M s0 p0) :
    Kept M s0 (@State.scatterRows p0 p1 p2 p3 p4).1 := by
  unfold State.scatterRows
  split
  · rename_i x1 x2 x3 e4
    have Hx1 := Kept.fst e4 (State.nmuList_kept (hm.mono rfl) h0_)
    exact (Kept.foldl1 (Kept.pairMk Hx1) (fun x5 x7 h6 =>
      (Kept.ite1 h6 (by
        extract_lets -underBinder -merge v8
        try clear_value v8
        exact (Kept.ite1 (Kept.pairMk h6) (by
          split
          · rename_i x9 x10 x11 e12
            have Hx9 := Kept.fst e12 (State.nmuElems_kept (hm.mono rfl) h6)
            extract_lets -underBinder -merge v13
            try clear_value v13
            split
            · rename_i x14 x15 x16 e17
              have Hx14 := Kept.fst e17 (State.nmuRead_kept (hm.mono rfl) Hx9)
              extract_lets -underBinder -merge v18
              try clear_value v18
              split
              · split
                · rename_i x23 x24 e25
                  have Hx23 := Kept.fst e25 (State.nmuWrite_kept (hm.mono rfl) Hx14)
                  exact (Kept.pairMk Hx23)))))))

theorem execScatterAddFp32_kept {M : Nat} {s0 : State} {p0 : Nat} {p1 : Nat} {p2 : State} (hm : Msub 32752183012250809922384715506642636058770 M) (h2_ : Kept M s0 p2) :
    KeptO M s0 (@execScatterAddFp32 p0 p1 p2) := by
  unfold execScatterAddFp32
  exact (KeptO.next (State.nmuTake_kept (hm.mono rfl) h2_ (fun x1 x2 h3 =>
    (by
      split
      · rename_i x4 x5 x6 x7 x8 e9
        have Hx4 := Kept.fst e9 (State.scatterRows_kept (hm.mono rfl) h3)
        exact (State.nmuEnd_kept (hm.mono rfl) Hx4)))))

theorem execScatterAddExact_kept {M : Nat} {s0 : State} {p0 : Nat} {p1 : Nat} {p2 : State} (hm : Msub 32752183012250809922384715506642636058770 M) (h2_ : Kept M s0 p2) :
    KeptO M s0 (@execScatterAddExact p0 p1 p2) := by
  unfold execScatterAddExact
  exact (KeptO.next (State.nmuTake_kept (hm.mono rfl) h2_ (fun x1 x2 h3 =>
    (by
      split
      · rename_i x4 x5 x6 x7 x8 e9
        have Hx4 := Kept.fst e9 (State.scatterRows_kept (hm.mono rfl) h3)
        exact (State.nmuEnd_kept (hm.mono rfl) Hx4)))))

theorem State.convertSrc_kept {M : Nat} {s0 : State} {p0 : State} {p1 : NCmd} (hm : Msub 5192296935911687894065222753718416 M) (h0_ : Kept M s0 p0) :
    Kept M s0 (@State.convertSrc p0 p1).1 := by
  unfold State.convertSrc
  split
  · rename_i x1 x2 x3 e4
    have Hx1 := Kept.fst e4 (State.nmuElems_kept (hm.mono rfl) h0_)
    split
    · rename_i x5 x6 x7 e8
      have Hx5 := Kept.fst e8 (State.nmuScales_kept (hm.mono rfl) Hx1)
      extract_lets -underBinder -merge v9
      try clear_value v9
      exact (Kept.pairMk Hx5)

theorem execConvertCast_kept {M : Nat} {s0 : State} {p0 : Nat} {p1 : Nat} {p2 : State} (hm : Msub 32752183012250809922384715506642636058770 M) (h2_ : Kept M s0 p2) :
    KeptO M s0 (@execConvertCast p0 p1 p2) := by
  unfold execConvertCast
  exact (KeptO.next (State.nmuTake_kept (hm.mono rfl) h2_ (fun x1 x2 h3 =>
    (by
      split
      · rename_i x4 x5 x6 e7
        have Hx4 := Kept.fst e7 (State.convertSrc_kept (hm.mono rfl) h3)
        extract_lets -underBinder -merge v8
        try clear_value v8
        split
        · split
          · rename_i x11 x12 e13
            have Hx11 := Kept.fst e13 (State.nmuPut_kept (hm.mono rfl) Hx4)
            exact (State.nmuEnd_kept (hm.mono rfl) Hx11)))))

theorem execConvertQuantise_kept {M : Nat} {s0 : State} {p0 : Nat} {p1 : Nat} {p2 : State} (hm : Msub 32752183012250809922384715506642636058770 M) (h2_ : Kept M s0 p2) :
    KeptO M s0 (@execConvertQuantise p0 p1 p2) := by
  unfold execConvertQuantise
  exact (KeptO.next (State.nmuTake_kept (hm.mono rfl) h2_ (fun x1 x2 h3 =>
    (by
      split
      · rename_i x4 x5 x6 e7
        have Hx4 := Kept.fst e7 (State.convertSrc_kept (hm.mono rfl) h3)
        extract_lets -underBinder -merge v8 v9
        try clear_value v8
        split
        · split
          · rename_i x13 x14 e15
            have Hx13 := Kept.fst e15 (State.nmuPut_kept (hm.mono rfl) Hx4)
            split
            · rename_i x16 x17 e18
              have Hx16 := Kept.fst e18 (State.nmuWrite_kept (hm.mono rfl) Hx13)
              exact (State.nmuEnd_kept (hm.mono rfl) Hx16)))))

theorem execNmuScrub_kept {M : Nat} {s0 : State} {p0 : Nat} {p1 : Nat} {p2 : List (Nat × SymErr)} {p3 : List (Nat × SymErr)} {p4 : List (Nat × SymErr)} {p5 : State} (hm : Msub 32752183012250809922384715506642636058770 M) (h5_ : Kept M s0 p5) :
    KeptO M s0 (@execNmuScrub p0 p1 p2 p3 p4 p5) := by
  unfold execNmuScrub
  exact (KeptO.next (State.nmuTake_kept (hm.mono rfl) h5_ (fun x1 x2 h3 =>
    (by
      extract_lets -underBinder -merge v4 v5 v6 v7
      have h8 : Kept M s0 v4 := (State.nmuBytes_kept (hm.mono rfl) h3)
      try clear_value v4
      try clear_value v5
      try clear_value v6
      try clear_value v7
      split
      · rename_i x9 x10 e11
        have Hx9 := Kept.fst e11 (Kept.foldl1 (Kept.pairMk h8) (fun x12 x14 h13 =>
          (by
            split
            · exact h13
            · exact (Kept.ite1 h13 (by
                split
                · rename_i x18 x19 e20
                  have Hx18 := Kept.fst e20 (State.scrubRead_kept (hm.mono rfl) h13)
                  exact (Kept.pairMk Hx18))))))
        exact (State.nmuEnd_kept (hm.mono rfl) Hx9)))))

theorem execSnapArm_kept {M : Nat} {s0 : State} {p0 : Nat} {p1 : Nat} {p2 : State} (hm : Msub 32752183012250809922384715506642636058770 M) (h2_ : Kept M s0 p2) :
    KeptO M s0 (@execSnapArm p0 p1 p2) := by
  unfold execSnapArm
  exact (KeptO.next (State.nmuTake_kept (hm.mono rfl) h2_ (fun x1 x2 h3 =>
    (Kept.ite (State.nmuEnd_kept (hm.mono rfl) (State.snapArm_kept (hm.mono rfl) h3)) (State.nmuEnd_kept (hm.mono rfl) h3)))))

theorem execSnapAbort_kept {M : Nat} {s0 : State} {p0 : Nat} {p1 : Nat} {p2 : State} (hm : Msub 32752183012250809922384715506642636058770 M) (h2_ : Kept M s0 p2) :
    KeptO M s0 (@execSnapAbort p0 p1 p2) := by
  unfold execSnapAbort
  exact (KeptO.next (State.nmuTake_kept (hm.mono rfl) h2_ (fun x1 x2 h3 =>
    (by
      extract_lets -underBinder -merge v4
      try clear_value v4
      exact (State.nmuEnd_kept (hm.mono rfl) (Kept.ite (State.snapAbort_kept (hm.mono rfl) h3) h3))))))

theorem execSnapUnitSaved_kept {M : Nat} {s0 : State} {p0 : Nat} {p1 : Nat} {p2 : Nat} {p3 : State} (hm : Msub 32752183012255742339728743193675437256850 M) (h3_ : Kept M s0 p3) :
    KeptO M s0 (@execSnapUnitSaved p0 p1 p2 p3) := by
  unfold execSnapUnitSaved
  exact (KeptO.next (Kept.ite (State.flushAll_kept (hm.mono rfl) (State.matSave_kept (hm.mono rfl) (State.holdMax_kept (hm.mono rfl) h3_))) h3_))

theorem execSnapUnitConsumed_kept {M : Nat} {s0 : State} {p0 : Nat} {p1 : Nat} {p2 : Nat} {p3 : Nat} {p4 : State} (hm : Msub 32752183012255742339728743193675437256850 M) (h4_ : Kept M s0 p4) :
    KeptO M s0 (@execSnapUnitConsumed p0 p1 p2 p3 p4) := by
  unfold execSnapUnitConsumed
  split
  · exact (KeptO.next h4_)
  · extract_lets -underBinder -merge v3
    have h4 : Kept M s0 v3 := (Kept.ite (State.holdMax_kept (hm.mono rfl) (Kept.upd_fresh (hm.mono rfl) (Nat.le_add_right _ _) h4_)) h4_)
    try clear_value v3
    exact (KeptO.ite (KeptO.next (State.flushAll_kept (hm.mono rfl) (State.matConsume_kept (hm.mono rfl) h4))) (KeptO.next h4_))

theorem execSnapHoldTimeout_kept {M : Nat} {s0 : State} {p0 : Nat} {p1 : State} (hm : Msub 32752183012255742339728743193675437256850 M) (h1_ : Kept M s0 p1) :
    KeptO M s0 (@execSnapHoldTimeout p0 p1) := by
  unfold execSnapHoldTimeout
  exact (KeptO.next (Kept.ite (State.flushAll_kept (hm.mono rfl) (State.snapAbort_kept (hm.mono rfl) (State.holdMax_kept (hm.mono rfl) h1_))) h1_))

end Sys2Proof.Machine
end

