-- ==== Sys2Proof/Laws/FrameCkpt.lean ====
section
/-! SUPPORT. What the operations and meanings of Machine/Ckpt.lean can change: one frame lemma per definition. -/
namespace Sys2Proof.Machine

theorem State.engZero_kept {M : Nat} {s0 : State} {p0 : State} {p1 : Nat} {p2 : Nat} (hm : Msub 5192296906897689584243110154604688 M) (h0_ : Kept M s0 p0) :
    Kept M s0 (@State.engZero p0 p1 p2) := by
  unfold State.engZero
  exact (State.engStore_kept (hm.mono rfl) h0_)

theorem State.ckSendUnit_kept {M : Nat} {s0 : State} {p0 : State} {p1 : Nat} {p2 : CkSend} (hm : Msub 5196115284591611194193427451416720 M) (h0_ : Kept M s0 p0) :
    Kept M s0 (@State.ckSendUnit p0 p1 p2) := by
  unfold State.ckSendUnit
  extract_lets -underBinder -merge v1 v2
  try clear_value v1
  try clear_value v2
  split
  · exact h0_
  · extract_lets -underBinder -merge v5 v6
    try clear_value v5
    have h7 : Kept M s0 v6 := (Kept.ite h0_ (State.engWrite_kept (hm.mono rfl) h0_))
    try clear_value v6
    exact (State.contSend_kept (hm.mono rfl) h7)

theorem State.ckPump_kept {M : Nat} {s0 : State} {p0 : State} {p1 : Nat} (hm : Msub 337503114230820579420145192521502864 M) (h0_ : Kept M s0 p0) :
    Kept M s0 (@State.ckPump p0 p1) := by
  unfold State.ckPump
  extract_lets -underBinder -merge v1 v2
  try clear_value v1
  have h6 : Kept M s0 v2.1 := (Kept.foldl1 (Kept.pairMk h0_) (fun x3 x5 h4 =>
    (Kept.ite1 (Kept.pairMk h4) (Kept.pairMk (State.ckSendUnit_kept (hm.mono rfl) h4)))))
  try clear_value v2
  exact (State.modCk_kept (hm.mono rfl) h6)

theorem State.ckQueue_kept {M : Nat} {s0 : State} {p0 : State} {p1 : Nat} {p2 : List Nat} (hm : Msub 337503114230820579420145192521502864 M) (h0_ : Kept M s0 p0) :
    Kept M s0 (@State.ckQueue p0 p1 p2) := by
  unfold State.ckQueue
  extract_lets -underBinder -merge v1 v2 v3 v4
  try clear_value v1
  try clear_value v2
  try clear_value v3
  try clear_value v4
  exact (State.ckPump_kept (hm.mono rfl) (State.modCk_kept (hm.mono rfl) h0_))

theorem State.commitLanded_kept {M : Nat} {s0 : State} {p0 : State} {p1 : Nat} (hm : Msub 337503109327417676424138299055083664 M) (h0_ : Kept M s0 p0) :
    Kept M s0 (@State.commitLanded p0 p1) := by
  unfold State.commitLanded
  extract_lets -underBinder -merge v1 v2 v3 v4 v5 v6 v7 v8 v9
  try clear_value v1
  try clear_value v2
  try clear_value v3
  try clear_value v4
  try clear_value v5
  have h10 : Kept M s0 v6 := (State.recInvalid_kept (hm.mono rfl) h0_)
  try clear_value v6
  have h11 : Kept M s0 v7 := (State.setFld_kept (hm.mono rfl) h10 (hm.has (k := 23) rfl))
  try clear_value v7
  have h12 : Kept M s0 v8 := (State.setFld_kept (hm.mono rfl) h11 (hm.has (k := 23) rfl))
  try clear_value v8
  have h13 : Kept M s0 v9 := (Kept.ite (State.bump_kept (hm.mono rfl) (State.setFld_kept (hm.mono rfl) h0_ (hm.has (k := 23) rfl)) (hm.has (k := 23) rfl)) (State.event_kept (hm.mono rfl) (State.bump_kept (hm.mono rfl) h12 (hm.has (k := 23) rfl))))
  try clear_value v9
  exact (Kept.ite (by
    split
    · exact (Kept.ite (Kept.ite (State.modCk_kept (hm.mono rfl) h13) (State.modCk_kept (hm.mono rfl) (Kept.each h13 (fun x15 x16 h17 =>
        (State.contSend_kept (hm.mono rfl) h17))))) (State.contSend_kept (hm.mono rfl) h13))
    · exact h13) h0_)

theorem State.ckCommit_kept {M : Nat} {s0 : State} {p0 : State} {p1 : Nat} (hm : Msub 337503114279177833565659398651580560 M) (h0_ : Kept M s0 p0) :
    Kept M s0 (@State.ckCommit p0 p1) := by
  unfold State.ckCommit
  extract_lets -underBinder -merge v1 v2 v3 v4
  try clear_value v1
  try clear_value v2
  have h5 : Kept M s0 v3 := (State.modCk_kept (hm.mono rfl) h0_)
  try clear_value v3
  have h9 : Kept M s0 v4 := (Kept.each h5 (fun x6 x7 h8 =>
    (State.engWrite_kept (hm.mono rfl) h8)))
  try clear_value v4
  exact (State.commitLanded_kept (hm.mono rfl) (State.engStore_kept (hm.mono rfl) h9))

theorem State.ckRecord__kept {M : Nat} {s0 : State} {p0 : State} {p1 : Nat} (hm : Msub 337503114279177833565659398651580560 M) (h0_ : Kept M s0 p0) :
    Kept M s0 (@State.ckRecord_ p0 p1) := by
  unfold State.ckRecord_
  extract_lets -underBinder -merge v1 v2 v3 v4 v5 v6 v7
  try clear_value v1
  try clear_value v2
  try clear_value v3
  try clear_value v4
  have h8 : Kept M s0 v5 := (State.engStore_kept (hm.mono rfl) h0_)
  try clear_value v5
  have h15 : Kept M s0 v6.1 := (Kept.foldl1 (Kept.pairMk h8) (fun x9 x11 h10 =>
    (by
      split
      · rename_i x12 x13 e14
        have Hx12 := Kept.fst e14 (State.engWrite_kept (hm.mono rfl) h10)
        exact (Kept.pairMk Hx12))))
  try clear_value v6
  have h16 : Kept M s0 v7 := (State.modCk_kept (hm.mono rfl) h15)
  try clear_value v7
  exact (Kept.ite (Kept.ite (State.ckCommit_kept (hm.mono rfl) h16) h16) h0_)

theorem State.ckAck_kept {M : Nat} {s0 : State} {p0 : State} {p1 : Nat} {p2 : Nat} (hm : Msub 337503114279177833565659398651580560 M) (h0_ : Kept M s0 p0) :
    Kept M s0 (@State.ckAck p0 p1 p2) := by
  unfold State.ckAck
  extract_lets -underBinder -merge v1 v2 v3
  try clear_value v1
  try clear_value v2
  have h4 : Kept M s0 v3 := (State.modCk_kept (hm.mono rfl) h0_)
  try clear_value v3
  exact (Kept.ite (Kept.ite (State.ckCommit_kept (hm.mono rfl) h4) h4) h0_)

theorem State.stripeRx_kept {M : Nat} {s0 : State} {p0 : State} {p1 : Nat} {p2 : Nat} {p3 : Nat} {p4 : Nat} {p5 : List Nat} (hm : Msub 337503114279177833565659398651580560 M) (h0_ : Kept M s0 p0) :
    Kept M s0 (@State.stripeRx p0 p1 p2 p3 p4 p5) := by
  unfold State.stripeRx
  exact (Kept.ite (State.ckRecord__kept (hm.mono rfl) (State.modCk_kept (hm.mono rfl) h0_)) h0_)

theorem State.ckLocal_kept {M : Nat} {s0 : State} {p0 : State} {p1 : Nat} (hm : Msub 337503114279177833565659398651580560 M) (h0_ : Kept M s0 p0) :
    Kept M s0 (@State.ckLocal p0 p1) := by
  unfold State.ckLocal
  extract_lets -underBinder -merge v1 v2 v3 v4 v5 v6 v7 v8
  try clear_value v1
  try clear_value v2
  try clear_value v3
  try clear_value v4
  try clear_value v5
  try clear_value v6
  have h9 : Kept M s0 v7 := (State.modCk_kept (hm.mono rfl) h0_)
  try clear_value v7
  have h10 : Kept M s0 v8 := (State.event_kept (hm.mono rfl) (State.setFld_kept (hm.mono rfl) h9 (hm.has (k := 23) rfl)))
  try clear_value v8
  exact (Kept.ite (Kept.ite (State.stripeRx_kept (hm.mono rfl) h10) (by
    split
    · exact (State.contSend_kept (hm.mono rfl) h10)
    · exact h10)) h0_)

theorem State.unitRx_kept {M : Nat} {s0 : State} {p0 : State} {p1 : Nat} {p2 : Nat} {p3 : Nat} {p4 : List Nat} (hm : Msub 337503114279177833565659398651580560 M) (h0_ : Kept M s0 p0) :
    Kept M s0 (@State.unitRx p0 p1 p2 p3 p4) := by
  unfold State.unitRx
  extract_lets -underBinder -merge v1 v2 v3 v4 v5 v6
  try clear_value v1
  try clear_value v2
  try clear_value v3
  try clear_value v4
  try clear_value v5
  try clear_value v6
  split
  · exact h0_
  · extract_lets -underBinder -merge v9 v10 v11 v12 v13 v14 v15 v16 v17
    try clear_value v9
    try clear_value v10
    try clear_value v11
    try clear_value v12
    have h18 : Kept M s0 v13 := (Kept.ite h0_ (State.engStore_kept (hm.mono rfl) h0_))
    try clear_value v13
    try clear_value v14
    try clear_value v15
    have h19 : Kept M s0 v16 := (State.modCk_kept (hm.mono rfl) h18)
    try clear_value v16
    have h20 : Kept M s0 v17 := (Kept.ite (State.bump_kept (hm.mono rfl) h19 (hm.has (k := 23) rfl)) h19)
    try clear_value v17
    exact (Kept.ite (Kept.ite (State.ckPump_kept (hm.mono rfl) (State.modCk_kept (hm.mono rfl) h0_)) h0_) (Kept.ite (Kept.ite (State.modCk_kept (hm.mono rfl) h0_) h0_) (Kept.ite (State.ckLocal_kept (hm.mono rfl) (State.contSend_kept (hm.mono rfl) h20)) h0_)))

theorem State.commitAck_kept {M : Nat} {s0 : State} {p0 : State} {p1 : Nat} {p2 : Nat} {p3 : Nat} {p4 : Nat} {p5 : Nat} (hm : Msub 32752515319254688568696969145440515731602 M) (h0_ : Kept M s0 p0) :
    Kept M s0 (@State.commitAck p0 p1 p2 p3 p4 p5) := by
  unfold State.commitAck
  extract_lets -underBinder -merge v1
  have h2 : Kept M s0 v1 := (State.modCk_kept (hm.mono rfl) h0_)
  try clear_value v1
  exact (Kept.ite (Kept.ite (Kept.ite (State.event_kept (hm.mono rfl) (State.modCk_kept (hm.mono rfl) h2)) h2) (Kept.ite (State.ckAbort_kept (hm.mono rfl) h0_) (State.modCk_kept (hm.mono rfl) (Kept.each h0_ (fun x3 x4 h5 =>
    (State.contSend_kept (hm.mono rfl) h5)))))) h0_)

theorem State.ckSkip_kept {M : Nat} {s0 : State} {p0 : State} {p1 : Nat} {p2 : Nat} (hm : Msub 337499295804769403664680669111390352 M) (h0_ : Kept M s0 p0) :
    Kept M s0 (@State.ckSkip p0 p1 p2) := by
  unfold State.ckSkip
  extract_lets -underBinder -merge v1
  have h2 : Kept M s0 v1 := (Kept.ite (State.modCk_kept (hm.mono rfl) (State.setFld_kept (hm.mono rfl) h0_ (hm.has (k := 23) rfl))) h0_)
  try clear_value v1
  exact (State.event_kept (hm.mono rfl) (State.bump_kept (hm.mono rfl) h2 (hm.has (k := 23) rfl)))

theorem State.ckCopy_kept {M : Nat} {s0 : State} {p0 : State} {p1 : Nat} {p2 : Nat} {p3 : Nat × CtReg × Nat} (hm : Msub 332306999023600220681288066611019776 M) (h0_ : Kept M s0 p0) :
    Kept M s0 (@State.ckCopy p0 p1 p2 p3) := by
  unfold State.ckCopy
  extract_lets -underBinder -merge v1
  try clear_value v1
  split
  · exact h0_
  · extract_lets -underBinder -merge v5 v6 v7 v8
    try clear_value v5
    try clear_value v6
    try clear_value v7
    try clear_value v8
    exact (State.modCk_kept (hm.mono rfl) (State.setNmu_kept (hm.mono rfl) h0_))

theorem State.ckStart_kept {M : Nat} {s0 : State} {p0 : State} {p1 : Nat} {p2 : Nat} {p3 : Nat} {p4 : List CtReg} (hm : Msub 32752515319254688568696969145440515731602 M) (h0_ : Kept M s0 p0) :
    Kept M s0 (@State.ckStart p0 p1 p2 p3 p4) := by
  unfold State.ckStart
  extract_lets -underBinder -merge v1 v2 v3 v4 v5 v6 v7 v8 v9 v10 v11 v12 v13 v14 v15 v16 v17 v18 v19 v20 v21 v22 v23 v24 v25 v26
  have h27 : Kept M s0 v1 := (State.modCk_kept (hm.mono rfl) h0_)
  try clear_value v1
  try clear_value v2
  try clear_value v3
  have h28 : Kept M s0 v4 := (State.recInvalid_kept (hm.mono rfl) h27)
  try clear_value v4
  try clear_value v5
  try clear_value v6
  try clear_value v7
  have h29 : Kept M s0 v8 := (State.snapUnits_kept (hm.mono rfl) h28)
  try clear_value v8
  have h36 : Kept M s0 v9 := (Kept.each h29 (fun x30 x31 h32 =>
    (by
      split
      · exact (Kept.ite (State.matConsume_kept (hm.mono rfl) h32) h32)
      · exact h32)))
  try clear_value v9
  try clear_value v10
  have h37 : Kept M s0 v11 := (State.setFld_kept (hm.mono rfl) h36 (hm.has (k := 23) rfl))
  try clear_value v11
  have h38 : Kept M s0 v12 := (State.setFld64_kept (hm.mono rfl) h37 (hm.has (k := 23) rfl))
  try clear_value v12
  have h39 : Kept M s0 v13 := (State.setFld_kept (hm.mono rfl) (State.setFld_kept (hm.mono rfl) h38 (hm.has (k := 23) rfl)) (hm.has (k := 23) rfl))
  try clear_value v13
  have h40 : Kept M s0 v14 := (State.setFld_kept (hm.mono rfl) h39 (hm.has (k := 23) rfl))
  try clear_value v14
  try clear_value v15
  have h41 : Kept M s0 v16 := (State.modCk_kept (hm.mono rfl) h40)
  try clear_value v16
  have h42 : Kept M s0 v17 := (State.event_kept (hm.mono rfl) h41)
  try clear_value v17
  have h46 : Kept M s0 v18 := (Kept.each h42 (fun x43 x44 h45 =>
    (State.ckCopy_kept (hm.mono rfl) h45)))
  try clear_value v18
  try clear_value v19
  have h47 : Kept M s0 v20 := (State.engZero_kept (hm.mono rfl) h46)
  try clear_value v20
  try clear_value v21
  have h51 : Kept M s0 v22 := (Kept.each h47 (fun x48 x49 h50 =>
    (State.engZero_kept (hm.mono rfl) h50)))
  try clear_value v22
  have h56 : Kept M s0 v23 := (Kept.each h51 (fun x52 x53 h54 =>
    (by
      extract_lets -underBinder -merge v55
      try clear_value v55
      exact (State.engZero_kept (hm.mono rfl) h54))))
  try clear_value v23
  have h57 : Kept M s0 v24 := (State.bumpBy_kept (hm.mono rfl) h56 (hm.has (k := 23) rfl))
  try clear_value v24
  have h58 : Kept M s0 v25 := (State.ckQueue_kept (hm.mono rfl) h57)
  try clear_value v25
  have h62 : Kept M s0 v26 := (Kept.each h58 (fun x59 x60 h61 =>
    (Kept.ite (State.unitRx_kept (hm.mono rfl) h61) h61)))
  try clear_value v26
  exact (Kept.ite (State.ckSkip_kept (hm.mono rfl) h27) (Kept.ite (State.ckSkip_kept (hm.mono rfl) h27) (Kept.ite (State.ckSkip_kept (hm.mono rfl) h28) (State.ckLocal_kept (hm.mono rfl) h62))))

theorem State.ckCopied_kept {M : Nat} {s0 : State} {p0 : State} {p1 : NCmd} (hm : Msub 32752515319254688568696969145440515731602 M) (h0_ : Kept M s0 p0) :
    Kept M s0 (@State.ckCopied p0 p1) := by
  unfold State.ckCopied
  extract_lets -underBinder -merge v1 v2 v3
  try clear_value v1
  have h4 : Kept M s0 v2 := (State.modCk_kept (hm.mono rfl) h0_)
  try clear_value v2
  have h5 : Kept M s0 v3 := (State.bumpBy_kept (hm.mono rfl) h4 (hm.has (k := 23) rfl))
  try clear_value v3
  exact (Kept.ite (Kept.ite (State.ckAbort_kept (hm.mono rfl) h0_) (State.ckLocal_kept (hm.mono rfl) (State.ckQueue_kept (hm.mono rfl) h5))) h0_)

theorem State.contPump_kept {M : Nat} {s0 : State} {p0 : State} (hm : Msub 32752681472754161683181082121323050774674 M) (h0_ : Kept M s0 p0) :
    Kept M s0 (@State.contPump p0) := by
  unfold State.contPump
  extract_lets -underBinder -merge v1
  try clear_value v1
  exact (Kept.each (Kept.upd_nmuDone (hm.mono rfl) h0_) (fun x2 x3 h4 =>
    (State.ckCopied_kept (hm.mono rfl) h4)))

theorem execCkUnit_kept {M : Nat} {s0 : State} {p0 : Nat} {p1 : Nat} {p2 : Nat} {p3 : Nat} {p4 : Nat} {p5 : Nat} {p6 : Bool} {p7 : Bool} {p8 : State} (hm : Msub 337503114279177833565659398651580560 M) (h8_ : Kept M s0 p8) :
    KeptO M s0 (@execCkUnit p0 p1 p2 p3 p4 p5 p6 p7 p8) := by
  unfold execCkUnit
  exact (KeptO.next (State.unitRx_kept (hm.mono rfl) h8_))

theorem execCheckpointLocalDone_kept {M : Nat} {s0 : State} {p0 : Nat} {p1 : State} (hm : Msub 337503114279177833565659398651580560 M) (h1_ : Kept M s0 p1) :
    KeptO M s0 (@execCheckpointLocalDone p0 p1) := by
  unfold execCheckpointLocalDone
  exact (KeptO.next (State.ckLocal_kept (hm.mono rfl) h1_))

theorem execStripeDone_kept {M : Nat} {s0 : State} {p0 : Nat} {p1 : Nat} {p2 : Nat} {p3 : Nat} {p4 : Nat} {p5 : Nat} {p6 : Nat} {p7 : State} (hm : Msub 337503114279177833565659398651580560 M) (h7_ : Kept M s0 p7) :
    KeptO M s0 (@execStripeDone p0 p1 p2 p3 p4 p5 p6 p7) := by
  unfold execStripeDone
  exact (KeptO.next (State.stripeRx_kept (hm.mono rfl) h7_))

theorem execCommitRecordLanded_kept {M : Nat} {s0 : State} {p0 : Nat} {p1 : State} (hm : Msub 337503109327417676424138299055083664 M) (h1_ : Kept M s0 p1) :
    KeptO M s0 (@execCommitRecordLanded p0 p1) := by
  unfold execCommitRecordLanded
  exact (KeptO.next (State.commitLanded_kept (hm.mono rfl) h1_))

theorem execCommitAck_kept {M : Nat} {s0 : State} {p0 : Nat} {p1 : Nat} {p2 : Nat} {p3 : Nat} {p4 : Nat} {p5 : State} (hm : Msub 32752515319254688568696969145440515731602 M) (h5_ : Kept M s0 p5) :
    KeptO M s0 (@execCommitAck p0 p1 p2 p3 p4 p5) := by
  unfold execCommitAck
  exact (KeptO.next (State.commitAck_kept (hm.mono rfl) h5_))

theorem State.ckAbortRx_kept {M : Nat} {s0 : State} {p0 : State} {p1 : Nat} {p2 : Nat} {p3 : Nat} {p4 : Nat} (hm : Msub 32752515319254688568696969145440515731602 M) (h0_ : Kept M s0 p0) :
    Kept M s0 (@State.ckAbortRx p0 p1 p2 p3 p4) := by
  unfold State.ckAbortRx
  exact (Kept.ite (State.ckAbort_kept (hm.mono rfl) h0_) h0_)

theorem execCkptAbort_kept {M : Nat} {s0 : State} {p0 : Nat} {p1 : Nat} {p2 : Nat} {p3 : Nat} {p4 : State} (hm : Msub 32752515319254688568696969145440515731602 M) (h4_ : Kept M s0 p4) :
    KeptO M s0 (@execCkptAbort p0 p1 p2 p3 p4) := by
  unfold execCkptAbort
  exact (KeptO.next (State.ckAbortRx_kept (hm.mono rfl) h4_))

theorem execCkTimeout_kept {M : Nat} {s0 : State} {p0 : Nat} {p1 : State} (hm : Msub 32752515319254688568696969145440515731602 M) (h1_ : Kept M s0 p1) :
    KeptO M s0 (@execCkTimeout p0 p1) := by
  unfold execCkTimeout
  exact (KeptO.next (Kept.ite (State.ckAbort_kept (hm.mono rfl) h1_) h1_))

theorem State.ckCmd_kept {M : Nat} {s0 : State} {p0 : State} {p1 : Sys2Proof.Word} (hm : Msub 32752515319254688568696969145440515731602 M) (h0_ : Kept M s0 p0) :
    Kept M s0 (@State.ckCmd p0 p1) := by
  unfold State.ckCmd
  extract_lets -underBinder -merge v1 v2
  try clear_value v1
  have h3 : Kept M s0 v2 := (Kept.ite (State.ckAbort_kept (hm.mono rfl) h0_) h0_)
  try clear_value v2
  exact (Kept.ite (State.modCk_kept (hm.mono rfl) h3) h3)

theorem execCkAbort_kept {M : Nat} {s0 : State} {p0 : Master} {p1 : State} (hm : Msub 32752515319254688578141702111179806158995 M) (h1_ : Kept M s0 p1) :
    KeptO M s0 (@execCkAbort p0 p1) := by
  unfold execCkAbort
  exact (KeptO.next (State.gated_kept (hm.mono rfl) h1_ (fun x1 h2 =>
    (State.ckCmd_kept (hm.mono rfl) h2))))

theorem execCkNow_kept {M : Nat} {s0 : State} {p0 : Master} {p1 : State} (hm : Msub 32752515319254688578141702111179806158995 M) (h1_ : Kept M s0 p1) :
    KeptO M s0 (@execCkNow p0 p1) := by
  unfold execCkNow
  exact (KeptO.next (State.gated_kept (hm.mono rfl) h1_ (fun x1 h2 =>
    (State.ckCmd_kept (hm.mono rfl) h2))))

theorem State.setSto_kept {M : Nat} {s0 : State} {p0 : State} {p1 : Nat} {p2 : Nat} {p3 : Nat} (hm : Msub 8388608 M) (h0_ : Kept M s0 p0) :
    Kept M s0 (@State.setSto p0 p1 p2 p3) := by
  unfold State.setSto
  exact (State.setFld_kept (hm.mono rfl) h0_ (hm.has (k := 23) rfl))

theorem State.stoPump_kept {M : Nat} {s0 : State} {p n : Nat} {s : State} (hm : Msub 332306998946229263373856944431300608 M) (h : Kept M s0 s) :
    Kept M s0 (State.stoPump p n s) := by
  induction n generalizing s with
  | zero => exact h
  | succ n ih =>
    unfold State.stoPump
    extract_lets
    refine Kept.ite (Kept.ite ?_ h) h
    split
    refine ih ?_
    exact Kept.ite
      (State.setSto_kept (hm.mono rfl) (State.modCk_kept (hm.mono rfl)
        (State.setFld_kept (hm.mono rfl) (State.emit_kept (hm.mono rfl) h) (hm.has (k := 23) rfl))))
      (State.modCk_kept (hm.mono rfl)
        (State.setFld_kept (hm.mono rfl) (State.emit_kept (hm.mono rfl) h) (hm.has (k := 23) rfl)))

theorem State.stoCmd_kept {M : Nat} {s0 : State} {p0 : State} {p1 : Sys2Proof.Word} (hm : Msub 332306998946229263373856944431300608 M) (h0_ : Kept M s0 p0) :
    Kept M s0 (@State.stoCmd p0 p1) := by
  unfold State.stoCmd
  extract_lets -underBinder -merge v1 v2 v3 v4 v5 v6 v7
  try clear_value v1
  try clear_value v2
  try clear_value v3
  try clear_value v4
  try clear_value v5
  have h8 : Kept M s0 v6 := (Kept.ite (State.bump_kept (hm.mono rfl) h0_ (hm.has (k := 23) rfl)) h0_)
  try clear_value v6
  have h9 : Kept M s0 v7 := (State.modCk_kept (hm.mono rfl) h8)
  try clear_value v7
  exact (Kept.ite h0_ (Kept.ite (State.setSto_kept (hm.mono rfl) h0_) (Kept.ite (State.setSto_kept (hm.mono rfl) h0_) (State.stoPump_kept (hm.mono rfl) (State.setSto_kept (hm.mono rfl) h9)))))

theorem execStoExport_kept {M : Nat} {s0 : State} {p0 : Master} {p1 : Nat} {p2 : State} (hm : Msub 337499295804778848397646408401817745 M) (h2_ : Kept M s0 p2) :
    KeptO M s0 (@execStoExport p0 p1 p2) := by
  unfold execStoExport
  exact (KeptO.next (State.gated_kept (hm.mono rfl) h2_ (fun x1 h2 =>
    (State.stoCmd_kept (hm.mono rfl) h2))))

theorem execStoImport_kept {M : Nat} {s0 : State} {p0 : Master} {p1 : Nat} {p2 : State} (hm : Msub 337499295804778848397646408401817745 M) (h2_ : Kept M s0 p2) :
    KeptO M s0 (@execStoImport p0 p1 p2) := by
  unfold execStoImport
  exact (KeptO.next (State.gated_kept (hm.mono rfl) h2_ (fun x1 h2 =>
    (State.stoCmd_kept (hm.mono rfl) h2))))

theorem State.stoCons_kept {M : Nat} {s0 : State} {p0 : State} {p1 : Sys2Proof.Word} (hm : Msub 332306998946229263373856944431300608 M) (h0_ : Kept M s0 p0) :
    Kept M s0 (@State.stoCons p0 p1) := by
  unfold State.stoCons
  extract_lets -underBinder -merge v1
  try clear_value v1
  exact (Kept.ite h0_ (State.stoPump_kept (hm.mono rfl) (State.setFld_kept (hm.mono rfl) h0_ (hm.has (k := 23) rfl))))

theorem execStoConsWrite_kept {M : Nat} {s0 : State} {p0 : Master} {p1 : Sys2Proof.Word} {p2 : State} (hm : Msub 337499295804778848397646408401817745 M) (h2_ : Kept M s0 p2) :
    KeptO M s0 (@execStoConsWrite p0 p1 p2) := by
  unfold execStoConsWrite
  exact (KeptO.next (State.gated_kept (hm.mono rfl) h2_ (fun x1 h2 =>
    (State.stoCons_kept (hm.mono rfl) h2))))

theorem State.stoFinish_kept {M : Nat} {s0 : State} {p0 : State} {p1 : Nat} (hm : Msub 5192296906897689584243110162993296 M) (h0_ : Kept M s0 p0) :
    Kept M s0 (@State.stoFinish p0 p1) := by
  unfold State.stoFinish
  extract_lets -underBinder -merge v1 v2 v3 v4 v5 v6
  try clear_value v1
  try clear_value v2
  try clear_value v3
  try clear_value v5
  try clear_value v6
  exact (Kept.ite (State.setSto_kept (hm.mono rfl) (State.engStore_kept (hm.mono rfl) h0_)) (State.setSto_kept (hm.mono rfl) h0_))

theorem State.stoChunk_kept {M : Nat} {s0 : State} {p0 : State} {p1 : Nat} {p2 : List Sys2Proof.Byte} (hm : Msub 337499295853126657810194875233079440 M) (h0_ : Kept M s0 p0) :
    Kept M s0 (@State.stoChunk p0 p1 p2) := by
  unfold State.stoChunk
  extract_lets -underBinder -merge v1 v2 v3 v4 v5 v6
  try clear_value v1
  try clear_value v2
  try clear_value v3
  try clear_value v4
  have h7 : Kept M s0 v5 := (State.setFld_kept (hm.mono rfl) h0_ (hm.has (k := 23) rfl))
  try clear_value v5
  try clear_value v6
  exact (Kept.ite (by
    split
    · exact (State.setSto_kept (hm.mono rfl) h7)
    · extract_lets -underBinder -merge v10
      have h11 : Kept M s0 v10 := (State.modCk_kept (hm.mono rfl) h7)
      try clear_value v10
      exact (Kept.ite (State.stoFinish_kept (hm.mono rfl) h11) h11)) h0_)

theorem State.stoProd_kept {M : Nat} {s0 : State} {p0 : State} {p1 : Sys2Proof.Word} {p2 : List (List Sys2Proof.Byte)} (hm : Msub 337499295853126657810194875233079440 M) (h0_ : Kept M s0 p0) :
    Kept M s0 (@State.stoProd p0 p1 p2) := by
  unfold State.stoProd
  extract_lets -underBinder -merge v1
  try clear_value v1
  exact (Kept.ite h0_ (Kept.each (State.setFld_kept (hm.mono rfl) h0_ (hm.has (k := 23) rfl)) (fun x2 x3 h4 =>
    (State.stoChunk_kept (hm.mono rfl) h4))))

theorem execStoProdWrite_kept {M : Nat} {s0 : State} {p0 : Master} {p1 : Sys2Proof.Word} {p2 : List (List Sys2Proof.Byte)} {p3 : State} (hm : Msub 337499295853136102543160614523506833 M) (h3_ : Kept M s0 p3) :
    KeptO M s0 (@execStoProdWrite p0 p1 p2 p3) := by
  unfold execStoProdWrite
  exact (KeptO.next (State.gated_kept (hm.mono rfl) h3_ (fun x1 h2 =>
    (State.stoProd_kept (hm.mono rfl) h2))))

end Sys2Proof.Machine
end

