-- ==== Sys2Proof/Laws/FrameData.lean ====
section
/-! SUPPORT. What the operations and meanings of Machine/Data.lean can change: one frame lemma per definition. -/
namespace Sys2Proof.Machine

theorem State.fetchRow_kept {M : Nat} {s0 : State} {p0 : State} {p1 : Nat} {p2 : Nat} {p3 : Nat} {p4 : Nat} {p5 : Nat} (hm : Msub 5196115284591611194193427451416720 M) (h0_ : Kept M s0 p0) :
    Kept M s0 (@State.fetchRow p0 p1 p2 p3 p4 p5).1 := by
  unfold State.fetchRow
  exact (Kept.foldl1 (Kept.pairMk h0_) (fun x1 x3 h2 =>
    (by
      split
      · rename_i x4 x5 e6
        have Hx4 := Kept.fst e6 (State.sendOp_kept (hm.mono rfl) h2)
        exact (Kept.pairMk Hx4))))

theorem State.pushRow_kept {M : Nat} {s0 : State} {p0 : State} {p1 : Nat} {p2 : Nat} {p3 : Nat} {p4 : Nat} {p5 : List Sys2Proof.Byte} (hm : Msub 5196115284591611194193427451416720 M) (h0_ : Kept M s0 p0) :
    Kept M s0 (@State.pushRow p0 p1 p2 p3 p4 p5).1 := by
  unfold State.pushRow
  exact (Kept.foldl1 (Kept.pairMk h0_) (fun x1 x3 h2 =>
    (by
      split
      · rename_i x4 x5 e6
        have Hx4 := Kept.fst e6 (State.sendOp_kept (hm.mono rfl) h2)
        exact (Kept.pairMk Hx4))))

theorem State.copyRows_kept {M : Nat} {s0 : State} {p0 : State} {p1 : Nat} {p2 : Nat} {p3 : Tens} {p4 : Tens} {p5 : Nat → Nat} {p6 : Option Sig} (hm : Msub 5196115332948865339707633573105808 M) (h0_ : Kept M s0 p0) :
    Kept M s0 (@State.copyRows p0 p1 p2 p3 p4 p5 p6).s := by
  unfold State.copyRows
  extract_lets -underBinder -merge v1 v2 v3
  try clear_value v1
  try clear_value v2
  try clear_value v3
  split
  · rename_i x4 e5
    have Hx4 := Kept.fst e5 (State.readRows_kept (hm.mono rfl) h0_)
    exact (Eff.bus_kept (hm.mono rfl) Hx4)
  · rename_i x6 x7 e8
    have Hx6 := Kept.fst e8 (State.readRows_kept (hm.mono rfl) h0_)
    extract_lets -underBinder -merge v9
    try clear_value v9
    split
    · rename_i x10 x11 e12
      have Hx10 := Kept.fst e12 (State.writeRows_kept (hm.mono rfl) Hx6)
      exact (Kept.iteE (Eff.bus_kept (hm.mono rfl) Hx10) (by
        split
        · rename_i x13 x14 e15
          have Hx13 := Kept.fst e15 (Kept.foldl1 (Kept.pairMk Hx10) (fun x16 x18 h17 =>
            (by
              split
              · rename_i x19 x20 e21
                have Hx19 := Kept.fst e21 (State.pushRow_kept (hm.mono rfl) h17)
                exact (Kept.pairMk Hx19))))
          split
          · rename_i x22 x23 e24
            have Hx22 := Kept.fst e24 (Kept.foldl1 (Kept.pairMk Hx13) (fun x25 x27 h26 =>
              (by
                split
                · rename_i x28 x29 e30
                  have Hx28 := Kept.fst e30 (State.fetchRow_kept (hm.mono rfl) h26)
                  exact (Kept.pairMk Hx28))))
            exact (Kept.effMk Hx22)))

theorem State.copyIssue_kept {M : Nat} {s0 : State} {p0 : State} {p1 : Nat} {p2 : Desc} {p3 : Nat} {p4 : Loc} {p5 : Loc} (hm : Msub 32794718313191481391387696459658016403858 M) (h0_ : Kept M s0 p0) :
    Kept M s0 (@State.copyIssue p0 p1 p2 p3 p4 p5) := by
  unfold State.copyIssue
  exact (State.issue_kept (hm.mono rfl) h0_ (fun x1 x3 x4 h2 =>
    (State.copyRows_kept (hm.mono rfl) h2)))

theorem execLoad_kept {M : Nat} {s0 : State} {p0 : Nat} {p1 : Desc} {p2 : State} (hm : Msub 32794718313191481391387696459658016403858 M) (h2_ : Kept M s0 p2) :
    KeptO M s0 (@execLoad p0 p1 p2) := by
  unfold execLoad
  exact (KeptO.next (State.copyIssue_kept (hm.mono rfl) h2_))

theorem execStore_kept {M : Nat} {s0 : State} {p0 : Nat} {p1 : Desc} {p2 : State} (hm : Msub 32794718313191481391387696459658016403858 M) (h2_ : Kept M s0 p2) :
    KeptO M s0 (@execStore p0 p1 p2) := by
  unfold execStore
  exact (KeptO.next (State.copyIssue_kept (hm.mono rfl) h2_))

theorem execMove_kept {M : Nat} {s0 : State} {p0 : Nat} {p1 : Desc} {p2 : State} (hm : Msub 32794718313191481391387696459658016403858 M) (h2_ : Kept M s0 p2) :
    KeptO M s0 (@execMove p0 p1 p2) := by
  unfold execMove
  exact (KeptO.next (State.copyIssue_kept (hm.mono rfl) h2_))

theorem execSend_kept {M : Nat} {s0 : State} {p0 : Nat} {p1 : Desc} {p2 : State} (hm : Msub 32794718313191481391387696459658016403858 M) (h2_ : Kept M s0 p2) :
    KeptO M s0 (@execSend p0 p1 p2) := by
  unfold execSend
  extract_lets -underBinder -merge v1 v2 v3 v4 v5 v6 v7
  try clear_value v1
  try clear_value v2
  try clear_value v3
  try clear_value v4
  try clear_value v6
  try clear_value v7
  exact (KeptO.next (State.flushSigs_kept (hm.mono rfl) (State.issue_kept (hm.mono rfl) h2_ (fun x8 x10 x11 h9 =>
    (State.copyRows_kept (hm.mono rfl) h9)))))

theorem execTranspose_kept {M : Nat} {s0 : State} {p0 : Nat} {p1 : Desc} {p2 : State} (hm : Msub 32794718313186529631230554938558419906962 M) (h2_ : Kept M s0 p2) :
    KeptO M s0 (@execTranspose p0 p1 p2) := by
  unfold execTranspose
  extract_lets -underBinder -merge v1 v2 v3 v4
  try clear_value v1
  try clear_value v2
  try clear_value v3
  exact (KeptO.next (State.issue_kept (hm.mono rfl) h2_ (fun x5 x7 x8 h6 =>
    (by
      split
      · rename_i x9 e10
        have Hx9 := Kept.fst e10 (State.readBits_kept (hm.mono rfl) h6)
        exact (Eff.bus_kept (hm.mono rfl) Hx9)
      · rename_i x11 x12 e13
        have Hx11 := Kept.fst e13 (State.readBits_kept (hm.mono rfl) h6)
        extract_lets -underBinder -merge v14
        try clear_value v14
        split
        · rename_i x15 x16 e17
          have Hx15 := Kept.fst e17 (State.writeBits_kept (hm.mono rfl) Hx11)
          exact (Kept.iteE (Kept.effMk Hx15) (Eff.bus_kept (hm.mono rfl) Hx15))))))

theorem execGather_kept {M : Nat} {s0 : State} {p0 : Nat} {p1 : Desc} {p2 : State} (hm : Msub 32794718313186529631230554938558419906962 M) (h2_ : Kept M s0 p2) :
    KeptO M s0 (@execGather p0 p1 p2) := by
  unfold execGather
  exact (KeptO.next (State.issue_kept (hm.mono rfl) h2_ (fun x1 x3 x4 h2 =>
    (by
      extract_lets -underBinder -merge v5
      try clear_value v5
      split
      · rename_i x6 e7
        have Hx6 := Kept.fst e7 (State.readBits_kept (hm.mono rfl) h2)
        exact (Eff.bus_kept (hm.mono rfl) Hx6)
      · rename_i x8 x9 e10
        have Hx8 := Kept.fst e10 (State.readBits_kept (hm.mono rfl) h2)
        split
        · rename_i x11 e12
          have Hx11 := Kept.fst e12 (State.readRowsOf_kept (hm.mono rfl) Hx8)
          exact (Eff.bus_kept (hm.mono rfl) Hx11)
        · rename_i x13 x14 e15
          have Hx13 := Kept.fst e15 (State.readRowsOf_kept (hm.mono rfl) Hx8)
          extract_lets -underBinder -merge v16 v17
          try clear_value v16
          try clear_value v17
          split
          · rename_i x18 x19 x20 e21
            have Hx18 := Kept.fst e21 (State.writeOut_kept (hm.mono rfl) Hx13)
            exact (Eff.ofOut_kept (Kept.pairMk Hx18))))))

theorem execScatterAdd_kept {M : Nat} {s0 : State} {p0 : Nat} {p1 : Desc} {p2 : State} (hm : Msub 32794718313186529631230554938558419906962 M) (h2_ : Kept M s0 p2) :
    KeptO M s0 (@execScatterAdd p0 p1 p2) := by
  unfold execScatterAdd
  exact (KeptO.next (State.issue_kept (hm.mono rfl) h2_ (fun x1 x3 x4 h2 =>
    (by
      extract_lets -underBinder -merge v5
      try clear_value v5
      split
      · rename_i x6 e7
        have Hx6 := Kept.fst e7 (State.readArr_kept (hm.mono rfl) h2)
        exact (Eff.bus_kept (hm.mono rfl) Hx6)
      · rename_i x8 x9 e10
        have Hx8 := Kept.fst e10 (State.readArr_kept (hm.mono rfl) h2)
        split
        · rename_i x11 e12
          have Hx11 := Kept.fst e12 (State.readBits_kept (hm.mono rfl) Hx8)
          exact (Eff.bus_kept (hm.mono rfl) Hx11)
        · rename_i x13 x14 e15
          have Hx13 := Kept.fst e15 (State.readBits_kept (hm.mono rfl) Hx8)
          split
          · rename_i x16 e17
            have Hx16 := Kept.fst e17 (State.readRowsOf_kept (hm.mono rfl) Hx13)
            exact (Eff.bus_kept (hm.mono rfl) Hx16)
          · rename_i x18 x19 e20
            have Hx18 := Kept.fst e20 (State.readRowsOf_kept (hm.mono rfl) Hx13)
            extract_lets -underBinder -merge v21 v22
            try clear_value v21
            try clear_value v22
            exact (Eff.plus_kept (hm.mono rfl) (Eff.ofOut_kept (State.writeOut_kept (hm.mono rfl) Hx18)))))))

theorem convIssue_kept {M : Nat} {s0 : State} {p0 : State} {p1 : Nat} {p2 : Desc} {p3 : Bool} (hm : Msub 32794718313186529631230554938558419906962 M) (h0_ : Kept M s0 p0) :
    Kept M s0 (@convIssue p0 p1 p2 p3) := by
  unfold convIssue
  exact (State.issue_kept (hm.mono rfl) h0_ (fun x1 x3 x4 h2 =>
    (by
      split
      · rename_i x5 e6
        have Hx5 := Kept.fst e6 (State.readArr_kept (hm.mono rfl) h2)
        exact (Eff.bus_kept (hm.mono rfl) Hx5)
      · rename_i x7 x8 e9
        have Hx7 := Kept.fst e9 (State.readArr_kept (hm.mono rfl) h2)
        exact (Eff.ofOut_kept (State.writeOut_kept (hm.mono rfl) Hx7)))))

theorem execCast_kept {M : Nat} {s0 : State} {p0 : Nat} {p1 : Desc} {p2 : State} (hm : Msub 32794718313186529631230554938558419906962 M) (h2_ : Kept M s0 p2) :
    KeptO M s0 (@execCast p0 p1 p2) := by
  unfold execCast
  exact (KeptO.next (convIssue_kept (hm.mono rfl) h2_))

theorem execQuantise_kept {M : Nat} {s0 : State} {p0 : Nat} {p1 : Desc} {p2 : State} (hm : Msub 32794718313186529631230554938558419906962 M) (h2_ : Kept M s0 p2) :
    KeptO M s0 (@execQuantise p0 p1 p2) := by
  unfold execQuantise
  exact (KeptO.next (convIssue_kept (hm.mono rfl) h2_))

theorem execFill_kept {M : Nat} {s0 : State} {p0 : Nat} {p1 : Desc} {p2 : State} (hm : Msub 32794718313186529631230554938558419906962 M) (h2_ : Kept M s0 p2) :
    KeptO M s0 (@execFill p0 p1 p2) := by
  unfold execFill
  exact (KeptO.next (State.issue_kept (hm.mono rfl) h2_ (fun x1 x3 x4 h2 =>
    (Eff.ofOut_kept (State.writeOut_kept (hm.mono rfl) h2)))))

theorem execDigest_kept {M : Nat} {s0 : State} {p0 : Nat} {p1 : Desc} {p2 : State} (hm : Msub 32794718313186529631230554938558419906962 M) (h2_ : Kept M s0 p2) :
    KeptO M s0 (@execDigest p0 p1 p2) := by
  unfold execDigest
  exact (KeptO.next (State.issue_kept (hm.mono rfl) h2_ (fun x1 x3 x4 h2 =>
    (by
      extract_lets -underBinder -merge v5 v6
      try clear_value v5
      try clear_value v6
      exact (Kept.iteE (Kept.effMk h2) (by
        split
        · rename_i x7 e8
          have Hx7 := Kept.fst e8 (State.readRows_kept (hm.mono rfl) h2)
          exact (Eff.bus_kept (hm.mono rfl) Hx7)
        · rename_i x9 x10 e11
          have Hx9 := Kept.fst e11 (State.readRows_kept (hm.mono rfl) h2)
          split
          · rename_i x12 x13 e14
            have Hx12 := Kept.fst e14 (State.writeMem_kept (hm.mono rfl) Hx9)
            exact (Kept.iteE (Kept.effMk Hx12) (Eff.bus_kept (hm.mono rfl) Hx12))))))))

end Sys2Proof.Machine
end

