-- ==== Sys2Proof/Laws/FrameEdeskCmd.lean ====
section
/-! SUPPORT. What the operations and meanings of Machine/EdeskCmd.lean can change: one frame lemma per definition. -/
namespace Sys2Proof.Machine

theorem State.edeskRead_kept {M : Nat} {s0 : State} {p0 : State} {p1 : Nat} {p2 : Nat} {p3 : Requester} {p4 : ReadObs} (hm : Msub 32752183012250809922384715506505197105298 M) (h0_ : Kept M s0 p0) :
    Kept M s0 (@State.edeskRead p0 p1 p2 p3 p4) := by
  unfold State.edeskRead
  extract_lets -underBinder -merge v1
  try clear_value v1
  split
  · extract_lets -underBinder -merge v4
    try clear_value v4
    exact (Kept.ite (State.deliverError_kept (hm.mono rfl) h0_) (Kept.ite (State.setStk_kept (hm.mono rfl) h0_) (by
      split
      · rename_i x5 x6 e7
        have Hx5 := Kept.fst e7 (State.readLine_kept (hm.mono rfl) h0_)
        exact (State.deliverLine_kept (hm.mono rfl) Hx5)
      · rename_i x8 e9
        have Hx8 := Kept.fst e9 (State.readLine_kept (hm.mono rfl) h0_)
        exact (State.deliverError_kept (hm.mono rfl) (State.reqAt_kept (hm.mono rfl) Hx8))
      · rename_i x10 x11 e12
        have Hx10 := Kept.fst e12 (State.readLine_kept (hm.mono rfl) h0_)
        exact (State.recompWait_kept (hm.mono rfl) (State.reqAt_kept (hm.mono rfl) Hx10)))))

theorem execEdeskRead_kept {M : Nat} {s0 : State} {p0 : Nat} {p1 : Nat} {p2 : Requester} {p3 : ReadObs} {p4 : State} (hm : Msub 32752183012250809922384715506505197105298 M) (h4_ : Kept M s0 p4) :
    KeptO M s0 (@execEdeskRead p0 p1 p2 p3 p4) := by
  unfold execEdeskRead
  exact (KeptO.next (State.edeskRead_kept (hm.mono rfl) h4_))

theorem State.recompEnd_kept {M : Nat} {s0 : State} {p0 : State} {p1 : Nat} (hm : Msub 32752183012255742339728743193675437256850 M) (h0_ : Kept M s0 p0) :
    Kept M s0 (@State.recompEnd p0 p1) := by
  unfold State.recompEnd
  exact (State.flushAll_kept (hm.mono rfl) (State.recompNext_kept (hm.mono rfl) (State.recompRelease_kept (hm.mono rfl) h0_)))

theorem execRecomputeDone_kept {M : Nat} {s0 : State} {p0 : Nat} {p1 : List ReadObs} {p2 : State} (hm : Msub 32794884461620352104958891829553738625426 M) (h2_ : Kept M s0 p2) :
    KeptO M s0 (@execRecomputeDone p0 p1 p2) := by
  unfold execRecomputeDone
  extract_lets -underBinder -merge v1
  try clear_value v1
  split
  · exact (KeptO.next h2_)
  · extract_lets -underBinder -merge v4 v5 v6
    have h7 : Kept M s0 v4 := (State.setNmu_kept (hm.mono rfl) h2_)
    try clear_value v4
    have h8 : Kept M s0 v5 := (State.nmuLeave_kept (hm.mono rfl) h7)
    try clear_value v5
    try clear_value v6
    exact (KeptO.ite (KeptO.next h2_) (by
      split
      · exact (KeptO.next (State.recompNext_kept (hm.mono rfl) h8))
      · extract_lets -underBinder -merge v11 v12
        have h13 : Kept M s0 v11 := (State.setStk_kept (hm.mono rfl) h8)
        try clear_value v11
        try clear_value v12
        split
        · rename_i x14 x15 e16
          have Hx14 := Kept.fst e16 (Kept.foldl1 (Kept.pairMk h13) (fun x17 x19 h18 =>
            (by
              split
              · rename_i x20 x21 e22
                have Hx20 := Kept.fst e22 (State.innerRead_kept (hm.mono rfl) h18)
                extract_lets -underBinder -merge v23
                have h24 : Kept M s0 v23 := (State.innerCount_kept (hm.mono rfl) Hx20)
                try clear_value v23
                exact (Kept.pairMk h24))))
          extract_lets -underBinder -merge v25 v26
          have h27 : Kept M s0 v25 := (Kept.ite Hx14 (State.bump_kept (hm.mono rfl) (State.bumpBy_kept (hm.mono rfl) Hx14 (hm.has (k := 34) rfl)) (hm.has (k := 34) rfl)))
          try clear_value v25
          have h34 : Kept M s0 v26 := (Kept.each h27 (fun x28 x29 h30 =>
            (Kept.ite (by
              extract_lets -underBinder -merge v31 v32
              try clear_value v31
              have h33 : Kept M s0 v32 := (State.event_kept (hm.mono rfl) (State.lastErr_kept (hm.mono rfl) h30))
              try clear_value v32
              exact (Kept.ite h33 (State.lineOutcome_kept (hm.mono rfl) h33))) (State.recompFail_kept (hm.mono rfl) h30))))
          try clear_value v26
          exact (KeptO.next (State.recompEnd_kept (hm.mono rfl) h34))))

theorem execRecomputeTimeout_kept {M : Nat} {s0 : State} {p0 : Nat} {p1 : State} (hm : Msub 32752183012255761682541857027742232555666 M) (h1_ : Kept M s0 p1) :
    KeptO M s0 (@execRecomputeTimeout p0 p1) := by
  unfold execRecomputeTimeout
  extract_lets -underBinder -merge v1
  try clear_value v1
  split
  · exact (KeptO.ite (KeptO.next (State.recompEnd_kept (hm.mono rfl) (Kept.each (State.setStk_kept (hm.mono rfl) h1_) (fun x3 x4 h5 =>
      (State.recompFail_kept (hm.mono rfl) h5))))) (KeptO.next h1_))
  · exact (KeptO.next h1_)

theorem State.edeskWrite_kept {M : Nat} {s0 : State} {p0 : State} {p1 : Nat} {p2 : List Sys2Proof.Byte} {p3 : Requester} {p4 : List ReadObs} (hm : Msub 32752183012250809922384715506642636058770 M) (h0_ : Kept M s0 p0) :
    Kept M s0 (@State.edeskWrite p0 p1 p2 p3 p4) := by
  unfold State.edeskWrite
  extract_lets -underBinder -merge v1
  try clear_value v1
  split
  · rename_i x2 x3 e4
    have Hx2 := Kept.fst e4 (State.writeParts_kept (hm.mono rfl) h0_)
    exact (State.writeDone_kept (hm.mono rfl) Hx2)

theorem execEdeskLineWrite_kept {M : Nat} {s0 : State} {p0 : Nat} {p1 : List Sys2Proof.Byte} {p2 : Requester} {p3 : State} (hm : Msub 32752183012250809922384715506642636058770 M) (h3_ : Kept M s0 p3) :
    KeptO M s0 (@execEdeskLineWrite p0 p1 p2 p3) := by
  unfold execEdeskLineWrite
  exact (KeptO.next (State.edeskWrite_kept (hm.mono rfl) h3_))

theorem execEdeskPartialWrite_kept {M : Nat} {s0 : State} {p0 : Nat} {p1 : List Sys2Proof.Byte} {p2 : List ReadObs} {p3 : Requester} {p4 : State} (hm : Msub 32752183012250809922384715506642636058770 M) (h4_ : Kept M s0 p4) :
    KeptO M s0 (@execEdeskPartialWrite p0 p1 p2 p3 p4) := by
  unfold execEdeskPartialWrite
  exact (KeptO.next (State.edeskWrite_kept (hm.mono rfl) h4_))

theorem State.dropTop_kept {M : Nat} {s0 : State} {p0 : State} {p1 : Nat} (hm : Msub 221360928884514619392 M) (h0_ : Kept M s0 p0) :
    Kept M s0 (@State.dropTop p0 p1) := by
  unfold State.dropTop
  extract_lets -underBinder -merge v1
  exact (Kept.upd_mem_lines (hm.mono rfl) (fun h => smWf_filter _ h) (fun h => smWf_filter _ h) h0_)

theorem State.mapoutCtrl_kept {M : Nat} {s0 : State} {p0 : State} {p1 : Nat} {p2 : Sys2Proof.Word} (hm : Msub 5192296858540656799657805727404177 M) (h0_ : Kept M s0 p0) :
    Kept M s0 (@State.mapoutCtrl p0 p1 p2) := by
  unfold State.mapoutCtrl
  extract_lets -underBinder -merge v1 v2 v3 v4
  try clear_value v1
  have h5 : Kept M s0 v2 := (State.setFld_kept (hm.mono rfl) h0_ (hm.has (k := 34) rfl))
  try clear_value v2
  have h6 : Kept M s0 v3 := (State.setFld_kept (hm.mono rfl) (State.setFld_kept (hm.mono rfl) h5 (hm.has (k := 34) rfl)) (hm.has (k := 34) rfl))
  try clear_value v3
  have h7 : Kept M s0 v4 := (State.setFld_kept (hm.mono rfl) h6 (hm.has (k := 34) rfl))
  try clear_value v4
  exact (Kept.ite h5 (Kept.ite (State.event_kept (hm.mono rfl) (State.setErr_kept (hm.mono rfl) h5 (hm.has (k := 34) rfl))) (State.dropTop_kept (hm.mono rfl) (State.event_kept (hm.mono rfl) h7))))

theorem execMapoutGo_kept {M : Nat} {s0 : State} {p0 : Master} {p1 : Nat} {p2 : Sys2Proof.Word} {p3 : State} (hm : Msub 5192296858550101532623545017831569 M) (h3_ : Kept M s0 p3) :
    KeptO M s0 (@execMapoutGo p0 p1 p2 p3) := by
  unfold execMapoutGo
  exact (KeptO.next (State.gated_kept (hm.mono rfl) h3_ (fun x1 h2 =>
    (State.mapoutCtrl_kept (hm.mono rfl) h2))))

theorem State.poisonLine_kept {M : Nat} {s0 : State} {p0 : State} {p1 : Nat} {p2 : Nat} (hm : Msub 147573952589676412928 M) (h0_ : Kept M s0 p0) :
    Kept M s0 (@State.poisonLine p0 p1 p2) := by
  unfold State.poisonLine
  extract_lets -underBinder -merge v1
  try clear_value v1
  exact (Kept.upd_lines (hm.mono rfl) (fun h => smWf_smSet _ _ h) h0_)

theorem State.repairNote_kept {M : Nat} {s0 s : State} {k x : Nat} (hm : Msub 2361183241434822606848 M) (h : Kept M s0 s) :
    Kept M s0 (s.repairNote k x) := by
  refine Kept.upd_flash (hm.mono rfl) ⟨rfl, rfl, rfl, rfl, rfl, rfl, rfl, rfl, rfl, fun _ => Nat.le_refl _, fun j hj => ?_, fun h => h⟩ h
  show smGet (fun _ => 0) (smSet (fun _ => 0) s.flash.repair k (x + 1)) j ≠ 0
  by_cases he : j = k
  · subst he; rw [smGet_smSet_same]; exact Nat.succ_ne_zero x
  · rw [smGet_smSet_ne _ _ _ _ _ he]; exact hj

theorem execMapoutGranuleCopy_kept {M : Nat} {s0 : State} {p0 : Nat} {p1 : Bool} {p2 : Bool} {p3 : State} (hm : Msub 5192296858542944195922945711804560 M) (h3_ : Kept M s0 p3) :
    KeptO M s0 (@execMapoutGranuleCopy p0 p1 p2 p3) := by
  unfold execMapoutGranuleCopy
  extract_lets -underBinder -merge v1 v2 v3 v4 v5 v6
  try clear_value v1
  try clear_value v2
  try clear_value v3
  have h9 : Kept M s0 v4 := (Kept.whenB h3_ (fun x7 h8 =>
    (State.poisonLine_kept (hm.mono rfl) h8)))
  try clear_value v4
  have h12 : Kept M s0 v5 := (Kept.whenB h9 (fun x10 h11 =>
    (State.poisonLine_kept (hm.mono rfl) h11)))
  try clear_value v5
  have h13 : Kept M s0 v6 := (State.setFld_kept (hm.mono rfl) h12 (hm.has (k := 34) rfl))
  try clear_value v6
  exact (KeptO.ite (KeptO.next h3_) (KeptO.next (Kept.ite (State.event_kept (hm.mono rfl) (State.repairNote_kept (hm.mono rfl) (State.setFld_kept (hm.mono rfl) (State.setFld_kept (hm.mono rfl) h13 (hm.has (k := 34) rfl)) (hm.has (k := 34) rfl)))) h13)))

theorem State.rcrCtrl_kept {M : Nat} {s0 : State} {p0 : State} {p1 : Nat} {p2 : Nat} {p3 : Sys2Proof.Word} (hm : Msub 42540488161975848368360554850183811473 M) (h0_ : Kept M s0 p0) :
    Kept M s0 (@State.rcrCtrl p0 p1 p2 p3) := by
  unfold State.rcrCtrl
  exact (Kept.ite (State.setFld_kept (hm.mono rfl) h0_ (hm.has (k := 34) rfl)) (Kept.ite (State.setErr_kept (hm.mono rfl) (State.sealBlock_kept (hm.mono rfl) h0_) (hm.has (k := 34) rfl)) (Kept.ite (State.setFld_kept (hm.mono rfl) h0_ (hm.has (k := 34) rfl)) (State.setErr_kept (hm.mono rfl) (State.setFld_kept (hm.mono rfl) h0_ (hm.has (k := 34) rfl)) (hm.has (k := 34) rfl)))))

theorem execRcrEn_kept {M : Nat} {s0 : State} {p0 : Master} {p1 : Nat} {p2 : Nat} {p3 : Sys2Proof.Word} {p4 : State} (hm : Msub 42540488161975857813093520589474238865 M) (h4_ : Kept M s0 p4) :
    KeptO M s0 (@execRcrEn p0 p1 p2 p3 p4) := by
  unfold execRcrEn
  exact (KeptO.next (State.gated_kept (hm.mono rfl) h4_ (fun x1 h2 =>
    (State.rcrCtrl_kept (hm.mono rfl) h2))))

theorem State.rcrDisable_kept {M : Nat} {s0 : State} {p0 : State} {p1 : Nat → Nat → Bool} (hm : Msub 17179869184 M) (h0_ : Kept M s0 p0) :
    Kept M s0 (@State.rcrDisable p0 p1) := by
  unfold State.rcrDisable
  exact (Kept.each h0_ (fun x1 x2 h3 =>
    (Kept.each h3 (fun x4 x5 h6 =>
      (Kept.ite (State.setFld_kept (hm.mono rfl) h6 (hm.has (k := 34) rfl)) h6)))))

theorem State.rcrLayout_kept {M : Nat} {s0 : State} {p0 : State} {p1 : List Nat} (hm : Msub 5192296858540435438728921212784784 M) (h0_ : Kept M s0 p0) :
    Kept M s0 (@State.rcrLayout p0 p1) := by
  unfold State.rcrLayout
  exact (Kept.each h0_ (fun x1 x2 h3 =>
    (State.rcrDisable_kept (hm.mono rfl) (State.event_kept (hm.mono rfl) h3))))

theorem State.rcrContext_kept {M : Nat} {s0 : State} {p0 : State} {p1 : Nat} (hm : Msub 17179869184 M) (h0_ : Kept M s0 p0) :
    Kept M s0 (@State.rcrContext p0 p1) := by
  unfold State.rcrContext
  exact (State.rcrDisable_kept (hm.mono rfl) h0_)

theorem State.scrubStart_kept {M : Nat} {s0 : State} {p0 : State} {p1 : Nat} {p2 : Bool} (hm : Msub 9671406556917102117126144 M) (h0_ : Kept M s0 p0) :
    Kept M s0 (@State.scrubStart p0 p1 p2) := by
  unfold State.scrubStart
  extract_lets -underBinder -merge v1 v2
  try clear_value v1
  have h3 : Kept M s0 v2 := (State.setStk_kept (hm.mono rfl) h0_)
  try clear_value v2
  exact (State.setFld_kept (hm.mono rfl) (State.setFld_kept (hm.mono rfl) h3 (hm.has (k := 36) rfl)) (hm.has (k := 36) rfl))

theorem State.scrubEnd_kept {M : Nat} {s0 : State} {p0 : State} {p1 : Nat} (hm : Msub 5192296868211841995646023329910928 M) (h0_ : Kept M s0 p0) :
    Kept M s0 (@State.scrubEnd p0 p1) := by
  unfold State.scrubEnd
  extract_lets -underBinder -merge v1 v2 v3 v4 v5 v6 v7 v8
  try clear_value v1
  have h9 : Kept M s0 v2 := (State.setFld_kept (hm.mono rfl) (State.setFld_kept (hm.mono rfl) h0_ (hm.has (k := 36) rfl)) (hm.has (k := 36) rfl))
  try clear_value v2
  have h10 : Kept M s0 v3 := (State.setFld64_kept (hm.mono rfl) (State.setFld64_kept (hm.mono rfl) h9 (hm.has (k := 36) rfl)) (hm.has (k := 36) rfl))
  try clear_value v3
  have h11 : Kept M s0 v4 := (State.bump_kept (hm.mono rfl) h10 (hm.has (k := 36) rfl))
  try clear_value v4
  have h15 : Kept M s0 v5 := (Kept.each h11 (fun x12 x13 h14 =>
    (State.setFld_kept (hm.mono rfl) h14 (hm.has (k := 34) rfl))))
  try clear_value v5
  try clear_value v6
  have h16 : Kept M s0 v7 := (State.setStk_kept (hm.mono rfl) h15)
  try clear_value v7
  have h17 : Kept M s0 v8 := (State.setFld_kept (hm.mono rfl) h16 (hm.has (k := 36) rfl))
  try clear_value v8
  exact (State.scrubStart_kept (hm.mono rfl) (State.event_kept (hm.mono rfl) h17))

theorem execScrubLine_kept {M : Nat} {s0 : State} {p0 : Nat} {p1 : List SymErr} {p2 : List SymErr} {p3 : State} (hm : Msub 5192296868212063356574907844530320 M) (h3_ : Kept M s0 p3) :
    KeptO M s0 (@execScrubLine p0 p1 p2 p3) := by
  unfold execScrubLine
  extract_lets -underBinder -merge v1 v2 v3 v4 v5 v6 v7 v8
  have h9 : Kept M s0 v1 := (Kept.ite (State.scrubStart_kept (hm.mono rfl) h3_) h3_)
  try clear_value v1
  try clear_value v2
  try clear_value v3
  try clear_value v4
  have h14 : Kept M s0 v5 := (Kept.ite h9 (by
    split
    · rename_i x10 x11 e12
      have Hx10 := Kept.fst e12 (State.scrubRead_kept (hm.mono rfl) h9)
      extract_lets -underBinder -merge v13
      try clear_value v13
      exact (State.setStk_kept (hm.mono rfl) Hx10)))
  try clear_value v5
  try clear_value v6
  have h15 : Kept M s0 v7 := (State.setStk_kept (hm.mono rfl) h14)
  try clear_value v7
  have h16 : Kept M s0 v8 := (State.setFld_kept (hm.mono rfl) h15 (hm.has (k := 36) rfl))
  try clear_value v8
  exact (KeptO.ite (KeptO.next h3_) (KeptO.next (Kept.ite (State.scrubEnd_kept (hm.mono rfl) h16) h16)))

theorem State.scrubCtrl_kept {M : Nat} {s0 : State} {p0 : State} {p1 : Nat} {p2 : Sys2Proof.Word} (hm : Msub 9671701704822281469952001 M) (h0_ : Kept M s0 p0) :
    Kept M s0 (@State.scrubCtrl p0 p1 p2) := by
  unfold State.scrubCtrl
  extract_lets -underBinder -merge v1 v2 v3 v4
  try clear_value v1
  have h5 : Kept M s0 v2 := (State.setFld_kept (hm.mono rfl) (State.setFld_kept (hm.mono rfl) h0_ (hm.has (k := 36) rfl)) (hm.has (k := 36) rfl))
  try clear_value v2
  have h6 : Kept M s0 v3 := (Kept.ite h5 (State.setFld_kept (hm.mono rfl) h5 (hm.has (k := 36) rfl)))
  try clear_value v3
  have h7 : Kept M s0 v4 := (State.setFld_kept (hm.mono rfl) h6 (hm.has (k := 36) rfl))
  try clear_value v4
  exact (Kept.ite (State.setErr_kept (hm.mono rfl) h0_ (hm.has (k := 36) rfl)) (Kept.ite (Kept.ite (State.scrubStart_kept (hm.mono rfl) h7) h7) h6))

theorem execScrubNow_kept {M : Nat} {s0 : State} {p0 : Master} {p1 : Nat} {p2 : State} (hm : Msub 5192296868221286728611745440469137 M) (h2_ : Kept M s0 p2) :
    KeptO M s0 (@execScrubNow p0 p1 p2) := by
  unfold execScrubNow
  exact (KeptO.next (State.gated_kept (hm.mono rfl) h2_ (fun x1 h2 =>
    (State.scrubCtrl_kept (hm.mono rfl) h2))))

theorem execScrubCtrlWrite_kept {M : Nat} {s0 : State} {p0 : Master} {p1 : Nat} {p2 : Sys2Proof.Word} {p3 : State} (hm : Msub 5192296868221286728611745440469137 M) (h3_ : Kept M s0 p3) :
    KeptO M s0 (@execScrubCtrlWrite p0 p1 p2 p3) := by
  unfold execScrubCtrlWrite
  exact (KeptO.next (State.gated_kept (hm.mono rfl) h3_ (fun x1 h2 =>
    (State.scrubCtrl_kept (hm.mono rfl) h2))))

end Sys2Proof.Machine
end

