-- ==== Sys2Proof/Laws/FrameLaunch.lean ====
section
/-! SUPPORT. What the operations and meanings of Machine/Launch.lean can change: one frame lemma per definition. -/
namespace Sys2Proof.Machine

theorem State.setBindX_kept {M : Nat} {s0 : State} {p0 : State} {p1 : Nat} {p2 : BindX} (hm : Msub 10141204801825835211973625643008 M) (h0_ : Kept M s0 p0) :
    Kept M s0 (@State.setBindX p0 p1 p2) := by
  unfold State.setBindX
  exact (Kept.upd_binds (hm.mono rfl) h0_)

theorem State.setPcore_kept {M : Nat} {s0 : State} {p0 : State} {p1 : Nat} {p2 : Nat} {p3 : Nat} (hm : Msub 3221225472 M) (h0_ : Kept M s0 p0) :
    Kept M s0 (@State.setPcore p0 p1 p2 p3) := by
  unfold State.setPcore
  exact (Kept.each (State.setFld_kept (hm.mono rfl) h0_ (hm.has (k := 31) rfl)) (fun x1 x2 h3 =>
    (State.setFld_kept (hm.mono rfl) h3 (hm.has (k := 30) rfl))))

theorem State.bindReject_kept {M : Nat} {s0 : State} {p0 : State} {p1 : Nat} (hm : Msub 5192296858540435438728906180399249 M) (h0_ : Kept M s0 p0) :
    Kept M s0 (@State.bindReject p0 p1) := by
  unfold State.bindReject
  exact (State.event_kept (hm.mono rfl) (State.setErr_kept (hm.mono rfl) h0_ (hm.has (k := 31) rfl)))

theorem State.setBindArm_kept {M : Nat} {s0 : State} {p0 : State} {p1 : Nat} {p2 : Bool} (hm : Msub 2147483648 M) (h0_ : Kept M s0 p0) :
    Kept M s0 (@State.setBindArm p0 p1 p2) := by
  unfold State.setBindArm
  exact (State.setFld_kept (hm.mono rfl) (State.setFld_kept (hm.mono rfl) h0_ (hm.has (k := 31) rfl)) (hm.has (k := 31) rfl))

theorem State.bindArm_kept {M : Nat} {s0 : State} {p0 : State} {p1 : Nat} (hm : Msub 5202438063342261273940879806042257 M) (h0_ : Kept M s0 p0) :
    Kept M s0 (@State.bindArm p0 p1) := by
  unfold State.bindArm
  extract_lets -underBinder -merge v1 v2 v3
  try clear_value v1
  try clear_value v2
  have h4 : Kept M s0 v3 := (State.setBindX_kept (hm.mono rfl) h0_)
  try clear_value v3
  exact (Kept.ite (State.setBindArm_kept (hm.mono rfl) h4) (State.bindReject_kept (hm.mono rfl) h0_))

theorem State.bindSync_kept {M : Nat} {s0 : State} {p0 : State} {p1 : Nat} (hm : Msub 3758096384 M) (h0_ : Kept M s0 p0) :
    Kept M s0 (@State.bindSync p0 p1) := by
  unfold State.bindSync
  extract_lets -underBinder -merge v1 v2 v3
  try clear_value v1
  have h18 : Kept M s0 v2 := (Kept.each h0_ (fun x4 x5 h6 =>
    (by
      extract_lets -underBinder -merge v7 v8 v9 v10 v11
      try clear_value v7
      have h12 : Kept M s0 v9 := (State.setFld_kept (hm.mono rfl) h6 (hm.has (k := 29) rfl))
      try clear_value v9
      have h13 : Kept M s0 v10 := (State.setFld_kept (hm.mono rfl) h12 (hm.has (k := 29) rfl))
      try clear_value v10
      have h14 : Kept M s0 v11 := (State.setFld_kept (hm.mono rfl) h13 (hm.has (k := 29) rfl))
      try clear_value v11
      exact (Kept.ite h13 (Kept.each (State.setFld_kept (hm.mono rfl) (State.setFld_kept (hm.mono rfl) h14 (hm.has (k := 29) rfl)) (hm.has (k := 29) rfl)) (fun x15 x16 h17 =>
        (State.setFld_kept (hm.mono rfl) h17 (hm.has (k := 30) rfl))))))))
  try clear_value v2
  have h19 : Kept M s0 v3 := (State.setFld_kept (hm.mono rfl) h18 (hm.has (k := 31) rfl))
  try clear_value v3
  exact (Kept.each h19 (fun x20 x21 h22 =>
    (State.coreSync_kept (hm.mono rfl) h22)))

theorem State.copyTile_kept {M : Nat} {s0 : State} {p0 : State} {p1 : Nat} {p2 : Nat} (hm : Msub 73786976294838206464 M) (h0_ : Kept M s0 p0) :
    Kept M s0 (@State.copyTile p0 p1 p2) := by
  unfold State.copyTile
  extract_lets -underBinder -merge v1 v2 v3 v4
  try clear_value v1
  try clear_value v2
  try clear_value v3
  have h5 : Kept M s0 v4 := (Kept.upd_mem (hm.mono rfl) (fun h => smWf_filter _ h) h0_)
  try clear_value v4
  exact (Kept.foldl h5 (fun x6 x8 h7 =>
    (State.setByte_kept (hm.mono rfl) h7)))

theorem State.bindFinish_kept {M : Nat} {s0 : State} {p0 : State} {p1 : Nat} (hm : Msub 5202438063342335060917176254861456 M) (h0_ : Kept M s0 p0) :
    Kept M s0 (@State.bindFinish p0 p1) := by
  unfold State.bindFinish
  extract_lets -underBinder -merge v1 v2 v3 v4 v5 v6 v7 v8 v9 v10
  try clear_value v1
  try clear_value v2
  try clear_value v3
  have h15 : Kept M s0 v4 := (Kept.each h0_ (fun x11 x12 h13 =>
    (by
      extract_lets -underBinder -merge v14
      try clear_value v14
      exact (Kept.ite (State.setPcore_kept (hm.mono rfl) h13) h13))))
  try clear_value v4
  have h19 : Kept M s0 v5 := (Kept.each h15 (fun x16 x17 h18 =>
    (Kept.ite (State.setPcore_kept (hm.mono rfl) h18) h18)))
  try clear_value v5
  have h23 : Kept M s0 v6 := (Kept.each h19 (fun x20 x21 h22 =>
    (Kept.ite (State.copyTile_kept (hm.mono rfl) h22) h22)))
  try clear_value v6
  have h24 : Kept M s0 v7 := (State.setFld_kept (hm.mono rfl) h23 (hm.has (k := 31) rfl))
  try clear_value v7
  have h25 : Kept M s0 v8 := (State.bump_kept (hm.mono rfl) h24 (hm.has (k := 31) rfl))
  try clear_value v8
  have h26 : Kept M s0 v9 := (State.setFld64_kept (hm.mono rfl) h25 (hm.has (k := 31) rfl))
  try clear_value v9
  have h27 : Kept M s0 v10 := (State.setBindX_kept (hm.mono rfl) h26)
  try clear_value v10
  exact (State.event_kept (hm.mono rfl) (State.bindSync_kept (hm.mono rfl) h27))

theorem State.bindApply_kept {M : Nat} {s0 : State} {p0 : State} {p1 : Nat} {p2 : Option Nat} (hm : Msub 5202438063342335060917176254861457 M) (h0_ : Kept M s0 p0) :
    Kept M s0 (@State.bindApply p0 p1 p2).1 := by
  unfold State.bindApply
  extract_lets -underBinder -merge v1 v2 v3 v4
  try clear_value v1
  have h5 : Kept M s0 v2 := (State.setBindArm_kept (hm.mono rfl) h0_)
  try clear_value v2
  try clear_value v3
  have h6 : Kept M s0 v4 := (State.setBindX_kept (hm.mono rfl) h5)
  try clear_value v4
  exact (Kept.ite1 (Kept.ite1 (Kept.pairMk (State.bindFinish_kept (hm.mono rfl) h6)) (Kept.pairMk h6)) (Kept.pairMk (State.bindReject_kept (hm.mono rfl) h5)))

theorem State.bindEdge_kept {M : Nat} {s0 : State} {p0 : State} (hm : Msub 5202438063342335060917176254861457 M) (h0_ : Kept M s0 p0) :
    Kept M s0 (@State.bindEdge p0) := by
  unfold State.bindEdge
  exact (Kept.each h0_ (fun x1 x2 h3 =>
    (Kept.ite (State.bindApply_kept (hm.mono rfl) h3) h3)))

theorem State.bindActions_kept {M : Nat} {s0 : State} {p0 : State} (hm : Msub 2097152 M) (h0_ : Kept M s0 p0) :
    Kept M s0 (@State.bindActions p0) := by
  unfold State.bindActions
  exact (Kept.each h0_ (fun x1 x2 h3 =>
    (State.setFld_kept (hm.mono rfl) h3 (hm.has (k := 21) rfl))))

theorem execBindArm_kept {M : Nat} {s0 : State} {p0 : Master} {p1 : Nat} {p2 : Nat} {p3 : Bool} {p4 : State} (hm : Msub 5202438063351706006906619098566801 M) (h4_ : Kept M s0 p4) :
    KeptO M s0 (@execBindArm p0 p1 p2 p3 p4) := by
  unfold execBindArm
  exact (KeptO.next (State.gated_kept (hm.mono rfl) h4_ (fun x1 h2 =>
    (State.bindActions_kept (hm.mono rfl) (State.bindArm_kept (hm.mono rfl) (State.setFld_kept (hm.mono rfl) h2 (hm.has (k := 31) rfl)))))))

theorem State.fenceRelease_kept {M : Nat} {s0 : State} {p0 : State} {p1 : Nat} {p2 : Nat} (hm : Msub 5212579273055348251337283919155344 M) (h0_ : Kept M s0 p0) :
    Kept M s0 (@State.fenceRelease p0 p1 p2) := by
  unfold State.fenceRelease
  extract_lets -underBinder -merge v1 v2
  have h3 : Kept M s0 v1 := (Kept.upd_fences (hm.mono rfl) h0_)
  try clear_value v1
  have h4 : Kept M s0 v2 := (State.setFld_kept (hm.mono rfl) h3 (hm.has (k := 21) rfl))
  try clear_value v2
  exact (Kept.ite (Kept.each h4 (fun x5 x6 h7 =>
    (Kept.ite (Kept.each h7 (fun x8 x9 h10 =>
      (Kept.ite (State.waitDone_kept (hm.mono rfl) h10) h10))) h7))) h0_)

theorem State.lchState_kept {M : Nat} {s0 : State} {p0 : State} {p1 : Nat} {p2 : Sys2Proof.DWord} (hm : Msub 5192296858578214370591861194625180 M) (h0_ : Kept M s0 p0) :
    Kept M s0 (@State.lchState p0 p1 p2) := by
  unfold State.lchState
  extract_lets -underBinder -merge v1 v2 v3
  try clear_value v1
  try clear_value v2
  try clear_value v3
  exact (Kept.ite (State.setSlot_kept (hm.mono rfl) h0_) (Kept.ite (State.lchSync_kept (hm.mono rfl) (State.setSlot_kept (hm.mono rfl) h0_)) (State.event_kept (hm.mono rfl) h0_)))

theorem State.lchWrite_kept {M : Nat} {s0 : State} {p0 : State} {p1 : Master} {p2 : Nat} {p3 : Nat} {p4 : Nat} {p5 : Nat} (hm : Msub 5192296858578214370591861194625180 M) (h0_ : Kept M s0 p0) :
    Kept M s0 (@State.lchWrite p0 p1 p2 p3 p4 p5) := by
  unfold State.lchWrite
  extract_lets -underBinder -merge v1 v2
  try clear_value v1
  try clear_value v2
  exact (Kept.ite h0_ (Kept.ite (State.event_kept (hm.mono rfl) h0_) (Kept.ite (State.lchState_kept (hm.mono rfl) h0_) (Kept.ite (State.setSlot_kept (hm.mono rfl) h0_) (State.event_kept (hm.mono rfl) h0_)))))

theorem execLaunchPost_kept {M : Nat} {s0 : State} {p0 : Master} {p1 : Nat} {p2 : Sys2Proof.DWord} {p3 : Nat} {p4 : State} (hm : Msub 5192296858578214370591861194625212 M) (h4_ : Kept M s0 p4) :
    KeptO M s0 (@execLaunchPost p0 p1 p2 p3 p4) := by
  unfold execLaunchPost
  extract_lets -underBinder -merge v1 v2 v3 v4 v5
  try clear_value v1
  try clear_value v2
  have h6 : Kept M s0 v3 := (State.lchWrite_kept (hm.mono rfl) h4_)
  try clear_value v3
  try clear_value v4
  try clear_value v5
  exact (KeptO.next (Kept.ite (State.bump_kept (hm.mono rfl) (State.setSlot_kept (hm.mono rfl) h6) (hm.has (k := 5) rfl)) h6))

theorem execLaunchCancel_kept {M : Nat} {s0 : State} {p0 : Master} {p1 : Nat} {p2 : State} (hm : Msub 5192296858578214370591861194625180 M) (h2_ : Kept M s0 p2) :
    KeptO M s0 (@execLaunchCancel p0 p1 p2) := by
  unfold execLaunchCancel
  exact (KeptO.next (State.lchWrite_kept (hm.mono rfl) h2_))

theorem execLaunchEmpty_kept {M : Nat} {s0 : State} {p0 : Master} {p1 : Nat} {p2 : State} (hm : Msub 5192296858578214370591861194625180 M) (h2_ : Kept M s0 p2) :
    KeptO M s0 (@execLaunchEmpty p0 p1 p2) := by
  unfold execLaunchEmpty
  exact (KeptO.next (State.lchWrite_kept (hm.mono rfl) h2_))

theorem execLaunchEntryWrite_kept {M : Nat} {s0 : State} {p0 : Master} {p1 : Nat} {p2 : Nat} {p3 : Bool} {p4 : Sys2Proof.DWord} {p5 : State} (hm : Msub 5192296858578214370591861194625180 M) (h5_ : Kept M s0 p5) :
    KeptO M s0 (@execLaunchEntryWrite p0 p1 p2 p3 p4 p5) := by
  unfold execLaunchEntryWrite
  exact (KeptO.next (State.lchWrite_kept (hm.mono rfl) h5_))

theorem State.scanSeal_kept {M : Nat} {s0 : State} {p0 : State} {p1 : Slot} {p2 : Nat} (hm : Msub 42540488161975848368360554833003942288 M) (h0_ : Kept M s0 p0) :
    Kept M s0 (@State.scanSeal p0 p1 p2) := by
  unfold State.scanSeal
  exact (Kept.ite (State.sealBlock_kept (hm.mono rfl) h0_) (Kept.ite (Kept.ite (State.sealBlock_kept (hm.mono rfl) h0_) (Kept.ite (State.sealBlock_kept (hm.mono rfl) h0_) h0_)) h0_))

theorem State.launch_kept {M : Nat} {s0 : State} {p0 : State} {p1 : Nat} {p2 : Slot} (hm : Msub 40564824156343414895284297138188 M) (h0_ : Kept M s0 p0) :
    Kept M s0 (@State.launch p0 p1 p2) := by
  unfold State.launch
  extract_lets -underBinder -merge v1 v2 v3 v4 v5
  try clear_value v1
  have h6 : Kept M s0 v2 := (State.setSlot_kept (hm.mono rfl) h0_)
  try clear_value v2
  have h7 : Kept M s0 v3 := (State.setProg_kept (hm.mono rfl) h6)
  try clear_value v3
  have h8 : Kept M s0 v4 := (State.modPartX_kept (hm.mono rfl) h7)
  try clear_value v4
  have h9 : Kept M s0 v5 := (Kept.ite (State.bump_kept (hm.mono rfl) h8 (lchPage_has (hm.has rfl) (hm.has rfl))) h8)
  try clear_value v5
  exact (Kept.each h9 (fun x10 x11 h12 =>
    (State.coreSync_kept (hm.mono rfl) (State.setSeq_kept (hm.mono rfl) h12))))

theorem State.scanOne_kept {M : Nat} {s0 : State} {p0 : State × List Nat} {p1 : Nat} (hm : Msub 42540528726804689299326456805353066908 M) (h0_ : Kept M s0 p0.1) :
    Kept M s0 (@State.scanOne p0 p1).1 := by
  unfold State.scanOne
  split
  · rename_i x1 x2
    have Hx1 : Kept M s0 x1 := h0_
    extract_lets -underBinder -merge v4 v5 v6
    try clear_value v4
    try clear_value v5
    try clear_value v6
    split
    · extract_lets -underBinder -merge v8
      have h9 : Kept M s0 v8 := (State.scanSeal_kept (hm.mono rfl) (State.setSlot_kept (hm.mono rfl) Hx1))
      try clear_value v8
      exact (Kept.pairMk (State.complete_kept (hm.mono rfl) h9))
    · extract_lets -underBinder -merge v11
      try clear_value v11
      exact (Kept.ite1 (Kept.pairMk (State.setSlot_kept (hm.mono rfl) Hx1)) (Kept.pairMk (State.launch_kept (hm.mono rfl) Hx1)))

theorem State.launchScan_kept {M : Nat} {s0 : State} {p0 : State} (hm : Msub 42540528726804689299326456805355164060 M) (h0_ : Kept M s0 p0) :
    Kept M s0 (@State.launchScan p0) := by
  unfold State.launchScan
  extract_lets -underBinder -merge v1 v2 v3 v4 v5 v6 v7
  try clear_value v2
  try clear_value v3
  try clear_value v4
  have h11 : Kept M s0 v5 := (Kept.each h0_ (fun x8 x9 h10 =>
    (State.setSlot_kept (hm.mono rfl) h10)))
  try clear_value v5
  try clear_value v6
  have h15 : Kept M s0 v7 := (Kept.foldl1 (Kept.pairMk h11) (fun x12 x14 h13 =>
    (State.scanOne_kept (hm.mono rfl) h13)))
  try clear_value v7
  exact (State.bindActions_kept (hm.mono rfl) (State.lchSync_kept (hm.mono rfl) (State.lchSync_kept (hm.mono rfl) h15)))

theorem State.scanSkip_kept {M : Nat} {s0 : State} {p0 : State} {p1 : Nat} {p2 : Nat} (hm : Msub 37778931862957161709568 M) (h0_ : Kept M s0 p0) :
    Kept M s0 (@State.scanSkip p0 p1 p2) := by
  unfold State.scanSkip
  exact (Kept.each h0_ (fun x1 x2 h3 =>
    (Kept.ite (State.setSlot_kept (hm.mono rfl) h3) h3)))

theorem execProgramComplete_kept {M : Nat} {s0 : State} {p0 : Nat} {p1 : State} (hm : Msub 88269051556491462261792022745583772 M) (h1_ : Kept M s0 p1) :
    KeptO M s0 (@execProgramComplete p0 p1) := by
  unfold execProgramComplete
  extract_lets -underBinder -merge v1 v2 v3 v4 v5 v6 v7
  try clear_value v1
  try clear_value v2
  try clear_value v3
  try clear_value v4
  have h8 : Kept M s0 v5 := (Kept.upd_outst_taps (hm.mono rfl) h1_)
  try clear_value v5
  have h12 : Kept M s0 v6 := (Kept.each h8 (fun x9 x10 h11 =>
    (State.coreSync_kept (hm.mono rfl) (State.setSeq_kept (hm.mono rfl) h11))))
  try clear_value v6
  have h13 : Kept M s0 v7 := (State.setProg_kept (hm.mono rfl) h12)
  try clear_value v7
  exact (KeptO.ite (KeptO.next (State.bindActions_kept (hm.mono rfl) (State.lchSync_kept (hm.mono rfl) (State.complete_kept (hm.mono rfl) h13)))) (KeptO.next h1_))

theorem State.cplCons_kept {M : Nat} {s0 : State} {p0 : State} {p1 : Bool} {p2 : Nat} (hm : Msub 5192296863262801921598549246611612 M) (h0_ : Kept M s0 p0) :
    Kept M s0 (@State.cplCons p0 p1 p2) := by
  unfold State.cplCons
  extract_lets -underBinder -merge v1 v2 v3 v4 v5 v6 v7 v8
  try clear_value v2
  try clear_value v3
  try clear_value v4
  try clear_value v5
  try clear_value v6
  have h9 : Kept M s0 v7 := (State.setFld_kept (hm.mono rfl) h0_ (Page.has_ite (hm.has (k := 2) rfl) (hm.has (k := 3) rfl)))
  try clear_value v7
  have h10 : Kept M s0 v8 := (Kept.ite (Kept.upd_usedH (hm.mono rfl) (fun _ => Nat.min_le_left 4096 _) h9) (Kept.upd_usedM (hm.mono rfl) (fun _ => Nat.min_le_left 4096 _) h9))
  try clear_value v8
  exact (State.lchSync_kept (hm.mono rfl) (State.releaseHeld_kept (hm.mono rfl) h10))

theorem execCplConsWrite_kept {M : Nat} {s0 : State} {p0 : Master} {p1 : Bool} {p2 : Sys2Proof.Word} {p3 : State} (hm : Msub 5192296863272246654564288537039005 M) (h3_ : Kept M s0 p3) :
    KeptO M s0 (@execCplConsWrite p0 p1 p2 p3) := by
  unfold execCplConsWrite
  exact (KeptO.next (State.gated_kept (hm.mono rfl) h3_ (fun x1 h2 =>
    (State.cplCons_kept (hm.mono rfl) h2))))

end Sys2Proof.Machine
end

