-- ==== Sys2Proof/Laws/FrameFabricOps.lean ====
section
/-! SUPPORT. What the operations and meanings of Machine/FabricOps.lean can change: one frame lemma per definition. -/
namespace Sys2Proof.Machine

theorem State.ringMove_kept {M : Nat} {s0 : State} {p0 : State} {p1 : Nat} {p2 : Nat} {p3 : Nat} (hm : Msub 5192316665581064005024408651436176 M) (h0_ : Kept M s0 p0) :
    Kept M s0 (@State.ringMove p0 p1 p2 p3) := by
  unfold State.ringMove
  extract_lets -underBinder -merge v1 v2 v3 v4 v5 v6
  have h7 : Kept M s0 v1 := (State.steerDrop_kept (hm.mono rfl) h0_)
  try clear_value v1
  have h8 : Kept M s0 v2 := (State.setRingF_kept (hm.mono rfl) h7)
  try clear_value v2
  have h9 : Kept M s0 v3 := (State.setRingF_kept (hm.mono rfl) h8)
  try clear_value v3
  have h10 : Kept M s0 v4 := (State.setRingF_kept (hm.mono rfl) h9)
  try clear_value v4
  have h11 : Kept M s0 v5 := (State.setRingF_kept (hm.mono rfl) h10)
  try clear_value v5
  have h12 : Kept M s0 v6 := (State.bump_kept (hm.mono rfl) (State.bump_kept (hm.mono rfl) h11 (hm.has (k := 46) rfl)) (hm.has (k := 46) rfl))
  try clear_value v6
  exact (State.holdPair_kept (hm.mono rfl) (State.modRing_kept (hm.mono rfl) h12))

theorem State.laneRests_kept {M : Nat} {s0 : State} {p0 : State} {p1 : Nat} {p2 : Nat} (hm : Msub 5196111570771493338202960969142416 M) (h0_ : Kept M s0 p0) :
    Kept M s0 (@State.laneRests p0 p1 p2) := by
  unfold State.laneRests
  exact (Kept.ite h0_ (Kept.ite (State.laneLeave_kept (hm.mono rfl) (State.setLaneSt_kept (hm.mono rfl) h0_)) (Kept.ite (State.setLaneSt_kept (hm.mono rfl) h0_) h0_)))

theorem State.ringLeave_kept {M : Nat} {s0 : State} {p0 : State} {p1 : Nat} {p2 : Nat} {p3 : Nat} (hm : Msub 5196131377812121904357728099307664 M) (h0_ : Kept M s0 p0) :
    Kept M s0 (@State.ringLeave p0 p1 p2 p3) := by
  unfold State.ringLeave
  extract_lets -underBinder -merge v1 v2 v3 v4 v5 v6
  try clear_value v1
  try clear_value v2
  try clear_value v3
  have h7 : Kept M s0 v4 := (Kept.ite (State.keepCodes_kept (hm.mono rfl) h0_) h0_)
  try clear_value v4
  have h8 : Kept M s0 v5 := (State.replayOn_kept (hm.mono rfl) (State.ringMove_kept (hm.mono rfl) h7))
  try clear_value v5
  have h12 : Kept M s0 v6 := (Kept.each h8 (fun x9 x10 h11 =>
    (State.laneRests_kept (hm.mono rfl) h11)))
  try clear_value v6
  exact (Kept.ite (State.portSync_kept (hm.mono rfl) h12) (State.portSync_kept (hm.mono rfl) (State.bundleSync_kept (hm.mono rfl) h12)))

theorem State.putFlit_kept {M : Nat} {s0 : State} {p0 : State} {p1 : Nat} {p2 : Nat} {p3 : Nat} {p4 : Flit} {p5 : Nat} (hm : Msub 3094850393361367136594821120 M) (h0_ : Kept M s0 p0) :
    Kept M s0 (@State.putFlit p0 p1 p2 p3 p4 p5) := by
  unfold State.putFlit
  extract_lets -underBinder -merge v1 v2 v3 v4 v5 v6 v7 v8 v9
  try clear_value v1
  try clear_value v2
  try clear_value v3
  try clear_value v4
  try clear_value v5
  try clear_value v6
  have h10 : Kept M s0 v7 := (State.setBundle_kept (hm.mono rfl) h0_)
  try clear_value v7
  have h11 : Kept M s0 v8 := (State.setFld_kept (hm.mono rfl) h10 (hm.has (k := 43) rfl))
  try clear_value v8
  try clear_value v9
  split
  · split
    · extract_lets -underBinder -merge v16 v17
      have h18 : Kept M s0 v16 := (Kept.upd_ports (hm.mono rfl) h11)
      try clear_value v16
      have h19 : Kept M s0 v17 := (State.bumpBy_kept (hm.mono rfl) (State.bumpBy_kept (hm.mono rfl) h18 (hm.has (k := 38) rfl)) (hm.has (k := 41) rfl))
      try clear_value v17
      exact (State.replayOcc_kept (hm.mono rfl) (State.bndSeqSync_kept (hm.mono rfl) (State.emit_kept (hm.mono rfl) h19)))

theorem State.place_kept {M : Nat} {s0 : State} {p0 : State} {p1 : Nat} {p2 : Nat} {p3 : Nat} (hm : Msub 5196112808711532623582686112452752 M) (h0_ : Kept M s0 p0) :
    Kept M s0 (@State.place p0 p1 p2 p3) := by
  unfold State.place
  extract_lets -underBinder -merge v1 v2
  try clear_value v1
  have h3 : Kept M s0 v2 := (State.emit_kept (hm.mono rfl) h0_)
  try clear_value v2
  exact (Kept.ite h3 (by
    split
    · split
      · extract_lets -underBinder -merge v6
        try clear_value v6
        exact (State.replayed_kept (hm.mono rfl) (State.emit_kept (hm.mono rfl) (State.setBundle_kept (hm.mono rfl) h0_)))
      · exact h0_
    · exact (Kept.ite h3 (by
        split
        · exact h3
        · split
          · exact h0_
          · exact (State.putFlit_kept (hm.mono rfl) (State.setBundle_kept (hm.mono rfl) h0_))))))

theorem State.steerLoss_kept {M : Nat} {s0 : State} {p0 : State} {p1 : Nat} (hm : Msub 5192296858540435438869641521270928 M) (h0_ : Kept M s0 p0) :
    Kept M s0 (@State.steerLoss p0 p1) := by
  unfold State.steerLoss
  exact (Kept.each h0_ (fun x1 x2 h3 =>
    (by
      split
      · exact h3
      · exact (State.event_kept (hm.mono rfl) (Kept.each h3 (fun x7 x8 h9 =>
          (State.setFld_kept (hm.mono rfl) h9 (hm.has (k := 47) rfl))))))))

theorem State.attach_kept {M : Nat} {s0 : State} {p0 : State} {p1 : Nat} {p2 : List (Nat × Nat)} (hm : Msub 5192317903521103290405233306374288 M) (h0_ : Kept M s0 p0) :
    Kept M s0 (@State.attach p0 p1 p2) := by
  unfold State.attach
  extract_lets -underBinder -merge v1 v2 v3
  try clear_value v1
  have h4 : Kept M s0 v2 := (State.steerLoss_kept (hm.mono rfl) h0_)
  try clear_value v2
  have h17 : Kept M s0 v3 := (Kept.each h4 (fun x5 x6 h7 =>
    (by
      split
      · exact (State.setRingF_kept (hm.mono rfl) h7)
      · extract_lets -underBinder -merge v11 v12 v13
        have h14 : Kept M s0 v11 := (Kept.ite h7 (State.modLane_kept (hm.mono rfl) (State.bump_kept (hm.mono rfl) (State.setRingF_kept (hm.mono rfl) h7) (hm.has (k := 46) rfl))))
        try clear_value v11
        have h15 : Kept M s0 v12 := (State.setFld_kept (hm.mono rfl) h14 (hm.has (k := 39) rfl))
        try clear_value v12
        have h16 : Kept M s0 v13 := (State.setFld_kept (hm.mono rfl) h15 (hm.has (k := 39) rfl))
        try clear_value v13
        exact (State.modRing_kept (hm.mono rfl) h16))))
  try clear_value v3
  exact (Kept.each h17 (fun x18 x19 h20 =>
    (by
      extract_lets -underBinder -merge v21 v22
      try clear_value v21
      try clear_value v22
      exact (State.setFld_kept (hm.mono rfl) h20 (hm.has (k := 47) rfl)))))

theorem State.ringNotice_kept {M : Nat} {s0 : State} {p0 : State} {p1 : Nat} {p2 : Nat} {p3 : Nat} (hm : Msub 10522490333925732336642555904 M) (h0_ : Kept M s0 p0) :
    Kept M s0 (@State.ringNotice p0 p1 p2 p3) := by
  unfold State.ringNotice
  extract_lets -underBinder -merge v1
  try clear_value v1
  exact (State.sendBundle_kept (hm.mono rfl) h0_)

theorem State.ringReplace_kept {M : Nat} {s0 : State} {p0 : State} {p1 : Nat} {p2 : Nat} (hm : Msub 5196170991893379036526524871282832 M) (h0_ : Kept M s0 p0) :
    Kept M s0 (@State.ringReplace p0 p1 p2) := by
  unfold State.ringReplace
  extract_lets -underBinder -merge v1 v2 v3 v4 v5 v6 v7 v8 v9 v10 v11 v12 v13 v14 v15
  try clear_value v1
  try clear_value v2
  try clear_value v3
  try clear_value v4
  try clear_value v5
  try clear_value v6
  try clear_value v7
  have h16 : Kept M s0 v8 := (State.bump_kept (hm.mono rfl) h0_ (hm.has (k := 47) rfl))
  try clear_value v8
  try clear_value v9
  try clear_value v10
  have h17 : Kept M s0 v11 := (Kept.ite (State.event_kept (hm.mono rfl) (State.bump_kept (hm.mono rfl) h16 (hm.has (k := 47) rfl))) h16)
  try clear_value v11
  have h18 : Kept M s0 v12 := (State.ringMove_kept (hm.mono rfl) h17)
  try clear_value v12
  try clear_value v13
  have h19 : Kept M s0 v14 := (State.modEng_kept (hm.mono rfl) h18)
  try clear_value v14
  have h20 : Kept M s0 v15 := (State.modRing_kept (hm.mono rfl) h19)
  try clear_value v15
  exact (Kept.ite h0_ (by
    split
    · extract_lets -underBinder -merge v22 v23 v24 v25
      have h26 : Kept M s0 v22 := (Kept.ite (State.holdPair_kept (hm.mono rfl) (State.setRingLine_kept (hm.mono rfl) (State.ringLeave_kept (hm.mono rfl) h20))) (State.ringMove_kept (hm.mono rfl) (State.setRingLine_kept (hm.mono rfl) h20)))
      try clear_value v22
      have h27 : Kept M s0 v23 := (State.setRingF_kept (hm.mono rfl) h26)
      try clear_value v23
      have h28 : Kept M s0 v24 := (State.setRingF_kept (hm.mono rfl) h27)
      try clear_value v24
      have h29 : Kept M s0 v25 := (State.modRing_kept (hm.mono rfl) h28)
      try clear_value v25
      exact (State.replayOn_kept (hm.mono rfl) h29)
    · extract_lets -underBinder -merge v31
      have h32 : Kept M s0 v31 := (Kept.ite h20 (State.laneRests_kept (hm.mono rfl) (State.replayOn_kept (hm.mono rfl) h20)))
      try clear_value v31
      split
      · exact (State.laneFail_kept (hm.mono rfl) h32)
      · exact (State.portSync_kept (hm.mono rfl) (State.bundleSync_kept (hm.mono rfl) h32))))

theorem State.declare__kept {M : Nat} {s0 : State} {p0 : State} {p1 : Nat} {p2 : Nat} {p3 : Nat} {p4 : Nat} (hm : Msub 5196170991893379036526524871282832 M) (h0_ : Kept M s0 p0) :
    Kept M s0 (@State.declare_ p0 p1 p2 p3 p4) := by
  unfold State.declare_
  extract_lets -underBinder -merge v1 v2 v3 v4
  try clear_value v1
  have h5 : Kept M s0 v2 := (State.event_kept (hm.mono rfl) h0_)
  try clear_value v2
  have h6 : Kept M s0 v3 := (State.bump_kept (hm.mono rfl) h5 (hm.has (k := 46) rfl))
  try clear_value v3
  have h7 : Kept M s0 v4 := (Kept.ite h6 (State.ringNotice_kept (hm.mono rfl) h6))
  try clear_value v4
  exact (Kept.ite h5 (State.ringReplace_kept (hm.mono rfl) h7))

theorem State.laneFault_kept {M : Nat} {s0 : State} {p0 : State} {p1 : Nat} {p2 : Nat} {p3 : Nat} (hm : Msub 5196170991893379036526524871282832 M) (h0_ : Kept M s0 p0) :
    Kept M s0 (@State.laneFault p0 p1 p2 p3) := by
  unfold State.laneFault
  exact (Kept.ite (State.laneFail_kept (hm.mono rfl) h0_) (by
    split
    · exact (State.ringReplace_kept (hm.mono rfl) h0_)
    · exact (State.laneFail_kept (hm.mono rfl) h0_)))

theorem State.classRefuse_kept {M : Nat} {s0 : State} {p0 : State} {p1 : Nat} {p2 : Nat} (hm : Msub 5196131377812121904357728099307664 M) (h0_ : Kept M s0 p0) :
    Kept M s0 (@State.classRefuse p0 p1 p2) := by
  unfold State.classRefuse
  extract_lets -underBinder -merge v1 v2 v3 v4 v5 v6
  try clear_value v1
  try clear_value v2
  have h7 : Kept M s0 v3 := (State.setRingF_kept (hm.mono rfl) (State.steerDrop_kept (hm.mono rfl) h0_))
  try clear_value v3
  have h8 : Kept M s0 v4 := (State.modRing_kept (hm.mono rfl) (State.setRingF_kept (hm.mono rfl) h7))
  try clear_value v4
  have h9 : Kept M s0 v5 := (State.event_kept (hm.mono rfl) h8)
  try clear_value v5
  have h12 : Kept M s0 v6 := by
    try dsimp -zeta only [v6]
    split
    · exact (State.laneRests_kept (hm.mono rfl) h9)
    · exact h9
  try clear_value v6
  exact (Kept.ite h12 (State.portSync_kept (hm.mono rfl) (State.bundleSync_kept (hm.mono rfl) h12)))

theorem State.ringStrike_kept {M : Nat} {s0 : State} {p0 : State} {p1 : Nat} {p2 : Nat} (hm : Msub 5192316665581064004813302418903184 M) (h0_ : Kept M s0 p0) :
    Kept M s0 (@State.ringStrike p0 p1 p2) := by
  unfold State.ringStrike
  extract_lets -underBinder -merge v1 v2 v3 v4 v5
  try clear_value v1
  try clear_value v2
  try clear_value v3
  try clear_value v4
  have h6 : Kept M s0 v5 := (State.modRing_kept (hm.mono rfl) h0_)
  try clear_value v5
  exact (Kept.ite h6 (Kept.ite (State.event_kept (hm.mono rfl) (State.modRing_kept (hm.mono rfl) h6)) (State.event_kept (hm.mono rfl) (State.modRing_kept (hm.mono rfl) h6))))

theorem State.ringTrainFail_kept {M : Nat} {s0 : State} {p0 : State} {p1 : Nat} {p2 : Nat} {p3 : Nat} {p4 : Bool} (hm : Msub 5192317903521103290194401951748240 M) (h0_ : Kept M s0 p0) :
    Kept M s0 (@State.ringTrainFail p0 p1 p2 p3 p4) := by
  unfold State.ringTrainFail
  split
  · exact (State.trainFail_kept (hm.mono rfl) h0_)
  · extract_lets -underBinder -merge v3 v4
    have h5 : Kept M s0 v3 := (State.event_kept (hm.mono rfl) h0_)
    try clear_value v3
    have h6 : Kept M s0 v4 := (Kept.ite (State.event_kept (hm.mono rfl) h5) (Kept.ite (State.event_kept (hm.mono rfl) h5) h5))
    try clear_value v4
    exact (State.ringStrike_kept (hm.mono rfl) h6)

theorem State.retrainEdge_kept {M : Nat} {s0 : State} {p0 : State} (hm : Msub 5192317903521103290194401951748240 M) (h0_ : Kept M s0 p0) :
    Kept M s0 (@State.retrainEdge p0) := by
  unfold State.retrainEdge
  exact (Kept.each h0_ (fun x1 x2 h3 =>
    (by
      extract_lets -underBinder -merge v4 v5
      try clear_value v4
      try clear_value v5
      exact (Kept.ite h3 (Kept.ite (State.modRing_kept (hm.mono rfl) h3) (Kept.ite (State.ringTrainFail_kept (hm.mono rfl) h3) h3))))))

theorem State.ringTo_kept {M : Nat} {s0 : State} {p0 : State} {p1 : Nat} {p2 : Nat} {p3 : RingEntry} (hm : Msub 5196131377812121904357728099307664 M) (h0_ : Kept M s0 p0) :
    Kept M s0 (@State.ringTo p0 p1 p2 p3) := by
  unfold State.ringTo
  extract_lets -underBinder -merge v1 v2 v3 v4 v5
  try clear_value v1
  have h6 : Kept M s0 v2 := (State.ringLeave_kept (hm.mono rfl) h0_)
  try clear_value v2
  have h7 : Kept M s0 v3 := (Kept.ite (State.setRingPark_kept (hm.mono rfl) h6) (State.setRingLine_kept (hm.mono rfl) h6))
  try clear_value v3
  have h8 : Kept M s0 v4 := (State.setRingF_kept (hm.mono rfl) h7)
  try clear_value v4
  have h9 : Kept M s0 v5 := (State.setRingF_kept (hm.mono rfl) h8)
  try clear_value v5
  exact (State.holdPair_kept (hm.mono rfl) (State.modRing_kept (hm.mono rfl) h9))

theorem State.settlePort_kept {M : Nat} {s0 : State} {p0 : State} {p1 : Nat} (hm : Msub 5196111570771493338484435945853072 M) (h0_ : Kept M s0 p0) :
    Kept M s0 (@State.settlePort p0 p1) := by
  unfold State.settlePort
  extract_lets -underBinder -merge v1 v2 v3 v4
  try clear_value v1
  try clear_value v2
  have h5 : Kept M s0 v3 := (State.setFld_kept (hm.mono rfl) h0_ (hm.has (k := 48) rfl))
  try clear_value v3
  have h6 : Kept M s0 v4 := (Kept.ite (State.event_kept (hm.mono rfl) h5) (State.event_kept (hm.mono rfl) (State.setFld_kept (hm.mono rfl) h5 (hm.has (k := 48) rfl))))
  try clear_value v4
  exact (State.opticalDown_kept (hm.mono rfl) h6)

theorem State.planSettle_kept {M : Nat} {s0 : State} {p0 : State} (hm : Msub 5196111570771493338484435945853072 M) (h0_ : Kept M s0 p0) :
    Kept M s0 (@State.planSettle p0) := by
  unfold State.planSettle
  extract_lets -underBinder -merge v1 v2 v3 v4 v5
  try clear_value v1
  have h6 : Kept M s0 v2 := (Kept.upd_plan (hm.mono rfl) h0_)
  try clear_value v2
  try clear_value v3
  have h10 : Kept M s0 v4 := (Kept.each h6 (fun x7 x8 h9 =>
    (State.settlePort_kept (hm.mono rfl) h9)))
  try clear_value v4
  have h11 : Kept M s0 v5 := (Kept.ite (State.setFld_kept (hm.mono rfl) h10 (hm.has (k := 48) rfl)) h10)
  try clear_value v5
  exact (Kept.ite (State.event_kept (hm.mono rfl) h11) h0_)

theorem State.planActivate_kept {M : Nat} {s0 : State} {p0 : State} (hm : Msub 5196133853692200475399752874266768 M) (h0_ : Kept M s0 p0) :
    Kept M s0 (@State.planActivate p0) := by
  unfold State.planActivate
  extract_lets -underBinder -merge v1 v2 v3 v4 v5 v6 v7 v8 v9 v10 v11 v12 v13 v14 v15
  have h16 : Kept M s0 v1 := (State.planSettle_kept (hm.mono rfl) h0_)
  try clear_value v1
  try clear_value v2
  try clear_value v3
  try clear_value v4
  try clear_value v5
  have h17 : Kept M s0 v6 := (Kept.upd_plan (hm.mono rfl) h16)
  try clear_value v6
  have h18 : Kept M s0 v7 := (State.setFld_kept (hm.mono rfl) h17 (hm.has (k := 48) rfl))
  try clear_value v7
  have h19 : Kept M s0 v8 := (State.setFld_kept (hm.mono rfl) h18 (hm.has (k := 48) rfl))
  try clear_value v8
  have h20 : Kept M s0 v9 := (State.setFld_kept (hm.mono rfl) h19 (hm.has (k := 48) rfl))
  try clear_value v9
  have h21 : Kept M s0 v10 := (State.setFld64_kept (hm.mono rfl) h20 (hm.has (k := 48) rfl))
  try clear_value v10
  have h22 : Kept M s0 v11 := (State.setFld_kept (hm.mono rfl) (State.setFld_kept (hm.mono rfl) h21 (hm.has (k := 48) rfl)) (hm.has (k := 48) rfl))
  try clear_value v11
  have h23 : Kept M s0 v12 := (State.event_kept (hm.mono rfl) (State.bump_kept (hm.mono rfl) h22 (hm.has (k := 48) rfl)))
  try clear_value v12
  try clear_value v13
  have h27 : Kept M s0 v14 := (Kept.each h23 (fun x24 x25 h26 =>
    (Kept.upd_ports (hm.mono rfl) h26)))
  try clear_value v14
  have h34 : Kept M s0 v15 := (Kept.each h27 (fun x28 x29 h30 =>
    (Kept.each h30 (fun x31 x32 h33 =>
      (State.ringTo_kept (hm.mono rfl) h33)))))
  try clear_value v15
  exact (Kept.each h34 (fun x35 x36 h37 =>
    (State.steerLoss_kept (hm.mono rfl) h37)))

theorem State.portStart_kept {M : Nat} {s0 : State} {p0 : State} {p1 : Nat} (hm : Msub 5196133853692200475118277897556112 M) (h0_ : Kept M s0 p0) :
    Kept M s0 (@State.portStart p0 p1) := by
  unfold State.portStart
  extract_lets -underBinder -merge v1 v2
  have h3 : Kept M s0 v1 := (Kept.upd_ports (hm.mono rfl) h0_)
  try clear_value v1
  have h4 : Kept M s0 v2 := (Kept.upd_ports (hm.mono rfl) h3)
  try clear_value v2
  exact (Kept.ite h0_ (Kept.ite (Kept.each h4 (fun x5 x6 h7 =>
    (by
      extract_lets -underBinder -merge v8
      try clear_value v8
      exact (Kept.ite h7 (State.ringTo_kept (hm.mono rfl) h7))))) h3))

theorem State.heldEdge_kept {M : Nat} {s0 : State} {p0 : State} (hm : Msub 5192319141461142575784958449684624 M) (h0_ : Kept M s0 p0) :
    Kept M s0 (@State.heldEdge p0) := by
  unfold State.heldEdge
  exact (Kept.each h0_ (fun x1 x2 h3 =>
    (Kept.ite (State.ringMove_kept (hm.mono rfl) (Kept.upd_ports (hm.mono rfl) h3)) h3)))

theorem State.lineChanged_kept {M : Nat} {s0 : State} {p0 : State} {p1 : Nat} {p2 : Nat} (hm : Msub 5196131377812121904357728099307664 M) (h0_ : Kept M s0 p0) :
    Kept M s0 (@State.lineChanged p0 p1 p2) := by
  unfold State.lineChanged
  exact (Kept.each h0_ (fun x1 x2 h3 =>
    (by
      extract_lets -underBinder -merge v4 v5 v6
      try clear_value v4
      try clear_value v5
      try clear_value v6
      exact (Kept.ite (State.ringLeave_kept (hm.mono rfl) (State.steerDrop_kept (hm.mono rfl) h3)) h3))))

end Sys2Proof.Machine
end

