-- ==== Sys2Proof/Laws/FramePartOps.lean ====
section
/-! SUPPORT. What the operations and meanings of Machine/PartOps.lean can change: one frame lemma per definition. -/
namespace Sys2Proof.Machine

theorem State.setPart_kept {M : Nat} {s0 : State} {p0 : State} {p1 : Nat} {p2 : Nat} (hm : Msub 5192296858540435438728904032981136 M) (h0_ : Kept M s0 p0) :
    Kept M s0 (@State.setPart p0 p1 p2) := by
  unfold State.setPart
  extract_lets -underBinder -merge v1
  try clear_value v1
  exact (State.event_kept (hm.mono rfl) (State.setFld_kept (hm.mono rfl) h0_ (hm.has (k := 16) rfl)))

theorem State.partReject_kept {M : Nat} {s0 : State} {p0 : State} {p1 : Nat} {p2 : Nat} (hm : Msub 5192296858540435438728904032981136 M) (h0_ : Kept M s0 p0) :
    Kept M s0 (@State.partReject p0 p1 p2) := by
  unfold State.partReject
  exact (State.event_kept (hm.mono rfl) (State.setFld_kept (hm.mono rfl) h0_ (hm.has (k := 16) rfl)))

theorem State.partHeldSync_kept {M : Nat} {s0 : State} {p0 : State} (hm : Msub 65536 M) (h0_ : Kept M s0 p0) :
    Kept M s0 (@State.partHeldSync p0) := by
  unfold State.partHeldSync
  exact (State.setFld_kept (hm.mono rfl) h0_ (hm.has (k := 16) rfl))

theorem State.endPrograms_kept {M : Nat} {s0 : State} {p0 : State} {p1 : Nat} {p2 : Nat → Prog → Bool} (hm : Msub 4911261142184432632856576 M) (h0_ : Kept M s0 p0) :
    Kept M s0 (@State.endPrograms p0 p1 p2) := by
  unfold State.endPrograms
  exact (Kept.each h0_ (fun x1 x2 h3 =>
    (State.endProgram_kept (hm.mono rfl) h3)))

theorem State.ctxCountSync_kept {M : Nat} {s0 : State} {p0 : State} (hm : Msub 131072 M) (h0_ : Kept M s0 p0) :
    Kept M s0 (@State.ctxCountSync p0) := by
  unfold State.ctxCountSync
  exact (State.setFld_kept (hm.mono rfl) h0_ (hm.has (k := 17) rfl))

theorem State.ctxTear_kept {M : Nat} {s0 : State} {p0 : State} {p1 : Nat} (hm : Msub 46730676760861727206014727764447376 M) (h0_ : Kept M s0 p0) :
    Kept M s0 (@State.ctxTear p0 p1) := by
  unfold State.ctxTear
  extract_lets -underBinder -merge v1 v2 v3 v4 v5 v6 v7
  try clear_value v1
  have h8 : Kept M s0 v2 := (State.setFld_kept (hm.mono rfl) h0_ (hm.has (k := 17) rfl))
  try clear_value v2
  have h9 : Kept M s0 v3 := (State.setFld_kept (hm.mono rfl) h8 (hm.has (k := 17) rfl))
  try clear_value v3
  have h10 : Kept M s0 v4 := (State.setFld_kept (hm.mono rfl) h9 (hm.has (k := 17) rfl))
  try clear_value v4
  have h11 : Kept M s0 v5 := (State.endPrograms_kept (hm.mono rfl) h10)
  try clear_value v5
  have h15 : Kept M s0 v6 := (Kept.each h11 (fun x12 x13 h14 =>
    (State.nmuTeardown_kept (hm.mono rfl) h14)))
  try clear_value v6
  have h16 : Kept M s0 v7 := (Kept.upd_outst (hm.mono rfl) h15)
  try clear_value v7
  exact (State.ctxCountSync_kept (hm.mono rfl) (State.collPurge_kept (hm.mono rfl) (State.rcrContext_kept (hm.mono rfl) h16)))

theorem State.ctxIdle_kept {M : Nat} {s0 : State} {p0 : State} {p1 : Nat} (hm : Msub 131072 M) (h0_ : Kept M s0 p0) :
    Kept M s0 (@State.ctxIdle p0 p1) := by
  unfold State.ctxIdle
  exact (State.ctxCountSync_kept (hm.mono rfl) (State.setFld_kept (hm.mono rfl) h0_ (hm.has (k := 17) rfl)))

theorem State.yoyoSend_kept {M : Nat} {s0 : State} {p0 : State} {p1 : List Nat} {p2 : optParam Bool false} {p3 : optParam Bool false} {p4 : optParam Nat 0} (hm : Msub 10522490333925732336642555904 M) (h0_ : Kept M s0 p0) :
    Kept M s0 (@State.yoyoSend p0 p1 p2 p3 p4) := by
  unfold State.yoyoSend
  extract_lets -underBinder -merge v1
  try clear_value v1
  exact (Kept.each h0_ (fun x2 x3 h4 =>
    (State.sendBundle_kept (hm.mono rfl) h4)))

theorem State.modLine_kept {M : Nat} {s0 : State} {p0 : State} {p1 : Nat} {p2 : Nat} {p3 : LineX → LineX} (hm : Msub 81129638414606681695789005144064 M) (h0_ : Kept M s0 p0) :
    Kept M s0 (@State.modLine p0 p1 p2 p3) := by
  unfold State.modLine
  exact (Kept.upd_lineXs (hm.mono rfl) h0_)

theorem State.setLine_kept {M : Nat} {s0 : State} {p0 : State} {p1 : Nat} {p2 : Nat} {p3 : Nat} {p4 : Nat} (hm : Msub 5277261016226728586053517104713872 M) (h0_ : Kept M s0 p0) :
    Kept M s0 (@State.setLine p0 p1 p2 p3 p4) := by
  unfold State.setLine
  extract_lets -underBinder -merge v1 v2 v3 v4 v5
  try clear_value v1
  have h6 : Kept M s0 v2 := (State.setFld_kept (hm.mono rfl) h0_ (hm.has (k := 18) rfl))
  try clear_value v2
  have h7 : Kept M s0 v3 := (State.setFld_kept (hm.mono rfl) h6 (hm.has (k := 18) rfl))
  try clear_value v3
  have h8 : Kept M s0 v4 := (State.setFld_kept (hm.mono rfl) h7 (hm.has (k := 18) rfl))
  try clear_value v4
  have h9 : Kept M s0 v5 := (State.modLine_kept (hm.mono rfl) h8)
  try clear_value v5
  exact (State.lineChanged_kept (hm.mono rfl) h9)

theorem State.lineSend_kept {M : Nat} {s0 : State} {p0 : State} {p1 : Nat} {p2 : Nat} {p3 : Nat} {p4 : Nat} {p5 : Nat} {p6 : Nat} {p7 : Nat} (hm : Msub 5196110332831454052672327854919824 M) (h0_ : Kept M s0 p0) :
    Kept M s0 (@State.lineSend p0 p1 p2 p3 p4 p5 p6 p7) := by
  unfold State.lineSend
  split
  · exact (State.sendMg_kept (hm.mono rfl) h0_)

theorem State.lineClaim_kept {M : Nat} {s0 : State} {p0 : State} {p1 : Nat} {p2 : Nat} {p3 : Nat} {p4 : Nat} (hm : Msub 5277261016226728586053517104713872 M) (h0_ : Kept M s0 p0) :
    Kept M s0 (@State.lineClaim p0 p1 p2 p3 p4) := by
  unfold State.lineClaim
  extract_lets -underBinder -merge v1 v2
  have h3 : Kept M s0 v1 := (State.setLine_kept (hm.mono rfl) h0_)
  try clear_value v1
  have h4 : Kept M s0 v2 := (State.setFld_kept (hm.mono rfl) h3 (hm.has (k := 18) rfl))
  try clear_value v2
  exact (State.event_kept (hm.mono rfl) (State.bump_kept (hm.mono rfl) h4 (hm.has (k := 18) rfl)))

theorem State.lineRefuse_kept {M : Nat} {s0 : State} {p0 : State} {p1 : Nat} {p2 : Nat} {p3 : Nat} (hm : Msub 5192296858540435438728904033177744 M) (h0_ : Kept M s0 p0) :
    Kept M s0 (@State.lineRefuse p0 p1 p2 p3) := by
  unfold State.lineRefuse
  extract_lets -underBinder -merge v1
  have h2 : Kept M s0 v1 := (State.setFld_kept (hm.mono rfl) h0_ (hm.has (k := 18) rfl))
  try clear_value v1
  exact (State.event_kept (hm.mono rfl) (State.bump_kept (hm.mono rfl) h2 (hm.has (k := 18) rfl)))

theorem State.lineRelease_kept {M : Nat} {s0 : State} {p0 : State} {p1 : Nat} {p2 : Nat} (hm : Msub 5439520293055941949445095115002000 M) (h0_ : Kept M s0 p0) :
    Kept M s0 (@State.lineRelease p0 p1 p2) := by
  unfold State.lineRelease
  extract_lets -underBinder -merge v1 v2 v3 v4
  try clear_value v1
  try clear_value v2
  have h5 : Kept M s0 v3 := (Kept.upd_lineTag (hm.mono rfl) h0_)
  try clear_value v3
  have h6 : Kept M s0 v4 := (State.modLine_kept (hm.mono rfl) (State.setLine_kept (hm.mono rfl) h5))
  try clear_value v4
  exact (Kept.ite (by
    split
    · exact (State.lineSend_kept (hm.mono rfl) h6)
    · exact h6) h0_)

theorem State.lineEdge_kept {M : Nat} {s0 : State} {p0 : State} (hm : Msub 5277239971246060734368116860063888 M) (h0_ : Kept M s0 p0) :
    Kept M s0 (@State.lineEdge p0) := by
  unfold State.lineEdge
  exact (Kept.each h0_ (fun x1 x2 h3 =>
    (by
      split
      · extract_lets -underBinder -merge v6 v7
        try clear_value v6
        have h8 : Kept M s0 v7 := (State.modLine_kept (hm.mono rfl) h3)
        try clear_value v7
        exact (Kept.ite (by
          split
          · exact (State.lineSend_kept (hm.mono rfl) h8)
          · exact h8) (Kept.ite (State.modLine_kept (hm.mono rfl) h3) h3)))))

theorem State.lineConfirm_kept {M : Nat} {s0 : State} {p0 : State} {p1 : Nat} {p2 : Nat} {p3 : Nat} (hm : Msub 262144 M) (h0_ : Kept M s0 p0) :
    Kept M s0 (@State.lineConfirm p0 p1 p2 p3) := by
  unfold State.lineConfirm
  extract_lets -underBinder -merge v1
  have h2 : Kept M s0 v1 := (State.setFld_kept (hm.mono rfl) h0_ (hm.has (k := 18) rfl))
  try clear_value v1
  exact (Kept.ite (State.setFld_kept (hm.mono rfl) h2 (hm.has (k := 18) rfl)) h0_)

theorem State.partClear_kept {M : Nat} {s0 : State} {p0 : State} {p1 : Nat} (hm : Msub 20809831481509183459539694492057599 M) (h0_ : Kept M s0 p0) :
    Kept M s0 (@State.partClear p0 p1) := by
  unfold State.partClear
  extract_lets -underBinder -merge v1 v2 v3 v4 v5 v6 v7 v8 v9 v10
  try clear_value v1
  have h11 : Kept M s0 v3 := (Kept.upd_regs_shadow (hm.mono rfl) (fun h => smWf_filter _ h) (fun h => smRises_filter _ _ _ h) h0_)
  try clear_value v3
  have h12 : Kept M s0 v4 := (State.setFld_kept (hm.mono rfl) h11 (hm.has (k := 42) rfl))
  try clear_value v4
  have h13 : Kept M s0 v5 := (Kept.upd_shadow (hm.mono rfl) (fun h => smRises_filter _ _ _ h) h12)
  try clear_value v5
  have h14 : Kept M s0 v6 := (State.setFld64_kept (hm.mono rfl) (State.setFld64_kept (hm.mono rfl) h13 (hm.has (k := 20) rfl)) (hm.has (k := 20) rfl))
  try clear_value v6
  have h15 : Kept M s0 v7 := (State.setFld64_kept (hm.mono rfl) (State.setFld64_kept (hm.mono rfl) h14 (hm.has (k := 35) rfl)) (hm.has (k := 35) rfl))
  try clear_value v7
  have h16 : Kept M s0 v8 := (State.setFld64_kept (hm.mono rfl) h15 (hm.has (k := 16) rfl))
  try clear_value v8
  have h17 : Kept M s0 v9 := (State.setFld64_kept (hm.mono rfl) (State.setFld64_kept (hm.mono rfl) h16 (hm.has (k := 16) rfl)) (hm.has (k := 16) rfl))
  try clear_value v9
  have h23 : Kept M s0 v10 := (Kept.each h17 (fun x18 x19 h20 =>
    (by
      extract_lets -underBinder -merge v21
      have h22 : Kept M s0 v21 := (State.setFld_kept (hm.mono rfl) h20 (hm.has (k := 41) rfl))
      try clear_value v21
      exact (Kept.upd_keys (hm.mono rfl) h22))))
  try clear_value v10
  exact (Kept.upd_parts_ct (hm.mono rfl) h23)

theorem State.keySync_kept {M : Nat} {s0 : State} {p0 : State} {p1 : Nat} (hm : Msub 272 M) (h0_ : Kept M s0 p0) :
    Kept M s0 (@State.keySync p0 p1) := by
  unfold State.keySync
  extract_lets -underBinder -merge v1 v2 v3 v4 v5 v6
  try clear_value v1
  try clear_value v2
  have h7 : Kept M s0 v3 := (State.setFld_kept (hm.mono rfl) h0_ (hm.has (k := 8) rfl))
  try clear_value v3
  have h8 : Kept M s0 v4 := (State.setFld_kept (hm.mono rfl) h7 (hm.has (k := 8) rfl))
  try clear_value v4
  have h9 : Kept M s0 v5 := (State.setFld_kept (hm.mono rfl) h8 (hm.has (k := 8) rfl))
  try clear_value v5
  have h10 : Kept M s0 v6 := (State.setFld_kept (hm.mono rfl) h9 (hm.has (k := 8) rfl))
  try clear_value v6
  exact (Kept.ite (State.setFld_kept (hm.mono rfl) h10 (hm.has (k := 4) rfl)) h10)

theorem State.partFreeCheck_kept {M : Nat} {s0 : State} {p0 : State} {p1 : Nat} (hm : Msub 26002603863767209394966694151061503 M) (h0_ : Kept M s0 p0) :
    Kept M s0 (@State.partFreeCheck p0 p1) := by
  unfold State.partFreeCheck
  extract_lets -underBinder -merge v1 v2 v3 v4
  try clear_value v1
  have h5 : Kept M s0 v2 := (State.setPart_kept (hm.mono rfl) (State.partClear_kept (hm.mono rfl) h0_))
  try clear_value v2
  have h6 : Kept M s0 v3 := (State.event_kept (hm.mono rfl) h5)
  try clear_value v3
  have h7 : Kept M s0 v4 := (State.partHeldSync_kept (hm.mono rfl) h6)
  try clear_value v4
  exact (Kept.ite (Kept.ite (State.keySync_kept (hm.mono rfl) (Kept.upd_jobKeys_decap (hm.mono rfl) h7)) (State.keySync_kept (hm.mono rfl) (Kept.upd_seals (hm.mono rfl) h0_))) h0_)

theorem State.lineFreed_kept {M : Nat} {s0 : State} {p0 : State} {p1 : Nat} {p2 : Nat} (hm : Msub 26087568021453502542063983193489407 M) (h0_ : Kept M s0 p0) :
    Kept M s0 (@State.lineFreed p0 p1 p2) := by
  unfold State.lineFreed
  extract_lets -underBinder -merge v1 v2
  try clear_value v1
  have h3 : Kept M s0 v2 := (State.event_kept (hm.mono rfl) (State.setLine_kept (hm.mono rfl) h0_))
  try clear_value v2
  exact (State.partFreeCheck_kept (hm.mono rfl) h3)

theorem State.zeroCluster_kept {M : Nat} {s0 : State} {p0 : State} {p1 : Nat} (hm : Msub 73786976294838206464 M) (h0_ : Kept M s0 p0) :
    Kept M s0 (@State.zeroCluster p0 p1) := by
  unfold State.zeroCluster
  extract_lets -underBinder -merge v1
  try clear_value v1
  exact (Kept.upd_mem (hm.mono rfl) (fun h => smWf_filter _ h) h0_)

theorem State.barrierMark_kept {M : Nat} {s0 : State} {p0 : State} {p1 : Nat} (hm : Msub 40575341697637266580231145127936 M) (h0_ : Kept M s0 p0) :
    Kept M s0 (@State.barrierMark p0 p1) := by
  unfold State.barrierMark
  extract_lets -underBinder -merge v1
  have h2 : Kept M s0 v1 := (State.yoyoSend_kept (hm.mono rfl) h0_)
  try clear_value v1
  exact (State.modPartX_kept (hm.mono rfl) h2)

theorem State.epDiscard_kept {M : Nat} {s0 : State} {p0 : State} {p1 : Nat} (hm : Msub 5516815412198862165512060054016144 M) (h0_ : Kept M s0 p0) :
    Kept M s0 (@State.epDiscard p0 p1) := by
  unfold State.epDiscard
  extract_lets -underBinder -merge v1
  have h2 : Kept M s0 v1 := (State.setFld_kept (hm.mono rfl) h0_ (hm.has (k := 19) rfl))
  try clear_value v1
  exact (Kept.ite (State.event_kept (hm.mono rfl) (Kept.upd_eps (hm.mono rfl) h2)) h0_)

theorem State.barrierStart_kept {M : Nat} {s0 : State} {p0 : State} {p1 : Nat} (hm : Msub 32753221836710822170984516923993977729170 M) (h0_ : Kept M s0 p0) :
    Kept M s0 (@State.barrierStart p0 p1) := by
  unfold State.barrierStart
  extract_lets -underBinder -merge v1 v2 v3 v4 v5 v6 v7 v8 v9
  have h10 : Kept M s0 v1 := (State.setFld_kept (hm.mono rfl) h0_ (hm.has (k := 16) rfl))
  try clear_value v1
  have h11 : Kept M s0 v2 := (State.setFld_kept (hm.mono rfl) h10 (hm.has (k := 16) rfl))
  try clear_value v2
  try clear_value v3
  try clear_value v4
  have h15 : Kept M s0 v5 := (Kept.each h11 (fun x12 x13 h14 =>
    (State.ctxTear_kept (hm.mono rfl) h14)))
  try clear_value v5
  have h16 : Kept M s0 v6 := (Kept.ite (State.snapAbort_kept (hm.mono rfl) h15) h15)
  try clear_value v6
  have h17 : Kept M s0 v7 := (State.epDiscard_kept (hm.mono rfl) h16)
  try clear_value v7
  have h18 : Kept M s0 v8 := (State.rcCancel_kept (hm.mono rfl) (State.ckAbort_kept (hm.mono rfl) h17))
  try clear_value v8
  have h19 : Kept M s0 v9 := (State.modPartX_kept (hm.mono rfl) h18)
  try clear_value v9
  exact (Kept.ite (State.barrierMark_kept (hm.mono rfl) h19) h19)

theorem State.barrierEnd_kept {M : Nat} {s0 : State} {p0 : State} {p1 : Nat} {p2 : Nat} (hm : Msub 5232861677747812566553093373890704 M) (h0_ : Kept M s0 p0) :
    Kept M s0 (@State.barrierEnd p0 p1 p2) := by
  unfold State.barrierEnd
  extract_lets -underBinder -merge v1 v2 v3 v4 v5 v6
  have h10 : Kept M s0 v1 := (Kept.each h0_ (fun x7 x8 h9 =>
    (State.ctxIdle_kept (hm.mono rfl) h9)))
  try clear_value v1
  have h11 : Kept M s0 v2 := (State.modPartX_kept (hm.mono rfl) h10)
  try clear_value v2
  have h12 : Kept M s0 v3 := (State.setFld_kept (hm.mono rfl) h11 (hm.has (k := 16) rfl))
  try clear_value v3
  have h13 : Kept M s0 v4 := (State.setFld_kept (hm.mono rfl) h12 (hm.has (k := 16) rfl))
  try clear_value v4
  try clear_value v5
  have h17 : Kept M s0 v6 := (Kept.ite h13 (Kept.each h13 (fun x14 x15 h16 =>
    (State.zeroCluster_kept (hm.mono rfl) h16))))
  try clear_value v6
  exact (State.setPart_kept (hm.mono rfl) h17)

end Sys2Proof.Machine
end

