-- ==== Sys2Proof/Laws/FrameEpoch.lean ====
section
/-! SUPPORT. What the operations and meanings of Machine/Epoch.lean can change: one frame lemma per definition. -/
namespace Sys2Proof.Machine

theorem State.imgRead_kept {M : Nat} {s0 : State} {p0 : State} (hm : Msub 524288 M) (h0_ : Kept M s0 p0) :
    Kept M s0 (@State.imgRead p0).1 := by
  unfold State.imgRead
  extract_lets -underBinder -merge v1 v2 v3
  try clear_value v1
  try clear_value v2
  try clear_value v3
  exact (Kept.pairMk (State.setFld_kept (hm.mono rfl) (State.setFld_kept (hm.mono rfl) h0_ (hm.has (k := 19) rfl)) (hm.has (k := 19) rfl)))

theorem execImgDataRead_kept {M : Nat} {s0 : State} {p0 : State} (hm : Msub 295147905179353350144 M) (h0_ : Kept M s0 p0) :
    KeptO M s0 (@execImgDataRead p0) := by
  unfold execImgDataRead
  exact (KeptO.next (State.hostReads_kept (hm.mono rfl) h0_ (fun x1 h2 =>
    (State.imgRead_kept (hm.mono rfl) h2))))

theorem State.modEp_kept {M : Nat} {s0 : State} {p0 : State} {p1 : Nat} {p2 : EpX → EpX} (hm : Msub 324518553658426726783156020576256 M) (h0_ : Kept M s0 p0) :
    Kept M s0 (@State.modEp p0 p1 p2) := by
  unfold State.modEp
  exact (Kept.upd_eps (hm.mono rfl) h0_)

theorem State.epActions_kept {M : Nat} {s0 : State} {p0 : State} {p1 : Nat} (hm : Msub 2097152 M) (h0_ : Kept M s0 p0) :
    Kept M s0 (@State.epActions p0 p1) := by
  unfold State.epActions
  extract_lets -underBinder -merge v1
  try clear_value v1
  exact (State.setFld_kept (hm.mono rfl) h0_ (hm.has (k := 21) rfl))

theorem State.epCtrl_kept {M : Nat} {s0 : State} {p0 : State} {p1 : Sys2Proof.Word} (hm : Msub 5516815412198862165512060056113296 M) (h0_ : Kept M s0 p0) :
    Kept M s0 (@State.epCtrl p0 p1) := by
  unfold State.epCtrl
  extract_lets -underBinder -merge v1 v2 v3 v4 v5 v6
  try clear_value v1
  have h7 : Kept M s0 v2 := (State.setFld_kept (hm.mono rfl) h0_ (hm.has (k := 19) rfl))
  try clear_value v2
  have h8 : Kept M s0 v3 := (Kept.ite (State.epDiscard_kept (hm.mono rfl) h7) h7)
  try clear_value v3
  try clear_value v4
  have h9 : Kept M s0 v5 := (State.modEp_kept (hm.mono rfl) h8)
  try clear_value v5
  have h10 : Kept M s0 v6 := (Kept.ite (Kept.ite (State.event_kept (hm.mono rfl) (State.setFld_kept (hm.mono rfl) h8 (hm.has (k := 19) rfl))) (State.event_kept (hm.mono rfl) (State.setFld_kept (hm.mono rfl) h9 (hm.has (k := 19) rfl)))) h8)
  try clear_value v6
  exact (State.epActions_kept (hm.mono rfl) h10)

theorem execEpArm_kept {M : Nat} {s0 : State} {p0 : Master} {p1 : Bool} {p2 : Bool} {p3 : State} (hm : Msub 5516815412208306898477799346540689 M) (h3_ : Kept M s0 p3) :
    KeptO M s0 (@execEpArm p0 p1 p2 p3) := by
  unfold execEpArm
  exact (KeptO.next (State.gated_kept (hm.mono rfl) h3_ (fun x1 h2 =>
    (State.epCtrl_kept (hm.mono rfl) h2))))

theorem execEpCancel_kept {M : Nat} {s0 : State} {p0 : Master} {p1 : Bool} {p2 : State} (hm : Msub 5516815412208306898477799346540689 M) (h2_ : Kept M s0 p2) :
    KeptO M s0 (@execEpCancel p0 p1 p2) := by
  unfold execEpCancel
  exact (KeptO.next (State.gated_kept (hm.mono rfl) h2_ (fun x1 h2 =>
    (State.epCtrl_kept (hm.mono rfl) h2))))

theorem State.epochApply_kept {M : Nat} {s0 : State} {p0 : State} {p1 : Nat} (hm : Msub 26286002846338228019866266499022847 M) (h0_ : Kept M s0 p0) :
    Kept M s0 (@State.epochApply p0 p1) := by
  unfold State.epochApply
  extract_lets -underBinder -merge v1 v2 v3 v4 v5 v6 v7 v8 v9
  try clear_value v1
  try clear_value v2
  have h10 : Kept M s0 v3 := (State.activate_kept (hm.mono rfl) h0_)
  try clear_value v3
  have h11 : Kept M s0 v4 := (State.setFld64_kept (hm.mono rfl) h10 (hm.has (k := 19) rfl))
  try clear_value v4
  have h12 : Kept M s0 v5 := (State.setFld64_kept (hm.mono rfl) h11 (hm.has (k := 19) rfl))
  try clear_value v5
  have h13 : Kept M s0 v6 := (State.setFld_kept (hm.mono rfl) h12 (hm.has (k := 19) rfl))
  try clear_value v6
  have h14 : Kept M s0 v7 := (State.modEp_kept (hm.mono rfl) h13)
  try clear_value v7
  have h15 : Kept M s0 v8 := (State.setFld_kept (hm.mono rfl) h14 (hm.has (k := 19) rfl))
  try clear_value v8
  have h16 : Kept M s0 v9 := (Kept.ite (State.rcrLayout_kept (hm.mono rfl) (State.setFld64_kept (hm.mono rfl) h15 (hm.has (k := 0) rfl))) (Kept.upd_ct (hm.mono rfl) h15))
  try clear_value v9
  exact (State.event_kept (hm.mono rfl) (State.epActions_kept (hm.mono rfl) h16))

theorem State.epochEdge_kept {M : Nat} {s0 : State} {p0 : State} (hm : Msub 26286002846338228019866266499022847 M) (h0_ : Kept M s0 p0) :
    Kept M s0 (@State.epochEdge p0) := by
  unfold State.epochEdge
  extract_lets -underBinder -merge v1
  try clear_value v1
  exact (Kept.each h0_ (fun x2 x3 h4 =>
    (State.epochApply_kept (hm.mono rfl) h4)))

theorem execEpochTickActivation_kept {M : Nat} {s0 : State} {p0 : Nat} {p1 : State} (hm : Msub 26286002846338228019866266499022847 M) (h1_ : Kept M s0 p1) :
    KeptO M s0 (@execEpochTickActivation p0 p1) := by
  unfold execEpochTickActivation
  extract_lets -underBinder -merge v1
  try clear_value v1
  exact (KeptO.next (Kept.ite (State.epochApply_kept (hm.mono rfl) h1_) h1_))

theorem execEpochDigestReady_kept {M : Nat} {s0 : State} {p0 : Nat} {p1 : State} (hm : Msub 524288 M) (h1_ : Kept M s0 p1) :
    KeptO M s0 (@execEpochDigestReady p0 p1) := by
  unfold execEpochDigestReady
  extract_lets -underBinder -merge v1 v2
  try clear_value v1
  have h6 : Kept M s0 v2 := (Kept.each h1_ (fun x3 x4 h5 =>
    (State.setFld_kept (hm.mono rfl) h5 (hm.has (k := 19) rfl))))
  try clear_value v2
  exact (KeptO.ite (KeptO.next (State.setFld_kept (hm.mono rfl) h6 (hm.has (k := 19) rfl))) (KeptO.next h1_))

theorem State.conflict_kept {M : Nat} {s0 : State} {p0 : State} {p1 : Nat} (hm : Msub 2596148429267413814265248165134336 M) (h0_ : Kept M s0 p0) :
    Kept M s0 (@State.conflict p0 p1) := by
  unfold State.conflict
  extract_lets -underBinder -merge v1
  have h2 : Kept M s0 v1 := (State.setFld_kept (hm.mono rfl) h0_ (hm.has (k := 19) rfl))
  try clear_value v1
  exact (Kept.ite h0_ (Kept.upd_yoyoDue (hm.mono rfl) h2))

theorem State.mismatch_kept {M : Nat} {s0 : State} {p0 : State} {p1 : Nat} {p2 : Nat} {p3 : Nat} {p4 : YoyoEntry} (hm : Msub 7788445287807849252994152198049936 M) (h0_ : Kept M s0 p0) :
    Kept M s0 (@State.mismatch p0 p1 p2 p3 p4) := by
  unfold State.mismatch
  extract_lets -underBinder -merge v1
  have h2 : Kept M s0 v1 := (State.bump_kept (hm.mono rfl) (State.conflict_kept (hm.mono rfl) h0_) (hm.has (k := 19) rfl))
  try clear_value v1
  exact (State.event_kept (hm.mono rfl) h2)

theorem State.yoyoCompare_kept {M : Nat} {s0 : State} {p0 : State} {p1 : Nat} {p2 : Nat} {p3 : YoyoEntry} (hm : Msub 8762000948783129433343620259778704 M) (h0_ : Kept M s0 p0) :
    Kept M s0 (@State.yoyoCompare p0 p1 p2 p3) := by
  unfold State.yoyoCompare
  extract_lets -underBinder -merge v1 v2 v3 v4 v5 v6 v7 v8 v9
  try clear_value v1
  try clear_value v3
  try clear_value v4
  try clear_value v5
  have h10 : Kept M s0 v6 := (Kept.upd_skews (hm.mono rfl) h0_)
  try clear_value v6
  try clear_value v7
  have h11 : Kept M s0 v8 := (Kept.ite (Kept.ite (Kept.ite (State.mismatch_kept (hm.mono rfl) h10) h10) (Kept.ite (Kept.upd_skews (hm.mono rfl) h0_) (State.mismatch_kept (hm.mono rfl) (Kept.upd_skews (hm.mono rfl) h0_)))) h0_)
  try clear_value v8
  have h12 : Kept M s0 v9 := (State.conflict_kept (hm.mono rfl) h11)
  try clear_value v9
  exact (Kept.ite (Kept.ite h12 (State.event_kept (hm.mono rfl) (State.modEp_kept (hm.mono rfl) h12))) h11)

theorem State.yoyoRx_kept {M : Nat} {s0 : State} {p0 : State} {p1 : Nat} {p2 : Yoyo} (hm : Msub 8802576290480766699923851404906640 M) (h0_ : Kept M s0 p0) :
    Kept M s0 (@State.yoyoRx p0 p1 p2) := by
  unfold State.yoyoRx
  extract_lets -underBinder -merge v1 v2
  have h6 : Kept M s0 v1 := (Kept.each h0_ (fun x3 x4 h5 =>
    (State.yoyoCompare_kept (hm.mono rfl) h5)))
  try clear_value v1
  have h7 : Kept M s0 v2 := (Kept.ite (State.sendBundle_kept (hm.mono rfl) h6) h6)
  try clear_value v2
  exact (Kept.ite (State.modPartX_kept (hm.mono rfl) h7) h7)

theorem execEpochSkewTimeout_kept {M : Nat} {s0 : State} {p0 : Nat} {p1 : Nat} {p2 : State} (hm : Msub 8437482395124702706560464239202448 M) (h2_ : Kept M s0 p2) :
    KeptO M s0 (@execEpochSkewTimeout p0 p1 p2) := by
  unfold execEpochSkewTimeout
  extract_lets -underBinder -merge v1
  try clear_value v1
  exact (KeptO.ite (KeptO.next (State.mismatch_kept (hm.mono rfl) (Kept.upd_skews (hm.mono rfl) h2_))) (KeptO.next h2_))

theorem State.yoyoEdge_kept {M : Nat} {s0 : State} {p0 : State} (hm : Msub 3894233166391454647130208889470976 M) (h0_ : Kept M s0 p0) :
    Kept M s0 (@State.yoyoEdge p0) := by
  unfold State.yoyoEdge
  extract_lets -underBinder -merge v1 v2 v3
  try clear_value v1
  have h4 : Kept M s0 v2 := (State.yoyoSend_kept (hm.mono rfl) h0_)
  try clear_value v2
  have h5 : Kept M s0 v3 := (Kept.ite (Kept.upd_yoyoCur (hm.mono rfl) h4) h0_)
  try clear_value v3
  exact (Kept.ite h5 (Kept.each (Kept.upd_yoyoDue (hm.mono rfl) h5) (fun x6 x7 h8 =>
    (State.yoyoSend_kept (hm.mono rfl) h8))))

end Sys2Proof.Machine
end

