-- ==== Sys2Proof/Laws/FrameFabric.lean ====
section
/-! SUPPORT. What the operations and meanings of Machine/Fabric.lean can change: one frame lemma per definition. -/
namespace Sys2Proof.Machine

theorem State.planArm_kept {M : Nat} {s0 : State} {p0 : State} (hm : Msub 5192296858540435439010379009626256 M) (h0_ : Kept M s0 p0) :
    Kept M s0 (@State.planArm p0) := by
  unfold State.planArm
  extract_lets -underBinder -merge v1 v2 v3 v4
  try clear_value v1
  have h5 : Kept M s0 v2 := (State.setFld_kept (hm.mono rfl) h0_ (hm.has (k := 48) rfl))
  try clear_value v2
  have h6 : Kept M s0 v3 := (State.setFld_kept (hm.mono rfl) h5 (hm.has (k := 48) rfl))
  try clear_value v3
  have h7 : Kept M s0 v4 := (State.setFld_kept (hm.mono rfl) h0_ (hm.has (k := 48) rfl))
  try clear_value v4
  exact (Kept.ite (State.event_kept (hm.mono rfl) (State.setFld64_kept (hm.mono rfl) h6 (hm.has (k := 48) rfl))) (State.event_kept (hm.mono rfl) (State.bump_kept (hm.mono rfl) h7 (hm.has (k := 48) rfl))))

theorem execPlanArm_kept {M : Nat} {s0 : State} {p0 : Master} {p1 : State} (hm : Msub 5192296858549880171976118300053649 M) (h1_ : Kept M s0 p1) :
    KeptO M s0 (@execPlanArm p0 p1) := by
  unfold execPlanArm
  exact (KeptO.next (State.gated_kept (hm.mono rfl) h1_ (fun x1 h2 =>
    (State.planArm_kept (hm.mono rfl) h2))))

theorem State.planCancel_kept {M : Nat} {s0 : State} {p0 : State} (hm : Msub 5192306762060749722052578202620048 M) (h0_ : Kept M s0 p0) :
    Kept M s0 (@State.planCancel p0) := by
  unfold State.planCancel
  extract_lets -underBinder -merge v1 v2 v3 v4
  have h5 : Kept M s0 v1 := (State.setFld_kept (hm.mono rfl) h0_ (hm.has (k := 48) rfl))
  try clear_value v1
  have h6 : Kept M s0 v2 := (State.setFld_kept (hm.mono rfl) h5 (hm.has (k := 48) rfl))
  try clear_value v2
  have h7 : Kept M s0 v3 := (State.setFld64_kept (hm.mono rfl) h6 (hm.has (k := 48) rfl))
  try clear_value v3
  try clear_value v4
  exact (Kept.ite (State.event_kept (hm.mono rfl) (Kept.upd_plan (hm.mono rfl) h7)) h0_)

theorem execPlanCancel_kept {M : Nat} {s0 : State} {p0 : Master} {p1 : State} (hm : Msub 5192306762070194455018317493047441 M) (h1_ : Kept M s0 p1) :
    KeptO M s0 (@execPlanCancel p0 p1) := by
  unfold execPlanCancel
  exact (KeptO.next (State.gated_kept (hm.mono rfl) h1_ (fun x1 h2 =>
    (State.planCancel_kept (hm.mono rfl) h2))))

theorem State.planAdvance_kept {M : Nat} {s0 : State} {p0 : State} (hm : Msub 281474976710656 M) (h0_ : Kept M s0 p0) :
    Kept M s0 (@State.planAdvance p0) := by
  unfold State.planAdvance
  exact (State.setFld_kept (hm.mono rfl) h0_ (hm.has (k := 48) rfl))

theorem State.planWrite_kept {M : Nat} {s0 : State} {p0 : State} {p1 : Sys2Proof.Word} (hm : Msub 9903520609431228853522530305 M) (h0_ : Kept M s0 p0) :
    Kept M s0 (@State.planWrite p0 p1) := by
  unfold State.planWrite
  extract_lets -underBinder -merge v1 v2 v3
  try clear_value v1
  try clear_value v2
  have h4 : Kept M s0 v3 := (Kept.ite (State.setErr_kept (hm.mono rfl) h0_ (hm.has (k := 48) rfl)) (Kept.ite h0_ (Kept.upd_plan (hm.mono rfl) h0_)))
  try clear_value v3
  exact (State.planAdvance_kept (hm.mono rfl) h4)

theorem execPlanWinDataWrite_kept {M : Nat} {s0 : State} {p0 : Master} {p1 : Sys2Proof.Word} {p2 : State} (hm : Msub 5192306762070194455018317493047441 M) (h2_ : Kept M s0 p2) :
    KeptO M s0 (@execPlanWinDataWrite p0 p1 p2) := by
  unfold execPlanWinDataWrite
  exact (KeptO.next (State.gated_kept (hm.mono rfl) h2_ (fun x1 h2 =>
    (State.planWrite_kept (hm.mono rfl) h2))))

theorem State.planRead_kept {M : Nat} {s0 : State} {p0 : State} (hm : Msub 281474976710656 M) (h0_ : Kept M s0 p0) :
    Kept M s0 (@State.planRead p0).1 := by
  unfold State.planRead
  exact (Kept.pairMk (State.planAdvance_kept (hm.mono rfl) (State.setFld_kept (hm.mono rfl) h0_ (hm.has (k := 48) rfl))))

theorem execPlanWinDataRead_kept {M : Nat} {s0 : State} {p0 : State} (hm : Msub 295148186654329536512 M) (h0_ : Kept M s0 p0) :
    KeptO M s0 (@execPlanWinDataRead p0) := by
  unfold execPlanWinDataRead
  exact (KeptO.next (State.hostReads_kept (hm.mono rfl) h0_ (fun x1 h2 =>
    (State.planRead_kept (hm.mono rfl) h2))))

theorem execPlanActivation_kept {M : Nat} {s0 : State} {p0 : State} (hm : Msub 5196133853692200475399752874266768 M) (h0_ : Kept M s0 p0) :
    KeptO M s0 (@execPlanActivation p0) := by
  unfold execPlanActivation
  exact (KeptO.next (Kept.ite (State.planActivate_kept (hm.mono rfl) h0_) h0_))

theorem State.arrive_kept {M : Nat} {s0 : State} {p0 : State} {p1 : Nat} {p2 : Nat} (hm : Msub 5196131377812121904357728099307664 M) (h0_ : Kept M s0 p0) :
    Kept M s0 (@State.arrive p0 p1 p2) := by
  unfold State.arrive
  extract_lets -underBinder -merge v1
  try clear_value v1
  split
  · exact (State.setRingF_kept (hm.mono rfl) h0_)
  · exact (State.event_kept (hm.mono rfl) (State.setRingF_kept (hm.mono rfl) h0_))
  · extract_lets -underBinder -merge v5 v6
    have h7 : Kept M s0 v5 := (State.setRingF_kept (hm.mono rfl) (State.setRingF_kept (hm.mono rfl) h0_))
    try clear_value v5
    have h8 : Kept M s0 v6 := (State.modRing_kept (hm.mono rfl) h7)
    try clear_value v6
    exact (Kept.ite h7 (Kept.ite (State.classRefuse_kept (hm.mono rfl) h7) (by
      split
      · exact (Kept.ite (State.startTraining_kept (hm.mono rfl) h8) h8)
      · exact h8)))
  · exact (State.setRingF_kept (hm.mono rfl) h0_)
  · exact (State.setRingF_kept (hm.mono rfl) h0_)
  · exact (State.setRingF_kept (hm.mono rfl) h0_)

theorem State.moveDone_kept {M : Nat} {s0 : State} {p0 : State} {p1 : Nat} {p2 : Nat} (hm : Msub 5196131377812121904357728099307664 M) (h0_ : Kept M s0 p0) :
    Kept M s0 (@State.moveDone p0 p1 p2) := by
  unfold State.moveDone
  exact (State.holdPair_kept (hm.mono rfl) (State.arrive_kept (hm.mono rfl) h0_))

theorem execRingMoveDone_kept {M : Nat} {s0 : State} {p0 : Nat} {p1 : Nat} {p2 : State} (hm : Msub 5196131377812121904357728099307664 M) (h2_ : Kept M s0 p2) :
    KeptO M s0 (@execRingMoveDone p0 p1 p2) := by
  unfold execRingMoveDone
  exact (KeptO.next (Kept.ite (State.moveDone_kept (hm.mono rfl) h2_) h2_))

theorem State.ownSettle_kept {M : Nat} {s0 : State} {p0 : State} (hm : Msub 5196114046651571909244985744101520 M) (h0_ : Kept M s0 p0) :
    Kept M s0 (@State.ownSettle p0) := by
  unfold State.ownSettle
  extract_lets -underBinder -merge v1
  try clear_value v1
  exact (Kept.each h0_ (fun x2 x3 h4 =>
    (State.settlePort_kept (hm.mono rfl) (Kept.upd_ports (hm.mono rfl) h4))))

theorem execRecableSettle_kept {M : Nat} {s0 : State} {p0 : State} (hm : Msub 5196114046651571909244985744101520 M) (h0_ : Kept M s0 p0) :
    KeptO M s0 (@execRecableSettle p0) := by
  unfold execRecableSettle
  exact (KeptO.next (State.ownSettle_kept (hm.mono rfl) (State.planSettle_kept (hm.mono rfl) h0_)))

theorem State.kalReplace_kept {M : Nat} {s0 : State} {p0 : State} {p1 : Nat} {p2 : Sys2Proof.Word} (hm : Msub 5196170991893379036526524871282833 M) (h0_ : Kept M s0 p0) :
    Kept M s0 (@State.kalReplace p0 p1 p2) := by
  unfold State.kalReplace
  extract_lets -underBinder -merge v1 v2
  try clear_value v1
  try clear_value v2
  exact (Kept.ite (Kept.ite (State.ringReplace_kept (hm.mono rfl) h0_) (State.setErr_kept (hm.mono rfl) h0_ (hm.has (k := 47) rfl))) h0_)

theorem execKalReplace_kept {M : Nat} {s0 : State} {p0 : Master} {p1 : Nat} {p2 : Sys2Proof.Word} {p3 : State} (hm : Msub 5196170991902823769492264161710225 M) (h3_ : Kept M s0 p3) :
    KeptO M s0 (@execKalReplace p0 p1 p2 p3) := by
  unfold execKalReplace
  exact (KeptO.next (State.gated_kept (hm.mono rfl) h3_ (fun x1 h2 =>
    (State.kalReplace_kept (hm.mono rfl) h2))))

theorem State.kalMode_kept {M : Nat} {s0 : State} {p0 : State} {p1 : Nat} {p2 : Sys2Proof.Word} (hm : Msub 140737488355328 M) (h0_ : Kept M s0 p0) :
    Kept M s0 (@State.kalMode p0 p1 p2) := by
  unfold State.kalMode
  exact (Kept.ite h0_ (State.setFld_kept (hm.mono rfl) h0_ (hm.has (k := 47) rfl)))

theorem execKalModeWrite_kept {M : Nat} {s0 : State} {p0 : Master} {p1 : Nat} {p2 : Sys2Proof.Word} {p3 : State} (hm : Msub 5192296858549880171835380811698321 M) (h3_ : Kept M s0 p3) :
    KeptO M s0 (@execKalModeWrite p0 p1 p2 p3) := by
  unfold execKalModeWrite
  exact (KeptO.next (State.gated_kept (hm.mono rfl) h3_ (fun x1 h2 =>
    (State.kalMode_kept (hm.mono rfl) h2))))

theorem State.retrain_kept {M : Nat} {s0 : State} {p0 : State} {p1 : Nat} (hm : Msub 5196131377812121904357728099307664 M) (h0_ : Kept M s0 p0) :
    Kept M s0 (@State.retrain p0 p1) := by
  unfold State.retrain
  extract_lets -underBinder -merge v1
  have h5 : Kept M s0 v1 := (Kept.ite h0_ (Kept.each h0_ (fun x2 x3 h4 =>
    (Kept.ite (State.modRing_kept (hm.mono rfl) (State.setRingF_kept (hm.mono rfl) (State.steerDrop_kept (hm.mono rfl) h4))) h4))))
  try clear_value v1
  exact (Kept.each h5 (fun x6 x7 h8 =>
    (by
      extract_lets -underBinder -merge v9 v10 v11
      try clear_value v9
      try clear_value v10
      have h12 : Kept M s0 v11 := (State.replayLane_kept (hm.mono rfl) (State.startTraining_kept (hm.mono rfl) h8))
      try clear_value v11
      exact (Kept.ite (State.portSync_kept (hm.mono rfl) (State.bundleSync_kept (hm.mono rfl) h12)) (Kept.ite (State.portSync_kept (hm.mono rfl) (State.startTraining_kept (hm.mono rfl) h8)) h8)))))

theorem State.portUp_kept {M : Nat} {s0 : State} {p0 : State} {p1 : Nat} (hm : Msub 5192320379401181861165783104622736 M) (h0_ : Kept M s0 p0) :
    Kept M s0 (@State.portUp p0 p1) := by
  unfold State.portUp
  exact (Kept.ite (Kept.each h0_ (fun x1 x2 h3 =>
    (Kept.ite (State.startTraining_kept (hm.mono rfl) h3) h3))) (Kept.upd_ports (hm.mono rfl) h0_))

theorem State.portDown_kept {M : Nat} {s0 : State} {p0 : State} {p1 : Nat} (hm : Msub 5196133853692200475118277897556112 M) (h0_ : Kept M s0 p0) :
    Kept M s0 (@State.portDown p0 p1) := by
  unfold State.portDown
  extract_lets -underBinder -merge v1 v2
  have h7 : Kept M s0 v1 := (Kept.each h0_ (fun x3 x4 h5 =>
    (by
      extract_lets -underBinder -merge v6
      try clear_value v6
      exact (Kept.ite (State.laneLeave_kept (hm.mono rfl) (State.setLaneSt_kept (hm.mono rfl) h5)) (Kept.ite h5 (State.portSync_kept (hm.mono rfl) (State.setLaneSt_kept (hm.mono rfl) h5)))))))
  try clear_value v1
  have h8 : Kept M s0 v2 := (Kept.upd_ports (hm.mono rfl) h7)
  try clear_value v2
  exact (Kept.ite (State.portSync_kept (hm.mono rfl) (Kept.each h7 (fun x9 x10 h11 =>
    (State.setFld_kept (hm.mono rfl) h11 (hm.has (k := 39) rfl))))) (Kept.each h8 (fun x12 x13 h14 =>
    (Kept.ite h14 (State.ringTo_kept (hm.mono rfl) h14)))))

theorem State.lnkCtrl_kept {M : Nat} {s0 : State} {p0 : State} {p1 : Nat} {p2 : Sys2Proof.Word} (hm : Msub 5196133853692200475118277897556112 M) (h0_ : Kept M s0 p0) :
    Kept M s0 (@State.lnkCtrl p0 p1 p2) := by
  unfold State.lnkCtrl
  extract_lets -underBinder -merge v1 v2 v3 v4
  try clear_value v1
  have h5 : Kept M s0 v2 := (State.setFld_kept (hm.mono rfl) h0_ (hm.has (k := 38) rfl))
  try clear_value v2
  try clear_value v3
  have h6 : Kept M s0 v4 := (Kept.ite (State.portUp_kept (hm.mono rfl) h5) (Kept.ite (State.portDown_kept (hm.mono rfl) h5) h5))
  try clear_value v4
  exact (Kept.ite (State.retrain_kept (hm.mono rfl) h6) h6)

theorem execRetrain_kept {M : Nat} {s0 : State} {p0 : Master} {p1 : Nat} {p2 : State} (hm : Msub 5196133853701645208084017187983505 M) (h2_ : Kept M s0 p2) :
    KeptO M s0 (@execRetrain p0 p1 p2) := by
  unfold execRetrain
  exact (KeptO.next (State.gated_kept (hm.mono rfl) h2_ (fun x1 h2 =>
    (State.lnkCtrl_kept (hm.mono rfl) h2))))

theorem execPortEnable_kept {M : Nat} {s0 : State} {p0 : Master} {p1 : Nat} {p2 : Sys2Proof.Word} {p3 : State} (hm : Msub 5196133853701645208084017187983505 M) (h3_ : Kept M s0 p3) :
    KeptO M s0 (@execPortEnable p0 p1 p2 p3) := by
  unfold execPortEnable
  exact (KeptO.next (State.gated_kept (hm.mono rfl) h3_ (fun x1 h2 =>
    (State.lnkCtrl_kept (hm.mono rfl) h2))))

theorem State.returnCredits_kept {M : Nat} {s0 : State} {p0 : State} {p1 : Nat} (hm : Msub 10522490333925732336642555904 M) (h0_ : Kept M s0 p0) :
    Kept M s0 (@State.returnCredits p0 p1) := by
  unfold State.returnCredits
  extract_lets -underBinder -merge v1
  try clear_value v1
  exact (Kept.ite h0_ (State.sendBundle_kept (hm.mono rfl) (State.setBundle_kept (hm.mono rfl) h0_)))

theorem State.copperBoundary_kept {M : Nat} {s0 : State} {p0 : State} {p1 : Nat} (hm : Msub 5196112808711532623582686112452752 M) (h0_ : Kept M s0 p0) :
    Kept M s0 (@State.copperBoundary p0 p1) := by
  unfold State.copperBoundary
  exact (Kept.each h0_ (fun x1 x2 h3 =>
    (by
      split
      · exact (State.emit_kept (hm.mono rfl) h3)
      · exact (State.place_kept (hm.mono rfl) h3)
      · exact (State.emit_kept (hm.mono rfl) h3)
      · exact h3)))

theorem State.opticalBoundary_kept {M : Nat} {s0 : State} {p0 : State} {p1 : Nat} (hm : Msub 5196133853692200475118277897556112 M) (h0_ : Kept M s0 p0) :
    Kept M s0 (@State.opticalBoundary p0 p1) := by
  unfold State.opticalBoundary
  extract_lets -underBinder -merge v1 v2 v3
  try clear_value v1
  have h4 : Kept M s0 v2 := (State.attach_kept (hm.mono rfl) h0_)
  try clear_value v2
  have h8 : Kept M s0 v3 := (Kept.each h4 (fun x5 x6 h7 =>
    (State.place_kept (hm.mono rfl) h7)))
  try clear_value v3
  exact (Kept.each h8 (fun x9 x10 h11 =>
    (Kept.ite h11 (Kept.ite (State.emit_kept (hm.mono rfl) h11) (State.emit_kept (hm.mono rfl) h11)))))

theorem execFlitBoundary_kept {M : Nat} {s0 : State} {p0 : Nat} {p1 : State} (hm : Msub 5196133853692200475118277897556112 M) (h1_ : Kept M s0 p1) :
    KeptO M s0 (@execFlitBoundary p0 p1) := by
  unfold execFlitBoundary
  extract_lets -underBinder -merge v1 v2 v3
  try clear_value v1
  have h4 : Kept M s0 v2 := (Kept.upd_plan (hm.mono rfl) h1_)
  try clear_value v2
  have h8 : Kept M s0 v3 := (Kept.each h4 (fun x5 x6 h7 =>
    (State.returnCredits_kept (hm.mono rfl) h7)))
  try clear_value v3
  exact (KeptO.ite (KeptO.next h1_) (KeptO.next (Kept.ite (State.copperBoundary_kept (hm.mono rfl) h8) (State.opticalBoundary_kept (hm.mono rfl) h8))))

end Sys2Proof.Machine
end

