-- ==== Sys2Proof/Laws/FrameMirror.lean ====
section
/-! SUPPORT. What the operations and meanings of Machine/Mirror.lean can change: one frame lemma per definition. -/
namespace Sys2Proof.Machine

theorem State.modMir_kept {M : Nat} {s0 : State} {p0 : State} {p1 : Nat} {p2 : Nat} {p3 : MirX → MirX} (hm : Msub 1329227995784915872903807060280344576 M) (h0_ : Kept M s0 p0) :
    Kept M s0 (@State.modMir p0 p1 p2 p3) := by
  unfold State.modMir
  exact (Kept.upd_mirs (hm.mono rfl) h0_)

theorem State.setMir_kept {M : Nat} {s0 : State} {p0 : State} {p1 : Nat} {p2 : Nat} {p3 : Nat} {p4 : Nat} (hm : Msub 4194304 M) (h0_ : Kept M s0 p0) :
    Kept M s0 (@State.setMir p0 p1 p2 p3 p4) := by
  unfold State.setMir
  exact (State.setFld_kept (hm.mono rfl) h0_ (hm.has (k := 22) rfl))

theorem State.mirRefuse_kept {M : Nat} {s0 : State} {p0 : State} {p1 : Nat} {p2 : Nat} {p3 : Nat} (hm : Msub 5192296858540435438728904037109904 M) (h0_ : Kept M s0 p0) :
    Kept M s0 (@State.mirRefuse p0 p1 p2 p3) := by
  unfold State.mirRefuse
  exact (State.event_kept (hm.mono rfl) (State.setMir_kept (hm.mono rfl) h0_))

theorem State.mirInStep_kept {M : Nat} {s0 : State} {p0 : State} {p1 : Nat} {p2 : Nat} {p3 : Nat} (hm : Msub 5192296858540435438728904037109904 M) (h0_ : Kept M s0 p0) :
    Kept M s0 (@State.mirInStep p0 p1 p2 p3) := by
  unfold State.mirInStep
  exact (State.event_kept (hm.mono rfl) (State.setMir_kept (hm.mono rfl) h0_))

theorem State.buddyHello_kept {M : Nat} {s0 : State} {p0 : State} {p1 : Nat} {p2 : Nat} (hm : Msub 1334424106117747326956479388135264400 M) (h0_ : Kept M s0 p0) :
    Kept M s0 (@State.buddyHello p0 p1 p2) := by
  unfold State.buddyHello
  extract_lets -underBinder -merge v1
  try clear_value v1
  split
  · exact (State.modMir_kept (hm.mono rfl) h0_)
  · exact (State.contSend_kept (hm.mono rfl) (State.modMir_kept (hm.mono rfl) h0_))

theorem State.dgSets_kept {M : Nat} {s0 : State} {p0 : State} {p1 : Nat} {p2 : CtTab} (hm : Msub 5192296858540435438728904066470032 M) (h0_ : Kept M s0 p0) :
    Kept M s0 (@State.dgSets p0 p1 p2) := by
  unfold State.dgSets
  extract_lets -underBinder -merge v1
  have h10 : Kept M s0 v1 := (Kept.each h0_ (fun x2 x3 h4 =>
    (by
      split
      · exact (State.setFld_kept (hm.mono rfl) (State.setFld_kept (hm.mono rfl) h4 (hm.has (k := 25) rfl)) (hm.has (k := 25) rfl))
      · exact (State.setFld_kept (hm.mono rfl) (State.setFld_kept (hm.mono rfl) h4 (hm.has (k := 25) rfl)) (hm.has (k := 25) rfl)))))
  try clear_value v1
  exact (Kept.ite (State.event_kept (hm.mono rfl) h10) h10)

theorem State.ctValidate_kept {M : Nat} {s0 : State} {p0 : State} {p1 : Nat} (hm : Msub 1355193293551886637470601373489893520 M) (h0_ : Kept M s0 p0) :
    Kept M s0 (@State.ctValidate p0 p1) := by
  unfold State.ctValidate
  extract_lets -underBinder -merge v1 v2 v3 v4 v5 v6 v7 v8 v9 v10 v11 v12
  try clear_value v1
  have h18 : Kept M s0 v2 := (Kept.each h0_ (fun x13 x14 h15 =>
    (by
      extract_lets -underBinder -merge v16
      have h17 : Kept M s0 v16 := (State.setMir_kept (hm.mono rfl) h15)
      try clear_value v16
      exact (Kept.upd_mirs (hm.mono rfl) h17))))
  try clear_value v2
  have h19 : Kept M s0 v3 := (State.setFld_kept (hm.mono rfl) h18 (hm.has (k := 22) rfl))
  try clear_value v3
  try clear_value v4
  try clear_value v5
  try clear_value v6
  try clear_value v7
  try clear_value v8
  try clear_value v9
  have h20 : Kept M s0 v10 := (Kept.upd_ct (hm.mono rfl) h18)
  try clear_value v10
  have h21 : Kept M s0 v11 := (State.dgSets_kept (hm.mono rfl) (State.setFld_kept (hm.mono rfl) h20 (hm.has (k := 22) rfl)))
  try clear_value v11
  have h22 : Kept M s0 v12 := (State.dgSets_kept (hm.mono rfl) (Kept.upd_ct (hm.mono rfl) h18))
  try clear_value v12
  exact (Kept.ite (State.dgSets_kept (hm.mono rfl) (Kept.upd_ct (hm.mono rfl) h19)) (Kept.ite (Kept.each h21 (fun x23 x24 h25 =>
    (Kept.ite (State.buddyHello_kept (hm.mono rfl) (State.setMir_kept (hm.mono rfl) h25)) (Kept.ite (State.setMir_kept (hm.mono rfl) h25) h25)))) (State.event_kept (hm.mono rfl) (State.setFld_kept (hm.mono rfl) h22 (hm.has (k := 22) rfl)))))

theorem execCtValidationDone_kept {M : Nat} {s0 : State} {p0 : Nat} {p1 : State} (hm : Msub 1355193293551886637470601373489893520 M) (h1_ : Kept M s0 p1) :
    KeptO M s0 (@execCtValidationDone p0 p1) := by
  unfold execCtValidationDone
  exact (KeptO.next (Kept.ite (State.ctValidate_kept (hm.mono rfl) h1_) h1_))

theorem execBuddyHelloRetry_kept {M : Nat} {s0 : State} {p0 : Nat} {p1 : Nat} {p2 : State} (hm : Msub 1334424106117747326956479388135264400 M) (h2_ : Kept M s0 p2) :
    KeptO M s0 (@execBuddyHelloRetry p0 p1 p2) := by
  unfold execBuddyHelloRetry
  extract_lets -underBinder -merge v1
  try clear_value v1
  exact (KeptO.next (Kept.ite (State.buddyHello_kept (hm.mono rfl) h2_) h2_))

theorem State.helloRx_kept {M : Nat} {s0 : State} {p0 : State} {p1 : Nat} {p2 : Nat} {p3 : Nat} {p4 : Nat} {p5 : Nat} {p6 : Nat} {p7 : Nat} (hm : Msub 1334424106117747326956479388139458704 M) (h0_ : Kept M s0 p0) :
    Kept M s0 (@State.helloRx p0 p1 p2 p3 p4 p5 p6 p7) := by
  unfold State.helloRx
  extract_lets -underBinder -merge v1 v2 v3 v4
  try clear_value v1
  try clear_value v2
  try clear_value v3
  have h9 : Kept M s0 v4 := by
    try dsimp -zeta only [v4]
    split
    · extract_lets -underBinder -merge v6
      have h7 : Kept M s0 v6 := (State.modMir_kept (hm.mono rfl) h0_)
      try clear_value v6
      exact (Kept.ite (State.mirRefuse_kept (hm.mono rfl) h7) (Kept.ite (State.mirInStep_kept (hm.mono rfl) h7) h7))
    · exact h0_
  try clear_value v4
  exact (Kept.ite h0_ (State.contSend_kept (hm.mono rfl) h9))

theorem execBuddyHello_kept {M : Nat} {s0 : State} {p0 : Nat} {p1 : Nat} {p2 : Nat} {p3 : Nat} {p4 : Nat} {p5 : Nat} {p6 : Nat} {p7 : State} (hm : Msub 1334424106117747326956479388139458704 M) (h7_ : Kept M s0 p7) :
    KeptO M s0 (@execBuddyHello p0 p1 p2 p3 p4 p5 p6 p7) := by
  unfold execBuddyHello
  exact (KeptO.next (State.helloRx_kept (hm.mono rfl) h7_))

theorem State.replyRx_kept {M : Nat} {s0 : State} {p0 : State} {p1 : Nat} {p2 : Nat} {p3 : Nat} {p4 : Nat} (hm : Msub 1334420292643456308342535964317454480 M) (h0_ : Kept M s0 p0) :
    Kept M s0 (@State.replyRx p0 p1 p2 p3 p4) := by
  unfold State.replyRx
  extract_lets -underBinder -merge v1
  have h2 : Kept M s0 v1 := (State.modMir_kept (hm.mono rfl) h0_)
  try clear_value v1
  exact (Kept.ite (Kept.ite (State.mirRefuse_kept (hm.mono rfl) h2) (Kept.ite (State.mirRefuse_kept (hm.mono rfl) h2) (State.mirInStep_kept (hm.mono rfl) h2))) h0_)

theorem execBuddyReply_kept {M : Nat} {s0 : State} {p0 : Nat} {p1 : Nat} {p2 : Nat} {p3 : Nat} {p4 : State} (hm : Msub 1334420292643456308342535964317454480 M) (h4_ : Kept M s0 p4) :
    KeptO M s0 (@execBuddyReply p0 p1 p2 p3 p4) := by
  unfold execBuddyReply
  exact (KeptO.next (State.replyRx_kept (hm.mono rfl) h4_))

theorem State.mirCompare_kept {M : Nat} {s0 : State} {p0 : State} {p1 : Nat} {p2 : Nat} (hm : Msub 1334420292643456308342535964317454480 M) (h0_ : Kept M s0 p0) :
    Kept M s0 (@State.mirCompare p0 p1 p2) := by
  unfold State.mirCompare
  extract_lets -underBinder -merge v1
  try clear_value v1
  split
  · extract_lets -underBinder -merge v4 v5 v6
    have h7 : Kept M s0 v4 := (State.modMir_kept (hm.mono rfl) h0_)
    try clear_value v4
    have h8 : Kept M s0 v5 := (State.setFld64_kept (hm.mono rfl) h7 (hm.has (k := 22) rfl))
    try clear_value v5
    have h9 : Kept M s0 v6 := (State.modMir_kept (hm.mono rfl) (State.setMir_kept (hm.mono rfl) h7))
    try clear_value v6
    exact (Kept.ite (Kept.ite (Kept.ite (State.mirInStep_kept (hm.mono rfl) h8) h8) (State.event_kept (hm.mono rfl) (State.bump_kept (hm.mono rfl) h9 (hm.has (k := 22) rfl)))) h0_)
  · exact h0_

theorem State.mirFence_kept {M : Nat} {s0 : State} {p0 : State} {p1 : Nat} {p2 : Nat} (hm : Msub 1334424111069507484098000487735955600 M) (h0_ : Kept M s0 p0) :
    Kept M s0 (@State.mirFence p0 p1 p2) := by
  unfold State.mirFence
  exact (Kept.each h0_ (fun x1 x2 h3 =>
    (by
      split
      · extract_lets -underBinder -merge v6
        try clear_value v6
        exact (Kept.ite (by
          split
          · exact h3
          · extract_lets -underBinder -merge v9 v10 v11 v12
            have h13 : Kept M s0 v9 := (State.modMir_kept (hm.mono rfl) h3)
            try clear_value v9
            try clear_value v10
            have h14 : Kept M s0 v11 := (State.modMir_kept (hm.mono rfl) h3)
            try clear_value v11
            have h15 : Kept M s0 v12 := (State.contSend_kept (hm.mono rfl) h14)
            try clear_value v12
            exact (Kept.ite (State.engWrite_kept (hm.mono rfl) h13) (Kept.ite h3 (State.mirCompare_kept (hm.mono rfl) h15)))) h3))))

theorem State.mirDigestRx_kept {M : Nat} {s0 : State} {p0 : State} {p1 : Nat} {p2 : Nat} {p3 : Nat} {p4 : Nat} {p5 : Nat} (hm : Msub 1334420292643456308342535964317454480 M) (h0_ : Kept M s0 p0) :
    Kept M s0 (@State.mirDigestRx p0 p1 p2 p3 p4 p5) := by
  unfold State.mirDigestRx
  extract_lets -underBinder -merge v1 v2
  try clear_value v1
  try clear_value v2
  split
  · exact h0_
  · exact (State.mirCompare_kept (hm.mono rfl) (State.modMir_kept (hm.mono rfl) h0_))

theorem execMirrorDigest_kept {M : Nat} {s0 : State} {p0 : Nat} {p1 : Nat} {p2 : Nat} {p3 : Nat} {p4 : Nat} {p5 : State} (hm : Msub 1334420292643456308342535964317454480 M) (h5_ : Kept M s0 p5) :
    KeptO M s0 (@execMirrorDigest p0 p1 p2 p3 p4 p5) := by
  unfold execMirrorDigest
  exact (KeptO.next (State.mirDigestRx_kept (hm.mono rfl) h5_))

end Sys2Proof.Machine
end

