-- ==== Sys2Proof/Laws/FrameRecov.lean ====
section
/-! SUPPORT. What the operations and meanings of Machine/Recov.lean can change: one frame lemma per definition. -/
namespace Sys2Proof.Machine

theorem State.rcReject_kept {M : Nat} {s0 : State} {p0 : State} {p1 : Nat} {p2 : Nat} {p3 : Nat} (hm : Msub 5192296858540435438728904049692816 M) (h0_ : Kept M s0 p0) :
    Kept M s0 (@State.rcReject p0 p1 p2 p3) := by
  unfold State.rcReject
  extract_lets -underBinder -merge v1 v2
  have h3 : Kept M s0 v1 := (State.setFld_kept (hm.mono rfl) h0_ (hm.has (k := 24) rfl))
  try clear_value v1
  have h4 : Kept M s0 v2 := (Kept.ite h0_ (State.setFld_kept (hm.mono rfl) (State.setFld_kept (hm.mono rfl) h3 (hm.has (k := 24) rfl)) (hm.has (k := 24) rfl)))
  try clear_value v2
  exact (State.event_kept (hm.mono rfl) h4)

theorem State.rcDone_kept {M : Nat} {s0 : State} {p0 : State} {p1 : Nat} {p2 : Nat} (hm : Msub 16777216 M) (h0_ : Kept M s0 p0) :
    Kept M s0 (@State.rcDone p0 p1 p2) := by
  unfold State.rcDone
  extract_lets -underBinder -merge v1
  have h2 : Kept M s0 v1 := (State.setFld_kept (hm.mono rfl) h0_ (hm.has (k := 24) rfl))
  try clear_value v1
  exact (Kept.ite h0_ (State.setFld_kept (hm.mono rfl) (State.setFld_kept (hm.mono rfl) h2 (hm.has (k := 24) rfl)) (hm.has (k := 24) rfl)))

theorem State.rcStart_kept {M : Nat} {s0 : State} {p0 : State} {p1 : Nat} {p2 : Nat} {p3 : RcX} (hm : Msub 664613997892457936451903530156949504 M) (h0_ : Kept M s0 p0) :
    Kept M s0 (@State.rcStart p0 p1 p2 p3) := by
  unfold State.rcStart
  extract_lets -underBinder -merge v1 v2
  have h3 : Kept M s0 v1 := (State.setFld_kept (hm.mono rfl) h0_ (hm.has (k := 24) rfl))
  try clear_value v1
  have h4 : Kept M s0 v2 := (State.setFld_kept (hm.mono rfl) (State.setFld_kept (hm.mono rfl) h3 (hm.has (k := 24) rfl)) (hm.has (k := 24) rfl))
  try clear_value v2
  exact (State.setRc_kept (hm.mono rfl) (State.setFld_kept (hm.mono rfl) h4 (hm.has (k := 24) rfl)))

theorem State.rcAccept_kept {M : Nat} {s0 : State} {p0 : State} {p1 : Nat} {p2 : Nat} (hm : Msub 669806299702758529032153533786362000 M) (h0_ : Kept M s0 p0) :
    Kept M s0 (@State.rcAccept p0 p1 p2) := by
  unfold State.rcAccept
  extract_lets -underBinder -merge v1
  have h5 : Kept M s0 v1 := (Kept.each h0_ (fun x2 x3 h4 =>
    (State.setFld_kept (hm.mono rfl) h4 (hm.has (k := 24) rfl))))
  try clear_value v1
  exact (State.rcEnd_kept (hm.mono rfl) (State.event_kept (hm.mono rfl) (State.bump_kept (hm.mono rfl) h5 (hm.has (k := 24) rfl))))

theorem State.rcFail_kept {M : Nat} {s0 : State} {p0 : State} {p1 : Nat} {p2 : Nat} (hm : Msub 669806299702758529032153533786362000 M) (h0_ : Kept M s0 p0) :
    Kept M s0 (@State.rcFail p0 p1 p2) := by
  unfold State.rcFail
  exact (State.rcEnd_kept (hm.mono rfl) (State.event_kept (hm.mono rfl) (State.bump_kept (hm.mono rfl) h0_ (hm.has (k := 24) rfl))))

theorem State.loss_kept {M : Nat} {s0 : State} {p0 : State} {p1 : Nat} {p2 : Nat} (hm : Msub 32753304588942005069799846628779229261970 M) (h0_ : Kept M s0 p0) :
    Kept M s0 (@State.loss p0 p1 p2) := by
  unfold State.loss
  extract_lets -underBinder -merge v1 v2 v3 v4 v5 v6 v7 v8
  have h9 : Kept M s0 v1 := (State.modPartX_kept (hm.mono rfl) h0_)
  try clear_value v1
  try clear_value v2
  have h15 : Kept M s0 v3 := (Kept.each h9 (fun x10 x11 h12 =>
    (by
      split
      · exact (Kept.ite (State.collLose_kept (hm.mono rfl) h12) h12)
      · exact h12)))
  try clear_value v3
  have h16 : Kept M s0 v4 := (Kept.ite (State.addAbsent_kept (hm.mono rfl) h15) h15)
  try clear_value v4
  have h20 : Kept M s0 v5 := (Kept.each h16 (fun x17 x18 h19 =>
    (Kept.ite (State.setMir_kept (hm.mono rfl) h19) h19)))
  try clear_value v5
  try clear_value v6
  have h21 : Kept M s0 v7 := (Kept.ite (State.ckAbort_kept (hm.mono rfl) h20) h20)
  try clear_value v7
  have h22 : Kept M s0 v8 := (State.event_kept (hm.mono rfl) h21)
  try clear_value v8
  exact (Kept.ite h0_ (Kept.ite (State.rcFail_kept (hm.mono rfl) h22) h22))

theorem State.lossCmd_kept {M : Nat} {s0 : State} {p0 : State} {p1 : Nat} {p2 : Nat} (hm : Msub 32753304588942005069799846628779229261970 M) (h0_ : Kept M s0 p0) :
    Kept M s0 (@State.lossCmd p0 p1 p2) := by
  unfold State.lossCmd
  exact (Kept.ite (State.rcDone_kept (hm.mono rfl) (State.loss_kept (hm.mono rfl) h0_)) (State.rcReject_kept (hm.mono rfl) h0_))

theorem State.haltEnd_kept {M : Nat} {s0 : State} {p0 : State} {p1 : Nat} (hm : Msub 46771241580069030546862622267019408 M) (h0_ : Kept M s0 p0) :
    Kept M s0 (@State.haltEnd p0 p1) := by
  unfold State.haltEnd
  extract_lets -underBinder -merge v1 v2
  have h3 : Kept M s0 v1 := (State.modPartX_kept (hm.mono rfl) h0_)
  try clear_value v1
  have h4 : Kept M s0 v2 := (State.endPrograms_kept (hm.mono rfl) h3)
  try clear_value v2
  exact (Kept.each h4 (fun x5 x6 h7 =>
    (State.ctxTear_kept (hm.mono rfl) h7)))

theorem State.haltPart_kept {M : Nat} {s0 : State} {p0 : State} {p1 : Nat} (hm : Msub 32755215354185945886367145851428410699922 M) (h0_ : Kept M s0 p0) :
    Kept M s0 (@State.haltPart p0 p1) := by
  unfold State.haltPart
  extract_lets -underBinder -merge v1 v2 v3
  have h4 : Kept M s0 v1 := (State.setFld_kept (hm.mono rfl) h0_ (hm.has (k := 24) rfl))
  try clear_value v1
  have h5 : Kept M s0 v2 := (State.ckAbort_kept (hm.mono rfl) h4)
  try clear_value v2
  have h11 : Kept M s0 v3 := (Kept.each h5 (fun x6 x7 h8 =>
    (Kept.ite (by
      extract_lets -underBinder -merge v9
      have h10 : Kept M s0 v9 := (State.setFld_kept (hm.mono rfl) h8 (hm.has (k := 25) rfl))
      try clear_value v9
      exact (Kept.upd_dgs (hm.mono rfl) h10)) h8)))
  try clear_value v3
  exact (Kept.ite (State.modPartX_kept (hm.mono rfl) h11) (State.haltEnd_kept (hm.mono rfl) h11))

theorem State.haltCmd_kept {M : Nat} {s0 : State} {p0 : State} {p1 : Nat} (hm : Msub 32755215354185945886367145851428410699922 M) (h0_ : Kept M s0 p0) :
    Kept M s0 (@State.haltCmd p0 p1) := by
  unfold State.haltCmd
  exact (Kept.ite (State.rcDone_kept (hm.mono rfl) (State.haltPart_kept (hm.mono rfl) h0_)) (State.rcReject_kept (hm.mono rfl) h0_))

theorem State.setStep_kept {M : Nat} {s0 : State} {p0 : State} {p1 : Nat} {p2 : Nat} (hm : Msub 2097152 M) (h0_ : Kept M s0 p0) :
    Kept M s0 (@State.setStep p0 p1 p2) := by
  unfold State.setStep
  exact (State.setFld64_kept (hm.mono rfl) h0_ (hm.has (k := 21) rfl))

theorem State.rollback_kept {M : Nat} {s0 : State} {p0 : State} {p1 : Nat} (hm : Msub 5232861677747738779576798554362000 M) (h0_ : Kept M s0 p0) :
    Kept M s0 (@State.rollback p0 p1) := by
  unfold State.rollback
  extract_lets -underBinder -merge v1 v2 v3 v4
  try clear_value v1
  try clear_value v2
  have h5 : Kept M s0 v3 := (State.setFld_kept (hm.mono rfl) (State.setStep_kept (hm.mono rfl) h0_) (hm.has (k := 24) rfl))
  try clear_value v3
  have h6 : Kept M s0 v4 := (State.modPartX_kept (hm.mono rfl) h5)
  try clear_value v4
  exact (Kept.ite (State.rcReject_kept (hm.mono rfl) h0_) (State.rcDone_kept (hm.mono rfl) (State.event_kept (hm.mono rfl) h6)))

theorem State.pullStart_kept {M : Nat} {s0 : State} {p0 : State} {p1 : Nat} {p2 : Nat} {p3 : Nat} {p4 : Nat} {p5 : RcX} (hm : Msub 669810108225289390504575858011869328 M) (h0_ : Kept M s0 p0) :
    Kept M s0 (@State.pullStart p0 p1 p2 p3 p4 p5) := by
  unfold State.pullStart
  extract_lets -underBinder -merge v1
  try clear_value v1
  split
  · exact (State.rcReject_kept (hm.mono rfl) h0_)
  · extract_lets -underBinder -merge v4
    try clear_value v4
    exact (State.contSend_kept (hm.mono rfl) (State.rcStart_kept (hm.mono rfl) h0_))

theorem State.pullCmd_kept {M : Nat} {s0 : State} {p0 : State} {p1 : Nat} {p2 : Nat} {p3 : Nat} (hm : Msub 669810108225289390504575858011869328 M) (h0_ : Kept M s0 p0) :
    Kept M s0 (@State.pullCmd p0 p1 p2 p3) := by
  unfold State.pullCmd
  extract_lets -underBinder -merge v1
  try clear_value v1
  exact (Kept.ite (State.rcReject_kept (hm.mono rfl) h0_) (Kept.ite (State.rcReject_kept (hm.mono rfl) h0_) (State.pullStart_kept (hm.mono rfl) h0_)))

theorem State.engWriteVia_kept {M : Nat} {s0 : State} {p0 : State} {p1 : Nat} {p2 : Nat} {p3 : Nat} {p4 : List Sys2Proof.Byte} {p5 : Nat} (hm : Msub 15474250491067255635262308352 M) (h0_ : Kept M s0 p0) :
    Kept M s0 (@State.engWriteVia p0 p1 p2 p3 p4 p5) := by
  unfold State.engWriteVia
  extract_lets -underBinder -merge v1 v2
  try clear_value v1
  try clear_value v2
  exact (Kept.each h0_ (fun x3 x4 h5 =>
    (by
      extract_lets -underBinder -merge v6
      try clear_value v6
      split
      · rename_i x7 x8 e9
        have Hx7 := Kept.fst e9 (State.takeNctr_kept (hm.mono rfl) h5)
        extract_lets -underBinder -merge v10 v11
        try clear_value v10
        have h12 : Kept M s0 v11 := (State.enqueue_kept (hm.mono rfl) Hx7)
        try clear_value v11
        exact (Kept.upd_outst (hm.mono rfl) h12))))

theorem State.pullReqRx_kept {M : Nat} {s0 : State} {p0 : State} {p1 : Nat} {p2 : Nat} {p3 : Nat} {p4 : Nat} {p5 : Nat} (hm : Msub 5196115284591611194193427451416720 M) (h0_ : Kept M s0 p0) :
    Kept M s0 (@State.pullReqRx p0 p1 p2 p3 p4 p5) := by
  unfold State.pullReqRx
  extract_lets -underBinder -merge v1 v2
  try clear_value v1
  have h7 : Kept M s0 v2 := (Kept.each h0_ (fun x3 x4 h5 =>
    (by
      extract_lets -underBinder -merge v6
      try clear_value v6
      exact (Kept.ite (State.engWrite_kept (hm.mono rfl) h5) (State.engWriteVia_kept (hm.mono rfl) h5)))))
  try clear_value v2
  exact (Kept.ite (State.contSend_kept (hm.mono rfl) h7) (State.contSend_kept (hm.mono rfl) h0_))

theorem State.loadSlot_kept {M : Nat} {s0 : State} {p0 : State} {p1 : Nat} (hm : Msub 669806294750998371890632434189865104 M) (h0_ : Kept M s0 p0) :
    Kept M s0 (@State.loadSlot p0 p1) := by
  unfold State.loadSlot
  extract_lets -underBinder -merge v1 v2
  try clear_value v1
  try clear_value v2
  exact (Kept.ite (State.rcReject_kept (hm.mono rfl) h0_) (Kept.ite (State.rcReject_kept (hm.mono rfl) h0_) (State.rcStart_kept (hm.mono rfl) h0_)))

theorem State.loadRegions_kept {M : Nat} {s0 : State} {p0 : State} {p1 : Nat} (hm : Msub 669806294799355626036146640294776976 M) (h0_ : Kept M s0 p0) :
    Kept M s0 (@State.loadRegions p0 p1) := by
  unfold State.loadRegions
  extract_lets -underBinder -merge v1
  try clear_value v1
  exact (Kept.each h0_ (fun x2 x3 h4 =>
    (Kept.ite (State.engStore_kept (hm.mono rfl) h4) (State.setRc_kept (hm.mono rfl) h4))))

theorem State.engRead_kept {M : Nat} {s0 : State} {p0 : State} {p1 : Nat} {p2 : Nat} {p3 : Nat} {p4 : Nat} {p5 : Nat} (hm : Msub 5196115284591611194193427451416720 M) (h0_ : Kept M s0 p0) :
    Kept M s0 (@State.engRead p0 p1 p2 p3 p4 p5) := by
  unfold State.engRead
  extract_lets -underBinder -merge v1 v2
  try clear_value v1
  try clear_value v2
  exact (Kept.each h0_ (fun x3 x4 h5 =>
    (by
      extract_lets -underBinder -merge v6 v7
      try clear_value v6
      try clear_value v7
      split
      · rename_i x8 x9 e10
        have Hx8 := Kept.fst e10 (State.sendE2e_kept (hm.mono rfl) h5)
        exact (Kept.upd_outst (hm.mono rfl) Hx8))))

theorem State.rebuildNext_kept {M : Nat} {s0 : State} {p0 : State} {p1 : Nat} (hm : Msub 669810113225406801791611163730055312 M) (h0_ : Kept M s0 p0) :
    Kept M s0 (@State.rebuildNext p0 p1) := by
  unfold State.rebuildNext
  extract_lets -underBinder -merge v1 v2 v3
  try clear_value v1
  try clear_value v2
  try clear_value v3
  split
  · extract_lets -underBinder -merge v6 v7 v8
    try clear_value v6
    have h16 : Kept M s0 v7 := (Kept.each h0_ (fun x9 x10 h11 =>
      (by
        split
        · exact (State.engRead_kept (hm.mono rfl) h11)
        · exact (State.engZero_kept (hm.mono rfl) h11))))
    try clear_value v7
    try clear_value v8
    exact (State.setFld_kept (hm.mono rfl) (State.setRc_kept (hm.mono rfl) h16) (hm.has (k := 24) rfl))
  · split
    · exact (State.engRead_kept (hm.mono rfl) (State.setRc_kept (hm.mono rfl) h0_))
    · exact (State.rcFail_kept (hm.mono rfl) h0_)

theorem State.rebuildRow_kept {M : Nat} {s0 : State} {p0 : State} {p1 : Nat} {p2 : Nat} (hm : Msub 5192296906897689584243110154604688 M) (h0_ : Kept M s0 p0) :
    Kept M s0 (@State.rebuildRow p0 p1 p2) := by
  unfold State.rebuildRow
  extract_lets -underBinder -merge v1 v2 v3
  try clear_value v1
  try clear_value v2
  try clear_value v3
  split
  · exact h0_
  · extract_lets -underBinder -merge v6 v7 v8 v9
    try clear_value v6
    try clear_value v7
    try clear_value v8
    try clear_value v9
    split
    · exact (State.engStore_kept (hm.mono rfl) h0_)

theorem State.rcRead_kept {M : Nat} {s0 : State} {p0 : State} {p1 : Nat} (hm : Msub 669810113225406801791611163730055312 M) (h0_ : Kept M s0 p0) :
    Kept M s0 (@State.rcRead p0 p1) := by
  unfold State.rcRead
  extract_lets -underBinder -merge v1
  try clear_value v1
  exact (Kept.ite h0_ (Kept.ite (by
    split
    · exact (State.rebuildNext_kept (hm.mono rfl) (State.setRc_kept (hm.mono rfl) (State.rebuildRow_kept (hm.mono rfl) h0_)))
    · exact h0_) h0_))

theorem State.rebuildCmd_kept {M : Nat} {s0 : State} {p0 : State} {p1 : Nat} {p2 : Nat} (hm : Msub 669810113225406801791611163730055312 M) (h0_ : Kept M s0 p0) :
    Kept M s0 (@State.rebuildCmd p0 p1 p2) := by
  unfold State.rebuildCmd
  extract_lets -underBinder -merge v1 v2 v3
  try clear_value v1
  try clear_value v2
  try clear_value v3
  exact (Kept.ite (State.rcReject_kept (hm.mono rfl) h0_) (Kept.ite (State.rcReject_kept (hm.mono rfl) h0_) (State.rebuildNext_kept (hm.mono rfl) (State.rcStart_kept (hm.mono rfl) h0_))))

theorem execRecoveryCmdDone_kept {M : Nat} {s0 : State} {p0 : Nat} {p1 : State} (hm : Msub 669806299751115783177667739908051088 M) (h1_ : Kept M s0 p1) :
    KeptO M s0 (@execRecoveryCmdDone p0 p1) := by
  unfold execRecoveryCmdDone
  extract_lets -underBinder -merge v1 v2 v3 v4 v5 v6 v7
  try clear_value v1
  try clear_value v2
  try clear_value v3
  try clear_value v4
  have h8 : Kept M s0 v5 := (State.loadRegions_kept (hm.mono rfl) h1_)
  try clear_value v5
  try clear_value v6
  try clear_value v7
  exact (KeptO.ite (KeptO.next h1_) (KeptO.ite (KeptO.next (State.rcAccept_kept (hm.mono rfl) h8)) (KeptO.ite (KeptO.ite (KeptO.next (State.rcAccept_kept (hm.mono rfl) (State.engStore_kept (hm.mono rfl) h1_))) (KeptO.next (State.rcFail_kept (hm.mono rfl) h1_))) (KeptO.next h1_))))

theorem State.clearAbsent_kept {M : Nat} {s0 : State} {p0 : State} {p1 : Nat} (hm : Msub 40564819207303340847894519349248 M) (h0_ : Kept M s0 p0) :
    Kept M s0 (@State.clearAbsent p0 p1) := by
  unfold State.clearAbsent
  extract_lets -underBinder -merge v1
  have h5 : Kept M s0 v1 := (Kept.each h0_ (fun x2 x3 h4 =>
    (State.setFld_kept (hm.mono rfl) h4 (hm.has (k := 24) rfl))))
  try clear_value v1
  exact (State.rcDone_kept (hm.mono rfl) (State.modPartX_kept (hm.mono rfl) h5))

theorem State.rcCmd_kept {M : Nat} {s0 : State} {p0 : State} {p1 : Sys2Proof.Word} (hm : Msub 32755963044933574901545654242899825733778 M) (h0_ : Kept M s0 p0) :
    Kept M s0 (@State.rcCmd p0 p1) := by
  unfold State.rcCmd
  extract_lets -underBinder -merge v1 v2 v3
  try clear_value v1
  try clear_value v2
  try clear_value v3
  split
  · exact (State.lossCmd_kept (hm.mono rfl) h0_)
  · exact (State.haltCmd_kept (hm.mono rfl) h0_)
  · exact (State.rollback_kept (hm.mono rfl) h0_)
  · exact (State.pullCmd_kept (hm.mono rfl) h0_)
  · exact (State.loadSlot_kept (hm.mono rfl) h0_)
  · exact (State.rebuildCmd_kept (hm.mono rfl) h0_)
  · exact (State.clearAbsent_kept (hm.mono rfl) h0_)
  · exact (State.rcReject_kept (hm.mono rfl) h0_)

theorem execLoss_kept {M : Nat} {s0 : State} {p0 : Master} {p1 : Nat} {p2 : State} (hm : Msub 32753304588942005079244579594518519689363 M) (h2_ : Kept M s0 p2) :
    KeptO M s0 (@execLoss p0 p1 p2) := by
  unfold execLoss
  exact (KeptO.next (State.gated_kept (hm.mono rfl) h2_ (fun x1 h2 =>
    (State.lossCmd_kept (hm.mono rfl) h2))))

theorem execHalt_kept {M : Nat} {s0 : State} {p0 : Master} {p1 : State} (hm : Msub 32755215354185945895811878817167701127315 M) (h1_ : Kept M s0 p1) :
    KeptO M s0 (@execHalt p0 p1) := by
  unfold execHalt
  exact (KeptO.next (State.gated_kept (hm.mono rfl) h1_ (fun x1 h2 =>
    (State.haltCmd_kept (hm.mono rfl) h2))))

theorem execRollback_kept {M : Nat} {s0 : State} {p0 : Master} {p1 : State} (hm : Msub 5232861677757183512542537844789393 M) (h1_ : Kept M s0 p1) :
    KeptO M s0 (@execRollback p0 p1) := by
  unfold execRollback
  exact (KeptO.next (State.gated_kept (hm.mono rfl) h1_ (fun x1 h2 =>
    (State.rollback_kept (hm.mono rfl) h2))))

theorem execPull_kept {M : Nat} {s0 : State} {p0 : Master} {p1 : Nat} {p2 : Nat} {p3 : State} (hm : Msub 669810108225298835237541597302296721 M) (h3_ : Kept M s0 p3) :
    KeptO M s0 (@execPull p0 p1 p2 p3) := by
  unfold execPull
  exact (KeptO.next (State.gated_kept (hm.mono rfl) h3_ (fun x1 h2 =>
    (State.pullCmd_kept (hm.mono rfl) h2))))

theorem execPullReq_kept {M : Nat} {s0 : State} {p0 : Nat} {p1 : Nat} {p2 : Nat} {p3 : Nat} {p4 : Nat} {p5 : State} (hm : Msub 5196115284591611194193427451416720 M) (h5_ : Kept M s0 p5) :
    KeptO M s0 (@execPullReq p0 p1 p2 p3 p4 p5) := by
  unfold execPullReq
  exact (KeptO.next (State.pullReqRx_kept (hm.mono rfl) h5_))

theorem execLoadSlot_kept {M : Nat} {s0 : State} {p0 : Master} {p1 : State} (hm : Msub 669806294751007816623598173480292497 M) (h1_ : Kept M s0 p1) :
    KeptO M s0 (@execLoadSlot p0 p1) := by
  unfold execLoadSlot
  exact (KeptO.next (State.gated_kept (hm.mono rfl) h1_ (fun x1 h2 =>
    (State.loadSlot_kept (hm.mono rfl) h2))))

theorem execRebuild_kept {M : Nat} {s0 : State} {p0 : Master} {p1 : Nat} {p2 : State} (hm : Msub 669810113225416246524576903020482705 M) (h2_ : Kept M s0 p2) :
    KeptO M s0 (@execRebuild p0 p1 p2) := by
  unfold execRebuild
  exact (KeptO.next (State.gated_kept (hm.mono rfl) h2_ (fun x1 h2 =>
    (State.rebuildCmd_kept (hm.mono rfl) h2))))

theorem execClearAbsent_kept {M : Nat} {s0 : State} {p0 : Master} {p1 : State} (hm : Msub 5232861677757183512542537842692241 M) (h1_ : Kept M s0 p1) :
    KeptO M s0 (@execClearAbsent p0 p1) := by
  unfold execClearAbsent
  exact (KeptO.next (State.gated_kept (hm.mono rfl) h1_ (fun x1 h2 =>
    (State.clearAbsent_kept (hm.mono rfl) h2))))

end Sys2Proof.Machine
end

