-- ==== Sys2Proof/Laws/FrameSigOps.lean ====
section
/-! SUPPORT. What the operations and meanings of Machine/SigOps.lean can change: one frame lemma per definition. -/
namespace Sys2Proof.Machine

theorem State.sigShow_kept {M : Nat} {s0 : State} {p0 : State} {p1 : Nat} (hm : Msub 134217728 M) (h0_ : Kept M s0 p0) :
    Kept M s0 (@State.sigShow p0 p1) := by
  unfold State.sigShow
  extract_lets -underBinder -merge v1 v2 v3
  try clear_value v1
  have h4 : Kept M s0 v2 := (State.setFld_kept (hm.mono rfl) h0_ (hm.has (k := 27) rfl))
  try clear_value v2
  have h5 : Kept M s0 v3 := (State.setFld_kept (hm.mono rfl) h4 (hm.has (k := 27) rfl))
  try clear_value v3
  exact (State.setFld_kept (hm.mono rfl) h5 (hm.has (k := 27) rfl))

theorem State.signature_kept {M : Nat} {s0 : State} {p0 : State} {p1 : Nat} {p2 : Nat} {p3 : List (Nat × List Nat)} (hm : Msub 10639016263137867418669185386409889936 M) (h0_ : Kept M s0 p0) :
    Kept M s0 (@State.signature p0 p1 p2 p3) := by
  unfold State.signature
  extract_lets -underBinder -merge v1 v2 v3 v4 v5
  try clear_value v1
  try clear_value v2
  have h6 : Kept M s0 v3 := (State.setFld_kept (hm.mono rfl) h0_ (hm.has (k := 27) rfl))
  try clear_value v3
  have h9 : Kept M s0 v4 := by
    try dsimp -zeta only [v4]
    split
    · exact (State.bump_kept (hm.mono rfl) (State.emit_kept (hm.mono rfl) h6) (hm.has (k := 4) rfl))
    · exact h6
  try clear_value v4
  have h10 : Kept M s0 v5 := (State.event_kept (hm.mono rfl) h9)
  try clear_value v5
  split
  · exact (State.sigShow_kept (hm.mono rfl) (Kept.upd_sigs (hm.mono rfl) h10))
  · exact (State.event_kept (hm.mono rfl) (State.bump_kept (hm.mono rfl) h10 (hm.has (k := 27) rfl)))

theorem State.sigAck_kept {M : Nat} {s0 : State} {p0 : State} {p1 : Sys2Proof.Word} (hm : Msub 31901471898837980949691369446862487552 M) (h0_ : Kept M s0 p0) :
    Kept M s0 (@State.sigAck p0 p1) := by
  unfold State.sigAck
  extract_lets -underBinder -merge v1 v2
  try clear_value v1
  try clear_value v2
  exact (Kept.ite (State.sigShow_kept (hm.mono rfl) (Kept.upd_sigs_sigAcks (hm.mono rfl) h0_)) h0_)

theorem execSigAck_kept {M : Nat} {s0 : State} {p0 : Master} {p1 : State} (hm : Msub 31906664195696530829863064090185830545 M) (h1_ : Kept M s0 p1) :
    KeptO M s0 (@execSigAck p0 p1) := by
  unfold execSigAck
  exact (KeptO.next (State.gated_kept (hm.mono rfl) h1_ (fun x1 h2 =>
    (State.sigAck_kept (hm.mono rfl) h2))))

theorem State.sigRead_kept {M : Nat} {s0 : State} {p0 : State} (hm : Msub 134217728 M) (h0_ : Kept M s0 p0) :
    Kept M s0 (@State.sigRead p0).1 := by
  unfold State.sigRead
  extract_lets -underBinder -merge v1 v2
  try clear_value v1
  try clear_value v2
  exact (Kept.pairMk (State.setFld_kept (hm.mono rfl) (State.setFld_kept (hm.mono rfl) h0_ (hm.has (k := 27) rfl)) (hm.has (k := 27) rfl)))

theorem execSigDataRead_kept {M : Nat} {s0 : State} {p0 : State} (hm : Msub 295147905179487043584 M) (h0_ : Kept M s0 p0) :
    KeptO M s0 (@execSigDataRead p0) := by
  unfold execSigDataRead
  exact (KeptO.next (State.hostReads_kept (hm.mono rfl) h0_ (fun x1 h2 =>
    (State.sigRead_kept (hm.mono rfl) h2))))

end Sys2Proof.Machine
end

