-- ==== Sys2Proof/Laws/FrameFieldTest.lean ====
section
/-! SUPPORT. What the operations and meanings of Machine/FieldTest.lean can change: one frame lemma per definition. -/
namespace Sys2Proof.Machine

theorem State.modFt_kept {M : Nat} {s0 : State} {p0 : State} {p1 : Nat} {p2 : Nat} {p3 : FtX → FtX} (hm : Msub 5316911983139663491615228241121378304 M) (h0_ : Kept M s0 p0) :
    Kept M s0 (@State.modFt p0 p1 p2 p3) := by
  unfold State.modFt
  exact (Kept.upd_fts (hm.mono rfl) h0_)

theorem State.setFtSt_kept {M : Nat} {s0 : State} {p0 : State} {p1 : Nat} {p2 : Nat} {p3 : Nat} (hm : Msub 67108864 M) (h0_ : Kept M s0 p0) :
    Kept M s0 (@State.setFtSt p0 p1 p2 p3) := by
  unfold State.setFtSt
  exact (State.setFld_kept (hm.mono rfl) h0_ (hm.has (k := 26) rfl))

theorem State.setFtDue_kept {M : Nat} {s0 : State} {p0 : State} {p1 : Nat} {p2 : Nat} {p3 : Nat} (hm : Msub 67108864 M) (h0_ : Kept M s0 p0) :
    Kept M s0 (@State.setFtDue p0 p1 p2 p3) := by
  unfold State.setFtDue
  exact (State.setFld64_kept (hm.mono rfl) h0_ (hm.has (k := 26) rfl))

theorem State.ftNow__kept {M : Nat} {s0 : State} {p0 : State} {p1 : Nat} {p2 : Nat} (hm : Msub 67108864 M) (h0_ : Kept M s0 p0) :
    Kept M s0 (@State.ftNow_ p0 p1 p2) := by
  unfold State.ftNow_
  extract_lets -underBinder -merge v1
  have h2 : Kept M s0 v1 := (State.setFtDue_kept (hm.mono rfl) h0_)
  try clear_value v1
  exact (Kept.ite (State.setFtSt_kept (hm.mono rfl) h2) h2)

theorem State.ftSweep_kept {M : Nat} {s0 : State} {p0 : State} (hm : Msub 67108864 M) (h0_ : Kept M s0 p0) :
    Kept M s0 (@State.ftSweep p0) := by
  unfold State.ftSweep
  exact (Kept.each h0_ (fun x1 x2 h3 =>
    (State.ftNow__kept (hm.mono rfl) h3)))

theorem State.ftDefer_kept {M : Nat} {s0 : State} {p0 : State} {p1 : Nat} {p2 : Nat} {p3 : Nat} (hm : Msub 5192296858540435438728904100024464 M) (h0_ : Kept M s0 p0) :
    Kept M s0 (@State.ftDefer p0 p1 p2 p3) := by
  unfold State.ftDefer
  exact (State.event_kept (hm.mono rfl) (State.bump_kept (hm.mono rfl) h0_ (hm.has (k := 26) rfl)))

theorem State.bindOne_kept {M : Nat} {s0 : State} {p0 : State} {p1 : Nat} {p2 : Nat} {p3 : Nat} {p4 : Nat} {p5 : Nat} (hm : Msub 3758096384 M) (h0_ : Kept M s0 p0) :
    Kept M s0 (@State.bindOne p0 p1 p2 p3 p4 p5) := by
  unfold State.bindOne
  extract_lets -underBinder -merge v1
  have h2 : Kept M s0 v1 := (State.setPcore_kept (hm.mono rfl) (State.setFld_kept (hm.mono rfl) h0_ (hm.has (k := 31) rfl)))
  try clear_value v1
  exact (State.bindSync_kept (hm.mono rfl) h2)

theorem State.ftArrange_kept {M : Nat} {s0 : State} {p0 : State} {p1 : Nat} (hm : Msub 5322114421203005752889169122607239313 M) (h0_ : Kept M s0 p0) :
    Kept M s0 (@State.ftArrange p0 p1) := by
  unfold State.ftArrange
  extract_lets -underBinder -merge v1 v2
  try clear_value v1
  try clear_value v2
  exact (Kept.ite h0_ (by
    split
    · exact h0_
    · extract_lets -underBinder -merge v6
      try clear_value v6
      exact (Kept.ite (Kept.ite h0_ (State.setPcore_kept (hm.mono rfl) h0_)) (by
        split
        · extract_lets -underBinder -merge v8 v9
          have h10 : Kept M s0 v8 := (State.setFld_kept (hm.mono rfl) h0_ (hm.has (k := 31) rfl))
          try clear_value v8
          have h11 : Kept M s0 v9 := (State.bindArm_kept (hm.mono rfl) (State.setFld_kept (hm.mono rfl) h10 (hm.has (k := 31) rfl)))
          try clear_value v9
          exact (Kept.ite h0_ (State.bindActions_kept (hm.mono rfl) (State.modFt_kept (hm.mono rfl) (State.setFtSt_kept (hm.mono rfl) h11))))
        · exact (Kept.ite (State.modFt_kept (hm.mono rfl) (State.bindOne_kept (hm.mono rfl) h0_)) (Kept.ite h0_ (State.ftDefer_kept (hm.mono rfl) (State.modFt_kept (hm.mono rfl) h0_))))))))

theorem State.ftEdge_kept {M : Nat} {s0 : State} {p0 : State} (hm : Msub 5332499014920075408146230115265679505 M) (h0_ : Kept M s0 p0) :
    Kept M s0 (@State.ftEdge p0) := by
  unfold State.ftEdge
  extract_lets -underBinder -merge v1 v2 v3
  try clear_value v1
  have h7 : Kept M s0 v2 := (Kept.each (Kept.upd_ftNow (hm.mono rfl) h0_) (fun x4 x5 h6 =>
    (State.ftNow__kept (hm.mono rfl) h6)))
  try clear_value v2
  have h20 : Kept M s0 v3 := (Kept.each h7 (fun x8 x9 h10 =>
    (by
      split
      · extract_lets -underBinder -merge v13 v14 v15
        try clear_value v13
        have h16 : Kept M s0 v14 := (Kept.ite (State.setFtSt_kept (hm.mono rfl) h10) h10)
        try clear_value v14
        have h17 : Kept M s0 v15 := (Kept.ite (State.setFtSt_kept (hm.mono rfl) h16) (Kept.ite (State.setFtSt_kept (hm.mono rfl) h16) h16))
        try clear_value v15
        exact (Kept.ite (State.modFt_kept (hm.mono rfl) (by
          split
          · exact (Kept.ite (State.bindOne_kept (hm.mono rfl) h17) h17)
          · exact h17)) h17))))
  try clear_value v3
  exact (Kept.each h20 (fun x21 x22 h23 =>
    (State.ftArrange_kept (hm.mono rfl) h23)))

theorem execFtDue_kept {M : Nat} {s0 : State} {p0 : Nat} {p1 : Nat} {p2 : Nat} {p3 : State} (hm : Msub 5322114421203005752889169122607239313 M) (h3_ : Kept M s0 p3) :
    KeptO M s0 (@execFtDue p0 p1 p2 p3) := by
  unfold execFtDue
  extract_lets -underBinder -merge v1
  try clear_value v1
  exact (KeptO.next (Kept.ite (State.ftArrange_kept (hm.mono rfl) (Kept.ite (State.setFtSt_kept (hm.mono rfl) h3_) h3_)) h3_))

theorem State.ftCmd_kept {M : Nat} {s0 : State} {p0 : State} {p1 : Sys2Proof.Word} (hm : Msub 67108864 M) (h0_ : Kept M s0 p0) :
    Kept M s0 (@State.ftCmd p0 p1) := by
  unfold State.ftCmd
  extract_lets -underBinder -merge v1 v2
  try clear_value v1
  have h3 : Kept M s0 v2 := (Kept.ite (State.ftNow__kept (hm.mono rfl) h0_) h0_)
  try clear_value v2
  exact (Kept.ite (State.ftSweep_kept (hm.mono rfl) h3) h3)

theorem execFtNow_kept {M : Nat} {s0 : State} {p0 : Master} {p1 : State} (hm : Msub 5192296858549880171694643390451857 M) (h1_ : Kept M s0 p1) :
    KeptO M s0 (@execFtNow p0 p1) := by
  unfold execFtNow
  exact (KeptO.next (State.gated_kept (hm.mono rfl) h1_ (fun x1 h2 =>
    (State.ftCmd_kept (hm.mono rfl) h2))))

theorem execFtSweep_kept {M : Nat} {s0 : State} {p0 : Master} {p1 : State} (hm : Msub 5192296858549880171694643390451857 M) (h1_ : Kept M s0 p1) :
    KeptO M s0 (@execFtSweep p0 p1) := by
  unfold execFtSweep
  exact (KeptO.next (State.gated_kept (hm.mono rfl) h1_ (fun x1 h2 =>
    (State.ftCmd_kept (hm.mono rfl) h2))))

theorem execFieldTestStart_kept {M : Nat} {s0 : State} {p0 : Nat} {p1 : Nat} {p2 : Nat} {p3 : Int} {p4 : State} (hm : Msub 5322104279998203927053957145221402768 M) (h4_ : Kept M s0 p4) :
    KeptO M s0 (@execFieldTestStart p0 p1 p2 p3 p4) := by
  unfold execFieldTestStart
  extract_lets -underBinder -merge v1
  try clear_value v1
  exact (KeptO.next (Kept.ite (Kept.ite (State.event_kept (hm.mono rfl) (State.setFtSt_kept (hm.mono rfl) h4_)) (Kept.ite h4_ (State.ftDefer_kept (hm.mono rfl) (State.modFt_kept (hm.mono rfl) h4_)))) h4_))

theorem State.ftDone_kept {M : Nat} {s0 : State} {p0 : State} {p1 : Nat} {p2 : Nat} {p3 : Nat} {p4 : Nat} {p5 : Option (Nat × Nat × Nat × Nat × Int × Nat)} (hm : Msub 15955928246277530910284413631356473488 M) (h0_ : Kept M s0 p0) :
    Kept M s0 (@State.ftDone p0 p1 p2 p3 p4 p5) := by
  unfold State.ftDone
  extract_lets -underBinder -merge v1 v2 v3 v4 v5
  try clear_value v1
  try clear_value v2
  try clear_value v3
  try clear_value v4
  have h6 : Kept M s0 v5 := (State.setFld_kept (hm.mono rfl) (State.setFld_kept (hm.mono rfl) h0_ (hm.has (k := 26) rfl)) (hm.has (k := 26) rfl))
  try clear_value v5
  split
  · extract_lets -underBinder -merge v8 v9 v10 v11
    have h12 : Kept M s0 v8 := (State.setFld_kept (hm.mono rfl) (State.setFtSt_kept (hm.mono rfl) h6) (hm.has (k := 26) rfl))
    try clear_value v8
    have h13 : Kept M s0 v9 := (State.setFtDue_kept (hm.mono rfl) (State.setFld64_kept (hm.mono rfl) h12 (hm.has (k := 26) rfl)))
    try clear_value v9
    have h14 : Kept M s0 v10 := (State.bump_kept (hm.mono rfl) (State.setPcore_kept (hm.mono rfl) h13) (hm.has (k := 26) rfl))
    try clear_value v10
    have h15 : Kept M s0 v11 := (State.modFt_kept (hm.mono rfl) h14)
    try clear_value v11
    exact (State.event_kept (hm.mono rfl) h15)
  · extract_lets -underBinder -merge v22 v23 v24 v25 v26
    have h27 : Kept M s0 v22 := (State.setFld_kept (hm.mono rfl) (State.setFtSt_kept (hm.mono rfl) h6) (hm.has (k := 26) rfl))
    try clear_value v22
    have h28 : Kept M s0 v23 := (State.setPcore_kept (hm.mono rfl) (State.setFld_kept (hm.mono rfl) h27 (hm.has (k := 26) rfl)))
    try clear_value v23
    have h29 : Kept M s0 v24 := (State.event_kept (hm.mono rfl) (State.bump_kept (hm.mono rfl) h28 (hm.has (k := 26) rfl)))
    try clear_value v24
    try clear_value v25
    have h30 : Kept M s0 v26 := (State.signature_kept (hm.mono rfl) h29)
    try clear_value v26
    exact (State.bindSync_kept (hm.mono rfl) (State.modFt_kept (hm.mono rfl) h30))

theorem execFieldTestDone_kept {M : Nat} {s0 : State} {p0 : Nat} {p1 : Nat} {p2 : Nat} {p3 : Nat} {p4 : Nat} {p5 : Option (Nat × Nat × Nat × Nat × Int × Nat)} {p6 : State} (hm : Msub 15955928246277530910284413631356473488 M) (h6_ : Kept M s0 p6) :
    KeptO M s0 (@execFieldTestDone p0 p1 p2 p3 p4 p5 p6) := by
  unfold execFieldTestDone
  extract_lets -underBinder -merge v1
  try clear_value v1
  exact (KeptO.next (Kept.ite (State.ftDone_kept (hm.mono rfl) h6_) h6_))

theorem State.ftAbort_kept {M : Nat} {s0 : State} {p0 : State} {p1 : Nat} (hm : Msub 5192296858540435438728907321249936 M) (h0_ : Kept M s0 p0) :
    Kept M s0 (@State.ftAbort p0 p1) := by
  unfold State.ftAbort
  exact (Kept.each h0_ (fun x1 x2 h3 =>
    (Kept.ite (by
      extract_lets -underBinder -merge v4
      have h5 : Kept M s0 v4 := (State.setFtSt_kept (hm.mono rfl) (State.setPcore_kept (hm.mono rfl) h3))
      try clear_value v4
      exact (State.event_kept (hm.mono rfl) (State.setFld_kept (hm.mono rfl) h5 (hm.has (k := 26) rfl)))) h3)))

theorem execForcedSwap_kept {M : Nat} {s0 : State} {p0 : Nat} {p1 : Nat} {p2 : Nat} {p3 : Nat} {p4 : State} (hm : Msub 5322114421207841529954603934144270481 M) (h4_ : Kept M s0 p4) :
    KeptO M s0 (@execForcedSwap p0 p1 p2 p3 p4) := by
  unfold execForcedSwap
  extract_lets -underBinder -merge v1
  try clear_value v1
  split
  · exact (KeptO.next h4_)
  · extract_lets -underBinder -merge v4 v5 v6 v7 v8
    try clear_value v4
    try clear_value v5
    have h9 : Kept M s0 v6 := (Kept.ite (State.modSeq_kept (hm.mono rfl) (State.modFt_kept (hm.mono rfl) (State.setFtSt_kept (hm.mono rfl) h4_))) h4_)
    try clear_value v6
    have h10 : Kept M s0 v7 := (State.modSeq_kept (hm.mono rfl) h9)
    try clear_value v7
    try clear_value v8
    exact (KeptO.ite (by
      split
      · rename_i x11 x12 e13
        have Hx11 := Kept.fst e13 (State.bindApply_kept (hm.mono rfl) h10)
        extract_lets -underBinder -merge v14 v15 v16 v17
        have h18 : Kept M s0 v14 := (Kept.ite (State.bindFinish_kept (hm.mono rfl) Hx11) Hx11)
        try clear_value v14
        have h19 : Kept M s0 v15 := (State.modFt_kept (hm.mono rfl) (State.setFtSt_kept (hm.mono rfl) h18))
        try clear_value v15
        have h20 : Kept M s0 v16 := (State.setFld_kept (hm.mono rfl) (State.bump_kept (hm.mono rfl) h19 (hm.has (k := 26) rfl)) (hm.has (k := 26) rfl))
        try clear_value v16
        try clear_value v17
        exact (KeptO.ite (KeptO.next (State.bindActions_kept (hm.mono rfl) h19)) (KeptO.next (State.bindActions_kept (hm.mono rfl) (State.event_kept (hm.mono rfl) h20))))) (KeptO.next h9))

theorem State.swapAbandon_kept {M : Nat} {s0 : State} {p0 : State} {p1 : Nat} {p2 : Nat} (hm : Msub 5322104280003039630332415661920227472 M) (h0_ : Kept M s0 p0) :
    Kept M s0 (@State.swapAbandon p0 p1 p2) := by
  unfold State.swapAbandon
  split
  · exact h0_
  · extract_lets -underBinder -merge v3 v4
    have h5 : Kept M s0 v3 := (State.modFt_kept (hm.mono rfl) (State.setFtSt_kept (hm.mono rfl) h0_))
    try clear_value v3
    have h6 : Kept M s0 v4 := (State.modSeq_kept (hm.mono rfl) h5)
    try clear_value v4
    exact (State.event_kept (hm.mono rfl) (State.bump_kept (hm.mono rfl) h6 (hm.has (k := 26) rfl)))

theorem execForcedSwapAbandon_kept {M : Nat} {s0 : State} {p0 : Nat} {p1 : Nat} {p2 : Nat} {p3 : State} (hm : Msub 5322104280003039630332415661920227472 M) (h3_ : Kept M s0 p3) :
    KeptO M s0 (@execForcedSwapAbandon p0 p1 p2 p3) := by
  unfold execForcedSwapAbandon
  extract_lets -underBinder -merge v1
  try clear_value v1
  exact (KeptO.next (Kept.ite (State.swapAbandon_kept (hm.mono rfl) h3_) h3_))

theorem execForcedSwapRetry_kept {M : Nat} {s0 : State} {p0 : Nat} {p1 : Nat} {p2 : Nat} {p3 : State} (hm : Msub 5316911983144499194893686757887311872 M) (h3_ : Kept M s0 p3) :
    KeptO M s0 (@execForcedSwapRetry p0 p1 p2 p3) := by
  unfold execForcedSwapRetry
  extract_lets -underBinder -merge v1 v2
  try clear_value v1
  try clear_value v2
  split
  · exact (KeptO.next h3_)
  · exact (KeptO.ite (KeptO.next (State.modSeq_kept (hm.mono rfl) (State.modFt_kept (hm.mono rfl) (State.setFtSt_kept (hm.mono rfl) h3_)))) (KeptO.next h3_))

end Sys2Proof.Machine
end

