-- ==== Sys2Proof/Laws/FrameReplica.lean ====
section
/-! SUPPORT. What the operations and meanings of Machine/Replica.lean can change: one frame lemma per definition. -/
namespace Sys2Proof.Machine

theorem State.modDg_kept {M : Nat} {s0 : State} {p0 : State} {p1 : Nat} {p2 : Nat} {p3 : DgX → DgX} (hm : Msub 2658455991569831745807614120560689152 M) (h0_ : Kept M s0 p0) :
    Kept M s0 (@State.modDg p0 p1 p2 p3) := by
  unfold State.modDg
  exact (Kept.upd_dgs (hm.mono rfl) h0_)

theorem State.setDg128_kept {M : Nat} {s0 : State} {p0 : State} {p1 : Nat → Fld} {p2 : Nat} {p3 : Nat} (hm : Msub 33554432 M) (h0_ : Kept M s0 p0) :
    Kept M s0 (@State.setDg128 p0 p1 p2 p3) := by
  unfold State.setDg128
  exact (Kept.each h0_ (fun x1 x2 h3 =>
    (State.setFld_kept (hm.mono rfl) h3 (hm.has (k := 25) rfl))))

theorem State.dgFence_kept {M : Nat} {s0 : State} {p0 : State} {p1 : Nat} {p2 : Nat} (hm : Msub 2658455991569831745807614120594243584 M) (h0_ : Kept M s0 p0) :
    Kept M s0 (@State.dgFence p0 p1 p2).1 := by
  unfold State.dgFence
  extract_lets -underBinder -merge v1
  try clear_value v1
  exact (Kept.pairMk (Kept.each h0_ (fun x2 x3 h4 =>
    (by
      extract_lets -underBinder -merge v5 v6 v7
      try clear_value v5
      have h8 : Kept M s0 v6 := (State.modDg_kept (hm.mono rfl) h4)
      try clear_value v6
      have h9 : Kept M s0 v7 := (State.setFld_kept (hm.mono rfl) h8 (hm.has (k := 25) rfl))
      try clear_value v7
      exact (State.setFld_kept (hm.mono rfl) h9 (hm.has (k := 25) rfl))))))

theorem State.holdEnd_kept {M : Nat} {s0 : State} {p0 : State} {p1 : Nat} {p2 : Nat} (hm : Msub 87858899526566350904558737853298847888 M) (h0_ : Kept M s0 p0) :
    Kept M s0 (@State.holdEnd p0 p1 p2) := by
  unfold State.holdEnd
  exact (State.collPumpAll_kept (hm.mono rfl) (State.setFld_kept (hm.mono rfl) (State.modDg_kept (hm.mono rfl) h0_) (hm.has (k := 25) rfl)))

theorem State.suspect_kept {M : Nat} {s0 : State} {p0 : State} (hm : Msub 5192296858540435438728904133578896 M) (h0_ : Kept M s0 p0) :
    Kept M s0 (@State.suspect p0) := by
  unfold State.suspect
  exact (Kept.ite h0_ (State.ftSweep_kept (hm.mono rfl) (State.event_kept (hm.mono rfl) (State.setFld_kept (hm.mono rfl) h0_ (hm.has (k := 25) rfl)))))

theorem State.fencePeer_kept {M : Nat} {s0 : State} {p0 : State} {p1 : Nat} {p2 : Nat} (hm : Msub 5192296858540453885472977742462975 M) (h0_ : Kept M s0 p0) :
    Kept M s0 (@State.fencePeer p0 p1 p2) := by
  unfold State.fencePeer
  extract_lets -underBinder -merge v1
  try clear_value v1
  split
  · exact (State.setReg_kept (hm.mono rfl) h0_)
  · split
    · exact (State.setReg_kept (hm.mono rfl) h0_)
    · exact (State.event_kept (hm.mono rfl) h0_)

theorem State.dgSig_kept {M : Nat} {s0 : State} {p0 : State} {p1 : Nat} {p2 : Nat} {p3 : Nat} {p4 : Nat} {p5 : Nat} {p6 : Nat} {p7 : Nat} {p8 : Nat} {p9 : Nat} (hm : Msub 10639016263137867418669185386409889936 M) (h0_ : Kept M s0 p0) :
    Kept M s0 (@State.dgSig p0 p1 p2 p3 p4 p5 p6 p7 p8 p9) := by
  unfold State.dgSig
  split
  · extract_lets -underBinder -merge v4
    try clear_value v4
    exact (State.signature_kept (hm.mono rfl) h0_)

theorem State.expelled_kept {M : Nat} {s0 : State} {p0 : State} {p1 : Nat} {p2 : Nat} {p3 : Nat} {p4 : Nat} {p5 : Nat} {p6 : Nat} {p7 : Nat} (hm : Msub 32765932254901961770592432795852127547538 M) (h0_ : Kept M s0 p0) :
    Kept M s0 (@State.expelled p0 p1 p2 p3 p4 p5 p6 p7) := by
  unfold State.expelled
  extract_lets -underBinder -merge v1 v2 v3 v4 v5 v6
  try clear_value v1
  have h7 : Kept M s0 v2 := (State.suspect_kept (hm.mono rfl) h0_)
  try clear_value v2
  have h8 : Kept M s0 v3 := (State.haltPart_kept (hm.mono rfl) h7)
  try clear_value v3
  have h12 : Kept M s0 v4 := (Kept.each h8 (fun x9 x10 h11 =>
    (State.contSend_kept (hm.mono rfl) h11)))
  try clear_value v4
  have h13 : Kept M s0 v5 := (State.dgSig_kept (hm.mono rfl) h12)
  try clear_value v5
  have h14 : Kept M s0 v6 := (Kept.ite h13 (State.event_kept (hm.mono rfl) (State.bump_kept (hm.mono rfl) h13 (hm.has (k := 25) rfl))))
  try clear_value v6
  exact (State.holdEnd_kept (hm.mono rfl) h14)

theorem State.dgOut_kept {M : Nat} {s0 : State} {p0 : State} {p1 : Nat} {p2 : Nat} {p3 : Nat} {p4 : Nat} {p5 : Nat} {p6 : Nat} {p7 : Nat} {p8 : Nat} {p9 : Nat} (hm : Msub 10639016263137867418669185386443444368 M) (h0_ : Kept M s0 p0) :
    Kept M s0 (@State.dgOut p0 p1 p2 p3 p4 p5 p6 p7 p8 p9) := by
  unfold State.dgOut
  extract_lets -underBinder -merge v1
  have h2 : Kept M s0 v1 := (State.dgSig_kept (hm.mono rfl) h0_)
  try clear_value v1
  exact (State.event_kept (hm.mono rfl) (State.bump_kept (hm.mono rfl) h2 (hm.has (k := 25) rfl)))

theorem State.expelOthers_kept {M : Nat} {s0 : State} {p0 : State} {p1 : Nat} {p2 : List Nat} (hm : Msub 32753304588942005069818293366063101902847 M) (h0_ : Kept M s0 p0) :
    Kept M s0 (@State.expelOthers p0 p1 p2) := by
  unfold State.expelOthers
  exact (Kept.each h0_ (fun x1 x2 h3 =>
    (by
      extract_lets -underBinder -merge v4
      have h7 : Kept M s0 v4 := by
        try dsimp -zeta only [v4]
        split
        · exact (State.fencePeer_kept (hm.mono rfl) h3)
        · exact h3
      try clear_value v4
      exact (State.loss_kept (hm.mono rfl) h7))))

theorem State.addVote_kept {M : Nat} {s0 : State} {p0 : State} {p1 : Nat} {p2 : Nat} {p3 : Vote} (hm : Msub 2658455991569831745807614120560689152 M) (h0_ : Kept M s0 p0) :
    Kept M s0 (@State.addVote p0 p1 p2 p3) := by
  unfold State.addVote
  exact (State.modDg_kept (hm.mono rfl) h0_)

theorem State.sendVerdict_kept {M : Nat} {s0 : State} {p0 : State} {p1 : Nat} {p2 : Nat} {p3 : Nat} {p4 : Nat} {p5 : Nat} {p6 : Nat} {p7 : Nat} {p8 : List Nat} (hm : Msub 5196110332831454052672327854919824 M) (h0_ : Kept M s0 p0) :
    Kept M s0 (@State.sendVerdict p0 p1 p2 p3 p4 p5 p6 p7 p8) := by
  unfold State.sendVerdict
  exact (Kept.each h0_ (fun x1 x2 h3 =>
    (by
      split
      · exact (Kept.ite h3 (State.contSend_kept (hm.mono rfl) h3))
      · exact h3)))

theorem State.verdictShown_kept {M : Nat} {s0 : State} {p0 : State} {p1 : Nat} {p2 : Nat} {p3 : Nat} {p4 : Nat} (hm : Msub 5192296906897689584243110188159120 M) (h0_ : Kept M s0 p0) :
    Kept M s0 (@State.verdictShown p0 p1 p2 p3 p4) := by
  unfold State.verdictShown
  extract_lets -underBinder -merge v1 v2 v3 v4
  try clear_value v1
  have h5 : Kept M s0 v2 := (State.setFld64_kept (hm.mono rfl) (State.setFld_kept (hm.mono rfl) h0_ (hm.has (k := 25) rfl)) (hm.has (k := 25) rfl))
  try clear_value v2
  have h6 : Kept M s0 v3 := (State.setDg128_kept (hm.mono rfl) h5)
  try clear_value v3
  try clear_value v4
  exact (Kept.ite h6 (State.signalWord_kept (hm.mono rfl) h6))

theorem State.recheckEnd_kept {M : Nat} {s0 : State} {p0 : State} {p1 : Nat} {p2 : Nat} {p3 : Nat} {p4 : Nat} (hm : Msub 32765932254901961770592432795852127547538 M) (h0_ : Kept M s0 p0) :
    Kept M s0 (@State.recheckEnd p0 p1 p2 p3 p4) := by
  unfold State.recheckEnd
  extract_lets -underBinder -merge v1 v2 v3 v4
  try clear_value v1
  have h5 : Kept M s0 v2 := (State.modDg_kept (hm.mono rfl) h0_)
  try clear_value v2
  have h6 : Kept M s0 v3 := (State.verdictShown_kept (hm.mono rfl) h5)
  try clear_value v3
  have h7 : Kept M s0 v4 := (Kept.ite (State.suspect_kept (hm.mono rfl) h6) h6)
  try clear_value v4
  exact (Kept.ite (State.holdEnd_kept (hm.mono rfl) (State.event_kept (hm.mono rfl) h7)) (State.expelled_kept (hm.mono rfl) (State.event_kept (hm.mono rfl) h6)))

theorem State.recheckDecide_kept {M : Nat} {s0 : State} {p0 : State} {p1 : Nat} {p2 : Nat} (hm : Msub 32765932254901961770592432795852127547538 M) (h0_ : Kept M s0 p0) :
    Kept M s0 (@State.recheckDecide p0 p1 p2) := by
  unfold State.recheckDecide
  extract_lets -underBinder -merge v1 v2 v3 v4 v5 v6
  try clear_value v1
  try clear_value v2
  try clear_value v3
  try clear_value v4
  have h11 : Kept M s0 v5 := (Kept.ite h0_ (Kept.each h0_ (fun x7 x8 h9 =>
    (by
      extract_lets -underBinder -merge v10
      try clear_value v10
      exact (State.dgOut_kept (hm.mono rfl) h9)))))
  try clear_value v5
  have h12 : Kept M s0 v6 := (State.sendVerdict_kept (hm.mono rfl) h11)
  try clear_value v6
  exact (State.recheckEnd_kept (hm.mono rfl) h12)

theorem State.recheckVoted_kept {M : Nat} {s0 : State} {p0 : State} {p1 : Nat} {p2 : Nat} (hm : Msub 32765932254901961770592432795852127547538 M) (h0_ : Kept M s0 p0) :
    Kept M s0 (@State.recheckVoted p0 p1 p2) := by
  unfold State.recheckVoted
  extract_lets -underBinder -merge v1
  try clear_value v1
  exact (Kept.ite (State.recheckDecide_kept (hm.mono rfl) h0_) h0_)

theorem State.recheckVote_kept {M : Nat} {s0 : State} {p0 : State} {p1 : Nat} {p2 : Nat} {p3 : Nat} (hm : Msub 32765932254901961770592432795852127547538 M) (h0_ : Kept M s0 p0) :
    Kept M s0 (@State.recheckVote p0 p1 p2 p3) := by
  unfold State.recheckVote
  extract_lets -underBinder -merge v1 v2 v3
  try clear_value v1
  try clear_value v2
  have h4 : Kept M s0 v3 := (State.modDg_kept (hm.mono rfl) h0_)
  try clear_value v3
  exact (Kept.ite (State.recheckVoted_kept (hm.mono rfl) (State.addVote_kept (hm.mono rfl) h4)) (by
    split
    · exact (State.contSend_kept (hm.mono rfl) h4)
    · exact h4))

theorem State.recheckNext_kept {M : Nat} {s0 : State} {p0 : State} {p1 : Nat} {p2 : Nat} {p3 : List Nat} (hm : Msub 32766596868899854228528884699382267719826 M) (h0_ : Kept M s0 p0) :
    Kept M s0 (@State.recheckNext p0 p1 p2 p3) := by
  unfold State.recheckNext
  split
  · extract_lets -underBinder -merge v3
    try clear_value v3
    exact (State.pullStart_kept (hm.mono rfl) h0_)
  · exact (State.recheckVote_kept (hm.mono rfl) h0_)

theorem State.recheckStart_kept {M : Nat} {s0 : State} {p0 : State} {p1 : Nat} {p2 : Nat} (hm : Msub 32766596868899854228528884699382267719826 M) (h0_ : Kept M s0 p0) :
    Kept M s0 (@State.recheckStart p0 p1 p2) := by
  unfold State.recheckStart
  extract_lets -underBinder -merge v1 v2 v3
  have h4 : Kept M s0 v1 := (State.modDg_kept (hm.mono rfl) (State.bump_kept (hm.mono rfl) h0_ (hm.has (k := 25) rfl)))
  try clear_value v1
  try clear_value v2
  try clear_value v3
  exact (Kept.ite (State.recheckVote_kept (hm.mono rfl) h4) (State.recheckNext_kept (hm.mono rfl) h4))

theorem State.pullDone_kept {M : Nat} {s0 : State} {p0 : State} {p1 : Nat} {p2 : Nat} {p3 : Nat} (hm : Msub 32766596868899854228528884699382267719826 M) (h0_ : Kept M s0 p0) :
    Kept M s0 (@State.pullDone p0 p1 p2 p3) := by
  unfold State.pullDone
  extract_lets -underBinder -merge v1 v2 v3 v4 v5
  try clear_value v1
  try clear_value v2
  have h6 : Kept M s0 v3 := (State.setFld_kept (hm.mono rfl) h0_ (hm.has (k := 24) rfl))
  try clear_value v3
  try clear_value v4
  have h7 : Kept M s0 v5 := (Kept.ite (State.rcAccept_kept (hm.mono rfl) h6) (State.rcFail_kept (hm.mono rfl) h6))
  try clear_value v5
  exact (Kept.ite (Kept.ite h7 (Kept.ite (State.recheckNext_kept (hm.mono rfl) h7) (State.recheckVote_kept (hm.mono rfl) h7))) h0_)

theorem execPullDone_kept {M : Nat} {s0 : State} {p0 : Nat} {p1 : Nat} {p2 : Nat} {p3 : State} (hm : Msub 32766596868899854228528884699382267719826 M) (h3_ : Kept M s0 p3) :
    KeptO M s0 (@execPullDone p0 p1 p2 p3) := by
  unfold execPullDone
  exact (KeptO.next (State.pullDone_kept (hm.mono rfl) h3_))

theorem State.verdict_kept {M : Nat} {s0 : State} {p0 : State} {p1 : Nat} {p2 : Nat} {p3 : Nat} {p4 : Nat} {p5 : Nat} {p6 : Nat} {p7 : Nat} {p8 : List Nat} (hm : Msub 32766596868899854228547331436665905348607 M) (h0_ : Kept M s0 p0) :
    Kept M s0 (@State.verdict p0 p1 p2 p3 p4 p5 p6 p7 p8) := by
  unfold State.verdict
  extract_lets -underBinder -merge v1 v2 v3 v4 v5 v6 v7 v8 v9
  try clear_value v1
  try clear_value v2
  try clear_value v3
  have h10 : Kept M s0 v4 := (State.modDg_kept (hm.mono rfl) h0_)
  try clear_value v4
  have h11 : Kept M s0 v5 := (State.verdictShown_kept (hm.mono rfl) h10)
  try clear_value v5
  have h12 : Kept M s0 v6 := (State.setFld_kept (hm.mono rfl) (State.setFld_kept (hm.mono rfl) h11 (hm.has (k := 25) rfl)) (hm.has (k := 25) rfl))
  try clear_value v6
  have h13 : Kept M s0 v7 := (Kept.ite h12 (State.bump_kept (hm.mono rfl) h12 (hm.has (k := 25) rfl)))
  try clear_value v7
  try clear_value v8
  split
  · exact (Kept.ite (State.event_kept (hm.mono rfl) (State.expelled_kept (hm.mono rfl) h13)) (State.holdEnd_kept (hm.mono rfl) h13))
  · exact (Kept.ite (State.expelled_kept (hm.mono rfl) h13) (Kept.ite (State.event_kept (hm.mono rfl) (State.expelled_kept (hm.mono rfl) h13)) (State.holdEnd_kept (hm.mono rfl) (State.expelOthers_kept (hm.mono rfl) h13))))
  · exact (Kept.ite (State.recheckStart_kept (hm.mono rfl) h13) (State.holdEnd_kept (hm.mono rfl) h13))
  · exact (State.event_kept (hm.mono rfl) h13)
  · exact (State.holdEnd_kept (hm.mono rfl) h13)

theorem State.dgDecide_kept {M : Nat} {s0 : State} {p0 : State} {p1 : Nat} {p2 : Nat} (hm : Msub 32766596868899854228547331436665905348607 M) (h0_ : Kept M s0 p0) :
    Kept M s0 (@State.dgDecide p0 p1 p2) := by
  unfold State.dgDecide
  extract_lets -underBinder -merge v1 v2 v3 v4
  try clear_value v1
  try clear_value v2
  try clear_value v3
  try clear_value v4
  split
  · extract_lets -underBinder -merge v7 v8 v9 v10 v11 v12 v13 v14 v15 v16 v17 v18
    try clear_value v7
    try clear_value v8
    try clear_value v9
    try clear_value v10
    try clear_value v11
    have h19 : Kept M s0 v12 := (State.modDg_kept (hm.mono rfl) h0_)
    try clear_value v12
    have h23 : Kept M s0 v13 := (Kept.each h19 (fun x20 x21 h22 =>
      (State.event_kept (hm.mono rfl) h22)))
    try clear_value v13
    have h24 : Kept M s0 v14 := (Kept.ite h23 (State.event_kept (hm.mono rfl) h23))
    try clear_value v14
    have h29 : Kept M s0 v15 := (Kept.ite (Kept.each h24 (fun x25 x26 h27 =>
      (by
        extract_lets -underBinder -merge v28
        try clear_value v28
        exact (State.dgOut_kept (hm.mono rfl) h27)))) h24)
    try clear_value v15
    have h30 : Kept M s0 v16 := (Kept.ite (State.dgSig_kept (hm.mono rfl) h29) h29)
    try clear_value v16
    have h31 : Kept M s0 v17 := (State.sendVerdict_kept (hm.mono rfl) h30)
    try clear_value v17
    have h32 : Kept M s0 v18 := (Kept.ite (State.modDg_kept (hm.mono rfl) h31) h31)
    try clear_value v18
    exact (State.verdict_kept (hm.mono rfl) h32)

theorem State.dgVoted_kept {M : Nat} {s0 : State} {p0 : State} {p1 : Nat} {p2 : Nat} (hm : Msub 32766596868899854228547331436665905348607 M) (h0_ : Kept M s0 p0) :
    Kept M s0 (@State.dgVoted p0 p1 p2) := by
  unfold State.dgVoted
  extract_lets -underBinder -merge v1
  try clear_value v1
  exact (Kept.ite (State.dgDecide_kept (hm.mono rfl) h0_) h0_)

theorem State.voteRx_kept {M : Nat} {s0 : State} {p0 : State} {p1 : Nat} {p2 : Nat} {p3 : Nat × Nat × Nat} {p4 : Nat} {p5 : Nat} {p6 : Bool} (hm : Msub 32766596868899854228547331436665905348607 M) (h0_ : Kept M s0 p0) :
    Kept M s0 (@State.voteRx p0 p1 p2 p3 p4 p5 p6) := by
  unfold State.voteRx
  split
  · exact h0_
  · extract_lets -underBinder -merge v3
    have h4 : Kept M s0 v3 := (State.addVote_kept (hm.mono rfl) h0_)
    try clear_value v3
    exact (Kept.ite (State.recheckVoted_kept (hm.mono rfl) h4) (State.dgVoted_kept (hm.mono rfl) h4))

theorem execReplicaDigestReady_kept {M : Nat} {s0 : State} {p0 : Nat} {p1 : Nat} {p2 : State} (hm : Msub 32766596868899854228547331436665905348607 M) (h2_ : Kept M s0 p2) :
    KeptO M s0 (@execReplicaDigestReady p0 p1 p2) := by
  unfold execReplicaDigestReady
  extract_lets -underBinder -merge v1 v2
  try clear_value v1
  have h3 : Kept M s0 v2 := (State.setDg128_kept (hm.mono rfl) (State.modDg_kept (hm.mono rfl) h2_))
  try clear_value v2
  exact (KeptO.ite (KeptO.next h2_) (by
    split
    · exact (KeptO.ite (KeptO.next (State.voteRx_kept (hm.mono rfl) h3)) (by
        split
        · exact (KeptO.next (State.contSend_kept (hm.mono rfl) h3))
        · exact (KeptO.next h3)))
    · exact (KeptO.next h3)))

theorem execDigestVote_kept {M : Nat} {s0 : State} {p0 : Nat} {p1 : Nat} {p2 : Nat} {p3 : Nat} {p4 : Nat} {p5 : Nat} {p6 : Nat} {p7 : Bool} {p8 : State} (hm : Msub 32766596868899854228547331436665905348607 M) (h8_ : Kept M s0 p8) :
    KeptO M s0 (@execDigestVote p0 p1 p2 p3 p4 p5 p6 p7 p8) := by
  unfold execDigestVote
  exact (KeptO.next (State.voteRx_kept (hm.mono rfl) h8_))

theorem execVerdictDeadline_kept {M : Nat} {s0 : State} {p0 : Nat} {p1 : Nat} {p2 : State} (hm : Msub 32766596868899854228547331436665905348607 M) (h2_ : Kept M s0 p2) :
    KeptO M s0 (@execVerdictDeadline p0 p1 p2) := by
  unfold execVerdictDeadline
  extract_lets -underBinder -merge v1
  try clear_value v1
  exact (KeptO.next (Kept.ite (State.dgDecide_kept (hm.mono rfl) h2_) h2_))

theorem State.verdictRx_kept {M : Nat} {s0 : State} {p0 : State} {p1 : Nat} {p2 : Nat} {p3 : Nat} {p4 : Nat} {p5 : Nat} {p6 : Nat} {p7 : Nat} {p8 : Nat} {p9 : List Nat} (hm : Msub 32766596868899854228547331436665905348607 M) (h0_ : Kept M s0 p0) :
    Kept M s0 (@State.verdictRx p0 p1 p2 p3 p4 p5 p6 p7 p8 p9) := by
  unfold State.verdictRx
  extract_lets -underBinder -merge v1 v2
  try clear_value v1
  have h3 : Kept M s0 v2 := (State.verdictShown_kept (hm.mono rfl) h0_)
  try clear_value v2
  exact (Kept.ite h0_ (Kept.ite (Kept.ite (State.recheckEnd_kept (hm.mono rfl) h0_) (Kept.ite (State.expelOthers_kept (hm.mono rfl) h3) h3)) (Kept.ite h0_ (State.verdict_kept (hm.mono rfl) h0_))))

theorem execVerdict_kept {M : Nat} {s0 : State} {p0 : Nat} {p1 : Nat} {p2 : Nat} {p3 : Nat} {p4 : Nat} {p5 : Nat} {p6 : Nat} {p7 : Nat} {p8 : List Nat} {p9 : State} (hm : Msub 32766596868899854228547331436665905348607 M) (h9_ : Kept M s0 p9) :
    KeptO M s0 (@execVerdict p0 p1 p2 p3 p4 p5 p6 p7 p8 p9) := by
  unfold execVerdict
  exact (KeptO.next (State.verdictRx_kept (hm.mono rfl) h9_))

theorem execVerdictTimeout_kept {M : Nat} {s0 : State} {p0 : Nat} {p1 : Nat} {p2 : State} (hm : Msub 87858899526566350904558737853298847888 M) (h2_ : Kept M s0 p2) :
    KeptO M s0 (@execVerdictTimeout p0 p1 p2) := by
  unfold execVerdictTimeout
  extract_lets -underBinder -merge v1
  try clear_value v1
  exact (KeptO.next (Kept.ite (State.holdEnd_kept (hm.mono rfl) (State.event_kept (hm.mono rfl) (State.setFld_kept (hm.mono rfl) h2_ (hm.has (k := 25) rfl)))) h2_))

theorem execRecheckDeadline_kept {M : Nat} {s0 : State} {p0 : Nat} {p1 : Nat} {p2 : State} (hm : Msub 32765932254901961770592432795852127547538 M) (h2_ : Kept M s0 p2) :
    KeptO M s0 (@execRecheckDeadline p0 p1 p2) := by
  unfold execRecheckDeadline
  extract_lets -underBinder -merge v1
  try clear_value v1
  exact (KeptO.next (Kept.ite (State.recheckDecide_kept (hm.mono rfl) h2_) h2_))

theorem execFenceNote_kept {M : Nat} {s0 : State} {p0 : Nat} {p1 : Nat} {p2 : State} (hm : Msub 5192296858540453885472977742462975 M) (h2_ : Kept M s0 p2) :
    KeptO M s0 (@execFenceNote p0 p1 p2) := by
  unfold execFenceNote
  exact (KeptO.next (State.fencePeer_kept (hm.mono rfl) h2_))

end Sys2Proof.Machine
end

