-- ==== Sys2Proof/Laws/FrameLock.lean ====
section
/-! SUPPORT. What the operations and meanings of Machine/Lock.lean can change: one frame lemma per definition. -/
namespace Sys2Proof.Machine

theorem State.lockLost_kept {M : Nat} {s0 : State} {p0 : State} {p1 : Nat} {p2 : Nat} {p3 : Nat} {p4 : Nat} (hm : Msub 5196170991893379036526524871282832 M) (h0_ : Kept M s0 p0) :
    Kept M s0 (@State.lockLost p0 p1 p2 p3 p4) := by
  unfold State.lockLost
  extract_lets -underBinder -merge v1 v2
  have h3 : Kept M s0 v1 := (State.event_kept (hm.mono rfl) h0_)
  try clear_value v1
  have h4 : Kept M s0 v2 := (State.bump_kept (hm.mono rfl) h3 (hm.has (k := 46) rfl))
  try clear_value v2
  exact (Kept.ite (State.ringReplace_kept (hm.mono rfl) h4) h4)

theorem execWindowCheck_kept {M : Nat} {s0 : State} {p0 : Nat} {p1 : Nat} {p2 : State} (hm : Msub 5196170991893379036526524871282832 M) (h2_ : Kept M s0 p2) :
    KeptO M s0 (@execWindowCheck p0 p1 p2) := by
  unfold execWindowCheck
  exact (KeptO.next (Kept.ite (State.declare__kept (hm.mono rfl) h2_) h2_))

theorem execRingRxLos_kept {M : Nat} {s0 : State} {p0 : Nat} {p1 : Nat} {p2 : State} (hm : Msub 5196170991893379036526524871282832 M) (h2_ : Kept M s0 p2) :
    KeptO M s0 (@execRingRxLos p0 p1 p2) := by
  unfold execRingRxLos
  extract_lets -underBinder -merge v1 v2 v3
  try clear_value v1
  try clear_value v2
  have h4 : Kept M s0 v3 := (Kept.ite (State.modRing_kept (hm.mono rfl) h2_) h2_)
  try clear_value v3
  exact (KeptO.ite (KeptO.next h4) (KeptO.next (State.declare__kept (hm.mono rfl) h4)))

theorem execHeaterFault_kept {M : Nat} {s0 : State} {p0 : Nat} {p1 : Nat} {p2 : Nat} {p3 : State} (hm : Msub 5196170991893379036526524871282832 M) (h3_ : Kept M s0 p3) :
    KeptO M s0 (@execHeaterFault p0 p1 p2 p3) := by
  unfold execHeaterFault
  exact (KeptO.next (State.lockLost_kept (hm.mono rfl) (State.setRng_kept (hm.mono rfl) h3_)))

theorem execReacqTestStart_kept {M : Nat} {s0 : State} {p0 : Nat} {p1 : State} (hm : Msub 5192316665581064005024408651436176 M) (h1_ : Kept M s0 p1) :
    KeptO M s0 (@execReacqTestStart p0 p1) := by
  unfold execReacqTestStart
  exact (KeptO.ite (KeptO.next h1_) (by
    split
    · exact (KeptO.next h1_)
    · extract_lets -underBinder -merge v3
      have h4 : Kept M s0 v3 := (State.modRing_kept (hm.mono rfl) (State.ringMove_kept (hm.mono rfl) h1_))
      try clear_value v3
      exact (KeptO.next (Kept.each h4 (fun x5 x6 h7 =>
        (State.setRng_kept (hm.mono rfl) h7))))))

theorem State.ringRetire_kept {M : Nat} {s0 : State} {p0 : State} {p1 : Nat} {p2 : Nat} (hm : Msub 5192296858540435438799272777093264 M) (h0_ : Kept M s0 p0) :
    Kept M s0 (@State.ringRetire p0 p1 p2) := by
  unfold State.ringRetire
  extract_lets -underBinder -merge v1 v2
  have h3 : Kept M s0 v1 := (State.setRingF_kept (hm.mono rfl) (State.setRingF_kept (hm.mono rfl) h0_))
  try clear_value v1
  have h7 : Kept M s0 v2 := (Kept.each h3 (fun x4 x5 h6 =>
    (State.hold_kept (hm.mono rfl) h6)))
  try clear_value v2
  exact (State.event_kept (hm.mono rfl) h7)

theorem execReacqTestDone_kept {M : Nat} {s0 : State} {p0 : Nat} {p1 : Nat} {p2 : Bool} {p3 : Int} {p4 : Int} {p5 : State} (hm : Msub 5192316665581064005024408651436176 M) (h5_ : Kept M s0 p5) :
    KeptO M s0 (@execReacqTestDone p0 p1 p2 p3 p4 p5) := by
  unfold execReacqTestDone
  extract_lets -underBinder -merge v1 v2 v3 v4 v5 v6 v7 v8 v9 v10 v11 v12
  try clear_value v2
  have h13 : Kept M s0 v3 := (State.modRing_kept (hm.mono rfl) h5_)
  try clear_value v3
  have h17 : Kept M s0 v4 := (Kept.each h13 (fun x14 x15 h16 =>
    (State.setRng_kept (hm.mono rfl) h16)))
  try clear_value v4
  try clear_value v5
  try clear_value v6
  have h18 : Kept M s0 v7 := (State.modRing_kept (hm.mono rfl) h17)
  try clear_value v7
  have h19 : Kept M s0 v8 := (State.bump_kept (hm.mono rfl) h18 (hm.has (k := 46) rfl))
  try clear_value v8
  have h20 : Kept M s0 v9 := (State.setOfsCal_kept (hm.mono rfl) (State.setOfs_kept (hm.mono rfl) h19))
  try clear_value v9
  have h21 : Kept M s0 v10 := (State.setOfsCal_kept (hm.mono rfl) (State.setOfs_kept (hm.mono rfl) h20))
  try clear_value v10
  have h22 : Kept M s0 v11 := (State.ringMove_kept (hm.mono rfl) (State.setRingLine_kept (hm.mono rfl) h21))
  try clear_value v11
  have h23 : Kept M s0 v12 := (State.modRing_kept (hm.mono rfl) h22)
  try clear_value v12
  exact (KeptO.ite (KeptO.next h5_) (KeptO.ite (KeptO.next (State.ringRetire_kept (hm.mono rfl) h17)) (KeptO.ite (KeptO.next (State.ringRetire_kept (hm.mono rfl) h21)) (KeptO.next (State.event_kept (hm.mono rfl) h23)))))

theorem State.ringTest_kept {M : Nat} {s0 : State} {p0 : State} {p1 : Nat} {p2 : Sys2Proof.Word} (hm : Msub 59421122180846228743254966273 M) (h0_ : Kept M s0 p0) :
    Kept M s0 (@State.ringTest p0 p1 p2) := by
  unfold State.ringTest
  extract_lets -underBinder -merge v1 v2 v3 v4
  try clear_value v1
  try clear_value v2
  try clear_value v3
  try clear_value v4
  exact (Kept.ite (Kept.ite (State.modRing_kept (hm.mono rfl) (State.modEng_kept (hm.mono rfl) h0_)) (State.setErr_kept (hm.mono rfl) h0_ (hm.has (k := 46) rfl))) h0_)

theorem execRingTestCmd_kept {M : Nat} {s0 : State} {p0 : Master} {p1 : Nat} {p2 : Sys2Proof.Word} {p3 : State} (hm : Msub 5192356279671765870018207225483409 M) (h3_ : Kept M s0 p3) :
    KeptO M s0 (@execRingTestCmd p0 p1 p2 p3) := by
  unfold execRingTestCmd
  exact (KeptO.next (State.gated_kept (hm.mono rfl) h3_ (fun x1 h2 =>
    (State.ringTest_kept (hm.mono rfl) h2))))

theorem State.setCal_kept {M : Nat} {s0 : State} {p0 : State} {p1 : Nat} {p2 : Nat} {p3 : Nat} (hm : Msub 2475880078570760549798248448 M) (h0_ : Kept M s0 p0) :
    Kept M s0 (@State.setCal p0 p1 p2 p3) := by
  unfold State.setCal
  exact (Kept.upd_ports (hm.mono rfl) h0_)

theorem State.calStart_kept {M : Nat} {s0 : State} {p0 : State} {p1 : Nat} (hm : Msub 42089961335702999715314401280 M) (h0_ : Kept M s0 p0) :
    Kept M s0 (@State.calStart p0 p1) := by
  unfold State.calStart
  extract_lets -underBinder -merge v1 v2
  have h3 : Kept M s0 v1 := (State.setFld_kept (hm.mono rfl) (State.setFld_kept (hm.mono rfl) h0_ (hm.has (k := 46) rfl)) (hm.has (k := 46) rfl))
  try clear_value v1
  have h7 : Kept M s0 v2 := (Kept.each h3 (fun x4 x5 h6 =>
    (State.setCal_kept (hm.mono rfl) h6)))
  try clear_value v2
  exact (Kept.ite h0_ (State.modEng_kept (hm.mono rfl) h7))

theorem execCalPeriodDue_kept {M : Nat} {s0 : State} {p0 : Nat} {p1 : State} (hm : Msub 42089961335702999715314401280 M) (h1_ : Kept M s0 p1) :
    KeptO M s0 (@execCalPeriodDue p0 p1) := by
  unfold execCalPeriodDue
  exact (KeptO.next (Kept.ite (State.calStart_kept (hm.mono rfl) h1_) h1_))

theorem execCalTempDue_kept {M : Nat} {s0 : State} {p0 : Nat} {p1 : State} (hm : Msub 42089961335702999715314401280 M) (h1_ : Kept M s0 p1) :
    KeptO M s0 (@execCalTempDue p0 p1) := by
  unfold execCalTempDue
  extract_lets -underBinder -merge v1
  try clear_value v1
  exact (KeptO.next (Kept.ite (State.calStart_kept (hm.mono rfl) h1_) h1_))

theorem State.calNow_kept {M : Nat} {s0 : State} {p0 : State} {p1 : Nat} (hm : Msub 42089961335702999715314401280 M) (h0_ : Kept M s0 p0) :
    Kept M s0 (@State.calNow p0 p1) := by
  unfold State.calNow
  exact (State.calStart_kept (hm.mono rfl) (State.setFld_kept (hm.mono rfl) h0_ (hm.has (k := 46) rfl)))

theorem execCalNow_kept {M : Nat} {s0 : State} {p0 : Master} {p1 : Nat} {p2 : State} (hm : Msub 5192338948511215874694358637744273 M) (h2_ : Kept M s0 p2) :
    KeptO M s0 (@execCalNow p0 p1 p2) := by
  unfold execCalNow
  exact (KeptO.next (State.gated_kept (hm.mono rfl) h2_ (fun x1 h2 =>
    (State.calNow_kept (hm.mono rfl) h2))))

theorem State.calActive_kept {M : Nat} {s0 : State} {p0 : State} {p1 : Nat} {p2 : Nat} (hm : Msub 70368744177664 M) (h0_ : Kept M s0 p0) :
    Kept M s0 (@State.calActive p0 p1 p2) := by
  unfold State.calActive
  exact (Kept.each h0_ (fun x1 x2 h3 =>
    (by
      extract_lets -underBinder -merge v4
      try clear_value v4
      exact (State.hold_kept (hm.mono rfl) (State.setOfsCal_kept (hm.mono rfl) (State.setOfs_kept (hm.mono rfl) h3))))))

theorem State.calTake_kept {M : Nat} {s0 : State} {p0 : State} {p1 : Nat} {p2 : Nat} {p3 : List CalMeas} (hm : Msub 5196170991893379036526524871282832 M) (h0_ : Kept M s0 p0) :
    Kept M s0 (@State.calTake p0 p1 p2 p3) := by
  unfold State.calTake
  split
  · exact h0_
  · exact (Kept.ite (Kept.ite (State.declare__kept (hm.mono rfl) h0_) h0_) (State.setOfsCal_kept (hm.mono rfl) (State.setOfs_kept (hm.mono rfl) (State.setOfsCal_kept (hm.mono rfl) (State.setOfs_kept (hm.mono rfl) h0_)))))

theorem State.calNext_kept {M : Nat} {s0 : State} {p0 : State} {p1 : Nat} {p2 : Nat} (hm : Msub 22282920707136844948184236032 M) (h0_ : Kept M s0 p0) :
    Kept M s0 (@State.calNext p0 p1 p2) := by
  unfold State.calNext
  exact (State.setCal_kept (hm.mono rfl) (State.modRing_kept (hm.mono rfl) h0_))

theorem State.calTurn_kept {M : Nat} {s0 : State} {p n : Nat} {ms : List CalMeas} {s : State} (hm : Msub 5196173467773457607287074669531280 M) (h : Kept M s0 s) :
    Kept M s0 (State.calTurn p ms n s) := by
  induction n generalizing s with
  | zero => exact h
  | succ n ih =>
    unfold State.calTurn
    extract_lets
    have next : ∀ {s r}, Kept M s0 s → Kept M s0 (s.calNext p r) := State.calNext_kept (hm.mono rfl)
    have cal : ∀ {s r t}, Kept M s0 s → Kept M s0 (s.setCal p r t) := State.setCal_kept (hm.mono rfl)
    have move : ∀ {s r g}, Kept M s0 s → Kept M s0 (s.ringMove p r g) := State.ringMove_kept (hm.mono rfl)
    have take : ∀ {s r}, Kept M s0 s → Kept M s0 (s.calTake p r ms) := State.calTake_kept (hm.mono rfl)
    refine Kept.ite h (Kept.ite (Kept.ite h (ih (next h))) (Kept.ite (next (State.calActive_kept (hm.mono rfl) h)) (Kept.ite
      (Kept.ite (cal (State.modRing_kept (hm.mono rfl) h)) (next (State.holdPair_kept (hm.mono rfl) (take h))))
      (Kept.ite (Kept.ite h (cal (move h))) (Kept.ite (Kept.ite h (Kept.ite (cal h) (cal (move (take h))))) (ih (next h)))))))

theorem State.calEdge_kept {M : Nat} {s0 : State} {p0 : State} {p1 : Nat} {p2 : List CalMeas} (hm : Msub 5196173467773457607287074669531280 M) (h0_ : Kept M s0 p0) :
    Kept M s0 (@State.calEdge p0 p1 p2) := by
  unfold State.calEdge
  exact (Kept.ite h0_ (Kept.each h0_ (fun x1 x2 h3 =>
    (State.calTurn_kept (hm.mono rfl) h3))))

theorem State.calRestart_kept {M : Nat} {s0 : State} {p0 : State} {p1 : Nat} (hm : Msub 5192319141461142575784958449684624 M) (h0_ : Kept M s0 p0) :
    Kept M s0 (@State.calRestart p0 p1) := by
  unfold State.calRestart
  exact (Kept.each h0_ (fun x1 x2 h3 =>
    (by
      extract_lets -underBinder -merge v4
      try clear_value v4
      exact (State.setCal_kept (hm.mono rfl) (Kept.each h3 (fun x5 x6 h7 =>
        (Kept.ite (State.ringMove_kept (hm.mono rfl) h7) h7)))))))

theorem execCalibrationDone_kept {M : Nat} {s0 : State} {p0 : Nat} {p1 : List CalMeas} {p2 : State} (hm : Msub 5196173467773457607287074669531280 M) (h2_ : Kept M s0 p2) :
    KeptO M s0 (@execCalibrationDone p0 p1 p2) := by
  unfold execCalibrationDone
  extract_lets -underBinder -merge v1 v2 v3 v4 v5 v6
  have h7 : Kept M s0 v1 := h2_
  try clear_value v1
  have h8 : Kept M s0 v2 := (Kept.ite h2_ (State.calEdge_kept (hm.mono rfl) h2_))
  try clear_value v2
  try clear_value v3
  have h9 : Kept M s0 v4 := (State.setFld_kept (hm.mono rfl) h8 (hm.has (k := 46) rfl))
  try clear_value v4
  have h10 : Kept M s0 v5 := (State.setFld64_kept (hm.mono rfl) h9 (hm.has (k := 46) rfl))
  try clear_value v5
  have h11 : Kept M s0 v6 := (State.event_kept (hm.mono rfl) (State.modEng_kept (hm.mono rfl) h10))
  try clear_value v6
  exact (KeptO.ite (KeptO.next h7) (KeptO.next (Kept.ite (State.calStart_kept (hm.mono rfl) h11) h11)))

theorem State.setLasSt_kept {M : Nat} {s0 : State} {p0 : State} {p1 : Nat} {p2 : Nat} (hm : Msub 17592186044416 M) (h0_ : Kept M s0 p0) :
    Kept M s0 (@State.setLasSt p0 p1 p2) := by
  unfold State.setLasSt
  exact (State.setFld_kept (hm.mono rfl) (State.setFld_kept (hm.mono rfl) h0_ (hm.has (k := 44) rfl)) (hm.has (k := 44) rfl))

theorem State.laserNotices_kept {M : Nat} {s0 : State} {p0 : State} {p1 : Nat} (hm : Msub 12998370707644409335787814912 M) (h0_ : Kept M s0 p0) :
    Kept M s0 (@State.laserNotices p0 p1) := by
  unfold State.laserNotices
  exact (Kept.each h0_ (fun x1 x2 h3 =>
    (Kept.each h3 (fun x4 x5 h6 =>
      (by
        extract_lets -underBinder -merge v7 v8 v9
        try clear_value v7
        try clear_value v8
        try clear_value v9
        exact (Kept.ite h6 (Kept.ite (State.ringNotice_kept (hm.mono rfl) h6) (State.putFlit_kept (hm.mono rfl) h6))))))))

theorem State.engineDark_kept {M : Nat} {s0 : State} {p0 : State} {p1 : Nat} (hm : Msub 5196111570771493338290921899364496 M) (h0_ : Kept M s0 p0) :
    Kept M s0 (@State.engineDark p0 p1) := by
  unfold State.engineDark
  extract_lets -underBinder -merge v1 v2
  have h6 : Kept M s0 v1 := (Kept.each h0_ (fun x3 x4 h5 =>
    (Kept.ite (State.setFld_kept (hm.mono rfl) h5 (hm.has (k := 44) rfl)) h5)))
  try clear_value v1
  have h7 : Kept M s0 v2 := (State.event_kept (hm.mono rfl) (State.setLasSt_kept (hm.mono rfl) h6))
  try clear_value v2
  exact (Kept.each h7 (fun x8 x9 h10 =>
    (by
      extract_lets -underBinder -merge v11 v12 v13 v14
      try clear_value v11
      try clear_value v12
      have h18 : Kept M s0 v13 := (Kept.each h10 (fun x15 x16 h17 =>
        (State.setRingF_kept (hm.mono rfl) (State.setRingF_kept (hm.mono rfl) (State.steerDrop_kept (hm.mono rfl) h17)))))
      try clear_value v13
      have h22 : Kept M s0 v14 := (Kept.each h18 (fun x19 x20 h21 =>
        (State.laneFail_kept (hm.mono rfl) h21)))
      try clear_value v14
      exact (State.portSync_kept (hm.mono rfl) (Kept.each h22 (fun x23 x24 h25 =>
        (Kept.ite h25 (State.bundleSync_kept (hm.mono rfl) h25))))))))

theorem State.laserForce_kept {M : Nat} {s0 : State} {p0 : State} {p1 : Nat} {p2 : Nat} (hm : Msub 5196153660732829041220268469588112 M) (h0_ : Kept M s0 p0) :
    Kept M s0 (@State.laserForce p0 p1 p2) := by
  unfold State.laserForce
  extract_lets -underBinder -merge v1 v2 v3
  try clear_value v1
  have h4 : Kept M s0 v2 := (State.setLasSt_kept (hm.mono rfl) (State.laserNotices_kept (hm.mono rfl) h0_))
  try clear_value v2
  have h5 : Kept M s0 v3 := (State.modEng_kept (hm.mono rfl) h4)
  try clear_value v3
  exact (Kept.ite (State.event_kept (hm.mono rfl) h5) (Kept.ite (State.engineDark_kept (hm.mono rfl) h0_) h0_))

theorem execAbruptLaserLoss_kept {M : Nat} {s0 : State} {p0 : Nat} {p1 : State} (hm : Msub 5196153660732829041220268469588112 M) (h1_ : Kept M s0 p1) :
    KeptO M s0 (@execAbruptLaserLoss p0 p1) := by
  unfold execAbruptLaserLoss
  exact (KeptO.next (State.laserForce_kept (hm.mono rfl) h1_))

theorem State.laserPlan_kept {M : Nat} {s0 : State} {p0 : State} {p1 : Nat} {p2 : Bool} {p3 : Bool} (hm : Msub 5192336472621692570915292990935184 M) (h0_ : Kept M s0 p0) :
    Kept M s0 (@State.laserPlan p0 p1 p2 p3) := by
  unfold State.laserPlan
  extract_lets -underBinder -merge v1
  have h2 : Kept M s0 v1 := (State.modEng_kept (hm.mono rfl) (State.setLasSt_kept (hm.mono rfl) h0_))
  try clear_value v1
  exact (State.event_kept (hm.mono rfl) h2)

theorem State.switchDefer_kept {M : Nat} {s0 : State} {p0 : State} {p1 : Nat} (hm : Msub 39614081257132168796771975168 M) (h0_ : Kept M s0 p0) :
    Kept M s0 (@State.switchDefer p0 p1) := by
  unfold State.switchDefer
  exact (Kept.ite (State.modEng_kept (hm.mono rfl) h0_) h0_)

theorem execLaserSwitchPoint_kept {M : Nat} {s0 : State} {p0 : Nat} {p1 : State} (hm : Msub 52612451964776595724745834496 M) (h1_ : Kept M s0 p1) :
    KeptO M s0 (@execLaserSwitchPoint p0 p1) := by
  unfold execLaserSwitchPoint
  exact (KeptO.next (Kept.ite (State.modEng_kept (hm.mono rfl) (State.setLasSt_kept (hm.mono rfl) (State.laserNotices_kept (hm.mono rfl) h1_))) (State.switchDefer_kept (hm.mono rfl) h1_)))

theorem State.laserFence_kept {M : Nat} {s0 : State} {p0 : State} (hm : Msub 39614081257132168796771975168 M) (h0_ : Kept M s0 p0) :
    Kept M s0 (@State.laserFence p0) := by
  unfold State.laserFence
  exact (Kept.each h0_ (fun x1 x2 h3 =>
    (Kept.ite (State.switchDefer_kept (hm.mono rfl) (State.modEng_kept (hm.mono rfl) h3)) h3)))

theorem execLaserSwitchDone_kept {M : Nat} {s0 : State} {p0 : Nat} {p1 : Bool} {p2 : State} (hm : Msub 5196151184852750470459718671339664 M) (h2_ : Kept M s0 p2) :
    KeptO M s0 (@execLaserSwitchDone p0 p1 p2) := by
  unfold execLaserSwitchDone
  extract_lets -underBinder -merge v1 v2 v3 v4 v5 v6 v7 v8
  try clear_value v1
  try clear_value v2
  have h9 : Kept M s0 v3 := (State.modEng_kept (hm.mono rfl) h2_)
  try clear_value v3
  have h10 : Kept M s0 v4 := (State.setFld_kept (hm.mono rfl) h9 (hm.has (k := 44) rfl))
  try clear_value v4
  have h11 : Kept M s0 v5 := (State.setFld_kept (hm.mono rfl) h10 (hm.has (k := 44) rfl))
  try clear_value v5
  have h12 : Kept M s0 v6 := (State.setLasSt_kept (hm.mono rfl) h11)
  try clear_value v6
  have h16 : Kept M s0 v7 := (Kept.each h12 (fun x13 x14 h15 =>
    (State.setFld64_kept (hm.mono rfl) (State.bump_kept (hm.mono rfl) h15 (hm.has (k := 44) rfl)) (hm.has (k := 44) rfl))))
  try clear_value v7
  have h20 : Kept M s0 v8 := (Kept.each h16 (fun x17 x18 h19 =>
    (State.setFld_kept (hm.mono rfl) h19 (hm.has (k := 44) rfl))))
  try clear_value v8
  exact (KeptO.ite (KeptO.next h2_) (KeptO.ite (KeptO.next (State.engineDark_kept (hm.mono rfl) h9)) (KeptO.next (State.event_kept (hm.mono rfl) h20))))

theorem State.lasCmd_kept {M : Nat} {s0 : State} {p0 : State} {p1 : Nat} {p2 : Nat} {p3 : Sys2Proof.Word} (hm : Msub 5192336472621692570915292990935185 M) (h0_ : Kept M s0 p0) :
    Kept M s0 (@State.lasCmd p0 p1 p2 p3) := by
  unfold State.lasCmd
  exact (Kept.ite (State.setErr_kept (hm.mono rfl) h0_ (hm.has (k := 44) rfl)) (Kept.ite h0_ (Kept.ite (State.laserPlan_kept (hm.mono rfl) h0_) (Kept.ite (State.modEng_kept (hm.mono rfl) h0_) h0_))))

theorem execLasCmdSwitch_kept {M : Nat} {s0 : State} {p0 : Master} {p1 : Nat} {p2 : Nat} {p3 : State} (hm : Msub 5192336472631137303881032281362577 M) (h3_ : Kept M s0 p3) :
    KeptO M s0 (@execLasCmdSwitch p0 p1 p2 p3) := by
  unfold execLasCmdSwitch
  exact (KeptO.next (State.gated_kept (hm.mono rfl) h3_ (fun x1 h2 =>
    (State.lasCmd_kept (hm.mono rfl) h2))))

theorem execLasCmdNow_kept {M : Nat} {s0 : State} {p0 : Master} {p1 : Nat} {p2 : Nat} {p3 : State} (hm : Msub 5192336472631137303881032281362577 M) (h3_ : Kept M s0 p3) :
    KeptO M s0 (@execLasCmdNow p0 p1 p2 p3) := by
  unfold execLasCmdNow
  exact (KeptO.next (State.gated_kept (hm.mono rfl) h3_ (fun x1 h2 =>
    (State.lasCmd_kept (hm.mono rfl) h2))))

theorem State.laserMeasure_kept {M : Nat} {s0 : State} {p0 : State} {p1 : LaserObs} (hm : Msub 17592186044416 M) (h0_ : Kept M s0 p0) :
    Kept M s0 (@State.laserMeasure p0 p1) := by
  unfold State.laserMeasure
  extract_lets -underBinder -merge v1 v2 v3 v4 v5
  try clear_value v2
  have h9 : Kept M s0 v3 := (Kept.each h0_ (fun x6 x7 h8 =>
    (State.setFld_kept (hm.mono rfl) h8 (hm.has (k := 44) rfl))))
  try clear_value v3
  have h13 : Kept M s0 v4 := (Kept.each h9 (fun x10 x11 h12 =>
    (State.setFld_kept (hm.mono rfl) h12 (hm.has (k := 44) rfl))))
  try clear_value v4
  have h17 : Kept M s0 v5 := by
    try dsimp -zeta only [v5]
    split
    · exact (State.setFld_kept (hm.mono rfl) (State.setFld_kept (hm.mono rfl) h13 (hm.has (k := 44) rfl)) (hm.has (k := 44) rfl))
    · exact h13
  try clear_value v5
  exact (State.setFld_kept (hm.mono rfl) (State.setFld_kept (hm.mono rfl) h17 (hm.has (k := 44) rfl)) (hm.has (k := 44) rfl))

theorem State.laserEdge_kept {M : Nat} {s0 : State} {p0 : State} {p1 : Nat} {p2 : List LaserObs} (hm : Msub 5196153660732829041220268469588112 M) (h0_ : Kept M s0 p0) :
    Kept M s0 (@State.laserEdge p0 p1 p2) := by
  unfold State.laserEdge
  extract_lets -underBinder -merge v1 v2 v3 v4 v5 v6 v7 v8 v9 v10 v11 v12
  try clear_value v1
  have h16 : Kept M s0 v2 := (Kept.each h0_ (fun x13 x14 h15 =>
    (State.laserMeasure_kept (hm.mono rfl) h15)))
  try clear_value v2
  try clear_value v3
  try clear_value v4
  try clear_value v5
  try clear_value v6
  try clear_value v7
  have h17 : Kept M s0 v8 := (State.modEng_kept (hm.mono rfl) h16)
  try clear_value v8
  try clear_value v9
  have h18 : Kept M s0 v10 := (Kept.ite (State.event_kept (hm.mono rfl) (State.setLasSt_kept (hm.mono rfl) (State.setFld_kept (hm.mono rfl) h17 (hm.has (k := 44) rfl)))) h17)
  try clear_value v10
  try clear_value v11
  have h19 : Kept M s0 v12 := (Kept.ite (State.event_kept (hm.mono rfl) (State.setFld_kept (hm.mono rfl) (State.setLasSt_kept (hm.mono rfl) h18) (hm.has (k := 44) rfl))) (Kept.ite (State.event_kept (hm.mono rfl) (State.setFld_kept (hm.mono rfl) (State.setLasSt_kept (hm.mono rfl) h18) (hm.has (k := 44) rfl))) (Kept.ite (State.event_kept (hm.mono rfl) (State.setFld_kept (hm.mono rfl) h18 (hm.has (k := 44) rfl))) h18)))
  try clear_value v12
  exact (Kept.ite h16 (Kept.ite h18 (Kept.ite (Kept.ite (State.laserForce_kept (hm.mono rfl) h18) h18) (Kept.ite (State.laserForce_kept (hm.mono rfl) h18) (Kept.ite (State.laserForce_kept (hm.mono rfl) h18) (Kept.ite (State.laserPlan_kept (hm.mono rfl) h19) h19))))))

theorem State.tblWrite_kept {M : Nat} {s0 : State} {p0 : State} {p1 : Nat} {p2 : Sys2Proof.Word} (hm : Msub 295147975548097003521 M) (h0_ : Kept M s0 p0) :
    Kept M s0 (@State.tblWrite p0 p1 p2) := by
  unfold State.tblWrite
  extract_lets -underBinder -merge v1 v2 v3
  try clear_value v1
  try clear_value v2
  try clear_value v3
  exact (Kept.ite (State.setFld_kept (hm.mono rfl) h0_ (hm.has (k := 46) rfl)) (State.setErr_kept (hm.mono rfl) h0_ (hm.has (k := 46) rfl)))

theorem execTblDataWrite_kept {M : Nat} {s0 : State} {p0 : Master} {p1 : Nat} {p2 : Sys2Proof.Word} {p3 : State} (hm : Msub 5192296858549880171765012067520657 M) (h3_ : Kept M s0 p3) :
    KeptO M s0 (@execTblDataWrite p0 p1 p2 p3) := by
  unfold execTblDataWrite
  exact (KeptO.next (State.gated_kept (hm.mono rfl) h3_ (fun x1 h2 =>
    (State.tblWrite_kept (hm.mono rfl) h2))))

theorem State.monRun_kept {M : Nat} {s0 : State} {p0 : State} {p1 : Nat} (hm : Msub 39614081257132203981144064000 M) (h0_ : Kept M s0 p0) :
    Kept M s0 (@State.monRun p0 p1) := by
  unfold State.monRun
  extract_lets -underBinder -merge v1
  have h2 : Kept M s0 v1 := (State.setFld_kept (hm.mono rfl) (State.setFld_kept (hm.mono rfl) h0_ (hm.has (k := 45) rfl)) (hm.has (k := 45) rfl))
  try clear_value v1
  exact (State.modEng_kept (hm.mono rfl) h2)

theorem State.monStart_kept {M : Nat} {s0 : State} {p0 : State} {p1 : Nat} {p2 : Sys2Proof.Word} (hm : Msub 39614081257132203981144064000 M) (h0_ : Kept M s0 p0) :
    Kept M s0 (@State.monStart p0 p1 p2) := by
  unfold State.monStart
  exact (Kept.ite h0_ (Kept.ite (State.monRun_kept (hm.mono rfl) h0_) (Kept.ite (State.modEng_kept (hm.mono rfl) (State.setFld_kept (hm.mono rfl) h0_ (hm.has (k := 45) rfl))) h0_)))

theorem execMonGoNow_kept {M : Nat} {s0 : State} {p0 : Master} {p1 : Nat} {p2 : State} (hm : Msub 5192336472631137303898624467406993 M) (h2_ : Kept M s0 p2) :
    KeptO M s0 (@execMonGoNow p0 p1 p2) := by
  unfold execMonGoNow
  exact (KeptO.next (State.gated_kept (hm.mono rfl) h2_ (fun x1 h2 =>
    (State.monStart_kept (hm.mono rfl) h2))))

theorem execMonGoAtTick_kept {M : Nat} {s0 : State} {p0 : Master} {p1 : Nat} {p2 : State} (hm : Msub 5192336472631137303898624467406993 M) (h2_ : Kept M s0 p2) :
    KeptO M s0 (@execMonGoAtTick p0 p1 p2) := by
  unfold execMonGoAtTick
  exact (KeptO.next (State.gated_kept (hm.mono rfl) h2_ (fun x1 h2 =>
    (State.monStart_kept (hm.mono rfl) h2))))

theorem execMonTickReached_kept {M : Nat} {s0 : State} {p0 : Nat} {p1 : State} (hm : Msub 39614081257132203981144064000 M) (h1_ : Kept M s0 p1) :
    KeptO M s0 (@execMonTickReached p0 p1) := by
  unfold execMonTickReached
  exact (KeptO.next (Kept.ite (State.monRun_kept (hm.mono rfl) h1_) h1_))

theorem execMonReadingDone_kept {M : Nat} {s0 : State} {p0 : Nat} {p1 : Nat} {p2 : State} (hm : Msub 39614081257132203981144064000 M) (h2_ : Kept M s0 p2) :
    KeptO M s0 (@execMonReadingDone p0 p1 p2) := by
  unfold execMonReadingDone
  extract_lets -underBinder -merge v1
  have h2 : Kept M s0 v1 := (State.setFld_kept (hm.mono rfl) h2_ (hm.has (k := 45) rfl))
  try clear_value v1
  exact (KeptO.ite (KeptO.next h2_) (KeptO.next (State.modEng_kept (hm.mono rfl) h2)))

theorem State.loopStep_kept {M : Nat} {s0 : State} {p0 : State} {p1 : RingObs} (hm : Msub 70368744177664 M) (h0_ : Kept M s0 p0) :
    Kept M s0 (@State.loopStep p0 p1) := by
  unfold State.loopStep
  extract_lets -underBinder -merge v1 v2 v3 v4 v5 v6 v7
  try clear_value v2
  try clear_value v3
  try clear_value v4
  have h8 : Kept M s0 v5 := (State.setRng_kept (hm.mono rfl) h0_)
  try clear_value v5
  try clear_value v6
  have h9 : Kept M s0 v7 := (State.setRng_kept (hm.mono rfl) h8)
  try clear_value v7
  exact (Kept.ite h8 (State.setRng_kept (hm.mono rfl) h9))

theorem State.pairEdge_kept {M : Nat} {s0 : State} {p0 : State} {p1 : Nat} {p2 : Nat} {p3 : List RingObs} (hm : Msub 5196170991893379036526524871282832 M) (h0_ : Kept M s0 p0) :
    Kept M s0 (@State.pairEdge p0 p1 p2 p3) := by
  unfold State.pairEdge
  extract_lets -underBinder -merge v1 v2 v3 v4 v5 v6 v7 v8
  try clear_value v1
  try clear_value v2
  have h15 : Kept M s0 v4 := by
    try dsimp -zeta only [v4]
    exact (by
      try dsimp -zeta only [v3]
      split
      · exact (State.loopStep_kept (hm.mono rfl) (by
          try dsimp -zeta only [v3]
          split
          · exact (State.loopStep_kept (hm.mono rfl) h0_)
          · exact h0_))
      · exact (by
          try dsimp -zeta only [v3]
          split
          · exact (State.loopStep_kept (hm.mono rfl) h0_)
          · exact h0_))
  try clear_value v4
  have h16 : Kept M s0 v6 := (State.modRing_kept (hm.mono rfl) h15)
  try clear_value v6
  try clear_value v7
  try clear_value v8
  exact (Kept.each h16 (fun x17 x18 h19 =>
    (State.lockLost_kept (hm.mono rfl) h19)))

theorem State.loopAssign_kept {M : Nat} {s0 : State} {p0 : State} {p1 : Nat} (hm : Msub 19807040628566154767130165248 M) (h0_ : Kept M s0 p0) :
    Kept M s0 (@State.loopAssign p0 p1) := by
  unfold State.loopAssign
  extract_lets -underBinder -merge v1
  try clear_value v1
  exact (Kept.each h0_ (fun x2 x3 h4 =>
    (by
      extract_lets -underBinder -merge v5 v6
      try clear_value v5
      have h7 : Kept M s0 v6 := (State.setRingF_kept (hm.mono rfl) (State.setRingF_kept (hm.mono rfl) (State.holdPair_kept (hm.mono rfl) h4)))
      try clear_value v6
      exact (Kept.ite (State.modRing_kept (hm.mono rfl) h7) (Kept.ite (State.setRingF_kept (hm.mono rfl) (State.setRingF_kept (hm.mono rfl) (State.keepCodes_kept (hm.mono rfl) h4))) h4)))))

theorem State.ringsEdge_kept {M : Nat} {s0 : State} {p0 : State} {p1 : Nat} {p2 : List RingObs} (hm : Msub 5196170991893379036526524871282832 M) (h0_ : Kept M s0 p0) :
    Kept M s0 (@State.ringsEdge p0 p1 p2) := by
  unfold State.ringsEdge
  extract_lets -underBinder -merge v1
  try clear_value v1
  exact (Kept.each h0_ (fun x2 x3 h4 =>
    (by
      extract_lets -underBinder -merge v5 v6 v7 v8
      try clear_value v5
      try clear_value v6
      have h12 : Kept M s0 v7 := (Kept.ite h4 (Kept.each h4 (fun x9 x10 h11 =>
        (State.pairEdge_kept (hm.mono rfl) h11))))
      try clear_value v7
      have h13 : Kept M s0 v8 := (Kept.ite h12 (State.loopAssign_kept (hm.mono rfl) h12))
      try clear_value v8
      exact (Kept.each h13 (fun x14 x15 h16 =>
        (State.hold_kept (hm.mono rfl) (State.hold_kept (hm.mono rfl) h16)))))))

theorem State.engTemp_kept {M : Nat} {s0 : State} {p0 : State} {p1 : Nat} {p2 : Int} (hm : Msub 5192336472621692570932885176979600 M) (h0_ : Kept M s0 p0) :
    Kept M s0 (@State.engTemp p0 p1 p2) := by
  unfold State.engTemp
  extract_lets -underBinder -merge v1 v2 v3
  try clear_value v1
  have h4 : Kept M s0 v2 := (State.setFld_kept (hm.mono rfl) h0_ (hm.has (k := 45) rfl))
  try clear_value v2
  have h5 : Kept M s0 v3 := (Kept.ite (State.event_kept (hm.mono rfl) h4) h4)
  try clear_value v3
  exact (State.modEng_kept (hm.mono rfl) h5)

theorem State.rxMargins_kept {M : Nat} {s0 : State} {p0 : State} {p1 : List RingObs} (hm : Msub 35184372088832 M) (h0_ : Kept M s0 p0) :
    Kept M s0 (@State.rxMargins p0 p1) := by
  unfold State.rxMargins
  exact (Kept.each h0_ (fun x1 x2 h3 =>
    (by
      extract_lets -underBinder -merge v4 v5
      try clear_value v4
      try clear_value v5
      exact (Kept.ite (State.setFld_kept (hm.mono rfl) h3 (hm.has (k := 45) rfl)) h3))))

theorem State.trimLane_kept {M : Nat} {s0 : State} {p0 : State} {p1 : Nat} {p2 : Nat} {p3 : Int} (hm : Msub 1099511627776 M) (h0_ : Kept M s0 p0) :
    Kept M s0 (@State.trimLane p0 p1 p2 p3) := by
  unfold State.trimLane
  extract_lets -underBinder -merge v1
  try clear_value v1
  exact (Kept.ite h0_ (Kept.each h0_ (fun x2 x3 h4 =>
    (by
      extract_lets -underBinder -merge v5 v6 v7 v8
      try clear_value v5
      try clear_value v6
      try clear_value v7
      try clear_value v8
      exact (State.setFld_kept (hm.mono rfl) h4 (hm.has (k := 40) rfl))))))

theorem State.trimEdge_kept {M : Nat} {s0 : State} {p0 : State} {p1 : Int} (hm : Msub 1099511627776 M) (h0_ : Kept M s0 p0) :
    Kept M s0 (@State.trimEdge p0 p1) := by
  unfold State.trimEdge
  exact (Kept.each h0_ (fun x1 x2 h3 =>
    (by
      extract_lets -underBinder -merge v4
      have h5 : Kept M s0 v4 := (State.setFld_kept (hm.mono rfl) h3 (hm.has (k := 40) rfl))
      try clear_value v4
      exact (Kept.each h5 (fun x6 x7 h8 =>
        (State.setFld_kept (hm.mono rfl) (State.trimLane_kept (hm.mono rfl) h8) (hm.has (k := 40) rfl)))))))

theorem State.trimLearn_kept {M : Nat} {s0 : State} {p0 : State} {p1 : Nat} {p2 : Nat} {p3 : Nat} {p4 : Nat} (hm : Msub 5192296858540435438730003544543376 M) (h0_ : Kept M s0 p0) :
    Kept M s0 (@State.trimLearn p0 p1 p2 p3 p4) := by
  unfold State.trimLearn
  extract_lets -underBinder -merge v1 v2
  have h3 : Kept M s0 v1 := (State.setFld_kept (hm.mono rfl) (State.setFld_kept (hm.mono rfl) h0_ (hm.has (k := 40) rfl)) (hm.has (k := 40) rfl))
  try clear_value v1
  try clear_value v2
  exact (Kept.ite h3 (by
    split
    · exact h3
    · extract_lets -underBinder -merge v6 v7
      try clear_value v6
      have h8 : Kept M s0 v7 := (State.setFld_kept (hm.mono rfl) (State.setFld_kept (hm.mono rfl) h3 (hm.has (k := 40) rfl)) (hm.has (k := 40) rfl))
      try clear_value v7
      exact (Kept.ite h3 (State.event_kept (hm.mono rfl) (State.bump_kept (hm.mono rfl) h8 (hm.has (k := 40) rfl))))))

theorem State.laneFigures_kept {M : Nat} {s0 : State} {p0 : State} {p1 : LaneObs} (hm : Msub 1099511627776 M) (h0_ : Kept M s0 p0) :
    Kept M s0 (@State.laneFigures p0 p1) := by
  unfold State.laneFigures
  extract_lets -underBinder -merge v1
  have h2 : Kept M s0 v1 := (State.setFld_kept (hm.mono rfl) h0_ (hm.has (k := 40) rfl))
  try clear_value v1
  split
  · exact (Kept.ite (State.setFld_kept (hm.mono rfl) h2 (hm.has (k := 40) rfl)) h2)
  · exact h2

end Sys2Proof.Machine
end

