-- ==== Sys2Proof/Laws/FrameFence.lean ====
section
/-! SUPPORT. What the operations and meanings of Machine/Fence.lean can change: one frame lemma per definition. -/
namespace Sys2Proof.Machine

theorem State.stepActions_kept {M : Nat} {s0 : State} {p0 : State} {p1 : Nat} (hm : Msub 2097152 M) (h0_ : Kept M s0 p0) :
    Kept M s0 (@State.stepActions p0 p1) := by
  unfold State.stepActions
  extract_lets -underBinder -merge v1 v2 v3 v4 v5
  try clear_value v1
  try clear_value v2
  have h6 : Kept M s0 v3 := (State.epActions_kept (hm.mono rfl) h0_)
  try clear_value v3
  have h7 : Kept M s0 v4 := (State.setFld_kept (hm.mono rfl) h6 (hm.has (k := 21) rfl))
  try clear_value v4
  have h8 : Kept M s0 v5 := (State.setFld_kept (hm.mono rfl) h7 (hm.has (k := 21) rfl))
  try clear_value v5
  exact (State.setFld_kept (hm.mono rfl) h8 (hm.has (k := 21) rfl))

theorem State.fenceBinds_kept {M : Nat} {s0 : State} {p0 : State} {p1 : Nat} (hm : Msub 5222720472945986731341123506147473 M) (h0_ : Kept M s0 p0) :
    Kept M s0 (@State.fenceBinds p0 p1) := by
  unfold State.fenceBinds
  exact (Kept.each h0_ (fun x1 x2 h3 =>
    (Kept.ite (by
      split
      · rename_i x4 x5 e6
        have Hx4 := Kept.fst e6 (State.bindApply_kept (hm.mono rfl) h3)
        exact (Kept.ite (Kept.upd_fences (hm.mono rfl) Hx4) Hx4)) h3)))

theorem State.fenceRest_kept {M : Nat} {s0 : State} {p0 : State} {p1 : Nat} {p2 : Nat} (hm : Msub 32756503023524452919967350990568647897234 M) (h0_ : Kept M s0 p0) :
    Kept M s0 (@State.fenceRest p0 p1 p2) := by
  unfold State.fenceRest
  extract_lets -underBinder -merge v1 v2
  try clear_value v1
  try clear_value v2
  split
  · rename_i x3 x4 e5
    have Hx3 := Kept.fst e5 (Kept.ite1 (State.dgFence_kept (hm.mono rfl) (State.mirFence_kept (hm.mono rfl) h0_)) (Kept.pairMk h0_))
    extract_lets -underBinder -merge v6
    have h7 : Kept M s0 v6 := (Kept.ite (State.ckStart_kept (hm.mono rfl) Hx3) Hx3)
    try clear_value v6
    exact (State.bindActions_kept (hm.mono rfl) (State.stepActions_kept (hm.mono rfl) (State.fenceRelease_kept (hm.mono rfl) h7)))

theorem State.fenceRun_kept {M : Nat} {s0 : State} {p0 : State} {p1 : Nat} {p2 : Nat} (hm : Msub 32756524127371645519585767333117032398847 M) (h0_ : Kept M s0 p0) :
    Kept M s0 (@State.fenceRun p0 p1 p2) := by
  unfold State.fenceRun
  extract_lets -underBinder -merge v1 v2 v3 v4
  try clear_value v1
  try clear_value v2
  have h5 : Kept M s0 v3 := (Kept.ite (State.epochApply_kept (hm.mono rfl) h0_) h0_)
  try clear_value v3
  have h6 : Kept M s0 v4 := (State.fenceBinds_kept (hm.mono rfl) h5)
  try clear_value v4
  exact (Kept.ite (State.fenceRest_kept (hm.mono rfl) h6) h6)

theorem State.fenceCopied_kept {M : Nat} {s0 : State} {p0 : State} {p1 : Nat} {p2 : Nat} {p3 : Nat} (hm : Msub 32756503023524452919967350990568647897234 M) (h0_ : Kept M s0 p0) :
    Kept M s0 (@State.fenceCopied p0 p1 p2 p3) := by
  unfold State.fenceCopied
  extract_lets -underBinder -merge v1
  have h2 : Kept M s0 v1 := (Kept.upd_fences (hm.mono rfl) h0_)
  try clear_value v1
  exact (Kept.ite (State.fenceRest_kept (hm.mono rfl) h2) (State.bindActions_kept (hm.mono rfl) h2))

theorem execStepFenceComplete_kept {M : Nat} {s0 : State} {p0 : Nat} {p1 : Nat} {p2 : State} (hm : Msub 32756565706350947086767268593778940706815 M) (h2_ : Kept M s0 p2) :
    KeptO M s0 (@execStepFenceComplete p0 p1 p2) := by
  unfold execStepFenceComplete
  extract_lets -underBinder -merge v1 v2
  have h3 : Kept M s0 v1 := (State.setStep_kept (hm.mono rfl) h2_)
  try clear_value v1
  have h4 : Kept M s0 v2 := (State.laserFence_kept (hm.mono rfl) (State.setFld64_kept (hm.mono rfl) h3 (hm.has (k := 21) rfl)))
  try clear_value v2
  exact (KeptO.ite (KeptO.next (Kept.ite (State.stepActions_kept (hm.mono rfl) (State.haltEnd_kept (hm.mono rfl) h4)) (State.fenceRun_kept (hm.mono rfl) h4))) (KeptO.next h2_))

theorem execBindCopyDone_kept {M : Nat} {s0 : State} {p0 : Nat} {p1 : Nat} {p2 : Nat} {p3 : State} (hm : Msub 32756503033665657721793186202544421023890 M) (h3_ : Kept M s0 p3) :
    KeptO M s0 (@execBindCopyDone p0 p1 p2 p3) := by
  unfold execBindCopyDone
  extract_lets -underBinder -merge v1 v2 v3
  try clear_value v1
  try clear_value v2
  have h4 : Kept M s0 v3 := (State.bindFinish_kept (hm.mono rfl) h3_)
  try clear_value v3
  exact (KeptO.ite (KeptO.next (by
    split
    · exact (State.fenceCopied_kept (hm.mono rfl) h4)
    · exact (State.bindActions_kept (hm.mono rfl) h4))) (KeptO.next h3_))

end Sys2Proof.Machine
end

