-- ==== Sys2Proof/Laws/FrameNmuRows.lean ====
section
/-! SUPPORT. What the operations and meanings of Machine/NmuRows.lean can change: one frame lemma per definition. -/
namespace Sys2Proof.Machine

theorem execNmuCmdStart_kept {M : Nat} {s0 : State} {p0 : Nat} {p1 : State} (hm : Msub 32795216768619278991114003947252021801362 M) (h1_ : Kept M s0 p1) :
    KeptO M s0 (@execNmuCmdStart p0 p1) := by
  unfold execNmuCmdStart
  extract_lets -underBinder -merge v1
  try clear_value v1
  exact (KeptO.ite (KeptO.next h1_) (by
    split
    · exact (KeptO.next h1_)
    · extract_lets -underBinder -merge v5
      try clear_value v5
      exact (KeptO.ite (KeptO.next (State.contPump_kept (hm.mono rfl) (State.nmuLeave_kept (hm.mono rfl) (State.setNmu_kept (hm.mono rfl) h1_)))) (KeptO.ite (KeptO.next (State.contPump_kept (hm.mono rfl) (State.nmuReject_kept (hm.mono rfl) (State.setNmu_kept (hm.mono rfl) h1_)))) (KeptO.ite (KeptO.next (State.setNmu_kept (hm.mono rfl) h1_)) (KeptO.next (State.setNmu_kept (hm.mono rfl) h1_)))))))

theorem execNmuCmdComplete_kept {M : Nat} {s0 : State} {p0 : Nat} {p1 : Nat} {p2 : State} (hm : Msub 32795216768619278991114003947252021801362 M) (h2_ : Kept M s0 p2) :
    KeptO M s0 (@execNmuCmdComplete p0 p1 p2) := by
  unfold execNmuCmdComplete
  extract_lets -underBinder -merge v1
  try clear_value v1
  split
  · exact (KeptO.next h2_)
  · exact (KeptO.ite (KeptO.next h2_) (KeptO.next (State.contPump_kept (hm.mono rfl) (State.nmuLeave_kept (hm.mono rfl) (State.setNmu_kept (hm.mono rfl) h2_)))))

end Sys2Proof.Machine
end

