-- ==== Sys2Proof/Laws/FrameReset.lean ====
section
/-! SUPPORT. What the operations and meanings of Machine/Reset.lean can change: one frame lemma per definition. -/
namespace Sys2Proof.Machine

theorem State.unitFault_kept {M : Nat} {s0 : State} {p0 : State} {p1 : Option Nat} {p2 : Nat} {p3 : Nat} {p4 : List Item} {p5 : Nat} {p6 : Nat} {p7 : Nat} {p8 : Bool} (hm : Msub 85075784027098067562424565194607833232 M) (h0_ : Kept M s0 p0) :
    Kept M s0 (@State.unitFault p0 p1 p2 p3 p4 p5 p6 p7 p8).1 := by
  unfold State.unitFault
  extract_lets -underBinder -merge v1
  try clear_value v1
  split
  · extract_lets -underBinder -merge v3 v4 v5
    try clear_value v3
    try clear_value v4
    have h6 : Kept M s0 v5 := (State.faultRecord_kept (hm.mono rfl) h0_)
    try clear_value v5
    exact (Kept.ite1 (Kept.pairMk (State.endProgram_kept (hm.mono rfl) (State.event_kept (hm.mono rfl) h6))) (Kept.pairMk (State.event_kept (hm.mono rfl) (State.faultRecord_kept (hm.mono rfl) h0_))))
  · exact (Kept.pairMk (State.event_kept (hm.mono rfl) (State.faultRecord_kept (hm.mono rfl) h0_)))

theorem State.recLevel_kept {M : Nat} {s0 : State} {p0 : State} {p1 : Option (Nat × Nat)} {p2 : Nat} (hm : Msub 85070591730234615865843651857942061056 M) (h0_ : Kept M s0 p0) :
    Kept M s0 (@State.recLevel p0 p1 p2) := by
  unfold State.recLevel
  split
  · extract_lets -underBinder -merge v3 v4
    try clear_value v3
    try clear_value v4
    exact (Kept.ite (State.faultWindow_kept (hm.mono rfl) (Kept.upd_faults (hm.mono rfl) h0_)) h0_)
  · exact h0_

theorem State.rstSync_kept {M : Nat} {s0 : State} {p0 : State} (hm : Msub 32768 M) (h0_ : Kept M s0 p0) :
    Kept M s0 (@State.rstSync p0) := by
  unfold State.rstSync
  extract_lets -underBinder -merge v1
  try clear_value v1
  exact (State.setFld_kept (hm.mono rfl) h0_ (hm.has (k := 15) rfl))

theorem State.rstPrograms_kept {M : Nat} {s0 : State} {p0 : State} {p1 : RstRun} (hm : Msub 85070591730239527126985836290574917632 M) (h0_ : Kept M s0 p0) :
    Kept M s0 (@State.rstPrograms p0 p1) := by
  unfold State.rstPrograms
  extract_lets -underBinder -merge v1 v2 v3 v4
  try clear_value v1
  try clear_value v2
  have h12 : Kept M s0 v3 := (Kept.each h0_ (fun x5 x6 h7 =>
    (by
      extract_lets -underBinder -merge v8 v9 v10 v11
      try clear_value v8
      try clear_value v9
      try clear_value v10
      try clear_value v11
      exact (Kept.ite (State.endProgram_kept (hm.mono rfl) (State.faultRecord_kept (hm.mono rfl) h7)) h7))))
  try clear_value v3
  exact (Kept.each h12 (fun x13 x14 h15 =>
    (Kept.ite (State.modSeq_kept (hm.mono rfl) h15) h15)))

theorem State.rstBinds_kept {M : Nat} {s0 : State} {p0 : State} {p1 : RstRun} (hm : Msub 32761819945648797385284801430785609511058 M) (h0_ : Kept M s0 p0) :
    Kept M s0 (@State.rstBinds p0 p1) := by
  unfold State.rstBinds
  exact (Kept.each h0_ (fun x1 x2 h3 =>
    (by
      extract_lets -underBinder -merge v4 v5 v6 v7
      try clear_value v4
      have h8 : Kept M s0 v6 := (State.setBindArm_kept (hm.mono rfl) (State.setBindX_kept (hm.mono rfl) h3))
      try clear_value v6
      have h11 : Kept M s0 v7 := (Kept.ite (by
        split
        · exact (State.fenceCopied_kept (hm.mono rfl) h8)
        · exact h8) h3)
      try clear_value v7
      exact (Kept.each h11 (fun x12 x13 h14 =>
        (Kept.ite (State.swapAbandon_kept (hm.mono rfl) h14) h14))))))

theorem State.startReset_kept {M : Nat} {s0 : State} {p0 : State} {p1 : RstRun} (hm : Msub 32761861484023975150096242640542379389074 M) (h0_ : Kept M s0 p0) :
    Kept M s0 (@State.startReset p0 p1) := by
  unfold State.startReset
  extract_lets -underBinder -merge v1
  try clear_value v1
  exact (Kept.ite h0_ (by
    split
    · extract_lets -underBinder -merge v3
      have h4 : Kept M s0 v3 := (Kept.upd_resets (hm.mono rfl) h0_)
      try clear_value v3
      exact (State.recLevel_kept (hm.mono rfl) h4)
    · extract_lets -underBinder -merge v6 v7 v8 v9 v10 v11 v12 v13 v14
      have h15 : Kept M s0 v6 := (State.event_kept (hm.mono rfl) h0_)
      try clear_value v6
      have h16 : Kept M s0 v7 := (State.setFld_kept (hm.mono rfl) h15 (hm.has (k := 15) rfl))
      try clear_value v7
      have h17 : Kept M s0 v8 := (State.rstPrograms_kept (hm.mono rfl) (State.rstBinds_kept (hm.mono rfl) h16))
      try clear_value v8
      try clear_value v9
      try clear_value v10
      have h18 : Kept M s0 v11 := (Kept.upd_resets (hm.mono rfl) h17)
      try clear_value v11
      have h22 : Kept M s0 v12 := (Kept.each h18 (fun x19 x20 h21 =>
        (State.ftAbort_kept (hm.mono rfl) h21)))
      try clear_value v12
      try clear_value v13
      have h23 : Kept M s0 v14 := (Kept.ite (Kept.upd_mod_ (hm.mono rfl) h22) h22)
      try clear_value v14
      exact (State.rstSync_kept (hm.mono rfl) (State.bindActions_kept (hm.mono rfl) (State.collPurge_kept (hm.mono rfl) h23)))))

theorem State.rstCmd_kept {M : Nat} {s0 : State} {p0 : State} {p1 : Nat} {p2 : Nat} (hm : Msub 32761861484023975150096242640542379389075 M) (h0_ : Kept M s0 p0) :
    Kept M s0 (@State.rstCmd p0 p1 p2) := by
  unfold State.rstCmd
  exact (Kept.ite (State.setErr_kept (hm.mono rfl) h0_ (hm.has (k := 15) rfl)) (State.startReset_kept (hm.mono rfl) h0_))

theorem State.rstGo_kept {M : Nat} {s0 : State} {p0 : State} {p1 : Sys2Proof.Word} (hm : Msub 32761861484023975150096242640542379389075 M) (h0_ : Kept M s0 p0) :
    Kept M s0 (@State.rstGo p0 p1) := by
  unfold State.rstGo
  exact (Kept.ite (State.rstCmd_kept (hm.mono rfl) h0_) h0_)

theorem execRstGo_kept {M : Nat} {s0 : State} {p0 : Master} {p1 : State} (hm : Msub 32761861484023975159540975606281669816467 M) (h1_ : Kept M s0 p1) :
    KeptO M s0 (@execRstGo p0 p1) := by
  unfold execRstGo
  exact (KeptO.next (State.gated_kept (hm.mono rfl) h1_ (fun x1 h2 =>
    (State.rstGo_kept (hm.mono rfl) h2))))

theorem State.unitReset_kept {M : Nat} {s0 : State} {p0 : State} {p1 : Page} {p2 : Sys2Proof.Word} (hm : Msub 32761861484023975150096242640542379389075 M) (h0_ : Kept M s0 p0) :
    Kept M s0 (@State.unitReset p0 p1 p2) := by
  unfold State.unitReset
  exact (Kept.ite (by
    split
    · exact (State.rstCmd_kept (hm.mono rfl) h0_)
    · exact h0_) h0_)

theorem execUnitReset_kept {M : Nat} {s0 : State} {p0 : Master} {p1 : Nat} {p2 : State} (hm : Msub 32761861484023975159540975606281669816467 M) (h2_ : Kept M s0 p2) :
    KeptO M s0 (@execUnitReset p0 p1 p2) := by
  unfold execUnitReset
  split
  · rename_i x1 e2
    exact (KeptO.next (State.gated_kept (hm.mono rfl) h2_ (fun x3 h4 =>
      (State.unitReset_kept (hm.mono rfl) h4))))
  · exact (KeptO.next h2_)

theorem State.rstCore_kept {M : Nat} {s0 : State} {p0 : State} {p1 : Nat} (hm : Msub 4835703278458518309437440 M) (h0_ : Kept M s0 p0) :
    Kept M s0 (@State.rstCore p0 p1) := by
  unfold State.rstCore
  exact (State.coreSync_kept (hm.mono rfl) (State.modSeq_kept (hm.mono rfl) h0_))

theorem State.rstPages_kept {M : Nat} {s0 : State} {p0 : State} {p1 : Nat} (hm : Msub 18446744073709551615 M) (h0_ : Kept M s0 p0) :
    Kept M s0 (@State.rstPages p0 p1) := by
  unfold State.rstPages
  extract_lets -underBinder -merge v1
  exact (State.semHeldUpdate_kept (hm.mono rfl) (Kept.upd_regs (hm.mono rfl) (fun h => smWf_filter _ h) h0_))

theorem State.rstSram_kept {M : Nat} {s0 : State} {p0 : State} (hm : Msub 73786976294838206464 M) (h0_ : Kept M s0 p0) :
    Kept M s0 (@State.rstSram p0) := by
  unfold State.rstSram
  exact (Kept.upd_mem (hm.mono rfl) (fun h => smWf_filter _ h) h0_)

theorem execResetDone_kept {M : Nat} {s0 : State} {p0 : Nat} {p1 : Nat} {p2 : Nat} {p3 : State} (hm : Msub 15576890889932076620934568074018815 M) (h3_ : Kept M s0 p3) :
    KeptO M s0 (@execResetDone p0 p1 p2 p3) := by
  unfold execResetDone
  split
  · exact (KeptO.next h3_)
  · extract_lets -underBinder -merge v3 v4 v5 v6 v7 v8 v9 v10
    have h11 : Kept M s0 v3 := (Kept.upd_resets (hm.mono rfl) h3_)
    try clear_value v3
    try clear_value v4
    have h18 : Kept M s0 v5 := (Kept.ite (Kept.each h11 (fun x12 x13 h14 =>
      (State.coreSync_kept (hm.mono rfl) h14))) (Kept.each h11 (fun x15 x16 h17 =>
      (State.rstCore_kept (hm.mono rfl) h17))))
    try clear_value v5
    have h25 : Kept M s0 v6 := by
      try dsimp -zeta only [v6]
      split
      · exact (State.rstPages_kept (hm.mono rfl) h18)
      · extract_lets -underBinder -merge v21 v22
        have h23 : Kept M s0 v21 := (State.rstSram_kept (hm.mono rfl) (State.rstPages_kept (hm.mono rfl) (State.rstPages_kept (hm.mono rfl) h18)))
        try clear_value v21
        try clear_value v22
        exact (Kept.upd_mod_ (hm.mono rfl) h23)
      · exact h18
    try clear_value v6
    have h29 : Kept M s0 v7 := (Kept.ite (Kept.each h25 (fun x26 x27 h28 =>
      (State.bindSync_kept (hm.mono rfl) h28))) h25)
    try clear_value v7
    have h30 : Kept M s0 v8 := (State.setFld_kept (hm.mono rfl) h29 (hm.has (k := 15) rfl))
    try clear_value v8
    have h31 : Kept M s0 v9 := (State.bump_kept (hm.mono rfl) h30 (hm.has (k := 15) rfl))
    try clear_value v9
    have h32 : Kept M s0 v10 := (Kept.upd_ftNow (hm.mono rfl) h31)
    try clear_value v10
    exact (KeptO.next (State.bindActions_kept (hm.mono rfl) (State.event_kept (hm.mono rfl) (State.rstSync_kept (hm.mono rfl) h32))))

theorem execResetEscalate_kept {M : Nat} {s0 : State} {p0 : Nat} {p1 : Nat} {p2 : State} (hm : Msub 32761861484023975150096242640542379389074 M) (h2_ : Kept M s0 p2) :
    KeptO M s0 (@execResetEscalate p0 p1 p2) := by
  unfold execResetEscalate
  split
  · exact (KeptO.next h2_)
  · extract_lets -underBinder -merge v3 v4 v5 v6
    have h7 : Kept M s0 v3 := (Kept.upd_resets (hm.mono rfl) h2_)
    try clear_value v3
    try clear_value v4
    have h8 : Kept M s0 v5 := (State.event_kept (hm.mono rfl) (State.bump_kept (hm.mono rfl) h7 (hm.has (k := 15) rfl)))
    try clear_value v5
    have h9 : Kept M s0 v6 := (State.startReset_kept (hm.mono rfl) h8)
    try clear_value v6
    exact (KeptO.ite (KeptO.next (State.rstSync_kept (hm.mono rfl) (State.recLevel_kept (hm.mono rfl) h9))) (KeptO.next h2_))

theorem State.moduleFail_kept {M : Nat} {s0 : State} {p0 : State} (hm : Msub 32752224550630920104540184403434354749587 M) (h0_ : Kept M s0 p0) :
    Kept M s0 (@State.moduleFail p0) := by
  unfold State.moduleFail
  extract_lets -underBinder -merge v1 v2 v3 v4 v5 v6
  have h7 : Kept M s0 v1 := (State.setFld_kept (hm.mono rfl) (State.rstSync_kept (hm.mono rfl) (Kept.upd_resets (hm.mono rfl) h0_)) (hm.has (k := 15) rfl))
  try clear_value v1
  have h8 : Kept M s0 v2 := (State.event_kept (hm.mono rfl) (State.setFld_kept (hm.mono rfl) h7 (hm.has (k := 0) rfl)))
  try clear_value v2
  have h9 : Kept M s0 v3 := (Kept.ite (State.snapAbort_kept (hm.mono rfl) h8) h8)
  try clear_value v3
  try clear_value v4
  have h13 : Kept M s0 v5 := (Kept.each h9 (fun x10 x11 h12 =>
    (State.ctxTear_kept (hm.mono rfl) h12)))
  try clear_value v5
  try clear_value v6
  exact (Kept.ite h0_ (Kept.upd_mod_ (hm.mono rfl) h13))

theorem execModuleFail_kept {M : Nat} {s0 : State} {p0 : State} (hm : Msub 32752224550630920104540184403434354749587 M) (h0_ : Kept M s0 p0) :
    KeptO M s0 (@execModuleFail p0) := by
  unfold execModuleFail
  exact (KeptO.ite (KeptO.next (State.moduleFail_kept (hm.mono rfl) h0_)) (KeptO.next h0_))

end Sys2Proof.Machine
end

