-- ==== Sys2Proof/Laws/FrameWatch.lean ====
section
/-! SUPPORT. What the operations and meanings of Machine/Watch.lean can change: one frame lemma per definition. -/
namespace Sys2Proof.Machine

theorem State.checkTransient_kept {M : Nat} {s0 : State} {p0 : State} {p1 : Nat} (hm : Msub 5192296858540435438728904032923792 M) (h0_ : Kept M s0 p0) :
    Kept M s0 (@State.checkTransient p0 p1) := by
  unfold State.checkTransient
  exact (State.event_kept (hm.mono rfl) (State.bump_kept (hm.mono rfl) h0_ (hm.has (k := 13) rfl)))

theorem State.checkLasting_kept {M : Nat} {s0 : State} {p0 : State} {p1 : Nat} {p2 : Nat} {p3 : Option Nat} (hm : Msub 32761861484023975150096242640542379389074 M) (h0_ : Kept M s0 p0) :
    Kept M s0 (@State.checkLasting p0 p1 p2 p3) := by
  unfold State.checkLasting
  extract_lets -underBinder -merge v1 v2 v3
  try clear_value v1
  try clear_value v2
  try clear_value v3
  split
  · split
    · rename_i x7 x8 x9 e10
      have Hx7 := Kept.fst e10 (State.unitFault_kept (hm.mono rfl) (State.bump_kept (hm.mono rfl) h0_ (hm.has (k := 13) rfl)))
      exact (State.startReset_kept (hm.mono rfl) Hx7)

theorem execDescriptorComplete_kept {M : Nat} {s0 : State} {p0 : Nat} {p1 : Nat} {p2 : UnitCheck} {p3 : State} (hm : Msub 32761861484023975150096242640542379389074 M) (h3_ : Kept M s0 p3) :
    KeptO M s0 (@execDescriptorComplete p0 p1 p2 p3) := by
  unfold execDescriptorComplete
  extract_lets -underBinder -merge v1 v2
  have h3 : Kept M s0 v1 := (State.flushSigs_kept (hm.mono rfl) h3_)
  try clear_value v1
  try clear_value v2
  split
  · exact (KeptO.next h3)
  · extract_lets -underBinder -merge v6 v7 v8 v9 v10 v11
    try clear_value v6
    try clear_value v7
    try clear_value v8
    try clear_value v11
    exact (KeptO.ite (KeptO.next (by
      split
      · exact (Kept.ite (State.retire_kept (hm.mono rfl) h3) (Kept.ite (State.checkLasting_kept (hm.mono rfl) h3) (State.retire_kept (hm.mono rfl) (State.checkTransient_kept (hm.mono rfl) h3))))
      · exact (Kept.ite (State.checkLasting_kept (hm.mono rfl) h3) (State.retire_kept (hm.mono rfl) h3))
      · exact (State.retire_kept (hm.mono rfl) (State.bump_kept (hm.mono rfl) h3 (hm.has (k := 13) rfl)))
      · exact (State.retire_kept (hm.mono rfl) (State.checkTransient_kept (hm.mono rfl) h3))
      · extract_lets -underBinder -merge v17
        have h18 : Kept M s0 v17 := (State.event_kept (hm.mono rfl) (State.bump_kept (hm.mono rfl) h3 (hm.has (k := 13) rfl)))
        try clear_value v17
        exact (State.progFault_kept (hm.mono rfl) h18)
      · exact (State.retire_kept (hm.mono rfl) h3))) (KeptO.next h3))

theorem execContextWatchdog_kept {M : Nat} {s0 : State} {p0 : Nat} {p1 : State} (hm : Msub 85075784027098067562424565194607849616 M) (h1_ : Kept M s0 p1) :
    KeptO M s0 (@execContextWatchdog p0 p1) := by
  unfold execContextWatchdog
  extract_lets -underBinder -merge v1 v2 v3
  try clear_value v1
  try clear_value v2
  try clear_value v3
  exact (KeptO.ite (KeptO.next (State.unitFault_kept (hm.mono rfl) (State.bump_kept (hm.mono rfl) h1_ (hm.has (k := 14) rfl)))) (KeptO.next h1_))

theorem State.wdReset_kept {M : Nat} {s0 : State} {p0 : State} {p1 : Option Nat} {p2 : Nat} {p3 : Nat} {p4 : Nat} {p5 : Nat} {p6 : Nat} (hm : Msub 32761861484023975150096242640542379389074 M) (h0_ : Kept M s0 p0) :
    Kept M s0 (@State.wdReset p0 p1 p2 p3 p4 p5 p6) := by
  unfold State.wdReset
  split
  · rename_i x1 x2 x3 e4
    have Hx1 := Kept.fst e4 (State.unitFault_kept (hm.mono rfl) h0_)
    exact (State.startReset_kept (hm.mono rfl) Hx1)

theorem execEngineWatchdog_kept {M : Nat} {s0 : State} {p0 : Nat} {p1 : Nat} {p2 : Nat} {p3 : Nat} {p4 : State} (hm : Msub 32761861484023975150096242640542379405458 M) (h4_ : Kept M s0 p4) :
    KeptO M s0 (@execEngineWatchdog p0 p1 p2 p3 p4) := by
  unfold execEngineWatchdog
  extract_lets -underBinder -merge v1 v2 v3 v4 v5
  try clear_value v1
  try clear_value v2
  try clear_value v3
  try clear_value v4
  try clear_value v5
  exact (KeptO.ite (KeptO.next (State.wdReset_kept (hm.mono rfl) (State.bump_kept (hm.mono rfl) h4_ (hm.has (k := 14) rfl)))) (KeptO.next h4_))

theorem execSequencerWatchdog_kept {M : Nat} {s0 : State} {p0 : Nat} {p1 : Nat} {p2 : Nat} {p3 : State} (hm : Msub 32761861484023975150096242640542379405458 M) (h3_ : Kept M s0 p3) :
    KeptO M s0 (@execSequencerWatchdog p0 p1 p2 p3) := by
  unfold execSequencerWatchdog
  extract_lets -underBinder -merge v1 v2 v3 v4
  try clear_value v1
  try clear_value v2
  try clear_value v3
  try clear_value v4
  exact (KeptO.ite (KeptO.next (State.wdReset_kept (hm.mono rfl) (State.bump_kept (hm.mono rfl) h3_ (hm.has (k := 14) rfl)))) (KeptO.next h3_))

theorem execProgramEndWatchdog_kept {M : Nat} {s0 : State} {p0 : Nat} {p1 : State} (hm : Msub 32761861484023975150096242640542379405458 M) (h1_ : Kept M s0 p1) :
    KeptO M s0 (@execProgramEndWatchdog p0 p1) := by
  unfold execProgramEndWatchdog
  extract_lets -underBinder -merge v1 v2
  try clear_value v1
  try clear_value v2
  exact (KeptO.ite (KeptO.next (State.wdReset_kept (hm.mono rfl) (State.bump_kept (hm.mono rfl) h1_ (hm.has (k := 14) rfl)))) (KeptO.next h1_))

theorem State.nmuReset_kept {M : Nat} {s0 : State} {p0 : State} {p1 : Nat} (hm : Msub 32752681472754161683181082121323050774674 M) (h0_ : Kept M s0 p0) :
    Kept M s0 (@State.nmuReset p0 p1) := by
  unfold State.nmuReset
  extract_lets -underBinder -merge v1 v2 v3 v4
  try clear_value v1
  try clear_value v2
  have h5 : Kept M s0 v3 := (State.setNmu_kept (hm.mono rfl) h0_)
  try clear_value v3
  have h9 : Kept M s0 v4 := (Kept.each h5 (fun x6 x7 h8 =>
    (Kept.ite (Kept.upd_nmuDone (hm.mono rfl) h8) (Kept.ite (State.nmcallFault_kept (hm.mono rfl) h8) h8))))
  try clear_value v4
  exact (State.contPump_kept (hm.mono rfl) h9)

theorem execNmuWatchdog_kept {M : Nat} {s0 : State} {p0 : Nat} {p1 : State} (hm : Msub 32752681472754161683181082121323050791058 M) (h1_ : Kept M s0 p1) :
    KeptO M s0 (@execNmuWatchdog p0 p1) := by
  unfold execNmuWatchdog
  extract_lets -underBinder -merge v1
  try clear_value v1
  split
  · exact (KeptO.next h1_)
  · extract_lets -underBinder -merge v5 v6 v7
    try clear_value v5
    try clear_value v6
    try clear_value v7
    exact (KeptO.ite (KeptO.next (State.nmuReset_kept (hm.mono rfl) (State.event_kept (hm.mono rfl) (State.faultRecord_kept (hm.mono rfl) (State.bump_kept (hm.mono rfl) h1_ (hm.has (k := 14) rfl)))))) (KeptO.next h1_))

theorem execNmuDatapathResetDone_kept {M : Nat} {s0 : State} {p0 : Nat} {p1 : State} (hm : Msub 5192296935911687894065205573882000 M) (h1_ : Kept M s0 p1) :
    KeptO M s0 (@execNmuDatapathResetDone p0 p1) := by
  unfold execNmuDatapathResetDone
  extract_lets -underBinder -merge v1
  try clear_value v1
  exact (KeptO.ite (KeptO.next (State.event_kept (hm.mono rfl) (State.bump_kept (hm.mono rfl) (State.setNmu_kept (hm.mono rfl) h1_) (hm.has (k := 15) rfl)))) (KeptO.next h1_))

theorem execNmuFail_kept {M : Nat} {s0 : State} {p0 : Nat} {p1 : State} (hm : Msub 5192296935911687894065205573849232 M) (h1_ : Kept M s0 p1) :
    KeptO M s0 (@execNmuFail p0 p1) := by
  unfold execNmuFail
  extract_lets -underBinder -merge v1
  try clear_value v1
  exact (KeptO.ite (KeptO.next (State.event_kept (hm.mono rfl) (State.setNmu_kept (hm.mono rfl) h1_))) (KeptO.next h1_))

end Sys2Proof.Machine
end

