-- ==== Sys2Proof/Laws/FrameFwOps.lean ====
section
/-! SUPPORT. What the operations and meanings of Machine/FwOps.lean can change: one frame lemma per definition. -/
namespace Sys2Proof.Machine

theorem State.modProc_kept {M : Nat} {s0 : State} {p0 : State} {p1 : Nat} {p2 : ProcX → ProcX} (hm : Msub 1361129467683753853853498429727072845824 M) (h0_ : Kept M s0 p0) :
    Kept M s0 (@State.modProc p0 p1 p2) := by
  unfold State.modProc
  exact (Kept.upd_procs (hm.mono rfl) h0_)

theorem State.setProcSt_kept {M : Nat} {s0 : State} {p0 : State} {p1 : Nat} {p2 : Nat} (hm : Msub 1024 M) (h0_ : Kept M s0 p0) :
    Kept M s0 (@State.setProcSt p0 p1 p2) := by
  unfold State.setProcSt
  exact (State.setFld_kept (hm.mono rfl) h0_ (hm.has (k := 10) rfl))

theorem State.setProbation_kept {M : Nat} {s0 : State} {p0 : State} {p1 : Nat} {p2 : Bool} (hm : Msub 1024 M) (h0_ : Kept M s0 p0) :
    Kept M s0 (@State.setProbation p0 p1 p2) := by
  unfold State.setProbation
  exact (State.setFld_kept (hm.mono rfl) h0_ (hm.has (k := 10) rfl))

theorem State.procImg_kept {M : Nat} {s0 : State} {p0 : State} {p1 : Nat} {p2 : Nat} (hm : Msub 1024 M) (h0_ : Kept M s0 p0) :
    Kept M s0 (@State.procImg p0 p1 p2) := by
  unfold State.procImg
  extract_lets -underBinder -merge v1
  try clear_value v1
  exact (State.setFld_kept (hm.mono rfl) (State.setFld_kept (hm.mono rfl) h0_ (hm.has (k := 10) rfl)) (hm.has (k := 10) rfl))

theorem State.mboxBytes_kept {M : Nat} {s0 : State} {p0 : State} {p1 : Nat} {p2 : Nat} {p3 : List Sys2Proof.Byte} (hm : Msub 680564733841876926926749214863536422912 M) (h0_ : Kept M s0 p0) :
    Kept M s0 (@State.mboxBytes p0 p1 p2 p3) := by
  unfold State.mboxBytes
  exact (Kept.upd_mboxMem (hm.mono rfl) h0_)

theorem State.mboxAnswer_kept {M : Nat} {s0 : State} {p0 : State} {p1 : Nat} {p2 : Nat} {p3 : List Sys2Proof.Byte} (hm : Msub 1020847100762815390685271727474657460224 M) (h0_ : Kept M s0 p0) :
    Kept M s0 (@State.mboxAnswer p0 p1 p2 p3) := by
  unfold State.mboxAnswer
  extract_lets -underBinder -merge v1 v2 v3 v4 v5
  try clear_value v1
  have h6 : Kept M s0 v2 := (State.mboxBytes_kept (hm.mono rfl) h0_)
  try clear_value v2
  try clear_value v3
  have h7 : Kept M s0 v4 := (State.mboxBytes_kept (hm.mono rfl) h6)
  try clear_value v4
  have h8 : Kept M s0 v5 := (Kept.upd_mbox (hm.mono rfl) h7)
  try clear_value v5
  exact (Kept.ite (Kept.ite (State.emit_kept (hm.mono rfl) h8) h8) h0_)

theorem State.mboxFlush_kept {M : Nat} {s0 : State} {p0 : State} {p1 : Nat} {p2 : Nat} (hm : Msub 1020847100762815390685271727474657460224 M) (h0_ : Kept M s0 p0) :
    Kept M s0 (@State.mboxFlush p0 p1 p2) := by
  unfold State.mboxFlush
  exact (Kept.each h0_ (fun x1 x2 h3 =>
    (State.mboxAnswer_kept (hm.mono rfl) h3)))

theorem State.mboxPost_kept {M : Nat} {s0 : State} {p0 : State} {p1 : Master} {p2 : Nat} {p3 : Nat} {p4 : MHdr} (hm : Msub 1020852293059673930825562551199337549968 M) (h0_ : Kept M s0 p0) :
    Kept M s0 (@State.mboxPost p0 p1 p2 p3 p4).1 := by
  unfold State.mboxPost
  extract_lets -underBinder -merge v1 v2 v3 v4 v5
  try clear_value v1
  try clear_value v2
  try clear_value v3
  try clear_value v4
  have h6 : Kept M s0 v5 := (Kept.ite h0_ (State.mboxBytes_kept (hm.mono rfl) (Kept.upd_mbox (hm.mono rfl) h0_)))
  try clear_value v5
  exact (Kept.ite1 (Kept.pairMk h0_) (Kept.ite1 (Kept.pairMk (State.event_kept (hm.mono rfl) h0_)) (Kept.ite1 (Kept.pairMk (State.event_kept (hm.mono rfl) h0_)) (by
    split
    · exact (Kept.pairMk (State.mboxAnswer_kept (hm.mono rfl) h6))
    · exact (Kept.pairMk h6)))))

theorem State.request_kept {M : Nat} {s0 : State} {p0 : State} {p1 : Master} {p2 : Nat} {p3 : Nat} {p4 : MHdr} {p5 : State → State × Nat × List Sys2Proof.Byte} (hm : Msub 1020852293059673930825562551199337549968 M) (h0_ : Kept M s0 p0) (f5_ : ∀ y0, Kept M s0 y0 → Kept M s0 (p5 y0).1) :
    Kept M s0 (@State.request p0 p1 p2 p3 p4 p5) := by
  unfold State.request
  split
  · rename_i x1 e2
    have Hx1 := Kept.fst e2 (State.mboxPost_kept (hm.mono rfl) h0_)
    split
    · rename_i x3 x4 x5 e6
      have Hx3 := Kept.fst e6 (f5_ _ Hx1)
      exact (State.mboxAnswer_kept (hm.mono rfl) Hx3)
  · rename_i x7 e8
    have Hx7 := Kept.fst e8 (State.mboxPost_kept (hm.mono rfl) h0_)
    exact Hx7

theorem State.procAbandon_kept {M : Nat} {s0 : State} {p0 : State} {p1 : Nat} (hm : Msub 33773528573539259994278342999674986770578 M) (h0_ : Kept M s0 p0) :
    Kept M s0 (@State.procAbandon p0 p1) := by
  unfold State.procAbandon
  extract_lets -underBinder -merge v1
  have h5 : Kept M s0 v1 := (Kept.each h0_ (fun x2 x3 h4 =>
    (Kept.ite (State.calRestart_kept (hm.mono rfl) h4) h4)))
  try clear_value v1
  exact (Kept.ite (State.mboxFlush_kept (hm.mono rfl) h0_) (Kept.ite (Kept.each h5 (fun x6 x7 h8 =>
    (Kept.ite (State.ringMove_kept (hm.mono rfl) (State.modRing_kept (hm.mono rfl) h8)) h8))) (Kept.ite (Kept.each h0_ (fun x9 x10 h11 =>
    (State.ftAbort_kept (hm.mono rfl) h11))) (Kept.ite (Kept.ite h0_ (State.nmuReset_kept (hm.mono rfl) h0_)) h0_))))

theorem State.procRestart_kept {M : Nat} {s0 : State} {p0 : State} {p1 : Nat} (hm : Msub 35134658041223013848131841429402059617426 M) (h0_ : Kept M s0 p0) :
    Kept M s0 (@State.procRestart p0 p1) := by
  unfold State.procRestart
  exact (State.modProc_kept (hm.mono rfl) (State.bump_kept (hm.mono rfl) (State.setProcSt_kept (hm.mono rfl) (State.procAbandon_kept (hm.mono rfl) h0_)) (hm.has (k := 10) rfl)))

theorem State.setCcSt_kept {M : Nat} {s0 : State} {p0 : State} {p1 : Nat} {p2 : Nat} (hm : Msub 512 M) (h0_ : Kept M s0 p0) :
    Kept M s0 (@State.setCcSt p0 p1 p2) := by
  unfold State.setCcSt
  exact (State.setFld_kept (hm.mono rfl) h0_ (hm.has (k := 9) rfl))

theorem State.setUpd_kept {M : Nat} {s0 : State} {p0 : State} {p1 : Nat} {p2 : Nat} {p3 : Nat} (hm : Msub 2048 M) (h0_ : Kept M s0 p0) :
    Kept M s0 (@State.setUpd p0 p1 p2 p3) := by
  unfold State.setUpd
  exact (State.setFld_kept (hm.mono rfl) h0_ (hm.has (k := 11) rfl))

theorem State.updSync_kept {M : Nat} {s0 : State} {p0 : State} {p1 : Nat} (hm : Msub 2048 M) (h0_ : Kept M s0 p0) :
    Kept M s0 (@State.updSync p0 p1) := by
  unfold State.updSync
  extract_lets -underBinder -merge v1 v2 v3
  try clear_value v1
  have h4 : Kept M s0 v2 := (State.setFld_kept (hm.mono rfl) h0_ (hm.has (k := 11) rfl))
  try clear_value v2
  have h5 : Kept M s0 v3 := (State.setFld_kept (hm.mono rfl) h4 (hm.has (k := 11) rfl))
  try clear_value v3
  exact (State.setFld_kept (hm.mono rfl) h5 (hm.has (k := 11) rfl))

theorem State.ccSync_kept {M : Nat} {s0 : State} {p0 : State} (hm : Msub 1020852293059673930825562551199337550480 M) (h0_ : Kept M s0 p0) :
    Kept M s0 (@State.ccSync p0) := by
  unfold State.ccSync
  extract_lets -underBinder -merge v1 v2 v3
  try clear_value v1
  try clear_value v2
  have h4 : Kept M s0 v3 := (State.setFld_kept (hm.mono rfl) h0_ (hm.has (k := 9) rfl))
  try clear_value v3
  exact (Kept.ite (State.mboxFlush_kept (hm.mono rfl) (State.event_kept (hm.mono rfl) h4)) h4)

theorem State.ccRestart_kept {M : Nat} {s0 : State} {p0 : State} {p1 : Nat} (hm : Msub 35134658041223013848131841429402059617938 M) (h0_ : Kept M s0 p0) :
    Kept M s0 (@State.ccRestart p0 p1) := by
  unfold State.ccRestart
  extract_lets -underBinder -merge v1 v2 v3 v4
  try clear_value v1
  have h5 : Kept M s0 v2 := (State.procRestart_kept (hm.mono rfl) (State.setCcSt_kept (hm.mono rfl) h0_))
  try clear_value v2
  have h6 : Kept M s0 v3 := (State.modProc_kept (hm.mono rfl) h5)
  try clear_value v3
  have h7 : Kept M s0 v4 := (State.setFld_kept (hm.mono rfl) h6 (hm.has (k := 9) rfl))
  try clear_value v4
  exact (Kept.ite h7 (State.procImg_kept (hm.mono rfl) h7))

theorem State.ccTake_kept {M : Nat} {s0 : State} {p0 : State} {p1 : Nat} (hm : Msub 37856916976590521555838838288856205309586 M) (h0_ : Kept M s0 p0) :
    Kept M s0 (@State.ccTake p0 p1) := by
  unfold State.ccTake
  extract_lets -underBinder -merge v1 v2 v3
  have h4 : Kept M s0 v1 := (State.setCcSt_kept (hm.mono rfl) h0_)
  try clear_value v1
  try clear_value v2
  have h5 : Kept M s0 v3 := (State.ccSync_kept (hm.mono rfl) (Kept.upd_cc (hm.mono rfl) h4))
  try clear_value v3
  exact (Kept.each h5 (fun x6 x7 h8 =>
    (Kept.ite (State.procRestart_kept (hm.mono rfl) h8) h8)))

theorem State.ccHandover_kept {M : Nat} {s0 : State} {p0 : State} {p1 : Nat} (hm : Msub 37856916976590521555838838288856205309586 M) (h0_ : Kept M s0 p0) :
    Kept M s0 (@State.ccHandover p0 p1) := by
  unfold State.ccHandover
  extract_lets -underBinder -merge v1
  have h2 : Kept M s0 v1 := (State.ccRestart_kept (hm.mono rfl) (State.setCcSt_kept (hm.mono rfl) h0_))
  try clear_value v1
  exact (State.ccTake_kept (hm.mono rfl) (State.event_kept (hm.mono rfl) (State.bump_kept (hm.mono rfl) h2 (hm.has (k := 9) rfl))))

theorem State.updFail_kept {M : Nat} {s0 : State} {p0 : State} {p1 : Nat} {p2 : Nat} (hm : Msub 5192296858542796621970338855524496 M) (h0_ : Kept M s0 p0) :
    Kept M s0 (@State.updFail p0 p1 p2) := by
  unfold State.updFail
  extract_lets -underBinder -merge v1 v2 v3
  have h4 : Kept M s0 v2 := (Kept.upd_flash (hm.mono rfl) ⟨rfl, rfl, rfl, rfl, rfl, rfl, rfl, rfl, rfl, fun _ => Nat.le_refl _, fun _ h => h, fun h => h⟩ h0_)
  try clear_value v2
  have h5 : Kept M s0 v3 := (State.bump_kept (hm.mono rfl) (State.setFld_kept (hm.mono rfl) (State.setUpd_kept (hm.mono rfl) h4) (hm.has (k := 11) rfl)) (hm.has (k := 11) rfl))
  try clear_value v3
  exact (State.event_kept (hm.mono rfl) (State.updSync_kept (hm.mono rfl) h5))

theorem State.ccTakeover_kept {M : Nat} {s0 : State} {p0 : State} {p1 : Nat} {p2 : Nat} (hm : Msub 37856916976590521558200021530291027918482 M) (h0_ : Kept M s0 p0) :
    Kept M s0 (@State.ccTakeover p0 p1 p2) := by
  unfold State.ccTakeover
  extract_lets -underBinder -merge v1 v2 v3 v4
  try clear_value v1
  have h8 : Kept M s0 v2 := (Kept.ite (Kept.each (State.updFail_kept (hm.mono rfl) h0_) (fun x5 x6 h7 =>
    (State.setProbation_kept (hm.mono rfl) h7))) h0_)
  try clear_value v2
  have h9 : Kept M s0 v3 := (State.ccRestart_kept (hm.mono rfl) h8)
  try clear_value v3
  try clear_value v4
  exact (State.ccSync_kept (hm.mono rfl) (Kept.upd_cc (hm.mono rfl) h9))

theorem State.ccLose_kept {M : Nat} {s0 : State} {p0 : State} {p1 : Nat} {p2 : Nat} (hm : Msub 37856916976590521558200021530291027918482 M) (h0_ : Kept M s0 p0) :
    Kept M s0 (@State.ccLose p0 p1 p2) := by
  unfold State.ccLose
  extract_lets -underBinder -merge v1
  have h5 : Kept M s0 v1 := (Kept.ite (Kept.each (State.updFail_kept (hm.mono rfl) h0_) (fun x2 x3 h4 =>
    (State.setProbation_kept (hm.mono rfl) h4))) h0_)
  try clear_value v1
  exact (Kept.ite (State.ccTakeover_kept (hm.mono rfl) h0_) (State.ccSync_kept (hm.mono rfl) (State.ccRestart_kept (hm.mono rfl) h5)))

theorem State.ccFallback_kept {M : Nat} {s0 : State} {p0 : State} {p1 : Nat} (hm : Msub 37856916976590521558200021530291027918482 M) (h0_ : Kept M s0 p0) :
    Kept M s0 (@State.ccFallback p0 p1) := by
  unfold State.ccFallback
  extract_lets -underBinder -merge v1 v2 v3 v4 v5
  try clear_value v1
  try clear_value v2
  try clear_value v3
  have h9 : Kept M s0 v4 := (Kept.each (State.updFail_kept (hm.mono rfl) h0_) (fun x6 x7 h8 =>
    (State.setProbation_kept (hm.mono rfl) h8)))
  try clear_value v4
  have h10 : Kept M s0 v5 := (Kept.ite (State.procImg_kept (hm.mono rfl) (State.ccRestart_kept (hm.mono rfl) h9)) h9)
  try clear_value v5
  exact (Kept.ite (State.procImg_kept (hm.mono rfl) (State.ccTakeover_kept (hm.mono rfl) h10)) (State.ccSync_kept (hm.mono rfl) (State.procImg_kept (hm.mono rfl) (State.ccRestart_kept (hm.mono rfl) h10))))

theorem State.classFallback_kept {M : Nat} {s0 : State} {p0 : State} {p1 : Nat} {p2 : Nat} (hm : Msub 5192296858542796621970338855525520 M) (h0_ : Kept M s0 p0) :
    Kept M s0 (@State.classFallback p0 p1 p2) := by
  unfold State.classFallback
  extract_lets -underBinder -merge v1
  have h2 : Kept M s0 v1 := (State.updFail_kept (hm.mono rfl) h0_)
  try clear_value v1
  exact (Kept.each h2 (fun x3 x4 h5 =>
    (State.bump_kept (hm.mono rfl) (State.procImg_kept (hm.mono rfl) (State.setProbation_kept (hm.mono rfl) h5)) (hm.has (k := 10) rfl))))

theorem State.procFail_kept {M : Nat} {s0 : State} {p0 : State} {p1 : Nat} (hm : Msub 37856916976590521558200021530291027918482 M) (h0_ : Kept M s0 p0) :
    Kept M s0 (@State.procFail p0 p1) := by
  unfold State.procFail
  extract_lets -underBinder -merge v1 v2 v3 v4 v5 v6
  have h7 : Kept M s0 v1 := (State.event_kept (hm.mono rfl) (State.setProcSt_kept (hm.mono rfl) h0_))
  try clear_value v1
  try clear_value v2
  try clear_value v3
  have h8 : Kept M s0 v4 := (Kept.ite (State.ccLose_kept (hm.mono rfl) h7) h7)
  try clear_value v4
  have h9 : Kept M s0 v5 := (State.procAbandon_kept (hm.mono rfl) h7)
  try clear_value v5
  try clear_value v6
  exact (Kept.ite (State.ccSync_kept (hm.mono rfl) (State.setProcSt_kept (hm.mono rfl) (State.setCcSt_kept (hm.mono rfl) h8))) (Kept.ite (State.mboxFlush_kept (hm.mono rfl) h7) (Kept.ite (State.procAbandon_kept (hm.mono rfl) h7) (Kept.ite (State.event_kept (hm.mono rfl) (State.setNmu_kept (hm.mono rfl) h9)) h7))))

theorem State.healthReport_kept {M : Nat} {s0 : State} {p0 : State} {p1 : HealthObs} (hm : Msub 37856916976590521555838838288856205309586 M) (h0_ : Kept M s0 p0) :
    Kept M s0 (@State.healthReport p0 p1) := by
  unfold State.healthReport
  extract_lets -underBinder -merge v1 v2 v3 v4 v5 v6 v7 v8 v9 v10 v11
  try clear_value v1
  try clear_value v2
  try clear_value v3
  try clear_value v4
  try clear_value v5
  try clear_value v6
  try clear_value v7
  have h12 : Kept M s0 v8 := (State.modProc_kept (hm.mono rfl) h0_)
  try clear_value v8
  have h13 : Kept M s0 v9 := (State.setFld_kept (hm.mono rfl) h12 (hm.has (k := 9) rfl))
  try clear_value v9
  have h14 : Kept M s0 v10 := (State.modProc_kept (hm.mono rfl) (State.event_kept (hm.mono rfl) (State.setCcSt_kept (hm.mono rfl) h13)))
  try clear_value v10
  have h15 : Kept M s0 v11 := (State.modProc_kept (hm.mono rfl) (State.setCcSt_kept (hm.mono rfl) h13))
  try clear_value v11
  exact (Kept.ite h0_ (Kept.ite (Kept.ite (State.ccTake_kept (hm.mono rfl) (State.modProc_kept (hm.mono rfl) h13)) (Kept.ite h14 h13)) (Kept.ite (State.event_kept (hm.mono rfl) h15) h13)))

theorem State.ccRescue_kept {M : Nat} {s0 : State} {p0 : State} (hm : Msub 37856916976590521555838838288856205309586 M) (h0_ : Kept M s0 p0) :
    Kept M s0 (@State.ccRescue p0) := by
  unfold State.ccRescue
  exact (Kept.ite (by
    split
    · exact (State.event_kept (hm.mono rfl) (State.ccTake_kept (hm.mono rfl) h0_))
    · exact h0_) h0_)

theorem State.stateRecord_kept {M : Nat} {s0 : State} {p0 : State} {p1 : Bool} (hm : Msub 37856916976590521558200021530291027918482 M) (h0_ : Kept M s0 p0) :
    Kept M s0 (@State.stateRecord p0 p1) := by
  unfold State.stateRecord
  split
  · exact h0_
  · extract_lets -underBinder -merge v3 v4 v5 v6 v7
    have h8 : Kept M s0 v3 := (State.setFld_kept (hm.mono rfl) h0_ (hm.has (k := 9) rfl))
    try clear_value v3
    have h9 : Kept M s0 v4 := (State.setFld64_kept (hm.mono rfl) h8 (hm.has (k := 9) rfl))
    try clear_value v4
    try clear_value v5
    try clear_value v6
    try clear_value v7
    exact (Kept.ite (Kept.upd_cc (hm.mono rfl) h9) (Kept.ite (State.ccLose_kept (hm.mono rfl) (Kept.upd_cc (hm.mono rfl) h0_)) (Kept.upd_cc (hm.mono rfl) h0_)))

theorem State.procTick_kept {M : Nat} {s0 : State} {p0 : State} {p1 : List Nat} {p2 : List (Nat × Nat)} (hm : Msub 1361134659980612394288937158631105762448 M) (h0_ : Kept M s0 p0) :
    Kept M s0 (@State.procTick p0 p1 p2) := by
  unfold State.procTick
  extract_lets -underBinder -merge v1
  have h5 : Kept M s0 v1 := (Kept.each h0_ (fun x2 x3 h4 =>
    (State.event_kept (hm.mono rfl) (State.bumpBy_kept (hm.mono rfl) (State.bump_kept (hm.mono rfl) h4 (hm.has (k := 10) rfl)) (hm.has (k := 10) rfl)))))
  try clear_value v1
  exact (Kept.each h5 (fun x6 x7 h8 =>
    (State.modProc_kept (hm.mono rfl) h8)))

theorem State.probTick_kept {M : Nat} {s0 : State} {p0 : State} (hm : Msub 2048 M) (h0_ : Kept M s0 p0) :
    Kept M s0 (@State.probTick p0) := by
  unfold State.probTick
  exact (Kept.each h0_ (fun x1 x2 h3 =>
    (Kept.ite (State.setFld_kept (hm.mono rfl) h3 (hm.has (k := 11) rfl)) h3)))

theorem State.failoverEdge_kept {M : Nat} {s0 : State} {p0 : State} (hm : Msub 37856916976590521555838838288856205309586 M) (h0_ : Kept M s0 p0) :
    Kept M s0 (@State.failoverEdge p0) := by
  unfold State.failoverEdge
  extract_lets -underBinder -merge v1
  have h2 : Kept M s0 v1 := (State.setFld_kept (hm.mono rfl) h0_ (hm.has (k := 9) rfl))
  try clear_value v1
  exact (Kept.ite (Kept.ite (State.ccHandover_kept (hm.mono rfl) h2) h2) h0_)

theorem State.fwEdge_kept {M : Nat} {s0 : State} {p0 : State} {p1 : TickObs} (hm : Msub 37856916976590521558200021530291027918482 M) (h0_ : Kept M s0 p0) :
    Kept M s0 (@State.fwEdge p0 p1) := by
  unfold State.fwEdge
  extract_lets -underBinder -merge v1 v2
  have h3 : Kept M s0 v1 := (State.procTick_kept (hm.mono rfl) (State.failoverEdge_kept (hm.mono rfl) h0_))
  try clear_value v1
  have h7 : Kept M s0 v2 := (Kept.each h3 (fun x4 x5 h6 =>
    (State.healthReport_kept (hm.mono rfl) h6)))
  try clear_value v2
  exact (State.probTick_kept (hm.mono rfl) (State.stateRecord_kept (hm.mono rfl) (State.ccRescue_kept (hm.mono rfl) h7)))

end Sys2Proof.Machine
end

