-- ==== Sys2Proof/Laws/FrameBoot.lean ====
section
/-! SUPPORT. What the operations and meanings of Machine/Boot.lean can change: one frame lemma per definition. -/
namespace Sys2Proof.Machine

theorem State.imgTry_kept {M : Nat} {s0 : State} {p0 : State} {p1 : Nat} {p2 : Nat} (hm : Msub 5192296858540435438728904032915600 M) (h0_ : Kept M s0 p0) :
    Kept M s0 (@State.imgTry p0 p1 p2).1 := by
  unfold State.imgTry
  split
  · exact (Kept.pairMk (State.event_kept (hm.mono rfl) h0_))
  · exact (Kept.pairMk (State.event_kept (hm.mono rfl) h0_))

theorem State.bootClass_kept {M : Nat} {s0 : State} {p0 : State} {p1 : Nat} (hm : Msub 5192296858542796621970338855522448 M) (h0_ : Kept M s0 p0) :
    Kept M s0 (@State.bootClass p0 p1).1 := by
  unfold State.bootClass
  extract_lets -underBinder -merge v1
  try clear_value v1
  split
  · rename_i x2 e3
    have Hx2 := Kept.fst e3 (State.imgTry_kept (hm.mono rfl) h0_)
    exact (Kept.pairMk Hx2)
  · rename_i x4 e5
    have Hx4 := Kept.fst e5 (State.imgTry_kept (hm.mono rfl) h0_)
    split
    · rename_i x6 e7
      have Hx6 := Kept.fst e7 (State.imgTry_kept (hm.mono rfl) Hx4)
      extract_lets -underBinder -merge v8
      exact (Kept.pairMk (Kept.upd_flash (hm.mono rfl) ⟨rfl, rfl, rfl, rfl, rfl, rfl, rfl, rfl, rfl, fun _ => Nat.le_refl _, fun _ h => h, fun h => h⟩ Hx6))
    · rename_i x9 e10
      have Hx9 := Kept.fst e10 (State.imgTry_kept (hm.mono rfl) Hx4)
      exact (Kept.pairMk Hx9)

theorem State.bootImages_kept {M : Nat} {s0 : State} {p0 : State} (hm : Msub 5192296858542796621970338855522448 M) (h0_ : Kept M s0 p0) :
    Kept M s0 (@State.bootImages p0).1 := by
  unfold State.bootImages
  split
  · rename_i x1 e2
    have Hx1 := Kept.fst e2 (State.bootClass_kept (hm.mono rfl) h0_)
    exact (Kept.pairMk Hx1)
  · rename_i x3 e4
    have Hx3 := Kept.fst e4 (State.bootClass_kept (hm.mono rfl) h0_)
    exact (Kept.foldl1 (Kept.pairMk Hx3) (fun x5 x7 h6 =>
      (by
        split
        · rename_i x8 x9 e10
          have Hx8 := Kept.fst e10 (State.bootClass_kept (hm.mono rfl) h6)
          exact (Kept.pairMk Hx8))))

theorem State.procRelease_kept {M : Nat} {s0 : State} {p0 : State} {p1 : List Nat} (hm : Msub 4083388403051261561560495289181218541056 M) (h0_ : Kept M s0 p0) :
    Kept M s0 (@State.procRelease p0 p1) := by
  unfold State.procRelease
  extract_lets -underBinder -merge v1 v2
  have h9 : Kept M s0 v1 := (Kept.each h0_ (fun x3 x4 h5 =>
    (by
      extract_lets -underBinder -merge v6 v7
      try clear_value v6
      have h8 : Kept M s0 v7 := (State.setProbation_kept (hm.mono rfl) (State.setProcSt_kept (hm.mono rfl) h5))
      try clear_value v7
      exact (State.modProc_kept (hm.mono rfl) (State.procImg_kept (hm.mono rfl) h8)))))
  try clear_value v1
  have h10 : Kept M s0 v2 := (State.setFld_kept (hm.mono rfl) (State.setCcSt_kept (hm.mono rfl) (State.setCcSt_kept (hm.mono rfl) h9)) (hm.has (k := 9) rfl))
  try clear_value v2
  exact (Kept.each (Kept.upd_cc (hm.mono rfl) h10) (fun x11 x12 h13 =>
    (State.updSync_kept (hm.mono rfl) h13)))

theorem State.mapoutReapply_kept {M : Nat} {s0 : State} {p0 : State} (hm : Msub 17179869184 M) (h0_ : Kept M s0 p0) :
    Kept M s0 (@State.mapoutReapply p0) := by
  unfold State.mapoutReapply
  exact (Kept.each h0_ (fun x1 x2 h3 =>
    (by
      extract_lets -underBinder -merge v4
      have h5 : Kept M s0 v4 := (State.setFld_kept (hm.mono rfl) (State.setFld_kept (hm.mono rfl) h3 (hm.has (k := 34) rfl)) (hm.has (k := 34) rfl))
      try clear_value v4
      exact (State.setFld_kept (hm.mono rfl) (State.setFld_kept (hm.mono rfl) h5 (hm.has (k := 34) rfl)) (hm.has (k := 34) rfl)))))

theorem State.boot_kept {M : Nat} {s0 : State} {p0 : State} (hm : Msub 4083393595348120105537708880254665236369 M) (h0_ : Kept M s0 p0) :
    Kept M s0 (@State.boot p0) := by
  unfold State.boot
  extract_lets -underBinder -merge v1 v2 v3
  try clear_value v1
  have h4 : Kept M s0 v3 := (State.setFld_kept (hm.mono rfl) (Kept.upd_flash (hm.mono rfl) ⟨rfl, rfl, rfl, rfl, rfl, rfl, rfl, rfl, rfl, fun _ => Nat.le_refl _, fun _ h => h, fun h => h⟩ h0_) (hm.has (k := 8) rfl))
  try clear_value v3
  split
  · rename_i x5 x6 e7
    have Hx5 := Kept.fst e7 (State.bootImages_kept (hm.mono rfl) h4)
    extract_lets -underBinder -merge v8 v9 v10 v11
    have h12 : Kept M s0 v8 := (State.procRelease_kept (hm.mono rfl) Hx5)
    try clear_value v8
    have h13 : Kept M s0 v9 := (State.setFld_kept (hm.mono rfl) (State.setFld_kept (hm.mono rfl) h12 (hm.has (k := 8) rfl)) (hm.has (k := 0) rfl))
    try clear_value v9
    try clear_value v10
    have h14 : Kept M s0 v11 := (State.setFld_kept (hm.mono rfl) (State.setFld_kept (hm.mono rfl) h12 (hm.has (k := 8) rfl)) (hm.has (k := 0) rfl))
    try clear_value v11
    exact (Kept.ite (State.mapoutReapply_kept (hm.mono rfl) (Kept.upd_mod_ (hm.mono rfl) h13)) (State.event_kept (hm.mono rfl) h14))

theorem State.ownerSync_kept {M : Nat} {s0 : State} {p0 : State} (hm : Msub 256 M) (h0_ : Kept M s0 p0) :
    Kept M s0 (@State.ownerSync p0) := by
  unfold State.ownerSync
  extract_lets -underBinder -merge v1 v2
  try clear_value v1
  have h3 : Kept M s0 v2 := (State.setFld_kept (hm.mono rfl) h0_ (hm.has (k := 8) rfl))
  try clear_value v2
  exact (Kept.each h3 (fun x4 x5 h6 =>
    (State.setFld_kept (hm.mono rfl) h6 (hm.has (k := 8) rfl))))

theorem State.svnSync_kept {M : Nat} {s0 : State} {p0 : State} {p1 : Nat} (hm : Msub 256 M) (h0_ : Kept M s0 p0) :
    Kept M s0 (@State.svnSync p0 p1) := by
  unfold State.svnSync
  exact (State.setFld_kept (hm.mono rfl) h0_ (hm.has (k := 8) rfl))

theorem State.fromFlash_kept {M : Nat} {s0 : State} {p0 : State} (hm : Msub 18446744073709551615 M) (h0_ : Kept M s0 p0) :
    Kept M s0 (@State.fromFlash p0) := by
  unfold State.fromFlash
  extract_lets -underBinder -merge v1 v2 v3 v4 v5 v6 v7 v8 v9
  have h10 : Kept M s0 v2 := (State.setFld_kept (hm.mono rfl) (State.setFld_kept (hm.mono rfl) (State.setFld64_kept (hm.mono rfl) h0_ (hm.has (k := 0) rfl)) (hm.has (k := 0) rfl)) (hm.has (k := 0) rfl))
  try clear_value v2
  have h11 : Kept M s0 v3 := (State.setFld64_kept (hm.mono rfl) (State.setFld64_kept (hm.mono rfl) h10 (hm.has (k := 4) rfl)) (hm.has (k := 4) rfl))
  try clear_value v3
  have h12 : Kept M s0 v4 := (State.setFld_kept (hm.mono rfl) h11 (hm.has (k := 8) rfl))
  try clear_value v4
  have h13 : Kept M s0 v5 := (State.setFld_kept (hm.mono rfl) h12 (hm.has (k := 8) rfl))
  try clear_value v5
  have h14 : Kept M s0 v6 := (State.setFld_kept (hm.mono rfl) h13 (hm.has (k := 8) rfl))
  try clear_value v6
  try clear_value v7
  have h18 : Kept M s0 v8 := (Kept.each h14 (fun x15 x16 h17 =>
    (State.setFld_kept (hm.mono rfl) h17 (hm.has (k := 8) rfl))))
  try clear_value v8
  have h22 : Kept M s0 v9 := (Kept.each (State.ownerSync_kept (hm.mono rfl) h18) (fun x19 x20 h21 =>
    (State.svnSync_kept (hm.mono rfl) h21)))
  try clear_value v9
  exact (Kept.each h22 (fun x23 x24 h25 =>
    (State.setReg_kept (hm.mono rfl) h25)))

end Sys2Proof.Machine
end

