-- ==== Sys2Proof/Laws/FrameTokens.lean ====
section
/-! SUPPORT. What the operations and meanings of Machine/Tokens.lean can change: one frame lemma per definition. -/
namespace Sys2Proof.Machine

theorem State.tokenTake_kept {M : Nat} {s0 : State} {p0 : State} {p1 : Nat} {p2 : Token} (hm : Msub 170146375757327772167126032619917021584 M) (h0_ : Kept M s0 p0) :
    Kept M s0 (@State.tokenTake p0 p1 p2).1 := by
  unfold State.tokenTake
  extract_lets -underBinder -merge v1 v2 v3
  try clear_value v1
  try clear_value v2
  have h4 : Kept M s0 v3 := (Kept.upd_sec (hm.mono rfl) h0_)
  try clear_value v3
  exact (Kept.ite1 (Kept.pairMk (State.event_kept (hm.mono rfl) h4)) (Kept.pairMk (State.event_kept (hm.mono rfl) (State.bump_kept (hm.mono rfl) h4 (hm.has (k := 8) rfl)))))

end Sys2Proof.Machine
end

