-- ==== Sys2Proof/Laws/FrameFirmware.lean ====
section
/-! SUPPORT. What the operations and meanings of Machine/Firmware.lean can change: one frame lemma per definition. -/
namespace Sys2Proof.Machine

theorem State.probFallback_kept {M : Nat} {s0 : State} {p0 : State} {p1 : Nat} {p2 : Nat} (hm : Msub 37856916976590521558200021530291027918482 M) (h0_ : Kept M s0 p0) :
    Kept M s0 (@State.probFallback p0 p1 p2) := by
  unfold State.probFallback
  extract_lets -underBinder -merge v1
  try clear_value v1
  exact (Kept.ite (State.ccFallback_kept (hm.mono rfl) h0_) (State.classFallback_kept (hm.mono rfl) h0_))

theorem State.fwFire_kept {M : Nat} {s0 : State} {p0 : State} {p1 : Nat} (hm : Msub 37856916976590521558200021530291027918482 M) (h0_ : Kept M s0 p0) :
    Kept M s0 (@State.fwFire p0 p1) := by
  unfold State.fwFire
  extract_lets -underBinder -merge v1 v2 v3
  try clear_value v1
  try clear_value v2
  have h4 : Kept M s0 v3 := (State.modProc_kept (hm.mono rfl) h0_)
  try clear_value v3
  exact (Kept.ite (State.procFail_kept (hm.mono rfl) h4) (Kept.ite (Kept.ite (State.ccLose_kept (hm.mono rfl) h4) (State.ccRestart_kept (hm.mono rfl) h4)) (State.procRestart_kept (hm.mono rfl) h4)))

theorem execFwWatchdog_kept {M : Nat} {s0 : State} {p0 : Nat} {p1 : State} (hm : Msub 37856916976590521558200021530291027918482 M) (h1_ : Kept M s0 p1) :
    KeptO M s0 (@execFwWatchdog p0 p1) := by
  unfold execFwWatchdog
  extract_lets -underBinder -merge v1
  have h2 : Kept M s0 v1 := (State.event_kept (hm.mono rfl) (State.bump_kept (hm.mono rfl) h1_ (hm.has (k := 10) rfl)))
  try clear_value v1
  exact (KeptO.ite (KeptO.next (Kept.ite (State.probFallback_kept (hm.mono rfl) (State.modProc_kept (hm.mono rfl) h2)) (State.fwFire_kept (hm.mono rfl) h2))) (KeptO.next h1_))

theorem execFwRestartDone_kept {M : Nat} {s0 : State} {p0 : Nat} {p1 : State} (hm : Msub 1361134659980689765541392494932646696080 M) (h1_ : Kept M s0 p1) :
    KeptO M s0 (@execFwRestartDone p0 p1) := by
  unfold execFwRestartDone
  extract_lets -underBinder -merge v1 v2 v3 v4
  try clear_value v1
  have h5 : Kept M s0 v2 := (State.modProc_kept (hm.mono rfl) (State.setProcSt_kept (hm.mono rfl) h1_))
  try clear_value v2
  have h6 : Kept M s0 v3 := (State.event_kept (hm.mono rfl) h5)
  try clear_value v3
  try clear_value v4
  exact (KeptO.ite (KeptO.next h1_) (KeptO.ite (KeptO.next h5) (KeptO.next (Kept.ite (State.setNmu_kept (hm.mono rfl) h6) h6))))

theorem execFwFatalFault_kept {M : Nat} {s0 : State} {p0 : Nat} {p1 : State} (hm : Msub 37856916976590521558200021530291027918482 M) (h1_ : Kept M s0 p1) :
    KeptO M s0 (@execFwFatalFault p0 p1) := by
  unfold execFwFatalFault
  exact (KeptO.ite (KeptO.next h1_) (KeptO.ite (KeptO.next (State.probFallback_kept (hm.mono rfl) h1_)) (KeptO.ite (KeptO.next (State.ccLose_kept (hm.mono rfl) h1_)) (KeptO.next h1_))))

theorem State.fpRestart_kept {M : Nat} {s0 : State} {p0 : State} {p1 : Nat} (hm : Msub 35134658041223013848131841429402059617939 M) (h0_ : Kept M s0 p0) :
    Kept M s0 (@State.fpRestart p0 p1) := by
  unfold State.fpRestart
  extract_lets -underBinder -merge v1
  have h2 : Kept M s0 v1 := (State.modProc_kept (hm.mono rfl) h0_)
  try clear_value v1
  exact (Kept.ite (State.setErr_kept (hm.mono rfl) h0_ (hm.has (k := 10) rfl)) (Kept.ite (State.ccSync_kept (hm.mono rfl) (State.event_kept (hm.mono rfl) (State.ccRestart_kept (hm.mono rfl) h2))) (Kept.ite (State.modProc_kept (hm.mono rfl) h2) (State.procRestart_kept (hm.mono rfl) h2))))

theorem State.fpCmd_kept {M : Nat} {s0 : State} {p0 : State} {p1 : Sys2Proof.Word} (hm : Msub 35134658041223013848131841429402059617939 M) (h0_ : Kept M s0 p0) :
    Kept M s0 (@State.fpCmd p0 p1) := by
  unfold State.fpCmd
  exact (Kept.ite (State.fpRestart_kept (hm.mono rfl) h0_) h0_)

theorem execFpRestart_kept {M : Nat} {s0 : State} {p0 : Master} {p1 : State} (hm : Msub 35134658041223013857576574395141350045331 M) (h1_ : Kept M s0 p1) :
    KeptO M s0 (@execFpRestart p0 p1) := by
  unfold execFpRestart
  exact (KeptO.next (State.gated_kept (hm.mono rfl) h1_ (fun x1 h2 =>
    (State.fpCmd_kept (hm.mono rfl) h2))))

theorem execTakeoverDone_kept {M : Nat} {s0 : State} {p0 : Nat} {p1 : State} (hm : Msub 37856916976590521555838838288856205309586 M) (h1_ : Kept M s0 p1) :
    KeptO M s0 (@execTakeoverDone p0 p1) := by
  unfold execTakeoverDone
  split
  · exact (KeptO.next h1_)
  · extract_lets -underBinder -merge v4 v5 v6 v7
    have h8 : Kept M s0 v4 := (State.mboxFlush_kept (hm.mono rfl) h1_)
    try clear_value v4
    have h9 : Kept M s0 v5 := (State.ccTake_kept (hm.mono rfl) h8)
    try clear_value v5
    have h10 : Kept M s0 v6 := (State.event_kept (hm.mono rfl) h9)
    try clear_value v6
    have h11 : Kept M s0 v7 := (State.setFld_kept (hm.mono rfl) (State.bump_kept (hm.mono rfl) h10 (hm.has (k := 9) rfl)) (hm.has (k := 9) rfl))
    try clear_value v7
    exact (KeptO.next (State.setFld_kept (hm.mono rfl) h11 (hm.has (k := 9) rfl)))

theorem State.probStart_kept {M : Nat} {s0 : State} {p0 : State} {p1 : Nat} {p2 : Nat} (hm : Msub 1024 M) (h0_ : Kept M s0 p0) :
    Kept M s0 (@State.probStart p0 p1 p2) := by
  unfold State.probStart
  exact (State.setProbation_kept (hm.mono rfl) (State.procImg_kept (hm.mono rfl) h0_))

theorem execRevertHoldMet_kept {M : Nat} {s0 : State} {p0 : State} (hm : Msub 43301434847325536971252832007764496694930 M) (h0_ : Kept M s0 p0) :
    KeptO M s0 (@execRevertHoldMet p0) := by
  unfold execRevertHoldMet
  extract_lets -underBinder -merge v1 v2
  have h3 : Kept M s0 v1 := (State.setUpd_kept (hm.mono rfl) (State.ccHandover_kept (hm.mono rfl) h0_))
  try clear_value v1
  have h4 : Kept M s0 v2 := (State.procImg_kept (hm.mono rfl) (State.setProbation_kept (hm.mono rfl) h3))
  try clear_value v2
  exact (KeptO.ite (KeptO.ite (KeptO.next (State.ccHandover_kept (hm.mono rfl) h0_)) (KeptO.ite (KeptO.next (State.setFld_kept (hm.mono rfl) (Kept.upd_upds (hm.mono rfl) h4) (hm.has (k := 11) rfl))) (KeptO.next h0_))) (KeptO.next h0_))

theorem State.ccCmd_kept {M : Nat} {s0 : State} {p0 : State} {p1 : Sys2Proof.Word} (hm : Msub 295147905179352826369 M) (h0_ : Kept M s0 p0) :
    Kept M s0 (@State.ccCmd p0 p1) := by
  unfold State.ccCmd
  exact (Kept.ite h0_ (Kept.ite (State.setFld_kept (hm.mono rfl) h0_ (hm.has (k := 9) rfl)) (State.setErr_kept (hm.mono rfl) h0_ (hm.has (k := 9) rfl))))

theorem execFailover_kept {M : Nat} {s0 : State} {p0 : Master} {p1 : State} (hm : Msub 5192296858549880171694643323343505 M) (h1_ : Kept M s0 p1) :
    KeptO M s0 (@execFailover p0 p1) := by
  unfold execFailover
  exact (KeptO.next (State.gated_kept (hm.mono rfl) h1_ (fun x1 h2 =>
    (State.ccCmd_kept (hm.mono rfl) h2))))

theorem execGetVersion_kept {M : Nat} {s0 : State} {p0 : Master} {p1 : Nat} {p2 : MHdr} {p3 : State} (hm : Msub 1020852293059673930825562551199337549968 M) (h3_ : Kept M s0 p3) :
    KeptO M s0 (@execGetVersion p0 p1 p2 p3) := by
  unfold execGetVersion
  exact (KeptO.next (State.request_kept (hm.mono rfl) h3_ (fun x1 h2 =>
    (by
      extract_lets -underBinder -merge v3 v4
      try clear_value v3
      try clear_value v4
      exact (Kept.pairMk h2)))))

theorem execGetHealth_kept {M : Nat} {s0 : State} {p0 : Master} {p1 : Nat} {p2 : MHdr} {p3 : State} (hm : Msub 1020852293059673930825562551199337549968 M) (h3_ : Kept M s0 p3) :
    KeptO M s0 (@execGetHealth p0 p1 p2 p3) := by
  unfold execGetHealth
  exact (KeptO.next (State.request_kept (hm.mono rfl) h3_ (fun x1 h2 =>
    (Kept.pairMk h2))))

theorem State.setInactiveSt_kept {M : Nat} {s0 : State} {p0 : State} {p1 : Nat} {p2 : Nat} (hm : Msub 2361183241434822608896 M) (h0_ : Kept M s0 p0) :
    Kept M s0 (@State.setInactiveSt p0 p1 p2) := by
  unfold State.setInactiveSt
  extract_lets -underBinder -merge v1
  exact (State.updSync_kept (hm.mono rfl) (Kept.upd_flash (hm.mono rfl) ⟨rfl, rfl, rfl, rfl, rfl, rfl, rfl, rfl, rfl, fun _ => Nat.le_refl _, fun _ h => h, fun h => h⟩ h0_))

theorem execFwStage_kept {M : Nat} {s0 : State} {p0 : Master} {p1 : Nat} {p2 : MHdr} {p3 : Nat} {p4 : Nat} {p5 : List Sys2Proof.Byte} {p6 : State} (hm : Msub 1020852293059673933186745792634160158864 M) (h6_ : Kept M s0 p6) :
    KeptO M s0 (@execFwStage p0 p1 p2 p3 p4 p5 p6) := by
  unfold execFwStage
  exact (KeptO.next (State.request_kept (hm.mono rfl) h6_ (fun x1 h2 =>
    (Kept.ite1 (Kept.pairMk h2) (Kept.ite1 (Kept.pairMk h2) (by
      extract_lets -underBinder -merge v3 v4 v5
      try clear_value v3
      have h6 : Kept M s0 v5 := (Kept.upd_flash (hm.mono rfl) ⟨rfl, rfl, rfl, rfl, rfl, rfl, rfl, rfl, rfl, fun _ => Nat.le_refl _, fun _ h => h, fun h => h⟩ h2)
      try clear_value v5
      exact (Kept.pairMk (State.setInactiveSt_kept (hm.mono rfl) h6))))))))

theorem execFwVerify_kept {M : Nat} {s0 : State} {p0 : Master} {p1 : Nat} {p2 : MHdr} {p3 : Nat} {p4 : ImgHdr} {p5 : State} (hm : Msub 1020852293059673933186745792634160158864 M) (h5_ : Kept M s0 p5) :
    KeptO M s0 (@execFwVerify p0 p1 p2 p3 p4 p5) := by
  unfold execFwVerify
  exact (KeptO.next (State.request_kept (hm.mono rfl) h5_ (fun x1 h2 =>
    (Kept.ite1 (Kept.pairMk h2) (Kept.ite1 (Kept.pairMk h2) (Kept.ite1 (Kept.pairMk (State.event_kept (hm.mono rfl) (State.setInactiveSt_kept (hm.mono rfl) h2))) (by
      extract_lets -underBinder -merge v3 v4 v5
      try clear_value v3
      have h6 : Kept M s0 v5 := (Kept.upd_flash (hm.mono rfl) ⟨rfl, rfl, rfl, rfl, rfl, rfl, rfl, rfl, rfl, fun _ => Nat.le_refl _, fun _ h => h, fun h => h⟩ h2)
      try clear_value v5
      exact (Kept.pairMk (State.setInactiveSt_kept (hm.mono rfl) h6)))))))))

theorem execFwActivate_kept {M : Nat} {s0 : State} {p0 : Master} {p1 : Nat} {p2 : MHdr} {p3 : Nat} {p4 : Nat} {p5 : State} (hm : Msub 37856916976590521559380613151008439222163 M) (h5_ : Kept M s0 p5) :
    KeptO M s0 (@execFwActivate p0 p1 p2 p3 p4 p5) := by
  unfold execFwActivate
  exact (KeptO.next (State.request_kept (hm.mono rfl) h5_ (fun x1 h2 =>
    (Kept.ite1 (Kept.pairMk h2) (Kept.ite1 (Kept.ite1 (by
      extract_lets -underBinder -merge v3 v4 v5
      try clear_value v3
      have h6 : Kept M s0 v5 := (Kept.upd_flash (hm.mono rfl) ⟨rfl, rfl, rfl, rfl, rfl, rfl, rfl, rfl, rfl, fun _ => Nat.le_refl _, fun _ h => h, fun h => h⟩ h2)
      try clear_value v5
      exact (Kept.pairMk (State.boot_kept (hm.mono rfl) (State.setInactiveSt_kept (hm.mono rfl) h6)))) (Kept.pairMk (State.event_kept (hm.mono rfl) h2))) (Kept.ite1 (Kept.pairMk (State.event_kept (hm.mono rfl) h2)) (by
      extract_lets -underBinder -merge v7
      have h8 : Kept M s0 v7 := (State.setFld64_kept (hm.mono rfl) (State.setUpd_kept (hm.mono rfl) h2) (hm.has (k := 11) rfl))
      try clear_value v7
      exact (Kept.ite1 (Kept.pairMk (State.ccSync_kept (hm.mono rfl) (State.procImg_kept (hm.mono rfl) (State.ccRestart_kept (hm.mono rfl) h8)))) (Kept.pairMk h8)))))))))

theorem execFwAbort_kept {M : Nat} {s0 : State} {p0 : Master} {p1 : Nat} {p2 : MHdr} {p3 : Nat} {p4 : State} (hm : Msub 35134658041223013848131841429402059619986 M) (h4_ : Kept M s0 p4) :
    KeptO M s0 (@execFwAbort p0 p1 p2 p3 p4) := by
  unfold execFwAbort
  exact (KeptO.next (State.request_kept (hm.mono rfl) h4_ (fun x1 h2 =>
    (Kept.ite1 (Kept.pairMk h2) (Kept.ite1 (by
      extract_lets -underBinder -merge v3
      have h4 : Kept M s0 v3 := (State.setUpd_kept (hm.mono rfl) h2)
      try clear_value v3
      exact (Kept.ite1 (Kept.pairMk (State.ccSync_kept (hm.mono rfl) (State.ccRestart_kept (hm.mono rfl) h4))) (Kept.pairMk h4))) (Kept.pairMk h2))))))

theorem execFwHandover_kept {M : Nat} {s0 : State} {p0 : Nat} {p1 : State} (hm : Msub 43301434847325536973614015249199319301778 M) (h1_ : Kept M s0 p1) :
    KeptO M s0 (@execFwHandover p0 p1) := by
  unfold execFwHandover
  extract_lets -underBinder -merge v1 v2 v3 v4 v5
  try clear_value v1
  have h6 : Kept M s0 v2 := (State.setUpd_kept (hm.mono rfl) h1_)
  try clear_value v2
  have h7 : Kept M s0 v3 := (State.setProcSt_kept (hm.mono rfl) (State.setCcSt_kept (hm.mono rfl) (State.ccHandover_kept (hm.mono rfl) h6)))
  try clear_value v3
  have h8 : Kept M s0 v4 := (Kept.ite (State.modProc_kept (hm.mono rfl) h7) h6)
  try clear_value v4
  have h12 : Kept M s0 v5 := (Kept.each h8 (fun x9 x10 h11 =>
    (State.event_kept (hm.mono rfl) (State.probStart_kept (hm.mono rfl) h11))))
  try clear_value v5
  exact (KeptO.ite (KeptO.ite (KeptO.next (State.ccFallback_kept (hm.mono rfl) h1_)) (KeptO.next (State.setFld_kept (hm.mono rfl) (Kept.upd_upds (hm.mono rfl) h12) (hm.has (k := 11) rfl)))) (KeptO.next h1_))

theorem State.updCommit_kept {M : Nat} {s0 : State} {p0 : State} {p1 : Nat} (hm : Msub 1020852293059673933186745792634160160400 M) (h0_ : Kept M s0 p0) :
    Kept M s0 (@State.updCommit p0 p1) := by
  unfold State.updCommit
  extract_lets -underBinder -merge v1 v2 v3 v4 v5 v6
  try clear_value v1
  have h7 : Kept M s0 v3 := (Kept.upd_flash (hm.mono rfl) ⟨rfl, rfl, rfl, rfl, rfl, rfl, rfl, rfl, rfl, fun _ => Nat.le_refl _, fun _ h => h, fun h => h⟩ h0_)
  try clear_value v3
  have h8 : Kept M s0 v4 := (State.bump_kept (hm.mono rfl) (State.setFld_kept (hm.mono rfl) (State.setUpd_kept (hm.mono rfl) h7) (hm.has (k := 11) rfl)) (hm.has (k := 11) rfl))
  try clear_value v4
  have h12 : Kept M s0 v5 := (Kept.each h8 (fun x9 x10 h11 =>
    (State.setProbation_kept (hm.mono rfl) h11)))
  try clear_value v5
  have h13 : Kept M s0 v6 := (State.event_kept (hm.mono rfl) (State.updSync_kept (hm.mono rfl) h12))
  try clear_value v6
  exact (Kept.ite (State.ccSync_kept (hm.mono rfl) h13) h13)

theorem execFwProbationEnd_kept {M : Nat} {s0 : State} {p0 : Nat} {p1 : State} (hm : Msub 35134658041223013850493024670836882226834 M) (h1_ : Kept M s0 p1) :
    KeptO M s0 (@execFwProbationEnd p0 p1) := by
  unfold execFwProbationEnd
  extract_lets -underBinder -merge v1
  have h2 : Kept M s0 v1 := (State.setFld_kept (hm.mono rfl) (State.setUpd_kept (hm.mono rfl) (State.setProbation_kept (hm.mono rfl) h1_)) (hm.has (k := 11) rfl))
  try clear_value v1
  exact (KeptO.ite (KeptO.ite (KeptO.next (State.ccSync_kept (hm.mono rfl) (State.procImg_kept (hm.mono rfl) (State.ccRestart_kept (hm.mono rfl) h2)))) (KeptO.next (State.updCommit_kept (hm.mono rfl) h1_))) (KeptO.next h1_))

theorem execFbClear_kept {M : Nat} {s0 : State} {p0 : Master} {p1 : Nat} {p2 : MHdr} {p3 : Token} {p4 : State} (hm : Msub 1190993476520143162557249854915221655952 M) (h4_ : Kept M s0 p4) :
    KeptO M s0 (@execFbClear p0 p1 p2 p3 p4) := by
  unfold execFbClear
  exact (KeptO.next (State.request_kept (hm.mono rfl) h4_ (fun x1 h2 =>
    (Kept.ite1 (Kept.pairMk h2) (Kept.ite1 (Kept.pairMk h2) (Kept.ite1 (Kept.pairMk h2) (by
      split
      · rename_i x3 e4
        have Hx3 := Kept.fst e4 (State.tokenTake_kept (hm.mono rfl) h2)
        exact (Kept.pairMk Hx3)
      · rename_i x5 e6
        have Hx5 := Kept.fst e6 (State.tokenTake_kept (hm.mono rfl) h2)
        extract_lets -underBinder -merge v7 v8
        try clear_value v7
        have h9 : Kept M s0 v8 := (State.bump_kept (hm.mono rfl) (Kept.upd_flip (hm.mono rfl) Hx5) (hm.has (k := 12) rfl))
        try clear_value v8
        exact (Kept.pairMk (State.event_kept (hm.mono rfl) h9)))))))))

theorem State.recLatch_kept {M : Nat} {s0 : State} {p0 : State} (hm : Msub 4096 M) (h0_ : Kept M s0 p0) :
    Kept M s0 (@State.recLatch p0) := by
  unfold State.recLatch
  extract_lets -underBinder -merge v1 v2 v3
  try clear_value v1
  try clear_value v2
  try clear_value v3
  split
  · extract_lets -underBinder -merge v6 v7
    have h8 : Kept M s0 v6 := (State.setFld_kept (hm.mono rfl) h0_ (hm.has (k := 12) rfl))
    try clear_value v6
    try clear_value v7
    exact (Kept.each h8 (fun x9 x10 h11 =>
      (State.setFld_kept (hm.mono rfl) h11 (hm.has (k := 12) rfl))))

theorem State.answerRead_kept {M : Nat} {s0 : State} {p0 : State} {p1 : Master} {p2 : Nat} (hm : Msub 295147905179352825856 M) (h0_ : Kept M s0 p0) :
    Kept M s0 (@State.answerRead p0 p1 p2) := by
  unfold State.answerRead
  exact (Kept.ite (State.emit_kept (hm.mono rfl) h0_) h0_)

theorem execRecW0Read_kept {M : Nat} {s0 : State} {p0 : Master} {p1 : State} (hm : Msub 295147905179352829952 M) (h1_ : Kept M s0 p1) :
    KeptO M s0 (@execRecW0Read p0 p1) := by
  unfold execRecW0Read
  extract_lets -underBinder -merge v1
  have h2 : Kept M s0 v1 := (State.recLatch_kept (hm.mono rfl) h1_)
  try clear_value v1
  exact (KeptO.ite (KeptO.next h1_) (KeptO.next (State.answerRead_kept (hm.mono rfl) h2)))

theorem State.recNext_kept {M : Nat} {s0 : State} {p0 : State} (hm : Msub 4096 M) (h0_ : Kept M s0 p0) :
    Kept M s0 (@State.recNext p0) := by
  unfold State.recNext
  exact (State.setFld64_kept (hm.mono rfl) h0_ (hm.has (k := 12) rfl))

theorem execRecW15Read_kept {M : Nat} {s0 : State} {p0 : Master} {p1 : State} (hm : Msub 295147905179352829952 M) (h1_ : Kept M s0 p1) :
    KeptO M s0 (@execRecW15Read p0 p1) := by
  unfold execRecW15Read
  exact (KeptO.ite (KeptO.next h1_) (KeptO.next (State.recNext_kept (hm.mono rfl) (State.answerRead_kept (hm.mono rfl) h1_))))

theorem State.flipThaw_kept {M : Nat} {s0 : State} {p0 : State} (hm : Msub 5192296858540435438728904032915600 M) (h0_ : Kept M s0 p0) :
    Kept M s0 (@State.flipThaw p0) := by
  unfold State.flipThaw
  extract_lets -underBinder -merge v1 v2
  have h3 : Kept M s0 v1 := (State.setFld_kept (hm.mono rfl) (State.setFld_kept (hm.mono rfl) h0_ (hm.has (k := 12) rfl)) (hm.has (k := 12) rfl))
  try clear_value v1
  try clear_value v2
  exact (Kept.ite h0_ (State.capEvent_kept (hm.mono rfl) (State.flipPrelude_kept (hm.mono rfl) (Kept.upd_flip (hm.mono rfl) h3))))

theorem State.recCtrl_kept {M : Nat} {s0 : State} {p0 : State} {p1 : Sys2Proof.Word} (hm : Msub 5192296858540435438728904032915601 M) (h0_ : Kept M s0 p0) :
    Kept M s0 (@State.recCtrl p0 p1) := by
  unfold State.recCtrl
  extract_lets -underBinder -merge v1 v2 v3 v4
  try clear_value v1
  have h5 : Kept M s0 v2 := (State.setFld_kept (hm.mono rfl) h0_ (hm.has (k := 12) rfl))
  try clear_value v2
  have h6 : Kept M s0 v3 := (State.setFld_kept (hm.mono rfl) (State.setFld_kept (hm.mono rfl) h5 (hm.has (k := 12) rfl)) (hm.has (k := 12) rfl))
  try clear_value v3
  try clear_value v4
  exact (Kept.ite (State.setErr_kept (hm.mono rfl) h0_ (hm.has (k := 12) rfl)) (Kept.ite (Kept.ite h5 (Kept.upd_flip (hm.mono rfl) h6)) (Kept.ite (State.flipThaw_kept (hm.mono rfl) h5) h5)))

theorem execFreeze_kept {M : Nat} {s0 : State} {p0 : Master} {p1 : Nat} {p2 : State} (hm : Msub 5192296858549880171694643323342993 M) (h2_ : Kept M s0 p2) :
    KeptO M s0 (@execFreeze p0 p1 p2) := by
  unfold execFreeze
  exact (KeptO.next (State.gated_kept (hm.mono rfl) h2_ (fun x1 h2 =>
    (State.recCtrl_kept (hm.mono rfl) h2))))

theorem execThaw_kept {M : Nat} {s0 : State} {p0 : Master} {p1 : Nat} {p2 : State} (hm : Msub 5192296858549880171694643323342993 M) (h2_ : Kept M s0 p2) :
    KeptO M s0 (@execThaw p0 p1 p2) := by
  unfold execThaw
  exact (KeptO.next (State.gated_kept (hm.mono rfl) h2_ (fun x1 h2 =>
    (State.recCtrl_kept (hm.mono rfl) h2))))

theorem execFreezeMaxExpiry_kept {M : Nat} {s0 : State} {p0 : State} (hm : Msub 5192296858540435438728904032915600 M) (h0_ : Kept M s0 p0) :
    KeptO M s0 (@execFreezeMaxExpiry p0) := by
  unfold execFreezeMaxExpiry
  exact (KeptO.ite (KeptO.next (State.flipThaw_kept (hm.mono rfl) h0_)) (KeptO.next h0_))

end Sys2Proof.Machine
end

