-- ==== Sys2Proof/Laws/FrameModule.lean ====
section
/-! SUPPORT. What the operations and meanings of Machine/Module.lean can change: one frame lemma per definition. -/
namespace Sys2Proof.Machine

theorem State.setModState_kept {M : Nat} {s0 : State} {p0 : State} {p1 : Nat} (hm : Msub 1 M) (h0_ : Kept M s0 p0) :
    Kept M s0 (@State.setModState p0 p1) := by
  unfold State.setModState
  exact (State.setFld_kept (hm.mono rfl) h0_ (hm.has (k := 0) rfl))

theorem State.dark_kept {M : Nat} {s0 s : State} (hm : Msub 87112285931760246643358825801486071496703 M) (h : Kept M s0 s) : Kept M s0 s.dark :=
  h.of (fun p hp => by
      cases p
      case page => exact State.agree_page_all (hm.mono rfl) hp
      case pending => rfl
      case output => rfl
      case fresh => rfl
      case flash => rfl
      all_goals exact absurd (hm.has rfl) (hp ▸ Bool.false_ne_true))
    (fun _ => ⟨rfl, rfl, rfl, rfl, Nat.zero_le _, Nat.zero_le _⟩) ⟨⟨[], (List.append_nil s.out).symm⟩, Nat.le_refl _, Flash.Grows.refl _⟩

theorem State.ftFirst_kept {M : Nat} {s0 : State} {p0 : State} (hm : Msub 67108864 M) (h0_ : Kept M s0 p0) :
    Kept M s0 (@State.ftFirst p0) := by
  unfold State.ftFirst
  exact (Kept.each h0_ (fun x1 x2 h3 =>
    (State.setFtDue_kept (hm.mono rfl) h3)))

theorem State.rmaTake_kept {M : Nat} {s0 s : State} (hm : Msub 2361183241434822606848 M) (h : Kept M s0 s) : Kept M s0 s.rmaTake := by
  refine Kept.upd_flash (hm.mono rfl) ?_ h
  unfold Flash.rmaStep
  split
  · exact ⟨rfl, rfl, rfl, rfl, rfl, rfl, rfl, rfl, rfl, fun _ => Nat.le_refl _, fun _ h => h, fun _ => rfl⟩
  · exact Flash.Grows.refl _

theorem State.powerUp_kept {M : Nat} {s0 : State} {p0 : State} (hm : Msub 87112285931760246646605452758458952581119 M) (h0_ : Kept M s0 p0) :
    Kept M s0 (@State.powerUp p0) := by
  unfold State.powerUp
  extract_lets -underBinder -merge v1 v2 v3
  have h4 : Kept M s0 v1 := (State.rmaTake_kept (hm.mono rfl) (State.dark_kept (hm.mono rfl) h0_))
  try clear_value v1
  have h5 : Kept M s0 v2 := (Kept.upd_mod_ (hm.mono rfl) h4)
  try clear_value v2
  have h6 : Kept M s0 v3 := (State.setFld_kept (hm.mono rfl) h5 (hm.has (k := 0) rfl))
  try clear_value v3
  exact (State.boot_kept (hm.mono rfl) (State.ftFirst_kept (hm.mono rfl) (State.fromFlash_kept (hm.mono rfl) (State.event_kept (hm.mono rfl) h6))))

theorem execPowerOn_kept {M : Nat} {s0 : State} {p0 : State} (hm : Msub 87112285931760246646605452758458952581119 M) (h0_ : Kept M s0 p0) :
    KeptO M s0 (@execPowerOn p0) := by
  unfold execPowerOn
  exact (KeptO.next (Kept.ite h0_ (State.powerUp_kept (hm.mono rfl) h0_)))

theorem State.stackReady_kept {M : Nat} {s0 : State} {p0 : State} {p1 : Nat} (hm : Msub 5192296868211841995646023329910928 M) (h0_ : Kept M s0 p0) :
    Kept M s0 (@State.stackReady p0 p1) := by
  unfold State.stackReady
  extract_lets -underBinder -merge v1
  have h2 : Kept M s0 v1 := (State.event_kept (hm.mono rfl) (State.setFld_kept (hm.mono rfl) h0_ (hm.has (k := 34) rfl)))
  try clear_value v1
  exact (Kept.ite (State.scrubStart_kept (hm.mono rfl) h2) h2)

theorem State.coresUp_kept {M : Nat} {s0 : State} {p0 : State} (hm : Msub 5192296858541616030349621444219025 M) (h0_ : Kept M s0 p0) :
    Kept M s0 (@State.coresUp p0) := by
  unfold State.coresUp
  extract_lets -underBinder -merge v1 v2
  try clear_value v1
  have h3 : Kept M s0 v2 := (Kept.upd_mod_ (hm.mono rfl) h0_)
  try clear_value v2
  exact (Kept.ite (State.event_kept (hm.mono rfl) (State.setModState_kept (hm.mono rfl) h3)) h3)

theorem execEdeskInitDone_kept {M : Nat} {s0 : State} {p0 : State} (hm : Msub 5192296868213022587266740741214353 M) (h0_ : Kept M s0 p0) :
    KeptO M s0 (@execEdeskInitDone p0) := by
  unfold execEdeskInitDone
  exact (KeptO.next (Kept.ite (State.coresUp_kept (hm.mono rfl) (Kept.each h0_ (fun x1 x2 h3 =>
    (State.stackReady_kept (hm.mono rfl) h3)))) h0_))

theorem State.powerDown_kept {M : Nat} {s0 : State} {p0 : State} (hm : Msub 87112285931760246643358825801486071496703 M) (h0_ : Kept M s0 p0) :
    Kept M s0 (@State.powerDown p0) := by
  unfold State.powerDown
  exact (Kept.ite (State.dark_kept (hm.mono rfl) h0_) h0_)

theorem execPowerLoss_kept {M : Nat} {s0 : State} {p0 : State} (hm : Msub 87112285931760246643358825801486071496703 M) (h0_ : Kept M s0 p0) :
    KeptO M s0 (@execPowerLoss p0) := by
  unfold execPowerLoss
  exact (KeptO.next (State.powerDown_kept (hm.mono rfl) h0_))

theorem State.inputVoltage_kept {M : Nat} {s0 : State} {p0 : State} {p1 : Nat} (hm : Msub 87112285931760246644244269517024129974271 M) (h0_ : Kept M s0 p0) :
    Kept M s0 (@State.inputVoltage p0 p1) := by
  unfold State.inputVoltage
  extract_lets -underBinder -merge v1 v2 v3 v4
  try clear_value v1
  try clear_value v2
  try clear_value v3
  have h5 : Kept M s0 v4 := (State.setFld_kept (hm.mono rfl) (Kept.upd_mod_ (hm.mono rfl) h0_) (hm.has (k := 28) rfl))
  try clear_value v4
  exact (Kept.ite h0_ (Kept.ite (State.powerDown_kept (hm.mono rfl) h0_) (Kept.ite (State.setFld_kept (hm.mono rfl) (Kept.upd_mod_ (hm.mono rfl) h0_) (hm.has (k := 28) rfl)) (Kept.ite h5 (State.event_kept (hm.mono rfl) h5)))))

theorem execInputVoltageExcursion_kept {M : Nat} {s0 : State} {p0 : Nat} {p1 : State} (hm : Msub 87112285931760246644244269517024129974271 M) (h1_ : Kept M s0 p1) :
    KeptO M s0 (@execInputVoltageExcursion p0 p1) := by
  unfold execInputVoltageExcursion
  exact (KeptO.next (State.inputVoltage_kept (hm.mono rfl) h1_))

theorem execOvercurrentTrip_kept {M : Nat} {s0 : State} {p0 : State} (hm : Msub 87112285931760246644244269517024129974271 M) (h0_ : Kept M s0 p0) :
    KeptO M s0 (@execOvercurrentTrip p0) := by
  unfold execOvercurrentTrip
  exact (KeptO.next (Kept.ite (State.powerDown_kept (hm.mono rfl) (State.event_kept (hm.mono rfl) h0_)) h0_))

theorem State.powerCap_kept {M : Nat} {s0 : State} {p0 : State} {p1 : Nat} {p2 : Nat} (hm : Msub 5192296858541616030349621712654480 M) (h0_ : Kept M s0 p0) :
    Kept M s0 (@State.powerCap p0 p1 p2) := by
  unfold State.powerCap
  extract_lets -underBinder -merge v1 v2 v3
  try clear_value v1
  try clear_value v2
  have h4 : Kept M s0 v3 := (State.setFld_kept (hm.mono rfl) (Kept.upd_mod_ (hm.mono rfl) h0_) (hm.has (k := 28) rfl))
  try clear_value v3
  exact (Kept.ite h0_ (Kept.ite (State.event_kept (hm.mono rfl) h4) (State.event_kept (hm.mono rfl) h4)))

theorem execPowerCapHold_kept {M : Nat} {s0 : State} {p0 : Nat} {p1 : Nat} {p2 : State} (hm : Msub 5192296858541616030349621712654480 M) (h2_ : Kept M s0 p2) :
    KeptO M s0 (@execPowerCapHold p0 p1 p2) := by
  unfold execPowerCapHold
  exact (KeptO.next (Kept.ite (State.powerCap_kept (hm.mono rfl) h2_) h2_))

theorem State.pwrCap_kept {M : Nat} {s0 : State} {p0 : State} {p1 : Nat} (hm : Msub 295147905179621261313 M) (h0_ : Kept M s0 p0) :
    Kept M s0 (@State.pwrCap p0 p1) := by
  unfold State.pwrCap
  extract_lets -underBinder -merge v1 v2
  try clear_value v1
  try clear_value v2
  exact (Kept.ite (State.setErr_kept (hm.mono rfl) h0_ (hm.has (k := 28) rfl)) (State.setFld_kept (hm.mono rfl) (State.setFld_kept (hm.mono rfl) h0_ (hm.has (k := 28) rfl)) (hm.has (k := 28) rfl)))

theorem State.showTemp_kept {M : Nat} {s0 : State} {p0 : State} {p1 : Nat} {p2 : Int} (hm : Msub 268435456 M) (h0_ : Kept M s0 p0) :
    Kept M s0 (@State.showTemp p0 p1 p2) := by
  unfold State.showTemp
  extract_lets -underBinder -merge v1 v2
  try clear_value v1
  try clear_value v2
  exact (Kept.ite (State.setFld_kept (hm.mono rfl) h0_ (hm.has (k := 28) rfl)) (State.setFld_kept (hm.mono rfl) h0_ (hm.has (k := 28) rfl)))

theorem State.warnBits_kept {M : Nat} {s0 : State} {p0 : State} (hm : Msub 268435456 M) (h0_ : Kept M s0 p0) :
    Kept M s0 (@State.warnBits p0) := by
  unfold State.warnBits
  extract_lets -underBinder -merge v1 v2 v3
  try clear_value v1
  have h4 : Kept M s0 v2 := (State.setFld_kept (hm.mono rfl) h0_ (hm.has (k := 28) rfl))
  try clear_value v2
  have h5 : Kept M s0 v3 := (State.setFld_kept (hm.mono rfl) h4 (hm.has (k := 28) rfl))
  try clear_value v3
  exact (State.setFld_kept (hm.mono rfl) h5 (hm.has (k := 28) rfl))

theorem State.throttle_kept {M : Nat} {s0 : State} {p0 : State} {p1 : Nat} {p2 : Int} (hm : Msub 5192296858541616030349621444219024 M) (h0_ : Kept M s0 p0) :
    Kept M s0 (@State.throttle p0 p1 p2) := by
  unfold State.throttle
  split
  · exact h0_
  · extract_lets -underBinder -merge v3 v4 v5 v6 v7 v8 v9
    try clear_value v3
    try clear_value v4
    try clear_value v5
    try clear_value v6
    try clear_value v7
    try clear_value v8
    have h10 : Kept M s0 v9 := (Kept.upd_mod_ (hm.mono rfl) h0_)
    try clear_value v9
    exact (Kept.ite h10 (State.event_kept (hm.mono rfl) h10))

theorem State.warnSensor_kept {M : Nat} {s0 : State} {p0 : State} {p1 : Nat} {p2 : Int} (hm : Msub 5192296858541616030349621444219024 M) (h0_ : Kept M s0 p0) :
    Kept M s0 (@State.warnSensor p0 p1 p2) := by
  unfold State.warnSensor
  extract_lets -underBinder -merge v1
  try clear_value v1
  exact (Kept.ite h0_ (Kept.ite (State.event_kept (hm.mono rfl) (Kept.upd_mod_ (hm.mono rfl) h0_)) (Kept.upd_mod_ (hm.mono rfl) h0_)))

theorem State.sensor_kept {M : Nat} {s0 : State} {p0 : State} {p1 : Nat} {p2 : Int} (hm : Msub 5192296858541616030349621712654480 M) (h0_ : Kept M s0 p0) :
    Kept M s0 (@State.sensor p0 p1 p2) := by
  unfold State.sensor
  exact (State.warnBits_kept (hm.mono rfl) (State.warnSensor_kept (hm.mono rfl) (State.throttle_kept (hm.mono rfl) (State.showTemp_kept (hm.mono rfl) h0_))))

theorem execThermalThrottleChange_kept {M : Nat} {s0 : State} {p0 : Nat} {p1 : Int} {p2 : State} (hm : Msub 5192296858541616030349621712654480 M) (h2_ : Kept M s0 p2) :
    KeptO M s0 (@execThermalThrottleChange p0 p1 p2) := by
  unfold execThermalThrottleChange
  exact (KeptO.next (Kept.ite (State.sensor_kept (hm.mono rfl) h2_) h2_))

theorem State.capStep_kept {M : Nat} {s0 : State} {p0 : State} (hm : Msub 1180591620717679738880 M) (h0_ : Kept M s0 p0) :
    Kept M s0 (@State.capStep p0) := by
  unfold State.capStep
  extract_lets -underBinder -merge v1 v2 v3 v4
  try clear_value v1
  try clear_value v2
  try clear_value v3
  have h5 : Kept M s0 v4 := (Kept.upd_mod_ (hm.mono rfl) h0_)
  try clear_value v4
  exact (Kept.ite h0_ (Kept.ite (State.setFld_kept (hm.mono rfl) h5 (hm.has (k := 28) rfl)) (Kept.ite (State.setFld_kept (hm.mono rfl) h5 (hm.has (k := 28) rfl)) h5)))

theorem execCapEffStep_kept {M : Nat} {s0 : State} {p0 : State} (hm : Msub 1180591620717679738880 M) (h0_ : Kept M s0 p0) :
    KeptO M s0 (@execCapEffStep p0) := by
  unfold execCapEffStep
  exact (KeptO.next (Kept.ite (State.capStep_kept (hm.mono rfl) h0_) h0_))

theorem State.thermalTrip_kept {M : Nat} {s0 : State} {p0 : State} {p1 : Nat} {p2 : Int} (hm : Msub 87112285931760246644244269517024129974271 M) (h0_ : Kept M s0 p0) :
    Kept M s0 (@State.thermalTrip p0 p1 p2) := by
  unfold State.thermalTrip
  extract_lets -underBinder -merge v1
  have h2 : Kept M s0 v1 := (State.event_kept (hm.mono rfl) (State.sensor_kept (hm.mono rfl) h0_))
  try clear_value v1
  exact (Kept.ite (State.engineDark_kept (hm.mono rfl) h2) (Kept.ite (State.powerDown_kept (hm.mono rfl) h2) (State.moduleFail_kept (hm.mono rfl) h2)))

theorem execThermalTrip_kept {M : Nat} {s0 : State} {p0 : Nat} {p1 : Int} {p2 : State} (hm : Msub 87112285931760246644244269517024129974271 M) (h2_ : Kept M s0 p2) :
    KeptO M s0 (@execThermalTrip p0 p1 p2) := by
  unfold execThermalTrip
  exact (KeptO.next (Kept.ite (State.thermalTrip_kept (hm.mono rfl) h2_) h2_))

theorem State.chipLanes_kept {M : Nat} {s0 : State} {p0 : State} {p1 : Bool} (hm : Msub 5192320379401181861166057982529680 M) (h0_ : Kept M s0 p0) :
    Kept M s0 (@State.chipLanes p0 p1) := by
  unfold State.chipLanes
  extract_lets -underBinder -merge v1
  try clear_value v1
  exact (Kept.ite (Kept.each h0_ (fun x2 x3 h4 =>
    (Kept.ite (State.portUp_kept (hm.mono rfl) h4) h4))) (Kept.ite (Kept.each h0_ (fun x5 x6 h7 =>
    (Kept.each h7 (fun x8 x9 h10 =>
      (Kept.ite (State.portSync_kept (hm.mono rfl) (State.setLaneSt_kept (hm.mono rfl) h10)) h10))))) h0_))

theorem State.chipWrite_kept {M : Nat} {s0 : State} {p0 : State} {p1 : Nat} (hm : Msub 5192320379401181861166057982529681 M) (h0_ : Kept M s0 p0) :
    Kept M s0 (@State.chipWrite p0 p1) := by
  unfold State.chipWrite
  extract_lets -underBinder -merge v1
  try clear_value v1
  exact (Kept.ite (State.setErr_kept (hm.mono rfl) h0_ (hm.has (k := 0) rfl)) (State.chipLanes_kept (hm.mono rfl) (State.setFld_kept (hm.mono rfl) h0_ (hm.has (k := 0) rfl))))

theorem execChipIdWrite_kept {M : Nat} {s0 : State} {p0 : Master} {p1 : Sys2Proof.Word} {p2 : State} (hm : Msub 5192320379410626594131797272957073 M) (h2_ : Kept M s0 p2) :
    KeptO M s0 (@execChipIdWrite p0 p1 p2) := by
  unfold execChipIdWrite
  exact (KeptO.next (State.gated_kept (hm.mono rfl) h2_ (fun x1 h2 =>
    (State.chipWrite_kept (hm.mono rfl) h2))))

theorem State.removeNotice_kept {M : Nat} {s0 : State} {p0 : State} {p1 : Nat} (hm : Msub 5192296858541616030349621444219025 M) (h0_ : Kept M s0 p0) :
    Kept M s0 (@State.removeNotice p0 p1) := by
  unfold State.removeNotice
  extract_lets -underBinder -merge v1
  try clear_value v1
  exact (Kept.ite h0_ (State.event_kept (hm.mono rfl) (State.setModState_kept (hm.mono rfl) (Kept.upd_mod_ (hm.mono rfl) h0_))))

theorem State.removeCancel_kept {M : Nat} {s0 : State} {p0 : State} (hm : Msub 5192296858541616030349621444219025 M) (h0_ : Kept M s0 p0) :
    Kept M s0 (@State.removeCancel p0) := by
  unfold State.removeCancel
  extract_lets -underBinder -merge v1 v2
  try clear_value v1
  try clear_value v2
  exact (Kept.ite (State.event_kept (hm.mono rfl) (State.setModState_kept (hm.mono rfl) (Kept.upd_mod_ (hm.mono rfl) h0_))) h0_)

theorem State.modCmd_kept {M : Nat} {s0 : State} {p0 : State} {p1 : Nat} (hm : Msub 5192296858541616030349621444219025 M) (h0_ : Kept M s0 p0) :
    Kept M s0 (@State.modCmd p0 p1) := by
  unfold State.modCmd
  extract_lets -underBinder -merge v1
  have h2 : Kept M s0 v1 := (Kept.ite (State.removeNotice_kept (hm.mono rfl) h0_) h0_)
  try clear_value v1
  exact (Kept.ite (State.removeCancel_kept (hm.mono rfl) h2) h2)

theorem execEjectLatchOpen_kept {M : Nat} {s0 : State} {p0 : State} (hm : Msub 5192296858541616030349621444219025 M) (h0_ : Kept M s0 p0) :
    KeptO M s0 (@execEjectLatchOpen p0) := by
  unfold execEjectLatchOpen
  extract_lets -underBinder -merge v1 v2
  try clear_value v1
  have h3 : Kept M s0 v2 := (Kept.upd_mod_ (hm.mono rfl) h0_)
  try clear_value v2
  exact (KeptO.next (Kept.ite (State.removeNotice_kept (hm.mono rfl) (State.setFld_kept (hm.mono rfl) h3 (hm.has (k := 0) rfl))) h3))

theorem execEjectLatchClose_kept {M : Nat} {s0 : State} {p0 : State} (hm : Msub 1180591620717411303425 M) (h0_ : Kept M s0 p0) :
    KeptO M s0 (@execEjectLatchClose p0) := by
  unfold execEjectLatchClose
  extract_lets -underBinder -merge v1 v2
  try clear_value v1
  have h3 : Kept M s0 v2 := (Kept.upd_mod_ (hm.mono rfl) h0_)
  try clear_value v2
  exact (KeptO.next (Kept.ite (State.setFld_kept (hm.mono rfl) h3 (hm.has (k := 0) rfl)) h3))

theorem execRemoveReq_kept {M : Nat} {s0 : State} {p0 : Master} {p1 : State} (hm : Msub 5192296858551060763315360734646417 M) (h1_ : Kept M s0 p1) :
    KeptO M s0 (@execRemoveReq p0 p1) := by
  unfold execRemoveReq
  exact (KeptO.next (State.gated_kept (hm.mono rfl) h1_ (fun x1 h2 =>
    (State.modCmd_kept (hm.mono rfl) h2))))

theorem execRemoveCancel_kept {M : Nat} {s0 : State} {p0 : Master} {p1 : State} (hm : Msub 5192296858551060763315360734646417 M) (h1_ : Kept M s0 p1) :
    KeptO M s0 (@execRemoveCancel p0 p1) := by
  unfold execRemoveCancel
  exact (KeptO.next (State.gated_kept (hm.mono rfl) h1_ (fun x1 h2 =>
    (State.modCmd_kept (hm.mono rfl) h2))))

theorem State.lasersOff_kept {M : Nat} {s0 : State} {p0 : State} {p1 : Nat} (hm : Msub 17592186044416 M) (h0_ : Kept M s0 p0) :
    Kept M s0 (@State.lasersOff p0 p1) := by
  unfold State.lasersOff
  exact (Kept.each h0_ (fun x1 x2 h3 =>
    (Kept.ite (State.setFld_kept (hm.mono rfl) h3 (hm.has (k := 44) rfl)) h3)))

theorem State.railsDown_kept {M : Nat} {s0 : State} {p0 : State} (hm : Msub 5196133853693602427685557908869264 M) (h0_ : Kept M s0 p0) :
    Kept M s0 (@State.railsDown p0) := by
  unfold State.railsDown
  extract_lets -underBinder -merge v1 v2 v3 v4
  have h8 : Kept M s0 v1 := (Kept.each h0_ (fun x5 x6 h7 =>
    (State.lasersOff_kept (hm.mono rfl) h7)))
  try clear_value v1
  have h12 : Kept M s0 v2 := (Kept.each h8 (fun x9 x10 h11 =>
    (State.portDown_kept (hm.mono rfl) h11)))
  try clear_value v2
  have h16 : Kept M s0 v3 := (Kept.each h12 (fun x13 x14 h15 =>
    (State.setFld_kept (hm.mono rfl) (State.setFld_kept (hm.mono rfl) h15 (hm.has (k := 34) rfl)) (hm.has (k := 36) rfl))))
  try clear_value v3
  try clear_value v4
  exact (Kept.upd_mem_lines_mod_ (hm.mono rfl) (fun _ => rfl) (fun _ => rfl) h16)

theorem execSafeToRemove_kept {M : Nat} {s0 : State} {p0 : State} (hm : Msub 5196133853693602427685557908869265 M) (h0_ : Kept M s0 p0) :
    KeptO M s0 (@execSafeToRemove p0) := by
  unfold execSafeToRemove
  exact (KeptO.next (Kept.ite (State.railsDown_kept (hm.mono rfl) (State.event_kept (hm.mono rfl) (State.setModState_kept (hm.mono rfl) h0_))) h0_))

end Sys2Proof.Machine
end

