-- ==== Sys2Proof/Laws/FrameTimeOps.lean ====
section
/-! SUPPORT. What the operations and meanings of Machine/TimeOps.lean can change: one frame lemma per definition. -/
namespace Sys2Proof.Machine

theorem State.modTime_kept {M : Nat} {s0 : State} {p0 : State} {p1 : TimeX → TimeX} (hm : Msub 5192296858534827628530496329220096 M) (h0_ : Kept M s0 p0) :
    Kept M s0 (@State.modTime p0 p1) := by
  unfold State.modTime
  exact (Kept.upd_time (hm.mono rfl) h0_)

theorem State.setTimSt_kept {M : Nat} {s0 : State} {p0 : State} {p1 : Nat} (hm : Msub 32 M) (h0_ : Kept M s0 p0) :
    Kept M s0 (@State.setTimSt p0 p1) := by
  unfold State.setTimSt
  exact (State.setFld_kept (hm.mono rfl) h0_ (hm.has (k := 5) rfl))

theorem State.showTime_kept {M : Nat} {s0 : State} {p0 : State} {p1 : Nat} (hm : Msub 32 M) (h0_ : Kept M s0 p0) :
    Kept M s0 (@State.showTime p0 p1) := by
  unfold State.showTime
  extract_lets -underBinder -merge v1 v2
  try clear_value v1
  have h3 : Kept M s0 v2 := (State.setFld64_kept (hm.mono rfl) h0_ (hm.has (k := 5) rfl))
  try clear_value v2
  exact (Kept.ite h0_ (State.setFld_kept (hm.mono rfl) (State.setFld_kept (hm.mono rfl) h3 (hm.has (k := 5) rfl)) (hm.has (k := 5) rfl)))

theorem State.trgFire_kept {M : Nat} {s0 : State} {p0 : State} {p1 : Nat} {p2 : Bool} (hm : Msub 5192296858540435438728904032915600 M) (h0_ : Kept M s0 p0) :
    Kept M s0 (@State.trgFire p0 p1 p2) := by
  unfold State.trgFire
  extract_lets -underBinder -merge v1 v2
  have h3 : Kept M s0 v1 := (State.setFld_kept (hm.mono rfl) h0_ (hm.has (k := 7) rfl))
  try clear_value v1
  have h6 : Kept M s0 v2 := (Kept.whenB h3 (fun x4 h5 =>
    (State.event_kept (hm.mono rfl) h5)))
  try clear_value v2
  exact (Kept.whenB h6 (fun x7 h8 =>
    (State.emit_kept (hm.mono rfl) h8)))

theorem State.trgCtrl_kept {M : Nat} {s0 : State} {p0 : State} {p1 : Nat} {p2 : Sys2Proof.Word} {p3 : Nat} (hm : Msub 5192296858540435438728904032915600 M) (h0_ : Kept M s0 p0) :
    Kept M s0 (@State.trgCtrl p0 p1 p2 p3) := by
  unfold State.trgCtrl
  extract_lets -underBinder -merge v1 v2 v3
  have h4 : Kept M s0 v1 := (State.setFld_kept (hm.mono rfl) h0_ (hm.has (k := 7) rfl))
  try clear_value v1
  have h5 : Kept M s0 v2 := (State.setFld_kept (hm.mono rfl) h4 (hm.has (k := 7) rfl))
  try clear_value v2
  have h6 : Kept M s0 v3 := (State.setFld_kept (hm.mono rfl) h5 (hm.has (k := 7) rfl))
  try clear_value v3
  exact (Kept.ite (Kept.whenB h6 (fun x7 h8 =>
    (State.trgFire_kept (hm.mono rfl) h8))) h5)

theorem State.timeStep_kept {M : Nat} {s0 : State} {p0 : State} {p1 : Int} (hm : Msub 5192296858578214370591861194625200 M) (h0_ : Kept M s0 p0) :
    Kept M s0 (@State.timeStep p0 p1) := by
  unfold State.timeStep
  extract_lets -underBinder -merge v1 v2 v3 v4 v5 v6
  try clear_value v1
  try clear_value v2
  have h7 : Kept M s0 v3 := (State.modTime_kept (hm.mono rfl) h0_)
  try clear_value v3
  have h8 : Kept M s0 v4 := (Kept.ite (State.scanSkip_kept (hm.mono rfl) (State.setFld64_kept (hm.mono rfl) h7 (hm.has (k := 5) rfl))) h7)
  try clear_value v4
  have h9 : Kept M s0 v5 := (State.showTime_kept (hm.mono rfl) h8)
  try clear_value v5
  have h10 : Kept M s0 v6 := (State.event_kept (hm.mono rfl) h9)
  try clear_value v6
  exact (Kept.each h10 (fun x11 x12 h13 =>
    (Kept.whenB h13 (fun x14 h15 =>
      (State.trgFire_kept (hm.mono rfl) h15)))))

theorem State.timeRx_kept {M : Nat} {s0 : State} {p0 : State} {p1 : Nat} {p2 : Nat} {p3 : TimeMsg} {p4 : Nat} (hm : Msub 5192296858534827628530496329220128 M) (h0_ : Kept M s0 p0) :
    Kept M s0 (@State.timeRx p0 p1 p2 p3 p4) := by
  unfold State.timeRx
  extract_lets -underBinder -merge v1 v2 v3 v4 v5 v6 v7 v8 v9 v10
  try clear_value v1
  try clear_value v2
  try clear_value v3
  try clear_value v4
  try clear_value v5
  have h11 : Kept M s0 v6 := (State.modTime_kept (hm.mono rfl) h0_)
  try clear_value v6
  try clear_value v7
  try clear_value v8
  try clear_value v9
  have h12 : Kept M s0 v10 := (State.modTime_kept (hm.mono rfl) h11)
  try clear_value v10
  split
  · extract_lets -underBinder -merge v14 v15 v16 v17
    try clear_value v14
    have h18 : Kept M s0 v15 := (State.modTime_kept (hm.mono rfl) h12)
    try clear_value v15
    have h19 : Kept M s0 v16 := (State.setFld_kept (hm.mono rfl) h18 (hm.has (k := 5) rfl))
    try clear_value v16
    have h20 : Kept M s0 v17 := (State.setFld_kept (hm.mono rfl) h19 (hm.has (k := 5) rfl))
    try clear_value v17
    exact (Kept.ite (State.setFld_kept (hm.mono rfl) h20 (hm.has (k := 5) rfl)) h12)
  · exact h12

theorem State.timeSend_kept {M : Nat} {s0 : State} {p0 : State} (hm : Msub 295147905179352825856 M) (h0_ : Kept M s0 p0) :
    Kept M s0 (@State.timeSend p0) := by
  unfold State.timeSend
  extract_lets -underBinder -merge v1 v2 v3
  try clear_value v1
  try clear_value v2
  try clear_value v3
  exact (Kept.ite h0_ (Kept.each h0_ (fun x4 x5 h6 =>
    (by
      extract_lets -underBinder -merge v7 v8 v9 v10
      try clear_value v7
      try clear_value v8
      try clear_value v9
      try clear_value v10
      exact (State.emit_kept (hm.mono rfl) h6)))))

theorem State.modPtp_kept {M : Nat} {s0 : State} {p0 : State} {p1 : Nat} {p2 : PtpPort → PtpPort} (hm : Msub 5192296858534827628530496329220096 M) (h0_ : Kept M s0 p0) :
    Kept M s0 (@State.modPtp p0 p1 p2) := by
  unfold State.modPtp
  exact (State.modTime_kept (hm.mono rfl) h0_)

theorem setPtpSt_kept {M : Nat} {s0 : State} {p0 : State} {p1 : Nat} {p2 : Nat} (hm : Msub 5192296858540435438728904032915664 M) (h0_ : Kept M s0 p0) :
    Kept M s0 (@setPtpSt p0 p1 p2) := by
  unfold setPtpSt
  exact (Kept.ite h0_ (State.event_kept (hm.mono rfl) (State.setFld_kept (hm.mono rfl) h0_ (hm.has (k := 6) rfl))))

theorem State.setRate_kept {M : Nat} {s0 : State} {p0 : State} {p1 : Int} (hm : Msub 32 M) (h0_ : Kept M s0 p0) :
    Kept M s0 (@State.setRate p0 p1) := by
  unfold State.setRate
  exact (State.setFld_kept (hm.mono rfl) h0_ (hm.has (k := 5) rfl))

theorem State.holdover_kept {M : Nat} {s0 : State} {p0 : State} {p1 : Nat} (hm : Msub 5192296858540435438728904032915632 M) (h0_ : Kept M s0 p0) :
    Kept M s0 (@State.holdover p0 p1) := by
  unfold State.holdover
  extract_lets -underBinder -merge v1 v2 v3
  try clear_value v1
  try clear_value v2
  have h4 : Kept M s0 v3 := (State.modTime_kept (hm.mono rfl) (State.setRate_kept (hm.mono rfl) h0_))
  try clear_value v3
  exact (State.event_kept (hm.mono rfl) (State.setFld_kept (hm.mono rfl) (State.setTimSt_kept (hm.mono rfl) h4) (hm.has (k := 5) rfl)))

theorem State.sourceGone_kept {M : Nat} {s0 : State} {p0 : State} {p1 : Nat} (hm : Msub 5192296858540435438728904032915632 M) (h0_ : Kept M s0 p0) :
    Kept M s0 (@State.sourceGone p0 p1) := by
  unfold State.sourceGone
  extract_lets -underBinder -merge v1
  have h2 : Kept M s0 v1 := (State.modTime_kept (hm.mono rfl) h0_)
  try clear_value v1
  exact (Kept.ite (State.holdover_kept (hm.mono rfl) h2) h2)

theorem State.setRoot_kept {M : Nat} {s0 : State} {p0 : State} {p1 : Nat} {p2 : Nat} (hm : Msub 5192296858540435438728904032915632 M) (h0_ : Kept M s0 p0) :
    Kept M s0 (@State.setRoot p0 p1 p2) := by
  unfold State.setRoot
  extract_lets -underBinder -merge v1 v2
  try clear_value v1
  have h3 : Kept M s0 v2 := (State.setFld_kept (hm.mono rfl) h0_ (hm.has (k := 5) rfl))
  try clear_value v2
  exact (Kept.ite h3 (State.event_kept (hm.mono rfl) h3))

theorem State.setTimeParent_kept {M : Nat} {s0 : State} {p0 : State} {p1 : Option Nat} {p2 : Nat} (hm : Msub 5192296858540435438728904032915632 M) (h0_ : Kept M s0 p0) :
    Kept M s0 (@State.setTimeParent p0 p1 p2) := by
  unfold State.setTimeParent
  extract_lets -underBinder -merge v1 v2 v3 v4
  try clear_value v1
  have h5 : Kept M s0 v2 := (State.setFld_kept (hm.mono rfl) h0_ (hm.has (k := 5) rfl))
  try clear_value v2
  have h6 : Kept M s0 v3 := (State.setFld_kept (hm.mono rfl) h5 (hm.has (k := 5) rfl))
  try clear_value v3
  have h7 : Kept M s0 v4 := (State.modTime_kept (hm.mono rfl) h6)
  try clear_value v4
  exact (Kept.ite h5 (State.event_kept (hm.mono rfl) h7))

theorem State.takeRoot_kept {M : Nat} {s0 : State} {p0 : State} (hm : Msub 5192296858540435438728904032915632 M) (h0_ : Kept M s0 p0) :
    Kept M s0 (@State.takeRoot p0) := by
  unfold State.takeRoot
  extract_lets -underBinder -merge v1 v2 v3
  have h4 : Kept M s0 v1 := (State.setFld_kept (hm.mono rfl) h0_ (hm.has (k := 5) rfl))
  try clear_value v1
  have h5 : Kept M s0 v2 := (State.modTime_kept (hm.mono rfl) h4)
  try clear_value v2
  have h6 : Kept M s0 v3 := (State.setRoot_kept (hm.mono rfl) (State.setTimeParent_kept (hm.mono rfl) h5))
  try clear_value v3
  exact (State.sourceGone_kept (hm.mono rfl) h6)

theorem State.dropRole_kept {M : Nat} {s0 : State} {p0 : State} (hm : Msub 5192296858540435438728904032915632 M) (h0_ : Kept M s0 p0) :
    Kept M s0 (@State.dropRole p0) := by
  unfold State.dropRole
  extract_lets -underBinder -merge v1 v2
  have h3 : Kept M s0 v1 := (State.setFld_kept (hm.mono rfl) h0_ (hm.has (k := 5) rfl))
  try clear_value v1
  have h4 : Kept M s0 v2 := (State.modTime_kept (hm.mono rfl) h3)
  try clear_value v2
  exact (State.sourceGone_kept (hm.mono rfl) (State.setFld_kept (hm.mono rfl) h4 (hm.has (k := 5) rfl)))

theorem State.treeEdge_kept {M : Nat} {s0 : State} {p0 : State} (hm : Msub 5192296858540435438728904032915632 M) (h0_ : Kept M s0 p0) :
    Kept M s0 (@State.treeEdge p0) := by
  unfold State.treeEdge
  extract_lets -underBinder -merge v1 v2 v3 v4
  try clear_value v1
  try clear_value v2
  try clear_value v3
  try clear_value v4
  split
  · extract_lets -underBinder -merge v7 v8
    have h9 : Kept M s0 v7 := (State.setTimeParent_kept (hm.mono rfl) h0_)
    try clear_value v7
    have h10 : Kept M s0 v8 := (State.setRoot_kept (hm.mono rfl) h9)
    try clear_value v8
    exact (Kept.ite h10 (State.sourceGone_kept (hm.mono rfl) h10))
  · extract_lets -underBinder -merge v12 v13 v14
    have h15 : Kept M s0 v12 := (State.setTimeParent_kept (hm.mono rfl) h0_)
    try clear_value v12
    try clear_value v13
    have h16 : Kept M s0 v14 := (Kept.ite (State.setRoot_kept (hm.mono rfl) h15) h15)
    try clear_value v14
    exact (Kept.ite h16 (State.sourceGone_kept (hm.mono rfl) h16))

theorem State.rootExpiry_kept {M : Nat} {s0 : State} {p0 : State} (hm : Msub 5192296858540435438728904032915632 M) (h0_ : Kept M s0 p0) :
    Kept M s0 (@State.rootExpiry p0) := by
  unfold State.rootExpiry
  exact (Kept.ite (State.takeRoot_kept (hm.mono rfl) h0_) h0_)

theorem State.servo_kept {M : Nat} {s0 : State} {p0 : State} (hm : Msub 5192296858540435438728904032915632 M) (h0_ : Kept M s0 p0) :
    Kept M s0 (@State.servo p0) := by
  unfold State.servo
  extract_lets -underBinder -merge v1
  try clear_value v1
  split
  · rename_i x2 x3 e4
    have Hx2 := Kept.fst e4 (Kept.ite1 (Kept.pairMk h0_) (Kept.pairMk (Kept.upd_fresh (hm.mono rfl) (Nat.le_add_right _ _) h0_)))
    extract_lets -underBinder -merge v5 v6 v7 v8 v9
    try clear_value v5
    try clear_value v6
    have h10 : Kept M s0 v7 := (State.setRate_kept (hm.mono rfl) Hx2)
    try clear_value v7
    have h11 : Kept M s0 v8 := (State.bump_kept (hm.mono rfl) h10 (hm.has (k := 5) rfl))
    try clear_value v8
    have h14 : Kept M s0 v9 := (Kept.ite (Kept.whenB h11 (fun x12 h13 =>
      (State.event_kept (hm.mono rfl) h13))) h10)
    try clear_value v9
    exact (State.modTime_kept (hm.mono rfl) h14)

theorem State.timeStates_kept {M : Nat} {s0 : State} {p0 : State} (hm : Msub 5192296858578214370591861194625200 M) (h0_ : Kept M s0 p0) :
    Kept M s0 (@State.timeStates p0) := by
  unfold State.timeStates
  extract_lets -underBinder -merge v1
  try clear_value v1
  split
  · exact (Kept.ite (State.timeStep_kept (hm.mono rfl) (State.setTimSt_kept (hm.mono rfl) h0_)) (Kept.ite (State.holdover_kept (hm.mono rfl) h0_) h0_))
  · extract_lets -underBinder -merge v4
    try clear_value v4
    exact (Kept.ite (State.event_kept (hm.mono rfl) (State.setTimSt_kept (hm.mono rfl) h0_)) h0_)
  · exact (Kept.ite (State.event_kept (hm.mono rfl) (State.setTimSt_kept (hm.mono rfl) (State.modTime_kept (hm.mono rfl) h0_))) h0_)
  · exact (Kept.ite (State.event_kept (hm.mono rfl) (State.setTimSt_kept (hm.mono rfl) (State.modTime_kept (hm.mono rfl) h0_))) h0_)

theorem State.holdLong_kept {M : Nat} {s0 : State} {p0 : State} (hm : Msub 5192296858540435438728904032915600 M) (h0_ : Kept M s0 p0) :
    Kept M s0 (@State.holdLong p0) := by
  unfold State.holdLong
  exact (Kept.ite (State.event_kept (hm.mono rfl) (State.modTime_kept (hm.mono rfl) h0_)) h0_)

theorem State.timeEdge_kept {M : Nat} {s0 : State} {p0 : State} (hm : Msub 5192296858578214370591861194625200 M) (h0_ : Kept M s0 p0) :
    Kept M s0 (@State.timeEdge p0) := by
  unfold State.timeEdge
  extract_lets -underBinder -merge v1 v2 v3 v4 v5 v6 v7 v8 v9 v10 v11 v12 v13
  try clear_value v1
  have h14 : Kept M s0 v2 := (State.modTime_kept (hm.mono rfl) h0_)
  try clear_value v2
  try clear_value v3
  have h15 : Kept M s0 v4 := (State.modTime_kept (hm.mono rfl) h14)
  try clear_value v4
  have h16 : Kept M s0 v5 := (Kept.ite (State.dropRole_kept (hm.mono rfl) h15) h15)
  try clear_value v5
  have h17 : Kept M s0 v6 := (State.rootExpiry_kept (hm.mono rfl) h16)
  try clear_value v6
  have h18 : Kept M s0 v7 := (Kept.ite (State.setFld_kept (hm.mono rfl) h17 (hm.has (k := 5) rfl)) (State.treeEdge_kept (hm.mono rfl) h17))
  try clear_value v7
  have h19 : Kept M s0 v8 := (State.modTime_kept (hm.mono rfl) h18)
  try clear_value v8
  have h20 : Kept M s0 v9 := (State.timeStates_kept (hm.mono rfl) h19)
  try clear_value v9
  have h21 : Kept M s0 v10 := (Kept.ite (State.servo_kept (hm.mono rfl) h20) h20)
  try clear_value v10
  have h22 : Kept M s0 v11 := (Kept.ite (State.holdLong_kept (hm.mono rfl) (State.bump_kept (hm.mono rfl) h21 (hm.has (k := 5) rfl))) h21)
  try clear_value v11
  have h23 : Kept M s0 v12 := (State.setFld_kept (hm.mono rfl) h22 (hm.has (k := 5) rfl))
  try clear_value v12
  have h24 : Kept M s0 v13 := (State.modTime_kept (hm.mono rfl) h23)
  try clear_value v13
  exact (Kept.each h24 (fun x25 x26 h27 =>
    (Kept.whenB h27 (fun x28 h29 =>
      (State.capLatch_kept (hm.mono rfl) h29)))))

theorem State.timeAdvance_kept {M : Nat} {s0 : State} {p0 : State} (hm : Msub 5192296858534827628530496329220128 M) (h0_ : Kept M s0 p0) :
    Kept M s0 (@State.timeAdvance p0).1 := by
  unfold State.timeAdvance
  extract_lets -underBinder -merge v1 v2
  try clear_value v1
  have h3 : Kept M s0 v2 := (State.showTime_kept (hm.mono rfl) (State.modTime_kept (hm.mono rfl) h0_))
  try clear_value v2
  exact (Kept.ite1 (Kept.pairMk (State.setFld64_kept (hm.mono rfl) h3 (hm.has (k := 5) rfl))) (Kept.pairMk h3))

end Sys2Proof.Machine
end

