-- ==== Sys2Proof/Laws/FrameTime.lean ====
section
/-! SUPPORT. What the operations and meanings of Machine/Time.lean can change: one frame lemma per definition. -/
namespace Sys2Proof.Machine

theorem State.restep_kept {M : Nat} {s0 : State} {p0 : State} (hm : Msub 5192296858578214370591861194625201 M) (h0_ : Kept M s0 p0) :
    Kept M s0 (@State.restep p0) := by
  unfold State.restep
  extract_lets -underBinder -merge v1
  try clear_value v1
  exact (Kept.ite (State.setErr_kept (hm.mono rfl) h0_ (hm.has (k := 5) rfl)) (Kept.ite (State.setErr_kept (hm.mono rfl) h0_ (hm.has (k := 5) rfl)) (State.timeStep_kept (hm.mono rfl) h0_)))

theorem execRestep_kept {M : Nat} {s0 : State} {p0 : Master} {p1 : State} (hm : Msub 5192296858587659103557600485052593 M) (h1_ : Kept M s0 p1) :
    KeptO M s0 (@execRestep p0 p1) := by
  unfold execRestep
  exact (KeptO.next (State.gated_kept (hm.mono rfl) h1_ (fun x1 h2 =>
    (State.restep_kept (hm.mono rfl) h2))))

theorem State.timCfg_kept {M : Nat} {s0 : State} {p0 : State} {p1 : Sys2Proof.Word} (hm : Msub 5192296858535122776435675682045985 M) (h0_ : Kept M s0 p0) :
    Kept M s0 (@State.timCfg p0 p1) := by
  unfold State.timCfg
  extract_lets -underBinder -merge v1 v2 v3
  try clear_value v1
  try clear_value v2
  have h4 : Kept M s0 v3 := (State.setFld_kept (hm.mono rfl) h0_ (hm.has (k := 5) rfl))
  try clear_value v3
  exact (Kept.ite (State.setErr_kept (hm.mono rfl) h0_ (hm.has (k := 5) rfl)) (Kept.ite h4 (State.modTime_kept (hm.mono rfl) h4)))

theorem execTimCfgWrite_kept {M : Nat} {s0 : State} {p0 : Master} {p1 : Sys2Proof.Word} {p2 : State} (hm : Msub 5192296858549880171694643323343025 M) (h2_ : Kept M s0 p2) :
    KeptO M s0 (@execTimCfgWrite p0 p1 p2) := by
  unfold execTimCfgWrite
  exact (KeptO.next (State.gated_kept (hm.mono rfl) h2_ (fun x1 h2 =>
    (State.timCfg_kept (hm.mono rfl) h2))))

theorem execRootLossExpiry_kept {M : Nat} {s0 : State} {p0 : State} (hm : Msub 5192296858540435438728904032915632 M) (h0_ : Kept M s0 p0) :
    KeptO M s0 (@execRootLossExpiry p0) := by
  unfold execRootLossExpiry
  extract_lets -underBinder -merge v1
  have h2 : Kept M s0 v1 := (State.rootExpiry_kept (hm.mono rfl) h0_)
  try clear_value v1
  exact (KeptO.next (Kept.ite h2 (State.treeEdge_kept (hm.mono rfl) h2)))

theorem State.bmca_kept {M : Nat} {s0 : State} {p0 : State} (hm : Msub 5192296858540435438728904032915696 M) (h0_ : Kept M s0 p0) :
    Kept M s0 (@State.bmca p0) := by
  unfold State.bmca
  extract_lets -underBinder -merge v1 v2 v3 v4 v5 v6 v7
  try clear_value v2
  try clear_value v3
  have h11 : Kept M s0 v4 := (Kept.each h0_ (fun x8 x9 h10 =>
    (setPtpSt_kept (hm.mono rfl) h10)))
  try clear_value v4
  have h15 : Kept M s0 v5 := (Kept.each h11 (fun x12 x13 h14 =>
    (State.modPtp_kept (hm.mono rfl) h14)))
  try clear_value v5
  have h18 : Kept M s0 v6 := by
    try dsimp -zeta only [v6]
    split
    · exact (Kept.ite (setPtpSt_kept (hm.mono rfl) h15) h15)
    · exact h15
  try clear_value v6
  have h19 : Kept M s0 v7 := (Kept.ite h11 (Kept.ite (State.sourceGone_kept (hm.mono rfl) h18) h18))
  try clear_value v7
  split
  · exact h19
  · split
    · exact h19
    · extract_lets -underBinder -merge v24 v25 v26 v27
      try clear_value v24
      have h28 : Kept M s0 v25 := (State.setFld64_kept (hm.mono rfl) h19 (hm.has (k := 6) rfl))
      try clear_value v25
      have h29 : Kept M s0 v26 := (Kept.ite (State.setFld_kept (hm.mono rfl) h28 (hm.has (k := 5) rfl)) h28)
      try clear_value v26
      have h30 : Kept M s0 v27 := (State.modPtp_kept (hm.mono rfl) h29)
      try clear_value v27
      exact (Kept.ite h29 (State.sourceGone_kept (hm.mono rfl) (State.event_kept (hm.mono rfl) (Kept.ite (setPtpSt_kept (hm.mono rfl) h30) h30))))

theorem execTimeSourceLoss_kept {M : Nat} {s0 : State} {p0 : State} (hm : Msub 5192296858540435438728904032915696 M) (h0_ : Kept M s0 p0) :
    KeptO M s0 (@execTimeSourceLoss p0) := by
  unfold execTimeSourceLoss
  extract_lets -underBinder -merge v1
  have h9 : Kept M s0 v1 := (Kept.each h0_ (fun x2 x3 h4 =>
    (Kept.ite (by
      extract_lets -underBinder -merge v5 v6
      have h7 : Kept M s0 v5 := (State.modPtp_kept (hm.mono rfl) h4)
      try clear_value v5
      have h8 : Kept M s0 v6 := (Kept.ite (State.sourceGone_kept (hm.mono rfl) h7) h7)
      try clear_value v6
      exact (State.bmca_kept (hm.mono rfl) h8)) h4)))
  try clear_value v1
  exact (KeptO.next (Kept.ite (State.sourceGone_kept (hm.mono rfl) (State.setTimeParent_kept (hm.mono rfl) h9)) h9))

theorem execHoldoverLong_kept {M : Nat} {s0 : State} {p0 : State} (hm : Msub 5192296858540435438728904032915600 M) (h0_ : Kept M s0 p0) :
    KeptO M s0 (@execHoldoverLong p0) := by
  unfold execHoldoverLong
  exact (KeptO.next (State.holdLong_kept (hm.mono rfl) h0_))

theorem State.ptpAccept_kept {M : Nat} {s0 : State} {p0 : State} {p1 : Nat} {p2 : Nat} {p3 : Bool} {p4 : State → State} (hm : Msub 64 M) (h0_ : Kept M s0 p0) (f4_ : ∀ y0, Kept M s0 y0 → Kept M s0 (p4 y0)) :
    Kept M s0 (@State.ptpAccept p0 p1 p2 p3 p4) := by
  unfold State.ptpAccept
  exact (Kept.ite h0_ (Kept.ite (f4_ _ h0_) (State.bump_kept (hm.mono rfl) h0_ (hm.has (k := 6) rfl))))

theorem State.ptpExchange_kept {M : Nat} {s0 : State} {p0 : State} {p1 : Nat} (hm : Msub 5192296858540435438728904032915696 M) (h0_ : Kept M s0 p0) :
    Kept M s0 (@State.ptpExchange p0 p1) := by
  unfold State.ptpExchange
  extract_lets -underBinder -merge v1
  try clear_value v1
  split
  · exact h0_
  · split
    · exact (State.modPtp_kept (hm.mono rfl) h0_)
    · extract_lets -underBinder -merge v6 v7 v8 v9 v10
      try clear_value v6
      have h11 : Kept M s0 v7 := (State.modPtp_kept (hm.mono rfl) h0_)
      try clear_value v7
      have h12 : Kept M s0 v8 := (State.setFld_kept (hm.mono rfl) h11 (hm.has (k := 6) rfl))
      try clear_value v8
      have h13 : Kept M s0 v9 := (Kept.ite (setPtpSt_kept (hm.mono rfl) h12) h12)
      try clear_value v9
      have h14 : Kept M s0 v10 := (State.setFld_kept (hm.mono rfl) h13 (hm.has (k := 5) rfl))
      try clear_value v10
      exact (Kept.ite (State.modTime_kept (hm.mono rfl) (State.setFld_kept (hm.mono rfl) h14 (hm.has (k := 5) rfl))) h14)

theorem execPtpSync_kept {M : Nat} {s0 : State} {p0 : Nat} {p1 : Nat} {p2 : Nat} {p3 : Int} {p4 : Option Nat} {p5 : Nat} {p6 : State} (hm : Msub 5192296858540435438728904032915696 M) (h6_ : Kept M s0 p6) :
    KeptO M s0 (@execPtpSync p0 p1 p2 p3 p4 p5 p6) := by
  unfold execPtpSync
  exact (KeptO.next (State.ptpAccept_kept (hm.mono rfl) h6_ (fun x1 h2 =>
    (Kept.ite h2 (by
      extract_lets -underBinder -merge v3 v4
      have h5 : Kept M s0 v3 := (State.bump_kept (hm.mono rfl) h2 (hm.has (k := 6) rfl))
      try clear_value v3
      have h6 : Kept M s0 v4 := (State.modPtp_kept (hm.mono rfl) h5)
      try clear_value v4
      exact (State.ptpExchange_kept (hm.mono rfl) h6))))))

theorem execPtpFollowUp_kept {M : Nat} {s0 : State} {p0 : Nat} {p1 : Nat} {p2 : Nat} {p3 : Nat} {p4 : State} (hm : Msub 5192296858540435438728904032915696 M) (h4_ : Kept M s0 p4) :
    KeptO M s0 (@execPtpFollowUp p0 p1 p2 p3 p4) := by
  unfold execPtpFollowUp
  exact (KeptO.next (State.ptpAccept_kept (hm.mono rfl) h4_ (fun x1 h2 =>
    (Kept.ite (State.ptpExchange_kept (hm.mono rfl) (State.modPtp_kept (hm.mono rfl) h2)) h2))))

theorem execPtpDelayReq_kept {M : Nat} {s0 : State} {p0 : Nat} {p1 : Nat} {p2 : State} (hm : Msub 5192296858535122776435675682046016 M) (h2_ : Kept M s0 p2) :
    KeptO M s0 (@execPtpDelayReq p0 p1 p2) := by
  unfold execPtpDelayReq
  exact (KeptO.next (Kept.ite (State.emit_kept (hm.mono rfl) (State.bump_kept (hm.mono rfl) (State.modPtp_kept (hm.mono rfl) h2_) (hm.has (k := 6) rfl))) h2_))

theorem execPtpDelayResp_kept {M : Nat} {s0 : State} {p0 : Nat} {p1 : Nat} {p2 : Nat} {p3 : State} (hm : Msub 5192296858534827628530496329220160 M) (h3_ : Kept M s0 p3) :
    KeptO M s0 (@execPtpDelayResp p0 p1 p2 p3) := by
  unfold execPtpDelayResp
  exact (KeptO.next (State.ptpAccept_kept (hm.mono rfl) h3_ (fun x1 h2 =>
    (by
      extract_lets -underBinder -merge v3
      try clear_value v3
      split
      · exact (Kept.ite (State.modPtp_kept (hm.mono rfl) h2) h2)
      · exact h2))))

theorem execPtpAnnounce_kept {M : Nat} {s0 : State} {p0 : Nat} {p1 : Nat} {p2 : Int} {p3 : Announce} {p4 : State} (hm : Msub 5192296858540435438728904032915696 M) (h4_ : Kept M s0 p4) :
    KeptO M s0 (@execPtpAnnounce p0 p1 p2 p3 p4) := by
  unfold execPtpAnnounce
  exact (KeptO.next (State.ptpAccept_kept (hm.mono rfl) h4_ (fun x1 h2 =>
    (by
      extract_lets -underBinder -merge v3
      have h4 : Kept M s0 v3 := (State.bump_kept (hm.mono rfl) h2 (hm.has (k := 6) rfl))
      try clear_value v3
      exact (State.bmca_kept (hm.mono rfl) (State.modPtp_kept (hm.mono rfl) h4))))))

theorem State.timeSecRead_kept {M : Nat} {s0 : State} {p0 : State} {p1 : Nat} (hm : Msub 5192296858534827628530496329220128 M) (h0_ : Kept M s0 p0) :
    Kept M s0 (@State.timeSecRead p0 p1).1 := by
  unfold State.timeSecRead
  extract_lets -underBinder -merge v1
  have h2 : Kept M s0 v1 := (State.showTime_kept (hm.mono rfl) (State.modTime_kept (hm.mono rfl) h0_))
  try clear_value v1
  exact (Kept.pairMk (State.modTime_kept (hm.mono rfl) h2))

theorem execTimeSecLoRead_kept {M : Nat} {s0 : State} {p0 : Nat} {p1 : State} (hm : Msub 5192296858535122776435675682045984 M) (h1_ : Kept M s0 p1) :
    KeptO M s0 (@execTimeSecLoRead p0 p1) := by
  unfold execTimeSecLoRead
  exact (KeptO.next (State.hostReads_kept (hm.mono rfl) h1_ (fun x1 h2 =>
    (State.timeSecRead_kept (hm.mono rfl) h2))))

theorem State.timeFracRead_kept {M : Nat} {s0 : State} {p0 : State} (hm : Msub 5192296858534827628530496329220096 M) (h0_ : Kept M s0 p0) :
    Kept M s0 (@State.timeFracRead p0).1 := by
  unfold State.timeFracRead
  exact (Kept.pairMk (State.modTime_kept (hm.mono rfl) h0_))

theorem execTimeFracRead_kept {M : Nat} {s0 : State} {p0 : State} (hm : Msub 5192296858535122776435675682045952 M) (h0_ : Kept M s0 p0) :
    KeptO M s0 (@execTimeFracRead p0) := by
  unfold execTimeFracRead
  exact (KeptO.next (State.hostReads_kept (hm.mono rfl) h0_ (fun x1 h2 =>
    (State.timeFracRead_kept (hm.mono rfl) h2))))

theorem State.capSecRead_kept {M : Nat} {s0 : State} {p0 : Nat} {p1 : State} (hm : Msub 5192296858534827628530496329220096 M) (h1_ : Kept M s0 p1) :
    Kept M s0 (@State.capSecRead p0 p1).1 := by
  unfold State.capSecRead
  exact (Kept.pairMk (State.modTime_kept (hm.mono rfl) h1_))

theorem execCapSecLoRead_kept {M : Nat} {s0 : State} {p0 : Nat} {p1 : State} (hm : Msub 5192296858535122776435675682045952 M) (h1_ : Kept M s0 p1) :
    KeptO M s0 (@execCapSecLoRead p0 p1) := by
  unfold execCapSecLoRead
  exact (KeptO.next (State.hostReads_kept (hm.mono rfl) h1_ (fun x1 h2 =>
    (State.capSecRead_kept (hm.mono rfl) h2))))

theorem State.capFracRead_kept {M : Nat} {s0 : State} {p0 : Nat} {p1 : State} (hm : Msub 5192296858534827628530496329220224 M) (h1_ : Kept M s0 p1) :
    Kept M s0 (@State.capFracRead p0 p1).1 := by
  unfold State.capFracRead
  extract_lets -underBinder -merge v1 v2 v3 v4
  try clear_value v1
  have h5 : Kept M s0 v2 := (State.setFld_kept (hm.mono rfl) h1_ (hm.has (k := 7) rfl))
  try clear_value v2
  try clear_value v3
  have h6 : Kept M s0 v4 := (State.modTime_kept (hm.mono rfl) h5)
  try clear_value v4
  exact (Kept.pairMk (by
    split
    · exact (State.capShow_kept (hm.mono rfl) h6)
    · exact h6))

theorem execCapFracRead_kept {M : Nat} {s0 : State} {p0 : Nat} {p1 : State} (hm : Msub 5192296858535122776435675682046080 M) (h1_ : Kept M s0 p1) :
    KeptO M s0 (@execCapFracRead p0 p1) := by
  unfold execCapFracRead
  exact (KeptO.next (State.hostReads_kept (hm.mono rfl) h1_ (fun x1 h2 =>
    (State.capFracRead_kept (hm.mono rfl) h2))))

theorem execTrgArm_kept {M : Nat} {s0 : State} {p0 : Master} {p1 : Nat} {p2 : Bool} {p3 : Bool} {p4 : Nat} {p5 : State} (hm : Msub 5192296858549880171694643323342993 M) (h5_ : Kept M s0 p5) :
    KeptO M s0 (@execTrgArm p0 p1 p2 p3 p4 p5) := by
  unfold execTrgArm
  exact (KeptO.next (State.gated_kept (hm.mono rfl) h5_ (fun x1 h2 =>
    (State.trgCtrl_kept (hm.mono rfl) h2))))

theorem execTriggerFire_kept {M : Nat} {s0 : State} {p0 : Nat} {p1 : State} (hm : Msub 5192296858540435438728904032915600 M) (h1_ : Kept M s0 p1) :
    KeptO M s0 (@execTriggerFire p0 p1) := by
  unfold execTriggerFire
  exact (KeptO.next (Kept.ite (State.trgFire_kept (hm.mono rfl) h1_) h1_))

theorem execPpsOutPulse_kept {M : Nat} {s0 : State} {p0 : State} (hm : Msub 5192296858535122776435675682045952 M) (h0_ : Kept M s0 p0) :
    KeptO M s0 (@execPpsOutPulse p0) := by
  unfold execPpsOutPulse
  extract_lets -underBinder -merge v1 v2 v3
  try clear_value v1
  try clear_value v2
  try clear_value v3
  exact (KeptO.next (Kept.ite (State.emit_kept (hm.mono rfl) (State.modTime_kept (hm.mono rfl) h0_)) h0_))

theorem execPpsInEdge_kept {M : Nat} {s0 : State} {p0 : Bool} {p1 : Nat} {p2 : State} (hm : Msub 5192296858534827628530496329220224 M) (h2_ : Kept M s0 p2) :
    KeptO M s0 (@execPpsInEdge p0 p1 p2) := by
  unfold execPpsInEdge
  extract_lets -underBinder -merge v1
  have h2 : Kept M s0 v1 := (State.modTime_kept (hm.mono rfl) (State.setFld_kept (hm.mono rfl) h2_ (hm.has (k := 7) rfl)))
  try clear_value v1
  exact (KeptO.next (Kept.ite h2_ (Kept.each h2 (fun x3 x4 h5 =>
    (Kept.whenB h5 (fun x6 h7 =>
      (State.capLatch_kept (hm.mono rfl) h7)))))))

theorem execPpsInLost_kept {M : Nat} {s0 : State} {p0 : State} (hm : Msub 5192296858540435438728904032915600 M) (h0_ : Kept M s0 p0) :
    KeptO M s0 (@execPpsInLost p0) := by
  unfold execPpsInLost
  exact (KeptO.next (Kept.ite (State.event_kept (hm.mono rfl) (State.setFld_kept (hm.mono rfl) h0_ (hm.has (k := 7) rfl))) h0_))

end Sys2Proof.Machine
end

