-- ==== Sys2Proof/Laws/FrameHostIf.lean ====
section
/-! SUPPORT. What the operations and meanings of Machine/HostIf.lean can change: one frame lemma per definition. -/
namespace Sys2Proof.Machine

theorem execPcieLinkUp_kept {M : Nat} {s0 : State} {p0 : Nat} {p1 : Nat} {p2 : Bool} {p3 : State} (hm : Msub 5192296858540435438728904032915602 M) (h3_ : Kept M s0 p3) :
    KeptO M s0 (@execPcieLinkUp p0 p1 p2 p3) := by
  unfold execPcieLinkUp
  extract_lets -underBinder -merge v1 v2 v3
  try clear_value v1
  try clear_value v2
  have h4 : Kept M s0 v3 := (Kept.ite (State.bump_kept (hm.mono rfl) h3_ (hm.has (k := 1) rfl)) h3_)
  try clear_value v3
  exact (KeptO.next (Kept.ite h3_ (Kept.ite h3_ (State.event_kept (hm.mono rfl) (State.setFld_kept (hm.mono rfl) h4 (hm.has (k := 1) rfl))))))

theorem State.hostSlotsEmpty_kept {M : Nat} {s0 : State} {p0 : State} (hm : Msub 37778931862957161709580 M) (h0_ : Kept M s0 p0) :
    Kept M s0 (@State.hostSlotsEmpty p0) := by
  unfold State.hostSlotsEmpty
  exact (State.lchSync_kept (hm.mono rfl) (Kept.each h0_ (fun x1 x2 h3 =>
    (State.setSlot_kept (hm.mono rfl) h3))))

theorem State.hostRingFresh_kept {M : Nat} {s0 : State} {p0 : State} (hm : Msub 5192296863262801921598549246611612 M) (h0_ : Kept M s0 p0) :
    Kept M s0 (@State.hostRingFresh p0) := by
  unfold State.hostRingFresh
  extract_lets -underBinder -merge v1 v2
  have h3 : Kept M s0 v1 := (State.setFld_kept (hm.mono rfl) (State.setFld_kept (hm.mono rfl) h0_ (hm.has (k := 2) rfl)) (hm.has (k := 2) rfl))
  try clear_value v1
  have h4 : Kept M s0 v2 := (Kept.upd_ring_usedH (hm.mono rfl) (fun _ => Nat.zero_le _) h3)
  try clear_value v2
  exact (State.lchSync_kept (hm.mono rfl) (State.releaseHeld_kept (hm.mono rfl) h4))

theorem State.hostReset_kept {M : Nat} {s0 : State} {p0 : State} (hm : Msub 5192296863262820368342622956158975 M) (h0_ : Kept M s0 p0) :
    Kept M s0 (@State.hostReset p0) := by
  unfold State.hostReset
  extract_lets -underBinder -merge v1 v2
  have h3 : Kept M s0 v1 := (State.setFld_kept (hm.mono rfl) (State.setFld_kept (hm.mono rfl) h0_ (hm.has (k := 2) rfl)) (hm.has (k := 2) rfl))
  try clear_value v1
  have h4 : Kept M s0 v2 := (State.setFld_kept (hm.mono rfl) (State.hostRingFresh_kept (hm.mono rfl) (State.hostSlotsEmpty_kept (hm.mono rfl) h3)) (hm.has (k := 1) rfl))
  try clear_value v2
  exact (State.event_kept (hm.mono rfl) (State.semReleaseAll_kept (hm.mono rfl) h4))

theorem execFlr_kept {M : Nat} {s0 : State} {p0 : State} (hm : Msub 5192296863262820368342622956158975 M) (h0_ : Kept M s0 p0) :
    KeptO M s0 (@execFlr p0) := by
  unfold execFlr
  exact (KeptO.next (Kept.ite (State.hostReset_kept (hm.mono rfl) (State.bump_kept (hm.mono rfl) h0_ (hm.has (k := 1) rfl))) h0_))

theorem execPcieLinkLoss_kept {M : Nat} {s0 : State} {p0 : State} (hm : Msub 5192296863262820368342622956158975 M) (h0_ : Kept M s0 p0) :
    KeptO M s0 (@execPcieLinkLoss p0) := by
  unfold execPcieLinkLoss
  exact (KeptO.next (Kept.ite (State.hostReset_kept (hm.mono rfl) (State.event_kept (hm.mono rfl) (State.bump_kept (hm.mono rfl) (State.setFld_kept (hm.mono rfl) h0_ (hm.has (k := 1) rfl)) (hm.has (k := 1) rfl)))) h0_))

theorem execBar2Read_kept {M : Nat} {s0 : State} {p0 : Nat} {p1 : Nat} {p2 : State} (hm : Msub 32794718308115927230096276403549653512594 M) (h2_ : Kept M s0 p2) :
    KeptO M s0 (@execBar2Read p0 p1 p2) := by
  unfold execBar2Read
  extract_lets -underBinder -merge v1
  try clear_value v1
  exact (KeptO.next (Kept.ite h2_ (Kept.ite (State.deliverError_kept (hm.mono rfl) (State.sealBlock_kept (hm.mono rfl) h2_)) (State.outerRead_kept (hm.mono rfl) h2_))))

theorem execBar2Write_kept {M : Nat} {s0 : State} {p0 : Nat} {p1 : List Sys2Proof.Byte} {p2 : State} (hm : Msub 32794718308115927230317637332571607085458 M) (h2_ : Kept M s0 p2) :
    KeptO M s0 (@execBar2Write p0 p1 p2) := by
  unfold execBar2Write
  extract_lets -underBinder -merge v1
  try clear_value v1
  exact (KeptO.next (Kept.ite h2_ (Kept.ite (State.sealBlock_kept (hm.mono rfl) h2_) (State.writeOpen_kept (hm.mono rfl) h2_))))

theorem State.bar2Sel_kept {M : Nat} {s0 : State} {p0 : State} {p1 : Nat} (hm : Msub 295147905179352825859 M) (h0_ : Kept M s0 p0) :
    Kept M s0 (@State.bar2Sel p0 p1) := by
  unfold State.bar2Sel
  exact (Kept.ite (State.setErr_kept (hm.mono rfl) h0_ (hm.has (k := 1) rfl)) (State.setFld_kept (hm.mono rfl) h0_ (hm.has (k := 1) rfl)))

theorem execBar2SelWrite_kept {M : Nat} {s0 : State} {p0 : Master} {p1 : Sys2Proof.Word} {p2 : State} (hm : Msub 5192296858549880171694643323342995 M) (h2_ : Kept M s0 p2) :
    KeptO M s0 (@execBar2SelWrite p0 p1 p2) := by
  unfold execBar2SelWrite
  exact (KeptO.next (State.gated_kept (hm.mono rfl) h2_ (fun x1 h2 =>
    (State.bar2Sel_kept (hm.mono rfl) h2))))

theorem State.mgmtLink_kept {M : Nat} {s0 : State} {p0 : State} {p1 : Nat} {p2 : Bool} (hm : Msub 5192296858540435438728904032915696 M) (h0_ : Kept M s0 p0) :
    Kept M s0 (@State.mgmtLink p0 p1 p2) := by
  unfold State.mgmtLink
  extract_lets -underBinder -merge v1 v2 v3
  try clear_value v1
  have h4 : Kept M s0 v2 := (State.event_kept (hm.mono rfl) (State.setFld_kept (hm.mono rfl) h0_ (hm.has (k := 4) rfl)))
  try clear_value v2
  have h5 : Kept M s0 v3 := (Kept.ite h4 (State.modPtp_kept (hm.mono rfl) h4))
  try clear_value v3
  exact (Kept.ite h0_ (State.bmca_kept (hm.mono rfl) (Kept.ite (State.streamResume_kept (hm.mono rfl) h5) h5)))

theorem execMgmtPortLinkChange_kept {M : Nat} {s0 : State} {p0 : Nat} {p1 : Bool} {p2 : State} (hm : Msub 5192296858540435438728904032915696 M) (h2_ : Kept M s0 p2) :
    KeptO M s0 (@execMgmtPortLinkChange p0 p1 p2) := by
  unfold execMgmtPortLinkChange
  exact (KeptO.next (Kept.ite (State.mgmtLink_kept (hm.mono rfl) h2_) h2_))

end Sys2Proof.Machine
end

