-- ==== Sys2Proof/Laws/FrameLink.lean ====
section
/-! SUPPORT. What the operations and meanings of Machine/Link.lean can change: one frame lemma per definition. -/
namespace Sys2Proof.Machine

theorem execAckTimer_kept {M : Nat} {s0 : State} {p0 : Nat} {p1 : Nat} {p2 : State} (hm : Msub 618970314790595316802387968 M) (h2_ : Kept M s0 p2) :
    KeptO M s0 (@execAckTimer p0 p1 p2) := by
  unfold execAckTimer
  extract_lets -underBinder -merge v1 v2 v3
  try clear_value v1
  try clear_value v2
  have h4 : Kept M s0 v3 := (State.emit_kept (hm.mono rfl) h2_)
  try clear_value v3
  exact (KeptO.ite (KeptO.next h2_) (KeptO.next (Kept.each h4 (fun x5 x6 h7 =>
    (State.setBundle_kept (hm.mono rfl) h7)))))

theorem execNakSkewTimer_kept {M : Nat} {s0 : State} {p0 : Nat} {p1 : Nat} {p2 : Nat} {p3 : State} (hm : Msub 295147905454230732800 M) (h3_ : Kept M s0 p3) :
    KeptO M s0 (@execNakSkewTimer p0 p1 p2 p3) := by
  unfold execNakSkewTimer
  extract_lets -underBinder -merge v1
  try clear_value v1
  exact (KeptO.ite (KeptO.next h3_) (KeptO.next (State.bump_kept (hm.mono rfl) (State.emit_kept (hm.mono rfl) h3_) (hm.has (k := 38) rfl))))

theorem execRetryTimeout_kept {M : Nat} {s0 : State} {p0 : Nat} {p1 : State} (hm : Msub 618970019642699208420491264 M) (h1_ : Kept M s0 p1) :
    KeptO M s0 (@execRetryTimeout p0 p1) := by
  unfold execRetryTimeout
  split
  · exact (KeptO.next h1_)
  · exact (KeptO.next (State.replayFrom_kept (hm.mono rfl) h1_))

theorem execLaneLos_kept {M : Nat} {s0 : State} {p0 : Nat} {p1 : Nat} {p2 : State} (hm : Msub 5196170991893379036526524871282832 M) (h2_ : Kept M s0 p2) :
    KeptO M s0 (@execLaneLos p0 p1 p2) := by
  unfold execLaneLos
  exact (KeptO.next (State.laneFault_kept (hm.mono rfl) h2_))

theorem execLaneTrainTimeout_kept {M : Nat} {s0 : State} {p0 : Nat} {p1 : Nat} {p2 : State} (hm : Msub 5192298096480474724110003565760656 M) (h2_ : Kept M s0 p2) :
    KeptO M s0 (@execLaneTrainTimeout p0 p1 p2) := by
  unfold execLaneTrainTimeout
  exact (KeptO.next (Kept.ite (State.trainFail_kept (hm.mono rfl) h2_) h2_))

theorem execLaneSignalLocked_kept {M : Nat} {s0 : State} {p0 : Nat} {p1 : Nat} {p2 : Nat} {p3 : Nat} {p4 : State} (hm : Msub 5192298096480474724110278443667600 M) (h4_ : Kept M s0 p4) :
    KeptO M s0 (@execLaneSignalLocked p0 p1 p2 p3 p4) := by
  unfold execLaneSignalLocked
  exact (KeptO.next (Kept.ite (State.modLane_kept (hm.mono rfl) (State.trimLearn_kept (hm.mono rfl) h4_)) h4_))

theorem execLaneRetrainTimer_kept {M : Nat} {s0 : State} {p0 : Nat} {p1 : Nat} {p2 : State} (hm : Msub 5192317903521103290405233306374288 M) (h2_ : Kept M s0 p2) :
    KeptO M s0 (@execLaneRetrainTimer p0 p1 p2) := by
  unfold execLaneRetrainTimer
  exact (KeptO.ite (KeptO.next (State.startTraining_kept (hm.mono rfl) h2_)) (KeptO.next h2_))

theorem execQuarantineEnd_kept {M : Nat} {s0 : State} {p0 : Nat} {p1 : Nat} {p2 : State} (hm : Msub 5192317903521103290405233306374288 M) (h2_ : Kept M s0 p2) :
    KeptO M s0 (@execQuarantineEnd p0 p1 p2) := by
  unfold execQuarantineEnd
  exact (KeptO.next (Kept.ite (State.startTraining_kept (hm.mono rfl) h2_) h2_))

theorem execStrikeReset_kept {M : Nat} {s0 : State} {p0 : Nat} {p1 : Nat} {p2 : State} (hm : Msub 1237940039285380824654938112 M) (h2_ : Kept M s0 p2) :
    KeptO M s0 (@execStrikeReset p0 p1 p2) := by
  unfold execStrikeReset
  exact (KeptO.ite (KeptO.next (State.setFld_kept (hm.mono rfl) (State.modLane_kept (hm.mono rfl) h2_) (hm.has (k := 39) rfl))) (KeptO.next h2_))

theorem State.laneDisable_kept {M : Nat} {s0 : State} {p0 : State} {p1 : Nat} {p2 : Nat} (hm : Msub 5196111570771493338202960969142416 M) (h0_ : Kept M s0 p0) :
    Kept M s0 (@State.laneDisable p0 p1 p2) := by
  unfold State.laneDisable
  extract_lets -underBinder -merge v1 v2
  try clear_value v1
  have h3 : Kept M s0 v2 := (State.event_kept (hm.mono rfl) (State.setFld_kept (hm.mono rfl) (State.setLaneSt_kept (hm.mono rfl) h0_) (hm.has (k := 39) rfl)))
  try clear_value v2
  exact (Kept.ite h0_ (Kept.ite (State.laneLeave_kept (hm.mono rfl) h3) (State.portSync_kept (hm.mono rfl) h3)))

theorem execLaneDisable_kept {M : Nat} {s0 : State} {p0 : Master} {p1 : Nat} {p2 : State} (hm : Msub 5196111570780938071168700259569809 M) (h2_ : Kept M s0 p2) :
    KeptO M s0 (@execLaneDisable p0 p1 p2) := by
  unfold execLaneDisable
  exact (KeptO.next (State.gated_kept (hm.mono rfl) h2_ (fun x1 h2 =>
    (State.laneDisable_kept (hm.mono rfl) h2))))

theorem State.laneClear_kept {M : Nat} {s0 : State} {p0 : State} {p1 : Nat} {p2 : Nat} (hm : Msub 1237940039285380824654938112 M) (h0_ : Kept M s0 p0) :
    Kept M s0 (@State.laneClear p0 p1 p2) := by
  unfold State.laneClear
  extract_lets -underBinder -merge v1
  have h2 : Kept M s0 v1 := (State.modLane_kept (hm.mono rfl) (State.setLaneSt_kept (hm.mono rfl) h0_))
  try clear_value v1
  exact (Kept.ite (State.setFld_kept (hm.mono rfl) (State.setFld_kept (hm.mono rfl) h2 (hm.has (k := 39) rfl)) (hm.has (k := 39) rfl)) h0_)

theorem execLaneClear_kept {M : Nat} {s0 : State} {p0 : Master} {p1 : Nat} {p2 : State} (hm : Msub 5192298096489919457075467978281105 M) (h2_ : Kept M s0 p2) :
    KeptO M s0 (@execLaneClear p0 p1 p2) := by
  unfold execLaneClear
  exact (KeptO.next (State.gated_kept (hm.mono rfl) h2_ (fun x1 h2 =>
    (State.laneClear_kept (hm.mono rfl) h2))))

theorem execBundleDeadTimeout_kept {M : Nat} {s0 : State} {p0 : Nat} {p1 : State} (hm : Msub 5196110332831454052821861436297360 M) (h1_ : Kept M s0 p1) :
    KeptO M s0 (@execBundleDeadTimeout p0 p1) := by
  unfold execBundleDeadTimeout
  exact (KeptO.next (Kept.ite (State.bundleStop_kept (hm.mono rfl) h1_) h1_))

theorem execResumeTimeout_kept {M : Nat} {s0 : State} {p0 : Nat} {p1 : State} (hm : Msub 5192297477510455081428112453406864 M) (h1_ : Kept M s0 p1) :
    KeptO M s0 (@execResumeTimeout p0 p1) := by
  unfold execResumeTimeout
  extract_lets -underBinder -merge v1 v2 v3
  try clear_value v1
  have h4 : Kept M s0 v2 := (State.setBundle_kept (hm.mono rfl) h1_)
  try clear_value v2
  have h5 : Kept M s0 v3 := (State.bndSeqSync_kept (hm.mono rfl) (State.bumpBy_kept (hm.mono rfl) h4 (hm.has (k := 43) rfl)))
  try clear_value v3
  exact (KeptO.ite (KeptO.next (State.replayOcc_kept (hm.mono rfl) (State.event_kept (hm.mono rfl) h5))) (KeptO.next h1_))

theorem State.keyErase_kept {M : Nat} {s0 : State} {p0 : State} {p1 : Nat} (hm : Msub 79228162514264339792567205888 M) (h0_ : Kept M s0 p0) :
    Kept M s0 (@State.keyErase p0 p1) := by
  unfold State.keyErase
  extract_lets -underBinder -merge v1 v2
  have h3 : Kept M s0 v1 := (Kept.upd_keys (hm.mono rfl) h0_)
  try clear_value v1
  have h4 : Kept M s0 v2 := (State.setFld_kept (hm.mono rfl) h3 (hm.has (k := 41) rfl))
  try clear_value v2
  exact (State.setFld64_kept (hm.mono rfl) (State.setFld64_kept (hm.mono rfl) h4 (hm.has (k := 41) rfl)) (hm.has (k := 41) rfl))

theorem execKeyErase_kept {M : Nat} {s0 : State} {p0 : Master} {p1 : Sys2Proof.Word} {p2 : State} (hm : Msub 5192376086712394436034435890548881 M) (h2_ : Kept M s0 p2) :
    KeptO M s0 (@execKeyErase p0 p1 p2) := by
  unfold execKeyErase
  exact (KeptO.next (State.gated_kept (hm.mono rfl) h2_ (fun x1 h2 =>
    (Kept.ite (State.keyErase_kept (hm.mono rfl) h2) h2))))

theorem State.frtWrite_kept {M : Nat} {s0 : State} {p0 : State} {p1 : Sys2Proof.Word} (hm : Msub 36893488147419103232 M) (h0_ : Kept M s0 p0) :
    Kept M s0 (@State.frtWrite p0 p1) := by
  unfold State.frtWrite
  extract_lets -underBinder -merge v1
  try clear_value v1
  exact (State.setShReg_kept (hm.mono rfl) (State.setShReg_kept (hm.mono rfl) h0_))

theorem execFrtDataHiWrite_kept {M : Nat} {s0 : State} {p0 : Master} {p1 : Sys2Proof.Word} {p2 : State} (hm : Msub 5192296858549917065182790742446225 M) (h2_ : Kept M s0 p2) :
    KeptO M s0 (@execFrtDataHiWrite p0 p1 p2) := by
  unfold execFrtDataHiWrite
  exact (KeptO.next (State.gated_kept (hm.mono rfl) h2_ (fun x1 h2 =>
    (State.frtWrite_kept (hm.mono rfl) h2))))

theorem State.rnkSlotWrite_kept {M : Nat} {s0 : State} {p0 : State} {p1 : Sys2Proof.Word} (hm : Msub 332041393326772453377 M) (h0_ : Kept M s0 p0) :
    Kept M s0 (@State.rnkSlotWrite p0 p1) := by
  unfold State.rnkSlotWrite
  extract_lets -underBinder -merge v1 v2
  try clear_value v1
  try clear_value v2
  exact (Kept.ite (State.epState_kept (hm.mono rfl) h0_) (State.jobWrite_kept (hm.mono rfl) h0_))

theorem execRnkSlotPartWrite_kept {M : Nat} {s0 : State} {p0 : Master} {p1 : Sys2Proof.Word} {p2 : State} (hm : Msub 5192296858549917065182790742970513 M) (h2_ : Kept M s0 p2) :
    KeptO M s0 (@execRnkSlotPartWrite p0 p1 p2) := by
  unfold execRnkSlotPartWrite
  exact (KeptO.next (State.gated_kept (hm.mono rfl) h2_ (fun x1 h2 =>
    (State.rnkSlotWrite_kept (hm.mono rfl) h2))))

theorem State.rnkDataWrite_kept {M : Nat} {s0 : State} {p0 : State} {p1 : Sys2Proof.Word} (hm : Msub 332041393326772453377 M) (h0_ : Kept M s0 p0) :
    Kept M s0 (@State.rnkDataWrite p0 p1) := by
  unfold State.rnkDataWrite
  extract_lets -underBinder -merge v1 v2
  try clear_value v1
  try clear_value v2
  exact (Kept.ite (State.epState_kept (hm.mono rfl) h0_) (State.jobWrite_kept (hm.mono rfl) h0_))

theorem execRnkDataWrite_kept {M : Nat} {s0 : State} {p0 : Master} {p1 : Sys2Proof.Word} {p2 : State} (hm : Msub 5192296858549917065182790742970513 M) (h2_ : Kept M s0 p2) :
    KeptO M s0 (@execRnkDataWrite p0 p1 p2) := by
  unfold execRnkDataWrite
  exact (KeptO.next (State.gated_kept (hm.mono rfl) h2_ (fun x1 h2 =>
    (State.rnkDataWrite_kept (hm.mono rfl) h2))))

theorem State.peerWrite_kept {M : Nat} {s0 : State} {p0 : State} {p1 : Sys2Proof.Word} (hm : Msub 313594649253062377471 M) (h0_ : Kept M s0 p0) :
    Kept M s0 (@State.peerWrite p0 p1) := by
  unfold State.peerWrite
  extract_lets -underBinder -merge v1 v2 v3
  try clear_value v1
  try clear_value v2
  try clear_value v3
  exact (Kept.ite (State.setErr_kept (hm.mono rfl) h0_ (hm.has (k := 42) rfl)) (State.setReg_kept (hm.mono rfl) h0_))

theorem execPeerDataWrite_kept {M : Nat} {s0 : State} {p0 : Master} {p1 : Sys2Proof.Word} {p2 : State} (hm : Msub 5192296858549898618438717032890367 M) (h2_ : Kept M s0 p2) :
    KeptO M s0 (@execPeerDataWrite p0 p1 p2) := by
  unfold execPeerDataWrite
  exact (KeptO.next (State.gated_kept (hm.mono rfl) h2_ (fun x1 h2 =>
    (State.peerWrite_kept (hm.mono rfl) h2))))

end Sys2Proof.Machine
end

