-- ==== Sys2Proof/Laws/FramePart.lean ====
section
/-! SUPPORT. What the operations and meanings of Machine/Part.lean can change: one frame lemma per definition. -/
namespace Sys2Proof.Machine

theorem State.partClaim_kept {M : Nat} {s0 : State} {p0 : State} (hm : Msub 5192296858540435438733302080016528 M) (h0_ : Kept M s0 p0) :
    Kept M s0 (@State.partClaim p0) := by
  unfold State.partClaim
  extract_lets -underBinder -merge v1 v2 v3 v4 v5 v6 v7 v8 v9
  try clear_value v1
  try clear_value v2
  try clear_value v3
  try clear_value v4
  have h10 : Kept M s0 v5 := (State.setFld_kept (hm.mono rfl) h0_ (hm.has (k := 16) rfl))
  try clear_value v5
  have h11 : Kept M s0 v6 := (State.setFld_kept (hm.mono rfl) h10 (hm.has (k := 42) rfl))
  try clear_value v6
  have h12 : Kept M s0 v7 := (State.setFld64_kept (hm.mono rfl) h11 (hm.has (k := 19) rfl))
  try clear_value v7
  have h13 : Kept M s0 v8 := (State.setFld_kept (hm.mono rfl) h12 (hm.has (k := 19) rfl))
  try clear_value v8
  have h17 : Kept M s0 v9 := (Kept.each h13 (fun x14 x15 h16 =>
    (State.setFld_kept (hm.mono rfl) h16 (hm.has (k := 19) rfl))))
  try clear_value v9
  exact (Kept.ite (State.partReject_kept (hm.mono rfl) h0_) (Kept.ite (State.partReject_kept (hm.mono rfl) h0_) (State.partHeldSync_kept (hm.mono rfl) (State.setPart_kept (hm.mono rfl) h17))))

theorem State.partArm_kept {M : Nat} {s0 : State} {p0 : State} (hm : Msub 5192296858540435438728904032981136 M) (h0_ : Kept M s0 p0) :
    Kept M s0 (@State.partArm p0) := by
  unfold State.partArm
  extract_lets -underBinder -merge v1 v2 v3
  try clear_value v1
  try clear_value v2
  try clear_value v3
  exact (Kept.ite (State.partReject_kept (hm.mono rfl) h0_) (Kept.ite (State.partReject_kept (hm.mono rfl) h0_) (Kept.ite (State.partReject_kept (hm.mono rfl) h0_) (Kept.ite (State.partReject_kept (hm.mono rfl) h0_) (Kept.ite (State.partReject_kept (hm.mono rfl) h0_) (State.setPart_kept (hm.mono rfl) (State.setFld64_kept (hm.mono rfl) h0_ (hm.has (k := 16) rfl))))))))

theorem State.partDrain_kept {M : Nat} {s0 : State} {p0 : State} (hm : Msub 5192296858540435438728904032981136 M) (h0_ : Kept M s0 p0) :
    Kept M s0 (@State.partDrain p0) := by
  unfold State.partDrain
  extract_lets -underBinder -merge v1
  try clear_value v1
  exact (Kept.ite (State.setPart_kept (hm.mono rfl) h0_) (State.partReject_kept (hm.mono rfl) h0_))

theorem State.partRetire_kept {M : Nat} {s0 : State} {p0 : State} (hm : Msub 32753221836710822170984516923993977729170 M) (h0_ : Kept M s0 p0) :
    Kept M s0 (@State.partRetire p0) := by
  unfold State.partRetire
  extract_lets -underBinder -merge v1 v2
  try clear_value v1
  try clear_value v2
  exact (Kept.ite (State.partReject_kept (hm.mono rfl) h0_) (Kept.ite (State.barrierStart_kept (hm.mono rfl) (State.setPart_kept (hm.mono rfl) h0_)) (Kept.ite (Kept.ite h0_ (State.barrierStart_kept (hm.mono rfl) h0_)) (State.partReject_kept (hm.mono rfl) h0_))))

theorem State.partFree_kept {M : Nat} {s0 : State} {p0 : State} (hm : Msub 26249827298282715905455561203777535 M) (h0_ : Kept M s0 p0) :
    Kept M s0 (@State.partFree p0) := by
  unfold State.partFree
  extract_lets -underBinder -merge v1 v2
  try clear_value v1
  have h6 : Kept M s0 v2 := (Kept.each h0_ (fun x3 x4 h5 =>
    (State.lineRelease_kept (hm.mono rfl) h5)))
  try clear_value v2
  exact (Kept.ite (State.partReject_kept (hm.mono rfl) h0_) (State.partFreeCheck_kept (hm.mono rfl) h6))

theorem State.partCmd_kept {M : Nat} {s0 : State} {p0 : State} {p1 : Sys2Proof.Word} (hm : Msub 32753242849862968414943028859140061528063 M) (h0_ : Kept M s0 p0) :
    Kept M s0 (@State.partCmd p0 p1) := by
  unfold State.partCmd
  split
  · exact h0_
  · exact (State.partClaim_kept (hm.mono rfl) h0_)
  · exact (State.partArm_kept (hm.mono rfl) h0_)
  · exact (State.partDrain_kept (hm.mono rfl) h0_)
  · exact (State.partRetire_kept (hm.mono rfl) h0_)
  · exact (State.partFree_kept (hm.mono rfl) h0_)
  · exact (State.partReject_kept (hm.mono rfl) h0_)

theorem execPartClaim_kept {M : Nat} {s0 : State} {p0 : Master} {p1 : State} (hm : Msub 5192296858549880171699041370443921 M) (h1_ : Kept M s0 p1) :
    KeptO M s0 (@execPartClaim p0 p1) := by
  unfold execPartClaim
  exact (KeptO.next (State.gated_kept (hm.mono rfl) h1_ (fun x1 h2 =>
    (State.partClaim_kept (hm.mono rfl) h2))))

theorem execPartArm_kept {M : Nat} {s0 : State} {p0 : Master} {p1 : State} (hm : Msub 5192296858549880171694643323408529 M) (h1_ : Kept M s0 p1) :
    KeptO M s0 (@execPartArm p0 p1) := by
  unfold execPartArm
  exact (KeptO.next (State.gated_kept (hm.mono rfl) h1_ (fun x1 h2 =>
    (State.partArm_kept (hm.mono rfl) h2))))

theorem execPartDrain_kept {M : Nat} {s0 : State} {p0 : Master} {p1 : State} (hm : Msub 5192296858549880171694643323408529 M) (h1_ : Kept M s0 p1) :
    KeptO M s0 (@execPartDrain p0 p1) := by
  unfold execPartDrain
  exact (KeptO.next (State.gated_kept (hm.mono rfl) h1_ (fun x1 h2 =>
    (State.partDrain_kept (hm.mono rfl) h2))))

theorem execPartRetire_kept {M : Nat} {s0 : State} {p0 : Master} {p1 : State} (hm : Msub 32753221836710822180429249889733268156563 M) (h1_ : Kept M s0 p1) :
    KeptO M s0 (@execPartRetire p0 p1) := by
  unfold execPartRetire
  exact (KeptO.next (State.gated_kept (hm.mono rfl) h1_ (fun x1 h2 =>
    (State.partRetire_kept (hm.mono rfl) h2))))

theorem execPartFree_kept {M : Nat} {s0 : State} {p0 : Master} {p1 : State} (hm : Msub 26249827298292160638421300494204927 M) (h1_ : Kept M s0 p1) :
    KeptO M s0 (@execPartFree p0 p1) := by
  unfold execPartFree
  exact (KeptO.next (State.gated_kept (hm.mono rfl) h1_ (fun x1 h2 =>
    (State.partFree_kept (hm.mono rfl) h2))))

theorem State.partRun_kept {M : Nat} {s0 : State} {p0 : State} {p1 : Nat} (hm : Msub 5232861677747738779576798537650320 M) (h0_ : Kept M s0 p0) :
    Kept M s0 (@State.partRun p0 p1) := by
  unfold State.partRun
  extract_lets -underBinder -merge v1 v2
  have h3 : Kept M s0 v1 := (State.setFld64_kept (hm.mono rfl) h0_ (hm.has (k := 21) rfl))
  try clear_value v1
  have h4 : Kept M s0 v2 := (State.modPartX_kept (hm.mono rfl) h3)
  try clear_value v2
  exact (Kept.ite (State.setPart_kept (hm.mono rfl) (State.setFld_kept (hm.mono rfl) h4 (hm.has (k := 16) rfl))) h0_)

theorem State.partRunEdge_kept {M : Nat} {s0 : State} {p0 : State} (hm : Msub 5232861677747738779576798537650320 M) (h0_ : Kept M s0 p0) :
    Kept M s0 (@State.partRunEdge p0) := by
  unfold State.partRunEdge
  exact (Kept.each h0_ (fun x1 x2 h3 =>
    (State.partRun_kept (hm.mono rfl) h3)))

theorem execRunTickReached_kept {M : Nat} {s0 : State} {p0 : Nat} {p1 : State} (hm : Msub 5232861677747738779576798537650320 M) (h1_ : Kept M s0 p1) :
    KeptO M s0 (@execRunTickReached p0 p1) := by
  unfold execRunTickReached
  exact (KeptO.next (State.partRun_kept (hm.mono rfl) h1_))

theorem execRampDone_kept {M : Nat} {s0 : State} {p0 : Nat} {p1 : State} (hm : Msub 5192296858540435438728904032981136 M) (h1_ : Kept M s0 p1) :
    KeptO M s0 (@execRampDone p0 p1) := by
  unfold execRampDone
  exact (KeptO.ite (KeptO.next (State.event_kept (hm.mono rfl) (State.setFld_kept (hm.mono rfl) h1_ (hm.has (k := 16) rfl)))) (KeptO.next h1_))

theorem State.partDrainEdge_kept {M : Nat} {s0 : State} {p0 : State} {p1 : Nat} (hm : Msub 32753221836710822170984516923993977729170 M) (h0_ : Kept M s0 p0) :
    Kept M s0 (@State.partDrainEdge p0 p1) := by
  unfold State.partDrainEdge
  extract_lets -underBinder -merge v1
  try clear_value v1
  exact (Kept.ite (State.barrierStart_kept (hm.mono rfl) h0_) h0_)

theorem execDrainTickReached_kept {M : Nat} {s0 : State} {p0 : Nat} {p1 : State} (hm : Msub 32753221836710822170984516923993977729170 M) (h1_ : Kept M s0 p1) :
    KeptO M s0 (@execDrainTickReached p0 p1) := by
  unfold execDrainTickReached
  exact (KeptO.next (State.partDrainEdge_kept (hm.mono rfl) h1_))

theorem execRetireBarrierDone_kept {M : Nat} {s0 : State} {p0 : Nat} {p1 : Nat} {p2 : State} (hm : Msub 5232861677747812566553093373890704 M) (h2_ : Kept M s0 p2) :
    KeptO M s0 (@execRetireBarrierDone p0 p1 p2) := by
  unfold execRetireBarrierDone
  exact (KeptO.ite (KeptO.next (State.barrierEnd_kept (hm.mono rfl) h2_)) (KeptO.next h2_))

theorem execRetireBarrierBound_kept {M : Nat} {s0 : State} {p0 : Nat} {p1 : Nat} {p2 : State} (hm : Msub 5232861677747812566553093373890704 M) (h2_ : Kept M s0 p2) :
    KeptO M s0 (@execRetireBarrierBound p0 p1 p2) := by
  unfold execRetireBarrierBound
  split
  · extract_lets -underBinder -merge v3
    have h4 : Kept M s0 v3 := (State.setFld_kept (hm.mono rfl) h2_ (hm.has (k := 16) rfl))
    try clear_value v3
    exact (KeptO.ite (KeptO.next (State.barrierEnd_kept (hm.mono rfl) (State.event_kept (hm.mono rfl) h4))) (KeptO.next h2_))
  · exact (KeptO.next h2_)

theorem State.lineCmdClaim_kept {M : Nat} {s0 : State} {p0 : State} {p1 : Nat} (hm : Msub 5439520293055941949445095115002000 M) (h0_ : Kept M s0 p0) :
    Kept M s0 (@State.lineCmdClaim p0 p1) := by
  unfold State.lineCmdClaim
  split
  · extract_lets -underBinder -merge v3 v4 v5 v6
    try clear_value v3
    try clear_value v4
    have h7 : Kept M s0 v5 := (Kept.upd_lineTag (hm.mono rfl) h0_)
    try clear_value v5
    have h8 : Kept M s0 v6 := (State.modLine_kept (hm.mono rfl) (State.setLine_kept (hm.mono rfl) h7))
    try clear_value v6
    exact (Kept.ite h0_ (Kept.ite (State.lineRefuse_kept (hm.mono rfl) h0_) (Kept.ite (State.lineRefuse_kept (hm.mono rfl) h0_) (by
      split
      · extract_lets -underBinder -merge v10
        have h11 : Kept M s0 v10 := (State.setFld_kept (hm.mono rfl) h8 (hm.has (k := 18) rfl))
        try clear_value v10
        exact (State.lineSend_kept (hm.mono rfl) h11)
      · exact h8))))

theorem State.lineCmdRelease_kept {M : Nat} {s0 : State} {p0 : State} (hm : Msub 5439520293055941949445095115002000 M) (h0_ : Kept M s0 p0) :
    Kept M s0 (@State.lineCmdRelease p0) := by
  unfold State.lineCmdRelease
  split
  · exact (Kept.ite (State.lineRelease_kept (hm.mono rfl) h0_) h0_)

theorem State.lineCmd_kept {M : Nat} {s0 : State} {p0 : State} {p1 : Sys2Proof.Word} (hm : Msub 5439520293055941949445095115002000 M) (h0_ : Kept M s0 p0) :
    Kept M s0 (@State.lineCmd p0 p1) := by
  unfold State.lineCmd
  split
  · exact (State.lineCmdClaim_kept (hm.mono rfl) h0_)
  · exact (State.lineCmdRelease_kept (hm.mono rfl) h0_)
  · exact h0_

theorem execLineCmdClaim_kept {M : Nat} {s0 : State} {p0 : Master} {p1 : Nat} {p2 : State} (hm : Msub 5439520293065386682410834405429393 M) (h2_ : Kept M s0 p2) :
    KeptO M s0 (@execLineCmdClaim p0 p1 p2) := by
  unfold execLineCmdClaim
  exact (KeptO.next (State.gated_kept (hm.mono rfl) h2_ (fun x1 h2 =>
    (State.lineCmdClaim_kept (hm.mono rfl) h2))))

theorem execLineCmdRelease_kept {M : Nat} {s0 : State} {p0 : Master} {p1 : State} (hm : Msub 5439520293065386682410834405429393 M) (h1_ : Kept M s0 p1) :
    KeptO M s0 (@execLineCmdRelease p0 p1) := by
  unfold execLineCmdRelease
  exact (KeptO.next (State.gated_kept (hm.mono rfl) h1_ (fun x1 h2 =>
    (State.lineCmdRelease_kept (hm.mono rfl) h2))))

theorem State.lineReq_kept {M : Nat} {s0 : State} {p0 : State} {p1 : Nat} {p2 : Nat} {p3 : Nat} {p4 : Nat} {p5 : Nat} {p6 : Nat} (hm : Msub 26087568021453502542063983193489407 M) (h0_ : Kept M s0 p0) :
    Kept M s0 (@State.lineReq p0 p1 p2 p3 p4 p5 p6) := by
  unfold State.lineReq
  extract_lets -underBinder -merge v1 v2
  try clear_value v1
  try clear_value v2
  split
  · exact (State.sendMg_kept (hm.mono rfl) h0_)
  · extract_lets -underBinder -merge v7 v8
    try clear_value v7
    have h9 : Kept M s0 v8 := (State.lineSend_kept (hm.mono rfl) (State.lineClaim_kept (hm.mono rfl) h0_))
    try clear_value v8
    exact (Kept.ite (Kept.ite h9 (State.partFreeCheck_kept (hm.mono rfl) h9)) (State.lineSend_kept (hm.mono rfl) h0_))

theorem State.lineAck_kept {M : Nat} {s0 : State} {p0 : State} {p1 : Nat} {p2 : Nat} {p3 : Nat} {p4 : Nat} (hm : Msub 5277261016226728586053517104713872 M) (h0_ : Kept M s0 p0) :
    Kept M s0 (@State.lineAck p0 p1 p2 p3 p4) := by
  unfold State.lineAck
  split
  · exact (State.lineClaim_kept (hm.mono rfl) h0_)
  · exact h0_

theorem State.lineNak_kept {M : Nat} {s0 : State} {p0 : State} {p1 : Nat} {p2 : Nat} {p3 : Nat} {p4 : Nat} (hm : Msub 26087568021453502542063983193489407 M) (h0_ : Kept M s0 p0) :
    Kept M s0 (@State.lineNak p0 p1 p2 p3 p4) := by
  unfold State.lineNak
  split
  · exact (State.partFreeCheck_kept (hm.mono rfl) (State.lineRefuse_kept (hm.mono rfl) (State.setLine_kept (hm.mono rfl) h0_)))
  · exact h0_

theorem State.lineRel_kept {M : Nat} {s0 : State} {p0 : State} {p1 : Nat} {p2 : Nat} {p3 : Nat} {p4 : Nat} {p5 : Nat} (hm : Msub 26087568021453502542063983193489407 M) (h0_ : Kept M s0 p0) :
    Kept M s0 (@State.lineRel p0 p1 p2 p3 p4 p5) := by
  unfold State.lineRel
  split
  · exact (State.sendMg_kept (hm.mono rfl) h0_)
  · extract_lets -underBinder -merge v4 v5 v6
    try clear_value v4
    try clear_value v5
    have h7 : Kept M s0 v6 := (State.lineSend_kept (hm.mono rfl) h0_)
    try clear_value v6
    exact (Kept.ite (State.lineSend_kept (hm.mono rfl) h0_) (Kept.ite (State.lineFreed_kept (hm.mono rfl) h7) h7))

theorem State.lineRelAck_kept {M : Nat} {s0 : State} {p0 : State} {p1 : Nat} {p2 : Nat} {p3 : Nat} (hm : Msub 26087568021453502542063983193489407 M) (h0_ : Kept M s0 p0) :
    Kept M s0 (@State.lineRelAck p0 p1 p2 p3) := by
  unfold State.lineRelAck
  split
  · exact (State.lineFreed_kept (hm.mono rfl) h0_)
  · exact h0_

theorem State.lineRelWait_kept {M : Nat} {s0 : State} {p0 : State} {p1 : Nat} {p2 : Nat} {p3 : Nat} (hm : Msub 81129638414606681695789005144064 M) (h0_ : Kept M s0 p0) :
    Kept M s0 (@State.lineRelWait p0 p1 p2 p3) := by
  unfold State.lineRelWait
  split
  · exact (State.modLine_kept (hm.mono rfl) h0_)
  · exact h0_

theorem execLineClaimReq_kept {M : Nat} {s0 : State} {p0 : Nat} {p1 : Nat} {p2 : Nat} {p3 : Nat} {p4 : Nat} {p5 : Nat} {p6 : State} (hm : Msub 26087568021453502542063983193489407 M) (h6_ : Kept M s0 p6) :
    KeptO M s0 (@execLineClaimReq p0 p1 p2 p3 p4 p5 p6) := by
  unfold execLineClaimReq
  exact (KeptO.next (State.lineReq_kept (hm.mono rfl) h6_))

theorem execLineClaimAck_kept {M : Nat} {s0 : State} {p0 : Nat} {p1 : Nat} {p2 : Nat} {p3 : Nat} {p4 : State} (hm : Msub 5277261016226728586053517104713872 M) (h4_ : Kept M s0 p4) :
    KeptO M s0 (@execLineClaimAck p0 p1 p2 p3 p4) := by
  unfold execLineClaimAck
  exact (KeptO.next (State.lineAck_kept (hm.mono rfl) h4_))

theorem execLineClaimNak_kept {M : Nat} {s0 : State} {p0 : Nat} {p1 : Nat} {p2 : Nat} {p3 : Nat} {p4 : State} (hm : Msub 26087568021453502542063983193489407 M) (h4_ : Kept M s0 p4) :
    KeptO M s0 (@execLineClaimNak p0 p1 p2 p3 p4) := by
  unfold execLineClaimNak
  exact (KeptO.next (State.lineNak_kept (hm.mono rfl) h4_))

theorem execLineClaimRel_kept {M : Nat} {s0 : State} {p0 : Nat} {p1 : Nat} {p2 : Nat} {p3 : Nat} {p4 : Nat} {p5 : State} (hm : Msub 26087568021453502542063983193489407 M) (h5_ : Kept M s0 p5) :
    KeptO M s0 (@execLineClaimRel p0 p1 p2 p3 p4 p5) := by
  unfold execLineClaimRel
  exact (KeptO.next (State.lineRel_kept (hm.mono rfl) h5_))

theorem execLineClaimRelAck_kept {M : Nat} {s0 : State} {p0 : Nat} {p1 : Nat} {p2 : Nat} {p3 : State} (hm : Msub 26087568021453502542063983193489407 M) (h3_ : Kept M s0 p3) :
    KeptO M s0 (@execLineClaimRelAck p0 p1 p2 p3) := by
  unfold execLineClaimRelAck
  exact (KeptO.next (State.lineRelAck_kept (hm.mono rfl) h3_))

theorem execLineClaimRelWait_kept {M : Nat} {s0 : State} {p0 : Nat} {p1 : Nat} {p2 : Nat} {p3 : State} (hm : Msub 81129638414606681695789005144064 M) (h3_ : Kept M s0 p3) :
    KeptO M s0 (@execLineClaimRelWait p0 p1 p2 p3) := by
  unfold execLineClaimRelWait
  exact (KeptO.next (State.lineRelWait_kept (hm.mono rfl) h3_))

theorem execLineReqTimeout_kept {M : Nat} {s0 : State} {p0 : Nat} {p1 : Nat} {p2 : State} (hm : Msub 26087568021453502542063983193489407 M) (h2_ : Kept M s0 p2) :
    KeptO M s0 (@execLineReqTimeout p0 p1 p2) := by
  unfold execLineReqTimeout
  extract_lets -underBinder -merge v1 v2
  try clear_value v1
  have h3 : Kept M s0 v2 := (State.modLine_kept (hm.mono rfl) h2_)
  try clear_value v2
  exact (KeptO.ite (KeptO.ite (KeptO.next (State.partFreeCheck_kept (hm.mono rfl) (State.lineRefuse_kept (hm.mono rfl) (State.setLine_kept (hm.mono rfl) h2_)))) (by
    split
    · exact (KeptO.next (State.lineSend_kept (hm.mono rfl) h3))
    · exact (KeptO.next h3))) (KeptO.next h2_))

theorem execLineUnconfirmed_kept {M : Nat} {s0 : State} {p0 : Nat} {p1 : Nat} {p2 : State} (hm : Msub 5273426496955042120424693038059664 M) (h2_ : Kept M s0 p2) :
    KeptO M s0 (@execLineUnconfirmed p0 p1 p2) := by
  unfold execLineUnconfirmed
  extract_lets -underBinder -merge v1
  try clear_value v1
  exact (KeptO.ite (KeptO.next (State.event_kept (hm.mono rfl) (State.modLine_kept (hm.mono rfl) h2_))) (KeptO.next h2_))

theorem State.ctxReject_kept {M : Nat} {s0 : State} {p0 : State} {p1 : Nat} {p2 : Nat} (hm : Msub 5192296858540435438728904033046672 M) (h0_ : Kept M s0 p0) :
    Kept M s0 (@State.ctxReject p0 p1 p2) := by
  unfold State.ctxReject
  exact (State.event_kept (hm.mono rfl) (State.setFld_kept (hm.mono rfl) h0_ (hm.has (k := 17) rfl)))

theorem State.ctxBind_kept {M : Nat} {s0 : State} {p0 : State} (hm : Msub 5192296858540435438728904033046672 M) (h0_ : Kept M s0 p0) :
    Kept M s0 (@State.ctxBind p0) := by
  unfold State.ctxBind
  extract_lets -underBinder -merge v1 v2 v3 v4 v5
  try clear_value v1
  try clear_value v2
  try clear_value v3
  have h6 : Kept M s0 v4 := (State.setFld_kept (hm.mono rfl) h0_ (hm.has (k := 17) rfl))
  try clear_value v4
  have h7 : Kept M s0 v5 := (State.setFld_kept (hm.mono rfl) h6 (hm.has (k := 17) rfl))
  try clear_value v5
  exact (Kept.ite (State.ctxReject_kept (hm.mono rfl) h0_) (Kept.ite (State.ctxReject_kept (hm.mono rfl) h0_) (Kept.ite (State.ctxReject_kept (hm.mono rfl) h0_) (State.ctxCountSync_kept (hm.mono rfl) (State.setFld_kept (hm.mono rfl) h7 (hm.has (k := 17) rfl))))))

theorem State.ctxRetire_kept {M : Nat} {s0 : State} {p0 : State} (hm : Msub 46730676760861727206014727764447376 M) (h0_ : Kept M s0 p0) :
    Kept M s0 (@State.ctxRetire p0) := by
  unfold State.ctxRetire
  extract_lets -underBinder -merge v1
  try clear_value v1
  exact (Kept.ite (State.ctxReject_kept (hm.mono rfl) h0_) (State.ctxTear_kept (hm.mono rfl) h0_))

theorem State.ctxUnbind_kept {M : Nat} {s0 : State} {p0 : State} (hm : Msub 5192296858540435438728904033046672 M) (h0_ : Kept M s0 p0) :
    Kept M s0 (@State.ctxUnbind p0) := by
  unfold State.ctxUnbind
  extract_lets -underBinder -merge v1 v2
  try clear_value v1
  try clear_value v2
  exact (Kept.ite (State.ctxReject_kept (hm.mono rfl) h0_) (Kept.ite (State.ctxReject_kept (hm.mono rfl) h0_) (State.ctxIdle_kept (hm.mono rfl) h0_)))

theorem State.ctxCmd_kept {M : Nat} {s0 : State} {p0 : State} {p1 : Sys2Proof.Word} (hm : Msub 46730676760861727206014727764447376 M) (h0_ : Kept M s0 p0) :
    Kept M s0 (@State.ctxCmd p0 p1) := by
  unfold State.ctxCmd
  split
  · exact (State.ctxBind_kept (hm.mono rfl) h0_)
  · exact (State.ctxRetire_kept (hm.mono rfl) h0_)
  · exact (State.ctxUnbind_kept (hm.mono rfl) h0_)
  · exact h0_

theorem execCtxBind_kept {M : Nat} {s0 : State} {p0 : Master} {p1 : State} (hm : Msub 5192296858549880171694643323474065 M) (h1_ : Kept M s0 p1) :
    KeptO M s0 (@execCtxBind p0 p1) := by
  unfold execCtxBind
  exact (KeptO.next (State.gated_kept (hm.mono rfl) h1_ (fun x1 h2 =>
    (State.ctxBind_kept (hm.mono rfl) h2))))

theorem execCtxRetire_kept {M : Nat} {s0 : State} {p0 : Master} {p1 : State} (hm : Msub 46730676760871171938980467054874769 M) (h1_ : Kept M s0 p1) :
    KeptO M s0 (@execCtxRetire p0 p1) := by
  unfold execCtxRetire
  exact (KeptO.next (State.gated_kept (hm.mono rfl) h1_ (fun x1 h2 =>
    (State.ctxRetire_kept (hm.mono rfl) h2))))

theorem execCtxUnbind_kept {M : Nat} {s0 : State} {p0 : Master} {p1 : State} (hm : Msub 5192296858549880171694643323474065 M) (h1_ : Kept M s0 p1) :
    KeptO M s0 (@execCtxUnbind p0 p1) := by
  unfold execCtxUnbind
  exact (KeptO.next (State.gated_kept (hm.mono rfl) h1_ (fun x1 h2 =>
    (State.ctxUnbind_kept (hm.mono rfl) h2))))

theorem State.tearAck_kept {M : Nat} {s0 : State} {p0 : State} {p1 : Nat} {p2 : Nat} (hm : Msub 5232872200238072705309135178174608 M) (h0_ : Kept M s0 p0) :
    Kept M s0 (@State.tearAck p0 p1 p2) := by
  unfold State.tearAck
  extract_lets -underBinder -merge v1 v2 v3 v4 v5 v6
  try clear_value v1
  try clear_value v2
  have h7 : Kept M s0 v3 := (State.setFld_kept (hm.mono rfl) h0_ (hm.has (k := 17) rfl))
  try clear_value v3
  have h8 : Kept M s0 v4 := (Kept.ite (State.event_kept (hm.mono rfl) h7) h7)
  try clear_value v4
  try clear_value v5
  have h9 : Kept M s0 v6 := (State.modPartX_kept (hm.mono rfl) h8)
  try clear_value v6
  exact (Kept.ite (Kept.ite (State.barrierMark_kept (hm.mono rfl) h9) h9) (State.event_kept (hm.mono rfl) (State.ctxCountSync_kept (hm.mono rfl) (State.setFld_kept (hm.mono rfl) h7 (hm.has (k := 17) rfl)))))

theorem execTeardownAck_kept {M : Nat} {s0 : State} {p0 : Nat} {p1 : Nat} {p2 : State} (hm : Msub 5232872200238072705309135178174608 M) (h2_ : Kept M s0 p2) :
    KeptO M s0 (@execTeardownAck p0 p1 p2) := by
  unfold execTeardownAck
  extract_lets -underBinder -merge v1
  try clear_value v1
  exact (KeptO.ite (KeptO.next (State.tearAck_kept (hm.mono rfl) h2_)) (KeptO.next h2_))

end Sys2Proof.Machine
end

