-- ==== Sys2Proof/Laws/FrameSecurity.lean ====
section
/-! SUPPORT. What the operations and meanings of Machine/Security.lean can change: one frame lemma per definition. -/
namespace Sys2Proof.Machine

theorem State.dropDecap_kept {M : Nat} {s0 : State} {p0 : State} {p1 : Nat} (hm : Msub 316912650057057350374175801616 M) (h0_ : Kept M s0 p0) :
    Kept M s0 (@State.dropDecap p0 p1) := by
  unfold State.dropDecap
  exact (State.keySync_kept (hm.mono rfl) (Kept.upd_decap (hm.mono rfl) h0_))

theorem State.newEk_kept {M : Nat} {s0 : State} {p0 : State} {p1 : Nat} (hm : Msub 316912650647353160732881453328 M) (h0_ : Kept M s0 p0) :
    Kept M s0 (@State.newEk p0 p1).1 := by
  unfold State.newEk
  extract_lets -underBinder -merge v1 v2 v3 v4
  try clear_value v2
  have h5 : Kept M s0 v3 := (State.dropDecap_kept (hm.mono rfl) h0_)
  try clear_value v3
  have h6 : Kept M s0 v4 := (Kept.upd_fresh (hm.mono rfl) (Nat.le_add_right _ _) h5)
  try clear_value v4
  exact (Kept.pairMk (State.keySync_kept (hm.mono rfl) (Kept.upd_decap (hm.mono rfl) h6)))

theorem execAttRequest_kept {M : Nat} {s0 : State} {p0 : Master} {p1 : Nat} {p2 : MHdr} {p3 : Nat} {p4 : Bool} {p5 : List Sys2Proof.Byte} {p6 : State} (hm : Msub 1190993476837055812614307205289397457296 M) (h6_ : Kept M s0 p6) :
    KeptO M s0 (@execAttRequest p0 p1 p2 p3 p4 p5 p6) := by
  unfold execAttRequest
  exact (KeptO.next (State.request_kept (hm.mono rfl) h6_ (fun x1 h2 =>
    (by
      extract_lets -underBinder -merge v3
      try clear_value v3
      exact (Kept.ite1 (Kept.pairMk h2) (Kept.ite1 (Kept.pairMk h2) (by
        split
        · rename_i x4 x5 e6
          have Hx4 := Kept.fst e6 (Kept.ite1 (State.newEk_kept (hm.mono rfl) h2) (Kept.pairMk h2))
          extract_lets -underBinder -merge v7 v8 v9 v10
          try clear_value v7
          try clear_value v8
          try clear_value v9
          have h11 : Kept M s0 v10 := (State.setFld_kept (hm.mono rfl) (Kept.upd_sec (hm.mono rfl) Hx4) (hm.has (k := 8) rfl))
          try clear_value v10
          exact (Kept.pairMk (State.event_kept (hm.mono rfl) h11)))))))))

theorem State.attRead_kept {M : Nat} {s0 : State} {p0 : State} (hm : Msub 256 M) (h0_ : Kept M s0 p0) :
    Kept M s0 (@State.attRead p0).1 := by
  unfold State.attRead
  extract_lets -underBinder -merge v1 v2
  try clear_value v1
  try clear_value v2
  exact (Kept.pairMk (State.setFld_kept (hm.mono rfl) (State.setFld_kept (hm.mono rfl) h0_ (hm.has (k := 8) rfl)) (hm.has (k := 8) rfl)))

theorem execAttDataRead_kept {M : Nat} {s0 : State} {p0 : Master} {p1 : State} (hm : Msub 295147905179352826112 M) (h1_ : Kept M s0 p1) :
    KeptO M s0 (@execAttDataRead p0 p1) := by
  unfold execAttDataRead
  exact (KeptO.ite (KeptO.next h1_) (by
    split
    · rename_i x1 x2 e3
      have Hx1 := Kept.fst e3 (State.attRead_kept (hm.mono rfl) h1_)
      exact (KeptO.next (Kept.ite (State.emit_kept (hm.mono rfl) Hx1) Hx1))))

theorem execEkExpiry_kept {M : Nat} {s0 : State} {p0 : Nat} {p1 : State} (hm : Msub 316912650057057350374175801616 M) (h1_ : Kept M s0 p1) :
    KeptO M s0 (@execEkExpiry p0 p1) := by
  unfold execEkExpiry
  exact (KeptO.ite (KeptO.next (State.dropDecap_kept (hm.mono rfl) h1_)) (KeptO.next h1_))

theorem State.grantReject_kept {M : Nat} {s0 : State} {p0 : State} {p1 : Nat} {p2 : Nat} (hm : Msub 5192296858540435438728904032915856 M) (h0_ : Kept M s0 p0) :
    Kept M s0 (@State.grantReject p0 p1 p2).1 := by
  unfold State.grantReject
  exact (Kept.pairMk (State.event_kept (hm.mono rfl) (State.bump_kept (hm.mono rfl) h0_ (hm.has (k := 8) rfl))))

theorem execKeyGrant_kept {M : Nat} {s0 : State} {p0 : Master} {p1 : Nat} {p2 : MHdr} {p3 : List Sys2Proof.Byte} {p4 : State} (hm : Msub 1020852293535042905911148576760601252240 M) (h4_ : Kept M s0 p4) :
    KeptO M s0 (@execKeyGrant p0 p1 p2 p3 p4) := by
  unfold execKeyGrant
  exact (KeptO.next (State.request_kept (hm.mono rfl) h4_ (fun x1 h2 =>
    (by
      extract_lets -underBinder -merge v3
      try clear_value v3
      split
      · exact (State.grantReject_kept (hm.mono rfl) h2)
      · extract_lets -underBinder -merge v6
        have h7 : Kept M s0 v6 := (State.dropDecap_kept (hm.mono rfl) h2)
        try clear_value v6
        exact (Kept.ite1 (State.grantReject_kept (hm.mono rfl) h7) (by
          split
          · exact (State.grantReject_kept (hm.mono rfl) h7)
          · extract_lets -underBinder -merge v10
            have h11 : Kept M s0 v10 := (State.keySync_kept (hm.mono rfl) (Kept.upd_jobKeys (hm.mono rfl) h7))
            try clear_value v10
            exact (Kept.ite1 (State.grantReject_kept (hm.mono rfl) h7) (Kept.pairMk (State.event_kept (hm.mono rfl) h11)))))))))

theorem execKeyInstall_kept {M : Nat} {s0 : State} {p0 : Master} {p1 : Nat} {p2 : MHdr} {p3 : Nat} {p4 : Nat} {p5 : Nat} {p6 : State} (hm : Msub 22798923776237420080024330441812158189968 M) (h6_ : Kept M s0 p6) :
    KeptO M s0 (@execKeyInstall p0 p1 p2 p3 p4 p5 p6) := by
  unfold execKeyInstall
  exact (KeptO.next (State.request_kept (hm.mono rfl) h6_ (fun x1 h2 =>
    (by
      extract_lets -underBinder -merge v3 v4 v5 v6 v7 v8 v9 v10 v11 v12
      try clear_value v3
      try clear_value v4
      try clear_value v5
      have h13 : Kept M s0 v6 := (Kept.upd_keys (hm.mono rfl) h2)
      try clear_value v6
      have h14 : Kept M s0 v7 := (State.setFld_kept (hm.mono rfl) h13 (hm.has (k := 41) rfl))
      try clear_value v7
      have h15 : Kept M s0 v8 := (State.setFld64_kept (hm.mono rfl) (State.setFld64_kept (hm.mono rfl) h14 (hm.has (k := 41) rfl)) (hm.has (k := 41) rfl))
      try clear_value v8
      try clear_value v9
      have h16 : Kept M s0 v10 := (Kept.ite (Kept.upd_mg (hm.mono rfl) h15) h15)
      try clear_value v10
      try clear_value v11
      have h17 : Kept M s0 v12 := (State.keySync_kept (hm.mono rfl) (Kept.upd_jobKeys (hm.mono rfl) h16))
      try clear_value v12
      exact (Kept.ite1 (Kept.pairMk h2) (Kept.ite1 (Kept.pairMk h2) (Kept.pairMk (State.event_kept (hm.mono rfl) h17))))))))

theorem execSealPart_kept {M : Nat} {s0 : State} {p0 : Master} {p1 : Nat} {p2 : MHdr} {p3 : Nat} {p4 : Nat} {p5 : List (Nat × Nat)} {p6 : List Sys2Proof.Byte} {p7 : State} (hm : Msub 1190993476520297905062160527449584046224 M) (h7_ : Kept M s0 p7) :
    KeptO M s0 (@execSealPart p0 p1 p2 p3 p4 p5 p6 p7) := by
  unfold execSealPart
  split
  · rename_i x1 e2
    have Hx1 := Kept.fst e2 (State.mboxPost_kept (hm.mono rfl) h7_)
    exact (KeptO.next Hx1)
  · rename_i x3 e4
    have Hx3 := Kept.fst e4 (State.mboxPost_kept (hm.mono rfl) h7_)
    exact (KeptO.ite (KeptO.next (State.mboxAnswer_kept (hm.mono rfl) Hx3)) (by
      split
      · exact (KeptO.next (State.mboxAnswer_kept (hm.mono rfl) (State.event_kept (hm.mono rfl) Hx3)))
      · extract_lets -underBinder -merge v7 v8
        try clear_value v7
        try clear_value v8
        exact (KeptO.next (Kept.upd_seals_sec (hm.mono rfl) Hx3))))

theorem State.sealZero_kept {M : Nat} {s0 : State} {p0 : State} {p1 : Seal} (hm : Msub 5192296906897689584243110154604688 M) (h0_ : Kept M s0 p0) :
    Kept M s0 (@State.sealZero p0 p1) := by
  unfold State.sealZero
  exact (Kept.each h0_ (fun x1 x2 h3 =>
    (Kept.each h3 (fun x4 x5 h6 =>
      (State.engStore_kept (hm.mono rfl) h6)))))

theorem execSealFillDone_kept {M : Nat} {s0 : State} {p0 : Nat} {p1 : State} (hm : Msub 1190993476520346262316306041655705735568 M) (h1_ : Kept M s0 p1) :
    KeptO M s0 (@execSealFillDone p0 p1) := by
  unfold execSealFillDone
  extract_lets -underBinder -merge v1 v2 v3 v4 v5 v6 v7
  try clear_value v1
  have h8 : Kept M s0 v2 := (State.sealZero_kept (hm.mono rfl) h1_)
  try clear_value v2
  have h12 : Kept M s0 v3 := (Kept.each h8 (fun x9 x10 h11 =>
    (State.zeroCluster_kept (hm.mono rfl) h11)))
  try clear_value v3
  try clear_value v4
  try clear_value v5
  have h13 : Kept M s0 v6 := (State.keySync_kept (hm.mono rfl) (Kept.upd_seals_sec (hm.mono rfl) h12))
  try clear_value v6
  have h14 : Kept M s0 v7 := (State.event_kept (hm.mono rfl) h13)
  try clear_value v7
  exact (KeptO.ite (KeptO.next h1_) (KeptO.next (Kept.ite h14 (State.mboxAnswer_kept (hm.mono rfl) h14))))

theorem State.sealLoad_kept {M : Nat} {s0 : State} {p0 : State} {p1 : Nat} (hm : Msub 5192455363222718112918297242505616 M) (h0_ : Kept M s0 p0) :
    Kept M s0 (@State.sealLoad p0 p1).1 := by
  unfold State.sealLoad
  exact (Kept.ite1 (Kept.pairMk h0_) (by
    split
    · rename_i x1 e2
      have Hx1 := Kept.fst e2 (State.readMem_kept (hm.mono rfl) h0_)
      exact (Kept.pairMk Hx1)
    · rename_i x3 x4 e5
      have Hx3 := Kept.fst e5 (State.readMem_kept (hm.mono rfl) h0_)
      extract_lets -underBinder -merge v6 v7 v8 v9 v10
      try clear_value v6
      try clear_value v7
      try clear_value v8
      try clear_value v9
      try clear_value v10
      exact (Kept.ite1 (Kept.pairMk Hx3) (Kept.ite1 (Kept.pairMk Hx3) (by
        split
        · rename_i x11 e12
          have Hx11 := Kept.fst e12 (State.readMem_kept (hm.mono rfl) Hx3)
          exact (Kept.pairMk Hx11)
        · rename_i x13 x14 e15
          have Hx13 := Kept.fst e15 (State.readMem_kept (hm.mono rfl) Hx3)
          split
          · exact (Kept.pairMk Hx13)
          · extract_lets -underBinder -merge v18 v19
            have h20 : Kept M s0 v18 := (State.engStore_kept (hm.mono rfl) Hx13)
            try clear_value v18
            have h21 : Kept M s0 v19 := (State.keySync_kept (hm.mono rfl) (Kept.upd_jobKeys (hm.mono rfl) h20))
            try clear_value v19
            exact (Kept.pairMk h21))))))

theorem execSealLoad_kept {M : Nat} {s0 : State} {p0 : Master} {p1 : Nat} {p2 : MHdr} {p3 : Nat} {p4 : State} (hm : Msub 1020852293218178613108236740592547139984 M) (h4_ : Kept M s0 p4) :
    KeptO M s0 (@execSealLoad p0 p1 p2 p3 p4) := by
  unfold execSealLoad
  exact (KeptO.next (State.request_kept (hm.mono rfl) h4_ (fun x1 h2 =>
    (State.sealLoad_kept (hm.mono rfl) h2))))

theorem State.zeroSides_kept {M : Nat} {s0 : State} {p0 : State} {p1 : Nat} (hm : Msub 73786976294838206464 M) (h0_ : Kept M s0 p0) :
    Kept M s0 (@State.zeroSides p0 p1) := by
  unfold State.zeroSides
  extract_lets -underBinder -merge v1
  exact (Kept.upd_mem (hm.mono rfl) (fun h => smWf_filter _ h) h0_)

theorem execSealedClearDone_kept {M : Nat} {s0 : State} {p0 : Nat} {p1 : State} (hm : Msub 26002603912124463540480745653927935 M) (h1_ : Kept M s0 p1) :
    KeptO M s0 (@execSealedClearDone p0 p1) := by
  unfold execSealedClearDone
  extract_lets -underBinder -merge v1 v2 v3
  try clear_value v1
  have h4 : Kept M s0 v2 := (State.zeroSides_kept (hm.mono rfl) (State.sealZero_kept (hm.mono rfl) h1_))
  try clear_value v2
  have h5 : Kept M s0 v3 := (State.keySync_kept (hm.mono rfl) (Kept.upd_seals (hm.mono rfl) h4))
  try clear_value v3
  exact (KeptO.ite (KeptO.next h1_) (KeptO.next (State.partFreeCheck_kept (hm.mono rfl) (State.event_kept (hm.mono rfl) h5))))

theorem execTokenChallenge_kept {M : Nat} {s0 : State} {p0 : Master} {p1 : Nat} {p2 : MHdr} {p3 : State} (hm : Msub 1190993476520143162557249854915221655696 M) (h3_ : Kept M s0 p3) :
    KeptO M s0 (@execTokenChallenge p0 p1 p2 p3) := by
  unfold execTokenChallenge
  exact (KeptO.next (State.request_kept (hm.mono rfl) h3_ (fun x1 h2 =>
    (by
      extract_lets -underBinder -merge v3 v4
      try clear_value v4
      exact (Kept.pairMk (Kept.upd_fresh_sec (hm.mono rfl) (Nat.le_add_right _ _) h2))))))

theorem State.submit_kept {M : Nat} {s0 : State} {p0 : State} {p1 : Master} {p2 : Nat} {p3 : MHdr} {p4 : Nat} {p5 : Token} {p6 : State → State × Nat} (hm : Msub 1190993476520143162557249854915221655952 M) (h0_ : Kept M s0 p0) (f6_ : ∀ y0, Kept M s0 y0 → Kept M s0 (p6 y0).1) :
    Kept M s0 (@State.submit p0 p1 p2 p3 p4 p5 p6) := by
  unfold State.submit
  exact (State.request_kept (hm.mono rfl) h0_ (fun x1 h2 =>
    (by
      split
      · rename_i x3 e4
        have Hx3 := Kept.fst e4 (State.tokenTake_kept (hm.mono rfl) h2)
        exact (Kept.pairMk Hx3)
      · rename_i x5 e6
        have Hx5 := Kept.fst e6 (State.tokenTake_kept (hm.mono rfl) h2)
        split
        · rename_i x7 x8 e9
          have Hx7 := Kept.fst e9 (f6_ _ Hx5)
          exact (Kept.pairMk Hx7))))

theorem State.svnRaise_kept {M : Nat} {s0 s : State} {c v : Nat} (hm : Msub 2361183241434822606848 M) (h : Kept M s0 s) :
    Kept M s0 (s.svnRaise c v) := by
  refine Kept.upd_flash (hm.mono rfl) ⟨rfl, rfl, rfl, rfl, rfl, rfl, rfl, rfl, rfl, fun j => ?_, fun _ h => h, fun h => h⟩ h
  show smGet (fun _ => 0) s.flash.svnMin j ≤ smGet (fun _ => 0) (smSet (fun _ => 0) s.flash.svnMin c (max (smGet (fun _ => 0) s.flash.svnMin c) v)) j
  by_cases he : j = c
  · subst he; rw [smGet_smSet_same]; exact Nat.le_max_left _ _
  · rw [smGet_smSet_ne _ _ _ _ _ he]

theorem execSvnCommit_kept {M : Nat} {s0 : State} {p0 : Master} {p1 : Nat} {p2 : MHdr} {p3 : Token} {p4 : State} (hm : Msub 1190993476520143164918433096350044262800 M) (h4_ : Kept M s0 p4) :
    KeptO M s0 (@execSvnCommit p0 p1 p2 p3 p4) := by
  unfold execSvnCommit
  exact (KeptO.next (State.submit_kept (hm.mono rfl) h4_ (fun x1 h2 =>
    (by
      extract_lets -underBinder -merge v3 v4 v5
      try clear_value v3
      try clear_value v4
      have h6 : Kept M s0 v5 := (State.svnSync_kept (hm.mono rfl) (State.svnRaise_kept (hm.mono rfl) h2))
      try clear_value v5
      exact (Kept.ite1 (Kept.pairMk h2) (Kept.ite1 (Kept.pairMk h2) (Kept.ite1 (Kept.pairMk (State.event_kept (hm.mono rfl) h6)) (Kept.pairMk h2))))))))

theorem execOwnerSet_kept {M : Nat} {s0 : State} {p0 : Master} {p1 : Nat} {p2 : MHdr} {p3 : Token} {p4 : State} (hm : Msub 1190993476520143162557249854915221655952 M) (h4_ : Kept M s0 p4) :
    KeptO M s0 (@execOwnerSet p0 p1 p2 p3 p4) := by
  unfold execOwnerSet
  exact (KeptO.next (State.submit_kept (hm.mono rfl) h4_ (fun x1 h2 =>
    (Kept.pairMk (Kept.upd_sec (hm.mono rfl) h2)))))

theorem execOwnerKey_kept {M : Nat} {s0 : State} {p0 : Master} {p1 : Nat} {p2 : MHdr} {p3 : List Sys2Proof.Byte} {p4 : State} (hm : Msub 1190993476520143164918433096350044262800 M) (h4_ : Kept M s0 p4) :
    KeptO M s0 (@execOwnerKey p0 p1 p2 p3 p4) := by
  unfold execOwnerKey
  exact (KeptO.next (State.request_kept (hm.mono rfl) h4_ (fun x1 h2 =>
    (by
      split
      · exact (Kept.pairMk h2)
      · extract_lets -underBinder -merge v5 v6 v7
        try clear_value v6
        have h8 : Kept M s0 v7 := (State.ownerSync_kept (hm.mono rfl) (Kept.upd_flash_sec (hm.mono rfl) ⟨rfl, rfl, rfl, rfl, rfl, rfl, rfl, rfl, rfl, fun _ => Nat.le_refl _, fun _ h => h, fun h => h⟩ h2))
        try clear_value v7
        exact (Kept.ite1 (Kept.pairMk (State.event_kept (hm.mono rfl) h8)) (Kept.pairMk h2))))))

theorem execDebugUnlock_kept {M : Nat} {s0 : State} {p0 : Master} {p1 : Nat} {p2 : MHdr} {p3 : Token} {p4 : State} (hm : Msub 1233528772385260470490171680844192682384 M) (h4_ : Kept M s0 p4) :
    KeptO M s0 (@execDebugUnlock p0 p1 p2 p3 p4) := by
  unfold execDebugUnlock
  exact (KeptO.next (State.request_kept (hm.mono rfl) h4_ (fun x1 h2 =>
    (Kept.ite1 (Kept.pairMk (State.sealBlock_kept (hm.mono rfl) h2)) (by
      split
      · rename_i x3 e4
        have Hx3 := Kept.fst e4 (State.tokenTake_kept (hm.mono rfl) h2)
        exact (Kept.pairMk Hx3)
      · rename_i x5 e6
        have Hx5 := Kept.fst e6 (State.tokenTake_kept (hm.mono rfl) h2)
        extract_lets -underBinder -merge v7
        have h8 : Kept M s0 v7 := (State.setFld_kept (hm.mono rfl) (State.setFld_kept (hm.mono rfl) Hx5 (hm.has (k := 8) rfl)) (hm.has (k := 8) rfl))
        try clear_value v7
        exact (Kept.pairMk (State.event_kept (hm.mono rfl) h8)))))))

theorem execRma_kept {M : Nat} {s0 : State} {p0 : Master} {p1 : Nat} {p2 : MHdr} {p3 : Token} {p4 : State} (hm : Msub 1190993476520143164918433096350044262800 M) (h4_ : Kept M s0 p4) :
    KeptO M s0 (@execRma p0 p1 p2 p3 p4) := by
  unfold execRma
  exact (KeptO.next (State.submit_kept (hm.mono rfl) h4_ (fun x1 h2 =>
    (Kept.pairMk (Kept.upd_flash (hm.mono rfl) ⟨rfl, rfl, rfl, rfl, rfl, rfl, rfl, rfl, rfl, fun _ => Nat.le_refl _, fun _ h => h, fun h => h⟩ h2)))))

end Sys2Proof.Machine
end

