-- ==== Sys2Proof/Laws/FrameRegAccess.lean ====
section
/-! SUPPORT. What the operations and meanings of Machine/RegAccess.lean can change: one frame lemma per definition. -/
namespace Sys2Proof.Machine

theorem State.timeLive_kept {M : Nat} {s0 : State} {p0 : State} (hm : Msub 590295810358705651744 M) (h0_ : Kept M s0 p0) :
    Kept M s0 (@State.timeLive p0) := by
  unfold State.timeLive
  exact (Kept.ite h0_ (by
    split
    · rename_i x1 x2 e3
      have Hx1 := Kept.fst e3 (State.freeTime_kept (hm.mono rfl) h0_)
      exact (State.showTime_kept (hm.mono rfl) Hx1)))

theorem State.pageRead_kept {M : Nat} {s0 : State} {p0 : State} {p1 : Page} {p2 : Nat} (hm : Msub 5192296858535417924622330146328992 M) (h0_ : Kept M s0 p0) :
    Kept M s0 (@State.pageRead p0 p1 p2).1 := by
  unfold State.pageRead
  extract_lets -underBinder -merge v1
  have h2 : Kept M s0 v1.1 := (Kept.pairMk h0_)
  try clear_value v1
  exact (Kept.ite1 (Kept.pairMk h0_) (by
    split
    · extract_lets -underBinder -merge v4 v5
      have h6 : Kept M s0 v5 := (State.timeLive_kept (hm.mono rfl) h0_)
      try clear_value v5
      exact (Kept.ite1 (State.timeSecRead_kept (hm.mono rfl) (Kept.upd_fresh (hm.mono rfl) (Nat.le_add_right _ _) h0_)) (Kept.ite1 (State.timeFracRead_kept (hm.mono rfl) (State.timeLive_kept (hm.mono rfl) h0_)) (Kept.ite1 (Kept.pairMk h6) h2)))
    · exact (Kept.ite1 (State.capSecRead_kept (hm.mono rfl) h0_) (Kept.ite1 (State.capFracRead_kept (hm.mono rfl) h0_) h2))
    · exact (Kept.ite1 (State.planRead_kept (hm.mono rfl) h0_) h2)
    · exact (Kept.ite1 (State.imgRead_kept (hm.mono rfl) h0_) h2)
    · exact (Kept.ite1 (State.sigRead_kept (hm.mono rfl) h0_) h2)
    · exact (Kept.ite1 (State.attRead_kept (hm.mono rfl) h0_) h2)
    · extract_lets -underBinder -merge v13
      have h14 : Kept M s0 v13 := (State.recLatch_kept (hm.mono rfl) h0_)
      try clear_value v13
      exact (Kept.ite1 (Kept.pairMk h14) (Kept.ite1 (Kept.pairMk (State.recNext_kept (hm.mono rfl) h0_)) h2))
    · exact (Kept.ite1 (Kept.pairMk h0_) h2)
    · exact (Kept.ite1 (Kept.pairMk h0_) h2)
    · rename_i x18
      exact h2))

theorem State.regRead_kept {M : Nat} {s0 : State} {p0 : State} {p1 : Nat} (hm : Msub 5192296858535417924622330146328993 M) (h0_ : Kept M s0 p0) :
    Kept M s0 (@State.regRead p0 p1).1 := by
  unfold State.regRead
  exact (Kept.ite1 (Kept.pairMk h0_) (by
    split
    · exact (Kept.pairMk (State.bump_kept (hm.mono rfl) h0_ (hm.has (k := 0) rfl)))
    · rename_i x2 e3
      exact (Kept.ite1 (State.pageRead_kept (hm.mono rfl) h0_) (Kept.pairMk (Kept.upd_fresh (hm.mono rfl) (Nat.le_add_right _ _) h0_)))))

theorem State.semGrant_kept {M : Nat} {s0 : State} {p0 : State} {p1 : Page} {p2 : Nat} (hm : Msub 9444732965739290427393 M) (h0_ : Kept M s0 p0) (hp1 : M.testBit p1.kind = true) :
    Kept M s0 (@State.semGrant p0 p1 p2) := by
  unfold State.semGrant
  extract_lets -underBinder -merge v1
  have h2 : Kept M s0 v1 := (State.setSemOwner_kept (hm.mono rfl) h0_ hp1)
  try clear_value v1
  exact (State.semHeldUpdate_kept (hm.mono rfl) (Kept.upd_semTick (hm.mono rfl) h2))

theorem State.semAcquire_kept {M : Nat} {s0 : State} {p0 : State} {p1 : Page} {p2 : Master} (hm : Msub 5192296858549880171694643323342993 M) (h0_ : Kept M s0 p0) (hp1 : M.testBit p1.kind = true) :
    Kept M s0 (@State.semAcquire p0 p1 p2) := by
  unfold State.semAcquire
  extract_lets -underBinder -merge v1
  try clear_value v1
  exact (Kept.ite (State.semGrant_kept (hm.mono rfl) h0_ hp1) (Kept.ite (Kept.upd_semTick (hm.mono rfl) h0_) (Kept.ite (State.event_kept (hm.mono rfl) (State.semGrant_kept (hm.mono rfl) h0_ hp1)) h0_)))

theorem State.semRelease_kept {M : Nat} {s0 : State} {p0 : State} {p1 : Page} {p2 : Master} (hm : Msub 1 M) (h0_ : Kept M s0 p0) (hp1 : M.testBit p1.kind = true) :
    Kept M s0 (@State.semRelease p0 p1 p2) := by
  unfold State.semRelease
  exact (Kept.ite (State.semHeldUpdate_kept (hm.mono rfl) (State.setSemOwner_kept (hm.mono rfl) h0_ hp1)) h0_)

theorem execSemAcquire_kept {M : Nat} {s0 : State} {p0 : Nat} {p1 : List Master} {p2 : State} (hm : Msub 5192296858568788084370195613745151 M) (h2_ : Kept M s0 p2) :
    KeptO M s0 (@execSemAcquire p0 p1 p2) := by
  unfold execSemAcquire
  exact (KeptO.next (by
    split
    · exact (Kept.ite (State.bump_kept (hm.mono rfl) h2_ (hm.has (k := 0) rfl)) h2_)
    · rename_i x2 e3
      extract_lets -underBinder -merge v4 v5
      try clear_value v4
      have h6 : Kept M s0 v5 := (Kept.ite (Kept.upd_semTie (hm.mono rfl) h2_) h2_)
      try clear_value v5
      exact (Kept.ite h2_ (Kept.each h6 (fun x7 x8 h9 =>
        (State.semAcquire_kept (hm.mono rfl) h9 (Msub.all hm rfl _ (Page.kind_lt _))))))))

theorem execSemRelease_kept {M : Nat} {s0 : State} {p0 : Nat} {p1 : Master} {p2 : State} (hm : Msub 18446744073709551615 M) (h2_ : Kept M s0 p2) :
    KeptO M s0 (@execSemRelease p0 p1 p2) := by
  unfold execSemRelease
  exact (KeptO.next (by
    split
    · exact (Kept.ite (State.bump_kept (hm.mono rfl) h2_ (hm.has (k := 0) rfl)) h2_)
    · rename_i x2 e3
      exact (Kept.ite (State.semRelease_kept (hm.mono rfl) h2_ (Msub.all hm rfl _ (Page.kind_lt _))) h2_)))

theorem State.ctrRests_kept {M : Nat} {s0 : State} {p0 : State} {p1 : Page} (hm : Msub 43556142970954516915595178834345022455808 M) (h0_ : Kept M s0 p0) :
    Kept M s0 (@State.ctrRests p0 p1) := by
  unfold State.ctrRests
  extract_lets -underBinder -merge v1
  have h2 : Kept M s0 v1 := (Kept.upd_portCnt (hm.mono rfl) h0_)
  try clear_value v1
  split
  · exact (Kept.upd_cores (hm.mono rfl) h2)
  · exact (Kept.upd_nmus (hm.mono rfl) h2)
  · exact (Kept.upd_ports (hm.mono rfl) h2)
  · exact (Kept.upd_ports (hm.mono rfl) h2)
  · exact (Kept.each h2 (fun x10 x11 h12 =>
      (Kept.each h12 (fun x13 x14 h15 =>
        (Kept.upd_lanes (hm.mono rfl) h15)))))
  · rename_i x16
    exact h2

theorem State.ctrClr_kept {M : Nat} {s0 : State} {p0 : State} {p1 : Page} {p2 : Nat} {p3 : Nat} (hm : Msub 43556142970954516915613625578418732007423 M) (h0_ : Kept M s0 p0) :
    Kept M s0 (@State.ctrClr p0 p1 p2 p3) := by
  unfold State.ctrClr
  exact (Kept.ite (State.ctrRests_kept (hm.mono rfl) (Kept.upd_regs (hm.mono rfl) (fun h => smWf_filter _ h) h0_)) h0_)

theorem State.plainWrite_kept {M : Nat} {s0 : State} {p0 : State} {p1 : Page} {p2 : Nat} {p3 : Nat} (hm : Msub 55340232221128654847 M) (h0_ : Kept M s0 p0) :
    Kept M s0 (@State.plainWrite p0 p1 p2 p3) := by
  unfold State.plainWrite
  split
  · exact h0_
  · extract_lets -underBinder -merge v3 v4 v5
    try clear_value v3
    try clear_value v4
    have h6 : Kept M s0 v5 := (Kept.ite (State.setReg_kept (hm.mono rfl) h0_) h0_)
    try clear_value v5
    exact (Kept.ite (State.setShReg_kept (hm.mono rfl) h6) h6)

theorem State.jobField_kept {M : Nat} {s0 : State} {p0 : State} {p1 : Nat} {p2 : Page} {p3 : Nat} {p4 : Nat} (hm : Msub 332041393326772453377 M) (h0_ : Kept M s0 p0) :
    Kept M s0 (@State.jobField p0 p1 p2 p3 p4) := by
  unfold State.jobField
  extract_lets -underBinder -merge v1
  try clear_value v1
  split
  · exact (State.jobWrite_kept (hm.mono rfl) h0_)
  · exact h0_

theorem State.planCtrl_kept {M : Nat} {s0 : State} {p0 : State} {p1 : Nat} (hm : Msub 5192306762060749722052578202620048 M) (h0_ : Kept M s0 p0) :
    Kept M s0 (@State.planCtrl p0 p1) := by
  unfold State.planCtrl
  extract_lets -underBinder -merge v1 v2
  have h3 : Kept M s0 v1 := (State.setFld_kept (hm.mono rfl) h0_ (hm.has (k := 48) rfl))
  try clear_value v1
  have h4 : Kept M s0 v2 := (Kept.ite (State.planCancel_kept (hm.mono rfl) h3) h3)
  try clear_value v2
  exact (Kept.ite (State.planArm_kept (hm.mono rfl) h4) h4)

theorem State.bindCtrl_kept {M : Nat} {s0 : State} {p0 : State} {p1 : Nat} {p2 : Nat} {p3 : Nat} (hm : Msub 5202438063342261273940879808139409 M) (h0_ : Kept M s0 p0) :
    Kept M s0 (@State.bindCtrl p0 p1 p2 p3) := by
  unfold State.bindCtrl
  extract_lets -underBinder -merge v1
  have h2 : Kept M s0 v1 := (State.setFld_kept (hm.mono rfl) h0_ (hm.has (k := 31) rfl))
  try clear_value v1
  exact (Kept.ite (State.bindActions_kept (hm.mono rfl) (State.bindArm_kept (hm.mono rfl) h2)) h2)

theorem State.laneCtrl_kept {M : Nat} {s0 : State} {p0 : State} {p1 : Nat} {p2 : Nat} (hm : Msub 5196111570771493338202960969142416 M) (h0_ : Kept M s0 p0) :
    Kept M s0 (@State.laneCtrl p0 p1 p2) := by
  unfold State.laneCtrl
  extract_lets -underBinder -merge v1
  have h2 : Kept M s0 v1 := (Kept.ite (State.laneDisable_kept (hm.mono rfl) h0_) h0_)
  try clear_value v1
  exact (Kept.ite (State.laneClear_kept (hm.mono rfl) h2) h2)

theorem State.calCfg_kept {M : Nat} {s0 : State} {p0 : State} {p1 : Nat} {p2 : Nat} (hm : Msub 42089961335702999715314401280 M) (h0_ : Kept M s0 p0) :
    Kept M s0 (@State.calCfg p0 p1 p2) := by
  unfold State.calCfg
  extract_lets -underBinder -merge v1
  have h2 : Kept M s0 v1 := (State.setFld_kept (hm.mono rfl) h0_ (hm.has (k := 46) rfl))
  try clear_value v1
  exact (Kept.ite (State.calNow_kept (hm.mono rfl) h2) h2)

theorem State.regPut_kept {M : Nat} {s0 : State} {p0 : State} {p1 : Page} {p2 : Nat} {p3 : Nat} (hm : Msub 78775353014343766630614846878484195704831 M) (h0_ : Kept M s0 p0) :
    Kept M s0 (@State.regPut p0 p1 p2 p3) := by
  unfold State.regPut
  extract_lets -underBinder -merge v1 v2
  try clear_value v1
  have h3 : Kept M s0 v2 := (State.plainWrite_kept (hm.mono rfl) h0_)
  try clear_value v2
  exact (Kept.ite (State.irqUpdate_kept (hm.mono rfl) h3) (Kept.ite (State.irqUpdate_kept (hm.mono rfl) h3) (Kept.ite (State.unitReset_kept (hm.mono rfl) h0_) (Kept.ite (State.ctrClr_kept (hm.mono rfl) h0_) (by
    split
    · exact (Kept.ite (State.chipWrite_kept (hm.mono rfl) h0_) (Kept.ite (State.modCmd_kept (hm.mono rfl) h0_) h3))
    · exact (Kept.ite (State.bar2Sel_kept (hm.mono rfl) h0_) h3)
    · exact (Kept.ite (State.cplCons_kept (hm.mono rfl) h0_) h3)
    · exact (Kept.ite (State.cplCons_kept (hm.mono rfl) h0_) h3)
    · exact (Kept.ite (Kept.ite (State.restep_kept (hm.mono rfl) h0_) h0_) (Kept.ite (State.timCfg_kept (hm.mono rfl) h0_) h3))
    · exact (Kept.ite (State.bmca_kept (hm.mono rfl) h3) h3)
    · exact (Kept.ite (by
        split
        · rename_i x11 x12 e13
          have Hx11 := Kept.fst e13 (State.freeTime_kept (hm.mono rfl) h0_)
          exact (State.trgCtrl_kept (hm.mono rfl) Hx11)) h3)
    · exact (Kept.ite (State.ccCmd_kept (hm.mono rfl) h0_) h3)
    · exact (Kept.ite (State.fpCmd_kept (hm.mono rfl) h0_) h3)
    · exact (Kept.ite (State.recCtrl_kept (hm.mono rfl) h0_) h3)
    · exact (Kept.ite (State.faultWindow_kept (hm.mono rfl) h3) h3)
    · exact (Kept.ite (State.rstGo_kept (hm.mono rfl) h0_) h3)
    · exact (Kept.ite (State.partCmd_kept (hm.mono rfl) h0_) (Kept.ite (State.jobField_kept (hm.mono rfl) h0_) h3))
    · exact (Kept.ite (State.ctxCmd_kept (hm.mono rfl) h0_) h3)
    · exact (Kept.ite (State.lineCmd_kept (hm.mono rfl) h0_) h3)
    · exact (Kept.ite (State.epCtrl_kept (hm.mono rfl) h0_) h3)
    · exact (Kept.ite (State.jobField_kept (hm.mono rfl) h0_) h3)
    · exact (Kept.ite (State.jobField_kept (hm.mono rfl) h0_) h3)
    · exact (Kept.ite (State.ckCmd_kept (hm.mono rfl) h0_) (Kept.ite (State.stoCmd_kept (hm.mono rfl) h0_) (Kept.ite (State.stoProd_kept (hm.mono rfl) h0_) (Kept.ite (State.stoCons_kept (hm.mono rfl) h0_) h3))))
    · exact (Kept.ite (State.rcCmd_kept (hm.mono rfl) h0_) h3)
    · exact (Kept.ite (State.suspect_kept (hm.mono rfl) h0_) h3)
    · exact (Kept.ite (State.ftCmd_kept (hm.mono rfl) h0_) h3)
    · exact (Kept.ite (State.sigAck_kept (hm.mono rfl) h0_) h3)
    · exact (Kept.ite (State.pwrCap_kept (hm.mono rfl) h0_) h3)
    · exact (Kept.ite (State.bindCtrl_kept (hm.mono rfl) h0_) h3)
    · extract_lets -underBinder -merge v34
      try clear_value v34
      exact (Kept.ite (Kept.ite h3 h0_) (Kept.ite (State.mapoutCtrl_kept (hm.mono rfl) h0_) (Kept.ite (Kept.ite (State.rcrCtrl_kept (hm.mono rfl) h0_) (by
        split
        · exact (State.setErr_kept (hm.mono rfl) (State.sealBlock_kept (hm.mono rfl) h0_) (hm.has (k := 34) rfl))
        · exact (State.setErr_kept (hm.mono rfl) h0_ (hm.has (k := 34) rfl))
        · exact h3)) h3)))
    · exact (Kept.ite (State.scrubCtrl_kept (hm.mono rfl) h0_) h3)
    · exact (Kept.ite (State.nmuPost_kept (hm.mono rfl) h0_) (Kept.ite (State.jobField_kept (hm.mono rfl) h0_) h3))
    · exact (Kept.ite (State.setErr_kept (hm.mono rfl) h0_ (hm.has (k := 37) rfl)) h3)
    · exact (Kept.ite (State.lnkCtrl_kept (hm.mono rfl) h0_) h3)
    · exact (Kept.ite (State.laneCtrl_kept (hm.mono rfl) h0_) h3)
    · exact (Kept.ite (State.plainWrite_kept (hm.mono rfl) h0_) h3)
    · exact (Kept.ite (Kept.ite h3 (State.jobField_kept (hm.mono rfl) h0_)) (Kept.ite (Kept.ite (State.keyErase_kept (hm.mono rfl) h0_) h0_) h3))
    · exact (Kept.ite (Kept.upd_frtLo (hm.mono rfl) h0_) (Kept.ite (State.frtWrite_kept (hm.mono rfl) h0_) (Kept.ite (State.rnkSlotWrite_kept (hm.mono rfl) h0_) (Kept.ite (State.rnkDataWrite_kept (hm.mono rfl) h0_) (Kept.ite (State.peerWrite_kept (hm.mono rfl) h0_) h3)))))
    · exact (Kept.ite (State.lasCmd_kept (hm.mono rfl) h0_) h3)
    · exact (Kept.ite (State.calCfg_kept (hm.mono rfl) h0_) (Kept.ite (State.tblWrite_kept (hm.mono rfl) h0_) (Kept.ite (State.ringTest_kept (hm.mono rfl) h0_) h3)))
    · exact (Kept.ite (State.monStart_kept (hm.mono rfl) h0_) h3)
    · exact (Kept.ite (State.kalMode_kept (hm.mono rfl) h0_) (Kept.ite (State.kalReplace_kept (hm.mono rfl) h0_) h3))
    · exact (Kept.ite (State.planCtrl_kept (hm.mono rfl) h0_) (Kept.ite (State.planWrite_kept (hm.mono rfl) h0_) h3))
    · rename_i x52
      exact h3)))))

theorem State.regWrite_kept {M : Nat} {s0 : State} {p0 : State} {p1 : Master} {p2 : Nat} {p3 : Nat} (hm : Msub 78775353014343766640059579844223486132223 M) (h0_ : Kept M s0 p0) :
    Kept M s0 (@State.regWrite p0 p1 p2 p3).1 := by
  unfold State.regWrite
  exact (Kept.ite1 (Kept.pairMk (State.setReg_kept (hm.mono rfl) h0_)) (Kept.ite1 (Kept.pairMk h0_) (by
    split
    · exact (Kept.pairMk (State.bump_kept (hm.mono rfl) h0_ (hm.has (k := 0) rfl)))
    · rename_i x2 e3
      extract_lets -underBinder -merge v4 v5
      try clear_value v4
      have h6 : Kept M s0 v5 := (Kept.upd_semTick (hm.mono rfl) h0_)
      try clear_value v5
      exact (Kept.ite1 (Kept.pairMk h0_) (Kept.ite1 (Kept.pairMk (Kept.ite (State.semAcquire_kept (hm.mono rfl) h0_ (Msub.all hm rfl _ (Page.kind_lt _))) (State.semRelease_kept (hm.mono rfl) h0_ (Msub.all hm rfl _ (Page.kind_lt _))))) (Kept.ite1 (Kept.pairMk h0_) (Kept.ite1 (Kept.pairMk (State.semDrop_kept (hm.mono rfl) h0_)) (by
        split
        · exact (Kept.pairMk (State.setErr_kept (hm.mono rfl) h6 (Msub.all hm rfl _ (Page.kind_lt _))))
        · exact (Kept.pairMk h6)
        · exact (Kept.pairMk (State.regPut_kept (hm.mono rfl) h6))))))))))

theorem execRegisterWrite_kept {M : Nat} {s0 : State} {p0 : Master} {p1 : Nat} {p2 : Nat} {p3 : Sys2Proof.DWord} {p4 : State} (hm : Msub 78775353014343766640059579844223486132223 M) (h4_ : Kept M s0 p4) :
    KeptO M s0 (@execRegisterWrite p0 p1 p2 p3 p4) := by
  unfold execRegisterWrite
  exact (KeptO.next (Kept.ite h4_ (Kept.ite (State.regWrite_kept (hm.mono rfl) h4_) (Kept.ite (State.regWrite_kept (hm.mono rfl) (State.regWrite_kept (hm.mono rfl) h4_)) (State.bump_kept (hm.mono rfl) h4_ (hm.has (k := 0) rfl))))))

theorem execCtrClr_kept {M : Nat} {s0 : State} {p0 : Master} {p1 : Nat} {p2 : Nat} {p3 : Sys2Proof.Word} {p4 : State} (hm : Msub 43556148163251375465493797273062055346175 M) (h4_ : Kept M s0 p4) :
    KeptO M s0 (@execCtrClr p0 p1 p2 p3 p4) := by
  unfold execCtrClr
  exact (KeptO.next (by
    split
    · exact h4_
    · rename_i x2 e3
      exact (Kept.ite (State.gated_kept (hm.mono rfl) h4_ (fun x4 h5 =>
        (State.ctrClr_kept (hm.mono rfl) h5))) h4_)))

end Sys2Proof.Machine
end

