-- ==== Sys2Proof/Laws/FrameMgmt.lean ====
section
/-! SUPPORT. What the operations and meanings of Machine/Mgmt.lean can change: one frame lemma per definition. -/
namespace Sys2Proof.Machine

theorem State.mailWrite_kept {M : Nat} {s0 : State} {p0 : State} {p1 : Master} {p2 : Nat} {p3 : Nat} {p4 : List Sys2Proof.Byte} (hm : Msub 1020852293059673930825562551199337549968 M) (h0_ : Kept M s0 p0) :
    Kept M s0 (@State.mailWrite p0 p1 p2 p3 p4) := by
  unfold State.mailWrite
  extract_lets -underBinder -merge v1 v2 v3 v4 v5
  try clear_value v1
  try clear_value v2
  try clear_value v4
  try clear_value v5
  exact (Kept.ite (State.event_kept (hm.mono rfl) h0_) (Kept.ite h0_ (Kept.ite (Kept.ite (State.event_kept (hm.mono rfl) h0_) (State.mboxBytes_kept (hm.mono rfl) (State.mboxPost_kept (hm.mono rfl) h0_))) (State.mboxBytes_kept (hm.mono rfl) h0_))))

theorem State.bar4Write_kept {M : Nat} {s0 : State} {p0 : State} {p1 : Master} {p2 : Nat} {p3 : List Sys2Proof.Byte} (hm : Msub 1020852293059673968604494414156499259548 M) (h0_ : Kept M s0 p0) :
    Kept M s0 (@State.bar4Write p0 p1 p2 p3) := by
  unfold State.bar4Write
  exact (Kept.ite (State.lchWrite_kept (hm.mono rfl) h0_) (Kept.ite (Kept.ite h0_ (State.event_kept (hm.mono rfl) h0_)) (State.mailWrite_kept (hm.mono rfl) h0_)))

theorem State.regReads_kept {M : Nat} {s0 s : State} {a k : Nat} (hm : Msub 5192296858535417924622330146328993 M) (h : Kept M s0 s) :
    Kept M s0 (s.regReads a k).1 := by
  induction k generalizing s a with
  | zero => exact h
  | succ k ih => exact ih (State.regRead_kept (hm.mono rfl) h)

theorem State.regWrites_kept {M : Nat} {s0 s : State} {m : Master} {a : Nat} {b : List Byte} {k : Nat} (hm : Msub 78775353014343766640059579844223486132223 M) (h : Kept M s0 s) :
    Kept M s0 (s.regWrites m a b k).1 := by
  induction k generalizing s a b with
  | zero => exact h
  | succ k ih => exact ih (State.regWrite_kept (hm.mono rfl) h)

theorem State.mgExec_kept {M : Nat} {s0 : State} {p0 : State} {p1 : Requester} {p2 : MgReq} (hm : Msub 78775353014343785982872693678290281431039 M) (h0_ : Kept M s0 p0) :
    Kept M s0 (@State.mgExec p0 p1 p2) := by
  unfold State.mgExec
  split
  · exact (Kept.ite (State.answerReq_kept (hm.mono rfl) h0_) (Kept.ite (by
      split
      · rename_i x4 x5 e6
        have Hx4 := Kept.fst e6 (State.regReads_kept (hm.mono rfl) h0_)
        exact (State.answerReq_kept (hm.mono rfl) Hx4)) (Kept.ite (State.answerReq_kept (hm.mono rfl) h0_) (Kept.ite (State.answerReq_kept (hm.mono rfl) (State.sealBlock_kept (hm.mono rfl) h0_)) (State.outerRead_kept (hm.mono rfl) h0_)))))
  · extract_lets -underBinder -merge v10 v11
    try clear_value v10
    have h15 : Kept M s0 v11 := (Kept.each h0_ (fun x12 x13 h14 =>
      (State.bar4Write_kept (hm.mono rfl) h14)))
    try clear_value v11
    exact (Kept.ite (State.answerReq_kept (hm.mono rfl) h0_) (Kept.ite (by
      split
      · rename_i x16 x17 e18
        have Hx16 := Kept.fst e18 (State.regWrites_kept (hm.mono rfl) h0_)
        exact (State.answerReq_kept (hm.mono rfl) Hx16)) (Kept.ite (State.answerReq_kept (hm.mono rfl) h15) (Kept.ite (State.answerReq_kept (hm.mono rfl) (State.sealBlock_kept (hm.mono rfl) h0_)) (State.outerWrite_kept (hm.mono rfl) h0_)))))
  · exact (State.answerReq_kept (hm.mono rfl) h0_)
  · exact (State.answerReq_kept (hm.mono rfl) h0_)

theorem State.setSession_kept {M : Nat} {s0 : State} {p0 : State} {p1 : Nat} {p2 : Sess} (hm : Msub 10889035741470030830827987437816582766592 M) (h0_ : Kept M s0 p0) :
    Kept M s0 (@State.setSession p0 p1 p2) := by
  unfold State.setSession
  exact (Kept.upd_sess (hm.mono rfl) h0_)

theorem State.sessSync_kept {M : Nat} {s0 : State} {p0 : State} (hm : Msub 16 M) (h0_ : Kept M s0 p0) :
    Kept M s0 (@State.sessSync p0) := by
  unfold State.sessSync
  exact (State.setFld_kept (hm.mono rfl) h0_ (hm.has (k := 4) rfl))

theorem State.sessClose_kept {M : Nat} {s0 : State} {p0 : State} {p1 : Nat} (hm : Msub 32667107224410092492797556962702810677247 M) (h0_ : Kept M s0 p0) :
    Kept M s0 (@State.sessClose p0 p1) := by
  unfold State.sessClose
  extract_lets -underBinder -merge v1 v2 v3
  try clear_value v1
  have h7 : Kept M s0 v2 := (Kept.each h0_ (fun x4 x5 h6 =>
    (State.mgSend_kept (hm.mono rfl) h6)))
  try clear_value v2
  have h8 : Kept M s0 v3 := (State.sessSync_kept (hm.mono rfl) (State.setSession_kept (hm.mono rfl) h7))
  try clear_value v3
  exact (Kept.ite (State.semReleaseAll_kept (hm.mono rfl) h8) h8)

theorem State.relayTo_kept {M : Nat} {s0 : State} {p0 : State} {p1 : MgTo} {p2 : Nat} {p3 : MgReq} (hm : Msub 21778076679050394493110027547961020453008 M) (h0_ : Kept M s0 p0) :
    Kept M s0 (@State.relayTo p0 p1 p2 p3) := by
  unfold State.relayTo
  extract_lets -underBinder -merge v1 v2
  try clear_value v1
  have h3 : Kept M s0 v2 := (Kept.upd_mg (hm.mono rfl) h0_)
  try clear_value v2
  exact (State.bump_kept (hm.mono rfl) (State.mgCarry_kept (hm.mono rfl) h3) (hm.has (k := 4) rfl))

theorem State.sessRun_kept {M : Nat} {s0 : State} {p0 : State} {p1 : Nat} {p2 : MgTo} {p3 : Option Nat} {p4 : MgReq} (hm : Msub 78775353014343785982872693678290281431039 M) (h0_ : Kept M s0 p0) :
    Kept M s0 (@State.sessRun p0 p1 p2 p3 p4) := by
  unfold State.sessRun
  extract_lets -underBinder -merge v1 v2
  try clear_value v1
  have h3 : Kept M s0 v2 := (State.setSession_kept (hm.mono rfl) h0_)
  try clear_value v2
  split
  · exact (State.sessClose_kept (hm.mono rfl) (State.mgAnswer_kept (hm.mono rfl) h3))
  · exact (State.mgAnswer_kept (hm.mono rfl) h3)
  · split
    · exact (State.mgExec_kept (hm.mono rfl) h3)
    · exact (Kept.ite (State.relayTo_kept (hm.mono rfl) h3) (State.mgAnswer_kept (hm.mono rfl) h3))

theorem State.sessDrain_kept {M : Nat} {s0 : State} {n k : Nat} {s : State} (hm : Msub 78775353014343785982872693678290281431039 M) (h : Kept M s0 s) :
    Kept M s0 (State.sessDrain n k s) := by
  induction k generalizing s with
  | zero => exact h
  | succ k ih =>
    unfold State.sessDrain
    extract_lets
    split
    · exact State.setSession_kept (hm.mono rfl) h
    · exact ih (State.sessRun_kept (hm.mono rfl) (State.setSession_kept (hm.mono rfl) h))

theorem State.sessRequest_kept {M : Nat} {s0 : State} {p0 : State} {p1 : MgHdr} {p2 : MgReq} (hm : Msub 78775353014343785982872693678290281431039 M) (h0_ : Kept M s0 p0) :
    Kept M s0 (@State.sessRequest p0 p1 p2) := by
  unfold State.sessRequest
  extract_lets -underBinder -merge v1 v2 v3 v4 v5 v6 v7
  try clear_value v1
  try clear_value v2
  try clear_value v3
  try clear_value v4
  try clear_value v5
  have h8 : Kept M s0 v6 := (State.setSession_kept (hm.mono rfl) h0_)
  try clear_value v6
  try clear_value v7
  exact (Kept.ite (State.mgSend_kept (hm.mono rfl) h0_) (Kept.ite (by
    split
    · exact (State.mgSend_kept (hm.mono rfl) h8)
    · exact h8) (Kept.ite (State.sessDrain_kept (hm.mono rfl) (State.sessRun_kept (hm.mono rfl) (State.setSession_kept (hm.mono rfl) h0_))) (State.setSession_kept (hm.mono rfl) h0_))))

theorem State.mgFrame_kept {M : Nat} {s0 : State} {p0 : State} {p1 : MgHdr} {p2 : Nat} {p3 : Bool} {p4 : State → State} (hm : Msub 21778071482940061661951122780812518359056 M) (h0_ : Kept M s0 p0) (f4_ : ∀ y0, Kept M s0 y0 → Kept M s0 (p4 y0)) :
    Kept M s0 (@State.mgFrame p0 p1 p2 p3 p4) := by
  unfold State.mgFrame
  exact (Kept.ite h0_ (by
    split
    · extract_lets -underBinder -merge v2
      have h3 : Kept M s0 v2 := (Kept.ite (State.bump_kept (hm.mono rfl) h0_ (hm.has (k := 4) rfl)) h0_)
      try clear_value v2
      exact (State.mgSend_kept (hm.mono rfl) h3)
    · exact (f4_ _ (State.bump_kept (hm.mono rfl) h0_ (hm.has (k := 4) rfl)))))

theorem execMgmtRead_kept {M : Nat} {s0 : State} {p0 : MgHdr} {p1 : Nat} {p2 : Nat} {p3 : Nat} {p4 : State} (hm : Msub 78775353014343785982872693678290281431039 M) (h4_ : Kept M s0 p4) :
    KeptO M s0 (@execMgmtRead p0 p1 p2 p3 p4) := by
  unfold execMgmtRead
  exact (KeptO.next (State.mgFrame_kept (hm.mono rfl) h4_ (fun x1 h2 =>
    (State.sessRequest_kept (hm.mono rfl) h2))))

theorem execMgmtWrite_kept {M : Nat} {s0 : State} {p0 : MgHdr} {p1 : Nat} {p2 : Nat} {p3 : List Sys2Proof.Byte} {p4 : State} (hm : Msub 78775353014343785982872693678290281431039 M) (h4_ : Kept M s0 p4) :
    KeptO M s0 (@execMgmtWrite p0 p1 p2 p3 p4) := by
  unfold execMgmtWrite
  exact (KeptO.next (State.mgFrame_kept (hm.mono rfl) h4_ (fun x1 h2 =>
    (State.sessRequest_kept (hm.mono rfl) h2))))

theorem execSessionOpen_kept {M : Nat} {s0 : State} {p0 : MgHdr} {p1 : State} (hm : Msub 32667107224410092492779110218629101125648 M) (h1_ : Kept M s0 p1) :
    KeptO M s0 (@execSessionOpen p0 p1) := by
  unfold execSessionOpen
  exact (KeptO.next (State.mgFrame_kept (hm.mono rfl) h1_ (fun x1 h2 =>
    (by
      extract_lets -underBinder -merge v3 v4
      try clear_value v3
      try clear_value v4
      split
      · exact (State.mgSend_kept (hm.mono rfl) h2)
      · exact (State.mgSend_kept (hm.mono rfl) (State.sessSync_kept (hm.mono rfl) (State.setSession_kept (hm.mono rfl) h2)))))))

theorem execSessionClose_kept {M : Nat} {s0 : State} {p0 : MgHdr} {p1 : State} (hm : Msub 78775353014343785982872693678290281431039 M) (h1_ : Kept M s0 p1) :
    KeptO M s0 (@execSessionClose p0 p1) := by
  unfold execSessionClose
  exact (KeptO.next (State.mgFrame_kept (hm.mono rfl) h1_ (fun x1 h2 =>
    (State.sessRequest_kept (hm.mono rfl) h2))))

theorem execKeepalive_kept {M : Nat} {s0 : State} {p0 : MgHdr} {p1 : State} (hm : Msub 78775353014343785982872693678290281431039 M) (h1_ : Kept M s0 p1) :
    KeptO M s0 (@execKeepalive p0 p1) := by
  unfold execKeepalive
  exact (KeptO.next (State.mgFrame_kept (hm.mono rfl) h1_ (fun x1 h2 =>
    (State.sessRequest_kept (hm.mono rfl) h2))))

theorem execSessionIdleTimeout_kept {M : Nat} {s0 : State} {p0 : Nat} {p1 : State} (hm : Msub 32667107224410092492797556962702810677247 M) (h1_ : Kept M s0 p1) :
    KeptO M s0 (@execSessionIdleTimeout p0 p1) := by
  unfold execSessionIdleTimeout
  exact (KeptO.next (Kept.ite (State.sessClose_kept (hm.mono rfl) h1_) h1_))

theorem execSeqGapTimeout_kept {M : Nat} {s0 : State} {p0 : Nat} {p1 : State} (hm : Msub 32667107224410092492779110218629101125648 M) (h1_ : Kept M s0 p1) :
    KeptO M s0 (@execSeqGapTimeout p0 p1) := by
  unfold execSeqGapTimeout
  extract_lets -underBinder -merge v1 v2
  try clear_value v1
  have h6 : Kept M s0 v2 := (Kept.each h1_ (fun x3 x4 h5 =>
    (State.mgSend_kept (hm.mono rfl) h5)))
  try clear_value v2
  exact (KeptO.next (Kept.ite (State.bump_kept (hm.mono rfl) (State.setSession_kept (hm.mono rfl) h6) (hm.has (k := 4) rfl)) h1_))

theorem State.relayBack_kept {M : Nat} {s0 : State} {p0 : State} {p1 : MgHead} {p2 : List Sys2Proof.Byte} (hm : Msub 32667107224410092492779110218629101125648 M) (h0_ : Kept M s0 p0) :
    Kept M s0 (@State.relayBack p0 p1 p2) := by
  unfold State.relayBack
  split
  · extract_lets -underBinder -merge v2
    try clear_value v2
    exact (State.mgAnswer_kept (hm.mono rfl) (Kept.upd_mg (hm.mono rfl) h0_))
  · exact h0_

theorem State.relayed_kept {M : Nat} {s0 : State} {p0 : State} {p1 : Nat} {p2 : List Sys2Proof.Byte} (hm : Msub 78775353014343785982872693678290281431039 M) (h0_ : Kept M s0 p0) :
    Kept M s0 (@State.relayed p0 p1 p2) := by
  unfold State.relayed
  extract_lets -underBinder -merge v1 v2
  try clear_value v1
  try clear_value v2
  exact (Kept.ite (State.relayBack_kept (hm.mono rfl) h0_) (by
    split
    · exact (State.mgExec_kept (hm.mono rfl) h0_)
    · exact h0_))

theorem State.pieceRx_kept {M : Nat} {s0 : State} {p0 : State} {p1 : Nat} {p2 : Nat} {p3 : Nat} {p4 : List Sys2Proof.Byte} (hm : Msub 78775353014343785982872693678290281431039 M) (h0_ : Kept M s0 p0) :
    Kept M s0 (@State.pieceRx p0 p1 p2 p3 p4) := by
  unfold State.pieceRx
  extract_lets -underBinder -merge v1 v2 v3
  try clear_value v1
  try clear_value v2
  exact (Kept.ite (Kept.upd_mg (hm.mono rfl) h0_) (Kept.ite (Kept.upd_mg (hm.mono rfl) h0_) (State.relayed_kept (hm.mono rfl) (Kept.upd_mg (hm.mono rfl) h0_))))

end Sys2Proof.Machine
end

