-- ==== Sys2Proof/Laws/FrameLinkRx.lean ====
section
/-! SUPPORT. What the operations and meanings of Machine/LinkRx.lean can change: one frame lemma per definition. -/
namespace Sys2Proof.Machine

theorem State.misdelivered_kept {M : Nat} {s0 : State} {p0 : State} {p1 : Nat} {p2 : Nat} (hm : Msub 5196170991893379036526524871282832 M) (h0_ : Kept M s0 p0) :
    Kept M s0 (@State.misdelivered p0 p1 p2) := by
  unfold State.misdelivered
  extract_lets -underBinder -merge v1 v2
  have h3 : Kept M s0 v1 := (State.bump_kept (hm.mono rfl) h0_ (hm.has (k := 38) rfl))
  try clear_value v1
  have h4 : Kept M s0 v2 := (Kept.ite h3 (State.event_kept (hm.mono rfl) (State.modLane_kept (hm.mono rfl) h3)))
  try clear_value v2
  split
  · exact (State.ringNotice_kept (hm.mono rfl) h4)
  · exact (State.laneFault_kept (hm.mono rfl) h4)

theorem State.mergeCopper_kept {M : Nat} {s0 : State} {p0 : State} {p1 : Nat} {p2 : Nat} (hm : Msub 5196110332831454052822411192111248 M) (h0_ : Kept M s0 p0) :
    Kept M s0 (@State.mergeCopper p0 p1 p2) := by
  unfold State.mergeCopper
  exact (Kept.each h0_ (fun x1 x2 h3 =>
    (by
      extract_lets -underBinder -merge v4 v5 v6
      try clear_value v4
      try clear_value v5
      have h10 : Kept M s0 v6 := (Kept.each h3 (fun x7 x8 h9 =>
        (State.setFld_kept (hm.mono rfl) h9 (hm.has (k := 39) rfl))))
      try clear_value v6
      exact (Kept.ite h3 (State.bundleSync_kept (hm.mono rfl) (State.bundleSync_kept (hm.mono rfl) h10))))))

theorem State.opticalYield_kept {M : Nat} {s0 : State} {p0 : State} {p1 : Nat} (hm : Msub 5196131377812121904357728099307664 M) (h0_ : Kept M s0 p0) :
    Kept M s0 (@State.opticalYield p0 p1) := by
  unfold State.opticalYield
  exact (Kept.each h0_ (fun x1 x2 h3 =>
    (Kept.ite (State.classRefuse_kept (hm.mono rfl) h3) h3)))

theorem State.laneJoin_kept {M : Nat} {s0 : State} {p0 : State} {p1 : Nat} {p2 : Nat} {p3 : Nat} (hm : Msub 5196111570771493338202960969142416 M) (h0_ : Kept M s0 p0) :
    Kept M s0 (@State.laneJoin p0 p1 p2 p3) := by
  unfold State.laneJoin
  extract_lets -underBinder -merge v1 v2 v3 v4 v5 v6
  try clear_value v1
  try clear_value v2
  have h7 : Kept M s0 v3 := (State.setLaneSt_kept (hm.mono rfl) (State.setFld_kept (hm.mono rfl) h0_ (hm.has (k := 39) rfl)))
  try clear_value v3
  have h8 : Kept M s0 v4 := (State.bundleSync_kept (hm.mono rfl) (State.heard_kept (hm.mono rfl) (State.event_kept (hm.mono rfl) h7)))
  try clear_value v4
  have h9 : Kept M s0 v5 := (Kept.ite (State.mergeCopper_kept (hm.mono rfl) h8) h8)
  try clear_value v5
  have h10 : Kept M s0 v6 := (Kept.ite (State.sendBundle_kept (hm.mono rfl) h9) h9)
  try clear_value v6
  exact (State.portSync_kept (hm.mono rfl) h10)

theorem State.copperAdmit_kept {M : Nat} {s0 : State} {p0 : State} {p1 : Nat} {p2 : Nat} (hm : Msub 5196111570771493338202960969142416 M) (h0_ : Kept M s0 p0) :
    Kept M s0 (@State.copperAdmit p0 p1 p2) := by
  unfold State.copperAdmit
  extract_lets -underBinder -merge v1 v2
  try clear_value v2
  exact (Kept.ite (State.portSync_kept (hm.mono rfl) (State.setLaneSt_kept (hm.mono rfl) h0_)) (State.laneJoin_kept (hm.mono rfl) h0_))

theorem State.copperTrain_kept {M : Nat} {s0 : State} {p0 : State} {p1 : Nat} {p2 : Nat} {p3 : TrainMsg} {p4 : Nat} (hm : Msub 5196131377812121904357728099307664 M) (h0_ : Kept M s0 p0) :
    Kept M s0 (@State.copperTrain p0 p1 p2 p3 p4) := by
  unfold State.copperTrain
  extract_lets -underBinder -merge v1 v2
  try clear_value v1
  try clear_value v2
  exact (Kept.ite h0_ (by
    split
    · exact (State.trainFail_kept (hm.mono rfl) h0_)
    · extract_lets -underBinder -merge v5 v6 v7 v8 v9
      have h10 : Kept M s0 v5 := (State.setFld_kept (hm.mono rfl) h0_ (hm.has (k := 39) rfl))
      try clear_value v5
      try clear_value v6
      have h11 : Kept M s0 v7 := (State.setFld_kept (hm.mono rfl) h10 (hm.has (k := 38) rfl))
      try clear_value v7
      have h12 : Kept M s0 v8 := (State.setFld_kept (hm.mono rfl) (State.setFld_kept (hm.mono rfl) h11 (hm.has (k := 38) rfl)) (hm.has (k := 38) rfl))
      try clear_value v8
      have h13 : Kept M s0 v9 := (Kept.ite (State.opticalYield_kept (hm.mono rfl) h12) h12)
      try clear_value v9
      split
      · exact h13
      · extract_lets -underBinder -merge v17 v18
        have h19 : Kept M s0 v17 := (State.setFld_kept (hm.mono rfl) h13 (hm.has (k := 39) rfl))
        try clear_value v17
        have h20 : Kept M s0 v18 := (State.modLane_kept (hm.mono rfl) h19)
        try clear_value v18
        exact (Kept.ite (State.copperAdmit_kept (hm.mono rfl) h20) h20)))

theorem State.ringAdmit_kept {M : Nat} {s0 : State} {p0 : State} {p1 : Nat} {p2 : Nat} (hm : Msub 5196111570771493338273329713320080 M) (h0_ : Kept M s0 p0) :
    Kept M s0 (@State.ringAdmit p0 p1 p2) := by
  unfold State.ringAdmit
  extract_lets -underBinder -merge v1 v2
  try clear_value v1
  have h3 : Kept M s0 v2 := (State.heard_kept (hm.mono rfl) (State.setRingF_kept (hm.mono rfl) h0_))
  try clear_value v2
  split
  · exact (Kept.ite (State.laneJoin_kept (hm.mono rfl) h3) (State.bundleSync_kept (hm.mono rfl) h3))
  · exact (State.bundleSync_kept (hm.mono rfl) h3)

theorem State.ringTrain_kept {M : Nat} {s0 : State} {p0 : State} {p1 : Nat} {p2 : Nat} {p3 : TrainMsg} {p4 : Nat} (hm : Msub 5196170991893379036526524871282832 M) (h0_ : Kept M s0 p0) :
    Kept M s0 (@State.ringTrain p0 p1 p2 p3 p4) := by
  unfold State.ringTrain
  extract_lets -underBinder -merge v1 v2 v3
  try clear_value v1
  try clear_value v2
  try clear_value v3
  exact (Kept.ite (Kept.ite (State.modRing_kept (hm.mono rfl) h0_) h0_) (Kept.ite h0_ (Kept.ite (Kept.ite (State.modRing_kept (hm.mono rfl) h0_) (State.declare__kept (hm.mono rfl) h0_)) (Kept.ite h0_ (Kept.ite (State.classRefuse_kept (hm.mono rfl) h0_) (by
    split
    · exact (State.ringTrainFail_kept (hm.mono rfl) h0_)
    · exact h0_
    · extract_lets -underBinder -merge v8 v9
      have h10 : Kept M s0 v8 := (State.modRing_kept (hm.mono rfl) h0_)
      try clear_value v8
      have h17 : Kept M s0 v9 := by
        try dsimp -zeta only [v9]
        split
        · extract_lets -underBinder -merge v12 v13
          have h14 : Kept M s0 v12 := (State.setFld_kept (hm.mono rfl) h10 (hm.has (k := 39) rfl))
          try clear_value v12
          have h15 : Kept M s0 v13 := (State.setFld_kept (hm.mono rfl) h14 (hm.has (k := 39) rfl))
          try clear_value v13
          exact (Kept.ite (State.modLane_kept (hm.mono rfl) h15) h10)
        · exact h10
      try clear_value v9
      exact (Kept.ite (State.ringAdmit_kept (hm.mono rfl) h17) h17)))))))

theorem State.trainRx_kept {M : Nat} {s0 : State} {p0 : State} {p1 : Nat} {p2 : Nat} {p3 : TrainMsg} {p4 : Nat} (hm : Msub 5196170991893379036526524871282832 M) (h0_ : Kept M s0 p0) :
    Kept M s0 (@State.trainRx p0 p1 p2 p3 p4) := by
  unfold State.trainRx
  extract_lets -underBinder -merge v1
  try clear_value v1
  split
  · exact (State.ringTrain_kept (hm.mono rfl) (State.modRing_kept (hm.mono rfl) h0_))
  · exact (State.copperTrain_kept (hm.mono rfl) (State.modLane_kept (hm.mono rfl) h0_))

theorem State.heartbeatRx_kept {M : Nat} {s0 : State} {p0 : State} {p1 : Nat} {p2 : Nat} {p3 : Nat} {p4 : Nat} {p5 : Nat} (hm : Msub 5196170991893379036526524871544976 M) (h0_ : Kept M s0 p0) :
    Kept M s0 (@State.heartbeatRx p0 p1 p2 p3 p4 p5) := by
  unfold State.heartbeatRx
  split
  · extract_lets -underBinder -merge v2 v3
    have h4 : Kept M s0 v2 := (State.modRing_kept (hm.mono rfl) h0_)
    try clear_value v2
    have h5 : Kept M s0 v3 := (Kept.ite (State.setFld_kept (hm.mono rfl) h4 (hm.has (k := 39) rfl)) h4)
    try clear_value v3
    exact (Kept.ite (State.lineConfirm_kept (hm.mono rfl) h5) (State.declare__kept (hm.mono rfl) h0_))
  · exact (Kept.ite h0_ (State.laneFault_kept (hm.mono rfl) h0_))

theorem State.idleRx_kept {M : Nat} {s0 : State} {p0 : State} {p1 : Nat} {p2 : Nat} (hm : Msub 30329530962491816735028543488 M) (h0_ : Kept M s0 p0) :
    Kept M s0 (@State.idleRx p0 p1 p2) := by
  unfold State.idleRx
  split
  · extract_lets -underBinder -merge v2
    try clear_value v2
    exact (Kept.ite (State.sendBundle_kept (hm.mono rfl) (State.modRing_kept (hm.mono rfl) h0_)) h0_)
  · exact h0_

theorem State.tagDone_kept {M : Nat} {s0 : State} {p0 : State} {p1 : Outst} {p2 : Nat} (hm : Msub 85200443534996519158751123732704604304 M) (h0_ : Kept M s0 p0) :
    Kept M s0 (@State.tagDone p0 p1 p2) := by
  unfold State.tagDone
  extract_lets -underBinder -merge v1
  have h2 : Kept M s0 v1 := (State.modInfl_kept (hm.mono rfl) h0_)
  try clear_value v1
  exact (Kept.ite (State.collPumpAll_kept (hm.mono rfl) (State.flushSigs_kept (hm.mono rfl) h2)) (by
    split
    · exact (Kept.ite (State.progFault_kept (hm.mono rfl) h2) (State.progFault_kept (hm.mono rfl) h2))
    · exact h2))

theorem State.rspRx_kept {M : Nat} {s0 : State} {p0 : State} {p1 : Nat} {p2 : Nat} {p3 : Nat} {p4 : Nat} {p5 : List Sys2Proof.Byte} (hm : Msub 85865057532888977095203027262861553808 M) (h0_ : Kept M s0 p0) :
    Kept M s0 (@State.rspRx p0 p1 p2 p3 p4 p5) := by
  unfold State.rspRx
  split
  · exact h0_
  · extract_lets -underBinder -merge v3 v4 v5
    have h6 : Kept M s0 v3 := (Kept.upd_outst (hm.mono rfl) h0_)
    try clear_value v3
    try clear_value v4
    have h7 : Kept M s0 v5 := (Kept.ite (State.writeMem_kept (hm.mono rfl) h6) h6)
    try clear_value v5
    exact (Kept.ite (Kept.ite (State.rcRead_kept (hm.mono rfl) (State.engStore_kept (hm.mono rfl) h6)) (State.rcFail_kept (hm.mono rfl) (Kept.upd_outst (hm.mono rfl) h6))) (Kept.ite (State.tagDone_kept (hm.mono rfl) h7) h6))

theorem State.ackRx_kept {M : Nat} {s0 : State} {p0 : State} {p1 : Nat} {p2 : Nat} {p3 : Nat} {p4 : Nat} (hm : Msub 85532750533942748126977075497783079056 M) (h0_ : Kept M s0 p0) :
    Kept M s0 (@State.ackRx p0 p1 p2 p3 p4) := by
  unfold State.ackRx
  split
  · exact h0_
  · extract_lets -underBinder -merge v3
    have h4 : Kept M s0 v3 := (Kept.upd_outst (hm.mono rfl) h0_)
    try clear_value v3
    exact (Kept.ite (Kept.ite (State.ckAck_kept (hm.mono rfl) h4) h4) (State.tapAck_kept (hm.mono rfl) (State.tagDone_kept (hm.mono rfl) h4)))

theorem State.resumeRx_kept {M : Nat} {s0 : State} {p0 : State} {p1 : Nat} {p2 : Nat} (hm : Msub 5196110332831454052681398825848976 M) (h0_ : Kept M s0 p0) :
    Kept M s0 (@State.resumeRx p0 p1 p2) := by
  unfold State.resumeRx
  split
  · exact h0_
  · extract_lets -underBinder -merge v3 v4 v5 v6
    try clear_value v3
    have h7 : Kept M s0 v4 := (Kept.ite h0_ (State.sendE2e_kept (hm.mono rfl) h0_))
    try clear_value v4
    try clear_value v5
    try clear_value v6
    exact (Kept.ite h0_ (by
      split
      · extract_lets -underBinder -merge v10 v11 v12 v13 v14
        try clear_value v10
        have h15 : Kept M s0 v11 := (State.setBundle_kept (hm.mono rfl) h7)
        try clear_value v11
        have h16 : Kept M s0 v12 := (Kept.ite h15 (State.setFld_kept (hm.mono rfl) h15 (hm.has (k := 43) rfl)))
        try clear_value v12
        have h20 : Kept M s0 v13 := (Kept.each h16 (fun x17 x18 h19 =>
          (State.routeOut_kept (hm.mono rfl) h19)))
        try clear_value v13
        have h21 : Kept M s0 v14 := (State.bndSeqSync_kept (hm.mono rfl) (State.bump_kept (hm.mono rfl) h20 (hm.has (k := 43) rfl)))
        try clear_value v14
        exact (State.replayOcc_kept (hm.mono rfl) (State.event_kept (hm.mono rfl) h21))))

theorem State.lineMsg_kept {M : Nat} {s0 : State} {p0 : State} {p1 : Nat} {p2 : Nat} {p3 : Nat} {p4 : Nat} {p5 : Nat} {p6 : Nat} {p7 : Nat} {p8 : Nat} (hm : Msub 26087568021453502542063983193489407 M) (h0_ : Kept M s0 p0) :
    Kept M s0 (@State.lineMsg p0 p1 p2 p3 p4 p5 p6 p7 p8) := by
  unfold State.lineMsg
  split
  · exact (State.lineReq_kept (hm.mono rfl) h0_)
  · exact (State.lineAck_kept (hm.mono rfl) h0_)
  · exact (State.lineNak_kept (hm.mono rfl) h0_)
  · exact (State.lineRel_kept (hm.mono rfl) h0_)
  · exact (State.lineRelAck_kept (hm.mono rfl) h0_)
  · exact (State.lineRelWait_kept (hm.mono rfl) h0_)
  · exact h0_

theorem State.contMsg_kept {M : Nat} {s0 : State} {p0 : State} {p1 : Nat} {p2 : Nat} {p3 : Nat} {p4 : Nat} {p5 : List Nat} (hm : Msub 32767926096895639144420235243726185693183 M) (h0_ : Kept M s0 p0) :
    Kept M s0 (@State.contMsg p0 p1 p2 p3 p4 p5) := by
  unfold State.contMsg
  extract_lets -underBinder -merge v1
  split
  · exact (State.helloRx_kept (hm.mono rfl) h0_)
  · exact (State.replyRx_kept (hm.mono rfl) h0_)
  · exact (State.mirDigestRx_kept (hm.mono rfl) h0_)
  · exact (State.unitRx_kept (hm.mono rfl) h0_)
  · exact (State.stripeRx_kept (hm.mono rfl) h0_)
  · exact (State.commitAck_kept (hm.mono rfl) h0_)
  · exact (State.ckAbortRx_kept (hm.mono rfl) h0_)
  · exact (State.pullReqRx_kept (hm.mono rfl) h0_)
  · exact (State.pullDone_kept (hm.mono rfl) h0_)
  · exact (State.voteRx_kept (hm.mono rfl) h0_)
  · exact (State.verdictRx_kept (hm.mono rfl) h0_)
  · exact (State.fencePeer_kept (hm.mono rfl) h0_)
  · exact h0_

theorem State.mgmtMsg_kept {M : Nat} {s0 : State} {p0 : State} {p1 : Nat} {p2 : MgMsg} (hm : Msub 78775353014343785982872693678290281431039 M) (h0_ : Kept M s0 p0) :
    Kept M s0 (@State.mgmtMsg p0 p1 p2) := by
  unfold State.mgmtMsg
  split
  · exact (State.lineMsg_kept (hm.mono rfl) h0_)
  · exact (State.contMsg_kept (hm.mono rfl) h0_)
  · exact (State.pieceRx_kept (hm.mono rfl) h0_)

theorem State.deliver_kept {M : Nat} {s0 : State} {p0 : State} {p1 : FlitHdr} {p2 : Pay} (hm : Msub 78775353014343785982872693678290281431039 M) (h0_ : Kept M s0 p0) :
    Kept M s0 (@State.deliver p0 p1 p2) := by
  unfold State.deliver
  extract_lets -underBinder -merge v1 v2
  try clear_value v1
  split
  · extract_lets -underBinder -merge v5
    try clear_value v5
    exact (Kept.ite (State.commitLanded_kept (hm.mono rfl) (State.outerWrite_kept (hm.mono rfl) h0_)) (State.answerReq_kept (hm.mono rfl) h0_))
  · exact (Kept.ite (State.outerRead_kept (hm.mono rfl) h0_) (State.answerReq_kept (hm.mono rfl) h0_))
  · exact (State.rspRx_kept (hm.mono rfl) h0_)
  · extract_lets -underBinder -merge v15
    try clear_value v15
    exact (Kept.ite (Kept.ite (State.outerWrite_kept (hm.mono rfl) h0_) (by
      split
      · rename_i x16 x17 e18
        have Hx16 := Kept.fst e18 (State.signalWord_kept (hm.mono rfl) h0_)
        exact (State.writeDone_kept (hm.mono rfl) Hx16))) (State.answerReq_kept (hm.mono rfl) h0_))
  · exact (State.ackRx_kept (hm.mono rfl) h0_)
  · exact (State.collData_kept (hm.mono rfl) h0_)
  · exact (State.collCredit_kept (hm.mono rfl) h0_)
  · exact (Kept.ite (State.collAbort_kept (hm.mono rfl) h0_) h0_)
  · exact (State.mgmtMsg_kept (hm.mono rfl) h0_)
  · exact (State.resumeRx_kept (hm.mono rfl) h0_)
  · exact h0_

theorem State.accept_kept {M : Nat} {s0 : State} {p0 : State} {p1 : Nat} {p2 : Flit} (hm : Msub 78775353014343785982872693678290281431039 M) (h0_ : Kept M s0 p0) :
    Kept M s0 (@State.accept p0 p1 p2) := by
  unfold State.accept
  extract_lets -underBinder -merge v1 v2 v3
  have h4 : Kept M s0 v1 := (State.bump_kept (hm.mono rfl) h0_ (hm.has (k := 41) rfl))
  try clear_value v1
  try clear_value v2
  try clear_value v3
  exact (Kept.ite (Kept.ite h4 (State.event_kept (hm.mono rfl) (Kept.upd_ports (hm.mono rfl) h4))) (by
    split
    · extract_lets -underBinder -merge v7
      have h8 : Kept M s0 v7 := (State.bumpBy_kept (hm.mono rfl) (Kept.upd_ports (hm.mono rfl) h0_) (hm.has (k := 41) rfl))
      try clear_value v7
      exact (Kept.ite (State.bump_kept (hm.mono rfl) h8 (hm.has (k := 42) rfl)) (by
        split
        · exact (State.dropNote_kept (hm.mono rfl) (State.bump_kept (hm.mono rfl) h8 (hm.has (k := 16) rfl)))
        · exact (State.dropNote_kept (hm.mono rfl) (State.bump_kept (hm.mono rfl) h8 (hm.has (k := 16) rfl)))
        · exact (State.dropNote_kept (hm.mono rfl) (State.bump_kept (hm.mono rfl) h8 (hm.has (k := 16) rfl)))
        · exact (State.deliver_kept (hm.mono rfl) h8)))))

theorem State.laneCtl_kept {M : Nat} {s0 : State} {p0 : State} {p1 : Nat} {p2 : LaneCtl} (hm : Msub 5196170991893379036526524871282832 M) (h0_ : Kept M s0 p0) :
    Kept M s0 (@State.laneCtl p0 p1 p2) := by
  unfold State.laneCtl
  split
  · split
    · exact (Kept.ite (Kept.ite (State.copperAdmit_kept (hm.mono rfl) h0_) (by
        split
        · exact (State.ringAdmit_kept (hm.mono rfl) h0_)
        · exact h0_)) h0_)
    · exact h0_
  · split
    · exact (State.laneFailTo_kept (hm.mono rfl) h0_)
    · exact h0_
  · split
    · exact (State.laneFailTo_kept (hm.mono rfl) h0_)
    · exact (State.laneFailTo_kept (hm.mono rfl) h0_)
    · exact h0_
  · split
    · exact (Kept.ite (State.declare__kept (hm.mono rfl) h0_) (Kept.ite h0_ (State.modRing_kept (hm.mono rfl) h0_)))
    · exact h0_
  · split
    · split
      · extract_lets -underBinder -merge v25
        have h26 : Kept M s0 v25 := (State.modRing_kept (hm.mono rfl) (State.setRingF_kept (hm.mono rfl) h0_))
        try clear_value v25
        exact (Kept.ite (State.bundleSync_kept (hm.mono rfl) (State.event_kept (hm.mono rfl) h26)) h0_)
      · exact h0_
    · exact h0_

theorem State.ctlReleased_kept {M : Nat} {s0 : State} {p0 : State} {p1 : Nat} {p2 : Nat} {p3 : LaneCtl} (hm : Msub 5196170991893379036526524871282832 M) (h0_ : Kept M s0 p0) :
    Kept M s0 (@State.ctlReleased p0 p1 p2 p3) := by
  unfold State.ctlReleased
  extract_lets -underBinder -merge v1 v2
  try clear_value v1
  try clear_value v2
  exact (Kept.ite h0_ (Kept.ite (State.setBundle_kept (hm.mono rfl) h0_) (State.laneCtl_kept (hm.mono rfl) h0_)))

theorem State.ctlDue_kept {M : Nat} {s0 : State} {p0 : State} {p1 : Nat} (hm : Msub 5196170991893379036526524871282832 M) (h0_ : Kept M s0 p0) :
    Kept M s0 (@State.ctlDue p0 p1) := by
  unfold State.ctlDue
  extract_lets -underBinder -merge v1
  try clear_value v1
  split
  · exact (Kept.ite h0_ (Kept.each (State.setBundle_kept (hm.mono rfl) h0_) (fun x4 x5 h6 =>
      (State.laneCtl_kept (hm.mono rfl) h6))))

theorem State.released_kept {M : Nat} {s0 : State} {p0 : State} {p1 : Nat} {p2 : Nat} {p3 : Flit} (hm : Msub 78775356259529322567139961509850487193599 M) (h0_ : Kept M s0 p0) :
    Kept M s0 (@State.released p0 p1 p2 p3) := by
  unfold State.released
  extract_lets -underBinder -merge v1 v2 v3 v4 v5
  try clear_value v1
  try clear_value v2
  have h6 : Kept M s0 v3 := (State.setBundle_kept (hm.mono rfl) h0_)
  try clear_value v3
  try clear_value v4
  try clear_value v5
  exact (Kept.ite (Kept.ite (State.accept_kept (hm.mono rfl) h6) (State.routeOut_kept (hm.mono rfl) (Kept.upd_mod_ (hm.mono rfl) h6))) (Kept.ite (State.routeOut_kept (hm.mono rfl) h0_) (by
    split
    · extract_lets -underBinder -merge v8
      try clear_value v8
      exact (State.setBundle_kept (hm.mono rfl) h0_)
    · exact (State.yoyoRx_kept (hm.mono rfl) h0_)
    · exact (State.ctlReleased_kept (hm.mono rfl) h0_)
    · exact h0_)))

theorem State.releaseAll_kept {M : Nat} {s0 : State} {b k : Nat} {s : State} (hm : Msub 78775356259529322567139961509850487193599 M) (h : Kept M s0 s) :
    Kept M s0 (State.releaseAll b k s) := by
  induction k generalizing s with
  | zero => exact h
  | succ k ih =>
    unfold State.releaseAll
    extract_lets
    split
    · exact h
    · split
      · exact h
      · exact ih (State.ctlDue_kept (hm.mono rfl) (State.released_kept (hm.mono rfl) (State.setBundle_kept (hm.mono rfl) h)))

theorem State.seqRx_kept {M : Nat} {s0 : State} {p0 : State} {p1 : Nat} {p2 : Nat} {p3 : Flit} (hm : Msub 78775356259529322567139961509850487193599 M) (h0_ : Kept M s0 p0) :
    Kept M s0 (@State.seqRx p0 p1 p2 p3) := by
  unfold State.seqRx
  extract_lets -underBinder -merge v1 v2
  try clear_value v1
  try clear_value v2
  exact (Kept.ite (State.bump_kept (hm.mono rfl) (State.setBundle_kept (hm.mono rfl) h0_) (hm.has (k := 38) rfl)) (by
    split
    · extract_lets -underBinder -merge v5 v6 v7
      have h8 : Kept M s0 v5 := (State.bumpBy_kept (hm.mono rfl) (Kept.upd_ports (hm.mono rfl) h0_) (hm.has (k := 38) rfl))
      try clear_value v5
      have h9 : Kept M s0 v6 := (State.setBundle_kept (hm.mono rfl) h8)
      try clear_value v6
      have h12 : Kept M s0 v7 := by
        try dsimp -zeta only [v7]
        split
        · exact (Kept.ite (State.laneCtl_kept (hm.mono rfl) h9) h9)
        · exact h9
      try clear_value v7
      exact (State.releaseAll_kept (hm.mono rfl) h12)))

theorem State.bundleHears_kept {M : Nat} {s0 : State} {p0 : State} {p1 : Nat} (hm : Msub 5196110332831454052821861436297360 M) (h0_ : Kept M s0 p0) :
    Kept M s0 (@State.bundleHears p0 p1) := by
  unfold State.bundleHears
  exact (Kept.ite (State.bundleSync_kept (hm.mono rfl) (State.heard_kept (hm.mono rfl) h0_)) (State.heard_kept (hm.mono rfl) h0_))

theorem State.rxFlit_kept {M : Nat} {s0 : State} {p0 : State} {p1 : Nat} {p2 : Nat} {p3 : RxObs} {p4 : Flit} {p5 : optParam Nat 0} (hm : Msub 78775356259529322567139961509850487193599 M) (h0_ : Kept M s0 p0) :
    Kept M s0 (@State.rxFlit p0 p1 p2 p3 p4 p5) := by
  unfold State.rxFlit
  exact (Kept.ite h0_ (Kept.ite (State.bump_kept (hm.mono rfl) h0_ (hm.has (k := 38) rfl)) (by
    split
    · exact (State.trainRx_kept (hm.mono rfl) h0_)
    · extract_lets -underBinder -merge v3 v4
      try clear_value v3
      have h5 : Kept M s0 v4 := (State.bundleHears_kept (hm.mono rfl) h0_)
      try clear_value v4
      exact (Kept.ite h0_ (Kept.ite (State.misdelivered_kept (hm.mono rfl) h0_) (by
        split
        · exact (State.idleRx_kept (hm.mono rfl) h5)
        · exact (Kept.each h5 (fun x8 x9 h10 =>
            (State.ackUpTo_kept (hm.mono rfl) h10)))
        · exact (Kept.each h5 (fun x12 x13 h14 =>
            (State.replayFrom_kept (hm.mono rfl) h14)))
        · exact (State.heartbeatRx_kept (hm.mono rfl) h5)
        · exact (State.timeRx_kept (hm.mono rfl) h5)
        · exact (State.seqRx_kept (hm.mono rfl) h5)))))))

theorem execFlitWr_kept {M : Nat} {s0 : State} {p0 : Nat} {p1 : Nat} {p2 : RxObs} {p3 : FlitHdr} {p4 : Nat} {p5 : List Sys2Proof.Byte} {p6 : State} (hm : Msub 78775356259529322567139961509850487193599 M) (h6_ : Kept M s0 p6) :
    KeptO M s0 (@execFlitWr p0 p1 p2 p3 p4 p5 p6) := by
  unfold execFlitWr
  exact (KeptO.next (State.rxFlit_kept (hm.mono rfl) h6_))

theorem execFlitRdReq_kept {M : Nat} {s0 : State} {p0 : Nat} {p1 : Nat} {p2 : RxObs} {p3 : FlitHdr} {p4 : Nat} {p5 : Nat} {p6 : Nat} {p7 : State} (hm : Msub 78775356259529322567139961509850487193599 M) (h7_ : Kept M s0 p7) :
    KeptO M s0 (@execFlitRdReq p0 p1 p2 p3 p4 p5 p6 p7) := by
  unfold execFlitRdReq
  exact (KeptO.next (State.rxFlit_kept (hm.mono rfl) h7_))

theorem execFlitRdRsp_kept {M : Nat} {s0 : State} {p0 : Nat} {p1 : Nat} {p2 : RxObs} {p3 : FlitHdr} {p4 : Nat} {p5 : Nat} {p6 : List Sys2Proof.Byte} {p7 : State} (hm : Msub 78775356259529322567139961509850487193599 M) (h7_ : Kept M s0 p7) :
    KeptO M s0 (@execFlitRdRsp p0 p1 p2 p3 p4 p5 p6 p7) := by
  unfold execFlitRdRsp
  exact (KeptO.next (State.rxFlit_kept (hm.mono rfl) h7_))

theorem execFlitSig_kept {M : Nat} {s0 : State} {p0 : Nat} {p1 : Nat} {p2 : RxObs} {p3 : FlitHdr} {p4 : Nat} {p5 : Nat} {p6 : Bool} {p7 : State} (hm : Msub 78775356259529322567139961509850487193599 M) (h7_ : Kept M s0 p7) :
    KeptO M s0 (@execFlitSig p0 p1 p2 p3 p4 p5 p6 p7) := by
  unfold execFlitSig
  exact (KeptO.next (State.rxFlit_kept (hm.mono rfl) h7_))

theorem execFlitAckE2e_kept {M : Nat} {s0 : State} {p0 : Nat} {p1 : Nat} {p2 : RxObs} {p3 : FlitHdr} {p4 : Nat} {p5 : Nat} {p6 : State} (hm : Msub 78775356259529322567139961509850487193599 M) (h6_ : Kept M s0 p6) :
    KeptO M s0 (@execFlitAckE2e p0 p1 p2 p3 p4 p5 p6) := by
  unfold execFlitAckE2e
  exact (KeptO.next (State.rxFlit_kept (hm.mono rfl) h6_))

theorem execFlitCollData_kept {M : Nat} {s0 : State} {p0 : Nat} {p1 : Nat} {p2 : RxObs} {p3 : FlitHdr} {p4 : CollHdr} {p5 : List Sys2Proof.Byte} {p6 : State} (hm : Msub 78775356259529322567139961509850487193599 M) (h6_ : Kept M s0 p6) :
    KeptO M s0 (@execFlitCollData p0 p1 p2 p3 p4 p5 p6) := by
  unfold execFlitCollData
  exact (KeptO.next (State.rxFlit_kept (hm.mono rfl) h6_))

theorem execFlitCollCredit_kept {M : Nat} {s0 : State} {p0 : Nat} {p1 : Nat} {p2 : RxObs} {p3 : FlitHdr} {p4 : Nat} {p5 : Nat} {p6 : Nat} {p7 : State} (hm : Msub 78775356259529322567139961509850487193599 M) (h7_ : Kept M s0 p7) :
    KeptO M s0 (@execFlitCollCredit p0 p1 p2 p3 p4 p5 p6 p7) := by
  unfold execFlitCollCredit
  exact (KeptO.next (State.rxFlit_kept (hm.mono rfl) h7_))

theorem execFlitCollAbort_kept {M : Nat} {s0 : State} {p0 : Nat} {p1 : Nat} {p2 : RxObs} {p3 : FlitHdr} {p4 : Nat} {p5 : Nat} {p6 : List Nat} {p7 : State} (hm : Msub 78775356259529322567139961509850487193599 M) (h7_ : Kept M s0 p7) :
    KeptO M s0 (@execFlitCollAbort p0 p1 p2 p3 p4 p5 p6 p7) := by
  unfold execFlitCollAbort
  exact (KeptO.next (State.rxFlit_kept (hm.mono rfl) h7_))

theorem execFlitMgmt_kept {M : Nat} {s0 : State} {p0 : Nat} {p1 : Nat} {p2 : RxObs} {p3 : FlitHdr} {p4 : MgMsg} {p5 : State} (hm : Msub 78775356259529322567139961509850487193599 M) (h5_ : Kept M s0 p5) :
    KeptO M s0 (@execFlitMgmt p0 p1 p2 p3 p4 p5) := by
  unfold execFlitMgmt
  exact (KeptO.next (State.rxFlit_kept (hm.mono rfl) h5_))

theorem execFlitResume_kept {M : Nat} {s0 : State} {p0 : Nat} {p1 : Nat} {p2 : RxObs} {p3 : FlitHdr} {p4 : Nat} {p5 : Nat} {p6 : Bool} {p7 : State} (hm : Msub 78775356259529322567139961509850487193599 M) (h7_ : Kept M s0 p7) :
    KeptO M s0 (@execFlitResume p0 p1 p2 p3 p4 p5 p6 p7) := by
  unfold execFlitResume
  exact (KeptO.next (State.rxFlit_kept (hm.mono rfl) h7_))

theorem execFlitIdle_kept {M : Nat} {s0 : State} {p0 : Nat} {p1 : Nat} {p2 : RxObs} {p3 : FlitHdr} {p4 : State} (hm : Msub 78775356259529322567139961509850487193599 M) (h4_ : Kept M s0 p4) :
    KeptO M s0 (@execFlitIdle p0 p1 p2 p3 p4) := by
  unfold execFlitIdle
  exact (KeptO.next (State.rxFlit_kept (hm.mono rfl) h4_))

theorem execFlitAck_kept {M : Nat} {s0 : State} {p0 : Nat} {p1 : Nat} {p2 : RxObs} {p3 : FlitHdr} {p4 : List (Nat × Nat)} {p5 : State} (hm : Msub 78775356259529322567139961509850487193599 M) (h5_ : Kept M s0 p5) :
    KeptO M s0 (@execFlitAck p0 p1 p2 p3 p4 p5) := by
  unfold execFlitAck
  exact (KeptO.next (State.rxFlit_kept (hm.mono rfl) h5_))

theorem execFlitNak_kept {M : Nat} {s0 : State} {p0 : Nat} {p1 : Nat} {p2 : RxObs} {p3 : FlitHdr} {p4 : List (Nat × Nat)} {p5 : State} (hm : Msub 78775356259529322567139961509850487193599 M) (h5_ : Kept M s0 p5) :
    KeptO M s0 (@execFlitNak p0 p1 p2 p3 p4 p5) := by
  unfold execFlitNak
  exact (KeptO.next (State.rxFlit_kept (hm.mono rfl) h5_))

theorem execFlitCredit_kept {M : Nat} {s0 : State} {p0 : Nat} {p1 : Nat} {p2 : RxObs} {p3 : FlitHdr} {p4 : List Nat} {p5 : State} (hm : Msub 78775356259529322567139961509850487193599 M) (h5_ : Kept M s0 p5) :
    KeptO M s0 (@execFlitCredit p0 p1 p2 p3 p4 p5) := by
  unfold execFlitCredit
  exact (KeptO.next (State.rxFlit_kept (hm.mono rfl) h5_))

theorem execFlitHeartbeat_kept {M : Nat} {s0 : State} {p0 : Nat} {p1 : Nat} {p2 : RxObs} {p3 : FlitHdr} {p4 : Nat} {p5 : Nat} {p6 : Nat} {p7 : Nat} {p8 : Nat} {p9 : Nat} {p10 : State} (hm : Msub 78775356259529322567139961509850487193599 M) (h10_ : Kept M s0 p10) :
    KeptO M s0 (@execFlitHeartbeat p0 p1 p2 p3 p4 p5 p6 p7 p8 p9 p10) := by
  unfold execFlitHeartbeat
  exact (KeptO.next (State.rxFlit_kept (hm.mono rfl) h10_))

theorem execFlitYoyo_kept {M : Nat} {s0 : State} {p0 : Nat} {p1 : Nat} {p2 : RxObs} {p3 : FlitHdr} {p4 : Yoyo} {p5 : State} (hm : Msub 78775356259529322567139961509850487193599 M) (h5_ : Kept M s0 p5) :
    KeptO M s0 (@execFlitYoyo p0 p1 p2 p3 p4 p5) := by
  unfold execFlitYoyo
  exact (KeptO.next (State.rxFlit_kept (hm.mono rfl) h5_))

theorem execFlitTime_kept {M : Nat} {s0 : State} {p0 : Nat} {p1 : Nat} {p2 : RxObs} {p3 : FlitHdr} {p4 : TimeMsg} {p5 : Nat} {p6 : State} (hm : Msub 78775356259529322567139961509850487193599 M) (h6_ : Kept M s0 p6) :
    KeptO M s0 (@execFlitTime p0 p1 p2 p3 p4 p5 p6) := by
  unfold execFlitTime
  exact (KeptO.next (State.rxFlit_kept (hm.mono rfl) h6_))

theorem execFlitTrain_kept {M : Nat} {s0 : State} {p0 : Nat} {p1 : Nat} {p2 : RxObs} {p3 : FlitHdr} {p4 : TrainMsg} {p5 : Nat} {p6 : State} (hm : Msub 78775356259529322567139961509850487193599 M) (h6_ : Kept M s0 p6) :
    KeptO M s0 (@execFlitTrain p0 p1 p2 p3 p4 p5 p6) := by
  unfold execFlitTrain
  exact (KeptO.next (State.rxFlit_kept (hm.mono rfl) h6_))

theorem execLaneCtrlAdd_kept {M : Nat} {s0 : State} {p0 : Nat} {p1 : Nat} {p2 : RxObs} {p3 : FlitHdr} {p4 : Nat} {p5 : Nat} {p6 : Nat} {p7 : Nat} {p8 : State} (hm : Msub 78775356259529322567139961509850487193599 M) (h8_ : Kept M s0 p8) :
    KeptO M s0 (@execLaneCtrlAdd p0 p1 p2 p3 p4 p5 p6 p7 p8) := by
  unfold execLaneCtrlAdd
  exact (KeptO.next (State.rxFlit_kept (hm.mono rfl) h8_))

theorem execLaneCtrlRemove_kept {M : Nat} {s0 : State} {p0 : Nat} {p1 : Nat} {p2 : RxObs} {p3 : FlitHdr} {p4 : Nat} {p5 : Nat} {p6 : Nat} {p7 : Nat} {p8 : State} (hm : Msub 78775356259529322567139961509850487193599 M) (h8_ : Kept M s0 p8) :
    KeptO M s0 (@execLaneCtrlRemove p0 p1 p2 p3 p4 p5 p6 p7 p8) := by
  unfold execLaneCtrlRemove
  exact (KeptO.next (State.rxFlit_kept (hm.mono rfl) h8_))

theorem execLaneCtrlReplace_kept {M : Nat} {s0 : State} {p0 : Nat} {p1 : Nat} {p2 : RxObs} {p3 : FlitHdr} {p4 : Nat} {p5 : Nat} {p6 : Nat} {p7 : Nat} {p8 : Nat} {p9 : State} (hm : Msub 78775356259529322567139961509850487193599 M) (h9_ : Kept M s0 p9) :
    KeptO M s0 (@execLaneCtrlReplace p0 p1 p2 p3 p4 p5 p6 p7 p8 p9) := by
  unfold execLaneCtrlReplace
  exact (KeptO.next (State.rxFlit_kept (hm.mono rfl) h9_))

theorem execRingNotice_kept {M : Nat} {s0 : State} {p0 : Nat} {p1 : Nat} {p2 : RxObs} {p3 : FlitHdr} {p4 : Nat} {p5 : Nat} {p6 : Nat} {p7 : State} (hm : Msub 78775356259529322567139961509850487193599 M) (h7_ : Kept M s0 p7) :
    KeptO M s0 (@execRingNotice p0 p1 p2 p3 p4 p5 p6 p7) := by
  unfold execRingNotice
  exact (KeptO.next (State.rxFlit_kept (hm.mono rfl) h7_))

theorem execRingAligned_kept {M : Nat} {s0 : State} {p0 : Nat} {p1 : Nat} {p2 : RxObs} {p3 : FlitHdr} {p4 : Nat} {p5 : Nat} {p6 : State} (hm : Msub 78775356259529322567139961509850487193599 M) (h6_ : Kept M s0 p6) :
    KeptO M s0 (@execRingAligned p0 p1 p2 p3 p4 p5 p6) := by
  unfold execRingAligned
  exact (KeptO.next (State.rxFlit_kept (hm.mono rfl) h6_))

end Sys2Proof.Machine
end

