-- ==== Sys2Proof/Laws/FrameTick.lean ====
section
/-! SUPPORT. What the operations and meanings of Machine/Tick.lean can change: one frame lemma per definition. -/
namespace Sys2Proof.Machine

theorem State.satMap_kept {M : Nat} {s0 : State} {p0 : State} {p1 : Page} {p2 : Nat} {p3 : Bool} (hm : Msub 0 M) (h0_ : Kept M s0 p0) (hp1 : M.testBit p1.kind = true) :
    Kept M s0 (@State.satMap p0 p1 p2 p3) := by
  unfold State.satMap
  extract_lets -underBinder -merge v1
  split
  · exact (State.setFld_kept (hm.mono rfl) h0_ hp1)
  · extract_lets -underBinder -merge v7
    have h8 : Kept M s0 v7 := by
      try dsimp -zeta only [v7]
      exact (State.setFld_kept (hm.mono rfl) h0_ hp1)
    try clear_value v7
    exact (State.setFld_kept (hm.mono rfl) h8 hp1)
  · exact (Kept.ite (State.setFld_kept (hm.mono rfl) h0_ hp1) (State.setFld_kept (hm.mono rfl) h0_ hp1))
  · rename_i x10
    exact h0_

theorem State.unitCount_kept {M : Nat} {s0 : State} {p0 : State} {p1 : Page} {p2 : Nat} {p3 : Nat} {p4 : Nat} {p5 : Nat} {p6 : Nat} (hm : Msub 43556142965880123323311949751266331066368 M) (h0_ : Kept M s0 p0) (hp1 : M.testBit p1.kind = true) :
    Kept M s0 (@State.unitCount p0 p1 p2 p3 p4 p5 p6) := by
  unfold State.unitCount
  extract_lets -underBinder -merge v1 v2
  try clear_value v1
  try clear_value v2
  exact (State.bumpBy_kept (hm.mono rfl) (Kept.upd_portCnt (hm.mono rfl) h0_) hp1)

theorem State.portEdge_kept {M : Nat} {s0 : State} {p0 : State} {p1 : Page} {p2 : Nat} {p3 : Nat} {p4 : List Nat} (hm : Msub 43556148158176981863747388480170363981968 M) (h0_ : Kept M s0 p0) (hp1 : M.testBit p1.kind = true) :
    Kept M s0 (@State.portEdge p0 p1 p2 p3 p4) := by
  unfold State.portEdge
  split
  · exact h0_
  · extract_lets -underBinder -merge v3 v4 v5 v6 v7 v8 v9 v10 v11 v12 v13
    try clear_value v3
    try clear_value v4
    try clear_value v5
    try clear_value v6
    try clear_value v7
    try clear_value v8
    try clear_value v9
    try clear_value v10
    have h14 : Kept M s0 v11 := (State.setFld_kept (hm.mono rfl) h0_ hp1)
    try clear_value v11
    have h15 : Kept M s0 v12 := (State.unitCount_kept (hm.mono rfl) h14 hp1)
    try clear_value v12
    have h20 : Kept M s0 v13 := (Kept.each h15 (fun x16 x17 h18 =>
      (by
        extract_lets -underBinder -merge v19
        try clear_value v19
        exact (State.unitCount_kept (hm.mono rfl) (State.setFld_kept (hm.mono rfl) h18 hp1) hp1))))
    try clear_value v13
    exact (Kept.ite h20 (State.event_kept (hm.mono rfl) (State.satMap_kept (hm.mono rfl) h20 hp1)))

theorem State.portsEdge_kept {M : Nat} {s0 : State} {p0 : State} {p1 : TickObs} (hm : Msub 43556148158176981863765835224244073529343 M) (h0_ : Kept M s0 p0) :
    Kept M s0 (@State.portsEdge p0 p1) := by
  unfold State.portsEdge
  extract_lets -underBinder -merge v1 v2 v3 v4 v5 v6
  try clear_value v1
  try clear_value v2
  try clear_value v3
  have h13 : Kept M s0 v5 := (Kept.each h0_ (fun x7 x8 h9 =>
    (by
      split
      · rename_i x10 e11
        exact (State.portEdge_kept (hm.mono rfl) h9 (Msub.all hm rfl _ (Page.kind_lt _)))
      · exact h9)))
  try clear_value v5
  have h20 : Kept M s0 v6 := (Kept.each h13 (fun x14 x15 h16 =>
    (by
      split
      · rename_i x17 e18
        exact (State.portEdge_kept (hm.mono rfl) h16 (Msub.all hm rfl _ (Page.kind_lt _)))
      · exact h16)))
  try clear_value v6
  exact (Kept.each h20 (fun x21 x22 h23 =>
    (State.bumpBy_kept (hm.mono rfl) h23 (hm.has (k := 30) rfl))))

theorem State.coreEdge_kept {M : Nat} {s0 : State} {p0 : State} {p1 : TickObs} {p2 : Nat} {p3 : Nat} (hm : Msub 5070602400912917605987349692416 M) (h0_ : Kept M s0 p0) :
    Kept M s0 (@State.coreEdge p0 p1 p2 p3) := by
  unfold State.coreEdge
  extract_lets -underBinder -merge v1 v2 v3 v4 v5 v6 v7 v8 v9 v10 v11 v12 v13 v14
  try clear_value v1
  try clear_value v2
  try clear_value v3
  try clear_value v5
  try clear_value v6
  try clear_value v7
  try clear_value v8
  have h15 : Kept M s0 v9 := (State.setFld_kept (hm.mono rfl) h0_ (hm.has (k := 29) rfl))
  try clear_value v9
  have h16 : Kept M s0 v10 := (State.setFld_kept (hm.mono rfl) h15 (hm.has (k := 29) rfl))
  try clear_value v10
  have h17 : Kept M s0 v11 := (State.setFld_kept (hm.mono rfl) h16 (hm.has (k := 29) rfl))
  try clear_value v11
  have h18 : Kept M s0 v12 := (State.setFld_kept (hm.mono rfl) h17 (hm.has (k := 29) rfl))
  try clear_value v12
  have h19 : Kept M s0 v13 := (State.setFld_kept (hm.mono rfl) h18 (hm.has (k := 29) rfl))
  try clear_value v13
  have h20 : Kept M s0 v14 := (State.bumpBy_kept (hm.mono rfl) h19 (hm.has (k := 29) rfl))
  try clear_value v14
  exact (Kept.upd_cores (hm.mono rfl) h20)

theorem State.nmuEdge_kept {M : Nat} {s0 : State} {p0 : State} {p1 : List Nat} (hm : Msub 77371252455336301540933632 M) (h0_ : Kept M s0 p0) :
    Kept M s0 (@State.nmuEdge p0 p1) := by
  unfold State.nmuEdge
  exact (Kept.each h0_ (fun x1 x2 h3 =>
    (by
      extract_lets -underBinder -merge v4
      try clear_value v4
      exact (State.setNmu_kept (hm.mono rfl) h3))))

theorem State.steersEdge_kept {M : Nat} {s0 : State} {p0 : State} {p1 : Nat} {p2 : Nat} (hm : Msub 1237940039285521012387479552 M) (h0_ : Kept M s0 p0) :
    Kept M s0 (@State.steersEdge p0 p1 p2) := by
  unfold State.steersEdge
  extract_lets -underBinder -merge v1 v2 v3 v4 v5
  try clear_value v1
  try clear_value v2
  try clear_value v3
  have h6 : Kept M s0 v4 := (State.setFld_kept (hm.mono rfl) h0_ (hm.has (k := 47) rfl))
  try clear_value v4
  have h7 : Kept M s0 v5 := (State.bumpBy_kept (hm.mono rfl) h6 (hm.has (k := 47) rfl))
  try clear_value v5
  exact (State.modLane_kept (hm.mono rfl) h7)

theorem State.laneEdge_kept {M : Nat} {s0 : State} {p0 : State} {p1 : TickObs} {p2 : Nat} {p3 : Nat} (hm : Msub 43556148162051115216690986278890713976976 M) (h0_ : Kept M s0 p0) :
    Kept M s0 (@State.laneEdge p0 p1 p2 p3) := by
  unfold State.laneEdge
  extract_lets -underBinder -merge v1 v2 v3 v4 v5 v6 v7 v8 v9 v10
  try clear_value v1
  try clear_value v2
  have h11 : Kept M s0 v3 := (State.setFld_kept (hm.mono rfl) h0_ (hm.has (k := 39) rfl))
  try clear_value v3
  have h12 : Kept M s0 v4 := (State.setFld_kept (hm.mono rfl) h11 (hm.has (k := 39) rfl))
  try clear_value v4
  have h13 : Kept M s0 v5 := (State.bumpBy_kept (hm.mono rfl) (State.unitCount_kept (hm.mono rfl) h12 (hm.has (k := 39) rfl)) (hm.has (k := 39) rfl))
  try clear_value v5
  have h16 : Kept M s0 v6 := by
    try dsimp -zeta only [v6]
    split
    · exact (State.laneFigures_kept (hm.mono rfl) h13)
    · exact h13
  try clear_value v6
  try clear_value v7
  have h17 : Kept M s0 v8 := (State.modLane_kept (hm.mono rfl) h16)
  try clear_value v8
  have h18 : Kept M s0 v9 := (Kept.ite h17 (State.steersEdge_kept (hm.mono rfl) h17))
  try clear_value v9
  try clear_value v10
  exact (Kept.ite (State.laneFault_kept (hm.mono rfl) h18) (Kept.ite (State.laneFault_kept (hm.mono rfl) (State.modLane_kept (hm.mono rfl) h18)) h18))

theorem State.powerEdge_kept {M : Nat} {s0 : State} {p0 : State} {p1 : TickObs} (hm : Msub 5192296858541616030349621712654480 M) (h0_ : Kept M s0 p0) :
    Kept M s0 (@State.powerEdge p0 p1) := by
  unfold State.powerEdge
  extract_lets -underBinder -merge v1 v2 v3 v4 v5 v6 v7 v8 v9 v10 v11
  have h12 : Kept M s0 v1 := (State.setFld_kept (hm.mono rfl) (State.setFld_kept (hm.mono rfl) h0_ (hm.has (k := 28) rfl)) (hm.has (k := 28) rfl))
  try clear_value v1
  have h13 : Kept M s0 v2 := (State.setFld_kept (hm.mono rfl) h12 (hm.has (k := 28) rfl))
  try clear_value v2
  have h14 : Kept M s0 v3 := (State.setFld_kept (hm.mono rfl) (State.setFld_kept (hm.mono rfl) h13 (hm.has (k := 28) rfl)) (hm.has (k := 28) rfl))
  try clear_value v3
  try clear_value v4
  have h15 : Kept M s0 v5 := (State.bumpBy_kept (hm.mono rfl) h14 (hm.has (k := 28) rfl))
  try clear_value v5
  have h19 : Kept M s0 v6 := (Kept.each h15 (fun x16 x17 h18 =>
    (State.setFld_kept (hm.mono rfl) (State.setFld_kept (hm.mono rfl) h18 (hm.has (k := 28) rfl)) (hm.has (k := 28) rfl))))
  try clear_value v6
  have h20 : Kept M s0 v7 := (State.setFld_kept (hm.mono rfl) h19 (hm.has (k := 28) rfl))
  try clear_value v7
  have h24 : Kept M s0 v8 := (Kept.each h20 (fun x21 x22 h23 =>
    (State.sensor_kept (hm.mono rfl) h23)))
  try clear_value v8
  try clear_value v9
  try clear_value v10
  have h25 : Kept M s0 v11 := (Kept.upd_mod_ (hm.mono rfl) h24)
  try clear_value v11
  exact (Kept.ite (State.bump_kept (hm.mono rfl) h25 (hm.has (k := 28) rfl)) h25)

theorem State.opticsEdge_kept {M : Nat} {s0 : State} {p0 : State} {p1 : TickObs} (hm : Msub 5196173467773457607340950739292304 M) (h0_ : Kept M s0 p0) :
    Kept M s0 (@State.opticsEdge p0 p1) := by
  unfold State.opticsEdge
  extract_lets -underBinder -merge v1 v2 v3 v4
  have h8 : Kept M s0 v1 := (Kept.each h0_ (fun x5 x6 h7 =>
    (State.engTemp_kept (hm.mono rfl) h7)))
  try clear_value v1
  have h12 : Kept M s0 v2 := (Kept.each h8 (fun x9 x10 h11 =>
    (State.calEdge_kept (hm.mono rfl) (State.ringsEdge_kept (hm.mono rfl) (State.switchDefer_kept (hm.mono rfl) (State.laserEdge_kept (hm.mono rfl) h11))))))
  try clear_value v2
  have h16 : Kept M s0 v3 := (Kept.each h12 (fun x13 x14 h15 =>
    (Kept.ite (State.monRun_kept (hm.mono rfl) h15) h15)))
  try clear_value v3
  have h17 : Kept M s0 v4 := (State.rxMargins_kept (hm.mono rfl) h16)
  try clear_value v4
  split
  · exact (State.trimEdge_kept (hm.mono rfl) h17)
  · exact h17

theorem State.heartbeat_kept {M : Nat} {s0 : State} {p0 : State} {p1 : Nat} {p2 : Nat} {p3 : Nat} {p4 : Nat} (hm : Msub 295147905179352825856 M) (h0_ : Kept M s0 p0) :
    Kept M s0 (@State.heartbeat p0 p1 p2 p3 p4) := by
  unfold State.heartbeat
  exact (State.emit_kept (hm.mono rfl) h0_)

theorem State.heartbeats_kept {M : Nat} {s0 : State} {p0 : State} (hm : Msub 295147905179352825856 M) (h0_ : Kept M s0 p0) :
    Kept M s0 (@State.heartbeats p0) := by
  unfold State.heartbeats
  extract_lets -underBinder -merge v1
  have h8 : Kept M s0 v1 := (Kept.each h0_ (fun x2 x3 h4 =>
    (Kept.each h4 (fun x5 x6 h7 =>
      (Kept.ite (State.heartbeat_kept (hm.mono rfl) h7) h7)))))
  try clear_value v1
  exact (Kept.each h8 (fun x9 x10 h11 =>
    (Kept.each h11 (fun x12 x13 h14 =>
      (by
        extract_lets -underBinder -merge v15 v16
        try clear_value v15
        try clear_value v16
        exact (Kept.ite (State.heartbeat_kept (hm.mono rfl) h14) h14))))))

theorem State.measureEdge_kept {M : Nat} {s0 : State} {p0 : State} {p1 : TickObs} (hm : Msub 43556148167124270870133968118062086356991 M) (h0_ : Kept M s0 p0) :
    Kept M s0 (@State.measureEdge p0 p1) := by
  unfold State.measureEdge
  extract_lets -underBinder -merge v1 v2 v3 v4 v5 v6 v7
  have h8 : Kept M s0 v1 := (State.bumpBy_kept (hm.mono rfl) h0_ (hm.has (k := 12) rfl))
  try clear_value v1
  try clear_value v2
  have h9 : Kept M s0 v3 := (Kept.ite h0_ (Kept.upd_flip (hm.mono rfl) h8))
  try clear_value v3
  have h10 : Kept M s0 v4 := (State.portsEdge_kept (hm.mono rfl) (State.powerEdge_kept (hm.mono rfl) h9))
  try clear_value v4
  have h17 : Kept M s0 v5 := (Kept.each h10 (fun x11 x12 h13 =>
    (Kept.each h13 (fun x14 x15 h16 =>
      (State.coreEdge_kept (hm.mono rfl) h16)))))
  try clear_value v5
  have h18 : Kept M s0 v6 := (State.nmuEdge_kept (hm.mono rfl) h17)
  try clear_value v6
  have h25 : Kept M s0 v7 := (Kept.each h18 (fun x19 x20 h21 =>
    (Kept.each h21 (fun x22 x23 h24 =>
      (State.laneEdge_kept (hm.mono rfl) h24)))))
  try clear_value v7
  exact (State.opticsEdge_kept (hm.mono rfl) h25)

theorem State.actEdge_kept {M : Nat} {s0 : State} {p0 : State} (hm : Msub 32801105289634599150975587389204269629439 M) (h0_ : Kept M s0 p0) :
    Kept M s0 (@State.actEdge p0) := by
  unfold State.actEdge
  extract_lets -underBinder -merge v1 v2 v3 v4 v5 v6
  have h7 : Kept M s0 v1 := (Kept.ite (State.planActivate_kept (hm.mono rfl) h0_) h0_)
  try clear_value v1
  have h11 : Kept M s0 v2 := (Kept.each h7 (fun x8 x9 h10 =>
    (State.portStart_kept (hm.mono rfl) h10)))
  try clear_value v2
  have h12 : Kept M s0 v3 := (State.partRunEdge_kept (hm.mono rfl) (State.epochEdge_kept (hm.mono rfl) (State.retrainEdge_kept (hm.mono rfl) (State.heldEdge_kept (hm.mono rfl) h11))))
  try clear_value v3
  have h16 : Kept M s0 v4 := (Kept.each h12 (fun x13 x14 h15 =>
    (State.partDrainEdge_kept (hm.mono rfl) h15)))
  try clear_value v4
  have h17 : Kept M s0 v5 := (State.launchScan_kept (hm.mono rfl) (State.lineEdge_kept (hm.mono rfl) (State.bindEdge_kept (hm.mono rfl) (State.ftEdge_kept (hm.mono rfl) h16))))
  try clear_value v5
  have h18 : Kept M s0 v6 := (State.foldWaitEdge_kept (hm.mono rfl) (State.tickwEdge_kept (hm.mono rfl) h17))
  try clear_value v6
  exact (Kept.each h18 (fun x19 x20 h21 =>
    (Kept.ite (State.stepActions_kept (hm.mono rfl) h21) h21)))

theorem State.sendEdge_kept {M : Nat} {s0 : State} {p0 : State} (hm : Msub 85204337757640420279472521604951519376 M) (h0_ : Kept M s0 p0) :
    Kept M s0 (@State.sendEdge p0) := by
  unfold State.sendEdge
  exact (State.collPumpAll_kept (hm.mono rfl) (State.flushAll_kept (hm.mono rfl) (State.timeSend_kept (hm.mono rfl) (State.yoyoEdge_kept (hm.mono rfl) (State.heartbeats_kept (hm.mono rfl) h0_)))))

theorem State.closeEdge_kept {M : Nat} {s0 : State} {p0 : State} (hm : Msub 6198106008766409342992 M) (h0_ : Kept M s0 p0) :
    Kept M s0 (@State.closeEdge p0) := by
  unfold State.closeEdge
  extract_lets -underBinder -merge v1
  try clear_value v1
  exact (State.streamRep_kept (hm.mono rfl) (Kept.upd_mod_ (hm.mono rfl) h0_))

theorem State.edgeWork_kept {M : Nat} {s0 : State} {p0 : State} {p1 : TickObs} (hm : Msub 81461736888910869484796871750578992054271 M) (h0_ : Kept M s0 p0) :
    Kept M s0 (@State.edgeWork p0 p1) := by
  unfold State.edgeWork
  exact (State.closeEdge_kept (hm.mono rfl) (State.fwEdge_kept (hm.mono rfl) (State.sendEdge_kept (hm.mono rfl) (State.actEdge_kept (hm.mono rfl) (State.measureEdge_kept (hm.mono rfl) (State.timeEdge_kept (hm.mono rfl) h0_))))))

theorem State.tickEdge_kept {M : Nat} {s0 s : State} {o : TickObs} (hm : Msub 81461736888910869484796871750578992054271 M) (h : Kept M s0 s) :
    Kept M s0 (s.tickEdge o) := by
  have h1 := State.timeAdvance_kept (hm.mono rfl) h
  unfold State.tickEdge
  split
  · exact State.edgeWork_kept (hm.mono rfl) h1
  · exact h1

theorem execTickEdge_kept {M : Nat} {s0 : State} {p0 : TickObs} {p1 : State} (hm : Msub 81461736888910869484796871750578992054271 M) (h1_ : Kept M s0 p1) :
    KeptO M s0 (@execTickEdge p0 p1) := by
  unfold execTickEdge
  exact (KeptO.next (Kept.ite (State.tickEdge_kept (hm.mono rfl) h1_) h1_))

end Sys2Proof.Machine
end

