-- ==== Sys2Proof/Laws/FrameVector.lean ====
section
/-! SUPPORT. What the operations and meanings of Machine/Vector.lean can change: one frame lemma per definition. -/
namespace Sys2Proof.Machine

theorem State.readSrcs_kept {M : Nat} {s0 : State} {p0 : State} {p1 : Nat} {p2 : Refs} (hm : Msub 5192296858540435438728921212784784 M) (h0_ : Kept M s0 p0) :
    Kept M s0 (@State.readSrcs p0 p1 p2).1 := by
  unfold State.readSrcs
  extract_lets -underBinder -merge v1 v2
  try clear_value v1
  split
  · rename_i x3 e4
    have Hx3 := Kept.fst e4 (by
      try dsimp -zeta only [v2]
      split
      · exact (Kept.pairMk h0_)
      · exact (State.readArr_kept (hm.mono rfl) h0_))
    exact (Kept.pairMk Hx3)
  · rename_i x7 x8 e9
    have Hx7 := Kept.fst e9 (by
      try dsimp -zeta only [v2]
      split
      · exact (Kept.pairMk h0_)
      · exact (State.readArr_kept (hm.mono rfl) h0_))
    split
    · rename_i x12 e13
      have Hx12 := Kept.fst e13 (by
        try dsimp -zeta only [v2]
        split
        · exact (Kept.pairMk Hx7)
        · exact (State.readArr_kept (hm.mono rfl) Hx7))
      exact (Kept.pairMk Hx12)
    · rename_i x16 x17 e18
      have Hx16 := Kept.fst e18 (by
        try dsimp -zeta only [v2]
        split
        · exact (Kept.pairMk Hx7)
        · exact (State.readArr_kept (hm.mono rfl) Hx7))
      split
      · rename_i x21 e22
        have Hx21 := Kept.fst e22 (by
          try dsimp -zeta only [v2]
          split
          · exact (Kept.pairMk Hx16)
          · exact (State.readArr_kept (hm.mono rfl) Hx16))
        exact (Kept.pairMk Hx21)
      · rename_i x25 x26 e27
        have Hx25 := Kept.fst e27 (by
          try dsimp -zeta only [v2]
          split
          · exact (Kept.pairMk Hx16)
          · exact (State.readArr_kept (hm.mono rfl) Hx16))
        exact (Kept.pairMk Hx25)

theorem State.vecIssue_kept {M : Nat} {s0 : State} {p0 : State} {p1 : Nat} {p2 : Desc} {p3 : Form} {p4 : Refs → Option DF} {p5 : Refs → Srcs → List Nat} (hm : Msub 32794718313186529631230554938558419906962 M) (h0_ : Kept M s0 p0) :
    Kept M s0 (@State.vecIssue p0 p1 p2 p3 p4 p5) := by
  unfold State.vecIssue
  exact (State.issue_kept (hm.mono rfl) h0_ (fun x1 x3 x4 h2 =>
    (by
      split
      · rename_i x5 x6 e7
        have Hx5 := Kept.fst e7 (State.readSrcs_kept (hm.mono rfl) h2)
        exact (Eff.bus_kept (hm.mono rfl) Hx5)
      · rename_i x8 x9 e10
        have Hx8 := Kept.fst e10 (State.readSrcs_kept (hm.mono rfl) h2)
        exact (Eff.plus_kept (hm.mono rfl) (Eff.ofOut_kept (State.writeOut_kept (hm.mono rfl) Hx8))))))

theorem State.unaryIssue_kept {M : Nat} {s0 : State} {p0 : State} {p1 : Nat} {p2 : Desc} {p3 : Nat} (hm : Msub 32794718313186529631230554938558419906962 M) (h0_ : Kept M s0 p0) :
    Kept M s0 (@State.unaryIssue p0 p1 p2 p3) := by
  unfold State.unaryIssue
  exact (State.vecIssue_kept (hm.mono rfl) h0_)

theorem execUnaryCopy_kept {M : Nat} {s0 : State} {p0 : Nat} {p1 : Desc} {p2 : State} (hm : Msub 32794718313186529631230554938558419906962 M) (h2_ : Kept M s0 p2) :
    KeptO M s0 (@execUnaryCopy p0 p1 p2) := by
  unfold execUnaryCopy
  exact (KeptO.next (State.unaryIssue_kept (hm.mono rfl) h2_))

theorem execUnaryNeg_kept {M : Nat} {s0 : State} {p0 : Nat} {p1 : Desc} {p2 : State} (hm : Msub 32794718313186529631230554938558419906962 M) (h2_ : Kept M s0 p2) :
    KeptO M s0 (@execUnaryNeg p0 p1 p2) := by
  unfold execUnaryNeg
  exact (KeptO.next (State.unaryIssue_kept (hm.mono rfl) h2_))

theorem execUnaryAbs_kept {M : Nat} {s0 : State} {p0 : Nat} {p1 : Desc} {p2 : State} (hm : Msub 32794718313186529631230554938558419906962 M) (h2_ : Kept M s0 p2) :
    KeptO M s0 (@execUnaryAbs p0 p1 p2) := by
  unfold execUnaryAbs
  exact (KeptO.next (State.unaryIssue_kept (hm.mono rfl) h2_))

theorem execUnaryRelu_kept {M : Nat} {s0 : State} {p0 : Nat} {p1 : Desc} {p2 : State} (hm : Msub 32794718313186529631230554938558419906962 M) (h2_ : Kept M s0 p2) :
    KeptO M s0 (@execUnaryRelu p0 p1 p2) := by
  unfold execUnaryRelu
  exact (KeptO.next (State.unaryIssue_kept (hm.mono rfl) h2_))

theorem execUnarySquare_kept {M : Nat} {s0 : State} {p0 : Nat} {p1 : Desc} {p2 : State} (hm : Msub 32794718313186529631230554938558419906962 M) (h2_ : Kept M s0 p2) :
    KeptO M s0 (@execUnarySquare p0 p1 p2) := by
  unfold execUnarySquare
  exact (KeptO.next (State.unaryIssue_kept (hm.mono rfl) h2_))

theorem execUnaryRecip_kept {M : Nat} {s0 : State} {p0 : Nat} {p1 : Desc} {p2 : State} (hm : Msub 32794718313186529631230554938558419906962 M) (h2_ : Kept M s0 p2) :
    KeptO M s0 (@execUnaryRecip p0 p1 p2) := by
  unfold execUnaryRecip
  exact (KeptO.next (State.unaryIssue_kept (hm.mono rfl) h2_))

theorem execUnarySqrt_kept {M : Nat} {s0 : State} {p0 : Nat} {p1 : Desc} {p2 : State} (hm : Msub 32794718313186529631230554938558419906962 M) (h2_ : Kept M s0 p2) :
    KeptO M s0 (@execUnarySqrt p0 p1 p2) := by
  unfold execUnarySqrt
  exact (KeptO.next (State.unaryIssue_kept (hm.mono rfl) h2_))

theorem execUnaryRsqrt_kept {M : Nat} {s0 : State} {p0 : Nat} {p1 : Desc} {p2 : State} (hm : Msub 32794718313186529631230554938558419906962 M) (h2_ : Kept M s0 p2) :
    KeptO M s0 (@execUnaryRsqrt p0 p1 p2) := by
  unfold execUnaryRsqrt
  exact (KeptO.next (State.unaryIssue_kept (hm.mono rfl) h2_))

theorem execUnaryExp_kept {M : Nat} {s0 : State} {p0 : Nat} {p1 : Desc} {p2 : State} (hm : Msub 32794718313186529631230554938558419906962 M) (h2_ : Kept M s0 p2) :
    KeptO M s0 (@execUnaryExp p0 p1 p2) := by
  unfold execUnaryExp
  exact (KeptO.next (State.unaryIssue_kept (hm.mono rfl) h2_))

theorem execUnaryExp2_kept {M : Nat} {s0 : State} {p0 : Nat} {p1 : Desc} {p2 : State} (hm : Msub 32794718313186529631230554938558419906962 M) (h2_ : Kept M s0 p2) :
    KeptO M s0 (@execUnaryExp2 p0 p1 p2) := by
  unfold execUnaryExp2
  exact (KeptO.next (State.unaryIssue_kept (hm.mono rfl) h2_))

theorem execUnaryLog_kept {M : Nat} {s0 : State} {p0 : Nat} {p1 : Desc} {p2 : State} (hm : Msub 32794718313186529631230554938558419906962 M) (h2_ : Kept M s0 p2) :
    KeptO M s0 (@execUnaryLog p0 p1 p2) := by
  unfold execUnaryLog
  exact (KeptO.next (State.unaryIssue_kept (hm.mono rfl) h2_))

theorem execUnaryLog2_kept {M : Nat} {s0 : State} {p0 : Nat} {p1 : Desc} {p2 : State} (hm : Msub 32794718313186529631230554938558419906962 M) (h2_ : Kept M s0 p2) :
    KeptO M s0 (@execUnaryLog2 p0 p1 p2) := by
  unfold execUnaryLog2
  exact (KeptO.next (State.unaryIssue_kept (hm.mono rfl) h2_))

theorem execUnaryTanh_kept {M : Nat} {s0 : State} {p0 : Nat} {p1 : Desc} {p2 : State} (hm : Msub 32794718313186529631230554938558419906962 M) (h2_ : Kept M s0 p2) :
    KeptO M s0 (@execUnaryTanh p0 p1 p2) := by
  unfold execUnaryTanh
  exact (KeptO.next (State.unaryIssue_kept (hm.mono rfl) h2_))

theorem execUnaryErf_kept {M : Nat} {s0 : State} {p0 : Nat} {p1 : Desc} {p2 : State} (hm : Msub 32794718313186529631230554938558419906962 M) (h2_ : Kept M s0 p2) :
    KeptO M s0 (@execUnaryErf p0 p1 p2) := by
  unfold execUnaryErf
  exact (KeptO.next (State.unaryIssue_kept (hm.mono rfl) h2_))

theorem execUnarySin_kept {M : Nat} {s0 : State} {p0 : Nat} {p1 : Desc} {p2 : State} (hm : Msub 32794718313186529631230554938558419906962 M) (h2_ : Kept M s0 p2) :
    KeptO M s0 (@execUnarySin p0 p1 p2) := by
  unfold execUnarySin
  exact (KeptO.next (State.unaryIssue_kept (hm.mono rfl) h2_))

theorem execUnaryCos_kept {M : Nat} {s0 : State} {p0 : Nat} {p1 : Desc} {p2 : State} (hm : Msub 32794718313186529631230554938558419906962 M) (h2_ : Kept M s0 p2) :
    KeptO M s0 (@execUnaryCos p0 p1 p2) := by
  unfold execUnaryCos
  exact (KeptO.next (State.unaryIssue_kept (hm.mono rfl) h2_))

theorem execUnarySigmoid_kept {M : Nat} {s0 : State} {p0 : Nat} {p1 : Desc} {p2 : State} (hm : Msub 32794718313186529631230554938558419906962 M) (h2_ : Kept M s0 p2) :
    KeptO M s0 (@execUnarySigmoid p0 p1 p2) := by
  unfold execUnarySigmoid
  exact (KeptO.next (State.unaryIssue_kept (hm.mono rfl) h2_))

theorem execUnarySilu_kept {M : Nat} {s0 : State} {p0 : Nat} {p1 : Desc} {p2 : State} (hm : Msub 32794718313186529631230554938558419906962 M) (h2_ : Kept M s0 p2) :
    KeptO M s0 (@execUnarySilu p0 p1 p2) := by
  unfold execUnarySilu
  exact (KeptO.next (State.unaryIssue_kept (hm.mono rfl) h2_))

theorem execUnaryGeluTanh_kept {M : Nat} {s0 : State} {p0 : Nat} {p1 : Desc} {p2 : State} (hm : Msub 32794718313186529631230554938558419906962 M) (h2_ : Kept M s0 p2) :
    KeptO M s0 (@execUnaryGeluTanh p0 p1 p2) := by
  unfold execUnaryGeluTanh
  exact (KeptO.next (State.unaryIssue_kept (hm.mono rfl) h2_))

theorem execUnaryGeluErf_kept {M : Nat} {s0 : State} {p0 : Nat} {p1 : Desc} {p2 : State} (hm : Msub 32794718313186529631230554938558419906962 M) (h2_ : Kept M s0 p2) :
    KeptO M s0 (@execUnaryGeluErf p0 p1 p2) := by
  unfold execUnaryGeluErf
  exact (KeptO.next (State.unaryIssue_kept (hm.mono rfl) h2_))

theorem State.binaryIssue_kept {M : Nat} {s0 : State} {p0 : State} {p1 : Nat} {p2 : Desc} {p3 : Nat} {p4 : Nat → Nat → Nat} (hm : Msub 32794718313186529631230554938558419906962 M) (h0_ : Kept M s0 p0) :
    Kept M s0 (@State.binaryIssue p0 p1 p2 p3 p4) := by
  unfold State.binaryIssue
  exact (State.vecIssue_kept (hm.mono rfl) h0_)

theorem execBinaryAdd_kept {M : Nat} {s0 : State} {p0 : Nat} {p1 : Desc} {p2 : State} (hm : Msub 32794718313186529631230554938558419906962 M) (h2_ : Kept M s0 p2) :
    KeptO M s0 (@execBinaryAdd p0 p1 p2) := by
  unfold execBinaryAdd
  exact (KeptO.next (State.binaryIssue_kept (hm.mono rfl) h2_))

theorem execBinarySub_kept {M : Nat} {s0 : State} {p0 : Nat} {p1 : Desc} {p2 : State} (hm : Msub 32794718313186529631230554938558419906962 M) (h2_ : Kept M s0 p2) :
    KeptO M s0 (@execBinarySub p0 p1 p2) := by
  unfold execBinarySub
  exact (KeptO.next (State.binaryIssue_kept (hm.mono rfl) h2_))

theorem execBinaryMul_kept {M : Nat} {s0 : State} {p0 : Nat} {p1 : Desc} {p2 : State} (hm : Msub 32794718313186529631230554938558419906962 M) (h2_ : Kept M s0 p2) :
    KeptO M s0 (@execBinaryMul p0 p1 p2) := by
  unfold execBinaryMul
  exact (KeptO.next (State.binaryIssue_kept (hm.mono rfl) h2_))

theorem execBinaryDiv_kept {M : Nat} {s0 : State} {p0 : Nat} {p1 : Desc} {p2 : State} (hm : Msub 32794718313186529631230554938558419906962 M) (h2_ : Kept M s0 p2) :
    KeptO M s0 (@execBinaryDiv p0 p1 p2) := by
  unfold execBinaryDiv
  exact (KeptO.next (State.binaryIssue_kept (hm.mono rfl) h2_))

theorem execBinaryMax_kept {M : Nat} {s0 : State} {p0 : Nat} {p1 : Desc} {p2 : State} (hm : Msub 32794718313186529631230554938558419906962 M) (h2_ : Kept M s0 p2) :
    KeptO M s0 (@execBinaryMax p0 p1 p2) := by
  unfold execBinaryMax
  exact (KeptO.next (State.binaryIssue_kept (hm.mono rfl) h2_))

theorem execBinaryMin_kept {M : Nat} {s0 : State} {p0 : Nat} {p1 : Desc} {p2 : State} (hm : Msub 32794718313186529631230554938558419906962 M) (h2_ : Kept M s0 p2) :
    KeptO M s0 (@execBinaryMin p0 p1 p2) := by
  unfold execBinaryMin
  exact (KeptO.next (State.binaryIssue_kept (hm.mono rfl) h2_))

theorem execFma_kept {M : Nat} {s0 : State} {p0 : Nat} {p1 : Desc} {p2 : State} (hm : Msub 32794718313186529631230554938558419906962 M) (h2_ : Kept M s0 p2) :
    KeptO M s0 (@execFma p0 p1 p2) := by
  unfold execFma
  exact (KeptO.next (State.vecIssue_kept (hm.mono rfl) h2_))

theorem State.rowredIssue_kept {M : Nat} {s0 : State} {p0 : State} {p1 : Nat} {p2 : Desc} {p3 : Nat} {p4 : List Nat → Nat} (hm : Msub 32794718313186529631230554938558419906962 M) (h0_ : Kept M s0 p0) :
    Kept M s0 (@State.rowredIssue p0 p1 p2 p3 p4) := by
  unfold State.rowredIssue
  exact (State.vecIssue_kept (hm.mono rfl) h0_)

theorem execRowredSum_kept {M : Nat} {s0 : State} {p0 : Nat} {p1 : Desc} {p2 : State} (hm : Msub 32794718313186529631230554938558419906962 M) (h2_ : Kept M s0 p2) :
    KeptO M s0 (@execRowredSum p0 p1 p2) := by
  unfold execRowredSum
  exact (KeptO.next (State.rowredIssue_kept (hm.mono rfl) h2_))

theorem execRowredMax_kept {M : Nat} {s0 : State} {p0 : Nat} {p1 : Desc} {p2 : State} (hm : Msub 32794718313186529631230554938558419906962 M) (h2_ : Kept M s0 p2) :
    KeptO M s0 (@execRowredMax p0 p1 p2) := by
  unfold execRowredMax
  exact (KeptO.next (State.rowredIssue_kept (hm.mono rfl) h2_))

theorem execRowredMin_kept {M : Nat} {s0 : State} {p0 : Nat} {p1 : Desc} {p2 : State} (hm : Msub 32794718313186529631230554938558419906962 M) (h2_ : Kept M s0 p2) :
    KeptO M s0 (@execRowredMin p0 p1 p2) := by
  unfold execRowredMin
  exact (KeptO.next (State.rowredIssue_kept (hm.mono rfl) h2_))

theorem execRowredAbsmax_kept {M : Nat} {s0 : State} {p0 : Nat} {p1 : Desc} {p2 : State} (hm : Msub 32794718313186529631230554938558419906962 M) (h2_ : Kept M s0 p2) :
    KeptO M s0 (@execRowredAbsmax p0 p1 p2) := by
  unfold execRowredAbsmax
  exact (KeptO.next (State.rowredIssue_kept (hm.mono rfl) h2_))

theorem execRowredSumsq_kept {M : Nat} {s0 : State} {p0 : Nat} {p1 : Desc} {p2 : State} (hm : Msub 32794718313186529631230554938558419906962 M) (h2_ : Kept M s0 p2) :
    KeptO M s0 (@execRowredSumsq p0 p1 p2) := by
  unfold execRowredSumsq
  exact (KeptO.next (State.rowredIssue_kept (hm.mono rfl) h2_))

theorem execRowredArgmax_kept {M : Nat} {s0 : State} {p0 : Nat} {p1 : Desc} {p2 : State} (hm : Msub 32794718313186529631230554938558419906962 M) (h2_ : Kept M s0 p2) :
    KeptO M s0 (@execRowredArgmax p0 p1 p2) := by
  unfold execRowredArgmax
  exact (KeptO.next (State.issue_kept (hm.mono rfl) h2_ (fun x1 x3 x4 h2 =>
    (by
      split
      · rename_i x5 x6 e7
        have Hx5 := Kept.fst e7 (State.readSrcs_kept (hm.mono rfl) h2)
        exact (Eff.bus_kept (hm.mono rfl) Hx5)
      · rename_i x8 x9 e10
        have Hx8 := Kept.fst e10 (State.readSrcs_kept (hm.mono rfl) h2)
        extract_lets -underBinder -merge v11
        try clear_value v11
        split
        · rename_i x12 x13 e14
          have Hx12 := Kept.fst e14 (State.writeBits_kept (hm.mono rfl) Hx8)
          exact (Kept.iteE (Kept.effMk Hx12) (Eff.bus_kept (hm.mono rfl) Hx12))))))

theorem execSoftmax_kept {M : Nat} {s0 : State} {p0 : Nat} {p1 : Desc} {p2 : State} (hm : Msub 32794718313186529631230554938558419906962 M) (h2_ : Kept M s0 p2) :
    KeptO M s0 (@execSoftmax p0 p1 p2) := by
  unfold execSoftmax
  exact (KeptO.next (State.vecIssue_kept (hm.mono rfl) h2_))

theorem State.normIssue_kept {M : Nat} {s0 : State} {p0 : State} {p1 : Nat} {p2 : Desc} {p3 : Bool} (hm : Msub 32794718313186529631230554938558419906962 M) (h0_ : Kept M s0 p0) :
    Kept M s0 (@State.normIssue p0 p1 p2 p3) := by
  unfold State.normIssue
  exact (State.vecIssue_kept (hm.mono rfl) h0_)

theorem execNormLayernorm_kept {M : Nat} {s0 : State} {p0 : Nat} {p1 : Desc} {p2 : State} (hm : Msub 32794718313186529631230554938558419906962 M) (h2_ : Kept M s0 p2) :
    KeptO M s0 (@execNormLayernorm p0 p1 p2) := by
  unfold execNormLayernorm
  exact (KeptO.next (State.normIssue_kept (hm.mono rfl) h2_))

theorem execNormRmsnorm_kept {M : Nat} {s0 : State} {p0 : Nat} {p1 : Desc} {p2 : State} (hm : Msub 32794718313186529631230554938558419906962 M) (h2_ : Kept M s0 p2) :
    KeptO M s0 (@execNormRmsnorm p0 p1 p2) := by
  unfold execNormRmsnorm
  exact (KeptO.next (State.normIssue_kept (hm.mono rfl) h2_))

end Sys2Proof.Machine
end

