-- ==== Sys2Proof/WellFormed.lean ====
section
/-! DEFINITION. Which commands the spec's interfaces can deliver: every number of a unit, slot, table entry or field lies in the
range the spec gives it. A meaning is total: it answers an ill-formed command too, but no sender of the spec can send one. -/
namespace Sys2Proof
open Sys2Proof.Machine

/-! ### Ranges of Table 0.5 and of the tables of the spec -/

def okDie (d : Nat) : Bool := decide (d < 2)
def okCluster (d c : Nat) : Bool := okDie d && decide (c < 4)
/-- A physical core d.c.p (R20). -/
def okCore (d c p : Nat) : Bool := okCluster d c && decide (p < 9)
def okLcore (lc : Nat) : Bool := decide (lc < 64)
def okStack (k : Nat) : Bool := decide (k < 12)
def okPort (p : Nat) : Bool := decide (p < 32)
/-- A lane pair: 0–8 of a copper port, 0–7 of an optical one (R218). -/
def okLane (p n : Nat) : Bool := okPort p && decide (n < if p < 8 then 9 else 8)
/-- A lane, or the channel 16 + r of ring pair r. -/
def okChannel (p n : Nat) : Bool := okLane p n || (okPort p && decide (8 ≤ p) && decide (16 ≤ n) && decide (n < 28))
def okPair (p r : Nat) : Bool := okPort p && decide (8 ≤ p) && decide (r < 12)
def okEngine (e : Nat) : Bool := decide (e < 3)
def okPart (p : Nat) : Bool := decide (p < 4096)
def okCtx (c : Nat) : Bool := decide (c < 8192)
def okSlot (n : Nat) : Bool := decide (n < 4096)
def okBundle (b : Nat) : Bool := decide (b < 64)
/-- A line of an optical port (Table 12.9). -/
def okLine (p l : Nat) : Bool := okPort p && decide (8 ≤ p) && decide (1 ≤ l) && decide (l < 32)
def okTwo (w n : Nat) : Bool := decide (n < 2 ^ w)
def okMailbox (n : Nat) : Bool := decide (n < 32)
def okClass (c : Nat) : Bool := decide (c < 5)
def okSet (p set : Nat) : Bool := okPart p && decide (set < 8)
/-- A register page begins here (R526). -/
def okPage (pg : Nat) : Bool := decide (pg % 4096 = 0) && decide (pg < 67108864)
/-- A unit path of a compute reset (Table 15.4), with its level. -/
def okReset (level upath : Nat) : Bool := decide (1 ≤ level) && decide (level ≤ 5) && okTwo 16 upath

/-- A descriptor's fields fit word 0 of Table 4.1. -/
def Machine.Desc.wf (d : Desc) : Bool := okTwo 8 d.opcode && okTwo 8 d.subop && okCtx d.context && okTwo 31 d.rsvd

/-- A flit's header fits Table 8.2. -/
def Machine.FlitHdr.wf (h : FlitHdr) : Bool :=
  okTwo 16 h.dest && okTwo 16 h.src && okPart h.part && okCtx h.ctx && okTwo 1 h.kp && okTwo 8 h.gen && okTwo 16 h.seq
    && okTwo 16 h.next && okTwo 2 h.cls && okTwo 6 h.hops && okTwo 1 h.vc && okTwo 64 h.nctr && okTwo 1 h.die

/-- A payload is at most 216 bytes (Table 8.2). -/
def okPay (data : List Byte) : Bool := decide (data.length ≤ 216)

/-- A mailbox request's header fits Table 16.7; the target is one of seventeen processors. -/
def Machine.MHdr.wf (h : MHdr) : Bool :=
  okTwo 8 h.major && okTwo 8 h.minor && decide (h.target ≤ 16) && okTwo 32 h.seq && okTwo 11 h.vector && okPart h.part

/-- A management header fits Table 18.6; two ports. -/
def Machine.MgHdr.wf (h : MgHdr) : Bool :=
  okTwo 1 h.port && okTwo 16 h.dest && decide (h.session ≤ 8) && okTwo 32 h.seq && okTwo 8 h.major && okTwo 8 h.minor && okTwo 64 h.nctr

def okMbox (n : Nat) (h : MHdr) : Bool := okMailbox n && h.wf
/-- A flit on a channel: its header fits, and so do the bytes that it comes with. -/
def okFlit (p n : Nat) (o : RxObs) (h : FlitHdr) (pay : Pay) : Bool := okChannel p n && h.wf && o.fits { h := h, p := pay }

/-- A monitored port: core ports 0–7, crossbar ports 0–15 and die-network endpoints 0–26 in both directions, but the ports that
Table 5.2 gives one direction (XP port 15 and DN endpoints 0–3: towards the lanes) in that one only (R143, R151). -/
def Machine.PortObs.wf (x : PortObs) : Bool :=
  okPage x.page && (match Page.ofBase x.page with
  | some (.core _ _ _) => decide (x.port < 8)
  | some (.cluster _ _) => decide (x.port < 32) && x.port != 15
  | some (.dn _) => decide (x.port < 128) && decide (x.port % 64 < 27) && !decide (x.port < 4)
  | some (.br _) => decide (x.port < 2)
  | _ => false)

/-- The observations of a tick name units that exist. -/
def Machine.TickObs.wf (o : TickObs) : Bool :=
  o.lasers.all (fun x => okEngine x.e && okTwo 1 x.x) && o.rings.all (fun x => okPair x.p x.r && okTwo 1 x.dir) && o.cals.all (fun x => okPair x.p x.r)
    && o.lanes.all (fun x => okLane x.p x.n) && o.engTemps.all (fun x => okEngine x.1) && o.temps.all (fun x => decide (x.1 < 22))
    && o.ports.all PortObs.wf && o.engs.all (fun x => okCore x.d x.c x.p && okTwo 2 x.e)
    && o.cores.all (fun x => okCore x.d x.c x.p) && o.nmuIdle.all okStack && o.rails.all (fun x => decide (x.1 < 10))
    && okTwo 32 o.vin && okTwo 32 o.iin && okTwo 32 o.pin && okTwo 32 o.pin10 && okTwo 32 o.pin1s && okTwo 16 o.flow

/-- A command that the spec's interfaces can deliver. -/
def Instr.wf : Instr → Bool
  -- the module
  | .powerOn | .edeskInitDone | .powerLoss | .overcurrentTrip | .capEffStep | .safeToRemove | .ejectLatchOpen | .ejectLatchClose
  | .flr | .pcieLinkLoss | .moduleFail => true
  | .inputVoltageExcursion mv => okTwo 32 mv
  | .powerCapHold a b => okTwo 32 a && okTwo 32 b
  | .thermalThrottleChange k _ | .thermalTrip k _ => decide (k < 22)
  | .tickEdge o => o.wf
  | .pcieLinkUp gen width _ => decide (4 ≤ gen) && decide (gen ≤ 6) && (width == 4 || width == 8 || width == 16)
  | .chipIdWrite _ _ | .removeReq _ | .removeCancel _ => true
  -- registers and interfaces
  | .registerWrite _ off size _ => decide (off < 67108864) && (size == 4 || size == 8)
  | .semAcquire pg ms => okPage pg && !ms.isEmpty && decide (ms.length ≤ 3)
  | .semRelease pg _ => okPage pg
  | .ctrClr _ pg off _ => okPage pg && decide (off < 4096)
  | .unitReset _ pg => okPage pg
  | .bar2Read off n => decide (off + n ≤ 2 ^ 36)
  | .bar2Write off data => decide (off + data.length ≤ 2 ^ 36)
  | .bar2SelWrite _ _ => true
  | .mgmtPortLinkChange port _ => okTwo 1 port
  | .mgmtRead h space _ n => h.wf && h.fits 1 16 && okTwo 2 space && decide (n ≤ 1040)
  | .mgmtWrite h space _ data => h.wf && h.fits 2 (16 + data.length) && okTwo 2 space && decide (data.length ≤ 1024)
  | .sessionOpen h => h.wf && h.fits 5 0
  | .sessionClose h => h.wf && h.fits 6 0
  | .keepalive h => h.wf && h.fits 7 0
  | .sessionIdleTimeout n | .seqGapTimeout n => decide (1 ≤ n) && decide (n ≤ 8)
  -- binding, launching and programs
  | .bindArm _ d c _ | .bindCopyDone d c _ => okCluster d c
  | .launchPost _ n _ _ | .launchCancel _ n | .launchEmpty _ n | .programComplete n => okSlot n
  | .launchEntryWrite _ n off wide _ => okSlot n && decide (8 ≤ off) && decide (off < 64) && decide (off % (if wide then 8 else 4) = 0)
  | .cplConsWrite _ _ _ => true
  | .stepFenceComplete p _ => okPart p
  | .descriptorComplete lc _ _ | .waitConditionMet lc _ | .waitTimeout lc _ | .recvSatisfied lc _ => okLcore lc
  | .contextWatchdog lc | .programEndWatchdog lc => okLcore lc
  | .nop lc d | .endStream lc d | .setReg lc d | .loop lc d | .waitGe lc d | .waitEq lc d | .waitNe lc d | .waitAssert lc d
  | .waitDrain lc d | .signalAdd lc d | .signalWrite lc d | .tickw lc d | .stepf lc d | .load lc d | .store lc d | .move lc d
  | .transpose lc d | .gather lc d | .scatterAdd lc d | .cast lc d | .quantise lc d | .fill lc d | .matmul lc d | .matmulAcc lc d
  | .unaryCopy lc d | .unaryNeg lc d | .unaryAbs lc d | .unaryRelu lc d | .unarySquare lc d | .unaryRecip lc d | .unarySqrt lc d
  | .unaryRsqrt lc d | .unaryExp lc d | .unaryExp2 lc d | .unaryLog lc d | .unaryLog2 lc d | .unaryTanh lc d | .unaryErf lc d
  | .unarySin lc d | .unaryCos lc d | .unarySigmoid lc d | .unarySilu lc d | .unaryGeluTanh lc d | .unaryGeluErf lc d
  | .binaryAdd lc d | .binarySub lc d | .binaryMul lc d | .binaryDiv lc d | .binaryMax lc d | .binaryMin lc d | .fma lc d
  | .rowredSum lc d | .rowredMax lc d | .rowredMin lc d | .rowredAbsmax lc d | .rowredSumsq lc d | .rowredArgmax lc d
  | .softmax lc d | .normLayernorm lc d | .normRmsnorm lc d | .send lc d | .recv lc d | .collAllReduce lc d
  | .collReduceScatter lc d | .collAllGather lc d | .collAllToAll lc d | .nmcall lc d | .digest lc d => okLcore lc && d.wf
  | .collTimeout tag => okTwo 32 tag
  -- Edesk memory and near-memory units
  | .edeskRead k _ _ _ | .recomputeDone k _ | .recomputeTimeout k | .mapoutGo _ k _ | .mapoutGranuleCopy k _ _ => okStack k
  | .rcrEn _ k n _ => okStack k && decide (n < 8)
  | .scrubLine k _ _ | .scrubNow _ k | .scrubCtrlWrite _ k _ | .nmuPagePost _ k _ | .nmuCmdStart k => okStack k
  | .edeskLineWrite _ data _ => decide (data.length = 64)
  | .edeskPartialWrite _ data obs _ => decide (data.length ≤ 64) && decide (obs.length ≤ 2)
  | .nmuCmdComplete k _ | .nmuFill k _ | .nmuCopy k _ | .rsEnc k _ | .rsAcc k _ | .rsDec k _ | .nmuDigest k _ | .optSgd k _
  | .optAdamw k _ | .gaccAdd k _ | .gaccRead k _ | .gaccReadClear k _ | .nmuGather k _ | .scatterAddFp32 k _
  | .scatterAddExact k _ | .convertCast k _ | .convertQuantise k _ | .snapArm k _ | .snapAbort k _ => okStack k
  | .nmuScrub k _ _ _ _ | .snapUnitSaved k _ _ | .snapHoldTimeout k => okStack k
  | .snapUnitConsumed lead _ k _ => okStack lead && okStack k
  | .nmuWatchdog k | .nmuDatapathResetDone k | .nmuFail k => okStack k
  -- links
  | .flitWr p n o h addr data => okFlit p n o h (.wr addr data) && okTwo 64 addr && okPay data
  | .flitRdReq p n o h addr bytes tag => okFlit p n o h (.rdReq addr bytes tag) && okTwo 64 addr && okTwo 32 bytes && okTwo 32 tag
  | .flitRdRsp p n o h tag st data => okFlit p n o h (.rdRsp tag st data) && okTwo 32 tag && okPay data
  | .flitSig p n o h addr value w => okFlit p n o h (.sig addr value w) && okTwo 64 addr && okTwo 64 value
  | .flitAckE2e p n o h tag st => okFlit p n o h (.ackE2e tag st) && okTwo 32 tag
  | .flitCollData p n o h c data => okFlit p n o h (.collData c data) && okPay data
  | .flitCollCredit p n o h tag rank k => okFlit p n o h (.collCredit tag rank k)
  | .flitCollAbort p n o h tag cause absent => okFlit p n o h (.collAbort tag cause absent)
  | .flitMgmt p n o h m => okFlit p n o h (.mgmt m)
  | .flitResume p n o h bundle seq reply => okFlit p n o h (.resume bundle seq reply) && okTwo 8 bundle && okTwo 16 seq
  | .flitIdle p n o h => okFlit p n o h .idle
  | .flitAck p n o h es => okFlit p n o h (.ack es)
  | .flitNak p n o h es => okFlit p n o h (.nak es)
  | .flitYoyo p n o h y => okFlit p n o h (.yoyo y)
  | .flitCredit p n o h credits => okFlit p n o h (.credit credits) && decide (credits.length = 8)
  | .flitHeartbeat p n o h chip port lane bundle tick seq =>
    okFlit p n o h (.heartbeat chip port lane bundle tick seq)
      && okTwo 16 chip && okTwo 8 port && okTwo 8 lane && okTwo 8 bundle && okTwo 64 tick && okTwo 16 seq
  | .flitTime p n o h m _ => okFlit p n o h (.time m)
  | .flitTrain p n o h m _ => okFlit p n o h (.train m)
  | .laneCtrlAdd p n o h bundle port lane eff =>
    okFlit p n o h (.laneCtrl { op := 0, bundle := bundle, port := port, lane := lane, eff := eff }) && okBundle bundle && okPort port
  | .laneCtrlRemove p n o h bundle port lane eff =>
    okFlit p n o h (.laneCtrl { op := 1, bundle := bundle, port := port, lane := lane, eff := eff }) && okBundle bundle && okPort port
  | .laneCtrlReplace p n o h bundle port lane repl eff =>
    okFlit p n o h (.laneCtrl { op := 2, bundle := bundle, port := port, lane := lane, repl := repl, eff := eff })
      && okBundle bundle && okPort port
  | .ringNotice p n o h bundle port cause =>
    okFlit p n o h (.laneCtrl { op := 3, bundle := bundle, port := port, cause := cause }) && okBundle bundle && okPort port
  | .ringAligned p n o h bundle port =>
    okFlit p n o h (.laneCtrl { op := 4, bundle := bundle, port := port }) && okBundle bundle && okPort port
  | .ackTimer p n | .laneLos p n | .laneTrainTimeout p n | .laneRetrainTimer p n | .quarantineEnd p n | .strikeReset p n => okLane p n
  | .nakSkewTimer b p n => okBundle b && okLane p n
  | .retryTimeout b | .bundleDeadTimeout b | .resumeTimeout b => okBundle b
  | .laneDisable _ p | .laneClear _ p | .retrain _ p | .portEnable _ p _ => okPort p
  | .laneSignalLocked p n w0 w1 => okLane p n && okTwo 30 w0 && okTwo 13 w1
  | .flitBoundary p => okPort p
  | .keyErase _ _ | .frtDataHiWrite _ _ | .rnkSlotPartWrite _ _ | .rnkDataWrite _ _ | .peerDataWrite _ _ => true
  -- the wavelength fabric
  | .planArm _ | .planCancel _ | .planWinDataWrite _ _ | .planWinDataRead | .planActivation | .recableSettle => true
  | .ringMoveDone p r | .windowCheck p r | .ringRxLos p r => okPair p r
  | .heaterFault p r dir => okPair p r && okTwo 1 dir
  | .reacqTestStart p => okPort p && decide (8 ≤ p)
  | .reacqTestDone p r _ _ _ => okPair p r
  | .kalReplace _ e _ | .kalModeWrite _ e _ | .ringTestCmd _ e _ | .tblDataWrite _ e _ => okEngine e
  | .calPeriodDue e | .calTempDue e | .calNow _ e | .calibrationDone e _ | .abruptLaserLoss e | .laserSwitchPoint e
  | .laserSwitchDone e _ | .monGoNow _ e | .monGoAtTick _ e | .monTickReached e => okEngine e
  | .lasCmdSwitch _ e x | .lasCmdNow _ e x => okEngine e && okTwo 1 x
  | .monReadingDone e reading => okEngine e && okTwo 16 reading
  -- time
  | .restep _ | .timCfgWrite _ _ | .rootLossExpiry | .timeSourceLoss | .holdoverLong | .timeFracRead | .ppsOutPulse | .ppsInLost => true
  | .ptpSync p _ _ _ _ _ | .ptpFollowUp p _ _ _ | .ptpDelayResp p _ _ | .ptpAnnounce p _ _ _ | .ptpDelayReq p _ => okTwo 1 p
  | .timeSecLoRead sub | .ppsInEdge _ sub => decide (sub < 655360000)
  | .trgArm _ n _ _ sub => okTwo 2 n && decide (sub < 655360000)
  | .triggerFire n | .capSecLoRead n | .capFracRead n => okTwo 2 n
  -- partitions, contexts and epochs
  | .partClaim _ | .partArm _ | .partDrain _ | .partRetire _ | .partFree _ | .ctxBind _ | .ctxRetire _ | .ctxUnbind _ => true
  | .runTickReached p | .rampDone p | .drainTickReached p | .retireBarrierDone p _ | .retireBarrierBound p _ => okPart p
  | .lineCmdClaim _ part => okPart part
  | .lineCmdRelease _ => true
  | .lineClaimReq chip part plane _ line tag => okTwo 16 chip && okPart part && okTwo 16 plane && okTwo 5 line && okTwo 16 tag
  | .lineClaimAck chip plane line tag => okTwo 16 chip && okTwo 16 plane && okTwo 5 line && okTwo 16 tag
  | .lineClaimNak _ plane line tag | .lineClaimRelAck plane line tag | .lineClaimRelWait plane line tag =>
    okTwo 16 plane && okTwo 5 line && okTwo 16 tag
  | .lineClaimRel chip part plane line tag => okTwo 16 chip && okPart part && okTwo 16 plane && okTwo 5 line && okTwo 16 tag
  | .lineReqTimeout p l | .lineUnconfirmed p l => okLine p l
  | .teardownAck c _ => okCtx c
  | .epArm _ _ _ | .epCancel _ _ | .imgDataRead => true
  | .epochTickActivation p | .epochDigestReady p => okPart p
  | .epochSkewTimeout p b => okPart p && okBundle b
  -- continuity and replicas
  | .ctValidationDone p | .checkpointLocalDone p | .commitRecordLanded p | .ckTimeout p | .recoveryCmdDone p => okPart p
  | .buddyHelloRetry p r => okPart p && decide (r < 64)
  | .buddyHello chip part idx _ _ _ _ | .mirrorDigest chip part _ idx _ => okTwo 16 chip && okPart part && decide (idx < 64)
  | .buddyReply part idx _ _ => okPart part && decide (idx < 64)
  | .ckUnit chip part _ slot _ _ _ _ => okTwo 16 chip && okPart part && okTwo 1 slot
  | .stripeDone part _ slot _ _ _ _ | .commitAck part _ slot _ _ | .ckptAbort part _ slot _ => okPart part && okTwo 1 slot
  | .ckAbort _ | .ckNow _ | .stoConsWrite _ _ | .stoProdWrite _ _ _ | .halt _ | .rollback _ | .loadSlot _ | .clearAbsent _ => true
  | .stoExport _ slot | .stoImport _ slot => okTwo 1 slot
  | .loss _ rank | .rebuild _ rank | .pull _ _ rank => okTwo 16 rank
  | .pullReq chip part _ _ _ => okTwo 16 chip && okPart part
  | .pullDone part _ _ => okPart part
  | .replicaDigestReady p set | .verdictDeadline p set | .verdictTimeout p set | .recheckDeadline p set => okSet p set
  | .digestVote part _ _ _ _ _ _ _ => okPart part
  | .verdict part _ set _ _ _ _ _ _ => okSet part set
  | .fenceNote chip part => okTwo 16 chip && okPart part
  -- field tests, watchdogs and resets
  | .ftDue d c p | .forcedSwapAbandon d c p | .forcedSwapRetry d c p | .sequencerWatchdog d c p => okCore d c p
  | .fieldTestStart d c p _ | .fieldTestDone d c p _ _ _ | .forcedSwap d c p _ => okCore d c p
  | .engineWatchdog d c p e => okCore d c p && okTwo 2 e
  | .ftNow _ | .ftSweep _ | .sigAck _ | .sigDataRead | .rstGo _ => true
  | .resetDone level upath _ | .resetEscalate level upath => okReset level upath
  -- firmware, the recorder and security
  | .fwWatchdog k | .fwRestartDone k | .fwFatalFault k => decide (k ≤ 16) || k == 32
  | .takeoverDone _ | .revertHoldMet | .failover _ | .fpRestart _ => true
  | .getVersion _ n h | .getHealth _ n h | .tokenChallenge _ n h => okMbox n h
  | .fwStage _ n h cls _ data => okMbox n h && okTwo 32 cls && decide (data.length ≤ 4096)
  | .fwVerify _ n h cls _ | .fwActivate _ n h cls _ | .fwAbort _ n h cls => okMbox n h && okTwo 32 cls
  | .fwHandover cls | .fwProbationEnd cls => okClass cls
  | .recW0Read _ | .recW15Read _ | .freezeMaxExpiry | .attDataRead _ => true
  | .freeze _ area | .thaw _ area => okTwo 1 area
  | .attRequest _ n h part _ nonce => okMbox n h && okPart part && decide (nonce.length = 32)
  | .ekExpiry part | .sealFillDone part | .sealedClearDone part => okPart part
  | .keyGrant _ n h b => okMbox n h && decide (b.length ≤ 4096)
  | .keyInstall _ n h part phase _ => okMbox n h && okPart part && okTwo 1 phase
  | .sealPart _ n h part mask _ _ => okMbox n h && okPart part && okTwo 8 mask
  | .sealLoad _ n h addr => okMbox n h && okTwo 64 addr
  | .ownerKey _ n h _ => okMbox n h
  | .fbClear _ n h _ | .svnCommit _ n h _ | .ownerSet _ n h _ | .debugUnlock _ n h _ | .rma _ n h _ => okMbox n h

end Sys2Proof
end

