-- ==== Sys2Proof/Laws/PerInstr.lean ====
section
/-! SUPPORT. The family `Target`: a well-formed command that is a write of a register names a page of the register space. -/
namespace Sys2Proof.Laws.Target
set_option Elab.async false
open Sys2Proof.Machine

/-- Where a well-formed command is a write of a register by a master (R15), the page that it writes begins somewhere in the register
space of Table 18.11 (R526). -/
def Statement (i : Instr) : Prop := i.wf = true → ∀ m pg, writeOf i = some (m, pg) → ∃ b, Page.ofBase b = some pg

theorem not_a_write {i : Instr} (h : writeOf i = none) : Statement i := by
  intro _ m pg e; rw [h] at e; cases e

theorem of_page {i : Instr} (m : Master) (pg : Page) (h : writeOf i = some (m, pg)) (e : i.wf = true → ∃ b, Page.ofBase b = some pg) :
    Statement i := by
  intro w m' pg' e'; rw [h] at e'; cases e'; exact e w

theorem page_of_stack {f : Nat → Page} (hf : ∀ k < 12, Page.ofBase (f k).base = some (f k)) {k : Nat} (h : okStack k = true) :
    ∃ b, Page.ofBase b = some (f k) := ⟨_, hf k (by simpa [okStack] using h)⟩

theorem page_of_port {f : Nat → Page} (hf : ∀ p < 32, Page.ofBase (f p).base = some (f p)) {p : Nat} (h : okPort p = true) :
    ∃ b, Page.ofBase b = some (f p) := ⟨_, hf p (by simpa [okPort] using h)⟩

theorem page_of_engine {f : Nat → Page} (hf : ∀ e < 3, Page.ofBase (f e).base = some (f e)) {e : Nat} (h : okEngine e = true) :
    ∃ b, Page.ofBase b = some (f e) := ⟨_, hf e (by simpa [okEngine] using h)⟩

theorem page_of_cluster {d c : Nat} (h : okCluster d c = true) : ∃ b, Page.ofBase b = some (.cluster d c) := by
  simp only [okCluster, okDie, Bool.and_eq_true, decide_eq_true_eq] at h
  have t : ∀ d < 2, ∀ c < 4, Page.ofBase (Page.cluster d c).base = some (.cluster d c) := by decide +kernel
  exact ⟨_, t d h.1 c h.2⟩

theorem page_of_laser {e x : Nat} (h : (okEngine e && okTwo 1 x) = true) : ∃ b, Page.ofBase b = some (.las e x) := by
  simp only [okEngine, okTwo, Bool.and_eq_true, decide_eq_true_eq] at h
  have t : ∀ e < 3, ∀ x < 2 ^ 1, Page.ofBase (Page.las e x).base = some (.las e x) := by decide +kernel
  exact ⟨_, t e h.1 x h.2⟩

theorem powerOn : Statement (.powerOn) := not_a_write rfl
theorem edeskInitDone : Statement (.edeskInitDone) := not_a_write rfl
theorem powerLoss : Statement (.powerLoss) := not_a_write rfl
theorem inputVoltageExcursion (mv : Nat) : Statement (.inputVoltageExcursion mv) := not_a_write rfl
theorem overcurrentTrip : Statement (.overcurrentTrip) := not_a_write rfl
theorem powerCapHold (w10 : Nat) (w1s : Nat) : Statement (.powerCapHold w10 w1s) := not_a_write rfl
theorem thermalThrottleChange (k : Nat) (t : Int) : Statement (.thermalThrottleChange k t) := not_a_write rfl
theorem capEffStep : Statement (.capEffStep) := not_a_write rfl
theorem thermalTrip (k : Nat) (t : Int) : Statement (.thermalTrip k t) := not_a_write rfl
theorem tickEdge (o : TickObs) : Statement (.tickEdge o) := not_a_write rfl
theorem registerWrite (m : Master) (off : Nat) (size : Nat) (v : DWord) : Statement (.registerWrite m off size v) := not_a_write rfl
theorem semAcquire (pg : Nat) (ms : List Master) : Statement (.semAcquire pg ms) := not_a_write rfl
theorem semRelease (pg : Nat) (m : Master) : Statement (.semRelease pg m) := not_a_write rfl
theorem ctrClr (m : Master) (pg : Nat) (off : Nat) (v : Word) : Statement (.ctrClr m pg off v) := by
  intro _ m' p h
  simp only [writeOf, Option.map_eq_some_iff, Option.filter_eq_some_iff] at h
  obtain ⟨q, ⟨hq, _⟩, e⟩ := h
  cases e; exact ⟨_, hq⟩
theorem unitReset (m : Master) (pg : Nat) : Statement (.unitReset m pg) := by
  intro _ m' p h
  simp only [writeOf, Option.map_eq_some_iff] at h
  obtain ⟨q, hq, e⟩ := h
  cases e; exact ⟨_, hq⟩
theorem bindArm (m : Master) (d : Nat) (c : Nat) (testOut : Bool) : Statement (.bindArm m d c testOut) := of_page _ _ rfl fun h => page_of_cluster h
theorem bindCopyDone (d : Nat) (c : Nat) (ns : Nat) : Statement (.bindCopyDone d c ns) := not_a_write rfl
theorem launchPost (m : Master) (n : Nat) (w : DWord) (ns : Nat) : Statement (.launchPost m n w ns) := not_a_write rfl
theorem launchCancel (m : Master) (n : Nat) : Statement (.launchCancel m n) := not_a_write rfl
theorem launchEmpty (m : Master) (n : Nat) : Statement (.launchEmpty m n) := not_a_write rfl
theorem launchEntryWrite (m : Master) (n : Nat) (off : Nat) (wide : Bool) (v : DWord) : Statement (.launchEntryWrite m n off wide v) := not_a_write rfl
theorem programComplete (n : Nat) : Statement (.programComplete n) := not_a_write rfl
theorem cplConsWrite (m : Master) (host : Bool) (v : Word) : Statement (.cplConsWrite m host v) := by
  refine of_page _ _ rfl fun _ => ?_
  cases host
  · exact ⟨Page.lchMgt.base, by decide⟩
  · exact ⟨Page.lchHost.base, by decide⟩
theorem stepFenceComplete (p : Nat) (ns : Nat) : Statement (.stepFenceComplete p ns) := not_a_write rfl
theorem descriptorComplete (lc : Nat) (id : Nat) (ck : UnitCheck) : Statement (.descriptorComplete lc id ck) := not_a_write rfl
theorem nop (lc : Nat) (d : Desc) : Statement (.nop lc d) := not_a_write rfl
theorem endStream (lc : Nat) (d : Desc) : Statement (.endStream lc d) := not_a_write rfl
theorem setReg (lc : Nat) (d : Desc) : Statement (.setReg lc d) := not_a_write rfl
theorem loop (lc : Nat) (d : Desc) : Statement (.loop lc d) := not_a_write rfl
theorem waitGe (lc : Nat) (d : Desc) : Statement (.waitGe lc d) := not_a_write rfl
theorem waitEq (lc : Nat) (d : Desc) : Statement (.waitEq lc d) := not_a_write rfl
theorem waitNe (lc : Nat) (d : Desc) : Statement (.waitNe lc d) := not_a_write rfl
theorem waitAssert (lc : Nat) (d : Desc) : Statement (.waitAssert lc d) := not_a_write rfl
theorem waitDrain (lc : Nat) (d : Desc) : Statement (.waitDrain lc d) := not_a_write rfl
theorem waitConditionMet (lc : Nat) (id : Nat) : Statement (.waitConditionMet lc id) := not_a_write rfl
theorem waitTimeout (lc : Nat) (id : Nat) : Statement (.waitTimeout lc id) := not_a_write rfl
theorem signalAdd (lc : Nat) (d : Desc) : Statement (.signalAdd lc d) := not_a_write rfl
theorem signalWrite (lc : Nat) (d : Desc) : Statement (.signalWrite lc d) := not_a_write rfl
theorem tickw (lc : Nat) (d : Desc) : Statement (.tickw lc d) := not_a_write rfl
theorem stepf (lc : Nat) (d : Desc) : Statement (.stepf lc d) := not_a_write rfl
theorem load (lc : Nat) (d : Desc) : Statement (.load lc d) := not_a_write rfl
theorem store (lc : Nat) (d : Desc) : Statement (.store lc d) := not_a_write rfl
theorem move (lc : Nat) (d : Desc) : Statement (.move lc d) := not_a_write rfl
theorem transpose (lc : Nat) (d : Desc) : Statement (.transpose lc d) := not_a_write rfl
theorem gather (lc : Nat) (d : Desc) : Statement (.gather lc d) := not_a_write rfl
theorem scatterAdd (lc : Nat) (d : Desc) : Statement (.scatterAdd lc d) := not_a_write rfl
theorem cast (lc : Nat) (d : Desc) : Statement (.cast lc d) := not_a_write rfl
theorem quantise (lc : Nat) (d : Desc) : Statement (.quantise lc d) := not_a_write rfl
theorem fill (lc : Nat) (d : Desc) : Statement (.fill lc d) := not_a_write rfl
theorem matmul (lc : Nat) (d : Desc) : Statement (.matmul lc d) := not_a_write rfl
theorem matmulAcc (lc : Nat) (d : Desc) : Statement (.matmulAcc lc d) := not_a_write rfl
theorem unaryCopy (lc : Nat) (d : Desc) : Statement (.unaryCopy lc d) := not_a_write rfl
theorem unaryNeg (lc : Nat) (d : Desc) : Statement (.unaryNeg lc d) := not_a_write rfl
theorem unaryAbs (lc : Nat) (d : Desc) : Statement (.unaryAbs lc d) := not_a_write rfl
theorem unaryRelu (lc : Nat) (d : Desc) : Statement (.unaryRelu lc d) := not_a_write rfl
theorem unarySquare (lc : Nat) (d : Desc) : Statement (.unarySquare lc d) := not_a_write rfl
theorem unaryRecip (lc : Nat) (d : Desc) : Statement (.unaryRecip lc d) := not_a_write rfl
theorem unarySqrt (lc : Nat) (d : Desc) : Statement (.unarySqrt lc d) := not_a_write rfl
theorem unaryRsqrt (lc : Nat) (d : Desc) : Statement (.unaryRsqrt lc d) := not_a_write rfl
theorem unaryExp (lc : Nat) (d : Desc) : Statement (.unaryExp lc d) := not_a_write rfl
theorem unaryExp2 (lc : Nat) (d : Desc) : Statement (.unaryExp2 lc d) := not_a_write rfl
theorem unaryLog (lc : Nat) (d : Desc) : Statement (.unaryLog lc d) := not_a_write rfl
theorem unaryLog2 (lc : Nat) (d : Desc) : Statement (.unaryLog2 lc d) := not_a_write rfl
theorem unaryTanh (lc : Nat) (d : Desc) : Statement (.unaryTanh lc d) := not_a_write rfl
theorem unaryErf (lc : Nat) (d : Desc) : Statement (.unaryErf lc d) := not_a_write rfl
theorem unarySin (lc : Nat) (d : Desc) : Statement (.unarySin lc d) := not_a_write rfl
theorem unaryCos (lc : Nat) (d : Desc) : Statement (.unaryCos lc d) := not_a_write rfl
theorem unarySigmoid (lc : Nat) (d : Desc) : Statement (.unarySigmoid lc d) := not_a_write rfl
theorem unarySilu (lc : Nat) (d : Desc) : Statement (.unarySilu lc d) := not_a_write rfl
theorem unaryGeluTanh (lc : Nat) (d : Desc) : Statement (.unaryGeluTanh lc d) := not_a_write rfl
theorem unaryGeluErf (lc : Nat) (d : Desc) : Statement (.unaryGeluErf lc d) := not_a_write rfl
theorem binaryAdd (lc : Nat) (d : Desc) : Statement (.binaryAdd lc d) := not_a_write rfl
theorem binarySub (lc : Nat) (d : Desc) : Statement (.binarySub lc d) := not_a_write rfl
theorem binaryMul (lc : Nat) (d : Desc) : Statement (.binaryMul lc d) := not_a_write rfl
theorem binaryDiv (lc : Nat) (d : Desc) : Statement (.binaryDiv lc d) := not_a_write rfl
theorem binaryMax (lc : Nat) (d : Desc) : Statement (.binaryMax lc d) := not_a_write rfl
theorem binaryMin (lc : Nat) (d : Desc) : Statement (.binaryMin lc d) := not_a_write rfl
theorem fma (lc : Nat) (d : Desc) : Statement (.fma lc d) := not_a_write rfl
theorem rowredSum (lc : Nat) (d : Desc) : Statement (.rowredSum lc d) := not_a_write rfl
theorem rowredMax (lc : Nat) (d : Desc) : Statement (.rowredMax lc d) := not_a_write rfl
theorem rowredMin (lc : Nat) (d : Desc) : Statement (.rowredMin lc d) := not_a_write rfl
theorem rowredAbsmax (lc : Nat) (d : Desc) : Statement (.rowredAbsmax lc d) := not_a_write rfl
theorem rowredSumsq (lc : Nat) (d : Desc) : Statement (.rowredSumsq lc d) := not_a_write rfl
theorem rowredArgmax (lc : Nat) (d : Desc) : Statement (.rowredArgmax lc d) := not_a_write rfl
theorem softmax (lc : Nat) (d : Desc) : Statement (.softmax lc d) := not_a_write rfl
theorem normLayernorm (lc : Nat) (d : Desc) : Statement (.normLayernorm lc d) := not_a_write rfl
theorem normRmsnorm (lc : Nat) (d : Desc) : Statement (.normRmsnorm lc d) := not_a_write rfl
theorem send (lc : Nat) (d : Desc) : Statement (.send lc d) := not_a_write rfl
theorem recv (lc : Nat) (d : Desc) : Statement (.recv lc d) := not_a_write rfl
theorem recvSatisfied (lc : Nat) (id : Nat) : Statement (.recvSatisfied lc id) := not_a_write rfl
theorem collAllReduce (lc : Nat) (d : Desc) : Statement (.collAllReduce lc d) := not_a_write rfl
theorem collReduceScatter (lc : Nat) (d : Desc) : Statement (.collReduceScatter lc d) := not_a_write rfl
theorem collAllGather (lc : Nat) (d : Desc) : Statement (.collAllGather lc d) := not_a_write rfl
theorem collAllToAll (lc : Nat) (d : Desc) : Statement (.collAllToAll lc d) := not_a_write rfl
theorem collTimeout (tag : Nat) : Statement (.collTimeout tag) := not_a_write rfl
theorem nmcall (lc : Nat) (d : Desc) : Statement (.nmcall lc d) := not_a_write rfl
theorem digest (lc : Nat) (d : Desc) : Statement (.digest lc d) := not_a_write rfl
theorem edeskRead (k : Nat) (l : Nat) (req : Requester) (o : ReadObs) : Statement (.edeskRead k l req o) := not_a_write rfl
theorem recomputeDone (k : Nat) (obs : List ReadObs) : Statement (.recomputeDone k obs) := not_a_write rfl
theorem recomputeTimeout (k : Nat) : Statement (.recomputeTimeout k) := not_a_write rfl
theorem edeskLineWrite (o : Nat) (data : List Byte) (req : Requester) : Statement (.edeskLineWrite o data req) := not_a_write rfl
theorem edeskPartialWrite (o : Nat) (data : List Byte) (obs : List ReadObs) (req : Requester) : Statement (.edeskPartialWrite o data obs req) := not_a_write rfl
theorem mapoutGo (m : Master) (k : Nat) (v : Word) : Statement (.mapoutGo m k v) := of_page _ _ rfl fun h => page_of_stack (f := .mc) (by decide +kernel) h
theorem mapoutGranuleCopy (k : Nat) (bad0 : Bool) (bad1 : Bool) : Statement (.mapoutGranuleCopy k bad0 bad1) := not_a_write rfl
theorem rcrEn (m : Master) (k : Nat) (n : Nat) (v : Word) : Statement (.rcrEn m k n v) := of_page _ _ rfl fun h => page_of_stack (f := .mc) (by decide +kernel) (Bool.and_eq_true_iff.1 h).1
theorem scrubLine (k : Nat) (data : List SymErr) (md : List SymErr) : Statement (.scrubLine k data md) := not_a_write rfl
theorem scrubNow (m : Master) (k : Nat) : Statement (.scrubNow m k) := of_page _ _ rfl fun h => page_of_stack (f := .scr) (by decide +kernel) h
theorem scrubCtrlWrite (m : Master) (k : Nat) (v : Word) : Statement (.scrubCtrlWrite m k v) := of_page _ _ rfl fun h => page_of_stack (f := .scr) (by decide +kernel) h
theorem nmuPagePost (m : Master) (k : Nat) (v : Word) : Statement (.nmuPagePost m k v) := of_page _ _ rfl fun h => page_of_stack (f := .nmu) (by decide +kernel) h
theorem nmuCmdStart (k : Nat) : Statement (.nmuCmdStart k) := not_a_write rfl
theorem nmuCmdComplete (k : Nat) (idx : Nat) : Statement (.nmuCmdComplete k idx) := not_a_write rfl
theorem nmuFill (k : Nat) (idx : Nat) : Statement (.nmuFill k idx) := not_a_write rfl
theorem nmuCopy (k : Nat) (idx : Nat) : Statement (.nmuCopy k idx) := not_a_write rfl
theorem rsEnc (k : Nat) (idx : Nat) : Statement (.rsEnc k idx) := not_a_write rfl
theorem rsAcc (k : Nat) (idx : Nat) : Statement (.rsAcc k idx) := not_a_write rfl
theorem rsDec (k : Nat) (idx : Nat) : Statement (.rsDec k idx) := not_a_write rfl
theorem nmuDigest (k : Nat) (idx : Nat) : Statement (.nmuDigest k idx) := not_a_write rfl
theorem optSgd (k : Nat) (idx : Nat) : Statement (.optSgd k idx) := not_a_write rfl
theorem optAdamw (k : Nat) (idx : Nat) : Statement (.optAdamw k idx) := not_a_write rfl
theorem gaccAdd (k : Nat) (idx : Nat) : Statement (.gaccAdd k idx) := not_a_write rfl
theorem gaccRead (k : Nat) (idx : Nat) : Statement (.gaccRead k idx) := not_a_write rfl
theorem gaccReadClear (k : Nat) (idx : Nat) : Statement (.gaccReadClear k idx) := not_a_write rfl
theorem nmuGather (k : Nat) (idx : Nat) : Statement (.nmuGather k idx) := not_a_write rfl
theorem scatterAddFp32 (k : Nat) (idx : Nat) : Statement (.scatterAddFp32 k idx) := not_a_write rfl
theorem scatterAddExact (k : Nat) (idx : Nat) : Statement (.scatterAddExact k idx) := not_a_write rfl
theorem convertCast (k : Nat) (idx : Nat) : Statement (.convertCast k idx) := not_a_write rfl
theorem convertQuantise (k : Nat) (idx : Nat) : Statement (.convertQuantise k idx) := not_a_write rfl
theorem nmuScrub (k : Nat) (idx : Nat) (s0 : List (Nat × SymErr)) (s1 : List (Nat × SymErr)) (md : List (Nat × SymErr)) : Statement (.nmuScrub k idx s0 s1 md) := not_a_write rfl
theorem snapArm (k : Nat) (idx : Nat) : Statement (.snapArm k idx) := not_a_write rfl
theorem snapAbort (k : Nat) (idx : Nat) : Statement (.snapAbort k idx) := not_a_write rfl
theorem snapUnitSaved (k : Nat) (u : Nat) (ns : Nat) : Statement (.snapUnitSaved k u ns) := not_a_write rfl
theorem snapUnitConsumed (lead : Nat) (idx : Nat) (k : Nat) (u : Nat) : Statement (.snapUnitConsumed lead idx k u) := not_a_write rfl
theorem snapHoldTimeout (k : Nat) : Statement (.snapHoldTimeout k) := not_a_write rfl
theorem flitWr (p : Nat) (n : Nat) (o : RxObs) (h : FlitHdr) (addr : Nat) (data : List Byte) : Statement (.flitWr p n o h addr data) := not_a_write rfl
theorem flitRdReq (p : Nat) (n : Nat) (o : RxObs) (h : FlitHdr) (addr : Nat) (bytes : Nat) (tag : Nat) : Statement (.flitRdReq p n o h addr bytes tag) := not_a_write rfl
theorem flitRdRsp (p : Nat) (n : Nat) (o : RxObs) (h : FlitHdr) (tag : Nat) (status : Nat) (data : List Byte) : Statement (.flitRdRsp p n o h tag status data) := not_a_write rfl
theorem flitSig (p : Nat) (n : Nat) (o : RxObs) (h : FlitHdr) (addr : Nat) (value : Nat) (write : Bool) : Statement (.flitSig p n o h addr value write) := not_a_write rfl
theorem flitAckE2e (p : Nat) (n : Nat) (o : RxObs) (h : FlitHdr) (tag : Nat) (status : Nat) : Statement (.flitAckE2e p n o h tag status) := not_a_write rfl
theorem flitCollData (p : Nat) (n : Nat) (o : RxObs) (h : FlitHdr) (c : CollHdr) (data : List Byte) : Statement (.flitCollData p n o h c data) := not_a_write rfl
theorem flitCollCredit (p : Nat) (n : Nat) (o : RxObs) (h : FlitHdr) (tag : Nat) (rank : Nat) (credits : Nat) : Statement (.flitCollCredit p n o h tag rank credits) := not_a_write rfl
theorem flitCollAbort (p : Nat) (n : Nat) (o : RxObs) (h : FlitHdr) (tag : Nat) (cause : Nat) (absent : List Nat) : Statement (.flitCollAbort p n o h tag cause absent) := not_a_write rfl
theorem flitMgmt (p : Nat) (n : Nat) (o : RxObs) (h : FlitHdr) (m : MgMsg) : Statement (.flitMgmt p n o h m) := not_a_write rfl
theorem flitResume (p : Nat) (n : Nat) (o : RxObs) (h : FlitHdr) (bundle : Nat) (seq : Nat) (reply : Bool) : Statement (.flitResume p n o h bundle seq reply) := not_a_write rfl
theorem flitIdle (p : Nat) (n : Nat) (o : RxObs) (h : FlitHdr) : Statement (.flitIdle p n o h) := not_a_write rfl
theorem flitAck (p : Nat) (n : Nat) (o : RxObs) (h : FlitHdr) (entries : List (Nat × Nat)) : Statement (.flitAck p n o h entries) := not_a_write rfl
theorem flitNak (p : Nat) (n : Nat) (o : RxObs) (h : FlitHdr) (entries : List (Nat × Nat)) : Statement (.flitNak p n o h entries) := not_a_write rfl
theorem flitCredit (p : Nat) (n : Nat) (o : RxObs) (h : FlitHdr) (credits : List Nat) : Statement (.flitCredit p n o h credits) := not_a_write rfl
theorem flitHeartbeat (p : Nat) (n : Nat) (o : RxObs) (h : FlitHdr) (chip : Nat) (port : Nat) (lane : Nat) (bundle : Nat) (tick : Nat) (seq : Nat) : Statement (.flitHeartbeat p n o h chip port lane bundle tick seq) := not_a_write rfl
theorem flitYoyo (p : Nat) (n : Nat) (o : RxObs) (h : FlitHdr) (y : Yoyo) : Statement (.flitYoyo p n o h y) := not_a_write rfl
theorem flitTime (p : Nat) (n : Nat) (o : RxObs) (h : FlitHdr) (t : TimeMsg) (arr : Nat) : Statement (.flitTime p n o h t arr) := not_a_write rfl
theorem flitTrain (p : Nat) (n : Nat) (o : RxObs) (h : FlitHdr) (t : TrainMsg) (arr : Nat) : Statement (.flitTrain p n o h t arr) := not_a_write rfl
theorem laneCtrlAdd (p : Nat) (n : Nat) (o : RxObs) (h : FlitHdr) (bundle : Nat) (port : Nat) (lane : Nat) (eff : Nat) : Statement (.laneCtrlAdd p n o h bundle port lane eff) := not_a_write rfl
theorem laneCtrlRemove (p : Nat) (n : Nat) (o : RxObs) (h : FlitHdr) (bundle : Nat) (port : Nat) (lane : Nat) (eff : Nat) : Statement (.laneCtrlRemove p n o h bundle port lane eff) := not_a_write rfl
theorem laneCtrlReplace (p : Nat) (n : Nat) (o : RxObs) (h : FlitHdr) (bundle : Nat) (port : Nat) (lane : Nat) (repl : Nat) (eff : Nat) : Statement (.laneCtrlReplace p n o h bundle port lane repl eff) := not_a_write rfl
theorem ringNotice (p : Nat) (n : Nat) (o : RxObs) (h : FlitHdr) (bundle : Nat) (port : Nat) (cause : Nat) : Statement (.ringNotice p n o h bundle port cause) := not_a_write rfl
theorem ringAligned (p : Nat) (n : Nat) (o : RxObs) (h : FlitHdr) (bundle : Nat) (port : Nat) : Statement (.ringAligned p n o h bundle port) := not_a_write rfl
theorem ackTimer (p : Nat) (n : Nat) : Statement (.ackTimer p n) := not_a_write rfl
theorem nakSkewTimer (b : Nat) (p : Nat) (n : Nat) : Statement (.nakSkewTimer b p n) := not_a_write rfl
theorem retryTimeout (b : Nat) : Statement (.retryTimeout b) := not_a_write rfl
theorem laneLos (p : Nat) (n : Nat) : Statement (.laneLos p n) := not_a_write rfl
theorem laneTrainTimeout (p : Nat) (n : Nat) : Statement (.laneTrainTimeout p n) := not_a_write rfl
theorem laneRetrainTimer (p : Nat) (n : Nat) : Statement (.laneRetrainTimer p n) := not_a_write rfl
theorem quarantineEnd (p : Nat) (n : Nat) : Statement (.quarantineEnd p n) := not_a_write rfl
theorem strikeReset (p : Nat) (n : Nat) : Statement (.strikeReset p n) := not_a_write rfl
theorem laneDisable (m : Master) (p : Nat) : Statement (.laneDisable m p) := of_page _ _ rfl fun h => page_of_port (f := .lan) (by decide +kernel) h
theorem laneClear (m : Master) (p : Nat) : Statement (.laneClear m p) := of_page _ _ rfl fun h => page_of_port (f := .lan) (by decide +kernel) h
theorem retrain (m : Master) (p : Nat) : Statement (.retrain m p) := of_page _ _ rfl fun h => page_of_port (f := .lnk) (by decide +kernel) h
theorem portEnable (m : Master) (p : Nat) (v : Word) : Statement (.portEnable m p v) := of_page _ _ rfl fun h => page_of_port (f := .lnk) (by decide +kernel) h
theorem bundleDeadTimeout (b : Nat) : Statement (.bundleDeadTimeout b) := not_a_write rfl
theorem resumeTimeout (b : Nat) : Statement (.resumeTimeout b) := not_a_write rfl
theorem keyErase (m : Master) (v : Word) : Statement (.keyErase m v) := of_page _ _ rfl fun _ => ⟨(Page.cry 0).base, by decide⟩
theorem frtDataHiWrite (m : Master) (v : Word) : Statement (.frtDataHiWrite m v) := of_page _ _ rfl fun _ => ⟨Page.rt.base, by decide⟩
theorem rnkSlotPartWrite (m : Master) (v : Word) : Statement (.rnkSlotPartWrite m v) := of_page _ _ rfl fun _ => ⟨Page.rt.base, by decide⟩
theorem rnkDataWrite (m : Master) (v : Word) : Statement (.rnkDataWrite m v) := of_page _ _ rfl fun _ => ⟨Page.rt.base, by decide⟩
theorem peerDataWrite (m : Master) (v : Word) : Statement (.peerDataWrite m v) := of_page _ _ rfl fun _ => ⟨Page.rt.base, by decide⟩
theorem planArm (m : Master) : Statement (.planArm m) := of_page _ _ rfl fun _ => ⟨Page.fab.base, by decide⟩
theorem planCancel (m : Master) : Statement (.planCancel m) := of_page _ _ rfl fun _ => ⟨Page.fab.base, by decide⟩
theorem planWinDataWrite (m : Master) (v : Word) : Statement (.planWinDataWrite m v) := of_page _ _ rfl fun _ => ⟨Page.fab.base, by decide⟩
theorem planWinDataRead : Statement (.planWinDataRead) := not_a_write rfl
theorem planActivation : Statement (.planActivation) := not_a_write rfl
theorem ringMoveDone (p : Nat) (r : Nat) : Statement (.ringMoveDone p r) := not_a_write rfl
theorem recableSettle : Statement (.recableSettle) := not_a_write rfl
theorem kalReplace (m : Master) (e : Nat) (v : Word) : Statement (.kalReplace m e v) := of_page _ _ rfl fun h => page_of_engine (f := .kal) (by decide +kernel) h
theorem kalModeWrite (m : Master) (e : Nat) (v : Word) : Statement (.kalModeWrite m e v) := of_page _ _ rfl fun h => page_of_engine (f := .kal) (by decide +kernel) h
theorem windowCheck (p : Nat) (r : Nat) : Statement (.windowCheck p r) := not_a_write rfl
theorem ringRxLos (p : Nat) (r : Nat) : Statement (.ringRxLos p r) := not_a_write rfl
theorem heaterFault (p : Nat) (r : Nat) (dir : Nat) : Statement (.heaterFault p r dir) := not_a_write rfl
theorem reacqTestStart (p : Nat) : Statement (.reacqTestStart p) := not_a_write rfl
theorem reacqTestDone (p : Nat) (r : Nat) (aligned : Bool) (offT : Int) (offR : Int) : Statement (.reacqTestDone p r aligned offT offR) := not_a_write rfl
theorem ringTestCmd (m : Master) (e : Nat) (v : Word) : Statement (.ringTestCmd m e v) := of_page _ _ rfl fun h => page_of_engine (f := .rng) (by decide +kernel) h
theorem calPeriodDue (e : Nat) : Statement (.calPeriodDue e) := not_a_write rfl
theorem calTempDue (e : Nat) : Statement (.calTempDue e) := not_a_write rfl
theorem calNow (m : Master) (e : Nat) : Statement (.calNow m e) := of_page _ _ rfl fun h => page_of_engine (f := .rng) (by decide +kernel) h
theorem calibrationDone (e : Nat) (ms : List CalMeas) : Statement (.calibrationDone e ms) := not_a_write rfl
theorem abruptLaserLoss (e : Nat) : Statement (.abruptLaserLoss e) := not_a_write rfl
theorem laserSwitchPoint (e : Nat) : Statement (.laserSwitchPoint e) := not_a_write rfl
theorem laserSwitchDone (e : Nat) (ok : Bool) : Statement (.laserSwitchDone e ok) := not_a_write rfl
theorem lasCmdSwitch (m : Master) (e : Nat) (x : Nat) : Statement (.lasCmdSwitch m e x) := of_page _ _ rfl fun h => page_of_laser h
theorem lasCmdNow (m : Master) (e : Nat) (x : Nat) : Statement (.lasCmdNow m e x) := of_page _ _ rfl fun h => page_of_laser h
theorem tblDataWrite (m : Master) (e : Nat) (v : Word) : Statement (.tblDataWrite m e v) := of_page _ _ rfl fun h => page_of_engine (f := .rng) (by decide +kernel) h
theorem monGoNow (m : Master) (e : Nat) : Statement (.monGoNow m e) := of_page _ _ rfl fun h => page_of_engine (f := .mon) (by decide +kernel) h
theorem monGoAtTick (m : Master) (e : Nat) : Statement (.monGoAtTick m e) := of_page _ _ rfl fun h => page_of_engine (f := .mon) (by decide +kernel) h
theorem monTickReached (e : Nat) : Statement (.monTickReached e) := not_a_write rfl
theorem monReadingDone (e : Nat) (reading : Nat) : Statement (.monReadingDone e reading) := not_a_write rfl
theorem restep (m : Master) : Statement (.restep m) := of_page _ _ rfl fun _ => ⟨Page.time.base, by decide⟩
theorem timCfgWrite (m : Master) (v : Word) : Statement (.timCfgWrite m v) := of_page _ _ rfl fun _ => ⟨Page.time.base, by decide⟩
theorem rootLossExpiry : Statement (.rootLossExpiry) := not_a_write rfl
theorem timeSourceLoss : Statement (.timeSourceLoss) := not_a_write rfl
theorem holdoverLong : Statement (.holdoverLong) := not_a_write rfl
theorem ptpSync (p : Nat) (domain : Nat) (seq : Nat) (logInt : Int) (t1 : Option Nat) (t2 : Nat) : Statement (.ptpSync p domain seq logInt t1 t2) := not_a_write rfl
theorem ptpFollowUp (p : Nat) (domain : Nat) (seq : Nat) (t1 : Nat) : Statement (.ptpFollowUp p domain seq t1) := not_a_write rfl
theorem ptpDelayResp (p : Nat) (domain : Nat) (t4 : Nat) : Statement (.ptpDelayResp p domain t4) := not_a_write rfl
theorem ptpAnnounce (p : Nat) (domain : Nat) (logInt : Int) (a : Announce) : Statement (.ptpAnnounce p domain logInt a) := not_a_write rfl
theorem ptpDelayReq (p : Nat) (t3 : Nat) : Statement (.ptpDelayReq p t3) := not_a_write rfl
theorem timeSecLoRead (sub : Nat) : Statement (.timeSecLoRead sub) := not_a_write rfl
theorem timeFracRead : Statement (.timeFracRead) := not_a_write rfl
theorem trgArm (m : Master) (n : Nat) (event : Bool) (pulse : Bool) (sub : Nat) : Statement (.trgArm m n event pulse sub) := of_page _ _ rfl fun _ => ⟨Page.trg.base, by decide⟩
theorem triggerFire (n : Nat) : Statement (.triggerFire n) := not_a_write rfl
theorem ppsOutPulse : Statement (.ppsOutPulse) := not_a_write rfl
theorem ppsInEdge (falling : Bool) (sub : Nat) : Statement (.ppsInEdge falling sub) := not_a_write rfl
theorem ppsInLost : Statement (.ppsInLost) := not_a_write rfl
theorem capSecLoRead (n : Nat) : Statement (.capSecLoRead n) := not_a_write rfl
theorem capFracRead (n : Nat) : Statement (.capFracRead n) := not_a_write rfl
theorem partClaim (m : Master) : Statement (.partClaim m) := of_page _ _ rfl fun _ => ⟨Page.part.base, by decide⟩
theorem partArm (m : Master) : Statement (.partArm m) := of_page _ _ rfl fun _ => ⟨Page.part.base, by decide⟩
theorem partDrain (m : Master) : Statement (.partDrain m) := of_page _ _ rfl fun _ => ⟨Page.part.base, by decide⟩
theorem partRetire (m : Master) : Statement (.partRetire m) := of_page _ _ rfl fun _ => ⟨Page.part.base, by decide⟩
theorem partFree (m : Master) : Statement (.partFree m) := of_page _ _ rfl fun _ => ⟨Page.part.base, by decide⟩
theorem runTickReached (p : Nat) : Statement (.runTickReached p) := not_a_write rfl
theorem rampDone (p : Nat) : Statement (.rampDone p) := not_a_write rfl
theorem drainTickReached (p : Nat) : Statement (.drainTickReached p) := not_a_write rfl
theorem retireBarrierDone (p : Nat) (ns : Nat) : Statement (.retireBarrierDone p ns) := not_a_write rfl
theorem retireBarrierBound (p : Nat) (ns : Nat) : Statement (.retireBarrierBound p ns) := not_a_write rfl
theorem lineCmdClaim (m : Master) (part : Nat) : Statement (.lineCmdClaim m part) := of_page _ _ rfl fun _ => ⟨Page.line.base, by decide⟩
theorem lineCmdRelease (m : Master) : Statement (.lineCmdRelease m) := of_page _ _ rfl fun _ => ⟨Page.line.base, by decide⟩
theorem lineClaimReq (chip : Nat) (part : Nat) (plane : Nat) (input : Nat) (line : Nat) (tag : Nat) : Statement (.lineClaimReq chip part plane input line tag) := not_a_write rfl
theorem lineClaimAck (chip : Nat) (plane : Nat) (line : Nat) (tag : Nat) : Statement (.lineClaimAck chip plane line tag) := not_a_write rfl
theorem lineClaimNak (cause : Nat) (plane : Nat) (line : Nat) (tag : Nat) : Statement (.lineClaimNak cause plane line tag) := not_a_write rfl
theorem lineClaimRel (chip : Nat) (part : Nat) (plane : Nat) (line : Nat) (tag : Nat) : Statement (.lineClaimRel chip part plane line tag) := not_a_write rfl
theorem lineClaimRelAck (plane : Nat) (line : Nat) (tag : Nat) : Statement (.lineClaimRelAck plane line tag) := not_a_write rfl
theorem lineClaimRelWait (plane : Nat) (line : Nat) (tag : Nat) : Statement (.lineClaimRelWait plane line tag) := not_a_write rfl
theorem lineReqTimeout (p : Nat) (l : Nat) : Statement (.lineReqTimeout p l) := not_a_write rfl
theorem lineUnconfirmed (p : Nat) (l : Nat) : Statement (.lineUnconfirmed p l) := not_a_write rfl
theorem ctxBind (m : Master) : Statement (.ctxBind m) := of_page _ _ rfl fun _ => ⟨Page.ctx.base, by decide⟩
theorem ctxRetire (m : Master) : Statement (.ctxRetire m) := of_page _ _ rfl fun _ => ⟨Page.ctx.base, by decide⟩
theorem ctxUnbind (m : Master) : Statement (.ctxUnbind m) := of_page _ _ rfl fun _ => ⟨Page.ctx.base, by decide⟩
theorem teardownAck (c : Nat) (ns : Nat) : Statement (.teardownAck c ns) := not_a_write rfl
theorem epArm (m : Master) (cancel : Bool) (step : Bool) : Statement (.epArm m cancel step) := of_page _ _ rfl fun _ => ⟨Page.ep.base, by decide⟩
theorem epCancel (m : Master) (step : Bool) : Statement (.epCancel m step) := of_page _ _ rfl fun _ => ⟨Page.ep.base, by decide⟩
theorem epochTickActivation (p : Nat) : Statement (.epochTickActivation p) := not_a_write rfl
theorem epochDigestReady (p : Nat) : Statement (.epochDigestReady p) := not_a_write rfl
theorem epochSkewTimeout (p : Nat) (b : Nat) : Statement (.epochSkewTimeout p b) := not_a_write rfl
theorem imgDataRead : Statement (.imgDataRead) := not_a_write rfl
theorem ctValidationDone (p : Nat) : Statement (.ctValidationDone p) := not_a_write rfl
theorem buddyHelloRetry (p : Nat) (r : Nat) : Statement (.buddyHelloRetry p r) := not_a_write rfl
theorem buddyHello (chip : Nat) (part : Nat) (idx : Nat) (addr : Nat) (units : Nat) (rank : Nat) (fd : Nat) : Statement (.buddyHello chip part idx addr units rank fd) := not_a_write rfl
theorem buddyReply (part : Nat) (idx : Nat) (status : Nat) (fd : Nat) : Statement (.buddyReply part idx status fd) := not_a_write rfl
theorem mirrorDigest (chip : Nat) (part : Nat) (step : Nat) (idx : Nat) (digest : Nat) : Statement (.mirrorDigest chip part step idx digest) := not_a_write rfl
theorem ckUnit (chip : Nat) (part : Nat) (step : Nat) (slot : Nat) (row : Nat) (x : Nat) (zero : Bool) (done : Bool) : Statement (.ckUnit chip part step slot row x zero done) := not_a_write rfl
theorem checkpointLocalDone (p : Nat) : Statement (.checkpointLocalDone p) := not_a_write rfl
theorem stripeDone (part : Nat) (step : Nat) (slot : Nat) (m : Nat) (d : Nat) (p : Nat) (q : Nat) : Statement (.stripeDone part step slot m d p q) := not_a_write rfl
theorem commitRecordLanded (p : Nat) : Statement (.commitRecordLanded p) := not_a_write rfl
theorem commitAck (part : Nat) (step : Nat) (slot : Nat) (m : Nat) (status : Nat) : Statement (.commitAck part step slot m status) := not_a_write rfl
theorem ckptAbort (part : Nat) (step : Nat) (slot : Nat) (cause : Nat) : Statement (.ckptAbort part step slot cause) := not_a_write rfl
theorem ckTimeout (p : Nat) : Statement (.ckTimeout p) := not_a_write rfl
theorem ckAbort (m : Master) : Statement (.ckAbort m) := of_page _ _ rfl fun _ => ⟨Page.ck.base, by decide⟩
theorem ckNow (m : Master) : Statement (.ckNow m) := of_page _ _ rfl fun _ => ⟨Page.ck.base, by decide⟩
theorem stoExport (m : Master) (slot : Nat) : Statement (.stoExport m slot) := of_page _ _ rfl fun _ => ⟨Page.ck.base, by decide⟩
theorem stoImport (m : Master) (slot : Nat) : Statement (.stoImport m slot) := of_page _ _ rfl fun _ => ⟨Page.ck.base, by decide⟩
theorem stoConsWrite (m : Master) (v : Word) : Statement (.stoConsWrite m v) := of_page _ _ rfl fun _ => ⟨Page.ck.base, by decide⟩
theorem stoProdWrite (m : Master) (v : Word) (chunks : List (List Byte)) : Statement (.stoProdWrite m v chunks) := of_page _ _ rfl fun _ => ⟨Page.ck.base, by decide⟩
theorem loss (m : Master) (rank : Nat) : Statement (.loss m rank) := of_page _ _ rfl fun _ => ⟨Page.rc.base, by decide⟩
theorem halt (m : Master) : Statement (.halt m) := of_page _ _ rfl fun _ => ⟨Page.rc.base, by decide⟩
theorem rollback (m : Master) : Statement (.rollback m) := of_page _ _ rfl fun _ => ⟨Page.rc.base, by decide⟩
theorem pull (m : Master) (reg : Nat) (rank : Nat) : Statement (.pull m reg rank) := of_page _ _ rfl fun _ => ⟨Page.rc.base, by decide⟩
theorem pullReq (chip : Nat) (part : Nat) (src : Nat) (n : Nat) (tgt : Nat) : Statement (.pullReq chip part src n tgt) := not_a_write rfl
theorem pullDone (part : Nat) (status : Nat) (digest : Nat) : Statement (.pullDone part status digest) := not_a_write rfl
theorem loadSlot (m : Master) : Statement (.loadSlot m) := of_page _ _ rfl fun _ => ⟨Page.rc.base, by decide⟩
theorem rebuild (m : Master) (rank : Nat) : Statement (.rebuild m rank) := of_page _ _ rfl fun _ => ⟨Page.rc.base, by decide⟩
theorem clearAbsent (m : Master) : Statement (.clearAbsent m) := of_page _ _ rfl fun _ => ⟨Page.rc.base, by decide⟩
theorem recoveryCmdDone (p : Nat) : Statement (.recoveryCmdDone p) := not_a_write rfl
theorem replicaDigestReady (p : Nat) (set : Nat) : Statement (.replicaDigestReady p set) := not_a_write rfl
theorem digestVote (part : Nat) (step : Nat) (rbase : Nat) (rcount : Nat) (rstep : Nat) (rank : Nat) (digest : Nat) (again : Bool) : Statement (.digestVote part step rbase rcount rstep rank digest again) := not_a_write rfl
theorem verdictDeadline (p : Nat) (set : Nat) : Statement (.verdictDeadline p set) := not_a_write rfl
theorem verdict (part : Nat) (step : Nat) (set : Nat) (outcome : Nat) (maj : Nat) (agree : Nat) (dis : Nat) (missing : Nat) (ranks : List Nat) : Statement (.verdict part step set outcome maj agree dis missing ranks) := not_a_write rfl
theorem verdictTimeout (p : Nat) (set : Nat) : Statement (.verdictTimeout p set) := not_a_write rfl
theorem recheckDeadline (p : Nat) (set : Nat) : Statement (.recheckDeadline p set) := not_a_write rfl
theorem fenceNote (chip : Nat) (part : Nat) : Statement (.fenceNote chip part) := not_a_write rfl
theorem ftDue (d : Nat) (c : Nat) (p : Nat) : Statement (.ftDue d c p) := not_a_write rfl
theorem ftNow (m : Master) : Statement (.ftNow m) := of_page _ _ rfl fun _ => ⟨Page.ft.base, by decide⟩
theorem ftSweep (m : Master) : Statement (.ftSweep m) := of_page _ _ rfl fun _ => ⟨Page.ft.base, by decide⟩
theorem fieldTestStart (d : Nat) (c : Nat) (p : Nat) (temp : Int) : Statement (.fieldTestStart d c p temp) := not_a_write rfl
theorem fieldTestDone (d : Nat) (c : Nat) (p : Nat) (us : Nat) (rise : Nat) (fail : Option (Nat × Nat × Nat × Nat × Int × Nat)) : Statement (.fieldTestDone d c p us rise fail) := not_a_write rfl
theorem forcedSwap (d : Nat) (c : Nat) (p : Nat) (ns : Nat) : Statement (.forcedSwap d c p ns) := not_a_write rfl
theorem forcedSwapAbandon (d : Nat) (c : Nat) (p : Nat) : Statement (.forcedSwapAbandon d c p) := not_a_write rfl
theorem forcedSwapRetry (d : Nat) (c : Nat) (p : Nat) : Statement (.forcedSwapRetry d c p) := not_a_write rfl
theorem sigAck (m : Master) : Statement (.sigAck m) := of_page _ _ rfl fun _ => ⟨Page.sig.base, by decide⟩
theorem sigDataRead : Statement (.sigDataRead) := not_a_write rfl
theorem contextWatchdog (lc : Nat) : Statement (.contextWatchdog lc) := not_a_write rfl
theorem engineWatchdog (d : Nat) (c : Nat) (p : Nat) (e : Nat) : Statement (.engineWatchdog d c p e) := not_a_write rfl
theorem sequencerWatchdog (d : Nat) (c : Nat) (p : Nat) : Statement (.sequencerWatchdog d c p) := not_a_write rfl
theorem programEndWatchdog (lc : Nat) : Statement (.programEndWatchdog lc) := not_a_write rfl
theorem nmuWatchdog (k : Nat) : Statement (.nmuWatchdog k) := not_a_write rfl
theorem rstGo (m : Master) : Statement (.rstGo m) := of_page _ _ rfl fun _ => ⟨Page.rst.base, by decide⟩
theorem resetDone (level : Nat) (upath : Nat) (ns : Nat) : Statement (.resetDone level upath ns) := not_a_write rfl
theorem resetEscalate (level : Nat) (upath : Nat) : Statement (.resetEscalate level upath) := not_a_write rfl
theorem moduleFail : Statement (.moduleFail) := not_a_write rfl
theorem nmuDatapathResetDone (k : Nat) : Statement (.nmuDatapathResetDone k) := not_a_write rfl
theorem nmuFail (k : Nat) : Statement (.nmuFail k) := not_a_write rfl
theorem fwWatchdog (k : Nat) : Statement (.fwWatchdog k) := not_a_write rfl
theorem fwRestartDone (k : Nat) : Statement (.fwRestartDone k) := not_a_write rfl
theorem fwFatalFault (k : Nat) : Statement (.fwFatalFault k) := not_a_write rfl
theorem takeoverDone (ns : Nat) : Statement (.takeoverDone ns) := not_a_write rfl
theorem revertHoldMet : Statement (.revertHoldMet) := not_a_write rfl
theorem failover (m : Master) : Statement (.failover m) := of_page _ _ rfl fun _ => ⟨Page.cc.base, by decide⟩
theorem fpRestart (m : Master) : Statement (.fpRestart m) := of_page _ _ rfl fun _ => ⟨Page.fp.base, by decide⟩
theorem getVersion (m : Master) (n : Nat) (h : MHdr) : Statement (.getVersion m n h) := not_a_write rfl
theorem getHealth (m : Master) (n : Nat) (h : MHdr) : Statement (.getHealth m n h) := not_a_write rfl
theorem fwStage (m : Master) (n : Nat) (h : MHdr) (cls : Nat) (off : Nat) (data : List Byte) : Statement (.fwStage m n h cls off data) := not_a_write rfl
theorem fwVerify (m : Master) (n : Nat) (h : MHdr) (cls : Nat) (img : ImgHdr) : Statement (.fwVerify m n h cls img) := not_a_write rfl
theorem fwActivate (m : Master) (n : Nat) (h : MHdr) (cls : Nat) (H : Nat) : Statement (.fwActivate m n h cls H) := not_a_write rfl
theorem fwAbort (m : Master) (n : Nat) (h : MHdr) (cls : Nat) : Statement (.fwAbort m n h cls) := not_a_write rfl
theorem fwHandover (cls : Nat) : Statement (.fwHandover cls) := not_a_write rfl
theorem fwProbationEnd (cls : Nat) : Statement (.fwProbationEnd cls) := not_a_write rfl
theorem fbClear (m : Master) (n : Nat) (h : MHdr) (tok : Token) : Statement (.fbClear m n h tok) := not_a_write rfl
theorem recW0Read (m : Master) : Statement (.recW0Read m) := not_a_write rfl
theorem recW15Read (m : Master) : Statement (.recW15Read m) := not_a_write rfl
theorem freeze (m : Master) (area : Nat) : Statement (.freeze m area) := of_page _ _ rfl fun _ => ⟨Page.flip.base, by decide⟩
theorem thaw (m : Master) (area : Nat) : Statement (.thaw m area) := of_page _ _ rfl fun _ => ⟨Page.flip.base, by decide⟩
theorem freezeMaxExpiry : Statement (.freezeMaxExpiry) := not_a_write rfl
theorem attRequest (m : Master) (n : Nat) (h : MHdr) (part : Nat) (ek : Bool) (nonce : List Byte) : Statement (.attRequest m n h part ek nonce) := not_a_write rfl
theorem attDataRead (m : Master) : Statement (.attDataRead m) := not_a_write rfl
theorem ekExpiry (part : Nat) : Statement (.ekExpiry part) := not_a_write rfl
theorem keyGrant (m : Master) (n : Nat) (h : MHdr) (b : List Byte) : Statement (.keyGrant m n h b) := not_a_write rfl
theorem keyInstall (m : Master) (n : Nat) (h : MHdr) (part : Nat) (phase : Nat) (idx : Nat) : Statement (.keyInstall m n h part phase idx) := not_a_write rfl
theorem sealPart (m : Master) (n : Nat) (h : MHdr) (part : Nat) (mask : Nat) (ranges : List (Nat × Nat)) (tag : List Byte) : Statement (.sealPart m n h part mask ranges tag) := not_a_write rfl
theorem sealFillDone (p : Nat) : Statement (.sealFillDone p) := not_a_write rfl
theorem sealLoad (m : Master) (n : Nat) (h : MHdr) (addr : Nat) : Statement (.sealLoad m n h addr) := not_a_write rfl
theorem sealedClearDone (p : Nat) : Statement (.sealedClearDone p) := not_a_write rfl
theorem tokenChallenge (m : Master) (n : Nat) (h : MHdr) : Statement (.tokenChallenge m n h) := not_a_write rfl
theorem svnCommit (m : Master) (n : Nat) (h : MHdr) (tok : Token) : Statement (.svnCommit m n h tok) := not_a_write rfl
theorem ownerSet (m : Master) (n : Nat) (h : MHdr) (tok : Token) : Statement (.ownerSet m n h tok) := not_a_write rfl
theorem ownerKey (m : Master) (n : Nat) (h : MHdr) (key : List Byte) : Statement (.ownerKey m n h key) := not_a_write rfl
theorem debugUnlock (m : Master) (n : Nat) (h : MHdr) (tok : Token) : Statement (.debugUnlock m n h tok) := not_a_write rfl
theorem rma (m : Master) (n : Nat) (h : MHdr) (tok : Token) : Statement (.rma m n h tok) := not_a_write rfl
theorem flr : Statement (.flr) := not_a_write rfl
theorem pcieLinkLoss : Statement (.pcieLinkLoss) := not_a_write rfl
theorem bar2Read (off : Nat) (n : Nat) : Statement (.bar2Read off n) := not_a_write rfl
theorem bar2Write (off : Nat) (data : List Byte) : Statement (.bar2Write off data) := not_a_write rfl
theorem bar2SelWrite (m : Master) (v : Word) : Statement (.bar2SelWrite m v) := of_page _ _ rfl fun _ => ⟨Page.hst.base, by decide⟩
theorem mgmtRead (h : MgHdr) (space : Nat) (a : Nat) (n : Nat) : Statement (.mgmtRead h space a n) := not_a_write rfl
theorem mgmtWrite (h : MgHdr) (space : Nat) (a : Nat) (data : List Byte) : Statement (.mgmtWrite h space a data) := not_a_write rfl
theorem sessionOpen (h : MgHdr) : Statement (.sessionOpen h) := not_a_write rfl
theorem sessionClose (h : MgHdr) : Statement (.sessionClose h) := not_a_write rfl
theorem keepalive (h : MgHdr) : Statement (.keepalive h) := not_a_write rfl
theorem sessionIdleTimeout (n : Nat) : Statement (.sessionIdleTimeout n) := not_a_write rfl
theorem seqGapTimeout (n : Nat) : Statement (.seqGapTimeout n) := not_a_write rfl
theorem chipIdWrite (m : Master) (v : Word) : Statement (.chipIdWrite m v) := of_page _ _ rfl fun _ => ⟨Page.glb.base, by decide⟩
theorem ejectLatchOpen : Statement (.ejectLatchOpen) := not_a_write rfl
theorem removeReq (m : Master) : Statement (.removeReq m) := of_page _ _ rfl fun _ => ⟨Page.glb.base, by decide⟩
theorem removeCancel (m : Master) : Statement (.removeCancel m) := of_page _ _ rfl fun _ => ⟨Page.glb.base, by decide⟩
theorem safeToRemove : Statement (.safeToRemove) := not_a_write rfl
theorem flitBoundary (p : Nat) : Statement (.flitBoundary p) := not_a_write rfl
theorem laneSignalLocked (p : Nat) (n : Nat) (w0 : Nat) (w1 : Nat) : Statement (.laneSignalLocked p n w0 w1) := not_a_write rfl
theorem mgmtPortLinkChange (port : Nat) (up : Bool) : Statement (.mgmtPortLinkChange port up) := not_a_write rfl
theorem pcieLinkUp (gen : Nat) (width : Nat) (flit : Bool) : Statement (.pcieLinkUp gen width flit) := not_a_write rfl
theorem ejectLatchClose : Statement (.ejectLatchClose) := not_a_write rfl

end Sys2Proof.Laws.Target
end

