-- ==== Sys2Proof/Laws/Regs.lean ====
section
/-! SUPPORT. Reading registers after writing them: the same register, the same field, another field of the same register, and
registers at other keys; and what reading a field gives once a frame is known. -/
namespace Sys2Proof.Machine

@[simp] theorem State.reg_setReg_same (s : State) (k : Nat) (v : Word) : (s.setReg k v).reg k = v := by
  simp [State.reg, State.setReg]

theorem State.reg_setReg_ne (s : State) (k k' : Nat) (v : Word) (h : k' ≠ k) : (s.setReg k v).reg k' = s.reg k' :=
  smGet_smSet_ne _ _ _ _ _ h

theorem mixed_lt {a b A B : Nat} (ha : a < A) (hb : b < B) : a + b * A < A * B := by
  calc a + b * A < A + b * A := by omega
    _ = (b + 1) * A := by ring
    _ ≤ B * A := Nat.mul_le_mul_right _ hb
    _ = A * B := Nat.mul_comm _ _

/-- A field that fits its word. -/
def Fld.ok (f : Fld) : Prop := f.lo ≤ f.hi ∧ f.hi < 32

/-- A word with a field replaced, as a number. -/
theorem putBits_toNat (w : Word) (hi lo v : Nat) (h : lo ≤ hi) (h' : hi < 32) :
    (putBits w hi lo v).toNat
      = w.toNat % 2 ^ lo + v % 2 ^ (hi + 1 - lo) * 2 ^ lo + w.toNat / 2 ^ (hi + 1) * 2 ^ (hi + 1) := by
  have e : 2 ^ (hi + 1) = 2 ^ lo * 2 ^ (hi + 1 - lo) := by rw [← Nat.pow_add]; congr 1; omega
  have hw := w.isLt
  generalize hx : w.toNat = x at *
  have d : x = x % 2 ^ lo + x / 2 ^ lo % 2 ^ (hi + 1 - lo) * 2 ^ lo + x / 2 ^ (hi + 1) * 2 ^ (hi + 1) := by
    have h1 := Nat.div_add_mod x (2 ^ lo)
    have h2 := Nat.div_add_mod (x / 2 ^ lo) (2 ^ (hi + 1 - lo))
    rw [Nat.div_div_eq_div_mul, ← e] at h2
    have : 2 ^ lo * (x / 2 ^ lo) = 2 ^ (hi + 1) * (x / 2 ^ (hi + 1)) + x / 2 ^ lo % 2 ^ (hi + 1 - lo) * 2 ^ lo := by
      rw [← h2, e]; simp [Nat.mul_add, Nat.mul_assoc, Nat.mul_comm]
    rw [Nat.mul_comm (x / 2 ^ (hi + 1))]; omega
  have lt1 : x % 2 ^ lo < 2 ^ lo := Nat.mod_lt _ (by positivity)
  have lt2 : v % 2 ^ (hi + 1 - lo) < 2 ^ (hi + 1 - lo) := Nat.mod_lt _ (by positivity)
  have key : x - x / 2 ^ lo % 2 ^ (hi + 1 - lo) * 2 ^ lo + v % 2 ^ (hi + 1 - lo) * 2 ^ lo
      = x % 2 ^ lo + v % 2 ^ (hi + 1 - lo) * 2 ^ lo + x / 2 ^ (hi + 1) * 2 ^ (hi + 1) := by omega
  have small : x % 2 ^ lo + v % 2 ^ (hi + 1 - lo) * 2 ^ lo + x / 2 ^ (hi + 1) * 2 ^ (hi + 1) < 2 ^ 32 := by
    have a : x % 2 ^ lo + v % 2 ^ (hi + 1 - lo) * 2 ^ lo < 2 ^ (hi + 1) := by
      rw [e]; exact mixed_lt lt1 lt2
    have q : x / 2 ^ (hi + 1) < 2 ^ (32 - (hi + 1)) := by
      apply Nat.div_lt_of_lt_mul
      rw [← Nat.pow_add]
      rw [show hi + 1 + (32 - (hi + 1)) = 32 by omega]; exact hw
    have p : 2 ^ 32 = 2 ^ (hi + 1) * 2 ^ (32 - (hi + 1)) := by rw [← Nat.pow_add]; congr 1; omega
    rw [p]; exact mixed_lt a q
  simp only [putBits, BitVec.toNat_ofNat, hx]
  rw [key, Nat.mod_eq_of_lt small]

theorem bitsOf_putBits_same (w : Word) (hi lo v : Nat) (h : lo ≤ hi) (h' : hi < 32) :
    bitsOf (putBits w hi lo v).toNat hi lo = v % 2 ^ (hi + 1 - lo) := by
  rw [putBits_toNat w hi lo v h h']
  have e : 2 ^ (hi + 1) = 2 ^ lo * 2 ^ (hi + 1 - lo) := by rw [← Nat.pow_add]; congr 1; omega
  have lt1 : w.toNat % 2 ^ lo < 2 ^ lo := Nat.mod_lt _ (by positivity)
  simp only [bitsOf]
  have : w.toNat % 2 ^ lo + v % 2 ^ (hi + 1 - lo) * 2 ^ lo + w.toNat / 2 ^ (hi + 1) * 2 ^ (hi + 1)
      = w.toNat % 2 ^ lo + 2 ^ lo * (v % 2 ^ (hi + 1 - lo) + 2 ^ (hi + 1 - lo) * (w.toNat / 2 ^ (hi + 1))) := by
    rw [e]; ring
  rw [this, Nat.add_mul_div_left _ _ (by positivity), Nat.div_eq_of_lt lt1]
  simp

theorem bitsOf_putBits_below (w : Word) (hi lo v hi' lo' : Nat) (h : lo ≤ hi) (h' : hi < 32) (hd : hi' < lo) :
    bitsOf (putBits w hi lo v).toNat hi' lo' = bitsOf w.toNat hi' lo' := by
  rw [putBits_toNat w hi lo v h h']
  have hx := w.isLt
  generalize w.toNat = x
  have e : ∀ y, bitsOf y hi' lo' = bitsOf (y % 2 ^ lo) hi' lo' := by
    intro y
    simp only [bitsOf]
    by_cases hl : lo' ≤ hi' + 1
    · have : 2 ^ lo = 2 ^ lo' * (2 ^ (hi' + 1 - lo') * 2 ^ (lo - (hi' + 1))) := by
        rw [← Nat.pow_add, ← Nat.pow_add]; congr 1; omega
      rw [this, Nat.mod_mul_right_div_self, Nat.mod_mul_right_mod]
    · simp [show hi' + 1 - lo' = 0 by omega, Nat.mod_one]
  rw [e, e x]
  have : x % 2 ^ lo + v % 2 ^ (hi + 1 - lo) * 2 ^ lo + x / 2 ^ (hi + 1) * 2 ^ (hi + 1)
      = x % 2 ^ lo + 2 ^ lo * (v % 2 ^ (hi + 1 - lo) + 2 ^ (hi + 1 - lo) * (x / 2 ^ (hi + 1))) := by
    have : 2 ^ (hi + 1) = 2 ^ lo * 2 ^ (hi + 1 - lo) := by rw [← Nat.pow_add]; congr 1; omega
    rw [this]; ring
  rw [this, Nat.add_mul_mod_self_left, Nat.mod_mod]

theorem bitsOf_putBits_above (w : Word) (hi lo v hi' lo' : Nat) (h : lo ≤ hi) (h' : hi < 32) (hd : hi < lo') :
    bitsOf (putBits w hi lo v).toNat hi' lo' = bitsOf w.toNat hi' lo' := by
  rw [putBits_toNat w hi lo v h h']
  generalize w.toNat = x
  have lt : x % 2 ^ lo + v % 2 ^ (hi + 1 - lo) * 2 ^ lo < 2 ^ (hi + 1) := by
    have e : 2 ^ (hi + 1) = 2 ^ lo * 2 ^ (hi + 1 - lo) := by rw [← Nat.pow_add]; congr 1; omega
    have lt1 : x % 2 ^ lo < 2 ^ lo := Nat.mod_lt _ (by positivity)
    have lt2 : v % 2 ^ (hi + 1 - lo) < 2 ^ (hi + 1 - lo) := Nat.mod_lt _ (by positivity)
    rw [e]; exact mixed_lt lt1 lt2
  simp only [bitsOf]
  have e : ∀ y, y / 2 ^ lo' = y / 2 ^ (hi + 1) / 2 ^ (lo' - (hi + 1)) := by
    intro y; rw [Nat.div_div_eq_div_mul, ← Nat.pow_add]; congr 2; omega
  rw [e, e x, Nat.mul_comm (x / 2 ^ (hi + 1)), Nat.add_mul_div_left _ _ (by positivity), Nat.div_eq_of_lt lt, Nat.zero_add]

theorem bitsOf_lt (v hi lo : Nat) : bitsOf v hi lo < 2 ^ (hi + 1 - lo) := Nat.mod_lt _ (by positivity)

theorem State.fld_lt (s : State) (pg : Page) (f : Fld) (b : Nat) : s.fld pg f b < 2 ^ (f.hi + 1 - f.lo) := bitsOf_lt _ _ _

/-- Reading the field that was written. -/
theorem State.fld_setFld_same (s : State) (pg : Page) (f : Fld) (v b : Nat) (h : f.ok) :
    (s.setFld pg f v b).fld pg f b = v % 2 ^ (f.hi + 1 - f.lo) := by
  simp [State.fld, State.setFld, bitsOf_putBits_same _ _ _ _ h.1 h.2]

/-- Reading a field of a register at another key. -/
theorem State.fld_setFld_ne (s : State) (pg pg' : Page) (f g : Fld) (v b b' : Nat)
    (h : regKey pg' g.off b' ≠ regKey pg f.off b) : (s.setFld pg f v b).fld pg' g b' = s.fld pg' g b' := by
  simp [State.fld, State.setFld, State.reg_setReg_ne _ _ _ _ h]

/-- Reading another field of the register that was written. -/
theorem State.fld_setFld_disj (s : State) (pg : Page) (f g : Fld) (v b : Nat) (h : f.ok) (ho : g.off = f.off)
    (hd : g.hi < f.lo ∨ f.hi < g.lo) : (s.setFld pg f v b).fld pg g b = s.fld pg g b := by
  rcases hd with hd | hd
  · simp [State.fld, State.setFld, ho, bitsOf_putBits_below _ _ _ _ _ _ h.1 h.2 hd]
  · simp [State.fld, State.setFld, ho, bitsOf_putBits_above _ _ _ _ _ _ h.1 h.2 hd]

/-- Two keys of registers in pages of different kinds differ. -/
theorem regKey_ne_of_kind {pg pg' : Page} {o o' b b' : Nat} (h : pg'.kind ≠ pg.kind) : regKey pg' o' b' ≠ regKey pg o b := by
  have h1 := Page.kind_lt pg
  have h2 := Page.kind_lt pg'
  simp only [regKey]
  omega

/-- Two keys of registers at different offsets of one page, in one bank, differ. -/
theorem regKey_ne_of_off {pg : Page} {o o' b : Nat} (h : o' ≠ o) : regKey pg o' b ≠ regKey pg o b := by
  simp only [regKey]
  omega

/-- A frame that leaves the pages of a kind alone leaves their fields. -/
theorem State.agree_fld {s t : State} {pg : Page} (h : State.agree (.page pg.kind) s t) (f : Fld) (b : Nat) :
    t.fld pg f b = s.fld pg f b := by
  have : t.reg (regKey pg f.off b) = s.reg (regKey pg f.off b) := h _ (by
    have := Page.kind_lt pg
    simp only [regKey]; omega)
  simp [State.fld, this]

end Sys2Proof.Machine
end

