-- ==== Sys2Proof/Laws/State.lean ====
section
/-! SUPPORT. What the updates of the state leave alone: one lemma per update and field, each true by definition, so that
no proof unfolds an update of the record. -/
namespace Sys2Proof.Machine
set_option Elab.async false

/-! ### State.setReg -/

@[simp] theorem State.setReg_pending (s : State) (k : Nat) (v : Word) : (s.setReg k v).pending = s.pending := by simp only [State.setReg]
@[simp] theorem State.setReg_shadow (s : State) (k : Nat) (v : Word) : (s.setReg k v).shadow = s.shadow := by simp only [State.setReg]
@[simp] theorem State.setReg_mem (s : State) (k : Nat) (v : Word) : (s.setReg k v).mem = s.mem := by simp only [State.setReg]
@[simp] theorem State.setReg_lines (s : State) (k : Nat) (v : Word) : (s.setReg k v).lines = s.lines := by simp only [State.setReg]
@[simp] theorem State.setReg_out (s : State) (k : Nat) (v : Word) : (s.setReg k v).out = s.out := by simp only [State.setReg]
@[simp] theorem State.setReg_fresh (s : State) (k : Nat) (v : Word) : (s.setReg k v).fresh = s.fresh := by simp only [State.setReg]
@[simp] theorem State.setReg_mod_ (s : State) (k : Nat) (v : Word) : (s.setReg k v).mod_ = s.mod_ := by simp only [State.setReg]
@[simp] theorem State.setReg_flash (s : State) (k : Nat) (v : Word) : (s.setReg k v).flash = s.flash := by simp only [State.setReg]
@[simp] theorem State.setReg_flip (s : State) (k : Nat) (v : Word) : (s.setReg k v).flip = s.flip := by simp only [State.setReg]
@[simp] theorem State.setReg_semTick (s : State) (k : Nat) (v : Word) : (s.setReg k v).semTick = s.semTick := by simp only [State.setReg]
@[simp] theorem State.setReg_semTie (s : State) (k : Nat) (v : Word) : (s.setReg k v).semTie = s.semTie := by simp only [State.setReg]
@[simp] theorem State.setReg_slots (s : State) (k : Nat) (v : Word) : (s.setReg k v).slots = s.slots := by simp only [State.setReg]
@[simp] theorem State.setReg_progs (s : State) (k : Nat) (v : Word) : (s.setReg k v).progs = s.progs := by simp only [State.setReg]
@[simp] theorem State.setReg_ring (s : State) (k : Nat) (v : Word) : (s.setReg k v).ring = s.ring := by simp only [State.setReg]
@[simp] theorem State.setReg_heldH (s : State) (k : Nat) (v : Word) : (s.setReg k v).heldH = s.heldH := by simp only [State.setReg]
@[simp] theorem State.setReg_heldM (s : State) (k : Nat) (v : Word) : (s.setReg k v).heldM = s.heldM := by simp only [State.setReg]
@[simp] theorem State.setReg_usedH (s : State) (k : Nat) (v : Word) : (s.setReg k v).usedH = s.usedH := by simp only [State.setReg]
@[simp] theorem State.setReg_usedM (s : State) (k : Nat) (v : Word) : (s.setReg k v).usedM = s.usedM := by simp only [State.setReg]
@[simp] theorem State.setReg_seqs (s : State) (k : Nat) (v : Word) : (s.setReg k v).seqs = s.seqs := by simp only [State.setReg]
@[simp] theorem State.setReg_stks (s : State) (k : Nat) (v : Word) : (s.setReg k v).stks = s.stks := by simp only [State.setReg]
@[simp] theorem State.setReg_reads (s : State) (k : Nat) (v : Word) : (s.setReg k v).reads = s.reads := by simp only [State.setReg]
@[simp] theorem State.setReg_mats (s : State) (k : Nat) (v : Word) : (s.setReg k v).mats = s.mats := by simp only [State.setReg]
@[simp] theorem State.setReg_nmus (s : State) (k : Nat) (v : Word) : (s.setReg k v).nmus = s.nmus := by simp only [State.setReg]
@[simp] theorem State.setReg_seals (s : State) (k : Nat) (v : Word) : (s.setReg k v).seals = s.seals := by simp only [State.setReg]
@[simp] theorem State.setReg_resets (s : State) (k : Nat) (v : Word) : (s.setReg k v).resets = s.resets := by simp only [State.setReg]
@[simp] theorem State.setReg_bundles (s : State) (k : Nat) (v : Word) : (s.setReg k v).bundles = s.bundles := by simp only [State.setReg]
@[simp] theorem State.setReg_lanes (s : State) (k : Nat) (v : Word) : (s.setReg k v).lanes = s.lanes := by simp only [State.setReg]
@[simp] theorem State.setReg_ports (s : State) (k : Nat) (v : Word) : (s.setReg k v).ports = s.ports := by simp only [State.setReg]
@[simp] theorem State.setReg_outst (s : State) (k : Nat) (v : Word) : (s.setReg k v).outst = s.outst := by simp only [State.setReg]
@[simp] theorem State.setReg_plan (s : State) (k : Nat) (v : Word) : (s.setReg k v).plan = s.plan := by simp only [State.setReg]
@[simp] theorem State.setReg_rings (s : State) (k : Nat) (v : Word) : (s.setReg k v).rings = s.rings := by simp only [State.setReg]
@[simp] theorem State.setReg_engs (s : State) (k : Nat) (v : Word) : (s.setReg k v).engs = s.engs := by simp only [State.setReg]
@[simp] theorem State.setReg_keys (s : State) (k : Nat) (v : Word) : (s.setReg k v).keys = s.keys := by simp only [State.setReg]
@[simp] theorem State.setReg_jobKeys (s : State) (k : Nat) (v : Word) : (s.setReg k v).jobKeys = s.jobKeys := by simp only [State.setReg]
@[simp] theorem State.setReg_decap (s : State) (k : Nat) (v : Word) : (s.setReg k v).decap = s.decap := by simp only [State.setReg]
@[simp] theorem State.setReg_frtLo (s : State) (k : Nat) (v : Word) : (s.setReg k v).frtLo = s.frtLo := by simp only [State.setReg]
@[simp] theorem State.setReg_noroute (s : State) (k : Nat) (v : Word) : (s.setReg k v).noroute = s.noroute := by simp only [State.setReg]
@[simp] theorem State.setReg_dropTick (s : State) (k : Nat) (v : Word) : (s.setReg k v).dropTick = s.dropTick := by simp only [State.setReg]
@[simp] theorem State.setReg_cores (s : State) (k : Nat) (v : Word) : (s.setReg k v).cores = s.cores := by simp only [State.setReg]
@[simp] theorem State.setReg_binds (s : State) (k : Nat) (v : Word) : (s.setReg k v).binds = s.binds := by simp only [State.setReg]
@[simp] theorem State.setReg_fences (s : State) (k : Nat) (v : Word) : (s.setReg k v).fences = s.fences := by simp only [State.setReg]
@[simp] theorem State.setReg_parts (s : State) (k : Nat) (v : Word) : (s.setReg k v).parts = s.parts := by simp only [State.setReg]
@[simp] theorem State.setReg_lineXs (s : State) (k : Nat) (v : Word) : (s.setReg k v).lineXs = s.lineXs := by simp only [State.setReg]
@[simp] theorem State.setReg_lineTag (s : State) (k : Nat) (v : Word) : (s.setReg k v).lineTag = s.lineTag := by simp only [State.setReg]
@[simp] theorem State.setReg_eps (s : State) (k : Nat) (v : Word) : (s.setReg k v).eps = s.eps := by simp only [State.setReg]
@[simp] theorem State.setReg_skews (s : State) (k : Nat) (v : Word) : (s.setReg k v).skews = s.skews := by simp only [State.setReg]
@[simp] theorem State.setReg_yoyoCur (s : State) (k : Nat) (v : Word) : (s.setReg k v).yoyoCur = s.yoyoCur := by simp only [State.setReg]
@[simp] theorem State.setReg_yoyoDue (s : State) (k : Nat) (v : Word) : (s.setReg k v).yoyoDue = s.yoyoDue := by simp only [State.setReg]
@[simp] theorem State.setReg_time (s : State) (k : Nat) (v : Word) : (s.setReg k v).time = s.time := by simp only [State.setReg]
@[simp] theorem State.setReg_ftNow (s : State) (k : Nat) (v : Word) : (s.setReg k v).ftNow = s.ftNow := by simp only [State.setReg]
@[simp] theorem State.setReg_ct (s : State) (k : Nat) (v : Word) : (s.setReg k v).ct = s.ct := by simp only [State.setReg]
@[simp] theorem State.setReg_colls (s : State) (k : Nat) (v : Word) : (s.setReg k v).colls = s.colls := by simp only [State.setReg]
@[simp] theorem State.setReg_taps (s : State) (k : Nat) (v : Word) : (s.setReg k v).taps = s.taps := by simp only [State.setReg]
@[simp] theorem State.setReg_nmuDone (s : State) (k : Nat) (v : Word) : (s.setReg k v).nmuDone = s.nmuDone := by simp only [State.setReg]
@[simp] theorem State.setReg_cks (s : State) (k : Nat) (v : Word) : (s.setReg k v).cks = s.cks := by simp only [State.setReg]
@[simp] theorem State.setReg_rcs (s : State) (k : Nat) (v : Word) : (s.setReg k v).rcs = s.rcs := by simp only [State.setReg]
@[simp] theorem State.setReg_mirs (s : State) (k : Nat) (v : Word) : (s.setReg k v).mirs = s.mirs := by simp only [State.setReg]
@[simp] theorem State.setReg_dgs (s : State) (k : Nat) (v : Word) : (s.setReg k v).dgs = s.dgs := by simp only [State.setReg]
@[simp] theorem State.setReg_fts (s : State) (k : Nat) (v : Word) : (s.setReg k v).fts = s.fts := by simp only [State.setReg]
@[simp] theorem State.setReg_sigs (s : State) (k : Nat) (v : Word) : (s.setReg k v).sigs = s.sigs := by simp only [State.setReg]
@[simp] theorem State.setReg_sigAcks (s : State) (k : Nat) (v : Word) : (s.setReg k v).sigAcks = s.sigAcks := by simp only [State.setReg]
@[simp] theorem State.setReg_sealTick (s : State) (k : Nat) (v : Word) : (s.setReg k v).sealTick = s.sealTick := by simp only [State.setReg]
@[simp] theorem State.setReg_faults (s : State) (k : Nat) (v : Word) : (s.setReg k v).faults = s.faults := by simp only [State.setReg]
@[simp] theorem State.setReg_sec (s : State) (k : Nat) (v : Word) : (s.setReg k v).sec = s.sec := by simp only [State.setReg]
@[simp] theorem State.setReg_mbox (s : State) (k : Nat) (v : Word) : (s.setReg k v).mbox = s.mbox := by simp only [State.setReg]
@[simp] theorem State.setReg_mboxMem (s : State) (k : Nat) (v : Word) : (s.setReg k v).mboxMem = s.mboxMem := by simp only [State.setReg]
@[simp] theorem State.setReg_procs (s : State) (k : Nat) (v : Word) : (s.setReg k v).procs = s.procs := by simp only [State.setReg]
@[simp] theorem State.setReg_cc (s : State) (k : Nat) (v : Word) : (s.setReg k v).cc = s.cc := by simp only [State.setReg]
@[simp] theorem State.setReg_upds (s : State) (k : Nat) (v : Word) : (s.setReg k v).upds = s.upds := by simp only [State.setReg]
@[simp] theorem State.setReg_sess (s : State) (k : Nat) (v : Word) : (s.setReg k v).sess = s.sess := by simp only [State.setReg]
@[simp] theorem State.setReg_mg (s : State) (k : Nat) (v : Word) : (s.setReg k v).mg = s.mg := by simp only [State.setReg]
@[simp] theorem State.setReg_portCnt (s : State) (k : Nat) (v : Word) : (s.setReg k v).portCnt = s.portCnt := by simp only [State.setReg]

/-! ### State.setFld -/

@[simp] theorem State.setFld_pending (s : State) (pg : Page) (f : Fld) (v b : Nat) : (s.setFld pg f v b).pending = s.pending := State.setReg_pending _ _ _
@[simp] theorem State.setFld_shadow (s : State) (pg : Page) (f : Fld) (v b : Nat) : (s.setFld pg f v b).shadow = s.shadow := State.setReg_shadow _ _ _
@[simp] theorem State.setFld_mem (s : State) (pg : Page) (f : Fld) (v b : Nat) : (s.setFld pg f v b).mem = s.mem := State.setReg_mem _ _ _
@[simp] theorem State.setFld_lines (s : State) (pg : Page) (f : Fld) (v b : Nat) : (s.setFld pg f v b).lines = s.lines := State.setReg_lines _ _ _
@[simp] theorem State.setFld_out (s : State) (pg : Page) (f : Fld) (v b : Nat) : (s.setFld pg f v b).out = s.out := State.setReg_out _ _ _
@[simp] theorem State.setFld_fresh (s : State) (pg : Page) (f : Fld) (v b : Nat) : (s.setFld pg f v b).fresh = s.fresh := State.setReg_fresh _ _ _
@[simp] theorem State.setFld_mod_ (s : State) (pg : Page) (f : Fld) (v b : Nat) : (s.setFld pg f v b).mod_ = s.mod_ := State.setReg_mod_ _ _ _
@[simp] theorem State.setFld_flash (s : State) (pg : Page) (f : Fld) (v b : Nat) : (s.setFld pg f v b).flash = s.flash := State.setReg_flash _ _ _
@[simp] theorem State.setFld_flip (s : State) (pg : Page) (f : Fld) (v b : Nat) : (s.setFld pg f v b).flip = s.flip := State.setReg_flip _ _ _
@[simp] theorem State.setFld_semTick (s : State) (pg : Page) (f : Fld) (v b : Nat) : (s.setFld pg f v b).semTick = s.semTick := State.setReg_semTick _ _ _
@[simp] theorem State.setFld_semTie (s : State) (pg : Page) (f : Fld) (v b : Nat) : (s.setFld pg f v b).semTie = s.semTie := State.setReg_semTie _ _ _
@[simp] theorem State.setFld_slots (s : State) (pg : Page) (f : Fld) (v b : Nat) : (s.setFld pg f v b).slots = s.slots := State.setReg_slots _ _ _
@[simp] theorem State.setFld_progs (s : State) (pg : Page) (f : Fld) (v b : Nat) : (s.setFld pg f v b).progs = s.progs := State.setReg_progs _ _ _
@[simp] theorem State.setFld_ring (s : State) (pg : Page) (f : Fld) (v b : Nat) : (s.setFld pg f v b).ring = s.ring := State.setReg_ring _ _ _
@[simp] theorem State.setFld_heldH (s : State) (pg : Page) (f : Fld) (v b : Nat) : (s.setFld pg f v b).heldH = s.heldH := State.setReg_heldH _ _ _
@[simp] theorem State.setFld_heldM (s : State) (pg : Page) (f : Fld) (v b : Nat) : (s.setFld pg f v b).heldM = s.heldM := State.setReg_heldM _ _ _
@[simp] theorem State.setFld_usedH (s : State) (pg : Page) (f : Fld) (v b : Nat) : (s.setFld pg f v b).usedH = s.usedH := State.setReg_usedH _ _ _
@[simp] theorem State.setFld_usedM (s : State) (pg : Page) (f : Fld) (v b : Nat) : (s.setFld pg f v b).usedM = s.usedM := State.setReg_usedM _ _ _
@[simp] theorem State.setFld_seqs (s : State) (pg : Page) (f : Fld) (v b : Nat) : (s.setFld pg f v b).seqs = s.seqs := State.setReg_seqs _ _ _
@[simp] theorem State.setFld_stks (s : State) (pg : Page) (f : Fld) (v b : Nat) : (s.setFld pg f v b).stks = s.stks := State.setReg_stks _ _ _
@[simp] theorem State.setFld_reads (s : State) (pg : Page) (f : Fld) (v b : Nat) : (s.setFld pg f v b).reads = s.reads := State.setReg_reads _ _ _
@[simp] theorem State.setFld_mats (s : State) (pg : Page) (f : Fld) (v b : Nat) : (s.setFld pg f v b).mats = s.mats := State.setReg_mats _ _ _
@[simp] theorem State.setFld_nmus (s : State) (pg : Page) (f : Fld) (v b : Nat) : (s.setFld pg f v b).nmus = s.nmus := State.setReg_nmus _ _ _
@[simp] theorem State.setFld_seals (s : State) (pg : Page) (f : Fld) (v b : Nat) : (s.setFld pg f v b).seals = s.seals := State.setReg_seals _ _ _
@[simp] theorem State.setFld_resets (s : State) (pg : Page) (f : Fld) (v b : Nat) : (s.setFld pg f v b).resets = s.resets := State.setReg_resets _ _ _
@[simp] theorem State.setFld_bundles (s : State) (pg : Page) (f : Fld) (v b : Nat) : (s.setFld pg f v b).bundles = s.bundles := State.setReg_bundles _ _ _
@[simp] theorem State.setFld_lanes (s : State) (pg : Page) (f : Fld) (v b : Nat) : (s.setFld pg f v b).lanes = s.lanes := State.setReg_lanes _ _ _
@[simp] theorem State.setFld_ports (s : State) (pg : Page) (f : Fld) (v b : Nat) : (s.setFld pg f v b).ports = s.ports := State.setReg_ports _ _ _
@[simp] theorem State.setFld_outst (s : State) (pg : Page) (f : Fld) (v b : Nat) : (s.setFld pg f v b).outst = s.outst := State.setReg_outst _ _ _
@[simp] theorem State.setFld_plan (s : State) (pg : Page) (f : Fld) (v b : Nat) : (s.setFld pg f v b).plan = s.plan := State.setReg_plan _ _ _
@[simp] theorem State.setFld_rings (s : State) (pg : Page) (f : Fld) (v b : Nat) : (s.setFld pg f v b).rings = s.rings := State.setReg_rings _ _ _
@[simp] theorem State.setFld_engs (s : State) (pg : Page) (f : Fld) (v b : Nat) : (s.setFld pg f v b).engs = s.engs := State.setReg_engs _ _ _
@[simp] theorem State.setFld_keys (s : State) (pg : Page) (f : Fld) (v b : Nat) : (s.setFld pg f v b).keys = s.keys := State.setReg_keys _ _ _
@[simp] theorem State.setFld_jobKeys (s : State) (pg : Page) (f : Fld) (v b : Nat) : (s.setFld pg f v b).jobKeys = s.jobKeys := State.setReg_jobKeys _ _ _
@[simp] theorem State.setFld_decap (s : State) (pg : Page) (f : Fld) (v b : Nat) : (s.setFld pg f v b).decap = s.decap := State.setReg_decap _ _ _
@[simp] theorem State.setFld_frtLo (s : State) (pg : Page) (f : Fld) (v b : Nat) : (s.setFld pg f v b).frtLo = s.frtLo := State.setReg_frtLo _ _ _
@[simp] theorem State.setFld_noroute (s : State) (pg : Page) (f : Fld) (v b : Nat) : (s.setFld pg f v b).noroute = s.noroute := State.setReg_noroute _ _ _
@[simp] theorem State.setFld_dropTick (s : State) (pg : Page) (f : Fld) (v b : Nat) : (s.setFld pg f v b).dropTick = s.dropTick := State.setReg_dropTick _ _ _
@[simp] theorem State.setFld_cores (s : State) (pg : Page) (f : Fld) (v b : Nat) : (s.setFld pg f v b).cores = s.cores := State.setReg_cores _ _ _
@[simp] theorem State.setFld_binds (s : State) (pg : Page) (f : Fld) (v b : Nat) : (s.setFld pg f v b).binds = s.binds := State.setReg_binds _ _ _
@[simp] theorem State.setFld_fences (s : State) (pg : Page) (f : Fld) (v b : Nat) : (s.setFld pg f v b).fences = s.fences := State.setReg_fences _ _ _
@[simp] theorem State.setFld_parts (s : State) (pg : Page) (f : Fld) (v b : Nat) : (s.setFld pg f v b).parts = s.parts := State.setReg_parts _ _ _
@[simp] theorem State.setFld_lineXs (s : State) (pg : Page) (f : Fld) (v b : Nat) : (s.setFld pg f v b).lineXs = s.lineXs := State.setReg_lineXs _ _ _
@[simp] theorem State.setFld_lineTag (s : State) (pg : Page) (f : Fld) (v b : Nat) : (s.setFld pg f v b).lineTag = s.lineTag := State.setReg_lineTag _ _ _
@[simp] theorem State.setFld_eps (s : State) (pg : Page) (f : Fld) (v b : Nat) : (s.setFld pg f v b).eps = s.eps := State.setReg_eps _ _ _
@[simp] theorem State.setFld_skews (s : State) (pg : Page) (f : Fld) (v b : Nat) : (s.setFld pg f v b).skews = s.skews := State.setReg_skews _ _ _
@[simp] theorem State.setFld_yoyoCur (s : State) (pg : Page) (f : Fld) (v b : Nat) : (s.setFld pg f v b).yoyoCur = s.yoyoCur := State.setReg_yoyoCur _ _ _
@[simp] theorem State.setFld_yoyoDue (s : State) (pg : Page) (f : Fld) (v b : Nat) : (s.setFld pg f v b).yoyoDue = s.yoyoDue := State.setReg_yoyoDue _ _ _
@[simp] theorem State.setFld_time (s : State) (pg : Page) (f : Fld) (v b : Nat) : (s.setFld pg f v b).time = s.time := State.setReg_time _ _ _
@[simp] theorem State.setFld_ftNow (s : State) (pg : Page) (f : Fld) (v b : Nat) : (s.setFld pg f v b).ftNow = s.ftNow := State.setReg_ftNow _ _ _
@[simp] theorem State.setFld_ct (s : State) (pg : Page) (f : Fld) (v b : Nat) : (s.setFld pg f v b).ct = s.ct := State.setReg_ct _ _ _
@[simp] theorem State.setFld_colls (s : State) (pg : Page) (f : Fld) (v b : Nat) : (s.setFld pg f v b).colls = s.colls := State.setReg_colls _ _ _
@[simp] theorem State.setFld_taps (s : State) (pg : Page) (f : Fld) (v b : Nat) : (s.setFld pg f v b).taps = s.taps := State.setReg_taps _ _ _
@[simp] theorem State.setFld_nmuDone (s : State) (pg : Page) (f : Fld) (v b : Nat) : (s.setFld pg f v b).nmuDone = s.nmuDone := State.setReg_nmuDone _ _ _
@[simp] theorem State.setFld_cks (s : State) (pg : Page) (f : Fld) (v b : Nat) : (s.setFld pg f v b).cks = s.cks := State.setReg_cks _ _ _
@[simp] theorem State.setFld_rcs (s : State) (pg : Page) (f : Fld) (v b : Nat) : (s.setFld pg f v b).rcs = s.rcs := State.setReg_rcs _ _ _
@[simp] theorem State.setFld_mirs (s : State) (pg : Page) (f : Fld) (v b : Nat) : (s.setFld pg f v b).mirs = s.mirs := State.setReg_mirs _ _ _
@[simp] theorem State.setFld_dgs (s : State) (pg : Page) (f : Fld) (v b : Nat) : (s.setFld pg f v b).dgs = s.dgs := State.setReg_dgs _ _ _
@[simp] theorem State.setFld_fts (s : State) (pg : Page) (f : Fld) (v b : Nat) : (s.setFld pg f v b).fts = s.fts := State.setReg_fts _ _ _
@[simp] theorem State.setFld_sigs (s : State) (pg : Page) (f : Fld) (v b : Nat) : (s.setFld pg f v b).sigs = s.sigs := State.setReg_sigs _ _ _
@[simp] theorem State.setFld_sigAcks (s : State) (pg : Page) (f : Fld) (v b : Nat) : (s.setFld pg f v b).sigAcks = s.sigAcks := State.setReg_sigAcks _ _ _
@[simp] theorem State.setFld_sealTick (s : State) (pg : Page) (f : Fld) (v b : Nat) : (s.setFld pg f v b).sealTick = s.sealTick := State.setReg_sealTick _ _ _
@[simp] theorem State.setFld_faults (s : State) (pg : Page) (f : Fld) (v b : Nat) : (s.setFld pg f v b).faults = s.faults := State.setReg_faults _ _ _
@[simp] theorem State.setFld_sec (s : State) (pg : Page) (f : Fld) (v b : Nat) : (s.setFld pg f v b).sec = s.sec := State.setReg_sec _ _ _
@[simp] theorem State.setFld_mbox (s : State) (pg : Page) (f : Fld) (v b : Nat) : (s.setFld pg f v b).mbox = s.mbox := State.setReg_mbox _ _ _
@[simp] theorem State.setFld_mboxMem (s : State) (pg : Page) (f : Fld) (v b : Nat) : (s.setFld pg f v b).mboxMem = s.mboxMem := State.setReg_mboxMem _ _ _
@[simp] theorem State.setFld_procs (s : State) (pg : Page) (f : Fld) (v b : Nat) : (s.setFld pg f v b).procs = s.procs := State.setReg_procs _ _ _
@[simp] theorem State.setFld_cc (s : State) (pg : Page) (f : Fld) (v b : Nat) : (s.setFld pg f v b).cc = s.cc := State.setReg_cc _ _ _
@[simp] theorem State.setFld_upds (s : State) (pg : Page) (f : Fld) (v b : Nat) : (s.setFld pg f v b).upds = s.upds := State.setReg_upds _ _ _
@[simp] theorem State.setFld_sess (s : State) (pg : Page) (f : Fld) (v b : Nat) : (s.setFld pg f v b).sess = s.sess := State.setReg_sess _ _ _
@[simp] theorem State.setFld_mg (s : State) (pg : Page) (f : Fld) (v b : Nat) : (s.setFld pg f v b).mg = s.mg := State.setReg_mg _ _ _
@[simp] theorem State.setFld_portCnt (s : State) (pg : Page) (f : Fld) (v b : Nat) : (s.setFld pg f v b).portCnt = s.portCnt := State.setReg_portCnt _ _ _

/-! ### State.setFld64 -/

@[simp] theorem State.setFld64_pending (s : State) (pg : Page) (f : Fld) (v b : Nat) : (s.setFld64 pg f v b).pending = s.pending := (State.setFld_pending _ _ _ _ _).trans (State.setFld_pending _ _ _ _ _)
@[simp] theorem State.setFld64_shadow (s : State) (pg : Page) (f : Fld) (v b : Nat) : (s.setFld64 pg f v b).shadow = s.shadow := (State.setFld_shadow _ _ _ _ _).trans (State.setFld_shadow _ _ _ _ _)
@[simp] theorem State.setFld64_mem (s : State) (pg : Page) (f : Fld) (v b : Nat) : (s.setFld64 pg f v b).mem = s.mem := (State.setFld_mem _ _ _ _ _).trans (State.setFld_mem _ _ _ _ _)
@[simp] theorem State.setFld64_lines (s : State) (pg : Page) (f : Fld) (v b : Nat) : (s.setFld64 pg f v b).lines = s.lines := (State.setFld_lines _ _ _ _ _).trans (State.setFld_lines _ _ _ _ _)
@[simp] theorem State.setFld64_out (s : State) (pg : Page) (f : Fld) (v b : Nat) : (s.setFld64 pg f v b).out = s.out := (State.setFld_out _ _ _ _ _).trans (State.setFld_out _ _ _ _ _)
@[simp] theorem State.setFld64_fresh (s : State) (pg : Page) (f : Fld) (v b : Nat) : (s.setFld64 pg f v b).fresh = s.fresh := (State.setFld_fresh _ _ _ _ _).trans (State.setFld_fresh _ _ _ _ _)
@[simp] theorem State.setFld64_mod_ (s : State) (pg : Page) (f : Fld) (v b : Nat) : (s.setFld64 pg f v b).mod_ = s.mod_ := (State.setFld_mod_ _ _ _ _ _).trans (State.setFld_mod_ _ _ _ _ _)
@[simp] theorem State.setFld64_flash (s : State) (pg : Page) (f : Fld) (v b : Nat) : (s.setFld64 pg f v b).flash = s.flash := (State.setFld_flash _ _ _ _ _).trans (State.setFld_flash _ _ _ _ _)
@[simp] theorem State.setFld64_flip (s : State) (pg : Page) (f : Fld) (v b : Nat) : (s.setFld64 pg f v b).flip = s.flip := (State.setFld_flip _ _ _ _ _).trans (State.setFld_flip _ _ _ _ _)
@[simp] theorem State.setFld64_semTick (s : State) (pg : Page) (f : Fld) (v b : Nat) : (s.setFld64 pg f v b).semTick = s.semTick := (State.setFld_semTick _ _ _ _ _).trans (State.setFld_semTick _ _ _ _ _)
@[simp] theorem State.setFld64_semTie (s : State) (pg : Page) (f : Fld) (v b : Nat) : (s.setFld64 pg f v b).semTie = s.semTie := (State.setFld_semTie _ _ _ _ _).trans (State.setFld_semTie _ _ _ _ _)
@[simp] theorem State.setFld64_slots (s : State) (pg : Page) (f : Fld) (v b : Nat) : (s.setFld64 pg f v b).slots = s.slots := (State.setFld_slots _ _ _ _ _).trans (State.setFld_slots _ _ _ _ _)
@[simp] theorem State.setFld64_progs (s : State) (pg : Page) (f : Fld) (v b : Nat) : (s.setFld64 pg f v b).progs = s.progs := (State.setFld_progs _ _ _ _ _).trans (State.setFld_progs _ _ _ _ _)
@[simp] theorem State.setFld64_ring (s : State) (pg : Page) (f : Fld) (v b : Nat) : (s.setFld64 pg f v b).ring = s.ring := (State.setFld_ring _ _ _ _ _).trans (State.setFld_ring _ _ _ _ _)
@[simp] theorem State.setFld64_heldH (s : State) (pg : Page) (f : Fld) (v b : Nat) : (s.setFld64 pg f v b).heldH = s.heldH := (State.setFld_heldH _ _ _ _ _).trans (State.setFld_heldH _ _ _ _ _)
@[simp] theorem State.setFld64_heldM (s : State) (pg : Page) (f : Fld) (v b : Nat) : (s.setFld64 pg f v b).heldM = s.heldM := (State.setFld_heldM _ _ _ _ _).trans (State.setFld_heldM _ _ _ _ _)
@[simp] theorem State.setFld64_usedH (s : State) (pg : Page) (f : Fld) (v b : Nat) : (s.setFld64 pg f v b).usedH = s.usedH := (State.setFld_usedH _ _ _ _ _).trans (State.setFld_usedH _ _ _ _ _)
@[simp] theorem State.setFld64_usedM (s : State) (pg : Page) (f : Fld) (v b : Nat) : (s.setFld64 pg f v b).usedM = s.usedM := (State.setFld_usedM _ _ _ _ _).trans (State.setFld_usedM _ _ _ _ _)
@[simp] theorem State.setFld64_seqs (s : State) (pg : Page) (f : Fld) (v b : Nat) : (s.setFld64 pg f v b).seqs = s.seqs := (State.setFld_seqs _ _ _ _ _).trans (State.setFld_seqs _ _ _ _ _)
@[simp] theorem State.setFld64_stks (s : State) (pg : Page) (f : Fld) (v b : Nat) : (s.setFld64 pg f v b).stks = s.stks := (State.setFld_stks _ _ _ _ _).trans (State.setFld_stks _ _ _ _ _)
@[simp] theorem State.setFld64_reads (s : State) (pg : Page) (f : Fld) (v b : Nat) : (s.setFld64 pg f v b).reads = s.reads := (State.setFld_reads _ _ _ _ _).trans (State.setFld_reads _ _ _ _ _)
@[simp] theorem State.setFld64_mats (s : State) (pg : Page) (f : Fld) (v b : Nat) : (s.setFld64 pg f v b).mats = s.mats := (State.setFld_mats _ _ _ _ _).trans (State.setFld_mats _ _ _ _ _)
@[simp] theorem State.setFld64_nmus (s : State) (pg : Page) (f : Fld) (v b : Nat) : (s.setFld64 pg f v b).nmus = s.nmus := (State.setFld_nmus _ _ _ _ _).trans (State.setFld_nmus _ _ _ _ _)
@[simp] theorem State.setFld64_seals (s : State) (pg : Page) (f : Fld) (v b : Nat) : (s.setFld64 pg f v b).seals = s.seals := (State.setFld_seals _ _ _ _ _).trans (State.setFld_seals _ _ _ _ _)
@[simp] theorem State.setFld64_resets (s : State) (pg : Page) (f : Fld) (v b : Nat) : (s.setFld64 pg f v b).resets = s.resets := (State.setFld_resets _ _ _ _ _).trans (State.setFld_resets _ _ _ _ _)
@[simp] theorem State.setFld64_bundles (s : State) (pg : Page) (f : Fld) (v b : Nat) : (s.setFld64 pg f v b).bundles = s.bundles := (State.setFld_bundles _ _ _ _ _).trans (State.setFld_bundles _ _ _ _ _)
@[simp] theorem State.setFld64_lanes (s : State) (pg : Page) (f : Fld) (v b : Nat) : (s.setFld64 pg f v b).lanes = s.lanes := (State.setFld_lanes _ _ _ _ _).trans (State.setFld_lanes _ _ _ _ _)
@[simp] theorem State.setFld64_ports (s : State) (pg : Page) (f : Fld) (v b : Nat) : (s.setFld64 pg f v b).ports = s.ports := (State.setFld_ports _ _ _ _ _).trans (State.setFld_ports _ _ _ _ _)
@[simp] theorem State.setFld64_outst (s : State) (pg : Page) (f : Fld) (v b : Nat) : (s.setFld64 pg f v b).outst = s.outst := (State.setFld_outst _ _ _ _ _).trans (State.setFld_outst _ _ _ _ _)
@[simp] theorem State.setFld64_plan (s : State) (pg : Page) (f : Fld) (v b : Nat) : (s.setFld64 pg f v b).plan = s.plan := (State.setFld_plan _ _ _ _ _).trans (State.setFld_plan _ _ _ _ _)
@[simp] theorem State.setFld64_rings (s : State) (pg : Page) (f : Fld) (v b : Nat) : (s.setFld64 pg f v b).rings = s.rings := (State.setFld_rings _ _ _ _ _).trans (State.setFld_rings _ _ _ _ _)
@[simp] theorem State.setFld64_engs (s : State) (pg : Page) (f : Fld) (v b : Nat) : (s.setFld64 pg f v b).engs = s.engs := (State.setFld_engs _ _ _ _ _).trans (State.setFld_engs _ _ _ _ _)
@[simp] theorem State.setFld64_keys (s : State) (pg : Page) (f : Fld) (v b : Nat) : (s.setFld64 pg f v b).keys = s.keys := (State.setFld_keys _ _ _ _ _).trans (State.setFld_keys _ _ _ _ _)
@[simp] theorem State.setFld64_jobKeys (s : State) (pg : Page) (f : Fld) (v b : Nat) : (s.setFld64 pg f v b).jobKeys = s.jobKeys := (State.setFld_jobKeys _ _ _ _ _).trans (State.setFld_jobKeys _ _ _ _ _)
@[simp] theorem State.setFld64_decap (s : State) (pg : Page) (f : Fld) (v b : Nat) : (s.setFld64 pg f v b).decap = s.decap := (State.setFld_decap _ _ _ _ _).trans (State.setFld_decap _ _ _ _ _)
@[simp] theorem State.setFld64_frtLo (s : State) (pg : Page) (f : Fld) (v b : Nat) : (s.setFld64 pg f v b).frtLo = s.frtLo := (State.setFld_frtLo _ _ _ _ _).trans (State.setFld_frtLo _ _ _ _ _)
@[simp] theorem State.setFld64_noroute (s : State) (pg : Page) (f : Fld) (v b : Nat) : (s.setFld64 pg f v b).noroute = s.noroute := (State.setFld_noroute _ _ _ _ _).trans (State.setFld_noroute _ _ _ _ _)
@[simp] theorem State.setFld64_dropTick (s : State) (pg : Page) (f : Fld) (v b : Nat) : (s.setFld64 pg f v b).dropTick = s.dropTick := (State.setFld_dropTick _ _ _ _ _).trans (State.setFld_dropTick _ _ _ _ _)
@[simp] theorem State.setFld64_cores (s : State) (pg : Page) (f : Fld) (v b : Nat) : (s.setFld64 pg f v b).cores = s.cores := (State.setFld_cores _ _ _ _ _).trans (State.setFld_cores _ _ _ _ _)
@[simp] theorem State.setFld64_binds (s : State) (pg : Page) (f : Fld) (v b : Nat) : (s.setFld64 pg f v b).binds = s.binds := (State.setFld_binds _ _ _ _ _).trans (State.setFld_binds _ _ _ _ _)
@[simp] theorem State.setFld64_fences (s : State) (pg : Page) (f : Fld) (v b : Nat) : (s.setFld64 pg f v b).fences = s.fences := (State.setFld_fences _ _ _ _ _).trans (State.setFld_fences _ _ _ _ _)
@[simp] theorem State.setFld64_parts (s : State) (pg : Page) (f : Fld) (v b : Nat) : (s.setFld64 pg f v b).parts = s.parts := (State.setFld_parts _ _ _ _ _).trans (State.setFld_parts _ _ _ _ _)
@[simp] theorem State.setFld64_lineXs (s : State) (pg : Page) (f : Fld) (v b : Nat) : (s.setFld64 pg f v b).lineXs = s.lineXs := (State.setFld_lineXs _ _ _ _ _).trans (State.setFld_lineXs _ _ _ _ _)
@[simp] theorem State.setFld64_lineTag (s : State) (pg : Page) (f : Fld) (v b : Nat) : (s.setFld64 pg f v b).lineTag = s.lineTag := (State.setFld_lineTag _ _ _ _ _).trans (State.setFld_lineTag _ _ _ _ _)
@[simp] theorem State.setFld64_eps (s : State) (pg : Page) (f : Fld) (v b : Nat) : (s.setFld64 pg f v b).eps = s.eps := (State.setFld_eps _ _ _ _ _).trans (State.setFld_eps _ _ _ _ _)
@[simp] theorem State.setFld64_skews (s : State) (pg : Page) (f : Fld) (v b : Nat) : (s.setFld64 pg f v b).skews = s.skews := (State.setFld_skews _ _ _ _ _).trans (State.setFld_skews _ _ _ _ _)
@[simp] theorem State.setFld64_yoyoCur (s : State) (pg : Page) (f : Fld) (v b : Nat) : (s.setFld64 pg f v b).yoyoCur = s.yoyoCur := (State.setFld_yoyoCur _ _ _ _ _).trans (State.setFld_yoyoCur _ _ _ _ _)
@[simp] theorem State.setFld64_yoyoDue (s : State) (pg : Page) (f : Fld) (v b : Nat) : (s.setFld64 pg f v b).yoyoDue = s.yoyoDue := (State.setFld_yoyoDue _ _ _ _ _).trans (State.setFld_yoyoDue _ _ _ _ _)
@[simp] theorem State.setFld64_time (s : State) (pg : Page) (f : Fld) (v b : Nat) : (s.setFld64 pg f v b).time = s.time := (State.setFld_time _ _ _ _ _).trans (State.setFld_time _ _ _ _ _)
@[simp] theorem State.setFld64_ftNow (s : State) (pg : Page) (f : Fld) (v b : Nat) : (s.setFld64 pg f v b).ftNow = s.ftNow := (State.setFld_ftNow _ _ _ _ _).trans (State.setFld_ftNow _ _ _ _ _)
@[simp] theorem State.setFld64_ct (s : State) (pg : Page) (f : Fld) (v b : Nat) : (s.setFld64 pg f v b).ct = s.ct := (State.setFld_ct _ _ _ _ _).trans (State.setFld_ct _ _ _ _ _)
@[simp] theorem State.setFld64_colls (s : State) (pg : Page) (f : Fld) (v b : Nat) : (s.setFld64 pg f v b).colls = s.colls := (State.setFld_colls _ _ _ _ _).trans (State.setFld_colls _ _ _ _ _)
@[simp] theorem State.setFld64_taps (s : State) (pg : Page) (f : Fld) (v b : Nat) : (s.setFld64 pg f v b).taps = s.taps := (State.setFld_taps _ _ _ _ _).trans (State.setFld_taps _ _ _ _ _)
@[simp] theorem State.setFld64_nmuDone (s : State) (pg : Page) (f : Fld) (v b : Nat) : (s.setFld64 pg f v b).nmuDone = s.nmuDone := (State.setFld_nmuDone _ _ _ _ _).trans (State.setFld_nmuDone _ _ _ _ _)
@[simp] theorem State.setFld64_cks (s : State) (pg : Page) (f : Fld) (v b : Nat) : (s.setFld64 pg f v b).cks = s.cks := (State.setFld_cks _ _ _ _ _).trans (State.setFld_cks _ _ _ _ _)
@[simp] theorem State.setFld64_rcs (s : State) (pg : Page) (f : Fld) (v b : Nat) : (s.setFld64 pg f v b).rcs = s.rcs := (State.setFld_rcs _ _ _ _ _).trans (State.setFld_rcs _ _ _ _ _)
@[simp] theorem State.setFld64_mirs (s : State) (pg : Page) (f : Fld) (v b : Nat) : (s.setFld64 pg f v b).mirs = s.mirs := (State.setFld_mirs _ _ _ _ _).trans (State.setFld_mirs _ _ _ _ _)
@[simp] theorem State.setFld64_dgs (s : State) (pg : Page) (f : Fld) (v b : Nat) : (s.setFld64 pg f v b).dgs = s.dgs := (State.setFld_dgs _ _ _ _ _).trans (State.setFld_dgs _ _ _ _ _)
@[simp] theorem State.setFld64_fts (s : State) (pg : Page) (f : Fld) (v b : Nat) : (s.setFld64 pg f v b).fts = s.fts := (State.setFld_fts _ _ _ _ _).trans (State.setFld_fts _ _ _ _ _)
@[simp] theorem State.setFld64_sigs (s : State) (pg : Page) (f : Fld) (v b : Nat) : (s.setFld64 pg f v b).sigs = s.sigs := (State.setFld_sigs _ _ _ _ _).trans (State.setFld_sigs _ _ _ _ _)
@[simp] theorem State.setFld64_sigAcks (s : State) (pg : Page) (f : Fld) (v b : Nat) : (s.setFld64 pg f v b).sigAcks = s.sigAcks := (State.setFld_sigAcks _ _ _ _ _).trans (State.setFld_sigAcks _ _ _ _ _)
@[simp] theorem State.setFld64_sealTick (s : State) (pg : Page) (f : Fld) (v b : Nat) : (s.setFld64 pg f v b).sealTick = s.sealTick := (State.setFld_sealTick _ _ _ _ _).trans (State.setFld_sealTick _ _ _ _ _)
@[simp] theorem State.setFld64_faults (s : State) (pg : Page) (f : Fld) (v b : Nat) : (s.setFld64 pg f v b).faults = s.faults := (State.setFld_faults _ _ _ _ _).trans (State.setFld_faults _ _ _ _ _)
@[simp] theorem State.setFld64_sec (s : State) (pg : Page) (f : Fld) (v b : Nat) : (s.setFld64 pg f v b).sec = s.sec := (State.setFld_sec _ _ _ _ _).trans (State.setFld_sec _ _ _ _ _)
@[simp] theorem State.setFld64_mbox (s : State) (pg : Page) (f : Fld) (v b : Nat) : (s.setFld64 pg f v b).mbox = s.mbox := (State.setFld_mbox _ _ _ _ _).trans (State.setFld_mbox _ _ _ _ _)
@[simp] theorem State.setFld64_mboxMem (s : State) (pg : Page) (f : Fld) (v b : Nat) : (s.setFld64 pg f v b).mboxMem = s.mboxMem := (State.setFld_mboxMem _ _ _ _ _).trans (State.setFld_mboxMem _ _ _ _ _)
@[simp] theorem State.setFld64_procs (s : State) (pg : Page) (f : Fld) (v b : Nat) : (s.setFld64 pg f v b).procs = s.procs := (State.setFld_procs _ _ _ _ _).trans (State.setFld_procs _ _ _ _ _)
@[simp] theorem State.setFld64_cc (s : State) (pg : Page) (f : Fld) (v b : Nat) : (s.setFld64 pg f v b).cc = s.cc := (State.setFld_cc _ _ _ _ _).trans (State.setFld_cc _ _ _ _ _)
@[simp] theorem State.setFld64_upds (s : State) (pg : Page) (f : Fld) (v b : Nat) : (s.setFld64 pg f v b).upds = s.upds := (State.setFld_upds _ _ _ _ _).trans (State.setFld_upds _ _ _ _ _)
@[simp] theorem State.setFld64_sess (s : State) (pg : Page) (f : Fld) (v b : Nat) : (s.setFld64 pg f v b).sess = s.sess := (State.setFld_sess _ _ _ _ _).trans (State.setFld_sess _ _ _ _ _)
@[simp] theorem State.setFld64_mg (s : State) (pg : Page) (f : Fld) (v b : Nat) : (s.setFld64 pg f v b).mg = s.mg := (State.setFld_mg _ _ _ _ _).trans (State.setFld_mg _ _ _ _ _)
@[simp] theorem State.setFld64_portCnt (s : State) (pg : Page) (f : Fld) (v b : Nat) : (s.setFld64 pg f v b).portCnt = s.portCnt := (State.setFld_portCnt _ _ _ _ _).trans (State.setFld_portCnt _ _ _ _ _)

/-! ### State.bumpBy -/

@[simp] theorem State.bumpBy_pending (s : State) (pg : Page) (f : Fld) (n b : Nat) : (s.bumpBy pg f n b).pending = s.pending := State.setFld_pending _ _ _ _ _
@[simp] theorem State.bumpBy_shadow (s : State) (pg : Page) (f : Fld) (n b : Nat) : (s.bumpBy pg f n b).shadow = s.shadow := State.setFld_shadow _ _ _ _ _
@[simp] theorem State.bumpBy_mem (s : State) (pg : Page) (f : Fld) (n b : Nat) : (s.bumpBy pg f n b).mem = s.mem := State.setFld_mem _ _ _ _ _
@[simp] theorem State.bumpBy_lines (s : State) (pg : Page) (f : Fld) (n b : Nat) : (s.bumpBy pg f n b).lines = s.lines := State.setFld_lines _ _ _ _ _
@[simp] theorem State.bumpBy_out (s : State) (pg : Page) (f : Fld) (n b : Nat) : (s.bumpBy pg f n b).out = s.out := State.setFld_out _ _ _ _ _
@[simp] theorem State.bumpBy_fresh (s : State) (pg : Page) (f : Fld) (n b : Nat) : (s.bumpBy pg f n b).fresh = s.fresh := State.setFld_fresh _ _ _ _ _
@[simp] theorem State.bumpBy_mod_ (s : State) (pg : Page) (f : Fld) (n b : Nat) : (s.bumpBy pg f n b).mod_ = s.mod_ := State.setFld_mod_ _ _ _ _ _
@[simp] theorem State.bumpBy_flash (s : State) (pg : Page) (f : Fld) (n b : Nat) : (s.bumpBy pg f n b).flash = s.flash := State.setFld_flash _ _ _ _ _
@[simp] theorem State.bumpBy_flip (s : State) (pg : Page) (f : Fld) (n b : Nat) : (s.bumpBy pg f n b).flip = s.flip := State.setFld_flip _ _ _ _ _
@[simp] theorem State.bumpBy_semTick (s : State) (pg : Page) (f : Fld) (n b : Nat) : (s.bumpBy pg f n b).semTick = s.semTick := State.setFld_semTick _ _ _ _ _
@[simp] theorem State.bumpBy_semTie (s : State) (pg : Page) (f : Fld) (n b : Nat) : (s.bumpBy pg f n b).semTie = s.semTie := State.setFld_semTie _ _ _ _ _
@[simp] theorem State.bumpBy_slots (s : State) (pg : Page) (f : Fld) (n b : Nat) : (s.bumpBy pg f n b).slots = s.slots := State.setFld_slots _ _ _ _ _
@[simp] theorem State.bumpBy_progs (s : State) (pg : Page) (f : Fld) (n b : Nat) : (s.bumpBy pg f n b).progs = s.progs := State.setFld_progs _ _ _ _ _
@[simp] theorem State.bumpBy_ring (s : State) (pg : Page) (f : Fld) (n b : Nat) : (s.bumpBy pg f n b).ring = s.ring := State.setFld_ring _ _ _ _ _
@[simp] theorem State.bumpBy_heldH (s : State) (pg : Page) (f : Fld) (n b : Nat) : (s.bumpBy pg f n b).heldH = s.heldH := State.setFld_heldH _ _ _ _ _
@[simp] theorem State.bumpBy_heldM (s : State) (pg : Page) (f : Fld) (n b : Nat) : (s.bumpBy pg f n b).heldM = s.heldM := State.setFld_heldM _ _ _ _ _
@[simp] theorem State.bumpBy_usedH (s : State) (pg : Page) (f : Fld) (n b : Nat) : (s.bumpBy pg f n b).usedH = s.usedH := State.setFld_usedH _ _ _ _ _
@[simp] theorem State.bumpBy_usedM (s : State) (pg : Page) (f : Fld) (n b : Nat) : (s.bumpBy pg f n b).usedM = s.usedM := State.setFld_usedM _ _ _ _ _
@[simp] theorem State.bumpBy_seqs (s : State) (pg : Page) (f : Fld) (n b : Nat) : (s.bumpBy pg f n b).seqs = s.seqs := State.setFld_seqs _ _ _ _ _
@[simp] theorem State.bumpBy_stks (s : State) (pg : Page) (f : Fld) (n b : Nat) : (s.bumpBy pg f n b).stks = s.stks := State.setFld_stks _ _ _ _ _
@[simp] theorem State.bumpBy_reads (s : State) (pg : Page) (f : Fld) (n b : Nat) : (s.bumpBy pg f n b).reads = s.reads := State.setFld_reads _ _ _ _ _
@[simp] theorem State.bumpBy_mats (s : State) (pg : Page) (f : Fld) (n b : Nat) : (s.bumpBy pg f n b).mats = s.mats := State.setFld_mats _ _ _ _ _
@[simp] theorem State.bumpBy_nmus (s : State) (pg : Page) (f : Fld) (n b : Nat) : (s.bumpBy pg f n b).nmus = s.nmus := State.setFld_nmus _ _ _ _ _
@[simp] theorem State.bumpBy_seals (s : State) (pg : Page) (f : Fld) (n b : Nat) : (s.bumpBy pg f n b).seals = s.seals := State.setFld_seals _ _ _ _ _
@[simp] theorem State.bumpBy_resets (s : State) (pg : Page) (f : Fld) (n b : Nat) : (s.bumpBy pg f n b).resets = s.resets := State.setFld_resets _ _ _ _ _
@[simp] theorem State.bumpBy_bundles (s : State) (pg : Page) (f : Fld) (n b : Nat) : (s.bumpBy pg f n b).bundles = s.bundles := State.setFld_bundles _ _ _ _ _
@[simp] theorem State.bumpBy_lanes (s : State) (pg : Page) (f : Fld) (n b : Nat) : (s.bumpBy pg f n b).lanes = s.lanes := State.setFld_lanes _ _ _ _ _
@[simp] theorem State.bumpBy_ports (s : State) (pg : Page) (f : Fld) (n b : Nat) : (s.bumpBy pg f n b).ports = s.ports := State.setFld_ports _ _ _ _ _
@[simp] theorem State.bumpBy_outst (s : State) (pg : Page) (f : Fld) (n b : Nat) : (s.bumpBy pg f n b).outst = s.outst := State.setFld_outst _ _ _ _ _
@[simp] theorem State.bumpBy_plan (s : State) (pg : Page) (f : Fld) (n b : Nat) : (s.bumpBy pg f n b).plan = s.plan := State.setFld_plan _ _ _ _ _
@[simp] theorem State.bumpBy_rings (s : State) (pg : Page) (f : Fld) (n b : Nat) : (s.bumpBy pg f n b).rings = s.rings := State.setFld_rings _ _ _ _ _
@[simp] theorem State.bumpBy_engs (s : State) (pg : Page) (f : Fld) (n b : Nat) : (s.bumpBy pg f n b).engs = s.engs := State.setFld_engs _ _ _ _ _
@[simp] theorem State.bumpBy_keys (s : State) (pg : Page) (f : Fld) (n b : Nat) : (s.bumpBy pg f n b).keys = s.keys := State.setFld_keys _ _ _ _ _
@[simp] theorem State.bumpBy_jobKeys (s : State) (pg : Page) (f : Fld) (n b : Nat) : (s.bumpBy pg f n b).jobKeys = s.jobKeys := State.setFld_jobKeys _ _ _ _ _
@[simp] theorem State.bumpBy_decap (s : State) (pg : Page) (f : Fld) (n b : Nat) : (s.bumpBy pg f n b).decap = s.decap := State.setFld_decap _ _ _ _ _
@[simp] theorem State.bumpBy_frtLo (s : State) (pg : Page) (f : Fld) (n b : Nat) : (s.bumpBy pg f n b).frtLo = s.frtLo := State.setFld_frtLo _ _ _ _ _
@[simp] theorem State.bumpBy_noroute (s : State) (pg : Page) (f : Fld) (n b : Nat) : (s.bumpBy pg f n b).noroute = s.noroute := State.setFld_noroute _ _ _ _ _
@[simp] theorem State.bumpBy_dropTick (s : State) (pg : Page) (f : Fld) (n b : Nat) : (s.bumpBy pg f n b).dropTick = s.dropTick := State.setFld_dropTick _ _ _ _ _
@[simp] theorem State.bumpBy_cores (s : State) (pg : Page) (f : Fld) (n b : Nat) : (s.bumpBy pg f n b).cores = s.cores := State.setFld_cores _ _ _ _ _
@[simp] theorem State.bumpBy_binds (s : State) (pg : Page) (f : Fld) (n b : Nat) : (s.bumpBy pg f n b).binds = s.binds := State.setFld_binds _ _ _ _ _
@[simp] theorem State.bumpBy_fences (s : State) (pg : Page) (f : Fld) (n b : Nat) : (s.bumpBy pg f n b).fences = s.fences := State.setFld_fences _ _ _ _ _
@[simp] theorem State.bumpBy_parts (s : State) (pg : Page) (f : Fld) (n b : Nat) : (s.bumpBy pg f n b).parts = s.parts := State.setFld_parts _ _ _ _ _
@[simp] theorem State.bumpBy_lineXs (s : State) (pg : Page) (f : Fld) (n b : Nat) : (s.bumpBy pg f n b).lineXs = s.lineXs := State.setFld_lineXs _ _ _ _ _
@[simp] theorem State.bumpBy_lineTag (s : State) (pg : Page) (f : Fld) (n b : Nat) : (s.bumpBy pg f n b).lineTag = s.lineTag := State.setFld_lineTag _ _ _ _ _
@[simp] theorem State.bumpBy_eps (s : State) (pg : Page) (f : Fld) (n b : Nat) : (s.bumpBy pg f n b).eps = s.eps := State.setFld_eps _ _ _ _ _
@[simp] theorem State.bumpBy_skews (s : State) (pg : Page) (f : Fld) (n b : Nat) : (s.bumpBy pg f n b).skews = s.skews := State.setFld_skews _ _ _ _ _
@[simp] theorem State.bumpBy_yoyoCur (s : State) (pg : Page) (f : Fld) (n b : Nat) : (s.bumpBy pg f n b).yoyoCur = s.yoyoCur := State.setFld_yoyoCur _ _ _ _ _
@[simp] theorem State.bumpBy_yoyoDue (s : State) (pg : Page) (f : Fld) (n b : Nat) : (s.bumpBy pg f n b).yoyoDue = s.yoyoDue := State.setFld_yoyoDue _ _ _ _ _
@[simp] theorem State.bumpBy_time (s : State) (pg : Page) (f : Fld) (n b : Nat) : (s.bumpBy pg f n b).time = s.time := State.setFld_time _ _ _ _ _
@[simp] theorem State.bumpBy_ftNow (s : State) (pg : Page) (f : Fld) (n b : Nat) : (s.bumpBy pg f n b).ftNow = s.ftNow := State.setFld_ftNow _ _ _ _ _
@[simp] theorem State.bumpBy_ct (s : State) (pg : Page) (f : Fld) (n b : Nat) : (s.bumpBy pg f n b).ct = s.ct := State.setFld_ct _ _ _ _ _
@[simp] theorem State.bumpBy_colls (s : State) (pg : Page) (f : Fld) (n b : Nat) : (s.bumpBy pg f n b).colls = s.colls := State.setFld_colls _ _ _ _ _
@[simp] theorem State.bumpBy_taps (s : State) (pg : Page) (f : Fld) (n b : Nat) : (s.bumpBy pg f n b).taps = s.taps := State.setFld_taps _ _ _ _ _
@[simp] theorem State.bumpBy_nmuDone (s : State) (pg : Page) (f : Fld) (n b : Nat) : (s.bumpBy pg f n b).nmuDone = s.nmuDone := State.setFld_nmuDone _ _ _ _ _
@[simp] theorem State.bumpBy_cks (s : State) (pg : Page) (f : Fld) (n b : Nat) : (s.bumpBy pg f n b).cks = s.cks := State.setFld_cks _ _ _ _ _
@[simp] theorem State.bumpBy_rcs (s : State) (pg : Page) (f : Fld) (n b : Nat) : (s.bumpBy pg f n b).rcs = s.rcs := State.setFld_rcs _ _ _ _ _
@[simp] theorem State.bumpBy_mirs (s : State) (pg : Page) (f : Fld) (n b : Nat) : (s.bumpBy pg f n b).mirs = s.mirs := State.setFld_mirs _ _ _ _ _
@[simp] theorem State.bumpBy_dgs (s : State) (pg : Page) (f : Fld) (n b : Nat) : (s.bumpBy pg f n b).dgs = s.dgs := State.setFld_dgs _ _ _ _ _
@[simp] theorem State.bumpBy_fts (s : State) (pg : Page) (f : Fld) (n b : Nat) : (s.bumpBy pg f n b).fts = s.fts := State.setFld_fts _ _ _ _ _
@[simp] theorem State.bumpBy_sigs (s : State) (pg : Page) (f : Fld) (n b : Nat) : (s.bumpBy pg f n b).sigs = s.sigs := State.setFld_sigs _ _ _ _ _
@[simp] theorem State.bumpBy_sigAcks (s : State) (pg : Page) (f : Fld) (n b : Nat) : (s.bumpBy pg f n b).sigAcks = s.sigAcks := State.setFld_sigAcks _ _ _ _ _
@[simp] theorem State.bumpBy_sealTick (s : State) (pg : Page) (f : Fld) (n b : Nat) : (s.bumpBy pg f n b).sealTick = s.sealTick := State.setFld_sealTick _ _ _ _ _
@[simp] theorem State.bumpBy_faults (s : State) (pg : Page) (f : Fld) (n b : Nat) : (s.bumpBy pg f n b).faults = s.faults := State.setFld_faults _ _ _ _ _
@[simp] theorem State.bumpBy_sec (s : State) (pg : Page) (f : Fld) (n b : Nat) : (s.bumpBy pg f n b).sec = s.sec := State.setFld_sec _ _ _ _ _
@[simp] theorem State.bumpBy_mbox (s : State) (pg : Page) (f : Fld) (n b : Nat) : (s.bumpBy pg f n b).mbox = s.mbox := State.setFld_mbox _ _ _ _ _
@[simp] theorem State.bumpBy_mboxMem (s : State) (pg : Page) (f : Fld) (n b : Nat) : (s.bumpBy pg f n b).mboxMem = s.mboxMem := State.setFld_mboxMem _ _ _ _ _
@[simp] theorem State.bumpBy_procs (s : State) (pg : Page) (f : Fld) (n b : Nat) : (s.bumpBy pg f n b).procs = s.procs := State.setFld_procs _ _ _ _ _
@[simp] theorem State.bumpBy_cc (s : State) (pg : Page) (f : Fld) (n b : Nat) : (s.bumpBy pg f n b).cc = s.cc := State.setFld_cc _ _ _ _ _
@[simp] theorem State.bumpBy_upds (s : State) (pg : Page) (f : Fld) (n b : Nat) : (s.bumpBy pg f n b).upds = s.upds := State.setFld_upds _ _ _ _ _
@[simp] theorem State.bumpBy_sess (s : State) (pg : Page) (f : Fld) (n b : Nat) : (s.bumpBy pg f n b).sess = s.sess := State.setFld_sess _ _ _ _ _
@[simp] theorem State.bumpBy_mg (s : State) (pg : Page) (f : Fld) (n b : Nat) : (s.bumpBy pg f n b).mg = s.mg := State.setFld_mg _ _ _ _ _
@[simp] theorem State.bumpBy_portCnt (s : State) (pg : Page) (f : Fld) (n b : Nat) : (s.bumpBy pg f n b).portCnt = s.portCnt := State.setFld_portCnt _ _ _ _ _

/-! ### State.bump -/

@[simp] theorem State.bump_pending (s : State) (pg : Page) (f : Fld) (b : Nat) : (s.bump pg f b).pending = s.pending := State.bumpBy_pending _ _ _ _ _
@[simp] theorem State.bump_shadow (s : State) (pg : Page) (f : Fld) (b : Nat) : (s.bump pg f b).shadow = s.shadow := State.bumpBy_shadow _ _ _ _ _
@[simp] theorem State.bump_mem (s : State) (pg : Page) (f : Fld) (b : Nat) : (s.bump pg f b).mem = s.mem := State.bumpBy_mem _ _ _ _ _
@[simp] theorem State.bump_lines (s : State) (pg : Page) (f : Fld) (b : Nat) : (s.bump pg f b).lines = s.lines := State.bumpBy_lines _ _ _ _ _
@[simp] theorem State.bump_out (s : State) (pg : Page) (f : Fld) (b : Nat) : (s.bump pg f b).out = s.out := State.bumpBy_out _ _ _ _ _
@[simp] theorem State.bump_fresh (s : State) (pg : Page) (f : Fld) (b : Nat) : (s.bump pg f b).fresh = s.fresh := State.bumpBy_fresh _ _ _ _ _
@[simp] theorem State.bump_mod_ (s : State) (pg : Page) (f : Fld) (b : Nat) : (s.bump pg f b).mod_ = s.mod_ := State.bumpBy_mod_ _ _ _ _ _
@[simp] theorem State.bump_flash (s : State) (pg : Page) (f : Fld) (b : Nat) : (s.bump pg f b).flash = s.flash := State.bumpBy_flash _ _ _ _ _
@[simp] theorem State.bump_flip (s : State) (pg : Page) (f : Fld) (b : Nat) : (s.bump pg f b).flip = s.flip := State.bumpBy_flip _ _ _ _ _
@[simp] theorem State.bump_semTick (s : State) (pg : Page) (f : Fld) (b : Nat) : (s.bump pg f b).semTick = s.semTick := State.bumpBy_semTick _ _ _ _ _
@[simp] theorem State.bump_semTie (s : State) (pg : Page) (f : Fld) (b : Nat) : (s.bump pg f b).semTie = s.semTie := State.bumpBy_semTie _ _ _ _ _
@[simp] theorem State.bump_slots (s : State) (pg : Page) (f : Fld) (b : Nat) : (s.bump pg f b).slots = s.slots := State.bumpBy_slots _ _ _ _ _
@[simp] theorem State.bump_progs (s : State) (pg : Page) (f : Fld) (b : Nat) : (s.bump pg f b).progs = s.progs := State.bumpBy_progs _ _ _ _ _
@[simp] theorem State.bump_ring (s : State) (pg : Page) (f : Fld) (b : Nat) : (s.bump pg f b).ring = s.ring := State.bumpBy_ring _ _ _ _ _
@[simp] theorem State.bump_heldH (s : State) (pg : Page) (f : Fld) (b : Nat) : (s.bump pg f b).heldH = s.heldH := State.bumpBy_heldH _ _ _ _ _
@[simp] theorem State.bump_heldM (s : State) (pg : Page) (f : Fld) (b : Nat) : (s.bump pg f b).heldM = s.heldM := State.bumpBy_heldM _ _ _ _ _
@[simp] theorem State.bump_usedH (s : State) (pg : Page) (f : Fld) (b : Nat) : (s.bump pg f b).usedH = s.usedH := State.bumpBy_usedH _ _ _ _ _
@[simp] theorem State.bump_usedM (s : State) (pg : Page) (f : Fld) (b : Nat) : (s.bump pg f b).usedM = s.usedM := State.bumpBy_usedM _ _ _ _ _
@[simp] theorem State.bump_seqs (s : State) (pg : Page) (f : Fld) (b : Nat) : (s.bump pg f b).seqs = s.seqs := State.bumpBy_seqs _ _ _ _ _
@[simp] theorem State.bump_stks (s : State) (pg : Page) (f : Fld) (b : Nat) : (s.bump pg f b).stks = s.stks := State.bumpBy_stks _ _ _ _ _
@[simp] theorem State.bump_reads (s : State) (pg : Page) (f : Fld) (b : Nat) : (s.bump pg f b).reads = s.reads := State.bumpBy_reads _ _ _ _ _
@[simp] theorem State.bump_mats (s : State) (pg : Page) (f : Fld) (b : Nat) : (s.bump pg f b).mats = s.mats := State.bumpBy_mats _ _ _ _ _
@[simp] theorem State.bump_nmus (s : State) (pg : Page) (f : Fld) (b : Nat) : (s.bump pg f b).nmus = s.nmus := State.bumpBy_nmus _ _ _ _ _
@[simp] theorem State.bump_seals (s : State) (pg : Page) (f : Fld) (b : Nat) : (s.bump pg f b).seals = s.seals := State.bumpBy_seals _ _ _ _ _
@[simp] theorem State.bump_resets (s : State) (pg : Page) (f : Fld) (b : Nat) : (s.bump pg f b).resets = s.resets := State.bumpBy_resets _ _ _ _ _
@[simp] theorem State.bump_bundles (s : State) (pg : Page) (f : Fld) (b : Nat) : (s.bump pg f b).bundles = s.bundles := State.bumpBy_bundles _ _ _ _ _
@[simp] theorem State.bump_lanes (s : State) (pg : Page) (f : Fld) (b : Nat) : (s.bump pg f b).lanes = s.lanes := State.bumpBy_lanes _ _ _ _ _
@[simp] theorem State.bump_ports (s : State) (pg : Page) (f : Fld) (b : Nat) : (s.bump pg f b).ports = s.ports := State.bumpBy_ports _ _ _ _ _
@[simp] theorem State.bump_outst (s : State) (pg : Page) (f : Fld) (b : Nat) : (s.bump pg f b).outst = s.outst := State.bumpBy_outst _ _ _ _ _
@[simp] theorem State.bump_plan (s : State) (pg : Page) (f : Fld) (b : Nat) : (s.bump pg f b).plan = s.plan := State.bumpBy_plan _ _ _ _ _
@[simp] theorem State.bump_rings (s : State) (pg : Page) (f : Fld) (b : Nat) : (s.bump pg f b).rings = s.rings := State.bumpBy_rings _ _ _ _ _
@[simp] theorem State.bump_engs (s : State) (pg : Page) (f : Fld) (b : Nat) : (s.bump pg f b).engs = s.engs := State.bumpBy_engs _ _ _ _ _
@[simp] theorem State.bump_keys (s : State) (pg : Page) (f : Fld) (b : Nat) : (s.bump pg f b).keys = s.keys := State.bumpBy_keys _ _ _ _ _
@[simp] theorem State.bump_jobKeys (s : State) (pg : Page) (f : Fld) (b : Nat) : (s.bump pg f b).jobKeys = s.jobKeys := State.bumpBy_jobKeys _ _ _ _ _
@[simp] theorem State.bump_decap (s : State) (pg : Page) (f : Fld) (b : Nat) : (s.bump pg f b).decap = s.decap := State.bumpBy_decap _ _ _ _ _
@[simp] theorem State.bump_frtLo (s : State) (pg : Page) (f : Fld) (b : Nat) : (s.bump pg f b).frtLo = s.frtLo := State.bumpBy_frtLo _ _ _ _ _
@[simp] theorem State.bump_noroute (s : State) (pg : Page) (f : Fld) (b : Nat) : (s.bump pg f b).noroute = s.noroute := State.bumpBy_noroute _ _ _ _ _
@[simp] theorem State.bump_dropTick (s : State) (pg : Page) (f : Fld) (b : Nat) : (s.bump pg f b).dropTick = s.dropTick := State.bumpBy_dropTick _ _ _ _ _
@[simp] theorem State.bump_cores (s : State) (pg : Page) (f : Fld) (b : Nat) : (s.bump pg f b).cores = s.cores := State.bumpBy_cores _ _ _ _ _
@[simp] theorem State.bump_binds (s : State) (pg : Page) (f : Fld) (b : Nat) : (s.bump pg f b).binds = s.binds := State.bumpBy_binds _ _ _ _ _
@[simp] theorem State.bump_fences (s : State) (pg : Page) (f : Fld) (b : Nat) : (s.bump pg f b).fences = s.fences := State.bumpBy_fences _ _ _ _ _
@[simp] theorem State.bump_parts (s : State) (pg : Page) (f : Fld) (b : Nat) : (s.bump pg f b).parts = s.parts := State.bumpBy_parts _ _ _ _ _
@[simp] theorem State.bump_lineXs (s : State) (pg : Page) (f : Fld) (b : Nat) : (s.bump pg f b).lineXs = s.lineXs := State.bumpBy_lineXs _ _ _ _ _
@[simp] theorem State.bump_lineTag (s : State) (pg : Page) (f : Fld) (b : Nat) : (s.bump pg f b).lineTag = s.lineTag := State.bumpBy_lineTag _ _ _ _ _
@[simp] theorem State.bump_eps (s : State) (pg : Page) (f : Fld) (b : Nat) : (s.bump pg f b).eps = s.eps := State.bumpBy_eps _ _ _ _ _
@[simp] theorem State.bump_skews (s : State) (pg : Page) (f : Fld) (b : Nat) : (s.bump pg f b).skews = s.skews := State.bumpBy_skews _ _ _ _ _
@[simp] theorem State.bump_yoyoCur (s : State) (pg : Page) (f : Fld) (b : Nat) : (s.bump pg f b).yoyoCur = s.yoyoCur := State.bumpBy_yoyoCur _ _ _ _ _
@[simp] theorem State.bump_yoyoDue (s : State) (pg : Page) (f : Fld) (b : Nat) : (s.bump pg f b).yoyoDue = s.yoyoDue := State.bumpBy_yoyoDue _ _ _ _ _
@[simp] theorem State.bump_time (s : State) (pg : Page) (f : Fld) (b : Nat) : (s.bump pg f b).time = s.time := State.bumpBy_time _ _ _ _ _
@[simp] theorem State.bump_ftNow (s : State) (pg : Page) (f : Fld) (b : Nat) : (s.bump pg f b).ftNow = s.ftNow := State.bumpBy_ftNow _ _ _ _ _
@[simp] theorem State.bump_ct (s : State) (pg : Page) (f : Fld) (b : Nat) : (s.bump pg f b).ct = s.ct := State.bumpBy_ct _ _ _ _ _
@[simp] theorem State.bump_colls (s : State) (pg : Page) (f : Fld) (b : Nat) : (s.bump pg f b).colls = s.colls := State.bumpBy_colls _ _ _ _ _
@[simp] theorem State.bump_taps (s : State) (pg : Page) (f : Fld) (b : Nat) : (s.bump pg f b).taps = s.taps := State.bumpBy_taps _ _ _ _ _
@[simp] theorem State.bump_nmuDone (s : State) (pg : Page) (f : Fld) (b : Nat) : (s.bump pg f b).nmuDone = s.nmuDone := State.bumpBy_nmuDone _ _ _ _ _
@[simp] theorem State.bump_cks (s : State) (pg : Page) (f : Fld) (b : Nat) : (s.bump pg f b).cks = s.cks := State.bumpBy_cks _ _ _ _ _
@[simp] theorem State.bump_rcs (s : State) (pg : Page) (f : Fld) (b : Nat) : (s.bump pg f b).rcs = s.rcs := State.bumpBy_rcs _ _ _ _ _
@[simp] theorem State.bump_mirs (s : State) (pg : Page) (f : Fld) (b : Nat) : (s.bump pg f b).mirs = s.mirs := State.bumpBy_mirs _ _ _ _ _
@[simp] theorem State.bump_dgs (s : State) (pg : Page) (f : Fld) (b : Nat) : (s.bump pg f b).dgs = s.dgs := State.bumpBy_dgs _ _ _ _ _
@[simp] theorem State.bump_fts (s : State) (pg : Page) (f : Fld) (b : Nat) : (s.bump pg f b).fts = s.fts := State.bumpBy_fts _ _ _ _ _
@[simp] theorem State.bump_sigs (s : State) (pg : Page) (f : Fld) (b : Nat) : (s.bump pg f b).sigs = s.sigs := State.bumpBy_sigs _ _ _ _ _
@[simp] theorem State.bump_sigAcks (s : State) (pg : Page) (f : Fld) (b : Nat) : (s.bump pg f b).sigAcks = s.sigAcks := State.bumpBy_sigAcks _ _ _ _ _
@[simp] theorem State.bump_sealTick (s : State) (pg : Page) (f : Fld) (b : Nat) : (s.bump pg f b).sealTick = s.sealTick := State.bumpBy_sealTick _ _ _ _ _
@[simp] theorem State.bump_faults (s : State) (pg : Page) (f : Fld) (b : Nat) : (s.bump pg f b).faults = s.faults := State.bumpBy_faults _ _ _ _ _
@[simp] theorem State.bump_sec (s : State) (pg : Page) (f : Fld) (b : Nat) : (s.bump pg f b).sec = s.sec := State.bumpBy_sec _ _ _ _ _
@[simp] theorem State.bump_mbox (s : State) (pg : Page) (f : Fld) (b : Nat) : (s.bump pg f b).mbox = s.mbox := State.bumpBy_mbox _ _ _ _ _
@[simp] theorem State.bump_mboxMem (s : State) (pg : Page) (f : Fld) (b : Nat) : (s.bump pg f b).mboxMem = s.mboxMem := State.bumpBy_mboxMem _ _ _ _ _
@[simp] theorem State.bump_procs (s : State) (pg : Page) (f : Fld) (b : Nat) : (s.bump pg f b).procs = s.procs := State.bumpBy_procs _ _ _ _ _
@[simp] theorem State.bump_cc (s : State) (pg : Page) (f : Fld) (b : Nat) : (s.bump pg f b).cc = s.cc := State.bumpBy_cc _ _ _ _ _
@[simp] theorem State.bump_upds (s : State) (pg : Page) (f : Fld) (b : Nat) : (s.bump pg f b).upds = s.upds := State.bumpBy_upds _ _ _ _ _
@[simp] theorem State.bump_sess (s : State) (pg : Page) (f : Fld) (b : Nat) : (s.bump pg f b).sess = s.sess := State.bumpBy_sess _ _ _ _ _
@[simp] theorem State.bump_mg (s : State) (pg : Page) (f : Fld) (b : Nat) : (s.bump pg f b).mg = s.mg := State.bumpBy_mg _ _ _ _ _
@[simp] theorem State.bump_portCnt (s : State) (pg : Page) (f : Fld) (b : Nat) : (s.bump pg f b).portCnt = s.portCnt := State.bumpBy_portCnt _ _ _ _ _

/-! ### State.setSemOwner -/

@[simp] theorem State.setSemOwner_pending (s : State) (pg : Page) (c : Nat) : (s.setSemOwner pg c).pending = s.pending := State.setReg_pending _ _ _
@[simp] theorem State.setSemOwner_shadow (s : State) (pg : Page) (c : Nat) : (s.setSemOwner pg c).shadow = s.shadow := State.setReg_shadow _ _ _
@[simp] theorem State.setSemOwner_mem (s : State) (pg : Page) (c : Nat) : (s.setSemOwner pg c).mem = s.mem := State.setReg_mem _ _ _
@[simp] theorem State.setSemOwner_lines (s : State) (pg : Page) (c : Nat) : (s.setSemOwner pg c).lines = s.lines := State.setReg_lines _ _ _
@[simp] theorem State.setSemOwner_out (s : State) (pg : Page) (c : Nat) : (s.setSemOwner pg c).out = s.out := State.setReg_out _ _ _
@[simp] theorem State.setSemOwner_fresh (s : State) (pg : Page) (c : Nat) : (s.setSemOwner pg c).fresh = s.fresh := State.setReg_fresh _ _ _
@[simp] theorem State.setSemOwner_mod_ (s : State) (pg : Page) (c : Nat) : (s.setSemOwner pg c).mod_ = s.mod_ := State.setReg_mod_ _ _ _
@[simp] theorem State.setSemOwner_flash (s : State) (pg : Page) (c : Nat) : (s.setSemOwner pg c).flash = s.flash := State.setReg_flash _ _ _
@[simp] theorem State.setSemOwner_flip (s : State) (pg : Page) (c : Nat) : (s.setSemOwner pg c).flip = s.flip := State.setReg_flip _ _ _
@[simp] theorem State.setSemOwner_semTick (s : State) (pg : Page) (c : Nat) : (s.setSemOwner pg c).semTick = s.semTick := State.setReg_semTick _ _ _
@[simp] theorem State.setSemOwner_semTie (s : State) (pg : Page) (c : Nat) : (s.setSemOwner pg c).semTie = s.semTie := State.setReg_semTie _ _ _
@[simp] theorem State.setSemOwner_slots (s : State) (pg : Page) (c : Nat) : (s.setSemOwner pg c).slots = s.slots := State.setReg_slots _ _ _
@[simp] theorem State.setSemOwner_progs (s : State) (pg : Page) (c : Nat) : (s.setSemOwner pg c).progs = s.progs := State.setReg_progs _ _ _
@[simp] theorem State.setSemOwner_ring (s : State) (pg : Page) (c : Nat) : (s.setSemOwner pg c).ring = s.ring := State.setReg_ring _ _ _
@[simp] theorem State.setSemOwner_heldH (s : State) (pg : Page) (c : Nat) : (s.setSemOwner pg c).heldH = s.heldH := State.setReg_heldH _ _ _
@[simp] theorem State.setSemOwner_heldM (s : State) (pg : Page) (c : Nat) : (s.setSemOwner pg c).heldM = s.heldM := State.setReg_heldM _ _ _
@[simp] theorem State.setSemOwner_usedH (s : State) (pg : Page) (c : Nat) : (s.setSemOwner pg c).usedH = s.usedH := State.setReg_usedH _ _ _
@[simp] theorem State.setSemOwner_usedM (s : State) (pg : Page) (c : Nat) : (s.setSemOwner pg c).usedM = s.usedM := State.setReg_usedM _ _ _
@[simp] theorem State.setSemOwner_seqs (s : State) (pg : Page) (c : Nat) : (s.setSemOwner pg c).seqs = s.seqs := State.setReg_seqs _ _ _
@[simp] theorem State.setSemOwner_stks (s : State) (pg : Page) (c : Nat) : (s.setSemOwner pg c).stks = s.stks := State.setReg_stks _ _ _
@[simp] theorem State.setSemOwner_reads (s : State) (pg : Page) (c : Nat) : (s.setSemOwner pg c).reads = s.reads := State.setReg_reads _ _ _
@[simp] theorem State.setSemOwner_mats (s : State) (pg : Page) (c : Nat) : (s.setSemOwner pg c).mats = s.mats := State.setReg_mats _ _ _
@[simp] theorem State.setSemOwner_nmus (s : State) (pg : Page) (c : Nat) : (s.setSemOwner pg c).nmus = s.nmus := State.setReg_nmus _ _ _
@[simp] theorem State.setSemOwner_seals (s : State) (pg : Page) (c : Nat) : (s.setSemOwner pg c).seals = s.seals := State.setReg_seals _ _ _
@[simp] theorem State.setSemOwner_resets (s : State) (pg : Page) (c : Nat) : (s.setSemOwner pg c).resets = s.resets := State.setReg_resets _ _ _
@[simp] theorem State.setSemOwner_bundles (s : State) (pg : Page) (c : Nat) : (s.setSemOwner pg c).bundles = s.bundles := State.setReg_bundles _ _ _
@[simp] theorem State.setSemOwner_lanes (s : State) (pg : Page) (c : Nat) : (s.setSemOwner pg c).lanes = s.lanes := State.setReg_lanes _ _ _
@[simp] theorem State.setSemOwner_ports (s : State) (pg : Page) (c : Nat) : (s.setSemOwner pg c).ports = s.ports := State.setReg_ports _ _ _
@[simp] theorem State.setSemOwner_outst (s : State) (pg : Page) (c : Nat) : (s.setSemOwner pg c).outst = s.outst := State.setReg_outst _ _ _
@[simp] theorem State.setSemOwner_plan (s : State) (pg : Page) (c : Nat) : (s.setSemOwner pg c).plan = s.plan := State.setReg_plan _ _ _
@[simp] theorem State.setSemOwner_rings (s : State) (pg : Page) (c : Nat) : (s.setSemOwner pg c).rings = s.rings := State.setReg_rings _ _ _
@[simp] theorem State.setSemOwner_engs (s : State) (pg : Page) (c : Nat) : (s.setSemOwner pg c).engs = s.engs := State.setReg_engs _ _ _
@[simp] theorem State.setSemOwner_keys (s : State) (pg : Page) (c : Nat) : (s.setSemOwner pg c).keys = s.keys := State.setReg_keys _ _ _
@[simp] theorem State.setSemOwner_jobKeys (s : State) (pg : Page) (c : Nat) : (s.setSemOwner pg c).jobKeys = s.jobKeys := State.setReg_jobKeys _ _ _
@[simp] theorem State.setSemOwner_decap (s : State) (pg : Page) (c : Nat) : (s.setSemOwner pg c).decap = s.decap := State.setReg_decap _ _ _
@[simp] theorem State.setSemOwner_frtLo (s : State) (pg : Page) (c : Nat) : (s.setSemOwner pg c).frtLo = s.frtLo := State.setReg_frtLo _ _ _
@[simp] theorem State.setSemOwner_noroute (s : State) (pg : Page) (c : Nat) : (s.setSemOwner pg c).noroute = s.noroute := State.setReg_noroute _ _ _
@[simp] theorem State.setSemOwner_dropTick (s : State) (pg : Page) (c : Nat) : (s.setSemOwner pg c).dropTick = s.dropTick := State.setReg_dropTick _ _ _
@[simp] theorem State.setSemOwner_cores (s : State) (pg : Page) (c : Nat) : (s.setSemOwner pg c).cores = s.cores := State.setReg_cores _ _ _
@[simp] theorem State.setSemOwner_binds (s : State) (pg : Page) (c : Nat) : (s.setSemOwner pg c).binds = s.binds := State.setReg_binds _ _ _
@[simp] theorem State.setSemOwner_fences (s : State) (pg : Page) (c : Nat) : (s.setSemOwner pg c).fences = s.fences := State.setReg_fences _ _ _
@[simp] theorem State.setSemOwner_parts (s : State) (pg : Page) (c : Nat) : (s.setSemOwner pg c).parts = s.parts := State.setReg_parts _ _ _
@[simp] theorem State.setSemOwner_lineXs (s : State) (pg : Page) (c : Nat) : (s.setSemOwner pg c).lineXs = s.lineXs := State.setReg_lineXs _ _ _
@[simp] theorem State.setSemOwner_lineTag (s : State) (pg : Page) (c : Nat) : (s.setSemOwner pg c).lineTag = s.lineTag := State.setReg_lineTag _ _ _
@[simp] theorem State.setSemOwner_eps (s : State) (pg : Page) (c : Nat) : (s.setSemOwner pg c).eps = s.eps := State.setReg_eps _ _ _
@[simp] theorem State.setSemOwner_skews (s : State) (pg : Page) (c : Nat) : (s.setSemOwner pg c).skews = s.skews := State.setReg_skews _ _ _
@[simp] theorem State.setSemOwner_yoyoCur (s : State) (pg : Page) (c : Nat) : (s.setSemOwner pg c).yoyoCur = s.yoyoCur := State.setReg_yoyoCur _ _ _
@[simp] theorem State.setSemOwner_yoyoDue (s : State) (pg : Page) (c : Nat) : (s.setSemOwner pg c).yoyoDue = s.yoyoDue := State.setReg_yoyoDue _ _ _
@[simp] theorem State.setSemOwner_time (s : State) (pg : Page) (c : Nat) : (s.setSemOwner pg c).time = s.time := State.setReg_time _ _ _
@[simp] theorem State.setSemOwner_ftNow (s : State) (pg : Page) (c : Nat) : (s.setSemOwner pg c).ftNow = s.ftNow := State.setReg_ftNow _ _ _
@[simp] theorem State.setSemOwner_ct (s : State) (pg : Page) (c : Nat) : (s.setSemOwner pg c).ct = s.ct := State.setReg_ct _ _ _
@[simp] theorem State.setSemOwner_colls (s : State) (pg : Page) (c : Nat) : (s.setSemOwner pg c).colls = s.colls := State.setReg_colls _ _ _
@[simp] theorem State.setSemOwner_taps (s : State) (pg : Page) (c : Nat) : (s.setSemOwner pg c).taps = s.taps := State.setReg_taps _ _ _
@[simp] theorem State.setSemOwner_nmuDone (s : State) (pg : Page) (c : Nat) : (s.setSemOwner pg c).nmuDone = s.nmuDone := State.setReg_nmuDone _ _ _
@[simp] theorem State.setSemOwner_cks (s : State) (pg : Page) (c : Nat) : (s.setSemOwner pg c).cks = s.cks := State.setReg_cks _ _ _
@[simp] theorem State.setSemOwner_rcs (s : State) (pg : Page) (c : Nat) : (s.setSemOwner pg c).rcs = s.rcs := State.setReg_rcs _ _ _
@[simp] theorem State.setSemOwner_mirs (s : State) (pg : Page) (c : Nat) : (s.setSemOwner pg c).mirs = s.mirs := State.setReg_mirs _ _ _
@[simp] theorem State.setSemOwner_dgs (s : State) (pg : Page) (c : Nat) : (s.setSemOwner pg c).dgs = s.dgs := State.setReg_dgs _ _ _
@[simp] theorem State.setSemOwner_fts (s : State) (pg : Page) (c : Nat) : (s.setSemOwner pg c).fts = s.fts := State.setReg_fts _ _ _
@[simp] theorem State.setSemOwner_sigs (s : State) (pg : Page) (c : Nat) : (s.setSemOwner pg c).sigs = s.sigs := State.setReg_sigs _ _ _
@[simp] theorem State.setSemOwner_sigAcks (s : State) (pg : Page) (c : Nat) : (s.setSemOwner pg c).sigAcks = s.sigAcks := State.setReg_sigAcks _ _ _
@[simp] theorem State.setSemOwner_sealTick (s : State) (pg : Page) (c : Nat) : (s.setSemOwner pg c).sealTick = s.sealTick := State.setReg_sealTick _ _ _
@[simp] theorem State.setSemOwner_faults (s : State) (pg : Page) (c : Nat) : (s.setSemOwner pg c).faults = s.faults := State.setReg_faults _ _ _
@[simp] theorem State.setSemOwner_sec (s : State) (pg : Page) (c : Nat) : (s.setSemOwner pg c).sec = s.sec := State.setReg_sec _ _ _
@[simp] theorem State.setSemOwner_mbox (s : State) (pg : Page) (c : Nat) : (s.setSemOwner pg c).mbox = s.mbox := State.setReg_mbox _ _ _
@[simp] theorem State.setSemOwner_mboxMem (s : State) (pg : Page) (c : Nat) : (s.setSemOwner pg c).mboxMem = s.mboxMem := State.setReg_mboxMem _ _ _
@[simp] theorem State.setSemOwner_procs (s : State) (pg : Page) (c : Nat) : (s.setSemOwner pg c).procs = s.procs := State.setReg_procs _ _ _
@[simp] theorem State.setSemOwner_cc (s : State) (pg : Page) (c : Nat) : (s.setSemOwner pg c).cc = s.cc := State.setReg_cc _ _ _
@[simp] theorem State.setSemOwner_upds (s : State) (pg : Page) (c : Nat) : (s.setSemOwner pg c).upds = s.upds := State.setReg_upds _ _ _
@[simp] theorem State.setSemOwner_sess (s : State) (pg : Page) (c : Nat) : (s.setSemOwner pg c).sess = s.sess := State.setReg_sess _ _ _
@[simp] theorem State.setSemOwner_mg (s : State) (pg : Page) (c : Nat) : (s.setSemOwner pg c).mg = s.mg := State.setReg_mg _ _ _
@[simp] theorem State.setSemOwner_portCnt (s : State) (pg : Page) (c : Nat) : (s.setSemOwner pg c).portCnt = s.portCnt := State.setReg_portCnt _ _ _

/-! ### State.setShReg -/

@[simp] theorem State.setShReg_regs (s : State) (k : Nat) (v : Word) : (s.setShReg k v).regs = s.regs := by simp only [State.setShReg]
@[simp] theorem State.setShReg_pending (s : State) (k : Nat) (v : Word) : (s.setShReg k v).pending = s.pending := by simp only [State.setShReg]
@[simp] theorem State.setShReg_mem (s : State) (k : Nat) (v : Word) : (s.setShReg k v).mem = s.mem := by simp only [State.setShReg]
@[simp] theorem State.setShReg_lines (s : State) (k : Nat) (v : Word) : (s.setShReg k v).lines = s.lines := by simp only [State.setShReg]
@[simp] theorem State.setShReg_out (s : State) (k : Nat) (v : Word) : (s.setShReg k v).out = s.out := by simp only [State.setShReg]
@[simp] theorem State.setShReg_fresh (s : State) (k : Nat) (v : Word) : (s.setShReg k v).fresh = s.fresh := by simp only [State.setShReg]
@[simp] theorem State.setShReg_mod_ (s : State) (k : Nat) (v : Word) : (s.setShReg k v).mod_ = s.mod_ := by simp only [State.setShReg]
@[simp] theorem State.setShReg_flash (s : State) (k : Nat) (v : Word) : (s.setShReg k v).flash = s.flash := by simp only [State.setShReg]
@[simp] theorem State.setShReg_flip (s : State) (k : Nat) (v : Word) : (s.setShReg k v).flip = s.flip := by simp only [State.setShReg]
@[simp] theorem State.setShReg_semTick (s : State) (k : Nat) (v : Word) : (s.setShReg k v).semTick = s.semTick := by simp only [State.setShReg]
@[simp] theorem State.setShReg_semTie (s : State) (k : Nat) (v : Word) : (s.setShReg k v).semTie = s.semTie := by simp only [State.setShReg]
@[simp] theorem State.setShReg_slots (s : State) (k : Nat) (v : Word) : (s.setShReg k v).slots = s.slots := by simp only [State.setShReg]
@[simp] theorem State.setShReg_progs (s : State) (k : Nat) (v : Word) : (s.setShReg k v).progs = s.progs := by simp only [State.setShReg]
@[simp] theorem State.setShReg_ring (s : State) (k : Nat) (v : Word) : (s.setShReg k v).ring = s.ring := by simp only [State.setShReg]
@[simp] theorem State.setShReg_heldH (s : State) (k : Nat) (v : Word) : (s.setShReg k v).heldH = s.heldH := by simp only [State.setShReg]
@[simp] theorem State.setShReg_heldM (s : State) (k : Nat) (v : Word) : (s.setShReg k v).heldM = s.heldM := by simp only [State.setShReg]
@[simp] theorem State.setShReg_usedH (s : State) (k : Nat) (v : Word) : (s.setShReg k v).usedH = s.usedH := by simp only [State.setShReg]
@[simp] theorem State.setShReg_usedM (s : State) (k : Nat) (v : Word) : (s.setShReg k v).usedM = s.usedM := by simp only [State.setShReg]
@[simp] theorem State.setShReg_seqs (s : State) (k : Nat) (v : Word) : (s.setShReg k v).seqs = s.seqs := by simp only [State.setShReg]
@[simp] theorem State.setShReg_stks (s : State) (k : Nat) (v : Word) : (s.setShReg k v).stks = s.stks := by simp only [State.setShReg]
@[simp] theorem State.setShReg_reads (s : State) (k : Nat) (v : Word) : (s.setShReg k v).reads = s.reads := by simp only [State.setShReg]
@[simp] theorem State.setShReg_mats (s : State) (k : Nat) (v : Word) : (s.setShReg k v).mats = s.mats := by simp only [State.setShReg]
@[simp] theorem State.setShReg_nmus (s : State) (k : Nat) (v : Word) : (s.setShReg k v).nmus = s.nmus := by simp only [State.setShReg]
@[simp] theorem State.setShReg_seals (s : State) (k : Nat) (v : Word) : (s.setShReg k v).seals = s.seals := by simp only [State.setShReg]
@[simp] theorem State.setShReg_resets (s : State) (k : Nat) (v : Word) : (s.setShReg k v).resets = s.resets := by simp only [State.setShReg]
@[simp] theorem State.setShReg_bundles (s : State) (k : Nat) (v : Word) : (s.setShReg k v).bundles = s.bundles := by simp only [State.setShReg]
@[simp] theorem State.setShReg_lanes (s : State) (k : Nat) (v : Word) : (s.setShReg k v).lanes = s.lanes := by simp only [State.setShReg]
@[simp] theorem State.setShReg_ports (s : State) (k : Nat) (v : Word) : (s.setShReg k v).ports = s.ports := by simp only [State.setShReg]
@[simp] theorem State.setShReg_outst (s : State) (k : Nat) (v : Word) : (s.setShReg k v).outst = s.outst := by simp only [State.setShReg]
@[simp] theorem State.setShReg_plan (s : State) (k : Nat) (v : Word) : (s.setShReg k v).plan = s.plan := by simp only [State.setShReg]
@[simp] theorem State.setShReg_rings (s : State) (k : Nat) (v : Word) : (s.setShReg k v).rings = s.rings := by simp only [State.setShReg]
@[simp] theorem State.setShReg_engs (s : State) (k : Nat) (v : Word) : (s.setShReg k v).engs = s.engs := by simp only [State.setShReg]
@[simp] theorem State.setShReg_keys (s : State) (k : Nat) (v : Word) : (s.setShReg k v).keys = s.keys := by simp only [State.setShReg]
@[simp] theorem State.setShReg_jobKeys (s : State) (k : Nat) (v : Word) : (s.setShReg k v).jobKeys = s.jobKeys := by simp only [State.setShReg]
@[simp] theorem State.setShReg_decap (s : State) (k : Nat) (v : Word) : (s.setShReg k v).decap = s.decap := by simp only [State.setShReg]
@[simp] theorem State.setShReg_frtLo (s : State) (k : Nat) (v : Word) : (s.setShReg k v).frtLo = s.frtLo := by simp only [State.setShReg]
@[simp] theorem State.setShReg_noroute (s : State) (k : Nat) (v : Word) : (s.setShReg k v).noroute = s.noroute := by simp only [State.setShReg]
@[simp] theorem State.setShReg_dropTick (s : State) (k : Nat) (v : Word) : (s.setShReg k v).dropTick = s.dropTick := by simp only [State.setShReg]
@[simp] theorem State.setShReg_cores (s : State) (k : Nat) (v : Word) : (s.setShReg k v).cores = s.cores := by simp only [State.setShReg]
@[simp] theorem State.setShReg_binds (s : State) (k : Nat) (v : Word) : (s.setShReg k v).binds = s.binds := by simp only [State.setShReg]
@[simp] theorem State.setShReg_fences (s : State) (k : Nat) (v : Word) : (s.setShReg k v).fences = s.fences := by simp only [State.setShReg]
@[simp] theorem State.setShReg_parts (s : State) (k : Nat) (v : Word) : (s.setShReg k v).parts = s.parts := by simp only [State.setShReg]
@[simp] theorem State.setShReg_lineXs (s : State) (k : Nat) (v : Word) : (s.setShReg k v).lineXs = s.lineXs := by simp only [State.setShReg]
@[simp] theorem State.setShReg_lineTag (s : State) (k : Nat) (v : Word) : (s.setShReg k v).lineTag = s.lineTag := by simp only [State.setShReg]
@[simp] theorem State.setShReg_eps (s : State) (k : Nat) (v : Word) : (s.setShReg k v).eps = s.eps := by simp only [State.setShReg]
@[simp] theorem State.setShReg_skews (s : State) (k : Nat) (v : Word) : (s.setShReg k v).skews = s.skews := by simp only [State.setShReg]
@[simp] theorem State.setShReg_yoyoCur (s : State) (k : Nat) (v : Word) : (s.setShReg k v).yoyoCur = s.yoyoCur := by simp only [State.setShReg]
@[simp] theorem State.setShReg_yoyoDue (s : State) (k : Nat) (v : Word) : (s.setShReg k v).yoyoDue = s.yoyoDue := by simp only [State.setShReg]
@[simp] theorem State.setShReg_time (s : State) (k : Nat) (v : Word) : (s.setShReg k v).time = s.time := by simp only [State.setShReg]
@[simp] theorem State.setShReg_ftNow (s : State) (k : Nat) (v : Word) : (s.setShReg k v).ftNow = s.ftNow := by simp only [State.setShReg]
@[simp] theorem State.setShReg_ct (s : State) (k : Nat) (v : Word) : (s.setShReg k v).ct = s.ct := by simp only [State.setShReg]
@[simp] theorem State.setShReg_colls (s : State) (k : Nat) (v : Word) : (s.setShReg k v).colls = s.colls := by simp only [State.setShReg]
@[simp] theorem State.setShReg_taps (s : State) (k : Nat) (v : Word) : (s.setShReg k v).taps = s.taps := by simp only [State.setShReg]
@[simp] theorem State.setShReg_nmuDone (s : State) (k : Nat) (v : Word) : (s.setShReg k v).nmuDone = s.nmuDone := by simp only [State.setShReg]
@[simp] theorem State.setShReg_cks (s : State) (k : Nat) (v : Word) : (s.setShReg k v).cks = s.cks := by simp only [State.setShReg]
@[simp] theorem State.setShReg_rcs (s : State) (k : Nat) (v : Word) : (s.setShReg k v).rcs = s.rcs := by simp only [State.setShReg]
@[simp] theorem State.setShReg_mirs (s : State) (k : Nat) (v : Word) : (s.setShReg k v).mirs = s.mirs := by simp only [State.setShReg]
@[simp] theorem State.setShReg_dgs (s : State) (k : Nat) (v : Word) : (s.setShReg k v).dgs = s.dgs := by simp only [State.setShReg]
@[simp] theorem State.setShReg_fts (s : State) (k : Nat) (v : Word) : (s.setShReg k v).fts = s.fts := by simp only [State.setShReg]
@[simp] theorem State.setShReg_sigs (s : State) (k : Nat) (v : Word) : (s.setShReg k v).sigs = s.sigs := by simp only [State.setShReg]
@[simp] theorem State.setShReg_sigAcks (s : State) (k : Nat) (v : Word) : (s.setShReg k v).sigAcks = s.sigAcks := by simp only [State.setShReg]
@[simp] theorem State.setShReg_sealTick (s : State) (k : Nat) (v : Word) : (s.setShReg k v).sealTick = s.sealTick := by simp only [State.setShReg]
@[simp] theorem State.setShReg_faults (s : State) (k : Nat) (v : Word) : (s.setShReg k v).faults = s.faults := by simp only [State.setShReg]
@[simp] theorem State.setShReg_sec (s : State) (k : Nat) (v : Word) : (s.setShReg k v).sec = s.sec := by simp only [State.setShReg]
@[simp] theorem State.setShReg_mbox (s : State) (k : Nat) (v : Word) : (s.setShReg k v).mbox = s.mbox := by simp only [State.setShReg]
@[simp] theorem State.setShReg_mboxMem (s : State) (k : Nat) (v : Word) : (s.setShReg k v).mboxMem = s.mboxMem := by simp only [State.setShReg]
@[simp] theorem State.setShReg_procs (s : State) (k : Nat) (v : Word) : (s.setShReg k v).procs = s.procs := by simp only [State.setShReg]
@[simp] theorem State.setShReg_cc (s : State) (k : Nat) (v : Word) : (s.setShReg k v).cc = s.cc := by simp only [State.setShReg]
@[simp] theorem State.setShReg_upds (s : State) (k : Nat) (v : Word) : (s.setShReg k v).upds = s.upds := by simp only [State.setShReg]
@[simp] theorem State.setShReg_sess (s : State) (k : Nat) (v : Word) : (s.setShReg k v).sess = s.sess := by simp only [State.setShReg]
@[simp] theorem State.setShReg_mg (s : State) (k : Nat) (v : Word) : (s.setShReg k v).mg = s.mg := by simp only [State.setShReg]
@[simp] theorem State.setShReg_portCnt (s : State) (k : Nat) (v : Word) : (s.setShReg k v).portCnt = s.portCnt := by simp only [State.setShReg]
@[simp] theorem State.setShReg_reg (s : State) (k : Nat) (v : Word) (key : Nat) : (s.setShReg k v).reg key = s.reg key := by simp only [State.reg, State.setShReg_regs]
@[simp] theorem State.setShReg_fld (s : State) (k : Nat) (v : Word) (pg : Page) (g : Fld) (bank : Nat) : (s.setShReg k v).fld pg g bank = s.fld pg g bank := by simp only [State.fld, State.setShReg_reg]

/-! ### State.emit -/

@[simp] theorem State.emit_regs (s : State) (o : Out) : (s.emit o).regs = s.regs := by simp only [State.emit]
@[simp] theorem State.emit_pending (s : State) (o : Out) : (s.emit o).pending = s.pending := by simp only [State.emit]
@[simp] theorem State.emit_shadow (s : State) (o : Out) : (s.emit o).shadow = s.shadow := by simp only [State.emit]
@[simp] theorem State.emit_mem (s : State) (o : Out) : (s.emit o).mem = s.mem := by simp only [State.emit]
@[simp] theorem State.emit_lines (s : State) (o : Out) : (s.emit o).lines = s.lines := by simp only [State.emit]
@[simp] theorem State.emit_fresh (s : State) (o : Out) : (s.emit o).fresh = s.fresh := by simp only [State.emit]
@[simp] theorem State.emit_mod_ (s : State) (o : Out) : (s.emit o).mod_ = s.mod_ := by simp only [State.emit]
@[simp] theorem State.emit_flash (s : State) (o : Out) : (s.emit o).flash = s.flash := by simp only [State.emit]
@[simp] theorem State.emit_flip (s : State) (o : Out) : (s.emit o).flip = s.flip := by simp only [State.emit]
@[simp] theorem State.emit_semTick (s : State) (o : Out) : (s.emit o).semTick = s.semTick := by simp only [State.emit]
@[simp] theorem State.emit_semTie (s : State) (o : Out) : (s.emit o).semTie = s.semTie := by simp only [State.emit]
@[simp] theorem State.emit_slots (s : State) (o : Out) : (s.emit o).slots = s.slots := by simp only [State.emit]
@[simp] theorem State.emit_progs (s : State) (o : Out) : (s.emit o).progs = s.progs := by simp only [State.emit]
@[simp] theorem State.emit_ring (s : State) (o : Out) : (s.emit o).ring = s.ring := by simp only [State.emit]
@[simp] theorem State.emit_heldH (s : State) (o : Out) : (s.emit o).heldH = s.heldH := by simp only [State.emit]
@[simp] theorem State.emit_heldM (s : State) (o : Out) : (s.emit o).heldM = s.heldM := by simp only [State.emit]
@[simp] theorem State.emit_usedH (s : State) (o : Out) : (s.emit o).usedH = s.usedH := by simp only [State.emit]
@[simp] theorem State.emit_usedM (s : State) (o : Out) : (s.emit o).usedM = s.usedM := by simp only [State.emit]
@[simp] theorem State.emit_seqs (s : State) (o : Out) : (s.emit o).seqs = s.seqs := by simp only [State.emit]
@[simp] theorem State.emit_stks (s : State) (o : Out) : (s.emit o).stks = s.stks := by simp only [State.emit]
@[simp] theorem State.emit_reads (s : State) (o : Out) : (s.emit o).reads = s.reads := by simp only [State.emit]
@[simp] theorem State.emit_mats (s : State) (o : Out) : (s.emit o).mats = s.mats := by simp only [State.emit]
@[simp] theorem State.emit_nmus (s : State) (o : Out) : (s.emit o).nmus = s.nmus := by simp only [State.emit]
@[simp] theorem State.emit_seals (s : State) (o : Out) : (s.emit o).seals = s.seals := by simp only [State.emit]
@[simp] theorem State.emit_resets (s : State) (o : Out) : (s.emit o).resets = s.resets := by simp only [State.emit]
@[simp] theorem State.emit_bundles (s : State) (o : Out) : (s.emit o).bundles = s.bundles := by simp only [State.emit]
@[simp] theorem State.emit_lanes (s : State) (o : Out) : (s.emit o).lanes = s.lanes := by simp only [State.emit]
@[simp] theorem State.emit_ports (s : State) (o : Out) : (s.emit o).ports = s.ports := by simp only [State.emit]
@[simp] theorem State.emit_outst (s : State) (o : Out) : (s.emit o).outst = s.outst := by simp only [State.emit]
@[simp] theorem State.emit_plan (s : State) (o : Out) : (s.emit o).plan = s.plan := by simp only [State.emit]
@[simp] theorem State.emit_rings (s : State) (o : Out) : (s.emit o).rings = s.rings := by simp only [State.emit]
@[simp] theorem State.emit_engs (s : State) (o : Out) : (s.emit o).engs = s.engs := by simp only [State.emit]
@[simp] theorem State.emit_keys (s : State) (o : Out) : (s.emit o).keys = s.keys := by simp only [State.emit]
@[simp] theorem State.emit_jobKeys (s : State) (o : Out) : (s.emit o).jobKeys = s.jobKeys := by simp only [State.emit]
@[simp] theorem State.emit_decap (s : State) (o : Out) : (s.emit o).decap = s.decap := by simp only [State.emit]
@[simp] theorem State.emit_frtLo (s : State) (o : Out) : (s.emit o).frtLo = s.frtLo := by simp only [State.emit]
@[simp] theorem State.emit_noroute (s : State) (o : Out) : (s.emit o).noroute = s.noroute := by simp only [State.emit]
@[simp] theorem State.emit_dropTick (s : State) (o : Out) : (s.emit o).dropTick = s.dropTick := by simp only [State.emit]
@[simp] theorem State.emit_cores (s : State) (o : Out) : (s.emit o).cores = s.cores := by simp only [State.emit]
@[simp] theorem State.emit_binds (s : State) (o : Out) : (s.emit o).binds = s.binds := by simp only [State.emit]
@[simp] theorem State.emit_fences (s : State) (o : Out) : (s.emit o).fences = s.fences := by simp only [State.emit]
@[simp] theorem State.emit_parts (s : State) (o : Out) : (s.emit o).parts = s.parts := by simp only [State.emit]
@[simp] theorem State.emit_lineXs (s : State) (o : Out) : (s.emit o).lineXs = s.lineXs := by simp only [State.emit]
@[simp] theorem State.emit_lineTag (s : State) (o : Out) : (s.emit o).lineTag = s.lineTag := by simp only [State.emit]
@[simp] theorem State.emit_eps (s : State) (o : Out) : (s.emit o).eps = s.eps := by simp only [State.emit]
@[simp] theorem State.emit_skews (s : State) (o : Out) : (s.emit o).skews = s.skews := by simp only [State.emit]
@[simp] theorem State.emit_yoyoCur (s : State) (o : Out) : (s.emit o).yoyoCur = s.yoyoCur := by simp only [State.emit]
@[simp] theorem State.emit_yoyoDue (s : State) (o : Out) : (s.emit o).yoyoDue = s.yoyoDue := by simp only [State.emit]
@[simp] theorem State.emit_time (s : State) (o : Out) : (s.emit o).time = s.time := by simp only [State.emit]
@[simp] theorem State.emit_ftNow (s : State) (o : Out) : (s.emit o).ftNow = s.ftNow := by simp only [State.emit]
@[simp] theorem State.emit_ct (s : State) (o : Out) : (s.emit o).ct = s.ct := by simp only [State.emit]
@[simp] theorem State.emit_colls (s : State) (o : Out) : (s.emit o).colls = s.colls := by simp only [State.emit]
@[simp] theorem State.emit_taps (s : State) (o : Out) : (s.emit o).taps = s.taps := by simp only [State.emit]
@[simp] theorem State.emit_nmuDone (s : State) (o : Out) : (s.emit o).nmuDone = s.nmuDone := by simp only [State.emit]
@[simp] theorem State.emit_cks (s : State) (o : Out) : (s.emit o).cks = s.cks := by simp only [State.emit]
@[simp] theorem State.emit_rcs (s : State) (o : Out) : (s.emit o).rcs = s.rcs := by simp only [State.emit]
@[simp] theorem State.emit_mirs (s : State) (o : Out) : (s.emit o).mirs = s.mirs := by simp only [State.emit]
@[simp] theorem State.emit_dgs (s : State) (o : Out) : (s.emit o).dgs = s.dgs := by simp only [State.emit]
@[simp] theorem State.emit_fts (s : State) (o : Out) : (s.emit o).fts = s.fts := by simp only [State.emit]
@[simp] theorem State.emit_sigs (s : State) (o : Out) : (s.emit o).sigs = s.sigs := by simp only [State.emit]
@[simp] theorem State.emit_sigAcks (s : State) (o : Out) : (s.emit o).sigAcks = s.sigAcks := by simp only [State.emit]
@[simp] theorem State.emit_sealTick (s : State) (o : Out) : (s.emit o).sealTick = s.sealTick := by simp only [State.emit]
@[simp] theorem State.emit_faults (s : State) (o : Out) : (s.emit o).faults = s.faults := by simp only [State.emit]
@[simp] theorem State.emit_sec (s : State) (o : Out) : (s.emit o).sec = s.sec := by simp only [State.emit]
@[simp] theorem State.emit_mbox (s : State) (o : Out) : (s.emit o).mbox = s.mbox := by simp only [State.emit]
@[simp] theorem State.emit_mboxMem (s : State) (o : Out) : (s.emit o).mboxMem = s.mboxMem := by simp only [State.emit]
@[simp] theorem State.emit_procs (s : State) (o : Out) : (s.emit o).procs = s.procs := by simp only [State.emit]
@[simp] theorem State.emit_cc (s : State) (o : Out) : (s.emit o).cc = s.cc := by simp only [State.emit]
@[simp] theorem State.emit_upds (s : State) (o : Out) : (s.emit o).upds = s.upds := by simp only [State.emit]
@[simp] theorem State.emit_sess (s : State) (o : Out) : (s.emit o).sess = s.sess := by simp only [State.emit]
@[simp] theorem State.emit_mg (s : State) (o : Out) : (s.emit o).mg = s.mg := by simp only [State.emit]
@[simp] theorem State.emit_portCnt (s : State) (o : Out) : (s.emit o).portCnt = s.portCnt := by simp only [State.emit]
@[simp] theorem State.emit_reg (s : State) (o : Out) (key : Nat) : (s.emit o).reg key = s.reg key := by simp only [State.reg, State.emit_regs]
@[simp] theorem State.emit_fld (s : State) (o : Out) (pg : Page) (g : Fld) (bank : Nat) : (s.emit o).fld pg g bank = s.fld pg g bank := by simp only [State.fld, State.emit_reg]

/-! ### State.setByte -/

@[simp] theorem State.setByte_regs (s : State) (k : Nat) (b : Byte) : (s.setByte k b).regs = s.regs := by simp only [State.setByte]
@[simp] theorem State.setByte_pending (s : State) (k : Nat) (b : Byte) : (s.setByte k b).pending = s.pending := by simp only [State.setByte]
@[simp] theorem State.setByte_shadow (s : State) (k : Nat) (b : Byte) : (s.setByte k b).shadow = s.shadow := by simp only [State.setByte]
@[simp] theorem State.setByte_lines (s : State) (k : Nat) (b : Byte) : (s.setByte k b).lines = s.lines := by simp only [State.setByte]
@[simp] theorem State.setByte_out (s : State) (k : Nat) (b : Byte) : (s.setByte k b).out = s.out := by simp only [State.setByte]
@[simp] theorem State.setByte_fresh (s : State) (k : Nat) (b : Byte) : (s.setByte k b).fresh = s.fresh := by simp only [State.setByte]
@[simp] theorem State.setByte_mod_ (s : State) (k : Nat) (b : Byte) : (s.setByte k b).mod_ = s.mod_ := by simp only [State.setByte]
@[simp] theorem State.setByte_flash (s : State) (k : Nat) (b : Byte) : (s.setByte k b).flash = s.flash := by simp only [State.setByte]
@[simp] theorem State.setByte_flip (s : State) (k : Nat) (b : Byte) : (s.setByte k b).flip = s.flip := by simp only [State.setByte]
@[simp] theorem State.setByte_semTick (s : State) (k : Nat) (b : Byte) : (s.setByte k b).semTick = s.semTick := by simp only [State.setByte]
@[simp] theorem State.setByte_semTie (s : State) (k : Nat) (b : Byte) : (s.setByte k b).semTie = s.semTie := by simp only [State.setByte]
@[simp] theorem State.setByte_slots (s : State) (k : Nat) (b : Byte) : (s.setByte k b).slots = s.slots := by simp only [State.setByte]
@[simp] theorem State.setByte_progs (s : State) (k : Nat) (b : Byte) : (s.setByte k b).progs = s.progs := by simp only [State.setByte]
@[simp] theorem State.setByte_ring (s : State) (k : Nat) (b : Byte) : (s.setByte k b).ring = s.ring := by simp only [State.setByte]
@[simp] theorem State.setByte_heldH (s : State) (k : Nat) (b : Byte) : (s.setByte k b).heldH = s.heldH := by simp only [State.setByte]
@[simp] theorem State.setByte_heldM (s : State) (k : Nat) (b : Byte) : (s.setByte k b).heldM = s.heldM := by simp only [State.setByte]
@[simp] theorem State.setByte_usedH (s : State) (k : Nat) (b : Byte) : (s.setByte k b).usedH = s.usedH := by simp only [State.setByte]
@[simp] theorem State.setByte_usedM (s : State) (k : Nat) (b : Byte) : (s.setByte k b).usedM = s.usedM := by simp only [State.setByte]
@[simp] theorem State.setByte_seqs (s : State) (k : Nat) (b : Byte) : (s.setByte k b).seqs = s.seqs := by simp only [State.setByte]
@[simp] theorem State.setByte_stks (s : State) (k : Nat) (b : Byte) : (s.setByte k b).stks = s.stks := by simp only [State.setByte]
@[simp] theorem State.setByte_reads (s : State) (k : Nat) (b : Byte) : (s.setByte k b).reads = s.reads := by simp only [State.setByte]
@[simp] theorem State.setByte_mats (s : State) (k : Nat) (b : Byte) : (s.setByte k b).mats = s.mats := by simp only [State.setByte]
@[simp] theorem State.setByte_nmus (s : State) (k : Nat) (b : Byte) : (s.setByte k b).nmus = s.nmus := by simp only [State.setByte]
@[simp] theorem State.setByte_seals (s : State) (k : Nat) (b : Byte) : (s.setByte k b).seals = s.seals := by simp only [State.setByte]
@[simp] theorem State.setByte_resets (s : State) (k : Nat) (b : Byte) : (s.setByte k b).resets = s.resets := by simp only [State.setByte]
@[simp] theorem State.setByte_bundles (s : State) (k : Nat) (b : Byte) : (s.setByte k b).bundles = s.bundles := by simp only [State.setByte]
@[simp] theorem State.setByte_lanes (s : State) (k : Nat) (b : Byte) : (s.setByte k b).lanes = s.lanes := by simp only [State.setByte]
@[simp] theorem State.setByte_ports (s : State) (k : Nat) (b : Byte) : (s.setByte k b).ports = s.ports := by simp only [State.setByte]
@[simp] theorem State.setByte_outst (s : State) (k : Nat) (b : Byte) : (s.setByte k b).outst = s.outst := by simp only [State.setByte]
@[simp] theorem State.setByte_plan (s : State) (k : Nat) (b : Byte) : (s.setByte k b).plan = s.plan := by simp only [State.setByte]
@[simp] theorem State.setByte_rings (s : State) (k : Nat) (b : Byte) : (s.setByte k b).rings = s.rings := by simp only [State.setByte]
@[simp] theorem State.setByte_engs (s : State) (k : Nat) (b : Byte) : (s.setByte k b).engs = s.engs := by simp only [State.setByte]
@[simp] theorem State.setByte_keys (s : State) (k : Nat) (b : Byte) : (s.setByte k b).keys = s.keys := by simp only [State.setByte]
@[simp] theorem State.setByte_jobKeys (s : State) (k : Nat) (b : Byte) : (s.setByte k b).jobKeys = s.jobKeys := by simp only [State.setByte]
@[simp] theorem State.setByte_decap (s : State) (k : Nat) (b : Byte) : (s.setByte k b).decap = s.decap := by simp only [State.setByte]
@[simp] theorem State.setByte_frtLo (s : State) (k : Nat) (b : Byte) : (s.setByte k b).frtLo = s.frtLo := by simp only [State.setByte]
@[simp] theorem State.setByte_noroute (s : State) (k : Nat) (b : Byte) : (s.setByte k b).noroute = s.noroute := by simp only [State.setByte]
@[simp] theorem State.setByte_dropTick (s : State) (k : Nat) (b : Byte) : (s.setByte k b).dropTick = s.dropTick := by simp only [State.setByte]
@[simp] theorem State.setByte_cores (s : State) (k : Nat) (b : Byte) : (s.setByte k b).cores = s.cores := by simp only [State.setByte]
@[simp] theorem State.setByte_binds (s : State) (k : Nat) (b : Byte) : (s.setByte k b).binds = s.binds := by simp only [State.setByte]
@[simp] theorem State.setByte_fences (s : State) (k : Nat) (b : Byte) : (s.setByte k b).fences = s.fences := by simp only [State.setByte]
@[simp] theorem State.setByte_parts (s : State) (k : Nat) (b : Byte) : (s.setByte k b).parts = s.parts := by simp only [State.setByte]
@[simp] theorem State.setByte_lineXs (s : State) (k : Nat) (b : Byte) : (s.setByte k b).lineXs = s.lineXs := by simp only [State.setByte]
@[simp] theorem State.setByte_lineTag (s : State) (k : Nat) (b : Byte) : (s.setByte k b).lineTag = s.lineTag := by simp only [State.setByte]
@[simp] theorem State.setByte_eps (s : State) (k : Nat) (b : Byte) : (s.setByte k b).eps = s.eps := by simp only [State.setByte]
@[simp] theorem State.setByte_skews (s : State) (k : Nat) (b : Byte) : (s.setByte k b).skews = s.skews := by simp only [State.setByte]
@[simp] theorem State.setByte_yoyoCur (s : State) (k : Nat) (b : Byte) : (s.setByte k b).yoyoCur = s.yoyoCur := by simp only [State.setByte]
@[simp] theorem State.setByte_yoyoDue (s : State) (k : Nat) (b : Byte) : (s.setByte k b).yoyoDue = s.yoyoDue := by simp only [State.setByte]
@[simp] theorem State.setByte_time (s : State) (k : Nat) (b : Byte) : (s.setByte k b).time = s.time := by simp only [State.setByte]
@[simp] theorem State.setByte_ftNow (s : State) (k : Nat) (b : Byte) : (s.setByte k b).ftNow = s.ftNow := by simp only [State.setByte]
@[simp] theorem State.setByte_ct (s : State) (k : Nat) (b : Byte) : (s.setByte k b).ct = s.ct := by simp only [State.setByte]
@[simp] theorem State.setByte_colls (s : State) (k : Nat) (b : Byte) : (s.setByte k b).colls = s.colls := by simp only [State.setByte]
@[simp] theorem State.setByte_taps (s : State) (k : Nat) (b : Byte) : (s.setByte k b).taps = s.taps := by simp only [State.setByte]
@[simp] theorem State.setByte_nmuDone (s : State) (k : Nat) (b : Byte) : (s.setByte k b).nmuDone = s.nmuDone := by simp only [State.setByte]
@[simp] theorem State.setByte_cks (s : State) (k : Nat) (b : Byte) : (s.setByte k b).cks = s.cks := by simp only [State.setByte]
@[simp] theorem State.setByte_rcs (s : State) (k : Nat) (b : Byte) : (s.setByte k b).rcs = s.rcs := by simp only [State.setByte]
@[simp] theorem State.setByte_mirs (s : State) (k : Nat) (b : Byte) : (s.setByte k b).mirs = s.mirs := by simp only [State.setByte]
@[simp] theorem State.setByte_dgs (s : State) (k : Nat) (b : Byte) : (s.setByte k b).dgs = s.dgs := by simp only [State.setByte]
@[simp] theorem State.setByte_fts (s : State) (k : Nat) (b : Byte) : (s.setByte k b).fts = s.fts := by simp only [State.setByte]
@[simp] theorem State.setByte_sigs (s : State) (k : Nat) (b : Byte) : (s.setByte k b).sigs = s.sigs := by simp only [State.setByte]
@[simp] theorem State.setByte_sigAcks (s : State) (k : Nat) (b : Byte) : (s.setByte k b).sigAcks = s.sigAcks := by simp only [State.setByte]
@[simp] theorem State.setByte_sealTick (s : State) (k : Nat) (b : Byte) : (s.setByte k b).sealTick = s.sealTick := by simp only [State.setByte]
@[simp] theorem State.setByte_faults (s : State) (k : Nat) (b : Byte) : (s.setByte k b).faults = s.faults := by simp only [State.setByte]
@[simp] theorem State.setByte_sec (s : State) (k : Nat) (b : Byte) : (s.setByte k b).sec = s.sec := by simp only [State.setByte]
@[simp] theorem State.setByte_mbox (s : State) (k : Nat) (b : Byte) : (s.setByte k b).mbox = s.mbox := by simp only [State.setByte]
@[simp] theorem State.setByte_mboxMem (s : State) (k : Nat) (b : Byte) : (s.setByte k b).mboxMem = s.mboxMem := by simp only [State.setByte]
@[simp] theorem State.setByte_procs (s : State) (k : Nat) (b : Byte) : (s.setByte k b).procs = s.procs := by simp only [State.setByte]
@[simp] theorem State.setByte_cc (s : State) (k : Nat) (b : Byte) : (s.setByte k b).cc = s.cc := by simp only [State.setByte]
@[simp] theorem State.setByte_upds (s : State) (k : Nat) (b : Byte) : (s.setByte k b).upds = s.upds := by simp only [State.setByte]
@[simp] theorem State.setByte_sess (s : State) (k : Nat) (b : Byte) : (s.setByte k b).sess = s.sess := by simp only [State.setByte]
@[simp] theorem State.setByte_mg (s : State) (k : Nat) (b : Byte) : (s.setByte k b).mg = s.mg := by simp only [State.setByte]
@[simp] theorem State.setByte_portCnt (s : State) (k : Nat) (b : Byte) : (s.setByte k b).portCnt = s.portCnt := by simp only [State.setByte]
@[simp] theorem State.setByte_reg (s : State) (k : Nat) (b : Byte) (key : Nat) : (s.setByte k b).reg key = s.reg key := by simp only [State.reg, State.setByte_regs]
@[simp] theorem State.setByte_fld (s : State) (k : Nat) (b : Byte) (pg : Page) (g : Fld) (bank : Nat) : (s.setByte k b).fld pg g bank = s.fld pg g bank := by simp only [State.fld, State.setByte_reg]

/-! ### State.setSeq -/

@[simp] theorem State.setSeq_regs (s : State) (lc : Nat) (q : Seq) : (s.setSeq lc q).regs = s.regs := by simp only [State.setSeq]
@[simp] theorem State.setSeq_pending (s : State) (lc : Nat) (q : Seq) : (s.setSeq lc q).pending = s.pending := by simp only [State.setSeq]
@[simp] theorem State.setSeq_shadow (s : State) (lc : Nat) (q : Seq) : (s.setSeq lc q).shadow = s.shadow := by simp only [State.setSeq]
@[simp] theorem State.setSeq_mem (s : State) (lc : Nat) (q : Seq) : (s.setSeq lc q).mem = s.mem := by simp only [State.setSeq]
@[simp] theorem State.setSeq_lines (s : State) (lc : Nat) (q : Seq) : (s.setSeq lc q).lines = s.lines := by simp only [State.setSeq]
@[simp] theorem State.setSeq_out (s : State) (lc : Nat) (q : Seq) : (s.setSeq lc q).out = s.out := by simp only [State.setSeq]
@[simp] theorem State.setSeq_fresh (s : State) (lc : Nat) (q : Seq) : (s.setSeq lc q).fresh = s.fresh := by simp only [State.setSeq]
@[simp] theorem State.setSeq_mod_ (s : State) (lc : Nat) (q : Seq) : (s.setSeq lc q).mod_ = s.mod_ := by simp only [State.setSeq]
@[simp] theorem State.setSeq_flash (s : State) (lc : Nat) (q : Seq) : (s.setSeq lc q).flash = s.flash := by simp only [State.setSeq]
@[simp] theorem State.setSeq_flip (s : State) (lc : Nat) (q : Seq) : (s.setSeq lc q).flip = s.flip := by simp only [State.setSeq]
@[simp] theorem State.setSeq_semTick (s : State) (lc : Nat) (q : Seq) : (s.setSeq lc q).semTick = s.semTick := by simp only [State.setSeq]
@[simp] theorem State.setSeq_semTie (s : State) (lc : Nat) (q : Seq) : (s.setSeq lc q).semTie = s.semTie := by simp only [State.setSeq]
@[simp] theorem State.setSeq_slots (s : State) (lc : Nat) (q : Seq) : (s.setSeq lc q).slots = s.slots := by simp only [State.setSeq]
@[simp] theorem State.setSeq_progs (s : State) (lc : Nat) (q : Seq) : (s.setSeq lc q).progs = s.progs := by simp only [State.setSeq]
@[simp] theorem State.setSeq_ring (s : State) (lc : Nat) (q : Seq) : (s.setSeq lc q).ring = s.ring := by simp only [State.setSeq]
@[simp] theorem State.setSeq_heldH (s : State) (lc : Nat) (q : Seq) : (s.setSeq lc q).heldH = s.heldH := by simp only [State.setSeq]
@[simp] theorem State.setSeq_heldM (s : State) (lc : Nat) (q : Seq) : (s.setSeq lc q).heldM = s.heldM := by simp only [State.setSeq]
@[simp] theorem State.setSeq_usedH (s : State) (lc : Nat) (q : Seq) : (s.setSeq lc q).usedH = s.usedH := by simp only [State.setSeq]
@[simp] theorem State.setSeq_usedM (s : State) (lc : Nat) (q : Seq) : (s.setSeq lc q).usedM = s.usedM := by simp only [State.setSeq]
@[simp] theorem State.setSeq_stks (s : State) (lc : Nat) (q : Seq) : (s.setSeq lc q).stks = s.stks := by simp only [State.setSeq]
@[simp] theorem State.setSeq_reads (s : State) (lc : Nat) (q : Seq) : (s.setSeq lc q).reads = s.reads := by simp only [State.setSeq]
@[simp] theorem State.setSeq_mats (s : State) (lc : Nat) (q : Seq) : (s.setSeq lc q).mats = s.mats := by simp only [State.setSeq]
@[simp] theorem State.setSeq_nmus (s : State) (lc : Nat) (q : Seq) : (s.setSeq lc q).nmus = s.nmus := by simp only [State.setSeq]
@[simp] theorem State.setSeq_seals (s : State) (lc : Nat) (q : Seq) : (s.setSeq lc q).seals = s.seals := by simp only [State.setSeq]
@[simp] theorem State.setSeq_resets (s : State) (lc : Nat) (q : Seq) : (s.setSeq lc q).resets = s.resets := by simp only [State.setSeq]
@[simp] theorem State.setSeq_bundles (s : State) (lc : Nat) (q : Seq) : (s.setSeq lc q).bundles = s.bundles := by simp only [State.setSeq]
@[simp] theorem State.setSeq_lanes (s : State) (lc : Nat) (q : Seq) : (s.setSeq lc q).lanes = s.lanes := by simp only [State.setSeq]
@[simp] theorem State.setSeq_ports (s : State) (lc : Nat) (q : Seq) : (s.setSeq lc q).ports = s.ports := by simp only [State.setSeq]
@[simp] theorem State.setSeq_outst (s : State) (lc : Nat) (q : Seq) : (s.setSeq lc q).outst = s.outst := by simp only [State.setSeq]
@[simp] theorem State.setSeq_plan (s : State) (lc : Nat) (q : Seq) : (s.setSeq lc q).plan = s.plan := by simp only [State.setSeq]
@[simp] theorem State.setSeq_rings (s : State) (lc : Nat) (q : Seq) : (s.setSeq lc q).rings = s.rings := by simp only [State.setSeq]
@[simp] theorem State.setSeq_engs (s : State) (lc : Nat) (q : Seq) : (s.setSeq lc q).engs = s.engs := by simp only [State.setSeq]
@[simp] theorem State.setSeq_keys (s : State) (lc : Nat) (q : Seq) : (s.setSeq lc q).keys = s.keys := by simp only [State.setSeq]
@[simp] theorem State.setSeq_jobKeys (s : State) (lc : Nat) (q : Seq) : (s.setSeq lc q).jobKeys = s.jobKeys := by simp only [State.setSeq]
@[simp] theorem State.setSeq_decap (s : State) (lc : Nat) (q : Seq) : (s.setSeq lc q).decap = s.decap := by simp only [State.setSeq]
@[simp] theorem State.setSeq_frtLo (s : State) (lc : Nat) (q : Seq) : (s.setSeq lc q).frtLo = s.frtLo := by simp only [State.setSeq]
@[simp] theorem State.setSeq_noroute (s : State) (lc : Nat) (q : Seq) : (s.setSeq lc q).noroute = s.noroute := by simp only [State.setSeq]
@[simp] theorem State.setSeq_dropTick (s : State) (lc : Nat) (q : Seq) : (s.setSeq lc q).dropTick = s.dropTick := by simp only [State.setSeq]
@[simp] theorem State.setSeq_cores (s : State) (lc : Nat) (q : Seq) : (s.setSeq lc q).cores = s.cores := by simp only [State.setSeq]
@[simp] theorem State.setSeq_binds (s : State) (lc : Nat) (q : Seq) : (s.setSeq lc q).binds = s.binds := by simp only [State.setSeq]
@[simp] theorem State.setSeq_fences (s : State) (lc : Nat) (q : Seq) : (s.setSeq lc q).fences = s.fences := by simp only [State.setSeq]
@[simp] theorem State.setSeq_parts (s : State) (lc : Nat) (q : Seq) : (s.setSeq lc q).parts = s.parts := by simp only [State.setSeq]
@[simp] theorem State.setSeq_lineXs (s : State) (lc : Nat) (q : Seq) : (s.setSeq lc q).lineXs = s.lineXs := by simp only [State.setSeq]
@[simp] theorem State.setSeq_lineTag (s : State) (lc : Nat) (q : Seq) : (s.setSeq lc q).lineTag = s.lineTag := by simp only [State.setSeq]
@[simp] theorem State.setSeq_eps (s : State) (lc : Nat) (q : Seq) : (s.setSeq lc q).eps = s.eps := by simp only [State.setSeq]
@[simp] theorem State.setSeq_skews (s : State) (lc : Nat) (q : Seq) : (s.setSeq lc q).skews = s.skews := by simp only [State.setSeq]
@[simp] theorem State.setSeq_yoyoCur (s : State) (lc : Nat) (q : Seq) : (s.setSeq lc q).yoyoCur = s.yoyoCur := by simp only [State.setSeq]
@[simp] theorem State.setSeq_yoyoDue (s : State) (lc : Nat) (q : Seq) : (s.setSeq lc q).yoyoDue = s.yoyoDue := by simp only [State.setSeq]
@[simp] theorem State.setSeq_time (s : State) (lc : Nat) (q : Seq) : (s.setSeq lc q).time = s.time := by simp only [State.setSeq]
@[simp] theorem State.setSeq_ftNow (s : State) (lc : Nat) (q : Seq) : (s.setSeq lc q).ftNow = s.ftNow := by simp only [State.setSeq]
@[simp] theorem State.setSeq_ct (s : State) (lc : Nat) (q : Seq) : (s.setSeq lc q).ct = s.ct := by simp only [State.setSeq]
@[simp] theorem State.setSeq_colls (s : State) (lc : Nat) (q : Seq) : (s.setSeq lc q).colls = s.colls := by simp only [State.setSeq]
@[simp] theorem State.setSeq_taps (s : State) (lc : Nat) (q : Seq) : (s.setSeq lc q).taps = s.taps := by simp only [State.setSeq]
@[simp] theorem State.setSeq_nmuDone (s : State) (lc : Nat) (q : Seq) : (s.setSeq lc q).nmuDone = s.nmuDone := by simp only [State.setSeq]
@[simp] theorem State.setSeq_cks (s : State) (lc : Nat) (q : Seq) : (s.setSeq lc q).cks = s.cks := by simp only [State.setSeq]
@[simp] theorem State.setSeq_rcs (s : State) (lc : Nat) (q : Seq) : (s.setSeq lc q).rcs = s.rcs := by simp only [State.setSeq]
@[simp] theorem State.setSeq_mirs (s : State) (lc : Nat) (q : Seq) : (s.setSeq lc q).mirs = s.mirs := by simp only [State.setSeq]
@[simp] theorem State.setSeq_dgs (s : State) (lc : Nat) (q : Seq) : (s.setSeq lc q).dgs = s.dgs := by simp only [State.setSeq]
@[simp] theorem State.setSeq_fts (s : State) (lc : Nat) (q : Seq) : (s.setSeq lc q).fts = s.fts := by simp only [State.setSeq]
@[simp] theorem State.setSeq_sigs (s : State) (lc : Nat) (q : Seq) : (s.setSeq lc q).sigs = s.sigs := by simp only [State.setSeq]
@[simp] theorem State.setSeq_sigAcks (s : State) (lc : Nat) (q : Seq) : (s.setSeq lc q).sigAcks = s.sigAcks := by simp only [State.setSeq]
@[simp] theorem State.setSeq_sealTick (s : State) (lc : Nat) (q : Seq) : (s.setSeq lc q).sealTick = s.sealTick := by simp only [State.setSeq]
@[simp] theorem State.setSeq_faults (s : State) (lc : Nat) (q : Seq) : (s.setSeq lc q).faults = s.faults := by simp only [State.setSeq]
@[simp] theorem State.setSeq_sec (s : State) (lc : Nat) (q : Seq) : (s.setSeq lc q).sec = s.sec := by simp only [State.setSeq]
@[simp] theorem State.setSeq_mbox (s : State) (lc : Nat) (q : Seq) : (s.setSeq lc q).mbox = s.mbox := by simp only [State.setSeq]
@[simp] theorem State.setSeq_mboxMem (s : State) (lc : Nat) (q : Seq) : (s.setSeq lc q).mboxMem = s.mboxMem := by simp only [State.setSeq]
@[simp] theorem State.setSeq_procs (s : State) (lc : Nat) (q : Seq) : (s.setSeq lc q).procs = s.procs := by simp only [State.setSeq]
@[simp] theorem State.setSeq_cc (s : State) (lc : Nat) (q : Seq) : (s.setSeq lc q).cc = s.cc := by simp only [State.setSeq]
@[simp] theorem State.setSeq_upds (s : State) (lc : Nat) (q : Seq) : (s.setSeq lc q).upds = s.upds := by simp only [State.setSeq]
@[simp] theorem State.setSeq_sess (s : State) (lc : Nat) (q : Seq) : (s.setSeq lc q).sess = s.sess := by simp only [State.setSeq]
@[simp] theorem State.setSeq_mg (s : State) (lc : Nat) (q : Seq) : (s.setSeq lc q).mg = s.mg := by simp only [State.setSeq]
@[simp] theorem State.setSeq_portCnt (s : State) (lc : Nat) (q : Seq) : (s.setSeq lc q).portCnt = s.portCnt := by simp only [State.setSeq]
@[simp] theorem State.setSeq_reg (s : State) (lc : Nat) (q : Seq) (key : Nat) : (s.setSeq lc q).reg key = s.reg key := by simp only [State.reg, State.setSeq_regs]
@[simp] theorem State.setSeq_fld (s : State) (lc : Nat) (q : Seq) (pg : Page) (g : Fld) (bank : Nat) : (s.setSeq lc q).fld pg g bank = s.fld pg g bank := by simp only [State.fld, State.setSeq_reg]

/-! ### State.modSeq -/

@[simp] theorem State.modSeq_regs (s : State) (lc : Nat) (f : Seq → Seq) : (s.modSeq lc f).regs = s.regs := State.setSeq_regs _ _ _
@[simp] theorem State.modSeq_pending (s : State) (lc : Nat) (f : Seq → Seq) : (s.modSeq lc f).pending = s.pending := State.setSeq_pending _ _ _
@[simp] theorem State.modSeq_shadow (s : State) (lc : Nat) (f : Seq → Seq) : (s.modSeq lc f).shadow = s.shadow := State.setSeq_shadow _ _ _
@[simp] theorem State.modSeq_mem (s : State) (lc : Nat) (f : Seq → Seq) : (s.modSeq lc f).mem = s.mem := State.setSeq_mem _ _ _
@[simp] theorem State.modSeq_lines (s : State) (lc : Nat) (f : Seq → Seq) : (s.modSeq lc f).lines = s.lines := State.setSeq_lines _ _ _
@[simp] theorem State.modSeq_out (s : State) (lc : Nat) (f : Seq → Seq) : (s.modSeq lc f).out = s.out := State.setSeq_out _ _ _
@[simp] theorem State.modSeq_fresh (s : State) (lc : Nat) (f : Seq → Seq) : (s.modSeq lc f).fresh = s.fresh := State.setSeq_fresh _ _ _
@[simp] theorem State.modSeq_mod_ (s : State) (lc : Nat) (f : Seq → Seq) : (s.modSeq lc f).mod_ = s.mod_ := State.setSeq_mod_ _ _ _
@[simp] theorem State.modSeq_flash (s : State) (lc : Nat) (f : Seq → Seq) : (s.modSeq lc f).flash = s.flash := State.setSeq_flash _ _ _
@[simp] theorem State.modSeq_flip (s : State) (lc : Nat) (f : Seq → Seq) : (s.modSeq lc f).flip = s.flip := State.setSeq_flip _ _ _
@[simp] theorem State.modSeq_semTick (s : State) (lc : Nat) (f : Seq → Seq) : (s.modSeq lc f).semTick = s.semTick := State.setSeq_semTick _ _ _
@[simp] theorem State.modSeq_semTie (s : State) (lc : Nat) (f : Seq → Seq) : (s.modSeq lc f).semTie = s.semTie := State.setSeq_semTie _ _ _
@[simp] theorem State.modSeq_slots (s : State) (lc : Nat) (f : Seq → Seq) : (s.modSeq lc f).slots = s.slots := State.setSeq_slots _ _ _
@[simp] theorem State.modSeq_progs (s : State) (lc : Nat) (f : Seq → Seq) : (s.modSeq lc f).progs = s.progs := State.setSeq_progs _ _ _
@[simp] theorem State.modSeq_ring (s : State) (lc : Nat) (f : Seq → Seq) : (s.modSeq lc f).ring = s.ring := State.setSeq_ring _ _ _
@[simp] theorem State.modSeq_heldH (s : State) (lc : Nat) (f : Seq → Seq) : (s.modSeq lc f).heldH = s.heldH := State.setSeq_heldH _ _ _
@[simp] theorem State.modSeq_heldM (s : State) (lc : Nat) (f : Seq → Seq) : (s.modSeq lc f).heldM = s.heldM := State.setSeq_heldM _ _ _
@[simp] theorem State.modSeq_usedH (s : State) (lc : Nat) (f : Seq → Seq) : (s.modSeq lc f).usedH = s.usedH := State.setSeq_usedH _ _ _
@[simp] theorem State.modSeq_usedM (s : State) (lc : Nat) (f : Seq → Seq) : (s.modSeq lc f).usedM = s.usedM := State.setSeq_usedM _ _ _
@[simp] theorem State.modSeq_stks (s : State) (lc : Nat) (f : Seq → Seq) : (s.modSeq lc f).stks = s.stks := State.setSeq_stks _ _ _
@[simp] theorem State.modSeq_reads (s : State) (lc : Nat) (f : Seq → Seq) : (s.modSeq lc f).reads = s.reads := State.setSeq_reads _ _ _
@[simp] theorem State.modSeq_mats (s : State) (lc : Nat) (f : Seq → Seq) : (s.modSeq lc f).mats = s.mats := State.setSeq_mats _ _ _
@[simp] theorem State.modSeq_nmus (s : State) (lc : Nat) (f : Seq → Seq) : (s.modSeq lc f).nmus = s.nmus := State.setSeq_nmus _ _ _
@[simp] theorem State.modSeq_seals (s : State) (lc : Nat) (f : Seq → Seq) : (s.modSeq lc f).seals = s.seals := State.setSeq_seals _ _ _
@[simp] theorem State.modSeq_resets (s : State) (lc : Nat) (f : Seq → Seq) : (s.modSeq lc f).resets = s.resets := State.setSeq_resets _ _ _
@[simp] theorem State.modSeq_bundles (s : State) (lc : Nat) (f : Seq → Seq) : (s.modSeq lc f).bundles = s.bundles := State.setSeq_bundles _ _ _
@[simp] theorem State.modSeq_lanes (s : State) (lc : Nat) (f : Seq → Seq) : (s.modSeq lc f).lanes = s.lanes := State.setSeq_lanes _ _ _
@[simp] theorem State.modSeq_ports (s : State) (lc : Nat) (f : Seq → Seq) : (s.modSeq lc f).ports = s.ports := State.setSeq_ports _ _ _
@[simp] theorem State.modSeq_outst (s : State) (lc : Nat) (f : Seq → Seq) : (s.modSeq lc f).outst = s.outst := State.setSeq_outst _ _ _
@[simp] theorem State.modSeq_plan (s : State) (lc : Nat) (f : Seq → Seq) : (s.modSeq lc f).plan = s.plan := State.setSeq_plan _ _ _
@[simp] theorem State.modSeq_rings (s : State) (lc : Nat) (f : Seq → Seq) : (s.modSeq lc f).rings = s.rings := State.setSeq_rings _ _ _
@[simp] theorem State.modSeq_engs (s : State) (lc : Nat) (f : Seq → Seq) : (s.modSeq lc f).engs = s.engs := State.setSeq_engs _ _ _
@[simp] theorem State.modSeq_keys (s : State) (lc : Nat) (f : Seq → Seq) : (s.modSeq lc f).keys = s.keys := State.setSeq_keys _ _ _
@[simp] theorem State.modSeq_jobKeys (s : State) (lc : Nat) (f : Seq → Seq) : (s.modSeq lc f).jobKeys = s.jobKeys := State.setSeq_jobKeys _ _ _
@[simp] theorem State.modSeq_decap (s : State) (lc : Nat) (f : Seq → Seq) : (s.modSeq lc f).decap = s.decap := State.setSeq_decap _ _ _
@[simp] theorem State.modSeq_frtLo (s : State) (lc : Nat) (f : Seq → Seq) : (s.modSeq lc f).frtLo = s.frtLo := State.setSeq_frtLo _ _ _
@[simp] theorem State.modSeq_noroute (s : State) (lc : Nat) (f : Seq → Seq) : (s.modSeq lc f).noroute = s.noroute := State.setSeq_noroute _ _ _
@[simp] theorem State.modSeq_dropTick (s : State) (lc : Nat) (f : Seq → Seq) : (s.modSeq lc f).dropTick = s.dropTick := State.setSeq_dropTick _ _ _
@[simp] theorem State.modSeq_cores (s : State) (lc : Nat) (f : Seq → Seq) : (s.modSeq lc f).cores = s.cores := State.setSeq_cores _ _ _
@[simp] theorem State.modSeq_binds (s : State) (lc : Nat) (f : Seq → Seq) : (s.modSeq lc f).binds = s.binds := State.setSeq_binds _ _ _
@[simp] theorem State.modSeq_fences (s : State) (lc : Nat) (f : Seq → Seq) : (s.modSeq lc f).fences = s.fences := State.setSeq_fences _ _ _
@[simp] theorem State.modSeq_parts (s : State) (lc : Nat) (f : Seq → Seq) : (s.modSeq lc f).parts = s.parts := State.setSeq_parts _ _ _
@[simp] theorem State.modSeq_lineXs (s : State) (lc : Nat) (f : Seq → Seq) : (s.modSeq lc f).lineXs = s.lineXs := State.setSeq_lineXs _ _ _
@[simp] theorem State.modSeq_lineTag (s : State) (lc : Nat) (f : Seq → Seq) : (s.modSeq lc f).lineTag = s.lineTag := State.setSeq_lineTag _ _ _
@[simp] theorem State.modSeq_eps (s : State) (lc : Nat) (f : Seq → Seq) : (s.modSeq lc f).eps = s.eps := State.setSeq_eps _ _ _
@[simp] theorem State.modSeq_skews (s : State) (lc : Nat) (f : Seq → Seq) : (s.modSeq lc f).skews = s.skews := State.setSeq_skews _ _ _
@[simp] theorem State.modSeq_yoyoCur (s : State) (lc : Nat) (f : Seq → Seq) : (s.modSeq lc f).yoyoCur = s.yoyoCur := State.setSeq_yoyoCur _ _ _
@[simp] theorem State.modSeq_yoyoDue (s : State) (lc : Nat) (f : Seq → Seq) : (s.modSeq lc f).yoyoDue = s.yoyoDue := State.setSeq_yoyoDue _ _ _
@[simp] theorem State.modSeq_time (s : State) (lc : Nat) (f : Seq → Seq) : (s.modSeq lc f).time = s.time := State.setSeq_time _ _ _
@[simp] theorem State.modSeq_ftNow (s : State) (lc : Nat) (f : Seq → Seq) : (s.modSeq lc f).ftNow = s.ftNow := State.setSeq_ftNow _ _ _
@[simp] theorem State.modSeq_ct (s : State) (lc : Nat) (f : Seq → Seq) : (s.modSeq lc f).ct = s.ct := State.setSeq_ct _ _ _
@[simp] theorem State.modSeq_colls (s : State) (lc : Nat) (f : Seq → Seq) : (s.modSeq lc f).colls = s.colls := State.setSeq_colls _ _ _
@[simp] theorem State.modSeq_taps (s : State) (lc : Nat) (f : Seq → Seq) : (s.modSeq lc f).taps = s.taps := State.setSeq_taps _ _ _
@[simp] theorem State.modSeq_nmuDone (s : State) (lc : Nat) (f : Seq → Seq) : (s.modSeq lc f).nmuDone = s.nmuDone := State.setSeq_nmuDone _ _ _
@[simp] theorem State.modSeq_cks (s : State) (lc : Nat) (f : Seq → Seq) : (s.modSeq lc f).cks = s.cks := State.setSeq_cks _ _ _
@[simp] theorem State.modSeq_rcs (s : State) (lc : Nat) (f : Seq → Seq) : (s.modSeq lc f).rcs = s.rcs := State.setSeq_rcs _ _ _
@[simp] theorem State.modSeq_mirs (s : State) (lc : Nat) (f : Seq → Seq) : (s.modSeq lc f).mirs = s.mirs := State.setSeq_mirs _ _ _
@[simp] theorem State.modSeq_dgs (s : State) (lc : Nat) (f : Seq → Seq) : (s.modSeq lc f).dgs = s.dgs := State.setSeq_dgs _ _ _
@[simp] theorem State.modSeq_fts (s : State) (lc : Nat) (f : Seq → Seq) : (s.modSeq lc f).fts = s.fts := State.setSeq_fts _ _ _
@[simp] theorem State.modSeq_sigs (s : State) (lc : Nat) (f : Seq → Seq) : (s.modSeq lc f).sigs = s.sigs := State.setSeq_sigs _ _ _
@[simp] theorem State.modSeq_sigAcks (s : State) (lc : Nat) (f : Seq → Seq) : (s.modSeq lc f).sigAcks = s.sigAcks := State.setSeq_sigAcks _ _ _
@[simp] theorem State.modSeq_sealTick (s : State) (lc : Nat) (f : Seq → Seq) : (s.modSeq lc f).sealTick = s.sealTick := State.setSeq_sealTick _ _ _
@[simp] theorem State.modSeq_faults (s : State) (lc : Nat) (f : Seq → Seq) : (s.modSeq lc f).faults = s.faults := State.setSeq_faults _ _ _
@[simp] theorem State.modSeq_sec (s : State) (lc : Nat) (f : Seq → Seq) : (s.modSeq lc f).sec = s.sec := State.setSeq_sec _ _ _
@[simp] theorem State.modSeq_mbox (s : State) (lc : Nat) (f : Seq → Seq) : (s.modSeq lc f).mbox = s.mbox := State.setSeq_mbox _ _ _
@[simp] theorem State.modSeq_mboxMem (s : State) (lc : Nat) (f : Seq → Seq) : (s.modSeq lc f).mboxMem = s.mboxMem := State.setSeq_mboxMem _ _ _
@[simp] theorem State.modSeq_procs (s : State) (lc : Nat) (f : Seq → Seq) : (s.modSeq lc f).procs = s.procs := State.setSeq_procs _ _ _
@[simp] theorem State.modSeq_cc (s : State) (lc : Nat) (f : Seq → Seq) : (s.modSeq lc f).cc = s.cc := State.setSeq_cc _ _ _
@[simp] theorem State.modSeq_upds (s : State) (lc : Nat) (f : Seq → Seq) : (s.modSeq lc f).upds = s.upds := State.setSeq_upds _ _ _
@[simp] theorem State.modSeq_sess (s : State) (lc : Nat) (f : Seq → Seq) : (s.modSeq lc f).sess = s.sess := State.setSeq_sess _ _ _
@[simp] theorem State.modSeq_mg (s : State) (lc : Nat) (f : Seq → Seq) : (s.modSeq lc f).mg = s.mg := State.setSeq_mg _ _ _
@[simp] theorem State.modSeq_portCnt (s : State) (lc : Nat) (f : Seq → Seq) : (s.modSeq lc f).portCnt = s.portCnt := State.setSeq_portCnt _ _ _
@[simp] theorem State.modSeq_reg (s : State) (lc : Nat) (f : Seq → Seq) (key : Nat) : (s.modSeq lc f).reg key = s.reg key := by simp only [State.reg, State.modSeq_regs]
@[simp] theorem State.modSeq_fld (s : State) (lc : Nat) (f : Seq → Seq) (pg : Page) (g : Fld) (bank : Nat) : (s.modSeq lc f).fld pg g bank = s.fld pg g bank := by simp only [State.fld, State.modSeq_reg]

/-! ### State.setSlot -/

@[simp] theorem State.setSlot_regs (s : State) (n : Nat) (x : Slot) : (s.setSlot n x).regs = s.regs := by simp only [State.setSlot]
@[simp] theorem State.setSlot_pending (s : State) (n : Nat) (x : Slot) : (s.setSlot n x).pending = s.pending := by simp only [State.setSlot]
@[simp] theorem State.setSlot_shadow (s : State) (n : Nat) (x : Slot) : (s.setSlot n x).shadow = s.shadow := by simp only [State.setSlot]
@[simp] theorem State.setSlot_mem (s : State) (n : Nat) (x : Slot) : (s.setSlot n x).mem = s.mem := by simp only [State.setSlot]
@[simp] theorem State.setSlot_lines (s : State) (n : Nat) (x : Slot) : (s.setSlot n x).lines = s.lines := by simp only [State.setSlot]
@[simp] theorem State.setSlot_out (s : State) (n : Nat) (x : Slot) : (s.setSlot n x).out = s.out := by simp only [State.setSlot]
@[simp] theorem State.setSlot_fresh (s : State) (n : Nat) (x : Slot) : (s.setSlot n x).fresh = s.fresh := by simp only [State.setSlot]
@[simp] theorem State.setSlot_mod_ (s : State) (n : Nat) (x : Slot) : (s.setSlot n x).mod_ = s.mod_ := by simp only [State.setSlot]
@[simp] theorem State.setSlot_flash (s : State) (n : Nat) (x : Slot) : (s.setSlot n x).flash = s.flash := by simp only [State.setSlot]
@[simp] theorem State.setSlot_flip (s : State) (n : Nat) (x : Slot) : (s.setSlot n x).flip = s.flip := by simp only [State.setSlot]
@[simp] theorem State.setSlot_semTick (s : State) (n : Nat) (x : Slot) : (s.setSlot n x).semTick = s.semTick := by simp only [State.setSlot]
@[simp] theorem State.setSlot_semTie (s : State) (n : Nat) (x : Slot) : (s.setSlot n x).semTie = s.semTie := by simp only [State.setSlot]
@[simp] theorem State.setSlot_progs (s : State) (n : Nat) (x : Slot) : (s.setSlot n x).progs = s.progs := by simp only [State.setSlot]
@[simp] theorem State.setSlot_ring (s : State) (n : Nat) (x : Slot) : (s.setSlot n x).ring = s.ring := by simp only [State.setSlot]
@[simp] theorem State.setSlot_heldH (s : State) (n : Nat) (x : Slot) : (s.setSlot n x).heldH = s.heldH := by simp only [State.setSlot]
@[simp] theorem State.setSlot_heldM (s : State) (n : Nat) (x : Slot) : (s.setSlot n x).heldM = s.heldM := by simp only [State.setSlot]
@[simp] theorem State.setSlot_usedH (s : State) (n : Nat) (x : Slot) : (s.setSlot n x).usedH = s.usedH := by simp only [State.setSlot]
@[simp] theorem State.setSlot_usedM (s : State) (n : Nat) (x : Slot) : (s.setSlot n x).usedM = s.usedM := by simp only [State.setSlot]
@[simp] theorem State.setSlot_seqs (s : State) (n : Nat) (x : Slot) : (s.setSlot n x).seqs = s.seqs := by simp only [State.setSlot]
@[simp] theorem State.setSlot_stks (s : State) (n : Nat) (x : Slot) : (s.setSlot n x).stks = s.stks := by simp only [State.setSlot]
@[simp] theorem State.setSlot_reads (s : State) (n : Nat) (x : Slot) : (s.setSlot n x).reads = s.reads := by simp only [State.setSlot]
@[simp] theorem State.setSlot_mats (s : State) (n : Nat) (x : Slot) : (s.setSlot n x).mats = s.mats := by simp only [State.setSlot]
@[simp] theorem State.setSlot_nmus (s : State) (n : Nat) (x : Slot) : (s.setSlot n x).nmus = s.nmus := by simp only [State.setSlot]
@[simp] theorem State.setSlot_seals (s : State) (n : Nat) (x : Slot) : (s.setSlot n x).seals = s.seals := by simp only [State.setSlot]
@[simp] theorem State.setSlot_resets (s : State) (n : Nat) (x : Slot) : (s.setSlot n x).resets = s.resets := by simp only [State.setSlot]
@[simp] theorem State.setSlot_bundles (s : State) (n : Nat) (x : Slot) : (s.setSlot n x).bundles = s.bundles := by simp only [State.setSlot]
@[simp] theorem State.setSlot_lanes (s : State) (n : Nat) (x : Slot) : (s.setSlot n x).lanes = s.lanes := by simp only [State.setSlot]
@[simp] theorem State.setSlot_ports (s : State) (n : Nat) (x : Slot) : (s.setSlot n x).ports = s.ports := by simp only [State.setSlot]
@[simp] theorem State.setSlot_outst (s : State) (n : Nat) (x : Slot) : (s.setSlot n x).outst = s.outst := by simp only [State.setSlot]
@[simp] theorem State.setSlot_plan (s : State) (n : Nat) (x : Slot) : (s.setSlot n x).plan = s.plan := by simp only [State.setSlot]
@[simp] theorem State.setSlot_rings (s : State) (n : Nat) (x : Slot) : (s.setSlot n x).rings = s.rings := by simp only [State.setSlot]
@[simp] theorem State.setSlot_engs (s : State) (n : Nat) (x : Slot) : (s.setSlot n x).engs = s.engs := by simp only [State.setSlot]
@[simp] theorem State.setSlot_keys (s : State) (n : Nat) (x : Slot) : (s.setSlot n x).keys = s.keys := by simp only [State.setSlot]
@[simp] theorem State.setSlot_jobKeys (s : State) (n : Nat) (x : Slot) : (s.setSlot n x).jobKeys = s.jobKeys := by simp only [State.setSlot]
@[simp] theorem State.setSlot_decap (s : State) (n : Nat) (x : Slot) : (s.setSlot n x).decap = s.decap := by simp only [State.setSlot]
@[simp] theorem State.setSlot_frtLo (s : State) (n : Nat) (x : Slot) : (s.setSlot n x).frtLo = s.frtLo := by simp only [State.setSlot]
@[simp] theorem State.setSlot_noroute (s : State) (n : Nat) (x : Slot) : (s.setSlot n x).noroute = s.noroute := by simp only [State.setSlot]
@[simp] theorem State.setSlot_dropTick (s : State) (n : Nat) (x : Slot) : (s.setSlot n x).dropTick = s.dropTick := by simp only [State.setSlot]
@[simp] theorem State.setSlot_cores (s : State) (n : Nat) (x : Slot) : (s.setSlot n x).cores = s.cores := by simp only [State.setSlot]
@[simp] theorem State.setSlot_binds (s : State) (n : Nat) (x : Slot) : (s.setSlot n x).binds = s.binds := by simp only [State.setSlot]
@[simp] theorem State.setSlot_fences (s : State) (n : Nat) (x : Slot) : (s.setSlot n x).fences = s.fences := by simp only [State.setSlot]
@[simp] theorem State.setSlot_parts (s : State) (n : Nat) (x : Slot) : (s.setSlot n x).parts = s.parts := by simp only [State.setSlot]
@[simp] theorem State.setSlot_lineXs (s : State) (n : Nat) (x : Slot) : (s.setSlot n x).lineXs = s.lineXs := by simp only [State.setSlot]
@[simp] theorem State.setSlot_lineTag (s : State) (n : Nat) (x : Slot) : (s.setSlot n x).lineTag = s.lineTag := by simp only [State.setSlot]
@[simp] theorem State.setSlot_eps (s : State) (n : Nat) (x : Slot) : (s.setSlot n x).eps = s.eps := by simp only [State.setSlot]
@[simp] theorem State.setSlot_skews (s : State) (n : Nat) (x : Slot) : (s.setSlot n x).skews = s.skews := by simp only [State.setSlot]
@[simp] theorem State.setSlot_yoyoCur (s : State) (n : Nat) (x : Slot) : (s.setSlot n x).yoyoCur = s.yoyoCur := by simp only [State.setSlot]
@[simp] theorem State.setSlot_yoyoDue (s : State) (n : Nat) (x : Slot) : (s.setSlot n x).yoyoDue = s.yoyoDue := by simp only [State.setSlot]
@[simp] theorem State.setSlot_time (s : State) (n : Nat) (x : Slot) : (s.setSlot n x).time = s.time := by simp only [State.setSlot]
@[simp] theorem State.setSlot_ftNow (s : State) (n : Nat) (x : Slot) : (s.setSlot n x).ftNow = s.ftNow := by simp only [State.setSlot]
@[simp] theorem State.setSlot_ct (s : State) (n : Nat) (x : Slot) : (s.setSlot n x).ct = s.ct := by simp only [State.setSlot]
@[simp] theorem State.setSlot_colls (s : State) (n : Nat) (x : Slot) : (s.setSlot n x).colls = s.colls := by simp only [State.setSlot]
@[simp] theorem State.setSlot_taps (s : State) (n : Nat) (x : Slot) : (s.setSlot n x).taps = s.taps := by simp only [State.setSlot]
@[simp] theorem State.setSlot_nmuDone (s : State) (n : Nat) (x : Slot) : (s.setSlot n x).nmuDone = s.nmuDone := by simp only [State.setSlot]
@[simp] theorem State.setSlot_cks (s : State) (n : Nat) (x : Slot) : (s.setSlot n x).cks = s.cks := by simp only [State.setSlot]
@[simp] theorem State.setSlot_rcs (s : State) (n : Nat) (x : Slot) : (s.setSlot n x).rcs = s.rcs := by simp only [State.setSlot]
@[simp] theorem State.setSlot_mirs (s : State) (n : Nat) (x : Slot) : (s.setSlot n x).mirs = s.mirs := by simp only [State.setSlot]
@[simp] theorem State.setSlot_dgs (s : State) (n : Nat) (x : Slot) : (s.setSlot n x).dgs = s.dgs := by simp only [State.setSlot]
@[simp] theorem State.setSlot_fts (s : State) (n : Nat) (x : Slot) : (s.setSlot n x).fts = s.fts := by simp only [State.setSlot]
@[simp] theorem State.setSlot_sigs (s : State) (n : Nat) (x : Slot) : (s.setSlot n x).sigs = s.sigs := by simp only [State.setSlot]
@[simp] theorem State.setSlot_sigAcks (s : State) (n : Nat) (x : Slot) : (s.setSlot n x).sigAcks = s.sigAcks := by simp only [State.setSlot]
@[simp] theorem State.setSlot_sealTick (s : State) (n : Nat) (x : Slot) : (s.setSlot n x).sealTick = s.sealTick := by simp only [State.setSlot]
@[simp] theorem State.setSlot_faults (s : State) (n : Nat) (x : Slot) : (s.setSlot n x).faults = s.faults := by simp only [State.setSlot]
@[simp] theorem State.setSlot_sec (s : State) (n : Nat) (x : Slot) : (s.setSlot n x).sec = s.sec := by simp only [State.setSlot]
@[simp] theorem State.setSlot_mbox (s : State) (n : Nat) (x : Slot) : (s.setSlot n x).mbox = s.mbox := by simp only [State.setSlot]
@[simp] theorem State.setSlot_mboxMem (s : State) (n : Nat) (x : Slot) : (s.setSlot n x).mboxMem = s.mboxMem := by simp only [State.setSlot]
@[simp] theorem State.setSlot_procs (s : State) (n : Nat) (x : Slot) : (s.setSlot n x).procs = s.procs := by simp only [State.setSlot]
@[simp] theorem State.setSlot_cc (s : State) (n : Nat) (x : Slot) : (s.setSlot n x).cc = s.cc := by simp only [State.setSlot]
@[simp] theorem State.setSlot_upds (s : State) (n : Nat) (x : Slot) : (s.setSlot n x).upds = s.upds := by simp only [State.setSlot]
@[simp] theorem State.setSlot_sess (s : State) (n : Nat) (x : Slot) : (s.setSlot n x).sess = s.sess := by simp only [State.setSlot]
@[simp] theorem State.setSlot_mg (s : State) (n : Nat) (x : Slot) : (s.setSlot n x).mg = s.mg := by simp only [State.setSlot]
@[simp] theorem State.setSlot_portCnt (s : State) (n : Nat) (x : Slot) : (s.setSlot n x).portCnt = s.portCnt := by simp only [State.setSlot]
@[simp] theorem State.setSlot_reg (s : State) (n : Nat) (x : Slot) (key : Nat) : (s.setSlot n x).reg key = s.reg key := by simp only [State.reg, State.setSlot_regs]
@[simp] theorem State.setSlot_fld (s : State) (n : Nat) (x : Slot) (pg : Page) (g : Fld) (bank : Nat) : (s.setSlot n x).fld pg g bank = s.fld pg g bank := by simp only [State.fld, State.setSlot_reg]

/-! ### State.setProg -/

@[simp] theorem State.setProg_regs (s : State) (n : Nat) (p : Prog) : (s.setProg n p).regs = s.regs := by simp only [State.setProg]
@[simp] theorem State.setProg_pending (s : State) (n : Nat) (p : Prog) : (s.setProg n p).pending = s.pending := by simp only [State.setProg]
@[simp] theorem State.setProg_shadow (s : State) (n : Nat) (p : Prog) : (s.setProg n p).shadow = s.shadow := by simp only [State.setProg]
@[simp] theorem State.setProg_mem (s : State) (n : Nat) (p : Prog) : (s.setProg n p).mem = s.mem := by simp only [State.setProg]
@[simp] theorem State.setProg_lines (s : State) (n : Nat) (p : Prog) : (s.setProg n p).lines = s.lines := by simp only [State.setProg]
@[simp] theorem State.setProg_out (s : State) (n : Nat) (p : Prog) : (s.setProg n p).out = s.out := by simp only [State.setProg]
@[simp] theorem State.setProg_fresh (s : State) (n : Nat) (p : Prog) : (s.setProg n p).fresh = s.fresh := by simp only [State.setProg]
@[simp] theorem State.setProg_mod_ (s : State) (n : Nat) (p : Prog) : (s.setProg n p).mod_ = s.mod_ := by simp only [State.setProg]
@[simp] theorem State.setProg_flash (s : State) (n : Nat) (p : Prog) : (s.setProg n p).flash = s.flash := by simp only [State.setProg]
@[simp] theorem State.setProg_flip (s : State) (n : Nat) (p : Prog) : (s.setProg n p).flip = s.flip := by simp only [State.setProg]
@[simp] theorem State.setProg_semTick (s : State) (n : Nat) (p : Prog) : (s.setProg n p).semTick = s.semTick := by simp only [State.setProg]
@[simp] theorem State.setProg_semTie (s : State) (n : Nat) (p : Prog) : (s.setProg n p).semTie = s.semTie := by simp only [State.setProg]
@[simp] theorem State.setProg_slots (s : State) (n : Nat) (p : Prog) : (s.setProg n p).slots = s.slots := by simp only [State.setProg]
@[simp] theorem State.setProg_ring (s : State) (n : Nat) (p : Prog) : (s.setProg n p).ring = s.ring := by simp only [State.setProg]
@[simp] theorem State.setProg_heldH (s : State) (n : Nat) (p : Prog) : (s.setProg n p).heldH = s.heldH := by simp only [State.setProg]
@[simp] theorem State.setProg_heldM (s : State) (n : Nat) (p : Prog) : (s.setProg n p).heldM = s.heldM := by simp only [State.setProg]
@[simp] theorem State.setProg_usedH (s : State) (n : Nat) (p : Prog) : (s.setProg n p).usedH = s.usedH := by simp only [State.setProg]
@[simp] theorem State.setProg_usedM (s : State) (n : Nat) (p : Prog) : (s.setProg n p).usedM = s.usedM := by simp only [State.setProg]
@[simp] theorem State.setProg_seqs (s : State) (n : Nat) (p : Prog) : (s.setProg n p).seqs = s.seqs := by simp only [State.setProg]
@[simp] theorem State.setProg_stks (s : State) (n : Nat) (p : Prog) : (s.setProg n p).stks = s.stks := by simp only [State.setProg]
@[simp] theorem State.setProg_reads (s : State) (n : Nat) (p : Prog) : (s.setProg n p).reads = s.reads := by simp only [State.setProg]
@[simp] theorem State.setProg_mats (s : State) (n : Nat) (p : Prog) : (s.setProg n p).mats = s.mats := by simp only [State.setProg]
@[simp] theorem State.setProg_nmus (s : State) (n : Nat) (p : Prog) : (s.setProg n p).nmus = s.nmus := by simp only [State.setProg]
@[simp] theorem State.setProg_seals (s : State) (n : Nat) (p : Prog) : (s.setProg n p).seals = s.seals := by simp only [State.setProg]
@[simp] theorem State.setProg_resets (s : State) (n : Nat) (p : Prog) : (s.setProg n p).resets = s.resets := by simp only [State.setProg]
@[simp] theorem State.setProg_bundles (s : State) (n : Nat) (p : Prog) : (s.setProg n p).bundles = s.bundles := by simp only [State.setProg]
@[simp] theorem State.setProg_lanes (s : State) (n : Nat) (p : Prog) : (s.setProg n p).lanes = s.lanes := by simp only [State.setProg]
@[simp] theorem State.setProg_ports (s : State) (n : Nat) (p : Prog) : (s.setProg n p).ports = s.ports := by simp only [State.setProg]
@[simp] theorem State.setProg_outst (s : State) (n : Nat) (p : Prog) : (s.setProg n p).outst = s.outst := by simp only [State.setProg]
@[simp] theorem State.setProg_plan (s : State) (n : Nat) (p : Prog) : (s.setProg n p).plan = s.plan := by simp only [State.setProg]
@[simp] theorem State.setProg_rings (s : State) (n : Nat) (p : Prog) : (s.setProg n p).rings = s.rings := by simp only [State.setProg]
@[simp] theorem State.setProg_engs (s : State) (n : Nat) (p : Prog) : (s.setProg n p).engs = s.engs := by simp only [State.setProg]
@[simp] theorem State.setProg_keys (s : State) (n : Nat) (p : Prog) : (s.setProg n p).keys = s.keys := by simp only [State.setProg]
@[simp] theorem State.setProg_jobKeys (s : State) (n : Nat) (p : Prog) : (s.setProg n p).jobKeys = s.jobKeys := by simp only [State.setProg]
@[simp] theorem State.setProg_decap (s : State) (n : Nat) (p : Prog) : (s.setProg n p).decap = s.decap := by simp only [State.setProg]
@[simp] theorem State.setProg_frtLo (s : State) (n : Nat) (p : Prog) : (s.setProg n p).frtLo = s.frtLo := by simp only [State.setProg]
@[simp] theorem State.setProg_noroute (s : State) (n : Nat) (p : Prog) : (s.setProg n p).noroute = s.noroute := by simp only [State.setProg]
@[simp] theorem State.setProg_dropTick (s : State) (n : Nat) (p : Prog) : (s.setProg n p).dropTick = s.dropTick := by simp only [State.setProg]
@[simp] theorem State.setProg_cores (s : State) (n : Nat) (p : Prog) : (s.setProg n p).cores = s.cores := by simp only [State.setProg]
@[simp] theorem State.setProg_binds (s : State) (n : Nat) (p : Prog) : (s.setProg n p).binds = s.binds := by simp only [State.setProg]
@[simp] theorem State.setProg_fences (s : State) (n : Nat) (p : Prog) : (s.setProg n p).fences = s.fences := by simp only [State.setProg]
@[simp] theorem State.setProg_parts (s : State) (n : Nat) (p : Prog) : (s.setProg n p).parts = s.parts := by simp only [State.setProg]
@[simp] theorem State.setProg_lineXs (s : State) (n : Nat) (p : Prog) : (s.setProg n p).lineXs = s.lineXs := by simp only [State.setProg]
@[simp] theorem State.setProg_lineTag (s : State) (n : Nat) (p : Prog) : (s.setProg n p).lineTag = s.lineTag := by simp only [State.setProg]
@[simp] theorem State.setProg_eps (s : State) (n : Nat) (p : Prog) : (s.setProg n p).eps = s.eps := by simp only [State.setProg]
@[simp] theorem State.setProg_skews (s : State) (n : Nat) (p : Prog) : (s.setProg n p).skews = s.skews := by simp only [State.setProg]
@[simp] theorem State.setProg_yoyoCur (s : State) (n : Nat) (p : Prog) : (s.setProg n p).yoyoCur = s.yoyoCur := by simp only [State.setProg]
@[simp] theorem State.setProg_yoyoDue (s : State) (n : Nat) (p : Prog) : (s.setProg n p).yoyoDue = s.yoyoDue := by simp only [State.setProg]
@[simp] theorem State.setProg_time (s : State) (n : Nat) (p : Prog) : (s.setProg n p).time = s.time := by simp only [State.setProg]
@[simp] theorem State.setProg_ftNow (s : State) (n : Nat) (p : Prog) : (s.setProg n p).ftNow = s.ftNow := by simp only [State.setProg]
@[simp] theorem State.setProg_ct (s : State) (n : Nat) (p : Prog) : (s.setProg n p).ct = s.ct := by simp only [State.setProg]
@[simp] theorem State.setProg_colls (s : State) (n : Nat) (p : Prog) : (s.setProg n p).colls = s.colls := by simp only [State.setProg]
@[simp] theorem State.setProg_taps (s : State) (n : Nat) (p : Prog) : (s.setProg n p).taps = s.taps := by simp only [State.setProg]
@[simp] theorem State.setProg_nmuDone (s : State) (n : Nat) (p : Prog) : (s.setProg n p).nmuDone = s.nmuDone := by simp only [State.setProg]
@[simp] theorem State.setProg_cks (s : State) (n : Nat) (p : Prog) : (s.setProg n p).cks = s.cks := by simp only [State.setProg]
@[simp] theorem State.setProg_rcs (s : State) (n : Nat) (p : Prog) : (s.setProg n p).rcs = s.rcs := by simp only [State.setProg]
@[simp] theorem State.setProg_mirs (s : State) (n : Nat) (p : Prog) : (s.setProg n p).mirs = s.mirs := by simp only [State.setProg]
@[simp] theorem State.setProg_dgs (s : State) (n : Nat) (p : Prog) : (s.setProg n p).dgs = s.dgs := by simp only [State.setProg]
@[simp] theorem State.setProg_fts (s : State) (n : Nat) (p : Prog) : (s.setProg n p).fts = s.fts := by simp only [State.setProg]
@[simp] theorem State.setProg_sigs (s : State) (n : Nat) (p : Prog) : (s.setProg n p).sigs = s.sigs := by simp only [State.setProg]
@[simp] theorem State.setProg_sigAcks (s : State) (n : Nat) (p : Prog) : (s.setProg n p).sigAcks = s.sigAcks := by simp only [State.setProg]
@[simp] theorem State.setProg_sealTick (s : State) (n : Nat) (p : Prog) : (s.setProg n p).sealTick = s.sealTick := by simp only [State.setProg]
@[simp] theorem State.setProg_faults (s : State) (n : Nat) (p : Prog) : (s.setProg n p).faults = s.faults := by simp only [State.setProg]
@[simp] theorem State.setProg_sec (s : State) (n : Nat) (p : Prog) : (s.setProg n p).sec = s.sec := by simp only [State.setProg]
@[simp] theorem State.setProg_mbox (s : State) (n : Nat) (p : Prog) : (s.setProg n p).mbox = s.mbox := by simp only [State.setProg]
@[simp] theorem State.setProg_mboxMem (s : State) (n : Nat) (p : Prog) : (s.setProg n p).mboxMem = s.mboxMem := by simp only [State.setProg]
@[simp] theorem State.setProg_procs (s : State) (n : Nat) (p : Prog) : (s.setProg n p).procs = s.procs := by simp only [State.setProg]
@[simp] theorem State.setProg_cc (s : State) (n : Nat) (p : Prog) : (s.setProg n p).cc = s.cc := by simp only [State.setProg]
@[simp] theorem State.setProg_upds (s : State) (n : Nat) (p : Prog) : (s.setProg n p).upds = s.upds := by simp only [State.setProg]
@[simp] theorem State.setProg_sess (s : State) (n : Nat) (p : Prog) : (s.setProg n p).sess = s.sess := by simp only [State.setProg]
@[simp] theorem State.setProg_mg (s : State) (n : Nat) (p : Prog) : (s.setProg n p).mg = s.mg := by simp only [State.setProg]
@[simp] theorem State.setProg_portCnt (s : State) (n : Nat) (p : Prog) : (s.setProg n p).portCnt = s.portCnt := by simp only [State.setProg]
@[simp] theorem State.setProg_reg (s : State) (n : Nat) (p : Prog) (key : Nat) : (s.setProg n p).reg key = s.reg key := by simp only [State.reg, State.setProg_regs]
@[simp] theorem State.setProg_fld (s : State) (n : Nat) (p : Prog) (pg : Page) (g : Fld) (bank : Nat) : (s.setProg n p).fld pg g bank = s.fld pg g bank := by simp only [State.fld, State.setProg_reg]

/-! ### State.setMat -/

@[simp] theorem State.setMat_regs (s : State) (k : Nat) (m : Mat) : (s.setMat k m).regs = s.regs := by simp only [State.setMat]
@[simp] theorem State.setMat_pending (s : State) (k : Nat) (m : Mat) : (s.setMat k m).pending = s.pending := by simp only [State.setMat]
@[simp] theorem State.setMat_shadow (s : State) (k : Nat) (m : Mat) : (s.setMat k m).shadow = s.shadow := by simp only [State.setMat]
@[simp] theorem State.setMat_mem (s : State) (k : Nat) (m : Mat) : (s.setMat k m).mem = s.mem := by simp only [State.setMat]
@[simp] theorem State.setMat_lines (s : State) (k : Nat) (m : Mat) : (s.setMat k m).lines = s.lines := by simp only [State.setMat]
@[simp] theorem State.setMat_out (s : State) (k : Nat) (m : Mat) : (s.setMat k m).out = s.out := by simp only [State.setMat]
@[simp] theorem State.setMat_fresh (s : State) (k : Nat) (m : Mat) : (s.setMat k m).fresh = s.fresh := by simp only [State.setMat]
@[simp] theorem State.setMat_mod_ (s : State) (k : Nat) (m : Mat) : (s.setMat k m).mod_ = s.mod_ := by simp only [State.setMat]
@[simp] theorem State.setMat_flash (s : State) (k : Nat) (m : Mat) : (s.setMat k m).flash = s.flash := by simp only [State.setMat]
@[simp] theorem State.setMat_flip (s : State) (k : Nat) (m : Mat) : (s.setMat k m).flip = s.flip := by simp only [State.setMat]
@[simp] theorem State.setMat_semTick (s : State) (k : Nat) (m : Mat) : (s.setMat k m).semTick = s.semTick := by simp only [State.setMat]
@[simp] theorem State.setMat_semTie (s : State) (k : Nat) (m : Mat) : (s.setMat k m).semTie = s.semTie := by simp only [State.setMat]
@[simp] theorem State.setMat_slots (s : State) (k : Nat) (m : Mat) : (s.setMat k m).slots = s.slots := by simp only [State.setMat]
@[simp] theorem State.setMat_progs (s : State) (k : Nat) (m : Mat) : (s.setMat k m).progs = s.progs := by simp only [State.setMat]
@[simp] theorem State.setMat_ring (s : State) (k : Nat) (m : Mat) : (s.setMat k m).ring = s.ring := by simp only [State.setMat]
@[simp] theorem State.setMat_heldH (s : State) (k : Nat) (m : Mat) : (s.setMat k m).heldH = s.heldH := by simp only [State.setMat]
@[simp] theorem State.setMat_heldM (s : State) (k : Nat) (m : Mat) : (s.setMat k m).heldM = s.heldM := by simp only [State.setMat]
@[simp] theorem State.setMat_usedH (s : State) (k : Nat) (m : Mat) : (s.setMat k m).usedH = s.usedH := by simp only [State.setMat]
@[simp] theorem State.setMat_usedM (s : State) (k : Nat) (m : Mat) : (s.setMat k m).usedM = s.usedM := by simp only [State.setMat]
@[simp] theorem State.setMat_seqs (s : State) (k : Nat) (m : Mat) : (s.setMat k m).seqs = s.seqs := by simp only [State.setMat]
@[simp] theorem State.setMat_stks (s : State) (k : Nat) (m : Mat) : (s.setMat k m).stks = s.stks := by simp only [State.setMat]
@[simp] theorem State.setMat_reads (s : State) (k : Nat) (m : Mat) : (s.setMat k m).reads = s.reads := by simp only [State.setMat]
@[simp] theorem State.setMat_nmus (s : State) (k : Nat) (m : Mat) : (s.setMat k m).nmus = s.nmus := by simp only [State.setMat]
@[simp] theorem State.setMat_seals (s : State) (k : Nat) (m : Mat) : (s.setMat k m).seals = s.seals := by simp only [State.setMat]
@[simp] theorem State.setMat_resets (s : State) (k : Nat) (m : Mat) : (s.setMat k m).resets = s.resets := by simp only [State.setMat]
@[simp] theorem State.setMat_bundles (s : State) (k : Nat) (m : Mat) : (s.setMat k m).bundles = s.bundles := by simp only [State.setMat]
@[simp] theorem State.setMat_lanes (s : State) (k : Nat) (m : Mat) : (s.setMat k m).lanes = s.lanes := by simp only [State.setMat]
@[simp] theorem State.setMat_ports (s : State) (k : Nat) (m : Mat) : (s.setMat k m).ports = s.ports := by simp only [State.setMat]
@[simp] theorem State.setMat_outst (s : State) (k : Nat) (m : Mat) : (s.setMat k m).outst = s.outst := by simp only [State.setMat]
@[simp] theorem State.setMat_plan (s : State) (k : Nat) (m : Mat) : (s.setMat k m).plan = s.plan := by simp only [State.setMat]
@[simp] theorem State.setMat_rings (s : State) (k : Nat) (m : Mat) : (s.setMat k m).rings = s.rings := by simp only [State.setMat]
@[simp] theorem State.setMat_engs (s : State) (k : Nat) (m : Mat) : (s.setMat k m).engs = s.engs := by simp only [State.setMat]
@[simp] theorem State.setMat_keys (s : State) (k : Nat) (m : Mat) : (s.setMat k m).keys = s.keys := by simp only [State.setMat]
@[simp] theorem State.setMat_jobKeys (s : State) (k : Nat) (m : Mat) : (s.setMat k m).jobKeys = s.jobKeys := by simp only [State.setMat]
@[simp] theorem State.setMat_decap (s : State) (k : Nat) (m : Mat) : (s.setMat k m).decap = s.decap := by simp only [State.setMat]
@[simp] theorem State.setMat_frtLo (s : State) (k : Nat) (m : Mat) : (s.setMat k m).frtLo = s.frtLo := by simp only [State.setMat]
@[simp] theorem State.setMat_noroute (s : State) (k : Nat) (m : Mat) : (s.setMat k m).noroute = s.noroute := by simp only [State.setMat]
@[simp] theorem State.setMat_dropTick (s : State) (k : Nat) (m : Mat) : (s.setMat k m).dropTick = s.dropTick := by simp only [State.setMat]
@[simp] theorem State.setMat_cores (s : State) (k : Nat) (m : Mat) : (s.setMat k m).cores = s.cores := by simp only [State.setMat]
@[simp] theorem State.setMat_binds (s : State) (k : Nat) (m : Mat) : (s.setMat k m).binds = s.binds := by simp only [State.setMat]
@[simp] theorem State.setMat_fences (s : State) (k : Nat) (m : Mat) : (s.setMat k m).fences = s.fences := by simp only [State.setMat]
@[simp] theorem State.setMat_parts (s : State) (k : Nat) (m : Mat) : (s.setMat k m).parts = s.parts := by simp only [State.setMat]
@[simp] theorem State.setMat_lineXs (s : State) (k : Nat) (m : Mat) : (s.setMat k m).lineXs = s.lineXs := by simp only [State.setMat]
@[simp] theorem State.setMat_lineTag (s : State) (k : Nat) (m : Mat) : (s.setMat k m).lineTag = s.lineTag := by simp only [State.setMat]
@[simp] theorem State.setMat_eps (s : State) (k : Nat) (m : Mat) : (s.setMat k m).eps = s.eps := by simp only [State.setMat]
@[simp] theorem State.setMat_skews (s : State) (k : Nat) (m : Mat) : (s.setMat k m).skews = s.skews := by simp only [State.setMat]
@[simp] theorem State.setMat_yoyoCur (s : State) (k : Nat) (m : Mat) : (s.setMat k m).yoyoCur = s.yoyoCur := by simp only [State.setMat]
@[simp] theorem State.setMat_yoyoDue (s : State) (k : Nat) (m : Mat) : (s.setMat k m).yoyoDue = s.yoyoDue := by simp only [State.setMat]
@[simp] theorem State.setMat_time (s : State) (k : Nat) (m : Mat) : (s.setMat k m).time = s.time := by simp only [State.setMat]
@[simp] theorem State.setMat_ftNow (s : State) (k : Nat) (m : Mat) : (s.setMat k m).ftNow = s.ftNow := by simp only [State.setMat]
@[simp] theorem State.setMat_ct (s : State) (k : Nat) (m : Mat) : (s.setMat k m).ct = s.ct := by simp only [State.setMat]
@[simp] theorem State.setMat_colls (s : State) (k : Nat) (m : Mat) : (s.setMat k m).colls = s.colls := by simp only [State.setMat]
@[simp] theorem State.setMat_taps (s : State) (k : Nat) (m : Mat) : (s.setMat k m).taps = s.taps := by simp only [State.setMat]
@[simp] theorem State.setMat_nmuDone (s : State) (k : Nat) (m : Mat) : (s.setMat k m).nmuDone = s.nmuDone := by simp only [State.setMat]
@[simp] theorem State.setMat_cks (s : State) (k : Nat) (m : Mat) : (s.setMat k m).cks = s.cks := by simp only [State.setMat]
@[simp] theorem State.setMat_rcs (s : State) (k : Nat) (m : Mat) : (s.setMat k m).rcs = s.rcs := by simp only [State.setMat]
@[simp] theorem State.setMat_mirs (s : State) (k : Nat) (m : Mat) : (s.setMat k m).mirs = s.mirs := by simp only [State.setMat]
@[simp] theorem State.setMat_dgs (s : State) (k : Nat) (m : Mat) : (s.setMat k m).dgs = s.dgs := by simp only [State.setMat]
@[simp] theorem State.setMat_fts (s : State) (k : Nat) (m : Mat) : (s.setMat k m).fts = s.fts := by simp only [State.setMat]
@[simp] theorem State.setMat_sigs (s : State) (k : Nat) (m : Mat) : (s.setMat k m).sigs = s.sigs := by simp only [State.setMat]
@[simp] theorem State.setMat_sigAcks (s : State) (k : Nat) (m : Mat) : (s.setMat k m).sigAcks = s.sigAcks := by simp only [State.setMat]
@[simp] theorem State.setMat_sealTick (s : State) (k : Nat) (m : Mat) : (s.setMat k m).sealTick = s.sealTick := by simp only [State.setMat]
@[simp] theorem State.setMat_faults (s : State) (k : Nat) (m : Mat) : (s.setMat k m).faults = s.faults := by simp only [State.setMat]
@[simp] theorem State.setMat_sec (s : State) (k : Nat) (m : Mat) : (s.setMat k m).sec = s.sec := by simp only [State.setMat]
@[simp] theorem State.setMat_mbox (s : State) (k : Nat) (m : Mat) : (s.setMat k m).mbox = s.mbox := by simp only [State.setMat]
@[simp] theorem State.setMat_mboxMem (s : State) (k : Nat) (m : Mat) : (s.setMat k m).mboxMem = s.mboxMem := by simp only [State.setMat]
@[simp] theorem State.setMat_procs (s : State) (k : Nat) (m : Mat) : (s.setMat k m).procs = s.procs := by simp only [State.setMat]
@[simp] theorem State.setMat_cc (s : State) (k : Nat) (m : Mat) : (s.setMat k m).cc = s.cc := by simp only [State.setMat]
@[simp] theorem State.setMat_upds (s : State) (k : Nat) (m : Mat) : (s.setMat k m).upds = s.upds := by simp only [State.setMat]
@[simp] theorem State.setMat_sess (s : State) (k : Nat) (m : Mat) : (s.setMat k m).sess = s.sess := by simp only [State.setMat]
@[simp] theorem State.setMat_mg (s : State) (k : Nat) (m : Mat) : (s.setMat k m).mg = s.mg := by simp only [State.setMat]
@[simp] theorem State.setMat_portCnt (s : State) (k : Nat) (m : Mat) : (s.setMat k m).portCnt = s.portCnt := by simp only [State.setMat]
@[simp] theorem State.setMat_reg (s : State) (k : Nat) (m : Mat) (key : Nat) : (s.setMat k m).reg key = s.reg key := by simp only [State.reg, State.setMat_regs]
@[simp] theorem State.setMat_fld (s : State) (k : Nat) (m : Mat) (pg : Page) (g : Fld) (bank : Nat) : (s.setMat k m).fld pg g bank = s.fld pg g bank := by simp only [State.fld, State.setMat_reg]

/-! ### State.setStk -/

@[simp] theorem State.setStk_regs (s : State) (k : Nat) (x : Stack) : (s.setStk k x).regs = s.regs := by simp only [State.setStk]
@[simp] theorem State.setStk_pending (s : State) (k : Nat) (x : Stack) : (s.setStk k x).pending = s.pending := by simp only [State.setStk]
@[simp] theorem State.setStk_shadow (s : State) (k : Nat) (x : Stack) : (s.setStk k x).shadow = s.shadow := by simp only [State.setStk]
@[simp] theorem State.setStk_mem (s : State) (k : Nat) (x : Stack) : (s.setStk k x).mem = s.mem := by simp only [State.setStk]
@[simp] theorem State.setStk_lines (s : State) (k : Nat) (x : Stack) : (s.setStk k x).lines = s.lines := by simp only [State.setStk]
@[simp] theorem State.setStk_out (s : State) (k : Nat) (x : Stack) : (s.setStk k x).out = s.out := by simp only [State.setStk]
@[simp] theorem State.setStk_fresh (s : State) (k : Nat) (x : Stack) : (s.setStk k x).fresh = s.fresh := by simp only [State.setStk]
@[simp] theorem State.setStk_mod_ (s : State) (k : Nat) (x : Stack) : (s.setStk k x).mod_ = s.mod_ := by simp only [State.setStk]
@[simp] theorem State.setStk_flash (s : State) (k : Nat) (x : Stack) : (s.setStk k x).flash = s.flash := by simp only [State.setStk]
@[simp] theorem State.setStk_flip (s : State) (k : Nat) (x : Stack) : (s.setStk k x).flip = s.flip := by simp only [State.setStk]
@[simp] theorem State.setStk_semTick (s : State) (k : Nat) (x : Stack) : (s.setStk k x).semTick = s.semTick := by simp only [State.setStk]
@[simp] theorem State.setStk_semTie (s : State) (k : Nat) (x : Stack) : (s.setStk k x).semTie = s.semTie := by simp only [State.setStk]
@[simp] theorem State.setStk_slots (s : State) (k : Nat) (x : Stack) : (s.setStk k x).slots = s.slots := by simp only [State.setStk]
@[simp] theorem State.setStk_progs (s : State) (k : Nat) (x : Stack) : (s.setStk k x).progs = s.progs := by simp only [State.setStk]
@[simp] theorem State.setStk_ring (s : State) (k : Nat) (x : Stack) : (s.setStk k x).ring = s.ring := by simp only [State.setStk]
@[simp] theorem State.setStk_heldH (s : State) (k : Nat) (x : Stack) : (s.setStk k x).heldH = s.heldH := by simp only [State.setStk]
@[simp] theorem State.setStk_heldM (s : State) (k : Nat) (x : Stack) : (s.setStk k x).heldM = s.heldM := by simp only [State.setStk]
@[simp] theorem State.setStk_usedH (s : State) (k : Nat) (x : Stack) : (s.setStk k x).usedH = s.usedH := by simp only [State.setStk]
@[simp] theorem State.setStk_usedM (s : State) (k : Nat) (x : Stack) : (s.setStk k x).usedM = s.usedM := by simp only [State.setStk]
@[simp] theorem State.setStk_seqs (s : State) (k : Nat) (x : Stack) : (s.setStk k x).seqs = s.seqs := by simp only [State.setStk]
@[simp] theorem State.setStk_reads (s : State) (k : Nat) (x : Stack) : (s.setStk k x).reads = s.reads := by simp only [State.setStk]
@[simp] theorem State.setStk_mats (s : State) (k : Nat) (x : Stack) : (s.setStk k x).mats = s.mats := by simp only [State.setStk]
@[simp] theorem State.setStk_nmus (s : State) (k : Nat) (x : Stack) : (s.setStk k x).nmus = s.nmus := by simp only [State.setStk]
@[simp] theorem State.setStk_seals (s : State) (k : Nat) (x : Stack) : (s.setStk k x).seals = s.seals := by simp only [State.setStk]
@[simp] theorem State.setStk_resets (s : State) (k : Nat) (x : Stack) : (s.setStk k x).resets = s.resets := by simp only [State.setStk]
@[simp] theorem State.setStk_bundles (s : State) (k : Nat) (x : Stack) : (s.setStk k x).bundles = s.bundles := by simp only [State.setStk]
@[simp] theorem State.setStk_lanes (s : State) (k : Nat) (x : Stack) : (s.setStk k x).lanes = s.lanes := by simp only [State.setStk]
@[simp] theorem State.setStk_ports (s : State) (k : Nat) (x : Stack) : (s.setStk k x).ports = s.ports := by simp only [State.setStk]
@[simp] theorem State.setStk_outst (s : State) (k : Nat) (x : Stack) : (s.setStk k x).outst = s.outst := by simp only [State.setStk]
@[simp] theorem State.setStk_plan (s : State) (k : Nat) (x : Stack) : (s.setStk k x).plan = s.plan := by simp only [State.setStk]
@[simp] theorem State.setStk_rings (s : State) (k : Nat) (x : Stack) : (s.setStk k x).rings = s.rings := by simp only [State.setStk]
@[simp] theorem State.setStk_engs (s : State) (k : Nat) (x : Stack) : (s.setStk k x).engs = s.engs := by simp only [State.setStk]
@[simp] theorem State.setStk_keys (s : State) (k : Nat) (x : Stack) : (s.setStk k x).keys = s.keys := by simp only [State.setStk]
@[simp] theorem State.setStk_jobKeys (s : State) (k : Nat) (x : Stack) : (s.setStk k x).jobKeys = s.jobKeys := by simp only [State.setStk]
@[simp] theorem State.setStk_decap (s : State) (k : Nat) (x : Stack) : (s.setStk k x).decap = s.decap := by simp only [State.setStk]
@[simp] theorem State.setStk_frtLo (s : State) (k : Nat) (x : Stack) : (s.setStk k x).frtLo = s.frtLo := by simp only [State.setStk]
@[simp] theorem State.setStk_noroute (s : State) (k : Nat) (x : Stack) : (s.setStk k x).noroute = s.noroute := by simp only [State.setStk]
@[simp] theorem State.setStk_dropTick (s : State) (k : Nat) (x : Stack) : (s.setStk k x).dropTick = s.dropTick := by simp only [State.setStk]
@[simp] theorem State.setStk_cores (s : State) (k : Nat) (x : Stack) : (s.setStk k x).cores = s.cores := by simp only [State.setStk]
@[simp] theorem State.setStk_binds (s : State) (k : Nat) (x : Stack) : (s.setStk k x).binds = s.binds := by simp only [State.setStk]
@[simp] theorem State.setStk_fences (s : State) (k : Nat) (x : Stack) : (s.setStk k x).fences = s.fences := by simp only [State.setStk]
@[simp] theorem State.setStk_parts (s : State) (k : Nat) (x : Stack) : (s.setStk k x).parts = s.parts := by simp only [State.setStk]
@[simp] theorem State.setStk_lineXs (s : State) (k : Nat) (x : Stack) : (s.setStk k x).lineXs = s.lineXs := by simp only [State.setStk]
@[simp] theorem State.setStk_lineTag (s : State) (k : Nat) (x : Stack) : (s.setStk k x).lineTag = s.lineTag := by simp only [State.setStk]
@[simp] theorem State.setStk_eps (s : State) (k : Nat) (x : Stack) : (s.setStk k x).eps = s.eps := by simp only [State.setStk]
@[simp] theorem State.setStk_skews (s : State) (k : Nat) (x : Stack) : (s.setStk k x).skews = s.skews := by simp only [State.setStk]
@[simp] theorem State.setStk_yoyoCur (s : State) (k : Nat) (x : Stack) : (s.setStk k x).yoyoCur = s.yoyoCur := by simp only [State.setStk]
@[simp] theorem State.setStk_yoyoDue (s : State) (k : Nat) (x : Stack) : (s.setStk k x).yoyoDue = s.yoyoDue := by simp only [State.setStk]
@[simp] theorem State.setStk_time (s : State) (k : Nat) (x : Stack) : (s.setStk k x).time = s.time := by simp only [State.setStk]
@[simp] theorem State.setStk_ftNow (s : State) (k : Nat) (x : Stack) : (s.setStk k x).ftNow = s.ftNow := by simp only [State.setStk]
@[simp] theorem State.setStk_ct (s : State) (k : Nat) (x : Stack) : (s.setStk k x).ct = s.ct := by simp only [State.setStk]
@[simp] theorem State.setStk_colls (s : State) (k : Nat) (x : Stack) : (s.setStk k x).colls = s.colls := by simp only [State.setStk]
@[simp] theorem State.setStk_taps (s : State) (k : Nat) (x : Stack) : (s.setStk k x).taps = s.taps := by simp only [State.setStk]
@[simp] theorem State.setStk_nmuDone (s : State) (k : Nat) (x : Stack) : (s.setStk k x).nmuDone = s.nmuDone := by simp only [State.setStk]
@[simp] theorem State.setStk_cks (s : State) (k : Nat) (x : Stack) : (s.setStk k x).cks = s.cks := by simp only [State.setStk]
@[simp] theorem State.setStk_rcs (s : State) (k : Nat) (x : Stack) : (s.setStk k x).rcs = s.rcs := by simp only [State.setStk]
@[simp] theorem State.setStk_mirs (s : State) (k : Nat) (x : Stack) : (s.setStk k x).mirs = s.mirs := by simp only [State.setStk]
@[simp] theorem State.setStk_dgs (s : State) (k : Nat) (x : Stack) : (s.setStk k x).dgs = s.dgs := by simp only [State.setStk]
@[simp] theorem State.setStk_fts (s : State) (k : Nat) (x : Stack) : (s.setStk k x).fts = s.fts := by simp only [State.setStk]
@[simp] theorem State.setStk_sigs (s : State) (k : Nat) (x : Stack) : (s.setStk k x).sigs = s.sigs := by simp only [State.setStk]
@[simp] theorem State.setStk_sigAcks (s : State) (k : Nat) (x : Stack) : (s.setStk k x).sigAcks = s.sigAcks := by simp only [State.setStk]
@[simp] theorem State.setStk_sealTick (s : State) (k : Nat) (x : Stack) : (s.setStk k x).sealTick = s.sealTick := by simp only [State.setStk]
@[simp] theorem State.setStk_faults (s : State) (k : Nat) (x : Stack) : (s.setStk k x).faults = s.faults := by simp only [State.setStk]
@[simp] theorem State.setStk_sec (s : State) (k : Nat) (x : Stack) : (s.setStk k x).sec = s.sec := by simp only [State.setStk]
@[simp] theorem State.setStk_mbox (s : State) (k : Nat) (x : Stack) : (s.setStk k x).mbox = s.mbox := by simp only [State.setStk]
@[simp] theorem State.setStk_mboxMem (s : State) (k : Nat) (x : Stack) : (s.setStk k x).mboxMem = s.mboxMem := by simp only [State.setStk]
@[simp] theorem State.setStk_procs (s : State) (k : Nat) (x : Stack) : (s.setStk k x).procs = s.procs := by simp only [State.setStk]
@[simp] theorem State.setStk_cc (s : State) (k : Nat) (x : Stack) : (s.setStk k x).cc = s.cc := by simp only [State.setStk]
@[simp] theorem State.setStk_upds (s : State) (k : Nat) (x : Stack) : (s.setStk k x).upds = s.upds := by simp only [State.setStk]
@[simp] theorem State.setStk_sess (s : State) (k : Nat) (x : Stack) : (s.setStk k x).sess = s.sess := by simp only [State.setStk]
@[simp] theorem State.setStk_mg (s : State) (k : Nat) (x : Stack) : (s.setStk k x).mg = s.mg := by simp only [State.setStk]
@[simp] theorem State.setStk_portCnt (s : State) (k : Nat) (x : Stack) : (s.setStk k x).portCnt = s.portCnt := by simp only [State.setStk]
@[simp] theorem State.setStk_reg (s : State) (k : Nat) (x : Stack) (key : Nat) : (s.setStk k x).reg key = s.reg key := by simp only [State.reg, State.setStk_regs]
@[simp] theorem State.setStk_fld (s : State) (k : Nat) (x : Stack) (pg : Page) (g : Fld) (bank : Nat) : (s.setStk k x).fld pg g bank = s.fld pg g bank := by simp only [State.fld, State.setStk_reg]

/-! ### State.setBundle -/

@[simp] theorem State.setBundle_regs (s : State) (b : Nat) (x : Bundle) : (s.setBundle b x).regs = s.regs := by simp only [State.setBundle]
@[simp] theorem State.setBundle_pending (s : State) (b : Nat) (x : Bundle) : (s.setBundle b x).pending = s.pending := by simp only [State.setBundle]
@[simp] theorem State.setBundle_shadow (s : State) (b : Nat) (x : Bundle) : (s.setBundle b x).shadow = s.shadow := by simp only [State.setBundle]
@[simp] theorem State.setBundle_mem (s : State) (b : Nat) (x : Bundle) : (s.setBundle b x).mem = s.mem := by simp only [State.setBundle]
@[simp] theorem State.setBundle_lines (s : State) (b : Nat) (x : Bundle) : (s.setBundle b x).lines = s.lines := by simp only [State.setBundle]
@[simp] theorem State.setBundle_out (s : State) (b : Nat) (x : Bundle) : (s.setBundle b x).out = s.out := by simp only [State.setBundle]
@[simp] theorem State.setBundle_fresh (s : State) (b : Nat) (x : Bundle) : (s.setBundle b x).fresh = s.fresh := by simp only [State.setBundle]
@[simp] theorem State.setBundle_mod_ (s : State) (b : Nat) (x : Bundle) : (s.setBundle b x).mod_ = s.mod_ := by simp only [State.setBundle]
@[simp] theorem State.setBundle_flash (s : State) (b : Nat) (x : Bundle) : (s.setBundle b x).flash = s.flash := by simp only [State.setBundle]
@[simp] theorem State.setBundle_flip (s : State) (b : Nat) (x : Bundle) : (s.setBundle b x).flip = s.flip := by simp only [State.setBundle]
@[simp] theorem State.setBundle_semTick (s : State) (b : Nat) (x : Bundle) : (s.setBundle b x).semTick = s.semTick := by simp only [State.setBundle]
@[simp] theorem State.setBundle_semTie (s : State) (b : Nat) (x : Bundle) : (s.setBundle b x).semTie = s.semTie := by simp only [State.setBundle]
@[simp] theorem State.setBundle_slots (s : State) (b : Nat) (x : Bundle) : (s.setBundle b x).slots = s.slots := by simp only [State.setBundle]
@[simp] theorem State.setBundle_progs (s : State) (b : Nat) (x : Bundle) : (s.setBundle b x).progs = s.progs := by simp only [State.setBundle]
@[simp] theorem State.setBundle_ring (s : State) (b : Nat) (x : Bundle) : (s.setBundle b x).ring = s.ring := by simp only [State.setBundle]
@[simp] theorem State.setBundle_heldH (s : State) (b : Nat) (x : Bundle) : (s.setBundle b x).heldH = s.heldH := by simp only [State.setBundle]
@[simp] theorem State.setBundle_heldM (s : State) (b : Nat) (x : Bundle) : (s.setBundle b x).heldM = s.heldM := by simp only [State.setBundle]
@[simp] theorem State.setBundle_usedH (s : State) (b : Nat) (x : Bundle) : (s.setBundle b x).usedH = s.usedH := by simp only [State.setBundle]
@[simp] theorem State.setBundle_usedM (s : State) (b : Nat) (x : Bundle) : (s.setBundle b x).usedM = s.usedM := by simp only [State.setBundle]
@[simp] theorem State.setBundle_seqs (s : State) (b : Nat) (x : Bundle) : (s.setBundle b x).seqs = s.seqs := by simp only [State.setBundle]
@[simp] theorem State.setBundle_stks (s : State) (b : Nat) (x : Bundle) : (s.setBundle b x).stks = s.stks := by simp only [State.setBundle]
@[simp] theorem State.setBundle_reads (s : State) (b : Nat) (x : Bundle) : (s.setBundle b x).reads = s.reads := by simp only [State.setBundle]
@[simp] theorem State.setBundle_mats (s : State) (b : Nat) (x : Bundle) : (s.setBundle b x).mats = s.mats := by simp only [State.setBundle]
@[simp] theorem State.setBundle_nmus (s : State) (b : Nat) (x : Bundle) : (s.setBundle b x).nmus = s.nmus := by simp only [State.setBundle]
@[simp] theorem State.setBundle_seals (s : State) (b : Nat) (x : Bundle) : (s.setBundle b x).seals = s.seals := by simp only [State.setBundle]
@[simp] theorem State.setBundle_resets (s : State) (b : Nat) (x : Bundle) : (s.setBundle b x).resets = s.resets := by simp only [State.setBundle]
@[simp] theorem State.setBundle_lanes (s : State) (b : Nat) (x : Bundle) : (s.setBundle b x).lanes = s.lanes := by simp only [State.setBundle]
@[simp] theorem State.setBundle_ports (s : State) (b : Nat) (x : Bundle) : (s.setBundle b x).ports = s.ports := by simp only [State.setBundle]
@[simp] theorem State.setBundle_outst (s : State) (b : Nat) (x : Bundle) : (s.setBundle b x).outst = s.outst := by simp only [State.setBundle]
@[simp] theorem State.setBundle_plan (s : State) (b : Nat) (x : Bundle) : (s.setBundle b x).plan = s.plan := by simp only [State.setBundle]
@[simp] theorem State.setBundle_rings (s : State) (b : Nat) (x : Bundle) : (s.setBundle b x).rings = s.rings := by simp only [State.setBundle]
@[simp] theorem State.setBundle_engs (s : State) (b : Nat) (x : Bundle) : (s.setBundle b x).engs = s.engs := by simp only [State.setBundle]
@[simp] theorem State.setBundle_keys (s : State) (b : Nat) (x : Bundle) : (s.setBundle b x).keys = s.keys := by simp only [State.setBundle]
@[simp] theorem State.setBundle_jobKeys (s : State) (b : Nat) (x : Bundle) : (s.setBundle b x).jobKeys = s.jobKeys := by simp only [State.setBundle]
@[simp] theorem State.setBundle_decap (s : State) (b : Nat) (x : Bundle) : (s.setBundle b x).decap = s.decap := by simp only [State.setBundle]
@[simp] theorem State.setBundle_frtLo (s : State) (b : Nat) (x : Bundle) : (s.setBundle b x).frtLo = s.frtLo := by simp only [State.setBundle]
@[simp] theorem State.setBundle_noroute (s : State) (b : Nat) (x : Bundle) : (s.setBundle b x).noroute = s.noroute := by simp only [State.setBundle]
@[simp] theorem State.setBundle_dropTick (s : State) (b : Nat) (x : Bundle) : (s.setBundle b x).dropTick = s.dropTick := by simp only [State.setBundle]
@[simp] theorem State.setBundle_cores (s : State) (b : Nat) (x : Bundle) : (s.setBundle b x).cores = s.cores := by simp only [State.setBundle]
@[simp] theorem State.setBundle_binds (s : State) (b : Nat) (x : Bundle) : (s.setBundle b x).binds = s.binds := by simp only [State.setBundle]
@[simp] theorem State.setBundle_fences (s : State) (b : Nat) (x : Bundle) : (s.setBundle b x).fences = s.fences := by simp only [State.setBundle]
@[simp] theorem State.setBundle_parts (s : State) (b : Nat) (x : Bundle) : (s.setBundle b x).parts = s.parts := by simp only [State.setBundle]
@[simp] theorem State.setBundle_lineXs (s : State) (b : Nat) (x : Bundle) : (s.setBundle b x).lineXs = s.lineXs := by simp only [State.setBundle]
@[simp] theorem State.setBundle_lineTag (s : State) (b : Nat) (x : Bundle) : (s.setBundle b x).lineTag = s.lineTag := by simp only [State.setBundle]
@[simp] theorem State.setBundle_eps (s : State) (b : Nat) (x : Bundle) : (s.setBundle b x).eps = s.eps := by simp only [State.setBundle]
@[simp] theorem State.setBundle_skews (s : State) (b : Nat) (x : Bundle) : (s.setBundle b x).skews = s.skews := by simp only [State.setBundle]
@[simp] theorem State.setBundle_yoyoCur (s : State) (b : Nat) (x : Bundle) : (s.setBundle b x).yoyoCur = s.yoyoCur := by simp only [State.setBundle]
@[simp] theorem State.setBundle_yoyoDue (s : State) (b : Nat) (x : Bundle) : (s.setBundle b x).yoyoDue = s.yoyoDue := by simp only [State.setBundle]
@[simp] theorem State.setBundle_time (s : State) (b : Nat) (x : Bundle) : (s.setBundle b x).time = s.time := by simp only [State.setBundle]
@[simp] theorem State.setBundle_ftNow (s : State) (b : Nat) (x : Bundle) : (s.setBundle b x).ftNow = s.ftNow := by simp only [State.setBundle]
@[simp] theorem State.setBundle_ct (s : State) (b : Nat) (x : Bundle) : (s.setBundle b x).ct = s.ct := by simp only [State.setBundle]
@[simp] theorem State.setBundle_colls (s : State) (b : Nat) (x : Bundle) : (s.setBundle b x).colls = s.colls := by simp only [State.setBundle]
@[simp] theorem State.setBundle_taps (s : State) (b : Nat) (x : Bundle) : (s.setBundle b x).taps = s.taps := by simp only [State.setBundle]
@[simp] theorem State.setBundle_nmuDone (s : State) (b : Nat) (x : Bundle) : (s.setBundle b x).nmuDone = s.nmuDone := by simp only [State.setBundle]
@[simp] theorem State.setBundle_cks (s : State) (b : Nat) (x : Bundle) : (s.setBundle b x).cks = s.cks := by simp only [State.setBundle]
@[simp] theorem State.setBundle_rcs (s : State) (b : Nat) (x : Bundle) : (s.setBundle b x).rcs = s.rcs := by simp only [State.setBundle]
@[simp] theorem State.setBundle_mirs (s : State) (b : Nat) (x : Bundle) : (s.setBundle b x).mirs = s.mirs := by simp only [State.setBundle]
@[simp] theorem State.setBundle_dgs (s : State) (b : Nat) (x : Bundle) : (s.setBundle b x).dgs = s.dgs := by simp only [State.setBundle]
@[simp] theorem State.setBundle_fts (s : State) (b : Nat) (x : Bundle) : (s.setBundle b x).fts = s.fts := by simp only [State.setBundle]
@[simp] theorem State.setBundle_sigs (s : State) (b : Nat) (x : Bundle) : (s.setBundle b x).sigs = s.sigs := by simp only [State.setBundle]
@[simp] theorem State.setBundle_sigAcks (s : State) (b : Nat) (x : Bundle) : (s.setBundle b x).sigAcks = s.sigAcks := by simp only [State.setBundle]
@[simp] theorem State.setBundle_sealTick (s : State) (b : Nat) (x : Bundle) : (s.setBundle b x).sealTick = s.sealTick := by simp only [State.setBundle]
@[simp] theorem State.setBundle_faults (s : State) (b : Nat) (x : Bundle) : (s.setBundle b x).faults = s.faults := by simp only [State.setBundle]
@[simp] theorem State.setBundle_sec (s : State) (b : Nat) (x : Bundle) : (s.setBundle b x).sec = s.sec := by simp only [State.setBundle]
@[simp] theorem State.setBundle_mbox (s : State) (b : Nat) (x : Bundle) : (s.setBundle b x).mbox = s.mbox := by simp only [State.setBundle]
@[simp] theorem State.setBundle_mboxMem (s : State) (b : Nat) (x : Bundle) : (s.setBundle b x).mboxMem = s.mboxMem := by simp only [State.setBundle]
@[simp] theorem State.setBundle_procs (s : State) (b : Nat) (x : Bundle) : (s.setBundle b x).procs = s.procs := by simp only [State.setBundle]
@[simp] theorem State.setBundle_cc (s : State) (b : Nat) (x : Bundle) : (s.setBundle b x).cc = s.cc := by simp only [State.setBundle]
@[simp] theorem State.setBundle_upds (s : State) (b : Nat) (x : Bundle) : (s.setBundle b x).upds = s.upds := by simp only [State.setBundle]
@[simp] theorem State.setBundle_sess (s : State) (b : Nat) (x : Bundle) : (s.setBundle b x).sess = s.sess := by simp only [State.setBundle]
@[simp] theorem State.setBundle_mg (s : State) (b : Nat) (x : Bundle) : (s.setBundle b x).mg = s.mg := by simp only [State.setBundle]
@[simp] theorem State.setBundle_portCnt (s : State) (b : Nat) (x : Bundle) : (s.setBundle b x).portCnt = s.portCnt := by simp only [State.setBundle]
@[simp] theorem State.setBundle_reg (s : State) (b : Nat) (x : Bundle) (key : Nat) : (s.setBundle b x).reg key = s.reg key := by simp only [State.reg, State.setBundle_regs]
@[simp] theorem State.setBundle_fld (s : State) (b : Nat) (x : Bundle) (pg : Page) (g : Fld) (bank : Nat) : (s.setBundle b x).fld pg g bank = s.fld pg g bank := by simp only [State.fld, State.setBundle_reg]

/-! ### State.setBindX -/

@[simp] theorem State.setBindX_regs (s : State) (cl : Nat) (x : BindX) : (s.setBindX cl x).regs = s.regs := by simp only [State.setBindX]
@[simp] theorem State.setBindX_pending (s : State) (cl : Nat) (x : BindX) : (s.setBindX cl x).pending = s.pending := by simp only [State.setBindX]
@[simp] theorem State.setBindX_shadow (s : State) (cl : Nat) (x : BindX) : (s.setBindX cl x).shadow = s.shadow := by simp only [State.setBindX]
@[simp] theorem State.setBindX_mem (s : State) (cl : Nat) (x : BindX) : (s.setBindX cl x).mem = s.mem := by simp only [State.setBindX]
@[simp] theorem State.setBindX_lines (s : State) (cl : Nat) (x : BindX) : (s.setBindX cl x).lines = s.lines := by simp only [State.setBindX]
@[simp] theorem State.setBindX_out (s : State) (cl : Nat) (x : BindX) : (s.setBindX cl x).out = s.out := by simp only [State.setBindX]
@[simp] theorem State.setBindX_fresh (s : State) (cl : Nat) (x : BindX) : (s.setBindX cl x).fresh = s.fresh := by simp only [State.setBindX]
@[simp] theorem State.setBindX_mod_ (s : State) (cl : Nat) (x : BindX) : (s.setBindX cl x).mod_ = s.mod_ := by simp only [State.setBindX]
@[simp] theorem State.setBindX_flash (s : State) (cl : Nat) (x : BindX) : (s.setBindX cl x).flash = s.flash := by simp only [State.setBindX]
@[simp] theorem State.setBindX_flip (s : State) (cl : Nat) (x : BindX) : (s.setBindX cl x).flip = s.flip := by simp only [State.setBindX]
@[simp] theorem State.setBindX_semTick (s : State) (cl : Nat) (x : BindX) : (s.setBindX cl x).semTick = s.semTick := by simp only [State.setBindX]
@[simp] theorem State.setBindX_semTie (s : State) (cl : Nat) (x : BindX) : (s.setBindX cl x).semTie = s.semTie := by simp only [State.setBindX]
@[simp] theorem State.setBindX_slots (s : State) (cl : Nat) (x : BindX) : (s.setBindX cl x).slots = s.slots := by simp only [State.setBindX]
@[simp] theorem State.setBindX_progs (s : State) (cl : Nat) (x : BindX) : (s.setBindX cl x).progs = s.progs := by simp only [State.setBindX]
@[simp] theorem State.setBindX_ring (s : State) (cl : Nat) (x : BindX) : (s.setBindX cl x).ring = s.ring := by simp only [State.setBindX]
@[simp] theorem State.setBindX_heldH (s : State) (cl : Nat) (x : BindX) : (s.setBindX cl x).heldH = s.heldH := by simp only [State.setBindX]
@[simp] theorem State.setBindX_heldM (s : State) (cl : Nat) (x : BindX) : (s.setBindX cl x).heldM = s.heldM := by simp only [State.setBindX]
@[simp] theorem State.setBindX_usedH (s : State) (cl : Nat) (x : BindX) : (s.setBindX cl x).usedH = s.usedH := by simp only [State.setBindX]
@[simp] theorem State.setBindX_usedM (s : State) (cl : Nat) (x : BindX) : (s.setBindX cl x).usedM = s.usedM := by simp only [State.setBindX]
@[simp] theorem State.setBindX_seqs (s : State) (cl : Nat) (x : BindX) : (s.setBindX cl x).seqs = s.seqs := by simp only [State.setBindX]
@[simp] theorem State.setBindX_stks (s : State) (cl : Nat) (x : BindX) : (s.setBindX cl x).stks = s.stks := by simp only [State.setBindX]
@[simp] theorem State.setBindX_reads (s : State) (cl : Nat) (x : BindX) : (s.setBindX cl x).reads = s.reads := by simp only [State.setBindX]
@[simp] theorem State.setBindX_mats (s : State) (cl : Nat) (x : BindX) : (s.setBindX cl x).mats = s.mats := by simp only [State.setBindX]
@[simp] theorem State.setBindX_nmus (s : State) (cl : Nat) (x : BindX) : (s.setBindX cl x).nmus = s.nmus := by simp only [State.setBindX]
@[simp] theorem State.setBindX_seals (s : State) (cl : Nat) (x : BindX) : (s.setBindX cl x).seals = s.seals := by simp only [State.setBindX]
@[simp] theorem State.setBindX_resets (s : State) (cl : Nat) (x : BindX) : (s.setBindX cl x).resets = s.resets := by simp only [State.setBindX]
@[simp] theorem State.setBindX_bundles (s : State) (cl : Nat) (x : BindX) : (s.setBindX cl x).bundles = s.bundles := by simp only [State.setBindX]
@[simp] theorem State.setBindX_lanes (s : State) (cl : Nat) (x : BindX) : (s.setBindX cl x).lanes = s.lanes := by simp only [State.setBindX]
@[simp] theorem State.setBindX_ports (s : State) (cl : Nat) (x : BindX) : (s.setBindX cl x).ports = s.ports := by simp only [State.setBindX]
@[simp] theorem State.setBindX_outst (s : State) (cl : Nat) (x : BindX) : (s.setBindX cl x).outst = s.outst := by simp only [State.setBindX]
@[simp] theorem State.setBindX_plan (s : State) (cl : Nat) (x : BindX) : (s.setBindX cl x).plan = s.plan := by simp only [State.setBindX]
@[simp] theorem State.setBindX_rings (s : State) (cl : Nat) (x : BindX) : (s.setBindX cl x).rings = s.rings := by simp only [State.setBindX]
@[simp] theorem State.setBindX_engs (s : State) (cl : Nat) (x : BindX) : (s.setBindX cl x).engs = s.engs := by simp only [State.setBindX]
@[simp] theorem State.setBindX_keys (s : State) (cl : Nat) (x : BindX) : (s.setBindX cl x).keys = s.keys := by simp only [State.setBindX]
@[simp] theorem State.setBindX_jobKeys (s : State) (cl : Nat) (x : BindX) : (s.setBindX cl x).jobKeys = s.jobKeys := by simp only [State.setBindX]
@[simp] theorem State.setBindX_decap (s : State) (cl : Nat) (x : BindX) : (s.setBindX cl x).decap = s.decap := by simp only [State.setBindX]
@[simp] theorem State.setBindX_frtLo (s : State) (cl : Nat) (x : BindX) : (s.setBindX cl x).frtLo = s.frtLo := by simp only [State.setBindX]
@[simp] theorem State.setBindX_noroute (s : State) (cl : Nat) (x : BindX) : (s.setBindX cl x).noroute = s.noroute := by simp only [State.setBindX]
@[simp] theorem State.setBindX_dropTick (s : State) (cl : Nat) (x : BindX) : (s.setBindX cl x).dropTick = s.dropTick := by simp only [State.setBindX]
@[simp] theorem State.setBindX_cores (s : State) (cl : Nat) (x : BindX) : (s.setBindX cl x).cores = s.cores := by simp only [State.setBindX]
@[simp] theorem State.setBindX_fences (s : State) (cl : Nat) (x : BindX) : (s.setBindX cl x).fences = s.fences := by simp only [State.setBindX]
@[simp] theorem State.setBindX_parts (s : State) (cl : Nat) (x : BindX) : (s.setBindX cl x).parts = s.parts := by simp only [State.setBindX]
@[simp] theorem State.setBindX_lineXs (s : State) (cl : Nat) (x : BindX) : (s.setBindX cl x).lineXs = s.lineXs := by simp only [State.setBindX]
@[simp] theorem State.setBindX_lineTag (s : State) (cl : Nat) (x : BindX) : (s.setBindX cl x).lineTag = s.lineTag := by simp only [State.setBindX]
@[simp] theorem State.setBindX_eps (s : State) (cl : Nat) (x : BindX) : (s.setBindX cl x).eps = s.eps := by simp only [State.setBindX]
@[simp] theorem State.setBindX_skews (s : State) (cl : Nat) (x : BindX) : (s.setBindX cl x).skews = s.skews := by simp only [State.setBindX]
@[simp] theorem State.setBindX_yoyoCur (s : State) (cl : Nat) (x : BindX) : (s.setBindX cl x).yoyoCur = s.yoyoCur := by simp only [State.setBindX]
@[simp] theorem State.setBindX_yoyoDue (s : State) (cl : Nat) (x : BindX) : (s.setBindX cl x).yoyoDue = s.yoyoDue := by simp only [State.setBindX]
@[simp] theorem State.setBindX_time (s : State) (cl : Nat) (x : BindX) : (s.setBindX cl x).time = s.time := by simp only [State.setBindX]
@[simp] theorem State.setBindX_ftNow (s : State) (cl : Nat) (x : BindX) : (s.setBindX cl x).ftNow = s.ftNow := by simp only [State.setBindX]
@[simp] theorem State.setBindX_ct (s : State) (cl : Nat) (x : BindX) : (s.setBindX cl x).ct = s.ct := by simp only [State.setBindX]
@[simp] theorem State.setBindX_colls (s : State) (cl : Nat) (x : BindX) : (s.setBindX cl x).colls = s.colls := by simp only [State.setBindX]
@[simp] theorem State.setBindX_taps (s : State) (cl : Nat) (x : BindX) : (s.setBindX cl x).taps = s.taps := by simp only [State.setBindX]
@[simp] theorem State.setBindX_nmuDone (s : State) (cl : Nat) (x : BindX) : (s.setBindX cl x).nmuDone = s.nmuDone := by simp only [State.setBindX]
@[simp] theorem State.setBindX_cks (s : State) (cl : Nat) (x : BindX) : (s.setBindX cl x).cks = s.cks := by simp only [State.setBindX]
@[simp] theorem State.setBindX_rcs (s : State) (cl : Nat) (x : BindX) : (s.setBindX cl x).rcs = s.rcs := by simp only [State.setBindX]
@[simp] theorem State.setBindX_mirs (s : State) (cl : Nat) (x : BindX) : (s.setBindX cl x).mirs = s.mirs := by simp only [State.setBindX]
@[simp] theorem State.setBindX_dgs (s : State) (cl : Nat) (x : BindX) : (s.setBindX cl x).dgs = s.dgs := by simp only [State.setBindX]
@[simp] theorem State.setBindX_fts (s : State) (cl : Nat) (x : BindX) : (s.setBindX cl x).fts = s.fts := by simp only [State.setBindX]
@[simp] theorem State.setBindX_sigs (s : State) (cl : Nat) (x : BindX) : (s.setBindX cl x).sigs = s.sigs := by simp only [State.setBindX]
@[simp] theorem State.setBindX_sigAcks (s : State) (cl : Nat) (x : BindX) : (s.setBindX cl x).sigAcks = s.sigAcks := by simp only [State.setBindX]
@[simp] theorem State.setBindX_sealTick (s : State) (cl : Nat) (x : BindX) : (s.setBindX cl x).sealTick = s.sealTick := by simp only [State.setBindX]
@[simp] theorem State.setBindX_faults (s : State) (cl : Nat) (x : BindX) : (s.setBindX cl x).faults = s.faults := by simp only [State.setBindX]
@[simp] theorem State.setBindX_sec (s : State) (cl : Nat) (x : BindX) : (s.setBindX cl x).sec = s.sec := by simp only [State.setBindX]
@[simp] theorem State.setBindX_mbox (s : State) (cl : Nat) (x : BindX) : (s.setBindX cl x).mbox = s.mbox := by simp only [State.setBindX]
@[simp] theorem State.setBindX_mboxMem (s : State) (cl : Nat) (x : BindX) : (s.setBindX cl x).mboxMem = s.mboxMem := by simp only [State.setBindX]
@[simp] theorem State.setBindX_procs (s : State) (cl : Nat) (x : BindX) : (s.setBindX cl x).procs = s.procs := by simp only [State.setBindX]
@[simp] theorem State.setBindX_cc (s : State) (cl : Nat) (x : BindX) : (s.setBindX cl x).cc = s.cc := by simp only [State.setBindX]
@[simp] theorem State.setBindX_upds (s : State) (cl : Nat) (x : BindX) : (s.setBindX cl x).upds = s.upds := by simp only [State.setBindX]
@[simp] theorem State.setBindX_sess (s : State) (cl : Nat) (x : BindX) : (s.setBindX cl x).sess = s.sess := by simp only [State.setBindX]
@[simp] theorem State.setBindX_mg (s : State) (cl : Nat) (x : BindX) : (s.setBindX cl x).mg = s.mg := by simp only [State.setBindX]
@[simp] theorem State.setBindX_portCnt (s : State) (cl : Nat) (x : BindX) : (s.setBindX cl x).portCnt = s.portCnt := by simp only [State.setBindX]
@[simp] theorem State.setBindX_reg (s : State) (cl : Nat) (x : BindX) (key : Nat) : (s.setBindX cl x).reg key = s.reg key := by simp only [State.reg, State.setBindX_regs]
@[simp] theorem State.setBindX_fld (s : State) (cl : Nat) (x : BindX) (pg : Page) (g : Fld) (bank : Nat) : (s.setBindX cl x).fld pg g bank = s.fld pg g bank := by simp only [State.fld, State.setBindX_reg]

/-! ### State.modPartX -/

@[simp] theorem State.modPartX_regs (s : State) (p : Nat) (f : PartX → PartX) : (s.modPartX p f).regs = s.regs := by simp only [State.modPartX]
@[simp] theorem State.modPartX_pending (s : State) (p : Nat) (f : PartX → PartX) : (s.modPartX p f).pending = s.pending := by simp only [State.modPartX]
@[simp] theorem State.modPartX_shadow (s : State) (p : Nat) (f : PartX → PartX) : (s.modPartX p f).shadow = s.shadow := by simp only [State.modPartX]
@[simp] theorem State.modPartX_mem (s : State) (p : Nat) (f : PartX → PartX) : (s.modPartX p f).mem = s.mem := by simp only [State.modPartX]
@[simp] theorem State.modPartX_lines (s : State) (p : Nat) (f : PartX → PartX) : (s.modPartX p f).lines = s.lines := by simp only [State.modPartX]
@[simp] theorem State.modPartX_out (s : State) (p : Nat) (f : PartX → PartX) : (s.modPartX p f).out = s.out := by simp only [State.modPartX]
@[simp] theorem State.modPartX_fresh (s : State) (p : Nat) (f : PartX → PartX) : (s.modPartX p f).fresh = s.fresh := by simp only [State.modPartX]
@[simp] theorem State.modPartX_mod_ (s : State) (p : Nat) (f : PartX → PartX) : (s.modPartX p f).mod_ = s.mod_ := by simp only [State.modPartX]
@[simp] theorem State.modPartX_flash (s : State) (p : Nat) (f : PartX → PartX) : (s.modPartX p f).flash = s.flash := by simp only [State.modPartX]
@[simp] theorem State.modPartX_flip (s : State) (p : Nat) (f : PartX → PartX) : (s.modPartX p f).flip = s.flip := by simp only [State.modPartX]
@[simp] theorem State.modPartX_semTick (s : State) (p : Nat) (f : PartX → PartX) : (s.modPartX p f).semTick = s.semTick := by simp only [State.modPartX]
@[simp] theorem State.modPartX_semTie (s : State) (p : Nat) (f : PartX → PartX) : (s.modPartX p f).semTie = s.semTie := by simp only [State.modPartX]
@[simp] theorem State.modPartX_slots (s : State) (p : Nat) (f : PartX → PartX) : (s.modPartX p f).slots = s.slots := by simp only [State.modPartX]
@[simp] theorem State.modPartX_progs (s : State) (p : Nat) (f : PartX → PartX) : (s.modPartX p f).progs = s.progs := by simp only [State.modPartX]
@[simp] theorem State.modPartX_ring (s : State) (p : Nat) (f : PartX → PartX) : (s.modPartX p f).ring = s.ring := by simp only [State.modPartX]
@[simp] theorem State.modPartX_heldH (s : State) (p : Nat) (f : PartX → PartX) : (s.modPartX p f).heldH = s.heldH := by simp only [State.modPartX]
@[simp] theorem State.modPartX_heldM (s : State) (p : Nat) (f : PartX → PartX) : (s.modPartX p f).heldM = s.heldM := by simp only [State.modPartX]
@[simp] theorem State.modPartX_usedH (s : State) (p : Nat) (f : PartX → PartX) : (s.modPartX p f).usedH = s.usedH := by simp only [State.modPartX]
@[simp] theorem State.modPartX_usedM (s : State) (p : Nat) (f : PartX → PartX) : (s.modPartX p f).usedM = s.usedM := by simp only [State.modPartX]
@[simp] theorem State.modPartX_seqs (s : State) (p : Nat) (f : PartX → PartX) : (s.modPartX p f).seqs = s.seqs := by simp only [State.modPartX]
@[simp] theorem State.modPartX_stks (s : State) (p : Nat) (f : PartX → PartX) : (s.modPartX p f).stks = s.stks := by simp only [State.modPartX]
@[simp] theorem State.modPartX_reads (s : State) (p : Nat) (f : PartX → PartX) : (s.modPartX p f).reads = s.reads := by simp only [State.modPartX]
@[simp] theorem State.modPartX_mats (s : State) (p : Nat) (f : PartX → PartX) : (s.modPartX p f).mats = s.mats := by simp only [State.modPartX]
@[simp] theorem State.modPartX_nmus (s : State) (p : Nat) (f : PartX → PartX) : (s.modPartX p f).nmus = s.nmus := by simp only [State.modPartX]
@[simp] theorem State.modPartX_seals (s : State) (p : Nat) (f : PartX → PartX) : (s.modPartX p f).seals = s.seals := by simp only [State.modPartX]
@[simp] theorem State.modPartX_resets (s : State) (p : Nat) (f : PartX → PartX) : (s.modPartX p f).resets = s.resets := by simp only [State.modPartX]
@[simp] theorem State.modPartX_bundles (s : State) (p : Nat) (f : PartX → PartX) : (s.modPartX p f).bundles = s.bundles := by simp only [State.modPartX]
@[simp] theorem State.modPartX_lanes (s : State) (p : Nat) (f : PartX → PartX) : (s.modPartX p f).lanes = s.lanes := by simp only [State.modPartX]
@[simp] theorem State.modPartX_ports (s : State) (p : Nat) (f : PartX → PartX) : (s.modPartX p f).ports = s.ports := by simp only [State.modPartX]
@[simp] theorem State.modPartX_outst (s : State) (p : Nat) (f : PartX → PartX) : (s.modPartX p f).outst = s.outst := by simp only [State.modPartX]
@[simp] theorem State.modPartX_plan (s : State) (p : Nat) (f : PartX → PartX) : (s.modPartX p f).plan = s.plan := by simp only [State.modPartX]
@[simp] theorem State.modPartX_rings (s : State) (p : Nat) (f : PartX → PartX) : (s.modPartX p f).rings = s.rings := by simp only [State.modPartX]
@[simp] theorem State.modPartX_engs (s : State) (p : Nat) (f : PartX → PartX) : (s.modPartX p f).engs = s.engs := by simp only [State.modPartX]
@[simp] theorem State.modPartX_keys (s : State) (p : Nat) (f : PartX → PartX) : (s.modPartX p f).keys = s.keys := by simp only [State.modPartX]
@[simp] theorem State.modPartX_jobKeys (s : State) (p : Nat) (f : PartX → PartX) : (s.modPartX p f).jobKeys = s.jobKeys := by simp only [State.modPartX]
@[simp] theorem State.modPartX_decap (s : State) (p : Nat) (f : PartX → PartX) : (s.modPartX p f).decap = s.decap := by simp only [State.modPartX]
@[simp] theorem State.modPartX_frtLo (s : State) (p : Nat) (f : PartX → PartX) : (s.modPartX p f).frtLo = s.frtLo := by simp only [State.modPartX]
@[simp] theorem State.modPartX_noroute (s : State) (p : Nat) (f : PartX → PartX) : (s.modPartX p f).noroute = s.noroute := by simp only [State.modPartX]
@[simp] theorem State.modPartX_dropTick (s : State) (p : Nat) (f : PartX → PartX) : (s.modPartX p f).dropTick = s.dropTick := by simp only [State.modPartX]
@[simp] theorem State.modPartX_cores (s : State) (p : Nat) (f : PartX → PartX) : (s.modPartX p f).cores = s.cores := by simp only [State.modPartX]
@[simp] theorem State.modPartX_binds (s : State) (p : Nat) (f : PartX → PartX) : (s.modPartX p f).binds = s.binds := by simp only [State.modPartX]
@[simp] theorem State.modPartX_fences (s : State) (p : Nat) (f : PartX → PartX) : (s.modPartX p f).fences = s.fences := by simp only [State.modPartX]
@[simp] theorem State.modPartX_lineXs (s : State) (p : Nat) (f : PartX → PartX) : (s.modPartX p f).lineXs = s.lineXs := by simp only [State.modPartX]
@[simp] theorem State.modPartX_lineTag (s : State) (p : Nat) (f : PartX → PartX) : (s.modPartX p f).lineTag = s.lineTag := by simp only [State.modPartX]
@[simp] theorem State.modPartX_eps (s : State) (p : Nat) (f : PartX → PartX) : (s.modPartX p f).eps = s.eps := by simp only [State.modPartX]
@[simp] theorem State.modPartX_skews (s : State) (p : Nat) (f : PartX → PartX) : (s.modPartX p f).skews = s.skews := by simp only [State.modPartX]
@[simp] theorem State.modPartX_yoyoCur (s : State) (p : Nat) (f : PartX → PartX) : (s.modPartX p f).yoyoCur = s.yoyoCur := by simp only [State.modPartX]
@[simp] theorem State.modPartX_yoyoDue (s : State) (p : Nat) (f : PartX → PartX) : (s.modPartX p f).yoyoDue = s.yoyoDue := by simp only [State.modPartX]
@[simp] theorem State.modPartX_time (s : State) (p : Nat) (f : PartX → PartX) : (s.modPartX p f).time = s.time := by simp only [State.modPartX]
@[simp] theorem State.modPartX_ftNow (s : State) (p : Nat) (f : PartX → PartX) : (s.modPartX p f).ftNow = s.ftNow := by simp only [State.modPartX]
@[simp] theorem State.modPartX_ct (s : State) (p : Nat) (f : PartX → PartX) : (s.modPartX p f).ct = s.ct := by simp only [State.modPartX]
@[simp] theorem State.modPartX_colls (s : State) (p : Nat) (f : PartX → PartX) : (s.modPartX p f).colls = s.colls := by simp only [State.modPartX]
@[simp] theorem State.modPartX_taps (s : State) (p : Nat) (f : PartX → PartX) : (s.modPartX p f).taps = s.taps := by simp only [State.modPartX]
@[simp] theorem State.modPartX_nmuDone (s : State) (p : Nat) (f : PartX → PartX) : (s.modPartX p f).nmuDone = s.nmuDone := by simp only [State.modPartX]
@[simp] theorem State.modPartX_cks (s : State) (p : Nat) (f : PartX → PartX) : (s.modPartX p f).cks = s.cks := by simp only [State.modPartX]
@[simp] theorem State.modPartX_rcs (s : State) (p : Nat) (f : PartX → PartX) : (s.modPartX p f).rcs = s.rcs := by simp only [State.modPartX]
@[simp] theorem State.modPartX_mirs (s : State) (p : Nat) (f : PartX → PartX) : (s.modPartX p f).mirs = s.mirs := by simp only [State.modPartX]
@[simp] theorem State.modPartX_dgs (s : State) (p : Nat) (f : PartX → PartX) : (s.modPartX p f).dgs = s.dgs := by simp only [State.modPartX]
@[simp] theorem State.modPartX_fts (s : State) (p : Nat) (f : PartX → PartX) : (s.modPartX p f).fts = s.fts := by simp only [State.modPartX]
@[simp] theorem State.modPartX_sigs (s : State) (p : Nat) (f : PartX → PartX) : (s.modPartX p f).sigs = s.sigs := by simp only [State.modPartX]
@[simp] theorem State.modPartX_sigAcks (s : State) (p : Nat) (f : PartX → PartX) : (s.modPartX p f).sigAcks = s.sigAcks := by simp only [State.modPartX]
@[simp] theorem State.modPartX_sealTick (s : State) (p : Nat) (f : PartX → PartX) : (s.modPartX p f).sealTick = s.sealTick := by simp only [State.modPartX]
@[simp] theorem State.modPartX_faults (s : State) (p : Nat) (f : PartX → PartX) : (s.modPartX p f).faults = s.faults := by simp only [State.modPartX]
@[simp] theorem State.modPartX_sec (s : State) (p : Nat) (f : PartX → PartX) : (s.modPartX p f).sec = s.sec := by simp only [State.modPartX]
@[simp] theorem State.modPartX_mbox (s : State) (p : Nat) (f : PartX → PartX) : (s.modPartX p f).mbox = s.mbox := by simp only [State.modPartX]
@[simp] theorem State.modPartX_mboxMem (s : State) (p : Nat) (f : PartX → PartX) : (s.modPartX p f).mboxMem = s.mboxMem := by simp only [State.modPartX]
@[simp] theorem State.modPartX_procs (s : State) (p : Nat) (f : PartX → PartX) : (s.modPartX p f).procs = s.procs := by simp only [State.modPartX]
@[simp] theorem State.modPartX_cc (s : State) (p : Nat) (f : PartX → PartX) : (s.modPartX p f).cc = s.cc := by simp only [State.modPartX]
@[simp] theorem State.modPartX_upds (s : State) (p : Nat) (f : PartX → PartX) : (s.modPartX p f).upds = s.upds := by simp only [State.modPartX]
@[simp] theorem State.modPartX_sess (s : State) (p : Nat) (f : PartX → PartX) : (s.modPartX p f).sess = s.sess := by simp only [State.modPartX]
@[simp] theorem State.modPartX_mg (s : State) (p : Nat) (f : PartX → PartX) : (s.modPartX p f).mg = s.mg := by simp only [State.modPartX]
@[simp] theorem State.modPartX_portCnt (s : State) (p : Nat) (f : PartX → PartX) : (s.modPartX p f).portCnt = s.portCnt := by simp only [State.modPartX]
@[simp] theorem State.modPartX_reg (s : State) (p : Nat) (f : PartX → PartX) (key : Nat) : (s.modPartX p f).reg key = s.reg key := by simp only [State.reg, State.modPartX_regs]
@[simp] theorem State.modPartX_fld (s : State) (p : Nat) (f : PartX → PartX) (pg : Page) (g : Fld) (bank : Nat) : (s.modPartX p f).fld pg g bank = s.fld pg g bank := by simp only [State.fld, State.modPartX_reg]

/-! ### State.modEp -/

@[simp] theorem State.modEp_regs (s : State) (p : Nat) (f : EpX → EpX) : (s.modEp p f).regs = s.regs := by simp only [State.modEp]
@[simp] theorem State.modEp_pending (s : State) (p : Nat) (f : EpX → EpX) : (s.modEp p f).pending = s.pending := by simp only [State.modEp]
@[simp] theorem State.modEp_shadow (s : State) (p : Nat) (f : EpX → EpX) : (s.modEp p f).shadow = s.shadow := by simp only [State.modEp]
@[simp] theorem State.modEp_mem (s : State) (p : Nat) (f : EpX → EpX) : (s.modEp p f).mem = s.mem := by simp only [State.modEp]
@[simp] theorem State.modEp_lines (s : State) (p : Nat) (f : EpX → EpX) : (s.modEp p f).lines = s.lines := by simp only [State.modEp]
@[simp] theorem State.modEp_out (s : State) (p : Nat) (f : EpX → EpX) : (s.modEp p f).out = s.out := by simp only [State.modEp]
@[simp] theorem State.modEp_fresh (s : State) (p : Nat) (f : EpX → EpX) : (s.modEp p f).fresh = s.fresh := by simp only [State.modEp]
@[simp] theorem State.modEp_mod_ (s : State) (p : Nat) (f : EpX → EpX) : (s.modEp p f).mod_ = s.mod_ := by simp only [State.modEp]
@[simp] theorem State.modEp_flash (s : State) (p : Nat) (f : EpX → EpX) : (s.modEp p f).flash = s.flash := by simp only [State.modEp]
@[simp] theorem State.modEp_flip (s : State) (p : Nat) (f : EpX → EpX) : (s.modEp p f).flip = s.flip := by simp only [State.modEp]
@[simp] theorem State.modEp_semTick (s : State) (p : Nat) (f : EpX → EpX) : (s.modEp p f).semTick = s.semTick := by simp only [State.modEp]
@[simp] theorem State.modEp_semTie (s : State) (p : Nat) (f : EpX → EpX) : (s.modEp p f).semTie = s.semTie := by simp only [State.modEp]
@[simp] theorem State.modEp_slots (s : State) (p : Nat) (f : EpX → EpX) : (s.modEp p f).slots = s.slots := by simp only [State.modEp]
@[simp] theorem State.modEp_progs (s : State) (p : Nat) (f : EpX → EpX) : (s.modEp p f).progs = s.progs := by simp only [State.modEp]
@[simp] theorem State.modEp_ring (s : State) (p : Nat) (f : EpX → EpX) : (s.modEp p f).ring = s.ring := by simp only [State.modEp]
@[simp] theorem State.modEp_heldH (s : State) (p : Nat) (f : EpX → EpX) : (s.modEp p f).heldH = s.heldH := by simp only [State.modEp]
@[simp] theorem State.modEp_heldM (s : State) (p : Nat) (f : EpX → EpX) : (s.modEp p f).heldM = s.heldM := by simp only [State.modEp]
@[simp] theorem State.modEp_usedH (s : State) (p : Nat) (f : EpX → EpX) : (s.modEp p f).usedH = s.usedH := by simp only [State.modEp]
@[simp] theorem State.modEp_usedM (s : State) (p : Nat) (f : EpX → EpX) : (s.modEp p f).usedM = s.usedM := by simp only [State.modEp]
@[simp] theorem State.modEp_seqs (s : State) (p : Nat) (f : EpX → EpX) : (s.modEp p f).seqs = s.seqs := by simp only [State.modEp]
@[simp] theorem State.modEp_stks (s : State) (p : Nat) (f : EpX → EpX) : (s.modEp p f).stks = s.stks := by simp only [State.modEp]
@[simp] theorem State.modEp_reads (s : State) (p : Nat) (f : EpX → EpX) : (s.modEp p f).reads = s.reads := by simp only [State.modEp]
@[simp] theorem State.modEp_mats (s : State) (p : Nat) (f : EpX → EpX) : (s.modEp p f).mats = s.mats := by simp only [State.modEp]
@[simp] theorem State.modEp_nmus (s : State) (p : Nat) (f : EpX → EpX) : (s.modEp p f).nmus = s.nmus := by simp only [State.modEp]
@[simp] theorem State.modEp_seals (s : State) (p : Nat) (f : EpX → EpX) : (s.modEp p f).seals = s.seals := by simp only [State.modEp]
@[simp] theorem State.modEp_resets (s : State) (p : Nat) (f : EpX → EpX) : (s.modEp p f).resets = s.resets := by simp only [State.modEp]
@[simp] theorem State.modEp_bundles (s : State) (p : Nat) (f : EpX → EpX) : (s.modEp p f).bundles = s.bundles := by simp only [State.modEp]
@[simp] theorem State.modEp_lanes (s : State) (p : Nat) (f : EpX → EpX) : (s.modEp p f).lanes = s.lanes := by simp only [State.modEp]
@[simp] theorem State.modEp_ports (s : State) (p : Nat) (f : EpX → EpX) : (s.modEp p f).ports = s.ports := by simp only [State.modEp]
@[simp] theorem State.modEp_outst (s : State) (p : Nat) (f : EpX → EpX) : (s.modEp p f).outst = s.outst := by simp only [State.modEp]
@[simp] theorem State.modEp_plan (s : State) (p : Nat) (f : EpX → EpX) : (s.modEp p f).plan = s.plan := by simp only [State.modEp]
@[simp] theorem State.modEp_rings (s : State) (p : Nat) (f : EpX → EpX) : (s.modEp p f).rings = s.rings := by simp only [State.modEp]
@[simp] theorem State.modEp_engs (s : State) (p : Nat) (f : EpX → EpX) : (s.modEp p f).engs = s.engs := by simp only [State.modEp]
@[simp] theorem State.modEp_keys (s : State) (p : Nat) (f : EpX → EpX) : (s.modEp p f).keys = s.keys := by simp only [State.modEp]
@[simp] theorem State.modEp_jobKeys (s : State) (p : Nat) (f : EpX → EpX) : (s.modEp p f).jobKeys = s.jobKeys := by simp only [State.modEp]
@[simp] theorem State.modEp_decap (s : State) (p : Nat) (f : EpX → EpX) : (s.modEp p f).decap = s.decap := by simp only [State.modEp]
@[simp] theorem State.modEp_frtLo (s : State) (p : Nat) (f : EpX → EpX) : (s.modEp p f).frtLo = s.frtLo := by simp only [State.modEp]
@[simp] theorem State.modEp_noroute (s : State) (p : Nat) (f : EpX → EpX) : (s.modEp p f).noroute = s.noroute := by simp only [State.modEp]
@[simp] theorem State.modEp_dropTick (s : State) (p : Nat) (f : EpX → EpX) : (s.modEp p f).dropTick = s.dropTick := by simp only [State.modEp]
@[simp] theorem State.modEp_cores (s : State) (p : Nat) (f : EpX → EpX) : (s.modEp p f).cores = s.cores := by simp only [State.modEp]
@[simp] theorem State.modEp_binds (s : State) (p : Nat) (f : EpX → EpX) : (s.modEp p f).binds = s.binds := by simp only [State.modEp]
@[simp] theorem State.modEp_fences (s : State) (p : Nat) (f : EpX → EpX) : (s.modEp p f).fences = s.fences := by simp only [State.modEp]
@[simp] theorem State.modEp_parts (s : State) (p : Nat) (f : EpX → EpX) : (s.modEp p f).parts = s.parts := by simp only [State.modEp]
@[simp] theorem State.modEp_lineXs (s : State) (p : Nat) (f : EpX → EpX) : (s.modEp p f).lineXs = s.lineXs := by simp only [State.modEp]
@[simp] theorem State.modEp_lineTag (s : State) (p : Nat) (f : EpX → EpX) : (s.modEp p f).lineTag = s.lineTag := by simp only [State.modEp]
@[simp] theorem State.modEp_skews (s : State) (p : Nat) (f : EpX → EpX) : (s.modEp p f).skews = s.skews := by simp only [State.modEp]
@[simp] theorem State.modEp_yoyoCur (s : State) (p : Nat) (f : EpX → EpX) : (s.modEp p f).yoyoCur = s.yoyoCur := by simp only [State.modEp]
@[simp] theorem State.modEp_yoyoDue (s : State) (p : Nat) (f : EpX → EpX) : (s.modEp p f).yoyoDue = s.yoyoDue := by simp only [State.modEp]
@[simp] theorem State.modEp_time (s : State) (p : Nat) (f : EpX → EpX) : (s.modEp p f).time = s.time := by simp only [State.modEp]
@[simp] theorem State.modEp_ftNow (s : State) (p : Nat) (f : EpX → EpX) : (s.modEp p f).ftNow = s.ftNow := by simp only [State.modEp]
@[simp] theorem State.modEp_ct (s : State) (p : Nat) (f : EpX → EpX) : (s.modEp p f).ct = s.ct := by simp only [State.modEp]
@[simp] theorem State.modEp_colls (s : State) (p : Nat) (f : EpX → EpX) : (s.modEp p f).colls = s.colls := by simp only [State.modEp]
@[simp] theorem State.modEp_taps (s : State) (p : Nat) (f : EpX → EpX) : (s.modEp p f).taps = s.taps := by simp only [State.modEp]
@[simp] theorem State.modEp_nmuDone (s : State) (p : Nat) (f : EpX → EpX) : (s.modEp p f).nmuDone = s.nmuDone := by simp only [State.modEp]
@[simp] theorem State.modEp_cks (s : State) (p : Nat) (f : EpX → EpX) : (s.modEp p f).cks = s.cks := by simp only [State.modEp]
@[simp] theorem State.modEp_rcs (s : State) (p : Nat) (f : EpX → EpX) : (s.modEp p f).rcs = s.rcs := by simp only [State.modEp]
@[simp] theorem State.modEp_mirs (s : State) (p : Nat) (f : EpX → EpX) : (s.modEp p f).mirs = s.mirs := by simp only [State.modEp]
@[simp] theorem State.modEp_dgs (s : State) (p : Nat) (f : EpX → EpX) : (s.modEp p f).dgs = s.dgs := by simp only [State.modEp]
@[simp] theorem State.modEp_fts (s : State) (p : Nat) (f : EpX → EpX) : (s.modEp p f).fts = s.fts := by simp only [State.modEp]
@[simp] theorem State.modEp_sigs (s : State) (p : Nat) (f : EpX → EpX) : (s.modEp p f).sigs = s.sigs := by simp only [State.modEp]
@[simp] theorem State.modEp_sigAcks (s : State) (p : Nat) (f : EpX → EpX) : (s.modEp p f).sigAcks = s.sigAcks := by simp only [State.modEp]
@[simp] theorem State.modEp_sealTick (s : State) (p : Nat) (f : EpX → EpX) : (s.modEp p f).sealTick = s.sealTick := by simp only [State.modEp]
@[simp] theorem State.modEp_faults (s : State) (p : Nat) (f : EpX → EpX) : (s.modEp p f).faults = s.faults := by simp only [State.modEp]
@[simp] theorem State.modEp_sec (s : State) (p : Nat) (f : EpX → EpX) : (s.modEp p f).sec = s.sec := by simp only [State.modEp]
@[simp] theorem State.modEp_mbox (s : State) (p : Nat) (f : EpX → EpX) : (s.modEp p f).mbox = s.mbox := by simp only [State.modEp]
@[simp] theorem State.modEp_mboxMem (s : State) (p : Nat) (f : EpX → EpX) : (s.modEp p f).mboxMem = s.mboxMem := by simp only [State.modEp]
@[simp] theorem State.modEp_procs (s : State) (p : Nat) (f : EpX → EpX) : (s.modEp p f).procs = s.procs := by simp only [State.modEp]
@[simp] theorem State.modEp_cc (s : State) (p : Nat) (f : EpX → EpX) : (s.modEp p f).cc = s.cc := by simp only [State.modEp]
@[simp] theorem State.modEp_upds (s : State) (p : Nat) (f : EpX → EpX) : (s.modEp p f).upds = s.upds := by simp only [State.modEp]
@[simp] theorem State.modEp_sess (s : State) (p : Nat) (f : EpX → EpX) : (s.modEp p f).sess = s.sess := by simp only [State.modEp]
@[simp] theorem State.modEp_mg (s : State) (p : Nat) (f : EpX → EpX) : (s.modEp p f).mg = s.mg := by simp only [State.modEp]
@[simp] theorem State.modEp_portCnt (s : State) (p : Nat) (f : EpX → EpX) : (s.modEp p f).portCnt = s.portCnt := by simp only [State.modEp]
@[simp] theorem State.modEp_reg (s : State) (p : Nat) (f : EpX → EpX) (key : Nat) : (s.modEp p f).reg key = s.reg key := by simp only [State.reg, State.modEp_regs]
@[simp] theorem State.modEp_fld (s : State) (p : Nat) (f : EpX → EpX) (pg : Page) (g : Fld) (bank : Nat) : (s.modEp p f).fld pg g bank = s.fld pg g bank := by simp only [State.fld, State.modEp_reg]

/-! ### State.modTime -/

@[simp] theorem State.modTime_regs (s : State) (f : TimeX → TimeX) : (s.modTime f).regs = s.regs := by simp only [State.modTime]
@[simp] theorem State.modTime_pending (s : State) (f : TimeX → TimeX) : (s.modTime f).pending = s.pending := by simp only [State.modTime]
@[simp] theorem State.modTime_shadow (s : State) (f : TimeX → TimeX) : (s.modTime f).shadow = s.shadow := by simp only [State.modTime]
@[simp] theorem State.modTime_mem (s : State) (f : TimeX → TimeX) : (s.modTime f).mem = s.mem := by simp only [State.modTime]
@[simp] theorem State.modTime_lines (s : State) (f : TimeX → TimeX) : (s.modTime f).lines = s.lines := by simp only [State.modTime]
@[simp] theorem State.modTime_out (s : State) (f : TimeX → TimeX) : (s.modTime f).out = s.out := by simp only [State.modTime]
@[simp] theorem State.modTime_fresh (s : State) (f : TimeX → TimeX) : (s.modTime f).fresh = s.fresh := by simp only [State.modTime]
@[simp] theorem State.modTime_mod_ (s : State) (f : TimeX → TimeX) : (s.modTime f).mod_ = s.mod_ := by simp only [State.modTime]
@[simp] theorem State.modTime_flash (s : State) (f : TimeX → TimeX) : (s.modTime f).flash = s.flash := by simp only [State.modTime]
@[simp] theorem State.modTime_flip (s : State) (f : TimeX → TimeX) : (s.modTime f).flip = s.flip := by simp only [State.modTime]
@[simp] theorem State.modTime_semTick (s : State) (f : TimeX → TimeX) : (s.modTime f).semTick = s.semTick := by simp only [State.modTime]
@[simp] theorem State.modTime_semTie (s : State) (f : TimeX → TimeX) : (s.modTime f).semTie = s.semTie := by simp only [State.modTime]
@[simp] theorem State.modTime_slots (s : State) (f : TimeX → TimeX) : (s.modTime f).slots = s.slots := by simp only [State.modTime]
@[simp] theorem State.modTime_progs (s : State) (f : TimeX → TimeX) : (s.modTime f).progs = s.progs := by simp only [State.modTime]
@[simp] theorem State.modTime_ring (s : State) (f : TimeX → TimeX) : (s.modTime f).ring = s.ring := by simp only [State.modTime]
@[simp] theorem State.modTime_heldH (s : State) (f : TimeX → TimeX) : (s.modTime f).heldH = s.heldH := by simp only [State.modTime]
@[simp] theorem State.modTime_heldM (s : State) (f : TimeX → TimeX) : (s.modTime f).heldM = s.heldM := by simp only [State.modTime]
@[simp] theorem State.modTime_usedH (s : State) (f : TimeX → TimeX) : (s.modTime f).usedH = s.usedH := by simp only [State.modTime]
@[simp] theorem State.modTime_usedM (s : State) (f : TimeX → TimeX) : (s.modTime f).usedM = s.usedM := by simp only [State.modTime]
@[simp] theorem State.modTime_seqs (s : State) (f : TimeX → TimeX) : (s.modTime f).seqs = s.seqs := by simp only [State.modTime]
@[simp] theorem State.modTime_stks (s : State) (f : TimeX → TimeX) : (s.modTime f).stks = s.stks := by simp only [State.modTime]
@[simp] theorem State.modTime_reads (s : State) (f : TimeX → TimeX) : (s.modTime f).reads = s.reads := by simp only [State.modTime]
@[simp] theorem State.modTime_mats (s : State) (f : TimeX → TimeX) : (s.modTime f).mats = s.mats := by simp only [State.modTime]
@[simp] theorem State.modTime_nmus (s : State) (f : TimeX → TimeX) : (s.modTime f).nmus = s.nmus := by simp only [State.modTime]
@[simp] theorem State.modTime_seals (s : State) (f : TimeX → TimeX) : (s.modTime f).seals = s.seals := by simp only [State.modTime]
@[simp] theorem State.modTime_resets (s : State) (f : TimeX → TimeX) : (s.modTime f).resets = s.resets := by simp only [State.modTime]
@[simp] theorem State.modTime_bundles (s : State) (f : TimeX → TimeX) : (s.modTime f).bundles = s.bundles := by simp only [State.modTime]
@[simp] theorem State.modTime_lanes (s : State) (f : TimeX → TimeX) : (s.modTime f).lanes = s.lanes := by simp only [State.modTime]
@[simp] theorem State.modTime_ports (s : State) (f : TimeX → TimeX) : (s.modTime f).ports = s.ports := by simp only [State.modTime]
@[simp] theorem State.modTime_outst (s : State) (f : TimeX → TimeX) : (s.modTime f).outst = s.outst := by simp only [State.modTime]
@[simp] theorem State.modTime_plan (s : State) (f : TimeX → TimeX) : (s.modTime f).plan = s.plan := by simp only [State.modTime]
@[simp] theorem State.modTime_rings (s : State) (f : TimeX → TimeX) : (s.modTime f).rings = s.rings := by simp only [State.modTime]
@[simp] theorem State.modTime_engs (s : State) (f : TimeX → TimeX) : (s.modTime f).engs = s.engs := by simp only [State.modTime]
@[simp] theorem State.modTime_keys (s : State) (f : TimeX → TimeX) : (s.modTime f).keys = s.keys := by simp only [State.modTime]
@[simp] theorem State.modTime_jobKeys (s : State) (f : TimeX → TimeX) : (s.modTime f).jobKeys = s.jobKeys := by simp only [State.modTime]
@[simp] theorem State.modTime_decap (s : State) (f : TimeX → TimeX) : (s.modTime f).decap = s.decap := by simp only [State.modTime]
@[simp] theorem State.modTime_frtLo (s : State) (f : TimeX → TimeX) : (s.modTime f).frtLo = s.frtLo := by simp only [State.modTime]
@[simp] theorem State.modTime_noroute (s : State) (f : TimeX → TimeX) : (s.modTime f).noroute = s.noroute := by simp only [State.modTime]
@[simp] theorem State.modTime_dropTick (s : State) (f : TimeX → TimeX) : (s.modTime f).dropTick = s.dropTick := by simp only [State.modTime]
@[simp] theorem State.modTime_cores (s : State) (f : TimeX → TimeX) : (s.modTime f).cores = s.cores := by simp only [State.modTime]
@[simp] theorem State.modTime_binds (s : State) (f : TimeX → TimeX) : (s.modTime f).binds = s.binds := by simp only [State.modTime]
@[simp] theorem State.modTime_fences (s : State) (f : TimeX → TimeX) : (s.modTime f).fences = s.fences := by simp only [State.modTime]
@[simp] theorem State.modTime_parts (s : State) (f : TimeX → TimeX) : (s.modTime f).parts = s.parts := by simp only [State.modTime]
@[simp] theorem State.modTime_lineXs (s : State) (f : TimeX → TimeX) : (s.modTime f).lineXs = s.lineXs := by simp only [State.modTime]
@[simp] theorem State.modTime_lineTag (s : State) (f : TimeX → TimeX) : (s.modTime f).lineTag = s.lineTag := by simp only [State.modTime]
@[simp] theorem State.modTime_eps (s : State) (f : TimeX → TimeX) : (s.modTime f).eps = s.eps := by simp only [State.modTime]
@[simp] theorem State.modTime_skews (s : State) (f : TimeX → TimeX) : (s.modTime f).skews = s.skews := by simp only [State.modTime]
@[simp] theorem State.modTime_yoyoCur (s : State) (f : TimeX → TimeX) : (s.modTime f).yoyoCur = s.yoyoCur := by simp only [State.modTime]
@[simp] theorem State.modTime_yoyoDue (s : State) (f : TimeX → TimeX) : (s.modTime f).yoyoDue = s.yoyoDue := by simp only [State.modTime]
@[simp] theorem State.modTime_ftNow (s : State) (f : TimeX → TimeX) : (s.modTime f).ftNow = s.ftNow := by simp only [State.modTime]
@[simp] theorem State.modTime_ct (s : State) (f : TimeX → TimeX) : (s.modTime f).ct = s.ct := by simp only [State.modTime]
@[simp] theorem State.modTime_colls (s : State) (f : TimeX → TimeX) : (s.modTime f).colls = s.colls := by simp only [State.modTime]
@[simp] theorem State.modTime_taps (s : State) (f : TimeX → TimeX) : (s.modTime f).taps = s.taps := by simp only [State.modTime]
@[simp] theorem State.modTime_nmuDone (s : State) (f : TimeX → TimeX) : (s.modTime f).nmuDone = s.nmuDone := by simp only [State.modTime]
@[simp] theorem State.modTime_cks (s : State) (f : TimeX → TimeX) : (s.modTime f).cks = s.cks := by simp only [State.modTime]
@[simp] theorem State.modTime_rcs (s : State) (f : TimeX → TimeX) : (s.modTime f).rcs = s.rcs := by simp only [State.modTime]
@[simp] theorem State.modTime_mirs (s : State) (f : TimeX → TimeX) : (s.modTime f).mirs = s.mirs := by simp only [State.modTime]
@[simp] theorem State.modTime_dgs (s : State) (f : TimeX → TimeX) : (s.modTime f).dgs = s.dgs := by simp only [State.modTime]
@[simp] theorem State.modTime_fts (s : State) (f : TimeX → TimeX) : (s.modTime f).fts = s.fts := by simp only [State.modTime]
@[simp] theorem State.modTime_sigs (s : State) (f : TimeX → TimeX) : (s.modTime f).sigs = s.sigs := by simp only [State.modTime]
@[simp] theorem State.modTime_sigAcks (s : State) (f : TimeX → TimeX) : (s.modTime f).sigAcks = s.sigAcks := by simp only [State.modTime]
@[simp] theorem State.modTime_sealTick (s : State) (f : TimeX → TimeX) : (s.modTime f).sealTick = s.sealTick := by simp only [State.modTime]
@[simp] theorem State.modTime_faults (s : State) (f : TimeX → TimeX) : (s.modTime f).faults = s.faults := by simp only [State.modTime]
@[simp] theorem State.modTime_sec (s : State) (f : TimeX → TimeX) : (s.modTime f).sec = s.sec := by simp only [State.modTime]
@[simp] theorem State.modTime_mbox (s : State) (f : TimeX → TimeX) : (s.modTime f).mbox = s.mbox := by simp only [State.modTime]
@[simp] theorem State.modTime_mboxMem (s : State) (f : TimeX → TimeX) : (s.modTime f).mboxMem = s.mboxMem := by simp only [State.modTime]
@[simp] theorem State.modTime_procs (s : State) (f : TimeX → TimeX) : (s.modTime f).procs = s.procs := by simp only [State.modTime]
@[simp] theorem State.modTime_cc (s : State) (f : TimeX → TimeX) : (s.modTime f).cc = s.cc := by simp only [State.modTime]
@[simp] theorem State.modTime_upds (s : State) (f : TimeX → TimeX) : (s.modTime f).upds = s.upds := by simp only [State.modTime]
@[simp] theorem State.modTime_sess (s : State) (f : TimeX → TimeX) : (s.modTime f).sess = s.sess := by simp only [State.modTime]
@[simp] theorem State.modTime_mg (s : State) (f : TimeX → TimeX) : (s.modTime f).mg = s.mg := by simp only [State.modTime]
@[simp] theorem State.modTime_portCnt (s : State) (f : TimeX → TimeX) : (s.modTime f).portCnt = s.portCnt := by simp only [State.modTime]
@[simp] theorem State.modTime_reg (s : State) (f : TimeX → TimeX) (key : Nat) : (s.modTime f).reg key = s.reg key := by simp only [State.reg, State.modTime_regs]
@[simp] theorem State.modTime_fld (s : State) (f : TimeX → TimeX) (pg : Page) (g : Fld) (bank : Nat) : (s.modTime f).fld pg g bank = s.fld pg g bank := by simp only [State.fld, State.modTime_reg]

/-! ### State.modCk -/

@[simp] theorem State.modCk_regs (s : State) (p : Nat) (f : CkX → CkX) : (s.modCk p f).regs = s.regs := by simp only [State.modCk]
@[simp] theorem State.modCk_pending (s : State) (p : Nat) (f : CkX → CkX) : (s.modCk p f).pending = s.pending := by simp only [State.modCk]
@[simp] theorem State.modCk_shadow (s : State) (p : Nat) (f : CkX → CkX) : (s.modCk p f).shadow = s.shadow := by simp only [State.modCk]
@[simp] theorem State.modCk_mem (s : State) (p : Nat) (f : CkX → CkX) : (s.modCk p f).mem = s.mem := by simp only [State.modCk]
@[simp] theorem State.modCk_lines (s : State) (p : Nat) (f : CkX → CkX) : (s.modCk p f).lines = s.lines := by simp only [State.modCk]
@[simp] theorem State.modCk_out (s : State) (p : Nat) (f : CkX → CkX) : (s.modCk p f).out = s.out := by simp only [State.modCk]
@[simp] theorem State.modCk_fresh (s : State) (p : Nat) (f : CkX → CkX) : (s.modCk p f).fresh = s.fresh := by simp only [State.modCk]
@[simp] theorem State.modCk_mod_ (s : State) (p : Nat) (f : CkX → CkX) : (s.modCk p f).mod_ = s.mod_ := by simp only [State.modCk]
@[simp] theorem State.modCk_flash (s : State) (p : Nat) (f : CkX → CkX) : (s.modCk p f).flash = s.flash := by simp only [State.modCk]
@[simp] theorem State.modCk_flip (s : State) (p : Nat) (f : CkX → CkX) : (s.modCk p f).flip = s.flip := by simp only [State.modCk]
@[simp] theorem State.modCk_semTick (s : State) (p : Nat) (f : CkX → CkX) : (s.modCk p f).semTick = s.semTick := by simp only [State.modCk]
@[simp] theorem State.modCk_semTie (s : State) (p : Nat) (f : CkX → CkX) : (s.modCk p f).semTie = s.semTie := by simp only [State.modCk]
@[simp] theorem State.modCk_slots (s : State) (p : Nat) (f : CkX → CkX) : (s.modCk p f).slots = s.slots := by simp only [State.modCk]
@[simp] theorem State.modCk_progs (s : State) (p : Nat) (f : CkX → CkX) : (s.modCk p f).progs = s.progs := by simp only [State.modCk]
@[simp] theorem State.modCk_ring (s : State) (p : Nat) (f : CkX → CkX) : (s.modCk p f).ring = s.ring := by simp only [State.modCk]
@[simp] theorem State.modCk_heldH (s : State) (p : Nat) (f : CkX → CkX) : (s.modCk p f).heldH = s.heldH := by simp only [State.modCk]
@[simp] theorem State.modCk_heldM (s : State) (p : Nat) (f : CkX → CkX) : (s.modCk p f).heldM = s.heldM := by simp only [State.modCk]
@[simp] theorem State.modCk_usedH (s : State) (p : Nat) (f : CkX → CkX) : (s.modCk p f).usedH = s.usedH := by simp only [State.modCk]
@[simp] theorem State.modCk_usedM (s : State) (p : Nat) (f : CkX → CkX) : (s.modCk p f).usedM = s.usedM := by simp only [State.modCk]
@[simp] theorem State.modCk_seqs (s : State) (p : Nat) (f : CkX → CkX) : (s.modCk p f).seqs = s.seqs := by simp only [State.modCk]
@[simp] theorem State.modCk_stks (s : State) (p : Nat) (f : CkX → CkX) : (s.modCk p f).stks = s.stks := by simp only [State.modCk]
@[simp] theorem State.modCk_reads (s : State) (p : Nat) (f : CkX → CkX) : (s.modCk p f).reads = s.reads := by simp only [State.modCk]
@[simp] theorem State.modCk_mats (s : State) (p : Nat) (f : CkX → CkX) : (s.modCk p f).mats = s.mats := by simp only [State.modCk]
@[simp] theorem State.modCk_nmus (s : State) (p : Nat) (f : CkX → CkX) : (s.modCk p f).nmus = s.nmus := by simp only [State.modCk]
@[simp] theorem State.modCk_seals (s : State) (p : Nat) (f : CkX → CkX) : (s.modCk p f).seals = s.seals := by simp only [State.modCk]
@[simp] theorem State.modCk_resets (s : State) (p : Nat) (f : CkX → CkX) : (s.modCk p f).resets = s.resets := by simp only [State.modCk]
@[simp] theorem State.modCk_bundles (s : State) (p : Nat) (f : CkX → CkX) : (s.modCk p f).bundles = s.bundles := by simp only [State.modCk]
@[simp] theorem State.modCk_lanes (s : State) (p : Nat) (f : CkX → CkX) : (s.modCk p f).lanes = s.lanes := by simp only [State.modCk]
@[simp] theorem State.modCk_ports (s : State) (p : Nat) (f : CkX → CkX) : (s.modCk p f).ports = s.ports := by simp only [State.modCk]
@[simp] theorem State.modCk_outst (s : State) (p : Nat) (f : CkX → CkX) : (s.modCk p f).outst = s.outst := by simp only [State.modCk]
@[simp] theorem State.modCk_plan (s : State) (p : Nat) (f : CkX → CkX) : (s.modCk p f).plan = s.plan := by simp only [State.modCk]
@[simp] theorem State.modCk_rings (s : State) (p : Nat) (f : CkX → CkX) : (s.modCk p f).rings = s.rings := by simp only [State.modCk]
@[simp] theorem State.modCk_engs (s : State) (p : Nat) (f : CkX → CkX) : (s.modCk p f).engs = s.engs := by simp only [State.modCk]
@[simp] theorem State.modCk_keys (s : State) (p : Nat) (f : CkX → CkX) : (s.modCk p f).keys = s.keys := by simp only [State.modCk]
@[simp] theorem State.modCk_jobKeys (s : State) (p : Nat) (f : CkX → CkX) : (s.modCk p f).jobKeys = s.jobKeys := by simp only [State.modCk]
@[simp] theorem State.modCk_decap (s : State) (p : Nat) (f : CkX → CkX) : (s.modCk p f).decap = s.decap := by simp only [State.modCk]
@[simp] theorem State.modCk_frtLo (s : State) (p : Nat) (f : CkX → CkX) : (s.modCk p f).frtLo = s.frtLo := by simp only [State.modCk]
@[simp] theorem State.modCk_noroute (s : State) (p : Nat) (f : CkX → CkX) : (s.modCk p f).noroute = s.noroute := by simp only [State.modCk]
@[simp] theorem State.modCk_dropTick (s : State) (p : Nat) (f : CkX → CkX) : (s.modCk p f).dropTick = s.dropTick := by simp only [State.modCk]
@[simp] theorem State.modCk_cores (s : State) (p : Nat) (f : CkX → CkX) : (s.modCk p f).cores = s.cores := by simp only [State.modCk]
@[simp] theorem State.modCk_binds (s : State) (p : Nat) (f : CkX → CkX) : (s.modCk p f).binds = s.binds := by simp only [State.modCk]
@[simp] theorem State.modCk_fences (s : State) (p : Nat) (f : CkX → CkX) : (s.modCk p f).fences = s.fences := by simp only [State.modCk]
@[simp] theorem State.modCk_parts (s : State) (p : Nat) (f : CkX → CkX) : (s.modCk p f).parts = s.parts := by simp only [State.modCk]
@[simp] theorem State.modCk_lineXs (s : State) (p : Nat) (f : CkX → CkX) : (s.modCk p f).lineXs = s.lineXs := by simp only [State.modCk]
@[simp] theorem State.modCk_lineTag (s : State) (p : Nat) (f : CkX → CkX) : (s.modCk p f).lineTag = s.lineTag := by simp only [State.modCk]
@[simp] theorem State.modCk_eps (s : State) (p : Nat) (f : CkX → CkX) : (s.modCk p f).eps = s.eps := by simp only [State.modCk]
@[simp] theorem State.modCk_skews (s : State) (p : Nat) (f : CkX → CkX) : (s.modCk p f).skews = s.skews := by simp only [State.modCk]
@[simp] theorem State.modCk_yoyoCur (s : State) (p : Nat) (f : CkX → CkX) : (s.modCk p f).yoyoCur = s.yoyoCur := by simp only [State.modCk]
@[simp] theorem State.modCk_yoyoDue (s : State) (p : Nat) (f : CkX → CkX) : (s.modCk p f).yoyoDue = s.yoyoDue := by simp only [State.modCk]
@[simp] theorem State.modCk_time (s : State) (p : Nat) (f : CkX → CkX) : (s.modCk p f).time = s.time := by simp only [State.modCk]
@[simp] theorem State.modCk_ftNow (s : State) (p : Nat) (f : CkX → CkX) : (s.modCk p f).ftNow = s.ftNow := by simp only [State.modCk]
@[simp] theorem State.modCk_ct (s : State) (p : Nat) (f : CkX → CkX) : (s.modCk p f).ct = s.ct := by simp only [State.modCk]
@[simp] theorem State.modCk_colls (s : State) (p : Nat) (f : CkX → CkX) : (s.modCk p f).colls = s.colls := by simp only [State.modCk]
@[simp] theorem State.modCk_taps (s : State) (p : Nat) (f : CkX → CkX) : (s.modCk p f).taps = s.taps := by simp only [State.modCk]
@[simp] theorem State.modCk_nmuDone (s : State) (p : Nat) (f : CkX → CkX) : (s.modCk p f).nmuDone = s.nmuDone := by simp only [State.modCk]
@[simp] theorem State.modCk_rcs (s : State) (p : Nat) (f : CkX → CkX) : (s.modCk p f).rcs = s.rcs := by simp only [State.modCk]
@[simp] theorem State.modCk_mirs (s : State) (p : Nat) (f : CkX → CkX) : (s.modCk p f).mirs = s.mirs := by simp only [State.modCk]
@[simp] theorem State.modCk_dgs (s : State) (p : Nat) (f : CkX → CkX) : (s.modCk p f).dgs = s.dgs := by simp only [State.modCk]
@[simp] theorem State.modCk_fts (s : State) (p : Nat) (f : CkX → CkX) : (s.modCk p f).fts = s.fts := by simp only [State.modCk]
@[simp] theorem State.modCk_sigs (s : State) (p : Nat) (f : CkX → CkX) : (s.modCk p f).sigs = s.sigs := by simp only [State.modCk]
@[simp] theorem State.modCk_sigAcks (s : State) (p : Nat) (f : CkX → CkX) : (s.modCk p f).sigAcks = s.sigAcks := by simp only [State.modCk]
@[simp] theorem State.modCk_sealTick (s : State) (p : Nat) (f : CkX → CkX) : (s.modCk p f).sealTick = s.sealTick := by simp only [State.modCk]
@[simp] theorem State.modCk_faults (s : State) (p : Nat) (f : CkX → CkX) : (s.modCk p f).faults = s.faults := by simp only [State.modCk]
@[simp] theorem State.modCk_sec (s : State) (p : Nat) (f : CkX → CkX) : (s.modCk p f).sec = s.sec := by simp only [State.modCk]
@[simp] theorem State.modCk_mbox (s : State) (p : Nat) (f : CkX → CkX) : (s.modCk p f).mbox = s.mbox := by simp only [State.modCk]
@[simp] theorem State.modCk_mboxMem (s : State) (p : Nat) (f : CkX → CkX) : (s.modCk p f).mboxMem = s.mboxMem := by simp only [State.modCk]
@[simp] theorem State.modCk_procs (s : State) (p : Nat) (f : CkX → CkX) : (s.modCk p f).procs = s.procs := by simp only [State.modCk]
@[simp] theorem State.modCk_cc (s : State) (p : Nat) (f : CkX → CkX) : (s.modCk p f).cc = s.cc := by simp only [State.modCk]
@[simp] theorem State.modCk_upds (s : State) (p : Nat) (f : CkX → CkX) : (s.modCk p f).upds = s.upds := by simp only [State.modCk]
@[simp] theorem State.modCk_sess (s : State) (p : Nat) (f : CkX → CkX) : (s.modCk p f).sess = s.sess := by simp only [State.modCk]
@[simp] theorem State.modCk_mg (s : State) (p : Nat) (f : CkX → CkX) : (s.modCk p f).mg = s.mg := by simp only [State.modCk]
@[simp] theorem State.modCk_portCnt (s : State) (p : Nat) (f : CkX → CkX) : (s.modCk p f).portCnt = s.portCnt := by simp only [State.modCk]
@[simp] theorem State.modCk_reg (s : State) (p : Nat) (f : CkX → CkX) (key : Nat) : (s.modCk p f).reg key = s.reg key := by simp only [State.reg, State.modCk_regs]
@[simp] theorem State.modCk_fld (s : State) (p : Nat) (f : CkX → CkX) (pg : Page) (g : Fld) (bank : Nat) : (s.modCk p f).fld pg g bank = s.fld pg g bank := by simp only [State.fld, State.modCk_reg]

/-! ### State.setRc -/

@[simp] theorem State.setRc_regs (s : State) (p : Nat) (x : RcX) : (s.setRc p x).regs = s.regs := by simp only [State.setRc]
@[simp] theorem State.setRc_pending (s : State) (p : Nat) (x : RcX) : (s.setRc p x).pending = s.pending := by simp only [State.setRc]
@[simp] theorem State.setRc_shadow (s : State) (p : Nat) (x : RcX) : (s.setRc p x).shadow = s.shadow := by simp only [State.setRc]
@[simp] theorem State.setRc_mem (s : State) (p : Nat) (x : RcX) : (s.setRc p x).mem = s.mem := by simp only [State.setRc]
@[simp] theorem State.setRc_lines (s : State) (p : Nat) (x : RcX) : (s.setRc p x).lines = s.lines := by simp only [State.setRc]
@[simp] theorem State.setRc_out (s : State) (p : Nat) (x : RcX) : (s.setRc p x).out = s.out := by simp only [State.setRc]
@[simp] theorem State.setRc_fresh (s : State) (p : Nat) (x : RcX) : (s.setRc p x).fresh = s.fresh := by simp only [State.setRc]
@[simp] theorem State.setRc_mod_ (s : State) (p : Nat) (x : RcX) : (s.setRc p x).mod_ = s.mod_ := by simp only [State.setRc]
@[simp] theorem State.setRc_flash (s : State) (p : Nat) (x : RcX) : (s.setRc p x).flash = s.flash := by simp only [State.setRc]
@[simp] theorem State.setRc_flip (s : State) (p : Nat) (x : RcX) : (s.setRc p x).flip = s.flip := by simp only [State.setRc]
@[simp] theorem State.setRc_semTick (s : State) (p : Nat) (x : RcX) : (s.setRc p x).semTick = s.semTick := by simp only [State.setRc]
@[simp] theorem State.setRc_semTie (s : State) (p : Nat) (x : RcX) : (s.setRc p x).semTie = s.semTie := by simp only [State.setRc]
@[simp] theorem State.setRc_slots (s : State) (p : Nat) (x : RcX) : (s.setRc p x).slots = s.slots := by simp only [State.setRc]
@[simp] theorem State.setRc_progs (s : State) (p : Nat) (x : RcX) : (s.setRc p x).progs = s.progs := by simp only [State.setRc]
@[simp] theorem State.setRc_ring (s : State) (p : Nat) (x : RcX) : (s.setRc p x).ring = s.ring := by simp only [State.setRc]
@[simp] theorem State.setRc_heldH (s : State) (p : Nat) (x : RcX) : (s.setRc p x).heldH = s.heldH := by simp only [State.setRc]
@[simp] theorem State.setRc_heldM (s : State) (p : Nat) (x : RcX) : (s.setRc p x).heldM = s.heldM := by simp only [State.setRc]
@[simp] theorem State.setRc_usedH (s : State) (p : Nat) (x : RcX) : (s.setRc p x).usedH = s.usedH := by simp only [State.setRc]
@[simp] theorem State.setRc_usedM (s : State) (p : Nat) (x : RcX) : (s.setRc p x).usedM = s.usedM := by simp only [State.setRc]
@[simp] theorem State.setRc_seqs (s : State) (p : Nat) (x : RcX) : (s.setRc p x).seqs = s.seqs := by simp only [State.setRc]
@[simp] theorem State.setRc_stks (s : State) (p : Nat) (x : RcX) : (s.setRc p x).stks = s.stks := by simp only [State.setRc]
@[simp] theorem State.setRc_reads (s : State) (p : Nat) (x : RcX) : (s.setRc p x).reads = s.reads := by simp only [State.setRc]
@[simp] theorem State.setRc_mats (s : State) (p : Nat) (x : RcX) : (s.setRc p x).mats = s.mats := by simp only [State.setRc]
@[simp] theorem State.setRc_nmus (s : State) (p : Nat) (x : RcX) : (s.setRc p x).nmus = s.nmus := by simp only [State.setRc]
@[simp] theorem State.setRc_seals (s : State) (p : Nat) (x : RcX) : (s.setRc p x).seals = s.seals := by simp only [State.setRc]
@[simp] theorem State.setRc_resets (s : State) (p : Nat) (x : RcX) : (s.setRc p x).resets = s.resets := by simp only [State.setRc]
@[simp] theorem State.setRc_bundles (s : State) (p : Nat) (x : RcX) : (s.setRc p x).bundles = s.bundles := by simp only [State.setRc]
@[simp] theorem State.setRc_lanes (s : State) (p : Nat) (x : RcX) : (s.setRc p x).lanes = s.lanes := by simp only [State.setRc]
@[simp] theorem State.setRc_ports (s : State) (p : Nat) (x : RcX) : (s.setRc p x).ports = s.ports := by simp only [State.setRc]
@[simp] theorem State.setRc_outst (s : State) (p : Nat) (x : RcX) : (s.setRc p x).outst = s.outst := by simp only [State.setRc]
@[simp] theorem State.setRc_plan (s : State) (p : Nat) (x : RcX) : (s.setRc p x).plan = s.plan := by simp only [State.setRc]
@[simp] theorem State.setRc_rings (s : State) (p : Nat) (x : RcX) : (s.setRc p x).rings = s.rings := by simp only [State.setRc]
@[simp] theorem State.setRc_engs (s : State) (p : Nat) (x : RcX) : (s.setRc p x).engs = s.engs := by simp only [State.setRc]
@[simp] theorem State.setRc_keys (s : State) (p : Nat) (x : RcX) : (s.setRc p x).keys = s.keys := by simp only [State.setRc]
@[simp] theorem State.setRc_jobKeys (s : State) (p : Nat) (x : RcX) : (s.setRc p x).jobKeys = s.jobKeys := by simp only [State.setRc]
@[simp] theorem State.setRc_decap (s : State) (p : Nat) (x : RcX) : (s.setRc p x).decap = s.decap := by simp only [State.setRc]
@[simp] theorem State.setRc_frtLo (s : State) (p : Nat) (x : RcX) : (s.setRc p x).frtLo = s.frtLo := by simp only [State.setRc]
@[simp] theorem State.setRc_noroute (s : State) (p : Nat) (x : RcX) : (s.setRc p x).noroute = s.noroute := by simp only [State.setRc]
@[simp] theorem State.setRc_dropTick (s : State) (p : Nat) (x : RcX) : (s.setRc p x).dropTick = s.dropTick := by simp only [State.setRc]
@[simp] theorem State.setRc_cores (s : State) (p : Nat) (x : RcX) : (s.setRc p x).cores = s.cores := by simp only [State.setRc]
@[simp] theorem State.setRc_binds (s : State) (p : Nat) (x : RcX) : (s.setRc p x).binds = s.binds := by simp only [State.setRc]
@[simp] theorem State.setRc_fences (s : State) (p : Nat) (x : RcX) : (s.setRc p x).fences = s.fences := by simp only [State.setRc]
@[simp] theorem State.setRc_parts (s : State) (p : Nat) (x : RcX) : (s.setRc p x).parts = s.parts := by simp only [State.setRc]
@[simp] theorem State.setRc_lineXs (s : State) (p : Nat) (x : RcX) : (s.setRc p x).lineXs = s.lineXs := by simp only [State.setRc]
@[simp] theorem State.setRc_lineTag (s : State) (p : Nat) (x : RcX) : (s.setRc p x).lineTag = s.lineTag := by simp only [State.setRc]
@[simp] theorem State.setRc_eps (s : State) (p : Nat) (x : RcX) : (s.setRc p x).eps = s.eps := by simp only [State.setRc]
@[simp] theorem State.setRc_skews (s : State) (p : Nat) (x : RcX) : (s.setRc p x).skews = s.skews := by simp only [State.setRc]
@[simp] theorem State.setRc_yoyoCur (s : State) (p : Nat) (x : RcX) : (s.setRc p x).yoyoCur = s.yoyoCur := by simp only [State.setRc]
@[simp] theorem State.setRc_yoyoDue (s : State) (p : Nat) (x : RcX) : (s.setRc p x).yoyoDue = s.yoyoDue := by simp only [State.setRc]
@[simp] theorem State.setRc_time (s : State) (p : Nat) (x : RcX) : (s.setRc p x).time = s.time := by simp only [State.setRc]
@[simp] theorem State.setRc_ftNow (s : State) (p : Nat) (x : RcX) : (s.setRc p x).ftNow = s.ftNow := by simp only [State.setRc]
@[simp] theorem State.setRc_ct (s : State) (p : Nat) (x : RcX) : (s.setRc p x).ct = s.ct := by simp only [State.setRc]
@[simp] theorem State.setRc_colls (s : State) (p : Nat) (x : RcX) : (s.setRc p x).colls = s.colls := by simp only [State.setRc]
@[simp] theorem State.setRc_taps (s : State) (p : Nat) (x : RcX) : (s.setRc p x).taps = s.taps := by simp only [State.setRc]
@[simp] theorem State.setRc_nmuDone (s : State) (p : Nat) (x : RcX) : (s.setRc p x).nmuDone = s.nmuDone := by simp only [State.setRc]
@[simp] theorem State.setRc_cks (s : State) (p : Nat) (x : RcX) : (s.setRc p x).cks = s.cks := by simp only [State.setRc]
@[simp] theorem State.setRc_mirs (s : State) (p : Nat) (x : RcX) : (s.setRc p x).mirs = s.mirs := by simp only [State.setRc]
@[simp] theorem State.setRc_dgs (s : State) (p : Nat) (x : RcX) : (s.setRc p x).dgs = s.dgs := by simp only [State.setRc]
@[simp] theorem State.setRc_fts (s : State) (p : Nat) (x : RcX) : (s.setRc p x).fts = s.fts := by simp only [State.setRc]
@[simp] theorem State.setRc_sigs (s : State) (p : Nat) (x : RcX) : (s.setRc p x).sigs = s.sigs := by simp only [State.setRc]
@[simp] theorem State.setRc_sigAcks (s : State) (p : Nat) (x : RcX) : (s.setRc p x).sigAcks = s.sigAcks := by simp only [State.setRc]
@[simp] theorem State.setRc_sealTick (s : State) (p : Nat) (x : RcX) : (s.setRc p x).sealTick = s.sealTick := by simp only [State.setRc]
@[simp] theorem State.setRc_faults (s : State) (p : Nat) (x : RcX) : (s.setRc p x).faults = s.faults := by simp only [State.setRc]
@[simp] theorem State.setRc_sec (s : State) (p : Nat) (x : RcX) : (s.setRc p x).sec = s.sec := by simp only [State.setRc]
@[simp] theorem State.setRc_mbox (s : State) (p : Nat) (x : RcX) : (s.setRc p x).mbox = s.mbox := by simp only [State.setRc]
@[simp] theorem State.setRc_mboxMem (s : State) (p : Nat) (x : RcX) : (s.setRc p x).mboxMem = s.mboxMem := by simp only [State.setRc]
@[simp] theorem State.setRc_procs (s : State) (p : Nat) (x : RcX) : (s.setRc p x).procs = s.procs := by simp only [State.setRc]
@[simp] theorem State.setRc_cc (s : State) (p : Nat) (x : RcX) : (s.setRc p x).cc = s.cc := by simp only [State.setRc]
@[simp] theorem State.setRc_upds (s : State) (p : Nat) (x : RcX) : (s.setRc p x).upds = s.upds := by simp only [State.setRc]
@[simp] theorem State.setRc_sess (s : State) (p : Nat) (x : RcX) : (s.setRc p x).sess = s.sess := by simp only [State.setRc]
@[simp] theorem State.setRc_mg (s : State) (p : Nat) (x : RcX) : (s.setRc p x).mg = s.mg := by simp only [State.setRc]
@[simp] theorem State.setRc_portCnt (s : State) (p : Nat) (x : RcX) : (s.setRc p x).portCnt = s.portCnt := by simp only [State.setRc]
@[simp] theorem State.setRc_reg (s : State) (p : Nat) (x : RcX) (key : Nat) : (s.setRc p x).reg key = s.reg key := by simp only [State.reg, State.setRc_regs]
@[simp] theorem State.setRc_fld (s : State) (p : Nat) (x : RcX) (pg : Page) (g : Fld) (bank : Nat) : (s.setRc p x).fld pg g bank = s.fld pg g bank := by simp only [State.fld, State.setRc_reg]

/-! ### State.modMir -/

@[simp] theorem State.modMir_regs (s : State) (p r : Nat) (f : MirX → MirX) : (s.modMir p r f).regs = s.regs := by simp only [State.modMir]
@[simp] theorem State.modMir_pending (s : State) (p r : Nat) (f : MirX → MirX) : (s.modMir p r f).pending = s.pending := by simp only [State.modMir]
@[simp] theorem State.modMir_shadow (s : State) (p r : Nat) (f : MirX → MirX) : (s.modMir p r f).shadow = s.shadow := by simp only [State.modMir]
@[simp] theorem State.modMir_mem (s : State) (p r : Nat) (f : MirX → MirX) : (s.modMir p r f).mem = s.mem := by simp only [State.modMir]
@[simp] theorem State.modMir_lines (s : State) (p r : Nat) (f : MirX → MirX) : (s.modMir p r f).lines = s.lines := by simp only [State.modMir]
@[simp] theorem State.modMir_out (s : State) (p r : Nat) (f : MirX → MirX) : (s.modMir p r f).out = s.out := by simp only [State.modMir]
@[simp] theorem State.modMir_fresh (s : State) (p r : Nat) (f : MirX → MirX) : (s.modMir p r f).fresh = s.fresh := by simp only [State.modMir]
@[simp] theorem State.modMir_mod_ (s : State) (p r : Nat) (f : MirX → MirX) : (s.modMir p r f).mod_ = s.mod_ := by simp only [State.modMir]
@[simp] theorem State.modMir_flash (s : State) (p r : Nat) (f : MirX → MirX) : (s.modMir p r f).flash = s.flash := by simp only [State.modMir]
@[simp] theorem State.modMir_flip (s : State) (p r : Nat) (f : MirX → MirX) : (s.modMir p r f).flip = s.flip := by simp only [State.modMir]
@[simp] theorem State.modMir_semTick (s : State) (p r : Nat) (f : MirX → MirX) : (s.modMir p r f).semTick = s.semTick := by simp only [State.modMir]
@[simp] theorem State.modMir_semTie (s : State) (p r : Nat) (f : MirX → MirX) : (s.modMir p r f).semTie = s.semTie := by simp only [State.modMir]
@[simp] theorem State.modMir_slots (s : State) (p r : Nat) (f : MirX → MirX) : (s.modMir p r f).slots = s.slots := by simp only [State.modMir]
@[simp] theorem State.modMir_progs (s : State) (p r : Nat) (f : MirX → MirX) : (s.modMir p r f).progs = s.progs := by simp only [State.modMir]
@[simp] theorem State.modMir_ring (s : State) (p r : Nat) (f : MirX → MirX) : (s.modMir p r f).ring = s.ring := by simp only [State.modMir]
@[simp] theorem State.modMir_heldH (s : State) (p r : Nat) (f : MirX → MirX) : (s.modMir p r f).heldH = s.heldH := by simp only [State.modMir]
@[simp] theorem State.modMir_heldM (s : State) (p r : Nat) (f : MirX → MirX) : (s.modMir p r f).heldM = s.heldM := by simp only [State.modMir]
@[simp] theorem State.modMir_usedH (s : State) (p r : Nat) (f : MirX → MirX) : (s.modMir p r f).usedH = s.usedH := by simp only [State.modMir]
@[simp] theorem State.modMir_usedM (s : State) (p r : Nat) (f : MirX → MirX) : (s.modMir p r f).usedM = s.usedM := by simp only [State.modMir]
@[simp] theorem State.modMir_seqs (s : State) (p r : Nat) (f : MirX → MirX) : (s.modMir p r f).seqs = s.seqs := by simp only [State.modMir]
@[simp] theorem State.modMir_stks (s : State) (p r : Nat) (f : MirX → MirX) : (s.modMir p r f).stks = s.stks := by simp only [State.modMir]
@[simp] theorem State.modMir_reads (s : State) (p r : Nat) (f : MirX → MirX) : (s.modMir p r f).reads = s.reads := by simp only [State.modMir]
@[simp] theorem State.modMir_mats (s : State) (p r : Nat) (f : MirX → MirX) : (s.modMir p r f).mats = s.mats := by simp only [State.modMir]
@[simp] theorem State.modMir_nmus (s : State) (p r : Nat) (f : MirX → MirX) : (s.modMir p r f).nmus = s.nmus := by simp only [State.modMir]
@[simp] theorem State.modMir_seals (s : State) (p r : Nat) (f : MirX → MirX) : (s.modMir p r f).seals = s.seals := by simp only [State.modMir]
@[simp] theorem State.modMir_resets (s : State) (p r : Nat) (f : MirX → MirX) : (s.modMir p r f).resets = s.resets := by simp only [State.modMir]
@[simp] theorem State.modMir_bundles (s : State) (p r : Nat) (f : MirX → MirX) : (s.modMir p r f).bundles = s.bundles := by simp only [State.modMir]
@[simp] theorem State.modMir_lanes (s : State) (p r : Nat) (f : MirX → MirX) : (s.modMir p r f).lanes = s.lanes := by simp only [State.modMir]
@[simp] theorem State.modMir_ports (s : State) (p r : Nat) (f : MirX → MirX) : (s.modMir p r f).ports = s.ports := by simp only [State.modMir]
@[simp] theorem State.modMir_outst (s : State) (p r : Nat) (f : MirX → MirX) : (s.modMir p r f).outst = s.outst := by simp only [State.modMir]
@[simp] theorem State.modMir_plan (s : State) (p r : Nat) (f : MirX → MirX) : (s.modMir p r f).plan = s.plan := by simp only [State.modMir]
@[simp] theorem State.modMir_rings (s : State) (p r : Nat) (f : MirX → MirX) : (s.modMir p r f).rings = s.rings := by simp only [State.modMir]
@[simp] theorem State.modMir_engs (s : State) (p r : Nat) (f : MirX → MirX) : (s.modMir p r f).engs = s.engs := by simp only [State.modMir]
@[simp] theorem State.modMir_keys (s : State) (p r : Nat) (f : MirX → MirX) : (s.modMir p r f).keys = s.keys := by simp only [State.modMir]
@[simp] theorem State.modMir_jobKeys (s : State) (p r : Nat) (f : MirX → MirX) : (s.modMir p r f).jobKeys = s.jobKeys := by simp only [State.modMir]
@[simp] theorem State.modMir_decap (s : State) (p r : Nat) (f : MirX → MirX) : (s.modMir p r f).decap = s.decap := by simp only [State.modMir]
@[simp] theorem State.modMir_frtLo (s : State) (p r : Nat) (f : MirX → MirX) : (s.modMir p r f).frtLo = s.frtLo := by simp only [State.modMir]
@[simp] theorem State.modMir_noroute (s : State) (p r : Nat) (f : MirX → MirX) : (s.modMir p r f).noroute = s.noroute := by simp only [State.modMir]
@[simp] theorem State.modMir_dropTick (s : State) (p r : Nat) (f : MirX → MirX) : (s.modMir p r f).dropTick = s.dropTick := by simp only [State.modMir]
@[simp] theorem State.modMir_cores (s : State) (p r : Nat) (f : MirX → MirX) : (s.modMir p r f).cores = s.cores := by simp only [State.modMir]
@[simp] theorem State.modMir_binds (s : State) (p r : Nat) (f : MirX → MirX) : (s.modMir p r f).binds = s.binds := by simp only [State.modMir]
@[simp] theorem State.modMir_fences (s : State) (p r : Nat) (f : MirX → MirX) : (s.modMir p r f).fences = s.fences := by simp only [State.modMir]
@[simp] theorem State.modMir_parts (s : State) (p r : Nat) (f : MirX → MirX) : (s.modMir p r f).parts = s.parts := by simp only [State.modMir]
@[simp] theorem State.modMir_lineXs (s : State) (p r : Nat) (f : MirX → MirX) : (s.modMir p r f).lineXs = s.lineXs := by simp only [State.modMir]
@[simp] theorem State.modMir_lineTag (s : State) (p r : Nat) (f : MirX → MirX) : (s.modMir p r f).lineTag = s.lineTag := by simp only [State.modMir]
@[simp] theorem State.modMir_eps (s : State) (p r : Nat) (f : MirX → MirX) : (s.modMir p r f).eps = s.eps := by simp only [State.modMir]
@[simp] theorem State.modMir_skews (s : State) (p r : Nat) (f : MirX → MirX) : (s.modMir p r f).skews = s.skews := by simp only [State.modMir]
@[simp] theorem State.modMir_yoyoCur (s : State) (p r : Nat) (f : MirX → MirX) : (s.modMir p r f).yoyoCur = s.yoyoCur := by simp only [State.modMir]
@[simp] theorem State.modMir_yoyoDue (s : State) (p r : Nat) (f : MirX → MirX) : (s.modMir p r f).yoyoDue = s.yoyoDue := by simp only [State.modMir]
@[simp] theorem State.modMir_time (s : State) (p r : Nat) (f : MirX → MirX) : (s.modMir p r f).time = s.time := by simp only [State.modMir]
@[simp] theorem State.modMir_ftNow (s : State) (p r : Nat) (f : MirX → MirX) : (s.modMir p r f).ftNow = s.ftNow := by simp only [State.modMir]
@[simp] theorem State.modMir_ct (s : State) (p r : Nat) (f : MirX → MirX) : (s.modMir p r f).ct = s.ct := by simp only [State.modMir]
@[simp] theorem State.modMir_colls (s : State) (p r : Nat) (f : MirX → MirX) : (s.modMir p r f).colls = s.colls := by simp only [State.modMir]
@[simp] theorem State.modMir_taps (s : State) (p r : Nat) (f : MirX → MirX) : (s.modMir p r f).taps = s.taps := by simp only [State.modMir]
@[simp] theorem State.modMir_nmuDone (s : State) (p r : Nat) (f : MirX → MirX) : (s.modMir p r f).nmuDone = s.nmuDone := by simp only [State.modMir]
@[simp] theorem State.modMir_cks (s : State) (p r : Nat) (f : MirX → MirX) : (s.modMir p r f).cks = s.cks := by simp only [State.modMir]
@[simp] theorem State.modMir_rcs (s : State) (p r : Nat) (f : MirX → MirX) : (s.modMir p r f).rcs = s.rcs := by simp only [State.modMir]
@[simp] theorem State.modMir_dgs (s : State) (p r : Nat) (f : MirX → MirX) : (s.modMir p r f).dgs = s.dgs := by simp only [State.modMir]
@[simp] theorem State.modMir_fts (s : State) (p r : Nat) (f : MirX → MirX) : (s.modMir p r f).fts = s.fts := by simp only [State.modMir]
@[simp] theorem State.modMir_sigs (s : State) (p r : Nat) (f : MirX → MirX) : (s.modMir p r f).sigs = s.sigs := by simp only [State.modMir]
@[simp] theorem State.modMir_sigAcks (s : State) (p r : Nat) (f : MirX → MirX) : (s.modMir p r f).sigAcks = s.sigAcks := by simp only [State.modMir]
@[simp] theorem State.modMir_sealTick (s : State) (p r : Nat) (f : MirX → MirX) : (s.modMir p r f).sealTick = s.sealTick := by simp only [State.modMir]
@[simp] theorem State.modMir_faults (s : State) (p r : Nat) (f : MirX → MirX) : (s.modMir p r f).faults = s.faults := by simp only [State.modMir]
@[simp] theorem State.modMir_sec (s : State) (p r : Nat) (f : MirX → MirX) : (s.modMir p r f).sec = s.sec := by simp only [State.modMir]
@[simp] theorem State.modMir_mbox (s : State) (p r : Nat) (f : MirX → MirX) : (s.modMir p r f).mbox = s.mbox := by simp only [State.modMir]
@[simp] theorem State.modMir_mboxMem (s : State) (p r : Nat) (f : MirX → MirX) : (s.modMir p r f).mboxMem = s.mboxMem := by simp only [State.modMir]
@[simp] theorem State.modMir_procs (s : State) (p r : Nat) (f : MirX → MirX) : (s.modMir p r f).procs = s.procs := by simp only [State.modMir]
@[simp] theorem State.modMir_cc (s : State) (p r : Nat) (f : MirX → MirX) : (s.modMir p r f).cc = s.cc := by simp only [State.modMir]
@[simp] theorem State.modMir_upds (s : State) (p r : Nat) (f : MirX → MirX) : (s.modMir p r f).upds = s.upds := by simp only [State.modMir]
@[simp] theorem State.modMir_sess (s : State) (p r : Nat) (f : MirX → MirX) : (s.modMir p r f).sess = s.sess := by simp only [State.modMir]
@[simp] theorem State.modMir_mg (s : State) (p r : Nat) (f : MirX → MirX) : (s.modMir p r f).mg = s.mg := by simp only [State.modMir]
@[simp] theorem State.modMir_portCnt (s : State) (p r : Nat) (f : MirX → MirX) : (s.modMir p r f).portCnt = s.portCnt := by simp only [State.modMir]
@[simp] theorem State.modMir_reg (s : State) (p r : Nat) (f : MirX → MirX) (key : Nat) : (s.modMir p r f).reg key = s.reg key := by simp only [State.reg, State.modMir_regs]
@[simp] theorem State.modMir_fld (s : State) (p r : Nat) (f : MirX → MirX) (pg : Page) (g : Fld) (bank : Nat) : (s.modMir p r f).fld pg g bank = s.fld pg g bank := by simp only [State.fld, State.modMir_reg]

/-! ### State.modDg -/

@[simp] theorem State.modDg_regs (s : State) (p i : Nat) (f : DgX → DgX) : (s.modDg p i f).regs = s.regs := by simp only [State.modDg]
@[simp] theorem State.modDg_pending (s : State) (p i : Nat) (f : DgX → DgX) : (s.modDg p i f).pending = s.pending := by simp only [State.modDg]
@[simp] theorem State.modDg_shadow (s : State) (p i : Nat) (f : DgX → DgX) : (s.modDg p i f).shadow = s.shadow := by simp only [State.modDg]
@[simp] theorem State.modDg_mem (s : State) (p i : Nat) (f : DgX → DgX) : (s.modDg p i f).mem = s.mem := by simp only [State.modDg]
@[simp] theorem State.modDg_lines (s : State) (p i : Nat) (f : DgX → DgX) : (s.modDg p i f).lines = s.lines := by simp only [State.modDg]
@[simp] theorem State.modDg_out (s : State) (p i : Nat) (f : DgX → DgX) : (s.modDg p i f).out = s.out := by simp only [State.modDg]
@[simp] theorem State.modDg_fresh (s : State) (p i : Nat) (f : DgX → DgX) : (s.modDg p i f).fresh = s.fresh := by simp only [State.modDg]
@[simp] theorem State.modDg_mod_ (s : State) (p i : Nat) (f : DgX → DgX) : (s.modDg p i f).mod_ = s.mod_ := by simp only [State.modDg]
@[simp] theorem State.modDg_flash (s : State) (p i : Nat) (f : DgX → DgX) : (s.modDg p i f).flash = s.flash := by simp only [State.modDg]
@[simp] theorem State.modDg_flip (s : State) (p i : Nat) (f : DgX → DgX) : (s.modDg p i f).flip = s.flip := by simp only [State.modDg]
@[simp] theorem State.modDg_semTick (s : State) (p i : Nat) (f : DgX → DgX) : (s.modDg p i f).semTick = s.semTick := by simp only [State.modDg]
@[simp] theorem State.modDg_semTie (s : State) (p i : Nat) (f : DgX → DgX) : (s.modDg p i f).semTie = s.semTie := by simp only [State.modDg]
@[simp] theorem State.modDg_slots (s : State) (p i : Nat) (f : DgX → DgX) : (s.modDg p i f).slots = s.slots := by simp only [State.modDg]
@[simp] theorem State.modDg_progs (s : State) (p i : Nat) (f : DgX → DgX) : (s.modDg p i f).progs = s.progs := by simp only [State.modDg]
@[simp] theorem State.modDg_ring (s : State) (p i : Nat) (f : DgX → DgX) : (s.modDg p i f).ring = s.ring := by simp only [State.modDg]
@[simp] theorem State.modDg_heldH (s : State) (p i : Nat) (f : DgX → DgX) : (s.modDg p i f).heldH = s.heldH := by simp only [State.modDg]
@[simp] theorem State.modDg_heldM (s : State) (p i : Nat) (f : DgX → DgX) : (s.modDg p i f).heldM = s.heldM := by simp only [State.modDg]
@[simp] theorem State.modDg_usedH (s : State) (p i : Nat) (f : DgX → DgX) : (s.modDg p i f).usedH = s.usedH := by simp only [State.modDg]
@[simp] theorem State.modDg_usedM (s : State) (p i : Nat) (f : DgX → DgX) : (s.modDg p i f).usedM = s.usedM := by simp only [State.modDg]
@[simp] theorem State.modDg_seqs (s : State) (p i : Nat) (f : DgX → DgX) : (s.modDg p i f).seqs = s.seqs := by simp only [State.modDg]
@[simp] theorem State.modDg_stks (s : State) (p i : Nat) (f : DgX → DgX) : (s.modDg p i f).stks = s.stks := by simp only [State.modDg]
@[simp] theorem State.modDg_reads (s : State) (p i : Nat) (f : DgX → DgX) : (s.modDg p i f).reads = s.reads := by simp only [State.modDg]
@[simp] theorem State.modDg_mats (s : State) (p i : Nat) (f : DgX → DgX) : (s.modDg p i f).mats = s.mats := by simp only [State.modDg]
@[simp] theorem State.modDg_nmus (s : State) (p i : Nat) (f : DgX → DgX) : (s.modDg p i f).nmus = s.nmus := by simp only [State.modDg]
@[simp] theorem State.modDg_seals (s : State) (p i : Nat) (f : DgX → DgX) : (s.modDg p i f).seals = s.seals := by simp only [State.modDg]
@[simp] theorem State.modDg_resets (s : State) (p i : Nat) (f : DgX → DgX) : (s.modDg p i f).resets = s.resets := by simp only [State.modDg]
@[simp] theorem State.modDg_bundles (s : State) (p i : Nat) (f : DgX → DgX) : (s.modDg p i f).bundles = s.bundles := by simp only [State.modDg]
@[simp] theorem State.modDg_lanes (s : State) (p i : Nat) (f : DgX → DgX) : (s.modDg p i f).lanes = s.lanes := by simp only [State.modDg]
@[simp] theorem State.modDg_ports (s : State) (p i : Nat) (f : DgX → DgX) : (s.modDg p i f).ports = s.ports := by simp only [State.modDg]
@[simp] theorem State.modDg_outst (s : State) (p i : Nat) (f : DgX → DgX) : (s.modDg p i f).outst = s.outst := by simp only [State.modDg]
@[simp] theorem State.modDg_plan (s : State) (p i : Nat) (f : DgX → DgX) : (s.modDg p i f).plan = s.plan := by simp only [State.modDg]
@[simp] theorem State.modDg_rings (s : State) (p i : Nat) (f : DgX → DgX) : (s.modDg p i f).rings = s.rings := by simp only [State.modDg]
@[simp] theorem State.modDg_engs (s : State) (p i : Nat) (f : DgX → DgX) : (s.modDg p i f).engs = s.engs := by simp only [State.modDg]
@[simp] theorem State.modDg_keys (s : State) (p i : Nat) (f : DgX → DgX) : (s.modDg p i f).keys = s.keys := by simp only [State.modDg]
@[simp] theorem State.modDg_jobKeys (s : State) (p i : Nat) (f : DgX → DgX) : (s.modDg p i f).jobKeys = s.jobKeys := by simp only [State.modDg]
@[simp] theorem State.modDg_decap (s : State) (p i : Nat) (f : DgX → DgX) : (s.modDg p i f).decap = s.decap := by simp only [State.modDg]
@[simp] theorem State.modDg_frtLo (s : State) (p i : Nat) (f : DgX → DgX) : (s.modDg p i f).frtLo = s.frtLo := by simp only [State.modDg]
@[simp] theorem State.modDg_noroute (s : State) (p i : Nat) (f : DgX → DgX) : (s.modDg p i f).noroute = s.noroute := by simp only [State.modDg]
@[simp] theorem State.modDg_dropTick (s : State) (p i : Nat) (f : DgX → DgX) : (s.modDg p i f).dropTick = s.dropTick := by simp only [State.modDg]
@[simp] theorem State.modDg_cores (s : State) (p i : Nat) (f : DgX → DgX) : (s.modDg p i f).cores = s.cores := by simp only [State.modDg]
@[simp] theorem State.modDg_binds (s : State) (p i : Nat) (f : DgX → DgX) : (s.modDg p i f).binds = s.binds := by simp only [State.modDg]
@[simp] theorem State.modDg_fences (s : State) (p i : Nat) (f : DgX → DgX) : (s.modDg p i f).fences = s.fences := by simp only [State.modDg]
@[simp] theorem State.modDg_parts (s : State) (p i : Nat) (f : DgX → DgX) : (s.modDg p i f).parts = s.parts := by simp only [State.modDg]
@[simp] theorem State.modDg_lineXs (s : State) (p i : Nat) (f : DgX → DgX) : (s.modDg p i f).lineXs = s.lineXs := by simp only [State.modDg]
@[simp] theorem State.modDg_lineTag (s : State) (p i : Nat) (f : DgX → DgX) : (s.modDg p i f).lineTag = s.lineTag := by simp only [State.modDg]
@[simp] theorem State.modDg_eps (s : State) (p i : Nat) (f : DgX → DgX) : (s.modDg p i f).eps = s.eps := by simp only [State.modDg]
@[simp] theorem State.modDg_skews (s : State) (p i : Nat) (f : DgX → DgX) : (s.modDg p i f).skews = s.skews := by simp only [State.modDg]
@[simp] theorem State.modDg_yoyoCur (s : State) (p i : Nat) (f : DgX → DgX) : (s.modDg p i f).yoyoCur = s.yoyoCur := by simp only [State.modDg]
@[simp] theorem State.modDg_yoyoDue (s : State) (p i : Nat) (f : DgX → DgX) : (s.modDg p i f).yoyoDue = s.yoyoDue := by simp only [State.modDg]
@[simp] theorem State.modDg_time (s : State) (p i : Nat) (f : DgX → DgX) : (s.modDg p i f).time = s.time := by simp only [State.modDg]
@[simp] theorem State.modDg_ftNow (s : State) (p i : Nat) (f : DgX → DgX) : (s.modDg p i f).ftNow = s.ftNow := by simp only [State.modDg]
@[simp] theorem State.modDg_ct (s : State) (p i : Nat) (f : DgX → DgX) : (s.modDg p i f).ct = s.ct := by simp only [State.modDg]
@[simp] theorem State.modDg_colls (s : State) (p i : Nat) (f : DgX → DgX) : (s.modDg p i f).colls = s.colls := by simp only [State.modDg]
@[simp] theorem State.modDg_taps (s : State) (p i : Nat) (f : DgX → DgX) : (s.modDg p i f).taps = s.taps := by simp only [State.modDg]
@[simp] theorem State.modDg_nmuDone (s : State) (p i : Nat) (f : DgX → DgX) : (s.modDg p i f).nmuDone = s.nmuDone := by simp only [State.modDg]
@[simp] theorem State.modDg_cks (s : State) (p i : Nat) (f : DgX → DgX) : (s.modDg p i f).cks = s.cks := by simp only [State.modDg]
@[simp] theorem State.modDg_rcs (s : State) (p i : Nat) (f : DgX → DgX) : (s.modDg p i f).rcs = s.rcs := by simp only [State.modDg]
@[simp] theorem State.modDg_mirs (s : State) (p i : Nat) (f : DgX → DgX) : (s.modDg p i f).mirs = s.mirs := by simp only [State.modDg]
@[simp] theorem State.modDg_fts (s : State) (p i : Nat) (f : DgX → DgX) : (s.modDg p i f).fts = s.fts := by simp only [State.modDg]
@[simp] theorem State.modDg_sigs (s : State) (p i : Nat) (f : DgX → DgX) : (s.modDg p i f).sigs = s.sigs := by simp only [State.modDg]
@[simp] theorem State.modDg_sigAcks (s : State) (p i : Nat) (f : DgX → DgX) : (s.modDg p i f).sigAcks = s.sigAcks := by simp only [State.modDg]
@[simp] theorem State.modDg_sealTick (s : State) (p i : Nat) (f : DgX → DgX) : (s.modDg p i f).sealTick = s.sealTick := by simp only [State.modDg]
@[simp] theorem State.modDg_faults (s : State) (p i : Nat) (f : DgX → DgX) : (s.modDg p i f).faults = s.faults := by simp only [State.modDg]
@[simp] theorem State.modDg_sec (s : State) (p i : Nat) (f : DgX → DgX) : (s.modDg p i f).sec = s.sec := by simp only [State.modDg]
@[simp] theorem State.modDg_mbox (s : State) (p i : Nat) (f : DgX → DgX) : (s.modDg p i f).mbox = s.mbox := by simp only [State.modDg]
@[simp] theorem State.modDg_mboxMem (s : State) (p i : Nat) (f : DgX → DgX) : (s.modDg p i f).mboxMem = s.mboxMem := by simp only [State.modDg]
@[simp] theorem State.modDg_procs (s : State) (p i : Nat) (f : DgX → DgX) : (s.modDg p i f).procs = s.procs := by simp only [State.modDg]
@[simp] theorem State.modDg_cc (s : State) (p i : Nat) (f : DgX → DgX) : (s.modDg p i f).cc = s.cc := by simp only [State.modDg]
@[simp] theorem State.modDg_upds (s : State) (p i : Nat) (f : DgX → DgX) : (s.modDg p i f).upds = s.upds := by simp only [State.modDg]
@[simp] theorem State.modDg_sess (s : State) (p i : Nat) (f : DgX → DgX) : (s.modDg p i f).sess = s.sess := by simp only [State.modDg]
@[simp] theorem State.modDg_mg (s : State) (p i : Nat) (f : DgX → DgX) : (s.modDg p i f).mg = s.mg := by simp only [State.modDg]
@[simp] theorem State.modDg_portCnt (s : State) (p i : Nat) (f : DgX → DgX) : (s.modDg p i f).portCnt = s.portCnt := by simp only [State.modDg]
@[simp] theorem State.modDg_reg (s : State) (p i : Nat) (f : DgX → DgX) (key : Nat) : (s.modDg p i f).reg key = s.reg key := by simp only [State.reg, State.modDg_regs]
@[simp] theorem State.modDg_fld (s : State) (p i : Nat) (f : DgX → DgX) (pg : Page) (g : Fld) (bank : Nat) : (s.modDg p i f).fld pg g bank = s.fld pg g bank := by simp only [State.fld, State.modDg_reg]

/-! ### State.modFt -/

@[simp] theorem State.modFt_regs (s : State) (cl p : Nat) (f : FtX → FtX) : (s.modFt cl p f).regs = s.regs := by simp only [State.modFt]
@[simp] theorem State.modFt_pending (s : State) (cl p : Nat) (f : FtX → FtX) : (s.modFt cl p f).pending = s.pending := by simp only [State.modFt]
@[simp] theorem State.modFt_shadow (s : State) (cl p : Nat) (f : FtX → FtX) : (s.modFt cl p f).shadow = s.shadow := by simp only [State.modFt]
@[simp] theorem State.modFt_mem (s : State) (cl p : Nat) (f : FtX → FtX) : (s.modFt cl p f).mem = s.mem := by simp only [State.modFt]
@[simp] theorem State.modFt_lines (s : State) (cl p : Nat) (f : FtX → FtX) : (s.modFt cl p f).lines = s.lines := by simp only [State.modFt]
@[simp] theorem State.modFt_out (s : State) (cl p : Nat) (f : FtX → FtX) : (s.modFt cl p f).out = s.out := by simp only [State.modFt]
@[simp] theorem State.modFt_fresh (s : State) (cl p : Nat) (f : FtX → FtX) : (s.modFt cl p f).fresh = s.fresh := by simp only [State.modFt]
@[simp] theorem State.modFt_mod_ (s : State) (cl p : Nat) (f : FtX → FtX) : (s.modFt cl p f).mod_ = s.mod_ := by simp only [State.modFt]
@[simp] theorem State.modFt_flash (s : State) (cl p : Nat) (f : FtX → FtX) : (s.modFt cl p f).flash = s.flash := by simp only [State.modFt]
@[simp] theorem State.modFt_flip (s : State) (cl p : Nat) (f : FtX → FtX) : (s.modFt cl p f).flip = s.flip := by simp only [State.modFt]
@[simp] theorem State.modFt_semTick (s : State) (cl p : Nat) (f : FtX → FtX) : (s.modFt cl p f).semTick = s.semTick := by simp only [State.modFt]
@[simp] theorem State.modFt_semTie (s : State) (cl p : Nat) (f : FtX → FtX) : (s.modFt cl p f).semTie = s.semTie := by simp only [State.modFt]
@[simp] theorem State.modFt_slots (s : State) (cl p : Nat) (f : FtX → FtX) : (s.modFt cl p f).slots = s.slots := by simp only [State.modFt]
@[simp] theorem State.modFt_progs (s : State) (cl p : Nat) (f : FtX → FtX) : (s.modFt cl p f).progs = s.progs := by simp only [State.modFt]
@[simp] theorem State.modFt_ring (s : State) (cl p : Nat) (f : FtX → FtX) : (s.modFt cl p f).ring = s.ring := by simp only [State.modFt]
@[simp] theorem State.modFt_heldH (s : State) (cl p : Nat) (f : FtX → FtX) : (s.modFt cl p f).heldH = s.heldH := by simp only [State.modFt]
@[simp] theorem State.modFt_heldM (s : State) (cl p : Nat) (f : FtX → FtX) : (s.modFt cl p f).heldM = s.heldM := by simp only [State.modFt]
@[simp] theorem State.modFt_usedH (s : State) (cl p : Nat) (f : FtX → FtX) : (s.modFt cl p f).usedH = s.usedH := by simp only [State.modFt]
@[simp] theorem State.modFt_usedM (s : State) (cl p : Nat) (f : FtX → FtX) : (s.modFt cl p f).usedM = s.usedM := by simp only [State.modFt]
@[simp] theorem State.modFt_seqs (s : State) (cl p : Nat) (f : FtX → FtX) : (s.modFt cl p f).seqs = s.seqs := by simp only [State.modFt]
@[simp] theorem State.modFt_stks (s : State) (cl p : Nat) (f : FtX → FtX) : (s.modFt cl p f).stks = s.stks := by simp only [State.modFt]
@[simp] theorem State.modFt_reads (s : State) (cl p : Nat) (f : FtX → FtX) : (s.modFt cl p f).reads = s.reads := by simp only [State.modFt]
@[simp] theorem State.modFt_mats (s : State) (cl p : Nat) (f : FtX → FtX) : (s.modFt cl p f).mats = s.mats := by simp only [State.modFt]
@[simp] theorem State.modFt_nmus (s : State) (cl p : Nat) (f : FtX → FtX) : (s.modFt cl p f).nmus = s.nmus := by simp only [State.modFt]
@[simp] theorem State.modFt_seals (s : State) (cl p : Nat) (f : FtX → FtX) : (s.modFt cl p f).seals = s.seals := by simp only [State.modFt]
@[simp] theorem State.modFt_resets (s : State) (cl p : Nat) (f : FtX → FtX) : (s.modFt cl p f).resets = s.resets := by simp only [State.modFt]
@[simp] theorem State.modFt_bundles (s : State) (cl p : Nat) (f : FtX → FtX) : (s.modFt cl p f).bundles = s.bundles := by simp only [State.modFt]
@[simp] theorem State.modFt_lanes (s : State) (cl p : Nat) (f : FtX → FtX) : (s.modFt cl p f).lanes = s.lanes := by simp only [State.modFt]
@[simp] theorem State.modFt_ports (s : State) (cl p : Nat) (f : FtX → FtX) : (s.modFt cl p f).ports = s.ports := by simp only [State.modFt]
@[simp] theorem State.modFt_outst (s : State) (cl p : Nat) (f : FtX → FtX) : (s.modFt cl p f).outst = s.outst := by simp only [State.modFt]
@[simp] theorem State.modFt_plan (s : State) (cl p : Nat) (f : FtX → FtX) : (s.modFt cl p f).plan = s.plan := by simp only [State.modFt]
@[simp] theorem State.modFt_rings (s : State) (cl p : Nat) (f : FtX → FtX) : (s.modFt cl p f).rings = s.rings := by simp only [State.modFt]
@[simp] theorem State.modFt_engs (s : State) (cl p : Nat) (f : FtX → FtX) : (s.modFt cl p f).engs = s.engs := by simp only [State.modFt]
@[simp] theorem State.modFt_keys (s : State) (cl p : Nat) (f : FtX → FtX) : (s.modFt cl p f).keys = s.keys := by simp only [State.modFt]
@[simp] theorem State.modFt_jobKeys (s : State) (cl p : Nat) (f : FtX → FtX) : (s.modFt cl p f).jobKeys = s.jobKeys := by simp only [State.modFt]
@[simp] theorem State.modFt_decap (s : State) (cl p : Nat) (f : FtX → FtX) : (s.modFt cl p f).decap = s.decap := by simp only [State.modFt]
@[simp] theorem State.modFt_frtLo (s : State) (cl p : Nat) (f : FtX → FtX) : (s.modFt cl p f).frtLo = s.frtLo := by simp only [State.modFt]
@[simp] theorem State.modFt_noroute (s : State) (cl p : Nat) (f : FtX → FtX) : (s.modFt cl p f).noroute = s.noroute := by simp only [State.modFt]
@[simp] theorem State.modFt_dropTick (s : State) (cl p : Nat) (f : FtX → FtX) : (s.modFt cl p f).dropTick = s.dropTick := by simp only [State.modFt]
@[simp] theorem State.modFt_cores (s : State) (cl p : Nat) (f : FtX → FtX) : (s.modFt cl p f).cores = s.cores := by simp only [State.modFt]
@[simp] theorem State.modFt_binds (s : State) (cl p : Nat) (f : FtX → FtX) : (s.modFt cl p f).binds = s.binds := by simp only [State.modFt]
@[simp] theorem State.modFt_fences (s : State) (cl p : Nat) (f : FtX → FtX) : (s.modFt cl p f).fences = s.fences := by simp only [State.modFt]
@[simp] theorem State.modFt_parts (s : State) (cl p : Nat) (f : FtX → FtX) : (s.modFt cl p f).parts = s.parts := by simp only [State.modFt]
@[simp] theorem State.modFt_lineXs (s : State) (cl p : Nat) (f : FtX → FtX) : (s.modFt cl p f).lineXs = s.lineXs := by simp only [State.modFt]
@[simp] theorem State.modFt_lineTag (s : State) (cl p : Nat) (f : FtX → FtX) : (s.modFt cl p f).lineTag = s.lineTag := by simp only [State.modFt]
@[simp] theorem State.modFt_eps (s : State) (cl p : Nat) (f : FtX → FtX) : (s.modFt cl p f).eps = s.eps := by simp only [State.modFt]
@[simp] theorem State.modFt_skews (s : State) (cl p : Nat) (f : FtX → FtX) : (s.modFt cl p f).skews = s.skews := by simp only [State.modFt]
@[simp] theorem State.modFt_yoyoCur (s : State) (cl p : Nat) (f : FtX → FtX) : (s.modFt cl p f).yoyoCur = s.yoyoCur := by simp only [State.modFt]
@[simp] theorem State.modFt_yoyoDue (s : State) (cl p : Nat) (f : FtX → FtX) : (s.modFt cl p f).yoyoDue = s.yoyoDue := by simp only [State.modFt]
@[simp] theorem State.modFt_time (s : State) (cl p : Nat) (f : FtX → FtX) : (s.modFt cl p f).time = s.time := by simp only [State.modFt]
@[simp] theorem State.modFt_ftNow (s : State) (cl p : Nat) (f : FtX → FtX) : (s.modFt cl p f).ftNow = s.ftNow := by simp only [State.modFt]
@[simp] theorem State.modFt_ct (s : State) (cl p : Nat) (f : FtX → FtX) : (s.modFt cl p f).ct = s.ct := by simp only [State.modFt]
@[simp] theorem State.modFt_colls (s : State) (cl p : Nat) (f : FtX → FtX) : (s.modFt cl p f).colls = s.colls := by simp only [State.modFt]
@[simp] theorem State.modFt_taps (s : State) (cl p : Nat) (f : FtX → FtX) : (s.modFt cl p f).taps = s.taps := by simp only [State.modFt]
@[simp] theorem State.modFt_nmuDone (s : State) (cl p : Nat) (f : FtX → FtX) : (s.modFt cl p f).nmuDone = s.nmuDone := by simp only [State.modFt]
@[simp] theorem State.modFt_cks (s : State) (cl p : Nat) (f : FtX → FtX) : (s.modFt cl p f).cks = s.cks := by simp only [State.modFt]
@[simp] theorem State.modFt_rcs (s : State) (cl p : Nat) (f : FtX → FtX) : (s.modFt cl p f).rcs = s.rcs := by simp only [State.modFt]
@[simp] theorem State.modFt_mirs (s : State) (cl p : Nat) (f : FtX → FtX) : (s.modFt cl p f).mirs = s.mirs := by simp only [State.modFt]
@[simp] theorem State.modFt_dgs (s : State) (cl p : Nat) (f : FtX → FtX) : (s.modFt cl p f).dgs = s.dgs := by simp only [State.modFt]
@[simp] theorem State.modFt_sigs (s : State) (cl p : Nat) (f : FtX → FtX) : (s.modFt cl p f).sigs = s.sigs := by simp only [State.modFt]
@[simp] theorem State.modFt_sigAcks (s : State) (cl p : Nat) (f : FtX → FtX) : (s.modFt cl p f).sigAcks = s.sigAcks := by simp only [State.modFt]
@[simp] theorem State.modFt_sealTick (s : State) (cl p : Nat) (f : FtX → FtX) : (s.modFt cl p f).sealTick = s.sealTick := by simp only [State.modFt]
@[simp] theorem State.modFt_faults (s : State) (cl p : Nat) (f : FtX → FtX) : (s.modFt cl p f).faults = s.faults := by simp only [State.modFt]
@[simp] theorem State.modFt_sec (s : State) (cl p : Nat) (f : FtX → FtX) : (s.modFt cl p f).sec = s.sec := by simp only [State.modFt]
@[simp] theorem State.modFt_mbox (s : State) (cl p : Nat) (f : FtX → FtX) : (s.modFt cl p f).mbox = s.mbox := by simp only [State.modFt]
@[simp] theorem State.modFt_mboxMem (s : State) (cl p : Nat) (f : FtX → FtX) : (s.modFt cl p f).mboxMem = s.mboxMem := by simp only [State.modFt]
@[simp] theorem State.modFt_procs (s : State) (cl p : Nat) (f : FtX → FtX) : (s.modFt cl p f).procs = s.procs := by simp only [State.modFt]
@[simp] theorem State.modFt_cc (s : State) (cl p : Nat) (f : FtX → FtX) : (s.modFt cl p f).cc = s.cc := by simp only [State.modFt]
@[simp] theorem State.modFt_upds (s : State) (cl p : Nat) (f : FtX → FtX) : (s.modFt cl p f).upds = s.upds := by simp only [State.modFt]
@[simp] theorem State.modFt_sess (s : State) (cl p : Nat) (f : FtX → FtX) : (s.modFt cl p f).sess = s.sess := by simp only [State.modFt]
@[simp] theorem State.modFt_mg (s : State) (cl p : Nat) (f : FtX → FtX) : (s.modFt cl p f).mg = s.mg := by simp only [State.modFt]
@[simp] theorem State.modFt_portCnt (s : State) (cl p : Nat) (f : FtX → FtX) : (s.modFt cl p f).portCnt = s.portCnt := by simp only [State.modFt]
@[simp] theorem State.modFt_reg (s : State) (cl p : Nat) (f : FtX → FtX) (key : Nat) : (s.modFt cl p f).reg key = s.reg key := by simp only [State.reg, State.modFt_regs]
@[simp] theorem State.modFt_fld (s : State) (cl p : Nat) (f : FtX → FtX) (pg : Page) (g : Fld) (bank : Nat) : (s.modFt cl p f).fld pg g bank = s.fld pg g bank := by simp only [State.fld, State.modFt_reg]

/-! ### State.modEng -/

@[simp] theorem State.modEng_regs (s : State) (e : Nat) (f : EngX → EngX) : (s.modEng e f).regs = s.regs := by simp only [State.modEng]
@[simp] theorem State.modEng_pending (s : State) (e : Nat) (f : EngX → EngX) : (s.modEng e f).pending = s.pending := by simp only [State.modEng]
@[simp] theorem State.modEng_shadow (s : State) (e : Nat) (f : EngX → EngX) : (s.modEng e f).shadow = s.shadow := by simp only [State.modEng]
@[simp] theorem State.modEng_mem (s : State) (e : Nat) (f : EngX → EngX) : (s.modEng e f).mem = s.mem := by simp only [State.modEng]
@[simp] theorem State.modEng_lines (s : State) (e : Nat) (f : EngX → EngX) : (s.modEng e f).lines = s.lines := by simp only [State.modEng]
@[simp] theorem State.modEng_out (s : State) (e : Nat) (f : EngX → EngX) : (s.modEng e f).out = s.out := by simp only [State.modEng]
@[simp] theorem State.modEng_fresh (s : State) (e : Nat) (f : EngX → EngX) : (s.modEng e f).fresh = s.fresh := by simp only [State.modEng]
@[simp] theorem State.modEng_mod_ (s : State) (e : Nat) (f : EngX → EngX) : (s.modEng e f).mod_ = s.mod_ := by simp only [State.modEng]
@[simp] theorem State.modEng_flash (s : State) (e : Nat) (f : EngX → EngX) : (s.modEng e f).flash = s.flash := by simp only [State.modEng]
@[simp] theorem State.modEng_flip (s : State) (e : Nat) (f : EngX → EngX) : (s.modEng e f).flip = s.flip := by simp only [State.modEng]
@[simp] theorem State.modEng_semTick (s : State) (e : Nat) (f : EngX → EngX) : (s.modEng e f).semTick = s.semTick := by simp only [State.modEng]
@[simp] theorem State.modEng_semTie (s : State) (e : Nat) (f : EngX → EngX) : (s.modEng e f).semTie = s.semTie := by simp only [State.modEng]
@[simp] theorem State.modEng_slots (s : State) (e : Nat) (f : EngX → EngX) : (s.modEng e f).slots = s.slots := by simp only [State.modEng]
@[simp] theorem State.modEng_progs (s : State) (e : Nat) (f : EngX → EngX) : (s.modEng e f).progs = s.progs := by simp only [State.modEng]
@[simp] theorem State.modEng_ring (s : State) (e : Nat) (f : EngX → EngX) : (s.modEng e f).ring = s.ring := by simp only [State.modEng]
@[simp] theorem State.modEng_heldH (s : State) (e : Nat) (f : EngX → EngX) : (s.modEng e f).heldH = s.heldH := by simp only [State.modEng]
@[simp] theorem State.modEng_heldM (s : State) (e : Nat) (f : EngX → EngX) : (s.modEng e f).heldM = s.heldM := by simp only [State.modEng]
@[simp] theorem State.modEng_usedH (s : State) (e : Nat) (f : EngX → EngX) : (s.modEng e f).usedH = s.usedH := by simp only [State.modEng]
@[simp] theorem State.modEng_usedM (s : State) (e : Nat) (f : EngX → EngX) : (s.modEng e f).usedM = s.usedM := by simp only [State.modEng]
@[simp] theorem State.modEng_seqs (s : State) (e : Nat) (f : EngX → EngX) : (s.modEng e f).seqs = s.seqs := by simp only [State.modEng]
@[simp] theorem State.modEng_stks (s : State) (e : Nat) (f : EngX → EngX) : (s.modEng e f).stks = s.stks := by simp only [State.modEng]
@[simp] theorem State.modEng_reads (s : State) (e : Nat) (f : EngX → EngX) : (s.modEng e f).reads = s.reads := by simp only [State.modEng]
@[simp] theorem State.modEng_mats (s : State) (e : Nat) (f : EngX → EngX) : (s.modEng e f).mats = s.mats := by simp only [State.modEng]
@[simp] theorem State.modEng_nmus (s : State) (e : Nat) (f : EngX → EngX) : (s.modEng e f).nmus = s.nmus := by simp only [State.modEng]
@[simp] theorem State.modEng_seals (s : State) (e : Nat) (f : EngX → EngX) : (s.modEng e f).seals = s.seals := by simp only [State.modEng]
@[simp] theorem State.modEng_resets (s : State) (e : Nat) (f : EngX → EngX) : (s.modEng e f).resets = s.resets := by simp only [State.modEng]
@[simp] theorem State.modEng_bundles (s : State) (e : Nat) (f : EngX → EngX) : (s.modEng e f).bundles = s.bundles := by simp only [State.modEng]
@[simp] theorem State.modEng_lanes (s : State) (e : Nat) (f : EngX → EngX) : (s.modEng e f).lanes = s.lanes := by simp only [State.modEng]
@[simp] theorem State.modEng_ports (s : State) (e : Nat) (f : EngX → EngX) : (s.modEng e f).ports = s.ports := by simp only [State.modEng]
@[simp] theorem State.modEng_outst (s : State) (e : Nat) (f : EngX → EngX) : (s.modEng e f).outst = s.outst := by simp only [State.modEng]
@[simp] theorem State.modEng_plan (s : State) (e : Nat) (f : EngX → EngX) : (s.modEng e f).plan = s.plan := by simp only [State.modEng]
@[simp] theorem State.modEng_rings (s : State) (e : Nat) (f : EngX → EngX) : (s.modEng e f).rings = s.rings := by simp only [State.modEng]
@[simp] theorem State.modEng_keys (s : State) (e : Nat) (f : EngX → EngX) : (s.modEng e f).keys = s.keys := by simp only [State.modEng]
@[simp] theorem State.modEng_jobKeys (s : State) (e : Nat) (f : EngX → EngX) : (s.modEng e f).jobKeys = s.jobKeys := by simp only [State.modEng]
@[simp] theorem State.modEng_decap (s : State) (e : Nat) (f : EngX → EngX) : (s.modEng e f).decap = s.decap := by simp only [State.modEng]
@[simp] theorem State.modEng_frtLo (s : State) (e : Nat) (f : EngX → EngX) : (s.modEng e f).frtLo = s.frtLo := by simp only [State.modEng]
@[simp] theorem State.modEng_noroute (s : State) (e : Nat) (f : EngX → EngX) : (s.modEng e f).noroute = s.noroute := by simp only [State.modEng]
@[simp] theorem State.modEng_dropTick (s : State) (e : Nat) (f : EngX → EngX) : (s.modEng e f).dropTick = s.dropTick := by simp only [State.modEng]
@[simp] theorem State.modEng_cores (s : State) (e : Nat) (f : EngX → EngX) : (s.modEng e f).cores = s.cores := by simp only [State.modEng]
@[simp] theorem State.modEng_binds (s : State) (e : Nat) (f : EngX → EngX) : (s.modEng e f).binds = s.binds := by simp only [State.modEng]
@[simp] theorem State.modEng_fences (s : State) (e : Nat) (f : EngX → EngX) : (s.modEng e f).fences = s.fences := by simp only [State.modEng]
@[simp] theorem State.modEng_parts (s : State) (e : Nat) (f : EngX → EngX) : (s.modEng e f).parts = s.parts := by simp only [State.modEng]
@[simp] theorem State.modEng_lineXs (s : State) (e : Nat) (f : EngX → EngX) : (s.modEng e f).lineXs = s.lineXs := by simp only [State.modEng]
@[simp] theorem State.modEng_lineTag (s : State) (e : Nat) (f : EngX → EngX) : (s.modEng e f).lineTag = s.lineTag := by simp only [State.modEng]
@[simp] theorem State.modEng_eps (s : State) (e : Nat) (f : EngX → EngX) : (s.modEng e f).eps = s.eps := by simp only [State.modEng]
@[simp] theorem State.modEng_skews (s : State) (e : Nat) (f : EngX → EngX) : (s.modEng e f).skews = s.skews := by simp only [State.modEng]
@[simp] theorem State.modEng_yoyoCur (s : State) (e : Nat) (f : EngX → EngX) : (s.modEng e f).yoyoCur = s.yoyoCur := by simp only [State.modEng]
@[simp] theorem State.modEng_yoyoDue (s : State) (e : Nat) (f : EngX → EngX) : (s.modEng e f).yoyoDue = s.yoyoDue := by simp only [State.modEng]
@[simp] theorem State.modEng_time (s : State) (e : Nat) (f : EngX → EngX) : (s.modEng e f).time = s.time := by simp only [State.modEng]
@[simp] theorem State.modEng_ftNow (s : State) (e : Nat) (f : EngX → EngX) : (s.modEng e f).ftNow = s.ftNow := by simp only [State.modEng]
@[simp] theorem State.modEng_ct (s : State) (e : Nat) (f : EngX → EngX) : (s.modEng e f).ct = s.ct := by simp only [State.modEng]
@[simp] theorem State.modEng_colls (s : State) (e : Nat) (f : EngX → EngX) : (s.modEng e f).colls = s.colls := by simp only [State.modEng]
@[simp] theorem State.modEng_taps (s : State) (e : Nat) (f : EngX → EngX) : (s.modEng e f).taps = s.taps := by simp only [State.modEng]
@[simp] theorem State.modEng_nmuDone (s : State) (e : Nat) (f : EngX → EngX) : (s.modEng e f).nmuDone = s.nmuDone := by simp only [State.modEng]
@[simp] theorem State.modEng_cks (s : State) (e : Nat) (f : EngX → EngX) : (s.modEng e f).cks = s.cks := by simp only [State.modEng]
@[simp] theorem State.modEng_rcs (s : State) (e : Nat) (f : EngX → EngX) : (s.modEng e f).rcs = s.rcs := by simp only [State.modEng]
@[simp] theorem State.modEng_mirs (s : State) (e : Nat) (f : EngX → EngX) : (s.modEng e f).mirs = s.mirs := by simp only [State.modEng]
@[simp] theorem State.modEng_dgs (s : State) (e : Nat) (f : EngX → EngX) : (s.modEng e f).dgs = s.dgs := by simp only [State.modEng]
@[simp] theorem State.modEng_fts (s : State) (e : Nat) (f : EngX → EngX) : (s.modEng e f).fts = s.fts := by simp only [State.modEng]
@[simp] theorem State.modEng_sigs (s : State) (e : Nat) (f : EngX → EngX) : (s.modEng e f).sigs = s.sigs := by simp only [State.modEng]
@[simp] theorem State.modEng_sigAcks (s : State) (e : Nat) (f : EngX → EngX) : (s.modEng e f).sigAcks = s.sigAcks := by simp only [State.modEng]
@[simp] theorem State.modEng_sealTick (s : State) (e : Nat) (f : EngX → EngX) : (s.modEng e f).sealTick = s.sealTick := by simp only [State.modEng]
@[simp] theorem State.modEng_faults (s : State) (e : Nat) (f : EngX → EngX) : (s.modEng e f).faults = s.faults := by simp only [State.modEng]
@[simp] theorem State.modEng_sec (s : State) (e : Nat) (f : EngX → EngX) : (s.modEng e f).sec = s.sec := by simp only [State.modEng]
@[simp] theorem State.modEng_mbox (s : State) (e : Nat) (f : EngX → EngX) : (s.modEng e f).mbox = s.mbox := by simp only [State.modEng]
@[simp] theorem State.modEng_mboxMem (s : State) (e : Nat) (f : EngX → EngX) : (s.modEng e f).mboxMem = s.mboxMem := by simp only [State.modEng]
@[simp] theorem State.modEng_procs (s : State) (e : Nat) (f : EngX → EngX) : (s.modEng e f).procs = s.procs := by simp only [State.modEng]
@[simp] theorem State.modEng_cc (s : State) (e : Nat) (f : EngX → EngX) : (s.modEng e f).cc = s.cc := by simp only [State.modEng]
@[simp] theorem State.modEng_upds (s : State) (e : Nat) (f : EngX → EngX) : (s.modEng e f).upds = s.upds := by simp only [State.modEng]
@[simp] theorem State.modEng_sess (s : State) (e : Nat) (f : EngX → EngX) : (s.modEng e f).sess = s.sess := by simp only [State.modEng]
@[simp] theorem State.modEng_mg (s : State) (e : Nat) (f : EngX → EngX) : (s.modEng e f).mg = s.mg := by simp only [State.modEng]
@[simp] theorem State.modEng_portCnt (s : State) (e : Nat) (f : EngX → EngX) : (s.modEng e f).portCnt = s.portCnt := by simp only [State.modEng]
@[simp] theorem State.modEng_reg (s : State) (e : Nat) (f : EngX → EngX) (key : Nat) : (s.modEng e f).reg key = s.reg key := by simp only [State.reg, State.modEng_regs]
@[simp] theorem State.modEng_fld (s : State) (e : Nat) (f : EngX → EngX) (pg : Page) (g : Fld) (bank : Nat) : (s.modEng e f).fld pg g bank = s.fld pg g bank := by simp only [State.fld, State.modEng_reg]

/-! ### State.setSession -/

@[simp] theorem State.setSession_regs (s : State) (n : Nat) (x : Sess) : (s.setSession n x).regs = s.regs := by simp only [State.setSession]
@[simp] theorem State.setSession_pending (s : State) (n : Nat) (x : Sess) : (s.setSession n x).pending = s.pending := by simp only [State.setSession]
@[simp] theorem State.setSession_shadow (s : State) (n : Nat) (x : Sess) : (s.setSession n x).shadow = s.shadow := by simp only [State.setSession]
@[simp] theorem State.setSession_mem (s : State) (n : Nat) (x : Sess) : (s.setSession n x).mem = s.mem := by simp only [State.setSession]
@[simp] theorem State.setSession_lines (s : State) (n : Nat) (x : Sess) : (s.setSession n x).lines = s.lines := by simp only [State.setSession]
@[simp] theorem State.setSession_out (s : State) (n : Nat) (x : Sess) : (s.setSession n x).out = s.out := by simp only [State.setSession]
@[simp] theorem State.setSession_fresh (s : State) (n : Nat) (x : Sess) : (s.setSession n x).fresh = s.fresh := by simp only [State.setSession]
@[simp] theorem State.setSession_mod_ (s : State) (n : Nat) (x : Sess) : (s.setSession n x).mod_ = s.mod_ := by simp only [State.setSession]
@[simp] theorem State.setSession_flash (s : State) (n : Nat) (x : Sess) : (s.setSession n x).flash = s.flash := by simp only [State.setSession]
@[simp] theorem State.setSession_flip (s : State) (n : Nat) (x : Sess) : (s.setSession n x).flip = s.flip := by simp only [State.setSession]
@[simp] theorem State.setSession_semTick (s : State) (n : Nat) (x : Sess) : (s.setSession n x).semTick = s.semTick := by simp only [State.setSession]
@[simp] theorem State.setSession_semTie (s : State) (n : Nat) (x : Sess) : (s.setSession n x).semTie = s.semTie := by simp only [State.setSession]
@[simp] theorem State.setSession_slots (s : State) (n : Nat) (x : Sess) : (s.setSession n x).slots = s.slots := by simp only [State.setSession]
@[simp] theorem State.setSession_progs (s : State) (n : Nat) (x : Sess) : (s.setSession n x).progs = s.progs := by simp only [State.setSession]
@[simp] theorem State.setSession_ring (s : State) (n : Nat) (x : Sess) : (s.setSession n x).ring = s.ring := by simp only [State.setSession]
@[simp] theorem State.setSession_heldH (s : State) (n : Nat) (x : Sess) : (s.setSession n x).heldH = s.heldH := by simp only [State.setSession]
@[simp] theorem State.setSession_heldM (s : State) (n : Nat) (x : Sess) : (s.setSession n x).heldM = s.heldM := by simp only [State.setSession]
@[simp] theorem State.setSession_usedH (s : State) (n : Nat) (x : Sess) : (s.setSession n x).usedH = s.usedH := by simp only [State.setSession]
@[simp] theorem State.setSession_usedM (s : State) (n : Nat) (x : Sess) : (s.setSession n x).usedM = s.usedM := by simp only [State.setSession]
@[simp] theorem State.setSession_seqs (s : State) (n : Nat) (x : Sess) : (s.setSession n x).seqs = s.seqs := by simp only [State.setSession]
@[simp] theorem State.setSession_stks (s : State) (n : Nat) (x : Sess) : (s.setSession n x).stks = s.stks := by simp only [State.setSession]
@[simp] theorem State.setSession_reads (s : State) (n : Nat) (x : Sess) : (s.setSession n x).reads = s.reads := by simp only [State.setSession]
@[simp] theorem State.setSession_mats (s : State) (n : Nat) (x : Sess) : (s.setSession n x).mats = s.mats := by simp only [State.setSession]
@[simp] theorem State.setSession_nmus (s : State) (n : Nat) (x : Sess) : (s.setSession n x).nmus = s.nmus := by simp only [State.setSession]
@[simp] theorem State.setSession_seals (s : State) (n : Nat) (x : Sess) : (s.setSession n x).seals = s.seals := by simp only [State.setSession]
@[simp] theorem State.setSession_resets (s : State) (n : Nat) (x : Sess) : (s.setSession n x).resets = s.resets := by simp only [State.setSession]
@[simp] theorem State.setSession_bundles (s : State) (n : Nat) (x : Sess) : (s.setSession n x).bundles = s.bundles := by simp only [State.setSession]
@[simp] theorem State.setSession_lanes (s : State) (n : Nat) (x : Sess) : (s.setSession n x).lanes = s.lanes := by simp only [State.setSession]
@[simp] theorem State.setSession_ports (s : State) (n : Nat) (x : Sess) : (s.setSession n x).ports = s.ports := by simp only [State.setSession]
@[simp] theorem State.setSession_outst (s : State) (n : Nat) (x : Sess) : (s.setSession n x).outst = s.outst := by simp only [State.setSession]
@[simp] theorem State.setSession_plan (s : State) (n : Nat) (x : Sess) : (s.setSession n x).plan = s.plan := by simp only [State.setSession]
@[simp] theorem State.setSession_rings (s : State) (n : Nat) (x : Sess) : (s.setSession n x).rings = s.rings := by simp only [State.setSession]
@[simp] theorem State.setSession_engs (s : State) (n : Nat) (x : Sess) : (s.setSession n x).engs = s.engs := by simp only [State.setSession]
@[simp] theorem State.setSession_keys (s : State) (n : Nat) (x : Sess) : (s.setSession n x).keys = s.keys := by simp only [State.setSession]
@[simp] theorem State.setSession_jobKeys (s : State) (n : Nat) (x : Sess) : (s.setSession n x).jobKeys = s.jobKeys := by simp only [State.setSession]
@[simp] theorem State.setSession_decap (s : State) (n : Nat) (x : Sess) : (s.setSession n x).decap = s.decap := by simp only [State.setSession]
@[simp] theorem State.setSession_frtLo (s : State) (n : Nat) (x : Sess) : (s.setSession n x).frtLo = s.frtLo := by simp only [State.setSession]
@[simp] theorem State.setSession_noroute (s : State) (n : Nat) (x : Sess) : (s.setSession n x).noroute = s.noroute := by simp only [State.setSession]
@[simp] theorem State.setSession_dropTick (s : State) (n : Nat) (x : Sess) : (s.setSession n x).dropTick = s.dropTick := by simp only [State.setSession]
@[simp] theorem State.setSession_cores (s : State) (n : Nat) (x : Sess) : (s.setSession n x).cores = s.cores := by simp only [State.setSession]
@[simp] theorem State.setSession_binds (s : State) (n : Nat) (x : Sess) : (s.setSession n x).binds = s.binds := by simp only [State.setSession]
@[simp] theorem State.setSession_fences (s : State) (n : Nat) (x : Sess) : (s.setSession n x).fences = s.fences := by simp only [State.setSession]
@[simp] theorem State.setSession_parts (s : State) (n : Nat) (x : Sess) : (s.setSession n x).parts = s.parts := by simp only [State.setSession]
@[simp] theorem State.setSession_lineXs (s : State) (n : Nat) (x : Sess) : (s.setSession n x).lineXs = s.lineXs := by simp only [State.setSession]
@[simp] theorem State.setSession_lineTag (s : State) (n : Nat) (x : Sess) : (s.setSession n x).lineTag = s.lineTag := by simp only [State.setSession]
@[simp] theorem State.setSession_eps (s : State) (n : Nat) (x : Sess) : (s.setSession n x).eps = s.eps := by simp only [State.setSession]
@[simp] theorem State.setSession_skews (s : State) (n : Nat) (x : Sess) : (s.setSession n x).skews = s.skews := by simp only [State.setSession]
@[simp] theorem State.setSession_yoyoCur (s : State) (n : Nat) (x : Sess) : (s.setSession n x).yoyoCur = s.yoyoCur := by simp only [State.setSession]
@[simp] theorem State.setSession_yoyoDue (s : State) (n : Nat) (x : Sess) : (s.setSession n x).yoyoDue = s.yoyoDue := by simp only [State.setSession]
@[simp] theorem State.setSession_time (s : State) (n : Nat) (x : Sess) : (s.setSession n x).time = s.time := by simp only [State.setSession]
@[simp] theorem State.setSession_ftNow (s : State) (n : Nat) (x : Sess) : (s.setSession n x).ftNow = s.ftNow := by simp only [State.setSession]
@[simp] theorem State.setSession_ct (s : State) (n : Nat) (x : Sess) : (s.setSession n x).ct = s.ct := by simp only [State.setSession]
@[simp] theorem State.setSession_colls (s : State) (n : Nat) (x : Sess) : (s.setSession n x).colls = s.colls := by simp only [State.setSession]
@[simp] theorem State.setSession_taps (s : State) (n : Nat) (x : Sess) : (s.setSession n x).taps = s.taps := by simp only [State.setSession]
@[simp] theorem State.setSession_nmuDone (s : State) (n : Nat) (x : Sess) : (s.setSession n x).nmuDone = s.nmuDone := by simp only [State.setSession]
@[simp] theorem State.setSession_cks (s : State) (n : Nat) (x : Sess) : (s.setSession n x).cks = s.cks := by simp only [State.setSession]
@[simp] theorem State.setSession_rcs (s : State) (n : Nat) (x : Sess) : (s.setSession n x).rcs = s.rcs := by simp only [State.setSession]
@[simp] theorem State.setSession_mirs (s : State) (n : Nat) (x : Sess) : (s.setSession n x).mirs = s.mirs := by simp only [State.setSession]
@[simp] theorem State.setSession_dgs (s : State) (n : Nat) (x : Sess) : (s.setSession n x).dgs = s.dgs := by simp only [State.setSession]
@[simp] theorem State.setSession_fts (s : State) (n : Nat) (x : Sess) : (s.setSession n x).fts = s.fts := by simp only [State.setSession]
@[simp] theorem State.setSession_sigs (s : State) (n : Nat) (x : Sess) : (s.setSession n x).sigs = s.sigs := by simp only [State.setSession]
@[simp] theorem State.setSession_sigAcks (s : State) (n : Nat) (x : Sess) : (s.setSession n x).sigAcks = s.sigAcks := by simp only [State.setSession]
@[simp] theorem State.setSession_sealTick (s : State) (n : Nat) (x : Sess) : (s.setSession n x).sealTick = s.sealTick := by simp only [State.setSession]
@[simp] theorem State.setSession_faults (s : State) (n : Nat) (x : Sess) : (s.setSession n x).faults = s.faults := by simp only [State.setSession]
@[simp] theorem State.setSession_sec (s : State) (n : Nat) (x : Sess) : (s.setSession n x).sec = s.sec := by simp only [State.setSession]
@[simp] theorem State.setSession_mbox (s : State) (n : Nat) (x : Sess) : (s.setSession n x).mbox = s.mbox := by simp only [State.setSession]
@[simp] theorem State.setSession_mboxMem (s : State) (n : Nat) (x : Sess) : (s.setSession n x).mboxMem = s.mboxMem := by simp only [State.setSession]
@[simp] theorem State.setSession_procs (s : State) (n : Nat) (x : Sess) : (s.setSession n x).procs = s.procs := by simp only [State.setSession]
@[simp] theorem State.setSession_cc (s : State) (n : Nat) (x : Sess) : (s.setSession n x).cc = s.cc := by simp only [State.setSession]
@[simp] theorem State.setSession_upds (s : State) (n : Nat) (x : Sess) : (s.setSession n x).upds = s.upds := by simp only [State.setSession]
@[simp] theorem State.setSession_mg (s : State) (n : Nat) (x : Sess) : (s.setSession n x).mg = s.mg := by simp only [State.setSession]
@[simp] theorem State.setSession_portCnt (s : State) (n : Nat) (x : Sess) : (s.setSession n x).portCnt = s.portCnt := by simp only [State.setSession]
@[simp] theorem State.setSession_reg (s : State) (n : Nat) (x : Sess) (key : Nat) : (s.setSession n x).reg key = s.reg key := by simp only [State.reg, State.setSession_regs]
@[simp] theorem State.setSession_fld (s : State) (n : Nat) (x : Sess) (pg : Page) (g : Fld) (bank : Nat) : (s.setSession n x).fld pg g bank = s.fld pg g bank := by simp only [State.fld, State.setSession_reg]

/-! ### State.modProc -/

@[simp] theorem State.modProc_regs (s : State) (k : Nat) (f : ProcX → ProcX) : (s.modProc k f).regs = s.regs := by simp only [State.modProc]
@[simp] theorem State.modProc_pending (s : State) (k : Nat) (f : ProcX → ProcX) : (s.modProc k f).pending = s.pending := by simp only [State.modProc]
@[simp] theorem State.modProc_shadow (s : State) (k : Nat) (f : ProcX → ProcX) : (s.modProc k f).shadow = s.shadow := by simp only [State.modProc]
@[simp] theorem State.modProc_mem (s : State) (k : Nat) (f : ProcX → ProcX) : (s.modProc k f).mem = s.mem := by simp only [State.modProc]
@[simp] theorem State.modProc_lines (s : State) (k : Nat) (f : ProcX → ProcX) : (s.modProc k f).lines = s.lines := by simp only [State.modProc]
@[simp] theorem State.modProc_out (s : State) (k : Nat) (f : ProcX → ProcX) : (s.modProc k f).out = s.out := by simp only [State.modProc]
@[simp] theorem State.modProc_fresh (s : State) (k : Nat) (f : ProcX → ProcX) : (s.modProc k f).fresh = s.fresh := by simp only [State.modProc]
@[simp] theorem State.modProc_mod_ (s : State) (k : Nat) (f : ProcX → ProcX) : (s.modProc k f).mod_ = s.mod_ := by simp only [State.modProc]
@[simp] theorem State.modProc_flash (s : State) (k : Nat) (f : ProcX → ProcX) : (s.modProc k f).flash = s.flash := by simp only [State.modProc]
@[simp] theorem State.modProc_flip (s : State) (k : Nat) (f : ProcX → ProcX) : (s.modProc k f).flip = s.flip := by simp only [State.modProc]
@[simp] theorem State.modProc_semTick (s : State) (k : Nat) (f : ProcX → ProcX) : (s.modProc k f).semTick = s.semTick := by simp only [State.modProc]
@[simp] theorem State.modProc_semTie (s : State) (k : Nat) (f : ProcX → ProcX) : (s.modProc k f).semTie = s.semTie := by simp only [State.modProc]
@[simp] theorem State.modProc_slots (s : State) (k : Nat) (f : ProcX → ProcX) : (s.modProc k f).slots = s.slots := by simp only [State.modProc]
@[simp] theorem State.modProc_progs (s : State) (k : Nat) (f : ProcX → ProcX) : (s.modProc k f).progs = s.progs := by simp only [State.modProc]
@[simp] theorem State.modProc_ring (s : State) (k : Nat) (f : ProcX → ProcX) : (s.modProc k f).ring = s.ring := by simp only [State.modProc]
@[simp] theorem State.modProc_heldH (s : State) (k : Nat) (f : ProcX → ProcX) : (s.modProc k f).heldH = s.heldH := by simp only [State.modProc]
@[simp] theorem State.modProc_heldM (s : State) (k : Nat) (f : ProcX → ProcX) : (s.modProc k f).heldM = s.heldM := by simp only [State.modProc]
@[simp] theorem State.modProc_usedH (s : State) (k : Nat) (f : ProcX → ProcX) : (s.modProc k f).usedH = s.usedH := by simp only [State.modProc]
@[simp] theorem State.modProc_usedM (s : State) (k : Nat) (f : ProcX → ProcX) : (s.modProc k f).usedM = s.usedM := by simp only [State.modProc]
@[simp] theorem State.modProc_seqs (s : State) (k : Nat) (f : ProcX → ProcX) : (s.modProc k f).seqs = s.seqs := by simp only [State.modProc]
@[simp] theorem State.modProc_stks (s : State) (k : Nat) (f : ProcX → ProcX) : (s.modProc k f).stks = s.stks := by simp only [State.modProc]
@[simp] theorem State.modProc_reads (s : State) (k : Nat) (f : ProcX → ProcX) : (s.modProc k f).reads = s.reads := by simp only [State.modProc]
@[simp] theorem State.modProc_mats (s : State) (k : Nat) (f : ProcX → ProcX) : (s.modProc k f).mats = s.mats := by simp only [State.modProc]
@[simp] theorem State.modProc_nmus (s : State) (k : Nat) (f : ProcX → ProcX) : (s.modProc k f).nmus = s.nmus := by simp only [State.modProc]
@[simp] theorem State.modProc_seals (s : State) (k : Nat) (f : ProcX → ProcX) : (s.modProc k f).seals = s.seals := by simp only [State.modProc]
@[simp] theorem State.modProc_resets (s : State) (k : Nat) (f : ProcX → ProcX) : (s.modProc k f).resets = s.resets := by simp only [State.modProc]
@[simp] theorem State.modProc_bundles (s : State) (k : Nat) (f : ProcX → ProcX) : (s.modProc k f).bundles = s.bundles := by simp only [State.modProc]
@[simp] theorem State.modProc_lanes (s : State) (k : Nat) (f : ProcX → ProcX) : (s.modProc k f).lanes = s.lanes := by simp only [State.modProc]
@[simp] theorem State.modProc_ports (s : State) (k : Nat) (f : ProcX → ProcX) : (s.modProc k f).ports = s.ports := by simp only [State.modProc]
@[simp] theorem State.modProc_outst (s : State) (k : Nat) (f : ProcX → ProcX) : (s.modProc k f).outst = s.outst := by simp only [State.modProc]
@[simp] theorem State.modProc_plan (s : State) (k : Nat) (f : ProcX → ProcX) : (s.modProc k f).plan = s.plan := by simp only [State.modProc]
@[simp] theorem State.modProc_rings (s : State) (k : Nat) (f : ProcX → ProcX) : (s.modProc k f).rings = s.rings := by simp only [State.modProc]
@[simp] theorem State.modProc_engs (s : State) (k : Nat) (f : ProcX → ProcX) : (s.modProc k f).engs = s.engs := by simp only [State.modProc]
@[simp] theorem State.modProc_keys (s : State) (k : Nat) (f : ProcX → ProcX) : (s.modProc k f).keys = s.keys := by simp only [State.modProc]
@[simp] theorem State.modProc_jobKeys (s : State) (k : Nat) (f : ProcX → ProcX) : (s.modProc k f).jobKeys = s.jobKeys := by simp only [State.modProc]
@[simp] theorem State.modProc_decap (s : State) (k : Nat) (f : ProcX → ProcX) : (s.modProc k f).decap = s.decap := by simp only [State.modProc]
@[simp] theorem State.modProc_frtLo (s : State) (k : Nat) (f : ProcX → ProcX) : (s.modProc k f).frtLo = s.frtLo := by simp only [State.modProc]
@[simp] theorem State.modProc_noroute (s : State) (k : Nat) (f : ProcX → ProcX) : (s.modProc k f).noroute = s.noroute := by simp only [State.modProc]
@[simp] theorem State.modProc_dropTick (s : State) (k : Nat) (f : ProcX → ProcX) : (s.modProc k f).dropTick = s.dropTick := by simp only [State.modProc]
@[simp] theorem State.modProc_cores (s : State) (k : Nat) (f : ProcX → ProcX) : (s.modProc k f).cores = s.cores := by simp only [State.modProc]
@[simp] theorem State.modProc_binds (s : State) (k : Nat) (f : ProcX → ProcX) : (s.modProc k f).binds = s.binds := by simp only [State.modProc]
@[simp] theorem State.modProc_fences (s : State) (k : Nat) (f : ProcX → ProcX) : (s.modProc k f).fences = s.fences := by simp only [State.modProc]
@[simp] theorem State.modProc_parts (s : State) (k : Nat) (f : ProcX → ProcX) : (s.modProc k f).parts = s.parts := by simp only [State.modProc]
@[simp] theorem State.modProc_lineXs (s : State) (k : Nat) (f : ProcX → ProcX) : (s.modProc k f).lineXs = s.lineXs := by simp only [State.modProc]
@[simp] theorem State.modProc_lineTag (s : State) (k : Nat) (f : ProcX → ProcX) : (s.modProc k f).lineTag = s.lineTag := by simp only [State.modProc]
@[simp] theorem State.modProc_eps (s : State) (k : Nat) (f : ProcX → ProcX) : (s.modProc k f).eps = s.eps := by simp only [State.modProc]
@[simp] theorem State.modProc_skews (s : State) (k : Nat) (f : ProcX → ProcX) : (s.modProc k f).skews = s.skews := by simp only [State.modProc]
@[simp] theorem State.modProc_yoyoCur (s : State) (k : Nat) (f : ProcX → ProcX) : (s.modProc k f).yoyoCur = s.yoyoCur := by simp only [State.modProc]
@[simp] theorem State.modProc_yoyoDue (s : State) (k : Nat) (f : ProcX → ProcX) : (s.modProc k f).yoyoDue = s.yoyoDue := by simp only [State.modProc]
@[simp] theorem State.modProc_time (s : State) (k : Nat) (f : ProcX → ProcX) : (s.modProc k f).time = s.time := by simp only [State.modProc]
@[simp] theorem State.modProc_ftNow (s : State) (k : Nat) (f : ProcX → ProcX) : (s.modProc k f).ftNow = s.ftNow := by simp only [State.modProc]
@[simp] theorem State.modProc_ct (s : State) (k : Nat) (f : ProcX → ProcX) : (s.modProc k f).ct = s.ct := by simp only [State.modProc]
@[simp] theorem State.modProc_colls (s : State) (k : Nat) (f : ProcX → ProcX) : (s.modProc k f).colls = s.colls := by simp only [State.modProc]
@[simp] theorem State.modProc_taps (s : State) (k : Nat) (f : ProcX → ProcX) : (s.modProc k f).taps = s.taps := by simp only [State.modProc]
@[simp] theorem State.modProc_nmuDone (s : State) (k : Nat) (f : ProcX → ProcX) : (s.modProc k f).nmuDone = s.nmuDone := by simp only [State.modProc]
@[simp] theorem State.modProc_cks (s : State) (k : Nat) (f : ProcX → ProcX) : (s.modProc k f).cks = s.cks := by simp only [State.modProc]
@[simp] theorem State.modProc_rcs (s : State) (k : Nat) (f : ProcX → ProcX) : (s.modProc k f).rcs = s.rcs := by simp only [State.modProc]
@[simp] theorem State.modProc_mirs (s : State) (k : Nat) (f : ProcX → ProcX) : (s.modProc k f).mirs = s.mirs := by simp only [State.modProc]
@[simp] theorem State.modProc_dgs (s : State) (k : Nat) (f : ProcX → ProcX) : (s.modProc k f).dgs = s.dgs := by simp only [State.modProc]
@[simp] theorem State.modProc_fts (s : State) (k : Nat) (f : ProcX → ProcX) : (s.modProc k f).fts = s.fts := by simp only [State.modProc]
@[simp] theorem State.modProc_sigs (s : State) (k : Nat) (f : ProcX → ProcX) : (s.modProc k f).sigs = s.sigs := by simp only [State.modProc]
@[simp] theorem State.modProc_sigAcks (s : State) (k : Nat) (f : ProcX → ProcX) : (s.modProc k f).sigAcks = s.sigAcks := by simp only [State.modProc]
@[simp] theorem State.modProc_sealTick (s : State) (k : Nat) (f : ProcX → ProcX) : (s.modProc k f).sealTick = s.sealTick := by simp only [State.modProc]
@[simp] theorem State.modProc_faults (s : State) (k : Nat) (f : ProcX → ProcX) : (s.modProc k f).faults = s.faults := by simp only [State.modProc]
@[simp] theorem State.modProc_sec (s : State) (k : Nat) (f : ProcX → ProcX) : (s.modProc k f).sec = s.sec := by simp only [State.modProc]
@[simp] theorem State.modProc_mbox (s : State) (k : Nat) (f : ProcX → ProcX) : (s.modProc k f).mbox = s.mbox := by simp only [State.modProc]
@[simp] theorem State.modProc_mboxMem (s : State) (k : Nat) (f : ProcX → ProcX) : (s.modProc k f).mboxMem = s.mboxMem := by simp only [State.modProc]
@[simp] theorem State.modProc_cc (s : State) (k : Nat) (f : ProcX → ProcX) : (s.modProc k f).cc = s.cc := by simp only [State.modProc]
@[simp] theorem State.modProc_upds (s : State) (k : Nat) (f : ProcX → ProcX) : (s.modProc k f).upds = s.upds := by simp only [State.modProc]
@[simp] theorem State.modProc_sess (s : State) (k : Nat) (f : ProcX → ProcX) : (s.modProc k f).sess = s.sess := by simp only [State.modProc]
@[simp] theorem State.modProc_mg (s : State) (k : Nat) (f : ProcX → ProcX) : (s.modProc k f).mg = s.mg := by simp only [State.modProc]
@[simp] theorem State.modProc_portCnt (s : State) (k : Nat) (f : ProcX → ProcX) : (s.modProc k f).portCnt = s.portCnt := by simp only [State.modProc]
@[simp] theorem State.modProc_reg (s : State) (k : Nat) (f : ProcX → ProcX) (key : Nat) : (s.modProc k f).reg key = s.reg key := by simp only [State.reg, State.modProc_regs]
@[simp] theorem State.modProc_fld (s : State) (k : Nat) (f : ProcX → ProcX) (pg : Page) (g : Fld) (bank : Nat) : (s.modProc k f).fld pg g bank = s.fld pg g bank := by simp only [State.fld, State.modProc_reg]

end Sys2Proof.Machine
end

