-- ==== Sys2Proof/Tests/Slice0.lean ====
section
/-! SUPPORT. Tests of the model: well-formedness, and states and operands that meet the hypotheses of the statements. -/
namespace Sys2Proof.Tests
open Sys2Proof Sys2Proof.Machine

/-! ### Well-formedness: an ill-formed term for each check, and well-formed ones at the edges of the ranges -/

theorem test_wf_takes_the_edges_of_the_ranges :
    Instr.wf (.bindCopyDone 1 3 0) = true ∧ Instr.wf (.nop 63 {}) = true ∧ Instr.wf (.edeskRead 11 0 .host {}) = true
      ∧ Instr.wf (.flitIdle 0 8 {} {}) = true ∧ Instr.wf (.flitIdle 31 7 {} {}) = true ∧ Instr.wf (.flitIdle 8 27 {} {}) = true
      ∧ Instr.wf (.lineUnconfirmed 8 31) = true ∧ Instr.wf (.fwWatchdog 16) = true ∧ Instr.wf (.resetDone 5 0 0) = true := by decide +kernel

theorem test_wf_refuses_cores_clusters_and_stacks :
    Instr.wf (.bindCopyDone 2 0 0) = false ∧ Instr.wf (.bindCopyDone 0 4 0) = false ∧ Instr.wf (.ftDue 0 0 9) = false
      ∧ Instr.wf (.engineWatchdog 0 0 0 4) = false ∧ Instr.wf (.contextWatchdog 64) = false ∧ Instr.wf (.nmuCmdStart 12) = false
      ∧ Instr.wf (.rcrEn .host 0 8 0) = false ∧ Instr.wf (.thermalTrip 22 0) = false ∧ Instr.wf (.fwWatchdog 17) = false
      ∧ Instr.wf (.resetDone 0 0 0) = false ∧ Instr.wf (.resetDone 6 0 0) = false ∧ Instr.wf (.resetEscalate 1 65536) = false := by decide +kernel

theorem test_wf_refuses_ports_lanes_and_rings :
    Instr.wf (.retrain .host 32) = false ∧ Instr.wf (.laneLos 8 8) = false ∧ Instr.wf (.laneLos 0 9) = false
      ∧ Instr.wf (.flitIdle 0 16 {} {}) = false ∧ Instr.wf (.flitIdle 8 28 {} {}) = false ∧ Instr.wf (.ringRxLos 7 0) = false
      ∧ Instr.wf (.ringRxLos 8 12) = false ∧ Instr.wf (.heaterFault 8 0 2) = false ∧ Instr.wf (.reacqTestStart 7) = false
      ∧ Instr.wf (.lineReqTimeout 8 0) = false ∧ Instr.wf (.lineReqTimeout 8 32) = false ∧ Instr.wf (.retryTimeout 64) = false
      ∧ Instr.wf (.calNow .host 3) = false ∧ Instr.wf (.lasCmdNow .host 0 2) = false ∧ Instr.wf (.monReadingDone 0 65536) = false := by decide +kernel

theorem test_wf_refuses_headers :
    Instr.wf (.nop 0 { subop := 256 }) = false ∧ Instr.wf (.nop 0 { context := 8192 }) = false ∧ Instr.wf (.nop 0 { rsvd := 2 ^ 31 }) = false
      ∧ Instr.wf (.flitIdle 0 0 {} { part := 4096 }) = false ∧ Instr.wf (.flitIdle 0 0 {} { cls := 4 }) = false
      ∧ Instr.wf (.flitIdle 0 0 {} { hops := 64 }) = false ∧ Instr.wf (.flitWr 0 0 {} {} 0 (List.replicate 217 0)) = false
      ∧ Instr.wf (.flitCredit 0 0 {} {} []) = false ∧ Instr.wf (.flitSig 0 0 {} {} (2 ^ 64) 0 false) = false
      ∧ Instr.wf (.getHealth .host 32 {}) = false ∧ Instr.wf (.getHealth .host 0 { target := 17 }) = false
      ∧ Instr.wf (.getHealth .host 0 { vector := 2048 }) = false ∧ Instr.wf (.sessionOpen { port := 2 }) = false
      ∧ Instr.wf (.sessionOpen { session := 9 }) = false := by decide +kernel

theorem test_wf_refuses_registers_and_windows :
    Instr.wf (.registerWrite .host 0 2 0) = false ∧ Instr.wf (.registerWrite .host 67108864 4 0) = false
      ∧ Instr.wf (.semAcquire 4 [.host]) = false ∧ Instr.wf (.semAcquire 0 []) = false ∧ Instr.wf (.semRelease 67108864 .host) = false
      ∧ Instr.wf (.ctrClr .host 0 4096 0) = false ∧ Instr.wf (.bar2Read (2 ^ 36) 1) = false
      ∧ Instr.wf (.pcieLinkUp 3 16 false) = false ∧ Instr.wf (.pcieLinkUp 6 2 false) = false
      ∧ Instr.wf (.launchEmpty .host 4096) = false ∧ Instr.wf (.launchEntryWrite .host 0 0 false 0) = false
      ∧ Instr.wf (.launchEntryWrite .host 0 12 true 0) = false ∧ Instr.wf (.mgmtRead {} 4 0 0) = false
      ∧ Instr.wf (.mgmtWrite {} 0 0 (List.replicate 1041 0)) = false ∧ Instr.wf (.sessionIdleTimeout 0) = false
      ∧ Instr.wf (.seqGapTimeout 9) = false := by decide +kernel

theorem test_wf_refuses_the_rest :
    Instr.wf (.edeskLineWrite 0 [] .host) = false ∧ Instr.wf (.edeskPartialWrite 0 [] [{}, {}, {}] .host) = false
      ∧ Instr.wf (.runTickReached 4096) = false ∧ Instr.wf (.teardownAck 8192 0) = false ∧ Instr.wf (.fwHandover 5) = false
      ∧ Instr.wf (.ckUnit 0 0 0 2 0 0 false false) = false ∧ Instr.wf (.buddyHello 0 0 64 0 0 0 0) = false
      ∧ Instr.wf (.verdictTimeout 0 8) = false ∧ Instr.wf (.loss .host 65536) = false ∧ Instr.wf (.freeze .host 2) = false
      ∧ Instr.wf (.triggerFire 4) = false ∧ Instr.wf (.ppsInEdge false 655360000) = false ∧ Instr.wf (.ptpDelayReq 2 0) = false
      ∧ Instr.wf (.collTimeout (2 ^ 32)) = false ∧ Instr.wf (.attRequest .host 0 {} 0 false []) = false
      ∧ Instr.wf (.lineClaimNak 0 0 32 0) = false ∧ Instr.wf (.inputVoltageExcursion (2 ^ 32)) = false
      ∧ Instr.wf (.tickEdge { temps := [(22, 0)] }) = false := by decide +kernel

/-! ### States and operands that meet the hypotheses of the statements -/

set_option Elab.async false
set_option linter.unusedVariables false

/-- The module with power, and a value in a field or a register of a page. -/
def up : State := { mod_ := { stby := true, uncore := true, mem := true, core0 := true, core1 := true } }
def own (pg : Page) (s : State) : State := (s.setFld pg Hd.PAGE_SEM_HELD 1).setFld pg Hd.PAGE_SEM_OWNER 1

/-- Logical core 0 runs a program of partition 1 with context 1 in launch slot 0, with some changes to its sequencer. -/
def runWith (f : Seq → Seq) : State :=
  { up with seqs := [(0, f { st := 1, pc := 0x100000000100 })], progs := [(0, { active := true, ctx := 1, gen := 1, part := 1, cores := [0] })] }
def run : State := runWith id
def dsc : Desc := { context := 1 }

/-- What a check answers where it passes. -/
def okOr {ε α : Type} (x : Except ε α) (d : α) : α := match x with | .ok a => a | .error _ => d

def passes {ε α : Type} : Except ε α → Bool | .ok _ => true | .error _ => false
theorem ok_okOr {ε α : Type} {x : Except ε α} {d : α} (h : passes x = true) : x = .ok (okOr x d) := by
  cases x with
  | ok a => rfl
  | error e => cases h

/-- Bytes in tile and cluster memory, and a record of a tensor with extents e0 and e1 and a dense axis 1. -/
def poke (o : Nat) (b : List Byte) (s : State) : State :=
  { s with mem := (b.zipIdx.filter (fun p => p.1 != 0)).foldl (fun m p => smIns m (sramKey (o + p.2)) p.1) s.mem }
def tensor (base e0 e1 s1 : Nat) : List Byte :=
  bytesLE 8 base ++ bytesLE 8 (e0 + 2 ^ 20 * e1 + 2 ^ 40 + 2 ^ 56) ++ bytesLE 8 0 ++ bytesLE 8 s1
def tile (o : Nat) : Nat := 2 ^ 44 + o
def ref (ri fmt : Nat) : DWord := BitVec.ofNat 64 (ri + 4096 + 65536 * fmt)

/-- Partition 1 runs and its rank 5 is chip 7. -/
def peers (s : State) : State :=
  ((s.setFld .part Par.PART_STATUS_STATE 3 1).setFld .rt (Rt.RNK_SLOT_PART.sub 12 0) 4097 0).setFld .rt Rt.RNK_DATA 65543 5

/-- Fields of a page, at a register bank. -/
def putAt (pg : Page) (b : Nat) (l : List (Fld × Nat)) (s : State) : State := l.foldl (fun s e => s.setFld pg e.1 e.2 b) s
def put (pg : Page) (l : List (Fld × Nat)) (s : State) : State := putAt pg 0 l s
def now (t : Nat) (s : State) : State := put .time [(Tim.TICK_LO, t)] s
/-- Lane 0 of copper port 0 serves bundle 0. -/
def wired : State := putAt (.lan 0) 0 [(Lan.LANE_STATE_STATE, 2)] up

/-- The next state that a step answers, where it answers one. -/
def isNext (o : Host.Outcome State Fault Refusal) : Bool := match o with | .next _ => true | _ => false
def nextOf (o : Host.Outcome State Fault Refusal) : State := match o with | .next t => t | _ => State.reset
theorem next_nextOf {o : Host.Outcome State Fault Refusal} (h : isNext o = true) : o = .next (nextOf o) := by
  cases o with
  | next t => rfl
  | fault _ => cases h
  | refused _ => cases h

def errOr {α : Type} (x : Except DF α) : DF := match x with | .error e => e | .ok _ => { code := 0 }
theorem error_errOr {α : Type} {x : Except DF α} (h : passes x = false) : x = .error (errOr x) := by
  cases x with
  | ok a => cases h
  | error e => rfl

def w1_2_d : Desc := { dsc with opcode := 2, subop := 8 }

/-- The hypotheses of `Obligations.NopDoesNothingAndSetWrites`, clause by clause. -/
theorem test_nop_does_nothing_and_set_writes_met :
    (∃ (s : State) (lc : Nat) (d : Desc), (s.CtlReady lc d {} false 0)) ∧
    (∃ (s : State) (lc : Nat) (d : Desc) (v : _), (s.seqReg lc (d.imm0.toNat % 256) = some v) ∧
        (s.CtlReady lc d { code := 0x02, m0 := 255, m1 := 2 ^ 64 - 1, m2 := 2 ^ 64 - 1 } false 0)) ∧
    (∃ (s : State) (lc : Nat) (d : Desc), ∃ c, (c ∈ [Instr.nop lc d, .setReg lc d]) ∧
        ((opcodeSubs d.opcode = none ∨ (c = .setReg lc d ∧ d.opcode = 2 ∧ d.subop ∉ [1, 2, 3, 4, 5, 6, 7, 17, 18]))) ∧
        ((s.seq lc).canIssue d.ser 0 = true) ∧ ((∀ i ∈ (s.seq lc).infl, i.dst = [] ∧ i.src = [])) ∧ (s.mustAwait [((s.seq lc).pc, 64)] [] = false) ∧
        (s.ownSealOk (s.partOf lc) (s.seq lc).pc 64 = true) ∧ ((s.fetch lc).2 ≠ none)) :=
  ⟨
    ⟨run, 0, dsc, ⟨by decide +kernel, by decide +kernel, by decide +kernel, by decide +kernel, by decide +kernel, by decide +kernel⟩⟩,
    ⟨run, 0, { dsc with opcode := 2, subop := 7, imm0 := 16, imm1 := 3 }, 0, ⟨by decide +kernel, ⟨by decide +kernel, by decide +kernel,
        by decide +kernel, by decide +kernel, by decide +kernel, by decide +kernel⟩⟩⟩,
    ⟨run, 0, w1_2_d, ⟨(Instr.setReg 0 w1_2_d), ⟨.tail _ (.head _), ⟨by decide +kernel, ⟨by decide +kernel, ⟨by decide +kernel, ⟨by decide +kernel,
        ⟨by decide +kernel, by decide +kernel⟩⟩⟩⟩⟩⟩⟩⟩⟩

def w2_1_0_s : State := { run with nmus := [(3, { running := [{}] })] }
def w2_1_0_d : Desc := { dsc with opcode := 1 }
def w2_1_1_s : State := runWith (fun q => { q with infl := [{}] })
def w2_1_1_d : Desc := { dsc with opcode := 7 }
def w2_4_d : Desc := { dsc with opcode := 5, imm0 := 0x100000000040, imm1 := 5 }
def w2_4_s1 := run.waiting 0 w2_4_d none (some { chip := run.chip, addr := w2_4_d.imm0.toNat, value := w2_4_d.imm1.toNat, write := ((Instr.signalAdd 0 w2_4_d, false)).2 })
def w2_4_put := w2_4_s1.signalWord w2_4_d.imm0.toNat w2_4_d.imm1.toNat ((Instr.signalAdd 0 w2_4_d, false)).2 (run.whoOf 0)
def w2_5_s : State := peers run
def w2_5_d : Desc := { dsc with opcode := 5, subop := 1, imm0 := 0x100000000040, imm1 := 5, imm2 := 0x10005 }
def w2_5_s1 := w2_5_s.waiting 0 w2_5_d none (some { chip := 7, addr := w2_5_d.imm0.toNat % 2 ^ 48 + 7 * 2 ^ 48, value := w2_5_d.imm1.toNat, write := ((Instr.signalWrite 0 w2_5_d, true)).2 })

/-- The hypotheses of `Obligations.ControlDescriptorsRun`, clause by clause. -/
theorem test_control_descriptors_run_met :
    (∃ (s : State) (lc : Nat) (d : Desc), (s.CtlReady lc d { code := 0x01 } true 0) ∧ (s.nmcallsOpen lc = false) ∧ ((s.seq lc).chain = none)) ∧
    (∃ (s : State) (lc : Nat) (d : Desc), ∃ c, (c ∈ [Instr.endStream lc d, .stepf lc d]) ∧ (s.nmcallsOpen lc = true)) ∧
    (∃ (s : State) (lc : Nat) (d : Desc), ∃ c, (c ∈ [Instr.endStream lc d, .stepf lc d]) ∧ ((s.seq lc).infl ≠ [])) ∧
    (∃ (s : State) (lc : Nat) (d : Desc), (s.CtlReady lc d { code := 0x01 } true 0) ∧ (s.nmcallsOpen lc = false) ∧ ((s.seq lc).chain ≠ none)) ∧
    (∃ (s : State) (lc : Nat) (d : Desc), (s.CtlReady lc d { code := 0x03, m0 := 2 ^ 51 - 1, m1 := 2 ^ 64 - 1, m2 := 2 ^ 64 - 1 } false 0) ∧
        ∃ q, q = (s.seq lc) ∧ ∃ body, body = (bitsOf d.imm0.toNat 47 32) ∧ ∃ reg, reg = (bitsOf d.imm0.toNat 50 48) ∧ (body ≠ 0) ∧ (reg ≠ 0) ∧
        (∀ e ∈ q.loops, e.reg ≠ reg) ∧ (q.loops.length < 4) ∧ (∀ e ∈ q.loops.head?, q.pc + 64 * body ≤ e.last)) ∧
    (∃ (s : State) (lc : Nat) (d : Desc), ∃ p, (p ∈ [(Instr.signalAdd lc d, false), (Instr.signalWrite lc d, true)]) ∧
        (s.CtlReady lc d { code := 0x05, sub := some (bool01 p.2), m0 := 2 ^ 64 - 1, m1 := 2 ^ 64 - 1, m2 := 0x13FFF } false 0) ∧
        (bitAt d.imm2.toNat 16 = false) ∧ (gaChip d.imm0.toNat = s.chip) ∧ (s.wordFail lc (s.partOf lc) d.imm0.toNat true = 0) ∧
        ((∀ i ∈ (s.seq lc).infl, i.sig = none)) ∧
        ∃ s1, s1 = (s.waiting lc d none (some { chip := s.chip, addr := d.imm0.toNat, value := d.imm1.toNat, write := p.2 })) ∧
        ∃ put, put = (s1.signalWord d.imm0.toNat d.imm1.toNat p.2 (s.whoOf lc)) ∧
        ((∀ i ∈ (s1.seq lc).infl, i.tags = [] ∧ s1.heldOn (i.dst ++ i.vis) = false)) ∧ (put.2 = true)) ∧
    (∃ (s : State) (lc : Nat) (d : Desc) (c : Nat), ∃ p, (p ∈ [(Instr.signalAdd lc d, false), (Instr.signalWrite lc d, true)]) ∧
        (s.CtlReady lc d { code := 0x05, sub := some (bool01 p.2), m0 := 2 ^ 64 - 1, m1 := 2 ^ 64 - 1, m2 := 0x13FFF } false 0) ∧
        (bitAt d.imm2.toNat 16 = true) ∧ (s.rankChip (s.partOf lc) (d.imm2.toNat % 16384) = some c) ∧ (c ≠ s.chip) ∧
        (s.wordFail lc (s.partOf lc) (d.imm0.toNat % 2 ^ 48 + c * 2 ^ 48) true = 0) ∧ ((∀ i ∈ (s.seq lc).infl, i.sig = none)) ∧
        ∃ s1, s1 = (s.waiting lc d none (some { chip := c, addr := d.imm0.toNat % 2 ^ 48 + c * 2 ^ 48, value := d.imm1.toNat, write := p.2 })) ∧
        ((∀ i ∈ (s1.seq lc).infl, i.tags = [] ∧ s1.heldOn (i.dst ++ i.vis) = false))) ∧
    (∃ (s : State) (lc : Nat) (d : Desc), (s.CtlReady lc d { code := 0x06, m0 := 2 ^ 64 - 1, m1 := if d.subop = 2 then 7 else 0 } false 0)) ∧
    (∃ (s : State) (lc : Nat) (d : Desc), (s.CtlReady lc d { code := 0x07, m0 := 2 ^ 64 - 1 } true 0) ∧ (s.nmcallsOpen lc = false) ∧
        ((s.seq lc).chain = none) ∧ (d.imm0.toNat = (s.stepOf (s.partOf lc) + 1) % 2 ^ 64)) ∧
    (∃ (s : State) (lc : Nat) (d : Desc), (s.CtlReady lc d { code := 0x07, m0 := 2 ^ 64 - 1 } true 0) ∧ (s.nmcallsOpen lc = false) ∧
        ((s.seq lc).chain ≠ none)) ∧
    (∃ (s : State) (lc : Nat) (d : Desc), (s.CtlReady lc d d.nmForm false 6) ∧ (s.nmFail lc d = none) ∧ ∃ k, k = (d.imm0.toNat % 16) ∧
        ((s.nmuSt k).qCall.length < 64) ∧ ((s.nmuSt k).failed = false)) :=
  ⟨
    ⟨run, 0, { dsc with opcode := 1 }, ⟨⟨by decide +kernel, by decide +kernel, by decide +kernel, by decide +kernel, by decide +kernel,
        by decide +kernel⟩, ⟨by decide +kernel, by decide +kernel⟩⟩⟩,
    ⟨w2_1_0_s, 0, w2_1_0_d, ⟨(Instr.endStream 0 w2_1_0_d), ⟨.head _, by decide +kernel⟩⟩⟩,
    ⟨w2_1_1_s, 0, w2_1_1_d, ⟨(Instr.stepf 0 w2_1_1_d), ⟨.tail _ (.head _), by decide +kernel⟩⟩⟩,
    ⟨runWith (fun q => { q with chain := some {} }), 0, { dsc with opcode := 1 }, ⟨⟨by decide +kernel, by decide +kernel, by decide +kernel,
        by decide +kernel, by decide +kernel, by decide +kernel⟩, ⟨by decide +kernel, by decide +kernel⟩⟩⟩,
    ⟨run, 0, { dsc with opcode := 3, imm0 := 0x1000100000003 }, ⟨⟨by decide +kernel, by decide +kernel, by decide +kernel, by decide +kernel,
        by decide +kernel, by decide +kernel⟩, ⟨_, rfl, ⟨_, rfl, ⟨_, rfl, ⟨by decide +kernel, ⟨by decide +kernel, ⟨by decide +kernel,
        ⟨by decide +kernel, by decide +kernel⟩⟩⟩⟩⟩⟩⟩⟩⟩,
    ⟨run, 0, w2_4_d, ⟨((Instr.signalAdd 0 w2_4_d, false)), ⟨.head _, ⟨⟨by decide +kernel, by decide +kernel, by decide +kernel, by decide +kernel,
        by decide +kernel, by decide +kernel⟩, ⟨by decide +kernel, ⟨by decide +kernel, ⟨by decide +kernel, ⟨by decide +kernel, ⟨_, rfl, ⟨_, rfl,
        ⟨by decide +kernel, by decide +kernel⟩⟩⟩⟩⟩⟩⟩⟩⟩⟩⟩,
    ⟨w2_5_s, 0, w2_5_d, 7, ⟨((Instr.signalWrite 0 w2_5_d, true)), ⟨.tail _ (.head _), ⟨⟨by decide +kernel, by decide +kernel, by decide +kernel,
        by decide +kernel, by decide +kernel, by decide +kernel⟩, ⟨by decide +kernel, ⟨by decide +kernel, ⟨by decide +kernel, ⟨by decide +kernel,
        ⟨by decide +kernel, ⟨_, rfl, by decide +kernel⟩⟩⟩⟩⟩⟩⟩⟩⟩⟩,
    ⟨run, 0, { dsc with opcode := 6, subop := 2, imm0 := 3, imm1 := 7 }, ⟨by decide +kernel, by decide +kernel, by decide +kernel, by decide +kernel,
        by decide +kernel, by decide +kernel⟩⟩,
    ⟨run, 0, { dsc with opcode := 7, imm0 := 1 }, ⟨⟨by decide +kernel, by decide +kernel, by decide +kernel, by decide +kernel, by decide +kernel,
        by decide +kernel⟩, ⟨by decide +kernel, ⟨by decide +kernel, by decide +kernel⟩⟩⟩⟩,
    ⟨runWith (fun q => { q with chain := some {} }), 0, { dsc with opcode := 7 }, ⟨⟨by decide +kernel, by decide +kernel, by decide +kernel,
        by decide +kernel, by decide +kernel, by decide +kernel⟩, ⟨by decide +kernel, by decide +kernel⟩⟩⟩,
    ⟨run, 0, { dsc with opcode := 60, imm0 := 0x10B, imm1 := 0x100000000040 }, ⟨⟨by decide +kernel, by decide +kernel, by decide +kernel,
        by decide +kernel, by decide +kernel, by decide +kernel⟩, ⟨by decide +kernel, ⟨_, rfl, ⟨by decide +kernel, by decide +kernel⟩⟩⟩⟩⟩⟩

def w3_0_d : Desc := { dsc with opcode := 4, subop := 1, imm0 := 0x100000000040, imm1 := 5, imm2 := 9 }
def w3_0_b : List Byte := bytesLE 8 0
def w3_0_s1 := run.waiting 0 w3_0_d (some (.cmp ((Instr.waitEq 0 w3_0_d, 1)).2 w3_0_d.imm0.toNat w3_0_d.imm1.toNat (run.deadline w3_0_d))) none
def w3_0_holds := match ((Instr.waitEq 0 w3_0_d, 1)).2 with | 0 => w3_0_d.imm1.toNat ≤ natLE w3_0_b | 1 => natLE w3_0_b = w3_0_d.imm1.toNat | _ => natLE w3_0_b ≠ w3_0_d.imm1.toNat

/-- The hypotheses of `Obligations.WaitsHoldUntilTheirWords`, clause by clause. -/
theorem test_waits_hold_until_their_words_met :
    (∃ (s : State) (lc : Nat) (d : Desc) (b : List Byte), ∃ p, (p ∈ [(Instr.waitGe lc d, 0), (Instr.waitEq lc d, 1), (Instr.waitNe lc d, 2)]) ∧
        (s.CtlReady lc d { code := 0x04, sub := some p.2, m0 := 2 ^ 64 - 1, m1 := 2 ^ 64 - 1, m2 := 2 ^ 32 - 1 } false 0) ∧
        (s.wordFail lc (s.partOf lc) d.imm0.toNat false = 0) ∧
        ∃ s1, s1 = (s.waiting lc d (some (.cmp p.2 d.imm0.toNat d.imm1.toNat (s.deadline d))) none) ∧ (s1.mustAwait [(d.imm0.toNat, 8)] [] = false) ∧
        (s1.readMem d.imm0.toNat 8 (s.whoOf lc) = (s1, some b))) ∧
    (∃ (s : State) (lc : Nat) (d : Desc), (s.CtlReady lc d { code := 0x04, sub := some 3, m0 := 7, m2 := 2 ^ 32 - 1 } true 0) ∧
        ((s.seq lc).pflags &&& d.imm0.toNat = 0)) ∧
    (∃ (s : State) (lc : Nat) (d : Desc), (s.CtlReady lc d { code := 0x04, sub := some 3, m0 := 7, m2 := 2 ^ 32 - 1 } true 0) ∧
        ((s.seq lc).pflags &&& d.imm0.toNat ≠ 0)) ∧
    (∃ (s : State) (lc : Nat) (d : Desc), (s.CtlReady lc d { code := 0x04, sub := some 4, m2 := 2 ^ 32 - 1 } true 0)) ∧
    (∃ (s : State) (lc : Nat) (id : Nat) (k : Nat) (a : Nat) (x : Nat) (dl : Nat) (b : List Byte), (s.waitOf lc id = some (.cmp k a x dl)) ∧
        (s.mustAwait [(a, 8)] [] = false) ∧ (s.readMem a 8 (s.whoOf lc) = (s, some b))) ∧
    (∃ (s : State) (lc : Nat) (id : Nat) (k : Nat) (a : Nat) (x : Nat) (dl : Nat) (b : List Byte), (s.waitOf lc id = some (.cmp k a x dl)) ∧
        (dl ≠ 0) ∧ (dl ≤ s.tick) ∧ ((s.seq lc).st = 1) ∧ (s.mustAwait [(a, 8)] [] = false) ∧ (s.readMem a 8 (s.whoOf lc) = (s, some b)) ∧
        (waitTrue k (natLE b) x = false)) ∧
    (∃ (s : State) (lc : Nat) (d : Desc) (b : List Byte), (s.CtlReady lc d { code := 0x39, m0 := 2 ^ 64 - 1, m1 := 2 ^ 64 - 1, m2 := 2 ^ 32 - 1 } false 0) ∧
        (s.wordFail lc (s.partOf lc) d.imm0.toNat false = 0) ∧
        ∃ s1, s1 = (s.waiting lc d (some (.recv d.imm0.toNat d.imm1.toNat (s.deadline d))) none) ∧ (s1.mustAwait [(d.imm0.toNat, 8)] [] = false) ∧
        (s1.readMem d.imm0.toNat 8 (s.whoOf lc) = (s1, some b)) ∧
        ∃ put, put = (s1.writeMem d.imm0.toNat (bytesLE 8 (natLE b - d.imm1.toNat)) (s.whoOf lc)) ∧
        (d.imm1.toNat ≤ natLE b → s1.wordHeld d.imm0.toNat = none ∧ put.2 = true)) ∧
    (∃ (s : State) (lc : Nat) (d : Desc), (s.CtlReady lc d { code := 0x39, m0 := 2 ^ 64 - 1, m1 := 2 ^ 64 - 1, m2 := 2 ^ 32 - 1 } false 0) ∧
        ∃ e, e = (s.wordFail lc (s.partOf lc) d.imm0.toNat false) ∧ (e ≠ 0)) ∧
    (∃ (s : State) (lc : Nat) (id : Nat) (a : Nat) (x : Nat) (dl : Nat) (b : List Byte), (s.waitOf lc id = some (.recv a x dl)) ∧ (dl ≠ 0) ∧
        (dl ≤ s.tick) ∧ ((s.seq lc).st = 1) ∧ (s.mustAwait [(a, 8)] [] = false) ∧ (s.readMem a 8 (s.whoOf lc) = (s, some b)) ∧ (natLE b < x)) ∧
    (∃ (s : State) (lc : Nat) (id : Nat) (a : Nat) (x : Nat) (dl : Nat) (b : List Byte), (s.waitOf lc id = some (.recv a x dl)) ∧
        (s.mustAwait [(a, 8)] [] = false) ∧ (s.readMem a 8 (s.whoOf lc) = (s, some b)) ∧ (x ≤ natLE b) ∧ (s.wordHeld a = none) ∧
        ∃ put, put = (s.writeMem a (bytesLE 8 (natLE b - x)) (s.whoOf lc)) ∧ (put.2 = true)) :=
  ⟨
    ⟨run, 0, w3_0_d, w3_0_b, ⟨((Instr.waitEq 0 w3_0_d, 1)), ⟨.tail _ (.head _), ⟨⟨by decide +kernel, by decide +kernel, by decide +kernel,
        by decide +kernel, by decide +kernel, by decide +kernel⟩, ⟨by decide +kernel, ⟨_, rfl, ⟨by decide +kernel, by decide +kernel⟩⟩⟩⟩⟩⟩⟩,
    ⟨runWith (fun q => { q with pflags := 4 }), 0, { dsc with opcode := 4, subop := 3, imm0 := 3, imm2 := 9 }, ⟨⟨by decide +kernel,
        by decide +kernel, by decide +kernel, by decide +kernel, by decide +kernel, by decide +kernel⟩, by decide +kernel⟩⟩,
    ⟨runWith (fun q => { q with pflags := 4 }), 0, { dsc with opcode := 4, subop := 3, imm0 := 7 }, ⟨⟨by decide +kernel, by decide +kernel,
        by decide +kernel, by decide +kernel, by decide +kernel, by decide +kernel⟩, by decide +kernel⟩⟩,
    ⟨run, 0, { dsc with opcode := 4, subop := 4 }, ⟨by decide +kernel, by decide +kernel, by decide +kernel, by decide +kernel, by decide +kernel,
        by decide +kernel⟩⟩,
    ⟨runWith (fun q => { q with infl := [{ id := 3, wait := some (.cmp 1 0x100000000040 5 0) }] }), 0, 3, 1, 0x100000000040, 5, 0, bytesLE 8 0,
        ⟨by decide +kernel, ⟨by decide +kernel, by decide +kernel⟩⟩⟩,
    ⟨(runWith (fun q => { q with infl := [{ id := 3, wait := some (.cmp 1 0x100000000040 5 9) }] })).setFld .time Tim.TICK_LO 9, 0, 3, 1, 0x100000000040, 5, 9, bytesLE 8 0,
        ⟨by decide +kernel, ⟨by decide +kernel, ⟨by decide +kernel, ⟨by decide +kernel, ⟨by decide +kernel, ⟨by decide +kernel,
        by decide +kernel⟩⟩⟩⟩⟩⟩⟩,
    ⟨run, 0, { dsc with opcode := 57, imm0 := 0x100000000040 }, bytesLE 8 0, ⟨⟨by decide +kernel, by decide +kernel, by decide +kernel,
        by decide +kernel, by decide +kernel, by decide +kernel⟩, ⟨by decide +kernel, ⟨_, rfl, ⟨by decide +kernel, ⟨by decide +kernel, ⟨_, rfl,
        by decide +kernel⟩⟩⟩⟩⟩⟩⟩,
    ⟨run, 0, { dsc with opcode := 57, imm0 := 3 }, ⟨⟨by decide +kernel, by decide +kernel, by decide +kernel, by decide +kernel, by decide +kernel,
        by decide +kernel⟩, ⟨_, rfl, by decide +kernel⟩⟩⟩,
    ⟨(runWith (fun q => { q with infl := [{ id := 3, wait := some (.recv 0x100000000040 5 9) }] })).setFld .time Tim.TICK_LO 9, 0, 3, 0x100000000040, 5, 9, bytesLE 8 0,
        ⟨by decide +kernel, ⟨by decide +kernel, ⟨by decide +kernel, ⟨by decide +kernel, ⟨by decide +kernel, ⟨by decide +kernel,
        by decide +kernel⟩⟩⟩⟩⟩⟩⟩,
    ⟨runWith (fun q => { q with infl := [{ id := 3, wait := some (.recv 0x100000000040 0 0) }] }), 0, 3, 0x100000000040, 0, 0, bytesLE 8 0,
        ⟨by decide +kernel, ⟨by decide +kernel, ⟨by decide +kernel, ⟨by decide +kernel, ⟨by decide +kernel, ⟨_, rfl, by decide +kernel⟩⟩⟩⟩⟩⟩⟩⟩

/-- Two records of 2 × 1 elements of FP32 in tile memory: A at 0x1000, D at 0x2000. -/
def copies (s : State) : State := poke 0 (tensor (tile 0x1000) 2 1 8) (poke 64 (tensor (tile 0x2000) 2 1 8) s)
def cdsc : Desc := { dsc with refA := ref 0 0, refD := ref 1 0 }
def refs (s : State) (d : Desc) (f : Form) : Refs := okOr (s.prep 0 d f) {}
def rowsOf (s : State) (t : Tens) : List (List Byte) := ((s.atIssue 0).readRows t.rows (s.whoOf 0)).2.getD []

def w4_0_s : State := copies run
def w4_0_d : Desc := { cdsc with opcode := 18 }
def w4_0_r : Refs := okOr (w4_0_s.prep 0 w4_0_d ((Instr.move 0 w4_0_d, copyForm 0x12 .own .own)).2) default
def w4_0_bs : List (List Byte) := ((((w4_0_s.atIssue 0).readRows w4_0_r.aa.t.rows (w4_0_s.whoOf 0)).2).getD default)
def w4_0_s2 : State := ((w4_0_s.atIssue 0).writeRows ((w4_0_r.dd.t.rows.zip w4_0_bs).map (fun x => (x.1.1, x.2))) (w4_0_s.whoOf 0)).1
def w4_1_s : State := copies run
def w4_1_d : Desc := { cdsc with opcode := 18 }
def w4_1_r : Refs := okOr (w4_1_s.prep 0 w4_1_d ((Instr.move 0 w4_1_d, copyForm 0x12 .own .own)).2) default
def w4_1_e := (w4_1_s.atIssue 0).copyRows 0 (w4_1_s.seq 0).nextId w4_1_r.aa.t w4_1_r.dd.t (fun a => a) none
def w4_2_s : State := copies (peers run)
def w4_2_d : Desc := { cdsc with opcode := 56, imm0 := 5 }
def w4_2_r : Refs := okOr (w4_2_s.prep 0 w4_2_d (sendForm (some 7))) default
def w4_2_e := (w4_2_s.atIssue 0).copyRows 0 (w4_2_s.seq 0).nextId w4_2_r.aa.t w4_2_r.dd.t (fun a => a % 2 ^ 48 + 7 * 2 ^ 48) none
def w4_3_0_s : State := copies (peers run)
def w4_3_0_d : Desc := { cdsc with opcode := 56, imm0 := 5, imm1 := 0x100000000240, imm2 := 1 }
def w4_3_0_word := w4_3_0_d.imm1.toNat % 2 ^ 48 + 7 * 2 ^ 48
def w4_3_0_f := sendForm (some 7)
def w4_3_0_r : Refs := okOr (w4_3_0_s.prep 0 w4_3_0_d w4_3_0_f) default
def w4_3_0_g : Sig := { chip := 7, addr := w4_3_0_word, value := 1, write := false }
def w4_3_0_e := (w4_3_0_s.atIssue 0).copyRows 0 (w4_3_0_s.seq 0).nextId w4_3_0_r.aa.t w4_3_0_r.dd.t (fun a => a % 2 ^ 48 + 7 * 2 ^ 48) (some w4_3_0_g)
def w4_3_0_i : Infl := { id := (w4_3_0_s.seq 0).nextId, desc := (w4_3_0_s.seq 0).pc, unit := (w4_3_0_s.seq 0).unitFor 1, dst := w4_3_0_f.dstOf w4_3_0_r, src := w4_3_0_s.srcOf 0 w4_3_0_f w4_3_0_r, ser := w4_3_0_d.ser || rangesMeet (w4_3_0_f.dstOf w4_3_0_r) [(w4_3_0_s.tileAddr 0 (w4_3_0_s.seq 0).trec, 262144)], tags := w4_3_0_e.tags, sig := some w4_3_0_g }
def w4_3_0_s1 := w4_3_0_e.s.pushInfl 0 w4_3_0_i
def w4_3_1_s : State := (copies (peers run)).setFld .rt Rt.RNK_DATA 65536 6
def w4_3_1_d : Desc := { cdsc with opcode := 56, imm0 := 6, imm1 := 0x100000000240, imm2 := 1 }
def w4_3_1_word := w4_3_1_d.imm1.toNat % 2 ^ 48 + 0 * 2 ^ 48
def w4_3_1_f := sendForm (some 0)
def w4_3_1_r : Refs := okOr (w4_3_1_s.prep 0 w4_3_1_d w4_3_1_f) default
def w4_3_1_g : Sig := { chip := 0, addr := w4_3_1_word, value := 1, write := false }
def w4_3_1_e := (w4_3_1_s.atIssue 0).copyRows 0 (w4_3_1_s.seq 0).nextId w4_3_1_r.aa.t w4_3_1_r.dd.t (fun a => a % 2 ^ 48 + 0 * 2 ^ 48) (some w4_3_1_g)
def w4_3_1_i : Infl := { id := (w4_3_1_s.seq 0).nextId, desc := (w4_3_1_s.seq 0).pc, unit := (w4_3_1_s.seq 0).unitFor 1, dst := w4_3_1_f.dstOf w4_3_1_r, src := w4_3_1_s.srcOf 0 w4_3_1_f w4_3_1_r, ser := w4_3_1_d.ser || rangesMeet (w4_3_1_f.dstOf w4_3_1_r) [(w4_3_1_s.tileAddr 0 (w4_3_1_s.seq 0).trec, 262144)], tags := w4_3_1_e.tags, sig := some w4_3_1_g }
def w4_3_1_s1 := w4_3_1_e.s.pushInfl 0 w4_3_1_i
def w4_3_1_put := w4_3_1_s1.signalWord w4_3_1_word 1 false (w4_3_1_s.whoOf 0)

/-- The hypotheses of `Obligations.CopiesMoveTheirRows`, clause by clause. -/
theorem test_copies_move_their_rows_met :
    (∃ (s : State) (lc : Nat) (d : Desc) (r : Refs) (bs : List (List Byte)) (s2 : State), ∃ p, (p ∈ [(Instr.load lc d, copyForm 0x10 .tile .peer),
        (.store lc d, copyForm 0x11 .peer .tile), (.move lc d, copyForm 0x12 .own .own)]) ∧ (s.RefReady lc d p.2 1 r) ∧ (r.aa.t.ext = r.dd.t.ext) ∧
        (r.aa.fmt = r.dd.fmt) ∧ (∀ x ∈ r.aa.t.rows ++ r.dd.t.rows, gaChip x.1 = s.chip) ∧
        ((s.atIssue lc).readRows r.aa.t.rows (s.whoOf lc) = (s.atIssue lc, some bs)) ∧
        ((s.atIssue lc).writeRows ((r.dd.t.rows.zip bs).map (fun x => (x.1.1, x.2))) (s.whoOf lc) = (s2, true))) ∧
    (∃ (s : State) (lc : Nat) (d : Desc) (r : Refs), ∃ p, (p ∈ [(Instr.load lc d, copyForm 0x10 .tile .peer),
        (.store lc d, copyForm 0x11 .peer .tile), (.move lc d, copyForm 0x12 .own .own)]) ∧ (s.RefReady lc d p.2 1 r) ∧ (r.aa.t.ext = r.dd.t.ext) ∧
        (r.aa.fmt = r.dd.fmt) ∧ ∃ e, e = ((s.atIssue lc).copyRows lc (s.seq lc).nextId r.aa.t r.dd.t (fun a => a) none) ∧ (e.fault = none)) ∧
    (∃ (s : State) (lc : Nat) (d : Desc) (r : Refs) (c : Nat), (s.rankChip (s.partOf lc) (d.imm0.toNat % 16384) = some c) ∧
        (s.maskOk (s.partOf lc) c = true) ∧ (bitAt d.imm2.toNat 0 = false) ∧ (s.RefReady lc d (sendForm (some c)) 1 r) ∧ (r.aa.t.ext = r.dd.t.ext) ∧
        (r.aa.fmt = r.dd.fmt) ∧ ((∀ i ∈ (s.seq lc).infl, i.sig = none)) ∧
        ∃ e, e = ((s.atIssue lc).copyRows lc (s.seq lc).nextId r.aa.t r.dd.t (fun a => a % 2 ^ 48 + c * 2 ^ 48) none) ∧ (e.fault = none)) ∧
    (∃ (s : State) (lc : Nat) (d : Desc) (r : Refs) (c : Nat), (s.rankChip (s.partOf lc) (d.imm0.toNat % 16384) = some c) ∧
        (s.maskOk (s.partOf lc) c = true) ∧ (bitAt d.imm2.toNat 0 = true) ∧ ∃ word, word = (d.imm1.toNat % 2 ^ 48 + c * 2 ^ 48) ∧
        (sigAligned word = true) ∧ ((c = s.chip → s.rightsRange (s.partOf lc) word 8 = true)) ∧ ∃ f, f = (sendForm (some c)) ∧
        (s.RefReady lc d f 1 r) ∧ (r.aa.t.ext = r.dd.t.ext) ∧ (r.aa.fmt = r.dd.fmt) ∧ ((∀ i ∈ (s.seq lc).infl, i.sig = none)) ∧
        ∃ (g : Sig), g = { chip := c, addr := word, value := 1, write := false } ∧
        ∃ e, e = ((s.atIssue lc).copyRows lc (s.seq lc).nextId r.aa.t r.dd.t (fun a => a % 2 ^ 48 + c * 2 ^ 48) (some g)) ∧ (e.fault = none) ∧
        (e.tags ≠ [])) ∧
    (∃ (s : State) (lc : Nat) (d : Desc) (r : Refs) (c : Nat), (s.rankChip (s.partOf lc) (d.imm0.toNat % 16384) = some c) ∧
        (s.maskOk (s.partOf lc) c = true) ∧ (bitAt d.imm2.toNat 0 = true) ∧ ∃ word, word = (d.imm1.toNat % 2 ^ 48 + c * 2 ^ 48) ∧
        (sigAligned word = true) ∧ ((c = s.chip → s.rightsRange (s.partOf lc) word 8 = true)) ∧ ∃ f, f = (sendForm (some c)) ∧
        (s.RefReady lc d f 1 r) ∧ (r.aa.t.ext = r.dd.t.ext) ∧ (r.aa.fmt = r.dd.fmt) ∧ ((∀ i ∈ (s.seq lc).infl, i.sig = none)) ∧
        ∃ (g : Sig), g = { chip := c, addr := word, value := 1, write := false } ∧
        ∃ e, e = ((s.atIssue lc).copyRows lc (s.seq lc).nextId r.aa.t r.dd.t (fun a => a % 2 ^ 48 + c * 2 ^ 48) (some g)) ∧ (e.fault = none) ∧
        ∃ (i : Infl), i = { id := (s.seq lc).nextId, desc := (s.seq lc).pc, unit := (s.seq lc).unitFor 1, dst := f.dstOf r, src := s.srcOf lc f r, ser := d.ser || rangesMeet (f.dstOf r) [(s.tileAddr lc (s.seq lc).trec, 262144)], tags := e.tags, sig := some g } ∧
        ∃ s1, s1 = (e.s.pushInfl lc i) ∧ ((∀ i ∈ (s1.seq lc).infl, i.tags = [] ∧ s1.heldOn (i.dst ++ i.vis) = false)) ∧ (c = s.chip) ∧
        ∃ put, put = (s1.signalWord word 1 false (s.whoOf lc)) ∧ (put.2 = true)) :=
  ⟨
    ⟨w4_0_s, 0, w4_0_d, w4_0_r, w4_0_bs, w4_0_s2, ⟨((Instr.move 0 w4_0_d, copyForm 0x12 .own .own)), ⟨.tail _ (.tail _ (.head _)),
        ⟨⟨by decide +kernel, by decide +kernel, by decide +kernel, by decide +kernel, by decide +kernel, by decide +kernel, by decide +kernel,
        by decide +kernel, by decide +kernel⟩, ⟨by decide +kernel, ⟨by decide +kernel, ⟨by decide +kernel, ⟨by decide +kernel,
        by decide +kernel⟩⟩⟩⟩⟩⟩⟩⟩,
    ⟨w4_1_s, 0, w4_1_d, w4_1_r, ⟨((Instr.move 0 w4_1_d, copyForm 0x12 .own .own)), ⟨.tail _ (.tail _ (.head _)), ⟨⟨by decide +kernel,
        by decide +kernel, by decide +kernel, by decide +kernel, by decide +kernel, by decide +kernel, by decide +kernel, by decide +kernel,
        by decide +kernel⟩, ⟨by decide +kernel, ⟨by decide +kernel, ⟨_, rfl, by decide +kernel⟩⟩⟩⟩⟩⟩⟩,
    ⟨w4_2_s, 0, w4_2_d, w4_2_r, 7, ⟨by decide +kernel, ⟨by decide +kernel, ⟨by decide +kernel, ⟨⟨by decide +kernel, by decide +kernel,
        by decide +kernel, by decide +kernel, by decide +kernel, by decide +kernel, by decide +kernel, by decide +kernel, by decide +kernel⟩,
        ⟨by decide +kernel, ⟨by decide +kernel, ⟨by decide +kernel, ⟨_, rfl, by decide +kernel⟩⟩⟩⟩⟩⟩⟩⟩⟩,
    ⟨w4_3_0_s, 0, w4_3_0_d, w4_3_0_r, 7, ⟨by decide +kernel, ⟨by decide +kernel, ⟨by decide +kernel, ⟨_, rfl, ⟨by decide +kernel, ⟨by decide +kernel,
        ⟨_, rfl, ⟨⟨by decide +kernel, by decide +kernel, by decide +kernel, by decide +kernel, by decide +kernel, by decide +kernel,
        by decide +kernel, by decide +kernel, by decide +kernel⟩, ⟨by decide +kernel, ⟨by decide +kernel, ⟨by decide +kernel, ⟨_, rfl, ⟨_, rfl,
        ⟨by decide +kernel, by decide +kernel⟩⟩⟩⟩⟩⟩⟩⟩⟩⟩⟩⟩⟩⟩⟩,
    ⟨w4_3_1_s, 0, w4_3_1_d, w4_3_1_r, 0, ⟨by decide +kernel, ⟨by decide +kernel, ⟨by decide +kernel, ⟨_, rfl, ⟨by decide +kernel, ⟨by decide +kernel,
        ⟨_, rfl, ⟨⟨by decide +kernel, by decide +kernel, by decide +kernel, by decide +kernel, by decide +kernel, by decide +kernel,
        by decide +kernel, by decide +kernel, by decide +kernel⟩, ⟨by decide +kernel, ⟨by decide +kernel, ⟨by decide +kernel, ⟨_, rfl, ⟨_, rfl,
        ⟨by decide +kernel, ⟨_, rfl, ⟨_, rfl, ⟨by decide +kernel, ⟨by decide +kernel, ⟨_, rfl, by decide +kernel⟩⟩⟩⟩⟩⟩⟩⟩⟩⟩⟩⟩⟩⟩⟩⟩⟩⟩⟩⟩⟩

/-- The first sixteen lines of stack 0 are written and its controller is ready. -/
def edesk (s : State) : State :=
  { s.setFld (.mc 0) Mc.MC_STATUS_READY 1 with lines := (List.range 16).map (fun i =>
      (i, { unwritten := false, crc := outerCode 0 (64 * i) (s.bytes (edKey 0 (64 * i)) 64) })) }
/-- A third record B of two indices 1 and 0, and a fourth C. -/
def rows3 (s : State) : State := poke 0x3000 [1] (poke 128 (tensor (tile 0x3000) 2 1 8) (poke 192 (tensor (tile 0x4000) 2 1 8) (copies s)))

/-- A and D of 1 × 2 elements, and two indices. -/
def rows2d (s : State) : State :=
  poke 0x3000 [1] (poke 128 (tensor (tile 0x3000) 2 1 8) (poke 0 (tensor (tile 0x1000) 1 2 16) (poke 64 (tensor (tile 0x2000) 1 2 16) s)))

def w5_0_s : State := copies run
def w5_0_d : Desc := { cdsc with opcode := 19, imm0 := 0xE4 }
def w5_0_v := w5_0_d.imm0.toNat % 256
def w5_0_r : Refs := okOr (w5_0_s.prep 0 w5_0_d (permForm w5_0_v)) default
def w5_0_bits : List Nat := ((((w5_0_s.atIssue 0).readBits w5_0_r.aa.t (w5_0_s.whoOf 0)).2).getD default)
def w5_0_src := fun (i : Nat × Nat × Nat × Nat) ax => match (List.range 4).find? (fun n => w5_0_v / 4 ^ n % 4 == ax) with | some n => [i.1, i.2.1, i.2.2.1, i.2.2.2].getD n 0 | none => 0
def w5_0_s2 : State := ((w5_0_s.atIssue 0).writeBits w5_0_r.dd.t (w5_0_r.dd.t.ix.map (fun i => w5_0_bits.getD (w5_0_r.aa.t.flat (w5_0_src i 0) (w5_0_src i 1) (w5_0_src i 2) (w5_0_src i 3)) 0)) (w5_0_s.whoOf 0)).1
def w5_1_s : State := rows2d run
def w5_1_d : Desc := { cdsc with opcode := 20, refB := ref 2 0 ||| 0x4000 }
def w5_1_r : Refs := okOr (w5_1_s.prep 0 w5_1_d (rowForm 0x14)) default
def w5_1_b : List Nat := ((((w5_1_s.atIssue 0).readBits w5_1_r.bb.t (w5_1_s.whoOf 0)).2).getD default)
def w5_1_a : List (Val × Bool) := ((((w5_1_s.atIssue 0).readRowsOf w5_1_r.aa (fun j => w5_1_b.contains j) (w5_1_s.whoOf 0)).2).getD default)
def w5_1_row := fun (i : Nat × Nat × Nat × Nat) => w5_1_b.getD i.2.1 0
def w5_1_bad := (w5_1_b.filter (fun j => decide (w5_1_r.aa.t.e1 ≤ j))).length
def w5_1_s2 : State := ((w5_1_s.atIssue 0).writeOut w5_1_r.dd (w5_1_s.partOf 0) (w5_1_r.dd.t.ix.map (fun i => if w5_1_row i < w5_1_r.aa.t.e1 then w5_1_a.getD (w5_1_r.aa.t.flat i.1 (w5_1_row i) i.2.2.1 i.2.2.2) (zeroVal, false) else (zeroVal, false))) (w5_1_s.whoOf 0)).1
def w5_1_fl : Flags := ((w5_1_s.atIssue 0).writeOut w5_1_r.dd (w5_1_s.partOf 0) (w5_1_r.dd.t.ix.map (fun i => if w5_1_row i < w5_1_r.aa.t.e1 then w5_1_a.getD (w5_1_r.aa.t.flat i.1 (w5_1_row i) i.2.2.1 i.2.2.2) (zeroVal, false) else (zeroVal, false))) (w5_1_s.whoOf 0)).2.1
def w5_2_s : State := rows2d run
def w5_2_d : Desc := { cdsc with opcode := 21, refB := ref 2 0 ||| 0x4000 }
def w5_2_r : Refs := okOr (w5_2_s.prep 0 w5_2_d (rowForm 0x15)) default
def w5_2_dv : Arr := ((((w5_2_s.atIssue 0).readArr w5_2_r.dd (w5_2_s.whoOf 0)).2).getD default)
def w5_2_b : List Nat := ((((w5_2_s.atIssue 0).readBits w5_2_r.bb.t (w5_2_s.whoOf 0)).2).getD default)
def w5_2_a : List (Val × Bool) := ((((w5_2_s.atIssue 0).readRowsOf w5_2_r.aa (fun i => decide (w5_2_b.getD i 0 < w5_2_r.dd.t.e1)) (w5_2_s.whoOf 0)).2).getD default)
def w5_2_acc := fun (p : (Nat × Nat × Nat × Nat) × (Val × Bool)) => w5_2_b.zipIdx.foldl (fun (acc : Val × Bool) e => if e.1 = p.1.2.1 then (f32Val (rne32 (acc.1.add (w5_2_a.getD (w5_2_r.aa.t.flat p.1.1 e.2 p.1.2.2.1 p.1.2.2.2) (zeroVal, false)).1)), false) else acc) (f32Val (rne32 p.2.1), false)
def w5_2_bad := (w5_2_b.filter (fun j => decide (w5_2_r.dd.t.e1 ≤ j))).length
def w5_2_s2 : State := ((w5_2_s.atIssue 0).writeOut w5_2_r.dd (w5_2_s.partOf 0) ((w5_2_r.dd.t.ix.zip w5_2_dv.v).map w5_2_acc) (w5_2_s.whoOf 0)).1
def w5_2_fl : Flags := ((w5_2_s.atIssue 0).writeOut w5_2_r.dd (w5_2_s.partOf 0) ((w5_2_r.dd.t.ix.zip w5_2_dv.v).map w5_2_acc) (w5_2_s.whoOf 0)).2.1
def w5_3_s : State := copies run
def w5_3_d : Desc := { cdsc with opcode := 22 }
def w5_3_r : Refs := okOr (w5_3_s.prep 0 w5_3_d (convForm ((Instr.cast 0 w5_3_d, false)).2)) default
def w5_3_a : Arr := ((((w5_3_s.atIssue 0).readArr w5_3_r.aa (w5_3_s.whoOf 0)).2).getD default)
def w5_3_s2 : State := ((w5_3_s.atIssue 0).writeOut w5_3_r.dd (w5_3_s.partOf 0) w5_3_a.v (w5_3_s.whoOf 0)).1
def w5_3_fl : Flags := ((w5_3_s.atIssue 0).writeOut w5_3_r.dd (w5_3_s.partOf 0) w5_3_a.v (w5_3_s.whoOf 0)).2.1
def w5_4_s : State := copies run
def w5_4_d : Desc := { cdsc with opcode := 24, refA := 0, imm0 := 0x3F800000 }
def w5_4_r : Refs := okOr (w5_4_s.prep 0 w5_4_d fillForm) default
def w5_4_s2 : State := ((w5_4_s.atIssue 0).writeOut w5_4_r.dd (w5_4_s.partOf 0) (List.replicate w5_4_r.dd.t.count (f32Val w5_4_d.imm0.toNat, false)) (w5_4_s.whoOf 0)).1
def w5_4_fl : Flags := ((w5_4_s.atIssue 0).writeOut w5_4_r.dd (w5_4_s.partOf 0) (List.replicate w5_4_r.dd.t.count (f32Val w5_4_d.imm0.toNat, false)) (w5_4_s.whoOf 0)).2.1
def w5_5_s : State := (edesk (poke 0 (tensor 0x40 2 1 8) run)).setFld (.nmu 0) Nmu.DIG_KEY_0 1 1
def w5_5_d : Desc := { cdsc with opcode := 61, refD := 0, imm1 := 0x100000003000 }
def w5_5_r : Refs := okOr (w5_5_s.prep 0 w5_5_d (digestForm w5_5_d.imm1.toNat)) default
def w5_5_bs : List (List Byte) := ((((w5_5_s.atIssue 0).readRows w5_5_r.aa.t.rows (w5_5_s.whoOf 0)).2).getD default)
def w5_5_s2 : State := ((w5_5_s.atIssue 0).writeMem w5_5_d.imm1.toNat (bytesLE 16 (digest128 (w5_5_s.digKey (w5_5_s.partOf 0)) w5_5_bs.flatten)) (w5_5_s.whoOf 0)).1

/-- The hypotheses of `Obligations.DataDescriptorsWriteTheirResults`, clause by clause. -/
theorem test_data_descriptors_write_their_results_met :
    (∃ (s : State) (lc : Nat) (d : Desc) (r : Refs) (bits : List Nat) (s2 : State), ∃ v, v = (d.imm0.toNat % 256) ∧ (permBad v = false) ∧
        (s.RefReady lc d (permForm v) 1 r) ∧ (r.aa.fmt = r.dd.fmt) ∧
        ((∀ i < 4, [r.dd.t.e0, r.dd.t.e1, r.dd.t.e2, r.dd.t.e3].getD i 0 = [r.aa.t.e0, r.aa.t.e1, r.aa.t.e2, r.aa.t.e3].getD (v / 4 ^ i % 4) 0)) ∧
        ((s.atIssue lc).readBits r.aa.t (s.whoOf lc) = (s.atIssue lc, some bits)) ∧
        ∃ src, src = (fun (i : Nat × Nat × Nat × Nat) ax => match (List.range 4).find? (fun n => v / 4 ^ n % 4 == ax) with | some n => [i.1, i.2.1, i.2.2.1, i.2.2.2].getD n 0 | none => 0) ∧
        ((s.atIssue lc).writeBits r.dd.t (r.dd.t.ix.map (fun i => bits.getD (r.aa.t.flat (src i 0) (src i 1) (src i 2) (src i 3)) 0)) (s.whoOf lc) = (s2, true))) ∧
    (∃ (s : State) (lc : Nat) (d : Desc) (r : Refs) (a : List (Val × Bool)) (b : List Nat) (s2 : State) (fl : Flags), (s.RefReady lc d (rowForm 0x14) 1 r) ∧
        (rowCheck r r.dd.t = none) ∧ ((s.atIssue lc).readBits r.bb.t (s.whoOf lc) = (s.atIssue lc, some b)) ∧
        ((s.atIssue lc).readRowsOf r.aa (fun j => b.contains j) (s.whoOf lc) = (s.atIssue lc, some a)) ∧
        ∃ row, row = (fun (i : Nat × Nat × Nat × Nat) => b.getD i.2.1 0) ∧
        ((s.atIssue lc).writeOut r.dd (s.partOf lc) (r.dd.t.ix.map (fun i => if row i < r.aa.t.e1 then a.getD (r.aa.t.flat i.1 (row i) i.2.2.1 i.2.2.2) (zeroVal, false) else (zeroVal, false))) (s.whoOf lc) = (s2, fl, true))) ∧
    (∃ (s : State) (lc : Nat) (d : Desc) (r : Refs) (dv : Arr) (a : List (Val × Bool)) (b : List Nat) (s2 : State) (fl : Flags), (s.RefReady lc d (rowForm 0x15) 1 r) ∧
        (rowCheck r r.aa.t = none) ∧ ((s.atIssue lc).readArr r.dd (s.whoOf lc) = (s.atIssue lc, some dv)) ∧
        ((s.atIssue lc).readBits r.bb.t (s.whoOf lc) = (s.atIssue lc, some b)) ∧
        ((s.atIssue lc).readRowsOf r.aa (fun i => decide (b.getD i 0 < r.dd.t.e1)) (s.whoOf lc) = (s.atIssue lc, some a)) ∧
        ∃ acc, acc = (fun (p : (Nat × Nat × Nat × Nat) × (Val × Bool)) => b.zipIdx.foldl (fun (acc : Val × Bool) e => if e.1 = p.1.2.1 then (f32Val (rne32 (acc.1.add (a.getD (r.aa.t.flat p.1.1 e.2 p.1.2.2.1 p.1.2.2.2) (zeroVal, false)).1)), false) else acc) (f32Val (rne32 p.2.1), false)) ∧
        ((s.atIssue lc).writeOut r.dd (s.partOf lc) ((r.dd.t.ix.zip dv.v).map acc) (s.whoOf lc) = (s2, fl, true))) ∧
    (∃ (s : State) (lc : Nat) (d : Desc) (r : Refs) (a : Arr) (s2 : State) (fl : Flags), ∃ p, (p ∈ [(Instr.cast lc d, false), (Instr.quantise lc d, true)]) ∧
        (s.RefReady lc d (convForm p.2) 1 r) ∧ (r.aa.t.ext = r.dd.t.ext) ∧ ((s.atIssue lc).readArr r.aa (s.whoOf lc) = (s.atIssue lc, some a)) ∧
        ((s.atIssue lc).writeOut r.dd (s.partOf lc) a.v (s.whoOf lc) = (s2, fl, true))) ∧
    (∃ (s : State) (lc : Nat) (d : Desc) (r : Refs) (s2 : State) (fl : Flags), (s.RefReady lc d fillForm 1 r) ∧
        ((s.atIssue lc).writeOut r.dd (s.partOf lc) (List.replicate r.dd.t.count (f32Val d.imm0.toNat, false)) (s.whoOf lc) = (s2, fl, true))) ∧
    (∃ (s : State) (lc : Nat) (d : Desc) (r : Refs) (bs : List (List Byte)) (s2 : State), (s.RefReady lc d (digestForm d.imm1.toNat) 6 r) ∧
        (r.aa.t.dense = true) ∧ (d.imm1.toNat % 16 = 0) ∧ (gaChip d.imm1.toNat = s.chip) ∧ (s.locFail lc (s.partOf lc) .own d.imm1.toNat 16 = 0) ∧
        (s.digKey (s.partOf lc) ≠ 0) ∧ ((s.atIssue lc).readRows r.aa.t.rows (s.whoOf lc) = (s.atIssue lc, some bs)) ∧
        ((s.atIssue lc).writeMem d.imm1.toNat (bytesLE 16 (digest128 (s.digKey (s.partOf lc)) bs.flatten)) (s.whoOf lc) = (s2, true))) :=
  ⟨
    ⟨w5_0_s, 0, w5_0_d, w5_0_r, w5_0_bits, w5_0_s2, ⟨_, rfl, ⟨by decide +kernel, ⟨⟨by decide +kernel, by decide +kernel, by decide +kernel,
        by decide +kernel, by decide +kernel, by decide +kernel, by decide +kernel, by decide +kernel, by decide +kernel⟩, ⟨by decide +kernel,
        ⟨by decide +kernel, ⟨by decide +kernel, ⟨_, rfl, by decide +kernel⟩⟩⟩⟩⟩⟩⟩⟩,
    ⟨w5_1_s, 0, w5_1_d, w5_1_r, w5_1_a, w5_1_b, w5_1_s2, w5_1_fl, ⟨⟨by decide +kernel, by decide +kernel, by decide +kernel, by decide +kernel,
        by decide +kernel, by decide +kernel, by decide +kernel, by decide +kernel, by decide +kernel⟩, ⟨by decide +kernel, ⟨by decide +kernel,
        ⟨by decide +kernel, ⟨_, rfl, by decide +kernel⟩⟩⟩⟩⟩⟩,
    ⟨w5_2_s, 0, w5_2_d, w5_2_r, w5_2_dv, w5_2_a, w5_2_b, w5_2_s2, w5_2_fl, ⟨⟨by decide +kernel, by decide +kernel, by decide +kernel,
        by decide +kernel, by decide +kernel, by decide +kernel, by decide +kernel, by decide +kernel, by decide +kernel⟩, ⟨by decide +kernel,
        ⟨by decide +kernel, ⟨by decide +kernel, ⟨by decide +kernel, ⟨_, rfl, by decide +kernel⟩⟩⟩⟩⟩⟩⟩,
    ⟨w5_3_s, 0, w5_3_d, w5_3_r, w5_3_a, w5_3_s2, w5_3_fl, ⟨((Instr.cast 0 w5_3_d, false)), ⟨.head _, ⟨⟨by decide +kernel, by decide +kernel,
        by decide +kernel, by decide +kernel, by decide +kernel, by decide +kernel, by decide +kernel, by decide +kernel, by decide +kernel⟩,
        ⟨by decide +kernel, ⟨by decide +kernel, by decide +kernel⟩⟩⟩⟩⟩⟩,
    ⟨w5_4_s, 0, w5_4_d, w5_4_r, w5_4_s2, w5_4_fl, ⟨⟨by decide +kernel, by decide +kernel, by decide +kernel, by decide +kernel, by decide +kernel,
        by decide +kernel, by decide +kernel, by decide +kernel, by decide +kernel⟩, by decide +kernel⟩⟩,
    ⟨w5_5_s, 0, w5_5_d, w5_5_r, w5_5_bs, w5_5_s2, ⟨⟨by decide +kernel, by decide +kernel, by decide +kernel, by decide +kernel, by decide +kernel,
        by decide +kernel, by decide +kernel, by decide +kernel, by decide +kernel⟩, ⟨by decide +kernel, ⟨by decide +kernel, ⟨by decide +kernel,
        ⟨by decide +kernel, ⟨by decide +kernel, ⟨by decide +kernel, by decide +kernel⟩⟩⟩⟩⟩⟩⟩⟩⟩

def w6_0_s : State := poke 0 (tensor (tile 0x1000) 2 2 8) (poke 64 (tensor (tile 0x2000) 2 2 8) (poke 128 (tensor (tile 0x3000) 2 2 8) run))
def w6_0_d : Desc := { cdsc with opcode := 32, refB := ref 2 0 }
def w6_0_es : List Nat := [0]
def w6_0_win := w6_0_d.win?
def w6_0_ck := w6_0_d.imm0.toNat % 2 ^ 25
def w6_0_cont := w6_0_d.continues ((Instr.matmul 0 w6_0_d, false)).2
def w6_0_r : Refs := okOr (w6_0_s.prep 0 w6_0_d (w6_0_d.matForm ((Instr.matmul 0 w6_0_d, false)).2)) default
def w6_0_sh : MShape := (okOr (matShape w6_0_win w6_0_r) ⟨0, 0, 0⟩)
def w6_0_e := (w6_0_s.atIssue 0).matEffect 0 w6_0_r { opener := !w6_0_cont, close := !w6_0_d.open_, chainK := if w6_0_ck = 0 then w6_0_sh.k else w6_0_ck, sh := w6_0_sh, win := w6_0_win } w6_0_es

/-- The hypotheses of `Obligations.MatrixDescriptorsDriveTheChain`, clause by clause. -/
theorem test_matrix_descriptors_drive_the_chain_met :
    (∃ (s : State) (lc : Nat) (d : Desc) (r : Refs) (sh : MShape) (es : List Nat), ∃ p, (p ∈ [(Instr.matmul lc d, false), (Instr.matmulAcc lc d, true)]) ∧
        ∃ win, win = (d.win?) ∧ ∃ ck, ck = (d.imm0.toNat % 2 ^ 25) ∧ ∃ cont, cont = (d.continues p.2) ∧ (s.RefReady lc d (d.matForm p.2) 4 r) ∧
        (matCheck win ck d.open_ cont (s.seq lc) r = none) ∧ (matShape win r = .ok sh) ∧
        ((cont = true → es = ((s.seq lc).chain.getD {}).engines ∧ ∀ i ∈ (s.seq lc).infl, ∀ e ∈ i.engines, e ∉ es)) ∧
        ((cont = false → let n := min sh.tiles (4 - (((s.seq lc).chain.map (·.engines)).getD []).length); 0 < n ∧ n ≤ (s.idleEngines lc).length ∧ es = (s.idleEngines lc).take n)) ∧
        ∃ e, e = ((s.atIssue lc).matEffect lc r { opener := !cont, close := !d.open_, chainK := if ck = 0 then sh.k else ck, sh := sh, win := win } es) ∧
        (e.fault = none)) :=
  ⟨w6_0_s, 0, w6_0_d, w6_0_r, w6_0_sh, w6_0_es, ⟨((Instr.matmul 0 w6_0_d, false)), ⟨.head _, ⟨_, rfl, ⟨_, rfl, ⟨_, rfl, ⟨⟨by decide +kernel,
      by decide +kernel, by decide +kernel, by decide +kernel, by decide +kernel, by decide +kernel, by decide +kernel, by decide +kernel,
      by decide +kernel⟩, ⟨by decide +kernel, ⟨ok_okOr (by decide +kernel), ⟨by decide +kernel, ⟨by decide +kernel, ⟨_, rfl,
      by decide +kernel⟩⟩⟩⟩⟩⟩⟩⟩⟩⟩⟩⟩

def w7_0_s : State := copies run
def w7_0_d : Desc := { cdsc with opcode := 48, subop := 1 }
def w7_0_r : Refs := okOr (w7_0_s.prep 0 w7_0_d (vecForm 0x30 (some ((Instr.unaryNeg 0 w7_0_d, 1)).2) [2, 2, 0, 0] 0)) default
def w7_0_x : Srcs := (okOr (((w7_0_s.atIssue 0).readSrcs 0 w7_0_r).2) default)
def w7_0_s2 : State := ((w7_0_s.atIssue 0).writeOut w7_0_r.dd (w7_0_s.partOf 0) ((w7_0_r.dd.t.ix.map (fun i => f32Unary ((Instr.unaryNeg 0 w7_0_d, 1)).2 (w7_0_x.a.f32 i))).map (fun y => (f32Val y, false))) (w7_0_s.whoOf 0)).1
def w7_0_fl : Flags := ((w7_0_s.atIssue 0).writeOut w7_0_r.dd (w7_0_s.partOf 0) ((w7_0_r.dd.t.ix.map (fun i => f32Unary ((Instr.unaryNeg 0 w7_0_d, 1)).2 (w7_0_x.a.f32 i))).map (fun y => (f32Val y, false))) (w7_0_s.whoOf 0)).2.1
def w7_1_s : State := rows3 run
def w7_1_d : Desc := { cdsc with opcode := 49, subop := 5, refB := ref 3 0 }
def w7_1_r : Refs := okOr (w7_1_s.prep 0 w7_1_d (vecForm 0x31 (some ((Instr.binaryMin 0 w7_1_d, 5, f32Min)).2.1) [2, 2, 2, 0] 0)) default
def w7_1_x : Srcs := (okOr (((w7_1_s.atIssue 0).readSrcs 0 w7_1_r).2) default)
def w7_1_s2 : State := ((w7_1_s.atIssue 0).writeOut w7_1_r.dd (w7_1_s.partOf 0) ((w7_1_r.dd.t.ix.map (fun i => ((Instr.binaryMin 0 w7_1_d, 5, f32Min)).2.2 (w7_1_x.a.f32 i) (w7_1_x.b.f32 i))).map (fun y => (f32Val y, false))) (w7_1_s.whoOf 0)).1
def w7_1_fl : Flags := ((w7_1_s.atIssue 0).writeOut w7_1_r.dd (w7_1_s.partOf 0) ((w7_1_r.dd.t.ix.map (fun i => ((Instr.binaryMin 0 w7_1_d, 5, f32Min)).2.2 (w7_1_x.a.f32 i) (w7_1_x.b.f32 i))).map (fun y => (f32Val y, false))) (w7_1_s.whoOf 0)).2.1
def w7_2_s : State := rows3 run
def w7_2_d : Desc := { cdsc with opcode := 50, refB := ref 3 0, refC := ref 3 0 }
def w7_2_r : Refs := okOr (w7_2_s.prep 0 w7_2_d (vecForm 0x32 none [2, 2, 2, 2] 0)) default
def w7_2_x : Srcs := (okOr (((w7_2_s.atIssue 0).readSrcs 0 w7_2_r).2) default)
def w7_2_s2 : State := ((w7_2_s.atIssue 0).writeOut w7_2_r.dd (w7_2_s.partOf 0) ((w7_2_r.dd.t.ix.map (fun i => f32Fma (w7_2_x.a.f32 i) (w7_2_x.b.f32 i) (w7_2_x.c.f32 i))).map (fun y => (f32Val y, false))) (w7_2_s.whoOf 0)).1
def w7_2_fl : Flags := ((w7_2_s.atIssue 0).writeOut w7_2_r.dd (w7_2_s.partOf 0) ((w7_2_r.dd.t.ix.map (fun i => f32Fma (w7_2_x.a.f32 i) (w7_2_x.b.f32 i) (w7_2_x.c.f32 i))).map (fun y => (f32Val y, false))) (w7_2_s.whoOf 0)).2.1
def w7_3_s : State := poke 0 (tensor (tile 0x1000) 2 1 8) (poke 64 (tensor (tile 0x2000) 1 1 8) run)
def w7_3_d : Desc := { cdsc with opcode := 51 }
def w7_3_r : Refs := okOr (w7_3_s.prep 0 w7_3_d (vecForm 0x33 (some ((Instr.rowredSum 0 w7_3_d, 0, f32Sum)).2.1) [2, 2, 0, 0] 0)) default
def w7_3_x : Srcs := (okOr (((w7_3_s.atIssue 0).readSrcs 0 w7_3_r).2) default)
def w7_3_s2 : State := ((w7_3_s.atIssue 0).writeOut w7_3_r.dd (w7_3_s.partOf 0) ((w7_3_r.dd.t.rowIx.map (fun i => ((Instr.rowredSum 0 w7_3_d, 0, f32Sum)).2.2 (rowVals w7_3_x.a w7_3_r.aa.t.e0 i))).map (fun y => (f32Val y, false))) (w7_3_s.whoOf 0)).1
def w7_3_fl : Flags := ((w7_3_s.atIssue 0).writeOut w7_3_r.dd (w7_3_s.partOf 0) ((w7_3_r.dd.t.rowIx.map (fun i => ((Instr.rowredSum 0 w7_3_d, 0, f32Sum)).2.2 (rowVals w7_3_x.a w7_3_r.aa.t.e0 i))).map (fun y => (f32Val y, false))) (w7_3_s.whoOf 0)).2.1
def w7_4_s : State := poke 0 (tensor (tile 0x1000) 2 1 8) (poke 64 (tensor (tile 0x2000) 1 1 8) run)
def w7_4_d : Desc := { cdsc with opcode := 51, subop := 5, refD := ref 1 0 ||| 0x4000 }
def w7_4_r : Refs := okOr (w7_4_s.prep 0 w7_4_d argmaxForm) default
def w7_4_x : Srcs := (okOr (((w7_4_s.atIssue 0).readSrcs 0 w7_4_r).2) default)
def w7_4_s2 : State := ((w7_4_s.atIssue 0).writeBits w7_4_r.dd.t (w7_4_r.dd.t.rowIx.map (fun i => argMax (rowVals w7_4_x.a w7_4_r.aa.t.e0 i))) (w7_4_s.whoOf 0)).1
def w7_5_s : State := copies run
def w7_5_d : Desc := { cdsc with opcode := 52, imm0 := 0x3F800000 }
def w7_5_r : Refs := okOr (w7_5_s.prep 0 w7_5_d (vecForm 0x34 none [2, 2, 0, 0] (2 ^ 32 - 1))) default
def w7_5_x : Srcs := (okOr (((w7_5_s.atIssue 0).readSrcs 0 w7_5_r).2) default)
def w7_5_s2 : State := ((w7_5_s.atIssue 0).writeOut w7_5_r.dd (w7_5_s.partOf 0) ((w7_5_r.dd.t.rowIx.flatMap (fun i => softmaxRow w7_5_d.imm0.toNat (rowVals w7_5_x.a w7_5_r.dd.t.e0 i))).map (fun y => (f32Val y, false))) (w7_5_s.whoOf 0)).1
def w7_5_fl : Flags := ((w7_5_s.atIssue 0).writeOut w7_5_r.dd (w7_5_s.partOf 0) ((w7_5_r.dd.t.rowIx.flatMap (fun i => softmaxRow w7_5_d.imm0.toNat (rowVals w7_5_x.a w7_5_r.dd.t.e0 i))).map (fun y => (f32Val y, false))) (w7_5_s.whoOf 0)).2.1
def w7_6_s : State := copies run
def w7_6_d : Desc := { cdsc with opcode := 53, subop := 1, imm0 := 0x3F800000 }
def w7_6_r : Refs := okOr (w7_6_s.prep 0 w7_6_d (vecForm 0x35 (some (bool01 ((Instr.normRmsnorm 0 w7_6_d, true)).2)) [2, 2, 1, 1] (2 ^ 32 - 1))) default
def w7_6_x : Srcs := (okOr (((w7_6_s.atIssue 0).readSrcs 0 w7_6_r).2) default)
def w7_6_s2 : State := ((w7_6_s.atIssue 0).writeOut w7_6_r.dd (w7_6_s.partOf 0) ((let y := fun (v : Nat × Nat) => if w7_6_x.hasB then f32Mul v.1 (w7_6_x.b.f32 (v.2, 0, 0, 0)) else v.1; let z := fun (v : Nat × Nat) => if w7_6_x.hasC then f32Add (y v) (w7_6_x.c.f32 (v.2, 0, 0, 0)) else y v; w7_6_r.dd.t.rowIx.flatMap (fun i => (normRow ((Instr.normRmsnorm 0 w7_6_d, true)).2 w7_6_d.imm0.toNat (rowVals w7_6_x.a w7_6_r.dd.t.e0 i)).zipIdx.map z)).map (fun y => (f32Val y, false))) (w7_6_s.whoOf 0)).1
def w7_6_fl : Flags := ((w7_6_s.atIssue 0).writeOut w7_6_r.dd (w7_6_s.partOf 0) ((let y := fun (v : Nat × Nat) => if w7_6_x.hasB then f32Mul v.1 (w7_6_x.b.f32 (v.2, 0, 0, 0)) else v.1; let z := fun (v : Nat × Nat) => if w7_6_x.hasC then f32Add (y v) (w7_6_x.c.f32 (v.2, 0, 0, 0)) else y v; w7_6_r.dd.t.rowIx.flatMap (fun i => (normRow ((Instr.normRmsnorm 0 w7_6_d, true)).2 w7_6_d.imm0.toNat (rowVals w7_6_x.a w7_6_r.dd.t.e0 i)).zipIdx.map z)).map (fun y => (f32Val y, false))) (w7_6_s.whoOf 0)).2.1

/-- The hypotheses of `Obligations.VectorDescriptorsCompute`, clause by clause. -/
theorem test_vector_descriptors_compute_met :
    (∃ (s : State) (lc : Nat) (d : Desc), ∃ p, (p ∈ [(Instr.unaryCopy lc d, 0), (.unaryNeg lc d, 1), (.unaryAbs lc d, 2), (.unaryRelu lc d, 3),
        (.unarySquare lc d, 4), (.unaryRecip lc d, 5), (.unarySqrt lc d, 6), (.unaryRsqrt lc d, 7), (.unaryExp lc d, 8), (.unaryExp2 lc d, 9),
        (.unaryLog lc d, 10), (.unaryLog2 lc d, 11), (.unaryTanh lc d, 12), (.unaryErf lc d, 13), (.unarySin lc d, 14), (.unaryCos lc d, 15),
        (.unarySigmoid lc d, 16), (.unarySilu lc d, 17), (.unaryGeluTanh lc d, 18), (.unaryGeluErf lc d, 19)]) ∧
        ∃ (r : Refs) (x : Srcs) (s2 : State) (fl : Flags), (s.RefReady lc d (vecForm 0x30 (some p.2) [2, 2, 0, 0] 0) 3 r) ∧ (vecShape r = none) ∧
        ((s.atIssue lc).readSrcs lc r = (s.atIssue lc, .ok x)) ∧
        ((s.atIssue lc).writeOut r.dd (s.partOf lc) ((r.dd.t.ix.map (fun i => f32Unary p.2 (x.a.f32 i))).map (fun y => (f32Val y, false))) (s.whoOf lc) = (s2, fl, true))) ∧
    (∃ (s : State) (lc : Nat) (d : Desc), ∃ p, (p ∈ [(Instr.binaryAdd lc d, 0, f32Add), (.binarySub lc d, 1, f32Sub), (.binaryMul lc d, 2, f32Mul),
        (.binaryDiv lc d, 3, f32Div), (.binaryMax lc d, 4, f32Max), (.binaryMin lc d, 5, f32Min)]) ∧
        ∃ (r : Refs) (x : Srcs) (s2 : State) (fl : Flags), (s.RefReady lc d (vecForm 0x31 (some p.2.1) [2, 2, 2, 0] 0) 3 r) ∧ (vecShape r = none) ∧
        ((s.atIssue lc).readSrcs lc r = (s.atIssue lc, .ok x)) ∧
        ((s.atIssue lc).writeOut r.dd (s.partOf lc) ((r.dd.t.ix.map (fun i => p.2.2 (x.a.f32 i) (x.b.f32 i))).map (fun y => (f32Val y, false))) (s.whoOf lc) = (s2, fl, true))) ∧
    (∃ (s : State) (lc : Nat) (d : Desc), ∃ (r : Refs) (x : Srcs) (s2 : State) (fl : Flags), (s.RefReady lc d (vecForm 0x32 none [2, 2, 2, 2] 0) 3 r) ∧
        (vecShape r = none) ∧ ((s.atIssue lc).readSrcs lc r = (s.atIssue lc, .ok x)) ∧
        ((s.atIssue lc).writeOut r.dd (s.partOf lc) ((r.dd.t.ix.map (fun i => f32Fma (x.a.f32 i) (x.b.f32 i) (x.c.f32 i))).map (fun y => (f32Val y, false))) (s.whoOf lc) = (s2, fl, true))) ∧
    (∃ (s : State) (lc : Nat) (d : Desc), ∃ p, (p ∈ [(Instr.rowredSum lc d, 0, f32Sum), (.rowredMax lc d, 1, foldRow f32Max),
        (.rowredMin lc d, 2, foldRow f32Min), (.rowredAbsmax lc d, 3, fun l => foldRow f32Max (l.map (f32Unary 2))),
        (.rowredSumsq lc d, 4, fun l => f32Sum (l.map (fun x => f32Mul x x)))]) ∧
        ∃ (r : Refs) (x : Srcs) (s2 : State) (fl : Flags), (s.RefReady lc d (vecForm 0x33 (some p.2.1) [2, 2, 0, 0] 0) 3 r) ∧
        (rowredShape r = none) ∧ ((s.atIssue lc).readSrcs lc r = (s.atIssue lc, .ok x)) ∧
        ((s.atIssue lc).writeOut r.dd (s.partOf lc) ((r.dd.t.rowIx.map (fun i => p.2.2 (rowVals x.a r.aa.t.e0 i))).map (fun y => (f32Val y, false))) (s.whoOf lc) = (s2, fl, true))) ∧
    (∃ (s : State) (lc : Nat) (d : Desc) (r : Refs) (x : Srcs) (s2 : State), (s.RefReady lc d argmaxForm 3 r) ∧ (rowredShape r = none) ∧
        ((s.atIssue lc).readSrcs lc r = (s.atIssue lc, .ok x)) ∧
        ((s.atIssue lc).writeBits r.dd.t (r.dd.t.rowIx.map (fun i => argMax (rowVals x.a r.aa.t.e0 i))) (s.whoOf lc) = (s2, true))) ∧
    (∃ (s : State) (lc : Nat) (d : Desc), ∃ (r : Refs) (x : Srcs) (s2 : State) (fl : Flags), (s.RefReady lc d (vecForm 0x34 none [2, 2, 0, 0] (2 ^ 32 - 1)) 3 r) ∧
        (vecShape r = none) ∧ ((s.atIssue lc).readSrcs lc r = (s.atIssue lc, .ok x)) ∧
        ((s.atIssue lc).writeOut r.dd (s.partOf lc) ((r.dd.t.rowIx.flatMap (fun i => softmaxRow d.imm0.toNat (rowVals x.a r.dd.t.e0 i))).map (fun y => (f32Val y, false))) (s.whoOf lc) = (s2, fl, true))) ∧
    (∃ (s : State) (lc : Nat) (d : Desc), ∃ p, (p ∈ [(Instr.normLayernorm lc d, false), (.normRmsnorm lc d, true)]) ∧
        ∃ (r : Refs) (x : Srcs) (s2 : State) (fl : Flags), (s.RefReady lc d (vecForm 0x35 (some (bool01 p.2)) [2, 2, 1, 1] (2 ^ 32 - 1)) 3 r) ∧
        (normShape r = none) ∧ ((s.atIssue lc).readSrcs lc r = (s.atIssue lc, .ok x)) ∧
        ((s.atIssue lc).writeOut r.dd (s.partOf lc) ((let y := fun (v : Nat × Nat) => if x.hasB then f32Mul v.1 (x.b.f32 (v.2, 0, 0, 0)) else v.1; let z := fun (v : Nat × Nat) => if x.hasC then f32Add (y v) (x.c.f32 (v.2, 0, 0, 0)) else y v; r.dd.t.rowIx.flatMap (fun i => (normRow p.2 d.imm0.toNat (rowVals x.a r.dd.t.e0 i)).zipIdx.map z)).map (fun y => (f32Val y, false))) (s.whoOf lc) = (s2, fl, true))) :=
  ⟨
    ⟨w7_0_s, 0, w7_0_d, ⟨((Instr.unaryNeg 0 w7_0_d, 1)), ⟨.tail _ (.head _), ⟨w7_0_r, w7_0_x, w7_0_s2, w7_0_fl, ⟨⟨by decide +kernel,
        by decide +kernel, by decide +kernel, by decide +kernel, by decide +kernel, by decide +kernel, by decide +kernel, by decide +kernel,
        by decide +kernel⟩, ⟨by decide +kernel, ⟨Prod.ext (by decide +kernel) (ok_okOr (by decide +kernel)), by decide +kernel⟩⟩⟩⟩⟩⟩⟩,
    ⟨w7_1_s, 0, w7_1_d, ⟨((Instr.binaryMin 0 w7_1_d, 5, f32Min)), ⟨.tail _ (.tail _ (.tail _ (.tail _ (.tail _ (.head _))))),
        ⟨w7_1_r, w7_1_x, w7_1_s2, w7_1_fl, ⟨⟨by decide +kernel, by decide +kernel, by decide +kernel, by decide +kernel, by decide +kernel,
        by decide +kernel, by decide +kernel, by decide +kernel, by decide +kernel⟩, ⟨by decide +kernel,
        ⟨Prod.ext (by decide +kernel) (ok_okOr (by decide +kernel)), by decide +kernel⟩⟩⟩⟩⟩⟩⟩,
    ⟨w7_2_s, 0, w7_2_d, ⟨w7_2_r, w7_2_x, w7_2_s2, w7_2_fl, ⟨⟨by decide +kernel, by decide +kernel, by decide +kernel, by decide +kernel,
        by decide +kernel, by decide +kernel, by decide +kernel, by decide +kernel, by decide +kernel⟩, ⟨by decide +kernel,
        ⟨Prod.ext (by decide +kernel) (ok_okOr (by decide +kernel)), by decide +kernel⟩⟩⟩⟩⟩,
    ⟨w7_3_s, 0, w7_3_d, ⟨((Instr.rowredSum 0 w7_3_d, 0, f32Sum)), ⟨.head _, ⟨w7_3_r, w7_3_x, w7_3_s2, w7_3_fl, ⟨⟨by decide +kernel,
        by decide +kernel, by decide +kernel, by decide +kernel, by decide +kernel, by decide +kernel, by decide +kernel, by decide +kernel,
        by decide +kernel⟩, ⟨by decide +kernel, ⟨Prod.ext (by decide +kernel) (ok_okOr (by decide +kernel)), by decide +kernel⟩⟩⟩⟩⟩⟩⟩,
    ⟨w7_4_s, 0, w7_4_d, w7_4_r, w7_4_x, w7_4_s2, ⟨⟨by decide +kernel, by decide +kernel, by decide +kernel, by decide +kernel, by decide +kernel,
        by decide +kernel, by decide +kernel, by decide +kernel, by decide +kernel⟩, ⟨by decide +kernel,
        ⟨Prod.ext (by decide +kernel) (ok_okOr (by decide +kernel)), by decide +kernel⟩⟩⟩⟩,
    ⟨w7_5_s, 0, w7_5_d, ⟨w7_5_r, w7_5_x, w7_5_s2, w7_5_fl, ⟨⟨by decide +kernel, by decide +kernel, by decide +kernel, by decide +kernel,
        by decide +kernel, by decide +kernel, by decide +kernel, by decide +kernel, by decide +kernel⟩, ⟨by decide +kernel,
        ⟨Prod.ext (by decide +kernel) (ok_okOr (by decide +kernel)), by decide +kernel⟩⟩⟩⟩⟩,
    ⟨w7_6_s, 0, w7_6_d, ⟨((Instr.normRmsnorm 0 w7_6_d, true)), ⟨.tail _ (.head _), ⟨w7_6_r, w7_6_x, w7_6_s2, w7_6_fl, ⟨⟨by decide +kernel,
        by decide +kernel, by decide +kernel, by decide +kernel, by decide +kernel, by decide +kernel, by decide +kernel, by decide +kernel,
        by decide +kernel⟩, ⟨by decide +kernel, ⟨Prod.ext (by decide +kernel) (ok_okOr (by decide +kernel)), by decide +kernel⟩⟩⟩⟩⟩⟩⟩⟩

/-- A collective with one other member, which core 0 waits for. -/
def collRun (t : Nat) : State :=
  { (runWith (fun q => { q with infl := [{ wait := some (.coll 9) }] })).setFld .time Tim.TICK_LO t with
    colls := [{ tag := 9, part := 1, elems := 2, n := 2, group := [0, 1], ranks := [0, 1] }] }

def w8_0_s : State := poke 256 (bytesLE 8 (1 + 2 ^ 32) ++ bytesLE 8 6) (poke 320 (tensor (tile 150994944) 16384 1 65536) (copies ((peers run).setFld .rt Rt.RNK_DATA 65536 6)))
def w8_0_d : Desc := { cdsc with opcode := 58, refC := ref 5 0, imm0 := 0x400000100 }
def w8_0_op := bitsOf w8_0_d.imm0.toNat 7 4
def w8_0_mode := bitsOf w8_0_d.imm0.toNat 9 8
def w8_0_tag := w8_0_d.imm1.toNat
def w8_0_r : Refs := okOr (w8_0_s.prep 0 w8_0_d (w8_0_d.collForm ((Instr.collAllReduce 0 w8_0_d, 0)).2)) default
def w8_0_s1 := (w8_0_s.atIssue 0).collPurge
def w8_0_bits : List Nat := (((w8_0_s1.readBits w8_0_r.aa.t (w8_0_s.whoOf 0)).2).getD default)
def w8_0_scs : List Nat := ((((match w8_0_r.aa.sc with | some sc => w8_0_s1.readBits sc (w8_0_s.whoOf 0) | none => (w8_0_s1, some []))).2).getD default)
def w8_1_s : State := collRun 2000
def w8_1_c : Coll := ((w8_1_s.collPurge.coll 9).getD default)
def w8_2_s : State := { collRun 2000 with ct := [(1, { valid := true, policy := 1 })] }
def w8_2_c : Coll := ((w8_2_s.collPurge.coll 9).getD default)
def w8_3_s : State := runWith (fun q => { q with infl := [{ id := 3, unit := 3 }] })
def w8_3_i : Infl := (((w8_3_s.seq 0).infl.find? (fun i => i.id == 3)).getD default)
def w8_4_s : State := runWith (fun q => { q with infl := [{ id := 3, unit := 3 }] })
def w8_4_i : Infl := (((w8_4_s.seq 0).infl.find? (fun i => i.id == 3)).getD default)

/-- The hypotheses of `Obligations.DescriptorsRetireAndTimeOut`, clause by clause. -/
theorem test_descriptors_retire_and_time_out_met :
    (∃ (s : State) (lc : Nat) (d : Desc) (r : Refs) (bits : List Nat) (scs : List Nat), ∃ p, (p ∈ [(Instr.collAllReduce lc d, 0), (Instr.collReduceScatter lc d, 1), (Instr.collAllGather lc d, 2), (Instr.collAllToAll lc d, 3)]) ∧
        ∃ tag, tag = (d.imm1.toNat) ∧ (s.RefReady lc d (d.collForm p.2) 5 r) ∧ (s.collCheck lc p.2 tag d r = none) ∧
        ∃ s1, s1 = ((s.atIssue lc).collPurge) ∧ (s1.readBits r.aa.t (s.whoOf lc) = (s1, some bits)) ∧
        ((match r.aa.sc with | some sc => s1.readBits sc (s.whoOf lc) | none => (s1, some [])) = (s1, some scs))) ∧
    (∃ (s : State) (tag : Nat) (c : Coll), (s.collPurge.coll tag = some c) ∧ (c.progress + s.collTo c.part ≤ s.tick) ∧ (c.missing ≠ []) ∧
        (s.policy c.part ≠ 1 ∨ c.kind ≠ 0)) ∧
    (∃ (s : State) (tag : Nat) (c : Coll), (s.collPurge.coll tag = some c) ∧ (c.progress + s.collTo c.part ≤ s.tick) ∧ (c.missing ≠ []) ∧
        (s.policy c.part = 1) ∧ (c.kind = 0) ∧
        ((s.absentSet c.part).length + (c.missing.filter (fun r => !(s.absentSet c.part).contains r)).eraseDups.length ≤ 8) ∧
        (∀ r ∈ c.missing, r < 16384)) ∧
    (∃ (s : State) (lc : Nat) (id : Nat) (i : Infl), ((s.seq lc).infl.find? (fun i => i.id == id) = some i) ∧ ((s.seq lc).st = 1) ∧ (s.completable i = true)) ∧
    (∃ (s : State) (lc : Nat) (id : Nat) (i : Infl) (e : Nat), ((s.seq lc).infl.find? (fun i => i.id == id) = some i) ∧ ((s.seq lc).st = 1) ∧
        (s.completable i = true) ∧ (i.unit = 3 ∨ i.unit = 4) ∧ (i.cont = false)) ∧
    (∃ (s : State) (lc : Nat), ((s.seq lc).st = 1) ∧ ((s.seq lc).lastDone + s.fld .wd Wd.WD_CTX ≤ s.tick) ∧ (s.unitDown (lc / 8) (s.physOf lc) = false)) :=
  ⟨
    ⟨w8_0_s, 0, w8_0_d, w8_0_r, w8_0_bits, w8_0_scs, ⟨((Instr.collAllReduce 0 w8_0_d, 0)), ⟨.head _, ⟨_, rfl, ⟨⟨by decide +kernel, by decide +kernel,
        by decide +kernel, by decide +kernel, by decide +kernel, by decide +kernel, by decide +kernel, by decide +kernel, by decide +kernel⟩,
        ⟨by decide +kernel, ⟨_, rfl, ⟨by decide +kernel, by decide +kernel⟩⟩⟩⟩⟩⟩⟩⟩,
    ⟨w8_1_s, 9, w8_1_c, ⟨by decide +kernel, ⟨by decide +kernel, ⟨by decide +kernel, by decide +kernel⟩⟩⟩⟩,
    ⟨w8_2_s, 9, w8_2_c, ⟨by decide +kernel, ⟨by decide +kernel, ⟨by decide +kernel, ⟨by decide +kernel, ⟨by decide +kernel, ⟨by decide +kernel,
        by decide +kernel⟩⟩⟩⟩⟩⟩⟩,
    ⟨w8_3_s, 0, 3, w8_3_i, ⟨by decide +kernel, ⟨by decide +kernel, by decide +kernel⟩⟩⟩,
    ⟨w8_4_s, 0, 3, w8_4_i, 0, ⟨by decide +kernel, ⟨by decide +kernel, ⟨by decide +kernel, ⟨by decide +kernel, by decide +kernel⟩⟩⟩⟩⟩,
    ⟨run.setFld .time Tim.TICK_LO 1000000, 0, ⟨by decide +kernel, ⟨by decide +kernel, by decide +kernel⟩⟩⟩⟩

def w9_6_s : State := { up with resets := [{ level := 5 }] }
def w9_6_r : RstRun := ((w9_6_s.resets.find? (fun r => r.level == 5 && r.upath == 0)).getD default)
def w9_7_s : State := { up.setFld .time Tim.TICK_LO 200 with resets := [{ level := 4 }] }
def w9_7_r : RstRun := ((w9_7_s.resets.find? (fun r => r.level == 4 && r.upath == 0)).getD default)

/-- The hypotheses of `Obligations.ResetsStartCompleteAndEscalate`, clause by clause. -/
theorem test_resets_start_complete_and_escalate_met :
    (∃ (s : State) (d : Nat) (c : Nat) (p : Nat) (e : Nat), (d < 2) ∧ (c < 4) ∧ (p < 9) ∧ (e < 4) ∧
        (s.fld .wd Wd.WD_LIMITS_WD_ENG ≤ smGet (fun _ => 0) (tGet s.cores (d * 64 + c * 16 + p)).engIdle e) ∧
        (s.fld (.eng d c p e) Eng.ENG_STATUS_STATE = 1) ∧ (s.unitDown (4 * d + c) p = false) ∧
        (s.resets.any (fun r => r.holds 1 (upathEngine d c p e)) = false)) ∧
    (∃ (s : State) (d : Nat) (c : Nat) (p : Nat), (d < 2) ∧ (c < 4) ∧ (p < 9) ∧
        (s.fld .wd Wd.WD_LIMITS_WD_SEQ ≤ (tGet s.cores (d * 64 + c * 16 + p)).probeMiss) ∧ (s.unitDown (4 * d + c) p = false)) ∧
    (∃ (s : State) (lc : Nat), (lc < 64) ∧ ((s.seq lc).st = 3) ∧ ((s.seq lc).lastDone + 2 ≤ s.tick) ∧ (s.physOf lc < 9) ∧
        (s.unitDown (lc / 8) (s.physOf lc) = false)) ∧
    (∃ (s : State) (m : Master), (s.MayWrite m .rst) ∧ (s.failed = false) ∧ ∃ l, l = (s.fld .rst Rst.RST_CMD_LEVEL) ∧
        ∃ u, u = (s.fld .rst Rst.RST_CMD_UPATH) ∧ (upValid l u = true) ∧ (s.resets.any (fun r => r.holds l u) = false)) ∧
    (∃ (s : State) (m : Master), (s.MayWrite m .rst) ∧ ((s.failed = true ∨ upValid (s.fld .rst Rst.RST_CMD_LEVEL) (s.fld .rst Rst.RST_CMD_UPATH) = false))) ∧
    (∃ (s : State) (m : Master) (pg : Nat) (p : Page) (l : Nat) (u : Nat), (Page.ofBase pg = some p) ∧ (p.unit = some (l, u)) ∧ (s.MayWrite m p) ∧
        (s.failed = false) ∧ (upValid l u = true) ∧ (s.resets.any (fun r => r.holds l u) = false)) ∧
    (∃ (s : State) (level : Nat) (upath : Nat) (ns : Nat) (r : RstRun), (s.resets.find? (fun r => r.level == level && r.upath == upath) = some r) ∧
        (1 ≤ level) ∧ (level ≤ 5)) ∧
    (∃ (s : State) (level : Nat) (upath : Nat) (r : RstRun), (s.resets.find? (fun r => r.level == level && r.upath == upath) = some r) ∧
        (1 ≤ level) ∧ (level < 5) ∧ (r.start + rstBound level ≤ s.tick) ∧ (s.failed = false)) ∧
    (∃ (s : State) (r : RstRun), (r ∈ s.resets) ∧ (r.level = 5) ∧ (r.start + 5000 ≤ s.tick) ∧ (s.failed = false)) :=
  ⟨
    ⟨{ up with cores := [(0, { engIdle := [(0, 2)] })] }.setFld (.eng 0 0 0 0) Eng.ENG_STATUS_STATE 1, 0, 0, 0, 0, ⟨by decide +kernel,
        ⟨by decide +kernel, ⟨by decide +kernel, ⟨by decide +kernel, ⟨by decide +kernel, ⟨by decide +kernel, ⟨by decide +kernel,
        by decide +kernel⟩⟩⟩⟩⟩⟩⟩⟩,
    ⟨{ up with cores := [(120, { probeMiss := 2 })] }, 1, 3, 8, ⟨by decide +kernel, ⟨by decide +kernel, ⟨by decide +kernel, ⟨by decide +kernel,
        by decide +kernel⟩⟩⟩⟩⟩,
    ⟨{ up.setFld .time Tim.TICK_LO 2 with seqs := [(63, { st := 3 })] }, 63, ⟨by decide +kernel, ⟨by decide +kernel, ⟨by decide +kernel,
        ⟨by decide +kernel, by decide +kernel⟩⟩⟩⟩⟩,
    ⟨((own .rst up).setFld .rst Rst.RST_CMD_LEVEL 5).setFld .rst Rst.RST_CMD_UPATH (upAt 5 0), .host, ⟨by unfold State.MayWrite; decide +kernel,
        ⟨by decide +kernel, ⟨_, rfl, ⟨_, rfl, ⟨by decide +kernel, by decide +kernel⟩⟩⟩⟩⟩⟩,
    ⟨own .rst up, .host, ⟨by unfold State.MayWrite; decide +kernel, by decide +kernel⟩⟩,
    ⟨own (.cluster 1 3) up, .host, (Page.cluster 1 3).base, .cluster 1 3, 3, upathCluster 1 3, ⟨by decide +kernel, ⟨by decide +kernel,
        ⟨by unfold State.MayWrite; decide +kernel, ⟨by decide +kernel, ⟨by decide +kernel, by decide +kernel⟩⟩⟩⟩⟩⟩,
    ⟨w9_6_s, 5, 0, 7, w9_6_r, ⟨by decide +kernel, ⟨by decide +kernel, by decide +kernel⟩⟩⟩,
    ⟨w9_7_s, 4, 0, w9_7_r, ⟨by decide +kernel, ⟨by decide +kernel, ⟨by decide +kernel, ⟨by decide +kernel, by decide +kernel⟩⟩⟩⟩⟩,
    ⟨{ up.setFld .time Tim.TICK_LO 5000 with resets := [{ level := 5 }] }, { level := 5 }, ⟨by decide +kernel, ⟨by decide +kernel,
        ⟨by decide +kernel, by decide +kernel⟩⟩⟩⟩⟩

def w10_1_s : State := { up with nmus := [(0, { qCall := [{ w0 := 1, cnt := 64, src := 3 }] })] }
def w10_1_c : NCmd := ((((w10_1_s.nmuSt 0).pick).getD default)).1
def w10_1_x : NmuSt := ((((w10_1_s.nmuSt 0).pick).getD default)).2
def w10_2_s : State := { up with nmus := [(0, { qPage := [{ src := 3 }] })] }
def w10_2_c : NCmd := ((((w10_2_s.nmuSt 0).pick).getD default)).1
def w10_2_x : NmuSt := ((((w10_2_s.nmuSt 0).pick).getD default)).2
def w10_3_s : State := { up with nmus := [(0, { running := [{ done := true, src := 1 }] })] }
def w10_3_c : NCmd := (((w10_3_s.nmuSt 0).running[0]?).getD default)

/-- The hypotheses of `Obligations.NmuQueuesRunInOrder`, clause by clause. -/
theorem test_nmu_queues_run_in_order_met :
    (∃ (s : State) (m : Master) (k : Nat) (v : Word), (s.MayWrite m (.nmu k)) ∧ (bitAt v.toNat 0 = true) ∧ ((s.nmuSt k).failed = false) ∧
        (((s.nmuSt k).qPage.filter (fun c => c.src != 3)).length < 8)) ∧
    (∃ (s : State) (k : Nat) (c : NCmd) (x : NmuSt), ((s.nmuSt k).inReset = false) ∧ ((s.nmuSt k).failed = false) ∧
        (((s.nmuSt k).running.filter (fun c => c.src != 2)).length < 4) ∧ ((s.nmuSt k).pick = some (c, x)) ∧ (c.err = 0) ∧ (s.nmuCheck c = 0) ∧
        (s.nmuConflict (s.nmuSt k) c = false)) ∧
    (∃ (s : State) (k : Nat) (c : NCmd) (x : NmuSt), ((s.nmuSt k).inReset = false) ∧ ((s.nmuSt k).failed = false) ∧
        (((s.nmuSt k).running.filter (fun c => c.src != 2)).length < 4) ∧ ((s.nmuSt k).pick = some (c, x)) ∧ (c.err = 0) ∧ (s.nmuCheck c ≠ 0)) ∧
    (∃ (s : State) (k : Nat) (idx : Nat) (c : NCmd), ((s.nmuSt k).running[idx]? = some c) ∧ (c.done = true) ∧ (c.src = 0 ∨ c.src = 1) ∧ (c.err = 0) ∧
        (s.consumeOpen c = false) ∧ (s.heldOn (s.nmuDest c) = false)) ∧
    (∃ (s : State) (k : Nat) (c : NCmd) (l : List NCmd), ((s.nmuSt k).running = c :: l) ∧ (s.fld .wd Wd.WD_LIMITS_WD_NMU ≤ (s.nmuSt k).idle) ∧
        ((s.nmuSt k).inReset = false) ∧ ((s.nmuSt k).failed = false)) ∧
    (∃ (s : State) (k : Nat), ((s.nmuSt k).inReset = true) ∧ ((s.nmuSt k).failed = false)) ∧
    (∃ (s : State) (k : Nat), ((s.nmuSt k).inReset = true) ∧ ((s.nmuSt k).failed = false) ∧ ((s.nmuSt k).rstTick + 1000 ≤ s.tick)) :=
  ⟨
    ⟨own (.nmu 0) up, .host, 0, 1, ⟨by unfold State.MayWrite; decide +kernel, ⟨by decide +kernel, ⟨by decide +kernel, by decide +kernel⟩⟩⟩⟩,
    ⟨w10_1_s, 0, w10_1_c, w10_1_x, ⟨by decide +kernel, ⟨by decide +kernel, ⟨by decide +kernel, ⟨by decide +kernel, ⟨by decide +kernel,
        ⟨by decide +kernel, by decide +kernel⟩⟩⟩⟩⟩⟩⟩,
    ⟨w10_2_s, 0, w10_2_c, w10_2_x, ⟨by decide +kernel, ⟨by decide +kernel, ⟨by decide +kernel, ⟨by decide +kernel, ⟨by decide +kernel, by decide +kernel⟩⟩⟩⟩⟩⟩,
    ⟨w10_3_s, 0, 0, w10_3_c, ⟨by decide +kernel, ⟨by decide +kernel, ⟨by decide +kernel, ⟨by decide +kernel, ⟨by decide +kernel, by decide +kernel⟩⟩⟩⟩⟩⟩,
    ⟨{ up with nmus := [(0, { running := [{}], idle := 3 })] }, 0, {}, [], ⟨by decide +kernel, ⟨by decide +kernel, ⟨by decide +kernel, by decide +kernel⟩⟩⟩⟩,
    ⟨{ up with nmus := [(0, { inReset := true })] }, 0, ⟨by decide +kernel, by decide +kernel⟩⟩,
    ⟨{ up.setFld .time Tim.TICK_LO 1000 with nmus := [(0, { inReset := true })] }, 0, ⟨by decide +kernel, ⟨by decide +kernel, by decide +kernel⟩⟩⟩⟩

/-- The NMU of stack 0 runs one command, whose operands lie in tile memory. -/
def nmuWith (c : NCmd) (s : State) : State := { s with nmus := [(0, { running := [c] })] }
def cmd : NCmd := { a0 := tile 0x1000, a1 := tile 0x2000, a2 := tile 0x3000, a3 := tile 0x4000, cnt := 64 }
def addrs (l : List Nat) (s : State) : State := poke 0x2000 (l.flatMap (bytesLE 8)) s

def w11_0_s : State := nmuWith { cmd with w0 := 1 } (up)
def w11_0_c : NCmd := (w11_0_s.nmuRun 0 0 1 0).getD {}
def w11_0_u : State := (w11_0_s.nmuWrite w11_0_c w11_0_c.a0 ((List.replicate (w11_0_c.cnt / 64) ((List.replicate 8 (bytesLE 8 w11_0_c.param)).flatten)).flatten) w11_0_c.cnt).1
def w11_0_e : Nat := (w11_0_s.nmuWrite w11_0_c w11_0_c.a0 ((List.replicate (w11_0_c.cnt / 64) ((List.replicate 8 (bytesLE 8 w11_0_c.param)).flatten)).flatten) w11_0_c.cnt).2
def w11_1_s : State := nmuWith { cmd with w0 := 2 } (up)
def w11_1_c : NCmd := (w11_1_s.nmuRun 0 0 2 0).getD {}
def w11_1_u1 : State := (w11_1_s.nmuRead w11_1_c w11_1_c.a1 w11_1_c.cnt).1
def w11_1_b : List Byte := (w11_1_s.nmuRead w11_1_c w11_1_c.a1 w11_1_c.cnt).2.1
def w11_1_e1 := (w11_1_s.nmuRead w11_1_c w11_1_c.a1 w11_1_c.cnt).2.2
def w11_1_u2 : State := (w11_1_u1.nmuWrite w11_1_c w11_1_c.a0 w11_1_b w11_1_b.length).1
def w11_1_e2 := (w11_1_u1.nmuWrite w11_1_c w11_1_c.a0 w11_1_b w11_1_b.length).2
def w11_2_s : State := nmuWith { cmd with w0 := 3, param := 1, a2 := 0 } (addrs [tile 0x5000] up)
def w11_2_c : NCmd := (w11_2_s.nmuRun 0 0 3 0).getD {}
def w11_2_u1 : State := (w11_2_s.readStripes w11_2_c (w11_2_s.addrList w11_2_c.a1 w11_2_c.k)).1
def w11_2_ds : List (List Nat) := (w11_2_s.readStripes w11_2_c (w11_2_s.addrList w11_2_c.a1 w11_2_c.k)).2.1
def w11_2_n := minLen w11_2_c.cnt w11_2_ds
def w11_2_pq := rsParity w11_2_n (w11_2_ds.map (fun d => d.take w11_2_n))
def w11_2_u2 : State := (w11_2_u1.nmuWrite w11_2_c w11_2_c.a0 (toBytes w11_2_pq.1) w11_2_n).1
def w11_2_u3 : State := ((if w11_2_c.a2 = 0 then (w11_2_u2, 0) else w11_2_u2.nmuWrite w11_2_c w11_2_c.a2 (toBytes w11_2_pq.2) w11_2_n)).1
def w11_3_s : State := nmuWith { cmd with w0 := 0x103, param := 1 } (up)
def w11_3_c : NCmd := (w11_3_s.nmuRun 0 0 3 1).getD {}
def w11_3_u1 : State := (w11_3_s.nmuRead w11_3_c w11_3_c.a1 w11_3_c.cnt).1
def w11_3_b : List Byte := (w11_3_s.nmuRead w11_3_c w11_3_c.a1 w11_3_c.cnt).2.1
def w11_3_e1 := (w11_3_s.nmuRead w11_3_c w11_3_c.a1 w11_3_c.cnt).2.2
def w11_3_u2 : State := (w11_3_u1.rsAdd w11_3_c w11_3_c.a0 (w11_3_b.map (fun x => x.toNat))).1
def w11_3_e2 := (w11_3_u1.rsAdd w11_3_c w11_3_c.a0 (w11_3_b.map (fun x => x.toNat))).2
def w11_3_u3 : State := ((if w11_3_c.a2 = 0 then (w11_3_u2, 0) else w11_3_u2.rsAdd w11_3_c w11_3_c.a2 (mulAlpha w11_3_c.k (w11_3_b.map (fun x => x.toNat))))).1
def w11_3_e3 := ((if w11_3_c.a2 = 0 then (w11_3_u2, 0) else w11_3_u2.rsAdd w11_3_c w11_3_c.a2 (mulAlpha w11_3_c.k (w11_3_b.map (fun x => x.toNat))))).2
def w11_4_s : State := nmuWith { cmd with w0 := 0x203, param := 0x3F0001 } (addrs [tile 0x5000, tile 0x5100, tile 0x5200] up)
def w11_4_c : NCmd := (w11_4_s.nmuRun 0 0 3 2).getD {}
def w11_4_l := w11_4_s.addrList w11_4_c.a1 (w11_4_c.k + 2)
def w11_4_gone := fun i => decide (i = w11_4_c.x) || decide (i = w11_4_c.y)
def w11_4_nd := ((List.range w11_4_c.k).filter w11_4_gone).length
def w11_4_need := (List.range (w11_4_c.k + 2)).filter (fun i => !w11_4_gone i && (decide (i < w11_4_c.k) || (i == w11_4_c.k && decide (1 ≤ w11_4_nd)) || (i == w11_4_c.k + 1 && (decide (w11_4_nd = 2) || (decide (w11_4_nd = 1) && w11_4_gone w11_4_c.k)))))
def w11_4_u1 : State := (w11_4_s.readStripes w11_4_c (w11_4_need.map (fun i => w11_4_l.getD i 0))).1
def w11_4_got : List (List Nat) := (w11_4_s.readStripes w11_4_c (w11_4_need.map (fun i => w11_4_l.getD i 0))).2.1
def w11_4_n := minLen w11_4_c.cnt w11_4_got
def w11_4_st := (List.range (w11_4_c.k + 2)).map (fun i => match (w11_4_need.zip w11_4_got).find? (fun p => p.1 == i) with | some p => p.2.take w11_4_n | none => List.replicate w11_4_n 0)
def w11_4_ds := rsRebuild w11_4_n w11_4_c.k w11_4_c.x w11_4_c.y w11_4_st
def w11_4_stripe := fun i => if i < w11_4_c.k then w11_4_ds.getD i [] else if i = w11_4_c.k then (rsParity w11_4_n w11_4_ds).1 else (rsParity w11_4_n w11_4_ds).2
def w11_4_u2 : State := (w11_4_u1.nmuWrite w11_4_c (w11_4_l.getD w11_4_c.x 0) (toBytes (w11_4_stripe w11_4_c.x)) w11_4_n).1
def w11_4_u3 : State := ((if w11_4_c.y = 63 then (w11_4_u2, 0) else w11_4_u2.nmuWrite w11_4_c (w11_4_l.getD w11_4_c.y 0) (toBytes (w11_4_stripe w11_4_c.y)) w11_4_n)).1
def w11_5_s : State := nmuWith { cmd with w0 := 4 } (up)
def w11_5_c : NCmd := (w11_5_s.nmuRun 0 0 4 0).getD {}
def w11_5_u1 : State := (w11_5_s.nmuRead w11_5_c w11_5_c.a1 w11_5_c.cnt).1
def w11_5_b : List Byte := (w11_5_s.nmuRead w11_5_c w11_5_c.a1 w11_5_c.cnt).2.1
def w11_5_u2 : State := ((w11_5_u1.nmuTotal 0 true 16).nmuStore w11_5_c w11_5_c.a0 (bytesLE 16 (digest128 (w11_5_u1.digKey w11_5_c.part) w11_5_b))).1
def w11_6_s : State := nmuWith { cmd with w0 := 10 } (up)
def w11_6_s0 : List (Nat × SymErr) := []
def w11_6_s1 : List (Nat × SymErr) := []
def w11_6_md : List (Nat × SymErr) := []
def w11_6_c : NCmd := (w11_6_s.nmuRun 0 0 10 0).getD {}
def w11_7_s : State := nmuWith { cmd with w0 := 11 } (up)
def w11_7_c : NCmd := (w11_7_s.nmuRun 0 0 11 0).getD {}
def w11_8_s : State := nmuWith { cmd with w0 := 11 } (up.setFld (.mat 11) Mat.MAT_STATUS 1)
def w11_8_c : NCmd := (w11_8_s.nmuRun 0 0 11 0).getD {}
def w11_9_s : State := nmuWith { cmd with w0 := 0x10B, param := 5 } ((up.setFld (.mat 11) Mat.MAT_STATUS 1).setFld (.mat 11) Mat.SNAP_ID 5)
def w11_9_c : NCmd := (w11_9_s.nmuRun 0 0 11 1).getD {}
def w11_10_s : State := { up.setFld (.mat 0) (Mat.SIDE_UNITS.sub 16 0) 2 with mats := [(0, { held := [{ l := 20480 }], unitSt := [(5, 1)], slotOf := [(9, 0)] })] }
def w11_10_n : Nat := (((w11_10_s.mat 0).freeSlot (w11_10_s.fld (.mat 0) (Mat.SIDE_UNITS.sub 16 0))).getD default)
def w11_11_s : State := { (up.setFld (.mat 0) Mat.MAT_STATUS 1) with nmus := [(0, { running := [{ w0 := 0x40000002, done := true, cnt := 4096, got := 4096 }] })], mats := [(0, { unitSt := [(0, 2)] })] }
def w11_11_c : NCmd := (((w11_11_s.nmuSt 0).running[0]?).getD default)

/-- The hypotheses of `Obligations.NmuBlockAndSnapshotCommandsAct`, clause by clause. -/
theorem test_nmu_block_and_snapshot_commands_act_met :
    (∃ (s : State) (k : Nat) (idx : Nat) (c : NCmd) (u : State) (e : Nat), (s.NmuTakes k idx 1 0 c) ∧
        (s.nmuWrite c c.a0 ((List.replicate (c.cnt / 64) ((List.replicate 8 (bytesLE 8 c.param)).flatten)).flatten) c.cnt = (u, e))) ∧
    (∃ (s : State) (k : Nat) (idx : Nat) (c : NCmd) (u1 : State) (b : List Byte) (e1 : _) (u2 : State) (e2 : _), (s.NmuTakes k idx 2 0 c) ∧
        (s.nmuRead c c.a1 c.cnt = (u1, b, e1)) ∧ (u1.nmuWrite c c.a0 b b.length = (u2, e2))) ∧
    (∃ (s : State) (k : Nat) (idx : Nat) (c : NCmd) (u1 : State) (ds : List (List Nat)) (u2 : State) (u3 : State), (s.NmuTakes k idx 3 0 c) ∧
        (s.readStripes c (s.addrList c.a1 c.k) = (u1, ds, 0)) ∧ ∃ n, n = (minLen c.cnt ds) ∧ ∃ pq, pq = (rsParity n (ds.map (fun d => d.take n))) ∧
        (u1.nmuWrite c c.a0 (toBytes pq.1) n = (u2, 0)) ∧ ((if c.a2 = 0 then (u2, 0) else u2.nmuWrite c c.a2 (toBytes pq.2) n) = (u3, 0))) ∧
    (∃ (s : State) (k : Nat) (idx : Nat) (c : NCmd) (u1 : State) (b : List Byte) (e1 : _) (u2 : State) (e2 : _) (u3 : State) (e3 : _), (s.NmuTakes k idx 3 1 c) ∧
        (s.nmuRead c c.a1 c.cnt = (u1, b, e1)) ∧ (u1.rsAdd c c.a0 (b.map (fun x => x.toNat)) = (u2, e2)) ∧
        ((if c.a2 = 0 then (u2, 0) else u2.rsAdd c c.a2 (mulAlpha c.k (b.map (fun x => x.toNat)))) = (u3, e3))) ∧
    (∃ (s : State) (k : Nat) (idx : Nat) (c : NCmd) (u1 : State) (got : List (List Nat)) (u2 : State) (u3 : State), (s.NmuTakes k idx 3 2 c) ∧
        ∃ l, l = (s.addrList c.a1 (c.k + 2)) ∧ ∃ gone, gone = (fun i => decide (i = c.x) || decide (i = c.y)) ∧
        ∃ nd, nd = (((List.range c.k).filter gone).length) ∧
        ∃ need, need = ((List.range (c.k + 2)).filter (fun i => !gone i && (decide (i < c.k) || (i == c.k && decide (1 ≤ nd)) || (i == c.k + 1 && (decide (nd = 2) || (decide (nd = 1) && gone c.k)))))) ∧
        (s.readStripes c (need.map (fun i => l.getD i 0)) = (u1, got, 0)) ∧ ∃ n, n = (minLen c.cnt got) ∧
        ∃ st, st = ((List.range (c.k + 2)).map (fun i => match (need.zip got).find? (fun p => p.1 == i) with | some p => p.2.take n | none => List.replicate n 0)) ∧
        ∃ ds, ds = (rsRebuild n c.k c.x c.y st) ∧
        ∃ stripe, stripe = (fun i => if i < c.k then ds.getD i [] else if i = c.k then (rsParity n ds).1 else (rsParity n ds).2) ∧
        (u1.nmuWrite c (l.getD c.x 0) (toBytes (stripe c.x)) n = (u2, 0)) ∧
        ((if c.y = 63 then (u2, 0) else u2.nmuWrite c (l.getD c.y 0) (toBytes (stripe c.y)) n) = (u3, 0))) ∧
    (∃ (s : State) (k : Nat) (idx : Nat) (c : NCmd) (u1 : State) (b : List Byte) (u2 : State), (s.NmuTakes k idx 4 0 c) ∧
        (s.nmuRead c c.a1 c.cnt = (u1, b, 0)) ∧ ((u1.nmuTotal k true 16).nmuStore c c.a0 (bytesLE 16 (digest128 (u1.digKey c.part) b)) = (u2, 0))) ∧
    (∃ (s : State) (k : Nat) (idx : Nat) (s0 : List (Nat × SymErr)) (s1 : List (Nat × SymErr)) (md : List (Nat × SymErr)) (c : NCmd), (s.NmuTakes k idx 10 0 c)) ∧
    (∃ (s : State) (k : Nat) (idx : Nat) (c : NCmd), (s.NmuTakes k idx 11 0 c) ∧ (s.nmuSnapOk c = true)) ∧
    (∃ (s : State) (k : Nat) (idx : Nat) (c : NCmd), (s.NmuTakes k idx 11 0 c) ∧ (s.nmuSnapOk c = false)) ∧
    (∃ (s : State) (k : Nat) (idx : Nat) (c : NCmd), (s.NmuTakes k idx 11 1 c) ∧
        ((∃ j < 12, s.matActive j = true ∧ s.fld (.mat j) Mat.SNAP_ID = c.param % 2 ^ 32))) ∧
    (∃ (s : State) (k : Nat) (u : Nat) (ns : Nat) (n : Nat), ((∃ w ∈ (s.mat k).held, w.l / 4096 = u)) ∧ (s.slotFree k = true) ∧
        (smGet (fun _ => 0) (s.mat k).unitSt u = 1) ∧ ((s.mat k).freeSlot (s.fld (.mat k) (Mat.SIDE_UNITS.sub 16 0)) = some n)) ∧
    (∃ (s : State) (lead : Nat) (idx : Nat) (k : Nat) (u : Nat) (c : NCmd), ((s.nmuSt lead).running[idx]? = some c) ∧ (c.op = 2) ∧
        (c.consume = true) ∧ (c.done = true) ∧ ((∃ r ∈ unitsOf (gaOff c.a1) c.cnt, r.1 + r.2 ≤ gaOff c.a1 + c.got ∧ s.unitOf r.1 = some (k, u))) ∧
        (s.matActive k = true) ∧ (s.unitSt k u = 1 ∨ s.unitSt k u = 2)) ∧
    (∃ (s : State) (k : Nat), (s.matActive k = true) ∧ (k < 12) ∧ ((s.mat k).held ≠ [])) :=
  ⟨
    ⟨w11_0_s, 0, 0, w11_0_c, w11_0_u, w11_0_e, ⟨⟨by decide +kernel, by decide +kernel, by decide +kernel⟩, by decide +kernel⟩⟩,
    ⟨w11_1_s, 0, 0, w11_1_c, w11_1_u1, w11_1_b, w11_1_e1, w11_1_u2, w11_1_e2, ⟨⟨by decide +kernel, by decide +kernel, by decide +kernel⟩,
        ⟨by decide +kernel, by decide +kernel⟩⟩⟩,
    ⟨w11_2_s, 0, 0, w11_2_c, w11_2_u1, w11_2_ds, w11_2_u2, w11_2_u3, ⟨⟨by decide +kernel, by decide +kernel, by decide +kernel⟩, ⟨by decide +kernel,
        ⟨_, rfl, ⟨_, rfl, ⟨by decide +kernel, by decide +kernel⟩⟩⟩⟩⟩⟩,
    ⟨w11_3_s, 0, 0, w11_3_c, w11_3_u1, w11_3_b, w11_3_e1, w11_3_u2, w11_3_e2, w11_3_u3, w11_3_e3, ⟨⟨by decide +kernel, by decide +kernel,
        by decide +kernel⟩, ⟨by decide +kernel, ⟨by decide +kernel, by decide +kernel⟩⟩⟩⟩,
    ⟨w11_4_s, 0, 0, w11_4_c, w11_4_u1, w11_4_got, w11_4_u2, w11_4_u3, ⟨⟨by decide +kernel, by decide +kernel, by decide +kernel⟩, ⟨_, rfl, ⟨_, rfl,
        ⟨_, rfl, ⟨_, rfl, ⟨by decide +kernel, ⟨_, rfl, ⟨_, rfl, ⟨_, rfl, ⟨_, rfl, ⟨by decide +kernel, by decide +kernel⟩⟩⟩⟩⟩⟩⟩⟩⟩⟩⟩⟩,
    ⟨w11_5_s, 0, 0, w11_5_c, w11_5_u1, w11_5_b, w11_5_u2, ⟨⟨by decide +kernel, by decide +kernel, by decide +kernel⟩, ⟨by decide +kernel, by decide +kernel⟩⟩⟩,
    ⟨w11_6_s, 0, 0, w11_6_s0, w11_6_s1, w11_6_md, w11_6_c, ⟨by decide +kernel, by decide +kernel, by decide +kernel⟩⟩,
    ⟨w11_7_s, 0, 0, w11_7_c, ⟨⟨by decide +kernel, by decide +kernel, by decide +kernel⟩, by decide +kernel⟩⟩,
    ⟨w11_8_s, 0, 0, w11_8_c, ⟨⟨by decide +kernel, by decide +kernel, by decide +kernel⟩, by decide +kernel⟩⟩,
    ⟨w11_9_s, 0, 0, w11_9_c, ⟨⟨by decide +kernel, by decide +kernel, by decide +kernel⟩, by decide +kernel⟩⟩,
    ⟨w11_10_s, 0, 5, 7, w11_10_n, ⟨by decide +kernel, ⟨by decide +kernel, ⟨by decide +kernel, by decide +kernel⟩⟩⟩⟩,
    ⟨w11_11_s, 0, 0, 0, 0, w11_11_c, ⟨by decide +kernel, ⟨by decide +kernel, ⟨by decide +kernel, ⟨by decide +kernel, ⟨by decide +kernel,
        ⟨by decide +kernel, by decide +kernel⟩⟩⟩⟩⟩⟩⟩,
    ⟨{ up.setFld (.mat 11) Mat.MAT_STATUS 1 with mats := [(11, { held := [{}] })] }, 11, ⟨by decide +kernel, ⟨by decide +kernel, by decide +kernel⟩⟩⟩⟩

def w12_0_s : State := nmuWith { cmd with w0 := 5, cnt := 1 } (up)
def w12_0_c : NCmd := (w12_0_s.nmuRun 0 0 5 0).getD {}
def w12_0_u1 := (w12_0_s.nmuElems w12_0_c w12_0_c.a0 (w12_0_c.fmt 0) w12_0_c.cnt).1
def w12_0_w : List Nat := (w12_0_s.nmuElems w12_0_c w12_0_c.a0 (w12_0_c.fmt 0) w12_0_c.cnt).2.1
def w12_0_u2 := (w12_0_u1.nmuElems w12_0_c w12_0_c.a1 (w12_0_c.fmt 1) w12_0_c.cnt).1
def w12_0_g : List Nat := (w12_0_u1.nmuElems w12_0_c w12_0_c.a1 (w12_0_c.fmt 1) w12_0_c.cnt).2.1
def w12_0_u3 := (w12_0_u2.nmuElems w12_0_c w12_0_c.a2 (w12_0_c.fmt 2) w12_0_c.cnt).1
def w12_0_m : List Nat := (w12_0_u2.nmuElems w12_0_c w12_0_c.a2 (w12_0_c.fmt 2) w12_0_c.cnt).2.1
def w12_0_r := ((nmuF32 (w12_0_c.fmt 0) w12_0_w).zip ((nmuF32 (w12_0_c.fmt 1) w12_0_g).zip (nmuF32 (w12_0_c.fmt 2) w12_0_m))).map (fun p => optSgd (w12_0_c.hy 0 4) (w12_0_c.hy 4 4) (w12_0_c.hy 0x20 4) w12_0_c.gscale p.1 p.2.1 p.2.2)
def w12_0_u4 := (w12_0_u3.optPut w12_0_c w12_0_c.a0 (w12_0_c.fmt 0) (w12_0_c.hy 0x38 4) (w12_0_r.map (fun p => p.1))).1
def w12_0_f4 := (w12_0_u3.optPut w12_0_c w12_0_c.a0 (w12_0_c.fmt 0) (w12_0_c.hy 0x38 4) (w12_0_r.map (fun p => p.1))).2.2
def w12_0_u5 := (w12_0_u4.optPut w12_0_c w12_0_c.a2 (w12_0_c.fmt 2) ((w12_0_c.hy 0x38 4 + 1) % 2 ^ 32) (w12_0_r.map (fun p => p.2))).1
def w12_0_f5 := (w12_0_u4.optPut w12_0_c w12_0_c.a2 (w12_0_c.fmt 2) ((w12_0_c.hy 0x38 4 + 1) % 2 ^ 32) (w12_0_r.map (fun p => p.2))).2.2
def w12_0_u6 := (w12_0_u5.optCopy w12_0_c (w12_0_r.map (fun p => p.1))).1
def w12_0_f6 := (w12_0_u5.optCopy w12_0_c (w12_0_r.map (fun p => p.1))).2.2
def w12_1_s : State := nmuWith { cmd with w0 := 0x105, cnt := 1 } (up)
def w12_1_c : NCmd := (w12_1_s.nmuRun 0 0 5 1).getD {}
def w12_1_u1 := (w12_1_s.nmuElems w12_1_c w12_1_c.a0 (w12_1_c.fmt 0) w12_1_c.cnt).1
def w12_1_w : List Nat := (w12_1_s.nmuElems w12_1_c w12_1_c.a0 (w12_1_c.fmt 0) w12_1_c.cnt).2.1
def w12_1_u2 := (w12_1_u1.nmuElems w12_1_c w12_1_c.a1 (w12_1_c.fmt 1) w12_1_c.cnt).1
def w12_1_g : List Nat := (w12_1_u1.nmuElems w12_1_c w12_1_c.a1 (w12_1_c.fmt 1) w12_1_c.cnt).2.1
def w12_1_u3 := (w12_1_u2.nmuElems w12_1_c w12_1_c.a2 (w12_1_c.fmt 2) w12_1_c.cnt).1
def w12_1_m : List Nat := (w12_1_u2.nmuElems w12_1_c w12_1_c.a2 (w12_1_c.fmt 2) w12_1_c.cnt).2.1
def w12_1_u4 := (w12_1_u3.nmuElems w12_1_c w12_1_c.a3 (w12_1_c.fmt 3) w12_1_c.cnt).1
def w12_1_v := (w12_1_u3.nmuElems w12_1_c w12_1_c.a3 (w12_1_c.fmt 3) w12_1_c.cnt).2.1
def w12_1_r := ((nmuF32 (w12_1_c.fmt 0) w12_1_w).zip ((nmuF32 (w12_1_c.fmt 1) w12_1_g).zip ((nmuF32 (w12_1_c.fmt 2) w12_1_m).zip (nmuF32 (w12_1_c.fmt 3) w12_1_v)))).map (fun p => optAdamW (w12_1_c.hy 0 4) (w12_1_c.hy 4 4) (w12_1_c.hy 8 4) (w12_1_c.hy 0xC 4) (w12_1_c.hy 0x10 4) (w12_1_c.hy 0x14 4) (w12_1_c.hy 0x18 4) (w12_1_c.hy 0x1C 4) (w12_1_c.hy 0x20 4) w12_1_c.gscale p.1 p.2.1 p.2.2.1 p.2.2.2)
def w12_1_u5 := (w12_1_u4.optPut w12_1_c w12_1_c.a0 (w12_1_c.fmt 0) (w12_1_c.hy 0x38 4) (w12_1_r.map (fun p => p.1))).1
def w12_1_f5 := (w12_1_u4.optPut w12_1_c w12_1_c.a0 (w12_1_c.fmt 0) (w12_1_c.hy 0x38 4) (w12_1_r.map (fun p => p.1))).2.2
def w12_1_u6 := (w12_1_u5.optPut w12_1_c w12_1_c.a2 (w12_1_c.fmt 2) ((w12_1_c.hy 0x38 4 + 1) % 2 ^ 32) (w12_1_r.map (fun p => p.2.1))).1
def w12_1_f6 := (w12_1_u5.optPut w12_1_c w12_1_c.a2 (w12_1_c.fmt 2) ((w12_1_c.hy 0x38 4 + 1) % 2 ^ 32) (w12_1_r.map (fun p => p.2.1))).2.2
def w12_1_u7 := (w12_1_u6.optPut w12_1_c w12_1_c.a3 (w12_1_c.fmt 3) ((w12_1_c.hy 0x38 4 + 2) % 2 ^ 32) (w12_1_r.map (fun p => p.2.2))).1
def w12_1_f7 := (w12_1_u6.optPut w12_1_c w12_1_c.a3 (w12_1_c.fmt 3) ((w12_1_c.hy 0x38 4 + 2) % 2 ^ 32) (w12_1_r.map (fun p => p.2.2))).2.2
def w12_1_u8 := (w12_1_u7.optCopy w12_1_c (w12_1_r.map (fun p => p.1))).1
def w12_1_f8 := (w12_1_u7.optCopy w12_1_c (w12_1_r.map (fun p => p.1))).2.2
def w12_2_s : State := nmuWith { cmd with w0 := 6, cnt := 1 } (up)
def w12_2_c : NCmd := (w12_2_s.nmuRun 0 0 6 0).getD {}
def w12_2_u1 := (w12_2_s.nmuElems w12_2_c w12_2_c.a1 (w12_2_c.fmt 1) w12_2_c.cnt).1
def w12_2_v := (w12_2_s.nmuElems w12_2_c w12_2_c.a1 (w12_2_c.fmt 1) w12_2_c.cnt).2.1
def w12_2_u2 := (w12_2_u1.nmuScales w12_2_c w12_2_c.a2 (w12_2_c.fmt 1)).1
def w12_2_sc : List Byte := (w12_2_u1.nmuScales w12_2_c w12_2_c.a2 (w12_2_c.fmt 1)).2.1
def w12_2_u3 := (w12_2_u2.nmuRead w12_2_c w12_2_c.a0 w12_2_c.cnt 256).1
def w12_2_ab : List Byte := (w12_2_u2.nmuRead w12_2_c w12_2_c.a0 w12_2_c.cnt 256).2.1
def w12_2_n := min w12_2_v.length (min (w12_2_ab.length / 8) (if fmtBS (w12_2_c.fmt 1) then 32 * w12_2_sc.length else w12_2_c.cnt))
def w12_2_vals := decodeArray (w12_2_c.fmt 1) (w12_2_v.take w12_2_n) (w12_2_sc.map (fun x => x.toNat))
def w12_2_u4 := (w12_2_u3.nmuWrite w12_2_c w12_2_c.a0 ((w12_2_vals.zipIdx.map (fun p => bytesLE 8 (gaccAdd w12_2_c.fGacc (natLE ((w12_2_ab.drop (8 * p.2)).take 8)) p.1.1).1)).flatten) w12_2_vals.length 256).1
def w12_3_s : State := nmuWith { cmd with w0 := 0x106, cnt := 1 } (up)
def w12_3_c : NCmd := (w12_3_s.nmuRun 0 0 6 ((Instr.gaccRead 0 0, 1, false)).2.1).getD {}
def w12_3_u1 := (w12_3_s.nmuRead w12_3_c w12_3_c.a1 w12_3_c.cnt 256).1
def w12_3_ab : List Byte := (w12_3_s.nmuRead w12_3_c w12_3_c.a1 w12_3_c.cnt 256).2.1
def w12_3_n := w12_3_ab.length / 8
def w12_3_vals := (List.range w12_3_n).map (fun i => (gaccVal w12_3_c.fGacc (natLE ((w12_3_ab.drop (8 * i)).take 8)), false))
def w12_3_rnd := fun i => rndOf (w12_3_c.fmt 0) w12_3_c.seed w12_3_c.step (w12_3_c.param % 2 ^ 32) (w12_3_c.origin * 65536 + i)
def w12_3_o := if fmtBS (w12_3_c.fmt 0) then quantArray (w12_3_c.fmt 0) w12_3_rnd (w12_3_n + 1) 0 w12_3_vals else ([], castArray (w12_3_c.fmt 0) w12_3_rnd w12_3_vals)
def w12_3_u2 := (w12_3_u1.nmuPut w12_3_c w12_3_c.a0 (w12_3_c.fmt 0) w12_3_o.2.1).1
def w12_3_u3 := ((if fmtBS (w12_3_c.fmt 0) then w12_3_u2.nmuWrite w12_3_c w12_3_c.a3 (toBytes w12_3_o.1) w12_3_n 1 else (w12_3_u2, 0))).1
def w12_3_u4 := ((if ((Instr.gaccRead 0 0, 1, false)).2.2 then w12_3_u3.nmuWrite w12_3_c w12_3_c.a1 (List.replicate (8 * w12_3_n) 0) w12_3_n 256 else (w12_3_u3, 0))).1
def w12_4_s : State := nmuWith { cmd with w0 := 7, cnt := 1 } (up)
def w12_4_c : NCmd := (w12_4_s.nmuRun 0 0 7 0).getD {}
def w12_5_s : State := nmuWith { cmd with w0 := 7, cnt := 1, param := 0x1000001 } (up)
def w12_5_c : NCmd := (w12_5_s.nmuRun 0 0 7 0).getD {}
def w12_5_u1 := (w12_5_s.nmuList 0 w12_5_c w12_5_c.a2 4).1
def w12_5_ib : List Byte := (w12_5_s.nmuList 0 w12_5_c w12_5_c.a2 4).2.1
def w12_5_u2 := (w12_5_u1.nmuElems w12_5_c (w12_5_c.a1 + natLE w12_5_ib * w12_5_c.rowBytes (w12_5_c.fmt 1)) (w12_5_c.fmt 1) w12_5_c.rowLen).1
def w12_5_v := (w12_5_u1.nmuElems w12_5_c (w12_5_c.a1 + natLE w12_5_ib * w12_5_c.rowBytes (w12_5_c.fmt 1)) (w12_5_c.fmt 1) w12_5_c.rowLen).2.1
def w12_5_u3 := (w12_5_u2.nmuPut w12_5_c w12_5_c.a0 (w12_5_c.fmt 0) (castArray (w12_5_c.fmt 0) (fun _ => .rne) (decodeArray (w12_5_c.fmt 1) w12_5_v [])).1).1
def w12_6_s : State := nmuWith { cmd with w0 := 8, cnt := 1, param := 0x1000001 } (up)
def w12_6_c : NCmd := (w12_6_s.nmuRun 0 0 8 0).getD {}
def w12_6_u : State := (w12_6_s.scatterRows 0 w12_6_c 4 (fun old v => (List.zipWith (fun t (p : Val × Bool) => rne32 ((f32Val t).add p.1)) old v, { inv := v.any (fun x => x.2) }, false, 0))).1
def w12_6_e : Nat := (w12_6_s.scatterRows 0 w12_6_c 4 (fun old v => (List.zipWith (fun t (p : Val × Bool) => rne32 ((f32Val t).add p.1)) old v, { inv := v.any (fun x => x.2) }, false, 0))).2.1
def w12_6_fl : Flags := (w12_6_s.scatterRows 0 w12_6_c 4 (fun old v => (List.zipWith (fun t (p : Val × Bool) => rne32 ((f32Val t).add p.1)) old v, { inv := v.any (fun x => x.2) }, false, 0))).2.2.1
def w12_6_tr : Bool := (w12_6_s.scatterRows 0 w12_6_c 4 (fun old v => (List.zipWith (fun t (p : Val × Bool) => rne32 ((f32Val t).add p.1)) old v, { inv := v.any (fun x => x.2) }, false, 0))).2.2.2.1
def w12_6_cnt : Nat := (w12_6_s.scatterRows 0 w12_6_c 4 (fun old v => (List.zipWith (fun t (p : Val × Bool) => rne32 ((f32Val t).add p.1)) old v, { inv := v.any (fun x => x.2) }, false, 0))).2.2.2.2
def w12_7_s : State := nmuWith { cmd with w0 := 0x108, cnt := 1, param := 0x1000001 } (up)
def w12_7_c : NCmd := (w12_7_s.nmuRun 0 0 8 1).getD {}
def w12_7_u : State := (w12_7_s.scatterRows 0 w12_7_c 8 (fun old v => let r := List.zipWith (fun t (p : Val × Bool) => (gaccAdd w12_7_c.fScat t p.1, p.2)) old v; (r.map (fun p => p.1.1), { inv := r.any (fun p => p.1.2.1 || p.2), sat := r.any (fun p => p.1.2.2.1) }, r.any (fun p => p.1.2.2.2), (r.filter (fun p => p.1.2.2.1)).length))).1
def w12_7_e : Nat := (w12_7_s.scatterRows 0 w12_7_c 8 (fun old v => let r := List.zipWith (fun t (p : Val × Bool) => (gaccAdd w12_7_c.fScat t p.1, p.2)) old v; (r.map (fun p => p.1.1), { inv := r.any (fun p => p.1.2.1 || p.2), sat := r.any (fun p => p.1.2.2.1) }, r.any (fun p => p.1.2.2.2), (r.filter (fun p => p.1.2.2.1)).length))).2.1
def w12_7_fl : Flags := (w12_7_s.scatterRows 0 w12_7_c 8 (fun old v => let r := List.zipWith (fun t (p : Val × Bool) => (gaccAdd w12_7_c.fScat t p.1, p.2)) old v; (r.map (fun p => p.1.1), { inv := r.any (fun p => p.1.2.1 || p.2), sat := r.any (fun p => p.1.2.2.1) }, r.any (fun p => p.1.2.2.2), (r.filter (fun p => p.1.2.2.1)).length))).2.2.1
def w12_7_tr : Bool := (w12_7_s.scatterRows 0 w12_7_c 8 (fun old v => let r := List.zipWith (fun t (p : Val × Bool) => (gaccAdd w12_7_c.fScat t p.1, p.2)) old v; (r.map (fun p => p.1.1), { inv := r.any (fun p => p.1.2.1 || p.2), sat := r.any (fun p => p.1.2.2.1) }, r.any (fun p => p.1.2.2.2), (r.filter (fun p => p.1.2.2.1)).length))).2.2.2.1
def w12_7_cnt : Nat := (w12_7_s.scatterRows 0 w12_7_c 8 (fun old v => let r := List.zipWith (fun t (p : Val × Bool) => (gaccAdd w12_7_c.fScat t p.1, p.2)) old v; (r.map (fun p => p.1.1), { inv := r.any (fun p => p.1.2.1 || p.2), sat := r.any (fun p => p.1.2.2.1) }, r.any (fun p => p.1.2.2.2), (r.filter (fun p => p.1.2.2.1)).length))).2.2.2.2
def w12_8_s : State := nmuWith { cmd with w0 := 9, cnt := 1 } (up)
def w12_8_c : NCmd := (w12_8_s.nmuRun 0 0 9 0).getD {}
def w12_8_u1 := (w12_8_s.convertSrc w12_8_c).1
def w12_8_v := (w12_8_s.convertSrc w12_8_c).2.1
def w12_8_u2 := (w12_8_u1.nmuPut w12_8_c w12_8_c.a0 (w12_8_c.fmt 0) (castArray (w12_8_c.fmt 0) (fun i => rndOf (w12_8_c.fmt 0) w12_8_c.seed w12_8_c.step (w12_8_c.param % 2 ^ 32) (w12_8_c.origin * 65536 + i)) w12_8_v).1).1
def w12_9_s : State := nmuWith { cmd with w0 := 0x109, cnt := 1, a2 := 0 } (up)
def w12_9_c : NCmd := (w12_9_s.nmuRun 0 0 9 1).getD {}
def w12_9_u1 := (w12_9_s.convertSrc w12_9_c).1
def w12_9_v := (w12_9_s.convertSrc w12_9_c).2.1
def w12_9_q := quantArray (w12_9_c.fmt 0) (fun i => rndOf (w12_9_c.fmt 0) w12_9_c.seed w12_9_c.step (w12_9_c.param % 2 ^ 32) (w12_9_c.origin * 65536 + i)) (w12_9_v.length + 1) 0 w12_9_v
def w12_9_u2 := (w12_9_u1.nmuPut w12_9_c w12_9_c.a0 (w12_9_c.fmt 0) w12_9_q.2.1).1
def w12_9_u3 := (w12_9_u2.nmuWrite w12_9_c w12_9_c.a3 (toBytes w12_9_q.1) w12_9_v.length 1).1

/-- The hypotheses of `Obligations.NmuElementCommandsCompute`, clause by clause. -/
theorem test_nmu_element_commands_compute_met :
    (∃ (s : State) (k : Nat) (idx : Nat) (c : NCmd) (u1 : _) (w : List Nat) (u2 : _) (g : List Nat) (u3 : _) (m : List Nat) (u4 : _) (u5 : _) (u6 : _) (f4 : _) (f5 : _) (f6 : _), (s.NmuTakes k idx 5 0 c) ∧
        (s.nmuElems c c.a0 (c.fmt 0) c.cnt = (u1, w, 0)) ∧ (u1.nmuElems c c.a1 (c.fmt 1) c.cnt = (u2, g, 0)) ∧
        (u2.nmuElems c c.a2 (c.fmt 2) c.cnt = (u3, m, 0)) ∧
        ∃ r, r = (((nmuF32 (c.fmt 0) w).zip ((nmuF32 (c.fmt 1) g).zip (nmuF32 (c.fmt 2) m))).map (fun p => optSgd (c.hy 0 4) (c.hy 4 4) (c.hy 0x20 4) c.gscale p.1 p.2.1 p.2.2)) ∧
        (u3.optPut c c.a0 (c.fmt 0) (c.hy 0x38 4) (r.map (fun p => p.1)) = (u4, 0, f4)) ∧
        (u4.optPut c c.a2 (c.fmt 2) ((c.hy 0x38 4 + 1) % 2 ^ 32) (r.map (fun p => p.2)) = (u5, 0, f5)) ∧
        (u5.optCopy c (r.map (fun p => p.1)) = (u6, 0, f6))) ∧
    (∃ (s : State) (k : Nat) (idx : Nat) (c : NCmd) (u1 : _) (w : List Nat) (u2 : _) (g : List Nat) (u3 : _) (m : List Nat) (u4 : _) (v : _) (u5 : _) (u6 : _) (u7 : _) (u8 : _) (f5 : _) (f6 : _) (f7 : _) (f8 : _), (s.NmuTakes k idx 5 1 c) ∧
        (s.nmuElems c c.a0 (c.fmt 0) c.cnt = (u1, w, 0)) ∧ (u1.nmuElems c c.a1 (c.fmt 1) c.cnt = (u2, g, 0)) ∧
        (u2.nmuElems c c.a2 (c.fmt 2) c.cnt = (u3, m, 0)) ∧ (u3.nmuElems c c.a3 (c.fmt 3) c.cnt = (u4, v, 0)) ∧
        ∃ r, r = (((nmuF32 (c.fmt 0) w).zip ((nmuF32 (c.fmt 1) g).zip ((nmuF32 (c.fmt 2) m).zip (nmuF32 (c.fmt 3) v)))).map (fun p => optAdamW (c.hy 0 4) (c.hy 4 4) (c.hy 8 4) (c.hy 0xC 4) (c.hy 0x10 4) (c.hy 0x14 4) (c.hy 0x18 4) (c.hy 0x1C 4) (c.hy 0x20 4) c.gscale p.1 p.2.1 p.2.2.1 p.2.2.2)) ∧
        (u4.optPut c c.a0 (c.fmt 0) (c.hy 0x38 4) (r.map (fun p => p.1)) = (u5, 0, f5)) ∧
        (u5.optPut c c.a2 (c.fmt 2) ((c.hy 0x38 4 + 1) % 2 ^ 32) (r.map (fun p => p.2.1)) = (u6, 0, f6)) ∧
        (u6.optPut c c.a3 (c.fmt 3) ((c.hy 0x38 4 + 2) % 2 ^ 32) (r.map (fun p => p.2.2)) = (u7, 0, f7)) ∧
        (u7.optCopy c (r.map (fun p => p.1)) = (u8, 0, f8))) ∧
    (∃ (s : State) (k : Nat) (idx : Nat) (c : NCmd) (u1 : _) (v : _) (u2 : _) (sc : List Byte) (u3 : _) (ab : List Byte) (u4 : _), (s.NmuTakes k idx 6 0 c) ∧
        (s.nmuElems c c.a1 (c.fmt 1) c.cnt = (u1, v, 0)) ∧ (u1.nmuScales c c.a2 (c.fmt 1) = (u2, sc, 0)) ∧
        (u2.nmuRead c c.a0 c.cnt 256 = (u3, ab, 0)) ∧
        ∃ n, n = (min v.length (min (ab.length / 8) (if fmtBS (c.fmt 1) then 32 * sc.length else c.cnt))) ∧
        ∃ vals, vals = (decodeArray (c.fmt 1) (v.take n) (sc.map (fun x => x.toNat))) ∧
        (u3.nmuWrite c c.a0 ((vals.zipIdx.map (fun p => bytesLE 8 (gaccAdd c.fGacc (natLE ((ab.drop (8 * p.2)).take 8)) p.1.1).1)).flatten) vals.length 256 = (u4, 0))) ∧
    (∃ (s : State) (k : Nat) (idx : Nat) (c : NCmd) (u1 : _) (ab : List Byte) (u2 : _) (u3 : _) (u4 : _), ∃ p, (p ∈ [(Instr.gaccRead k idx, 1, false), (Instr.gaccReadClear k idx, 2, true)]) ∧
        (s.NmuTakes k idx 6 p.2.1 c) ∧ (s.nmuRead c c.a1 c.cnt 256 = (u1, ab, 0)) ∧ ∃ n, n = (ab.length / 8) ∧
        ∃ vals, vals = ((List.range n).map (fun i => (gaccVal c.fGacc (natLE ((ab.drop (8 * i)).take 8)), false))) ∧
        ∃ rnd, rnd = (fun i => rndOf (c.fmt 0) c.seed c.step (c.param % 2 ^ 32) (c.origin * 65536 + i)) ∧
        ∃ o, o = (if fmtBS (c.fmt 0) then quantArray (c.fmt 0) rnd (n + 1) 0 vals else ([], castArray (c.fmt 0) rnd vals)) ∧
        (u1.nmuPut c c.a0 (c.fmt 0) o.2.1 = (u2, 0)) ∧ ((if fmtBS (c.fmt 0) then u2.nmuWrite c c.a3 (toBytes o.1) n 1 else (u2, 0)) = (u3, 0)) ∧
        ((if p.2.2 then u3.nmuWrite c c.a1 (List.replicate (8 * n) 0) n 256 else (u3, 0)) = (u4, 0))) ∧
    (∃ (s : State) (k : Nat) (idx : Nat) (c : NCmd), (s.NmuTakes k idx 7 0 c)) ∧
    (∃ (s : State) (k : Nat) (idx : Nat) (c : NCmd) (u1 : _) (ib : List Byte) (u2 : _) (v : _) (u3 : _), (s.NmuTakes k idx 7 0 c) ∧ (c.cnt = 1) ∧
        (s.nmuList k c c.a2 4 = (u1, ib, 0)) ∧ (ib.length = 4) ∧ (natLE ib < c.tRows) ∧
        (u1.nmuElems c (c.a1 + natLE ib * c.rowBytes (c.fmt 1)) (c.fmt 1) c.rowLen = (u2, v, 0)) ∧
        (u2.nmuPut c c.a0 (c.fmt 0) (castArray (c.fmt 0) (fun _ => .rne) (decodeArray (c.fmt 1) v [])).1 = (u3, 0))) ∧
    (∃ (s : State) (k : Nat) (idx : Nat) (c : NCmd) (u : State) (e : Nat) (fl : Flags) (tr : Bool) (cnt : Nat), (s.NmuTakes k idx 8 0 c) ∧
        (s.scatterRows k c 4 (fun old v => (List.zipWith (fun t (p : Val × Bool) => rne32 ((f32Val t).add p.1)) old v, { inv := v.any (fun x => x.2) }, false, 0)) = (u, e, fl, tr, cnt))) ∧
    (∃ (s : State) (k : Nat) (idx : Nat) (c : NCmd) (u : State) (e : Nat) (fl : Flags) (tr : Bool) (cnt : Nat), (s.NmuTakes k idx 8 1 c) ∧
        (s.scatterRows k c 8 (fun old v => let r := List.zipWith (fun t (p : Val × Bool) => (gaccAdd c.fScat t p.1, p.2)) old v; (r.map (fun p => p.1.1), { inv := r.any (fun p => p.1.2.1 || p.2), sat := r.any (fun p => p.1.2.2.1) }, r.any (fun p => p.1.2.2.2), (r.filter (fun p => p.1.2.2.1)).length)) = (u, e, fl, tr, cnt))) ∧
    (∃ (s : State) (k : Nat) (idx : Nat) (c : NCmd) (u1 : _) (v : _) (u2 : _), (s.NmuTakes k idx 9 0 c) ∧ (s.convertSrc c = (u1, v, 0)) ∧
        (u1.nmuPut c c.a0 (c.fmt 0) (castArray (c.fmt 0) (fun i => rndOf (c.fmt 0) c.seed c.step (c.param % 2 ^ 32) (c.origin * 65536 + i)) v).1 = (u2, 0))) ∧
    (∃ (s : State) (k : Nat) (idx : Nat) (c : NCmd) (u1 : _) (v : _) (u2 : _) (u3 : _), (s.NmuTakes k idx 9 1 c) ∧ (s.convertSrc c = (u1, v, 0)) ∧
        ∃ q, q = (quantArray (c.fmt 0) (fun i => rndOf (c.fmt 0) c.seed c.step (c.param % 2 ^ 32) (c.origin * 65536 + i)) (v.length + 1) 0 v) ∧
        (u1.nmuPut c c.a0 (c.fmt 0) q.2.1 = (u2, 0)) ∧ (u2.nmuWrite c c.a3 (toBytes q.1) v.length 1 = (u3, 0))) :=
  ⟨
    ⟨w12_0_s, 0, 0, w12_0_c, w12_0_u1, w12_0_w, w12_0_u2, w12_0_g, w12_0_u3, w12_0_m, w12_0_u4, w12_0_u5, w12_0_u6, w12_0_f4, w12_0_f5, w12_0_f6,
        ⟨⟨by decide +kernel, by decide +kernel, by decide +kernel⟩, ⟨by decide +kernel, ⟨by decide +kernel, ⟨by decide +kernel, ⟨_, rfl,
        ⟨by decide +kernel, ⟨by decide +kernel, by decide +kernel⟩⟩⟩⟩⟩⟩⟩⟩,
    ⟨w12_1_s, 0, 0, w12_1_c, w12_1_u1, w12_1_w, w12_1_u2, w12_1_g, w12_1_u3, w12_1_m, w12_1_u4, w12_1_v, w12_1_u5, w12_1_u6, w12_1_u7, w12_1_u8, w12_1_f5, w12_1_f6, w12_1_f7, w12_1_f8,
        ⟨⟨by decide +kernel, by decide +kernel, by decide +kernel⟩, ⟨by decide +kernel, ⟨by decide +kernel, ⟨by decide +kernel, ⟨by decide +kernel,
        ⟨_, rfl, ⟨by decide +kernel, ⟨by decide +kernel, ⟨by decide +kernel, by decide +kernel⟩⟩⟩⟩⟩⟩⟩⟩⟩⟩,
    ⟨w12_2_s, 0, 0, w12_2_c, w12_2_u1, w12_2_v, w12_2_u2, w12_2_sc, w12_2_u3, w12_2_ab, w12_2_u4, ⟨⟨by decide +kernel, by decide +kernel,
        by decide +kernel⟩, ⟨by decide +kernel, ⟨by decide +kernel, ⟨by decide +kernel, ⟨_, rfl, ⟨_, rfl, by decide +kernel⟩⟩⟩⟩⟩⟩⟩,
    ⟨w12_3_s, 0, 0, w12_3_c, w12_3_u1, w12_3_ab, w12_3_u2, w12_3_u3, w12_3_u4, ⟨((Instr.gaccRead 0 0, 1, false)), ⟨.head _, ⟨⟨by decide +kernel,
        by decide +kernel, by decide +kernel⟩, ⟨by decide +kernel, ⟨_, rfl, ⟨_, rfl, ⟨_, rfl, ⟨_, rfl, ⟨by decide +kernel, ⟨by decide +kernel,
        by decide +kernel⟩⟩⟩⟩⟩⟩⟩⟩⟩⟩⟩,
    ⟨w12_4_s, 0, 0, w12_4_c, ⟨by decide +kernel, by decide +kernel, by decide +kernel⟩⟩,
    ⟨w12_5_s, 0, 0, w12_5_c, w12_5_u1, w12_5_ib, w12_5_u2, w12_5_v, w12_5_u3, ⟨⟨by decide +kernel, by decide +kernel, by decide +kernel⟩,
        ⟨by decide +kernel, ⟨by decide +kernel, ⟨by decide +kernel, ⟨by decide +kernel, ⟨by decide +kernel, by decide +kernel⟩⟩⟩⟩⟩⟩⟩,
    ⟨w12_6_s, 0, 0, w12_6_c, w12_6_u, w12_6_e, w12_6_fl, w12_6_tr, w12_6_cnt, ⟨⟨by decide +kernel, by decide +kernel, by decide +kernel⟩, by decide +kernel⟩⟩,
    ⟨w12_7_s, 0, 0, w12_7_c, w12_7_u, w12_7_e, w12_7_fl, w12_7_tr, w12_7_cnt, ⟨⟨by decide +kernel, by decide +kernel, by decide +kernel⟩, by decide +kernel⟩⟩,
    ⟨w12_8_s, 0, 0, w12_8_c, w12_8_u1, w12_8_v, w12_8_u2, ⟨⟨by decide +kernel, by decide +kernel, by decide +kernel⟩, ⟨by decide +kernel, by decide +kernel⟩⟩⟩,
    ⟨w12_9_s, 0, 0, w12_9_c, w12_9_u1, w12_9_v, w12_9_u2, w12_9_u3, ⟨⟨by decide +kernel, by decide +kernel, by decide +kernel⟩, ⟨by decide +kernel,
        ⟨_, rfl, ⟨by decide +kernel, by decide +kernel⟩⟩⟩⟩⟩⟩

def w13_4_s : State := { up with nmus := [(0, { running := [{ src := 2, done := true }] })], stks := [(0, { recomp := some {} })] }
def w13_4_c : NCmd := (((w13_4_s.nmuSt 0).running.find? (fun c => c.src == 2)).getD default)
def w13_4_v := (w13_4_s.setNmu 0 { w13_4_s.nmuSt 0 with running := (w13_4_s.nmuSt 0).running.filter (fun w13_4_c => w13_4_c.src != 2) }).nmuLeave 0 w13_4_c
def w13_4_r : Recomp := (((w13_4_v.stk 0).recomp).getD {})
def w13_6_s : State := edesk up
def w13_6_data : List Byte := List.replicate 64 7
def w13_6_k : Nat := (((w13_6_s.edMap (0 / 64 * 64)).getD default)).1
def w13_6_l := (((w13_6_s.edMap (0 / 64 * 64)).getD default)).2
def w13_7_s : State := edesk up
def w13_7_data : List Byte := [7]
def w13_7_k : Nat := (((w13_7_s.edMap 3).getD default)).1
def w13_7_l := (((w13_7_s.edMap 3).getD default)).2
def w13_8_s : State := { edesk up with lines := [(0, { unwritten := false, poison := true })] }
def w13_8_data : List Byte := [7]
def w13_8_k : Nat := (((w13_8_s.edMap 3).getD default)).1
def w13_8_l := (((w13_8_s.edMap 3).getD default)).2

/-- The hypotheses of `Obligations.EdeskReadsAndWritesEndAsChecked`, clause by clause. -/
theorem test_edesk_reads_and_writes_end_as_checked_met :
    (∃ (s : State) (k : Nat) (l : Nat) (req : Requester), (s.stackUp k = true) ∧ (l < s.capOf k) ∧ ((s.stk k).holds l = false) ∧
        ((s.lineMeta k (l / 64 * 64)).unwritten = false) ∧ (s.lineFails k (l / 64 * 64) = false)) ∧
    (∃ (s : State) (k : Nat) (l : Nat) (o : ReadObs), (s.stackUp k = true) ∧ (l < s.capOf k) ∧ ((s.stk k).holds l = false) ∧
        ∃ x, x = ((s.innerRead k l o.first).2) ∧ ∃ s1, s1 = ((s.innerRead k l o.first).1.innerCount k l x []) ∧ (x.md.unwritten = false) ∧
        (x.md.poison = false) ∧ (x.good k l = false) ∧ ((s1.innerRead k l o.again).2.good k l = true)) ∧
    (∃ (s : State) (k : Nat) (l : Nat), (s.stackUp k = true) ∧ (l < s.capOf k) ∧ ((s.stk k).holds l = false) ∧
        ((s.lineMeta k (l / 64 * 64)).unwritten = true)) ∧
    (∃ (s : State) (k : Nat) (l : Nat), (s.stackUp k = true) ∧ (l < s.capOf k) ∧ ((s.stk k).holds l = false) ∧ (s.lineFails k (l / 64 * 64) = true) ∧
        ((s.lineMeta k (l / 64 * 64)).rc = false)) ∧
    (∃ (s : State) (k : Nat) (c : NCmd) (r : Recomp), ((s.nmuSt k).running.find? (fun c => c.src == 2) = some c) ∧ (c.done = true) ∧
        ∃ v, v = ((s.setNmu k { s.nmuSt k with running := (s.nmuSt k).running.filter (fun c => c.src != 2) }).nmuLeave k c) ∧
        ((v.stk k).recomp = some r)) ∧
    (∃ (s : State) (k : Nat) (r : Recomp), ((s.stk k).recomp = some r) ∧ (r.postTick + 200 ≤ s.tick)) ∧
    (∃ (s : State) (o : Nat) (data : List Byte) (req : Requester) (k : Nat) (l : _), (data.length = 64) ∧ (s.edMap (o / 64 * 64) = some (k, l)) ∧
        (s.stackUp k = true) ∧ ((s.stk k).holds l = false) ∧ (s.unitSt k (l / 4096) ≠ 1)) ∧
    (∃ (s : State) (o : Nat) (data : List Byte) (req : Requester) (k : Nat) (l : _), (0 < data.length) ∧ (o % 64 + data.length ≤ 64) ∧
        (data.length < 64) ∧ (s.edMap o = some (k, l)) ∧ (s.stackUp k = true) ∧ ((s.stk k).holds l = false) ∧ (s.unitSt k (l / 4096) ≠ 1) ∧
        ((s.lineMeta k (l / 64 * 64)).unwritten = false) ∧ (s.lineFails k (l / 64 * 64) = false)) ∧
    (∃ (s : State) (o : Nat) (data : List Byte) (k : Nat) (l : _), (0 < data.length) ∧ (o % 64 + data.length ≤ 64) ∧ (data.length < 64) ∧
        (s.edMap o = some (k, l)) ∧ (s.stackUp k = true) ∧ ((s.stk k).holds l = false) ∧ (s.unitSt k (l / 4096) ≠ 1) ∧
        (s.lineFails k (l / 64 * 64) = true) ∧ ((s.lineMeta k (l / 64 * 64)).rc = false)) ∧
    (∃ (s : State) (o : Nat) (data : List Byte) (obs : List ReadObs) (req : Requester), (o + data.length ≤ 2 ^ 44)) :=
  ⟨
    ⟨edesk up, 0, 64, .host, ⟨by decide +kernel, ⟨by decide +kernel, ⟨by decide +kernel, ⟨by decide +kernel, by decide +kernel⟩⟩⟩⟩⟩,
    ⟨edesk up, 0, 64, { first := [{}, { sym := 1 }], again := [] }, ⟨by decide +kernel, ⟨by decide +kernel, ⟨by decide +kernel, ⟨_, rfl, ⟨_, rfl,
        ⟨by decide +kernel, ⟨by decide +kernel, ⟨by decide +kernel, by decide +kernel⟩⟩⟩⟩⟩⟩⟩⟩⟩,
    ⟨edesk up, 0, 2048, ⟨by decide +kernel, ⟨by decide +kernel, ⟨by decide +kernel, by decide +kernel⟩⟩⟩⟩,
    ⟨{ edesk up with lines := [(1, { unwritten := false, poison := true })] }, 0, 64, ⟨by decide +kernel, ⟨by decide +kernel, ⟨by decide +kernel,
        ⟨by decide +kernel, by decide +kernel⟩⟩⟩⟩⟩,
    ⟨w13_4_s, 0, w13_4_c, w13_4_r, ⟨by decide +kernel, ⟨by decide +kernel, ⟨_, rfl, by decide +kernel⟩⟩⟩⟩,
    ⟨{ now 200 up with stks := [(0, { recomp := some {} })] }, 0, {}, ⟨by decide +kernel, by decide +kernel⟩⟩,
    ⟨w13_6_s, 0, w13_6_data, .host, w13_6_k, w13_6_l, ⟨by decide +kernel, ⟨by decide +kernel, ⟨by decide +kernel, ⟨by decide +kernel, by decide +kernel⟩⟩⟩⟩⟩,
    ⟨w13_7_s, 3, w13_7_data, .host, w13_7_k, w13_7_l, ⟨by decide +kernel, ⟨by decide +kernel, ⟨by decide +kernel, ⟨by decide +kernel,
        ⟨by decide +kernel, ⟨by decide +kernel, ⟨by decide +kernel, ⟨by decide +kernel, by decide +kernel⟩⟩⟩⟩⟩⟩⟩⟩⟩,
    ⟨w13_8_s, 3, w13_8_data, w13_8_k, w13_8_l, ⟨by decide +kernel, ⟨by decide +kernel, ⟨by decide +kernel, ⟨by decide +kernel, ⟨by decide +kernel,
        ⟨by decide +kernel, ⟨by decide +kernel, ⟨by decide +kernel, by decide +kernel⟩⟩⟩⟩⟩⟩⟩⟩⟩,
    ⟨edesk up, 2 ^ 44 - 1, [7], [], .host, by decide +kernel⟩⟩

/-- The hypotheses of `Obligations.EdeskUpkeepActs`, clause by clause. -/
theorem test_edesk_upkeep_acts_met :
    (∃ (s : State) (m : Master) (k : Nat) (v : Word), (s.MayWrite m (.mc k)) ∧ (bitAt v.toNat 8 = true) ∧
        (s.fld (.mc k) Mc.MC_STATUS_MAPOUT_STATE = 0) ∧ (s.flag (.mc k) Mc.MC_STATUS_READY = true)) ∧
    (∃ (s : State) (k : Nat) (bad0 : Bool) (bad1 : Bool), (s.fld (.mc k) Mc.MC_STATUS_MAPOUT_STATE = 1)) ∧
    (∃ (s : State) (m : Master) (k : Nat) (n : Nat) (v : Word), (n < 8) ∧ (s.MayWrite m (.mc k)) ∧ (bitAt v.toNat 0 = true) ∧
        ((s.sealOf (s.ctxPart (s.fld (.mc k) ((Mc.RCR_CTX n).sub 12 0)))).closed = false)) ∧
    (∃ (s : State) (k : Nat) (data : List SymErr) (md : List SymErr), (s.flag (.scr k) Scr.SCRUB_CTRL_EN = true) ∧
        (s.flag (.mc k) Mc.MC_STATUS_READY = true) ∧ (s.fld (.scr k) (Scr.SCRUB_STATUS.sub 0 0) = 1) ∧
        (s.fld (.mc k) Mc.MC_STATUS_MAPOUT_STATE ≠ 1) ∧ ((s.stk k).scrubLine * 64 + 64 < s.capOf k)) ∧
    (∃ (s : State) (m : Master) (k : Nat), (s.MayWrite m (.scr k)) ∧ (1 ≤ s.fld (.scr k) Scr.SCRUB_CTRL_PERIOD) ∧
        (s.fld (.scr k) Scr.SCRUB_CTRL_PERIOD ≤ 168) ∧ (s.flag (.scr k) Scr.SCRUB_CTRL_EN = true) ∧ (s.flag (.mc k) Mc.MC_STATUS_READY = true)) ∧
    (∃ (s : State) (m : Master) (k : Nat) (v : Word), (s.MayWrite m (.scr k)) ∧ (1 ≤ bitsOf v.toNat 15 8) ∧ (bitsOf v.toNat 15 8 ≤ 168)) ∧
    (∃ (s : State) (m : Master) (k : Nat) (v : Word), (s.MayWrite m (.scr k)) ∧ (bitsOf v.toNat 15 8 = 0 ∨ 168 < bitsOf v.toNat 15 8)) :=
  ⟨
    ⟨(put (.mc 0) [(Mc.MC_STATUS_READY, 1)] (own (.mc 0) up)), .host, 0, 0x100, ⟨by unfold State.MayWrite; decide +kernel, ⟨by decide +kernel,
        ⟨by decide +kernel, by decide +kernel⟩⟩⟩⟩,
    ⟨put (.mc 0) [(Mc.MC_STATUS_MAPOUT_STATE, 1)] up, 0, false, false, by decide +kernel⟩,
    ⟨own (.mc 0) up, .host, 0, 7, 1, ⟨by decide +kernel, ⟨by unfold State.MayWrite; decide +kernel, ⟨by decide +kernel, by decide +kernel⟩⟩⟩⟩,
    ⟨put (.scr 0) [(Scr.SCRUB_CTRL_EN, 1), (Scr.SCRUB_CTRL_PERIOD, 1), (Scr.SCRUB_STATUS.sub 0 0, 1)] (own (.scr 0) (put (.mc 0) [(Mc.MC_STATUS_READY, 1)] (own (.mc 0) up))), 0, [], [],
        ⟨by decide +kernel, ⟨by decide +kernel, ⟨by decide +kernel, ⟨by decide +kernel, by decide +kernel⟩⟩⟩⟩⟩,
    ⟨put (.scr 0) [(Scr.SCRUB_CTRL_EN, 1), (Scr.SCRUB_CTRL_PERIOD, 168), (Scr.SCRUB_STATUS.sub 0 0, 1)] (own (.scr 0) (put (.mc 0) [(Mc.MC_STATUS_READY, 1)] (own (.mc 0) up))),
        .host, 0, ⟨by unfold State.MayWrite; decide +kernel, ⟨by decide +kernel, ⟨by decide +kernel, ⟨by decide +kernel, by decide +kernel⟩⟩⟩⟩⟩,
    ⟨own (.scr 0) up, .host, 0, 0xA801, ⟨by unfold State.MayWrite; decide +kernel, ⟨by decide +kernel, by decide +kernel⟩⟩⟩,
    ⟨own (.scr 0) up, .host, 0, 0xA901, ⟨by unfold State.MayWrite; decide +kernel, by decide +kernel⟩⟩⟩

/-- The hypotheses of `Obligations.BundleTimersAct`, clause by clause. -/
theorem test_bundle_timers_act_met :
    (∃ (s : State) (p : Nat) (n : Nat) (b : Nat), ((p, n) ∈ s.bndLanes b) ∧ ((s.bundle b).ackDue = true)) ∧
    (∃ (s : State) (b : Nat) (p : Nat) (n : Nat), ((p, n) ∈ s.bndLanes b) ∧ ((s.bundle b).reorder ≠ [])) ∧
    (∃ (s : State) (b : Nat) (x : TxFlit) (xs : List TxFlit), ((s.bundle b).unacked = x :: xs)) ∧
    (∃ (s : State) (p : Nat) (n : Nat) (b : Nat) (x : Bundle) (u : TxFlit), (s.mod_.uncore = true) ∧ (p < 8) ∧ (n < 9) ∧ (s.laneSt p n = 2) ∧
        (s.laneBundle p n = b) ∧ (∀ m < 9, m ≠ n → s.laneSt p m = 0) ∧ (s.bundles = [(b, x)]) ∧ (x.owed = []) ∧ (x.unacked = [u]) ∧
        (u.resend = true) ∧ (s.bndUp b = true)) ∧
    (∃ (s : State) (b : Nat), (s.bndUp b = true) ∧ (s.fld64 .bnd Bnd.BND_HEARD_LO b + 20 ≤ s.tick)) ∧
    (∃ (s : State) (b : Nat), ((s.bundle b).resumeWait = true)) ∧
    (∃ (s : State) (b : Nat) (p : Nat) (n : Nat), ∃ c, (c ∈ [Instr.bundleDeadTimeout b, .resumeTimeout b, .retryTimeout b, .nakSkewTimer b p n]) ∧
        (s.bundle b = default) ∧ (s.bndSt b = 0)) :=
  ⟨
    ⟨{ wired with bundles := [(0, { ackDue := true })] }, 0, 0, 0, ⟨by decide +kernel, by decide +kernel⟩⟩,
    ⟨{ wired with bundles := [(0, { reorder := [({}, 0)] })] }, 0, 0, 0, ⟨by decide +kernel, by decide +kernel⟩⟩,
    ⟨{ wired with bundles := [(0, { unacked := [{ times := 15 }] })] }, 0, { times := 15 }, [], by decide +kernel⟩,
    ⟨{ put .bnd [(Bnd.BND_STATUS, 1)] wired with bundles := [(0, { unacked := [{ resend := true, times := 15 }] })] }, 0, 0, 0, { unacked := [{ resend := true, times := 15 }] }, { resend := true, times := 15 },
        ⟨by decide +kernel, ⟨by decide +kernel, ⟨by decide +kernel, ⟨by decide +kernel, ⟨by decide +kernel, ⟨by decide +kernel, ⟨by decide +kernel,
        ⟨by decide +kernel, ⟨by decide +kernel, ⟨by decide +kernel, by decide +kernel⟩⟩⟩⟩⟩⟩⟩⟩⟩⟩⟩,
    ⟨now 20 (put .bnd [(Bnd.BND_STATUS, 1)] wired), 0, ⟨by decide +kernel, by decide +kernel⟩⟩,
    ⟨{ wired with bundles := [(0, { resumeWait := true })] }, 0, by decide +kernel⟩,
    ⟨up, 0, 0, 0, ⟨(Instr.retryTimeout 0), ⟨.tail _ (.tail _ (.head _)), ⟨by decide +kernel, by decide +kernel⟩⟩⟩⟩⟩

def w16_0_s : State := putAt (.lan 0) 0 [(Lan.LANE_STATE_STATE, 1)] (up)
def w16_0_thr := w16_0_s.fld (.lan 0) Lan.THR_STRIKES
def w16_0_strikes := ((w16_0_s.laneX 0 0).strikeAt.filter (fun a => decide (w16_0_s.tick < a + w16_0_thr / 65536))).length + 1
def w16_1_s : State := putAt (.lan 0) 8 [(Lan.LANE_STATE_STATE, 3)] (wired)
def w16_1_q := ((w16_1_s.spareFor 0 0).getD default)

/-- The hypotheses of `Obligations.LanesFailTrainAndReturn`, clause by clause. -/
theorem test_lanes_fail_train_and_return_met :
    (∃ (s : State) (p : Nat) (n : Nat), ∃ c, (c ∈ [(Instr.laneLos p n, 2), (.laneLos p n, 3), (.laneTrainTimeout p n, 1)]) ∧ (copper p = true) ∧
        (s.laneSt p n = c.2)) ∧
    (∃ (s : State) (p : Nat) (n : Nat) (q : _), (copper p = true) ∧ (s.laneSt p n = 2) ∧ (s.spareFor p n = some q)) ∧
    (∃ (s : State) (p : Nat) (n : Nat) (w0 : Nat) (w1 : Nat), (copper p = true) ∧ (s.laneSt p n = 1) ∧ ((s.laneX p n).step = 1)) ∧
    (∃ (s : State) (p : Nat) (n : Nat), (s.laneSt p n = 4) ∧ ((s.laneX p n).since + 10 ≤ s.tick) ∧ (s.flag (.lnk p) Lnk.LNK_CTRL_EN = true) ∧
        (s.flag .glb Glb.CHIP_ID_VALID = true) ∧ (copper p = true ∨ 4 ≤ s.lockable p)) ∧
    (∃ (s : State) (p : Nat) (n : Nat), (s.laneSt p n = 4) ∧ (s.tick < (s.laneX p n).since + 10)) ∧
    (∃ (s : State) (p : Nat) (n : Nat), (s.laneSt p n = 5) ∧ (s.fld64 (.lan p) Lan.QUAR_END_LO n ≤ s.tick) ∧ (s.flag .glb Glb.CHIP_ID_VALID = true)) ∧
    (∃ (s : State) (p : Nat) (n : Nat), (s.laneSt p n = 5) ∧ (s.tick < s.fld64 (.lan p) Lan.QUAR_END_LO n)) ∧
    (∃ (s : State) (p : Nat) (n : Nat), (s.laneSt p n = 2 ∨ s.laneSt p n = 3) ∧ ((s.laneX p n).since + 100000 ≤ s.tick)) ∧
    (∃ (s : State) (m : Master) (p : Nat), (s.MayWrite m (.lan p))) ∧
    (∃ (s : State) (m : Master) (p : Nat), (s.MayWrite m (.lan p)) ∧ (s.laneSt p (s.laneSel p) = 6)) ∧
    (∃ (s : State) (m : Master) (p : Nat), (s.MayWrite m (.lan p)) ∧ (s.laneSt p (s.laneSel p) ≠ 6)) ∧
    (∃ (s : State) (m : Master) (p : Nat), (s.MayWrite m (.lnk p)) ∧ (copper p = true) ∧ (s.flag (.lnk p) Lnk.LNK_CTRL_EN = true) ∧
        (s.flag .glb Glb.CHIP_ID_VALID = true)) ∧
    (∃ (s : State) (m : Master) (p : Nat) (v : Word), (s.MayWrite m (.lnk p)) ∧ (copper p = true) ∧ (v.toNat % 4 = 1) ∧
        (s.flag (.lnk p) Lnk.LNK_CTRL_EN = false) ∧ (s.flag .glb Glb.CHIP_ID_VALID = true)) ∧
    (∃ (s : State) (m : Master) (p : Nat) (v : Word), (s.MayWrite m (.lnk p)) ∧ (copper p = true) ∧ (v.toNat % 2 = 0) ∧
        (s.flag (.lnk p) Lnk.LNK_CTRL_EN = true)) :=
  ⟨
    ⟨w16_0_s, 0, 0, ⟨((Instr.laneTrainTimeout 0 0, 1) : Instr × Nat), ⟨.tail _ (.tail _ (.head _)), ⟨by decide +kernel, by decide +kernel⟩⟩⟩⟩,
    ⟨w16_1_s, 0, 0, w16_1_q, ⟨by decide +kernel, ⟨by decide +kernel, by decide +kernel⟩⟩⟩,
    ⟨{ putAt (.lan 0) 0 [(Lan.LANE_STATE_STATE, 1)] (up) with lanes := [(0, { step := 1 })] }, 0, 0, 0, 0, ⟨by decide +kernel, ⟨by decide +kernel,
        by decide +kernel⟩⟩⟩,
    ⟨now 10 (putAt (.lan 0) 0 [(Lan.LANE_STATE_STATE, 4)] (put .glb [(Glb.CHIP_ID_VALID, 1)] (put (.lnk 0) [(Lnk.LNK_CTRL_EN, 1)] (own (.lnk 0) up)))), 0, 0,
        ⟨by decide +kernel, ⟨by decide +kernel, ⟨by decide +kernel, ⟨by decide +kernel, by decide +kernel⟩⟩⟩⟩⟩,
    ⟨now 9 (putAt (.lan 0) 0 [(Lan.LANE_STATE_STATE, 4)] (put .glb [(Glb.CHIP_ID_VALID, 1)] (put (.lnk 0) [(Lnk.LNK_CTRL_EN, 1)] (own (.lnk 0) up)))), 0, 0,
        ⟨by decide +kernel, by decide +kernel⟩⟩,
    ⟨putAt (.lan 0) 0 [(Lan.LANE_STATE_STATE, 5)] (put .glb [(Glb.CHIP_ID_VALID, 1)] (put (.lnk 0) [(Lnk.LNK_CTRL_EN, 1)] (own (.lnk 0) up))), 0, 0,
        ⟨by decide +kernel, ⟨by decide +kernel, by decide +kernel⟩⟩⟩,
    ⟨put (.lan 0) [(Lan.QUAR_END_LO, 1)] (putAt (.lan 0) 0 [(Lan.LANE_STATE_STATE, 5)] (put .glb [(Glb.CHIP_ID_VALID, 1)] (put (.lnk 0) [(Lnk.LNK_CTRL_EN, 1)] (own (.lnk 0) up)))), 0, 0,
        ⟨by decide +kernel, by decide +kernel⟩⟩,
    ⟨now 100000 wired, 0, 0, ⟨by decide +kernel, by decide +kernel⟩⟩,
    ⟨own (.lan 0) up, .host, 0, by unfold State.MayWrite; decide +kernel⟩,
    ⟨own (.lan 0) (putAt (.lan 0) 0 [(Lan.LANE_STATE_STATE, 6)] (up)), .host, 0, ⟨by unfold State.MayWrite; decide +kernel, by decide +kernel⟩⟩,
    ⟨own (.lan 0) up, .host, 0, ⟨by unfold State.MayWrite; decide +kernel, by decide +kernel⟩⟩,
    ⟨put .glb [(Glb.CHIP_ID_VALID, 1)] (put (.lnk 0) [(Lnk.LNK_CTRL_EN, 1)] (own (.lnk 0) up)), .host, 0, ⟨by unfold State.MayWrite; decide +kernel,
        ⟨by decide +kernel, ⟨by decide +kernel, by decide +kernel⟩⟩⟩⟩,
    ⟨put .glb [(Glb.CHIP_ID_VALID, 1)] (put (.lnk 0) [(Lnk.LNK_CTRL_EN, 0)] (own (.lnk 0) up)), .host, 0, 1,
        ⟨by unfold State.MayWrite; decide +kernel, ⟨by decide +kernel, ⟨by decide +kernel, ⟨by decide +kernel, by decide +kernel⟩⟩⟩⟩⟩,
    ⟨put .glb [(Glb.CHIP_ID_VALID, 1)] (put (.lnk 0) [(Lnk.LNK_CTRL_EN, 1)] (own (.lnk 0) up)), .host, 0, 0,
        ⟨by unfold State.MayWrite; decide +kernel, ⟨by decide +kernel, ⟨by decide +kernel, by decide +kernel⟩⟩⟩⟩⟩

/-- The hypotheses of `Obligations.KeysRoutesAndPeersAreWritten`, clause by clause. -/
theorem test_keys_routes_and_peers_are_written_met :
    (∃ (s : State) (m : Master) (v : Word), (s.MayWrite m (.cry 0)) ∧ (bitAt v.toNat 0 = true)) ∧
    (∃ (s : State) (m : Master) (v : Word), (s.MayWrite m (.cry 0)) ∧ (bitAt v.toNat 0 = false)) ∧
    (∃ (s : State) (m : Master) (v : Word), (s.MayWrite m .rt)) ∧
    (∃ (s : State) (m : Master) (v : Word), (s.MayWrite m .rt) ∧ ∃ n, n = (s.fld .rt (Rt.RNK_SEL.sub 4 0)) ∧
        ∃ part, part = (s.fld .rt (Rt.RNK_SLOT_PART.sub 11 0) n) ∧ (part ≠ 0) ∧ (v.toNat % 4096 = part) ∧ (1 ≤ s.partState part) ∧
        (s.partState part ≠ 5)) ∧
    (∃ (s : State) (m : Master) (v : Word), (s.MayWrite m .rt) ∧ ∃ n, n = (s.fld .rt (Rt.RNK_SEL.sub 4 0)) ∧
        ∃ part, part = (s.fld .rt (Rt.RNK_SLOT_PART.sub 11 0) n) ∧ (part = 0 ∨ v.toNat % 4096 ≠ part ∨ s.partState part = 0 ∨ s.partState part = 5)) ∧
    (∃ (s : State) (m : Master) (v : Word), (s.MayWrite m .rt) ∧ ∃ n, n = (s.fld .rt (Rt.RNK_SEL.sub 4 0)) ∧
        ∃ part, part = (s.fld .rt (Rt.RNK_SLOT_PART.sub 11 0) n) ∧ (part ≠ 0) ∧ (1 ≤ s.partState part) ∧ (s.partState part ≠ 5)) ∧
    (∃ (s : State) (m : Master) (v : Word), (s.MayWrite m .rt) ∧ ∃ n, n = (s.fld .rt (Rt.RNK_SEL.sub 4 0)) ∧
        ∃ part, part = (s.fld .rt (Rt.RNK_SLOT_PART.sub 11 0) n) ∧ (part = 0 ∨ s.partState part = 0 ∨ s.partState part = 5)) ∧
    (∃ (s : State) (m : Master) (v : Word), (s.MayWrite m .rt) ∧ (bitAt v.toNat 28 = false)) ∧
    (∃ (s : State) (m : Master) (v : Word) (e : Nat × Word), (s.MayWrite m .rt) ∧ (bitAt v.toNat 28 = true) ∧ (e ∈ s.regs) ∧
        (regAddr e.1 = Page.rt.base + 0x134) ∧ (e.1 ≠ regKey .rt 0x134 (s.fld .rt (Rt.PEER_IDX.sub 12 0))) ∧ (bitAt e.2.toNat 28 = true) ∧
        (e.2.toNat % 2 ^ 28 = v.toNat % 2 ^ 28)) :=
  ⟨
    ⟨own (.cry 0) up, .host, 1, ⟨by unfold State.MayWrite; decide +kernel, by decide +kernel⟩⟩,
    ⟨own (.cry 0) up, .host, 0, ⟨by unfold State.MayWrite; decide +kernel, by decide +kernel⟩⟩,
    ⟨own .rt up, .host, 0, by unfold State.MayWrite; decide +kernel⟩,
    ⟨put .rt [(Rt.RNK_SLOT_PART, 1)] (own .rt (put .part [] (putAt .part 1 [(Par.PART_STATUS_STATE, 1)] up))), .host, 1,
        ⟨by unfold State.MayWrite; decide +kernel, ⟨_, rfl, ⟨_, rfl, ⟨by decide +kernel, ⟨by decide +kernel, ⟨by decide +kernel,
        by decide +kernel⟩⟩⟩⟩⟩⟩⟩,
    ⟨put .rt [(Rt.RNK_SLOT_PART, 1)] (own .rt (put .part [] (putAt .part 1 [(Par.PART_STATUS_STATE, 5)] up))), .host, 1,
        ⟨by unfold State.MayWrite; decide +kernel, ⟨_, rfl, ⟨_, rfl, by decide +kernel⟩⟩⟩⟩,
    ⟨put .rt [(Rt.RNK_SLOT_PART, 1)] (own .rt (put .part [] (putAt .part 1 [(Par.PART_STATUS_STATE, 4)] up))), .host, 1,
        ⟨by unfold State.MayWrite; decide +kernel, ⟨_, rfl, ⟨_, rfl, ⟨by decide +kernel, ⟨by decide +kernel, by decide +kernel⟩⟩⟩⟩⟩⟩,
    ⟨put .rt [(Rt.RNK_SLOT_PART, 1)] (own .rt (put .part [] (putAt .part 1 [(Par.PART_STATUS_STATE, 0)] up))), .host, 1,
        ⟨by unfold State.MayWrite; decide +kernel, ⟨_, rfl, ⟨_, rfl, by decide +kernel⟩⟩⟩⟩,
    ⟨own .rt up, .host, 0xFFFFFFF, ⟨by unfold State.MayWrite; decide +kernel, by decide +kernel⟩⟩,
    ⟨putAt .rt 5 [(Rt.PEER_DATA, 0x10000003)] (own .rt up), .host, 0x10000003, (regKey .rt 0x134 5, 0x10000003),
        ⟨by unfold State.MayWrite; decide +kernel, ⟨by decide +kernel, ⟨by decide +kernel, ⟨by decide +kernel, ⟨by decide +kernel,
        ⟨by decide +kernel, by decide +kernel⟩⟩⟩⟩⟩⟩⟩⟩

/-- The hypotheses of `Obligations.ArrivingFlitsAreChecked`, clause by clause. -/
theorem test_arriving_flits_are_checked_met :
    (∃ (s : State) (c : Instr) (p : Nat) (n : Nat) (o : RxObs) (f : Flit) (arr : Nat), (flitOf c = some (p, n, o, f, arr)) ∧ (s.rxOn p n = false)) ∧
    (∃ (s : State) (c : Instr) (p : Nat) (n : Nat) (o : RxObs) (f : Flit) (arr : Nat), (flitOf c = some (p, n, o, f, arr)) ∧ (s.rxOn p n = true) ∧
        (o.crcOk = false)) ∧
    (∃ (s : State) (c : Instr) (p : Nat) (n : Nat) (o : RxObs) (f : Flit) (arr : Nat), (flitOf c = some (p, n, o, f, arr)) ∧ (s.rxOn p n = true) ∧
        (o.crcOk = true) ∧ (f.p.sequenced = true) ∧ (s.rxTrained p n = false)) ∧
    (∃ (s : State) (c : Instr) (p : Nat) (n : Nat) (o : RxObs) (f : Flit) (arr : Nat), (flitOf c = some (p, n, o, f, arr)) ∧ (s.rxOn p n = true) ∧
        (o.crcOk = true) ∧ (f.p.sequenced = true) ∧ (s.rxTrained p n = true) ∧ (f.h.next ≠ s.chip)) ∧
    (∃ (s : State) (c : Instr) (p : Nat) (n : Nat) (o : RxObs) (f : Flit) (arr : Nat), (flitOf c = some (p, n, o, f, arr)) ∧
        ∃ b, b = (s.rxBundle p n) ∧
        ∃ (dup : Prop), dup = (32768 ≤ seqDist (s.bundle b).rxNext f.h.seq ∨ ∃ e ∈ (s.bundle b).reorder, e.1.h.seq = f.h.seq) ∧
        (s.Arrives p n o f.h) ∧ (f.p.sequenced = true) ∧ (dup)) ∧
    (∃ (s : State) (c : Instr) (p : Nat) (n : Nat) (o : RxObs) (f : Flit) (arr : Nat), (flitOf c = some (p, n, o, f, arr)) ∧
        ∃ b, b = (s.rxBundle p n) ∧
        ∃ (dup : Prop), dup = (32768 ≤ seqDist (s.bundle b).rxNext f.h.seq ∨ ∃ e ∈ (s.bundle b).reorder, e.1.h.seq = f.h.seq) ∧
        (s.Arrives p n o f.h) ∧ (f.p.sequenced = true) ∧ (¬ dup) ∧ ((∀ e ∈ (s.bundle b).reorder, e.1.h.seq ≠ (s.bundle b).rxNext)) ∧
        (f.h.seq ≠ (s.bundle b).rxNext) ∧ (∀ c, f.p = .laneCtrl c → c.op < 3 ∨ f.h.dest ≠ s.chip)) ∧
    (∃ (s : State) (c : Instr) (p : Nat) (n : Nat) (o : RxObs) (f : Flit) (arr : Nat), (flitOf c = some (p, n, o, f, arr)) ∧ (s.InTurn p n o f.h) ∧
        (f.p.e2e = true) ∧ (f.h.dest = s.chip) ∧ (s.tagOk { f with raw := o.bytes.getD [] } = false)) ∧
    (∃ (s : State) (c : Instr) (p : Nat) (n : Nat) (o : RxObs) (f : Flit) (arr : Nat), (flitOf c = some (p, n, o, f, arr)) ∧ (s.InTurn p n o f.h) ∧
        (f.p.e2e = true) ∧ (f.h.dest ≠ s.chip)) :=
  ⟨
    ⟨up, .flitIdle 0 0 {} {}, 0, 0, {}, {}, 0, ⟨by decide +kernel, by decide +kernel⟩⟩,
    ⟨wired, .flitWr 0 0 { fec := false } {} 64 [7], 0, 0, { fec := false }, { h := {}, p := .wr 64 [7] }, 0, ⟨by decide +kernel, ⟨by decide +kernel,
        by decide +kernel⟩⟩⟩,
    ⟨putAt (.lan 0) 0 [(Lan.LANE_STATE_STATE, 1)] (up), .flitWr 0 0 {} {} 64 [7], 0, 0, {}, { h := {}, p := .wr 64 [7] }, 0, ⟨by decide +kernel,
        ⟨by decide +kernel, ⟨by decide +kernel, ⟨by decide +kernel, by decide +kernel⟩⟩⟩⟩⟩,
    ⟨wired, .flitWr 0 0 {} { next := 1 } 64 [7], 0, 0, {}, { h := { next := 1 }, p := .wr 64 [7] }, 0, ⟨by decide +kernel, ⟨by decide +kernel,
        ⟨by decide +kernel, ⟨by decide +kernel, ⟨by decide +kernel, by decide +kernel⟩⟩⟩⟩⟩⟩,
    ⟨wired, .flitWr 0 0 {} { seq := 65535 } 64 [7], 0, 0, {}, { h := { seq := 65535 }, p := .wr 64 [7] }, 0, ⟨by decide +kernel, ⟨_, rfl, ⟨_, rfl,
        ⟨⟨by decide +kernel, by decide +kernel, by decide +kernel, by decide +kernel, by decide +kernel⟩, ⟨by decide +kernel,
        by decide +kernel⟩⟩⟩⟩⟩⟩,
    ⟨wired, .flitWr 0 0 {} { seq := 5 } 64 [7], 0, 0, {}, { h := { seq := 5 }, p := .wr 64 [7] }, 0, ⟨by decide +kernel, ⟨_, rfl, ⟨_, rfl,
        ⟨⟨by decide +kernel, by decide +kernel, by decide +kernel, by decide +kernel, by decide +kernel⟩, ⟨by decide +kernel, ⟨by decide +kernel,
        ⟨by decide +kernel, ⟨by decide +kernel, fun _ e => Pay.noConfusion e⟩⟩⟩⟩⟩⟩⟩⟩⟩,
    ⟨wired, .flitWr 0 0 {} {} 64 [7], 0, 0, {}, { h := {}, p := .wr 64 [7] }, 0, ⟨by decide +kernel, ⟨⟨⟨by decide +kernel, by decide +kernel,
        by decide +kernel, by decide +kernel, by decide +kernel⟩, by decide +kernel, by decide +kernel, by decide +kernel⟩, ⟨by decide +kernel,
        ⟨by decide +kernel, by decide +kernel⟩⟩⟩⟩⟩,
    ⟨wired, .flitWr 0 0 {} { dest := 1 } 64 [7], 0, 0, {}, { h := { dest := 1 }, p := .wr 64 [7] }, 0, ⟨by decide +kernel, ⟨⟨⟨by decide +kernel,
        by decide +kernel, by decide +kernel, by decide +kernel, by decide +kernel⟩, by decide +kernel, by decide +kernel, by decide +kernel⟩,
        ⟨by decide +kernel, by decide +kernel⟩⟩⟩⟩⟩

/-- The receiver belongs to partition 1, with context 1 and its key in place. -/
def member : State :=
  putAt (.cry 0) 1 [(Cry.KEY_STATUS, 1)] (putAt .ctx 1 [(Ctx.CTX_STATE, 65537)] (putAt .part 1 [(Par.PART_STATUS_STATE, 3)] wired))
def hdr : FlitHdr := { part := 1, ctx := 1 }

/-- The hypotheses of `Obligations.AcceptedFlitsTakeEffect`, clause by clause. -/
theorem test_accepted_flits_take_effect_met :
    (∃ (s : State) (p : Nat) (n : Nat) (o : RxObs) (h : FlitHdr) (a : Nat) (data : List Byte), (s.Accepts p n o h (.wr a data))) ∧
    (∃ (s : State) (p : Nat) (n : Nat) (o : RxObs) (h : FlitHdr) (a : Nat) (data : List Byte) (k : Nat) (l : _), (s.Accepts p n o h (.wr a data)) ∧
        (s.flitRights h (s.here a) data.length = true) ∧ (data.length = 64) ∧ (a % 64 = 0) ∧ (gaSpace a = 0) ∧ (s.edMap (gaOff a) = some (k, l)) ∧
        (s.stackUp k = true) ∧ ((s.stk k).holds l = false) ∧ (s.unitSt k (l / 4096) ≠ 1) ∧ (s.ckSt h.part ≠ 2)) ∧
    (∃ (s : State) (p : Nat) (n : Nat) (o : RxObs) (h : FlitHdr) (a : Nat) (k : Nat) (tag : Nat), (s.Accepts p n o h (.rdReq a k tag))) ∧
    (∃ (s : State) (p : Nat) (n : Nat) (o : RxObs) (h : FlitHdr) (tag : Nat) (status : Nat) (data : List Byte), (s.Accepts p n o h (.rdRsp tag status data))) ∧
    (∃ (s : State) (p : Nat) (n : Nat) (o : RxObs) (h : FlitHdr) (a : Nat) (v : Nat) (w : Bool), (s.Accepts p n o h (.sig a v w))) ∧
    (∃ (s : State) (p : Nat) (n : Nat) (o : RxObs) (h : FlitHdr) (tag : Nat) (status : Nat), (s.Accepts p n o h (.ackE2e tag status))) ∧
    (∃ (s : State) (p : Nat) (n : Nat) (o : RxObs) (h : FlitHdr) (c : CollHdr) (data : List Byte), (s.Accepts p n o h (.collData c data))) ∧
    (∃ (s : State) (p : Nat) (n : Nat) (o : RxObs) (h : FlitHdr) (tag : Nat) (rank : Nat) (k : Nat), (s.Accepts p n o h (.collCredit tag rank k))) ∧
    (∃ (s : State) (p : Nat) (n : Nat) (o : RxObs) (h : FlitHdr) (x : Coll) (tag : Nat) (cause : Nat) (absent : List Nat), (s.Accepts p n o h (.collAbort tag cause absent)) ∧
        (s.coll tag = some x) ∧ (x.part = h.part)) ∧
    (∃ (s : State) (p : Nat) (n : Nat) (o : RxObs) (h : FlitHdr) (tag : Nat) (cause : Nat) (absent : List Nat), (s.Accepts p n o h (.collAbort tag cause absent)) ∧
        (∀ x, s.coll tag = some x → x.part ≠ h.part)) ∧
    (∃ (s : State) (p : Nat) (n : Nat) (o : RxObs) (h : FlitHdr) (m : MgMsg), (s.Accepts p n o h (.mgmt m))) ∧
    (∃ (s : State) (p : Nat) (n : Nat) (o : RxObs) (h : FlitHdr) (b : Nat) (q : Nat) (reply : Bool), (s.Accepts p n o h (.resume b q reply))) ∧
    (∃ (s : State) (p : Nat) (n : Nat) (o : RxObs) (h : FlitHdr) (b : Nat) (q : Nat) (reply : Bool) (e : Nat), (s.Accepts p n o h (.resume b q reply)) ∧
        ((s.bundle e).unacked ≠ []) ∧ (s.bndUp e = false) ∧ (s.bndPeer e = h.src) ∧ (∀ x < e, s.bndPeer x ≠ h.src) ∧ (e < 64) ∧
        (e ≠ s.rxBundle p n) ∧ ((s.bundle e).resumeSent = false)) :=
  ⟨
    ⟨member, 0, 0, {}, hdr, 0, [7], ⟨⟨⟨by decide +kernel, by decide +kernel, by decide +kernel, by decide +kernel, by decide +kernel⟩,
        by decide +kernel, by decide +kernel, by decide +kernel⟩, by decide +kernel, by decide +kernel, by decide +kernel, by decide +kernel,
        by decide +kernel⟩⟩,
    ⟨edesk member, 0, 0, {}, hdr, 0, List.replicate 64 7, 0, 0, ⟨⟨⟨⟨by decide +kernel, by decide +kernel, by decide +kernel, by decide +kernel,
        by decide +kernel⟩, by decide +kernel, by decide +kernel, by decide +kernel⟩, by decide +kernel, by decide +kernel, by decide +kernel,
        by decide +kernel, by decide +kernel⟩, ⟨by decide +kernel, ⟨by decide +kernel, ⟨by decide +kernel, ⟨by decide +kernel, ⟨by decide +kernel,
        ⟨by decide +kernel, ⟨by decide +kernel, ⟨by decide +kernel, by decide +kernel⟩⟩⟩⟩⟩⟩⟩⟩⟩⟩,
    ⟨member, 0, 0, {}, hdr, 0, 64, 5, ⟨⟨⟨by decide +kernel, by decide +kernel, by decide +kernel, by decide +kernel, by decide +kernel⟩,
        by decide +kernel, by decide +kernel, by decide +kernel⟩, by decide +kernel, by decide +kernel, by decide +kernel, by decide +kernel,
        by decide +kernel⟩⟩,
    ⟨member, 0, 0, {}, hdr, 5, 0, [7], ⟨⟨⟨by decide +kernel, by decide +kernel, by decide +kernel, by decide +kernel, by decide +kernel⟩,
        by decide +kernel, by decide +kernel, by decide +kernel⟩, by decide +kernel, by decide +kernel, by decide +kernel, by decide +kernel,
        by decide +kernel⟩⟩,
    ⟨member, 0, 0, {}, hdr, 0x100000000040, 1, true, ⟨⟨⟨by decide +kernel, by decide +kernel, by decide +kernel, by decide +kernel,
        by decide +kernel⟩, by decide +kernel, by decide +kernel, by decide +kernel⟩, by decide +kernel, by decide +kernel, by decide +kernel,
        by decide +kernel, by decide +kernel⟩⟩,
    ⟨member, 0, 0, {}, hdr, 5, 0, ⟨⟨⟨by decide +kernel, by decide +kernel, by decide +kernel, by decide +kernel, by decide +kernel⟩,
        by decide +kernel, by decide +kernel, by decide +kernel⟩, by decide +kernel, by decide +kernel, by decide +kernel, by decide +kernel,
        by decide +kernel⟩⟩,
    ⟨member, 0, 0, {}, hdr, { tag := 9 }, [7], ⟨⟨⟨by decide +kernel, by decide +kernel, by decide +kernel, by decide +kernel, by decide +kernel⟩,
        by decide +kernel, by decide +kernel, by decide +kernel⟩, by decide +kernel, by decide +kernel, by decide +kernel, by decide +kernel,
        by decide +kernel⟩⟩,
    ⟨member, 0, 0, {}, hdr, 9, 1, 1, ⟨⟨⟨by decide +kernel, by decide +kernel, by decide +kernel, by decide +kernel, by decide +kernel⟩,
        by decide +kernel, by decide +kernel, by decide +kernel⟩, by decide +kernel, by decide +kernel, by decide +kernel, by decide +kernel,
        by decide +kernel⟩⟩,
    ⟨{ member with colls := [{ tag := 9, part := 1 }] }, 0, 0, {}, hdr, { tag := 9, part := 1 }, 9, 0, [], ⟨⟨⟨⟨by decide +kernel, by decide +kernel,
        by decide +kernel, by decide +kernel, by decide +kernel⟩, by decide +kernel, by decide +kernel, by decide +kernel⟩, by decide +kernel,
        by decide +kernel, by decide +kernel, by decide +kernel, by decide +kernel⟩, ⟨by decide +kernel, by decide +kernel⟩⟩⟩,
    ⟨member, 0, 0, {}, hdr, 9, 0, [], ⟨⟨⟨⟨by decide +kernel, by decide +kernel, by decide +kernel, by decide +kernel, by decide +kernel⟩,
        by decide +kernel, by decide +kernel, by decide +kernel⟩, by decide +kernel, by decide +kernel, by decide +kernel, by decide +kernel,
        by decide +kernel⟩, by decide +kernel⟩⟩,
    ⟨member, 0, 0, {}, hdr, .cont 0 1 0 [] [], ⟨⟨⟨by decide +kernel, by decide +kernel, by decide +kernel, by decide +kernel, by decide +kernel⟩,
        by decide +kernel, by decide +kernel, by decide +kernel⟩, by decide +kernel, by decide +kernel, by decide +kernel, by decide +kernel,
        by decide +kernel⟩⟩,
    ⟨member, 0, 0, {}, hdr, 0, 0, false, ⟨⟨⟨by decide +kernel, by decide +kernel, by decide +kernel, by decide +kernel, by decide +kernel⟩,
        by decide +kernel, by decide +kernel, by decide +kernel⟩, by decide +kernel, by decide +kernel, by decide +kernel, by decide +kernel,
        by decide +kernel⟩⟩,
    ⟨{ putAt .bnd 1 [(Bnd.BND_PEER, 5)] member with bundles := [(1, { unacked := [{}] })] }, 0, 0, {}, { hdr with src := 5 }, 0, 0, false, 1,
        ⟨⟨⟨⟨by decide +kernel, by decide +kernel, by decide +kernel, by decide +kernel, by decide +kernel⟩, by decide +kernel, by decide +kernel,
        by decide +kernel⟩, by decide +kernel, by decide +kernel, by decide +kernel, by decide +kernel, by decide +kernel⟩, ⟨by decide +kernel,
        ⟨by decide +kernel, ⟨by decide +kernel, ⟨by decide +kernel, ⟨by decide +kernel, ⟨by decide +kernel, by decide +kernel⟩⟩⟩⟩⟩⟩⟩⟩⟩

/-- Ring pair 0 of port 8 is trained on its line. -/
def lit : State := put (.rng 0) [(Rng.RING_STATE_ON_LINE, 1), (Rng.RING_STATE_TRAINED, 1), (Rng.RING_STATE_STATE, 3)] up

def w20_12_s : State := put .bnd [(Bnd.BND_STATUS, 1)] wired
def w20_12_o : RxObs := {}
def w20_12_h : FlitHdr := {}
def w20_12_e := w20_12_s.bundleTo (w20_12_s.rxBundle 0 0) w20_12_h.src

/-- The hypotheses of `Obligations.LinkFlitsTakeEffect`, clause by clause. -/
theorem test_link_flits_take_effect_met :
    (∃ (s : State) (p : Nat) (n : Nat) (o : RxObs) (h : FlitHdr), (s.Arrives p n o h)) ∧
    (∃ (s : State) (p : Nat) (n : Nat) (o : RxObs) (h : FlitHdr) (es : List (Nat × Nat)), (s.Arrives p n o h)) ∧
    (∃ (s : State) (p : Nat) (n : Nat) (o : RxObs) (h : FlitHdr) (e : Nat) (q : Nat), (s.Arrives p n o h) ∧ ∃ b, b = (s.rxBundle p n) ∧
        ((∃ x ∈ (s.bundle b).unacked, x.f.h.seq = q))) ∧
    (∃ (s : State) (p : Nat) (n : Nat) (o : RxObs) (h : FlitHdr) (cs : List Nat), (s.InTurn p n o h) ∧ (h.dest = s.chip) ∧ (cs.length = 8)) ∧
    (∃ (s : State) (p : Nat) (n : Nat) (o : RxObs) (h : FlitHdr) (chip : Nat) (port : Nat) (lane : Nat) (b : Nat) (tick : Nat) (seq : Nat), (s.Arrives p n o h) ∧
        (copper p = true)) ∧
    (∃ (s : State) (p : Nat) (n : Nat) (o : RxObs) (h : FlitHdr) (chip : Nat) (port : Nat) (lane : Nat) (b : Nat) (tick : Nat) (seq : Nat) (r : Nat), (s.Arrives p n o h) ∧
        (s.rxRing p n = some r) ∧ (chip = s.ringPeerChip p r) ∧ (port = (s.ringX p r).peerPort)) ∧
    (∃ (s : State) (p : Nat) (n : Nat) (o : RxObs) (h : FlitHdr) (y : Yoyo), (s.InTurn p n o h) ∧ (h.dest = s.chip)) ∧
    (∃ (s : State) (p : Nat) (n : Nat) (o : RxObs) (h : FlitHdr) (m : TimeMsg) (arr : Nat), (s.Arrives p n o h)) ∧
    (∃ (s : State) (p : Nat) (n : Nat) (o : RxObs) (h : FlitHdr) (m : TrainMsg) (arr : Nat) (rtt : Nat) (skew : Nat), (s.rxOn p n = true) ∧
        (o.crcOk = true) ∧ (copper p = true) ∧ (s.laneSt p n = 1) ∧ (2 ≤ (s.laneX p n).step) ∧ ∃ v, v = (s.fld (.lnk p) Lnk.PEER_EXPECT) ∧
        (s.trainCheck m (if bitAt v 16 then some (v % 65536) else none) (s.copperBundle p m.chip) arr = .ok (some (rtt, skew)))) ∧
    (∃ (s : State) (p : Nat) (n : Nat) (o : RxObs) (h : FlitHdr) (m : TrainMsg) (arr : Nat) (c : Nat), (s.rxOn p n = true) ∧ (o.crcOk = true) ∧
        (copper p = true) ∧ (s.laneSt p n = 1) ∧ (2 ≤ (s.laneX p n).step) ∧ ∃ v, v = (s.fld (.lnk p) Lnk.PEER_EXPECT) ∧
        (s.trainCheck m (if bitAt v 16 then some (v % 65536) else none) (s.copperBundle p m.chip) arr = .error c)) ∧
    (∃ (s : State) (p : Nat) (n : Nat) (o : RxObs) (h : FlitHdr) (b : Nat) (port : Nat) (lane : Nat) (eff : Nat) (q : Nat) (k : Nat), (s.InTurn p n o h) ∧
        (h.dest = s.chip) ∧ (s.peerLane h.src port lane = some (q, k)) ∧ (copper q = true) ∧
        (s.CtlNow (s.rxBundle p n) (s.bundleTo (s.rxBundle p n) h.src) eff) ∧ (s.laneSt q k = 1) ∧ ((s.laneX q k).rxOk = true)) ∧
    (∃ (s : State) (p : Nat) (n : Nat) (o : RxObs) (h : FlitHdr) (b : Nat) (port : Nat) (lane : Nat) (eff : Nat) (q : Nat) (k : Nat), (s.InTurn p n o h) ∧
        (h.dest = s.chip) ∧ (s.peerLane h.src port lane = some (q, k)) ∧ (copper q = true) ∧
        (s.CtlNow (s.rxBundle p n) (s.bundleTo (s.rxBundle p n) h.src) eff) ∧ (s.laneSt q k = 2 ∨ s.laneSt q k = 3)) ∧
    (∃ (s : State) (p : Nat) (n : Nat) (o : RxObs) (h : FlitHdr) (b : Nat) (port : Nat) (lane : Nat) (repl : Nat) (eff : Nat) (q : Nat) (k : Nat) (j : Nat), (s.InTurn p n o h) ∧
        (h.dest = s.chip) ∧ (s.peerLane h.src port lane = some (q, k)) ∧ (s.peerLane h.src port repl = some (q, j)) ∧ (j ≠ k) ∧ (copper q = true) ∧
        (s.laneSt q k = 2) ∧ (s.laneSt q j = 3) ∧ (s.CtlNow (s.rxBundle p n) (s.bundleTo (s.rxBundle p n) h.src) eff)) ∧
    (∃ (s : State) (p : Nat) (n : Nat) (o : RxObs) (h : FlitHdr) (b : Nat) (port : Nat) (lane : Nat) (repl : Nat) (eff : Nat), (s.InTurn p n o h) ∧
        (h.dest = s.chip) ∧ ∃ e, e = (s.bundleTo (s.rxBundle p n) h.src) ∧ (¬ s.CtlNow (s.rxBundle p n) e eff) ∧
        ∃ c, (c ∈ [(Instr.laneCtrlAdd p n o h b port lane eff, ({ op := 0, bundle := b, port := port, lane := lane, eff := eff } : LaneCtl)),
        (.laneCtrlRemove p n o h b port lane eff, { op := 1, bundle := b, port := port, lane := lane, eff := eff }),
        (.laneCtrlReplace p n o h b port lane repl eff, { op := 2, bundle := b, port := port, lane := lane, repl := repl, eff := eff })])) ∧
    (∃ (s : State) (p : Nat) (n : Nat) (o : RxObs) (h : FlitHdr) (b : Nat) (port : Nat) (cause : Nat) (r : Nat), (s.InTurn p n o h ∨ s.Ahead p n o h) ∧
        (h.dest = s.chip) ∧ (s.pairOf h.src port = some r) ∧ ((s.ringX port r).out = false) ∧ ((s.ringX port r).replaces = none) ∧
        (cause ≠ declLos) ∧ (cause ≠ declMis)) ∧
    (∃ (s : State) (p : Nat) (n : Nat) (o : RxObs) (h : FlitHdr) (b : Nat) (port : Nat) (cause : Nat) (r : Nat), (s.InTurn p n o h ∨ s.Ahead p n o h) ∧
        (h.dest = s.chip) ∧ (s.pairOf h.src port = some r) ∧ ((s.ringX port r).out = false) ∧ ((s.ringX port r).replaces = none) ∧
        (cause = declLos ∨ cause = declMis) ∧ ((s.ringX port r).mute ≤ s.tick)) ∧
    (∃ (s : State) (p : Nat) (n : Nat) (o : RxObs) (h : FlitHdr) (b : Nat) (port : Nat) (r : Nat) (old : Nat), (s.InTurn p n o h ∨ s.Ahead p n o h) ∧
        (h.dest = s.chip) ∧ (s.pairOf h.src port = some r) ∧ ((s.ringX port r).replaces = some old) ∧ (s.ringF port r Rng.RING_STATE_ON_LINE = 1)) :=
  ⟨
    ⟨wired, 0, 0, {}, {}, ⟨by decide +kernel, by decide +kernel, by decide +kernel, by decide +kernel, by decide +kernel⟩⟩,
    ⟨wired, 0, 0, {}, {}, [], ⟨by decide +kernel, by decide +kernel, by decide +kernel, by decide +kernel, by decide +kernel⟩⟩,
    ⟨{ wired with bundles := [(0, { unacked := [{ f := { h := { seq := 3 } } }] })] }, 0, 0, {}, {}, 0, 3, ⟨⟨by decide +kernel, by decide +kernel,
        by decide +kernel, by decide +kernel, by decide +kernel⟩, ⟨_, rfl, by decide +kernel⟩⟩⟩,
    ⟨wired, 0, 0, {}, {}, List.replicate 8 1, ⟨⟨⟨by decide +kernel, by decide +kernel, by decide +kernel, by decide +kernel, by decide +kernel⟩,
        by decide +kernel, by decide +kernel, by decide +kernel⟩, ⟨by decide +kernel, by decide +kernel⟩⟩⟩,
    ⟨wired, 0, 0, {}, {}, 1, 2, 3, 4, 5, 6, ⟨⟨by decide +kernel, by decide +kernel, by decide +kernel, by decide +kernel, by decide +kernel⟩,
        by decide +kernel⟩⟩,
    ⟨lit, 8, 16, {}, {}, 0, 0, 0, 0, 0, 0, 0, ⟨⟨by decide +kernel, by decide +kernel, by decide +kernel, by decide +kernel, by decide +kernel⟩,
        ⟨by decide +kernel, ⟨by decide +kernel, by decide +kernel⟩⟩⟩⟩,
    ⟨wired, 0, 0, {}, {}, {}, ⟨⟨⟨by decide +kernel, by decide +kernel, by decide +kernel, by decide +kernel, by decide +kernel⟩, by decide +kernel,
        by decide +kernel, by decide +kernel⟩, by decide +kernel⟩⟩,
    ⟨wired, 0, 0, {}, {}, {}, 0, ⟨by decide +kernel, by decide +kernel, by decide +kernel, by decide +kernel, by decide +kernel⟩⟩,
    ⟨{ putAt (.lan 0) 0 [(Lan.LANE_STATE_STATE, 1)] (up) with lanes := [(0, { step := 2 })] }, 0, 0, {}, {}, { majors := 1, echoTs := 1 }, 3, 2, 0,
        ⟨by decide +kernel, ⟨by decide +kernel, ⟨by decide +kernel, ⟨by decide +kernel, ⟨by decide +kernel, ⟨_, rfl, by decide +kernel⟩⟩⟩⟩⟩⟩⟩,
    ⟨{ putAt (.lan 0) 0 [(Lan.LANE_STATE_STATE, 1)] (up) with lanes := [(0, { step := 2 })] }, 0, 0, {}, {}, {}, 3, trainVersion, ⟨by decide +kernel,
        ⟨by decide +kernel, ⟨by decide +kernel, ⟨by decide +kernel, ⟨by decide +kernel, ⟨_, rfl, by decide +kernel⟩⟩⟩⟩⟩⟩⟩,
    ⟨{ putAt (.lan 0) 1 [(Lan.LANE_PEER, 5 + 2 ^ 21), (Lan.LANE_STATE_STATE, 1)] wired with lanes := [(1, { rxOk := true })] }, 0, 0, {}, { src := 5 }, 0, 0, 1, 1, 0, 1,
        ⟨⟨⟨by decide +kernel, by decide +kernel, by decide +kernel, by decide +kernel, by decide +kernel⟩, by decide +kernel, by decide +kernel,
        by decide +kernel⟩, ⟨by decide +kernel, ⟨by decide +kernel, ⟨by decide +kernel, ⟨by unfold State.CtlNow; decide +kernel, ⟨by decide +kernel,
        by decide +kernel⟩⟩⟩⟩⟩⟩⟩,
    ⟨putAt (.lan 0) 1 [(Lan.LANE_PEER, 5 + 2 ^ 21), (Lan.LANE_STATE_STATE, 2)] wired, 0, 0, {}, { src := 5 }, 0, 0, 1, 1, 0, 1, ⟨⟨⟨by decide +kernel,
        by decide +kernel, by decide +kernel, by decide +kernel, by decide +kernel⟩, by decide +kernel, by decide +kernel, by decide +kernel⟩,
        ⟨by decide +kernel, ⟨by decide +kernel, ⟨by decide +kernel, ⟨by unfold State.CtlNow; decide +kernel, by decide +kernel⟩⟩⟩⟩⟩⟩,
    ⟨putAt (.lan 0) 1 [(Lan.LANE_PEER, 5 + 2 ^ 21), (Lan.LANE_STATE_STATE, 2)] (putAt (.lan 0) 2 [(Lan.LANE_PEER, 5 + 2 * 2 ^ 21), (Lan.LANE_STATE_STATE, 3)] wired), 0, 0, {}, { src := 5 }, 0, 0, 1, 2, 1, 0, 1, 2,
        ⟨⟨⟨by decide +kernel, by decide +kernel, by decide +kernel, by decide +kernel, by decide +kernel⟩, by decide +kernel, by decide +kernel,
        by decide +kernel⟩, ⟨by decide +kernel, ⟨by decide +kernel, ⟨by decide +kernel, ⟨by decide +kernel, ⟨by decide +kernel, ⟨by decide +kernel,
        ⟨by decide +kernel, by unfold State.CtlNow; decide +kernel⟩⟩⟩⟩⟩⟩⟩⟩⟩,
    ⟨w20_12_s, 0, 0, w20_12_o, w20_12_h, 0, 0, 1, 2, 9, ⟨⟨⟨by decide +kernel, by decide +kernel, by decide +kernel, by decide +kernel,
        by decide +kernel⟩, by decide +kernel, by decide +kernel, by decide +kernel⟩, ⟨by decide +kernel, ⟨_, rfl,
        ⟨by unfold State.CtlNow; decide +kernel,
        ⟨((Instr.laneCtrlReplace 0 0 w20_12_o w20_12_h 0 0 1 2 9, { op := 2, bundle := 0, port := 0, lane := 1, repl := 2, eff := 9 })),
        .tail _ (.tail _ (.head _))⟩⟩⟩⟩⟩⟩,
    ⟨{ putAt (.rng 0) 0 [(Rng.RING_PEER, 5), (Rng.RING_STATE_ON_LINE, 1)] wired with rings := [(128, { role := 1 })] }, 0, 0, {}, { src := 5 }, 0, 8, 0, 0,
        ⟨.inl ⟨⟨by decide +kernel, by decide +kernel, by decide +kernel, by decide +kernel, by decide +kernel⟩, by decide +kernel, by decide +kernel,
        by decide +kernel⟩, ⟨by decide +kernel, ⟨by decide +kernel, ⟨by decide +kernel, ⟨by decide +kernel, ⟨by decide +kernel,
        by decide +kernel⟩⟩⟩⟩⟩⟩⟩,
    ⟨{ putAt (.rng 0) 0 [(Rng.RING_PEER, 5), (Rng.RING_STATE_ON_LINE, 1)] wired with rings := [(128, { role := 2 })] }, 0, 0, {}, { src := 5 }, 0, 8, declLos, 0,
        ⟨.inl ⟨⟨by decide +kernel, by decide +kernel, by decide +kernel, by decide +kernel, by decide +kernel⟩, by decide +kernel, by decide +kernel,
        by decide +kernel⟩, ⟨by decide +kernel, ⟨by decide +kernel, ⟨by decide +kernel, ⟨by decide +kernel, ⟨by decide +kernel,
        by decide +kernel⟩⟩⟩⟩⟩⟩⟩,
    ⟨{ putAt (.rng 0) 0 [(Rng.RING_PEER, 5), (Rng.RING_STATE_ON_LINE, 1)] wired with rings := [(128, { role := 1, replaces := some 3 })] }, 0, 0, {}, { src := 5 }, 0, 8, 0, 3,
        ⟨.inl ⟨⟨by decide +kernel, by decide +kernel, by decide +kernel, by decide +kernel, by decide +kernel⟩, by decide +kernel, by decide +kernel,
        by decide +kernel⟩, ⟨by decide +kernel, ⟨by decide +kernel, ⟨by decide +kernel, by decide +kernel⟩⟩⟩⟩⟩⟩

/-- The hypotheses of `Obligations.PlansArmActivateAndSettle`, clause by clause. -/
theorem test_plans_arm_activate_and_settle_met :
    (∃ (s : State) (m : Master), (s.MayWrite m .fab) ∧ (s.planCheck s.plan.next = 0)) ∧
    (∃ (s : State) (m : Master), (s.MayWrite m .fab) ∧ (s.planCheck s.plan.next ≠ 0)) ∧
    (∃ (s : State) (m : Master), (s.MayWrite m .fab) ∧ (s.fld .fab Fab.PLAN_STATUS_STATE = 1) ∧ (s.tick < planBits s.plan.next 8 8)) ∧
    (∃ (s : State) (m : Master), (s.MayWrite m .fab) ∧ (s.fld .fab Fab.PLAN_STATUS_STATE ≠ 1)) ∧
    (∃ (s : State) (m : Master) (v : Word), (s.MayWrite m .fab)) ∧
    (∃ (s : State), (s.answers .fab = true)) ∧
    (∃ (s : State), (s.fld .fab Fab.PLAN_STATUS_STATE = 1) ∧ (planBits s.plan.next 8 8 ≤ s.tick)) ∧
    (∃ (s : State), (s.fld .fab Fab.PLAN_STATUS_STATE = 1) ∧ (s.tick < planBits s.plan.next 8 8)) ∧
    (∃ (s : State) (p : Nat) (r : Nat), (s.ringSt p r = 1) ∧ (s.ringF p r Rng.RING_STATE_ON_LINE = 0) ∧ ((s.ringX p r).goal ≤ 8)) ∧
    (∃ (s : State), (s.plan.recabling = true) ∧ (planBits s.plan.cur 8 8 + 100 ≤ s.tick)) ∧
    (∃ (s : State), (s.plan.recabling = false) ∧ ((∀ p, (tGet s.ports p).settleAt = 0))) ∧
    (∃ (s : State) (p : Nat), (s.mod_.uncore = true)) ∧
    (∃ (s : State) (p : Nat), (s.mod_.uncore = false)) :=
  ⟨
    ⟨{ own .fab up with plan := { next := [(2, 20)], cur := [(2, 0)] } }, .host, ⟨by unfold State.MayWrite; decide +kernel, by decide +kernel⟩⟩,
    ⟨{ own .fab up with plan := { next := [(2, 19)], cur := [(2, 0)] } }, .host, ⟨by unfold State.MayWrite; decide +kernel, by decide +kernel⟩⟩,
    ⟨put .fab [(Fab.PLAN_STATUS_STATE, 1)] ({ own .fab up with plan := { next := [(2, 20)], cur := [(2, 0)] } }), .host,
        ⟨by unfold State.MayWrite; decide +kernel, ⟨by decide +kernel, by decide +kernel⟩⟩⟩,
    ⟨put .fab [(Fab.PLAN_STATUS_STATE, 2)] ({ own .fab up with plan := { next := [(2, 20)], cur := [(2, 0)] } }), .host,
        ⟨by unfold State.MayWrite; decide +kernel, by decide +kernel⟩⟩,
    ⟨own .fab up, .host, 7, by unfold State.MayWrite; decide +kernel⟩,
    ⟨up, by decide +kernel⟩,
    ⟨now 20 (put .fab [(Fab.PLAN_STATUS_STATE, 1)] ({ own .fab up with plan := { next := [(2, 20)], cur := [(2, 0)] } })), ⟨by decide +kernel,
        by decide +kernel⟩⟩,
    ⟨now 19 (put .fab [(Fab.PLAN_STATUS_STATE, 1)] ({ own .fab up with plan := { next := [(2, 20)], cur := [(2, 0)] } })), ⟨by decide +kernel,
        by decide +kernel⟩⟩,
    ⟨put (.rng 0) [(Rng.RING_STATE_STATE, 1)] up, 8, 0, ⟨by decide +kernel, ⟨by decide +kernel, by decide +kernel⟩⟩⟩,
    ⟨{ now 100 (own .fab up) with plan := { cur := [], recabling := true } }, ⟨by decide +kernel, by decide +kernel⟩⟩,
    ⟨up, ⟨by decide +kernel, fun _ => rfl⟩⟩,
    ⟨up, 8, by decide +kernel⟩,
    ⟨State.reset, 8, by decide +kernel⟩⟩

def w22_7_s : State := now 6000000 (put (.rng 0) [(Rng.CAL_CFG_PERIOD, 1)] up)

/-- The hypotheses of `Obligations.RingPairsAreReplacedTestedAndCalibrated`, clause by clause. -/
theorem test_ring_pairs_are_replaced_tested_and_calibrated_met :
    (∃ (s : State) (m : Master) (e : Nat) (v : Word), (s.MayWrite m (.kal e)) ∧ (bitAt v.toNat 8 = true) ∧
        ∃ p, p = (8 + 8 * e + s.fld (.kal e) (Kal.KAL_SEL.sub 2 0)) ∧ ∃ r, r = (bitsOf v.toNat 3 0) ∧ (r < 12) ∧
        ((s.ringX p r).role = 1 ∨ (s.ringX p r).role = 2) ∧ ((s.ringX p r).out = false) ∧ ((s.ringX p r).replaces = none) ∧ (e < 3)) ∧
    (∃ (s : State) (m : Master) (e : Nat) (v : Word), (s.MayWrite m (.kal e)) ∧ (bitAt v.toNat 8 = true) ∧
        ∃ p, p = (8 + 8 * e + s.fld (.kal e) (Kal.KAL_SEL.sub 2 0)) ∧ ∃ r, r = (bitsOf v.toNat 3 0) ∧ (12 ≤ r ∨ ((s.ringX p r).role ≠ 1 ∧
        (s.ringX p r).role ≠ 2))) ∧
    (∃ (s : State) (m : Master) (e : Nat) (v : Word), (s.MayWrite m (.kal e)) ∧ ((∀ n < 8, bitAt v.toNat (2 * n + 1) = false))) ∧
    (∃ (s : State) (m : Master) (e : Nat) (v : Word), (s.MayWrite m (.kal e)) ∧ ((∃ n < 8, bitAt v.toNat (2 * n + 1) = true))) ∧
    (∃ (s : State) (p : Nat) (r : Nat), (s.ringSt p r = 3 ∨ s.ringSt p r = 4) ∧ ((s.ringX p r).out = false) ∧ ((s.ringX p r).replaces = none) ∧
        (s.windowOk p r = false) ∧ ((s.ringX p r).mute ≤ s.tick)) ∧
    (∃ (s : State) (p : Nat) (r : Nat), (s.ringSt p r = 3 ∨ s.ringSt p r = 4) ∧ ((s.ringX p r).out = false) ∧ ((s.ringX p r).replaces = none) ∧
        (s.windowOk p r = true)) ∧
    (∃ (s : State) (p : Nat) (r : Nat), (s.ringSt p r = 3 ∨ s.ringSt p r = 4) ∧ ((s.ringX p r).out = false) ∧ ((s.ringX p r).replaces = none) ∧
        (s.ringF p r Rng.RING_STATE_TRAINED = 1) ∧ (s.windowOk p r = true) ∧ ((s.eng (ringEng p)).muteLos ≤ s.tick) ∧
        ((s.eng (ringEng p)).forced = false) ∧ ((s.ringX p r).mute ≤ s.tick)) ∧
    (∃ (s : State) (p : Nat) (r : Nat), (s.ringSt p r = 3 ∨ s.ringSt p r = 4) ∧ ((s.ringX p r).out = false) ∧ ((s.ringX p r).replaces = none) ∧
        (s.ringF p r Rng.RING_STATE_TRAINED = 1) ∧ (s.tick < (s.eng (ringEng p)).muteLos)) ∧
    (∃ (s : State) (p : Nat) (r : Nat), (s.ringSt p r = 3 ∨ s.ringSt p r = 4) ∧ ((s.ringX p r).out = false) ∧ ((s.ringX p r).replaces = none) ∧
        ∃ dir, (dir < 2) ∧ (r < 12)) ∧
    (∃ (s : State) (p : Nat) (r : Nat), (s.procFailed 2 = false) ∧ (s.lineZeroBusy p = false) ∧ (s.forcedSwitch (ringEng p) = false) ∧
        (s.nextTest p = some r)) ∧
    (∃ (s : State) (p : Nat), (s.nextTest p = none)) ∧
    (∃ (s : State) (p : Nat) (r : Nat) (aligned : Bool) (offT : Int) (offR : Int), ((s.ringX p r).testing = true) ∧
        (s.forcedSwitch (ringEng p) = false) ∧ (r < 12)) ∧
    (∃ (s : State) (m : Master) (e : Nat) (v : Word), (s.MayWrite m (.rng e)) ∧ (bitAt v.toNat 0 = true) ∧
        ∃ sel, sel = (s.fld (.rng e) Rng.RING_SEL) ∧ ∃ p, p = (8 + 8 * e + bitsOf sel 2 0) ∧ ∃ r, r = (bitsOf sel 7 4) ∧
        (s.ringSt p r = 5 ∨ s.ringSt p r = 6)) ∧
    (∃ (s : State) (m : Master) (e : Nat) (v : Word), (s.MayWrite m (.rng e)) ∧ (bitAt v.toNat 0 = true) ∧
        ∃ sel, sel = (s.fld (.rng e) Rng.RING_SEL) ∧ ∃ p, p = (8 + 8 * e + bitsOf sel 2 0) ∧ ∃ r, r = (bitsOf sel 7 4) ∧ (s.ringSt p r < 5)) ∧
    (∃ (s : State) (m : Master) (e : Nat), (s.procFailed 2 = false) ∧ (s.fld (.rng e) (Rng.CAL_STATUS.sub 16 16) = 0) ∧
        ∃ c, (c ∈ [(Instr.calPeriodDue e, s.fld64 (.rng e) Rng.CAL_TICK_LO + s.fld (.rng e) Rng.CAL_CFG_PERIOD * 6000000 ≤ s.tick),
        (.calTempDue e, s.fld (.rng e) Rng.CAL_CFG_DELTA_T < ((s.eng e).temp - signedOf 16 (s.fld (.rng e) (Rng.CAL_STATUS.sub 15 0))).natAbs),
        (.calNow m e, s.MayWrite m (.rng e))]) ∧ (c.2)) ∧
    (∃ (s : State) (e : Nat) (ms : List CalMeas), (e < 3) ∧ (s.fld (.rng e) (Rng.CAL_STATUS.sub 16 16) = 1) ∧
        (s.flag (.rng e) Rng.CAL_CFG_NOW = false) ∧ (s.calAll e = true) ∧ (s.forcedSwitch e = false)) :=
  ⟨
    ⟨{ own (.kal 0) up with rings := [(128, { role := 1 })] }, .host, 0, 0x100, ⟨by unfold State.MayWrite; decide +kernel, ⟨by decide +kernel,
        ⟨_, rfl, ⟨_, rfl, ⟨by decide +kernel, ⟨by decide +kernel, ⟨by decide +kernel, ⟨by decide +kernel, by decide +kernel⟩⟩⟩⟩⟩⟩⟩⟩⟩,
    ⟨{ own (.kal 0) up with rings := [(128, { role := 1 })] }, .host, 0, 0x10C, ⟨by unfold State.MayWrite; decide +kernel, ⟨by decide +kernel,
        ⟨_, rfl, ⟨_, rfl, by decide +kernel⟩⟩⟩⟩⟩,
    ⟨own (.kal 0) up, .host, 0, 0x5555, ⟨by unfold State.MayWrite; decide +kernel, by decide +kernel⟩⟩,
    ⟨own (.kal 2) up, .host, 2, 0x8000, ⟨by unfold State.MayWrite; decide +kernel, by decide +kernel⟩⟩,
    ⟨put (.rng 0) [(Rng.RING_HEATER, 65535)] lit, 8, 0, ⟨by decide +kernel, ⟨by decide +kernel, ⟨by decide +kernel, ⟨by decide +kernel, by decide +kernel⟩⟩⟩⟩⟩,
    ⟨lit, 8, 0, ⟨by decide +kernel, ⟨by decide +kernel, ⟨by decide +kernel, by decide +kernel⟩⟩⟩⟩,
    ⟨lit, 8, 0, ⟨by decide +kernel, ⟨by decide +kernel, ⟨by decide +kernel, ⟨by decide +kernel, ⟨by decide +kernel, ⟨by decide +kernel,
        ⟨by decide +kernel, by decide +kernel⟩⟩⟩⟩⟩⟩⟩⟩,
    ⟨{ lit with engs := [(0, { muteLos := 1 })] }, 8, 0, ⟨by decide +kernel, ⟨by decide +kernel, ⟨by decide +kernel, ⟨by decide +kernel,
        by decide +kernel⟩⟩⟩⟩⟩,
    ⟨lit, 8, 0, ⟨by decide +kernel, ⟨by decide +kernel, ⟨by decide +kernel, ⟨1, ⟨by decide +kernel, by decide +kernel⟩⟩⟩⟩⟩⟩,
    ⟨{ up with rings := [(128, { testDue := some 0 })] }, 8, 0, ⟨by decide +kernel, ⟨by decide +kernel, ⟨by decide +kernel, by decide +kernel⟩⟩⟩⟩,
    ⟨up, 8, by decide +kernel⟩,
    ⟨{ up with rings := [(128, { testing := true })] }, 8, 0, true, 0, 0, ⟨by decide +kernel, ⟨by decide +kernel, by decide +kernel⟩⟩⟩,
    ⟨put (.rng 0) [(Rng.RING_STATE_STATE, 5)] (own (.rng 0) up), .host, 0, 1, ⟨by unfold State.MayWrite; decide +kernel, ⟨by decide +kernel, ⟨_, rfl,
        ⟨_, rfl, ⟨_, rfl, by decide +kernel⟩⟩⟩⟩⟩⟩,
    ⟨own (.rng 0) up, .host, 0, 1, ⟨by unfold State.MayWrite; decide +kernel, ⟨by decide +kernel, ⟨_, rfl, ⟨_, rfl, ⟨_, rfl, by decide +kernel⟩⟩⟩⟩⟩⟩,
    ⟨w22_7_s, .host, 0, ⟨by decide +kernel, ⟨by decide +kernel,
        ⟨((Instr.calPeriodDue 0, w22_7_s.fld64 (.rng 0) Rng.CAL_TICK_LO + w22_7_s.fld (.rng 0) Rng.CAL_CFG_PERIOD * 6000000 ≤ w22_7_s.tick) : Instr × Prop),
        ⟨.head _, by show _ ≤ _; decide +kernel⟩⟩⟩⟩⟩,
    ⟨{ put (.rng 0) [(Rng.CAL_STATUS.sub 16 16, 1)] up with ports := (List.range 8).map (fun k => (8 + k, { calR := 12 })) }, 0, [],
        ⟨by decide +kernel, ⟨by decide +kernel, ⟨by decide +kernel, ⟨by decide +kernel, by decide +kernel⟩⟩⟩⟩⟩⟩

def w23_1_0_s : State := put (.las 0 1) [(Las.LAS_STATUS_ROLE, 2)] (own (.las 0 1) (put (.lnk 8) [(Lnk.LNK_CTRL_EN, 1)] (up)))
def w23_1_1_s : State := put (.las 0 1) [(Las.LAS_STATUS_ROLE, 2)] (own (.las 0 1) (put (.lnk 8) [(Lnk.LNK_CTRL_EN, 1)] (put (.las 0 0) [(Las.LAS_STATUS_ENG_STATE, 2)] up)))
def w23_1_2_s : State := put (.las 0 1) [(Las.LAS_STATUS_ROLE, 1)] (own (.las 0 1) (put (.lnk 8) [(Lnk.LNK_CTRL_EN, 1)] (up)))
def w23_3_2_s : State := { own (.mon 0) up with engs := [(0, { mon := 1 })] }

/-- The hypotheses of `Obligations.LasersSwitchAndMonitorsRead`, clause by clause. -/
theorem test_lasers_switch_and_monitors_read_met :
    (∃ (s : State) (e : Nat), (e < 3) ∧ (s.lasSt e ≤ 2) ∧ (s.spareWarm e = true)) ∧
    (∃ (s : State) (e : Nat), (e < 3) ∧ (s.lasSt e = 4) ∧ (s.engPowered e = true)) ∧
    (∃ (s : State) (e : Nat), (e < 3) ∧ (s.lasSt e = 3 ∨ s.lasSt e = 5)) ∧
    (∃ (s : State) (e : Nat), (e < 3) ∧ (s.switchDue e = true)) ∧
    (∃ (s : State) (e : Nat), (e < 3) ∧ (s.switchDue e = false)) ∧
    (∃ (s : State) (e : Nat), (e < 3) ∧ (s.lasSt e = 3) ∧ (s.engPowered e = true) ∧ ((s.eng e).toLaser ≤ 1)) ∧
    (∃ (s : State) (m : Master) (e : Nat) (x : Nat), (e < 3) ∧ (x < 2) ∧ (s.MayWrite m (.las e x)) ∧ ∃ c, (c ∈ [(Instr.lasCmdSwitch m e x, false),
        (.lasCmdNow m e x, true)]) ∧ (s.lasRole e x = 2) ∧ (s.lasSt e = 0)) ∧
    (∃ (s : State) (m : Master) (e : Nat) (x : Nat), (e < 3) ∧ (x < 2) ∧ (s.MayWrite m (.las e x)) ∧ ∃ c, (c ∈ [(Instr.lasCmdSwitch m e x, false),
        (.lasCmdNow m e x, true)]) ∧ (s.lasRole e x = 2) ∧ (s.lasSt e = 2)) ∧
    (∃ (s : State) (m : Master) (e : Nat) (x : Nat), (e < 3) ∧ (x < 2) ∧ (s.MayWrite m (.las e x)) ∧ ∃ c, (c ∈ [(Instr.lasCmdSwitch m e x, false),
        (.lasCmdNow m e x, true)]) ∧ (s.lasRole e x ≠ 2)) ∧
    (∃ (s : State) (m : Master) (e : Nat) (v : Word), (s.MayWrite m (.rng e)) ∧ ∃ sel, sel = (s.fld (.rng e) Rng.RING_SEL) ∧
        ∃ p, p = (8 + 8 * e + bitsOf sel 2 0) ∧ ∃ r, r = (bitsOf sel 7 4) ∧ (s.ringSt p r = 0 ∨ s.ringSt p r = 6)) ∧
    (∃ (s : State) (m : Master) (e : Nat) (v : Word), (s.MayWrite m (.rng e)) ∧ ∃ sel, sel = (s.fld (.rng e) Rng.RING_SEL) ∧
        ∃ p, p = (8 + 8 * e + bitsOf sel 2 0) ∧ ∃ r, r = (bitsOf sel 7 4) ∧ (s.ringSt p r ≠ 0) ∧ (s.ringSt p r ≠ 6)) ∧
    (∃ (s : State) (m : Master) (e : Nat), (s.MayWrite m (.mon e)) ∧ ((s.eng e).mon = 0)) ∧
    (∃ (s : State) (m : Master) (e : Nat), (s.MayWrite m (.mon e)) ∧ ((s.eng e).mon = 0)) ∧
    (∃ (s : State) (m : Master) (e : Nat), (s.MayWrite m (.mon e)) ∧ ((s.eng e).mon ≠ 0) ∧ ∃ c, (c ∈ [Instr.monGoNow m e, .monGoAtTick m e])) ∧
    (∃ (s : State) (e : Nat), ((s.eng e).mon = 1) ∧ (s.fld64 (.mon e) Mon.MON_TICK_LO ≤ s.tick)) ∧
    (∃ (s : State) (e : Nat), ((s.eng e).mon = 1) ∧ (s.tick < s.fld64 (.mon e) Mon.MON_TICK_LO)) ∧
    (∃ (s : State) (e : Nat) (reading : Nat), ((s.eng e).mon = 2)) :=
  ⟨
    ⟨put (.lnk 8) [(Lnk.LNK_CTRL_EN, 1)] (put (.las 0 1) [(Las.LAS_STATUS_ROLE, 2)] up), 0, ⟨by decide +kernel, ⟨by decide +kernel, by decide +kernel⟩⟩⟩,
    ⟨put (.lnk 8) [(Lnk.LNK_CTRL_EN, 1)] (put (.las 0 0) [(Las.LAS_STATUS_ENG_STATE, 4)] up), 0, ⟨by decide +kernel, ⟨by decide +kernel, by decide +kernel⟩⟩⟩,
    ⟨put (.las 0 0) [(Las.LAS_STATUS_ENG_STATE, 5)] up, 0, ⟨by decide +kernel, by decide +kernel⟩⟩,
    ⟨{ put (.lnk 8) [(Lnk.LNK_CTRL_EN, 1)] (put (.las 0 0) [(Las.LAS_STATUS_ENG_STATE, 2)] up) with engs := [(0, { now := true, plannedAt := 0, fenceSeen := true })] }, 0,
        ⟨by decide +kernel, by decide +kernel⟩⟩,
    ⟨put (.las 0 0) [(Las.LAS_STATUS_ENG_STATE, 2)] up, 0, ⟨by decide +kernel, by decide +kernel⟩⟩,
    ⟨put (.lnk 8) [(Lnk.LNK_CTRL_EN, 1)] (put (.las 0 0) [(Las.LAS_STATUS_ENG_STATE, 3)] up), 0, ⟨by decide +kernel, ⟨by decide +kernel,
        ⟨by decide +kernel, by decide +kernel⟩⟩⟩⟩,
    ⟨w23_1_0_s, .host, 0, 1, ⟨by decide +kernel, ⟨by decide +kernel, ⟨by unfold State.MayWrite; decide +kernel,
        ⟨((Instr.lasCmdSwitch .host 0 1, false)), ⟨.head _, ⟨by decide +kernel, by decide +kernel⟩⟩⟩⟩⟩⟩⟩,
    ⟨w23_1_1_s, .host, 0, 1, ⟨by decide +kernel, ⟨by decide +kernel, ⟨by unfold State.MayWrite; decide +kernel, ⟨((Instr.lasCmdNow .host 0 1, true)),
        ⟨.tail _ (.head _), ⟨by decide +kernel, by decide +kernel⟩⟩⟩⟩⟩⟩⟩,
    ⟨w23_1_2_s, .host, 0, 1, ⟨by decide +kernel, ⟨by decide +kernel, ⟨by unfold State.MayWrite; decide +kernel,
        ⟨((Instr.lasCmdSwitch .host 0 1, false)), ⟨.head _, by decide +kernel⟩⟩⟩⟩⟩⟩,
    ⟨own (.rng 0) up, .host, 0, 7, ⟨by unfold State.MayWrite; decide +kernel, ⟨_, rfl, ⟨_, rfl, ⟨_, rfl, by decide +kernel⟩⟩⟩⟩⟩,
    ⟨own (.rng 0) lit, .host, 0, 7, ⟨by unfold State.MayWrite; decide +kernel, ⟨_, rfl, ⟨_, rfl, ⟨_, rfl, ⟨by decide +kernel, by decide +kernel⟩⟩⟩⟩⟩⟩,
    ⟨own (.mon 0) up, .host, 0, ⟨by unfold State.MayWrite; decide +kernel, by decide +kernel⟩⟩,
    ⟨own (.mon 0) up, .host, 0, ⟨by unfold State.MayWrite; decide +kernel, by decide +kernel⟩⟩,
    ⟨w23_3_2_s, .host, 0, ⟨by unfold State.MayWrite; decide +kernel, ⟨by decide +kernel, ⟨(Instr.monGoAtTick .host 0), .tail _ (.head _)⟩⟩⟩⟩,
    ⟨{ up with engs := [(0, { mon := 1 })] }, 0, ⟨by decide +kernel, by decide +kernel⟩⟩,
    ⟨{ put (.mon 0) [(Mon.MON_TICK_LO, 1)] up with engs := [(0, { mon := 1 })] }, 0, ⟨by decide +kernel, by decide +kernel⟩⟩,
    ⟨{ up with engs := [(0, { mon := 2 })] }, 0, 0, by decide +kernel⟩⟩

theorem smGet_absent {α : Type} (d : Nat → α) (l : SMap α) (k : Nat) (h : ∀ e ∈ l, e.1 ≠ k) : smGet d l k = d k := by
  induction l with
  | nil => rfl
  | cons a l ih => simp [smGet, h a (by simp), ih (fun e he => h e (by simp [he]))]
theorem part_addr (p : Nat) : regAddr (regKey .part 264 p) = 524552 := by
  unfold regAddr regKey
  rw [show Page.base .part = 524288 from rfl, show Page.kind .part = 16 from rfl, show bankSize = 67108864 from rfl]
  omega
theorem part_kind (p : Nat) : regKey .part 264 p % 64 = 16 := by
  unfold regKey
  rw [show Page.kind .part = 16 from rfl]
  omega
theorem default_at (k : Nat) (h : regAddr k = 524552) : regDefault k = 0 := by unfold regDefault; rw [h]; decide +kernel
theorem part_fld {s : State} (h : ∀ e ∈ s.regs, e.1 % 64 ≠ 16) (p : Nat) : s.fld .part ⟨264, 2, 0⟩ p = 0 := by
  unfold State.fld State.reg
  rw [smGet_absent _ _ _ (fun e he hk => h e he (by rw [hk, part_kind])), default_at _ (part_addr p)]
  decide
/-- No partition runs where no register of the partition page is listed. -/
theorem none_running {s : State} (h : ∀ e ∈ s.regs, e.1 % 64 ≠ 16) :
    ¬ ∃ p < 4096, p ≠ 0 ∧ (s.fld .part (Par.PART_STATUS.sub 2 0) p = 2 ∨ s.fld .part (Par.PART_STATUS.sub 2 0) p = 3) := by
  rintro ⟨p, hp, -, h2⟩
  rw [show Par.PART_STATUS.sub 2 0 = ⟨264, 2, 0⟩ from rfl, part_fld h] at h2
  revert h2; decide

/-- The hypotheses of `Obligations.TimeBaseKeepsItsSource`, clause by clause. -/
theorem test_time_base_keeps_its_source_met :
    (∃ (s : State) (m : Master), (s.MayWrite m .time) ∧ ∃ (running : Prop), running = (∃ p < 4096, p ≠ 0 ∧
        (s.fld .part (Par.PART_STATUS.sub 2 0) p = 2 ∨ s.fld .part (Par.PART_STATUS.sub 2 0) p = 3)) ∧ (running)) ∧
    (∃ (s : State) (m : Master), (s.MayWrite m .time) ∧ ∃ (running : Prop), running = (∃ p < 4096, p ≠ 0 ∧
        (s.fld .part (Par.PART_STATUS.sub 2 0) p = 2 ∨ s.fld .part (Par.PART_STATUS.sub 2 0) p = 3)) ∧ (¬ running) ∧ (s.qualified = false)) ∧
    (∃ (s : State) (m : Master), (s.MayWrite m .time) ∧ ∃ (running : Prop), running = (∃ p < 4096, p ≠ 0 ∧
        (s.fld .part (Par.PART_STATUS.sub 2 0) p = 2 ∨ s.fld .part (Par.PART_STATUS.sub 2 0) p = 3)) ∧ (¬ running) ∧ (s.qualified = true)) ∧
    (∃ (s : State) (m : Master) (v : Word), (s.MayWrite m .time) ∧
        ∃ (bad : Prop), bad = ((128 ≤ bitsOf v.toNat 7 0 ∧ bitsOf v.toNat 7 0 ≤ 254) ∨ bitsOf v.toNat 23 16 < 3) ∧ (¬ bad)) ∧
    (∃ (s : State) (m : Master) (v : Word), (s.MayWrite m .time) ∧
        ∃ (bad : Prop), bad = ((128 ≤ bitsOf v.toNat 7 0 ∧ bitsOf v.toNat 7 0 ≤ 254) ∨ bitsOf v.toNat 23 16 < 3) ∧ (bad)) ∧
    (∃ (s : State), (s.rootCandidate = true) ∧ (s.isRoot = false) ∧ (s.rootLoss ≤ s.time.rootCnt)) ∧
    (∃ (s : State), (s.isRoot = true)) ∧
    (∃ (s : State), (s.isRoot = false) ∧ (s.parentLost = true) ∧ (s.ptpLost 0 = false) ∧ (s.ptpLost 1 = false)) ∧
    (∃ (s : State), (s.isRoot = true) ∧ (s.ptpLost 0 = true) ∧ (s.ptpLost 1 = false) ∧ (s.timSt = 1 ∨ s.timSt = 2)) ∧
    (∃ (s : State), (s.timSt = 3) ∧ (s.time.longNoted = false) ∧ (6000000 ≤ s.fld .time Tim.HOLD_TICKS)) ∧
    (∃ (s : State), (s.timSt ≠ 3 ∨ s.time.longNoted = true ∨ s.fld .time Tim.HOLD_TICKS < 6000000)) :=
  ⟨
    ⟨putAt .part 4095 [(Par.PART_STATUS, 2)] (own .time up), .host, ⟨by unfold State.MayWrite; decide +kernel, ⟨_, rfl, ⟨4095, by decide, by decide,
        .inl (by decide +kernel)⟩⟩⟩⟩,
    ⟨own .time up, .host, ⟨by unfold State.MayWrite; decide +kernel, ⟨_, rfl, ⟨none_running (by decide +kernel), by decide +kernel⟩⟩⟩⟩,
    ⟨{ put .time [(Tim.PARENT, 64)] (own .time up) with time := { qual := 100 } }, .host, ⟨by unfold State.MayWrite; decide +kernel, ⟨_, rfl,
        ⟨none_running (by decide +kernel), by decide +kernel⟩⟩⟩⟩,
    ⟨own .time up, .host, 0x0300FF, ⟨by unfold State.MayWrite; decide +kernel, ⟨_, rfl, by decide +kernel⟩⟩⟩,
    ⟨own .time up, .host, 0x030080, ⟨by unfold State.MayWrite; decide +kernel, ⟨_, rfl, by decide +kernel⟩⟩⟩,
    ⟨{ put .time [(Tim.TIM_CFG_ROOT_PRIO, 127)] up with time := { rootCnt := 255 } }, ⟨by decide +kernel, ⟨by decide +kernel, by decide +kernel⟩⟩⟩,
    ⟨put .time [(Tim.TIM_STATUS, 4)] up, by decide +kernel⟩,
    ⟨put .time [(Tim.PARENT, 64)] up, ⟨by decide +kernel, ⟨by decide +kernel, ⟨by decide +kernel, by decide +kernel⟩⟩⟩⟩,
    ⟨put .time [(Tim.TIM_STATUS, 5)] (put .ptp [(Ptp.PTP_STATUS, 8)] { now 9 up with time := { ptp := [(0, { sync := 1 })] } }), ⟨by decide +kernel,
        ⟨by decide +kernel, ⟨by decide +kernel, by decide +kernel⟩⟩⟩⟩,
    ⟨put .time [(Tim.TIM_STATUS, 3), (Tim.HOLD_TICKS, 6000000)] up, ⟨by decide +kernel, ⟨by decide +kernel, by decide +kernel⟩⟩⟩,
    ⟨put .time [(Tim.TIM_STATUS, 3), (Tim.HOLD_TICKS, 5999999)] up, by decide +kernel⟩⟩

def w25_0_0_a : Announce := {}
def w25_0_1_s : State := put .ptp [(Ptp.PTP_CTRL, 1), (Ptp.PTP_STATUS, 8)] (put .mgt [(Mgt.MGT_STATUS, 1)] { up with time := { ptp := [(0, {  })] } })
def w25_0_1_t1 : Option Nat := some 1
def w25_0_1_a : Announce := {}

/-- The hypotheses of `Obligations.PtpMessagesServeTheSlave`, clause by clause. -/
theorem test_ptp_messages_serve_the_slave_met :
    (∃ (s : State) (p : Nat) (d : Nat) (q : Nat) (l : Int) (t1 : Option Nat) (t2 : Nat) (t4 : _) (a : Announce), ∃ c, (c ∈ [Instr.ptpSync p d q l t1 t2,
        .ptpFollowUp p d q t4, .ptpDelayResp p d t4, .ptpAnnounce p d l a]) ∧ (s.ptpRuns p = false)) ∧
    (∃ (s : State) (p : Nat) (d : Nat) (q : Nat) (l : Int) (t1 : Option Nat) (t2 : Nat) (t4 : _) (a : Announce), ∃ c, (c ∈ [Instr.ptpSync p d q l t1 t2,
        .ptpFollowUp p d q t4, .ptpDelayResp p d t4, .ptpAnnounce p d l a]) ∧ (s.ptpRuns p = true) ∧ (d ≠ s.fld .ptp Ptp.PTP_CTRL_DOMAIN)) ∧
    (∃ (s : State) (p : Nat) (d : Nat) (q : Nat) (l : Int) (t1 : Option Nat) (t2 : Nat), (s.ptpRuns p = true) ∧
        (d = s.fld .ptp Ptp.PTP_CTRL_DOMAIN) ∧ (-7 ≤ l) ∧ (l ≤ 1) ∧ (s.ptpSlaving p = true)) ∧
    (∃ (s : State) (p : Nat) (d : Nat) (q : Nat) (t1 : Nat) (dl : Int), (s.ptpRuns p = true) ∧ (d = s.fld .ptp Ptp.PTP_CTRL_DOMAIN) ∧
        (s.ptpSlaving p = true) ∧ ((s.ptpPort p).seq = q) ∧ ((s.ptpPort p).t1 = none) ∧ ((s.ptpPort p).delay = some dl)) ∧
    (∃ (s : State) (p : Nat) (d : Nat) (q : Nat) (t1 : Nat), (s.ptpRuns p = true) ∧ (d = s.fld .ptp Ptp.PTP_CTRL_DOMAIN) ∧ ((s.ptpPort p).seq ≠ q)) ∧
    (∃ (s : State) (p : Nat) (t3 : Nat), (s.ptpRuns p = true) ∧ (s.ptpSlaving p = true)) ∧
    (∃ (s : State) (p : Nat) (d : Nat) (t4 : Nat) (t1 : Nat) (t3 : _), (s.ptpRuns p = true) ∧ (d = s.fld .ptp Ptp.PTP_CTRL_DOMAIN) ∧
        (s.ptpSlaving p = true) ∧ ((s.ptpPort p).t1 = some t1) ∧ ((s.ptpPort p).t3 = some t3)) ∧
    (∃ (s : State) (p : Nat) (d : Nat) (l : Int) (a : Announce), (s.ptpRuns p = true) ∧ (d = s.fld .ptp Ptp.PTP_CTRL_DOMAIN) ∧ (0 ≤ l) ∧ (l ≤ 3)) :=
  ⟨
    ⟨up, 0, 0, 0, 0, none, 0, 0, w25_0_0_a, ⟨(Instr.ptpSync 0 0 0 0 none 0), ⟨.head _, by decide +kernel⟩⟩⟩,
    ⟨w25_0_1_s, 0, 1, 0, 0, w25_0_1_t1, 0, 0, w25_0_1_a, ⟨(Instr.ptpAnnounce 0 1 0 w25_0_1_a), ⟨.tail _ (.tail _ (.tail _ (.head _))),
        ⟨by decide +kernel, by decide +kernel⟩⟩⟩⟩,
    ⟨put .ptp [(Ptp.PTP_CTRL, 1), (Ptp.PTP_STATUS, 8)] (put .mgt [(Mgt.MGT_STATUS, 1)] { up with time := { ptp := [(0, {  })] } }), 0, 0, 0, -7, some 5, 6,
        ⟨by decide +kernel, ⟨by decide +kernel, ⟨by decide +kernel, ⟨by decide +kernel, by decide +kernel⟩⟩⟩⟩⟩,
    ⟨put .ptp [(Ptp.PTP_CTRL, 1), (Ptp.PTP_STATUS, 8)] (put .mgt [(Mgt.MGT_STATUS, 1)] { up with time := { ptp := [(0, { seq := 3, delay := some 4 })] } }), 0, 0, 3, 5, 4,
        ⟨by decide +kernel, ⟨by decide +kernel, ⟨by decide +kernel, ⟨by decide +kernel, ⟨by decide +kernel, by decide +kernel⟩⟩⟩⟩⟩⟩,
    ⟨put .ptp [(Ptp.PTP_CTRL, 1), (Ptp.PTP_STATUS, 8)] (put .mgt [(Mgt.MGT_STATUS, 1)] { up with time := { ptp := [(0, {  })] } }), 0, 0, 3, 5,
        ⟨by decide +kernel, ⟨by decide +kernel, by decide +kernel⟩⟩⟩,
    ⟨put .ptp [(Ptp.PTP_CTRL, 1), (Ptp.PTP_STATUS, 8)] (put .mgt [(Mgt.MGT_STATUS, 1)] { up with time := { ptp := [(0, {  })] } }), 0, 7,
        ⟨by decide +kernel, by decide +kernel⟩⟩,
    ⟨put .ptp [(Ptp.PTP_CTRL, 1), (Ptp.PTP_STATUS, 8)] (put .mgt [(Mgt.MGT_STATUS, 1)] { up with time := { ptp := [(0, { t1 := some 1, t3 := some 2 })] } }), 0, 0, 3, 1, 2,
        ⟨by decide +kernel, ⟨by decide +kernel, ⟨by decide +kernel, ⟨by decide +kernel, by decide +kernel⟩⟩⟩⟩⟩,
    ⟨put .ptp [(Ptp.PTP_CTRL, 1), (Ptp.PTP_STATUS, 8)] (put .mgt [(Mgt.MGT_STATUS, 1)] { up with time := { ptp := [(0, {  })] } }), 0, 0, 3, {},
        ⟨by decide +kernel, ⟨by decide +kernel, ⟨by decide +kernel, by decide +kernel⟩⟩⟩⟩⟩

/-- The hypotheses of `Obligations.TriggersCapturesAndReadings`, clause by clause. -/
theorem test_triggers_captures_and_readings_met :
    (∃ (s : State) (sub : Nat), (s.answers .time = true) ∧ (s.time.frozen = false)) ∧
    (∃ (s : State), (s.answers .time = true)) ∧
    (∃ (s : State) (n : Nat), (n < 4) ∧ (s.answers .trg = true)) ∧
    (∃ (s : State) (n : Nat), (n < 4) ∧ (s.answers .trg = true)) ∧
    (∃ (s : State) (m : Master) (n : Nat) (event : Bool) (pulse : Bool) (sub : Nat), (n < 4) ∧ (s.MayWrite m .trg)) ∧
    (∃ (s : State) (n : Nat), (n < 4) ∧ (s.flag .trg (Trg.TRG_CTRL_ARM n) = true) ∧ (s.trgTarget n < s.time.tai + tickLen)) ∧
    (∃ (s : State) (n : Nat), (n < 4) ∧ (s.flag .trg (Trg.TRG_CTRL_ARM n) = true) ∧ (s.time.tai + tickLen ≤ s.trgTarget n)) ∧
    (∃ (s : State) (k : Nat), (s.flag .trg Trg.PPS_CTRL_OUT_EN = true) ∧ (s.timSt ≠ 0 ∨ s.flag .trg Trg.PPS_CTRL_UNSET_EN = true) ∧
        ∃ (x : Int), x = ((k : Int) * (10 ^ 9 * 65536) + signedOf 32 (s.fld .trg Trg.PPS_OFS_NS) * 65536) ∧ ((s.time.tai : Int) ≤ x) ∧
        (x < s.time.tai + tickLen) ∧ (s.time.ppsSec ≠ k + 1)) ∧
    (∃ (s : State) (k : Nat), (s.flag .trg Trg.PPS_CTRL_OUT_EN = true) ∧ (s.timSt ≠ 0 ∨ s.flag .trg Trg.PPS_CTRL_UNSET_EN = true) ∧
        ∃ (x : Int), x = ((k : Int) * (10 ^ 9 * 65536) + signedOf 32 (s.fld .trg Trg.PPS_OFS_NS) * 65536) ∧ ((s.time.tai : Int) ≤ x) ∧
        (x < s.time.tai + tickLen) ∧ (s.time.ppsSec = k + 1)) ∧
    (∃ (s : State) (falling : Bool) (sub : Nat), (s.mod_.stby = true)) ∧
    (∃ (s : State), (s.fld .trg (Trg.PPS_IN_STATUS.sub 0 0) = 1) ∧ (s.time.ppsIn + 200000 ≤ s.tick)) ∧
    (∃ (s : State), (s.fld .trg (Trg.PPS_IN_STATUS.sub 0 0) = 1) ∧ (s.tick < s.time.ppsIn + 200000)) :=
  ⟨
    ⟨up, 5, ⟨by decide +kernel, by decide +kernel⟩⟩,
    ⟨up, by decide +kernel⟩,
    ⟨up, 3, ⟨by decide +kernel, by decide +kernel⟩⟩,
    ⟨up, 3, ⟨by decide +kernel, by decide +kernel⟩⟩,
    ⟨own .trg up, .host, 3, true, false, 5, ⟨by decide +kernel, by unfold State.MayWrite; decide +kernel⟩⟩,
    ⟨put .trg [(Trg.TRG_CTRL 0, 1)] up, 0, ⟨by decide +kernel, ⟨by decide +kernel, by decide +kernel⟩⟩⟩,
    ⟨put .trg [(Trg.TRG_CTRL 0, 1), (Trg.TRG_SEC_LO 0, 1)] up, 0, ⟨by decide +kernel, ⟨by decide +kernel, by decide +kernel⟩⟩⟩,
    ⟨put .trg [(Trg.PPS_CTRL, 3)] up, 0, ⟨by decide +kernel, ⟨by decide +kernel, ⟨_, rfl, ⟨by decide +kernel, ⟨by decide +kernel, by decide +kernel⟩⟩⟩⟩⟩⟩,
    ⟨{ put .trg [(Trg.PPS_CTRL, 3)] up with time := { ppsSec := 1 } }, 0, ⟨by decide +kernel, ⟨by decide +kernel, ⟨_, rfl, ⟨by decide +kernel,
        ⟨by decide +kernel, by decide +kernel⟩⟩⟩⟩⟩⟩,
    ⟨up, true, 5, by decide +kernel⟩,
    ⟨now 200000 (put .trg [(Trg.PPS_IN_STATUS, 1)] up), ⟨by decide +kernel, by decide +kernel⟩⟩,
    ⟨now 199999 (put .trg [(Trg.PPS_IN_STATUS, 1)] up), ⟨by decide +kernel, by decide +kernel⟩⟩⟩

/-- The hypotheses of `Obligations.LaunchSlotsAndCompletions`, clause by clause. -/
theorem test_launch_slots_and_completions_met :
    (∃ (s : State) (m : Master) (n : Nat) (w : DWord) (ns : Nat), (s.answers .lchHost = true) ∧ (slotOwned m n = true) ∧
        ((s.slot n).state = 0 ∨ (s.slot n).state = 4)) ∧
    (∃ (s : State) (m : Master) (n : Nat) (w : DWord) (ns : Nat), (1 ≤ (s.slot n).state) ∧ ((s.slot n).state ≤ 3)) ∧
    (∃ (s : State) (m : Master) (n : Nat), (s.answers .lchHost = true) ∧ (slotOwned m n = true) ∧ ((s.slot n).state = 1 ∨ (s.slot n).state = 2)) ∧
    (∃ (s : State) (m : Master) (n : Nat), ((s.slot n).state = 0 ∨ 3 ≤ (s.slot n).state)) ∧
    (∃ (s : State) (m : Master) (n : Nat), (s.answers .lchHost = true) ∧ (slotOwned m n = true) ∧ ((s.slot n).state ≠ 3)) ∧
    (∃ (s : State) (m : Master) (n : Nat), ((s.slot n).state = 3)) ∧
    (∃ (s : State) (m : Master) (n : Nat) (off : Nat) (wide : Bool) (v : DWord), (s.answers .lchHost = true) ∧ (slotOwned m n = true) ∧ (8 ≤ off) ∧
        (off < 64) ∧ ((s.slot n).state = 0 ∨ (s.slot n).state = 4)) ∧
    (∃ (s : State) (m : Master) (n : Nat) (off : Nat) (wide : Bool) (v : DWord), (8 ≤ off) ∧ ((s.slot n).state ≠ 0) ∧ ((s.slot n).state ≠ 4)) ∧
    (∃ (s : State) (m : Master) (n : Nat) (w : DWord) (ns : Nat) (off : _) (wide : _) (v : _), (slotOwned m n = false) ∧
        ∃ c, (c ∈ [Instr.launchPost m n w ns, .launchCancel m n, .launchEmpty m n, .launchEntryWrite m n off wide v])) ∧
    (∃ (s : State) (n : Nat), (n < 2048) ∧ ((s.prog n).active = true) ∧ ((s.prog n).ended = none) ∧ (s.progFinished (s.prog n) = true) ∧
        (s.usedH < 4096) ∧ (s.heldH = [])) ∧
    (∃ (s : State) (n : Nat), (n < 2048) ∧ ((s.prog n).active = true) ∧ ((s.prog n).ended = none) ∧ (s.progFinished (s.prog n) = true) ∧ (4096 ≤ s.usedH)) ∧
    (∃ (s : State) (n : Nat) (e : Nat), (n < 2048) ∧ ((s.prog n).active = true) ∧ ((s.prog n).ended = some e) ∧ (s.progStopped (s.prog n) = true) ∧
        (s.usedH < 4096) ∧ (s.heldH = [])) ∧
    (∃ (s : State) (n : Nat), ((s.prog n).active = false)) ∧
    (∃ (s : State) (m : Master) (v : Word), (s.MayWrite m .lchHost) ∧ (s.heldH = []) ∧
        ∃ adv, adv = ((v.toNat % 4096 + 4096 - s.fld .lchHost (Lch.CPL_CONS.sub 11 0)) % 4096) ∧ (adv ≤ s.usedH) ∧ (s.usedH ≤ 4096)) :=
  ⟨
    ⟨{ up with slots := [(0, { w0 := 4 })] }, .host, 0, 1, 0, ⟨by decide +kernel, ⟨by decide +kernel, by decide +kernel⟩⟩⟩,
    ⟨{ up with slots := [(0, { w0 := 3 })] }, .host, 0, 1, 0, ⟨by decide +kernel, by decide +kernel⟩⟩,
    ⟨{ up with slots := [(2047, { w0 := 1 })] }, .host, 2047, ⟨by decide +kernel, ⟨by decide +kernel, by decide +kernel⟩⟩⟩,
    ⟨{ up with slots := [(0, { w0 := 3 })] }, .host, 0, by decide +kernel⟩,
    ⟨{ up with slots := [(0, { w0 := 2 })] }, .host, 0, ⟨by decide +kernel, ⟨by decide +kernel, by decide +kernel⟩⟩⟩,
    ⟨{ up with slots := [(0, { w0 := 3 })] }, .host, 0, by decide +kernel⟩,
    ⟨{ up with slots := [(0, { w0 := 0 })] }, .host, 0, 63, false, 7, ⟨by decide +kernel, ⟨by decide +kernel, ⟨by decide +kernel, ⟨by decide +kernel,
        by decide +kernel⟩⟩⟩⟩⟩,
    ⟨{ up with slots := [(0, { w0 := 2 })] }, .host, 0, 8, true, 7, ⟨by decide +kernel, ⟨by decide +kernel, by decide +kernel⟩⟩⟩,
    ⟨up, .host, 2048, 1, 0, 8, true, 7, ⟨by decide +kernel, ⟨(Instr.launchEntryWrite .host 2048 8 true 7), .tail _ (.tail _ (.tail _ (.head _)))⟩⟩⟩,
    ⟨{ up with progs := [(0, { active := true, cores := [0] })], seqs := [(0, { st := 2 })], usedH := 4095 }, 0, ⟨by decide +kernel,
        ⟨by decide +kernel, ⟨by decide +kernel, ⟨by decide +kernel, ⟨by decide +kernel, by decide +kernel⟩⟩⟩⟩⟩⟩,
    ⟨{ up with progs := [(0, { active := true, cores := [0] })], seqs := [(0, { st := 2 })], usedH := 4096 }, 0, ⟨by decide +kernel,
        ⟨by decide +kernel, ⟨by decide +kernel, ⟨by decide +kernel, by decide +kernel⟩⟩⟩⟩⟩,
    ⟨{ up with progs := [(0, { active := true, cores := [0], ended := some 3 })], seqs := [(0, { st := 2 })], usedH := 0 }, 0, 3, ⟨by decide +kernel,
        ⟨by decide +kernel, ⟨by decide +kernel, ⟨by decide +kernel, ⟨by decide +kernel, by decide +kernel⟩⟩⟩⟩⟩⟩,
    ⟨up, 0, by decide +kernel⟩,
    ⟨{ own .lchHost up with usedH := 1 }, .host, 1, ⟨by unfold State.MayWrite; decide +kernel, ⟨by decide +kernel, ⟨_, rfl, ⟨by decide +kernel,
        by decide +kernel⟩⟩⟩⟩⟩⟩

/-- The hypotheses of `Obligations.BindingChangesAndStepFencesAct`, clause by clause. -/
theorem test_binding_changes_and_step_fences_act_met :
    (∃ (s : State) (m : Master) (d : Nat) (c : Nat) (testOut : Bool), (d < 2) ∧ (c < 4) ∧ (s.MayWrite m (.cluster d c)) ∧ ∃ cl, cl = (4 * d + c) ∧
        ∃ map, map = (s.fld (.cluster d c) Cl.BIND_NEXT) ∧ (s.mapValid cl map = true)) ∧
    (∃ (s : State) (m : Master) (d : Nat) (c : Nat) (testOut : Bool), (d < 2) ∧ (c < 4) ∧ (s.MayWrite m (.cluster d c)) ∧ ∃ cl, cl = (4 * d + c) ∧
        ∃ map, map = (s.fld (.cluster d c) Cl.BIND_NEXT) ∧ (s.mapValid cl map = false)) ∧
    (∃ (s : State) (d : Nat) (c : Nat) (ns : Nat), (d < 2) ∧ (c < 4) ∧ ∃ cl, cl = (4 * d + c) ∧ ∃ x, x = (s.bindX cl) ∧ (s.bindBusy cl = true) ∧
        (x.fence = none) ∧ (x.goMap < 2 ^ 32)) ∧
    (∃ (s : State) (d : Nat) (c : Nat) (ns : Nat), (s.bindBusy (4 * d + c) = false)) ∧
    (∃ (s : State) (p : Nat) (ns : Nat), (s.fenceReady p = true) ∧ ((s.partX p).haltFence = false) ∧ (s.epArmed p = false) ∧
        (∀ cl < 8, s.bindPending cl = false) ∧ ((s.ctOf p).valid = false) ∧ (s.ckDue p ((s.stepOf p + 1) % 2 ^ 64) = false)) ∧
    (∃ (s : State) (p : Nat) (ns : Nat), (s.fenceReady p = true) ∧ ((s.partX p).haltFence = true)) ∧
    (∃ (s : State) (p : Nat) (ns : Nat), (s.fenceReady p = false)) :=
  ⟨
    ⟨put (.cluster 1 3) [(Cl.BIND_NEXT, 0x76543210)] (own (.cluster 1 3) up), .host, 1, 3, true, ⟨by decide +kernel, ⟨by decide +kernel,
        ⟨by unfold State.MayWrite; decide +kernel, ⟨_, rfl, ⟨_, rfl, by decide +kernel⟩⟩⟩⟩⟩⟩,
    ⟨put (.cluster 1 3) [(Cl.BIND_NEXT, 0)] (own (.cluster 1 3) up), .host, 1, 3, true, ⟨by decide +kernel, ⟨by decide +kernel,
        ⟨by unfold State.MayWrite; decide +kernel, ⟨_, rfl, ⟨_, rfl, by decide +kernel⟩⟩⟩⟩⟩⟩,
    ⟨{ up with binds := [(7, { copying := [56], goMap := 0x76543210 })] }, 1, 3, 0, ⟨by decide +kernel, ⟨by decide +kernel, ⟨_, rfl, ⟨_, rfl,
        ⟨by decide +kernel, ⟨by decide +kernel, by decide +kernel⟩⟩⟩⟩⟩⟩⟩,
    ⟨up, 1, 3, 0, by decide +kernel⟩,
    ⟨runWith (fun q => { q with infl := [{ wait := some .fence }] }), 1, 0, ⟨by decide +kernel, ⟨by decide +kernel, ⟨by decide +kernel,
        ⟨by decide +kernel, ⟨by decide +kernel, by decide +kernel⟩⟩⟩⟩⟩⟩,
    ⟨{ runWith (fun q => { q with infl := [{ wait := some .fence }] }) with parts := [(1, { haltFence := true })] }, 1, 0, ⟨by decide +kernel,
        by decide +kernel⟩⟩,
    ⟨run, 1, 0, by decide +kernel⟩⟩

/-- Partition 1, selected and in some state. -/
def partn (st : Nat) (s : State) : State := putAt .part 1 [(Par.PART_STATUS_STATE, st)] (put .part [(Par.PART_SEL, 1)] s)

/-- The hypotheses of `Obligations.PartitionsFollowTheirCommands`, clause by clause. -/
theorem test_partitions_follow_their_commands_met :
    (∃ (s : State) (m : Master), (s.MayWrite m .part) ∧ ∃ p, p = (s.partSel) ∧ (p ≠ 0) ∧ (s.partState p = 0) ∧ (s.mod_.removeReq = false) ∧
        (s.partsHeld.length < 32)) ∧
    (∃ (s : State) (m : Master), (s.MayWrite m .part) ∧ ∃ p, p = (s.partSel) ∧ (p = 0 ∨ s.partState p ≠ 0 ∨ s.mod_.removeReq = true)) ∧
    (∃ (s : State) (m : Master), (s.MayWrite m .part) ∧ ∃ p, p = (s.partSel) ∧ (p ≠ 0) ∧ (s.partState p = 1) ∧ (s.mod_.removeReq = false)) ∧
    (∃ (s : State) (m : Master), (s.MayWrite m .part) ∧ ∃ p, p = (s.partSel) ∧ (p ≠ 0) ∧ (s.partState p = 2 ∨ s.partState p = 3)) ∧
    (∃ (s : State) (m : Master), (s.MayWrite m .part) ∧ ∃ p, p = (s.partSel) ∧ (s.partState p < 2 ∨ 4 ≤ s.partState p)) ∧
    (∃ (s : State) (m : Master), (s.MayWrite m .part) ∧ ∃ p, p = (s.partSel) ∧ (p ≠ 0) ∧ (1 ≤ s.partState p) ∧ (s.partState p ≤ 4)) ∧
    (∃ (s : State) (m : Master), (s.MayWrite m .part) ∧ ∃ p, p = (s.partSel) ∧ (p = 0 ∨ s.partState p = 0 ∨ s.partState p = 5)) ∧
    (∃ (s : State) (m : Master), (s.MayWrite m .part) ∧ ∃ p, p = (s.partSel) ∧ (p ≠ 0) ∧ (s.partState p = 5) ∧ (s.linesHeld = []) ∧ ((s.sealOf p).st = 0)) ∧
    (∃ (s : State) (m : Master), (s.MayWrite m .part) ∧ ∃ p, p = (s.partSel) ∧ (p ≠ 0) ∧ (s.partState p = 5) ∧ (s.linesHeld = []) ∧ ((s.sealOf p).st ≠ 0)) ∧
    (∃ (s : State) (m : Master), (s.MayWrite m .part) ∧ ∃ p, p = (s.partSel) ∧ (p ≠ 0) ∧ (s.partState p ≠ 5)) ∧
    (∃ (s : State) (p : Nat), (s.partState p = 2) ∧ (s.fld64 .part Par.PART_RUN_LO p ≤ s.tick)) ∧
    (∃ (s : State) (p : Nat), (s.partState p = 2) ∧ (s.tick < s.fld64 .part Par.PART_RUN_LO p)) ∧
    (∃ (s : State) (p : Nat), (s.fld .part Par.PART_STATUS_RAMP p = 1) ∧ (2400000000 ≤ (s.rampLimit p + 500) * s.inputMv)) ∧
    (∃ (s : State) (p : Nat), (s.fld .part Par.PART_STATUS_RAMP p = 1) ∧ ((s.rampLimit p + 500) * s.inputMv < 2400000000)) ∧
    (∃ (s : State) (p : Nat), (s.partState p = 4) ∧ (s.fld .part Par.PART_STATUS_BARRIER p = 0) ∧ (s.fld64 .part Par.PART_DRAIN_LO p ≠ 0) ∧
        (s.fld64 .part Par.PART_DRAIN_LO p ≤ s.tick)) ∧
    (∃ (s : State) (p : Nat), (s.partState p = 4) ∧ (s.tick < s.fld64 .part Par.PART_DRAIN_LO p)) ∧
    (∃ (s : State) (p : Nat) (ns : Nat), (s.partState p = 4) ∧ (s.fld .part Par.PART_STATUS_BARRIER p = 1) ∧ ((s.partX p).marks = some []) ∧
        ((s.sealOf p).st = 0)) ∧
    (∃ (s : State) (p : Nat) (ns : Nat) (b : Nat) (bs : List Nat), ((s.partX p).marks = some (b :: bs)) ∧
        (s.fld .part Par.PART_STATUS_BARRIER p = 1) ∧ ((s.sealOf p).st = 0) ∧ (s.barrierBound ≤ (s.tick + 1 - (s.partX p).markTick) * 10000)) ∧
    (∃ (s : State) (p : Nat) (ns : Nat) (b : Nat) (bs : List Nat), ((s.partX p).marks = some (b :: bs)) ∧
        (s.fld .part Par.PART_STATUS_BARRIER p = 1) ∧ ((s.sealOf p).st = 0) ∧ ((s.tick + 1 - (s.partX p).markTick) * 10000 < s.barrierBound)) ∧
    (∃ (s : State) (p : Nat) (ns : Nat) (b : Nat) (bs : List Nat), ((s.partX p).marks = some (b :: bs)) ∧
        (s.fld .part Par.PART_STATUS_BARRIER p = 1) ∧ ((s.sealOf p).st = 0)) :=
  ⟨
    ⟨partn 0 (own .part up), .host, ⟨by unfold State.MayWrite; decide +kernel, ⟨_, rfl, ⟨by decide +kernel, ⟨by decide +kernel, ⟨by decide +kernel,
        by decide +kernel⟩⟩⟩⟩⟩⟩,
    ⟨partn 3 (own .part up), .host, ⟨by unfold State.MayWrite; decide +kernel, ⟨_, rfl, by decide +kernel⟩⟩⟩,
    ⟨partn 1 (own .part up), .host, ⟨by unfold State.MayWrite; decide +kernel, ⟨_, rfl, ⟨by decide +kernel, ⟨by decide +kernel, by decide +kernel⟩⟩⟩⟩⟩,
    ⟨partn 2 (own .part up), .host, ⟨by unfold State.MayWrite; decide +kernel, ⟨_, rfl, ⟨by decide +kernel, by decide +kernel⟩⟩⟩⟩,
    ⟨partn 1 (own .part up), .host, ⟨by unfold State.MayWrite; decide +kernel, ⟨_, rfl, by decide +kernel⟩⟩⟩,
    ⟨partn 4 (own .part up), .host, ⟨by unfold State.MayWrite; decide +kernel, ⟨_, rfl, ⟨by decide +kernel, ⟨by decide +kernel, by decide +kernel⟩⟩⟩⟩⟩,
    ⟨partn 5 (own .part up), .host, ⟨by unfold State.MayWrite; decide +kernel, ⟨_, rfl, by decide +kernel⟩⟩⟩,
    ⟨partn 5 (own .part up), .host, ⟨by unfold State.MayWrite; decide +kernel, ⟨_, rfl, ⟨by decide +kernel, ⟨by decide +kernel, ⟨by decide +kernel,
        by decide +kernel⟩⟩⟩⟩⟩⟩,
    ⟨{ partn 5 (own .part up) with seals := [(1, { st := 2 })] }, .host, ⟨by unfold State.MayWrite; decide +kernel, ⟨_, rfl, ⟨by decide +kernel,
        ⟨by decide +kernel, ⟨by decide +kernel, by decide +kernel⟩⟩⟩⟩⟩⟩,
    ⟨partn 4 (own .part up), .host, ⟨by unfold State.MayWrite; decide +kernel, ⟨_, rfl, ⟨by decide +kernel, by decide +kernel⟩⟩⟩⟩,
    ⟨partn 2 up, 1, ⟨by decide +kernel, by decide +kernel⟩⟩,
    ⟨putAt .part 1 [(Par.PART_RUN_LO, 1)] (partn 2 (up)), 1, ⟨by decide +kernel, by decide +kernel⟩⟩,
    ⟨put .pwr [(Pwr.VIN, 48000)] (putAt .part 1 [(Par.PART_STATUS_RAMP, 1)] { up with parts := [(1, { rampI0 := 49500 })] }), 1, ⟨by decide +kernel,
        by decide +kernel⟩⟩,
    ⟨put .pwr [(Pwr.VIN, 47999)] (putAt .part 1 [(Par.PART_STATUS_RAMP, 1)] { up with parts := [(1, { rampI0 := 49500 })] }), 1, ⟨by decide +kernel,
        by decide +kernel⟩⟩,
    ⟨now 1 (putAt .part 1 [(Par.PART_DRAIN_LO, 1)] (partn 4 (up))), 1, ⟨by decide +kernel, ⟨by decide +kernel, ⟨by decide +kernel, by decide +kernel⟩⟩⟩⟩,
    ⟨putAt .part 1 [(Par.PART_DRAIN_LO, 1)] (partn 4 (up)), 1, ⟨by decide +kernel, by decide +kernel⟩⟩,
    ⟨{ now 0 (putAt .part 1 [(Par.PART_STATUS_BARRIER, 1)] (partn 4 up)) with parts := [(1, { marks := some [] })] }, 1, 0, ⟨by decide +kernel,
        ⟨by decide +kernel, ⟨by decide +kernel, by decide +kernel⟩⟩⟩⟩,
    ⟨{ now 9 (putAt .part 1 [(Par.PART_STATUS_BARRIER, 1)] (partn 4 up)) with parts := [(1, { marks := some [3] })] }, 1, 0, 3, [],
        ⟨by decide +kernel, ⟨by decide +kernel, ⟨by decide +kernel, by decide +kernel⟩⟩⟩⟩,
    ⟨{ now 8 (putAt .part 1 [(Par.PART_STATUS_BARRIER, 1)] (partn 4 up)) with parts := [(1, { marks := some [3] })] }, 1, 0, 3, [],
        ⟨by decide +kernel, ⟨by decide +kernel, ⟨by decide +kernel, by decide +kernel⟩⟩⟩⟩,
    ⟨{ now 8 (putAt .part 1 [(Par.PART_STATUS_BARRIER, 1)] (partn 4 up)) with parts := [(1, { marks := some [3] })] }, 1, 0, 3, [],
        ⟨by decide +kernel, ⟨by decide +kernel, by decide +kernel⟩⟩⟩⟩

/-- Line 1 of port 8 is selected; its state; a plan that names plane 9 there. -/
def lined (st : Nat) (s : State) : State := putAt .line 32 [(Lin.LINE_STATE.sub 2 0, st)] (put .line [(Lin.LINE_SEL, 32)] (own .line s))
def plan9 : SMap Nat := [(4, 1), (16, 9), (20, 6 * 65536)]

/-- The hypotheses of `Obligations.LinesAreClaimedAndReleased`, clause by clause. -/
theorem test_lines_are_claimed_and_released_met :
    (∃ (s : State) (m : Master) (part : Nat), (s.MayWrite m .line) ∧ (lineReal s.lineSel.1 s.lineSel.2 = true) ∧ ∃ p, p = (s.lineSel.1) ∧
        ∃ l, l = (s.lineSel.2) ∧ (s.lineSt p l = 0) ∧ (part < 4096) ∧ (part ≠ 0) ∧ (1 ≤ s.partState part) ∧ (s.partState part ≤ 3)) ∧
    (∃ (s : State) (m : Master) (part : Nat), (s.MayWrite m .line) ∧ (lineReal s.lineSel.1 s.lineSel.2 = true) ∧ ∃ p, p = (s.lineSel.1) ∧
        ∃ l, l = (s.lineSel.2) ∧ (s.lineSt p l ≠ 0)) ∧
    (∃ (s : State) (m : Master) (part : Nat), (s.MayWrite m .line) ∧ (lineReal s.lineSel.1 s.lineSel.2 = true) ∧ ∃ p, p = (s.lineSel.1) ∧
        ∃ l, l = (s.lineSel.2) ∧ (s.lineSt p l = 0) ∧ (part = 0 ∨ s.partState part = 0 ∨ 4 ≤ s.partState part)) ∧
    (∃ (s : State) (m : Master) (part : Nat), (s.MayWrite m .line) ∧ (lineReal s.lineSel.1 s.lineSel.2 = true) ∧ ∃ p, p = (s.lineSel.1) ∧
        ∃ l, l = (s.lineSel.2) ∧ (s.lineSt p l = 2)) ∧
    (∃ (s : State) (m : Master) (part : Nat), (s.MayWrite m .line) ∧ (lineReal s.lineSel.1 s.lineSel.2 = true) ∧ ∃ p, p = (s.lineSel.1) ∧
        ∃ l, l = (s.lineSel.2) ∧ (s.lineSt p l ≠ 2)) ∧
    (∃ (s : State) (chip : Nat) (part : Nat) (plane : Nat) (input : Nat) (line : Nat) (tag : Nat), ∃ cause, cause = (s.lineAnswer chip part plane input line) ∧
        ∃ (p : Nat) (b : SMap Nat) (o : Nat), (cause = 0) ∧ (part < 4096) ∧ (chip < 65536) ∧ (s.planePort plane = some (p, b, o))) ∧
    (∃ (s : State) (chip : Nat) (part : Nat) (plane : Nat) (input : Nat) (line : Nat) (tag : Nat), ∃ cause, cause = (s.lineAnswer chip part plane input line) ∧
        (cause ≠ 0)) ∧
    (∃ (s : State) (chip : Nat) (cause : Nat) (plane : Nat) (line : Nat) (tag : Nat) (p : Nat) (l : Nat), (s.lineOffered plane line tag = some (p, l))) ∧
    (∃ (s : State) (chip : Nat) (cause : Nat) (plane : Nat) (line : Nat) (tag : Nat) (p : Nat) (l : Nat), (s.lineOffered plane line tag = some (p, l)) ∧
        (cause < 16)) ∧
    (∃ (s : State) (chip : Nat) (cause : Nat) (plane : Nat) (line : Nat) (tag : Nat), (s.lineOffered plane line tag = none)) ∧
    (∃ (s : State) (chip : Nat) (part : Nat) (plane : Nat) (line : Nat) (tag : Nat) (p : Nat) (l : Nat), (s.lineOf plane line = some (p, l)) ∧
        (s.linePart p l = part) ∧ (s.lineSt p l = 2 ∨ s.lineSt p l = 3) ∧ (s.partState part = 0 ∨ s.partState part = 5)) ∧
    (∃ (s : State) (chip : Nat) (part : Nat) (plane : Nat) (line : Nat) (tag : Nat) (p : Nat) (l : Nat), (s.lineOf plane line = some (p, l)) ∧
        (s.linePart p l = part) ∧ (s.lineSt p l = 2 ∨ s.lineSt p l = 3) ∧ (1 ≤ s.partState part) ∧ (s.partState part ≤ 4)) ∧
    (∃ (s : State) (plane : Nat) (line : Nat) (tag : Nat) (p : Nat) (l : Nat), (s.lineReleasing plane line tag = some (p, l))) ∧
    (∃ (s : State) (p : Nat) (l : Nat), (s.lineSt p l = 1) ∧ ((s.lineX p l).sentTick + 10 ≤ s.tick) ∧ ((s.lineX p l).resent = false)) ∧
    (∃ (s : State) (p : Nat) (l : Nat), (s.lineSt p l = 1) ∧ ((s.lineX p l).sentTick + 10 ≤ s.tick) ∧ ((s.lineX p l).resent = true)) ∧
    (∃ (s : State) (p : Nat) (l : Nat), (s.tick < (s.lineX p l).sentTick + 10)) ∧
    (∃ (s : State) (p : Nat) (l : Nat), (s.lineSt p l = 2) ∧ (s.fld .line (Lin.LINE_STATE.sub 3 3) (lineBank p l) = 0) ∧ ((s.lineX p l).since ≠ 0) ∧
        ((s.lineX p l).noted = false) ∧ ((s.lineX p l).since + 199 ≤ s.tick)) ∧
    (∃ (s : State) (p : Nat) (l : Nat), (s.lineSt p l = 2) ∧ (s.fld .line (Lin.LINE_STATE.sub 3 3) (lineBank p l) = 0) ∧ ((s.lineX p l).since ≠ 0) ∧
        (s.tick < (s.lineX p l).since + 199)) :=
  ⟨
    ⟨lined 0 (partn 3 up), .host, 1, ⟨by unfold State.MayWrite; decide +kernel, ⟨by decide +kernel, ⟨_, rfl, ⟨_, rfl, ⟨by decide +kernel,
        ⟨by decide +kernel, ⟨by decide +kernel, ⟨by decide +kernel, by decide +kernel⟩⟩⟩⟩⟩⟩⟩⟩⟩,
    ⟨lined 1 (partn 3 up), .host, 1, ⟨by unfold State.MayWrite; decide +kernel, ⟨by decide +kernel, ⟨_, rfl, ⟨_, rfl, by decide +kernel⟩⟩⟩⟩⟩,
    ⟨lined 0 (partn 4 up), .host, 1, ⟨by unfold State.MayWrite; decide +kernel, ⟨by decide +kernel, ⟨_, rfl, ⟨_, rfl, ⟨by decide +kernel,
        by decide +kernel⟩⟩⟩⟩⟩⟩,
    ⟨lined 2 (partn 3 up), .host, 1, ⟨by unfold State.MayWrite; decide +kernel, ⟨by decide +kernel, ⟨_, rfl, ⟨_, rfl, by decide +kernel⟩⟩⟩⟩⟩,
    ⟨lined 1 (partn 3 up), .host, 1, ⟨by unfold State.MayWrite; decide +kernel, ⟨by decide +kernel, ⟨_, rfl, ⟨_, rfl, by decide +kernel⟩⟩⟩⟩⟩,
    ⟨{ lined 0 (partn 3 up) with plan := { next := plan9 } }, 6, 1, 9, 1, 31, 0, ⟨_, rfl, ⟨8, plan9, 64, ⟨by decide +kernel, ⟨by decide +kernel,
        ⟨by decide +kernel, by decide +kernel⟩⟩⟩⟩⟩⟩,
    ⟨{ lined 0 (partn 3 up) with plan := { next := plan9 } }, 5, 1, 9, 1, 31, 0, ⟨_, rfl, by decide +kernel⟩⟩,
    ⟨{ lined 1 (partn 3 up) with plan := { next := plan9 } }, 6, 15, 9, 31, 0, 8, 1, by decide +kernel⟩,
    ⟨{ lined 1 (partn 3 up) with plan := { next := plan9 } }, 6, 15, 9, 31, 0, 8, 1, ⟨by decide +kernel, by decide +kernel⟩⟩,
    ⟨{ lined 1 (partn 3 up) with plan := { next := plan9 } }, 6, 15, 9, 31, 1, by decide +kernel⟩,
    ⟨putAt .line 32 [(Lin.LINE_STATE.sub 19 8, 1)] ({ lined 3 (partn 5 up) with plan := { next := plan9 } }), 6, 1, 9, 31, 0, 8, 1,
        ⟨by decide +kernel, ⟨by decide +kernel, ⟨by decide +kernel, by decide +kernel⟩⟩⟩⟩,
    ⟨putAt .line 32 [(Lin.LINE_STATE.sub 19 8, 1)] ({ lined 2 (partn 4 up) with plan := { next := plan9 } }), 6, 1, 9, 31, 0, 8, 1,
        ⟨by decide +kernel, ⟨by decide +kernel, ⟨by decide +kernel, ⟨by decide +kernel, by decide +kernel⟩⟩⟩⟩⟩,
    ⟨{ lined 3 (partn 3 up) with plan := { next := plan9 } }, 9, 31, 0, 8, 1, by decide +kernel⟩,
    ⟨{ now 10 (lined 1 up) with lineXs := [(32, {  })] }, 8, 1, ⟨by decide +kernel, ⟨by decide +kernel, by decide +kernel⟩⟩⟩,
    ⟨{ now 10 (lined 1 up) with lineXs := [(32, { resent := true })] }, 8, 1, ⟨by decide +kernel, ⟨by decide +kernel, by decide +kernel⟩⟩⟩,
    ⟨{ now 9 (lined 1 up) with lineXs := [(32, {  })] }, 8, 1, by decide +kernel⟩,
    ⟨{ now 200 (lined 2 up) with lineXs := [(32, { since := 1 })] }, 8, 1, ⟨by decide +kernel, ⟨by decide +kernel, ⟨by decide +kernel,
        ⟨by decide +kernel, by decide +kernel⟩⟩⟩⟩⟩,
    ⟨{ now 199 (lined 2 up) with lineXs := [(32, { since := 1 })] }, 8, 1, ⟨by decide +kernel, ⟨by decide +kernel, ⟨by decide +kernel, by decide +kernel⟩⟩⟩⟩⟩

/-- Context 0 in some state, bound to partition 1. -/
def ctxt (st : Nat) (s : State) : State := put .ctx [(Ctx.CTX_STATE, 65536 + st)] (own .ctx s)

def w31_1_1_s : State := ctxt 2 (partn 3 up)
def w31_1_1_c := w31_1_1_s.ctxSel

/-- The hypotheses of `Obligations.ContextsAreBoundAndTornDown`, clause by clause. -/
theorem test_contexts_are_bound_and_torn_down_met :
    (∃ (s : State) (m : Master), (s.MayWrite m .ctx)) ∧
    (∃ (s : State) (m : Master), (s.MayWrite m .ctx) ∧ ∃ c, c = (s.ctxSel) ∧ (s.ctxState c = 1)) ∧
    (∃ (s : State) (m : Master), (s.MayWrite m .ctx) ∧ ∃ c, c = (s.ctxSel) ∧ (s.ctxState c ≠ 1) ∧ ∃ i, (i ∈ [Instr.ctxRetire m, .ctxUnbind m])) ∧
    (∃ (s : State) (m : Master), (s.MayWrite m .ctx) ∧ ∃ c, c = (s.ctxSel) ∧ (s.ctxState c = 1) ∧
        (s.partState (s.ctxPart c) = 0 ∨ s.partState (s.ctxPart c) = 5)) ∧
    (∃ (s : State) (m : Master), (s.MayWrite m .ctx) ∧ ∃ c, c = (s.ctxSel) ∧ (s.ctxState c = 1) ∧ (s.partState (s.ctxPart c) ≠ 0) ∧
        (s.partState (s.ctxPart c) ≠ 5)) ∧
    (∃ (s : State) (c : Nat) (ns : Nat), (s.ctxState c = 2) ∧ ∃ p, p = (s.ctxPart c) ∧ (s.fld .part Par.PART_STATUS_BARRIER p = 0) ∧
        ((s.partX p).tearing = [])) ∧
    (∃ (s : State) (c : Nat) (ns : Nat), (s.ctxState c = 2) ∧ ∃ p, p = (s.ctxPart c) ∧ (c ∈ (s.partX p).tearing)) ∧
    (∃ (s : State) (c : Nat) (ns : Nat), (s.ctxState c ≠ 2)) :=
  ⟨
    ⟨ctxt 0 (partn 1 up), .host, by unfold State.MayWrite; decide +kernel⟩,
    ⟨ctxt 1 (partn 3 up), .host, ⟨by unfold State.MayWrite; decide +kernel, ⟨_, rfl, by decide +kernel⟩⟩⟩,
    ⟨w31_1_1_s, .host, ⟨by unfold State.MayWrite; decide +kernel, ⟨_, rfl, ⟨by decide +kernel, ⟨(Instr.ctxUnbind .host : Instr), .tail _ (.head _)⟩⟩⟩⟩⟩,
    ⟨ctxt 1 (partn 5 up), .host, ⟨by unfold State.MayWrite; decide +kernel, ⟨_, rfl, ⟨by decide +kernel, by decide +kernel⟩⟩⟩⟩,
    ⟨ctxt 1 (partn 4 up), .host, ⟨by unfold State.MayWrite; decide +kernel, ⟨_, rfl, ⟨by decide +kernel, ⟨by decide +kernel, by decide +kernel⟩⟩⟩⟩⟩,
    ⟨ctxt 2 (partn 3 up), 0, 0, ⟨by decide +kernel, ⟨_, rfl, ⟨by decide +kernel, by decide +kernel⟩⟩⟩⟩,
    ⟨{ ctxt 2 (partn 4 up) with parts := [(1, { tearing := [0, 5] })] }, 0, 0, ⟨by decide +kernel, ⟨_, rfl, by decide +kernel⟩⟩⟩,
    ⟨ctxt 1 up, 0, 0, by decide +kernel⟩⟩

/-- The hypotheses of `Obligations.EpochsArmActivateAndCompare`, clause by clause. -/
theorem test_epochs_arm_activate_and_compare_met :
    (∃ (s : State) (m : Master) (step : Bool), (s.MayWrite m .ep)) ∧
    (∃ (s : State) (m : Master) (step : Bool), (s.MayWrite m .ep)) ∧
    (∃ (s : State) (p : Nat), (s.Inv) ∧ (s.epArmed p = true) ∧ ((s.epX p).step = false) ∧ ((s.epX p).at_ ≤ s.tick)) ∧
    (∃ (s : State) (p : Nat), (s.epArmed p = false ∨ s.tick < (s.epX p).at_)) ∧
    (∃ (s : State) (p : Nat), (s.fld .ep (Ep.EP_STATUS.sub 1 1) p = 1)) ∧
    (∃ (s : State) (p : Nat), (s.fld .ep (Ep.EP_STATUS.sub 1 1) p = 0)) ∧
    (∃ (s : State) (p : Nat) (b : Nat), ∃ (x : Skew), x = (tGet s.skews (64 * p + b)) ∧ (x.since ≠ 0) ∧ (x.told = false) ∧
        (x.since + s.fld .ep Ep.EP_SKEW_MAX ≤ s.tick)) ∧
    (∃ (s : State) (p : Nat) (b : Nat), ∃ (x : Skew), x = (tGet s.skews (64 * p + b)) ∧
        (x.since = 0 ∨ x.told = true ∨ s.tick < x.since + s.fld .ep Ep.EP_SKEW_MAX)) ∧
    (∃ (s : State), (s.answers .ep = true)) :=
  ⟨
    ⟨own .ep (partn 3 up), .host, true, by unfold State.MayWrite; decide +kernel⟩,
    ⟨own .ep up, .host, false, by unfold State.MayWrite; decide +kernel⟩,
    ⟨{ now 5 (put .ep [(Ep.EP_STATUS, 1)] up) with eps := [(0, { at_ := 5, next := 1 })] }, 0, ⟨⟨by decide +kernel, by decide +kernel,
        by decide +kernel, by decide +kernel, by decide +kernel, by decide +kernel⟩, ⟨by decide +kernel, ⟨by decide +kernel, by decide +kernel⟩⟩⟩⟩,
    ⟨{ now 4 (put .ep [(Ep.EP_STATUS, 1)] up) with eps := [(0, { at_ := 5, next := 1 })] }, 0, by decide +kernel⟩,
    ⟨{ id (put .ep [(Ep.EP_STATUS, 2)] up) with eps := [(0, { at_ := 5, next := 1 })] }, 0, by decide +kernel⟩,
    ⟨{ id (put .ep [(Ep.EP_STATUS, 1)] up) with eps := [(0, { at_ := 5, next := 1 })] }, 0, by decide +kernel⟩,
    ⟨{ now 8 (put .ep [(Ep.EP_SKEW_MAX, 7)] up) with skews := [(131, { since := 1 })] }, 2, 3, ⟨_, rfl, ⟨by decide +kernel, ⟨by decide +kernel,
        by decide +kernel⟩⟩⟩⟩,
    ⟨{ now 7 (put .ep [(Ep.EP_SKEW_MAX, 7)] up) with skews := [(131, { since := 1 })] }, 2, 3, ⟨_, rfl, by decide +kernel⟩⟩,
    ⟨up, by decide +kernel⟩⟩

/-- Partition 1 runs with three ranks, of which one is this chip, and a table with a parity group of the three. -/
def grp (me : Nat) (f : CtTab → CtTab) (s : State) : State :=
  { (List.range 3).foldl (fun u i => putAt .rt i [(Rt.RNK_DATA, 65536 + if i = me then 0 else i + 1)] u)
      (put .rt [(Rt.RNK_SLOT_PART, 4097)] (partn 3 s)) with
    ct := [(1, f { valid := true, k := 1, pgStep := 1, g := 3, u := 1, slot0 := tile 0x10000, slot1 := tile 0x10000 })] }
/-- Its checkpoint, in some state. -/
def ckpt (me st : Nat) (x : CkX) : State := { grp me id (putAt .ck 1 [(Ck.CK_STATUS, st)] (own .ck up)) with cks := [(1, x)] }

def w33_8_s : State := now 4294967295 (ckpt 0 2 {})

/-- The hypotheses of `Obligations.CheckpointsCopyAndCommit`, clause by clause. -/
theorem test_checkpoints_copy_and_commit_met :
    (∃ (s : State) (chip : Nat) (p : Nat) (slot : Nat) (row : Nat) (x : Nat) (zero : Bool) (m : Nat), ((List.range (s.ctOf p).g).find? (fun m => s.rankChip p ((s.ctOf p).rankOf m) == some chip) = some m) ∧
        (s.ckRuns p = true) ∧ (s.ckSlot p = slot) ∧ ∃ t0, t0 = (s.ctOf p) ∧ ∃ mine, mine = ((s.ckMember p).getD 0) ∧
        ∃ (isQ : Bool), isQ = ((row + 1) % t0.g == mine) ∧ (row % t0.g = mine ∨ isQ = true)) ∧
    (∃ (s : State) (chip : Nat) (p : Nat) (slot : Nat) (row : Nat) (x : Nat) (zero : Bool) (m : Nat), ((List.range (s.ctOf p).g).find? (fun m => s.rankChip p ((s.ctOf p).rankOf m) == some chip) = some m) ∧
        (s.ckRuns p = true) ∧ (s.ckSlot p = slot) ∧ ((s.ckX p).queue = [])) ∧
    (∃ (s : State) (p : Nat) (m : Nat), (s.ckMember p = some m) ∧ (m ≠ 0) ∧ (s.ckSt p = 1) ∧ ((s.ckX p).copies = []) ∧
        ((∀ r < (s.ctOf p).g * (s.ctOf p).w, (r % (s.ctOf p).g = m → (s.ctOf p).g - 2 ≤ smGet (fun _ => 0) (s.ckX p).rows (2 * r)) ∧
        ((r + 1) % (s.ctOf p).g = m → (s.ctOf p).g - 2 ≤ smGet (fun _ => 0) (s.ckX p).rows (2 * r + 1))))) ∧
    (∃ (s : State) (p : Nat), (s.ckSt p ≠ 1 ∨ (s.ckX p).copies ≠ [])) ∧
    (∃ (s : State) (p : Nat) (slot : Nat) (m : Nat) (d : Nat) (dp : Nat) (dq : Nat), (s.ckRuns p = true) ∧ (s.ckSlot p = slot) ∧
        (s.ckMember p = some 0) ∧ (m < (s.ctOf p).g)) ∧
    (∃ (s : State) (p : Nat) (slot : Nat) (m : Nat) (d : Nat) (dp : Nat) (dq : Nat), (s.ckRuns p = true) ∧ (s.ckSlot p = slot) ∧
        (s.ckMember p = some 0) ∧ (m < (s.ctOf p).g) ∧ ∃ (x : Nat), (x ≠ m)) ∧
    (∃ (s : State) (p : Nat) (slot : Nat) (m : Nat) (d : Nat) (dp : Nat) (dq : Nat), (s.ckRuns p = true) ∧ (s.ckSlot p = slot) ∧
        (s.ckMember p = some 0) ∧ (m < (s.ctOf p).g)) ∧
    (∃ (s : State) (p : Nat) (slot : Nat) (m : Nat) (d : Nat) (dp : Nat) (dq : Nat), (s.ckRuns p = true) ∧ (s.ckSlot p = slot) ∧
        (s.ckMember p = some 0) ∧ (m < (s.ctOf p).g) ∧ ∃ u, u = (s.modCk p (fun x => { x with stripes := tSet x.stripes m [d, dp, dq] })) ∧
        ((u.ckX p).stripes.length ≠ (s.ctOf p).g)) ∧
    (∃ (s : State) (p : Nat), (s.ckSt p = 2) ∧ (s.recState (s.ctOf p) (s.ckSlot p) = 1)) ∧
    (∃ (s : State) (p : Nat), (s.ckSt p ≠ 2 ∨ s.recState (s.ctOf p) (s.ckSlot p) ≠ 1)) ∧
    (∃ (s : State) (p : Nat) (slot : Nat) (m : Nat) (status : Nat), (s.ckMember p = some 0) ∧ (s.ckSlot p = slot) ∧ ((s.ckX p).recPhase = 2) ∧ (status = 0)) ∧
    (∃ (s : State) (p : Nat) (slot : Nat) (m : Nat) (status : Nat), (s.ckMember p = some 0) ∧ (s.ckSlot p = slot) ∧ ((s.ckX p).recPhase = 2) ∧
        (status ≠ 0) ∧ (s.ckRuns p = true)) ∧
    (∃ (s : State) (mm : Master) (p : Nat) (cause : Nat), (s.ckRuns p = true) ∧ (cause < 16) ∧
        ∃ c, (c ∈ [(Instr.ckptAbort p (s.ckStep p) (s.ckSlot p) cause, cause, True),
        (.ckTimeout p, 4, (s.ckX p).lastTick - 1 + s.fld .ck (Ck.CK_TIMEOUT.sub 15 0) p * 100000 ≤ s.tick),
        (.ckAbort mm, 0, s.MayWrite mm .ck ∧ s.ckSel = p)]) ∧ (c.2.2)) ∧
    (∃ (s : State) (p : Nat) (step : Nat) (slot : Nat) (cause : Nat), (s.ckRuns p = false)) ∧
    (∃ (s : State) (m : Master), (s.MayWrite m .ck)) :=
  ⟨
    ⟨ckpt 0 1 {}, 2, 1, 0, 0, 5, true, 1, ⟨by decide +kernel, ⟨by decide +kernel, ⟨by decide +kernel, ⟨_, rfl, ⟨_, rfl, ⟨_, rfl, by decide +kernel⟩⟩⟩⟩⟩⟩⟩,
    ⟨ckpt 0 1 {}, 2, 1, 0, 0, 5, true, 1, ⟨by decide +kernel, ⟨by decide +kernel, ⟨by decide +kernel, by decide +kernel⟩⟩⟩⟩,
    ⟨ckpt 1 1 { rows := [(1, 1), (2, 1)] }, 1, 1, ⟨by decide +kernel, ⟨by decide +kernel, ⟨by decide +kernel, ⟨by decide +kernel, by decide +kernel⟩⟩⟩⟩⟩,
    ⟨ckpt 1 1 { copies := [(0, 1)] }, 1, by decide +kernel⟩,
    ⟨ckpt 0 1 {}, 1, 0, 2, 5, 6, 7, ⟨by decide +kernel, ⟨by decide +kernel, ⟨by decide +kernel, by decide +kernel⟩⟩⟩⟩,
    ⟨ckpt 0 1 {}, 1, 0, 2, 5, 6, 7, ⟨by decide +kernel, ⟨by decide +kernel, ⟨by decide +kernel, ⟨by decide +kernel, ⟨1, by decide +kernel⟩⟩⟩⟩⟩⟩,
    ⟨ckpt 0 1 {}, 1, 0, 2, 5, 6, 7, ⟨by decide +kernel, ⟨by decide +kernel, ⟨by decide +kernel, by decide +kernel⟩⟩⟩⟩,
    ⟨ckpt 0 1 {}, 1, 0, 2, 5, 6, 7, ⟨by decide +kernel, ⟨by decide +kernel, ⟨by decide +kernel, ⟨by decide +kernel, ⟨_, rfl, by decide +kernel⟩⟩⟩⟩⟩⟩,
    ⟨poke 0x10001 [1] (ckpt 0 2 {}), 1, ⟨by decide +kernel, by decide +kernel⟩⟩,
    ⟨ckpt 0 2 {}, 1, by decide +kernel⟩,
    ⟨ckpt 0 2 { recPhase := 2 }, 1, 0, 1, 0, ⟨by decide +kernel, ⟨by decide +kernel, ⟨by decide +kernel, by decide +kernel⟩⟩⟩⟩,
    ⟨ckpt 0 2 { recPhase := 2 }, 1, 0, 1, 3, ⟨by decide +kernel, ⟨by decide +kernel, ⟨by decide +kernel, ⟨by decide +kernel, by decide +kernel⟩⟩⟩⟩⟩,
    ⟨w33_8_s, .host, 1, 9, ⟨by decide +kernel, ⟨by decide +kernel,
        ⟨((Instr.ckTimeout 1, 4, (w33_8_s.ckX 1).lastTick - 1 + w33_8_s.fld .ck (Ck.CK_TIMEOUT.sub 15 0) 1 * 100000 ≤ w33_8_s.tick) : Instr × Nat × Prop),
        ⟨.tail _ (.head _), by show _ ≤ _; decide +kernel⟩⟩⟩⟩⟩,
    ⟨ckpt 0 0 {}, 1, 0, 0, 9, by decide +kernel⟩,
    ⟨ckpt 0 0 {}, .host, by unfold State.MayWrite; decide +kernel⟩⟩

/-- Partition 1 has a job key and is selected for storage. -/
def stored (f : State → State) (x : CkX) : State :=
  { f (put .ck [(Ck.CK_SEL, 1)] (ckpt 0 0 x)) with jobKeys := [(1, { key := [1] })] }

theorem gcmOpen_made (key iv hd z : List Byte) (n : Nat) (hz : z.length = n) (hh : hd.length = 64) :
    (hd ++ (z ++ gcmTag key iv hd z)).take 64 = hd ∧
      gcmOpen key iv hd (((hd ++ (z ++ gcmTag key iv hd z)).drop 64).take n) ((hd ++ (z ++ gcmTag key iv hd z)).drop (64 + n))
        = some (gcmCtr key iv (z.length + 1) 2 z) := by
  refine ⟨List.take_left' hh, ?_⟩
  rw [← List.drop_drop, List.drop_left' hh, List.take_left' hz, List.drop_left' hz]
  unfold gcmOpen
  exact if_pos rfl
/-- An import takes its first of two chunks: the header, a body of zeros sealed under the storage key, and its tag. -/
def import0 : State := stored (putAt .ck 1 [(Ck.STO_STATUS, 1)]) { stoImport := true, stoCount := 2 }
def head0 : List Byte := import0.stoHeader 1 0 0 2 0 0
theorem head0_length : head0.length = 64 := by decide +kernel
theorem zeros_length : (List.replicate chunkLen (0 : Byte)).length = chunkLen := List.length_replicate ..
def chunk0 : List Byte :=
  head0 ++ (List.replicate chunkLen 0 ++ gcmTag (import0.stoKey 1 0) (stoIv 0 0 import0.chip) head0 (List.replicate chunkLen 0))
theorem chunk0_made : chunk0.take 64 = head0 ∧
    gcmOpen (import0.stoKey 1 0) (stoIv 0 0 import0.chip) head0 ((chunk0.drop 64).take chunkLen) (chunk0.drop (64 + chunkLen))
      = some (gcmCtr (import0.stoKey 1 0) (stoIv 0 0 import0.chip) ((List.replicate chunkLen (0 : Byte)).length + 1) 2 (List.replicate chunkLen 0)) :=
  gcmOpen_made (import0.stoKey 1 0) (stoIv 0 0 import0.chip) head0 (List.replicate chunkLen 0) chunkLen zeros_length head0_length

def w34_6_0_s : State := own .ck up
def w34_6_0_p := w34_6_0_s.ckSel

/-- The hypotheses of `Obligations.MirrorsAndStorageCheckpoints`, clause by clause. -/
theorem test_mirrors_and_storage_checkpoints_met :
    (∃ (s : State) (p : Nat), ((s.ctOf p).due = true)) ∧
    (∃ (s : State) (p : Nat), ((s.ctOf p).due = false)) ∧
    (∃ (s : State) (p : Nat) (r : Nat), (((s.ctOf p).reg r).mirror = true) ∧ (s.mirSt p r = 1) ∧ ((s.mirX p r).hello ≠ 0) ∧
        ((s.mirX p r).hello - 1 + 100 ≤ s.tick)) ∧
    (∃ (s : State) (p : Nat) (r : Nat), (((s.ctOf p).reg r).mirror = true) ∧ (s.mirSt p r = 1) ∧ ((s.mirX p r).hello ≠ 0) ∧
        (s.tick < (s.mirX p r).hello - 1 + 100)) ∧
    (∃ (s : State) (chip : Nat) (p : Nat) (idx : Nat) (addr : Nat) (units : Nat) (rank : Nat) (fd : Nat) (r : Nat), ((s.ctOf p).due = false) ∧
        ((s.ctOf p).regs.findIdx? (fun g => g.hold && g.peer == rank && g.peerAddr == addr && g.units == units) = some r)) ∧
    (∃ (s : State) (p : Nat) (idx : Nat) (status : Nat) (fd : Nat), (((s.ctOf p).reg idx).mirror = true) ∧ (s.mirSt p idx = 1)) ∧
    (∃ (s : State) (chip : Nat) (p : Nat) (step : Nat) (r : Nat) (d : Nat) (a : Nat), (((s.ctOf p).reg r).mirror = true) ∧
        ((s.mirX p r).own = some a) ∧ ((s.mirX p r).step = step)) ∧
    (∃ (s : State) (m : Master) (slot : Nat), (s.MayWrite m .ck) ∧ (slot < 2) ∧ ∃ p, p = (s.ckSel) ∧ (s.stoSt p ≠ 1) ∧
        ((tGet s.jobKeys p).key = []) ∧ ∃ c, (c ∈ [Instr.stoExport m slot, .stoImport m slot])) ∧
    (∃ (s : State) (m : Master) (slot : Nat), (s.MayWrite m .ck) ∧ (slot < 2) ∧ ∃ p, p = (s.ckSel) ∧ (s.stoSt p ≠ 1) ∧
        ((tGet s.jobKeys p).key ≠ []) ∧ (s.recState (s.ctOf p) slot ≠ 1)) ∧
    (∃ (s : State) (m : Master) (slot : Nat), (s.MayWrite m .ck) ∧ (slot < 2) ∧ ∃ p, p = (s.ckSel) ∧ (s.stoSt p ≠ 1) ∧
        ((tGet s.jobKeys p).key ≠ []) ∧ (s.recState (s.ctOf p) slot = 1) ∧ (1 ≤ s.fld .ck (Ck.STO_RING.sub 7 0) p) ∧
        (s.fld .ck Ck.STO_PROD p = s.fld .ck Ck.STO_CONS p)) ∧
    (∃ (s : State) (m : Master) (slot : Nat), (s.MayWrite m .ck) ∧ (slot < 2) ∧ ∃ p, p = (s.ckSel) ∧ (s.stoSt p ≠ 1) ∧ ((tGet s.jobKeys p).key ≠ [])) ∧
    (∃ (s : State) (m : Master) (v : Word), (s.MayWrite m .ck) ∧ ∃ p, p = (s.ckSel) ∧ (s.stoSt p ≠ 1 ∨ (s.ckX p).stoImport = false)) ∧
    (∃ (s : State) (m : Master) (v : Word), (s.MayWrite m .ck) ∧ ∃ p, p = (s.ckSel) ∧ (s.stoSt p = 1) ∧ ((s.ckX p).stoImport = true)) ∧
    (∃ (s : State) (m : Master) (v : Word) (b : List Byte), (s.MayWrite m .ck) ∧ ∃ p, p = (s.ckSel) ∧ ∃ x, x = (s.ckX p) ∧ (s.stoSt p = 1) ∧
        (x.stoImport = false)) ∧
    (∃ (s : State) (m : Master) (v : Word) (b : List Byte), (s.MayWrite m .ck) ∧ ∃ p, p = (s.ckSel) ∧ ∃ x, x = (s.ckX p) ∧ ∃ hd, hd = (b.take 64) ∧
        ∃ seq, seq = (natLE ((hd.drop 0x20).take 8)) ∧
        ∃ (good : Prop), good = (hd = s.stoHeader p (natLE ((hd.drop 8).take 8)) x.stoChunk x.stoCount x.stoSlot seq) ∧ (s.stoSt p = 1) ∧
        (x.stoImport = true) ∧ (x.stoChunk < x.stoCount) ∧ (¬ good)) :=
  ⟨
    ⟨{ up with ct := [(1, { due := true })] }, 1, by decide +kernel⟩,
    ⟨up, 1, by decide +kernel⟩,
    ⟨{ grp 0 (fun t => { t with regs := [{ mirror := true }] }) (putAt .ct 1 [(Ct.MIR_STATE, 1)] (now 100 up)) with mirs := [(1, { hello := 1 })] }, 1, 0,
        ⟨by decide +kernel, ⟨by decide +kernel, ⟨by decide +kernel, by decide +kernel⟩⟩⟩⟩,
    ⟨{ grp 0 (fun t => { t with regs := [{ mirror := true }] }) (putAt .ct 1 [(Ct.MIR_STATE, 1)] (now 99 up)) with mirs := [(1, { hello := 1 })] }, 1, 0,
        ⟨by decide +kernel, ⟨by decide +kernel, ⟨by decide +kernel, by decide +kernel⟩⟩⟩⟩,
    ⟨{ grp 0 (fun t => { t with regs := [{ hold := true, peer := 2, peerAddr := 64, units := 1 }] }) (putAt .ct 1 [(Ct.MIR_STATE, 0)] (up)) with mirs := [(1, {  })] }, 3, 1, 4, 64, 1, 2, 0, 0,
        ⟨by decide +kernel, by decide +kernel⟩⟩,
    ⟨{ grp 0 (fun t => { t with regs := [{ mirror := true }] }) (putAt .ct 1 [(Ct.MIR_STATE, 1)] (up)) with mirs := [(1, {  })] }, 1, 0, 0, 0,
        ⟨by decide +kernel, by decide +kernel⟩⟩,
    ⟨{ grp 0 (fun t => { t with regs := [{ mirror := true }] }) (putAt .ct 1 [(Ct.MIR_STATE, 1)] (up)) with mirs := [(1, { own := some 3, step := 7 })] }, 2, 1, 7, 0, 5, 3,
        ⟨by decide +kernel, ⟨by decide +kernel, by decide +kernel⟩⟩⟩,
    ⟨w34_6_0_s, .host, 1, ⟨by unfold State.MayWrite; decide +kernel, ⟨by decide +kernel, ⟨_, rfl, ⟨by decide +kernel, ⟨by decide +kernel,
        ⟨(Instr.stoImport .host 1), .tail _ (.head _)⟩⟩⟩⟩⟩⟩⟩,
    ⟨stored id {}, .host, 1, ⟨by unfold State.MayWrite; decide +kernel, ⟨by decide +kernel, ⟨_, rfl, ⟨by decide +kernel, ⟨by decide +kernel,
        by decide +kernel⟩⟩⟩⟩⟩⟩,
    ⟨poke 0x10001 [1] (stored (putAt .ck 1 [(Ck.STO_RING, 1)]) {}), .host, 1, ⟨by unfold State.MayWrite; decide +kernel, ⟨by decide +kernel, ⟨_, rfl,
        ⟨by decide +kernel, ⟨by decide +kernel, ⟨by decide +kernel, ⟨by decide +kernel, by decide +kernel⟩⟩⟩⟩⟩⟩⟩⟩,
    ⟨stored id {}, .host, 1, ⟨by unfold State.MayWrite; decide +kernel, ⟨by decide +kernel, ⟨_, rfl, ⟨by decide +kernel, by decide +kernel⟩⟩⟩⟩⟩,
    ⟨stored id {}, .host, 7, ⟨by unfold State.MayWrite; decide +kernel, ⟨_, rfl, by decide +kernel⟩⟩⟩,
    ⟨stored (putAt .ck 1 [(Ck.STO_STATUS, 1)]) { stoImport := true }, .host, 7, ⟨by unfold State.MayWrite; decide +kernel, ⟨_, rfl,
        ⟨by decide +kernel, by decide +kernel⟩⟩⟩⟩,
    ⟨stored (putAt .ck 1 [(Ck.STO_STATUS, 1)]) {}, .host, 7, [], ⟨by unfold State.MayWrite; decide +kernel, ⟨_, rfl, ⟨_, rfl, ⟨by decide +kernel,
        by decide +kernel⟩⟩⟩⟩⟩,
    ⟨stored (putAt .ck 1 [(Ck.STO_STATUS, 1)]) { stoImport := true, stoCount := 1 }, .host, 7, [], ⟨by unfold State.MayWrite; decide +kernel,
        ⟨_, rfl, ⟨_, rfl, ⟨_, rfl, ⟨_, rfl, ⟨_, rfl, ⟨by decide +kernel, ⟨by decide +kernel, ⟨by decide +kernel, by decide +kernel⟩⟩⟩⟩⟩⟩⟩⟩⟩⟩⟩


/-- A further clause of `Obligations.MirrorsAndStorageCheckpoints`. -/
theorem test_mirrors_and_storage_checkpoints_met2 :
    ∃ (s : State) (m : Master) (v : Word) (b : List Byte), (s.MayWrite m .ck) ∧ ∃ p, p = (s.ckSel) ∧ ∃ x, x = (s.ckX p) ∧ ∃ hd, hd = (b.take 64) ∧
        ∃ seq, seq = (natLE ((hd.drop 0x20).take 8)) ∧
        ∃ (good : Prop), good = (hd = s.stoHeader p (natLE ((hd.drop 8).take 8)) x.stoChunk x.stoCount x.stoSlot seq) ∧
        ∃ (pt : List Byte), (s.stoSt p = 1) ∧ (x.stoImport = true) ∧ (x.stoChunk + 1 < x.stoCount) ∧ (good) ∧
        (gcmOpen (s.stoKey p (seq / 2 ^ 32)) (stoIv x.stoChunk seq s.chip) hd ((b.drop 64).take chunkLen) (b.drop (64 + chunkLen)) = some pt) :=
  ⟨import0, .host, 7, chunk0, ⟨by unfold State.MayWrite; decide +kernel, ⟨_, rfl, ⟨_, rfl, ⟨head0, chunk0_made.1.symm, ⟨_, rfl, ⟨_, rfl,
      ⟨gcmCtr (import0.stoKey 1 0) (stoIv 0 0 import0.chip) ((List.replicate chunkLen (0 : Byte)).length + 1) 2 (List.replicate chunkLen 0),
      ⟨by decide +kernel, ⟨by decide +kernel, ⟨by decide +kernel,
      ⟨by decide +kernel, by rw [show natLE ((head0.drop 0x20).take 8) = 0 by decide +kernel, show import0.ckSel = 1 by decide +kernel, show (import0.ckX 1).stoChunk = 0 by decide +kernel, Nat.zero_div]; exact chunk0_made.2⟩⟩⟩⟩⟩⟩⟩⟩⟩⟩⟩⟩

/-- Partition 1 is selected for recovery; its status and what recovers. -/
def recov (me st : Nat) (f : CtTab → CtTab) (x : RcX) : State :=
  { grp me f (putAt .rc 1 [(Rc.RC_STATUS, st)] (put .rc [(Rc.RC_SEL, 1)] (own .rc up))) with rcs := [(1, x)] }

/-- The hypotheses of `Obligations.RecoveryCommandsAct`, clause by clause. -/
theorem test_recovery_commands_act_met :
    (∃ (s : State) (m : Master) (rank : Nat), (s.MayWrite m .rc) ∧ ∃ p, p = (s.rcSel) ∧ (s.hasRank p rank = true) ∧ (s.rcSt p ≠ 1) ∧
        ((s.partX p).lost.contains rank = false)) ∧
    (∃ (s : State) (m : Master) (rank : Nat), (s.MayWrite m .rc) ∧ ∃ p, p = (s.rcSel) ∧ (s.hasRank p rank = false) ∧ (s.rcSt p ≠ 1)) ∧
    (∃ (s : State) (m : Master), (s.MayWrite m .rc) ∧ ∃ p, p = (s.rcSel) ∧ (s.partState p = 3) ∧ (s.rcSt p ≠ 1)) ∧
    (∃ (s : State) (m : Master), (s.MayWrite m .rc) ∧ ∃ p, p = (s.rcSel) ∧ (s.partState p ≠ 3) ∧ (s.rcSt p ≠ 1)) ∧
    (∃ (s : State) (m : Master), (s.MayWrite m .rc) ∧ ∃ p, p = (s.rcSel) ∧ ∃ a, a = (s.rcArg p) ∧ ∃ (ok : Prop), ok = ((s.halted p = true ∧
        (s.partX p).haltFence = false ∧
        (a = s.stepOf p ∨ (a = s.fld64 .ck Ck.JOB_CKPT_LO p ∧ bitAt (s.fld .ck Ck.JOB_CKPT_CTRL p) 1 = true))) ∨ (s.partState p = 3 ∧
        (s.partX p).started = false)) ∧ (ok) ∧ (s.rcSt p ≠ 1)) ∧
    (∃ (s : State) (m : Master), (s.MayWrite m .rc) ∧ ∃ p, p = (s.rcSel) ∧ ∃ a, a = (s.rcArg p) ∧ ∃ (ok : Prop), ok = ((s.halted p = true ∧
        (s.partX p).haltFence = false ∧
        (a = s.stepOf p ∨ (a = s.fld64 .ck Ck.JOB_CKPT_LO p ∧ bitAt (s.fld .ck Ck.JOB_CKPT_CTRL p) 1 = true))) ∨ (s.partState p = 3 ∧
        (s.partX p).started = false)) ∧ (¬ ok) ∧ (s.rcSt p ≠ 1)) ∧
    (∃ (s : State) (m : Master) (reg : Nat) (rank : Nat), (s.MayWrite m .rc) ∧ ∃ p, p = (s.rcSel) ∧ (s.rcSt p ≠ 1) ∧ ((s.ctOf p).valid = true) ∧
        (reg < (s.ctOf p).regs.length) ∧ (s.rankChip p rank = some (gaChip (s.rcArg p)))) ∧
    (∃ (s : State) (m : Master) (reg : Nat) (rank : Nat), (s.MayWrite m .rc) ∧ ∃ p, p = (s.rcSel) ∧ (s.rcSt p ≠ 1) ∧
        ((s.ctOf p).valid = false ∨ (s.ctOf p).regs.length ≤ reg ∨ s.rankChip p rank ≠ some (gaChip (s.rcArg p)))) ∧
    (∃ (s : State) (chip : Nat) (p : Nat) (src : Nat) (n : Nat) (tgt : Nat), True) ∧
    (∃ (s : State) (p : Nat) (status : Nat) (d : Nat), (s.rcSt p = 1) ∧ ((s.rcX p).op = 4) ∧ ((s.rcX p).recheck = 0)) ∧
    (∃ (s : State) (p : Nat) (status : Nat) (d : Nat), (s.rcSt p ≠ 1)) ∧
    (∃ (s : State) (m : Master), (s.MayWrite m .rc) ∧ ∃ p, p = (s.rcSel) ∧ (s.rcSt p ≠ 1)) ∧
    (∃ (s : State) (m : Master) (rank : Nat) (k : Nat), (s.MayWrite m .rc) ∧ ∃ p, p = (s.rcSel) ∧ ∃ t0, t0 = (s.ctOf p) ∧ (s.rcSt p ≠ 1) ∧
        (s.halted p = true) ∧ (t0.valid = true) ∧ (t0.g ≠ 0) ∧ (s.ckMember p = some k) ∧ ∃ j, (j < t0.g) ∧ (t0.rankOf j = rank) ∧ (j ≠ k) ∧
        (some j ≠ s.otherLost p) ∧ ((s.rankChip p rank).isSome = true)) ∧
    (∃ (s : State) (m : Master) (rank : Nat) (k : Nat), (s.MayWrite m .rc) ∧ ∃ p, p = (s.rcSel) ∧ ∃ t0, t0 = (s.ctOf p) ∧ (s.rcSt p ≠ 1) ∧
        (s.halted p = true) ∧ (t0.valid = true) ∧ (t0.g ≠ 0) ∧ (s.ckMember p = some k) ∧ ((s.rankChip p rank).isSome = false)) ∧
    (∃ (s : State) (m : Master), (s.MayWrite m .rc) ∧ (s.rcSt s.rcSel ≠ 1)) ∧
    (∃ (s : State) (p : Nat), (s.rcSt p = 1) ∧ ((s.rcX p).op = 5)) ∧
    (∃ (s : State) (p : Nat), (s.rcSt p = 1) ∧ ((s.rcX p).op = 6) ∧ ((s.rcX p).record = true) ∧ (∀ o ∈ s.outst, o.lc ≠ engLc p)) ∧
    (∃ (s : State) (p : Nat), (s.rcSt p ≠ 1)) :=
  ⟨
    ⟨recov 0 0 id {}, .host, 2, ⟨by unfold State.MayWrite; decide +kernel, ⟨_, rfl, ⟨by decide +kernel, ⟨by decide +kernel, by decide +kernel⟩⟩⟩⟩⟩,
    ⟨recov 0 0 id {}, .host, 3, ⟨by unfold State.MayWrite; decide +kernel, ⟨_, rfl, ⟨by decide +kernel, by decide +kernel⟩⟩⟩⟩,
    ⟨recov 0 0 id {}, .host, ⟨by unfold State.MayWrite; decide +kernel, ⟨_, rfl, ⟨by decide +kernel, by decide +kernel⟩⟩⟩⟩,
    ⟨partn 4 (recov 0 0 id {}), .host, ⟨by unfold State.MayWrite; decide +kernel, ⟨_, rfl, ⟨by decide +kernel, by decide +kernel⟩⟩⟩⟩,
    ⟨recov 0 0 id {}, .host, ⟨by unfold State.MayWrite; decide +kernel, ⟨_, rfl, ⟨_, rfl, ⟨_, rfl, ⟨by decide +kernel, by decide +kernel⟩⟩⟩⟩⟩⟩,
    ⟨{ recov 0 0 id {} with parts := [(1, { started := true })] }, .host, ⟨by unfold State.MayWrite; decide +kernel, ⟨_, rfl, ⟨_, rfl, ⟨_, rfl,
        ⟨by decide +kernel, by decide +kernel⟩⟩⟩⟩⟩⟩,
    ⟨recov 0 0 (fun t => { t with regs := [{}] }) {}, .host, 0, 0, ⟨by unfold State.MayWrite; decide +kernel, ⟨_, rfl, ⟨by decide +kernel,
        ⟨by decide +kernel, ⟨by decide +kernel, by decide +kernel⟩⟩⟩⟩⟩⟩,
    ⟨recov 0 0 id {}, .host, 0, 0, ⟨by unfold State.MayWrite; decide +kernel, ⟨_, rfl, ⟨by decide +kernel, by decide +kernel⟩⟩⟩⟩,
    ⟨recov 0 0 id {}, 2, 1, 0, 1, 0, trivial⟩,
    ⟨recov 0 1 (fun t => { t with regs := [{}] }) { op := 4 }, 1, 0, 0, ⟨by decide +kernel, ⟨by decide +kernel, by decide +kernel⟩⟩⟩,
    ⟨recov 0 0 id {}, 1, 0, 0, by decide +kernel⟩,
    ⟨recov 0 4 id {}, .host, ⟨by unfold State.MayWrite; decide +kernel, ⟨_, rfl, by decide +kernel⟩⟩⟩,
    ⟨recov 0 4 id {}, .host, 1, 0, ⟨by unfold State.MayWrite; decide +kernel, ⟨_, rfl, ⟨_, rfl, ⟨by decide +kernel, ⟨by decide +kernel,
        ⟨by decide +kernel, ⟨by decide +kernel, ⟨by decide +kernel, ⟨1, ⟨by decide +kernel, ⟨by decide +kernel, ⟨by decide +kernel,
        ⟨by decide +kernel, by decide +kernel⟩⟩⟩⟩⟩⟩⟩⟩⟩⟩⟩⟩⟩⟩,
    ⟨recov 0 4 id {}, .host, 9, 0, ⟨by unfold State.MayWrite; decide +kernel, ⟨_, rfl, ⟨_, rfl, ⟨by decide +kernel, ⟨by decide +kernel,
        ⟨by decide +kernel, ⟨by decide +kernel, ⟨by decide +kernel, by decide +kernel⟩⟩⟩⟩⟩⟩⟩⟩⟩,
    ⟨recov 0 0 id {}, .host, ⟨by unfold State.MayWrite; decide +kernel, by decide +kernel⟩⟩,
    ⟨recov 0 1 id { op := 5 }, 1, ⟨by decide +kernel, by decide +kernel⟩⟩,
    ⟨recov 0 1 id { op := 6, record := true }, 1, ⟨by decide +kernel, ⟨by decide +kernel, ⟨by decide +kernel, by decide +kernel⟩⟩⟩⟩,
    ⟨recov 0 0 id {}, 1, by decide +kernel⟩⟩

/-- The three ranks are replicas of one region; what the set's digests have come to. -/
def repl (me : Nat) (x : DgX) (s : State) : State :=
  { grp me (fun t => { t with regs := [{ repl := true, rbase := 0, rcount := 3, rstep := 1 }] }) s with dgs := [(1, x)] }

/-- The hypotheses of `Obligations.ReplicasVoteAndActOnVerdicts`, clause by clause. -/
theorem test_replicas_vote_and_act_on_verdicts_met :
    (∃ (s : State) (p : Nat) (i : Nat), ((s.dgX p i).due = false)) ∧
    (∃ (s : State) (p : Nat) (i : Nat) (b : Nat) (n : Nat) (st : Nat) (l : List CtReg) (me : Nat), ((s.dgX p i).due = true) ∧
        ((s.ctOf p).sets[i]? = some ((b, n, st), l)) ∧ (s.ownRank p = some me) ∧ ∃ (r : Nat) (c : Nat), (s.dgLeader p i = some r) ∧ (r ≠ me) ∧
        (s.rankChip p r = some c)) ∧
    (∃ (s : State) (p : Nat) (i : Nat) (b : Nat) (n : Nat) (st : Nat) (l : List CtReg) (me : Nat), ((s.dgX p i).due = true) ∧
        ((s.ctOf p).sets[i]? = some ((b, n, st), l)) ∧ (s.ownRank p = some me) ∧ (s.dgLeader p i = some me) ∧ (i < 8) ∧
        (((s.ctOf p).sets.take 8).findIdx? (fun e => e.1 == (b, n, st)) = some i)) ∧
    (∃ (s : State) (p : Nat) (step : Nat) (b : Nat) (n : Nat) (st : Nat) (r : Nat) (d : Nat) (again : Bool), (((s.ctOf p).sets.take 8).findIdx? (fun e => e.1 == (b, n, st)) = none)) ∧
    (∃ (s : State) (p : Nat) (step : Nat) (b : Nat) (n : Nat) (st : Nat) (r : Nat) (d : Nat) (again : Bool), ∃ (i : Nat), (((s.ctOf p).sets.take 8).findIdx? (fun e => e.1 == (b, n, st)) = some i)) ∧
    (∃ (s : State) (p : Nat) (i : Nat), (s.isLeader p i = true) ∧ ((s.dgX p i).hold = true) ∧ ((s.dgX p i).decided = false) ∧ ∃ x, x = (s.dgX p i) ∧
        (x.fence + s.fld .dg (Dg.DG_TO.sub 15 0) ≤ s.tick)) ∧
    (∃ (s : State) (p : Nat) (i : Nat), (s.isLeader p i = true) ∧ ((s.dgX p i).hold = true) ∧ ((s.dgX p i).decided = false) ∧ ∃ x, x = (s.dgX p i) ∧
        (s.tick < x.fence + s.fld .dg (Dg.DG_TO.sub 15 0))) ∧
    (∃ (s : State) (p : Nat) (step : Nat) (i : Nat) (outcome : Nat) (maj : Nat) (agree : Nat) (dis : Nat) (missing : Nat) (ranks : List Nat), (outcome < 8) ∧
        (outcome ≠ 4) ∧ (outcome ≠ 5) ∧ ((s.dgX p i).step = step) ∧ (s.isLeader p i = false) ∧ ((s.dgX p i).got = false)) ∧
    (∃ (s : State) (p : Nat) (step : Nat) (i : Nat) (outcome : Nat) (maj : Nat) (agree : Nat) (dis : Nat) (missing : Nat) (ranks : List Nat), ((s.dgX p i).step ≠ step ∨ s.isLeader p i = true)) ∧
    (∃ (s : State) (p : Nat) (step : Nat) (i : Nat) (maj : Nat) (agree : Nat) (dis : Nat) (missing : Nat) (ranks : List Nat), ((s.dgX p i).step = step) ∧
        (s.isLeader p i = false) ∧ ((s.dgX p i).recheck = 1)) ∧
    (∃ (s : State) (p : Nat) (step : Nat) (i : Nat) (outcome : Nat) (maj : Nat) (agree : Nat) (dis : Nat) (missing : Nat) (ranks : List Nat), (outcome = 4 ∨ outcome = 5) ∧
        ((s.dgX p i).step = step) ∧ (s.isLeader p i = false) ∧ ((s.dgX p i).recheck ≠ 1)) ∧
    (∃ (s : State) (p : Nat) (i : Nat), ((s.dgX p i).hold = true) ∧ ((s.dgX p i).got = false) ∧
        ((s.dgX p i).fence + s.fld .dg (Dg.DG_TO.sub 15 0) + 1000 ≤ s.tick)) ∧
    (∃ (s : State) (p : Nat) (i : Nat), ((s.dgX p i).hold = false ∨ (s.dgX p i).got = true ∨ s.tick < (s.dgX p i).fence + s.fld .dg (Dg.DG_TO.sub 15 0) + 1000)) ∧
    (∃ (s : State) (p : Nat) (i : Nat), ((s.dgX p i).lead = true) ∧ ((s.dgX p i).reTick + s.fld .dg Dg.DG_RECHECK_TO ≤ s.tick)) ∧
    (∃ (s : State) (p : Nat) (i : Nat), ((s.dgX p i).lead = false ∨ s.tick < (s.dgX p i).reTick + s.fld .dg Dg.DG_RECHECK_TO)) ∧
    (∃ (s : State) (chip : Nat) (p : Nat), (chip < 65536) ∧ (p < 4096) ∧ ((∃ i < 8192, bitAt (s.reg (regKey .rt 0x134 i)).toNat 28 = false))) :=
  ⟨
    ⟨up, 1, 0, by decide +kernel⟩,
    ⟨repl 1 { due := true } up, 1, 0, 0, 3, 1, [{ repl := true, rbase := 0, rcount := 3, rstep := 1 }], 1, ⟨by decide +kernel, ⟨by decide +kernel,
        ⟨by decide +kernel, ⟨0, 1, ⟨by decide +kernel, ⟨by decide +kernel, by decide +kernel⟩⟩⟩⟩⟩⟩⟩,
    ⟨repl 0 { due := true } up, 1, 0, 0, 3, 1, [{ repl := true, rbase := 0, rcount := 3, rstep := 1 }], 0, ⟨by decide +kernel, ⟨by decide +kernel,
        ⟨by decide +kernel, ⟨by decide +kernel, ⟨by decide +kernel, by decide +kernel⟩⟩⟩⟩⟩⟩,
    ⟨up, 1, 0, 0, 3, 1, 0, 0, false, by decide +kernel⟩,
    ⟨repl 0 {} up, 1, 0, 0, 3, 1, 2, 9, false, ⟨0, by decide +kernel⟩⟩,
    ⟨repl 0 { hold := true } (now 65535 up), 1, 0, ⟨by decide +kernel, ⟨by decide +kernel, ⟨by decide +kernel, ⟨_, rfl, by decide +kernel⟩⟩⟩⟩⟩,
    ⟨repl 0 { hold := true, fence := 1 } up, 1, 0, ⟨by decide +kernel, ⟨by decide +kernel, ⟨by decide +kernel, ⟨_, rfl, by decide +kernel⟩⟩⟩⟩⟩,
    ⟨repl 1 {} up, 1, 0, 0, 7, 1, 2, 3, 0, [1], ⟨by decide +kernel, ⟨by decide +kernel, ⟨by decide +kernel, ⟨by decide +kernel, ⟨by decide +kernel,
        by decide +kernel⟩⟩⟩⟩⟩⟩,
    ⟨repl 0 {} up, 1, 0, 0, 7, 1, 2, 3, 0, [1], by decide +kernel⟩,
    ⟨repl 1 { recheck := 1 } up, 1, 0, 0, 1, 2, 3, 0, [1], ⟨by decide +kernel, ⟨by decide +kernel, by decide +kernel⟩⟩⟩,
    ⟨repl 1 { recheck := 0 } up, 1, 0, 0, 5, 1, 2, 3, 0, [1], ⟨by decide +kernel, ⟨by decide +kernel, ⟨by decide +kernel, by decide +kernel⟩⟩⟩⟩,
    ⟨repl 1 { hold := true } (now 66535 up), 1, 0, ⟨by decide +kernel, ⟨by decide +kernel, by decide +kernel⟩⟩⟩,
    ⟨repl 1 { hold := true } up, 1, 0, by decide +kernel⟩,
    ⟨repl 0 { lead := true } (now 4294967295 up), 1, 0, ⟨by decide +kernel, by decide +kernel⟩⟩,
    ⟨repl 0 { lead := true, reTick := 1 } up, 1, 0, by decide +kernel⟩,
    ⟨up, 65535, 4095, ⟨by decide +kernel, ⟨by decide +kernel, ⟨8191, by decide, by decide +kernel⟩⟩⟩⟩⟩

/-- Physical core p of cluster 7 in some state of its field test; FT_CTRL enables the tests. -/
def ft (p st : Nat) (s : State) : State :=
  putAt .ft (ftBank 7 p) [(Ft.FT_STATE.sub 2 0, st)] (put .ft [(Ft.FT_CTRL_EN, 1), (Ft.FT_CTRL_WINDOW, 0)] s)
/-- The states of cluster 7's cores from core 8 down, two bits each. -/
def pc7 (v : Nat) (s : State) : State := put (.cluster 1 3) [(⟨0x10C, 17, 0⟩, v)] s

/-- The hypotheses of `Obligations.FieldTestsAndSignatures`, clause by clause. -/
theorem test_field_tests_and_signatures_met :
    (∃ (s : State) (d : Nat) (c : Nat) (p : Nat), (d < 2) ∧ (c < 4) ∧ (p < 9) ∧ (s.ftDueTick (4 * d + c) p ≤ s.tick) ∧
        (s.procFailed (3 + d) = false) ∧ (s.fld .ft Ft.FT_CTRL_EN = 1) ∧ (s.mod_.stby = true) ∧ ∃ cl, cl = (4 * d + c) ∧ (s.ftSt cl p ≤ 1) ∧
        (∀ q < 9, q ≠ p → s.ftSt cl q = 0) ∧ (∀ q < 9, s.pcore cl q ≠ 2) ∧ (s.pcore cl p = 1)) ∧
    (∃ (s : State) (d : Nat) (c : Nat) (p : Nat), (d < 2) ∧ (c < 4) ∧ (p < 9) ∧ (s.ftDueTick (4 * d + c) p ≤ s.tick) ∧
        (s.procFailed (3 + d) = false) ∧ (s.fld .ft Ft.FT_CTRL_EN = 1) ∧ (s.mod_.stby = true) ∧ ∃ cl, cl = (4 * d + c) ∧ (s.ftSt cl p ≤ 1) ∧
        (∀ q < 9, q ≠ p → s.ftSt cl q = 0) ∧ (∀ q < 9, s.pcore cl q ≠ 2) ∧ ∃ (n : Nat) (j : Nat), (s.pcore cl p = 0) ∧ (n < 8) ∧
        (mapAt (s.bindMap cl) n = p) ∧ ((∀ k < n, mapAt (s.bindMap cl) k ≠ p)) ∧ (j < 9) ∧ (s.pcore cl j = 1) ∧ (∀ q < j, s.pcore cl q ≠ 1) ∧
        (s.bindPending cl = false) ∧ (s.bindBusy cl = false)) ∧
    (∃ (s : State) (d : Nat) (c : Nat) (p : Nat), (d < 2) ∧ (c < 4) ∧ (p < 9) ∧ (s.ftDueTick (4 * d + c) p ≤ s.tick) ∧
        (s.procFailed (3 + d) = false) ∧ (s.fld .ft Ft.FT_CTRL_EN = 1) ∧ (s.mod_.stby = true) ∧ ∃ cl, cl = (4 * d + c) ∧ (s.ftSt cl p ≤ 1) ∧
        (∀ q < 9, q ≠ p → s.ftSt cl q = 0) ∧ (∀ q < 9, s.pcore cl q ≠ 2) ∧ (s.pcore cl p = 0) ∧ (∀ q < 9, s.pcore cl q ≠ 1) ∧
        ((∃ k < 8, s.coreBusy (cl * 8 + k) = true)) ∧ ((s.ftX cl p).jackNoted = false)) ∧
    (∃ (s : State) (d : Nat) (c : Nat) (p : Nat), (s.tick < s.ftDueTick (4 * d + c) p ∨ s.fld .ft Ft.FT_CTRL_EN = 0)) ∧
    (∃ (s : State) (m : Master) (d : Nat) (c : Nat) (p : Nat), (s.MayWrite m .ft) ∧ (d < 2) ∧ (c < 4) ∧ (p < 9) ∧
        (s.fld .ft (Ft.FT_SEL.sub 6 0) = d + 2 * c + 8 * p)) ∧
    (∃ (s : State) (m : Master) (cl : Nat) (p : Nat), (s.MayWrite m .ft) ∧ (cl < 8) ∧ (p < 9)) ∧
    (∃ (s : State) (d : Nat) (c : Nat) (p : Nat) (temp : Int), (d < 2) ∧ (c < 4) ∧ (p < 9) ∧ (s.pcore (4 * d + c) p = 2) ∧
        (s.ftSt (4 * d + c) p = 1) ∧ (s.procFailed (3 + d) = false) ∧ (s.fld .pwr Pwr.PIN_TICK + 60 ≤ s.fld .pwr Pwr.CAP_EFF) ∧ (temp ≤ 850)) ∧
    (∃ (s : State) (d : Nat) (c : Nat) (p : Nat) (temp : Int), (d < 2) ∧ (c < 4) ∧ (p < 9) ∧ (s.pcore (4 * d + c) p = 2) ∧
        (s.ftSt (4 * d + c) p = 1) ∧ (s.procFailed (3 + d) = false) ∧ (s.fld .pwr Pwr.CAP_EFF < s.fld .pwr Pwr.PIN_TICK + 60 ∨ 850 < temp)) ∧
    (∃ (s : State) (d : Nat) (c : Nat) (p : Nat) (us : Nat) (rise : Nat), (d < 2) ∧ (c < 4) ∧ (p < 9) ∧ (s.pcore (4 * d + c) p = 2) ∧
        (3 ≤ s.ftSt (4 * d + c) p) ∧ (s.ftSt (4 * d + c) p ≤ 6)) ∧
    (∃ (s : State) (d : Nat) (c : Nat) (p : Nat) (us : Nat) (rise : Nat) (fail : Option (Nat × Nat × Nat × Nat × Int × Nat)), (s.pcore (4 * d + c) p ≠ 2 ∨ s.ftSt (4 * d + c) p < 3)) ∧
    (∃ (s : State) (d : Nat) (c : Nat) (p : Nat) (ns : Nat) (n : Nat), (d < 2) ∧ (c < 4) ∧ (p < 9) ∧ ((s.ftX (4 * d + c) p).lcore = some n) ∧
        (n < 8) ∧ ∃ cl, cl = (4 * d + c) ∧ ∃ lc, lc = (cl * 8 + n) ∧ (s.ftSt cl p = 2) ∧ (s.bindPending cl = true) ∧
        (s.ftDueTick cl p + s.ftWindow ≤ s.tick) ∧ ((s.ftX cl p).retry = 0) ∧ (s.drained lc = false)) ∧
    (∃ (s : State) (d : Nat) (c : Nat) (p : Nat) (ns : Nat) (n : Nat), (d < 2) ∧ (c < 4) ∧ (p < 9) ∧ ((s.ftX (4 * d + c) p).lcore = some n) ∧
        (n < 8) ∧ ∃ cl, cl = (4 * d + c) ∧ ∃ lc, lc = (cl * 8 + n) ∧ (s.ftSt cl p = 7) ∧ (s.bindPending cl = true) ∧ (s.drained lc = true)) ∧
    (∃ (s : State) (d : Nat) (c : Nat) (p : Nat) (ns : Nat) (n : Nat), (d < 2) ∧ (c < 4) ∧ (p < 9) ∧ ((s.ftX (4 * d + c) p).lcore = some n) ∧
        (n < 8) ∧ ∃ cl, cl = (4 * d + c) ∧ (s.ftSt cl p ≠ 2) ∧ (s.ftSt cl p ≠ 7)) ∧
    (∃ (s : State) (d : Nat) (c : Nat) (p : Nat) (ns : Nat) (n : Nat), (d < 2) ∧ (c < 4) ∧ (p < 9) ∧ ((s.ftX (4 * d + c) p).lcore = some n) ∧
        (n < 8) ∧ ∃ cl, cl = (4 * d + c) ∧ (s.ftSt cl p = 7) ∧ ((s.ftX cl p).force - 1 + 200 ≤ s.tick)) ∧
    (∃ (s : State) (d : Nat) (c : Nat) (p : Nat) (ns : Nat) (n : Nat), (d < 2) ∧ (c < 4) ∧ (p < 9) ∧ ((s.ftX (4 * d + c) p).lcore = some n) ∧
        (n < 8) ∧ ∃ cl, cl = (4 * d + c) ∧ (s.ftSt cl p = 2) ∧ (s.bindPending cl = true) ∧ (0 < (s.ftX cl p).retry) ∧ ((s.ftX cl p).retry ≤ s.tick) ∧
        ((s.tick + 1 - (s.ftX cl p).retry) % 100 = 0)) ∧
    (∃ (s : State) (d : Nat) (c : Nat) (p : Nat) (ns : Nat) (n : Nat), (d < 2) ∧ (c < 4) ∧ (p < 9) ∧ ((s.ftX (4 * d + c) p).lcore = some n) ∧
        (n < 8) ∧ ∃ cl, cl = (4 * d + c) ∧ ((s.tick + 1 - (s.ftX cl p).retry) % 100 ≠ 0)) ∧
    (∃ (s : State) (d : Nat) (c : Nat) (p : Nat), (s.ftSt (4 * d + c) p ≠ 7 ∨ s.tick < (s.ftX (4 * d + c) p).force - 1 + 200)) ∧
    (∃ (s : State), (s.answers .sig = true)) ∧
    (∃ (s : State) (m : Master), (s.MayWrite m .sig) ∧ ((tGet s.sigs s.sigSel).used = true) ∧ ((tGet s.sigs s.sigSel).acked = false)) ∧
    (∃ (s : State) (m : Master), (s.MayWrite m .sig) ∧ ((tGet s.sigs s.sigSel).used = false ∨ (tGet s.sigs s.sigSel).acked = true)) :=
  ⟨
    ⟨pc7 0x10000 (ft 8 0 up), 1, 3, 8, ⟨by decide +kernel, ⟨by decide +kernel, ⟨by decide +kernel, ⟨by decide +kernel, ⟨by decide +kernel,
        ⟨by decide +kernel, ⟨by decide +kernel, ⟨_, rfl, ⟨by decide +kernel, ⟨by decide +kernel, ⟨by decide +kernel, by decide +kernel⟩⟩⟩⟩⟩⟩⟩⟩⟩⟩⟩⟩,
    ⟨pc7 0x10000 (ft 5 1 up), 1, 3, 5, ⟨by decide +kernel, ⟨by decide +kernel, ⟨by decide +kernel, ⟨by decide +kernel, ⟨by decide +kernel,
        ⟨by decide +kernel, ⟨by decide +kernel, ⟨_, rfl, ⟨by decide +kernel, ⟨by decide +kernel, ⟨by decide +kernel, ⟨5, 8, ⟨by decide +kernel,
        ⟨by decide +kernel, ⟨by decide +kernel, ⟨by decide +kernel, ⟨by decide +kernel, ⟨by decide +kernel, ⟨by decide +kernel, ⟨by decide +kernel,
        by decide +kernel⟩⟩⟩⟩⟩⟩⟩⟩⟩⟩⟩⟩⟩⟩⟩⟩⟩⟩⟩⟩⟩,
    ⟨{ pc7 0x30000 (ft 5 1 up) with seqs := [(58, { st := 1 })] }, 1, 3, 5, ⟨by decide +kernel, ⟨by decide +kernel, ⟨by decide +kernel,
        ⟨by decide +kernel, ⟨by decide +kernel, ⟨by decide +kernel, ⟨by decide +kernel, ⟨_, rfl, ⟨by decide +kernel, ⟨by decide +kernel,
        ⟨by decide +kernel, ⟨by decide +kernel, ⟨by decide +kernel, ⟨by decide +kernel, by decide +kernel⟩⟩⟩⟩⟩⟩⟩⟩⟩⟩⟩⟩⟩⟩⟩,
    ⟨put .ft [(Ft.FT_CTRL_EN, 0)] up, 1, 3, 8, by decide +kernel⟩,
    ⟨put .ft [(Ft.FT_SEL, 71)] (own .ft up), .host, 1, 3, 8, ⟨by unfold State.MayWrite; decide +kernel, ⟨by decide +kernel, ⟨by decide +kernel,
        ⟨by decide +kernel, by decide +kernel⟩⟩⟩⟩⟩,
    ⟨own .ft up, .host, 7, 8, ⟨by unfold State.MayWrite; decide +kernel, ⟨by decide +kernel, by decide +kernel⟩⟩⟩,
    ⟨pc7 0x20000 (ft 8 1 (put .pwr [(Pwr.PIN_TICK, 2000)] up)), 1, 3, 8, 850, ⟨by decide +kernel, ⟨by decide +kernel, ⟨by decide +kernel,
        ⟨by decide +kernel, ⟨by decide +kernel, ⟨by decide +kernel, ⟨by decide +kernel, by decide +kernel⟩⟩⟩⟩⟩⟩⟩⟩,
    ⟨pc7 0x20000 (ft 8 1 up), 1, 3, 8, 851, ⟨by decide +kernel, ⟨by decide +kernel, ⟨by decide +kernel, ⟨by decide +kernel, ⟨by decide +kernel,
        ⟨by decide +kernel, by decide +kernel⟩⟩⟩⟩⟩⟩⟩,
    ⟨pc7 0x20000 (ft 8 6 up), 1, 3, 8, 5, 7, ⟨by decide +kernel, ⟨by decide +kernel, ⟨by decide +kernel, ⟨by decide +kernel, ⟨by decide +kernel,
        by decide +kernel⟩⟩⟩⟩⟩⟩,
    ⟨up, 1, 3, 8, 5, 7, none, by decide +kernel⟩,
    ⟨{ put (.cluster 1 3) [(Cl.BIND_CTRL_PENDING, 1)] (ft 8 2 (up)) with fts := [(120, { lcore := some 7, fails := 0 })], seqs := [(63, { chain := some {} })] }, 1, 3, 8, 0, 7,
        ⟨by decide +kernel, ⟨by decide +kernel, ⟨by decide +kernel, ⟨by decide +kernel, ⟨by decide +kernel, ⟨_, rfl, ⟨_, rfl, ⟨by decide +kernel,
        ⟨by decide +kernel, ⟨by decide +kernel, ⟨by decide +kernel, by decide +kernel⟩⟩⟩⟩⟩⟩⟩⟩⟩⟩⟩⟩,
    ⟨{ put (.cluster 1 3) [(Cl.BIND_CTRL_PENDING, 1)] (ft 8 7 (up)) with fts := [(120, { lcore := some 7, force := 1 })] }, 1, 3, 8, 0, 7,
        ⟨by decide +kernel, ⟨by decide +kernel, ⟨by decide +kernel, ⟨by decide +kernel, ⟨by decide +kernel, ⟨_, rfl, ⟨_, rfl, ⟨by decide +kernel,
        ⟨by decide +kernel, by decide +kernel⟩⟩⟩⟩⟩⟩⟩⟩⟩⟩,
    ⟨{ put (.cluster 1 3) [(Cl.BIND_CTRL_PENDING, 1)] (ft 8 3 (up)) with fts := [(120, { lcore := some 7, force := 1 })] }, 1, 3, 8, 0, 7,
        ⟨by decide +kernel, ⟨by decide +kernel, ⟨by decide +kernel, ⟨by decide +kernel, ⟨by decide +kernel, ⟨_, rfl, ⟨by decide +kernel,
        by decide +kernel⟩⟩⟩⟩⟩⟩⟩⟩,
    ⟨{ put (.cluster 1 3) [(Cl.BIND_CTRL_PENDING, 1)] (ft 8 7 (now 200 up)) with fts := [(120, { lcore := some 7, force := 1 })] }, 1, 3, 8, 0, 7,
        ⟨by decide +kernel, ⟨by decide +kernel, ⟨by decide +kernel, ⟨by decide +kernel, ⟨by decide +kernel, ⟨_, rfl, ⟨by decide +kernel,
        by decide +kernel⟩⟩⟩⟩⟩⟩⟩⟩,
    ⟨{ put (.cluster 1 3) [(Cl.BIND_CTRL_PENDING, 1)] (ft 8 2 (now 100 up)) with fts := [(120, { lcore := some 7, retry := 1 })] }, 1, 3, 8, 0, 7,
        ⟨by decide +kernel, ⟨by decide +kernel, ⟨by decide +kernel, ⟨by decide +kernel, ⟨by decide +kernel, ⟨_, rfl, ⟨by decide +kernel,
        ⟨by decide +kernel, ⟨by decide +kernel, ⟨by decide +kernel, by decide +kernel⟩⟩⟩⟩⟩⟩⟩⟩⟩⟩⟩,
    ⟨{ put (.cluster 1 3) [(Cl.BIND_CTRL_PENDING, 1)] (ft 8 2 (now 101 up)) with fts := [(120, { lcore := some 7, retry := 1 })] }, 1, 3, 8, 0, 7,
        ⟨by decide +kernel, ⟨by decide +kernel, ⟨by decide +kernel, ⟨by decide +kernel, ⟨by decide +kernel, ⟨_, rfl, by decide +kernel⟩⟩⟩⟩⟩⟩⟩,
    ⟨{ put (.cluster 1 3) [(Cl.BIND_CTRL_PENDING, 1)] (ft 8 7 (now 199 up)) with fts := [(120, { lcore := some 7, force := 1 })] }, 1, 3, 8,
        by decide +kernel⟩,
    ⟨up, by decide +kernel⟩,
    ⟨{ own .sig up with sigs := [(0, { used := true })] }, .host, ⟨by unfold State.MayWrite; decide +kernel, ⟨by decide +kernel, by decide +kernel⟩⟩⟩,
    ⟨{ own .sig up with sigs := [(0, { used := true, acked := true })] }, .host, ⟨by unfold State.MayWrite; decide +kernel, by decide +kernel⟩⟩⟩

/-- The hypotheses of `Obligations.ProcessorsAndControlPass`, clause by clause. -/
theorem test_processors_and_control_pass_met :
    (∃ (s : State) (k : Nat), (k ∈ procBanks) ∧ (s.procSt k = 0 ∨ s.procSt k = 3) ∧ (s.fld .fp (Fp.WD_FW.sub 9 0) k ≤ (s.proc k).idle)) ∧
    (∃ (s : State) (k : Nat), (k ∉ procBanks ∨ s.procSt k = 1 ∨ s.procSt k = 2 ∨ (s.proc k).idle < s.fld .fp (Fp.WD_FW.sub 9 0) k)) ∧
    (∃ (s : State) (k : Nat), (k ∈ procBanks) ∧ (s.procSt k = 1) ∧ (procClass k ∉ s.cc.bad) ∧ (s.cc.takeover = none)) ∧
    (∃ (s : State) (k : Nat), (s.procSt k ≠ 1)) ∧
    (∃ (s : State) (c : Nat) (taker : Nat), (taker < 2) ∧ (s.cc.takeover = some (c, taker))) ∧
    (∃ (s : State), (s.procSt 0 = 0) ∧ (s.ccSt 0 = 0) ∧ (s.inProbation 0 = false)) ∧
    (∃ (s : State) (k : Nat), (k ∈ procBanks) ∧ (s.procSt k = 0) ∧ (s.inProbation k = true)) ∧
    (∃ (s : State) (k : Nat), (s.procSt k ≠ 0)) ∧
    (∃ (s : State) (m : Master), (s.MayWrite m .fp) ∧ ∃ v, v = (s.fld .fp (Fp.FP_SEL.sub 5 0)) ∧ ∃ k, k = (if v = 0 ∨ v = 32 then v else v % 32) ∧
        (k ≤ 16 ∨ k = 32) ∧ (s.procFailed k = true) ∧ (k ≠ 0) ∧ (k ≠ 32)) ∧
    (∃ (s : State) (m : Master), (s.MayWrite m .fp) ∧ ∃ v, v = (s.fld .fp (Fp.FP_SEL.sub 5 0)) ∧ ∃ k, k = (if v = 0 ∨ v = 32 then v else v % 32) ∧
        (k ≤ 16 ∨ k = 32) ∧ (s.procFailed k = true) ∧ (k = 0 ∨ k = 32)) ∧
    (∃ (s : State) (m : Master), (s.MayWrite m .fp) ∧ ∃ v, v = (s.fld .fp (Fp.FP_SEL.sub 5 0)) ∧ ∃ k, k = (if v = 0 ∨ v = 32 then v else v % 32) ∧
        (k ≤ 16 ∨ k = 32) ∧ (s.procFailed k = false)) ∧
    (∃ (s : State) (c : Nat) (taker : Nat) (ns : Nat), (taker < 2) ∧ (s.cc.takeover = some (c, taker))) ∧
    (∃ (s : State) (ns : Nat), (s.cc.takeover = none)) ∧
    (∃ (s : State), (s.ccSt 0 = 1) ∧ (s.ccSt 1 = 0) ∧ (s.cc.takeover = none) ∧ (s.fld .cc Cc.REVERT_HOLD ≤ (s.proc 0).held) ∧ (s.updBusy 0 = false)) ∧
    (∃ (s : State), (s.ccSt 0 = 1) ∧ (s.ccSt 1 = 0) ∧ (s.cc.takeover = none) ∧ (s.fld .cc Cc.REVERT_HOLD ≤ (s.proc 0).held) ∧ (s.updSt 0 = 2) ∧
        (s.updStep 0 = 3)) ∧
    (∃ (s : State), (s.ccSt 0 = 1) ∧ (s.ccSt 1 = 0) ∧ (s.cc.takeover = none) ∧ (s.fld .cc Cc.REVERT_HOLD ≤ (s.proc 0).held) ∧ (s.updBusy 0 = true) ∧
        (s.updStep 0 ≠ 3)) ∧
    (∃ (s : State), (s.ccSt 0 ≠ 1 ∨ s.ccSt 1 ≠ 0 ∨ (s.proc 0).held < s.fld .cc Cc.REVERT_HOLD ∨ s.cc.takeover ≠ none)) ∧
    (∃ (s : State) (m : Master), (s.MayWrite m .cc) ∧ (s.ccSt 1 = 1)) ∧
    (∃ (s : State) (m : Master), (s.MayWrite m .cc) ∧ (s.ccSt 1 ≠ 1)) :=
  ⟨
    ⟨{ up with procs := [(5, { idle := 5 })] }, 5, ⟨by decide +kernel, ⟨by decide +kernel, by decide +kernel⟩⟩⟩,
    ⟨{ up with procs := [(5, { idle := 4 })] }, 5, by decide +kernel⟩,
    ⟨putAt .fp 5 [(Fp.FP_STATUS, 1)] (up), 5, ⟨by decide +kernel, ⟨by decide +kernel, ⟨by decide +kernel, by decide +kernel⟩⟩⟩⟩,
    ⟨up, 5, by decide +kernel⟩,
    ⟨{ up with cc := { takeover := some (3, 1) } }, 3, 1, ⟨by decide +kernel, by decide +kernel⟩⟩,
    ⟨put .cc [(Cc.CC_STATUS, 4)] up, ⟨by decide +kernel, ⟨by decide +kernel, by decide +kernel⟩⟩⟩,
    ⟨putAt .fp 5 [(Fp.FP_STATUS, 4)] (up), 5, ⟨by decide +kernel, ⟨by decide +kernel, by decide +kernel⟩⟩⟩,
    ⟨putAt .fp 5 [(Fp.FP_STATUS, 2)] (up), 5, by decide +kernel⟩,
    ⟨put .fp [(Fp.FP_SEL, 16)] (own .fp (putAt .fp 16 [(Fp.FP_STATUS, 2)] (up))), .host, ⟨by unfold State.MayWrite; decide +kernel, ⟨_, rfl, ⟨_, rfl,
        ⟨by decide +kernel, ⟨by decide +kernel, ⟨by decide +kernel, by decide +kernel⟩⟩⟩⟩⟩⟩⟩,
    ⟨put .fp [(Fp.FP_SEL, 32)] (own .fp (putAt .fp 32 [(Fp.FP_STATUS, 2)] (up))), .host, ⟨by unfold State.MayWrite; decide +kernel, ⟨_, rfl, ⟨_, rfl,
        ⟨by decide +kernel, ⟨by decide +kernel, by decide +kernel⟩⟩⟩⟩⟩⟩,
    ⟨put .fp [(Fp.FP_SEL, 16)] (own .fp (putAt .fp 16 [(Fp.FP_STATUS, 1)] (up))), .host, ⟨by unfold State.MayWrite; decide +kernel, ⟨_, rfl, ⟨_, rfl,
        ⟨by decide +kernel, by decide +kernel⟩⟩⟩⟩⟩,
    ⟨{ up with cc := { takeover := some (3, 1) } }, 3, 1, 0, ⟨by decide +kernel, by decide +kernel⟩⟩,
    ⟨up, 0, by decide +kernel⟩,
    ⟨{ put .cc [(Cc.CC_STATUS, 1)] (up) with procs := [(0, { held := 100000 })] }, ⟨by decide +kernel, ⟨by decide +kernel, ⟨by decide +kernel,
        ⟨by decide +kernel, by decide +kernel⟩⟩⟩⟩⟩,
    ⟨{ put .cc [(Cc.CC_STATUS, 1)] (put .upd [(Upd.UPD_STATE, 2 + 8 * 3)] up) with procs := [(0, { held := 100000 })] }, ⟨by decide +kernel,
        ⟨by decide +kernel, ⟨by decide +kernel, ⟨by decide +kernel, ⟨by decide +kernel, by decide +kernel⟩⟩⟩⟩⟩⟩,
    ⟨{ put .cc [(Cc.CC_STATUS, 1)] (put .upd [(Upd.UPD_STATE, 1 + 8)] up) with procs := [(0, { held := 100000 })] }, ⟨by decide +kernel,
        ⟨by decide +kernel, ⟨by decide +kernel, ⟨by decide +kernel, ⟨by decide +kernel, by decide +kernel⟩⟩⟩⟩⟩⟩,
    ⟨{ put .cc [(Cc.CC_STATUS, 1)] (up) with procs := [(0, { held := 99999 })] }, by decide +kernel⟩,
    ⟨put .cc [(Cc.CC_STATUS, 4)] (own .cc up), .host, ⟨by unfold State.MayWrite; decide +kernel, by decide +kernel⟩⟩,
    ⟨put .cc [(Cc.CC_STATUS, 8)] (own .cc up), .host, ⟨by unfold State.MayWrite; decide +kernel, by decide +kernel⟩⟩⟩

def w39_0_0_h : MHdr := {}
def w39_0_0_data : List Byte := []
def w39_0_0_img : ImgHdr := {}
def w39_0_0_tok : Token := {}
def w39_0_0_nonce : List Byte := []
def w39_0_0_b : List Byte := []
def w39_0_0_ranges : List (Nat × Nat) := []
def w39_0_0_tag : List Byte := []
def w39_0_0_key : List Byte := []
def w39_0_0_down : Prop := w39_0_0_h.target = 0 ∧ State.reset.ccDown = true ∧ State.reset.inRecovery = false
def w39_0_0_absent : Prop := 16 < w39_0_0_h.target ∨ w39_0_0_h.target ≠ 0 ∧ State.reset.procFailed w39_0_0_h.target = true
def w39_0_0_restarting : Prop := w39_0_0_h.target ≠ 0 ∧ State.reset.procSt w39_0_0_h.target = 1
def w39_0_1_h : MHdr := {}
def w39_0_1_data : List Byte := []
def w39_0_1_img : ImgHdr := {}
def w39_0_1_tok : Token := {}
def w39_0_1_nonce : List Byte := []
def w39_0_1_b : List Byte := []
def w39_0_1_ranges : List (Nat × Nat) := []
def w39_0_1_tag : List Byte := []
def w39_0_1_key : List Byte := []
def w39_0_1_down : Prop := w39_0_1_h.target = 0 ∧ up.ccDown = true ∧ up.inRecovery = false
def w39_0_1_absent : Prop := 16 < w39_0_1_h.target ∨ w39_0_1_h.target ≠ 0 ∧ up.procFailed w39_0_1_h.target = true
def w39_0_1_restarting : Prop := w39_0_1_h.target ≠ 0 ∧ up.procSt w39_0_1_h.target = 1
def w39_0_2_h : MHdr := {}
def w39_0_2_data : List Byte := []
def w39_0_2_img : ImgHdr := {}
def w39_0_2_tok : Token := {}
def w39_0_2_nonce : List Byte := []
def w39_0_2_b : List Byte := []
def w39_0_2_ranges : List (Nat × Nat) := []
def w39_0_2_tag : List Byte := []
def w39_0_2_key : List Byte := []
def w39_0_2_down : Prop := w39_0_2_h.target = 0 ∧ up.ccDown = true ∧ up.inRecovery = false
def w39_0_2_absent : Prop := 16 < w39_0_2_h.target ∨ w39_0_2_h.target ≠ 0 ∧ up.procFailed w39_0_2_h.target = true
def w39_0_2_restarting : Prop := w39_0_2_h.target ≠ 0 ∧ up.procSt w39_0_2_h.target = 1

/-- The hypotheses of `Obligations.MailboxesFrontTheirRequests`, clause by clause. -/
theorem test_mailboxes_front_their_requests_met :
    (∃ (s : State) (m : Master) (n : Nat) (h : MHdr) (cls : Nat) (off : Nat) (data : List Byte) (img : ImgHdr) (H : Nat) (tok : Token) (part : Nat) (ek : Bool) (nonce : List Byte) (b : List Byte) (phase : Nat) (idx : Nat) (mask : Nat) (ranges : List (Nat × Nat)) (tag : List Byte) (addr : Nat) (key : List Byte), (n < 32) ∧
        ∃ e, (e ∈ ([(.getVersion m n h, 1), (.getHealth m n h, 2), (.fwStage m n h cls off data, 0x10), (.fwVerify m n h cls img, 0x11),
        (.fwActivate m n h cls H, 0x12), (.fwAbort m n h cls, 0x13), (.fbClear m n h tok, 0x30), (.attRequest m n h part ek nonce, 0x100),
        (.keyGrant m n h b, 0x101), (.keyInstall m n h part phase idx, 0x102), (.sealPart m n h part mask ranges tag, 0x103),
        (.sealLoad m n h addr, 0x104), (.tokenChallenge m n h, 0x105), (.svnCommit m n h tok, 0x106), (.ownerSet m n h tok, 0x106),
        (.debugUnlock m n h tok, 0x106), (.rma m n h tok, 0x106), (.ownerKey m n h key, 0x107)] : List (Instr × Nat))) ∧ (s.mod_.stby = false)) ∧
    (∃ (s : State) (m : Master) (n : Nat) (h : MHdr) (cls : Nat) (off : Nat) (data : List Byte) (img : ImgHdr) (H : Nat) (tok : Token) (part : Nat) (ek : Bool) (nonce : List Byte) (b : List Byte) (phase : Nat) (idx : Nat) (mask : Nat) (ranges : List (Nat × Nat)) (tag : List Byte) (addr : Nat) (key : List Byte), (n < 32) ∧
        ∃ e, (e ∈ ([(.getVersion m n h, 1), (.getHealth m n h, 2), (.fwStage m n h cls off data, 0x10), (.fwVerify m n h cls img, 0x11),
        (.fwActivate m n h cls H, 0x12), (.fwAbort m n h cls, 0x13), (.fbClear m n h tok, 0x30), (.attRequest m n h part ek nonce, 0x100),
        (.keyGrant m n h b, 0x101), (.keyInstall m n h part phase idx, 0x102), (.sealPart m n h part mask ranges tag, 0x103),
        (.sealLoad m n h addr, 0x104), (.tokenChallenge m n h, 0x105), (.svnCommit m n h tok, 0x106), (.ownerSet m n h tok, 0x106),
        (.debugUnlock m n h tok, 0x106), (.rma m n h tok, 0x106), (.ownerKey m n h key, 0x107)] : List (Instr × Nat))) ∧ (s.mod_.stby = true) ∧
        (¬ ownBox m n ∨ ¬ s.boxOpen n e.2 ∨ ¬ s.boxIdle n ∧ ¬ s.boxHolds n e.2 h)) ∧
    (∃ (s : State) (m : Master) (n : Nat) (h : MHdr) (cls : Nat) (off : Nat) (data : List Byte) (img : ImgHdr) (H : Nat) (tok : Token) (part : Nat) (ek : Bool) (nonce : List Byte) (b : List Byte) (phase : Nat) (idx : Nat) (mask : Nat) (ranges : List (Nat × Nat)) (tag : List Byte) (addr : Nat) (key : List Byte), (n < 32) ∧
        ∃ e, (e ∈ ([(.getVersion m n h, 1), (.getHealth m n h, 2), (.fwStage m n h cls off data, 0x10), (.fwVerify m n h cls img, 0x11),
        (.fwActivate m n h cls H, 0x12), (.fwAbort m n h cls, 0x13), (.fbClear m n h tok, 0x30), (.attRequest m n h part ek nonce, 0x100),
        (.keyGrant m n h b, 0x101), (.keyInstall m n h part phase idx, 0x102), (.sealPart m n h part mask ranges tag, 0x103),
        (.sealLoad m n h addr, 0x104), (.tokenChallenge m n h, 0x105), (.svnCommit m n h tok, 0x106), (.ownerSet m n h tok, 0x106),
        (.debugUnlock m n h tok, 0x106), (.rma m n h tok, 0x106), (.ownerKey m n h key, 0x107)] : List (Instr × Nat))) ∧ (s.Posts m n e.2 h)) :=
  ⟨
    ⟨State.reset,
        .host, 31, w39_0_0_h, 0, 0, w39_0_0_data, w39_0_0_img, 0, w39_0_0_tok, 1, false, w39_0_0_nonce, w39_0_0_b, 0, 0, 0, w39_0_0_ranges, w39_0_0_tag, 0, w39_0_0_key,
        ⟨by decide +kernel, ⟨((Instr.ownerKey .host 31 w39_0_0_h w39_0_0_key, 0x107) : Instr × Nat),
        ⟨.tail _ (.tail _ (.tail _ (.tail _ (.tail _ (.tail _ (.tail _ (.tail _ (.tail _ (.tail _ (.tail _ (.tail _ (.tail _ (.tail _ (.tail _ (.tail _ (.tail _ (.head _))))))))))))))))),
        by decide +kernel⟩⟩⟩⟩,
    ⟨up,
        .host, 16, w39_0_1_h, 0, 0, w39_0_1_data, w39_0_1_img, 0, w39_0_1_tok, 1, false, w39_0_1_nonce, w39_0_1_b, 0, 0, 0, w39_0_1_ranges, w39_0_1_tag, 0, w39_0_1_key,
        ⟨by decide +kernel, ⟨((Instr.getVersion .host 16 w39_0_1_h, 1) : Instr × Nat), ⟨.head _, ⟨by decide +kernel,
        .inl (by unfold ownBox; decide +kernel)⟩⟩⟩⟩⟩,
    ⟨up,
        .mgmt, 31, w39_0_2_h, 0, 0, w39_0_2_data, w39_0_2_img, 0, w39_0_2_tok, 1, false, w39_0_2_nonce, w39_0_2_b, 0, 0, 0, w39_0_2_ranges, w39_0_2_tag, 0, w39_0_2_key,
        ⟨by decide +kernel, ⟨((Instr.attRequest .mgmt 31 w39_0_2_h 1 false w39_0_2_nonce, 0x100) : Instr × Nat),
        ⟨.tail _ (.tail _ (.tail _ (.tail _ (.tail _ (.tail _ (.tail _ (.head _))))))),
        ⟨by decide +kernel, by unfold ownBox; decide +kernel, by unfold State.boxOpen; decide +kernel, by unfold State.boxIdle State.boxHolds; decide +kernel⟩⟩⟩⟩⟩⟩

/-- The hypotheses of `Obligations.FirmwareIsStagedVerifiedAndActivated`, clause by clause. -/
theorem test_firmware_is_staged_verified_and_activated_met :
    (∃ (s : State) (m : Master) (n : Nat) (h : MHdr), (n < 32) ∧ (s.Considers m n 1 h)) ∧
    (∃ (s : State) (m : Master) (n : Nat) (h : MHdr), (n < 32) ∧ (s.Considers m n 2 h)) ∧
    (∃ (s : State) (m : Master) (n : Nat) (h : MHdr) (cls : Nat) (off : Nat) (data : List Byte), (n < 32) ∧ (s.Considers m n 0x10 h)) ∧
    (∃ (s : State) (m : Master) (n : Nat) (h : MHdr) (cls : Nat) (img : ImgHdr), (n < 32) ∧ (s.Considers m n 0x11 h)) ∧
    (∃ (s : State) (m : Master) (n : Nat) (h : MHdr) (cls : Nat) (H : Nat), (n < 32) ∧ (s.Considers m n 0x12 h)) ∧
    (∃ (s : State) (m : Master) (n : Nat) (h : MHdr) (cls : Nat), (n < 32) ∧ (s.Considers m n 0x13 h)) ∧
    (∃ (s : State) (cls : Nat), (cls ≤ 4) ∧ (s.updSt cls = 1) ∧ (s.fld64 .upd Upd.UPD_H_LO cls < s.tick) ∧ (cls ≠ 0)) ∧
    (∃ (s : State) (cls : Nat), (cls ≤ 4) ∧ (s.updSt cls = 1) ∧ (s.fld64 .upd Upd.UPD_H_LO cls < s.tick) ∧ (cls = 0) ∧ (s.ccSt 0 = 0) ∧ (s.ccSt 1 = 1)) ∧
    (∃ (s : State) (cls : Nat), (cls ≤ 4) ∧ (s.updSt cls = 1) ∧ (s.fld64 .upd Upd.UPD_H_LO cls < s.tick) ∧ (cls = 0) ∧ (s.ccSt 0 ≠ 0 ∨ s.ccSt 1 ≠ 1)) ∧
    (∃ (s : State) (cls : Nat), (s.updSt cls ≠ 1 ∨ s.tick ≤ s.fld64 .upd Upd.UPD_H_LO cls)) ∧
    (∃ (s : State) (cls : Nat), (cls ≤ 4) ∧ (s.updSt cls = 3) ∧ ((tGet s.upds cls).start + 1000000 ≤ s.tick) ∧ (cls = 0) ∧ (s.updStep 0 = 2)) ∧
    (∃ (s : State) (cls : Nat), (cls ≤ 4) ∧ (s.updSt cls = 3) ∧ ((tGet s.upds cls).start + 1000000 ≤ s.tick) ∧ (cls = 0 → s.updStep 0 ≠ 2)) ∧
    (∃ (s : State) (cls : Nat), (s.updSt cls ≠ 3 ∨ s.tick < (tGet s.upds cls).start + 1000000)) :=
  ⟨
    ⟨up, .mgmt, 16, { target := 1 }, ⟨by decide +kernel,
        ⟨⟨by decide +kernel, by unfold ownBox; decide +kernel, by unfold State.boxOpen; decide +kernel, by unfold State.boxIdle State.boxHolds; decide +kernel⟩,
        by decide +kernel, by decide +kernel, by decide +kernel, by decide +kernel, by decide +kernel, by decide +kernel, by decide +kernel⟩⟩⟩,
    ⟨up, .host, 15, {}, ⟨by decide +kernel,
        ⟨⟨by decide +kernel, by unfold ownBox; decide +kernel, by unfold State.boxOpen; decide +kernel, by unfold State.boxIdle State.boxHolds; decide +kernel⟩,
        by decide +kernel, by decide +kernel, by decide +kernel, by decide +kernel, by decide +kernel, by decide +kernel, by decide +kernel⟩⟩⟩,
    ⟨up, .host, 15, {}, 4, 4096, [1], ⟨by decide +kernel,
        ⟨⟨by decide +kernel, by unfold ownBox; decide +kernel, by unfold State.boxOpen; decide +kernel, by unfold State.boxIdle State.boxHolds; decide +kernel⟩,
        by decide +kernel, by decide +kernel, by decide +kernel, by decide +kernel, by decide +kernel, by decide +kernel, by decide +kernel⟩⟩⟩,
    ⟨up, .host, 15, {}, 4, {}, ⟨by decide +kernel,
        ⟨⟨by decide +kernel, by unfold ownBox; decide +kernel, by unfold State.boxOpen; decide +kernel, by unfold State.boxIdle State.boxHolds; decide +kernel⟩,
        by decide +kernel, by decide +kernel, by decide +kernel, by decide +kernel, by decide +kernel, by decide +kernel, by decide +kernel⟩⟩⟩,
    ⟨up, .host, 15, {}, 4, 100, ⟨by decide +kernel,
        ⟨⟨by decide +kernel, by unfold ownBox; decide +kernel, by unfold State.boxOpen; decide +kernel, by unfold State.boxIdle State.boxHolds; decide +kernel⟩,
        by decide +kernel, by decide +kernel, by decide +kernel, by decide +kernel, by decide +kernel, by decide +kernel, by decide +kernel⟩⟩⟩,
    ⟨up, .host, 15, {}, 4, ⟨by decide +kernel,
        ⟨⟨by decide +kernel, by unfold ownBox; decide +kernel, by unfold State.boxOpen; decide +kernel, by unfold State.boxIdle State.boxHolds; decide +kernel⟩,
        by decide +kernel, by decide +kernel, by decide +kernel, by decide +kernel, by decide +kernel, by decide +kernel, by decide +kernel⟩⟩⟩,
    ⟨now 1 (putAt .upd 4 [(Upd.UPD_STATE, 1)] (up)), 4, ⟨by decide +kernel, ⟨by decide +kernel, ⟨by decide +kernel, by decide +kernel⟩⟩⟩⟩,
    ⟨put .cc [(Cc.CC_STATUS, 4)] (now 1 (putAt .upd 0 [(Upd.UPD_STATE, 1)] (up))), 0, ⟨by decide +kernel, ⟨by decide +kernel, ⟨by decide +kernel,
        ⟨by decide +kernel, ⟨by decide +kernel, by decide +kernel⟩⟩⟩⟩⟩⟩,
    ⟨put .cc [(Cc.CC_STATUS, 8)] (now 1 (putAt .upd 0 [(Upd.UPD_STATE, 1)] (up))), 0, ⟨by decide +kernel, ⟨by decide +kernel, ⟨by decide +kernel,
        ⟨by decide +kernel, by decide +kernel⟩⟩⟩⟩⟩,
    ⟨putAt .upd 4 [(Upd.UPD_STATE, 1)] (up), 4, by decide +kernel⟩,
    ⟨now 1000000 (putAt .upd 0 [(Upd.UPD_STATE, 3 + 16)] (up)), 0, ⟨by decide +kernel, ⟨by decide +kernel, ⟨by decide +kernel, ⟨by decide +kernel,
        by decide +kernel⟩⟩⟩⟩⟩,
    ⟨now 1000000 (putAt .upd 4 [(Upd.UPD_STATE, 3)] (up)), 4, ⟨by decide +kernel, ⟨by decide +kernel, ⟨by decide +kernel, by decide +kernel⟩⟩⟩⟩,
    ⟨now 999999 (putAt .upd 4 [(Upd.UPD_STATE, 3)] (up)), 4, by decide +kernel⟩⟩

/-- The hypotheses of `Obligations.FlipbookWindowShowsOneRecord`, clause by clause. -/
theorem test_flipbook_window_shows_one_record_met :
    (∃ (s : State) (m : Master), (s.answers .flip = true)) ∧
    (∃ (s : State) (m : Master), (s.answers .flip = true)) :=
  ⟨
    ⟨up, .host, by decide +kernel⟩,
    ⟨up, .host, by decide +kernel⟩⟩

/-- The hypotheses of `Obligations.FlipbookIsFrozenAndCleared`, clause by clause. -/
theorem test_flipbook_is_frozen_and_cleared_met :
    (∃ (s : State) (m : Master) (area : Nat), (s.MayWrite m .flip)) ∧
    (∃ (s : State) (m : Master) (area : Nat), (s.MayWrite m .flip)) ∧
    (∃ (s : State), (s.fld .flip (Rec.REC_STATUS.sub 0 0) = 1) ∧ (s.flip.freezeTick + s.fld .flip Rec.FREEZE_MAX ≤ s.tick)) ∧
    (∃ (s : State), (s.fld .flip (Rec.REC_STATUS.sub 0 0) = 0 ∨ s.tick < s.flip.freezeTick + s.fld .flip Rec.FREEZE_MAX)) ∧
    (∃ (s : State) (m : Master) (n : Nat) (h : MHdr) (tok : Token), (n < 32) ∧ (s.Considers m n 0x30 h)) :=
  ⟨
    ⟨own .flip up, .host, 1, by unfold State.MayWrite; decide +kernel⟩,
    ⟨own .flip up, .host, 1, by unfold State.MayWrite; decide +kernel⟩,
    ⟨now 100000 (put .flip [(Rec.REC_STATUS, 1)] up), ⟨by decide +kernel, by decide +kernel⟩⟩,
    ⟨now 99999 (put .flip [(Rec.REC_STATUS, 1)] up), by decide +kernel⟩,
    ⟨up, .host, 15, {}, {}, ⟨by decide +kernel,
        ⟨⟨by decide +kernel, by unfold ownBox; decide +kernel, by unfold State.boxOpen; decide +kernel, by unfold State.boxIdle State.boxHolds; decide +kernel⟩,
        by decide +kernel, by decide +kernel, by decide +kernel, by decide +kernel, by decide +kernel, by decide +kernel, by decide +kernel⟩⟩⟩⟩

/-- The hypotheses of `Obligations.ReportsAndJobKeys`, clause by clause. -/
theorem test_reports_and_job_keys_met :
    (∃ (s : State) (m : Master) (n : Nat) (h : MHdr) (part : Nat) (ek : Bool) (nonce : List Byte), (n < 32) ∧ (s.Considers m n 0x100 h)) ∧
    (∃ (s : State) (m : Master), (s.answers .sec = true)) ∧
    (∃ (s : State) (part : Nat), (∃ e ∈ s.decap, e.part = part ∧ e.tick + 6000000 ≤ s.tick)) ∧
    (∃ (s : State) (part : Nat), (∀ e ∈ s.decap, e.part = part → s.tick < e.tick + 6000000)) ∧
    (∃ (s : State) (m : Master) (n : Nat) (h : MHdr) (b : List Byte), (n < 32) ∧ (s.Considers m n 0x101 h)) ∧
    (∃ (s : State) (m : Master) (n : Nat) (h : MHdr) (part : Nat) (phase : Nat) (idx : Nat), (n < 32) ∧ (s.Considers m n 0x102 h)) :=
  ⟨
    ⟨up, .mgmt, 16, { target := 1 }, 0, true, [], ⟨by decide +kernel,
        ⟨⟨by decide +kernel, by unfold ownBox; decide +kernel, by unfold State.boxOpen; decide +kernel, by unfold State.boxIdle State.boxHolds; decide +kernel⟩,
        by decide +kernel, by decide +kernel, by decide +kernel, by decide +kernel, by decide +kernel, by decide +kernel, by decide +kernel⟩⟩⟩,
    ⟨up, .host, by decide +kernel⟩,
    ⟨{ now 6000000 up with decap := [{ part := 1 }] }, 1, by decide +kernel⟩,
    ⟨{ now 5999999 up with decap := [{ part := 1 }] }, 1, by decide +kernel⟩,
    ⟨up, .mgmt, 16, { target := 1 }, [1], ⟨by decide +kernel,
        ⟨⟨by decide +kernel, by unfold ownBox; decide +kernel, by unfold State.boxOpen; decide +kernel, by unfold State.boxIdle State.boxHolds; decide +kernel⟩,
        by decide +kernel, by decide +kernel, by decide +kernel, by decide +kernel, by decide +kernel, by decide +kernel, by decide +kernel⟩⟩⟩,
    ⟨up, .mgmt, 16, { target := 1 }, 1, 1, 5, ⟨by decide +kernel,
        ⟨⟨by decide +kernel, by unfold ownBox; decide +kernel, by unfold State.boxOpen; decide +kernel, by unfold State.boxIdle State.boxHolds; decide +kernel⟩,
        by decide +kernel, by decide +kernel, by decide +kernel, by decide +kernel, by decide +kernel, by decide +kernel, by decide +kernel⟩⟩⟩⟩

def w44_3_1_s : State := edesk up
def w44_3_1_h : MHdr := { target := 1 }
def w44_3_1_p := (w44_3_1_s.mboxPost .mgmt 16 0x104 w44_3_1_h).1
def w44_3_1_u : State := (w44_3_1_p.readMem 0 64 none).1
def w44_3_1_hd : List Byte := (((w44_3_1_p.readMem 0 64 none).2).getD default)
def w44_3_1_part := natLE (w44_3_1_hd.take 2)
def w44_3_1_cnt := natLE ((w44_3_1_hd.drop 8).take 8)
def w44_3_1_target := natLE ((w44_3_1_hd.drop 16).take 8)
def w44_3_1_len := natLE ((w44_3_1_hd.drop 24).take 8)
def w44_3_1_j := tGet w44_3_1_s.jobKeys w44_3_1_part
def w44_3_1_shaped : Prop := w44_3_1_len % 64 = 0 ∧ 0 < w44_3_1_len ∧ w44_3_1_len ≤ 2 ^ 30 ∧ ∀ i ≤ (w44_3_1_len + 80) / 64, w44_3_1_s.sealedAddr (0 + 64 * i) = false
def w44_3_1_allowed : Prop := w44_3_1_j.key ≠ [] ∧ w44_3_1_target % 64 = 0 ∧ w44_3_1_s.loadInside w44_3_1_part w44_3_1_target w44_3_1_len = true ∧ ∀ c, w44_3_1_j.loadCnt = some c → c < w44_3_1_cnt

/-- The hypotheses of `Obligations.PartitionsAreSealedLoadedAndCleared`, clause by clause. -/
theorem test_partitions_are_sealed_loaded_and_cleared_met :
    (∃ (s : State) (m : Master) (n : Nat) (h : MHdr) (part : Nat) (mask : Nat) (ranges : List (Nat × Nat)) (tag : List Byte), (n < 32) ∧
        (s.Considers m n 0x103 h)) ∧
    (∃ (s : State) (p : Nat), ((s.sealOf p).st = 1)) ∧
    (∃ (s : State) (p : Nat), ((s.sealOf p).st ≠ 1)) ∧
    (∃ (s : State) (m : Master) (n : Nat) (h : MHdr) (addr : Nat), (n < 32) ∧ (s.Considers m n 0x104 h) ∧
        (gaSpace addr ≠ 0 ∨ gaChip addr ≠ s.chip ∨ s.sealedAddr addr = true)) ∧
    (∃ (s : State) (m : Master) (n : Nat) (h : MHdr) (addr : Nat), (n < 32) ∧ (s.Considers m n 0x104 h) ∧ ∃ p, p = ((s.mboxPost m n 0x104 h).1) ∧
        ∃ (u : State) (hd : List Byte), (gaSpace addr = 0) ∧ (gaChip addr = s.chip) ∧ (s.sealedAddr addr = false) ∧
        (p.readMem addr 64 none = (u, some hd))) ∧
    (∃ (s : State) (p : Nat), ((s.sealOf p).st = 3)) ∧
    (∃ (s : State) (p : Nat), ((s.sealOf p).st ≠ 3)) :=
  ⟨
    ⟨up, .mgmt, 16, { target := 1 }, 1, 1, [(0, 1)], [], ⟨by decide +kernel,
        ⟨⟨by decide +kernel, by unfold ownBox; decide +kernel, by unfold State.boxOpen; decide +kernel, by unfold State.boxIdle State.boxHolds; decide +kernel⟩,
        by decide +kernel, by decide +kernel, by decide +kernel, by decide +kernel, by decide +kernel, by decide +kernel, by decide +kernel⟩⟩⟩,
    ⟨{ up with seals := [(1, { st := 1 })] }, 1, by decide +kernel⟩,
    ⟨{ up with seals := [(1, { st := 2 })] }, 1, by decide +kernel⟩,
    ⟨up, .mgmt, 16, { target := 1 }, 2 ^ 44, ⟨by decide +kernel,
        ⟨⟨⟨by decide +kernel, by unfold ownBox; decide +kernel, by unfold State.boxOpen; decide +kernel, by unfold State.boxIdle State.boxHolds; decide +kernel⟩,
        by decide +kernel, by decide +kernel, by decide +kernel, by decide +kernel, by decide +kernel, by decide +kernel, by decide +kernel⟩,
        by decide +kernel⟩⟩⟩,
    ⟨w44_3_1_s, .mgmt, 16, w44_3_1_h, 0, ⟨by decide +kernel,
        ⟨⟨⟨by decide +kernel, by unfold ownBox; decide +kernel, by unfold State.boxOpen; decide +kernel, by unfold State.boxIdle State.boxHolds; decide +kernel⟩,
        by decide +kernel, by decide +kernel, by decide +kernel, by decide +kernel, by decide +kernel, by decide +kernel, by decide +kernel⟩,
        ⟨_, rfl, ⟨w44_3_1_u, w44_3_1_hd, ⟨by decide +kernel, ⟨by decide +kernel, ⟨by decide +kernel, by decide +kernel⟩⟩⟩⟩⟩⟩⟩⟩,
    ⟨{ up with seals := [(1, { st := 3 })] }, 1, by decide +kernel⟩,
    ⟨{ up with seals := [(1, { st := 2 })] }, 1, by decide +kernel⟩⟩

theorem tokenOk_of {s : State} {cmd : Nat} {t : Token}
    (h : (t.chip == s.chip && t.boot == s.fld .sec Sec.BOOT_CNT
      && (match s.sec.chal with
          | some (c, at_) => t.chal == c && decide (s.tick - at_ ≤ challengeLife)
          | none => false) && !(s.tokenKey cmd).isEmpty) = true)
    (v : Config.mlDsaVerify (s.tokenKey cmd) (shake256 (t.head cmd) 64) t.sig = true) : s.tokenOk cmd t = true := by
  unfold State.tokenOk
  exact (Bool.and_eq_true_iff ..).2 ⟨h, v⟩
/-- A challenge is out and a token that names it; whether its signature verifies is the algorithm's. -/
def asked : State := { up with sec := { chal := some ([5], 0) }, flash := { ownerKey := [1], debugKey := [2] } }
def token : Token := { chal := [5] }
def signed (cmd : Nat) : Prop := Config.mlDsaVerify (asked.tokenKey cmd) (shake256 (token.head cmd) 64) token.sig = true

def w45_1_0_h : MHdr := { target := 1 }
def w45_1_0_tok : Token := {}

/-- The hypotheses of `Obligations.TokensAreSpentAndObeyed`, clause by clause. -/
theorem test_tokens_are_spent_and_obeyed_met :
    (∃ (s : State) (m : Master) (n : Nat) (h : MHdr), (n < 32) ∧ (s.Considers m n 0x105 h)) ∧
    (∃ (s : State) (m : Master) (n : Nat) (h : MHdr) (tok : Token), (n < 32) ∧ (s.Considers m n 0x106 h) ∧ ∃ e, (e ∈ ([(.svnCommit m n h tok, 2),
        (.ownerSet m n h tok, 3), (.rma m n h tok, 5)] : List (Instr × Nat))) ∧ (s.tokenOk e.2 tok = false)) ∧
    (signed 2 →
      ∃ (s : State) (m : Master) (n : Nat) (h : MHdr) (tok : Token), (n < 32) ∧ (s.Considers m n 0x106 h) ∧ (s.tokenOk 2 tok = true)) ∧
    (signed 3 →
      ∃ (s : State) (m : Master) (n : Nat) (h : MHdr) (tok : Token), (n < 32) ∧ (s.Considers m n 0x106 h) ∧ (s.tokenOk 3 tok = true)) ∧
    (signed 5 →
      ∃ (s : State) (m : Master) (n : Nat) (h : MHdr) (tok : Token), (n < 32) ∧ (s.Considers m n 0x106 h) ∧ (s.tokenOk 5 tok = true)) ∧
    (∃ (s : State) (m : Master) (n : Nat) (h : MHdr) (tok : Token), (n < 32) ∧ (s.Considers m n 0x106 h) ∧ (∃ e ∈ s.seals, e.2.closed = true)) ∧
    (∃ (s : State) (m : Master) (n : Nat) (h : MHdr) (tok : Token), (n < 32) ∧ (s.Considers m n 0x106 h) ∧ (∀ e ∈ s.seals, e.2.closed = false)) ∧
    (∃ (s : State) (m : Master) (n : Nat) (h : MHdr) (key : List Byte), (n < 32) ∧ (s.Considers m n 0x107 h)) ∧
    (signed 4 →
      ∃ (s : State) (cmd : Nat) (tok : Token), (s.tokenOk cmd tok = true)) :=
  ⟨
    ⟨up, .mgmt, 16, { target := 1 }, ⟨by decide +kernel,
        ⟨⟨by decide +kernel, by unfold ownBox; decide +kernel, by unfold State.boxOpen; decide +kernel, by unfold State.boxIdle State.boxHolds; decide +kernel⟩,
        by decide +kernel, by decide +kernel, by decide +kernel, by decide +kernel, by decide +kernel, by decide +kernel, by decide +kernel⟩⟩⟩,
    ⟨up, .mgmt, 16, w45_1_0_h, w45_1_0_tok, ⟨by decide +kernel,
        ⟨⟨⟨by decide +kernel, by unfold ownBox; decide +kernel, by unfold State.boxOpen; decide +kernel, by unfold State.boxIdle State.boxHolds; decide +kernel⟩,
        by decide +kernel, by decide +kernel, by decide +kernel, by decide +kernel, by decide +kernel, by decide +kernel, by decide +kernel⟩,
        ⟨((Instr.rma .mgmt 16 w45_1_0_h w45_1_0_tok, 5) : Instr × Nat), ⟨.tail _ (.tail _ (.head _)), by decide +kernel⟩⟩⟩⟩⟩,
    fun hv => ⟨asked, .mgmt, 16, { target := 1 }, token, ⟨by decide +kernel,
        ⟨⟨⟨by decide +kernel, by unfold ownBox; decide +kernel, by unfold State.boxOpen; decide +kernel, by unfold State.boxIdle State.boxHolds; decide +kernel⟩,
        by decide +kernel, by decide +kernel, by decide +kernel, by decide +kernel, by decide +kernel, by decide +kernel,
        by decide +kernel⟩, tokenOk_of (by decide +kernel) hv⟩⟩⟩,
    fun hv => ⟨asked, .mgmt, 16, { target := 1 }, token, ⟨by decide +kernel,
        ⟨⟨⟨by decide +kernel, by unfold ownBox; decide +kernel, by unfold State.boxOpen; decide +kernel, by unfold State.boxIdle State.boxHolds; decide +kernel⟩,
        by decide +kernel, by decide +kernel, by decide +kernel, by decide +kernel, by decide +kernel, by decide +kernel,
        by decide +kernel⟩, tokenOk_of (by decide +kernel) hv⟩⟩⟩,
    fun hv => ⟨asked, .mgmt, 16, { target := 1 }, token, ⟨by decide +kernel,
        ⟨⟨⟨by decide +kernel, by unfold ownBox; decide +kernel, by unfold State.boxOpen; decide +kernel, by unfold State.boxIdle State.boxHolds; decide +kernel⟩,
        by decide +kernel, by decide +kernel, by decide +kernel, by decide +kernel, by decide +kernel, by decide +kernel,
        by decide +kernel⟩, tokenOk_of (by decide +kernel) hv⟩⟩⟩,
    ⟨{ up with seals := [(1, { st := 2 })] }, .mgmt, 16, { target := 1 }, {}, ⟨by decide +kernel,
        ⟨⟨⟨by decide +kernel, by unfold ownBox; decide +kernel, by unfold State.boxOpen; decide +kernel, by unfold State.boxIdle State.boxHolds; decide +kernel⟩,
        by decide +kernel, by decide +kernel, by decide +kernel, by decide +kernel, by decide +kernel, by decide +kernel, by decide +kernel⟩,
        by decide +kernel⟩⟩⟩,
    ⟨up, .mgmt, 16, { target := 1 }, {}, ⟨by decide +kernel,
        ⟨⟨⟨by decide +kernel, by unfold ownBox; decide +kernel, by unfold State.boxOpen; decide +kernel, by unfold State.boxIdle State.boxHolds; decide +kernel⟩,
        by decide +kernel, by decide +kernel, by decide +kernel, by decide +kernel, by decide +kernel, by decide +kernel, by decide +kernel⟩,
        by decide +kernel⟩⟩⟩,
    ⟨up, .mgmt, 16, { target := 1 }, [1], ⟨by decide +kernel,
        ⟨⟨by decide +kernel, by unfold ownBox; decide +kernel, by unfold State.boxOpen; decide +kernel, by unfold State.boxIdle State.boxHolds; decide +kernel⟩,
        by decide +kernel, by decide +kernel, by decide +kernel, by decide +kernel, by decide +kernel, by decide +kernel, by decide +kernel⟩⟩⟩,
    fun hv => ⟨asked, 4, token, tokenOk_of (by decide +kernel) hv⟩⟩

/-- The hypotheses of `Obligations.ModuleComesAndGoes`, clause by clause. -/
theorem test_module_comes_and_goes_met :
    (∃ (s : State), (s.mod_.stby = true)) ∧
    (∃ (s : State), (s.mod_.stby = false)) ∧
    (∃ (s : State), (s.mod_.mem = true) ∧ (s.flag (.mc 0) Mc.MC_STATUS_READY = false) ∧ (s.failed = false)) ∧
    (∃ (s : State), (s.mod_.mem = false ∨ s.flag (.mc 0) Mc.MC_STATUS_READY = true)) ∧
    (∃ (s : State) (mv : Nat), (s.mod_.stby = true)) ∧
    (∃ (s : State) (mv : Nat), (s.mod_.stby = true)) ∧
    (∃ (s : State) (mv : Nat), (s.mod_.stby = true) ∧ (mv < 36000 ∨ 62000 < mv)) ∧
    (∃ (s : State) (mv : Nat), (s.mod_.stby = true) ∧ (40000 ≤ mv) ∧ (mv ≤ 60000)) ∧
    (∃ (s : State) (mv : Nat), (s.mod_.stby = true) ∧ (36000 ≤ mv) ∧ (mv < 40000 ∨ 60000 < mv) ∧ (mv ≤ 62000)) ∧
    (∃ (s : State) (mv : Nat), (s.mod_.stby = false)) ∧
    (∃ (s : State) (m : Master) (v : Word), (s.MayWrite m .glb)) ∧
    (∃ (s : State), (s.mod_.stby = true) ∧ (s.mod_.removeReq = false)) ∧
    (∃ (s : State), (s.mod_.stby = true) ∧ (s.mod_.removeReq = true)) ∧
    (∃ (s : State), (s.mod_.stby = true)) ∧
    (∃ (s : State) (m : Master), (s.MayWrite m .glb) ∧ (s.mod_.removeReq = false)) ∧
    (∃ (s : State) (m : Master), (s.MayWrite m .glb) ∧ (s.mod_.removeReq = true)) ∧
    (∃ (s : State) (m : Master), (s.MayWrite m .glb) ∧ (s.modState = 3) ∧ (s.mod_.latchOpen = false)) ∧
    (∃ (s : State) (m : Master), (s.MayWrite m .glb) ∧ (s.modState ≠ 3 ∨ s.mod_.latchOpen = true)) ∧
    (∃ (s : State), (s.modState = 3) ∧ (s.partsHeld = []) ∧ (1000 ≤ s.mod_.idleTransit)) ∧
    (∃ (s : State), (s.modState ≠ 3 ∨ s.partsHeld ≠ [] ∨ s.mod_.idleTransit < 1000)) :=
  ⟨
    ⟨up, by decide +kernel⟩,
    ⟨State.reset, by decide +kernel⟩,
    ⟨up, ⟨by decide +kernel, ⟨by decide +kernel, by decide +kernel⟩⟩⟩,
    ⟨State.reset, by decide +kernel⟩,
    ⟨up, 0, by decide +kernel⟩,
    ⟨up, 0, by decide +kernel⟩,
    ⟨up, 35999, ⟨by decide +kernel, by decide +kernel⟩⟩,
    ⟨up, 40000, ⟨by decide +kernel, ⟨by decide +kernel, by decide +kernel⟩⟩⟩,
    ⟨up, 62000, ⟨by decide +kernel, ⟨by decide +kernel, ⟨by decide +kernel, by decide +kernel⟩⟩⟩⟩,
    ⟨State.reset, 48000, by decide +kernel⟩,
    ⟨own .glb up, .host, 7, by unfold State.MayWrite; decide +kernel⟩,
    ⟨{ up with mod_ := { stby := true, removeReq := false, latchOpen := false } }, ⟨by decide +kernel, by decide +kernel⟩⟩,
    ⟨{ up with mod_ := { stby := true, removeReq := true, latchOpen := true } }, ⟨by decide +kernel, by decide +kernel⟩⟩,
    ⟨up, by decide +kernel⟩,
    ⟨own .glb up, .host, ⟨by unfold State.MayWrite; decide +kernel, by decide +kernel⟩⟩,
    ⟨{ own .glb up with mod_ := { stby := true, removeReq := true, latchOpen := false } }, .host, ⟨by unfold State.MayWrite; decide +kernel,
        by decide +kernel⟩⟩,
    ⟨put .glb [(Glb.MOD_STATE, 3)] (own .glb up), .host, ⟨by unfold State.MayWrite; decide +kernel, ⟨by decide +kernel, by decide +kernel⟩⟩⟩,
    ⟨{ put .glb [(Glb.MOD_STATE, 3)] (own .glb up) with mod_ := { stby := true, removeReq := true, latchOpen := true } }, .host,
        ⟨by unfold State.MayWrite; decide +kernel, by decide +kernel⟩⟩,
    ⟨{ put .glb [(Glb.MOD_STATE, 3)] (own .glb up) with mod_ := { idleTransit := 1000 } }, ⟨by decide +kernel, ⟨by decide +kernel, by decide +kernel⟩⟩⟩,
    ⟨{ put .glb [(Glb.MOD_STATE, 3)] (own .glb up) with mod_ := { idleTransit := 999 } }, by decide +kernel⟩⟩

/-- The hypotheses of `Obligations.PowerAndHeatAreHeld`, clause by clause. -/
theorem test_power_and_heat_are_held_met :
    (∃ (s : State) (w10 : Nat) (w1s : Nat), (s.mod_.stby = true) ∧
        ∃ (past : Prop), past = (min 2600 (s.fld .pwr Pwr.CAP_EFF + 200) < w10 ∨ s.fld .pwr Pwr.CAP_EFF < w1s) ∧ (past ↔ s.mod_.capHold = true)) ∧
    (∃ (s : State) (w10 : Nat) (w1s : Nat), (s.mod_.stby = true) ∧
        ∃ (past : Prop), past = (min 2600 (s.fld .pwr Pwr.CAP_EFF + 200) < w10 ∨ s.fld .pwr Pwr.CAP_EFF < w1s) ∧ (¬ (past ↔ s.mod_.capHold = true))) ∧
    (∃ (s : State) (k : Nat) (v : Int) (p : Int), (s.mod_.stby = true) ∧ (throttlePoint k = some p)) ∧
    (∃ (s : State), (s.mod_.stby = true) ∧ (s.mod_.capTicks < 1000)) ∧
    (∃ (s : State), (s.mod_.stby = true) ∧ (1000 ≤ s.mod_.capTicks)) ∧
    (∃ (s : State) (k : Nat) (v : Int), (s.mod_.stby = true) ∧ (tripAt k v = true) ∧ ∃ e, (e < 3) ∧ (k = 14 + e)) ∧
    (∃ (s : State) (k : Nat) (v : Int), (s.mod_.stby = true) ∧ (tripAt k v = true) ∧ (k = 17 ∨ k = 20)) ∧
    (∃ (s : State) (k : Nat) (v : Int), (s.mod_.stby = true) ∧ (tripAt k v = true) ∧ (k ≤ 13 ∨ k = 18 ∨ k = 21) ∧ (s.failed = false)) ∧
    (∃ (s : State) (k : Nat) (v : Int), (tripAt k v = false)) :=
  ⟨
    ⟨up, 2600, 2400, ⟨by decide +kernel, ⟨_, rfl, by decide +kernel⟩⟩⟩,
    ⟨up, 2601, 2400, ⟨by decide +kernel, ⟨_, rfl, by decide +kernel⟩⟩⟩,
    ⟨up, 13, 950, 950, ⟨by decide +kernel, by decide +kernel⟩⟩,
    ⟨{ up with mod_ := { stby := true, capTicks := 999 } }, ⟨by decide +kernel, by decide +kernel⟩⟩,
    ⟨{ up with mod_ := { stby := true, capTicks := 1000 } }, ⟨by decide +kernel, by decide +kernel⟩⟩,
    ⟨up, 16, 1050, ⟨by decide +kernel, ⟨by decide +kernel, ⟨2, ⟨by decide +kernel, by decide +kernel⟩⟩⟩⟩⟩,
    ⟨up, 20, 1250, ⟨by decide +kernel, ⟨by decide +kernel, by decide +kernel⟩⟩⟩,
    ⟨up, 21, 149, ⟨by decide +kernel, ⟨by decide +kernel, ⟨by decide +kernel, by decide +kernel⟩⟩⟩⟩,
    ⟨up, 21, 150, by decide +kernel⟩⟩

/-- The hypotheses of `Obligations.SemaphoresPassBetweenTheMasters`, clause by clause. -/
theorem test_semaphores_pass_between_the_masters_met :
    (∃ (s : State) (pg : Page) (m : Master), (s.answers pg = true) ∧ (Page.ofBase pg.base = some pg) ∧ (s.semOwner pg = 0)) ∧
    (∃ (s : State) (pg : Page) (m : Master), (s.answers pg = true) ∧ (Page.ofBase pg.base = some pg) ∧ (s.semOwner pg = m.code)) ∧
    (∃ (s : State) (pg : Page) (m : Master), (s.answers pg = true) ∧ (Page.ofBase pg.base = some pg) ∧
        ∃ (lease : Prop), lease = ((s.semOwner pg = 1 ∨ s.semOwner pg = 2) ∧ tGet s.semTick pg.base + s.fld .glb Glb.SEM_LEASE ≤ s.tick) ∧
        (s.semOwner pg ≠ 0) ∧ (s.semOwner pg ≠ m.code) ∧ (¬ lease)) ∧
    (∃ (s : State) (pg : Page) (m : Master), (s.answers pg = true) ∧ (Page.ofBase pg.base = some pg) ∧
        ∃ (lease : Prop), lease = ((s.semOwner pg = 1 ∨ s.semOwner pg = 2) ∧ tGet s.semTick pg.base + s.fld .glb Glb.SEM_LEASE ≤ s.tick) ∧
        (s.semOwner pg ≠ m.code) ∧ (lease)) ∧
    (∃ (s : State) (pg : Page) (m : Master), (s.answers pg = true) ∧ (Page.ofBase pg.base = some pg) ∧ (s.semOwner pg = m.code)) ∧
    (∃ (s : State) (pg : Page) (m : Master), (s.answers pg = true) ∧ (Page.ofBase pg.base = some pg) ∧ (s.semOwner pg ≠ m.code)) ∧
    (∃ (s : State) (pg : Page) (m : Master), (s.answers pg = true) ∧ (Page.ofBase pg.base = some pg) ∧ ∃ (v : DWord), True) ∧
    (∃ (s : State) (pg : Page) (m : Master), (s.answers pg = true) ∧ (Page.ofBase pg.base = some pg) ∧ (s.semOwner pg = 0) ∧ (0 < s.fld .glb Glb.SEM_LEASE)) ∧
    (∃ (s : State) (pg : Page) (m : Master), (s.answers pg = true) ∧ (Page.ofBase pg.base = some pg) ∧ (s.semOwner pg = 0) ∧
        (0 < s.fld .glb Glb.SEM_LEASE) ∧ (m ≠ .fw)) :=
  ⟨
    ⟨up, .fab, .mgmt, ⟨by decide +kernel, ⟨by decide +kernel, by decide +kernel⟩⟩⟩,
    ⟨own .fab up, .fab, .host, ⟨by decide +kernel, ⟨by decide +kernel, by decide +kernel⟩⟩⟩,
    ⟨own .fab up, .fab, .mgmt, ⟨by decide +kernel, ⟨by decide +kernel, ⟨_, rfl, ⟨by decide +kernel, ⟨by decide +kernel, by decide +kernel⟩⟩⟩⟩⟩⟩,
    ⟨now 1000000 (own .fab up), .fab, .mgmt, ⟨by decide +kernel, ⟨by decide +kernel, ⟨_, rfl, ⟨by decide +kernel, by decide +kernel⟩⟩⟩⟩⟩,
    ⟨own .fab up, .fab, .host, ⟨by decide +kernel, ⟨by decide +kernel, by decide +kernel⟩⟩⟩,
    ⟨own .fab up, .fab, .mgmt, ⟨by decide +kernel, ⟨by decide +kernel, by decide +kernel⟩⟩⟩,
    ⟨up, .fab, .mgmt, ⟨by decide +kernel, ⟨by decide +kernel, ⟨0, trivial⟩⟩⟩⟩,
    ⟨up, .fab, .mgmt, ⟨by decide +kernel, ⟨by decide +kernel, ⟨by decide +kernel, by decide +kernel⟩⟩⟩⟩,
    ⟨up, .fab, .mgmt, ⟨by decide +kernel, ⟨by decide +kernel, ⟨by decide +kernel, ⟨by decide +kernel, by decide +kernel⟩⟩⟩⟩⟩⟩

/-- The hypotheses of `Obligations.RegistersAreWrittenUnderTheirSemaphore`, clause by clause. -/
theorem test_registers_are_written_under_their_semaphore_met :
    (∃ (s : State) (m : Master) (off : Nat) (v : DWord) (pg : Page), (s.answers pg = true) ∧ (Page.ofBase pg.base = some pg) ∧ (off < 4096) ∧
        (off % 4 = 0) ∧ (off ≠ 0xC) ∧ (pg.writable off = true) ∧ (msixTable (pg.base + off) = false) ∧ (msixPba (pg.base + off) = false) ∧
        (s.semOwner pg ≠ m.code)) ∧
    (∃ (s : State) (m : Master) (off : Nat) (v : DWord) (pg : Page), (s.MayWrite m pg) ∧ (Page.ofBase pg.base = some pg) ∧ (off < 4096) ∧
        (off % 4 = 0) ∧ (pg.writable off = false) ∧ (off ≠ 0xC) ∧ (msixTable (pg.base + off) = false) ∧ (msixPba (pg.base + off) = false)) ∧
    (∃ (s : State) (m : Master) (v : DWord) (pg : Page), (s.MayWrite m pg) ∧ (Page.ofBase pg.base = some pg) ∧ (msixTable pg.base = false) ∧
        (msixPba pg.base = false)) ∧
    (∃ (s : State) (m : Master) (v : DWord) (pg : Page), (s.MayWrite m pg) ∧ (Page.ofBase pg.base = some pg) ∧ (msixTable pg.base = false) ∧
        (msixPba pg.base = false)) ∧
    (∃ (s : State) (m : Master) (v : DWord) (pg : Page), (s.MayWrite m pg) ∧ (Page.ofBase pg.base = some pg) ∧ (msixTable pg.base = false) ∧
        (msixPba pg.base = false)) ∧
    (∃ (s : State) (m : Master) (v : DWord), (s.MayWrite m .glb) ∧ ∃ w, w = (v.toNat % 2 ^ 32) ∧ (10000 ≤ w) ∧ (w ≤ 100000000)) ∧
    (∃ (s : State) (m : Master) (v : DWord), (s.MayWrite m .glb) ∧ ∃ w, w = (v.toNat % 2 ^ 32) ∧ (w < 10000 ∨ 100000000 < w)) ∧
    (∃ (s : State) (m : Master) (off : Nat) (v : DWord), (s.mod_.stby = true) ∧ (off % 8 = 0)) ∧
    (∃ (s : State) (m : Master) (off : Nat) (size : Nat) (v : DWord), (s.mod_.stby = true) ∧
        ((size ≠ 4 ∧ size ≠ 8 ∨ off % size ≠ 0) ∨ size = 4 ∧ Page.ofBase (off / 4096 * 4096) = none ∧ msixTable off = false ∧ msixPba off = false)) ∧
    (∃ (s : State) (m : Master) (pg : Page) (off : Nat) (v : Word), (s.MayWrite m pg) ∧ (Page.ofBase pg.base = some pg) ∧ (off ∈ pg.ctrClrOffs)) ∧
    (∃ (s : State) (pg : Page) (off : Nat) (q : Page) (a : Nat) (b : Nat), (Page.ofBase pg.base = some pg) ∧ (q ∈ pg.clears) ∧ (a ∈ q.counters) ∧
        (q ≠ .fp) ∧ (∀ e, q ≠ .rng e)) ∧
    (∃ (s : State) (m : Master) (pg : Page) (off : Nat) (v : Word), (Page.ofBase pg.base = some pg) ∧ (off ∉ pg.ctrClrOffs)) :=
  ⟨
    ⟨up, .host, 0x1C, 0, .rt, ⟨by decide +kernel, ⟨by decide +kernel, ⟨by decide +kernel, ⟨by decide +kernel, ⟨by decide +kernel, ⟨by decide +kernel,
        ⟨by decide +kernel, ⟨by decide +kernel, by decide +kernel⟩⟩⟩⟩⟩⟩⟩⟩⟩,
    ⟨own .rt up, .host, 0xFFC, 0, .rt, ⟨by unfold State.MayWrite; decide +kernel, ⟨by decide +kernel, ⟨by decide +kernel, ⟨by decide +kernel,
        ⟨by decide +kernel, ⟨by decide +kernel, ⟨by decide +kernel, by decide +kernel⟩⟩⟩⟩⟩⟩⟩⟩,
    ⟨own .fab up, .host, 0xFFFFFFFF, .fab, ⟨by unfold State.MayWrite; decide +kernel, ⟨by decide +kernel, ⟨by decide +kernel, by decide +kernel⟩⟩⟩⟩,
    ⟨own .fab up, .host, 0xFFFFFFFF, .fab, ⟨by unfold State.MayWrite; decide +kernel, ⟨by decide +kernel, ⟨by decide +kernel, by decide +kernel⟩⟩⟩⟩,
    ⟨own .fab up, .host, 0xFFFFFFFF, .fab, ⟨by unfold State.MayWrite; decide +kernel, ⟨by decide +kernel, ⟨by decide +kernel, by decide +kernel⟩⟩⟩⟩,
    ⟨own .glb up, .host, 10000, ⟨by unfold State.MayWrite; decide +kernel, ⟨_, rfl, ⟨by decide +kernel, by decide +kernel⟩⟩⟩⟩,
    ⟨own .glb up, .host, 9999, ⟨by unfold State.MayWrite; decide +kernel, ⟨_, rfl, by decide +kernel⟩⟩⟩,
    ⟨up, .host, 8, 0, ⟨by decide +kernel, by decide +kernel⟩⟩,
    ⟨up, .host, 2, 4, 0, ⟨by decide +kernel, by decide +kernel⟩⟩,
    ⟨own .rt up, .host, .rt, 0x148, 1, ⟨by unfold State.MayWrite; decide +kernel, ⟨by decide +kernel, by decide +kernel⟩⟩⟩,
    ⟨up, .lnk 31, 0x134, .lan 31, 0x120, 0, ⟨by decide +kernel, ⟨by decide +kernel, ⟨by decide +kernel, ⟨by decide +kernel, fun e h => Page.noConfusion h⟩⟩⟩⟩⟩,
    ⟨up, .host, .rt, 0x144, 1, ⟨by decide +kernel, by decide +kernel⟩⟩⟩

def w50_1_s : State := put .hst [(Pci.PCIE_STATUS, 1)] up
def w50_4_4_s : State := put .hst [(Pci.PCIE_STATUS, 1)] (edesk up)
def w50_4_4_data : List Byte := []
def w50_4_4_a := w50_4_4_s.chip * 2 ^ 48 + w50_4_4_s.fld .hst (Pci.BAR2_SEL.sub 11 8) * 2 ^ 44 + w50_4_4_s.fld .hst (Pci.BAR2_SEL.sub 7 0) * 2 ^ 36 + 0 % 2 ^ 36
def w50_4_4_k : Nat := (((w50_4_4_s.edMap (gaOff w50_4_4_a)).getD default)).1
def w50_4_4_l := (((w50_4_4_s.edMap (gaOff w50_4_4_a)).getD default)).2
def w50_4_5_s : State := put .hst [(Pci.PCIE_STATUS, 1)] (edesk up)
def w50_4_5_data : List Byte := List.replicate 64 7
def w50_4_5_a := w50_4_5_s.chip * 2 ^ 48 + w50_4_5_s.fld .hst (Pci.BAR2_SEL.sub 11 8) * 2 ^ 44 + w50_4_5_s.fld .hst (Pci.BAR2_SEL.sub 7 0) * 2 ^ 36 + 0 % 2 ^ 36
def w50_4_5_k : Nat := (((w50_4_5_s.edMap (gaOff w50_4_5_a)).getD default)).1
def w50_4_5_l := (((w50_4_5_s.edMap (gaOff w50_4_5_a)).getD default)).2

/-- The hypotheses of `Obligations.TheHostMeetsTheDevice`, clause by clause. -/
theorem test_the_host_meets_the_device_met :
    (∃ (s : State) (gen : Nat) (width : Nat) (flit : Bool), (s.mod_.stby = true) ∧
        ∃ new, new = (1 + gen % 8 * 2 + width % 32 * 16 + (if flit then 512 else 0)) ∧ (new = s.fld .hst Pci.PCIE_STATUS)) ∧
    (∃ (s : State) (gen : Nat) (width : Nat) (flit : Bool), (s.mod_.stby = true) ∧
        ∃ new, new = (1 + gen % 8 * 2 + width % 32 * 16 + (if flit then 512 else 0)) ∧ (new ≠ s.fld .hst Pci.PCIE_STATUS)) ∧
    (∃ (s : State), (s.mod_.stby = true) ∧ (s.pcieUp = true) ∧ ∃ c, (c ∈ [Instr.flr, .pcieLinkLoss])) ∧
    (∃ (s : State), (s.pcieUp = false)) ∧
    (∃ (s : State) (m : Master) (v : Word), (s.MayWrite m .hst) ∧ (bitsOf v.toNat 11 8 ≤ 1)) ∧
    (∃ (s : State) (m : Master) (v : Word), (s.MayWrite m .hst) ∧ (1 < bitsOf v.toNat 11 8)) ∧
    (∃ (s : State) (off : Nat) (n : Nat) (data : List Byte), (s.mod_.stby = true) ∧ (s.pcieUp = true) ∧
        ∃ a, a = (s.chip * 2 ^ 48 + s.fld .hst (Pci.BAR2_SEL.sub 11 8) * 2 ^ 44 + s.fld .hst (Pci.BAR2_SEL.sub 7 0) * 2 ^ 36 + off % 2 ^ 36) ∧
        (s.rangeClosed a n = true)) ∧
    (∃ (s : State) (off : Nat) (n : Nat) (data : List Byte), (s.mod_.stby = true) ∧ (s.pcieUp = true) ∧
        ∃ a, a = (s.chip * 2 ^ 48 + s.fld .hst (Pci.BAR2_SEL.sub 11 8) * 2 ^ 44 + s.fld .hst (Pci.BAR2_SEL.sub 7 0) * 2 ^ 36 + off % 2 ^ 36) ∧
        (s.rangeClosed a data.length = true)) ∧
    (∃ (s : State) (off : Nat) (n : Nat) (data : List Byte), (s.mod_.stby = true) ∧ (s.pcieUp = true) ∧
        ∃ a, a = (s.chip * 2 ^ 48 + s.fld .hst (Pci.BAR2_SEL.sub 11 8) * 2 ^ 44 + s.fld .hst (Pci.BAR2_SEL.sub 7 0) * 2 ^ 36 + off % 2 ^ 36) ∧
        (gaSpace a = 1) ∧ (s.rangeClosed a n = false) ∧ ((∀ i < n, s.sramLoc (gaOff a + i) = some (sramKey (gaOff a + i)))) ∧
        (s.sramOk (gaOff a) n = true)) ∧
    (∃ (s : State) (off : Nat) (n : Nat) (data : List Byte), (s.mod_.stby = true) ∧ (s.pcieUp = true) ∧
        ∃ a, a = (s.chip * 2 ^ 48 + s.fld .hst (Pci.BAR2_SEL.sub 11 8) * 2 ^ 44 + s.fld .hst (Pci.BAR2_SEL.sub 7 0) * 2 ^ 36 + off % 2 ^ 36) ∧
        (gaSpace a = 1) ∧ (s.rangeClosed a data.length = false) ∧ ((∀ i < data.length, s.sramLoc (gaOff a + i) = some (sramKey (gaOff a + i))))) ∧
    (∃ (s : State) (off : Nat) (n : Nat) (data : List Byte), (s.mod_.stby = true) ∧ (s.pcieUp = true) ∧
        ∃ a, a = (s.chip * 2 ^ 48 + s.fld .hst (Pci.BAR2_SEL.sub 11 8) * 2 ^ 44 + s.fld .hst (Pci.BAR2_SEL.sub 7 0) * 2 ^ 36 + off % 2 ^ 36) ∧
        ∃ (k : Nat) (l : _), (gaSpace a = 0) ∧ (s.rangeClosed a 64 = false) ∧ (gaOff a % 64 = 0) ∧ (s.edMap (gaOff a) = some (k, l)) ∧
        (s.stackUp k = true) ∧ ((s.stk k).holds l = false) ∧ ((s.lineMeta k l).unwritten = false) ∧ (s.lineFails k l = false)) ∧
    (∃ (s : State) (off : Nat) (n : Nat) (data : List Byte), (s.mod_.stby = true) ∧ (s.pcieUp = true) ∧
        ∃ a, a = (s.chip * 2 ^ 48 + s.fld .hst (Pci.BAR2_SEL.sub 11 8) * 2 ^ 44 + s.fld .hst (Pci.BAR2_SEL.sub 7 0) * 2 ^ 36 + off % 2 ^ 36) ∧
        ∃ (k : Nat) (l : _), (gaSpace a = 0) ∧ (s.rangeClosed a 64 = false) ∧ (gaOff a % 64 = 0) ∧ (data.length = 64) ∧
        (s.edMap (gaOff a) = some (k, l)) ∧ (s.stackUp k = true) ∧ ((s.stk k).holds l = false) ∧ (s.unitSt k (l / 4096) ≠ 1)) :=
  ⟨
    ⟨put .hst [(Pci.PCIE_STATUS, 267)] up, 5, 16, false, ⟨by decide +kernel, ⟨_, rfl, by decide +kernel⟩⟩⟩,
    ⟨up, 5, 16, false, ⟨by decide +kernel, ⟨_, rfl, by decide +kernel⟩⟩⟩,
    ⟨w50_1_s, ⟨by decide +kernel, ⟨by decide +kernel, ⟨(Instr.pcieLinkLoss), .tail _ (.head _)⟩⟩⟩⟩,
    ⟨up, by decide +kernel⟩,
    ⟨own .hst up, .host, 0x1FF, ⟨by unfold State.MayWrite; decide +kernel, by decide +kernel⟩⟩,
    ⟨own .hst up, .host, 0x200, ⟨by unfold State.MayWrite; decide +kernel, by decide +kernel⟩⟩,
    ⟨{ put .hst [(Pci.PCIE_STATUS, 1), (Pci.BAR2_SEL, 0x100)] up with seals := [(1, { st := 2 })] }, 0x1000, 4, [], ⟨by decide +kernel,
        ⟨by decide +kernel, ⟨_, rfl, by decide +kernel⟩⟩⟩⟩,
    ⟨{ put .hst [(Pci.PCIE_STATUS, 1), (Pci.BAR2_SEL, 0x100)] up with seals := [(1, { st := 2 })] }, 0x1000, 4, [7], ⟨by decide +kernel,
        ⟨by decide +kernel, ⟨_, rfl, by decide +kernel⟩⟩⟩⟩,
    ⟨put .hst [(Pci.PCIE_STATUS, 1), (Pci.BAR2_SEL, 0x100)] up, 0x1000, 4, [], ⟨by decide +kernel, ⟨by decide +kernel, ⟨_, rfl, ⟨by decide +kernel,
        ⟨by decide +kernel, ⟨by decide +kernel, by decide +kernel⟩⟩⟩⟩⟩⟩⟩,
    ⟨put .hst [(Pci.PCIE_STATUS, 1), (Pci.BAR2_SEL, 0x100)] up, 0x1000, 0, [7, 8], ⟨by decide +kernel, ⟨by decide +kernel, ⟨_, rfl,
        ⟨by decide +kernel, ⟨by decide +kernel, by decide +kernel⟩⟩⟩⟩⟩⟩,
    ⟨w50_4_4_s, 0, 64, w50_4_4_data, ⟨by decide +kernel, ⟨by decide +kernel, ⟨_, rfl, ⟨w50_4_4_k, w50_4_4_l, ⟨by decide +kernel, ⟨by decide +kernel,
        ⟨by decide +kernel, ⟨by decide +kernel, ⟨by decide +kernel, ⟨by decide +kernel, ⟨by decide +kernel, by decide +kernel⟩⟩⟩⟩⟩⟩⟩⟩⟩⟩⟩⟩,
    ⟨w50_4_5_s, 0, 64, w50_4_5_data, ⟨by decide +kernel, ⟨by decide +kernel, ⟨_, rfl, ⟨w50_4_5_k, w50_4_5_l, ⟨by decide +kernel, ⟨by decide +kernel,
        ⟨by decide +kernel, ⟨by decide +kernel, ⟨by decide +kernel, ⟨by decide +kernel, ⟨by decide +kernel, by decide +kernel⟩⟩⟩⟩⟩⟩⟩⟩⟩⟩⟩⟩⟩

def w51_0_0_h : MgHdr := {}
def w51_0_0_data : List Byte := [7]
def w51_0_1_s : State := put .mgt [(Mgt.MGT_STATUS, 3)] up
def w51_0_1_h : MgHdr := { port := 1, major := 2 }
def w51_0_1_data : List Byte := [7]
def w51_0_2_s : State := put .mgt [(Mgt.MGT_STATUS, 3)] up
def w51_0_2_h : MgHdr := { port := 1, e := true, bytes := some [] }
def w51_0_2_data : List Byte := [7]
def w51_2_0_s : State := put .mgt [(Mgt.MGT_STATUS, 3)] up
def w51_2_0_h : MgHdr := { session := 8 }
def w51_2_0_data : List Byte := [7]
def w51_2_0_x := w51_2_0_s.session w51_2_0_h.session
def w51_2_0_known : Prop := 1 ≤ w51_2_0_h.session ∧ w51_2_0_h.session ≤ 8 ∧ w51_2_0_x.open_ = true
def w51_2_1_s : State := { put .mgt [(Mgt.MGT_STATUS, 3)] up with sess := [(8, { open_ := true, next := 3, cache := [(2, 0, 0, [])] })] }
def w51_2_1_h : MgHdr := { session := 8, seq := 2 }
def w51_2_1_data : List Byte := [7]
def w51_2_1_x := w51_2_1_s.session w51_2_1_h.session
def w51_2_1_known : Prop := 1 ≤ w51_2_1_h.session ∧ w51_2_1_h.session ≤ 8 ∧ w51_2_1_x.open_ = true
def w51_2_1_e : Nat × Nat × Nat × List Byte := (2, 0, 0, [])
def w51_2_2_s : State := { put .mgt [(Mgt.MGT_STATUS, 3)] up with sess := [(8, { open_ := true, next := 3 })] }
def w51_2_2_h : MgHdr := { session := 8, seq := 4 }
def w51_2_2_data : List Byte := [7]
def w51_2_2_x := w51_2_2_s.session w51_2_2_h.session
def w51_2_2_known : Prop := 1 ≤ w51_2_2_h.session ∧ w51_2_2_h.session ≤ 8 ∧ w51_2_2_x.open_ = true

/-- The hypotheses of `Obligations.SessionsRunTheirRequestsInOrder`, clause by clause. -/
theorem test_sessions_run_their_requests_in_order_met :
    (∃ (s : State) (h : MgHdr) (space : Nat) (a : Nat) (n : Nat) (data : List Byte), (s.mgUp h.port = false) ∧ ∃ c, (c ∈ [Instr.mgmtRead h space a n,
        .mgmtWrite h space a data, .sessionOpen h, .sessionClose h, .keepalive h])) ∧
    (∃ (s : State) (h : MgHdr) (space : Nat) (a : Nat) (n : Nat) (data : List Byte), (s.mgUp h.port = true) ∧ (h.major ≠ 1) ∧
        ∃ c, (c ∈ [Instr.mgmtRead h space a n, .mgmtWrite h space a data, .sessionOpen h, .sessionClose h, .keepalive h])) ∧
    (∃ (s : State) (h : MgHdr) (space : Nat) (a : Nat) (n : Nat) (data : List Byte), (s.mgUp h.port = true) ∧ (h.major = 1) ∧ (h.e = true) ∧
        (s.mgTagOk h = false) ∧ ∃ c, (c ∈ [Instr.mgmtRead h space a n, .mgmtWrite h space a data, .sessionOpen h, .sessionClose h, .keepalive h])) ∧
    (∃ (s : State) (h : MgHdr), (s.mgUp h.port = true) ∧ (s.frameFault h false = none)) ∧
    (∃ (s : State) (h : MgHdr) (space : Nat) (a : Nat) (n : Nat) (data : List Byte), (s.mgUp h.port = true) ∧ (s.frameFault h false = none) ∧
        ∃ x, x = (s.session h.session) ∧ ∃ (known : Prop), known = (1 ≤ h.session ∧ h.session ≤ 8 ∧ x.open_ = true) ∧ (¬ known) ∧
        ∃ c, (c ∈ [Instr.mgmtRead h space a n, .mgmtWrite h space a data, .sessionClose h, .keepalive h])) ∧
    (∃ (s : State) (h : MgHdr) (space : Nat) (a : Nat) (n : Nat) (data : List Byte), (s.mgUp h.port = true) ∧ (s.frameFault h false = none) ∧
        ∃ x, x = (s.session h.session) ∧ ∃ (known : Prop), known = (1 ≤ h.session ∧ h.session ≤ 8 ∧ x.open_ = true) ∧
        ∃ (e : Nat × Nat × Nat × List Byte), (known) ∧ (h.seq < x.next) ∧ (x.cache.find? (fun e => e.1 == h.seq) = some e) ∧
        ∃ c, (c ∈ [Instr.mgmtRead h space a n, .mgmtWrite h space a data, .sessionClose h, .keepalive h])) ∧
    (∃ (s : State) (h : MgHdr) (space : Nat) (a : Nat) (n : Nat) (data : List Byte), (s.mgUp h.port = true) ∧ (s.frameFault h false = none) ∧
        ∃ x, x = (s.session h.session) ∧ ∃ (known : Prop), known = (1 ≤ h.session ∧ h.session ≤ 8 ∧ x.open_ = true) ∧ (known) ∧ (x.next < h.seq) ∧
        ∃ c, (c ∈ [Instr.mgmtRead h space a n, .mgmtWrite h space a data, .sessionClose h, .keepalive h])) ∧
    (∃ (s : State) (h : MgHdr) (space : Nat) (a : Nat) (n : Nat) (data : List Byte), (s.mgUp h.port = true) ∧ (s.frameFault h false = none) ∧
        ∃ x, x = (s.session h.session) ∧ ∃ (known : Prop), known = (1 ≤ h.session ∧ h.session ≤ 8 ∧ x.open_ = true) ∧ (known) ∧ (h.seq = x.next) ∧
        (x.held = [])) ∧
    (∃ (s : State) (src : Nat) (w : List Byte), (0 < w.length) ∧ (s.mg.rx = [])) ∧
    (∃ (s : State) (src : Nat) (session : Nat) (seq : Nat) (dest : Nat) (a : Nat) (space : Nat) (n : Nat), (session < 2 ^ 16) ∧ (seq < 2 ^ 32) ∧
        (dest < 2 ^ 16) ∧ (a < 2 ^ 64) ∧ (space < 2 ^ 8) ∧ (n < 2 ^ 32)) ∧
    (∃ (s : State) (src : Nat) (session : Nat) (seq : Nat) (dest : Nat) (a : Nat) (space : Nat) (data : List Byte), (session < 2 ^ 16) ∧
        (seq < 2 ^ 32) ∧ (dest < 2 ^ 16) ∧ (a < 2 ^ 64) ∧ (space < 2 ^ 8) ∧ (data.length ≤ 1024)) ∧
    (∃ (s : State) (src : Nat) (rq : MgTo) (status : Nat) (data : List Byte), (rq.session < 2 ^ 16) ∧ (rq.seq < 2 ^ 32) ∧ (rq.dest < 2 ^ 16) ∧
        (status < 2 ^ 16) ∧ (src < 2 ^ 16) ∧ (data.length ≤ 1040) ∧ (s.mg.relays = [rq])) ∧
    (∃ (s : State) (n : Nat), ((s.session n).open_ = true) ∧ ((s.session n).last + 1000000 ≤ s.tick)) ∧
    (∃ (s : State) (n : Nat), ((s.session n).open_ = false ∨ s.tick < (s.session n).last + 1000000)) ∧
    (∃ (s : State) (n : Nat), ∃ x, x = (s.session n) ∧ (x.open_ = true) ∧ (0 < x.gapAt) ∧ (x.gapAt - 1 + 100 ≤ s.tick)) ∧
    (∃ (s : State) (n : Nat), ∃ x, x = (s.session n) ∧ (x.open_ = false ∨ x.gapAt = 0 ∨ s.tick < x.gapAt - 1 + 100)) ∧
    (∃ (s : State) (port : Nat) (up : Bool), (s.mod_.stby = true) ∧ (port < 2) ∧ (s.fld .mgt (Mgt.MGT_STATUS.sub port port) = bool01 up)) ∧
    (∃ (s : State) (port : Nat) (up : Bool), (s.mod_.stby = true) ∧ (port < 2) ∧ (s.fld .mgt (Mgt.MGT_STATUS.sub port port) ≠ bool01 up)) :=
  ⟨
    ⟨up, w51_0_0_h, 0, 0, 4, w51_0_0_data, ⟨by decide +kernel, ⟨(Instr.sessionOpen w51_0_0_h), .tail _ (.tail _ (.head _))⟩⟩⟩,
    ⟨w51_0_1_s, w51_0_1_h, 0, 0, 4, w51_0_1_data, ⟨by decide +kernel, ⟨by decide +kernel, ⟨(Instr.mgmtWrite w51_0_1_h 0 0 w51_0_1_data), .tail _ (.head _)⟩⟩⟩⟩,
    ⟨w51_0_2_s, w51_0_2_h, 0, 0, 4, w51_0_2_data, ⟨by decide +kernel, ⟨by decide +kernel, ⟨by decide +kernel, ⟨by decide +kernel,
        ⟨(Instr.mgmtRead w51_0_2_h 0 0 4), .head _⟩⟩⟩⟩⟩⟩,
    ⟨put .mgt [(Mgt.MGT_STATUS, 3)] up, {}, ⟨by decide +kernel, by decide +kernel⟩⟩,
    ⟨w51_2_0_s, w51_2_0_h, 0, 0, 4, w51_2_0_data, ⟨by decide +kernel, ⟨by decide +kernel, ⟨_, rfl, ⟨_, rfl, ⟨by decide +kernel,
        ⟨(Instr.mgmtRead w51_2_0_h 0 0 4), .head _⟩⟩⟩⟩⟩⟩⟩,
    ⟨w51_2_1_s, w51_2_1_h, 0, 0, 4, w51_2_1_data, ⟨by decide +kernel, ⟨by decide +kernel, ⟨_, rfl, ⟨_, rfl, ⟨w51_2_1_e, ⟨by decide +kernel,
        ⟨by decide +kernel, ⟨by decide +kernel, ⟨(Instr.keepalive w51_2_1_h), .tail _ (.tail _ (.tail _ (.head _)))⟩⟩⟩⟩⟩⟩⟩⟩⟩⟩,
    ⟨w51_2_2_s, w51_2_2_h, 0, 0, 4, w51_2_2_data, ⟨by decide +kernel, ⟨by decide +kernel, ⟨_, rfl, ⟨_, rfl, ⟨by decide +kernel, ⟨by decide +kernel,
        ⟨(Instr.mgmtWrite w51_2_2_h 0 0 w51_2_2_data), .tail _ (.head _)⟩⟩⟩⟩⟩⟩⟩⟩,
    ⟨{ put .mgt [(Mgt.MGT_STATUS, 3)] up with sess := [(8, { open_ := true, next := 3 })] }, { session := 8, seq := 3 }, 0, 0, 4, [7],
        ⟨by decide +kernel, ⟨by decide +kernel, ⟨_, rfl, ⟨_, rfl, ⟨by decide +kernel, ⟨by decide +kernel, by decide +kernel⟩⟩⟩⟩⟩⟩⟩,
    ⟨put .mgt [(Mgt.MGT_STATUS, 3)] up, 7, List.replicate 500 9, ⟨by decide +kernel, by decide +kernel⟩⟩,
    ⟨put .mgt [(Mgt.MGT_STATUS, 3)] up, 7, 8, 3, 4, 0x20100, 0, 8, ⟨by decide +kernel, ⟨by decide +kernel, ⟨by decide +kernel, ⟨by decide +kernel,
        ⟨by decide +kernel, by decide +kernel⟩⟩⟩⟩⟩⟩,
    ⟨put .mgt [(Mgt.MGT_STATUS, 3)] up, 7, 8, 3, 4, 0x20100, 0, [1, 2, 3, 4], ⟨by decide +kernel, ⟨by decide +kernel, ⟨by decide +kernel,
        ⟨by decide +kernel, ⟨by decide +kernel, by decide +kernel⟩⟩⟩⟩⟩⟩,
    ⟨{ put .mgt [(Mgt.MGT_STATUS, 3)] up with mg := { relays := [{ port := 1, session := 8, seq := 3, type := 1 }] } }, 7, { port := 1, session := 8, seq := 3, type := 1 }, 0, [7],
        ⟨by decide +kernel, ⟨by decide +kernel, ⟨by decide +kernel, ⟨by decide +kernel, ⟨by decide +kernel, ⟨by decide +kernel,
        by decide +kernel⟩⟩⟩⟩⟩⟩⟩,
    ⟨now 1000000 ({ put .mgt [(Mgt.MGT_STATUS, 3)] up with sess := [(8, { open_ := true, next := 3 })] }), 8, ⟨by decide +kernel, by decide +kernel⟩⟩,
    ⟨now 999999 ({ put .mgt [(Mgt.MGT_STATUS, 3)] up with sess := [(8, { open_ := true, next := 3 })] }), 8, by decide +kernel⟩,
    ⟨now 100 ({ put .mgt [(Mgt.MGT_STATUS, 3)] up with sess := [(8, { open_ := true, gapAt := 1 })] }), 8, ⟨_, rfl, ⟨by decide +kernel,
        ⟨by decide +kernel, by decide +kernel⟩⟩⟩⟩,
    ⟨now 99 ({ put .mgt [(Mgt.MGT_STATUS, 3)] up with sess := [(8, { open_ := true, gapAt := 1 })] }), 8, ⟨_, rfl, by decide +kernel⟩⟩,
    ⟨put .mgt [(Mgt.MGT_STATUS, 3)] up, 1, true, ⟨by decide +kernel, ⟨by decide +kernel, by decide +kernel⟩⟩⟩,
    ⟨put .mgt [(Mgt.MGT_STATUS, 3)] up, 1, false, ⟨by decide +kernel, ⟨by decide +kernel, by decide +kernel⟩⟩⟩⟩

/-- The hypotheses of `Obligations.TickEdgesWorkInOrder`, clause by clause. -/
theorem test_tick_edges_work_in_order_met :
    (∃ (s : State) (o : TickObs), (s.mod_.stby = false)) ∧
    (∃ (s : State) (o : TickObs), (s.mod_.stby = true) ∧ ∃ next, next = (s.time.tai / tickLen + 1) ∧ (next < 2 ^ 64) ∧ (s.tick < next)) ∧
    (∃ (s : State) (o : TickObs), (s.mod_.stby = true) ∧ ∃ next, next = (s.time.tai / tickLen + 1) ∧ (next < 2 ^ 64) ∧ (next ≤ s.tick)) :=
  ⟨
    ⟨State.reset, {}, by decide +kernel⟩,
    ⟨up, {}, ⟨by decide +kernel, ⟨_, rfl, ⟨by decide +kernel, by decide +kernel⟩⟩⟩⟩,
    ⟨now 1 up, {}, ⟨by decide +kernel, ⟨_, rfl, ⟨by decide +kernel, by decide +kernel⟩⟩⟩⟩⟩

/-- The hypotheses of `Obligations.StepRunsTheFrontCommand`, clause by clause. -/
theorem test_step_runs_the_front_command_met :
    (∃ (s : State) (c : Instr) (rest : List Instr), (s.pending = c :: rest)) ∧
    (∃ (s : State), (s.pending = [])) :=
  ⟨
    ⟨{ up with pending := [.powerOn, .flr] }, .powerOn, [.flr], by decide +kernel⟩,
    ⟨up, by decide +kernel⟩⟩

def w55_0_s : State := { own .rt up with pending := [.powerOn] }
def w55_0_t : State := nextOf (step w55_0_s)

/-- The hypotheses of `Obligations.StepKeepsTheInvariant`, clause by clause. -/
theorem test_step_keeps_the_invariant_met :
    (∃ (s : State) (t : State), (s.Inv) ∧ (step s = .next t)) :=
  ⟨w55_0_s, w55_0_t, ⟨⟨by decide +kernel, by decide +kernel, by decide +kernel, by decide +kernel, by decide +kernel,
      by decide +kernel⟩, next_nextOf (by decide +kernel)⟩⟩

def w57_0_s : State := { own .rt up with pending := [.powerOn] }
def w57_0_t : State := nextOf (step w57_0_s)

/-- The hypotheses of `Obligations.StepLosesNothingThatOnlyGrows`, clause by clause. -/
theorem test_step_loses_nothing_that_only_grows_met :
    (∃ (s : State) (t : State), (step s = .next t)) :=
  ⟨w57_0_s, w57_0_t, next_nextOf (by decide +kernel)⟩

def w58_0_c : Instr := .planArm .host
def w58_0_s : State := own .fab up
def w58_0_t : State := nextOf (exec w58_0_c w58_0_s)
def w58_1_s : State := own .rt up
def w58_1_t : State := nextOf (exec ((Instr.peerDataWrite Master.host 0,
    .rt, regKey .rt 0x134 (w58_1_s.fld .rt Rt.PEER_IDX % 8192) :: errKeys .rt) : Instr × Page × List Nat).1 w58_1_s)
def w58_2_s : State := { up with engs := [(0, { mon := 1 })] }
def w58_2_t : State := nextOf (exec (.monTickReached 0) w58_2_s)
def w58_3_t : State := nextOf (exec .planWinDataRead up)
def w58_4_s : State := own .fab up
def w58_4_t : State := nextOf (exec (.semRelease Page.fab.base Master.host) w58_4_s)
def w58_5_t : State := nextOf (exec (.semAcquire Page.fab.base [Master.host]) up)

/-- The hypotheses of `Obligations.CommandsChangeOnlyTheirParts`, clause by clause. -/
theorem test_commands_change_only_their_parts_met :
    (∃ (c : Instr) (s : State) (t : State), (exec c s = .next t)) ∧
    (∃ (s t : State) (m : Master) (e : Nat) (v : Word) (p : Nat), ∃ x, (x ∈ [ (Instr.kalModeWrite m e v, Page.kal e, [regKey (.kal e) 0x100 0]),
        (.bar2SelWrite m v, .hst, regKey .hst 0x104 0 :: errKeys .hst), (.timCfgWrite m v, .time, regKey .time 0x104 0 :: errKeys .time),
        (.tblDataWrite m e v,
        .rng e, let sel := s.fld (.rng e) Rng.RING_SEL; regKey (.rng e) 0x22C (ringBank (8 + 8 * e + sel % 8) (sel / 16 % 16) (sel / 256 % 2) + 512 * (s.fld (.rng e) Rng.TBL_SEL % 512)) :: errKeys (.rng e)),
        (.monGoNow m e, .mon e, [regKey (.mon e) 0x108 0, regKey (.mon e) 0x114 0]), (.monGoAtTick m e, .mon e, [regKey (.mon e) 0x108 0]),
        (.keyErase m v,
        .cry 0, [regKey (.cry 0) 0x104 s.keySel, regKey (.cry 0) 0x10C s.keySel, regKey (.cry 0) 0x110 s.keySel, regKey (.cry 0) 0x10C (s.keySel + 16384), regKey (.cry 0) 0x110 (s.keySel + 16384)]),
        (.laneClear m p, .lan p, [regKey (.lan p) 0x104 (s.laneSel p)]), (.planWinDataWrite m v, .fab, regKey .fab 0x108 0 :: errKeys .fab),
        (.frtDataHiWrite m v, .rt, []), (.peerDataWrite m v, .rt, regKey .rt 0x134 (s.fld .rt Rt.PEER_IDX % 8192) :: errKeys .rt),
        (.rnkSlotPartWrite m v, .rt, errKeys .ep), (.rnkDataWrite m v, .rt, errKeys .ep)]) ∧ (s.MayWrite m x.2.1) ∧ (exec x.1 s = .next t)) ∧
    (∃ (s t : State) (e : Nat), (exec (.monTickReached e) s = .next t)) ∧
    (∃ (s t : State), (exec .planWinDataRead s = .next t)) ∧
    (∃ (s t : State) (pg : Page) (m : Master), (Page.ofBase pg.base = some pg) ∧ (exec (.semRelease pg.base m) s = .next t)) ∧
    (∃ (s t : State) (pg : Page) (m : Master), (Page.ofBase pg.base = some pg) ∧
        (s.semOwner pg = 0 ∨ s.semOwner pg = m.code ∨ s.leaseOut pg = false) ∧ (exec (.semAcquire pg.base [m]) s = .next t)) :=
  ⟨
    ⟨w58_0_c, w58_0_s, w58_0_t, next_nextOf (by decide +kernel)⟩,
    ⟨w58_1_s, w58_1_t, Master.host, 0, 0, 0, ⟨((Instr.peerDataWrite Master.host 0,
        .rt, regKey .rt 0x134 (w58_1_s.fld .rt Rt.PEER_IDX % 8192) :: errKeys .rt) : Instr × Page × List Nat),
        ⟨.tail _ (.tail _ (.tail _ (.tail _ (.tail _ (.tail _ (.tail _ (.tail _ (.tail _ (.tail _ (.head _)))))))))),
        ⟨by unfold State.MayWrite; decide +kernel, next_nextOf (by decide +kernel)⟩⟩⟩⟩,
    ⟨w58_2_s, w58_2_t, 0, next_nextOf (by decide +kernel)⟩,
    ⟨up, w58_3_t, next_nextOf (by decide +kernel)⟩,
    ⟨w58_4_s, w58_4_t, Page.fab, Master.host, ⟨by decide +kernel, next_nextOf (by decide +kernel)⟩⟩,
    ⟨up, w58_5_t, Page.fab, Master.host, ⟨by decide +kernel, ⟨by decide +kernel, next_nextOf (by decide +kernel)⟩⟩⟩⟩

/-- The hypotheses of `Obligations.DescriptorsStoreOnlyInTheirDestination`, clause by clause. -/
theorem test_descriptors_store_only_in_their_destination_met :
    ((∃ (s t : State) (r : Refs) (x : Tref), exec (.move 0 { cdsc with opcode := 0x12 }) s = .next t ∧ s.prep 0 { cdsc with opcode := 0x12 } (copyForm 0x12 .own .own) = .ok r ∧ r.d = some x) ∧
    (∃ (s t : State) (e : DF), exec (.move 0 {}) s = .next t ∧ s.prep 0 {} (copyForm 0x12 .own .own) = .error e)) :=
  ⟨⟨copies run, _, refs (copies run) { cdsc with opcode := 0x12 } (copyForm 0x12 .own .own), (refs (copies run) { cdsc with opcode := 0x12 } (copyForm 0x12 .own .own)).d.getD {},
      next_nextOf (by decide +kernel), ok_okOr (by decide +kernel), by decide +kernel⟩,
          ⟨run, _, _, next_nextOf (by decide +kernel), error_errOr (by decide +kernel)⟩⟩

/-- The hypotheses of `Obligations.WritesWithoutTheSemaphoreAreDropped`, clause by clause. -/
theorem test_writes_without_the_semaphore_are_dropped_met :
    (∃ (c : Instr) (m : Master) (pg : Page), (writeOf c = some (m, pg)) ∧ ∃ (s : State), (s.answers pg = false)) ∧
    (∃ (c : Instr) (m : Master) (pg : Page), (writeOf c = some (m, pg)) ∧ ∃ (s : State), (s.answers pg = true) ∧ (s.semOwner pg ≠ m.code)) :=
  ⟨
    ⟨.planArm .host, .host, .fab, ⟨by decide +kernel, ⟨State.reset, by decide +kernel⟩⟩⟩,
    ⟨.planArm .host, .host, .fab, ⟨by decide +kernel, ⟨up, ⟨by decide +kernel, by decide +kernel⟩⟩⟩⟩⟩

/-! ### The words and codes of the wires, against published vectors and the spec's layouts -/

/-- The check values of CRC-32 and CRC-32C over the nine digits (R223, R172). -/
theorem test_crc_check_values :
    crc32 [49, 50, 51, 52, 53, 54, 55, 56, 57] = 0xCBF43926 ∧ crc32c [49, 50, 51, 52, 53, 54, 55, 56, 57] = 0xE3069283 := by decide +kernel

/-- RS(35,32): a word with its check symbols is a code word, one wrong symbol is corrected, two are found (R169). -/
theorem test_inner_code_corrects_one_and_finds_two :
    let d := (List.range 32).map (fun i => i * 37 % 256)
    let w := d ++ rsCheck d
    rsDecode w = some (w, false) ∧ rsDecode (w.set 5 7) = some (w, true) ∧ rsDecode (w.set 34 1) = some (w, true)
      ∧ rsDecode ((w.set 5 7).set 20 9) = none := by decide +kernel

/-- A flit in clear: 256 bytes, DEST and SRC first, TYPE and E in byte 7, the CRC over bytes 0–251 last (R222, R223). -/
theorem test_flit_bytes :
    let w := Flit.wire { h := { dest := 0x1234, src := 0x0567, part := 0x89A, ctx := 0x1BCD, seq := 0x4321 }, p := .idle } []
    w.length = 256 ∧ w.take 4 = [0x34, 0x12, 0x67, 0x05] ∧ (w.drop 10).take 2 = [0x21, 0x43]
      ∧ natLE (w.drop 252) = crc32 (w.take 252) := by decide +kernel

/-- SHAKE256 of nothing, and AES-256-GCM over nothing with a key and a nonce of zeros (FIPS 202, the GCM specification's case 13). -/
theorem test_published_ciphers :
    shake256 [] 8 = [0x46, 0xB9, 0xDD, 0x2B, 0x0B, 0xA8, 0x8D, 0x13]
      ∧ (gcmSeal (List.replicate 32 0) (List.replicate 12 0) [] []).2.take 8 = [0x53, 0x0F, 0x8A, 0xFB, 0xC7, 0x45, 0x36, 0xB9] := by decide +kernel

/-- Table 18.6: the fields of a READ response of session 8, SEQ 0x01020304, STATUS 1, 4 bytes, SRC 7. -/
theorem test_mgmt_header : ({ type := 1, rsp := true, local_ := true, session := 8, dest := 0x0506, seq := 0x01020304, status := 1, len := 4, src := 7 } : MgHead).bytes =
    [1, 0, 1, 5, 8, 0, 6, 5, 4, 3, 2, 1, 1, 0, 4, 0] ++ List.replicate 8 0 ++ [7, 0, 0, 0, 0, 0, 0, 0] := by decide +kernel

/-- R517: a message of 500 bytes goes in three pieces, 208 bytes at most. -/
theorem test_relay_pieces : mgPieces (List.replicate 500 9) =
    [.piece 0 3 (List.replicate 208 9), .piece 1 3 (List.replicate 208 9), .piece 2 3 (List.replicate 84 9)] := by decide +kernel

end Sys2Proof.Tests
end

section
/-! SUPPORT. Pages and register keys: where the pages of Table 18.11 lie, and which registers differ. -/
namespace Sys2Proof.Machine

theorem Msub.refl (F : Nat) : Msub F F := Nat.and_self F

/-! ### Pages and register keys -/

theorem Page.base_mod (pg : Page) : pg.base % 4096 = 0 := by
  cases pg <;> simp only [Page.base] <;> omega

theorem Page.base_add_div (pg : Page) {off : Nat} (h : off < 4096) : (pg.base + off) / 4096 * 4096 = pg.base := by
  have := pg.base_mod; omega

theorem Page.base_add_mod (pg : Page) {off : Nat} (h : off < 4096) : (pg.base + off) % 4096 = off := by
  have := pg.base_mod; omega

/-- BAR0 has 64 MiB; every page of Table 18.11 lies in it. -/
theorem Page.ofBase_lt {b : Nat} {pg : Page} (h : Page.ofBase b = some pg) : b < bankSize := by
  by_contra hb
  have hb : 67108864 ≤ b := Nat.le_of_not_lt hb
  rw [Page.ofBase, if_neg (by omega), if_neg (by omega), if_neg (by omega), if_neg (by omega), if_neg (by omega), if_neg (by omega),
    if_neg (by omega)] at h
  cases h

theorem Page.base_add_lt {pg : Page} (h : Page.ofBase pg.base = some pg) {off : Nat} (ho : off < 4096) : pg.base + off < bankSize := by
  have := Page.ofBase_lt h
  have := pg.base_mod
  simp only [bankSize] at *
  omega

theorem regAddr_regKey {pg : Page} (h : Page.ofBase pg.base = some pg) {off : Nat} (ho : off < 4096) (b : Nat) :
    regAddr (regKey pg off b) = pg.base + off := by
  have h1 := Page.base_add_lt h ho
  have h2 := pg.kind_lt
  simp only [regAddr, regKey, bankSize] at *
  omega

/-- IRQ_SUMMARY is no register of a page's header. -/
theorem regKey_header_ne_irqSummary (pg : Page) {off : Nat} (h : off < 0x100) : regKey pg off 0 ≠ regKey .glb 0x130 0 := by
  by_cases hk : pg.kind = Page.glb.kind
  · obtain rfl : pg = .glb := by
      cases pg with
      | glb => rfl
      | _ => cases hk
    exact regKey_ne_of_off (by omega)
  · exact regKey_ne_of_kind hk

theorem msix_of_base (pg : Page) {off : Nat} (h : off < 4096) (ht : msixTable pg.base = false) (hp : msixPba pg.base = false) :
    msixTable (pg.base + off) = false ∧ msixPba (pg.base + off) = false := by
  have := pg.base_mod
  simp only [msixTable, msixPba, Bool.and_eq_false_iff, decide_eq_false_iff_not] at *
  omega

/-! ### The pages that CTR_CLR reaches -/

/-- The numbers of the units whose CTR_CLR reaches further pages lie in the ranges of Table 0.5. -/
def Page.unitOk : Page → Prop
  | .core d c p => d < 2 ∧ c < 4 ∧ p < 9
  | .mc k => k < 12
  | .lnk p => p < 32
  | _ => True

theorem Page.unitOk_of_ofBase {b : Nat} {pg : Page} (h : Page.ofBase b = some pg) : pg.unitOk := by
  unfold Page.ofBase at h
  split at h
  · have singles : ∀ q ∈ Page.singles, q.unitOk := by simp [Page.singles, Page.unitOk]
    exact singles pg (List.mem_of_find?_eq_some h)
  · dsimp only at h
    repeat' split at h
    all_goals cases h <;> simp only [Page.unitOk] <;> omega

theorem Page.ofBase_of_mem_clears {pg q : Page} (h : Page.ofBase pg.base = some pg) (hq : q ∈ pg.clears) : Page.ofBase q.base = some q := by
  have hu := Page.unitOk_of_ofBase h
  cases pg with
  | core d c p =>
    obtain ⟨hd, hc, hp⟩ := hu
    obtain rfl | ⟨e, he, rfl⟩ : q = .core d c p ∨ ∃ e < 4, .eng d c p e = q := by simpa [Page.clears] using hq
    · exact h
    · have engines : ∀ d < 2, ∀ c < 4, ∀ p < 9, ∀ e < 4, Page.ofBase (Page.eng d c p e).base = some (.eng d c p e) := by decide +kernel
      exact engines d hd c hc p hp e he
  | mc k =>
    obtain rfl | rfl : q = .mc k ∨ q = .scr k := by simpa [Page.clears] using hq
    · exact h
    · have scrubbers : ∀ k < 12, Page.ofBase (Page.scr k).base = some (.scr k) := by decide +kernel
      exact scrubbers k hu
  | lnk p =>
    obtain rfl | rfl : q = .lnk p ∨ q = .lan p := by simpa [Page.clears] using hq
    · exact h
    · have lanes : ∀ p < 32, Page.ofBase (Page.lan p).base = some (.lan p) := by decide +kernel
      exact lanes p hu
  | _ => rw [List.mem_singleton.mp hq]; exact h

/-- A counter lies in its page and reads 0 after reset. -/
theorem Page.counters_reset (q : Page) : q.counters.all (fun a => decide (a < 4096) && q.resetOf a == 0) = true := by
  cases q <;> rfl

theorem Page.counter_lt {q : Page} {a : Nat} (h : a ∈ q.counters) : a < 4096 := by
  have := List.all_eq_true.mp q.counters_reset a h
  simp_all

theorem Page.counter_resetOf {q : Page} {a : Nat} (h : a ∈ q.counters) : q.resetOf a = 0 := by
  have := List.all_eq_true.mp q.counters_reset a h
  simp_all

/-- What CTR_CLR clears is a counter of one of its pages. -/
theorem State.regDefault_of_ctrKey {s : State} {pg : Page} {off key : Nat} (h : Page.ofBase pg.base = some pg)
    (hk : s.ctrKey pg off key = true) : regDefault key = 0 := by
  obtain ⟨q, hq, hk⟩ := List.any_eq_true.mp hk
  simp only [Bool.and_eq_true, beq_iff_eq, List.contains_iff_mem] at hk
  obtain ⟨⟨hbase, hmem⟩, -⟩ := hk
  simp only [regDefault, hbase, Page.ofBase_of_mem_clears h hq, Page.counter_resetOf hmem]
  rfl

theorem State.ctrKey_regKey (s : State) {pg q : Page} {off a b : Nat} (h : Page.ofBase pg.base = some pg) (hq : q ∈ pg.clears)
    (ha : a ∈ q.counters) (hfp : q ≠ .fp) (hrng : ∀ e, q ≠ .rng e) : s.ctrKey pg off (regKey q a b) = true := by
  have lt := Page.counter_lt ha
  refine List.any_eq_true.mpr ⟨q, hq, ?_⟩
  rw [regAddr_regKey (Page.ofBase_of_mem_clears h hq) lt b, q.base_add_div lt, q.base_add_mod lt]
  cases q with
  | fp => exact absurd rfl hfp
  | rng e => exact absurd rfl (hrng e)
  | _ => simpa using ha

/-! ### CTR_CLR -/

theorem smGet_filter_false {α : Type} (d : Nat → α) (m : SMap α) (p : Nat × α → Bool) (k : Nat) (h : ∀ v, p (k, v) = false) :
    smGet d (m.filter p) k = d k := by
  induction m with
  | nil => rfl
  | cons e t ih =>
    obtain ⟨a, w⟩ := e
    by_cases ha : a = k
    · subst ha; simpa [h w] using ih
    · by_cases hp : p (a, w) = true
      · simpa [hp, smGet, ha] using ih
      · simpa [hp] using ih

/-- The mask of the frame of `State.ctrRests`. -/
def ctrRestsMask : Nat := 43556142970954516915595178834345022455808

/-- What lies below the units of the counters is no register. -/
theorem State.ctrRests_reg (s : State) (pg : Page) (key : Nat) : (s.ctrRests pg).reg key = s.reg key :=
  have pages : ∀ k < 64, Nat.testBit ctrRestsMask (Part.page k).bit = false := by decide +kernel
  (State.ctrRests_kept (Msub.refl ctrRestsMask) (Kept.refl _ s)).agree (.page (key % 64)) (pages _ (Nat.mod_lt _ (by decide))) key rfl

theorem State.ctrClr_reg_cleared {s : State} {pg : Page} {off v key : Nat} (h : Page.ofBase pg.base = some pg) (hv : bitAt v 0 = true)
    (hk : s.ctrKey pg off key = true) : (s.ctrClr pg off v).reg key = 0 := by
  rw [State.ctrClr, if_pos hv, State.ctrRests_reg]
  exact (smGet_filter_false _ _ _ _ (fun _ => by simp [hk])).trans (State.regDefault_of_ctrKey h hk)

theorem State.ctrClr_reg_kept {s : State} {pg : Page} {off key : Nat} (v : Nat) (hk : s.ctrKey pg off key = false) :
    (s.ctrClr pg off v).reg key = s.reg key := by
  unfold State.ctrClr
  split
  · rw [State.ctrRests_reg]
    exact smGet_filter_true _ _ _ _ (fun _ _ => by simp [hk])
  · rfl

theorem State.ctrClr_of_bit_clear {s : State} {pg : Page} {off v : Nat} (hv : bitAt v 0 = false) : s.ctrClr pg off v = s := by
  simp [State.ctrClr, hv]

end Sys2Proof.Machine
end

section
/-! SUPPORT. The page semaphore (R15, R520): what an operation behind it does, and what a dropped write leaves. -/
namespace Sys2Proof.Machine

/-- The lease of a page begins again (R520). -/
def State.touch (s : State) (pg : Page) : State := { s with semTick := tSet s.semTick pg.base s.tick }

theorem State.touch_reg (s : State) (pg : Page) (key : Nat) : (s.touch pg).reg key = s.reg key := rfl

theorem State.gated_silent {s : State} {m : Master} {pg : Page} (f : State → State) (h : s.answers pg = false) :
    s.gated m pg f = s := by
  simp [State.gated, h]

theorem State.gated_dropped {s : State} {m : Master} {pg : Page} (f : State → State) (h : s.answers pg = true)
    (ho : s.semOwner pg ≠ m.code) : s.gated m pg f = s.semDrop m pg := by
  simp [State.gated, h, ho]

theorem State.gated_held {s : State} {m : Master} {pg : Page} (f : State → State) (h : s.MayWrite m pg) :
    s.gated m pg f = f (s.touch pg) := by
  simp [State.gated, h.1, h.2, State.touch]

/-! ### Fields, counters and error bits -/

theorem State.fld_word (s : State) (pg : Page) (off b : Nat) : s.fld pg ⟨off, 31, 0⟩ b = (s.reg (regKey pg off b)).toNat := by
  have := (s.reg (regKey pg off b)).isLt
  simp only [State.fld, bitsOf]
  omega

theorem State.setFld_reg_ne (s : State) (pg : Page) (f : Fld) (v b : Nat) {key : Nat} (h : key ≠ regKey pg f.off b) :
    (s.setFld pg f v b).reg key = s.reg key := State.reg_setReg_ne _ _ _ _ h

/-- A field that is the whole register. -/
theorem Fld.ok_word (off : Nat) : Fld.ok ⟨off, 31, 0⟩ := ⟨Nat.zero_le _, Nat.lt_succ_self 31⟩

/-- A counter of 32 bits counts one more and saturates. -/
theorem State.fld_bump_same (s : State) (pg : Page) (off b : Nat) :
    (s.bump pg ⟨off, 31, 0⟩ b).fld pg ⟨off, 31, 0⟩ b = min (s.fld pg ⟨off, 31, 0⟩ b + 1) (2 ^ 32 - 1) := by
  rw [State.bump, State.bumpBy, State.fld_setFld_same _ _ _ _ _ (Fld.ok_word off)]
  simp only [Fld.card]
  omega

theorem State.bump_reg_ne (s : State) (pg : Page) (f : Fld) (b : Nat) {key : Nat} (h : key ≠ regKey pg f.off b) :
    (s.bump pg f b).reg key = s.reg key := State.setFld_reg_ne _ _ _ _ _ h

/-- Bringing the interrupt summary up to date writes IRQ_SUMMARY only. -/
theorem State.irqUpdate_reg_ne (s : State) {key : Nat} (h : key ≠ regKey .glb 0x130 0) : s.irqUpdate.reg key = s.reg key := by
  unfold State.irqUpdate
  extract_lets now old t
  have ht : t.reg key = s.reg key := State.setFld_reg_ne _ _ _ _ _ h
  split
  · rw [State.emit_reg, ht]
  · exact ht

theorem State.irqUpdate_fld (s : State) {pg : Page} {f : Fld} {b : Nat} (h : regKey pg f.off b ≠ regKey .glb 0x130 0) :
    s.irqUpdate.fld pg f b = s.fld pg f b := by
  simp only [State.fld, State.irqUpdate_reg_ne s h]

/-- An error bit of a page touches no register beyond `errKeys` (Table 18.10). -/
theorem State.setErr_reg_ne (s : State) (pg : Page) (n : Nat) {key : Nat} (h : key ∉ errKeys pg) :
    (s.setErr pg n).reg key = s.reg key := by
  simp only [errKeys, List.mem_cons, List.not_mem_nil, or_false, not_or] at h
  obtain ⟨hstat, hfirst, hcount, hirq⟩ := h
  unfold State.setErr
  extract_lets stat mask masked t u
  have ht : t.reg key = s.reg key := by
    unfold t
    split
    · exact State.setFld_reg_ne _ _ _ _ _ hfirst
    · rfl
  have hu : u.reg key = s.reg key := by
    unfold u
    split
    · rfl
    · rw [State.bump_reg_ne _ _ _ _ hcount, ht]
  rw [State.irqUpdate_reg_ne _ hirq, State.setFld_reg_ne _ _ _ _ _ hstat, hu]

theorem State.setErr_errStat (s : State) (pg : Page) (n : Nat) :
    (s.setErr pg n).fld pg Hd.ERR_STAT = (s.fld pg Hd.ERR_STAT ||| 2 ^ n) % 2 ^ 32 := by
  unfold State.setErr
  extract_lets stat mask masked t u
  rw [State.irqUpdate_fld _ (regKey_header_ne_irqSummary pg (by decide))]
  exact State.fld_setFld_same _ _ _ _ _ (Fld.ok_word _)

theorem bitAt_eq_testBit (v n : Nat) : bitAt v n = v.testBit n := by
  rw [Nat.testBit_eq_decide_div_mod_eq, bitAt]
  rfl

theorem State.setErr_sets (s : State) (pg : Page) {n : Nat} (h : n < 32) : bitAt ((s.setErr pg n).fld pg Hd.ERR_STAT) n = true := by
  rw [State.setErr_errStat, bitAt_eq_testBit, Nat.testBit_mod_two_pow, Nat.testBit_or, Nat.testBit_two_pow_self]
  simp [h]

/-! ### What a dropped write leaves -/

/-- The parts that a dropped write may change (R15, R464, R470). -/
def dropParts : List Part :=
  [.page Page.glb.kind, .page Page.flip.kind, .page Page.mgt.kind, .page Page.trg.kind, .flipbook, .output, .fresh, .time]

/-- The mask of the frame of `State.semDrop`. -/
def dropMask : Nat := 5192296858540435438728904032915601

theorem State.event_agree_glb (s : State) (code source : Nat) (items : List Item) :
    State.agree (.page Page.glb.kind) s (s.event code source items) :=
  (State.event_kept (Msub.refl _) (Kept.refl _ s)).agree _ (by decide +kernel)

theorem State.semDrop_counts (s : State) (m : Master) (pg : Page) :
    (s.semDrop m pg).fld .glb Glb.SEM_DROP_CNT = min (s.fld .glb Glb.SEM_DROP_CNT + 1) (2 ^ 32 - 1) := by
  rw [State.semDrop, State.agree_fld (State.event_agree_glb _ _ _ _)]
  exact State.fld_bump_same s .glb 0x140 0

theorem State.semDrop_changesOnly (s : State) (m : Master) (pg : Page) : s.changesOnly dropParts (s.semDrop m pg) := by
  intro p hp
  have pages : ∀ k < 64, k ≠ 0 → k ≠ 12 → k ≠ 4 → k ≠ 7 → Nat.testBit dropMask k = false := by decide +kernel
  have small : dropMask < 2 ^ 128 := by decide +kernel
  refine (State.semDrop_kept (Msub.refl dropMask) (Kept.refl _ s)).agree p ?_
  cases p with
  | page k =>
    simp only [dropParts, Page.kind, List.mem_cons, Part.page.injEq, reduceCtorEq, or_false, List.not_mem_nil, not_or] at hp
    obtain ⟨hglb, hflip, hmgt, htrg⟩ := hp
    simp only [Part.bit]
    split
    · exact pages k ‹_› hglb hflip hmgt htrg
    · exact Nat.testBit_lt_two_pow (Nat.lt_of_lt_of_le small (Nat.pow_le_pow_right (by decide) (by omega)))
  | flipbook | output | fresh | time => exact absurd hp (by decide)
  | _ => decide +kernel

end Sys2Proof.Machine
end

section
/-! SUPPORT. A write of a register word (R510): whether it is dropped, ignored, stored or excluded, and what the registers of a page's
header (Table 18.10) and SEM_LEASE hold after it. -/
namespace Sys2Proof.Machine

/-! ### A write of a register word -/

theorem exec_registerWrite_word {s : State} {m : Master} {a : Nat} {v : DWord} (hs : s.mod_.stby = true) (ha : a % 4 = 0) :
    exec (.registerWrite m a 4 v) s = .next (s.regWrite m a (v.toNat % 2 ^ 32)).1 := by
  simp [exec, execRegisterWrite, hs, ha]

theorem exec_registerWrite_dword {s : State} {m : Master} {a : Nat} {v : DWord} (hs : s.mod_.stby = true) (ha : a % 8 = 0) :
    exec (.registerWrite m a 8 v) s = .next ((s.regWrite m a (v.toNat % 2 ^ 32)).1.regWrite m (a + 4) (v.toNat / 2 ^ 32)).1 := by
  simp [exec, execRegisterWrite, hs, ha]

theorem exec_registerWrite_misfit {s : State} {m : Master} {a size : Nat} {v : DWord} (hs : s.mod_.stby = true)
    (h : size ≠ 4 ∧ size ≠ 8 ∨ a % size ≠ 0) : exec (.registerWrite m a size v) s = .next (s.bump .glb Glb.UNMAPPED_CNT) := by
  have h4 : ¬ (size = 4 ∧ a % 4 = 0) := by rintro ⟨rfl, ha⟩; omega
  have h8 : ¬ (size = 8 ∧ a % 8 = 0) := by rintro ⟨rfl, ha⟩; omega
  simp only [exec, execRegisterWrite, hs, ← Bool.decide_and, h4, h8, decide_false, Bool.not_true, Bool.false_eq_true, if_false]

theorem State.stby_of_answers {s : State} {pg : Page} (h : s.answers pg = true) : s.mod_.stby = true := by
  simp only [State.answers, Bool.and_eq_true] at h
  exact h.1

/-- The word at an offset of a page is a register word: it lies in a page of the register space, not in the MSI-X table (R509, R526). -/
structure Page.HasWord (pg : Page) (off : Nat) : Prop where
  page : Page.ofBase pg.base = some pg
  lt : off < 4096
  table : msixTable (pg.base + off) = false
  pba : msixPba (pg.base + off) = false

theorem State.regWrite_dropped {s : State} {m : Master} {pg : Page} {off : Nat} (v : Nat) (h : pg.HasWord off) (hc : off ≠ 0xC)
    (hw : pg.writable off = true) (ha : s.answers pg = true) (ho : s.semOwner pg ≠ m.code) :
    s.regWrite m (pg.base + off) v = (s.semDrop m pg, true) := by
  simp [State.regWrite, h.table, h.pba, pg.base_add_div h.lt, pg.base_add_mod h.lt, h.page, hc, hw, ha, ho]

theorem State.regWrite_readOnly {s : State} {m : Master} {pg : Page} {off : Nat} (v : Nat) (h : pg.HasWord off) (hc : off ≠ 0xC)
    (hw : pg.writable off = false) (ha : s.answers pg = true) : s.regWrite m (pg.base + off) v = (s, false) := by
  simp [State.regWrite, h.table, h.pba, pg.base_add_div h.lt, pg.base_add_mod h.lt, h.page, hc, hw, ha]

theorem State.regWrite_stored {s : State} {m : Master} {pg : Page} {off v : Nat} (h : pg.HasWord off) (hc : off ≠ 0xC)
    (hw : pg.writable off = true) (hm : s.MayWrite m pg) (hr : rangeBad pg off v = none) :
    s.regWrite m (pg.base + off) v = ((s.touch pg).regPut pg off v, false) := by
  simp [State.regWrite, h.table, h.pba, pg.base_add_div h.lt, pg.base_add_mod h.lt, h.page, hc, hw, hm.1, hm.2, hr, State.touch]

theorem State.regWrite_excluded {s : State} {m : Master} {pg : Page} {off v e : Nat} (h : pg.HasWord off) (hc : off ≠ 0xC)
    (hw : pg.writable off = true) (hm : s.MayWrite m pg) (hf : ∀ t : State, t.ruleFirst pg off v = false) (hr : rangeBad pg off v = some (some e)) :
    s.regWrite m (pg.base + off) v = ((s.touch pg).setErr pg e, false) := by
  simp [State.regWrite, h.table, h.pba, pg.base_add_div h.lt, pg.base_add_mod h.lt, h.page, hc, hw, hm.1, hm.2, hf, hr, State.touch]

theorem State.regWrite_unmapped {s : State} {m : Master} {a : Nat} (v : Nat) (hp : Page.ofBase (a / 4096 * 4096) = none) (ht : msixTable a = false)
    (hb : msixPba a = false) : s.regWrite m a v = (s.bump .glb Glb.UNMAPPED_CNT, false) := by
  simp [State.regWrite, hp, ht, hb]

/-! ### Writes by access code (R14) -/

/-- All bits of the register are RW: it holds the word that is written. -/
theorem State.plainWrite_rw {s : State} {pg : Page} {off : Nat} {r : RegDef} (v : Nat) (h : pg.regDef off = some r)
    (hrw : r.rw = 0xFFFFFFFF) (hw1c : r.w1c = 0) (hrwe : r.rwe = 0) : s.plainWrite pg off v = s.setReg (s.selKey pg off) (BitVec.ofNat 32 v) := by
  have keep : ∀ w : Word, w &&& 0xFFFFFFFF#32 = w := fun _ => BitVec.and_allOnes
  simp [State.plainWrite, h, hrw, hw1c, hrwe, keep]

/-- All bits of the register are W1C: it keeps the bits that the word does not name. -/
theorem State.plainWrite_w1c {s : State} {pg : Page} {off : Nat} {r : RegDef} (v : Nat) (h : pg.regDef off = some r)
    (hrw : r.rw = 0) (hw1c : r.w1c = 0xFFFFFFFF) (hrwe : r.rwe = 0) :
    s.plainWrite pg off v = s.setReg (s.selKey pg off) (s.reg (s.selKey pg off) &&& ~~~ BitVec.ofNat 32 v) := by
  have keep : ∀ w : Word, w &&& 0xFFFFFFFF#32 = w := fun _ => BitVec.and_allOnes
  have flip : ∀ w : Word, 0xFFFFFFFF#32 ^^^ w = ~~~ w := fun _ => BitVec.allOnes_xor
  simp [State.plainWrite, h, hrw, hw1c, hrwe, keep, flip]

/-! ### The header of a page (Table 18.10) -/

theorem State.selKey_header (s : State) (pg : Page) {off : Nat} (h : off < 0x100) : s.selKey pg off = regKey pg off 0 := by
  have below : ∀ lo, 0x100 ≤ lo → ¬ lo ≤ off := by omega
  have : s.bankOf pg off = 0 := by
    cases pg <;> simp (disch := decide) [State.bankOf, below]
  rw [State.selKey, this]

theorem Page.absent_header (pg : Page) {off : Nat} (h : off < 0x100) : pg.absent off = false := by
  have below : ∀ lo, 0x100 ≤ lo → ¬ lo ≤ off := by omega
  cases pg <;> simp (disch := decide) [Page.absent, below]

theorem Page.regDef_errStat (pg : Page) : pg.regDef 0x18 = some { off := 0x18, w1c := 0xFFFFFFFF } := by cases pg <;> rfl
theorem Page.regDef_errMask (pg : Page) : pg.regDef 0x1C = some { off := 0x1C, rw := 0xFFFFFFFF } := by cases pg <;> rfl
theorem Page.regDef_intEn (pg : Page) : pg.regDef 0x28 = some { off := 0x28, rw := 0xFFFFFFFF } := by cases pg <;> rfl

theorem rangeBad_errStat (pg : Page) (v : Nat) : rangeBad pg 0x18 v = none := by cases pg <;> rfl
theorem rangeBad_errMask (pg : Page) (v : Nat) : rangeBad pg 0x1C v = none := by cases pg <;> rfl
theorem rangeBad_intEn (pg : Page) (v : Nat) : rangeBad pg 0x28 v = none := by cases pg <;> rfl

theorem State.regPut_errStat (s : State) (pg : Page) (v : Nat) : s.regPut pg 0x18 v = (s.plainWrite pg 0x18 v).irqUpdate := by
  simp [State.regPut]
theorem State.regPut_intEn (s : State) (pg : Page) (v : Nat) : s.regPut pg 0x28 v = (s.plainWrite pg 0x28 v).irqUpdate := by
  simp [State.regPut]
theorem State.regPut_errMask (s : State) (pg : Page) (v : Nat) : s.regPut pg 0x1C v = s.plainWrite pg 0x1C v := by
  cases pg <;> simp [State.regPut, Page.ctrClrOffs]

theorem Page.word_of_base {pg : Page} {off : Nat} (h : Page.ofBase pg.base = some pg) (ho : off < 4096) (ht : msixTable pg.base = false)
    (hp : msixPba pg.base = false) : pg.HasWord off :=
  ⟨h, ho, (msix_of_base pg ho ht hp).1, (msix_of_base pg ho ht hp).2⟩

theorem Page.writable_of_regDef {pg : Page} {off : Nat} {r : RegDef} (ha : pg.absent off = false) (hctrl : off ≠ 0x10) (hstatus : off ≠ 0x14)
    (h : pg.regDef off = some r) (hr : (r.rw ||| r.w1c ||| r.w1s ||| r.rwe ||| r.wo) ≠ 0) : pg.writable off = true := by
  simp [Page.writable, ha, hctrl, hstatus, h, hr]

theorem exec_registerWrite_at {s : State} {m : Master} {pg : Page} {off : Nat} (v : DWord) (ha : s.answers pg = true) (h4 : off % 4 = 0) :
    exec (.registerWrite m (pg.base + off) 4 v) s = .next (s.regWrite m (pg.base + off) (v.toNat % 2 ^ 32)).1 :=
  exec_registerWrite_word (State.stby_of_answers ha) (by have := pg.base_mod; omega)

/-- A register of a page's header with its access code `r` takes the write of the master that may write. -/
theorem exec_registerWrite_header {s : State} {m : Master} {pg : Page} {off : Nat} {r : RegDef} (v : DWord) (hm : s.MayWrite m pg)
    (h : pg.HasWord off) (ho : off ∈ [0x18, 0x1C, 0x28]) (hd : pg.regDef off = some r) (hr : (r.rw ||| r.w1c ||| r.w1s ||| r.rwe ||| r.wo) ≠ 0)
    (hb : rangeBad pg off (v.toNat % 2 ^ 32) = none) :
    exec (.registerWrite m (pg.base + off) 4 v) s = .next ((s.touch pg).regPut pg off (v.toNat % 2 ^ 32)) := by
  have hlow : off < 0x100 ∧ off % 4 = 0 ∧ off ≠ 0xC ∧ off ≠ 0x10 ∧ off ≠ 0x14 := by
    simp only [List.mem_cons, List.not_mem_nil, or_false] at ho; omega
  obtain ⟨hlt, h4, hsem, hctrl, hstatus⟩ := hlow
  rw [exec_registerWrite_at v hm.1 h4,
    State.regWrite_stored h hsem (Page.writable_of_regDef (pg.absent_header hlt) hctrl hstatus hd hr) hm hb]

theorem registerWrite_errMask {s : State} {m : Master} {pg : Page} (v : DWord) (hm : s.MayWrite m pg) (h : pg.HasWord 0x1C) :
    ∃ t, exec (.registerWrite m (pg.base + 0x1C) 4 v) s = .next t ∧ t.fld pg Hd.ERR_MASK = v.toNat % 2 ^ 32 ∧
      ∀ key, key ≠ regKey pg 0x1C 0 → t.reg key = s.reg key := by
  refine ⟨_, exec_registerWrite_header v hm h (by decide) pg.regDef_errMask (by decide) (rangeBad_errMask _ _), ?_⟩
  rw [State.regPut_errMask, State.plainWrite_rw _ pg.regDef_errMask rfl rfl rfl, State.selKey_header _ _ (by decide)]
  refine ⟨?_, fun key hk => State.reg_setReg_ne _ _ _ _ hk⟩
  rw [Hd.ERR_MASK, State.fld_word, State.reg_setReg_same]
  simp

theorem registerWrite_intEn {s : State} {m : Master} {pg : Page} (v : DWord) (hm : s.MayWrite m pg) (h : pg.HasWord 0x28) :
    ∃ t, exec (.registerWrite m (pg.base + 0x28) 4 v) s = .next t ∧ t.fld pg Hd.INT_EN = v.toNat % 2 ^ 32 ∧
      ∀ key, key ≠ regKey pg 0x28 0 → key ≠ regKey .glb 0x130 0 → t.reg key = s.reg key := by
  refine ⟨_, exec_registerWrite_header v hm h (by decide) pg.regDef_intEn (by decide) (rangeBad_intEn _ _), ?_⟩
  rw [State.regPut_intEn, State.plainWrite_rw _ pg.regDef_intEn rfl rfl rfl, State.selKey_header _ _ (by decide)]
  refine ⟨?_, fun key hk hirq => (State.irqUpdate_reg_ne _ hirq).trans (State.reg_setReg_ne _ _ _ _ hk)⟩
  rw [State.irqUpdate_fld _ (regKey_header_ne_irqSummary pg (by decide)), Hd.INT_EN, State.fld_word, State.reg_setReg_same]
  simp

theorem registerWrite_errStat {s : State} {m : Master} {pg : Page} (v : DWord) (hm : s.MayWrite m pg) (h : pg.HasWord 0x18) :
    ∃ t, exec (.registerWrite m (pg.base + 0x18) 4 v) s = .next t ∧
      (∀ i < 32, bitAt (t.fld pg Hd.ERR_STAT) i = (bitAt (s.fld pg Hd.ERR_STAT) i && !bitAt (v.toNat % 2 ^ 32) i)) ∧
      ∀ key, key ≠ regKey pg 0x18 0 → key ≠ regKey .glb 0x130 0 → t.reg key = s.reg key := by
  refine ⟨_, exec_registerWrite_header v hm h (by decide) pg.regDef_errStat (by decide) (rangeBad_errStat _ _), ?_⟩
  rw [State.regPut_errStat, State.plainWrite_w1c _ pg.regDef_errStat rfl rfl rfl, State.selKey_header _ _ (by decide)]
  refine ⟨fun i hi => ?_, fun key hk hirq => (State.irqUpdate_reg_ne _ hirq).trans (State.reg_setReg_ne _ _ _ _ hk)⟩
  rw [State.irqUpdate_fld _ (regKey_header_ne_irqSummary pg (by decide)), Hd.ERR_STAT, State.fld_word, State.fld_word, State.reg_setReg_same,
    State.touch_reg, bitAt_eq_testBit, bitAt_eq_testBit, bitAt_eq_testBit, BitVec.testBit_toNat, BitVec.testBit_toNat,
    BitVec.getLsbD_and, BitVec.getLsbD_not, BitVec.getLsbD_ofNat]
  simp only [hi, decide_true, Bool.true_and]

/-! ### SEM_LEASE (R527, R534) -/

theorem semLease_word : Page.glb.HasWord 0x124 := ⟨by decide +kernel, by decide, by decide, by decide⟩

theorem rangeBad_semLease (v : Nat) : rangeBad .glb 0x124 v = if v < 10000 ∨ 100000000 < v then some (some 1) else none := by
  simp [rangeBad]

theorem registerWrite_semLease {s : State} {m : Master} (v : DWord) (hm : s.MayWrite m .glb) (hlo : 10000 ≤ v.toNat % 2 ^ 32)
    (hhi : v.toNat % 2 ^ 32 ≤ 100000000) :
    ∃ t, exec (.registerWrite m 0x124 4 v) s = .next t ∧ t.fld .glb Glb.SEM_LEASE = v.toNat % 2 ^ 32 := by
  have hb : rangeBad .glb 0x124 (v.toNat % 2 ^ 32) = none := by rw [rangeBad_semLease, if_neg (by omega)]
  have step := exec_registerWrite_at (m := m) (off := 0x124) v hm.1 (by decide)
  rw [State.regWrite_stored semLease_word (by decide) (by decide +kernel) hm hb] at step
  refine ⟨_, step, ?_⟩
  have put : ∀ t : State, t.regPut .glb 0x124 (v.toNat % 2 ^ 32) = t.plainWrite .glb 0x124 (v.toNat % 2 ^ 32) := by
    simp [State.regPut, Page.ctrClrOffs]
  rw [put, State.plainWrite_rw (r := { off := 0x124, rw := 0xffffffff, reset := 0xf4240 }) _ (by decide +kernel) rfl rfl rfl,
    Glb.SEM_LEASE, State.fld_word]
  exact (congrArg BitVec.toNat (State.reg_setReg_same _ _ _)).trans (by simp)

theorem registerWrite_semLease_excluded {s : State} {m : Master} (v : DWord) (hm : s.MayWrite m .glb)
    (h : v.toNat % 2 ^ 32 < 10000 ∨ 100000000 < v.toNat % 2 ^ 32) :
    ∃ t, exec (.registerWrite m 0x124 4 v) s = .next t ∧ t.fld .glb Glb.SEM_LEASE = s.fld .glb Glb.SEM_LEASE ∧
      bitAt (t.fld .glb Hd.ERR_STAT) 1 = true := by
  have hb : rangeBad .glb 0x124 (v.toNat % 2 ^ 32) = some (some 1) := by rw [rangeBad_semLease, if_pos h]
  have step := exec_registerWrite_at (m := m) (off := 0x124) v hm.1 (by decide)
  rw [State.regWrite_excluded semLease_word (by decide) (by decide +kernel) hm (fun _ => rfl) hb] at step
  refine ⟨_, step, ?_, State.setErr_sets _ _ (by decide)⟩
  rw [Glb.SEM_LEASE, State.fld_word, State.fld_word, State.setErr_reg_ne _ _ _ (by decide +kernel), State.touch_reg]

/-! ### The command CTR_CLR -/

theorem exec_ctrClr {s : State} {m : Master} {pg : Page} {off : Nat} (v : Word) (hm : s.MayWrite m pg) (h : Page.ofBase pg.base = some pg)
    (ho : off ∈ pg.ctrClrOffs) : exec (.ctrClr m pg.base off v) s = .next ((s.touch pg).ctrClr pg off v.toNat) := by
  simp [exec, execCtrClr, h, ho, State.gated_held _ hm]

theorem exec_ctrClr_elsewhere {s : State} {m : Master} {pg : Page} {off : Nat} (v : Word) (h : Page.ofBase pg.base = some pg)
    (ho : off ∉ pg.ctrClrOffs) : exec (.ctrClr m pg.base off v) s = .next s := by
  simp [exec, execCtrClr, h, ho]

/-- Settles O49, clause by clause, from what a write of a word and CTR_CLR leave. -/
theorem registersAreWrittenUnderTheirSemaphore : Obligations.RegistersAreWrittenUnderTheirSemaphore := by
  unfold Obligations.RegistersAreWrittenUnderTheirSemaphore
  refine ⟨?dropped, ?drop, ?readOnly, ?header, ?lease, ?wide, ?unmapped, ?clear, ?counters, ?elsewhere⟩
  case dropped =>
    intro s m off v pg ha h hlt h4 hsem hw ht hp ho
    rw [exec_registerWrite_at v ha h4, State.regWrite_dropped _ ⟨h, hlt, ht, hp⟩ hsem hw ha ho]
  case drop => exact fun s m pg => ⟨s.semDrop_counts m pg, s.semDrop_changesOnly m pg⟩
  case readOnly =>
    intro s m off v pg hm h hlt h4 hw hsem ht hp
    rw [exec_registerWrite_at v hm.1 h4, State.regWrite_readOnly _ ⟨h, hlt, ht, hp⟩ hsem hw hm.1]
  case header =>
    intro s m v pg hm h ht hp
    exact ⟨registerWrite_errMask v hm (Page.word_of_base h (by decide) ht hp), registerWrite_intEn v hm (Page.word_of_base h (by decide) ht hp),
      registerWrite_errStat v hm (Page.word_of_base h (by decide) ht hp)⟩
  case lease => exact fun s m v hm => ⟨registerWrite_semLease v hm, registerWrite_semLease_excluded v hm⟩
  case wide =>
    intro s m off v hs h8
    refine ⟨_, exec_registerWrite_word hs (by omega), fun hu => ?_⟩
    have upper : (BitVec.ofNat 64 (v.toNat / 2 ^ 32)).toNat % 2 ^ 32 = v.toNat / 2 ^ 32 := by
      have := v.isLt
      simp only [BitVec.toNat_ofNat]
      omega
    rw [exec_registerWrite_dword hs h8, exec_registerWrite_word hu (by omega), upper]
  case unmapped =>
    intro s m off size v hs h
    have step : exec (.registerWrite m off size v) s = .next (s.bump .glb Glb.UNMAPPED_CNT) := by
      by_cases misfit : size ≠ 4 ∧ size ≠ 8 ∨ off % size ≠ 0
      · exact exec_registerWrite_misfit hs misfit
      · obtain ⟨rfl, hpage, ht, hp⟩ := h.resolve_left misfit
        rw [exec_registerWrite_word hs (by omega), State.regWrite_unmapped _ hpage ht hp]
    exact ⟨_, step, State.fld_bump_same s .glb 0x13C 0, fun key hk => State.bump_reg_ne _ _ _ _ hk⟩
  case clear =>
    intro s m pg off v hm h ho
    refine ⟨_, exec_ctrClr v hm h ho, fun hv => ?_, fun hv => ⟨fun key hk => ?_, fun key hk => ?_⟩⟩
    · rw [State.ctrClr_of_bit_clear hv]
      rfl
    · exact State.ctrClr_reg_cleared (s := s.touch pg) h hv hk
    · exact State.ctrClr_reg_kept (s := s.touch pg) v.toNat hk
  case counters => exact fun s pg off q a b h hq ha hfp hrng => s.ctrKey_regKey h hq ha hfp hrng
  case elsewhere => exact fun s m pg off v h ho => exec_ctrClr_elsewhere v h ho

end Sys2Proof.Machine
end

section
/-! The commands that are writes of a page's register (R15). -/
namespace Sys2Proof.Machine

/-- A command that is a write of a page's register (R15) is an operation through that page's semaphore. -/
theorem exec_eq_gated_of_writeOf {c : Instr} {m : Master} {pg : Page} (h : writeOf c = some (m, pg)) :
    ∃ f : State → State, ∀ s, exec c s = .next (s.gated m pg f) := by
  cases c with
  | ctrClr m' b off v =>
    simp only [writeOf, Option.map_eq_some_iff, Option.filter_eq_some_iff, Prod.mk.injEq] at h
    obtain ⟨p, ⟨hp, hoff⟩, rfl, rfl⟩ := h
    exact ⟨fun s => s.ctrClr p off v.toNat, fun s => by simp only [exec, execCtrClr, hp, hoff, if_true]⟩
  | unitReset m' b =>
    simp only [writeOf, Option.map_eq_some_iff, Prod.mk.injEq] at h
    obtain ⟨p, hp, rfl, rfl⟩ := h
    exact ⟨fun s => s.unitReset p 1, fun s => by simp only [exec, execUnitReset, hp]⟩
  | _ => cases h <;> exact ⟨_, fun _ => rfl⟩

/-- Settles O60: every such command goes through `State.gated`, whose two refusing branches these are. -/
theorem writesWithoutTheSemaphoreAreDropped : Obligations.WritesWithoutTheSemaphoreAreDropped := by
  unfold Obligations.WritesWithoutTheSemaphoreAreDropped
  intro c m pg hw s
  obtain ⟨f, hf⟩ := exec_eq_gated_of_writeOf hw
  rw [hf s]
  exact ⟨fun h => by rw [State.gated_silent f h], fun h ho => by rw [State.gated_dropped f h ho]⟩

end Sys2Proof.Machine
end

section
/-! The state after reset (R14). -/
namespace Sys2Proof.Machine

theorem State.reset_inv : State.reset.Inv := ⟨rfl, rfl, rfl, rfl, Nat.zero_le _, Nat.zero_le _⟩

/-- Without input power no page answers (R521). -/
theorem State.answers_unpowered {s : State} (h : s.mod_.stby = false) (pg : Page) : s.answers pg = false := by
  simp [State.answers, h]

/-- Settles O54: the sparse store of `State.reset` lists no register, so each reads what `regDefault` gives it. -/
theorem resetLeavesWhatTheTablesGive : Obligations.ResetLeavesWhatTheTablesGive := by
  unfold Obligations.ResetLeavesWhatTheTablesGive
  refine ⟨State.reset_inv, rfl, rfl, rfl, rfl, rfl, rfl, rfl, rfl, State.answers_unpowered rfl, fun _ => rfl, ?_⟩
  decide +kernel

end Sys2Proof.Machine
end

section
/-! The frame of a step: every command keeps the invariant of the state and changes only the parts that `mayChange` names for it. -/
namespace Sys2Proof.Machine

/-- The mask of a list of parts. -/
def partsMask (ps : List Part) : Nat := ps.foldr (fun p m => 2 ^ p.bit ||| m) 0

theorem Msub.of_beq {F M : Nat} (h : (F &&& M == F) = true := by decide +kernel) : Msub F M := eq_of_beq h

/-- Command by command, the frame of its meaning (Laws/Frame*.lean) lies in the parts that `mayChange` names. -/
theorem exec_kept (c : Instr) (s : State) : KeptO (partsMask (mayChange c)) s (exec c s) := by
  cases c
  all_goals dsimp only [mayChange, exec]
  case powerOn => exact execPowerOn_kept .of_beq (.refl _ _)
  case edeskInitDone => exact execEdeskInitDone_kept .of_beq (.refl _ _)
  case powerLoss => exact execPowerLoss_kept .of_beq (.refl _ _)
  case inputVoltageExcursion => exact execInputVoltageExcursion_kept .of_beq (.refl _ _)
  case overcurrentTrip => exact execOvercurrentTrip_kept .of_beq (.refl _ _)
  case powerCapHold => exact execPowerCapHold_kept .of_beq (.refl _ _)
  case thermalThrottleChange => exact execThermalThrottleChange_kept .of_beq (.refl _ _)
  case capEffStep => exact execCapEffStep_kept .of_beq (.refl _ _)
  case thermalTrip => exact execThermalTrip_kept .of_beq (.refl _ _)
  case tickEdge => exact execTickEdge_kept .of_beq (.refl _ _)
  case registerWrite => exact execRegisterWrite_kept .of_beq (.refl _ _)
  case semAcquire => exact execSemAcquire_kept .of_beq (.refl _ _)
  case semRelease => exact execSemRelease_kept .of_beq (.refl _ _)
  case ctrClr => exact execCtrClr_kept .of_beq (.refl _ _)
  case unitReset => exact execUnitReset_kept .of_beq (.refl _ _)
  case bindArm => exact execBindArm_kept .of_beq (.refl _ _)
  case bindCopyDone => exact execBindCopyDone_kept .of_beq (.refl _ _)
  case launchPost => exact execLaunchPost_kept .of_beq (.refl _ _)
  case launchCancel => exact execLaunchCancel_kept .of_beq (.refl _ _)
  case launchEmpty => exact execLaunchEmpty_kept .of_beq (.refl _ _)
  case launchEntryWrite => exact execLaunchEntryWrite_kept .of_beq (.refl _ _)
  case programComplete => exact execProgramComplete_kept .of_beq (.refl _ _)
  case cplConsWrite => exact execCplConsWrite_kept .of_beq (.refl _ _)
  case stepFenceComplete => exact execStepFenceComplete_kept .of_beq (.refl _ _)
  case descriptorComplete => exact execDescriptorComplete_kept .of_beq (.refl _ _)
  case nop => exact execNop_kept .of_beq (.refl _ _)
  case endStream => exact execEndStream_kept .of_beq (.refl _ _)
  case setReg => exact execSetReg_kept .of_beq (.refl _ _)
  case loop => exact execLoop_kept .of_beq (.refl _ _)
  case waitGe => exact execWaitGe_kept .of_beq (.refl _ _)
  case waitEq => exact execWaitEq_kept .of_beq (.refl _ _)
  case waitNe => exact execWaitNe_kept .of_beq (.refl _ _)
  case waitAssert => exact execWaitAssert_kept .of_beq (.refl _ _)
  case waitDrain => exact execWaitDrain_kept .of_beq (.refl _ _)
  case waitConditionMet => exact execWaitConditionMet_kept .of_beq (.refl _ _)
  case waitTimeout => exact execWaitTimeout_kept .of_beq (.refl _ _)
  case signalAdd => exact execSignalAdd_kept .of_beq (.refl _ _)
  case signalWrite => exact execSignalWrite_kept .of_beq (.refl _ _)
  case tickw => exact execTickw_kept .of_beq (.refl _ _)
  case stepf => exact execStepf_kept .of_beq (.refl _ _)
  case load => exact execLoad_kept .of_beq (.refl _ _)
  case store => exact execStore_kept .of_beq (.refl _ _)
  case move => exact execMove_kept .of_beq (.refl _ _)
  case transpose => exact execTranspose_kept .of_beq (.refl _ _)
  case gather => exact execGather_kept .of_beq (.refl _ _)
  case scatterAdd => exact execScatterAdd_kept .of_beq (.refl _ _)
  case cast => exact execCast_kept .of_beq (.refl _ _)
  case quantise => exact execQuantise_kept .of_beq (.refl _ _)
  case fill => exact execFill_kept .of_beq (.refl _ _)
  case matmul => exact execMatmul_kept .of_beq (.refl _ _)
  case matmulAcc => exact execMatmulAcc_kept .of_beq (.refl _ _)
  case unaryCopy => exact execUnaryCopy_kept .of_beq (.refl _ _)
  case unaryNeg => exact execUnaryNeg_kept .of_beq (.refl _ _)
  case unaryAbs => exact execUnaryAbs_kept .of_beq (.refl _ _)
  case unaryRelu => exact execUnaryRelu_kept .of_beq (.refl _ _)
  case unarySquare => exact execUnarySquare_kept .of_beq (.refl _ _)
  case unaryRecip => exact execUnaryRecip_kept .of_beq (.refl _ _)
  case unarySqrt => exact execUnarySqrt_kept .of_beq (.refl _ _)
  case unaryRsqrt => exact execUnaryRsqrt_kept .of_beq (.refl _ _)
  case unaryExp => exact execUnaryExp_kept .of_beq (.refl _ _)
  case unaryExp2 => exact execUnaryExp2_kept .of_beq (.refl _ _)
  case unaryLog => exact execUnaryLog_kept .of_beq (.refl _ _)
  case unaryLog2 => exact execUnaryLog2_kept .of_beq (.refl _ _)
  case unaryTanh => exact execUnaryTanh_kept .of_beq (.refl _ _)
  case unaryErf => exact execUnaryErf_kept .of_beq (.refl _ _)
  case unarySin => exact execUnarySin_kept .of_beq (.refl _ _)
  case unaryCos => exact execUnaryCos_kept .of_beq (.refl _ _)
  case unarySigmoid => exact execUnarySigmoid_kept .of_beq (.refl _ _)
  case unarySilu => exact execUnarySilu_kept .of_beq (.refl _ _)
  case unaryGeluTanh => exact execUnaryGeluTanh_kept .of_beq (.refl _ _)
  case unaryGeluErf => exact execUnaryGeluErf_kept .of_beq (.refl _ _)
  case binaryAdd => exact execBinaryAdd_kept .of_beq (.refl _ _)
  case binarySub => exact execBinarySub_kept .of_beq (.refl _ _)
  case binaryMul => exact execBinaryMul_kept .of_beq (.refl _ _)
  case binaryDiv => exact execBinaryDiv_kept .of_beq (.refl _ _)
  case binaryMax => exact execBinaryMax_kept .of_beq (.refl _ _)
  case binaryMin => exact execBinaryMin_kept .of_beq (.refl _ _)
  case fma => exact execFma_kept .of_beq (.refl _ _)
  case rowredSum => exact execRowredSum_kept .of_beq (.refl _ _)
  case rowredMax => exact execRowredMax_kept .of_beq (.refl _ _)
  case rowredMin => exact execRowredMin_kept .of_beq (.refl _ _)
  case rowredAbsmax => exact execRowredAbsmax_kept .of_beq (.refl _ _)
  case rowredSumsq => exact execRowredSumsq_kept .of_beq (.refl _ _)
  case rowredArgmax => exact execRowredArgmax_kept .of_beq (.refl _ _)
  case softmax => exact execSoftmax_kept .of_beq (.refl _ _)
  case normLayernorm => exact execNormLayernorm_kept .of_beq (.refl _ _)
  case normRmsnorm => exact execNormRmsnorm_kept .of_beq (.refl _ _)
  case send => exact execSend_kept .of_beq (.refl _ _)
  case recv => exact execRecv_kept .of_beq (.refl _ _)
  case recvSatisfied => exact execRecvSatisfied_kept .of_beq (.refl _ _)
  case collAllReduce => exact execCollAllReduce_kept .of_beq (.refl _ _)
  case collReduceScatter => exact execCollReduceScatter_kept .of_beq (.refl _ _)
  case collAllGather => exact execCollAllGather_kept .of_beq (.refl _ _)
  case collAllToAll => exact execCollAllToAll_kept .of_beq (.refl _ _)
  case collTimeout => exact execCollTimeout_kept .of_beq (.refl _ _)
  case nmcall => exact execNmcall_kept .of_beq (.refl _ _)
  case digest => exact execDigest_kept .of_beq (.refl _ _)
  case edeskRead => exact execEdeskRead_kept .of_beq (.refl _ _)
  case recomputeDone => exact execRecomputeDone_kept .of_beq (.refl _ _)
  case recomputeTimeout => exact execRecomputeTimeout_kept .of_beq (.refl _ _)
  case edeskLineWrite => exact execEdeskLineWrite_kept .of_beq (.refl _ _)
  case edeskPartialWrite => exact execEdeskPartialWrite_kept .of_beq (.refl _ _)
  case mapoutGo => exact execMapoutGo_kept .of_beq (.refl _ _)
  case mapoutGranuleCopy => exact execMapoutGranuleCopy_kept .of_beq (.refl _ _)
  case rcrEn => exact execRcrEn_kept .of_beq (.refl _ _)
  case scrubLine => exact execScrubLine_kept .of_beq (.refl _ _)
  case scrubNow => exact execScrubNow_kept .of_beq (.refl _ _)
  case scrubCtrlWrite => exact execScrubCtrlWrite_kept .of_beq (.refl _ _)
  case nmuPagePost => exact execNmuPagePost_kept .of_beq (.refl _ _)
  case nmuCmdStart => exact execNmuCmdStart_kept .of_beq (.refl _ _)
  case nmuCmdComplete => exact execNmuCmdComplete_kept .of_beq (.refl _ _)
  case nmuFill => exact execNmuFill_kept .of_beq (.refl _ _)
  case nmuCopy => exact execNmuCopy_kept .of_beq (.refl _ _)
  case rsEnc => exact execRsEnc_kept .of_beq (.refl _ _)
  case rsAcc => exact execRsAcc_kept .of_beq (.refl _ _)
  case rsDec => exact execRsDec_kept .of_beq (.refl _ _)
  case nmuDigest => exact execNmuDigest_kept .of_beq (.refl _ _)
  case optSgd => exact execOptSgd_kept .of_beq (.refl _ _)
  case optAdamw => exact execOptAdamw_kept .of_beq (.refl _ _)
  case gaccAdd => exact execGaccAdd_kept .of_beq (.refl _ _)
  case gaccRead => exact execGaccRead_kept .of_beq (.refl _ _)
  case gaccReadClear => exact execGaccReadClear_kept .of_beq (.refl _ _)
  case nmuGather => exact execNmuGather_kept .of_beq (.refl _ _)
  case scatterAddFp32 => exact execScatterAddFp32_kept .of_beq (.refl _ _)
  case scatterAddExact => exact execScatterAddExact_kept .of_beq (.refl _ _)
  case convertCast => exact execConvertCast_kept .of_beq (.refl _ _)
  case convertQuantise => exact execConvertQuantise_kept .of_beq (.refl _ _)
  case nmuScrub => exact execNmuScrub_kept .of_beq (.refl _ _)
  case snapArm => exact execSnapArm_kept .of_beq (.refl _ _)
  case snapAbort => exact execSnapAbort_kept .of_beq (.refl _ _)
  case snapUnitSaved => exact execSnapUnitSaved_kept .of_beq (.refl _ _)
  case snapUnitConsumed => exact execSnapUnitConsumed_kept .of_beq (.refl _ _)
  case snapHoldTimeout => exact execSnapHoldTimeout_kept .of_beq (.refl _ _)
  case flitWr => exact execFlitWr_kept .of_beq (.refl _ _)
  case flitRdReq => exact execFlitRdReq_kept .of_beq (.refl _ _)
  case flitRdRsp => exact execFlitRdRsp_kept .of_beq (.refl _ _)
  case flitSig => exact execFlitSig_kept .of_beq (.refl _ _)
  case flitAckE2e => exact execFlitAckE2e_kept .of_beq (.refl _ _)
  case flitCollData => exact execFlitCollData_kept .of_beq (.refl _ _)
  case flitCollCredit => exact execFlitCollCredit_kept .of_beq (.refl _ _)
  case flitCollAbort => exact execFlitCollAbort_kept .of_beq (.refl _ _)
  case flitMgmt => exact execFlitMgmt_kept .of_beq (.refl _ _)
  case flitResume => exact execFlitResume_kept .of_beq (.refl _ _)
  case flitIdle => exact execFlitIdle_kept .of_beq (.refl _ _)
  case flitAck => exact execFlitAck_kept .of_beq (.refl _ _)
  case flitNak => exact execFlitNak_kept .of_beq (.refl _ _)
  case flitCredit => exact execFlitCredit_kept .of_beq (.refl _ _)
  case flitHeartbeat => exact execFlitHeartbeat_kept .of_beq (.refl _ _)
  case flitYoyo => exact execFlitYoyo_kept .of_beq (.refl _ _)
  case flitTime => exact execFlitTime_kept .of_beq (.refl _ _)
  case flitTrain => exact execFlitTrain_kept .of_beq (.refl _ _)
  case laneCtrlAdd => exact execLaneCtrlAdd_kept .of_beq (.refl _ _)
  case laneCtrlRemove => exact execLaneCtrlRemove_kept .of_beq (.refl _ _)
  case laneCtrlReplace => exact execLaneCtrlReplace_kept .of_beq (.refl _ _)
  case ringNotice => exact execRingNotice_kept .of_beq (.refl _ _)
  case ringAligned => exact execRingAligned_kept .of_beq (.refl _ _)
  case ackTimer => exact execAckTimer_kept .of_beq (.refl _ _)
  case nakSkewTimer => exact execNakSkewTimer_kept .of_beq (.refl _ _)
  case retryTimeout => exact execRetryTimeout_kept .of_beq (.refl _ _)
  case laneLos => exact execLaneLos_kept .of_beq (.refl _ _)
  case laneTrainTimeout => exact execLaneTrainTimeout_kept .of_beq (.refl _ _)
  case laneRetrainTimer => exact execLaneRetrainTimer_kept .of_beq (.refl _ _)
  case quarantineEnd => exact execQuarantineEnd_kept .of_beq (.refl _ _)
  case strikeReset => exact execStrikeReset_kept .of_beq (.refl _ _)
  case laneDisable => exact execLaneDisable_kept .of_beq (.refl _ _)
  case laneClear => exact execLaneClear_kept .of_beq (.refl _ _)
  case retrain => exact execRetrain_kept .of_beq (.refl _ _)
  case portEnable => exact execPortEnable_kept .of_beq (.refl _ _)
  case bundleDeadTimeout => exact execBundleDeadTimeout_kept .of_beq (.refl _ _)
  case resumeTimeout => exact execResumeTimeout_kept .of_beq (.refl _ _)
  case keyErase => exact execKeyErase_kept .of_beq (.refl _ _)
  case frtDataHiWrite => exact execFrtDataHiWrite_kept .of_beq (.refl _ _)
  case rnkSlotPartWrite => exact execRnkSlotPartWrite_kept .of_beq (.refl _ _)
  case rnkDataWrite => exact execRnkDataWrite_kept .of_beq (.refl _ _)
  case peerDataWrite => exact execPeerDataWrite_kept .of_beq (.refl _ _)
  case planArm => exact execPlanArm_kept .of_beq (.refl _ _)
  case planCancel => exact execPlanCancel_kept .of_beq (.refl _ _)
  case planWinDataWrite => exact execPlanWinDataWrite_kept .of_beq (.refl _ _)
  case planWinDataRead => exact execPlanWinDataRead_kept .of_beq (.refl _ _)
  case planActivation => exact execPlanActivation_kept .of_beq (.refl _ _)
  case ringMoveDone => exact execRingMoveDone_kept .of_beq (.refl _ _)
  case recableSettle => exact execRecableSettle_kept .of_beq (.refl _ _)
  case kalReplace => exact execKalReplace_kept .of_beq (.refl _ _)
  case kalModeWrite => exact execKalModeWrite_kept .of_beq (.refl _ _)
  case windowCheck => exact execWindowCheck_kept .of_beq (.refl _ _)
  case ringRxLos => exact execRingRxLos_kept .of_beq (.refl _ _)
  case heaterFault => exact execHeaterFault_kept .of_beq (.refl _ _)
  case reacqTestStart => exact execReacqTestStart_kept .of_beq (.refl _ _)
  case reacqTestDone => exact execReacqTestDone_kept .of_beq (.refl _ _)
  case ringTestCmd => exact execRingTestCmd_kept .of_beq (.refl _ _)
  case calPeriodDue => exact execCalPeriodDue_kept .of_beq (.refl _ _)
  case calTempDue => exact execCalTempDue_kept .of_beq (.refl _ _)
  case calNow => exact execCalNow_kept .of_beq (.refl _ _)
  case calibrationDone => exact execCalibrationDone_kept .of_beq (.refl _ _)
  case abruptLaserLoss => exact execAbruptLaserLoss_kept .of_beq (.refl _ _)
  case laserSwitchPoint => exact execLaserSwitchPoint_kept .of_beq (.refl _ _)
  case laserSwitchDone => exact execLaserSwitchDone_kept .of_beq (.refl _ _)
  case lasCmdSwitch => exact execLasCmdSwitch_kept .of_beq (.refl _ _)
  case lasCmdNow => exact execLasCmdNow_kept .of_beq (.refl _ _)
  case tblDataWrite => exact execTblDataWrite_kept .of_beq (.refl _ _)
  case monGoNow => exact execMonGoNow_kept .of_beq (.refl _ _)
  case monGoAtTick => exact execMonGoAtTick_kept .of_beq (.refl _ _)
  case monTickReached => exact execMonTickReached_kept .of_beq (.refl _ _)
  case monReadingDone => exact execMonReadingDone_kept .of_beq (.refl _ _)
  case restep => exact execRestep_kept .of_beq (.refl _ _)
  case timCfgWrite => exact execTimCfgWrite_kept .of_beq (.refl _ _)
  case rootLossExpiry => exact execRootLossExpiry_kept .of_beq (.refl _ _)
  case timeSourceLoss => exact execTimeSourceLoss_kept .of_beq (.refl _ _)
  case holdoverLong => exact execHoldoverLong_kept .of_beq (.refl _ _)
  case ptpSync => exact execPtpSync_kept .of_beq (.refl _ _)
  case ptpFollowUp => exact execPtpFollowUp_kept .of_beq (.refl _ _)
  case ptpDelayResp => exact execPtpDelayResp_kept .of_beq (.refl _ _)
  case ptpAnnounce => exact execPtpAnnounce_kept .of_beq (.refl _ _)
  case ptpDelayReq => exact execPtpDelayReq_kept .of_beq (.refl _ _)
  case timeSecLoRead => exact execTimeSecLoRead_kept .of_beq (.refl _ _)
  case timeFracRead => exact execTimeFracRead_kept .of_beq (.refl _ _)
  case trgArm => exact execTrgArm_kept .of_beq (.refl _ _)
  case triggerFire => exact execTriggerFire_kept .of_beq (.refl _ _)
  case ppsOutPulse => exact execPpsOutPulse_kept .of_beq (.refl _ _)
  case ppsInEdge => exact execPpsInEdge_kept .of_beq (.refl _ _)
  case ppsInLost => exact execPpsInLost_kept .of_beq (.refl _ _)
  case capSecLoRead => exact execCapSecLoRead_kept .of_beq (.refl _ _)
  case capFracRead => exact execCapFracRead_kept .of_beq (.refl _ _)
  case partClaim => exact execPartClaim_kept .of_beq (.refl _ _)
  case partArm => exact execPartArm_kept .of_beq (.refl _ _)
  case partDrain => exact execPartDrain_kept .of_beq (.refl _ _)
  case partRetire => exact execPartRetire_kept .of_beq (.refl _ _)
  case partFree => exact execPartFree_kept .of_beq (.refl _ _)
  case runTickReached => exact execRunTickReached_kept .of_beq (.refl _ _)
  case rampDone => exact execRampDone_kept .of_beq (.refl _ _)
  case drainTickReached => exact execDrainTickReached_kept .of_beq (.refl _ _)
  case retireBarrierDone => exact execRetireBarrierDone_kept .of_beq (.refl _ _)
  case retireBarrierBound => exact execRetireBarrierBound_kept .of_beq (.refl _ _)
  case lineCmdClaim => exact execLineCmdClaim_kept .of_beq (.refl _ _)
  case lineCmdRelease => exact execLineCmdRelease_kept .of_beq (.refl _ _)
  case lineClaimReq => exact execLineClaimReq_kept .of_beq (.refl _ _)
  case lineClaimAck => exact execLineClaimAck_kept .of_beq (.refl _ _)
  case lineClaimNak => exact execLineClaimNak_kept .of_beq (.refl _ _)
  case lineClaimRel => exact execLineClaimRel_kept .of_beq (.refl _ _)
  case lineClaimRelAck => exact execLineClaimRelAck_kept .of_beq (.refl _ _)
  case lineClaimRelWait => exact execLineClaimRelWait_kept .of_beq (.refl _ _)
  case lineReqTimeout => exact execLineReqTimeout_kept .of_beq (.refl _ _)
  case lineUnconfirmed => exact execLineUnconfirmed_kept .of_beq (.refl _ _)
  case ctxBind => exact execCtxBind_kept .of_beq (.refl _ _)
  case ctxRetire => exact execCtxRetire_kept .of_beq (.refl _ _)
  case ctxUnbind => exact execCtxUnbind_kept .of_beq (.refl _ _)
  case teardownAck => exact execTeardownAck_kept .of_beq (.refl _ _)
  case epArm => exact execEpArm_kept .of_beq (.refl _ _)
  case epCancel => exact execEpCancel_kept .of_beq (.refl _ _)
  case epochTickActivation => exact execEpochTickActivation_kept .of_beq (.refl _ _)
  case epochDigestReady => exact execEpochDigestReady_kept .of_beq (.refl _ _)
  case epochSkewTimeout => exact execEpochSkewTimeout_kept .of_beq (.refl _ _)
  case imgDataRead => exact execImgDataRead_kept .of_beq (.refl _ _)
  case ctValidationDone => exact execCtValidationDone_kept .of_beq (.refl _ _)
  case buddyHelloRetry => exact execBuddyHelloRetry_kept .of_beq (.refl _ _)
  case buddyHello => exact execBuddyHello_kept .of_beq (.refl _ _)
  case buddyReply => exact execBuddyReply_kept .of_beq (.refl _ _)
  case mirrorDigest => exact execMirrorDigest_kept .of_beq (.refl _ _)
  case ckUnit => exact execCkUnit_kept .of_beq (.refl _ _)
  case checkpointLocalDone => exact execCheckpointLocalDone_kept .of_beq (.refl _ _)
  case stripeDone => exact execStripeDone_kept .of_beq (.refl _ _)
  case commitRecordLanded => exact execCommitRecordLanded_kept .of_beq (.refl _ _)
  case commitAck => exact execCommitAck_kept .of_beq (.refl _ _)
  case ckptAbort => exact execCkptAbort_kept .of_beq (.refl _ _)
  case ckTimeout => exact execCkTimeout_kept .of_beq (.refl _ _)
  case ckAbort => exact execCkAbort_kept .of_beq (.refl _ _)
  case ckNow => exact execCkNow_kept .of_beq (.refl _ _)
  case stoExport => exact execStoExport_kept .of_beq (.refl _ _)
  case stoImport => exact execStoImport_kept .of_beq (.refl _ _)
  case stoConsWrite => exact execStoConsWrite_kept .of_beq (.refl _ _)
  case stoProdWrite => exact execStoProdWrite_kept .of_beq (.refl _ _)
  case loss => exact execLoss_kept .of_beq (.refl _ _)
  case halt => exact execHalt_kept .of_beq (.refl _ _)
  case rollback => exact execRollback_kept .of_beq (.refl _ _)
  case pull => exact execPull_kept .of_beq (.refl _ _)
  case pullReq => exact execPullReq_kept .of_beq (.refl _ _)
  case pullDone => exact execPullDone_kept .of_beq (.refl _ _)
  case loadSlot => exact execLoadSlot_kept .of_beq (.refl _ _)
  case rebuild => exact execRebuild_kept .of_beq (.refl _ _)
  case clearAbsent => exact execClearAbsent_kept .of_beq (.refl _ _)
  case recoveryCmdDone => exact execRecoveryCmdDone_kept .of_beq (.refl _ _)
  case replicaDigestReady => exact execReplicaDigestReady_kept .of_beq (.refl _ _)
  case digestVote => exact execDigestVote_kept .of_beq (.refl _ _)
  case verdictDeadline => exact execVerdictDeadline_kept .of_beq (.refl _ _)
  case verdict => exact execVerdict_kept .of_beq (.refl _ _)
  case verdictTimeout => exact execVerdictTimeout_kept .of_beq (.refl _ _)
  case recheckDeadline => exact execRecheckDeadline_kept .of_beq (.refl _ _)
  case fenceNote => exact execFenceNote_kept .of_beq (.refl _ _)
  case ftDue => exact execFtDue_kept .of_beq (.refl _ _)
  case ftNow => exact execFtNow_kept .of_beq (.refl _ _)
  case ftSweep => exact execFtSweep_kept .of_beq (.refl _ _)
  case fieldTestStart => exact execFieldTestStart_kept .of_beq (.refl _ _)
  case fieldTestDone => exact execFieldTestDone_kept .of_beq (.refl _ _)
  case forcedSwap => exact execForcedSwap_kept .of_beq (.refl _ _)
  case forcedSwapAbandon => exact execForcedSwapAbandon_kept .of_beq (.refl _ _)
  case forcedSwapRetry => exact execForcedSwapRetry_kept .of_beq (.refl _ _)
  case sigAck => exact execSigAck_kept .of_beq (.refl _ _)
  case sigDataRead => exact execSigDataRead_kept .of_beq (.refl _ _)
  case contextWatchdog => exact execContextWatchdog_kept .of_beq (.refl _ _)
  case engineWatchdog => exact execEngineWatchdog_kept .of_beq (.refl _ _)
  case sequencerWatchdog => exact execSequencerWatchdog_kept .of_beq (.refl _ _)
  case programEndWatchdog => exact execProgramEndWatchdog_kept .of_beq (.refl _ _)
  case nmuWatchdog => exact execNmuWatchdog_kept .of_beq (.refl _ _)
  case rstGo => exact execRstGo_kept .of_beq (.refl _ _)
  case resetDone => exact execResetDone_kept .of_beq (.refl _ _)
  case resetEscalate => exact execResetEscalate_kept .of_beq (.refl _ _)
  case moduleFail => exact execModuleFail_kept .of_beq (.refl _ _)
  case nmuDatapathResetDone => exact execNmuDatapathResetDone_kept .of_beq (.refl _ _)
  case nmuFail => exact execNmuFail_kept .of_beq (.refl _ _)
  case fwWatchdog => exact execFwWatchdog_kept .of_beq (.refl _ _)
  case fwRestartDone => exact execFwRestartDone_kept .of_beq (.refl _ _)
  case fwFatalFault => exact execFwFatalFault_kept .of_beq (.refl _ _)
  case takeoverDone => exact execTakeoverDone_kept .of_beq (.refl _ _)
  case revertHoldMet => exact execRevertHoldMet_kept .of_beq (.refl _ _)
  case failover => exact execFailover_kept .of_beq (.refl _ _)
  case fpRestart => exact execFpRestart_kept .of_beq (.refl _ _)
  case getVersion => exact execGetVersion_kept .of_beq (.refl _ _)
  case getHealth => exact execGetHealth_kept .of_beq (.refl _ _)
  case fwStage => exact execFwStage_kept .of_beq (.refl _ _)
  case fwVerify => exact execFwVerify_kept .of_beq (.refl _ _)
  case fwActivate => exact execFwActivate_kept .of_beq (.refl _ _)
  case fwAbort => exact execFwAbort_kept .of_beq (.refl _ _)
  case fwHandover => exact execFwHandover_kept .of_beq (.refl _ _)
  case fwProbationEnd => exact execFwProbationEnd_kept .of_beq (.refl _ _)
  case fbClear => exact execFbClear_kept .of_beq (.refl _ _)
  case recW0Read => exact execRecW0Read_kept .of_beq (.refl _ _)
  case recW15Read => exact execRecW15Read_kept .of_beq (.refl _ _)
  case freeze => exact execFreeze_kept .of_beq (.refl _ _)
  case thaw => exact execThaw_kept .of_beq (.refl _ _)
  case freezeMaxExpiry => exact execFreezeMaxExpiry_kept .of_beq (.refl _ _)
  case attRequest => exact execAttRequest_kept .of_beq (.refl _ _)
  case attDataRead => exact execAttDataRead_kept .of_beq (.refl _ _)
  case ekExpiry => exact execEkExpiry_kept .of_beq (.refl _ _)
  case keyGrant => exact execKeyGrant_kept .of_beq (.refl _ _)
  case keyInstall => exact execKeyInstall_kept .of_beq (.refl _ _)
  case sealPart => exact execSealPart_kept .of_beq (.refl _ _)
  case sealFillDone => exact execSealFillDone_kept .of_beq (.refl _ _)
  case sealLoad => exact execSealLoad_kept .of_beq (.refl _ _)
  case sealedClearDone => exact execSealedClearDone_kept .of_beq (.refl _ _)
  case tokenChallenge => exact execTokenChallenge_kept .of_beq (.refl _ _)
  case svnCommit => exact execSvnCommit_kept .of_beq (.refl _ _)
  case ownerSet => exact execOwnerSet_kept .of_beq (.refl _ _)
  case ownerKey => exact execOwnerKey_kept .of_beq (.refl _ _)
  case debugUnlock => exact execDebugUnlock_kept .of_beq (.refl _ _)
  case rma => exact execRma_kept .of_beq (.refl _ _)
  case flr => exact execFlr_kept .of_beq (.refl _ _)
  case pcieLinkLoss => exact execPcieLinkLoss_kept .of_beq (.refl _ _)
  case bar2Read => exact execBar2Read_kept .of_beq (.refl _ _)
  case bar2Write => exact execBar2Write_kept .of_beq (.refl _ _)
  case bar2SelWrite => exact execBar2SelWrite_kept .of_beq (.refl _ _)
  case mgmtRead => exact execMgmtRead_kept .of_beq (.refl _ _)
  case mgmtWrite => exact execMgmtWrite_kept .of_beq (.refl _ _)
  case sessionOpen => exact execSessionOpen_kept .of_beq (.refl _ _)
  case sessionClose => exact execSessionClose_kept .of_beq (.refl _ _)
  case keepalive => exact execKeepalive_kept .of_beq (.refl _ _)
  case sessionIdleTimeout => exact execSessionIdleTimeout_kept .of_beq (.refl _ _)
  case seqGapTimeout => exact execSeqGapTimeout_kept .of_beq (.refl _ _)
  case chipIdWrite => exact execChipIdWrite_kept .of_beq (.refl _ _)
  case ejectLatchOpen => exact execEjectLatchOpen_kept .of_beq (.refl _ _)
  case removeReq => exact execRemoveReq_kept .of_beq (.refl _ _)
  case removeCancel => exact execRemoveCancel_kept .of_beq (.refl _ _)
  case safeToRemove => exact execSafeToRemove_kept .of_beq (.refl _ _)
  case flitBoundary => exact execFlitBoundary_kept .of_beq (.refl _ _)
  case laneSignalLocked => exact execLaneSignalLocked_kept .of_beq (.refl _ _)
  case mgmtPortLinkChange => exact execMgmtPortLinkChange_kept .of_beq (.refl _ _)
  case pcieLinkUp => exact execPcieLinkUp_kept .of_beq (.refl _ _)
  case ejectLatchClose => exact execEjectLatchClose_kept .of_beq (.refl _ _)

theorem exec_keeps_inv {c : Instr} {s t : State} (h : exec c s = .next t) (hi : s.Inv) : t.Inv := (exec_kept c s t h).inv hi

/-- Settles O55: taking a command from the queue touches nothing the invariant speaks of, and no command breaks it. -/
theorem stepKeepsTheInvariant : Obligations.StepKeepsTheInvariant := by
  unfold Obligations.StepKeepsTheInvariant
  intro s t hi h
  rw [step] at h
  split at h
  · cases h
    exact hi
  · exact exec_keeps_inv h (hi.same rfl rfl rfl rfl rfl rfl)

end Sys2Proof.Machine
end

section
/-! SUPPORT. What a frame gives: the parts that an operation's mask leaves out are as they were. -/
namespace Sys2Proof.Machine

theorem Kept.fld {M : Nat} {s t : State} (h : Kept M s t) (pg : Page) (f : Fld) (b : Nat)
    (hm : M.testBit pg.kind = false := by dsimp only [Page.kind]; decide +kernel) : t.fld pg f b = s.fld pg f b :=
  State.agree_fld (h.agree (.page pg.kind) (by simp only [Part.bit, pg.kind_lt, if_true, hm])) f b

theorem Kept.mem {M : Nat} {s t : State} (h : Kept M s t) (hm : M.testBit 66 = false := by decide +kernel) : t.mem = s.mem :=
  h.agree .memory hm

theorem Kept.slots {M : Nat} {s t : State} (h : Kept M s t) (hm : M.testBit 75 = false := by decide +kernel) : t.slots = s.slots :=
  h.agree .slots hm

theorem Kept.progs {M : Nat} {s t : State} (h : Kept M s t) (hm : M.testBit 76 = false := by decide +kernel) : t.progs = s.progs :=
  h.agree .progs hm

theorem Kept.ring {M : Nat} {s t : State} (h : Kept M s t) (hm : M.testBit 77 = false := by decide +kernel) : t.ring = s.ring :=
  h.agree .ring hm

theorem Kept.heldH {M : Nat} {s t : State} (h : Kept M s t) (hm : M.testBit 78 = false := by decide +kernel) : t.heldH = s.heldH :=
  h.agree .heldH hm

theorem Kept.usedH {M : Nat} {s t : State} (h : Kept M s t) (hm : M.testBit 80 = false := by decide +kernel) : t.usedH = s.usedH :=
  h.agree .usedH hm

theorem Kept.seqs {M : Nat} {s t : State} (h : Kept M s t) (hm : M.testBit 82 = false := by decide +kernel) : t.seqs = s.seqs :=
  h.agree .seqs hm

theorem Kept.tick {M : Nat} {s t : State} (h : Kept M s t) (hm : M.testBit Page.time.kind = false := by decide +kernel) : t.tick = s.tick := by
  simp only [State.tick, State.fld64, h.fld .time _ _ hm]

/-- Two operations in turn, in the frame of both. -/
theorem Kept.then {F G : Nat} {s t u : State} (h : Kept F s t) (h' : Kept G t u) : Kept (F ||| G) s u := by
  refine ⟨fun p hp => ?_, fun hi => h'.inv (h.inv hi), h.grows.trans h'.grows⟩
  rw [Nat.testBit_or, Bool.or_eq_false_iff] at hp
  exact State.agree_trans p (h.agree p hp.1) (h'.agree p hp.2)

/-! ### Operations applied along a list -/

/-- What every application keeps holds at the end. -/
theorem State.each_keeps {α : Type} {I : State → Prop} {f : α → State → State} {l : List α} (keep : ∀ x ∈ l, ∀ u, I u → I (f x u)) {s : State}
    (h : I s) : I (s.each l f) := by
  induction l generalizing s with
  | nil => exact h
  | cons x l ih => exact ih (fun y hy => keep y (List.mem_cons_of_mem _ hy)) (keep x List.mem_cons_self s h)

/-- What the application at `x` establishes and no other undoes holds at the end of every member, under what every application keeps. -/
theorem State.each_establishes_in {α : Type} {I : State → Prop} {P : α → State → Prop} {f : α → State → State} {l : List α}
    (inv : ∀ x ∈ l, ∀ u, I u → I (f x u)) (est : ∀ x ∈ l, ∀ u, I u → P x (f x u)) (keep : ∀ x, ∀ y ∈ l, ∀ u, I u → P x u → P x (f y u))
    {s : State} (h : I s) : ∀ x ∈ l, P x (s.each l f) := by
  induction l generalizing s with
  | nil => exact fun x hx => absurd hx List.not_mem_nil
  | cons y l ih =>
    have later : ∀ z ∈ l, z ∈ y :: l := fun z hz => List.mem_cons_of_mem _ hz
    have first : I (f y s) := inv y List.mem_cons_self s h
    intro x hx
    rcases List.mem_cons.mp hx with rfl | hx
    · exact (State.each_keeps (I := fun u => I u ∧ P x u) (fun z hz u hu => ⟨inv z (later z hz) u hu.1, keep x z (later z hz) u hu.1 hu.2⟩)
        ⟨first, est x List.mem_cons_self s h⟩).2
    · exact ih (fun z hz => inv z (later z hz)) (fun z hz => est z (later z hz)) (fun z w hw => keep z w (later w hw)) first x hx

theorem State.each_establishes {α : Type} {P : α → State → Prop} {f : α → State → State} {l : List α} (est : ∀ x ∈ l, ∀ u, P x (f x u))
    (keep : ∀ x, ∀ y ∈ l, ∀ u, P x u → P x (f y u)) (s : State) : ∀ x ∈ l, P x (s.each l f) :=
  State.each_establishes_in (I := fun _ => True) (fun _ _ _ _ => trivial) (fun x hx u _ => est x hx u) (fun x y hy u _ h => keep x y hy u h) trivial

end Sys2Proof.Machine
end

section
/-! SUPPORT. The launch table (R28–R30): what a write of a slot does, by the state of the slot and its owner. -/
namespace Sys2Proof.Machine

@[simp] theorem State.slot_setSlot_same (s : State) (n : Nat) (x : Slot) : (s.setSlot n x).slot n = x := smGet_smSet_same _ _ _ _

@[simp] theorem State.lchSync_slots (s : State) (host : Bool) : (s.lchSync host).slots = s.slots :=
  (State.lchSync_kept (Msub.refl _) (.refl _ s)).slots

theorem State.event_slots (s : State) (code source : Nat) (items : List Item) (near : Bool) :
    (s.event code source items near).slots = s.slots := (State.event_kept (Msub.refl _) (.refl _ s)).slots

theorem State.event_mem (s : State) (code source : Nat) (items : List Item) (near : Bool) :
    (s.event code source items near).mem = s.mem := (State.event_kept (Msub.refl _) (.refl _ s)).mem

theorem State.slot_congr {s t : State} (h : t.slots = s.slots) (n : Nat) : t.slot n = s.slot n := by rw [State.slot, h, State.slot]

/-! ### Slots -/

theorem Slot.withState_state (x : Slot) {v : Nat} (h : v < 256) : (x.withState v).state = v := by
  have := x.w0.isLt
  simp only [Slot.state, Slot.withState, BitVec.toNat_ofNat]
  omega

theorem Slot.withState_seqTag (x : Slot) (v : Nat) : (x.withState v).seqTag = x.seqTag := by
  have := x.w0.isLt
  simp only [Slot.seqTag, Slot.withState, BitVec.toNat_ofNat]
  omega

theorem Slot.word_setWord_same (x : Slot) (w : DWord) {i : Nat} (h : i ≤ 7) : (x.setWord i w).word i = w := by
  interval_cases i <;> rfl

theorem Slot.word_setWord_ne (x : Slot) (w : DWord) {i j : Nat} (hj : j ≤ 7) (hi : i ≤ 7) (h : i ≠ j) :
    (x.setWord j w).word i = x.word i := by
  interval_cases j <;> interval_cases i <;> simp [Slot.setWord, Slot.word] at h ⊢

/-! ### A write of STATE (Table 1.6) -/

theorem State.lchState_post {s : State} {n : Nat} {w : DWord} (hw : w.toNat % 256 = 1) (h : (s.slot n).state = 0 ∨ (s.slot n).state = 4) :
    s.lchState n w = s.setSlot n { s.slot n with w0 := w, seen := false, late := false, waitTick := 0, near := false } := by
  simp [State.lchState, hw, h]

theorem State.lchState_cancel {s : State} {n : Nat} {w : DWord} (hw : w.toNat % 256 = 5) (h : (s.slot n).state = 1 ∨ (s.slot n).state = 2) :
    s.lchState n w = (s.setSlot n ((s.slot n).withState 5)).lchSync (decide (n < 2048)) := by
  simp [State.lchState, hw, h]

theorem State.lchState_empty {s : State} {n : Nat} {w : DWord} (hw : w.toNat % 256 = 0) (h : (s.slot n).state ≠ 3) :
    s.lchState n w = (s.setSlot n ((s.slot n).withState 0)).lchSync (decide (n < 2048)) := by
  simp [State.lchState, hw, h]

/-- Any other write of STATE is recorded and changes nothing (log entry 45). -/
theorem State.lchState_refused {s : State} {n : Nat} {w : DWord} (h1 : w.toNat % 256 = 1 → (s.slot n).state ≠ 0 ∧ (s.slot n).state ≠ 4)
    (h5 : w.toNat % 256 = 5 → (s.slot n).state ≠ 1 ∧ (s.slot n).state ≠ 2) (h0 : w.toNat % 256 = 0 → (s.slot n).state = 3) :
    s.lchState n w = s.event 0x1102 := by
  unfold State.lchState
  extract_lets x v cur
  have post : ¬ ((v = 1 && (cur = 0 || cur = 4)) = true) := by simpa using h1
  have other : ¬ (((v = 5 && (cur = 1 || cur = 2)) || (v = 0 && cur != 3)) = true) := by
    simp only [Bool.or_eq_true, Bool.and_eq_true, decide_eq_true_eq, bne_iff_ne, ne_eq]
    tauto
  rw [if_neg post, if_neg other]

/-! ### A write of a slot -/

theorem State.lchWrite_silent {s : State} {m : Master} {n off size v : Nat} (h : s.answers .lchHost = false) :
    s.lchWrite m n off size v = s := by simp [State.lchWrite, h]

theorem State.lchWrite_foreign {s : State} {m : Master} {n off size v : Nat} (h : s.answers .lchHost = true) (ho : slotOwned m n = false) :
    s.lchWrite m n off size v = s.event 0x1102 := by simp [State.lchWrite, h, ho]

theorem State.lchWrite_state {s : State} {m : Master} {n : Nat} (v : Nat) (h : s.answers .lchHost = true) (ho : slotOwned m n = true) :
    s.lchWrite m n 0 8 v = s.lchState n (BitVec.ofNat 64 v) := by simp [State.lchWrite, h, ho, mergeWord]

theorem State.lchWrite_word {s : State} {m : Master} {n off : Nat} (size v : Nat) (h : s.answers .lchHost = true) (ho : slotOwned m n = true)
    (hoff : off ≠ 0) (hx : (s.slot n).state = 0 ∨ (s.slot n).state = 4) :
    s.lchWrite m n off size v = s.setSlot n ((s.slot n).setWord (off / 8) (mergeWord ((s.slot n).word (off / 8)) (off % 8) size v)) := by
  simp [State.lchWrite, h, ho, hoff, hx]

theorem State.lchWrite_word_refused {s : State} {m : Master} {n off : Nat} (size v : Nat) (h : s.answers .lchHost = true)
    (ho : slotOwned m n = true) (hoff : off ≠ 0) (h0 : (s.slot n).state ≠ 0) (h4 : (s.slot n).state ≠ 4) :
    s.lchWrite m n off size v = s.event 0x1102 := by
  simp [State.lchWrite, h, ho, hoff, h0, h4]

/-- A write that the table does not accept changes no slot: the page is silent, or 0x1102 is recorded. -/
theorem State.lchWrite_slots_of_refused {s : State} {m : Master} {n off size v : Nat}
    (h : s.answers .lchHost = true → slotOwned m n = true → s.lchWrite m n off size v = s.event 0x1102) :
    (s.lchWrite m n off size v).slots = s.slots := by
  by_cases ha : s.answers .lchHost = true
  · by_cases ho : slotOwned m n = true
    · rw [h ha ho, State.event_slots]
    · rw [State.lchWrite_foreign ha (by simpa using ho), State.event_slots]
  · rw [State.lchWrite_silent (by simpa using ha)]

theorem State.lchWrite_foreign_mem {s : State} {m : Master} {n off size v : Nat} (ho : slotOwned m n = false) :
    (s.lchWrite m n off size v).mem = s.mem := by
  by_cases ha : s.answers .lchHost = true
  · rw [State.lchWrite_foreign ha ho, State.event_mem]
  · rw [State.lchWrite_silent (by simpa using ha)]

/-! ### LAUNCH_POST -/

/-- A write that ends `ns` into its tick lies within NEAR_NS of a boundary (R328). -/
def State.nearBoundary (s : State) (ns : Nat) : Bool :=
  decide (ns ≤ s.fld .time Tim.TIM_CFG_NEAR_NS) || decide (10000 ≤ ns + s.fld .time Tim.TIM_CFG_NEAR_NS)

/-- The slot that a post leaves (R30). -/
def Slot.posted (x : Slot) (w : DWord) (near : Bool) : Slot :=
  { x with w0 := BitVec.ofNat 64 (w.toNat / 256 * 256 + 1), seen := false, late := false, waitTick := 0, near := near }

/-- The first word that a post writes has STATE 1. -/
theorem post_word_state (w : DWord) : (BitVec.ofNat 64 (w.toNat / 256 * 256 + 1)).toNat % 256 = 1 := by
  have := w.isLt
  simp only [BitVec.toNat_ofNat]
  omega

theorem Slot.posted_state (x : Slot) (w : DWord) (near : Bool) : (x.posted w near).state = 1 := post_word_state w

theorem Slot.posted_word (x : Slot) (w : DWord) (near : Bool) {i : Nat} (hl : 1 ≤ i) (hi : i ≤ 7) : (x.posted w near).word i = x.word i := by
  interval_cases i <;> rfl

theorem exec_launchPost_accepted {s : State} {m : Master} {n : Nat} (w : DWord) (ns : Nat) (ha : s.answers .lchHost = true)
    (ho : slotOwned m n = true) (hx : (s.slot n).state = 0 ∨ (s.slot n).state = 4) :
    exec (.launchPost m n w ns) s = .next (if s.nearBoundary ns then
      ((s.setSlot n ((s.slot n).posted w false)).setSlot n ((s.slot n).posted w true)).bump .time Tim.NEAR_CNT
      else s.setSlot n ((s.slot n).posted w false)) := by
  have write : s.lchWrite m n 0 8 (w.toNat / 256 * 256 + 1) = s.setSlot n ((s.slot n).posted w false) := by
    rw [State.lchWrite_state _ ha ho, State.lchState_post (post_word_state w) hx, Slot.posted]
  simp only [exec, execLaunchPost, write, State.slot_setSlot_same]
  simp [State.nearBoundary, Slot.posted, ha, ho, hx]

theorem exec_launchPost_refused {s : State} {m : Master} {n : Nat} (w : DWord) (ns : Nat)
    (h : slotOwned m n = true → (s.slot n).state ≠ 0 ∧ (s.slot n).state ≠ 4) :
    exec (.launchPost m n w ns) s = .next (s.lchWrite m n 0 8 (w.toNat / 256 * 256 + 1)) := by
  have : (s.answers .lchHost && slotOwned m n && ((s.slot n).state == 0 || (s.slot n).state == 4)) = false := by
    by_cases ho : slotOwned m n = true
    · simp [h ho]
    · simp [ho]
  simp only [exec, execLaunchPost, this, Bool.and_false, Bool.false_eq_true, if_false]

/-- An accepted post leaves the posted slot, and counts it where it ends near a boundary (R30, R328). -/
theorem launchPost_accepted {s : State} {m : Master} {n : Nat} (w : DWord) (ns : Nat) (ha : s.answers .lchHost = true)
    (ho : slotOwned m n = true) (hx : (s.slot n).state = 0 ∨ (s.slot n).state = 4) :
    ∃ t, exec (.launchPost m n w ns) s = .next t ∧ t.slot n = (s.slot n).posted w (s.nearBoundary ns) ∧
      t.fld .time Tim.NEAR_CNT =
        if s.nearBoundary ns then min (s.fld .time Tim.NEAR_CNT + 1) (2 ^ 32 - 1) else s.fld .time Tim.NEAR_CNT := by
  refine ⟨_, exec_launchPost_accepted w ns ha ho hx, ?_⟩
  by_cases near : s.nearBoundary ns = true
  · rw [if_pos near, if_pos near, near]
    refine ⟨(State.slot_congr (State.bump_slots _ _ _ _) n).trans (State.slot_setSlot_same _ _ _), ?_⟩
    rw [Tim.NEAR_CNT, State.fld_bump_same, State.setSlot_fld, State.setSlot_fld]
  · rw [if_neg near, if_neg near, eq_false_of_ne_true near]
    exact ⟨State.slot_setSlot_same _ _ _, State.setSlot_fld _ _ _ _ _ _⟩

end Sys2Proof.Machine
end

section
/-! SUPPORT. Completions (R32, R33): where a completion goes, and what writing it into the host's ring leaves. -/
namespace Sys2Proof.Machine

@[simp] theorem State.prog_setProg_same (s : State) (n : Nat) (p : Prog) : (s.setProg n p).prog n = p := smGet_smSet_same _ _ _ _

@[simp] theorem State.seq_setSeq_same (s : State) (lc : Nat) (q : Seq) : (s.setSeq lc q).seq lc = q := smGet_smSet_same _ _ _ _

theorem State.seq_setSeq_ne (s : State) {lc lc' : Nat} (q : Seq) (h : lc' ≠ lc) : (s.setSeq lc q).seq lc' = s.seq lc' :=
  smGet_smSet_ne _ _ _ _ _ h

theorem State.seq_congr {s t : State} (h : t.seqs = s.seqs) (lc : Nat) : t.seq lc = s.seq lc := by rw [State.seq, h, State.seq]

theorem State.prog_congr {s t : State} (h : t.progs = s.progs) (n : Nat) : t.prog n = s.prog n := by rw [State.prog, h, State.prog]

@[simp] theorem State.coreSync_seqs (s : State) (lc : Nat) : (s.coreSync lc).seqs = s.seqs := (State.coreSync_kept (Msub.refl _) (.refl _ s)).seqs

theorem State.fld_bit (s : State) (pg : Page) (off n b : Nat) : (s.fld pg ⟨off, n, n⟩ b == 1) = bitAt (s.fld pg ⟨off, 31, 0⟩ b) n := by
  rw [State.fld_word, State.fld, bitsOf, bitAt, Nat.add_sub_cancel_left, Nat.pow_one]

/-! ### Writing a completion into the host's ring -/

theorem State.ringCount_usedH (s : State) : (s.ringCount true).usedH = min 4096 (s.usedH + 1) := by
  unfold State.ringCount
  simp only [if_true]
  split
  · exact (State.event_kept (Msub.refl _) (.refl _ _)).usedH
  · rfl

theorem State.ringCount_ring (s : State) (host : Bool) : (s.ringCount host).ring = s.ring :=
  (State.ringCount_kept (Msub.refl _) (.refl _ s)).ring

theorem State.lchSync_ring (s : State) (host : Bool) : (s.lchSync host).ring = s.ring := (State.lchSync_kept (Msub.refl _) (.refl _ s)).ring

theorem State.lchSync_usedH (s : State) (host : Bool) : (s.lchSync host).usedH = s.usedH := (State.lchSync_kept (Msub.refl _) (.refl _ s)).usedH

/-- A completion of the host is written at CPL_PROD with the ring's phase, its slot is DONE, and the ring holds one entry more (R32, R33). -/
theorem State.cplWrite_host {s : State} {c : Cpl} (h : c.slot < 2048) :
    let t := s.cplWrite c
    tGet t.ring (s.fld .lchHost (Lch.CPL_PROD.sub 11 0)) = { c with phase := bitAt (s.fld .lchHost Lch.CPL_PROD) 12 } ∧
      (t.slot c.slot).state = 4 ∧ t.usedH = min 4096 (s.usedH + 1) := by
  unfold State.cplWrite
  rw [decide_eq_true h, lchPage, if_pos h]
  extract_lets host pg idx ph written advanced counted done synced t
  obtain ⟨ring, slots, used⟩ : t.ring = synced.ring ∧ t.slots = synced.slots ∧ t.usedH = synced.usedH := by
    unfold t
    split <;> simp only [State.emit_ring, State.emit_slots, State.emit_usedH, and_self]
  refine ⟨?_, ?_, ?_⟩
  · rw [ring, State.lchSync_ring, State.setSlot_ring, State.ringCount_ring, State.setFld_ring, Lch.CPL_PROD, ← State.fld_bit]
    simp only [written, host, if_true, Nat.zero_add]
    exact smGet_smSet_same _ _ _ _
  · rw [State.slot_congr (slots.trans (State.lchSync_slots _ _)), State.slot_setSlot_same]
    exact Slot.withState_state _ (by decide)
  · rw [used, State.lchSync_usedH, State.setSlot_usedH, State.ringCount_usedH, State.setFld_usedH]

/-! ### Where a completion goes -/

/-- The completion of a slot's program that is decided in a state (Table 1.8). -/
def State.cplOf (s : State) (n status startAct lastDesc : Nat) (late : Bool) : Cpl :=
  { status := status, late := late, slot := n, seq := (s.slot n).seqTag, startAct := startAct, endTick := s.tick,
    lastDesc := lastDesc, irq := (s.slot n).irq, vector := (s.slot n).vector }

/-- A completion other than OK is counted and recorded (R32). -/
def State.cplNoted (s : State) (n status : Nat) : State :=
  if status = 0 then s else (s.bump (lchPage n) Lch.LCH_REJECT_CNT).event 0x1101 0 [(2, n)] (s.slot n).near

theorem State.complete_host_eq (s : State) {n : Nat} (status startAct lastDesc : Nat) (late : Bool) (hn : n < 2048) :
    s.complete n status startAct lastDesc late =
      let t := s.cplNoted n status
      let c := s.cplOf n status startAct lastDesc late
      if 4096 ≤ t.usedH || !t.heldH.isEmpty then ({ t with heldH := t.heldH ++ [c] }).lchSync true else t.cplWrite c := by
  rw [State.complete, decide_eq_true hn]
  rfl

theorem State.cplNoted_kept (s : State) {n : Nat} (status : Nat) (hn : n < 2048) : Kept (partsMask (pk .lchHost :: ofEvents)) s (s.cplNoted n status) := by
  unfold State.cplNoted
  rw [lchPage, if_pos hn]
  exact .ite (.refl _ s) (State.event_kept rfl (State.bump_kept rfl (.refl _ s) (by decide +kernel)))

/-- Noting a completion leaves CPL_PROD. -/
theorem State.cplNoted_prod (s : State) {n : Nat} (status hi lo : Nat) (hn : n < 2048) :
    (s.cplNoted n status).fld .lchHost (Lch.CPL_PROD.sub hi lo) = s.fld .lchHost (Lch.CPL_PROD.sub hi lo) := by
  unfold State.cplNoted
  split
  · rfl
  · rw [(State.event_kept (Msub.refl _) (.refl _ _)).fld .lchHost, lchPage, if_pos hn]
    exact State.fld_setFld_ne _ _ _ _ _ _ _ _ (regKey_ne_of_off (show 0x108 ≠ 0x114 by decide))

/-- With room in the ring and none held before it, the completion is written (R32). -/
theorem State.complete_host_room {s : State} {n : Nat} (status startAct lastDesc : Nat) (late : Bool) (hn : n < 2048) (hu : s.usedH < 4096)
    (hh : s.heldH = []) :
    let t := s.complete n status startAct lastDesc late
    tGet t.ring (s.fld .lchHost (Lch.CPL_PROD.sub 11 0)) =
        { s.cplOf n status startAct lastDesc late with phase := bitAt (s.fld .lchHost Lch.CPL_PROD) 12 } ∧
      (t.slot n).state = 4 ∧ t.usedH = s.usedH + 1 := by
  have noted := s.cplNoted_kept status hn
  have room : ¬ (4096 ≤ (s.cplNoted n status).usedH || !(s.cplNoted n status).heldH.isEmpty) = true := by
    rw [noted.usedH, noted.heldH, hh]
    simpa using hu
  rw [State.complete_host_eq s _ _ _ _ hn, if_neg room]
  obtain ⟨ring, slot, used⟩ := State.cplWrite_host (s := s.cplNoted n status) (c := s.cplOf n status startAct lastDesc late) hn
  have prod := s.cplNoted_prod status 31 0 hn
  rw [State.cplNoted_prod s status _ _ hn, show Lch.CPL_PROD = Lch.CPL_PROD.sub 31 0 from rfl, prod] at ring
  refine ⟨ring, slot, used.trans ?_⟩
  rw [noted.usedH]
  omega

/-- While the ring is full, the completion is held behind those held before it (R33). -/
theorem State.complete_host_full {s : State} {n : Nat} (startAct lastDesc : Nat) (late : Bool) (hn : n < 2048) (hu : 4096 ≤ s.usedH) :
    s.complete n 0 startAct lastDesc late = ({ s with heldH := s.heldH ++ [s.cplOf n 0 startAct lastDesc late] }).lchSync true := by
  rw [State.complete_host_eq s _ _ _ _ hn]
  simp [State.cplNoted, hu]

end Sys2Proof.Machine
end

section
/-! The launch table and its completions (R28–R33). -/
namespace Sys2Proof.Machine

/-! ### PROGRAM_COMPLETE -/

/-- A program's cores are free and its outstanding writes fenced (R32). -/
def State.progCleared (s : State) (n : Nat) : State :=
  let cores := (s.prog n).cores
  (({ s with outst := s.outst.filter (fun o => !cores.contains o.lc), taps := s.taps.filter (fun t => !cores.contains t.lc) } : State).each cores
    (fun lc s => (s.setSeq lc { nextId := (s.seq lc).nextId }).coreSync lc)).setProg n {}

theorem State.progCleared_kept (s : State) (n : Nat) : Kept (partsMask (ofCores ++ [.outst, .taps])) s (s.progCleared n) :=
  State.setProg_kept rfl (Kept.each (Kept.upd_outst_taps rfl (.refl _ s)) fun _ _ h => State.coreSync_kept rfl (State.setSeq_kept rfl h))

theorem State.progCleared_idle (s : State) (n : Nat) : ∀ lc ∈ (s.prog n).cores, ((s.progCleared n).seq lc).st = 0 := by
  refine State.each_establishes (P := fun lc u => (u.seq lc).st = 0) ?_ ?_ _
  · intro lc _ u
    rw [State.seq_congr (State.coreSync_seqs _ _), State.seq_setSeq_same]
  · intro lc lc' _ u h
    rw [State.seq_congr (State.coreSync_seqs _ _)]
    by_cases e : lc = lc'
    · rw [e, State.seq_setSeq_same]
    · rw [State.seq_setSeq_ne _ _ e, h]

/-- The completion of a program that is over: its status and last descriptor are those it ended with (R32). -/
theorem exec_programComplete {s : State} {n : Nat} (hn : n < 2048) (ha : (s.prog n).active = true)
    (hr : (s.prog n).ended = none ∧ s.progFinished (s.prog n) = true ∨ (∃ e, (s.prog n).ended = some e) ∧ s.progStopped (s.prog n) = true) :
    exec (.programComplete n) s = .next ((((s.progCleared n).complete n ((s.prog n).ended.getD 0) (s.prog n).startAct (s.prog n).lastDesc
      (s.slot n).late).lchSync true).bindActions) := by
  rcases hr with ⟨h, hr⟩ | ⟨⟨e, h⟩, hr⟩ <;>
    simp only [exec, execProgramComplete, State.progCleared, State.progLast, ha, h, hr, hn, Bool.and_self, if_true, decide_true, ite_self]

theorem exec_programComplete_idle {s : State} {n : Nat} (ha : (s.prog n).active = false) : exec (.programComplete n) s = .next s := by
  simp [exec, execProgramComplete, ha]

/-- The mirrors that follow a completion touch registers only. -/
theorem State.mirrored_kept (s : State) (host : Bool) : Kept (partsMask [pk .lchHost, pk .lchMgt, pk .stp]) s (s.lchSync host).bindActions :=
  State.bindActions_kept rfl (State.lchSync_kept rfl (.refl _ s))

/-- A program that is over while the host's ring has room (R32, R33). -/
theorem programComplete_written {s : State} {n : Nat} (hn : n < 2048) (ha : (s.prog n).active = true)
    (hr : (s.prog n).ended = none ∧ s.progFinished (s.prog n) = true ∨ (∃ e, (s.prog n).ended = some e) ∧ s.progStopped (s.prog n) = true)
    (hu : s.usedH < 4096) (hh : s.heldH = []) :
    ∃ t, exec (.programComplete n) s = .next t ∧
      tGet t.ring (s.fld .lchHost (Lch.CPL_PROD.sub 11 0)) =
        { s.cplOf n ((s.prog n).ended.getD 0) (s.prog n).startAct (s.prog n).lastDesc (s.slot n).late with
          phase := bitAt (s.fld .lchHost Lch.CPL_PROD) 12 } ∧
      (t.slot n).state = 4 ∧ t.usedH = s.usedH + 1 ∧ (t.prog n).active = false ∧ ∀ lc ∈ (s.prog n).cores, (t.seq lc).st = 0 := by
  have cleared := s.progCleared_kept n
  have of : (s.progCleared n).cplOf n = s.cplOf n := by
    funext st a d l
    simp only [State.cplOf, State.slot_congr cleared.slots, cleared.tick]
  refine ⟨_, exec_programComplete hn ha hr, ?_⟩
  obtain ⟨ring, slot, used⟩ := State.complete_host_room (s := s.progCleared n) ((s.prog n).ended.getD 0) (s.prog n).startAct (s.prog n).lastDesc
    (s.slot n).late hn (by rw [cleared.usedH]; exact hu) (by rw [cleared.heldH]; exact hh)
  rw [cleared.fld .lchHost, cleared.fld .lchHost, of] at ring
  have mirrored := ((s.progCleared n).complete n ((s.prog n).ended.getD 0) (s.prog n).startAct (s.prog n).lastDesc (s.slot n).late).mirrored_kept true
  have completed := State.complete_kept (p1 := n) (p2 := (s.prog n).ended.getD 0) (p3 := (s.prog n).startAct) (p4 := (s.prog n).lastDesc)
    (p5 := (s.slot n).late) (Msub.refl _) (.refl _ (s.progCleared n))
  refine ⟨by rw [mirrored.ring, ring], by rw [State.slot_congr mirrored.slots, slot], by rw [mirrored.usedH, used, cleared.usedH], ?_, ?_⟩
  · rw [State.prog_congr (mirrored.progs.trans completed.progs), State.progCleared, State.prog_setProg_same]
  · intro lc hlc
    rw [State.seq_congr (mirrored.seqs.trans completed.seqs), s.progCleared_idle n lc hlc]

/-- A program that is over while the host's ring is full: its completion is held (R33). -/
theorem programComplete_held {s : State} {n : Nat} (hn : n < 2048) (ha : (s.prog n).active = true) (he : (s.prog n).ended = none)
    (hf : s.progFinished (s.prog n) = true) (hu : 4096 ≤ s.usedH) :
    ∃ t c, exec (.programComplete n) s = .next t ∧ t.heldH = s.heldH ++ [c] ∧ c.status = 0 ∧ c.slot = n ∧ t.ring = s.ring ∧
      (t.slot n).state = (s.slot n).state := by
  have cleared := s.progCleared_kept n
  refine ⟨_, (s.progCleared n).cplOf n 0 (s.prog n).startAct (s.prog n).lastDesc (s.slot n).late, exec_programComplete hn ha (.inl ⟨he, hf⟩), ?_⟩
  rw [he, Option.getD_none, State.complete_host_full _ _ _ hn (by rw [cleared.usedH]; exact hu)]
  have mirrored := Kept.then (State.lchSync_kept (p1 := true) (Msub.refl _) (.refl _ ({ s.progCleared n with heldH := (s.progCleared n).heldH ++
    [(s.progCleared n).cplOf n 0 (s.prog n).startAct (s.prog n).lastDesc (s.slot n).late] } : State))) (State.mirrored_kept _ true)
  exact ⟨by rw [mirrored.heldH, cleared.heldH], rfl, rfl, by rw [mirrored.ring, cleared.ring],
    by rw [State.slot_congr mirrored.slots]; exact congrArg Slot.state (State.slot_congr cleared.slots n)⟩

/-! ### CPL_CONS_WRITE -/

theorem State.releaseHeld_none {s : State} (h : s.heldH = []) (fuel : Nat) : State.releaseHeld true fuel s = s := by
  cases fuel with
  | zero => rfl
  | succ k => simp [State.releaseHeld, h]

theorem exec_cplConsWrite_host {s : State} {m : Master} (v : Word) (hm : s.MayWrite m .lchHost) :
    exec (.cplConsWrite m true v) s = .next ((s.touch .lchHost).cplCons true v.toNat) := by
  simp only [exec, execCplConsWrite, if_true, State.gated_held _ hm]

/-- The mirrors of the launch page leave CPL_CONS. -/
theorem State.lchSync_cons (s : State) : (s.lchSync true).fld .lchHost (Lch.CPL_CONS.sub 11 0) = s.fld .lchHost (Lch.CPL_CONS.sub 11 0) := by
  simp only [State.lchSync, if_true]
  rw [State.fld_setFld_ne _ _ _ _ _ _ _ _ (regKey_ne_of_off (by decide)), State.fld_setFld_ne _ _ _ _ _ _ _ _ (regKey_ne_of_off (by decide))]

/-- The host's consumer passes entries of a ring for which nothing is held (R33). -/
theorem State.cplCons_host {s : State} (v : Nat) (hh : s.heldH = []) (hu : s.usedH ≤ 4096)
    (ha : (v % 4096 + 4096 - s.fld .lchHost (Lch.CPL_CONS.sub 11 0)) % 4096 ≤ s.usedH) :
    let t := s.cplCons true v
    t.fld .lchHost (Lch.CPL_CONS.sub 11 0) = v % 4096 ∧
      t.usedH = s.usedH - (v % 4096 + 4096 - s.fld .lchHost (Lch.CPL_CONS.sub 11 0)) % 4096 ∧ t.ring = s.ring := by
  unfold State.cplCons
  extract_lets pg old new used adv left moved t u
  have held : t.heldH = [] := by simp only [t, moved, if_true, State.setFld_heldH, hh]
  unfold u
  rw [State.releaseHeld_none held]
  refine ⟨?_, ?_, ?_⟩
  · rw [State.lchSync_cons]
    have cons : t.fld pg (Lch.CPL_CONS.sub 11 0) = moved.fld pg (Lch.CPL_CONS.sub 11 0) := rfl
    refine cons.trans ((State.fld_setFld_same _ _ _ _ _ ⟨by decide, by decide⟩).trans ?_)
    exact Nat.mod_mod v 4096
  · rw [State.lchSync_usedH]
    simp only [t, if_true, left, used, ha, adv, old, new, pg]
    omega
  · rw [State.lchSync_ring]
    simp only [t, moved, if_true, State.setFld_ring]

/-! ### The obligation -/

theorem launchPost_slots {s : State} {m : Master} {n : Nat} (w : DWord)
    (h : slotOwned m n = true → (s.slot n).state ≠ 0 ∧ (s.slot n).state ≠ 4) :
    (s.lchWrite m n 0 8 (w.toNat / 256 * 256 + 1)).slots = s.slots := by
  refine State.lchWrite_slots_of_refused fun ha ho => ?_
  have state := post_word_state w
  rw [State.lchWrite_state _ ha ho]
  exact State.lchState_refused (fun _ => h ho) (fun _ => by omega) (fun _ => by omega)

/-- Settles O27, clause by clause, from what a write of a slot, a completion and a write of CPL_CONS leave. -/
theorem launchSlotsAndCompletions : Obligations.LaunchSlotsAndCompletions := by
  unfold Obligations.LaunchSlotsAndCompletions
  refine ⟨?post, ?postRefused, ?cancel, ?cancelRefused, ?empty, ?emptyRefused, ?entry, ?entryRefused, ?foreign, ?written, ?held, ?ended, ?idle,
    ?consumed⟩
  case post =>
    intro s m n w ns ha ho hx
    obtain ⟨t, step, slot, cnt⟩ := launchPost_accepted w ns ha ho hx
    refine ⟨t, step, ?_⟩
    rw [slot]
    refine ⟨rfl, Slot.posted_state _ _ _, fun i hl hi => Slot.posted_word _ _ _ hl hi, rfl, fun near => ?_, fun far => ?_⟩
    · have near : s.nearBoundary ns = true := by simpa [State.nearBoundary] using near
      exact ⟨near, by rw [cnt, if_pos near]⟩
    · have far : s.nearBoundary ns = false := by simpa [State.nearBoundary] using far
      exact ⟨far, by rw [cnt, far]; rfl⟩
  case postRefused =>
    intro s m n w ns hl hu
    exact ⟨_, exec_launchPost_refused w ns fun _ => by omega, launchPost_slots w fun _ => by omega⟩
  case cancel =>
    intro s m n ha ho hx
    refine ⟨_, rfl, ?_⟩
    rw [State.lchWrite_state _ ha ho, State.lchState_cancel rfl hx, State.slot_congr (State.lchSync_slots _ _), State.slot_setSlot_same]
    exact ⟨Slot.withState_state _ (by decide), Slot.withState_seqTag _ _, rfl⟩
  case cancelRefused =>
    intro s m n hx
    refine ⟨_, rfl, State.lchWrite_slots_of_refused fun ha ho => ?_⟩
    rw [State.lchWrite_state _ ha ho]
    exact State.lchState_refused (fun h => absurd h (by decide)) (fun _ => by omega) (fun h => absurd h (by decide))
  case empty =>
    intro s m n ha ho hx
    refine ⟨_, rfl, ?_⟩
    rw [State.lchWrite_state _ ha ho, State.lchState_empty rfl hx, State.slot_congr (State.lchSync_slots _ _), State.slot_setSlot_same]
    exact ⟨Slot.withState_state _ (by decide), rfl⟩
  case emptyRefused =>
    intro s m n hx
    refine ⟨_, rfl, State.lchWrite_slots_of_refused fun ha ho => ?_⟩
    rw [State.lchWrite_state _ ha ho]
    exact State.lchState_refused (fun h => absurd h (by decide)) (fun h => absurd h (by decide)) (fun _ => hx)
  case entry =>
    intro s m n off wide v ha ho hl hu hx
    refine ⟨_, rfl, ?_⟩
    rw [State.lchWrite_word _ _ ha ho (by omega) hx, State.slot_setSlot_same]
    exact ⟨Slot.word_setWord_same _ _ (by omega), fun i hi hne => Slot.word_setWord_ne _ _ (by omega) hi hne⟩
  case entryRefused =>
    intro s m n off wide v hl h0 h4
    exact ⟨_, rfl, State.lchWrite_slots_of_refused fun ha ho => State.lchWrite_word_refused _ _ ha ho (by omega) h0 h4⟩
  case foreign =>
    intro s m n w ns off wide v ho c hc
    have write : ∀ off size v, (s.lchWrite m n off size v).slots = s.slots ∧ (s.lchWrite m n off size v).mem = s.mem := fun _ _ _ =>
      ⟨State.lchWrite_slots_of_refused fun _ own => absurd own (by rw [ho]; decide), State.lchWrite_foreign_mem ho⟩
    simp only [List.mem_cons, List.not_mem_nil, or_false] at hc
    rcases hc with rfl | rfl | rfl | rfl
    · exact ⟨_, exec_launchPost_refused w ns fun own => absurd own (by rw [ho]; decide), write _ _ _⟩
    · exact ⟨_, rfl, write _ _ _⟩
    · exact ⟨_, rfl, write _ _ _⟩
    · exact ⟨_, rfl, write _ _ _⟩
  case written =>
    intro s n hn ha he hf hu hh
    obtain ⟨t, step, ring, slot, used, prog, idle⟩ := programComplete_written hn ha (.inl ⟨he, hf⟩) hu hh
    rw [he] at ring
    exact ⟨t, _, step, ring, rfl, rfl, rfl, rfl, rfl, rfl, rfl, rfl, slot, used, prog, idle⟩
  case held => exact fun s n hn ha he hf hu => programComplete_held hn ha he hf hu
  case ended =>
    intro s n e hn ha he hf hu hh
    obtain ⟨t, step, ring, -⟩ := programComplete_written hn ha (.inr ⟨⟨e, he⟩, hf⟩) hu hh
    rw [he] at ring
    exact ⟨t, _, step, ring, rfl, rfl, rfl⟩
  case idle => exact fun s n ha => exec_programComplete_idle ha
  case consumed =>
    intro s m v hm hh _ ha hu
    exact ⟨_, exec_cplConsWrite_host v hm, State.cplCons_host (s := s.touch .lchHost) v.toNat hh hu ha⟩

end Sys2Proof.Machine
end

section
/-! SUPPORT. The binding map (R19–R22): the registers of a cluster's page, the states of its physical cores, and the copy of a tile. -/
namespace Sys2Proof.Machine

theorem clPage_eq {c : Nat} (d : Nat) (hc : c < 4) : clPage (4 * d + c) = .cluster d c := by
  rw [clPage, show (4 * d + c) / 4 = d by omega, show (4 * d + c) % 4 = c by omega]

theorem Kept.clFld {M : Nat} {s t : State} (h : Kept M s t) (cl : Nat) (f : Fld) (hm : M.testBit 31 = false := by decide +kernel) :
    t.fld (clPage cl) f = s.fld (clPage cl) f := h.fld (clPage cl) f 0 hm

/-! ### A map is checked against the map in effect and the states of the cores (R21) -/

theorem State.mapValid_congr {s t : State} {cl : Nat} (hm : t.bindMap cl = s.bindMap cl) (hp : ∀ p, t.pcore cl p = s.pcore cl p) (m : Nat) :
    t.mapValid cl m = s.mapValid cl m := by
  simp only [State.mapValid, State.moved, hm, hp]

/-- A write of another register of the page leaves the map and the states of the cores. -/
theorem State.mapValid_setFld (s : State) (cl : Nat) (f : Fld) (v m : Nat) (h : f.off ≠ 0x100) (h' : f.off ≠ 0x10C) :
    (s.setFld (clPage cl) f v).mapValid cl m = s.mapValid cl m :=
  State.mapValid_congr (State.fld_setFld_ne _ _ _ _ _ _ _ _ (regKey_ne_of_off (Ne.symm h)))
    (fun _ => State.fld_setFld_ne _ _ _ _ _ _ _ _ (regKey_ne_of_off (Ne.symm h'))) m

@[simp] theorem State.bindX_setBindX_same (s : State) (cl : Nat) (x : BindX) : (s.setBindX cl x).bindX cl = x := smGet_smSet_same _ _ _ _

theorem State.bindX_congr {s t : State} (h : t.binds = s.binds) (cl : Nat) : t.bindX cl = s.bindX cl := by rw [State.bindX, h, State.bindX]

theorem State.setBindArm_binds (s : State) (cl : Nat) (b : Bool) : (s.setBindArm cl b).binds = s.binds := by
  rw [State.setBindArm, State.setFld_binds, State.setFld_binds]

theorem State.setBindArm_fld (s : State) (cl : Nat) (b : Bool) {f : Fld} (h : f.off ≠ 0x108) :
    (s.setBindArm cl b).fld (clPage cl) f = s.fld (clPage cl) f := by
  rw [State.setBindArm, State.fld_setFld_ne _ _ _ _ _ _ _ _ (regKey_ne_of_off h), State.fld_setFld_ne _ _ _ _ _ _ _ _ (regKey_ne_of_off h)]

theorem State.setBindArm_pending (s : State) (cl : Nat) (b : Bool) : (s.setBindArm cl b).bindPending cl = b := by
  rw [State.bindPending, State.flag, State.setBindArm, State.fld_setFld_same _ _ _ _ _ ⟨by decide, by decide⟩]
  cases b <;> rfl

theorem State.setBindArm_arm (s : State) (cl : Nat) (b : Bool) : (s.setBindArm cl b).flag (clPage cl) Cl.BIND_CTRL_ARM = b := by
  rw [State.flag, State.setBindArm, State.fld_setFld_disj _ _ Cl.BIND_CTRL_PENDING Cl.BIND_CTRL_ARM _ _ ⟨by decide, by decide⟩ rfl (.inl (by decide)),
    State.fld_setFld_same _ _ _ _ _ ⟨by decide, by decide⟩]
  cases b <;> rfl

/-- A valid map is captured with TEST_OUT, and the change is pending; the map in effect stays (R21). -/
theorem State.bindArm_valid {s : State} {cl : Nat} (h : s.mapValid cl (s.fld (clPage cl) Cl.BIND_NEXT) = true) :
    let t := s.bindArm cl
    t.flag (clPage cl) Cl.BIND_CTRL_ARM = true ∧ t.bindPending cl = true ∧ (t.bindX cl).map = s.fld (clPage cl) Cl.BIND_NEXT ∧
      (t.bindX cl).testOut = s.flag (clPage cl) Cl.BIND_CTRL_TEST_OUT ∧ t.bindMap cl = s.bindMap cl := by
  simp only [State.bindArm, h, if_true]
  refine ⟨State.setBindArm_arm _ _ _, State.setBindArm_pending _ _ _, ?_, ?_, State.setBindArm_fld _ _ _ (by decide)⟩
  · rw [State.bindX_congr (State.setBindArm_binds _ _ _), State.bindX_setBindX_same]
  · rw [State.bindX_congr (State.setBindArm_binds _ _ _), State.bindX_setBindX_same]

/-- A map that is refused sets BIND_INVALID, and changes neither the map in effect nor the one that is pending (R21). -/
theorem State.bindArm_invalid {s : State} {cl : Nat} (h : s.mapValid cl (s.fld (clPage cl) Cl.BIND_NEXT) = false) :
    let t := s.bindArm cl
    t.binds = s.binds ∧ bitAt (t.fld (clPage cl) Hd.ERR_STAT) 0 = true ∧ t.bindPending cl = s.bindPending cl ∧ t.bindMap cl = s.bindMap cl := by
  simp only [State.bindArm, h, Bool.false_eq_true, if_false]
  have event := State.event_kept (p0 := s.setErr (clPage cl) 0) (p1 := 0x1104) (p2 := upathCluster (cl / 4) (cl % 4)) (p3 := []) (p4 := false)
    (Msub.refl _) (.refl _ _)
  have others : ∀ f : Fld, 0x100 ≤ f.off → (s.bindReject cl).fld (clPage cl) f = s.fld (clPage cl) f := by
    intro f hf
    have key : regKey (clPage cl) f.off 0 ∉ errKeys (clPage cl) := by
      simp only [errKeys, List.mem_cons, List.not_mem_nil, or_false, not_or]
      exact ⟨regKey_ne_of_off (by omega), regKey_ne_of_off (by omega), regKey_ne_of_off (by omega), regKey_ne_of_kind (show 31 ≠ 0 by decide)⟩
    rw [State.bindReject, event.clFld, State.fld, State.setErr_reg_ne _ _ _ key, State.fld]
  refine ⟨?_, ?_, ?_, others _ (by decide)⟩
  · exact (State.bindReject_kept (Msub.refl _) (.refl _ s)).agree .binds (by decide +kernel)
  · rw [State.bindReject, event.clFld]
    exact State.setErr_sets _ _ (by decide)
  · rw [State.bindPending, State.flag, others _ (by decide), State.bindPending, State.flag]

end Sys2Proof.Machine
end

section
/-! SUPPORT. The copy of a tile (R22): the tile memory that a moved core had is left where its physical core was. -/
namespace Sys2Proof.Machine

/-- A key not above the lower bound of a map's keys is not listed. -/
theorem smGet_of_not_above {α : Type} [DecidableEq α] {d : Nat → α} {m : SMap α} {l k : Nat} (h : smWfFrom d (some l) m = true) (hk : k ≤ l)
    (d' : Nat → α) : smGet d' m k = d' k := by
  induction m generalizing l with
  | nil => rfl
  | cons e t ih =>
    obtain ⟨a, w⟩ := e
    simp only [smWfFrom, Bool.and_eq_true, decide_eq_true_eq] at h
    obtain ⟨⟨above, -⟩, rest⟩ := h
    rw [smGet, if_neg (by omega)]
    exact ih rest (by omega)

theorem State.byte_setByte_same (s : State) (k : Nat) (b : Byte) : (s.setByte k b).byte k = b := smGet_smSet_same _ _ _ _

theorem State.byte_setByte_ne (s : State) {k k' : Nat} (b : Byte) (h : k' ≠ k) : (s.setByte k b).byte k' = s.byte k' :=
  smGet_smSet_ne _ _ _ _ _ h

/-- Bytes listed in key order from `a` upwards, written from `b` upwards: each place reads the byte listed for it, or what it held. -/
theorem State.byte_shifted {a b : Nat} {l : SMap Byte} {lo : Option Nat} (hl : smWfFrom (fun _ => (0 : Byte)) lo l = true)
    (ha : ∀ e ∈ l, a ≤ e.1) (s : State) (i : Nat) :
    (l.foldl (fun s e => s.setByte (e.1 - a + b) e.2) s).byte (b + i) = smGet (fun _ => s.byte (b + i)) l (a + i) := by
  induction l generalizing s lo with
  | nil => rfl
  | cons e t ih =>
    obtain ⟨k, w⟩ := e
    have hk : a ≤ k := ha (k, w) List.mem_cons_self
    simp only [smWfFrom, Bool.and_eq_true] at hl
    rw [List.foldl_cons, ih hl.2 (fun e he => ha e (List.mem_cons_of_mem _ he)), smGet]
    by_cases here : k = a + i
    · subst here
      rw [if_pos rfl, smGet_of_not_above hl.2 (Nat.le_refl _), show a + i - a + b = b + i by omega, State.byte_setByte_same]
    · rw [if_neg here, State.byte_setByte_ne _ _ (by omega)]

theorem State.copyTile_byte {s : State} (hm : memWf s.mem = true) (cl n : Nat) {i : Nat} (hi : i < 16777216) :
    (s.copyTile cl n).byte (sramKey (cl * clusterSpan + 8 * 16777216) + i) = s.byte (sramKey (cl * clusterSpan + n * 16777216) + i) := by
  unfold State.copyTile
  extract_lets a b here cleared
  have blank : cleared.byte (b + i) = 0 := smGet_filter_false _ _ _ _ fun _ => by simp [hi]
  rw [State.byte_shifted (lo := none) (smWf_filter _ hm) (fun e he => by
    have := (List.mem_filter.mp he).2
    simp only [Bool.and_eq_true, decide_eq_true_eq] at this
    exact this.1), blank]
  exact smGet_filter_true _ _ _ _ fun _ _ => by simp [hi]

end Sys2Proof.Machine
end

section
/-! SUPPORT. The end of a binding copy (R22): the states of the cores, the map in effect, its count and its tick. -/
namespace Sys2Proof.Machine

/-! ### The state of a physical core (Table 1.3) -/

theorem State.setPcore_regs (s : State) (cl p v : Nat) {f : Fld} (b : Nat) :
    (s.setPcore cl p v).fld (clPage cl) f b = (s.setFld (clPage cl) ⟨0x10C, 2 * p + 1, 2 * p⟩ v).fld (clPage cl) f b := by
  unfold State.setPcore
  refine State.each_keeps (I := fun u => u.fld (clPage cl) f b = _) (fun e _ u h => ?_) rfl
  refine (State.fld_setFld_ne _ _ _ _ _ _ _ _ (regKey_ne_of_kind ?_)).trans h
  exact show 31 ≠ 30 by decide

theorem State.setPcore_fld (s : State) (cl p v : Nat) {f : Fld} (h : f.off ≠ 0x10C) :
    (s.setPcore cl p v).fld (clPage cl) f = s.fld (clPage cl) f :=
  (s.setPcore_regs cl p v 0).trans (State.fld_setFld_ne _ _ _ _ _ _ _ _ (regKey_ne_of_off h))

theorem State.pcore_setPcore_same (s : State) (cl : Nat) {p v : Nat} (hp : p < 9) (hv : v < 4) : (s.setPcore cl p v).pcore cl p = v := by
  rw [State.pcore, State.setPcore_regs, State.fld_setFld_same _ _ _ _ _ ⟨by simp, by simp only; omega⟩]
  simp only [show 2 * p + 1 + 1 - 2 * p = 2 by omega]
  omega

theorem State.pcore_setPcore_ne (s : State) (cl : Nat) {p p' : Nat} (v : Nat) (hp : p < 9) (h : p' ≠ p) :
    (s.setPcore cl p v).pcore cl p' = s.pcore cl p' := by
  rw [State.pcore, State.setPcore_regs,
    State.fld_setFld_disj _ _ ⟨0x10C, 2 * p + 1, 2 * p⟩ ⟨0x10C, 2 * p' + 1, 2 * p'⟩ _ _ ⟨by simp, by simp only; omega⟩ rfl
      (by simp only; omega), State.pcore]

/-! ### The cores move -/

/-- Step 3 of R22: the cores that the map in effect has and the new map has not are free, with `v` as their state. -/
def State.coresFreed (s : State) (cl old new v : Nat) : State :=
  s.each (List.range 8) (fun n s =>
    if mapAt old n < 9 && !(List.range 8).any (fun k => mapAt new k == mapAt old n) then s.setPcore cl (mapAt old n) v else s)

/-- The cores of a map are BOUND. -/
def State.coresBound (s : State) (cl new : Nat) : State :=
  s.each (List.range 8) (fun n s => if mapAt new n < 9 then s.setPcore cl (mapAt new n) 0 else s)

theorem State.coresFreed_pcore (s : State) (cl old new : Nat) {v : Nat} (hv : v < 4) : ∀ n < 8, mapAt old n < 9 →
    (∀ k < 8, mapAt new k ≠ mapAt old n) → (s.coresFreed cl old new v).pcore cl (mapAt old n) = v := by
  intro n hn hp hfree
  have free : ∀ n, (mapAt old n < 9 && !(List.range 8).any (fun k => mapAt new k == mapAt old n)) = true ↔
      mapAt old n < 9 ∧ ∀ k < 8, mapAt new k ≠ mapAt old n := by intro n; simp
  refine State.each_establishes (P := fun n u => (mapAt old n < 9 ∧ ∀ k < 8, mapAt new k ≠ mapAt old n) → u.pcore cl (mapAt old n) = v)
    ?_ ?_ s n (List.mem_range.mpr hn) ⟨hp, hfree⟩
  · intro n _ u h
    rw [if_pos ((free n).mpr h), State.pcore_setPcore_same _ _ h.1 hv]
  · intro n k _ u h hn
    split
    · next hk =>
      by_cases e : mapAt old n = mapAt old k
      · rw [e, State.pcore_setPcore_same _ _ ((free k).mp hk).1 hv]
      · rw [State.pcore_setPcore_ne _ _ _ ((free k).mp hk).1 e, h hn]
    · exact h hn

theorem State.coresBound_pcore (s : State) (cl new : Nat) : ∀ n < 8, mapAt new n < 9 → (s.coresBound cl new).pcore cl (mapAt new n) = 0 := by
  intro n hn hp
  refine State.each_establishes (P := fun n u => mapAt new n < 9 → u.pcore cl (mapAt new n) = 0) ?_ ?_ s n (List.mem_range.mpr hn) hp
  · intro n _ u h
    rw [if_pos h, State.pcore_setPcore_same _ _ h (by decide)]
  · intro n k _ u h hn
    split
    · next hk =>
      by_cases e : mapAt new n = mapAt new k
      · rw [e, State.pcore_setPcore_same _ _ hk (by decide)]
      · rw [State.pcore_setPcore_ne _ _ _ hk e, h hn]
    · exact h hn

theorem State.coresBound_pcore_ne (s : State) (cl new : Nat) {p : Nat} (h : ∀ k < 8, mapAt new k ≠ p) :
    (s.coresBound cl new).pcore cl p = s.pcore cl p := by
  refine State.each_keeps (I := fun u => u.pcore cl p = s.pcore cl p) (fun k hk u hu => ?_) rfl
  split
  · next hp => rw [State.pcore_setPcore_ne _ _ _ hp (Ne.symm (h k (List.mem_range.mp hk))), hu]
  · exact hu

/-- The cores and tiles of a cluster where its binding copy has ended, before its registers show the new map (R22). -/
def State.coresMoved (s : State) (cl : Nat) : State :=
  let x := s.bindX cl
  let old := s.bindMap cl
  ((s.coresFreed cl old x.goMap (if x.goTest then 2 else 1)).coresBound cl x.goMap).each x.copying
    (fun n s => if mapAt old n < 9 then s.copyTile cl n else s)

theorem State.tiles_fld (s : State) (cl old : Nat) (l : List Nat) (f : Fld) :
    (s.each l (fun n s => if mapAt old n < 9 then s.copyTile cl n else s)).fld (clPage cl) f = s.fld (clPage cl) f :=
  State.each_keeps (I := fun u => u.fld (clPage cl) f = s.fld (clPage cl) f) (fun n _ u h => by
    split
    · rw [(State.copyTile_kept (Msub.refl _) (.refl _ u)).clFld, h]
    · exact h) rfl

theorem State.coresMoved_fld (s : State) (cl : Nat) {f : Fld} (h : f.off ≠ 0x10C) : (s.coresMoved cl).fld (clPage cl) f = s.fld (clPage cl) f := by
  have set : ∀ (u : State) (c : Prop) [Decidable c] (p v : Nat), u.fld (clPage cl) f = s.fld (clPage cl) f →
      (if c then u.setPcore cl p v else u).fld (clPage cl) f = s.fld (clPage cl) f := by
    intro u c _ p v hu
    split
    · rw [State.setPcore_fld _ _ _ _ h, hu]
    · exact hu
  rw [State.coresMoved, State.tiles_fld]
  exact State.each_keeps (I := fun u => u.fld (clPage cl) f = s.fld (clPage cl) f) (fun _ _ u hu => set u _ _ _ hu)
    (State.each_keeps (I := fun u => u.fld (clPage cl) f = s.fld (clPage cl) f) (fun _ _ u hu => set u _ _ _ hu) rfl)

theorem State.coresMoved_kept (s : State) (cl : Nat) : Kept (partsMask [.page 31, .page 30, .memory]) s (s.coresMoved cl) :=
  Kept.each (Kept.each (Kept.each (.refl _ s) fun _ _ h => .ite (State.setPcore_kept rfl h) h) fun _ _ h => .ite (State.setPcore_kept rfl h) h)
    fun _ _ h => .ite (State.copyTile_kept rfl h) h

theorem State.coresMoved_mem {s : State} {cl n i : Nat} (hm : memWf s.mem = true) (hx : (s.bindX cl).copying = [n]) (hn : mapAt (s.bindMap cl) n < 9)
    (hi : i < 16777216) : (s.coresMoved cl).byte (sramKey (cl * clusterSpan + 8 * 16777216) + i) =
      s.byte (sramKey (cl * clusterSpan + n * 16777216) + i) := by
  have bound : Kept (partsMask [.page 31, .page 30]) s ((s.coresFreed cl (s.bindMap cl) (s.bindX cl).goMap (if (s.bindX cl).goTest then 2 else 1)).coresBound
      cl (s.bindX cl).goMap) :=
    Kept.each (Kept.each (.refl _ s) fun _ _ h => .ite (State.setPcore_kept rfl h) h) fun _ _ h => .ite (State.setPcore_kept rfl h) h
  simp only [State.coresMoved, hx, State.each, List.foldl_cons, List.foldl_nil, hn, if_true]
  rw [State.copyTile_byte (by rw [bound.mem]; exact hm) cl n hi, State.byte, bound.mem, State.byte]

/-! ### The registers show it -/

theorem State.fld64_setFld64_same (s : State) (pg : Page) (off b : Nat) {v : Nat} (h : v < 2 ^ 64) :
    (s.setFld64 pg ⟨off, 31, 0⟩ v b).fld64 pg ⟨off, 31, 0⟩ b = v := by
  rw [State.fld64, State.setFld64, State.fld_setFld_same _ _ _ _ _ (Fld.ok_word _),
    State.fld_setFld_ne _ _ _ _ _ _ _ _ (regKey_ne_of_off (by simp only; omega)), State.fld_setFld_same _ _ _ _ _ (Fld.ok_word _)]
  simp only
  omega

theorem State.fld64_setFld64_ne (s : State) (pg : Page) (off b v : Nat) {f : Fld} (h : f.off ≠ off) (h' : f.off ≠ off + 4) :
    (s.setFld64 pg ⟨off, 31, 0⟩ v b).fld pg f b = s.fld pg f b := by
  rw [State.setFld64, State.fld_setFld_ne _ _ _ _ _ _ _ _ (regKey_ne_of_off h'), State.fld_setFld_ne _ _ _ _ _ _ _ _ (regKey_ne_of_off h)]

theorem State.tick_lt (s : State) : s.tick < 2 ^ 64 := by
  have lo := s.fld_lt .time ⟨0x11C, 31, 0⟩ 0
  have hi := s.fld_lt .time ⟨0x11C + 4, 31, 0⟩ 0
  simp only [State.tick, State.fld64, Tim.TICK_LO] at *
  omega

/-- The state in which a cluster's registers show the map that its copy has made: BIND_MAP, BIND_SEQ and BIND_TICK (R22). -/
def State.bindShown (s : State) (cl : Nat) : State :=
  let t := ((s.coresMoved cl).setFld (clPage cl) Cl.BIND_MAP (s.bindX cl).goMap).bump (clPage cl) Cl.BIND_SEQ
  (t.setFld64 (clPage cl) Cl.BIND_TICK_LO t.tick).setBindX cl { s.bindX cl with goMap := 0, goTest := false, copying := [], fence := none }

theorem State.bindFinish_eq (s : State) (cl : Nat) :
    s.bindFinish cl = ((s.bindShown cl).bindSync cl).event 0x1105 (upathCluster (cl / 4) (cl % 4)) := rfl

theorem State.bindShown_fld (s : State) (cl : Nat) {f : Fld} (h : f.off ∉ [0x100, 0x110, 0x114, 0x118]) :
    (s.bindShown cl).fld (clPage cl) f = (s.coresMoved cl).fld (clPage cl) f := by
  simp only [List.mem_cons, List.not_mem_nil, or_false, not_or] at h
  obtain ⟨map, seq, lo, hi⟩ := h
  rw [State.bindShown, State.setBindX_fld, Cl.BIND_TICK_LO, State.fld64_setFld64_ne _ _ _ _ _ lo hi, State.bump, State.bumpBy,
    State.fld_setFld_ne _ _ _ _ _ _ _ _ (regKey_ne_of_off seq), State.fld_setFld_ne _ _ _ _ _ _ _ _ (regKey_ne_of_off map)]

theorem State.bindShown_map (s : State) (cl : Nat) (h : (s.bindX cl).goMap < 2 ^ 32) : (s.bindShown cl).bindMap cl = (s.bindX cl).goMap := by
  rw [State.bindMap, State.bindShown, State.setBindX_fld, Cl.BIND_TICK_LO, State.fld64_setFld64_ne _ _ _ _ _ (by decide) (by decide), State.bump,
    State.bumpBy, State.fld_setFld_ne _ _ _ _ _ _ _ _ (regKey_ne_of_off (by decide)),
    State.fld_setFld_same _ _ _ _ _ ⟨by decide, by decide⟩]
  exact Nat.mod_eq_of_lt h

theorem State.bindShown_seq (s : State) (cl : Nat) :
    (s.bindShown cl).fld (clPage cl) Cl.BIND_SEQ = min (s.fld (clPage cl) Cl.BIND_SEQ + 1) (2 ^ 32 - 1) := by
  rw [State.bindShown, State.setBindX_fld, Cl.BIND_TICK_LO, State.fld64_setFld64_ne _ _ _ _ _ (by decide) (by decide), Cl.BIND_SEQ,
    State.fld_bump_same, State.fld_setFld_ne _ _ _ _ _ _ _ _ (regKey_ne_of_off (by decide)), State.coresMoved_fld _ _ (by decide)]

theorem State.bindShown_tick (s : State) (cl : Nat) : (s.bindShown cl).fld64 (clPage cl) Cl.BIND_TICK_LO = s.tick := by
  have before : Kept (partsMask [.page 31, .page 30, .memory]) s
      (((s.coresMoved cl).setFld (clPage cl) Cl.BIND_MAP (s.bindX cl).goMap).bump (clPage cl) Cl.BIND_SEQ) :=
    have page : (partsMask [.page 31, .page 30, .memory]).testBit 31 = true := rfl
    State.bump_kept rfl (State.setFld_kept rfl (s.coresMoved_kept cl) page) page
  rw [State.bindShown, State.fld64, State.setBindX_fld, State.setBindX_fld, ← State.fld64, Cl.BIND_TICK_LO,
    State.fld64_setFld64_same _ _ _ _ (State.tick_lt _), before.tick]

/-- Bringing the pages of a cluster's cores up to date leaves its map, and all but its status. -/
theorem State.bindSync_fld (s : State) (cl : Nat) {f : Fld} (h : f.off ≠ 0x14) : (s.bindSync cl).fld (clPage cl) f = s.fld (clPage cl) f := by
  unfold State.bindSync
  extract_lets m cores shown
  have core : (partsMask [.page 29, .page 30]).testBit 29 = true := rfl
  have engine : (partsMask [.page 29, .page 30]).testBit 30 = true := rfl
  have ofCores : Kept (partsMask [.page 29, .page 30]) s cores :=
    Kept.each (.refl _ s) fun p u hu => by
      extract_lets n pg t v w
      have hv : Kept (partsMask [.page 29, .page 30]) s v := State.setFld_kept rfl (State.setFld_kept rfl hu core) core
      refine .ite hv (Kept.each ?_ fun e u hu => State.setFld_kept rfl hu engine)
      exact State.setFld_kept rfl (State.setFld_kept rfl (State.setFld_kept rfl hv core) core) core
  have synced : Kept (partsMask [.page 29, .page 30]) shown (shown.each (List.range 8) (fun n s => s.coreSync (cl * 8 + n))) :=
    Kept.each (.refl _ shown) fun n u hu => State.coreSync_kept rfl hu
  rw [synced.clFld, State.fld_setFld_ne _ _ _ _ _ _ _ _ (regKey_ne_of_off h), ofCores.clFld]

theorem State.bindFinish_fld (s : State) (cl : Nat) {f : Fld} (h : f.off ≠ 0x14) :
    (s.bindFinish cl).fld (clPage cl) f = (s.bindShown cl).fld (clPage cl) f := by
  rw [State.bindFinish_eq, (State.event_kept (Msub.refl _) (.refl _ _)).clFld, State.bindSync_fld _ _ h]

theorem State.bindFinish_pcore (s : State) (cl p : Nat) : (s.bindFinish cl).pcore cl p = (s.coresMoved cl).pcore cl p := by
  rw [State.pcore, State.bindFinish_fld _ _ (by simp), State.bindShown_fld _ _ (by simp), State.pcore]

theorem State.coresMoved_pcore (s : State) (cl p : Nat) : (s.coresMoved cl).pcore cl p =
    ((s.coresFreed cl (s.bindMap cl) (s.bindX cl).goMap (if (s.bindX cl).goTest then 2 else 1)).coresBound cl (s.bindX cl).goMap).pcore cl p := by
  rw [State.pcore, State.coresMoved, State.tiles_fld, State.pcore]

theorem State.bindFinish_idle (s : State) (cl : Nat) : (s.bindFinish cl).bindBusy cl = false := by
  have binds : (s.bindFinish cl).binds = (s.bindShown cl).binds :=
    ((State.bindSync_kept (p1 := cl) (Msub.refl _) (.refl _ (s.bindShown cl))).then
      (State.event_kept (Msub.refl _) (.refl _ _))).agree .binds (by decide +kernel)
  rw [State.bindBusy, State.bindX_congr binds, State.bindShown, State.bindX_setBindX_same]
  rfl

theorem State.bindFinish_mem (s : State) (cl : Nat) : (s.bindFinish cl).mem = (s.coresMoved cl).mem := by
  have mem : (s.bindFinish cl).mem = (s.bindShown cl).mem :=
    ((State.bindSync_kept (p1 := cl) (Msub.refl _) (.refl _ (s.bindShown cl))).then (State.event_kept (Msub.refl _) (.refl _ _))).mem
  rw [mem, State.bindShown, State.setBindX_mem, State.setFld64_mem, State.bump_mem, State.setFld_mem]

end Sys2Proof.Machine
end

section
/-! SUPPORT. Step fences (R35, R36): when the waits of a partition's cores end, and what the closing of a step leaves. -/
namespace Sys2Proof.Machine

/-! ### A wait ends -/

/-- The descriptors in flight on a core, by identity. -/
def State.flightIds (s : State) (lc : Nat) : List Nat := (s.seq lc).infl.map (·.id)

theorem State.flightIds_congr {s t : State} (h : t.seqs = s.seqs) (lc : Nat) : t.flightIds lc = s.flightIds lc := by
  rw [State.flightIds, State.seq_congr h, State.flightIds]

theorem State.flightIds_modSeq (s : State) (lc : Nat) {f : Seq → Seq} {g : List Nat → List Nat}
    (h : ∀ q : Seq, (f q).infl.map (·.id) = g (q.infl.map (·.id))) (lc' : Nat) :
    (s.modSeq lc f).flightIds lc' = if lc' = lc then g (s.flightIds lc) else s.flightIds lc' := by
  rw [State.flightIds, State.modSeq]
  split
  · next e => rw [e, State.seq_setSeq_same, h, State.flightIds]
  · next e => rw [State.seq_setSeq_ne _ _ e, State.flightIds]

theorem State.flightIds_modSeq_same (s : State) (lc : Nat) {f : Seq → Seq} (h : ∀ q : Seq, (f q).infl.map (·.id) = q.infl.map (·.id)) (lc' : Nat) :
    (s.modSeq lc f).flightIds lc' = s.flightIds lc' := by
  rw [State.flightIds_modSeq (g := fun l => l) _ _ h]
  split
  · next e => rw [e]
  · rfl

theorem State.flightIds_modInfl (s : State) (lc id lc' : Nat) {f : Infl → Infl} (h : ∀ i, (f i).id = i.id) :
    (s.modInfl lc id f).flightIds lc' = s.flightIds lc' := by
  have same : ∀ i : Infl, (if i.id = id then f i else i).id = i.id := by
    intro i
    split
    · exact h i
    · rfl
  exact State.flightIds_modSeq_same _ _ (fun q => by simp only [List.map_map, Function.comp_def, same]) _

theorem State.flightIds_completedAt (s : State) (lc desc lc' : Nat) : (s.completedAt lc desc).flightIds lc' = s.flightIds lc' := by
  unfold State.completedAt
  extract_lets t n p
  have noted : t.flightIds lc' = s.flightIds lc' := by
    refine State.flightIds_modSeq_same _ _ ?_ _
    exact fun _ => rfl
  split
  · rw [State.flightIds_congr (State.setProg_seqs _ _ _), noted]
  · exact noted

/-- The program on a core keeps its partition when a descriptor completes. -/
theorem State.completedAt_part (s : State) (lc desc n : Nat) : ((s.completedAt lc desc).prog n).part = (s.prog n).part := by
  unfold State.completedAt
  extract_lets t k p
  have progs : ∀ k, t.prog k = s.prog k := State.prog_congr (State.modSeq_progs _ _ _)
  split
  · by_cases e : n = k
    · rw [e, State.prog_setProg_same, ← progs]
    · rw [State.prog, State.setProg, ← progs]
      exact congrArg Prog.part (smGet_smSet_ne _ _ _ _ _ e)
  · rw [progs]

/-- The flags and counters that a retired descriptor leaves are no part of a flight or of a program. -/
theorem State.retire_leaves (s : State) (lc id : Nat) :
    (∀ lc', (s.retire lc id).flightIds lc' = if lc' = lc then (s.flightIds lc).filter (· != id) else s.flightIds lc') ∧
      ∀ n, ((s.retire lc id).prog n).part = (s.prog n).part := by
  unfold State.retire
  split
  · next absent =>
    have : (s.flightIds lc).filter (· != id) = s.flightIds lc := by
      simpa [State.flightIds] using List.find?_eq_none.mp absent
    refine ⟨fun lc' => ?_, fun _ => rfl⟩
    split
    · next e => rw [e, this]
    · rfl
  · next i found =>
    extract_lets fl t counted u
    have left : ∀ lc', t.flightIds lc' = if lc' = lc then (s.flightIds lc).filter (· != id) else s.flightIds lc' :=
      State.flightIds_modSeq (g := List.filter (· != id)) _ _ (fun q => by simp only [List.filter_map, Function.comp_def])
    have kept : counted.seqs = t.seqs ∧ counted.progs = t.progs := by
      unfold counted
      split
      · exact ⟨rfl, rfl⟩
      · extract_lets a b
        have ha : a.seqs = t.seqs ∧ a.progs = t.progs := by unfold a; split <;> simp
        have hb : b.seqs = t.seqs ∧ b.progs = t.progs := by unfold b; split <;> simp [ha]
        split <;> simp [hb]
    have told : u.seqs = counted.seqs ∧ u.progs = counted.progs := by
      unfold u
      split
      · exact ⟨rfl, rfl⟩
      · have event := State.event_kept (p0 := counted) (p1 := 0x1111) (p2 := counted.coreUpath lc)
          (p3 := [(2, (counted.prog (counted.seq lc).slot).ctx), (8, i.desc), (2, min i.inv 65535)]) (p4 := false) (Msub.refl _) (.refl _ _)
        exact ⟨event.seqs, event.progs⟩
    refine ⟨fun lc' => ?_, fun n => ?_⟩
    · rw [State.flightIds_congr (State.coreSync_seqs _ _), State.flightIds_completedAt, State.flightIds_congr (told.1.trans kept.1), left]
    · rw [State.prog_congr (State.coreSync_kept (Msub.refl _) (.refl _ _)).progs, State.completedAt_part,
        State.prog_congr (told.2.trans kept.2), State.prog_congr (State.modSeq_progs _ _ _)]

/-- A descriptor whose wait is over leaves the flight of its core, and the programs keep their partitions. -/
theorem State.waitDone_leaves (s : State) (lc id : Nat) :
    (∀ lc', (s.waitDone lc id).flightIds lc' = if lc' = lc then (s.flightIds lc).filter (· != id) else s.flightIds lc') ∧
      ∀ n, ((s.waitDone lc id).prog n).part = (s.prog n).part := by
  obtain ⟨flights, parts⟩ := State.retire_leaves (s.modInfl lc id (fun i => { i with wait := none })) lc id
  have same : ∀ lc', (s.modInfl lc id (fun i => { i with wait := none })).flightIds lc' = s.flightIds lc' := fun lc' => by
    refine State.flightIds_modInfl _ _ _ _ ?_
    exact fun _ => rfl
  refine ⟨fun lc' => ?_, fun n => ?_⟩
  · rw [State.waitDone, flights, same, same]
  · rw [State.waitDone, parts, State.modInfl, State.prog_congr (State.modSeq_progs _ _ _)]

/-! ### The cores of a fence are released (R36) -/

/-- What the release of a core at a fence of the partition does with one entry of the sequencers. -/
def fenceFree (part : Nat) (e : Nat × Seq) (s : State) : State :=
  if (s.prog e.2.slot).part = part then s.each e.2.infl (fun i s => if i.wait = some .fence then s.waitDone e.1 i.id else s) else s

/-- No flight has grown, and the programs keep their partitions. -/
structure State.Freed (s t : State) : Prop where
  flights : ∀ lc, ∀ id ∈ t.flightIds lc, id ∈ s.flightIds lc
  parts : ∀ n, (t.prog n).part = (s.prog n).part

theorem State.Freed.refl (s : State) : s.Freed s := ⟨fun _ _ h => h, fun _ => rfl⟩

theorem State.Freed.trans {s t u : State} (h : s.Freed t) (h' : t.Freed u) : s.Freed u :=
  ⟨fun lc id hid => h.flights lc id (h'.flights lc id hid), fun n => (h'.parts n).trans (h.parts n)⟩

theorem State.freed_waitDone (s : State) (lc id : Nat) : s.Freed (s.waitDone lc id) := by
  obtain ⟨flights, parts⟩ := s.waitDone_leaves lc id
  refine ⟨fun lc' j hj => ?_, parts⟩
  rw [flights] at hj
  split at hj
  · next e => exact e ▸ (List.mem_filter.mp hj).1
  · exact hj

theorem State.freed_if {s t : State} (h : s.Freed t) (c : Prop) [Decidable c] : s.Freed (if c then t else s) := by
  split
  · exact h
  · exact .refl s

theorem fenceFree_freed (part : Nat) (e : Nat × Seq) (s : State) : s.Freed (fenceFree part e s) :=
  State.freed_if (State.each_keeps (I := s.Freed) (fun _ _ u hu => hu.trans (State.freed_if (u.freed_waitDone _ _) _)) (.refl s)) _

/-- Where a core runs a program of the partition, the descriptors that wait at the fence leave its flight. -/
theorem fenceFree_releases {part : Nat} {e : Nat × Seq} {s : State} (hp : (s.prog e.2.slot).part = part) :
    ∀ i ∈ e.2.infl, i.wait = some .fence → i.id ∉ (fenceFree part e s).flightIds e.1 := by
  rw [fenceFree, if_pos hp]
  refine State.each_establishes (P := fun (i : Infl) u => i.wait = some .fence → i.id ∉ u.flightIds e.1) ?_ ?_ s
  · intro i _ u hw
    rw [if_pos hw, (u.waitDone_leaves _ _).1, if_pos rfl]
    simp
  · intro i j _ u h hw hin
    exact h hw ((State.freed_if (u.freed_waitDone e.1 j.id) _).flights _ _ hin)

/-- Along the sequencers, every core of the partition is released. -/
theorem State.each_fenceFree (s : State) (part : Nat) (l : List (Nat × Seq)) :
    s.Freed (s.each l (fenceFree part)) ∧ ∀ e ∈ l, (s.prog e.2.slot).part = part → ∀ i ∈ e.2.infl, i.wait = some .fence →
      i.id ∉ (s.each l (fenceFree part)).flightIds e.1 := by
  have step : ∀ x ∈ l, ∀ u, s.Freed u → s.Freed (fenceFree part x u) := fun x _ u hu => hu.trans (fenceFree_freed part x u)
  refine ⟨State.each_keeps step (.refl s), ?_⟩
  refine State.each_establishes_in (I := s.Freed) (P := fun e u => (s.prog e.2.slot).part = part → ∀ i ∈ e.2.infl, i.wait = some .fence →
    i.id ∉ u.flightIds e.1) step ?_ ?_ (.refl s)
  · exact fun e _ u hu hp => fenceFree_releases ((hu.parts _).trans hp)
  · exact fun e y _ u _ h hp i hi hw hin => h hp i hi hw ((fenceFree_freed part y u).flights _ _ hin)

theorem smGet_mem {α : Type} {d : Nat → α} {m : SMap α} {k : Nat} (h : smGet d m k ≠ d k) : (k, smGet d m k) ∈ m := by
  induction m with
  | nil => exact absurd rfl h
  | cons e t ih =>
    obtain ⟨a, w⟩ := e
    by_cases here : a = k
    · simp [smGet, here]
    · simp only [smGet, here, if_false] at h ⊢
      exact List.mem_cons_of_mem _ (ih h)

/-- A core that the fence of its partition holds has nothing else in flight (R36). -/
theorem State.fenceReady_core {s : State} {p lc : Nat} (h : s.fenceReady p = true) (hlc : lc ∈ s.coresOf p) :
    (s.prog (s.seq lc).slot).part = p ∧ (lc, s.seq lc) ∈ s.seqs ∧ ∃ i, (s.seq lc).infl = [i] ∧ i.wait = some .fence := by
  simp only [State.fenceReady, Bool.and_eq_true, List.all_eq_true] at h
  obtain ⟨⟨⟨arrived, one⟩, -⟩, -⟩ := h.2 lc hlc
  simp only [State.atFence, Bool.and_eq_true, beq_iff_eq] at arrived one
  obtain ⟨i, hi⟩ := List.length_eq_one_iff.mp one
  refine ⟨?_, smGet_mem (d := fun _ => default) ?_, i, hi, ?_⟩
  · have := (List.mem_filter.mp hlc).2
    simp only [Bool.and_eq_true, beq_iff_eq] at this
    exact this.2
  · intro idle
    have st : (s.seq lc).st = (default : Seq).st := congrArg Seq.st idle
    rw [arrived.1] at st
    exact absurd st (by decide)
  · simpa [hi] using arrived.2

/-- The fence is over, and the register shows how long it took (Table 1.12). -/
def State.fenceEnded (s : State) (p ns : Nat) : State := ({ s with fences := smDel s.fences p } : State).setFld .stp Stp.STEP_DUR ns p

theorem State.fenceEnded_seqs (s : State) (p ns : Nat) : (s.fenceEnded p ns).seqs = s.seqs := State.setFld_seqs _ _ _ _ _

theorem State.fenceEnded_progs (s : State) (p ns : Nat) : (s.fenceEnded p ns).progs = s.progs := State.setFld_progs _ _ _ _ _

theorem State.fenceRelease_eq {s : State} {p : Nat} (ns : Nat) (h : (tGet s.fences p).copying.isEmpty = true) :
    s.fenceRelease p ns = (s.fenceEnded p ns).each s.seqs (fenceFree p) := by
  unfold State.fenceRelease
  rw [if_pos h]
  exact congrArg (fun l => (s.fenceEnded p ns).each l (fenceFree p)) (s.fenceEnded_seqs p ns)

/-- The waits of the partition's cores are over, and nothing is in flight on them. -/
theorem State.fenceRelease_flights {s u : State} {p : Nat} (ns : Nat) (h : s.fenceReady p = true) (hs : u.seqs = s.seqs) (hp : u.progs = s.progs)
    (hf : (tGet u.fences p).copying.isEmpty = true) : ∀ lc ∈ s.coresOf p, ((u.fenceRelease p ns).seq lc).infl = [] := by
  intro lc hlc
  obtain ⟨part, mem, i, only, waits⟩ := State.fenceReady_core h hlc
  rw [State.fenceRelease_eq ns hf]
  obtain ⟨freed, released⟩ := State.each_fenceFree (u.fenceEnded p ns) p u.seqs
  have gone := released (lc, s.seq lc) (hs ▸ mem)
    (by rw [State.prog_congr ((u.fenceEnded_progs p ns).trans hp)]; exact part) i (by rw [only]; exact List.mem_singleton_self i) waits
  rw [← List.map_eq_nil_iff (f := Infl.id)]
  refine List.eq_nil_iff_forall_not_mem.mpr fun id hid => ?_
  have was := freed.flights lc id hid
  rw [State.flightIds_congr ((u.fenceEnded_seqs p ns).trans hs), State.flightIds, only] at was
  obtain rfl : id = i.id := List.mem_singleton.mp was
  exact gone hid

/-! ### The registers of the step page (Table 1.12) -/

theorem regKey_stp_ne {o o' : Nat} (b b' : Nat) (ho : o < 4096) (ho' : o' < 4096) (h : o' ≠ o) : regKey .stp o' b' ≠ regKey .stp o b := by
  simp only [regKey, bankSize, Page.base]
  omega

theorem State.bindActions_fld (s : State) {f : Fld} (b : Nat) (hf : f.off < 4096) (h : f.off ≠ 0x118) :
    s.bindActions.fld .stp f b = s.fld .stp f b :=
  State.each_keeps (I := fun u => u.fld .stp f b = s.fld .stp f b)
    (fun _ _ _ hu => (State.fld_setFld_ne _ _ _ _ _ _ _ _ (regKey_stp_ne _ _ (by decide) hf h)).trans hu) rfl

theorem State.stepActions_fld (s : State) (p : Nat) {f : Fld} (b : Nat) (hf : f.off < 4096) (h : f.off ≠ 0x118) :
    (s.stepActions p).fld .stp f b = s.fld .stp f b := by
  unfold State.stepActions
  extract_lets t next a c d
  have ne : regKey .stp f.off b ≠ regKey .stp 0x118 p := regKey_stp_ne _ _ (by decide) hf h
  rw [State.fld_setFld_ne _ _ _ _ _ _ _ _ ne, State.fld_setFld_ne _ _ _ _ _ _ _ _ ne, State.fld_setFld_ne _ _ _ _ _ _ _ _ ne]
  exact State.fld_setFld_ne _ _ _ _ _ _ _ _ ne

/-! ### A step closes (R35) -/

/-- The state in which the actions of a fence begin: the step is counted with its tick, and laser switches that wait for a fence fall due. -/
def State.stepClosed (s : State) (p : Nat) : State :=
  let t := s.setStep p ((s.stepOf p + 1) % 2 ^ 64)
  (t.setFld64 .stp Stp.STEP_TICK_LO t.tick p).laserFence

theorem exec_stepFenceComplete {s : State} {p : Nat} (ns : Nat) (h : s.fenceReady p = true) :
    exec (.stepFenceComplete p ns) s = .next (if ((s.stepClosed p).partX p).haltFence then ((s.stepClosed p).haltEnd p).stepActions p
      else (s.stepClosed p).fenceRun p ns) := by
  simp only [exec, execStepFenceComplete, h, if_true]
  rfl

theorem exec_stepFenceComplete_early {s : State} {p : Nat} (ns : Nat) (h : s.fenceReady p = false) : exec (.stepFenceComplete p ns) s = .next s := by
  simp [exec, execStepFenceComplete, h]

theorem State.stepClosed_kept (s : State) (p : Nat) : Kept (partsMask [.page 21, .engs]) s (s.stepClosed p) :=
  have page : (partsMask [.page 21, .engs]).testBit 21 = true := rfl
  State.laserFence_kept rfl (State.setFld64_kept rfl (State.setStep_kept rfl (.refl _ s)) page)

theorem State.laserFence_fld (s : State) (f : Fld) (b : Nat) : s.laserFence.fld .stp f b = s.fld .stp f b :=
  (State.laserFence_kept (Msub.refl _) (.refl _ s)).fld .stp f b

theorem State.stepClosed_step (s : State) (p : Nat) : (s.stepClosed p).stepOf p = (s.stepOf p + 1) % 2 ^ 64 := by
  simp only [State.stepClosed, State.stepOf, State.fld64, State.laserFence_fld]
  rw [Stp.STEP_TICK_LO, State.fld64_setFld64_ne _ _ _ _ _ (by decide) (by decide), State.fld64_setFld64_ne _ _ _ _ _ (by decide) (by decide),
    ← State.fld64]
  exact State.fld64_setFld64_same _ _ _ _ (Nat.mod_lt _ (by decide))

theorem State.stepClosed_tick (s : State) (p : Nat) : (s.stepClosed p).fld64 .stp Stp.STEP_TICK_LO p = s.tick := by
  simp only [State.stepClosed, State.fld64, State.laserFence_fld]
  rw [← State.fld64, (State.setStep_kept (Msub.refl _) (.refl _ s)).tick]
  exact State.fld64_setFld64_same _ _ _ _ s.tick_lt

/-! ### A fence without actions -/

theorem State.fenceBinds_none {s : State} (p : Nat) (h : ∀ cl < 8, s.bindPending cl = false) : s.fenceBinds p = s := by
  refine State.each_keeps (I := fun u => u = s) (fun cl hcl u hu => ?_) rfl
  rw [if_neg, hu]
  rw [hu]
  simp [State.bindFenced, h cl (List.mem_range.mp hcl)]

/-- No activation, binding change, digest or checkpoint is due: the cores go on at once (R36, Table 1.11). -/
theorem State.fenceRun_bare {s : State} {p : Nat} (ns : Nat) (he : s.epArmed p = false) (hb : ∀ cl < 8, s.bindPending cl = false)
    (hf : (tGet s.fences p).copying.isEmpty = true) (hc : (s.ctOf p).valid = false) :
    s.fenceRun p ns = ((s.fenceRelease p ns).stepActions p).bindActions := by
  simp [State.fenceRun, State.fenceRest, State.ckDue, he, State.fenceBinds_none p hb, hf, hc]

theorem fenceFree_kept (part : Nat) (e : Nat × Seq) (s : State) : Kept (partsMask (ofEvents ++ ofCores)) s (fenceFree part e s) :=
  .ite (Kept.each (.refl _ s) fun _ _ h => .ite (State.waitDone_kept .of_beq h) h) (.refl _ s)

theorem State.fenceReleased_kept {s : State} {p : Nat} (ns : Nat) (h : (tGet s.fences p).copying.isEmpty = true) :
    Kept (partsMask (ofEvents ++ ofCores)) (s.fenceEnded p ns) (s.fenceRelease p ns) := by
  rw [State.fenceRelease_eq ns h]
  exact Kept.each (.refl _ _) fun e u hu => hu.trans (fenceFree_kept p e u)

end Sys2Proof.Machine
end

section
/-! Changes of the binding map and step fences (R21, R22, R35, R36). -/
namespace Sys2Proof.Machine

/-! ### BIND_ARM -/

theorem exec_bindArm {s : State} {m : Master} {d c : Nat} (testOut : Bool) (hc : c < 4) (hm : s.MayWrite m (.cluster d c)) :
    exec (.bindArm m d c testOut) s = .next ((((s.touch (.cluster d c)).setFld (clPage (4 * d + c)) Cl.BIND_CTRL_TEST_OUT (bool01 testOut)).bindArm
      (4 * d + c)).bindActions) := by
  simp only [exec, execBindArm, State.gated_held _ hm, clPage_eq d hc]

/-- The registers of the change that a write of TEST_OUT leaves. -/
theorem State.setTestOut_leaves (s : State) (cl : Nat) (b : Bool) :
    let t := s.setFld (clPage cl) Cl.BIND_CTRL_TEST_OUT (bool01 b)
    t.flag (clPage cl) Cl.BIND_CTRL_TEST_OUT = b ∧ t.fld (clPage cl) Cl.BIND_NEXT = s.fld (clPage cl) Cl.BIND_NEXT ∧
      t.bindPending cl = s.bindPending cl ∧ t.bindMap cl = s.bindMap cl ∧ ∀ m, t.mapValid cl m = s.mapValid cl m := by
  refine ⟨?_, State.fld_setFld_ne _ _ _ _ _ _ _ _ (regKey_ne_of_off (by decide)), ?_,
    State.fld_setFld_ne _ _ _ _ _ _ _ _ (regKey_ne_of_off (by decide)), fun m => State.mapValid_setFld _ _ _ _ _ (by decide) (by decide)⟩
  · rw [State.flag, State.fld_setFld_same _ _ _ _ _ ⟨by decide, by decide⟩]
    cases b <;> rfl
  · rw [State.bindPending, State.flag,
      State.fld_setFld_disj _ _ Cl.BIND_CTRL_TEST_OUT Cl.BIND_CTRL_PENDING _ _ ⟨by decide, by decide⟩ rfl (.inl (by decide)),
      State.bindPending, State.flag]

/-- Bringing STEP_ACTIONS up to date leaves the clusters and what they hold of a change. -/
theorem State.bindActions_leaves (s : State) (cl : Nat) :
    (∀ f, s.bindActions.fld (clPage cl) f = s.fld (clPage cl) f) ∧ s.bindActions.binds = s.binds ∧ s.bindActions.mem = s.mem := by
  have kept : Kept _ s s.bindActions := State.bindActions_kept (Msub.refl _) (.refl _ s)
  exact ⟨fun f => kept.clFld cl f, kept.agree .binds (by decide +kernel), kept.mem⟩

theorem bindArm_captures {s : State} {m : Master} {d c : Nat} (testOut : Bool) (hc : c < 4) (hm : s.MayWrite m (.cluster d c))
    (hv : s.mapValid (4 * d + c) (s.fld (clPage (4 * d + c)) Cl.BIND_NEXT) = true) :
    ∃ t, exec (.bindArm m d c testOut) s = .next t ∧ t.flag (clPage (4 * d + c)) Cl.BIND_CTRL_ARM = true ∧ t.bindPending (4 * d + c) = true ∧
      (t.bindX (4 * d + c)).map = s.fld (clPage (4 * d + c)) Cl.BIND_NEXT ∧ (t.bindX (4 * d + c)).testOut = testOut ∧
      t.bindMap (4 * d + c) = s.bindMap (4 * d + c) := by
  refine ⟨_, exec_bindArm testOut hc hm, ?_⟩
  obtain ⟨test, next, -, map, valid⟩ := (s.touch (.cluster d c)).setTestOut_leaves (4 * d + c) testOut
  obtain ⟨arm, pending, captured, out, kept⟩ := State.bindArm_valid (by rw [valid, next]; exact hv)
  obtain ⟨fld, binds, -⟩ := (((s.touch (.cluster d c)).setFld (clPage (4 * d + c)) Cl.BIND_CTRL_TEST_OUT (bool01 testOut)).bindArm
    (4 * d + c)).bindActions_leaves (4 * d + c)
  refine ⟨?_, ?_, ?_, ?_, ?_⟩
  · rw [State.flag, fld, ← State.flag, arm]
  · rw [State.bindPending, State.flag, fld, ← State.flag, ← State.bindPending, pending]
  · rw [State.bindX_congr binds, captured, next]
    rfl
  · rw [State.bindX_congr binds, out, test]
  · rw [State.bindMap, fld, ← State.bindMap, kept, map]
    rfl

theorem bindArm_refused {s : State} {m : Master} {d c : Nat} (testOut : Bool) (hc : c < 4) (hm : s.MayWrite m (.cluster d c))
    (hv : s.mapValid (4 * d + c) (s.fld (clPage (4 * d + c)) Cl.BIND_NEXT) = false) :
    ∃ t, exec (.bindArm m d c testOut) s = .next t ∧ t.binds = s.binds ∧ bitAt (t.fld (clPage (4 * d + c)) Hd.ERR_STAT) 0 = true ∧
      t.bindPending (4 * d + c) = s.bindPending (4 * d + c) ∧ t.bindMap (4 * d + c) = s.bindMap (4 * d + c) := by
  refine ⟨_, exec_bindArm testOut hc hm, ?_⟩
  obtain ⟨-, next, pending, map, valid⟩ := (s.touch (.cluster d c)).setTestOut_leaves (4 * d + c) testOut
  obtain ⟨same, err, waits, kept⟩ := State.bindArm_invalid (by rw [valid, next]; exact hv)
  obtain ⟨fld, binds, -⟩ := (((s.touch (.cluster d c)).setFld (clPage (4 * d + c)) Cl.BIND_CTRL_TEST_OUT (bool01 testOut)).bindArm
    (4 * d + c)).bindActions_leaves (4 * d + c)
  refine ⟨?_, ?_, ?_, ?_⟩
  · rw [binds, same, State.setFld_binds]
    rfl
  · rw [fld, err]
  · rw [State.bindPending, State.flag, fld, ← State.flag, ← State.bindPending, waits, pending]
    rfl
  · rw [State.bindMap, fld, ← State.bindMap, kept, map]
    rfl

/-! ### BIND_COPY_DONE -/

theorem exec_bindCopyDone {s : State} {d c : Nat} (ns : Nat) (hb : s.bindBusy (4 * d + c) = true) (hf : (s.bindX (4 * d + c)).fence = none) :
    exec (.bindCopyDone d c ns) s = .next (s.bindFinish (4 * d + c)).bindActions := by
  simp [exec, execBindCopyDone, hb, hf]

theorem exec_bindCopyDone_idle {s : State} {d c : Nat} (ns : Nat) (hb : s.bindBusy (4 * d + c) = false) :
    exec (.bindCopyDone d c ns) s = .next s := by
  simp [exec, execBindCopyDone, hb]

theorem bindCopyDone_effect {s : State} {d c : Nat} (ns : Nat) (hb : s.bindBusy (4 * d + c) = true) (hf : (s.bindX (4 * d + c)).fence = none)
    (hg : (s.bindX (4 * d + c)).goMap < 2 ^ 32) :
    let cl := 4 * d + c
    let x := s.bindX cl
    ∃ t, exec (.bindCopyDone d c ns) s = .next t ∧ t.bindMap cl = x.goMap ∧ t.bindBusy cl = false ∧
      t.fld64 (clPage cl) Cl.BIND_TICK_LO = s.tick ∧ t.fld (clPage cl) Cl.BIND_SEQ = min (s.fld (clPage cl) Cl.BIND_SEQ + 1) (2 ^ 32 - 1) ∧
      (∀ p, t.pcore cl p = (s.coresMoved cl).pcore cl p) ∧ t.mem = (s.coresMoved cl).mem := by
  intro cl x
  refine ⟨_, exec_bindCopyDone ns hb hf, ?_⟩
  obtain ⟨fld, binds, mem⟩ := (s.bindFinish cl).bindActions_leaves cl
  refine ⟨?_, ?_, ?_, ?_, fun p => ?_, ?_⟩
  · rw [State.bindMap, fld, State.bindFinish_fld _ _ (by decide), ← State.bindMap, State.bindShown_map s cl hg]
  · rw [State.bindBusy, State.bindX_congr binds, ← State.bindBusy, State.bindFinish_idle]
  · rw [State.fld64, fld, fld, State.bindFinish_fld _ _ (by decide), State.bindFinish_fld _ _ (by decide), ← State.fld64, State.bindShown_tick]
  · rw [fld, State.bindFinish_fld _ _ (by decide), State.bindShown_seq]
  · rw [State.pcore, fld, ← State.pcore, State.bindFinish_pcore]
  · rw [mem, State.bindFinish_mem]

/-! ### STEP_FENCE_COMPLETE -/

theorem State.fenceReady_idle {s : State} {p : Nat} (h : s.fenceReady p = true) : (tGet s.fences p).copying.isEmpty = true := by
  simp only [State.fenceReady, Bool.and_eq_true] at h
  exact h.1.2

theorem State.stepClosed_idle (s : State) {p : Nat} (h : s.fenceReady p = true) : (tGet (s.stepClosed p).fences p).copying.isEmpty = true := by
  rw [(s.stepClosed_kept p).agree .fences (by decide +kernel)]
  exact State.fenceReady_idle h

theorem State.stepClosed_halt (s : State) (p : Nat) : ((s.stepClosed p).partX p).haltFence = (s.partX p).haltFence := by
  rw [State.partX, (s.stepClosed_kept p).agree .parts (by decide +kernel), ← State.partX]

theorem stepFenceComplete_run {s : State} {p : Nat} (ns : Nat) (h : s.fenceReady p = true) (hh : (s.partX p).haltFence = false)
    (he : s.epArmed p = false) (hb : ∀ cl < 8, s.bindPending cl = false) (hc : (s.ctOf p).valid = false) :
    exec (.stepFenceComplete p ns) s = .next (((s.stepClosed p).fenceRelease p ns).stepActions p).bindActions := by
  have closed := s.stepClosed_kept p
  rw [exec_stepFenceComplete ns h, s.stepClosed_halt, hh, if_neg Bool.false_ne_true]
  refine congrArg Host.Outcome.next (State.fenceRun_bare ns ?_ (fun cl hcl => ?_) (s.stepClosed_idle h) ?_)
  · rw [State.epArmed, closed.fld .ep, ← State.epArmed, he]
  · rw [State.bindPending, State.flag, closed.clFld, ← State.flag, ← State.bindPending, hb cl hcl]
  · rw [State.ctOf, closed.agree .ct (by decide +kernel), ← State.ctOf, hc]

/-- A fence without actions after its cores go on: the actions that are due are shown. -/
theorem State.fenceShown_kept (s : State) (p : Nat) : Kept (partsMask [pk .stp]) s (s.stepActions p).bindActions :=
  State.bindActions_kept rfl (State.stepActions_kept rfl (.refl _ _))

theorem State.fenceShown_fld (s : State) (p : Nat) {f : Fld} (hf : f.off < 4096) (h : f.off ≠ 0x118) :
    (s.stepActions p).bindActions.fld .stp f p = s.fld .stp f p := by
  rw [State.bindActions_fld _ _ hf h, State.stepActions_fld _ _ _ hf h]

/-- The registers of a step's page after the cores went on, but for STEP_ACTIONS. -/
theorem State.fenceOver_fld {s : State} {p : Nat} (ns : Nat) (idle : (tGet s.fences p).copying.isEmpty = true) {f : Fld} (hf : f.off < 4096)
    (h : f.off ≠ 0x118) : ((s.fenceRelease p ns).stepActions p).bindActions.fld .stp f p = (s.fenceEnded p ns).fld .stp f p := by
  rw [State.fenceShown_fld _ _ hf h, (State.fenceReleased_kept ns idle).fld .stp]

theorem State.fenceEnded_fld_ne (s : State) (p ns : Nat) {f : Fld} (h : f.off ≠ 0x11C) : (s.fenceEnded p ns).fld .stp f p = s.fld .stp f p :=
  State.fld_setFld_ne _ _ _ _ _ _ _ _ (regKey_ne_of_off h)

theorem State.fenceOver_fld64 {s : State} {p : Nat} (ns : Nat) (idle : (tGet s.fences p).copying.isEmpty = true) (f : Fld) (h : f.off + 4 < 0x118) :
    ((s.fenceRelease p ns).stepActions p).bindActions.fld64 .stp f p = s.fld64 .stp f p := by
  have word : ∀ g : Fld, g.off < 0x118 → ((s.fenceRelease p ns).stepActions p).bindActions.fld .stp g p = s.fld .stp g p := fun g hg =>
    (State.fenceOver_fld ns idle (by omega) (by omega)).trans (s.fenceEnded_fld_ne p ns (by omega))
  rw [State.fld64, word f (by omega), word ⟨f.off + 4, 31, 0⟩ h, ← State.fld64]

theorem State.fenceOver_dur {s : State} {p : Nat} (ns : Nat) (idle : (tGet s.fences p).copying.isEmpty = true) :
    ((s.fenceRelease p ns).stepActions p).bindActions.fld .stp Stp.STEP_DUR p = ns % 2 ^ 32 := by
  rw [State.fenceOver_fld ns idle (by decide) (by decide), State.fenceEnded, State.fld_setFld_same _ _ _ _ _ ⟨by decide, by decide⟩]
  rfl

theorem State.fenceOver_mem {s : State} {p : Nat} (ns : Nat) (idle : (tGet s.fences p).copying.isEmpty = true) :
    ((s.fenceRelease p ns).stepActions p).bindActions.mem = s.mem := by
  rw [(State.fenceShown_kept _ p).mem, (State.fenceReleased_kept ns idle).mem, State.fenceEnded, State.setFld_mem]

/-- A step of a partition whose cores have all arrived, with nothing due: it is counted, and the cores go on (R35, R36). -/
theorem stepFenceComplete_effect {s : State} {p : Nat} (ns : Nat) (h : s.fenceReady p = true) (hh : (s.partX p).haltFence = false)
    (he : s.epArmed p = false) (hb : ∀ cl < 8, s.bindPending cl = false) (hc : (s.ctOf p).valid = false) :
    ∃ t, exec (.stepFenceComplete p ns) s = .next t ∧ t.stepOf p = (s.stepOf p + 1) % 2 ^ 64 ∧ t.fld64 .stp Stp.STEP_TICK_LO p = s.tick ∧
      t.fld .stp Stp.STEP_DUR p = ns % 2 ^ 32 ∧ t.mem = s.mem ∧ ∀ lc ∈ s.coresOf p, (t.seq lc).infl = [] := by
  have closed := s.stepClosed_kept p
  have idle : (tGet (s.stepClosed p).fences p).copying.isEmpty = true := s.stepClosed_idle h
  refine ⟨_, stepFenceComplete_run ns h hh he hb hc, ?_, ?_, State.fenceOver_dur ns idle, (State.fenceOver_mem ns idle).trans closed.mem,
    fun lc hlc => ?_⟩
  · rw [State.stepOf, State.fenceOver_fld64 ns idle _ (by decide), ← State.stepOf, State.stepClosed_step]
  · rw [State.fenceOver_fld64 ns idle _ (by decide), State.stepClosed_tick]
  · rw [State.seq_congr (State.fenceShown_kept _ p).seqs]
    exact State.fenceRelease_flights ns h closed.seqs closed.progs idle lc hlc

/-- Settles O28, clause by clause, from what arming a change, the end of its copy and the closing of a step leave. -/
theorem bindingChangesAndStepFencesAct : Obligations.BindingChangesAndStepFencesAct := by
  unfold Obligations.BindingChangesAndStepFencesAct
  refine ⟨?arm, ?copied, ?notCopying, ?fence, ?halted, ?early⟩
  case arm =>
    intro s m d c testOut _ hc hm cl map
    simp only [map, ← clPage_eq d hc]
    exact ⟨bindArm_captures testOut hc hm, bindArm_refused testOut hc hm⟩
  case copied =>
    intro s d c ns _ hc cl x hb hf hg
    obtain ⟨t, step, tmap, idle, tick, count, pcore, mem⟩ := bindCopyDone_effect ns hb hf hg
    rw [clPage_eq d hc] at tick count
    refine ⟨t, step, tmap, idle, tick, count, fun n hn hp => ?_, fun n hn hp free => ?_, fun n hi hx hn hp i hlt => ?_⟩
    · rw [pcore, State.coresMoved_pcore]
      exact State.coresBound_pcore _ _ _ n hn hp
    · rw [pcore, State.coresMoved_pcore, State.coresBound_pcore_ne _ _ _ free]
      exact State.coresFreed_pcore _ _ _ _ (by split <;> decide) n hn hp free
    · rw [State.byte, mem, ← State.byte]
      exact State.coresMoved_mem hi.mem hx hp hlt
  case notCopying => exact fun s d c ns hb => exec_bindCopyDone_idle ns hb
  case fence => exact fun s p ns h hh he hb hc _ => stepFenceComplete_effect ns h hh he hb hc
  case halted =>
    intro s p ns h hh
    have closed := s.stepClosed_kept p
    refine ⟨_, s.stepClosed p, exec_stepFenceComplete ns h, s.stepClosed_step p, s.stepClosed_tick p, closed.mem, closed.seqs, if_pos ?_⟩
    rw [s.stepClosed_halt, hh]
  case early => exact fun s p ns h => exec_stepFenceComplete_early ns h

end Sys2Proof.Machine
end

section
/-! SUPPORT. The issue of a descriptor with references (R88–R90, R535): what is left where nothing holds it back and its effect meets no fault. -/
namespace Sys2Proof.Machine

theorem Kept.lines {M : Nat} {s t : State} (h : Kept M s t) (hm : M.testBit 67 = false := by decide +kernel) : t.lines = s.lines :=
  h.agree .lines hm

/-! ### The stream moves on -/

theorem Seq.setX_flight (q : Seq) (n v : Nat) : (q.setX n v).infl = q.infl ∧ (q.setX n v).slot = q.slot := by
  unfold Seq.setX
  split <;> exact ⟨rfl, rfl⟩

theorem Seq.advGo_flight (fuel : Nat) (q : Seq) (a : Nat) : (q.advGo fuel a).infl = q.infl ∧ (q.advGo fuel a).slot = q.slot := by
  induction fuel generalizing q with
  | zero => exact ⟨rfl, rfl⟩
  | succ fuel ih =>
    unfold Seq.advGo
    split
    · next e t _ =>
      split
      · extract_lets q'
        have stepped : q'.infl = q.infl ∧ q'.slot = q.slot := q.setX_flight _ _
        split
        · exact stepped
        · exact ⟨(ih _).1.trans stepped.1, (ih _).2.trans stepped.2⟩
      · exact ⟨rfl, rfl⟩
    · exact ⟨rfl, rfl⟩

/-- The sequencer of a core once the descriptor at its program counter has issued. -/
theorem State.seq_atIssue (s : State) (lc : Nat) : (s.atIssue lc).seq lc =
    { (s.seq lc).adv (s.seq lc).pc with
      lastDesc := (s.seq lc).pc, serHold := false, nextId := ((s.seq lc).adv (s.seq lc).pc).nextId + 1 } := by
  have counted : (s.issueCount lc).seq lc = s.seq lc :=
    State.seq_congr (State.issueCount_kept (Msub.refl _) (.refl _ s)).seqs lc
  simp only [State.atIssue, State.issued, State.modSeq, State.seq_setSeq_same, counted]

theorem State.atIssue_progs (s : State) (lc : Nat) : (s.atIssue lc).progs = s.progs :=
  (State.modSeq_progs _ _ _).trans (State.issued_kept (Msub.refl _) (.refl _ s)).progs

theorem State.slot_atIssue (s : State) (lc : Nat) : ((s.atIssue lc).seq lc).slot = (s.seq lc).slot := by
  rw [State.seq_atIssue]
  exact (Seq.advGo_flight _ _ _).2

theorem State.prog_atIssue (s : State) (lc : Nat) :
    (s.atIssue lc).prog ((s.atIssue lc).seq lc).slot = s.prog (s.seq lc).slot := by
  rw [State.slot_atIssue, State.prog_congr (s.atIssue_progs lc)]

theorem State.partOf_atIssue (s : State) (lc : Nat) : (s.atIssue lc).partOf lc = s.partOf lc := by
  rw [State.partOf, State.prog_atIssue, State.partOf]

theorem State.whoOf_atIssue (s : State) (lc : Nat) : (s.atIssue lc).whoOf lc = s.whoOf lc := by
  rw [State.whoOf, State.prog_atIssue, State.whoOf]

/-! ### The descriptor is in flight -/

/-- The descriptor in flight that the issue of references `r` with the effect `e` leaves. -/
def State.flightOf (s : State) (lc : Nat) (d : Desc) (f : Form) (unit : Nat) (r : Refs) (es : List Nat) (e : Eff) : Infl :=
  let q := s.seq lc
  { id := q.nextId, desc := q.pc, unit := q.unitFor unit, engines := es, dst := f.dstOf r, src := s.srcOf lc f r,
    ser := d.ser || rangesMeet (f.dstOf r) [(s.tileAddr lc q.trec, 262144)],
    wait := e.wait, tags := e.tags, sig := e.sig, inv := e.inv, sat := e.sat, trunc := e.trunc, cont := e.cont }

/-- A descriptor that is ready issues: no branch that holds it back or faults it is taken. -/
theorem State.issue_ready {s : State} {lc : Nat} {d : Desc} {f : Form} {unit : Nat} {r : Refs} {check : State → Seq → Refs → Option DF}
    {engs : State → Seq → Refs → Option (List Nat)} {eff : State → Refs → Nat → Eff} {es : List Nat} {e : Eff}
    (h : s.RefReady lc d f unit r) (hc : check s (s.seq lc) r = none) (hes : engs s (s.seq lc) r = some es)
    (he : eff (s.atIssue lc) r (s.seq lc).nextId = e) (hf : e.fault = none) :
    s.issue lc d f unit check engs eff =
      (e.s.engTake lc (s.seq lc).pc es d.bypass).pushInfl lc (s.flightOf lc d f unit r es e) := by
  obtain ⟨opcode, free, power, fetched, records, refs, clear, serial, lines⟩ := h
  have powered : ((unit == 3 || unit == 4) && (s.mod_.capHold || s.mod_.rampHold)) = false := by
    by_cases hu : unit = 3 ∨ unit = 4
    · simp [power hu]
    · simp_all
  have alone : ((d.ser || rangesMeet (f.dstOf r) [(s.tileAddr lc (s.seq lc).trec, 262144)]) && !(s.seq lc).infl.isEmpty) = false := by
    cases hser : d.ser || rangesMeet (f.dstOf r) [(s.tileAddr lc (s.seq lc).trec, 262144)] with
    | false => rfl
    | true => simp [serial hser]
  unfold State.issue
  simp only [opcode, free, powered, fetched, records, refs, hc, clear, alone, hes, lines, Bool.not_true, Bool.or_self, Bool.and_false,
    Bool.false_eq_true, if_false]
  rw [← State.atIssue, he, hf]
  rfl

theorem State.seq_pushInfl (s : State) (lc : Nat) (i : Infl) : (s.pushInfl lc i).seq lc = { s.seq lc with infl := (s.seq lc).infl ++ [i] } := by
  rw [State.pushInfl, State.seq_congr (State.coreSync_seqs _ _), State.modSeq, State.seq_setSeq_same]

/-- What the issue of a ready descriptor leaves, where its effect lets the sequencers be. -/
theorem State.issue_ranAs {s : State} {lc : Nat} {d : Desc} {f : Form} {unit : Nat} {r : Refs} {check : State → Seq → Refs → Option DF}
    {engs : State → Seq → Refs → Option (List Nat)} {eff : State → Refs → Nat → Eff} {es : List Nat} {e : Eff}
    (h : s.RefReady lc d f unit r) (hc : check s (s.seq lc) r = none) (hes : engs s (s.seq lc) r = some es)
    (he : eff (s.atIssue lc) r (s.seq lc).nextId = e) (hf : e.fault = none) (hs : e.s.seqs = (s.atIssue lc).seqs) :
    s.RanAs (s.issue lc d f unit check engs eff) lc f unit r es e := by
  rw [State.issue_ready h hc hes he hf]
  have taken := State.engTake_kept (p1 := lc) (p2 := (s.seq lc).pc) (p3 := es) (p4 := d.bypass) (Msub.refl _) (.refl _ e.s)
  have pushed := State.pushInfl_kept (p1 := lc) (p2 := s.flightOf lc d f unit r es e) (Msub.refl _)
    (.refl _ (e.s.engTake lc (s.seq lc).pc es d.bypass))
  have moved : (e.s.engTake lc (s.seq lc).pc es d.bypass).seq lc = (s.atIssue lc).seq lc := State.seq_congr (taken.seqs.trans hs) lc
  refine ⟨pushed.mem.trans taken.mem, pushed.lines.trans taken.lines, ?_, s.flightOf lc d f unit r es e, ?_, rfl, rfl, rfl, rfl, rfl, rfl, rfl,
    rfl, rfl⟩
  · rw [State.MovedOn, State.seq_pushInfl, moved, State.seq_atIssue]
  · rw [State.seq_pushInfl, moved, State.seq_atIssue]
    exact congrArg (· ++ [_]) (Seq.advGo_flight _ _ _).1

end Sys2Proof.Machine
end

section
/-! The vector descriptors (R121–R126). -/
namespace Sys2Proof.Machine

/-- The command `c` issues a vector descriptor of the form `f`, which writes the FP32 results `vals` of its sources into D. -/
def State.VecRuns (s : State) (lc : Nat) (d : Desc) (c : Instr) (f : Form) (check : Refs → Option DF) (vals : Refs → Srcs → List Nat) : Prop :=
  ∀ r x s2 fl, s.RefReady lc d f 3 r → check r = none → (s.atIssue lc).readSrcs lc r = (s.atIssue lc, .ok x) →
    (s.atIssue lc).writeOut r.dd (s.partOf lc) ((vals r x).map (fun y => (f32Val y, false))) (s.whoOf lc) = (s2, fl, true) →
    s.Issues c lc f 3 r [] (wrote s2 fl (x.a.rsvd + x.b.rsvd + x.c.rsvd))

/-- A command whose meaning is `State.vecIssue` for a row of Table 4.5 runs as a vector descriptor. -/
theorem State.vecRuns_of_exec {s : State} {lc : Nat} {d : Desc} {c : Instr} {code : Nat} {sub : Option Nat} {need : List Nat} {m0 : Nat}
    {check : Refs → Option DF} {vals : Refs → Srcs → List Nat}
    (h : exec c s = .next (s.vecIssue lc d (vecForm code sub need m0) check vals)) :
    s.VecRuns lc d c (vecForm code sub need m0) check vals := by
  intro r x s2 fl ready fit read written
  refine ⟨_, h, State.issue_ranAs (e := wrote s2 fl x.rsvd) ready fit rfl ?_ rfl ?_⟩
  · simp only [read, State.partOf_atIssue, State.whoOf_atIssue, written]
    rfl
  · have kept := (State.writeOut_kept (p1 := r.dd) (p2 := s.partOf lc) (p3 := (vals r x).map (fun y => (f32Val y, false))) (p4 := s.whoOf lc)
      (Msub.refl _) (.refl _ (s.atIssue lc))).seqs
    rwa [written] at kept

/-- ROWRED_ARGMAX: D receives the indices as they are, without a rounding (R124). -/
theorem rowredArgmax_issues {s s2 : State} {lc : Nat} {d : Desc} {r : Refs} {x : Srcs} (ready : s.RefReady lc d argmaxForm 3 r)
    (fit : rowredShape r = none) (read : (s.atIssue lc).readSrcs lc r = (s.atIssue lc, .ok x))
    (written : (s.atIssue lc).writeBits r.dd.t (r.dd.t.rowIx.map (fun i => argMax (rowVals x.a r.aa.t.e0 i))) (s.whoOf lc) = (s2, true)) :
    s.Issues (.rowredArgmax lc d) lc argmaxForm 3 r [] { s := s2, inv := x.a.rsvd + x.b.rsvd + x.c.rsvd } := by
  refine ⟨_, rfl, State.issue_ranAs (e := { s := s2, inv := x.rsvd }) ready fit rfl ?_ rfl ?_⟩
  · simp only [read, State.whoOf_atIssue, written]
    rfl
  · have kept := (State.writeBits_kept (p1 := r.dd.t) (p2 := r.dd.t.rowIx.map (fun i => argMax (rowVals x.a r.aa.t.e0 i))) (p3 := s.whoOf lc)
      (Msub.refl _) (.refl _ (s.atIssue lc))).seqs
    rwa [written] at kept

/-- Settles O7: the meaning of every row is `State.vecIssue` for its form, and what that leaves is `State.vecRuns_of_exec`; ROWRED_ARGMAX
writes its indices unrounded. -/
theorem vectorDescriptorsCompute : Obligations.VectorDescriptorsCompute := by
  unfold Obligations.VectorDescriptorsCompute
  refine ⟨?unary, ?binary, ?fma, ?rowred, ?argmax, ?softmax, ?norm⟩
  case unary =>
    intro s lc d p hp
    refine State.vecRuns_of_exec ?_
    fin_cases hp <;> rfl
  case binary =>
    intro s lc d p hp
    refine State.vecRuns_of_exec ?_
    fin_cases hp <;> rfl
  case fma => exact fun s lc d => State.vecRuns_of_exec rfl
  case rowred =>
    intro s lc d p hp
    refine State.vecRuns_of_exec ?_
    fin_cases hp <;> rfl
  case argmax => exact fun s lc d r x s2 => rowredArgmax_issues
  case softmax => exact fun s lc d => State.vecRuns_of_exec rfl
  case norm =>
    intro s lc d p hp
    refine State.vecRuns_of_exec ?_
    fin_cases hp <;> rfl

end Sys2Proof.Machine
end

section
/-! DESCRIPTOR_COMPLETE (R88) gives the signals that are due before it retires its descriptor. -/
namespace Sys2Proof.Machine

/-- The signals of the core whose earlier writes are visible are given first (R108); then the descriptor retires. -/
theorem exec_descriptorComplete_ok {s : State} {lc id : Nat} {i : Infl} (hi : ((s.flushSigs lc).seq lc).infl.find? (fun i => i.id == id) = some i)
    (hst : ((s.flushSigs lc).seq lc).st = 1) (hc : (s.flushSigs lc).completable i = true) :
    exec (.descriptorComplete lc id .ok) s = .next ((s.flushSigs lc).retire lc id) := by
  simp [exec, execDescriptorComplete, hi, hst, hc]

theorem State.retire_mem (s : State) (lc id : Nat) : (s.retire lc id).mem = s.mem :=
  (State.retire_kept (Msub.refl _) (.refl _ s)).mem

/-- The vector descriptor 3 of core 0 has nothing outstanding, and behind it the SIGNAL 4 writes 1 to a word of the core's tile memory. -/
def signalBehind : State :=
  { mod_ := { stby := true, uncore := true, mem := true, core0 := true, core1 := true },
    seqs := [(0, { st := 1, pc := 0x100000000100, infl := [{ id := 3, unit := 3 },
      { id := 4, sig := some { addr := 0x100000001000, value := 1, write := true } }] })],
    progs := [(0, { active := true, ctx := 1, gen := 1, part := 1, cores := [0] })] }

theorem descriptorComplete_signalBehind : ∃ t, exec (.descriptorComplete 0 3 .ok) signalBehind = .next t ∧ t.mem ≠ signalBehind.mem := by
  refine ⟨_, exec_descriptorComplete_ok (i := { id := 3, unit := 3 }) (by decide +kernel) (by decide +kernel) (by decide +kernel), ?_⟩
  rw [State.retire_mem]
  decide +kernel

/-- Refutes O8: the fourth clause says that the completion of a descriptor leaves memory, but a SIGNAL in flight whose earlier writes are
visible is given before the descriptor retires, and its word is written (R108). -/
theorem not_descriptorsRetireAndTimeOut : ¬ Obligations.DescriptorsRetireAndTimeOut := by
  unfold Obligations.DescriptorsRetireAndTimeOut
  rintro ⟨-, -, -, retires, -⟩
  obtain ⟨t, run, mem, -⟩ := retires signalBehind 0 3 { id := 3, unit := 3 } (by decide +kernel) (by decide +kernel) (by decide +kernel)
  obtain ⟨u, run', changed⟩ := descriptorComplete_signalBehind
  rw [run] at run'
  cases run'
  exact changed mem

end Sys2Proof.Machine
end

section
/-! SUPPORT. The vector commands (R121–R126): each is `State.vecIssue` for its row of Table 4.5. -/
namespace Sys2Proof.Machine
-- This option makes Lean elaborate the proofs one after the other: side by side they take more threads than the check's memory limit allows.
set_option deprecated.oldSectionVars true

/-- A command is a vector descriptor with this code and SUBOP, these slots and this mask of IMM0, whatever it checks and computes. -/
def IsVec (lc : Nat) (d : Desc) (code m0 : Nat) (need : List Nat) (sub : Option Nat) (c : Instr) : Prop :=
  ∃ check res, ∀ s, exec c s = .next (s.vecIssue lc d { code := code, sub := sub, m0 := m0, need := need, opt := vecOpt } check res)

theorem isVec_unary {lc : Nat} {d : Desc} {p : Instr × Nat}
    (hp : p ∈ [(Instr.unaryCopy lc d, 0), (.unaryNeg lc d, 1), (.unaryAbs lc d, 2), (.unaryRelu lc d, 3), (.unarySquare lc d, 4),
      (.unaryRecip lc d, 5), (.unarySqrt lc d, 6), (.unaryRsqrt lc d, 7), (.unaryExp lc d, 8), (.unaryExp2 lc d, 9), (.unaryLog lc d, 10),
      (.unaryLog2 lc d, 11), (.unaryTanh lc d, 12), (.unaryErf lc d, 13), (.unarySin lc d, 14), (.unaryCos lc d, 15), (.unarySigmoid lc d, 16),
      (.unarySilu lc d, 17), (.unaryGeluTanh lc d, 18), (.unaryGeluErf lc d, 19)]) : IsVec lc d 0x30 0 [2, 2, 0, 0] (some p.2) p.1 := by
  fin_cases hp <;> exact ⟨_, _, fun _ => rfl⟩

theorem isVec_binary {lc : Nat} {d : Desc} {p : Instr × Nat}
    (hp : p ∈ [(Instr.binaryAdd lc d, 0), (.binarySub lc d, 1), (.binaryMul lc d, 2), (.binaryDiv lc d, 3), (.binaryMax lc d, 4),
      (.binaryMin lc d, 5)]) : IsVec lc d 0x31 0 [2, 2, 2, 0] (some p.2) p.1 := by
  fin_cases hp <;> exact ⟨_, _, fun _ => rfl⟩

theorem isVec_fma (lc : Nat) (d : Desc) : IsVec lc d 0x32 0 [2, 2, 2, 2] none (.fma lc d) := ⟨_, _, fun _ => rfl⟩

theorem isVec_rowred {lc : Nat} {d : Desc} {p : Instr × Nat}
    (hp : p ∈ [(Instr.rowredSum lc d, 0), (.rowredMax lc d, 1), (.rowredMin lc d, 2), (.rowredAbsmax lc d, 3), (.rowredSumsq lc d, 4)]) :
    IsVec lc d 0x33 0 [2, 2, 0, 0] (some p.2) p.1 := by
  fin_cases hp <;> exact ⟨_, _, fun _ => rfl⟩

theorem isVec_softmax (lc : Nat) (d : Desc) : IsVec lc d 0x34 (2 ^ 32 - 1) [2, 2, 0, 0] none (.softmax lc d) := ⟨_, _, fun _ => rfl⟩

theorem isVec_norm {lc : Nat} {d : Desc} {p : Instr × Nat} (hp : p ∈ [(Instr.normLayernorm lc d, 0), (.normRmsnorm lc d, 1)]) :
    IsVec lc d 0x35 (2 ^ 32 - 1) [2, 2, 1, 1] (some p.2) p.1 := by
  fin_cases hp <;> exact ⟨_, _, fun _ => rfl⟩

end Sys2Proof.Machine
end

section
/-! SUPPORT. Descriptors without references (R88–R90, R535): the fault record of one that is refused, and what one that is ready leaves. -/
namespace Sys2Proof.Machine
-- This option makes Lean elaborate the proofs one after the other: side by side they take more threads than the check's memory limit allows.
set_option deprecated.oldSectionVars true

/-! ### Fault records -/

theorem mkFaultRec_code_ref (code ref lcore : Nat) (lasting : Bool) (level launch ev ctx gen part upath desc tick : Nat) :
    let v := (mkFaultRec code ref (some lcore) lasting level (some launch) ev ctx gen part upath desc tick).toNat
    bitsOf v 7 0 = code % 256 ∧ bitsOf v 10 8 = ref % 8 := by
  simp only [mkFaultRec, bitsOf, BitVec.toNat_ofNat]
  omega

theorem State.endProgram_prog {s : State} {n status desc : Nat} (active : (s.prog n).active = true) (running : (s.prog n).ended = none) :
    ((s.endProgram n status desc).prog n).ended = some status := by
  unfold State.endProgram
  extract_lets p t
  have noted : t.prog n = { p with ended := some status, lastDesc := desc } := State.prog_setProg_same _ _ _
  have goes : (p.active && p.ended.isNone) = true := by
    unfold p
    rw [active, running]
    rfl
  rw [if_pos goes]
  refine State.each_keeps (I := fun u => (u.prog n).ended = some status) (fun c _ u hu => ?_) (by rw [noted])
  split
  · rwa [State.prog_congr (((State.coreSync_kept (Msub.refl _) (.refl _ _)).progs rfl).trans (State.modSeq_progs _ _ _))]
  · exact hu

theorem State.faultRecord_stored (s : State) (r : FaultRec) :
    smGet (fun _ => (0 : FaultRec)) (s.faultRecord r).faults (s.fld .fr (Fr.FR_HEAD.sub 7 0)) = r := by
  unfold State.faultRecord
  extract_lets idx n t u v
  have shown : v.faultWindow.faults = v.faults := State.each_keeps (I := fun w => w.faults = v.faults)
    (fun _ _ w hw => (State.setFld_faults _ _ _ _ _).trans hw) rfl
  have head : v.faults = u.faults := (State.bump_faults _ _ _ _).trans (State.setFld_faults _ _ _ _ _)
  rw [shown, head]
  exact smGet_smSet_same _ _ _ _

theorem Kept.faults {M : Nat} {s t : State} (h : Kept M s t) (hm : M.testBit 126 = false) : t.faults = s.faults :=
  h.agree .faults hm

/-- A fault of the program on a core writes its record at the ring's head and ends the program (R135, R429, R441). -/
theorem State.progFault_faulted (s : State) (lc : Nat) {code ref : Nat} (ev desc : Nat) (hc : code < 256) (hr : ref < 8) :
    s.Faulted (s.progFault lc code ref ev desc) lc code ref := by
  unfold State.progFault
  extract_lets q p u t
  have told : Kept _ t (t.event ev u) := State.event_kept (Msub.refl _) (.refl _ t)
  have ended : Kept _ (t.event ev u) ((t.event ev u).endProgram q.slot 1 desc) := State.endProgram_kept (Msub.refl _) (.refl _ _)
  have stored : ∀ rec, t = s.faultRecord rec →
      smGet (fun _ => (0 : FaultRec)) ((t.event ev u).endProgram q.slot 1 desc).faults (s.fld .fr (Fr.FR_HEAD.sub 7 0)) = rec := by
    intro rec made
    rw [ended.faults rfl, told.faults rfl, made, State.faultRecord_stored]
  obtain ⟨recCode, recRef⟩ := mkFaultRec_code_ref code ref (lc % 8) false 0 q.slot ev p.ctx p.gen p.part u desc s.tick
  have progs : (t.event ev u).progs = s.progs := (told.progs rfl).trans ((State.faultRecord_kept (Msub.refl _) (.refl _ s)).progs rfl)
  refine ⟨?_, ?_, fun active running => ?_⟩
  · rw [stored _ rfl, recCode, Nat.mod_eq_of_lt hc]
  · rw [stored _ rfl, recRef, Nat.mod_eq_of_lt hr]
  · refine State.endProgram_prog ?_ ?_
    · rwa [State.prog_congr progs]
    · rwa [State.prog_congr progs]

theorem State.progFault_mem (s : State) (lc code ref ev desc : Nat) : (s.progFault lc code ref ev desc).mem = s.mem :=
  (State.progFault_kept (Msub.refl _) (.refl _ s)).mem rfl

/-- A fault of a descriptor that is no bus error of its fetch, and no place that the partition's seal refuses the program. -/
theorem State.descFault_eq {s : State} {lc desc : Nat} {e : DF} (own : e.code = 5 → s.ownSealOk (s.partOf lc) (s.seq lc).pc 64 = true)
    (bus : e.code = 6 → e.ref ≠ 0) : s.descFault lc desc e = s.progFault lc e.code e.ref e.event desc := by
  have noSeal : (e.code = 5 && !s.ownSealOk (s.prog (s.seq lc).slot).part (s.seq lc).pc 64) = false := by
    by_cases h : e.code = 5
    · simpa [h, State.partOf] using own h
    · simp [h]
  have noBus : (e.code = 6 && e.ref = 0 && desc = (s.seq lc).pc) = false := by
    by_cases h : e.code = 6
    · simp [h, bus h]
    · simp [h]
  simp only [State.descFault, noSeal, noBus, Bool.false_eq_true, if_false]

/-! ### Descriptors without references -/

/-- Nothing holds back a ready descriptor without references whose check finds nothing: its effect begins. -/
theorem State.issueCtl_ready {s : State} {lc : Nat} {d : Desc} {f : Form} {serial : Bool} {unit : Nat} {check : State → Seq → Option DF}
    {eff : State → Nat → State} (h : s.CtlReady lc d f serial unit) (hc : check s (s.seq lc) = none) :
    s.issueCtl lc d f serial unit check eff = eff (s.atIssue lc) (s.seq lc).nextId := by
  obtain ⟨opcode, free, clear, fetched, front, lines⟩ := h
  simp only [State.issueCtl, opcode, free, clear, fetched, front, hc, lines, Bool.not_true, Bool.or_self, Bool.false_eq_true, if_false]
  rfl

/-- A ready descriptor whose check finds a fault. -/
theorem State.issueCtl_refused {s : State} {lc : Nat} {d : Desc} {f : Form} {serial : Bool} {unit : Nat} {check : State → Seq → Option DF}
    {e : DF} (h : s.CtlReady lc d f serial unit) (hc : check s (s.seq lc) = some e) (eff : State → Nat → State) :
    s.issueCtl lc d f serial unit check eff = s.descFault lc (s.seq lc).pc e := by
  obtain ⟨opcode, free, clear, fetched, front, -⟩ := h
  simp only [State.issueCtl, opcode, free, clear, fetched, front, hc, Bool.not_true, Bool.or_self, Bool.false_eq_true, if_false]

/-- A descriptor whose fetch or checks up to the slots find a fault. -/
theorem State.issueCtl_frontFail {s : State} {lc : Nat} {d : Desc} {f : Form} {serial : Bool} {unit : Nat} {e : DF}
    (opcode : d.foreign f = false) (free : (s.seq lc).canIssue (d.ser || serial) unit = true) (clear : (s.seq lc).hazard f.out f.inp = false)
    (fetched : s.mustAwait [((s.seq lc).pc, 64)] [] = false) (front : s.frontFail lc d f = some e) (check : State → Seq → Option DF)
    (eff : State → Nat → State) : s.issueCtl lc d f serial unit check eff = s.descFault lc (s.seq lc).pc e := by
  simp only [State.issueCtl, opcode, free, clear, fetched, front, Bool.not_true, Bool.or_self, Bool.false_eq_true, if_false]

theorem State.ownSealOk_of_frontFail {s : State} {lc : Nat} {d : Desc} {f : Form} (h : s.frontFail lc d f = none) :
    s.ownSealOk (s.partOf lc) (s.seq lc).pc 64 = true := by
  by_contra closed
  rw [State.partOf] at closed
  simp [State.frontFail, closed] at h

/-- A ready descriptor that its check refuses, for no bus error, faults its program. -/
theorem State.issueCtl_faulted {s : State} {lc : Nat} {d : Desc} {f : Form} {serial : Bool} {unit : Nat} {check : State → Seq → Option DF}
    {e : DF} (h : s.CtlReady lc d f serial unit) (hc : check s (s.seq lc) = some e) (bus : e.code = 6 → e.ref ≠ 0) (code : e.code < 256)
    (ref : e.ref < 8) (eff : State → Nat → State) :
    s.Faulted (s.issueCtl lc d f serial unit check eff) lc e.code e.ref ∧ (s.issueCtl lc d f serial unit check eff).mem = s.mem := by
  rw [State.issueCtl_refused h hc, State.descFault_eq (fun _ => State.ownSealOk_of_frontFail h.front) bus]
  exact ⟨State.progFault_faulted s lc _ _ code ref, State.progFault_mem _ _ _ _ _ _⟩

/-! ### What the ends of a control descriptor leave -/

theorem State.atIssue_kept (s : State) (lc : Nat) : Kept (partsMask [.page 29, .seqs, .cores]) s (s.atIssue lc) :=
  State.modSeq_kept (.of_beq rfl) (State.issued_kept (.of_beq rfl) (.refl _ s))

theorem State.seq_completed (s : State) (lc : Nat) : (s.completed lc).seq lc = { s.seq lc with lastDone := s.tick } := by
  unfold State.completed State.completedAt
  extract_lets t n p
  have noted : t.seq lc = { s.seq lc with lastDone := s.tick } := State.seq_setSeq_same _ _ _
  split
  · rw [State.seq_congr (State.setProg_seqs _ _ _), noted]
  · exact noted

theorem State.completed_mem (s : State) (lc : Nat) : (s.completed lc).mem = s.mem := (State.completed_kept (Msub.refl _) (.refl _ s)).mem rfl

theorem State.atIssue_mem (s : State) (lc : Nat) : (s.atIssue lc).mem = s.mem := (s.atIssue_kept lc).mem rfl

theorem Seq.adv_flight (q : Seq) (a : Nat) : (q.adv a).infl = q.infl := (Seq.advGo_flight _ _ _).1

theorem State.infl_atIssue (s : State) (lc : Nat) : ((s.atIssue lc).seq lc).infl = (s.seq lc).infl := by
  rw [State.seq_atIssue]
  exact Seq.adv_flight _ _

theorem State.movedOn_atIssue (s : State) (lc : Nat) : s.MovedOn (s.atIssue lc) lc := by rw [State.MovedOn, State.seq_atIssue]

/-- A descriptor that completes at issue. -/
theorem State.movedOn_completed (s : State) (lc : Nat) : s.MovedOn ((s.atIssue lc).completed lc) lc ∧
    (((s.atIssue lc).completed lc).seq lc).infl = (s.seq lc).infl ∧ ((s.atIssue lc).completed lc).mem = s.mem := by
  refine ⟨?_, ?_, (State.completed_mem _ _).trans (s.atIssue_mem lc)⟩
  · rw [State.MovedOn, State.seq_completed, State.seq_atIssue]
  · rw [State.seq_completed, ← s.infl_atIssue lc]

theorem Seq.canIssue_serial {q : Seq} {ser : Bool} {unit : Nat} (h : q.canIssue (ser || true) unit = true) : q.infl = [] := by
  simpa [Seq.canIssue] using (Bool.and_eq_true_iff.mp h).2

end Sys2Proof.Machine
end

section
/-! NOP and SET (R104, R105). -/
namespace Sys2Proof.Machine
-- This option makes Lean elaborate the proofs one after the other: side by side they take more threads than the check's memory limit allows.
set_option deprecated.oldSectionVars true

theorem Seq.xr_setX_same (q : Seq) {n v : Nat} (hn : n ≠ 0) (hv : v < 2 ^ 64) : (q.setX n v).xr n = v := by
  rw [Seq.setX, if_neg hn, Seq.xr, if_neg hn, smGet_smSet_same, BitVec.toNat_ofNat, Nat.mod_eq_of_lt hv]

theorem Seq.xr_setX_ne (q : Seq) {n m : Nat} (v : Nat) (h : m ≠ n) : (q.setX n v).xr m = q.xr m := by
  unfold Seq.setX
  split
  · rfl
  · rw [Seq.xr, Seq.xr, smGet_smSet_ne _ _ _ _ _ h]

/-- Outside loops the stream goes on with the next descriptor, and nothing else changes. -/
theorem Seq.adv_of_no_loops {q : Seq} (a : Nat) (h : q.loops = []) : q.adv a = { q with pc := a + 64 } := by
  simp [Seq.adv, Seq.advGo, h]

theorem Seq.setTo_loops (q : Seq) (n v : Nat) : (q.setTo n v).loops = q.loops := by
  unfold Seq.setTo Seq.setX
  split_ifs <;> rfl

/-- Outside loops, SET leaves its value in the register that it names (R105). -/
theorem Seq.setTo_adv_reads {q : Seq} {n w : Nat} (a : Nat) (h : q.loops = []) (hw : w < 2 ^ 64) :
    (1 ≤ n → n ≤ 7 → ((q.setTo n w).adv a).xr n = w) ∧ (n = 17 → ((q.setTo n w).adv a).trec = w) ∧
      (n = 18 → ((q.setTo n w).adv a).pflags = w % 8) := by
  rw [Seq.adv_of_no_loops a ((q.setTo_loops n w).trans h)]
  refine ⟨fun lo hi => ?_, fun e => ?_, fun e => ?_⟩
  · rw [Seq.setTo, if_neg (by omega), if_neg (by omega)]
    exact q.xr_setX_same (by omega) hw
  · rw [Seq.setTo, if_pos e]
  · rw [Seq.setTo, if_neg (by omega), if_pos e]

/-- The checks of R535 begin with the opcode: a reserved one, or a SUBOP that it does not define, is OPCODE. -/
theorem State.frontFail_reserved {s : State} {lc : Nat} {d : Desc} (f : Form) (own : s.ownSealOk (s.partOf lc) (s.seq lc).pc 64 = true)
    (fetch : (s.fetch lc).2 ≠ none) (op : (opcodeSubs d.opcode).any (fun l => l.contains d.subop) = false) :
    s.frontFail lc d f = some { code := 1 } := by
  rw [State.partOf] at own
  simp only [State.frontFail, own, Option.isNone_eq_false_iff.mpr (Option.isSome_iff_ne_none.mpr fetch), Desc.headFail, op, Bool.not_true,
    Bool.not_false, Bool.false_eq_true, if_false, if_true]

theorem rangesMeet_nil (xs : List (Nat × Nat)) : rangesMeet xs [] = false := by simp [rangesMeet]

theorem Seq.hazard_nil (q : Seq) : q.hazard [] [] = false := by simp [Seq.hazard, rangesMeet_nil]

/-- A descriptor with a reserved opcode or SUBOP that comes up as one without operands in memory faults with OPCODE (R95, R103). -/
theorem State.issueCtl_reserved {s : State} {lc : Nat} {d : Desc} {f : Form} (foreign : d.foreign f = false)
    (ranges : f.out = [] ∧ f.inp = []) (op : (opcodeSubs d.opcode).any (fun l => l.contains d.subop) = false)
    (free : (s.seq lc).canIssue d.ser 0 = true) (fetched : s.mustAwait [((s.seq lc).pc, 64)] [] = false)
    (own : s.ownSealOk (s.partOf lc) (s.seq lc).pc 64 = true) (fetch : (s.fetch lc).2 ≠ none) (check : State → Seq → Option DF)
    (eff : State → Nat → State) : s.Faulted (s.issueCtl lc d f false 0 check eff) lc 0x01 0 := by
  have clear : (s.seq lc).hazard f.out f.inp = false := by
    rw [ranges.1, ranges.2]
    exact Seq.hazard_nil _
  rw [State.issueCtl_frontFail foreign (by rwa [Bool.or_false]) clear fetched (State.frontFail_reserved f own fetch op),
    State.descFault_eq (fun _ => own) (by simp)]
  exact State.progFault_faulted s lc _ _ (by decide) (by decide)

/-- SET where it is ready: what the sequencer holds is what the write and then the end of a pass make of it (R105, R106). -/
theorem exec_setReg_ready {s : State} {lc : Nat} {d : Desc} {v : Nat} (read : s.seqReg lc (d.imm0.toNat % 256) = some v)
    (ready : s.CtlReady lc d { code := 0x02, m0 := 255, m1 := 2 ^ 64 - 1, m2 := 2 ^ 64 - 1 } false 0) :
    let q := ((s.seq lc).setTo d.subop ((v * d.imm1.toNat + d.imm2.toNat) % 2 ^ 64)).adv (s.seq lc).pc
    exec (.setReg lc d) s = .next (((s.atIssue lc).modSeq lc (fun p =>
      { p with x := q.x, trec := q.trec, pflags := q.pflags, loops := q.loops, pc := q.pc })).completed lc) := by
  simp only [exec, execSetReg, read, Option.isNone_some, imm64, Option.getD_some]
  rw [State.issueCtl_ready ready rfl]

/-- Settles O1: NOP and SET complete at issue, and a reserved opcode or destination is the first check that fails. -/
theorem nopDoesNothingAndSetWrites : Obligations.NopDoesNothingAndSetWrites := by
  unfold Obligations.NopDoesNothingAndSetWrites
  refine ⟨?nop, ?set, ?reserved⟩
  case nop =>
    intro s lc d ready
    obtain ⟨moved, flight, mem⟩ := s.movedOn_completed lc
    refine ⟨(s.atIssue lc).completed lc, ?_, moved, flight, ?_, mem⟩
    · simp only [exec, execNop]
      rw [State.issueCtl_ready ready rfl]
    · rw [State.seq_completed, State.seq_atIssue]
  case set =>
    intro s lc d v read ready w q
    refine ⟨_, exec_setReg_ready read ready, ?_⟩
    simp only [State.seq_completed, State.modSeq, State.seq_setSeq_same, State.completed_mem, State.setSeq_mem, State.atIssue_mem, State.infl_atIssue]
    have hw : w < 2 ^ 64 := Nat.mod_lt _ (by decide)
    refine ⟨rfl, rfl, rfl, rfl, trivial, trivial, fun h => ?_, fun h => ?_, fun h => ?_⟩
    · exact (Seq.setTo_adv_reads (s.seq lc).pc h hw).1
    · exact (Seq.setTo_adv_reads (s.seq lc).pc h hw).2.1
    · exact (Seq.setTo_adv_reads (s.seq lc).pc h hw).2.2
  case reserved =>
    intro s lc d c hc wrong free _ fetched own fetch
    have op : (opcodeSubs d.opcode).any (fun l => l.contains d.subop) = false := by
      rcases wrong with none | ⟨-, two, no⟩
      · simp [none]
      · simpa [two, opcodeSubs] using no
    simp only [List.mem_cons, List.not_mem_nil, or_false] at hc
    rcases hc with rfl | rfl
    · refine ⟨_, rfl, State.issueCtl_reserved ?_ ⟨rfl, rfl⟩ op free fetched own fetch _ _⟩
      rcases wrong with none | ⟨set, -⟩
      · simp [Desc.foreign, none]
      · cases set
    · refine ⟨_, rfl, State.issueCtl_reserved ?_ ⟨rfl, rfl⟩ op free fetched own fetch _ _⟩
      rcases wrong with none | ⟨-, two, -⟩
      · simp [Desc.foreign, none]
      · simp [Desc.foreign, two, opcodeSubs]

end Sys2Proof.Machine
end

section
/-! The descriptors that move and convert data (R112–R114, R134). -/
namespace Sys2Proof.Machine
-- This option makes Lean elaborate the proofs one after the other: side by side they take more threads than the check's memory limit allows.
set_option deprecated.oldSectionVars true

theorem State.writeBits_seqs {s u : State} {t : Tens} {bits : List Nat} {ctx : Option (Nat × Nat)} {ok : Bool}
    (h : s.writeBits t bits ctx = (u, ok)) : u.seqs = s.seqs := by
  have kept := (State.writeBits_kept (p1 := t) (p2 := bits) (p3 := ctx) (Msub.refl _) (.refl _ s)).seqs rfl
  rwa [h] at kept

theorem State.writeOut_seqs {s u : State} {r : Tref} {part : Nat} {vals : List (Val × Bool)} {ctx : Option (Nat × Nat)} {fl : Flags} {ok : Bool}
    (h : s.writeOut r part vals ctx = (u, fl, ok)) : u.seqs = s.seqs := by
  have kept := (State.writeOut_kept (p1 := r) (p2 := part) (p3 := vals) (p4 := ctx) (Msub.refl _) (.refl _ s)).seqs rfl
  rwa [h] at kept

theorem State.writeMem_seqs {s u : State} {a : Nat} {bs : List Byte} {ctx : Option (Nat × Nat)} {ok : Bool}
    (h : s.writeMem a bs ctx = (u, ok)) : u.seqs = s.seqs := by
  have kept := (State.writeMem_kept (p1 := a) (p2 := bs) (p3 := ctx) (p4 := false) (Msub.refl _) (.refl _ s)).seqs rfl
  rwa [h] at kept

theorem State.digKey_atIssue (s : State) (lc part : Nat) : (s.atIssue lc).digKey part = s.digKey part := by
  simp only [State.digKey, State.fld64, (s.atIssue_kept lc).fld (.nmu 0) _ _ rfl]

/-- The extent of a tensor along an axis. -/
def Tens.extent (t : Tens) (ax : Nat) : Nat :=
  match ax with
  | 0 => t.e0
  | 1 => t.e1
  | 2 => t.e2
  | _ => t.e3

theorem Tens.extent_eq (t : Tens) {ax : Nat} (h : ax < 4) : t.extent ax = [t.e0, t.e1, t.e2, t.e3].getD ax 0 := by
  interval_cases ax <;> rfl

/-- TRANSPOSE (R112): axis `i` of D is the axis of A that field `i` of the permutation names. -/
theorem transpose_issues {s s2 : State} {lc : Nat} {d : Desc} {r : Refs} {bits : List Nat} (ready : s.RefReady lc d (permForm (d.imm0.toNat % 256)) 1 r)
    (fmt : r.aa.fmt = r.dd.fmt)
    (fit : ∀ i < 4, [r.dd.t.e0, r.dd.t.e1, r.dd.t.e2, r.dd.t.e3].getD i 0
      = [r.aa.t.e0, r.aa.t.e1, r.aa.t.e2, r.aa.t.e3].getD (d.imm0.toNat % 256 / 4 ^ i % 4) 0)
    (read : (s.atIssue lc).readBits r.aa.t (s.whoOf lc) = (s.atIssue lc, some bits)) :
    let src := fun (i : Nat × Nat × Nat × Nat) ax =>
      match (List.range 4).find? (fun n => d.imm0.toNat % 256 / 4 ^ n % 4 == ax) with
      | some n => [i.1, i.2.1, i.2.2.1, i.2.2.2].getD n 0
      | none => 0
    (s.atIssue lc).writeBits r.dd.t (r.dd.t.ix.map (fun i => bits.getD (r.aa.t.flat (src i 0) (src i 1) (src i 2) (src i 3)) 0)) (s.whoOf lc)
      = (s2, true) →
    s.Issues (.transpose lc d) lc (permForm (d.imm0.toNat % 256)) 1 r [] { s := s2 } := by
  intro src written
  refine ⟨_, rfl, State.issue_ranAs (f := permForm (d.imm0.toNat % 256)) ready ?_ rfl ?_ rfl (State.writeBits_seqs written)⟩
  · refine (if_neg fun misfit => ?_).trans (if_neg (not_not.mpr fmt))
    obtain ⟨i, hi, ne⟩ := List.any_eq_true.mp misfit
    have hi : i < 4 := List.mem_range.mp hi
    have same : r.dd.t.extent i = r.aa.t.extent (permOf (d.imm0.toNat % 256) i) := by
      rw [Tens.extent_eq _ hi, fit i hi, permOf, Tens.extent_eq _ (Nat.mod_lt _ (by decide))]
    exact bne_iff_ne.mp ne same
  · simp only [State.whoOf_atIssue, read]
    exact congrArg (fun p : State × Bool => if p.2 = true then ({ s := p.1 } : Eff) else Eff.bus p.1 1) written

/-- Settles O5: each command issues with the effect that its row of Table 4.5 has on what it reads. -/
theorem dataDescriptorsWriteTheirResults : Obligations.DataDescriptorsWriteTheirResults := by
  unfold Obligations.DataDescriptorsWriteTheirResults
  refine ⟨?transpose, ?gather, ?scatter, ?convert, ?fill, ?digest⟩
  case transpose =>
    intro s lc d r bits s2 v _ ready fmt fit read src written
    exact transpose_issues ready fmt fit read written
  case gather =>
    intro s lc d r a b s2 fl ready fit readB readA row bad written
    refine ⟨_, rfl, State.issue_ranAs ready fit rfl ?_ rfl (State.writeOut_seqs written)⟩
    simp only [State.whoOf_atIssue, State.partOf_atIssue, readB, readA]
    simp only [row] at written
    simp only [written, Eff.ofOut, Bool.or_eq_true, decide_eq_true_eq, if_true, bad]
  case scatter =>
    intro s lc d r dv a b s2 fl ready fit readD readB readA acc bad written
    refine ⟨_, rfl, State.issue_ranAs ready fit rfl ?_ rfl (State.writeOut_seqs written)⟩
    simp only [State.whoOf_atIssue, State.partOf_atIssue, readD, readB, readA]
    simp only [acc] at written
    simp only [written]
    rfl
  case convert =>
    intro s lc d r a s2 fl p hp ready fit read written
    have runs : ∀ quant, s.RefReady lc d (convForm quant) 1 r →
        s.RanAs (convIssue s lc d quant) lc (convForm quant) 1 r [] (wrote s2 fl 0) := by
      intro quant ready
      refine State.issue_ranAs (f := convForm quant) ready ?_ rfl ?_ rfl (State.writeOut_seqs written)
      · exact if_neg (not_not.mpr fit)
      · simp only [State.whoOf_atIssue, State.partOf_atIssue, read, written]
        rfl
    fin_cases hp
    · exact ⟨_, rfl, runs false ready⟩
    · exact ⟨_, rfl, runs true ready⟩
  case fill =>
    intro s lc d r s2 fl ready written
    refine ⟨_, rfl, State.issue_ranAs (f := fillForm) ready rfl rfl ?_ rfl (State.writeOut_seqs written)⟩
    simp only [State.whoOf_atIssue, State.partOf_atIssue, written]
    rfl
  case digest =>
    intro s lc d r bs s2 ready dense aligned own place key read written
    refine ⟨_, rfl, State.issue_ranAs (f := digestForm d.imm1.toNat) ready ?_ rfl ?_ rfl (State.writeMem_seqs written)⟩
    · simp [dense, aligned, own, place]
    · simp only [State.whoOf_atIssue, State.partOf_atIssue, State.digKey_atIssue, key, if_false, read, written]
      rfl

end Sys2Proof.Machine
end

section
/-! SUPPORT. Waits (R107, R129): a descriptor that is put in flight, what its evaluation does with the word, and how it leaves the flight. -/
namespace Sys2Proof.Machine
-- This option makes Lean elaborate the proofs one after the other: side by side they take more threads than the check's memory limit allows.
set_option deprecated.oldSectionVars true

/-! ### A descriptor in flight -/

theorem State.pushInfl_mem (s : State) (lc : Nat) (i : Infl) : (s.pushInfl lc i).mem = s.mem :=
  (State.pushInfl_kept (Msub.refl _) (.refl _ s)).mem rfl

theorem State.lastDesc_atIssue (s : State) (lc : Nat) : ((s.atIssue lc).seq lc).lastDesc = (s.seq lc).pc := by rw [State.seq_atIssue]

theorem State.tick_atIssue (s : State) (lc : Nat) : (s.atIssue lc).tick = s.tick := (s.atIssue_kept lc).tick rfl

theorem State.deadline_atIssue (s : State) (lc : Nat) (d : Desc) : (s.atIssue lc).deadline d = s.deadline d := by
  rw [State.deadline, State.tick_atIssue, State.deadline]

/-- A descriptor that issues and is put in flight: the stream has moved on, and memory is as it was. -/
theorem State.movedOn_pushInfl (s : State) (lc : Nat) (i : Infl) : s.MovedOn ((s.atIssue lc).pushInfl lc i) lc ∧
    (((s.atIssue lc).pushInfl lc i).seq lc).infl = (s.seq lc).infl ++ [i] ∧ ((s.atIssue lc).pushInfl lc i).mem = s.mem := by
  refine ⟨?_, ?_, (State.pushInfl_mem _ _ _).trans (s.atIssue_mem lc)⟩
  · rw [State.MovedOn, State.seq_pushInfl, State.seq_atIssue]
  · rw [State.seq_pushInfl, State.infl_atIssue]

theorem State.waiting_infl (s : State) (lc : Nat) (d : Desc) (w : Option WaitK) (g : Option Sig) :
    ((s.waiting lc d w g).seq lc).infl =
      (s.seq lc).infl ++ [{ id := (s.seq lc).nextId, desc := (s.seq lc).pc, ser := d.ser, wait := w, sig := g }] :=
  (s.movedOn_pushInfl lc _).2.1

theorem State.waiting_movedOn (s : State) (lc : Nat) (d : Desc) (w : Option WaitK) (g : Option Sig) : s.MovedOn (s.waiting lc d w g) lc :=
  (s.movedOn_pushInfl lc _).1

theorem State.waiting_mem (s : State) (lc : Nat) (d : Desc) (w : Option WaitK) (g : Option Sig) : (s.waiting lc d w g).mem = s.mem :=
  (s.movedOn_pushInfl lc _).2.2

theorem State.waiting_kept (s : State) (lc : Nat) (d : Desc) (w : Option WaitK) (g : Option Sig) :
    Kept (partsMask [.page 29, .page 30, .seqs, .cores]) s (s.waiting lc d w g) :=
  State.pushInfl_kept (.of_beq rfl) (State.modSeq_kept (.of_beq rfl) (State.issued_kept (.of_beq rfl) (.refl _ s)))

theorem State.whoOf_waiting (s : State) (lc : Nat) (d : Desc) (w : Option WaitK) (g : Option Sig) :
    (s.waiting lc d w g).whoOf lc = s.whoOf lc := by
  have slot : ((s.waiting lc d w g).seq lc).slot = (s.seq lc).slot := by rw [State.waiting, State.seq_pushInfl, State.slot_atIssue]
  rw [State.whoOf, slot, State.prog_congr ((s.waiting_kept lc d w g).progs rfl), State.whoOf]

theorem State.waiting_waits (s : State) (lc : Nat) (d : Desc) (w : Option WaitK) (g : Option Sig) :
    ∃ i ∈ ((s.waiting lc d w g).seq lc).infl, i.id = (s.seq lc).nextId ∧ i.wait = w := by
  rw [State.waiting_infl]
  exact ⟨_, List.mem_append_right _ (List.mem_singleton_self _), rfl, rfl⟩

/-! ### A wait is over -/

theorem State.pc_modSeq (s : State) (lc : Nat) {f : Seq → Seq} (h : ∀ q : Seq, (f q).pc = q.pc) : ((s.modSeq lc f).seq lc).pc = (s.seq lc).pc := by
  rw [State.modSeq, State.seq_setSeq_same, h]

theorem State.completedAt_pc (s : State) (lc desc : Nat) : ((s.completedAt lc desc).seq lc).pc = (s.seq lc).pc := by
  unfold State.completedAt
  extract_lets t n p
  have noted : (t.seq lc).pc = (s.seq lc).pc := by
    refine State.pc_modSeq _ _ ?_
    exact fun _ => rfl
  split
  · rw [State.seq_congr (State.setProg_seqs _ _ _), noted]
  · exact noted

theorem State.retire_pc (s : State) (lc id : Nat) : ((s.retire lc id).seq lc).pc = (s.seq lc).pc := by
  unfold State.retire
  split
  · rfl
  · next i _ =>
    extract_lets fl t counted u
    have left : (t.seq lc).pc = (s.seq lc).pc := by
      refine State.pc_modSeq _ _ ?_
      exact fun _ => rfl
    have kept : counted.seqs = t.seqs := by
      unfold counted
      split
      · rfl
      · extract_lets a b
        have ha : a.seqs = t.seqs := by unfold a; split <;> simp
        have hb : b.seqs = t.seqs := by unfold b; split <;> simp [ha]
        split <;> simp [hb]
    have told : u.seqs = counted.seqs := by
      unfold u
      split
      · rfl
      · exact (State.event_kept (Msub.refl _) (.refl _ counted)).seqs rfl
    rw [State.seq_congr (State.coreSync_seqs _ _), State.completedAt_pc, State.seq_congr (told.trans kept), left]

/-- A descriptor whose wait is over retires: it has left the flight, the stream goes on where it was, and memory is as it was. -/
theorem State.waitDone_retired (s : State) (lc id : Nat) : ((s.waitDone lc id).seq lc).pc = (s.seq lc).pc ∧
    (s.waitDone lc id).mem = s.mem ∧ ∀ i ∈ ((s.waitDone lc id).seq lc).infl, i.id ≠ id := by
  refine ⟨?_, (State.waitDone_kept (Msub.refl _) (.refl _ s)).mem rfl, fun i hi same => ?_⟩
  · rw [State.waitDone, State.retire_pc]
    refine State.pc_modSeq _ _ ?_
    exact fun _ => rfl
  · have listed : i.id ∈ (s.waitDone lc id).flightIds lc := List.mem_map_of_mem hi
    rw [(s.waitDone_leaves lc id).1, if_pos rfl] at listed
    simpa [same] using (List.mem_filter.mp listed).2

/-! ### The evaluation of a word -/

/-- The word of a WAIT can be read: where the condition holds the wait is over, and where it does not nothing changes (R107). -/
theorem State.waitEval_read {s : State} {lc kind a x : Nat} {b : List Byte} (id : Nat) (open_ : s.mustAwait [(a, 8)] [] = false)
    (read : s.readMem a 8 (s.whoOf lc) = (s, some b)) :
    s.waitEval lc id kind a x = if waitTrue kind (natLE b) x then s.waitDone lc id else s := by
  simp [State.waitEval, open_, read]

/-- The word of a RECV can be read and is too small: nothing changes (R129). -/
theorem State.recvEval_short {s : State} {lc a x : Nat} {b : List Byte} (id : Nat) (open_ : s.mustAwait [(a, 8)] [] = false)
    (read : s.readMem a 8 (s.whoOf lc) = (s, some b)) (short : natLE b < x) : s.recvEval lc id a x = s := by
  simp [State.recvEval, open_, read, Nat.not_le.mpr short]

/-- The word of a RECV can be read and written: it is lowered, and the wait is over (R129). -/
theorem State.recvEval_taken {s : State} {lc a x : Nat} {b : List Byte} (id : Nat) (open_ : s.mustAwait [(a, 8)] [] = false)
    (read : s.readMem a 8 (s.whoOf lc) = (s, some b)) (enough : x ≤ natLE b) (free : s.wordHeld a = none)
    (put : (s.writeMem a (bytesLE 8 (natLE b - x)) (s.whoOf lc)).2 = true) :
    s.recvEval lc id a x = (s.writeMem a (bytesLE 8 (natLE b - x)) (s.whoOf lc)).1.waitDone lc id := by
  simp [State.recvEval, open_, read, enough, free, put]

theorem State.seq_writeMem (s : State) (lc a : Nat) (bs : List Byte) (ctx : Option (Nat × Nat)) : ((s.writeMem a bs ctx).1.seq lc) = s.seq lc :=
  State.seq_congr (State.writeMem_seqs rfl) lc

/-! ### Issue -/

/-- A WAIT of SUBOP 0–2 that is ready is put in flight and evaluated. -/
theorem State.waitIssue_ready {s : State} {lc kind : Nat} {d : Desc}
    (ready : s.CtlReady lc d { code := 0x04, sub := some kind, m0 := 2 ^ 64 - 1, m1 := 2 ^ 64 - 1, m2 := 2 ^ 32 - 1 } false 0)
    (place : s.wordFail lc (s.partOf lc) d.imm0.toNat false = 0) :
    s.waitIssue lc d kind = (s.waiting lc d (some (.cmp kind d.imm0.toNat d.imm1.toNat (s.deadline d))) none).waitEval lc (s.seq lc).nextId kind
      d.imm0.toNat d.imm1.toNat := by
  rw [State.waitIssue, imm64, State.issueCtl_ready ready (by simp only [place, if_true]), State.lastDesc_atIssue, State.deadline_atIssue]
  rfl

theorem exec_recv_ready {s : State} {lc : Nat} {d : Desc}
    (ready : s.CtlReady lc d { code := 0x39, m0 := 2 ^ 64 - 1, m1 := 2 ^ 64 - 1, m2 := 2 ^ 32 - 1 } false 0)
    (place : s.wordFail lc (s.partOf lc) d.imm0.toNat false = 0) :
    exec (.recv lc d) s = .next ((s.waiting lc d (some (.recv d.imm0.toNat d.imm1.toNat (s.deadline d))) none).recvEval lc (s.seq lc).nextId
      d.imm0.toNat d.imm1.toNat) := by
  rw [exec, execRecv, imm64, State.issueCtl_ready ready (by simp only [place, if_true]), State.lastDesc_atIssue, State.deadline_atIssue]
  rfl

end Sys2Proof.Machine
end

section
/-! WAIT and RECV (R107, R129). -/
namespace Sys2Proof.Machine
-- This option makes Lean elaborate the proofs one after the other: side by side they take more threads than the check's memory limit allows.
set_option deprecated.oldSectionVars true

theorem exec_waitConditionMet_cmp {s : State} {lc id k a x dl : Nat} (w : s.waitOf lc id = some (.cmp k a x dl)) :
    exec (.waitConditionMet lc id) s = .next (s.waitEval lc id k a x) := by simp only [exec, execWaitConditionMet, w]

theorem exec_recvSatisfied_recv {s : State} {lc id a x dl : Nat} (w : s.waitOf lc id = some (.recv a x dl)) :
    exec (.recvSatisfied lc id) s = .next (s.recvEval lc id a x) := by simp only [exec, execRecvSatisfied, w]

/-- The timeout of a WAIT expires on a condition that is still false (R107). -/
theorem exec_waitTimeout_cmp {s : State} {lc id k a x dl : Nat} (w : s.waitOf lc id = some (.cmp k a x dl)) (timed : dl ≠ 0) (late : dl ≤ s.tick)
    (run : (s.seq lc).st = 1) (still : s.waitEval lc id k a x = s) :
    ∃ t, exec (.waitTimeout lc id) s = .next t ∧ s.Faulted t lc 0x0E 5 := by
  refine ⟨s.progFault lc 0x0E 5 0x112B (((s.seq lc).infl.find? (fun i => i.id == id)).elim 0 (·.desc)), ?_,
    State.progFault_faulted s lc _ _ (by decide) (by decide)⟩
  simp [exec, execWaitTimeout, w, timed, late, run, still]

/-- The timeout of a RECV expires on a word that is still too small (R129). -/
theorem exec_waitTimeout_recv {s : State} {lc id a x dl : Nat} (w : s.waitOf lc id = some (.recv a x dl)) (timed : dl ≠ 0) (late : dl ≤ s.tick)
    (run : (s.seq lc).st = 1) (still : s.recvEval lc id a x = s) :
    ∃ t, exec (.waitTimeout lc id) s = .next t ∧ s.Faulted t lc 0x0E 5 := by
  refine ⟨s.progFault lc 0x0E 5 0x112B (((s.seq lc).infl.find? (fun i => i.id == id)).elim 0 (·.desc)), ?_,
    State.progFault_faulted s lc _ _ (by decide) (by decide)⟩
  simp [exec, execWaitTimeout, w, timed, late, run, still]

/-- WAIT_GE, WAIT_EQ and WAIT_NE, by the kind of comparison (R107). -/
theorem State.waitIssue_runs {s : State} {lc kind : Nat} {d : Desc} {b : List Byte}
    (ready : s.CtlReady lc d { code := 0x04, sub := some kind, m0 := 2 ^ 64 - 1, m1 := 2 ^ 64 - 1, m2 := 2 ^ 32 - 1 } false 0)
    (place : s.wordFail lc (s.partOf lc) d.imm0.toNat false = 0) :
    let w := some (WaitK.cmp kind d.imm0.toNat d.imm1.toNat (s.deadline d))
    let s1 := s.waiting lc d w none
    s1.mustAwait [(d.imm0.toNat, 8)] [] = false → s1.readMem d.imm0.toNat 8 (s.whoOf lc) = (s1, some b) →
    let t := s.waitIssue lc d kind
    s.MovedOn t lc ∧ t.mem = s.mem ∧
      (waitTrue kind (natLE b) d.imm1.toNat = true → ∀ i ∈ (t.seq lc).infl, i.id ≠ (s.seq lc).nextId) ∧
      (waitTrue kind (natLE b) d.imm1.toNat = false → ∃ i ∈ (t.seq lc).infl, i.id = (s.seq lc).nextId ∧ i.wait = w) := by
  intro w s1 open_ read
  have moved := s.waiting_movedOn lc d w none
  have mem := s.waiting_mem lc d w none
  rw [State.waitIssue_ready ready place, State.waitEval_read _ open_ (by rwa [State.whoOf_waiting])]
  cases met : waitTrue kind (natLE b) d.imm1.toNat with
  | true =>
    obtain ⟨pc, kept, gone⟩ := s1.waitDone_retired lc (s.seq lc).nextId
    exact ⟨pc.trans moved, kept.trans mem, fun _ => gone, fun h => absurd h (by decide)⟩
  | false =>
    rw [if_neg (by decide)]
    exact ⟨moved, mem, fun h => absurd h (by decide), fun _ => s.waiting_waits lc d w none⟩

/-- RECV: it lowers a word that is large enough and completes, and waits for one that is not (R129). -/
theorem recv_runs {s : State} {lc : Nat} {d : Desc} {b : List Byte}
    (ready : s.CtlReady lc d { code := 0x39, m0 := 2 ^ 64 - 1, m1 := 2 ^ 64 - 1, m2 := 2 ^ 32 - 1 } false 0)
    (place : s.wordFail lc (s.partOf lc) d.imm0.toNat false = 0) :
    let w := some (WaitK.recv d.imm0.toNat d.imm1.toNat (s.deadline d))
    let s1 := s.waiting lc d w none
    s1.mustAwait [(d.imm0.toNat, 8)] [] = false → s1.readMem d.imm0.toNat 8 (s.whoOf lc) = (s1, some b) →
    let put := s1.writeMem d.imm0.toNat (bytesLE 8 (natLE b - d.imm1.toNat)) (s.whoOf lc)
    (d.imm1.toNat ≤ natLE b → s1.wordHeld d.imm0.toNat = none ∧ put.2 = true) →
    ∃ t, exec (.recv lc d) s = .next t ∧ s.MovedOn t lc ∧
      (d.imm1.toNat ≤ natLE b → t.mem = put.1.mem ∧ ∀ i ∈ (t.seq lc).infl, i.id ≠ (s.seq lc).nextId) ∧
      (natLE b < d.imm1.toNat → t.mem = s.mem ∧ ∃ i ∈ (t.seq lc).infl, i.id = (s.seq lc).nextId ∧ i.wait = w) := by
  intro w s1 open_ read put free
  have who : s1.whoOf lc = s.whoOf lc := s.whoOf_waiting lc d w none
  refine ⟨_, exec_recv_ready ready place, ?_⟩
  by_cases enough : d.imm1.toNat ≤ natLE b
  · obtain ⟨held, written⟩ := free enough
    rw [State.recvEval_taken _ open_ (by rwa [who]) enough held (by rwa [who]), who]
    obtain ⟨pc, kept, gone⟩ := put.1.waitDone_retired lc (s.seq lc).nextId
    refine ⟨(pc.trans (congrArg Seq.pc (s1.seq_writeMem lc _ _ _))).trans (s.waiting_movedOn lc d w none), fun _ => ⟨kept, gone⟩, fun short => ?_⟩
    exact absurd short (Nat.not_lt.mpr enough)
  · rw [State.recvEval_short _ open_ (by rwa [who]) (Nat.not_le.mp enough)]
    exact ⟨s.waiting_movedOn lc d w none, fun h => absurd h enough, fun _ => ⟨s.waiting_mem lc d w none, s.waiting_waits lc d w none⟩⟩

/-- A word of the own chip that a descriptor may not read is refused with one code (R107, R536). -/
theorem State.wordFail_own (s : State) (lc part a : Nat) : s.wordFail lc part a false = 0 ∨ s.wordFail lc part a false = 5 := by
  unfold State.wordFail
  split
  · exact .inr rfl
  · simp only [State.locFail, Bool.false_eq_true, if_false]
    split
    · exact .inl rfl
    · exact .inr rfl

/-- Settles O3: a word that can be read is compared at issue and again after a write or at an edge, and a timeout finds it as it was. -/
theorem waitsHoldUntilTheirWords : Obligations.WaitsHoldUntilTheirWords := by
  unfold Obligations.WaitsHoldUntilTheirWords
  refine ⟨?compare, ?assert, ?assertFails, ?drain, ?met, ?late, ?recv, ?recvFails, ?recvLate, ?satisfied⟩
  case compare =>
    intro s lc d b p hp ready place s1 open_ read holds
    have run : exec p.1 s = .next (s.waitIssue lc d p.2) := by fin_cases hp <;> rfl
    have truth : waitTrue p.2 (natLE b) d.imm1.toNat = true ↔ holds := by
      fin_cases hp <;> simp [waitTrue, holds]
    obtain ⟨moved, mem, done, waits⟩ := State.waitIssue_runs ready place open_ read
    exact ⟨_, run, moved, mem, fun h => done (truth.mpr h), fun h => waits (eq_false_of_ne_true (fun e => h (truth.mp e)))⟩
  case assert =>
    intro s lc d ready clear
    obtain ⟨moved, flight, mem⟩ := s.movedOn_completed lc
    refine ⟨(s.atIssue lc).completed lc, ?_, moved, flight.trans (Seq.canIssue_serial ready.free), mem⟩
    rw [exec, execWaitAssert, State.issueCtl_ready ready (if_neg (not_not.mpr clear))]
  case assertFails =>
    intro s lc d ready set
    exact ⟨_, rfl, (State.issueCtl_faulted (e := { code := 0x0D, ref := 5 }) ready (if_pos set) (by decide) (by decide) (by decide) _).1⟩
  case drain =>
    intro s lc d ready
    obtain ⟨moved, flight, mem⟩ := s.movedOn_completed lc
    refine ⟨(s.atIssue lc).completed lc, ?_, moved, flight.trans (Seq.canIssue_serial ready.free), mem⟩
    rw [exec, execWaitDrain, State.issueCtl_ready ready rfl]
  case met =>
    intro s lc id k a x dl b w open_ read
    refine ⟨_, exec_waitConditionMet_cmp w, ?_⟩
    rw [State.waitEval_read id open_ read]
    split
    · next met =>
      obtain ⟨-, mem, gone⟩ := s.waitDone_retired lc id
      exact ⟨mem, fun _ => gone, fun no => absurd no (by simp [met])⟩
    · next not => exact ⟨rfl, fun met => absurd met not, fun _ => rfl⟩
  case late =>
    intro s lc id k a x dl b w timed late run open_ read still
    refine exec_waitTimeout_cmp w timed late run ?_
    rw [State.waitEval_read id open_ read, still]
    rfl
  case recv => exact fun s lc d b ready place => recv_runs ready place
  case recvFails =>
    intro s lc d ready e wrong
    have five : e = 5 := (s.wordFail_own lc _ _).resolve_left wrong
    obtain ⟨faulted, mem⟩ := State.issueCtl_faulted (e := { code := e, ref := 5 })
      (check := fun s _ => let c := s.wordFail lc (s.partOf lc) d.imm0.toNat false; if c = 0 then none else some { code := c, ref := 5 })
      ready (if_neg wrong) (by simp) (by simp [five]) (by simp) _
    exact ⟨_, rfl, faulted, mem⟩
  case recvLate =>
    intro s lc id a x dl b w timed late run open_ read short
    exact exec_waitTimeout_recv w timed late run (State.recvEval_short id open_ read short)
  case satisfied =>
    intro s lc id a x dl b w open_ read enough free put written
    refine ⟨_, exec_recvSatisfied_recv w, ?_⟩
    rw [State.recvEval_taken id open_ read enough free written]
    obtain ⟨-, mem, gone⟩ := put.1.waitDone_retired lc id
    exact ⟨mem, gone⟩

end Sys2Proof.Machine
end

section
/-! SUPPORT. Loops (R106), signals (R108) and the queue of NMCALLs (R133): what they leave in the sequencer. -/
namespace Sys2Proof.Machine
-- This option makes Lean elaborate the proofs one after the other: side by side they take more threads than the check's memory limit allows.
set_option deprecated.oldSectionVars true

/-! ### The stream at the end of loop bodies -/

theorem Seq.setX_loops (q : Seq) (n v : Nat) : (q.setX n v).loops = q.loops := by
  unfold Seq.setX
  split <;> rfl

theorem Seq.setX_x {q p : Seq} (n v : Nat) (h : q.x = p.x) : (q.setX n v).x = (p.setX n v).x := by
  unfold Seq.setX
  split
  · exact h
  · exact congrArg (fun x => smSet (fun _ => (0 : DWord)) x n (BitVec.ofNat 64 v)) h

theorem Seq.xr_congr {q p : Seq} (n : Nat) (h : q.x = p.x) : q.xr n = p.xr n := by rw [Seq.xr, h, Seq.xr]

/-- Where the stream goes on depends on the loops and the registers only (R106). -/
theorem Seq.advGo_pc_congr (fuel : Nat) {q p : Seq} (a : Nat) (hx : q.x = p.x) (hl : q.loops = p.loops) :
    (q.advGo fuel a).pc = (p.advGo fuel a).pc := by
  induction fuel generalizing q p with
  | zero => rfl
  | succ fuel ih =>
    unfold Seq.advGo
    rw [hl]
    split
    · next e rest _ =>
      split
      · dsimp only
        have stepped : (q.setX e.reg ((q.xr e.reg + e.step.toNat) % 2 ^ 64)).x = (p.setX e.reg ((p.xr e.reg + e.step.toNat) % 2 ^ 64)).x := by
          rw [Seq.xr_congr e.reg hx]
          exact Seq.setX_x _ _ hx
        split
        · rfl
        · exact ih stepped rfl
      · rfl
    · rfl

/-- A register that no loop counts in is as it was (R106). -/
theorem Seq.xr_advGo (fuel : Nat) {q : Seq} {reg : Nat} (a : Nat) (h : ∀ e ∈ q.loops, e.reg ≠ reg) : (q.advGo fuel a).xr reg = q.xr reg := by
  induction fuel generalizing q with
  | zero => rfl
  | succ fuel ih =>
    unfold Seq.advGo
    split
    · next e rest loops =>
      have other : reg ≠ e.reg := (h e (loops ▸ List.mem_cons_self)).symm
      have inner : ∀ e' ∈ rest, e'.reg ≠ reg := fun e' he => h e' (loops ▸ List.mem_cons_of_mem _ he)
      split
      · dsimp only
        split
        · exact q.xr_setX_ne _ other
        · exact (ih inner).trans (q.xr_setX_ne _ other)
      · rfl
    · rfl

/-- Before the end of the innermost loop body the stream goes on with the next descriptor (R106). -/
theorem Seq.adv_inside {q : Seq} {a : Nat} (h : ∀ e ∈ q.loops.head?, e.last ≠ a) : q.adv a = { q with pc := a + 64 } := by
  unfold Seq.adv Seq.advGo
  split
  · next e rest loops => rw [if_neg (h e (by rw [loops]; rfl))]
  · rfl

/-! ### Signals -/

theorem State.modInfl_infl (s : State) (lc id : Nat) (f : Infl → Infl) :
    ((s.modInfl lc id f).seq lc).infl = (s.seq lc).infl.map (fun i => if i.id = id then f i else i) := by
  rw [State.modInfl, State.modSeq, State.seq_setSeq_same]

theorem State.modInfl_pc (s : State) (lc id : Nat) (f : Infl → Infl) : ((s.modInfl lc id f).seq lc).pc = (s.seq lc).pc := by
  refine State.pc_modSeq _ _ ?_
  exact fun _ => rfl

/-- No descriptor in flight on a core has a signal to give. -/
def State.NoSigs (s : State) (lc : Nat) : Prop := ∀ i ∈ (s.seq lc).infl, i.sig = none

theorem State.flushSigsGo_noSigs {s : State} {lc : Nat} (fuel : Nat) (h : s.NoSigs lc) : State.flushSigsGo lc fuel s = s := by
  have none : (s.seq lc).infl.findIdx? (fun i => i.sig.isSome) = none := List.findIdx?_eq_none_iff.mpr (fun i hi => by rw [h i hi]; rfl)
  cases fuel with
  | zero => rfl
  | succ fuel => simp only [State.flushSigsGo, none]

/-- The one signal of a core, behind earlier writes that are visible, is given (R108). -/
theorem State.flushSigs_one {s : State} {lc : Nat} {l : List Infl} {i : Infl} {g : Sig} (flight : (s.seq lc).infl = l ++ [i])
    (one : ∀ j ∈ l, j.sig = none) (sig : i.sig = some g) (seen : ∀ j ∈ (s.seq lc).infl, j.tags = [] ∧ s.heldOn (j.dst ++ j.vis) = false)
    (last : (s.giveSig lc i.id g).NoSigs lc) : s.flushSigs lc = s.giveSig lc i.id g := by
  have first : (l ++ [i]).findIdx? (fun j => j.sig.isSome) = some l.length := by
    rw [List.findIdx?_append, List.findIdx?_eq_none_iff.mpr (fun j hj => by rw [one j hj]; rfl)]
    simp [sig]
  have all : ((l ++ [i]).take (l.length + 1)).any (fun j => !j.tags.isEmpty || s.heldOn (j.dst ++ j.vis)) = false := by
    refine List.any_eq_false.mpr fun j hj => ?_
    obtain ⟨tags, held⟩ := seen j (flight ▸ List.mem_of_mem_take hj)
    simp [tags, held]
  have here : (l ++ [i])[l.length]? = some i := by simp
  unfold State.flushSigs State.flushSigsGo
  simp only [flight, first, all, here, sig, Bool.false_eq_true, if_false]
  exact State.flushSigsGo_noSigs _ last

/-- Once the signal of a descriptor is given, no descriptor in flight has one. -/
theorem State.noSigs_modInfl {s : State} {lc id : Nat} {f : Infl → Infl} (h : ∀ i ∈ (s.seq lc).infl, i.id = id ∨ i.sig = none)
    (hf : ∀ i, (f i).sig = none) : (s.modInfl lc id f).NoSigs lc := by
  intro j hj
  rw [State.modInfl_infl, List.mem_map] at hj
  obtain ⟨i, hi, rfl⟩ := hj
  split
  · exact hf i
  · next other => exact (h i hi).resolve_left other

/-- The signal of a descriptor to a word of the own chip has been given. -/
def State.sigGiven (s : State) (lc id : Nat) (g : Sig) : State :=
  s.modInfl lc id (fun i => { i with sig := none, vis := [(g.addr, 8)] })

theorem State.giveSig_own {s : State} {lc id : Nat} {g : Sig} (own : g.chip = s.chip) (put : (s.signalWord g.addr g.value g.write (s.whoOf lc)).2 = true) :
    s.giveSig lc id g = (s.signalWord g.addr g.value g.write (s.whoOf lc)).1.sigGiven lc id g := by
  rw [State.whoOf] at put ⊢
  simp only [State.giveSig, own, if_true, put]
  rfl

theorem State.signalWord_seqs (s : State) (a v : Nat) (w : Bool) (ctx : Option (Nat × Nat)) : (s.signalWord a v w ctx).1.seqs = s.seqs :=
  (State.signalWord_kept (Msub.refl _) (.refl _ s)).seqs rfl

theorem Kept.outst {M : Nat} {s t : State} (h : Kept M s t) (hm : M.testBit 92 = false) : t.outst = s.outst :=
  h.agree .outst hm

/-- An end-to-end operation of a core: the acknowledgement that its descriptor awaits is noted. -/
theorem State.sendOp_outst (s : State) (lc id dest cls : Nat) (mk : Nat → Pay) (read : Bool) (dst bytes : Nat) :
    ∃ o : Outst, (s.sendOp lc id dest cls mk read dst bytes).1.outst = s.outst ++ [o] ∧ o.chip = dest ∧ o.lc = lc ∧ o.infl = id ∧ o.read = read := by
  unfold State.sendOp
  extract_lets g die tag
  have sent : (s.sendE2e dest g.part g.ctx g.gen cls die (mk tag)).1.outst = s.outst := (State.sendE2e_kept (Msub.refl _) (.refl _ s)).outst rfl
  exact ⟨_, congrArg (· ++ [_]) sent, rfl, rfl, rfl, rfl⟩

/-- The signal to another chip leaves as a SIG flit, and its descriptor awaits the acknowledgement (R108, R226). -/
theorem State.giveSig_peer {s : State} {lc id : Nat} {g : Sig} (peer : g.chip ≠ s.chip) :
    ∃ (u : State) (tag : Nat), s.giveSig lc id g = u.modInfl lc id (fun i => { i with sig := none, tags := i.tags ++ [tag] }) ∧
      u.seqs = s.seqs ∧ u.mem = s.mem ∧
      ∃ o : Outst, u.outst = s.outst ++ [o] ∧ o.chip = g.chip ∧ o.lc = lc ∧ o.infl = id ∧ o.read = false := by
  let op := s.sendOp lc id g.chip 0 (fun _ => .sig (g.addr % 2 ^ 48) g.value g.write) false 0 0
  have kept := State.sendOp_kept (p0 := s) (p1 := lc) (p2 := id) (p3 := g.chip) (p4 := 0) (p5 := fun _ => .sig (g.addr % 2 ^ 48) g.value g.write)
    (p6 := false) (p7 := 0) (p8 := 0) (Msub.refl _) (.refl _ s)
  refine ⟨op.1, op.2, ?_, kept.seqs rfl, kept.mem rfl, s.sendOp_outst lc id g.chip 0 _ false 0 0⟩
  rw [State.giveSig, if_neg peer]

/-- A SIGNAL that is ready is put in flight, and what is due is given. -/
theorem State.signalIssue_ready {s : State} {lc : Nat} {d : Desc} {write : Bool} {c : Nat}
    (ready : s.CtlReady lc d { code := 0x05, sub := some (bool01 write), m0 := 2 ^ 64 - 1, m1 := 2 ^ 64 - 1, m2 := 0x13FFF } false 0)
    (target : (if bitAt d.imm2.toNat 16 then s.rankChip (s.partOf lc) (d.imm2.toNat % 16384) else some (gaChip d.imm0.toNat)) = some c)
    (place : s.wordFail lc (s.partOf lc) (d.imm0.toNat % 2 ^ 48 + c * 2 ^ 48) true = 0) :
    s.signalIssue lc d write =
      (s.waiting lc d none (some { chip := c, addr := d.imm0.toNat % 2 ^ 48 + c * 2 ^ 48, value := d.imm1.toNat, write := write })).flushSigs lc := by
  simp only [State.signalIssue, imm64, target, Option.getD_some, Option.isNone_some]
  rw [State.issueCtl_ready ready (by simp only [Bool.false_eq_true, if_false, place, if_true]), State.lastDesc_atIssue]
  rfl

/-- A global address is its offset in its chip and the chip's number (R13). -/
theorem gaChip_split {a : Nat} (h : a < 2 ^ 64) : a % 2 ^ 48 + gaChip a * 2 ^ 48 = a := by
  rw [gaChip]
  omega

/-! ### NMCALL -/

theorem State.nmuFetch_nmus (s : State) (k addr src ctx gen part : Nat) : (s.nmuFetch k addr src ctx gen part).1.nmus = s.nmus :=
  (State.nmuFetch_kept (Msub.refl _) (.refl _ s)).agree .nmus rfl

/-- The command that a block gives bears the block's address and where it came from. -/
theorem State.nmuFetch_cmd (s : State) (k addr src ctx gen part : Nat) :
    (s.nmuFetch k addr src ctx gen part).2.addr = addr ∧ (s.nmuFetch k addr src ctx gen part).2.src = src := by
  unfold State.nmuFetch
  split
  next u b _ =>
    extract_lets c0 c1
    have block : c0.addr = addr := by
      unfold c0
      split <;> rfl
    split
    next x ctx' gen' part' _ =>
      extract_lets c2
      split
      · split
        next u' h _ => split <;> exact ⟨block, rfl⟩
      · exact ⟨block, rfl⟩

/-- The queue of NMCALLs, where an NMU's state is stored (R191). -/
theorem State.setNmu_qCall (s : State) (k : Nat) (x : NmuSt) : ((s.setNmu k x).nmuSt k).qCall = x.qCall := by
  rw [State.setNmu, State.nmuSt, State.setFld_nmus]
  exact (congrArg NmuSt.qCall (smGet_smSet_same _ _ k x.refill)).trans rfl

end Sys2Proof.Machine
end

section
/-! END, LOOP, SIGNAL, TICKW, STEPF and NMCALL (R93, R106, R108–R110, R133). -/
namespace Sys2Proof.Machine
-- This option makes Lean elaborate the proofs one after the other: side by side they take more threads than the check's memory limit allows.
set_option deprecated.oldSectionVars true

/-! ### Descriptors that serialise (R90) -/

theorem State.holdSer_leaves (s : State) (lc : Nat) (ser : Bool) : (s.holdSer lc ser).mem = s.mem ∧
    ((s.holdSer lc ser).seq lc).infl = (s.seq lc).infl ∧ ((s.holdSer lc ser).seq lc).pc = (s.seq lc).pc := by
  refine ⟨(State.holdSer_kept (Msub.refl _) (.refl _ s)).mem rfl, ?_⟩
  unfold State.holdSer
  split
  · rw [State.seq_congr (State.coreSync_seqs _ _), State.modSeq, State.seq_setSeq_same]
    exact ⟨rfl, rfl⟩
  · exact ⟨rfl, rfl⟩

/-- While earlier descriptors are in flight, one that serialises leaves memory, the flight and the program counter (R90). -/
theorem State.issueCtl_serial_waits {s : State} {lc : Nat} (busy : (s.seq lc).infl ≠ []) (d : Desc) (f : Form) (unit : Nat)
    (check : State → Seq → Option DF) (eff : State → Nat → State) :
    (s.issueCtl lc d f true unit check eff).mem = s.mem ∧ ((s.issueCtl lc d f true unit check eff).seq lc).infl = (s.seq lc).infl ∧
      ((s.issueCtl lc d f true unit check eff).seq lc).pc = (s.seq lc).pc := by
  have held : (s.seq lc).canIssue (d.ser || true) unit = false := eq_false_of_ne_true fun free => busy (Seq.canIssue_serial free)
  unfold State.issueCtl
  extract_lets q
  split
  · exact ⟨rfl, rfl, rfl⟩
  · rw [if_pos (by rw [held]; rfl)]
    exact s.holdSer_leaves lc _

theorem exec_endStream_waits {s : State} {lc : Nat} (d : Desc) (h : s.nmcallsOpen lc = true) : exec (.endStream lc d) s = .next s := by
  rw [exec, execEndStream, if_pos h]

theorem exec_stepf_waits {s : State} {lc : Nat} (d : Desc) (h : s.nmcallsOpen lc = true) : exec (.stepf lc d) s = .next s := by
  rw [exec, execStepf, if_pos h]

/-- END with no chain open stops the sequencer (R93). -/
theorem endStream_runs {s : State} {lc : Nat} {d : Desc} (ready : s.CtlReady lc d { code := 0x01 } true 0) (calls : s.nmcallsOpen lc = false)
    (chain : (s.seq lc).chain = none) :
    ∃ t, exec (.endStream lc d) s = .next t ∧ (t.seq lc).st = 2 ∧ (t.seq lc).infl = [] ∧ (t.seq lc).loops = [] ∧ t.mem = s.mem := by
  refine ⟨(((s.atIssue lc).modSeq lc (fun q => { q with st := 2, loops := [], chain := none })).completed lc).coreSync lc, ?_, ?_⟩
  · rw [exec, execEndStream, if_neg (by simp [calls]), State.issueCtl_ready ready (by simp [chain])]
  · rw [State.seq_congr (State.coreSync_seqs _ _), State.seq_completed, State.modSeq, State.seq_setSeq_same]
    refine ⟨rfl, (s.infl_atIssue lc).trans (Seq.canIssue_serial ready.free), rfl, ?_⟩
    rw [(State.coreSync_kept (Msub.refl _) (.refl _ _)).mem rfl, State.completed_mem, State.setSeq_mem, State.atIssue_mem]

/-- STEPF with the right step and no chain open arrives at the fence (R110). -/
theorem stepf_runs {s : State} {lc : Nat} {d : Desc} (ready : s.CtlReady lc d { code := 0x07, m0 := 2 ^ 64 - 1 } true 0)
    (calls : s.nmcallsOpen lc = false) (chain : (s.seq lc).chain = none) (next : d.imm0.toNat = (s.stepOf (s.partOf lc) + 1) % 2 ^ 64) :
    ∃ t, exec (.stepf lc d) s = .next t ∧ s.MovedOn t lc ∧ t.mem = s.mem ∧ ∃ i : Infl, (t.seq lc).infl = [i] ∧ i.wait = some .fence ∧ i.ser = true := by
  let i : Infl := { id := (s.seq lc).nextId, desc := (s.seq lc).pc, ser := true, wait := some .fence }
  obtain ⟨moved, flight, mem⟩ := s.movedOn_pushInfl lc i
  refine ⟨(s.atIssue lc).pushInfl lc i, ?_, moved, mem, i, ?_, rfl, rfl⟩
  · rw [exec, execStepf, if_neg (by simp [calls]), imm64, State.issueCtl_ready ready (by simp [chain, next]), State.lastDesc_atIssue]
  · rw [flight, Seq.canIssue_serial ready.free]
    rfl

/-! ### LOOP (R106) -/

/-- What LOOP makes of the sequencer: its register holds the first value, and its body begins, or is left out where the count is 0. -/
def Seq.looped (q : Seq) (count body reg : Nat) (first step : DWord) : Seq :=
  let a := q.lastDesc
  let q := q.setX reg first.toNat
  if count = 0 then q.adv (a + 64 * body)
  else { q with loops := { first := a + 64, last := a + 64 * body, left := count, reg := reg, step := step } :: q.loops, pc := a + 64 }

theorem Seq.looped_infl (q : Seq) (count body reg : Nat) (first step : DWord) : (q.looped count body reg first step).infl = q.infl := by
  unfold Seq.looped
  extract_lets a q'
  have set : q'.infl = q.infl := (q.setX_flight _ _).1
  split
  · exact (Seq.adv_flight _ _).trans set
  · exact set

theorem Seq.looped_reg {q : Seq} (count body : Nat) {reg : Nat} (first step : DWord) (hr : reg ≠ 0) (others : ∀ e ∈ q.loops, e.reg ≠ reg) :
    (q.looped count body reg first step).xr reg = first.toNat := by
  unfold Seq.looped
  extract_lets a q'
  have set : q'.xr reg = first.toNat := q.xr_setX_same hr first.isLt
  split
  · exact (Seq.xr_advGo _ _ (by rwa [Seq.setX_loops])).trans set
  · exact set

/-- LOOP that its checks accept (R106). -/
theorem exec_loop_ready {s : State} {lc : Nat} {d : Desc}
    (ready : s.CtlReady lc d { code := 0x03, m0 := 2 ^ 51 - 1, m1 := 2 ^ 64 - 1, m2 := 2 ^ 64 - 1 } false 0)
    (body : bitsOf d.imm0.toNat 47 32 ≠ 0) (reg : bitsOf d.imm0.toNat 50 48 ≠ 0)
    (others : ∀ e ∈ (s.seq lc).loops, e.reg ≠ bitsOf d.imm0.toNat 50 48) (depth : (s.seq lc).loops.length < 4)
    (inside : ∀ e ∈ (s.seq lc).loops.head?, (s.seq lc).pc + 64 * bitsOf d.imm0.toNat 47 32 ≤ e.last) :
    exec (.loop lc d) s = .next (((s.atIssue lc).modSeq lc (fun q =>
      q.looped (d.imm0.toNat % 2 ^ 32) (bitsOf d.imm0.toNat 47 32) (bitsOf d.imm0.toNat 50 48) d.imm1 d.imm2)).completed lc) := by
  rw [exec, execLoop, imm64]
  refine congrArg Host.Outcome.next ((State.issueCtl_ready ready ?_).trans rfl)
  cases loops : (s.seq lc).loops with
  | nil => simp [body, reg]
  | cons e rest =>
    rw [loops] at others depth inside
    have free : (e :: rest).any (fun e => e.reg == bitsOf d.imm0.toNat 50 48) = false := by simpa using others
    have within : ¬ e.last < (s.seq lc).pc + 64 * bitsOf d.imm0.toNat 47 32 := Nat.not_lt.mpr (inside e rfl)
    simp only [body, reg, free, Nat.not_le.mpr depth, within, decide_false, Bool.or_self, Bool.false_eq_true, if_false]

/-- LOOP: what it leaves in its register, the program counter and the loop stack (R106). -/
theorem loop_runs {s : State} {lc : Nat} {d : Desc}
    (ready : s.CtlReady lc d { code := 0x03, m0 := 2 ^ 51 - 1, m1 := 2 ^ 64 - 1, m2 := 2 ^ 64 - 1 } false 0) :
    let q := s.seq lc
    let count := d.imm0.toNat % 2 ^ 32
    let body := bitsOf d.imm0.toNat 47 32
    let reg := bitsOf d.imm0.toNat 50 48
    body ≠ 0 → reg ≠ 0 → (∀ e ∈ q.loops, e.reg ≠ reg) → q.loops.length < 4 → (∀ e ∈ q.loops.head?, q.pc + 64 * body ≤ e.last) →
    ∃ t, exec (.loop lc d) s = .next t ∧ (t.seq lc).infl = q.infl ∧ t.mem = s.mem ∧
      (0 < count → (t.seq lc).xr reg = d.imm1.toNat ∧ (t.seq lc).pc = q.pc + 64 ∧
        (t.seq lc).loops = { first := q.pc + 64, last := q.pc + 64 * body, left := count, reg := reg, step := d.imm2 } :: q.loops) ∧
      (count = 0 → (t.seq lc).xr reg = d.imm1.toNat ∧ (t.seq lc).pc = ((q.setX reg d.imm1.toNat).adv (q.pc + 64 * body)).pc) := by
  intro q count body reg hb hr others depth inside
  have straight : q.adv q.pc = { q with pc := q.pc + 64 } := Seq.adv_inside fun e he => by
    have := inside e he
    omega
  have issued : (s.atIssue lc).seq lc = { q with pc := q.pc + 64, lastDesc := q.pc, serHold := false, nextId := q.nextId + 1 } := by
    rw [State.seq_atIssue, straight]
  have loops : ((s.atIssue lc).seq lc).loops = q.loops := by rw [issued]
  refine ⟨_, exec_loop_ready ready hb hr others depth inside, ?_⟩
  rw [State.completed_mem, State.modSeq_mem, State.atIssue_mem, State.seq_completed, State.modSeq, State.seq_setSeq_same]
  have reads := Seq.looped_reg count body d.imm1 d.imm2 hr (q := (s.atIssue lc).seq lc) (by rwa [loops])
  refine ⟨(Seq.looped_infl _ _ _ _ _ _).trans (s.infl_atIssue lc), rfl, fun some => ⟨reads, ?_⟩, fun none => ⟨reads, ?_⟩⟩
  · have begun : ¬ d.imm0.toNat % 2 ^ 32 = 0 := Nat.ne_of_gt some
    simp only [Seq.looped, if_neg begun, Seq.setX_loops, issued]
    exact ⟨trivial, rfl⟩
  · have skipped : d.imm0.toNat % 2 ^ 32 = 0 := none
    simp only [Seq.looped, if_pos skipped, issued]
    exact Seq.advGo_pc_congr _ _ (Seq.setX_x _ _ rfl) ((Seq.setX_loops _ _ _).trans (q.setX_loops reg _).symm)

/-! ### END and STEPF with an open chain (R93, R110) -/

theorem endStream_faults {s : State} {lc : Nat} {d : Desc} (ready : s.CtlReady lc d { code := 0x01 } true 0) (calls : s.nmcallsOpen lc = false)
    (chain : (s.seq lc).chain ≠ none) : ∃ t, exec (.endStream lc d) s = .next t ∧ s.Faulted t lc 0x08 0 := by
  rw [exec, execEndStream, if_neg (by simp [calls])]
  exact ⟨_, rfl, (State.issueCtl_faulted (e := { code := 8 }) ready (by simp [Option.isSome_iff_ne_none.mpr chain]) (by decide) (by decide)
    (by decide) _).1⟩

theorem stepf_faults {s : State} {lc : Nat} {d : Desc} (ready : s.CtlReady lc d { code := 0x07, m0 := 2 ^ 64 - 1 } true 0)
    (calls : s.nmcallsOpen lc = false) (chain : (s.seq lc).chain ≠ none) :
    ∃ t, exec (.stepf lc d) s = .next t ∧ s.Faulted t lc 0x08 0 := by
  rw [exec, execStepf, if_neg (by simp [calls]), imm64]
  exact ⟨_, rfl, (State.issueCtl_faulted (e := { code := 8 }) ready (by simp [Option.isSome_iff_ne_none.mpr chain]) (by decide) (by decide)
    (by decide) _).1⟩

/-! ### SIGNAL (R108) -/

/-- The waiting descriptor of a SIGNAL is the only one of its core with a signal to give. -/
theorem State.waiting_onlySig {s : State} {lc : Nat} (d : Desc) (g : Sig) (none : s.NoSigs lc) :
    ∀ i ∈ ((s.waiting lc d .none (some g)).seq lc).infl, i.id = (s.seq lc).nextId ∨ i.sig = .none := by
  intro i hi
  rw [State.waiting_infl, List.mem_append, List.mem_singleton] at hi
  obtain old | rfl := hi
  · exact .inr (none i old)
  · exact .inl rfl

/-- A signal to the own chip: its word is written as the signal says (R108). -/
theorem signalIssue_own {s : State} {lc : Nat} {d : Desc} {write : Bool}
    (ready : s.CtlReady lc d { code := 0x05, sub := some (bool01 write), m0 := 2 ^ 64 - 1, m1 := 2 ^ 64 - 1, m2 := 0x13FFF } false 0)
    (direct : bitAt d.imm2.toNat 16 = false) (own : gaChip d.imm0.toNat = s.chip) (place : s.wordFail lc (s.partOf lc) d.imm0.toNat true = 0)
    (none : s.NoSigs lc) :
    let g : Sig := { chip := s.chip, addr := d.imm0.toNat, value := d.imm1.toNat, write := write }
    let s1 := s.waiting lc d .none (some g)
    let put := s1.signalWord d.imm0.toNat d.imm1.toNat write (s.whoOf lc)
    (∀ i ∈ (s1.seq lc).infl, i.tags = [] ∧ s1.heldOn (i.dst ++ i.vis) = false) → put.2 = true →
    s.MovedOn (s.signalIssue lc d write) lc ∧ (s.signalIssue lc d write).mem = put.1.mem := by
  intro g s1 put seen done
  have split : d.imm0.toNat % 2 ^ 48 + s.chip * 2 ^ 48 = d.imm0.toNat := own ▸ gaChip_split d.imm0.isLt
  have chip : s1.chip = s.chip := (s.waiting_kept lc d .none (some g)).fld .glb _ _ rfl
  have given : s1.giveSig lc (s.seq lc).nextId g = put.1.sigGiven lc (s.seq lc).nextId g := by
    have who := s.whoOf_waiting lc d .none (some g)
    have gives := State.giveSig_own (s := s1) (lc := lc) (id := (s.seq lc).nextId) (g := g) chip.symm (by rw [who]; exact done)
    rw [who] at gives
    exact gives
  have seqs : put.1.seqs = s1.seqs := s1.signalWord_seqs _ _ _ _
  have only : ∀ i ∈ (put.1.seq lc).infl, i.id = (s.seq lc).nextId ∨ i.sig = .none := by
    rw [State.seq_congr seqs]
    exact s.waiting_onlySig d g none
  have last : (s1.giveSig lc (s.seq lc).nextId g).NoSigs lc := by
    rw [given]
    exact State.noSigs_modInfl only (fun _ => rfl)
  have flushed := State.flushSigs_one (s.waiting_infl lc d .none (some g)) none rfl seen last
  have issued := State.signalIssue_ready (c := s.chip) ready (by rw [direct, own]; rfl) (by rwa [split])
  rw [split] at issued
  rw [issued, flushed, given]
  refine ⟨?_, State.modSeq_mem _ _ _⟩
  rw [State.MovedOn, State.sigGiven, State.modInfl_pc, State.seq_congr seqs]
  exact s.waiting_movedOn lc d .none (some g)

/-- A signal to another chip leaves the own memory, and its acknowledgement is awaited (R108). -/
theorem signalIssue_peer {s : State} {lc c : Nat} {d : Desc} {write : Bool}
    (ready : s.CtlReady lc d { code := 0x05, sub := some (bool01 write), m0 := 2 ^ 64 - 1, m1 := 2 ^ 64 - 1, m2 := 0x13FFF } false 0)
    (ranked : bitAt d.imm2.toNat 16 = true) (rank : s.rankChip (s.partOf lc) (d.imm2.toNat % 16384) = some c) (peer : c ≠ s.chip)
    (place : s.wordFail lc (s.partOf lc) (d.imm0.toNat % 2 ^ 48 + c * 2 ^ 48) true = 0) (none : s.NoSigs lc) :
    let s1 := s.waiting lc d .none (some { chip := c, addr := d.imm0.toNat % 2 ^ 48 + c * 2 ^ 48, value := d.imm1.toNat, write := write })
    (∀ i ∈ (s1.seq lc).infl, i.tags = [] ∧ s1.heldOn (i.dst ++ i.vis) = false) →
    s.MovedOn (s.signalIssue lc d write) lc ∧ (s.signalIssue lc d write).mem = s.mem ∧
      ∃ o : Outst, (s.signalIssue lc d write).outst = s.outst ++ [o] ∧ o.chip = c ∧ o.lc = lc ∧ o.infl = (s.seq lc).nextId ∧ o.read = false := by
  intro s1 seen
  let g : Sig := { chip := c, addr := d.imm0.toNat % 2 ^ 48 + c * 2 ^ 48, value := d.imm1.toNat, write := write }
  have kept : Kept _ s s1 := s.waiting_kept lc d .none (some g)
  have chip : s1.chip = s.chip := kept.fld .glb _ _ rfl
  obtain ⟨u, tag, given, seqs, mem, o, sent, about⟩ :=
    State.giveSig_peer (s := s1) (lc := lc) (id := (s.seq lc).nextId) (g := g) (by rwa [chip])
  have only : ∀ i ∈ (u.seq lc).infl, i.id = (s.seq lc).nextId ∨ i.sig = .none := by
    rw [State.seq_congr seqs]
    exact s.waiting_onlySig d g none
  have last : (s1.giveSig lc (s.seq lc).nextId g).NoSigs lc := by
    rw [given]
    exact State.noSigs_modInfl only (fun _ => rfl)
  have flushed := State.flushSigs_one (s.waiting_infl lc d .none (some g)) none rfl seen last
  have issued := State.signalIssue_ready (c := c) ready (by rw [if_pos ranked, rank]) place
  rw [issued, flushed, given]
  refine ⟨?_, ?_, o, ?_, about⟩
  · rw [State.MovedOn, State.modInfl_pc, State.seq_congr seqs]
    exact s.waiting_movedOn lc d .none (some g)
  · exact (State.modSeq_mem _ _ _).trans (mem.trans (kept.mem rfl))
  · rw [State.modInfl, State.modSeq_outst, sent, kept.outst rfl]

/-! ### TICKW (R109) -/

/-- The target of a TICKW: its operand on top of 0, the program's start or a register (R109). -/
def State.tickTarget (s : State) (lc : Nat) (d : Desc) : Nat :=
  ((match d.subop with
    | 0 => 0
    | 1 => (s.prog (s.seq lc).slot).startAct
    | _ => (s.seq lc).xr (d.imm1.toNat % 8)) + d.imm0.toNat) % 2 ^ 64

theorem tickw_runs {s : State} {lc : Nat} {d : Desc}
    (ready : s.CtlReady lc d { code := 0x06, m0 := 2 ^ 64 - 1, m1 := if d.subop = 2 then 7 else 0 } false 0) :
    ∃ t, exec (.tickw lc d) s = .next t ∧ s.MovedOn t lc ∧ t.mem = s.mem ∧
      (s.tickTarget lc d ≤ s.tick → (t.seq lc).infl = (s.seq lc).infl) ∧
      (s.tick < s.tickTarget lc d → ∃ i : Infl, (t.seq lc).infl = (s.seq lc).infl ++ [i] ∧ i.wait = some (.tick (s.tickTarget lc d))) := by
  let i : Infl := { id := (s.seq lc).nextId, desc := (s.seq lc).pc, ser := d.ser, wait := some (.tick (s.tickTarget lc d)) }
  have runs : exec (.tickw lc d) s =
      .next (if s.tickTarget lc d ≤ s.tick then (s.atIssue lc).completed lc else (s.atIssue lc).pushInfl lc i) := by
    rw [exec, execTickw, imm64, State.issueCtl_ready ready rfl]
    dsimp only
    rw [State.tick_atIssue, State.lastDesc_atIssue, State.prog_atIssue]
    rfl
  obtain past | ahead := Nat.lt_or_ge s.tick (s.tickTarget lc d)
  · obtain ⟨moved, flight, mem⟩ := s.movedOn_pushInfl lc i
    rw [if_neg (Nat.not_le.mpr past)] at runs
    exact ⟨_, runs, moved, mem, fun h => absurd h (Nat.not_le.mpr past), fun _ => ⟨i, flight, rfl⟩⟩
  · obtain ⟨moved, flight, mem⟩ := s.movedOn_completed lc
    rw [if_pos ahead] at runs
    exact ⟨_, runs, moved, mem, fun _ => flight, fun h => absurd h (Nat.not_lt.mpr ahead)⟩

/-! ### NMCALL (R133) -/

theorem State.nmuSt_congr {s t : State} (h : t.nmus = s.nmus) (k : Nat) : t.nmuSt k = s.nmuSt k := by rw [State.nmuSt, h, State.nmuSt]

/-- A ready NMCALL to a stack with room puts its command in the queue; only a synchronous one stays in flight (R133). -/
theorem exec_nmcall_ready {s : State} {lc : Nat} {d : Desc} (ready : s.CtlReady lc d d.nmForm false 6) (places : s.nmFail lc d = none)
    (room : (s.nmuSt (d.imm0.toNat % 16)).qCall.length < 64) (works : (s.nmuSt (d.imm0.toNat % 16)).failed = false) :
    let k := d.imm0.toNat % 16
    ∃ (u : State) (c : NCmd) (i : Infl), exec (.nmcall lc d) s = .next (if bitAt d.imm0.toNat 8 then u.pushInfl lc i else u.completed lc) ∧
      u.seqs = (s.atIssue lc).seqs ∧ u.mem = s.mem ∧ (u.nmuSt k).qCall = (s.nmuSt k).qCall ++ [c] ∧ i.wait = some (.nm k c.id) ∧
      c.addr = d.imm1.toNat ∧ c.lc = lc ∧ c.sync = bitAt d.imm0.toNat 8 ∧ c.infl = (s.seq lc).nextId ∧ c.src = 0 := by
  intro k
  let g := s.prog (s.seq lc).slot
  let fetched := (s.atIssue lc).nmuFetch k d.imm1.toNat 0 g.ctx g.gen g.part
  let c : NCmd := { fetched.2 with
    lc := lc, infl := (s.seq lc).nextId, desc := (s.seq lc).pc, sync := bitAt d.imm0.toNat 8, prog := (s.seq lc).slot + 4096 * g.startAct,
    sigAddr := if bitAt d.imm0.toNat 9 then d.imm2.toNat + 2 ^ 64 else 0 }
  let y := fetched.1.nmuSt k
  have same : y = s.nmuSt k := State.nmuSt_congr ((State.nmuFetch_nmus _ _ _ _ _ _ _).trans ((s.atIssue_kept lc).agree .nmus rfl)) k
  have kept : Kept _ (s.atIssue lc) fetched.1 := State.nmuFetch_kept (Msub.refl _) (.refl _ (s.atIssue lc))
  have queued := fun x => State.setNmu_kept (p0 := fetched.1) (p1 := k) (p2 := x) (Msub.refl _) (.refl _ fetched.1)
  refine ⟨fetched.1.setNmu k { y with qCall := y.qCall ++ [c], nextId := y.nextId + 1 }, c,
    { id := (s.seq lc).nextId, desc := (s.seq lc).pc, ser := d.ser, src := [(d.imm1.toNat, 64)], wait := some (.nm k c.id) }, ?_,
    ((queued _).seqs rfl).trans (kept.seqs rfl), ((queued _).mem rfl).trans ((kept.mem rfl).trans (s.atIssue_mem lc)), ?_, rfl,
    (State.nmuFetch_cmd _ _ _ _ _ _ _).1, rfl, rfl, rfl, (State.nmuFetch_cmd _ _ _ _ _ _ _).2⟩
  · have notFull : ¬ nmcallDepth ≤ (s.nmuSt (d.imm0.toNat % 16)).qCall.length := Nat.not_le.mpr room
    rw [exec, execNmcall, if_neg (by simp [notFull]), State.issueCtl_ready ready places]
    dsimp only
    rw [works, State.lastDesc_atIssue, State.prog_atIssue, State.slot_atIssue]
    rfl
  · rw [State.setNmu_qCall, same]

theorem nmcall_runs {s : State} {lc : Nat} {d : Desc} (ready : s.CtlReady lc d d.nmForm false 6) (places : s.nmFail lc d = none) :
    let k := d.imm0.toNat % 16
    (s.nmuSt k).qCall.length < 64 → (s.nmuSt k).failed = false →
    ∃ t, exec (.nmcall lc d) s = .next t ∧ s.MovedOn t lc ∧ t.mem = s.mem ∧
      (∃ c : NCmd, (t.nmuSt k).qCall = (s.nmuSt k).qCall ++ [c] ∧ c.addr = d.imm1.toNat ∧ c.lc = lc ∧ c.sync = bitAt d.imm0.toNat 8
        ∧ c.infl = (s.seq lc).nextId ∧ c.src = 0) ∧
      (bitAt d.imm0.toNat 8 = false → (t.seq lc).infl = (s.seq lc).infl) ∧
      (bitAt d.imm0.toNat 8 = true → ∃ i : Infl, (t.seq lc).infl = (s.seq lc).infl ++ [i] ∧ ∃ id, i.wait = some (.nm k id)) := by
  intro k room works
  obtain ⟨u, c, i, runs, seqs, mem, queue, waits, about⟩ := exec_nmcall_ready ready places room works
  have moved : s.MovedOn u lc := by
    rw [State.MovedOn, State.seq_congr seqs]
    exact s.movedOn_atIssue lc
  have flight : (u.seq lc).infl = (s.seq lc).infl := by rw [State.seq_congr seqs, State.infl_atIssue]
  cases sync : bitAt d.imm0.toNat 8 with
  | true =>
    have kept : Kept _ u (u.pushInfl lc i) := State.pushInfl_kept (Msub.refl _) (.refl _ u)
    rw [sync] at runs about
    refine ⟨u.pushInfl lc i, runs, ?_, (kept.mem rfl).trans mem, ⟨c, ?_, about⟩, nofun, fun _ => ⟨i, ?_, c.id, waits⟩⟩
    · rwa [State.MovedOn, State.seq_pushInfl]
    · rwa [State.nmuSt_congr (kept.agree .nmus rfl)]
    · rw [State.seq_pushInfl, flight]
  | false =>
    have kept : Kept _ u (u.completed lc) := State.completed_kept (Msub.refl _) (.refl _ u)
    rw [sync] at runs about
    refine ⟨u.completed lc, runs, ?_, (kept.mem rfl).trans mem, ⟨c, ?_, about⟩, fun _ => ?_, nofun⟩
    · rwa [State.MovedOn, State.seq_completed]
    · rwa [State.nmuSt_congr (kept.agree .nmus rfl)]
    · rwa [State.seq_completed]

/-! ### The obligation -/

/-- Before NMCALLs of its program are complete END and STEPF do not begin, and behind descriptors in flight they are held (R90, R93, R110). -/
theorem serialising_waits {s : State} {lc : Nat} {d : Desc} {c : Instr} (hc : c ∈ [Instr.endStream lc d, .stepf lc d]) :
    (s.nmcallsOpen lc = true → exec c s = .next s) ∧
    ((s.seq lc).infl ≠ [] → ∃ t, exec c s = .next t ∧ t.mem = s.mem ∧ (t.seq lc).infl = (s.seq lc).infl ∧ (t.seq lc).pc = (s.seq lc).pc) := by
  have either : c = .endStream lc d ∨ c = .stepf lc d := by simpa using hc
  obtain rfl | rfl := either
  · refine ⟨exec_endStream_waits d, fun busy => ?_⟩
    by_cases calls : s.nmcallsOpen lc = true
    · exact ⟨s, exec_endStream_waits d calls, rfl, rfl, rfl⟩
    · rw [exec, execEndStream, if_neg calls]
      exact ⟨_, rfl, State.issueCtl_serial_waits busy _ _ _ _ _⟩
  · refine ⟨exec_stepf_waits d, fun busy => ?_⟩
    by_cases calls : s.nmcallsOpen lc = true
    · exact ⟨s, exec_stepf_waits d calls, rfl, rfl, rfl⟩
    · rw [exec, execStepf, if_neg calls]
      exact ⟨_, rfl, State.issueCtl_serial_waits busy _ _ _ _ _⟩

/-- SIGNAL_ADD and SIGNAL_WRITE are one operation, with and without the sum. -/
theorem exec_signal {s : State} {lc : Nat} {d : Desc} {p : Instr × Bool} (hp : p ∈ [(Instr.signalAdd lc d, false), (Instr.signalWrite lc d, true)]) :
    exec p.1 s = .next (s.signalIssue lc d p.2) := by
  have either : p = (Instr.signalAdd lc d, false) ∨ p = (Instr.signalWrite lc d, true) := by simpa using hp
  obtain rfl | rfl := either <;> rfl

/-- Settles O2: each command by its own lemma above. -/
theorem controlDescriptorsRun : Obligations.ControlDescriptorsRun := by
  unfold Obligations.ControlDescriptorsRun
  refine ⟨fun _ _ _ => endStream_runs, fun _ _ _ _ => serialising_waits, fun _ _ _ => endStream_faults, fun _ _ _ => loop_runs, ?_, ?_,
    fun _ _ _ => tickw_runs, fun _ _ _ => stepf_runs, fun _ _ _ => stepf_faults, fun _ _ _ => nmcall_runs⟩
  · intro s lc d p hp ready direct own place none s1 put seen done
    exact ⟨_, exec_signal hp, signalIssue_own ready direct own place none seen done⟩
  · intro s lc d c p hp ready ranked rank peer place none s1 seen
    exact ⟨_, exec_signal hp, signalIssue_peer ready ranked rank peer place none seen⟩

end Sys2Proof.Machine
end

section
/-! SUPPORT. The address map of the Edesk (R163) and the bytes that a write changes (R173). -/
namespace Sys2Proof.Machine
-- This option makes Lean elaborate the proofs one after the other: side by side they take more threads than the check's memory limit allows.
set_option deprecated.oldSectionVars true

/-! ### The address map (R163) -/

theorem State.edMap_congr {s t : State} (il : ∀ k, t.fld (.mc k) Mc.LAYOUT_IL = s.fld (.mc k) Mc.LAYOUT_IL)
    (st : ∀ k, t.fld (.mc k) Mc.MC_STATUS_MAPOUT_STATE = s.fld (.mc k) Mc.MC_STATUS_MAPOUT_STATE) : t.edMap = s.edMap := by
  have layout : t.ilOf = s.ilOf := funext fun d => il (6 * d)
  have size : t.capOf = s.capOf := funext fun k => by rw [State.capOf, st, State.capOf]
  funext o
  unfold State.edMap
  rw [layout, size]

theorem Kept.edMap {M : Nat} {s t : State} (h : Kept M s t) (hm : M.testBit 34 = false) : t.edMap = s.edMap :=
  State.edMap_congr (fun k => h.fld (.mc k) _ _ hm) (fun k => h.fld (.mc k) _ _ hm)

/-- Registers at different offsets of memory controllers are different registers. -/
theorem regKey_mc_ne {k k' o o' b b' : Nat} (ho : o < 4096) (ho' : o' < 4096) (h : o' ≠ o) : regKey (.mc k') o' b' ≠ regKey (.mc k) o b := by
  simp only [regKey, bankSize, Page.base, Page.kind]
  omega

/-- A field of a memory controller that lies behind its status and its layout says nothing of the address map. -/
theorem State.edMap_setFld_mc (s : State) (k v : Nat) {f : Fld} (behind : 0x104 < f.off) (inside : f.off < 4096) :
    (s.setFld (.mc k) f v).edMap = s.edMap := by
  refine State.edMap_congr (fun k' => ?_) (fun k' => ?_)
  · exact s.fld_setFld_ne _ _ _ _ _ _ _ (regKey_mc_ne inside (by decide) (Nat.ne_of_lt behind))
  · exact s.fld_setFld_ne _ _ _ _ _ _ _ (regKey_mc_ne inside (by decide) (Nat.ne_of_lt (Nat.lt_trans (by decide) behind)))

theorem State.edMap_event (s : State) (code source : Nat) (items : List Item) : (s.event code source items).edMap = s.edMap :=
  (State.event_kept (Msub.refl _) (.refl _ s)).edMap rfl

theorem State.edMap_bump_mc (s : State) (k : Nat) {f : Fld} (behind : 0x104 < f.off) (inside : f.off < 4096) : (s.bump (.mc k) f).edMap = s.edMap :=
  s.edMap_setFld_mc k _ behind inside

theorem State.edMap_lastErr (s : State) (k l kind : Nat) (ctx : Option (Nat × Nat)) : (s.lastErr k l kind ctx).edMap = s.edMap := by
  simp only [State.lastErr, State.setFld64]
  rw [State.edMap_setFld_mc _ _ _ (by decide) (by decide), State.edMap_setFld_mc _ _ _ (by decide) (by decide),
    State.edMap_setFld_mc _ _ _ (by decide) (by decide)]

theorem State.edMap_checkLine (s : State) (k l : Nat) (ctx : Option (Nat × Nat)) : (s.checkLine k l ctx).1.edMap = s.edMap := by
  simp only [State.checkLine]
  split
  · rw [State.readUnwritten, State.edMap_event, State.edMap_lastErr, State.edMap_bump_mc _ _ (by decide) (by decide)]
  · split
    · rw [State.lineBusError, State.edMap_event, State.edMap_lastErr, State.edMap_bump_mc _ _ (by decide) (by decide)]
    · rfl

/-- Within a line, quotient and rest by a multiple of the line's size move together with the address. -/
theorem line_div_mod {m n j : Nat} (hm : m % 64 = 0) (hj : n % 64 + j < 64) : (n + j) / m = n / m ∧ (n + j) % m = n % m + j := by
  obtain ⟨c, rfl⟩ := Nat.dvd_of_mod_eq_zero hm
  have same : (n + j) / 64 = n / 64 := by omega
  have quot : (n + j) / (64 * c) = n / (64 * c) := by rw [← Nat.div_div_eq_div_mul, same, Nat.div_div_eq_div_mul]
  refine ⟨quot, ?_⟩
  have whole := Nat.div_add_mod (n + j) (64 * c)
  have part := Nat.div_add_mod n (64 * c)
  rw [quot] at whole
  omega

/-- The stack and local address of offset `p` in die `d`, by the die's interleave size (R163). -/
def edPlace (il d p : Nat) : Nat × Nat :=
  if p < 6 * il * gib then (6 * d + p / 4096 % 6, p / 4096 / 6 * 4096 + p % 4096)
  else (6 * d + (p - 6 * il * gib) / ((96 - il) * gib), il * gib + (p - 6 * il * gib) % ((96 - il) * gib))

theorem State.edMap_eq_some {s : State} {o : Nat} {x : Nat × Nat} : s.edMap o = some x ↔
    o / (576 * gib) ≤ 1 ∧ edPlace (s.ilOf (o / (576 * gib))) (o / (576 * gib)) (o % (576 * gib)) = x ∧ x.2 < s.capOf x.1 := by
  unfold State.edMap
  extract_lets +onlyGivenNames d
  split
  · next outside => exact ⟨nofun, fun h => absurd outside (Nat.not_lt.mpr h.1)⟩
  · next inside =>
    have inside : d ≤ 1 := Nat.le_of_not_lt inside
    extract_lets +onlyGivenNames p il
    split
    next k l h =>
      have place : edPlace il d p = (k, l) := h
      rw [place]
      split
      · next beyond => exact ⟨nofun, fun ⟨_, same, within⟩ => absurd (by rw [← same] at within; exact within) (Nat.not_lt.mpr beyond)⟩
      · next within =>
        refine ⟨fun h => ?_, fun h => congrArg some h.2.1⟩
        obtain rfl := Option.some.inj h
        exact ⟨inside, rfl, Nat.lt_of_not_le within⟩

theorem gib_line (n : Nat) : n * gib % 64 = 0 := by
  rw [gib]
  omega

/-- Of a line, the places lie next to one another. -/
theorem edPlace_line (il d : Nat) {p j : Nat} (hj : p % 64 + j < 64) :
    (edPlace il d p).2 % 64 = p % 64 ∧ edPlace il d (p + j) = ((edPlace il d p).1, (edPlace il d p).2 + j) := by
  have inner := gib_line (6 * il)
  have base := gib_line il
  have window := gib_line (96 - il)
  generalize hm : 6 * il * gib = m at inner
  generalize hb : il * gib = b at base
  generalize hw : (96 - il) * gib = w at window
  simp only [edPlace, hm, hb, hw]
  by_cases h : p < m
  · obtain ⟨page, rest⟩ := line_div_mod (m := 4096) (by decide) hj
    rw [if_pos h, if_pos (by omega), page, rest]
    exact ⟨by dsimp only; omega, by rw [Nat.add_assoc]⟩
  · obtain ⟨q, rfl⟩ := Nat.exists_eq_add_of_le (Nat.le_of_not_lt h)
    have line : q % 64 + j < 64 := by omega
    obtain ⟨stack, rest⟩ := line_div_mod window line
    have here : m + q + j - m = q + j := by omega
    have low : q % w % 64 = q % 64 := Nat.mod_mod_of_dvd _ (Nat.dvd_of_mod_eq_zero window)
    rw [if_neg h, if_neg (by omega), here, Nat.add_sub_cancel_left, stack, rest]
    exact ⟨by dsimp only; omega, by rw [Nat.add_assoc]⟩

/-- The bytes of a line lie next to one another in one stack (R163). -/
theorem State.edMap_line {s : State} {o k l : Nat} (h : s.edMap o = some (k, l)) :
    l % 64 = o % 64 ∧ o < 2 ^ 44 ∧ ∀ j, o % 64 + j < 64 → s.edMap (o + j) = some (k, l + j) := by
  obtain ⟨inside, place, within⟩ := State.edMap_eq_some.mp h
  have dies := gib_line 576
  have line : o % (576 * gib) % 64 = o % 64 := Nat.mod_mod_of_dvd _ (Nat.dvd_of_mod_eq_zero dies)
  have low := (edPlace_line (s.ilOf (o / (576 * gib))) (o / (576 * gib)) (p := o % (576 * gib)) (j := 0) (by omega)).1
  rw [place] at low
  dsimp only at low within
  refine ⟨low.trans line, ?_, fun j hj => State.edMap_eq_some.mpr ?_⟩
  · have rest : o % (576 * gib) < 576 * gib := Nat.mod_lt _ (by decide)
    rw [gib] at *
    omega
  · obtain ⟨die, rest⟩ := line_div_mod dies hj
    rw [die, rest, (edPlace_line _ _ (line.symm ▸ hj)).2, place]
    refine ⟨inside, rfl, ?_⟩
    have size : s.capOf k % 64 = 0 := gib_line _
    dsimp only
    omega

theorem State.mem_rangeKeys {s : State} {a n k : Nat} : k ∈ s.rangeKeys a n ↔ ∃ i < n, s.memKey (a + i) = some k := by
  simp [State.rangeKeys]

theorem State.rangeKeys_mono (s : State) (a : Nat) {m n : Nat} (h : m ≤ n) : s.rangeKeys a m ⊆ s.rangeKeys a n := by
  intro k hk
  obtain ⟨i, hi, key⟩ := State.mem_rangeKeys.mp hk
  exact State.mem_rangeKeys.mpr ⟨i, Nat.lt_of_lt_of_le hi h, key⟩

/-- The key of a byte of space 0x0 that lies in a stack. -/
theorem State.memKey_edesk {s : State} {a i k l : Nat} (space : gaSpace a = 0) (h : s.edMap (gaOff a + i) = some (k, l)) :
    s.memKey (a + i) = some (edKey k l) := by
  have small := (State.edMap_line h).2.1
  have off : gaOff (a + i) = gaOff a + i := by
    simp only [gaOff] at small ⊢
    omega
  have same : gaSpace (a + i) = 0 := by
    simp only [gaOff, gaSpace] at *
    omega
  simp only [State.memKey, same, if_true, off, h, Option.map_some]

/-- The key of a byte of a populated offset of space 0x1. -/
theorem State.memKey_sram {s : State} {a i : Nat} (space : gaSpace a = 1) (h : gaOff a + i < 8 * clusterSpan) :
    s.memKey (a + i) = some (sramKey (gaOff a + i)) := by
  have off : gaOff (a + i) = gaOff a + i := by
    simp only [gaOff, clusterSpan] at h ⊢
    omega
  have same : gaSpace (a + i) = 1 := by
    simp only [gaOff, gaSpace, clusterSpan] at *
    omega
  simp only [State.memKey, same, off, Nat.one_ne_zero, if_false, if_true]

/-! ### Bytes -/

theorem State.byte_setByte (s : State) (k x : Nat) (b : Byte) : (s.setByte k b).byte x = if x = k then b else s.byte x := by
  split
  · next h => rw [h, State.byte, State.setByte, smGet_smSet_same]
  · next h => rw [State.byte, State.setByte, smGet_smSet_ne _ _ _ _ _ h, State.byte]

theorem State.length_bytes (s : State) (k n : Nat) : (s.bytes k n).length = n := by
  induction n generalizing k with
  | zero => rfl
  | succ n ih => rw [State.bytes, List.length_cons, ih]

theorem State.getD_bytes (s : State) {k n i : Nat} (h : i < n) : (s.bytes k n).getD i 0 = s.byte (k + i) := by
  induction n generalizing k i with
  | zero => exact absurd h (Nat.not_lt_zero i)
  | succ n ih =>
    cases i with
    | zero => rfl
    | succ i => rw [State.bytes, List.getD_cons_succ, ih (Nat.lt_of_succ_lt_succ h), Nat.add_right_comm, Nat.add_assoc k]

/-- Bytes that are written from a key upwards. -/
theorem State.byte_setBytes (s : State) (k x : Nat) (data : List Byte) :
    (s.setBytes k data).byte x = if k ≤ x ∧ x < k + data.length then data.getD (x - k) 0 else s.byte x := by
  induction data generalizing s k with
  | nil => rw [State.setBytes, if_neg (by simp only [List.length_nil]; omega)]
  | cons b t ih =>
    rw [State.setBytes, ih, State.byte_setByte, List.length_cons]
    obtain before | rfl | behind := Nat.lt_trichotomy x k
    · rw [if_neg (by omega), if_neg (by omega), if_neg (by omega)]
    · rw [if_neg (by omega), if_pos rfl, if_pos (by omega), Nat.sub_self, List.getD_cons_zero]
    · obtain ⟨i, rfl⟩ := Nat.exists_eq_add_of_lt behind
      have index : k + i + 1 - k = i + 1 := by omega
      have inner : k + i + 1 - (k + 1) = i := by omega
      rw [index, inner, List.getD_cons_succ, if_neg (by omega : ¬ k + i + 1 = k)]
      exact if_congr (by omega) rfl rfl

end Sys2Proof.Machine
end

section
/-! SUPPORT. What reads and writes of memory store, and where (R13, R173, R174). -/
namespace Sys2Proof.Machine
-- This option makes Lean elaborate the proofs one after the other: side by side they take more threads than the check's memory limit allows.
set_option deprecated.oldSectionVars true

/-! ### A line (R173) -/

theorem State.byte_congr {s t : State} (h : t.mem = s.mem) (x : Nat) : t.byte x = s.byte x := by rw [State.byte, h, State.byte]

/-- A list with a part replaced is the old one outside the part. -/
theorem getD_patched {old data : List Byte} {a i : Nat} (fit : a + data.length ≤ old.length) (out : i < a ∨ a + data.length ≤ i) :
    (old.take a ++ data ++ old.drop (a + data.length)).getD i 0 = old.getD i 0 := by
  have taken : (old.take a).length = a := List.length_take_of_le (by omega)
  obtain before | behind := out
  · rw [List.append_assoc, List.getD_append _ _ _ _ (by omega)]
    simp only [List.getD_eq_getElem?_getD, List.getElem?_take, if_pos before]
  · have here : (old.take a ++ data).length ≤ i := by rw [List.length_append]; omega
    rw [List.getD_append_right _ _ _ _ here]
    simp only [List.getD_eq_getElem?_getD, List.getElem?_drop, List.length_append, taken]
    congr 2
    omega

theorem State.storeLine_edMap (s : State) (k l : Nat) (data : List Byte) (rc : Bool) : (s.storeLine k l data rc).edMap = s.edMap :=
  (State.storeLine_kept (Msub.refl _) (.refl _ s)).edMap rfl

theorem State.checkLine_mem (s : State) (k l : Nat) (ctx : Option (Nat × Nat)) : (s.checkLine k l ctx).1.mem = s.mem :=
  (State.checkLine_kept (Msub.refl _) (.refl _ s)).mem rfl

/-- A stored line changes no byte outside it. -/
theorem State.storeLine_byte (s : State) (k l x : Nat) (data : List Byte) (rc : Bool) : (s.storeLine k l data rc).byte x =
    if edKey k (l / 64 * 64) ≤ x ∧ x < edKey k (l / 64 * 64) + data.length then data.getD (x - edKey k (l / 64 * 64)) 0 else s.byte x :=
  State.byte_setBytes s _ x data

/-- A merge into a line changes no byte but those that it brings. -/
theorem State.mergeLine_byte {s : State} {k l x : Nat} {data : List Byte} (ctx : Option (Nat × Nat)) (fit : l % 64 + data.length ≤ 64)
    (out : ¬ (edKey k l ≤ x ∧ x < edKey k l + data.length)) : (s.mergeLine k l data ctx).1.byte x = s.byte x := by
  unfold State.mergeLine
  split
  · next whole =>
    have start : l / 64 * 64 = l := by
      have : l % 64 = 0 := (by simpa using whole : l % 64 = 0 ∧ data.length = 64).1
      omega
    rw [State.storeLine_byte, start, if_neg out]
  · have before : (s.checkLine k l ctx).1.byte x = s.byte x := State.byte_congr (s.checkLine_mem k l ctx) x
    generalize s.checkLine k l ctx = c at before
    obtain ⟨t, ok⟩ := c
    cases ok with
    | false => exact before
    | true =>
      let b := l / 64 * 64
      have base : edKey k l = edKey k b + (l - b) := by simp only [edKey, b]; omega
      have start : b / 64 * 64 = b := by omega
      have size : (t.bytes (edKey k b) 64).length = 64 := t.length_bytes _ 64
      have line : (t.storeLine k b ((t.bytes (edKey k b) 64).take (l - b) ++ data ++ (t.bytes (edKey k b) 64).drop (l - b + data.length)) false).byte x
          = t.byte x := by
        rw [State.storeLine_byte, start]
        split
        · next inside =>
          have within : x - edKey k b < 64 := by
            simp only [List.length_append, List.length_take, List.length_drop, size] at inside
            omega
          rw [getD_patched (by rw [size]; omega) (by omega), State.getD_bytes _ within, Nat.add_sub_cancel' inside.1]
        · rfl
      exact line.trans before

theorem State.mergeLine_edMap (s : State) (k l : Nat) (data : List Byte) (ctx : Option (Nat × Nat)) :
    (s.mergeLine k l data ctx).1.edMap = s.edMap := by
  unfold State.mergeLine
  split
  · exact s.storeLine_edMap k l data _
  · have before : (s.checkLine k l ctx).1.edMap = s.edMap := s.edMap_checkLine k l ctx
    generalize s.checkLine k l ctx = c at before
    obtain ⟨t, ok⟩ := c
    cases ok with
    | false => exact before
    | true => exact (t.storeLine_edMap _ _ _ _).trans before

/-! ### Steps that store at given keys only -/

/-- From `s` to `t` no byte outside the keys has changed, and the address map of the Edesk is as it was. -/
abbrev State.Stores (s t : State) (keys : List Nat) : Prop := t.edMap = s.edMap ∧ s.KeepsBytes t keys

section Rules
variable {s0 s t : State} {keys : List Nat}

theorem State.Stores.map (h : s.Stores t keys) : t.edMap = s.edMap := h.1

theorem State.Stores.kept (h : s.Stores t keys) : s.KeepsBytes t keys := h.2

theorem State.Stores.refl (s : State) (keys : List Nat) : s.Stores s keys := ⟨rfl, fun _ _ => rfl⟩

theorem State.Stores.trans (h : s0.Stores s keys) (h' : s.Stores t keys) : s0.Stores t keys :=
  ⟨h'.map.trans h.map, fun k hk => (h'.kept k hk).trans (h.kept k hk)⟩

/-- A step that leaves memory and the address map. -/
theorem State.Stores.quiet (h : s0.Stores s keys) (map : t.edMap = s.edMap) (mem : t.mem = s.mem) : s0.Stores t keys :=
  h.trans ⟨map, fun k _ => State.byte_congr mem k⟩

/-- A step whose frame has neither memory nor the pages of the memory controllers. -/
theorem State.Stores.framed {M : Nat} (h : s0.Stores s keys) (frame : Kept M s t) (pages : M.testBit 34 = false)
    (memory : M.testBit 66 = false) : s0.Stores t keys := h.quiet (frame.edMap pages) (frame.mem memory)

theorem State.Stores.fst {α : Type} {p : State × α} {x : α} (e : p = (t, x)) (h : s0.Stores p.1 keys) : s0.Stores t keys := by
  rwa [e] at h

theorem State.Stores.foldl {α β : Type} {f : State × β → α → State × β} {l : List α} {p : State × β} (h : s0.Stores p.1 keys)
    (hf : ∀ p, ∀ x ∈ l, s0.Stores p.1 keys → s0.Stores (f p x).1 keys) : s0.Stores (l.foldl f p).1 keys := by
  induction l generalizing p with
  | nil => exact h
  | cons x l ih => exact ih (hf p x List.mem_cons_self h) (fun p y hy => hf p y (List.mem_cons_of_mem x hy))

/-! ### Reads (R174) -/

theorem State.Stores.checkLine (h : s0.Stores s keys) (k l : Nat) (ctx : Option (Nat × Nat)) : s0.Stores (s.checkLine k l ctx).1 keys :=
  h.quiet (s.edMap_checkLine k l ctx) (s.checkLine_mem k l ctx)

theorem State.Stores.checkRange (h : s0.Stores s keys) (o n : Nat) (ctx : Option (Nat × Nat)) : s0.Stores (s.checkRange o n ctx).1 keys := by
  unfold State.checkRange
  refine State.Stores.foldl h fun p q _ hp => ?_
  split
  · exact hp
  · split
    · exact hp
    · split
      · exact hp.checkLine _ _ _
      · exact hp

theorem State.Stores.readMem (h : s0.Stores s keys) (a n : Nat) (ctx : Option (Nat × Nat)) : s0.Stores (s.readMem a n ctx).1 keys := by
  unfold State.readMem
  split
  · exact h.checkRange _ _ _
  · split
    · exact h
    · exact h

theorem State.Stores.readRows (h : s0.Stores s keys) (rows : List (Nat × Nat)) (ctx : Option (Nat × Nat)) :
    s0.Stores (s.readRows rows ctx).1 keys := by
  unfold State.readRows
  refine State.Stores.foldl h fun p r _ hp => ?_
  split
  · exact hp
  · split
    · next e => exact (hp.readMem r.1 r.2 ctx).fst e
    · next e => exact (hp.readMem r.1 r.2 ctx).fst e

theorem State.Stores.readBits (h : s0.Stores s keys) (t : Tens) (ctx : Option (Nat × Nat)) : s0.Stores (s.readBits t ctx).1 keys := by
  unfold State.readBits
  split
  · next e => exact (h.readRows t.rows ctx).fst e
  · next e => exact (h.readRows t.rows ctx).fst e

theorem State.Stores.readBitsOf (h : s0.Stores s keys) (t : Tens) (keep : Nat × Nat × Nat → Bool) (ctx : Option (Nat × Nat)) :
    s0.Stores (s.readBitsOf t keep ctx).1 keys := by
  unfold State.readBitsOf
  split
  · next e => exact (h.readRows _ ctx).fst e
  · next e => exact (h.readRows _ ctx).fst e

theorem State.Stores.readRowsOf (h : s0.Stores s keys) (r : Tref) (keep : Nat → Bool) (ctx : Option (Nat × Nat)) :
    s0.Stores (s.readRowsOf r keep ctx).1 keys := by
  unfold State.readRowsOf
  split
  · next e => exact (h.readBitsOf _ _ ctx).fst e
  · next e =>
    have data := (h.readBitsOf r.t (fun i => keep i.1) ctx).fst e
    split
    · exact data
    · extract_lets row
      split
      · next e => exact (data.readBitsOf _ _ ctx).fst e
      · next e => exact (data.readBitsOf _ _ ctx).fst e

theorem State.Stores.readArr (h : s0.Stores s keys) (r : Tref) (ctx : Option (Nat × Nat)) : s0.Stores (s.readArr r ctx).1 keys := by
  unfold State.readArr
  extract_lets t mk
  split
  · next e => exact (h.readBits _ ctx).fst e
  · next e =>
    have data := (h.readBits t ctx).fst e
    split
    · exact data
    · split
      · next e => exact (data.readBits _ ctx).fst e
      · next e => exact (data.readBits _ ctx).fst e

theorem State.Stores.scalesOk (h : s0.Stores s keys) (l : List Nat) (ctx : Option (Nat × Nat)) : s0.Stores (s.scalesOk l ctx).1 keys :=
  h.readRows _ ctx

theorem State.Stores.readSrcs (h : s0.Stores s keys) (lc : Nat) (r : Refs) : s0.Stores (s.readSrcs lc r).1 keys := by
  unfold State.readSrcs
  extract_lets ctx get
  have one : ∀ {u : State}, s0.Stores u keys → ∀ x, s0.Stores (get u x).1 keys := by
    intro u hu x
    unfold get
    split
    · exact hu
    · exact hu.readArr _ ctx
  split
  · next e => exact (one h _).fst e
  · next e =>
    have a := (one h _).fst e
    split
    · next e => exact (one a _).fst e
    · next e =>
      have b := (one a _).fst e
      split
      · next e => exact (one b _).fst e
      · next e => exact (one b _).fst e

/-! ### Writes (R13, R173) -/

theorem State.Stores.writeLine (h : s0.Stores s keys) {k l : Nat} {data : List Byte} (o : Nat) (ctx : Option (Nat × Nat)) (req : Requester)
    (prod : Bool) (fit : l % 64 + data.length ≤ 64) (named : ∀ j < data.length, edKey k (l + j) ∈ keys) :
    s0.Stores (s.writeLine k l o data ctx req prod).1 keys := by
  unfold State.writeLine
  split
  · exact h.framed (State.lineHoldW_kept (Msub.refl _) (.refl _ s)) rfl rfl
  · split
    · exact h.framed (State.matHold_kept (Msub.refl _) (.refl _ s)) rfl rfl
    · refine h.trans ⟨s.mergeLine_edMap k l data ctx, fun x hx => State.mergeLine_byte ctx fit fun ⟨low, high⟩ => hx ?_⟩
      have key : x = edKey k (l + (x - edKey k l)) := by simp only [edKey] at *; omega
      rw [key]
      exact named _ (by omega)

/-- Of bytes that are cut at line boundaries each piece lies in one line, at its place in the whole. -/
theorem mem_splitLines {n o : Nat} {bs : List Byte} {p : Nat × List Byte} (h : p ∈ splitLines n o bs) :
    ∃ i, p.1 = o + i ∧ p.1 % 64 + p.2.length ≤ 64 ∧ ∀ j < p.2.length, i + j < bs.length := by
  induction n generalizing o bs with
  | zero => exact nomatch h
  | succ n ih =>
    unfold splitLines at h
    split at h
    · exact nomatch h
    · obtain rfl | later := List.mem_cons.mp h
      · refine ⟨0, rfl, ?_, fun j hj => ?_⟩
        · rw [List.length_take]
          omega
        · rw [List.length_take] at hj
          omega
      · obtain ⟨i, place, fit, inside⟩ := ih later
        refine ⟨64 - o % 64 + i, by omega, fit, fun j hj => ?_⟩
        have := inside j hj
        rw [List.length_drop] at this
        omega

theorem State.Stores.writeEdesk (h : s0.Stores s keys) {a : Nat} {data : List Byte} (ctx : Option (Nat × Nat)) (prod : Bool) (space : gaSpace a = 0)
    (named : s0.rangeKeys a data.length ⊆ keys) : s0.Stores (s.writeEdesk (gaOff a) data ctx prod).1 keys := by
  unfold State.writeEdesk
  refine State.Stores.foldl h fun acc p hp hacc => ?_
  obtain ⟨i, place, fit, inside⟩ := mem_splitLines hp
  split
  · exact hacc
  · next k l here =>
    rw [hacc.map, place] at here
    obtain ⟨low, -, next⟩ := State.edMap_line here
    split
    · refine hacc.writeLine p.1 ctx .host prod (by omega) fun j hj => named (State.mem_rangeKeys.mpr ⟨i + j, inside j hj, ?_⟩)
      refine State.memKey_edesk space ?_
      rw [← Nat.add_assoc]
      exact next j (by omega)
    · exact hacc

theorem State.sramLoc_some {s : State} {o k : Nat} (h : s.sramLoc o = some k) : o < 8 * clusterSpan ∧ k = sramKey o := by
  unfold State.sramLoc at h
  split at h
  · exact nomatch h
  · next inside =>
    split at h
    next cl u _ =>
      extract_lets p at h
      split at h
      · exact nomatch h
      · exact ⟨Nat.lt_of_not_le inside, (Option.some.inj h).symm⟩

theorem State.Stores.writeSram (h : s0.Stores s keys) {o : Nat} {data : List Byte}
    (named : ∀ i < data.length, o + i < 8 * clusterSpan → sramKey (o + i) ∈ keys) : s0.Stores (s.writeSram o data).1 keys := by
  induction data generalizing s o with
  | nil => exact h
  | cons b t ih =>
    have later : ∀ i < t.length, o + 1 + i < 8 * clusterSpan → sramKey (o + 1 + i) ∈ keys := by
      intro i hi ho
      rw [Nat.add_right_comm, Nat.add_assoc] at ho ⊢
      exact named (i + 1) (Nat.succ_lt_succ hi) ho
    unfold State.writeSram
    split
    · exact ih h later
    · next k here =>
      obtain ⟨inside, rfl⟩ := State.sramLoc_some here
      refine ih (h.trans ⟨(State.setByte_kept (Msub.refl _) (.refl _ s)).edMap rfl, fun x hx => ?_⟩) later
      rw [State.byte_setByte, if_neg]
      rintro rfl
      exact hx (named 0 (Nat.succ_pos _) inside)

/-- A write stores at the keys of its range only. -/
theorem State.Stores.writeMem (h : s0.Stores s keys) {a : Nat} {data : List Byte} (ctx : Option (Nat × Nat))
    (named : s0.rangeKeys a data.length ⊆ keys) : s0.Stores (s.writeMem a data ctx).1 keys := by
  unfold State.writeMem
  split
  · next space => exact h.writeEdesk ctx false space named
  · split
    · next space =>
      exact h.writeSram fun i hi inside => named (State.mem_rangeKeys.mpr ⟨i, hi, State.memKey_sram space inside⟩)
    · exact h

theorem State.Stores.writeRows (h : s0.Stores s keys) {rows : List (Nat × List Byte)} (ctx : Option (Nat × Nat))
    (named : ∀ r ∈ rows, s0.rangeKeys r.1 r.2.length ⊆ keys) : s0.Stores (s.writeRows rows ctx).1 keys := by
  unfold State.writeRows
  exact State.Stores.foldl h fun p r hr hp => hp.writeMem ctx (named r hr)

end Rules

end Sys2Proof.Machine
end

section
/-! SUPPORT. What a result stores into its destination (R45, R62, R75), and the formats that checked references have (R52, R535). -/
namespace Sys2Proof.Machine
-- This option makes Lean elaborate the proofs one after the other: side by side they take more threads than the check's memory limit allows.
set_option deprecated.oldSectionVars true

/-! ### Packing (R45) -/

theorem length_bytesLE (n v : Nat) : (bytesLE n v).length = n := by
  induction n generalizing v with
  | zero => rfl
  | succ n ih => rw [bytesLE, List.length_cons, ih]

/-- A packing group of a format of Table 2.2 fills its bytes. -/
theorem fmtGroup_fills : ∀ c < 12, 0 < fmtGroup c ∧ fmtWidth c * fmtGroup c = 8 * fmtGroupBytes c := by decide

theorem packedBytes_le_group {c n : Nat} (hc : c < 12) (hn : n ≤ fmtGroup c) : packedBytes c n ≤ fmtGroupBytes c := by
  have fills := (fmtGroup_fills c hc).2
  have bits : n * fmtWidth c ≤ 8 * fmtGroupBytes c := by
    rw [← fills, Nat.mul_comm]
    exact Nat.mul_le_mul_left _ hn
  rw [packedBytes]
  omega

/-- Elements are packed into as many bytes as their groups have. -/
theorem length_packElems_le {c : Nat} (hc : c < 12) (fuel : Nat) (l : List Nat) :
    (packElems c fuel l).length ≤ (l.length + fmtGroup c - 1) / fmtGroup c * fmtGroupBytes c := by
  have group := (fmtGroup_fills c hc).1
  induction fuel generalizing l with
  | zero => exact Nat.zero_le _
  | succ fuel ih =>
    unfold packElems
    split
    · exact Nat.zero_le _
    · next some =>
      have pos : 0 < l.length := List.length_pos_of_ne_nil (by simpa using some)
      have first := packedBytes_le_group hc (n := (l.take (fmtGroup c)).length) (by rw [List.length_take]; omega)
      have groups : (l.length + fmtGroup c - 1) / fmtGroup c = (l.length - fmtGroup c + fmtGroup c - 1) / fmtGroup c + 1 := by
        obtain last | more := Nat.le_total l.length (fmtGroup c)
        · rw [Nat.sub_eq_zero_of_le last, Nat.zero_add, Nat.div_eq_of_lt (by omega : fmtGroup c - 1 < fmtGroup c)]
          have one : l.length + fmtGroup c - 1 = l.length - 1 + fmtGroup c := by omega
          rw [one, Nat.add_div_right _ group, Nat.div_eq_of_lt (by omega)]
        · rw [← Nat.add_div_right _ group]
          congr 1
          omega
      have rest := ih (l.drop (fmtGroup c))
      rw [List.length_drop] at rest
      rw [groups, Nat.succ_mul, List.length_append, length_bytesLE]
      omega

theorem length_le_of_mem_rowsOf {α : Type} {n m : Nat} {l row : List α} (h : row ∈ rowsOf n m l) : row.length ≤ n := by
  induction m generalizing l with
  | zero => exact nomatch h
  | succ m ih =>
    obtain rfl | later := List.mem_cons.mp h
    · exact List.length_take_le n l
    · exact ih later

theorem Tens.length_packed_le {t : Tens} (hc : t.code < 12) {l : List Nat} (h : l.length ≤ t.e0) :
    (packElems t.code t.e0 l).length ≤ t.rowBytes := by
  refine (length_packElems_le hc t.e0 l).trans (Nat.mul_le_mul_right _ (Nat.div_le_div_right ?_))
  omega

/-! ### Destinations -/

/-- The formats of a reference are among those of Table 2.4: its elements have the code of its format byte, its scales one of their own. -/
abbrev Tref.Formed (x : Tref) : Prop := x.t.code = fmtCode x.fmt ∧ x.t.code < 12 ∧ ∀ c, x.sc = some c → c.code < 12

theorem Tref.Formed.code {x : Tref} (h : x.Formed) : x.t.code = fmtCode x.fmt := h.1

theorem Tref.Formed.known {x : Tref} (h : x.Formed) : x.t.code < 12 := h.2.1

theorem Tref.Formed.scales {x : Tref} (h : x.Formed) : ∀ c, x.sc = some c → c.code < 12 := h.2.2

theorem State.rangeKeys_row {s : State} {t : Tens} {row : Nat × Nat} (h : row ∈ t.rows) {n : Nat} (hn : n ≤ t.rowBytes) :
    s.rangeKeys row.1 n ⊆ s.tensKeys t := by
  intro k hk
  obtain ⟨i, -, rfl⟩ := List.mem_map.mp h
  exact List.mem_flatMap.mpr ⟨_, h, s.rangeKeys_mono _ hn hk⟩

section Rules
variable {s0 s : State} {keys : List Nat}

theorem State.Stores.writeBits (h : s0.Stores s keys) {t : Tens} (known : t.code < 12) (bits : List Nat) (ctx : Option (Nat × Nat))
    (named : s0.tensKeys t ⊆ keys) : s0.Stores (s.writeBits t bits ctx).1 keys := by
  unfold State.writeBits
  refine h.writeRows ctx fun r hr => ?_
  obtain ⟨⟨row, chunk⟩, pair, rfl⟩ := List.mem_map.mp hr
  obtain ⟨place, cut⟩ := List.of_mem_zip pair
  exact fun k hk => named (State.rangeKeys_row place (Tens.length_packed_le known (length_le_of_mem_rowsOf cut)) hk)

/-- A result stores into its destination's rows and those of its scales only. -/
theorem State.Stores.writeOut (h : s0.Stores s keys) {r : Tref} (formed : r.Formed) (part : Nat) (vals : List (Val × Bool))
    (ctx : Option (Nat × Nat)) (named : s0.destKeys r ⊆ keys) : s0.Stores (s.writeOut r part vals ctx).1 keys := by
  have data : s0.tensKeys r.t ⊆ keys := fun k hk => named (List.mem_append_left _ hk)
  unfold State.writeOut
  extract_lets seed step
  split
  · exact h.writeBits formed.known _ ctx data
  · next sc scaled =>
    have scales : s0.tensKeys sc ⊆ keys := fun k hk => named (List.mem_append_right _ (by rw [scaled]; exact hk))
    exact (h.writeBits (formed.scales sc scaled) _ ctx scales).writeBits formed.known _ ctx data

end Rules

/-! ### References that their checks accept (R52, R535) -/

theorem dstFmtOk_known {quant : Bool} {f : Nat} (h : dstFmtOk quant f = true) : fmtCode f < 12 := by
  simp only [dstFmtOk, Bool.and_eq_true, decide_eq_true_eq] at h
  omega

theorem srcFmtOk_known {f : Nat} (h : srcFmtOk f = true) : fmtCode f < 12 := by
  simp only [srcFmtOk, Bool.and_eq_true, decide_eq_true_eq] at h
  omega

/-- A format that the rules of a slot accept is one of Table 2.4; that of indices is code 0. -/
theorem Opt.fmtOk_known {o : Opt} {r : Ref} (h : o.fmtOk r = true) : fmtCode r.fmt < 12 := by
  unfold Opt.fmtOk at h
  split at h
  · have zero : r.fmt = 0 := by
      simp only [Bool.and_eq_true, beq_iff_eq] at h
      exact h.1.2
    rw [zero]
    decide
  · simp only [Bool.and_eq_true] at h
    obtain ⟨⟨⟨⟨-, table⟩, -⟩, -⟩, -⟩ := h
    split at table
    · exact dstFmtOk_known table
    · exact srcFmtOk_known table

theorem State.recTens_code {s : State} {q : Seq} {w : List Nat} {code : Nat} {t : Tens} (h : s.recTens q w code = some t) : t.code = code := by
  unfold State.recTens at h
  extract_lets g at h
  split at h
  · exact nomatch h
  · exact (congrArg Tens.code (Option.some.inj h)).symm

theorem Tens.move_code (t : Tens) (ax : Nat) (v : Int) : (t.move ax v).code = t.code := by
  unfold Tens.move
  split <;> rfl

theorem State.resolve_formed {s : State} {lc no : Nat} {w : DWord} {o : Opt} {x : Tref} (h : s.resolve lc no w o = .ok x) : x.Formed := by
  unfold State.resolve at h
  extract_lets +onlyGivenNames q r rec_ fmt_ at h
  split at h
  · exact nomatch h
  extract_lets +onlyGivenNames words at h
  split at h
  · exact nomatch h
  next t tens =>
  have code := State.recTens_code tens
  split at h
  · exact nomatch h
  extract_lets +onlyGivenNames va vb t1 at h
  split at h
  · exact nomatch h
  extract_lets +onlyGivenNames org t2 sri swords at_ scaled st0 at h
  have scaleCode : ∀ c, st0 = some c → c.code < 12 := by
    intro c made
    unfold st0 at made
    split at made
    · rw [State.recTens_code made]
      decide
    · rw [← Option.some.inj made]
      decide
  have sameCode : t2.code = fmtCode r.fmt := by
    have moved : t1.code = fmtCode r.fmt := by rw [Tens.move_code, Tens.move_code, code]
    unfold t2
    split <;> exact moved
  clear_value st0 t2
  cases st0 with
  | none => exact nomatch h
  | some st =>
    dsimp -zeta only at h
    extract_lets +onlyGivenNames div odd st1 blk st2 at h
    split at h
    · exact nomatch h
    split at h
    · exact nomatch h
    next accepted =>
    split at h
    · exact nomatch h
    have known : fmtCode r.fmt < 12 := by
      simp only [Bool.or_eq_true, not_or, Bool.not_eq_true', Bool.not_eq_false] at accepted
      exact Opt.fmtOk_known accepted.1.1
    obtain rfl := Except.ok.inj h
    refine ⟨sameCode, sameCode ▸ known, fun c scale => ?_⟩
    split at scale
    · rw [← Option.some.inj scale]
      change ((st.move _ _).move _ _).code < 12
      rw [Tens.move_code, Tens.move_code]
      exact scaleCode st rfl
    · exact nomatch scale

theorem State.refLoc_same {s : State} {lc part no : Nat} {loc : Loc} {x y : Tref} (h : s.refLoc lc part no loc x = .ok y) : y = x := by
  unfold State.refLoc at h
  extract_lets c at h
  split at h
  · exact nomatch h
  split at h
  · extract_lets c' at h
    split at h
    · exact nomatch h
    · exact (Except.ok.inj h).symm
  · exact (Except.ok.inj h).symm

theorem State.oneRef_formed {s : State} {lc i : Nat} {d : Desc} {f : Form} {x : Tref} (h : s.oneRef lc d f i = .ok (some x)) : x.Formed := by
  unfold State.oneRef at h
  extract_lets +onlyGivenNames w at h
  split at h
  · exact nomatch h
  extract_lets +onlyGivenNames g at h
  split at h
  · exact nomatch h
  next y resolved =>
  split at h
  · exact nomatch h
  split at h
  · exact nomatch h
  next z placed =>
  obtain rfl := Option.some.inj (Except.ok.inj h)
  rw [State.refLoc_same placed]
  exact State.resolve_formed resolved

/-- The references that the checks accept are those of the slots. -/
theorem State.prep_slots {s : State} {lc : Nat} {d : Desc} {f : Form} {r : Refs} (h : s.prep lc d f = .ok r) :
    s.oneRef lc d f 0 = .ok r.d ∧ s.oneRef lc d f 1 = .ok r.a := by
  unfold State.prep at h
  split at h
  · exact nomatch h
  cases hd : s.oneRef lc d f 0 with
  | error e => rw [hd] at h; exact nomatch h
  | ok rd =>
  cases ha : s.oneRef lc d f 1 with
  | error e => rw [hd, ha] at h; exact nomatch h
  | ok ra =>
  cases hb : s.oneRef lc d f 2 with
  | error e => rw [hd, ha, hb] at h; exact nomatch h
  | ok rb =>
  cases hc : s.oneRef lc d f 3 with
  | error e => rw [hd, ha, hb, hc] at h; exact nomatch h
  | ok rc =>
    rw [hd, ha, hb, hc] at h
    obtain rfl := Except.ok.inj h
    exact ⟨rfl, rfl⟩

theorem Tref.formed_default : ({} : Tref).Formed := ⟨rfl, by decide, nofun⟩

theorem Tref.formed_getD {o : Option Tref} (h : ∀ x, o = some x → x.Formed) : (o.getD {}).Formed := by
  cases o with
  | none => exact Tref.formed_default
  | some x => exact h x rfl

/-- Destination and first source of a descriptor that passes its checks have formats of Table 2.4. -/
theorem State.prep_formed {s : State} {lc : Nat} {d : Desc} {f : Form} {r : Refs} (h : s.prep lc d f = .ok r) : r.dd.Formed ∧ r.aa.Formed := by
  obtain ⟨dst, src⟩ := State.prep_slots h
  exact ⟨Tref.formed_getD fun x hx => State.oneRef_formed (hx ▸ dst), Tref.formed_getD fun x hx => State.oneRef_formed (hx ▸ src)⟩

end Sys2Proof.Machine
end

section
/-! Descriptors store in their destination only (R89, R98, R135). -/
namespace Sys2Proof.Machine
-- This option makes Lean elaborate the proofs one after the other: side by side they take more threads than the check's memory limit allows.
set_option deprecated.oldSectionVars true

/-! ### Issue -/

/-- A descriptor whose checks fail stores nothing, and one with the destination `x` stores in the rows of `x` and of its scales only. -/
def State.OnlyInDest (s : State) (lc : Nat) (d : Desc) (f : Form) (t : State) : Prop :=
  (∀ e, s.prep lc d f = .error e → t.mem = s.mem) ∧ ∀ r x, s.prep lc d f = .ok r → r.d = some x → s.KeepsBytes t (s.destKeys x)

theorem State.descFault_mem (s : State) (lc desc : Nat) (e : DF) : (s.descFault lc desc e).mem = s.mem :=
  (State.descFault_kept (Msub.refl _) (.refl _ s)).mem rfl

theorem State.holdSer_mem (s : State) (lc : Nat) (ser : Bool) : (s.holdSer lc ser).mem = s.mem := (s.holdSer_leaves lc ser).1

theorem State.lineAwait_mem (s : State) (req : Requester) (reads dests : List (Nat × Nat)) : (s.lineAwait req reads dests).mem = s.mem :=
  (State.lineAwait_kept (Msub.refl _) (.refl _ s)).mem rfl

theorem State.engTake_mem (s : State) (lc desc : Nat) (es : List Nat) (bypass : Bool) : (s.engTake lc desc es bypass).mem = s.mem :=
  (State.engTake_kept (Msub.refl _) (.refl _ s)).mem rfl

/-- The issue of a descriptor leaves memory as it was, or as its effect leaves it once its references and checks are in order. -/
theorem State.issue_mem (s : State) (lc : Nat) (d : Desc) (f : Form) (unit : Nat) (check : State → Seq → Refs → Option DF)
    (engs : State → Seq → Refs → Option (List Nat)) (eff : State → Refs → Nat → Eff) :
    (s.issue lc d f unit check engs eff).mem = s.mem ∨ ∃ r, s.prep lc d f = .ok r ∧ check s (s.seq lc) r = none ∧
      (s.issue lc d f unit check engs eff).mem = (eff (s.atIssue lc) r (s.seq lc).nextId).s.mem := by
  unfold State.issue
  extract_lets +onlyGivenNames q
  split
  · exact .inl rfl
  split
  · exact .inl (s.holdSer_mem lc _)
  split
  · exact .inl (s.lineAwait_mem _ _ _)
  split
  · exact .inl rfl
  split
  · exact .inl (s.descFault_mem lc _ _)
  next r refs =>
  split
  · exact .inl (s.descFault_mem lc _ _)
  next passed =>
  extract_lets +onlyGivenNames dst src ser
  split
  · exact .inl (s.holdSer_mem lc _)
  split
  · exact .inl rfl
  split
  · exact .inl (s.lineAwait_mem _ _ _)
  extract_lets +onlyGivenNames u e
  refine .inr ⟨r, refs, passed, ?_⟩
  split
  · exact e.s.descFault_mem lc _ _
  · exact (State.pushInfl_mem _ _ _).trans (e.s.engTake_mem lc _ _ _)

/-- A descriptor whose effect stores in its destination only. -/
theorem State.issue_onlyInDest {s : State} {lc : Nat} {d : Desc} {f : Form} {unit : Nat} {check : State → Seq → Refs → Option DF}
    {engs : State → Seq → Refs → Option (List Nat)} {eff : State → Refs → Nat → Eff}
    (stores : ∀ {r : Refs} (u : State) (id : Nat) (keys : List Nat), r.dd.Formed → r.aa.Formed → check s (s.seq lc) r = none → s.Stores u keys →
      s.destKeys r.dd ⊆ keys → s.Stores (eff u r id).s keys) :
    s.OnlyInDest lc d f (s.issue lc d f unit check engs eff) := by
  obtain same | ⟨r, refs, passed, mem⟩ := s.issue_mem lc d f unit check engs eff
  · exact ⟨fun _ _ => same, fun _ _ _ _ k _ => State.byte_congr same k⟩
  · refine ⟨fun e failed => ?_, fun r' x refs' dest k out => ?_⟩
    · rw [refs] at failed
      exact nomatch failed
    · obtain rfl := Except.ok.inj (refs.symm.trans refs')
      obtain ⟨dst, src⟩ := State.prep_formed refs
      have named : r.dd = x := by rw [Refs.dd, dest]; rfl
      have issued : s.Stores (s.atIssue lc) (s.destKeys x) := (State.Stores.refl s _).framed (s.atIssue_kept lc) rfl rfl
      rw [State.byte_congr mem]
      exact (stores _ _ _ dst src passed issued (named ▸ List.Subset.refl _)).kept k out

/-! ### Effects -/

section Rules
variable {s0 s : State} {keys : List Nat}

/-- The effect of a result that is written. -/
theorem State.Stores.wrote (h : s0.Stores s keys) {r : Tref} (formed : r.Formed) (part : Nat) (vals : List (Val × Bool)) (ctx : Option (Nat × Nat))
    (named : s0.destKeys r ⊆ keys) (n : Nat) : s0.Stores ((Eff.ofOut (s.writeOut r part vals ctx)).plus n).s keys :=
  h.writeOut formed part vals ctx named

end Rules

theorem tens_named {s0 : State} {r : Tref} {keys : List Nat} (named : s0.destKeys r ⊆ keys) : s0.tensKeys r.t ⊆ keys :=
  fun _ hk => named (List.mem_append_left _ hk)

theorem exec_transpose_onlyInDest (s : State) (lc : Nat) (d : Desc) {t : State} (run : exec (.transpose lc d) s = .next t) :
    s.OnlyInDest lc d (permForm (d.imm0.toNat % 256)) t := by
  obtain rfl := Host.Outcome.next.inj run
  refine State.issue_onlyInDest fun u id keys dst _ _ h named => ?_
  split
  · next e => exact (h.readBits _ _).fst e
  · next e =>
    have read := (h.readBits _ _).fst e
    extract_lets +onlyGivenNames out
    split
    next e =>
      have put := (read.writeBits dst.known out _ (tens_named named)).fst e
      split
      · exact put
      · exact put

theorem exec_gather_onlyInDest (s : State) (lc : Nat) (d : Desc) {t : State} (run : exec (.gather lc d) s = .next t) :
    s.OnlyInDest lc d (rowForm 0x14) t := by
  obtain rfl := Host.Outcome.next.inj run
  refine State.issue_onlyInDest fun u id keys dst _ _ h named => ?_
  extract_lets +onlyGivenNames ctx
  split
  · next e => exact (h.readBits _ _).fst e
  · next e =>
    have rows := (h.readBits _ _).fst e
    split
    · next e => exact (rows.readRowsOf _ _ _).fst e
    · next e => exact ((rows.readRowsOf _ _ _).fst e).writeOut dst _ _ _ named

theorem exec_scatterAdd_onlyInDest (s : State) (lc : Nat) (d : Desc) {t : State} (run : exec (.scatterAdd lc d) s = .next t) :
    s.OnlyInDest lc d (rowForm 0x15) t := by
  obtain rfl := Host.Outcome.next.inj run
  refine State.issue_onlyInDest fun u id keys dst _ _ h named => ?_
  extract_lets +onlyGivenNames ctx
  split
  · next e => exact (h.readArr _ _).fst e
  · next e =>
    have old := (h.readArr _ _).fst e
    split
    · next e => exact (old.readBits _ _).fst e
    · next e =>
      have rows := (old.readBits _ _).fst e
      split
      · next e => exact (rows.readRowsOf _ _ _).fst e
      · next e => exact ((rows.readRowsOf _ _ _).fst e).wrote dst _ _ _ named _

theorem convIssue_onlyInDest (s : State) (lc : Nat) (d : Desc) (quant : Bool) : s.OnlyInDest lc d (convForm quant) (convIssue s lc d quant) := by
  refine State.issue_onlyInDest fun u id keys dst _ _ h named => ?_
  split
  · next e => exact (h.readArr _ _).fst e
  · next e => exact ((h.readArr _ _).fst e).writeOut dst _ _ _ named

theorem exec_fill_onlyInDest (s : State) (lc : Nat) (d : Desc) {t : State} (run : exec (.fill lc d) s = .next t) :
    s.OnlyInDest lc d fillForm t := by
  obtain rfl := Host.Outcome.next.inj run
  exact State.issue_onlyInDest fun u id keys dst _ _ h named => h.writeOut dst _ _ _ named

/-- Every vector descriptor but ROWRED_ARGMAX writes its results alike. -/
theorem vec_onlyInDest {lc : Nat} {d : Desc} {code m0 : Nat} {need : List Nat} {sub : Option Nat} {c : Instr} (vec : IsVec lc d code m0 need sub c)
    {s t : State} (run : exec c s = .next t) : s.OnlyInDest lc d (vecForm code sub need m0) t := by
  obtain ⟨check, res, meaning⟩ := vec
  obtain rfl := Host.Outcome.next.inj ((meaning s).symm.trans run)
  refine State.issue_onlyInDest fun u id keys dst _ _ h named => ?_
  split
  · next e => exact (h.readSrcs lc _).fst e
  · next e => exact ((h.readSrcs lc _).fst e).wrote dst _ _ _ named _

theorem exec_rowredArgmax_onlyInDest (s : State) (lc : Nat) (d : Desc) {t : State} (run : exec (.rowredArgmax lc d) s = .next t) :
    s.OnlyInDest lc d argmaxForm t := by
  obtain rfl := Host.Outcome.next.inj run
  refine State.issue_onlyInDest fun u id keys dst _ _ h named => ?_
  split
  · next e => exact (h.readSrcs lc _).fst e
  · next e =>
    have read := (h.readSrcs lc _).fst e
    extract_lets +onlyGivenNames rows
    split
    next e =>
      have put := (read.writeBits dst.known _ _ (tens_named named)).fst e
      split
      · exact put
      · exact put

end Sys2Proof.Machine
end

section
/-! Copies and matrix descriptors store in their destination only (R89, R98, R111, R115). -/
namespace Sys2Proof.Machine
-- This option makes Lean elaborate the proofs one after the other: side by side they take more threads than the check's memory limit allows.
set_option deprecated.oldSectionVars true

/-! ### What a read gives (R174) -/

theorem State.length_peekN (s : State) (a n : Nat) : (s.peekN a n).length = n := by
  induction n generalizing a with
  | zero => rfl
  | succ n ih => rw [State.peekN, List.length_cons, ih]

theorem State.length_readMem {s t : State} {a n : Nat} {ctx : Option (Nat × Nat)} {b : List Byte} (h : s.readMem a n ctx = (t, some b)) :
    b.length = n := by
  have read : (s.readMem a n ctx).2 = some b := by rw [h]
  unfold State.readMem at read
  split at read
  · generalize s.checkRange (gaOff a) n ctx = c at read
    obtain ⟨u, ok⟩ := c
    cases ok with
    | false => exact nomatch read
    | true => rw [← Option.some.inj read, State.length_peekN]
  · split at read
    · rw [← Option.some.inj read, State.length_peekN]
    · exact nomatch read

/-- Rows of one length are read as rows of that length. -/
theorem State.length_readRows {s t : State} {rows : List (Nat × Nat)} {ctx : Option (Nat × Nat)} {bs : List (List Byte)} {n : Nat}
    (h : s.readRows rows ctx = (t, some bs)) (all : ∀ r ∈ rows, r.2 = n) : ∀ b ∈ bs, b.length = n := by
  have read : (s.readRows rows ctx).2 = some bs := by rw [h]
  unfold State.readRows at read
  refine List.foldlRecOn (motive := fun acc : State × Option (List (List Byte)) => ∀ l, acc.2 = some l → ∀ b ∈ l, b.length = n) rows _ ?start ?row bs read
  case start =>
    intro l start b hb
    rw [← Option.some.inj start] at hb
    exact nomatch hb
  case row =>
    intro acc before r hr l
    split
    · next none => exact fun some => nomatch none.symm.trans some
    · next l0 sofar =>
      split
      · next u b e =>
        intro grown b' hb'
        rw [← Option.some.inj grown, List.mem_append, List.mem_singleton] at hb'
        obtain old | rfl := hb'
        · exact before l0 sofar b' old
        · exact (State.length_readMem e).trans (all r hr)
      · exact nofun

theorem Tens.length_row {t : Tens} {row : Nat × Nat} (h : row ∈ t.rows) : row.2 = t.rowBytes := by
  obtain ⟨i, -, rfl⟩ := List.mem_map.mp h
  rfl

section Rules
variable {s0 s : State} {keys : List Nat}

theorem State.Stores.modSeq (h : s0.Stores s keys) (lc : Nat) (f : Seq → Seq) : s0.Stores (s.modSeq lc f) keys :=
  h.framed (State.modSeq_kept (Msub.refl _) (.refl _ s)) rfl rfl

theorem State.Stores.pushRow (h : s0.Stores s keys) (lc id chip dst : Nat) (b : List Byte) : s0.Stores (s.pushRow lc id chip dst b).1 keys :=
  h.framed (State.pushRow_kept (Msub.refl _) (.refl _ s)) rfl rfl

theorem State.Stores.fetchRow (h : s0.Stores s keys) (lc id src dst n : Nat) : s0.Stores (s.fetchRow lc id src dst n).1 keys :=
  h.framed (State.fetchRow_kept (Msub.refl _) (.refl _ s)) rfl rfl

theorem State.Stores.copyRows (h : s0.Stores s keys) (lc id : Nat) {a d : Tens} (width : a.rowBytes = d.rowBytes) (sig : Option Sig)
    (named : s0.tensKeys d ⊆ keys) : s0.Stores (s.copyRows lc id a d (fun a => a) sig).s keys := by
  unfold State.copyRows
  extract_lets +onlyGivenNames ctx pairs own
  split
  · next e => exact (h.readRows _ _).fst e
  · next u bs e =>
    have read := (h.readRows _ _).fst e
    extract_lets +onlyGivenNames put
    have widths : ∀ b ∈ bs, b.length = d.rowBytes := by
      refine State.length_readRows e fun r hr => ?_
      obtain ⟨p, hp, rfl⟩ := List.mem_map.mp hr
      obtain ⟨q, hq, rfl⟩ := List.mem_map.mp (List.mem_of_mem_filter hp)
      exact (Tens.length_row (List.of_mem_zip hq).1).trans width
    have places : ∀ r ∈ put, s0.rangeKeys r.1 r.2.length ⊆ keys := by
      intro r hr k hk
      obtain ⟨p, hp, rfl⟩ := List.mem_map.mp hr
      obtain ⟨place, chunk⟩ := List.of_mem_zip hp
      obtain ⟨q, hq, same⟩ := List.mem_map.mp (List.mem_of_mem_filter place)
      rw [← same] at hk
      exact named (State.rangeKeys_row (List.of_mem_zip hq).2 (Nat.le_of_eq (widths _ chunk)) hk)
    split
    next e =>
      have wrote := (read.writeRows ctx fun r hr => places r (List.mem_of_mem_filter hr)).fst e
      split
      · exact wrote
      · split
        next e =>
          have pushed := State.Stores.fst e (State.Stores.foldl (p := (_, [])) wrote fun p x _ hp => by
            split
            next e => exact (hp.pushRow _ _ _ _ _).fst e)
          split
          next e =>
            refine State.Stores.fst e (State.Stores.foldl (p := (_, [])) pushed fun p x _ hp => ?_)
            split
            next e => exact (hp.fetchRow _ _ _ _ _).fst e

theorem State.Stores.matEffect (h : s0.Stores s keys) (lc : Nat) {r : Refs} (dst : r.dd.Formed) (use : MUse) (es : List Nat)
    (named : s0.destKeys r.dd ⊆ keys) : s0.Stores (s.matEffect lc r use es).s keys := by
  unfold State.matEffect
  extract_lets +onlyGivenNames ctx ca cb exact q d old rows nb
  split
  · next e => exact (h.readBitsOf _ _ _).fst e
  next e =>
  have a := (h.readBitsOf _ _ _).fst e
  split
  · next e => exact (a.readBits _ _).fst e
  next e =>
  have b := (a.readBits _ _).fst e
  extract_lets +onlyGivenNames aAddrs
  split
  · next e => exact (b.scalesOk _ _).fst e
  next e =>
  have sa := (b.scalesOk _ _).fst e
  extract_lets +onlyGivenNames bAddrs
  split
  · next e => exact (sa.scalesOk _ _).fst e
  next v e =>
  have sb := (sa.scalesOk _ _).fst e
  have init : ∀ {u : State} {cv : Option Arr} , (match r.c with | some c => v.readArr c ctx | none => (v, some {})) = (u, cv) → s0.Stores u keys := by
    intro u cv e
    split at e
    · exact (sb.readArr _ _).fst e
    · exact sb.fst e
  split
  · next e => exact init e
  next e =>
  have c := init e
  extract_lets +onlyGivenNames ta tb byte sa sb res trunc
  split
  · exact c
  extract_lets +onlyGivenNames inv accs
  split
  · extract_lets +onlyGivenNames closed vals
    have left : s0.Stores closed keys := by
      unfold closed
      split
      · exact c
      · exact c.modSeq _ _
    split
    next e => exact (left.writeOut dst _ _ _ named).fst e
  · dsimp only
    exact c.modSeq _ _

end Rules

/-! ### Copies (R111) -/

/-- A copy to own rows stores in them, and one to a peer's stores nothing. -/
theorem copyIssue_onlyInDest (s : State) (lc : Nat) (d : Desc) (code : Nat) (ld la : Loc) :
    s.OnlyInDest lc d (copyForm code ld la) (s.copyIssue lc d code ld la) := by
  refine State.issue_onlyInDest fun {r} u id keys dst src passed h named => ?_
  have same : r.aa.t.ext = r.dd.t.ext ∧ r.aa.fmt = r.dd.fmt := by
    unfold copyCheck at passed
    split at passed
    · exact nomatch passed
    · next ext =>
      split at passed
      · exact nomatch passed
      · next fmt => exact ⟨not_not.mp ext, not_not.mp fmt⟩
  have length : r.aa.t.e0 = r.dd.t.e0 := congrArg Prod.fst same.1
  have width : r.aa.t.rowBytes = r.dd.t.rowBytes := by rw [Tens.rowBytes, src.code, same.2, length, ← dst.code, Tens.rowBytes]
  exact h.copyRows lc id width none (tens_named named)

/-! ### Matrix descriptors (R115, R117) -/

theorem matIssue_onlyInDest (s : State) (lc : Nat) (d : Desc) (acc : Bool) : s.OnlyInDest lc d (d.matForm acc) (s.matIssue lc d acc) := by
  unfold State.matIssue
  extract_lets +onlyGivenNames w win ck cont src f
  refine State.issue_onlyInDest fun u id keys dst _ _ h named => ?_
  split
  · exact h
  · exact h.matEffect lc dst _ _ named

/-! ### The obligation -/

/-- Settles O59: every descriptor reads, then writes the rows of its result; a write of rows stores at their keys only. -/
theorem descriptorsStoreOnlyInTheirDestination : Obligations.DescriptorsStoreOnlyInTheirDestination := by
  unfold Obligations.DescriptorsStoreOnlyInTheirDestination
  intro own lc d
  have of : ∀ {f : Form} {c : Instr} {g : State → State}, (∀ s, exec c s = .next (g s)) → (∀ s : State, s.OnlyInDest lc d f (g s)) → own lc d f c := by
    intro f c g meaning only s t run
    obtain rfl := Host.Outcome.next.inj ((meaning s).symm.trans run)
    exact only s
  exact ⟨of (fun _ => rfl) fun s => copyIssue_onlyInDest s lc d _ _ _, of (fun _ => rfl) fun s => copyIssue_onlyInDest s lc d _ _ _,
    of (fun _ => rfl) fun s => copyIssue_onlyInDest s lc d _ _ _, fun s t => exec_transpose_onlyInDest s lc d,
    fun s t => exec_gather_onlyInDest s lc d, fun s t => exec_scatterAdd_onlyInDest s lc d, of (fun _ => rfl) fun s => convIssue_onlyInDest s lc d _,
    of (fun _ => rfl) fun s => convIssue_onlyInDest s lc d _, fun s t => exec_fill_onlyInDest s lc d,
    of (fun _ => rfl) fun s => matIssue_onlyInDest s lc d _, of (fun _ => rfl) fun s => matIssue_onlyInDest s lc d _,
    fun p hp s t => vec_onlyInDest (isVec_unary hp), fun p hp s t => vec_onlyInDest (isVec_binary hp), fun s t => vec_onlyInDest (isVec_fma lc d),
    fun p hp s t => vec_onlyInDest (isVec_rowred hp), fun s t => exec_rowredArgmax_onlyInDest s lc d,
    fun s t => vec_onlyInDest (isVec_softmax lc d), fun p hp s t => vec_onlyInDest (isVec_norm hp)⟩

end Sys2Proof.Machine
end

section
/-! What only grows (R167, R481, R493). -/
namespace Sys2Proof.Machine
-- With this option Lean elaborates the proofs in turn, in fewer threads than the check's memory limit allows for.
set_option deprecated.oldSectionVars true

/-- A step keeps what every command keeps: it idles, or runs the first command of the queue. -/
theorem step_grows {s t : State} (h : step s = .next t) : State.Grows s t := by
  unfold step at h
  split at h
  case h_1 =>
    cases h
    exact .refl s
  case h_2 c rest _ =>
    obtain ⟨out, fresh, flash⟩ := (exec_kept c { s with pending := rest } t h).grows
    exact ⟨out, fresh, flash⟩

/-- Settles O57: no command loses what only grows, and to take one from the queue touches none of it. -/
theorem stepLosesNothingThatOnlyGrows : Obligations.StepLosesNothingThatOnlyGrows := by
  unfold Obligations.StepLosesNothingThatOnlyGrows
  exact fun _ _ => step_grows

end Sys2Proof.Machine
end

section
/-! SUPPORT. What the counts of a channel leave of a memory controller's page and of its stack (R170, R181). -/
namespace Sys2Proof.Machine
-- With this option Lean elaborates the proofs in turn, in fewer threads than the check's memory limit allows for.
set_option deprecated.oldSectionVars true

/-! ### Fields of a memory controller's page -/

theorem Kept.fld_mc {M : Nat} {s t : State} (h : Kept M s t) (k : Nat) (f : Fld) (b : Nat) (hm : M.testBit 34 = false) :
    t.fld (.mc k) f b = s.fld (.mc k) f b := h.fld (.mc k) f b hm

theorem State.event_mc (s : State) (code source : Nat) (items : List Item) (k : Nat) (f : Fld) (b : Nat) :
    (s.event code source items).fld (.mc k) f b = s.fld (.mc k) f b :=
  (State.event_kept (Msub.refl _) (.refl _ s)).fld_mc k f b rfl

/-- The registers that count what the reads of a channel find: CH_CE_CNT, CH_DUE_CNT and CH_CE_PERIOD. -/
def channelCounts : List Nat := [0x118, 0x11C, 0x120]

theorem State.bumpBy_mc_ne (s : State) (k n ch : Nat) {g : Fld} (count : g.off ∈ channelCounts) (k' : Nat) {f : Fld} (b : Nat) (inside : f.off < 4096)
    (other : f.off ∉ channelCounts) : (s.bumpBy (.mc k) g n ch).fld (.mc k') f b = s.fld (.mc k') f b := by
  have low : ∀ o ∈ channelCounts, o < 4096 := by decide
  exact State.fld_setFld_ne _ _ _ _ _ _ _ _ (regKey_mc_ne (low _ count) inside (ne_of_mem_of_not_mem count other).symm)

section Counts
variable (s : State) (k ch : Nat) (k' : Nat) {f : Fld} (b : Nat) (inside : f.off < 4096) (other : f.off ∉ channelCounts)
include inside other

theorem State.countCe_mc (n : Nat) : (s.countCe k ch n).fld (.mc k') f b = s.fld (.mc k') f b := by
  have counted : ((s.bumpBy (.mc k) Mc.CH_CE_CNT n ch).bumpBy (.mc k) Mc.CH_CE_PERIOD n ch).fld (.mc k') f b = s.fld (.mc k') f b := by
    rw [State.bumpBy_mc_ne _ _ _ _ (by decide) _ _ inside other, State.bumpBy_mc_ne _ _ _ _ (by decide) _ _ inside other]
  unfold State.countCe
  extract_lets t x
  split
  · rw [State.event_mc, State.setStk_fld]
    exact counted
  · exact counted

theorem State.countDue_mc : (s.countDue k ch).fld (.mc k') f b = s.fld (.mc k') f b := by
  have counted : (s.bump (.mc k) Mc.CH_DUE_CNT ch).fld (.mc k') f b = s.fld (.mc k') f b :=
    State.bumpBy_mc_ne _ _ _ _ (by decide) _ _ inside other
  unfold State.countDue
  extract_lets t x
  split
  · rw [State.event_mc, State.setStk_fld]
    exact counted
  · exact counted

theorem State.innerCount_mc (l : Nat) (x : InnerLine) (old : List Nat) : (s.innerCount k l x old).fld (.mc k') f b = s.fld (.mc k') f b := by
  unfold State.innerCount
  extract_lets c t
  have fixed : t.fld (.mc k') f b = s.fld (.mc k') f b := by
    unfold t
    split
    · rfl
    · exact s.countCe_mc _ _ _ _ inside other _
  exact State.each_keeps (I := fun u => u.fld (.mc k') f b = s.fld (.mc k') f b)
    (fun _ _ u hu => (u.countDue_mc _ _ _ _ inside other).trans hu) fixed

theorem State.scrubSector_mc (l : Nat) : (s.scrubSector k l).fld (.mc k') f b = s.fld (.mc k') f b :=
  (State.event_mc _ _ _ _ _ _ _).trans (s.countDue_mc _ _ _ _ inside other)

end Counts

/-! ### The record of a stack -/

theorem State.stk_setStk (s : State) (k : Nat) (x : Stack) : (s.setStk k x).stk k = x := smGet_smSet_same _ _ _ _

theorem State.stk_congr {s t : State} (h : t.stks = s.stks) (k : Nat) : t.stk k = s.stk k := by rw [State.stk, h, State.stk]

theorem Kept.stk {M : Nat} {s t : State} (h : Kept M s t) (k : Nat) (hm : M.testBit 83 = false) : t.stk k = s.stk k :=
  State.stk_congr (h.agree .stks hm) k

/-- The record without the channels that have been reported (R183). -/
def Stack.unreported (x : Stack) : Stack := { x with degCe := [], degDue := [] }

section Records
variable (s : State) (k ch : Nat)

theorem State.event_stk (code source : Nat) (items : List Item) : (s.event code source items).stk k = s.stk k :=
  (State.event_kept (Msub.refl _) (.refl _ s)).stk k rfl

theorem State.countCe_stk (n : Nat) : ((s.countCe k ch n).stk k).unreported = (s.stk k).unreported := by
  have counted : ((s.bumpBy (.mc k) Mc.CH_CE_CNT n ch).bumpBy (.mc k) Mc.CH_CE_PERIOD n ch).stk k = s.stk k :=
    State.stk_congr ((State.bumpBy_stks _ _ _ _ _).trans (State.bumpBy_stks _ _ _ _ _)) k
  unfold State.countCe
  extract_lets t x
  split
  · rw [State.event_stk, State.stk_setStk]
    exact (show _ = (t.stk k).unreported from rfl).trans (congrArg Stack.unreported counted)
  · exact congrArg Stack.unreported counted

theorem State.countDue_stk : ((s.countDue k ch).stk k).unreported = (s.stk k).unreported := by
  have counted : (s.bump (.mc k) Mc.CH_DUE_CNT ch).stk k = s.stk k := State.stk_congr (State.bump_stks _ _ _ _) k
  unfold State.countDue
  extract_lets t x
  split
  · rw [State.event_stk, State.stk_setStk]
    exact (show _ = (t.stk k).unreported from rfl).trans (congrArg Stack.unreported counted)
  · exact congrArg Stack.unreported counted

theorem State.scrubSector_stk (l : Nat) : ((s.scrubSector k l).stk k).unreported = (s.stk k).unreported := by
  rw [State.scrubSector, State.event_stk, State.countDue_stk]

end Records

end Sys2Proof.Machine
end

section
/-! SUPPORT. A read of a line through its codes (R169–R171, R174, R180): what it finds where no symbol is in error, how it ends, and what it counts. -/
namespace Sys2Proof.Machine
-- With this option Lean elaborates the proofs in turn, in fewer threads than the check's memory limit allows for.
set_option deprecated.oldSectionVars true

/-! ### The inner code -/

theorem innerWord_clean (w : Nat) (d : List Nat) : innerWord [] w d = some (d, false) := rfl

/-- What the base die delivers of a line that it receives without an error. -/
def State.cleanLine (s : State) (k l : Nat) : InnerLine := { data := s.bytes (edKey k (l / 64 * 64)) 64, md := s.lineMeta k (l / 64 * 64) }

theorem State.innerRead_clean (s : State) (k l : Nat) : s.innerRead k l [] = (s, s.cleanLine k l) := by
  simp [State.innerRead, innerWord_clean, State.cleanLine, bool01]

theorem State.innerCount_clean (s u : State) (k l k' l' : Nat) (old : List Nat) : s.innerCount k l (u.cleanLine k' l') old = s := rfl

/-- A line that has been written passes as it stands, or fails as it stands. -/
theorem State.cleanLine_good {s : State} {k l : Nat} (written : (s.lineMeta k (l / 64 * 64)).unwritten = false) :
    (s.cleanLine k l).good k l = !s.lineFails k (l / 64 * 64) := by
  simp [InnerLine.good, State.cleanLine, State.lineFails, written, bne]

theorem State.lineFails_written {s : State} {k l : Nat} (fails : s.lineFails k l = true) : (s.lineMeta k l).unwritten = false := by
  simp only [State.lineFails, Bool.and_eq_true, Bool.not_eq_true'] at fails
  exact fails.1

/-! ### How a read ends (R174, R180) -/

section Outcomes
variable {s : State} {k l : Nat} (ctx : Option (Nat × Nat))

theorem State.readLine_clean_unwritten (unwritten : (s.lineMeta k (l / 64 * 64)).unwritten = true) :
    s.readLine k l ctx {} = (s.readUnwritten k l ctx, .err) := by
  simp [State.readLine, State.innerRead_clean, State.innerCount_clean, show (s.cleanLine k l).md.unwritten = true from unwritten]

theorem State.readLine_clean_passes (written : (s.lineMeta k (l / 64 * 64)).unwritten = false) (passes : s.lineFails k (l / 64 * 64) = false) :
    s.readLine k l ctx {} = (s, .ok (s.bytes (edKey k (l / 64 * 64)) 64)) := by
  have good : (s.cleanLine k l).good k l = true := by rw [State.cleanLine_good written, passes]; rfl
  simp [State.readLine, State.innerRead_clean, State.innerCount_clean, show (s.cleanLine k l).md.unwritten = false from written, good]
  rfl

/-- A line that fails as it stands, and that no recompute restores, ends in a bus error. -/
theorem State.readLine_clean_fails (fails : s.lineFails k (l / 64 * 64) = true) (lost : (s.lineMeta k (l / 64 * 64)).rc = false) :
    ∃ kind, s.readLine k l ctx {} = (s.lineBusError k l kind ctx, .err) := by
  have written := State.lineFails_written fails
  have bad : (s.cleanLine k l).good k l = false := by rw [State.cleanLine_good written, fails]; rfl
  refine ⟨if (s.lineMeta k (l / 64 * 64)).poison then 4 else 1, ?_⟩
  have unmarked : (s.cleanLine k l).md.unwritten = false := written
  have fixedOnly : (s.cleanLine k l).md.rc = false := lost
  by_cases p : (s.cleanLine k l).md.poison = true
  · simp [State.readLine, State.innerRead_clean, State.innerCount_clean, unmarked, bad, p, fixedOnly, show (s.lineMeta k (l / 64 * 64)).poison = true from p]
  · simp [State.readLine, State.innerRead_clean, State.innerCount_clean, unmarked, bad, p, fixedOnly, show ¬ (s.lineMeta k (l / 64 * 64)).poison = true from p]

/-- The first read fails, and the refetch is good. -/
theorem State.readLine_refetched {o : ReadObs} {x y : InnerLine} {s1 s2 t u : State} (first : s.innerRead k l o.first = (t, x))
    (counted : t.innerCount k l x [] = s1) (again : s1.innerRead k l o.again = (s2, y)) (recounted : s2.innerCount k l y x.due = u)
    (written : x.md.unwritten = false) (unmarked : x.md.poison = false) (bad : x.good k l = false) (good : y.good k l = true) :
    s.readLine k l ctx o = ((u.bump (.mc k) Mc.OUT_TRANSIENT_CNT).event 0x2104 (srcStack k) (u.memItems k l ctx), .ok y.data) := by
  simp [State.readLine, first, counted, again, recounted, written, unmarked, bad, good]

end Outcomes

/-! ### What it counts -/

section Counts
variable (s : State) (k l : Nat) (ctx : Option (Nat × Nat))

/-- The counters of a memory controller stand before LAST_ERR. -/
theorem State.lastErr_mc (kind k' : Nat) {f : Fld} (b : Nat) (before : f.off < 0x134) : (s.lastErr k l kind ctx).fld (.mc k') f b = s.fld (.mc k') f b := by
  have other : ∀ (u : State) (o v : Nat), o < 4096 → 0x134 ≤ o → (u.setFld (.mc k) ⟨o, 31, 0⟩ v).fld (.mc k') f b = u.fld (.mc k') f b :=
    fun u o v low behind => u.fld_setFld_ne _ _ _ _ _ _ _ (regKey_mc_ne low (by omega) (Nat.ne_of_lt (Nat.lt_of_lt_of_le before behind)))
  simp only [State.lastErr, State.setFld64, Mc.LAST_ERR_INFO, Mc.LAST_ERR_ADDR_LO]
  rw [other _ _ _ (by decide) (by decide), other _ _ _ (by decide) (by decide), other _ _ _ (by decide) (by decide)]

theorem State.lineBusError_counts (kind : Nat) :
    (s.lineBusError k l kind ctx).fld (.mc k) Mc.OUT_BUSERR_CNT = min (s.fld (.mc k) Mc.OUT_BUSERR_CNT + 1) (2 ^ 32 - 1) := by
  rw [State.lineBusError, State.event_mc, State.lastErr_mc _ _ _ _ _ _ _ (by decide)]
  exact s.fld_bump_same (.mc k) 0x12c 0

theorem State.readUnwritten_counts :
    (s.readUnwritten k l ctx).fld (.mc k) Mc.UNWRITTEN_CNT = min (s.fld (.mc k) Mc.UNWRITTEN_CNT + 1) (2 ^ 32 - 1) := by
  rw [State.readUnwritten, State.event_mc, State.lastErr_mc _ _ _ _ _ _ _ (by decide)]
  exact s.fld_bump_same (.mc k) 0x130 0

theorem State.lineBusError_stored (kind : Nat) : (s.lineBusError k l kind ctx).mem = s.mem ∧ (s.lineBusError k l kind ctx).lines = s.lines :=
  have frame := State.lineBusError_kept (p1 := k) (p2 := l) (p3 := kind) (p4 := ctx) (Msub.refl _) (.refl _ s)
  ⟨frame.mem rfl, frame.lines rfl⟩

theorem State.readUnwritten_mem : (s.readUnwritten k l ctx).mem = s.mem := (State.readUnwritten_kept (Msub.refl _) (.refl _ s)).mem rfl

theorem State.innerRead_mc (fl : List SymErr) (k' : Nat) (f : Fld) (b : Nat) : (s.innerRead k l fl).1.fld (.mc k') f b = s.fld (.mc k') f b :=
  (State.innerRead_kept (Msub.refl _) (.refl _ s)).fld_mc k' f b rfl

end Counts

end Sys2Proof.Machine
end

section
/-! Map-out, recompute regions and patrol scrub (R166, R167, R177, R181, R182). -/
namespace Sys2Proof.Machine
-- With this option Lean elaborates the proofs in turn, in fewer threads than the check's memory limit allows for.
set_option deprecated.oldSectionVars true

/-! ### The fields of MC_STATUS and SCRUB_CTRL -/

/-- A field behind or before the one that is written, in the same register of a page. -/
theorem State.fld_setFld_beside (s : State) (pg : Page) (off hi lo hi' lo' v : Nat) (fits : lo ≤ hi ∧ hi < 32) (apart : hi' < lo ∨ hi < lo') :
    (s.setFld pg ⟨off, hi, lo⟩ v).fld pg ⟨off, hi', lo'⟩ = s.fld pg ⟨off, hi', lo'⟩ :=
  s.fld_setFld_disj pg ⟨off, hi, lo⟩ ⟨off, hi', lo'⟩ v 0 fits rfl apart

/-- A field of another register of the page. -/
theorem State.fld_setFld_apart (s : State) (pg : Page) {f g : Fld} (v : Nat) (h : g.off ≠ f.off) : (s.setFld pg f v).fld pg g = s.fld pg g :=
  s.fld_setFld_ne _ _ _ _ _ _ _ (regKey_ne_of_off h)

theorem State.fld_congr {s t : State} (h : t.regs = s.regs) (pg : Page) (f : Fld) (b : Nat) : t.fld pg f b = s.fld pg f b := by
  simp only [State.fld, State.reg, h]

theorem State.touch_fld (s : State) (pg pg' : Page) (f : Fld) (b : Nat) : (s.touch pg).fld pg' f b = s.fld pg' f b := rfl

/-! ### Map-out (R166, R167) -/

/-- The map-out of channel `ch` has begun; the memory above 93 GiB is still there. -/
def State.mapoutOpened (s : State) (k ch : Nat) : State :=
  ((((s.setFld (.mc k) Mc.MAPOUT_CTRL_CH ch).setFld (.mc k) Mc.MC_STATUS_MAPOUT_STATE 1).setFld (.mc k) Mc.MC_STATUS_MAPOUT_CH ch).setFld (.mc k)
    Mc.MAPOUT_WMARK 0).event 0x2110 (srcStack k) [(1, k), (1, ch)]

theorem State.mapoutCtrl_go {s : State} {k : Nat} {v : Word} (go : bitAt v.toNat 8 = true) (free : s.fld (.mc k) Mc.MC_STATUS_MAPOUT_STATE = 0)
    (ready : s.flag (.mc k) Mc.MC_STATUS_READY = true) : s.mapoutCtrl k v = (s.mapoutOpened k (v.toNat % 32)).dropTop k := by
  have free' : (s.setFld (.mc k) Mc.MAPOUT_CTRL_CH (v.toNat % 32)).fld (.mc k) Mc.MC_STATUS_MAPOUT_STATE = 0 :=
    (s.fld_setFld_apart (.mc k) _ (by decide)).trans free
  have ready' : (s.setFld (.mc k) Mc.MAPOUT_CTRL_CH (v.toNat % 32)).flag (.mc k) Mc.MC_STATUS_READY = true := by
    rw [State.flag, s.fld_setFld_apart (.mc k) _ (by decide)]
    exact ready
  simp [State.mapoutCtrl, go, free', ready', State.mapoutOpened]

theorem State.dropTop_fld (s : State) (k : Nat) (pg : Page) (f : Fld) (b : Nat) : (s.dropTop k).fld pg f b = s.fld pg f b := rfl

theorem State.mapoutOpened_state (s : State) (k ch : Nat) : (s.mapoutOpened k ch).fld (.mc k) Mc.MC_STATUS_MAPOUT_STATE = 1 := by
  rw [State.mapoutOpened, State.event_mc, State.fld_setFld_apart _ _ _ (by decide)]
  exact (State.fld_setFld_beside _ (.mc k) 0x100 7 3 2 1 ch (by decide) (by decide)).trans (State.fld_setFld_same _ _ _ _ _ ⟨by decide, by decide⟩)

theorem State.mapoutOpened_channel (s : State) (k : Nat) {ch : Nat} (h : ch < 32) : (s.mapoutOpened k ch).fld (.mc k) Mc.MC_STATUS_MAPOUT_CH = ch := by
  rw [State.mapoutOpened, State.event_mc, State.fld_setFld_apart _ _ _ (by decide), State.fld_setFld_same _ _ _ _ _ ⟨by decide, by decide⟩]
  exact Nat.mod_eq_of_lt h

theorem State.mapoutOpened_watermark (s : State) (k ch : Nat) : (s.mapoutOpened k ch).fld (.mc k) Mc.MAPOUT_WMARK = 0 := by
  rw [State.mapoutOpened, State.event_mc, State.fld_setFld_same _ _ _ _ _ ⟨by decide, by decide⟩]
  rfl

theorem State.capOf_mapped {s : State} {k : Nat} (h : s.fld (.mc k) Mc.MC_STATUS_MAPOUT_STATE ≠ 0) : s.capOf k = 93 * gib := by
  rw [State.capOf, if_neg h]

/-- What lies above the capacity that is left is lost. -/
theorem State.dropTop_byte (s : State) (k : Nat) {a : Nat} (above : 93 * gib ≤ a) (inside : a < 2 ^ 37) : (s.dropTop k).byte (edKey k a) = 0 := by
  refine smGet_filter_false _ _ _ _ fun _ => ?_
  have low : edKey k (93 * gib) ≤ edKey k a := Nat.add_le_add_left above _
  have high : edKey k a < edKey (k + 1) 0 := by simp only [edKey]; omega
  simp [low, high]

theorem mapoutGo_starts {s : State} {m : Master} {k : Nat} {v : Word} (hm : s.MayWrite m (.mc k)) (go : bitAt v.toNat 8 = true)
    (free : s.fld (.mc k) Mc.MC_STATUS_MAPOUT_STATE = 0) (ready : s.flag (.mc k) Mc.MC_STATUS_READY = true) :
    ∃ t, exec (.mapoutGo m k v) s = .next t ∧ t.fld (.mc k) Mc.MC_STATUS_MAPOUT_STATE = 1 ∧ t.fld (.mc k) Mc.MC_STATUS_MAPOUT_CH = v.toNat % 32 ∧
      t.capOf k = 93 * gib ∧ t.fld (.mc k) Mc.MAPOUT_WMARK = 0 ∧ ∀ a, 93 * gib ≤ a → a < 2 ^ 37 → t.byte (edKey k a) = 0 := by
  have run : exec (.mapoutGo m k v) s = .next (((s.touch (.mc k)).mapoutOpened k (v.toNat % 32)).dropTop k) := by
    simp only [exec, execMapoutGo, State.gated_held _ hm, State.mapoutCtrl_go (s := s.touch (.mc k)) go free ready]
  have state := (s.touch (.mc k)).mapoutOpened_state k (v.toNat % 32)
  refine ⟨_, run, ?state, ?channel, State.capOf_mapped ?mapped, ?watermark, fun a => State.dropTop_byte _ _⟩
  case state => rw [State.dropTop_fld, state]
  case channel => rw [State.dropTop_fld, State.mapoutOpened_channel _ _ (Nat.mod_lt _ (by decide))]
  case mapped =>
    rw [State.dropTop_fld, state]
    decide
  case watermark => rw [State.dropTop_fld, State.mapoutOpened_watermark]

/-- The lines of a granule with an uncorrectable sector are poisoned. -/
def State.granuleMarked (s : State) (k l : Nat) (bad0 bad1 : Bool) : State :=
  (s.whenB bad0 (fun s => s.poisonLine k l)).whenB bad1 (fun s => s.poisonLine k (l + 64))

theorem State.granuleMarked_leaves (s : State) (k l : Nat) (bad0 bad1 : Bool) :
    (s.granuleMarked k l bad0 bad1).mem = s.mem ∧ (s.granuleMarked k l bad0 bad1).flash = s.flash ∧ (s.granuleMarked k l bad0 bad1).regs = s.regs := by
  cases bad0 <;> cases bad1 <;> exact ⟨rfl, rfl, rfl⟩

theorem State.granuleMarked_poison (s : State) (k l : Nat) (bad1 : Bool) : ((s.granuleMarked k l true bad1).lineMeta k l).poison = true := by
  have first : ((s.poisonLine k l).lineMeta k l).poison = true := by
    simp only [State.lineMeta, State.poisonLine, tGet, tSet, smGet_smSet_same]
  cases bad1 with
  | false => exact first
  | true =>
    have apart : lineKey k l ≠ lineKey k (l + 64) := by simp only [lineKey]; omega
    have kept : ((s.poisonLine k l).poisonLine k (l + 64)).lineMeta k l = (s.poisonLine k l).lineMeta k l := smGet_smSet_ne _ _ _ _ _ apart
    exact (congrArg LineMeta.poison kept).trans first

/-- The granule at the watermark has been copied. -/
def State.granuleDone (s : State) (k : Nat) (bad0 bad1 : Bool) : State :=
  let r := s.fld (.mc k) (Mc.MAPOUT_WMARK.sub 24 0)
  (s.granuleMarked k ((32 * r + s.fld (.mc k) Mc.MC_STATUS_MAPOUT_CH) * 128) bad0 bad1).setFld (.mc k) (Mc.MAPOUT_WMARK.sub 24 0) (r + 1)

/-- The map-out has ended (R167). -/
def State.mapoutEnded (s : State) (k x : Nat) : State :=
  (((s.setFld (.mc k) Mc.MC_STATUS_MAPOUT_STATE 2).setFld (.mc k) Mc.MC_STATUS_CAP_GIB 93).repairNote k x).event 0x2111 (srcStack k) [(1, k), (1, x)]

theorem exec_mapoutGranuleCopy {s : State} {k : Nat} (bad0 bad1 : Bool) (running : s.fld (.mc k) Mc.MC_STATUS_MAPOUT_STATE = 1) :
    exec (.mapoutGranuleCopy k bad0 bad1) s = .next (if s.fld (.mc k) (Mc.MAPOUT_WMARK.sub 24 0) + 1 = rPrime
      then (s.granuleDone k bad0 bad1).mapoutEnded k (s.fld (.mc k) Mc.MC_STATUS_MAPOUT_CH) else s.granuleDone k bad0 bad1) := by
  simp only [exec, execMapoutGranuleCopy, running, ne_eq, not_true_eq_false, if_false]
  rfl

theorem State.granuleDone_poison (s : State) (k : Nat) (bad1 : Bool) : ((s.granuleDone k true bad1).lineMeta k
    ((32 * s.fld (.mc k) (Mc.MAPOUT_WMARK.sub 24 0) + s.fld (.mc k) Mc.MC_STATUS_MAPOUT_CH) * 128)).poison = true := by
  rw [State.granuleDone, State.lineMeta, State.setFld_lines]
  exact s.granuleMarked_poison k _ bad1

theorem State.granuleDone_leaves (s : State) (k : Nat) (bad0 bad1 : Bool) : (s.granuleDone k bad0 bad1).mem = s.mem ∧
    (s.granuleDone k bad0 bad1).flash = s.flash ∧
    (s.granuleDone k bad0 bad1).fld (.mc k) Mc.MC_STATUS_MAPOUT_STATE = s.fld (.mc k) Mc.MC_STATUS_MAPOUT_STATE := by
  obtain ⟨mem, flash, regs⟩ := s.granuleMarked_leaves k ((32 * s.fld (.mc k) (Mc.MAPOUT_WMARK.sub 24 0) + s.fld (.mc k) Mc.MC_STATUS_MAPOUT_CH) * 128) bad0 bad1
  refine ⟨(State.setFld_mem _ _ _ _ _).trans mem, (State.setFld_flash _ _ _ _ _).trans flash, ?_⟩
  rw [State.granuleDone, State.fld_setFld_apart _ _ _ (by decide), State.fld_congr regs]

theorem State.granuleDone_watermark (s : State) (k : Nat) (bad0 bad1 : Bool) (more : s.fld (.mc k) (Mc.MAPOUT_WMARK.sub 24 0) + 1 < 24379392) :
    (s.granuleDone k bad0 bad1).fld (.mc k) (Mc.MAPOUT_WMARK.sub 24 0) = s.fld (.mc k) (Mc.MAPOUT_WMARK.sub 24 0) + 1 := by
  rw [State.granuleDone, State.fld_setFld_same _ _ _ _ _ ⟨by decide, by decide⟩]
  exact Nat.mod_eq_of_lt (Nat.lt_trans more (by decide))

theorem State.mapoutEnded_shows (s : State) (k x : Nat) : (s.mapoutEnded k x).fld (.mc k) Mc.MC_STATUS_MAPOUT_STATE = 2 ∧
    (s.mapoutEnded k x).fld (.mc k) Mc.MC_STATUS_CAP_GIB = 93 := by
  have noted : ∀ (u : State) (f : Fld), (u.repairNote k x).fld (.mc k) f = u.fld (.mc k) f := fun _ _ => rfl
  constructor
  · rw [State.mapoutEnded, State.event_mc, noted]
    exact (State.fld_setFld_beside _ (.mc k) 0x100 14 8 2 1 93 (by decide) (by decide)).trans (State.fld_setFld_same _ _ _ _ _ ⟨by decide, by decide⟩)
  · rw [State.mapoutEnded, State.event_mc, noted, State.fld_setFld_same _ _ _ _ _ ⟨by decide, by decide⟩]
    rfl

theorem State.mapoutEnded_stored (s : State) (k x : Nat) : (s.mapoutEnded k x).mem = s.mem ∧ (s.mapoutEnded k x).lines = s.lines ∧
    smGet (fun _ => 0) (s.mapoutEnded k x).flash.repair k = x + 1 := by
  have frame := fun u : State => State.event_kept (p1 := 0x2111) (p2 := srcStack k) (p3 := [(1, k), (1, x)]) (p4 := false) (Msub.refl _) (.refl _ u)
  have kept : ∀ u : State, (u.event 0x2111 (srcStack k) [(1, k), (1, x)]).flash = u.flash := fun u => (frame u).agree .flash rfl
  have noted : ∀ u : State, (u.repairNote k x).mem = u.mem ∧ (u.repairNote k x).lines = u.lines ∧
      (u.repairNote k x).flash.repair = smSet (fun _ => 0) u.flash.repair k (x + 1) := fun _ => ⟨rfl, rfl, rfl⟩
  unfold State.mapoutEnded
  rw [(frame _).mem rfl, (frame _).lines rfl, kept, (noted _).1, (noted _).2.1, (noted _).2.2, smGet_smSet_same]
  simp only [State.setFld_mem, State.setFld_lines, and_self]

theorem mapoutGranuleCopy_copies {s : State} {k : Nat} (bad0 bad1 : Bool) (running : s.fld (.mc k) Mc.MC_STATUS_MAPOUT_STATE = 1) :
    let r := s.fld (.mc k) (Mc.MAPOUT_WMARK.sub 24 0)
    let x := s.fld (.mc k) Mc.MC_STATUS_MAPOUT_CH
    ∃ t, exec (.mapoutGranuleCopy k bad0 bad1) s = .next t ∧ t.mem = s.mem ∧
      (r + 1 < 24379392 → t.fld (.mc k) (Mc.MAPOUT_WMARK.sub 24 0) = r + 1 ∧ t.fld (.mc k) Mc.MC_STATUS_MAPOUT_STATE = 1 ∧ t.flash = s.flash) ∧
      (r + 1 = 24379392 → t.fld (.mc k) Mc.MC_STATUS_MAPOUT_STATE = 2 ∧ t.fld (.mc k) Mc.MC_STATUS_CAP_GIB = 93 ∧
        smGet (fun _ => 0) t.flash.repair k = x + 1) ∧
      (bad0 = true → (t.lineMeta k ((32 * r + x) * 128)).poison = true) := by
  intro r x
  obtain ⟨mem, flash, state⟩ := s.granuleDone_leaves k bad0 bad1
  have marked : bad0 = true → ((s.granuleDone k bad0 bad1).lineMeta k ((32 * r + x) * 128)).poison = true := by
    rintro rfl
    exact s.granuleDone_poison k bad1
  refine ⟨_, exec_mapoutGranuleCopy bad0 bad1 running, ?_⟩
  split
  · next last =>
    obtain ⟨mem', lines, repair⟩ := (s.granuleDone k bad0 bad1).mapoutEnded_stored k x
    obtain ⟨ended, size⟩ := (s.granuleDone k bad0 bad1).mapoutEnded_shows k x
    refine ⟨mem'.trans mem, fun more => absurd last (Nat.ne_of_lt more), fun _ => ⟨ended, size, repair⟩, fun bad => ?_⟩
    rw [State.lineMeta, lines]
    exact marked bad
  · next more =>
    exact ⟨mem, fun h => ⟨s.granuleDone_watermark k bad0 bad1 h, state.trans running, flash⟩, fun h => absurd h more, marked⟩

/-! ### Recompute regions (R177) -/

/-- A register behind the header of a page other than GLB is none of those that an error bit writes. -/
theorem regKey_not_mem_errKeys {pg : Page} (hk : pg.kind ≠ Page.glb.kind) {off : Nat} (ho : 0x100 ≤ off) : regKey pg off 0 ∉ errKeys pg := by
  have header : ∀ o < 0x100, regKey pg off 0 ≠ regKey pg o 0 := fun o low => regKey_ne_of_off (by omega)
  simp only [errKeys, List.mem_cons, List.not_mem_nil, or_false, not_or]
  exact ⟨header _ (by decide), header _ (by decide), header _ (by decide), regKey_ne_of_kind hk⟩

theorem State.setErr_fld (s : State) {pg : Page} (n : Nat) (hk : pg.kind ≠ Page.glb.kind) {f : Fld} (ho : 0x100 ≤ f.off) :
    (s.setErr pg n).fld pg f = s.fld pg f := by
  simp only [State.fld, State.setErr_reg_ne _ _ _ (regKey_not_mem_errKeys hk ho)]

theorem State.touch_rcValid (s : State) (pg : Page) (k n : Nat) : (s.touch pg).rcValid k n = s.rcValid k n := by
  simp only [State.rcValid, State.rcInWindow, State.rcBase, State.rcSize, State.ilOf, State.capOf, State.fld64, State.flag, State.chip, State.touch_fld]
  rfl

theorem State.rcrCtrl_valid {s : State} {k n : Nat} {v : Word} (en : bitAt v.toNat 0 = true)
    (unsealed : (s.sealOf (s.ctxPart (s.fld (.mc k) ((Mc.RCR_CTX n).sub 12 0)))).closed = false) (valid : s.rcValid k n = true) :
    (s.rcrCtrl k n v).flag (.mc k) (Mc.RCR_CTRL_EN n) = true := by
  have set : s.rcrCtrl k n v = s.setFld (.mc k) (Mc.RCR_CTRL_EN n) 1 := by simp [State.rcrCtrl, en, unsealed, valid]
  rw [set, State.flag, State.fld_setFld_same _ _ _ _ _ ⟨Nat.zero_le 0, Nat.zero_lt_succ 31⟩]
  rfl

theorem State.rcrCtrl_invalid {s : State} {k n : Nat} {v : Word} (en : bitAt v.toNat 0 = true)
    (unsealed : (s.sealOf (s.ctxPart (s.fld (.mc k) ((Mc.RCR_CTX n).sub 12 0)))).closed = false) (invalid : s.rcValid k n = false) :
    (s.rcrCtrl k n v).flag (.mc k) (Mc.RCR_CTRL_EN n) = false ∧ bitAt ((s.rcrCtrl k n v).fld (.mc k) Hd.ERR_STAT) 1 = true := by
  have refused : s.rcrCtrl k n v = (s.setFld (.mc k) (Mc.RCR_CTRL_EN n) 0).setErr (.mc k) 1 := by simp [State.rcrCtrl, en, unsealed, invalid]
  have behind : 0x100 ≤ (Mc.RCR_CTRL_EN n).off := Nat.le_trans (by decide) (Nat.le_add_right 0x140 (32 * n))
  rw [refused]
  refine ⟨?_, State.setErr_sets _ _ (by decide)⟩
  rw [State.flag, State.setErr_fld _ _ (by simp [Page.kind]) behind, State.fld_setFld_same _ _ _ _ _ ⟨Nat.zero_le 0, Nat.zero_lt_succ 31⟩]
  rfl

theorem exec_rcrEn {s : State} {m : Master} {k : Nat} (n : Nat) (v : Word) (hm : s.MayWrite m (.mc k)) :
    exec (.rcrEn m k n v) s = .next ((s.touch (.mc k)).rcrCtrl k n v) := by
  simp only [exec, execRcrEn, State.gated_held _ hm]

/-! ### Patrol scrub (R181, R182) -/

/-- The corrections that a scrub found on a line are counted (R181). -/
def State.scrubFixed (s : State) (k l : Nat) (x : InnerLine) : State := if x.fixed = 0 then s else s.countCe k (s.channelSlot k l).1 x.fixed

theorem State.scrubRead_eq (s : State) (k l : Nat) (fl : List SymErr) : s.scrubRead k l fl =
    (((s.innerRead k l fl).1.scrubFixed k l (s.innerRead k l fl).2).each (s.innerRead k l fl).2.due (fun j s => s.scrubSector k (l / 64 * 64 + 32 * j)),
      (s.innerRead k l fl).2) := rfl

theorem State.scrubFixed_mc (s : State) (k l : Nat) (x : InnerLine) (k' : Nat) {f : Fld} (b : Nat) (inside : f.off < 4096)
    (other : f.off ∉ channelCounts) : (s.scrubFixed k l x).fld (.mc k') f b = s.fld (.mc k') f b := by
  unfold State.scrubFixed
  split
  · rfl
  · exact s.countCe_mc _ _ _ _ inside other _

theorem State.scrubFixed_stk (s : State) (k l : Nat) (x : InnerLine) : ((s.scrubFixed k l x).stk k).unreported = (s.stk k).unreported := by
  unfold State.scrubFixed
  split
  · rfl
  · exact s.countCe_stk _ _ _

theorem State.scrubRead_mc (s : State) (k l : Nat) (fl : List SymErr) (k' : Nat) {f : Fld} (b : Nat) (inside : f.off < 4096)
    (other : f.off ∉ channelCounts) : (s.scrubRead k l fl).1.fld (.mc k') f b = s.fld (.mc k') f b := by
  rw [State.scrubRead_eq]
  exact State.each_keeps (I := fun u => u.fld (.mc k') f b = s.fld (.mc k') f b)
    (fun _ _ u hu => (u.scrubSector_mc _ _ _ inside other _).trans hu)
    ((State.scrubFixed_mc _ _ _ _ _ _ inside other).trans (s.innerRead_mc _ _ _ _ _ _))

theorem State.scrubRead_stk (s : State) (k l : Nat) (fl : List SymErr) : ((s.scrubRead k l fl).1.stk k).unreported = (s.stk k).unreported := by
  have read : (s.innerRead k l fl).1.stk k = s.stk k := (State.innerRead_kept (Msub.refl _) (.refl _ s)).stk k rfl
  rw [State.scrubRead_eq]
  exact State.each_keeps (I := fun u => (u.stk k).unreported = (s.stk k).unreported) (fun _ _ u hu => (u.scrubSector_stk _ _).trans hu)
    ((State.scrubFixed_stk _ _ _ _).trans (congrArg Stack.unreported read))

theorem State.scrubRead_clean (s : State) (k l : Nat) : s.scrubRead k l [] = (s, s.cleanLine k l) := by
  rw [State.scrubRead_eq, State.innerRead_clean]
  rfl

/-- The next line of the pass has been read, and counted in the pass. -/
def State.scrubNext (s : State) (k : Nat) (fl : List SymErr) : State :=
  let n := (s.stk k).scrubLine
  let (u, i) := s.scrubRead k (n * 64) fl
  let x := u.stk k
  let u := u.setStk k { x with scrubCe := x.scrubCe + i.fixed, scrubDue := x.scrubDue + i.due.length,
                               scrubDueAddr := if x.scrubDue = 0 then (match i.due with | j :: _ => n * 64 + 32 * j | [] => 0) else x.scrubDueAddr }
  (u.setStk k { u.stk k with scrubLine := n + 1 }).setFld (.scr k) (Scr.SCRUB_POS.sub 24 0) ((n + 1) / 64)

theorem State.scrubNext_stk (s : State) (k : Nat) (fl : List SymErr) :
    let x := (s.innerRead k ((s.stk k).scrubLine * 64) fl).2
    ((s.scrubNext k fl).stk k).scrubLine = (s.stk k).scrubLine + 1 ∧ ((s.scrubNext k fl).stk k).scrubCe = (s.stk k).scrubCe + x.fixed ∧
      ((s.scrubNext k fl).stk k).scrubDue = (s.stk k).scrubDue + x.due.length := by
  intro x
  have record := s.scrubRead_stk k ((s.stk k).scrubLine * 64) fl
  have ce : ((s.scrubRead k ((s.stk k).scrubLine * 64) fl).1.stk k).scrubCe = (s.stk k).scrubCe := by
    simpa only [Stack.unreported] using congrArg Stack.scrubCe record
  have due : ((s.scrubRead k ((s.stk k).scrubLine * 64) fl).1.stk k).scrubDue = (s.stk k).scrubDue := by
    simpa only [Stack.unreported] using congrArg Stack.scrubDue record
  have same : ∀ u : State, (u.setFld (.scr k) (Scr.SCRUB_POS.sub 24 0) (((s.stk k).scrubLine + 1) / 64)).stk k = u.stk k :=
    fun u => State.stk_congr (State.setFld_stks _ _ _ _ _) k
  unfold State.scrubNext
  dsimp only
  rw [same, State.stk_setStk, State.stk_setStk, ce, due]
  exact ⟨rfl, rfl, rfl⟩

theorem State.scrubNext_stored (s : State) (k : Nat) : (s.scrubNext k []).mem = s.mem ∧ (s.scrubNext k []).lines = s.lines := by
  simp only [State.scrubNext, State.scrubRead_clean, State.setFld_mem, State.setFld_lines, State.setStk_mem, State.setStk_lines, and_self]

theorem State.scrubNext_capOf (s : State) (k : Nat) (fl : List SymErr) : (s.scrubNext k fl).capOf k = s.capOf k := by
  have state : (s.scrubNext k fl).fld (.mc k) Mc.MC_STATUS_MAPOUT_STATE = s.fld (.mc k) Mc.MC_STATUS_MAPOUT_STATE := by
    rw [State.scrubNext, State.fld_setFld_ne _ _ _ _ _ _ _ _ (regKey_ne_of_kind (by simp [Page.kind])), State.setStk_fld, State.setStk_fld]
    exact s.scrubRead_mc _ _ _ _ _ (by decide) (by decide)
  rw [State.capOf, state, State.capOf]

theorem exec_scrubLine {s : State} {k : Nat} (data md : List SymErr) (en : s.flag (.scr k) Scr.SCRUB_CTRL_EN = true)
    (ready : s.flag (.mc k) Mc.MC_STATUS_READY = true) (running : s.fld (.scr k) (Scr.SCRUB_STATUS.sub 0 0) = 1)
    (settled : s.fld (.mc k) Mc.MC_STATUS_MAPOUT_STATE ≠ 1) (more : (s.stk k).scrubLine * 64 + 64 < s.capOf k) :
    exec (.scrubLine k data md) s = .next (s.scrubNext k (symsOf data md)) := by
  have inside : ¬ (s.scrubNext k (symsOf data md)).capOf k ≤ (s.stk k).scrubLine * 64 + 64 := by
    rw [State.scrubNext_capOf]
    exact Nat.not_le.mpr more
  simp only [exec, execScrubLine, en, ready, running, settled, Bool.not_true, Bool.or_self, Bool.false_eq_true, if_false, Nat.one_ne_zero, decide_false,
    Bool.false_and]
  exact congrArg Host.Outcome.next (if_neg inside)

/-- EN and PERIOD are as a valid write of SCRUB_CTRL gives them (R182). -/
def State.scrubSet (s : State) (k v : Nat) : State :=
  let u := (s.setFld (.scr k) Scr.SCRUB_CTRL_EN (v % 2)).setFld (.scr k) Scr.SCRUB_CTRL_PERIOD (bitsOf v 15 8)
  if bitAt v 0 then u else u.setFld (.scr k) Scr.SCRUB_STATUS 0

theorem State.scrubSet_fields (s : State) (k v : Nat) : (s.scrubSet k v).fld (.scr k) Scr.SCRUB_CTRL_EN = v % 2 ∧
    (s.scrubSet k v).fld (.scr k) Scr.SCRUB_CTRL_PERIOD = bitsOf v 15 8 := by
  have en : ((s.setFld (.scr k) Scr.SCRUB_CTRL_EN (v % 2)).setFld (.scr k) Scr.SCRUB_CTRL_PERIOD (bitsOf v 15 8)).fld (.scr k) Scr.SCRUB_CTRL_EN = v % 2 :=
    (State.fld_setFld_beside _ (.scr k) 0x100 15 8 0 0 _ (by decide) (by decide)).trans
      ((State.fld_setFld_same _ _ _ _ _ ⟨by decide, by decide⟩).trans (Nat.mod_mod v 2))
  have period : ((s.setFld (.scr k) Scr.SCRUB_CTRL_EN (v % 2)).setFld (.scr k) Scr.SCRUB_CTRL_PERIOD (bitsOf v 15 8)).fld (.scr k) Scr.SCRUB_CTRL_PERIOD
      = bitsOf v 15 8 :=
    (State.fld_setFld_same _ _ _ _ _ ⟨by decide, by decide⟩).trans (Nat.mod_eq_of_lt (bitsOf_lt v 15 8))
  unfold State.scrubSet
  extract_lets u
  split
  · exact ⟨en, period⟩
  · exact ⟨(u.fld_setFld_apart (.scr k) 0 (by decide)).trans en, (u.fld_setFld_apart (.scr k) 0 (by decide)).trans period⟩

theorem State.scrubSet_ready (s : State) (k v : Nat) : (s.scrubSet k v).flag (.mc k) Mc.MC_STATUS_READY = s.flag (.mc k) Mc.MC_STATUS_READY := by
  have scr : ∀ (u : State) (f : Fld) (w : Nat), (u.setFld (.scr k) f w).fld (.mc k) Mc.MC_STATUS_READY = u.fld (.mc k) Mc.MC_STATUS_READY :=
    fun u f w => u.fld_setFld_ne _ _ _ _ _ _ _ (regKey_ne_of_kind (by simp [Page.kind]))
  unfold State.scrubSet
  split
  · rw [State.flag, scr, scr, State.flag]
  · rw [State.flag, scr, scr, scr, State.flag]

theorem State.scrubCtrl_valid {s : State} {k : Nat} {v : Word} (low : 1 ≤ bitsOf v.toNat 15 8) (high : bitsOf v.toNat 15 8 ≤ 168) :
    s.scrubCtrl k v = if bitAt v.toNat 1 then
      let u := (s.scrubSet k v.toNat).setFld (.scr k) Scr.SCRUB_CTRL_NOW 1
      if bitAt v.toNat 0 && u.flag (.mc k) Mc.MC_STATUS_READY then u.scrubStart k true else u
    else s.scrubSet k v.toNat := by
  have valid : (decide (bitsOf v.toNat 15 8 = 0) || decide (168 < bitsOf v.toNat 15 8)) = false := by simp; omega
  simp only [State.scrubCtrl, valid, Bool.false_eq_true, if_false]
  rfl

theorem State.scrubCtrl_invalid {s : State} {k : Nat} {v : Word} (h : bitsOf v.toNat 15 8 = 0 ∨ 168 < bitsOf v.toNat 15 8) :
    s.scrubCtrl k v = s.setErr (.scr k) 0 := by
  have invalid : (decide (bitsOf v.toNat 15 8 = 0) || decide (168 < bitsOf v.toNat 15 8)) = true := by simpa using h
  simp only [State.scrubCtrl, invalid, if_true]

/-- The start of a pass shows itself in SCRUB_STATUS and SCRUB_POS only. -/
theorem State.scrubStart_fld (s : State) (k : Nat) (fast : Bool) {f : Fld} (status : f.off ≠ 0x104) (pos : f.off ≠ 0x108) :
    (s.scrubStart k fast).fld (.scr k) f = s.fld (.scr k) f := by
  rw [State.scrubStart, State.fld_setFld_apart _ _ _ pos, State.fld_setFld_apart _ _ _ status, State.setStk_fld]

theorem State.scrubStart_starts (s : State) (k : Nat) : ((s.scrubStart k true).stk k).scrubLine = 0 ∧ (s.scrubStart k true).fld (.scr k) Scr.SCRUB_STATUS = 3 := by
  constructor
  · rw [State.scrubStart, State.stk_congr (State.setFld_stks _ _ _ _ _), State.stk_congr (State.setFld_stks _ _ _ _ _), State.stk_setStk]
  · rw [State.scrubStart, State.fld_setFld_apart _ _ _ (by decide), State.fld_setFld_same _ _ _ _ _ ⟨by decide, by decide⟩]
    rfl

theorem State.scrubCtrl_fields {s : State} {k : Nat} {v : Word} (low : 1 ≤ bitsOf v.toNat 15 8) (high : bitsOf v.toNat 15 8 ≤ 168) :
    (s.scrubCtrl k v).fld (.scr k) Scr.SCRUB_CTRL_EN = v.toNat % 2 ∧ (s.scrubCtrl k v).fld (.scr k) Scr.SCRUB_CTRL_PERIOD = bitsOf v.toNat 15 8 := by
  obtain ⟨en, period⟩ := s.scrubSet_fields k v.toNat
  have en' : ((s.scrubSet k v.toNat).setFld (.scr k) Scr.SCRUB_CTRL_NOW 1).fld (.scr k) Scr.SCRUB_CTRL_EN = v.toNat % 2 :=
    (State.fld_setFld_beside _ (.scr k) 0x100 1 1 0 0 1 (by decide) (by decide)).trans en
  have period' : ((s.scrubSet k v.toNat).setFld (.scr k) Scr.SCRUB_CTRL_NOW 1).fld (.scr k) Scr.SCRUB_CTRL_PERIOD = bitsOf v.toNat 15 8 :=
    (State.fld_setFld_beside _ (.scr k) 0x100 1 1 15 8 1 (by decide) (by decide)).trans period
  rw [State.scrubCtrl_valid low high]
  split
  · extract_lets u
    split
    · rw [State.scrubStart_fld _ _ _ (by decide) (by decide), State.scrubStart_fld _ _ _ (by decide) (by decide)]
      exact ⟨en', period'⟩
    · exact ⟨en', period'⟩
  · exact ⟨en, period⟩

/-- A write with NOW starts a pass at once, where the scrubber is enabled and the stack is ready (R182). -/
theorem State.scrubCtrl_now {s : State} {k : Nat} {v : Word} (low : 1 ≤ bitsOf v.toNat 15 8) (high : bitsOf v.toNat 15 8 ≤ 168)
    (now : bitAt v.toNat 1 = true) (en : bitAt v.toNat 0 = true) (ready : s.flag (.mc k) Mc.MC_STATUS_READY = true) :
    s.scrubCtrl k v = ((s.scrubSet k v.toNat).setFld (.scr k) Scr.SCRUB_CTRL_NOW 1).scrubStart k true := by
  have ready' : ((s.scrubSet k v.toNat).setFld (.scr k) Scr.SCRUB_CTRL_NOW 1).flag (.mc k) Mc.MC_STATUS_READY = true := by
    rw [State.flag, State.fld_setFld_ne _ _ _ _ _ _ _ _ (regKey_ne_of_kind (by simp [Page.kind]))]
    exact (s.scrubSet_ready k v.toNat).trans ready
  rw [State.scrubCtrl_valid low high]
  simp only [now, en, ready', Bool.and_self, if_true]

/-- Bit 1 is set beside what a register's word holds. -/
theorem word_or_two (n : Nat) (h : n < 2 ^ 32) : let v := (BitVec.ofNat 32 n ||| 2 : Word).toNat
    bitsOf v 15 8 = bitsOf n 15 8 ∧ bitAt v 0 = bitAt n 0 ∧ bitAt v 1 = true := by
  have value : (BitVec.ofNat 32 n ||| 2 : Word).toNat = n ||| 2 := by
    rw [BitVec.toNat_or, BitVec.toNat_ofNat, Nat.mod_eq_of_lt h]
    rfl
  simp only [value, bitAt_eq_testBit, Nat.testBit_or, bitsOf, Nat.or_div_two_pow]
  have bit : Nat.testBit 2 1 = true := by decide
  exact ⟨by simp, by simp, by rw [bit, Bool.or_true]⟩

theorem scrubNow_starts {s : State} {m : Master} {k : Nat} (hm : s.MayWrite m (.scr k)) (low : 1 ≤ s.fld (.scr k) Scr.SCRUB_CTRL_PERIOD)
    (high : s.fld (.scr k) Scr.SCRUB_CTRL_PERIOD ≤ 168) (en : s.flag (.scr k) Scr.SCRUB_CTRL_EN = true)
    (ready : s.flag (.mc k) Mc.MC_STATUS_READY = true) :
    ∃ t, exec (.scrubNow m k) s = .next t ∧ (t.stk k).scrubLine = 0 ∧ t.fld (.scr k) Scr.SCRUB_STATUS = 3 ∧ t.fld (.scr k) Scr.SCRUB_CTRL_NOW = 1 := by
  let n := s.fld (.scr k) Scr.SCRUB_CTRL
  obtain ⟨period, enabled, now⟩ := word_or_two n (State.fld_lt _ _ _ _)
  have reg : n = (s.reg (regKey (.scr k) 0x100 0)).toNat := State.fld_word _ _ _ _
  have periodOf : bitsOf n 15 8 = s.fld (.scr k) Scr.SCRUB_CTRL_PERIOD := by rw [reg]; rfl
  have enOf : bitAt n 0 = true := (s.fld_bit (.scr k) 0x100 0 0).symm.trans en
  have run : exec (.scrubNow m k) s = .next ((s.touch (.scr k)).scrubCtrl k (BitVec.ofNat 32 n ||| 2)) := by
    simp only [exec, execScrubNow, State.gated_held _ hm]
    rfl
  rw [State.scrubCtrl_now (s := s.touch (.scr k)) (by rw [period, periodOf]; exact low) (by rw [period, periodOf]; exact high) now (enabled.trans enOf) ready] at run
  refine ⟨_, run, (State.scrubStart_starts _ k).1, (State.scrubStart_starts _ k).2, ?_⟩
  rw [State.scrubStart_fld _ _ _ (by decide) (by decide), State.fld_setFld_same _ _ _ _ _ ⟨by decide, by decide⟩]
  rfl

theorem exec_scrubCtrlWrite {s : State} {m : Master} {k : Nat} (v : Word) (hm : s.MayWrite m (.scr k)) :
    exec (.scrubCtrlWrite m k v) s = .next ((s.touch (.scr k)).scrubCtrl k v) := by
  simp only [exec, execScrubCtrlWrite, State.gated_held _ hm]

/-! ### The obligation -/

/-- Settles O14, clause by clause, from what each operation leaves. -/
theorem edeskUpkeepActs : Obligations.EdeskUpkeepActs := by
  unfold Obligations.EdeskUpkeepActs
  refine ⟨?mapout, ?copy, ?region, ?line, ?now, ?valid, ?invalid⟩
  case mapout => exact fun s m k v hm => mapoutGo_starts hm
  case copy => exact fun s k bad0 bad1 => mapoutGranuleCopy_copies bad0 bad1
  case region =>
    intro s m k n v _ hm en unsealed
    have open_ : ((s.touch (.mc k)).sealOf ((s.touch (.mc k)).ctxPart ((s.touch (.mc k)).fld (.mc k) ((Mc.RCR_CTX n).sub 12 0)))).closed = false := unsealed
    refine ⟨_, exec_rcrEn n v hm, fun valid => ?_, fun invalid => ?_⟩
    · exact State.rcrCtrl_valid en open_ ((s.touch_rcValid (.mc k) k n).trans valid)
    · exact State.rcrCtrl_invalid en open_ ((s.touch_rcValid (.mc k) k n).trans invalid)
  case line =>
    intro s k data md en ready running settled more x
    obtain ⟨next, ce, due⟩ := s.scrubNext_stk k (symsOf data md)
    refine ⟨_, exec_scrubLine data md en ready running settled more, next, ce, due, ?_⟩
    intro clean cleanWord
    have none : symsOf data md = [] := by rw [clean, cleanWord]; rfl
    rw [none]
    exact s.scrubNext_stored k
  case now => exact fun s m k hm => scrubNow_starts hm
  case valid => exact fun s m k v hm low high => ⟨_, exec_scrubCtrlWrite v hm, State.scrubCtrl_fields low high⟩
  case invalid =>
    intro s m k v hm bad
    refine ⟨_, exec_scrubCtrlWrite v hm, ?_⟩
    rw [State.scrubCtrl_invalid bad, State.setErr_fld _ _ (by simp [Page.kind]) (by decide)]
    exact ⟨rfl, State.setErr_sets _ _ (by decide)⟩

end Sys2Proof.Machine
end

section
/-! SUPPORT. How a recompute ends for the reads that wait for it (R175, R178). -/
namespace Sys2Proof.Machine
-- With this option Lean elaborates the proofs in turn, in fewer threads than the check's memory limit allows for.
set_option deprecated.oldSectionVars true

/-! ### What the delivery of an outcome leaves -/

/-- The recompute that runs in each stack, and where the commands that run in its near-memory unit came from, are as they were. -/
abbrev State.SameWork (s t : State) : Prop :=
  (∀ k, (t.stk k).recomp = (s.stk k).recomp) ∧ ∀ k, (t.nmuSt k).running.map (·.src) = (s.nmuSt k).running.map (·.src)

theorem State.SameWork.recomp {s t : State} (h : s.SameWork t) (k : Nat) : (t.stk k).recomp = (s.stk k).recomp := h.1 k

theorem State.SameWork.srcs {s t : State} (h : s.SameWork t) (k : Nat) : (t.nmuSt k).running.map (·.src) = (s.nmuSt k).running.map (·.src) := h.2 k

theorem State.SameWork.refl (s : State) : s.SameWork s := ⟨fun _ => rfl, fun _ => rfl⟩

theorem State.SameWork.trans {s t u : State} (h : s.SameWork t) (h' : t.SameWork u) : s.SameWork u :=
  ⟨fun k => (h'.recomp k).trans (h.recomp k), fun k => (h'.srcs k).trans (h.srcs k)⟩

theorem Kept.sameWork {M : Nat} {s t : State} (h : Kept M s t) (noStack : M.testBit 83 = false)
    (noUnit : M.testBit 86 = false) : s.SameWork t :=
  ⟨fun k => congrArg Stack.recomp (h.stk k noStack), fun k => by rw [State.nmuSt_congr (h.agree .nmus noUnit)]⟩

theorem State.SameWork.each {α : Type} {s : State} {f : α → State → State} (l : List α) (h : ∀ x u, State.SameWork u (f x u)) : s.SameWork (s.each l f) :=
  State.each_keeps (I := s.SameWork) (fun x _ u hu => hu.trans (h x u)) (.refl s)

theorem State.setNmu_running (s : State) (k : Nat) (x : NmuSt) : ((s.setNmu k x).nmuSt k).running = x.running := by
  have stored : (s.setNmu k x).nmuSt k = x.refill := (State.nmuSt_congr (State.setFld_nmus _ _ _ _ _) k).trans (smGet_smSet_same _ _ _ _)
  rw [stored]
  rfl

theorem State.setNmu_other (s : State) {k k' : Nat} (x : NmuSt) (h : k' ≠ k) : (s.setNmu k x).nmuSt k' = s.nmuSt k' :=
  (State.nmuSt_congr (State.setFld_nmus _ _ _ _ _) k').trans (smGet_smSet_ne _ _ _ _ _ h)

theorem State.nmuModId_sameWork (s : State) (k id : Nat) {f : NCmd → NCmd} (h : ∀ c, (f c).src = c.src) : s.SameWork (s.nmuModId k id f) := by
  refine ⟨fun k' => congrArg Stack.recomp ((State.nmuModId_kept (Msub.refl _) (.refl _ s)).stk k' rfl), fun k' => ?_⟩
  by_cases here : k' = k
  · subst here
    rw [State.nmuModId, State.setNmu_running, List.map_map]
    refine List.map_congr_left fun c _ => ?_
    dsimp only [Function.comp]
    split
    · exact h c
    · rfl
  · rw [State.nmuModId, State.setNmu_other _ _ here]

theorem State.deliverError_sameWork (s : State) (req : Requester) (wr : Bool) (n : Nat) : s.SameWork (s.deliverError req wr n) := by
  unfold State.deliverError
  split
  · extract_lets q
    split
    · exact (State.progFault_kept (Msub.refl _) (.refl _ s)).sameWork rfl rfl
    · split
      · exact (State.progFault_kept (Msub.refl _) (.refl _ s)).sameWork rfl rfl
      · exact .refl s
  · refine s.nmuModId_sameWork _ _ fun c => ?_
    split <;> rfl
  · exact (State.answerReq_kept (Msub.refl _) (.refl _ s)).sameWork rfl rfl

theorem State.lineOutcome_sameWork (s : State) (k l : Nat) (req : Requester) (ok : Bool) : s.SameWork (s.lineOutcome k l req ok) := by
  have fewer : ∀ reads, s.SameWork { s with reads := reads } := fun _ => ⟨fun _ => rfl, fun _ => rfl⟩
  unfold State.lineOutcome
  split
  · split
    · exact (State.deliverLine_kept (Msub.refl _) (.refl _ s)).sameWork rfl rfl
    · exact s.deliverError_sameWork _ _ _
  · split
    · exact .refl s
    · extract_lets r
      split
      · split
        · exact (fewer _).trans (State.deliverError_sameWork _ _ _ _)
        · exact (fewer _).trans ((State.answerReq_kept (Msub.refl _) (.refl _ _)).sameWork rfl rfl)
      · exact fewer _

/-- A change of every record of a table that leaves the default record. -/
theorem tGet_map {α : Type} [Inhabited α] {g : α → α} (h : g default = default) (m : SMap α) (k : Nat) :
    tGet (m.map (fun e => (e.1, g e.2))) k = g (tGet m k) := by
  unfold tGet
  induction m with
  | nil => exact h.symm
  | cons e m ih =>
    obtain ⟨a, v⟩ := e
    simp only [List.map_cons, smGet]
    split
    · rfl
    · exact ih

theorem State.partDone_sameWork (s : State) (req : Requester) (ok : Bool) : s.SameWork (s.partDone req ok) := by
  unfold State.partDone
  split
  · extract_lets quiet quietM t
    have told : s.SameWork t :=
      ⟨fun k => (congrArg Stack.recomp (tGet_map (g := fun x : Stack => { x with heldW := x.heldW.map quiet }) rfl s.stks k)).trans rfl, fun _ => rfl⟩
    exact told.trans (t.deliverError_sameWork _ _ _)
  · split
    · exact .refl s
    · exact (State.answerReq_kept (Msub.refl _) (.refl _ s)).sameWork rfl rfl

theorem State.stk_setStk_ne (s : State) {k k' : Nat} (x : Stack) (h : k' ≠ k) : (s.setStk k x).stk k' = s.stk k' := smGet_smSet_ne _ _ _ _ _ h

/-- A record of a stack with the recompute that it had. -/
theorem State.setStk_sameWork (s : State) (k : Nat) {x : Stack} (h : x.recomp = (s.stk k).recomp) : s.SameWork (s.setStk k x) := by
  refine ⟨fun k' => ?_, fun _ => rfl⟩
  by_cases here : k' = k
  · rw [here, State.stk_setStk, h]
  · rw [State.stk_setStk_ne _ _ here]

theorem State.dropMerges_sameWork (s : State) (k l : Nat) : s.SameWork (s.dropMerges k l) := by
  unfold State.dropMerges
  extract_lets mine ws x t
  have removed : s.SameWork t := s.setStk_sameWork k rfl
  exact removed.trans (State.SameWork.each ws fun w u => u.partDone_sameWork w.req false)

/-! ### A wait that ends in a bus error (R178 step 4) -/

/-- The bus error of a waiting read is counted and recorded. -/
def State.waitLost (s : State) (k : Nat) (w : RcWait) : State :=
  let ctx := s.reqCtx w.req
  ((s.bump (.mc k) Mc.OUT_BUSERR_CNT).lastErr k w.line 1 ctx).event 0x2108 (srcStack k) (s.memItems k w.line ctx)

theorem State.recompFail_eq (s : State) (k : Nat) (w : RcWait) :
    s.recompFail k w = if w.wr then (s.waitLost k w).dropMerges k w.line else (s.waitLost k w).lineOutcome k w.line w.req false := rfl

theorem State.waitLost_kept (s : State) (k : Nat) (w : RcWait) : Kept 5192296858540435438728921212784784 s (s.waitLost k w) :=
  State.event_kept rfl (State.lastErr_kept rfl (State.bump_kept rfl (.refl _ s) (Msub.has (k := 34) (Msub.refl _) rfl)))

theorem State.waitLost_counts (s : State) (k : Nat) (w : RcWait) :
    (s.waitLost k w).fld (.mc k) Mc.OUT_BUSERR_CNT = min (s.fld (.mc k) Mc.OUT_BUSERR_CNT + 1) (2 ^ 32 - 1) := by
  rw [State.waitLost, State.event_mc, State.lastErr_mc _ _ _ _ _ _ _ (by decide)]
  exact s.fld_bump_same (.mc k) 0x12c 0

section Fails
variable (s : State) (k : Nat)

theorem State.recompFail_sameWork (w : RcWait) : s.SameWork (s.recompFail k w) := by
  rw [State.recompFail_eq]
  split
  · exact ((s.waitLost_kept k w).sameWork rfl rfl).trans (State.dropMerges_sameWork _ _ _)
  · exact ((s.waitLost_kept k w).sameWork rfl rfl).trans (State.lineOutcome_sameWork _ _ _ _ _)

theorem State.recompFail_mem (w : RcWait) : (s.recompFail k w).mem = s.mem := (State.recompFail_kept (Msub.refl _) (.refl _ s)).mem rfl

theorem State.lineOutcome_mc (l : Nat) (req : Requester) (ok : Bool) (k' : Nat) (f : Fld) (b : Nat) :
    (s.lineOutcome k l req ok).fld (.mc k') f b = s.fld (.mc k') f b :=
  (State.lineOutcome_kept (Msub.refl _) (.refl _ s)).fld_mc k' f b rfl

theorem State.dropMerges_mc (l k' : Nat) (f : Fld) (b : Nat) : (s.dropMerges k l).fld (.mc k') f b = s.fld (.mc k') f b :=
  (State.dropMerges_kept (Msub.refl _) (.refl _ s)).fld_mc k' f b rfl

theorem State.recompFail_counts (w : RcWait) :
    (s.recompFail k w).fld (.mc k) Mc.OUT_BUSERR_CNT = min (s.fld (.mc k) Mc.OUT_BUSERR_CNT + 1) (2 ^ 32 - 1) := by
  rw [State.recompFail_eq]
  split
  · rw [State.dropMerges_mc, State.waitLost_counts]
  · rw [State.lineOutcome_mc, State.waitLost_counts]

/-- Every wait of a recompute that fails counts once, as far as the counter goes. -/
theorem State.recompFails_count (ws : List RcWait) : (s.each ws (fun w u => u.recompFail k w)).fld (.mc k) Mc.OUT_BUSERR_CNT
    = min (s.fld (.mc k) Mc.OUT_BUSERR_CNT + ws.length) (2 ^ 32 - 1) := by
  induction ws generalizing s with
  | nil =>
    have := s.fld_lt (.mc k) Mc.OUT_BUSERR_CNT 0
    exact (Nat.min_eq_left (Nat.le_sub_one_of_lt this)).symm
  | cons w ws ih =>
    have rest : (s.each (w :: ws) (fun w u => u.recompFail k w)).fld (.mc k) Mc.OUT_BUSERR_CNT
        = min ((s.recompFail k w).fld (.mc k) Mc.OUT_BUSERR_CNT + ws.length) (2 ^ 32 - 1) := ih (s.recompFail k w)
    rw [rest, State.recompFail_counts, List.length_cons]
    omega

end Fails

/-- The recompute of a stack is taken out of its record. -/
def State.recompClosed (s : State) (k : Nat) : State := s.setStk k { s.stk k with recomp := none }

theorem State.recompClosed_recomp (s : State) (k : Nat) : ((s.recompClosed k).stk k).recomp = none := by rw [State.recompClosed, State.stk_setStk]

theorem exec_recomputeTimeout {s : State} {k : Nat} {r : Recomp} (waiting : (s.stk k).recomp = some r) (late : r.postTick + 200 ≤ s.tick) :
    exec (.recomputeTimeout k) s = .next (((s.recompClosed k).each r.waits (fun w u => u.recompFail k w)).recompEnd k) := by
  simp only [exec, execRecomputeTimeout, waiting, late, if_true]
  rfl

theorem recomputeTimeout_fails {s : State} {k : Nat} {r : Recomp} (waiting : (s.stk k).recomp = some r) (late : r.postTick + 200 ≤ s.tick) :
    ∃ t u : State, exec (.recomputeTimeout k) s = .next t ∧ t = u.recompEnd k ∧ (u.stk k).recomp = none ∧ u.mem = s.mem ∧
      u.fld (.mc k) Mc.OUT_BUSERR_CNT = min (s.fld (.mc k) Mc.OUT_BUSERR_CNT + r.waits.length) (2 ^ 32 - 1) := by
  refine ⟨_, _, exec_recomputeTimeout waiting late, rfl, ?_, ?_, ?_⟩
  · exact ((State.SameWork.each r.waits fun w u => u.recompFail_sameWork k w).recomp k).trans (s.recompClosed_recomp k)
  · exact State.each_keeps (I := fun u => u.mem = s.mem) (fun w _ u hu => (u.recompFail_mem k w).trans hu) (State.setStk_mem _ _ _)
  · rw [State.recompFails_count, State.recompClosed, State.setStk_fld]

/-! ### The lines are read once more (R178 step 3) -/

/-- The lines of `ls`, by their numbers in the stack, that pass as they stand. -/
def State.restored (s : State) (k : Nat) (ls : List Nat) : List Nat :=
  ls.filter (fun n => (s.cleanLine k (64 * n)).good k (64 * n) && !(s.cleanLine k (64 * n)).md.unwritten)

/-- The lines that a recompute has restored are counted, and the run with them. -/
def State.recompCounted (s : State) (k region : Nat) (good : List Nat) : State :=
  if good.isEmpty then s else (s.bumpBy (.mc k) Mc.OUT_RECOMP_CNT good.length).bump (.mc k) (Mc.RCR_RUNS region)

/-- A wait ends with the line's outcome (R178 step 3, R175). -/
def recompServe (k : Nat) (good : List Nat) (w : RcWait) (s : State) : State :=
  if good.contains (w.line / 64) then
    let ctx := s.reqCtx w.req
    let u := (s.lastErr k w.line 2 ctx).event 0x2105 (srcStack k) (s.memItems k w.line ctx)
    if w.wr then u else u.lineOutcome k w.line w.req true
  else s.recompFail k w

/-- One line of a recompute is read again. -/
def rereadLine (k : Nat) (obs : List ReadObs) (acc : State × List Nat) (e : Nat × Nat) : State × List Nat :=
  let p := acc.1.innerRead k (64 * e.1) (obs.getD e.2 {}).first
  (p.1.innerCount k (64 * e.1) p.2 [], if p.2.good k (64 * e.1) && !p.2.md.unwritten then acc.2 ++ [e.1] else acc.2)

theorem rereadLine_clean (k : Nat) (s : State) (good : List Nat) (e : Nat × Nat) :
    rereadLine k [] (s, good) e = (s, good ++ s.restored k [e.1]) := by
  simp only [rereadLine, List.getD_nil, State.innerRead_clean, State.innerCount_clean, State.restored, List.filter_cons, List.filter_nil]
  split
  · rfl
  · rw [List.append_nil]

theorem rereadLines_clean (k : Nat) (s : State) (l : List (Nat × Nat)) (good : List Nat) :
    l.foldl (rereadLine k []) (s, good) = (s, good ++ s.restored k (l.map Prod.fst)) := by
  induction l generalizing good with
  | nil => simp [State.restored]
  | cons e l ih =>
    rw [List.foldl_cons, rereadLine_clean, ih, List.append_assoc]
    simp only [State.restored, List.map_cons, ← List.filter_append, List.singleton_append]

/-- The state in which the command of a recompute has left its near-memory unit. -/
def State.recompLeft (s : State) (k : Nat) (c : NCmd) : State :=
  (s.setNmu k { s.nmuSt k with running := (s.nmuSt k).running.filter (fun c => c.src != 2) }).nmuLeave k c

/-- The waits of a recompute that ended with `err` are served. -/
def State.recompServed (s : State) (k err : Nat) (r : Recomp) (obs : List ReadObs) : State :=
  let p := (if err = 0 then ((r.waits.map (fun w => w.line / 64)).eraseDups).zipIdx else []).foldl (rereadLine k obs) (s.recompClosed k, [])
  (p.1.recompCounted k r.region p.2).each r.waits (recompServe k p.2)

theorem exec_recomputeDone {s : State} {k : Nat} {c : NCmd} {r : Recomp} (obs : List ReadObs)
    (found : (s.nmuSt k).running.find? (fun c => c.src == 2) = some c) (ended : c.done = true) (waiting : ((s.recompLeft k c).stk k).recomp = some r) :
    exec (.recomputeDone k obs) s = .next (((s.recompLeft k c).recompServed k c.err r obs).recompEnd k) := by
  unfold State.recompLeft at *
  simp only [exec, execRecomputeDone, found, ended, waiting, Bool.not_true, Bool.false_eq_true, if_false]
  rfl

/-! ### What serving the waits leaves -/

section Served
variable (s : State) (k : Nat)

/-- A wait whose line is good: recorded, and the line delivered. -/
theorem recompServe_good {good : List Nat} {w : RcWait} (here : w.line / 64 ∈ good) : ∃ u : State,
    Kept 5192296858540435438728921212784784 s u ∧ (∀ f : Fld, f.off < 0x134 → u.fld (.mc k) f = s.fld (.mc k) f) ∧
      recompServe k good w s = if w.wr then u else u.lineOutcome k w.line w.req true := by
  refine ⟨_, State.event_kept rfl (State.lastErr_kept rfl (.refl _ s)), fun f before => ?_, if_pos (List.contains_iff_mem.mpr here)⟩
  rw [State.event_mc, State.lastErr_mc _ _ _ _ _ _ _ before]

theorem recompServe_lost {good : List Nat} {w : RcWait} (out : w.line / 64 ∉ good) : recompServe k good w s = s.recompFail k w :=
  if_neg (fun h => out (List.contains_iff_mem.mp h))

theorem recompServe_leaves (good : List Nat) (w : RcWait) : s.SameWork (recompServe k good w s) ∧ (recompServe k good w s).mem = s.mem := by
  by_cases here : w.line / 64 ∈ good
  · obtain ⟨u, noted, -, served⟩ := recompServe_good s k here
    rw [served]
    split
    · exact ⟨noted.sameWork rfl rfl, noted.mem rfl⟩
    · exact ⟨(noted.sameWork rfl rfl).trans (u.lineOutcome_sameWork _ _ _ _), ((State.lineOutcome_kept (Msub.refl _) (.refl _ u)).mem rfl).trans (noted.mem rfl)⟩
  · rw [recompServe_lost s k here]
    exact ⟨s.recompFail_sameWork k w, s.recompFail_mem k w⟩

theorem recompServe_mc {good : List Nat} {w : RcWait} (here : w.line / 64 ∈ good) {f : Fld} (before : f.off < 0x134) :
    (recompServe k good w s).fld (.mc k) f = s.fld (.mc k) f := by
  obtain ⟨u, -, fields, served⟩ := recompServe_good s k here
  rw [served]
  split
  · exact fields f before
  · exact (u.lineOutcome_mc _ _ _ _ _ _ _).trans (fields f before)

theorem State.recompCounted_kept (region : Nat) (good : List Nat) : Kept 17179869184 s (s.recompCounted k region good) := by
  have page : Nat.testBit 17179869184 (Page.mc k).kind = true := Msub.has (k := 34) (Msub.refl _) rfl
  unfold State.recompCounted
  split
  · exact .refl _ s
  · exact State.bump_kept rfl (State.bumpBy_kept rfl (.refl _ s) page) page

theorem State.fld_bumpBy_same (pg : Page) (off n : Nat) : (s.bumpBy pg ⟨off, 31, 0⟩ n).fld pg ⟨off, 31, 0⟩ = min (s.fld pg ⟨off, 31, 0⟩ + n) (2 ^ 32 - 1) := by
  rw [State.bumpBy, State.fld_setFld_same _ _ _ _ _ (Fld.ok_word off)]
  simp only [Fld.card]
  omega

/-- The counters of the outcomes stand before the registers of the recompute regions. -/
theorem State.recompCounted_mc (region : Nat) (good : List Nat) :
    (s.recompCounted k region good).fld (.mc k) Mc.OUT_BUSERR_CNT = s.fld (.mc k) Mc.OUT_BUSERR_CNT ∧
      (s.recompCounted k region good).fld (.mc k) Mc.OUT_RECOMP_CNT = min (s.fld (.mc k) Mc.OUT_RECOMP_CNT + good.length) (2 ^ 32 - 1) := by
  unfold State.recompCounted
  split
  · next none =>
    have := s.fld_lt (.mc k) Mc.OUT_RECOMP_CNT 0
    rw [List.isEmpty_iff.mp none]
    exact ⟨rfl, (Nat.min_eq_left (Nat.le_sub_one_of_lt this)).symm⟩
  · have apart : ∀ (u : State) (f : Fld), f.off < 0x158 → (u.bump (.mc k) (Mc.RCR_RUNS region)).fld (.mc k) f = u.fld (.mc k) f :=
      fun u f before => u.fld_setFld_ne _ _ _ _ _ _ _ (regKey_ne_of_off (Nat.ne_of_lt (Nat.lt_of_lt_of_le before (Nat.le_add_right 0x158 (32 * region)))))
    rw [apart _ _ (by decide), apart _ _ (by decide)]
    exact ⟨s.fld_setFld_ne _ _ _ _ _ _ _ (regKey_ne_of_off (by decide)), s.fld_bumpBy_same (.mc k) 0x128 good.length⟩

end Served

/-! ### RECOMPUTE_DONE -/

theorem State.recompLeft_running (s : State) (k : Nat) (c : NCmd) : ∀ x ∈ ((s.recompLeft k c).nmuSt k).running, x.src ≠ 2 := by
  have units : ∀ u : State, (u.nmuLeave k c).nmuSt k = u.nmuSt k := fun u =>
    State.nmuSt_congr ((State.nmuLeave_kept (Msub.refl _) (.refl _ u)).agree .nmus rfl) k
  rw [State.recompLeft, units, State.setNmu_running]
  intro x hx
  simpa using (List.mem_filter.mp hx).2

/-- What is left of the recompute, however its waits end. -/
theorem State.recompServed_leaves (s : State) (k err : Nat) (r : Recomp) : s.recompClosed k |>.SameWork (s.recompServed k err r []) := by
  unfold State.recompServed
  rw [rereadLines_clean]
  exact (((s.recompClosed k).recompCounted_kept k r.region _).sameWork rfl rfl).trans
    (State.SameWork.each r.waits fun w u => (recompServe_leaves u k _ w).1)

/-- After an error every wait ends in a bus error. -/
theorem State.recompServed_error (s : State) (k : Nat) {err : Nat} (r : Recomp) (failed : err ≠ 0) :
    s.recompServed k err r [] = (s.recompClosed k).each r.waits (fun w u => u.recompFail k w) := by
  unfold State.recompServed
  rw [if_neg failed, List.foldl_nil]
  have lost : recompServe k [] = fun w u => u.recompFail k w := funext fun w => funext fun u => recompServe_lost u k List.not_mem_nil
  exact congrArg (fun f => (s.recompClosed k).each r.waits f) lost

theorem State.recompServed_good {s : State} {k : Nat} {r : Recomp} (written : ∀ w ∈ r.waits, (s.lineMeta k (w.line / 64 * 64)).unwritten = false)
    (passes : ∀ w ∈ r.waits, s.lineFails k (w.line / 64 * 64) = false) : (s.recompServed k 0 r []).mem = s.mem ∧
      (s.recompServed k 0 r []).fld (.mc k) Mc.OUT_BUSERR_CNT = s.fld (.mc k) Mc.OUT_BUSERR_CNT ∧
      (s.recompServed k 0 r []).fld (.mc k) Mc.OUT_RECOMP_CNT
        = min (s.fld (.mc k) Mc.OUT_RECOMP_CNT + ((r.waits.map (fun w => w.line / 64)).eraseDups).length) (2 ^ 32 - 1) := by
  let ls := (r.waits.map (fun w => w.line / 64)).eraseDups
  have mem_ls : ∀ n, n ∈ ls ↔ ∃ w ∈ r.waits, w.line / 64 = n := fun n => List.mem_eraseDups.trans List.mem_map
  have restored : (s.recompClosed k).restored k ls = ls := by
    refine List.filter_eq_self.mpr fun n hn => ?_
    obtain ⟨w, hw, rfl⟩ := (mem_ls n).mp hn
    have start : 64 * (w.line / 64) / 64 * 64 = w.line / 64 * 64 := by omega
    have fresh : (s.lineMeta k (64 * (w.line / 64) / 64 * 64)).unwritten = false := by rw [start]; exact written w hw
    have good : (s.cleanLine k (64 * (w.line / 64))).good k (64 * (w.line / 64)) = true := by
      rw [State.cleanLine_good fresh, start, passes w hw]
      rfl
    exact Bool.and_eq_true_iff.mpr ⟨good, (Bool.not_eq_true' _).mpr fresh⟩
  have served : s.recompServed k 0 r [] = ((s.recompClosed k).recompCounted k r.region ls).each r.waits (recompServe k ls) := by
    unfold State.recompServed
    rw [if_pos rfl, rereadLines_clean, List.zipIdx_map_fst, List.nil_append, restored]
  obtain ⟨busErrors, recomputed⟩ := (s.recompClosed k).recompCounted_mc k r.region ls
  have fields : ∀ f : Fld, f.off < 0x134 → (s.recompServed k 0 r []).fld (.mc k) f = ((s.recompClosed k).recompCounted k r.region ls).fld (.mc k) f := by
    intro f before
    rw [served]
    exact State.each_keeps (I := fun u => u.fld (.mc k) f = ((s.recompClosed k).recompCounted k r.region ls).fld (.mc k) f)
      (fun w hw u hu => (recompServe_mc u k ((mem_ls _).mpr ⟨w, hw, rfl⟩) before).trans hu) rfl
  refine ⟨?_, ?_, ?_⟩
  · rw [served]
    exact State.each_keeps (I := fun u => u.mem = s.mem) (fun w _ u hu => (recompServe_leaves u k ls w).2.trans hu)
      ((((s.recompClosed k).recompCounted_kept k r.region ls).mem rfl).trans (State.setStk_mem _ _ _))
  · rw [fields _ (by decide), busErrors, State.recompClosed, State.setStk_fld]
  · rw [fields _ (by decide), recomputed, State.recompClosed, State.setStk_fld]

end Sys2Proof.Machine
end

section
/-! SUPPORT. Writes from outside (R172, R173): a part of a line, and which bytes a write may change. -/
namespace Sys2Proof.Machine
-- With this option Lean elaborates the proofs in turn, in fewer threads than the check's memory limit allows for.
set_option deprecated.oldSectionVars true

/-! ### The pieces of a write -/

/-- Bytes that lie in one line are one piece. -/
theorem splitLines_one {o : Nat} {data : List Byte} (nonempty : 0 < data.length) (fit : o % 64 + data.length ≤ 64) :
    splitLines data.length o data = [(o, data)] := by
  obtain ⟨n, hn⟩ := Nat.exists_eq_add_of_lt nonempty
  have whole : data.take (64 - o % 64) = data := List.take_of_length_le (by omega)
  have rest : data.drop (64 - o % 64) = [] := List.drop_of_length_le (by omega)
  have there : data.isEmpty = false := List.isEmpty_eq_false_iff.mpr (List.ne_nil_of_length_pos nonempty)
  have ended : ∀ m o', splitLines m o' [] = [] := fun m _ => by cases m <;> rfl
  rw [show data.length = n + 1 by omega, splitLines]
  simp only [there, whole, rest, ended, Bool.false_eq_true, if_false]

theorem State.bytes_eq {s : State} {k : Nat} {l : List Byte} (h : ∀ i < l.length, s.byte (k + i) = l.getD i 0) : s.bytes k l.length = l := by
  refine List.ext_getElem (s.length_bytes k l.length) fun i hi hl => ?_
  have here := h i hl
  rw [← State.getD_bytes s hl, List.getD_eq_getElem _ _ hi, List.getD_eq_getElem _ _ hl] at here
  exact here

/-! ### What is stored of a line -/

theorem State.storeLine_lineMeta (s : State) (k l : Nat) (data : List Byte) (rc : Bool) (l' : Nat) (same : l' / 64 = l / 64) :
    (s.storeLine k l data rc).lineMeta k l' = { crc := outerCode k (l / 64 * 64) data, rc := rc, unwritten := false, poison := false } := by
  have key : lineKey k l' = lineKey k (l / 64 * 64) := by
    simp only [lineKey]
    omega
  rw [State.lineMeta, key]
  exact smGet_smSet_same _ _ _ _

/-- A line with `data` merged into it at `l` (R173). -/
def State.patchLine (s : State) (k l : Nat) (data : List Byte) : State :=
  let old := s.bytes (edKey k (l / 64 * 64)) 64
  s.storeLine k (l / 64 * 64) (old.take (l - l / 64 * 64) ++ data ++ old.drop (l - l / 64 * 64 + data.length)) false

theorem State.patchLine_byte (s : State) {k l : Nat} {data : List Byte} (fit : l % 64 + data.length ≤ 64) (x : Nat) :
    (s.patchLine k l data).byte x = if edKey k l ≤ x ∧ x < edKey k l + data.length then data.getD (x - edKey k l) 0 else s.byte x := by
  let b := l / 64 * 64
  have base : edKey k l = edKey k b + (l - b) := by simp only [edKey, b]; omega
  have start : b / 64 * 64 = b := by omega
  have size : (s.bytes (edKey k b) 64).length = 64 := s.length_bytes _ 64
  have before : ((s.bytes (edKey k b) 64).take (l - b)).length = l - b := List.length_take_of_le (by omega)
  have total : ((s.bytes (edKey k b) 64).take (l - b) ++ data ++ (s.bytes (edKey k b) 64).drop (l - b + data.length)).length = 64 := by
    simp only [List.length_append, List.length_drop, before, size]
    omega
  have stored : (s.patchLine k l data).byte x = if edKey k b ≤ x ∧ x < edKey k b + 64
      then ((s.bytes (edKey k b) 64).take (l - b) ++ data ++ (s.bytes (edKey k b) 64).drop (l - b + data.length)).getD (x - edKey k b) 0
      else s.byte x := by
    rw [State.patchLine, State.storeLine_byte, start, total]
  rw [stored]
  by_cases inside : edKey k l ≤ x ∧ x < edKey k l + data.length
  · obtain ⟨low, high⟩ := inside
    rw [if_pos (by omega), if_pos ⟨low, high⟩, List.append_assoc, List.getD_append_right _ _ _ _ (by omega), before, List.getD_append _ _ _ _ (by omega),
      base, Nat.sub_add_eq]
  · rw [if_neg inside]
    split
    · next line =>
      rw [getD_patched (by rw [size]; omega) (by omega), State.getD_bytes _ (by omega), Nat.add_sub_cancel' line.1]
    · rfl

theorem State.patchLine_bytes (s : State) {k l : Nat} {data : List Byte} (fit : l % 64 + data.length ≤ 64) :
    (s.patchLine k l data).bytes (edKey k l) data.length = data := by
  refine State.bytes_eq fun i hi => ?_
  rw [s.patchLine_byte fit, if_pos (by omega), Nat.add_sub_cancel_left]

/-! ### A write of one piece -/

section Piece
variable {s : State} {k l o : Nat} {data : List Byte} {ctx : Option (Nat × Nat)} {req : Requester} {prod : Bool}

/-- The write of a piece: a whole line is stored, of another the rest is read. -/
theorem State.writeParts_one (obs : List ReadObs) (nonempty : 0 < data.length) (fit : o % 64 + data.length ≤ 64) (here : s.edMap o = some (k, l))
    (up : s.stackUp k = true) (decided : (s.stk k).holds l = false) (saved : s.pendingAt k l = false) :
    s.writeParts o data ctx req obs prod = if data.length = 64 then s.mergeLine k l data ctx else s.mergeRead k l o data ctx req (obs.getD 0 {}) := by
  have direct : s.writeLine k l o data ctx req prod = s.mergeLine k l data ctx := by simp [State.writeLine, decided, saved]
  unfold State.writeParts
  rw [splitLines_one nonempty fit]
  simp only [List.zipIdx_cons, List.zipIdx_nil, List.foldl_cons, List.foldl_nil, here, up, decided, saved, direct, Bool.not_true, Bool.false_eq_true,
    if_false, Bool.false_and, Bool.or_self, Bool.false_or, decide_eq_true_eq, Bool.true_and]

theorem State.mergeLine_whole (start : l % 64 = 0) (whole : data.length = 64) :
    s.mergeLine k l data ctx = (s.storeLine k l data (s.rcOf k l ctx), true) := by
  simp [State.mergeLine, start, whole]

theorem State.mergeRead_passes (written : (s.lineMeta k (l / 64 * 64)).unwritten = false) (passes : s.lineFails k (l / 64 * 64) = false) :
    s.mergeRead k l o data ctx req {} = (s.patchLine k l data, true) := by
  rw [State.mergeRead, State.readLine_clean_passes ctx written passes]
  rfl

theorem State.mergeRead_fails (fails : s.lineFails k (l / 64 * 64) = true) (lost : (s.lineMeta k (l / 64 * 64)).rc = false) :
    ∃ kind, s.mergeRead k l o data ctx req {} = (s.lineBusError k l kind ctx, false) := by
  obtain ⟨kind, read⟩ := State.readLine_clean_fails ctx fails lost
  exact ⟨kind, by rw [State.mergeRead, read]⟩

end Piece

end Sys2Proof.Machine
end

section
/-! SUPPORT. Which bytes a read of a line, a recompute that is begun, and a write from outside may change (R170, R173, R178). -/
namespace Sys2Proof.Machine
-- With this option Lean elaborates the proofs in turn, in fewer threads than the check's memory limit allows for.
set_option deprecated.oldSectionVars true

/-! ### The line of an address -/

/-- The bytes of an address's line lie next to one another in one stack (R163). -/
theorem State.edMap_wholeLine {s : State} {o k l : Nat} (h : s.edMap o = some (k, l)) {j : Nat} (hj : j < 64) :
    s.edMap (o / 64 * 64 + j) = some (k, l / 64 * 64 + j) := by
  obtain ⟨inside, place, within⟩ := State.edMap_eq_some.mp h
  have low := (State.edMap_line h).1
  have split : o = o / 64 * 64 + o % 64 := by omega
  obtain ⟨die, rest⟩ := line_div_mod (n := o / 64 * 64) (j := o % 64) (gib_line 576) (by omega)
  rw [← split] at die rest
  have aligned : o / 64 * 64 % (576 * gib) % 64 = 0 := by
    rw [Nat.mod_mod_of_dvd _ (Nat.dvd_of_mod_eq_zero (gib_line 576))]
    omega
  have near := (edPlace_line (s.ilOf (o / (576 * gib))) (o / (576 * gib)) (p := o / 64 * 64 % (576 * gib)) (j := o % 64) (by omega)).2
  rw [rest, near] at place
  obtain ⟨stack, loc⟩ := Prod.mk.inj place
  have start : s.edMap (o / 64 * 64) = some (k, l / 64 * 64) := by
    refine State.edMap_eq_some.mpr ⟨die ▸ inside, ?_, Nat.lt_of_le_of_lt (Nat.div_mul_le_self l 64) within⟩
    rw [← die]
    exact Prod.ext stack (by dsimp only; omega)
  exact (State.edMap_line start).2.2 j (by omega)

/-! ### The inner code -/

/-- What is delivered of one sector: the bytes as they were corrected, or as they are stored. -/
def sectorOf (w : Option (List Nat × Bool)) (d : List Byte) : List Byte :=
  match w with
  | some (x, true) => x.map (BitVec.ofNat 8)
  | _ => d

theorem innerWord_length {fl : List SymErr} {w : Nat} {d x : List Nat} {b : Bool} (h : innerWord fl w d = some (x, b)) : x.length ≤ d.length := by
  unfold innerWord at h
  extract_lets mine at h
  split at h
  · obtain rfl : d = x := congrArg Prod.fst (Option.some.inj h)
    exact Nat.le_refl _
  · obtain ⟨r, -, same⟩ := Option.map_eq_some_iff.mp h
    obtain ⟨rfl, -⟩ := Prod.mk.inj same
    exact List.length_take_le _ _

theorem length_sectorOf (fl : List SymErr) (w : Nat) (d : List Byte) : (sectorOf (innerWord fl w (d.map (·.toNat))) d).length ≤ d.length := by
  unfold sectorOf
  split
  · next x e =>
    rw [List.length_map]
    exact (innerWord_length e).trans (Nat.le_of_eq (List.length_map _))
  · exact Nat.le_refl _

theorem State.innerRead_data (s : State) (k l : Nat) (fl : List SymErr) : (s.innerRead k l fl).2.data =
    sectorOf (innerWord fl 0 (((s.bytes (edKey k (l / 64 * 64)) 64).take 32).map (·.toNat))) ((s.bytes (edKey k (l / 64 * 64)) 64).take 32) ++
      sectorOf (innerWord fl 1 (((s.bytes (edKey k (l / 64 * 64)) 64).drop 32).map (·.toNat))) ((s.bytes (edKey k (l / 64 * 64)) 64).drop 32) := rfl

theorem State.length_innerRead (s : State) (k l : Nat) (fl : List SymErr) : (s.innerRead k l fl).2.data.length ≤ 64 := by
  have first := length_sectorOf fl 0 ((s.bytes (edKey k (l / 64 * 64)) 64).take 32)
  have second := length_sectorOf fl 1 ((s.bytes (edKey k (l / 64 * 64)) 64).drop 32)
  rw [List.length_take, State.length_bytes] at first
  rw [List.length_drop, State.length_bytes] at second
  rw [State.innerRead_data, List.length_append]
  omega

/-- Corrected words are written back to the line, and nowhere else (R170). -/
theorem State.innerRead_mem (s : State) (k l : Nat) (fl : List SymErr) : (s.innerRead k l fl).1.mem = s.mem ∨
    (s.innerRead k l fl).1.mem = (s.setBytes (edKey k (l / 64 * 64)) (s.innerRead k l fl).2.data).mem := by
  rw [State.innerRead_data]
  unfold State.innerRead
  extract_lets b raw m w0 w1 w2 half data fix md t u
  have words : t.mem = s.mem ∨ t.mem = (s.setBytes (edKey k b) data).mem := by
    unfold t
    split
    · exact .inr rfl
    · exact .inl rfl
  have sameMem : u.mem = t.mem := by
    unfold u
    split <;> rfl
  exact words.imp sameMem.trans sameMem.trans

theorem State.innerRead_byte (s : State) (k l : Nat) (fl : List SymErr) {x : Nat} (out : ¬ (edKey k (l / 64 * 64) ≤ x ∧ x < edKey k (l / 64 * 64) + 64)) :
    (s.innerRead k l fl).1.byte x = s.byte x := by
  have size := s.length_innerRead k l fl
  obtain same | written := s.innerRead_mem k l fl
  · exact State.byte_congr same x
  · rw [State.byte_congr written, State.byte_setBytes, if_neg (by omega)]

/-! ### Steps that store at given keys only -/

section Rules
variable {s0 s : State} {keys : List Nat}

/-- The keys hold the whole line. -/
def LineIn (keys : List Nat) (k l : Nat) : Prop := ∀ j < 64, edKey k (l / 64 * 64 + j) ∈ keys

theorem LineIn.mem {k l x : Nat} (h : LineIn keys k l) (low : edKey k (l / 64 * 64) ≤ x) (high : x < edKey k (l / 64 * 64) + 64) : x ∈ keys := by
  have key : x = edKey k (l / 64 * 64 + (x - edKey k (l / 64 * 64))) := by simp only [edKey] at *; omega
  rw [key]
  exact h _ (by omega)

theorem State.Stores.innerRead (h : s0.Stores s keys) {k l : Nat} (named : LineIn keys k l) (fl : List SymErr) :
    s0.Stores (s.innerRead k l fl).1 keys := by
  refine h.trans ⟨State.edMap_congr (fun _ => s.innerRead_mc _ _ _ _ _ _) (fun _ => s.innerRead_mc _ _ _ _ _ _), fun x hx => ?_⟩
  exact s.innerRead_byte k l fl fun ⟨low, high⟩ => hx (named.mem low high)

theorem State.Stores.innerCount (h : s0.Stores s keys) (k l : Nat) (x : InnerLine) (old : List Nat) : s0.Stores (s.innerCount k l x old) keys :=
  h.quiet (State.edMap_congr (fun _ => s.innerCount_mc _ _ _ (by decide) (by decide) _ _ _) (fun _ => s.innerCount_mc _ _ _ (by decide) (by decide) _ _ _))
    ((State.innerCount_kept (Msub.refl _) (.refl _ s)).mem rfl)

theorem State.Stores.bump_mc (h : s0.Stores s keys) (k : Nat) {f : Fld} (behind : 0x104 < f.off) (inside : f.off < 4096) : s0.Stores (s.bump (.mc k) f) keys :=
  h.quiet (s.edMap_bump_mc k behind inside) (State.bump_mem _ _ _ _)

theorem State.Stores.lastErr (h : s0.Stores s keys) (k l kind : Nat) (ctx : Option (Nat × Nat)) : s0.Stores (s.lastErr k l kind ctx) keys :=
  h.quiet (s.edMap_lastErr _ _ _ _) ((State.lastErr_kept (Msub.refl _) (.refl _ s)).mem rfl)

theorem State.Stores.event (h : s0.Stores s keys) (code source : Nat) (items : List Item) : s0.Stores (s.event code source items) keys :=
  h.framed (State.event_kept (Msub.refl _) (.refl _ s)) rfl rfl

theorem State.Stores.lineBusError (h : s0.Stores s keys) (k l kind : Nat) (ctx : Option (Nat × Nat)) : s0.Stores (s.lineBusError k l kind ctx) keys :=
  ((h.bump_mc k (by decide) (by decide)).lastErr _ _ _ _).event _ _ _

theorem State.Stores.readUnwritten (h : s0.Stores s keys) (k l : Nat) (ctx : Option (Nat × Nat)) : s0.Stores (s.readUnwritten k l ctx) keys :=
  ((h.bump_mc k (by decide) (by decide)).lastErr _ _ _ _).event _ _ _

/-- A read of a line stores in the line only, and delivers no more than the line. -/
theorem State.Stores.readLine (h : s0.Stores s keys) {k l : Nat} (named : LineIn keys k l) (ctx : Option (Nat × Nat)) (o : ReadObs) :
    s0.Stores (s.readLine k l ctx o).1 keys ∧ ∀ data, (s.readLine k l ctx o).2 = .ok data → data.length ≤ 64 := by
  have first := h.innerRead named o.first
  have size := s.length_innerRead k l o.first
  unfold State.readLine
  generalize s.innerRead k l o.first = p at first size
  obtain ⟨t, x⟩ := p
  dsimp only at first size ⊢
  have counted := first.innerCount k l x []
  generalize t.innerCount k l x [] = t1 at counted
  split
  · exact ⟨counted.readUnwritten k l ctx, nofun⟩
  · split
    · exact ⟨counted, fun data same => (LineRead.ok.inj same) ▸ size⟩
    · have again : s0.Stores (if x.md.poison = true then (t1, x) else t1.innerRead k l o.again).1 keys ∧
          (if x.md.poison = true then (t1, x) else t1.innerRead k l o.again).2.data.length ≤ 64 := by
        split
        · exact ⟨counted, size⟩
        · exact ⟨counted.innerRead named _, t1.length_innerRead _ _ _⟩
      generalize (if x.md.poison = true then (t1, x) else t1.innerRead k l o.again) = q at again
      obtain ⟨t2, y⟩ := q
      obtain ⟨reread, size⟩ := again
      dsimp only at reread size ⊢
      have recounted : s0.Stores (if x.md.poison = true then t2 else t2.innerCount k l y x.due) keys := by
        split
        · exact reread
        · exact reread.innerCount _ _ _ _
      generalize (if x.md.poison = true then t2 else t2.innerCount k l y x.due) = t3 at recounted
      split
      · exact ⟨(recounted.bump_mc k (by decide) (by decide)).event _ _ _, fun data same => (LineRead.ok.inj same) ▸ size⟩
      · split
        · exact ⟨recounted, nofun⟩
        · exact ⟨recounted.lineBusError _ _ _ _, nofun⟩

theorem State.Stores.storeLine (h : s0.Stores s keys) {k l : Nat} (named : LineIn keys k l) {data : List Byte} (fit : data.length ≤ 64) (rc : Bool) :
    s0.Stores (s.storeLine k l data rc) keys := by
  refine h.trans ⟨s.storeLine_edMap k l data rc, fun x hx => ?_⟩
  rw [State.storeLine_byte, if_neg]
  exact fun ⟨low, high⟩ => hx (named.mem low (by omega))

theorem State.Stores.setStk (h : s0.Stores s keys) (k : Nat) (x : Stack) : s0.Stores (s.setStk k x) keys :=
  h.framed (State.setStk_kept (Msub.refl _) (.refl _ s)) rfl rfl

theorem State.Stores.nmuFetch (h : s0.Stores s keys) (k addr src ctx gen part : Nat) : s0.Stores (s.nmuFetch k addr src ctx gen part).1 keys := by
  unfold State.nmuFetch
  split
  next t b e =>
    have first := (h.readMem _ _ _).fst e
    extract_lets c0 c1
    split
    extract_lets c2
    split
    · split
      next u b' e' =>
        have second := (first.readMem _ _ _).fst e'
        split
        · exact second
        · exact second
    · exact first

/-- The command block of a recompute is read; else its post keeps to the controllers' records (R178). -/
theorem State.Stores.recompPost (h : s0.Stores s keys) (k : Nat) (r : Recomp) : s0.Stores (s.recompPost k r) keys := by
  unfold State.recompPost
  extract_lets n ctx gen
  have fetched := h.nmuFetch k (s.fld64 (.mc k) (Mc.RCR_PROD_LO n)) 2 ctx gen (s.ctxPart ctx)
  generalize s.nmuFetch k (s.fld64 (.mc k) (Mc.RCR_PROD_LO n)) 2 ctx gen (s.ctxPart ctx) = p at fetched
  obtain ⟨t, c⟩ := p
  exact (fetched.framed (State.setNmu_kept (Msub.refl _) (.refl _ _)) rfl rfl).setStk _ _

theorem State.Stores.recompNext (h : s0.Stores s keys) (k : Nat) : s0.Stores (s.recompNext k) keys := by
  unfold State.recompNext
  extract_lets x
  split
  · split
    · exact h
    · exact (h.setStk _ _).recompPost _ _
  · exact h

theorem State.Stores.recompFail (h : s0.Stores s keys) (k : Nat) (w : RcWait) : s0.Stores (s.recompFail k w) keys := by
  have lost : s0.Stores (s.waitLost k w) keys := ((h.bump_mc k (by decide) (by decide)).lastErr _ _ _ _).event _ _ _
  rw [State.recompFail_eq]
  split
  · exact lost.framed (State.dropMerges_kept (Msub.refl _) (.refl _ _)) rfl rfl
  · exact lost.framed (State.lineOutcome_kept (Msub.refl _) (.refl _ _)) rfl rfl

theorem State.Stores.recompWait (h : s0.Stores s keys) (k n : Nat) (w : RcWait) : s0.Stores (s.recompWait k n w) keys := by
  unfold State.recompWait
  extract_lets x
  split
  · exact h.recompFail k w
  · split
    · split
      · exact h.setStk _ _
      · exact h.setStk _ _
    · exact (h.setStk _ _).recompNext k

/-- The merge of a part stores in its line only, whatever its read finds (R173). -/
theorem State.Stores.mergeRead (h : s0.Stores s keys) {k l : Nat} (named : LineIn keys k l) (o : Nat) {data : List Byte} (fit : l % 64 + data.length ≤ 64)
    (ctx : Option (Nat × Nat)) (req : Requester) (ob : ReadObs) : s0.Stores (s.mergeRead k l o data ctx req ob).1 keys := by
  have read := h.readLine named ctx ob
  have start : l / 64 * 64 / 64 * 64 = l / 64 * 64 := by omega
  unfold State.mergeRead
  generalize s.readLine k l ctx ob = p at read
  obtain ⟨t, out⟩ := p
  obtain ⟨read, size⟩ := read
  split
  · next u old e =>
    obtain ⟨rfl, rfl⟩ := Prod.mk.inj e
    refine read.storeLine (l := l / 64 * 64) (by rwa [LineIn, start]) ?_ false
    have := size old rfl
    simp only [List.length_append, List.length_take, List.length_drop]
    omega
  · next e => exact read.fst e
  · next u n e =>
    obtain ⟨rfl, -⟩ := Prod.mk.inj e
    exact (read.framed (State.lineHoldW_kept (Msub.refl _) (.refl _ _)) rfl rfl).recompWait _ _ _

/-- Bytes that are cut at line boundaries are cut into pieces of at least one byte. -/
theorem splitLines_pos {n o : Nat} {bs : List Byte} {p : Nat × List Byte} (h : p ∈ splitLines n o bs) : 0 < p.2.length := by
  induction n generalizing o bs with
  | zero => exact nomatch h
  | succ n ih =>
    unfold splitLines at h
    split at h
    · exact nomatch h
    · next nonempty =>
      obtain rfl | later := List.mem_cons.mp h
      · have : 0 < bs.length := List.length_pos_iff.mpr fun empty => nonempty (List.isEmpty_iff.mpr empty)
        rw [List.length_take]
        omega
      · exact ih later

/-- The lines that a range touches, as keys. -/
theorem lineIn_rangeKeys {o n i k l : Nat} (small : o + n ≤ 2 ^ 44) (inside : i < n) (here : s.edMap (o + i) = some (k, l)) :
    LineIn (s.rangeKeys (o / 64 * 64) ((o % 64 + n + 63) / 64 * 64)) k l := by
  intro j hj
  have place := State.edMap_wholeLine here hj
  have low : gaSpace (o / 64 * 64) = 0 ∧ gaOff (o / 64 * 64) = o / 64 * 64 := by
    simp only [gaSpace, gaOff]
    omega
  refine State.mem_rangeKeys.mpr ⟨(o + i) / 64 * 64 + j - o / 64 * 64, by omega, State.memKey_edesk low.1 ?_⟩
  rw [low.2, Nat.add_sub_cancel' (by omega), place]

/-- A write from outside keeps to the lines that it touches. -/
theorem State.Stores.writeParts (o : Nat) {data : List Byte} (small : o + data.length ≤ 2 ^ 44) (ctx : Option (Nat × Nat)) (req : Requester)
    (obs : List ReadObs) (prod : Bool) :
    s.Stores (s.writeParts o data ctx req obs prod).1 (s.rangeKeys (o / 64 * 64) ((o % 64 + data.length + 63) / 64 * 64)) := by
  unfold State.writeParts
  refine State.Stores.foldl (.refl s _) fun acc e he hacc => ?_
  have piece : e.1 ∈ splitLines data.length o data := List.zipIdx_map_fst _ (l := splitLines data.length o data) ▸ List.mem_map_of_mem he
  extract_lets p
  have cut : ∃ i, p.1 = o + i ∧ p.1 % 64 + p.2.length ≤ 64 ∧ ∀ j < p.2.length, i + j < data.length := mem_splitLines piece
  obtain ⟨i, place, fit, inside⟩ := cut
  split
  · exact hacc
  · next k l here =>
    rw [hacc.map, place] at here
    obtain ⟨low, -, -⟩ := State.edMap_line here
    have named := lineIn_rangeKeys small (inside 0 (splitLines_pos piece)) here
    split
    · exact hacc
    · dsimp only
      split
      · refine hacc.writeLine _ _ _ _ (by omega) fun j hj => ?_
        have := named (l % 64 + j) (by omega)
        rwa [← Nat.add_assoc, Nat.div_add_mod'] at this
      · exact hacc.mergeRead named _ (by omega) _ _ _

end Rules

end Sys2Proof.Machine
end

section
/-! What reads and writes of Edesk lines, and recomputes, answer and leave (R172–R175, R178, R180). -/
namespace Sys2Proof.Machine
-- With this option Lean elaborates the proofs in turn, in fewer threads than the check's memory limit allows for.
set_option deprecated.oldSectionVars true

/-! ### Reads -/

section Reads
variable {s t : State} {k l : Nat} {req : Requester} {o : ReadObs} {data : List Byte}

/-- The good data of a line that is read are delivered. -/
theorem exec_edeskRead_ok (up : s.stackUp k = true) (inside : l < s.capOf k) (decided : (s.stk k).holds l = false)
    (read : s.readLine k l (s.reqCtx req) o = (t, .ok data)) : exec (.edeskRead k l req o) s = .next (t.deliverLine req data) := by
  have within : ¬ s.capOf k ≤ l := Nat.not_le_of_lt inside
  simp [exec, execEdeskRead, State.edeskRead, up, within, decided, read]

/-- The host's read of a line that fails is answered with the poison pattern (Table 6.3). -/
theorem exec_edeskRead_err (up : s.stackUp k = true) (inside : l < s.capOf k) (decided : (s.stk k).holds l = false)
    (read : s.readLine k l none o = (t, .err)) :
    exec (.edeskRead k l .host o) s = .next ((t.bump .hst Pci.BAR2_POISON_CNT).emit (.hostRead 2 (List.replicate 64 0xFF))) := by
  have within : ¬ s.capOf k ≤ l := Nat.not_le_of_lt inside
  have read : s.readLine k l (s.reqCtx .host) o = (t, .err) := read
  simp only [exec, execEdeskRead, State.edeskRead, up, within, decided, read, Bool.not_true, decide_false, Bool.or_false, Bool.false_eq_true, if_false]
  rfl

/-- The answer to the host changes no counter of a memory controller. -/
theorem State.poisoned_mc (s : State) (out : Out) (k : Nat) (f : Fld) : ((s.bump .hst Pci.BAR2_POISON_CNT).emit out).fld (.mc k) f = s.fld (.mc k) f := by
  rw [State.emit_fld]
  exact s.fld_setFld_ne _ _ _ _ _ _ _ (regKey_ne_of_kind (by simp [Page.kind]))

theorem edeskRead_passes (up : s.stackUp k = true) (inside : l < s.capOf k) (decided : (s.stk k).holds l = false)
    (written : (s.lineMeta k (l / 64 * 64)).unwritten = false) (passes : s.lineFails k (l / 64 * 64) = false) :
    ∃ t, exec (.edeskRead k l req {}) s = .next t ∧ t.mem = s.mem ∧ t.lines = s.lines ∧
      (req = .host → t.out = s.out ++ [Out.hostRead 0 (s.bytes (edKey k (l / 64 * 64)) 64)]) := by
  refine ⟨_, exec_edeskRead_ok up inside decided (State.readLine_clean_passes _ written passes), ?_, ?_, ?_⟩
  · exact (State.deliverLine_kept (Msub.refl _) (.refl _ s)).mem rfl
  · exact (State.deliverLine_kept (Msub.refl _) (.refl _ s)).lines rfl
  · exact fun same => same ▸ rfl

theorem edeskRead_refetched (up : s.stackUp k = true) (inside : l < s.capOf k) (decided : (s.stk k).holds l = false) :
    let x := (s.innerRead k l o.first).2
    let s1 := (s.innerRead k l o.first).1.innerCount k l x []
    x.md.unwritten = false → x.md.poison = false → x.good k l = false → (s1.innerRead k l o.again).2.good k l = true →
    ∃ t, exec (.edeskRead k l .host o) s = .next t ∧ Out.hostRead 0 (s1.innerRead k l o.again).2.data ∈ t.out ∧
      t.fld (.mc k) Mc.OUT_TRANSIENT_CNT = min (s.fld (.mc k) Mc.OUT_TRANSIENT_CNT + 1) (2 ^ 32 - 1) := by
  intro x s1 written unmarked bad good
  have read := State.readLine_refetched none (s := s) (k := k) (l := l) (o := o) rfl rfl rfl rfl written unmarked bad good
  refine ⟨_, exec_edeskRead_ok up inside decided read, List.mem_append_right _ (List.mem_singleton.mpr rfl), ?_⟩
  rw [(State.deliverLine_kept (Msub.refl _) (.refl _ _)).fld_mc k _ _ rfl, State.event_mc]
  refine (State.fld_bump_same _ (.mc k) 0x124 0).trans ?_
  have counts : Mc.OUT_TRANSIENT_CNT.off ∉ channelCounts := by decide
  have first : s1.fld (.mc k) Mc.OUT_TRANSIENT_CNT = s.fld (.mc k) Mc.OUT_TRANSIENT_CNT :=
    (State.innerCount_mc _ _ _ _ (by decide) counts _ _ _).trans (State.innerRead_mc _ _ _ _ _ _ _)
  have again : ((s1.innerRead k l o.again).1.innerCount k l (s1.innerRead k l o.again).2 x.due).fld (.mc k) Mc.OUT_TRANSIENT_CNT
      = s1.fld (.mc k) Mc.OUT_TRANSIENT_CNT :=
    (State.innerCount_mc _ _ _ _ (by decide) counts _ _ _).trans (State.innerRead_mc _ _ _ _ _ _ _)
  exact congrArg (fun n => min (n + 1) (2 ^ 32 - 1)) (again.trans first)

theorem edeskRead_unwritten (up : s.stackUp k = true) (inside : l < s.capOf k) (decided : (s.stk k).holds l = false)
    (unwritten : (s.lineMeta k (l / 64 * 64)).unwritten = true) :
    ∃ t, exec (.edeskRead k l .host {}) s = .next t ∧ t.mem = s.mem ∧ t.fld (.mc k) Mc.UNWRITTEN_CNT = min (s.fld (.mc k) Mc.UNWRITTEN_CNT + 1) (2 ^ 32 - 1) ∧
      Out.hostRead 2 (List.replicate 64 0xFF) ∈ t.out := by
  refine ⟨_, exec_edeskRead_err up inside decided (State.readLine_clean_unwritten none unwritten), ?_, ?_, List.mem_append_right _ (List.mem_singleton.mpr rfl)⟩
  · rw [State.emit_mem, State.bump_mem, State.readUnwritten_mem]
  · rw [State.poisoned_mc, State.readUnwritten_counts]

theorem edeskRead_fails (up : s.stackUp k = true) (inside : l < s.capOf k) (decided : (s.stk k).holds l = false)
    (fails : s.lineFails k (l / 64 * 64) = true) (lost : (s.lineMeta k (l / 64 * 64)).rc = false) :
    ∃ t, exec (.edeskRead k l .host {}) s = .next t ∧ t.mem = s.mem ∧ Out.hostRead 2 (List.replicate 64 0xFF) ∈ t.out ∧
      t.fld (.mc k) Mc.OUT_BUSERR_CNT = min (s.fld (.mc k) Mc.OUT_BUSERR_CNT + 1) (2 ^ 32 - 1) := by
  obtain ⟨kind, read⟩ := State.readLine_clean_fails none fails lost
  refine ⟨_, exec_edeskRead_err up inside decided read, ?_, List.mem_append_right _ (List.mem_singleton.mpr rfl), ?_⟩
  · rw [State.emit_mem, State.bump_mem]
    exact (s.lineBusError_stored _ _ _ _).1
  · rw [State.poisoned_mc, State.lineBusError_counts]

end Reads

/-! ### A recompute that has ended -/

theorem recomputeDone_serves {s : State} {k : Nat} {c : NCmd} {r : Recomp} (found : (s.nmuSt k).running.find? (fun c => c.src == 2) = some c)
    (ended : c.done = true) (waiting : ((s.recompLeft k c).stk k).recomp = some r) :
    ∃ t u : State, exec (.recomputeDone k []) s = .next t ∧ t = u.recompEnd k ∧ (u.stk k).recomp = none ∧ (∀ x ∈ (u.nmuSt k).running, x.src ≠ 2) ∧
      (c.err ≠ 0 → u.fld (.mc k) Mc.OUT_BUSERR_CNT = min ((s.recompLeft k c).fld (.mc k) Mc.OUT_BUSERR_CNT + r.waits.length) (2 ^ 32 - 1)) ∧
      (c.err = 0 → (∀ w ∈ r.waits, ((s.recompLeft k c).lineMeta k (w.line / 64 * 64)).unwritten = false ∧
          (s.recompLeft k c).lineFails k (w.line / 64 * 64) = false) →
        u.mem = (s.recompLeft k c).mem ∧ u.fld (.mc k) Mc.OUT_BUSERR_CNT = (s.recompLeft k c).fld (.mc k) Mc.OUT_BUSERR_CNT ∧
          u.fld (.mc k) Mc.OUT_RECOMP_CNT
            = min ((s.recompLeft k c).fld (.mc k) Mc.OUT_RECOMP_CNT + ((r.waits.map (fun w => w.line / 64)).eraseDups).length) (2 ^ 32 - 1)) := by
  have work := (s.recompLeft k c).recompServed_leaves k c.err r
  have gone := s.recompLeft_running k c
  have run := exec_recomputeDone [] found ended waiting
  generalize s.recompLeft k c = v at waiting work gone run ⊢
  refine ⟨_, _, run, rfl, ?_, ?_, ?_, ?_⟩
  · exact (work.recomp k).trans (v.recompClosed_recomp k)
  · intro x hx
    have src : x.src ∈ (v.nmuSt k).running.map (·.src) := work.srcs k ▸ List.mem_map_of_mem hx
    obtain ⟨y, hy, same⟩ := List.mem_map.mp src
    exact same ▸ gone y hy
  · intro failed
    rw [State.recompServed_error v k r failed, State.recompFails_count, State.recompClosed, State.setStk_fld]
  · intro succeeded restored
    rw [succeeded]
    exact State.recompServed_good (fun w hw => (restored w hw).1) (fun w hw => (restored w hw).2)

/-! ### Writes -/

section Writes
variable {s : State} {k l o : Nat} {data : List Byte} {req : Requester}

/-- A write answers as its parts have ended. -/
theorem State.edeskWrite_eq (s : State) (o : Nat) (data : List Byte) (req : Requester) (obs : List ReadObs) :
    ∃ prod, s.edeskWrite o data req obs = (s.writeParts o data (s.reqCtx req) req obs prod).1.writeDone req (s.writeParts o data (s.reqCtx req) req obs prod).2 :=
  ⟨_, rfl⟩

theorem State.bytes_congr {s t : State} (h : t.mem = s.mem) (k n : Nat) : t.bytes k n = s.bytes k n :=
  (congrArg (t.bytes k) (s.length_bytes k n)).symm.trans (State.bytes_eq fun _ hi => (State.byte_congr h _).trans
    (State.getD_bytes s (Nat.lt_of_lt_of_eq hi (s.length_bytes k n))).symm)

theorem State.lineMeta_congr {s t : State} (h : t.lines = s.lines) (k l : Nat) : t.lineMeta k l = s.lineMeta k l := by
  rw [State.lineMeta, h, State.lineMeta]

theorem State.setBytes_regs (s : State) (k : Nat) (data : List Byte) : (s.setBytes k data).regs = s.regs := by
  induction data generalizing s k with
  | nil => rfl
  | cons b t ih => rw [State.setBytes, ih, State.setByte_regs]

/-- What is stored stays as the write is answered. -/
theorem State.writeDone_stored (s : State) (req : Requester) (ok : Bool) : (s.writeDone req ok).mem = s.mem ∧ (s.writeDone req ok).lines = s.lines :=
  have frame := State.writeDone_kept (p1 := req) (p2 := ok) (Msub.refl _) (.refl _ s)
  ⟨frame.mem rfl, frame.lines rfl⟩

theorem edeskLineWrite_stores (whole : data.length = 64) (here : s.edMap (o / 64 * 64) = some (k, l)) (up : s.stackUp k = true)
    (decided : (s.stk k).holds l = false) (saved : s.unitSt k (l / 4096) ≠ 1) :
    ∃ t, exec (.edeskLineWrite o data req) s = .next t ∧ t.bytes (edKey k l) 64 = data ∧
      t.lineMeta k l = { crc := outerCode k l data, rc := s.rcOf k l (s.reqCtx req), unwritten := false, poison := false } ∧
      s.KeepsBytes t ((List.range 64).map (fun i => edKey k l + i)) ∧ (req = .host → t.regs = s.regs) := by
  have start : l % 64 = 0 := by
    have := (State.edMap_line here).1
    omega
  have line : l / 64 * 64 = l := by omega
  have unheld : s.pendingAt k l = false := beq_eq_false_iff_ne.mpr saved
  have written : exec (.edeskLineWrite o data req) s = .next ((s.storeLine k l data (s.rcOf k l (s.reqCtx req))).writeDone req true) := by
    have all : data.take 64 = data := List.take_of_length_le (by omega)
    obtain ⟨prod, write⟩ := s.edeskWrite_eq (o / 64 * 64) data req []
    rw [State.writeParts_one [] (by omega) (by omega) here up decided unheld, if_pos whole, State.mergeLine_whole start whole] at write
    simp only [exec, execEdeskLineWrite, all, write]
  obtain ⟨bytes, codes⟩ := (s.storeLine k l data (s.rcOf k l (s.reqCtx req))).writeDone_stored req true
  have stored : ∀ x, (s.storeLine k l data (s.rcOf k l (s.reqCtx req))).byte x
      = if edKey k l ≤ x ∧ x < edKey k l + 64 then data.getD (x - edKey k l) 0 else s.byte x := by
    intro x
    rw [State.storeLine_byte, line, whole]
  refine ⟨_, written, ?_, ?_, fun x hx => ?_, ?_⟩
  · rw [State.bytes_congr bytes, ← whole]
    refine State.bytes_eq fun i hi => ?_
    rw [stored, if_pos (by omega), Nat.add_sub_cancel_left]
  · rw [State.lineMeta_congr codes, State.storeLine_lineMeta _ _ _ _ _ _ rfl, line]
  · rw [State.byte_congr bytes, stored, if_neg]
    rintro ⟨low, high⟩
    exact hx (List.mem_map.mpr ⟨x - edKey k l, List.mem_range.mpr (by omega), by omega⟩)
  · rintro rfl
    exact s.setBytes_regs (edKey k (l / 64 * 64)) data

theorem exec_edeskPartialWrite_one (nonempty : 0 < data.length) (fit : o % 64 + data.length ≤ 64) (part : data.length < 64) (here : s.edMap o = some (k, l))
    (up : s.stackUp k = true) (decided : (s.stk k).holds l = false) (saved : s.unitSt k (l / 4096) ≠ 1) :
    exec (.edeskPartialWrite o data [] req) s
      = .next ((s.mergeRead k l o data (s.reqCtx req) req {}).1.writeDone req (s.mergeRead k l o data (s.reqCtx req) req {}).2) := by
  have unheld : s.pendingAt k l = false := beq_eq_false_iff_ne.mpr saved
  obtain ⟨prod, write⟩ := s.edeskWrite_eq o data req []
  rw [State.writeParts_one [] nonempty fit here up decided unheld, if_neg (Nat.ne_of_lt part)] at write
  exact congrArg Host.Outcome.next write

theorem edeskPartialWrite_merges (nonempty : 0 < data.length) (fit : o % 64 + data.length ≤ 64) (part : data.length < 64) (here : s.edMap o = some (k, l))
    (up : s.stackUp k = true) (decided : (s.stk k).holds l = false) (saved : s.unitSt k (l / 4096) ≠ 1)
    (written : (s.lineMeta k (l / 64 * 64)).unwritten = false) (passes : s.lineFails k (l / 64 * 64) = false) :
    ∃ t, exec (.edeskPartialWrite o data [] req) s = .next t ∧ t.bytes (edKey k l) data.length = data ∧
      s.KeepsBytes t ((List.range data.length).map (fun i => edKey k l + i)) ∧ (t.lineMeta k (l / 64 * 64)).rc = false := by
  have run := exec_edeskPartialWrite_one (req := req) nonempty fit part here up decided saved
  rw [State.mergeRead_passes written passes] at run
  have within : l % 64 + data.length ≤ 64 := (State.edMap_line here).1 ▸ fit
  obtain ⟨bytes, codes⟩ := (s.patchLine k l data).writeDone_stored req true
  refine ⟨_, run, ?_, fun x hx => ?_, ?_⟩
  · rw [State.bytes_congr bytes, s.patchLine_bytes within]
  · rw [State.byte_congr bytes, s.patchLine_byte within, if_neg]
    rintro ⟨low, high⟩
    exact hx (List.mem_map.mpr ⟨x - edKey k l, List.mem_range.mpr (by omega), by omega⟩)
  · rw [State.lineMeta_congr codes, State.patchLine, State.storeLine_lineMeta _ _ _ _ _ _ rfl]

theorem edeskPartialWrite_fails (nonempty : 0 < data.length) (fit : o % 64 + data.length ≤ 64) (part : data.length < 64) (here : s.edMap o = some (k, l))
    (up : s.stackUp k = true) (decided : (s.stk k).holds l = false) (saved : s.unitSt k (l / 4096) ≠ 1)
    (fails : s.lineFails k (l / 64 * 64) = true) (lost : (s.lineMeta k (l / 64 * 64)).rc = false) :
    ∃ t, exec (.edeskPartialWrite o data [] .host) s = .next t ∧ t.mem = s.mem ∧ t.lines = s.lines ∧
      t.fld (.mc k) Mc.OUT_BUSERR_CNT = min (s.fld (.mc k) Mc.OUT_BUSERR_CNT + 1) (2 ^ 32 - 1) := by
  have run := exec_edeskPartialWrite_one (req := .host) nonempty fit part here up decided saved
  obtain ⟨kind, read⟩ := State.mergeRead_fails (o := o) (data := data) (ctx := s.reqCtx .host) (req := .host) fails lost
  rw [read] at run
  obtain ⟨bytes, codes⟩ := (s.lineBusError k l kind (s.reqCtx .host)).writeDone_stored .host false
  obtain ⟨sameBytes, sameCodes⟩ := s.lineBusError_stored k l (s.reqCtx .host) kind
  refine ⟨_, run, bytes.trans sameBytes, codes.trans sameCodes, ?_⟩
  rw [(State.writeDone_kept (Msub.refl _) (.refl _ _)).fld_mc k _ _ rfl, State.lineBusError_counts]

theorem edeskPartialWrite_keepsBytes (obs : List ReadObs) (small : o + data.length ≤ 2 ^ 44) :
    ∃ t, exec (.edeskPartialWrite o data obs req) s = .next t ∧
      s.KeepsBytes t (s.rangeKeys (o / 64 * 64) ((o % 64 + data.length + 63) / 64 * 64)) := by
  obtain ⟨prod, write⟩ := s.edeskWrite_eq o data req obs
  have parts := State.Stores.writeParts (s := s) o small (s.reqCtx req) req obs prod
  exact ⟨_, congrArg Host.Outcome.next write, (parts.framed (State.writeDone_kept (Msub.refl _) (.refl _ _)) rfl rfl).kept⟩

end Writes

/-- Settles O13: what a line's codes find decides how a read, a write's merge read, or a wait for a recompute ends. -/
theorem edeskReadsAndWritesEndAsChecked : Obligations.EdeskReadsAndWritesEndAsChecked := by
  unfold Obligations.EdeskReadsAndWritesEndAsChecked
  refine ⟨?readPasses, ?readRefetched, ?readUnwritten, ?readFails, ?recomputeDone, ?recomputeTimeout, ?lineWrite, ?partMerged, ?partFails, ?partKeeps⟩
  case readPasses => exact fun s k l req up inside decided written passes => edeskRead_passes up inside decided written passes
  case readRefetched => exact fun s k l o up inside decided => edeskRead_refetched up inside decided
  case readUnwritten => exact fun s k l up inside decided unwritten => edeskRead_unwritten up inside decided unwritten
  case readFails => exact fun s k l up inside decided fails lost => edeskRead_fails up inside decided fails lost
  case recomputeDone => exact fun s k c r found ended => recomputeDone_serves found ended
  case recomputeTimeout => exact fun s k r waiting late => recomputeTimeout_fails waiting late
  case lineWrite => exact fun s o data req k l whole here up decided saved => edeskLineWrite_stores whole here up decided saved
  case partMerged =>
    exact fun s o data req k l nonempty fit part here up decided saved written passes =>
      edeskPartialWrite_merges nonempty fit part here up decided saved written passes
  case partFails =>
    exact fun s o data k l nonempty fit part here up decided saved fails lost => edeskPartialWrite_fails nonempty fit part here up decided saved fails lost
  case partKeeps => exact fun s o data obs req small => edeskPartialWrite_keepsBytes obs small

end Sys2Proof.Machine
end

section
/-! The queues of a near-memory unit (R191, R193): a command that starts makes room in the page queue, and a post that waits takes it. -/
namespace Sys2Proof.Machine
-- This option makes Lean elaborate the proofs one after the other: side by side they take more threads than the check's memory limit allows.
set_option deprecated.oldSectionVars true

/-- The page queue, where an NMU's state is stored: posts of the module's own that wait for room fill it up (R191). -/
theorem State.setNmu_qPage (s : State) (k : Nat) (x : NmuSt) :
    ((s.setNmu k x).nmuSt k).qPage = x.qPage ++ x.fwQ.take (8 - x.qPage.length) := by
  have stored : (s.setNmu k x).nmuSt k = x.refill := (State.nmuSt_congr (State.setFld_nmus _ _ _ _ _) k).trans (smGet_smSet_same _ _ _ _)
  rw [stored, NmuSt.refill]

theorem exec_nmuCmdStart_starts {s : State} {k : Nat} {c : NCmd} {x : NmuSt} (returned : (s.nmuSt k).inReset = false)
    (works : (s.nmuSt k).failed = false) (room : ((s.nmuSt k).running.filter (fun c => c.src != 2)).length < 4)
    (next : (s.nmuSt k).pick = some (c, x)) (fetched : c.err = 0) (accepted : s.nmuCheck c = 0)
    (free : s.nmuConflict (s.nmuSt k) c = false) :
    exec (.nmuCmdStart k) s = .next (s.setNmu k { x with running := x.running ++ [c] }) := by
  simp [exec, execNmuCmdStart, returned, works, Nat.not_le.mpr room, next, fetched, accepted, free]

/-- A copy of one line of Edesk memory that the module gives itself. -/
def ownCopy : NCmd := { w0 := 2, a1 := 4096, cnt := 64, src := 3 }

/-- The module has posted nine commands to the NMU of stack 0: eight fill its page queue, and the ninth waits for room. -/
def ninePosted : State := ({} : State).setNmu 0 { fwQ := List.replicate 9 ownCopy }

/-- What that NMU holds once it has taken the first of them. -/
def eightLeft : NmuSt := { qPage := List.replicate 7 ownCopy, fwQ := [ownCopy] }

/-- Refutes O10: its second clause says that the start of a command leaves of the page queue what stood behind that command, but where a post
of the module's own waits for room the queue takes it up at once (R191). -/
theorem not_nmuQueuesRunInOrder : ¬ Obligations.NmuQueuesRunInOrder := by
  unfold Obligations.NmuQueuesRunInOrder
  rintro ⟨-, starts, -⟩
  have returned : (ninePosted.nmuSt 0).inReset = false := by decide +kernel
  have works : (ninePosted.nmuSt 0).failed = false := by decide +kernel
  have room : ((ninePosted.nmuSt 0).running.filter (fun c => c.src != 2)).length < 4 := by decide +kernel
  have next : (ninePosted.nmuSt 0).pick = some (ownCopy, eightLeft) := by decide +kernel
  have accepted : ninePosted.nmuCheck ownCopy = 0 := by decide +kernel
  have free : ninePosted.nmuConflict (ninePosted.nmuSt 0) ownCopy = false := by decide +kernel
  obtain ⟨t, run, -, -, page, -⟩ := starts ninePosted 0 ownCopy eightLeft returned works room next rfl accepted free
  obtain rfl := Host.Outcome.next.inj ((exec_nmuCmdStart_starts returned works room next rfl accepted free).symm.trans run)
  rw [State.setNmu_qPage] at page
  have length : eightLeft.qPage.length + 1 = eightLeft.qPage.length := congrArg List.length page
  exact absurd length (by decide)

end Sys2Proof.Machine
end

section
/-! GATHER (R205, R206): rows that are no whole number of bytes, which the lead's check keeps out, end behind the bytes counted for them. -/
namespace Sys2Proof.Machine
-- This option makes Lean elaborate the proofs one after the other: side by side they take more threads than the check's memory limit allows.
set_option deprecated.oldSectionVars true

/-- GATHER of one row of one element of four bits, to address 0; the index is that at address 64, and the table has one row. -/
def halfByteGather : NCmd := { w0 := 7 + 7 * 2 ^ 32, a1 := 128, a2 := 64, cnt := 1, param := 1 + 2 ^ 24 }

/-- The NMU of stack 0 runs this GATHER; the lines at 0 and 64 hold ones, so that the index lies beyond the table. -/
def halfByteRow : State :=
  let lines := { mod_ := { stby := true, uncore := true, mem := true }, nmus := [(0, { running := [halfByteGather] })] : State }
  ((lines.setFld (.mc 0) Mc.MC_STATUS_READY 1).storeLine 0 0 (List.replicate 64 0xFF) false).storeLine 0 64 (List.replicate 64 0xFF) false

theorem halfByteRow_takes : halfByteRow.NmuTakes 0 0 7 0 halfByteGather := ⟨by decide +kernel, by decide +kernel, by decide +kernel⟩

/-- The row of +0 that a missing index gives replaces the lower half of the byte at the destination. -/
theorem exec_nmuGather_halfByteRow {t : State} (run : exec (.nmuGather 0 0) halfByteRow = .next t) :
    t.byte (edKey 0 0) = 0xF0 ∧ halfByteRow.byte (edKey 0 0) = 0xFF := by
  obtain rfl := Host.Outcome.next.inj run
  decide +kernel

/-- Refutes O12: its fifth clause gives a row of GATHER ROWLEN × element width ÷ 8 bytes, rounded down, and does not ask for the lead's check
that this is a whole number (R205): a row of half a byte has none, and changes the byte that it lies in. -/
theorem not_nmuElementCommandsCompute : ¬ Obligations.NmuElementCommandsCompute := by
  unfold Obligations.NmuElementCommandsCompute
  rintro ⟨-, -, -, -, gathers, -⟩
  obtain ⟨t, -, run, -, kept⟩ := gathers halfByteRow 0 0 halfByteGather halfByteRow_takes
  obtain ⟨after, before⟩ := exec_nmuGather_halfByteRow run
  have same : t.byte (edKey 0 0) = halfByteRow.byte (edKey 0 0) := kept _ (by decide +kernel)
  rw [after, before] at same
  exact absurd same (by decide)

end Sys2Proof.Machine
end

section
/-! SUPPORT. What the records of bundles, lanes and ring pairs hold after an update of one of them (R220, R227, R232, R254). -/
namespace Sys2Proof.Machine
-- This option keeps Lean from elaborating the proofs side by side, for which the check's memory limit leaves too few threads.
set_option deprecated.oldSectionVars true

/-! ### What a frame gives -/

theorem Kept.bundles {M : Nat} {s t : State} (h : Kept M s t) (hm : M.testBit 89 = false := by decide +kernel) : t.bundles = s.bundles :=
  h.agree .bundles hm

theorem Kept.lanes {M : Nat} {s t : State} (h : Kept M s t) (hm : M.testBit 90 = false := by decide +kernel) : t.lanes = s.lanes :=
  h.agree .lanes hm

theorem Kept.ports {M : Nat} {s t : State} (h : Kept M s t) (hm : M.testBit 91 = false := by decide +kernel) : t.ports = s.ports :=
  h.agree .ports hm

theorem Kept.rings {M : Nat} {s t : State} (h : Kept M s t) (hm : M.testBit 94 = false := by decide +kernel) : t.rings = s.rings :=
  h.agree .rings hm

theorem Kept.keys {M : Nat} {s t : State} (h : Kept M s t) (hm : M.testBit 96 = false := by decide +kernel) : t.keys = s.keys :=
  h.agree .keys hm

theorem Kept.fld64 {M : Nat} {s t : State} (h : Kept M s t) (pg : Page) (f : Fld) (b : Nat)
    (hm : M.testBit pg.kind = false := by dsimp only [Page.kind]; decide +kernel) : t.fld64 pg f b = s.fld64 pg f b := by
  simp only [State.fld64, h.fld pg _ b hm]

theorem Kept.flag {M : Nat} {s t : State} (h : Kept M s t) (pg : Page) (f : Fld) (b : Nat)
    (hm : M.testBit pg.kind = false := by dsimp only [Page.kind]; decide +kernel) : t.flag pg f b = s.flag pg f b := by
  simp only [State.flag, h.fld pg f b hm]

theorem Kept.chip {M : Nat} {s t : State} (h : Kept M s t) (hm : M.testBit Page.glb.kind = false := by decide +kernel) : t.chip = s.chip :=
  h.fld .glb _ _ hm

/-- What leaves the module is never taken back. -/
theorem Kept.out_mem {M : Nat} {s t : State} (h : Kept M s t) {o : Out} (left : o ∈ s.out) : o ∈ t.out := by
  obtain ⟨later, eq⟩ := h.grows.out
  exact eq ▸ List.mem_append_left later left

/-! ### Registers apart -/

/-- Registers at two offsets differ, in whichever pages and banks they stand. -/
theorem regKey_ne_of_inside {pg pg' : Page} {o o' b b' : Nat} (h : o' ≠ o) (inside : o < 4096) (inside' : o' < 4096) :
    regKey pg' o' b' ≠ regKey pg o b := by
  have := Page.base_mod pg
  have := Page.base_mod pg'
  have := Page.kind_lt pg
  have := Page.kind_lt pg'
  simp only [regKey, bankSize]
  omega

theorem State.fld_setFld_inside (s : State) (pg pg' : Page) (f g : Fld) (v b b' : Nat) (h : g.off ≠ f.off) (inside : f.off < 4096)
    (inside' : g.off < 4096) : (s.setFld pg f v b).fld pg' g b' = s.fld pg' g b' :=
  State.fld_setFld_ne _ _ _ _ _ _ _ _ (regKey_ne_of_inside h inside inside')

/-- A field of a register that has been written whole. -/
theorem State.fld_setFld_word (s : State) (pg : Page) (off hi lo v b : Nat) :
    (s.setFld pg ⟨off, 31, 0⟩ v b).fld pg ⟨off, hi, lo⟩ b = bitsOf (v % 2 ^ 32) hi lo := by
  have word := State.fld_setFld_same s pg ⟨off, 31, 0⟩ v b (Fld.ok_word off)
  rw [State.fld_word] at word
  rw [State.fld, word]
  rfl

/-! ### Counters of a bank -/

theorem State.fld_bumpBy_bank (s : State) (pg : Page) (off n b : Nat) :
    (s.bumpBy pg ⟨off, 31, 0⟩ n b).fld pg ⟨off, 31, 0⟩ b = min (s.fld pg ⟨off, 31, 0⟩ b + n) (2 ^ 32 - 1) := by
  rw [State.bumpBy, State.fld_setFld_same _ _ _ _ _ (Fld.ok_word off)]
  simp only [Fld.card]
  omega

theorem State.fld_bump_ne (s : State) (pg pg' : Page) (f g : Fld) (b b' : Nat) (h : regKey pg' g.off b' ≠ regKey pg f.off b) :
    (s.bump pg f b).fld pg' g b' = s.fld pg' g b' := State.fld_setFld_ne _ _ _ _ _ _ _ _ h

/-! ### Bundles -/

@[simp] theorem State.bundle_setBundle_same (s : State) (b : Nat) (x : Bundle) : (s.setBundle b x).bundle b = x := smGet_smSet_same _ _ _ _

theorem State.bundle_setBundle_ne (s : State) {b b' : Nat} (x : Bundle) (h : b' ≠ b) : (s.setBundle b x).bundle b' = s.bundle b' :=
  smGet_smSet_ne _ _ _ _ _ h

theorem State.bundle_congr {s t : State} (h : t.bundles = s.bundles) (b : Nat) : t.bundle b = s.bundle b := by rw [State.bundle, h, State.bundle]

theorem Kept.bundle {M : Nat} {s t : State} (h : Kept M s t) (b : Nat) (hm : M.testBit 89 = false := by decide +kernel) : t.bundle b = s.bundle b :=
  State.bundle_congr (h.bundles hm) b

theorem Kept.bndSt {M : Nat} {s t : State} (h : Kept M s t) (b : Nat) (hm : M.testBit 43 = false := by decide +kernel) : t.bndSt b = s.bndSt b :=
  h.fld .bnd _ _ hm

theorem State.bndUp_iff {s : State} {b : Nat} : s.bndUp b = true ↔ s.bndSt b = 1 := by simp [State.bndUp]

/-! ### Lane pairs -/

@[simp] theorem State.laneX_modLane_same (s : State) (p n : Nat) (f : LaneX → LaneX) : (s.modLane p n f).laneX p n = f (s.laneX p n) :=
  smGet_smSet_same _ _ _ _

theorem State.laneX_modLane_ne (s : State) {p n n' : Nat} (f : LaneX → LaneX) (h : n' ≠ n) : (s.modLane p n f).laneX p n' = s.laneX p n' :=
  smGet_smSet_ne _ _ _ _ _ (by omega)

theorem State.laneX_congr {s t : State} (h : t.lanes = s.lanes) (p n : Nat) : t.laneX p n = s.laneX p n := by rw [State.laneX, h, State.laneX]

theorem Kept.laneX {M : Nat} {s t : State} (h : Kept M s t) (p n : Nat) (hm : M.testBit 90 = false := by decide +kernel) :
    t.laneX p n = s.laneX p n := State.laneX_congr (h.lanes hm) p n

theorem Kept.laneSt {M : Nat} {s t : State} (h : Kept M s t) (p n : Nat) (hm : M.testBit 39 = false := by decide +kernel) :
    t.laneSt p n = s.laneSt p n := h.fld (.lan p) _ _ hm

theorem Kept.laneBundle {M : Nat} {s t : State} (h : Kept M s t) (p n : Nat) (hm : M.testBit 39 = false := by decide +kernel) :
    t.laneBundle p n = s.laneBundle p n := h.fld (.lan p) _ _ hm

@[simp] theorem State.modLane_fld (s : State) (p n : Nat) (g : LaneX → LaneX) (pg : Page) (f : Fld) (b : Nat) :
    (s.modLane p n g).fld pg f b = s.fld pg f b := rfl

theorem State.setLaneSt_same (s : State) (p n : Nat) {v : Nat} (h : v < 8) : (s.setLaneSt p n v).laneSt p n = v := by
  rw [State.laneSt, State.setLaneSt, State.modLane_fld, State.fld_setFld_same _ _ _ _ _ ⟨by decide, by decide⟩]
  exact Nat.mod_eq_of_lt h

/-- A register of another lane pair, or behind LANE_STATE, is as it was. -/
theorem State.setLaneSt_fld_ne (s : State) (p n v : Nat) {f : Fld} {n' : Nat} (h : regKey (.lan p) f.off n' ≠ regKey (.lan p) 0x104 n) :
    (s.setLaneSt p n v).fld (.lan p) f n' = s.fld (.lan p) f n' := by
  rw [State.setLaneSt, State.modLane_fld, State.fld_setFld_ne _ _ _ _ _ _ _ _ h]

/-- The other fields of LANE_STATE are as they were. -/
theorem State.setLaneSt_fld_beside (s : State) (p n v hi lo : Nat) (h : 2 < lo) :
    (s.setLaneSt p n v).fld (.lan p) ⟨0x104, hi, lo⟩ n = s.fld (.lan p) ⟨0x104, hi, lo⟩ n := by
  rw [State.setLaneSt, State.modLane_fld]
  exact State.fld_setFld_disj _ _ Lan.LANE_STATE_STATE _ _ _ ⟨by decide, by decide⟩ rfl (.inr h)

/-- Two lane pairs of a port have registers of their own. -/
theorem regKey_lan_ne {p n n' off off' : Nat} (inside : off < 4096) (inside' : off' < 4096) (h : n' ≠ n) :
    regKey (.lan p) off' n' ≠ regKey (.lan p) off n := by
  simp only [regKey, bankSize]
  omega

theorem State.setLaneSt_ne (s : State) (p v : Nat) {n n' : Nat} (h : n' ≠ n) : (s.setLaneSt p n v).laneSt p n' = s.laneSt p n' :=
  s.setLaneSt_fld_ne p n v (regKey_lan_ne (by decide) (by decide) h)

/-- The ACTIVE lanes of a bundle (R220). -/
theorem State.mem_bndLanes {s : State} {b p n : Nat} :
    (p, n) ∈ s.bndLanes b ↔ p < 32 ∧ n ∈ laneIds p ∧ s.laneSt p n = 2 ∧ s.laneBundle p n = b := by
  simp [State.bndLanes, and_assoc]

/-! ### Ring pairs -/

@[simp] theorem State.ringX_modRing_same (s : State) (p r : Nat) (f : RingX → RingX) : (s.modRing p r f).ringX p r = f (s.ringX p r) :=
  smGet_smSet_same _ _ _ _

theorem State.ringX_modRing_ne (s : State) {p r r' : Nat} (f : RingX → RingX) (h : r' ≠ r) : (s.modRing p r f).ringX p r' = s.ringX p r' :=
  smGet_smSet_ne _ _ _ _ _ (by omega)

theorem Kept.ringX {M : Nat} {s t : State} (h : Kept M s t) (p r : Nat) (hm : M.testBit 94 = false := by decide +kernel) :
    t.ringX p r = s.ringX p r := by rw [State.ringX, h.rings hm, State.ringX]

@[simp] theorem State.modRing_fld (s : State) (p r : Nat) (g : RingX → RingX) (pg : Page) (f : Fld) (b : Nat) :
    (s.modRing p r g).fld pg f b = s.fld pg f b := rfl

end Sys2Proof.Machine
end

section
/-! The windows of the crypto and routing pages (R240, R242–R244, R352). -/
namespace Sys2Proof.Machine
-- This option keeps Lean from elaborating the proofs side by side, for which the check's memory limit leaves too few threads.
set_option deprecated.oldSectionVars true

/-! ### Shadow copies -/

@[simp] theorem State.shReg_setShReg_same (s : State) (k : Nat) (v : Word) : (s.setShReg k v).shReg k = v := smGet_smIns_same _ _ _ _

theorem State.shReg_setShReg_ne (s : State) {k k' : Nat} (v : Word) (h : k' ≠ k) : (s.setShReg k v).shReg k' = s.shReg k' :=
  smGet_smIns_ne _ _ _ _ _ h

theorem State.epState_refuses (s : State) : s.epState.shadow = s.shadow ∧ bitAt (s.epState.fld .ep Hd.ERR_STAT) 0 = true :=
  ⟨(State.epState_kept (Msub.refl _) (.refl _ s)).agree .shadow (by decide +kernel), State.setErr_sets _ _ (by decide)⟩

/-- A job-scope field is written where its partition is there and not in RECOVERY (R352). -/
theorem State.jobWrite_taken {s : State} {part : Nat} (key : Nat) (v : Word) (named : part ≠ 0) (there : 1 ≤ s.partState part)
    (runs : s.partState part ≠ 5) : s.jobWrite part key v = s.setShReg key v := by
  simp [State.jobWrite, named, runs, Nat.ne_of_gt there]

theorem State.jobWrite_refused {s : State} {part : Nat} (key : Nat) (v : Word) (h : part = 0 ∨ s.partState part = 0 ∨ s.partState part = 5) :
    s.jobWrite part key v = s.epState := by
  simp only [State.jobWrite, Bool.or_eq_true, decide_eq_true_eq, or_assoc, h, if_true]

/-! ### KEY_ERASE (R240) -/

/-- The banks of the other die's keys lie past all of this die's. -/
theorem State.fld_eraseNctr_otherDie (s : State) (b : Nat) {f : Fld} (inside : f.off < 4096) :
    (s.setFld64 (.cry 0) Cry.NCTR_LO 0 (b + 16384)).fld (.cry 0) f b = s.fld (.cry 0) f b := by
  have apart : ∀ o < 4096, regKey (.cry 0) f.off b ≠ regKey (.cry 0) o (b + 16384) := by
    intro o small
    simp only [regKey, bankSize]
    omega
  rw [State.setFld64, State.fld_setFld_ne _ _ _ _ _ _ _ _ (apart _ (by decide)), State.fld_setFld_ne _ _ _ _ _ _ _ _ (apart _ (by decide))]

theorem State.fld64_eraseNctr_otherDie (s : State) (b : Nat) :
    (s.setFld64 (.cry 0) Cry.NCTR_LO 0 (b + 16384)).fld64 (.cry 0) Cry.NCTR_LO b = s.fld64 (.cry 0) Cry.NCTR_LO b := by
  rw [State.fld64, State.fld_eraseNctr_otherDie _ _ (by decide), State.fld_eraseNctr_otherDie _ _ (by decide), ← State.fld64]

theorem State.fld64_eraseNctr (s : State) (b : Nat) : (s.setFld64 (.cry 0) Cry.NCTR_LO 0 b).fld64 (.cry 0) Cry.NCTR_LO b = 0 :=
  State.fld64_setFld64_same s (.cry 0) 0x10C b (by decide)

theorem State.keyErase_erases (s : State) (bank : Nat) :
    (s.keyErase bank).keys = smDel s.keys bank ∧ (s.keyErase bank).fld (.cry 0) Cry.KEY_STATUS bank = 0 ∧
      (s.keyErase bank).fld64 (.cry 0) Cry.NCTR_LO bank = 0 ∧ (s.keyErase bank).fld64 (.cry 0) Cry.NCTR_LO (bank + 16384) = 0 := by
  unfold State.keyErase
  extract_lets t u
  refine ⟨by simp [u, t], ?_, ?_, State.fld64_eraseNctr _ _⟩
  · rw [State.fld_eraseNctr_otherDie _ _ (by decide), State.setFld64, State.fld_setFld_ne _ _ _ _ _ _ _ _ (regKey_ne_of_off (by decide)),
      State.fld_setFld_ne _ _ _ _ _ _ _ _ (regKey_ne_of_off (by decide))]
    exact (State.fld_setFld_same _ _ _ _ _ (Fld.ok_word _)).trans (Nat.zero_mod _)
  · rw [State.fld64_eraseNctr_otherDie, State.fld64_eraseNctr]

theorem exec_keyErase {s : State} {m : Master} {v : Word} (may : s.MayWrite m (.cry 0)) :
    exec (.keyErase m v) s = .next (if bitAt v.toNat 0 then (s.touch (.cry 0)).keyErase s.keySel else s.touch (.cry 0)) := by
  simp only [exec, execKeyErase, State.gated_held _ may]
  rfl

/-! ### The route and rank tables (R242, R244, R352) -/

theorem exec_frtDataHiWrite {s : State} {m : Master} (v : Word) (may : s.MayWrite m .rt) :
    exec (.frtDataHiWrite m v) s = .next ((s.touch .rt).frtWrite v) := by
  simp only [exec, execFrtDataHiWrite, State.gated_held _ may]

theorem exec_rnkSlotPartWrite {s : State} {m : Master} (v : Word) (may : s.MayWrite m .rt) :
    exec (.rnkSlotPartWrite m v) s = .next ((s.touch .rt).rnkSlotWrite v) := by
  simp only [exec, execRnkSlotPartWrite, State.gated_held _ may]

theorem exec_rnkDataWrite {s : State} {m : Master} (v : Word) (may : s.MayWrite m .rt) :
    exec (.rnkDataWrite m v) s = .next ((s.touch .rt).rnkDataWrite v) := by
  simp only [exec, execRnkDataWrite, State.gated_held _ may]

/-- A write of FRT_DATA_HI takes both halves of the entry to their shadow copies (Table 8.12). -/
theorem State.frtWrite_writes (s : State) (v : Word) :
    (s.frtWrite v).regs = s.regs ∧ (s.frtWrite v).shReg (regKey .rt 0x11C (s.fld .rt (Rt.FRT_IDX.sub 15 0))) = v &&& 0x0001FFFF ∧
      ((s.frtWrite v).shReg (regKey .rt 0x118 (s.fld .rt (Rt.FRT_IDX.sub 15 0)))).toNat = s.frtLo &&& 0xFFFF7F7F := by
  unfold State.frtWrite
  extract_lets i
  refine ⟨by simp, State.shReg_setShReg_same _ _ _, ?_⟩
  rw [State.shReg_setShReg_ne _ _ (regKey_ne_of_off (by decide)), State.shReg_setShReg_same, BitVec.toNat_ofNat]
  exact Nat.mod_eq_of_lt (Nat.lt_of_le_of_lt Nat.and_le_right (by decide))

/-- The slot of the rank table that RNK_SEL names. -/
def State.rankSel (s : State) : Nat := s.fld .rt (Rt.RNK_SEL.sub 4 0)

/-- The partition that holds the slot that RNK_SEL names. -/
def State.rankPart (s : State) : Nat := s.fld .rt (Rt.RNK_SLOT_PART.sub 11 0) s.rankSel

theorem State.rnkSlotWrite_eq (s : State) (v : Word) : s.rnkSlotWrite v =
    if s.rankPart = 0 || v.toNat % 4096 ≠ s.rankPart then s.epState
    else s.jobWrite s.rankPart (regKey .rt 0x124 s.rankSel) (v &&& 0x1FFF) := rfl

theorem State.rnkDataWrite_eq (s : State) (v : Word) : s.rnkDataWrite v =
    if s.rankPart = 0 then s.epState
    else s.jobWrite s.rankPart (regKey .rt 0x12C (s.rankSel * 16384 + s.fld .rt (Rt.RNK_IDX.sub 13 0))) (v &&& 0x1FFFF) := rfl

section Ranks
variable {s : State} {v : Word}

theorem State.rnkSlotWrite_taken (named : s.rankPart ≠ 0) (same : v.toNat % 4096 = s.rankPart) (there : 1 ≤ s.partState s.rankPart)
    (runs : s.partState s.rankPart ≠ 5) : s.rnkSlotWrite v = s.setShReg (regKey .rt 0x124 s.rankSel) (v &&& 0x1FFF) := by
  rw [State.rnkSlotWrite_eq, if_neg (by simp [named, same])]
  exact State.jobWrite_taken _ _ named there runs

theorem State.rnkSlotWrite_refused
    (h : s.rankPart = 0 ∨ v.toNat % 4096 ≠ s.rankPart ∨ s.partState s.rankPart = 0 ∨ s.partState s.rankPart = 5) :
    s.rnkSlotWrite v = s.epState := by
  rw [State.rnkSlotWrite_eq]
  split
  · rfl
  · rename_i taken
    simp only [Bool.or_eq_true, decide_eq_true_eq, not_or] at taken
    obtain ⟨named, same⟩ := taken
    exact State.jobWrite_refused _ _ (h.imp_right fun h => h.resolve_left same)

theorem State.rnkDataWrite_taken (named : s.rankPart ≠ 0) (there : 1 ≤ s.partState s.rankPart) (runs : s.partState s.rankPart ≠ 5) :
    s.rnkDataWrite v = s.setShReg (regKey .rt 0x12C (s.rankSel * 16384 + s.fld .rt (Rt.RNK_IDX.sub 13 0))) (v &&& 0x1FFFF) := by
  rw [State.rnkDataWrite_eq, if_neg named]
  exact State.jobWrite_taken _ _ named there runs

theorem State.rnkDataWrite_refused (h : s.rankPart = 0 ∨ s.partState s.rankPart = 0 ∨ s.partState s.rankPart = 5) :
    s.rnkDataWrite v = s.epState := by
  rw [State.rnkDataWrite_eq]
  split
  · rfl
  · exact State.jobWrite_refused _ _ h

end Ranks

/-! ### The peer table (R243) -/

theorem exec_peerDataWrite {s : State} {m : Master} (v : Word) (may : s.MayWrite m .rt) :
    exec (.peerDataWrite m v) s = .next ((s.touch .rt).peerWrite v) := by
  simp only [exec, execPeerDataWrite, State.gated_held _ may]

theorem State.peerWrite_invalid {s : State} {v : Word} (invalid : bitAt v.toNat 28 = false) :
    s.peerWrite v = s.setReg (regKey .rt 0x134 (s.fld .rt (Rt.PEER_IDX.sub 12 0))) (v &&& 0x3FFFFFFF) := by
  simp [State.peerWrite, invalid]

/-- A second valid entry for a chip and partition is refused. -/
theorem State.peerWrite_duplicate {s : State} {v : Word} {e : Nat × Word} (valid : bitAt v.toNat 28 = true) (listed : e ∈ s.regs)
    (peer : regAddr e.1 = Page.rt.base + 0x134) (other : e.1 ≠ regKey .rt 0x134 (s.fld .rt (Rt.PEER_IDX.sub 12 0)))
    (also : bitAt e.2.toNat 28 = true) (same : e.2.toNat % 2 ^ 28 = v.toNat % 2 ^ 28) : s.peerWrite v = s.setErr .rt 0 := by
  have found : s.regs.any (fun e => regAddr e.1 == Page.rt.base + 0x134 && e.1 != regKey .rt 0x134 (s.fld .rt (Rt.PEER_IDX.sub 12 0))
      && bitAt e.2.toNat 28 && e.2.toNat % 2 ^ 28 == v.toNat % 2 ^ 28) = true :=
    List.any_eq_true.mpr ⟨e, listed, by simpa [peer, other, also] using same⟩
  simp only [State.peerWrite, valid, found, Bool.and_self, if_true]

theorem regKey_rt_not_mem_errKeys (b : Nat) : regKey .rt 0x134 b ∉ errKeys .rt := by
  simp only [errKeys, regKey, bankSize, Page.base, Page.kind, List.mem_cons, List.not_mem_nil, or_false, not_or]
  omega

/-! ### The obligation -/

/-- Settles O17: each command is its page's operation behind the semaphore, and each operation writes the entry that its window names. -/
theorem keysRoutesAndPeersAreWritten : Obligations.KeysRoutesAndPeersAreWritten := by
  unfold Obligations.KeysRoutesAndPeersAreWritten
  refine ⟨?erase, ?keep, ?route, ?slot, ?rank, ?peer, ?twice⟩
  case erase =>
    intro s m v may set
    exact ⟨_, by rw [exec_keyErase may, if_pos set], (s.touch (.cry 0)).keyErase_erases s.keySel⟩
  case keep =>
    intro s m v may clear
    exact ⟨s.touch (.cry 0), by rw [exec_keyErase may, if_neg (by simp [clear])], rfl, rfl⟩
  case route =>
    intro s m v may
    exact ⟨_, exec_frtDataHiWrite v may, (s.touch .rt).frtWrite_writes v⟩
  case slot =>
    intro s m v may
    refine ⟨fun named same there runs => ⟨_, exec_rnkSlotPartWrite v may, ?_⟩, fun h => ⟨_, exec_rnkSlotPartWrite v may, ?_⟩⟩
    · rw [State.rnkSlotWrite_taken (s := s.touch .rt) named same there runs]
      exact ⟨State.setShReg_regs _ _ _, State.shReg_setShReg_same _ _ _⟩
    · rw [State.rnkSlotWrite_refused (s := s.touch .rt) h]
      exact (s.touch .rt).epState_refuses
  case rank =>
    intro s m v may
    refine ⟨fun named there runs => ⟨_, exec_rnkDataWrite v may, ?_⟩, fun h => ⟨_, exec_rnkDataWrite v may, ?_⟩⟩
    · rw [State.rnkDataWrite_taken (s := s.touch .rt) named there runs]
      exact ⟨State.setShReg_regs _ _ _, State.shReg_setShReg_same _ _ _⟩
    · rw [State.rnkDataWrite_refused (s := s.touch .rt) h]
      exact (s.touch .rt).epState_refuses
  case peer =>
    intro s m v may invalid
    refine ⟨_, exec_peerDataWrite v may, ?_⟩
    rw [State.peerWrite_invalid (s := s.touch .rt) invalid]
    exact State.reg_setReg_same _ _ _
  case twice =>
    intro s m v e may valid listed peer other also same
    refine ⟨_, exec_peerDataWrite v may, ?_⟩
    rw [State.peerWrite_duplicate (s := s.touch .rt) valid listed peer other also same]
    exact ⟨State.setErr_sets _ _ (by decide), State.setErr_reg_ne _ _ _ (regKey_rt_not_mem_errKeys _)⟩

end Sys2Proof.Machine
end

section
/-! The timers of a bundle (R230, R231, R236). -/
namespace Sys2Proof.Machine
-- This option keeps Lean from elaborating the proofs side by side, for which the check's memory limit leaves too few threads.
set_option deprecated.oldSectionVars true

/-! ### A loop in which one member acts -/

theorem State.each_idle {α : Type} {f : α → State → State} {l : List α} {s : State} (idle : ∀ x ∈ l, f x s = s) : s.each l f = s :=
  State.each_keeps (I := fun u => u = s) (fun x hx _ hu => hu ▸ idle x hx) rfl

theorem State.each_append {α : Type} (f : α → State → State) (l r : List α) (s : State) : s.each (l ++ r) f = (s.each l f).each r f :=
  List.foldl_append

/-- Where only one member of a list acts, before and after it has, the loop is its action. -/
theorem State.each_only {α : Type} {f : α → State → State} {l : List α} {a : α} {s : State} (once : l.Nodup) (listed : a ∈ l)
    (before : ∀ x ∈ l, x ≠ a → f x s = s) (after : ∀ x ∈ l, x ≠ a → f x (f a s) = f a s) : s.each l f = f a s := by
  obtain ⟨first, last, rfl⟩ := List.append_of_mem listed
  obtain ⟨-, once', apart⟩ := List.nodup_append.mp once
  have left : s.each first f = s := State.each_idle fun x hx => before x (by simp [hx]) (apart x hx a (by simp))
  rw [State.each_append, left]
  exact State.each_idle fun x hx => after x (by simp [hx]) (fun eq => (List.nodup_cons.mp once').1 (eq ▸ hx))

/-! ### ACK_TIMER and NAK_SKEW_TIMER (R230) -/

/-- The bundles of which a lane owes an acknowledgement: its own, where it owes one. -/
theorem mem_ackDue {s : State} {p n b : Nat} (carries : (p, n) ∈ s.bndLanes b) (owes : (s.bundle b).ackDue = true) :
    let due := ((s.bundles.filter (fun e => e.2.ackDue && (s.bndLanes e.1).contains (p, n))).map (·.1)).take 4
    b ∈ due ∧ ∀ d ∈ due, d = b := by
  intro due
  obtain ⟨-, -, -, named⟩ := State.mem_bndLanes.mp carries
  have own : ∀ d ∈ (s.bundles.filter (fun e => e.2.ackDue && (s.bndLanes e.1).contains (p, n))).map (·.1), d = b := by
    intro d hd
    obtain ⟨e, he, rfl⟩ := List.mem_map.mp hd
    have lane := (List.mem_filter.mp he).2
    rw [Bool.and_eq_true, List.contains_iff_mem, State.mem_bndLanes] at lane
    exact lane.2.2.2.2.symm.trans named
  have there : (b, s.bundle b) ∈ s.bundles := smGet_mem fun eq => Bool.false_ne_true ((congrArg Bundle.ackDue eq).symm.trans owes)
  have listed : b ∈ (s.bundles.filter (fun e => e.2.ackDue && (s.bndLanes e.1).contains (p, n))).map (·.1) :=
    List.mem_map.mpr ⟨_, List.mem_filter.mpr ⟨there, by simp [owes, carries]⟩, rfl⟩
  refine ⟨?_, fun d hd => own d (List.mem_of_mem_take hd)⟩
  obtain ⟨d, rest, eq⟩ := List.exists_cons_of_ne_nil (List.ne_nil_of_mem listed)
  have first : d = b := own d (eq ▸ List.mem_cons_self)
  simp only [due, eq, List.take_succ_cons, first, List.mem_cons_self]

/-- The acknowledgement of a bundle has been sent. -/
def State.acked (b : Nat) (s : State) : State := s.setBundle b { s.bundle b with ackDue := false }

/-- Acknowledging bundles leaves everything but their records. -/
theorem State.each_acked (s : State) (l : List Nat) :
    (s.each l State.acked).out = s.out ∧ (s.each l State.acked).regs = s.regs ∧ ∀ b ∈ l, ((s.each l State.acked).bundle b).ackDue = false := by
  refine ⟨State.each_keeps (f := State.acked) (I := fun u => u.out = s.out) (fun _ _ _ hu => hu) rfl,
    State.each_keeps (I := fun u => u.regs = s.regs) (fun b _ u hu => (State.setBundle_regs u b _).trans hu) rfl,
    State.each_establishes (P := fun b u => (u.bundle b).ackDue = false) (fun b _ u => by simp [State.acked]) (fun b d _ u hu => ?_) s⟩
  by_cases same : b = d
  · subst same
    simp [State.acked]
  · rw [State.acked, State.bundle_setBundle_ne _ _ same, hu]

theorem exec_nakSkewTimer {s : State} {b p n : Nat} (carries : (p, n) ∈ s.bndLanes b) (gap : (s.bundle b).reorder ≠ []) :
    exec (.nakSkewTimer b p n) s = .next ((s.emit (.flit p n { h := s.laneHdr p n, p := .nak [(b, (s.bundle b).rxNext)] })).bump
      (.lnk p) Lnk.NAK_TX_CNT) := by
  simp [exec, execNakSkewTimer, carries, gap]

/-! ### Replay (R230, R231) -/

/-- A flit of the replay buffer is to be sent again. -/
def TxFlit.again (t : TxFlit) : TxFlit := { t with resend := true }

theorem exec_retryTimeout {s : State} {b : Nat} {x : TxFlit} {xs : List TxFlit} (held : (s.bundle b).unacked = x :: xs) :
    exec (.retryTimeout b) s = .next (((s.setBundle b { s.bundle b with unacked := (x :: xs).map TxFlit.again }).bump
      (.lnk x.port) Lnk.REPLAY_CNT).bump .bnd Bnd.BND_REPLAY_CNT b) := by
  have all : (x :: xs).zipIdx.map (fun e => if 0 ≤ e.2 then { e.1 with resend := true } else e.1) = (x :: xs).map TxFlit.again := by
    have inner : (fun e : TxFlit × Nat => if 0 ≤ e.2 then { e.1 with resend := true } else e.1) = TxFlit.again ∘ Prod.fst := by
      funext e
      simp [TxFlit.again]
    rw [inner, ← List.map_map, List.zipIdx_map_fst]
  have first : (x :: xs).findIdx? (fun t => t.f.h.seq == x.f.h.seq) = some 0 := by simp [List.findIdx?_cons]
  simp only [exec, execRetryTimeout, held, State.replayFrom, first, List.getElem?_cons_zero, all]

/-- The one flit of a bundle's replay buffer is sent again by the lane that is asked for one. -/
theorem State.place_resends {s : State} {p n b : Nat} {u : TxFlit} (up : s.bndUp b = true) (held : (s.bundle b).unacked = [u])
    (due : u.resend = true) : s.place p n b =
      ((s.setBundle b { s.bundle b with unacked := [{ u with resend := false, via := p, lane := n, times := u.times + 1 }] }).emit
        (.flit p n u.f)).replayed b (u.times + 1) := by
  have first : [u].findIdx? (·.resend) = some 0 := by simp [List.findIdx?_cons, due]
  simp [State.place, up, held, first]

theorem State.bundleStop_bndSt {s : State} {b st : Nat} (up : s.bndUp b = true) (small : st < 4) : (s.bundleStop b st).bndSt b = st := by
  rw [State.bundleStop, if_pos up]
  extract_lets t u v
  have set : t.bndSt b = st := (State.fld_setFld_same _ _ _ _ _ ⟨by decide, by decide⟩).trans (Nat.mod_eq_of_lt small)
  have event : u.bndSt b = t.bndSt b := (State.event_kept (Msub.refl _) (.refl _ t)).bndSt b
  have steer : v.bndSt b = u.bndSt b :=
    (Kept.each (M := 5192296858540435438869641521270928) (.refl _ u) (fun _ _ h => Kept.ite (State.steerDrop_kept (Msub.refl _) h) h)).bndSt b
  exact ((State.startResume_kept (Msub.refl _) (.refl _ v)).bndSt b).trans (steer.trans (event.trans set))

theorem State.replayed_few {s : State} {b times : Nat} (few : times < 16) : s.replayed b times = s := by
  simp [State.replayed, Nat.not_le.mpr few]

theorem State.replayed_bndSt {s : State} {b times : Nat} (up : s.bndUp b = true) (many : 16 ≤ times) : (s.replayed b times).bndSt b = 0 := by
  rw [State.replayed, if_pos (by simp [many, up])]
  refine State.bundleStop_bndSt ?_ (by decide)
  rwa [State.bndUp_iff, (State.event_kept (Msub.refl _) (.refl _ s)).bndSt b, ← State.bndUp_iff]

/-! ### The flit boundary of a copper port -/

/-- What lane `n` of a copper port does at a flit boundary, where it is the only lane that is not OFF. -/
theorem State.copperBoundary_only {s : State} {p n : Nat} (cu : p < 8) (lane : n < 9) (active : s.laneSt p n = 2)
    (off : ∀ m < 9, m ≠ n → s.laneSt p m = 0) : s.copperBoundary p = s.place p n (s.laneBundle p n) := by
  have ids : laneIds p = List.range 9 := by rw [laneIds, if_pos cu]
  have small : ∀ m, m ∈ laneIds p ↔ m < 9 := by simp [ids]
  have kept : ∀ m, (s.place p n (s.laneBundle p n)).laneSt p m = s.laneSt p m :=
    fun m => (State.place_kept (Msub.refl _) (.refl _ s)).laneSt p m
  rw [State.copperBoundary, State.each_only (a := n) (by rw [ids]; exact List.nodup_range) ((small n).mpr lane)]
  · simp only [active]
  · exact fun m hm other => by simp only [off m ((small m).mp hm) other]
  · intro m hm other
    simp only [active, kept, off m ((small m).mp hm) other]

/-- The next flit boundary is under way. -/
def State.nextBoundary (s : State) : State := { s with plan := { s.plan with boundary := s.plan.boundary + 1 } }

theorem State.returnCredits_settled {s : State} {b : Nat} (settled : (s.bundle b).owed = []) : s.returnCredits b = s := by
  simp [State.returnCredits, settled]

theorem exec_flitBoundary_only {s : State} {p n b : Nat} {x : Bundle} (on : s.mod_.uncore = true) (cu : p < 8) (lane : n < 9)
    (active : s.laneSt p n = 2) (carries : s.laneBundle p n = b) (off : ∀ m < 9, m ≠ n → s.laneSt p m = 0) (bundles : s.bundles = [(b, x)])
    (settled : x.owed = []) : exec (.flitBoundary p) s = .next (s.nextBoundary.place p n b) := by
  have owes : s.nextBoundary.returnCredits b = s.nextBoundary := by
    refine State.returnCredits_settled ?_
    simp [State.bundle, State.nextBoundary, tGet, smGet, bundles, settled]
  have credits : s.nextBoundary.each (s.nextBoundary.bundles.map (·.1)) (fun b s => s.returnCredits b) = s.nextBoundary := by
    refine State.each_idle fun c hc => ?_
    obtain rfl : c = b := by simpa [State.nextBoundary, bundles] using hc
    exact owes
  have only : s.nextBoundary.copperBoundary p = s.nextBoundary.place p n (s.laneBundle p n) := State.copperBoundary_only cu lane active off
  have asked : execFlitBoundary p s = .next ((s.nextBoundary.each (s.nextBoundary.bundles.map (·.1)) (fun b s => s.returnCredits b)).copperBoundary p) := by
    have copper_ : copper p = true := by simp [copper, cu]
    simp only [execFlitBoundary, on, Bool.not_true, Bool.false_eq_true, if_false, copper_, if_true]
    rfl
  rw [exec, asked, credits, only, carries]

/-! ### The unanswered resumption (R236) -/

/-- The RESUME that a bundle waited for has not come. -/
def Bundle.unanswered (x : Bundle) : Bundle := { x with unacked := [], resumeWait := false, resumeSent := false }

theorem exec_resumeTimeout {s : State} {b : Nat} (waits : (s.bundle b).resumeWait = true) :
    ∃ t, exec (.resumeTimeout b) s = .next t ∧ t.bundle b = (s.bundle b).unanswered ∧
      t.fld .bnd Bnd.BND_LOST b = min (s.fld .bnd Bnd.BND_LOST b + (s.bundle b).unacked.length) (2 ^ 32 - 1) := by
  let u := ((s.setBundle b (s.bundle b).unanswered).bumpBy .bnd Bnd.BND_LOST (s.bundle b).unacked.length b).bndSeqSync b
  have run : exec (.resumeTimeout b) s = .next (u.event 0x3115 0 (u.bndItems b)).replayOcc := by
    rw [exec, execResumeTimeout, if_pos waits]
    rfl
  have event : Kept 5192296858540435438728904032915600 u (u.event 0x3115 0 (u.bndItems b)) := State.event_kept (Msub.refl _) (.refl _ u)
  have occ : Kept 274877906944 (u.event 0x3115 0 (u.bndItems b)) (u.event 0x3115 0 (u.bndItems b)).replayOcc :=
    State.replayOcc_kept (Msub.refl _) (.refl _ _)
  refine ⟨_, run, ?_, ?_⟩
  · rw [occ.bundle, event.bundle]
    exact (State.bundle_congr (by simp [u, State.bndSeqSync]) b).trans (State.bundle_setBundle_same s b _)
  · rw [occ.fld .bnd, event.fld .bnd]
    simp only [u, State.bndSeqSync]
    rw [State.fld_setFld_ne _ _ _ _ _ _ _ _ (regKey_ne_of_off (by decide))]
    exact State.fld_bumpBy_bank _ _ _ _ _

/-! ### The obligation -/

/-- Settles O15: each timer acts through one operation on the bundle's record, whose effect the lemmas above give. -/
theorem bundleTimersAct : Obligations.BundleTimersAct := by
  unfold Obligations.BundleTimersAct
  refine ⟨?ack, ?nak, ?retry, ?boundary, ?dead, ?resume, ?idle⟩
  case ack =>
    intro s p n b carries owes
    obtain ⟨listed, own⟩ := mem_ackDue carries owes
    obtain ⟨-, -, active, -⟩ := State.mem_bndLanes.mp carries
    simp only [exec, execAckTimer, active, ne_eq, not_true_eq_false, decide_false, Bool.false_or, List.isEmpty_iff, List.ne_nil_of_mem listed,
      if_false]
    obtain ⟨out, regs, acked⟩ := State.each_acked (s.emit (.flit p n { h := s.laneHdr p n, p := .ack _ })) _
    exact ⟨_, _, rfl, out, List.mem_map.mpr ⟨b, listed, rfl⟩, acked b listed, regs⟩
  case nak =>
    intro s b p n carries gap
    exact ⟨_, exec_nakSkewTimer carries gap, (State.bump_bundles _ _ _ _).trans (State.emit_bundles _ _), rfl, State.fld_bump_same _ _ _ _⟩
  case retry =>
    intro s b x xs held
    refine ⟨_, x.again, xs.map TxFlit.again, exec_retryTimeout held, ?_, by simp, ?_, by simp [TxFlit.again, Function.comp_def], ?_, ?_⟩
    · exact congrArg Bundle.unacked ((State.bundle_congr ((State.bump_bundles _ _ _ _).trans (State.bump_bundles _ _ _ _)) b).trans
        (State.bundle_setBundle_same s b _))
    · intro z hz
      rw [← List.map_cons, List.mem_map] at hz
      obtain ⟨y, -, rfl⟩ := hz
      rfl
    · rw [State.fld_bump_ne _ _ _ _ _ _ _ (regKey_ne_of_kind (by simp [Page.kind]))]
      exact State.fld_bump_same _ _ _ _
    · rw [Bnd.BND_REPLAY_CNT, State.fld_bump_same, State.fld_bump_ne _ _ _ _ _ _ _ (regKey_ne_of_kind (by simp [Page.kind]))]
      rfl
  case boundary =>
    intro s p n b x u on cu lane active carries off bundles settled held due up
    have up' : (s.nextBoundary).bndUp b = true := up
    have held' : (s.nextBoundary.bundle b).unacked = [u] := by simp [State.bundle, State.nextBoundary, tGet, smGet, bundles, held]
    rw [exec_flitBoundary_only on cu lane active carries off bundles settled, State.place_resends up' held' due]
    refine ⟨_, rfl, ?_, fun few => ?_, fun many => ?_⟩
    · exact (State.replayed_kept (Msub.refl _) (.refl _ _)).out_mem (by simp [State.emit])
    · rw [State.replayed_few few]
      exact ⟨State.bndUp_iff.mp up, _, congrArg Bundle.unacked (State.bundle_setBundle_same s.nextBoundary b _), rfl, rfl, rfl⟩
    · exact State.replayed_bndSt up' many
  case dead =>
    intro s b up silent
    exact ⟨_, by simp only [exec, execBundleDeadTimeout, up, silent, decide_true, Bool.and_self, if_true], State.bundleStop_bndSt up (by decide)⟩
  case resume =>
    intro s b waits
    obtain ⟨t, run, record, lost⟩ := exec_resumeTimeout waits
    exact ⟨t, run, congrArg Bundle.unacked record, congrArg Bundle.resumeWait record, (congrArg Bundle.wait record : _), lost⟩
  case idle =>
    intro s b p n c listed absent down
    have notUp : s.bndUp b = false := by simp [State.bndUp, down]
    simp only [List.mem_cons, List.not_mem_nil, or_false] at listed
    obtain rfl | rfl | rfl | rfl := listed
    · simp [exec, execBundleDeadTimeout, notUp]
    · simp [exec, execResumeTimeout, absent, show (default : Bundle).resumeWait = false from rfl]
    · simp only [exec, execRetryTimeout, absent, show (default : Bundle).unacked = [] from rfl]
    · simp [exec, execNakSkewTimer, absent, show (default : Bundle).reorder = [] from rfl]

end Sys2Proof.Machine
end

section
/-! SUPPORT. What the operations on a lane pair leave of its registers and of those of the other lanes of its port (R232, R233, R235). -/
namespace Sys2Proof.Machine
-- This option keeps Lean from elaborating the proofs side by side, for which the check's memory limit leaves too few threads.
set_option deprecated.oldSectionVars true

/-! ### Fields that do not overlap -/

/-- Two fields of a register without a bit in common, or of two registers. -/
def Fld.apart (f g : Fld) : Bool := decide (f.off ≠ g.off) || decide (f.hi < g.lo) || decide (g.hi < f.lo)

theorem State.fld_setFld_clear (s : State) (pg : Page) (f g : Fld) (v b : Nat) (h : f.ok) (away : f.apart g = true) :
    (s.setFld pg f v b).fld pg g b = s.fld pg g b := by
  simp only [Fld.apart, Bool.or_eq_true, decide_eq_true_eq] at away
  by_cases same : g.off = f.off
  · exact State.fld_setFld_disj _ _ _ _ _ _ h same (by omega)
  · exact State.fld_setFld_ne _ _ _ _ _ _ _ _ (regKey_ne_of_off same)

theorem State.fld_bump_clear (s : State) (pg : Page) (f g : Fld) (b : Nat) (h : f.ok) (away : f.apart g = true) :
    (s.bump pg f b).fld pg g b = s.fld pg g b := State.fld_setFld_clear _ _ _ _ _ _ h away

theorem State.fld_setFld64_clear (s : State) (pg : Page) (f g : Fld) (v b : Nat) (low : f.off ≠ g.off) (high : f.off + 4 ≠ g.off) :
    (s.setFld64 pg f v b).fld pg g b = s.fld pg g b := by
  rw [State.setFld64, State.fld_setFld_ne _ _ _ ⟨f.off + 4, 31, 0⟩ _ _ _ _ (regKey_ne_of_off high.symm),
    State.fld_setFld_ne _ _ _ ⟨f.off, 31, 0⟩ _ _ _ _ (regKey_ne_of_off low.symm)]

theorem State.fld_setLaneSt_clear (s : State) (p n v : Nat) (g : Fld) (away : Lan.LANE_STATE_STATE.apart g = true) :
    (s.setLaneSt p n v).fld (.lan p) g n = s.fld (.lan p) g n := by
  rw [State.setLaneSt, State.modLane_fld, State.fld_setFld_clear _ _ _ _ _ _ ⟨by decide, by decide⟩ away]

/-! ### The registers of a lane -/

/-- The registers of lane `n` of port `p` are as they were. -/
def State.LaneKept (s t : State) (p n : Nat) : Prop := ∀ f : Fld, f.off < 4096 → t.fld (.lan p) f n = s.fld (.lan p) f n

theorem State.LaneKept.refl (s : State) (p n : Nat) : s.LaneKept s p n := fun _ _ => rfl

theorem State.LaneKept.trans {s t u : State} {p n : Nat} (a : s.LaneKept t p n) (b : t.LaneKept u p n) : s.LaneKept u p n :=
  fun f hf => (b f hf).trans (a f hf)

theorem State.LaneKept.laneSt {s t : State} {p n : Nat} (h : s.LaneKept t p n) : t.laneSt p n = s.laneSt p n := h _ (by decide)

theorem State.LaneKept.laneBundle {s t : State} {p n : Nat} (h : s.LaneKept t p n) : t.laneBundle p n = s.laneBundle p n := h _ (by decide)

theorem Kept.laneKept {M : Nat} {s t : State} (h : Kept M s t) (p n : Nat) (hm : M.testBit 39 = false := by decide +kernel) :
    s.LaneKept t p n := fun _ _ => h.fld (.lan p) _ _ hm

theorem State.LaneKept.setFld (s : State) {p n m : Nat} (other : n ≠ m) (f : Fld) (v : Nat) (inside : f.off < 4096 := by decide) :
    s.LaneKept (s.setFld (.lan p) f v m) p n := fun _ hg => State.fld_setFld_ne _ _ _ _ _ _ _ _ (regKey_lan_ne inside hg other)

theorem State.LaneKept.modLane (s : State) (p m : Nat) (f : LaneX → LaneX) (n : Nat) : s.LaneKept (s.modLane p m f) p n := fun _ _ => rfl

theorem State.LaneKept.setLaneSt (s : State) {p n m : Nat} (other : n ≠ m) (v : Nat) : s.LaneKept (s.setLaneSt p m v) p n :=
  .trans (.setFld s other _ _) (.modLane _ _ _ _ _)

/-! ### Leaving and joining a bundle -/

/-- What the bookkeeping of bundles and ports touches: no lane, and no ring pair. -/
def bundleParts : Nat := partsMask [pk .mgt, pk .trg, pk .flip, pk .part, pk (.lnk 0), pk (.cry 0), pk .rt, pk .bnd, pk (.kal 0), .output, .fresh,
  .flipbook, .bundles, .plan, .noroute, .dropTick, .time]

/-- Of the link page, only LNK_STATUS and RTT_NS follow the lanes of a port. -/
theorem State.portSync_fld (s : State) (p : Nat) (pg : Page) (g : Fld) (b : Nat) (status : g.off ≠ 0x104) (rtt : g.off ≠ 0x110) (inside : g.off < 4096) :
    (s.portSync p).fld pg g b = s.fld pg g b := by
  unfold State.portSync
  extract_lets
  rw [State.fld_setFld_inside _ _ _ _ _ _ _ _ rtt (by decide) inside, State.fld_setFld_inside _ _ _ _ _ _ _ _ status (by decide) inside,
    State.fld_setFld_inside _ _ _ _ _ _ _ _ status (by decide) inside, State.fld_setFld_inside _ _ _ _ _ _ _ _ status (by decide) inside]

theorem State.opticalDown_copper (s : State) {p : Nat} (cu : copper p = true) : s.opticalDown p = s := by simp [State.opticalDown, cu]

/-- A lane's flits are replayed, the peer is told, and its bundle follows (R235). -/
def State.leaveBundle (s : State) (p n : Nat) (tell : Bool) : State :=
  let b := s.laneBundle p n
  let s := s.replayLane p n
  let s := if tell && !(s.bndLanes b).isEmpty then
      s.sendBundle b (.laneCtrl { op := 1, bundle := b, port := p, lane := n, eff := s.fld .bnd (Bnd.BND_SEQ.sub 15 0) b })
    else s
  s.bundleSync b

theorem State.laneLeave_eq (s : State) (p n : Nat) (tell : Bool) : s.laneLeave p n tell = ((s.leaveBundle p n tell).portSync p).opticalDown p := rfl

/-- What the bookkeeping of a bundle touches: no link page. -/
def stopParts : Nat := partsMask [pk .mgt, pk .trg, pk .flip, pk .part, pk (.cry 0), pk .rt, pk .bnd, pk (.kal 0), .output, .fresh,
  .flipbook, .bundles, .plan, .noroute, .dropTick, .time]

theorem State.leaveBundle_kept (s : State) (p n : Nat) (tell : Bool) : Kept stopParts s (s.leaveBundle p n tell) := by
  have replay : Kept stopParts s (s.replayLane p n) := State.replayLane_kept .of_beq (.refl _ s)
  exact State.bundleSync_kept .of_beq (.ite (State.sendBundle_kept .of_beq replay) replay)

theorem State.portSync_laneKept (s : State) (p q n : Nat) : s.LaneKept (s.portSync p) q n :=
  Kept.laneKept (State.portSync_kept (M := bundleParts) .of_beq (.refl _ s)) q n

theorem State.laneLeave_copper (s : State) {p : Nat} (cu : copper p = true) (n : Nat) (tell : Bool) :
    s.laneLeave p n tell = (s.leaveBundle p n tell).portSync p := by rw [State.laneLeave_eq, State.opticalDown_copper _ cu]

theorem State.laneLeave_laneKept_copper (s : State) {p : Nat} (cu : copper p = true) (n : Nat) (tell : Bool) (q m : Nat) :
    s.LaneKept (s.laneLeave p n tell) q m := by
  rw [State.laneLeave_copper s cu]
  exact ((s.leaveBundle_kept p n tell).laneKept q m).trans (State.portSync_laneKept _ p q m)

/-- Where an optical port goes down, only its ACTIVE lanes leave. -/
theorem State.opticalDown_laneKept (s : State) {p n : Nat} (idle : s.laneSt p n ≠ 2) : s.LaneKept (s.opticalDown p) p n := by
  unfold State.opticalDown
  extract_lets act t
  split
  · have loop : s.LaneKept t p n := by
      refine State.each_keeps (I := fun u => s.LaneKept u p n) (fun m hm u hu => hu.trans ?_) (.refl _ _ _)
      have other : n ≠ m := by
        rintro rfl
        exact idle (by simpa [act] using (List.mem_filter.mp hm).2)
      have rest : Kept bundleParts (u.setLaneSt p m 4) ((u.setLaneSt p m 4).replayLane p m) := State.replayLane_kept .of_beq (.refl _ _)
      exact (State.LaneKept.setLaneSt u other 4).trans
        (Kept.laneKept (State.bundleSync_kept .of_beq (.ite rest (State.sendBundle_kept .of_beq rest))) p n)
    exact loop.trans ((Kept.laneKept (State.event_kept (M := bundleParts) .of_beq (.refl _ t)) p n).trans (State.portSync_laneKept _ p p n))
  · exact .refl _ _ _

theorem State.laneLeave_laneKept (s : State) {p n : Nat} (idle : s.laneSt p n ≠ 2) (m : Nat) (tell : Bool) :
    s.LaneKept (s.laneLeave p m tell) p n := by
  rw [State.laneLeave_eq]
  have left := ((s.leaveBundle_kept p m tell).laneKept p n).trans (State.portSync_laneKept _ p p n)
  exact left.trans (State.opticalDown_laneKept _ (by rwa [left.laneSt]))

/-! ### Training -/

/-- A lane stands in TRAINING, at the first step of R234. -/
def State.laneTrains (s : State) (p n : Nat) : State :=
  (s.setLaneSt p n 1).modLane p n (fun x => { x with step := if p < 8 then 1 else 2, rxOk := false })

/-- The home pair of an optical lane trains anew with it. -/
def State.homeTrains (s : State) (p n : Nat) : State :=
  if copper p then s
  else match s.homeRing p n with
  | some r =>
    if s.ringF p r Rng.RING_STATE_TRAINED = 1 then
      ((s.setRingF p r Rng.RING_STATE_TRAINED 0).steerDrop p r 2).modRing p r (fun x => { x with step := 2 })
    else s
  | none => s

theorem State.startTraining_eq (s : State) (p n : Nat) :
    s.startTraining p n = if !s.flag .glb Glb.CHIP_ID_VALID then s else (s.laneTrains p n).homeTrains p n := rfl

/-- What the training of a ring pair touches: no lane. -/
def pairParts : Nat := partsMask (ofEvents ++ [pk (.rng 0), pk (.kal 0), .rings])

theorem State.homeTrains_kept (s : State) (p n : Nat) : Kept pairParts s (s.homeTrains p n) := by
  unfold State.homeTrains
  split
  · exact .refl _ s
  · split
    · exact .ite (State.modRing_kept .of_beq (State.steerDrop_kept .of_beq (State.setRingF_kept .of_beq (.refl _ s)))) (.refl _ s)
    · exact .refl _ s

theorem State.startTraining_laneKept (s : State) {p n m : Nat} (other : n ≠ m) : s.LaneKept (s.startTraining p m) p n := by
  rw [State.startTraining_eq]
  split
  · exact .refl _ _ _
  · exact .trans (.trans (.setLaneSt s other 1) (.modLane _ _ _ _ _)) ((State.homeTrains_kept _ p m).laneKept p n)

theorem State.startTraining_flag (s : State) (p n : Nat) (f : Fld) : (s.startTraining p n).flag .glb f = s.flag .glb f :=
  (State.startTraining_kept (Msub.refl _) (.refl _ s)).flag .glb f 0

/-- A lane of a module with a chip number enters TRAINING (R234). -/
theorem State.startTraining_trains {s : State} (p n : Nat) (chip : s.flag .glb Glb.CHIP_ID_VALID = true) :
    (s.startTraining p n).laneSt p n = 1 ∧ ((s.startTraining p n).laneX p n).since = s.tick ∧ ((s.startTraining p n).laneX p n).rxOk = false := by
  have same := (s.laneTrains p n).homeTrains_kept p n
  rw [State.startTraining_eq, if_neg (by simp [chip]), same.laneSt, same.laneX]
  refine ⟨(State.modLane_fld _ _ _ _ _ _ _).trans (s.setLaneSt_same p n (by decide)), ?_, ?_⟩ <;> simp [State.laneTrains, State.setLaneSt]

end Sys2Proof.Machine
end

section
/-! The life of a lane pair: failures and strikes, training, quarantine, and what software does with it (R232–R234). -/
namespace Sys2Proof.Machine
-- This option keeps Lean from elaborating the proofs side by side, for which the check's memory limit leaves too few threads.
set_option deprecated.oldSectionVars true

/-! ### Strikes (R233) -/

/-- The strikes of a lane within THR_WINDOW, with the one that is being counted. -/
def State.strikes (s : State) (p n : Nat) : Nat :=
  ((s.laneX p n).strikeAt.filter (fun a => decide (s.tick < a + s.fld (.lan p) Lan.THR_STRIKES / 65536))).length + 1

/-- A failure of a lane is counted; the state that it enters is not yet set. -/
def State.struck (s : State) (p n : Nat) : State :=
  (((s.bump (.lan p) Lan.FAIL_CNT n).modLane p n (fun x => { x with
      strikeAt := s.tick :: (s.laneX p n).strikeAt.filter (fun a => decide (s.tick < a + s.fld (.lan p) Lan.THR_STRIKES / 65536)),
      step := 0, rxOk := false })).setFld (.lan p) Lan.LANE_STATE_SERVES 15 n).setFld (.lan p) Lan.LANE_STATE_STRIKES (min 15 (s.strikes p n)) n

/-- A lane that is quarantined, its level one higher (Table 8.6). -/
def State.quarantined (s : State) (p n until_ : Nat) : State :=
  ((s.setFld (.lan p) Lan.LANE_STATE_QLEVEL (s.fld (.lan p) Lan.LANE_STATE_QLEVEL n + 1) n).setFld64 (.lan p) Lan.QUAR_END_LO until_ n).setLaneSt
    p n 5

theorem State.laneStrike_eq (s : State) (p n : Nat) : s.laneStrike p n =
    if s.fld (.lan p) Lan.THR_STRIKES % 16 ≤ s.strikes p n then
      if (s.struck p n).fld (.lan p) Lan.LANE_STATE_QLEVEL n < 6 then
        ((s.struck p n).quarantined p n (s.tick + ((s.struck p n).setFld (.lan p) Lan.LANE_STATE_QLEVEL
          ((s.struck p n).fld (.lan p) Lan.LANE_STATE_QLEVEL n + 1) n).fld (.lan p) Lan.THR_QUAR *
            2 ^ (s.struck p n).fld (.lan p) Lan.LANE_STATE_QLEVEL n)).event 0x3103 (srcPort p n) (laneItems p n none)
      else ((s.struck p n).setLaneSt p n 6).event 0x3104 (srcPort p n) (laneItems p n none)
    else (s.struck p n).setLaneSt p n 4 := rfl

theorem State.struck_fields (s : State) (p n : Nat) :
    (s.struck p n).fld (.lan p) Lan.FAIL_CNT n = min (s.fld (.lan p) Lan.FAIL_CNT n + 1) (2 ^ 32 - 1) ∧
      (s.struck p n).fld (.lan p) Lan.LANE_STATE_STRIKES n = min 15 (s.strikes p n) ∧
      (s.struck p n).fld (.lan p) Lan.LANE_STATE_SERVES n = 15 ∧
      (s.struck p n).fld (.lan p) Lan.LANE_STATE_QLEVEL n = s.fld (.lan p) Lan.LANE_STATE_QLEVEL n ∧
      (s.struck p n).laneBundle p n = s.laneBundle p n := by
  have strikes : Lan.LANE_STATE_STRIKES.ok := ⟨by decide, by decide⟩
  have serves : Lan.LANE_STATE_SERVES.ok := ⟨by decide, by decide⟩
  have fails : Lan.FAIL_CNT.ok := ⟨by decide, by decide⟩
  unfold State.struck
  refine ⟨?_, ?_, ?_, ?_, ?_⟩
  · rw [State.fld_setFld_clear _ _ _ _ _ _ strikes (by decide), State.fld_setFld_clear _ _ _ _ _ _ serves (by decide), State.modLane_fld]
    exact State.fld_bump_same _ _ _ _
  · rw [State.fld_setFld_same _ _ _ _ _ strikes]
    exact Nat.mod_eq_of_lt (Nat.lt_of_le_of_lt (Nat.min_le_left _ _) (by decide))
  · rw [State.fld_setFld_clear _ _ _ _ _ _ strikes (by decide), State.fld_setFld_same _ _ _ _ _ serves]
    rfl
  · rw [State.fld_setFld_clear _ _ _ _ _ _ strikes (by decide), State.fld_setFld_clear _ _ _ _ _ _ serves (by decide), State.modLane_fld,
      State.fld_bump_clear _ _ _ _ _ fails (by decide)]
  · rw [State.laneBundle, State.fld_setFld_clear _ _ _ _ _ _ strikes (by decide), State.fld_setFld_clear _ _ _ _ _ _ serves (by decide),
      State.modLane_fld, State.fld_bump_clear _ _ _ _ _ fails (by decide), State.laneBundle]

/-- The failure of lane `n` of port `p` has been counted, and the lane is where its strikes take it (Table 8.6). -/
structure State.LaneStruck (s t : State) (p n : Nat) : Prop where
  fails : t.fld (.lan p) Lan.FAIL_CNT n = min (s.fld (.lan p) Lan.FAIL_CNT n + 1) (2 ^ 32 - 1)
  strikes : t.fld (.lan p) Lan.LANE_STATE_STRIKES n = min 15 (s.strikes p n)
  serves : t.fld (.lan p) Lan.LANE_STATE_SERVES n = 15
  bundle : t.laneBundle p n = s.laneBundle p n
  failed : s.strikes p n < s.fld (.lan p) Lan.THR_STRIKES % 16 → t.laneSt p n = 4
  quarantined : s.fld (.lan p) Lan.THR_STRIKES % 16 ≤ s.strikes p n → s.fld (.lan p) Lan.LANE_STATE_QLEVEL n < 6 →
    t.laneSt p n = 5 ∧ t.fld (.lan p) Lan.LANE_STATE_QLEVEL n = s.fld (.lan p) Lan.LANE_STATE_QLEVEL n + 1
  disabled : s.fld (.lan p) Lan.THR_STRIKES % 16 ≤ s.strikes p n → 6 ≤ s.fld (.lan p) Lan.LANE_STATE_QLEVEL n → t.laneSt p n = 6

theorem State.quarantined_clear (s : State) (p n until_ : Nat) (g : Fld) (state : Lan.LANE_STATE_STATE.apart g = true)
    (level : Lan.LANE_STATE_QLEVEL.apart g = true) (low : 0x124 ≠ g.off) (high : 0x128 ≠ g.off) :
    (s.quarantined p n until_).fld (.lan p) g n = s.fld (.lan p) g n := by
  rw [State.quarantined, State.fld_setLaneSt_clear _ _ _ _ _ state, State.fld_setFld64_clear _ _ _ _ _ _ low high,
    State.fld_setFld_clear _ _ _ _ _ _ ⟨by decide, by decide⟩ level]

theorem State.quarantined_level {s : State} {p n : Nat} (until_ : Nat) (low : s.fld (.lan p) Lan.LANE_STATE_QLEVEL n < 6) :
    (s.quarantined p n until_).fld (.lan p) Lan.LANE_STATE_QLEVEL n = s.fld (.lan p) Lan.LANE_STATE_QLEVEL n + 1 := by
  rw [State.quarantined, State.fld_setLaneSt_clear _ _ _ _ _ (by decide), State.fld_setFld64_clear _ _ _ _ _ _ (by decide) (by decide),
    State.fld_setFld_same _ _ _ _ _ ⟨by decide, by decide⟩]
  exact Nat.mod_eq_of_lt (by simp only [Lan.LANE_STATE_QLEVEL] at low ⊢; omega)

/-- Setting the state of a lane that has been struck, or its quarantine, leaves its counts. -/
theorem State.struck_counts {s t : State} {p n : Nat} (same : ∀ g : Fld, g.off < 4096 → Lan.LANE_STATE_STATE.apart g = true →
    Lan.LANE_STATE_QLEVEL.apart g = true → 0x124 ≠ g.off → 0x128 ≠ g.off → t.fld (.lan p) g n = (s.struck p n).fld (.lan p) g n) :
    t.fld (.lan p) Lan.FAIL_CNT n = min (s.fld (.lan p) Lan.FAIL_CNT n + 1) (2 ^ 32 - 1) ∧
      t.fld (.lan p) Lan.LANE_STATE_STRIKES n = min 15 (s.strikes p n) ∧ t.fld (.lan p) Lan.LANE_STATE_SERVES n = 15 ∧
      t.laneBundle p n = s.laneBundle p n := by
  obtain ⟨fails, strikes, serves, -, bundle⟩ := s.struck_fields p n
  refine ⟨?_, ?_, ?_, ?_⟩
  · rw [same _ (by decide) (by decide) (by decide) (by decide) (by decide), fails]
  · rw [same _ (by decide) (by decide) (by decide) (by decide) (by decide), strikes]
  · rw [same _ (by decide) (by decide) (by decide) (by decide) (by decide), serves]
  · rw [State.laneBundle, same _ (by decide) (by decide) (by decide) (by decide) (by decide)]
    exact bundle

theorem State.laneStrike_struck (s : State) (p n : Nat) : s.LaneStruck (s.laneStrike p n) p n := by
  obtain ⟨-, -, -, level, -⟩ := s.struck_fields p n
  have event : ∀ (u : State) code items, u.LaneKept (u.event code (srcPort p n) items) p n :=
    fun u code items => (State.event_kept (M := partsMask ofEvents) .of_beq (.refl _ u)).laneKept p n
  rw [State.laneStrike_eq]
  split
  next many =>
    split
    next lower =>
      obtain ⟨fails, strikes, serves, bundle⟩ := State.struck_counts (s := s) (p := p) (n := n)
        fun g inside state level low high => (event _ 0x3103 _ g inside).trans (State.quarantined_clear _ _ _ _ g state level low high)
      refine ⟨fails, strikes, serves, bundle, fun few => by omega, fun _ _ => ⟨?_, ?_⟩, fun _ high => by omega⟩
      · rw [(event _ _ _).laneSt]
        exact State.setLaneSt_same _ _ _ (by decide)
      · rw [event _ _ _ _ (by decide), State.quarantined_level _ lower, level]
    next upper =>
      obtain ⟨fails, strikes, serves, bundle⟩ := State.struck_counts (s := s) (p := p) (n := n)
        fun g inside state _ _ _ => (event _ 0x3104 _ g inside).trans (State.fld_setLaneSt_clear _ _ _ _ g state)
      refine ⟨fails, strikes, serves, bundle, fun few => by omega, fun _ low => by omega, fun _ _ => ?_⟩
      rw [(event _ _ _).laneSt]
      exact State.setLaneSt_same _ _ _ (by decide)
  next few =>
    obtain ⟨fails, strikes, serves, bundle⟩ := State.struck_counts (s := s) (p := p) (n := n)
      fun g _ state _ _ _ => State.fld_setLaneSt_clear _ _ _ _ g state
    exact ⟨fails, strikes, serves, bundle, fun _ => State.setLaneSt_same _ _ _ (by decide), fun many => absurd many few,
      fun many => absurd many few⟩

/-- What leaves the lane's registers after the failure leaves what the failure did. -/
theorem State.LaneStruck.later {s t u : State} {p n : Nat} (h : s.LaneStruck t p n) (kept : t.LaneKept u p n) : s.LaneStruck u p n := by
  obtain ⟨fails, strikes, serves, bundle, failed, quarantined, disabled⟩ := h
  refine ⟨(kept _ (by decide)).trans fails, (kept _ (by decide)).trans strikes, (kept _ (by decide)).trans serves,
    kept.laneBundle.trans bundle, fun few => kept.laneSt.trans (failed few), fun many low => ?_, fun many high => kept.laneSt.trans (disabled many high)⟩
  obtain ⟨state, level⟩ := quarantined many low
  exact ⟨kept.laneSt.trans state, (kept _ (by decide)).trans level⟩

/-- What is noted of the failure before it is counted changes none of it. -/
theorem State.LaneStruck.noted {s t u : State} {p n : Nat} (noted : Kept (partsMask ofEvents) s t) (h : t.LaneStruck u p n) :
    s.LaneStruck u p n := by
  have strikes : t.strikes p n = s.strikes p n := by simp only [State.strikes, noted.laneX, noted.tick, noted.fld (.lan p)]
  have same : ∀ f b, t.fld (.lan p) f b = s.fld (.lan p) f b := fun f b => noted.fld (.lan p) f b
  constructor
  · exact same _ _ ▸ h.fails
  · exact strikes ▸ h.strikes
  · exact h.serves
  · exact h.bundle.trans (noted.laneBundle p n)
  · simpa only [strikes, same] using h.failed
  · simpa only [strikes, same] using h.quarantined
  · simpa only [strikes, same] using h.disabled

theorem State.trainFail_struck (s : State) (p n cause : Nat) (noMajor : Bool) : s.LaneStruck (s.trainFail p n cause noMajor) p n := by
  unfold State.trainFail
  extract_lets t u
  have noted : Kept (partsMask ofEvents) s t := State.event_kept .of_beq (.refl _ s)
  have noted' : Kept (partsMask ofEvents) s u := by
    simp only [u]
    split
    · exact State.event_kept .of_beq noted
    · exact .ite (State.event_kept .of_beq noted) noted
  exact .noted noted' ((u.laneStrike_struck p n).later (State.portSync_laneKept _ p p n))

/-! ### A SPARE lane takes a place (R233) -/

/-- The SPARE lane `q` stands in the place of lane `n`, in its bundle. -/
def State.spareSeated (s : State) (p n q place : Nat) : State :=
  (((s.setFld (.lan p) Lan.LANE_STATE_SERVES (if place = q then 15 else place) q).setFld (.lan p) Lan.LANE_STATE_BUNDLE (s.laneBundle p n)
    q).setLaneSt p q 2)

theorem State.spareTakes_seated (s : State) (p n q place : Nat) :
    Kept (partsMask (.lanes :: ofEvents ++ [pk .part, pk (.lnk 0), pk (.cry 0), pk .rt, pk .bnd, pk (.kal 0), .bundles, .plan, .noroute, .dropTick]))
      (s.spareSeated p n q place) (s.spareTakes p n q place) :=
  State.portSync_kept .of_beq (State.bundleSync_kept .of_beq (State.event_kept .of_beq (State.replayLane_kept .of_beq
    (State.modLane_kept .of_beq (.refl _ _)))))

theorem State.spareTakes_laneKept (s : State) {p n q : Nat} (other : n ≠ q) (place : Nat) : s.LaneKept (s.spareTakes p n q place) p n :=
  .trans (.trans (.trans (.setFld s other _ _) (.setFld _ other _ _)) (.setLaneSt _ other 2)) ((s.spareTakes_seated p n q place).laneKept p n)

theorem State.spareTakes_serves (s : State) (p n q place : Nat) :
    (s.spareTakes p n q place).laneSt p q = 2 ∧ (s.spareTakes p n q place).laneBundle p q = s.laneBundle p n := by
  have kept := (s.spareTakes_seated p n q place).laneKept p q
  rw [kept.laneSt, kept.laneBundle]
  refine ⟨State.setLaneSt_same _ _ _ (by decide), ?_⟩
  rw [State.spareSeated, State.laneBundle, State.fld_setLaneSt_clear _ _ _ _ _ (by decide),
    State.fld_setFld_same _ _ _ _ _ ⟨by decide, by decide⟩]
  exact Nat.mod_eq_of_lt (State.fld_lt _ _ _ _)

theorem State.spareFor_ne {s : State} {p n q : Nat} (found : s.spareFor p n = some q) : n ≠ q := by
  unfold State.spareFor at found
  split at found
  · have := List.find?_some found
    simp only [Bool.and_eq_true, bne_iff_ne] at this
    exact this.1.symm
  · cases found

/-! ### The failure of a lane of a copper port (R232) -/

/-- The failure has been noted. -/
def State.failSeen (s : State) (p n cause : Nat) : State :=
  s.event 0x3101 (srcPort p n) (laneItems p n (if cause = 0 then none else some cause))

/-- The failure has been noted and counted. -/
def State.failNoted (s : State) (p n cause : Nat) : State := (s.failSeen p n cause).laneStrike p n

theorem State.failNoted_struck (s : State) (p n cause : Nat) : s.LaneStruck (s.failNoted p n cause) p n :=
  .noted (State.event_kept .of_beq (.refl _ s)) (State.laneStrike_struck _ p n)

/-- The lane that detects the failure tells the peer which SPARE lane takes its place. -/
def State.replaceTold (s : State) (b p n q : Nat) (tell : Bool) : State :=
  if tell then
    s.sendBundle b (.laneCtrl { op := 2, bundle := b, port := p, lane := n, repl := q, eff := s.fld .bnd (Bnd.BND_SEQ.sub 15 0) b })
  else s

theorem State.replaceTold_kept (s : State) (b p n q : Nat) (tell : Bool) : Kept bundleParts s (s.replaceTold b p n q tell) :=
  .ite (State.sendBundle_kept .of_beq (.refl _ s)) (.refl _ s)

theorem State.laneFailTo_spare {s : State} {p n : Nat} (q cause : Nat) (tell : Bool) (active : s.laneSt p n = 2) :
    s.laneFailTo p n cause (some q) tell = ((s.failNoted p n cause).replaceTold ((s.failSeen p n cause).laneBundle p n) p n q tell).spareTakes p n q
      ((s.failSeen p n cause).placeOf p n) := by
  simp only [State.laneFailTo, active]
  rfl

theorem State.laneFailTo_none {s : State} {p n : Nat} (cause : Nat) (tell : Bool) (active : s.laneSt p n = 2) :
    s.laneFailTo p n cause none tell = (s.failNoted p n cause).laneLeave p n tell := by
  simp only [State.laneFailTo, active]
  rfl

theorem State.laneFailTo_standby {s : State} {p n : Nat} (cause : Nat) (spare : Option Nat) (tell : Bool) (standby : s.laneSt p n = 3) :
    s.laneFailTo p n cause spare tell = (s.failNoted p n cause).portSync p := by
  simp only [State.laneFailTo, standby]
  rfl

theorem State.laneFail_struck {s : State} {p n : Nat} (cu : copper p = true) (cause : Nat) (st : s.laneSt p n = 2 ∨ s.laneSt p n = 3) :
    s.LaneStruck (s.laneFail p n cause) p n := by
  have struck := s.failNoted_struck p n cause
  unfold State.laneFail
  obtain active | standby := st
  · rw [if_pos active]
    cases spare : s.spareFor p n with
    | some q =>
      rw [State.laneFailTo_spare q cause true active]
      exact struck.later (.trans ((State.replaceTold_kept _ _ p n q true).laneKept p n) (State.spareTakes_laneKept _ (State.spareFor_ne spare) _))
    | none =>
      rw [State.laneFailTo_none cause true active]
      exact struck.later (State.laneLeave_laneKept_copper _ cu n true p n)
  · rw [State.laneFailTo_standby cause _ true standby]
    exact struck.later (State.portSync_laneKept _ p p n)

theorem State.laneFail_spare {s : State} {p n q : Nat} (cause : Nat) (active : s.laneSt p n = 2) (spare : s.spareFor p n = some q) :
    (s.laneFail p n cause).laneSt p q = 2 ∧ (s.laneFail p n cause).laneBundle p q = s.laneBundle p n ∧
      (s.laneFail p n cause).fld (.lan p) Lan.LANE_STATE_SERVES n = 15 := by
  have struck := s.failNoted_struck p n cause
  rw [State.laneFail, if_pos active, spare, State.laneFailTo_spare q cause true active]
  have told := ((s.failNoted p n cause).replaceTold_kept ((s.failSeen p n cause).laneBundle p n) p n q true).laneKept p n
  obtain ⟨state, bundle⟩ := State.spareTakes_serves (State.replaceTold _ _ p n q true) p n q _
  exact ⟨state, bundle.trans (told.laneBundle.trans struck.bundle),
    (struck.later (told.trans (State.spareTakes_laneKept _ (State.spareFor_ne spare) _))).serves⟩

theorem State.laneFault_copper {s : State} {p : Nat} (cu : copper p = true) (n cause : Nat) : s.laneFault p n cause = s.laneFail p n cause := by
  simp [State.laneFault, cu]

end Sys2Proof.Machine
end

section
/-! What training, timers and software make of the lanes of a port (R233, R234, R260). -/
namespace Sys2Proof.Machine
-- This option keeps Lean from elaborating the proofs side by side, for which the check's memory limit leaves too few threads.
set_option deprecated.oldSectionVars true

/-! ### Copper trims (R301) -/

theorem State.trimLearn_loads (s : State) (p n w0 w1 : Nat) :
    (s.trimLearn p n w0 w1).fld (.trm p) ⟨0x110, 29, 0⟩ n = w0 % 2 ^ 30 ∧ (s.trimLearn p n w0 w1).fld (.trm p) ⟨0x114, 12, 0⟩ n = w1 % 2 ^ 13 := by
  have first : ((s.setFld (.trm p) ⟨0x110, 29, 0⟩ w0 n).setFld (.trm p) ⟨0x114, 12, 0⟩ w1 n).fld (.trm p) ⟨0x110, 29, 0⟩ n = w0 % 2 ^ 30 := by
    rw [State.fld_setFld_inside _ _ _ _ _ _ _ _ (by decide) (by decide) (by decide)]
    exact State.fld_setFld_same _ _ _ _ _ ⟨by decide, by decide⟩
  have second : ((s.setFld (.trm p) ⟨0x110, 29, 0⟩ w0 n).setFld (.trm p) ⟨0x114, 12, 0⟩ w1 n).fld (.trm p) ⟨0x114, 12, 0⟩ n = w1 % 2 ^ 13 :=
    State.fld_setFld_same _ _ _ _ _ ⟨by decide, by decide⟩
  unfold State.trimLearn
  extract_lets t temp b u
  split
  · exact ⟨first, second⟩
  · split
    · exact ⟨first, second⟩
    · split
      · exact ⟨first, second⟩
      · have event : ∀ (u : State) items f, (u.event 0x4138 (srcPort p n) items).fld (.trm p) f n = u.fld (.trm p) f n :=
          fun u items f => (State.event_kept (M := partsMask ofEvents) .of_beq (.refl _ u)).fld (.trm p) f n
        have learnt : ∀ f : Fld, f.off ≠ 0x124 → f.off ≠ 0x108 → f.off ≠ 0x10C → f.off < 4096 → ∀ b v v', (((t.setFld (.trm p) ⟨0x108, 30, 0⟩ v b).setFld
            (.trm p) ⟨0x10C, 12, 0⟩ v' b).bump (.trm p) Trm.LEARN_CNT).fld (.trm p) f n = t.fld (.trm p) f n := by
          intro f cnt lo hi inside b v v'
          rw [State.bump, State.bumpBy, State.fld_setFld_inside _ _ _ _ _ _ _ _ cnt (by decide) inside,
            State.fld_setFld_inside _ _ _ _ _ _ _ _ hi (by decide) inside, State.fld_setFld_inside _ _ _ _ _ _ _ _ lo (by decide) inside]
        exact ⟨(event _ _ _).trans ((learnt _ (by decide) (by decide) (by decide) (by decide) _ _ _).trans first),
          (event _ _ _).trans ((learnt _ (by decide) (by decide) (by decide) (by decide) _ _ _).trans second)⟩

theorem exec_laneSignalLocked {s : State} {p n : Nat} (w0 w1 : Nat) (cu : copper p = true) (st : s.laneSt p n = 1)
    (step : (s.laneX p n).step = 1) :
    exec (.laneSignalLocked p n w0 w1) s = .next ((s.trimLearn p n w0 w1).modLane p n (fun x => { x with step := 2 })) := by
  simp only [exec, execLaneSignalLocked, cu, st, step, decide_true, Bool.and_self, if_true]

/-! ### A loop over the lanes of a port -/

/-- In a loop whose every step moves only its own lane's state, by `g`, each lane's state is moved once. -/
theorem State.each_laneSt {p : Nat} {g : Nat → Nat} {J : State → Prop} {f : Nat → State → State} {l : List Nat} (once : l.Nodup)
    (inv : ∀ n ∈ l, ∀ u, J u → J (f n u)) (own : ∀ n ∈ l, ∀ u, J u → (f n u).laneSt p n = g (u.laneSt p n))
    (other : ∀ n ∈ l, ∀ u m, J u → m ≠ n → (f n u).laneSt p m = u.laneSt p m) {s : State} (h : J s) :
    J (s.each l f) ∧ ∀ m, (s.each l f).laneSt p m = if m ∈ l then g (s.laneSt p m) else s.laneSt p m := by
  induction l generalizing s with
  | nil => exact ⟨h, fun _ => (if_neg List.not_mem_nil).symm⟩
  | cons n l ih =>
    obtain ⟨fresh, once⟩ := List.nodup_cons.mp once
    have later : ∀ m ∈ l, m ∈ n :: l := fun m hm => List.mem_cons_of_mem _ hm
    obtain ⟨J', rest⟩ := ih once (fun m hm => inv m (later m hm)) (fun m hm => own m (later m hm)) (fun m hm => other m (later m hm))
      (inv n List.mem_cons_self s h)
    refine ⟨J', fun m => (rest m).trans ?_⟩
    by_cases here : m = n
    · subst here
      simp [fresh, own m List.mem_cons_self s h]
    · simp [here, other n List.mem_cons_self s m h here]

/-! ### RETRAIN (R233) -/

/-- One lane of a port that trains anew: one that runs or has failed. -/
def retrainLane (p n : Nat) (s : State) : State :=
  let st := s.laneSt p n
  if st = 2 then
    let b := s.laneBundle p n
    let s := (s.startTraining p n).replayLane p n
    (s.bundleSync b).portSync p
  else if st = 3 || st = 4 || st = 1 then (s.startTraining p n).portSync p
  else s

theorem State.retrain_copper {s : State} {p : Nat} (cu : copper p = true) : s.retrain p = s.each (laneIds p) (retrainLane p) := by
  unfold State.retrain
  rw [if_pos cu]
  rfl

/-- Where the lane trains, what follows touches no lane and no chip number. -/
theorem retrainLane_kept (p n : Nat) (s : State) :
    (1 ≤ s.laneSt p n ∧ s.laneSt p n ≤ 4 ∧ Kept bundleParts (s.startTraining p n) (retrainLane p n s)) ∨
      (¬ (1 ≤ s.laneSt p n ∧ s.laneSt p n ≤ 4) ∧ retrainLane p n s = s) := by
  unfold retrainLane
  dsimp only
  split
  next active =>
    exact .inl ⟨by omega, by omega, State.portSync_kept .of_beq (State.bundleSync_kept .of_beq (State.replayLane_kept .of_beq (.refl _ _)))⟩
  next active =>
    split
    next st =>
      simp only [Bool.or_eq_true, decide_eq_true_eq] at st
      exact .inl ⟨by omega, by omega, State.portSync_kept .of_beq (.refl _ _)⟩
    next st =>
      simp only [Bool.or_eq_true, decide_eq_true_eq] at st
      exact .inr ⟨by omega, rfl⟩

theorem retrainLane_flag (p n : Nat) (s : State) (f : Fld) : (retrainLane p n s).flag .glb f = s.flag .glb f := by
  obtain ⟨-, -, kept⟩ | ⟨-, same⟩ := retrainLane_kept p n s
  · exact (kept.flag .glb _ 0).trans (State.startTraining_flag s p n _)
  · rw [same]

theorem retrainLane_laneSt {p n : Nat} {s : State} (chip : s.flag .glb Glb.CHIP_ID_VALID = true) :
    (retrainLane p n s).laneSt p n = (if 1 ≤ s.laneSt p n ∧ s.laneSt p n ≤ 4 then 1 else s.laneSt p n) ∧
      ∀ m ≠ n, (retrainLane p n s).laneSt p m = s.laneSt p m := by
  obtain ⟨low, high, kept⟩ | ⟨rests, same⟩ := retrainLane_kept p n s
  · rw [kept.laneSt, (State.startTraining_trains p n chip).1, if_pos ⟨low, high⟩]
    exact ⟨rfl, fun m other => (kept.laneSt p m).trans (State.startTraining_laneKept s other).laneSt⟩
  · rw [same, if_neg rests]
    exact ⟨rfl, fun _ _ => rfl⟩

/-- The lanes of a copper port that run or have failed train anew. -/
theorem State.retrain_trains {s : State} {p : Nat} (cu : copper p = true) (chip : s.flag .glb Glb.CHIP_ID_VALID = true) {n : Nat}
    (lane : n ∈ laneIds p) (low : 1 ≤ s.laneSt p n) (high : s.laneSt p n ≤ 4) : (s.retrain p).laneSt p n = 1 := by
  obtain ⟨-, loop⟩ := State.each_laneSt (p := p) (l := laneIds p) (g := fun st => if 1 ≤ st ∧ st ≤ 4 then 1 else st)
    (J := fun u => u.flag .glb Glb.CHIP_ID_VALID = true) (f := retrainLane p) List.nodup_range
    (fun m _ u hu => (retrainLane_flag p m u _).trans hu) (fun m _ u hu => (retrainLane_laneSt hu).1)
    (fun m _ u q hu other => (retrainLane_laneSt hu).2 q other) chip
  rw [State.retrain_copper cu, loop n, if_pos lane, if_pos ⟨low, high⟩]

/-! ### A port comes up and goes down (R260) -/

/-- One lane of a port that comes up: one that is OFF. -/
def upLane (p n : Nat) (s : State) : State := if s.laneSt p n = 0 then s.startTraining p n else s

theorem State.portUp_copper {s : State} {p : Nat} (cu : copper p = true) :
    s.portUp p = s.each ((laneIds p).filter (fun n => decide (n < 8) || s.flag (.lnk p) Lnk.LNK_CTRL_SPARE_EN)) (upLane p) := if_pos cu

theorem upLane_flag (p n : Nat) (s : State) (f : Fld) : (upLane p n s).flag .glb f = s.flag .glb f := by
  unfold upLane
  split
  · exact State.startTraining_flag s p n f
  · rfl

theorem upLane_laneSt {p n : Nat} {s : State} (chip : s.flag .glb Glb.CHIP_ID_VALID = true) :
    (upLane p n s).laneSt p n = (if s.laneSt p n = 0 then 1 else s.laneSt p n) ∧ ∀ m ≠ n, (upLane p n s).laneSt p m = s.laneSt p m := by
  unfold upLane
  split
  · exact ⟨(State.startTraining_trains p n chip).1, fun m other => (State.startTraining_laneKept s other).laneSt⟩
  · exact ⟨rfl, fun _ _ => rfl⟩

/-- The lanes of a copper port that are OFF train, but for the spare lane where it is not enabled. -/
theorem State.portUp_trains {s : State} {p : Nat} (cu : copper p = true) (chip : s.flag .glb Glb.CHIP_ID_VALID = true) {n : Nat}
    (lane : n ∈ laneIds p) (small : n < 8) (off : s.laneSt p n = 0) : (s.portUp p).laneSt p n = 1 := by
  obtain ⟨-, loop⟩ := State.each_laneSt (p := p) (g := fun st => if st = 0 then 1 else st) (J := fun u => u.flag .glb Glb.CHIP_ID_VALID = true)
    (f := upLane p) (l := (laneIds p).filter (fun n => decide (n < 8) || s.flag (.lnk p) Lnk.LNK_CTRL_SPARE_EN)) (List.nodup_range.filter _)
    (fun m _ u hu => (upLane_flag p m u _).trans hu) (fun m _ u hu => (upLane_laneSt hu).1)
    (fun m _ u q hu other => (upLane_laneSt hu).2 q other) chip
  rw [State.portUp_copper cu, loop n, if_pos (List.mem_filter.mpr ⟨lane, by simp [small]⟩), if_pos off]

theorem State.portUp_flag (s : State) {p : Nat} (cu : copper p = true) (f : Fld) : (s.portUp p).flag (.lnk p) f = s.flag (.lnk p) f := by
  have kept : Kept (partsMask (ofEvents ++ [pk (.lan 0), pk (.rng 0), pk (.kal 0), .lanes, .rings])) s (s.portUp p) := by
    rw [State.portUp_copper cu]
    exact .each (.refl _ s) fun _ _ h => .ite (State.startTraining_kept .of_beq h) h
  exact kept.flag (.lnk p) f 0

/-- One lane of a port that goes down: an ACTIVE one leaves its bundle, and all but a DISABLED one are OFF. -/
def downLane (p n : Nat) (s : State) : State :=
  let st := s.laneSt p n
  if st = 2 then (s.setLaneSt p n 0).laneLeave p n true
  else if st = 6 || st = 0 then s else (s.setLaneSt p n 0).portSync p

theorem State.portDown_copper {s : State} {p : Nat} (cu : copper p = true) : s.portDown p =
    ((s.each (laneIds p) (downLane p)).each (laneIds p) (fun n s => s.setFld (.lan p) Lan.LANE_STATE_SERVES 15 n)).portSync p := by
  unfold State.portDown
  rw [if_pos cu]
  rfl

theorem downLane_ctrl {p : Nat} (cu : copper p = true) (n : Nat) (s : State) :
    (downLane p n s).flag (.lnk p) Lnk.LNK_CTRL_EN = s.flag (.lnk p) Lnk.LNK_CTRL_EN := by
  have sync : ∀ u : State, (u.portSync p).flag (.lnk p) Lnk.LNK_CTRL_EN = u.flag (.lnk p) Lnk.LNK_CTRL_EN := fun u => by
    rw [State.flag, State.portSync_fld _ _ _ _ _ (by decide) (by decide) (by decide), State.flag]
  have state : (s.setLaneSt p n 0).flag (.lnk p) Lnk.LNK_CTRL_EN = s.flag (.lnk p) Lnk.LNK_CTRL_EN :=
    (State.setLaneSt_kept (M := partsMask [pk (.lan 0), .lanes]) .of_beq (.refl _ s)).flag (.lnk p) _ 0
  unfold downLane
  dsimp only
  split
  · rw [State.laneLeave_copper _ cu, sync, (State.leaveBundle_kept _ p n true).flag (.lnk p) _ 0, state]
  · split
    · rfl
    · rw [sync, state]

theorem downLane_laneSt {p : Nat} (cu : copper p = true) (n : Nat) (s : State) :
    (downLane p n s).laneSt p n = (if s.laneSt p n = 6 then 6 else 0) ∧ ∀ m ≠ n, (downLane p n s).laneSt p m = s.laneSt p m := by
  have set : (s.setLaneSt p n 0).laneSt p n = 0 := s.setLaneSt_same p n (by decide)
  unfold downLane
  dsimp only
  split
  next active =>
    have left := State.laneLeave_laneKept_copper (s.setLaneSt p n 0) cu n true p
    exact ⟨by rw [(left n).laneSt, set, active]; rfl, fun m other => (left m).laneSt.trans (s.setLaneSt_ne p 0 other)⟩
  next =>
    split
    next st =>
      simp only [Bool.or_eq_true, decide_eq_true_eq] at st
      exact ⟨by split <;> omega, fun _ _ => rfl⟩
    next st =>
      simp only [Bool.or_eq_true, decide_eq_true_eq] at st
      exact ⟨by rw [(State.portSync_laneKept _ p p n).laneSt, set, if_neg (by omega)],
        fun m other => (State.portSync_laneKept _ p p m).laneSt.trans (s.setLaneSt_ne p 0 other)⟩

theorem State.portDown_downs {s : State} {p : Nat} (cu : copper p = true) :
    (s.portDown p).flag (.lnk p) Lnk.LNK_CTRL_EN = s.flag (.lnk p) Lnk.LNK_CTRL_EN ∧
      ∀ n ∈ laneIds p, s.laneSt p n ≠ 6 → (s.portDown p).laneSt p n = 0 := by
  obtain ⟨ctrl, down⟩ := State.each_laneSt (p := p) (l := laneIds p) (g := fun st => if st = 6 then 6 else 0)
    (J := fun u => u.flag (.lnk p) Lnk.LNK_CTRL_EN = s.flag (.lnk p) Lnk.LNK_CTRL_EN) (f := downLane p) List.nodup_range
    (fun n _ u hu => (downLane_ctrl cu n u).trans hu) (fun n _ u _ => (downLane_laneSt cu n u).1)
    (fun n _ u m _ other => (downLane_laneSt cu n u).2 m other) rfl
  rw [State.portDown_copper cu]
  have serves := fun (n : Nat) (u : State) => State.setFld_kept (s0 := u) (M := partsMask [pk (.lan 0)]) (pg := .lan p) (f := Lan.LANE_STATE_SERVES)
    (v := 15) (bank := n) .of_beq (.refl _ u) (by simp only [Page.kind]; decide +kernel)
  refine ⟨?_, fun n lane st => ?_⟩
  · rw [State.flag, State.portSync_fld _ _ _ _ _ (by decide) (by decide) (by decide), ← State.flag]
    exact State.each_keeps (I := fun u => u.flag (.lnk p) Lnk.LNK_CTRL_EN = s.flag (.lnk p) Lnk.LNK_CTRL_EN)
      (fun n _ u hu => ((serves n u).flag (.lnk p) _ 0).trans hu) ctrl
  · rw [(State.portSync_laneKept _ p p n).laneSt]
    refine State.each_keeps (I := fun u => u.laneSt p n = 0) (fun m _ u hu => ?_) ((down n).trans (by rw [if_pos lane, if_neg st]))
    by_cases same : n = m
    · subst same
      exact (State.fld_setFld_clear _ _ _ _ _ _ ⟨by decide, by decide⟩ (by decide)).trans hu
    · exact (State.LaneKept.setFld u same _ _).laneSt.trans hu

end Sys2Proof.Machine
end

section
/-! Lane pairs go down and come back (R232–R234). -/
namespace Sys2Proof.Machine
-- This option keeps Lean from elaborating the proofs side by side, for which the check's memory limit leaves too few threads.
set_option deprecated.oldSectionVars true

/-! ### A write of LNK_CTRL -/

/-- LNK_CTRL takes EN and SPARE_EN of the word that is written. -/
def State.ctrlSet (s : State) (p : Nat) (v : Word) : State := s.setFld (.lnk p) Lnk.LNK_CTRL (v.toNat % 8 / 4 * 4 + v.toNat % 2)

theorem State.ctrlSet_kept (s : State) (p : Nat) (v : Word) : Kept (partsMask [pk (.lnk 0)]) s (s.ctrlSet p v) :=
  State.setFld_kept .of_beq (.refl _ s) (by simp only [Page.kind]; decide +kernel)

theorem State.ctrlSet_en (s : State) (p : Nat) (v : Word) : (s.ctrlSet p v).flag (.lnk p) Lnk.LNK_CTRL_EN = bitAt v.toNat 0 := by
  rw [State.flag, State.ctrlSet, Lnk.LNK_CTRL, Lnk.LNK_CTRL_EN, State.fld_setFld_word]
  simp only [bitsOf, bitAt]
  congr 1
  omega

theorem State.lnkCtrl_eq (s : State) (p : Nat) (v : Word) : s.lnkCtrl p v =
    let t := if bitAt v.toNat 0 && !s.flag (.lnk p) Lnk.LNK_CTRL_EN then (s.ctrlSet p v).portUp p
      else if s.flag (.lnk p) Lnk.LNK_CTRL_EN && !bitAt v.toNat 0 then (s.ctrlSet p v).portDown p else s.ctrlSet p v
    if bitAt v.toNat 1 && bitAt v.toNat 0 then t.retrain p else t := rfl

theorem State.lnkCtrl_retrain {s : State} {p : Nat} {v : Word} (en : bitAt v.toNat 0 = true) (again : bitAt v.toNat 1 = true)
    (on : s.flag (.lnk p) Lnk.LNK_CTRL_EN = true) : s.lnkCtrl p v = (s.ctrlSet p v).retrain p := by
  rw [State.lnkCtrl_eq]
  simp [en, again, on]

theorem exec_retrain {s : State} {m : Master} {p : Nat} (may : s.MayWrite m (.lnk p)) (on : s.flag (.lnk p) Lnk.LNK_CTRL_EN = true) :
    ∃ v, exec (.retrain m p) s = .next (((s.touch (.lnk p)).ctrlSet p v).retrain p) := by
  refine ⟨BitVec.ofNat 32 ((s.touch (.lnk p)).fld (.lnk p) Lnk.LNK_CTRL) ||| 2, ?_⟩
  have en : (s.reg (regKey (.lnk p) 0x100 0)).toNat % 2 = 1 := by simpa [State.flag, State.fld, Lnk.LNK_CTRL_EN, bitsOf] using on
  have bit0 : bitAt (BitVec.ofNat 32 ((s.touch (.lnk p)).fld (.lnk p) Lnk.LNK_CTRL) ||| 2).toNat 0 = true := by
    rw [Lnk.LNK_CTRL, State.fld_word, State.touch_reg, BitVec.ofNat_toNat, bitAt_eq_testBit, BitVec.setWidth_eq, BitVec.toNat_or, Nat.testBit_or,
      Nat.testBit_zero, en]
    rfl
  have bit1 : bitAt (BitVec.ofNat 32 ((s.touch (.lnk p)).fld (.lnk p) Lnk.LNK_CTRL) ||| 2).toNat 1 = true := by
    rw [bitAt_eq_testBit, BitVec.toNat_or, Nat.testBit_or]
    exact Bool.or_true _
  have was : (s.touch (.lnk p)).flag (.lnk p) Lnk.LNK_CTRL_EN = true := on
  rw [exec, execRetrain, State.gated_held _ may, State.lnkCtrl_retrain bit0 bit1 was]

theorem exec_portEnable {s : State} {m : Master} {p : Nat} (v : Word) (may : s.MayWrite m (.lnk p)) :
    exec (.portEnable m p v) s = .next ((s.touch (.lnk p)).lnkCtrl p v) := by
  simp only [exec, execPortEnable, State.gated_held _ may]

theorem State.lnkCtrl_up {s : State} {p : Nat} {v : Word} (up : v.toNat % 4 = 1) (off : s.flag (.lnk p) Lnk.LNK_CTRL_EN = false) :
    s.lnkCtrl p v = (s.ctrlSet p v).portUp p := by
  have bit0 : bitAt v.toNat 0 = true := by simp only [bitAt, beq_iff_eq]; omega
  have bit1 : bitAt v.toNat 1 = false := by simp only [bitAt, beq_eq_false_iff_ne]; omega
  rw [State.lnkCtrl_eq]
  simp [bit0, bit1, off]

theorem State.lnkCtrl_down {s : State} {p : Nat} {v : Word} (down : v.toNat % 2 = 0) (on : s.flag (.lnk p) Lnk.LNK_CTRL_EN = true) :
    s.lnkCtrl p v = (s.ctrlSet p v).portDown p := by
  have bit0 : bitAt v.toNat 0 = false := by simp only [bitAt, beq_eq_false_iff_ne]; omega
  rw [State.lnkCtrl_eq]
  simp [bit0, on]

/-! ### The timers of a lane -/

theorem exec_laneRetrainTimer {s : State} {p n : Nat} (st : s.laneSt p n = 4) (waited : (s.laneX p n).since + 10 ≤ s.tick)
    (on : s.flag (.lnk p) Lnk.LNK_CTRL_EN = true) (rings : copper p = true ∨ 4 ≤ s.lockable p) :
    exec (.laneRetrainTimer p n) s = .next (s.startTraining p n) := by
  have rings' : (copper p || decide (4 ≤ s.lockable p)) = true := by simpa using rings
  simp only [exec, execLaneRetrainTimer, st, waited, on, rings', decide_true, Bool.and_self, if_true]

theorem exec_quarantineEnd {s : State} {p n : Nat} (st : s.laneSt p n = 5) (passed : s.fld64 (.lan p) Lan.QUAR_END_LO n ≤ s.tick) :
    exec (.quarantineEnd p n) s = .next (s.startTraining p n) := by
  simp only [exec, execQuarantineEnd, st, passed, decide_true, Bool.and_self, if_true]

/-- The strikes of a lane are forgotten. -/
def State.unstrike (s : State) (p n : Nat) : State :=
  (s.modLane p n (fun x => { x with strikeAt := [] })).setFld (.lan p) Lan.LANE_STATE_STRIKES 0 n

theorem exec_strikeReset {s : State} {p n : Nat} (st : s.laneSt p n = 2 ∨ s.laneSt p n = 3) (long : (s.laneX p n).since + 100000 ≤ s.tick) :
    exec (.strikeReset p n) s = .next (s.unstrike p n) := by
  have st' : (decide (s.laneSt p n = 2) || decide (s.laneSt p n = 3)) = true := by simpa using st
  simp only [exec, execStrikeReset, st', long, decide_true, Bool.and_self, if_true]
  rfl

theorem State.unstrike_forgets (s : State) (p n : Nat) : (s.unstrike p n).fld (.lan p) Lan.LANE_STATE_STRIKES n = 0 ∧
    ((s.unstrike p n).laneX p n).strikeAt = [] ∧ (s.unstrike p n).laneSt p n = s.laneSt p n := by
  have strikes : Lan.LANE_STATE_STRIKES.ok := ⟨by decide, by decide⟩
  refine ⟨State.fld_setFld_same _ _ _ _ _ strikes, ?_, ?_⟩
  · rw [State.unstrike, State.laneX_congr (State.setFld_lanes _ _ _ _ _), State.laneX_modLane_same]
  · rw [State.unstrike, State.laneSt, State.fld_setFld_clear _ _ _ _ _ _ strikes (by decide), State.modLane_fld, State.laneSt]

/-! ### LANE_DISABLE and LANE_CLEAR -/

theorem State.laneDisable_disables (s : State) (p n : Nat) : (s.laneDisable p n).laneSt p n = 6 := by
  unfold State.laneDisable
  split
  next already => exact already
  next =>
    extract_lets was t
    have event : Kept (partsMask ofEvents) ((s.setLaneSt p n 6).setFld (.lan p) Lan.LANE_STATE_SERVES 15 n) t := State.event_kept .of_beq (.refl _ _)
    have out : t.laneSt p n = 6 := by
      rw [event.laneSt, State.laneSt, State.fld_setFld_clear _ _ _ _ _ _ ⟨by decide, by decide⟩ (by decide)]
      exact s.setLaneSt_same p n (by decide)
    split
    · exact (State.laneLeave_laneKept t (by rw [out]; decide) n true).laneSt.trans out
    · exact (State.portSync_laneKept t p p n).laneSt.trans out

theorem State.laneClear_clears {s : State} {p n : Nat} (out : s.laneSt p n = 6) : (s.laneClear p n).laneSt p n = 0 ∧
    (s.laneClear p n).fld (.lan p) Lan.LANE_STATE_STRIKES n = 0 ∧ (s.laneClear p n).fld (.lan p) Lan.LANE_STATE_QLEVEL n = 0 := by
  have strikes : Lan.LANE_STATE_STRIKES.ok := ⟨by decide, by decide⟩
  have level : Lan.LANE_STATE_QLEVEL.ok := ⟨by decide, by decide⟩
  rw [State.laneClear, if_pos out]
  refine ⟨?_, ?_, State.fld_setFld_same _ _ _ _ _ level⟩
  · rw [State.laneSt, State.fld_setFld_clear _ _ _ _ _ _ level (by decide), State.fld_setFld_clear _ _ _ _ _ _ strikes (by decide),
      State.modLane_fld]
    exact s.setLaneSt_same p n (by decide)
  · rw [State.fld_setFld_clear _ _ _ _ _ _ level (by decide)]
    exact State.fld_setFld_same _ _ _ _ _ strikes

theorem exec_laneDisable {s : State} {m : Master} {p : Nat} (may : s.MayWrite m (.lan p)) :
    exec (.laneDisable m p) s = .next ((s.touch (.lan p)).laneDisable p (s.laneSel p)) := by
  simp only [exec, execLaneDisable, State.gated_held _ may]
  rfl

theorem exec_laneClear {s : State} {m : Master} {p : Nat} (may : s.MayWrite m (.lan p)) :
    exec (.laneClear m p) s = .next ((s.touch (.lan p)).laneClear p (s.laneSel p)) := by
  simp only [exec, execLaneClear, State.gated_held _ may]
  rfl

/-! ### The obligation -/

/-- The failure of a lane by loss of signal, or by a training that takes too long, strikes it. -/
theorem exec_laneFails_struck {s : State} {p n : Nat} {c : Instr × Nat} (listed : c ∈ [(Instr.laneLos p n, 2), (.laneLos p n, 3), (.laneTrainTimeout p n, 1)])
    (cu : copper p = true) (st : s.laneSt p n = c.2) : ∃ t, exec c.1 s = .next t ∧ s.LaneStruck t p n := by
  simp only [List.mem_cons, List.not_mem_nil, or_false] at listed
  obtain rfl | rfl | rfl := listed
  · exact ⟨_, by rw [exec, execLaneLos, State.laneFault_copper cu], State.laneFail_struck cu _ (.inl st)⟩
  · exact ⟨_, by rw [exec, execLaneLos, State.laneFault_copper cu], State.laneFail_struck cu _ (.inr st)⟩
  · exact ⟨_, by rw [exec, execLaneTrainTimeout, if_pos st], s.trainFail_struck p n 1 false⟩

/-- Settles O16: the failures strike the lane (`LaneStruck`), the timers start its training, and the writes of software run over the lanes of the
port, each of which moves its own state only. -/
theorem lanesFailTrainAndReturn : Obligations.LanesFailTrainAndReturn := by
  unfold Obligations.LanesFailTrainAndReturn
  have nine : ∀ {p n : Nat}, copper p = true → n < 9 → n ∈ laneIds p := by
    intro p n cu lane
    rw [laneIds, if_pos (by simpa [copper] using cu), List.mem_range]
    exact lane
  refine ⟨?fails, ?spare, ?locked, ?again, ?notYet, ?quarantine, ?still, ?reset, ?disable, ?clear, ?keep, ?retrain, ?up, ?down⟩
  case fails =>
    intro s p n c listed cu st
    obtain ⟨t, run, struck⟩ := exec_laneFails_struck listed cu st
    exact ⟨t, run, struck.fails, struck.strikes, struck.failed, struck.quarantined, struck.disabled⟩
  case spare =>
    intro s p n q cu active spare
    exact ⟨_, by rw [exec, execLaneLos, State.laneFault_copper cu], State.laneFail_spare _ active spare⟩
  case locked =>
    intro s p n w0 w1 cu st step
    obtain ⟨low, high⟩ := s.trimLearn_loads p n w0 w1
    have kept : Kept 5192296858540435438730003544543376 s (s.trimLearn p n w0 w1) := State.trimLearn_kept (Msub.refl _) (.refl _ s)
    refine ⟨_, exec_laneSignalLocked w0 w1 cu st step, by simp, ?_, (State.modLane_fld _ _ _ _ _ _ _).trans low,
      (State.modLane_fld _ _ _ _ _ _ _).trans high⟩
    exact (State.modLane_fld _ _ _ _ _ _ _).trans ((kept.laneSt p n).trans st)
  case again =>
    intro s p n st waited on chip rings
    exact ⟨_, exec_laneRetrainTimer st waited on rings, State.startTraining_trains p n chip⟩
  case notYet =>
    intro s p n st early
    simp [exec, execLaneRetrainTimer, Nat.not_le.mpr early]
  case quarantine =>
    intro s p n st passed chip
    exact ⟨_, exec_quarantineEnd st passed, (State.startTraining_trains p n chip).1⟩
  case still =>
    intro s p n st early
    simp [exec, execQuarantineEnd, Nat.not_le.mpr early]
  case reset =>
    intro s p n st long
    exact ⟨_, exec_strikeReset st long, s.unstrike_forgets p n⟩
  case disable =>
    intro s m p may
    exact ⟨_, exec_laneDisable may, State.laneDisable_disables _ p _⟩
  case clear =>
    intro s m p may out
    exact ⟨_, exec_laneClear may, State.laneClear_clears (s := s.touch (.lan p)) out⟩
  case keep =>
    intro s m p may running
    refine ⟨_, exec_laneClear may, ?_⟩
    rw [State.laneClear, if_neg (show ¬ (s.touch (.lan p)).laneSt p (s.laneSel p) = 6 from running)]
    rfl
  case retrain =>
    intro s m p may cu on chip
    obtain ⟨v, run⟩ := exec_retrain may on
    have kept := (s.touch (.lnk p)).ctrlSet_kept p v
    refine ⟨_, run, fun n lane low high => State.retrain_trains cu ((kept.flag .glb _ 0).trans chip) (nine cu lane) ?_ ?_⟩
    · exact low.trans_eq (kept.laneSt p n).symm
    · exact (kept.laneSt p n).trans_le high
  case up =>
    intro s m p v may cu set off chip
    have kept := (s.touch (.lnk p)).ctrlSet_kept p v
    have bit : bitAt v.toNat 0 = true := by simp only [bitAt, beq_iff_eq]; omega
    refine ⟨_, exec_portEnable v may, ?_⟩
    rw [State.lnkCtrl_up (s := s.touch (.lnk p)) set off]
    refine ⟨(State.portUp_flag _ cu _).trans ((State.ctrlSet_en _ p v).trans bit), fun n lane st => ?_⟩
    exact State.portUp_trains cu ((kept.flag .glb _ 0).trans chip) (nine cu (by omega)) lane ((kept.laneSt p n).trans st)
  case down =>
    intro s m p v may cu clear on
    have kept := (s.touch (.lnk p)).ctrlSet_kept p v
    have bit : bitAt v.toNat 0 = false := by simp only [bitAt, beq_eq_false_iff_ne]; omega
    refine ⟨_, exec_portEnable v may, ?_⟩
    rw [State.lnkCtrl_down (s := s.touch (.lnk p)) clear on]
    obtain ⟨ctrl, off⟩ := State.portDown_downs (s := (s.touch (.lnk p)).ctrlSet p v) cu
    exact ⟨ctrl.trans ((State.ctrlSet_en _ p v).trans bit), fun n lane st => off n (nine cu lane) (by rwa [kept.laneSt])⟩

end Sys2Proof.Machine
end

section
/-! SUPPORT. The order in which a bundle releases flits (R229) is the receiver's own: what links, lanes and ring pairs do beside leaves each
bundle's next SEQ and the changes of lanes that wait for theirs, and a resumption at most empties the reorder window (R236). -/
namespace Sys2Proof.Machine
-- This option keeps Lean from elaborating the proofs side by side, for which the check's memory limit leaves too few threads.
set_option deprecated.oldSectionVars true

/-- No flit has been released: each bundle expects the SEQ that it expected, and holds what it held or nothing. -/
structure State.Turns (s t : State) : Prop where
  next : ∀ b, (t.bundle b).rxNext = (s.bundle b).rxNext
  ctl : ∀ b, (t.bundle b).ctl = (s.bundle b).ctl
  held : ∀ b, (t.bundle b).reorder = (s.bundle b).reorder ∨ (t.bundle b).reorder = []

/-- Every part but the bundles. -/
def quietMask : Nat := 2 ^ 160 - 1 - 2 ^ 89

theorem quietMask_page (pg : Page) : quietMask.testBit pg.kind = true := by
  have low : ∀ k < 64, quietMask.testBit k = true := by decide +kernel
  exact low _ (Page.kind_lt pg)

namespace State
variable {s0 s t : State}

theorem Turns.refl (s : State) : s.Turns s := ⟨fun _ => rfl, fun _ => rfl, fun _ => .inl rfl⟩

theorem Turns.trans (a : s0.Turns s) (b : s.Turns t) : s0.Turns t :=
  ⟨fun x => (b.next x).trans (a.next x), fun x => (b.ctl x).trans (a.ctl x),
    fun x => (b.held x).elim (fun same => (a.held x).imp same.trans same.trans) .inr⟩

theorem Turns.same (h : s0.Turns s) (same : t.bundles = s.bundles := by rfl) : s0.Turns t := by
  have each : ∀ b, t.bundle b = s.bundle b := bundle_congr same
  exact h.trans ⟨fun b => by rw [each], fun b => by rw [each], fun b => .inl (by rw [each])⟩

/-- What leaves the bundles' records alone. -/
theorem Turns.quiet (h : s0.Turns s) (kept : Kept quietMask s t) : s0.Turns t := by
  exact h.same kept.bundles

theorem Turns.setBundle (h : s0.Turns s) (b : Nat) (x : Bundle) (next : x.rxNext = (s.bundle b).rxNext := by rfl)
    (ctl : x.ctl = (s.bundle b).ctl := by rfl) (held : x.reorder = (s.bundle b).reorder ∨ x.reorder = [] := by exact .inl rfl) :
    s0.Turns (s.setBundle b x) := by
  refine h.trans ⟨fun c => ?_, fun c => ?_, fun c => ?_⟩ <;> by_cases same : c = b
  case pos | pos | pos => subst same; simpa using by assumption
  all_goals simp [bundle_setBundle_ne _ _ same]

theorem Turns.each {α : Type} {l : List α} {f : α → State → State} (step : ∀ x u, s0.Turns u → s0.Turns (f x u)) (h : s0.Turns s) :
    s0.Turns (s.each l f) := each_keeps (fun x _ u hu => step x u hu) h

theorem Turns.ite {c : Prop} [Decidable c] (yes : s0.Turns s) (no : s0.Turns t) : s0.Turns (if c then s else t) := by split <;> assumption

/-! ### Bundles -/

theorem enqueue_turns (h : s0.Turns s) (b : Nat) (f : Flit) : s0.Turns (s.enqueue b f) :=
  Turns.setBundle (s := { s with plan := { s.plan with queued := s.plan.queued + 1 } }) h.same b _

theorem sendBundle_turns (h : s0.Turns s) (b : Nat) (p : Pay) : s0.Turns (s.sendBundle b p) := enqueue_turns h b _

theorem routeOut_turns (h : s0.Turns s) (f : Flit) (inB : Option Nat) : s0.Turns (s.routeOut f inB) := by
  unfold routeOut
  split
  · exact h.quiet (noroute__kept .of_beq (.refl _ s))
  · extract_lets part
    refine .ite (h.quiet (dropNote_kept .of_beq (bump_kept .of_beq (.refl _ s) (quietMask_page _))))
      (.ite (h.quiet (dropNote_kept .of_beq (bump_kept .of_beq (.refl _ s) (quietMask_page _))))
        (.ite (h.quiet (event_kept .of_beq (bump_kept .of_beq (.refl _ s) (quietMask_page _)))) (enqueue_turns ?_ _ _)))
    exact .ite (h.quiet (bump_kept .of_beq (.refl _ s) (quietMask_page _))) h

theorem sendE2e_turns (h : s0.Turns s) (dest part ctx gen cls die : Nat) (p : Pay) (mgt : Bool) :
    s0.Turns (s.sendE2e dest part ctx gen cls die p mgt).1 :=
  routeOut_turns (h.quiet (takeNctr_kept .of_beq (.refl _ s))) _ none

theorem startResume_turns (h : s0.Turns s) (b : Nat) : s0.Turns (s.startResume b) :=
  sendE2e_turns (h.setBundle b { s.bundle b with resumeSent := true, resumeWait := true, reorder := [] } rfl rfl (.inr rfl)) _ _ _ _ _ _ _ _

theorem bundleStop_turns (h : s0.Turns s) (b st : Nat) : s0.Turns (s.bundleStop b st) := by
  unfold bundleStop
  refine .ite (startResume_turns (.quiet h ?_) b) h
  exact Kept.each (event_kept .of_beq (setFld_kept .of_beq (.refl _ s) (quietMask_page _)))
    fun e u hu => .ite (steerDrop_kept .of_beq hu) hu

theorem bundleSync_turns (h : s0.Turns s) (b : Nat) : s0.Turns (s.bundleSync b) := by
  unfold bundleSync
  extract_lets -underBinder l s1 rtt skew s2 peer
  have h2 : s0.Turns s2 := h.quiet (setFld_kept .of_beq (setFld_kept .of_beq (.refl _ s) (quietMask_page _)) (quietMask_page _))
  clear_value peer
  cases peer with
  | none => exact bundleStop_turns h2 b 0
  | some c =>
    refine .ite h2 (.quiet (h2.setBundle b { s2.bundle b with got := [], used := [], resumeSent := false, resumeWait := false }) ?_)
    exact event_kept .of_beq (heard_kept .of_beq (setFld_kept .of_beq (setFld_kept .of_beq (setFld_kept .of_beq (setFld_kept .of_beq
      (.refl _ _) (quietMask_page _)) (quietMask_page _)) (quietMask_page _)) (quietMask_page _)))

theorem replayOn_turns (h : s0.Turns s) (b p n : Nat) : s0.Turns (s.replayOn b p n) := by
  unfold replayOn
  extract_lets x
  split
  · exact h.setBundle b _
  · exact h

theorem replayLane_turns (h : s0.Turns s) (p n : Nat) : s0.Turns (s.replayLane p n) := h.each fun b _ hu => replayOn_turns hu b p n

/-! ### Lanes -/

theorem opticalDown_turns (h : s0.Turns s) (p : Nat) : s0.Turns (s.opticalDown p) := by
  unfold opticalDown
  extract_lets act u
  refine .ite (.quiet (s := u) (h.each fun n v hv => ?_) (portSync_kept .of_beq (event_kept .of_beq (.refl _ u)))) h
  have left := replayLane_turns (hv.quiet (setLaneSt_kept .of_beq (.refl _ v) (p1 := p) (p2 := n) (p3 := 4))) p n
  exact bundleSync_turns (.ite left (sendBundle_turns left _ _)) _

theorem leaveBundle_turns (h : s0.Turns s) (p n : Nat) (tell : Bool) : s0.Turns (s.leaveBundle p n tell) := by
  have left := replayLane_turns h p n
  exact bundleSync_turns (.ite (sendBundle_turns left _ _) left) _

theorem laneLeave_turns (h : s0.Turns s) (p n : Nat) (tell : Bool) : s0.Turns (s.laneLeave p n tell) := by
  rw [laneLeave_eq]
  exact opticalDown_turns ((leaveBundle_turns h p n tell).quiet (portSync_kept .of_beq (.refl _ _))) p

theorem spareTakes_turns (h : s0.Turns s) (p n q place : Nat) : s0.Turns (s.spareTakes p n q place) := by
  unfold spareTakes
  extract_lets b s1 s2 since s3 s4
  have seated : s0.Turns s3 := replayLane_turns (h.quiet (modLane_kept .of_beq (setLaneSt_kept .of_beq
    (setFld_kept .of_beq (setFld_kept .of_beq (.refl _ s) (quietMask_page _)) (quietMask_page _))))) p n
  exact (bundleSync_turns (seated.quiet (event_kept .of_beq (.refl _ s3))) b).quiet (portSync_kept .of_beq (.refl _ _))

theorem laneFailTo_turns (h : s0.Turns s) (p n cause : Nat) (spare : Option Nat) (tell : Bool) : s0.Turns (s.laneFailTo p n cause spare tell) := by
  unfold laneFailTo
  extract_lets st s1 b place s2
  have noted : s0.Turns s2 := h.quiet (laneStrike_kept .of_beq (event_kept .of_beq (.refl _ s)))
  refine .ite h (.ite (noted.quiet (portSync_kept .of_beq (.refl _ s2))) ?_)
  split
  · exact spareTakes_turns (.ite (sendBundle_turns noted _ _) noted) _ _ _ _
  · exact laneLeave_turns noted p n tell

theorem laneFail_turns (h : s0.Turns s) (p n cause : Nat) (tell : Bool) : s0.Turns (s.laneFail p n cause tell) :=
  laneFailTo_turns h p n cause _ tell

theorem mergeCopper_turns (h : s0.Turns s) (c b : Nat) : s0.Turns (s.mergeCopper c b) := by
  refine h.each fun q u hu => ?_
  dsimp only
  refine .ite hu (bundleSync_turns (bundleSync_turns (hu.quiet (Kept.each (.refl _ u) fun n v hv => setFld_kept .of_beq hv (quietMask_page _))) _) _)

theorem laneJoin_turns (h : s0.Turns s) (p n b : Nat) : s0.Turns (s.laneJoin p n b) := by
  unfold laneJoin
  extract_lets c eff s1 s2 s3 s4
  have joined : s0.Turns s2 := bundleSync_turns (h.quiet (heard_kept .of_beq (event_kept .of_beq (setLaneSt_kept .of_beq
    (setFld_kept .of_beq (.refl _ s) (quietMask_page _)))))) b
  have merged : s0.Turns s3 := .ite (mergeCopper_turns joined c b) joined
  exact .quiet (s := s4) (.ite (sendBundle_turns merged _ _) merged) (portSync_kept .of_beq (.refl _ _))

theorem copperAdmit_turns (h : s0.Turns s) (p n : Nat) : s0.Turns (s.copperAdmit p n) := by
  unfold copperAdmit
  exact .ite (h.quiet (portSync_kept .of_beq (setLaneSt_kept .of_beq (.refl _ s)))) (laneJoin_turns h p n _)

/-! ### Ring pairs -/

theorem laneRests_turns (h : s0.Turns s) (p n : Nat) : s0.Turns (s.laneRests p n) := by
  unfold laneRests
  exact .ite h (.ite (laneLeave_turns (h.quiet (setLaneSt_kept .of_beq (.refl _ s))) p n true)
    (.ite (h.quiet (setLaneSt_kept .of_beq (.refl _ s))) h))

theorem ringLeave_turns (h : s0.Turns s) (p r goal : Nat) : s0.Turns (s.ringLeave p r goal) := by
  unfold ringLeave
  extract_lets n b home s1 s2 s3
  have moved : s0.Turns s2 := replayOn_turns (h.quiet (ringMove_kept .of_beq (.ite (keepCodes_kept .of_beq (.refl _ s)) (.refl _ s)))) b p n
  have rested : s0.Turns s3 := moved.each fun m u hu => laneRests_turns hu p m
  exact .ite (rested.quiet (portSync_kept .of_beq (.refl _ s3))) ((bundleSync_turns rested b).quiet (portSync_kept .of_beq (.refl _ _)))

theorem ringNotice_turns (h : s0.Turns s) (p r cause : Nat) : s0.Turns (s.ringNotice p r cause) := sendBundle_turns h _ _

/-- The pair that takes a failed pair's place stands on its line (R272 step 1). -/
theorem ringTakes_turns (h : s0.Turns s) (p q line b peer : Nat) (f : RingX → RingX) (drv : Nat) :
    s0.Turns (let s := if s.ringSt p q = 3 then ((s.ringLeave p q 3).setRingLine p q line).holdPair p q else (s.setRingLine p q line).ringMove p q 3
      let s := s.setRingF p q Rng.RING_STATE_BUNDLE b
      let s := s.setRingF p q Rng.RING_PEER peer
      (s.modRing p q f).replayOn b p drv) := by
  extract_lets s1 s2 s3
  have moved : s0.Turns s1 := .ite ((ringLeave_turns h p q 3).quiet (holdPair_kept .of_beq (setRingLine_kept .of_beq (.refl _ _))))
    (h.quiet (ringMove_kept .of_beq (setRingLine_kept .of_beq (.refl _ s))))
  exact replayOn_turns (moved.quiet (modRing_kept .of_beq (setRingF_kept .of_beq (setRingF_kept .of_beq (.refl _ s1))))) b p drv

theorem ringReplace_turns (h : s0.Turns s) (p r : Nat) : s0.Turns (s.ringReplace p r) := by
  unfold ringReplace
  extract_lets -underBinder x e n line b peer drv s1 spare parked s2 s3 due s4 s5
  refine .ite h ?_
  have out : s0.Turns s5 := h.quiet (modRing_kept .of_beq (modEng_kept .of_beq (ringMove_kept .of_beq
    (.ite (event_kept .of_beq (bump_kept .of_beq (bump_kept .of_beq (.refl _ s) (quietMask_page _)) (quietMask_page _)))
      (bump_kept .of_beq (.refl _ s) (quietMask_page _))))))
  split
  · exact ringTakes_turns out _ _ _ _ _ _ _
  · extract_lets -underBinder s6
    have rests : s0.Turns s6 := .ite out (laneRests_turns (replayOn_turns out _ _ _) _ _)
    split
    · exact laneFail_turns rests _ _ _ _
    · exact (bundleSync_turns rests _).quiet (portSync_kept .of_beq (.refl _ _))

theorem declare_turns (h : s0.Turns s) (p r cause notice : Nat) : s0.Turns (s.declare_ p r cause notice) := by
  unfold declare_
  extract_lets x s1 s2 s3
  have noted : s0.Turns s1 := h.quiet (event_kept .of_beq (.refl _ s))
  have counted : s0.Turns s2 := noted.quiet (bump_kept .of_beq (.refl _ s1) (quietMask_page _))
  exact .ite noted (ringReplace_turns (s := s3) (.ite counted (ringNotice_turns counted p r notice)) p r)

theorem ringAdmit_turns (h : s0.Turns s) (p r : Nat) : s0.Turns (s.ringAdmit p r) := by
  unfold ringAdmit
  extract_lets b s1
  have heard : s0.Turns s1 := h.quiet (heard_kept .of_beq (setRingF_kept .of_beq (.refl _ s)))
  split
  · exact .ite (laneJoin_turns heard p _ b) (bundleSync_turns heard b)
  · exact bundleSync_turns heard b

/-- A change of lanes that the peer has told takes effect on lanes and pairs (R233, R235, R272, R290). -/
theorem laneCtl_turns (h : s0.Turns s) (src : Nat) (c : LaneCtl) : s0.Turns (s.laneCtl src c) := by
  unfold laneCtl
  split
  · split
    · refine .ite (.ite (copperAdmit_turns h _ _) ?_) h
      split
      · exact ringAdmit_turns h _ _
      · exact h
    · exact h
  · split
    · exact laneFailTo_turns h _ _ _ _ _
    · exact h
  · split
    · exact laneFailTo_turns h _ _ _ _ _
    · exact laneFailTo_turns h _ _ _ _ _
    · exact h
  · split
    · exact .ite (declare_turns h _ _ _ _) (.ite h (h.quiet (modRing_kept .of_beq (.refl _ s))))
    · exact h
  · split
    · split
      · refine .ite (bundleSync_turns (.quiet h ?_) _) h
        exact event_kept .of_beq (modRing_kept .of_beq (setRingF_kept .of_beq (.refl _ s)))
      · exact h
    · exact h

theorem yoyoRx_turns (h : s0.Turns s) (b : Nat) (y : Yoyo) : s0.Turns (s.yoyoRx b y) := by
  unfold yoyoRx
  extract_lets s1 s2
  have compared : s0.Turns s1 := h.quiet (Kept.each (.refl _ s) fun e u hu => yoyoCompare_kept .of_beq hu)
  have marked : s0.Turns s2 := .ite (sendBundle_turns compared b _) compared
  exact .ite (marked.quiet (modPartX_kept .of_beq (.refl _ s2))) marked

end State
end Sys2Proof.Machine
end

section
/-! SUPPORT. How a flit is received (R229): the checks in their order, the bookkeeping of the link, and the release in SEQ order. -/
namespace Sys2Proof.Machine
-- This option keeps Lean from elaborating the proofs side by side, for which the check's memory limit leaves too few threads.
set_option deprecated.oldSectionVars true

/-! ### What a frame changes -/

/-- The parts that have no page, in the order of their bits. -/
def unpagedParts : List Part :=
  [.pending, .shadow, .memory, .lines, .output, .fresh, .module, .flash, .flipbook, .semTick, .semTie, .slots, .progs, .ring, .heldH, .heldM,
    .usedH, .usedM, .seqs, .stks, .reads, .mats, .nmus, .seals, .resets, .bundles, .lanes, .ports, .outst, .plan, .rings, .engs, .keys, .jobKeys,
    .decap, .frtLo, .noroute, .dropTick, .cores, .binds, .fences, .parts, .lineXs, .lineTag, .eps, .skews, .yoyoCur, .yoyoDue, .time, .ftNow,
    .ct, .colls, .taps, .nmuDone, .cks, .rcs, .mirs, .dgs, .fts, .sigs, .sigAcks, .sealTick, .faults, .sec, .mbox, .mboxMem, .procs, .cc, .upds,
    .sess, .mg, .portCnt]

theorem Part.bit_unpaged (p : Part) : (∃ k, p = .page k) ∨ (64 ≤ p.bit ∧ p.bit < 1000 ∧ unpagedParts[p.bit - 64]? = some p) := by
  cases p with
  | page k => exact .inl ⟨k, rfl⟩
  | _ => exact .inr ⟨by decide, by decide, rfl⟩

theorem Part.bit_injective {p q : Part} (h : p.bit = q.bit) : p = q := by
  have page : ∀ k, (Part.page k).bit < 64 ∨ 1000 ≤ (Part.page k).bit := by
    intro k
    simp only [Part.bit]
    split <;> omega
  obtain ⟨j, rfl⟩ | ⟨low, high, at_⟩ := p.bit_unpaged <;> obtain ⟨k, rfl⟩ | ⟨low', high', at'⟩ := q.bit_unpaged
  · simp only [Part.bit] at h
    congr 1
    split at h <;> split at h <;> omega
  · have := page j
    omega
  · have := page k
    omega
  · rw [h, at'] at at_
    exact (Option.some.inj at_).symm

theorem partsMask_testBit {ps : List Part} {n : Nat} (h : (partsMask ps).testBit n = true) : ∃ p ∈ ps, p.bit = n := by
  induction ps with
  | nil => simp [partsMask] at h
  | cons p ps ih =>
    simp only [partsMask, List.foldr_cons, Nat.testBit_or, Bool.or_eq_true, Nat.testBit_two_pow, decide_eq_true_eq] at h
    obtain here | later := h
    · exact ⟨p, List.mem_cons_self, here⟩
    · obtain ⟨q, listed, bit⟩ := ih later
      exact ⟨q, List.mem_cons_of_mem _ listed, bit⟩

/-- A frame over the mask of some parts changes only those. -/
theorem Kept.changesOnly {ps : List Part} {s t : State} (h : Kept (partsMask ps) s t) : s.changesOnly ps t := by
  intro p out
  refine h.agree p (Bool.eq_false_iff.mpr fun set => out ?_)
  obtain ⟨q, listed, bit⟩ := partsMask_testBit set
  exact Part.bit_injective bit ▸ listed

/-! ### The commands of flits -/

/-- A flit command is the arrival of its flit. -/
theorem exec_of_flitOf {c : Instr} {s : State} {p n : Nat} {o : RxObs} {f : Flit} {arr : Nat} (h : flitOf c = some (p, n, o, f, arr)) :
    exec c s = .next (s.rxFlit p n o f arr) := by
  unfold flitOf at h
  split at h <;> cases h <;> rfl

/-! ### The checks of an arriving flit -/

namespace State

theorem rxFlit_off {s : State} {p n : Nat} {o : RxObs} {f : Flit} {arr : Nat} (off : s.rxOn p n = false) : s.rxFlit p n o f arr = s := by
  simp [rxFlit, off]

theorem rxFlit_corrupt {s : State} {p n : Nat} {o : RxObs} {f : Flit} {arr : Nat} (on : s.rxOn p n = true) (bad : o.crcOk = false) :
    s.rxFlit p n o f arr = s.bump (.lnk p) Lnk.CRC_ERR_CNT := by
  simp [rxFlit, on, bad]

/-- A flit whose CRC matches, and that trains nothing, meets the checks of R229 step 2. -/
theorem rxFlit_untrained {s : State} {p n : Nat} {o : RxObs} {f : Flit} {arr : Nat} (crc : o.crcOk = true) (pay : ∀ t, f.p ≠ .train t)
    (un : s.rxTrained p n = false) : s.rxFlit p n o f arr = s := by
  unfold rxFlit
  split
  · rfl
  · split
    · next bad => simp [crc] at bad
    · split
      · exact absurd ‹_› (pay _)
      · rw [if_pos (by simp [un])]

theorem rxFlit_misdelivered {s : State} {p n : Nat} {o : RxObs} {f : Flit} {arr : Nat} (on : s.rxOn p n = true) (crc : o.crcOk = true)
    (pay : ∀ t, f.p ≠ .train t) (trained : s.rxTrained p n = true) (other : f.h.next ≠ s.chip) : s.rxFlit p n o f arr = s.misdelivered p n := by
  unfold rxFlit
  rw [if_neg (by simp [on]), if_neg (by simp [crc])]
  split
  · exact absurd ‹_› (pay _)
  · rw [if_neg (by simp [trained]), if_pos other]

theorem Arrives.hears {s : State} {p n : Nat} {o : RxObs} {h : FlitHdr} (a : s.Arrives p n o h) :
    s.bundleHears (s.rxBundle p n) = s.heard (s.rxBundle p n) := if_neg a.alive

/-- A flit that is heard has only been noted for its bundle. -/
theorem heard_only (s : State) (b : Nat) : Kept (partsMask [pk .bnd]) s (s.heard b) := heard_kept .of_beq (.refl _ s)

end State

theorem Pay.sequenced_ne_train {p : Pay} (h : p.sequenced = true) (t : TrainMsg) : p ≠ .train t := by
  rintro rfl
  cases h

/-- The flit as it was received. -/
def Flit.seen (f : Flit) (o : RxObs) : Flit := { f with raw := o.bytes.getD [] }

namespace State

theorem Arrives.rxFlit {s : State} {p n : Nat} {o : RxObs} {f : Flit} {arr : Nat} (a : s.Arrives p n o f.h) (seq : f.p.sequenced = true) :
    s.rxFlit p n o f arr = (s.heard (s.rxBundle p n)).seqRx (s.rxBundle p n) p (f.seen o) := by
  obtain ⟨h, pay, raw⟩ := f
  rw [← a.hears]
  unfold State.rxFlit
  rw [if_neg (by simp [a.on]), if_neg (by simp [a.crc])]
  cases pay
  case idle | ack | nak | heartbeat | time | train => cases seq
  all_goals
    dsimp only
    rw [if_neg (by simp [a.trained]), if_neg (not_not.mpr a.next)]
    rfl

/-! ### The reorder window (R229 steps 4 and 5) -/

/-- A sequenced flit is counted at its port. -/
def counted (s : State) (p : Nat) : State :=
  ({ s with ports := tSet s.ports p { tGet s.ports p with rx := (per1024 (tGet s.ports p).rx).1 } }).bumpBy (.lnk p) Lnk.RX_FLITS
    (per1024 (tGet s.ports p).rx).2

/-- It waits in the reorder window. -/
def heldBack (s : State) (b p : Nat) (f : Flit) : State :=
  (s.counted p).setBundle b { s.bundle b with reorder := (s.bundle b).reorder ++ [(f, p)] }

/-- A ring notice and RING_ALIGNED take effect as they arrive (R272, R290). -/
def ringCtl (s : State) (f : Flit) : State :=
  match f.p with
  | .laneCtrl c => if 3 ≤ c.op && f.h.dest = s.chip then s.laneCtl f.h.src c else s
  | _ => s

/-- The SEQ of a flit has been released, or waits already. -/
def Dup (s : State) (b : Nat) (f : Flit) : Prop :=
  32768 ≤ seqDist (s.bundle b).rxNext f.h.seq ∨ ∃ e ∈ (s.bundle b).reorder, e.1.h.seq = f.h.seq

theorem seqRx_dup {s : State} {b p : Nat} {f : Flit} (dup : s.Dup b f) :
    s.seqRx b p f = (s.setBundle b { s.bundle b with ackDue := true }).bump (.lnk p) Lnk.DUP_DROP_CNT := by
  unfold seqRx
  exact if_pos (by simpa [Dup] using dup)

theorem seqRx_fresh {s : State} {b p : Nat} {f : Flit} (fresh : ¬ s.Dup b f) :
    s.seqRx b p f = ((s.heldBack b p f).ringCtl f).releaseAll b ((s.bundle b).reorder.length + 1) := by
  unfold seqRx
  exact if_neg (by simpa [Dup] using fresh)

theorem ringCtl_later {s : State} {f : Flit} (later : ∀ c, f.p = .laneCtrl c → c.op < 3 ∨ f.h.dest ≠ s.chip) : s.ringCtl f = s := by
  unfold ringCtl
  split
  next c pay =>
    refine if_neg ?_
    simp only [Bool.and_eq_true, decide_eq_true_eq, not_and_or, Nat.not_le]
    exact later c pay
  next => rfl

theorem counted_kept (s : State) (p : Nat) : Kept (partsMask [.ports, pk (.lnk 0)]) s (s.counted p) :=
  bumpBy_kept .of_beq (Kept.upd_ports .of_beq (.refl _ s)) (by simp only [Page.kind]; decide +kernel)

theorem heldBack_kept (s : State) (b p : Nat) (f : Flit) : Kept (partsMask [.bundles, .ports, pk (.lnk 0)]) s (s.heldBack b p f) :=
  setBundle_kept .of_beq (bumpBy_kept .of_beq (Kept.upd_ports .of_beq (.refl _ s)) (by simp only [Page.kind]; decide +kernel))

theorem bundle_heldBack_same (s : State) (b p : Nat) (f : Flit) :
    (s.heldBack b p f).bundle b = { s.bundle b with reorder := (s.bundle b).reorder ++ [(f, p)] } := bundle_setBundle_same _ _ _

theorem bundle_heldBack_ne (s : State) {b c : Nat} (p : Nat) (f : Flit) (h : c ≠ b) : (s.heldBack b p f).bundle c = s.bundle c :=
  (bundle_setBundle_ne _ _ h).trans ((s.counted_kept p).bundle c)

/-! ### The release in SEQ order (R229 step 6) -/

/-- Nothing is released where no flit that waits is the next. -/
theorem releaseAll_waits {s : State} {b : Nat} (waits : ∀ e ∈ (s.bundle b).reorder, e.1.h.seq ≠ (s.bundle b).rxNext) (fuel : Nat) :
    s.releaseAll b fuel = s := by
  have none : (s.bundle b).reorder.findIdx? (fun e => e.1.h.seq == (s.bundle b).rxNext) = none := by
    simpa [List.findIdx?_eq_none_iff] using waits
  cases fuel with
  | zero => rfl
  | succ fuel => simp only [releaseAll, none]

/-- The next flit of a bundle has been taken out of its window, which is empty then. -/
def turned (s : State) (b : Nat) : State :=
  s.setBundle b { s.bundle b with rxNext := ((s.bundle b).rxNext + 1) % 65536, reorder := [], ackDue := true }

theorem turned_kept (s : State) (b : Nat) : Kept (partsMask [.bundles]) s (s.turned b) := setBundle_kept .of_beq (.refl _ s)

/-- The one flit that waits is the next, and is released. -/
theorem releaseAll_one {s : State} {b p : Nat} {f : Flit} (one : (s.bundle b).reorder = [(f, p)]) (next : f.h.seq = (s.bundle b).rxNext) :
    s.releaseAll b 1 = ((s.turned b).released b p f).ctlDue b := by
  have first : [(f, p)].findIdx? (fun e => e.1.h.seq == (s.bundle b).rxNext) = some 0 := by simp [List.findIdx?_cons, next]
  simp only [releaseAll, one, first, List.getElem?_cons_zero, List.eraseIdx_cons_zero]
  rfl

theorem ctlDue_settled {s : State} {b : Nat} (settled : (s.bundle b).ctl = []) : s.ctlDue b = s := by
  simp [ctlDue, settled]

/-! ### What is booked of a flit that is released -/

/-- The flit is heard, counted and taken from the window. -/
def booked (s : State) (p n : Nat) (f : Flit) : State :=
  ((s.heard (s.rxBundle p n)).heldBack (s.rxBundle p n) p f).turned (s.rxBundle p n)

theorem booked_kept (s : State) (p n : Nat) (f : Flit) : Kept (partsMask [.bundles, .ports, pk .bnd, pk (.lnk 0)]) s (s.booked p n f) :=
  setBundle_kept .of_beq (setBundle_kept .of_beq (bumpBy_kept .of_beq (Kept.upd_ports .of_beq (heard_kept .of_beq (.refl _ s)))
    (by simp only [Page.kind]; decide +kernel)))

theorem bundle_booked_same (s : State) (p n : Nat) (f : Flit) : (s.booked p n f).bundle (s.rxBundle p n) =
    { s.bundle (s.rxBundle p n) with
      rxNext := ((s.bundle (s.rxBundle p n)).rxNext + 1) % 65536, reorder := [], ackDue := true } := by
  rw [booked, turned, bundle_setBundle_same, bundle_heldBack_same, (s.heard_only _).bundle]

theorem bundle_booked_ne (s : State) {p n c : Nat} (f : Flit) (h : c ≠ s.rxBundle p n) : (s.booked p n f).bundle c = s.bundle c := by
  rw [booked, turned, bundle_setBundle_ne _ _ h, bundle_heldBack_ne _ _ _ h, (s.heard_only _).bundle]

/-- Of the bundles' page only the times at which they were heard change. -/
theorem booked_bnd (s : State) (p n : Nat) (f : Flit) (g : Fld) (c : Nat) (low : g.off ≠ 0x118) (high : g.off ≠ 0x11C) (inside : g.off < 4096) :
    (s.booked p n f).fld .bnd g c = s.fld .bnd g c := by
  have later : Kept (partsMask [.bundles, .ports, pk (.lnk 0)]) (s.heard (s.rxBundle p n)) (s.booked p n f) :=
    setBundle_kept .of_beq (setBundle_kept .of_beq (bumpBy_kept .of_beq (Kept.upd_ports .of_beq (.refl _ _))
      (by simp only [Page.kind]; decide +kernel)))
  rw [later.fld .bnd, heard, setFld64, fld_setFld_inside _ _ _ _ _ _ _ _ high (by decide) inside,
    fld_setFld_inside _ _ _ _ _ _ _ _ low (by decide) inside]

/-- A flit that is the next of its bundle, and that has not taken effect as it arrived, is released at once. -/
theorem InTurn.rxFlit {s : State} {p n : Nat} {o : RxObs} {f : Flit} {arr : Nat} (turn : s.InTurn p n o f.h) (seq : f.p.sequenced = true)
    (later : ∀ c, f.p = .laneCtrl c → c.op < 3 ∨ f.h.dest ≠ s.chip) : s.rxFlit p n o f arr =
      ((s.booked p n (f.seen o)).released (s.rxBundle p n) p (f.seen o)).ctlDue (s.rxBundle p n) := by
  obtain ⟨arrives, next, alone, settled⟩ := turn
  have heard := s.heard_only (s.rxBundle p n)
  have record := heard.bundle (s.rxBundle p n)
  have fresh : ¬ (s.heard (s.rxBundle p n)).Dup (s.rxBundle p n) (f.seen o) := by
    have near : seqDist (s.bundle (s.rxBundle p n)).rxNext (f.seen o).h.seq < 32768 := by
      rw [show (f.seen o).h.seq = _ from next, seqDist]
      omega
    simp only [Dup, record, alone, List.not_mem_nil, false_and, exists_false, or_false]
    omega
  have held := (s.heard (s.rxBundle p n)).bundle_heldBack_same (s.rxBundle p n) p (f.seen o)
  rw [record, alone, List.nil_append] at held
  have late : ((s.heard (s.rxBundle p n)).heldBack (s.rxBundle p n) p (f.seen o)).ringCtl (f.seen o) =
      (s.heard (s.rxBundle p n)).heldBack (s.rxBundle p n) p (f.seen o) := by
    refine ringCtl_later fun c pay => (later c pay).imp_right fun away => ?_
    rwa [(heldBack_kept _ _ _ _).chip, heard.chip]
  rw [arrives.rxFlit seq, seqRx_fresh fresh, late, record, alone]
  exact releaseAll_one (by rw [held]) (by rw [held]; exact next)

/-- What has kept the order of release leaves no change of lanes due. -/
theorem Turns.settled {s t : State} {p n : Nat} {o : RxObs} {f : Flit} (turn : s.InTurn p n o f.h) {g : Flit}
    (h : (s.booked p n g).Turns t) : t.ctlDue (s.rxBundle p n) = t :=
  ctlDue_settled (by rw [h.ctl, bundle_booked_same]; exact turn.settled)

/-! ### What is booked of an end-to-end flit (R225) -/

/-- The credit of an end-to-end flit is owed to its sender. -/
def owing (s : State) (b : Nat) (f : Flit) : State :=
  s.setBundle b { s.bundle b with
    owed := smSet (fun _ => 0) (s.bundle b).owed (2 * f.h.cls + f.h.vc) (smGet (fun _ => 0) (s.bundle b).owed (2 * f.h.cls + f.h.vc) + 1) }

theorem released_here {s : State} {b p : Nat} {f : Flit} (e2e : f.p.e2e = true) (here : f.h.dest = s.chip) :
    s.released b p f = (s.owing b f).accept p f := by
  simp only [released, e2e, if_true]
  exact if_pos here

theorem released_through {s : State} {b p : Nat} {f : Flit} (e2e : f.p.e2e = true) (there : f.h.dest ≠ s.chip) :
    s.released b p f = ({ s.owing b f with mod_ := { (s.owing b f).mod_ with transit := true } }).routeOut f (some b) := by
  simp only [released, e2e, if_true]
  exact if_neg there

theorem owing_turns {s0 s : State} (h : s0.Turns s) (b : Nat) (f : Flit) : s0.Turns (s.owing b f) := h.setBundle b _

theorem owing_kept (s : State) (b : Nat) (f : Flit) : Kept (partsMask [.bundles]) s (s.owing b f) := setBundle_kept .of_beq (.refl _ s)

/-- What is booked stays booked where only bundles, ports and their pages change, and neither the bundle's turn nor the time at which it
was heard. -/
theorem Booked.later {s u v : State} {p n : Nat} (h : s.Booked u p n)
    (kept : Kept (partsMask [.bundles, .ports, pk .bnd, pk (.lnk 0), pk (.cry 0)]) u v)
    (turn : (v.bundle (s.rxBundle p n)).rxNext = (u.bundle (s.rxBundle p n)).rxNext)
    (ack : (v.bundle (s.rxBundle p n)).ackDue = (u.bundle (s.rxBundle p n)).ackDue)
    (heard : v.fld64 .bnd Bnd.BND_HEARD_LO (s.rxBundle p n) = u.fld64 .bnd Bnd.BND_HEARD_LO (s.rxBundle p n)) : s.Booked v p n :=
  ⟨fun q out => agree_trans q (h.only q out) (kept.changesOnly q out), turn.trans h.turn, ack.trans h.ack, heard.trans h.heard⟩

theorem booked_booked (s : State) (p n : Nat) (f : Flit) : s.Booked (s.booked p n f) p n := by
  refine ⟨fun q out => (s.booked_kept p n f).changesOnly q fun listed => out ?_, ?_, ?_, ?_⟩
  · simp only [List.mem_cons, List.not_mem_nil, or_false] at listed ⊢
    obtain h | h | h | h := listed <;> simp [h, pk]
  · rw [bundle_booked_same]
  · rw [bundle_booked_same]
  · have later : Kept (partsMask [.bundles, .ports, pk (.lnk 0)]) (s.heard (s.rxBundle p n)) (s.booked p n f) :=
      setBundle_kept .of_beq (setBundle_kept .of_beq (bumpBy_kept .of_beq (Kept.upd_ports .of_beq (.refl _ _))
        (by simp only [Page.kind]; decide +kernel)))
    rw [later.fld64 .bnd]
    exact fld64_setFld64_same _ _ _ _ s.tick_lt

theorem owing_booked (s : State) (p n : Nat) (f g : Flit) : s.Booked ((s.booked p n f).owing (s.rxBundle p n) g) p n :=
  (s.booked_booked p n f).later (setBundle_kept .of_beq (.refl _ _)) (by simp [owing]) (by simp [owing])
    ((owing_kept _ _ g).fld64 .bnd _ _)

end State

end Sys2Proof.Machine
end

section
/-! What every arriving flit is checked for (R229). -/
namespace Sys2Proof.Machine
-- This option keeps Lean from elaborating the proofs side by side, for which the check's memory limit leaves too few threads.
set_option deprecated.oldSectionVars true

namespace State

/-! ### A misdelivered flit -/

/-- The failure of a copper lane leaves the counters of the link page. -/
theorem laneFail_lnk {s : State} {p : Nat} (cu : copper p = true) (n cause q : Nat) (g : Fld) (status : g.off ≠ 0x104) (rtt : g.off ≠ 0x110)
    (inside : g.off < 4096) : (s.laneFail p n cause).fld (.lnk q) g = s.fld (.lnk q) g := by
  have sync := fun u : State => u.portSync_fld p (.lnk q) g 0 status rtt inside
  have noted : (s.failNoted p n cause).fld (.lnk q) g = s.fld (.lnk q) g :=
    (laneStrike_kept (M := partsMask (.lanes :: pk (.lan 0) :: ofEvents)) .of_beq (event_kept .of_beq (.refl _ s))).fld (.lnk q) g 0
  unfold laneFail
  by_cases active : s.laneSt p n = 2
  · rw [if_pos active]
    cases spare : s.spareFor p n with
    | some r =>
      have told : Kept (partsMask [.bundles, .plan]) (s.failNoted p n cause)
          ((s.failNoted p n cause).replaceTold ((s.failSeen p n cause).laneBundle p n) p n r true) :=
        .ite (sendBundle_kept .of_beq (.refl _ _)) (.refl _ _)
      rw [laneFailTo_spare r cause true active]
      refine (sync _).trans (.trans ?_ ((told.fld (.lnk q) g 0).trans noted))
      exact (bundleSync_kept (M := stopParts ||| partsMask [pk (.lan 0), .lanes]) .of_beq (event_kept .of_beq (replayLane_kept .of_beq
        (modLane_kept .of_beq (setLaneSt_kept .of_beq (setFld_kept .of_beq (setFld_kept .of_beq (.refl _ _) (by simp only [Page.kind]; decide +kernel))
          (by simp only [Page.kind]; decide +kernel))))))).fld (.lnk q) g 0
    | none =>
      rw [laneFailTo_none cause true active, laneLeave_copper _ cu, sync, (leaveBundle_kept _ p n true).fld (.lnk q), noted]
  · rw [if_neg active]
    by_cases standby : s.laneSt p n = 3
    · rw [laneFailTo_standby cause none true standby, sync, noted]
    · simp [laneFailTo, active, standby]

theorem misdelivered_counts {s : State} {p n : Nat} (on : s.rxOn p n = true) : (s.misdelivered p n).mem = s.mem ∧
    (s.misdelivered p n).fld (.lnk p) Lnk.MISDELIVER_CNT = min (s.fld (.lnk p) Lnk.MISDELIVER_CNT + 1) (2 ^ 32 - 1) := by
  refine ⟨(misdelivered_kept (Msub.refl _) (.refl _ s)).mem, ?_⟩
  unfold misdelivered
  extract_lets t u
  have count : t.fld (.lnk p) Lnk.MISDELIVER_CNT = min (s.fld (.lnk p) Lnk.MISDELIVER_CNT + 1) (2 ^ 32 - 1) := fld_bump_same _ _ _ _
  have note : Kept (partsMask (.lanes :: ofEvents)) t u := .ite (.refl _ t) (event_kept .of_beq (modLane_kept .of_beq (.refl _ t)))
  have noted : u.fld (.lnk p) Lnk.MISDELIVER_CNT = t.fld (.lnk p) Lnk.MISDELIVER_CNT := note.fld (.lnk p) _ 0
  have ring : u.rxRing p n = s.rxRing p n := by
    have bumped : Kept (partsMask [pk (.lnk 0)]) s t := bump_kept .of_beq (.refl _ s) (by simp only [Page.kind]; decide +kernel)
    simp only [rxRing, ringLane, ringF, note.fld (.rng (ringEng p)), bumped.fld (.rng (ringEng p))]
  split
  next r found =>
    exact (sendBundle_kept (M := partsMask [.bundles, .plan]) .of_beq (.refl _ u)).fld (.lnk p) _ 0 |>.trans (noted.trans count)
  next none =>
    have cu : copper p = true := by
      rw [ring] at none
      simp only [rxOn, none, Bool.and_eq_true] at on
      exact on.2.1
    rw [laneFault_copper cu, laneFail_lnk cu _ _ _ _ (by decide) (by decide) (by decide), noted, count]

/-! ### A tag that does not match (R241) -/

theorem accept_untagged {s : State} {p : Nat} {f : Flit} (bad : s.tagOk f = false) :
    Kept (partsMask (.ports :: pk (.cry 0) :: ofEvents)) s (s.accept p f) ∧
      (s.accept p f).fld (.cry p) Cry.AUTH_FAIL_CNT = min (s.fld (.cry p) Cry.AUTH_FAIL_CNT + 1) (2 ^ 32 - 1) := by
  have count : (s.bump (.cry p) Cry.AUTH_FAIL_CNT).fld (.cry p) Cry.AUTH_FAIL_CNT = min (s.fld (.cry p) Cry.AUTH_FAIL_CNT + 1) (2 ^ 32 - 1) :=
    fld_bump_same _ _ _ _
  have counted : Kept (partsMask (.ports :: pk (.cry 0) :: ofEvents)) s (s.bump (.cry p) Cry.AUTH_FAIL_CNT) :=
    bump_kept .of_beq (.refl _ s) (by simp only [Page.kind]; decide +kernel)
  unfold accept
  rw [if_pos (by simp [bad])]
  extract_lets t x
  split
  · exact ⟨counted, count⟩
  · exact ⟨event_kept .of_beq (Kept.upd_ports .of_beq counted),
      ((event_kept (M := partsMask (.ports :: ofEvents)) .of_beq (Kept.upd_ports .of_beq (.refl _ t))).fld (.cry p) _ 0).trans count⟩

end State

/-- Whether a tag matches rests on the keys, and those are not booked. -/
theorem Kept.tagOk {M : Nat} {s t : State} (h : Kept M s t) (f : Flit)
    (cry : M.testBit 41 = false := by decide +kernel) (keys : M.testBit 96 = false := by decide +kernel) : t.tagOk f = s.tagOk f := by
  simp only [State.tagOk, State.keyIn, State.linkKey, h.keys keys, h.fld (.cry 0) _ _ cry]

/-! ### The obligation -/

/-- Settles O18: `rxFlit` makes its checks in R229's order, and a flit that passes them enters the reorder window or is released at once. -/
theorem arrivingFlitsAreChecked : Obligations.ArrivingFlitsAreChecked := by
  unfold Obligations.ArrivingFlitsAreChecked
  intro s c p n o f arr cmd b dup
  have run := exec_of_flitOf (s := s) cmd
  have heard := s.heard_only b
  have record := heard.bundle b
  refine ⟨?off, ?corrupt, ?untrained, ?misdelivered, ?dup, ?ahead, ?untagged, ?transit⟩
  case off => exact fun off => run.trans (by rw [State.rxFlit_off off])
  case corrupt =>
    intro on bad
    rw [State.rxFlit_corrupt on bad] at run
    exact ⟨_, run, Kept.changesOnly (ps := [pk (.lnk 0)]) (State.bump_kept .of_beq (.refl _ s) (by simp only [Page.kind]; decide +kernel)),
      State.fld_bump_same _ _ _ _⟩
  case untrained =>
    intro on crc seq un
    exact run.trans (by rw [State.rxFlit_untrained crc (Pay.sequenced_ne_train seq) un])
  case misdelivered =>
    intro on crc seq trained other
    rw [State.rxFlit_misdelivered on crc (Pay.sequenced_ne_train seq) trained other] at run
    exact ⟨_, run, State.misdelivered_counts on⟩
  case dup =>
    intro arrives seq again
    have twice : (s.heard b).Dup b (f.seen o) := by
      rw [State.Dup, record]
      exact again
    rw [arrives.rxFlit seq, State.seqRx_dup twice] at run
    refine ⟨_, run, ?_, ?_, ?_⟩
    · exact Kept.changesOnly (ps := [.bundles, pk (.lnk 0), pk .bnd]) (State.bump_kept .of_beq (State.setBundle_kept .of_beq
        (State.heard_kept .of_beq (.refl _ s))) (by simp only [Page.kind]; decide +kernel))
    · rw [State.bundle_congr (State.bump_bundles _ _ _ _), State.bundle_setBundle_same]
    · refine (State.fld_bump_same _ _ _ _).trans ?_
      have before : ((s.heard b).setBundle b { (s.heard b).bundle b with ackDue := true }).fld (.lnk p) Lnk.DUP_DROP_CNT
          = s.fld (.lnk p) Lnk.DUP_DROP_CNT := (State.fld_congr (State.setBundle_regs _ _ _) _ _ _).trans (heard.fld (.lnk p) _ 0)
      exact congrArg (fun x => min (x + 1) (2 ^ 32 - 1)) before
  case ahead =>
    intro arrives seq fresh waits gap later
    have fresh' : ¬ (s.heard b).Dup b (f.seen o) := by
      rw [State.Dup, record]
      exact fresh
    have held := (s.heard b).bundle_heldBack_same b p (f.seen o)
    have late : ((s.heard b).heldBack b p (f.seen o)).ringCtl (f.seen o) = (s.heard b).heldBack b p (f.seen o) := by
      refine State.ringCtl_later fun c pay => (later c pay).imp_right fun away => ?_
      rwa [(State.heldBack_kept _ _ _ _).chip, heard.chip]
    have still : ∀ e ∈ (((s.heard b).heldBack b p (f.seen o)).bundle b).reorder, e.1.h.seq ≠ (((s.heard b).heldBack b p (f.seen o)).bundle b).rxNext := by
      rw [held, record]
      intro e he
      obtain old | new := List.mem_append.mp he
      · exact waits e old
      · rw [List.mem_singleton.mp new]
        exact gap
    rw [arrives.rxFlit seq, State.seqRx_fresh fresh', late, State.releaseAll_waits still] at run
    refine ⟨_, run, ?_, ?_, ?_⟩
    · exact Kept.changesOnly (ps := [.bundles, .ports, pk (.lnk 0), pk .bnd]) (State.setBundle_kept .of_beq (State.bumpBy_kept .of_beq
        (Kept.upd_ports .of_beq (State.heard_kept .of_beq (.refl _ s))) (by simp only [Page.kind]; decide +kernel)))
    · rw [held, record]
      rfl
    · rw [held, record]
  case untagged =>
    intro turn e2e here bad
    have seq : f.p.sequenced = true := by
      revert e2e
      cases f.p <;> simp [Pay.e2e, Pay.sequenced]
    have plain : ∀ c, f.p = .laneCtrl c → c.op < 3 ∨ f.h.dest ≠ s.chip := fun c pay => by simp [pay, Pay.e2e] at e2e
    have kept : Kept (partsMask [.bundles, .ports, pk .bnd, pk (.lnk 0)]) s ((s.booked p n (f.seen o)).owing b (f.seen o)) :=
      State.setBundle_kept .of_beq (s.booked_kept p n (f.seen o))
    obtain ⟨failed, count⟩ := State.accept_untagged (p := p) ((kept.tagOk (f.seen o)).trans bad)
    have order : (s.booked p n (f.seen o)).Turns (((s.booked p n (f.seen o)).owing b (f.seen o)).accept p (f.seen o)) :=
      (State.owing_turns (.refl _) b _).same failed.bundles
    rw [turn.rxFlit seq plain, State.released_here (f := f.seen o) e2e (here.trans (s.booked_kept p n _).chip.symm), order.settled turn] at run
    exact ⟨_, run, failed.mem.trans kept.mem, count.trans (by rw [kept.fld (.cry p)])⟩
  case transit =>
    intro turn e2e there
    have seq : f.p.sequenced = true := by
      revert e2e
      cases f.p <;> simp [Pay.e2e, Pay.sequenced]
    have plain : ∀ c, f.p = .laneCtrl c → c.op < 3 ∨ f.h.dest ≠ s.chip := fun _ _ => .inr there
    have away : (f.seen o).h.dest ≠ (s.booked p n (f.seen o)).chip := fun eq => there (eq.trans (s.booked_kept p n _).chip)
    have order := State.routeOut_turns (s := { (s.booked p n (f.seen o)).owing b (f.seen o) with
      mod_ := { ((s.booked p n (f.seen o)).owing b (f.seen o)).mod_ with transit := true } })
      (State.owing_turns (.refl (s.booked p n (f.seen o))) b (f.seen o)).same (f.seen o) (some b)
    rw [turn.rxFlit seq plain, State.released_through (f := f.seen o) e2e away, order.settled turn] at run
    exact ⟨_, _, run, s.owing_booked p n _ _, rfl⟩

end Sys2Proof.Machine
end

section
/-! SUPPORT. What becomes of a ring pair while another moves: its record and the count of its mis-locks (R256, R272). -/
namespace Sys2Proof.Machine
-- This option keeps Lean from elaborating the proofs side by side, for which the check's memory limit leaves too few threads.
set_option deprecated.oldSectionVars true

/-- The record of pair `r` of port `p`, and every count of mis-locks, are as they were. -/
structure State.PairKept (p r : Nat) (s t : State) : Prop where
  record : t.ringX p r = s.ringX p r
  count : ∀ e b, t.fld (.rng e) Rng.MISLOCK_CNT b = s.fld (.rng e) Rng.MISLOCK_CNT b

namespace State
variable {s0 s t : State} {p r : Nat}

theorem PairKept.refl (p r : Nat) (s : State) : PairKept p r s s := ⟨rfl, fun _ _ => rfl⟩

theorem PairKept.quiet (h : PairKept p r s0 s) {M : Nat} (kept : Kept M s t) (pages : M.testBit 46 = false := by decide +kernel)
    (rings : M.testBit 94 = false := by decide +kernel) : PairKept p r s0 t :=
  ⟨(kept.ringX p r rings).trans h.record, fun e b => (kept.fld (.rng e) _ b pages).trans (h.count e b)⟩

theorem PairKept.setFld (h : PairKept p r s0 s) (pg : Page) (f : Fld) (v b : Nat) (apart : f.off ≠ 0x234 := by decide)
    (inside : f.off < 4096 := by decide) : PairKept p r s0 (s.setFld pg f v b) :=
  ⟨(Kept.ringX (setFld_kept (M := 2 ^ 64 - 1) .of_beq (.refl _ s) (Nat.testBit_two_pow_sub_one 64 _ ▸ decide_eq_true (Page.kind_lt pg))) p r).trans
      h.record,
    fun e b' => (fld_setFld_inside _ _ _ _ _ _ _ _ (Ne.symm apart) inside (by decide)).trans (h.count e b')⟩

theorem PairKept.modRing (h : PairKept p r s0 s) {q : Nat} (other : r ≠ q) (f : RingX → RingX) : PairKept p r s0 (s.modRing p q f) :=
  ⟨(ringX_modRing_ne s f other).trans h.record, fun e b => (modRing_fld _ _ _ _ _ _ _).trans (h.count e b)⟩

theorem PairKept.ite {c : Prop} [Decidable c] (yes : PairKept p r s0 s) (no : PairKept p r s0 t) : PairKept p r s0 (if c then s else t) := by
  split <;> assumption

theorem PairKept.each {α : Type} {l : List α} {f : α → State → State} (step : ∀ x u, PairKept p r s0 u → PairKept p r s0 (f x u))
    (h : PairKept p r s0 s) : PairKept p r s0 (s.each l f) := each_keeps (fun x _ u hu => step x u hu) h

theorem PairKept.setRingF (h : PairKept p r s0 s) (p' q : Nat) (f : Fld) (v : Nat) (apart : f.off ≠ 0x234 := by decide)
    (inside : f.off < 4096 := by decide) : PairKept p r s0 (s.setRingF p' q f v) :=
  (h.setFld _ f v _ apart inside).setFld _ f v _ apart inside

theorem holdPair_pairKept (h : PairKept p r s0 s) (p' q : Nat) : PairKept p r s0 (s.holdPair p' q) := by
  have hold : ∀ {u : State} dir, PairKept p r s0 u → PairKept p r s0 (u.hold p' q dir) := by
    intro u dir hu
    have pred := hu.setFld (.rng (ringEng p')) (Rng.RING_PRED.sub 15 0) (u.tableCode p' q dir (u.ringPos p' q dir) (u.ofsCal p' q dir)) (ringBank p' q dir)
    exact .ite (pred.setFld _ (Rng.RING_HEATER.sub 15 0) _ _) (.ite pred (pred.setFld _ (Rng.RING_HEATER.sub 15 0) _ _))
  exact hold 1 (hold 0 h)

theorem keepCodes_pairKept (h : PairKept p r s0 s) (p' q : Nat) : PairKept p r s0 (s.keepCodes p' q) :=
  h.each fun _ _ hu => hu.setFld _ (Rng.RING_OFS.sub 15 0) _ _

/-- A table move touches the record of its own pair only. -/
theorem ringMove_pairKept (h : PairKept p r s0 s) {q : Nat} (other : r ≠ q) (goal : Nat) : PairKept p r s0 (s.ringMove p q goal) := by
  have dark : PairKept p r s0 (s.steerDrop p q 1) := h.quiet (steerDrop_kept (Msub.refl _) (.refl _ s))
  have moving := (((dark.setRingF p q Rng.RING_STATE_STATE 1).setRingF p q Rng.RING_STATE_ON_LINE 0).setRingF p q Rng.RING_STATE_TRAINED 0).setRingF
    p q Rng.RING_STATE_LANE 15
  exact holdPair_pairKept (((moving.setFld _ Rng.RING_MOVE_CNT _ _).setFld _ Rng.RING_MOVE_CNT _ _).modRing other _) p q

theorem ringLeave_pairKept (h : PairKept p r s0 s) {q : Nat} (other : r ≠ q) (goal : Nat) : PairKept p r s0 (s.ringLeave p q goal) := by
  unfold ringLeave
  extract_lets n b home s1 s2 s3
  have moved : PairKept p r s0 (s1.ringMove p q goal) := ringMove_pairKept (.ite (keepCodes_pairKept h p q) h) other goal
  have rested : PairKept p r s0 s3 := (moved.quiet (replayOn_kept (Msub.refl _) (.refl _ _))).each
    fun m _ hu => hu.quiet (laneRests_kept (Msub.refl _) (.refl _ _))
  exact .ite (rested.quiet (portSync_kept (Msub.refl _) (.refl _ s3)))
    ((rested.quiet (bundleSync_kept (Msub.refl _) (.refl _ s3))).quiet (portSync_kept (Msub.refl _) (.refl _ _)))

theorem setRingLine_pairKept (h : PairKept p r s0 s) (p' q l : Nat) : PairKept p r s0 (s.setRingLine p' q l) :=
  (h.setFld _ Rng.RING_STATE_LINE _ _).setFld _ Rng.RING_STATE_LINE _ _

/-- The count of mis-locks is no part of a pair's own move. -/
theorem ringMove_count (s : State) (p q goal : Nat) (e b : Nat) :
    (s.ringMove p q goal).fld (.rng e) Rng.MISLOCK_CNT b = s.fld (.rng e) Rng.MISLOCK_CNT b :=
  (ringMove_pairKept (.refl p (q + 1) s) (Nat.succ_ne_self q) goal).count e b

/-! ### Replacement (R272) -/

/-- A pair that is replaced is out, and its mis-locks count on. -/
theorem ringReplace_out {s : State} {p r : Nat} (fits : (s.ringX p r).out = false) (own : (s.ringX p r).replaces = none) :
    ((s.ringReplace p r).ringX p r).out = true ∧ ∀ e b, (s.ringReplace p r).fld (.rng e) Rng.MISLOCK_CNT b = s.fld (.rng e) Rng.MISLOCK_CNT b := by
  unfold ringReplace
  extract_lets -underBinder x e n line b peer drv s1 spare parked s2 s3 due s4 s5
  rw [if_neg (by simp [x, fits, own])]
  have noted : Kept (partsMask (pk (.kal 0) :: ofEvents)) s s2 := by
    have bumped : Kept (partsMask (pk (.kal 0) :: ofEvents)) s s1 := bump_kept .of_beq (.refl _ s) (by simp only [Page.kind]; decide +kernel)
    exact .ite (event_kept .of_beq (bump_kept .of_beq bumped (by simp only [Page.kind]; decide +kernel))) bumped
  have out : (s5.ringX p r).out = true := by rw [show s5 = s4.modRing p r _ from rfl, ringX_modRing_same]
  have count : ∀ e b, s5.fld (.rng e) Rng.MISLOCK_CNT b = s.fld (.rng e) Rng.MISLOCK_CNT b := fun e b =>
    (modRing_fld _ _ _ _ _ _ _).trans (((modEng_kept (M := partsMask [.engs]) .of_beq (.refl _ s3)).fld (.rng e) _ b).trans
      ((ringMove_count s2 p r 5 e b).trans (noted.fld (.rng e) _ b)))
  suffices later : ∀ t, PairKept p r s5 t → (t.ringX p r).out = true ∧ ∀ e b, t.fld (.rng e) Rng.MISLOCK_CNT b = s.fld (.rng e) Rng.MISLOCK_CNT b by
    split
    next q taken =>
      have other : r ≠ q := by
        rcases (Option.orElse_eq_some _ _ _).mp taken with found | ⟨-, found⟩
        · have := List.find?_some found
          simp only [Bool.and_eq_true, bne_iff_ne] at this
          exact this.1.1.symm
        · have := List.mem_filter.mp (List.mem_of_getLast? found)
          simp only [Bool.and_eq_true, bne_iff_ne] at this
          exact this.2.1.1.symm
      refine later _ (.quiet (.modRing (.setRingF (.setRingF (.ite ?_ ?_) _ _ _ _) _ _ _ _) other _) (replayOn_kept (Msub.refl _) (.refl _ _)))
      · exact holdPair_pairKept (setRingLine_pairKept (ringLeave_pairKept (.refl _ _ _) other 3) _ _ _) _ _
      · exact ringMove_pairKept (setRingLine_pairKept (.refl _ _ _) _ _ _) other 3
    next =>
      extract_lets -underBinder s6
      have rests : PairKept p r s5 s6 := .ite (.refl _ _ _)
        (.quiet (.quiet (.refl _ _ _) (replayOn_kept (Msub.refl _) (.refl _ s5))) (laneRests_kept (Msub.refl _) (.refl _ _)))
      split
      · exact later _ (rests.quiet (laneFail_kept (Msub.refl _) (.refl _ s6)))
      · exact later _ ((rests.quiet (bundleSync_kept (Msub.refl _) (.refl _ s6))).quiet (portSync_kept (Msub.refl _) (.refl _ _)))
  intro t kept
  exact ⟨(congrArg RingX.out kept.record).trans out, fun e b => (kept.count e b).trans (count e b)⟩

/-- A mis-lock that is declared against a pair in use counts, and the pair is replaced (R288). -/
theorem declare_replaces {s : State} {p r : Nat} (cause : Nat) (fits : (s.ringX p r).out = false) (own : (s.ringX p r).replaces = none)
    (heeded : (s.ringX p r).mute ≤ s.tick) : ((s.declare_ p r cause 0).ringX p r).out = true ∧
      (s.declare_ p r cause 0).fld (.rng (ringEng p)) Rng.MISLOCK_CNT (ringBank p r 0) =
        min (s.fld (.rng (ringEng p)) Rng.MISLOCK_CNT (ringBank p r 0) + 1) (2 ^ 32 - 1) := by
  unfold declare_
  extract_lets x s1 s2 s3
  have noted : Kept (partsMask ofEvents) s s1 := event_kept .of_beq (.refl _ s)
  have bumped : Kept (partsMask [pk (.rng 0)]) s1 s2 := bump_kept .of_beq (.refl _ s1) (by simp only [Page.kind]; decide +kernel)
  rw [if_neg (by simp [x, fits, own, noted.tick, heeded]), show s3 = s2 from rfl]
  have record : s2.ringX p r = s.ringX p r := (bumped.ringX p r).trans (noted.ringX p r)
  obtain ⟨out, count⟩ := ringReplace_out (s := s2) (p := p) (r := r) (by rw [record, fits]) (by rw [record, own])
  refine ⟨out, (count _ _).trans ((fld_bump_same _ _ _ _).trans ?_)⟩
  rw [noted.fld (.rng (ringEng p))]
  rfl

end State
end Sys2Proof.Machine
end

section
/-! SUPPORT. What a TRAIN flit makes of a copper lane (R234), and what the fields of lanes keep while bundles merge (R220). -/
namespace Sys2Proof.Machine
-- This option keeps Lean from elaborating the proofs side by side, for which the check's memory limit leaves too few threads.
set_option deprecated.oldSectionVars true

/-! ### Lanes of other ports -/

theorem regKey_lan_port_ne {p q off off' b b' : Nat} (small : p < 64) (small' : q < 64) (inside : off < 4096) (inside' : off' < 4096) (h : p ≠ q) :
    regKey (.lan p) off b ≠ regKey (.lan q) off' b' := by
  simp only [regKey, bankSize, Page.base, Page.kind]
  omega

/-- The lane registers of port `p` are as they were. -/
def State.PortKept (p : Nat) (s t : State) : Prop := ∀ f b, f.off < 4096 → t.fld (.lan p) f b = s.fld (.lan p) f b

namespace State
variable {s0 s t : State} {p : Nat}

theorem PortKept.refl (p : Nat) (s : State) : PortKept p s s := fun _ _ _ => rfl

theorem PortKept.quiet (h : PortKept p s0 s) {M : Nat} (kept : Kept M s t) (lan : M.testBit 39 = false := by decide +kernel) : PortKept p s0 t :=
  fun f b inside => (kept.fld (.lan p) f b lan).trans (h f b inside)

theorem PortKept.setFld (h : PortKept p s0 s) {q : Nat} (small : p < 64) (small' : q < 64) (other : p ≠ q) (f : Fld) (v b : Nat)
    (inside : f.off < 4096 := by decide) : PortKept p s0 (s.setFld (.lan q) f v b) :=
  fun g b' hg => (fld_setFld_ne _ _ _ _ _ _ _ _ (regKey_lan_port_ne small small' hg inside other)).trans (h g b' hg)

theorem PortKept.setLaneSt (h : PortKept p s0 s) {q : Nat} (small : p < 64) (small' : q < 64) (other : p ≠ q) (n v : Nat) :
    PortKept p s0 (s.setLaneSt q n v) := fun g b hg => (modLane_fld _ _ _ _ _ _ _).trans (h.setFld small small' other _ _ _ (by decide) g b hg)

theorem PortKept.ite {c : Prop} [Decidable c] (yes : PortKept p s0 s) (no : PortKept p s0 t) : PortKept p s0 (if c then s else t) := by
  split <;> assumption

theorem opticalDown_portKept (h : PortKept p s0 s) {q : Nat} (small : p < 64) (small' : q < 64) (other : p ≠ q) :
    PortKept p s0 (s.opticalDown q) := by
  unfold opticalDown
  extract_lets act u
  refine .ite (.quiet (.quiet ?_ (event_kept (Msub.refl _) (.refl _ u))) (portSync_kept (Msub.refl _) (.refl _ _))) h
  refine each_keeps (I := PortKept p s0) (fun m _ v hv => ?_) h
  have rest := (hv.setLaneSt small small' other m 4).quiet (replayLane_kept (Msub.refl _) (.refl _ _) (p1 := q) (p2 := m))
  exact .quiet (.ite rest (rest.quiet (sendBundle_kept (Msub.refl _) (.refl _ _)))) (bundleSync_kept (Msub.refl _) (.refl _ _))

/-- The lanes of a port leave their bundles, and those of another port stay. -/
theorem laneLeave_portKept (h : PortKept p s0 s) {q : Nat} (small : p < 64) (small' : q < 64) (other : p ≠ q) (n : Nat) (tell : Bool) :
    PortKept p s0 (s.laneLeave q n tell) :=
  opticalDown_portKept ((h.quiet (s.leaveBundle_kept q n tell)).quiet (portSync_kept (Msub.refl _) (.refl _ _))) small small' other

theorem laneRests_portKept (h : PortKept p s0 s) {q : Nat} (small : p < 64) (small' : q < 64) (other : p ≠ q) (n : Nat) :
    PortKept p s0 (s.laneRests q n) := by
  unfold laneRests
  have off := h.setLaneSt small small' other n 0
  exact .ite h (.ite (laneLeave_portKept off small small' other n true) (.ite off h))

theorem classRefuse_portKept (h : PortKept p s0 s) {q : Nat} (small : p < 64) (small' : q < 64) (other : p ≠ q) (r : Nat) :
    PortKept p s0 (s.classRefuse q r) := by
  unfold classRefuse
  extract_lets home b s1 s2 s3 s4
  clear_value home
  have noted : PortKept p s0 s3 := h.quiet (M := pairParts)
    (event_kept .of_beq (modRing_kept .of_beq (setRingF_kept .of_beq (setRingF_kept .of_beq (steerDrop_kept .of_beq (.refl _ s))))))
  have rested : PortKept p s0 s4 := by
    cases home with
    | some n => exact laneRests_portKept noted small small' other n
    | none => exact noted
  exact .ite rested ((rested.quiet (bundleSync_kept (Msub.refl _) (.refl _ s4))).quiet (portSync_kept (Msub.refl _) (.refl _ _)))

/-- Optical pairs that yield to copper leave the copper lanes alone (R220). -/
theorem opticalYield_portKept (s : State) {p : Nat} (cu : p < 8) (c : Nat) : PortKept p s (s.opticalYield c) := by
  unfold opticalYield
  refine each_keeps (I := PortKept p s) (fun e listed u hu => ?_) (.refl p s)
  simp only [allPairs, List.mem_flatMap, List.mem_range, List.mem_map] at listed
  obtain ⟨i, small, r, -, rfl⟩ := listed
  dsimp only
  have other : p ≠ i + 8 := by omega
  exact .ite (classRefuse_portKept hu (by omega) (by omega) other r) hu

/-! ### Merging bundles -/

/-- A field without a bit in common with the one that is written, wherever that stands. -/
theorem fld_setFld_away (s : State) (pg pg' : Page) (f g : Fld) (v b b' : Nat) (h : f.ok) (away : f.apart g = true) (inside : f.off < 4096)
    (inside' : g.off < 4096) : (s.setFld pg f v b).fld pg' g b' = s.fld pg' g b' := by
  by_cases key : regKey pg' g.off b' = regKey pg f.off b
  · have same : g.off = f.off := Classical.byContradiction fun ne => regKey_ne_of_inside ne inside inside' key
    simp only [Fld.apart, Bool.or_eq_true, decide_eq_true_eq] at away
    have bits : ∀ w v, bitsOf (putBits w f.hi f.lo v).toNat g.hi g.lo = bitsOf w.toNat g.hi g.lo := fun w v => by
      obtain (ne | below) | above := away
      · exact absurd same.symm ne
      · exact bitsOf_putBits_above _ _ _ _ _ _ h.1 h.2 below
      · exact bitsOf_putBits_below _ _ _ _ _ _ h.1 h.2 above
    simp only [State.fld, State.setFld, key, reg_setReg_same, bits]
  · exact fld_setFld_ne _ _ _ _ _ _ _ _ key

/-- Lanes that move to another bundle keep every other field, and their records. -/
theorem mergeCopper_fields (s : State) (c b p n : Nat) :
    (∀ g : Fld, g.off < 4096 → Lan.LANE_STATE_BUNDLE.apart g = true → (s.mergeCopper c b).fld (.lan p) g n = s.fld (.lan p) g n) ∧
      (s.mergeCopper c b).laneX p n = s.laneX p n := by
  refine ⟨fun g inside away => ?_, (mergeCopper_kept (Msub.refl _) (.refl _ s)).laneX p n⟩
  have sync : ∀ (u : State) b, (u.bundleSync b).fld (.lan p) g n = u.fld (.lan p) g n :=
    fun u b => (bundleSync_kept (Msub.refl _) (.refl _ u)).fld (.lan p) g n
  refine each_keeps (I := fun u => u.fld (.lan p) g n = s.fld (.lan p) g n) (fun q _ u hu => ?_) rfl
  dsimp only
  split
  · exact hu
  · rw [sync, sync]
    exact each_keeps (I := fun u => u.fld (.lan p) g n = s.fld (.lan p) g n)
      (fun m _ v hv => (fld_setFld_away _ _ _ _ _ _ _ _ ⟨by decide, by decide⟩ away (by decide) inside).trans hv) hu

/-! ### A lane is admitted -/

/-- What a trained copper lane keeps as it becomes SPARE or ACTIVE, and what it becomes (Table 8.6). -/
structure Admitted (p n : Nat) (s t : State) : Prop where
  state : t.laneSt p n = 2 ∨ t.laneSt p n = 3
  fields : ∀ g : Fld, g.off < 4096 → g.off ≠ 0x104 → t.fld (.lan p) g n = s.fld (.lan p) g n
  rxOk : (t.laneX p n).rxOk = (s.laneX p n).rxOk

theorem setLaneSt_rxOk (s : State) (p n v : Nat) : ((s.setLaneSt p n v).laneX p n).rxOk = (s.laneX p n).rxOk := by
  rw [setLaneSt, laneX_modLane_same, laneX_congr (setFld_lanes _ _ _ _ _)]

theorem laneJoin_admitted (s : State) {p : Nat} (cu : copper p = true) (n b : Nat) : Admitted p n s (s.laneJoin p n b) := by
  unfold laneJoin
  extract_lets c eff s1 s2 s3 s4
  have joined : Kept stopParts s1 s2 := bundleSync_kept .of_beq (heard_kept .of_beq (event_kept .of_beq (.refl _ s1)))
  have merged : s3 = s2.mergeCopper c b := if_pos cu
  have told : Kept bundleParts s3 (s4.portSync p) := portSync_kept .of_beq (.ite (sendBundle_kept .of_beq (.refl _ s3)) (.refl _ s3))
  rw [merged] at told
  obtain ⟨fields, record⟩ := s2.mergeCopper_fields c b p n
  refine ⟨.inl ?_, fun g inside other => ?_, ?_⟩
  · rw [laneSt, told.fld (.lan p), fields _ (by decide) (by decide), joined.fld (.lan p)]
    exact setLaneSt_same _ p n (by decide)
  · rw [told.fld (.lan p), fields g inside (by simp [Fld.apart, Lan.LANE_STATE_BUNDLE, other.symm]), joined.fld (.lan p)]
    refine (fld_setLaneSt_clear _ _ _ _ _ (by simp [Fld.apart, Lan.LANE_STATE_STATE, other.symm])).trans ?_
    exact fld_setFld_inside _ _ _ _ _ _ _ _ other (by decide) inside
  · rw [told.laneX, record, joined.laneX]
    exact (setLaneSt_rxOk _ p n 2).trans (by rw [laneX_congr (setFld_lanes _ _ _ _ _)])

theorem copperAdmit_admitted (s : State) {p : Nat} (cu : copper p = true) (n : Nat) : Admitted p n s (s.copperAdmit p n) := by
  unfold copperAdmit
  extract_lets serves spare
  split
  · have sync : Kept bundleParts (s.setLaneSt p n 3) ((s.setLaneSt p n 3).portSync p) := portSync_kept .of_beq (.refl _ _)
    refine ⟨.inr ?_, fun g inside other => ?_, ?_⟩
    · rw [sync.laneSt]
      exact s.setLaneSt_same p n (by decide)
    · rw [sync.fld (.lan p)]
      exact fld_setLaneSt_clear _ _ _ _ _ (by simp [Fld.apart, Lan.LANE_STATE_STATE, other.symm])
    · rw [sync.laneX, setLaneSt_rxOk]
  · exact s.laneJoin_admitted cu n _

/-! ### A TRAIN flit on a copper lane (R234 steps 3 to 5) -/

/-- The word that LANE_PEER holds of a peer. -/
def peerWord (t : TrainMsg) : Nat := t.chip % 65536 + t.port % 32 * 65536 + t.lane % 16 * 2 ^ 21

/-- The peer that a TRAIN flit names is accepted; optical pairs to it yield. -/
def peerTaken (s : State) (p n : Nat) (t : TrainMsg) : State :=
  let s := s.setFld (.lan p) Lan.LANE_PEER (peerWord t) n
  let new := !s.copperCabled (t.chip % 65536)
  let s := s.setFld (.lnk p) Lnk.PEER_ID (t.chip % 65536 + t.port % 32 * 65536)
  let s := (s.setFld (.lnk p) Lnk.LNK_STATUS_VER_MAJ 1).setFld (.lnk p) Lnk.LNK_STATUS_VER_MIN 0
  if new then s.opticalYield (t.chip % 65536) else s

/-- The delay of the lane is known, and this side has accepted. -/
def delayTaken (s : State) (p n rtt skew : Nat) : State :=
  (s.setFld (.lan p) Lan.LANE_RTT_NS (min rtt 65535 + skew * 65536) n).modLane p n (fun x => { x with step := 5, rxOk := true })

theorem copperTrain_error {s : State} {p n : Nat} {t : TrainMsg} {arr c : Nat} (st : s.laneSt p n = 1) (step : 2 ≤ (s.laneX p n).step)
    (check : s.trainCheck t (if bitAt (s.fld (.lnk p) Lnk.PEER_EXPECT) 16 then some (s.fld (.lnk p) Lnk.PEER_EXPECT % 65536) else none)
      (s.copperBundle p t.chip) arr = .error c) :
    s.copperTrain p n t arr = s.trainFail p n c (c = trainVersion && !bitAt t.majors 0) := by
  unfold copperTrain
  rw [if_neg (by simp [st, Nat.not_lt.mpr step])]
  simp only [check]

theorem copperTrain_ok {s : State} {p n : Nat} {t : TrainMsg} {arr rtt skew : Nat} (st : s.laneSt p n = 1) (step : 2 ≤ (s.laneX p n).step)
    (check : s.trainCheck t (if bitAt (s.fld (.lnk p) Lnk.PEER_EXPECT) 16 then some (s.fld (.lnk p) Lnk.PEER_EXPECT % 65536) else none)
      (s.copperBundle p t.chip) arr = .ok (some (rtt, skew))) :
    s.copperTrain p n t arr = if t.rxOk then ((s.peerTaken p n t).delayTaken p n rtt skew).copperAdmit p n
      else (s.peerTaken p n t).delayTaken p n rtt skew := by
  unfold copperTrain
  rw [if_neg (by simp [st, Nat.not_lt.mpr step])]
  simp only [check]
  rfl

theorem peerTaken_lane {s : State} {p : Nat} (cu : copper p = true) (n : Nat) (t : TrainMsg) :
    (s.peerTaken p n t).fld (.lan p) (Lan.LANE_PEER.sub 24 0) n = peerWord t ∧ (s.peerTaken p n t).laneSt p n = s.laneSt p n := by
  have cu' : p < 8 := by simpa [copper] using cu
  unfold peerTaken
  extract_lets s1 new s2 s3
  have linked : Kept (partsMask [pk (.lnk 0)]) s1 s3 := by
    have lnk : (partsMask [pk (.lnk 0)]).testBit (Page.lnk p).kind = true := by simp only [Page.kind]; decide +kernel
    exact setFld_kept .of_beq (setFld_kept .of_beq (setFld_kept .of_beq (.refl _ s1) lnk) lnk) lnk
  have kept : PortKept p s1 (if new then s3.opticalYield (t.chip % 65536) else s3) := by
    have linked' : PortKept p s1 s3 := PortKept.quiet (.refl p s1) linked
    exact .ite (fun f b inside => (s3.opticalYield_portKept cu' _ f b inside).trans (linked' f b inside)) linked'
  refine ⟨?_, ?_⟩
  · rw [kept _ _ (by decide)]
    refine (fld_setFld_word _ _ _ _ _ _ _).trans ?_
    simp only [bitsOf, peerWord]
    omega
  · rw [laneSt, kept _ _ (by decide)]
    exact fld_setFld_inside _ _ _ _ _ _ _ _ (by decide) (by decide) (by decide)

theorem delayTaken_lane (s : State) (p n rtt skew : Nat) :
    (s.delayTaken p n rtt skew).fld (.lan p) (Lan.LANE_PEER.sub 24 0) n = s.fld (.lan p) (Lan.LANE_PEER.sub 24 0) n ∧
      (s.delayTaken p n rtt skew).fld (.lan p) (Lan.LANE_RTT_NS.sub 15 0) n = min rtt 65535 ∧
      (s.delayTaken p n rtt skew).laneSt p n = s.laneSt p n ∧ ((s.delayTaken p n rtt skew).laneX p n).rxOk = true := by
  refine ⟨?_, ?_, ?_, by rw [delayTaken, laneX_modLane_same]⟩
  · exact (modLane_fld _ _ _ _ _ _ _).trans (fld_setFld_inside _ _ _ _ _ _ _ _ (by decide) (by decide) (by decide))
  · refine (modLane_fld _ _ _ _ _ _ _).trans ((fld_setFld_word _ _ _ _ _ _ _).trans ?_)
    simp only [bitsOf]
    omega
  · exact (modLane_fld _ _ _ _ _ _ _).trans (fld_setFld_inside _ _ _ _ _ _ _ _ (by decide) (by decide) (by decide))

end State
end Sys2Proof.Machine
end

section
/-! SUPPORT. What the flits of the link itself leave (Table 8.3): acknowledgements, credits, and the control of lanes and rings. -/
namespace Sys2Proof.Machine
-- This option keeps Lean from elaborating the proofs side by side, for which the check's memory limit leaves too few threads.
set_option deprecated.oldSectionVars true

/-! ### What is read of lanes and pairs under a frame -/

section Reads
variable {M : Nat} {s t : State}

theorem Kept.ringF (h : Kept M s t) (p r : Nat) (f : Fld) (rng : M.testBit 46 = false := by decide +kernel) : t.ringF p r f = s.ringF p r f :=
  h.fld (.rng (ringEng p)) f _ rng

theorem Kept.rxRing (h : Kept M s t) (p n : Nat) (rng : M.testBit 46 = false := by decide +kernel) : t.rxRing p n = s.rxRing p n := by
  simp only [State.rxRing, State.ringLane, h.ringF _ _ _ rng]

theorem Kept.rxBundle (h : Kept M s t) (p n : Nat) (rng : M.testBit 46 = false := by decide +kernel)
    (lan : M.testBit 39 = false := by decide +kernel) : t.rxBundle p n = s.rxBundle p n := by
  simp only [State.rxBundle, h.rxRing _ _ rng, h.ringF _ _ _ rng, h.laneBundle _ _ lan]

theorem Kept.peerLane (h : Kept M s t) (chip port lane : Nat) (lan : M.testBit 39 = false := by decide +kernel)
    (rng : M.testBit 46 = false := by decide +kernel) (rings : M.testBit 94 = false := by decide +kernel) :
    t.peerLane chip port lane = s.peerLane chip port lane := by
  have lanes : ∀ p n f, t.fld (.lan p) f n = s.fld (.lan p) f n := fun p n f => h.fld (.lan p) f n lan
  simp only [State.peerLane, State.laneSt, State.ringPeerChip, h.ringF _ _ _ rng, h.ringX _ _ rings, lanes] <;> rfl

theorem Kept.pairOf (h : Kept M s t) (chip port : Nat) (rng : M.testBit 46 = false := by decide +kernel)
    (rings : M.testBit 94 = false := by decide +kernel) : t.pairOf chip port = s.pairOf chip port := by
  simp only [State.pairOf, State.ringPeerChip, h.ringF _ _ _ rng, h.ringX _ _ rings]

end Reads

namespace State

/-! ### ACK and NAK (R230) -/

/-- The flits of a bundle that are not acknowledged yet are those that an acknowledgement up to SEQ `q` leaves. -/
def owes (s : State) (b q : Nat) : Bundle :=
  { s.bundle b with unacked := (s.bundle b).unacked.filter (fun t => !decide (seqDist t.f.h.seq q < 32768)) }

theorem bundle_ackUpTo (s : State) (b q : Nat) : (s.ackUpTo b q).bundle b = s.owes b q := by
  have later : Kept (partsMask [pk .bnd, pk (.lnk 0)]) (s.setBundle b (s.owes b q)) (s.ackUpTo b q) :=
    replayOcc_kept .of_beq (bndSeqSync_kept .of_beq (.refl _ _))
  exact (later.bundle b).trans (bundle_setBundle_same s b _)

theorem each_cons {α : Type} (s : State) (e : α) (es : List α) (f : α → State → State) : s.each (e :: es) f = (f e s).each es f := rfl

/-- An ACK flit acknowledges, of the bundle that it came on, the flits up to each SEQ that it names. -/
theorem each_ackUpTo (s : State) (b : Nat) (es : List (Nat × Nat)) : ((s.each es (fun e s => s.ackUpTo b e.2)).bundle b).unacked =
    (s.bundle b).unacked.filter (fun t => es.all (fun e => !decide (seqDist t.f.h.seq e.2 < 32768))) := by
  induction es generalizing s with
  | nil => simp [each]
  | cons e es ih =>
    rw [each_cons, ih, bundle_ackUpTo, owes, List.filter_filter]
    simp only [List.all_cons, Bool.and_comm]

/-- Go-back-N: the flit that is asked for is sent again, and so are those behind it. -/
theorem replayFrom_resends {s : State} {b q : Nat} (held : ∃ x ∈ (s.bundle b).unacked, x.f.h.seq = q) :
    (∃ y ∈ ((s.replayFrom b q).bundle b).unacked, y.f.h.seq = q ∧ y.resend = true) ∧
      ((s.replayFrom b q).bundle b).unacked.map (fun x => x.f) = (s.bundle b).unacked.map (fun x => x.f) := by
  unfold replayFrom
  extract_lets x
  split
  next none =>
    obtain ⟨y, listed, seq⟩ := held
    have := List.findIdx?_eq_none_iff.mp none y listed
    simp [seq] at this
  next i found =>
    extract_lets port u
    obtain ⟨small, seq, -⟩ := List.findIdx?_eq_some_iff_getElem.mp found
    have record : (((u.bump (.lnk port) Lnk.REPLAY_CNT).bump .bnd Bnd.BND_REPLAY_CNT b).bundle b).unacked =
        x.unacked.zipIdx.map (fun e => if i ≤ e.2 then { e.1 with resend := true } else e.1) :=
      congrArg Bundle.unacked ((bundle_congr ((bump_bundles _ _ _ _).trans (bump_bundles _ _ _ _)) b).trans (bundle_setBundle_same s b _))
    rw [record]
    refine ⟨⟨{ x.unacked[i] with resend := true }, List.mem_map.mpr ⟨(x.unacked[i], i), ?_, if_pos (Nat.le_refl i)⟩, ?_, rfl⟩, ?_⟩
    · exact List.mem_zipIdx_iff_getElem?.mpr (List.getElem?_eq_getElem small)
    · exact eq_of_beq seq
    · rw [List.map_map]
      have same : (fun t : TxFlit => t.f) ∘ (fun e : TxFlit × Nat => if i ≤ e.2 then { e.1 with resend := true } else e.1)
          = (fun t : TxFlit => t.f) ∘ Prod.fst := by
        funext e
        simp only [Function.comp_apply]
        split <;> rfl
      rw [same, ← List.map_map, List.zipIdx_map_fst]

/-! ### CREDIT (R225) -/

/-- Credits that a peer returns are added class by class. -/
theorem smGet_credited (l : List Nat) (m : SMap Nat) (k i : Nat) :
    smGet (fun _ => 0) ((l.zipIdx k).foldl (fun m e => smSet (fun _ => 0) m e.2 (smGet (fun _ => 0) m e.2 + e.1)) m) i =
      smGet (fun _ => 0) m i + (if k ≤ i then l.getD (i - k) 0 else 0) := by
  induction l generalizing m k with
  | nil => simp
  | cons c l ih =>
    rw [List.zipIdx_cons, List.foldl_cons, ih]
    dsimp only
    by_cases here : i = k
    · subst here
      rw [smGet_smSet_same]
      simp
    · rw [smGet_smSet_ne _ _ _ _ _ here]
      by_cases later : k ≤ i
      · have next : i - k = (i - (k + 1)) + 1 := by omega
        rw [if_pos later, if_pos (by omega), next, List.getD_cons_succ]
      · rw [if_neg later, if_neg (by omega)]

/-! ### The bundle that a flit of its scope concerns (R236) -/

theorem bndPeer_booked (s : State) (p n : Nat) (f : Flit) (c : Nat) : (s.booked p n f).bndPeer c = s.bndPeer c :=
  s.booked_bnd p n f _ c (by decide) (by decide) (by decide)

theorem bndUp_booked (s : State) (p n : Nat) (f : Flit) (c : Nat) : (s.booked p n f).bndUp c = s.bndUp c := by
  simp only [bndUp, bndSt, s.booked_bnd p n f (Bnd.BND_STATUS.sub 1 0) c (by decide) (by decide) (by decide)]

theorem bundleTo_booked (s : State) (p n : Nat) (f : Flit) (chip : Nat) :
    (s.booked p n f).bundleTo (s.rxBundle p n) chip = s.bundleTo (s.rxBundle p n) chip := by
  unfold bundleTo
  rw [bndPeer_booked]
  split
  · rfl
  · next other =>
    have same : (fun x => (s.booked p n f).bndPeer x == chip && (s.booked p n f).bundle x != default)
        = fun x => s.bndPeer x == chip && s.bundle x != default := by
      funext x
      rw [bndPeer_booked]
      by_cases own : x = s.rxBundle p n
      · have no : (s.bndPeer x == chip) = false := by rw [own]; exact beq_eq_false_iff_ne.mpr other
        rw [no, Bool.false_and, Bool.false_and]
      · rw [bundle_booked_ne s f own]
    rw [same]

/-! ### Changes of lanes at their SEQ (R232, R235) -/

theorem ctlReleased_now {s : State} {p n e src : Nat} (f : Flit) {c : LaneCtl} (op : c.op < 3) (due : s.CtlNow (s.rxBundle p n) e c.eff) :
    (s.booked p n f).ctlReleased e src c = (s.booked p n f).laneCtl src c := by
  have next : ((s.booked p n f).bundle e).rxNext =
      if e = s.rxBundle p n then ((s.bundle (s.rxBundle p n)).rxNext + 1) % 65536 else (s.bundle e).rxNext := by
    split
    next own => rw [own, bundle_booked_same]
    next other => rw [bundle_booked_ne s f other]
  unfold ctlReleased
  dsimp only
  rw [if_neg (by omega), if_neg]
  simp only [Bool.and_eq_true, decide_eq_true_eq, bndUp_booked, next]
  unfold CtlNow at due
  dsimp only at due
  rintro ⟨⟨up, ahead⟩, near⟩
  obtain down | zero | far := due
  · rw [up] at down
    cases down
  · omega
  · omega

/-- A change of lanes whose SEQ has not come waits for it. -/
def ctlWaits (s : State) (b src : Nat) (c : LaneCtl) : State := s.setBundle b { s.bundle b with ctl := (s.bundle b).ctl ++ [(src, c)] }

theorem ctlReleased_early {s : State} {p n e src : Nat} (f : Flit) {c : LaneCtl} (op : c.op < 3) (early : ¬ s.CtlNow (s.rxBundle p n) e c.eff) :
    (s.booked p n f).ctlReleased e src c = (s.booked p n f).ctlWaits e src c := by
  have next : ((s.booked p n f).bundle e).rxNext =
      if e = s.rxBundle p n then ((s.bundle (s.rxBundle p n)).rxNext + 1) % 65536 else (s.bundle e).rxNext := by
    split
    next own => rw [own, bundle_booked_same]
    next other => rw [bundle_booked_ne s f other]
  unfold ctlReleased
  dsimp only
  rw [if_neg (by omega), if_pos]
  · rfl
  · simp only [Bool.and_eq_true, decide_eq_true_eq, bndUp_booked, next]
    unfold CtlNow at early
    dsimp only at early
    simp only [not_or, Bool.not_eq_false] at early
    obtain ⟨up, zero, far⟩ := early
    exact ⟨⟨up, Nat.pos_of_ne_zero zero⟩, Nat.not_le.mp far⟩

/-- No change of lanes is due while the SEQ that each names lies ahead. -/
theorem ctlDue_early {s : State} {b : Nat}
    (early : ∀ e ∈ (s.bundle b).ctl, seqDist (s.bundle b).rxNext e.2.eff ≠ 0 ∧ seqDist (s.bundle b).rxNext e.2.eff < 32768) : s.ctlDue b = s := by
  have none : (s.bundle b).ctl.filter (fun e => seqDist (s.bundle b).rxNext e.2.eff == 0 || decide (32768 ≤ seqDist (s.bundle b).rxNext e.2.eff)) = [] := by
    refine List.filter_eq_nil_iff.mpr fun e he => ?_
    obtain ⟨zero, near⟩ := early e he
    simp only [Bool.or_eq_true, beq_iff_eq, decide_eq_true_eq, not_or]
    omega
  unfold ctlDue
  simp only [List.partition_eq_filter_filter, none, List.isEmpty_nil, if_true]

/-! ### Flits of the link that are released -/

theorem released_laneCtrl {s : State} {b p : Nat} {f : Flit} {c : LaneCtl} (pay : f.p = .laneCtrl c) (here : f.h.dest = s.chip) :
    s.released b p f = s.ctlReleased (s.bundleTo b f.h.src) f.h.src c := by
  simp [released, pay, Pay.e2e, here]

theorem released_yoyo {s : State} {b p : Nat} {f : Flit} {y : Yoyo} (pay : f.p = .yoyo y) (here : f.h.dest = s.chip) :
    s.released b p f = s.yoyoRx (s.bundleTo b f.h.src) y := by
  simp [released, pay, Pay.e2e, here]

/-- The credits that a CREDIT flit returns are the bundle's. -/
def credited (s : State) (b : Nat) (cs : List Nat) : State :=
  s.setBundle b { s.bundle b with
    got := cs.zipIdx.foldl (fun m e => smSet (fun _ => 0) m e.2 (smGet (fun _ => 0) m e.2 + e.1)) (s.bundle b).got }

theorem released_credit {s : State} {b p : Nat} {f : Flit} {cs : List Nat} (pay : f.p = .credit cs) (here : f.h.dest = s.chip) :
    s.released b p f = s.credited (s.bundleTo b f.h.src) cs := by
  simp [released, pay, Pay.e2e, here, credited]

/-! ### Ring notices and RING_ALIGNED (R272, R290) -/

/-- A flit that takes effect as it arrives, in turn or ahead of it, leaves but its place in the order of release to do. -/
theorem ringCtl_released {s : State} {p n : Nat} {o : RxObs} {h : FlitHdr} {c : LaneCtl} {arr : Nat}
    (fresh : s.InTurn p n o h ∨ s.Ahead p n o h) (here : h.dest = s.chip) (op : 3 ≤ c.op) :
    ∃ u, Kept (partsMask [.bundles, .ports, pk .bnd, pk (.lnk 0)]) s u ∧
      Kept (partsMask [.bundles]) (u.laneCtl h.src c) (s.rxFlit p n o { h := h, p := .laneCtrl c } arr) := by
  let b := s.rxBundle p n
  let f : Flit := Flit.seen { h := h, p := .laneCtrl c } o
  have arrives : s.Arrives p n o h := fresh.elim InTurn.arrives Ahead.arrives
  have heard := s.heard_only b
  have record := heard.bundle b
  have held := (s.heard b).bundle_heldBack_same b p f
  have kept : Kept (partsMask [.bundles, .ports, pk .bnd, pk (.lnk 0)]) s ((s.heard b).heldBack b p f) :=
    setBundle_kept .of_beq (bumpBy_kept .of_beq (Kept.upd_ports .of_beq (heard_kept .of_beq (.refl _ s))) (by simp only [Page.kind]; decide +kernel))
  have new : ¬ (s.heard b).Dup b f := by
    rw [Dup, record]
    obtain ⟨-, next, alone, -⟩ | ⟨-, ⟨-, near⟩, others⟩ := fresh
    · have zero : seqDist (s.bundle b).rxNext h.seq < 32768 := by
        rw [next]
        show seqDist (s.bundle b).rxNext (s.bundle b).rxNext < 32768
        rw [seqDist]
        omega
      rw [alone]
      rintro (far | ⟨e, he, -⟩)
      · exact absurd far (Nat.not_le.mpr zero)
      · exact absurd he List.not_mem_nil
    · rintro (far | ⟨e, he, same⟩)
      · exact absurd far (Nat.not_le.mpr near)
      · exact (others e he).1 same
  have chip : ((s.heard b).heldBack b p f).chip = s.chip := kept.chip
  have acts : ((s.heard b).heldBack b p f).ringCtl f = ((s.heard b).heldBack b p f).laneCtl h.src c := by
    refine if_pos ?_
    rw [chip]
    simp [op, f, Flit.seen, here]
  let w := ((s.heard b).heldBack b p f).laneCtl h.src c
  have order : ((s.heard b).heldBack b p f).Turns w := laneCtl_turns (.refl _) h.src c
  have run : s.rxFlit p n o { h := h, p := .laneCtrl c } arr = w.releaseAll b ((s.bundle b).reorder.length + 1) := by
    rw [arrives.rxFlit (f := { h := h, p := .laneCtrl c }) rfl, seqRx_fresh new, acts, record]
  refine ⟨(s.heard b).heldBack b p f, kept, ?_⟩
  rw [run]
  have next : (w.bundle b).rxNext = (s.bundle b).rxNext := by rw [order.next, held, record]
  have window : (w.bundle b).reorder = (s.bundle b).reorder ++ [(f, p)] ∨ (w.bundle b).reorder = [] := by
    refine (order.held b).imp_left fun same => ?_
    rw [same, held, record]
  obtain waits | now : (∀ e ∈ (w.bundle b).reorder, e.1.h.seq ≠ (w.bundle b).rxNext) ∨ s.InTurn p n o h ∧ (w.bundle b).reorder = [(f, p)] := by
    obtain full | empty := window
    · obtain turn | ⟨-, ⟨gap, -⟩, others⟩ := fresh
      · exact .inr ⟨turn, by rw [full, turn.alone, List.nil_append]⟩
      · refine .inl fun e he => ?_
        rw [full] at he
        rw [next]
        obtain old | last := List.mem_append.mp he
        · exact (others e old).2
        · rw [List.mem_singleton.mp last]
          exact gap
    · exact .inl fun e he => by simp [empty] at he
  · rw [releaseAll_waits waits]
    exact .refl _ w
  · obtain ⟨⟨-, turn, alone, settled⟩, one⟩ := now
    have away : f.h.dest = (w.turned b).chip := by
      refine here.trans (chip.symm.trans ?_)
      rw [(w.turned_kept b).chip]
      exact (Kept.chip (laneCtl_kept (Msub.refl _) (.refl _ _))).symm
    have none : (((w.turned b).bundle b).ctl) = [] := by
      rw [turned, bundle_setBundle_same]
      show (w.bundle b).ctl = []
      rw [order.ctl, held, record]
      exact settled
    rw [alone, List.length_nil, releaseAll_one one (turn.trans next.symm), released_laneCtrl rfl away, ctlReleased, if_pos op, ctlDue_settled none]
    exact w.turned_kept b

end State
end Sys2Proof.Machine
end

section
/-! The flits of the link itself (Table 8.3): the effect of each. -/
namespace Sys2Proof.Machine
-- This option keeps Lean from elaborating the proofs side by side, for which the check's memory limit leaves too few threads.
set_option deprecated.oldSectionVars true

namespace State

/-! ### The flits that carry no SEQ (R229 step 3) -/

section Unsequenced
variable {s : State} {p n : Nat} {o : RxObs} {h : FlitHdr}

theorem Arrives.rxFlit_idle (a : s.Arrives p n o h) : s.rxFlit p n o { h := h, p := .idle } = (s.heard (s.rxBundle p n)).idleRx p n := by
  simp [State.rxFlit, a.on, a.crc, a.trained, a.next, a.hears]

theorem Arrives.rxFlit_ack (a : s.Arrives p n o h) (es : List (Nat × Nat)) : s.rxFlit p n o { h := h, p := .ack es } =
    (s.heard (s.rxBundle p n)).each es (fun e s' => s'.ackUpTo (s.rxBundle p n) e.2) := by
  simp [State.rxFlit, a.on, a.crc, a.trained, a.next, a.hears]

theorem Arrives.rxFlit_nak (a : s.Arrives p n o h) (e q : Nat) : s.rxFlit p n o { h := h, p := .nak [(e, q)] } =
    (s.heard (s.rxBundle p n)).replayFrom (s.rxBundle p n) q := by
  simp [State.rxFlit, a.on, a.crc, a.trained, a.next, a.hears, each]

theorem Arrives.rxFlit_heartbeat (a : s.Arrives p n o h) (chip port lane b tick seq : Nat) :
    s.rxFlit p n o { h := h, p := .heartbeat chip port lane b tick seq } = (s.heard (s.rxBundle p n)).heartbeatRx p n chip port lane := by
  simp [State.rxFlit, a.on, a.crc, a.trained, a.next, a.hears]

/-- The place that the time exchange of a channel has (R313). -/
def timePlace (s : State) (p n : Nat) : Nat := match s.rxRing p n with | some r => 16 + r | none => n

theorem Arrives.rxFlit_time (a : s.Arrives p n o h) (m : TimeMsg) (arr : Nat) :
    s.rxFlit p n o { h := h, p := .time m } arr = (s.heard (s.rxBundle p n)).timeRx p (s.timePlace p n) m arr := by
  have ring : (s.heard (s.rxBundle p n)).rxRing p n = s.rxRing p n := (s.heard_only _).rxRing p n
  simp [State.rxFlit, a.on, a.crc, a.trained, a.next, a.hears, ring, timePlace] <;> rfl

end Unsequenced

theorem rxFlit_train {s : State} {p n : Nat} {o : RxObs} (on : s.rxOn p n = true) (crc : o.crcOk = true) (h : FlitHdr) (m : TrainMsg) (arr : Nat) :
    s.rxFlit p n o { h := h, p := .train m } arr = s.trainRx p n m arr := by
  simp [rxFlit, on, crc]

/-- A ring's channel is of its bundle. -/
theorem rxBundle_ring {s : State} {p n r : Nat} (ring : s.rxRing p n = some r) : s.rxBundle p n = s.ringF p r Rng.RING_STATE_BUNDLE := by
  simp [rxBundle, ring]

/-- A copper port has no rings. -/
theorem rxRing_copper (s : State) {p : Nat} (cu : copper p = true) (n : Nat) : s.rxRing p n = none := by simp [rxRing, cu]

/-- A flit that a bundle sends for itself waits in it. -/
theorem bundle_sendBundle_same (s : State) (b : Nat) (pay : Pay) : ((s.sendBundle b pay).bundle b).wait =
    (s.bundle b).wait ++ [({ h := { src := s.chip, next := s.bndPeer b, dest := s.bndPeer b }, p := pay }, s.plan.queued)] :=
  congrArg Bundle.wait (bundle_setBundle_same _ b _)

/-! ### A lane that has failed is out of its bundle (Table 8.6) -/

theorem LaneStruck.down {s t : State} {p n : Nat} (h : s.LaneStruck t p n) : 4 ≤ t.laneSt p n := by
  by_cases few : s.strikes p n < s.fld (.lan p) Lan.THR_STRIKES % 16
  · rw [h.failed few]
  · by_cases low : s.fld (.lan p) Lan.LANE_STATE_QLEVEL n < 6
    · rw [(h.quarantined (Nat.not_lt.mp few) low).1]
      decide
    · rw [h.disabled (Nat.not_lt.mp few) (Nat.not_lt.mp low)]
      decide

theorem rxTrained_copper {s : State} {p n : Nat} (cu : copper p = true) (trained : s.rxTrained p n = true) : s.laneSt p n = 2 ∨ s.laneSt p n = 3 := by
  simpa [rxTrained, s.rxRing_copper cu] using trained

/-! ### Heartbeats of a line (R256, R343) -/

/-- The lane that the peer names of itself is noted for the pair, and in the registers of the lane that it serves. -/
def peerSeen (s : State) (p r lane : Nat) : State :=
  let s := s.modRing p r (fun x => { x with peerLane := lane })
  if s.ringLane p r < 8 then s.setFld (.lan p) Lan.LANE_PEER (s.lanePeerOf p r) (s.ringLane p r) else s

theorem heartbeatRx_own {s : State} {p n r chip port : Nat} (lane : Nat) (ring : s.rxRing p n = some r) (own : chip = s.ringPeerChip p r)
    (same : port = (s.ringX p r).peerPort) : s.heartbeatRx p n chip port lane =
      (s.peerSeen p r lane).lineConfirm p ((s.peerSeen p r lane).ringF p r Rng.RING_STATE_LINE) port := by
  unfold heartbeatRx
  rw [ring]
  exact if_pos (by simp [own, same])

theorem peerSeen_kept (s : State) (p r lane : Nat) : Kept (partsMask [.rings, pk (.lan 0)]) s (s.peerSeen p r lane) := by
  have noted : Kept (partsMask [.rings, pk (.lan 0)]) s (s.modRing p r (fun x => { x with peerLane := lane })) := modRing_kept .of_beq (.refl _ s)
  exact .ite (setFld_kept .of_beq noted (by simp only [Page.kind]; decide +kernel)) noted

theorem peerSeen_lane (s : State) (p r lane : Nat) : ((s.peerSeen p r lane).ringX p r).peerLane = lane := by
  have noted : Kept (partsMask [pk (.lan 0)]) (s.modRing p r (fun x => { x with peerLane := lane })) (s.peerSeen p r lane) :=
    .ite (setFld_kept .of_beq (.refl _ _) (by simp only [Page.kind]; decide +kernel)) (.refl _ _)
  rw [noted.ringX, ringX_modRing_same]

/-- A line that is claimed is confirmed by the heartbeat of its peer. -/
theorem lineConfirm_claimed {s : State} {p l : Nat} (port : Nat) (claimed : s.lineSt p l = 2) :
    (s.lineConfirm p l port).fld .line (Lin.LINE_STATE.sub 3 3) (lineBank p l) = 1 ∧
      (s.lineConfirm p l port).fld .line (Lin.LINE_PEER.sub 20 16) (lineBank p l) = port % 32 := by
  unfold lineConfirm
  rw [if_pos claimed]
  exact ⟨(fld_setFld_inside _ _ _ _ _ _ _ _ (by decide) (by decide) (by decide)).trans (fld_setFld_same _ _ _ _ _ ⟨by decide, by decide⟩),
    fld_setFld_same _ _ _ _ _ ⟨by decide, by decide⟩⟩

/-! ### The exchange of time (R313) -/

/-- What a time flit leaves of its channel and of the root that its sender follows. -/
theorem timeRx_records (s : State) (p lane : Nat) (m : TimeMsg) (arr : Nat) : ∃ ds k moved tseq synced,
    tGet (s.timeRx p lane m arr).time.lanes (timeKey p lane) = { tGet s.time.lanes (timeKey p lane) with
      ds := ds, n := k, last := s.tick + 1, txTs := m.txTs, arr := arr } ∧
    tGet (s.timeRx p lane m arr).time.ads (s.timeBundle p lane) =
      { chip := m.rootChip, prio := m.rootPrio, tseq := tseq, moved := moved, hops := m.hops, synced := synced } := by
  unfold timeRx
  extract_lets k b x d x' s1 a same a' s2
  have lanes : tGet s2.time.lanes k = { x' with last := s.tick + 1, txTs := m.txTs, arr := arr } := smGet_smSet_same _ _ _ _
  have ads : tGet s2.time.ads b = a' := smGet_smSet_same _ _ _ _
  have echo : ∃ ds k, x' = { x with ds := ds, n := k } := by
    simp only [x']
    split
    · exact ⟨x.ds, x.n, rfl⟩
    · exact ⟨_, _, rfl⟩
  obtain ⟨ds, c, seen⟩ := echo
  rw [seen] at lanes
  refine ⟨ds, c, a'.moved, a'.tseq, a'.synced, ?_⟩
  split
  · split
    · exact ⟨lanes, ads⟩
    · exact ⟨lanes, ads⟩
  · exact ⟨lanes, ads⟩

/-! ### The control of lanes (R232, R235) -/

theorem peerLane_booked (s : State) (p n : Nat) (f : Flit) (chip port lane : Nat) :
    (s.booked p n f).peerLane chip port lane = s.peerLane chip port lane := (s.booked_kept p n f).peerLane chip port lane

/-- A lane that the peer adds to its bundle is admitted here. -/
theorem laneCtl_add {s : State} {src b port lane eff q k : Nat} (named : s.peerLane src port lane = some (q, k)) (cu : copper q = true)
    (trains : s.laneSt q k = 1) (ready : (s.laneX q k).rxOk = true) :
    s.laneCtl src { op := 0, bundle := b, port := port, lane := lane, eff := eff } = s.copperAdmit q k := by
  simp [laneCtl, named, cu, trains, ready]

/-- A lane that the peer takes out has failed here too. -/
theorem laneCtl_remove {s : State} {src b port lane eff q k : Nat} (named : s.peerLane src port lane = some (q, k)) :
    s.laneCtl src { op := 1, bundle := b, port := port, lane := lane, eff := eff } = s.laneFailTo q k 0 none false := by
  simp [laneCtl, named]

theorem laneCtl_replace {s : State} {src b port lane repl eff q k j : Nat} (named : s.peerLane src port lane = some (q, k))
    (spare : s.peerLane src port repl = some (q, j)) (standby : s.laneSt q j = 3) :
    s.laneCtl src { op := 2, bundle := b, port := port, lane := lane, repl := repl, eff := eff } = s.laneFailTo q k 0 (some j) false := by
  simp [laneCtl, named, spare, standby]

/-- A lane of a copper port that fails without a SPARE lane to take its place. -/
theorem laneFailTo_none_struck {s : State} {p n : Nat} (cu : copper p = true) (cause : Nat) (tell : Bool) (st : s.laneSt p n = 2 ∨ s.laneSt p n = 3) :
    s.LaneStruck (s.laneFailTo p n cause none tell) p n := by
  have struck := s.failNoted_struck p n cause
  obtain active | standby := st
  · rw [laneFailTo_none cause tell active]
    exact struck.later (laneLeave_laneKept_copper _ cu n tell p n)
  · rw [laneFailTo_standby cause _ tell standby]
    exact struck.later (portSync_laneKept _ p p n)

/-- A lane that fails while the peer names the SPARE lane that takes its place. -/
theorem laneFailTo_spare_struck {s : State} {p n q : Nat} (cause : Nat) (tell : Bool) (active : s.laneSt p n = 2) (other : q ≠ n) :
    s.LaneStruck (s.laneFailTo p n cause (some q) tell) p n ∧ (s.laneFailTo p n cause (some q) tell).laneSt p q = 2 ∧
      (s.laneFailTo p n cause (some q) tell).laneBundle p q = s.laneBundle p n := by
  have struck := s.failNoted_struck p n cause
  rw [laneFailTo_spare q cause tell active]
  have told := ((s.failNoted p n cause).replaceTold_kept ((s.failSeen p n cause).laneBundle p n) p n q tell).laneKept p n
  obtain ⟨state, bundle⟩ := spareTakes_serves (replaceTold _ _ p n q tell) p n q _
  exact ⟨struck.later (told.trans (spareTakes_laneKept _ other.symm _)), state, bundle.trans (told.laneBundle.trans struck.bundle)⟩

/-- A change of lanes that is due when it is released takes effect in the state that is booked, and nothing else does. -/
theorem InTurn.rxFlit_ctlNow {s : State} {p n : Nat} {o : RxObs} {h : FlitHdr} (turn : s.InTurn p n o h) (here : h.dest = s.chip) {c : LaneCtl}
    (op : c.op < 3) (due : s.CtlNow (s.rxBundle p n) (s.bundleTo (s.rxBundle p n) h.src) c.eff) :
    ∃ u, Kept (partsMask [.bundles, .ports, pk .bnd, pk (.lnk 0)]) s u ∧ s.rxFlit p n o { h := h, p := .laneCtrl c } = u.laneCtl h.src c := by
  let f : Flit := { h := h, p := .laneCtrl c }
  have later : ∀ c', f.p = .laneCtrl c' → c'.op < 3 ∨ f.h.dest ≠ s.chip := fun c' pay => by cases pay; exact .inl op
  refine ⟨s.booked p n (f.seen o), s.booked_kept p n _, ?_⟩
  have order : (s.booked p n (f.seen o)).Turns ((s.booked p n (f.seen o)).laneCtl h.src c) := laneCtl_turns (.refl _) h.src c
  have away : (f.seen o).h.dest = (s.booked p n (f.seen o)).chip := here.trans (s.booked_kept p n _).chip.symm
  rw [turn.rxFlit (f := f) rfl later, released_laneCtrl rfl away, show (f.seen o).h.src = h.src from rfl, bundleTo_booked,
    ctlReleased_now _ op due, order.settled (f := f) turn]

/-- What waits for its SEQ leaves the turn of each bundle. -/
theorem ctlWaits_turn (s : State) (b src : Nat) (c : LaneCtl) (x : Nat) :
    ((s.ctlWaits b src c).bundle x).rxNext = (s.bundle x).rxNext ∧ ((s.ctlWaits b src c).bundle x).ackDue = (s.bundle x).ackDue := by
  unfold ctlWaits
  by_cases own : x = b
  · rw [own, bundle_setBundle_same]
    exact ⟨rfl, rfl⟩
  · rw [bundle_setBundle_ne _ _ own]
    exact ⟨rfl, rfl⟩

/-- A change of lanes that is not due waits in the bundle that it concerns. -/
theorem InTurn.rxFlit_ctlEarly {s : State} {p n : Nat} {o : RxObs} {h : FlitHdr} (turn : s.InTurn p n o h) (here : h.dest = s.chip) {c : LaneCtl}
    (op : c.op < 3) (early : ¬ s.CtlNow (s.rxBundle p n) (s.bundleTo (s.rxBundle p n) h.src) c.eff) :
    s.Booked (s.rxFlit p n o { h := h, p := .laneCtrl c }) p n ∧
      ((s.rxFlit p n o { h := h, p := .laneCtrl c }).bundle (s.bundleTo (s.rxBundle p n) h.src)).ctl =
        (s.bundle (s.bundleTo (s.rxBundle p n) h.src)).ctl ++ [(h.src, c)] := by
  let f : Flit := { h := h, p := .laneCtrl c }
  let b := s.rxBundle p n
  let e := s.bundleTo b h.src
  have later : ∀ c', f.p = .laneCtrl c' → c'.op < 3 ∨ f.h.dest ≠ s.chip := fun c' pay => by cases pay; exact .inl op
  have away : (f.seen o).h.dest = (s.booked p n (f.seen o)).chip := here.trans (s.booked_kept p n _).chip.symm
  have before : ((s.booked p n (f.seen o)).bundle e).ctl = (s.bundle e).ctl := by
    by_cases own : e = b
    · rw [own, bundle_booked_same]
    · rw [bundle_booked_ne s _ own]
  have waits : (((s.booked p n (f.seen o)).ctlWaits e h.src c).bundle e).ctl = (s.bundle e).ctl ++ [(h.src, c)] := by
    rw [ctlWaits, bundle_setBundle_same, before]
  have due : ((s.booked p n (f.seen o)).ctlWaits e h.src c).ctlDue b = (s.booked p n (f.seen o)).ctlWaits e h.src c := by
    by_cases own : b = e
    · refine ctlDue_early fun x listed => ?_
      rw [own, waits, ← own, turn.settled, List.nil_append, List.mem_singleton] at listed
      rw [(ctlWaits_turn _ _ _ _ _).1, bundle_booked_same, listed]
      unfold CtlNow at early
      dsimp only at early
      rw [if_pos own.symm] at early
      simp only [not_or, Nat.not_le] at early
      exact early.2
    · refine ctlDue_settled ?_
      rw [ctlWaits, bundle_setBundle_ne _ _ own, bundle_booked_same]
      exact turn.settled
  rw [turn.rxFlit (f := f) rfl later, released_laneCtrl rfl away, show (f.seen o).h.src = h.src from rfl, bundleTo_booked,
    ctlReleased_early _ op early, due]
  refine ⟨(s.booked_booked p n _).later (setBundle_kept .of_beq (.refl _ _)) (ctlWaits_turn _ _ _ _ _).1 (ctlWaits_turn _ _ _ _ _).2 ?_, waits⟩
  exact (setBundle_kept (M := partsMask [.bundles]) .of_beq (.refl _ _)).fld64 .bnd _ _

end State
end Sys2Proof.Machine
end

section
/-! The obligation about the flits of the link (R229, R230, R232–R235, R272, R290, R313, R357). -/
namespace Sys2Proof.Machine
-- This option keeps Lean from elaborating the proofs side by side, for which the check's memory limit leaves too few threads.
set_option deprecated.oldSectionVars true

namespace State

/-! ### Idle flits (R272) -/

theorem idleRx_whole {s : State} {p n : Nat} (whole : ∀ r, s.rxRing p n = some r → (s.ringX p r).rxLost = false) : s.idleRx p n = s := by
  unfold idleRx
  split
  next r ring => simp [whole r ring]
  next => rfl

/-- The first idle flit on a pair whose reception was lost tells the peer that the pair is aligned again. -/
theorem idleRx_lost {s : State} {p n r : Nat} (ring : s.rxRing p n = some r) (lost : (s.ringX p r).rxLost = true) :
    ((s.idleRx p n).ringX p r).rxLost = false ∧ ∃ f a, ((s.idleRx p n).bundle (s.rxBundle p n)).wait = (s.bundle (s.rxBundle p n)).wait ++ [(f, a)] ∧
      f.p = .laneCtrl { op := 4, bundle := s.rxBundle p n, port := (s.ringX p r).peerPort } := by
  have run : s.idleRx p n = (s.modRing p r (fun x => { x with rxLost := false })).sendBundle (s.rxBundle p n)
      (.laneCtrl { op := 4, bundle := s.rxBundle p n, port := (s.ringX p r).peerPort }) := by
    simp [idleRx, ring, lost, rxBundle_ring ring]
  rw [run]
  have sent := sendBundle_kept (M := partsMask [.bundles, .plan]) .of_beq
    (.refl _ (s.modRing p r (fun x => { x with rxLost := false }))) (p1 := s.rxBundle p n)
    (p2 := .laneCtrl { op := 4, bundle := s.rxBundle p n, port := (s.ringX p r).peerPort })
  refine ⟨?_, _, _, bundle_sendBundle_same _ _ _, rfl⟩
  rw [sent.ringX, ringX_modRing_same]

/-! ### Heartbeats on copper (R232) -/

theorem heartbeatRx_copper {s : State} {p : Nat} (cu : copper p = true) (n chip port lane : Nat) : s.heartbeatRx p n chip port lane =
    if s.fld (.lan p) (Lan.LANE_PEER.sub 24 0) n = chip % 65536 + port % 32 * 65536 + lane % 16 * 2 ^ 21 then s
    else s.laneFail p n causeIdent := by
  simp [heartbeatRx, s.rxRing_copper cu, laneFault_copper cu]

/-! ### TRAIN flits on copper (R234) -/

/-- What a lane hears while it trains is noted in its record. -/
def trainSeen (s : State) (p n : Nat) (m : TrainMsg) (arr : Nat) : State :=
  s.modLane p n (fun x => { x with seen := { chip := m.chip, port := m.port, lane := m.lane, ts := m.ts, arr := arr } })

theorem trainSeen_step (s : State) (p n : Nat) (m : TrainMsg) (arr : Nat) : ((s.trainSeen p n m arr).laneX p n).step = (s.laneX p n).step := by
  rw [trainSeen, laneX_modLane_same]

theorem trainRx_copper {s : State} {p : Nat} (cu : copper p = true) (n : Nat) (m : TrainMsg) (arr : Nat) : s.trainRx p n m arr =
    (s.trainSeen p n m arr).copperTrain p n m arr := by
  simp [trainRx, s.rxRing_copper cu, trainSeen]

/-! ### Credits -/

theorem credited_kept (s : State) (b : Nat) (cs : List Nat) : Kept (partsMask [.bundles]) s (s.credited b cs) :=
  setBundle_kept .of_beq (.refl _ s)

theorem credited_turns {s0 s : State} (h : s0.Turns s) (b : Nat) (cs : List Nat) : s0.Turns (s.credited b cs) := h.setBundle b _

theorem credited_got (s : State) (b : Nat) (cs : List Nat) {i : Nat} :
    smGet (fun _ => 0) ((s.credited b cs).bundle b).got i = smGet (fun _ => 0) (s.bundle b).got i + cs.getD i 0 := by
  rw [credited, bundle_setBundle_same]
  exact (smGet_credited cs _ 0 i).trans (by rw [if_pos (Nat.zero_le i), Nat.sub_zero])

theorem got_booked (s : State) (p n : Nat) (f : Flit) (b : Nat) : ((s.booked p n f).bundle b).got = (s.bundle b).got := by
  by_cases own : b = s.rxBundle p n
  · rw [own, bundle_booked_same]
  · rw [bundle_booked_ne s _ own]

/-! ### Notices of a ring (R290) -/

theorem laneCtl_notice {s : State} {src b port cause r : Nat} (pair : s.pairOf src port = some r) :
    s.laneCtl src { op := 3, bundle := b, port := port, cause := cause } =
      if cause = declLos || cause = declMis then s.declare_ port r cause 0
      else if (s.ringX port r).out || (s.ringX port r).replaces.isSome then s
      else s.modRing port r (fun x => { x with mute := s.tick + 4 }) := by
  simp [laneCtl, pair]

/-- RING_ALIGNED ends the replacement of a pair that is on its line (R272). -/
theorem laneCtl_aligned {s : State} {src b port r old : Nat} (pair : s.pairOf src port = some r) (replaces : (s.ringX port r).replaces = some old)
    (onLine : s.ringF port r Rng.RING_STATE_ON_LINE = 1) :
    ((s.laneCtl src { op := 4, bundle := b, port := port }).ringX port r).replaces = none ∧
      (s.laneCtl src { op := 4, bundle := b, port := port }).ringF port r Rng.RING_STATE_TRAINED = 1 := by
  let t := (s.setRingF port r Rng.RING_STATE_TRAINED 1).modRing port r (fun x => { x with replaces := none, step := 6 })
  have run : s.laneCtl src { op := 4, bundle := b, port := port } =
      (t.event 0x4110 (srcPort port) [(1, port), (1, old), (1, r)]).bundleSync (t.ringF port r Rng.RING_STATE_BUNDLE) := by
    simp [laneCtl, pair, replaces, onLine, t]
  have noted : Kept stopParts t (s.laneCtl src { op := 4, bundle := b, port := port }) :=
    run ▸ bundleSync_kept .of_beq (event_kept .of_beq (.refl _ t))
  refine ⟨?_, ?_⟩
  · rw [noted.ringX, ringX_modRing_same]
  · rw [noted.ringF]
    have banks : regKey (.rng (ringEng port)) Rng.RING_STATE_TRAINED.off (ringBank port r 0)
        ≠ regKey (.rng (ringEng port)) Rng.RING_STATE_TRAINED.off (ringBank port r 1) := by
      simp only [regKey, bankSize, ringBank]
      omega
    exact (modRing_fld _ _ _ _ _ _ _).trans ((fld_setFld_ne _ _ _ _ _ _ _ _ banks).trans (fld_setFld_same _ _ _ _ _ ⟨by decide, by decide⟩))

end State

/-! ### The obligation -/

theorem exec_flit {c : Instr} {s t : State} {p n : Nat} {o : RxObs} {f : Flit} {arr : Nat} (cmd : flitOf c = some (p, n, o, f, arr))
    (run : s.rxFlit p n o f arr = t) : exec c s = .next t := (exec_of_flitOf cmd).trans (congrArg _ run)

/-- Settles O20: the flits without SEQ act as they arrive, the others in turn; each has the effect that its rule gives it. -/
theorem linkFlitsTakeEffect : Obligations.LinkFlitsTakeEffect := by
  unfold Obligations.LinkFlitsTakeEffect
  refine ⟨?idle, ?ack, ?nak, ?credit, ?copperBeat, ?ringBeat, ?yoyo, ?time, ?trained, ?refused, ?change, ?replace, ?early, ?notice, ?aligned⟩
  case idle =>
    intro s p n o h arrives b u
    have heard : Kept (partsMask [pk .bnd]) s u := s.heard_only b
    refine ⟨u.idleRx p n, exec_flit rfl arrives.rxFlit_idle, fun whole => ?_, fun r lane lost => ?_⟩
    · exact State.idleRx_whole fun r lane => (congrArg _ (heard.ringX p r)).trans (whole r (heard.rxRing p n ▸ lane))
    · obtain ⟨told, f, a, wait, pay⟩ := State.idleRx_lost ((heard.rxRing p n).trans lane) ((congrArg _ (heard.ringX p r)).trans lost)
      rw [heard.rxBundle, heard.bundle] at wait
      rw [heard.rxBundle, heard.ringX] at pay
      exact ⟨told, f, a, wait, pay⟩
  case ack =>
    intro s p n o h es arrives b
    have heard := (s.heard_only b).bundle b
    refine ⟨_, exec_flit rfl (arrives.rxFlit_ack es), ?_, ?_⟩
    · rw [State.each_ackUpTo, heard]
      exact List.filter_sublist
    · intro x listed
      rw [State.each_ackUpTo, heard, List.mem_filter]
      simp [listed]
  case nak =>
    intro s p n o h e q arrives b held
    have heard := (s.heard_only b).bundle b
    rw [← heard] at held ⊢
    exact ⟨_, exec_flit rfl (arrives.rxFlit_nak e q), State.replayFrom_resends held⟩
  case credit =>
    intro s p n o h cs turn here length b
    let f : Flit := { h := h, p := .credit cs }
    let u := s.booked p n (f.seen o)
    have kept := s.booked_kept p n (f.seen o)
    have away : (f.seen o).h.dest = u.chip := here.trans kept.chip.symm
    have order : u.Turns (u.credited b cs) := State.credited_turns (.refl u) b cs
    have run : s.rxFlit p n o f = u.credited b cs := by
      rw [turn.rxFlit (f := f) rfl (fun c pay => by cases pay), State.released_credit rfl away, show (f.seen o).h.src = h.src from rfl,
        State.bundleTo_booked, order.settled (f := f) turn]
    refine ⟨_, exec_flit rfl run, (u.credited_kept b cs).mem.trans kept.mem, fun i _ => ?_⟩
    have got : (u.bundle b).got = (s.bundle b).got := State.got_booked s p n _ b
    rw [State.credited_got, got]
  case copperBeat =>
    intro s p n o h chip port lane b tick seq arrives cu u same
    have heard : Kept (partsMask [pk .bnd]) s u := s.heard_only _
    have run := arrives.rxFlit_heartbeat chip port lane b tick seq
    have word : u.fld (.lan p) (Lan.LANE_PEER.sub 24 0) n = s.fld (.lan p) (Lan.LANE_PEER.sub 24 0) n := heard.fld (.lan p) _ n
    refine ⟨u.heartbeatRx p n chip port lane, exec_flit rfl run, fun own => ?_, fun other => ?_⟩
    · rw [State.heartbeatRx_copper cu, if_pos (word.trans own)]
    · have struck := State.laneFail_struck (s := u) cu causeIdent ((heard.laneSt p n).symm ▸ State.rxTrained_copper cu arrives.trained)
      rw [State.heartbeatRx_copper cu, if_neg (fun eq => other (word.symm.trans eq))]
      exact ⟨struck.fails.trans (by rw [heard.fld (.lan p)]), struck.down⟩
  case ringBeat =>
    intro s p n o h chip port lane b tick seq r arrives ring chipOwn portOwn l
    have heard := s.heard_only (s.rxBundle p n)
    have run := arrives.rxFlit_heartbeat chip port lane b tick seq
    rw [State.heartbeatRx_own lane ((heard.rxRing p n).trans ring) (chipOwn.trans (heard.ringF p r _).symm)
      (portOwn.trans (congrArg _ (heard.ringX p r).symm))] at run
    have seen := (s.heard (s.rxBundle p n)).peerSeen_kept p r lane
    have line : ((s.heard (s.rxBundle p n)).peerSeen p r lane).ringF p r Rng.RING_STATE_LINE = l := (seen.ringF p r _).trans (heard.ringF p r _)
    rw [line] at run
    refine ⟨_, exec_flit rfl run, ?_, fun claimed => State.lineConfirm_claimed port ?_⟩
    · exact (congrArg _ ((State.lineConfirm_kept (M := 2 ^ 18) .of_beq (.refl _ _)).ringX p r)).trans (State.peerSeen_lane _ p r lane)
    · exact (seen.fld .line _ _).trans ((heard.fld .line _ _).trans claimed)
  case yoyo =>
    intro s p n o h y turn here
    let f : Flit := { h := h, p := .yoyo y }
    have away : (f.seen o).h.dest = (s.booked p n (f.seen o)).chip := here.trans (s.booked_kept p n _).chip.symm
    have order := State.yoyoRx_turns (.refl (s.booked p n (f.seen o))) (s.bundleTo (s.rxBundle p n) h.src) y
    refine ⟨_, s.booked p n (f.seen o), exec_flit rfl ?_, s.booked_booked p n _, rfl⟩
    rw [turn.rxFlit (f := f) rfl (fun c pay => by cases pay), State.released_yoyo rfl away, show (f.seen o).h.src = h.src from rfl,
      State.bundleTo_booked, order.settled (f := f) turn]
  case time =>
    intro s p n o h m arr arrives l b
    have heard := s.heard_only (s.rxBundle p n)
    have bundle : (s.heard (s.rxBundle p n)).timeBundle p l = b := by
      simp only [State.timeBundle, heard.laneBundle, heard.ringF, b]
    obtain ⟨ds, k, moved, tseq, synced, lanes, ads⟩ := (s.heard (s.rxBundle p n)).timeRx_records p l m arr
    rw [bundle] at ads
    refine ⟨_, exec_flit rfl (arrives.rxFlit_time m arr), (State.timeRx_kept (Msub.refl _) (.refl _ _)).mem.trans heard.mem, ?_⟩
    rw [show s.timePlace p n = l from rfl, lanes, ads, heard.tick]
    exact ⟨rfl, rfl, rfl, rfl, rfl, rfl⟩
  case trained =>
    intro s p n o h m arr rtt skew on crc cu st step v check
    let u := s.trainSeen p n m arr
    have run := (State.rxFlit_train on crc h m arr).trans (State.trainRx_copper cu n m arr)
    obtain ⟨word, -⟩ := State.peerTaken_lane (s := u) cu n m
    obtain ⟨-, state⟩ := State.peerTaken_lane (s := u) cu n m
    obtain ⟨peer, delay, lane, ready⟩ := (u.peerTaken p n m).delayTaken_lane p n rtt skew
    rw [State.copperTrain_ok (s := u) st ((State.trainSeen_step s p n m arr).symm ▸ step) check] at run
    refine ⟨_, exec_flit rfl run, ?_⟩
    by_cases heard : m.rxOk = true
    · rw [if_pos heard]
      obtain ⟨admitted, fields, rxOk⟩ := State.copperAdmit_admitted ((u.peerTaken p n m).delayTaken p n rtt skew) cu n
      exact ⟨(fields _ (by decide) (by decide)).trans (peer.trans word), (fields _ (by decide) (by decide)).trans delay, rxOk.trans ready,
        fun _ => admitted, fun no => absurd heard (by simp [no])⟩
    · rw [if_neg heard]
      exact ⟨peer.trans word, delay, ready, fun yes => absurd yes heard, fun _ => lane.trans (state.trans st)⟩
  case refused =>
    intro s p n o h m arr c on crc cu st step v check
    let u := s.trainSeen p n m arr
    have run := (State.rxFlit_train on crc h m arr).trans (State.trainRx_copper cu n m arr)
    rw [State.copperTrain_error (s := u) st ((State.trainSeen_step s p n m arr).symm ▸ step) check] at run
    have struck := u.trainFail_struck p n c (c = trainVersion && !bitAt m.majors 0)
    exact ⟨_, exec_flit rfl run, struck.down, struck.fails⟩
  case change =>
    intro s p n o h b port lane eff q k turn here named cu due
    refine ⟨fun trains ready => ?_, fun st => ?_⟩
    · obtain ⟨u, kept, run⟩ := turn.rxFlit_ctlNow (c := { op := 0, bundle := b, port := port, lane := lane, eff := eff }) here (by simp) due
      rw [State.laneCtl_add ((kept.peerLane _ _ _).trans named) cu ((kept.laneSt q k).trans trains) ((congrArg _ (kept.laneX q k)).trans ready)] at run
      exact ⟨_, exec_flit rfl run, (u.copperAdmit_admitted cu k).state⟩
    · obtain ⟨u, kept, run⟩ := turn.rxFlit_ctlNow (c := { op := 1, bundle := b, port := port, lane := lane, eff := eff }) here (by simp) due
      rw [State.laneCtl_remove ((kept.peerLane _ _ _).trans named)] at run
      exact ⟨_, exec_flit rfl run, (State.laneFailTo_none_struck cu 0 false ((kept.laneSt q k).symm ▸ st)).down⟩
  case replace =>
    intro s p n o h b port lane repl eff q k j turn here named spare other cu active standby due
    obtain ⟨u, kept, run⟩ :=
      turn.rxFlit_ctlNow (c := { op := 2, bundle := b, port := port, lane := lane, repl := repl, eff := eff }) here (by simp) due
    rw [State.laneCtl_replace ((kept.peerLane _ _ _).trans named) ((kept.peerLane _ _ _).trans spare) ((kept.laneSt q j).trans standby)] at run
    obtain ⟨struck, takes, bundle⟩ := State.laneFailTo_spare_struck (s := u) 0 false ((kept.laneSt q k).trans active) other
    exact ⟨_, exec_flit rfl run, struck.down, takes, bundle.trans (kept.laneBundle q k)⟩
  case early =>
    intro s p n o h b port lane repl eff turn here e notDue c listed
    simp only [List.mem_cons, List.not_mem_nil, or_false] at listed
    obtain rfl | rfl | rfl := listed
    · exact ⟨_, exec_flit rfl rfl, turn.rxFlit_ctlEarly here (by simp) notDue⟩
    · exact ⟨_, exec_flit rfl rfl, turn.rxFlit_ctlEarly here (by simp) notDue⟩
    · exact ⟨_, exec_flit rfl rfl, turn.rxFlit_ctlEarly here (by simp) notDue⟩
  case notice =>
    intro s p n o h b port cause r fresh here pair fits own
    obtain ⟨u, kept, later⟩ := State.ringCtl_released (c := { op := 3, bundle := b, port := port, cause := cause }) (arr := 0) fresh here (by simp)
    rw [State.laneCtl_notice ((kept.pairOf _ _).trans pair)] at later
    have record := kept.ringX port r
    refine ⟨fun los mis => ⟨_, exec_flit rfl rfl, ?_⟩, fun declared heeded => ⟨_, exec_flit rfl rfl, ?_⟩⟩
    · rw [if_neg (by simp [los, mis]), if_neg (by simp [record, fits, own])] at later
      rw [later.ringX, State.ringX_modRing_same, kept.tick]
    · rw [if_pos (by simpa using declared)] at later
      obtain ⟨out, count⟩ := State.declare_replaces (s := u) cause (by rw [record, fits]) (by rw [record, own]) (by rw [record, kept.tick]; exact heeded)
      rw [later.ringX, later.fld (.rng (ringEng port)), ← kept.fld (.rng (ringEng port))]
      exact ⟨out, count⟩
  case aligned =>
    intro s p n o h b port r old fresh here pair replaces onLine
    obtain ⟨u, kept, later⟩ := State.ringCtl_released (c := { op := 4, bundle := b, port := port }) (arr := 0) fresh here (by simp)
    obtain ⟨done, trained⟩ := State.laneCtl_aligned (s := u) (b := b) ((kept.pairOf _ _).trans pair) ((congrArg _ (kept.ringX port r)).trans replaces)
      ((kept.ringF port r _).trans onLine)
    exact ⟨_, exec_flit rfl rfl, (congrArg _ (later.ringX port r)).trans done, (later.ringF port r _).trans trained⟩

end Sys2Proof.Machine
end

section
/-! SUPPORT. The order of release (R229) under the effects of end-to-end flits: answers, reads and writes of memory, and what a program sends. -/
namespace Sys2Proof.Machine
-- This option keeps Lean from elaborating the proofs side by side, for which the check's memory limit leaves too few threads.
set_option deprecated.oldSectionVars true

namespace State
variable {s0 s : State}

/-! ### Steps that leave the bundles alone -/

theorem Turns.fst {β : Type} {x : State × β} {t : State} {b : β} (eq : x = (t, b)) (h : s0.Turns x.1) : s0.Turns t := by rwa [eq] at h

theorem Turns.foldl {α β : Type} {f : State × β → α → State × β} (step : ∀ acc x, s0.Turns acc.1 → s0.Turns (f acc x).1) {l : List α}
    {acc : State × β} (h : s0.Turns acc.1) : s0.Turns (l.foldl f acc).1 :=
  List.foldlRecOn (motive := fun acc => s0.Turns acc.1) l f h fun acc hacc x _ => step acc x hacc

theorem event_turns {code src : Nat} {items : List (Nat × Nat)} (h : s0.Turns s) : s0.Turns (s.event code src items) :=
  h.quiet (event_kept .of_beq (.refl _ s))

theorem setFld_turns {pg : Page} {f : Fld} {v b : Nat} (h : s0.Turns s) : s0.Turns (s.setFld pg f v b) := h.same (setFld_bundles _ _ _ _ _)

theorem setFld64_turns {pg : Page} {f : Fld} {v b : Nat} (h : s0.Turns s) : s0.Turns (s.setFld64 pg f v b) := h.same (setFld64_bundles _ _ _ _ _)

theorem bumpBy_turns {pg : Page} {f : Fld} {n b : Nat} (h : s0.Turns s) : s0.Turns (s.bumpBy pg f n b) := h.same (bumpBy_bundles _ _ _ _ _)

theorem bump_turns {pg : Page} {f : Fld} {b : Nat} (h : s0.Turns s) : s0.Turns (s.bump pg f b) := h.same (bump_bundles _ _ _ _)

theorem emit_turns {o : Out} (h : s0.Turns s) : s0.Turns (s.emit o) := h.same (emit_bundles _ _)

theorem setErr_turns {pg : Page} {n : Nat} (h : s0.Turns s) : s0.Turns (s.setErr pg n) :=
  h.quiet (setErr_kept .of_beq (.refl _ s) (quietMask_page _))

theorem setMat_turns {k : Nat} {x : Mat} (h : s0.Turns s) : s0.Turns (s.setMat k x) := h.same (setMat_bundles _ _ _)

theorem setStk_turns {k : Nat} {x : Stack} (h : s0.Turns s) : s0.Turns (s.setStk k x) := h.same (setStk_bundles _ _ _)

theorem modPartX_turns {p : Nat} {f : PartX → PartX} (h : s0.Turns s) : s0.Turns (s.modPartX p f) := h.same (modPartX_bundles _ _ _)

theorem modInfl_turns {lc id : Nat} {f : Infl → Infl} (h : s0.Turns s) : s0.Turns (s.modInfl lc id f) := h.quiet (modInfl_kept .of_beq (.refl _ s))

theorem progFault_turns {lc cause sub ev desc : Nat} (h : s0.Turns s) : s0.Turns (s.progFault lc cause sub ev desc) :=
  h.quiet (progFault_kept .of_beq (.refl _ s))

theorem matSync_turns {k : Nat} (h : s0.Turns s) : s0.Turns (s.matSync k) := h.quiet (matSync_kept .of_beq (.refl _ s))

theorem setBundle_turns {b : Nat} {x : Bundle} (h : s0.Turns s) (next : x.rxNext = (s.bundle b).rxNext) (ctl : x.ctl = (s.bundle b).ctl)
    (held : x.reorder = (s.bundle b).reorder ∨ x.reorder = []) : s0.Turns (s.setBundle b x) := h.setBundle b x next ctl held

/-! ### Answers -/

theorem sendMg_turns {dest : Nat} {m : MgMsg} (h : s0.Turns s) : s0.Turns (s.sendMg dest m) := sendE2e_turns h _ _ _ _ _ _ _ _

theorem contSend_turns {dest op part step : Nat} {f : List Nat} {data : List Byte} (h : s0.Turns s) :
    s0.Turns (s.contSend dest op part step f data) := sendMg_turns h

theorem mgCarry_turns {dest : Nat} {head : MgHead} {payload : List Byte} (h : s0.Turns s) : s0.Turns (s.mgCarry dest head payload) :=
  h.each fun _ _ hu => sendMg_turns hu

theorem answerReq_turns {req : Requester} {wr : Bool} {status : Nat} {data : List Byte} (h : s0.Turns s) :
    s0.Turns (s.answerReq req wr status data) := by
  unfold answerReq
  split
  · exact .ite h (.ite (emit_turns h) (emit_turns (bump_turns h)))
  · exact h.quiet (mgAnswer_kept .of_beq (.refl _ s))
  · exact mgCarry_turns h
  · exact sendE2e_turns h _ _ _ _ _ _ _ _
  · exact h

theorem deliverError_turns {req : Requester} {wr : Bool} {n : Nat} (h : s0.Turns s) : s0.Turns (s.deliverError req wr n) := by
  unfold deliverError
  split
  · dsimp only
    split
    · exact progFault_turns h
    · exact .ite (progFault_turns h) h
  · exact h.quiet (nmuModId_kept .of_beq (.refl _ s))
  · exact answerReq_turns h

theorem deliverLine_turns {req : Requester} {data : List Byte} (h : s0.Turns s) : s0.Turns (s.deliverLine req data) := by
  unfold deliverLine
  split
  · exact h
  · exact answerReq_turns h

theorem lineOutcome_turns {k l : Nat} {req : Requester} {ok : Bool} (h : s0.Turns s) : s0.Turns (s.lineOutcome k l req ok) := by
  unfold lineOutcome
  split
  · exact .ite (deliverLine_turns h) (deliverError_turns h)
  · split
    · exact h
    · exact .ite (.ite (deliverError_turns h.same) (answerReq_turns h.same)) h.same

theorem partDone_turns {req : Requester} {ok : Bool} (h : s0.Turns s) : s0.Turns (s.partDone req ok) := by
  unfold partDone
  exact .ite (deliverError_turns h.same) (.ite h (answerReq_turns h))

theorem writeDone_turns {req : Requester} {ok : Bool} (h : s0.Turns s) : s0.Turns (s.writeDone req ok) := by
  unfold writeDone
  exact .ite (partDone_turns h) (.ite h (answerReq_turns h))

/-! ### Matryoshkas (R211) -/

theorem putHeld_turns {k l : Nat} {data : List Byte} {add : Option Nat} {ctx : Option (Nat × Nat)} {req : Requester} (h : s0.Turns s) :
    s0.Turns (s.putHeld k l data add ctx req) := by
  unfold putHeld
  split
  · exact partDone_turns (h.quiet (addLine_kept .of_beq (.refl _ s)))
  · exact .ite h (partDone_turns (h.quiet (mergeLine_kept .of_beq (.refl _ s))))

theorem lineHoldW_turns {k : Nat} {w : LineW} (h : s0.Turns s) : s0.Turns (s.lineHoldW k w) := h.quiet (lineHoldW_kept .of_beq (.refl _ s))

theorem matRelease_turns {k : Nat} {ws : List HeldW} (h : s0.Turns s) : s0.Turns (s.matRelease k ws) :=
  h.each fun _ _ hu => .ite (lineHoldW_turns hu) (putHeld_turns hu)

theorem matIdle_turns {k ev : Nat} (h : s0.Turns s) : s0.Turns (s.matIdle k ev) :=
  event_turns (matSync_turns (setFld64_turns (setFld_turns (matRelease_turns (setMat_turns h)))))

theorem matConsume_turns {k u : Nat} (h : s0.Turns s) : s0.Turns (s.matConsume k u) := by
  unfold matConsume
  extract_lets m mine m' s1
  have done : s0.Turns s1 := matSync_turns (matRelease_turns (setMat_turns h))
  exact .ite (matIdle_turns done) done

theorem snapAbort_turns (h : s0.Turns s) : s0.Turns s.snapAbort := by
  refine h.each fun k u hu => .ite (matIdle_turns (bump_turns ?_)) hu
  exact .ite hu (hu.quiet (holdMax_kept .of_beq (.refl _ u)))

theorem snapUnits_turns {part id : Nat} {offs : List Nat} (h : s0.Turns s) : s0.Turns (s.snapUnits part id offs) := by
  unfold snapUnits
  extract_lets s1 s2
  have armed : s0.Turns s1 := h.each fun k u hu => setMat_turns hu
  have marked : s0.Turns s2 := by
    refine armed.each fun o u hu => ?_
    split
    · exact setMat_turns hu
    · exact hu
  refine marked.each fun k u hu => ?_
  extract_lets u1 u2 u3 u4 u5 u6
  have noted : s0.Turns u6 := event_turns (matSync_turns (setFld64_turns (setFld_turns (setFld_turns (setFld_turns (setFld_turns hu))))))
  exact .ite (matIdle_turns noted) noted

/-! ### Reads and writes that wait for a recomputation (R174–R180) -/

theorem dropMerges_turns {k l : Nat} (h : s0.Turns s) : s0.Turns (s.dropMerges k l) := (setStk_turns h).each fun _ _ hu => partDone_turns hu

theorem recompFail_turns {k : Nat} {w : RcWait} (h : s0.Turns s) : s0.Turns (s.recompFail k w) := by
  unfold recompFail
  extract_lets ctx s1
  have noted : s0.Turns s1 := event_turns ((bump_turns h).quiet (lastErr_kept .of_beq (.refl _ _)))
  exact .ite (dropMerges_turns noted) (lineOutcome_turns noted)

theorem recompWait_turns {k n : Nat} {w : RcWait} (h : s0.Turns s) : s0.Turns (s.recompWait k n w) := by
  unfold recompWait
  refine .ite (recompFail_turns h) ?_
  split
  · exact .ite (setStk_turns h) (setStk_turns h)
  · exact (setStk_turns h).quiet (recompNext_kept .of_beq (.refl _ _))

theorem awaitLine_turns {k l : Nat} {req : Requester} {ctx : Option (Nat × Nat)} (h : s0.Turns s) : s0.Turns (s.awaitLine k l req ctx) := by
  unfold awaitLine
  split
  extract_lets w s1 x
  have placed : s0.Turns s1 := h.quiet (reqAt_kept .of_beq (.refl _ s))
  refine .ite (.ite placed (setStk_turns placed)) ?_
  split
  · exact recompWait_turns placed
  · exact placed

theorem outerRead_turns {a n : Nat} {ctx : Option (Nat × Nat)} {req : Requester} (h : s0.Turns s) : s0.Turns (s.outerRead a n ctx req) := by
  unfold outerRead
  refine .ite ?_ (.ite (answerReq_turns h) (deliverError_turns h))
  split
  · exact deliverError_turns h
  · extract_lets wait
    split
    next t ok done =>
      have checked : s0.Turns t := by
        refine .fst done (.foldl (fun acc x hacc => ?_) h)
        exact Turns.quiet (t := (acc.1.checkLine x.1 x.2.1 ctx).1) hacc (checkLine_kept .of_beq (.refl _ acc.1))
      exact .ite (deliverError_turns checked) (.ite (answerReq_turns checked) (.each (fun _ _ hu => awaitLine_turns hu) (.same checked)))

theorem mergeRead_turns {k l o : Nat} {data : List Byte} {ctx : Option (Nat × Nat)} {req : Requester} {ob : ReadObs} (h : s0.Turns s) :
    s0.Turns (s.mergeRead k l o data ctx req ob).1 := by
  have read := h.quiet (readLine_kept .of_beq (.refl _ s) (p1 := k) (p2 := l) (p3 := ctx) (p4 := ob))
  unfold mergeRead
  split
  next t old done => exact (read.fst done).quiet (storeLine_kept .of_beq (.refl _ t))
  next t done => exact read.fst done
  next t n done => exact recompWait_turns (lineHoldW_turns (read.fst done))

theorem writeParts_turns {o : Nat} {data : List Byte} {ctx : Option (Nat × Nat)} {req : Requester} {obs : List ReadObs} {prod : Bool}
    (h : s0.Turns s) : s0.Turns (s.writeParts o data ctx req obs prod).1 := by
  refine .foldl (fun acc e hacc => ?_) h
  dsimp only
  split
  · exact hacc
  · split
    · exact hacc
    · split
      · exact hacc.quiet (writeLine_kept .of_beq (.refl _ acc.1))
      · exact mergeRead_turns hacc

theorem writeOpen_turns {a : Nat} {data : List Byte} {ctx : Option (Nat × Nat)} {req : Requester} (h : s0.Turns s) :
    s0.Turns (s.writeOpen a data ctx req).1 := by
  unfold writeOpen
  split
  · exact writeParts_turns h
  · split
    · exact h.quiet (writeSram_kept .of_beq (.refl _ s))
    · exact h

theorem outerWrite_turns {a : Nat} {data : List Byte} {ctx : Option (Nat × Nat)} {req : Requester} (h : s0.Turns s) :
    s0.Turns (s.outerWrite a data ctx req) := writeDone_turns (writeOpen_turns h)

/-! ### What a program sends (R205, R377) -/

theorem sendOp_turns {lc id dest cls : Nat} {mk : Nat → Pay} {read : Bool} {dst bytes : Nat} (h : s0.Turns s) :
    s0.Turns (s.sendOp lc id dest cls mk read dst bytes).1 := by
  unfold sendOp
  extract_lets g die tag
  split
  next t n done => exact Turns.same (.fst done (sendE2e_turns h _ _ _ _ _ _ _ _))

theorem giveSig_turns {lc id : Nat} {g : Sig} (h : s0.Turns s) : s0.Turns (s.giveSig lc id g) := by
  unfold giveSig
  extract_lets p
  split
  · split
    next t ok done =>
      have told : s0.Turns (t.modInfl lc id (fun i => { i with sig := none, vis := [(g.addr, 8)] })) :=
        modInfl_turns (.fst done (h.quiet (signalWord_kept .of_beq (.refl _ s))))
      refine .ite told ?_
      split
      · exact progFault_turns told
      · exact told
  · split
    next t tag done => exact modInfl_turns (.fst done (sendOp_turns h))

theorem flushSigsGo_turns {lc : Nat} {fuel : Nat} (h : s0.Turns s) : s0.Turns (flushSigsGo lc fuel s) := by
  induction fuel generalizing s with
  | zero => exact h
  | succ fuel ih =>
    unfold flushSigsGo
    dsimp only
    split
    · exact h
    · refine .ite h ?_
      split
      · split
        · exact ih (giveSig_turns h)
        · exact h
      · exact h

theorem flushSigs_turns {lc : Nat} (h : s0.Turns s) : s0.Turns (s.flushSigs lc) := flushSigsGo_turns h

theorem tapRegion_turns {lc id part : Nat} {g : CtReg} {rows : List (Nat × List Byte)} (h : s0.Turns s) :
    s0.Turns (s.tapRegion lc id part g rows) := by
  unfold tapRegion
  split
  · exact h
  · extract_lets hits pieces
    refine .ite h ?_
    split
    next t tags done =>
      refine .same (.fst done (.foldl (fun acc p hacc => ?_) h))
      split
      next u tag sent => exact .fst sent (sendOp_turns hacc)

theorem tapRows_turns {lc id part : Nat} {rows : List (Nat × List Byte)} (h : s0.Turns s) : s0.Turns (s.tapRows lc id part rows) := by
  have tapped := h.each (l := (tGet s.ct part).regs.filter (fun g => (tGet s.ct part).valid && g.tap))
    (f := fun g u => u.tapRegion lc id part g rows) fun _ _ hu => tapRegion_turns hu
  exact .ite (bump_turns tapped) tapped

theorem tapAck_turns {lc tag : Nat} (h : s0.Turns s) : s0.Turns (s.tapAck lc tag) := by
  refine Turns.each (s := { s with taps := [] }) (fun t u hu => ?_) h.same
  refine .ite hu.same (.ite hu ?_)
  split
  next v g done => exact .same (.fst done (sendOp_turns hu))

end State
end Sys2Proof.Machine
end

section
/-! SUPPORT. The order of release (R229) under the collectives (chapter 5), and what end-to-end flits do for them. -/
namespace Sys2Proof.Machine
-- This option keeps Lean from elaborating the proofs side by side, for which the check's memory limit leaves too few threads.
set_option deprecated.oldSectionVars true

namespace State
variable {s0 s : State}

theorem setColl_turns {c : Coll} (h : s0.Turns s) : s0.Turns (s.setColl c) := h.quiet (setColl_kept .of_beq (.refl _ s))

theorem collPurge_turns (h : s0.Turns s) : s0.Turns s.collPurge := h.quiet (collPurge_kept .of_beq (.refl _ s))

theorem collFault_turns {c : Coll} (h : s0.Turns s) : s0.Turns (s.collFault c) := h.quiet (collFault_kept .of_beq (.refl _ s))

theorem collSend_turns {c : Coll} {dst phase : Nat} {b : List Byte} {lo hi : Nat} (h : s0.Turns s) :
    s0.Turns (s.collSend c dst phase b lo hi) := by
  unfold collSend
  split
  · exact h
  · exact h.each fun _ _ hu => sendE2e_turns hu _ _ _ _ _ _ _ _

theorem collTell_turns {c : Coll} {p : Pay} (h : s0.Turns s) : s0.Turns (s.collTell c p) := by
  refine h.each fun r u hu => ?_
  split
  · exact hu
  · exact sendE2e_turns hu _ _ _ _ _ _ _ _

/-! ### The phases of a collective -/

theorem collPhase1_turns {c : Coll} (h : s0.Turns s) : s0.Turns (s.collPhase1 c).1 := by
  unfold collPhase1
  split
  · exact h.each fun _ _ hu => collSend_turns hu
  · exact h

theorem collPhase3_turns {c : Coll} (h : s0.Turns s) : s0.Turns (s.collPhase3 c).1 := by
  unfold collPhase3
  split
  · split
    · exact h
    · exact h.each fun _ _ hu => collSend_turns hu
  · exact h

theorem collOut_turns {c : Coll} (h : s0.Turns s) : s0.Turns (s.collOut c).1 := by
  unfold collOut
  split
  · exact h
  · refine .foldl (fun acc r hacc => ?_) (acc := (s, c)) h
    obtain ⟨u, d⟩ := acc
    dsimp only
    split
    · exact hacc
    · split
      · exact collSend_turns (Turns.quiet hacc (collCount_kept .of_beq (.refl _ u)))
      · exact hacc

theorem collGrant_turns {fuel : Nat} {c : Coll} (h : s0.Turns s) : s0.Turns (collGrant fuel s c).1 := by
  induction fuel generalizing s c with
  | zero => exact h
  | succ fuel ih =>
    unfold collGrant
    split
    · exact h
    · dsimp only
      refine ih ?_
      split
      · exact sendE2e_turns h _ _ _ _ _ _ _ _
      · exact h

theorem collWrite_turns {c : Coll} {bits scs : List Nat} (h : s0.Turns s) : s0.Turns (s.collWrite c bits scs) := by
  unfold collWrite
  extract_lets ctx rows out
  split
  next t ok done =>
    have written : s0.Turns t := .fst done (h.quiet (writeRows_kept .of_beq (.refl _ s)))
    exact .ite (tapRows_turns (setColl_turns written)) (collPurge_turns (progFault_turns written))

theorem collFinal_turns {c : Coll} (h : s0.Turns s) : s0.Turns (s.collFinal c) := by
  have flags : ∀ fl, s0.Turns (s.collFlags c fl) := fun fl => h.quiet (collFlags_kept .of_beq (.refl _ s))
  unfold collFinal
  extract_lets t
  split
  case h_3 parts _ _ _ =>
    clear_value parts
    cases parts with
    | none => exact h
    | some ps => exact collWrite_turns h
  all_goals
    split
    · exact h
    · split
      extract_lets base
      split
      next bits scs fl rounded =>
        refine .ite (collWrite_turns (flags fl)) ?_
        extract_lets mine
        split
        next u d told =>
          have start : s0.Turns u := by
            refine .fst told ?_
            split
            · exact h
            · exact setColl_turns ((flags fl).each fun _ _ hu => collSend_turns hu)
          extract_lets parts
          clear_value parts
          cases parts with
          | none => exact start
          | some ps => exact collWrite_turns start

theorem collPump_turns {tag : Nat} (h : s0.Turns s) : s0.Turns (s.collPump tag) := by
  unfold collPump
  extract_lets s1
  split
  · exact collPurge_turns h
  next c found =>
    have clean : s0.Turns s1 := collPurge_turns h
    split
    next s2 c2 one =>
    have h2 : s0.Turns s2 := .fst one (collPhase1_turns clean)
    split
    next s3 c3 three =>
    have h3 : s0.Turns s3 := .fst three (collPhase3_turns h2)
    split
    next s4 c4 own =>
    have h4 : s0.Turns s4 := .fst own (h3.quiet (collOwn_kept .of_beq (.refl _ s3)))
    split
    next s5 c5 out =>
    have h5 : s0.Turns s5 := .fst out (collOut_turns h4)
    split
    next s6 c6 grant =>
    extract_lets s7 s8
    have h7 : s0.Turns s7 := (setColl_turns (.fst grant (collGrant_turns h5))).quiet (collWait_kept .of_beq (.refl _ _))
    have h8 : s0.Turns s8 := .ite h7 (collFinal_turns h7)
    exact h8.quiet (collEnd_kept .of_beq (.refl _ s8))

theorem collPumpAll_turns (h : s0.Turns s) : s0.Turns s.collPumpAll := h.each fun _ _ hu => collPump_turns hu

theorem collRestart_turns {c : Coll} (h : s0.Turns s) : s0.Turns (s.collRestart c) := collPump_turns (event_turns (bump_turns (setColl_turns h)))

theorem addAbsent_turns {part : Nat} {l : List Nat} (h : s0.Turns s) : s0.Turns (s.addAbsent part l).1 := h.quiet (addAbsent_kept .of_beq (.refl _ s))

theorem collLose_turns {c : Coll} {missing : List Nat} (h : s0.Turns s) : s0.Turns (s.collLose c missing) := by
  unfold collLose
  split
  · split
    next t absent => exact collFault_turns (.fst absent (addAbsent_turns h))
    next t absent => exact collRestart_turns (collTell_turns (.fst absent (addAbsent_turns h)))
  · exact collFault_turns h

theorem collStore_turns {c : Coll} {head : CollHdr} {data : List Byte} (h : s0.Turns s) : s0.Turns (s.collStore c head data) := by
  unfold collStore
  refine .ite (collPump_turns (setColl_turns h)) (collPump_turns (setColl_turns ?_))
  exact .ite (h.quiet (stagePut_kept .of_beq (.refl _ s))) h

theorem collIn_turns {c : Coll} {head : CollHdr} {data : List Byte} (h : s0.Turns s) : s0.Turns (s.collIn c head data) := by
  unfold collIn
  refine .ite (collFault_turns (collTell_turns h)) (.ite (collStore_turns h) (.ite h ?_))
  split
  next t ok absent =>
    have noted : s0.Turns t := .fst absent (addAbsent_turns h)
    refine .ite (collFault_turns noted) ?_
    extract_lets u
    have again : s0.Turns u := collRestart_turns noted
    split
    · exact .ite (collStore_turns again) again
    · exact again

theorem collGain_turns {c : Coll} {rank n : Nat} (h : s0.Turns s) : s0.Turns (s.collGain c rank n) := collPump_turns (setColl_turns h)

theorem collFlit_turns {part : Nat} {e : CollEarly} (h : s0.Turns s) : s0.Turns (s.collFlit part e) := by
  have clean := collPurge_turns h
  unfold collFlit
  extract_lets s1
  split
  · refine .ite (modPartX_turns clean) ?_
    split
    · exact collIn_turns clean
    · exact collGain_turns clean
  · exact modPartX_turns clean

theorem collData_turns {part : Nat} {head : CollHdr} {data : List Byte} (h : s0.Turns s) : s0.Turns (s.collData part head data) := collFlit_turns h

theorem collCredit_turns {part tag rank n : Nat} (h : s0.Turns s) : s0.Turns (s.collCredit part tag rank n) := collFlit_turns h

theorem collAbort_turns {tag cause : Nat} {absent : List Nat} (h : s0.Turns s) : s0.Turns (s.collAbort tag cause absent) := by
  have clean := collPurge_turns h
  unfold collAbort
  extract_lets s1
  split
  · exact clean
  · split
    · split
      next t done => exact .ite (.fst done (addAbsent_turns clean)) (collRestart_turns (.fst done (addAbsent_turns clean)))
      next t done => exact collFault_turns (.fst done (addAbsent_turns clean))
    · exact collFault_turns clean

/-! ### What answers to requests do -/

theorem tagDone_turns {o : Outst} {status : Nat} (h : s0.Turns s) : s0.Turns (s.tagDone o status) := by
  unfold tagDone
  extract_lets s1
  have done : s0.Turns s1 := modInfl_turns h
  refine .ite (collPumpAll_turns (flushSigs_turns done)) ?_
  split
  · exact .ite (progFault_turns done) (progFault_turns done)
  · exact done

end State
end Sys2Proof.Machine
end

section
/-! SUPPORT. The order of release (R229) under checkpoints (chapter 13): what their messages send and write. -/
namespace Sys2Proof.Machine
-- This option keeps Lean from elaborating the proofs side by side, for which the check's memory limit leaves too few threads.
set_option deprecated.oldSectionVars true

namespace State
variable {s0 s : State}

theorem modCk_turns {p : Nat} {f : CkX → CkX} (h : s0.Turns s) : s0.Turns (s.modCk p f) := h.same (modCk_bundles _ _ _)

theorem engStore_turns {a : Nat} {b : List Byte} (h : s0.Turns s) : s0.Turns (s.engStore a b) := h.quiet (engStore_kept .of_beq (.refl _ s))

theorem engZero_turns {a n : Nat} (h : s0.Turns s) : s0.Turns (s.engZero a n) := h.quiet (engZero_kept .of_beq (.refl _ s))

theorem engWrite_turns {part chip addr : Nat} {data : List Byte} {kind : Nat} (h : s0.Turns s) :
    s0.Turns (s.engWrite part chip addr data kind).1 := by
  unfold engWrite
  refine .foldl (fun acc i hacc => ?_) h
  extract_lets b
  split
  next t n done => exact Turns.same (.fst done (sendE2e_turns hacc _ _ _ _ _ _ _ _))

theorem recInvalid_turns {p slot step : Nat} (h : s0.Turns s) : s0.Turns (s.recInvalid p slot step) := h.quiet (recInvalid_kept .of_beq (.refl _ s))

theorem ckAbort_turns {p cause : Nat} {tell : Bool} (h : s0.Turns s) : s0.Turns (s.ckAbort p cause tell) := by
  unfold ckAbort
  refine .ite ?_ h
  extract_lets t slot step snap s1 s2 s3 s4 s5 s6 s7 s8
  have h1 : s0.Turns s1 := .ite (h.each fun _ _ hu => contSend_turns hu) h
  have h2 : s0.Turns s2 := h1.each fun k u hu => hu.quiet (setNmu_kept .of_beq (.refl _ u))
  have h3 : s0.Turns s3 := .ite (snapAbort_turns h2) h2
  have h4 : s0.Turns s4 := .ite h3 (recInvalid_turns h3)
  exact event_turns (bump_turns (setFld_turns (setFld_turns (modCk_turns (s := s5) h4.same))))

theorem ckSendUnit_turns {p : Nat} {u : CkSend} (h : s0.Turns s) : s0.Turns (s.ckSendUnit p u) := by
  unfold ckSendUnit
  extract_lets t slot
  split
  · exact h
  · exact contSend_turns (.ite h (engWrite_turns h))

theorem ckPump_turns {p : Nat} (h : s0.Turns s) : s0.Turns (s.ckPump p) := by
  unfold ckPump
  extract_lets x r
  refine modCk_turns (.foldl (fun acc u hacc => ?_) h)
  split
  · exact hacc
  · exact ckSendUnit_turns hacc

theorem ckQueue_turns {p : Nat} {units : List Nat} (h : s0.Turns s) : s0.Turns (s.ckQueue p units) := ckPump_turns (modCk_turns h)

theorem commitLanded_turns {p : Nat} (h : s0.Turns s) : s0.Turns (s.commitLanded p) := by
  unfold commitLanded
  extract_lets t slot m rec_ ok s1 s2 s3 s4
  refine .ite ?_ h
  have h4 : s0.Turns s4 := .ite (bump_turns (setFld_turns h)) (event_turns (bump_turns (setFld_turns (setFld_turns (recInvalid_turns h)))))
  split
  · exact .ite (.ite (modCk_turns h4) (modCk_turns (h4.each fun _ _ hu => contSend_turns hu))) (contSend_turns h4)
  · exact h4

theorem ckCommit_turns {p : Nat} (h : s0.Turns s) : s0.Turns (s.ckCommit p) :=
  commitLanded_turns (engStore_turns ((modCk_turns h).each fun _ _ hu => engWrite_turns hu))

theorem ckRecord_turns {p : Nat} (h : s0.Turns s) : s0.Turns (s.ckRecord_ p) := by
  unfold ckRecord_
  extract_lets t x b a s1 r s2
  refine .ite ?_ h
  have told : s0.Turns r.1 := by
    refine .foldl (fun acc c hacc => ?_) (engStore_turns h)
    split
    next u tags done => exact .fst done (engWrite_turns hacc)
  exact .ite (ckCommit_turns (modCk_turns told)) (modCk_turns told)

theorem ckAck_turns {p tag : Nat} (h : s0.Turns s) : s0.Turns (s.ckAck p tag) := by
  unfold ckAck
  extract_lets x l s1
  exact .ite (.ite (ckCommit_turns (modCk_turns h)) (modCk_turns h)) h

theorem stripeRx_turns {p step slot m : Nat} {ds : List Nat} (h : s0.Turns s) : s0.Turns (s.stripeRx p step slot m ds) :=
  .ite (ckRecord_turns (modCk_turns h)) h

theorem ckLocal_turns {p : Nat} (h : s0.Turns s) : s0.Turns (s.ckLocal p) := by
  unfold ckLocal
  extract_lets t x m full slot ds s1 s2
  refine .ite ?_ h
  have h2 : s0.Turns s2 := event_turns (setFld_turns (modCk_turns h))
  refine .ite (stripeRx_turns h2) ?_
  split
  · exact contSend_turns h2
  · exact h2

theorem unitRx_turns {chip p step : Nat} {f : List Nat} (h : s0.Turns s) : s0.Turns (s.unitRx chip p step f) := by
  unfold unitRx
  extract_lets t slot row x here mine
  split
  · exact h
  · extract_lets q s1 key n s2
    have h1 : s0.Turns s1 := .ite h (engStore_turns h)
    refine .ite (.ite (ckPump_turns (modCk_turns h)) h) (.ite (.ite (modCk_turns h) h) (.ite ?_ h))
    exact ckLocal_turns (contSend_turns (.ite (bump_turns (modCk_turns h1)) (modCk_turns h1)))

theorem commitAck_turns {p step slot m status : Nat} (h : s0.Turns s) : s0.Turns (s.commitAck p step slot m status) := by
  unfold commitAck
  refine .ite (.ite ?_ (.ite (ckAbort_turns h) (modCk_turns (h.each fun _ _ hu => contSend_turns hu)))) h
  extract_lets s1
  exact .ite (event_turns (modCk_turns (modCk_turns h))) (modCk_turns h)

theorem ckStart_turns {p step ns : Nat} {digs : List CtReg} (h : s0.Turns s) : s0.Turns (s.ckStart p step ns digs) := by
  have skip : ∀ {u : State} {c}, s0.Turns u → s0.Turns (u.ckSkip p c) := fun {u} _ hu => hu.quiet (ckSkip_kept .of_beq (.refl _ u))
  unfold ckStart
  extract_lets s1 t slot s2 mine own extra s3 s4 m s5 s6 s7 s8 early s9 s10 s11 taken s12 free s13 s14 s15 s16 s17
  have h1 : s0.Turns s1 := modCk_turns h
  refine .ite (skip h1) (.ite (skip h1) ?_)
  have h2 : s0.Turns s2 := recInvalid_turns h1
  refine .ite (skip h2) ?_
  have h4 : s0.Turns s4 := by
    refine (snapUnits_turns h2).each fun o u hu => ?_
    split
    · exact .ite (matConsume_turns hu) hu
    · exact hu
  have h10 : s0.Turns s10 := event_turns (modCk_turns (setFld_turns (setFld_turns (setFld_turns (setFld64_turns (setFld_turns h4))))))
  have h12 : s0.Turns s12 := engZero_turns (h10.each fun e u hu => hu.quiet (ckCopy_kept .of_beq (.refl _ u)))
  have h14 : s0.Turns s14 := (h12.each fun _ _ hu => engZero_turns hu).each fun _ _ hu => engZero_turns hu
  have h17 : s0.Turns s17 := (ckQueue_turns (bumpBy_turns h14)).each fun _ _ hu => .ite (unitRx_turns hu) hu
  exact ckLocal_turns h17

theorem ckCopied_turns {c : NCmd} (h : s0.Turns s) : s0.Turns (s.ckCopied c) :=
  .ite (.ite (ckAbort_turns h) (ckLocal_turns (ckQueue_turns (bumpBy_turns (modCk_turns h))))) h

theorem contPump_turns (h : s0.Turns s) : s0.Turns s.contPump :=
  Turns.each (s := { s with nmuDone := [] }) (fun _ _ hu => ckCopied_turns hu) h.same

theorem ckAbortRx_turns {p step slot cause : Nat} (h : s0.Turns s) : s0.Turns (s.ckAbortRx p step slot cause) := .ite (ckAbort_turns h) h

theorem ckCmd_turns {v : Word} (h : s0.Turns s) : s0.Turns (s.ckCmd v) := by
  have aborted : s0.Turns (if bitAt v.toNat 0 then s.ckAbort s.ckSel 0 true else s) := .ite (ckAbort_turns h) h
  exact .ite (modCk_turns aborted) aborted

end State
end Sys2Proof.Machine
end

section
/-! SUPPORT. The order of release (R229) under lanes, ring pairs, lines and partitions: what software and management messages do with them. -/
namespace Sys2Proof.Machine
-- This option keeps Lean from elaborating the proofs side by side, for which the check's memory limit leaves too few threads.
set_option deprecated.oldSectionVars true

namespace State
variable {s0 s : State}

/-! ### Ports and their pairs (R218, R272) -/

theorem modRing_turns {p r : Nat} {f : RingX → RingX} (h : s0.Turns s) : s0.Turns (s.modRing p r f) := h.quiet (modRing_kept .of_beq (.refl _ s))

theorem setRingF_turns {p r : Nat} {f : Fld} {v : Nat} (h : s0.Turns s) : s0.Turns (s.setRingF p r f v) :=
  h.quiet (setRingF_kept .of_beq (.refl _ s))

theorem steerDrop_turns {p r why : Nat} (h : s0.Turns s) : s0.Turns (s.steerDrop p r why) := h.quiet (steerDrop_kept .of_beq (.refl _ s))

theorem portSync_turns {p : Nat} (h : s0.Turns s) : s0.Turns (s.portSync p) := h.quiet (portSync_kept .of_beq (.refl _ s))

theorem setLaneSt_turns {p n v : Nat} (h : s0.Turns s) : s0.Turns (s.setLaneSt p n v) := h.quiet (setLaneSt_kept .of_beq (.refl _ s))

theorem startTraining_turns {p n : Nat} (h : s0.Turns s) : s0.Turns (s.startTraining p n) := h.quiet (startTraining_kept .of_beq (.refl _ s))

theorem ringTo_turns {p r : Nat} {e : RingEntry} (h : s0.Turns s) : s0.Turns (s.ringTo p r e) := by
  unfold ringTo
  extract_lets goal s1 s2 s3 s4
  have left : s0.Turns s1 := ringLeave_turns h p r goal
  have placed : s0.Turns s2 := .ite (left.quiet (setRingPark_kept .of_beq (.refl _ s1))) (left.quiet (setRingLine_kept .of_beq (.refl _ s1)))
  exact (modRing_turns (setRingF_turns (setRingF_turns placed))).quiet (holdPair_kept .of_beq (.refl _ _))

theorem retrain_turns {p : Nat} (h : s0.Turns s) : s0.Turns (s.retrain p) := by
  unfold retrain
  extract_lets s1
  have pairs : s0.Turns s1 :=
    .ite h (h.each fun _ _ hu => .ite (modRing_turns (setRingF_turns (steerDrop_turns hu))) hu)
  refine pairs.each fun n u hu => ?_
  extract_lets st b u1
  refine .ite (portSync_turns (bundleSync_turns ?_ b)) (.ite (portSync_turns (startTraining_turns hu)) hu)
  exact replayLane_turns (startTraining_turns hu) p n

theorem portDown_turns {p : Nat} (h : s0.Turns s) : s0.Turns (s.portDown p) := by
  unfold portDown
  extract_lets s1 s2
  have down : s0.Turns s1 := h.each fun n u hu =>
    .ite (laneLeave_turns (setLaneSt_turns hu) p n true) (.ite hu (portSync_turns (setLaneSt_turns hu)))
  refine .ite (portSync_turns (down.each fun _ _ hu => setFld_turns hu)) ?_
  exact Turns.each (s := s2) (fun _ _ hu => .ite hu (ringTo_turns hu)) down.same

theorem lnkCtrl_turns {p : Nat} {v : Word} (h : s0.Turns s) : s0.Turns (s.lnkCtrl p v) := by
  unfold lnkCtrl
  extract_lets was s1 now s2
  have set : s0.Turns s1 := setFld_turns h
  have moved : s0.Turns s2 := .ite (set.quiet (portUp_kept .of_beq (.refl _ s1))) (.ite (portDown_turns set) set)
  exact .ite (retrain_turns moved) moved

theorem laneDisable_turns {p n : Nat} (h : s0.Turns s) : s0.Turns (s.laneDisable p n) := by
  unfold laneDisable
  extract_lets was s1
  have off : s0.Turns s1 := event_turns (setFld_turns (setLaneSt_turns h))
  exact .ite h (.ite (laneLeave_turns off p n true) (portSync_turns off))

theorem laneCtrl_turns {p v : Nat} (h : s0.Turns s) : s0.Turns (s.laneCtrl p v) := by
  unfold laneCtrl
  extract_lets s1
  have off : s0.Turns s1 := .ite (laneDisable_turns h) h
  exact .ite (off.quiet (laneClear_kept .of_beq (.refl _ s1))) off

theorem kalReplace_turns {e : Nat} {v : Word} (h : s0.Turns s) : s0.Turns (s.kalReplace e v) :=
  .ite (.ite (ringReplace_turns h _ _) (setErr_turns h)) h

/-! ### Lines (R343–R347) -/

theorem modLine_turns {p l : Nat} {f : LineX → LineX} (h : s0.Turns s) : s0.Turns (s.modLine p l f) := h.quiet (modLine_kept .of_beq (.refl _ s))

theorem partFreeCheck_turns {p : Nat} (h : s0.Turns s) : s0.Turns (s.partFreeCheck p) := h.quiet (partFreeCheck_kept .of_beq (.refl _ s))

theorem lineRefuse_turns {p l cause : Nat} (h : s0.Turns s) : s0.Turns (s.lineRefuse p l cause) := h.quiet (lineRefuse_kept .of_beq (.refl _ s))

theorem lineChanged_turns {p l : Nat} (h : s0.Turns s) : s0.Turns (s.lineChanged p l) :=
  h.each fun _ _ hu => .ite (ringLeave_turns (steerDrop_turns hu) _ _ _) hu

theorem setLine_turns {p l st part : Nat} (h : s0.Turns s) : s0.Turns (s.setLine p l st part) :=
  lineChanged_turns (modLine_turns (setFld_turns (setFld_turns (setFld_turns h))))

theorem lineSend_turns {p l dest op cause tag part : Nat} (h : s0.Turns s) : s0.Turns (s.lineSend p l dest op cause tag part) := sendMg_turns h

theorem lineClaim_turns {p l part chip : Nat} (h : s0.Turns s) : s0.Turns (s.lineClaim p l part chip) :=
  event_turns (bump_turns (setFld_turns (setLine_turns h)))

theorem lineRelease_turns {p l : Nat} (h : s0.Turns s) : s0.Turns (s.lineRelease p l) := by
  unfold lineRelease
  extract_lets part tag s1 s2
  have released : s0.Turns s2 := modLine_turns (setLine_turns (s := s1) h.same)
  refine .ite ?_ h
  split
  · exact lineSend_turns released
  · exact released

theorem lineFreed_turns {p l : Nat} (h : s0.Turns s) : s0.Turns (s.lineFreed p l) := partFreeCheck_turns (event_turns (setLine_turns h))

theorem lineCmdClaim_turns {part : Nat} (h : s0.Turns s) : s0.Turns (s.lineCmdClaim part) := by
  unfold lineCmdClaim
  split
  next p l sel =>
    extract_lets st tag s1 s2
    have asked : s0.Turns s2 := modLine_turns (setLine_turns (s := s1) h.same)
    refine .ite h (.ite (lineRefuse_turns h) (.ite (lineRefuse_turns h) ?_))
    split
    · exact lineSend_turns (setFld_turns asked)
    · exact asked

theorem lineCmdRelease_turns (h : s0.Turns s) : s0.Turns s.lineCmdRelease := by
  unfold lineCmdRelease
  split
  exact .ite (lineRelease_turns h) h

theorem lineCmd_turns {v : Word} (h : s0.Turns s) : s0.Turns (s.lineCmd v) := by
  unfold lineCmd
  split
  · exact lineCmdClaim_turns h
  · exact lineCmdRelease_turns h
  · exact h

theorem lineReq_turns {chip part plane input line tag : Nat} (h : s0.Turns s) : s0.Turns (s.lineReq chip part plane input line tag) := by
  unfold lineReq
  extract_lets cause l
  split
  · exact sendMg_turns h
  · extract_lets old s1
    have claimed : s0.Turns s1 := lineSend_turns (lineClaim_turns h)
    exact .ite (.ite claimed (partFreeCheck_turns claimed)) (lineSend_turns h)

theorem lineAck_turns {chip plane line tag : Nat} (h : s0.Turns s) : s0.Turns (s.lineAck chip plane line tag) := by
  unfold lineAck
  split
  · exact lineClaim_turns h
  · exact h

theorem lineNak_turns {cause plane line tag : Nat} (h : s0.Turns s) : s0.Turns (s.lineNak cause plane line tag) := by
  unfold lineNak
  split
  · exact partFreeCheck_turns (lineRefuse_turns (setLine_turns h))
  · exact h

theorem lineRel_turns {chip part plane line tag : Nat} (h : s0.Turns s) : s0.Turns (s.lineRel chip part plane line tag) := by
  unfold lineRel
  split
  · exact sendMg_turns h
  · exact .ite (lineSend_turns h) (.ite (lineFreed_turns (lineSend_turns h)) (lineSend_turns h))

theorem lineRelAck_turns {plane line tag : Nat} (h : s0.Turns s) : s0.Turns (s.lineRelAck plane line tag) := by
  unfold lineRelAck
  split
  · exact lineFreed_turns h
  · exact h

theorem lineMsg_turns {op cause tag chip part plane input line : Nat} (h : s0.Turns s) :
    s0.Turns (s.lineMsg op cause tag chip part plane input line) := by
  unfold lineMsg
  split
  · exact lineReq_turns h
  · exact lineAck_turns h
  · exact lineNak_turns h
  · exact lineRel_turns h
  · exact lineRelAck_turns h
  · exact h.quiet (lineRelWait_kept .of_beq (.refl _ s))
  · exact h

/-! ### Partitions (R337–R342) -/

theorem yoyoSend_turns {parts : List Nat} {mark ack : Bool} {markPart : Nat} (h : s0.Turns s) : s0.Turns (s.yoyoSend parts mark ack markPart) :=
  h.each fun _ _ hu => sendBundle_turns hu _ _

theorem barrierMark_turns {p : Nat} (h : s0.Turns s) : s0.Turns (s.barrierMark p) := modPartX_turns (yoyoSend_turns h)

theorem rcCancel_turns {p : Nat} (h : s0.Turns s) : s0.Turns (s.rcCancel p) := h.quiet (rcCancel_kept .of_beq (.refl _ s))

theorem barrierStart_turns {p : Nat} (h : s0.Turns s) : s0.Turns (s.barrierStart p) := by
  unfold barrierStart
  extract_lets s1 s2 cs own s3 s4 s5 s6 s7
  have torn : s0.Turns s3 := (setFld_turns (setFld_turns h)).each fun c u hu => hu.quiet (ctxTear_kept .of_beq (.refl _ u))
  have cut : s0.Turns s4 := .ite (snapAbort_turns torn) torn
  have discarded : s0.Turns s5 := cut.quiet (epDiscard_kept .of_beq (.refl _ s4))
  have cancelled : s0.Turns s7 := modPartX_turns (rcCancel_turns (ckAbort_turns discarded))
  exact .ite (barrierMark_turns cancelled) cancelled

theorem partReject_turns {p cause : Nat} (h : s0.Turns s) : s0.Turns (s.partReject p cause) := h.quiet (partReject_kept .of_beq (.refl _ s))

theorem partRetire_turns (h : s0.Turns s) : s0.Turns s.partRetire := by
  unfold partRetire
  extract_lets p st
  exact .ite (partReject_turns h) (.ite (barrierStart_turns (h.quiet (setPart_kept .of_beq (.refl _ s))))
    (.ite (.ite h (barrierStart_turns h)) (partReject_turns h)))

theorem partFree_turns (h : s0.Turns s) : s0.Turns s.partFree :=
  .ite (partReject_turns h) (partFreeCheck_turns (h.each fun _ _ hu => lineRelease_turns hu))

theorem partCmd_turns {v : Word} (h : s0.Turns s) : s0.Turns (s.partCmd v) := by
  unfold partCmd
  split
  · exact h
  · exact h.quiet (partClaim_kept .of_beq (.refl _ s))
  · exact h.quiet (partArm_kept .of_beq (.refl _ s))
  · exact h.quiet (partDrain_kept .of_beq (.refl _ s))
  · exact partRetire_turns h
  · exact partFree_turns h
  · exact partReject_turns h

end State
end Sys2Proof.Machine
end

section
/-! SUPPORT. The order of release (R229) under mirrors, recovery and digests (chapters 13 and 14): what their messages and commands send. -/
namespace Sys2Proof.Machine
-- This option keeps Lean from elaborating the proofs side by side, for which the check's memory limit leaves too few threads.
set_option deprecated.oldSectionVars true

namespace State
variable {s0 s : State}

theorem modMir_turns {p r : Nat} {f : MirX → MirX} (h : s0.Turns s) : s0.Turns (s.modMir p r f) := h.same (modMir_bundles _ _ _ _)

theorem modDg_turns {p i : Nat} {f : DgX → DgX} (h : s0.Turns s) : s0.Turns (s.modDg p i f) := h.same (modDg_bundles _ _ _ _)

theorem setRc_turns {p : Nat} {x : RcX} (h : s0.Turns s) : s0.Turns (s.setRc p x) := h.same (setRc_bundles _ _ _)

theorem rcReject_turns {p op cause : Nat} (h : s0.Turns s) : s0.Turns (s.rcReject p op cause) := h.quiet (rcReject_kept .of_beq (.refl _ s))

theorem rcDone_turns {p op : Nat} (h : s0.Turns s) : s0.Turns (s.rcDone p op) := h.quiet (rcDone_kept .of_beq (.refl _ s))

theorem rcFail_turns {p cause : Nat} (h : s0.Turns s) : s0.Turns (s.rcFail p cause) := h.quiet (rcFail_kept .of_beq (.refl _ s))

theorem rcStart_turns {p op : Nat} {x : RcX} (h : s0.Turns s) : s0.Turns (s.rcStart p op x) := h.quiet (rcStart_kept .of_beq (.refl _ s))

theorem suspect_turns (h : s0.Turns s) : s0.Turns s.suspect := h.quiet (suspect_kept .of_beq (.refl _ s))

theorem verdictShown_turns {p i outcome maj : Nat} (h : s0.Turns s) : s0.Turns (s.verdictShown p i outcome maj) :=
  h.quiet (verdictShown_kept .of_beq (.refl _ s))

theorem dgSig_turns {p i kind chip maj own agree dis missing : Nat} (h : s0.Turns s) :
    s0.Turns (s.dgSig p i kind chip maj own agree dis missing) := h.quiet (dgSig_kept .of_beq (.refl _ s))

theorem dgOut_turns {p i kind r maj got agree dis missing : Nat} (h : s0.Turns s) :
    s0.Turns (s.dgOut p i kind r maj got agree dis missing) := h.quiet (dgOut_kept .of_beq (.refl _ s))

theorem addVote_turns {p i : Nat} {v : Vote} (h : s0.Turns s) : s0.Turns (s.addVote p i v) := h.quiet (addVote_kept .of_beq (.refl _ s))

theorem fencePeer_turns {chip p : Nat} (h : s0.Turns s) : s0.Turns (s.fencePeer chip p) := h.quiet (fencePeer_kept .of_beq (.refl _ s))

/-! ### Mirrors (R378–R383) -/

theorem helloRx_turns {chip p idx addr units rank fd : Nat} (h : s0.Turns s) : s0.Turns (s.helloRx chip p idx addr units rank fd) := by
  unfold helloRx
  extract_lets t hit status s1
  refine .ite h (contSend_turns ?_)
  clear_value hit
  cases hit with
  | none => exact h
  | some r =>
    have known := modMir_turns (p := p) (r := r) (f := fun x => { x with peerIdx := idx }) h
    exact .ite (known.quiet (mirRefuse_kept .of_beq (.refl _ _))) (.ite (known.quiet (mirInStep_kept .of_beq (.refl _ _))) known)

theorem mirFence_turns {p step : Nat} (h : s0.Turns s) : s0.Turns (s.mirFence p step) := by
  refine h.each fun e u hu => ?_
  split
  next g r =>
    extract_lets st
    refine .ite ?_ hu
    split
    · exact hu
    · exact .ite (engWrite_turns (modMir_turns hu)) (.ite hu ((contSend_turns (modMir_turns hu)).quiet (mirCompare_kept .of_beq (.refl _ _))))

/-! ### Loss, halt, pull and rebuild (R387–R399) -/

theorem loss_turns {p r : Nat} (h : s0.Turns s) : s0.Turns (s.loss p r) := by
  unfold loss
  extract_lets s1 mine s2 s3 s4 t s5 s6
  have noted : s0.Turns s2 := by
    refine (modPartX_turns h).each fun t u hu => ?_
    split
    · exact .ite (collLose_turns hu) hu
    · exact hu
  have absent : s0.Turns s3 := .ite (addAbsent_turns noted) noted
  have broken : s0.Turns s4 := absent.each fun e u hu => .ite (hu.quiet (setMir_kept .of_beq (.refl _ u))) hu
  have told : s0.Turns s6 := event_turns (.ite (ckAbort_turns broken) broken)
  exact .ite h (.ite (rcFail_turns told) told)

theorem lossCmd_turns {p r : Nat} (h : s0.Turns s) : s0.Turns (s.lossCmd p r) := .ite (rcDone_turns (loss_turns h)) (rcReject_turns h)

theorem haltPart_turns {p : Nat} (h : s0.Turns s) : s0.Turns (s.haltPart p) := by
  unfold haltPart
  extract_lets s1 s2 s3
  have held : s0.Turns s3 := (ckAbort_turns (setFld_turns h)).each fun i u hu => .ite (Turns.same (s := u.setFld .dg (Dg.DG_STATUS.sub 4 4) 0 (p + 4096 * i)) (setFld_turns hu)) hu
  exact .ite (modPartX_turns held) (held.quiet (haltEnd_kept .of_beq (.refl _ s3)))

theorem haltCmd_turns {p : Nat} (h : s0.Turns s) : s0.Turns (s.haltCmd p) := .ite (rcDone_turns (haltPart_turns h)) (rcReject_turns h)

theorem pullStart_turns {p reg rank src : Nat} {x : RcX} (h : s0.Turns s) : s0.Turns (s.pullStart p reg rank src x) := by
  unfold pullStart
  extract_lets g
  split
  · exact rcReject_turns h
  · exact contSend_turns (rcStart_turns h)

theorem pullCmd_turns {p reg rank : Nat} (h : s0.Turns s) : s0.Turns (s.pullCmd p reg rank) :=
  .ite (rcReject_turns h) (.ite (rcReject_turns h) (pullStart_turns h))

theorem engWriteVia_turns {part chip addr : Nat} {data : List Byte} {b : Nat} (h : s0.Turns s) :
    s0.Turns (s.engWriteVia part chip addr data b) := by
  refine h.each fun i u hu => ?_
  extract_lets ph
  split
  next v n done =>
    extract_lets head v1
    exact Turns.same (s := v1) (enqueue_turns (.fst done (hu.quiet (takeNctr_kept .of_beq (.refl _ u)))) b _)

theorem pullReqRx_turns {chip p src n tgt : Nat} (h : s0.Turns s) : s0.Turns (s.pullReqRx chip p src n tgt) := by
  unfold pullReqRx
  extract_lets bs s1
  exact .ite (contSend_turns (h.each fun _ _ hu => .ite (engWrite_turns hu) (engWriteVia_turns hu))) (contSend_turns h)

theorem engRead_turns {part chip addr n dst : Nat} (h : s0.Turns s) : s0.Turns (s.engRead part chip addr n dst) := by
  refine h.each fun i u hu => ?_
  extract_lets tag b
  split
  next v m done => exact .same (.fst done (sendE2e_turns hu _ _ _ _ _ _ _ _))

theorem rebuildNext_turns {p : Nat} (h : s0.Turns s) : s0.Turns (s.rebuildNext p) := by
  unfold rebuildNext
  extract_lets t x slot live n
  split
  · extract_lets s1
    have read : s0.Turns s1 := by
      refine h.each fun m u hu => ?_
      split
      · exact engRead_turns hu
      · exact engZero_turns hu
    exact setFld_turns (setRc_turns read)
  · split
    · exact engRead_turns (setRc_turns h)
    · exact rcFail_turns h

theorem rcRead_turns {p : Nat} (h : s0.Turns s) : s0.Turns (s.rcRead p) := by
  unfold rcRead
  extract_lets x
  refine .ite h (.ite ?_ h)
  split
  · exact rebuildNext_turns (setRc_turns (h.quiet (rebuildRow_kept .of_beq (.refl _ s))))
  · exact h

theorem rebuildCmd_turns {p rank : Nat} (h : s0.Turns s) : s0.Turns (s.rebuildCmd p rank) :=
  .ite (rcReject_turns h) (.ite (rcReject_turns h) (rebuildNext_turns (rcStart_turns h)))

theorem rcCmd_turns {v : Word} (h : s0.Turns s) : s0.Turns (s.rcCmd v) := by
  unfold rcCmd
  extract_lets p reg rank
  split
  · exact lossCmd_turns h
  · exact haltCmd_turns h
  · exact h.quiet (rollback_kept .of_beq (.refl _ s))
  · exact pullCmd_turns h
  · exact h.quiet (loadSlot_kept .of_beq (.refl _ s))
  · exact rebuildCmd_turns h
  · exact h.quiet (clearAbsent_kept .of_beq (.refl _ s))
  · exact rcReject_turns h

/-! ### Votes over digests (R400–R407) -/

theorem holdEnd_turns {p i : Nat} (h : s0.Turns s) : s0.Turns (s.holdEnd p i) := collPumpAll_turns (setFld_turns (modDg_turns h))

theorem expelled_turns {p i kind maj agree dis missing : Nat} (h : s0.Turns s) : s0.Turns (s.expelled p i kind maj agree dis missing) := by
  unfold expelled
  extract_lets own s1 s2 s3 s4 s5
  have told : s0.Turns s3 := (haltPart_turns (suspect_turns h)).each fun _ _ hu => contSend_turns hu
  have signed : s0.Turns s4 := dgSig_turns told
  exact holdEnd_turns (.ite signed (event_turns (bump_turns signed)))

theorem expelOthers_turns {p : Nat} {ranks : List Nat} (h : s0.Turns s) : s0.Turns (s.expelOthers p ranks) := by
  refine h.each fun r u hu => loss_turns ?_
  split
  · exact fencePeer_turns hu
  · exact hu

theorem sendVerdict_turns {p i outcome maj agree dis missing : Nat} {ranks : List Nat} (h : s0.Turns s) :
    s0.Turns (s.sendVerdict p i outcome maj agree dis missing ranks) := by
  refine h.each fun r u hu => ?_
  split
  · exact .ite hu (contSend_turns hu)
  · exact hu

theorem recheckEnd_turns {p i outcome maj : Nat} (h : s0.Turns s) : s0.Turns (s.recheckEnd p i outcome maj) := by
  unfold recheckEnd
  extract_lets x s1 s2 s3
  have shown : s0.Turns s2 := verdictShown_turns (modDg_turns h)
  exact .ite (holdEnd_turns (event_turns (.ite (suspect_turns shown) shown))) (expelled_turns (event_turns shown))

theorem recheckDecide_turns {p i : Nat} (h : s0.Turns s) : s0.Turns (s.recheckDecide p i) := by
  unfold recheckDecide
  extract_lets x l ok maj s1 s2
  have told : s0.Turns s1 := .ite h (h.each fun _ _ hu => dgOut_turns hu)
  exact recheckEnd_turns (sendVerdict_turns told)

theorem recheckVoted_turns {p i : Nat} (h : s0.Turns s) : s0.Turns (s.recheckVoted p i) := .ite (recheckDecide_turns h) h

theorem recheckVote_turns {p i d : Nat} (h : s0.Turns s) : s0.Turns (s.recheckVote p i d) := by
  unfold recheckVote
  extract_lets x me s1
  have noted : s0.Turns s1 := modDg_turns h
  refine .ite (recheckVoted_turns (addVote_turns noted)) ?_
  split
  · exact contSend_turns noted
  · exact noted

theorem recheckNext_turns {p i : Nat} {l : List Nat} (h : s0.Turns s) : s0.Turns (s.recheckNext p i l) := by
  unfold recheckNext
  split
  · exact pullStart_turns h
  · exact recheckVote_turns h

theorem recheckStart_turns {p i : Nat} (h : s0.Turns s) : s0.Turns (s.recheckStart p i) := by
  unfold recheckStart
  extract_lets s1 t mine
  have started : s0.Turns s1 := modDg_turns (bump_turns h)
  exact .ite (recheckVote_turns started) (recheckNext_turns started)

theorem pullDone_turns {p status d : Nat} (h : s0.Turns s) : s0.Turns (s.pullDone p status d) := by
  unfold pullDone
  extract_lets x g s1 ok s2
  have counted : s0.Turns s1 := setFld_turns h
  have ended : s0.Turns s2 := .ite (counted.quiet (rcAccept_kept .of_beq (.refl _ s1))) (rcFail_turns counted)
  exact .ite (.ite ended (.ite (recheckNext_turns ended) (recheckVote_turns ended))) h

theorem verdict_turns {p i outcome maj agree dis missing : Nat} {ranks : List Nat} (h : s0.Turns s) :
    s0.Turns (s.verdict p i outcome maj agree dis missing ranks) := by
  unfold verdict
  extract_lets k x own s1 s2 s3 s4 named selfOut
  have shown : s0.Turns s3 := setFld_turns (setFld_turns (verdictShown_turns (modDg_turns h)))
  have counted : s0.Turns s4 := .ite shown (bump_turns shown)
  have out : s0.Turns (selfOut s4) := event_turns (expelled_turns counted)
  split
  · exact .ite out (holdEnd_turns counted)
  · exact .ite (expelled_turns counted) (.ite out (holdEnd_turns (expelOthers_turns counted)))
  · exact .ite (recheckStart_turns counted) (holdEnd_turns counted)
  · exact event_turns counted
  · exact holdEnd_turns counted

theorem dgDecide_turns {p i : Nat} (h : s0.Turns s) : s0.Turns (s.dgDecide p i) := by
  unfold dgDecide
  extract_lets x mem l n missing s1 s2
  split
  next d c voted =>
    extract_lets diff outcome maj ranks s3 s4 s5 s6 s7
    have missed : s0.Turns s2 := (modDg_turns h).each fun _ _ hu => event_turns hu
    have noted : s0.Turns s3 := .ite missed (event_turns missed)
    have outs : s0.Turns s4 := .ite (noted.each fun _ _ hu => dgOut_turns hu) noted
    have signed : s0.Turns s5 := .ite (dgSig_turns outs) outs
    have sent : s0.Turns s6 := sendVerdict_turns signed
    exact verdict_turns (.ite (modDg_turns sent) sent)

theorem dgVoted_turns {p i : Nat} (h : s0.Turns s) : s0.Turns (s.dgVoted p i) := .ite (dgDecide_turns h) h

theorem voteRx_turns {p step : Nat} {key : Nat × Nat × Nat} {rank d : Nat} {again : Bool} (h : s0.Turns s) :
    s0.Turns (s.voteRx p step key rank d again) := by
  unfold voteRx
  split
  · exact h
  · exact .ite (recheckVoted_turns (addVote_turns h)) (dgVoted_turns (addVote_turns h))

theorem verdictRx_turns {p step i outcome maj agree dis missing : Nat} {ranks : List Nat} (h : s0.Turns s) :
    s0.Turns (s.verdictRx p step i outcome maj agree dis missing ranks) := by
  have shown := verdictShown_turns (p := p) (i := i) (outcome := outcome) (maj := maj) h
  exact .ite h (.ite (.ite (recheckEnd_turns h) (.ite (expelOthers_turns shown) shown)) (.ite h (verdict_turns h)))

theorem contMsg_turns {src op part step : Nat} {f : List Nat} (h : s0.Turns s) : s0.Turns (s.contMsg src op part step f) := by
  unfold contMsg
  extract_lets a
  split
  · exact helloRx_turns h
  · exact h.quiet (replyRx_kept .of_beq (.refl _ s))
  · exact h.quiet (mirDigestRx_kept .of_beq (.refl _ s))
  · exact unitRx_turns h
  · exact stripeRx_turns h
  · exact commitAck_turns h
  · exact ckAbortRx_turns h
  · exact pullReqRx_turns h
  · exact pullDone_turns h
  · exact voteRx_turns h
  · exact verdictRx_turns h
  · exact fencePeer_turns h
  · exact h

end State
end Sys2Proof.Machine
end

section
/-! SUPPORT. The order of release (R229) under resets and writes of registers, which a management message can carry (R513–R517). -/
namespace Sys2Proof.Machine
-- This option keeps Lean from elaborating the proofs side by side, for which the check's memory limit leaves too few threads.
set_option deprecated.oldSectionVars true

namespace State
variable {s0 s : State}

/-! ### Fences and resets (chapters 12 and 15) -/

theorem bindActions_turns (h : s0.Turns s) : s0.Turns s.bindActions := h.quiet (bindActions_kept .of_beq (.refl _ s))

theorem fenceRest_turns {p ns : Nat} (h : s0.Turns s) : s0.Turns (s.fenceRest p ns) := by
  unfold fenceRest
  extract_lets step t
  split
  next u digs done =>
    extract_lets u1
    have fenced : s0.Turns u := by
      refine .fst done ?_
      split
      · exact (mirFence_turns h).quiet (dgFence_kept .of_beq (.refl _ _))
      · exact h
    have started : s0.Turns u1 := .ite (ckStart_turns fenced) fenced
    exact bindActions_turns (started.quiet (stepActions_kept .of_beq (fenceRelease_kept .of_beq (.refl _ u1))))

theorem fenceCopied_turns {p cl ns : Nat} (h : s0.Turns s) : s0.Turns (s.fenceCopied p cl ns) := by
  unfold fenceCopied
  extract_lets s1
  have noted : s0.Turns s1 := h.same
  exact .ite (fenceRest_turns noted) (bindActions_turns noted)

theorem rstBinds_turns {r : RstRun} (h : s0.Turns s) : s0.Turns (s.rstBinds r) := by
  refine h.each fun cl u hu => ?_
  extract_lets x hit u1 u2
  have moved : s0.Turns u1 := hu.quiet (setBindArm_kept .of_beq (setBindX_kept .of_beq (.refl _ u)))
  have copied : s0.Turns u2 := by
    refine .ite ?_ hu
    split
    · exact fenceCopied_turns moved
    · exact moved
  exact copied.each fun p v hv => .ite (hv.quiet (swapAbandon_kept .of_beq (.refl _ v))) hv

theorem startReset_turns {r : RstRun} (h : s0.Turns s) : s0.Turns (s.startReset r) := by
  unfold startReset
  extract_lets r1 s1 s2 s3 small r2 s4 s5 uncore s6
  refine .ite h ?_
  split
  · extract_lets s1
    exact Turns.quiet (s := s1) h.same (recLevel_kept .of_beq (.refl _ s1))
  · have bound : s0.Turns s3 := (rstBinds_turns (setFld_turns (event_turns h))).quiet (rstPrograms_kept .of_beq (.refl _ _))
    clear_value s3
    have aborted : s0.Turns s5 := Turns.each (s := s4) (fun cl u hu => hu.quiet (ftAbort_kept .of_beq (.refl _ u))) bound.same
    have down : s0.Turns s6 := .ite aborted.same aborted
    exact (bindActions_turns (collPurge_turns down)).quiet (rstSync_kept .of_beq (.refl _ _))

theorem rstCmd_turns {level upath : Nat} (h : s0.Turns s) : s0.Turns (s.rstCmd level upath) := .ite (setErr_turns h) (startReset_turns h)

theorem rstGo_turns {v : Word} (h : s0.Turns s) : s0.Turns (s.rstGo v) := .ite (rstCmd_turns h) h

theorem unitReset_turns {pg : Page} {v : Word} (h : s0.Turns s) : s0.Turns (s.unitReset pg v) := by
  unfold unitReset
  refine .ite ?_ h
  split
  · exact rstCmd_turns h
  · exact h

/-! ### Restarts of the firmware processors (chapter 16) -/

theorem modProc_turns {k : Nat} {f : ProcX → ProcX} (h : s0.Turns s) : s0.Turns (s.modProc k f) := h.same (modProc_bundles _ _ _)

theorem nmuReset_turns {k : Nat} (h : s0.Turns s) : s0.Turns (s.nmuReset k) := by
  unfold nmuReset
  extract_lets x gone s1 s2
  refine contPump_turns (s := s2) ?_
  exact (h.quiet (setNmu_kept .of_beq (.refl _ s))).each fun c u hu => .ite hu.same (.ite (hu.quiet (nmcallFault_kept .of_beq (.refl _ u))) hu)

theorem procAbandon_turns {k : Nat} (h : s0.Turns s) : s0.Turns (s.procAbandon k) := by
  unfold procAbandon
  extract_lets s1
  have calibrated : s0.Turns s1 := h.each fun e u hu => .ite (hu.quiet (calRestart_kept .of_beq (.refl _ u))) hu
  refine .ite (h.quiet (mboxFlush_kept .of_beq (.refl _ s))) (.ite ?_ (.ite ?_ (.ite (.ite h (nmuReset_turns h)) h)))
  · exact calibrated.each fun e u hu => .ite (hu.quiet (ringMove_kept .of_beq (modRing_kept .of_beq (.refl _ u)))) hu
  · exact h.each fun c u hu => hu.quiet (ftAbort_kept .of_beq (.refl _ u))

theorem procRestart_turns {k : Nat} (h : s0.Turns s) : s0.Turns (s.procRestart k) :=
  modProc_turns (bump_turns ((procAbandon_turns h).quiet (setProcSt_kept .of_beq (.refl _ _))))

theorem ccRestart_turns {i : Nat} (h : s0.Turns s) : s0.Turns (s.ccRestart i) := by
  unfold ccRestart
  extract_lets k s1 s2 s3
  have restarted : s0.Turns s3 := setFld_turns (modProc_turns (procRestart_turns (h.quiet (setCcSt_kept .of_beq (.refl _ s)))))
  exact .ite restarted (restarted.quiet (procImg_kept .of_beq (.refl _ s3)))

theorem fpRestart_turns {k : Nat} (h : s0.Turns s) : s0.Turns (s.fpRestart k) := by
  unfold fpRestart
  extract_lets s1
  have cleared : s0.Turns s1 := modProc_turns h
  exact .ite (setErr_turns h) (.ite ((event_turns (ccRestart_turns cleared)).quiet (ccSync_kept .of_beq (.refl _ _)))
    (.ite (modProc_turns cleared) (procRestart_turns cleared)))

theorem fpCmd_turns {v : Word} (h : s0.Turns s) : s0.Turns (s.fpCmd v) := .ite (fpRestart_turns h) h

/-! ### Registers (R15, R480) -/

theorem jobField_turns {part : Nat} {pg : Page} {off v : Nat} (h : s0.Turns s) : s0.Turns (s.jobField part pg off v) :=
  h.quiet (jobField_kept .of_beq (.refl _ s))

theorem plainWrite_turns {pg : Page} {off v : Nat} (h : s0.Turns s) : s0.Turns (s.plainWrite pg off v) := h.quiet (plainWrite_kept .of_beq (.refl _ s))

/-- A write of a register that acts on no bundle. -/
theorem regPut_turns {pg : Page} {off v : Nat} (h : s0.Turns s) : s0.Turns (s.regPut pg off v) := by
  unfold regPut
  extract_lets w plain n
  have written : s0.Turns plain := plainWrite_turns h
  clear_value plain
  refine .ite (written.quiet (irqUpdate_kept .of_beq (.refl _ _))) (.ite (written.quiet (irqUpdate_kept .of_beq (.refl _ _)))
    (.ite (unitReset_turns h) (.ite (h.quiet (ctrClr_kept .of_beq (.refl _ s))) ?_)))
  split
  · exact .ite (h.quiet (chipWrite_kept .of_beq (.refl _ s))) (.ite (h.quiet (modCmd_kept .of_beq (.refl _ s))) written)
  · exact .ite (h.quiet (bar2Sel_kept .of_beq (.refl _ s))) written
  · exact .ite (h.quiet (cplCons_kept .of_beq (.refl _ s))) written
  · exact .ite (h.quiet (cplCons_kept .of_beq (.refl _ s))) written
  · exact .ite (.ite (h.quiet (restep_kept .of_beq (.refl _ s))) h) (.ite (h.quiet (timCfg_kept .of_beq (.refl _ s))) written)
  · exact .ite (written.quiet (bmca_kept .of_beq (.refl _ _))) written
  · refine .ite ?_ written
    split
    next t u free => exact (Turns.fst free (h.quiet (freeTime_kept .of_beq (.refl _ s)))).quiet (trgCtrl_kept .of_beq (.refl _ t))
  · exact .ite (h.quiet (ccCmd_kept .of_beq (.refl _ s))) written
  · exact .ite (fpCmd_turns h) written
  · exact .ite (h.quiet (recCtrl_kept .of_beq (.refl _ s))) written
  · exact .ite (written.quiet (faultWindow_kept .of_beq (.refl _ _))) written
  · exact .ite (rstGo_turns h) written
  · exact .ite (partCmd_turns h) (.ite (jobField_turns h) written)
  · exact .ite (h.quiet (ctxCmd_kept .of_beq (.refl _ s))) written
  · exact .ite (lineCmd_turns h) written
  · exact .ite (h.quiet (epCtrl_kept .of_beq (.refl _ s))) written
  · exact .ite (jobField_turns h) written
  · exact .ite (jobField_turns h) written
  · exact .ite (ckCmd_turns h) (.ite (h.quiet (stoCmd_kept .of_beq (.refl _ s))) (.ite (h.quiet (stoProd_kept .of_beq (.refl _ s)))
      (.ite (h.quiet (stoCons_kept .of_beq (.refl _ s))) written)))
  · exact .ite (rcCmd_turns h) written
  · exact .ite (suspect_turns h) written
  · exact .ite (h.quiet (ftCmd_kept .of_beq (.refl _ s))) written
  · exact .ite (h.quiet (sigAck_kept .of_beq (.refl _ s))) written
  · exact .ite (h.quiet (pwrCap_kept .of_beq (.refl _ s))) written
  · exact .ite (h.quiet (bindCtrl_kept .of_beq (.refl _ s))) written
  · refine .ite (.ite written h) (.ite (h.quiet (mapoutCtrl_kept .of_beq (.refl _ s)))
      (.ite (.ite (h.quiet (rcrCtrl_kept .of_beq (.refl _ s))) ?_) written))
    split
    · exact setErr_turns (h.quiet (sealBlock_kept .of_beq (.refl _ s)))
    · exact setErr_turns h
    · exact written
  · exact .ite (h.quiet (scrubCtrl_kept .of_beq (.refl _ s))) written
  · exact .ite (h.quiet (nmuPost_kept .of_beq (.refl _ s))) (.ite (jobField_turns h) written)
  · exact .ite (setErr_turns h) written
  · exact .ite (lnkCtrl_turns h) written
  · exact .ite (laneCtrl_turns h) written
  · exact .ite (plainWrite_turns h) written
  · exact .ite (.ite written (jobField_turns h)) (.ite (.ite (h.quiet (keyErase_kept .of_beq (.refl _ s))) h) written)
  · exact .ite h.same (.ite (h.quiet (frtWrite_kept .of_beq (.refl _ s))) (.ite (h.quiet (rnkSlotWrite_kept .of_beq (.refl _ s)))
      (.ite (h.quiet (rnkDataWrite_kept .of_beq (.refl _ s))) (.ite (h.quiet (peerWrite_kept .of_beq (.refl _ s))) written))))
  · exact .ite (h.quiet (lasCmd_kept .of_beq (.refl _ s))) written
  · exact .ite (h.quiet (calCfg_kept .of_beq (.refl _ s))) (.ite (h.quiet (tblWrite_kept .of_beq (.refl _ s)))
      (.ite (h.quiet (ringTest_kept .of_beq (.refl _ s))) written))
  · exact .ite (h.quiet (monStart_kept .of_beq (.refl _ s))) written
  · exact .ite (h.quiet (kalMode_kept .of_beq (.refl _ s))) (.ite (kalReplace_turns h) written)
  · exact .ite (h.quiet (planCtrl_kept .of_beq (.refl _ s))) (.ite (h.quiet (planWrite_kept .of_beq (.refl _ s))) written)
  · exact written

theorem regWrite_turns {m : Master} {a v : Nat} (h : s0.Turns s) : s0.Turns (s.regWrite m a v).1 := by
  have page := fun pg => quietMask_page pg
  unfold regWrite
  split
  · exact h.same (setReg_bundles _ _ _)
  split
  · exact h
  split
  · exact bump_turns h
  next pg found =>
    extract_lets off s1
    split
    · exact h
    split
    · exact .ite (h.quiet (semAcquire_kept .of_beq (.refl _ s) (page pg))) (h.quiet (semRelease_kept .of_beq (.refl _ s) (page pg)))
    split
    · exact h
    split
    · exact h.quiet (semDrop_kept .of_beq (.refl _ s))
    have noted : s0.Turns s1 := h.same
    split
    · exact setErr_turns noted
    · exact noted
    · exact regPut_turns noted

theorem regWrites_turns {m : Master} {a : Nat} {b : List Byte} {k : Nat} (h : s0.Turns s) : s0.Turns (s.regWrites m a b k).1 := by
  induction k generalizing s a b with
  | zero => exact h
  | succ k ih => exact ih (regWrite_turns h)

/-! ### Messages of management (R513–R517) -/

theorem mgExec_turns {who : Requester} {req : MgReq} (h : s0.Turns s) : s0.Turns (s.mgExec who req) := by
  have blocked : ∀ n, s0.Turns (s.sealBlock n) := fun n => h.quiet (sealBlock_kept .of_beq (.refl _ s))
  unfold mgExec
  split
  · refine .ite (answerReq_turns h) (.ite ?_ (.ite (answerReq_turns h) (.ite (answerReq_turns (blocked 2)) (outerRead_turns h))))
    split
    next t b read => exact answerReq_turns (.fst read (h.quiet (regReads_kept .of_beq (.refl _ s))))
  · extract_lets n s1
    have pushed : s0.Turns s1 := h.each fun i u hu => hu.quiet (bar4Write_kept .of_beq (.refl _ u))
    refine .ite (answerReq_turns h) (.ite ?_ (.ite (answerReq_turns pushed) (.ite (answerReq_turns (blocked 2)) (outerWrite_turns h))))
    split
    next t d done => exact answerReq_turns (.fst done (regWrites_turns h))
  · exact answerReq_turns h
  · exact answerReq_turns h

theorem relayed_turns {src : Nat} {w : List Byte} (h : s0.Turns s) : s0.Turns (s.relayed src w) := by
  unfold relayed
  extract_lets head b
  refine .ite (h.quiet (relayBack_kept .of_beq (.refl _ s))) ?_
  split
  · exact mgExec_turns h
  · exact h

theorem pieceRx_turns {src k n : Nat} {data : List Byte} (h : s0.Turns s) : s0.Turns (s.pieceRx src k n data) := by
  unfold pieceRx
  extract_lets got w mg keep
  have kept : ∀ b, s0.Turns (keep b) := fun b => h.same
  exact .ite (kept []) (.ite (kept w) (relayed_turns (kept [])))

theorem mgmtMsg_turns {src : Nat} {m : MgMsg} (h : s0.Turns s) : s0.Turns (s.mgmtMsg src m) := by
  unfold mgmtMsg
  split
  · exact lineMsg_turns h
  · exact contMsg_turns h
  · exact pieceRx_turns h

/-! ### Responses, acknowledgements and resumptions -/

theorem rspRx_turns {src part tag status : Nat} {data : List Byte} (h : s0.Turns s) : s0.Turns (s.rspRx src part tag status data) := by
  unfold rspRx
  split
  · exact h
  · extract_lets s1 g s2
    have taken : s0.Turns s1 := h.same
    have stored : s0.Turns s2 := .ite (taken.quiet (writeMem_kept .of_beq (.refl _ s1))) taken
    exact .ite (.ite (rcRead_turns (engStore_turns taken)) (rcFail_turns taken.same)) (.ite (tagDone_turns stored) taken)

theorem ackRx_turns {src part tag status : Nat} (h : s0.Turns s) : s0.Turns (s.ackRx src part tag status) := by
  unfold ackRx
  split
  · exact h
  · extract_lets s1
    have taken : s0.Turns s1 := h.same
    exact .ite (.ite (ckAck_turns taken) taken) (tapAck_turns (tagDone_turns taken))

theorem resumeRx_turns {src q : Nat} (h : s0.Turns s) : s0.Turns (s.resumeRx src q) := by
  unfold resumeRx
  split
  · exact h
  next b found =>
    extract_lets x s1 up again
    have told : s0.Turns s1 := .ite h (sendE2e_turns h _ _ _ _ _ _ _ _)
    refine .ite h ?_
    split
    next wait kept parted =>
      extract_lets s2 s3 s4 s5
      have cleared : s0.Turns s2 := setBundle_turns told rfl rfl (.inr rfl)
      have counted : s0.Turns s3 := .ite cleared (setFld_turns cleared)
      have routed : s0.Turns s4 := counted.each fun _ _ hu => routeOut_turns hu _ none
      have synced : s0.Turns s5 := (bump_turns routed).quiet (bndSeqSync_kept .of_beq (.refl _ _))
      exact (event_turns synced).quiet (replayOcc_kept .of_beq (.refl _ _))

theorem deliver_turns {head : FlitHdr} {p : Pay} (h : s0.Turns s) : s0.Turns (s.deliver head p) := by
  unfold deliver
  extract_lets ctx req r
  split
  · exact .ite (commitLanded_turns (outerWrite_turns h)) (answerReq_turns h)
  · exact .ite (outerRead_turns h) (answerReq_turns h)
  · exact rspRx_turns h
  · refine .ite (.ite (outerWrite_turns h) ?_) (answerReq_turns h)
    split
    next t ok done => exact writeDone_turns (.fst done (h.quiet (signalWord_kept .of_beq (.refl _ s))))
  · exact ackRx_turns h
  · exact collData_turns h
  · exact collCredit_turns h
  · exact .ite (collAbort_turns h) h
  · exact mgmtMsg_turns h
  · exact resumeRx_turns h
  · exact h

end State
end Sys2Proof.Machine
end

section
/-! The flits of end-to-end traffic, once they are accepted (Table 8.3, R241, R536). -/
namespace Sys2Proof.Machine
-- This option keeps Lean from elaborating the proofs side by side, for which the check's memory limit leaves too few threads.
set_option deprecated.oldSectionVars true

theorem Kept.wider {M N : Nat} {s t : State} (h : Kept M s t) (within : (M &&& N == M) = true := by decide +kernel) : Kept N s t :=
  ⟨fun p out => h.agree p (Bool.eq_false_iff.mpr fun bit => by simp [(Msub.of_beq within).has bit] at out), h.inv, h.grows⟩

/-! ### The fences of the peer table (R243) -/

/-- A write at a key that does not count leaves what is said of some entry of a map. -/
theorem any_smIns {α : Type} {f : Nat × α → Bool} {k : Nat} (none : ∀ v, f (k, v) = false) (m : SMap α) (v : α) : (smIns m k v).any f = m.any f := by
  induction m with
  | nil => simp [smIns, none]
  | cons e t ih =>
    obtain ⟨a, w⟩ := e
    unfold smIns
    split
    · simp [none]
    · split
      next same => simp [← same, show ∀ v, f (a, v) = false from same ▸ none]
      next => simp [ih]

theorem any_smDel {α : Type} {f : Nat × α → Bool} {k : Nat} (none : ∀ v, f (k, v) = false) (m : SMap α) : (smDel m k).any f = m.any f := by
  rw [smDel, List.any_filter]
  congr 1
  funext ⟨a, w⟩
  by_cases same : a = k
  · simp [same, none]
  · simp [same]

theorem any_smSet {α : Type} [DecidableEq α] {d : Nat → α} {f : Nat × α → Bool} {k : Nat} (none : ∀ v, f (k, v) = false) (m : SMap α) (v : α) :
    (smSet d m k v).any f = m.any f := by
  unfold smSet
  split
  · exact any_smDel none m
  · exact any_smIns none m v

namespace State

/-- A write of a field of another register fences nothing. -/
theorem fenced_setFld (s : State) (pg : Page) {f : Fld} (v b : Nat) (other : f.off ≠ 0x134) (inside : f.off < 4096) (chip part : Nat) :
    (s.setFld pg f v b).fenced chip part = s.fenced chip part := by
  have out : regAddr (regKey pg f.off b) ≠ Page.rt.base + 0x134 := by
    have := Page.base_mod pg
    have := Page.kind_lt pg
    simp only [regAddr, regKey, bankSize, show Page.rt.base = 0x03200000 from rfl]
    omega
  exact any_smSet (fun w => by simp [out]) s.regs _

theorem fenced_congr {s t : State} (h : t.regs = s.regs) (chip part : Nat) : t.fenced chip part = s.fenced chip part := by rw [fenced, h, fenced]

/-! ### The state in which an accepted flit takes its effect -/

/-- A flit whose tag matches is counted among those decrypted. -/
def opened (s : State) (p : Nat) : State :=
  ({ s with ports := tSet s.ports p { tGet s.ports p with dec := (per1024 (tGet s.ports p).dec).1 } }).bumpBy (.cry p) Cry.DEC_RX
    (per1024 (tGet s.ports p).dec).2

/-- The link has booked the flit, and its credit is owed. -/
def taken (s : State) (p n : Nat) (f : Flit) : State := ((s.booked p n f).owing (s.rxBundle p n) f).opened p

theorem fenced_opened (s : State) (p chip part : Nat) : (s.opened p).fenced chip part = s.fenced chip part :=
  (fenced_setFld _ _ _ _ (by decide) (by decide) chip part).trans (fenced_congr rfl chip part)

theorem fenced_heard (s : State) (b chip part : Nat) : (s.heard b).fenced chip part = s.fenced chip part :=
  (fenced_setFld _ _ _ _ (by decide) (by decide) chip part).trans (fenced_setFld _ _ _ _ (by decide) (by decide) chip part)

theorem fenced_counted (s : State) (p chip part : Nat) : (s.counted p).fenced chip part = s.fenced chip part :=
  (fenced_setFld _ _ _ _ (by decide) (by decide) chip part).trans (fenced_congr rfl chip part)

theorem fenced_booked (s : State) (p n : Nat) (f : Flit) (chip part : Nat) : (s.booked p n f).fenced chip part = s.fenced chip part := by
  rw [booked, turned, fenced_congr (setBundle_regs _ _ _), heldBack, fenced_congr (setBundle_regs _ _ _), fenced_counted, fenced_heard]

theorem fenced_taken (s : State) (p n : Nat) (f : Flit) (chip part : Nat) : (s.taken p n f).fenced chip part = s.fenced chip part :=
  (fenced_opened _ _ _ _).trans ((fenced_congr (setBundle_regs _ _ _) chip part).trans (s.fenced_booked p n f chip part))

theorem opened_kept (s : State) (p : Nat) : Kept (partsMask [.ports, pk (.cry 0)]) s (s.opened p) :=
  bumpBy_kept .of_beq (Kept.upd_ports .of_beq (.refl _ s)) (by simp only [Page.kind]; decide +kernel)

/-- The parts that the link books a flit in. -/
def takenParts : Nat := partsMask [.bundles, .ports, pk .bnd, pk (.lnk 0), pk (.cry 0)]

theorem taken_kept (s : State) (p n : Nat) (f : Flit) : Kept takenParts s (s.taken p n f) :=
  .trans (.trans (s.booked_kept p n f).wider (owing_kept _ _ f).wider) (opened_kept _ p).wider

theorem taken_booked (s : State) (p n : Nat) (f : Flit) : s.Booked (s.taken p n f) p n := by
  have opened := opened_kept ((s.booked p n f).owing (s.rxBundle p n) f) p
  refine (s.owing_booked p n f f).later opened.wider ?_ ?_ (opened.fld64 .bnd _ _)
  · rw [taken, opened.bundle]
  · rw [taken, opened.bundle]

/-- What settles the order of release after the flit is booked settles it after it is taken. -/
theorem taken_turns (s : State) (p n : Nat) (f : Flit) : (s.booked p n f).Turns (s.taken p n f) :=
  (owing_turns (.refl _) _ f).same (opened_kept _ p).bundles

theorem accept_delivers {s : State} {p : Nat} {f : Flit} (tag : s.tagOk f = true) (src : (s.opened p).fenced f.h.src f.h.part = false)
    (dst : (s.opened p).fenced f.h.dest f.h.part = false) (part : (s.opened p).partDrop f.h f.p = none) :
    s.accept p f = (s.opened p).deliver f.h f.p := by
  have run : s.accept p f = if (s.opened p).fenced f.h.src f.h.part || (s.opened p).fenced f.h.dest f.h.part then (s.opened p).bump .rt Rt.FENCE_DROP_CNT
      else match (s.opened p).partDrop f.h f.p with
        | some 1 => ((s.opened p).bump .part Par.DROP_PART).dropNote 1
        | some 2 => ((s.opened p).bump .part Par.DROP_CTX).dropNote 2
        | some c => ((s.opened p).bump .part Par.DROP_GEN).dropNote c
        | none => (s.opened p).deliver f.h f.p := if_neg (by simp [tag])
  rw [run, src, dst, part]
  rfl

end State
end Sys2Proof.Machine
end

section
/-! The effect of an accepted flit rests on what the link does not book, and is all that the flit does (R229, R241). -/
namespace Sys2Proof.Machine
-- This option keeps Lean from elaborating the proofs side by side, for which the check's memory limit leaves too few threads.
set_option deprecated.oldSectionVars true

/-! ### What a flit's acceptance and its rights are read from -/

section Reads
variable {M : Nat} {s t : State}

theorem Kept.partDrop (h : Kept M s t) (head : FlitHdr) (pay : Pay) (part : M.testBit 16 = false := by decide +kernel)
    (ctx : M.testBit 17 = false := by decide +kernel) : t.partDrop head pay = s.partDrop head pay := by
  have parts : t.partState head.part = s.partState head.part := h.fld .part _ _ part
  have ctxs : ∀ f, t.fld .ctx f head.ctx = s.fld .ctx f head.ctx := fun f => h.fld .ctx f _ ctx
  simp only [State.partDrop, State.ctxState, State.ctxPart, State.ctxGen, parts, ctxs] <;> rfl

theorem Kept.here (h : Kept M s t) (a : Nat) (glb : M.testBit Page.glb.kind = false := by decide +kernel) : t.here a = s.here a := by
  simp only [State.here, h.chip glb]

theorem Kept.rights (h : Kept M s t) (p a : Nat) (mc : M.testBit 34 = false := by decide +kernel) (mat : M.testBit 37 = false := by decide +kernel)
    (seals : M.testBit 87 = false := by decide +kernel) : t.rights p a = s.rights p a := by
  have sealed : t.seals = s.seals := h.agree .seals seals
  have side : ∀ k l, t.inSide k l = s.inSide k l := fun k l => by simp only [State.inSide, h.fld (.mat k) _ _ mat]
  simp only [State.rights, State.sealedByOther, sealed, h.edMap mc, side]

theorem Kept.flitRights (h : Kept M s t) (head : FlitHdr) (a n : Nat) (mc : M.testBit 34 = false := by decide +kernel)
    (mat : M.testBit 37 = false := by decide +kernel) (seals : M.testBit 87 = false := by decide +kernel) :
    t.flitRights head a n = s.flitRights head a n := by
  simp only [State.flitRights, State.rightsRange, h.rights _ _ mc mat seals]

end Reads

namespace State

/-! ### The flit takes its effect -/

theorem Accepts.rxFlit {s : State} {p n : Nat} {o : RxObs} {h : FlitHdr} {pay : Pay} {arr : Nat} (a : s.Accepts p n o h pay) (e2e : pay.e2e = true) :
    s.rxFlit p n o { h := h, p := pay } arr = (s.taken p n (Flit.seen { h := h, p := pay } o)).deliver h pay := by
  obtain ⟨turn, here, tag, src, dst, part⟩ := a
  let f : Flit := { h := h, p := pay }
  have seq : f.p.sequenced = true := by
    revert e2e
    cases pay <;> simp [f, Pay.e2e, Pay.sequenced]
  have plain : ∀ c, f.p = .laneCtrl c → c.op < 3 ∨ f.h.dest ≠ s.chip := fun c is => by simp [show pay = _ from is, Pay.e2e] at e2e
  have booked := s.booked_kept p n (f.seen o)
  have owed : Kept (partsMask [.bundles, .ports, pk .bnd, pk (.lnk 0)]) s ((s.booked p n (f.seen o)).owing (s.rxBundle p n) (f.seen o)) :=
    booked.wider.trans (owing_kept _ _ _).wider
  have accepted : ((s.booked p n (f.seen o)).owing (s.rxBundle p n) (f.seen o)).accept p (f.seen o) = (s.taken p n (f.seen o)).deliver h pay :=
    accept_delivers ((owed.tagOk _).trans tag) ((fenced_taken s p n (f.seen o) _ _).trans src) ((fenced_taken s p n (f.seen o) _ _).trans dst)
      (((s.taken_kept p n (f.seen o)).partDrop _ _).trans part)
  have order : (s.booked p n (f.seen o)).Turns ((s.taken p n (f.seen o)).deliver h pay) := deliver_turns (s.taken_turns p n (f.seen o))
  rw [turn.rxFlit (f := f) seq plain, released_here (f := f.seen o) e2e (here.trans booked.chip.symm), accepted, order.settled (f := f) turn]

end State

end Sys2Proof.Machine
end

section
/-! What each type of end-to-end flit does once it is accepted (Table 8.3, R225, R226, R536). -/
namespace Sys2Proof.Machine
-- This option keeps Lean from elaborating the proofs side by side, for which the check's memory limit leaves too few threads.
set_option deprecated.oldSectionVars true

namespace State

/-- An accepted flit takes its effect on a state that differs only in what the link books. -/
theorem Accepts.takes {s : State} {p n : Nat} {o : RxObs} {h : FlitHdr} {pay : Pay} {c : Instr} {arr : Nat} (a : s.Accepts p n o h pay)
    (e2e : pay.e2e = true) (cmd : flitOf c = some (p, n, o, { h := h, p := pay }, arr)) :
    ∃ u, exec c s = .next (u.deliver h pay) ∧ s.Booked u p n ∧ Kept takenParts s u :=
  ⟨_, (exec_of_flitOf cmd).trans (congrArg _ (a.rxFlit e2e)), s.taken_booked p n _, s.taken_kept p n _⟩

/-! ### Writes, reads and signals (R225, R226) -/

section Outer
variable (s : State) (h : FlitHdr) (a : Nat)

/-- The requester that a flit stands for. -/
def asker (h : FlitHdr) (tag : Nat) : Requester := .peer h.src h.part h.ctx h.gen tag

theorem deliver_wr (data : List Byte) : s.deliver h (.wr a data) = if s.flitRights h (s.here a) data.length
    then (s.outerWrite (s.here a) data (some (h.ctx, h.gen)) (asker h (h.nctr % 2 ^ 32))).commitLanded h.part
    else s.answerReq (asker h (h.nctr % 2 ^ 32)) true 2 [] := rfl

theorem deliver_rdReq (n tag : Nat) : s.deliver h (.rdReq a n tag) = if s.flitRights h (s.here a) n
    then s.outerRead (s.here a) n (some (h.ctx, h.gen)) (asker h tag) else s.answerReq (asker h tag) false 2 [] := rfl

theorem deliver_sig (v : Nat) (write : Bool) : s.deliver h (.sig a v write) = if sigAligned (s.here a) && s.flitRights h (s.here a) 8
    then if write then s.outerWrite (s.here a) (bytesLE 8 v) (some (h.ctx, h.gen)) (asker h (h.nctr % 2 ^ 32))
      else match s.signalWord (s.here a) v false (some (h.ctx, h.gen)) (asker h (h.nctr % 2 ^ 32)) with
        | (x, ok) => x.writeDone (asker h (h.nctr % 2 ^ 32)) ok
    else s.answerReq (asker h (h.nctr % 2 ^ 32)) true 2 [] := rfl

theorem deliver_sig_add {a v : Nat} {x : State} {done : Bool} (ok : (sigAligned (s.here a) && s.flitRights h (s.here a) 8) = true)
    (add : s.signalWord (s.here a) v false (some (h.ctx, h.gen)) (asker h (h.nctr % 2 ^ 32)) = (x, done)) :
    s.deliver h (.sig a v false) = x.writeDone (asker h (h.nctr % 2 ^ 32)) done := by
  rw [deliver_sig, if_pos ok, if_neg Bool.false_ne_true, add]

theorem deliver_sig_write {a v : Nat} (ok : (sigAligned (s.here a) && s.flitRights h (s.here a) 8) = true) :
    s.deliver h (.sig a v true) = s.outerWrite (s.here a) (bytesLE 8 v) (some (h.ctx, h.gen)) (asker h (h.nctr % 2 ^ 32)) := by
  rw [deliver_sig, if_pos ok, if_pos rfl]

theorem deliver_sig_refused {a v : Nat} {w : Bool} (refused : (sigAligned (s.here a) && s.flitRights h (s.here a) 8) = false) :
    s.deliver h (.sig a v w) = s.answerReq (asker h (h.nctr % 2 ^ 32)) true 2 [] := by
  rw [deliver_sig, if_neg (Bool.eq_false_iff.mp refused)]

end Outer

theorem taken_stackUp {s u : State} (taken : Kept takenParts s u) (k : Nat) : u.stackUp k = s.stackUp k := by
  have power : u.mod_ = s.mod_ := taken.agree .module rfl
  simp only [stackUp, power, taken.flag (.mc k), taken.fld .rst]

/-- A flit that is refused changes no memory. -/
theorem answerReq_taken_mem {s u : State} (taken : Kept takenParts s u) (r : Requester) (wr : Bool) (status : Nat) (data : List Byte) :
    (u.answerReq r wr status data).mem = s.mem :=
  ((answerReq_kept (Msub.refl _) (.refl _ u)).mem).trans taken.mem

/-- A partition none of whose checkpoints is STORING has no landing of COMMITTED to compare. -/
theorem commitLanded_idle {s : State} {p : Nat} (idle : s.ckSt p ≠ 2) : s.commitLanded p = s := by
  unfold commitLanded
  rw [if_neg (by simp [idle])]

theorem gaSpace_here (s : State) (a : Nat) : gaSpace (s.here a) = gaSpace a := by
  unfold gaSpace here
  omega

theorem gaOff_here (s : State) (a : Nat) : gaOff (s.here a) = gaOff a := by
  unfold gaOff here
  omega

/-- A whole line that a write from outside addresses is stored (R173). -/
theorem outerWrite_line {s : State} {a k l : Nat} {data : List Byte} {ctx : Option (Nat × Nat)} {req : Requester} (whole : data.length = 64)
    (start : gaOff a % 64 = 0) (space : gaSpace a = 0) (here : s.edMap (gaOff a) = some (k, l)) (up : s.stackUp k = true)
    (decided : (s.stk k).holds l = false) (saved : s.pendingAt k l = false) : (s.outerWrite a data ctx req).bytes (edKey k l) 64 = data := by
  have first : l % 64 = 0 := by have := (State.edMap_line here).1; omega
  have line : l / 64 * 64 = l := by omega
  have run : s.outerWrite a data ctx req = (s.storeLine k l data (s.rcOf k l ctx)).writeDone req true := by
    have write : s.writeOpen a data ctx req = (s.storeLine k l data (s.rcOf k l ctx), true) := by
      rw [writeOpen, if_pos space, State.writeParts_one [] (by omega) (by omega) here up decided saved, if_pos whole, State.mergeLine_whole first whole]
    rw [outerWrite, write]
  rw [run, State.bytes_congr (State.writeDone_stored _ _ _).1, ← whole]
  refine State.bytes_eq fun i hi => ?_
  rw [State.storeLine_byte, line, if_pos (by omega), Nat.add_sub_cancel_left]

/-! ### Responses and acknowledgements -/

section Answers
variable {s : State} {src part tag status : Nat} {data : List Byte} {w : Outst}

theorem rspRx_unasked (missing : ∀ w ∈ s.outst, w.read = true → w.chip = src → w.part = part → w.tag ≠ tag) : s.rspRx src part tag status data = s := by
  have lost : s.outst.find? (fun w => w.read && w.chip == src && w.part == part && w.tag == tag) = none :=
    List.find?_eq_none.mpr fun w hw => by simpa [and_assoc] using missing w hw
  rw [rspRx, lost]

theorem rspRx_good (asked : s.outst.find? (fun w => w.read && w.chip == src && w.part == part && w.tag == tag) = some w) (core : w.lc < 64)
    (waits : ∃ i ∈ (s.seq w.lc).infl, i.id = w.infl) : s.rspRx src part tag 0 data =
      ((({ s with outst := s.outst.erase w }).writeMem w.dst (data.take w.bytes)
        (some ((s.prog (s.seq w.lc).slot).ctx, (s.prog (s.seq w.lc).slot).gen))).1).tagDone w 0 := by
  have waiting : (s.seq w.lc).infl.any (fun i => i.id == w.infl) = true := by simpa using waits
  unfold rspRx
  simp only [asked]
  exact (if_neg (by omega)).trans (if_pos waiting)

theorem ackRx_unasked (missing : ∀ w ∈ s.outst, w.read = false → w.chip = src → w.part = part → w.tag ≠ tag) : s.ackRx src part tag status = s := by
  have lost : s.outst.find? (fun w => !w.read && w.chip == src && w.part == part && w.tag == tag) = none :=
    List.find?_eq_none.mpr fun w hw => by simpa [and_assoc] using missing w hw
  rw [ackRx, lost]

theorem ackRx_asked (asked : s.outst.find? (fun w => !w.read && w.chip == src && w.part == part && w.tag == tag) = some w) (core : w.lc < 64) :
    s.ackRx src part tag status = (({ s with outst := s.outst.erase w }).tagDone w status).tapAck w.lc tag := by
  rw [ackRx, asked]
  exact if_neg (by omega)

end Answers

/-! ### Aborts -/

theorem deliver_collAbort (s : State) (h : FlitHdr) (tag cause : Nat) (absent : List Nat) : s.deliver h (.collAbort tag cause absent) =
    if (s.coll tag).any (fun x => x.part == h.part) then s.collAbort tag cause absent else s := rfl

theorem taken_coll {s u : State} (taken : Kept takenParts s u) (tag : Nat) : u.coll tag = s.coll tag := by
  have colls : u.colls = s.colls := taken.agree .colls rfl
  simp only [coll, colls]

end State

end Sys2Proof.Machine
end

section
/-! The answer to a resumption on a bundle that is down (R236 step 2). -/
namespace Sys2Proof.Machine
-- This option keeps Lean from elaborating the proofs side by side, for which the check's memory limit leaves too few threads.
set_option deprecated.oldSectionVars true

/-- Of the bundles' records only the flits that wait differ. -/
def State.OnlyWait (s t : State) : Prop := ∀ b, ∃ w, t.bundle b = { s.bundle b with wait := w }

/-- Every part but the bundles' page. -/
def unbundledMask : Nat := 2 ^ 160 - 1 - 2 ^ 43

theorem Kept.bndUp {M : Nat} {s t : State} (h : Kept M s t) (b : Nat) (hm : M.testBit 43 = false := by decide +kernel) : t.bndUp b = s.bndUp b := by
  simp only [State.bndUp, h.bndSt b hm]

namespace State
variable {s t u : State}

theorem OnlyWait.of_same (same : t.bundles = s.bundles) : s.OnlyWait t := fun b => ⟨(s.bundle b).wait, bundle_congr same b⟩

theorem OnlyWait.trans (a : s.OnlyWait t) (b : t.OnlyWait u) : s.OnlyWait u := fun c => by
  obtain ⟨w, first⟩ := a c
  obtain ⟨w', second⟩ := b c
  exact ⟨w', by rw [second, first]⟩

theorem OnlyWait.unacked (h : s.OnlyWait t) (b : Nat) : (t.bundle b).unacked = (s.bundle b).unacked := by
  obtain ⟨w, same⟩ := h b
  rw [same]

theorem OnlyWait.resumeSent (h : s.OnlyWait t) (b : Nat) : (t.bundle b).resumeSent = (s.bundle b).resumeSent := by
  obtain ⟨w, same⟩ := h b
  rw [same]

theorem enqueue_onlyWait (s : State) (b : Nat) (f : Flit) : s.OnlyWait (s.enqueue b f) := fun c => by
  by_cases same : c = b
  · subst same
    exact ⟨_, bundle_setBundle_same _ _ _⟩
  · exact ⟨_, bundle_setBundle_ne _ _ same⟩

theorem routeOut_onlyWait (s : State) (f : Flit) (inB : Option Nat) : s.OnlyWait (s.routeOut f inB) := by
  have quiet : ∀ {v : State}, Kept quietMask s v → s.OnlyWait v := fun kept => .of_same kept.bundles
  unfold routeOut
  split
  · exact quiet (noroute__kept .of_beq (.refl _ s))
  · extract_lets part
    split
    · exact quiet (dropNote_kept .of_beq (bump_kept .of_beq (.refl _ s) (quietMask_page _)))
    split
    · exact quiet (dropNote_kept .of_beq (bump_kept .of_beq (.refl _ s) (quietMask_page _)))
    split
    · exact quiet (event_kept .of_beq (bump_kept .of_beq (.refl _ s) (quietMask_page _)))
    · exact .trans (quiet (.ite (bump_kept .of_beq (.refl _ s) (quietMask_page _)) (.refl _ s))) (enqueue_onlyWait _ _ _)

/-- The first bundle to a chip that has a record. -/
theorem find_resumed {s : State} {src e : Nat} (small : e < 64) (held : (s.bundle e).unacked ≠ []) (peer : s.bndPeer e = src)
    (first : ∀ x < e, s.bndPeer x ≠ src) :
    (List.range 64).find? (fun b => s.bndPeer b == src && (s.bundle b != default || s.bndUp b)) = some e := by
  have known : s.bundle e ≠ default := fun is => held (is ▸ rfl)
  rw [List.find?_range_eq_some]
  exact ⟨by simp [peer, known], by simpa using small, fun x lower => by simp [first x lower]⟩

theorem resumeCnt_bump (s : State) (b : Nat) :
    (s.bump .bnd Bnd.BND_RESUME_CNT b).fld .bnd Bnd.BND_RESUME_CNT b = min (s.fld .bnd Bnd.BND_RESUME_CNT b + 1) (2 ^ 32 - 1) :=
  s.fld_bumpBy_bank .bnd 0x124 1 b

theorem resumeCnt_bndSeqSync (s : State) (b : Nat) : (s.bndSeqSync b).fld .bnd Bnd.BND_RESUME_CNT b = s.fld .bnd Bnd.BND_RESUME_CNT b :=
  fld_setFld_inside _ _ _ _ _ _ _ _ (by decide) (by decide) (by decide)

/-- A bundle has forgotten what it held, has sent its own RESUME, and has counted the resumption. -/
structure Resumed (s t : State) (e : Nat) : Prop where
  unacked : (t.bundle e).unacked = []
  sent : (t.bundle e).resumeSent = true
  count : t.fld .bnd Bnd.BND_RESUME_CNT e = min (s.fld .bnd Bnd.BND_RESUME_CNT e + 1) (2 ^ 32 - 1)

theorem resumeRx_down {s : State} {src q e : Nat}
    (found : (List.range 64).find? (fun b => s.bndPeer b == src && (s.bundle b != default || s.bndUp b)) = some e)
    (down : s.bndUp e = false) (unsent : (s.bundle e).resumeSent = false) : s.Resumed (s.resumeRx src q) e := by
  unfold resumeRx
  split
  next missing =>
    rw [found] at missing
    nomatch missing
  next b first =>
    obtain rfl : e = b := Option.some.inj (found.symm.trans first)
    extract_lets x s1 up again
    have answered : Kept unbundledMask s s1 := .ite (.refl _ s) (sendE2e_kept .of_beq (.refl _ s))
    have isDown : up = false := (answered.bndUp e).trans down
    rw [if_neg (by simp [x, unsent])]
    split
    next wait kept parted =>
      extract_lets s2 s3 s4 s5
      have cleared : (s2.bundle e).unacked = [] ∧ (s2.bundle e).resumeSent = true := by
        simp only [s2, bundle_setBundle_same, isDown, Bool.not_false, and_self]
      have numbered : s3.bundles = s2.bundles := by
        simp only [s3]
        split
        · rfl
        · exact setFld_bundles _ _ _ _ _
      have routed : s3.OnlyWait s4 :=
        each_keeps (I := s3.OnlyWait) (fun f _ u hu => hu.trans (routeOut_onlyWait u _ none)) (.of_same rfl)
      have synced : s5.bundles = s4.bundles := ((bndSeqSync_kept .of_beq (bump_kept .of_beq (.refl quietMask s4) (quietMask_page _)))).bundles
      have noted : Kept unbundledMask s5 ((s5.event 0x3116 0 (s5.bndItems e)).replayOcc) := replayOcc_kept .of_beq (event_kept .of_beq (.refl _ _))
      have quiet : Kept quietMask s5 ((s5.event 0x3116 0 (s5.bndItems e)).replayOcc) := replayOcc_kept .of_beq (event_kept .of_beq (.refl _ _))
      have waits : s2.OnlyWait ((s5.event 0x3116 0 (s5.bndItems e)).replayOcc) :=
        .trans (.of_same numbered) (routed.trans (.of_same (quiet.bundles.trans synced)))
      refine ⟨(waits.unacked e).trans cleared.1, (waits.resumeSent e).trans cleared.2, ?_⟩
      have before : s4.fld .bnd Bnd.BND_RESUME_CNT e = s.fld .bnd Bnd.BND_RESUME_CNT e := by
        have out : Kept unbundledMask s3 s4 := .each (.refl _ s3) fun f u hu => routeOut_kept .of_beq hu
        have kept : s3.fld .bnd Bnd.BND_RESUME_CNT e = s2.fld .bnd Bnd.BND_RESUME_CNT e := by
          simp only [s3]
          split
          · rfl
          · exact fld_setFld_inside _ _ _ _ _ _ _ _ (by decide) (by decide) (by decide)
        rw [out.fld .bnd, kept, setBundle_fld, answered.fld .bnd]
      rw [noted.fld .bnd]
      simp only [s5]
      rw [resumeCnt_bndSeqSync, resumeCnt_bump, before]

/-! ### The bundles at the flit's effect -/

theorem taken_bnd (s : State) (p n : Nat) (f : Flit) (g : Fld) (c : Nat) (low : g.off ≠ 0x118) (high : g.off ≠ 0x11C) (inside : g.off < 4096) :
    (s.taken p n f).fld .bnd g c = s.fld .bnd g c := by
  rw [taken, (opened_kept _ p).fld .bnd, (owing_kept _ _ f).fld .bnd, s.booked_bnd p n f g c low high inside]

theorem taken_bndPeer (s : State) (p n : Nat) (f : Flit) (c : Nat) : (s.taken p n f).bndPeer c = s.bndPeer c :=
  s.taken_bnd p n f _ c (by decide) (by decide) (by decide)

theorem taken_bndUp (s : State) (p n : Nat) (f : Flit) (c : Nat) : (s.taken p n f).bndUp c = s.bndUp c := by
  simp only [bndUp, bndSt, s.taken_bnd p n f (Bnd.BND_STATUS.sub 1 0) c (by decide) (by decide) (by decide)]

theorem taken_bundle_ne (s : State) {p n c : Nat} (f : Flit) (h : c ≠ s.rxBundle p n) : (s.taken p n f).bundle c = s.bundle c := by
  rw [taken, (opened_kept _ p).bundle, owing, bundle_setBundle_ne _ _ h, bundle_booked_ne s f h]

end State

end Sys2Proof.Machine
end

section
/-! The obligation about the flits of end-to-end traffic (Table 8.3, R241, R536). -/
namespace Sys2Proof.Machine
-- This option keeps Lean from elaborating the proofs side by side, for which the check's memory limit leaves too few threads.
set_option deprecated.oldSectionVars true

/-- Settles O19: a flit takes its effect on a state that differs only in what the link books, of which no type of flit reads more than the
bundles. -/
theorem acceptedFlitsTakeEffect : Obligations.AcceptedFlitsTakeEffect := by
  unfold Obligations.AcceptedFlitsTakeEffect
  refine ⟨?wr, ?line, ?read, ?data, ?signal, ?ack, ?collData, ?credit, ?abort, ?stale, ?mgmt, ?resume, ?resumed⟩
  case wr =>
    intro s p n o h a data accepts r
    obtain ⟨u, run, booked, taken⟩ := accepts.takes rfl (c := .flitWr p n o h a data) rfl
    rw [State.deliver_wr, taken.here, taken.flitRights] at run
    refine ⟨_, u, run, booked, fun allowed => if_pos allowed, fun barred => ?_⟩
    rw [if_neg (by simp [barred])]
    exact ⟨rfl, State.answerReq_taken_mem taken _ _ _ _⟩
  case line =>
    intro s p n o h a data k l accepts allowed whole start space here up decided saved idle
    obtain ⟨u, run, booked, taken⟩ := accepts.takes rfl (c := .flitWr p n o h a data) rfl
    rw [State.deliver_wr, taken.here, taken.flitRights, if_pos allowed] at run
    have unheld : u.pendingAt k l = false := by
      have mats : u.mats = s.mats := taken.agree .mats rfl
      simpa [State.pendingAt, State.unitSt, State.mat, mats] using saved
    have stored := State.outerWrite_line (s := u) (a := s.here a) (ctx := some (h.ctx, h.gen)) (req := State.asker h (h.nctr % 2 ^ 32)) whole
      (by rw [State.gaOff_here, gaOff]; omega) ((State.gaSpace_here s a).trans space)
      (by rw [State.gaOff_here, taken.edMap rfl, here]) ((State.taken_stackUp taken k).trans up) (by rw [taken.stk k rfl, decided]) unheld
    have unstored : (u.outerWrite (s.here a) data (some (h.ctx, h.gen)) (State.asker h (h.nctr % 2 ^ 32))).ckSt h.part ≠ 2 := by
      have kept := State.outerWrite_kept (p1 := s.here a) (p2 := data) (p3 := some (h.ctx, h.gen)) (p4 := State.asker h (h.nctr % 2 ^ 32))
        (Msub.refl _) (.refl _ u)
      rwa [State.ckSt, kept.fld .ck, taken.fld .ck]
    exact ⟨_, run, by rw [State.commitLanded_idle unstored, stored]⟩
  case read =>
    intro s p n o h a k tag accepts r
    obtain ⟨u, run, booked, taken⟩ := accepts.takes rfl (c := .flitRdReq p n o h a k tag) rfl
    rw [State.deliver_rdReq, taken.here, taken.flitRights] at run
    refine ⟨_, u, run, booked, fun allowed => if_pos allowed, fun barred => ?_⟩
    rw [if_neg (by simp [barred])]
    exact ⟨rfl, State.answerReq_taken_mem taken _ _ _ _⟩
  case data =>
    intro s p n o h tag status data accepts
    obtain ⟨u, run, booked, taken⟩ := accepts.takes rfl (c := .flitRdRsp p n o h tag status data) rfl
    have awaited : u.outst = s.outst := taken.outst rfl
    have seqs : ∀ lc, u.seq lc = s.seq lc := fun lc => by rw [State.seq, taken.seqs, State.seq]
    have progs : ∀ slot, u.prog slot = s.prog slot := fun slot => by rw [State.prog, taken.progs, State.prog]
    refine ⟨_, u, run, booked, fun missing => State.rspRx_unasked (awaited ▸ missing), fun w g asked core good waits slot => ?_⟩
    subst good slot
    rw [← awaited] at asked
    have effect := State.rspRx_good (data := data) asked core (by rwa [seqs])
    rw [awaited, seqs, progs] at effect
    exact effect
  case signal =>
    intro s p n o h a v w accepts r
    obtain ⟨u, run, booked, taken⟩ := accepts.takes rfl (c := .flitSig p n o h a v w) rfl
    refine ⟨_, u, run, booked, fun aligned allowed => ⟨fun writes => ?_, fun adds x ok added => ?_⟩, fun refused => ?_⟩
    · subst writes
      rw [State.deliver_sig_write _ _ (by simp [taken.here, taken.flitRights, aligned, allowed]), taken.here]
      rfl
    · subst adds
      rw [← taken.here] at added
      exact State.deliver_sig_add _ _ (by simp [taken.here, taken.flitRights, aligned, allowed]) added
    · have barred : (sigAligned (u.here a) && u.flitRights h (u.here a) 8) = false := by
        rw [taken.here, taken.flitRights]
        exact Bool.and_eq_false_iff.mpr refused
      rw [State.deliver_sig_refused _ _ barred]
      exact ⟨rfl, State.answerReq_taken_mem taken _ _ _ _⟩
  case ack =>
    intro s p n o h tag status accepts
    obtain ⟨u, run, booked, taken⟩ := accepts.takes rfl (c := .flitAckE2e p n o h tag status) rfl
    have awaited : u.outst = s.outst := taken.outst rfl
    refine ⟨_, u, run, booked, fun missing => State.ackRx_unasked (awaited ▸ missing), fun w asked core => ?_⟩
    rw [← awaited] at asked ⊢
    exact State.ackRx_asked asked core
  case collData =>
    intro s p n o h c data accepts
    obtain ⟨u, run, booked, _⟩ := accepts.takes rfl (c := .flitCollData p n o h c data) rfl
    exact ⟨_, u, run, booked, rfl⟩
  case credit =>
    intro s p n o h tag rank k accepts
    obtain ⟨u, run, booked, _⟩ := accepts.takes rfl (c := .flitCollCredit p n o h tag rank k) rfl
    exact ⟨_, u, run, booked, rfl⟩
  case abort =>
    intro s p n o h x tag cause absent accepts runs part
    obtain ⟨u, run, booked, taken⟩ := accepts.takes rfl (c := .flitCollAbort p n o h tag cause absent) rfl
    exact ⟨_, u, run, booked, (State.deliver_collAbort u h tag cause absent).trans (if_pos (by simp [State.taken_coll taken, runs, part]))⟩
  case stale =>
    intro s p n o h tag cause absent accepts other
    obtain ⟨u, run, booked, taken⟩ := accepts.takes rfl (c := .flitCollAbort p n o h tag cause absent) rfl
    have gone : (u.coll tag).any (fun x => x.part == h.part) = false := by
      rw [State.taken_coll taken]
      cases found : s.coll tag with
      | none => rfl
      | some x => simpa using other x found
    rw [State.deliver_collAbort, if_neg (Bool.eq_false_iff.mp gone)] at run
    exact ⟨u, run, booked⟩
  case mgmt =>
    intro s p n o h m accepts
    obtain ⟨u, run, booked, _⟩ := accepts.takes rfl (c := .flitMgmt p n o h m) rfl
    exact ⟨_, u, run, booked, rfl⟩
  case resume =>
    intro s p n o h b q reply accepts
    obtain ⟨u, run, booked, _⟩ := accepts.takes rfl (c := .flitResume p n o h b q reply) rfl
    exact ⟨_, u, run, booked, rfl⟩
  case resumed =>
    intro s p n o h b q reply e accepts held down peer first small other unsent
    let f := Flit.seen { h := h, p := .resume b q reply } o
    have record : (s.taken p n f).bundle e = s.bundle e := s.taken_bundle_ne f other
    have found := State.find_resumed (s := s.taken p n f) small (record ▸ held) ((s.taken_bndPeer p n f e).trans peer)
      (fun x lower => (s.taken_bndPeer p n f x).symm ▸ first x lower)
    obtain ⟨unacked, sent, count⟩ := State.resumeRx_down (q := q) found ((s.taken_bndUp p n f e).trans down) ((congrArg _ record).trans unsent)
    rw [s.taken_bnd p n f _ e (by decide) (by decide) (by decide)] at count
    exact ⟨_, exec_flit rfl (accepts.rxFlit rfl), unacked, sent, count⟩

end Sys2Proof.Machine
end
